-- ==== Sys2Proof/Word.lean ====
section
/-! DEFINITION. The words of the machine: bytes, registers, the access codes of R11, the origins of R558 and the
keyed lists that hold sparse data. -/

namespace Sys2Proof

/-- A byte of a table, a queue entry or a memory. -/
abbrev Byte := BitVec 8

/-- A register of a page (R613). -/
abbrev Word := BitVec 32

/-- The access codes of R11. -/
inductive Acc
  | ro | rw | w1c | wo | rwe | rwb | rws
  deriving DecidableEq, Repr

/-- The origins of R558, with `none` of R460 for what no access caused. -/
inductive Origin
  | hardware | operator | owner | service | firmware
  deriving DecidableEq, Repr

/-- The ORIGIN field of R460. -/
def Origin.code : Origin → Nat
  | .hardware => 0 | .operator => 1 | .owner => 2 | .service => 3 | .firmware => 4

/-- Sparse data by key: keys strictly rising, no entry equal to what an unlisted key reads as. -/
abbrev KMap (α : Type) := List (Nat × α)

end Sys2Proof
end

