-- ==== Sys2Proof/Syntax.lean ====
section
/-! DEFINITION. The commands and events of spec/opcode_table.json, one constructor per row, with their operands.
What comes from outside the block (a written value, a message, a measurement, host memory) and what the
hardware meets by chance (a fault found) stand as operands (log entry 2). -/

namespace Sys2Proof

/-- What the pins of a channel bring from one sample to the next (R250, R252): the levels of A and B after each edge, the samples of SIN
and COS, and the ns since the first SCLK edge of the last valid serial word. -/
structure ChanIn where
  ab : List (Bool × Bool) := []
  sc : List (BitVec 14 × BitVec 14) := []
  sinceNs : Nat := 0
  deriving DecidableEq, Repr

/-- A position sample: what the pins of the four channels have brought since the one before. -/
structure Sample where
  c0 : ChanIn := {}
  c1 : ChanIn := {}
  c2 : ChanIn := {}
  c3 : ChanIn := {}
  deriving DecidableEq, Repr

/-- How a read of a protected structure ends (R339, R349). -/
inductive ReadFault
  | ok | crc | tag | ue
  deriving DecidableEq, Repr

/-- An SRAM error met in a step: the line, its 64-bit word, and whether it is uncorrectable (R367). -/
structure SramErr where
  line : Nat
  word : Nat
  ue : Bool
  deriving DecidableEq, Repr

/-- A loss as it is detected: what the pins brought up to the onset sample, how long before the detection the last valid sample and the last
strobe lie in ps, and the largest |main − (aux + o)| over the 1 ms before the onset (R257, R258, R286). -/
structure Loss where
  onset : Sample
  agePs : Nat
  strobePs : Nat
  drift : Nat
  deriving DecidableEq, Repr

/-- How the runs of a tile that is formed again end (R132, R197): the first two agree, a third settles it, all three differ, or the
patch list cannot be read. -/
inductive Runs
  | agree | third | differ | unread
  deriving DecidableEq, Repr

/-- What the exit check of a row meets: the columns whose word fails its tag, and those whose tile cannot be formed again (R190,
R193). -/
structure ExitFaults where
  tags : List Nat := []
  unformed : List Nat := []
  deriving DecidableEq, Repr

/-- How a port's training ended: with both lanes, with the one lane named, or with none (R595). -/
inductive PortEnd
  | up | degraded (lane : Nat) | failed
  deriving DecidableEq, Repr

/-- The PCIe modes the host's end offers: 8.0, 16.0, 32.0 and 64.0 GT/s. -/
inductive LinkRate
  | g8 | g16 | g32 | g64
  deriving DecidableEq, Repr

/-- The PCIe widths the host's end offers. -/
inductive LinkWidth
  | x4 | x8 | x16
  deriving DecidableEq, Repr

/-- What the power-up sequence finds (R505): whether BEAM_OFF_N was low at any time, whether the always-on state was lost,
the trained rate of each stack and the physical ranks that fail training (R330), the bell word whose PENDING stands plus 1 and
the bell copies that fail (R381, R384), the keep copies that fail, a record as TYPE × 65,536 + INSTANCE (R537), a directory
whose copy 0 is one generation ahead (R538), the firmware slots that fail their check (R569), and the highest PCIe rate and
width of the host's end (R30). -/
structure BootFound where
  beamOffLow : Bool
  vbatLost : Bool
  rates : List Nat
  rankFails : List Nat
  pending : Nat
  bells : List (Nat × List (BitVec 64 × BitVec 8))
  keepBad : List (Nat × Nat)
  dirAhead : Bool
  slotBad : List Nat
  linkRate : LinkRate
  linkWidth : LinkWidth
  keepCut : Option (Nat × Nat × List Byte) := none
  deriving DecidableEq, Repr

/-- One row of spec/opcode_table.json each. -/
inductive Instr
  -- Host interface
  | sqTailDoorbell (q v : Nat)
  | cqHeadDoorbell (q v : Nat)
  | evqHeadDoorbell (v : Nat)
  | commandStart (q : Nat) (entry : List Nat) (ns : Nat)
  | cqCoalesceTimeout (q : Nat)
  | jobOpen (n : Nat)
  | keyLoad (n : Nat) (buf : Option (List Byte))
  | geomPush (n : Nat) (buf : Option (List Byte)) (reseal : Nat)
  | tableLoad (n : Nat) (buf : Option (List Byte))
  | stripeArm (n copies : Nat) (glitch : Option (Nat × Nat × Nat))
  | stripeArmResourcesFree (n : Nat)
  | stripeGo (n : Nat)
  | stripeTakesEffect (smp : Sample)
  | stripeAbort (n : Nat)
  | checkpoint (n : Nat)
  | resume (n : Nat) (smp : Sample) (reads : List Bool) (bad : List (Nat × Nat × Option Nat))
  | patchPass (n : Nat) (buf : Option (List Byte)) (listUe : Bool)
  | flush (n : Nat)
  | fence (n : Nat)
  | traceArm (n : Nat)
  | jobClose (n : Nat)
  -- Stream codec
  | cacheRead (ctx slot block given space : Nat) (fault : ReadFault)
  | codecDecodeEnd (ctx : Nat) (sram : List SramErr)
  | codecContextResume (ctx given space : Nat) (part : List Byte)
  | codecCompressDone (ctx : Nat) (unit : List Byte) (room : Nat) (ue : Option Nat) (sram : List SramErr)
  | codecFlush (ctx : Nat) (part : List Byte)
  -- Lantern and Penumbra
  | lanternWake
  | tileDone (pass id band col lane : Nat) (residue : Bool) (writeFails : Nat) (factorBad mapBad : Bool)
      (fogBad : Nat) (sram : List SramErr)
  | rerasterRequest (pass id band col : Nat) (runs : Runs) (residue : List Nat) (factorBad mapBad : Bool)
      (sram : List SramErr)
  | prepassStart
  | prepassComplete (lanes residueLanes residueUnits : List Nat) (sram : List SramErr)
  -- Shepherd, Tally and the field
  | fieldBandRead (band : Nat) (badCrc : List Nat) (badTag : List (Nat × Nat)) (ues : List Nat)
      (sram : List SramErr)
  | shareCycle (late : Bool) (ns : Nat) (badEntry badShare badPack : List Nat) (badWords : List (Nat × Nat))
      (sram : List SramErr) (fx : ExitFaults)
  | exitCheck (fx : ExitFaults)
  | strayAdd (o : Origin) (v : Nat)
  -- The Flock link
  | frameSend (lane : Nat) (slack : Option Nat) (lateNs : Nat)
  | rxStatus (msg : BitVec 64) (copyBad : Bool) (slack : Option Nat)
  | rxStatusTimeout (lane flash : Nat) (copyBad : Bool) (slack : Option Nat)
  | latch (msg : BitVec 64) (copyBad : Bool)
  | slotMiss (msg : BitVec 64)
  | echo (msg : BitVec 64)
  | sensor (msg : BitVec 64)
  | blankerCaps (msg : BitVec 64)
  | blankerEvent (msg : BitVec 64)
  | flinkReportLate (lane flash : Nat)
  | reportAgainRetry (lane flash : Nat)
  | returnLaneLockLost (q : Nat)
  | flinkSensorSilent (i : Nat)
  | laneBlockLock (lane : Nat) (order : Bool)
  | laneCapsDone (lane : Nat)
  | laneEyeMeasured (lane w h : Nat)
  | laneVerifyDone (lane : Nat) (ok : Bool)
  | flinkTrainFail (lane : Nat)
  | retrain (o : Origin) (v : Nat)
  | laneRetrainTurnaround (lane : Nat)
  | lpiEntry (lane : Nat)
  | laneEyeScan (lane w h : Nat)
  -- Drover and DEFL
  | flashFire (smp : Sample) (sincePs : Nat)
  | flashConfirm (flash : Nat)
  | droverOverspeed (smp : Sample) (inWindow : Bool)
  | positionLoss (ch cause : Nat) (l : Loss)
  | encFreeze (ch : Nat) (l : Loss)
  | encWordSilent (ch : Nat) (l : Loss)
  | encSerialWord (ch : Nat) (bits : List Bool) (l : Loss)
  | encZEdge (ch : Nat) (inp : ChanIn)
  | detect (o : Origin) (v : Nat)
  | detectDone (modes loopNs : List Nat)
  | stillEntry
  | stillExit (smp : Sample)
  | rewindGuard (smp : Sample)
  | rewindExit (smp : Sample)
  | deflSaturated
  | sysrefEdge (offBy : Nat)
  | sysrefAbsent (inWindow : Bool)
  | jesdPllUnlock (inWindow : Bool)
  | peerFault (o : Origin) (v : Nat) (inWindow : Bool)
  | zoneBoundary (smp : Sample)
  | deflOutputSample (smp : Sample) (vel : Int × Int) (inWindow : Bool)
  | jesdPllLock
  -- Stage profile
  | setpointFrame (jy jx : Int)
  | runupStart (smp : Sample)
  | runoutStart
  | runEnd (fits : List (Nat × List Byte))
  | turnaroundStart
  | moveEnd
  | move (o : Origin) (v : Nat)
  | limitWrite (o : Origin) (index v : Nat)
  -- Faults
  | containSettled (fx : List ExitFaults)
  | checkpointVerified (fail : Option (Bool × Nat))
  | beamOff
  | beamOffRelease
  | interlockLatchedClear (o : Origin) (v : Nat)
  | forceShade (o : Origin) (v : Nat)
  | deviceReset (o : Origin) (v : Nat)
  | pcieFundamentalReset
  | errlogHead (o : Origin) (v : Nat)
  | supplyExcursion (rail uv : Nat)
  | sysClockLoss
  | serdesPllUnlock (lanes : List Nat) (ports : List Nat)
  | sysWatchdog
  | sysStateParity (page : Nat)
  | hbmStackFault (stack : Nat)
  -- Power, clocks and heat
  | powerUp (f : BootFound)
  | mainRailsLost
  | powerReqDay (o : Origin)
  | powerReqDusk (o : Origin)
  | powerReqNight (o : Origin)
  | duskEntry
  | duskWake (cause : Nat) (us : Nat)
  | nightEntry
  | clockRequest (page ns : Nat)
  | clkIdleTimeout (page : Nat)
  | thermSample (raw : List (Option Int))
  | thermLevelRise (cls level : Nat)
  | thermLevelFall (cls level : Nat)
  | thermSensorFailed (i : Nat)
  | thermSensorRecovered (i : Nat)
  | thermAck (o : Origin) (v : Nat)
  | vbatLow
  | avsbusTransferEnd (ok : Bool)
  -- In-package memory
  | refreshDue (stack bank : Nat) (traffic : Bool)
  | nbrRefreshDue (stack bank row : Nat)
  | selfRefreshExit (stack : Nat)
  | patrolScrub (da : Nat) (ce ue recovered : Bool)
  | retire (o : Origin) (v : Nat)
  | migrationSegment (mismatches : Nat) (readUe : Option Nat)
  -- On-die memory
  | fill (o : Origin) (v : Nat)
  | fillDone (bad : List Nat)
  | fenceMoveDone
  | bellVote (found : List (Nat × List (BitVec 64 × BitVec 8))) (stuck : List (Nat × Nat))
  -- CRC engines
  | crcInit (o : Origin) (e : Nat)
  | crcStart (o : Origin) (e : Nat)
  | crcCheck (o : Origin) (e : Nat)
  | crcAbort (o : Origin) (e : Nat)
  | crcData (o : Origin) (e v : Nat)
  | crcJobDone (e : Nat) (data : List Byte) (ue : Bool)
  -- Keep and ageing
  | keepWrite (o : Origin) (fails : Nat)
  | keepRead (o : Origin)
  | keepDailyCheck (bad : List (Nat × Nat))
  | plannerHour (pathMin : List Nat) (eyes : List (Nat × Nat)) (resid : List Nat)
  | trendEntry (tjAvg : Nat)
  | rebase (o : Origin) (v : Nat)
  -- The Fold, the mailbox and the audit log
  | regWrite (page off v : Nat)
  | regRead (page off : Nat)
  | attest (nonce : List Byte)
  | certRead
  | fwStage (off : Nat) (chunk : List Byte)
  | fwCommit
  | fwSelect (slot : Nat)
  | rollbackSet (v : Nat)
  | debugChallenge
  | debugUnlock (sig : List Byte)
  | ownerSet (key : Nat) (sig : List Byte)
  | keysvcSet (key : Nat)
  | serviceKeySet (key : Nat)
  | tamperClear
  | extestWhileLocked
  | tamperInput (n : Nat)
  | auditSign
  | exportCmd (o : Origin) (v : Nat)
  | auditExportReady
  | exportAck (o : Origin) (v : Nat)
  | auditSignatureDone
  -- Time
  | step (o : Origin) (v : Nat)
  | secondsRollover
  | ptpSync (offset : Int) (delay : Nat) (errNs : Nat) (gm : Nat)
  | timeGmLost
  -- Ivdon links
  | hello (port : Nat) (pkt : BitVec 128)
  | level (port : Nat) (pkt : BitVec 128)
  | ivdonWake (port : Nat) (pkt : BitVec 128)
  | ready (port : Nat) (pkt : BitVec 128)
  | epoch (port : Nat) (pkt : BitVec 128)
  | contain (port : Nat) (pkt : BitVec 128)
  | alive (port : Nat) (pkt : BitVec 128)
  | mgmt (port : Nat) (pkt : BitVec 128)
  | groupReady
  | ivdonGroupLost (member : Nat)
  | ivdonPortDown (port : Nat)
  | ivdonPortTrained (port rate : Nat) (result : PortEnd) (nb nbPort : Nat)
  | ivdonPortRetry (port : Nat)
  | ivdonLevelRise
  | ivdonRetrain (o : Origin) (v : Nat)
  -- Board
  | gpioEvent (pin : Nat) (rising : Bool)
  | i3cStatus
  | i3cHottest
  | i3cWake (v : Nat)
  | i3cSupply
  -- Register pages
  | ctrlEnable (o : Origin) (page v : Nat)
  | ctrlDisable (o : Origin) (page v : Nat)
  | softReset (o : Origin) (page v : Nat)
  | errClear (o : Origin) (page v : Nat)
  | irqPendClear (o : Origin) (page v : Nat)
  | lock (o : Origin) (page v : Nat)
  | registerWrite (o : Origin) (addr v bytes : Nat)
  deriving DecidableEq, Repr

end Sys2Proof
end

