-- ==== Sys2Proof/Decode.lean ====
section
/-! DEFINITION. spec/opcode_table.json gives none of its rows a bit encoding, so no word spells a command. -/

namespace Sys2Proof

/-- The command a word spells: none, since no row of the table has bits (log entry 8). -/
def decodeTableWord (_nbits _w : Nat) : Option Instr := none

end Sys2Proof
end

