-- ==== Sys2Proof/Config.lean ====
section
/-! DEFINITION. What the spec leaves to the part or to standards outside it: uninterpreted functions with no
body, so that nothing can be proved of a value of them. -/

namespace Sys2Proof.Config

/-- A value the spec does not give; the counter of State makes each use a fresh one (log entry 3). -/
opaque freeValue : Nat → Nat
/-- WRITTEN of the keep's directory, by its generation (R534, R535; log entry 181). -/
opaque dirWritten : Nat → Nat
/-- A lane is still sending its newest frame: lane and flash index, at each use (R227, R234; log entry 163). -/
opaque lineBusy : Nat → Nat → Nat → Bool
/-- What the k-th test frame of a lane's training carries: flash index, stripe flash, stripe and codes by slot (R218; log entry 167). -/
opaque testFrame : Nat → Nat → Nat × Nat × Nat × (Nat → Nat)
/-- The place within a quadrant of 1,024 counts that the interpolation finds for two amplitudes (R250; log entry 170). -/
opaque encPhase : Nat → Nat → Nat
/-- The keystream of AES-256-GCM by key, nonce and byte (R338; log entry 5). -/
opaque gcmStream : Nat → List Byte → Nat → Byte
/-- The tag of AES-256-GCM over authenticated data and ciphertext (R338; log entry 5). -/
opaque gcmTag : Nat → List Byte → List Byte → List Byte → Nat
/-- One block encrypted by AES-256 (R343; log entry 5). -/
opaque aes256 : Nat → BitVec 128 → BitVec 128
/-- The true random source of the Fold (R567, R572). -/
opaque trueRandom : Nat → Nat
/-- SHA-384, named by R578; its definition is outside the spec (log entry 4). -/
opaque sha384 : List Byte → Nat
/-- AES-256-GCM opening: key, nonce, associated data, ciphertext, tag; `none` when the tag fails (R49, R566). -/
opaque gcmOpen : Nat → List Byte → List Byte → List Byte → List Byte → Option (List Byte)
/-- ECDSA P-384 verification: public key, message, signature (R565, R568, R572). -/
opaque ecdsaVerify : Nat → List Byte → List Byte → Bool
/-- ECDSA P-384 signature of a message by the identity key, r then s (R563). -/
opaque ecdsaSign : List Byte → Nat
/-- EPH_PUB is a point of P-384 other than the identity (R566 step 4). -/
opaque onCurve : List Byte → Bool
/-- KEK (32 bytes) and nonce (12 bytes) of R566 steps 5 and 6, from EPH_PUB and the info bytes. -/
opaque unwrapKek : List Byte → List Byte → Nat × List Byte
/-- The identity certificate of R563. -/
opaque certificate : List Byte
/-- The agreement public key of R564. -/
opaque agreePub : List Byte
/-- The firmware key of R568. -/
opaque firmwareKey : Nat
/-- The part's test set-point of VDD_CORE, 0.70 to 0.76 V (R648), mV. -/
opaque testSetPoint : Nat
/-- Sixteenths of a year in the time of n / d powered hours: the length of the year and the rounding are not given (R550). -/
opaque yearSixteenths : Nat → Nat → Nat

end Sys2Proof.Config
end

