-- ==== Sys2Proof/Machine/Bits.lean ====
section
/-! DEFINITION. Fields, byte order, keyed lists, the rounding of R111, the coverage of bits by CRC (R213, R393,
R394). -/

namespace Sys2Proof.Machine

/-- Field [hi:lo] of a number. -/
def fieldOf (v hi lo : Nat) : Nat := (v >>> lo) % 2 ^ (hi + 1 - lo)

/-- v with field [hi:lo] replaced by the low bits of x. -/
def withField (v hi lo x : Nat) : Nat :=
  v - (fieldOf v hi lo) * 2 ^ lo + (x % 2 ^ (hi + 1 - lo)) * 2 ^ lo

/-- Two's complement reading of an n-bit number. -/
def signedOf (n v : Nat) : Int := if 2 * (v % 2 ^ n) < 2 ^ n then (v % 2 ^ n : Nat) else ((v % 2 ^ n : Nat) : Int) - 2 ^ n

/-- The low n bits of an integer. -/
def lowBits (n : Nat) (v : Int) : Nat := (v % (2 ^ n : Int)).toNat

/-- Little-endian value of bytes (R10). -/
def leNat : List Byte → Nat
  | [] => 0
  | b :: bs => b.toNat + 256 * leNat bs

/-- n little-endian bytes of a value (R10). -/
def leBytes : Nat → Nat → List Byte
  | 0, _ => []
  | n + 1, v => BitVec.ofNat 8 v :: leBytes n (v / 256)

/-- n bytes at offset o as a little-endian value; bytes past the end read 0. -/
def leAt (bs : List Byte) (o n : Nat) : Nat := leNat ((bs.drop o).take n)

/-- Rounding division to nearest, ties to even (R111). -/
def rhe (x y : Int) : Int :=
  let q := x.fdiv y
  let r := x - q * y
  if 2 * r > y ∨ (2 * r = y ∧ q % 2 = 1) then q + 1 else q

/-- Division rounding up (R15). -/
def ceilDiv (a b : Nat) : Nat := (a + b - 1) / b

/-- Insertion by a key in rising order. -/
def insBy {α : Type} (k : α → Nat) (x : α) : List α → List α
  | [] => [x]
  | y :: ys => if k x ≤ k y then x :: y :: ys else y :: insBy k x ys

/-- A list in rising order of a key. -/
def sortBy {α : Type} (k : α → Nat) (l : List α) : List α := l.foldl (fun a x => insBy k x a) []

/-- What key k reads as, `d k` where it is not listed. -/
def kget {α : Type} (d : Nat → α) : KMap α → Nat → α
  | [], k => d k
  | (k', v) :: m, k => if k' = k then v else kget d m k

/-- The value listed at key k, if any. -/
def kget? {α : Type} : KMap α → Nat → Option α
  | [], _ => none
  | (k', v) :: m, k => if k' = k then some v else kget? m k

/-- The list without key k. -/
def kdel {α : Type} : KMap α → Nat → KMap α
  | [], _ => []
  | (k', v) :: m, k => if k' = k then kdel m k else (k', v) :: kdel m k

/-- Key k listed with v, in rising order of keys. -/
def kput {α : Type} : KMap α → Nat → α → KMap α
  | [], k, v => [(k, v)]
  | (k', v') :: m, k, v =>
    if k < k' then (k, v) :: (k', v') :: m else if k = k' then (k, v) :: m else (k', v') :: kput m k v

/-- A write that keeps the canonical form: a value that equals what an unlisted key reads as is not listed. -/
def kset {α : Type} [DecidableEq α] (d : Nat → α) (m : KMap α) (k : Nat) (v : α) : KMap α :=
  if v = d k then kdel m k else kput m k v

/-- The canonical form of a keyed list: keys strictly rising, above `lo`, and no entry equal to its default. -/
def kwfFrom {α : Type} [DecidableEq α] (d : Nat → α) : Option Nat → KMap α → Bool
  | _, [] => true
  | lo, (k, v) :: m => (match lo with | none => true | some l => decide (l < k)) && decide (v ≠ d k) && kwfFrom d (some k) m

/-- The canonical form. -/
def kwf {α : Type} [DecidableEq α] (d : Nat → α) (m : KMap α) : Bool := kwfFrom d none m

/-- One bit into a reflected CRC register of polynomial p (R393, R394). -/
def crcStepR (w p v : Nat) (bit : Bool) : Nat :=
  let fb := (v % 2 == 1) != bit
  let s := (v % 2 ^ w) / 2
  if fb then Nat.xor s p else s

/-- One bit into a plain CRC register of polynomial p. -/
def crcStepN (w p v : Nat) (bit : Bool) : Nat :=
  let fb := ((v >>> (w - 1)) % 2 == 1) != bit
  let s := (2 * v) % 2 ^ w
  if fb then Nat.xor s p else s

/-- The bits of a byte, bit 0 first. -/
def bitsLsb (b : Byte) : List Bool := (List.range 8).map (fun i => b.getLsbD i)

/-- An algorithm of R393: width, register polynomial, init, reflected, final XOR. For a reflected algorithm the
polynomial is in reflected form. -/
structure CrcAlg where
  width : Nat
  poly : Nat
  init : Nat
  reflect : Bool
  final : Nat
  deriving DecidableEq, Repr

/-- CRC-32C (R393). -/
def crc32c : CrcAlg := ⟨32, 0x82F63B78, 0xFFFFFFFF, true, 0xFFFFFFFF⟩
/-- CRC-32/ISO-HDLC (R393). -/
def crc32iso : CrcAlg := ⟨32, 0xEDB88320, 0xFFFFFFFF, true, 0xFFFFFFFF⟩
/-- CRC-64/XZ (R393). -/
def crc64xz : CrcAlg := ⟨64, 0xC96C5795D7870F42, 0xFFFFFFFFFFFFFFFF, true, 0xFFFFFFFFFFFFFFFF⟩
/-- CRC-16/IBM-3740 (R393). -/
def crc16ibm : CrcAlg := ⟨16, 0x1021, 0xFFFF, false, 0⟩
/-- CRC-8 of R213. -/
def crc8msg : CrcAlg := ⟨8, 0x2F, 0xFF, false, 0xFF⟩

/-- The algorithm an engine's CFG.ALG names (R412). -/
def crcAlg : Nat → CrcAlg
  | 0 => crc32c | 1 => crc32iso | 2 => crc64xz | _ => crc16ibm

/-- One bit into the register. -/
def CrcAlg.bit (a : CrcAlg) (v : Nat) (b : Bool) : Nat :=
  if a.reflect then crcStepR a.width a.poly v b else crcStepN a.width a.poly v b

/-- One byte into the register, bit 0 first where reflected, bit 7 first where not (R394). -/
def CrcAlg.byte (a : CrcAlg) (v : Nat) (b : Byte) : Nat :=
  ((if a.reflect then bitsLsb b else (bitsLsb b).reverse)).foldl a.bit v

/-- Bytes into the register, in ascending order. -/
def CrcAlg.feed (a : CrcAlg) (v : Nat) (bs : List Byte) : Nat := bs.foldl a.byte v

/-- The CRC of a byte string. -/
def CrcAlg.crc (a : CrcAlg) (bs : List Byte) : Nat := Nat.xor (a.feed a.init bs) a.final

/-- CRC-32C of a byte string, the CRC of most structures of the part. -/
def crcC (bs : List Byte) : Nat := crc32c.crc bs

/-- Big-endian bytes of a value, n of them. -/
def beBytes (n v : Nat) : List Byte := (leBytes n v).reverse

/-- The tag of R123 and R184: the low 6 bits of the CRC-32C over the stripe, the place and the untagged word. -/
def tagOf (id col row word : Nat) : Nat :=
  crcC (leBytes 4 id ++ leBytes 2 col ++ leBytes 4 row ++ leBytes 2 word) % 64

/-- A pixel word of a dose (R122). -/
def pixelWord (id col row dose : Nat) : BitVec 16 :=
  BitVec.ofNat 16 (tagOf id col row (dose % 1024) * 1024 + dose % 1024)

/-- A Tally word of a remainder and a mark (R184). -/
def tallyWord (id col row rem mark : Nat) : BitVec 16 :=
  BitVec.ofNat 16 (tagOf id col row (rem % 1024 + mark * 1024) * 1024 + rem % 1024)

/-- The state of a Tally word (R185): its remainder and mark, or `none` when no mark matches. -/
def readTallyWord (id col row : Nat) (w : BitVec 16) : Option (Nat × Nat) :=
  let rem := w.toNat % 1024
  let tag := w.toNat / 1024
  if tagOf id col row rem = tag then some (rem, 0)
  else if tagOf id col row (rem + 1024) = tag ∧ rem > 0 then some (rem, 1)
  else if tagOf id col row (rem + 2048) = tag ∧ rem = 0 then some (rem, 2)
  else if tagOf id col row (rem + 3072) = tag ∧ rem = 0 then some (rem, 3)
  else none

/-- Number of set bits. -/
def popcount (fuel v : Nat) : Nat :=
  match fuel with
  | 0 => 0
  | f + 1 => v % 2 + popcount f (v / 2)

/-- Saturating addition. -/
def satAdd (max a b : Nat) : Nat := min max (a + b)

/-- Integer square root by bisection on bits. -/
def isqrt : Nat → Nat → Nat → Nat
  | 0, _, r => r
  | b + 1, n, r => let t := r + 2 ^ b; if t * t ≤ n then isqrt b n t else isqrt b n r

end Sys2Proof.Machine
end

