-- ==== Sys2Proof/Machine/Codes.lean ====
section
/-! DEFINITION. The codes 0xPPCC of the chapters' code tables (R627), by name. -/

namespace Sys2Proof.Machine.Code

abbrev PSIPO_ENV_CRC : Nat := 0x0760
abbrev PSIPO_ENV_TAG : Nat := 0x0761
abbrev PSIPO_ENV_MAGIC : Nat := 0x0762
abbrev PSIPO_ENV_VERSION : Nat := 0x0763
abbrev PSIPO_ENV_KIND : Nat := 0x0764
abbrev PSIPO_ENV_LENGTH : Nat := 0x0765
abbrev PSIPO_JOB_UNKNOWN : Nat := 0x0766
abbrev PSIPO_BLOCK_RANGE : Nat := 0x0767
abbrev PSIPO_BLOCK_CONFLICT : Nat := 0x0768
abbrev PSIPO_KEY_ABSENT : Nat := 0x0769
abbrev PSIPO_HEADER_FORM : Nat := 0x076A
abbrev PSIPO_FORMAT_LEVEL : Nat := 0x076B
abbrev PSIPO_BLOCK_UNRECOVERABLE : Nat := 0x076C
abbrev PSIPO_DUPLICATE : Nat := 0x076D
abbrev PSIPO_HEADER_FIRST : Nat := 0x076E
abbrev PSIPO_TYPE_UNKNOWN : Nat := 0x0960
abbrev PSIPO_FLAGS : Nat := 0x0961
abbrev PSIPO_LENGTH : Nat := 0x0962
abbrev PSIPO_TRUNCATED : Nat := 0x0963
abbrev PSIPO_STATE_UNSET : Nat := 0x0964
abbrev PSIPO_COORD_RANGE : Nat := 0x0965
abbrev PSIPO_TRAP_ORDER : Nat := 0x0966
abbrev PSIPO_POLY_COUNT : Nat := 0x0967
abbrev PSIPO_SEGMENT_COUNT : Nat := 0x0968
abbrev PSIPO_SEGMENT_TYPE : Nat := 0x0969
abbrev PSIPO_ARRAY_SIZE : Nat := 0x096A
abbrev PSIPO_ARRAY_MEMBER : Nat := 0x096B
abbrev PSIPO_TILE_ORDER : Nat := 0x096C
abbrev PSIPO_TILE_RANGE : Nat := 0x096D
abbrev PSIPO_TILE_CLASSES : Nat := 0x096E
abbrev PSIPO_TILE_EDGES : Nat := 0x096F
abbrev PSIPO_CLASS_UNDECLARED : Nat := 0x0970
abbrev PSIPO_STRIPE_FORM : Nat := 0x0971
abbrev PSIPO_STRIPE_COUNT : Nat := 0x0972
abbrev PSIPO_CONT : Nat := 0x0973
abbrev PSIPO_RESERVED : Nat := 0x0974
abbrev PSIPO_BAND_SPAN : Nat := 0x0975
abbrev CODEC_CFG_WINDOW : Nat := 0x0801
abbrev CODEC_CFG_EFFORT : Nat := 0x0802
abbrev CODEC_SRAM_UNFILLED : Nat := 0x0803
abbrev CODEC_HDR_MAGIC : Nat := 0x0840
abbrev CODEC_HDR_VERSION : Nat := 0x0841
abbrev CODEC_BLOCK_TYPE : Nat := 0x0842
abbrev CODEC_STORED_LEN : Nat := 0x0843
abbrev CODEC_TABLE_COUNT : Nat := 0x0844
abbrev CODEC_TABLE_OVERSUB : Nat := 0x0845
abbrev CODEC_TABLE_INCOMPLETE : Nat := 0x0846
abbrev CODEC_REPEAT_NO_PREV : Nat := 0x0847
abbrev CODEC_REPEAT_OVERRUN : Nat := 0x0848
abbrev CODEC_NO_END : Nat := 0x0849
abbrev CODEC_RESERVED_SYMBOL : Nat := 0x084A
abbrev CODEC_CODE_UNUSED : Nat := 0x084B
abbrev CODEC_DIST_ABSENT : Nat := 0x084C
abbrev CODEC_DIST_FAR : Nat := 0x084D
abbrev CODEC_OVERRUN : Nat := 0x084E
abbrev CODEC_TRUNCATED : Nat := 0x084F
abbrev CODEC_PAD_BITS : Nat := 0x0850
abbrev CODEC_TRAILING : Nat := 0x0851
abbrev CODEC_LENGTH : Nat := 0x0852
abbrev CODEC_CRC : Nat := 0x0853
abbrev CODEC_VERIFY_MISMATCH : Nat := 0x0854
abbrev LANTERN_TOL_RANGE : Nat := 0x0901
abbrev LANTERN_LEAD_RANGE : Nat := 0x0902
abbrev LANTERN_DENSITY_SHARE : Nat := 0x0903
abbrev LANTERN_SRAM_UNFILLED : Nat := 0x0904
abbrev LANTERN_LANES_FEW : Nat := 0x0905
abbrev LANTERN_CURVE_FLAT : Nat := 0x0940
abbrev LANTERN_RESIDUE : Nat := 0x0941
abbrev LANTERN_LANE_RETIRED : Nat := 0x0942
abbrev LANTERN_RERASTER_DISAGREE : Nat := 0x0943
abbrev LANTERN_TILE_WRITE : Nat := 0x0944
abbrev LANTERN_FIELD_LATE : Nat := 0x0945
abbrev PENUMBRA_SRAM_UNFILLED : Nat := 0x0A01
abbrev PENUMBRA_UNITS_FEW : Nat := 0x0A02
abbrev PENUMBRA_TABLE_FORM : Nat := 0x0A40
abbrev PENUMBRA_TABLE_LOCKED : Nat := 0x0A41
abbrev PENUMBRA_TABLES_INCOMPLETE : Nat := 0x0A42
abbrev PENUMBRA_KERNEL_SUM : Nat := 0x0A43
abbrev PENUMBRA_NEIGHBOUR_GRID : Nat := 0x0A44
abbrev PENUMBRA_FACTOR_CRC : Nat := 0x0A45
abbrev PENUMBRA_DENSITY_CRC : Nat := 0x0A46
abbrev PENUMBRA_RESIDUE : Nat := 0x0A47
abbrev PENUMBRA_UNIT_RETIRED : Nat := 0x0A48
abbrev PENUMBRA_DOSE_CLIPPED : Nat := 0x0A49
abbrev SHEPHERD_REMAP_ABSENT : Nat := 0x0C01
abbrev SHEPHERD_CODE_WIDTH : Nat := 0x0C02
abbrev SHEPHERD_PATTERN_EMPTY : Nat := 0x0C03
abbrev SHEPHERD_STRAY_LIMIT : Nat := 0x0C04
abbrev HURDLES_EXHAUSTED : Nat := 0x0C05
abbrev SHEPHERD_SRAM_UNFILLED : Nat := 0x0C06
abbrev SHEPHERD_STAGGER : Nat := 0x0C07
abbrev SHEPHERD_TABLE_FORM : Nat := 0x0C40
abbrev SHEPHERD_TABLE_BUSY : Nat := 0x0C41
abbrev SHEPHERD_TAG_FAULT : Nat := 0x0C42
abbrev SHEPHERD_CYCLE_OVERRUN : Nat := 0x0C43
abbrev SHEPHERD_STRAYS_OVER : Nat := 0x0C44
abbrev TALLY_SRAM_UNFILLED : Nat := 0x0D01
abbrev TALLY_RESIDUE : Nat := 0x0D40
abbrev TALLY_ENTRY_TAG : Nat := 0x0D41
abbrev TALLY_EXIT_TAG : Nat := 0x0D42
abbrev TALLY_DEFICIT_FULL : Nat := 0x0D43
abbrev TALLY_PATCH_FORM : Nat := 0x0D44
abbrev TALLY_PATCH_LIMIT : Nat := 0x0D45
abbrev FLINK_LANES_DOWN : Nat := 0x1101
abbrev FLINK_LEAD_RANGE : Nat := 0x1102
abbrev FLINK_REPLAY_DEPTH : Nat := 0x1103
abbrev FLINK_DEADLINE : Nat := 0x1104
abbrev FLINK_BANK_RANGE : Nat := 0x1105
abbrev FLINK_RATE_NONE : Nat := 0x1106
abbrev FLINK_NAK : Nat := 0x1140
abbrev FLINK_MISSED : Nat := 0x1141
abbrev FLINK_WITHHELD : Nat := 0x1142
abbrev FLINK_REPORT_LATE : Nat := 0x1143
abbrev FLINK_LANE_DOWN : Nat := 0x1144
abbrev FLINK_MSG_CHECK : Nat := 0x1145
abbrev FLINK_BEAM_FAULT : Nat := 0x1146
abbrev FLINK_BEAM_UNSHADEABLE : Nat := 0x1147
abbrev FLINK_CUT : Nat := 0x1148
abbrev FLINK_FLASH_SLIP : Nat := 0x1149
abbrev FLINK_SENSOR_SILENT : Nat := 0x114A
abbrev FLINK_LANE_ORDER : Nat := 0x114B
abbrev FLINK_TRAIN_FAIL : Nat := 0x114C
abbrev FLINK_RATE_DOWN : Nat := 0x114D
abbrev FLINK_REPORT_CONFLICT : Nat := 0x114E
abbrev FLINK_LANE_CAPS : Nat := 0x114F
abbrev MIRROR_ECHO_ABSENT : Nat := 0x1201
abbrev MIRROR_MISMATCH : Nat := 0x1240
abbrev DROVER_MODE_UNCONFIRMED : Nat := 0x0E01
abbrev DROVER_BAND_RANGE : Nat := 0x0E02
abbrev DROVER_CONFIRM_LATE : Nat := 0x0E03
abbrev DROVER_DOSE_WINDOW : Nat := 0x0E04
abbrev DROVER_SOURCE : Nat := 0x0E05
abbrev DROVER_RATE_RANGE : Nat := 0x0E06
abbrev DROVER_ZONE_COUNT : Nat := 0x0E07
abbrev DROVER_WORD_SHORT : Nat := 0x0E08
abbrev DROVER_ENC_SCALE : Nat := 0x0E09
abbrev DROVER_TABLE_FORM : Nat := 0x0E40
abbrev DROVER_START_PAST : Nat := 0x0E41
abbrev DROVER_POS_LOSS : Nat := 0x0E42
abbrev DROVER_AUX_TAKEOVER : Nat := 0x0E43
abbrev DROVER_FREEZE_CUT : Nat := 0x0E44
abbrev DROVER_OVERSPEED : Nat := 0x0E45
abbrev DROVER_REWIND : Nat := 0x0E46
abbrev DROVER_PACE : Nat := 0x0E47
abbrev DROVER_NO_REFERENCE : Nat := 0x0E48
abbrev DEFL_SCALE_RANGE : Nat := 0x1001
abbrev DEFL_JESD_CFG : Nat := 0x1002
abbrev DEFL_LINK_DOWN : Nat := 0x1003
abbrev DEFL_TABLE_FORM : Nat := 0x1040
abbrev DEFL_TABLE_BUSY : Nat := 0x1041
abbrev DEFL_SATURATED : Nat := 0x1042
abbrev DEFL_LINK_LOST : Nat := 0x1043
abbrev DEFL_SYSREF_SLIP : Nat := 0x1044
abbrev PROFILE_LIMIT_RANGE : Nat := 0x0F01
abbrev PROFILE_X_STEPDIR : Nat := 0x0F02
abbrev PROFILE_TABLE_FORM : Nat := 0x0F40
abbrev PROFILE_TABLE_LOCKED : Nat := 0x0F41
abbrev PROFILE_STRIPE_ABSENT : Nat := 0x0F42
abbrev PROFILE_WRITE_SPEED : Nat := 0x0F43
abbrev PROFILE_RUN_SHORT : Nat := 0x0F44
abbrev PROFILE_RUN_END : Nat := 0x0F45
abbrev PROFILE_LIMITED : Nat := 0x0F46
abbrev PROFILE_LIMIT_REFUSED : Nat := 0x0F47
abbrev PROFILE_MOVE_X_RUN : Nat := 0x0F48
abbrev HBM_RANKS_SHORT : Nat := 0x1601
abbrev HBM_NBR_RANGE : Nat := 0x1602
abbrev HBM_MIG_RATE : Nat := 0x1603
abbrev HBM_CE : Nat := 0x1640
abbrev HBM_UE : Nat := 0x1641
abbrev HBM_WRITE_PARITY : Nat := 0x1642
abbrev HBM_WRITE_FAIL : Nat := 0x1643
abbrev HBM_RANK_RETIRING : Nat := 0x1644
abbrev HBM_RANK_MIGRATED : Nat := 0x1645
abbrev HBM_MIGRATE_FAIL : Nat := 0x1646
abbrev HBM_NO_SPARE : Nat := 0x1647
abbrev HBM_POISON : Nat := 0x1648
abbrev HBM_CACHE_FULL : Nat := 0x1649
abbrev HBM_MAP_SPACE : Nat := 0x164A
abbrev HBM_DEFICIT_SPACE : Nat := 0x164B
abbrev HBM_COPIES_LOST : Nat := 0x164C
abbrev HBM_BLOCKS_RELEASED : Nat := 0x164D
abbrev HBM_STACK_FAULT : Nat := 0x164E
abbrev HBM_CACHE_CRC : Nat := 0x164F
abbrev HBM_CACHE_TAG : Nat := 0x1650
abbrev SRAM_RESERVE_RANGE : Nat := 0x1501
abbrev SRAM_CE : Nat := 0x1540
abbrev SRAM_UE : Nat := 0x1541
abbrev SRAM_HARD_FAULT : Nat := 0x1542
abbrev SRAM_HURDLE_SET : Nat := 0x1543
abbrev SRAM_FENCE_SET : Nat := 0x1544
abbrev SRAM_NO_REPAIR : Nat := 0x1545
abbrev SRAM_FILL_BUSY : Nat := 0x1546
abbrev SRAM_AUDIT_LINE_LOST : Nat := 0x1547
abbrev SRAM_HURDLE_FAULT : Nat := 0x1548
abbrev BELL_REWRITE : Nat := 0x1549
abbrev BELL_NO_MAJORITY : Nat := 0x154A
abbrev BELL_WRITE_FAIL : Nat := 0x154B
abbrev BELL_DOWN : Nat := 0x154C
abbrev CRC_MISMATCH : Nat := 0x1440
abbrev CRC_ENGINE_BUSY : Nat := 0x1441
abbrev CRC_SOURCE_RANGE : Nat := 0x1442
abbrev CRC_SOURCE_DENIED : Nat := 0x1443
abbrev CRC_SOURCE_UE : Nat := 0x1444
abbrev CRC_CHAIN_RESEAL : Nat := 0x1445
abbrev CRC_CHAIN_SHARE : Nat := 0x1446
abbrev CRC_CHAIN_PACK : Nat := 0x1447
abbrev CRC_CHAIN_REPLAY : Nat := 0x1448
abbrev HOST_NO_QUEUE : Nat := 0x0701
abbrev HOST_EVQ_ABSENT : Nat := 0x0702
abbrev HOST_OPCODE : Nat := 0x0740
abbrev HOST_ENTRY_FORM : Nat := 0x0741
abbrev HOST_SLOTS_FULL : Nat := 0x0742
abbrev HOST_JOB_ID_IN_USE : Nat := 0x0743
abbrev HOST_JOB_UNKNOWN : Nat := 0x0744
abbrev HOST_JOB_FAILED : Nat := 0x0745
abbrev HOST_JOB_BUSY : Nat := 0x0746
abbrev HOST_STRIPE_STATE : Nat := 0x0747
abbrev HOST_STRIPE_STAGGER : Nat := 0x0748
abbrev HOST_CLASS_NO_BASE : Nat := 0x0749
abbrev HOST_BLOCKS_MISSING : Nat := 0x074A
abbrev HOST_NOTHING_TO_ABORT : Nat := 0x074B
abbrev HOST_NOT_WRITING : Nat := 0x074C
abbrev HOST_DMA_FAULT : Nat := 0x074D
abbrev HOST_CHECKPOINT : Nat := 0x074E
abbrev HOST_DOORBELL_RANGE : Nat := 0x074F
abbrev HOST_QUEUE_BUSY : Nat := 0x0750
abbrev HOST_EVQ_OVERFLOW : Nat := 0x0751
abbrev HOST_KEY_LOADED : Nat := 0x0752
abbrev HOST_TABLE_ID : Nat := 0x0753
abbrev HOST_ACCEPT_LATE : Nat := 0x0754
abbrev SYS_BEAM_OFF : Nat := 0x0040
abbrev SYS_ERRLOG_LOW : Nat := 0x0041
abbrev SYS_ERRLOG_FULL : Nat := 0x0042
abbrev CKPT_WRITE_FAIL : Nat := 0x0043
abbrev CKPT_READ_FAIL : Nat := 0x0044
abbrev CKPT_LOST : Nat := 0x0045
abbrev CKPT_MODE_CHANGED : Nat := 0x0046
abbrev SYS_INTERLOCK_ACTIVE : Nat := 0x0047
abbrev SYS_THERMAL_HOLD : Nat := 0x0048
abbrev SYS_DEVICE_FATAL : Nat := 0x0049
abbrev SYS_SUPPLY : Nat := 0x004A
abbrev SYS_CLOCK_LOSS : Nat := 0x004B
abbrev SYS_WATCHDOG : Nat := 0x004C
abbrev SYS_STATE_PARITY : Nat := 0x004D
abbrev SYS_FIRMWARE : Nat := 0x004E
abbrev CLK_NIGHT_BUSY : Nat := 0x0140
abbrev CLK_START_LATE : Nat := 0x0141
abbrev CLK_WAKE_LATE : Nat := 0x0142
abbrev THERM_LEVEL_ORDER : Nat := 0x0201
abbrev THERM_GAIN_RANGE : Nat := 0x0202
abbrev THERM_MODE_RANGE : Nat := 0x0203
abbrev THERM_DIE_WARN : Nat := 0x0240
abbrev THERM_DIE_THROTTLE : Nat := 0x0241
abbrev THERM_DIE_SHUTDOWN : Nat := 0x0242
abbrev THERM_HEAD_WARN : Nat := 0x0243
abbrev THERM_HEAD_THROTTLE : Nat := 0x0244
abbrev THERM_HEAD_SHUTDOWN : Nat := 0x0245
abbrev THERM_MEM_WARN : Nat := 0x0246
abbrev THERM_MEM_THROTTLE : Nat := 0x0247
abbrev THERM_MEM_SHUTDOWN : Nat := 0x0248
abbrev THERM_SENSOR_FAILED : Nat := 0x0249
abbrev THERM_PAIR_FAILED : Nat := 0x024A
abbrev THERM_ACK_NOT_FAILED : Nat := 0x024B
abbrev KEEP_RECORD_DEFAULT : Nat := 0x0601
abbrev KEEP_COPY_BAD : Nat := 0x0640
abbrev KEEP_RECORD_LOST : Nat := 0x0641
abbrev KEEP_WRITE_FAIL : Nat := 0x0642
abbrev KEEP_DENIED : Nat := 0x0643
abbrev KEEP_FORM : Nat := 0x0644
abbrev KEEP_GEN_REPAIR : Nat := 0x0645
abbrev AGE_FLOOR_RANGE : Nat := 0x1B01
abbrev AGE_VOLT_STEP : Nat := 0x1B40
abbrev AGE_LANE_RATE : Nat := 0x1B41
abbrev AGE_REFRESH : Nat := 0x1B42
abbrev AGE_GUARD : Nat := 0x1B43
abbrev AGE_ACTION_DUE : Nat := 0x1B44
abbrev AGE_ACTIONS_SPENT : Nat := 0x1B45
abbrev AGE_MARGIN_LOW : Nat := 0x1B46
abbrev AUDIT_FULL : Nat := 0x0340
abbrev AUDIT_ACK_RANGE : Nat := 0x0341
abbrev AUDIT_PENDING : Nat := 0x0342
abbrev AUDIT_LOST : Nat := 0x0343
abbrev FOLD_WRAP_FORM : Nat := 0x0440
abbrev FOLD_WRAP_SIGNATURE : Nat := 0x0441
abbrev FOLD_WRAP_POINT : Nat := 0x0442
abbrev FOLD_WRAP_TAG : Nat := 0x0443
abbrev FOLD_NO_KEY_SERVICE : Nat := 0x0444
abbrev FOLD_DEBUG_OPEN : Nat := 0x0445
abbrev FOLD_TAMPER_HOLD : Nat := 0x0446
abbrev FOLD_TAMPER : Nat := 0x0447
abbrev FOLD_ROLE : Nat := 0x0448
abbrev FOLD_MB_FORM : Nat := 0x0449
abbrev FOLD_DEBUG_SIGNATURE : Nat := 0x044A
abbrev FOLD_FW_SIGNATURE : Nat := 0x044B
abbrev FOLD_FW_ROLLBACK : Nat := 0x044C
abbrev FOLD_FW_BUSY : Nat := 0x044D
abbrev FOLD_FW_BOOT_FALLBACK : Nat := 0x044E
abbrev TIME_PTP_CFG : Nat := 0x0501
abbrev TIME_STEP_USED : Nat := 0x0540
abbrev TIME_ADJ_RANGE : Nat := 0x0541
abbrev TIME_INCR_RANGE : Nat := 0x0542
abbrev TIME_OFFSET_LARGE : Nat := 0x0543
abbrev TIME_GM_LOST : Nat := 0x0544
abbrev TIME_UNSET : Nat := 0x0545
abbrev TIME_PTP_OWNS : Nat := 0x0546
abbrev IVDON_TOPOLOGY_CFG : Nat := 0x1301
abbrev IVDON_GROUP_CFG : Nat := 0x1302
abbrev IVDON_PORT_DOWN : Nat := 0x1340
abbrev IVDON_PORT_DEGRADED : Nat := 0x1341
abbrev IVDON_MSG_CRC : Nat := 0x1342
abbrev IVDON_DUP_DEVICE : Nat := 0x1343
abbrev IVDON_OBSERVER : Nat := 0x1344
abbrev IVDON_GROUP_CONTAIN : Nat := 0x1345
abbrev IVDON_GROUP_LOST : Nat := 0x1346
abbrev IVDON_LEVEL_DOWN : Nat := 0x1347
abbrev IVDON_RATE_DOWN : Nat := 0x1348
abbrev IVDON_FORMAT_ABOVE : Nat := 0x1349
abbrev FIELD_TILE_CRC : Nat := 0x0B40
abbrev FIELD_TILE_TAG : Nat := 0x0B41
abbrev GPIO_DIR_CLASH : Nat := 0x1C01
abbrev GPIO_PPS_RANGE : Nat := 0x1C02
/-- The common code 0xPP30 of page p (R628). -/
abbrev REG_PREREQ (p : Nat) : Nat := p * 0x100 + 0x30
/-- The common code 0xPP31 of page p (R628). -/
abbrev REG_CLOCK_HELD (p : Nat) : Nat := p * 0x100 + 0x31
/-- The common code 0xPPF0 of page p (R628). -/
abbrev REG_LOCKED_FIELD (p : Nat) : Nat := p * 0x100 + 0xF0
/-- The common code 0xPPF1 of page p (R628). -/
abbrev REG_VALUE_RANGE (p : Nat) : Nat := p * 0x100 + 0xF1
/-- The common code 0xPPF2 of page p (R628). -/
abbrev REG_STRIPE_ACTIVE (p : Nat) : Nat := p * 0x100 + 0xF2
/-- The common code 0xPPF3 of page p (R628). -/
abbrev REG_PREREQ_HELD (p : Nat) : Nat := p * 0x100 + 0xF3
/-- The common code 0xPPF4 of page p (R628). -/
abbrev REG_RESET_ENABLED (p : Nat) : Nat := p * 0x100 + 0xF4
/-- The common code 0xPPF5 of page p (R628). -/
abbrev REG_ACCESS_SIZE (p : Nat) : Nat := p * 0x100 + 0xF5
/-- The common code 0xPPF6 of page p (R628). -/
abbrev REG_DUSK (p : Nat) : Nat := p * 0x100 + 0xF6

end Sys2Proof.Machine.Code
end

