-- ==== Sys2Proof/Machine/RegTable.lean ====
section
/-! DEFINITION. The register map of R617 to R631 and of the chapters' register tables: one row per field of
one access code with its reset value (R11, R622), the register addresses by name, the groups of R13. -/

namespace Sys2Proof.Machine

/-- The address of a register is its page times 0x1000 plus its offset (R612). -/
abbrev RegAddr := Nat

namespace R
abbrev SYS_IDENT : RegAddr := 0x0100
abbrev SYS_STEPPING : RegAddr := 0x0104
abbrev SYS_DEVICE_NO : RegAddr := 0x0108
abbrev SYS_POWER_REQ : RegAddr := 0x010C
abbrev SYS_RESET_CAUSE : RegAddr := 0x0110
abbrev SYS_FW_SLOT : RegAddr := 0x0114
abbrev SYS_FORMAT_LEVEL : RegAddr := 0x0118
abbrev SYS_INTERLOCK : RegAddr := 0x011C
abbrev SYS_ERRLOG_HEAD : RegAddr := 0x0200
abbrev SYS_ERRLOG_TAIL : RegAddr := 0x0204
abbrev SYS_ERRLOG_FREE : RegAddr := 0x0208
abbrev SYS_ERRLOG_SEQ_L : RegAddr := 0x020C
abbrev SYS_ERRLOG_SEQ_H : RegAddr := 0x0210
abbrev SYS_COALESCED : RegAddr := 0x0214
abbrev SYS_ERRLOG_SEL : RegAddr := 0x0218
abbrev SYS_ERRLOG_REC0 : RegAddr := 0x0220
abbrev SYS_ERRLOG_REC1 : RegAddr := 0x0224
abbrev SYS_ERRLOG_REC2 : RegAddr := 0x0228
abbrev SYS_ERRLOG_REC3 : RegAddr := 0x022C
abbrev SYS_ERRLOG_REC4 : RegAddr := 0x0230
abbrev SYS_ERRLOG_REC5 : RegAddr := 0x0234
abbrev SYS_ERRLOG_REC6 : RegAddr := 0x0238
abbrev SYS_ERRLOG_REC7 : RegAddr := 0x023C
abbrev SYS_ERRLOG_REC8 : RegAddr := 0x0240
abbrev SYS_ERRLOG_REC9 : RegAddr := 0x0244
abbrev SYS_ERRLOG_REC10 : RegAddr := 0x0248
abbrev SYS_ERRLOG_REC11 : RegAddr := 0x024C
abbrev SYS_ERRLOG_REC12 : RegAddr := 0x0250
abbrev SYS_ERRLOG_REC13 : RegAddr := 0x0254
abbrev SYS_ERRLOG_REC14 : RegAddr := 0x0258
abbrev SYS_ERRLOG_REC15 : RegAddr := 0x025C
abbrev SYS_CKPT_STATE : RegAddr := 0x0260
abbrev SYS_CKPT_HELD : RegAddr := 0x0264
abbrev SYS_DEVICE_RESET : RegAddr := 0x0268
abbrev SYS_FATAL : RegAddr := 0x026C
abbrev CLK_REQ : RegAddr := 0x1100
abbrev CLK_ON : RegAddr := 0x1104
abbrev CLK_PREWARM : RegAddr := 0x1108
abbrev CLK_PLL_LOCK : RegAddr := 0x110C
abbrev CLK_CAPS : RegAddr := 0x1200
abbrev CLK_IDLE_DELAY : RegAddr := 0x1204
abbrev CLK_POWER_STATE : RegAddr := 0x1208
abbrev CLK_START_MAX : RegAddr := 0x120C
abbrev CLK_WAKE_MAX : RegAddr := 0x1210
abbrev CLK_DUSK_COUNT : RegAddr := 0x1214
abbrev CLK_DUSK_CANCELS : RegAddr := 0x1218
abbrev CLK_ALWAYS_ON : RegAddr := 0x121C
abbrev THERM_DIE_WARN : RegAddr := 0x2100
abbrev THERM_DIE_THROT : RegAddr := 0x2104
abbrev THERM_DIE_SHUT : RegAddr := 0x2108
abbrev THERM_HEAD_WARN : RegAddr := 0x2110
abbrev THERM_HEAD_THROT : RegAddr := 0x2114
abbrev THERM_HEAD_SHUT : RegAddr := 0x2118
abbrev THERM_MEM_WARN : RegAddr := 0x2120
abbrev THERM_MEM_THROT : RegAddr := 0x2124
abbrev THERM_MEM_SHUT : RegAddr := 0x2128
abbrev THERM_MODE : RegAddr := 0x2130
abbrev THERM_GAIN : RegAddr := 0x2134
abbrev THERM_FLOOR : RegAddr := 0x2138
abbrev THERM_HOTTEST : RegAddr := 0x213C
abbrev THERM_BAND : RegAddr := 0x2140
abbrev THERM_CAPS : RegAddr := 0x2200
abbrev THERM_SENSOR_SEL : RegAddr := 0x2204
abbrev THERM_SENSOR_VAL : RegAddr := 0x2208
abbrev THERM_SENSOR_RAW : RegAddr := 0x220C
abbrev THERM_FAILED0 : RegAddr := 0x2210
abbrev THERM_FAILED1 : RegAddr := 0x2214
abbrev THERM_FAILED2 : RegAddr := 0x2218
abbrev THERM_FAILED3 : RegAddr := 0x221C
abbrev THERM_FAILED4 : RegAddr := 0x2220
abbrev THERM_ACK : RegAddr := 0x2224
abbrev THERM_CEILING : RegAddr := 0x2228
abbrev THERM_REPEATS : RegAddr := 0x222C
abbrev THERM_EXT_CFG : RegAddr := 0x2230
abbrev THERM_DIE_BAND_THR : RegAddr := 0x2234
abbrev THERM_PAUSE : RegAddr := 0x2238
abbrev THERM_RELAX_HOLD : RegAddr := 0x223C
abbrev AUDIT_CAPS : RegAddr := 0x3200
abbrev AUDIT_FREE : RegAddr := 0x3204
abbrev AUDIT_HEAD_L : RegAddr := 0x3208
abbrev AUDIT_HEAD_H : RegAddr := 0x320C
abbrev AUDIT_EXPORTED_L : RegAddr := 0x3210
abbrev AUDIT_EXPORTED_H : RegAddr := 0x3214
abbrev AUDIT_SIGNED_L : RegAddr := 0x3218
abbrev AUDIT_SIGNED_H : RegAddr := 0x321C
abbrev AUDIT_EXPORT_CMD : RegAddr := 0x3220
abbrev AUDIT_EXPORT_STATE : RegAddr := 0x3224
abbrev AUDIT_EXPORT_LEN : RegAddr := 0x3228
abbrev AUDIT_EXPORT_LAST_L : RegAddr := 0x322C
abbrev AUDIT_EXPORT_LAST_H : RegAddr := 0x3230
abbrev AUDIT_EXPORT_ACK_L : RegAddr := 0x3234
abbrev AUDIT_EXPORT_ACK_H : RegAddr := 0x3238
abbrev AUDIT_WAITING : RegAddr := 0x323C
abbrev FOLD_CAPS : RegAddr := 0x4200
abbrev FOLD_STATE : RegAddr := 0x4204
abbrev FOLD_KEY_ID0 : RegAddr := 0x4208
abbrev FOLD_KEY_ID1 : RegAddr := 0x420C
abbrev FOLD_TAMPER_CFG : RegAddr := 0x4210
abbrev FOLD_TAMPER_SEEN : RegAddr := 0x4214
abbrev FOLD_ROLLBACK : RegAddr := 0x4218
abbrev FOLD_SVN_AB : RegAddr := 0x421C
abbrev TIME_SEC_L : RegAddr := 0x5100
abbrev TIME_SEC_H : RegAddr := 0x5104
abbrev TIME_NSEC : RegAddr := 0x5108
abbrev TIME_INCR : RegAddr := 0x510C
abbrev TIME_STEP : RegAddr := 0x5110
abbrev TIME_STEP_USED : RegAddr := 0x5114
abbrev TIME_ADJ : RegAddr := 0x5118
abbrev TIME_INCR_INT : RegAddr := 0x5200
abbrev TIME_STEP_OFS_L : RegAddr := 0x5204
abbrev TIME_STEP_OFS_H : RegAddr := 0x5208
abbrev TIME_PTP_CFG : RegAddr := 0x520C
abbrev TIME_PTP_STATE : RegAddr := 0x5210
abbrev TIME_OFFSET : RegAddr := 0x5214
abbrev TIME_PATH_DELAY : RegAddr := 0x5218
abbrev TIME_STEP_THRESH : RegAddr := 0x521C
abbrev TIME_GM_ID_L : RegAddr := 0x5220
abbrev TIME_GM_ID_H : RegAddr := 0x5224
abbrev TIME_TS_ERR_MAX : RegAddr := 0x5228
abbrev KEEP_CAPS : RegAddr := 0x6200
abbrev KEEP_SEL : RegAddr := 0x6204
abbrev KEEP_CMD : RegAddr := 0x6208
abbrev KEEP_CMD_STATE : RegAddr := 0x620C
abbrev KEEP_CFG : RegAddr := 0x6210
abbrev KEEP_DIR_GEN : RegAddr := 0x6214
abbrev KEEP_USED : RegAddr := 0x6218
abbrev KEEP_COPY_FAILS : RegAddr := 0x621C
abbrev KEEP_DEFAULTED : RegAddr := 0x6220
abbrev KEEP_PENDING : RegAddr := 0x6224
abbrev KEEP_CAL_DEFL : RegAddr := 0x6228
abbrev KEEP_ENC_RESID : RegAddr := 0x622C
abbrev HOST_CAPS : RegAddr := 0x7200
abbrev HOST_LINK : RegAddr := 0x7204
abbrev HOST_QSEL : RegAddr := 0x7208
abbrev HOST_Q_CTRL : RegAddr := 0x720C
abbrev HOST_SQ_BASE_L : RegAddr := 0x7210
abbrev HOST_SQ_BASE_H : RegAddr := 0x7214
abbrev HOST_CQ_BASE_L : RegAddr := 0x7218
abbrev HOST_CQ_BASE_H : RegAddr := 0x721C
abbrev HOST_Q_STATE : RegAddr := 0x7220
abbrev HOST_Q_COALESCE : RegAddr := 0x7224
abbrev HOST_EVQ_BASE_L : RegAddr := 0x7228
abbrev HOST_EVQ_BASE_H : RegAddr := 0x722C
abbrev HOST_EVQ_CTRL : RegAddr := 0x7230
abbrev HOST_EVQ_STATE : RegAddr := 0x7234
abbrev HOST_PAGE_IRQ_VECTOR : RegAddr := 0x7238
abbrev HOST_PAGE_IRQ_SUMMARY : RegAddr := 0x723C
abbrev HOST_SLOT_STATE : RegAddr := 0x7240
abbrev HOST_SLOT0_JOB : RegAddr := 0x7244
abbrev HOST_SLOT1_JOB : RegAddr := 0x7248
abbrev HOST_STRIPE_NOW : RegAddr := 0x724C
abbrev HOST_STRIPE_NEXT : RegAddr := 0x7250
abbrev HOST_STRIPE_STATE : RegAddr := 0x7254
abbrev HOST_REREQ_OUT : RegAddr := 0x7258
abbrev HOST_ACCEPT_MAX : RegAddr := 0x725C
abbrev HOST_INGEST_BYTES_L : RegAddr := 0x7260
abbrev HOST_INGEST_BYTES_H : RegAddr := 0x7264
abbrev HOST_WIN_SEL : RegAddr := 0x7268
abbrev HOST_WIN_STRIPE : RegAddr := 0x726C
abbrev HOST_WIN_OFFSET : RegAddr := 0x7270
abbrev HOST_WIN_LEN : RegAddr := 0x7274
abbrev HOST_DUPLICATES : RegAddr := 0x7278
abbrev CODEC_CAPS : RegAddr := 0x8200
abbrev CODEC_CFG : RegAddr := 0x8204
abbrev CODEC_CTX_SEL : RegAddr := 0x8208
abbrev CODEC_CTX_STATE : RegAddr := 0x820C
abbrev CODEC_CTX_IN_L : RegAddr := 0x8210
abbrev CODEC_CTX_IN_H : RegAddr := 0x8214
abbrev CODEC_CTX_OUT_L : RegAddr := 0x8218
abbrev CODEC_CTX_OUT_H : RegAddr := 0x821C
abbrev CODEC_CTX_ERR : RegAddr := 0x8220
abbrev CODEC_CTX_ERR_OFFSET : RegAddr := 0x8224
abbrev CODEC_CTX_MATCH : RegAddr := 0x8228
abbrev CODEC_CTX_BITS : RegAddr := 0x822C
abbrev CODEC_UNITS_DONE : RegAddr := 0x8240
abbrev CODEC_VERIFY_FAILS : RegAddr := 0x8244
abbrev CODEC_DECODE_ERRORS : RegAddr := 0x8248
abbrev LANTERN_CAPS : RegAddr := 0x9200
abbrev LANTERN_FLAT_TOL : RegAddr := 0x9204
abbrev LANTERN_JOB_TOL : RegAddr := 0x9208
abbrev LANTERN_LEAD_WAKE : RegAddr := 0x920C
abbrev LANTERN_LEAD_FULL : RegAddr := 0x9210
abbrev LANTERN_DENSITY_SHARE : RegAddr := 0x9214
abbrev LANTERN_FIELD_LEAD : RegAddr := 0x9218
abbrev LANTERN_STRIPE : RegAddr := 0x921C
abbrev LANTERN_BAND : RegAddr := 0x9220
abbrev LANTERN_LANE_MASK_L : RegAddr := 0x9224
abbrev LANTERN_LANE_MASK_H : RegAddr := 0x9228
abbrev LANTERN_TILES_DONE : RegAddr := 0x922C
abbrev LANTERN_RERASTER_REQ : RegAddr := 0x9230
abbrev LANTERN_RERASTER_DISAGREE : RegAddr := 0x9234
abbrev LANTERN_RESIDUE_ERRORS : RegAddr := 0x9238
abbrev LANTERN_BUSY : RegAddr := 0x923C
abbrev LANTERN_PREDICT_RATE : RegAddr := 0x9240
abbrev PENUMBRA_CAPS : RegAddr := 0xA200
abbrev PENUMBRA_SLOT_SEL : RegAddr := 0xA204
abbrev PENUMBRA_ETA : RegAddr := 0xA208
abbrev PENUMBRA_ITER : RegAddr := 0xA20C
abbrev PENUMBRA_RADII : RegAddr := 0xA210
abbrev PENUMBRA_FOG : RegAddr := 0xA214
abbrev PENUMBRA_PREPASS_STATE : RegAddr := 0xA218
abbrev PENUMBRA_PREPASS_STRIPE : RegAddr := 0xA21C
abbrev PENUMBRA_PREPASS_ROW : RegAddr := 0xA220
abbrev PENUMBRA_UNIT_MASK_L : RegAddr := 0xA224
abbrev PENUMBRA_UNIT_MASK_H : RegAddr := 0xA228
abbrev PENUMBRA_DOSE_CLIPS : RegAddr := 0xA22C
abbrev PENUMBRA_FACTOR_CLIPS : RegAddr := 0xA230
abbrev PENUMBRA_DENSITY_SATS : RegAddr := 0xA234
abbrev PENUMBRA_RECOMPUTES : RegAddr := 0xA238
abbrev PENUMBRA_RESIDUE_ERRORS : RegAddr := 0xA23C
abbrev PENUMBRA_PREPASS_WAITS : RegAddr := 0xA240
abbrev PENUMBRA_UNITS_IN : RegAddr := 0xA244
abbrev FIELD_CAPS : RegAddr := 0xB200
abbrev FIELD_RING_STATE : RegAddr := 0xB204
abbrev FIELD_RING_STRIPE_A : RegAddr := 0xB208
abbrev FIELD_RING_STRIPE_B : RegAddr := 0xB20C
abbrev FIELD_STAGING_LEAD : RegAddr := 0xB210
abbrev FIELD_STAGING_ROWS : RegAddr := 0xB214
abbrev FIELD_TILE_CRC_FAILS : RegAddr := 0xB218
abbrev FIELD_TAG_FAILS : RegAddr := 0xB21C
abbrev FIELD_REREAD : RegAddr := 0xB220
abbrev FIELD_LAST_FAIL : RegAddr := 0xB224
abbrev SHEPHERD_PASSERS : RegAddr := 0xC100
abbrev SHEPHERD_CODE_WIDTH : RegAddr := 0xC104
abbrev SHEPHERD_PATTERN_SEL : RegAddr := 0xC108
abbrev SHEPHERD_STRAY_COUNT : RegAddr := 0xC10C
abbrev SHEPHERD_STRAY_LIMIT : RegAddr := 0xC110
abbrev SHEPHERD_CAPS : RegAddr := 0xC200
abbrev SHEPHERD_MODE : RegAddr := 0xC204
abbrev SHEPHERD_STRAY_ADD : RegAddr := 0xC208
abbrev SHEPHERD_REMAP_CRC : RegAddr := 0xC20C
abbrev SHEPHERD_PATTERN_CRC : RegAddr := 0xC210
abbrev SHEPHERD_STRAY_CRC : RegAddr := 0xC214
abbrev SHEPHERD_CYCLE_NS : RegAddr := 0xC218
abbrev SHEPHERD_CARRIES : RegAddr := 0xC21C
abbrev SHEPHERD_LATE_CARRIES : RegAddr := 0xC220
abbrev SHEPHERD_TAG_FAULTS : RegAddr := 0xC224
abbrev SHEPHERD_RELIEVED_HALF : RegAddr := 0xC228
abbrev TALLY_ENTRY_ROW : RegAddr := 0xD100
abbrev TALLY_EXIT_ROW : RegAddr := 0xD104
abbrev TALLY_DEFICIT_COUNT : RegAddr := 0xD108
abbrev TALLY_DEFICIT_BASE : RegAddr := 0xD10C
abbrev TALLY_RESIDUE_FAULTS : RegAddr := 0xD110
abbrev TALLY_CAPS : RegAddr := 0xD200
abbrev TALLY_HOLD_DEPTH : RegAddr := 0xD204
abbrev TALLY_CHECK_STRIPE : RegAddr := 0xD208
abbrev TALLY_CNT_A : RegAddr := 0xD20C
abbrev TALLY_CNT_B : RegAddr := 0xD210
abbrev TALLY_CNT_C : RegAddr := 0xD214
abbrev TALLY_ENTRY_TAGS : RegAddr := 0xD218
abbrev DROVER_SOURCE : RegAddr := 0xE100
abbrev DROVER_GEAR_ORIGIN_L : RegAddr := 0xE104
abbrev DROVER_GEAR_ORIGIN_H : RegAddr := 0xE108
abbrev DROVER_GEAR_RATIO_L : RegAddr := 0xE10C
abbrev DROVER_GEAR_RATIO_H : RegAddr := 0xE110
abbrev DROVER_BAND : RegAddr := 0xE114
abbrev DROVER_STANDSTILL : RegAddr := 0xE118
abbrev DROVER_LOSS_TIME : RegAddr := 0xE11C
abbrev DROVER_FLASH_L : RegAddr := 0xE120
abbrev DROVER_FLASH_H : RegAddr := 0xE124
abbrev DROVER_MAX_RATE : RegAddr := 0xE128
abbrev DROVER_ZONE_CTRL : RegAddr := 0xE12C
abbrev DROVER_CAPS : RegAddr := 0xE200
abbrev DROVER_STATE : RegAddr := 0xE204
abbrev DROVER_GEAR_TRIM : RegAddr := 0xE208
abbrev DROVER_DOSE_WINDOW : RegAddr := 0xE20C
abbrev DROVER_STILL_TIME : RegAddr := 0xE210
abbrev DROVER_STB_DELAY0 : RegAddr := 0xE214
abbrev DROVER_STB_DELAY1 : RegAddr := 0xE218
abbrev DROVER_DEMAND : RegAddr := 0xE21C
abbrev DROVER_RATE_NOW : RegAddr := 0xE220
abbrev DROVER_RATE_LIM : RegAddr := 0xE224
abbrev DROVER_PACE : RegAddr := 0xE228
abbrev DROVER_ENC_SEL : RegAddr := 0xE22C
abbrev DROVER_ENC_MODE : RegAddr := 0xE230
abbrev DROVER_ENC_DETECT : RegAddr := 0xE234
abbrev DROVER_ENC_SCALE : RegAddr := 0xE238
abbrev DROVER_ENC_WORD : RegAddr := 0xE23C
abbrev DROVER_ENC_LOS : RegAddr := 0xE240
abbrev DROVER_ENC_HEALTH : RegAddr := 0xE244
abbrev DROVER_ENC_POS_L : RegAddr := 0xE248
abbrev DROVER_ENC_POS_H : RegAddr := 0xE24C
abbrev DROVER_Z_REF_L : RegAddr := 0xE250
abbrev DROVER_Z_REF_H : RegAddr := 0xE254
abbrev DROVER_AUX_DIFF : RegAddr := 0xE258
abbrev DROVER_LOSS_CAUSE : RegAddr := 0xE25C
abbrev DROVER_HELD_L : RegAddr := 0xE260
abbrev DROVER_HELD_H : RegAddr := 0xE264
abbrev DROVER_DETECT : RegAddr := 0xE268
abbrev PROFILE_CAPS : RegAddr := 0xF200
abbrev PROFILE_CFG : RegAddr := 0xF204
abbrev PROFILE_STATE : RegAddr := 0xF208
abbrev PROFILE_HOLD_CAUSE : RegAddr := 0xF20C
abbrev PROFILE_V_MAX_Y : RegAddr := 0xF210
abbrev PROFILE_A_MAX_Y : RegAddr := 0xF214
abbrev PROFILE_J_MAX_Y : RegAddr := 0xF218
abbrev PROFILE_V_MAX_X : RegAddr := 0xF21C
abbrev PROFILE_A_MAX_X : RegAddr := 0xF220
abbrev PROFILE_J_MAX_X : RegAddr := 0xF224
abbrev PROFILE_LIMIT_STATE : RegAddr := 0xF228
abbrev PROFILE_LIMITED : RegAddr := 0xF22C
abbrev PROFILE_SETTLE_TOL : RegAddr := 0xF230
abbrev PROFILE_RESUME_MARGIN : RegAddr := 0xF234
abbrev PROFILE_STEP_SIZE : RegAddr := 0xF238
abbrev PROFILE_TARGET_Y_L : RegAddr := 0xF23C
abbrev PROFILE_TARGET_Y_H : RegAddr := 0xF240
abbrev PROFILE_TARGET_X_L : RegAddr := 0xF244
abbrev PROFILE_TARGET_X_H : RegAddr := 0xF248
abbrev PROFILE_MOVE : RegAddr := 0xF24C
abbrev PROFILE_SP_Y_L : RegAddr := 0xF250
abbrev PROFILE_SP_Y_H : RegAddr := 0xF254
abbrev PROFILE_SP_X_L : RegAddr := 0xF258
abbrev PROFILE_SP_X_H : RegAddr := 0xF25C
abbrev PROFILE_VEL_Y : RegAddr := 0xF260
abbrev PROFILE_VEL_X : RegAddr := 0xF264
abbrev PROFILE_V_RUN : RegAddr := 0xF268
abbrev PROFILE_FRAMES : RegAddr := 0xF26C
abbrev PROFILE_STOP_DIST : RegAddr := 0xF270
abbrev DEFL_CAPS : RegAddr := 0x10200
abbrev DEFL_JESD_CFG : RegAddr := 0x10204
abbrev DEFL_JESD_STATUS : RegAddr := 0x10208
abbrev DEFL_BANK : RegAddr := 0x1020C
abbrev DEFL_GAIN_XT : RegAddr := 0x10210
abbrev DEFL_GAIN_YT : RegAddr := 0x10214
abbrev DEFL_GAIN_XA : RegAddr := 0x10218
abbrev DEFL_GAIN_YA : RegAddr := 0x1021C
abbrev DEFL_OFFSET_T : RegAddr := 0x10220
abbrev DEFL_OFFSET_A : RegAddr := 0x10224
abbrev DEFL_X_FOLLOW : RegAddr := 0x10228
abbrev DEFL_PIPE : RegAddr := 0x1022C
abbrev DEFL_SLEW : RegAddr := 0x10230
abbrev DEFL_OUT_T : RegAddr := 0x10234
abbrev DEFL_OUT_A : RegAddr := 0x10238
abbrev DEFL_SATURATIONS : RegAddr := 0x1023C
abbrev DEFL_PEER_FAULT : RegAddr := 0x10240
abbrev DEFL_SYSREF_SLIPS : RegAddr := 0x10244
abbrev FLINK_LANES_UP_L : RegAddr := 0x11100
abbrev FLINK_LANES_UP_H : RegAddr := 0x11104
abbrev FLINK_RATE : RegAddr := 0x11108
abbrev FLINK_LEAD : RegAddr := 0x1110C
abbrev FLINK_RETX_COUNT : RegAddr := 0x11110
abbrev FLINK_MISS_COUNT : RegAddr := 0x11114
abbrev FLINK_BANK : RegAddr := 0x11118
abbrev FLINK_CAPS : RegAddr := 0x11200
abbrev FLINK_CFG : RegAddr := 0x11204
abbrev FLINK_EYE_MIN : RegAddr := 0x11208
abbrev FLINK_LPI_DELAY : RegAddr := 0x1120C
abbrev FLINK_RX_LANES_UP : RegAddr := 0x11210
abbrev FLINK_MAX_FLASH : RegAddr := 0x11214
abbrev FLINK_SLACK_MIN : RegAddr := 0x11218
abbrev FLINK_NAK_COUNT : RegAddr := 0x1121C
abbrev FLINK_WITHHELD : RegAddr := 0x11220
abbrev FLINK_REPORT_LATE : RegAddr := 0x11224
abbrev FLINK_SETTLED : RegAddr := 0x11228
abbrev FLINK_LANE_SEL : RegAddr := 0x1122C
abbrev FLINK_LANE_STATE : RegAddr := 0x11230
abbrev FLINK_LANE_EYE : RegAddr := 0x11234
abbrev FLINK_LANE_CAPS_L : RegAddr := 0x11238
abbrev FLINK_LANE_CAPS_H : RegAddr := 0x1123C
abbrev FLINK_LANE_ID_L : RegAddr := 0x11240
abbrev FLINK_LANE_ID_H : RegAddr := 0x11244
abbrev FLINK_LANE_COUNTS : RegAddr := 0x11248
abbrev FLINK_BANK_THR0 : RegAddr := 0x11250
abbrev FLINK_BANK_THR1 : RegAddr := 0x11254
abbrev FLINK_BANK_THR2 : RegAddr := 0x11258
abbrev FLINK_BANK_THR3 : RegAddr := 0x1125C
abbrev FLINK_BANK_THR4 : RegAddr := 0x11260
abbrev FLINK_BANK_THR5 : RegAddr := 0x11264
abbrev FLINK_BANK_THR6 : RegAddr := 0x11268
abbrev FLINK_BANK_MAP : RegAddr := 0x1126C
abbrev FLINK_BANK_HYST : RegAddr := 0x11270
abbrev FLINK_SENSOR_SEL : RegAddr := 0x11274
abbrev FLINK_SENSOR_VAL : RegAddr := 0x11278
abbrev FLINK_RETRAIN : RegAddr := 0x1127C
abbrev MIRROR_MODE : RegAddr := 0x12200
abbrev MIRROR_WINDOW : RegAddr := 0x12204
abbrev MIRROR_ECHOES : RegAddr := 0x12208
abbrev MIRROR_MISMATCHES : RegAddr := 0x1220C
abbrev MIRROR_LAST : RegAddr := 0x12210
abbrev MIRROR_EXPECT : RegAddr := 0x12214
abbrev MIRROR_GOT : RegAddr := 0x12218
abbrev IVDON_CAPS : RegAddr := 0x13200
abbrev IVDON_CFG : RegAddr := 0x13204
abbrev IVDON_GROUP_CFG : RegAddr := 0x13208
abbrev IVDON_GROUP_LEAD : RegAddr := 0x1320C
abbrev IVDON_LEVELS : RegAddr := 0x13210
abbrev IVDON_ROLE : RegAddr := 0x13214
abbrev IVDON_EPOCH : RegAddr := 0x13218
abbrev IVDON_GROUP_FORMAT : RegAddr := 0x1321C
abbrev IVDON_READY_COUNT : RegAddr := 0x13220
abbrev IVDON_PORT_SEL : RegAddr := 0x13224
abbrev IVDON_PORT_STATE : RegAddr := 0x13228
abbrev IVDON_PORT_COUNTS : RegAddr := 0x1322C
abbrev IVDON_FLOOD_DROPS : RegAddr := 0x13230
abbrev IVDON_RETRAIN : RegAddr := 0x13234
abbrev CRC_CAPS : RegAddr := 0x14200
abbrev CRC_CHAIN_COUNTS : RegAddr := 0x14204
abbrev CRC_E_CFG : RegAddr := 0x14240
abbrev CRC_E_CMD : RegAddr := 0x14244
abbrev CRC_E_STATE : RegAddr := 0x14248
abbrev CRC_E_DATA : RegAddr := 0x1424C
abbrev CRC_E_VALUE_L : RegAddr := 0x14250
abbrev CRC_E_VALUE_H : RegAddr := 0x14254
abbrev CRC_E_RESULT_L : RegAddr := 0x14258
abbrev CRC_E_RESULT_H : RegAddr := 0x1425C
abbrev CRC_E_SRC_L : RegAddr := 0x14260
abbrev CRC_E_SRC_H : RegAddr := 0x14264
abbrev CRC_E_LEN : RegAddr := 0x14268
abbrev CRC_E_EXPECT_L : RegAddr := 0x1426C
abbrev CRC_E_EXPECT_H : RegAddr := 0x14270
abbrev CRC_E_COUNT : RegAddr := 0x14274
abbrev SRAM_HURDLES_USED : RegAddr := 0x15100
abbrev SRAM_HURDLES_RESERVED_TALLY : RegAddr := 0x15104
abbrev SRAM_FILL : RegAddr := 0x15108
abbrev SRAM_FENCE_MAP : RegAddr := 0x1510C
abbrev SRAM_CAPS : RegAddr := 0x15200
abbrev SRAM_CE_COUNT : RegAddr := 0x15204
abbrev SRAM_UE_COUNT : RegAddr := 0x15208
abbrev SRAM_ERR_LINE : RegAddr := 0x1520C
abbrev SRAM_SUSPECTS : RegAddr := 0x15210
abbrev SRAM_HURDLE_SEL : RegAddr := 0x15214
abbrev SRAM_HURDLE_ENTRY : RegAddr := 0x15218
abbrev SRAM_FENCE_SEL : RegAddr := 0x1521C
abbrev SRAM_FENCE_ENTRY : RegAddr := 0x15220
abbrev SRAM_SPARE_BLOCKS : RegAddr := 0x15224
abbrev SRAM_STAGING_FENCED : RegAddr := 0x15228
abbrev SRAM_BELL_SEL : RegAddr := 0x1522C
abbrev SRAM_BELL_L : RegAddr := 0x15230
abbrev SRAM_BELL_H : RegAddr := 0x15234
abbrev SRAM_BELL_REWRITES : RegAddr := 0x15238
abbrev SRAM_NO_REPAIR : RegAddr := 0x1523C
abbrev HBM0_CAPS : RegAddr := 0x16200
abbrev HBM0_TRAIN : RegAddr := 0x16204
abbrev HBM0_TEMP : RegAddr := 0x16208
abbrev HBM0_REFRESH : RegAddr := 0x1620C
abbrev HBM0_CE_COUNT : RegAddr := 0x16210
abbrev HBM0_UE_COUNT : RegAddr := 0x16214
abbrev HBM0_ERR_DA_L : RegAddr := 0x16218
abbrev HBM0_ERR_DA_H : RegAddr := 0x1621C
abbrev HBM0_ERR_LOC : RegAddr := 0x16220
abbrev HBM0_NBR_REFRESHES : RegAddr := 0x16224
abbrev HBM0_PAGE_HITS : RegAddr := 0x16228
abbrev HBM0_CFG : RegAddr := 0x16300
abbrev HBM0_CE_THRESHOLD : RegAddr := 0x16304
abbrev HBM0_RANK_MAP_L : RegAddr := 0x16308
abbrev HBM0_RANK_MAP_H : RegAddr := 0x1630C
abbrev HBM0_MIG_RATE : RegAddr := 0x16310
abbrev HBM0_MIG_STATE : RegAddr := 0x16314
abbrev HBM0_RETIRE : RegAddr := 0x16318
abbrev HBM0_RANK_SEL : RegAddr := 0x1631C
abbrev HBM0_RANK_ERR : RegAddr := 0x16320
abbrev HBM0_CACHE_FREE : RegAddr := 0x16324
abbrev HBM0_CACHE_SLOT0 : RegAddr := 0x16328
abbrev HBM0_CACHE_SLOT1 : RegAddr := 0x1632C
abbrev HBM0_DEFICIT_FREE : RegAddr := 0x16330
abbrev HBM0_SR_DEFERRED : RegAddr := 0x16334
abbrev TRACE_CAPS : RegAddr := 0x1A200
abbrev TRACE_STATE : RegAddr := 0x1A204
abbrev TRACE_TRIGGER : RegAddr := 0x1A208
abbrev TRACE_POST : RegAddr := 0x1A20C
abbrev TRACE_RECORDS : RegAddr := 0x1A210
abbrev TRACE_LOST : RegAddr := 0x1A214
abbrev TRACE_SOURCES : RegAddr := 0x1A218
abbrev TRACE_TRIG_SEQ : RegAddr := 0x1A21C
abbrev AGE_MARGIN_YEARS : RegAddr := 0x1B100
abbrev AGE_VOLT_STEP : RegAddr := 0x1B104
abbrev AGE_CAPS : RegAddr := 0x1B200
abbrev AGE_PLAN_EN : RegAddr := 0x1B204
abbrev AGE_PATH_FLOOR : RegAddr := 0x1B208
abbrev AGE_EYE_GUARD : RegAddr := 0x1B20C
abbrev AGE_ENC_RESID_LIMIT : RegAddr := 0x1B210
abbrev AGE_MARGIN_WARN : RegAddr := 0x1B214
abbrev AGE_PATH_SEL : RegAddr := 0x1B218
abbrev AGE_PATH_VAL : RegAddr := 0x1B21C
abbrev AGE_PATH_WORST : RegAddr := 0x1B220
abbrev AGE_RATE_CAP0 : RegAddr := 0x1B224
abbrev AGE_RATE_CAP1 : RegAddr := 0x1B228
abbrev AGE_RATE_CAP2 : RegAddr := 0x1B22C
abbrev AGE_RATE_CAP3 : RegAddr := 0x1B230
abbrev AGE_FLOORS : RegAddr := 0x1B234
abbrev AGE_ACTIONS : RegAddr := 0x1B238
abbrev AGE_REBASE : RegAddr := 0x1B23C
abbrev GPIO_CAPS : RegAddr := 0x1C200
abbrev GPIO_DIR : RegAddr := 0x1C204
abbrev GPIO_OUT : RegAddr := 0x1C208
abbrev GPIO_IN : RegAddr := 0x1C20C
abbrev GPIO_FUNC : RegAddr := 0x1C210
abbrev GPIO_EDGE : RegAddr := 0x1C214
abbrev GPIO_PPS_WIDTH : RegAddr := 0x1C218
abbrev GPIO_EVT_PIN : RegAddr := 0x1C21C
abbrev GPIO_EVT_SEC : RegAddr := 0x1C220
abbrev GPIO_EVT_NSEC : RegAddr := 0x1C224
end R

/-- One field of a register: offset, mask, access code of R11, reset value, and whether an RO field counts
or records since an earlier event (R670). -/
structure RegRow where
  off : Nat
  mask : Nat
  acc : Acc
  reset : Nat
  counts : Bool := false
  deriving DecidableEq, Repr

/-- Detail and anchor registers of page 0x00 SYS. -/
def rowsSys : List RegRow :=
  [⟨0x100, 0xFFFFFFFF, .ro, 0x5120, false⟩,
   ⟨0x104, 0xFFFFFFFF, .ro, 0x1010, false⟩,
   ⟨0x108, 0xFFF, .rw, 0x0, false⟩,
   ⟨0x10C, 0x3, .rw, 0x0, false⟩,
   ⟨0x110, 0xFFFFFFFF, .ro, 0x0, false⟩,
   ⟨0x114, 0xFFFFFFFF, .ro, 0x0, false⟩,
   ⟨0x118, 0xFFFF, .rw, 0x1, false⟩,
   ⟨0x11C, 0x10000, .rw, 0x0, false⟩,
   ⟨0x11C, 0xC, .ro, 0x0, false⟩,
   ⟨0x11C, 0x2, .rws, 0x0, false⟩,
   ⟨0x11C, 0x1, .ro, 0x0, false⟩,
   ⟨0x200, 0x3FFF, .rw, 0x0, false⟩,
   ⟨0x204, 0xFFFFFFFF, .ro, 0x0, false⟩,
   ⟨0x208, 0xFFFFFFFF, .ro, 0x4000, false⟩,
   ⟨0x20C, 0xFFFFFFFF, .ro, 0x0, false⟩,
   ⟨0x210, 0xFFFFFFFF, .ro, 0x0, false⟩,
   ⟨0x214, 0xFFFFFFFF, .ro, 0x0, true⟩,
   ⟨0x218, 0x3FFF, .rw, 0x0, false⟩,
   ⟨0x220, 0xFFFFFFFF, .ro, 0x0, false⟩,
   ⟨0x224, 0xFFFFFFFF, .ro, 0x0, false⟩,
   ⟨0x228, 0xFFFFFFFF, .ro, 0x0, false⟩,
   ⟨0x22C, 0xFFFFFFFF, .ro, 0x0, false⟩,
   ⟨0x230, 0xFFFFFFFF, .ro, 0x0, false⟩,
   ⟨0x234, 0xFFFFFFFF, .ro, 0x0, false⟩,
   ⟨0x238, 0xFFFFFFFF, .ro, 0x0, false⟩,
   ⟨0x23C, 0xFFFFFFFF, .ro, 0x0, false⟩,
   ⟨0x240, 0xFFFFFFFF, .ro, 0x0, false⟩,
   ⟨0x244, 0xFFFFFFFF, .ro, 0x0, false⟩,
   ⟨0x248, 0xFFFFFFFF, .ro, 0x0, false⟩,
   ⟨0x24C, 0xFFFFFFFF, .ro, 0x0, false⟩,
   ⟨0x250, 0xFFFFFFFF, .ro, 0x0, false⟩,
   ⟨0x254, 0xFFFFFFFF, .ro, 0x0, false⟩,
   ⟨0x258, 0xFFFFFFFF, .ro, 0x0, false⟩,
   ⟨0x25C, 0xFFFFFFFF, .ro, 0x0, false⟩,
   ⟨0x260, 0xFFFFFFFF, .ro, 0x0, false⟩,
   ⟨0x264, 0xFFFFFFFF, .ro, 0x0, false⟩,
   ⟨0x268, 0xFF, .wo, 0x0, false⟩,
   ⟨0x26C, 0xFFFFFFFF, .ro, 0x0, false⟩]

/-- Detail and anchor registers of page 0x01 CLK. -/
def rowsClk : List RegRow :=
  [⟨0x100, 0x1FFFFFFF, .ro, 0x0, false⟩,
   ⟨0x104, 0x1FFFFFFF, .ro, 0x0, false⟩,
   ⟨0x108, 0x80000000, .ro, 0x0, false⟩,
   ⟨0x108, 0x1FFFFFFF, .rw, 0x0, false⟩,
   ⟨0x10C, 0x1F, .ro, 0x0, false⟩,
   ⟨0x200, 0xFFFFFFFF, .ro, 0x4001D, false⟩,
   ⟨0x204, 0xFFFF, .rw, 0x64, false⟩,
   ⟨0x208, 0xFFFFFFFF, .ro, 0x0, false⟩,
   ⟨0x20C, 0xFFFFFFFF, .ro, 0x0, true⟩,
   ⟨0x210, 0xFFFFFFFF, .ro, 0x0, true⟩,
   ⟨0x214, 0xFFFFFFFF, .ro, 0x0, true⟩,
   ⟨0x218, 0xFFFFFFFF, .ro, 0x0, true⟩,
   ⟨0x21C, 0xFFFFFFFF, .ro, 0x0, false⟩]

/-- Detail and anchor registers of page 0x02 THERM. -/
def rowsTherm : List RegRow :=
  [⟨0x100, 0xFFFFFF, .rwe, 0x2005F0, false⟩,
   ⟨0x104, 0xFFFFFF, .rwe, 0x200690, false⟩,
   ⟨0x108, 0xFFFFFF, .rwe, 0x200730, false⟩,
   ⟨0x110, 0xFFFFFF, .rwe, 0x802D0, false⟩,
   ⟨0x114, 0xFFFFFF, .rwe, 0x80320, false⟩,
   ⟨0x118, 0xFFFFFF, .rwe, 0x803C0, false⟩,
   ⟨0x120, 0xFFFFFF, .rwe, 0x200550, false⟩,
   ⟨0x124, 0xFFFFFF, .rwe, 0x2005F0, false⟩,
   ⟨0x128, 0xFFFFFF, .rwe, 0x200690, false⟩,
   ⟨0x130, 0x3, .rwe, 0x0, false⟩,
   ⟨0x134, 0x7F, .rwe, 0xA, false⟩,
   ⟨0x138, 0x7F, .rwe, 0x19, false⟩,
   ⟨0x13C, 0xFFFFFFFF, .ro, 0x0, false⟩,
   ⟨0x140, 0xFFFFFFFF, .ro, 0x0, false⟩,
   ⟨0x200, 0xFFFFFFFF, .ro, 0x30104002, false⟩,
   ⟨0x204, 0xFF, .rw, 0x0, false⟩,
   ⟨0x208, 0xFFFFFFFF, .ro, 0x0, false⟩,
   ⟨0x20C, 0xFFFFFFFF, .ro, 0x0, false⟩,
   ⟨0x210, 0xFFFFFFFF, .ro, 0x0, false⟩,
   ⟨0x214, 0xFFFFFFFF, .ro, 0x0, false⟩,
   ⟨0x218, 0xFFFFFFFF, .ro, 0x0, false⟩,
   ⟨0x21C, 0xFFFFFFFF, .ro, 0x0, false⟩,
   ⟨0x220, 0xFFFFFFFF, .ro, 0x0, false⟩,
   ⟨0x224, 0xFF, .wo, 0x0, false⟩,
   ⟨0x228, 0xFFFFFFFF, .ro, 0x4E2, false⟩,
   ⟨0x22C, 0xFFFFFFFF, .ro, 0x0, true⟩,
   ⟨0x230, 0x33, .rwe, 0x0, false⟩,
   ⟨0x234, 0xFFFFFFFF, .rwe, 0x55003C0, false⟩,
   ⟨0x238, 0xFFFFFFFF, .ro, 0x0, true⟩,
   ⟨0x23C, 0xFFFFFFFF, .ro, 0x0, false⟩]

/-- Detail and anchor registers of page 0x03 AUDIT. -/
def rowsAudit : List RegRow :=
  [⟨0x200, 0xFFFFFFFF, .ro, 0x80000080, false⟩,
   ⟨0x204, 0xFFFFFFFF, .ro, 0x8000, false⟩,
   ⟨0x208, 0xFFFFFFFF, .ro, 0x0, false⟩,
   ⟨0x20C, 0xFFFFFFFF, .ro, 0x0, false⟩,
   ⟨0x210, 0xFFFFFFFF, .ro, 0x0, false⟩,
   ⟨0x214, 0xFFFFFFFF, .ro, 0x0, false⟩,
   ⟨0x218, 0xFFFFFFFF, .ro, 0x0, false⟩,
   ⟨0x21C, 0xFFFFFFFF, .ro, 0x0, false⟩,
   ⟨0x220, 0x1, .wo, 0x0, false⟩,
   ⟨0x224, 0xFFFFFFFF, .ro, 0x0, false⟩,
   ⟨0x228, 0xFFFFFFFF, .ro, 0x0, false⟩,
   ⟨0x22C, 0xFFFFFFFF, .ro, 0x0, false⟩,
   ⟨0x230, 0xFFFFFFFF, .ro, 0x0, false⟩,
   ⟨0x234, 0xFFFFFFFF, .wo, 0x0, false⟩,
   ⟨0x238, 0xFFFFFFFF, .wo, 0x0, false⟩,
   ⟨0x23C, 0xFFFFFFFF, .ro, 0x0, true⟩]

/-- Detail and anchor registers of page 0x04 FOLD. -/
def rowsFold : List RegRow :=
  [⟨0x200, 0xFFFFFFFF, .ro, 0xF04, false⟩,
   ⟨0x204, 0xFFFFFFFF, .ro, 0x0, false⟩,
   ⟨0x208, 0xFFFFFFFF, .ro, 0x0, false⟩,
   ⟨0x20C, 0xFFFFFFFF, .ro, 0x0, false⟩,
   ⟨0x210, 0x37777, .rw, 0x0, false⟩,
   ⟨0x214, 0x1F, .rws, 0x0, false⟩,
   ⟨0x218, 0xFFFFFFFF, .ro, 0x0, false⟩,
   ⟨0x21C, 0xFFFFFFFF, .ro, 0x0, false⟩]

/-- Detail and anchor registers of page 0x05 TIME. -/
def rowsTime : List RegRow :=
  [⟨0x100, 0xFFFFFFFF, .ro, 0x0, false⟩,
   ⟨0x104, 0xFFFF, .ro, 0x0, false⟩,
   ⟨0x108, 0x3FFFFFFF, .ro, 0x0, false⟩,
   ⟨0x10C, 0xFFFFFFFF, .rw, 0x0, false⟩,
   ⟨0x110, 0x1, .wo, 0x0, false⟩,
   ⟨0x114, 0x1, .ro, 0x0, false⟩,
   ⟨0x118, 0xFFFFF, .rw, 0x0, false⟩,
   ⟨0x200, 0xFF, .rw, 0x4, false⟩,
   ⟨0x204, 0xFFFFFFFF, .rw, 0x0, false⟩,
   ⟨0x208, 0xFFFFFFFF, .rw, 0x0, false⟩,
   ⟨0x20C, 0xFF03, .rwe, 0x0, false⟩,
   ⟨0x210, 0xFFFFFFFF, .ro, 0x0, false⟩,
   ⟨0x214, 0xFFFFFFFF, .ro, 0x0, true⟩,
   ⟨0x218, 0xFFFFFFFF, .ro, 0x0, false⟩,
   ⟨0x21C, 0xFFFFFFFF, .rw, 0x3E8, false⟩,
   ⟨0x220, 0xFFFFFFFF, .ro, 0x0, false⟩,
   ⟨0x224, 0xFFFFFFFF, .ro, 0x0, false⟩,
   ⟨0x228, 0xFFFFFFFF, .ro, 0x0, false⟩]

/-- Detail and anchor registers of page 0x06 KEEP. -/
def rowsKeep : List RegRow :=
  [⟨0x200, 0xFFFFFFFF, .ro, 0x2000800, false⟩,
   ⟨0x204, 0xFFFFFFFF, .rw, 0x0, false⟩,
   ⟨0x208, 0x3, .wo, 0x0, false⟩,
   ⟨0x20C, 0xFFFFFFFF, .ro, 0x0, false⟩,
   ⟨0x210, 0x1, .rw, 0x0, false⟩,
   ⟨0x214, 0xFFFFFFFF, .ro, 0x0, false⟩,
   ⟨0x218, 0xFFFFFFFF, .ro, 0x0, false⟩,
   ⟨0x21C, 0xFFFFFFFF, .rws, 0x0, false⟩,
   ⟨0x220, 0xFFFFFFFF, .ro, 0x0, false⟩,
   ⟨0x224, 0xFFFFFFFF, .ro, 0x0, false⟩,
   ⟨0x228, 0xFFFFFFFF, .ro, 0xFFFFFFFF, false⟩,
   ⟨0x22C, 0xFFFFFFFF, .ro, 0x0, true⟩]

/-- Detail and anchor registers of page 0x07 HOST. -/
def rowsHost : List RegRow :=
  [⟨0x200, 0xFFFFFFFF, .ro, 0x40401000, false⟩,
   ⟨0x204, 0xFFFFFFFF, .ro, 0x0, false⟩,
   ⟨0x208, 0x3F, .rw, 0x0, false⟩,
   ⟨0x20C, 0x803F0FFF, .rw, 0x0, false⟩,
   ⟨0x210, 0xFFFFFFFF, .rw, 0x0, false⟩,
   ⟨0x214, 0xFFFFFFFF, .rw, 0x0, false⟩,
   ⟨0x218, 0xFFFFFFFF, .rw, 0x0, false⟩,
   ⟨0x21C, 0xFFFFFFFF, .rw, 0x0, false⟩,
   ⟨0x220, 0xFFFFFFFF, .ro, 0x0, false⟩,
   ⟨0x224, 0xFFFFFF, .rw, 0x0, false⟩,
   ⟨0x228, 0xFFFFFFFF, .rw, 0x0, false⟩,
   ⟨0x22C, 0xFFFFFFFF, .rw, 0x0, false⟩,
   ⟨0x230, 0x803F0FFF, .rw, 0x0, false⟩,
   ⟨0x234, 0xFFFFFFFF, .ro, 0x0, false⟩,
   ⟨0x238, 0x3F, .rw, 0x0, false⟩,
   ⟨0x23C, 0xFFFFFFFF, .ro, 0x0, false⟩,
   ⟨0x240, 0xFFFFFFFF, .ro, 0x0, false⟩,
   ⟨0x244, 0xFFFFFFFF, .ro, 0x0, false⟩,
   ⟨0x248, 0xFFFFFFFF, .ro, 0x0, false⟩,
   ⟨0x24C, 0xFFFFFFFF, .ro, 0xFFFFFFFF, false⟩,
   ⟨0x250, 0xFFFFFFFF, .ro, 0xFFFFFFFF, false⟩,
   ⟨0x254, 0xFFFFFFFF, .ro, 0x0, false⟩,
   ⟨0x258, 0xFFFFFFFF, .ro, 0x0, false⟩,
   ⟨0x25C, 0xFFFFFFFF, .ro, 0x0, true⟩,
   ⟨0x260, 0xFFFFFFFF, .ro, 0x0, true⟩,
   ⟨0x264, 0xFFFFFFFF, .ro, 0x0, true⟩,
   ⟨0x268, 0xFF01FFFF, .rw, 0x0, false⟩,
   ⟨0x26C, 0xFFFFFFFF, .rw, 0x0, false⟩,
   ⟨0x270, 0x3FF, .rw, 0x0, false⟩,
   ⟨0x274, 0xFFFFFFFF, .ro, 0x0, false⟩,
   ⟨0x278, 0xFFFFFFFF, .ro, 0x0, true⟩]

/-- Detail and anchor registers of page 0x08 CODEC. -/
def rowsCodec : List RegRow :=
  [⟨0x200, 0xFFFFFFFF, .ro, 0x11208, false⟩,
   ⟨0x204, 0xBF1F, .rwe, 0x8112, false⟩,
   ⟨0x208, 0x7, .rw, 0x0, false⟩,
   ⟨0x20C, 0xFFFFFFFF, .ro, 0x0, false⟩,
   ⟨0x210, 0xFFFFFFFF, .ro, 0x0, false⟩,
   ⟨0x214, 0xFFFFFFFF, .ro, 0x0, false⟩,
   ⟨0x218, 0xFFFFFFFF, .ro, 0x0, false⟩,
   ⟨0x21C, 0xFFFFFFFF, .ro, 0x0, false⟩,
   ⟨0x220, 0xFFFFFFFF, .ro, 0x0, true⟩,
   ⟨0x224, 0xFFFFFFFF, .ro, 0x0, true⟩,
   ⟨0x228, 0xFFFFFFFF, .ro, 0x0, false⟩,
   ⟨0x22C, 0xFFFFFFFF, .ro, 0x0, false⟩,
   ⟨0x240, 0xFFFFFFFF, .ro, 0x0, true⟩,
   ⟨0x244, 0xFFFFFFFF, .rws, 0x0, false⟩,
   ⟨0x248, 0xFFFFFFFF, .ro, 0x0, true⟩]

/-- Detail and anchor registers of page 0x09 LANTERN. -/
def rowsLantern : List RegRow :=
  [⟨0x200, 0xFFFFFFFF, .ro, 0x84008, false⟩,
   ⟨0x204, 0x7F, .rw, 0x4, false⟩,
   ⟨0x208, 0xFFFFFFFF, .ro, 0x0, false⟩,
   ⟨0x20C, 0xFFFF, .rwb, 0x1000, false⟩,
   ⟨0x210, 0xFFFF, .rwb, 0x2000, false⟩,
   ⟨0x214, 0x7F, .rwb, 0x20, false⟩,
   ⟨0x218, 0xFFFFFFFF, .ro, 0x0, false⟩,
   ⟨0x21C, 0xFFFFFFFF, .ro, 0x0, false⟩,
   ⟨0x220, 0xFFFFFFFF, .ro, 0x0, false⟩,
   ⟨0x224, 0xFFFFFFFF, .ro, 0xFFFFFFFF, false⟩,
   ⟨0x228, 0xFFFFFFFF, .ro, 0xFFFFFFFF, false⟩,
   ⟨0x22C, 0xFFFFFFFF, .ro, 0x0, true⟩,
   ⟨0x230, 0xFFFFFFFF, .ro, 0x0, true⟩,
   ⟨0x234, 0xFFFFFFFF, .rws, 0x0, false⟩,
   ⟨0x238, 0xFFFFFFFF, .ro, 0x0, true⟩,
   ⟨0x23C, 0xFFFFFFFF, .ro, 0x0, false⟩,
   ⟨0x240, 0xFFFFFFFF, .ro, 0x0, false⟩]

/-- Detail and anchor registers of page 0x0A PENUMBRA. -/
def rowsPenumbra : List RegRow :=
  [⟨0x200, 0xFFFFFFFF, .ro, 0x35F0800, false⟩,
   ⟨0x204, 0x1, .rw, 0x0, false⟩,
   ⟨0x208, 0xFFFFFFFF, .ro, 0x0, false⟩,
   ⟨0x20C, 0xFFFFFFFF, .ro, 0x0, false⟩,
   ⟨0x210, 0xFFFFFFFF, .ro, 0x0, false⟩,
   ⟨0x214, 0xFFFFFFFF, .ro, 0x0, false⟩,
   ⟨0x218, 0xFFFFFFFF, .ro, 0x0, false⟩,
   ⟨0x21C, 0xFFFFFFFF, .ro, 0x0, false⟩,
   ⟨0x220, 0xFFFFFFFF, .ro, 0x0, false⟩,
   ⟨0x224, 0xFFFFFFFF, .ro, 0xFFFFFFFF, false⟩,
   ⟨0x228, 0xFFFFFFFF, .ro, 0xFFFFFFFF, false⟩,
   ⟨0x22C, 0xFFFFFFFF, .ro, 0x0, true⟩,
   ⟨0x230, 0xFFFFFFFF, .ro, 0x0, true⟩,
   ⟨0x234, 0xFFFFFFFF, .ro, 0x0, true⟩,
   ⟨0x238, 0xFFFFFFFF, .ro, 0x0, true⟩,
   ⟨0x23C, 0xFFFFFFFF, .ro, 0x0, true⟩,
   ⟨0x240, 0xFFFFFFFF, .rws, 0x0, false⟩,
   ⟨0x244, 0xFFFFFFFF, .ro, 0x800, false⟩]

/-- Detail and anchor registers of page 0x0B FIELD. -/
def rowsField : List RegRow :=
  [⟨0x200, 0xFFFFFFFF, .ro, 0x6000002, false⟩,
   ⟨0x204, 0xFFFFFFFF, .ro, 0x0, false⟩,
   ⟨0x208, 0xFFFFFFFF, .ro, 0xFFFFFFFF, false⟩,
   ⟨0x20C, 0xFFFFFFFF, .ro, 0xFFFFFFFF, false⟩,
   ⟨0x210, 0xFFFFFFFF, .ro, 0x0, false⟩,
   ⟨0x214, 0xFFFFFFFF, .ro, 0x5F0, false⟩,
   ⟨0x218, 0xFFFFFFFF, .ro, 0x0, true⟩,
   ⟨0x21C, 0xFFFFFFFF, .ro, 0x0, true⟩,
   ⟨0x220, 0xFFFFFFFF, .ro, 0x0, true⟩,
   ⟨0x224, 0xFFFFFFFF, .ro, 0x0, true⟩]

/-- Detail and anchor registers of page 0x0C SHEPHERD. -/
def rowsShepherd : List RegRow :=
  [⟨0x100, 0x1FF, .ro, 0x20, false⟩,
   ⟨0x104, 0x7, .rwe, 0x5, false⟩,
   ⟨0x108, 0xFF, .rwb, 0x0, false⟩,
   ⟨0x10C, 0x3FFFF, .ro, 0x0, false⟩,
   ⟨0x110, 0x3FFFF, .rw, 0xA00, false⟩,
   ⟨0x200, 0xFFFFFFFF, .ro, 0x400604, false⟩,
   ⟨0x204, 0x11, .rwe, 0x0, false⟩,
   ⟨0x208, 0xFFFFFF, .wo, 0x0, false⟩,
   ⟨0x20C, 0xFFFFFFFF, .ro, 0x0, false⟩,
   ⟨0x210, 0xFFFFFFFF, .ro, 0x0, false⟩,
   ⟨0x214, 0xFFFFFFFF, .ro, 0x0, false⟩,
   ⟨0x218, 0xFFFFFFFF, .ro, 0x0, true⟩,
   ⟨0x21C, 0xFFFFFFFF, .ro, 0x0, true⟩,
   ⟨0x220, 0xFFFFFFFF, .ro, 0x0, true⟩,
   ⟨0x224, 0xFFFFFFFF, .ro, 0x0, true⟩,
   ⟨0x228, 0xFFFFFFFF, .ro, 0x0, false⟩]

/-- Detail and anchor registers of page 0x0D TALLY. -/
def rowsTally : List RegRow :=
  [⟨0x100, 0xFFFFFFFF, .ro, 0x0, false⟩,
   ⟨0x104, 0xFFFFFFFF, .ro, 0x0, false⟩,
   ⟨0x108, 0x1FFFF, .ro, 0x0, false⟩,
   ⟨0x10C, 0xFFFFFFFF, .ro, 0x0, false⟩,
   ⟨0x110, 0xFFFFFFFF, .ro, 0x0, true⟩,
   ⟨0x200, 0xFFFFFFFF, .ro, 0x102000, false⟩,
   ⟨0x204, 0xFFFFFFFF, .ro, 0x0, false⟩,
   ⟨0x208, 0xFFFFFFFF, .ro, 0x0, false⟩,
   ⟨0x20C, 0xFFFFFFFF, .ro, 0x0, false⟩,
   ⟨0x210, 0xFFFFFFFF, .ro, 0x0, false⟩,
   ⟨0x214, 0xFFFFFFFF, .ro, 0x0, false⟩,
   ⟨0x218, 0xFFFFFFFF, .ro, 0x0, true⟩]

/-- Detail and anchor registers of page 0x0E DROVER. -/
def rowsDrover : List RegRow :=
  [⟨0x100, 0x10000, .rwb, 0x0, false⟩,
   ⟨0x100, 0x700, .rwb, 0x200, false⟩,
   ⟨0x100, 0x70, .rwb, 0x10, false⟩,
   ⟨0x100, 0x3, .rwb, 0x0, false⟩,
   ⟨0x104, 0xFFFFFFFF, .rwb, 0x0, false⟩,
   ⟨0x108, 0xFFFF, .rwb, 0x0, false⟩,
   ⟨0x10C, 0xFFFFFFFF, .rwb, 0x1999999A, false⟩,
   ⟨0x110, 0xFFFF, .rwb, 0x0, false⟩,
   ⟨0x114, 0xF000, .rwb, 0x4000, false⟩,
   ⟨0x114, 0x1FF, .rwb, 0x80, false⟩,
   ⟨0x118, 0x2, .ro, 0x0, false⟩,
   ⟨0x118, 0x1, .rw, 0x0, false⟩,
   ⟨0x11C, 0xF, .rwe, 0x1, false⟩,
   ⟨0x120, 0xFFFFFFFF, .ro, 0x0, false⟩,
   ⟨0x124, 0xFFFF, .ro, 0x0, false⟩,
   ⟨0x128, 0x1FFFFF, .rw, 0x4E2, false⟩,
   ⟨0x12C, 0x7F000000, .ro, 0x0, false⟩,
   ⟨0x12C, 0x10000, .rwb, 0x0, false⟩,
   ⟨0x12C, 0x7F, .rwb, 0x0, false⟩,
   ⟨0x200, 0xFFFFFFFF, .ro, 0x400407, false⟩,
   ⟨0x204, 0xFFFFFFFF, .ro, 0x0, false⟩,
   ⟨0x208, 0xFFFFFF, .rwb, 0x0, false⟩,
   ⟨0x20C, 0x3FF, .rwe, 0x2F8, false⟩,
   ⟨0x210, 0xFFFF, .rw, 0x64, false⟩,
   ⟨0x214, 0x3FFFF, .rw, 0x0, false⟩,
   ⟨0x218, 0x3FFFF, .rw, 0x0, false⟩,
   ⟨0x21C, 0xFFFFFFFF, .ro, 0x0, true⟩,
   ⟨0x220, 0xFFFFFFFF, .ro, 0x0, false⟩,
   ⟨0x224, 0xFFFFFFFF, .ro, 0x0, false⟩,
   ⟨0x228, 0xFFFFFFFF, .ro, 0x0, false⟩,
   ⟨0x22C, 0x3, .rw, 0x0, false⟩,
   ⟨0x230, 0x1F3F03, .rwe, 0x103000, false⟩,
   ⟨0x234, 0xFFFFFFFF, .ro, 0x0, false⟩,
   ⟨0x238, 0xFFFFFFFF, .rwe, 0x1000000, false⟩,
   ⟨0x23C, 0xFFFF, .rwe, 0x1194, false⟩,
   ⟨0x240, 0xFFF, .rwe, 0x4B0, false⟩,
   ⟨0x244, 0xFFFFFFFF, .ro, 0x0, false⟩,
   ⟨0x248, 0xFFFFFFFF, .ro, 0x0, false⟩,
   ⟨0x24C, 0xFFFFFFFF, .ro, 0x0, false⟩,
   ⟨0x250, 0xFFFFFFFF, .ro, 0x0, false⟩,
   ⟨0x254, 0xFFFFFFFF, .ro, 0x0, false⟩,
   ⟨0x258, 0xFFFFFFFF, .ro, 0x0, true⟩,
   ⟨0x25C, 0xFFFFFFFF, .ro, 0x0, true⟩,
   ⟨0x260, 0xFFFFFFFF, .ro, 0x0, true⟩,
   ⟨0x264, 0xFFFFFFFF, .ro, 0x0, true⟩,
   ⟨0x268, 0x1, .wo, 0x0, false⟩]

/-- Detail and anchor registers of page 0x0F PROFILE. -/
def rowsProfile : List RegRow :=
  [⟨0x200, 0xFFFFFFFF, .ro, 0x32FA02, false⟩,
   ⟨0x204, 0x13, .rwe, 0x0, false⟩,
   ⟨0x208, 0xFFFFFFFF, .ro, 0x0, false⟩,
   ⟨0x20C, 0xFFFFFFFF, .ro, 0x0, false⟩,
   ⟨0x210, 0xFFFFFFFF, .rw, 0xC800000, false⟩,
   ⟨0x214, 0xFFFFFFFF, .rw, 0x10624E, false⟩,
   ⟨0x218, 0xFFFFFFFF, .rw, 0x6B60, false⟩,
   ⟨0x21C, 0xFFFFFFFF, .rw, 0xC800000, false⟩,
   ⟨0x220, 0xFFFFFFFF, .rw, 0x10624E, false⟩,
   ⟨0x224, 0xFFFFFFFF, .rw, 0x6B60, false⟩,
   ⟨0x228, 0xFFFFFFFF, .ro, 0x0, false⟩,
   ⟨0x22C, 0x2, .rws, 0x0, false⟩,
   ⟨0x22C, 0x1, .rws, 0x0, false⟩,
   ⟨0x230, 0xFFFFFFFF, .rw, 0x1900, false⟩,
   ⟨0x234, 0xFFFFFFFF, .rw, 0x9C400, false⟩,
   ⟨0x238, 0xFFFF, .rwe, 0x40, false⟩,
   ⟨0x23C, 0xFFFFFFFF, .rw, 0x0, false⟩,
   ⟨0x240, 0xFFFF, .rw, 0x0, false⟩,
   ⟨0x244, 0xFFFFFFFF, .rw, 0x0, false⟩,
   ⟨0x248, 0xFFFF, .rw, 0x0, false⟩,
   ⟨0x24C, 0x3, .wo, 0x0, false⟩,
   ⟨0x250, 0xFFFFFFFF, .ro, 0x0, false⟩,
   ⟨0x254, 0xFFFFFFFF, .ro, 0x0, false⟩,
   ⟨0x258, 0xFFFFFFFF, .ro, 0x0, false⟩,
   ⟨0x25C, 0xFFFFFFFF, .ro, 0x0, false⟩,
   ⟨0x260, 0xFFFFFFFF, .ro, 0x0, false⟩,
   ⟨0x264, 0xFFFFFFFF, .ro, 0x0, false⟩,
   ⟨0x268, 0xFFFFFFFF, .ro, 0x0, false⟩,
   ⟨0x26C, 0xFFFFFFFF, .ro, 0x0, true⟩,
   ⟨0x270, 0xFFFFFFFF, .ro, 0x0, true⟩]

/-- Detail and anchor registers of page 0x10 DEFL. -/
def rowsDefl : List RegRow :=
  [⟨0x200, 0xFFFFFFFF, .ro, 0x200804, false⟩,
   ⟨0x204, 0x30F, .rwe, 0x204, false⟩,
   ⟨0x208, 0xFFFFFFFF, .ro, 0x0, false⟩,
   ⟨0x20C, 0x1, .rwb, 0x0, false⟩,
   ⟨0x20C, 0x100, .ro, 0x0, false⟩,
   ⟨0x210, 0xFFFFFFFF, .rwb, 0x10000, false⟩,
   ⟨0x214, 0xFFFFFFFF, .rwb, 0x10000, false⟩,
   ⟨0x218, 0xFFFFFFFF, .rwb, 0x0, false⟩,
   ⟨0x21C, 0xFFFFFFFF, .rwb, 0x0, false⟩,
   ⟨0x220, 0xFFFFFFFF, .rwb, 0x0, false⟩,
   ⟨0x224, 0xFFFFFFFF, .rwb, 0x0, false⟩,
   ⟨0x228, 0xFFFFFFFF, .rwb, 0x0, false⟩,
   ⟨0x22C, 0x3FF, .rwe, 0x64, false⟩,
   ⟨0x230, 0xFFFF, .rw, 0x100, false⟩,
   ⟨0x234, 0xFFFFFFFF, .ro, 0x0, false⟩,
   ⟨0x238, 0xFFFFFFFF, .ro, 0x0, false⟩,
   ⟨0x23C, 0xFFFFFFFF, .ro, 0x0, true⟩,
   ⟨0x240, 0x1, .rw, 0x0, false⟩,
   ⟨0x244, 0xFFFFFFFF, .ro, 0x0, true⟩]

/-- Detail and anchor registers of page 0x11 FLINK. -/
def rowsFlink : List RegRow :=
  [⟨0x100, 0xFFFFFFFF, .ro, 0x0, false⟩,
   ⟨0x104, 0xFFFFFFFF, .ro, 0x0, false⟩,
   ⟨0x108, 0x7FFFF, .ro, 0x0, false⟩,
   ⟨0x10C, 0x7, .rwe, 0x4, false⟩,
   ⟨0x110, 0xFFFFFFFF, .ro, 0x0, true⟩,
   ⟨0x114, 0xFFFFFFFF, .ro, 0x0, true⟩,
   ⟨0x118, 0xF00000, .rw, 0x0, false⟩,
   ⟨0x118, 0x10000, .rw, 0x0, false⟩,
   ⟨0x118, 0x1FFF, .ro, 0x0, false⟩,
   ⟨0x200, 0xFFFFFFFF, .ro, 0x80F6840, false⟩,
   ⟨0x204, 0x3FF100F, .rwe, 0xC8100F, false⟩,
   ⟨0x208, 0xFFFF, .rwe, 0x141E, false⟩,
   ⟨0x20C, 0xFFFF, .rw, 0xA, false⟩,
   ⟨0x210, 0xFFFFFFFF, .ro, 0x0, false⟩,
   ⟨0x214, 0xFFFFFFFF, .ro, 0x0, false⟩,
   ⟨0x218, 0xFFFFFFFF, .ro, 0x0, true⟩,
   ⟨0x21C, 0xFFFFFFFF, .ro, 0x0, true⟩,
   ⟨0x220, 0xFFFFFFFF, .ro, 0x0, true⟩,
   ⟨0x224, 0xFFFFFFFF, .ro, 0x0, true⟩,
   ⟨0x228, 0xFFFFFFFF, .ro, 0x0, false⟩,
   ⟨0x22C, 0x3F, .rw, 0x0, false⟩,
   ⟨0x230, 0xFFFFFFFF, .ro, 0x0, true⟩,
   ⟨0x234, 0xFFFFFFFF, .ro, 0x0, false⟩,
   ⟨0x238, 0xFFFFFFFF, .ro, 0x0, false⟩,
   ⟨0x23C, 0xFFFFFFFF, .ro, 0x0, false⟩,
   ⟨0x240, 0xFFFFFFFF, .ro, 0x0, false⟩,
   ⟨0x244, 0xFFFFFFFF, .ro, 0x0, false⟩,
   ⟨0x248, 0xFFFFFFFF, .ro, 0x0, true⟩,
   ⟨0x250, 0x8000FFFF, .rw, 0x0, false⟩,
   ⟨0x254, 0x8000FFFF, .rw, 0x0, false⟩,
   ⟨0x258, 0x8000FFFF, .rw, 0x0, false⟩,
   ⟨0x25C, 0x8000FFFF, .rw, 0x0, false⟩,
   ⟨0x260, 0x8000FFFF, .rw, 0x0, false⟩,
   ⟨0x264, 0x8000FFFF, .rw, 0x0, false⟩,
   ⟨0x268, 0x8000FFFF, .rw, 0x0, false⟩,
   ⟨0x26C, 0xFFFFFFFF, .rw, 0x0, false⟩,
   ⟨0x270, 0xFF, .rw, 0x10, false⟩,
   ⟨0x274, 0x3F, .rw, 0x0, false⟩,
   ⟨0x278, 0xFFFFFFFF, .ro, 0x0, true⟩,
   ⟨0x27C, 0x13F, .wo, 0x0, false⟩]

/-- Detail and anchor registers of page 0x12 MIRROR. -/
def rowsMirror : List RegRow :=
  [⟨0x200, 0x3, .rw, 0x2, false⟩,
   ⟨0x204, 0xFFFF, .rw, 0x400, false⟩,
   ⟨0x208, 0xFFFFFFFF, .ro, 0x0, true⟩,
   ⟨0x20C, 0xFFFFFFFF, .rws, 0x0, false⟩,
   ⟨0x210, 0xFFFFFFFF, .ro, 0x0, true⟩,
   ⟨0x214, 0xFFFFFFFF, .ro, 0x0, true⟩,
   ⟨0x218, 0xFFFFFFFF, .ro, 0x0, true⟩]

/-- Detail and anchor registers of page 0x13 IVDON. -/
def rowsIvdon : List RegRow :=
  [⟨0x200, 0xFFFFFFFF, .ro, 0x4020107, false⟩,
   ⟨0x204, 0xFF000703, .rwe, 0x1E000700, false⟩,
   ⟨0x208, 0xFFFFFF00, .rwe, 0x0, false⟩,
   ⟨0x20C, 0x1FF0FFF, .rwe, 0x0, false⟩,
   ⟨0x210, 0xFFFFFFFF, .ro, 0x0, false⟩,
   ⟨0x214, 0xFFFFFFFF, .ro, 0x0, false⟩,
   ⟨0x218, 0xFFFFFFFF, .ro, 0x0, false⟩,
   ⟨0x21C, 0xFFFFFFFF, .ro, 0x0, false⟩,
   ⟨0x220, 0xFFFFFFFF, .ro, 0x0, false⟩,
   ⟨0x224, 0x3, .rw, 0x0, false⟩,
   ⟨0x228, 0xFFFFFFFF, .ro, 0x0, false⟩,
   ⟨0x22C, 0xFFFFFFFF, .ro, 0x0, true⟩,
   ⟨0x230, 0xFFFFFFFF, .ro, 0x0, true⟩,
   ⟨0x234, 0xF, .wo, 0x0, false⟩]

/-- Detail and anchor registers of page 0x14 CRC. -/
def rowsCrc : List RegRow :=
  [⟨0x200, 0xFFFFFFFF, .ro, 0x80F0010, false⟩,
   ⟨0x204, 0xFFFFFFFF, .ro, 0x0, true⟩]

/-- The registers of engine 0; engine e stands 0x40·e higher (R412). -/
def rowsEngine : List RegRow :=
  [⟨0x240, 0x30103, .rw, 0x30000, false⟩,
   ⟨0x244, 0xF, .wo, 0x0, false⟩,
   ⟨0x248, 0xFFFFFFFF, .ro, 0x0, false⟩,
   ⟨0x24C, 0xFFFFFFFF, .wo, 0x0, false⟩,
   ⟨0x250, 0xFFFFFFFF, .rw, 0x0, false⟩,
   ⟨0x254, 0xFFFFFFFF, .rw, 0x0, false⟩,
   ⟨0x258, 0xFFFFFFFF, .ro, 0x0, false⟩,
   ⟨0x25C, 0xFFFFFFFF, .ro, 0x0, false⟩,
   ⟨0x260, 0xFFFFFFFF, .rw, 0x0, false⟩,
   ⟨0x264, 0x8000003F, .rw, 0x0, false⟩,
   ⟨0x268, 0xFFFFFFFF, .rw, 0x0, false⟩,
   ⟨0x26C, 0xFFFFFFFF, .rw, 0x0, false⟩,
   ⟨0x270, 0xFFFFFFFF, .rw, 0x0, false⟩,
   ⟨0x274, 0xFFFFFFFF, .ro, 0x0, false⟩]

/-- Detail and anchor registers of page 0x15 SRAM. -/
def rowsSram : List RegRow :=
  [⟨0x100, 0x3FFF, .ro, 0x0, false⟩,
   ⟨0x104, 0x3F, .rwe, 0x10, false⟩,
   ⟨0x108, 0xFFFF0000, .ro, 0x0, false⟩,
   ⟨0x108, 0x100, .wo, 0x0, false⟩,
   ⟨0x108, 0xF, .rw, 0xF, false⟩,
   ⟨0x10C, 0x7FFFFF, .ro, 0x0, false⟩,
   ⟨0x200, 0xFFFFFFFF, .ro, 0x2040000A, false⟩,
   ⟨0x204, 0xFFFFFFFF, .ro, 0x0, true⟩,
   ⟨0x208, 0xFFFFFFFF, .ro, 0x0, true⟩,
   ⟨0x20C, 0xFFFFFFFF, .ro, 0x0, true⟩,
   ⟨0x210, 0xFFFFFFFF, .ro, 0x0, false⟩,
   ⟨0x214, 0x1F, .rw, 0x0, false⟩,
   ⟨0x218, 0xFFFFFFFF, .ro, 0x0, false⟩,
   ⟨0x21C, 0x3F, .rw, 0x0, false⟩,
   ⟨0x220, 0xFFFFFFFF, .ro, 0x0, false⟩,
   ⟨0x224, 0xFFFFFFFF, .ro, 0x318, false⟩,
   ⟨0x228, 0xFFFFFFFF, .ro, 0x0, false⟩,
   ⟨0x22C, 0x3F, .rw, 0x0, false⟩,
   ⟨0x230, 0xFFFFFFFF, .ro, 0x0, false⟩,
   ⟨0x234, 0xFFFFFFFF, .ro, 0x0, false⟩,
   ⟨0x238, 0xFFFFFFFF, .rws, 0x0, false⟩,
   ⟨0x23C, 0xFFFFFFFF, .ro, 0x0, true⟩]

/-- Detail and anchor registers of page 0x16 HBM0. -/
def rowsHbm0 : List RegRow :=
  [⟨0x200, 0xFFFFFFFF, .ro, 0x3202580, false⟩,
   ⟨0x204, 0xFFFFFFFF, .ro, 0x0, false⟩,
   ⟨0x208, 0xFFFFFFFF, .ro, 0x0, false⟩,
   ⟨0x20C, 0xFFFFFFFF, .ro, 0x0, false⟩,
   ⟨0x210, 0xFFFFFFFF, .ro, 0x0, true⟩,
   ⟨0x214, 0xFFFFFFFF, .ro, 0x0, true⟩,
   ⟨0x218, 0xFFFFFFFF, .ro, 0x0, true⟩,
   ⟨0x21C, 0xFFFFFFFF, .ro, 0x0, true⟩,
   ⟨0x220, 0xFFFFFFFF, .ro, 0x0, true⟩,
   ⟨0x224, 0xFFFFFFFF, .ro, 0x0, true⟩,
   ⟨0x228, 0xFFFFFFFF, .ro, 0x0, false⟩,
   ⟨0x300, 0x7011F, .rwe, 0xA, false⟩,
   ⟨0x304, 0xFFFF, .rw, 0x3E8, false⟩,
   ⟨0x308, 0xFFFFFFFF, .ro, 0x76543210, false⟩,
   ⟨0x30C, 0xFFFFFFFF, .ro, 0xFB00A98, false⟩,
   ⟨0x310, 0x1FF, .rw, 0x190, false⟩,
   ⟨0x314, 0xFFFFFFFF, .ro, 0x0, false⟩,
   ⟨0x318, 0xF, .wo, 0x0, false⟩,
   ⟨0x31C, 0xF, .rw, 0x0, false⟩,
   ⟨0x320, 0xFFFFFFFF, .ro, 0x0, false⟩,
   ⟨0x324, 0xFFFFFFFF, .ro, 0x1DF000, false⟩,
   ⟨0x328, 0xFFFFFFFF, .ro, 0x0, false⟩,
   ⟨0x32C, 0xFFFFFFFF, .ro, 0x0, false⟩,
   ⟨0x330, 0xFFFFFFFF, .ro, 0x80008000, false⟩,
   ⟨0x334, 0xFFFFFFFF, .ro, 0x0, true⟩]

/-- Detail and anchor registers of page 0x1A TRACE. -/
def rowsTrace : List RegRow :=
  [⟨0x200, 0xFFFFFFFF, .ro, 0x20000020, false⟩,
   ⟨0x204, 0xFFFFFFFF, .ro, 0x0, false⟩,
   ⟨0x208, 0xFFFFFFFF, .ro, 0x0, false⟩,
   ⟨0x20C, 0xFFFFFFFF, .ro, 0x0, false⟩,
   ⟨0x210, 0xFFFFFFFF, .ro, 0x0, false⟩,
   ⟨0x214, 0xFFFFFFFF, .ro, 0x0, true⟩,
   ⟨0x218, 0xFFFFFFFF, .ro, 0x0, false⟩,
   ⟨0x21C, 0xFFFFFFFF, .ro, 0x0, false⟩]

/-- Detail and anchor registers of page 0x1B AGE. -/
def rowsAge : List RegRow :=
  [⟨0x100, 0xFFFFFFFF, .ro, 0xFFFF, false⟩,
   ⟨0x104, 0xFFFFFFFF, .ro, 0x2EE0000, false⟩,
   ⟨0x200, 0xFFFFFFFF, .ro, 0x400008, false⟩,
   ⟨0x204, 0xF, .rw, 0xF, false⟩,
   ⟨0x208, 0xFF, .rwe, 0x28, false⟩,
   ⟨0x20C, 0xFFFF, .rwe, 0x505, false⟩,
   ⟨0x210, 0xFF, .rwe, 0x10, false⟩,
   ⟨0x214, 0xFFFF, .rw, 0x50, false⟩,
   ⟨0x218, 0x3F, .rw, 0x0, false⟩,
   ⟨0x21C, 0xFFFFFFFF, .ro, 0x0, false⟩,
   ⟨0x220, 0xFFFFFFFF, .ro, 0x0, false⟩,
   ⟨0x224, 0xFFFFFFFF, .ro, 0xFFFFFFFF, false⟩,
   ⟨0x228, 0xFFFFFFFF, .ro, 0xFFFFFFFF, false⟩,
   ⟨0x22C, 0xFFFFFFFF, .ro, 0xFFFFFFFF, false⟩,
   ⟨0x230, 0xFFFFFFFF, .ro, 0xFFFFFFFF, false⟩,
   ⟨0x234, 0xFFFFFFFF, .ro, 0x0, false⟩,
   ⟨0x238, 0xFFFFFFFF, .ro, 0x0, true⟩,
   ⟨0x23C, 0x1, .wo, 0x0, false⟩]

/-- Detail and anchor registers of page 0x1C GPIO. -/
def rowsGpio : List RegRow :=
  [⟨0x200, 0xFFFFFFFF, .ro, 0x8, false⟩,
   ⟨0x204, 0xFF, .rw, 0x0, false⟩,
   ⟨0x208, 0xFF, .rw, 0x0, false⟩,
   ⟨0x20C, 0xFFFFFFFF, .ro, 0x0, false⟩,
   ⟨0x210, 0xFFFF, .rwe, 0x0, false⟩,
   ⟨0x214, 0xFFFF, .rw, 0x0, false⟩,
   ⟨0x218, 0x3FF, .rwe, 0xA, false⟩,
   ⟨0x21C, 0xFFFFFFFF, .ro, 0x0, true⟩,
   ⟨0x220, 0xFFFFFFFF, .ro, 0x0, true⟩,
   ⟨0x224, 0xFFFFFFFF, .ro, 0x0, true⟩]

/-- The rows of a page beyond its header; HBM1 to HBM3 carry the per-stack registers of HBM0 (R363, R364). -/
def pageRows : Nat → List RegRow
  | 0 => rowsSys
  | 1 => rowsClk
  | 2 => rowsTherm
  | 3 => rowsAudit
  | 4 => rowsFold
  | 5 => rowsTime
  | 6 => rowsKeep ++ (List.range 512).map (fun i => { off := 0x800 + 4 * i, mask := 0xFFFFFFFF, acc := .rw, reset := 0 })
  | 7 => rowsHost
  | 8 => rowsCodec
  | 9 => rowsLantern
  | 10 => rowsPenumbra
  | 11 => rowsField
  | 12 => rowsShepherd
  | 13 => rowsTally
  | 14 => rowsDrover
  | 15 => rowsProfile
  | 16 => rowsDefl
  | 17 => rowsFlink
  | 18 => rowsMirror
  | 19 => rowsIvdon
  | 20 => rowsCrc ++ (List.range 8).flatMap (fun e => rowsEngine.map (fun r => { r with off := r.off + 0x40 * e }))
  | 21 => rowsSram
  | 22 => rowsHbm0
  | 23 => rowsHbm0.filter (·.off < 0x300)
  | 24 => rowsHbm0.filter (·.off < 0x300)
  | 25 => rowsHbm0.filter (·.off < 0x300)
  | 26 => rowsTrace
  | 27 => rowsAge
  | 28 => rowsGpio
  | _ => []

/-- The multi-register groups of R13, lowest offset first; INCR is grouped with INCR_INT (R609). -/
def regGroups : List (List RegAddr) :=
  [[0x20C, 0x210],
   [0x3208, 0x320C],
   [0x3210, 0x3214],
   [0x3218, 0x321C],
   [0x322C, 0x3230],
   [0x3234, 0x3238],
   [0x5100, 0x5104, 0x5108],
   [0x5204, 0x5208],
   [0x5220, 0x5224],
   [0x7210, 0x7214],
   [0x7218, 0x721C],
   [0x7228, 0x722C],
   [0x7260, 0x7264],
   [0x8210, 0x8214],
   [0x8218, 0x821C],
   [0x9224, 0x9228],
   [0xA224, 0xA228],
   [0xE104, 0xE108],
   [0xE10C, 0xE110],
   [0xE120, 0xE124],
   [0xE248, 0xE24C],
   [0xE250, 0xE254],
   [0xE260, 0xE264],
   [0xF23C, 0xF240],
   [0xF244, 0xF248],
   [0xF250, 0xF254],
   [0xF258, 0xF25C],
   [0x11100, 0x11104],
   [0x11238, 0x1123C],
   [0x11240, 0x11244],
   [0x15230, 0x15234],
   [0x16218, 0x1621C],
   [0x16308, 0x1630C],
   [0x510C, 0x5200],
   [0x17218, 0x1721C],
   [0x18218, 0x1821C],
   [0x19218, 0x1921C],
   [0x14250, 0x14254],
   [0x14258, 0x1425C],
   [0x14260, 0x14264],
   [0x1426C, 0x14270],
   [0x14290, 0x14294],
   [0x14298, 0x1429C],
   [0x142A0, 0x142A4],
   [0x142AC, 0x142B0],
   [0x142D0, 0x142D4],
   [0x142D8, 0x142DC],
   [0x142E0, 0x142E4],
   [0x142EC, 0x142F0],
   [0x14310, 0x14314],
   [0x14318, 0x1431C],
   [0x14320, 0x14324],
   [0x1432C, 0x14330],
   [0x14350, 0x14354],
   [0x14358, 0x1435C],
   [0x14360, 0x14364],
   [0x1436C, 0x14370],
   [0x14390, 0x14394],
   [0x14398, 0x1439C],
   [0x143A0, 0x143A4],
   [0x143AC, 0x143B0],
   [0x143D0, 0x143D4],
   [0x143D8, 0x143DC],
   [0x143E0, 0x143E4],
   [0x143EC, 0x143F0],
   [0x14410, 0x14414],
   [0x14418, 0x1441C],
   [0x14420, 0x14424],
   [0x1442C, 0x14430]]

end Sys2Proof.Machine
end

