-- ==== Sys2Proof/Machine/State.lean ====
section
/-! DEFINITION. The state of the block: every register, buffer, queue, pin and mode the spec gives it, as plain
data, and the queue of the commands that wait. -/

namespace Sys2Proof.Machine

/-- No command of this block stops it: each either has its effect or, where its own condition does not hold,
none (log entry 1). One name is kept for an inconsistent model; nothing raises it. -/
inductive Fault
  /-- Raised by nothing; safe. -/
  | inconsistent
  deriving DecidableEq, Repr

/-- Why a command is refused. -/
inductive Refusal
  /-- The command has no meaning yet, by its mnemonic; raised by an arm of exec only; safe. -/
  | notModelled (mnemonic : String)
  deriving DecidableEq, Repr

/-- An error record of R460 before it is laid out in bytes. -/
structure ErrRec where
  seq : Nat
  code : Nat
  locKind : Nat
  detector : Nat
  origin : Nat
  cls : Nat
  jobId : Nat
  stripeId : Nat
  flash : Nat
  cmd : Option (Nat × Nat)
  sec : Nat
  nsec : Nat
  loc0 : Nat
  loc1 : Nat
  loc2 : Nat
  causeSeq : Nat
  deriving DecidableEq, Repr

/-- The error log ring of R459: records newest first, the next SEQ, how many entries are not released, whether
SYS_ERRLOG_LOW has been written since the log last had room (R465). -/
structure ErrLog where
  recs : List ErrRec := []
  nextSeq : Nat := 1
  used : Nat := 0
  lowSent : Bool := false
  deriving DecidableEq, Repr

/-- An audit record of R577. -/
structure AuditRec where
  seq : Nat
  kind : Nat
  sec : Nat
  nsec : Nat
  origin : Nat
  addr : Nat
  old : Nat
  new : Nat
  detail : List Nat
  errSeq : Nat
  chain : Nat
  deriving DecidableEq, Repr

/-- A slot of the audit pool: a record or a signature entry (R579, R581). -/
inductive AuditSlot
  | record (r : AuditRec)
  | signature (seq sec nsec value : Nat)
  deriving DecidableEq, Repr

/-- The audit log of R576 to R582. The export's own signature: 0 none, 1 waits for the one under way, 2 under way, 3 in the pool;
`exportMade` the unit that the codec has made for it and verified. -/
structure Audit where
  pool : List AuditSlot := []
  nextSeq : Nat := 1
  chain : Nat := 0
  exportedSeq : Nat := 0
  exportedChain : Nat := 0
  signedSeq : Nat := 0
  signedChain : Nat := 0
  sinceSign : Nat := 0
  signing : Option (Nat × Nat) := none
  exportUnit : List Byte := []
  exportMade : Option (List Byte) := none
  exportCount : Nat := 0
  exportSign : Nat := 0
  waiting : List (Nat × Nat × Nat × Nat) := []
  pendingSent : Bool := false
  powerups : Nat := 0
  entered : Nat := 0
  deriving DecidableEq, Repr

/-- A submission entry taken into execution (R418, R420) and what it still owes: the commands whose completion entries come
first, the commands a FLUSH waited for, the SQ head after it; `took` once a STRIPE_GO or RESUME has taken effect. -/
structure Cmd where
  n : Nat
  sq : Nat
  cid : Nat
  flags : Nat
  opcode : Nat
  jobId : Nat
  sel : Nat
  arg0 : Nat
  addr : Nat
  len : Nat
  addr2 : Nat
  arg1 : Nat
  ran : Bool := false
  took : Bool := false
  errFirst : Nat := 0
  errCount : Nat := 0
  after : List Nat := []
  waited : Nat := 0
  head : Nat := 0
  done : Option (Nat × Nat × Nat × Nat × Nat) := none
  deriving DecidableEq, Repr

/-- A queue pair of R417. -/
structure Queue where
  ctrl : Word := 0
  sqBase : Nat := 0
  cqBase : Nat := 0
  coalesce : Word := 0
  tail : Nat := 0
  sqHead : Nat := 0
  cqTail : Nat := 0
  cqHead : Nat := 0
  phase : Bool := true
  unsignalled : Nat := 0
  deriving DecidableEq, Repr

/-- An entry of the event ring (R426): TYPE, JOB_ID, ITEM, CODE, SEQ. -/
structure Event where
  typ : Nat
  jobId : Nat
  item : Nat
  code : Nat
  seq : Nat
  deriving DecidableEq, Repr

/-- The host interface (R414 to R427); `visible` holds the pair of each visible command, and whether its doorbell came in Dusk. -/
structure HostSt where
  queues : KMap Queue := []
  visible : List (Nat × Bool) := []
  cmds : List Cmd := []
  nextCmd : Nat := 1
  evqTail : Nat := 0
  evqHead : Nat := 0
  evqPhase : Bool := true
  evSeq : Nat := 0
  backlog : List Event := []
  goOrder : Nat := 0
  deriving DecidableEq, Repr

/-- The STRIPE record that the part keeps (R62, R340). -/
structure StripeRec where
  id : Nat
  x0 : Nat
  y0 : Nat
  dir : Nat
  rows : Nat
  ovlHigh : Nat
  ovlLow : Nat
  deriving DecidableEq, Repr

/-- A deficit entry of R192. -/
structure DefEntry where
  row : Nat
  col : Nat
  target : Nat
  rem : Nat
  status : Nat
  deriving DecidableEq, Repr

/-- A deficit list of R192: header fields and entries in order. -/
structure DefList where
  ord : Nat
  id : Nat
  pass : Nat
  state : Nat
  base : Nat
  lastRow : Option Nat
  entries : List DefEntry
  deriving DecidableEq, Repr

/-- The job header of R56. -/
structure JobHdr where
  minLevel : Nat
  jobId : Nat
  stripeCount : Nat
  stagger : Nat
  blockCount : Nat
  packer : Nat
  classUsed : Nat
  deriving DecidableEq, Repr

/-- A job slot (R430): 0 free, 1 open, 2 failed. -/
structure Job where
  status : Nat := 0
  jobId : Nat := 0
  openOrd : Nat := 0
  flatTol : Nat := 0
  fatal : Nat := 0
  keyId : Nat := 0
  key : Option (List Byte) := none
  hdr : Option JobHdr := none
  attempts : KMap Nat := []
  reqs : List Nat := []
  tabs : KMap (List Byte) := []
  penLocked : Bool := false
  profLocked : Bool := false
  recs : List StripeRec := []
  ended : List Nat := []
  completed : List Nat := []
  released : List Nat := []
  lists : List DefList := []
  passes : KMap Nat := []
  badBlocks : List (Nat × Nat × Nat × Nat) := []
  deriving DecidableEq, Repr

/-- A cached block (R337): its slot, envelope, wire CRC, seal count, and the compressed unit its seal protects
(log entry 5); its failed reads in a row (R55), and whether its last decode has ended without error (R99). -/
structure Frame where
  slot : Nat
  block : Nat
  stripe : Nat
  firstBand : Nat
  dlen : Nat
  wireCrc : Nat
  sealCtr : Nat
  env : List Byte
  unit : List Byte
  failed : Nat := 0
  opened : Bool := false
  deriving DecidableEq, Repr

/-- A codec context (R103, R104). The suspended position is held as `given`, the bytes of the input that have come so far, and
the output space granted; a resumed decode gives what a straight one gives (R104). A compressing or verifying one serves `purp` (1
trace, 2 audit export, 3 map band, 4 checkpoint unit) in its `item`: `rel` is the output released by flushes, `pend` a flush that has
not taken effect, `asked` the FLUSH command that waits for it, `retry` the second unit of R101. -/
structure Ctx where
  mode : Nat := 0
  st : Nat := 0
  inp : List Byte := []
  given : Nat := 0
  space : Nat := 0
  out : List Byte := []
  err : Nat := 0
  errOff : Nat := 0
  matchLen : Nat := 0
  matchDist : Nat := 0
  storedLeft : Nat := 0
  bits : Nat := 0
  slot : Nat := 0
  block : Nat := 0
  purp : Nat := 0
  item : Nat := 0
  flushes : Nat := 0
  rel : List Byte := []
  pend : Bool := false
  asked : Nat := 0
  retry : Bool := false
  deriving DecidableEq, Repr

/-- The contexts that the two decode engines, the compress engine and the verify engine serve (R103). -/
structure CodecEng where
  dec : List Nat := []
  comp : List Nat := []
  ver : List Nat := []
  deriving DecidableEq, Repr

/-- Where a stripe stands (R434 to R439). -/
inductive StripeSt
  | armWait | armed | waiting | writing | draining | contained
  deriving DecidableEq, Repr

/-- A stripe or patch pass that holds resources. `blocks` is its block set, closed when it was validated (R83), `bandIndex` the block
and offset of each band's first TILE (R131), `requests` the re-rasterizations that wait, as band, column and the SEQ of the record
that began each (R131 to R137), `rasterBad` the tiles to be run again on another lane than the one named (R134), `waited` that its
pre-pass has waited for a block (R159), `ckptTry` the SEQ of a checkpoint's first failed attempt (R475). `aborts` holds the STRIPE_ABORT commands that wait for its end, each with
the state it found (R439); `ckptCmds` the CHECKPOINT commands that wait for its checkpoint (R440);
`peer` a CONTAIN of its group that waits for its next flash (R603). -/
structure Stripe where
  slot : Nat
  jobId : Nat
  id : Nat
  pass : Nat
  st : StripeSt
  ord : Nat
  srec : StripeRec
  armCmd : Nat
  goCmd : Nat := 0
  addr2 : Nat := 0
  ring : Option Nat := none
  mapSet : Option Nat := none
  prepass : Nat := 0
  bandsDone : Nat := 0
  staged : Nat := 0
  tiles : List (Nat × Nat) := []
  firstRow : Nat := 0
  endRow : Nat := 0
  clips : Nat := 0
  blocks : List Nat := []
  bandIndex : KMap (Nat × Nat) := []
  requests : List (Nat × Nat × Nat) := []
  rasterBad : List (Nat × Nat × Nat) := []
  waited : Bool := false
  lostTiles : List (Nat × Nat × Nat) := []
  patch : List DefEntry := []
  zoneHold : Bool := true
  flashBase : Nat := 0
  nextCycle : Nat := 0
  aborting : Bool := false
  exitRow : Nat := 0
  counts : KMap Nat := []
  held : Int := 0
  cause : Nat := 0
  causeSeq : Nat := 0
  count : Nat := 0
  ckpt : Nat := 0
  aborts : List (Nat × Nat) := []
  ckptCmds : List Nat := []
  peer : Bool := false
  ckptMode : List Nat := []
  ckptTry : Nat := 0
  deriving DecidableEq, Repr

/-- A pixel row in the Tally or in the exit hold (R183, R24): the stripe it belongs to, its stripe row, and its
words by column; an unlisted word is the valid word of remainder 0 and MARK 0 (log entry 14). -/
structure PixRow where
  ord : Nat
  id : Nat
  row : Nat
  words : KMap (BitVec 16) := []
  deriving DecidableEq, Repr

/-- What a checkpoint slot of R332 holds once written: the header's bytes (R473), the nine units (R472), and the Tally and the stray
map that they were made from. -/
structure Ckpt where
  header : List Byte
  units : KMap (List Byte)
  tally : KMap PixRow
  caps : KMap Nat
  deriving DecidableEq, Repr

/-- A lane's frame of one flash (R220 to R228); codes by slot, absent slots 0. `missed` holds the slots that SLOT_MISS named, with FAULT;
`ended` that its last block is known to have left, `counted` that a PARTIAL frame's slots have been carried, `dropped` that DISCARD
named it (R235). -/
structure LinkFrame where
  lane : Nat
  flash : Nat
  index : Nat
  ord : Nat
  stripe : Nat := 0
  seq : Nat := 0
  width : Nat := 5
  bank : Nat := 0
  echoReq : Bool := false
  shadeAll : Bool := false
  sent : Bool := false
  ended : Bool := false
  acked : Bool := false
  replayed : Bool := false
  withheld : Bool := false
  damaged : Bool := false
  codes : KMap Nat := []
  latched : Option (Nat × Nat) := none
  missed : List (Nat × Nat) := []
  counted : Bool := false
  returned : List Nat := []
  echoed : Option Nat := none
  again : Nat := 0
  confirmed : Bool := false
  cut : Bool := false
  settled : Bool := false
  dropped : Bool := false
  deriving DecidableEq, Repr

/-- A carry or unknown-dose mark that waits for the next share cycle (R23 step 1, R188, R231). -/
structure Carry where
  index : Nat
  lane : Nat
  slot : Nat
  code : Nat
  mark : Bool
  ord : Nat
  flash : Nat
  deriving DecidableEq, Repr

/-- A forward lane (R218, R232). States as FLINK.LANE_STATE: 0 DOWN … 9 FAILED. `due` holds the replays granted and not yet sent, by flash
index and margin in ns (R227), `since` the index that its last FLASH_SET named (R226), `late` the lateness of its last frame in ns (R233),
`quick` that it wakes from low-power idle (R239), `tested` the test frames echoed (R218). -/
structure Lane where
  st : Nat := 0
  rate : Nat := 0
  prevRate : Nat := 0
  width : Nat := 0
  caps0 : Nat := 0
  caps1 : Nat := 0
  got : Nat := 0
  eyeW : Nat := 0
  eyeH : Nat := 0
  seq : Nat := 0
  naksRow : Nat := 0
  silentRow : Nat := 0
  naks : Nat := 0
  misses : Nat := 0
  wentDown : Bool := false
  echoLeft : Nat := 0
  taken : List Nat := []
  due : List (Nat × Nat) := []
  since : Nat := 0
  late : Nat := 0
  quick : Bool := false
  tested : List Nat := []
  deriving DecidableEq, Repr

/-- The Flock link beyond its registers; `slack` is the least margin to the deadline since ERR_CLEAR, with its lane (R233). -/
structure Flink where
  lanes : KMap Lane := []
  rx : Nat := 0
  frames : List LinkFrame := []
  carries : List Carry := []
  shaded : Bool := false
  bankCount : Nat := 0
  bankOn : List Bool := []
  bankDwell : List Nat := []
  strobed : List Nat := []
  sensors : KMap (Option Int) := []
  discard : Option Nat := none
  slack : Option (Nat × Nat) := none
  events : List (Nat × Nat × Nat) := []
  deriving DecidableEq, Repr

/-- A position channel (R250 to R257, R288): its count, the levels of A and B, the phase of the last sin/cos sample, the counts of the last
two serial words and the ns since the last. -/
structure Enc where
  count : Int := 0
  ab : Option (Bool × Bool) := none
  phase : Option Nat := none
  words : List Int := []
  sinceNs : Nat := 0
  off : Int := 0
  lost : Bool := false
  unref : Bool := false
  zref : Option Int := none
  stripeRef : Option Int := none
  warn : Bool := false
  detected : Nat := 0
  detDone : Bool := false
  loopNs : Nat := 0
  deriving DecidableEq, Repr

/-- Drover (R261 to R289): `gaps` holds the ps between the last strobes, newest first, `cals` the encoder records in force, `mark…` what a
checkpoint keeps of the last flash to strobe. States: 0 IDLE, 1 ARMED, 2 TRACK, 3 STILL, 4 REWIND, 5 HELD. -/
structure Drover where
  st : Nat := 0
  k : Int := -1
  y : Int := 0
  yPeak : Int := 0
  yStill : Int := 0
  baseT : Int := 0
  baseY : Int := 0
  ratio : Nat := 0
  zoneNext : Nat := 0
  o : Int := 0
  oS : Int := 0
  aux : Bool := false
  lastIndex : Nat := 0
  strobedEver : Bool := false
  xRef : Int := 0
  paceSent : Bool := false
  paceCeil : Option Nat := none
  rate16 : List Nat := []
  gaps : List Nat := []
  cals : KMap (List Byte) := []
  detecting : Bool := false
  encs : KMap Enc := []
  unconfirmed : List Nat := []
  cut : List Nat := []
  limKhz : Nat := 0
  aligned : Bool := false
  pll : Bool := false
  markPeak : Int := 0
  markT : Int := 0
  markY : Int := 0
  markRatio : Nat := 0
  markZone : Nat := 0
  bank : Nat := 0
  banks : KMap (List Byte) := []
  out : List Int := [0, 0, 0, 0]
  ramping : Bool := false
  slipPending : Bool := false
  deriving DecidableEq, Repr

/-- One axis of the stage profile generator (R298), in units of 2^-32 u. -/
structure Axis where
  p : Int := 0
  v : Int := 0
  a : Int := 0
  target : Option Int := none
  deriving DecidableEq, Repr

/-- The stage profile generator (R298 to R318). Phases as PROFILE.STATE. -/
structure Profile where
  y : Axis := {}
  x : Axis := {}
  phase : Nat := 0
  hostMove : Bool := false
  runId : Option (Nat × Nat × Nat) := none
  runDone : Bool := false
  pH : Int := 0
  held : Bool := false
  resumeWait : Bool := false
  limitedSent : Bool := false
  stop : Bool := false
  limits : KMap Nat := []
  stepOld : Int := 0
  seq : Nat := 0
  pause : Bool := false
  disp : Bool := false
  deriving DecidableEq, Repr

/-- A temperature sensor (R510 to R512): its last valid reading, the samples in a row that were bad or good. -/
structure Sensor where
  last : Option Int := none
  bad : Nat := 0
  good : Nat := 0
  failed : Bool := false
  acked : Bool := false
  deriving DecidableEq, Repr

/-- A temperature class (R513, R514, R522, R524): 0 die, 1 head, 2 memory. The samples in a row at or above, and below, each
threshold; the hold with its least ceiling; two neighbours failed together, and the stripe that then wrote. `bandUp` and
`bandDown` count for the die calibration band (R520). -/
structure TClass where
  level : Nat := 0
  above : List Nat := [0, 0, 0]
  below : List Nat := [0, 0, 0]
  relax : Bool := false
  least : Nat := 0
  pair : Bool := false
  pairOrd : Option Nat := none
  bandUp : List Nat := [0, 0]
  bandDown : List Nat := [0, 0]
  deriving DecidableEq, Repr

/-- A DRAM stack (R345 to R348): `rows` holds the row that each bank keeps open, one above its number, by physical rank, pseudo-channel and
bank; `owed` the rows whose neighbours are to be refreshed. -/
structure Stack where
  rows : KMap Nat := []
  owed : List (Nat × Nat) := []
  band : Nat := 0
  below : List Nat := [0, 0]
  selfRef : Nat := 0
  postponed : KMap Nat := []
  rate : Nat := 0
  deriving DecidableEq, Repr

/-- Rank retirement and migration (R353 to R356). -/
structure Ranks where
  ces : KMap (List Nat) := []
  ues : KMap (List Nat) := []
  passed : Nat := 0
  src : Nat := 0
  dst : Nat := 0
  seg : Nat := 0
  st : Nat := 0
  poison : List Nat := []
  deriving DecidableEq, Repr

/-- A fence table entry (R374). -/
structure FenceE where
  block : Nat
  sub : Option Nat
  inForce : Bool
  moving : Bool := false
  deriving DecidableEq, Repr

/-- A hurdle (R373, R378): the line it serves and whether it is dead. -/
structure Hurdle where
  line : Nat
  sec : Nat := 0
  dead : Bool := false
  committed : Bool := true
  deriving DecidableEq, Repr

/-- The SRAM repair state and the FILL engine (R368 to R378). -/
structure Sram where
  filled : Nat := 0
  fillRegions : List Nat := []
  recent : List (Nat × Nat) := []
  hurdles : List Hurdle := []
  fences : List FenceE := []
  noRepair : List Nat := []
  mapLost : Bool := false
  sinceLost : Nat := 0
  deriving DecidableEq, Repr

/-- A keep record, its two copies' validity, the payload of a copy 0 that is one generation ahead, and the offset of copy 0 (R533 to
R537, R552). -/
structure KeepRec where
  typ : Nat
  inst : Nat
  gen : Nat
  written : Nat
  payload : List Byte
  ok0 : Bool := true
  ok1 : Bool := true
  ahead : Option (List Byte) := none
  off : Nat := 0
  deriving DecidableEq, Repr

/-- What the planner keeps of a trend entry: the entry of R547, and the series of each instance that R550 fits (log entry 38). -/
structure TrendE where
  hours : Nat
  tjAvg : Nat
  path : Nat
  volt : Nat
  refresh : Nat
  hyst : Nat
  eyes : List (Nat × Nat × Nat)
  ces : List Nat
  hurdles : Nat
  sramCe : Nat
  strays : Nat
  encResid : Nat
  margin : Nat
  deriving DecidableEq, Repr

/-- The ageing history, what of it is in force, and the planner (R536, R547 to R550). `steps` counts the voltage steps granted,
`voltPending` those of them that wait. -/
structure Age where
  hours : Nat := 0
  steps : Nat := 0
  refreshFloor : Nat := 0
  hystFloor : Nat := 0
  refreshIn : Nat := 0
  hystIn : Nat := 0
  voltPending : Nat := 0
  voltDue : Nat := 0
  stepGain : Nat := 0
  gainWait : Option Nat := none
  spent : KMap Nat := []
  unitsOut : List Nat := []
  lanesOut : List Nat := []
  laneMarks : List (Nat × Nat) := []
  unitMarks : List (Nat × Nat) := []
  rateCap : KMap Nat := []
  avsFails : Nat := 0
  pathHour : List Nat := []
  eyesHour : List (Nat × Nat × Nat) := []
  residHour : List Nat := []
  trend : List TrendE := []
  ceEntry : Nat := 0
  deriving DecidableEq, Repr

/-- A firmware slot (R568): SVN, levels, body hash, and whether it is committed. -/
structure FwSlot where
  bytes : List Byte := []
  svn : Nat := 0
  levels : Nat := 0
  hash : Nat := 0
  committed : Bool := false
  deriving DecidableEq, Repr

/-- The Fold beyond its registers (R558 to R575); `shade` is the SHADE_OUT of R573, `mbStatus` and `mbResponse` the mailbox's (R561). A part leaves test with a valid image in slot A (log entry 36). -/
structure Fold where
  deviceKey : Nat := 0
  fieldKey : Nat := 0
  ownerKey : Option Nat := none
  keysvcKey : Option Nat := none
  serviceKey : Option Nat := none
  nonce : Option Nat := none
  debugOpen : Bool := false
  tamperHold : Bool := false
  tamperLatch : List (Nat × Nat) := []
  slots : KMap FwSlot := [(0, { levels := 0x00010001, committed := true })]
  running : Nat := 0
  next : Nat := 0
  fwRuns : Bool := false
  shade : Bool := false
  mbStatus : Nat := 0
  mbResponse : List Byte := []
  deriving DecidableEq, Repr

/-- An Ivdon port (R595, R598). States as PORT_STATE; `prevRate` is one more than the rate index of its last training, 0 before it;
`relay` while an UP port keeps lane 0 alone in service, its lane 1 in low-power idle (R599); `lane` the remaining lane of a DEGRADED
port (R596). -/
structure Port where
  st : Nat := 0
  rate : Nat := 0
  prevRate : Nat := 0
  nb : Nat := 0
  nbPort : Nat := 0
  crcFails : Nat := 0
  downs : Nat := 0
  relay : Bool := false
  lane : Nat := 0
  deriving DecidableEq, Repr

/-- The Ivdon links, the sync group and the levels (R596 to R604): the packets seen with their time, the own SEQs sent, the levels
offered by device, the epoch whose EPOCH came and has not been used, the last epoch a READY and a CONTAIN were for, the CONTAIN
packets that were only counted. -/
structure Ivdon where
  ports : KMap Port := []
  seq : Nat := 0
  seen : List (Nat × Nat) := []
  mine : List Nat := []
  ownLevel : Nat := 1
  ring : Nat := 1
  offers : KMap Nat := []
  epoch : Nat := 0
  epochGot : Bool := false
  readySent : Nat := 0
  readyFrom : List Nat := []
  containSeen : Nat := 0
  contains : Nat := 0
  dup : Bool := false
  formats : KMap Nat := []
  heard : List Nat := []
  deriving DecidableEq, Repr

/-- A trace record of R634: SEQ, PAGE, KIND, CODE, SEC, NSEC, data. -/
structure TraceRec where
  seq : Nat
  page : Nat
  kind : Nat
  code : Nat
  sec : Nat
  nsec : Nat
  data : List Nat
  deriving DecidableEq, Repr

/-- The trace (R447, R634): 0 idle, 1 armed, 2 triggered, 3 exporting, 4 done. -/
structure Trace where
  st : Nat := 0
  cmd : Nat := 0
  trigger : Nat := 0
  post : Nat := 0
  left : Nat := 0
  seq : Nat := 0
  recs : List TraceRec := []
  lost : Nat := 0
  trigSeq : Nat := 0
  deriving DecidableEq, Repr

/-- The clocks of R588 and R591, and the servo's counts; `aoFrac` is the part of a 32.768 kHz period in 10^-9, `mono` the
nanoseconds of the ticks so far, `gm` 0 for no grandmaster, 1 for the first, 2 for a later one. -/
structure Clock where
  sec : Nat := 0
  frac : Nat := 0
  aoSec : Nat := 0
  aoCount : Nat := 0
  unset : Bool := false
  exchanges : Nat := 0
  goodSync : Nat := 0
  badSync : Nat := 0
  gmLarge : Bool := false
  gm : Nat := 0
  aoFrac : Nat := 0
  mono : Nat := 0
  deriving DecidableEq, Repr

/-- A CRC engine's memory job: 0 none, 1 running, 2 stopping at the end of its line, and who started it (R406, R408). -/
structure Engine where
  run : Nat := 0
  origin : Origin := .firmware
  deriving DecidableEq, Repr

/-- Which power state stands, or none of them before the first power-up. -/
inductive Power
  | day | dusk | night
  deriving DecidableEq, Repr

/-- What the block sends or drives; the model's own account of it, newest first (log entry 6). -/
inductive Out
  | completion (q slot : Nat) (words : List Nat)
  | event (addr : Nat) (words : List Nat)
  | msix (vector : Nat)
  | ownerMsix (vector : Nat)
  | hostWrite (addr : Nat) (bytes : List Byte)
  | control (lane : Nat) (typ : Nat) (content : Nat)
  | frame (lane flash : Nat) (replay : Bool) (blocks : List (BitVec 66))
  | tests (lane : Nat) (frames : List LinkFrame)
  | strobe (index delay0 delay1 : Nat)
  | setpoint (bytes : List Byte) (line : List Bool)
  | steps (n : Int)
  | converters (v : List Int)
  | mailbox (code : Nat) (payload : List Byte)
  | i3c (bytes : List Byte)
  | i3cIrq (status : Byte)
  | packet (port : Nat) (pkt : BitVec 128) (blocks : List (Nat × BitVec 66))
  | portLpi (port lane : Nat)
  | pins (name : String) (high : Bool)
  | avsbus (mv : Nat)
  deriving DecidableEq, Repr

/-- The machine. -/
structure State where
  regs : KMap Word := []
  force : KMap Word := []
  held : KMap Word := []
  captured : KMap Word := []
  log : ErrLog := {}
  audit : Audit := {}
  power : Power := .day
  booted : Bool := false
  phase : Nat := 0
  nightReady : Bool := false
  rails : Nat := 0x7F
  beamOff : Bool := false
  fatal : Nat := 0
  host : HostSt := {}
  job0 : Job := {}
  job1 : Job := {}
  curSlot : Option Nat := none
  jobOrd : Nat := 0
  frames : KMap Frame := []
  sealCtr : Nat := 0
  ctxs : KMap Ctx := []
  codecEng : CodecEng := {}
  stripes : List Stripe := []
  stripeOrd : Nat := 0
  dtabs : KMap (List Byte) := []
  dnext : KMap (List Byte) := []
  strayHeld : List (Nat × Nat) := []
  strayPend : List (Nat × Nat) := []
  caps : KMap Nat := []
  capsNext : Option (KMap Nat) := none
  field : KMap (KMap (BitVec 16)) := []
  tileCrcs : KMap Nat := []
  density : KMap (KMap Nat) := []
  factor : KMap (KMap Nat) := []
  mapBands : KMap (List Byte) := []
  factorCrcs : KMap Nat := []
  ckptUnits : KMap (List Byte) := []
  ckpts : KMap Ckpt := []
  staging : KMap (KMap (BitVec 16)) := []
  tally : KMap PixRow := []
  hold : List PixRow := []
  flink : Flink := {}
  drover : Drover := {}
  profile : Profile := {}
  sensors : KMap Sensor := []
  tclasses : KMap TClass := []
  drams : KMap Stack := []
  ranks : Ranks := {}
  sram : Sram := {}
  bells : KMap (BitVec 64) := []
  bellDead : List (Nat × Nat) := []
  bellPending : Nat := 0
  engines : KMap Engine := []
  keep : List KeepRec := []
  keepWait : List (Nat × Nat) := []
  keepOld : List ((Nat × Nat) × Option KeepRec) := []
  keepHeld : List (Nat × Nat × List Byte) := []
  dieBand : Nat := 0
  age : Age := {}
  fold : Fold := {}
  clock : Clock := {}
  ivdon : Ivdon := {}
  trace : Trace := {}
  gpioHigh : Nat := 0
  lastCkpt : Option Nat := none
  free : Nat := 0
  out : List Out := []
  pending : List Instr := []
  deriving DecidableEq, Repr

/-- Right after reset: every register at its Reset column, nothing cached, no command waiting, the power-up
sequence of R505 not yet run (R622, R651; log entry 7). -/
def State.reset : State := {}

end Sys2Proof.Machine
end

