-- ==== Sys2Proof/Machine/Line.lean ====
section
/-! DEFINITION. Line codes: the 66-bit blocks of the Flock link, the scrambler and the blocks of a frame (R210, R211, R220, R221), and the
characters of the set-point port (R319). -/

namespace Sys2Proof.Machine

/-- A 66-bit block: the payload in [63:0], the sync header in [65:64], 10 for a control block and 01 for data (R210). -/
def lineBlock (control : Bool) (payload : Nat) : BitVec 66 := BitVec.ofNat 66 ((if control then 2 else 1) * 2 ^ 64 + payload % 2 ^ 64)

/-- A control block: its type in [7:0], its content in [63:8] (R210, R211). -/
def controlBlock (typ content : Nat) : BitVec 66 := lineBlock true (content * 256 + typ)

/-- One scrambled bit by x^58 + x^39 + 1, from the 58 bits sent before it, the latest in bit 0. -/
def scrambleBit (seed : Nat) (d : Bool) : Bool := (d ^^ seed.testBit 38) ^^ seed.testBit 57

/-- The 58 bits last on the line once one more has followed. -/
def lineSeed (seed : Nat) (b : Bool) : Nat := (2 * seed + b.toNat) % 2 ^ 58

/-- Payload bits scrambled, each from those sent before it (R210). -/
def scramble : Nat → List Bool → List Bool
  | _, [] => []
  | seed, d :: ds => let b := scrambleBit seed d; b :: scramble (lineSeed seed b) ds

/-- Payload bits as the other end reads them: it takes its seed from the line. -/
def descramble : Nat → List Bool → List Bool
  | _, [] => []
  | seed, b :: bs => scrambleBit seed b :: descramble (lineSeed seed b) bs

/-- The bits of a block's payload, bit 0 first (R210). -/
def payloadBits (b : BitVec 66) : List Bool := (List.range 64).map b.getLsbD

/-- The bits of some blocks on the line from a seed: each sync header unscrambled, 10 or 01 in this order, then its payload scrambled. -/
def lineBits : Nat → List (BitVec 66) → List Bool
  | _, [] => []
  | seed, b :: bs =>
    let out := scramble seed (payloadBits b)
    (b.getLsbD 65 :: b.getLsbD 64 :: out) ++ lineBits (out.foldl lineSeed seed) bs

/-- The header of a frame as a 128-bit number (R221). -/
def LinkFrame.header (f : LinkFrame) : Nat :=
  f.index % 2 ^ 24 + f.lane * 2 ^ 24 + (f.width - 4) * 2 ^ 30 + f.bank * 2 ^ 32 + (if f.shadeAll then 2 ^ 36 else 0) +
  (if f.replayed then 2 ^ 37 else 0) + (if f.echoReq then 2 ^ 38 else 0) + f.seq * 2 ^ 40 + f.stripe * 2 ^ 56 + f.flash * 2 ^ 88

/-- Blocks of a frame (R220). -/
def frameBlocks (w : Nat) : Nat := 64 * w + 3

/-- Bits F[0 … N − 33] of a frame as a number: header, codes, pad (R220). -/
def LinkFrame.body (f : LinkFrame) : Nat := f.codes.foldl (fun v e => v + e.2 * 2 ^ (128 + f.width * e.1)) f.header

/-- The CRC-32C of a frame over F[0 … N − 33] (R220, R242). -/
def LinkFrame.crcOf (f : LinkFrame) : Nat := crcC (leBytes ((128 + 4096 * f.width + 24) / 8) f.body)

/-- A frame's bits F[0 … N − 1] as a number (R220). -/
def LinkFrame.bits (f : LinkFrame) : Nat := f.body + f.crcOf * 2 ^ (128 + 4096 * f.width + 24)

/-- A frame as it is sent: a FRAME block with F[0 … 55], then data blocks of 64 bits each (R220). -/
def LinkFrame.blocks (f : LinkFrame) : List (BitVec 66) :=
  controlBlock 0x2D (f.bits % 2 ^ 56) :: (List.range (frameBlocks f.width - 1)).map (fun j => lineBlock false (f.bits / 2 ^ (56 + 64 * j) % 2 ^ 64))

/-! ### The set-point line -/

/-- abcdei of D.x.y under negative disparity, by x (8b/10b, R319; the code itself is PRESUMED, log entry 174). -/
def sixTab : List Nat :=
  [0b100111, 0b011101, 0b101101, 0b110001, 0b110101, 0b101001, 0b011001, 0b111000, 0b111001, 0b100101, 0b010101, 0b110100, 0b001101, 0b101100,
   0b011100, 0b010111] ++
  [0b011011, 0b100011, 0b010011, 0b110010, 0b001011, 0b101010, 0b011010, 0b111010, 0b110011, 0b100110, 0b010110, 0b110110, 0b001110, 0b101110,
   0b011110, 0b101011]

/-- fghj of D.x.y under negative disparity, by y. -/
def fourTab : List Nat := [0b1011, 0b1001, 0b0101, 0b1100, 0b1101, 0b1010, 0b0110, 0b1110]

/-- The n low bits of a number, the highest first. -/
def bitsOf (n v : Nat) : List Bool := (List.range n).map (fun i => v.testBit (n - 1 - i))

/-- A sub-block for a running disparity, positive where `rd`, and the disparity after it: one that is not balanced, or has two forms, is
complemented under positive disparity. -/
def subBlock (n v : Nat) (twoForms rd : Bool) : List Bool × Bool :=
  let even := decide (2 * ((bitsOf n v).filter id).length = n)
  (bitsOf n (if rd ∧ (!even ∨ twoForms) then 2 ^ n - 1 - v else v), if even then rd else !rd)

/-- A data character D.x.y (R319). -/
def char10 (rd : Bool) (b : Nat) : List Bool × Bool :=
  let x := b % 32
  let y := b / 32 % 8
  let p := subBlock 6 (sixTab.getD x 0) (x = 7) rd
  let alt := y = 7 ∧ ((!p.2 ∧ (x = 17 ∨ x = 18 ∨ x = 20)) ∨ (p.2 ∧ (x = 11 ∨ x = 13 ∨ x = 14)))
  let q := subBlock 4 (if alt then 0b0111 else fourTab.getD y 0) (y = 3) p.2
  (p.1 ++ q.1, q.2)

/-- The comma K28.5. -/
def comma10 (rd : Bool) : List Bool × Bool := (bitsOf 10 (if rd then 0b1100000101 else 0b0011111010), !rd)

/-- A frame of 25 characters on the line and the disparity after it (R319). -/
def setpointLine (rd : Bool) (bytes : List Byte) : List Bool × Bool :=
  bytes.foldl (fun l b => let c := char10 l.2 b.toNat; (l.1 ++ c.1, c.2)) (comma10 rd)

/-! ### Outputs -/

/-- What an output puts on a forward lane: the lane and its blocks. -/
def Out.line : Out → Option (Nat × List (BitVec 66))
  | .control lane typ content => some (lane, [controlBlock typ content])
  | .frame lane _ _ blocks => some (lane, blocks)
  | .tests lane fs => some (lane, fs.flatMap LinkFrame.blocks)
  | _ => none

end Sys2Proof.Machine
end

