-- ==== Sys2Proof/Machine/Ops.lean ====
section
/-! DEFINITION. The operations the families share: registers, interrupts, error records, the audit log,
completions and events, stripes, containment, job-fatal and device-fatal handling. -/

namespace Sys2Proof.Machine

/-! ### Registers -/

/-- The block class of a page (R617). -/
def pageClass (p : Nat) : Nat :=
  if p ≤ 2 ∨ p = 5 ∨ p = 6 ∨ p ≥ 0x1A then 1 else if p ≤ 4 then 2 else if p = 7 then 3
  else if p ≤ 0x0D then 4 else if p ≤ 0x10 then 5 else if p ≤ 0x13 then 6 else 7

/-- The rows of a page at an offset. -/
def rowsAt (page off : Nat) : List RegRow := (pageRows page).filter (fun r => r.off = off)

/-- The reset value of a register (R618, R622); a register shown per channel or port lies at its address plus 0x100000
times the number, with one reset value. -/
def regReset (b : RegAddr) : Word :=
  let a := b % 0x100000
  if a % 0x1000 = 0 then BitVec.ofNat 32 ((a / 0x1000) * 2 ^ 24 + pageClass (a / 0x1000) * 2 ^ 16 + 1)
  else BitVec.ofNat 32 ((rowsAt (a / 0x1000) (a % 0x1000)).foldl (fun v r => Nat.lor v r.reset) 0)

/-- The value of a register. -/
def State.rd (s : State) (a : RegAddr) : Nat := (kget regReset s.regs a).toNat

/-- A register set by the hardware. -/
def State.wr (s : State) (a : RegAddr) (v : Nat) : State :=
  { s with regs := kset regReset s.regs a (BitVec.ofNat 32 v) }

/-- A field of a register. -/
def State.fld (s : State) (a : RegAddr) (hi lo : Nat) : Nat := fieldOf (s.rd a) hi lo

/-- A field of a register set by the hardware. -/
def State.setFld (s : State) (a : RegAddr) (hi lo x : Nat) : State := s.wr a (withField (s.rd a) hi lo x)

/-- A saturating count advanced. -/
def State.bump (s : State) (a : RegAddr) (hi lo n : Nat) : State :=
  s.setFld a hi lo (satAdd (2 ^ (hi + 1 - lo) - 1) (s.fld a hi lo) n)

/-- A 32-bit saturating count advanced by one. -/
def State.inc (s : State) (a : RegAddr) : State := s.bump a 31 0 1

/-- The larger of a field and a value kept; a value too wide keeps its low bits only (R15). -/
def State.maxFld (s : State) (a : RegAddr) (hi lo x : Nat) : State := s.setFld a hi lo (max (s.fld a hi lo) x)

/-- The value in force of an RWB register: the one brought into force at the last stripe boundary (R11). -/
def State.inForce (s : State) (a : RegAddr) : Nat := (kget regReset s.force a).toNat

/-- An _L and _H pair as one value. -/
def State.rd64 (s : State) (a : RegAddr) : Nat := s.rd a + 2 ^ 32 * s.rd (a + 4)

/-- An _L and _H pair in force. -/
def State.inForce64 (s : State) (a : RegAddr) : Nat := s.inForce a + 2 ^ 32 * s.inForce (a + 4)

/-- An _L and _H pair set by the hardware. -/
def State.wr64 (s : State) (a : RegAddr) (v : Nat) : State := (s.wr a (v % 2 ^ 32)).wr (a + 4) (v / 2 ^ 32 % 2 ^ 32)

/-- CTRL.ENABLE of a page, which mirrors STATUS.ENABLED (R619). -/
def State.enabled (s : State) (page : Nat) : Bool := s.fld (page * 0x1000 + 4) 0 0 == 1

/-- What leaves the block. -/
def State.emit (s : State) (o : Out) : State := { s with out := o :: s.out }

/-- A fresh number for a value the spec leaves open. -/
def State.fresh (s : State) : Nat × State := (s.free, { s with free := s.free + 1 })

/-- TIME nanoseconds (R588). -/
def State.nsec (s : State) : Nat := s.clock.frac / 2 ^ 32

/-! ### Interrupts -/

/-- Page interrupts signal PAGE_IRQ_VECTOR while a pending bit is enabled (R425, R620). -/
def State.signalPage (s : State) (page before : Nat) : State :=
  let live := Nat.land (s.rd (page * 0x1000 + 0x18)) (s.rd (page * 0x1000 + 0x14))
  if before = 0 ∧ live ≠ 0 then s.emit (.msix (s.fld R.HOST_PAGE_IRQ_VECTOR 5 0)) else s

/-- A source asserted: a rise of the RAW bit sets the PEND bit (R620). -/
def State.raiseIrq (s : State) (page bit : Nat) : State :=
  let raw := page * 0x1000 + 0x10
  let pend := page * 0x1000 + 0x18
  if s.fld raw bit bit = 1 then s
  else
    let before := Nat.land (s.rd pend) (s.rd (page * 0x1000 + 0x14))
    ((s.setFld raw bit bit 1).setFld pend bit bit 1).signalPage page before

/-- A condition source that ends (R620). -/
def State.dropIrq (s : State) (page bit : Nat) : State := s.setFld (page * 0x1000 + 0x10) bit bit 0

/-! ### Trace and error records -/

/-- A record into the trace pool; after the trigger the export begins with the last record to be kept (R447, R634). -/
def Trace.push (t : Trace) (r : TraceRec) : Trace :=
  let t1 := { t with seq := t.seq + 1, recs := (r :: t.recs).take 262144 }
  if t.st = 2 then { t1 with left := t.left - 1, st := if t.left ≤ 1 then 3 else 2 } else t1

/-- The trigger fires (R447): POST % of the pool is still to come. -/
def Trace.fire (t : Trace) : Trace :=
  let left := 262144 * t.post / 100
  { t with st := if left = 0 then 3 else 2, trigSeq := t.seq - 1, left }

/-- A trace record of a page whose TRACE_EN is 1, while a trace is armed (R634). -/
def State.traceRec (s : State) (page kind code : Nat) (data : List Nat) : State :=
  if (s.trace.st = 1 ∨ s.trace.st = 2) ∧ s.fld (page * 0x1000 + 4) 3 3 = 1 then
    let r : TraceRec := ⟨s.trace.seq, page, kind, code, s.clock.sec % 2 ^ 32, s.nsec, data⟩
    { s with trace := s.trace.push r }
  else s

/-- The level at which a class stands: a pair of failed neighbours puts it at shutdown once the stripe that then wrote has ended
(R513, R524). -/
def State.classLevel (s : State) (c : Nat) : Nat :=
  let x := kget (fun _ => {}) s.tclasses c
  if x.pair ∧ !s.stripes.any (fun t => some t.ord = x.pairOrd) then 3 else x.level

/-- A class stands at shutdown (R515). -/
def State.anyShutdown (s : State) : Bool := [0, 1, 2].any (fun c => s.classLevel c = 3)

/-- The blocks of R515 are in clock-off: a die or memory level at shutdown, the containment or drain over. -/
def State.clockHeld (s : State) : Bool :=
  (s.classLevel 0 = 3 || s.classLevel 2 = 3) &&
  s.stripes.all (fun t => match t.st with | .writing => false | .draining => false | .contained => t.ckpt = 3 | _ => true)

/-- The pages that clock-off names (R515). -/
def heldPages : List Nat := [9, 10, 11, 12, 13, 17, 18]

/-- CLK.ON of a page (R506, R515). -/
def State.clkRuns (s : State) (p : Nat) : Bool := s.fld R.CLK_ON p p = 1 && !(s.clockHeld && heldPages.contains p)

/-- STATUS [5:0] of a page but for BUSY, whose times are not held: ENABLED, REFUSED, CLK_ON, ERROR, LOCKED (R619). -/
def State.statusLow (s : State) (p : Nat) : Nat :=
  (if s.enabled p then 1 else 0) + (if s.rd (p * 0x1000 + 0x0C) ≠ 0 then 2 else 0) + (if s.clkRuns p then 8 else 0) +
  (if s.rd (p * 0x1000 + 0x20) ≠ 0 then 16 else 0) + (if s.fld (p * 0x1000 + 0x28) 1 0 ≠ 0 then 32 else 0)

/-- The trace record of a change of STATUS [5:0] from state s to state t (R634). -/
def State.traced (p : Nat) (s t : State) : State :=
  if s.statusLow p = t.statusLow p then t else t.traceRec p 2 0 [s.statusLow p, t.statusLow p]

/-- What an error record names. -/
structure RecArg where
  code : Nat
  cls : Nat
  origin : Origin := .hardware
  det : Option Nat := none
  lk : Nat := 0
  l0 : Nat := 0
  l1 : Nat := 0
  l2 : Nat := 0
  stripe : Option (Nat × Nat) := none
  cmd : Option Nat := none
  cause : Nat := 0

/-- The page that detected the error. -/
def RecArg.page (a : RecArg) : Nat := a.det.getD (a.code / 256)

/-- A started command by its number. -/
def State.cmd? (s : State) (n : Nat) : Option Cmd := s.host.cmds.find? (fun c => c.n = n)

/-- A started command changed. -/
def State.setCmd (s : State) (n : Nat) (f : Cmd → Cmd) : State :=
  { s with host := { s.host with cmds := s.host.cmds.map (fun c => if c.n = n then f c else c) } }

/-- Free entries of the error log (R459). -/
def State.logFree (s : State) : Nat := 16384 - s.log.used

/-- An event only counted (R465). -/
def State.countOnly (s : State) (page : Nat) : State := (s.traced page (s.inc (page * 0x1000 + 0x20))).inc R.SYS_COALESCED

/-- The record that an argument makes in a state (R460). -/
def State.mkRec (s : State) (a : RecArg) : ErrRec :=
  let cmd := a.cmd.bind s.cmd?
  { seq := s.log.nextSeq, code := a.code, locKind := a.lk, detector := a.page, origin := a.origin.code, cls := a.cls,
    jobId := match a.stripe with
      | some st => st.1
      | none => (cmd.map (·.jobId)).getD 0,
    stripeId := (a.stripe.map (·.2)).getD 0xFFFFFFFF, flash := s.drover.lastIndex,
    cmd := cmd.map (fun c => (c.sq, c.cid)), sec := s.clock.sec, nsec := s.nsec,
    loc0 := a.l0 % 2 ^ 32, loc1 := a.l1 % 2 ^ 32, loc2 := a.l2 % 2 ^ 32, causeSeq := a.cause % 2 ^ 32 }

/-- A record into the log ring, with the registers that show it (R459). -/
def State.logRec (s : State) (r : ErrRec) : State :=
  let s1 := { s with log := { s.log with recs := (r :: s.log.recs).take 16384, nextSeq := r.seq + 1, used := s.log.used + 1 } }
  ((s1.setFld R.SYS_ERRLOG_TAIL 13 0 (s1.fld R.SYS_ERRLOG_TAIL 13 0 + 1)).wr R.SYS_ERRLOG_FREE s1.logFree).wr64
    R.SYS_ERRLOG_SEQ_L r.seq

/-- A record charged to the command that met it (R419). -/
def Cmd.charge (c : Cmd) (seq : Nat) : Cmd :=
  { c with errFirst := if c.errCount = 0 then seq else c.errFirst, errCount := satAdd 65535 c.errCount 1 }

/-- The page's first-error summary and its count (R461). -/
def State.pageErr (s : State) (p seq code : Nat) : State :=
  let s1 := if s.rd (p * 0x1000 + 0x20) = 0 then s.wr (p * 0x1000 + 0x1C) (seq % 2 ^ 16 * 2 ^ 16 + code) else s
  s.traced p (s1.inc (p * 0x1000 + 0x20))

/-- An armed trace triggered by its code (R447). -/
def State.traceTrigger (s : State) (code : Nat) : State :=
  if s.trace.st = 1 ∧ s.trace.trigger = code ∧ code ≠ 0 then { s with trace := s.trace.fire } else s

/-- A record written, made readable, then summarised on its page and signalled (R462). -/
def State.writeRec (s : State) (a : RecArg) : State :=
  let r := s.mkRec a
  let s1 := s.logRec r
  let s2 := match a.cmd with
    | none => s1
    | some n => s1.setCmd n (fun c => c.charge r.seq)
  let s3 := (s2.pageErr a.page r.seq r.code).traceRec a.page 1 r.code [r.seq, r.loc0, r.loc1, r.loc2]
  let s4 := (s3.traceTrigger a.code).raiseIrq a.page 31
  if a.cls ≥ 2 ∧ a.cls ≤ 4 then s4.raiseIrq 0 0 else s4

/-- A record under the room rules of R465, without the containment that 64 free entries cause. -/
def State.recordRaw (s : State) (a : RecArg) : State :=
  let low := a.cls = 0 ∨ a.cls = 1 ∨ a.cls = 7
  if s.logFree ≤ 256 ∧ low then
    let s := s.countOnly a.page
    if s.log.lowSent ∨ s.logFree = 0 then s
    else ({ s with log := { s.log with lowSent := true } }.writeRec { code := Code.SYS_ERRLOG_LOW, cls := 0 }).raiseIrq 0 1
  else if s.logFree = 0 then s.countOnly a.page
  else s.writeRec a

/-! ### The audit log -/

/-- The 80-byte body of an audit record (R577). -/
def AuditRec.body (r : AuditRec) : List Byte :=
  leBytes 4 r.seq ++ leBytes 2 (r.seq / 2 ^ 32) ++ leBytes 2 r.kind ++ leBytes 4 r.sec ++ leBytes 2 (r.sec / 2 ^ 32) ++
  [0, BitVec.ofNat 8 r.origin] ++ leBytes 4 r.nsec ++ leBytes 4 (r.addr / 0x1000 * 2 ^ 16 + r.addr % 0x1000) ++
  leBytes 8 r.old ++ leBytes 8 r.new ++ ((r.detail.flatMap (leBytes 4)) ++ List.replicate 36 0).take 36 ++ leBytes 4 r.errSeq

/-- Free slots of the audit pool (R581). -/
def State.auditFree (s : State) : Nat := 32768 - s.audit.pool.length

/-- A part as it leaves test: format level 1, and the rank map of R329. -/
def bellFactory (n : Nat) : BitVec 64 := if n = 1 then 1 else if n = 5 then 0x0FB00A9876543210 else 0

/-- A bell word's voted value (R380, R382). -/
def State.bell (s : State) (n : Nat) : Nat := (kget bellFactory s.bells n).toNat

/-- A bell word set once its write has committed (R383). -/
def State.putBell (s : State) (n v : Nat) : State := { s with bells := kset bellFactory s.bells n (BitVec.ofNat 64 v) }

/-- A signature of the chain begun (R579). -/
def State.beginSign (s : State) : State :=
  { s with audit := { s.audit with signing := some (s.audit.nextSeq - 1, s.audit.chain), sinceSign := 0 } }

/-- An audit record committed before the change it names takes effect (R576, R578); with no slot free it waits in
the Fold's list, where repeats of one kind at one address merge (R582). -/
def State.commit (s : State) (kind : Nat) (o : Origin) (addr old new : Nat) (detail : List Nat) : State :=
  if s.auditFree = 0 then
    let a := s.audit
    let w := if a.waiting.any (fun x => x.1 = kind ∧ x.2.1 = addr)
      then a.waiting.map (fun x => if x.1 = kind ∧ x.2.1 = addr then (x.1, x.2.1, new, x.2.2.2 + 1) else x)
      else (a.waiting ++ [(kind, addr, new, 1)]).take 256
    ({ s with audit := { a with waiting := w } }).setFld R.AUDIT_WAITING 8 0 w.length
  else
    let r : AuditRec := { seq := s.audit.nextSeq, kind, sec := s.clock.sec, nsec := s.nsec, origin := o.code, addr, old, new,
                          detail, errSeq := 0, chain := 0 }
    let c := Config.sha384 (beBytes 48 s.audit.chain ++ r.body)
    let s := { s with audit := { s.audit with pool := .record { r with chain := c } :: s.audit.pool, entered := s.audit.entered + 1, nextSeq := r.seq + 1,
                                              chain := c, sinceSign := s.audit.sinceSign + 1 } }
    let s := ((s.putBell 3 r.seq).wr64 R.AUDIT_HEAD_L r.seq).wr R.AUDIT_FREE s.auditFree
    let s := if kind = 1 then s.wr (addr / 0x1000 * 0x1000 + 0x2C) (r.seq % 2 ^ 32) else s
    if s.audit.sinceSign ≥ 4096 ∧ s.audit.signing = none then s.beginSign else s

/-- The pool is full to every origin but Firmware (R582). -/
def State.auditFull (s : State) : Bool := s.auditFree ≤ 512

/-- A change refused because the pool is full: counted, and vector 1 of PF1 signalled (R561, R582). -/
def State.countFull (s : State) : State := (s.bump R.AUDIT_WAITING 31 16 1).emit (.ownerMsix 1)

/-! ### Completions and events -/

/-- A queue pair. -/
def State.queue (s : State) (q : Nat) : Queue := kget (fun _ => {}) s.host.queues q
/-- A queue pair changed. -/
def State.setQueue (s : State) (q : Nat) (x : Queue) : State :=
  { s with host := { s.host with queues := kset (fun _ => {}) s.host.queues q x } }
/-- Q_CTRL.EN. -/
def Queue.en (q : Queue) : Bool := q.ctrl.getLsbD 31
/-- Entries of the pair: SIZE_M1 + 1. -/
def Queue.size (q : Queue) : Nat := q.ctrl.toNat % 4096 + 1
/-- Completion entries written and not released. -/
def Queue.owed (q : Queue) : Nat := (q.cqTail + q.size - q.cqHead % q.size) % q.size
/-- The CQ is full: one more entry would make tail meet head (log entry 9). -/
def Queue.full (q : Queue) : Bool := decide (q.owed + 1 ≥ q.size)

/-- The 8 words of a completion entry (R419). -/
def complWords (c : Cmd) (d : Nat × Nat × Nat × Nat × Nat) (head : Nat) (phase : Bool) : List Nat :=
  [d.2.1 % 2 ^ 32, d.2.2.1 % 2 ^ 32, d.2.2.2.1 % 2 ^ 32, d.2.2.2.2 % 2 ^ 32, if c.errCount = 0 then 0 else c.errFirst % 2 ^ 32,
   head % 4096 * 2 ^ 20 + c.sq * 2 ^ 14 + (if phase then 1 else 0), c.cid * 2 ^ 16 + d.1, c.errCount]

/-- The oldest command of a pair, if it is done and nothing it must follow is still to be written (R422, R423). -/
def State.nextDone (s : State) (q : Nat) : Option (Cmd × (Nat × Nat × Nat × Nat × Nat)) :=
  match s.host.cmds.find? (fun c => c.sq = q) with
  | none => none
  | some c => match c.done with
    | none => none
    | some d => if c.after.any (fun m => s.host.cmds.any (fun x => x.n = m)) then none else some (c, d)

/-- One completion entry written, with its interrupt by R425. -/
def State.writeCompletion (s : State) (q : Nat) (c : Cmd) (d : Nat × Nat × Nat × Nat × Nat) : State :=
  let x := s.queue q
  let last := x.cqTail + 1 ≥ x.size
  let s := s.emit (.completion q x.cqTail (complWords c d c.head x.phase))
  let x := { x with cqTail := if last then 0 else x.cqTail + 1, phase := if last then !x.phase else x.phase,
                    unsignalled := x.unsignalled + 1 }
  let s := { s with host := { s.host with cmds := s.host.cmds.filter (fun y => y.n ≠ c.n) } }
  if x.unsignalled ≥ max 1 (fieldOf x.coalesce.toNat 23 16) ∨ fieldOf x.coalesce.toNat 15 0 = 0
  then (s.setQueue q { x with unsignalled := 0 }).emit (.msix (fieldOf x.ctrl.toNat 21 16))
  else s.setQueue q x

/-- Every completion that may be written now, in the order of R422; fuel bounds the number of commands. -/
def State.drainCq : Nat → State → State
  | 0, s => s
  | f + 1, s =>
    match (s.host.cmds.map (·.sq)).find? (fun q => !(s.queue q).full && (s.nextDone q).isSome) with
    | none => s
    | some q => match s.nextDone q with
      | none => s
      | some (c, d) => State.drainCq f (s.writeCompletion q c d)

/-- Completions that may now be written. -/
def State.drain (s : State) : State := State.drainCq (s.host.cmds.length + 1) s

/-- A command completes with STATUS and RES0 to RES3 (R419). -/
def State.complete (s : State) (n status : Nat) (r0 r1 r2 r3 : Nat := 0) : State :=
  (s.setCmd n (fun c => if c.done.isSome then c else { c with done := some (status, r0, r1, r2, r3), ran := true })).drain

/-- A command fails with a code of CLASS 7: one record, then its completion (R463). -/
def State.fail (s : State) (n code : Nat) (lk l0 l1 l2 : Nat := 0) : State :=
  ((s.recordRaw { code, cls := 7, origin := .operator, lk, l0, l1, l2, cmd := some n })).complete n code

/-- Size of the event ring. -/
def State.evqSize (s : State) : Nat := s.fld R.HOST_EVQ_CTRL 11 0 + 1
/-- The ring has room for an entry. -/
def State.evqRoom (s : State) : Bool :=
  s.fld R.HOST_EVQ_CTRL 31 31 = 1 && decide ((s.host.evqTail + s.evqSize - s.host.evqHead % s.evqSize) % s.evqSize + 1 < s.evqSize)

/-- The 8 words of an event (R426). -/
def Event.words (e : Event) (phase : Bool) : List Nat :=
  [e.typ % 256, e.jobId, e.item, e.code % 65536, e.seq % 2 ^ 32, 0, 0, if phase then 1 else 0]

/-- An event written to the ring, then its vector signalled (R426). -/
def State.putEvent (s : State) (e : Event) : State :=
  let last := s.host.evqTail + 1 ≥ s.evqSize
  let s := s.emit (.event (s.rd64 R.HOST_EVQ_BASE_L + 32 * s.host.evqTail) (e.words s.host.evqPhase))
  let s := { s with host := { s.host with evqTail := if last then 0 else s.host.evqTail + 1,
                                          evqPhase := if last then !s.host.evqPhase else s.host.evqPhase } }
  s.emit (.msix (s.fld R.HOST_EVQ_CTRL 21 16))

/-- An event: written, held back while the ring is full, or counted beyond 256 (R426). -/
def State.event (s : State) (typ jobId item code : Nat) : State :=
  let s := { s with host := { s.host with evSeq := s.host.evSeq + 1 } }
  let e : Event := ⟨typ, jobId, item, code, s.host.evSeq⟩
  if s.evqRoom ∧ s.host.backlog = [] then s.putEvent e
  else if s.host.backlog.length < 256 then { s with host := { s.host with backlog := s.host.backlog ++ [e] } }
  else s.recordRaw { code := Code.HOST_EVQ_OVERFLOW, cls := 1 }

/-- An event that is kept whatever waits: the JOB_FAILED of a job that lost a REREQUEST (R426). -/
def State.eventKept (s : State) (typ jobId item code : Nat) : State :=
  let s := { s with host := { s.host with evSeq := s.host.evSeq + 1 } }
  let e : Event := ⟨typ, jobId, item, code, s.host.evSeq⟩
  if s.evqRoom ∧ s.host.backlog = [] then s.putEvent e else { s with host := { s.host with backlog := s.host.backlog ++ [e] } }

/-- Events held back, written while the ring has room (R426). -/
def State.drainEvents : Nat → State → State
  | 0, s => s
  | f + 1, s =>
    match s.host.backlog with
    | [] => s
    | e :: es => if s.evqRoom then State.drainEvents f ({ s with host := { s.host with backlog := es } }.putEvent e) else s

/-! ### Jobs and stripes -/

/-- A job slot. -/
def State.job (s : State) (i : Nat) : Job := if i = 0 then s.job0 else s.job1
/-- A job slot set. -/
def State.setJob (s : State) (i : Nat) (j : Job) : State := if i = 0 then { s with job0 := j } else { s with job1 := j }
/-- A job slot changed. -/
def State.modJob (s : State) (i : Nat) (f : Job → Job) : State := s.setJob i (f (s.job i))

/-- The slot that holds a JOB_ID, open or failed (R430). -/
def State.slotOf (s : State) (jobId : Nat) : Option Nat :=
  if s.job0.status ≠ 0 ∧ s.job0.jobId = jobId then some 0
  else if s.job1.status ≠ 0 ∧ s.job1.jobId = jobId then some 1 else none

/-- The slot of the current job (R430). -/
def State.current (s : State) : Nat :=
  match s.curSlot with
  | some i => if (s.job i).status ≠ 0 then i
              else if s.job0.status = 1 then 0 else if s.job1.status = 1 then 1 else 0
  | none => if s.job0.status = 1 ∧ (s.job1.status ≠ 1 ∨ s.job0.openOrd < s.job1.openOrd) then 0
            else if s.job1.status = 1 then 1 else 0

/-- A stripe that writes. -/
def State.writing (s : State) : Option Stripe := s.stripes.find? (fun t => t.st = .writing)
/-- A stripe that is contained. -/
def State.containedS (s : State) : Option Stripe := s.stripes.find? (fun t => t.st = .contained)
/-- The stripe that writes or is contained; there is at most one (R436). -/
def State.active (s : State) : Option Stripe := s.stripes.find? (fun t => t.st = .writing ∨ t.st = .contained)
/-- The oldest stripe in the exit hold's care: draining, else active. -/
def State.checking (s : State) : Option Stripe := (s.stripes.find? (fun t => t.st = .draining)).or s.active
/-- A stripe by slot, number and pass. -/
def State.stripe? (s : State) (slot id pass : Nat) : Option Stripe :=
  s.stripes.find? (fun t => t.slot = slot ∧ t.id = id ∧ t.pass = pass)
/-- Stripes changed where a condition holds. -/
def State.modStripes (s : State) (p : Stripe → Bool) (f : Stripe → Stripe) : State :=
  { s with stripes := s.stripes.map (fun t => if p t then f t else t) }
/-- One stripe changed. -/
def State.modStripe (s : State) (x : Stripe) (f : Stripe → Stripe) : State := s.modStripes (fun t => t.ord = x.ord) f
/-- What a record of a stripe names. -/
def Stripe.who (x : Stripe) : Option (Nat × Nat) := some (x.jobId, x.id)

/-- The stripe width W in columns (R142, R183). -/
def State.width (s : State) : Nat := if s.fld R.SHEPHERD_MODE 4 4 = 0 then 8192 else 4096
/-- The stagger S (R172). -/
def State.stagger (s : State) : Nat := if s.fld R.SHEPHERD_MODE 4 4 = 0 then 16 else 8
/-- The last flash of a stripe or pass (R173, R443). -/
def Stripe.lastFlash (x : Stripe) : Nat := x.endRow + 8191

/-- The deficit list of a stripe or pass. -/
def State.list? (s : State) (x : Stripe) : Option DefList :=
  (s.job x.slot).lists.find? (fun d => d.ord = x.ord)

/-- TALLY shows the stripe whose rows are checked, from the moment it takes that place (R202, R205, R207). -/
def State.showCheck (s : State) : State :=
  match s.checking with
  | none => s
  | some x =>
    let d := s.list? x
    let n := fun (i : Nat) => kget (fun _ => 0) x.counts i % 65536
    let s1 := ((s.wr R.TALLY_CNT_A (n 2 * 65536 + n 1)).wr R.TALLY_CNT_B (n 4 * 65536 + n 3)).wr R.TALLY_CNT_C (n 6 * 65536 + n 5)
    (((s1.wr R.TALLY_CHECK_STRIPE x.id).wr R.TALLY_EXIT_ROW x.exitRow).wr R.TALLY_DEFICIT_COUNT ((d.map (·.entries.length)).getD 0)).wr
      R.TALLY_DEFICIT_BASE ((d.map (·.base)).getD 0 / 64)

/-- Present-state registers that show the stripes (R458 table, R622). -/
def State.showStripes (s : State) : State :=
  let now := s.stripes.find? (fun t => t.st = .waiting ∨ t.st = .writing ∨ t.st = .draining ∨ t.st = .contained)
  let next := s.stripes.find? (fun t => t.st = .armed)
  let code := fun (t : Stripe) => match t.st with | .waiting => 1 | .writing => 2 | .draining => 3 | .contained => 4 | _ => 0
  let s := (s.wr R.HOST_STRIPE_NOW ((now.map (·.id)).getD 0xFFFFFFFF)).wr R.HOST_STRIPE_NEXT ((next.map (·.id)).getD 0xFFFFFFFF)
  let s := s.wr R.HOST_STRIPE_STATE ((next.map (·.slot)).getD 0 * 512 + (now.map (·.slot)).getD 0 * 256 + (now.map code).getD 0)
  (s.setFld R.CLK_PREWARM 31 31 (if s.stripes.any (fun t => t.st ≠ .armWait) then 1 else 0)).showCheck

/-! ### Lanes and shading -/

/-- A forward lane. -/
def State.lane (s : State) (l : Nat) : Lane := kget (fun _ => {}) s.flink.lanes l
/-- A forward lane set. -/
def State.setLane (s : State) (l : Nat) (x : Lane) : State :=
  { s with flink := { s.flink with lanes := kset (fun _ => {}) s.flink.lanes l x } }
/-- IDLE or ACTIVE (R248). -/
def Lane.up (x : Lane) : Bool := x.st = 6 || x.st = 7
/-- A control block on every lane that is up (R234, R235). -/
def State.allLanes (s : State) (typ content : Nat) : State :=
  (List.range 64).foldl (fun s l => if (s.lane l).up then s.emit (.control l typ content) else s) s

/-- A frame of the link changed. -/
def State.modFrame (s : State) (lane index : Nat) (f : LinkFrame → LinkFrame) : State :=
  { s with flink := { s.flink with frames := s.flink.frames.map (fun x => if x.lane = lane ∧ x.index = index then f x else x) } }

/-- Every frame of the link changed. -/
def State.modFrames (s : State) (f : LinkFrame → LinkFrame) : State := { s with flink := { s.flink with frames := s.flink.frames.map f } }

/-- A frame by lane and flash index. -/
def State.frame? (s : State) (lane index : Nat) : Option LinkFrame :=
  s.flink.frames.find? (fun f => f.lane = lane && f.index = index)

/-- The frame that a lane may be sending: the newest it has begun, with its last block not known to have left. Whether that block has left
is a time, which is not held (log entry 163). -/
def State.underWay (s : State) (l : Nat) : Option LinkFrame :=
  ((sortBy (·.index) (s.flink.frames.filter (fun f => f.lane = l && f.sent && !f.dropped))).getLast?).filter
    (fun f => !f.ended && !f.settled && !s.flink.strobed.contains f.index && Config.lineBusy s.free l f.index)

/-- RESUME of a frame that a lane has suspended (R211, R227, R234). -/
def State.resumeFrame (s : State) (l : Nat) : State :=
  match s.underWay l with
  | none => s
  | some f => s.emit (.control l 0x33 (f.index % 2 ^ 24 * 2 ^ 16 + f.seq))

/-- A frame's last block beats its deadline by some ns: FLINK.SLACK_MIN keeps the least (R233). -/
def State.noteSlack (s : State) (l ns : Nat) : State :=
  match s.flink.slack with
  | some (_, m) => if m ≤ ns then s else { s with flink := { s.flink with slack := some (l, ns) } }
  | none => { s with flink := { s.flink with slack := some (l, ns) } }

/-- A replay is sent: the frame bit for bit but for REPLAY, its CRC computed again (R222, R227). -/
def State.sendReplay (s : State) (l index ns : Nat) : State :=
  match s.frame? l index with
  | none => s
  | some f =>
    let g := { f with replayed := true, ended := false }
    let s1 := (s.inc R.FLINK_RETX_COUNT).modFrame l index (fun _ => g)
    ((s1.setLane l { s1.lane l with echoLeft := s1.fld R.MIRROR_WINDOW 15 0 }).noteSlack l ns).emit (.frame l index true g.blocks)

/-- The replays that wait on a lane, in the order of their NAKs (R227). -/
def State.sendDue (s : State) (l : Nat) : State :=
  let x := s.lane l
  if x.due = [] then s
  else x.due.foldl (fun s d => s.sendReplay l d.1 d.2) (s.setLane l { x with due := [] })

/-- A block boundary of a lane with nothing else to send: replays that wait leave ahead of the frame they suspend (R227). -/
def State.boundaryOf (s : State) (l : Nat) : State :=
  if (s.lane l).due = [] then s else ((s.sendDue l).resumeFrame l).fresh.2

/-- A SHADE block on every lane that is up, ahead of the replays that wait and of the frame in progress (R234, R244). -/
def State.shadeBlocks (s : State) (content : Nat) : State :=
  ((List.range 64).foldl (fun s l =>
    if (s.lane l).up then ((s.emit (.control l 0x4B content)).sendDue l).resumeFrame l else s) s).fresh.2
/-- SHADE on, with or without NOW (R211, R234). -/
def State.shadeOn (s : State) (now : Bool) : State :=
  ({ s with flink := { s.flink with shaded := true } }).shadeBlocks (if now then 3 else 1)
/-- SHADE off naming the first flash to expose (R211). -/
def State.shadeOff (s : State) (flashLo : Nat) : State :=
  ({ s with flink := { s.flink with shaded := false } }).shadeBlocks (flashLo % 2 ^ 24 * 4)

/-- DISCARD(h) as the 5120 acts on it: frames of a stripe after flash h give up their replay entries, their replays are not sent, and no
report for them counts (R223, R235). -/
def State.dropAfter (s : State) (x : Stripe) (h : Int) : State :=
  let after := fun (i : Nat) => decide ((i : Int) > x.flashBase + h)
  let s1 := { s with flink := { s.flink with frames := s.flink.frames.map (fun f => if f.ord = x.ord ∧ after f.index then { f with dropped := true } else f) } }
  (List.range 64).foldl (fun s l =>
    if (s.lane l).due = [] then s else s.setLane l { s.lane l with due := (s.lane l).due.filter (fun d => !after d.1) }) s1

/-- SHADE_OUT is high while any of its causes holds (R468, R573, R651). -/
def State.shadeOut (s : State) : Bool :=
  s.beamOff || s.fatal != 0 || s.fold.shade || !s.booted || s.fld R.SYS_INTERLOCK 16 16 == 1
/-- FAULT_N is driven low (R484, R651). -/
def State.faultLow (s : State) : Bool := s.fatal != 0 || !s.booted
/-- The byte that the board controller reads as STATUS (R659). -/
def State.i3cByte (s : State) : Nat :=
  (if s.nightReady then 6 else if s.power = Power.dusk then 1 else 0) + (if s.faultLow then 8 else 0) + (if s.shadeOut then 16 else 0) +
  (if s.booted then 32 else 0)
/-- The in-band interrupt to the board controller where STATUS is no longer `b` (R659; log entry 182). -/
def State.tellBoard (s : State) (b : Nat) : State := if s.i3cByte = b then s else s.emit (.i3cIrq (BitVec.ofNat 8 s.i3cByte))
/-- INTERLOCK shows the pins, which stand in STATUS too: `b` is STATUS before. -/
def State.showPins (s : State) (b : Nat) : State :=
  ((s.setFld R.SYS_INTERLOCK 3 2 ((if s.faultLow then 2 else 0) + if s.shadeOut then 1 else 0)).setFld R.SYS_INTERLOCK 0 0
    (if s.beamOff then 1 else 0)).tellBoard b

/-! ### Ivdon packets and the sync group -/

/-- A packet of R596 with its CRC; the payload is bits [71:16]. -/
def packetOf (typ src dst hops seq group payload : Nat) : BitVec 128 :=
  let hi := ((((typ % 256 * 4096 + src % 4096) * 4096 + dst % 4096) * 256 + hops % 256) * 256 + seq % 256) * 256 + group % 256
  let body := hi * 2 ^ 56 + payload % 2 ^ 56
  BitVec.ofNat 128 (body * 65536 + crc16ibm.crc (beBytes 14 body))

/-- A port carries packets: UP or DEGRADED (R596). -/
def Port.carries (p : Port) : Bool := p.st = 2 || p.st = 3
/-- A port. -/
def State.port (s : State) (i : Nat) : Port := kget (fun _ => {}) s.ivdon.ports i

/-- The data blocks of a packet on a port, each with its lane: both lanes of an UP port in one block slot, bits [63:0] on lane 0; on the
one lane of a DEGRADED port or a relay lane bits [63:0] first (R596, R599). -/
def Port.blocks (p : Port) (pkt : BitVec 128) : List (Nat × BitVec 66) :=
  let l := if p.st = 3 then p.lane else 0
  [(l, lineBlock false pkt.toNat), (if p.st = 2 && !p.relay then 1 else l, lineBlock false (pkt.toNat / 2 ^ 64))]

/-- A packet sent on the ports of a list that carry packets. -/
def State.sendOn (s : State) (ps : List Nat) (pkt : BitVec 128) : State :=
  ps.foldl (fun s p => if (s.port p).carries then s.emit (.packet p pkt ((s.port p).blocks pkt)) else s) s

/-- GROUP of GROUP_CFG, while IVDON is enabled. -/
def State.group (s : State) : Nat := if s.enabled 19 then s.fld R.IVDON_GROUP_CFG 15 8 else 0

/-- A flooded packet originated (R597). -/
def State.flood (s : State) (typ dst payload : Nat) : State :=
  let q := s.ivdon.seq
  let g := if typ ≥ 0x10 ∧ typ < 0x40 then s.group else 0
  let s1 := { s with ivdon := { s.ivdon with seq := (q + 1) % 256, mine := (q :: s.ivdon.mine).take 256 } }
  s1.sendOn [0, 1, 2, 3] (packetOf typ (s.fld R.SYS_DEVICE_NO 11 0) dst 255 q g payload)

/-- The running image's sync level (R568, R601). -/
def State.syncLevel (s : State) : Nat := fieldOf (kget (fun _ => {}) s.fold.slots s.fold.running).levels 31 16

/-- Why a device is an observer, as ROLE [9:8] (R600, R601). -/
def State.observerCause (s : State) : Nat :=
  (if s.group ≠ 0 ∧ s.syncLevel ≠ s.fld R.IVDON_GROUP_CFG 31 16 then 1 else 0) + (if s.ivdon.dup then 2 else 0)

/-- 0 standalone, 1 member, 2 leader, 3 observer (R601, R602). -/
def State.role (s : State) : Nat :=
  if s.observerCause ≠ 0 then 3 else if s.group = 0 then 0
  else if s.fld R.IVDON_GROUP_LEAD 11 0 = s.fld R.SYS_DEVICE_NO 11 0 then 2 else 1

/-- The device takes part in its group's epochs. -/
def State.grouped (s : State) : Bool := s.role = 1 || s.role = 2

/-- CONTAIN(e, cause) flooded by a member or leader (R603). -/
def State.floodContain (s : State) (cause : Nat) : State :=
  if s.grouped then s.flood 0x12 0 (s.ivdon.epoch % 2 ^ 32 * 2 ^ 24 + cause % 2 ^ 16) else s

/-! ### Containment -/

/-- Drover's state set, with the registers that show it (R271). -/
def State.droverTo (s : State) (st : Nat) : State :=
  (({ s with drover := { s.drover with st } }).setFld R.DROVER_STATE 3 0 st).setFld 0xE008 19 16 st

/-- The run of a contained stripe: the generator stops Y, or ends a host move first, and holds for RESUME; in HOLD it stays there (R316,
R324). -/
def State.stopRun (s : State) (x : Stripe) : Profile :=
  if s.fld R.PROFILE_CFG 1 0 ≠ 0 ∧ s.profile.runId = some (x.slot, x.id, x.pass) then
    { s.profile with held := true, resumeWait := true, phase := if s.profile.phase = 6 then 6 else if s.profile.phase = 1 ∧ s.profile.held then 1 else 7 }
  else s.profile

/-- A stripe held at flash h and contained: the record, Drover HELD, SHADE, DISCARD, the stage's stop or its host move that goes on
(R470 steps 1 to 3, R235, R316, R324, R466). -/
def State.enterContained (s : State) (x : Stripe) (a : RecArg) (now : Bool) (h : Int) : State :=
  let seq := s.log.nextSeq
  let s := s.recordRaw { a with cls := 2, stripe := x.who }
  let s := s.modStripe x (fun t => { t with st := .contained, held := h, cause := a.code, causeSeq := seq % 2 ^ 32, ckpt := 1, ckptTry := 0 })
  let s := (s.droverTo 5).shadeOn now
  let s := (s.allLanes 0x55 (lowBits 24 (x.flashBase + h))).dropAfter x h
  let s := ((s.setFld R.SYS_CKPT_STATE 3 0 1).wr R.SYS_CKPT_HELD (lowBits 32 h)).wr64 R.DROVER_HELD_L (s.drover.lastIndex)
  ({ s with flink := { s.flink with discard := some (lowBits 24 (x.flashBase + h)) }, profile := s.stopRun x, ckptUnits := [] }.floodContain a.code).showStripes

/-- A containing cause at held flash h (R470 steps 1 to 3, R471, R487, R489, R675). The record's class is 2 only where
the event contains a stripe or joins a containment before its checkpoint has verified; a cause that meets a restore puts the
stripe back into containment, the restore undone once its frames have settled. -/
def State.containAt (s : State) (a : RecArg) (now : Bool) (h : Int) : State :=
  match s.active with
  | none => s.recordRaw { a with cls := 1, stripe := a.stripe.or ((s.stripes.find? (fun t => t.st = .draining)).bind Stripe.who) }
  | some x =>
    if x.st = StripeSt.contained then
      let s1 := if now then s.shadeOn true else s
      if x.ckpt = 5 then
        let s2 := s1.recordRaw { a with cls := 2, stripe := x.who }
        let s3 := ((s2.modStripe x (fun t => { t with ckpt := 4, cause := a.code, causeSeq := s1.log.nextSeq % 2 ^ 32 })).droverTo 5).shadeOn now
        let lo := lowBits 24 (x.flashBase + x.held)
        let s4 := ((s3.allLanes 0x55 lo).dropAfter x x.held).setFld R.SYS_CKPT_STATE 3 0 1
        { s4 with flink := { s4.flink with discard := some lo }, profile := s4.stopRun x }
      else s1.recordRaw { a with cls := if x.ckpt = 3 then 1 else 2, stripe := x.who }
    else s.enterContained x a now h

/-- A containing cause at the last flash fired (R466). -/
def State.contain (s : State) (a : RecArg) (now : Bool := false) : State := s.containAt a now s.drover.k

/-- A record, and the containment of the writing stripe where 64 or fewer entries are left (R465). -/
def State.record (s : State) (a : RecArg) : State :=
  let s := s.recordRaw a
  if s.logFree ≤ 64 ∧ s.writing.isSome then s.contain { code := Code.SYS_ERRLOG_FULL, cls := 2 } else s

/-! ### Device-fatal handling -/

/-- The bytes of an error record (R460). -/
def ErrRec.bytes (r : ErrRec) : List Byte :=
  let b := leBytes 4 r.seq ++ leBytes 2 (r.seq / 2 ^ 32) ++ leBytes 2 r.code ++
    leBytes 4 (r.locKind * 2 ^ 24 + r.detector * 2 ^ 16 + r.origin * 2 ^ 8 + r.cls) ++ leBytes 4 r.jobId ++ leBytes 4 r.stripeId ++
    leBytes 4 r.flash ++ leBytes 4 (r.flash / 2 ^ 32 % 2 ^ 16) ++
    (match r.cmd with | none => leBytes 4 0 | some (sq, cid) => leBytes 4 (cid * 2 ^ 16 + sq * 2 ^ 10 + 512)) ++
    leBytes 4 r.sec ++ leBytes 4 (r.sec / 2 ^ 32 % 2 ^ 16) ++ leBytes 4 r.nsec ++ leBytes 4 r.loc0 ++ leBytes 4 r.loc1 ++
    leBytes 4 r.loc2 ++ leBytes 4 r.causeSeq
  b ++ leBytes 4 (crcC b)

/-- A stripe or pass is armed, waiting, writing, draining or contained. -/
def State.stripesHeld (s : State) : Bool := s.stripes.any (fun t => t.st ≠ .armWait)

/-- The page that owns a record's type (R536). -/
def keepOwner (typ : Nat) : Nat :=
  if typ = 0x10 then 2 else if typ = 0x12 then 0x11 else if typ = 0x14 then 0x10 else if typ = 0x15 then 0x16
  else if typ = 0x20 ∨ typ = 0x21 then 0x15 else if typ = 0x11 ∨ typ = 0x13 then 0xE else 0x1B

/-- Neither copy of a record is valid: it is on its defaults (R539). -/
def KeepRec.lost (r : KeepRec) : Bool := !r.ok0 && !r.ok1

/-- The payload of a keep record, if the keep holds it in a valid copy (R537). -/
def State.keepOf (s : State) (typ inst : Nat) : Option (List Byte) :=
  (s.keep.find? (fun r => r.typ = typ && r.inst = inst && !r.lost)).map (·.payload)

/-- The largest payload of a type, which its slot holds (R535, R536). -/
def keepLen : Nat → Nat
  | 0x10 => 192 | 0x11 => 16 | 0x12 => 16 | 0x13 => 8 | 0x14 => 16 | 0x15 => 512 | 0x20 => 256 | 0x21 => 256 | 0x30 => 304
  | 0x31 => 16384 | 0x40 => 128 | 0x41 => 64 | _ => 0

/-- The instances of a type (R536). -/
def keepInstances : Nat → Nat
  | 0x11 => 4 | 0x12 => 192 | 0x13 => 3 | 0x15 => 4 | _ => 1

/-- The slot of a record in bytes, which holds the largest payload of its type (R535). -/
def KeepRec.slot (r : KeepRec) : Nat := ceilDiv (20 + keepLen r.typ) 64 * 64

/-- The directory's slot, at the start of each half: it holds an entry of each of the 211 records (R535, R536; DESIGN CHOICE, log entry
177). -/
def dirSlot : Nat := 1728

/-- The end of what a half holds: each new record takes its slot there. -/
def State.keepEnd (s : State) : Nat := s.keep.foldl (fun m r => max m (r.off + r.slot)) dirSlot

/-- The directory's payload: an 8-byte entry for every other record (R535). -/
def State.dirBytes (s : State) : List Byte :=
  (sortBy (·.off) s.keep).flatMap (fun r => leBytes 4 (r.inst * 2 ^ 16 + r.typ) ++ leBytes 4 (r.slot / 64 * 2 ^ 19 + r.off))

/-- The directory written with a record that it did not list: its generation, in bell word 7, rises (R535, R540). -/
def State.listKeep (s : State) : State := s.putBell 7 (withField (s.bell 7) 63 32 (fieldOf (s.bell 7) 63 32 + 1))

/-- Its audit records: the directory's, and the bell word's (R383, R536). -/
def State.auditDir (s : State) (old : Nat) : State :=
  (s.commit 0x0050 .firmware 0 0 0 [1, 0, fieldOf (s.bell 7) 63 32, crcC s.dirBytes]).commit 0x0040 .firmware 7 old (s.bell 7) [0]

/-- The forward lane of a lane record is in IDLE with no unsettled frame (R240, R542). -/
def State.laneQuiet (s : State) (l : Nat) : Bool := (kget (fun _ => {}) s.flink.lanes l).st = 6 && s.flink.frames.all (fun f => f.lane ≠ l)

/-- A record written now is not in force yet: its owner is enabled and its next boundary has not come; a lane record waits for its
lane's next IDLE interval (R542). -/
def State.keepLater (s : State) (typ inst : Nat) : Bool :=
  s.stripesHeld && s.enabled (keepOwner typ) && decide (0x10 ≤ typ ∧ typ ≤ 0x14) && !(typ = 0x12 && s.laneQuiet (inst % 64))

/-- A record waits; what it replaces stays in force (R542, R554). -/
def State.keepWaits (s : State) (typ inst : Nat) (old : Option KeepRec) : State :=
  if s.keepLater typ inst ∧ !s.keepWait.contains (typ, inst)
  then { s with keepWait := (typ, inst) :: s.keepWait, keepOld := ((typ, inst), old) :: s.keepOld } else s

/-- The record in force of a type and instance, whatever the keep holds by now (R542). -/
def State.recForce (s : State) (typ inst : Nat) : Option KeepRec :=
  match s.keepOld.find? (fun o => o.1 = (typ, inst)) with
  | some o => o.2
  | none => s.keep.find? (fun r => r.typ = typ && r.inst = inst)

/-- Its payload; none where it is lost or there is none. -/
def State.keepForce (s : State) (typ inst : Nat) : Option (List Byte) := ((s.recForce typ inst).filter (fun r => !r.lost)).map (·.payload)

/-- The records of some kinds come into force (R542). -/
def State.keepCome (s : State) (p : Nat × Nat → Bool) : State :=
  { s with keepWait := s.keepWait.filter (fun k => !p k), keepOld := s.keepOld.filter (fun o => !p o.1) }

/-- A lane's records come into force: it is in IDLE with no unsettled frame (R240, R542). -/
def State.laneComes (s : State) (l : Nat) : State := if s.laneQuiet l then s.keepCome (fun k => k.1 = 0x12 && k.2 % 64 = l) else s

/-- An encoder record that waits for nothing is in force at once (R542, R544). -/
def State.encNow (s : State) (typ inst : Nat) (payload : List Byte) : State :=
  if typ = 0x11 ∧ !s.keepWait.contains (typ, inst) then { s with drover := { s.drover with cals := kput s.drover.cals inst payload } } else s

/-- A record's copies as written, `bad` of them failing every try; the record is audited (R540, R576). -/
def State.storeKeep (s : State) (o : Origin) (typ inst : Nat) (payload : List Byte) (bad : Nat) : State :=
  let old := s.keep.find? (fun r => r.typ = typ ∧ r.inst = inst)
  let r : KeepRec := { typ, inst, gen := (old.map (·.gen)).getD 0 + 1, written := s.clock.sec % 2 ^ 32, payload, ok1 := bad = 0,
                       off := (old.map (·.off)).getD s.keepEnd }
  let s1 := { s with keep := r :: s.keep.filter (fun k => ¬ (k.typ = typ ∧ k.inst = inst)) }
  let s2 := s1.commit 0x0050 o 0 0 0 [typ, inst, r.gen, crcC payload]
  let s3 := if old.isNone then s2.listKeep.auditDir (s.bell 7) else s2
  (s3.keepWaits typ inst old).encNow typ inst payload

/-- A record that firmware writes: those of types 0x0011 and 0x0012 wait while 64 or fewer audit slots are free (R540, R582). -/
def State.putKeep (s : State) (typ inst : Nat) (payload : List Byte) : State :=
  if s.auditFree ≤ 64 ∧ (typ = 0x11 ∨ typ = 0x12) then
    { s with keepHeld := s.keepHeld.filter (fun h => ¬ (h.1 = typ ∧ h.2.1 = inst)) ++ [(typ, inst, payload)] }
  else s.storeKeep .firmware typ inst payload 0

/-- Records that waited for room in the audit pool (R582). -/
def State.flushKeep (s : State) : State :=
  s.keepHeld.foldl (fun s h => s.putKeep h.1 h.2.1 h.2.2) { s with keepHeld := [] }

/-- The ageing history's payload (R536): the voltage steps, the masks, the rate caps, the floors, the hours, the
last step's gain and the units out. -/
def State.ageBytes (s : State) : List Byte :=
  let bitsOut := fun (n : Nat) (l : List Nat) => (List.range n).foldl (fun v i => if l.contains i then v + 2 ^ i else v) 0
  let caps := (List.range 64).foldl (fun v l => v + kget (fun _ => 3) s.age.rateCap l * 2 ^ (2 * l)) 0
  leBytes 4 s.age.steps ++ leBytes 8 (2 ^ 64 - 1 - bitsOut 64 s.age.lanesOut) ++
  leBytes 8 (2 ^ 64 - 1 - bitsOut 64 (s.age.unitsOut.map (· / 32))) ++ leBytes 16 caps ++
  leBytes 4 (s.age.refreshFloor * 16 + s.age.hystFloor) ++ leBytes 4 s.age.hours ++ leBytes 4 s.age.stepGain ++
  leBytes 256 (bitsOut 2048 s.age.unitsOut)

/-- The ageing history written (R135, R168, R548). -/
def State.saveAgeing (s : State) : State := s.putKeep 0x0030 0 s.ageBytes

/-- A job key erased, with its audit record (R566, R576). -/
def State.eraseKey (s : State) (cause slot : Nat) : State :=
  let j := s.job slot
  if j.key.isSome then (s.commit 0x0010 .firmware 0 0 0 [j.keyId, j.jobId, cause]).modJob slot (fun j => { j with key := none }) else s

/-- Every job key, the device key and the field key erased (R484, R503, R573). -/
def State.eraseKeys (s : State) (cause : Nat) : State :=
  let s1 := (s.eraseKey cause 0).eraseKey cause 1
  { s1 with fold := { s1.fold with deviceKey := 0, fieldKey := 0 } }

/-- A device-fatal event (R484, R485): shade with NOW, hold, stop, the record, the keep, the keys; every command
outstanding completes with SYS_DEVICE_FATAL. -/
def State.deviceFatal (s : State) (a : RecArg) : State :=
  if s.fatal ≠ 0 then s
  else
    let b := s.i3cByte
    let s := { s with fatal := a.code }
    let s := ((s.shadeOn true).droverTo 5).setFld R.DROVER_STANDSTILL 1 1 1
    let phase := if s.fld R.PROFILE_CFG 1 0 = 0 then s.profile.phase else 7
    let s := { s with profile := { s.profile with stop := true, phase } }
    let s := s.recordRaw { a with cls := 4, stripe := (s.active).bind Stripe.who }
    let s := (s.wr R.SYS_FATAL a.code).showPins b
    let last := (s.log.recs.head?.map ErrRec.bytes).getD []
    let s := (s.storeKeep .firmware 0x0041 0 last 0).eraseKeys a.code
    (s.host.cmds.filter (fun c => c.done = none)).foldl (fun s c => s.fail c.n Code.SYS_DEVICE_FATAL) s

/-- A copy of a bell word takes no write any more. -/
def State.bellStuck (s : State) (n c : Nat) : Bool := s.bellDead.contains (n, c)

/-- A bell word written on behalf of its block, and audited. With two copies that do not verify the write fails; where copy 2 alone does
not, that is reported and the new value stands (R383). -/
def State.writeBell (s : State) (n v : Nat) (code : Nat) : State :=
  let old := s.bell n
  let lower := (n = 2 ∧ v < old) ∨ (n = 6 ∧ Nat.land old v ≠ old)
  if lower then s.recordRaw { code := Code.BELL_DOWN, cls := 7, origin := .firmware }
  else if ((List.range 3).filter (s.bellStuck n)).length ≥ 2 then s.deviceFatal { code := Code.BELL_WRITE_FAIL, cls := 4, lk := 8, l0 := n }
  else
    let s1 := (({ s with bellPending := 0 }).putBell n v).commit 0x0040 .firmware n old v [code]
    if s.bellStuck n 2 then s1.record { code := Code.BELL_REWRITE, cls := 0, lk := 8, l0 := n } else s1

/-! ### Ending stripes and jobs -/

/-- A stripe's deficit list changed. -/
def State.modList (s : State) (x : Stripe) (f : DefList → DefList) : State :=
  s.modJob x.slot (fun j => { j with lists := j.lists.map (fun d => if d.ord = x.ord then f d else d) })

/-- The 16 bytes of a deficit entry (R192). -/
def DefEntry.bytes (e : DefEntry) : List Byte :=
  leBytes 4 e.row ++ leBytes 4 e.col ++ leBytes 4 (e.target * 2 ^ 16 + e.rem) ++ leBytes 4 e.status
/-- The 64-byte header of a list (R192). -/
def DefList.header (d : DefList) (jobId : Nat) : List Byte :=
  leBytes 4 jobId ++ leBytes 4 d.id ++ leBytes 4 d.entries.length ++ leBytes 4 (d.pass * 256 + d.state) ++
  leBytes 4 (crcC (d.entries.flatMap DefEntry.bytes)) ++ leBytes 4 (d.lastRow.getD 0xFFFFFFFF) ++ List.replicate 40 0

/-- A reservation of a full list, 64-byte header and 65,536 entries (R336). -/
def fullList : Nat := 1048640
/-- Bytes of a job slot's deficit area. -/
def deficitArea : Nat := 536870912
/-- A list rounded up to 64 bytes (R336). -/
def DefList.size (d : DefList) : Nat := ceilDiv (64 + 16 * d.entries.length) 64 * 64

/-! ### Codec contexts -/

/-- A context. -/
def State.ctx (s : State) (i : Nat) : Ctx := kget (fun _ => {}) s.ctxs i

/-- The contexts that n engines serve of the ready ones: those of a higher pair first, then those they serve already (R103), then the
lower number. -/
def serveList (n : Nat) (cur ready : List Nat) : List Nat :=
  (sortBy (fun c => c / 2 * 16 + (if cur.contains c then 0 else 8) + c % 2) ready).take n

/-- The running contexts of a mode. -/
def State.readyCtxs (s : State) (mode : Nat) : List Nat := (List.range 8).filter (fun i => decide ((s.ctx i).st = 1 ∧ (s.ctx i).mode = mode))

/-- Each engine moves to a ready context of higher priority (R103): two decode engines, one that compresses, one that verifies. -/
def State.serve (s : State) : State :=
  { s with codecEng := { dec := serveList 2 s.codecEng.dec (s.readyCtxs 0), comp := serveList 1 s.codecEng.comp (s.readyCtxs 1),
                         ver := serveList 1 s.codecEng.ver (s.readyCtxs 2) } }

/-- A context set, with its busy bit in STATUS [23:16]. -/
def State.setCtx (s : State) (i : Nat) (c : Ctx) : State :=
  (({ s with ctxs := kset (fun _ => {}) s.ctxs i c }).setFld 0x8008 (16 + i) (16 + i) (if 1 ≤ c.st ∧ c.st ≤ 3 then 1 else 0)).serve

/-- Contexts discarded and freed: each keeps only what its error registers record (R105, R670). -/
def State.dropCtxs (s : State) (p : Ctx → Bool) : State :=
  (List.range 8).foldl (fun s i => let c := s.ctx i; if p c then s.setCtx i { err := c.err, errOff := c.errOff } else s) s

/-- Map bands of a stripe: 64 cell rows each (R149). -/
def StripeRec.bands (r : StripeRec) : Nat := ceilDiv (r.rows / 16) 64

/-- A map band's unit and a factor band's CRC by map set and band (R333). -/
def bandKey (set band : Nat) : Nat := set * 2 ^ 20 + band

/-- What a stripe's pre-pass and checkpoint hold of the codec and of the map set is given up (R105, R160, R167). -/
def State.dropUnits (s : State) (x : Stripe) : State :=
  let mine := fun (c : Ctx) => (c.purp = 3 && x.mapSet = some (c.item / 2 ^ 20)) || (c.purp = 4 && x.st = .contained)
  let s1 := s.dropCtxs (fun c => c.mode ≠ 0 && mine c)
  let s2 := if x.prepass = 2 ∨ x.prepass = 3 ∨ x.prepass = 5 then s1.setFld 0xA008 16 16 0 else s1
  if x.st = StripeSt.contained then { s2 with ckptUnits := [] } else s2

/-- A stripe gives up its ring, its map set, its reservation, its zone hold and its pre-warm (R336, R341, R160,
R264, R508). -/
def State.dropStripe (s : State) (x : Stripe) : State :=
  let s1 := s.dropUnits x
  ({ s1 with stripes := s1.stripes.filter (fun t => t.ord ≠ x.ord),
             hold := s1.hold.filter (fun r => r.ord ≠ x.ord), tally := s1.tally.filter (fun r => r.2.ord ≠ x.ord),
             staging := s1.staging.filter (fun r => r.1 / 2 ^ 32 ≠ x.ord) }).showStripes

/-- A stripe's end: STATE in its header, the copy to ADDR2, its completion (R437). -/
def State.endStripe (s : State) (x : Stripe) (state outcome status : Nat) : State :=
  let s := s.modList x (fun d => { d with state })
  let d := s.list? x
  let s := match d with
    | some d => if x.addr2 ≠ 0 then s.emit (.hostWrite x.addr2 (d.header x.jobId ++ d.entries.flatMap DefEntry.bytes)) else s
    | none => s
  if x.goCmd = 0 then s
  else s.complete x.goCmd status outcome x.exitRow ((d.map (·.entries.length)).getD 0) x.clips

/-- The checkpoint locator's VALID cleared at its stripe's end (R474, R383). -/
def State.clearCkpt (s : State) : State :=
  (if fieldOf (s.bell 4) 4 4 = 1 then s.writeBell 4 (withField (s.bell 4) 4 4 0) 0 else s).setFld R.SYS_CKPT_STATE 3 0 0

/-- The aborts that waited for a stripe's end complete after its own completion entry (R438, R439). -/
def State.finishAborts (s : State) (x : Stripe) : State :=
  x.aborts.foldl (fun s a => s.complete a.1 0 a.2 x.exitRow) s

/-- A stripe that has ended is remembered by its job (R442). -/
def State.markEnded (s : State) (x : Stripe) : State :=
  s.modJob x.slot (fun j => { j with ended := if j.ended.contains x.id then j.ended else x.id :: j.ended })

/-- A stripe ended ABORTED from any state but writing or draining (R439); an armed one writes no completion, and a contained
one leaves its checkpoint unused. -/
def State.abortNow (s : State) (x : Stripe) : State :=
  let s1 := if x.st = StripeSt.armed ∨ x.st = StripeSt.armWait then s else s.endStripe x 2 1 0
  let s2 := s1.markEnded x
  let s3 := if x.st = StripeSt.contained then
      (s2.clearCkpt.droverTo 0) else s2
  (s3.dropStripe x).finishAborts x

/-- Flashes from a row's entry to its move into the exit hold (R183, R199). -/
def State.stay (s : State) : Nat := if s.fld R.SHEPHERD_PASSERS 8 8 = 1 then 4096 else 8192

/-- A writing or draining stripe begins its end (R439, R466): the beams are shaded without NOW at the last flash, the rows
still under the array and what was computed for later flashes are dropped, and the rows whose last flash has fired stay in
the exit hold to settle and be checked. -/
def State.abortHold (s : State) (x : Stripe) : State :=
  let k := s.drover.k
  let s1 := if x.st = StripeSt.writing then
      (((s.shadeOn false).allLanes 0x55 (lowBits 24 (x.flashBase + k))).droverTo 0).floodContain 0 else s
  let fl := s1.flink
  let late := fun (ord : Nat) (flash : Nat) => ord = x.ord && decide ((flash : Int) > k)
  let fl1 := { fl with frames := fl.frames.filter (fun f => !late f.ord f.flash), carries := fl.carries.filter (fun c => !late c.ord c.flash),
                       discard := if x.st = StripeSt.writing then some (lowBits 24 (x.flashBase + k)) else fl.discard }
  let s2 := { s1 with flink := fl1, tally := s1.tally.filter (fun w => w.2.ord ≠ x.ord),
                      hold := s1.hold.filter (fun w => !(w.ord = x.ord && decide (((w.row + s.stay : Nat) : Int) > k))),
                      staging := s1.staging.filter (fun w => w.1 / 2 ^ 32 ≠ x.ord) }
  (s2.modStripe x (fun t => { t with st := .draining, aborting := true, ckptCmds := [] })).showStripes

/-- Lanes that carried frames are idle again once no stripe has any left on them (R218; DEDUCED, log entry 168). -/
def State.idleLanes (s : State) : State :=
  (List.range 64).foldl (fun s l =>
    if (s.lane l).st = 7 ∧ s.flink.frames.all (fun f => f.lane ≠ l)
    then ((s.setLane l { s.lane l with st := 6 }).emit (.control l 0x1E 0)).laneComes l else s.laneComes l) s

/-- Frames of stripes that have ended are dropped: no row waits for them (R223, R232). -/
def State.dropFrames (s : State) : State :=
  { s with flink := { s.flink with frames := s.flink.frames.filter (fun f => s.stripes.any (fun t => t.ord = f.ord)) } }.idleLanes

/-- A slot freed: its geometry frames, lists, codec contexts and key (R340, R336, R105, R448, R566). -/
def State.freeSlot (s : State) (slot : Nat) : State :=
  let j := s.job slot
  let s1 := if j.key.isSome then s.commit 0x0010 .firmware 0 0 0 [j.keyId, j.jobId, 0] else s
  (({ s1 with frames := s1.frames.filter (fun f => f.2.slot ≠ slot) }).dropCtxs (fun c => c.mode = 0 && c.st ≠ 0 && c.slot = slot)).setJob slot {}

/-- A JOB_CLOSE that waited for the last stripe of its slot to end (R448). -/
def State.closeDue (s : State) (slot : Nat) : State :=
  if s.stripes.any (fun t => t.slot = slot) then s
  else match s.host.cmds.find? (fun c => c.opcode = 0x0E && c.ran && c.done.isNone && c.jobId = (s.job slot).jobId) with
    | none => s
    | some c => (s.freeSlot slot).complete c.n 0 (s.job slot).fatal

/-- An aborted stripe ends once its hold has been checked (R439). -/
def State.endAborted (s : State) (ord : Nat) : State :=
  match s.stripes.find? (fun t => t.ord = ord) with
  | none => s
  | some x =>
    if !x.aborting ∨ s.hold.any (fun w => w.ord = ord) then s
    else
      let s1 := (s.endStripe x 2 1 0).markEnded x
      (((s1.dropStripe x).finishAborts x).dropFrames).closeDue x.slot

/-- Every stripe of a slot aborted, in stripe order (R448, R449). -/
def State.abortSlot (s : State) (slot : Nat) : State :=
  (s.stripes.filter (fun t => t.slot = slot)).foldl (fun s t =>
    if t.aborting then s
    else if t.st = StripeSt.writing ∨ t.st = StripeSt.draining then (s.abortHold t).endAborted t.ord
    else s.abortNow t) s

/-- A job becomes job-fatal (R449): its stripes end, a JOB_FAILED event carries the code, the slot is failed, its
key is erased (R566), and every command that names it fails. `met` is the command that met the error. -/
def State.jobFatal (s : State) (slot code : Nat) (met : Nat := 0) (kept : Bool := false) : State :=
  let j := s.job slot
  if j.status ≠ 1 then s
  else
    let s := s.abortSlot slot
    let s := if kept then s.eventKept 3 j.jobId 0 code else s.event 3 j.jobId 0 code
    let s := if j.key.isSome then s.commit 0x0010 .firmware 0 0 0 [j.keyId, j.jobId, code] else s
    let s := s.modJob slot (fun j => { j with status := 2, fatal := code, key := none })
    let ends := fun (c : Cmd) => s.stripes.any (fun t => t.slot = slot && t.goCmd = c.n)
    (s.host.cmds.filter (fun c => c.jobId = j.jobId ∧ c.n ≠ met ∧ c.opcode ≠ 0x0E ∧ c.opcode ≠ 0x0B ∧ c.opcode ≠ 0x0C ∧
      c.opcode ≠ 0x0D ∧ c.done = none ∧ c.ran ∧ !ends c)).foldl (fun s c => s.fail c.n Code.HOST_JOB_FAILED) s

/-- A job-fatal error with its record, met by command `met` (0 for none). -/
def State.jobFatalRec (s : State) (slot : Nat) (a : RecArg) (met : Nat := 0) : State :=
  let s := s.record { a with cls := 3, cmd := if met = 0 then none else some met,
                                stripe := a.stripe.or (some ((s.job slot).jobId, 0xFFFFFFFF)) }
  let s := s.jobFatal slot a.code met
  if met = 0 then s else s.complete met a.code

/-! ### Blocks that fail -/

/-- The cached frame of a block. -/
def State.frameOf (s : State) (slot block : Nat) : Option (Nat × Frame) := s.frames.find? (fun f => f.2.slot = slot ∧ f.2.block = block)

/-- A re-request posted, once for a block (R55, R427); where its event is lost the job fails (R426; log entry 31). -/
def State.rerequest (s : State) (slot block code : Nat) : State :=
  let j := s.job slot
  if j.status ≠ 1 ∨ j.reqs.contains block then s
  else
    let lost := !(s.evqRoom && s.host.backlog = []) && decide (s.host.backlog.length ≥ 256)
    let s1 := (s.modJob slot (fun j => { j with reqs := block :: j.reqs })).event 1 j.jobId block code
    if lost then
      (s1.recordRaw { code := Code.HOST_EVQ_OVERFLOW, cls := 3, stripe := some (j.jobId, 0xFFFFFFFF), cause := (s1.log.nextSeq - 1) % 2 ^ 32 }).jobFatal
        slot Code.HOST_EVQ_OVERFLOW 0 true
    else s1

/-- A failed read of a frame: read once more, and after the second failure the block is requested again (R55). -/
def State.readFailed (s : State) (k : Nat) (f : Frame) (code : Nat) : State :=
  let s1 := { s with frames := kput s.frames k { f with failed := f.failed + 1, opened := false } }
  if f.failed + 1 ≥ 2 then s1.rerequest f.slot f.block code else s1

/-- The record of a block's fault (R339, R464, R671). -/
def blockRec (s : State) (f : Frame) (code off : Nat) : RecArg :=
  { code, cls := 1, lk := 5, l0 := f.block, l1 := off, stripe := some ((s.job f.slot).jobId, f.stripe) }

/-- A record error found once its stripe had been validated: the data has been damaged since, and the read counts as failed (R77). -/
def State.blockDamaged (s : State) (slot code off block : Nat) : State :=
  match s.frameOf slot block with
  | none => s
  | some (k, f) => if f.failed ≥ 2 then s else (s.record (blockRec s f code off)).readFailed k f code

end Sys2Proof.Machine
end

