-- ==== Sys2Proof/Machine/Regs.lean ====
section
/-! DEFINITION. What every register write passes before it acts: the roles of R559, LOCK (R560), Dusk (R616), the
locked fields of R11 and the audit of R576 and R582; and how an access code makes the new value (R11 to R13). The
order of the checks is the model's (log entry 12). -/

namespace Sys2Proof.Machine

/-- The page of an address. -/
def pageOf (a : RegAddr) : Nat := a / 0x1000
/-- The offset of an address in its page. -/
def offOf (a : RegAddr) : Nat := a % 0x1000
/-- CTRL of a page. -/
def ctrlOf (p : Nat) : RegAddr := p * 0x1000 + 4

/-- The rows of the common header that a write can act on (R618). -/
def headerRows : List RegRow :=
  [⟨0x004, 0xFF0F, .rw, 0, false⟩, ⟨0x014, 0xFFFFFFFF, .rw, 0, false⟩, ⟨0x018, 0xFFFFFFFF, .w1c, 0, false⟩,
   ⟨0x024, 0x1, .wo, 0, false⟩, ⟨0x028, 0x3, .rw, 0, false⟩]

/-- The rows of a register, header included; on every page but LANTERN CTRL [15:8] is reserved (R619). -/
def rowsOf (a : RegAddr) : List RegRow :=
  if offOf a < 0x100 then (headerRows.filter (fun r => r.off = offOf a)).map (fun r =>
    if r.off = 0x004 then { r with mask := if pageOf a = 9 then 0x10F else 0x00F } else r)
  else rowsAt (pageOf a) (offOf a)

/-- A write can act on the register. -/
def writable (a : RegAddr) : Bool := (rowsOf a).any (fun r => r.acc ≠ .ro)

/-- Selector registers, which R560 leaves unlocked: names in _SEL, with WIN_STRIPE and WIN_OFFSET; QSEL counts as
one of them (log entry 13). -/
def selectors : List RegAddr :=
  [R.SYS_ERRLOG_SEL, R.THERM_SENSOR_SEL, R.HOST_WIN_SEL, R.HOST_WIN_STRIPE, R.HOST_WIN_OFFSET, R.CODEC_CTX_SEL,
   R.PENUMBRA_SLOT_SEL, R.DROVER_ENC_SEL, R.FLINK_LANE_SEL, R.FLINK_SENSOR_SEL, R.IVDON_PORT_SEL, R.SRAM_HURDLE_SEL, R.SRAM_FENCE_SEL,
   R.SRAM_BELL_SEL, R.HBM0_RANK_SEL, R.AGE_PATH_SEL, R.HOST_QSEL]

/-- A register whose change is locked and audited (R560). -/
def lockable (a : RegAddr) : Bool :=
  writable a && (offOf a = 0x004 || decide (offOf a ≥ 0x100)) && !(selectors.contains a) &&
  !(pageOf a = 6 && decide (offOf a ≥ 0x800)) &&
  !(pageOf a = 20 && decide (offOf a ≥ 0x240) && decide (offOf a < 0x440) && offOf a % 0x40 ≠ 0)

/-- The writes a role may make (R559). -/
def roleOk (o : Origin) (a : RegAddr) : Bool :=
  let p := pageOf a
  let off := offOf a
  if o = .firmware ∨ o = .hardware then true
  else if p = 4 ∨ off = 0x028 ∨ p = 5 ∨ a = R.SYS_DEVICE_NO ∨ a = R.SYS_FORMAT_LEVEL ∨ a = R.AGE_REBASE then o = .owner
  else if a = R.KEEP_CMD ∨ (p = 6 ∧ off ≥ 0x800) then o = .owner ∨ o = .service
  else if p = 0x1A ∨ p = 0x1C then true
  else o = .operator ∨ o = .owner

/-- A write that KEEP.CMD does not restrict: only CMD.WRITE is kept from the Operator (R559). -/
def roleOkValue (o : Origin) (a : RegAddr) (v : Nat) : Bool := roleOk o a || (a = R.KEEP_CMD && fieldOf v 1 1 = 0)

/-- LOCK lets the origin write (R560). -/
def State.lockOk (s : State) (o : Origin) (a : RegAddr) : Bool :=
  let level := s.fld (pageOf a * 0x1000 + 0x28) 1 0
  o = .firmware || o = .hardware || !lockable a || level = 0 || (level = 1 && o = .owner)

/-- A write that starts work in a block whose fast clock is off in Dusk (R616). -/
def State.startsWork (s : State) (a : RegAddr) (v : Nat) : Bool :=
  (offOf a = 0x004 && ((fieldOf v 0 0 = 1 && !s.enabled (pageOf a)) || fieldOf v 1 1 = 1)) ||
  (a = R.SRAM_FILL && fieldOf v 8 8 = 1) ||
  (pageOf a = 20 && decide (offOf a ≥ 0x240) && offOf a % 0x40 = 4 && decide (fieldOf v 1 1 = 1 ∨ fieldOf v 2 2 = 1)) ||
  a = R.FLINK_RETRAIN || a = R.IVDON_RETRAIN || a = R.DROVER_DETECT || a = R.PROFILE_MOVE || a = R.HBM0_RETIRE ||
  a = R.AUDIT_EXPORT_CMD

/-- A refused write, with its record of LOC_KIND 6 (R628). -/
def State.refuse (s : State) (o : Origin) (code : Nat) (a : RegAddr) (v : Nat) (det : Option Nat := none) : State :=
  s.record { code, cls := 7, origin := o, det, lk := 6, l0 := pageOf a, l1 := offOf a, l2 := v }

/-- The origin of a register write as an index. -/
def heldKey (o : Origin) (a : RegAddr) : Nat := a * 8 + o.code

/-- The new value of a register by the access codes of its fields (R11, R12). -/
def newValue (a : RegAddr) (old v : Nat) : Nat :=
  (rowsOf a).foldl (fun x r => match r.acc with
    | .rw | .rwe | .rwb => Nat.lor (x - Nat.land x r.mask) (Nat.land v r.mask)
    | .w1c => x - Nat.land (Nat.land x r.mask) v
    | .rws => if Nat.land v r.mask ≠ 0 then x - Nat.land x r.mask else x
    | _ => x) old

/-- The checks of a write before its value is looked at: `error` when it is refused or discarded. -/
def State.permit (s : State) (o : Origin) (a : RegAddr) (v : Nat) : Except State State :=
  if s.power = .night ∨ !s.booted ∨ (!s.fold.fwRuns ∧ o ≠ .firmware) then .error s
  else if s.fatal ≠ 0 ∧ a ≠ R.SYS_DEVICE_RESET then .error s
  else if !writable a then .error s
  else if !roleOkValue o a v then .error (s.refuse o Code.FOLD_ROLE a v (some 4))
  else if !s.lockOk o a then .error (s.refuse o (Code.REG_LOCKED_FIELD (pageOf a)) a v)
  else if s.power = .dusk ∧ s.startsWork a v then .error (s.refuse o (Code.REG_DUSK (pageOf a)) a v)
  else if (rowsOf a).any (fun r => r.acc = .rwe) ∧ s.enabled (pageOf a)
    then .error (s.refuse o (Code.REG_LOCKED_FIELD (pageOf a)) a v)
  else .ok s

/-- A changed value committed to the audit log and brought into force (R576, R582), with its trace record (R634); `put` stores it. -/
def State.change (s : State) (o : Origin) (a : RegAddr) (old new : Nat) (put : State → State) : State :=
  if new = old then s.traceRec (pageOf a) 0 (offOf a) [new, o.code]
  else if !lockable a then (put s).traceRec (pageOf a) 0 (offOf a) [new, o.code]
  else if s.auditFull ∧ o ≠ .firmware then s.countFull.refuse o Code.AUDIT_FULL a new
  else (put (s.commit 1 o a old new [])).traceRec (pageOf a) 0 (offOf a) [new, o.code]

/-- A register changed by a write. -/
def State.setReg (s : State) (o : Origin) (a : RegAddr) (new : Nat) : State :=
  s.change o a (s.rd a) new (fun s => s.wr a new)

/-- The group of R13 that holds a register. -/
def groupOf (a : RegAddr) : Option (List RegAddr) := regGroups.find? (fun g => g.contains a)

/-- The value a register of a group contributes to a commit: the origin's held value, or the one in force (R615). -/
def State.heldOr (s : State) (o : Origin) (a : RegAddr) : Nat :=
  (kget (fun k => BitVec.ofNat 32 (s.rd (k / 8))) s.held (heldKey o a)).toNat

/-- A write of a lower register of a group, held until the commit (R13). -/
def State.hold1 (s : State) (o : Origin) (a : RegAddr) (v : Nat) : State :=
  { s with held := kput s.held (heldKey o a) (BitVec.ofNat 32 (newValue a (s.rd a) v)) }

/-- The held values of an origin's group given up at its commit. -/
def State.dropHeld (s : State) (o : Origin) (g : List RegAddr) : State :=
  { s with held := g.foldl (fun m a => kdel m (heldKey o a)) s.held }

/-- The audit pool has room for n more records of an origin (R582). -/
def State.auditRoom (s : State) (o : Origin) (n : Nat) : Bool := o = .firmware || n = 0 || decide (512 + n ≤ s.auditFree)

/-- The value each register of a group takes at its commit. -/
def State.groupNew (s : State) (o : Origin) (a : RegAddr) (v : Nat) (b : RegAddr) : Nat :=
  if b = a then newValue a (s.rd a) v else s.heldOr o b

/-- The commit of a group by the write of its highest register: every register of it or, where the audit pool has no room for
each change, none (R13, R582). -/
def State.commitGroup (s : State) (o : Origin) (g : List RegAddr) (a : RegAddr) (v : Nat) : State :=
  let n := (g.filter (fun b => lockable b && decide (s.groupNew o a v b ≠ s.rd b))).length
  if s.auditRoom o n then (g.foldl (fun t b => t.setReg o b (s.groupNew o a v b)) s).dropHeld o g
  else (s.countFull.refuse o Code.AUDIT_FULL a v).dropHeld o g

/-- An admitted write applied by its access codes, a group held or committed (R11, R13). -/
def State.applyWrite (s : State) (o : Origin) (a : RegAddr) (v : Nat) : State :=
  match groupOf a with
  | none => s.setReg o a (newValue a (s.rd a) v)
  | some g => if g.getLast? = some a then s.commitGroup o g a v else s.hold1 o a v

/-- A write of an action or value register (R673): its checks, then its effect. -/
def State.act (s : State) (o : Origin) (a : RegAddr) (v : Nat) (effect : State → State) : State :=
  match s.permit o a v with
  | .error s => s
  | .ok s => effect (s.traceRec (pageOf a) 0 (offOf a) [v, o.code])

end Sys2Proof.Machine
end

