-- ==== Sys2Proof/Machine/Sram.lean ====
section
/-! DEFINITION. On-die memory: regions, corrections, hard faults and their repair, FILL, the bell words' vote
(R366 to R390). -/

namespace Sys2Proof.Machine

/-- The first line of each region (R366). -/
def regionBase : Nat → Nat
  | 0 => 0 | 1 => 0x200000 | 2 => 0x260000 | 3 => 0x266000 | 4 => 0x266800 | 5 => 0x2A0000 | 6 => 0x2A8800
  | 7 => 0x2B0800 | 8 => 0x2D0000 | 9 => 0x2F0000 | _ => 0x300000

/-- The region of a line (R366). -/
def sramRegion (line : Nat) : Nat := ((List.range 10).filter (fun g => regionBase g ≤ line)).length - 1

/-- A region's FILLED bit (R368). -/
def State.filled (s : State) (g : Nat) : Bool := s.sram.filled.testBit g

/-- Free hurdles (R373). -/
def Sram.free (m : Sram) : Nat := 32 - m.hurdles.length
/-- Hurdles that serve region 0. -/
def Sram.tallyHurdles (m : Sram) : Nat := (m.hurdles.filter (fun h => !h.dead && sramRegion h.line = 0)).length
/-- Spare blocks of region 4 that are free (R366, R374). -/
def Sram.spares (m : Sram) : Nat := 792 - (m.fences.filter (·.sub.isSome)).length
/-- Fenced staging rows (R373). -/
def Sram.stagingFenced (m : Sram) : Nat := (m.fences.filter (fun f => sramRegion (256 * f.block) = 1)).length
/-- The first spare block not in use. -/
def Sram.spareBlock (m : Sram) : Nat := (((List.range 792).map (· + 0x26E8)).find? (fun b => m.fences.all (fun f => f.sub ≠ some b))).getD 0x26E8

/-- The HURDLE_ENTRY image (R391). -/
def Hurdle.image (h : Hurdle) : Nat := 2 ^ 31 + (if h.dead then 2 ^ 30 else 0) + sramRegion h.line * 2 ^ 24 + h.line
/-- The FENCE_ENTRY image (R391). -/
def FenceE.image (f : FenceE) : Nat := 2 ^ 31 + (if f.inForce then 2 ^ 30 else 0) + f.sub.getD 0x3FFF * 2 ^ 16 + f.block

/-- The hurdle map in the keep (R536). -/
def Sram.mapBytes (m : Sram) : List Byte :=
  (List.range 32).flatMap (fun i => match m.hurdles[i]? with | some h => leBytes 4 h.image ++ leBytes 4 h.sec | none => leBytes 8 0)
/-- The fence list in the keep (R536). -/
def Sram.fenceBytes (m : Sram) : List Byte :=
  (List.range 64).flatMap (fun i => match m.fences[i]? with | some f => leBytes 4 f.image | none => leBytes 4 0)

/-- A hurdle granted to a line, in the order of R377. -/
def State.setHurdle (s : State) (line : Nat) : State :=
  let i := s.sram.hurdles.length
  let h : Hurdle := { line, sec := s.clock.sec }
  let s1 := { s with sram := { s.sram with hurdles := s.sram.hurdles ++ [h] } }
  let s2 := (s1.putKeep 0x0020 0 s1.sram.mapBytes).writeBell 6 (Nat.lor (s1.bell 6) (2 ^ i)) Code.SRAM_HURDLE_SET
  s2.record { code := Code.SRAM_HURDLE_SET, cls := 1, lk := 3, l0 := line, l1 := sramRegion line, l2 := i }

/-- A fence entry recorded in the keep, audited and reported (R374, R375, R377). -/
def State.recordFence (s : State) (i : Nat) (f : FenceE) : State :=
  let s1 := s.putKeep 0x0021 0 s.sram.fenceBytes
  (s1.commit 0x0040 .firmware 0 0 f.image [Code.SRAM_FENCE_SET]).record
    { code := Code.SRAM_FENCE_SET, cls := 1, lk := 3, l0 := 256 * f.block, l1 := sramRegion (256 * f.block), l2 := i }

/-- A fence without substitution, recorded at once and not yet in force (R375). -/
def State.setFence (s : State) (block : Nat) : State :=
  if s.sram.fences.any (fun f => f.block = block) then s
  else
    let f : FenceE := { block, sub := none, inForce := false }
    let s1 := { s with sram := { s.sram with fences := s.sram.fences ++ [f] } }
    s1.recordFence s.sram.fences.length f

/-- A fence with substitution begun: its block is copied to a spare (R374). -/
def State.moveBlock (s : State) (block : Nat) : State :=
  if s.sram.fences.any (fun f => f.block = block) then s
  else
    let f : FenceE := { block, sub := some s.sram.spareBlock, inForce := false, moving := true }
    { s with sram := { s.sram with fences := s.sram.fences ++ [f] } }

/-- A line left without repair, reported once (R376). -/
def State.leaveLine (s : State) (line : Nat) : State :=
  if s.sram.noRepair.contains line then s
  else
    let s1 := { s with sram := { s.sram with noRepair := line :: s.sram.noRepair } }
    let s2 := s1.wr R.SRAM_NO_REPAIR (satAdd 255 (s.fld R.SRAM_NO_REPAIR 31 24) 1 * 2 ^ 24 + line % 2 ^ 22)
    s2.record { code := Code.SRAM_NO_REPAIR, cls := 1, lk := 3, l0 := line, l1 := sramRegion line, l2 := 0xFF }

/-- The repair of a line judged hard-faulty (R373). -/
def State.repairLine (s : State) (line : Nat) : State :=
  let m := s.sram
  let g := sramRegion line
  let block := line / 256
  let entry := decide (m.fences.length < 64)
  let avail := decide (m.free ≥ 1 + (s.fld R.SRAM_HURDLES_RESERVED_TALLY 5 0 - m.tallyHurdles))
  if g = 0 then
    if m.free ≥ 1 then s.setHurdle line else if entry then s.setFence block else s.leaveLine line
  else if g = 1 then
    if avail then s.setHurdle line
    else if entry && decide (m.stagingFenced < 64) then s.setFence block else s.leaveLine line
  else if entry && decide (m.spares > 0) then s.moveBlock block
  else if avail then s.setHurdle line else s.leaveLine line

/-- The hurdle that serves a line, if any. -/
def Sram.hurdleOf (m : Sram) (line : Nat) : Option Nat := m.hurdles.findIdx? (fun h => !h.dead && h.line = line)

/-- A hurdle whose own line fails is retired (R378). -/
def State.retireHurdle (s : State) (i line : Nat) : State :=
  let hs := s.sram.hurdles.zipIdx.map (fun h => if h.2 = i then { h.1 with dead := true } else h.1)
  let s1 := { s with sram := { s.sram with hurdles := hs } }
  let s2 := (s1.putKeep 0x0020 0 s1.sram.mapBytes).writeBell 6 (Nat.lor (s1.bell 6) (2 ^ (32 + i))) Code.SRAM_HURDLE_FAULT
  s2.record { code := Code.SRAM_HURDLE_FAULT, cls := 1, lk := 3, l0 := line, l1 := sramRegion line, l2 := i }

/-- A line judged hard-faulty: reported, then repaired (R372, R373, R378). -/
def State.judgeLine (s : State) (line : Nat) : State :=
  let s1 := s.record { code := Code.SRAM_HARD_FAULT, cls := 1, lk := 3, l0 := line, l1 := sramRegion line, l2 := 0xFF }
  match s1.sram.hurdleOf line with
  | some i => (s1.retireHurdle i line).repairLine line
  | none => s1.repairLine line

/-- SRAM_TRACE and audit lines whose content is lost (R371). -/
def State.loseLine (s : State) (line : Nat) : State :=
  let g := sramRegion line
  let o := line - regionBase g
  if g = 8 then
    let gone := s.trace.recs.filter (fun r => r.seq % 262144 / 2 = o)
    let keep := s.trace.recs.filter (fun r => r.seq % 262144 / 2 ≠ o)
    match gone with
    | [] => s
    | r :: rs =>
      let first := rs.foldl (fun m q => min m q.seq) r.seq
      let last := rs.foldl (fun m q => max m q.seq) r.seq
      let mark : TraceRec := ⟨s.trace.seq, 0x1A, 0xFF, 0, s.clock.sec % 2 ^ 32, s.nsec, [first, last]⟩
      ({ s with trace := { s.trace with recs := mark :: keep, seq := s.trace.seq + 1, lost := satAdd (2 ^ 32 - 1) s.trace.lost gone.length } }).record
        { code := 0x1A40, cls := 1, lk := 3, l0 := line, l1 := g, l2 := 0xFF }
  else if g = 9 then
    let at0 := s.audit.pool.zipIdx.filter (fun p => (s.audit.entered - 1 - p.2) % 32768 = o / 2)
    let seqs := at0.filterMap (fun p => match p.1 with | .record r => some r.seq | .signature .. => none)
    match seqs with
    | [] => s
    | q :: _ => (s.commit 0x0061 .firmware 0 0 0 [Code.SRAM_AUDIT_LINE_LOST, q, q]).record
        { code := Code.SRAM_AUDIT_LINE_LOST, cls := 1, lk := 3, l0 := line, l1 := g, l2 := 0xFF }
  else s

/-- One SRAM error: counted, reported and judged (R367, R370 to R372, R376). -/
def State.sramErr (s : State) (e : SramErr) : State :=
  let g := sramRegion e.line
  let s1 := (s.wr R.SRAM_ERR_LINE (g * 2 ^ 24 + e.line)).inc (if e.ue then R.SRAM_UE_COUNT else R.SRAM_CE_COUNT)
  let s2 := s1.record { code := if e.ue then Code.SRAM_UE else Code.SRAM_CE, cls := if e.ue then 1 else 0, lk := 3,
                        l0 := e.line, l1 := g, l2 := (s.sram.hurdleOf e.line).getD 0xFF }
  let s3 := if e.ue then s2.loseLine e.line else s2
  let again := s.sram.recent.any (fun r => r.1 = e.line ∧ s.clock.sec < r.2 + 3600)
  let recent := ((e.line, s.clock.sec) :: s3.sram.recent.filter (fun r => r.1 ≠ e.line)).take 64
  let s4 := if e.ue then s3 else { s3 with sram := { s3.sram with recent } }
  if s.sram.noRepair.contains e.line then s4
  else if (e.ue ∧ s.filled g) ∨ (!e.ue ∧ again) then s4.judgeLine e.line else s4

/-- Insertion by line. -/
def insLine (x : SramErr) : List SramErr → List SramErr
  | [] => [x]
  | y :: ys => if x.line ≤ y.line then x :: y :: ys else y :: insLine x ys

/-- The SRAM errors of a step, in ascending order of line (R385). -/
def State.sramErrs (s : State) (l : List SramErr) : State :=
  (l.foldl (fun a x => insLine x a) []).foldl State.sramErr s

/-- An uncorrectable error in a region from lo to hi: what its unit has in work there is discarded (R371). -/
def spoils (l : List SramErr) (lo hi : Nat) : Bool := l.any (fun e => e.ue && decide (lo ≤ sramRegion e.line ∧ sramRegion e.line ≤ hi))

/-! ### FILL -/

/-- The pages whose ENABLE bars a FILL of a region (R370, log entry 15). -/
def regionOwners : Nat → List Nat
  | 0 | 1 => [0x0D] | 2 => [0x0C] | 3 => [0x0A] | 4 => [0x0E, 0x10, 0x11] | 5 => [0x08] | 6 => [0x09] | 7 => [0x0A]
  | 8 => [0x1A] | 9 => [0x03] | _ => []

/-- The regions a FILL names (R370). -/
def fillRegionsOf (r : Nat) : List Nat := if r = 0xF then [0, 1, 2, 5, 6, 7] else if r ≤ 9 then [r] else []

/-- A FILL started, or discarded with SRAM_FILL_BUSY (R370). -/
def State.startFill (s : State) (o : Origin) (v : Nat) : State :=
  let rs := fillRegionsOf (fieldOf v 3 0)
  let s1 := s.setReg o R.SRAM_FILL (Nat.lor (s.rd R.SRAM_FILL - s.fld R.SRAM_FILL 3 0) (fieldOf v 3 0))
  if fieldOf v 8 8 = 0 then s1
  else if s.sram.fillRegions ≠ [] ∨ rs.any (fun g => (regionOwners g).any s.enabled) then s.refuse o Code.SRAM_FILL_BUSY R.SRAM_FILL v
  else if rs = [] then s1
  else ({ s1 with sram := { s1.sram with fillRegions := rs } }).setFld (0x15 * 0x1000 + 8) 16 16 1

/-- FILL. REGION outside 0 to 9 and 0xF is out of its field's range (R628). -/
def execFill (o : Origin) (v : Nat) (s : State) : Host.Outcome State Fault Refusal :=
  match s.permit o R.SRAM_FILL v with
  | .error s => .next s
  | .ok s =>
    if 9 < fieldOf v 3 0 ∧ fieldOf v 3 0 < 15 then .next (s.refuse o (Code.REG_VALUE_RANGE 0x15) R.SRAM_FILL v)
    else .next (s.startFill o v)

/-- What a filled region held is gone: it reads 0 (R370; log entry 16). -/
def State.clearRegion (s : State) (g : Nat) : State :=
  let dropDev := fun (s : State) (p : Nat → Bool) => { s with dtabs := s.dtabs.filter (fun t => !p t.1), dnext := s.dnext.filter (fun t => !p t.1) }
  match g with
  | 0 => { s with tally := [] }
  | 1 => { s with staging := [], hold := [] }
  | 2 => { dropDev s (fun t => decide (0x0C00 ≤ t ∧ t < 0x0D00)) with caps := [], capsNext := none }
  | 3 => let f := fun (j : Job) => { j with tabs := j.tabs.filter (fun t => t.1 < 0x0A00 ∨ t.1 ≥ 0x0A07) }
         (s.modJob 0 f).modJob 1 f
  | 4 => dropDev s (fun t => decide (0x0E00 ≤ t))
  | 5 => { s with ctxs := [] }
  | 8 => { s with trace := { s.trace with recs := [] } }
  | 9 => { s with audit := { s.audit with pool := [] } }
  | _ => s

/-- A lost hurdle map or fence list is written anew once every software region has been filled since the loss (R539). -/
def State.mapsAnew (s : State) : State :=
  if !s.sram.mapLost ∨ Nat.land s.sram.sinceLost 0xE7 ≠ 0xE7 then s
  else
    let s1 := { s with sram := { s.sram with mapLost := false } }
    (s1.putKeep 0x0020 0 s1.sram.mapBytes).putKeep 0x0021 0 s1.sram.fenceBytes

/-- FILL_DONE: lines that read back wrong are judged, the regions are filled (R368, R370, R386). -/
def execFillDone (bad : List Nat) (s : State) : Host.Outcome State Fault Refusal :=
  if s.sram.fillRegions = [] then .next s
  else
    let rs := s.sram.fillRegions
    let s1 := (bad.filter (fun l => rs.contains (sramRegion l))).foldl State.judgeLine (rs.foldl State.clearRegion s)
    let mask := rs.foldl (fun f g => Nat.lor f (2 ^ g)) 0
    let m := { s1.sram with fillRegions := [], filled := Nat.lor s1.sram.filled mask, sinceLost := Nat.lor s1.sram.sinceLost mask }
    .next (({ s1 with sram := m }.mapsAnew).setFld (0x15 * 0x1000 + 8) 16 16 0)

/-- FENCE_MOVE_DONE: the oldest block in copy moves to its spare and its entry is recorded (R374, R377). -/
def execFenceMoveDone (s : State) : Host.Outcome State Fault Refusal :=
  match s.sram.fences.findIdx? (·.moving) with
  | none => .next s
  | some i =>
    let fs := s.sram.fences.zipIdx.map (fun f => if f.2 = i then { f.1 with moving := false, inForce := true } else f.1)
    let s1 := { s with sram := { s.sram with fences := fs } }
    match fs[i]? with
    | some f => .next (s1.recordFence i f)
    | none => .next s1

/-- Fences of region 1 come into force at a stripe boundary (R375). -/
def State.fencesAtBoundary (s : State) : State :=
  { s with sram := { s.sram with fences := s.sram.fences.map (fun f => if sramRegion (256 * f.block) = 1 then { f with inForce := true } else f) } }

/-- Fences of region 0 come into force when Shepherd is enabled (R375). -/
def State.fencesAtEnable (s : State) : State :=
  { s with sram := { s.sram with fences := s.sram.fences.map (fun f => if sramRegion (256 * f.block) = 0 then { f with inForce := true } else f) } }

/-! ### Bell words -/

/-- The check of a copy, over the word index and the value's bytes (R379). -/
def bellCheck (n : Nat) (v : BitVec 64) : BitVec 8 := BitVec.ofNat 8 (crc8msg.crc (beBytes 1 n ++ beBytes 8 v.toNat))

/-- A copy as it is written: the value and its check. -/
def bellCopy (n v : Nat) : BitVec 64 × BitVec 8 := (BitVec.ofNat 64 v, bellCheck n (BitVec.ofNat 64 v))

/-- A copy is valid (R381). -/
def bellValid (n : Nat) (c : BitVec 64 × BitVec 8) : Bool := c.2 = bellCheck n c.1

/-- A vote: the value that two or more valid copies hold, and how many copies do not hold it (R381). -/
def bellVote (n : Nat) (copies : List (BitVec 64 × BitVec 8)) : Option (BitVec 64 × Nat) :=
  let ok := (copies.filter (bellValid n)).map (·.1)
  (ok.find? (fun v => decide (2 ≤ ok.count v))).map (fun v => (v, copies.length - ok.count v))

/-- The copies of a word as a vote reads them: those it finds changed, else as they were written. -/
def State.bellCopies (s : State) (found : List (Nat × List (BitVec 64 × BitVec 8))) (n : Nat) : List (BitVec 64 × BitVec 8) :=
  match found.find? (fun f => f.1 = n && f.2.length = 3) with | some f => f.2 | none => List.replicate 3 (bellCopy n (s.bell n))

/-- One word's vote (R381). -/
def State.voteWord (s : State) (n : Nat) (copies : List (BitVec 64 × BitVec 8)) : State :=
  match bellVote n copies with
  | none => s.deviceFatal { code := Code.BELL_NO_MAJORITY, cls := 4, lk := 8, l0 := n }
  | some (v, bad) =>
    let s1 := if v.toNat = s.bell n then s else s.putBell n v.toNat
    if bad = 0 then s1
    else ((s1.commit 0x0040 .firmware n (s.bell n) v.toNat [Code.BELL_REWRITE]).bump R.SRAM_BELL_REWRITES 31 0 bad).record
      { code := Code.BELL_REWRITE, cls := 0, lk := 8, l0 := n }

/-- The vote of all 64 words (R381, R382): a word whose copies are as they were written is left. -/
def State.voteAll (s : State) (found : List (Nat × List (BitVec 64 × BitVec 8))) : State :=
  (List.range 64).foldl (fun s n => if found.any (fun f => f.1 = n) then s.voteWord n (s.bellCopies found n) else s) s

/-- BELL_VOTE, every word as its copies are found; `stuck` names copies whose rewriting does not verify (R381 to R383). -/
def execBellVote (found : List (Nat × List (BitVec 64 × BitVec 8))) (stuck : List (Nat × Nat)) (s : State) : Host.Outcome State Fault Refusal :=
  if s.power = .night ∨ !s.booted then .next s
  else
    let s1 := s.voteAll found
    .next { s1 with bellDead := stuck.filter (fun c => !s1.bellDead.contains c) ++ s1.bellDead }

end Sys2Proof.Machine
end

