-- ==== Sys2Proof/Machine/Keep.lean ====
section
/-! DEFINITION. The keep: its records and their checks, staged writes, and how a record or a planner's action comes into force
(R533 to R546, R549, R551 to R554). -/

namespace Sys2Proof.Machine

/-! ### Records -/

/-- The die sensor record in force is lost (R539, R554). -/
def State.sensorsLost (s : State) : Bool := match s.recForce 0x10 0 with | some r => r.lost | none => false

/-- A record of a type is on its defaults (R539). -/
def State.keepLost (s : State) (typ : Nat) : Bool := s.keep.any (fun r => r.typ = typ && r.lost)

/-- The bytes of a record: header, payload, CHECK (R534). -/
def KeepRec.bytes (r : KeepRec) : List Byte :=
  let b := leBytes 2 r.typ ++ leBytes 2 r.inst ++ leBytes 4 r.payload.length ++ leBytes 4 r.gen ++ leBytes 4 r.written ++ r.payload
  b ++ leBytes 4 (crcC b)

/-- The class bit of a type in KEEP.DEFAULTED and KEEP.PENDING. -/
def keepClass : Nat → Option Nat
  | 0x10 => some 0 | 0x11 => some 1 | 0x12 => some 2 | 0x13 => some 3 | 0x14 => some 4 | 0x15 => some 5 | 0x20 => some 6 | 0x21 => some 7
  | 0x30 => some 8 | _ => none

/-- Class bits of a list of types. -/
def classBits (l : List Nat) : Nat := (l.filterMap keepClass).foldl (fun v c => Nat.lor v (2 ^ c)) 0

/-- KEEP.DEFAULTED. -/
def State.defaulted (s : State) : Nat := classBits ((s.keep.filter KeepRec.lost).map (·.typ))

/-- KEEP.USED: the slots of the records and of the directory (R533, R535). -/
def State.keepUsed (s : State) : Nat := s.keepEnd

/-- KEEP.CAL_DEFL: an axis reads 0xFFFF where its tracking table in force is not the one measured with (R546). -/
def State.calDefl (s : State) : Nat :=
  match s.keepForce 0x14 0 with
  | none => 0xFFFFFFFF
  | some p =>
    let axis := fun (a : Nat) (o r : Nat) =>
      if crcC (kget (fun _ => []) s.drover.banks (2 * s.drover.bank + a)) = leAt p o 4 then leAt p r 2 else 0xFFFF
    axis 1 4 2 * 2 ^ 16 + axis 0 8 0

/-- KEEP.ENC_RESID: byte n is channel n's residual error in 1/16 nm, saturating. -/
def State.encResid (s : State) : Nat :=
  (List.range 4).foldl (fun v n => v + min 255 (leAt ((s.keepOf 0x11 n).getD []) 8 2 / 4) * 2 ^ (8 * n)) 0

/-! ### The ageing history in force -/

/-- The bits of a list of numbers below n, clear where listed. -/
def maskBut (n : Nat) (out : List Nat) : Nat := (List.range n).foldl (fun v i => if out.contains i then v else v + 2 ^ i) 0

/-- The registers that show the ageing history (R135, R168, R549, R555). -/
def State.showAge (s : State) : State :=
  let a := s.age
  let s1 := (s.wr64 R.LANTERN_LANE_MASK_L (maskBut 64 a.lanesOut)).wr64 R.PENUMBRA_UNIT_MASK_L (maskBut 64 (a.unitsOut.map (· / 32)))
  let s2 := s1.setFld R.PENUMBRA_UNITS_IN 11 0 (2048 - a.unitsOut.length)
  let s3 := (List.range 4).foldl (fun s n => s.wr (R.AGE_RATE_CAP0 + 4 * n)
    ((List.range 16).foldl (fun v i => v + kget (fun _ => 3) a.rateCap (16 * n + i) * 2 ^ (2 * i)) 0)) s2
  ((s3.wr R.AGE_FLOORS (a.refreshFloor * 256 + a.hystFloor)).setFld R.AGE_VOLT_STEP 11 8 a.voltPending).setFld R.AGE_VOLT_STEP 3 0 (a.steps - a.voltPending)

/-- The ageing defaults, the safe end of every setting (R539). -/
def Age.safe (a : Age) : Age :=
  { a with steps := 8, voltPending := 8 - (a.steps - a.voltPending), refreshFloor := 1, hystFloor := 0, rateCap := [], lanesOut := [], unitsOut := [] }

/-- A hurdle map that is lost leaves every hurdle in use spent (R539). -/
def Sram.spend (m : Sram) : Sram :=
  { m with hurdles := m.hurdles.map (fun h => { h with dead := true }), fences := [], mapLost := true, sinceLost := 0 }

/-- The strobe delays of the die band in force are loaded (R543). -/
def State.loadStrobes (s : State) : State :=
  match s.keepOf 0x13 (s.fld R.THERM_BAND 1 0) with
  | none => s
  | some p => (s.wr R.DROVER_STB_DELAY0 (leAt p 0 4 % 2 ^ 18)).wr R.DROVER_STB_DELAY1 (leAt p 4 4 % 2 ^ 18)

/-- The encoder record of a channel comes into force: that of the keep, none where it is lost (R539, R542, R544). -/
def State.loadEnc (s : State) (ch : Nat) : State :=
  { s with drover := { s.drover with cals := kset (fun _ => []) s.drover.cals ch ((s.keepOf 0x11 ch).getD []) } }

/-- What waits comes into force: the defaults of lost records, the die band with its settings, strobe records, and the
planner's floors, records before actions (R539, R542, R543, R548, R551, R554). -/
def State.keepBoundary (s : State) : State :=
  let s1 := if s.keepWait.contains (0x30, 0) ∧ s.keepLost 0x30 then { s with age := s.age.safe } else s
  let s2 := if (s.keepWait.contains (0x20, 0) ∧ s.keepLost 0x20) ∨ (s.keepWait.contains (0x21, 0) ∧ s.keepLost 0x21)
    then { s1 with sram := s1.sram.spend } else s1
  let moved := s.dieBand ≠ s.fld R.THERM_BAND 1 0
  let s3 := s2.setFld R.THERM_BAND 1 0 s.dieBand
  let s4 := if moved ∨ s.keepWait.contains (0x13, s.dieBand) then s3.loadStrobes else s3
  let s4 := ((List.range 4).filter (fun ch => s.keepWait.contains (0x11, ch))).foldl State.loadEnc s4
  ({ s4 with keepWait := [], keepOld := [], age := { s4.age with refreshIn := s4.age.refreshFloor, hystIn := s4.age.hystFloor, voltDue := s4.age.voltPending } }).showAge

/-- With no stripe held a record or an action comes into force at once (R542). -/
def State.keepNow (s : State) : State := if s.stripesHeld then s else s.keepBoundary

/-! ### The checks of R537 -/

/-- The validity of both copies of a record. -/
def State.markRecord (s : State) (r : KeepRec) (ok : Bool) : State :=
  let mark := fun (k : KeepRec) => if k.typ = r.typ ∧ k.inst = r.inst then { k with ok0 := ok, ok1 := ok } else k
  { s with keep := s.keep.map mark }

/-- A record whose copies are both bad (R537, R539, R554). -/
def State.loseRecord (s : State) (r : KeepRec) : State :=
  let s1 := s.markRecord r false
  let s2 := (s1.bump R.KEEP_COPY_FAILS 31 0 2).record { code := Code.KEEP_RECORD_LOST, cls := 1, lk := 8, l0 := r.typ, l1 := r.inst }
  if r.typ = 0x30 ∨ r.typ = 0x20 ∨ r.typ = 0x21 ∨ r.typ = 0x11 then { s2 with keepWait := (r.typ, r.inst) :: s2.keepWait }
  else s2.keepWaits r.typ r.inst (some r)

/-- A record with one bad copy: rewritten from the other, and audited (R537, R576). -/
def State.mendRecord (s : State) (r : KeepRec) : State :=
  let s1 := s.markRecord r true
  ((s1.inc R.KEEP_COPY_FAILS).commit 0x0050 .firmware 0 0 0 [r.typ, r.inst, r.gen, crcC r.payload]).record
    { code := Code.KEEP_COPY_BAD, cls := 0, lk := 8, l0 := r.typ, l1 := r.inst }

/-- Power was lost between steps 1 and 2 of a record's write: copy 0 is one generation ahead, copy 1 as it was (R540, R552). -/
def State.cutRecord (s : State) (c : Nat × Nat × List Byte) : State :=
  if keepLen c.1 = 0 ∨ c.2.1 ≥ keepInstances c.1 then s
  else if s.keep.any (fun k => k.typ = c.1 && k.inst = c.2.1) then
    { s with keep := s.keep.map (fun k => if k.typ = c.1 ∧ k.inst = c.2.1 then { k with ahead := some c.2.2 } else k) }
  else { s with keep := { typ := c.1, inst := c.2.1, gen := 1, written := s.clock.sec % 2 ^ 32, payload := c.2.2, ok1 := false, off := s.keepEnd } :: s.keep }

/-- The copy taken of a record whose copy 0 is one generation ahead: copy 0 where it is valid (R537, R552). -/
def State.takeAhead (s : State) (r : KeepRec) (bad0 : Bool) : State × KeepRec :=
  let r1 := match r.ahead with
    | none => r
    | some p => if bad0 then { r with ahead := none }
      else { r with gen := r.gen + 1, payload := p, written := s.clock.sec % 2 ^ 32, ahead := none }
  ({ s with keep := s.keep.map (fun k => if k.typ = r.typ ∧ k.inst = r.inst then r1 else k) }, r1)

/-- One record checked: `bad` names copies as TYPE × 65,536 + INSTANCE and copy. -/
def State.checkRecord (s : State) (bad : List (Nat × Nat)) (r : KeepRec) : State :=
  let k := r.typ * 65536 + r.inst
  let b0 := bad.contains (k, 0) || !r.ok0
  let b1 := bad.contains (k, 1) || !r.ok1
  let t := s.takeAhead r b0
  if r.lost then s else if b0 ∧ b1 then t.1.loseRecord t.2 else if b0 ∨ b1 then t.1.mendRecord t.2 else t.1

/-- The directory and then every record checked; with no directory nothing can be found (R537, R538). -/
def State.checkKeep (s : State) (bad : List (Nat × Nat)) : State :=
  let d0 := bad.contains (0x10000, 0)
  let d1 := bad.contains (0x10000, 1)
  if d0 ∧ d1 then s.deviceFatal { code := Code.KEEP_RECORD_LOST, cls := 4, lk := 8, l0 := 1 }
  else
    let s1 := if d0 ∨ d1 then (s.inc R.KEEP_COPY_FAILS).record { code := Code.KEEP_COPY_BAD, cls := 0, lk := 8, l0 := 1 } else s
    (s1.keep.foldl (fun s r => s.checkRecord bad r) s1).keepNow

/-- KEEP_DAILY_CHECK (R537, R554). -/
def execKeepDailyCheck (bad : List (Nat × Nat)) (s : State) : Host.Outcome State Fault Refusal :=
  if s.power = .night ∨ !s.booted ∨ s.fatal ≠ 0 then .next s else .next (s.checkKeep bad)

/-! ### Staged writes -/

/-- KEEP.STAGE as bytes. -/
def State.stageBytes (s : State) : List Byte := (List.range 512).flatMap (fun i => leBytes 4 (s.rd (0x6800 + 4 * i)))

/-- The reserved fields of a payload are 0 (R536). -/
def keepReserved (typ : Nat) (p : List Byte) : Bool :=
  if typ = 0x11 then leAt p 0xA 2 = 0 && decide (leAt p 0xC 4 ≤ 1)
  else if typ = 0x13 then decide (leAt p 0 4 < 2 ^ 18 ∧ leAt p 4 4 < 2 ^ 18)
  else if typ = 0x14 then leAt p 0xC 4 = 0 else true

/-- Who may stage a record of a type (R536). -/
def keepWriter (o : Origin) (typ : Nat) : Bool :=
  if typ = 0x10 ∨ typ = 0x13 ∨ typ = 0x14 then o = .owner || o = .service
  else if typ = 0x11 then o = .owner || o = .service || o = .firmware else o = .firmware

/-- The form of a staged record (R541). -/
def State.stageOk (s : State) (b : List Byte) : Bool :=
  let sel := s.rd R.KEEP_SEL
  let typ := sel % 65536
  let n := leAt b 4 4
  leAt b 0 4 = sel && decide (sel / 65536 < keepInstances typ) && n = keepLen typ && decide (0 < n ∧ n ≤ 2028) &&
  leAt b (16 + n) 4 = crcC (b.take (16 + n)) && keepReserved typ ((b.drop 16).take n)

/-- CMD_STATE after a command: 2 done, or 3 with its code. -/
def State.keepState (s : State) (code : Nat) : State := s.wr R.KEEP_CMD_STATE (code * 2 ^ 16 + if code = 0 then 2 else 3)

/-- A staged write refused. -/
def State.keepRefuse (s : State) (o : Origin) (code : Nat) : State := (s.refuse o code R.KEEP_CMD 2).keepState code

/-- The checks of a staged write in order, then the write: with one copy that fails every try it stands by the other, with both
the previous record stands (R540, R541, R582). -/
def State.keepWrite (s : State) (o : Origin) (fails : Nat) : State :=
  let b := s.stageBytes
  let sel := s.rd R.KEEP_SEL
  let n := keepLen (sel % 65536)
  if s.auditFull ∧ o ≠ .firmware then s.countFull.keepRefuse o Code.AUDIT_FULL
  else if !keepWriter o (sel % 65536) then s.keepRefuse o Code.KEEP_DENIED
  else if !s.stageOk b then s.keepRefuse o Code.KEEP_FORM
  else if fails ≥ 2 then (s.bump R.KEEP_COPY_FAILS 31 0 2).keepRefuse o Code.KEEP_WRITE_FAIL
  else
    let s1 := (s.storeKeep o (sel % 65536) (sel / 65536) ((b.drop 16).take n) fails).keepNow
    let s2 := if (sel % 65536 = 0x13) ∧ !s.stripesHeld ∧ sel / 65536 = s.fld R.THERM_BAND 1 0 then s1.loadStrobes else s1
    let s3 := if fails = 0 then s2
      else (s2.inc R.KEEP_COPY_FAILS).record { code := Code.KEEP_WRITE_FAIL, cls := 1, lk := 8, l0 := sel % 65536, l1 := sel / 65536 }
    s3.keepState 0

/-- KEEP_WRITE: a write of 2 to KEEP.CMD; `fails` copies fail every try (R540, R541). -/
def execKeepWrite (o : Origin) (fails : Nat) (s : State) : Host.Outcome State Fault Refusal :=
  .next (s.act o R.KEEP_CMD 2 (fun s => s.keepWrite o fails))

/-- A record that the keep holds, the directory among them; when that was last written is an open value (R535; log entry 181). -/
def State.keepFind (s : State) (typ inst : Nat) : Option KeepRec :=
  if typ = 1 ∧ inst = 0 then
    let gen := fieldOf (s.bell 7) 63 32
    some { typ, inst, gen, written := Config.dirWritten gen % 2 ^ 32, payload := s.dirBytes }
  else s.keep.find? (fun r => r.typ = typ && r.inst = inst && !r.lost)

/-- STAGE filled with the record that SEL names, as far as it holds it; one that is not there ends in error. -/
def State.keepRead (s : State) : State :=
  let sel := s.rd R.KEEP_SEL
  match s.keepFind (sel % 65536) (sel / 65536) with
  | none => s.keepState Code.KEEP_RECORD_LOST
  | some r =>
    let b := r.bytes
    ((List.range 512).foldl (fun s i => s.wr (0x6800 + 4 * i) (leAt b (4 * i) 4)) s).keepState 0

/-- KEEP_READ: a write of 1 to KEEP.CMD, which any role may make (R541). -/
def execKeepRead (o : Origin) (s : State) : Host.Outcome State Fault Refusal :=
  .next (s.act o R.KEEP_CMD 1 State.keepRead)

end Sys2Proof.Machine
end

