-- ==== Sys2Proof/Machine/Hbm.lean ====
section
/-! DEFINITION. In-package memory: the address map, errors and their counts, rank retirement and migration, refresh
and self-refresh (R328 to R364). Bytes are not held here: each structure kept in DRAM is a field of State of its own,
and what a read meets is an operand (log entry 2). -/

namespace Sys2Proof.Machine

/-- The logical rank of a device address (R331). -/
def daRank (da : Nat) : Nat := da / 0x300000000
/-- The offset of a device address in its rank. -/
def daOff (da : Nat) : Nat := da % 0x300000000
/-- The pseudo-channel of a device address. -/
def daPc (da : Nat) : Nat := let l := daOff da / 64; Nat.xor (l % 32) (l / 2 ^ 13 % 32)
/-- The bank of a device address. -/
def daBank (da : Nat) : Nat := daOff da / 64 / 32 / 16 % 16
/-- The row of a device address. -/
def daRow (da : Nat) : Nat := daOff da / 64 / 32 / 256
/-- The column of a device address. -/
def daCol (da : Nat) : Nat := daOff da / 64 / 32 % 16

/-- A physical rank of the rank-retirement bell word (R329). -/
def State.physOf (s : State) (n : Nat) : Nat := fieldOf (s.bell 5) (4 * n + 3) (4 * n)
/-- The spare of the bell word. -/
def State.spareRank (s : State) : Nat := fieldOf (s.bell 5) 55 52
/-- A migration is in progress. -/
def State.migrating (s : State) : Bool := s.ranks.st = 1

/-- The segment of a migrating rank has verified, so that its reads come from the new rank (R354). -/
def State.movedDa (s : State) (da : Nat) : Bool :=
  s.migrating && s.physOf (daRank da) = s.ranks.src && decide (daOff da / 2 ^ 26 < s.ranks.seg)

/-- The physical rank that a read of a device address comes from. -/
def State.readRank (s : State) (da : Nat) : Nat := if s.movedDa da then s.ranks.dst else s.physOf (daRank da)

/-- The page of a physical rank's stack (R365). -/
def rankPage (p : Nat) : Nat := 0x16 + p / 3

/-- The rank-retirement bell word written, with the registers that show it (R329). -/
def State.writeRankWord (s : State) (v code : Nat) : State := (s.writeBell 5 v code).wr64 R.HBM0_RANK_MAP_L v

/-- MIG_STATE from the migration held. -/
def State.showMig (s : State) : State :=
  s.wr R.HBM0_MIG_STATE (s.ranks.src * 2 ^ 28 + s.ranks.dst * 2 ^ 24 + s.ranks.seg % 256 * 2 ^ 16 + s.ranks.st)

/-- A record that names a physical rank. -/
def rankRec (code p : Nat) : RecArg := { code, cls := 1, lk := 2, l2 := p * 2 ^ 28 }

/-- The migration begun (R354 step 1): RETIRED names the source and SPARE stays the target while STATE is 1 (DEDUCED,
log entry 17). -/
def State.startMigration (s : State) (p : Nat) : State :=
  let t := s.spareRank
  let v := withField (withField (s.bell 5) 63 60 1) 59 56 p
  let s1 := { s with ranks := { s.ranks with src := p, dst := t, seg := 0, st := 1, poison := [] } }
  ((s1.writeRankWord v Code.HBM_RANK_RETIRING).showMig).record (rankRec Code.HBM_RANK_RETIRING p)

/-- The migration abandoned (R355). -/
def State.abandonMigration (s : State) : State :=
  let v := withField (withField (withField (s.bell 5) 63 60 0) 59 56 15) 55 52 15
  let s1 := { s with ranks := { s.ranks with st := 4 } }
  ((s1.writeRankWord v Code.HBM_MIGRATE_FAIL).showMig).record (rankRec Code.HBM_MIGRATE_FAIL s.ranks.src)

/-- The migration complete (R354 step 4). -/
def State.finishMigration (s : State) : State :=
  let b := s.bell 5
  let map := (List.range 11).foldl (fun v n => if fieldOf b (4 * n + 3) (4 * n) = s.ranks.src then withField v (4 * n + 3) (4 * n) s.ranks.dst else v) b
  let v := withField (withField (withField map 63 60 2) 59 56 s.ranks.src) 55 52 15
  let s1 := { s with ranks := { s.ranks with st := 3 } }
  ((s1.writeRankWord v Code.HBM_RANK_MIGRATED).showMig).record (rankRec Code.HBM_RANK_MIGRATED s.ranks.src)

/-- A physical rank that crosses its threshold (R353 to R356, R363). -/
def State.crossRank (s : State) (p : Nat) : State :=
  if s.migrating ∧ p = s.ranks.dst then s.abandonMigration
  else if s.migrating ∧ p = s.ranks.src then s
  else if ¬ (List.range 11).any (fun n => s.physOf n = p) then s
  else if s.spareRank = 15 ∨ s.migrating then s.record (rankRec Code.HBM_NO_SPARE p)
  else s.startMigration p

/-- Times within the last n seconds. -/
def State.since (s : State) (l : List Nat) (n : Nat) : List Nat := l.filter (fun t => s.clock.sec < t + n)

/-- A stack. -/
def State.stack (s : State) (i : Nat) : Stack := kget (fun _ => {}) s.drams i
/-- A stack set. -/
def State.setStack (s : State) (i : Nat) (x : Stack) : State := { s with drams := kset (fun _ => {}) s.drams i x }

/-- The bank of a device address on a physical rank, as `Stack.rows` names it. -/
def bankOf (p da : Nat) : Nat := (p % 3 * 32 + daPc da) * 16 + daBank da

/-- A request of a device address on a physical rank: its bank keeps its row open, and one that has to be activated owes its neighbours a
refresh with probability 2^-NBR_LOG2 (R345, R347; log entry 173). -/
def State.openRow (s : State) (p da : Nat) : State :=
  let x := s.stack (p / 3)
  let b := bankOf p da
  if kget (fun _ => 0) x.rows b = daRow da + 1 then s
  else
    let d := s.fresh
    let owes := Config.freeValue d.1 % 2 ^ s.fld R.HBM0_CFG 4 0 = 0
    d.2.setStack (p / 3) { x with rows := kset (fun _ => 0) x.rows b (daRow da + 1), owed := if owes then (b, daRow da) :: x.owed else x.owed }

/-- Neighbour rows of a row: one at an edge of the bank (R347). -/
def neighbourRows (row : Nat) : Nat := if row = 0 ∨ row = 24575 then 1 else 2

/-- A refresh of a bank closes its rows (R345). -/
def Stack.close (x : Stack) (bank : Nat) : Stack := { x with rows := x.rows.filter (fun r => r.1 % 16 ≠ bank) }

/-- An error on a device address shown in its stack's registers (R349). -/
def State.showDaErr (s : State) (da p : Nat) (reg : RegAddr) : State :=
  let d := rankPage p * 0x1000 - R.HBM0_CAPS / 0x1000 * 0x1000
  (((s.openRow p da).inc (reg + d)).wr64 (R.HBM0_ERR_DA_L + d) da).wr (R.HBM0_ERR_LOC + d)
    (p * 2 ^ 28 + daPc da * 2 ^ 23 + daBank da * 2 ^ 19 + daRow da)

/-- Writes repeated for the stack's write parity, each counted (R349, R352). -/
def State.repeatWrites (s : State) (da n : Nat) : State :=
  let p := s.physOf (daRank da)
  (List.range n).foldl (fun s _ => s.record { code := rankPage p * 256 + 0x42, cls := 0, lk := 2, l0 := da, l1 := da / 2 ^ 32, l2 := p * 2 ^ 28 }) s

/-- An uncorrectable error counted against its rank (R353). -/
def State.countUe (s : State) (p : Nat) : State :=
  let old := s.since (kget (fun _ => []) s.ranks.ues p) 86400
  let s1 := { s with ranks := { s.ranks with ues := kput s.ranks.ues p (s.clock.sec :: old) } }
  if old.length < 3 ∧ old.length + 1 ≥ 3 then s1.crossRank p else s1

/-- A corrected error counted against its rank (R353). -/
def State.countCe (s : State) (p : Nat) : State :=
  let old := s.since (kget (fun _ => []) s.ranks.ces p) 3600
  let t := s.fld R.HBM0_CE_THRESHOLD 15 0
  let s1 := { s with ranks := { s.ranks with ces := kput s.ranks.ces p (s.clock.sec :: old) } }
  if old.length ≤ t ∧ old.length + 1 > t then s1.crossRank p else s1

/-- The record of a failed DRAM read (R349, R359). -/
def daRec (code cls da p : Nat) : RecArg :=
  { code, cls, lk := 2, l0 := da, l1 := da / 2 ^ 32, l2 := p * 2 ^ 28 }

/-- A poisoned line (R359). -/
def State.poisoned (s : State) (da : Nat) : Bool := s.ranks.poison.contains (da / 64)

/-- The code of an uncorrectable read, on the page of the stack it strikes (R359, R365). -/
def State.ueCode (s : State) (da : Nat) : Nat := rankPage (s.readRank da) * 256 + (if s.poisoned da then 0x48 else 0x41)

/-- The record of an uncorrectable read (R349). -/
def State.ueRec (s : State) (da cls : Nat) : RecArg := daRec (s.ueCode da) cls da (s.readRank da)

/-- An uncorrectable read counted against its rank (R351, R353, R359). -/
def State.missRead (s : State) (da : Nat) : State := if s.poisoned da then s else s.countUe (s.readRank da)

/-- An uncorrectable read: its registers, its record, its count (R349, R351, R353, R359). -/
def State.hbmUe (s : State) (da : Nat) (stripe : Option (Nat × Nat) := none) (cls : Nat := 1) : State :=
  ((s.showDaErr da (s.readRank da) R.HBM0_UE_COUNT).record { s.ueRec da cls with stripe }).missRead da

/-- A command that an uncorrectable read fails (R351). -/
def State.failRead (s : State) (n da : Nat) : State :=
  let a := s.ueRec da 7
  ((s.showDaErr da (s.readRank da) R.HBM0_UE_COUNT).fail n a.code 2 a.l0 a.l1 a.l2).missRead da

/-- Several uncorrectable reads, in order. -/
def State.hbmUes (s : State) (l : List Nat) : State := l.foldl (fun s da => s.hbmUe da) s

/-- A corrected read (R349, R350). -/
def State.hbmCe (s : State) (da : Nat) : State :=
  let p := s.readRank da
  ((s.showDaErr da p R.HBM0_CE_COUNT).record (daRec (rankPage p * 256 + 0x40) 0 da p)).countCe p

/-- The requester's read still fails: a line of a verified segment is read again from the old rank, which answers
(R354). -/
def State.readFails (s : State) (da : Nat) : Bool := !s.movedDa da

/-! ### The commands -/

/-- REFRESH_DUE: postponed behind traffic up to 4 times, then one is issued for one that falls due; without traffic it is issued with what was
postponed (R345, R346). -/
def execRefreshDue (stack bank : Nat) (traffic : Bool) (s : State) : Host.Outcome State Fault Refusal :=
  let x := s.stack stack
  let n := kget (fun _ => 0) x.postponed bank
  if stack > 3 ∨ bank > 15 ∨ x.selfRef ≠ 0 then .next s
  else if traffic ∧ n < 4 then .next (s.setStack stack { x with postponed := kset (fun _ => 0) x.postponed bank (n + 1) })
  else if traffic then .next (s.setStack stack (x.close bank))
  else .next (s.setStack stack { x.close bank with postponed := kset (fun _ => 0) x.postponed bank 0 })

/-- NBR_REFRESH_DUE: the owed rows are refreshed and counted; one owed in self-refresh is dropped (R345, R347, R362). -/
def execNbrRefreshDue (stack bank row : Nat) (s : State) : Host.Outcome State Fault Refusal :=
  if stack > 3 ∨ bank > 15 ∨ row > 24575 ∨ (s.stack stack).selfRef ≠ 0 then .next s
  else .next ((s.setStack stack { (s.stack stack).close bank with owed := (s.stack stack).owed.filter (fun o => ¬ (o.1 % 16 = bank ∧ o.2 = row)) }).bump (R.HBM0_NBR_REFRESHES + 0x1000 * stack) 31 0 (neighbourRows row))

/-- A stack's self-refresh state, shown in STATUS [17:16]. -/
def State.setSelfRef (s : State) (stack v : Nat) : State :=
  (s.setStack stack { s.stack stack with selfRef := v }).setFld ((0x16 + stack) * 0x1000 + 8) 17 16 v

/-- SELF_REFRESH_EXIT: the request waited and the stack is active again (R348). -/
def execSelfRefreshExit (stack : Nat) (s : State) : Host.Outcome State Fault Refusal :=
  if stack > 3 ∨ (s.stack stack).selfRef ≠ 2 then .next s
  else .next ((s.inc R.HBM0_SR_DEFERRED).setSelfRef stack 0)

/-- An uncorrectable line of the management processor's area that firmware cannot recover is device-fatal (R332, R351, R483). -/
def State.firmwareRead (s : State) (da : Nat) (recovered : Bool) : State :=
  if da < 0x10000000 ∧ !recovered then s.deviceFatal { daRec Code.SYS_FIRMWARE 4 da (s.readRank da) with det := some 0 } else s

/-- PATROL_SCRUB (R349, R350, R353); `recovered` is firmware's answer to an uncorrectable line of its own area. -/
def execPatrolScrub (da : Nat) (ce ue recovered : Bool) (s : State) : Host.Outcome State Fault Refusal :=
  if da ≥ 0x2100000000 ∨ s.power ≠ .day ∨ (s.stack (s.readRank da / 3)).selfRef ≠ 0 then .next s
  else if ue then .next ((s.hbmUe da).firmwareRead da recovered)
  else if ce then .next (s.hbmCe da) else .next (s.openRow (s.readRank da) da)

/-- HBM_STACK_FAULT: device-fatal in Day (R352). -/
def execHbmStackFault (stack : Nat) (s : State) : Host.Outcome State Fault Refusal :=
  if stack > 3 ∨ s.power ≠ .day ∨ !s.booted then .next s
  else .next (s.deviceFatal { code := (0x16 + stack) * 256 + 0x4E, cls := 4 })

/-- RETIRE (R353, R356). -/
def execRetire (o : Origin) (v : Nat) (s : State) : Host.Outcome State Fault Refusal :=
  .next (s.act o R.HBM0_RETIRE v (fun s =>
    if fieldOf v 3 0 > 10 then s.refuse o (Code.REG_VALUE_RANGE 0x16) R.HBM0_RETIRE v else s.crossRank (s.physOf (fieldOf v 3 0))))

/-- MIGRATION_SEGMENT: the next segment copied and compared; a second mismatch abandons (R354, R355, R359, R361). -/
def execMigrationSegment (mismatches : Nat) (readUe : Option Nat) (s : State) : Host.Outcome State Fault Refusal :=
  if !s.migrating ∨ s.power ≠ .day then .next s
  else
    let s1 := match readUe with
      | none => s
      | some da =>
        let p := s.ranks.src
        let s2 := (s.showDaErr da p R.HBM0_UE_COUNT).record (daRec (rankPage p * 256 + 0x41) 1 da p)
        ({ s2 with ranks := { s2.ranks with poison := da / 64 :: s2.ranks.poison } }).countUe p
    if mismatches ≥ 2 then .next s1.abandonMigration
    else
      let s3 := ({ s1 with ranks := { s1.ranks with seg := s1.ranks.seg + 1 } }).showMig
      if s3.ranks.seg ≥ 192 then .next s3.finishMigration else .next s3

end Sys2Proof.Machine
end

