-- ==== Sys2Proof/Machine/Records.lean ====
section
/-! DEFINITION. The records of the Psipo stream (R61 to R74) and their checks over a stripe's blocks (R75), with
the shapes of each tile; the flattening of curves (R115 to R117). Faults of one record are looked for in the order
type, length, run past DLEN, flags, reserved fields, content, state, coordinates (log entry 10). -/

namespace Sys2Proof.Machine

/-- A layout point relative to its origin, or an absolute one. -/
abbrev Pt := Int × Int

/-- A shape as its record gives it (R70 to R72): the corner points of a TRAP in the order of R112, the vertices of
a POLY, the start and the segments of a PATH, each with 1, 2 or 3 points. -/
inductive Geo
  | trap (pts : List Pt)
  | poly (pts : List Pt)
  | path (start : Pt) (segs : List (List Pt))
  deriving DecidableEq, Repr

/-- A record of R61. -/
inductive Rec
  | pad
  | stripe (r : StripeRec)
  | stripeEnd (id tiles shapes blocks : Nat)
  | tile (cont : Bool) (col band : Nat)
  | origin (p : Pt)
  | cls (c : Nat)
  | shape (g : Geo)
  | array (nx ny : Nat) (dx dy : Int) (k : Nat)
  deriving DecidableEq, Repr

/-- The 32-bit words of decompressed data (R43). -/
def wordsOf : List Byte → List Nat
  | a :: b :: c :: d :: bs => leNat [a, b, c, d] :: wordsOf bs
  | _ => []

/-- Word i of a record. -/
def wd (ws : List Nat) (i : Nat) : Nat := ws.getD i 0
/-- Word i as a signed coordinate. -/
def sw (ws : List Nat) (i : Nat) : Int := signedOf 32 (wd ws i)

/-- The fixed length of a type, or its least length (R61). -/
def recLen : Nat → Option (Nat × Bool)
  | 0x00 => some (1, false)
  | 0x01 => some (8, true)
  | 0x02 => some (5, true)
  | 0x03 => some (2, true)
  | 0x04 => some (5, true)
  | 0x05 => some (2, true)
  | 0x10 => some (7, true)
  | 0x11 => some (2, false)
  | 0x12 => some (4, false)
  | 0x20 => some (5, true)
  | _ => none

/-- Points of word pairs. -/
def points (ws : List Nat) (first : Nat) : Nat → List Pt
  | 0 => []
  | n + 1 => (sw ws first, sw ws (first + 1)) :: points ws (first + 2) n

/-- STRIPE (R62), but for the rules that name the job. -/
def parseStripe (ws : List Nat) : Except Nat Rec :=
  if fieldOf (wd ws 3) 31 17 ≠ 0 ∨ fieldOf (wd ws 5) 31 16 ≠ 0 ∨ fieldOf (wd ws 7) 31 26 ≠ 0 ∨ fieldOf (wd ws 7) 15 10 ≠ 0
  then .error Code.PSIPO_RESERVED
  else .ok (.stripe { id := wd ws 1, x0 := wd ws 2 + 2 ^ 32 * fieldOf (wd ws 3) 15 0,
                      y0 := wd ws 4 + 2 ^ 32 * fieldOf (wd ws 5) 15 0, dir := fieldOf (wd ws 3) 16 16, rows := wd ws 6,
                      ovlHigh := fieldOf (wd ws 7) 25 16, ovlLow := fieldOf (wd ws 7) 9 0 })

/-- TRAP (R70) as the contour of R112. -/
def parseTrap (orient : Bool) (ws : List Nat) : Except Nat Rec :=
  if sw ws 1 > sw ws 2 ∨ sw ws 3 > sw ws 4 ∨ sw ws 5 > sw ws 6 then .error Code.PSIPO_TRAP_ORDER
  else
    let ps : List Pt := [(sw ws 3, sw ws 1), (sw ws 4, sw ws 1), (sw ws 6, sw ws 2), (sw ws 5, sw ws 2)]
    .ok (.shape (.trap (if orient then ps.map (fun p => (p.2, p.1)) else ps)))

/-- POLY (R71). -/
def parsePoly (len : Nat) (ws : List Nat) : Except Nat Rec :=
  let n := fieldOf (wd ws 1) 15 0
  if fieldOf (wd ws 1) 31 16 ≠ 0 then .error Code.PSIPO_RESERVED
  else if n < 3 then .error Code.PSIPO_POLY_COUNT
  else if len ≠ 2 + 2 * n then .error Code.PSIPO_LENGTH
  else .ok (.shape (.poly (points ws 2 n)))

/-- The segment codes of a PATH: two bits each, sixteen to a word (R72). -/
def segCodes (ws : List Nat) (m : Nat) : List Nat :=
  (List.range m).map (fun j => (wd ws (4 + j / 16) >>> (2 * (j % 16))) % 4)

/-- Segments of points by their codes. -/
def segments (ws : List Nat) : Nat → List Nat → List (List Pt)
  | _, [] => []
  | at0, c :: cs => points ws at0 (c + 1) :: segments ws (at0 + 2 * (c + 1)) cs

/-- PATH (R72). -/
def parsePath (len : Nat) (ws : List Nat) : Except Nat Rec :=
  let m := fieldOf (wd ws 1) 15 0
  let tw := ceilDiv m 16
  let codes := segCodes ws m
  let p := (codes.map (· + 1)).sum
  if fieldOf (wd ws 1) 31 16 ≠ 0 then .error Code.PSIPO_RESERVED
  else if m = 0 ∨ m > 32768 then .error Code.PSIPO_SEGMENT_COUNT
  else if len < 4 + tw then .error Code.PSIPO_LENGTH
  else if codes.any (· = 3) ∨ wd ws (3 + tw) >>> (2 * ((m - 1) % 16 + 1)) ≠ 0 then .error Code.PSIPO_SEGMENT_TYPE
  else if len ≠ 4 + tw + 2 * p then .error Code.PSIPO_LENGTH
  else .ok (.shape (.path (sw ws 2, sw ws 3) (segments ws (4 + tw) codes)))

/-- ARRAY (R73). -/
def parseArray (ws : List Nat) : Except Nat Rec :=
  let nx := fieldOf (wd ws 1) 15 0
  let ny := fieldOf (wd ws 1) 31 16
  let k := fieldOf (wd ws 4) 7 0
  if fieldOf (wd ws 4) 31 8 ≠ 0 then .error Code.PSIPO_RESERVED
  else if nx = 0 ∨ ny = 0 ∨ k = 0 ∨ nx * ny > 2 ^ 24 then .error Code.PSIPO_ARRAY_SIZE
  else .ok (.array nx ny (sw ws 2) (sw ws 3) k)

/-- One record from the words that are left, with its length in words. -/
def parseRec (ws : List Nat) : Except Nat (Rec × Nat) := do
  let h := wd ws 0
  let len := fieldOf h 31 12
  let flags := fieldOf h 11 8
  let typ := h % 256
  let (l, fixed) ← (match recLen typ with | some x => .ok x | none => .error Code.PSIPO_TYPE_UNKNOWN : Except Nat (Nat × Bool))
  if len < l ∨ (fixed ∧ len ≠ l) then throw Code.PSIPO_LENGTH
  if ws.length < len then throw Code.PSIPO_TRUNCATED
  if flags > (if typ = 0x03 ∨ typ = 0x10 then 1 else 0) then throw Code.PSIPO_FLAGS
  let r ← (match typ with
    | 0x00 => .ok .pad
    | 0x01 => parseStripe ws
    | 0x02 => .ok (.stripeEnd (wd ws 1) (wd ws 2) (wd ws 3) (wd ws 4))
    | 0x03 => .ok (.tile (flags = 1) (fieldOf (wd ws 1) 31 24) (fieldOf (wd ws 1) 23 0))
    | 0x04 => if fieldOf (wd ws 2) 31 16 ≠ 0 ∨ fieldOf (wd ws 4) 31 16 ≠ 0 then .error Code.PSIPO_RESERVED
              else .ok (.origin ((wd ws 1 + 2 ^ 32 * fieldOf (wd ws 2) 15 0 : Nat), (wd ws 3 + 2 ^ 32 * fieldOf (wd ws 4) 15 0 : Nat)))
    | 0x05 => if fieldOf (wd ws 1) 31 8 ≠ 0 then .error Code.PSIPO_RESERVED else .ok (.cls (fieldOf (wd ws 1) 7 0))
    | 0x10 => parseTrap (flags = 1) ws
    | 0x11 => parsePoly len ws
    | 0x12 => parsePath len ws
    | _ => parseArray ws : Except Nat Rec)
  return (r, len)

/-! ### Geometry of a shape -/

/-- The points a record holds, for the range check of R59. -/
def Geo.pts : Geo → List Pt
  | .trap ps => ps
  | .poly ps => ps
  | .path s segs => s :: segs.flatten

/-- The edge charge of a shape (R74). The closing line of a PATH counts 1 also where its last end point is its start, so that R72
draws none (DESIGN CHOICE, log entry 147). -/
def Geo.charge : Geo → Nat
  | .trap _ => 4
  | .poly ps => ps.length
  | .path _ segs => (segs.map (fun g => if g.length = 1 then 1 else if g.length = 2 then 16 else 32)).sum + 1

/-- The L1 norm of a − 2b + c (R115). -/
def second (a b c : Pt) : Nat := (a.1 - 2 * b.1 + c.1).natAbs + (a.2 - 2 * b.2 + c.2).natAbs

/-- The smallest n from 1 to `cap` with 4 * tau * n * n ≥ d (R115), or none (R117). -/
def chords (cap tau d : Nat) : Option Nat := ((List.range cap).map (· + 1)).find? (fun n => 4 * tau * n * n ≥ d)

/-- The flattened points of one segment from its start (R115, R116), or none where it passes its cap (R117). -/
def flattenSeg (tau : Nat) (p0 : Pt) (seg : List Pt) : Option (List Pt) :=
  match seg with
  | [e] => some [e]
  | [p1, p2] => (chords 16 tau (second p0 p1 p2)).map (fun n => (List.range n).map (fun (k0 : Nat) =>
      let k : Int := k0 + 1
      let m : Int := n - k
      let q := fun (a b c : Int) => rhe (m ^ 2 * a + 2 * k * m * b + k ^ 2 * c) (n ^ 2)
      (q p0.1 p1.1 p2.1, q p0.2 p1.2 p2.2)))
  | [p1, p2, p3] => (chords 32 tau (3 * max (second p0 p1 p2) (second p1 p2 p3))).map (fun n => (List.range n).map (fun (k0 : Nat) =>
      let k : Int := k0 + 1
      let m : Int := n - k
      let q := fun (a b c d : Int) => rhe (m ^ 3 * a + 3 * k * m ^ 2 * b + 3 * k ^ 2 * m * c + k ^ 3 * d) (n ^ 3)
      (q p0.1 p1.1 p2.1 p3.1, q p0.2 p1.2 p2.2 p3.2)))
  | _ => some []

/-- The contour of a PATH. -/
def flattenPath (tau : Nat) : Pt → List (List Pt) → Option (List Pt)
  | _, [] => some []
  | p0, g :: gs => do
    let a ← flattenSeg tau p0 g
    let b ← flattenPath tau (g.getLastD p0) gs
    return a ++ b

/-- The closed contour of a shape moved by a map of its points (R112). -/
def Geo.contour (tau : Nat) (f : Pt → Pt) : Geo → Option (List Pt)
  | .trap ps => some (ps.map f)
  | .poly ps => some (ps.map f)
  | .path s segs => (flattenPath tau (f s) (segs.map (·.map f))).map (fun r => f s :: r)

/-- Absolute layout quanta to stripe-relative internal units (R60). -/
def toUv (r : StripeRec) (p : Pt) : Pt :=
  (16 * (p.1 - r.x0), if r.dir = 0 then 16 * (p.2 - r.y0) else 16 * ((r.y0 : Int) - p.2))

/-- The point of instance (i, j) under an origin (R73). -/
def place (o : Pt) (dx dy : Int) (i j : Nat) (p : Pt) : Pt := (o.1 + p.1 + i * dx, o.2 + p.2 + j * dy)

/-- R59: an absolute coordinate within 0 to 2^48 − 1. -/
def inRange (p : Pt) : Bool := decide (0 ≤ p.1 ∧ p.1 < 2 ^ 48 ∧ 0 ≤ p.2 ∧ p.2 < 2 ^ 48)

/-! ### A stripe's records -/

/-- A shape listed under a tile: its class, origin, array and form. -/
structure Listed where
  cls : Nat
  origin : Pt
  nx : Nat
  ny : Nat
  dx : Int
  dy : Int
  geo : Geo
  deriving DecidableEq, Repr

/-- A tile of a stripe: band, column, the block and offset of its TILE record, the last block its list goes on into, its shapes and
its edge charge. -/
structure TileRec where
  band : Nat
  col : Nat
  block : Nat
  offset : Nat
  lastBlock : Nat := block
  shapes : List Listed := []
  charge : Nat := 0
  deriving DecidableEq, Repr

/-- What the checks of a stripe need of its job. -/
structure StripeCfg where
  id : Nat
  stripeCount : Nat
  width : Nat
  classUsed : Nat
  tau : Nat
  deriving DecidableEq, Repr

/-- The parser over a stripe: what the stripe has shown, and what is in force in the present block (R46, R69).
Tiles stand newest first. -/
structure Walk where
  srec : Option StripeRec := none
  tiles : List TileRec := []
  tileCount : Nat := 0
  shapeCount : Nat := 0
  blocks : Nat := 0
  ended : Bool := false
  fresh : Bool := true
  hasTile : Bool := false
  needTile : Bool := false
  origin : Option Pt := none
  cls : Option Nat := none
  arr : Option (Nat × Nat × Int × Int × Nat) := none
  deriving DecidableEq, Repr

/-- The rules of R62 that name the job, the stripe and its place. -/
def stripeForm (c : StripeCfg) (w : Walk) (r : StripeRec) : Bool :=
  w.blocks = 1 && w.fresh && w.srec.isNone && r.id = c.id && decide (r.id < c.stripeCount) && r.x0 % 40 = 0 && r.y0 % 40 = 0 &&
  r.rows % 64 = 0 && decide (64 ≤ r.rows ∧ r.rows ≤ 2 ^ 30) && decide (r.ovlHigh ≤ 512 ∧ r.ovlLow ≤ 512) &&
  decide (r.x0 + 40 * c.width ≤ 2 ^ 48) &&
  (if r.dir = 1 then decide (40 * r.rows ≤ r.y0) else decide (r.y0 + 40 * r.rows ≤ 2 ^ 48)) &&
  decide (r.ovlLow + r.ovlHigh ≤ c.width)

/-- The classes of a tile's shapes, ascending without repeats (R120). -/
def classesOf (l : List Listed) : List Nat := (List.range 256).filter (fun c => l.any (·.cls = c))

/-- One shape under the array in force, with the checks of R68, R69, R73, R74 and R117. -/
def Walk.shape (c : StripeCfg) (w : Walk) (g : Geo) : Except Nat Walk := do
  match w.hasTile, w.origin, w.cls, w.tiles, w.srec with
  | true, some o, some cl, t :: ts, some sr =>
    let (nx, ny, dx, dy) := match w.arr with | some (nx, ny, dx, dy, _) => (nx, ny, dx, dy) | none => (1, 1, 0, 0)
    let corners := [(0, 0), (nx - 1, 0), (0, ny - 1), (nx - 1, ny - 1)]
    if !(corners.all (fun ij => g.pts.all (fun p => inRange (place o dx dy ij.1 ij.2 p)))) then throw Code.PSIPO_COORD_RANGE
    if (g.contour c.tau (fun p => toUv sr (place o dx dy 0 0 p))).isNone then throw Code.LANTERN_CURVE_FLAT
    let t := { t with shapes := t.shapes ++ [⟨cl, o, nx, ny, dx, dy, g⟩], charge := t.charge + nx * ny * g.charge }
    if (classesOf t.shapes).length > 8 then throw Code.PSIPO_TILE_CLASSES
    if t.charge > 1048576 then throw Code.PSIPO_TILE_EDGES
    let arr := match w.arr with
      | some (a, b, x, y, n) => if n ≤ 1 then none else some (a, b, x, y, n - 1)
      | none => none
    return { w with tiles := t :: ts, shapeCount := w.shapeCount + 1, arr }
  | _, _, _, _, _ => throw Code.PSIPO_STATE_UNSET

/-- TILE (R64, R65). -/
def Walk.tile (c : StripeCfg) (w : Walk) (firstBand block offset : Nat) (cont : Bool) (col band : Nat) : Except Nat Walk := do
  let sr ← (match w.srec with | some r => .ok r | none => .error Code.PSIPO_STRIPE_FORM : Except Nat StripeRec)
  if col ≥ c.width / 64 ∨ band ≥ sr.rows / 64 then throw Code.PSIPO_TILE_RANGE
  if !w.hasTile ∧ band ≠ firstBand then throw Code.PSIPO_BAND_SPAN
  let w' := { w with hasTile := true, fresh := false, needTile := false }
  if cont then
    match w.tiles with
    | t :: ts =>
      if w.fresh ∧ t.band = band ∧ t.col = col then return { w' with tiles := { t with lastBlock := block } :: ts } else throw Code.PSIPO_CONT
    | [] => throw Code.PSIPO_CONT
  else
    let ok := match w.tiles with
      | t :: _ => decide (t.band < band ∨ (t.band = band ∧ t.col < col))
      | [] => true
    if !ok then throw Code.PSIPO_TILE_ORDER
    return { w' with tiles := { band, col, block, offset } :: w.tiles, tileCount := w.tileCount + 1 }

/-- STRIPE_END (R63). -/
def Walk.finish (c : StripeCfg) (w : Walk) (firstBand id tiles shapes blocks : Nat) : Except Nat Walk := do
  if w.srec.isNone then throw Code.PSIPO_STRIPE_FORM
  if w.fresh then throw Code.PSIPO_CONT
  if w.needTile ∧ firstBand ≠ 0 then throw Code.PSIPO_BAND_SPAN
  if id ≠ c.id ∨ tiles ≠ w.tileCount ∨ shapes ≠ w.shapeCount ∨ blocks ≠ w.blocks then throw Code.PSIPO_STRIPE_COUNT
  return { w with ended := true }

/-- One record of a stripe (R61 to R74). -/
def Walk.step (c : StripeCfg) (firstBand block offset : Nat) (w : Walk) (r : Rec) : Except Nat Walk := do
  if w.arr.isSome then
    match r with
    | .shape g => w.shape c g
    | _ => throw Code.PSIPO_ARRAY_MEMBER
  else match r with
  | .pad => return w
  | .stripe sr => if !stripeForm c w sr then throw Code.PSIPO_STRIPE_FORM
                  else return { w with srec := some sr, fresh := false, needTile := true }
  | r =>
    if w.ended then throw Code.PSIPO_STRIPE_COUNT
    else if w.srec.isNone then throw Code.PSIPO_STRIPE_FORM
    else match r with
    | .tile cont col band => w.tile c firstBand block offset cont col band
    | .stripeEnd id tiles shapes blocks => w.finish c firstBand id tiles shapes blocks
    | r =>
      if w.fresh ∨ w.needTile then throw Code.PSIPO_CONT
      else match r with
      | .origin p => return { w with origin := some p }
      | .cls cl => if c.classUsed.testBit cl then return { w with cls := some cl } else throw Code.PSIPO_CLASS_UNDECLARED
      | .shape g => w.shape c g
      | .array nx ny dx dy k =>
        if w.hasTile ∧ w.origin.isSome ∧ w.cls.isSome then return { w with arr := some (nx, ny, dx, dy, k), shapeCount := w.shapeCount + 1 }
        else throw Code.PSIPO_STATE_UNSET
      | _ => return w

/-- The records of one block from word `at0`; a fault names its byte offset. Members that an ARRAY still lacks at the end of the data
are named by the end of the data (DESIGN CHOICE, log entry 148). -/
def Walk.records (c : StripeCfg) (firstBand block : Nat) : Nat → Nat → List Nat → Walk → Except (Nat × Nat) Walk
  | 0, _, _, w => .ok w
  | f + 1, at0, ws, w =>
    match ws with
    | [] => if w.arr.isSome then .error (Code.PSIPO_TRUNCATED, 4 * at0) else .ok w
    | _ => match parseRec ws with
      | .error e => .error (e, 4 * at0)
      | .ok (r, len) => match w.step c firstBand block (4 * at0) r with
        | .error e => .error (e, 4 * at0)
        | .ok w => Walk.records c firstBand block f (at0 + len) (ws.drop len) w

/-- What a block must have shown by its end: after the block with STRIPE_END none follows (R63); the first holds STRIPE (R62), and
every block a TILE where it holds more than a stripe whose every tile is omitted (R65). -/
def Walk.blockEnd (before w : Walk) : Option Nat :=
  if before.ended then some Code.PSIPO_STRIPE_COUNT
  else if w.srec.isNone then some Code.PSIPO_STRIPE_FORM
  else if !w.ended && (w.fresh || w.needTile) then some Code.PSIPO_CONT else none

/-- One block of a stripe: the parser state of R46 starts empty. A record that is missing at its end is named by the end of the data
(DESIGN CHOICE, log entry 148). -/
def Walk.block (c : StripeCfg) (firstBand block : Nat) (bytes : List Byte) (w : Walk) : Except (Nat × Nat) Walk := do
  let ws := wordsOf bytes
  let w1 ← Walk.records c firstBand block (ws.length + 1) 0 ws
    { w with blocks := w.blocks + 1, fresh := true, hasTile := false, needTile := false, origin := none, cls := none, arr := none }
  match w.blockEnd w1 with
  | some code => throw (code, 4 * ws.length)
  | none => return w1

/-- The first record of a block that is no PAD. -/
def firstRecord : Nat → List Nat → Option Rec
  | 0, _ => none
  | f + 1, ws => match parseRec ws with
    | .error _ => none
    | .ok (.pad, len) => firstRecord f (ws.drop len)
    | .ok (r, _) => some r

/-- The contours of a shape's instances in stripe-relative units (R112). -/
def Listed.contours (sr : StripeRec) (tau : Nat) (l : Listed) : List (List Pt) :=
  (List.range l.nx).flatMap (fun i => (List.range l.ny).filterMap (fun j =>
    l.geo.contour tau (fun p => toUv sr (place l.origin l.dx l.dy i j p))))

end Sys2Proof.Machine
end

