-- ==== Sys2Proof/Machine/Raster.lean ====
section
/-! DEFINITION. Exact coverage of pixels by a tile's shapes (R111 to R120) and the arithmetic of Penumbra
(R142 to R156). -/

namespace Sys2Proof.Machine

/-- The edges of a closed contour. -/
def edgesOf (c : List Pt) : List (Pt × Pt) :=
  match c with
  | [] => []
  | p :: ps => (p :: ps).zip (ps ++ [p])

/-- Where an edge that is not horizontal crosses height y. -/
def crossX (e : Pt × Pt) (y : Rat) : Rat :=
  e.1.1 + (y - e.1.2) * (e.2.1 - e.1.1) / (e.2.2 - e.1.2)

/-- An edge crosses height y, upward (1) or downward (−1). -/
def crossing (e : Pt × Pt) (y : Rat) : Int :=
  if (e.1.2 : Rat) < y ∧ y < e.2.2 then 1 else if (e.2.2 : Rat) < y ∧ y < e.1.2 then -1 else 0

/-- The winding number of a contour about a point (R112). -/
def winding (c : List Pt) (x y : Rat) : Int :=
  ((edgesOf c).map (fun e => if crossing e y ≠ 0 ∧ crossX e y < x then crossing e y else 0)).sum

/-- The point lies in the region of the contours: in the interior of at least one (R113). -/
def inside (cs : List (List Pt)) (x y : Rat) : Bool := cs.any (fun c => winding c x y ≠ 0)

/-- Insertion in rising order. -/
def insRat (x : Rat) : List Rat → List Rat
  | [] => [x]
  | y :: ys => if x ≤ y then x :: y :: ys else y :: insRat x ys

/-- Values in rising order. -/
def sortRat (l : List Rat) : List Rat := l.foldl (fun a x => insRat x a) []

/-- The length of the region at height y between u0 and u1. -/
def spanAt (cs : List (List Pt)) (u0 u1 y : Rat) : Rat :=
  let xs := (cs.flatMap edgesOf).filterMap (fun e => if crossing e y = 0 then none else some (crossX e y))
  let cuts := sortRat (u0 :: u1 :: xs.filter (fun x => u0 < x ∧ x < u1))
  ((cuts.zip (cuts.drop 1)).map (fun p => if inside cs ((p.1 + p.2) / 2) y then p.2 - p.1 else 0)).sum

/-- The height at which two edges meet, if they are not parallel. -/
def meetY (a b : Pt × Pt) : Option Rat :=
  let d1 : Pt := (a.2.1 - a.1.1, a.2.2 - a.1.2)
  let d2 : Pt := (b.2.1 - b.1.1, b.2.2 - b.1.2)
  let det := d1.1 * d2.2 - d1.2 * d2.1
  if det = 0 then none
  else some (a.1.2 + ((d1.2 * ((b.1.1 - a.1.1) * d2.2 - (b.1.2 - a.1.2) * d2.1) : Int) : Rat) / det)

/-- The exact area of the region within the square of side 640 at (u0, v0): between neighbouring heights at which an
edge ends, two edges meet or an edge meets a side, the region's length is linear (R119). -/
def areaIn (cs : List (List Pt)) (u0 v0 : Int) : Rat :=
  let u1 := u0 + 640
  let v1 := v0 + 640
  let es := (cs.flatMap edgesOf).filter (fun e => decide (max e.1.2 e.2.2 > v0 ∧ min e.1.2 e.2.2 < v1))
  let sides : List (Pt × Pt) := [((u0, v0), (u0, v1)), ((u1, v0), (u1, v1))]
  let ends := es.flatMap (fun e => [(e.1.2 : Rat), (e.2.2 : Rat)])
  let meets := es.flatMap (fun a => (es ++ sides).filterMap (meetY a))
  let ys := sortRat ((v0 : Rat) :: (v1 : Rat) :: (ends ++ meets).filter (fun y => (v0 : Rat) < y ∧ y < v1))
  let mine := cs.filter (fun c => (edgesOf c).any (fun e => es.contains e))
  ((ys.zip (ys.drop 1)).map (fun p => if p.1 = p.2 then 0 else (p.2 - p.1) * spanAt mine u0 u1 ((p.1 + p.2) / 2))).sum

/-- rhe of a non-negative rational (R111). -/
def rheRat (q : Rat) : Int := rhe q.num q.den

/-- The coverage byte of pixel (c, r) of the stripe by contours of one class (R119). -/
def coverage (cs : List (List Pt)) (c r : Nat) : Nat := (rheRat (255 * areaIn cs (640 * c) (640 * r) / 409600)).toNat

/-- The slots of a tile: its classes in ascending order, each with the contours of its shapes (R120). -/
def slotsOf (sr : StripeRec) (tau : Nat) (l : List Listed) : List (Nat × List (List Pt)) :=
  (classesOf l).map (fun c => (c, (l.filter (·.cls = c)).flatMap (Listed.contours sr tau)))

/-! ### Penumbra's tables -/

/-- A table's little-endian 16-bit entry. -/
def u16At (t : List Byte) (i : Nat) : Nat := leAt t (2 * i) 2

/-- PARAMS fields (R161). -/
structure Params where
  nterms : Nat
  iter : Nat
  eta : Nat
  radii : List Nat
  fogEn : Bool
  nx : Nat
  ny : Nat
  x0 : Nat
  y0 : Nat
  deriving DecidableEq, Repr

/-- PARAMS read from its 32 bytes. -/
def Params.of (t : List Byte) : Params :=
  let w := fun i => leAt t (4 * i) 4
  { nterms := fieldOf (w 0) 21 20, iter := fieldOf (w 0) 17 16, eta := fieldOf (w 0) 15 0,
    radii := [fieldOf (w 1) 6 0, fieldOf (w 1) 14 8, fieldOf (w 1) 22 16], fogEn := fieldOf (w 2) 0 0 = 1,
    nx := fieldOf (w 3) 15 0, ny := fieldOf (w 3) 31 16, x0 := w 4 + 2 ^ 32 * fieldOf (w 5) 15 0,
    y0 := w 6 + 2 ^ 32 * fieldOf (w 7) 15 0 }

/-- PARAMS keeps its ranges and reserved fields (R161, R162). -/
def paramsOk (t : List Byte) : Bool :=
  let w := fun i => leAt t (4 * i) 4
  t.length = 32 && fieldOf (w 0) 31 22 = 0 && fieldOf (w 0) 19 18 = 0 && fieldOf (w 1) 31 23 = 0 && fieldOf (w 1) 15 15 = 0 &&
  fieldOf (w 1) 7 7 = 0 && decide (fieldOf (w 2) 31 1 = 0) && fieldOf (w 5) 31 16 = 0 && fieldOf (w 7) 31 16 = 0 &&
  (Params.of t).radii.all (fun r => decide (r ≤ 95)) && decide (1 ≤ (Params.of t).nx ∧ (Params.of t).nx ≤ 16384) &&
  decide (1 ≤ (Params.of t).ny ∧ (Params.of t).ny ≤ 16384)

/-- Octant entries of radius R (R161). -/
def octants (r : Nat) : Nat := (r + 1) * (r + 2) / 2

/-- The kernel sample of a term at an offset (R146). -/
def kernAt (r : Nat) (t : List Byte) (dx dy : Int) : Nat :=
  let a := max dx.natAbs dy.natAbs
  let b := min dx.natAbs dy.natAbs
  if a ≤ r then u16At t (a * (a + 1) / 2 + b) else 0

/-- How often an octant entry counts in the total of R146. -/
def octWeight (a b : Nat) : Nat := if a = 0 then 1 else if b = 0 ∨ b = a then 4 else 8

/-- The total of a kernel term. -/
def kernTotal (r : Nat) (t : List Byte) : Nat :=
  ((List.range (r + 1)).map (fun a => ((List.range (a + 1)).map (fun b => octWeight a b * u16At t (a * (a + 1) / 2 + b))).sum)).sum

/-- BASE, DENS_WT and VALID of a class (R154). -/
def classBase (t : List Byte) (c : Nat) : Nat := leAt t (8 * c) 2
/-- DENS_WT (R154). -/
def classWt (t : List Byte) (c : Nat) : Nat := leAt t (8 * c + 2) 2
/-- VALID (R154). -/
def classValid (t : List Byte) (c : Nat) : Bool := leAt t (8 * c + 4) 4 = 1

/-- The density of a cell from its sums by class, before it saturates (R143). -/
def densityRaw (classes : List Byte) (sums : List (Nat × Nat)) : Nat :=
  (rhe ((sums.map (fun s => s.2 * classWt classes s.1)).sum : Nat) 130560).toNat

/-- The cell sum of a class over its 256 pixels (R127). -/
def cellSum (cs : List (List Pt)) (cellCol cellRow : Nat) : Nat :=
  ((List.range 16).map (fun y => ((List.range 16).map (fun x => coverage cs (16 * cellCol + x) (16 * cellRow + y))).sum)).sum

/-- One iteration of R147 at a cell, from the densities and the factors before it, before its clip at 4.0. -/
def factorRaw (eta : Nat) (terms : List (Nat × List Byte)) (rho f : Int → Int → Nat) (m y : Int) : Nat :=
  let p := fun (m y : Int) => min 65535 (rhe ((f m y * rho m y : Nat) : Int) 16384).toNat
  let acc := (terms.map (fun t => ((List.range (2 * t.1 + 1)).map (fun (i : Nat) => ((List.range (2 * t.1 + 1)).map (fun (j : Nat) =>
    let dx : Int := i - t.1
    let dy : Int := j - t.1
    let k := kernAt t.1 t.2 dx dy
    if k = 0 then 0 else k * p (m + dx) (y + dy))).sum)).sum)).sum
  let g := min 65535 (rhe (acc : Nat) 32768).toNat
  (rhe (268435456 * (16384 + eta) : Nat) (268435456 + 2 * eta * g : Nat)).toNat

/-- A map as a function of column and row: `out` outside it. -/
def mapAt (cols rows out : Nat) (d : Nat → Nat) (l : KMap Nat) (m y : Int) : Nat :=
  if 0 ≤ m ∧ m < cols ∧ 0 ≤ y ∧ y < rows then kget d l (y.toNat * cols + m.toNat) else out

/-- The factor map after n iterations (R147), listed where it differs from 1.0. -/
def factorMap (eta : Nat) (terms : List (Nat × List Byte)) (cols rows : Nat) (rho : KMap Nat) : Nat → KMap Nat
  | 0 => []
  | n + 1 =>
    let f := factorMap eta terms cols rows rho n
    (List.range (cols * rows)).filterMap (fun k =>
      let v := min 65535 <| factorRaw eta terms (mapAt cols rows 0 (fun _ => 0) rho) (mapAt cols rows 16384 (fun _ => 16384) f)
        ((k % cols : Nat) : Int) ((k / cols : Nat) : Int)
      if v = 16384 then none else some (k, v))

/-- Cells whose factor the final iteration clips (R147). -/
def factorClips (eta : Nat) (terms : List (Nat × List Byte)) (cols rows : Nat) (rho : KMap Nat) (iter : Nat) : Nat :=
  if iter = 0 then 0
  else
    let f := factorMap eta terms cols rows rho (iter - 1)
    ((List.range (cols * rows)).filter (fun k =>
      factorRaw eta terms (mapAt cols rows 0 (fun _ => 0) rho) (mapAt cols rows 16384 (fun _ => 16384) f)
        ((k % cols : Nat) : Int) ((k / cols : Nat) : Int) > 65535)).length

/-- Clamping of R150 and R151. -/
def clampI (x lo hi : Int) : Int := max lo (min x hi)

/-- The factor at a pixel centre (R150), `F i j` the stored factor of cell column i and row j. -/
def factorPixel (rows : Nat) (F : Int → Int → Nat) (c r : Nat) : Nat :=
  let a : Int := 2 * c - 15
  let i := a.fdiv 32
  let fx := a - 32 * i
  let b : Int := 2 * r - 15
  let j := b.fdiv 32
  let fy := b - 32 * j
  let top : Int := rows / 16 - 1
  let j0 := clampI j 0 top
  let j1 := clampI (j + 1) 0 top
  (rhe ((32 - fx) * (32 - fy) * F i j0 + fx * (32 - fy) * F (i + 1) j0 + (32 - fx) * fy * F i j1 + fx * fy * F (i + 1) j1) 1024).toNat

/-- The fogging factor of a pixel (R151). -/
def fogPixel (p : Params) (fog : List Byte) (sr : StripeRec) (c r : Nat) : Nat :=
  if !p.fogEn then 32768
  else
    let x : Int := sr.x0 + 40 * c + 20
    let y : Int := if sr.dir = 0 then sr.y0 + 40 * r + 20 else (sr.y0 : Int) - 40 * r - 20
    let dx := clampI (x - p.x0) 0 (40000 * (p.nx - 1))
    let dy := clampI (y - p.y0) 0 (40000 * (p.ny - 1))
    let i := (dx / 40000).toNat
    let j := (dy / 40000).toNat
    let u := dx - 40000 * i
    let v := dy - 40000 * j
    let i1 := min (i + 1) (p.nx - 1)
    let j1 := min (j + 1) (p.ny - 1)
    let at' := fun i j => (u16At fog (j * p.nx + i) : Int)
    (rhe ((40000 - u) * (40000 - v) * at' i j + u * (40000 - v) * at' i1 j + (40000 - u) * v * at' i j1 + u * v * at' i1 j1)
      1600000000).toNat

/-- The blend table in force: BLEND, or the ramp of R162. -/
def blendAt (t : List Byte) (i : Nat) : Nat := if t = [] then (rhe ((2 * i + 1) * 32768 : Nat) 1024).toNat else u16At t i

/-- The blend weight of a column (R152). -/
def blendWeight (t : List Byte) (sr : StripeRec) (w c : Nat) : Nat :=
  if c < sr.ovlLow then blendAt t ((2 * c + 1) * 256 / sr.ovlLow)
  else if w ≤ c + sr.ovlHigh then
    let p' := w - 1 - c
    32768 - blendAt t ((2 * (sr.ovlHigh - 1 - p') + 1) * 256 / sr.ovlHigh)
  else 32768

/-- The unclipped x of R155. -/
def doseX (classes : List Byte) (qs : List (Nat × Nat)) (fp phi w : Nat) : Nat :=
  (rhe (((qs.map (fun q => q.2 * classBase classes q.1)).sum * fp * phi * w : Nat) : Int) (16320 * 2 ^ 44)).toNat

/-- The target dose of an x (R155). -/
def doseOf (lin : List Byte) (x : Nat) : Nat := if lin = [] then min x 1023 else u16At lin (min x 1023) % 1024

end Sys2Proof.Machine
end

