-- ==== Sys2Proof/Machine/Unit.lean ====
section
/-! DEFINITION. Decoding a compressed unit (R84 to R98), with the input byte offsets of R671. The decoder is a
function of the input so far and of the output space granted, so a resumed context gives what a straight decode
gives (R104). -/

namespace Sys2Proof.Machine

/-- The decoder between two symbols: the bits left, the bit reached, the output newest byte first and its length,
the bit at which the symbol in work begins, the stored bytes left. -/
structure Dec where
  bits : List Bool
  pos : Nat
  out : List Byte
  n : Nat
  sym : Nat
  left : Nat := 0
  deriving DecidableEq, Repr

/-- Why decoding stops before its end: a decode code at a bit, no more input, or no more output space with what is
left of the match. -/
inductive Halt
  | fault (code bit : Nat)
  | short (d : Dec)
  | full (d : Dec) (len dist : Nat)
  deriving DecidableEq, Repr

/-- What a unit's header allows: ULEN, the window, the space granted. -/
structure DecLim where
  ulen : Nat
  window : Nat
  space : Nat
  deriving DecidableEq, Repr

/-- One bit (R85). -/
def Dec.bit (d : Dec) : Except Halt (Bool × Dec) :=
  match d.bits with
  | [] => .error (.short d)
  | b :: bs => .ok (b, { d with bits := bs, pos := d.pos + 1 })

/-- bits(n), least significant bit first (R85, R88). -/
def Dec.take : Nat → Dec → Except Halt (Nat × Dec)
  | 0, d => .ok (0, d)
  | n + 1, d => do
    let (b, d) ← d.bit
    let (v, d) ← Dec.take n d
    return ((if b then 1 else 0) + 2 * v, d)

/-- A prefix-code table: how many symbols have each length from 0 to 15, and the present symbols by rising length,
then symbol. -/
structure Codes where
  count : List Nat
  syms : List Nat
  deriving DecidableEq, Repr

/-- The table of a list of code lengths (R91). -/
def Codes.of (lens : List Nat) : Codes :=
  let idx := lens.zipIdx
  { count := (List.range 16).map (fun l => if l = 0 then 0 else (lens.filter (· = l)).length),
    syms := (List.range 16).flatMap (fun l => if l = 0 then [] else (idx.filter (·.1 = l)).map (·.2)) }

/-- Present symbols. -/
def Codes.present (t : Codes) : Nat := t.syms.length

/-- 2^15 times the sum of 2^-len over the present symbols. -/
def Codes.kraft (t : Codes) : Nat := (t.count.zipIdx.map (fun x => if x.2 = 0 then 0 else x.1 * 2 ^ (15 - x.2))).sum

/-- Walks a code from its most significant bit: `first` and `index` as the canonical rule gives them (R91). -/
def Codes.walk (t : Codes) : List Nat → Nat → Nat → Nat → Dec → Except Halt (Nat × Dec)
  | [], _, _, _, d => .error (.fault Code.CODEC_CODE_UNUSED d.sym)
  | c :: cs, code, first, index, d => do
    let (b, d) ← d.bit
    let code := code + if b then 1 else 0
    if code < first + c then return (t.syms.getD (index + (code - first)) 0, d)
    else Codes.walk t cs (2 * code) (2 * (first + c)) (index + c) d

/-- One symbol of a table; `sym` then marks its first bit. In a one-symbol table only bit 0 names it (R92). -/
def Codes.read (t : Codes) (d : Dec) : Except Halt (Nat × Dec) :=
  let d := { d with sym := d.pos }
  if t.present = 1 then do
    let (b, d) ← d.bit
    if b then .error (.fault Code.CODEC_CODE_UNUSED d.sym) else return (t.syms.getD 0 0, d)
  else t.walk (t.count.drop 1) 0 0 0 d

/-- The checks of R92 on a table, except those of the literal/length alphabet. -/
def Codes.check (t : Codes) (dist : Bool) (start : Nat) : Except Halt Unit :=
  if t.kraft > 2 ^ 15 then .error (.fault Code.CODEC_TABLE_OVERSUB start)
  else if t.kraft = 2 ^ 15 then .ok ()
  else if t.present = 1 ∧ t.count.getD 1 0 = 1 then .ok ()
  else if t.present = 0 ∧ dist then .ok ()
  else .error (.fault Code.CODEC_TABLE_INCOMPLETE start)

/-- The literal/length table's checks, in the order of R92. -/
def checkLit (lens : List Nat) (start : Nat) : Except Halt Codes := do
  if (lens.drop 314).any (· ≠ 0) then throw (.fault Code.CODEC_RESERVED_SYMBOL start)
  let t := Codes.of (lens.take 314)
  t.check false start
  if lens.getD 256 0 = 0 then throw (.fault Code.CODEC_NO_END start)
  return t

/-- Runs of equal code lengths. -/
def runs (l : List (Nat × Nat)) : List Nat := l.flatMap (fun r => List.replicate r.1 r.2)

/-- The static literal/length tables (R95). -/
def staticLit : Nat → List Nat
  | 0 => runs [(128, 8), (128, 9), (1, 8), (6, 7), (51, 8)]
  | 1 => runs [(1, 2), (255, 9), (1, 8), (7, 7), (49, 8), (1, 9)]
  | 2 => runs [(256, 9), (52, 7), (6, 6)]
  | _ => runs [(198, 8), (116, 9)]

/-- The static distance tables (R95). -/
def staticDist : Nat → List Nat
  | 1 => runs [(4, 3), (20, 6), (24, 7)]
  | _ => runs [(16, 5), (32, 6)]

/-- The order in which the lengths of the code-length alphabet are sent (R93). -/
def clOrder : List Nat := [0, 8, 16, 17, 18, 4, 12, 6, 10, 2, 14, 5, 11, 3, 13, 7, 9, 1, 15]

/-- n code-length lengths of 3 bits (R93). -/
def readCl : Nat → Dec → Except Halt (List Nat × Dec)
  | 0, d => .ok ([], d)
  | n + 1, d => do
    let (v, d) ← d.take 3
    let (vs, d) ← readCl n d
    return (v :: vs, d)

/-- The sequence of code lengths, of `total` in all, until at least `upto` of them are known, newest first (R94); fuel bounds its
symbols. -/
def readLens (t : Codes) (total upto : Nat) : Nat → List Nat → Dec → Except Halt (List Nat × Dec)
  | 0, acc, d => .ok (acc, d)
  | f + 1, acc, d =>
    if acc.length ≥ upto then .ok (acc, d)
    else do
      let (s, d) ← t.read d
      let at0 := d.sym
      if s ≤ 15 then readLens t total upto f (s :: acc) d
      else
        let (v, n, d) ← (if s = 16 then do
            match acc with
            | [] => .error (.fault Code.CODEC_REPEAT_NO_PREV at0)
            | p :: _ => let (n, d) ← d.take 2; return (p, 3 + n, d)
          else if s = 17 then do let (n, d) ← d.take 3; return (0, 3 + n, d)
          else do let (n, d) ← d.take 7; return (0, 11 + n, d) : Except Halt (Nat × Nat × Dec))
        if acc.length + n > total then .error (.fault Code.CODEC_REPEAT_OVERRUN at0)
        else readLens t total upto f (List.replicate n v ++ acc) d

/-- The tables of a dynamic block whose header begins at `start` (R93). The literal/length table is checked as soon as its lengths are
known, before the distance lengths are read (R92). -/
def readDynamic (start : Nat) (d : Dec) : Except Halt (Codes × Codes × Dec) := do
  let (hlit, d) ← d.take 6
  let (hdist, d) ← d.take 6
  if hdist + 1 > 48 then throw (.fault Code.CODEC_TABLE_COUNT start)
  let (hclen, d) ← d.take 4
  let (cls, d) ← readCl (4 + hclen) d
  let sent := clOrder.zip cls
  let cl := Codes.of ((List.range 19).map (fun s => ((sent.find? (·.1 = s)).map (·.2)).getD 0))
  cl.check false start
  let total := 257 + hlit + (1 + hdist)
  let (first, d) ← readLens cl total (257 + hlit) total [] d
  let lit ← checkLit (first.reverse.take (257 + hlit)) start
  let (lens, d) ← readLens cl total total total first d
  let dist := Codes.of (lens.reverse.drop (257 + hlit))
  dist.check true start
  return (lit, dist, d)

/-- One output byte. -/
def Dec.put (l : DecLim) (d : Dec) (b : Byte) (len dist : Nat) : Except Halt Dec :=
  if d.n ≥ l.ulen then .error (.fault Code.CODEC_OVERRUN d.sym)
  else if d.n ≥ l.space then .error (.full d len dist)
  else .ok { d with out := b :: d.out, n := d.n + 1 }

/-- A match copied one byte at a time (R90). -/
def Dec.copy (l : DecLim) (dist : Nat) : Nat → Dec → Except Halt Dec
  | 0, d => .ok d
  | n + 1, d => do
    let d ← d.put l (d.out.getD (dist - 1) 0) (n + 1) dist
    Dec.copy l dist n d

/-- The length of a length symbol, with its extra bits (R88). -/
def readLength (s : Nat) (d : Dec) : Except Halt (Nat × Dec) := do
  if s ≤ 312 then
    let g := (s - 257) / 8
    let (x, d) ← d.take g
    return (4 + 8 * (2 ^ g - 1) + (s - 257) % 8 * 2 ^ g + x, d)
  else
    let (x, d) ← d.take 3
    return (1020 + x, d)

/-- The distance of a distance symbol, with its extra bits (R89). -/
def readDistance (c : Nat) (d : Dec) : Except Halt (Nat × Dec) := do
  if c ≤ 7 then return (1 + c, d)
  else if c ≤ 27 then
    let g := (c - 8) / 4 + 1
    let (x, d) ← d.take g
    return (2 ^ (g + 2) + 1 + (c - 8) % 4 * 2 ^ g + x, d)
  else
    let k := (c - 28) / 2 + 8
    let (x, d) ← d.take (k - 1)
    return (2 ^ k + 1 + (c - 28) % 2 * 2 ^ (k - 1) + x, d)

/-- The symbols of a coded block up to symbol 256; fuel bounds them by the bits left. -/
def Dec.symbols (l : DecLim) (lit dist : Codes) : Nat → Dec → Except Halt Dec
  | 0, d => .error (.short d)
  | f + 1, d => do
    let (s, d) ← lit.read d
    if s = 256 then return d
    else if s < 256 then
      let d ← d.put l (BitVec.ofNat 8 s) 0 0
      Dec.symbols l lit dist f d
    else
      let at0 := d.sym
      if dist.present = 0 then throw (.fault Code.CODEC_DIST_ABSENT at0)
      let (len, d) ← readLength s d
      let (c, d) ← dist.read d
      let (dd, d) ← readDistance c d
      if dd > l.window ∨ dd > d.n then throw (.fault Code.CODEC_DIST_FAR d.sym)
      let d ← Dec.copy l dd len { d with sym := at0 }
      Dec.symbols l lit dist f d

/-- The bit of the first 1 among the next bits, if any. -/
def firstOne (pos : Nat) (bs : List Bool) : Option Nat := (bs.zipIdx.find? (·.1)).map (fun x => pos + x.2)

/-- The padding to the byte boundary must be 0 (R96, R98). -/
def Dec.align (d : Dec) : Except Halt Dec :=
  let n := (8 - d.pos % 8) % 8
  if d.bits.length < n then .error (.short d)
  else match firstOne d.pos (d.bits.take n) with
    | some p => .error (.fault Code.CODEC_PAD_BITS p)
    | none => .ok { d with bits := d.bits.drop n, pos := d.pos + n }

/-- The data of a stored block (R96). -/
def Dec.stored (l : DecLim) : Nat → Dec → Except Halt Dec
  | 0, d => .ok { d with left := 0 }
  | n + 1, d => do
    let d := { d with left := n + 1 }
    let (b, d') ← d.take 8
    if d.n ≥ l.ulen then throw (.fault Code.CODEC_OVERRUN d.sym)
    if d.n ≥ l.space then throw (.full d 0 0)
    Dec.stored l n { d' with out := BitVec.ofNat 8 b :: d'.out, n := d'.n + 1 }

/-- A stored block after its 3 header bits (R96). -/
def Dec.storedBlock (l : DecLim) (d : Dec) : Except Halt Dec := do
  let d ← d.align
  let d := { d with sym := d.pos }
  let (len, d) ← d.take 16
  let (nlen, d) ← d.take 16
  if len + nlen ≠ 65535 then throw (.fault Code.CODEC_STORED_LEN d.sym)
  Dec.stored l len d

/-- The blocks of a unit up to the one with LAST (R86). -/
def Dec.blocks (l : DecLim) : Nat → Dec → Except Halt Dec
  | 0, d => .error (.short d)
  | f + 1, d => do
    let start := d.pos
    let (last, d) ← d.bit
    let (typ, d) ← d.take 2
    let d ← (match typ with
      | 0 => d.storedBlock l
      | 1 => do
        let (t, d) ← d.take 2
        d.symbols l (Codes.of (staticLit t)) (Codes.of (staticDist t)) (d.bits.length + 1)
      | 2 => do
        let (lit, dist, d) ← readDynamic start d
        d.symbols l lit dist (d.bits.length + 1)
      | _ => .error (.fault Code.CODEC_BLOCK_TYPE start) : Except Halt Dec)
    if last then return d else Dec.blocks l f d

/-- How a decode stands: ended well, ended with a code at an input byte offset, or suspended on input or output in
a state of the decoder with the match left (R104). -/
inductive DecRes
  | done (out : List Byte)
  | err (code offset : Nat)
  | needInput (d : Dec)
  | needSpace (d : Dec) (len dist : Nat)
  deriving DecidableEq, Repr

/-- The end conditions of R98 once the block with LAST has ended. -/
def decEnd (inLen ulen ucrc : Nat) (d : Dec) : DecRes :=
  match d.align with
  | .error (.fault c p) => .err c (p / 8)
  | .error _ => .err Code.CODEC_TRUNCATED inLen
  | .ok d =>
    if d.bits ≠ [] then .err Code.CODEC_TRAILING (d.pos / 8)
    else if d.n ≠ ulen then .err Code.CODEC_LENGTH inLen
    else if crcC d.out.reverse ≠ ucrc then .err Code.CODEC_CRC inLen
    else .done d.out.reverse

/-- A unit header's fault (R98). -/
def headerFault (bs : List Byte) : Option (Nat × Nat) :=
  let w := leAt bs 4 4
  if leAt bs 0 4 ≠ 0x315A4443 then some (Code.CODEC_HDR_MAGIC, 0)
  else if fieldOf w 15 0 ≠ 1 ∨ fieldOf w 31 24 ≠ 0 ∨ fieldOf w 23 16 < 10 ∨ fieldOf w 23 16 > 18
    then some (Code.CODEC_HDR_VERSION, 4)
  else none

/-- Decoding of the input `bs`, which is the whole unit when `whole`, into `space` bytes of output. -/
def decodeUnit (bs : List Byte) (whole : Bool) (space : Nat) : DecRes :=
  if bs.length < 16 then if whole then .err Code.CODEC_TRUNCATED bs.length else .needInput ⟨[], 8 * bs.length, [], 0, 0, 0⟩
  else match headerFault bs with
    | some (c, o) => .err c o
    | none =>
      let l : DecLim := ⟨leAt bs 8 4, 2 ^ fieldOf (leAt bs 4 4) 23 16, space⟩
      let bits := (bs.drop 16).flatMap bitsLsb
      match Dec.blocks l (bits.length + 1) ⟨bits, 128, [], 0, 128, 0⟩ with
      | .error (.fault c p) => .err c (p / 8)
      | .error (.short d) => if whole then .err Code.CODEC_TRUNCATED bs.length else .needInput d
      | .error (.full d len dist) => .needSpace d len dist
      | .ok d => if whole then decEnd bs.length l.ulen (leAt bs 12 4) d else .needInput d

/-- The decoded bytes of a unit's blocks so far, its header not yet written, or none where one of them does not decode (R100). -/
def unitSoFar (ulen window : Nat) (bs : List Byte) : Option (List Byte) :=
  let bits := (bs.drop 16).flatMap bitsLsb
  match Dec.blocks ⟨ulen, window, 2 ^ 32⟩ (bits.length + 1) ⟨bits, 128, [], 0, 128, 0⟩ with
  | .error (.short d) => some d.out.reverse
  | .ok d => some d.out.reverse
  | .error _ => none

/-- Every block of a unit is stored (R101); fuel bounds the blocks. -/
def storedBlocks : Nat → Dec → Bool
  | 0, _ => false
  | f + 1, d =>
    match (do let (last, d) ← d.bit; let (t, d) ← d.take 2; return (last, t, d) : Except Halt (Bool × Nat × Dec)) with
    | .error _ => false
    | .ok (last, t, d) =>
      if t ≠ 0 then false
      else match d.storedBlock ⟨2 ^ 32, 2 ^ 18, 2 ^ 32⟩ with
        | .error _ => false
        | .ok d => last || storedBlocks f d

/-- A unit in stored blocks only (R101). -/
def storedOnly (bs : List Byte) : Bool :=
  let bits := (bs.drop 16).flatMap bitsLsb
  storedBlocks (bits.length + 1) ⟨bits, 128, [], 0, 128, 0⟩

/-- The growth bound of R97: what a unit of n input bytes with some flushes may take. -/
def unitBound (n flushes : Nat) : Nat := 16 + n + 12 * max 1 (ceilDiv n 65536) + 7 * flushes

/-- A whole unit with no limit of space: its bytes, or the code and input offset at which it fails. -/
def inflate (bs : List Byte) : Except (Nat × Nat) (List Byte) :=
  match decodeUnit bs true (2 ^ 32) with
  | .done out => .ok out
  | .err c o => .error (c, o)
  | _ => .error (Code.CODEC_TRUNCATED, bs.length)

end Sys2Proof.Machine
end

