-- ==== Sys2Proof/Machine/Geometry.lean ====
section
/-! DEFINITION. A stripe's cached blocks read as geometry (R44, R75), the pixel doses they give (R155, R197), and the
two maps of a stripe (R142 to R149). -/

namespace Sys2Proof.Machine

/-- The block set of a stripe that holds its resources, closed when it was validated (R83); none while it is open. -/
def State.closedSet (s : State) (slot id : Nat) : Option (List Nat) :=
  (s.stripes.find? (fun t => t.slot = slot ∧ t.id = id ∧ t.pass = 0)).map (·.blocks)

/-- The cached blocks of a stripe, by block number. -/
def State.blocksOf (s : State) (slot id : Nat) : List Frame :=
  let set := s.closedSet slot id
  sortBy (·.block) ((s.frames.map (·.2)).filter (fun f => f.slot = slot && f.stripe = id && f.block ≠ 0 &&
    (match set with | none => true | some l => l.contains f.block)))

/-- What the checks of a stripe need of its job (R56, R118). -/
def Job.cfg (j : Job) (id : Nat) : StripeCfg :=
  match j.hdr with
  | none => ⟨id, 0, 8192, 0, j.flatTol⟩
  | some h => ⟨id, h.stripeCount, if h.stagger = 1 then 4096 else 8192, h.classUsed, j.flatTol⟩

/-- The records of a cached block, with the length check of R78. -/
def Frame.open (f : Frame) : Except (Nat × Nat) (List Byte) :=
  match inflate f.unit with
  | .error e => .error e
  | .ok bs => if bs.length ≠ f.dlen then .error (Code.PSIPO_ENV_LENGTH, 0) else .ok bs

/-- The walk over a stripe's blocks: the first fault is a code, a byte offset and a block (R75). -/
def walkBlocks (c : StripeCfg) : List Frame → Walk → Except (Nat × Nat × Nat) Walk
  | [], w => .ok w
  | f :: fs, w =>
    match f.open with
    | .error e => .error (e.1, e.2, f.block)
    | .ok bs => match w.block c f.firstBand f.block bs with
      | .error e => .error (e.1, e.2, f.block)
      | .ok w => walkBlocks c fs w

/-- The walk over a stripe's cached blocks, as far as they go. -/
def State.walkOpen (s : State) (slot id : Nat) : Except (Nat × Nat × Nat) Walk := walkBlocks ((s.job slot).cfg id) (s.blocksOf slot id) {}

/-- A stripe validated (R75): a STRIPE_END that its last block lacks is missing at the end of that block's data (R63; log entry 148). -/
def State.walk (s : State) (slot id : Nat) : Except (Nat × Nat × Nat) Walk :=
  match s.walkOpen slot id with
  | .error e => .error e
  | .ok w => if w.ended then .ok w
    else
      let last := (s.blocksOf slot id).getLast?
      .error (Code.PSIPO_STRIPE_COUNT, (last.map (·.dlen)).getD 0, (last.map (·.block)).getD 0)

/-- The shapes of a tile of a stripe; a tile the stream omits has none (R65, R120). -/
def State.tileShapes (s : State) (slot id band col : Nat) : List Listed :=
  match s.walk slot id with
  | .error _ => []
  | .ok w => ((w.tiles.find? (fun t => t.band = band ∧ t.col = col)).map (·.shapes)).getD []

/-- The tile of a stripe at a band and column, where the stream lists it. -/
def State.tileRec? (s : State) (slot id band col : Nat) : Option TileRec :=
  match s.walk slot id with
  | .error _ => none
  | .ok w => w.tiles.find? (fun t => t.band = band ∧ t.col = col)

/-- A block may be read: its last read did not fail and its last decode has ended without error (R55, R99). -/
def Frame.readable (f : Frame) : Bool := f.failed = 0 && f.opened

/-- A block's first record that is no PAD. -/
def Frame.firstRec (f : Frame) : Except (Nat × Nat) (Option Rec) :=
  match f.open with
  | .error e => .error e
  | .ok bs => let ws := wordsOf bs; .ok (firstRecord (ws.length + 1) ws)

/-- The STRIPE record that a block begins with, where it keeps the rules of R62. -/
def Frame.stripeRec (c : StripeCfg) (f : Frame) : Option StripeRec :=
  match f.firstRec with
  | .ok (some (.stripe r)) => if stripeForm c { blocks := 1 } r then some r else none
  | _ => none

/-- The first block of a stripe stands in the cache and gives its STRIPE record (R62, R158). -/
def State.firstRec (s : State) (slot id : Nat) : Option StripeRec :=
  (s.blocksOf slot id).head?.bind (Frame.stripeRec ((s.job slot).cfg id))

/-- A stripe's STRIPE record: the one kept, or the one its cached blocks hold (R62, R340). -/
def State.recOf (s : State) (slot id : Nat) : Option StripeRec :=
  match (s.job slot).recs.find? (·.id = id) with
  | some r => some r
  | none => s.firstRec slot id

/-! ### Doses -/

/-- A Penumbra table of a job slot. -/
def Job.tab (j : Job) (id : Nat) : List Byte := kget (fun _ => []) j.tabs id

/-- The columns of a stripe's map (R142). -/
def mapCols (w : Nat) : Nat := w / 16 + 190

/-- The unclipped x of a pixel in a tile of given slots (R155). -/
def Job.pixelX (j : Job) (sr : StripeRec) (w : Nat) (factor : KMap Nat) (slots : List (Nat × List (List Pt))) (c r : Nat) : Nat :=
  let qs := slots.map (fun t => (t.1, coverage t.2 c r))
  if qs.all (fun q => q.2 = 0) then 0
  else
    let F := fun (i k : Int) => mapAt (mapCols w) (sr.rows / 16) 16384 (fun _ => 16384) factor (i + 95) k
    doseX (j.tab 0x0A04) qs (factorPixel sr.rows F c r) (fogPixel (Params.of (j.tab 0x0A00)) (j.tab 0x0A07) sr c r)
      (blendWeight (j.tab 0x0A06) sr w c)

/-- The dose a patch list gives a pixel (R197). -/
def patchDose (l : List DefEntry) (c r : Nat) : Nat := ((l.find? (fun e => e.row = r ∧ e.col = c)).map (·.target)).getD 0

/-- The unclipped x of every pixel of a tile, in the order of R124, with its column and row; for a patch pass the
listed target (R197). -/
def State.tileXs (s : State) (x : Stripe) (band col : Nat) : List (Nat × Nat × Nat) :=
  let shapes := if x.pass = 0 then s.tileShapes x.slot x.id band col else []
  let slots := slotsOf x.srec (s.job x.slot).flatTol shapes
  let f := kget (fun _ => []) s.factor (x.mapSet.getD 2)
  (List.range 64).flatMap (fun dr => (List.range 64).map (fun dc =>
    let c := 64 * col + dc
    let r := 64 * band + dr
    (c, r, if x.pass = 0 then (s.job x.slot).pixelX x.srec s.width f slots c r else patchDose x.patch c r)))

/-- The target dose that an x gives in a stripe or pass. -/
def State.doseIn (s : State) (x : Stripe) (v : Nat) : Nat := if x.pass = 0 then doseOf ((s.job x.slot).tab 0x0A05) v else v % 1024

/-- The target dose of one pixel, formed again (R193, R197). -/
def State.targetAt (s : State) (x : Stripe) (c r : Nat) : Nat :=
  if x.pass ≠ 0 then patchDose x.patch c r
  else
    let slots := slotsOf x.srec (s.job x.slot).flatTol (s.tileShapes x.slot x.id (r / 64) (c / 64))
    s.doseIn x ((s.job x.slot).pixelX x.srec s.width (kget (fun _ => []) s.factor (x.mapSet.getD 2)) slots c r)

/-! ### The maps -/

/-- The densities before saturation of a tile's 16 cells that are not 0, by cell column and cell row of its stripe (R127, R143). -/
def Job.tileCells (j : Job) (sr : StripeRec) (t : TileRec) : List (Nat × Nat × Nat) :=
  let slots := slotsOf sr j.flatTol t.shapes
  if t.shapes = [] then []
  else (List.range 4).flatMap (fun y => (List.range 4).filterMap (fun x =>
    let cc := 4 * t.col + x
    let cr := 4 * t.band + y
    let d := densityRaw (j.tab 0x0A04) (slots.map (fun k => (k.1, cellSum k.2 cc cr)))
    if d = 0 then none else some (cc, cr, d)))

/-- A neighbour's cell column and row counted in the stripe's own cells, by absolute position (R144). -/
def cellFrom (sr nr : StripeRec) (cc cr : Nat) : Int × Int :=
  let yl : Int := if nr.dir = 0 then nr.y0 + 640 * cr else (nr.y0 : Int) - 640 * (cr + 1)
  ((cc : Int) + ((nr.x0 : Int) - sr.x0).fdiv 640,
   if sr.dir = 0 then (yl - sr.y0).fdiv 640 else ((sr.y0 : Int) - yl).fdiv 640 - 1)

/-- The neighbour covers the stripe's cell. -/
def covers (sr nr : StripeRec) (w : Nat) (m y : Int) : Bool :=
  let c := m - ((nr.x0 : Int) - sr.x0).fdiv 640
  let top := (cellFrom sr nr 0 0).2
  let r := if sr.dir = nr.dir then y - top else top - y
  decide (0 ≤ c ∧ c < w / 16 ∧ 0 ≤ r ∧ r < nr.rows / 16)

/-- The density map of a stripe before saturation, listed by row times columns plus map column (R142 to R144). -/
def State.densityMap (s : State) (slot : Nat) (sr : StripeRec) : KMap Nat :=
  let w := s.width
  let j := s.job slot
  let tiles := fun id => match s.walk slot id with | .ok v => v.tiles | .error _ => []
  let cols := mapCols w
  let own := (tiles sr.id).flatMap (fun t => (j.tileCells sr t).map (fun c => (c.2.1 * cols + c.1 + 95, c.2.2)))
  let side := fun (id : Nat) (first : Option StripeRec) => match s.recOf slot id with
    | none => []
    | some nr => (tiles id).flatMap (fun t => (j.tileCells nr t).filterMap (fun c =>
        let p := cellFrom sr nr c.1 c.2.1
        let inMap := decide (-95 ≤ p.1 ∧ p.1 < w / 16 + 95 ∧ 0 ≤ p.2 ∧ p.2 < sr.rows / 16)
        let margin := decide (p.1 < 0 ∨ p.1 ≥ w / 16)
        let taken := match first with | some fr => covers sr fr w p.1 p.2 | none => false
        if inMap && margin && !taken then some (p.2.toNat * cols + (p.1 + 95).toNat, c.2.2) else none))
  let low := if sr.id = 0 then none else s.recOf slot (sr.id - 1)
  let lows := if sr.id = 0 then [] else side (sr.id - 1) none
  (own ++ lows ++ side (sr.id + 1) low).foldl (fun m p => kput m p.1 p.2) []

/-- The kernel terms in use (R146, R163). -/
def Job.terms (j : Job) : List (Nat × List Byte) :=
  let p := Params.of (j.tab 0x0A00)
  (List.range p.nterms).map (fun k => (p.radii.getD k 0, j.tab (0x0A01 + k)))

/-- The factor map of a stripe (R147, R148). -/
def State.factorOf (s : State) (slot : Nat) (sr : StripeRec) (rho : KMap Nat) : KMap Nat :=
  let p := Params.of ((s.job slot).tab 0x0A00)
  let cols := mapCols s.width
  (factorMap p.eta (s.job slot).terms cols (sr.rows / 16) rho p.iter).filter
    (fun k => decide (94 ≤ k.1 % cols ∧ k.1 % cols ≤ 95 + s.width / 16))

end Sys2Proof.Machine
end

