-- ==== Sys2Proof/Machine/Lantern.lean ====
section
/-! DEFINITION. Lantern and Penumbra: waking, tiles, re-rasterization, the density pre-pass (R121 to R139, R156 to
R169), and the checks of Penumbra's tables (R161 to R163). -/

namespace Sys2Proof.Machine

/-- STATUS of a page. -/
def statusOf (p : Nat) : RegAddr := p * 0x1000 + 8

/-- The block's fast clock requested, and running (R506, R507). -/
def State.clkOn (s : State) (p : Nat) : State :=
  s.traced p (((s.setFld R.CLK_REQ p p 1).setFld R.CLK_ON p p 1).setFld (statusOf p) 3 3 1)

/-- The block's clock request dropped (R506). -/
def State.clkOff (s : State) (p : Nat) : State :=
  s.traced p (((s.setFld R.CLK_REQ p p 0).setFld R.CLK_ON p p 0).setFld (statusOf p) 3 3 0)

/-- The next row of a stripe to enter the Tally. -/
def Stripe.nextEnter (x : Stripe) : Nat := max x.firstRow (min x.nextCycle x.endRow)

/-- The bands of a stripe, complete before, of which a tile has failed and waits for its re-rasterization (R27, R132). -/
def Stripe.openBands (x : Stripe) : List Nat :=
  ((x.requests ++ x.lostTiles).map (·.1)).eraseDups.filter (fun b => decide (x.nextEnter / 64 ≤ b ∧ b < x.bandsDone))

/-- The field lead of a stripe in rows: 64 for each complete band at or beyond the next row to enter, the band that holds that row
among them (R22, R125; DEDUCED, log entry 24); a band with a tile that failed is not complete (R27). -/
def Stripe.lead (x : Stripe) : Nat := 64 * (x.bandsDone - x.nextEnter / 64 - x.openBands.length)

/-- The stripe whose field is being written: the writing one, else the next armed or waiting (R129). FIELD_LEAD, STRIPE and BAND show
this stripe, and 0 where there is none (DESIGN CHOICE, log entry 152). -/
def State.fieldStripe (s : State) : Option Stripe :=
  (s.stripes.find? (fun t => t.st = .writing ∨ t.st = .contained)).or (s.stripes.find? (fun t => t.st = .armed ∨ t.st = .waiting))

/-- LANTERN.FIELD_LEAD (R125). -/
def State.fieldLead (s : State) : Nat := (s.fieldStripe.map Stripe.lead).getD 0

/-- Bands of a stripe's field are still to be written. -/
def Stripe.unfilled (x : Stripe) : Bool := x.ring.isSome && decide (64 * x.bandsDone < x.endRow) && !x.aborting

/-- A re-rasterization that is served: not one of a stripe that is ending (R137). -/
def Stripe.wanted (x : Stripe) : Bool := x.requests ≠ [] && !x.aborting

/-- The pre-pass asks for density-mode tiles (R127, R158). -/
def State.densityWork (s : State) : Bool := s.stripes.any (fun t => t.prepass = 2)

/-- Item 2 of R129: field tiles of the writing stripe below 2,048 rows of lead. -/
def State.urgentWork (s : State) : Bool :=
  match s.active with | some x => x.unfilled && decide (x.lead < 2048) | none => false

/-- Work of the field up to LEAD_FULL: the writing stripe's, then the next armed one's (R129 item 4, R130). -/
def State.fillWork (s : State) (x : Stripe) : Bool :=
  x.unfilled && decide (x.lead < s.inForce R.LANTERN_LEAD_FULL) && (x.pass ≠ 0 || x.prepass = 4)

/-- A stripe's field tiles are what Lantern serves now (R129; log entry 158): no request waits; below 2,048 rows the writing stripe comes
before the density tiles, above them after; an armed stripe comes once the writing one has nothing to be written. -/
def State.fieldTurn (s : State) (x : Stripe) : Bool :=
  !s.stripes.any Stripe.wanted &&
  (match s.active with
    | some w => if w.ord = x.ord then (decide (x.lead < 2048) || (s.fillWork x && !s.densityWork)) else !s.fillWork w && s.fillWork x && !s.densityWork
    | none => decide (s.fieldStripe.map (·.ord) = some x.ord) && s.fillWork x && !s.densityWork)

/-- Lantern has work (R129, R130). -/
def State.lanternWork (s : State) : Bool :=
  s.stripes.any (fun t => t.wanted || t.prepass = 1 || t.prepass = 2) || s.urgentWork || s.stripes.any s.fillWork

/-- The lanes are awake (STATUS [16]), or FORCE_AWAKE keeps them so (R130). -/
def State.lanesAwake (s : State) : Bool := s.fld (statusOf 9) 16 16 = 1 || s.fld 0x9004 8 8 = 1

/-- LANTERN_WAKE (R129, R130): the lanes wake where work is left and the lead has fallen to LEAD_WAKE, or a request of item 1 or 3 is
pending. -/
def State.lanternWake (s : State) : State :=
  let asked := s.stripes.any (fun t => t.wanted || t.prepass = 1 || t.prepass = 2)
  let low := (s.fieldStripe.map (fun x => x.unfilled && decide (x.lead ≤ s.inForce R.LANTERN_LEAD_WAKE))).getD false
  if s.enabled 9 ∧ (asked ∨ low) ∧ ¬ s.anyShutdown then ((s.clkOn 9).setFld (statusOf 9) 16 16 1) else s

/-- With no work left the lanes go to rest: LEAD_FULL is reached or the last band complete, and no request is pending (R130). Its clock
request goes with IDLE_DELAY (R506). -/
def State.lanternRest (s : State) : State := if s.lanternWork then s else s.setFld (statusOf 9) 16 16 0

/-! ### Units with residue faults -/

/-- A raster lane is in service. -/
def State.laneIn (s : State) (l : Nat) : Bool := (s.rd64 R.LANTERN_LANE_MASK_L).testBit l

/-- A raster lane retired (R135). -/
def State.retireRaster (s : State) (l : Nat) : State :=
  let s1 := s.wr64 R.LANTERN_LANE_MASK_L (s.rd64 R.LANTERN_LANE_MASK_L - 2 ^ l)
  let s2 := { s1 with age := { s1.age with lanesOut := l :: s1.age.lanesOut } }
  s2.saveAgeing.record { code := Code.LANTERN_LANE_RETIRED, cls := 1, lk := 8, l0 := l }

/-- A residue mismatch of a raster lane (R134, R135). -/
def State.rasterResidue (s : State) (l : Nat) : State :=
  let again := s.age.laneMarks.any (fun m => m.1 = l ∧ s.clock.sec ≤ m.2 + 3600)
  let s1 := (s.inc R.LANTERN_RESIDUE_ERRORS).record { code := Code.LANTERN_RESIDUE, cls := 1, lk := 8, l0 := l }
  let s2 := { s1 with age := { s1.age with laneMarks := (l, s.clock.sec) :: s1.age.laneMarks.filter (fun m => m.1 ≠ l) } }
  if again ∧ s2.laneIn l then s2.retireRaster l else s2

/-- A convolution unit retired (R168). -/
def State.retireUnit (s : State) (u : Nat) : State :=
  if s.age.unitsOut.contains u then s
  else
    let g := u / 32
    let m := s.rd64 R.PENUMBRA_UNIT_MASK_L
    let s1 := s.wr64 R.PENUMBRA_UNIT_MASK_L (if m.testBit g then m - 2 ^ g else m)
    let s2 := s1.setFld R.PENUMBRA_UNITS_IN 11 0 (s1.fld R.PENUMBRA_UNITS_IN 11 0 - 1)
    let s3 := { s2 with age := { s2.age with unitsOut := u :: s2.age.unitsOut } }
    s3.saveAgeing.record { code := Code.PENUMBRA_UNIT_RETIRED, cls := 1, lk := 8, l0 := u }

/-- A residue mismatch of a convolution unit (R168). -/
def State.unitResidue (s : State) (u : Nat) : State :=
  let again := s.age.unitMarks.any (fun m => m.1 = u ∧ s.clock.sec ≤ m.2 + 3600)
  let s1 := (s.inc R.PENUMBRA_RESIDUE_ERRORS).record { code := Code.PENUMBRA_RESIDUE, cls := 1, lk := 8, l0 := u }
  let s2 := { s1 with age := { s1.age with unitMarks := (u, s.clock.sec) :: s1.age.unitMarks.filter (fun m => m.1 ≠ u) } }
  if again then s2.retireUnit u else s2

/-! ### Tiles -/

/-- The key of a field tile: ring, band, column. -/
def fieldKey (ring band col : Nat) : Nat := (ring * 2 ^ 24 + band) * 128 + col

/-- The stripe or pass that a tile command names, while it holds a ring. -/
def State.tileStripe (s : State) (pass id : Nat) : Option Stripe :=
  s.stripes.find? (fun t => t.id = id ∧ t.pass = pass ∧ t.ring.isSome)

/-- The 4,096 pixel words of a tile by index in the order of R124, those of dose 0 left out. -/
def State.tileWords (s : State) (x : Stripe) (xs : List (Nat × Nat × Nat)) : KMap (BitVec 16) :=
  (xs.zipIdx.filterMap (fun p =>
    let d := s.doseIn x p.1.2.2
    if d = 0 then none else some (p.2, pixelWord x.id p.1.1 p.1.2.1 d)))

/-- Word i of a stored tile (R122); an unlisted one has dose 0. -/
def tileWordAt (id band col : Nat) (t : KMap (BitVec 16)) (i : Nat) : BitVec 16 :=
  kget (fun i => pixelWord id (64 * col + i % 64) (64 * band + i / 64) 0) t i

/-- The tile CRC over the 8,192 bytes of a tile's words (R124). -/
def tileCrc (id band col : Nat) (t : KMap (BitVec 16)) : Nat :=
  crcC ((List.range 4096).flatMap (fun i => leBytes 2 (tileWordAt id band col t i).toNat))

/-- A tile and its CRC written to the field ring (R124, R342). -/
def State.putTile (s : State) (x : Stripe) (band col : Nat) (t : KMap (BitVec 16)) : State :=
  let k := fieldKey (x.ring.getD 0) band col
  { s with field := kput s.field k t, tileCrcs := kput s.tileCrcs k (tileCrc x.id band col t) }

/-- Pixels clipped at 1,023 in a tile, each counted once per stripe, with the stripe's one record (R156). -/
def State.countClips (s : State) (x : Stripe) (xs : List (Nat × Nat × Nat)) : State :=
  match xs.filter (fun p => p.2.2 > 1023) with
  | [] => s
  | p :: ps =>
    let n := ps.length + 1
    let s1 := (s.bump R.PENUMBRA_DOSE_CLIPS 31 0 n).modStripe x (fun t => { t with clips := satAdd (2 ^ 32 - 1) t.clips n })
    if x.clips = 0 then s1.record { code := Code.PENUMBRA_DOSE_CLIPPED, cls := 0, lk := 9, l0 := p.2.1, l1 := p.1,
                                    l2 := min p.2.2 (2 ^ 32 - 1), stripe := x.who }
    else s1

/-- A band is complete once all its tiles are acknowledged (R125). -/
def State.bandDone (s : State) (x : Stripe) : State :=
  s.modStripe x (fun t => if t.tiles.length ≥ s.width / 64 then { t with bandsDone := t.bandsDone + 1, tiles := [] } else t)

/-! ### The maps of a stripe -/

/-- The neighbours of a stripe that its job has (R144). -/
def Job.neighbours (j : Job) (id : Nat) : List Nat :=
  let n := (j.hdr.map (·.stripeCount)).getD 0
  (if id = 0 then [] else [id - 1]) ++ (if id + 1 < n then [id + 1] else [])

/-- Every block of the stripe and of its neighbours may be read (R55, R166). -/
def State.mapReadable (s : State) (x : Stripe) : Bool :=
  (x.id :: (s.job x.slot).neighbours x.id).all (fun n => (s.blocksOf x.slot n).all Frame.readable)

/-- The bytes of a factor band: 64 cell rows of W/16 + 2 words (R148, R333). -/
def State.factorBytes (s : State) (set band rows : Nat) : List Byte :=
  let f := kget (fun _ => []) s.factor set
  let cols := mapCols s.width
  (List.range (min (64 * band + 64) rows - 64 * band)).flatMap (fun j => (List.range (s.width / 16 + 2)).flatMap (fun i =>
    leBytes 2 (kget (fun _ => 16384) f ((64 * band + j) * cols + i + 94))))

/-- The CRC of a factor band written beside it (R148, R333). -/
def State.putFactorCrc (s : State) (x : Stripe) (band : Nat) : State :=
  let set := x.mapSet.getD 0
  { s with factorCrcs := kput s.factorCrcs (bandKey set band) (crcC (s.factorBytes set band (x.srec.rows / 16))) }

/-- The rows of one band of a map replaced. -/
def replaceBand (cols band : Nat) (old new : KMap Nat) : KMap Nat :=
  (new.filter (fun e => e.1 / cols / 64 = band)).foldl (fun m e => kput m e.1 e.2) (old.filter (fun e => e.1 / cols / 64 ≠ band))

/-- A map band rebuilt from geometry in density mode (R165). -/
def State.rebuildBand (s : State) (x : Stripe) (band : Nat) : State :=
  let set := x.mapSet.getD 0
  let rho := (s.densityMap x.slot x.srec).map (fun k => (k.1, min 65535 k.2))
  { s with density := kput s.density set (replaceBand (mapCols s.width) band (kget (fun _ => []) s.density set) rho) }

/-- A factor band computed again from the stored density map, and written with a new CRC (R164). -/
def State.recomputeBand (s : State) (x : Stripe) (band : Nat) : State :=
  let set := x.mapSet.getD 0
  let f := s.factorOf x.slot x.srec (kget (fun _ => []) s.density set)
  ({ s with factor := kput s.factor set (replaceBand (mapCols s.width) band (kget (fun _ => []) s.factor set) f) }).putFactorCrc x band

/-- A factor band that failed its CRC is computed again, from its map bands or, where one of them fails, from geometry (R164, R165). The
band of tiles holds four cell rows of it. -/
def State.remakeFactors (s : State) (x : Stripe) (factorBad mapBad : Bool) (band : Nat) : State :=
  if !factorBad then s
  else
    let s1 := (s.inc R.PENUMBRA_RECOMPUTES).record { code := Code.PENUMBRA_FACTOR_CRC, cls := 1, lk := 8, l0 := band / 16, stripe := x.who }
    let s2 := if mapBad then
        (s1.record { code := Code.PENUMBRA_DENSITY_CRC, cls := 1, lk := 8, l0 := band / 16, stripe := x.who }).rebuildBand x (band / 16) else s1
    s2.recomputeBand x (band / 16)

/-- The two copies of a job's table in DRAM, copy 0 at `da`, of which `bad` fail (R336, R351, R402): copy 1 serves in place of copy 0,
which is written from it; with both lost the job fails. -/
def State.readCopies (s : State) (slot da gap bad : Nat) (met : Nat := 0) : State :=
  if bad = 0 then s
  else if bad = 1 then s.hbmUe da none 0
  else ((s.hbmUe da).hbmUe (da + gap)).jobFatalRec slot { code := Code.HBM_COPIES_LOST, cls := 3 } met

/-- A job's fog table is read for a tile that is formed from geometry (R151). -/
def State.fogRead (s : State) (x : Stripe) : Bool := x.pass = 0 && (Params.of ((s.job x.slot).tab 0x0A00)).fogEn

/-- The fog table as it is read, `bad` of its copies failing (R332, R402). -/
def State.readFog (s : State) (x : Stripe) (bad : Nat) : State :=
  if s.fogRead x then s.readCopies x.slot (0x80000000 + x.slot * 0x40000000) 0x20000000 bad else s

/-! ### Field tiles -/

/-- The blocks from which a tile is read: from the band's first TILE record to the last block its list goes on into (R46, R131). -/
def State.tileBlocks (s : State) (x : Stripe) (band col : Nat) : List Nat :=
  match s.tileRec? x.slot x.id band col with
  | none => []
  | some t =>
    let first := ((kget? x.bandIndex band).map (·.1)).getD t.block
    (List.range (t.lastBlock + 1 - first)).map (· + first)

/-- A tile can be formed again (R193): its stripe's cached blocks keep their rules, and none that it is read from has failed for good; a
patch pass needs none. -/
def State.tileFormable (s : State) (x : Stripe) (band col : Nat) : Bool :=
  x.pass ≠ 0 || (match s.walk x.slot x.id with
    | .error _ => false
    | .ok _ => (s.tileBlocks x band col).all (fun b => match s.frameOf x.slot b with | some f => decide (f.2.failed < 2) | none => false))

/-- Those blocks may be read (R55, R99); a patch pass reads none (R197). -/
def State.tileReadable (s : State) (x : Stripe) (band col : Nat) : Bool :=
  x.pass ≠ 0 || (s.tileBlocks x band col).all (fun b => match s.frameOf x.slot b with | some f => f.2.readable | none => false)

/-- What Lantern needs to form a stripe's tile: its page, the lane, awake and in service, this stripe's turn, complete maps, the blocks,
and no earlier residue mismatch of the lane on this tile (R129, R130, R134). A patch pass forms its field without Lantern (R197). -/
def State.lanternReady (s : State) (x : Stripe) (band col lane : Nat) (factorBad mapBad : Bool) : Bool :=
  x.pass ≠ 0 ||
  (s.enabled 9 && s.laneIn lane && s.lanesAwake && s.fieldTurn x && x.prepass = 4 && !x.rasterBad.contains (band, col, lane) &&
   s.tileReadable x band col && (!(factorBad && mapBad) || s.mapReadable x))

/-- The conditions for a field tile: its band is the next to complete, it is not yet written, the ring has room. -/
def State.tileReady (s : State) (x : Stripe) (band col : Nat) : Bool :=
  band = x.bandsDone && x.unfilled && decide (col < s.width / 64) && !(x.tiles.contains (band, col)) &&
  decide (64 * band < x.nextEnter + 16384) && !s.anyShutdown

/-- Where a tile column of a band lies in its ring (R332, R342). -/
def tileDa (ring band col : Nat) : Nat := 0x10000000 * (ring + 1) + (band % 256 * 128 + col) * 8192

/-- A recovered record of a tile, with LOC_KIND 10 (R461). -/
def tileRec (code : Nat) (x : Stripe) (band col : Nat) : RecArg :=
  { code, cls := 1, lk := 10, l0 := band, l1 := col, l2 := x.pass, stripe := x.who }

/-- Writes of a tile that fail the write parity: the controller repeats each up to 3 times, then Lantern writes the tile again (R352). -/
def State.tileWrites (s : State) (x : Stripe) (band col fails : Nat) : State :=
  (List.range fails).foldl (fun s i =>
    if i % 4 = 3 then s.record (tileRec Code.LANTERN_TILE_WRITE x band col) else s.repeatWrites (tileDa (x.ring.getD 0) band col) 1) s

/-- A tile of the field done (R121 to R125, R128, R134, R156, R164). A lane with a residue mismatch does not run the tile again. -/
def State.tileDone (s : State) (x : Stripe) (band col lane : Nat) (residue : Bool) (writeFails : Nat)
    (factorBad mapBad : Bool) : State :=
  if x.pass = 0 ∧ residue then (s.rasterResidue lane).modStripe x (fun t => { t with rasterBad := (band, col, lane) :: t.rasterBad })
  else
    let s1 := if x.pass = 0 then s.remakeFactors x factorBad mapBad band else s
    let xs := s1.tileXs x band col
    let s2 := s1.tileWrites x band col (min writeFails 1024)
    let s3 := (s2.putTile x band col (s2.tileWords x xs)).inc R.LANTERN_TILES_DONE
    let s4 := if x.pass = 0 then s3.countClips x xs else s3
    ((s4.modStripe x (fun t => { t with tiles := (band, col) :: t.tiles,
                                        rasterBad := t.rasterBad.filter (fun b => ¬ (b.1 = band ∧ b.2.1 = col)) })).bandDone x).lanternRest

/-- A record error that rasterizing meets in a validated stripe (R77). -/
def State.tileError (s : State) (x : Stripe) : Option (Nat × Nat × Nat) :=
  if x.pass ≠ 0 then none else match s.walk x.slot x.id with | .error e => some e | .ok _ => none

/-- TILE_DONE, with the copies of the fog table that fail and the SRAM errors met on the way; an uncorrectable one in a working space
discards the tile (R371). -/
def execTileDone (pass id band col lane : Nat) (residue : Bool) (writeFails : Nat) (factorBad mapBad : Bool)
    (fogBad : Nat) (sram : List SramErr) (s : State) : Host.Outcome State Fault Refusal :=
  match s.tileStripe pass id with
  | some x =>
    if !s.tileReady x band col ∨ !s.lanternReady x band col lane factorBad mapBad then .next s
    else match s.tileError x with
      | some (code, off, block) => .next (s.blockDamaged x.slot code off block)
      | none =>
        if s.fogRead x ∧ fogBad ≥ 2 then .next (s.readFog x fogBad)
        else if spoils sram 5 7 then .next (s.sramErrs sram)
        else .next (((s.readFog x fogBad).tileDone x band col lane residue writeFails factorBad mapBad).sramErrs sram)
  | none => .next s

/-- LANTERN_WAKE. -/
def execLanternWake (s : State) : Host.Outcome State Fault Refusal := .next s.lanternWake

/-- A re-rasterization that waits for a tile: its band, column and the SEQ of the record that began it. -/
def Stripe.request? (x : Stripe) (band col : Nat) : Option (Nat × Nat × Nat) := x.requests.find? (fun r => r.1 = band ∧ r.2.1 = col)

/-- A tile formed again (R131 to R133, R138, R169, R197): a run with a residue mismatch is repeated on another lane before the comparison;
a failed factor band is made again first; the result that two runs share is written, and where all differ, or the patch list cannot
be read, nothing is. -/
def State.reraster (s : State) (x : Stripe) (r : Nat × Nat × Nat) (runs : Runs) (residue : List Nat) (factorBad mapBad : Bool) : State :=
  let (band, col, cause) := r
  let s0 := if x.pass = 0 then (residue.foldl State.rasterResidue s).remakeFactors x factorBad mapBad band else s
  let s1 := (s0.inc R.LANTERN_RERASTER_REQ).modStripe x (fun t => { t with requests := t.requests.filter (fun q => ¬ (q.1 = band ∧ q.2.1 = col)) })
  let s2 := if runs = Runs.third ∨ runs = Runs.differ then s1.inc R.LANTERN_RERASTER_DISAGREE else s1
  (if runs = Runs.agree ∨ runs = Runs.third then s2.putTile x band col (s2.tileWords x (s2.tileXs x band col))
   else s2.modStripe x (fun t => { t with lostTiles := (band, col, cause) :: t.lostTiles })).lanternRest

/-- What the runs of R132 need of Lantern; a patch pass needs nothing of it (R197). -/
def State.rerasterReady (s : State) (x : Stripe) (band col : Nat) (residue : List Nat) (factorBad mapBad : Bool) : Bool :=
  x.pass ≠ 0 ||
  (s.enabled 9 && s.lanesAwake && s.tileReadable x band col && residue.all s.laneIn && (!(factorBad && mapBad) || s.mapReadable x))

/-- RERASTER_REQUEST: a request that waits is served, until its stripe ends; one that a containment finds is kept (R136, R137).
An uncorrectable error in a working space discards the runs, and the request still waits (R371). -/
def execRerasterRequest (pass id band col : Nat) (runs : Runs) (residue : List Nat) (factorBad mapBad : Bool)
    (sram : List SramErr) (s : State) : Host.Outcome State Fault Refusal :=
  match s.tileStripe pass id with
  | some x => match x.request? band col with
    | none => .next s
    | some r =>
      if x.aborting ∨ s.anyShutdown ∨ !s.rerasterReady x band col residue factorBad mapBad then .next s
      else match s.tileError x with
        | some (code, off, block) => .next (s.blockDamaged x.slot code off block)
        | none =>
          if spoils sram 5 7 then .next (s.sramErrs sram) else .next ((s.reraster x r runs residue factorBad mapBad).sramErrs sram)
  | none => .next s

/-! ### The pre-pass -/

/-- A neighbour's origin lies on the stripe's cell grid (R145). -/
def onGrid (sr nr : StripeRec) : Bool :=
  ((nr.x0 : Int) - sr.x0) % 640 = 0 && ((nr.y0 : Int) - sr.y0) % 640 = 0

/-- A pre-pass runs: it takes density tiles (2), waits for a block (5), or compresses its map bands and iterates (3). -/
def Stripe.prepassing (t : Stripe) : Bool := t.prepass = 2 || t.prepass = 5 || t.prepass = 3

/-- The armed stripe whose pre-pass is next: the oldest that waits, while none runs (R158). -/
def State.prepassNext (s : State) : Option Stripe :=
  if s.stripes.any Stripe.prepassing then none
  else (sortBy (·.ord) (s.stripes.filter (fun t => t.prepass = 1 ∧ t.st ≠ .armWait)))[0]?

/-- A record error in a neighbour's cached blocks, which no validation has met (R166). -/
def State.neighbourError (s : State) (x : Stripe) : Option (Nat × Nat × Nat × Nat) :=
  ((s.job x.slot).neighbours x.id).findSome? (fun n =>
    match s.walkOpen x.slot n with | .error e => some (n, e) | .ok _ => none)

/-- Such an error handled as R76 handles one of validation: its record, and the block requested again (R166). -/
def State.neighbourBad (s : State) (x : Stripe) (e : Nat × Nat × Nat × Nat) : State :=
  let (id, code, off, block) := e
  if (s.job x.slot).reqs.contains block then s
  else
    let seq := s.log.nextSeq % 2 ^ 32
    let s1 := s.record { code, cls := 1, lk := 5, l0 := block, l1 := off, stripe := some (x.jobId, id) }
    (s1.modJob x.slot (fun j => { j with badBlocks := (block, code, off, seq) :: j.badBlocks.filter (fun b => b.1 ≠ block) })).rerequest
      x.slot block code

/-- The pre-pass waits for a block, and shows it (R159, R170). -/
def State.prepassWait (s : State) (x : Stripe) (code : Nat) : State := s.modStripe x (fun t => { t with prepass := code, waited := true })

/-- PREPASS_START (R145, R158, R166): the first block of each neighbour must stand in the cache. -/
def execPrepassStart (s : State) : Host.Outcome State Fault Refusal :=
  match s.prepassNext with
  | none => .next s
  | some x =>
    let ns := (s.job x.slot).neighbours x.id
    if s.anyShutdown ∨ !s.enabled 10 then .next s
    else match s.neighbourError x with
      | some e => .next ((s.neighbourBad x e).prepassWait x 1)
      | none =>
        if ns.any (fun n => (s.firstRec x.slot n).isNone) then .next (s.prepassWait x 1)
        else if ns.any (fun n => match s.firstRec x.slot n with | some nr => !onGrid x.srec nr | none => false) then
          .next (s.jobFatalRec x.slot { code := Code.PENUMBRA_NEIGHBOUR_GRID, cls := 3, stripe := x.who })
        else .next ((s.modStripe x (fun t => { t with prepass := 2 })).setFld (statusOf 10) 16 16 1)

/-- The map set of a stripe emptied of what an earlier stripe left. -/
def State.clearBands (s : State) (set : Nat) : State :=
  { s with mapBands := s.mapBands.filter (fun b => b.1 / 2 ^ 20 ≠ set), factorCrcs := s.factorCrcs.filter (fun b => b.1 / 2 ^ 20 ≠ set) }

/-- The density tiles done: the density map stands, and its bands go to the compressor (R143 to R145, R149, R158 steps 1 and 2). A lane
with a residue mismatch has run its tile again on another (R134). -/
def State.densityDone (s : State) (x : Stripe) (residueLanes : List Nat) : State :=
  let raw := s.densityMap x.slot x.srec
  let rho := raw.map (fun k => (k.1, min 65535 k.2))
  let set := x.mapSet.getD 0
  let s1 := { s.clearBands set with density := kput s.density set rho }
  let s2 := s1.bump R.PENUMBRA_DENSITY_SATS 31 0 (raw.filter (fun k => k.2 > 65535)).length
  ((residueLanes.foldl State.rasterResidue s2).modStripe x (fun t => { t with prepass := 3 })).lanternRest

/-- Every map band of a stripe has been compressed and stored (R149). -/
def State.bandsStored (s : State) (x : Stripe) : Bool :=
  (List.range x.srec.bands).all (fun b => (kget? s.mapBands (bandKey (x.mapSet.getD 0) b)).isSome)

/-- The factor map computed, and every factor band written with its CRC (R147, R148, R158 steps 3 and 4, R168). -/
def State.prepassDone (s : State) (x : Stripe) (residueUnits : List Nat) : State :=
  let j := s.job x.slot
  let p := Params.of (j.tab 0x0A00)
  let set := x.mapSet.getD 0
  let rho := kget (fun _ => []) s.density set
  let clips := factorClips p.eta j.terms (mapCols s.width) (x.srec.rows / 16) rho p.iter
  let s1 := { s with factor := kput s.factor set (s.factorOf x.slot x.srec rho) }
  let s2 := ((List.range x.srec.bands).foldl (fun s b => s.putFactorCrc x b) s1).bump R.PENUMBRA_FACTOR_CLIPS 31 0 clips
  (residueUnits.foldl State.unitResidue (s2.modStripe x (fun t => { t with prepass := 4 }))).setFld (statusOf 10) 16 16 0

/-- The density tiles of a pre-pass may be run: on lanes in service, at most DENSITY_SHARE of them while item 2 of R129 has work. -/
def State.densityReady (s : State) (lanes residueLanes : List Nat) : Bool :=
  s.enabled 9 && s.lanesAwake && !s.stripes.any Stripe.wanted && lanes ≠ [] && lanes.eraseDups == lanes && lanes.all s.laneIn &&
  residueLanes.all lanes.contains && (!s.urgentWork || decide (lanes.length ≤ s.inForce R.LANTERN_DENSITY_SHARE))

/-- PREPASS_COMPLETE: first the density tiles, run on `lanes`; a block of a neighbour that is missing, cannot be read or breaks a rule
is waited for (R159, R166). Then, with every map band stored, the factor map (R158; log entry 159). An uncorrectable error in a working
space discards the tile or cell row, which is run again (R371). -/
def execPrepassComplete (lanes residueLanes residueUnits : List Nat) (sram : List SramErr) (s : State) : Host.Outcome State Fault Refusal :=
  match s.stripes.find? Stripe.prepassing with
  | none => .next s
  | some x =>
    if s.anyShutdown ∨ !s.enabled 10 then .next s
    else if x.prepass = 3 then if !s.bandsStored x then .next s
      else if spoils sram 7 7 then .next (s.sramErrs sram) else .next ((s.prepassDone x residueUnits).sramErrs sram)
    else if !s.densityReady lanes residueLanes then .next s
    else match s.neighbourError x, s.tileError x with
      | some e, _ => .next ((s.neighbourBad x e).prepassWait x 5)
      | none, some (code, off, block) => .next ((s.blockDamaged x.slot code off block).prepassWait x 5)
      | none, none =>
        if ((s.job x.slot).neighbours x.id).all (fun n => match s.walk x.slot n with | .ok _ => true | .error _ => false) ∧ s.mapReadable x
        then if spoils sram 5 7 then .next (s.sramErrs sram) else .next ((s.densityDone x residueLanes).sramErrs sram)
        else .next (s.prepassWait x 5)

/-! ### Penumbra's tables -/

/-- Every 16-bit entry of a table is at most m. -/
def entriesLe (t : List Byte) (m : Nat) : Bool := (List.range (t.length / 2)).all (fun i => decide (u16At t i ≤ m))

/-- A Penumbra table keeps its form in its slot (R162). -/
def Job.penumbraForm (j : Job) (id : Nat) (t : List Byte) : Bool :=
  let p := j.tab 0x0A00
  if id = 0x0A00 then paramsOk t
  else if id ≤ 0x0A03 then p ≠ [] && t.length = 2 * octants ((Params.of p).radii.getD (id - 0x0A01) 0) && entriesLe t 32768
  else if id = 0x0A04 then t.length = 2048 && (List.range 256).all (fun c => decide (leAt t (8 * c + 4) 4 < 2))
  else if id = 0x0A05 then t.length = 2048 && entriesLe t 1023
  else if id = 0x0A06 then t.length = 1024 && entriesLe t 32768
  else p ≠ [] && decide (t.length = 2 * (Params.of p).nx * (Params.of p).ny)

/-- A Penumbra table taken into its slot; new PARAMS drop the kernels and the fog that no longer match (R162). -/
def Job.putPenumbra (j : Job) (id : Nat) (t : List Byte) : Job :=
  let j1 := { j with tabs := kput j.tabs id t }
  if id ≠ 0x0A00 then j1
  else { j1 with tabs := j1.tabs.filter (fun k => if k.1 = 0x0A01 ∨ k.1 = 0x0A02 ∨ k.1 = 0x0A03 ∨ k.1 = 0x0A07
    then j1.penumbraForm k.1 k.2 else true) }

/-- The table set's check at the first STRIPE_ARM of a job (R163). -/
def Job.penumbraArm (j : Job) : Option Nat :=
  let p := Params.of (j.tab 0x0A00)
  if j.penLocked then none
  else if j.tab 0x0A00 = [] ∨ (p.iter > 0 ∧ p.nterms = 0) ∨ (p.iter > 0 ∧ (List.range p.nterms).any (fun k => j.tab (0x0A01 + k) = [])) ∨
      (p.fogEn ∧ j.tab 0x0A07 = []) then some Code.PENUMBRA_TABLES_INCOMPLETE
  else
    let total := (j.terms.map (fun t => kernTotal t.1 t.2)).sum
    if p.iter ≠ 0 ∧ (total < 32704 ∨ total > 32832) then some Code.PENUMBRA_KERNEL_SUM else none

end Sys2Proof.Machine
end

