-- ==== Sys2Proof/Machine/Tally.lean ====
section
/-! DEFINITION. The Tally store and its words, the beams' tables, carries and unknown doses, the exit check and the
deficit list, a stripe's completion, and the undoing of share cycles (R172 to R204). A row holds its listed words only:
an unlisted word reads remainder 0, MARK 0, and no share, carry-free pass or exit check changes or lists it (log entry
14). -/

namespace Sys2Proof.Machine

/-! ### Beams -/

/-- COLUMN and ROW of a beam in the remap table in force (R174). -/
def State.remapOf (s : State) (b : Nat) : Nat × Nat :=
  let w := leAt (kget (fun _ => []) s.dtabs 0x0C00) (4 * b) 4
  (w / 2 ^ 19, w / 2 ^ 6 % 2 ^ 13)

/-- The passers in force, P_act (R186, R199). -/
def State.passers (s : State) : Nat := if s.fld R.SHEPHERD_PASSERS 8 8 = 1 then 256 / s.stagger else 512 / s.stagger

/-- The largest code: 2^CODE_WIDTH − 1 (R179, R186). -/
def State.codeMax (s : State) : Nat := 2 ^ (s.fld R.SHEPHERD_CODE_WIDTH 2 0) - 1

/-- The CAP of a beam in the stray map in force; 63 where none was loaded (R179). -/
def State.cap (s : State) (b : Nat) : Nat := kget (fun _ => 63) s.caps b

/-- The 32 pattern bits of a pixel in a pattern table: all set until one is loaded (R177). -/
def patternBits (t : List Byte) (n c r : Nat) : Nat :=
  if t = [] then 2 ^ 32 - 1 else leAt t (1024 * n + 4 * (16 * (r % 16) + c % 16)) 4

/-- The pattern bit of a passer at a pixel, in force (R177). -/
def State.patternBit (s : State) (c r p : Nat) : Bool :=
  (patternBits (kget (fun _ => []) s.dtabs 0x0C01) (s.inForce R.SHEPHERD_PATTERN_SEL % 256) c r).testBit (p % 32)

/-- A passer of a column whose beam has CAP 0 (R176). -/
def State.capZero (s : State) (c p : Nat) : Bool :=
  s.caps.any (fun e => e.2 = 0 && s.remapOf e.1 = (c, 16 * (c % s.stagger + s.stagger * p)))

/-- A passer participates at a pixel (R176). -/
def State.participates (s : State) (c r p : Nat) : Bool := s.patternBit c r p && !s.capZero c p

/-- The participating passers from passer p on (R176, R186). -/
def State.maskFrom (s : State) (c r p : Nat) : Nat :=
  ((List.range s.passers).filter (fun q => decide (p ≤ q) && s.participates c r q)).length

/-- The beam of a passer of a column (R172, R174). -/
def State.beamOf (s : State) (c p : Nat) : Option Nat :=
  let k := c % s.stagger + s.stagger * p
  ((List.range 4096).map (· + 4096 * (k / 8))).find? (fun b => s.remapOf b = (c, 16 * k))

/-- Beams whose CAP is below code_max, in the map that waits for a boundary where one does (R179; DEDUCED, log entry
19). -/
def State.strayCount (s : State) : Nat := ((s.capsNext.getD s.caps).filter (fun e => decide (e.2 < s.codeMax))).length

/-- A stray map laid out as its table (R179, R182). -/
def capBytes (m : KMap Nat) : List Byte := (List.range 262144).map (fun b => BitVec.ofNat 8 (kget (fun _ => 63) m b))

/-- REMAP_CRC, 0 until a remap table is loaded (R182). -/
def State.remapCrc (s : State) : Nat := match kget? s.dtabs 0x0C00 with | some t => crcC t | none => 0

/-- PATTERN_CRC, of the default's 262,144 bytes of 0xFF until the first table has taken effect (R177, R182). -/
def State.patternCrc (s : State) : Nat := crcC ((kget? s.dtabs 0x0C01).getD (List.replicate 262144 0xFF))

/-- STRAY_CRC, of the default's 262,144 bytes of 0x3F until the first map has taken effect or a CAP is lowered (R179, R182). -/
def State.strayCrc (s : State) : Nat := crcC (capBytes s.caps)

/-! ### Rows and words -/

/-- The Tally slot of a row (R183, R199). -/
def State.slotOfRow (s : State) (r : Nat) : Nat :=
  if s.fld R.SHEPHERD_PASSERS 8 8 = 1 then 4096 * s.fld R.SHEPHERD_RELIEVED_HALF 0 0 + r % 4096 else r % 8192

/-- A row of a stripe in the Tally. -/
def State.inTally (s : State) (ord r : Nat) : Option PixRow :=
  (kget? s.tally (s.slotOfRow r)).filter (fun w => w.ord = ord && w.row = r)

/-- A row of a stripe in the exit hold. -/
def State.inHold (s : State) (ord r : Nat) : Option PixRow := s.hold.find? (fun w => w.ord = ord && w.row = r)

/-- A row of a stripe wherever it stands. -/
def State.rowAt (s : State) (ord r : Nat) : Option PixRow := (s.inTally ord r).or (s.inHold ord r)

/-- A row written back where it stands. -/
def State.putRow (s : State) (w : PixRow) : State :=
  if (s.inTally w.ord w.row).isSome then { s with tally := kput s.tally (s.slotOfRow w.row) w }
  else { s with hold := s.hold.map (fun h => if h.ord = w.ord ∧ h.row = w.row then w else h) }

/-- A word of a row. -/
def PixRow.word (w : PixRow) (c : Nat) : BitVec 16 := kget (fun c => tallyWord w.id c w.row 0 0) w.words c

/-- The state of a word: remainder and mark, or a failed tag (R185). -/
def PixRow.read (w : PixRow) (c : Nat) : Option (Nat × Nat) := readTallyWord w.id c w.row (w.word c)

/-- A word written (R184). -/
def PixRow.write (w : PixRow) (c rem mark : Nat) : PixRow :=
  { w with words := kset (fun c => tallyWord w.id c w.row 0 0) w.words c (tallyWord w.id c w.row rem mark) }

/-- A word of a stripe written where its row stands. -/
def State.putWord (s : State) (ord c r rem mark : Nat) : State :=
  match s.rowAt ord r with
  | some w => s.putRow (w.write c rem mark)
  | none => s

/-- A record that names a pixel (R461). -/
def pixRec (code : Nat) (x : Stripe) (c r status target rem : Nat) : RecArg :=
  { code, cls := 2, lk := 1, l0 := r, l1 := c, l2 := status * 2 ^ 28 + target * 2 ^ 16 + rem, stripe := x.who }

/-- A word whose tag failed where Shepherd read it: MARK 2 (R185). -/
def State.tagFault (s : State) (x : Stripe) (c r : Nat) : State :=
  (((s.putWord x.ord c r 0 2).inc R.SHEPHERD_TAG_FAULTS).inc R.TALLY_RESIDUE_FAULTS).record (pixRec Code.SHEPHERD_TAG_FAULT x c r 4 0 0)

/-! ### Carries and unknown doses -/

/-- A stripe by its order number. -/
def State.byOrd (s : State) (ord : Nat) : Option Stripe := s.stripes.find? (fun t => t.ord = ord)

/-- The row has been exit-checked, or its stripe has ended (R188). -/
def State.checked (s : State) (ord r : Nat) : Bool :=
  match s.byOrd ord with
  | none => true
  | some x => decide (r < x.exitRow)

/-- The row of the stripe that a carry or a mark concerns (R188). -/
def State.carryRow (s : State) (a : Carry) : Option Nat :=
  let q := s.remapOf (4096 * a.lane + a.slot)
  if a.flash < q.2 then none else some (a.flash - q.2)

/-- A deficit carry (R188). A pixel that has MARK 1 already is not counted again in LATE_CARRIES (DESIGN CHOICE, log entry 162). -/
def State.applyCarry (s : State) (a : Carry) : State :=
  let q := s.remapOf (4096 * a.lane + a.slot)
  if a.flash < q.2 then s
  else
    let r := a.flash - q.2
    let p := q.2 / 16 / s.stagger
    if s.checked a.ord r then s.inc R.TALLY_RESIDUE_FAULTS
    else match s.byOrd a.ord, s.rowAt a.ord r with
      | some x, some w =>
        match w.read q.1 with
        | none => (s.tagFault x q.1 r).inc R.TALLY_RESIDUE_FAULTS
        | some (rem, mark) =>
          if mark ≥ 2 then s.inc R.TALLY_RESIDUE_FAULTS
          else
            let last := s.maskFrom q.1 r (p + 1) = 0
            let s1 := (s.putWord a.ord q.1 r (rem + a.code) (if last then 1 else mark)).inc R.SHEPHERD_CARRIES
            if last ∧ mark = 0 then s1.inc R.SHEPHERD_LATE_CARRIES else s1
      | _, _ => s

/-- An unknown dose (R231). -/
def State.applyUnknown (s : State) (a : Carry) : State :=
  let q := s.remapOf (4096 * a.lane + a.slot)
  if a.flash < q.2 then s
  else
    let r := a.flash - q.2
    match s.byOrd a.ord with
    | none => s.inc R.TALLY_RESIDUE_FAULTS
    | some x =>
      if r < x.firstRow ∨ r ≥ x.endRow then s
      else if r < x.exitRow then s.inc R.TALLY_RESIDUE_FAULTS
      else s.putWord a.ord q.1 r 0 2

/-- The order of step 1 of R23: flash, then lane, carries before marks, then slot (R231). -/
def Carry.key (a : Carry) : Nat := ((a.index * 64 + a.lane) * 2 + (if a.mark then 1 else 0)) * 4096 + a.slot

/-- The carries and marks of a kind applied, in order (R23, R231). -/
def State.applyFor (s : State) (p : Carry → Bool) : State :=
  (sortBy Carry.key (s.flink.carries.filter p)).foldl (fun s a => if a.mark then s.applyUnknown a else s.applyCarry a)
    { s with flink := { s.flink with carries := s.flink.carries.filter (fun a => !p a) } }

/-- Step 1 of R23: every carry and mark received. -/
def State.applyCarries (s : State) : State := s.applyFor (fun _ => true)

/-- Carries for the codes of some slots of a frame, each returned at most once (R188, R204). -/
def LinkFrame.carry (f : LinkFrame) (slots : List Nat) : List Carry :=
  (slots.filter (fun k => kget (fun _ => 0) f.codes k ≠ 0 && !f.returned.contains k)).map
    (fun k => ⟨f.index, f.lane, k, kget (fun _ => 0) f.codes k, false, f.ord, f.flash⟩)

/-- Unknown-dose marks for a frame: the slots with a code, or with `all` every slot (R231). -/
def LinkFrame.unknown (f : LinkFrame) (all : Bool) : List Carry :=
  ((if all then List.range 4096 else f.codes.map (·.1))).map (fun k => ⟨f.index, f.lane, k, kget (fun _ => 0) f.codes k, true, f.ord, f.flash⟩)

/-- Carries and marks posted for the next step 1. -/
def State.post (s : State) (l : List Carry) : State := { s with flink := { s.flink with carries := s.flink.carries ++ l } }

/-! ### The exit check -/

/-- A frame has settled: its reports are in, or it was withheld or treated as cut, and its flash is confirmed (R228,
R258). -/
def LinkFrame.closed (f : LinkFrame) : Bool := f.settled && f.confirmed

/-- The frames that serve a pixel row: a nonzero code over it, not settled (R24). -/
def State.serving (s : State) (w : PixRow) : List (Nat × Nat) :=
  (s.flink.frames.filter (fun f => f.ord = w.ord && !f.closed)).flatMap (fun f =>
    f.codes.filterMap (fun e =>
      let q := s.remapOf (4096 * f.lane + e.1)
      if e.2 ≠ 0 ∧ f.flash = w.row + q.2 then some (q.1, e.2) else none))

/-- A row in the hold is settled (R24). -/
def State.rowSettled (s : State) (w : PixRow) : Bool := s.serving w = []

/-- A word as the exit check reads it: one named in `bad` fails its tag (R185). -/
def PixRow.exitRead (w : PixRow) (bad : List Nat) (c : Nat) : Option (Nat × Nat) := if bad.contains c then none else w.read c

/-- The status of one pixel at its exit check, with its remainder (R190, R193). -/
def State.exitStatus (s : State) (w : PixRow) (open' : List (Nat × Nat)) (bad : List Nat) (c : Nat) : Nat × Nat :=
  let waiting := (open'.filter (fun u => u.1 = c)).map (·.2)
  match w.exitRead bad c with
  | none => (4, 0)
  | some (_, 3) => (6, 0)
  | some (_, 2) => (4, 0)
  | some (rem, mark) =>
    if waiting ≠ [] then (5, rem + waiting.sum)
    else if mark = 1 then (3, rem)
    else if rem = 0 then (0, 0)
    else if s.maskFrom c w.row 0 = 0 then (2, rem) else (1, rem)

/-- TARGET of an entry: the tile formed again, 0x3FF where it cannot be (R193). For the statuses other than the two that R193 names, the
model has the target in the same way (DESIGN CHOICE, log entry 160). -/
def State.exitTarget (s : State) (x : Stripe) (fx : ExitFaults) (c r : Nat) : Nat :=
  if fx.unformed.contains c ∨ !s.tileFormable x (r / 64) (c / 64) then 0x3FF else s.targetAt x c r

/-- The entries that the exit check of a row makes, in column order (R190, R193). -/
def State.exitEntries (s : State) (x : Stripe) (w : PixRow) (fx : ExitFaults) : List DefEntry :=
  let open' := s.serving w
  let cols := (List.range s.width).filter (fun c => (kget? w.words c).isSome || fx.tags.contains c || open'.any (fun u => u.1 = c))
  cols.filterMap (fun c =>
    let st := s.exitStatus w open' fx.tags c
    if st.1 = 0 then none else some ⟨w.row, c, s.exitTarget x fx c w.row, st.2, st.1⟩)

/-- One listed pixel: counted, recorded where it is the first of its status in the stripe (R191). -/
def State.listPixel (s : State) (x : Stripe) (e : DefEntry) : State :=
  let n := kget (fun _ => 0) ((s.byOrd x.ord).getD x).counts e.status
  let s1 := s.modStripe x (fun t => { t with counts := kput t.counts e.status (n + 1) })
  if n = 0 then s1.record (pixRec Code.TALLY_RESIDUE x e.col e.row e.status e.target e.rem) else s1

/-- Stripe k has completed, or a side without a neighbour counts as complete (R340). -/
def Job.doneSide (j : Job) (k : Int) : Bool :=
  decide (k < 0 ∨ k ≥ (j.hdr.map (·.stripeCount)).getD 0) || j.completed.contains k.toNat

/-- AUTO_RELEASE: the frames of stripes whose neighbourhood has completed are freed (R340). -/
def State.autoRelease (s : State) (slot id : Nat) : State :=
  if s.fld R.HBM0_CFG 8 8 = 0 then s
  else
    let j := s.job slot
    let gone := [(id : Int) - 1, (id : Int), (id : Int) + 1].filterMap (fun k =>
      if k ≥ 0 ∧ j.completed.contains k.toNat ∧ j.doneSide (k - 1) ∧ j.doneSide (k + 1) then some k.toNat else none)
    ({ s with frames := s.frames.filter (fun f => ¬ (f.2.slot = slot ∧ f.2.block ≠ 0 ∧ gone.contains f.2.stripe)) }).modJob slot
      (fun j => { j with released := gone.filter (fun k => !j.released.contains k) ++ j.released })

/-- A stripe completes at its completion point (R437, R474, R340). -/
def State.completeStripe (s : State) (x : Stripe) : State :=
  let s1 := s.endStripe x 1 0 0
  let s2 := if x.pass = 0 then
      s1.modJob x.slot (fun j => { j with completed := x.id :: j.completed, ended := if j.ended.contains x.id then j.ended else x.id :: j.ended })
    else s1
  let s3 := s2.dropStripe x
  let s4 := if x.count > 0 then s3.clearCkpt else s3
  if x.pass = 0 then s4.autoRelease x.slot x.id else s4

/-- The stripe ends once its last row, or at an abort its hold, has been checked (R437 to R439). -/
def State.endIfDone (s : State) (ord : Nat) : State :=
  match s.byOrd ord with
  | none => s
  | some x =>
    if x.aborting then s.endAborted ord
    else if x.st = StripeSt.draining ∧ x.exitRow ≥ x.endRow then (s.completeStripe x).dropFrames else s

/-- Words of a row whose tag fails at the exit check (TALLY_EXIT_TAG, R190). -/
def State.exitTags (s : State) (x : Stripe) (w : PixRow) (fx : ExitFaults) : State :=
  (((List.range s.width).filter (fun c => (w.exitRead fx.tags c).isNone))).foldl
    (fun s c => (s.inc R.TALLY_RESIDUE_FAULTS).record (pixRec Code.TALLY_EXIT_TAG x c w.row 4 0 0)) s

/-- The list is full for a row's entries: the row stays in the hold and the stripe is contained, or the cause joins its containment
(R195, R471, R487). A stripe that is aborting is not contained: the rows that it still holds are dropped unchecked and it ends (DESIGN
CHOICE, log entry 161). -/
def State.deficitFull (s : State) (x : Stripe) (w : PixRow) : State :=
  let a : RecArg := { code := Code.TALLY_DEFICIT_FULL, cls := 2, lk := 1, l0 := w.row, stripe := x.who }
  if x.aborting then ({ s with hold := s.hold.filter (fun h => h.ord ≠ x.ord) }).endIfDone x.ord
  else if x.st = StripeSt.draining then s.enterContained x a false x.lastFlash
  else s.contain a

/-- The exit check of one row of the hold (R190 to R195, R202). -/
def State.checkRow (s : State) (x : Stripe) (w : PixRow) (fx : ExitFaults) : State :=
  let es := s.exitEntries x w fx
  if ((s.list? x).map (·.entries.length)).getD 0 + es.length > 65536 then s.deficitFull x w
  else
    let s1 := es.foldl (fun s e => s.listPixel x e) (s.exitTags x w fx)
    let s2 := s1.modList x (fun d => { d with entries := d.entries ++ es, lastRow := some w.row })
    let s3 := { s2 with hold := s2.hold.filter (fun h => ¬ (h.ord = w.ord ∧ h.row = w.row)) }
    ((s3.modStripe x (fun t => { t with exitRow := w.row + 1 })).showCheck).endIfDone x.ord

/-- The oldest row of the hold checked, with every carry and mark that has come for it (R24). -/
def State.checkHead (s : State) (fx : ExitFaults) : State :=
  match s.hold with
  | [] => s
  | w :: _ =>
    let s1 := s.applyFor (fun a => a.ord = w.ord && decide (s.carryRow a = some w.row))
    match s1.hold with
    | [] => s1
    | v :: rest => match s1.byOrd v.ord with
      | none => { s1 with hold := rest }
      | some x => s1.checkRow x v fx

/-- Every row of the hold checked at once, in row order (R470 step 5), until one finds the list full (R195). -/
def State.checkAll : Nat → List ExitFaults → State → State
  | 0, _, s => s
  | n + 1, fx, s =>
    let t := s.checkHead (fx.headD {})
    if t.hold.length < s.hold.length then State.checkAll n fx.tail t else t

/-- Every frame that holds a row unsettled is kept by a lane that is down (R232). -/
def State.rowLost (s : State) (w : PixRow) : Bool :=
  s.flink.frames.all (fun f => !(f.ord = w.ord && !f.closed && (s.lane f.lane).up) ||
    f.codes.all (fun e => !(e.2 ≠ 0 && f.flash = w.row + (s.remapOf (4096 * f.lane + e.1)).2)))

/-- The head of the hold may be checked: its last flash has fired (DEDUCED, log entry 18), it is settled (R24), or no row will displace it
and only lanes that are down hold it (R232; DEDUCED, log entry 165). -/
def State.headReady (s : State) : Bool :=
  match s.hold with
  | [] => false
  | w :: _ => match s.byOrd w.ord with
    | none => true
    | some x => (x.st ≠ .writing || decide (((w.row + s.stay : Nat) : Int) ≤ s.drover.k)) && (s.rowSettled w || (x.st = .draining && s.rowLost w))

/-- EXIT_CHECK. -/
def execExitCheck (fx : ExitFaults) (s : State) : Host.Outcome State Fault Refusal :=
  if s.headReady ∧ s.fatal = 0 ∧ (s.containedS = none) then .next (s.checkHead fx) else .next s

/-! ### Undoing share cycles -/

/-- The shares of one frame added back with their MARK unchanged (R189). -/
def State.undoFrame (s : State) (f : LinkFrame) : State :=
  f.codes.foldl (fun s e =>
    let q := s.remapOf (4096 * f.lane + e.1)
    if f.returned.contains e.1 ∨ f.flash < q.2 then s
    else match s.rowAt f.ord (f.flash - q.2) with
      | none => s
      | some w => match w.read q.1 with
        | some (rem, mark) => if mark ≥ 2 then s else s.putWord f.ord q.1 w.row (rem + e.2) mark
        | none => s) s

/-- The key of a staged row. -/
def stageKey (ord r : Nat) : Nat := ord * 2 ^ 32 + r

/-- One share cycle undone (R189). -/
def State.undoCycle (s : State) (x : Stripe) (f : Nat) : State :=
  let s1 := (s.flink.frames.filter (fun g => g.ord = x.ord ∧ g.flash = f)).foldl State.undoFrame s
  let s2 := match s1.inTally x.ord f with
    | some w => { s1 with staging := kput s1.staging (stageKey x.ord f) w.words, tally := kdel s1.tally (s1.slotOfRow f) }
    | none => s1
  let back := f - s2.stay
  let s3 := if f < s2.stay then s2 else match s2.inHold x.ord back with
    | some w => { s2 with hold := s2.hold.filter (fun h => ¬ (h.ord = x.ord ∧ h.row = back)), tally := kput s2.tally (s2.slotOfRow back) w }
    | none => s2
  let keep := fun (a : Carry) => !(a.ord = x.ord && a.flash = f)
  { s3 with flink := { s3.flink with frames := s3.flink.frames.filter (fun g => ¬ (g.ord = x.ord ∧ g.flash = f)),
                                     carries := s3.flink.carries.filter keep } }

/-- The share cycles after held flash h undone, in descending order (R189). -/
def State.undo (s : State) (x : Stripe) (h : Int) : State :=
  let first := (h + 1).toNat
  let s1 := ((List.range (x.nextCycle - first)).map (fun i => x.nextCycle - 1 - i)).foldl (fun s f => s.undoCycle x f) s
  (s1.modStripe x (fun t => { t with nextCycle := min t.nextCycle first })).wr R.TALLY_ENTRY_ROW (min first x.endRow)

/-! ### Stray additions -/

/-- A beam's CAP lowered in force, never raised (R181); a map that waits is lowered with it. -/
def State.lowerCap (s : State) (b cap : Nat) : State :=
  let s1 := if cap < s.cap b then { s with caps := kset (fun _ => 63) s.caps b cap } else s
  let s2 := match s1.capsNext with
    | none => s1
    | some m => if cap < kget (fun _ => 63) m b then { s1 with capsNext := some (kset (fun _ => 63) m b cap) } else s1
  let limit := s.rd R.SHEPHERD_STRAY_LIMIT
  if s.strayCount ≤ limit ∧ s2.strayCount > limit ∧ s.active.isSome then
    s2.record { code := Code.SHEPHERD_STRAYS_OVER, cls := 0, lk := 7, l0 := b, l1 := cap, stripe := s.active.bind Stripe.who }
  else s2

/-- The shares of a beam in frames computed but not yet fired, as carries (R181, R200). -/
def State.returnShares (s : State) (b : Nat) : State :=
  let mine := s.flink.frames.filter (fun f => f.lane = b / 4096 && decide ((f.flash : Int) > s.drover.k) && (s.active.map (·.ord)) = some f.ord)
  (mine.foldl (fun (s : State) f => s.post (f.carry [b % 4096])) s).modFrames (fun f =>
    if mine.any (fun g => g.index = f.index ∧ g.lane = f.lane) then { f with returned := b % 4096 :: f.returned } else f)

/-- STRAY_ADD: the write by where the stripe stands (R181, R673); once a RESUME has restored the stray map, the share cycles go on. -/
def State.strayWrite (s : State) (b cap : Nat) : State :=
  match s.active with
  | none => s.lowerCap b cap
  | some x => if x.st = StripeSt.contained ∧ x.ckpt ≠ 5 then { s with strayHeld := s.strayHeld ++ [(b, cap)] }
              else { s with strayPend := s.strayPend ++ [(b, cap)] }

/-- STRAY_ADD. -/
def execStrayAdd (o : Origin) (v : Nat) (s : State) : Host.Outcome State Fault Refusal :=
  .next (s.act o R.SHEPHERD_STRAY_ADD v (fun s => s.strayWrite (fieldOf v 17 0) (fieldOf v 23 18)))

/-- The writes held while a stripe was contained take effect (R181). -/
def State.takeHeld (s : State) : State := s.strayHeld.foldl (fun s a => s.lowerCap a.1 a.2) { s with strayHeld := [] }

/-- Writes that waited for a share cycle that does not come, or for the end of a containment, take effect (R181). -/
def State.flushStrays (s : State) : State :=
  (s.strayPend ++ s.strayHeld).foldl (fun s a => s.lowerCap a.1 a.2) { s with strayPend := [], strayHeld := [] }

end Sys2Proof.Machine
end

