-- ==== Sys2Proof/Machine/Shepherd.lean ====
section
/-! DEFINITION. The field's staging read, the share cycle, and the checks of Shepherd's tables, of the fenced Tally and
of a patch list (R20 to R27, R174 to R178, R182 to R187, R196 to R199, R371, R399, R400, R633). -/

namespace Sys2Proof.Machine

/-! ### Entry staging -/

/-- FIELD.STAGING_ROWS: 1,520 less the fenced rows in force (R373, R375, R632). -/
def State.stagingRows (s : State) : Nat := 1520 - (s.sram.fences.filter (fun f => f.inForce && sramRegion (256 * f.block) = 1)).length

/-- The stripe whose bands entry staging reads next: the writing one, then the waiting and the armed ones in order. -/
def State.bandStripe (s : State) : Option Stripe :=
  let open' := fun (p : Stripe → Bool) => (sortBy (·.ord) (s.stripes.filter p)).find? (fun t => t.ring.isSome && decide (64 * t.staged < t.endRow))
  ((open' (fun t => t.st = .writing)).or (open' (fun t => t.st = .waiting))).or (open' (fun t => t.st = .armed))

/-- The tile of a column that a DRAM address lies in. -/
def tileColOf (da : Nat) : Nat := da / 8192 % 128

/-- A tile that is to be formed again, once for a tile, with the SEQ of the record that names why (R27, R132, R464). -/
def State.askTile (s : State) (x : Stripe) (band col seq : Nat) : State :=
  s.modStripe x (fun t => if t.requests.any (fun r => r.1 = band ∧ r.2.1 = col) then t
    else { t with requests := t.requests ++ [(band, col, seq % 2 ^ 32)] })

/-- A tile that failed its CRC or a tag at the staging read (R633). -/
def State.tileFail (s : State) (x : Stripe) (band col : Nat) (tags : Option Nat) : State :=
  let s1 := match tags with
    | none => s.inc R.FIELD_TILE_CRC_FAILS
    | some n => s.bump R.FIELD_TAG_FAILS 31 0 n
  ((s1.wr R.FIELD_LAST_FAIL (col * 2 ^ 24 + band % 2 ^ 24)).record
    (tileRec (if tags.isNone then Code.FIELD_TILE_CRC else Code.FIELD_TILE_TAG) x band col)).askTile x band col s.log.nextSeq

/-- An uncorrectable read of a field tile: read again from the old rank, or formed again (R351, R354). -/
def State.tileUe (s : State) (x : Stripe) (band da : Nat) : State :=
  let s1 := s.hbmUe da x.who
  if s.readFails da then s1.askTile x band (tileColOf da) s.log.nextSeq else s1

/-- The words of one row of a complete band, from its tiles (R124, R342). -/
def State.bandRow (s : State) (x : Stripe) (band dr : Nat) : KMap (BitVec 16) :=
  (List.range (s.width / 64)).foldl (fun m col =>
    ((kget (fun _ => []) s.field (fieldKey (x.ring.getD 0) band col)).filter (fun e => e.1 / 64 = dr)).foldl
      (fun m e => kput m (64 * col + e.1 % 64) e.2) m) []

/-- A band into entry staging. -/
def State.stageBand (s : State) (x : Stripe) (band : Nat) : State :=
  let s1 := (List.range 64).foldl (fun (t : State) dr =>
    { t with staging := kput t.staging (stageKey x.ord (64 * band + dr)) (s.bandRow x band dr) }) s
  s1.modStripe x (fun t => { t with staged := band + 1 })

/-- Entry staging has room for a band (R632). -/
def State.stageRoom (s : State) : Bool := decide (s.staging.length + 64 ≤ s.stagingRows)

/-- FIELD_BAND_READ (R27, R343, R351, R371, R633): a band with no failed tile is staged; a failed tile waits for its
re-rasterization. -/
def State.bandRead (s : State) (x : Stripe) (band : Nat) (badCrc : List Nat) (badTag : List (Nat × Nat)) (ues : List Nat) (sram : List SramErr) : State :=
  let lost := (ues.filter s.readFails).map tileColOf
  let s1 := ues.foldl (fun s da => s.tileUe x band da) s
  let s2 := (List.range (s.width / 64)).foldl (fun s col =>
    if lost.contains col then s
    else if badCrc.contains col then s.tileFail x band col none
    else match badTag.find? (fun t => t.1 = col) with
      | some t => s.tileFail x band col (some t.2)
      | none => s) s1
  let again := (sram.filter (fun e => e.ue && sramRegion e.line = 1)).length
  let s3 := (s2.bump R.FIELD_REREAD 31 0 again).sramErrs sram
  if lost = [] ∧ badCrc = [] ∧ badTag = [] then s3.stageBand x band else s3

/-- FIELD_BAND_READ. -/
def execFieldBandRead (band : Nat) (badCrc : List Nat) (badTag : List (Nat × Nat)) (ues : List Nat) (sram : List SramErr) (s : State) :
    Host.Outcome State Fault Refusal :=
  match s.bandStripe with
  | none => .next s
  | some x =>
    if s.enabled 11 ∧ !s.clockHeld ∧ band = x.staged ∧ band < x.bandsDone ∧ s.stageRoom ∧ (x.requests ++ x.lostTiles).all (fun t => t.1 ≠ band)
    then .next (s.bandRead x band badCrc badTag ues sram) else .next s

/-! ### The share cycle -/

/-- Step 2 of R23: a row leaves the Tally for the exit hold; a seventeenth is checked out at once (R24). -/
def State.leaveRow (s : State) (x : Stripe) (f : Nat) (fx : ExitFaults) : State :=
  if f < s.stay then s
  else match s.inTally x.ord (f - s.stay) with
    | none => s
    | some w =>
      let s1 := if s.hold.length ≥ 16 then s.checkHead fx else s
      { s1 with tally := kdel s1.tally (s1.slotOfRow w.row), hold := s1.hold ++ [w] }

/-- A word that fails its tag on entry: MARK 3 (R185). -/
def State.entryTag (s : State) (x : Stripe) (c r : Nat) : State :=
  (((s.putWord x.ord c r 0 3).inc R.TALLY_ENTRY_TAGS).inc R.TALLY_RESIDUE_FAULTS).record (pixRec Code.TALLY_ENTRY_TAG x c r 6 0 0)

/-- Step 3 of R23: row f enters from staging; the ring is released with the last row (R341). -/
def State.enterRow (s : State) (x : Stripe) (f : Nat) (badEntry : List Nat) : State :=
  if f < x.firstRow ∨ f ≥ x.endRow then s
  else
    let words := kget (fun _ => []) s.staging (stageKey x.ord f)
    let w : PixRow := ⟨x.ord, x.id, f, words⟩
    let s1 := { s with tally := kput s.tally (s.slotOfRow f) w, staging := kdel s.staging (stageKey x.ord f) }
    let bad := sortBy id (badEntry ++ (words.filter (fun e => (w.read e.1).isNone)).map (·.1))
    let s2 := bad.foldl (fun s c => s.entryTag x c f) s1
    let s3 := s2.wr R.TALLY_ENTRY_ROW (f + 1)
    if f + 1 = x.endRow then s3.modStripe x (fun t => { t with ring := none }) else s3

/-- Tally words of a failing 64-bit word of region 0, as stripe rows and columns (R366, R371). -/
def State.ueWords (s : State) (e : SramErr) : List (Nat × Nat) :=
  match kget? s.tally (e.line / 256) with
  | none => []
  | some w => (List.range 4).map (fun i => (w.row, e.line % 256 * 32 + 4 * e.word + i))

/-- A beam's code depends on a line of the Shepherd tables (R371): its remap entry, its pattern word, or the stray byte
of a passer of its pixel from its own on. -/
def State.dependsOn (s : State) (line b c r p : Nat) : Bool :=
  let o := line - 0x260000
  if sramRegion line ≠ 2 then false
  else if o < 0x4000 then b / 16 = o
  else if o < 0x5000 then (256 * (s.inForce R.SHEPHERD_PATTERN_SEL % 256) + 16 * (r % 16) + c % 16) / 16 = o - 0x4000
  else (List.range 64).any (fun i =>
    let q := s.remapOf (64 * (o - 0x5000) + i)
    q.1 = c && decide (p ≤ q.2 / 16 / s.stagger))

/-- A beam over a listed word at flash f: beam, column, row, passer (R172, R173). -/
def State.beamOver (s : State) (f c r : Nat) : Option (Nat × Nat × Nat × Nat) :=
  let off := f - r
  if f < r ∨ off ≥ 8192 ∨ off % 16 ≠ 0 ∨ off / 16 % s.stagger ≠ c % s.stagger then none
  else
    let p := off / 16 / s.stagger
    if p ≥ s.passers then none else (s.beamOf c p).map (fun b => (b, c, r, p))

/-- The beams to compute at flash f, in beam order: those over words that hold something, and those the faults name. -/
def State.beamsAt (s : State) (x : Stripe) (f : Nat) (named : List Nat) (words : List (Nat × Nat)) : List (Nat × Nat × Nat × Nat) :=
  let rows := (s.tally.map (·.2)).filter (fun w => w.ord = x.ord)
  let own := rows.flatMap (fun w => w.words.filterMap (fun e => s.beamOver f e.1 w.row))
  let bad := words.filterMap (fun w => if rows.any (fun v => v.row = w.1) then s.beamOver f w.2 w.1 else none)
  let byBeam := named.filterMap (fun b =>
    let q := s.remapOf b
    if f < q.2 ∨ ¬ rows.any (fun v => v.row = f - q.2) then none else s.beamOver f q.1 (f - q.2))
  (sortBy (·.1) (own ++ bad ++ byBeam)).foldl (fun l b => if l.any (fun y => y.1 = b.1) then l else l ++ [b]) []

/-- A chain event counted in CRC.CHAIN_COUNTS, with its record, which names the block that detected it (R399 to R401, R412). -/
def State.chain (s : State) (hi det : Nat) (a : RecArg) : State := (s.bump R.CRC_CHAIN_COUNTS hi (hi - 7) 1).record { a with det := some det }

/-- What a share cycle meets by chance: columns whose word fails its tag on entry (R185), beams whose computation or packing fails (R399,
R400), words by row and column that fail where Shepherd reads them, and what the check of a displaced row meets. -/
structure CycleFaults where
  badEntry : List Nat := []
  badShare : List Nat := []
  badPack : List Nat := []
  badWords : List (Nat × Nat) := []
  sram : List SramErr := []
  fx : ExitFaults := {}

/-- One beam of step 4: its code, and the state after it (R186, R399, R400). -/
def State.shareBeam (s : State) (x : Stripe) (f : Nat) (e : CycleFaults) (q : Nat × Nat × Nat × Nat) : State × List (Nat × Nat) :=
  let (b, c, r, p) := q
  let s1 := if e.badPack.contains b then
      (s.post [⟨x.flashBase + f, b / 4096, b % 4096, 0, true, x.ord, f⟩]).chain 15 12
        { code := Code.CRC_CHAIN_PACK, cls := 2, lk := 4, l0 := b / 4096, l1 := b % 4096, l2 := (x.flashBase + f) % 2 ^ 24, stripe := x.who }
    else s
  if !s1.participates c r p ∨ e.sram.any (fun l => l.ue && s1.dependsOn l.line b c r p) then (s1, [])
  else if e.badWords.contains (r, c) then (s1.tagFault x c r, [])
  else match (s1.rowAt x.ord r).bind (fun w => w.read c) with
    | none => (s1.tagFault x c r, [])
    | some (rem, mark) =>
      if mark ≠ 0 then (s1, [])
      else if e.badShare.contains b then
        ((s1.putWord x.ord c r 0 2).chain 23 12 (pixRec Code.CRC_CHAIN_SHARE x c r 4 0 0), [])
      else
        let code := min (min (ceilDiv rem (s1.maskFrom c r p)) s1.codeMax) (s1.cap b)
        let s2 := s1.putWord x.ord c r (rem - code) 0
        if code = 0 ∨ e.badPack.contains b then (s2, []) else (s2, [(b, code)])

/-- The dose-table bank in force (R236). -/
def State.bankNow (s : State) : Nat :=
  if s.fld R.FLINK_BANK 16 16 = 1 then s.fld R.FLINK_BANK 23 20 else fieldOf (s.rd R.FLINK_BANK_MAP) (4 * s.flink.bankCount + 3) (4 * s.flink.bankCount)

/-- The frames of flash f, one per forward lane (R174, R220). -/
def State.packFrames (s : State) (x : Stripe) (f : Nat) (codes : List (Nat × Nat)) : State :=
  let mk := fun l =>
    ({ lane := l, flash := f, index := x.flashBase + f, ord := x.ord, stripe := x.id, width := s.fld R.SHEPHERD_CODE_WIDTH 2 0, bank := s.bankNow,
       codes := ((codes.filter (fun e => e.1 / 4096 = l)).foldl (fun m e => kput m (e.1 % 4096) e.2) []) } : LinkFrame)
  { s with flink := { s.flink with frames := s.flink.frames ++ (List.range 64).map mk } }

/-- Step 4 of R23: stray additions, then every share, then the frames (R181, R186). -/
def State.shares (s : State) (x : Stripe) (f : Nat) (e : CycleFaults) : State :=
  let s1 := s.strayPend.foldl (fun s a => s.lowerCap a.1 a.2) { s with strayPend := [] }
  let lost := (e.sram.filter (fun l => l.ue && sramRegion l.line = 0)).flatMap s1.ueWords
  let s2 := lost.foldl (fun s w => s.tagFault x w.2 w.1) s1
  let r := (s2.beamsAt x f (e.badShare ++ e.badPack) e.badWords).foldl (fun (a : State × List (Nat × Nat)) q =>
    let t := a.1.shareBeam x f e q
    (t.1, a.2 ++ t.2)) (s2, [])
  r.1.packFrames x f r.2

/-- Shares of beams whose CAP falls to 0 in this cycle, as carries of step 1 (R181, R200). -/
def State.returnPending (s : State) : State :=
  s.strayPend.foldl (fun s a => if a.2 = 0 ∧ s.cap a.1 > 0 then s.returnShares a.1 else s) s

/-- The four steps of R23 for flash f. -/
def State.cycle (s : State) (x : Stripe) (f : Nat) (e : CycleFaults) : State :=
  let s1 := s.returnPending.applyCarries.leaveRow x f e.fx
  let s2 := (s1.enterRow x f e.badEntry).shares x f e
  (s2.modStripe x (fun t => { t with nextCycle := f + 1 })).sramErrs e.sram

/-- Row f is due and not in entry staging (R22). -/
def State.fieldMissing (s : State) (x : Stripe) (f : Nat) : Bool :=
  decide (x.firstRow ≤ f ∧ f < x.endRow) && (kget? s.staging (stageKey x.ord f)).isNone

/-- The containment for a missing band: late, or a tile that no two runs agreed on (R132, R139, R464). -/
def State.fieldLate (s : State) (x : Stripe) (f : Nat) : State :=
  match x.lostTiles.find? (fun t => t.1 = f / 64) with
  | some t => s.contain { tileRec Code.LANTERN_RERASTER_DISAGREE x t.1 t.2.1 with cause := t.2.2 }
  | none => s.contain { code := Code.LANTERN_FIELD_LATE, cls := 2, stripe := x.who }

/-- The next share cycle of a stripe. -/
def State.runCycle (s : State) (x : Stripe) (e : CycleFaults) : State :=
  if s.fieldMissing x x.nextCycle then s.fieldLate x x.nextCycle else s.cycle x x.nextCycle e

/-- The first L share cycles of a stripe, a pass or a resumed run (R477, R674). -/
def State.firstCycles : Nat → Nat → State → State
  | 0, _, s => s
  | n + 1, ord, s =>
    match s.byOrd ord with
    | none => s
    | some x => if x.st = StripeSt.contained ∧ x.ckpt ≠ 5 ∨ x.nextCycle > x.lastFlash then s else State.firstCycles n ord (s.runCycle x {})

/-- The frame lead L (R217). -/
def State.leadL (s : State) : Nat := s.fld R.FLINK_LEAD 2 0

/-- CYCLE_NS: the longest share cycle since ERR_CLEAR, and the last. -/
def State.showCycle (s : State) (ns : Nat) : State := (s.maxFld R.SHEPHERD_CYCLE_NS 27 16 ns).setFld R.SHEPHERD_CYCLE_NS 11 0 ns

/-- SHARE_CYCLE at the strobe of flash f − L, taking `ns` (R20, R23, R187). -/
def execShareCycle (late : Bool) (ns : Nat) (badEntry badShare badPack : List Nat) (badWords : List (Nat × Nat)) (sram : List SramErr)
    (fx : ExitFaults) (s : State) : Host.Outcome State Fault Refusal :=
  match s.writing with
  | none => .next s
  | some x =>
    if (x.nextCycle : Int) > s.drover.k + s.leadL ∨ x.nextCycle > x.lastFlash then .next s
    else if late then .next (s.contain { code := Code.SHEPHERD_CYCLE_OVERRUN, cls := 2, stripe := x.who })
    else .next ((s.runCycle x { badEntry, badShare, badPack, badWords, sram, fx }).showCycle ns)

/-! ### Tables -/

/-- All different, by a set of the numbers met. -/
def allNew (l : List Nat) : Bool :=
  (l.foldl (fun (a : Option Nat) k => a.bind (fun m => if m.testBit k then none else some (m + 2 ^ k))) (some 0)).isSome

/-- A remap table keeps the form of R175 at stagger S: each entry in its lane's rows, each beam once. -/
def remapOk (sg : Nat) (t : List Byte) : Bool :=
  let ws := wordsOf t
  let bad := fun (e : Nat × Nat) =>
    let (w, b) := e
    let col := w / 2 ^ 19
    let k := w / 2 ^ 6 % 2 ^ 13 / 16
    w % 64 ≠ 0 ∨ w / 2 ^ 6 % 16 ≠ 0 ∨ k / 8 ≠ b / 4096 ∨ col % sg ≠ k % sg ∨ col ≥ 512 * sg
  t.length = 1048576 && ws.zipIdx.all (fun e => !decide (bad e)) &&
  (List.range 64).all (fun l => allNew (((ws.drop (4096 * l)).take 4096).map (fun w => w / 2 ^ 6 % 2 ^ 13 / 16 % 8 * 512 + w / 2 ^ 19 / sg)))

/-- A stray map keeps its form: 262,144 bytes, [7:6] zero (R179). -/
def strayOk (t : List Byte) : Bool := t.length = 262144 && t.all (fun b => decide (b.toNat < 64))

/-- A stray map as its CAPs below 63. -/
def capsOf (t : List Byte) : KMap Nat := t.zipIdx.filterMap (fun e => if e.1.toNat = 63 then none else some (e.2, e.1.toNat))

/-- A Shepherd table by identifier: the code that refuses it, or the state that holds it (R175, R177, R179, R182). -/
def State.loadShepherd (s : State) (id : Nat) (t : List Byte) : Except Nat State :=
  if id = 0x0C00 then
    if s.enabled 12 then .error Code.SHEPHERD_TABLE_BUSY
    else if remapOk s.stagger t then .ok { s with dtabs := kput s.dtabs 0x0C00 t } else .error Code.SHEPHERD_TABLE_FORM
  else if id = 0x0C01 then
    if t.length = 262144 then .ok { s with dnext := kput s.dnext 0x0C01 t } else .error Code.SHEPHERD_TABLE_FORM
  else if strayOk t then .ok ({ s with capsNext := some (capsOf t) }) else .error Code.SHEPHERD_TABLE_FORM

/-- The pattern selected to be next in force has a pixel with no passer in service (R178). -/
def State.patternEmpty (s : State) (passers : Nat) : Bool :=
  let t := (kget? s.dnext 0x0C01).getD (kget (fun _ => []) s.dtabs 0x0C01)
  let n := s.fld R.SHEPHERD_PATTERN_SEL 7 0
  (List.range 256).any (fun i => patternBits t n (i % 16) (i / 16) % 2 ^ (min 32 passers) = 0)

/-- The largest entry of a slot's linearity table; 1,023 where it has none (R198). -/
def Job.linMax (j : Job) : Nat :=
  match kget? j.tabs 0x0A05 with
  | none => 1023
  | some t => (List.range (t.length / 2)).foldl (fun m i => max m (u16At t i)) 0

/-- The doses of a job can be served by half the passers (R198). -/
def State.linOk (s : State) (j : Job) : Bool := decide (j.linMax ≤ 512 / s.stagger / 2 * s.codeMax)

/-- The Tally blocks that are fenced; block n is slot n (R366, R198). -/
def State.fencedSlots (s : State) : List Nat := (s.sram.fences.filter (fun f => sramRegion (256 * f.block) = 0)).map (·.block)

/-- R198 is not met at ENABLE: relieved mode asks both of its conditions, with a fence or without one. -/
def State.hurdlesOut (s : State) : Bool :=
  let f := s.fencedSlots
  if s.fld R.SHEPHERD_MODE 0 0 = 0 then !f.isEmpty
  else !(f.all (fun b => decide (b < 4096)) || f.all (fun b => decide (b ≥ 4096))) ||
    (s.job0.status = 1 && !s.linOk s.job0) || (s.job1.status = 1 && !s.linOk s.job1)

/-- The half that relieved mode uses (R199). -/
def State.relievedHalf (s : State) : Nat := if s.fencedSlots.any (fun b => decide (b < 4096)) then 1 else 0

/-! ### Patch lists -/

/-- The entries of a patch list (R192, R196). -/
def patchEntries (t : List Byte) : Nat → List DefEntry
  | 0 => []
  | n + 1 => patchEntries t n ++ [⟨leAt t (16 * n) 4, leAt t (16 * n + 4) 2, fieldOf (leAt t (16 * n + 8) 4) 25 16, 0, 0⟩]

/-- Strictly ascending by row and then column. -/
def ascending : List DefEntry → Bool
  | a :: b :: l => decide (a.row < b.row ∨ (a.row = b.row ∧ a.col < b.col)) && ascending (b :: l)
  | _ => true

/-- A patch list keeps the form of R196; the reserved fields beside COLUMN and TARGET are 0 (DEDUCED, log entry 20). -/
def patchOk (rows width : Nat) (t : List Byte) : Bool :=
  let n := t.length / 16
  let es := patchEntries t n
  t.length % 16 = 0 && decide (0 < n ∧ n ≤ 65536) && es.all (fun e => decide (e.row < rows ∧ e.col < width)) && ascending es &&
  (List.range n).all (fun i => leAt t (16 * i + 6) 2 = 0 && leAt t (16 * i + 8) 4 / 2 ^ 26 = 0 && leAt t (16 * i + 8) 4 / 2 ^ 10 % 64 = 0)

end Sys2Proof.Machine
end

