-- ==== Sys2Proof/Machine/Flink.lean ====
section
/-! DEFINITION. The Flock link and Mirror: lanes and their training, frames, return messages, settling, unknown dose,
lanes that go down (R208 to R249, R674). Times are not held: a limit that runs out is a command of its own, and
a margin or a lateness is an operand (log entry 21). -/

namespace Sys2Proof.Machine

/-! ### Lanes as a whole -/

/-- Lanes in service. -/
def State.upLanes (s : State) : List Nat := (List.range 64).filter (fun l => (s.lane l).up)

/-- The least of a list, `d` for none. -/
def leastOf (d : Nat) (l : List Nat) : Nat := match l with | [] => d | x :: xs => xs.foldl min x

/-- The negotiated code width (R215). -/
def State.widthMax (s : State) : Nat := min 6 (leastOf 0 (s.upLanes.map (fun l => fieldOf (s.lane l).caps0 37 35)))
/-- Lanes that have negotiated: those in service and those in low-power idle. -/
def State.metLanes (s : State) : List Nat := (List.range 64).filter (fun l => (s.lane l).up || (s.lane l).st = 8)
/-- The negotiated number of banks (R214, R236). -/
def State.banks (s : State) : Nat := leastOf 0 (s.metLanes.map (fun l => fieldOf (s.lane l).caps0 30 26))
/-- The negotiated number of head sensors (R237). -/
def State.headSensors (s : State) : Nat := leastOf 0 (s.metLanes.map (fun l => fieldOf (s.lane l).caps0 24 18))
/-- Every lane in service supports ECHO (R242). -/
def State.echoAll (s : State) : Bool := s.upLanes.all (fun l => fieldOf (s.lane l).caps0 25 25 = 1)

/-- Line rates in kb/s by rate index (R211). -/
def lineRate (i : Nat) : Nat := [14062500, 20625000, 25781250, 28125000].getD i 14062500
/-- The flash rate of one lane in kHz, unrounded (R216). -/
def laneFlash (rate w : Nat) : Nat := 95 * lineRate rate / (100 * 66 * frameBlocks w)
/-- FLINK.MAX_FLASH (R216). -/
def State.maxFlash (s : State) : Nat :=
  match s.upLanes with
  | [] => 0
  | ls => min 1250 (leastOf 0 (ls.map (fun l => laneFlash (s.lane l).rate (s.fld R.SHEPHERD_CODE_WIDTH 2 0))) / 10 * 10)

/-- The settings that every lane must bear at a flash rate: the code of the condition of R217 a lane breaks. T_min is
10^6 / rate ns at the lower of the two limits, and times are compared in ns over the common denominator. -/
def State.laneLimits (s : State) (x : Lane) (maxRate : Nat) (atVerify : Bool) : Option Nat :=
  let L := s.leadL
  let own := min 1250 (laneFlash x.rate (s.fld R.SHEPHERD_CODE_WIDTH 2 0) / 10 * 10)
  let khz := max 1 (min maxRate own)
  let rep := ceilDiv (fieldOf x.caps0 17 12 * 100 * khz) 1000000
  let dl := s.fld R.FLINK_CFG 25 16
  if L < 2 ∨ L > fieldOf x.caps0 34 31 - 1 then some Code.FLINK_LEAD_RANGE
  else if L - 1 + rep > 8 then some Code.FLINK_REPLAY_DEPTH
  else if !atVerify then none
  else
    let r := lineRate x.rate
    let tf := frameBlocks (s.fld R.SHEPHERD_CODE_WIDTH 2 0) * 66 * 1000000
    if 10 * fieldOf x.caps0 11 4 > dl ∨ dl * khz * r + tf * khz > (L - 1) * 1000000 * r then some Code.FLINK_DEADLINE else none

/-- DROVER.MAX_RATE in kHz. -/
def State.maxRate (s : State) : Nat := s.fld R.DROVER_MAX_RATE 20 0

/-- A record that names a lane, a slot and a flash (R461). -/
def linkRec (code cls lane slot index : Nat) : RecArg := { code, cls, lk := 4, l0 := lane, l1 := slot, l2 := index % 2 ^ 24 }

/-- A record of one lane by number. -/
def laneRec (code cls lane : Nat) (detail : Nat := 0) : RecArg := { code, cls, lk := 8, l0 := lane, l1 := detail }

/-! ### Frames -/

/-- The frames that hold a replay entry on a lane (R223). -/
def State.entries (s : State) (lane : Nat) : Nat :=
  (s.flink.frames.filter (fun f => f.lane = lane && f.sent && !f.closed && !f.dropped)).length

/-- The stripe of a frame. -/
def State.frameStripe (s : State) (f : LinkFrame) : Option (Nat × Nat) := (s.byOrd f.ord).bind Stripe.who

/-- A lane's miss counted (R248). -/
def State.countMiss (s : State) (lane n : Nat) : State :=
  (s.bump R.FLINK_MISS_COUNT 31 0 n).setLane lane { s.lane lane with misses := satAdd 65535 (s.lane lane).misses n }

/-- The codes of some slots of a frame returned as carries; where its replay copy fails its check, its dose is unknown
instead (R188, R204, R401). -/
def State.carryFrame (s : State) (f : LinkFrame) (slots : List Nat) (copyBad : Bool) : State :=
  if copyBad ∨ f.damaged then
    (s.post (f.unknown true)).chain 7 17 { linkRec Code.CRC_CHAIN_REPLAY 2 f.lane 0xFFF f.index with stripe := s.frameStripe f }
  else (s.post (f.carry slots)).modFrame f.lane f.index (fun g => { g with returned := slots ++ g.returned })

/-- The dose of a frame is unknown, as for CUT, with its record (R228, R231, R249). -/
def State.cutMark (s : State) (f : LinkFrame) (copyBad : Bool := false) : State :=
  let s1 := if copyBad ∨ f.damaged then
      (s.post (f.unknown true)).chain 7 17 { linkRec Code.CRC_CHAIN_REPLAY 2 f.lane 0xFFF f.index with stripe := s.frameStripe f }
    else s.post (f.unknown false)
  (s1.modFrame f.lane f.index (fun g => { g with cut := true })).record
    { linkRec Code.FLINK_CUT 2 f.lane 0xFFF f.index with stripe := s.frameStripe f }

/-- A frame treated as CUT: it settles (R230, R231, R470). -/
def State.cutFrame (s : State) (f : LinkFrame) (copyBad : Bool := false) : State :=
  (s.cutMark f copyBad).modFrame f.lane f.index (fun g => { g with settled := true })

/-- Two reports of one frame that disagree, or that stay incomplete (R230). -/
def State.conflict (s : State) (f : LinkFrame) : State :=
  (if f.cut then s else s.cutFrame f).record { linkRec Code.FLINK_REPORT_CONFLICT 2 f.lane 0xFFF f.index with stripe := s.frameStripe f }

/-- The whole frame's codes slots. -/
def LinkFrame.slots (f : LinkFrame) : List Nat := f.codes.map (·.1)

/-- The slots of a PARTIAL frame whose dose was not delivered: FAULT 3 leaves it unknown instead (R225, R238). -/
def LinkFrame.lostSlots (f : LinkFrame) : List Nat := (f.missed.filter (fun m => m.2 ≠ 3)).map (·.1)

/-- A PARTIAL frame whose slots have all been named: their codes are carried, once (R228). -/
def State.slotsDone (s : State) (lane index : Nat) (copyBad : Bool) : State :=
  match s.frame? lane index with
  | none => s
  | some f => match f.latched with
    | some (2, n) =>
      if f.counted ∨ f.missed.length < n then s
      else
        let s1 := (s.carryFrame f f.lostSlots copyBad).countMiss lane f.missed.length
        (f.missed.foldl (fun s k => s.record { linkRec Code.FLINK_MISSED 1 lane k.1 index with stripe := s.frameStripe f }) s1).modFrame lane index
          (fun g => { g with counted := true })
    | _ => s

/-- A frame settles once its LATCH, the slots of a PARTIAL one and, with ECHO_REQ, its ECHO have come (R228). -/
def State.trySettle (s : State) (lane index : Nat) (copyBad : Bool := false) : State :=
  match s.frame? lane index with
  | none => s
  | some f =>
    if f.settled ∨ (f.echoReq ∧ f.echoed.isNone) ∨ f.latched.isNone ∨ (f.latched.map (·.1) = some 2 ∧ !f.counted) then s
    else
      let s1 := if f.damaged ∧ copyBad ∧ f.latched.map (·.1) = some 0 then
          s.chain 7 17 { linkRec Code.CRC_CHAIN_REPLAY 0 lane 0xFFF index with stripe := s.frameStripe f } else s
      s1.modFrame lane index (fun g => { g with settled := true })

/-! ### Lanes that go down -/

/-- The frames a lane leaves unsettled. -/
def State.unsettledOn (s : State) (lane : Nat) : List LinkFrame :=
  s.flink.frames.filter (fun f => f.lane = lane && f.sent && !f.settled && !f.dropped)

/-- A forward lane goes down: a PARTIAL frame with slots missing is CUT (R229, R230); the lane stops serving, keeps its unsettled frames,
and is retrained after the stripe (R219, R232). -/
def State.laneDown (s : State) (lane : Nat) : State :=
  let x := s.lane lane
  if !x.up ∧ x.st ≠ 8 then s
  else
    let s1 := ((s.unsettledOn lane).filter (fun f => f.latched.map (·.1) = some 2 ∧ !f.counted)).foldl State.conflict s
    let cls := if s1.unsettledOn lane = [] then 1 else 2
    (s1.setLane lane { s1.lane lane with st := 0, prevRate := x.rate, wentDown := true, naksRow := 0, silentRow := 0, due := [] }).record
      { laneRec Code.FLINK_LANE_DOWN cls lane with stripe := s.active.bind Stripe.who }

/-- A lane that fails training (R215, R218). -/
def State.laneFail (s : State) (lane code : Nat) (detail : Nat := 0) : State :=
  (s.setLane lane { s.lane lane with st := 9 }).record (laneRec code 1 lane detail)

/-- A lane begins training at DETECT, with TRAIN blocks; its return lane trains first (R218, R219; log entries 22 and 163). -/
def State.retrainLane (s : State) (lane : Nat) : State :=
  let x := s.lane lane
  let s1 := s.setLane lane { x with st := 1, got := 0, wentDown := false, naksRow := 0, silentRow := 0, quick := false, due := [],
                                    tested := [], prevRate := if x.up then x.rate else x.prevRate }
  { s1 with flink := { s1.flink with rx := 255 } }.emit (.control lane 0xAA 0)

/-! ### Sending -/

/-- The index of the next flash to fire (R9, R266); the first of a power-up is 0 (DEDUCED, log entry 25). -/
def State.nextIndex (s : State) : Nat := if s.drover.strobedEver then s.drover.lastIndex + 1 else 0

/-- No strobe of the run has fired yet: the frames of F to F + L − 1 go at once (R674). -/
def State.runFresh (s : State) (x : Stripe) : Bool :=
  s.drover.k + 1 = x.firstRow || (decide (x.count > 0) && s.drover.k = x.held)

/-- The last flash whose frame may be sent (R223, R674). -/
def State.sendLimit (s : State) (x : Stripe) : Int := if s.runFresh x then s.drover.k + s.leadL else s.drover.k + s.leadL - 1

/-- A frame withheld, by its own copy in the assembly buffer (R224). -/
def State.withhold (s : State) (f : LinkFrame) : State :=
  let s1 := (s.post (f.carry f.slots)).modFrame f.lane f.index (fun g => { g with withheld := true, settled := true, returned := f.slots })
  ((s1.inc R.FLINK_WITHHELD).countMiss f.lane 1).record { linkRec Code.FLINK_WITHHELD 1 f.lane 0xFFF f.index with stripe := s.frameStripe f }

/-- The lane's blanker supports ECHO (R214). -/
def State.echoes (s : State) (lane : Nat) : Bool := fieldOf (s.lane lane).caps0 25 25 = 1

/-- ECHO_REQ of the next frame of a lane, while Mirror is enabled (R242). -/
def State.wantsEcho (s : State) (lane : Nat) : Bool :=
  let m := s.fld R.MIRROR_MODE 1 0
  s.enabled 18 && s.echoes lane && (m = 3 || (m = 2 && decide ((s.lane lane).echoLeft > 0)))

/-- A frame sent for the first time, after the replays that wait (R222, R223, R227). -/
def State.sendFrame (s : State) (f : LinkFrame) (slack : Option Nat) (lateNs : Nat) : State :=
  let x := s.lane f.lane
  let g := { f with sent := true, seq := x.seq, echoReq := s.wantsEcho f.lane }
  let s1 := s.setLane f.lane { x with st := 7, seq := (x.seq + 1) % 65536, echoLeft := x.echoLeft - 1, late := lateNs }
  let s2 := (s1.modFrames (fun h => if h.lane = f.lane ∧ h.sent then { h with ended := true } else h)).modFrame f.lane f.index (fun _ => g)
  let s3 := match slack with | some ns => s2.noteSlack f.lane ns | none => s2
  (s3.setFld R.FLINK_BANK 3 0 f.bank).emit (.frame f.lane f.index false g.blocks)

/-- The stripe whose frames are sent: the writing one, or the one a RESUME restores (R477). -/
def State.sending (s : State) : Option Stripe := s.writing.or (s.containedS.filter (fun x => x.ckpt = 5))

/-- FRAME_SEND (R223, R224): `slack` is the margin in ns by which its last block beats the deadline, none where it does not; `lateNs` how late
the frame starts. Before the first strobe of a run no strobe bounds it (R674). -/
def execFrameSend (lane : Nat) (slack : Option Nat) (lateNs : Nat) (s : State) : Host.Outcome State Fault Refusal :=
  match s.sending with
  | none => .next s
  | some x =>
    match sortBy (·.index) (s.flink.frames.filter (fun f => f.lane = lane && f.ord = x.ord && !f.sent && !f.withheld && !f.dropped)) with
    | [] => .next s
    | f :: _ =>
      if (f.flash : Int) > s.sendLimit x then .next s
      else if !(s.lane lane).up ∨ s.entries lane ≥ 8 ∨ (slack.isNone ∧ !s.runFresh x) then .next (s.withhold f)
      else .next ((s.boundaryOf lane).sendFrame f slack lateNs)

/-! ### Return messages -/

/-- TYPE of a return message (R212). -/
def msgType (m : BitVec 64) : Nat := fieldOf m.toNat 63 60
/-- LANE or SENSOR. -/
def msgLane (m : BitVec 64) : Nat := fieldOf m.toNat 59 54
/-- FLASH_LO. -/
def msgFlash (m : BitVec 64) : Nat := fieldOf m.toNat 53 30

/-- CHECK and TYPE of a message are valid (R212, R213). -/
def msgOk (m : BitVec 64) : Bool :=
  fieldOf m.toNat 7 0 = crc8msg.crc (beBytes 7 (m.toNat / 256)) && decide (1 ≤ msgType m ∧ msgType m ≤ 7)

/-- A message discarded and counted (R213). -/
def State.badMsg (s : State) (m : BitVec 64) : State :=
  s.record { linkRec Code.FLINK_MSG_CHECK 0 (msgLane m) 0xFFF 0 with stripe := s.active.bind Stripe.who }

/-- A message of a type taken, or discarded by R213; one of another type is not this command's. -/
def State.message (s : State) (m : BitVec 64) (typ : Nat) (take : State → State) : Host.Outcome State Fault Refusal :=
  if s.fatal ≠ 0 then .next s
  else if !msgOk m then .next (s.badMsg m) else if msgType m = typ then .next (take s) else .next s

/-- The strobed flash a FLASH_LO names, of the last 16 (R226). -/
def State.strobedBy (s : State) (lo : Nat) : Option Nat := s.flink.strobed.find? (fun i => i % 2 ^ 24 = lo)

/-- A flash after the held one of a DISCARD (R235). -/
def State.discarded (s : State) (lo : Nat) : Bool :=
  match s.flink.discard with
  | none => false
  | some h => decide (1 ≤ (lo + 2 ^ 24 - h) % 2 ^ 24 ∧ (lo + 2 ^ 24 - h) % 2 ^ 24 ≤ 16)

/-- A NAK answered: a replay is granted where its last block can leave by DEADLINE, `slack` ns before it, and leaves at the next block
boundary (R227; log entry 164); a copy that fails its check gets none (R401). -/
def State.replay (s : State) (f : LinkFrame) (copyBad : Bool) (slack : Option Nat) : State :=
  if copyBad ∨ f.damaged then
    (s.chain 7 17 { linkRec Code.CRC_CHAIN_REPLAY 0 f.lane 0xFFF f.index with stripe := s.frameStripe f }).modFrame f.lane f.index
      (fun g => { g with damaged := true })
  else match slack with
    | none => s
    | some ns => if s.flink.strobed.contains f.index then s
      else s.setLane f.lane { s.lane f.lane with due := (s.lane f.lane).due ++ [(f.index, ns)] }

/-- A NAK (R227, R232): `silent` where no valid RX_STATUS came. -/
def State.nak (s : State) (f : LinkFrame) (silent copyBad : Bool) (slack : Option Nat) : State :=
  let x := s.lane f.lane
  let x1 := { x with naks := satAdd 65535 x.naks 1, naksRow := x.naksRow + 1, silentRow := if silent then x.silentRow + 1 else 0 }
  let s1 := ((s.setLane f.lane x1).inc R.FLINK_NAK_COUNT).record { linkRec Code.FLINK_NAK 1 f.lane 0xFFF f.index with stripe := s.frameStripe f }
  let s2 := (s1.modFrame f.lane f.index (fun g => { g with ended := true })).replay f copyBad slack
  if x1.naksRow ≥ 8 ∨ x1.silentRow ≥ 4 then s2.laneDown f.lane else s2

/-- A sent frame of a lane by FLASH_LO. -/
def State.sentBy (s : State) (lane lo : Nat) : Option LinkFrame :=
  s.flink.frames.find? (fun f => f.lane = lane && f.index % 2 ^ 24 = lo && f.sent && !f.settled && !f.dropped)

/-- RX_STATUS (R227, R232, R235). -/
def execRxStatus (m : BitVec 64) (copyBad : Bool) (slack : Option Nat) (s : State) : Host.Outcome State Fault Refusal :=
  s.message m 1 (fun s =>
    match s.sentBy (msgLane m) (msgFlash m) with
    | none => s
    | some f =>
      let s := s.boundaryOf f.lane
      if fieldOf m.toNat 13 13 = 1 then s.nak f false copyBad slack
      else (s.modFrame f.lane f.index (fun g => { g with acked := true, ended := true })).setLane f.lane
        { s.lane f.lane with naksRow := 0, silentRow := 0 })

/-- RX_STATUS_TIMEOUT (R227, R232, R235). -/
def execRxStatusTimeout (lane flash : Nat) (copyBad : Bool) (slack : Option Nat) (s : State) : Host.Outcome State Fault Refusal :=
  match s.frame? lane flash with
  | none => .next s
  | some f =>
    if f.sent ∧ ¬ f.acked ∧ ¬ f.settled ∧ ¬ f.dropped ∧ (s.lane lane).up ∧ s.fatal = 0 then .next ((s.boundaryOf lane).nak f true copyBad slack)
    else .next s

/-- A LATCH taken for the first time (R228): what it says is acted on at once; one that slots named before deny is a conflict (R230). -/
def State.latchTake (s : State) (f : LinkFrame) (status count : Nat) (copyBad : Bool) : State :=
  let s1 := s.modFrame f.lane f.index (fun g => { g with latched := some (status, count), ended := true })
  let s2 := s1.setLane f.lane { s1.lane f.lane with taken := (f.index :: (s1.lane f.lane).taken).take 16 }
  match status with
  | 0 => if f.missed = [] then s2.trySettle f.lane f.index copyBad else s2.conflict f
  | 1 =>
    (((s2.carryFrame f f.slots copyBad).countMiss f.lane 1).record
      { linkRec Code.FLINK_MISSED 1 f.lane 0xFFF f.index with stripe := s.frameStripe f }).trySettle f.lane f.index copyBad
  | 3 => (s2.cutMark f copyBad).trySettle f.lane f.index
  | _ => if f.missed.length > count then s2.conflict f else (s2.slotsDone f.lane f.index copyBad).trySettle f.lane f.index copyBad

/-- A LATCH that names no strobed flash (R226). -/
def State.flashSlip (s : State) (lane lo : Nat) : State :=
  let a : RecArg := linkRec Code.FLINK_FLASH_SLIP 2 lane 0xFFF lo
  match s.active with
  | none => s.contain a
  | some x =>
    let open' := s.flink.frames.filter (fun f => f.lane = lane && f.ord = x.ord && f.sent && !f.settled && !f.dropped)
    (open'.foldl (fun s f => s.cutFrame f) s).contain a

/-- LATCH (R226, R228, R230, R247). -/
def execLatch (m : BitVec 64) (copyBad : Bool) (s : State) : Host.Outcome State Fault Refusal :=
  s.message m 2 (fun s =>
    let lane := msgLane m
    let status := fieldOf m.toNat 29 28
    let count := fieldOf m.toNat 27 16
    if s.discarded (msgFlash m) then s
    else match (s.strobedBy (msgFlash m)).filter (fun i => decide ((s.lane lane).since ≤ i)) with
      | none => s.flashSlip lane (msgFlash m)
      | some i => match s.frame? lane i with
        | none => s
        | some f =>
          if f.withheld ∨ f.dropped then s
          else match f.latched with
            | none => if f.settled then s else s.latchTake f status count copyBad
            | some p => if p = (status, count) then s else s.conflict f)

/-- A beam that the blanker found faulty (R238). -/
def State.beamFault (s : State) (f : LinkFrame) (slot fault : Nat) : State :=
  let b := 4096 * f.lane + slot
  if fault = 0 then s
  else if fault < 3 then
    let s1 := s.record { code := Code.FLINK_BEAM_FAULT, cls := 1, lk := 7, l0 := b, l1 := s.cap b, stripe := s.frameStripe f }
    if s.fld R.FLINK_CFG 12 12 = 1 then s1.strayWrite b 0 else s1
  else
    let last := (s.active.map (fun x => if x.st = StripeSt.contained then x.held else s.drover.k)).getD s.drover.k
    let marks := (List.range ((last + 1).toNat - f.flash)).map (fun i =>
      (⟨f.index + i, f.lane, slot, 0, true, f.ord, f.flash + i⟩ : Carry))
    (s.post marks).contain { code := Code.FLINK_BEAM_UNSHADEABLE, cls := 2, lk := 7, l0 := b, l1 := s.cap b, stripe := s.frameStripe f }

/-- SLOT_MISS (R228, R230, R238): a copy is ignored; one that names another FAULT, a slot of a LATCHED frame, or a slot too many
disagrees; before its LATCH it waits for it. -/
def execSlotMiss (m : BitVec 64) (s : State) : Host.Outcome State Fault Refusal :=
  s.message m 3 (fun s =>
    let slot := fieldOf m.toNat 29 18
    let fault := fieldOf m.toNat 17 16
    match (s.strobedBy (msgFlash m)).bind (s.frame? (msgLane m)) with
    | none => s
    | some f =>
      if !f.sent ∨ f.withheld ∨ f.dropped ∨ f.missed.contains (slot, fault) then s
      else if f.missed.any (fun k => k.1 = slot) then s.conflict f
      else
        let s1 := (s.modFrame f.lane f.index (fun g => { g with missed := (slot, fault) :: g.missed })).beamFault f slot fault
        match f.latched.map (·.1) with
        | some 0 => s1.conflict f
        | some 2 => if f.counted then s1.conflict f else (s1.slotsDone f.lane f.index false).trySettle f.lane f.index
        | _ => s1)

/-- What Mirror records of a mismatch (R243). -/
def State.mismatchRec (s : State) (f : LinkFrame) (got : Nat) (stripe : Option (Nat × Nat)) : State :=
  ((((s.inc R.MIRROR_MISMATCHES).wr R.MIRROR_LAST (f.lane * 2 ^ 24 + f.index % 2 ^ 24)).wr R.MIRROR_EXPECT f.crcOf).wr R.MIRROR_GOT got).record
    { linkRec Code.MIRROR_MISMATCH 2 f.lane 0xFFF f.index with stripe }

/-- A mismatch in a stripe: the frame's dose is unknown (R231, R243). -/
def State.mismatch (s : State) (f : LinkFrame) (got : Nat) : State :=
  ((s.mismatchRec f got (s.frameStripe f)).post (f.unknown true)).modFrame f.lane f.index (fun g => { g with settled := true, echoed := some got })

/-- The test frames of a lane's VERIFY, with SHADE_ALL and, as Mirror's mode requires, ECHO_REQ (R218, R222, R242; log entry 167). -/
def State.testFrames (s : State) (lane seq0 : Nat) : List LinkFrame :=
  (List.range 1024).map (fun k =>
    let c := Config.testFrame lane k
    let w := s.fld R.SHEPHERD_CODE_WIDTH 2 0
    { lane, flash := c.2.1 % 2 ^ 32, index := c.1 % 2 ^ 48, ord := 0, stripe := c.2.2.1 % 2 ^ 32, seq := (seq0 + k) % 65536, width := w,
      bank := s.bankNow, shadeAll := true, echoReq := s.echoes lane && s.fld R.MIRROR_MODE 1 0 ≠ 0,
      codes := (List.range 4096).map (fun i => (i, c.2.2.2 i % 2 ^ w)) })

/-- The ECHO of a test frame: compared; a mismatch fails the lane (R218, R243). -/
def State.testEcho (s : State) (lane lo got : Nat) : State :=
  let x := s.lane lane
  match (s.testFrames lane (x.seq + 64512)).zipIdx.find? (fun f => f.1.index % 2 ^ 14 = lo && f.1.echoReq && !x.tested.contains f.2) with
  | none => s
  | some (f, k) =>
    let s1 := (s.inc R.MIRROR_ECHOES).setLane lane { x with tested := k :: x.tested }
    if got = f.crcOf then s1 else (s1.mismatchRec f got none).laneFail lane Code.FLINK_TRAIN_FAIL

/-- ECHO (R242, R243): the first of a frame is compared; a second that differs from it is a conflict (R230). -/
def execEcho (m : BitVec 64) (s : State) : Host.Outcome State Fault Refusal :=
  s.message m 4 (fun s =>
    let got := fieldOf m.toNat 39 8
    let lo := fieldOf m.toNat 53 40
    if (s.lane (msgLane m)).st = 5 then s.testEcho (msgLane m) lo got
    else match s.flink.frames.find? (fun f => f.lane = msgLane m && f.index % 2 ^ 14 = lo && f.sent && f.echoReq && !f.dropped) with
    | none => s
    | some f => match f.echoed with
      | some e => if e = got then s else s.conflict f
      | none =>
        let s1 := s.inc R.MIRROR_ECHOES
        if got = f.crcOf then (s1.modFrame f.lane f.index (fun g => { g with echoed := some got, ended := true })).trySettle f.lane f.index
        else s1.mismatch f got)

/-- SENSOR (R237). -/
def execSensor (m : BitVec 64) (s : State) : Host.Outcome State Fault Refusal :=
  s.message m 5 (fun s =>
    if msgLane m ≥ s.headSensors then s
    else
      let v : Option Int := if fieldOf m.toNat 37 36 = 0 then some (signedOf 16 (fieldOf m.toNat 53 38)) else none
      { s with flink := { s.flink with sensors := kput s.flink.sensors (msgLane m) v } })

/-- FLINK_SENSOR_SILENT: a sensor of the head has sent no report for 3 ms, whatever it last said (R237). -/
def execFlinkSensorSilent (i : Nat) (s : State) : Host.Outcome State Fault Refusal :=
  if i ≥ s.headSensors ∨ s.fatal ≠ 0 then .next s
  else .next (({ s with flink := { s.flink with sensors := kput s.flink.sensors i none } }).record (laneRec Code.FLINK_SENSOR_SILENT 1 i))

/-- The rates a lane may take: offered, allowed, under its ageing cap (R215). -/
def State.ratesOf (s : State) (lane : Nat) : List Nat :=
  ([3, 2, 1, 0] : List Nat).filter (fun r =>
    (fieldOf (s.lane lane).caps0 41 38).testBit r && (s.fld R.FLINK_CFG 3 0).testBit r && decide (r ≤ kget (fun _ => 3) s.age.rateCap lane))

/-- A capability word received: its count of equal copies, one more of the same or a first of another. -/
def Lane.takeCaps (x : Lane) (word data : Nat) : Lane :=
  let c0 := x.got % 4
  let c1 := x.got / 4
  if word = 0 then { x with caps0 := data, got := (if c0 > 0 ∧ x.caps0 = data then 2 else 1) + 4 * c1 }
  else { x with caps1 := data, got := c0 + 4 * (if c1 > 0 ∧ x.caps1 = data then 2 else 1) }

/-- Both words received valid twice (R218). -/
def Lane.capsDone (x : Lane) : Bool := x.got = 10

/-- BLANKER_CAPS: the word, and once both stand the first two conditions of R217, at the rate that the lane takes to TRAIN. -/
def execBlankerCaps (m : BitVec 64) (s : State) : Host.Outcome State Fault Refusal :=
  s.message m 6 (fun s =>
    let lane := msgLane m
    let x := s.lane lane
    if x.st ≠ 3 ∨ fieldOf m.toNat 53 50 > 1 then s
    else
      let x1 := x.takeCaps (fieldOf m.toNat 53 50) (fieldOf m.toNat 49 8)
      let s1 := s.setLane lane x1
      if !x1.capsDone then s1
      else match (s1.ratesOf lane).head?.bind (fun r => s1.laneLimits { x1 with rate := r } s1.maxRate false) with
        | some c => s1.laneFail lane Code.FLINK_LANE_CAPS c
        | none => s1)

/-- BLANKER_EVENT (R209, R212, R232). -/
def execBlankerEvent (m : BitVec 64) (s : State) : Host.Outcome State Fault Refusal :=
  s.message m 7 (fun s =>
    let lane := msgLane m
    let kind := fieldOf m.toNat 53 48
    let s1 := { s with flink := { s.flink with events := (lane, kind, fieldOf m.toNat 47 8) :: s.flink.events } }
    if kind = 0 then s1.laneDown lane
    else if kind = 2 ∧ 1 ≤ (s.lane lane).st ∧ (s.lane lane).st ≤ 5 then s1.laneFail lane Code.FLINK_LANE_ORDER
    else s1)

/-- A frame that has strobed on a lane in service and is not settled. -/
def State.awaited (s : State) (lane flash : Nat) : Option LinkFrame :=
  (s.frame? lane flash).filter (fun f => f.sent && !f.settled && !f.dropped && s.flink.strobed.contains flash && (s.lane lane).up)

/-- FLINK_REPORT_LATE (R229). -/
def execFlinkReportLate (lane flash : Nat) (s : State) : Host.Outcome State Fault Refusal :=
  match s.awaited lane flash with
  | none => .next s
  | some f =>
    if f.again > 0 ∨ s.fatal ≠ 0 then .next s
    else
      let s1 := ((s.inc R.FLINK_REPORT_LATE).modFrame lane flash (fun g => { g with again := 1 })).emit (.control lane 0xB4 (flash % 2 ^ 24))
      .next (s1.record { linkRec Code.FLINK_REPORT_LATE 1 lane 0xFFF flash with stripe := s.frameStripe f })

/-- REPORT_AGAIN_RETRY: sent again up to three times in all, then the lane goes down (R229). -/
def execReportAgainRetry (lane flash : Nat) (s : State) : Host.Outcome State Fault Refusal :=
  match s.awaited lane flash with
  | none => .next s
  | some f =>
    if f.again = 0 ∨ s.fatal ≠ 0 then .next s
    else if f.again < 3 then
      .next ((s.modFrame lane flash (fun g => { g with again := f.again + 1 })).emit (.control lane 0xB4 (flash % 2 ^ 24)))
    else .next (s.laneDown lane)

/-- RETURN_LANE_LOCK_LOST: every forward lane that reports on it goes down (R232). -/
def execReturnLaneLockLost (q : Nat) (s : State) : Host.Outcome State Fault Refusal :=
  if q > 7 ∨ !s.flink.rx.testBit q ∨ s.fatal ≠ 0 then .next s
  else
    let s1 := { s with flink := { s.flink with rx := s.flink.rx - 2 ^ q } }
    .next ((s.metLanes.filter (fun l => fieldOf (s.lane l).caps1 9 7 = q)).foldl State.laneDown s1)

/-! ### Training -/

/-- While SHEPHERD is enabled, a lane whose MAXW is below the width in force does not come into service (R215). -/
def State.tooNarrow (s : State) (lane : Nat) : Bool :=
  s.enabled 12 && decide (fieldOf (s.lane lane).caps0 37 35 < s.fld R.SHEPHERD_CODE_WIDTH 2 0)

/-- LANE_CAPS_DONE: to TRAIN at the highest rate; a lane with no rate, or narrower than the width in force, fails
(R215, R218). -/
def execLaneCapsDone (lane : Nat) (s : State) : Host.Outcome State Fault Refusal :=
  let x := s.lane lane
  if lane > 63 ∨ x.st ≠ 3 ∨ !x.capsDone ∨ !s.flink.rx.testBit (fieldOf x.caps1 9 7) ∨ s.fatal ≠ 0 then .next s
  else match s.ratesOf lane with
    | [] => .next (s.laneFail lane Code.FLINK_TRAIN_FAIL)
    | r :: _ =>
      if s.tooNarrow lane then .next (s.laneFail lane Code.FLINK_TRAIN_FAIL)
      else .next (s.setLane lane { x with st := 4, rate := r })

/-- The lane calibration record in force of a lane, for the die band in force (R536, R542). -/
def State.laneCal (s : State) (lane : Nat) : Option (List Byte) := s.keepForce 0x0012 (64 * s.fld R.THERM_BAND 1 0 + lane)

/-- The least eye of a lane: its calibration record's, or EYE_MIN (R215, R536). -/
def State.eyeMin (s : State) (lane : Nat) : Nat × Nat :=
  let m := (s.laneCal lane).getD []
  let w := leAt m 8 1
  let h := leAt m 9 1
  (if w = 0 then s.fld R.FLINK_EYE_MIN 7 0 else w, if h = 0 then s.fld R.FLINK_EYE_MIN 15 8 else h)

/-- LANE_EYE_MEASURED: VERIFY, with CONFIG and 1,024 test frames, or TRAIN at the next lower rate, or FAILED (R215, R218). -/
def execLaneEyeMeasured (lane w h : Nat) (s : State) : Host.Outcome State Fault Refusal :=
  let x := { s.lane lane with eyeW := w, eyeH := h }
  if lane > 63 ∨ x.st ≠ 4 ∨ s.fatal ≠ 0 then .next s
  else if w ≥ (s.eyeMin lane).1 ∧ h ≥ (s.eyeMin lane).2 then
    .next (((s.setLane lane { x with st := 5, seq := (x.seq + 1024) % 65536, tested := [] }).emit (.control lane 0x78
      (x.rate + s.fld R.SHEPHERD_CODE_WIDTH 2 0 * 4 + s.leadL * 32 + (fieldOf x.caps0 30 26 - 1) * 256 + fieldOf x.caps0 25 25 * 4096))).emit
      (.tests lane (s.testFrames lane x.seq)))
  else match (s.ratesOf lane).find? (fun r => decide (r < x.rate)) with
    | none => .next ((s.setLane lane x).laneFail lane Code.FLINK_TRAIN_FAIL)
    | some r => .next (s.setLane lane { x with rate := r })

/-- The lane record of a training (R536, R539, R546): the equaliser settings are the part's own. -/
def State.keepLane (s : State) (lane : Nat) : State :=
  let x := s.lane lane
  let old := (s.laneCal lane).getD (List.replicate 16 0)
  let eq := Config.freeValue s.free
  s.fresh.2.putKeep 0x0012 (64 * s.fld R.THERM_BAND 1 0 + lane)
    (leBytes 4 eq ++ [BitVec.ofNat 8 x.eyeW, BitVec.ofNat 8 x.eyeH, 0, 0] ++ (old.drop 8).take 4 ++ leBytes 4 x.rate)

/-- A lane comes into service: IDLE blocks, FLASH_SET, its width and its first echoes (R218, R226, R242). -/
def State.laneIdle (s : State) (lane : Nat) : State :=
  let s1 := s.setLane lane { s.lane lane with st := 6, width := s.fld R.SHEPHERD_CODE_WIDTH 2 0, wentDown := false, quick := false,
                                              naksRow := 0, silentRow := 0, echoLeft := s.fld R.MIRROR_WINDOW 15 0, taken := [],
                                              since := s.nextIndex, due := [] }
  ((s1.emit (.control lane 0x66 s.nextIndex)).emit (.control lane 0x1E 0)).laneComes lane

/-- LANE_BLOCK_LOCK (R209, R218): in DETECT the lane locks, in the wrong order it fails; in LOCK, polarity fixed and the scrambler
synchronised, it goes on to CAPS, or one that wakes from low-power idle to IDLE (R239; DEDUCED, log entry 166). -/
def execLaneBlockLock (lane : Nat) (order : Bool) (s : State) : Host.Outcome State Fault Refusal :=
  let x := s.lane lane
  if lane > 63 ∨ (x.st ≠ 1 ∧ x.st ≠ 2) ∨ s.fatal ≠ 0 then .next s
  else if order then .next (s.laneFail lane Code.FLINK_LANE_ORDER)
  else if x.st = 1 then .next (s.setLane lane { x with st := 2 })
  else if x.quick then .next (if s.tooNarrow lane then s.laneFail lane Code.FLINK_TRAIN_FAIL else s.laneIdle lane)
  else .next ((s.setLane lane { x with st := 3, got := 0 }).emit (.control lane 0x87 (s.fld R.FLINK_CFG 3 0 + 6 * 16 + 128 + 8 * 256)))

/-- A lane in service after training: its record in the keep, and its rate against the one before (R218, R536). -/
def State.laneUp (s : State) (lane : Nat) : State :=
  let x := s.lane lane
  let s1 := ((s.laneIdle lane).setLane lane { (s.laneIdle lane).lane lane with prevRate := x.rate }).keepLane lane
  if x.rate < x.prevRate then s1.record (laneRec Code.FLINK_RATE_DOWN 0 lane) else s1

/-- LANE_VERIFY_DONE: IDLE, after the third condition of R217 and the width of R215. -/
def execLaneVerifyDone (lane : Nat) (ok : Bool) (s : State) : Host.Outcome State Fault Refusal :=
  let x := s.lane lane
  if lane > 63 ∨ x.st ≠ 5 ∨ s.fatal ≠ 0 then .next s
  else if !ok ∨ s.tooNarrow lane then .next (s.laneFail lane Code.FLINK_TRAIN_FAIL)
  else match s.laneLimits x s.maxRate true with
    | some c => .next (s.laneFail lane Code.FLINK_LANE_CAPS c)
    | none => .next (s.laneUp lane)

/-- FLINK_TRAIN_FAIL: a training state ran out of time (R218). -/
def execFlinkTrainFail (lane : Nat) (s : State) : Host.Outcome State Fault Refusal :=
  if lane > 63 ∨ (s.lane lane).st = 0 ∨ (s.lane lane).st > 5 ∨ s.fatal ≠ 0 then .next s
  else .next (s.laneFail lane Code.FLINK_TRAIN_FAIL)

/-- RETRAIN: at once while no stripe writes, else after the stripe (R219; log entry 23). -/
def execRetrain (o : Origin) (v : Nat) (s : State) : Host.Outcome State Fault Refusal :=
  .next (s.act o R.FLINK_RETRAIN v (fun s =>
    let ls := if fieldOf v 8 8 = 1 then List.range 64 else [fieldOf v 5 0]
    if !s.enabled 17 then s
    else if s.writing.isSome then ls.foldl (fun s l => s.setLane l { s.lane l with wentDown := true }) s
    else ls.foldl State.retrainLane s))

/-- LANE_RETRAIN_TURNAROUND (R219). -/
def execLaneRetrainTurnaround (lane : Nat) (s : State) : Host.Outcome State Fault Refusal :=
  if lane > 63 ∨ !(s.lane lane).wentDown ∨ !s.enabled 17 ∨ s.fatal ≠ 0 ∨
      s.stripes.any (fun t => t.st = .writing ∨ t.st = .draining ∨ t.st = .contained) then .next s
  else .next (s.retrainLane lane)

/-- A stripe is armed or further. -/
def State.anyArmed (s : State) : Bool := s.stripes.any (fun t => t.st ≠ .armWait)

/-- LPI_ENTRY (R239, R515). -/
def execLpiEntry (lane : Nat) (s : State) : Host.Outcome State Fault Refusal :=
  if lane > 63 ∨ (s.lane lane).st ≠ 6 ∨ (s.anyArmed ∧ !s.clockHeld) ∨ s.fatal ≠ 0 then .next s
  else .next ((s.setLane lane { s.lane lane with st := 8 }).emit (.control lane 0x99 0))

/-- Every lane in low-power idle wakes through DETECT, at its last rate and skipping CAPS (R239). -/
def State.wakeLanes (s : State) : State :=
  (List.range 64).foldl (fun s l =>
    if (s.lane l).st = 8 then (s.setLane l { s.lane l with st := 1, quick := true }).emit (.control l 0xAA 0) else s) s

/-- LANE_EYE_SCAN (R240, R547). -/
def execLaneEyeScan (lane w h : Nat) (s : State) : Host.Outcome State Fault Refusal :=
  if lane > 63 ∨ (s.lane lane).st ≠ 6 ∨ s.writing.isSome then .next s
  else .next (s.setLane lane { s.lane lane with eyeW := w, eyeH := h })

/-! ### What the registers of the link show -/

/-- LANES_UP as 64 bits (R248). -/
def State.lanesUpBits (s : State) : Nat := s.upLanes.foldl (fun v l => v + 2 ^ l) 0

/-- FLINK.RATE (R248). -/
def State.rateReg (s : State) : Nat :=
  let rs := s.upLanes.map (fun l => (s.lane l).rate)
  s.widthMax * 2 ^ 16 + rs.foldl max 0 * 256 + leastOf 0 rs

/-- FLINK.SETTLED: the flash through which every frame of the lanes in service has settled (R235). -/
def State.settledLo (s : State) : Nat :=
  match s.flink.frames.filter (fun f => !f.closed && f.sent && !f.dropped && (s.lane f.lane).up) with
  | [] => s.drover.lastIndex % 2 ^ 24
  | f :: fs => ((fs.foldl (fun m g => min m g.index) f.index) + 2 ^ 24 - 1) % 2 ^ 24

/-- SLACK_MIN (R233, R248): the lane and the least margin since ERR_CLEAR. -/
def State.slackReg (s : State) : Nat := match s.flink.slack with | some (l, ns) => l * 2 ^ 26 + ns % 65536 | none => 0

/-- LANE_STATE of a lane (R248). -/
def State.laneState (s : State) (l : Nat) : Nat :=
  let x := s.lane l
  min 255 (x.late / 8) * 2 ^ 24 + s.entries l * 2 ^ 16 + x.width * 2 ^ 12 + x.rate * 256 + x.st

/-- A beam of a lane out of service has a CAP above 0 (R219). -/
def State.lanesShort (s : State) : Bool :=
  (List.range 64).any (fun l => !((s.lane l).up || (s.lane l).st = 8) &&
    decide ((s.caps.filter (fun e => e.1 / 4096 = l && e.2 = 0)).length < 4096))

end Sys2Proof.Machine
end

