-- ==== Sys2Proof/Machine/Drover.lean ====
section
/-! DEFINITION. Drover: the position channels, gearing, the row-advance law, standstill and rewind, losses of position
(R250 to R296). The instants of the samples, and what an analogue probe finds, come with the commands. -/

namespace Sys2Proof.Machine

/-! ### Channels -/

/-- A channel. -/
def State.enc (s : State) (ch : Nat) : Enc := kget (fun _ => {}) s.drover.encs ch
/-- A channel set. -/
def State.setEnc (s : State) (ch : Nat) (e : Enc) : State :=
  { s with drover := { s.drover with encs := kset (fun _ => {}) s.drover.encs ch e } }
/-- A register of a channel (R296: the registers that ENC_SEL shows). -/
def encReg (a : RegAddr) (ch : Nat) : RegAddr := a + 0x100000 * ch
/-- ENC_MODE.MODE of a channel. -/
def State.encMode (s : State) (ch : Nat) : Nat := s.fld (encReg R.DROVER_ENC_MODE ch) 1 0
/-- ENC_SCALE of a channel. -/
def State.encScale (s : State) (ch : Nat) : Nat := s.rd (encReg R.DROVER_ENC_SCALE ch)

/-- A channel's part of a sample. -/
def chanIn (m : Sample) : Nat → ChanIn
  | 0 => m.c0 | 1 => m.c1 | 2 => m.c2 | _ => m.c3

/-- The place of the levels of A and B in a quadrature period: A leading B counts up (DESIGN CHOICE, log entry 169). -/
def quadAt : Bool × Bool → Nat
  | (false, false) => 0 | (true, false) => 1 | (true, true) => 2 | (false, true) => 3

/-- One count per edge of A or B (R250). -/
def Enc.takeAb (e : Enc) (p : Bool × Bool) : Enc :=
  let step : Int := match e.ab.map (fun q => (quadAt p + 4 - quadAt q) % 4) with | some 1 => 1 | some 3 => -1 | _ => 0
  { e with ab := some p, count := e.count + step }

/-- A sample of SIN and COS with the encoder record applied; none in use leaves it as it is (R539, R544). -/
def encCorrect (cal : List Byte) (p : BitVec 14 × BitVec 14) : Int × Int :=
  if leAt cal 12 4 % 2 = 0 then (p.1.toInt, p.2.toInt)
  else
    let s := p.1.toInt - signedOf 16 (leAt cal 0 2)
    let c := rhe ((p.2.toInt - signedOf 16 (leAt cal 2 2)) * leAt cal 4 2) 32768
    (s, c - rhe (s * signedOf 16 (leAt cal 6 2)) 32768)

/-- The phase of a corrected sample in counts, 4,096 to the period: the quadrant from the signs, the place in it interpolated (R250; log
entry 170). -/
def encPhaseOf (s c : Int) : Nat :=
  let part := fun (u v : Int) => if v = 0 then 0 else Config.encPhase u.natAbs v.natAbs % 1024
  if c > 0 ∧ s ≥ 0 then part c s else if s > 0 then 1024 + part s (-c) else if c < 0 then 2048 + part (-c) (-s) else 3072 + part (-s) c

/-- The step between two phases, the shorter way. -/
def phaseStep (old new : Nat) : Int :=
  let d := (new + 4096 - old) % 4096
  if d < 2048 then d else (d : Int) - 4096

/-- A sample of SIN and COS: the count follows the phase (R250, R544). -/
def Enc.takeSc (cal : List Byte) (e : Enc) (p : BitVec 14 × BitVec 14) : Enc :=
  let q := encCorrect cal p
  let f := encPhaseOf q.1 q.2
  { e with phase := some f, count := e.count + (match e.phase with | some o => phaseStep o f | none => 0) }

/-- What the pins of a channel brought, taken in its mode (R250, R252). -/
def State.take (s : State) (ch : Nat) (m : ChanIn) : State :=
  let e := s.enc ch
  match s.encMode ch with
  | 1 => s.setEnc ch (m.ab.foldl Enc.takeAb e)
  | 2 => s.setEnc ch (m.sc.foldl (Enc.takeSc (kget (fun _ => []) s.drover.cals ch)) e)
  | 3 => s.setEnc ch { e with sinceNs := m.sinceNs }
  | _ => s

/-- A sample taken on every channel that is not lost. -/
def State.see (s : State) (m : Sample) : State :=
  [0, 1, 2, 3].foldl (fun s ch => if (s.enc ch).lost then s else s.take ch (chanIn m ch)) s

/-- The position of a channel (R251), 48-bit two's complement (R250), with the offset of R288; between the words of a serial channel
extrapolated from the last two (R252; rounded down: DESIGN CHOICE, log entry 171). -/
def State.encPos (s : State) (ch : Nat) : Int :=
  let e := s.enc ch
  let at_ := fun (count : Int) => (count * s.encScale ch).fdiv 16777216
  let p := at_ e.count
  let ahead := match s.encMode ch, e.words with
    | 3, [w1, w0] => ((at_ w1 - at_ w0) * e.sinceNs).fdiv (s.fld (encReg R.DROVER_ENC_WORD ch) 15 0 : Nat)
    | _, _ => 0
  if s.encScale ch = 0 then 0 else signedOf 48 (lowBits 48 (p + ahead + e.off))

/-- The channels that SOURCE names: main, auxiliary, X (R261). -/
def rolesOf (src : Nat) : List Nat :=
  fieldOf src 1 0 :: ((if fieldOf src 6 6 = 1 then [fieldOf src 5 4] else []) ++ (if fieldOf src 10 10 = 1 then [fieldOf src 9 8] else []))

/-- A channel needs a reference and has none (R288). -/
def State.unreferenced (s : State) (ch : Nat) : Bool := (s.enc ch).unref && s.encMode ch ≠ 3

/-- ENC_Z_EDGE (R255, R288): the count as it stands at the edge; an incremental channel counts again from its reference. -/
def execEncZEdge (ch : Nat) (inp : ChanIn) (s : State) : Host.Outcome State Fault Refusal :=
  if ch > 3 ∨ s.encMode ch = 3 ∨ s.encMode ch = 0 then .next s
  else
    let s1 := s.take ch inp
    let e := s1.enc ch
    let s2 := if e.unref then s1.setEnc ch { e with unref := false, lost := false, off := e.off + ((e.stripeRef.getD (s1.encPos ch)) - s1.encPos ch) }
      else s1
    .next (s2.setEnc ch { s2.enc ch with zref := some (s2.encPos ch) })

/-- DETECT (R254). -/
def execDetect (o : Origin) (v : Nat) (s : State) : Host.Outcome State Fault Refusal :=
  .next (s.act o R.DROVER_DETECT v (fun s =>
    if fieldOf v 0 0 = 0 then s
    else
      let s1 := { s with drover := { s.drover with detecting := true } }
      [0, 1, 2, 3].foldl (fun s ch => s.setEnc ch { s.enc ch with detDone := false, detected := 0 }) s1))

/-- DETECT_DONE: the mode found on each channel; a serial answer whose loop delay passes 2 SCLK periods is none (R254, R655). -/
def execDetectDone (modes loopNs : List Nat) (s : State) : Host.Outcome State Fault Refusal :=
  if !s.drover.detecting then .next s
  else
    let s1 := { s with drover := { s.drover with detecting := false } }
    .next ([0, 1, 2, 3].foldl (fun s ch =>
      let m := modes.getD ch 0 % 4
      let loop := loopNs.getD ch 0
      let far := m = 3 ∧ loop * s.fld (encReg R.DROVER_ENC_MODE ch) 20 16 > 2000
      s.setEnc ch { s.enc ch with detDone := true, detected := if far then 0 else m, loopNs := loop }) s1)

/-! ### Gearing -/

/-- eff of R262 for a trim. -/
def effRatio (trim : Int) (ratio : Nat) : Nat := ((ratio : Int) + rhe (ratio * trim) 1024000000).toNat

/-- Where the gearing of a stripe stands (R263). -/
structure Gear where
  baseT : Int
  baseY : Int
  ratio : Nat
  zoneNext : Nat
  deriving DecidableEq, Repr

/-- POS of a zone (R264). -/
def zonePos (t : List Byte) (i : Nat) : Int := signedOf 48 (leAt t (16 * i) 6)
/-- RATIO of a zone. -/
def zoneRatio (t : List Byte) (i : Nat) : Nat := leAt t (16 * i + 8) 6

/-- The zone loop of R263 for at most n zones. -/
def Gear.advance (zones : Nat) (tab : List Byte) (trim t : Int) : Nat → Gear → Gear
  | 0, g => g
  | n + 1, g =>
    if g.zoneNext < zones ∧ t ≥ zonePos tab g.zoneNext then
      let p := zonePos tab g.zoneNext
      Gear.advance zones tab trim t n ⟨p, g.baseY + (g.ratio * (p - g.baseT)).fdiv 64, effRatio trim (zoneRatio tab g.zoneNext), g.zoneNext + 1⟩
    else g

/-- y of R263, in Q.32 rows. -/
def Gear.y (g : Gear) (t : Int) : Int := g.baseY + (g.ratio * (t - g.baseT)).fdiv 64

/-- The gearing settings read from registers, written or in force (R261 to R264). -/
structure Gearing where
  src : Nat
  origin : Int
  ratio : Nat
  trim : Int
  zones : Nat

/-- The settings by a way of reading registers. -/
def Gearing.of (rd : RegAddr → Nat) : Gearing :=
  { src := rd R.DROVER_SOURCE, origin := signedOf 48 (rd R.DROVER_GEAR_ORIGIN_L + 2 ^ 32 * rd R.DROVER_GEAR_ORIGIN_H),
    ratio := rd R.DROVER_GEAR_RATIO_L + 2 ^ 32 * (rd R.DROVER_GEAR_RATIO_H % 65536),
    trim := signedOf 24 (rd R.DROVER_GEAR_TRIM),
    zones := if fieldOf (rd R.DROVER_ZONE_CTRL) 16 16 = 1 then fieldOf (rd R.DROVER_ZONE_CTRL) 6 0 else 0 }

/-- The settings in force. -/
def State.gearing (s : State) : Gearing := Gearing.of s.inForce
/-- The zone table. -/
def State.zoneTable (s : State) : List Byte := kget (fun _ => []) s.dtabs 0x0E00

/-- The travel of a position (R261). -/
def Gearing.travel (g : Gearing) (dir : Nat) (pos : Int) : Int :=
  (if fieldOf g.src 16 16 ≠ dir then -1 else 1) * (pos - g.origin)

/-- The gearing at a stripe's start, advanced to a travel, and y there (R263, R272). -/
def State.startGear (s : State) (g : Gearing) (dir : Nat) (pos : Int) : Gear × Int :=
  let t := g.travel dir pos
  let k := Gear.advance g.zones s.zoneTable g.trim t 64 ⟨0, 0, effRatio g.trim g.ratio, 0⟩
  (k, k.y t)

/-- The position that stands for the main travel: main, or aux + o_s after a takeover (R286). -/
def State.mainPos (s : State) : Int :=
  let src := s.gearing.src
  if s.drover.aux then s.encPos (fieldOf src 5 4) + s.drover.oS else s.encPos (fieldOf src 1 0)

/-- The gearing of the stripe as it stands. -/
def Drover.gear (d : Drover) : Gear := ⟨d.baseT, d.baseY, d.ratio, d.zoneNext⟩

/-- y_peak and the gearing are noted, at a stripe's start and at each strobe (R289). -/
def Drover.note (d : Drover) : Drover :=
  { d with markPeak := d.yPeak, markT := d.baseT, markY := d.baseY, markRatio := d.ratio, markZone := d.zoneNext }
/-- y_peak and the gearing of the held flash, the last to strobe (R289, R473). -/
def Drover.atHeld (d : Drover) : Drover :=
  { d with yPeak := d.markPeak, baseT := d.markT, baseY := d.markY, ratio := d.markRatio, zoneNext := d.markZone }
/-- Drover's state at the held flash put back (R289). -/
def State.rewindDrover (s : State) : State := { s with drover := s.drover.atHeld }

/-- The demand of R265. -/
def Drover.demand (d : Drover) : Int := d.y.fdiv 16777216 - 256 * d.k - 128

/-- DEMAND shown: the largest |d| since ERR_CLEAR, and d. -/
def State.showDemand (s : State) : State :=
  let d := s.drover.demand
  ((s.maxFld R.DROVER_DEMAND 27 16 d.natAbs).setFld R.DROVER_DEMAND 11 0 (lowBits 12 d))

/-- Zones, y and the demand from the positions (R263, R265, R290). -/
def State.locate (s : State) (x : Stripe) : State :=
  let g := s.gearing
  let t := g.travel x.srec.dir s.mainPos
  let k := Gear.advance g.zones s.zoneTable g.trim t 64 s.drover.gear
  let s1 := { s with drover := { s.drover with baseT := k.baseT, baseY := k.baseY, ratio := k.ratio, zoneNext := k.zoneNext, y := k.y t } }
  (s1.setFld R.DROVER_ZONE_CTRL 30 24 k.zoneNext).showDemand

/-- A sample under a stripe. y_peak is left to the caller. -/
def State.sample (s : State) (x : Stripe) (m : Sample) : State := (s.see m).locate x

/-- y_peak takes y where it is larger (R283). -/
def State.peak (s : State) : State := { s with drover := { s.drover with yPeak := max s.drover.yPeak s.drover.y } }

/-- HYST in Q.32 rows: steps of 2/256 row (R267, R283). -/
def State.hyst (s : State) : Int := 2 * (max (fieldOf (s.inForce R.DROVER_BAND) 15 12) s.age.hystIn : Nat) * 16777216

/-! ### The deflection link -/

/-- The deflection link is down (R279). -/
def State.deflDown (s : State) : Bool :=
  !s.enabled 16 || !s.drover.pll || !s.drover.aligned || s.fld R.DEFL_PEER_FAULT 0 0 = 1

/-- Hold is forced while the link is down at a standstill (R282, R295). -/
def State.fallback (s : State) : State := if s.deflDown then s.setFld R.DROVER_STANDSTILL 1 1 1 else s

/-- Flashes cut, so that they are never confirmed (R258). -/
def State.cutFlashes (s : State) (l : List Nat) : State :=
  { s with drover := { s.drover with cut := l.filter (fun i => s.drover.unconfirmed.contains i && !s.drover.cut.contains i) ++ s.drover.cut } }

/-- The deflection link has gone down (R279, R282, R675): `inWindow` where the dose window of the last flash is open. -/
def State.linkLost (s : State) (inWindow : Bool) : State :=
  let a : RecArg := { code := Code.DEFL_LINK_LOST, cls := 2 }
  match s.drover.st with
  | 3 => s.fallback
  | 4 => s.fallback
  | 1 => s.contain a false
  | 2 => (if inWindow then s.cutFlashes [s.drover.lastIndex] else s).contain a inWindow
  | _ => s.record { a with cls := 1 }

/-! ### Rates and pace -/

/-- The field-lead ceiling (R22). -/
def State.fieldCeil (s : State) : Nat :=
  match s.active with
  | none => s.maxRate
  | some x =>
    if x.lead ≥ 2048 then s.maxRate
    else max (16 * fieldOf (s.inForce R.THERM_FLOOR) 6 0) (1600 * x.lead / 2048) * s.maxRate / 1600

/-- The lowest ceiling of the sources of R268. -/
def State.ceilKhz (s : State) : Nat :=
  min (min s.maxRate s.maxFlash) (min (s.fld R.THERM_CEILING 20 0) s.fieldCeil)

/-- The row rate of the commanded velocity (R309), from a velocity in 2^-32 u per tick. -/
def rowRate (v : Int) (ratio : Nat) : Nat := (v.natAbs / 65536 * 1000 * ratio) / 2 ^ 54

/-- R_lim: a raised ceiling at once; a lowered one no faster than the row rate that the generator reports, before its ramp begins and while it
runs (R268, R309). -/
def State.rLim (s : State) : Nat :=
  let c := s.ceilKhz
  let ramping := s.fld R.PROFILE_CFG 1 0 ≠ 0 ∧ (s.profile.phase = 2 ∨ s.profile.phase = 3)
  if c ≥ s.drover.limKhz ∨ ¬ ramping then c else max c (min s.drover.limKhz (rowRate s.profile.y.v s.drover.ratio))

/-- The pace request of R269 at a strobe whose lag is given; it ends at a strobe with no lag (R293). -/
def State.pace (s : State) (lim lag : Nat) : State :=
  let l := s.drover.rate16
  let rate := if l.sum = 0 then 0 else l.length * 1000000000 / l.sum
  let s1 := (s.wr R.DROVER_RATE_NOW (rate % 2 ^ 21)).wr R.DROVER_RATE_LIM lim
  if 10 * rate > 9 * lim then
    let c := lim - lim / 10 * min lag 512 / 512
    let s2 := ((s1.wr R.DROVER_PACE (2 ^ 31 + c)).setFld R.DROVER_STATE 9 9 1)
    let s3 := { s2 with drover := { s2.drover with paceCeil := some c, paceSent := true } }
    if s.drover.paceSent then s3
    else s3.record { code := Code.DROVER_PACE, cls := 0, stripe := s.active.bind Stripe.who }
  else if lag = 0 then
    let s2 := (s1.wr R.DROVER_PACE 0).setFld R.DROVER_STATE 9 9 0
    { s2 with drover := { s2.drover with paceCeil := none } }
  else s1

/-! ### Firing -/

/-- The last strobe lies at least 1/R_lim in the past; before any strobe of the power-up there is nothing to wait for. -/
def State.rateAllows (s : State) (sincePs : Nat) : Bool := !s.drover.strobedEver || decide (sincePs * s.rLim ≥ 1000000000)

/-- The first flash of a run waits until the frames of its first L flashes have been sent or withheld (R674). -/
def State.firstSent (s : State) (x : Stripe) : Bool :=
  !s.runFresh x || s.flink.frames.all (fun f => !(f.ord = x.ord && decide ((f.flash : Int) ≤ s.drover.k + s.leadL)) || f.sent || f.withheld)

/-- The delay of a strobe pin in ps, 625 ps steps and 4 ps steps (R266, R296). -/
def State.stbDelay (s : State) (a : RegAddr) : Nat := 625 * s.fld a 17 8 + 4 * s.fld a 7 0

/-- A strobe fires on both pins, each with its delay in ps: k and the flash index advance, and the Y set-point of the moment is kept (R9, R266, R316). -/
def State.strobe (s : State) (x : Stripe) : State :=
  let f := (s.drover.k + 1).toNat
  let i := x.flashBase + f
  let d := s.drover
  let s1 := { s with drover := { d.note with k := f, lastIndex := i, strobedEver := true, unconfirmed := i :: d.unconfirmed } }
  let s1 := (List.range 64).foldl State.boundaryOf s1
  let s2 := { s1 with flink := { s1.flink with strobed := (i :: s1.flink.strobed).take 16 } }
  let s3 := { s2 with flink := { s2.flink with frames := s2.flink.frames.filter (fun g => !(g.closed && decide (g.index + 16 < i))) } }
  let s4 := { s3 with profile := { s3.profile with pH := s3.profile.y.p / 4294967296 } }
  (s4.wr64 R.DROVER_FLASH_L i).emit (.strobe i (s4.stbDelay R.DROVER_STB_DELAY0) (s4.stbDelay R.DROVER_STB_DELAY1))

/-- Frames of a flash that were not sent in time are withheld (R224). -/
def State.withholdLate (s : State) (x : Stripe) (f : Nat) : State :=
  (s.flink.frames.filter (fun g => g.ord = x.ord && g.flash = f && !g.sent && !g.withheld)).foldl State.withhold s

/-- The stripe's last flash has fired: it drains, and Drover leaves it (R437). -/
def State.lastFired (s : State) (x : Stripe) : State :=
  if s.drover.k < x.lastFlash then s
  else ((s.modStripe x (fun t => { t with st := .draining })).droverTo 0).showStripes

/-- The stripe's last flash has fired with a CHECKPOINT waiting: no flash is left to contain it at, so that the command finds
no writing stripe, and an abort that waited behind it acts on the draining stripe (R440, R451). -/
def State.missedCkpt (s : State) (x : Stripe) : State :=
  let s1 := s.modStripe x (fun t => { t with ckptCmds := [], aborting := t.aborts ≠ [], aborts := t.aborts.map (fun a => (a.1, 3)) })
  (x.ckptCmds.foldl (fun s c => s.fail c Code.HOST_NOT_WRITING) s1).endIfDone x.ord

/-- What waits for a strobe: a CHECKPOINT (R440), a CONTAIN of the group (R603), a SYSREF slip (R278). -/
def State.afterStrobe (s : State) (x : Stripe) : State :=
  let s1 := if s.drover.slipPending then
      ({ s with drover := { s.drover with slipPending := false } }).contain { code := Code.DEFL_SYSREF_SLIP, cls := 2 } else s
  match s1.byOrd x.ord with
  | none => s1
  | some y =>
    let s2 := s1.modStripe y (fun t => { t with peer := false })
    if y.ckptCmds = [] then if y.peer then s2.contain { code := Code.IVDON_GROUP_CONTAIN, cls := 2 } else s1
    else if y.st = StripeSt.draining then s2.missedCkpt y
    else s2.contain { code := Code.HOST_CHECKPOINT, cls := 2 }

/-- A flash fired at a demand, the previous strobe some picoseconds ago (R266, R269, R272). -/
def State.fire (s : State) (x : Stripe) (sincePs : Nat) : State :=
  let lag := (s.drover.demand - fieldOf (s.inForce R.DROVER_BAND) 8 0).toNat
  let fresh := s.runFresh x
  let lim := s.rLim
  let d := s.drover
  let xch := fieldOf s.gearing.src 9 8
  let s1 := { s with drover := { d with limKhz := lim, rate16 := if fresh then [] else (sincePs :: d.rate16).take 15,
                                        gaps := (sincePs :: d.gaps).take 15,
                                        xRef := if d.k + 1 = x.firstRow then s.encPos xch else d.xRef } }
  let s2 := (s1.strobe x).withholdLate x (d.k + 1).toNat
  let s3 := (if d.st = 1 then s2.droverTo 2 else s2).pace lim lag
  ((s3.showDemand).lastFired x).afterStrobe x

/-- A resumed stripe writes again once flash h + 1 fires (R452, R477). -/
def State.resumed (s : State) (x : Stripe) : State :=
  ((s.modStripe x (fun t => { t with st := .writing, ckpt := 0 })).setFld R.SYS_CKPT_STATE 3 0 0).showStripes

/-- The demand is past 3 rows in TRACK, or past 4 in REWIND within the window of flash k (R270, R283). -/
def State.tooFar (s : State) (inWindow : Bool) : Bool :=
  let d := s.drover.demand.natAbs
  (s.drover.st = 2 && decide (d > 768)) || (s.drover.st = 4 && inWindow && decide (d > 1024))

/-- DROVER_OVERSPEED contains the stripe at flash k; in REWIND that flash is cut (R270, R283). -/
def State.overspeed (s : State) : State :=
  (if s.drover.st = 4 then s.cutFlashes [s.drover.lastIndex] else s).contain { code := Code.DROVER_OVERSPEED, cls := 2 }

/-- A sample under a stripe, y_peak kept and the demand tested (R270, R283). -/
def State.sampled (s : State) (x : Stripe) (m : Sample) (inWindow : Bool) : State :=
  let s1 := (s.sample x m).peak
  if s1.tooFar inWindow then s1.overspeed else s1

/-- FLASH_FIRE (R266): with its share cycle not computed, the stripe is contained instead (R187), as it is past 3 rows (R270). -/
def execFlashFire (smp : Sample) (sincePs : Nat) (s : State) : Host.Outcome State Fault Refusal :=
  match s.sending with
  | none => .next s
  | some x =>
    if s.drover.st ≠ 1 ∧ s.drover.st ≠ 2 then .next s
    else
      let s1 := (s.sample x smp).peak
      if s1.tooFar false then .next s1.overspeed
      else if s1.drover.ramping ∨ s1.drover.demand < fieldOf (s.inForce R.DROVER_BAND) 8 0 ∨ !s1.rateAllows sincePs ∨ !s1.firstSent x
      then .next s1
      else if (x.nextCycle : Int) ≤ s.drover.k + 1 then .next (s1.contain { code := Code.SHEPHERD_CYCLE_OVERRUN, cls := 2, stripe := x.who })
      else .next ((if x.st = StripeSt.contained then s1.resumed x else s1).fire x sincePs)

/-- ZONE_BOUNDARY (R263). -/
def execZoneBoundary (smp : Sample) (s : State) : Host.Outcome State Fault Refusal :=
  match s.active with
  | none => .next s
  | some x => .next (if s.drover.st = 0 ∨ s.drover.st = 5 then s.see smp else s.sampled x smp false)

/-- A flash confirmed, or cut (R258, R231). -/
def State.confirmFlash (s : State) (i : Nat) : State :=
  let s1 := if s.drover.cut.contains i then
      (s.flink.frames.filter (fun f => f.index = i && f.sent && !f.withheld && !f.cut)).foldl (fun s f => s.cutFrame f) s
    else s
  let s2 := s1.modFrames (fun f => if f.index = i then { f with confirmed := true } else f)
  { s2 with drover := { s2.drover with unconfirmed := s2.drover.unconfirmed.filter (· ≠ i), cut := s2.drover.cut.filter (· ≠ i) } }

/-- FLASH_CONFIRM. -/
def execFlashConfirm (flash : Nat) (s : State) : Host.Outcome State Fault Refusal :=
  .next (if s.drover.unconfirmed.contains flash then s.confirmFlash flash else s)

/-- DROVER_OVERSPEED (R270), or a demand past 1,024 in REWIND before the window of flash k ends (R283). -/
def execDroverOverspeed (smp : Sample) (inWindow : Bool) (s : State) : Host.Outcome State Fault Refusal :=
  match s.active with
  | none => .next s
  | some x => .next (if s.drover.st = 0 ∨ s.drover.st = 5 then s.see smp else s.sampled x smp inWindow)

/-! ### Losses of position -/

/-- A channel is lost: an incremental count is void (R256, R288). -/
def State.loseChannel (s : State) (ch cause : Nat) : State :=
  (s.setEnc ch { s.enc ch with lost := true, unref := (s.enc ch).unref || s.encMode ch ≠ 3 }).wr R.DROVER_LOSS_CAUSE (ch * 256 + cause)

/-- The auxiliary channel is eligible (R286). -/
def State.auxEligible (s : State) (l : Loss) : Bool :=
  let src := s.gearing.src
  fieldOf src 6 6 = 1 && !(s.enc (fieldOf src 5 4)).lost && decide (l.drift ≤ 320)

/-- DROVER_FREEZE_CUT where a loss cuts flashes (R285, R286). -/
def State.freezeCut (s : State) (cuts : List Nat) : State :=
  if cuts = [] then s else s.record { code := Code.DROVER_FREEZE_CUT, cls := 2, stripe := s.checking.bind Stripe.who }

/-- The auxiliary channel takes over, with o_s of the onset sample (R286). -/
def State.takeOver (s : State) : State :=
  let src := s.gearing.src
  let oS := s.encPos (fieldOf src 1 0) - s.encPos (fieldOf src 5 4)
  let s1 := { s with drover := { s.drover with aux := true, oS } }
  (s1.setFld R.DROVER_STATE 8 8 1).record { code := Code.DROVER_AUX_TAKEOVER, cls := 1, stripe := s.active.bind Stripe.who }

/-- How long before a time the strobe of a flash lies, the last strobe `ps` before it. -/
def Drover.ageOf (d : Drover) (ps i : Nat) : Nat := ps + (d.gaps.take (d.lastIndex - i)).sum

/-- DOSE_WINDOW in ps. -/
def State.dosePs (s : State) : Nat := 1000 * s.fld R.DROVER_DOSE_WINDOW 9 0

/-- The onset, as the time before the detection: the last valid sample, and for a freeze the last change of position, LOSS_TIME ago
(R257). -/
def State.onsetAge (s : State) (cause : Nat) (l : Loss) : Nat :=
  if cause = 8 then 1000000 * s.fld R.DROVER_LOSS_TIME 3 0 else l.agePs

/-- The flashes not yet confirmed whose dose window ends after the onset (R258). -/
def State.cutBy (s : State) (cause : Nat) (l : Loss) : List Nat :=
  s.drover.unconfirmed.filter (fun i => decide (s.drover.ageOf l.strobePs i < s.dosePs + s.onsetAge cause l))

/-- The positions of the onset sample; under a stripe that is tracked, y and the demand (R263, R286). -/
def State.atOnset (s : State) (l : Loss) : State :=
  match s.active with
  | some x => if s.drover.st = 0 ∨ s.drover.st = 5 then s.see l.onset else (s.sample x l.onset).peak
  | none => s.see l.onset

/-- A loss of a channel (R28, R258, R285 to R287, R291): one in use cuts flashes whatever Drover does; while a stripe drains, or is held, it is
recorded only (R471, R675). -/
def State.loss (s : State) (ch cause : Nat) (l : Loss) : State :=
  let src := s.gearing.src
  let cuts := if (rolesOf src).contains ch then s.cutBy cause l else []
  let inWindow := decide (l.strobePs < s.dosePs) && s.drover.unconfirmed.contains s.drover.lastIndex
  let a : RecArg := { code := Code.DROVER_POS_LOSS, cls := 2, lk := 8, l0 := ch, l1 := cause }
  let s1 := ((s.atOnset l).cutFlashes cuts).loseChannel ch cause
  let main := if s.drover.aux then fieldOf src 5 4 else fieldOf src 1 0
  let used := ch = main ∨ (fieldOf src 10 10 = 1 ∧ ch = fieldOf src 9 8)
  if !decide used then s1.freezeCut cuts
  else if s.active.isNone ∨ s.drover.st = 0 then
    (if s.stripes.any (fun t => t.st = .draining) then s1.contain a else s1).freezeCut cuts
  else if s.drover.st = 5 then (s1.contain a).freezeCut cuts
  else if ch = fieldOf src 1 0 ∧ !s.drover.aux ∧ s.auxEligible l then s1.takeOver.freezeCut cuts
  else (s1.contain a inWindow).freezeCut cuts

/-- The criteria of R256 that a channel's mode allows, as LOSS_CAUSE values. -/
def causeOk (mode cause : Nat) : Bool :=
  match mode with
  | 1 => cause = 1 || cause = 2
  | 2 => cause = 3 || cause = 4
  | 3 => cause = 5 || cause = 6 || cause = 9
  | _ => false

/-- POSITION_LOSS (R256, R285). -/
def execPositionLoss (ch cause : Nat) (l : Loss) (s : State) : Host.Outcome State Fault Refusal :=
  if ch > 3 ∨ (s.enc ch).lost ∨ !causeOk (s.encMode ch) cause ∨ s.fatal ≠ 0 then .next s else .next (s.loss ch cause l)

/-- The set-point of a channel's axis moves more than 2 counts in LOSS_TIME (R256). -/
def State.setpointMoves (s : State) (ch : Nat) : Bool :=
  let src := s.gearing.src
  let ax := if fieldOf src 10 10 = 1 ∧ ch = fieldOf src 9 8 then s.profile.x else s.profile.y
  decide (ax.v.natAbs * s.fld R.DROVER_LOSS_TIME 3 0 > 2 * s.encScale ch * 256)

/-- ENC_FREEZE (R256, the last criterion). -/
def execEncFreeze (ch : Nat) (l : Loss) (s : State) : Host.Outcome State Fault Refusal :=
  if ch > 3 ∨ (s.enc ch).lost ∨ s.encMode ch = 0 ∨ !s.setpointMoves ch ∨ s.fatal ≠ 0 then .next s else .next (s.loss ch 8 l)

/-- ENC_WORD_SILENT (R256). -/
def execEncWordSilent (ch : Nat) (l : Loss) (s : State) : Host.Outcome State Fault Refusal :=
  if ch > 3 ∨ (s.enc ch).lost ∨ s.encMode ch ≠ 3 ∨ s.fatal ≠ 0 then .next s else .next (s.loss ch 7 l)

/-- Bits sent most significant first, as a number. -/
def bitsMsb (l : List Bool) : Nat := l.foldl (fun v b => 2 * v + (if b then 1 else 0)) 0

/-- A serial word (R252): POS and WARN, or the LOSS_CAUSE value of what is wrong with it, the check first (R256). -/
def serialWord (posBits : Nat) (w : List Bool) : Except Nat (Nat × Bool) :=
  match w with
  | true :: rest =>
    let body := rest.take (posBits + 2)
    let chk := crc16ibm.width
    if rest.length ≠ posBits + 18 ∨ Nat.xor (body.foldl crc16ibm.bit crc16ibm.init) crc16ibm.final ≠ bitsMsb ((rest.drop (posBits + 2)).take chk)
    then .error 5
    else if rest.getD 0 false then .error 6
    else .ok (bitsMsb (body.drop 2), rest.getD 1 false)
  | _ => .error 9

/-- ENC_SERIAL_WORD: the count is POS in two's complement of POS_BITS (DESIGN CHOICE, log entry 26); a valid word ends a
loss. -/
def execEncSerialWord (ch : Nat) (bits : List Bool) (l : Loss) (s : State) : Host.Outcome State Fault Refusal :=
  if ch > 3 ∨ s.encMode ch ≠ 3 ∨ s.fatal ≠ 0 then .next s
  else
    let n := s.fld (encReg R.DROVER_ENC_MODE ch) 13 8
    match serialWord n bits with
    | .error c => .next (if (s.enc ch).lost then s.wr R.DROVER_LOSS_CAUSE (ch * 256 + c) else s.loss ch c l)
    | .ok (p, warn) =>
      let e := s.enc ch
      let c := signedOf n p
      .next (s.setEnc ch { e with count := c, words := if e.lost then [c] else c :: e.words.take 1, sinceNs := 0, lost := false, warn := e.warn || warn })

/-! ### Standstill and rewind -/

/-- Beams shaded at a standstill, outputs by STANDSTILL.MODE (R280, R282). -/
def State.standstill (s : State) (st : Nat) : State := ((s.droverTo st).shadeOn false).fallback

/-- STILL_ENTRY (R280). -/
def execStillEntry (s : State) : Host.Outcome State Fault Refusal :=
  if s.sending.isNone ∨ s.drover.st ≠ 2 then .next s
  else .next ({ s with drover := { s.drover with yStill := s.drover.y } }.standstill 3)

/-- Park mode: the outputs ramp (R280, R281). -/
def State.parks (s : State) : Bool := s.fld R.DROVER_STANDSTILL 0 0 = 0 && s.fld R.DROVER_STANDSTILL 1 1 = 0

/-- Back to TRACK: SHADE off names flash k + 1; from park the outputs ramp back first (R281, R284). -/
def State.track (s : State) : State :=
  let s1 := { s with drover := { s.drover with ramping := s.parks } }
  (s1.droverTo 2).shadeOff s.nextIndex

/-- The exit from a standstill; with the link down the stripe is contained (R282). -/
def State.leaveStill (s : State) : State :=
  if s.deflDown then s.contain { code := Code.DEFL_LINK_LOST, cls := 2 } else s.track

/-- STILL_EXIT (R281). -/
def execStillExit (smp : Sample) (s : State) : Host.Outcome State Fault Refusal :=
  match s.sending with
  | none => .next s
  | some x =>
    if s.drover.st ≠ 3 then .next s
    else
      let s1 := s.sample x smp
      .next (if s1.drover.y ≥ s1.drover.yStill + s1.hyst then s1.peak.leaveStill else s1.peak)

/-- REWIND_GUARD (R283), after the test of R270. -/
def execRewindGuard (smp : Sample) (s : State) : Host.Outcome State Fault Refusal :=
  match s.sending with
  | none => .next s
  | some x =>
    if s.drover.st ≠ 2 ∧ s.drover.st ≠ 3 then .next s
    else
      let s1 := s.sample x smp
      .next (if s1.tooFar false then s1.peak.overspeed else if s1.drover.y < s1.drover.yPeak - s1.hyst then
          (s1.standstill 4).record { code := Code.DROVER_REWIND, cls := 1, stripe := x.who } else s1.peak)

/-- The frames of a resumed run's first L flashes have been sent or withheld (R477 step 5, R478). -/
def State.resumeSent (s : State) (x : Stripe) : Bool :=
  s.flink.frames.all (fun f => !(f.ord = x.ord && decide ((f.flash : Int) > s.drover.k ∧ (f.flash : Int) ≤ s.drover.k + s.leadL)) || f.sent || f.withheld)

/-- REWIND_EXIT (R284, R478). -/
def execRewindExit (smp : Sample) (s : State) : Host.Outcome State Fault Refusal :=
  match s.active with
  | none => .next s
  | some x =>
    let again := x.st = StripeSt.contained
    if s.drover.st ≠ 4 ∨ (again ∧ (x.ckpt ≠ 5 ∨ !s.resumeSent x)) then .next s
    else
      let s1 := s.sample x smp
      if s1.drover.y < s1.drover.yPeak then .next s1
      else .next s1.peak.leaveStill

/-! ### Starting a stripe -/

/-- y under the settings a new stripe would bring into force lies before its first row (R272, R444). -/
def State.startsBefore (s : State) (x : Stripe) : Bool :=
  let g := Gearing.of s.rd
  decide ((s.startGear g x.srec.dir (s.encPos (fieldOf g.src 1 0))).2 < x.firstRow * 4294967296)

/-- Drover at a stripe boundary, with its RWB settings brought into force (R255, R263, R265, R273, R286, R444). -/
def State.startDrover (s : State) (x : Stripe) : State :=
  let s2 := [0, 1, 2, 3].foldl (fun (s : State) ch =>
    match (s.enc ch).zref with
    | some z => s.setEnc ch { s.enc ch with stripeRef := some z }
    | none => s) s
  let src := s2.gearing.src
  let r := s2.startGear s2.gearing x.srec.dir (s2.encPos (fieldOf src 1 0))
  let o := s2.encPos (fieldOf src 1 0) - s2.encPos (fieldOf src 5 4)
  let bank := fieldOf (s2.inForce R.DEFL_BANK) 0 0
  let d := s2.drover
  let s3 := { s2 with drover := { d with k := (x.firstRow : Int) - 1, y := r.2, yPeak := r.2, baseT := r.1.baseT, baseY := r.1.baseY,
                                         ratio := r.1.ratio, zoneNext := r.1.zoneNext, o, oS := 0, aux := false, paceSent := false,
                                         paceCeil := none, rate16 := [], bank, ramping := false, slipPending := false, cut := [] }.note }
  let s4 := ((s3.setFld R.DEFL_BANK 8 8 bank).setFld R.DROVER_STANDSTILL 1 1 0).setFld R.DROVER_ZONE_CTRL 30 24 r.1.zoneNext
  let s5 := ((s4.setFld R.DROVER_STATE 9 8 0).wr R.DROVER_PACE 0).modStripe x (fun t => { t with flashBase := s.nextIndex - x.firstRow })
  s5.droverTo 1

/-- Drover's part of RESUME: the channels referenced, the stage behind y_peak (R288, R289). -/
def State.resumeCode (s : State) (x : Stripe) : Option Nat :=
  if (rolesOf s.gearing.src).any s.unreferenced then some Code.DROVER_NO_REFERENCE
  else if (s.rewindDrover.locate x).drover.y ≥ s.drover.markPeak then some Code.DROVER_START_PAST else none

/-! ### Enable and arm checks -/

/-- C of a channel in ns (R258). -/
def State.confirmNs (s : State) (ch : Nat) : Nat :=
  let lt := 1000 * s.fld R.DROVER_LOSS_TIME 3 0
  if s.encMode ch = 3 then max lt (2 * s.fld (encReg R.DROVER_ENC_WORD ch) 15 0) else lt

/-- The rate of T_min: the lower of MAX_RATE and, once lanes are in service, FLINK.MAX_FLASH (R217). -/
def State.tminKhz (s : State) : Nat := if s.upLanes = [] then s.maxRate else min s.maxRate s.maxFlash

/-- A serial channel's ENC_WORD is shorter than the bound of R253. -/
def State.wordShort (s : State) (ch : Nat) : Bool :=
  let sclk := max 1 (s.fld (encReg R.DROVER_ENC_MODE ch) 20 16)
  s.encMode ch = 3 && decide (s.fld (encReg R.DROVER_ENC_WORD ch) 15 0 * sclk <
    1000 * (s.fld (encReg R.DROVER_ENC_MODE ch) 13 8 + 21) + (s.enc ch).loopNs * sclk)

/-- The first refusal of Drover's consistency check, with its offset (R251 to R268, R280, R297). -/
def State.droverCheck (s : State) : Option (Nat × Nat) :=
  let src := s.rd R.DROVER_SOURCE
  let roles := rolesOf src
  let dw := s.fld R.DROVER_DOSE_WINDOW 9 0
  let khz := s.tminKhz
  let band := s.rd R.DROVER_BAND
  let unconf := roles.any (fun c => s.encMode c = 0 || !(s.enc c).detDone || (s.enc c).detected ≠ s.encMode c)
  let late := roles.any (fun c => s.leadL - 1 + ceilDiv ((dw + s.confirmNs c) * khz) 1000000 > 8)
  let clash := ¬ roles.Nodup ∨ roles.any (fun c => s.encMode c = 0)
  if unconf then some (Code.DROVER_MODE_UNCONFIRMED, 0x230)
  else if fieldOf band 8 0 < 128 ∨ fieldOf band 8 0 > 255 ∨ fieldOf band 15 12 < 1 then some (Code.DROVER_BAND_RANGE, 0x114)
  else if late then some (Code.DROVER_CONFIRM_LATE, 0x11C)
  else if dw * khz > 1000000 then some (Code.DROVER_DOSE_WINDOW, 0x20C)
  else if 1000 * s.fld R.DROVER_STILL_TIME 15 0 < dw then some (Code.DROVER_DOSE_WINDOW, 0x210)
  else if clash then some (Code.DROVER_SOURCE, 0x100)
  else if s.maxRate < 1 ∨ s.maxRate > 1250 then some (Code.DROVER_RATE_RANGE, 0x128)
  else if fieldOf (s.rd R.DROVER_ZONE_CTRL) 6 0 > s.zoneTable.length / 16 then some (Code.DROVER_ZONE_COUNT, 0x12C)
  else if roles.any s.wordShort then some (Code.DROVER_WORD_SHORT, 0x23C)
  else if roles.any (fun c => s.encScale c = 0) then some (Code.DROVER_ENC_SCALE, 0x238)
  else none

/-- Drover's checks of R435 step 8. -/
def State.droverArm (s : State) : Option Nat :=
  if s.deflDown then some Code.DEFL_LINK_DOWN
  else if (rolesOf (s.rd R.DROVER_SOURCE)).any s.unreferenced then some Code.DROVER_NO_REFERENCE
  else if fieldOf (s.rd R.DROVER_ZONE_CTRL) 6 0 > s.zoneTable.length / 16 then some Code.DROVER_ZONE_COUNT else none

/-- A zone table keeps the form of R264. -/
def zoneOk (t : List Byte) : Bool :=
  let n := t.length / 16
  t.length % 16 = 0 && decide (n ≤ 64) &&
  (List.range n).all (fun i => leAt t (16 * i + 6) 2 = 0 && leAt t (16 * i + 14) 2 = 0 && (i = 0 || decide (zonePos t (i - 1) < zonePos t i)))

/-- A stripe or pass holds the zone table (R264). -/
def State.zonesHeld (s : State) : Bool := s.stripes.any (·.zoneHold)

/-- TABLE_LOAD of 0x0E00. -/
def State.loadZones (s : State) (t : List Byte) : Except Nat State :=
  if s.zonesHeld ∨ !zoneOk t then .error Code.DROVER_TABLE_FORM else .ok { s with dtabs := kput s.dtabs 0x0E00 t }

end Sys2Proof.Machine
end

