-- ==== Sys2Proof/Machine/Defl.lean ====
section
/-! DEFINITION. DEFL: the tracking tables and outputs, and the JESD204C link (R273 to R282). -/

namespace Sys2Proof.Machine

/-! ### Tables and outputs -/

/-- A tracking table of the bank in force: 0 is Y, 1 is X (R273). -/
def State.deflTab (s : State) (axis : Nat) : List Byte := kget (fun _ => []) s.drover.banks (2 * s.drover.bank + axis)

/-- Entry e of a table, entry 256 its SPAN; a table never loaded is the one of reset (R273). -/
def trackAt (t : List Byte) (e : Nat) : Int := if t = [] then 32 * e else signedOf 18 (leAt t (4 * e) 4)

/-- A table keeps the layout of R273. -/
def trackOk (t : List Byte) : Bool :=
  t.length = 1028 && (List.range 257).all (fun e => decide (((leAt t (4 * e) 4 : Nat) : Int) = (trackAt t e) % 4294967296))

/-- TABLE_LOAD of 0x1000 or 0x1001: the bank not in force (R273). -/
def State.loadTrack (s : State) (axis : Nat) (t : List Byte) : Except Nat State :=
  let b := 1 - s.drover.bank
  if !trackOk t then .error Code.DEFL_TABLE_FORM
  else if s.stripes.any (fun x => x.st = .armed ∨ x.st = .waiting) ∧ s.fld R.DEFL_BANK 0 0 = b then .error Code.DEFL_TABLE_BUSY
  else .ok { s with drover := { s.drover with banks := kput s.drover.banks (2 * b + axis) t } }

/-- GAIN of a converter by a way of reading registers. -/
def deflGain (rd : RegAddr → Nat) (c : Nat) : Int := signedOf 32 (rd (R.DEFL_GAIN_XT + 4 * c))
/-- OFFSET of a converter. -/
def deflOffset (rd : RegAddr → Nat) (c : Nat) : Int :=
  let w := rd (if c < 2 then R.DEFL_OFFSET_T else R.DEFL_OFFSET_A)
  signedOf 16 (if c % 2 = 1 then w / 65536 else w)

/-- An output before the clamp (R274). -/
def deflRaw (rd : RegAddr → Nat) (c : Nat) (v : Int) : Int := rhe (v * deflGain rd c) 65536 + deflOffset rd c

/-- The clamp of R274. -/
def clamp16 (v : Int) : Int := max (-32768) (min 32767 v)

/-- v_x and v_y without the X follower (R274): axis 0 is Y, 1 is X. -/
def trackV (t : List Byte) (d : Int) : Int := (d.fdiv 256) * trackAt t 256 + trackAt t (d % 256).toNat

/-- How far a velocity in 1/64 nm per µs carries a position in PIPE ns (R275). -/
def State.ahead (s : State) (v : Int) : Int := (v * s.fld R.DEFL_PIPE 9 0).fdiv 1000

/-- The tracking outputs of the four converters before the clamp, from the positions predicted PIPE ns ahead with the velocity estimates of the
main channel and of X, which are taken as found (R274, R275; log entry 172). -/
def State.trackOut (s : State) (x : Stripe) (vel : Int × Int) : List Int :=
  let g := s.gearing
  let t := g.travel x.srec.dir (s.mainPos + s.ahead vel.1)
  let d := ({ s.drover with y := (Gear.advance g.zones s.zoneTable g.trim t 64 s.drover.gear).y t }).demand
  let follow := if fieldOf g.src 10 10 = 1
    then rhe ((s.encPos (fieldOf g.src 9 8) + s.ahead vel.2 - s.drover.xRef) * signedOf 32 (s.inForce R.DEFL_X_FOLLOW)) 65536 else 0
  let vx := trackV (s.deflTab 1) d + follow
  let vy := trackV (s.deflTab 0) d
  [0, 1, 2, 3].map (fun c => deflRaw s.inForce c (if c % 2 = 0 then vx else vy))

/-- The outputs at their OFFSET (R280). -/
def State.parkOut (s : State) : List Int := [0, 1, 2, 3].map (fun c => clamp16 (deflOffset s.inForce c))

/-- One step of a ramp by at most SLEW codes (R280, R281). -/
def slewTo (slew : Int) (now goal : Int) : Int := if goal > now then min goal (now + slew) else max goal (now - slew)

/-- Outputs sent, with the registers that show them. -/
def State.putOut (s : State) (v : List Int) : State :=
  let s1 := { s with drover := { s.drover with out := v } }
  let w := fun i => lowBits 16 (v.getD (i + 1) 0) * 65536 + lowBits 16 (v.getD i 0)
  ((s1.wr R.DEFL_OUT_T (w 0)).wr R.DEFL_OUT_A (w 2)).emit (.converters v)

/-- Every output moved toward a goal. -/
def State.rampOut (s : State) (goal : List Int) : State :=
  s.putOut ((s.drover.out.zip goal).map (fun p => slewTo (s.fld R.DEFL_SLEW 15 0) p.1 p.2))

/-- A clamped output in a dose window: the flash is cut, the stripe contained (R276). -/
def State.saturated (s : State) : State :=
  (s.cutFlashes [s.drover.lastIndex]).contain { code := Code.DEFL_SATURATED, cls := 2 }

/-- DEFL_SATURATED. -/
def execDeflSaturated (s : State) : Host.Outcome State Fault Refusal :=
  if s.writing.isSome ∧ (s.drover.st = 2 ∨ s.drover.st = 4) then .next s.saturated else .next s

/-- A tracking sample (R274, R276, R281). -/
def State.trackSample (s : State) (x : Stripe) (vel : Int × Int) (inWindow : Bool) : State :=
  let raw := s.trackOut x vel
  let v := raw.map clamp16
  let s1 := if raw = v then s else s.inc R.DEFL_SATURATIONS
  if s1.drover.ramping then
    let s2 := s1.rampOut v
    if s2.drover.out = v then { s2 with drover := { s2.drover with ramping := false } } else s2
  else if raw ≠ v ∧ inWindow ∧ s1.writing.isSome then (s1.putOut v).saturated else s1.putOut v

/-- The outputs of a sample: tracking, a park ramp, or the last values held (R271, R280, R283). -/
def State.outputs (s : State) (x : Stripe) (vel : Int × Int) (inWindow : Bool) : State :=
  if s.drover.st = 1 ∨ s.drover.st = 2 ∨ (s.drover.st = 4 ∧ inWindow) then s.trackSample x vel inWindow
  else if s.drover.st = 0 ∨ s.parks then s.rampOut s.parkOut else s.putOut s.drover.out

/-- DEFL_OUTPUT_SAMPLE: the positions of the sample, the test of R270 and the outputs (R270, R274, R280, R283). -/
def execDeflOutputSample (smp : Sample) (vel : Int × Int) (inWindow : Bool) (s : State) : Host.Outcome State Fault Refusal :=
  if !s.enabled 16 then .next s
  else match s.active with
    | some x => .next ((if s.drover.st = 0 ∨ s.drover.st = 5 then s.see smp else s.sampled x smp inWindow).outputs x vel inWindow)
    | none => .next ((s.see smp).rampOut s.parkOut)

/-! ### The link -/

/-- SYSREF_EDGE (R278): the first edge aligns; a later one off by more than one DCLK period is a slip. -/
def execSysrefEdge (offBy : Nat) (s : State) : Host.Outcome State Fault Refusal :=
  if !s.enabled 16 then .next s
  else if !s.drover.aligned then .next { s with drover := { s.drover with aligned := true } }
  else if offBy ≤ 1 then .next s
  else
    let s1 := s.inc R.DEFL_SYSREF_SLIPS
    if s1.writing.isSome then .next { s1 with drover := { s1.drover with slipPending := true } }
    else .next (s1.record { code := Code.DEFL_SYSREF_SLIP, cls := 1 })

/-- A change that may take the link down (R279): its effect where it does. -/
def State.linkChange (s : State) (inWindow : Bool) (f : State → State) : State :=
  let s1 := f s
  if !s.deflDown ∧ s1.deflDown then s1.linkLost inWindow else s1

/-- SYSREF_ABSENT (R279). -/
def execSysrefAbsent (inWindow : Bool) (s : State) : Host.Outcome State Fault Refusal :=
  .next (s.linkChange inWindow (fun s => { s with drover := { s.drover with aligned := false } }))

/-- JESD_PLL_UNLOCK (R279). -/
def execJesdPllUnlock (inWindow : Bool) (s : State) : Host.Outcome State Fault Refusal :=
  .next (s.linkChange inWindow (fun s => { s with drover := { s.drover with pll := false } }))

/-- JESD_PLL_LOCK (R278, R279). -/
def execJesdPllLock (s : State) : Host.Outcome State Fault Refusal :=
  if s.enabled 16 then .next { s with drover := { s.drover with pll := true } } else .next s

/-- PEER_FAULT (R279, R282, R295). -/
def execPeerFault (o : Origin) (v : Nat) (inWindow : Bool) (s : State) : Host.Outcome State Fault Refusal :=
  match s.permit o R.DEFL_PEER_FAULT v with
  | .error s => .next s
  | .ok s => .next (s.linkChange inWindow (fun s => s.applyWrite o R.DEFL_PEER_FAULT v))

/-- JESD_STATUS (R279). -/
def State.jesdStatus (s : State) : Nat :=
  let on := s.enabled 16
  (if s.deflDown then 8 else 4) + (if on && s.drover.aligned then 2 else 0) + (if on && s.drover.pll then 1 else 0)

/-! ### Enable checks -/

/-- The first converter whose outputs some demand would clamp (R276). -/
def State.scaleBad (s : State) : Option Nat :=
  [0, 1, 2, 3].find? (fun c => deflGain s.rd c ≠ 0 &&
    (List.range 2048).any (fun i =>
      let v := deflRaw s.rd c (trackV (s.deflTab (if c % 2 = 0 then 1 else 0)) ((i : Int) - 1024))
      v ≠ clamp16 v))

/-- DEFL's consistency check (R276, R277). -/
def State.deflCheck (s : State) : Option (Nat × Nat) :=
  match s.scaleBad with
  | some c => some (Code.DEFL_SCALE_RANGE, 0x210 + 4 * c)
  | none =>
    let w := s.rd R.DEFL_JESD_CFG
    if fieldOf w 9 8 > 2 ∨ ¬ (fieldOf w 3 0 ∈ [1, 2, 4, 8]) then some (Code.DEFL_JESD_CFG, 0x204) else none

end Sys2Proof.Machine
end

