-- ==== Sys2Proof/Machine/Profile.lean ====
section
/-! DEFINITION. The stage profile generator (R298 to R326). The jerk of each tick comes with the command, since R300 leaves
the plan to the part within its bounds (log entry 27); every limit, phase and set-point is the model's. -/

namespace Sys2Proof.Machine

/-! ### Limits -/

/-- The offset of a limit register: V, A, J of Y, then of X (R299). -/
def limitReg (i : Nat) : RegAddr := R.PROFILE_V_MAX_Y + 4 * i
/-- The limit in force, as its register states it; a refused write leaves the one before (R313). -/
def State.limit (s : State) (i : Nat) : Nat := (kget? s.profile.limits i).getD (s.rd (limitReg i))
/-- V_MAX of an axis in 2^-32 u per tick: 0 is Y, 1 is X (R299). -/
def State.vMax (s : State) (ax : Nat) : Nat := s.limit (3 * ax) * 65536
/-- A_MAX in 2^-32 u per tick². -/
def State.aMax (s : State) (ax : Nat) : Nat := s.limit (3 * ax + 1) * 256
/-- J_MAX in 2^-32 u per tick³. -/
def State.jMax (s : State) (ax : Nat) : Nat := s.limit (3 * ax + 2)

/-- CFG.OUTPUT: with 0 the generator plans nothing (R311). -/
def State.profOut (s : State) : Nat := s.fld R.PROFILE_CFG 1 0
/-- The generator runs. -/
def State.profRuns (s : State) : Bool := s.enabled 15 && s.profOut ≠ 0

/-! ### Distances -/

/-- D_acc(v) of R302 rounded down, in the units of v. -/
def dAcc (v A J : Nat) : Nat := if v * J ≤ A * A then isqrt 100 (v * v * v / max 1 J) 0 else v * (v * J + A * A) / (2 * A * J)

/-- |distance| ≥ 2 · D_acc(v), exactly (R304). -/
def runFits (dist v A J : Nat) : Bool :=
  if v * J ≤ A * A then decide (dist * dist * J ≥ 4 * v * v * v) else decide (dist * A * J ≥ v * (v * J + A * A))

/-- The way a stop takes that has speed v and deceleration m ≤ A already, the last part of a stop from a greater speed (R300). -/
def stopTail (v m A J : Nat) : Int :=
  let w := v + m * m / (2 * J)
  dAcc w A J - ((w * m / J : Nat) - (m * m * m / (6 * J * J) : Nat) : Int)

/-- Where an axis comes to rest, from its place and along its motion, when it stops from its present v and a under A and J by the phases of
R300: an acceleration is taken off at J first, a deceleration above A brought down to it at J, and one too strong for the speed left carries
the axis back (DEDUCED, log entry 180). -/
def Axis.stopEnd (x : Axis) (A J : Nat) : Int :=
  let J := max 1 J
  let v := x.v.natAbs
  let a : Int := if x.v < 0 then -x.a else x.a
  let m := a.natAbs
  if a ≥ 0 then ((v * m / J + m * m * m / (3 * J * J) + dAcc (v + m * m / (2 * J)) A J : Nat) : Int)
  else if 2 * v * J < m * m then (v * m / J : Nat) - (m * m * m / (3 * J * J) : Nat) - (dAcc (m * m / (2 * J) - v) A J : Nat)
  else if m ≤ A then stopTail v m A J
  else
    let d := m - A
    (v * d / J : Nat) - (m * d * d / (2 * J * J) : Nat) + (d * d * d / (6 * J * J) : Nat) + stopTail (v - (m * m - A * A) / (2 * J)) A A J

/-- The stopping distance (R302). -/
def Axis.stopDist (x : Axis) (A J : Nat) : Nat := (x.stopEnd A J).toNat

/-- At rest. -/
def Axis.rest (x : Axis) : Bool := x.v = 0 && x.a = 0
/-- At rest at its target. -/
def Axis.there (x : Axis) : Bool := x.rest && (match x.target with | none => true | some t => x.p = t * 4294967296)

/-- The target lies behind the motion, or the stop carries past it (R301). -/
def Axis.overruns (x : Axis) (A J : Nat) (t : Int) : Bool :=
  let d : Int := if x.v < 0 then x.p - t * 4294967296 else t * 4294967296 - x.p
  !x.rest && decide (d < x.stopEnd A J)

/-- A stop under A and J ends beyond the target of the move (R301, R312). -/
def Axis.stopsPast (x : Axis) (A J : Nat) : Bool := match x.target with | some t => x.overruns A J t | none => false

/-- LIMITED for an axis, with PROFILE_LIMITED once per stripe (R302). -/
def State.limited (s : State) (ax : Nat) : State :=
  let s1 := s.setFld R.PROFILE_LIMITED ax ax 1
  if s.profile.limitedSent then s1
  else ({ s1 with profile := { s1.profile with limitedSent := true } }).record
    { code := Code.PROFILE_LIMITED, cls := 0, lk := 8, l0 := ax, stripe := s.active.bind Stripe.who }

/-- A move of an axis to a target (R301, R302). -/
def State.moveAxis (s : State) (ax : Nat) (t : Int) : State :=
  let x := if ax = 0 then s.profile.y else s.profile.x
  let s1 := if ax = 0 then { s with profile := { s.profile with y := { x with target := some t } } }
    else { s with profile := { s.profile with x := { x with target := some t } } }
  if x.overruns (s.aMax ax) (s.jMax ax) t then s1.limited ax else s1

/-! ### The stripe table -/

/-- A stripe's record in its job's stripe table (R303). -/
structure RunRec where
  yStart : Int
  yEnd : Int
  xPos : Int
  vWrite : Nat
  valid : Bool
  deriving DecidableEq, Repr

/-- Record k of a table. -/
def runRec (t : List Byte) (k : Nat) : RunRec :=
  let o := 32 * k
  ⟨signedOf 48 (leAt t o 6), signedOf 48 (leAt t (o + 8) 6), signedOf 48 (leAt t (o + 16) 6), leAt t (o + 24) 4, leAt t (o + 28) 1 % 2 = 1⟩

/-- The record of a stripe in a slot. -/
def State.runOf (s : State) (slot id : Nat) : RunRec := runRec ((s.job slot).tab 0x0F00) id

/-- A stripe table keeps the form of R303. -/
def Job.runTableOk (j : Job) (t : List Byte) : Bool :=
  let n := (j.hdr.map (·.stripeCount)).getD 0
  t.length = 32 * n &&
  (List.range n).all (fun k => [6, 14, 22].all (fun o => leAt t (32 * k + o) 2 = 0) && decide (leAt t (32 * k + 28) 4 < 2))

/-- STRIPE_ARM's check of the record (R304). -/
def State.profileArm (s : State) (slot id : Nat) : Option Nat :=
  let r := s.runOf slot id
  if s.profOut = 0 then none
  else if !r.valid then some Code.PROFILE_STRIPE_ABSENT
  else if r.vWrite = 0 ∨ r.vWrite > s.limit 0 then some Code.PROFILE_WRITE_SPEED
  else if !runFits ((r.yEnd - r.yStart).natAbs * 4294967296) (r.vWrite * 65536) (s.aMax 0) (s.jMax 0) then some Code.PROFILE_RUN_SHORT
  else none

/-! ### The run -/

/-- The record of the run in hand. -/
def State.run? (s : State) : Option RunRec := s.profile.runId.map (fun r => s.runOf r.1 r.2.1)
/-- The stripe of the run in hand. -/
def State.runStripe (s : State) : Option Stripe := s.profile.runId.bind (fun r => s.stripe? r.1 r.2.1 r.2.2)

/-- The gearing ratio in force; before any stripe, that of GEAR_RATIO (R263, R308). -/
def State.ratioNow (s : State) : Nat := if s.drover.ratio = 0 then max 1 (effRatio s.gearing.trim s.gearing.ratio) else s.drover.ratio

/-- The lowest ceiling any source has passed to the generator (R268, R269, R308). -/
def State.passedCeil (s : State) : Nat := min s.ceilKhz (s.drover.paceCeil.getD s.ceilKhz)

/-- v_ceil in Q16.16 u/µs (R308). -/
def State.vCeil (s : State) : Nat := s.passedCeil * 2 ^ 54 / (1000 * s.ratioNow)

/-- v_run (R308). -/
def State.vRun (s : State) : Nat :=
  match s.run? with
  | none => min (s.limit 0) s.vCeil
  | some r => min (min r.vWrite (s.limit 0)) s.vCeil

/-- The run direction: 1 or −1 (R304). -/
def RunRec.dir (r : RunRec) : Int := if r.yEnd ≥ r.yStart then 1 else -1

/-- A jerk that R298 and R299 allow from an axis's state: no limit passed, or the magnitude not increased. -/
def Axis.allows (x : Axis) (V A J : Nat) (j : Int) : Bool :=
  let a := x.a + j
  let v := x.v + a
  decide (j.natAbs ≤ J) && (decide (a.natAbs ≤ A) || decide (a.natAbs ≤ x.a.natAbs)) && (decide (v.natAbs ≤ V) || decide (v.natAbs ≤ x.v.natAbs))

/-- One tick of an axis (R298). -/
def Axis.tick (x : Axis) (j : Int) : Axis := { x with a := x.a + j, v := x.v + (x.a + j), p := x.p + (x.v + (x.a + j)) }

/-- The velocity wanted of the run passes V_MAX_Y (R302). -/
def State.wantsClamp (s : State) : Bool :=
  match s.run? with | none => false | some r => decide (s.limit 0 < min r.vWrite s.vCeil)

/-- Some axis is clamped at this tick (R301, R302, R312, R320). -/
def State.clamped (s : State) : Bool :=
  let past := fun (x : Axis) (ax : Nat) => decide (x.v.natAbs > s.vMax ax) ||
    x.stopsPast (s.aMax ax) (s.jMax ax)
  past s.profile.y 0 || past s.profile.x 1 || ((s.profile.phase = 2 || s.profile.phase = 3) && s.wantsClamp)

/-- The data bytes of a frame (R320). -/
def State.frameBytes (s : State) : List Byte :=
  let g := s.profile
  let b := fun (c : Bool) (n : Nat) => if c then n else 0
  let flags := b (s.fld R.PROFILE_CFG 4 4 = 1) 32 + b g.stop 16 + b s.clamped 8 + b (g.phase = 1) 4 +
    b (2 ≤ g.phase ∧ g.phase ≤ 4) 2 + b (s.enabled 15) 1
  let d := leBytes 1 g.seq ++ leBytes 1 flags ++ leBytes 6 (lowBits 48 (g.y.p / 4294967296)) ++ leBytes 4 (lowBits 32 (g.y.v / 65536)) ++
    leBytes 6 (lowBits 48 (g.x.p / 4294967296)) ++ leBytes 4 (lowBits 32 (g.x.v / 65536))
  d ++ leBytes 2 (crc16ibm.crc d)

/-- Set-points leave: a serial frame, or steps (R319, R322). -/
def State.sendSetpoint (s : State) : State :=
  if s.profOut = 1 then
    let l := setpointLine s.profile.disp s.frameBytes
    ({ s with profile := { s.profile with seq := (s.profile.seq + 1) % 256, disp := l.2 } }.inc R.PROFILE_FRAMES).emit (.setpoint s.frameBytes l.1)
  else if s.profOut = 2 then
    let k := (s.profile.y.p / 4294967296).fdiv (max 1 (s.fld R.PROFILE_STEP_SIZE 15 0) : Nat)
    let s1 := { s with profile := { s.profile with stepOld := k } }
    if k = s.profile.stepOld then s1 else s1.emit (.steps (k - s.profile.stepOld))
  else s

/-- RUNUP ends once v_run is reached (R305). -/
def State.reachRun (s : State) : State :=
  if s.profile.phase = 2 ∧ s.profile.y.a = 0 ∧ s.profile.y.v.natAbs = s.vRun * 65536 then { s with profile := { s.profile with phase := 3 } } else s

/-- A tick may move an axis: X in a move or a stop only, Y in every phase with motion. -/
def Profile.movable (g : Profile) (ax : Nat) : Bool :=
  if ax = 0 then 2 ≤ g.phase ∧ g.phase ≤ 8 else g.x.target.isSome || !g.x.rest

/-- SETPOINT_FRAME (R298, R299, R319, R322). -/
def execSetpointFrame (jy jx : Int) (s : State) : Host.Outcome State Fault Refusal :=
  let g := s.profile
  if !s.profRuns then .next s
  else if !(g.y.allows (s.vMax 0) (s.aMax 0) (s.jMax 0) jy && g.x.allows (s.vMax 1) (s.aMax 1) (s.jMax 1) jx) then .next s
  else if (jy ≠ 0 ∧ !g.movable 0) ∨ (jx ≠ 0 ∧ !g.movable 1) then .next s
  else
    let s1 := { s with profile := { g with y := g.y.tick jy, x := g.x.tick jx } }
    let moving := !(s1.profile.y.rest && s1.profile.x.rest)
    .next ((s1.setFld (statusOf 15) 16 16 (if moving then 1 else 0)).reachRun).sendSetpoint

/-- THERM sets the thermal-pause cause: pause mode, and a class at throttle or above (R310, R518). -/
def State.thermPause (s : State) : Bool :=
  fieldOf (s.inForce R.THERM_MODE) 1 0 ≠ 0 && [0, 1, 2].any (fun c => decide (s.classLevel c ≥ 2))

/-- A lane retrain holds the run (R219, R307). -/
def State.lanesTraining (s : State) : Bool :=
  (List.range 64).any (fun l => decide (1 ≤ (s.lane l).st ∧ (s.lane l).st ≤ 5) || (s.lane l).wentDown)

/-- HOLD_CAUSE for a settled stage (R307). -/
def State.holdCause (s : State) : Nat :=
  let b := fun (c : Bool) (n : Nat) => if c then n else 0
  match s.runStripe with
  | none => b s.profile.resumeWait 64 + b s.profile.pause 16 + b s.lanesTraining 8 + 1
  | some x =>
    let waits := decide (x.st ≠ .writing ∧ x.st ≠ .draining) && !(decide (x.st = .contained) && decide (x.ckpt = 5))
    b s.profile.resumeWait 64 + b s.profile.pause 16 + b s.lanesTraining 8 +
    b (waits && decide (x.lead < min 2048 (x.endRow - x.firstRow))) 4 + b (decide (x.prepass ≠ 0 ∧ x.prepass ≠ 4)) 2 + b waits 1

/-- Where the run or the resumed run starts: Y_START, or the re-entry point (R305, R316). -/
def State.reentry (s : State) (r : RunRec) : Int :=
  s.profile.pH - r.dir * ((dAcc (r.vWrite * 65536) (s.aMax 0) (s.jMax 0) / 4294967296 : Nat) + s.rd R.PROFILE_RESUME_MARGIN : Int)

/-- The measured Y stands off the start of the run by more than SETTLE_TOL (R305). -/
def State.unsettled (s : State) : Bool :=
  match s.run? with
  | none => false
  | some r => decide ((s.mainPos - if s.profile.held then s.reentry r else r.yStart).natAbs > s.rd R.PROFILE_SETTLE_TOL)

/-- HOLD_CAUSE (R307). -/
def State.holdReg (s : State) : Nat := if s.profile.phase = 1 then s.holdCause + (if s.unsettled then 32 else 0) else 0

/-- RUNUP_START (R302, R305, R307). -/
def execRunupStart (smp : Sample) (s : State) : Host.Outcome State Fault Refusal :=
  let s := s.see smp
  if s.run?.isNone ∨ !s.profRuns ∨ s.profile.phase ≠ 1 ∨ s.holdReg ≠ 0 ∨ s.profile.stop then .next s
  else
    let s1 := { s with profile := { s.profile with phase := 2, held := false, runDone := false, y := { s.profile.y with target := none } } }
    .next (if s1.wantsClamp then s1.limited 0 else s1)

/-- RUNOUT_START (R305). -/
def execRunoutStart (s : State) : Host.Outcome State Fault Refusal :=
  match s.run? with
  | none => .next s
  | some r => if s.profRuns ∧ (s.profile.phase = 2 ∨ s.profile.phase = 3)
    then .next ({ s with profile := { s.profile with phase := 4 } }.moveAxis 0 r.yEnd) else .next s

/-- The payload of a keep record, by type and instance. -/
def encField (p : List Byte) (o : Nat) (signed : Bool) : Int := if signed then signedOf 16 (leAt p o 2) else leAt p o 2

/-- A fit differs from the record in force by more than 4 codes, or 0.2 % for GAIN and PHASE (R545). -/
def fitDiffers (old new : List Byte) : Bool :=
  let d := fun o sg => (encField new o sg - encField old o sg).natAbs
  decide (d 0 true > 4 ∨ d 2 true > 4) ||
  decide (1000 * d 4 false > 2 * (encField old 4 false).natAbs ∨ 1000 * d 6 true > 2 * (encField old 6 true).natAbs)

/-- Fits of the sin/cos channels written as encoder records (R545, R546). -/
def State.encAuto (s : State) (fits : List (Nat × List Byte)) : State :=
  if s.fld R.KEEP_CFG 0 0 = 0 then s
  else fits.foldl (fun s f =>
    let old := ((s.keepOf 0x0011 f.1).getD (List.replicate 16 0))
    if f.1 < 4 ∧ s.encMode f.1 = 2 ∧ f.2.length = 16 ∧ fitDiffers old f.2 then s.putKeep 0x0011 f.1 f.2 else s) s

/-- RUN_END (R305, R306). -/
def execRunEnd (fits : List (Nat × List Byte)) (s : State) : Host.Outcome State Fault Refusal :=
  if !s.profRuns ∨ s.profile.phase ≠ 4 ∨ !s.profile.y.there then .next s
  else
    let s1 := ({ s with profile := { s.profile with phase := 0, runDone := true, limitedSent := false } }).encAuto fits
    match s.runStripe with
    | none => .next s1
    | some x => if x.st = StripeSt.writing ∧ s.drover.k < x.lastFlash
      then .next (s1.contain { code := Code.PROFILE_RUN_END, cls := 2, stripe := x.who }) else .next s1

/-- The stripe whose run comes next: armed or waiting, or in effect with its run not begun. -/
def State.nextRun (s : State) : Option Stripe :=
  (sortBy (·.ord) (s.stripes.filter (fun t => t.st = .armed ∨ t.st = .waiting ∨ t.st = .writing))).find?
    (fun t => s.profile.runId ≠ some (t.slot, t.id, t.pass))

/-- TURNAROUND_START (R307, R310, R518). -/
def execTurnaroundStart (s : State) : Host.Outcome State Fault Refusal :=
  let busy := s.stripes.any (fun t => t.st = .writing && s.profile.runId == some (t.slot, t.id, t.pass))
  match s.nextRun with
  | none => .next s
  | some x =>
    if !s.profRuns ∨ s.profile.phase ≠ 0 ∨ busy ∨ s.profile.held ∨ s.profile.stop then .next s
    else
      let r := s.runOf x.slot x.id
      let pause := s.thermPause
      let s0 := if pause then s.bump R.THERM_PAUSE 31 16 1 else s
      let s1 := { s0 with profile := { s0.profile with phase := 5, runId := some (x.slot, x.id, x.pass), runDone := false, limitedSent := false, pause } }
      let s2 := s1.moveAxis 0 r.yStart
      .next (if s.fld R.PROFILE_CFG 4 4 = 1 then s2.moveAxis 1 r.xPos else s2)

/-- After a stop or a host move of a contained stripe: to the re-entry point (R316, R324). -/
def State.toReentry (s : State) : State :=
  match s.run? with
  | none => { s with profile := { s.profile with phase := 0, held := false } }
  | some r => { s with profile := { s.profile with phase := 8 } }.moveAxis 0 (s.reentry r)

/-- MOVE_END (R300, R305, R307, R315 to R317, R324 to R326). -/
def execMoveEnd (s : State) : Host.Outcome State Fault Refusal :=
  let g := s.profile
  let yDone := if g.phase = 7 then g.y.rest else g.y.there
  if !s.profRuns ∨ !yDone ∨ !g.x.there then .next s
  else match g.phase with
    | 5 => .next { s with profile := { g with phase := if g.runId.isSome then 1 else 0 } }
    | 6 =>
      if g.held then .next s.toReentry
      else .next { s with profile := { g with phase := if g.hostMove then 2 else if g.runId.isSome then 1 else 0, hostMove := false,
                                              y := { g.y with target := none } } }
    | 7 => if g.held ∧ !g.stop then .next s.toReentry else .next { s with profile := { g with phase := 0, runDone := true } }
    | 8 =>
      if g.held then
        let pause := s.thermPause
        .next { s with profile := { g with phase := 1, pause := g.pause || pause } }
      else .next { s with profile := { g with phase := 0, runDone := true } }
    | _ => .next s

/-- A host move of Y: during a run it replaces the run's motion, which RUNUP later takes up again (R317). -/
def State.hostMoveY (s : State) (t : Int) : State :=
  let run := 2 ≤ s.profile.phase ∧ s.profile.phase ≤ 4
  let phase := if s.profile.phase = 5 ∨ s.profile.phase = 8 then s.profile.phase else 6
  { s with profile := { s.profile with phase, hostMove := s.profile.hostMove || decide run } }.moveAxis 0 t

/-- MOVE (R317). With CFG.X_EN at 0 X is not planned, and a move of it is none (DEDUCED, log entry 179). -/
def execMove (o : Origin) (v : Nat) (s : State) : Host.Outcome State Fault Refusal :=
  .next (s.act o R.PROFILE_MOVE v (fun s =>
    if !s.profRuns ∨ s.profile.stop then s
    else
      let t := fun (a : RegAddr) => signedOf 48 (s.rd a + 2 ^ 32 * s.rd (a + 4))
      let run := 2 ≤ s.profile.phase ∧ s.profile.phase ≤ 4
      let s1 := if fieldOf v 0 0 = 1 then s.hostMoveY (t R.PROFILE_TARGET_Y_L) else s
      if fieldOf v 1 1 = 0 then s1
      else if run then s1.refuse o Code.PROFILE_MOVE_X_RUN R.PROFILE_MOVE v
      else if s1.fld R.PROFILE_CFG 4 4 = 0 then s1
      else
        let phase := if s1.profile.phase ≤ 1 then 6 else s1.profile.phase
        { s1 with profile := { s1.profile with phase } }.moveAxis 1 (t R.PROFILE_TARGET_X_L)))

/-- A limit value in range (R314): not 0, V_MAX at most 32,767 u/µs and, with steps, at most 50 STEP_SIZE. -/
def State.limitOk (s : State) (i v : Nat) : Bool :=
  decide (v > 0) && !(i % 3 = 0 && decide (v > 32767 * 65536)) &&
  !(i = 0 && s.profOut = 2 && decide (v > 50 * s.fld R.PROFILE_STEP_SIZE 15 0 * 65536))

/-- The axis decelerates in a move toward its target (R312). -/
def Axis.braking (x : Axis) : Bool := x.target.isSome && decide (x.v * x.a < 0)

/-- A_MAX and J_MAX of the axis of limit i, with v in the place of that limit. -/
def State.limitsWith (s : State) (i v : Nat) : Nat × Nat :=
  (if i % 3 = 1 then v * 256 else s.aMax (i / 3), if i % 3 = 2 then v else s.jMax (i / 3))

/-- A lowered A_MAX or J_MAX that the deceleration under way could not keep to its target (R312). -/
def State.limitLate (s : State) (i v : Nat) : Bool :=
  let x := if i < 3 then s.profile.y else s.profile.x
  x.braking && x.stopsPast (s.limitsWith i v).1 (s.limitsWith i v).2

/-- LIMIT_WRITE once its checks have passed (R312, R313). -/
def State.writeLimit (s : State) (o : Origin) (i v : Nat) : State :=
  let old := s.limit i
  let x := if i < 3 then s.profile.y else s.profile.x
  let s1 := (s.applyWrite o (limitReg i) v).setFld R.PROFILE_LIMIT_STATE i i 0
  let s2 := { s1 with profile := { s1.profile with limits := kdel s1.profile.limits i } }
  if v ≥ old ∨ !s.profRuns then s2
  else if i % 3 = 0 then if x.v.natAbs > v * 65536 ∨ (i = 0 ∧ (s2.profile.phase = 2 ∨ s2.profile.phase = 3) ∧ s2.wantsClamp) then s2.limited (i / 3) else s2
  else if !s.limitLate i v then s2
  else
    let s3 := { s2 with profile := { s2.profile with limits := kput s2.profile.limits i old } }
    (s3.setFld R.PROFILE_LIMIT_STATE i i 1).refuse o Code.PROFILE_LIMIT_REFUSED (limitReg i) v

/-- LIMIT_WRITE (R312 to R314, R626). -/
def execLimitWrite (o : Origin) (index v : Nat) (s : State) : Host.Outcome State Fault Refusal :=
  if index > 5 then .next s
  else match s.permit o (limitReg index) v with
    | .error s => .next s
    | .ok s =>
      if s.enabled 15 ∧ !s.limitOk index v then .next (s.refuse o (Code.REG_VALUE_RANGE 15) (limitReg index) v)
      else .next (s.writeLimit o index v)

/-- A stripe is aborted: Y stops, and the run ends there (R315, R325). -/
def State.abortRun (s : State) (x : Stripe) : State :=
  let g := s.profile
  if g.runId ≠ some (x.slot, x.id, x.pass) ∨ s.profOut = 0 then s
  else
    let phase := if g.phase = 1 then 0 else if g.phase = 0 ∨ g.phase = 5 ∨ g.phase = 6 then g.phase else 7
    { s with profile := { g with phase, held := false, resumeWait := false, hostMove := false, limitedSent := false, runId := none, y := { g.y with target := if phase = 7 then none else g.y.target } } }

/-- PROFILE.STATE (R296 table of the PROFILE page). -/
def State.profileState (s : State) : Nat :=
  let g := s.profile
  let paced := match s.run? with | none => false | some r => decide (s.vCeil < min r.vWrite (s.limit 0))
  let ramping := if g.phase = 2 ∨ g.phase = 3 then decide (g.y.a ≠ 0 ∨ g.y.v.natAbs ≠ s.vRun * 65536) else !g.y.there
  (if paced then 512 else 0) + (if ramping then 256 else 0) + g.phase

/-- STOP_DIST (R302). -/
def State.stopDistReg (s : State) : Nat := min 0xFFFFFFFF (s.profile.y.stopDist (s.aMax 0) (s.jMax 0) / 4294967296)

/-- PROFILE's consistency check (R314). -/
def State.profileCheck (s : State) : Option (Nat × Nat) :=
  match (List.range 6).find? (fun i => !s.limitOk i (s.rd (limitReg i))) with
  | some i => some (Code.PROFILE_LIMIT_RANGE, 0x210 + 4 * i)
  | none => if s.profOut = 2 ∧ s.fld R.PROFILE_CFG 4 4 = 1 then some (Code.PROFILE_X_STEPDIR, 0x204) else none

/-- TABLE_LOAD of 0x0F00 (R303). -/
def State.loadRunTable (s : State) (slot : Nat) (t : List Byte) : Except Nat State :=
  if (s.job slot).profLocked then .error Code.PROFILE_TABLE_LOCKED
  else if !(s.job slot).runTableOk t then .error Code.PROFILE_TABLE_FORM
  else .ok (s.modJob slot (fun j => { j with tabs := kput j.tabs 0x0F00 t }))

end Sys2Proof.Machine
end

