-- ==== Sys2Proof/Machine/Host.lean ====
section
/-! DEFINITION. The host interface: doorbells, wake causes, the start of a command, and the commands that open, load, flush,
trace and close (R414 to R433, R445 to R457, R52, R53, R566). The commands over stripes are in Stripes.lean. -/

namespace Sys2Proof.Machine

/-! ### Wake causes -/

/-- The Dusk entry under way is undone (R499): steps taken in reverse order; a stack past its commit point goes through its
exit, and one before it stays in service (R348). -/
def State.cancelDusk (s : State) : State :=
  ({ s with phase := 0 }.inc R.CLK_DUSK_CANCELS).setFld R.SYS_POWER_REQ 1 0 0

/-- A wake cause of R500 by its WAKE_CAUSE code: in Dusk the wake begins (R501), during the entry the entry is undone (R499). -/
def State.wake (s : State) (cause : Nat) : State :=
  if s.fatal ≠ 0 ∨ !s.booted ∨ s.nightReady then s
  else if s.power = .day ∧ s.phase = 2 then s.cancelDusk
  else if s.power = .dusk ∧ s.phase = 0 then
    ({ s with phase := 3 }.setFld R.CLK_POWER_STATE 18 16 cause).setFld R.SYS_POWER_REQ 1 0 0
  else s

/-- A doorbell finds the part in Dusk, or on its way there, and wakes it (R420). -/
def State.asleep (s : State) : Bool := s.power = .dusk || (s.power = .day && s.phase = 2)

/-! ### Doorbells -/

/-- A doorbell refused (R416, R456). -/
def State.badDoorbell (s : State) (q off v : Nat) : State :=
  s.record { code := Code.HOST_DOORBELL_RANGE, cls := 7, origin := .operator, lk := 6, l0 := 7, l1 := q * 2 ^ 16 + off, l2 := v }

/-- SQ_TAIL_DOORBELL: the commands up to the new tail become visible, in the order of the doorbells (R416, R417, R421, R456). A
tail that would put more than size − 1 commands in the queue cannot be told from a smaller one, and none is refused for it. -/
def execSqTailDoorbell (q v : Nat) (s : State) : Host.Outcome State Fault Refusal :=
  if s.power = .night ∨ !s.booted ∨ s.fatal ≠ 0 ∨ q > 63 then .next s
  else
    let x := s.queue q
    let s1 := s.wake 0
    if !x.en ∨ v ≥ x.size then .next (s1.badDoorbell q 0 v)
    else
      let n := (v + x.size - x.tail % x.size) % x.size
      let s2 := s1.setQueue q { x with tail := v }
      .next { s2 with host := { s2.host with visible := s2.host.visible ++ List.replicate n (q, s.asleep) } }

/-- CQ_HEAD_DOORBELL: completions held back while the CQ was full are written (R416, R419). -/
def execCqHeadDoorbell (q v : Nat) (s : State) : Host.Outcome State Fault Refusal :=
  if s.power = .night ∨ !s.booted ∨ s.fatal ≠ 0 ∨ q > 63 then .next s
  else
    let x := s.queue q
    let s1 := s.wake 0
    if !x.en ∨ v ≥ x.size then .next (s1.badDoorbell q 4 v)
    else .next ((s1.setQueue q { x with cqHead := v }).drain)

/-- EVQ_HEAD_DOORBELL: events that wait are written (R416, R426). -/
def execEvqHeadDoorbell (v : Nat) (s : State) : Host.Outcome State Fault Refusal :=
  if s.power = .night ∨ !s.booted ∨ s.fatal ≠ 0 then .next s
  else
    let s1 := s.wake 0
    if v ≥ s.evqSize then .next (s1.badDoorbell 0x40 0 v)
    else
      let s2 := { s1 with host := { s1.host with evqHead := v } }
      .next (State.drainEvents (s2.host.backlog.length + 1) s2)

/-- CQ_COALESCE_TIMEOUT (R425). -/
def execCqCoalesceTimeout (q : Nat) (s : State) : Host.Outcome State Fault Refusal :=
  let x := s.queue q
  if q > 63 ∨ x.unsignalled = 0 then .next s
  else .next ((s.setQueue q { x with unsignalled := 0 }).emit (.msix (fieldOf x.ctrl.toNat 21 16)))

/-! ### The start of a command -/

/-- The entry of R418 from its sixteen words. -/
def cmdOf (n q head : Nat) (w : List Nat) : Cmd :=
  let a := fun i => w.getD i 0
  { n, sq := q, cid := fieldOf (a 0) 31 16, flags := fieldOf (a 0) 15 8, opcode := fieldOf (a 0) 7 0, jobId := a 1, sel := a 2, arg0 := a 3,
    addr := a 4 + 2 ^ 32 * a 5, len := a 6, addr2 := a 7 + 2 ^ 32 * a 8, arg1 := a 9, head }

/-- The fields a command uses (R428): JOB_ID, SEL, ADDR with LEN, ADDR2, and the flags it defines. -/
structure FieldUse where
  job : Bool := false
  sel : Bool := false
  buf : Bool := false
  addr2 : Bool := false
  flags : Nat := 0
  arg0 : Nat := 0
  arg1 : Nat := 0
  selMask : Nat := 0xFFFFFFFF
  minLen : Nat := 0
  maxLen : Nat := 0xFFFFFFFF
  unit : Nat := 1
  deriving DecidableEq, Repr

/-- The row of R428's table for an opcode. -/
def fieldUse : Nat → Option FieldUse
  | 0x01 => some { job := true }
  | 0x02 => some { job := true, sel := true, buf := true, minLen := 256, maxLen := 256 }
  | 0x03 => some { job := true, buf := true, minLen := 65, maxLen := 65536 }
  | 0x04 => some { job := true, sel := true, buf := true, selMask := 0xFFFF, minLen := 1 }
  | 0x05 => some { job := true, sel := true }
  | 0x06 => some { job := true, sel := true, addr2 := true, flags := 1 }
  | 0x07 => some { job := true, sel := true }
  | 0x08 => some { job := true, sel := true }
  | 0x09 => some { job := true, sel := true, addr2 := true }
  | 0x0A => some { job := true, sel := true, buf := true, minLen := 16, maxLen := 1048576, unit := 16 }
  | 0x0B => some { arg0 := 1 }
  | 0x0C => some {}
  | 0x0D => some { buf := true, flags := 1, arg0 := 0xFFFF, arg1 := 127, minLen := 1 }
  | 0x0E => some { job := true, flags := 1 }
  | _ => none

/-- The field rules of R418. A DISARM names no buffer (DEDUCED, log entry 29). -/
def Cmd.formOk (c : Cmd) (u : FieldUse) (w : List Nat) : Bool :=
  let disarm := c.opcode = 0x0D ∧ c.flags % 2 = 1
  let buf := if u.buf ∧ ¬ disarm
    then c.addr % 4 = 0 && decide (u.minLen ≤ c.len ∧ c.len ≤ u.maxLen) && c.len % u.unit = 0
    else if disarm then c.addr % 4 = 0 else c.addr = 0 && c.len = 0
  (u.job || c.jobId = 0) && Nat.land c.sel (if u.sel then u.selMask else 0) = c.sel && Nat.land c.flags u.flags = c.flags &&
  Nat.land c.arg0 u.arg0 = c.arg0 && Nat.land c.arg1 u.arg1 = c.arg1 && buf && (if u.addr2 then c.addr2 % 4 = 0 else c.addr2 = 0) &&
  ((w.drop 10).take 6).all (· = 0)

/-- A pair may start a command: it has a visible one and no FENCE of it stands (R420, R446). -/
def State.mayStart (s : State) (q : Nat) : Bool :=
  s.enabled 7 && s.power = .day && s.booted && (s.queue q).en &&
  !(s.host.cmds.any (fun c => c.sq = q && c.opcode = 0x0C))

/-- The commands that block a pair to start are skipped, but no later doorbell of the same pair is. -/
def State.nextSq (s : State) : Option (Nat × Bool) := s.host.visible.find? (fun v => s.mayStart v.1)

/-- The time within which a command starts, in ns: 10 µs, and 2 ms more where its doorbell woke the part (R420). -/
def startLimit (woken : Bool) : Nat := if woken then 2010000 else 10000

/-- The time that a command took to start (R420, R458): the longest is kept, and one past its limit is recorded. -/
def State.started (s : State) (n ns : Nat) (woken : Bool) : State :=
  let s1 := s.maxFld R.HOST_ACCEPT_MAX 15 0 ns
  if ns ≤ startLimit woken then s1 else s1.recordRaw { code := Code.HOST_ACCEPT_LATE, cls := 0, cmd := some n }

/-- The commands whose completion entry is still to be written. -/
def State.openCmds (s : State) (p : Cmd → Bool) : List Cmd := s.host.cmds.filter p

/-- A FLUSH counts a command (R445): of its scope, and no TRACE_ARM that waits for its trigger. -/
def flushCounts (sc q : Nat) (c : Cmd) : Bool := (sc = 1 || c.sq = q) && !(c.opcode = 0x0D && c.done.isNone)

/-- COMMAND_START: the entry at the SQ head is fetched, checked and taken into execution, in the order of the doorbells
(R418, R420, R421, R446, R485), `ns` after the time from which R420 counts. -/
def execCommandStart (q : Nat) (entry : List Nat) (ns : Nat) (s : State) : Host.Outcome State Fault Refusal :=
  match s.nextSq with
  | none => .next s
  | some v =>
   if v.1 ≠ q ∨ entry.length ≠ 16 then .next s
   else
    let x := s.queue q
    let head := (x.sqHead + 1) % x.size
    let c0 := cmdOf s.host.nextCmd q head entry
    let waited := (s.openCmds (flushCounts c0.arg0 q)).length
    let c := { c0 with waited := if c0.opcode = 0x0B then waited else 0 }
    let s1 := s.setQueue q { x with sqHead := head }
    let s2 := { s1 with host := { s1.host with visible := s1.host.visible.erase v, cmds := s1.host.cmds ++ [c], nextCmd := c.n + 1 } }.started
      c.n ns v.2
    if s.fatal ≠ 0 then .next (s2.fail c.n Code.SYS_DEVICE_FATAL)
    else match fieldUse c.opcode with
      | none => .next (s2.fail c.n Code.HOST_OPCODE)
      | some u => if c.formOk u entry then .next s2 else .next (s2.fail c.n Code.HOST_ENTRY_FORM)

/-! ### What every command shares -/

/-- A started command of an opcode that has not yet acted. -/
def State.begun (s : State) (n opcode : Nat) : Option Cmd :=
  (s.cmd? n).filter (fun c => c.opcode = opcode && !c.ran && c.done.isNone && s.fatal = 0)

/-- The command has acted. -/
def State.ran (s : State) (n : Nat) : State := s.setCmd n (fun c => { c with ran := true })

/-- A command that names a job: its slot, open (R430, R449). -/
def State.onJob (s : State) (c : Cmd) (f : Nat → State) : State :=
  match s.slotOf c.jobId with
  | none => s.fail c.n Code.HOST_JOB_UNKNOWN
  | some i => if (s.job i).status = 2 then s.fail c.n Code.HOST_JOB_FAILED else f i

/-- A buffer the host gave: its bytes, LEN of them, or a PCIe error (R429). -/
def bufFits (c : Cmd) : Option (List Byte) → Bool
  | none => true
  | some b => b.length = c.len

/-! ### Jobs and keys -/

/-- JOB_OPEN (R430, R118; log entry 30). -/
def execJobOpen (n : Nat) (s : State) : Host.Outcome State Fault Refusal :=
  match s.begun n 0x01 with
  | none => .next s
  | some c =>
    let tol := s.rd R.LANTERN_FLAT_TOL
    if s.job0.status ≠ 0 ∧ s.job1.status ≠ 0 then .next (s.fail n Code.HOST_SLOTS_FULL)
    else if (s.slotOf c.jobId).isSome then .next (s.fail n Code.HOST_JOB_ID_IN_USE)
    else if tol < 1 ∨ tol > 64 then .next (s.fail n Code.LANTERN_TOL_RANGE)
    else
      let i := if s.job0.status = 0 then 0 else 1
      let s1 := { s with jobOrd := s.jobOrd + 1 }.setJob i { status := 1, jobId := c.jobId, openOrd := s.jobOrd + 1, flatTol := tol }
      .next (s1.complete n 0 i)

/-- The checks of R566 in order: the code that ends KEY_LOAD, or the job key. -/
def State.unwrap (s : State) (c : Cmd) (b : List Byte) : Except Nat (List Byte) :=
  let kek := Config.unwrapKek ((b.drop 0x10).take 0x60) ((b.drop 8).take 8)
  if leAt b 0 4 ≠ 0x5052574B ∨ leAt b 4 4 ≠ 1 ∨ leAt b 8 4 ≠ c.sel ∨ leAt b 0xC 4 ≠ c.jobId then .error Code.FOLD_WRAP_FORM
  else if s.fold.debugOpen then .error Code.FOLD_DEBUG_OPEN
  else if s.fold.tamperHold then .error Code.FOLD_TAMPER_HOLD
  else match s.fold.keysvcKey with
    | none => .error Code.FOLD_NO_KEY_SERVICE
    | some k =>
      if !Config.ecdsaVerify k (b.take 0xA0) ((b.drop 0xA0).take 0x60) then .error Code.FOLD_WRAP_SIGNATURE
      else if !Config.onCurve ((b.drop 0x10).take 0x60) then .error Code.FOLD_WRAP_POINT
      else match Config.gcmOpen kek.1 kek.2 (b.take 0x70) ((b.drop 0x70).take 0x20) ((b.drop 0x90).take 0x10) with
        | none => .error Code.FOLD_WRAP_TAG
        | some key => .ok key

/-- KEY_LOAD (R431, R566). -/
def execKeyLoad (n : Nat) (buf : Option (List Byte)) (s : State) : Host.Outcome State Fault Refusal :=
  match s.begun n 0x02 with
  | none => .next s
  | some c =>
    if !bufFits c buf then .next s
    else .next (s.onJob c (fun i =>
      if (s.job i).key.isSome then s.fail n Code.HOST_KEY_LOADED
      else match buf with
        | none => s.fail n Code.HOST_DMA_FAULT
        | some b =>
          if s.auditFull then s.countFull.fail n Code.AUDIT_FULL
          else match s.unwrap c b with
            | .error e => s.jobFatalRec i { code := e, cls := 3, origin := .operator } n
            | .ok key =>
              let s1 := s.commit 0x0010 .operator 0 0 0 [c.sel, c.jobId, 0]
              (s1.modJob i (fun j => { j with key := some key, keyId := c.sel })).complete n 0))

/-! ### Sealed blocks -/

/-- Fields of an envelope (R48). -/
structure Env where
  kind : Nat
  jobId : Nat
  block : Nat
  stripe : Nat
  band : Nat
  clen : Nat
  dlen : Nat
  deriving DecidableEq, Repr

/-- The envelope of a sealed block. -/
def envOf (b : List Byte) : Env :=
  ⟨leAt b 4 1, leAt b 8 4, leAt b 0xC 4, leAt b 0x10 4, leAt b 0x14 3, leAt b 0x18 4, leAt b 0x1C 4⟩

/-- Steps 1 to 3 of R52. -/
def pushForm (b : List Byte) : Option Nat :=
  let n := b.length
  let e := envOf b
  if crcC (b.take (n - 4)) ≠ leAt b (n - 4) 4 then some Code.PSIPO_ENV_CRC
  else if leAt b 0 4 ≠ 0x31505350 ∨ leAt b (n - 8) 4 ≠ 0x444E4550 ∨ leAt b 6 2 ≠ 0 ∨ leAt b 0x17 1 ≠ 0 then some Code.PSIPO_ENV_MAGIC
  else if leAt b 5 1 ≠ 1 then some Code.PSIPO_ENV_VERSION
  else if e.kind > 1 then some Code.PSIPO_ENV_KIND
  else if leAt b (n - 16) 4 ≠ n ∨ e.clen + 64 ≠ n ∨ leAt b (n - 12) 4 ≠ e.block ∨ e.clen < 1 ∨ e.clen > 65472 ∨ e.dlen % 4 ≠ 0 ∨
      e.dlen < 8 ∨ e.dlen > 1048576 ∨ (e.block = 0 ∧ e.dlen ≠ 64) then some Code.PSIPO_ENV_LENGTH
  else none

/-- The job header of R56, or none where its form is broken. -/
def headerOf (e : Env) (b : List Byte) : Option JobHdr :=
  let lvl := leAt b 2 2
  let sc := leAt b 8 2
  let bc := leAt b 0x10 4
  if leAt b 0 2 ≠ 1 ∨ lvl < 1 ∨ leAt b 4 4 ≠ e.jobId ∨ leAt b 0xA 2 ≠ 0 ∨ sc < 1 ∨ leAt b 0xC 4 > 1 ∨ bc < 2 ∨ leAt b 0x18 8 ≠ 0 ∨
      e.stripe ≠ 0xFFFFFFFF ∨ e.band ≠ 0 then none
  else some { minLevel := lvl, jobId := e.jobId, stripeCount := sc, stagger := leAt b 0xC 4 % 2, blockCount := bc, packer := leAt b 0x14 4,
              classUsed := leAt b 0x20 32 }

/-- Steps 4 to 7 of R52; a failed job declines the push (R449). Where the entry and the envelope name two open slots, the envelope's
is taken (DEDUCED, log entry 94). -/
def State.pushHost (s : State) (c : Cmd) (e : Env) : Option Nat :=
  match s.slotOf c.jobId, s.slotOf e.jobId with
  | none, _ => some Code.PSIPO_JOB_UNKNOWN
  | _, none => some Code.PSIPO_JOB_UNKNOWN
  | _, some i =>
    let j := s.job i
    if j.status = 2 then some Code.HOST_JOB_FAILED
    else if j.key.isNone then some Code.PSIPO_KEY_ABSENT
    else if j.hdr.isNone ∧ e.block ≠ 0 then some Code.PSIPO_HEADER_FIRST
    else if (e.block ≠ 0 ∧ e.block ≥ (j.hdr.map (·.blockCount)).getD 0) ∨ (e.kind = 0 ↔ e.block ≠ 0) then some Code.PSIPO_BLOCK_RANGE
    else none

/-- A failed attempt (R53, R464): its record; the third for one BLOCK_NO fails the job. -/
def State.attempt (s : State) (n : Nat) (e : Env) (code : Nat) (off : Nat := 0) : State :=
  let seq := s.log.nextSeq
  let s1 := s.record { code, cls := 1, origin := .operator, det := if code = Code.CRC_CHAIN_RESEAL then some 4 else none, lk := 5, l0 := e.block, l1 := off, stripe := some (e.jobId, 0xFFFFFFFF), cmd := some n }
  match (s.slotOf e.jobId).filter (fun i => (s.job i).status = 1) with
  | none => s1.complete n code e.block
  | some i =>
    let k := kget (fun _ => 0) (s.job i).attempts e.block + 1
    let s2 := s1.modJob i (fun j => { j with attempts := kput j.attempts e.block k })
    if k ≥ 3 then s2.jobFatalRec i { code := Code.PSIPO_BLOCK_UNRECOVERABLE, cls := 3, lk := 5, l0 := e.block, cause := seq % 2 ^ 32 } n
    else s2.complete n code e.block

/-- Re-requests withdrawn, each with a WITHDRAWN event; the cached copies are kept and may be read again (R82, R427). -/
def State.withdraw (s : State) (slot : Nat) (p : Nat → Bool) : State :=
  let j := s.job slot
  let gone := j.reqs.filter p
  let s1 := { s with frames := s.frames.map (fun (f : Nat × Frame) => if f.2.slot = slot ∧ gone.contains f.2.block then (f.1, { f.2 with failed := 0 }) else f) }
  gone.foldl (fun s b => s.event 2 j.jobId b 0) (s1.modJob slot (fun j => { j with reqs := j.reqs.filter (fun b => !p b) }))

/-- Frames of the cache (R337). -/
def cacheFrames : Nat := 1961984

/-- Frames free: those not used and not reserved for a re-request (R340). -/
def State.cacheFree (s : State) : Nat := cacheFrames - s.frames.length - (s.job0.reqs.length + s.job1.reqs.length)

/-- The lowest frame number not in use. -/
def State.freeFrame (s : State) : Nat :=
  ((List.range (s.frames.length + 1)).find? (fun k => (kget? s.frames k).isNone)).getD 0

/-- The bytes of accepted blocks counted (INGEST_BYTES). -/
def State.countIngest (s : State) (n : Nat) : State :=
  s.wr64 R.HOST_INGEST_BYTES_L (satAdd (2 ^ 64 - 1) (s.rd64 R.HOST_INGEST_BYTES_L) n)

/-- A re-pushed block of a stripe that failed validation: the same code at the same offset ends the job (R76). One that fails with
another code or offset completes its GEOM_PUSH with success, and the earlier failure is forgotten: the next STRIPE_ARM meets the new
one (DESIGN CHOICE, log entry 149). -/
def State.revalidate (s : State) (i : Nat) (e : Env) (n : Nat) : State :=
  match (s.job i).badBlocks.find? (fun b => b.1 = e.block) with
  | none => s.complete n 0 e.block 1
  | some (_, code, off, seq) =>
    let s1 := s.modJob i (fun j => { j with badBlocks := j.badBlocks.filter (fun b => b.1 ≠ e.block) })
    match s1.walk i e.stripe with
    | .error (c, o, b) =>
      if b = e.block ∧ c = code ∧ o = off then
        s1.jobFatalRec i { code, cls := 3, lk := 5, l0 := b, l1 := o, cause := seq, stripe := some (e.jobId, e.stripe) } n
      else s1.complete n 0 e.block 1
    | .ok _ => s1.complete n 0 e.block 1

/-- An accepted block re-sealed into a free frame; a frame it replaces is freed then (R54, R337, R340). -/
def State.accept (s : State) (i n : Nat) (e : Env) (b unit : List Byte) : State :=
  let again := (s.job i).reqs.contains e.block
  let f : Frame := { slot := i, block := e.block, stripe := e.stripe, firstBand := e.band, dlen := e.dlen, wireCrc := leAt b (b.length - 4) 4,
                     sealCtr := s.sealCtr + 1, env := b.take 32, unit }
  let s0 := { s with frames := s.frames.filter (fun g => ¬ (g.2.slot = i ∧ g.2.block = e.block)) }
  let s1 := { s0 with frames := kput s0.frames s.freeFrame f, sealCtr := s.sealCtr + 1 }
  let s2 := (s1.countIngest b.length).modJob i (fun j => { j with reqs := j.reqs.filter (· ≠ e.block) })
  if again then s2.revalidate i e n else s2.complete n 0 e.block 0

/-- Step 9 of R52 and the cache's room; a push that answers a re-request replaces the failed frame (R55, R83, R340). -/
def State.pushCache (s : State) (i n : Nat) (e : Env) (b unit : List Byte) : State :=
  if (s.job i).reqs.contains e.block then s.accept i n e b unit
  else match s.frameOf i e.block with
    | some f =>
      if f.2.wireCrc = leAt b (b.length - 4) 4 then
        ((s.record { code := Code.PSIPO_DUPLICATE, cls := 0, lk := 5, l0 := e.block, stripe := some (e.jobId, 0xFFFFFFFF), cmd := some n }).inc
          R.HOST_DUPLICATES).complete n 0 e.block 0
      else s.jobFatalRec i { code := Code.PSIPO_BLOCK_CONFLICT, cls := 3, lk := 5, l0 := e.block } n
    | none =>
      if s.cacheFree = 0 then s.fail n Code.HBM_CACHE_FULL 5 e.block else s.accept i n e b unit

/-- Block 0: its unit, its length, its header, its level, before step 9 compares it with a cached block 0 (R52, R56, R57, R78; the
order is DEDUCED, log entry 150). Its header counts only once the block is accepted. -/
def State.pushHeader (s : State) (i n : Nat) (e : Env) (b unit : List Byte) : State :=
  match inflate unit with
  | .error (c, o) => s.attempt n e c o
  | .ok h =>
    if h.length ≠ e.dlen then s.attempt n e Code.PSIPO_ENV_LENGTH
    else match headerOf e h with
      | none => s.attempt n e Code.PSIPO_HEADER_FORM
      | some hd =>
        if hd.minLevel > s.bell 1 % 65536 then s.jobFatalRec i { code := Code.PSIPO_FORMAT_LEVEL, cls := 3, lk := 5 } n
        else
          let s1 := s.pushCache i n e b unit
          if (s1.job i).status = 1 ∧ (s1.frameOf i 0).isSome then s1.modJob i (fun j => { j with hdr := some hd }) else s1

/-- Step 8 of R52 and the re-seal of R397. -/
def State.pushSealed (s : State) (i n : Nat) (e : Env) (b : List Byte) (reseal : Nat) : State :=
  let j := s.job i
  let nonce := leBytes 4 j.keyId ++ leBytes 4 e.jobId ++ leBytes 4 e.block
  match Config.gcmOpen (leNat (j.key.getD [])) nonce (b.take 32) ((b.drop 32).take e.clen) ((b.drop (32 + e.clen)).take 16) with
  | none => s.attempt n e Code.PSIPO_ENV_TAG
  | some unit =>
    let s1 := if reseal = 0 then s else (s.bump R.CRC_CHAIN_COUNTS 31 24 1).record
      { code := Code.CRC_CHAIN_RESEAL, cls := 1, det := some 4, lk := 5, l0 := e.block, stripe := some (e.jobId, 0xFFFFFFFF), cmd := some n }
    if reseal ≥ 2 then (s1.bump R.CRC_CHAIN_COUNTS 31 24 1).attempt n e Code.CRC_CHAIN_RESEAL
    else if e.block = 0 then s1.pushHeader i n e b unit
    else s1.pushCache i n e b unit

/-- An earlier GEOM_PUSH of the same queue has not ended: their blocks are accepted in queue order (R45). -/
def State.pushWaits (s : State) (c : Cmd) : Bool :=
  s.host.cmds.any (fun x => x.sq = c.sq && x.opcode = 0x03 && decide (x.n < c.n) && x.done.isNone)

/-- GEOM_PUSH (R45, R52 to R54, R397): `reseal` counts the seals whose plaintext CRCs disagree. -/
def execGeomPush (n : Nat) (buf : Option (List Byte)) (reseal : Nat) (s : State) : Host.Outcome State Fault Refusal :=
  match s.begun n 0x03 with
  | none => .next s
  | some c =>
    if !bufFits c buf ∨ s.pushWaits c then .next s
    else if ((s.slotOf c.jobId).map (fun i => (s.job i).status)) = some 2 then .next (s.fail n Code.HOST_JOB_FAILED)
    else match buf with
      | none => .next (s.fail n Code.HOST_DMA_FAULT)
      | some b =>
        let e := envOf b
        match pushForm b with
        | some code => .next (s.attempt n e code)
        | none => match s.pushHost c e with
          | some code => .next (s.fail n code 5 e.block)
          | none => .next (s.pushSealed ((s.slotOf e.jobId).getD 0) n e b reseal)

/-! ### Tables -/

/-- A table identifier that some page defines (R433): per slot, or device-wide. -/
def tableKind (id : Nat) : Option Bool :=
  if (0x0A00 ≤ id ∧ id ≤ 0x0A07) ∨ id = 0x0F00 then some true
  else if (0x0C00 ≤ id ∧ id ≤ 0x0C02) ∨ id = 0x0E00 ∨ id = 0x1000 ∨ id = 0x1001 then some false else none

/-- A table into a job slot (R162, R163, R303). -/
def State.loadSlot (s : State) (slot id : Nat) (t : List Byte) : Except Nat State :=
  if id = 0x0F00 then s.loadRunTable slot t
  else
    let j := s.job slot
    if j.penLocked then .error Code.PENUMBRA_TABLE_LOCKED
    else if !j.penumbraForm id t then .error Code.PENUMBRA_TABLE_FORM
    else .ok (s.setJob slot (j.putPenumbra id t))

/-- A device-wide table (R175, R177, R179, R264, R273). -/
def State.loadDevice (s : State) (id : Nat) (t : List Byte) : Except Nat State :=
  if id = 0x0E00 then s.loadZones t
  else if id = 0x1000 ∨ id = 0x1001 then s.loadTrack (id % 2) t
  else s.loadShepherd id t

/-- The owner's answer to a table: accepted with its audit record and CRC, or refused (R433, R576, R582). -/
def State.loadTable (s : State) (c : Cmd) (slot : Nat) (perSlot : Bool) (t : List Byte) : State :=
  match (if perSlot then s.loadSlot slot c.sel t else s.loadDevice c.sel t) with
  | .error e => s.fail c.n e
  | .ok _ =>
    let s1 := s.commit 0x0002 .operator 0 0 0 [c.sel, slot, crcC t]
    match (if perSlot then s1.loadSlot slot c.sel t else s1.loadDevice c.sel t) with
    | .error e => s.fail c.n e
    | .ok s2 => s2.complete c.n 0 (crcC t)

/-- TABLE_LOAD (R433). -/
def execTableLoad (n : Nat) (buf : Option (List Byte)) (s : State) : Host.Outcome State Fault Refusal :=
  match s.begun n 0x04 with
  | none => .next s
  | some c =>
    if !bufFits c buf then .next s
    else match tableKind c.sel with
      | none => .next (s.fail n Code.HOST_TABLE_ID)
      | some perSlot =>
        let go := fun (slot : Nat) => match buf with
          | none => s.fail n Code.HOST_DMA_FAULT
          | some t => if s.auditFull then s.countFull.fail n Code.AUDIT_FULL else s.loadTable c slot perSlot t
        if perSlot then .next (s.onJob c go)
        else if c.jobId ≠ 0 then .next (s.fail n Code.HOST_ENTRY_FORM)
        else .next (go 0)

/-! ### FLUSH, FENCE, TRACE_ARM, JOB_CLOSE -/

/-- FENCE: completes once every earlier command of its SQ has completed (R446). -/
def execFence (n : Nat) (s : State) : Host.Outcome State Fault Refusal :=
  match s.begun n 0x0C with
  | none => .next s
  | some c => if s.host.cmds.any (fun x => x.sq = c.sq && decide (x.n < n)) then .next s else .next (s.complete n 0)

/-- A trace's export that is being compressed, and has not taken the flush that command n asks for (R102, R445). -/
def Ctx.unflushed (c : Ctx) (n : Nat) : Bool := c.mode = 1 && c.purp = 1 && decide (1 ≤ c.st ∧ c.st ≤ 3) && (c.asked ≠ n || c.pend)

/-- Every such export is asked to flush. -/
def State.askFlush (s : State) (n : Nat) : State :=
  { s with ctxs := s.ctxs.map (fun (c : Nat × Ctx) => if c.2.unflushed n then (c.1, { c.2 with pend := true, asked := n }) else c) }

/-- FLUSH (R445). -/
def execFlush (n : Nat) (s : State) : Host.Outcome State Fault Refusal :=
  match s.begun n 0x0B with
  | none => .next s
  | some c =>
    if s.host.cmds.any (fun x => flushCounts c.arg0 c.sq x && decide (x.n < n)) then .next s
    else if s.ctxs.any (fun x => x.2.unflushed n) then .next (s.askFlush n)
    else .next (s.complete n 0 c.waited)

/-- DISARM (R447; log entry 33): an armed trace of trigger 0 fires, another ends with nothing written, and one already triggered
is exported as it stands. -/
def State.disarm (s : State) : State :=
  let t := s.trace
  if t.st = 1 ∧ t.trigger = 0 then { s with trace := t.fire }
  else if t.st = 1 then ({ s with trace := { t with st := 0 } }).complete t.cmd 0 0
  else if t.st = 2 then { s with trace := { t with st := 3, left := 0 } } else s

/-- TRACE_ARM (R447). -/
def execTraceArm (n : Nat) (s : State) : Host.Outcome State Fault Refusal :=
  match s.begun n 0x0D with
  | none => .next s
  | some c =>
    let t := s.trace
    if c.flags % 2 = 1 then .next (s.disarm.complete n 0)
    else if 1 ≤ t.st ∧ t.st ≤ 3 then .next (s.fail n Code.HOST_STRIPE_STATE)
    else if c.arg1 > 100 then .next (s.fail n Code.HOST_ENTRY_FORM)
    else .next ({ s.ran n with trace := { t with st := 1, cmd := n, trigger := c.arg0, post := c.arg1, recs := [], left := 0, seq := 1, trigSeq := 0, lost := 0 } })

/-- JOB_CLOSE (R448, R449, R82; log entry 32). -/
def execJobClose (n : Nat) (s : State) : Host.Outcome State Fault Refusal :=
  match s.begun n 0x0E with
  | none => .next s
  | some c =>
    match s.slotOf c.jobId with
    | none => .next (s.fail n Code.HOST_JOB_UNKNOWN)
    | some i =>
      let mine := s.stripes.filter (fun t => t.slot = i)
      if (s.job i).status = 1 ∧ c.flags % 2 = 0 ∧ mine.any (fun t => t.st ≠ .armWait) then .next (s.fail n Code.HOST_JOB_BUSY)
      else
        let s1 := (s.ran n).withdraw i (fun _ => true)
        let s2 := (mine.filter (fun t => t.st = .armWait)).foldl (fun s t => s.fail t.armCmd Code.HOST_JOB_UNKNOWN) s1
        .next ((s2.abortSlot i).closeDue i)

end Sys2Proof.Machine
end

