-- ==== Sys2Proof/Machine/Stripes.lean ====
section
/-! DEFINITION. The commands over stripes: arming, starting, aborting, containing at the host's request, resuming and patching
(R434 to R444, R451 to R454, R476 to R479). -/

namespace Sys2Proof.Machine

/-! ### Arming -/

/-- Why STRIPE_ARM or PATCH_PASS stops: its code and, for HOST_BLOCKS_MISSING, the block. -/
abbrev ArmStop := Nat × Nat

/-- A check that stops with a code. -/
def stopIf (b : Bool) (code : Nat) : Except ArmStop Unit := if b then .error (code, 0) else .ok ()
/-- A check that answers its code. -/
def stopAt : Option Nat → Except ArmStop Unit
  | some c => .error (c, 0)
  | none => .ok ()

/-- Step 4 of R435: every class of CLASS_USED has VALID in the class table. -/
def Job.classesOk (j : Job) : Bool :=
  let used := (j.hdr.map (·.classUsed)).getD 0
  let t := j.tab 0x0A04
  (List.range 256).all (fun c => !used.testBit c || leAt t (8 * c + 4) 1 % 2 = 1)

/-- Step 7 of R435 (R178, R198, R206, R375). -/
def State.armShepherd (s : State) (j : Job) : Except ArmStop Unit := do
  stopIf (s.patternEmpty s.passers) Code.SHEPHERD_PATTERN_EMPTY
  let waits := s.sram.fences.any (fun f => sramRegion (256 * f.block) = 0 && !f.inForce)
  stopIf (waits || ((s.fld R.SHEPHERD_PASSERS 8 8 = 1 || !s.fencedSlots.isEmpty) && !s.linOk j)) Code.HURDLES_EXHAUSTED
  stopIf (decide (s.strayCount > s.rd R.SHEPHERD_STRAY_LIMIT)) Code.SHEPHERD_STRAY_LIMIT

/-- Step 8 of R435 (R515, R601, R219, R279, R288). -/
def State.armDevice (s : State) : Except ArmStop Unit := do
  stopIf s.anyShutdown Code.SYS_THERMAL_HOLD
  stopIf (s.role = 3) Code.IVDON_OBSERVER
  stopIf s.lanesShort Code.FLINK_LANES_DOWN
  stopAt s.droverArm

/-- The start of a slot's deficit area, copy 0 (R332, R336). -/
def deficitBase (slot : Nat) : Nat := 0x100000000 + slot * 0x40000000

/-- The end of a list: a full one while its stripe holds it (R336). -/
def State.listEnd (s : State) (d : DefList) : Nat := d.base + if s.stripes.any (fun t => t.ord = d.ord) then fullList else d.size

/-- Where a slot's next list begins: after every list it has, on a 64-byte boundary (R336). -/
def State.nextList (s : State) (slot : Nat) : Nat :=
  ceilDiv ((s.job slot).lists.foldl (fun m d => max m (s.listEnd d)) (deficitBase slot)) 64 * 64

/-- The deficit area has no room for a full list (R336). -/
def State.deficitShort (s : State) (slot : Nat) : Bool := decide (s.nextList slot + fullList > deficitBase slot + deficitArea)

/-- A block may be its stripe's first: it begins with STRIPE, it does not open or parse (R75 then names its fault), or the block
before it is cached, so that none is missing there. -/
def State.mayBegin (s : State) (slot : Nat) (f : Frame) : Bool :=
  (match f.firstRec with | .ok (some (.stripe _)) => true | .ok (some _) => false | _ => true) || (s.frameOf slot (f.block - 1)).isSome

/-- The first block a stripe lacks, walking its cached blocks from the STRIPE record to STRIPE_END (R435 step 10; log entry
34). A number that another stripe's cached block bears is not missing. -/
def State.missingBlock (s : State) (slot id : Nat) : Option Nat :=
  let fs := s.blocksOf slot id
  let below := ((s.frames.map (·.2)).filter (fun f => f.slot = slot ∧ f.block ≠ 0 ∧ f.stripe < id)).foldl (fun m f => max m f.block) 0
  match fs with
  | [] => some (below + 1)
  | f :: _ =>
    if !s.mayBegin slot f then some (f.block - 1)
    else
      let last := (fs.getLastD f).block
      match (List.range (last - f.block)).find? (fun i => (s.frameOf slot (f.block + i)).isNone) with
      | some i => some (f.block + i)
      | none => match s.walkOpen slot id with
        | .error _ => none
        | .ok w =>
          if !w.ended ∧ last + 1 < ((s.job slot).hdr.map (·.blockCount)).getD 0 ∧ (s.frameOf slot (last + 1)).isNone then some (last + 1)
          else none

/-- Steps 1 to 10 of R435 on a job slot (R334: rows of a map set). -/
def State.armChecks (s : State) (slot id : Nat) : Except ArmStop Unit := do
  let j := s.job slot
  stopIf j.key.isNone Code.PSIPO_KEY_ABSENT
  let n := (j.hdr.map (·.stripeCount)).getD 0
  stopIf (decide (id ≥ n) || s.stripes.any (fun t => t.slot = slot && t.id = id)) Code.HOST_STRIPE_STATE
  stopIf (decide ((j.hdr.map (·.stagger)).getD 0 ≠ s.fld R.SHEPHERD_MODE 4 4)) Code.HOST_STRIPE_STAGGER
  stopIf (!j.classesOk) Code.HOST_CLASS_NO_BASE
  stopAt j.penumbraArm
  stopAt (s.profileArm slot id)
  s.armShepherd j
  s.armDevice
  stopIf (decide (((s.recOf slot id).map (·.rows)).getD 0 > 16777216)) Code.HBM_MAP_SPACE
  stopIf (s.deficitShort slot) Code.HBM_DEFICIT_SPACE
  stopIf (j.released.contains id) Code.HBM_BLOCKS_RELEASED
  match s.missingBlock slot id with
  | some b => .error (Code.HOST_BLOCKS_MISSING, b)
  | none => .ok ()

/-- A failed check completes the command; the missing block stands in the record (R435). -/
def State.armFails (s : State) (n : Nat) (e : ArmStop) : State :=
  if e.1 = Code.HOST_BLOCKS_MISSING then s.fail n e.1 5 e.2 else s.fail n e.1

/-- A field ring that no stripe holds. -/
def State.freeRing (s : State) : Option Nat := [0, 1].find? (fun r => s.stripes.all (fun t => t.ring ≠ some r))
/-- A map set that no stripe holds. -/
def State.freeMap (s : State) : Option Nat := [0, 1].find? (fun m => s.stripes.all (fun t => t.mapSet ≠ some m))

/-- A stripe or pass waits for its ring and map set, holding its list (R435 step 12, R336). -/
def State.waitArm (s : State) (n : Nat) (x : Stripe) : State :=
  let d : DefList := { ord := x.ord, id := x.id, pass := x.pass, state := 0, base := s.nextList x.slot, lastRow := none, entries := [] }
  let s1 := (s.ran n).modJob x.slot (fun j => { j with lists := j.lists ++ [d] })
  { s1 with stripes := s1.stripes ++ [x], stripeOrd := x.ord }

/-- The pages that a stripe's pre-warm holds (R508). -/
def prewarmPages : List Nat := (List.range 29).filter (Nat.testBit 0x03C7FF00)

/-- The oldest stripe that waits at step 12 obtains its ring and map set: it is armed, its pre-pass waits to start, its blocks are
pre-warmed, the Flock lanes wake, and its command completes (R434, R435, R239, R508). -/
def State.armNow (s : State) (x : Stripe) (ring : Nat) (map : Option Nat) : State :=
  let s1 := s.modStripe x (fun t => { t with st := .armed, ring := some ring, mapSet := map, prepass := if x.pass = 0 then 1 else 0 })
  let s2 := (prewarmPages.foldl State.clkOn s1).wakeLanes
  let own := decide (x.pass = 0)
  let s3 := s2.modJob x.slot (fun j =>
    let recs := if j.recs.any (·.id = x.id) then j.recs else x.srec :: j.recs
    { j with penLocked := j.penLocked || own, profLocked := j.profLocked || own, recs })
  let s4 := s3.showStripes
  (s4.lanternWake).complete x.armCmd 0 (((s.list? x).map (·.base)).getD 0 / 64)

/-- STRIPE_ARM_RESOURCES_FREE (R435 step 12). -/
def State.armFree (s : State) : State :=
  match (sortBy (·.ord) (s.stripes.filter (fun t => t.st = .armWait))).head? with
  | none => s
  | some x => match s.freeRing, s.freeMap with
    | some r, some m => s.armNow x r (if x.pass = 0 then some m else none)
    | some r, none => if x.pass = 0 then s else s.armNow x r none
    | none, _ => s

/-- STRIPE_ARM_RESOURCES_FREE, for the oldest STRIPE_ARM that waits. -/
def execStripeArmResourcesFree (n : Nat) (s : State) : Host.Outcome State Fault Refusal :=
  match (sortBy (·.ord) (s.stripes.filter (fun t => t.st = .armWait))).head? with
  | none => .next s
  | some x => if x.armCmd = n ∧ s.fatal = 0 then .next s.armFree else .next s

/-- The codes that a decode or a record may give at validation (R80, R109, R117). -/
def geometryCode (c : Nat) : Bool :=
  decide (0x0840 ≤ c ∧ c ≤ 0x0853) || decide (0x0960 ≤ c ∧ c ≤ 0x0975) || c = Code.LANTERN_CURVE_FLAT || c = Code.PSIPO_ENV_LENGTH

/-- The error that validation meets first: one that the hardware found and the data does not have, or the data's own. -/
def State.armError (s : State) (slot id : Nat) (glitch : Option (Nat × Nat × Nat)) : Option (Nat × Nat × Nat) :=
  match glitch.filter (fun g => geometryCode g.1 && (s.blocksOf slot id).any (fun f => f.block = g.2.2)) with
  | some g => some g
  | none => match s.walk slot id with | .error e => some e | .ok _ => none

/-- A validation error (R75, R76, R464): its record and the code of the command; the block is read and parsed again, and only where
the error repeats is the block requested again and what failed remembered. -/
def State.armInvalid (s : State) (n slot id : Nat) (e : Nat × Nat × Nat) : State :=
  let (code, off, block) := e
  let seq := s.log.nextSeq % 2 ^ 32
  let s1 := s.record { code, cls := 1, origin := .operator, lk := 5, l0 := block, l1 := off, stripe := some ((s.job slot).jobId, id), cmd := some n }
  let repeats := match s.walk slot id with | .error r => decide (r = e) | .ok _ => false
  if !repeats then s1.complete n code
  else
    let s2 := s1.modJob slot (fun j => { j with badBlocks := (block, code, off, seq) :: j.badBlocks.filter (fun b => b.1 ≠ block) })
    (s2.rerequest slot block code).complete n code

/-- The block and the offset of the first TILE record of each band (R131). -/
def Walk.bandIndex (w : Walk) : KMap (Nat × Nat) := w.tiles.foldl (fun m t => kput m t.band (t.block, t.offset)) []

/-- A validated stripe waits for its resources: its block set is closed, each block has been decoded without error, and the place of
every band is recorded (R83, R131, R435 step 12). -/
def State.validated (s : State) (n slot : Nat) (c : Cmd) (w : Walk) (r : StripeRec) : State :=
  let blocks := (s.blocksOf slot c.sel).map (·.block)
  let s1 := { s with frames := s.frames.map (fun (f : Nat × Frame) => if f.2.slot = slot ∧ blocks.contains f.2.block then (f.1, { f.2 with opened := true }) else f) }
  s1.waitArm n { slot, jobId := c.jobId, id := c.sel, pass := 0, st := .armWait, ord := s.stripeOrd + 1, srec := r, armCmd := n,
                 endRow := r.rows, blocks, bandIndex := w.bandIndex }

/-- The two copies of the stripe table (R351, R402): copy 1 serves where copy 0 fails; with both lost the job fails. -/
def State.tableCopies (s : State) (n slot copies : Nat) : State :=
  if copies = 0 ∨ s.profOut = 0 then s
  else s.readCopies slot (0x45000000 + slot * 0x400000) 0x200000 copies n

/-- STRIPE_ARM (R435): `copies` counts the copies of the stripe table that fail, `glitch` is an error, as code, offset and block, that
validation meets and the data does not have. With a re-request outstanding for a block of the
stripe the command goes on waiting for the re-push (R55, R482; log entry 35). -/
def execStripeArm (n copies : Nat) (glitch : Option (Nat × Nat × Nat)) (s : State) : Host.Outcome State Fault Refusal :=
  match s.begun n 0x05 with
  | none => .next s
  | some c =>
    match s.slotOf c.jobId with
    | some i =>
      if (s.job i).status = 1 ∧ (s.blocksOf i c.sel).any (fun f => decide (f.failed ≥ 2)) then .next s
      else .next (s.onJob c (fun i =>
        let s0 := s.tableCopies n i copies
        if (s0.job i).status ≠ 1 then s0
        else match s0.armChecks i c.sel with
          | .error e => s0.armFails n e
          | .ok _ => match s0.armError i c.sel glitch with
            | some e => s0.armInvalid n i c.sel e
            | none => match s0.walk i c.sel with
              | .error e => s0.armInvalid n i c.sel e
              | .ok w => (s0.validated n i c w (w.srec.getD (StripeRec.mk c.sel 0 0 0 0 0 0))).armFree))
    | none => .next (s.fail n Code.HOST_JOB_UNKNOWN)

/-! ### Patch passes -/

/-- Steps 1, 2 and 7 to 10 of R435 for a pass, with the differences of R442. -/
def State.passChecks (s : State) (slot id : Nat) : Except ArmStop StripeRec := do
  let j := s.job slot
  stopIf j.key.isNone Code.PSIPO_KEY_ABSENT
  let n := (j.hdr.map (·.stripeCount)).getD 0
  stopIf (decide (id ≥ n) || s.stripes.any (fun t => t.slot = slot && t.id = id) || !j.ended.contains id) Code.HOST_STRIPE_STATE
  s.armShepherd j
  s.armDevice
  stopIf (s.deficitShort slot) Code.HBM_DEFICIT_SPACE
  match j.recs.find? (·.id = id) with
  | none => .error (Code.HOST_STRIPE_STATE, 0)
  | some r => .ok r

/-- The first and the last row of a list, in bands (R443). -/
def patchSpan (l : List DefEntry) : Nat × Nat :=
  (((l.head?).map (·.row)).getD 0 / 64, ((l.getLast?).map (·.row)).getD 0 / 64)

/-- A checked list armed as the stripe's next pass (R196, R442, R443). -/
def State.armPass (s : State) (n slot : Nat) (c : Cmd) (r : StripeRec) (t : List Byte) : State :=
  let es := patchEntries t (t.length / 16)
  let k := kget (fun _ => 0) (s.job slot).passes c.sel
  if !patchOk r.rows s.width t then s.fail n Code.TALLY_PATCH_FORM
  else if k ≥ 255 then s.fail n Code.TALLY_PATCH_LIMIT
  else
    let b := patchSpan es
    let s1 := s.modJob slot (fun j => { j with passes := kput j.passes c.sel (k + 1) })
    (s1.waitArm n { slot, jobId := c.jobId, id := c.sel, pass := k + 1, st := .armWait, ord := s1.stripeOrd + 1, srec := r, armCmd := n,
                    firstRow := 64 * b.1, endRow := 64 * b.2 + 64, patch := es, staged := b.1, bandsDone := b.1 }).armFree

/-- PATCH_PASS (R196, R442): `listUe` where the list's copy in DRAM cannot be read (R351). -/
def execPatchPass (n : Nat) (buf : Option (List Byte)) (listUe : Bool) (s : State) : Host.Outcome State Fault Refusal :=
  match s.begun n 0x0A with
  | none => .next s
  | some c =>
    if !bufFits c buf then .next s
    else .next (s.onJob c (fun i => match buf with
      | none => s.fail n Code.HOST_DMA_FAULT
      | some t => match s.passChecks i c.sel with
        | .error e => s.armFails n e
        | .ok r =>
          if listUe then s.failRead n (0x45800000 + i * 0x100000)
          else s.armPass n i c r t))

/-! ### Starting -/

/-- The armed stripe or pass that a STRIPE_GO names: with PATCH the pass, without it the stripe's own writing (R436, R442). -/
def State.goStripe (s : State) (slot : Nat) (c : Cmd) : Option Stripe :=
  s.stripes.find? (fun t => t.slot = slot && t.id = c.sel && t.st = .armed && ((t.pass ≠ 0) == (c.flags % 2 = 1 : Bool)))

/-- STRIPE_GO: an armed stripe is waiting (R436, R454). -/
def execStripeGo (n : Nat) (s : State) : Host.Outcome State Fault Refusal :=
  match s.begun n 0x06 with
  | none => .next s
  | some c => .next (s.onJob c (fun i =>
      match s.goStripe i c with
      | none => s.fail n Code.HOST_STRIPE_STATE
      | some x =>
        ((s.ran n).modStripe x (fun t => { t with st := .waiting, goCmd := n, addr2 := c.addr2 })).showStripes))

/-- The waiting stripe whose STRIPE_GO started first. -/
def State.firstWaiting (s : State) : Option Stripe := (sortBy (·.goCmd) (s.stripes.filter (fun t => t.st = .waiting)))[0]?

/-- The epoch of a group has come, or the device is in none (R602). -/
def State.epochOk (s : State) : Bool := !s.grouped || s.ivdon.epochGot

/-- The conditions of a start that no stripe's field is part of (R436, R219, R469, R465). -/
def State.startFree (s : State) : Bool :=
  s.active.isNone && s.fatal = 0 && s.fld R.SYS_INTERLOCK 1 1 = 0 && !s.beamOff && decide (s.logFree > 64) && !s.lanesTraining &&
  !s.anyShutdown && s.enabled 12 && s.enabled 14 && s.enabled 17

/-- The conditions of a start but for those that wait on the generator and on y: the map is complete, the field leads, and the first 256
rows stand in entry staging (R20, R21, R126, R436). -/
def State.startReady (s : State) (x : Stripe) : Bool :=
  s.startFree && (x.pass ≠ 0 || x.prepass = 4) && decide (x.lead ≥ min 2048 (x.endRow - x.firstRow)) &&
  decide (min (x.firstRow + 256) x.endRow ≤ 64 * x.staged)

/-- A start that its pre-pass alone delays, the pre-pass having waited for a block: the turnaround lengthened is counted, once (R159). -/
def State.countWait (s : State) (x : Stripe) : State :=
  if s.startFree ∧ x.pass = 0 ∧ x.prepass ≠ 4 ∧ x.waited then
    (s.modStripe x (fun t => { t with waited := false })).bump R.PENUMBRA_PREPASS_WAITS 31 0 1
  else s

/-- The generator has left HOLD with every cause clear, or none runs (R436, R305). -/
def State.profileReady (s : State) (x : Stripe) : Bool :=
  !s.profRuns || (s.profile.runId = some (x.slot, x.id, x.pass) && decide (s.profile.phase ∈ [1, 2, 3]) &&
    Nat.land s.holdCause 0xFE = 0)

/-- RWB registers brought into force at a stripe boundary (R11). -/
def State.takeForce (s : State) : State :=
  let addrs := (List.range 29).flatMap (fun p => ((pageRows p).filter (fun r => r.acc = .rwb)).map (fun r => p * 0x1000 + r.off))
  { s with force := addrs.foldl (fun m a => kset regReset m a (BitVec.ofNat 32 (s.rd a))) s.force }

/-- The stripe boundary: RWB values, pattern, stray map and staging fences come into force (R11, R177, R182, R375). -/
def State.boundary (s : State) : State :=
  let s1 := s.takeForce.fencesAtBoundary.keepBoundary
  let dtabs := match kget? s1.dnext 0x0C01 with | some t => kput s1.dtabs 0x0C01 t | none => s1.dtabs
  { s1 with dtabs, dnext := [], caps := s1.capsNext.getD s1.caps, capsNext := none }

/-- The commands whose stripes took effect before that of command n and whose completion entries are still to be written: n's
follows them within its job (R37, R437). -/
def State.owedBefore (s : State) (jobId n : Nat) : List Nat :=
  (s.host.cmds.filter (fun c => c.took && c.jobId = jobId && c.n ≠ n)).map (·.n)

/-- A STRIPE_GO or RESUME takes effect. -/
def State.takesEffect (s : State) (jobId n : Nat) : State :=
  s.setCmd n (fun c => { c with took := true, after := s.owedBefore jobId n ++ c.after })

/-- A stripe takes effect (R436, R437, R226, R674): it is the writing one, Drover is armed, FLASH_SET goes out, and its first L
share cycles are computed. -/
def State.takeEffect (s : State) (x : Stripe) : State :=
  let s1 := (s.boundary.modStripe x (fun t => { t with st := .writing, exitRow := t.firstRow, nextCycle := t.firstRow, zoneHold := true })).takesEffect
    x.jobId x.goCmd
  let s2 := s1.startDrover x
  let s3 := (s2.allLanes 0x66 s2.nextIndex).shadeOff (s2.nextIndex % 2 ^ 24)
  let s4 := { s3 with flink := { s3.flink with strobed := [], discard := none }, curSlot := some x.slot,
                      ivdon := { s3.ivdon with epochGot := false } }
  let p := { s4.profile with runId := some (x.slot, x.id, x.pass), limitedSent := false, pH := s4.profile.y.p / 4294967296 }
  State.firstCycles s4.leadL x.ord ({ s4 with profile := if s4.profRuns then p else s4.profile }.showStripes)

/-- A start that fails leaves the stripe armed and completes its STRIPE_GO (R219, R272). -/
def State.startFails (s : State) (x : Stripe) (code : Nat) : State :=
  ((s.fail x.goCmd code).modStripe x (fun t => { t with st := .armed, goCmd := 0, addr2 := 0 })).showStripes

/-- STRIPE_TAKES_EFFECT: with a lane out of service, or y not before the first row, the start fails (R436, R602, R219, R272). -/
def execStripeTakesEffect (smp : Sample) (s : State) : Host.Outcome State Fault Refusal :=
  let s := s.see smp
  match s.firstWaiting with
  | none => .next s
  | some x =>
    if !s.startReady x ∨ !s.profileReady x ∨ !s.epochOk then .next (if s.epochOk then s.countWait x else s)
    else if s.lanesShort then .next (s.startFails x Code.FLINK_LANES_DOWN)
    else if s.startsBefore x then .next (s.takeEffect x)
    else .next (s.startFails x Code.DROVER_START_PAST)

/-! ### Aborting and containing at the host's request -/

/-- The stripe or pass that STRIPE_ABORT, CHECKPOINT and RESUME name. -/
def State.named (s : State) (slot id : Nat) : Option Stripe := s.stripes.find? (fun t => t.slot = slot ∧ t.id = id ∧ t.st ≠ .armWait)

/-- The state that STRIPE_ABORT reports (R428). -/
def Stripe.found (x : Stripe) : Nat :=
  match x.st with | .armWait => 0 | .armed => 0 | .waiting => 1 | .writing => 2 | .draining => 3 | .contained => 4

/-- The stripe's re-requests withdrawn and its decodes abandoned (R82, R105, R453). -/
def State.withdrawStripe (s : State) (x : Stripe) : State :=
  let mine := (s.blocksOf x.slot x.id).map (·.block)
  let s1 := s.dropCtxs (fun c => c.mode = 0 && c.st ≠ 0 && c.slot = x.slot && mine.contains c.block)
  s1.withdraw x.slot (fun b => mine.contains b)

/-- A checkpoint stopped before it verified: its units are discarded (R105), and its CHECKPOINT commands complete with the held flash
(R488). -/
def State.stopCkpt (s : State) (x : Stripe) : State :=
  x.ckptCmds.foldl (fun s n =>
    (s.recordRaw { code := Code.HOST_NOT_WRITING, cls := 7, origin := .operator, cmd := some n }).complete n Code.HOST_NOT_WRITING (lowBits 32 x.held))
    (({ s with ckptUnits := [] }.dropCtxs (fun c => c.mode ≠ 0 && c.purp = 4)).modStripe x (fun t => { t with ckptCmds := [] }))

/-- An abort acts on the state it finds (R439). A stripe that a CHECKPOINT is about to contain is found contained, and one in the
steps of R470 waits for their fifth (R451, R488). -/
def State.abortStripe (s : State) (n : Nat) (x : Stripe) : State :=
  let found := if x.ckptCmds ≠ [] then 4 else x.found
  let s1 := (s.ran n).setCmd n (fun c => { c with after := x.goCmd :: c.after })
  let s2 := s1.modStripe x (fun t => { t with aborts := t.aborts ++ [(n, found)] })
  let y := (s2.byOrd x.ord).getD x
  if x.st = StripeSt.writing then
    if x.ckptCmds ≠ [] then s2 else (((s2.abortHold y).endAborted y.ord).abortRun y).flushStrays
  else if x.st = StripeSt.draining then
    if x.aborting then s2 else (s2.abortHold y).endAborted y.ord
  else if x.st = StripeSt.contained ∧ x.ckpt = 1 then s2
  else
    let s3 := if x.ckpt = 4 ∨ x.ckpt = 5 then s2.undo y y.held else s2.stopCkpt y
    ((s3.abortRun y).abortNow ((s3.byOrd x.ord).getD y)).dropFrames.flushStrays

/-- STRIPE_ABORT (R438, R439). -/
def execStripeAbort (n : Nat) (s : State) : Host.Outcome State Fault Refusal :=
  match s.begun n 0x07 with
  | none => .next s
  | some c => .next (s.onJob c (fun i => match s.named i c.sel with
      | none => s.fail n Code.HOST_NOTHING_TO_ABORT
      | some x => (s.withdrawStripe x).abortStripe n x))

/-- CHECKPOINT (R440, R451). -/
def execCheckpoint (n : Nat) (s : State) : Host.Outcome State Fault Refusal :=
  match s.begun n 0x08 with
  | none => .next s
  | some c => .next (s.onJob c (fun i => match s.named i c.sel with
      | none => s.fail n Code.HOST_NOT_WRITING
      | some x =>
        if x.st ≠ .writing then s.fail n Code.HOST_NOT_WRITING
        else
          let s1 := (s.ran n).modStripe x (fun t => { t with ckptCmds := t.ckptCmds ++ [n] })
          if s.drover.st = 3 ∨ s.drover.st = 4 then s1.contain { code := Code.HOST_CHECKPOINT, cls := 2, origin := .operator, cmd := some n } else s1))

/-! ### Resuming -/

/-- What R476 step 5 compares: PASSERS, WIDTH, HALF, REMAP_CRC and PATTERN_CRC of the Shepherd state in force (R473). -/
def State.modeMark (s : State) : List Nat :=
  [s.passers, s.fld R.SHEPHERD_CODE_WIDTH 2 0, 2 * s.fld R.SHEPHERD_PASSERS 8 8 + s.fld R.SHEPHERD_RELIEVED_HALF 0 0,
   s.remapCrc, s.patternCrc]

/-- The checks of R476 on a contained stripe, up to the reads of its checkpoint. -/
def State.resumeChecks (s : State) (x : Stripe) : Option Nat :=
  let full := ((s.list? x).map (·.entries.length)).getD 0 ≥ 65536 || s.hold.any (fun h => h.ord = x.ord)
  if s.fld R.SYS_INTERLOCK 1 1 = 1 then some Code.SYS_INTERLOCK_ACTIVE
  else if s.anyShutdown then some Code.SYS_THERMAL_HOLD
  else if full then some Code.TALLY_DEFICIT_FULL
  else if x.ckptMode ≠ s.modeMark then some Code.CKPT_MODE_CHANGED
  else match s.resumeCode x with
    | some c => some c
    | none => if s.lanesShort then some Code.FLINK_LANES_DOWN else if s.deflDown then some Code.DEFL_LINK_DOWN else none

/-- Step 1 of R477: the Tally and the stray map in force are read back from their checkpoint; then the writes held meanwhile take effect
(R181). Of the Flock state, LANE_SEQ, FBANK and LANES are as the link holds them (DEDUCED, log entry 175). -/
def State.readCkpt (s : State) : State :=
  (match s.lastCkpt.bind (kget? s.ckpts) with | some c => { s with tally := c.tally, caps := c.caps } | none => s).takeHeld

/-- Tiles that fail their CRC, or a tag, as entry staging is refilled (R477 step 2): by band, column and the words that fail, none for the
CRC. -/
def State.refillFails (s : State) (x : Stripe) (h1 : Nat) (bad : List (Nat × Nat × Option Nat)) : List (Nat × Nat × Option Nat) :=
  if x.ring.isNone then [] else bad.filter (fun b => decide (h1 / 64 ≤ b.1 ∧ b.1 < x.staged ∧ b.2.1 < s.width / 64))

/-- Entry staging refilled from the field ring, from row h + 1 on (R477 step 2); a band with a tile on which no two runs agreed is not
there (R132). -/
def State.refill (s : State) (x : Stripe) (h1 : Nat) : State :=
  if x.ring.isNone then s
  else (List.range (64 * x.staged - h1)).foldl (fun t i =>
    let r := h1 + i
    { t with staging := if x.lostTiles.any (fun l => l.1 = r / 64) then kdel t.staging (stageKey x.ord r)
                        else kput t.staging (stageKey x.ord r) (s.bandRow x (r / 64) (r % 64)) }) s

/-- The restore of R477 and R479: the flash base moves past the gap, the list is open again, Drover is in REWIND, the generator's
cause is cleared once a group's epoch has come, and the first L share cycles are computed. -/
def State.restore (s : State) (x : Stripe) (n : Nat) (addr2 : Nat) : State :=
  let h1 := (x.held + 1).toNat
  let s1 := (((s.ran n).takesEffect x.jobId n).readCkpt.refill x h1).modStripe x (fun t => { t with ckpt := 5, goCmd := n, addr2, flashBase := s.nextIndex - h1, nextCycle := h1 })
  let s2 := (s1.rewindDrover.modList x (fun d => { d with state := 0 })).droverTo 4
  let s3 := { s2 with flink := { s2.flink with strobed := [], discard := none },
                      profile := { s2.profile with resumeWait := decide (s2.grouped ∧ !s2.ivdon.epochGot) },
                      ivdon := { s2.ivdon with epochGot := false } }
  let s4 := s3.allLanes 0x66 s3.nextIndex
  let s5 := if s4.fld R.MIRROR_MODE 1 0 = 2 then
      (List.range 64).foldl (fun s l => s.setLane l { s.lane l with echoLeft := s.fld R.MIRROR_WINDOW 15 0 }) s4 else s4
  State.firstCycles s5.leadL x.ord s5.lanternWake

/-- RESUME (R441, R476, R477): `reads` holds the outcomes of the checkpoint's reads; one re-read is allowed. Re-rasterizations kept while
the stripe was contained come first (R137), and those of tiles that fail as entry staging is refilled. -/
def execResume (n : Nat) (smp : Sample) (reads : List Bool) (bad : List (Nat × Nat × Option Nat)) (s : State) : Host.Outcome State Fault Refusal :=
  let s := s.see smp
  match s.begun n 0x09 with
  | none => .next s
  | some c => .next (s.onJob c (fun i => match s.named i c.sel with
      | none => s.fail n Code.HOST_STRIPE_STATE
      | some x =>
        if x.st ≠ .contained ∨ x.ckpt ≠ 3 then s.fail n Code.HOST_STRIPE_STATE
        else match s.resumeChecks x with
          | some code => s.fail n code
          | none =>
            if x.requests ≠ [] then s
            else if reads.getD 0 true ∨ reads.getD 1 true then
              match s.refillFails x (x.held + 1).toNat bad with
              | [] => s.restore x n c.addr2
              | l => l.foldl (fun s b => s.tileFail x b.1 b.2.1 b.2.2) s
            else s.jobFatalRec i { code := Code.CKPT_READ_FAIL, cls := 3, stripe := x.who } n))

end Sys2Proof.Machine
end

