-- ==== Sys2Proof/Machine/Codec.lean ====
section
/-! DEFINITION. The stream codec's contexts: cached blocks read and decoded, suspended and resumed, and the exports it compresses
(R97 to R108, R339, R351, R671). -/

namespace Sys2Proof.Machine

/-- The device address of a cache frame (R332, R337). -/
def frameDa (k : Nat) : Nat := 0x310000000 + k * 0x10000

/-- The codec works: its page is enabled and its working space has been written since power-up (R108). -/
def State.codecOn (s : State) : Bool := s.enabled 8 && s.filled 5 && s.fatal = 0

/-- CACHE_READ: the block's unit goes to a decode context, 0 and 1 for Lantern, 2 and 3 for validation and the pre-pass, `given` of its
bytes at once and `space` for its output, or the read fails (R339, R55, R349, R351, R103). Nothing made of the block counts until its
unit has ended (R99). -/
def execCacheRead (ctx slot block given space : Nat) (fault : ReadFault) (s : State) : Host.Outcome State Fault Refusal :=
  match s.frameOf slot block with
  | none => .next s
  | some (k, f) =>
    if ctx > 3 ∨ f.failed ≥ 2 ∨ !s.enabled 8 ∨ s.fatal ≠ 0 ∨ (1 ≤ (s.ctx ctx).st ∧ (s.ctx ctx).st ≤ 3) then .next s
    else match fault with
      | .ok =>
        let c : Ctx := { mode := 0, st := 1, inp := f.unit, given, space, slot, block }
        .next ({ s with frames := kput s.frames k { f with failed := 0, opened := false } }.setCtx ctx c)
      | .crc => .next ((s.record (blockRec s f Code.HBM_CACHE_CRC 0)).readFailed k f Code.HBM_CACHE_CRC)
      | .tag => .next ((s.record (blockRec s f Code.HBM_CACHE_TAG 0)).readFailed k f Code.HBM_CACHE_TAG)
      | .ue => .next ((s.hbmUe (frameDa k) (some ((s.job slot).jobId, f.stripe))).readFailed k f (s.ueCode (frameDa k)))

/-- A context suspended in a decoder's state (R104). CTX_BITS then counts the bits left of the byte that the decoder has reached
(DESIGN CHOICE, log entry 153). -/
def Ctx.suspend (c : Ctx) (st : Nat) (d : Dec) (len dist : Nat) : Ctx :=
  { c with st, out := d.out.reverse, matchLen := len, matchDist := dist, storedLeft := d.left, bits := (8 - d.pos % 8) % 8 }

/-- A context that runs on with more input and more room (R104). -/
def Ctx.goOn (c : Ctx) (given space : Nat) : Ctx :=
  { c with st := 1, given := c.given + given, space := c.space + space, matchLen := 0, matchDist := 0, storedLeft := 0, bits := 0 }

/-- The decode of what has come of a context's unit. -/
def Ctx.decode (c : Ctx) : DecRes := decodeUnit (c.inp.take c.given) (decide (c.inp.length ≤ c.given)) c.space

/-- A unit that ends in a fault (R98, R99, R77): its effects are not committed, and its block is read again. -/
def State.decodeError (s : State) (i : Nat) (c : Ctx) (code off : Nat) : State :=
  let s1 := (s.setCtx i { c with st := 5, out := [], err := code, errOff := off }).inc R.CODEC_DECODE_ERRORS
  match s1.frameOf c.slot c.block with
  | none => s1
  | some (k, f) => (s1.record (blockRec s1 f code off)).readFailed k f code

/-- A unit in work discarded and run again (R371). -/
def Ctx.again (c : Ctx) : Ctx := { c with mode := min c.mode 1, st := 1, out := [], matchLen := 0, matchDist := 0, storedLeft := 0, bits := 0 }

/-- The end of what a context's engine decodes: the unit's end conditions, or the suspension (R98, R78, R104). -/
def State.decodeEnd (s : State) (ctx : Nat) (c : Ctx) : State :=
  match c.decode with
  | .needInput d => s.setCtx ctx (c.suspend 2 d 0 0)
  | .needSpace d len dist => s.setCtx ctx (c.suspend 3 d len dist)
  | .err code off => s.decodeError ctx c code off
  | .done out =>
    match s.frameOf c.slot c.block with
    | none => (s.setCtx ctx { c with st := 4, out }).inc R.CODEC_UNITS_DONE
    | some (k, f) =>
      if f.dlen ≠ out.length then s.decodeError ctx c Code.PSIPO_ENV_LENGTH 0
      else ({ s with frames := kput s.frames k { f with opened := true } }.setCtx ctx { c with st := 4, out }).inc R.CODEC_UNITS_DONE

/-- CODEC_DECODE_END: the unit's end conditions (R98, R78), or the suspension of a context that has come to the end of its input
or its output region (R104); only a context that an engine serves comes to it (R103). A length that is not DLEN is named by offset 0
(DESIGN CHOICE, log entry 154). An uncorrectable error of the working space has the unit run again (R371). -/
def execCodecDecodeEnd (ctx : Nat) (sram : List SramErr) (s : State) : Host.Outcome State Fault Refusal :=
  let c := s.ctx ctx
  if !s.codecEng.dec.contains ctx ∨ c.st ≠ 1 ∨ c.mode ≠ 0 ∨ s.fatal ≠ 0 ∨ s.clockHeld then .next s
  else if spoils sram 5 5 then .next ((s.setCtx ctx c.again).sramErrs sram)
  else .next ((s.decodeEnd ctx c).sramErrs sram)

/-! ### Units that the codec compresses -/

/-- The 32 bytes of a trace record (R634). -/
def TraceRec.bytes (r : TraceRec) : List Byte :=
  leBytes 4 r.seq ++ leBytes 4 (r.page * 2 ^ 24 + r.kind * 2 ^ 16 + r.code) ++ leBytes 4 r.sec ++ leBytes 4 r.nsec ++
  ((r.data.flatMap (leBytes 4)) ++ List.replicate 16 0).take 16

/-- The 20 bytes that begin a signature entry (R579). -/
def signHead (seq sec nsec : Nat) : List Byte :=
  leBytes 4 seq ++ leBytes 2 (seq / 2 ^ 32) ++ leBytes 2 0xFFFF ++ leBytes 4 sec ++ leBytes 2 (sec / 2 ^ 32) ++ leBytes 2 0 ++ leBytes 4 nsec

/-- The 128 bytes of a slot of the audit pool (R577, R579). -/
def AuditSlot.bytes : AuditSlot → List Byte
  | .record r => r.body ++ beBytes 48 r.chain
  | .signature seq sec nsec v => signHead seq sec nsec ++ List.replicate 12 0 ++ beBytes 96 v

/-- The slots being exported, oldest first (R581). -/
def State.exportSlots (s : State) : List AuditSlot := s.audit.pool.reverse.take s.audit.exportCount

/-- The bytes of a map band: its densities by row and map column, little-endian (R149). -/
def State.bandBytes (s : State) (set band rows : Nat) : List Byte :=
  let m := kget (fun _ => []) s.density set
  let cols := mapCols s.width
  (List.range (cols * (min (64 * band + 64) rows - 64 * band))).flatMap (fun i => leBytes 2 (kget (fun _ => 0) m (64 * band * cols + i)))

/-- The words of Tally slots 1,024 u to 1,024 u + 1,023, a slot without a row as words of 0 (R472; DESIGN CHOICE, log entry 155). -/
def State.tallyBytes (s : State) (u : Nat) : List Byte :=
  (List.range 1024).flatMap (fun i => match kget? s.tally (1024 * u + i) with
    | none => List.replicate (2 * s.width) 0
    | some w => (List.range s.width).flatMap (fun c => leBytes 2 (kget (fun c => tallyWord w.id c w.row 0 0) w.words c).toNat))

/-- The input of a unit that a requester wants: the trace (1), the audit export (2), a map band (3), a checkpoint unit (4); none where
that unit is not wanted (R447, R581, R149, R472). -/
def State.unitInput (s : State) (purp item : Nat) : Option (List Byte) :=
  match purp with
  | 1 => if s.trace.st = 3 then some (s.trace.recs.reverse.flatMap TraceRec.bytes) else none
  | 2 => if s.fld R.AUDIT_EXPORT_STATE 3 0 = 1 ∧ s.audit.exportSign = 3 ∧ s.audit.exportMade = none
    then some (s.exportSlots.flatMap AuditSlot.bytes) else none
  | 3 => match s.stripes.find? (fun t => t.prepass = 3) with
    | none => none
    | some x =>
      if x.mapSet = some (item / 2 ^ 20) ∧ item % 2 ^ 20 < x.srec.bands ∧ kget? s.mapBands item = none
      then some (s.bandBytes (item / 2 ^ 20) (item % 2 ^ 20) (x.srec.rows / 16)) else none
  | 4 => match s.containedS with
    | none => none
    | some x =>
      if x.ckpt ≠ 2 ∨ item > 8 ∨ (kget? s.ckptUnits item).isSome then none
      else some (if item = 8 then capBytes s.caps else s.tallyBytes item)
  | _ => none

/-- The units that may go to a context, in the order in which the model takes them (R103; DESIGN CHOICE, log entry 156). -/
def State.unitJobs (s : State) (ctx : Nat) : List (Nat × Nat) :=
  if ctx = 4 ∨ ctx = 5 then (List.range 9).map (fun u => (4, u))
  else if ctx = 6 ∨ ctx = 7 then
    (match s.stripes.find? (fun t => t.prepass = 3) with
      | none => []
      | some x => (List.range x.srec.bands).map (fun b => (3, bandKey (x.mapSet.getD 0) b))) ++ [(1, 0), (2, 0)]
  else []

/-- A unit is in no context yet. -/
def State.unitFree (s : State) (j : Nat × Nat) : Bool :=
  (List.range 8).all (fun i => let c := s.ctx i; !(c.mode ≠ 0 && c.purp = j.1 && c.item = j.2 && decide (1 ≤ c.st ∧ c.st ≤ 3)))

/-- The unit that an idle context takes next, with its input. -/
def State.nextUnit (s : State) (ctx : Nat) : Option (Nat × Nat × List Byte) :=
  (s.unitJobs ctx).findSome? (fun j => if s.unitFree j then (s.unitInput j.1 j.2).map (fun b => (j.1, j.2, b)) else none)

/-- The exported trace in the host's buffer, as far as it holds it (R447, R423). -/
def State.traceOut (s : State) (unit : List Byte) : State :=
  match s.cmd? s.trace.cmd with
  | none => { s with trace := { s.trace with st := 4 } }
  | some c =>
    let b := unit.take c.len
    (({ s with trace := { s.trace with st := 4 } }).emit (.hostWrite c.addr b)).complete c.n 0 b.length

/-- A verified unit reaches its requester (R100). -/
def State.unitDone (s : State) (purp item : Nat) (unit : List Byte) : State :=
  match purp with
  | 1 => s.traceOut unit
  | 2 => { s with audit := { s.audit with exportMade := some unit } }
  | 3 => { s with mapBands := kput s.mapBands item unit }
  | _ => { s with ckptUnits := kput s.ckptUnits item unit }

/-- An attempt of a checkpoint has failed: its record, and the checkpoint is written once more into the same slot; after a second
failure the job is fatal (R475). -/
def State.ckptFailed (s : State) (x : Stripe) (a : RecArg) : State :=
  let seq := s.log.nextSeq % 2 ^ 32
  let s1 := ({ s.record { a with cls := 1, stripe := x.who } with ckptUnits := [] }).dropCtxs (fun c => c.mode ≠ 0 && c.purp = 4)
  if x.ckptTry = 0 then s1.modStripe x (fun t => { t with ckptTry := seq })
  else (s1.setFld R.SYS_CKPT_STATE 3 0 4).jobFatalRec x.slot { code := Code.CKPT_WRITE_FAIL, cls := 3, stripe := x.who, cause := x.ckptTry }

/-- A unit whose stored form does not verify either (R101): an export ends with the code (R109), a checkpoint's attempt has failed
(R475), and a map band is compressed again from the density map, which is unchanged (DESIGN CHOICE, log entry 157). -/
def State.unitFailed (s : State) (ctx purp : Nat) : State :=
  let a : RecArg := { code := Code.CODEC_VERIFY_MISMATCH, cls := 1, lk := 8, l0 := ctx }
  match purp with
  | 1 =>
    let s1 := s.record { a with cmd := some s.trace.cmd }
    ({ s1 with trace := { s1.trace with st := 4 } }).complete s1.trace.cmd Code.CODEC_VERIFY_MISMATCH 0
  | 2 =>
    let s1 := s.record a
    ({ s1 with audit := { s1.audit with exportSign := 0, exportCount := 0 } }).setFld R.AUDIT_EXPORT_STATE 3 0 3
  | 3 => s.record a
  | _ => match s.containedS with
    | none => s
    | some x => s.ckptFailed x a

/-- A mismatch of the self-verify (R101, R107): what the unit gave is discarded, suspended or not. The first is counted and the unit
compressed once more in stored blocks only; the second fails it. -/
def State.verifyMiss (s : State) (ctx : Nat) (c : Ctx) : State :=
  if !c.retry then
    (((s.inc R.CODEC_VERIFY_FAILS).record { code := Code.CODEC_VERIFY_MISMATCH, cls := 1, lk := 8, l0 := ctx })).setCtx ctx
      { c with mode := 1, st := 1, retry := true, out := [], rel := [], matchLen := 0, matchDist := 0, storedLeft := 0, bits := 0 }
  else (s.setCtx ctx { c with st := 5, out := [], rel := [], err := Code.CODEC_VERIFY_MISMATCH }).unitFailed ctx c.purp

/-- A unit that the compressor may make of a context's input: within the growth bound, going on from what a flush released, and in
stored blocks only at the second attempt (R97, R101, R102). -/
def Ctx.mayMake (c : Ctx) (unit : List Byte) : Bool :=
  decide (unit.length ≤ unitBound c.inp.length c.flushes) && (c.rel.drop 16).isPrefixOf (unit.drop 16) && (!c.retry || storedOnly unit)

/-- The blocks emitted so far decode to what the compressor has taken of its input (R100). -/
def Ctx.soFar (c : Ctx) (window : Nat) (part : List Byte) : Bool :=
  match unitSoFar c.inp.length window part with | some b => b.isPrefixOf c.inp | none => false

/-- The window of the units written (CFG.WINDOW_LOG). -/
def State.codecWindow (s : State) : Nat := 2 ^ s.fld R.CODEC_CFG 4 0

/-- The part of a unit up to a flush: its last block is an empty stored one, and it keeps the bound of R97 (R102). -/
def Ctx.mayFlush (c : Ctx) (part : List Byte) : Bool :=
  decide (20 ≤ part.length ∧ part.length ≤ unitBound (min c.given c.inp.length) (c.flushes + 1)) && (c.rel.drop 16).isPrefixOf (part.drop 16) &&
  part.drop (part.length - 4) == [0, 0, 255, 255]

/-- A flush takes effect (R102): once every block before it has verified, the output up to it is released, a trace's to the host; a
block that does not verify is a mismatch (R101). -/
def State.takeFlush (s : State) (ctx : Nat) (c : Ctx) (part : List Byte) : State :=
  if !c.mayFlush part then s.setCtx ctx c
  else if (unitSoFar c.inp.length s.codecWindow part).map (fun b => decide (b = c.inp.take c.given)) ≠ some true then s.verifyMiss ctx c
  else
    let s1 := s.setCtx ctx { c with rel := part, flushes := c.flushes + 1, pend := false }
    match (if c.purp = 1 then s1.cmd? s1.trace.cmd else none) with
    | none => s1
    | some x => s1.emit (.hostWrite (x.addr + c.rel.length) ((part.take x.len).drop c.rel.length))

/-- CODEC_CONTEXT_RESUME: a suspended context runs on with `given` more bytes of its input and `space` more room (R104), and a flush that
waited for room takes effect with the output up to it, `part` (R106). An idle compress context takes the unit that waits for it
(R103). -/
def execCodecContextResume (ctx given space : Nat) (part : List Byte) (s : State) : Host.Outcome State Fault Refusal :=
  let c := s.ctx ctx
  if ctx > 7 ∨ s.fatal ≠ 0 then .next s
  else if c.st = 2 ∨ c.st = 3 then
    if c.mode = 1 ∧ c.pend then .next (s.takeFlush ctx (c.goOn given space) part) else .next (s.setCtx ctx (c.goOn given space))
  else if c.st = 1 ∨ !s.codecOn then .next s
  else match s.nextUnit ctx with
    | none => .next s
    | some (purp, item, inp) => .next (s.setCtx ctx { mode := 1, st := 1, inp, given, space, purp, item, err := c.err, errOff := c.errOff })

/-- The compress engine's end of a context's unit: it suspends where its input or its room ends, else the unit waits for the verify
engine with `room` for its output (R100, R104). -/
def State.compressEnd (s : State) (ctx : Nat) (c : Ctx) (unit : List Byte) (room : Nat) : State :=
  if c.given < c.inp.length then s.setCtx ctx { c with st := 2 }
  else if c.space < unit.length then s.setCtx ctx { c with st := 3 }
  else if !c.mayMake unit then s
  else s.setCtx ctx { c with mode := 2, out := unit, space := room }

/-- The verify engine's end of a unit: it suspends where its room ends; the unit passes when it decodes to its input (R100, R104). -/
def State.verifyEnd (s : State) (ctx : Nat) (c : Ctx) : State :=
  match decodeUnit c.out true c.space with
  | .needSpace d len dist => s.setCtx ctx { c with st := 3, matchLen := len, matchDist := dist, storedLeft := d.left, bits := (8 - d.pos % 8) % 8 }
  | .done b =>
    if b = c.inp then ((s.setCtx ctx { c with st := 4 }).inc R.CODEC_UNITS_DONE).unitDone c.purp c.item c.out else s.verifyMiss ctx c
  | _ => s.verifyMiss ctx c

/-- A line of the export staging that cannot be read back: the export fails with HBM_UE and may be issued again (R109, R351). -/
def State.exportUnread (s : State) (ctx da : Nat) (c : Ctx) : State :=
  let s1 := s.setCtx ctx { c with st := 5, out := [], rel := [], err := s.ueCode da }
  if c.purp = 1 then ({ s1 with trace := { s1.trace with st := 4 } }).failRead s1.trace.cmd da
  else ({ s1.hbmUe da with audit := { (s1.hbmUe da).audit with exportSign := 0, exportCount := 0 } }).setFld R.AUDIT_EXPORT_STATE 3 0 3

/-- The export a context verifies stands in the export staging (R332, R581) and meets an uncorrectable line there. -/
def State.stagingUe (s : State) (c : Ctx) (ue : Option Nat) : Option Nat :=
  ue.filter (fun da => decide ((c.purp = 1 ∨ c.purp = 2) ∧ 0x45A00000 ≤ da ∧ da < 0x49A00000) && s.readFails da)

/-- CODEC_COMPRESS_DONE (R97, R100, R101, R103, R107, R108): `unit` is what the compressor has made so far, `room` the room for what the
verify engine decodes. A context in compression comes to its end or, suspended, shows whether what it has emitted verifies; one in
verification ends its unit, or its export where a line of the staging, `ue`, cannot be read (R351). An uncorrectable error of the working
space has the unit run again (R371). -/
def execCodecCompressDone (ctx : Nat) (unit : List Byte) (room : Nat) (ue : Option Nat) (sram : List SramErr) (s : State) : Host.Outcome State Fault Refusal :=
  let c := s.ctx ctx
  if ctx < 4 ∨ ctx > 7 ∨ !s.codecOn then .next s
  else if c.mode = 1 ∧ c.st = 1 ∧ s.codecEng.comp.contains ctx then
    if spoils sram 5 5 then .next ((s.setCtx ctx c.again).sramErrs sram) else .next ((s.compressEnd ctx c unit room).sramErrs sram)
  else if c.mode = 1 ∧ (c.st = 2 ∨ c.st = 3) then if c.soFar s.codecWindow unit then .next s else .next (s.verifyMiss ctx c)
  else if c.mode = 2 ∧ c.st = 1 ∧ s.codecEng.ver.contains ctx then
    match s.stagingUe c ue with
    | some da => .next ((s.exportUnread ctx da c).sramErrs sram)
    | none => if spoils sram 5 5 then .next ((s.setCtx ctx c.again).sramErrs sram) else .next ((s.verifyEnd ctx c).sramErrs sram)
  else .next s

/-- CODEC_FLUSH: the block in work of a compressing context ends with an empty stored block, `part` being its output up to there (R102);
while the context is suspended on its output the flush waits (R106). -/
def execCodecFlush (ctx : Nat) (part : List Byte) (s : State) : Host.Outcome State Fault Refusal :=
  let c := s.ctx ctx
  if ctx < 4 ∨ ctx > 7 ∨ !s.codecOn ∨ c.mode ≠ 1 then .next s
  else if c.st = 1 ∨ c.st = 2 then .next (s.takeFlush ctx c part)
  else if c.st = 3 then .next (s.setCtx ctx { c with pend := true })
  else .next s

end Sys2Proof.Machine
end

