-- ==== Sys2Proof/Machine/Faults.lean ====
section
/-! DEFINITION. Faults and recovery: the steps of a containment and its checkpoint, the interlock, resets, the error log's
release, device-fatal causes (R459, R465 to R493, R509, R649). -/

namespace Sys2Proof.Machine

/-! ### Containment and checkpoint -/

/-- Steps 4 and 5 of R470 up to the undoing: frames for flashes up to h that have not settled are CUT, flashes are confirmed or
cut, and every carry and mark of the frames for flashes up to h is applied in the order of R23 (R189). -/
def State.settleAll (s : State) (x : Stripe) (h : Int) : State :=
  let late := s.flink.frames.filter (fun f => f.sent && !f.settled && !f.withheld && decide ((f.index : Int) ≤ x.flashBase + h))
  let s1 := late.foldl (fun s f => s.cutFrame f) s
  (s1.drover.unconfirmed.foldl State.confirmFlash s1).applyFor (fun a => a.ord ≠ x.ord || decide ((a.flash : Int) ≤ h))

/-- Step 5 of R470 complete: an abort that waited for it ends the stripe (R488), else the checkpoint is written. -/
def State.afterSettle (s : State) (x : Stripe) : State :=
  match s.byOrd x.ord with
  | none => s
  | some y =>
    if y.aborts ≠ [] then (((s.stopCkpt y).abortRun y).abortNow { y with ckptCmds := [] }).dropFrames.flushStrays
    else (s.modStripe y (fun t => { t with ckpt := 2 })).setFld R.SYS_CKPT_STATE 3 0 2

/-- A restore undone once its frames have settled: the checkpoint stands, and the RESUME completes CONTAINED (R471, R489). -/
def State.afterUndo (s : State) (x : Stripe) : State :=
  let s1 := ((s.modStripe x (fun t => { t with ckpt := 3 })).endStripe x 3 2 x.cause).setFld R.SYS_CKPT_STATE 3 0 3
  s1.modStripe x (fun t => { t with goCmd := 0, addr2 := 0 })

/-- CONTAIN_SETTLED (R470 steps 4 and 5, R489): `fx` is what the checks of the rows in the hold meet, in row order. -/
def execContainSettled (fx : List ExitFaults) (s : State) : Host.Outcome State Fault Refusal :=
  match s.containedS with
  | none => .next s
  | some x =>
    if s.fatal ≠ 0 then .next s
    else if x.ckpt = 1 then
      let s1 := (s.settleAll x x.held).undo x x.held
      .next ((State.checkAll s1.hold.length fx s1).afterSettle x)
    else if x.ckpt = 4 then .next (((s.settleAll x x.held).undo x x.held).afterUndo x)
    else .next s

/-- The checkpoint slot that the next checkpoint takes: never the last verified one (R335). -/
def State.ckptSlot (s : State) : Nat := if s.lastCkpt = some 0 then 1 else 0

/-- The 48 low bits of a number in an 8-byte field. -/
def field48 (v : Int) : List Byte := leBytes 8 (lowBits 48 v)

/-- The entries of the header's UNITS: each unit on the next 64-byte boundary after the 4 KiB of the header (R472, R473). -/
def unitEntries : Nat → List (List Byte) → List Byte
  | _, [] => []
  | at', u :: us => leBytes 4 at' ++ leBytes 4 u.length ++ leBytes 4 (leAt u 12 4) ++ leBytes 4 0 ++ unitEntries (at' + ceilDiv u.length 64) us

/-- The 4,096 bytes of a checkpoint's header (R473). -/
def State.ckptHeader (s : State) (x : Stripe) : List Byte :=
  let d := s.drover.atHeld
  let l := s.list? x
  let b := leBytes 4 0x54504B43 ++ leBytes 4 (x.slot * 2 ^ 16 + 1) ++ leBytes 4 x.jobId ++ leBytes 4 x.id ++
    leBytes 4 (lowBits 32 x.held) ++ leBytes 4 ((x.count + 1) * 2 ^ 16 + x.cause) ++ leBytes 4 x.causeSeq ++ leBytes 4 0 ++
    leBytes 8 (lowBits 64 d.yPeak) ++ leBytes 8 (lowBits 64 d.baseY) ++ field48 d.baseT ++ field48 d.ratio ++
    leBytes 4 (d.bank * 2 ^ 16 + (if d.aux then 2 ^ 10 else 0) + d.zoneNext) ++ leBytes 4 0 ++ field48 x.flashBase ++ field48 d.o ++
    field48 d.oS ++ field48 (s.profile.pH.fdiv 4294967296) ++ List.replicate 24 0 ++
    leBytes 4 (lowBits 32 (x.held + 1)) ++ leBytes 4 x.exitRow ++ leBytes 4 ((l.map (·.entries.length)).getD 0) ++
    leBytes 4 (crcC (((l.map (·.entries)).getD []).flatMap DefEntry.bytes)) ++
    leBytes 4 (s.passers * 2 ^ 16 + s.fld R.SHEPHERD_CODE_WIDTH 2 0 * 2 ^ 8 + s.fld R.SHEPHERD_RELIEVED_HALF 1 0) ++
    leBytes 4 (s.inForce R.SHEPHERD_PATTERN_SEL % 256) ++ leBytes 4 s.remapCrc ++ leBytes 4 s.patternCrc ++ List.replicate 32 0 ++
    (List.range 64).flatMap (fun i => leBytes 2 (s.lane i).seq) ++ leBytes 4 s.bankNow ++ leBytes 4 0 ++ leBytes 8 s.lanesUpBits ++
    List.replicate 48 0 ++ unitEntries 64 ((List.range 9).map (kget (fun _ => []) s.ckptUnits)) ++ List.replicate 3564 0
  b ++ leBytes 4 (crcC b)

/-- A verified checkpoint stands in its slot: bell word 4, CKPT_STATE, the SYS interrupt (R472 to R474). -/
def State.verifyCkpt (s : State) (x : Stripe) : State :=
  let c := s.ckptSlot
  let s0 := { s with ckpts := kput s.ckpts c ⟨s.ckptHeader x, s.ckptUnits, s.tally, s.caps⟩, ckptUnits := [] }
  let s1 := s0.writeBell 4 (x.jobId * 2 ^ 32 + x.slot * 2 ^ 8 + 2 ^ 4 + c) 0
  (({ s1 with lastCkpt := some c }.setFld R.SYS_CKPT_STATE 8 8 c).setFld R.SYS_CKPT_STATE 3 0 3).raiseIrq 0 3

/-- Step 7 of R470: CHECKPOINT commands complete with h, and the STRIPE_GO or RESUME completes CONTAINED with the first
containing code (R440, R437, R473 COUNT and CAUSE). -/
def State.containDone (s : State) (x : Stripe) : State :=
  let s1 := (s.verifyCkpt x).modStripe x (fun t => { t with ckpt := 3, count := t.count + 1, ckptMode := s.modeMark, ckptCmds := [] })
  let s2 := x.ckptCmds.foldl (fun s n => s.complete n 0 (lowBits 32 x.held)) s1
  (s2.endStripe x 3 2 x.cause).modStripe x (fun t => { t with goCmd := 0, addr2 := 0 })

/-- CHECKPOINT_VERIFIED: the header is written once the nine units stand, and header and units read back; `fail` gives the
offset in the slot of a line whose write has failed three repeats, or, with true, whose read-back is uncorrectable (R352, R474, R475). -/
def execCheckpointVerified (fail : Option (Bool × Nat)) (s : State) : Host.Outcome State Fault Refusal :=
  match s.containedS with
  | none => .next s
  | some x =>
    if x.ckpt ≠ 2 ∨ s.fatal ≠ 0 then .next s
    else match fail with
      | some (read, off) =>
        let da := 0x31000000 + s.ckptSlot * 0xA000000 + off % 0xA000000
        let p := s.physOf (daRank da)
        if read then .next (((s.showDaErr da (s.readRank da) R.HBM0_UE_COUNT).ckptFailed x (s.ueRec da 1)).missRead da)
        else .next ((s.repeatWrites da 3).ckptFailed x (daRec (rankPage p * 256 + 0x43) 1 da p))
      | none => if (List.range 9).all (fun u => (kget? s.ckptUnits u).isSome) then .next (s.containDone x) else .next s

/-! ### The interlock -/

/-- BEAM_OFF: LATCHED, SHADE_OUT, SHADE with NOW on every lane, and the writing stripe contained (R467, R469, R471). -/
def execBeamOff (s : State) : Host.Outcome State Fault Refusal :=
  if s.beamOff then .next s
  else if s.power = .night ∨ !s.booted then .next { s with beamOff := true }
  else
    let s1 := ((({ s with beamOff := true }).setFld R.SYS_INTERLOCK 1 1 1).showPins s.i3cByte).raiseIrq 0 2
    if s.fatal ≠ 0 then .next s1
    else
      let a : RecArg := { code := Code.SYS_BEAM_OFF, cls := 2 }
      .next (if s.active.isSome then s1.contain a true else (s1.shadeOn true).contain a true)

/-- BEAM_OFF_RELEASE (R468). -/
def execBeamOffRelease (s : State) : Host.Outcome State Fault Refusal :=
  if s.power = .night ∨ !s.booted then .next { s with beamOff := false }
  else .next ((({ s with beamOff := false }).showPins s.i3cByte).dropIrq 0 2)

/-- A write of INTERLOCK: FORCE_SHADE is written, and LATCHED clears while BEAM_OFF_N is high (R468, R469, R492). -/
def State.writeInterlock (s : State) (o : Origin) (v : Nat) : State :=
  match s.permit o R.SYS_INTERLOCK v with
  | .error s => s
  | .ok s => (s.applyWrite o R.SYS_INTERLOCK (if s.beamOff then withField v 1 1 0 else v)).showPins s.i3cByte

/-- INTERLOCK_LATCHED_CLEAR. -/
def execInterlockLatchedClear (o : Origin) (v : Nat) (s : State) : Host.Outcome State Fault Refusal := .next (s.writeInterlock o v)

/-- FORCE_SHADE. -/
def execForceShade (o : Origin) (v : Nat) (s : State) : Host.Outcome State Fault Refusal := .next (s.writeInterlock o v)

/-! ### Resets -/

/-- What outlives Night and a device reset (R380, R494, R533, R568, R574, R591): the keep, the bell words, the Fold's own array and
images, the anchors of the audit log, the always-on count, and the levels of the pins. -/
def State.restart (s : State) (cause : Nat) : State :=
  let f := s.fold
  let f0 : Fold := { ownerKey := f.ownerKey, keysvcKey := f.keysvcKey, serviceKey := f.serviceKey, tamperHold := f.tamperHold,
                     tamperLatch := f.tamperLatch, slots := f.slots, running := f.running, next := f.next }
  let a := s.audit
  let a0 : Audit := { exportedSeq := a.exportedSeq, exportedChain := a.exportedChain, signedSeq := a.signedSeq,
                      signedChain := a.signedChain, powerups := a.powerups }
  let fatal := (if s.fatal ≠ 0 then 16 else 0) + (if s.fatal = Code.SYS_WATCHDOG then 8 else 0)
  let s1 : State := { keep := s.keep, bells := s.bells, bellDead := s.bellDead, fold := f0, audit := a0, age := { trend := s.age.trend },
                      clock := { aoSec := s.clock.aoSec, aoCount := s.clock.aoCount, aoFrac := s.clock.aoFrac },
                      beamOff := s.beamOff, gpioHigh := s.gpioHigh, rails := s.rails, lastCkpt := s.lastCkpt, free := s.free, out := s.out,
                      pending := s.pending }
  (s1.wr R.SYS_RESET_CAUSE (cause + fatal)).wr R.FOLD_TAMPER_CFG (s.rd R.FOLD_TAMPER_CFG)

/-- A device reset (R485): volatile state is lost; the power-up sequence follows as POWER_UP (R486, R622; log entry 37). -/
def State.deviceReset (s : State) (cause : Nat) : State := (s.restart cause).tellBoard s.i3cByte

/-- The main rails are gone (R503, R504). -/
def State.toNight (s : State) : State := { s.restart 0 with power := .night, rails := 0 }

/-- DEVICE_RESET: 0xD5 resets; other values are discarded (R485, R492). -/
def execDeviceReset (o : Origin) (v : Nat) (s : State) : Host.Outcome State Fault Refusal :=
  .next (s.act o R.SYS_DEVICE_RESET v (fun s => if v % 256 = 0xD5 then s.deviceReset 4 else s))

/-- PCIE_FUNDAMENTAL_RESET. -/
def execPcieFundamentalReset (s : State) : Host.Outcome State Fault Refusal :=
  if s.power = .night ∨ !s.booted then .next s else .next (s.deviceReset 2)

/-! ### The error log -/

/-- Entries of the log released (R459, R465). -/
def State.releaseLog (s : State) (n : Nat) : State :=
  let used := s.log.used - n
  ({ s with log := { s.log with used, lowSent := s.log.lowSent && decide (16384 - used ≤ 256) } }).wr R.SYS_ERRLOG_FREE (16384 - used)

/-- ERRLOG_HEAD (R459): the new head lies in the span from the present one to the tail. -/
def execErrlogHead (o : Origin) (v : Nat) (s : State) : Host.Outcome State Fault Refusal :=
  match s.permit o R.SYS_ERRLOG_HEAD v with
  | .error s => .next s
  | .ok s =>
    let n := (fieldOf v 13 0 + 16384 - s.fld R.SYS_ERRLOG_HEAD 13 0) % 16384
    if n > s.log.used then .next (s.refuse o (Code.REG_VALUE_RANGE 0) R.SYS_ERRLOG_HEAD v)
    else
      let s1 := s.applyWrite o R.SYS_ERRLOG_HEAD v
      .next (if s1.fld R.SYS_ERRLOG_HEAD 13 0 = fieldOf v 13 0 then s1.releaseLog n else s1)

/-! ### Device-fatal causes and lost clocks -/

/-- The power-up sequence has ended and the supplies are watched. -/
def State.alive (s : State) : Bool := s.booted && s.power ≠ .night

/-- The set-points, in mV, that VDD_CORE's window spans: the one in force and, during an AVSBus ramp, the one it ramps to: a planner's step
that is due, Dusk's 0.70 V on entry, Day's on the wake (R648, R649; DEDUCED, log entry 178). -/
def State.corePoints (s : State) : List Nat :=
  let mv := s.fld R.AGE_VOLT_STEP 31 16
  [mv] ++ (if s.age.voltDue = 0 then [] else [min 800 (mv + 5)]) ++
    (if s.phase = 2 then [700] else if s.phase = 3 then [min 800 (Config.testSetPoint + 5 * (s.age.steps - s.age.voltPending))] else [])

/-- The operating range of a rail in µV, by the order of R650: the window its monitor holds it to (R647, R649). -/
def State.railWindow (s : State) (rail : Nat) : Nat × Nat :=
  match rail with
  | 0 => (1710000, 1890000)
  | 1 => (1000 * (s.corePoints.foldl min 800 - 25), 1000 * (s.corePoints.foldl max 0 + 25))
  | 2 => (776000, 824000)
  | 3 => (825000, 875000)
  | 4 => (1164000, 1236000)
  | 5 => (1067000, 1133000)
  | _ => (388000, 412000)

/-- SUPPLY_EXCURSION, a rail measured at `uv`: outside its window SYS_SUPPLY with the rail in LOC0, or Night where it is VDD_IO (R483, R647,
R649). -/
def execSupplyExcursion (rail uv : Nat) (s : State) : Host.Outcome State Fault Refusal :=
  if !s.alive ∨ s.nightReady ∨ rail > 6 ∨ ((s.railWindow rail).1 ≤ uv ∧ uv ≤ (s.railWindow rail).2) then .next s
  else if rail = 0 then .next s.toNight
  else .next ({ s with rails := s.rails - Nat.land s.rails (2 ^ rail) }.deviceFatal { code := Code.SYS_SUPPLY, cls := 4, lk := 8, l0 := rail })

/-- SYS_CLOCK_LOSS (R483, R509). -/
def execSysClockLoss (s : State) : Host.Outcome State Fault Refusal :=
  if !s.alive then .next s else .next ((s.setFld R.CLK_PLL_LOCK 0 0 0).deviceFatal { code := Code.SYS_CLOCK_LOSS, cls := 4 })

/-- A lane that a lost PLL serves goes down, in service or not (R232, R509). -/
def State.pllLane (s : State) (l : Nat) : State :=
  let x := s.lane l
  if x.up then s.laneDown l
  else if x.st = 8 ∨ (1 ≤ x.st ∧ x.st ≤ 5) then s.setLane l { x with st := 0, wentDown := true } else s

/-- An Ivdon port set. -/
def State.setPort (s : State) (i : Nat) (p : Port) : State := { s with ivdon := { s.ivdon with ports := kset (fun _ => {}) s.ivdon.ports i p } }

/-- A port that carried packets goes down and retrains at once (R598). -/
def State.portDown (s : State) (i : Nat) : State :=
  let p := s.port i
  if !p.carries then s
  else (s.setPort i { p with st := 1, relay := false, downs := satAdd 65535 p.downs 1 }).record
    { code := Code.IVDON_PORT_DOWN, cls := 1, lk := 8, l0 := i, stripe := s.active.bind Stripe.who }

/-- SERDES_PLL_UNLOCK (R509). -/
def execSerdesPllUnlock (lanes ports : List Nat) (s : State) : Host.Outcome State Fault Refusal :=
  if !s.alive ∨ s.fatal ≠ 0 then .next s
  else .next ((ports.filter (· < 4)).foldl State.portDown ((lanes.filter (· < 64)).foldl State.pllLane s))

/-- SYS_WATCHDOG (R483). -/
def execSysWatchdog (s : State) : Host.Outcome State Fault Refusal :=
  if !s.alive ∨ !s.fold.fwRuns then .next s else .next (s.deviceFatal { code := Code.SYS_WATCHDOG, cls := 4 })

/-- SYS_STATE_PARITY: the block that detects it is the block whose state it is (R460, R483). -/
def execSysStateParity (page : Nat) (s : State) : Host.Outcome State Fault Refusal :=
  if !s.alive ∨ page > 0x1C then .next s else .next (s.deviceFatal { code := Code.SYS_STATE_PARITY, cls := 4, det := some page })

end Sys2Proof.Machine
end

