-- ==== Sys2Proof/Machine/Age.lean ====
section
/-! DEFINITION. Ageing: the hourly planner, the trend and the margin estimate, a fresh history, the core voltage's steps (R539,
R547 to R550, R648, R666). -/

namespace Sys2Proof.Machine

/-! ### The hourly planner -/

/-- Corrected errors of a physical rank in the last hour (R547). -/
def State.ceHour (s : State) (p : Nat) : Nat := (s.since (kget (fun _ => []) s.ranks.ces p) 3600).length

/-- An action under its bit of PLAN_EN, its limit, and the room of the audit pool (R548, R582): `shift` is its place in
AGE.ACTIONS. -/
def State.plan (s : State) (bit shift code item : Nat) (limit : Bool) (act : State → State) : State :=
  if s.fld R.AGE_PLAN_EN bit bit = 0 then s.record { code := Code.AGE_ACTION_DUE, cls := 0, lk := 8, l0 := bit }
  else if limit then
    match kget? s.age.spent bit with
    | some h => if s.age.hours < h + 24 then s else
        { s with age := { s.age with spent := kput s.age.spent bit s.age.hours } }.record { code := Code.AGE_ACTIONS_SPENT, cls := 0, lk := 8, l0 := bit }
    | none => { s with age := { s.age with spent := kput s.age.spent bit s.age.hours } }.record { code := Code.AGE_ACTIONS_SPENT, cls := 0, lk := 8, l0 := bit }
  else if s.auditFree ≤ 64 then s
  else
    let s1 := (act s).saveAgeing.commit 0x0051 .firmware 0 0 0 [code]
    (s1.bump R.AGE_ACTIONS (shift + 7) shift 1).record { code, cls := 1, lk := 8, l0 := item }

/-- The least of the hour's path slacks and its monitor. -/
def leastPath (l : List Nat) : Option (Nat × Nat) :=
  match l.zipIdx with
  | [] => none
  | x :: xs => some (xs.foldl (fun m y => if y.1 < m.1 then y else m) x)

/-- First trigger: path slack below PATH_FLOOR. -/
def State.planVolt (s : State) (least : Nat) : State :=
  if least ≥ s.fld R.AGE_PATH_FLOOR 7 0 then s
  else s.plan 0 24 Code.AGE_VOLT_STEP 0 (decide (s.age.steps ≥ 8)) (fun s =>
    { s with age := { s.age with steps := s.age.steps + 1, voltPending := s.age.voltPending + 1, gainWait := some least } })

/-- The lanes whose eye lies within EYE_GUARD of its threshold (R548). -/
def State.lanesDue (s : State) (eyes : List (Nat × Nat × Nat)) : List Nat :=
  (eyes.filter (fun e => (s.lane e.1).up && decide (e.2.1 < (s.eyeMin e.1).1 + s.fld R.AGE_EYE_GUARD 7 0 ∨
    e.2.2 < (s.eyeMin e.1).2 + s.fld R.AGE_EYE_GUARD 15 8))).map (·.1)

/-- Second trigger: the first lane due that has a rate below its cap. -/
def State.planLane (s : State) (eyes : List (Nat × Nat × Nat)) : State :=
  let due := s.lanesDue eyes
  let cap := fun l => kget (fun _ => 3) s.age.rateCap l
  match due with
  | [] => s
  | _ :: _ => match due.find? (fun l => decide (cap l > 0)) with
    | none => s.plan 1 16 Code.AGE_LANE_RATE 0 true id
    | some l => s.plan 1 16 Code.AGE_LANE_RATE l false (fun s =>
        ({ s with age := { s.age with rateCap := kset (fun _ => 3) s.age.rateCap l (cap l - 1) } }).setLane l { s.lane l with wentDown := true })

/-- Third trigger: a rank's corrected errors above half of CE_THRESHOLD. -/
def State.planRefresh (s : State) : State :=
  if (List.range 12).all (fun p => decide (2 * s.ceHour p ≤ s.fld R.HBM0_CE_THRESHOLD 15 0)) then s
  else s.plan 3 8 Code.AGE_REFRESH 0 (decide (s.age.refreshFloor ≥ 2)) (fun s => { s with age := { s.age with refreshFloor := s.age.refreshFloor + 1 } })

/-- Fourth trigger: a residual encoder error, in 1/64 nm, above ENC_RESID_LIMIT. -/
def State.planGuard (s : State) (resid : List Nat) : State :=
  if resid.all (fun r => decide (r ≤ 4 * s.fld R.AGE_ENC_RESID_LIMIT 7 0)) then s
  else s.plan 2 0 Code.AGE_GUARD 0 (decide (s.age.hystFloor ≥ 15)) (fun s => { s with age := { s.age with hystFloor := s.age.hystFloor + 1 } })

/-- STEP_GAIN measured in the first hour after the last voltage step came into force (R536, R548). -/
def State.measureGain (s : State) (least : Nat) : State :=
  match s.age.gainWait with
  | some b => if s.age.voltPending = 0 then { s with age := { s.age with stepGain := min 65535 (least - b), gainWait := none } } else s
  | none => s

/-- The hour's monitors kept (R547). -/
def State.takeHour (s : State) (pathMin : List Nat) (eyes : List (Nat × Nat × Nat)) (resid : List Nat) : State :=
  let a := { s.age with hours := s.age.hours + 1, pathHour := pathMin, eyesHour := eyes, residHour := resid }
  match leastPath pathMin with
  | none => { s with age := a }
  | some (v, i) => ({ s with age := a }.wr R.AGE_PATH_WORST (i * 2 ^ 24 + v % 65536)).measureGain v

/-- PLANNER_HOUR: the hour is counted and kept, and with AGE enabled its triggers are checked in order (R548); `eyes` are by lane. -/
def execPlannerHour (pathMin : List Nat) (eyes : List (Nat × Nat)) (resid : List Nat) (s : State) : Host.Outcome State Fault Refusal :=
  if !s.alive ∨ s.fatal ≠ 0 then .next s
  else
    let es := eyes.zipIdx.map (fun e => (e.2, e.1.1, e.1.2))
    let s1 := s.takeHour pathMin es resid
    let s2 := if !s.enabled 0x1B then s1 else
      ((((match leastPath pathMin with | some (v, _) => s1.planVolt v | none => s1).planLane es).planRefresh).planGuard resid)
    .next s2.saveAgeing.keepNow.showAge

/-! ### The trend and the margin -/

/-- The least-squares slope of points as a fraction (R550). -/
def slopeOf (l : List (Int × Int)) : Int × Int :=
  let n : Int := l.length
  let sx := (l.map (·.1)).sum
  let sy := (l.map (·.2)).sum
  (n * (l.map (fun p => p.1 * p.2)).sum - sx * sy, n * (l.map (fun p => p.1 * p.1)).sum - sx * sx)

/-- Sixteenths of a year that a margin lasts at a slope per powered hour: at most 640 (R550). -/
def lastsFor (m : Int) (l : List (Int × Int)) : Nat :=
  let s := slopeOf l
  if s.1 ≥ 0 ∨ s.2 ≤ 0 then 640 else min 640 (Config.yearSixteenths (max 0 m * s.2).toNat (-s.1).toNat)

/-- The last min(36, n) points of a series that grows toward better. -/
def series (t : List TrendE) (f : TrendE → Option Int) : List (Int × Int) :=
  (t.take 36).filterMap (fun e => (f e).map (fun v => ((e.hours : Int), v)))

/-- Years of one instance: its newest margin with its credit, over its slope. -/
def instanceYears (t : List TrendE) (f : TrendE → Option Int) (credit : Int) : Nat :=
  let l := series t f
  match l with
  | [] => 640
  | p :: _ => lastsFor (p.2 + credit) l

/-- The instances of R550 in the order of its table: kind, index, years. -/
def State.margins (s : State) : List (Nat × Nat × Nat) :=
  let t := s.age.trend
  let gain : Nat := if s.age.stepGain = 0 then 6 else s.age.stepGain
  let path := (0, s.fld R.AGE_PATH_WORST 29 24, instanceYears t (fun e => some e.path) ((8 - s.age.steps : Nat) * gain : Nat))
  let lane := fun (l : Nat) => (1, l, instanceYears t (fun e => (e.eyes.find? (fun x => x.1 = l)).map (fun x => (x.2.1 : Int) - (s.eyeMin l).1)) 0)
  let rank := fun (p : Nat) => (2, p, instanceYears t (fun e => (e.ces[p]?).map (fun c => (s.fld R.HBM0_CE_THRESHOLD 15 0 : Int) - c)) 0)
  let hurdles := (3, 0, instanceYears t (fun e => some (32 - (e.hurdles : Int))) 0)
  let strays := (4, 0, instanceYears t (fun e => some ((s.rd R.SHEPHERD_STRAY_LIMIT : Int) - e.strays)) 0)
  [path] ++ (List.range 64).map lane ++ (List.range 12).map rank ++ [hurdles, strays]

/-- AGE.MARGIN_YEARS after a new entry (R550). -/
def State.showMargin (s : State) : State :=
  if s.age.trend.length < 3 then s
  else match s.margins with
    | [] => s
    | x :: xs =>
      let m := xs.foldl (fun m y => if y.2.2 < m.2.2 then y else m) x
      let s1 := s.wr R.AGE_MARGIN_YEARS (m.1 * 2 ^ 28 + m.2.1 * 2 ^ 20 + m.2.2)
      if m.2.2 < s.fld R.AGE_MARGIN_WARN 15 0 then s1.record { code := Code.AGE_MARGIN_LOW, cls := 0, lk := 8, l0 := m.2.1, l1 := m.1 } else s1

/-- The pair of least or greatest value by a measure, first where equal. -/
def bestBy {α : Type} (k : α → α → Bool) : List α → Option α
  | [] => none
  | x :: xs => some (xs.foldl (fun m y => if k y m then y else m) x)

/-- The 32 bytes of a trend entry (R547). -/
def TrendE.bytes (e : TrendE) : List Byte :=
  let eye := (bestBy (fun a b => decide (a.2.1 < b.2.1)) e.eyes).getD (0, 0, 0)
  let rank := (bestBy (fun (a b : Nat × Nat) => decide (a.1 > b.1)) e.ces.zipIdx).getD (0, 0)
  leBytes 4 e.hours ++ leBytes 2 e.path ++ leBytes 2 e.tjAvg ++
  leBytes 4 (e.volt * 2 ^ 24 + eye.1 * 2 ^ 16 + eye.2.2 % 256 * 256 + eye.2.1 % 256) ++
  leBytes 4 (e.refresh * 2 ^ 24 + rank.2 * 2 ^ 16 + min 65535 rank.1) ++ leBytes 4 (e.hurdles * 2 ^ 16 + min 65535 e.sramCe) ++
  leBytes 4 e.strays ++ leBytes 4 (e.hyst * 256 + min 255 e.encResid) ++ leBytes 4 e.margin

/-- The trend's payload: the entry of powered hour 720·n lies at n − 1 modulo 512. -/
def trendBytes (t : List TrendE) : List Byte :=
  (List.range 512).flatMap (fun i => match t.find? (fun e => (e.hours / 720 - 1) % 512 = i) with | some e => e.bytes | none => leBytes 32 0)

/-- The entry of the present moment. -/
def State.trendNow (s : State) (tjAvg : Nat) : TrendE :=
  { hours := s.age.hours, tjAvg := tjAvg % 65536, path := s.fld R.AGE_PATH_WORST 15 0, volt := s.age.steps - s.age.voltPending,
    refresh := s.age.refreshFloor, hyst := s.age.hystFloor, eyes := s.age.eyesHour, ces := (List.range 12).map s.ceHour,
    hurdles := s.sram.hurdles.length, sramCe := (s.rd R.SRAM_CE_COUNT - s.age.ceEntry) / 30, strays := s.strayCount,
    encResid := s.age.residHour.foldl max 0 / 4, margin := s.fld R.AGE_MARGIN_YEARS 15 0 }

/-- TREND_ENTRY: every 720 powered hours, once (R547). -/
def execTrendEntry (tjAvg : Nat) (s : State) : Host.Outcome State Fault Refusal :=
  let h := s.age.hours
  if !s.alive ∨ s.fatal ≠ 0 ∨ h = 0 ∨ h % 720 ≠ 0 ∨ s.age.trend.any (fun e => e.hours = h) then .next s
  else
    let t := (s.trendNow tjAvg :: s.age.trend).take 512
    let s1 := { s with age := { s.age with trend := t, ceEntry := s.rd R.SRAM_CE_COUNT } }
    .next (s1.putKeep 0x0031 0 (trendBytes t)).showMargin

/-! ### A fresh history, and the core voltage -/

/-- REBASE: the Owner has a fresh history written with the defaults (R539). -/
def execRebase (o : Origin) (v : Nat) (s : State) : Host.Outcome State Fault Refusal :=
  .next (s.act o R.AGE_REBASE v (fun s =>
    if fieldOf v 0 0 = 0 then s
    else { s with age := { s.age.safe with stepGain := 0, gainWait := none } }.saveAgeing.keepNow))

/-- AVSBUS_TRANSFER_END: a success brings a step whose boundary has come into force, 5 mV up to 0.80 V; the third failure of a
transfer is SYS_SUPPLY (R548, R648, R666). -/
def execAvsbusTransferEnd (ok : Bool) (s : State) : Host.Outcome State Fault Refusal :=
  if !s.alive ∨ s.fatal ≠ 0 ∨ (s.age.voltDue = 0 ∧ s.phase ≤ 1) then .next s
  else if !ok then
    let n := s.age.avsFails + 1
    let s1 := { s with age := { s.age with avsFails := n } }
    if n ≥ 3 then .next (s1.deviceFatal { code := Code.SYS_SUPPLY, cls := 4, lk := 8, l0 := 1 }) else .next s1
  else
    let s1 := { s with age := { s.age with avsFails := 0 } }
    if s.age.voltDue = 0 then .next s1
    else
      let mv := min 800 (s.fld R.AGE_VOLT_STEP 31 16 + 5)
      let s2 := { s1 with age := { s1.age with voltDue := s1.age.voltDue - 1, voltPending := s1.age.voltPending - 1 } }
      .next (((s2.setFld R.AGE_VOLT_STEP 31 16 mv).emit (.avsbus mv)).showAge)

end Sys2Proof.Machine
end

