-- ==== Sys2Proof/Machine/Crc.lean ====
section
/-! DEFINITION. The eight CRC engines (R404 to R412). -/

namespace Sys2Proof.Machine

/-- A register of engine e, from its address for engine 0. -/
def engReg (e : Nat) (a : RegAddr) : RegAddr := a + 0x40 * e

/-- An engine. -/
def State.engine (s : State) (e : Nat) : Engine := kget (fun _ => {}) s.engines e
/-- An engine set. -/
def State.setEngine (s : State) (e : Nat) (x : Engine) : State := { s with engines := kset (fun _ => {}) s.engines e x }
/-- STATE.BUSY of an engine. -/
def State.crcBusy (s : State) (e : Nat) : Bool := s.fld (engReg e R.CRC_E_STATE) 0 0 == 1

/-- The algorithm of an engine (R412). -/
def State.engAlg (s : State) (e : Nat) : CrcAlg := crcAlg (s.fld (engReg e R.CRC_E_CFG) 1 0)
/-- VALUE, over the algorithm's width (R404). -/
def State.engValue (s : State) (e : Nat) : Nat := s.rd64 (engReg e R.CRC_E_VALUE_L) % 2 ^ (s.engAlg e).width
/-- RESULT (R404). -/
def State.engResult (s : State) (e : Nat) : Nat := Nat.xor (s.engValue e) (s.engAlg e).final
/-- VALUE set. -/
def State.setValue (s : State) (e v : Nat) : State := s.wr64 (engReg e R.CRC_E_VALUE_L) (v % 2 ^ (s.engAlg e).width)

/-- The address at which a memory job begins, and whether it names SRAM (R406). -/
def State.engSrc (s : State) (e : Nat) : Nat × Bool :=
  (s.rd (engReg e R.CRC_E_SRC_L) + 2 ^ 32 * s.fld (engReg e R.CRC_E_SRC_H) 5 0, s.fld (engReg e R.CRC_E_SRC_H) 31 31 == 1)

/-- The range of a job leaves the memory in service or touches a region that is not filled (R332, R366, R406). -/
def State.rangeBad (s : State) (src len : Nat) (sram : Bool) : Bool :=
  len = 0 ||
  (if sram then decide (src + len > 64 * 0x300000) ||
      (List.range 10).any (fun g => decide (sramRegion (src / 64) ≤ g ∧ g ≤ sramRegion ((src + len - 1) / 64)) && !s.filled g)
   else decide (src + len > 11 * 0x300000000))

/-- What a role other than Firmware may read: stripe tables, patch lists and export staging, which adjoin, fog tables, and
deficit lists, which adjoin them (R332, R407). -/
def rangeOpen (src len : Nat) (sram : Bool) : Bool :=
  !sram && (decide (0x45000000 ≤ src ∧ src + len ≤ 0x49A00000) || decide (0x80000000 ≤ src ∧ src + len ≤ 0x180000000))

/-- The comparison of R410: STATE.MISMATCH and its record. -/
def State.crcCompare (s : State) (e : Nat) : State :=
  if s.fld (engReg e R.CRC_E_CFG) 8 8 = 0 then s
  else if s.engResult e = s.rd64 (engReg e R.CRC_E_EXPECT_L) % 2 ^ (s.engAlg e).width then s
  else ((s.setFld (engReg e R.CRC_E_STATE) 2 2 1).record { code := Code.CRC_MISMATCH, cls := 0, lk := 8, l0 := e }).raiseIrq 20 (8 + e)

/-- STATE.DONE and its interrupt (R410). -/
def State.crcDone (s : State) (e : Nat) : State := (s.setFld (engReg e R.CRC_E_STATE) 1 1 1).raiseIrq 20 e

/-- BUSY set or cleared, shown in STATUS [16 + e]. -/
def State.setCrcBusy (s : State) (e b : Nat) : State :=
  (s.setFld (engReg e R.CRC_E_STATE) 0 0 b).setFld 0x14008 (16 + e) (16 + e) b

/-- A memory job that ends in error: ERROR and ERR, DONE, and no comparison (R406, R412; log entry 39). -/
def State.crcFail (s : State) (e : Nat) (o : Origin) (code : Nat) : State :=
  let s1 := (s.setFld (engReg e R.CRC_E_STATE) 31 16 code).setFld (engReg e R.CRC_E_STATE) 3 3 1
  (s1.record { code, cls := 7, origin := o, lk := 8, l0 := e }).crcDone e

/-- CMD.START (R406, R407). -/
def State.crcStart (s : State) (o : Origin) (e : Nat) : State :=
  let src := s.engSrc e
  let len := s.rd (engReg e R.CRC_E_LEN)
  let s1 := (s.setFld (engReg e R.CRC_E_STATE) 3 1 0).wr (engReg e R.CRC_E_COUNT) 0
  if s.rangeBad src.1 len src.2 then s1.crcFail e o Code.CRC_SOURCE_RANGE
  else if o ≠ .firmware ∧ !rangeOpen src.1 len src.2 then s1.crcFail e o Code.CRC_SOURCE_DENIED
  else (s1.setCrcBusy e 1).setEngine e { run := 1, origin := o }

/-- CMD.CHECK (R410): with COMPARE at 0 it ends with nothing compared (DEDUCED, log entry 39). -/
def State.crcCheck (s : State) (e : Nat) : State := ((s.setFld (engReg e R.CRC_E_STATE) 2 1 0).crcCompare e).crcDone e

/-- A running job is to stop after its line (R408). -/
def State.crcAbort (s : State) (e : Nat) : State :=
  if s.crcBusy e then s.setEngine e { s.engine e with run := 2 } else s

/-- An engine's command, INIT before START before CHECK (R404 to R411); a block that is not enabled starts none. -/
def State.crcCmd (s : State) (o : Origin) (e v : Nat) : State :=
  if !s.enabled 20 then s
  else if s.crcBusy e then
    if v % 16 = 8 then s.crcAbort e else if v % 8 = 0 then s else s.refuse o Code.CRC_ENGINE_BUSY (engReg e R.CRC_E_CMD) v
  else
    let s1 := if fieldOf v 0 0 = 1 then s.setValue e (s.engAlg e).init else s
    let s2 := if fieldOf v 1 1 = 1 then s1.crcStart o e else s1
    if fieldOf v 2 2 = 1 ∧ !s2.crcBusy e then s2.crcCheck e else s2

/-- A write of an engine's CMD. -/
def State.writeCmd (s : State) (o : Origin) (e v : Nat) : State :=
  if e > 7 then s else s.act o (engReg e R.CRC_E_CMD) v (fun s => s.crcCmd o e v)

/-- CRC_INIT (R404). -/
def execCrcInit (o : Origin) (e : Nat) (s : State) : Host.Outcome State Fault Refusal := .next (s.writeCmd o e 1)
/-- CRC_START (R406, R407). -/
def execCrcStart (o : Origin) (e : Nat) (s : State) : Host.Outcome State Fault Refusal := .next (s.writeCmd o e 2)
/-- CRC_CHECK (R410). -/
def execCrcCheck (o : Origin) (e : Nat) (s : State) : Host.Outcome State Fault Refusal := .next (s.writeCmd o e 4)
/-- CRC_ABORT (R408). -/
def execCrcAbort (o : Origin) (e : Nat) (s : State) : Host.Outcome State Fault Refusal := .next (s.writeCmd o e 8)

/-- BYTES_M1 + 1 bytes of the word written, low byte first (R405). -/
def State.feedData (s : State) (o : Origin) (e v : Nat) : State :=
  if !s.enabled 20 then s
  else if s.crcBusy e then s.refuse o Code.CRC_ENGINE_BUSY (engReg e R.CRC_E_DATA) v
  else s.setValue e ((s.engAlg e).feed (s.engValue e) (leBytes (s.fld (engReg e R.CRC_E_CFG) 17 16 + 1) v))

/-- CRC_DATA (R405). -/
def execCrcData (o : Origin) (e v : Nat) (s : State) : Host.Outcome State Fault Refusal :=
  if e > 7 then .next s else .next (s.act o (engReg e R.CRC_E_DATA) v (fun s => s.feedData o e v))

/-- An uncorrectable read of a job counted where its memory counts it (R351, R371, R406). -/
def State.crcUe (s : State) (e count : Nat) : State :=
  let src := s.engSrc e
  if src.2 then s.sramErr { line := (src.1 + count) / 64, word := (src.1 + count) / 8 % 8, ue := true } else s.hbmUe (src.1 + count)

/-- A job may end with `n` bytes fed: all of them, an aborted one also at the end of a 64-byte line, and before an uncorrectable read any
number short of all (R406, R408). -/
def State.crcEnds (s : State) (e n : Nat) (ue : Bool) : Bool :=
  let len := s.rd (engReg e R.CRC_E_LEN)
  if ue then decide (n < len) else n = len || (decide (n < len) && (s.engine e).run = 2 && decide (((s.engSrc e).1 + n) % 64 = 0))

/-- CRC_JOB_DONE: `data` holds the bytes fed. A job that was stopped ends there without DONE, unless its last line met the
ABORT (R406, R408, R410). -/
def execCrcJobDone (e : Nat) (data : List Byte) (ue : Bool) (s : State) : Host.Outcome State Fault Refusal :=
  let len := s.rd (engReg e R.CRC_E_LEN)
  let x := s.engine e
  if e > 7 ∨ x.run = 0 ∨ !s.crcEnds e data.length ue then .next s
  else
    let s1 := ((s.setEngine e {}).setCrcBusy e 0).setValue e ((s.engAlg e).feed (s.engValue e) data)
    let s2 := s1.wr (engReg e R.CRC_E_COUNT) data.length
    if ue then .next ((s2.crcUe e data.length).crcFail e x.origin Code.CRC_SOURCE_UE)
    else if data.length < len then .next s2
    else .next ((s2.crcCompare e).crcDone e)

/-- Every running job stops, as at the entry to Dusk (R409). -/
def State.abortEngines (s : State) : State := (List.range 8).foldl State.crcAbort s

/-- The engine a register belongs to, and its address for engine 0. -/
def engineOf (a : RegAddr) : Option (Nat × RegAddr) :=
  if 0x14240 ≤ a ∧ a < 0x14440 then some ((a - 0x14240) / 0x40, 0x14240 + (a - 0x14240) % 0x40) else none

end Sys2Proof.Machine
end

