-- ==== Sys2Proof/Machine/Audit.lean ====
section
/-! DEFINITION. The audit log: signatures, the anchors, the pool's export and its acknowledgement, the records that waited for
room (R576 to R583). -/

namespace Sys2Proof.Machine

/-- The audit anchors (R580). -/
def Audit.anchors (a : Audit) : List Byte :=
  leBytes 8 a.exportedSeq ++ beBytes 48 a.exportedChain ++ leBytes 8 a.signedSeq ++ beBytes 48 a.signedChain ++ leBytes 4 a.powerups ++
  List.replicate 12 0

/-- The anchors rewritten in the keep. Their own writing makes no audit record, or no acknowledgement would ever cover the pool
(R497, R580; DEDUCED, log entry 40). -/
def State.putAnchors (s : State) : State :=
  let old := s.keep.find? (fun r => r.typ = 0x40)
  let r : KeepRec := { typ := 0x40, inst := 0, gen := (old.map (·.gen)).getD 0 + 1, written := s.clock.sec % 2 ^ 32, payload := s.audit.anchors,
                       off := (old.map (·.off)).getD s.keepEnd }
  let s1 := { s with keep := r :: s.keep.filter (fun k => k.typ ≠ 0x40) }
  if old.isNone then s1.listKeep else s1

/-- "KAUD", DEVICE_NO, the entry's head and the chain value signed (R579). -/
def State.signText (s : State) (seq chain : Nat) : List Byte :=
  [0x4B, 0x41, 0x55, 0x44] ++ leBytes 4 (s.rd R.SYS_DEVICE_NO) ++ signHead seq s.clock.sec s.nsec ++ beBytes 48 chain

/-- The SEQ of a slot: a record's own, or that of the record signed. -/
def AuditSlot.seq : AuditSlot → Nat
  | .record r => r.seq
  | .signature seq _ _ _ => seq

/-- A signature of seq and chain into the pool at the point it has reached, and the anchors (R579, R580). -/
def State.placeSign (s : State) (seq chain : Nat) : State :=
  let e := AuditSlot.signature seq s.clock.sec s.nsec (Config.ecdsaSign (s.signText seq chain))
  let a := { s.audit with pool := e :: s.audit.pool, entered := s.audit.entered + 1, signing := none, signedSeq := seq, signedChain := chain }
  let s1 := { s with audit := a }
  ((s1.wr R.AUDIT_FREE s1.auditFree).wr64 R.AUDIT_SIGNED_L seq).putAnchors

/-- AUDIT_SIGN: 60 s after the last signature, if a record has been committed since; one that falls due during an export is the
export's own (R579, R583). -/
def execAuditSign (s : State) : Host.Outcome State Fault Refusal :=
  if s.power = .night ∨ !s.booted ∨ s.audit.sinceSign = 0 ∨ s.audit.signing.isSome ∨ s.audit.exportSign ≠ 0 then .next s
  else .next s.beginSign

/-- The export's own signature follows the one that was under way, or stands in the pool as the last slot exported (R581). -/
def State.exportSigned (s : State) : State :=
  match s.audit.exportSign with
  | 1 => let s1 := s.beginSign; { s1 with audit := { s1.audit with exportSign := 2 } }
  | 2 => { s with audit := { s.audit with exportSign := 3, exportCount := s.audit.pool.length } }
  | _ => s

/-- AUDIT_SIGNATURE_DONE (R579); with no slot free the entry waits. -/
def execAuditSignatureDone (s : State) : Host.Outcome State Fault Refusal :=
  match s.audit.signing with
  | none => .next s
  | some x => if s.power = .night ∨ s.auditFree = 0 then .next s else .next (s.placeSign x.1 x.2).exportSigned

/-- An export begun (R581). -/
def State.exportBegin (s : State) : State :=
  let a := { s.audit with pendingSent := false, exportMade := none }
  let s1 := { s with audit := a }.setFld R.AUDIT_EXPORT_STATE 3 0 1
  match a.signing with
  | some _ => { s1 with audit := { s1.audit with exportSign := 1 } }
  | none => let s2 := s1.beginSign; { s2 with audit := { s2.audit with exportSign := 2 } }

/-- EXPORT_CMD: an export that waits for its ACK is reported again (R581). -/
def State.exportCmd (s : State) (v : Nat) : State :=
  let st := s.fld R.AUDIT_EXPORT_STATE 3 0
  if v % 2 = 0 ∨ st = 1 then s else if st = 2 then s.raiseIrq 3 0 else s.exportBegin

/-- EXPORT_CMD, a write of the register. -/
def execExportCmd (o : Origin) (v : Nat) (s : State) : Host.Outcome State Fault Refusal :=
  .next (s.act o R.AUDIT_EXPORT_CMD v (fun s => s.exportCmd v))

/-- AUDIT_EXPORT_READY: the verified unit of the slots stands in its buffer, and is reported and signalled (R100, R581). -/
def execAuditExportReady (s : State) : Host.Outcome State Fault Refusal :=
  match s.audit.exportMade with
  | none => .next s
  | some unit =>
    if s.power = .night ∨ s.fatal ≠ 0 ∨ s.fld R.AUDIT_EXPORT_STATE 3 0 ≠ 1 then .next s
    else
      let b := if s.audit.exportUnit = [] then 0 else 1 - s.fld R.AUDIT_EXPORT_STATE 8 8
      let last := (s.exportSlots.map AuditSlot.seq).foldl max 0
      let s1 := { s with audit := { s.audit with exportUnit := unit, exportMade := none, exportSign := 0 } }
      let s2 := ((s1.wr R.AUDIT_EXPORT_STATE (b * 256 + 2)).wr R.AUDIT_EXPORT_LEN unit.length).wr64 R.AUDIT_EXPORT_LAST_L last
      .next (s2.raiseIrq 3 0)

/-- Records that waited for room commit in order, behind a record of KIND 0x0062, and are reported once per export (R582). -/
def State.commitWaiting (s : State) : State :=
  match s.audit.waiting with
  | [] => s
  | w =>
    let first := s.audit.nextSeq + 1
    let s1 := ({ s with audit := { s.audit with waiting := [] } }.setFld R.AUDIT_WAITING 8 0 0).commit 0x0062 .firmware 0 0 0
      [first % 2 ^ 32, (first + w.length - 1) % 2 ^ 32]
    let s2 := w.foldl (fun s x => s.commit x.1 .firmware x.2.1 0 x.2.2.1 [x.2.2.2]) s1
    if s.audit.pendingSent then s2
    else { s2 with audit := { s2.audit with pendingSent := true } }.record { code := Code.AUDIT_PENDING, cls := 0, lk := 8, l0 := w.length }

/-- The CHAIN of a record in the pool, or of the last one exported. -/
def State.chainOf (s : State) (seq : Nat) : Nat :=
  (s.audit.pool.findSome? (fun e => match e with | .record r => if r.seq = seq then some r.chain else none | .signature .. => none)).getD
    s.audit.exportedChain

/-- An acknowledgement: the slots up to it are freed, the anchors rewritten, and what waited for room follows (R580 to R582). -/
def State.exportAck (s : State) (o : Origin) (v : Nat) : State :=
  let waits := s.fld R.AUDIT_EXPORT_STATE 3 0 = 2
  let last := s.rd64 R.AUDIT_EXPORT_LAST_L
  if v < s.audit.exportedSeq ∨ v > (if waits then last else s.audit.exportedSeq) then
    s.refuse o Code.AUDIT_ACK_RANGE R.AUDIT_EXPORT_ACK_L (v % 2 ^ 32)
  else
    let gone := (s.exportSlots.takeWhile (fun e => decide (e.seq ≤ v))).length
    let a := { s.audit with exportedSeq := v, exportedChain := s.chainOf v, pool := s.audit.pool.take (s.audit.pool.length - gone),
                            exportCount := s.audit.exportCount - gone }
    let s1 := { s with audit := a }
    let s2 := ((s1.wr R.AUDIT_FREE s1.auditFree).wr64 R.AUDIT_EXPORTED_L v).putAnchors
    ((if waits ∧ v = last then s2.setFld R.AUDIT_EXPORT_STATE 3 0 0 else s2).commitWaiting).flushKeep

/-- EXPORT_ACK: the pair EXPORT_ACK_L and _H committed (R13, R581). -/
def execExportAck (o : Origin) (v : Nat) (s : State) : Host.Outcome State Fault Refusal :=
  .next (s.act o R.AUDIT_EXPORT_ACK_L v (fun s => s.exportAck o v))

end Sys2Proof.Machine
end

