-- ==== Sys2Proof/Machine/Fold.lean ====
section
/-! DEFINITION. The Fold: the mailbox's requests but for register access, attestation, firmware images, debug, tamper (R558 to
R575, R584, R585). -/

namespace Sys2Proof.Machine

/-! ### The mailbox -/

/-- A request ends: DONE with its code, the response, then vector 0 of PF1 (R561). -/
def State.mbEnd (s : State) (code : Nat) (payload : List Byte) : State :=
  (({ s with fold := { s.fold with mbStatus := code * 2 ^ 16 + 2, mbResponse := payload } }).emit (.mailbox code payload)).emit (.ownerMsix 0)

/-- A request that fails, with its record of CLASS 7 (R463, R587). -/
def State.mbFail (s : State) (code : Nat) : State := (s.record { code, cls := 7, origin := .owner, det := some 4 }).mbEnd code []

/-- A request served: never in Night or before power-up or after a device-fatal event; with no firmware only those that `boot`
marks; with the pool full only those that `always` marks (R485, R569, R582). -/
def State.mailbox (s : State) (boot always : Bool) (f : State → State) : Host.Outcome State Fault Refusal :=
  if s.power = .night ∨ !s.booted ∨ s.fatal ≠ 0 ∨ (!s.fold.fwRuns ∧ !boot) then .next s
  else if s.auditFull ∧ !always then .next (s.countFull.mbFail Code.AUDIT_FULL)
  else .next (f s)

/-- A fresh number of the Fold's true random source (R567). -/
def State.draw (s : State) : Nat × State := (Config.trueRandom s.free, { s with free := s.free + 1 })

/-! ### Identity and attestation -/

/-- A firmware slot: 0 A, 1 B. -/
def State.fwSlot (s : State) (i : Nat) : FwSlot := kget (fun _ => {}) s.fold.slots i
/-- A firmware slot set. -/
def State.setFwSlot (s : State) (i : Nat) (x : FwSlot) : State :=
  { s with fold := { s.fold with slots := kset (fun _ => {}) s.fold.slots i x } }

/-- The report of ATTEST but for its signature (R564). -/
def State.report (s : State) (nonce : List Byte) : List Byte :=
  leBytes 4 0x5454414B ++ leBytes 4 1 ++ leBytes 4 (s.rd R.SYS_IDENT) ++ leBytes 4 (s.rd R.SYS_STEPPING) ++ leBytes 4 (s.rd R.SYS_DEVICE_NO) ++
  leBytes 4 (s.rd R.SYS_FORMAT_LEVEL) ++ leBytes 4 (s.bell 2) ++
  leBytes 4 ((if s.fold.tamperHold then 256 else 0) + (if s.fold.debugOpen then 16 else 0) + s.fold.running) ++
  leBytes 4 (s.fwSlot 0).svn ++ leBytes 4 (s.fwSlot 1).svn ++ leBytes 8 (s.bell 3 % 2 ^ 48) ++ beBytes 48 s.audit.chain ++
  beBytes 48 (s.fwSlot s.fold.running).hash ++ (Config.agreePub ++ List.replicate 96 0).take 96 ++ nonce ++
  leBytes 8 (s.clock.sec % 2 ^ 48) ++ List.replicate 8 0

/-- ATTEST (R564). -/
def execAttest (nonce : List Byte) (s : State) : Host.Outcome State Fault Refusal :=
  s.mailbox true true (fun s =>
    if nonce.length ≠ 32 then s.mbFail Code.FOLD_MB_FORM
    else s.mbEnd 0 (s.report nonce ++ beBytes 96 (Config.ecdsaSign (s.report nonce))))

/-- CERT_READ (R563). -/
def execCertRead (s : State) : Host.Outcome State Fault Refusal := s.mailbox true true (fun s => s.mbEnd 0 Config.certificate)

/-! ### Firmware images -/

/-- The slot that is not running. -/
def State.idleSlot (s : State) : Nat := 1 - s.fold.running

/-- Bytes placed at an offset; a gap reads 0. -/
def putBytes (b : List Byte) (off : Nat) (chunk : List Byte) : List Byte :=
  (b ++ List.replicate (off - b.length) 0).take off ++ chunk ++ b.drop (off + chunk.length)

/-- FW_STAGE: a staged slot is no longer committed (R570). -/
def execFwStage (off : Nat) (chunk : List Byte) (s : State) : Host.Outcome State Fault Refusal :=
  s.mailbox true false (fun s =>
    if chunk = [] ∨ off + chunk.length > 0x400000 then s.mbFail Code.FOLD_MB_FORM
    else
      let x := s.fwSlot s.idleSlot
      (s.setFwSlot s.idleSlot { x with bytes := putBytes x.bytes off chunk, committed := false }).mbEnd 0 [])

/-- Big-endian value of bytes. -/
def beNat (b : List Byte) : Nat := leNat b.reverse

/-- The body of an image, as long as its header says. -/
def imageBody (b : List Byte) : List Byte := (b.drop 256).take (leAt b 0x14 4)

/-- MAGIC, the signature and BODY_HASH are right (R568, R569). -/
def imageSigned (b : List Byte) : Bool :=
  leAt b 0 4 = 0x4957464B && decide (4 ≤ leAt b 0x14 4 ∧ leAt b 0x14 4 ≤ 4194048 ∧ b.length ≥ 256 + leAt b 0x14 4) &&
  beNat ((b.drop 0x18).take 48) = Config.sha384 (imageBody b) && Config.ecdsaVerify Config.firmwareKey (b.take 0xA0) ((b.drop 0xA0).take 0x60)

/-- A firmware event in the audit log: slot, SVN, BODY_HASH[0:23] (R577). -/
def State.fwEvent (s : State) (o : Origin) (slot svn hash : Nat) : State :=
  s.commit 0x0020 o 0 0 0 ([slot, svn] ++ (List.range 6).map (fun i => leAt (beBytes 48 hash) (4 * i) 4))

/-- FW_COMMIT: an image that fails leaves its slot empty (R570). -/
def execFwCommit (s : State) : Host.Outcome State Fault Refusal :=
  s.mailbox true false (fun s =>
    let i := s.idleSlot
    let b := (s.fwSlot i).bytes
    if !imageSigned b then (s.setFwSlot i {}).mbFail Code.FOLD_FW_SIGNATURE
    else if leAt b 8 4 < s.bell 2 then (s.setFwSlot i {}).mbFail Code.FOLD_FW_ROLLBACK
    else
      let hash := beNat ((b.drop 0x18).take 48)
      let x : FwSlot := { bytes := b, svn := leAt b 8 4, levels := leAt b 0xC 4, hash, committed := true }
      ((s.fwEvent .owner i x.svn hash).setFwSlot i x).mbEnd 0 [])

/-- FW_SELECT (R570). -/
def execFwSelect (slot : Nat) (s : State) : Host.Outcome State Fault Refusal :=
  s.mailbox true false (fun s =>
    if slot > 1 then s.mbFail Code.FOLD_MB_FORM
    else if slot ≠ s.fold.running ∧ !(s.fwSlot slot).committed then s.mbFail Code.FOLD_FW_BUSY
    else
      let s1 := s.fwEvent .owner slot (s.fwSlot slot).svn (s.fwSlot slot).hash
      { s1 with fold := { s1.fold with next := slot } }.mbEnd 0 [])

/-- ROLLBACK_SET: a value below the present one is refused as any lowering of bell word 2 is (R380, R571). -/
def execRollbackSet (v : Nat) (s : State) : Host.Outcome State Fault Refusal :=
  s.mailbox false false (fun s =>
    let x := s.fwSlot s.fold.running
    if v > x.svn then s.mbFail Code.FOLD_FW_ROLLBACK
    else if v < s.bell 2 then s.mbFail Code.BELL_DOWN
    else if v = s.bell 2 then s.mbEnd 0 []
    else ((s.fwEvent .owner s.fold.running x.svn x.hash).writeBell 2 v 0).mbEnd 0 [])

/-! ### Keys of the Owner -/

/-- OWNER_SET: signed by the Owner key once one is installed (R562). -/
def execOwnerSet (key : Nat) (sig : List Byte) (s : State) : Host.Outcome State Fault Refusal :=
  s.mailbox false false (fun s =>
    let good := match s.fold.ownerKey with
      | none => true
      | some k => Config.ecdsaVerify k (leBytes 96 key) sig
    if !good then s.mbFail Code.FOLD_DEBUG_SIGNATURE else { s with fold := { s.fold with ownerKey := some key } }.mbEnd 0 [])

/-- KEYSVC_SET (R562). -/
def execKeysvcSet (key : Nat) (s : State) : Host.Outcome State Fault Refusal :=
  s.mailbox false false (fun s => { s with fold := { s.fold with keysvcKey := some key } }.mbEnd 0 [])

/-- SERVICE_KEY_SET (R562). -/
def execServiceKeySet (key : Nat) (s : State) : Host.Outcome State Fault Refusal :=
  s.mailbox false false (fun s => { s with fold := { s.fold with serviceKey := some key } }.mbEnd 0 [])

/-! ### Debug -/

/-- DEBUG_CHALLENGE: a fresh nonce, which takes the place of one outstanding (R572). -/
def execDebugChallenge (s : State) : Host.Outcome State Fault Refusal :=
  s.mailbox false false (fun s =>
    let d := s.draw
    let n := d.1 % 2 ^ 384
    { d.2 with fold := { d.2.fold with nonce := some n } }.mbEnd 0 (beBytes 48 n))

/-- Every open job becomes job-fatal (R573 step 2). -/
def State.failJobs (s : State) (code : Nat) (o : Origin) : State :=
  [0, 1].foldl (fun s i => if (s.job i).status = 1 then s.jobFatalRec i { code, cls := 3, origin := o } else s) s

/-- The keys erased, fresh device and field keys, and every geometry frame freed (R573 step 3). -/
def State.rekey (s : State) (code : Nat) : State :=
  let s1 := s.eraseKeys code
  let d := s1.draw
  let f := d.2.draw
  { f.2 with fold := { f.2.fold with deviceKey := d.1, fieldKey := f.1 }, frames := [] }

/-- A debug event in the audit log: the nonce's first 32 bytes and the result (R577). -/
def State.debugEvent (s : State) (o : Origin) (nonce result : Nat) : State :=
  s.commit 0x0030 o 0 0 0 ((List.range 8).map (fun i => leAt (beBytes 48 nonce) (4 * i) 4) ++ [result])

/-- Steps 1 to 4 of R573; SHADE_OUT stays high until a device reset. -/
def State.openDebug (s : State) (o : Origin) (nonce : Nat) : State :=
  let s1 := ((s.debugEvent o nonce 0).failJobs Code.FOLD_DEBUG_OPEN o).rekey Code.FOLD_DEBUG_OPEN
  { s1 with fold := { s1.fold with shade := true } }.showPins s.i3cByte

/-- "KDBG", DEVICE_NO, nonce (R572). -/
def State.debugText (s : State) (nonce : Nat) : List Byte :=
  [0x4B, 0x44, 0x42, 0x47] ++ leBytes 4 (s.rd R.SYS_DEVICE_NO) ++ beBytes 48 nonce

/-- DEBUG_UNLOCK: a nonce serves one attempt (R572, R573). -/
def execDebugUnlock (sig : List Byte) (s : State) : Host.Outcome State Fault Refusal :=
  s.mailbox false false (fun s =>
    let s1 := { s with fold := { s.fold with nonce := none } }
    match s.fold.nonce, s.fold.ownerKey with
    | some n, some k =>
      if Config.ecdsaVerify k (s.debugText n) sig then
        let s2 := s1.openDebug .owner n
        { s2 with fold := { s2.fold with debugOpen := true } }.mbEnd 0 []
      else (s1.debugEvent .owner n Code.FOLD_DEBUG_SIGNATURE).mbFail Code.FOLD_DEBUG_SIGNATURE
    | _, _ => s1.mbFail Code.FOLD_DEBUG_SIGNATURE)

/-- EXTEST_WHILE_LOCKED (R573). -/
def execExtestWhileLocked (s : State) : Host.Outcome State Fault Refusal :=
  if !s.alive ∨ s.fold.debugOpen then .next s
  else if s.fatal ≠ 0 then .next (s.debugEvent .hardware 0 0)
  else .next (s.openDebug .hardware 0)

/-! ### Tamper -/

/-- The response of TAMPER_CFG to an input, 4 for VBAT_LOST (R574). -/
def State.tamperResponse (s : State) (n : Nat) : Nat :=
  if n = 4 then s.fld R.FOLD_TAMPER_CFG 17 16 else s.fld R.FOLD_TAMPER_CFG (4 * n + 1) (4 * n)

/-- A tamper event answered (R574). -/
def State.tamper (s : State) (n count : Nat) : State :=
  let r := s.tamperResponse n
  let s1 := s.setFld R.FOLD_TAMPER_SEEN n n 1
  if r = 0 then s1
  else
    let s2 := s1.commit 0x0031 .hardware 0 0 0 [n, r, count]
    if r = 1 then s2
    else
      let s3 := ((s2.failJobs Code.FOLD_TAMPER .hardware).rekey Code.FOLD_TAMPER).emit (.ownerMsix 1)
      if r = 3 then { s3 with fold := { s3.fold with tamperHold := true } } else s3

/-- TAMPER_INPUT: latched in Night with its count, answered otherwise (R575). -/
def execTamperInput (n : Nat) (s : State) : Host.Outcome State Fault Refusal :=
  if n > 3 then .next s
  else if s.power = .night ∨ !s.booted then .next { s with fold := { s.fold with tamperLatch := s.fold.tamperLatch ++ [(n, s.clock.aoCount % 2 ^ 32)] } }
  else .next (s.tamper n (s.clock.aoCount % 2 ^ 32))

/-- TAMPER_CLEAR (R574). -/
def execTamperClear (s : State) : Host.Outcome State Fault Refusal :=
  s.mailbox false false (fun s =>
    let s1 := if s.fold.tamperHold then s.commit 0x0031 .owner 0 0 0 [0, 0, s.clock.aoCount % 2 ^ 32] else s
    { s1 with fold := { s1.fold with tamperHold := false } }.mbEnd 0 [])

end Sys2Proof.Machine
end

