-- ==== Sys2Proof/Machine/Time.lean ====
section
/-! DEFINITION. The clock, its step and rate, the always-on count, and the IEEE 1588 servo (R588 to R594, R606). -/

namespace Sys2Proof.Machine

/-- One second in units of 2^-32 ns. -/
def secondUnits : Nat := 1000000000 * 2 ^ 32

/-- incr, in 2^-32 ns (R588). -/
def State.incr (s : State) : Nat := s.fld 0x5200 7 0 * 2 ^ 32 + s.rd R.TIME_INCR
/-- TIME.ADJ, signed. -/
def State.adj (s : State) : Int := signedOf 20 (s.fld R.TIME_ADJ 19 0)

/-- What the clock adds at one tick of 250 MHz, or in Dusk of 100 MHz (R588). -/
def State.clockInc (s : State) : Nat :=
  let inc := (s.incr : Int) + rhe (s.incr * s.adj) 1024000000
  (if s.power = .dusk then rhe (5 * inc) 2 else inc).toNat

/-- The always-on count advanced by a part of a period, in 10^-9 of it (R591). -/
def Clock.runAo (c : Clock) (part : Nat) : Clock :=
  let f := c.aoFrac + part
  let n := c.aoCount + f / 1000000000
  { c with aoFrac := f % 1000000000, aoCount := n % 32768, aoSec := (c.aoSec + n / 32768) % 2 ^ 48 }

/-- The pins of FUNC 1 rise at each seconds rollover (R662). -/
def State.ppsRise (s : State) : State :=
  if s.enabled 28 ∧ (List.range 8).any (fun n => s.fld R.GPIO_FUNC (2 * n + 1) (2 * n) = 1) then s.emit (.pins "PPS" true) else s

/-- The clock advanced by n ticks, at most one of them a rollover, which sets the always-on count (R588, R591). -/
def State.runClock (s : State) (n : Nat) : State :=
  let part := if s.power = .dusk then 327680 else 131072
  let c0 := s.clock.runAo (n * part)
  let c := { c0 with mono := c0.mono + n * (if s.power = Power.dusk then 10 else 4) }
  let f := c.frac + n * s.clockInc
  if f ≥ secondUnits then
    let sec := (c.sec + 1) % 2 ^ 48
    { s with clock := { c with frac := f - secondUnits, sec, aoSec := sec, aoCount := 0, aoFrac := 0 } }.ppsRise
  else { s with clock := { c with frac := f } }

/-- One tick of the block's clock; before power-up and in Night, one period of the 32.768 kHz time base (R588, R591; log entry
28). -/
def State.tick (s : State) : State :=
  if s.power = .night ∨ !s.booted then { s with clock := s.clock.runAo 1000000000 } else s.runClock 1

/-- SECONDS_ROLLOVER: the ticks up to and with the one that rolls the second over (R588, R591). -/
def execSecondsRollover (s : State) : Host.Outcome State Fault Refusal :=
  if s.power = .night ∨ !s.booted ∨ s.clockInc = 0 then .next s
  else .next (s.runClock (ceilDiv (secondUnits - s.clock.frac) s.clockInc))

/-- The servo owns STEP and ADJ (R594). -/
def State.servoOwns (s : State) : Bool := s.fld R.TIME_PTP_CFG 1 0 ≠ 0

/-- The servo runs: it owns the clock's correction and its page is enabled (R594, R625). -/
def State.servoRuns (s : State) : Bool := s.enabled 5 && s.servoOwns

/-- Nanoseconds added to the clock at the next tick, carrying into SEC; STEP_USED is set and UNSET clears (R590, R591). -/
def State.stepClock (s : State) (ofs : Int) : State :=
  let t := (s.clock.sec : Int) * secondUnits + s.clock.frac + ofs * 2 ^ 32
  let u := (t % ((secondUnits * 2 ^ 48 : Nat) : Int)).toNat
  let s1 := { s with clock := { s.clock with sec := u / secondUnits, frac := u % secondUnits, unset := false } }
  (s1.wr R.TIME_STEP_USED 1).setFld 0x5008 16 16 0

/-- A write of STEP (R590, R594). -/
def State.writeStep (s : State) (o : Origin) (v : Nat) : State :=
  if s.servoOwns ∧ o ≠ .firmware then s.refuse o Code.TIME_PTP_OWNS R.TIME_STEP v
  else if v % 2 = 0 then s
  else if s.fld R.TIME_STEP_USED 0 0 = 1 then s.refuse o Code.TIME_STEP_USED R.TIME_STEP v
  else s.stepClock (signedOf 64 (s.rd64 R.TIME_STEP_OFS_L))

/-- STEP. -/
def execStep (o : Origin) (v : Nat) (s : State) : Host.Outcome State Fault Refusal :=
  .next (s.act o R.TIME_STEP v (fun s => s.writeStep o v))

/-- A value of incr that R589 accepts: 3.996 to 4.004 ns. -/
def incrOk (v : Nat) : Bool := decide (17162689315 ≤ v ∧ v ≤ 17197049053)

/-- A value of ADJ that R589 accepts. -/
def adjOk (v : Nat) : Bool := decide (-512000 ≤ signedOf 20 v ∧ signedOf 20 v ≤ 512000)

/-- PTP_STATE, and STATUS.LOCKED. -/
def State.setPtp (s : State) (v : Nat) : State := (s.wr R.TIME_PTP_STATE v).setFld 0x5008 17 17 (if v = 3 then 1 else 0)

/-- A Sync counted within or beyond 20 µs (R593 step 4). -/
def State.countSync (s : State) (offset : Int) : State :=
  let c := s.clock
  let good := if offset.natAbs ≤ 20000 then min 16 (c.goodSync + 1) else 0
  let bad := if offset.natAbs ≤ 20000 then 0 else min 16 (c.badSync + 1)
  let s1 := { s with clock := { c with goodSync := good, badSync := bad } }
  if good = 16 then s1.setPtp 3 else if bad = 16 ∨ s.rd R.TIME_PTP_STATE < 2 then s1.setPtp 2 else s1

/-- The rate demand, whose law the spec does not give: a free value within ±500 ppm (R593 step 3; log entry 41). -/
def State.slew (s : State) : State :=
  let f := s.fresh
  f.2.setReg .firmware R.TIME_ADJ (lowBits 20 (((Config.freeValue f.1 % 1024001 : Nat) : Int) - 512000))

/-- The servo's answer to an offset, once four exchanges with one grandmaster are complete (R593, R594). -/
def State.servo (s : State) (offset : Int) : State :=
  if s.clock.exchanges < 4 then s
  else if offset.natAbs > 1000 * s.rd R.TIME_STEP_THRESH ∧ s.fld R.TIME_STEP_USED 0 0 = 0 ∧ s.clock.gm = 1 then s.stepClock (-offset)
  else
    let s1 := s.slew
    if offset.natAbs > 1000000000 ∧ s.fld R.TIME_STEP_USED 0 0 = 1 ∧ !s.clock.gmLarge then
      { s1 with clock := { s1.clock with gmLarge := true } }.record { code := Code.TIME_OFFSET_LARGE, cls := 0 }
    else s1

/-- OFFSET as the register holds it: signed 32 bits, saturating. -/
def satOffset (v : Int) : Nat := lowBits 32 (max (-2147483648) (min 2147483647 v))

/-- PTP_SYNC: a completed Sync and Delay exchange with the grandmaster `gm` (R592, R593). -/
def execPtpSync (offset : Int) (delay : Nat) (errNs : Nat) (gm : Nat) (s : State) : Host.Outcome State Fault Refusal :=
  if s.power = .night ∨ !s.booted ∨ !s.servoRuns ∨ s.fatal ≠ 0 then .next s
  else
    let c := s.clock
    let same := c.gm ≠ 0 && s.rd64 R.TIME_GM_ID_L = gm % 2 ^ 64
    let c1 : Clock := { c with gm := if c.gm = 0 then 1 else if same then c.gm else 2, exchanges := if same then min 4 (c.exchanges + 1) else 1 }
    let s1 := ((({ s with clock := c1 }.wr64 R.TIME_GM_ID_L (gm % 2 ^ 64)).wr R.TIME_OFFSET (satOffset offset)).wr R.TIME_PATH_DELAY
      (min delay (2 ^ 32 - 1))).maxFld R.TIME_TS_ERR_MAX 15 0 errNs
    .next ((s1.countSync offset).servo offset)

/-- TIME_GM_LOST: ADJ is held (R594). -/
def execTimeGmLost (s : State) : Host.Outcome State Fault Refusal :=
  if s.power = .night ∨ !s.booted ∨ !s.servoRuns ∨ s.fatal ≠ 0 then .next s
  else .next (s.record { code := Code.TIME_GM_LOST, cls := 1 })

end Sys2Proof.Machine
end

