-- ==== Sys2Proof/Machine/Ivdon.lean ====
section
/-! DEFINITION. The Ivdon links: ports, packets and their flooding, levels, sync groups and the epoch (R595 to R610). -/

namespace Sys2Proof.Machine

/-! ### Packets -/

/-- A field of a packet (R596). -/
def pktField (p : BitVec 128) (hi lo : Nat) : Nat := fieldOf p.toNat hi lo
/-- A packet's TYPE. -/
def pktType (p : BitVec 128) : Nat := pktField p 127 120
/-- A packet's SRC. -/
def pktSrc (p : BitVec 128) : Nat := pktField p 119 108
/-- A packet's DST. -/
def pktDst (p : BitVec 128) : Nat := pktField p 107 96
/-- A packet's SEQ. -/
def pktSeq (p : BitVec 128) : Nat := pktField p 87 80
/-- The epoch of a group packet. -/
def pktEpoch (p : BitVec 128) : Nat := pktField p 71 40
/-- A packet's CRC is right (R596). -/
def pktOk (p : BitVec 128) : Bool := crc16ibm.crc (beBytes 14 (p.toNat / 65536)) = pktField p 15 0

/-- The device's number. -/
def State.deviceNo (s : State) : Nat := s.fld R.SYS_DEVICE_NO 11 0

/-- A packet passed on with one hop fewer, on every port in service but the one it came by (R597). -/
def State.forward (s : State) (port : Nat) (p : BitVec 128) : State :=
  let h := pktField p 95 88
  if h ≤ 1 then s
  else s.sendOn ([0, 1, 2, 3].filter (· ≠ port))
    (packetOf (pktType p) (pktSrc p) (pktDst p) (h - 1) (pktSeq p) (pktField p 79 72) (pktField p 71 16))

/-- A flooded packet remembered for 1 ms (R597). -/
def State.notePkt (s : State) (p : BitVec 128) : State :=
  let now := s.clock.mono
  { s with ivdon := { s.ivdon with seen := (pktSrc p * 256 + pktSeq p, now) :: s.ivdon.seen.filter (fun x => decide (now < x.2 + 1000000)) } }

/-- The packet has been seen within the last 1 ms, or is one of the device's own come back (R597, R600). -/
def State.seenPkt (s : State) (p : BitVec 128) : Bool :=
  s.ivdon.seen.any (fun x => x.1 = pktSrc p * 256 + pktSeq p && decide (s.clock.mono < x.2 + 1000000)) ||
  (pktSrc p = s.deviceNo && s.ivdon.mine.contains (pktSeq p))

/-- The device's number in another's packet (R600). -/
def State.dupCheck (s : State) (p : BitVec 128) : State :=
  if pktSrc p ≠ s.deviceNo ∨ s.ivdon.dup then s
  else { s with ivdon := { s.ivdon with dup := true } }.record { code := Code.IVDON_DUP_DEVICE, cls := 1, lk := 8, l0 := pktSrc p }

/-- A packet that fails its CRC: discarded, counted and reported (R596). -/
def State.badPkt (s : State) (port : Nat) : State :=
  (s.setPort port { s.port port with crcFails := satAdd 65535 (s.port port).crcFails 1 }).record
    { code := Code.IVDON_MSG_CRC, cls := 0, lk := 8, l0 := port }

/-- A packet can arrive on a port. -/
def State.hears (s : State) (port : Nat) : Bool := s.power ≠ .night && s.booted && decide (port < 4) && (s.port port).carries

/-- A flooded packet of a type: its CRC, the check of what was seen, its forwarding, then what a device that consumes it does
(R596, R597, R599, R600). In Dusk only WAKE is consumed. -/
def State.flooded (s : State) (typ port : Nat) (p : BitVec 128) (consume : State → State) : State :=
  if !s.hears port then s
  else if !pktOk p then s.badPkt port
  else if pktType p ≠ typ then s
  else if s.seenPkt p then s.inc R.IVDON_FLOOD_DROPS
  else
    let s1 := ((s.dupCheck p).notePkt p).forward port p
    if s.fatal ≠ 0 ∨ (s.power = .dusk ∧ typ ≠ 3) then s1 else consume s1

/-- A group packet: only a member or leader of its GROUP acts on it (R597, R601). -/
def State.groupPkt (s : State) (typ port : Nat) (p : BitVec 128) (consume : State → State) : State :=
  s.flooded typ port p (fun s => if s.grouped ∧ pktField p 79 72 = s.group then consume s else s)

/-- HELLO stays on its link and names the neighbour (R597, R600). -/
def execHello (port : Nat) (pkt : BitVec 128) (s : State) : Host.Outcome State Fault Refusal :=
  if !s.hears port then .next s
  else if !pktOk pkt then .next (s.badPkt port)
  else if pktType pkt ≠ 1 then .next s
  else .next (s.setPort port { s.port port with nb := pktSrc pkt, nbPort := pktField pkt 31 30 })

/-! ### Levels -/

/-- The ring protocol level (R601). -/
def State.setRing (s : State) (v : Nat) : State := { s with ivdon := { s.ivdon with ring := v } }

/-- LEVEL: the ring protocol level falls at once (R601). -/
def execLevel (port : Nat) (pkt : BitVec 128) (s : State) : Host.Outcome State Fault Refusal :=
  .next (s.flooded 2 port pkt (fun s =>
    let v := pktField pkt 71 64
    let s1 := { s with ivdon := { s.ivdon with offers := kput s.ivdon.offers (pktSrc pkt) v } }
    if v < s.ivdon.ring then (s1.setRing v).record { code := Code.IVDON_LEVEL_DOWN, cls := 0, lk := 8, l0 := v } else s1))

/-- IVDON_LEVEL_RISE: no offer as low as the ring's level stands any more (R601). -/
def execIvdonLevelRise (s : State) : Host.Outcome State Fault Refusal :=
  let keep := s.ivdon.offers.filter (fun o => decide (o.2 > s.ivdon.ring))
  let v := keep.foldl (fun m o => min m o.2) s.ivdon.ownLevel
  if s.power ≠ .day ∨ !s.booted ∨ v ≤ s.ivdon.ring then .next s
  else .next ({ s with ivdon := { s.ivdon with offers := keep } }.setRing v)

/-! ### WAKE and MGMT -/

/-- IVDON_WAKE (R597, R599, R500). -/
def execIvdonWake (port : Nat) (pkt : BitVec 128) (s : State) : Host.Outcome State Fault Refusal :=
  .next (s.flooded 3 port pkt (fun s => if pktField pkt 71 71 = 1 ∨ pktDst pkt = s.deviceNo then s.wake 3 else s))

/-- MGMT: what firmware does with one addressed to the device is its own (R597). -/
def execMgmt (port : Nat) (pkt : BitVec 128) (s : State) : Host.Outcome State Fault Refusal := .next (s.flooded 0x40 port pkt id)

/-! ### The epoch -/

/-- Epoch e has come: the start condition is met, and a resumed run's cause clears (R602, R316). -/
def State.takeEpoch (s : State) (e : Nat) : State :=
  let restoring := s.stripes.any (fun t => decide (t.st = .contained) && t.ckpt = 5)
  let i := { s.ivdon with epoch := e, epochGot := !(restoring && s.profile.resumeWait), readyFrom := [] }
  { s with ivdon := i, profile := { s.profile with resumeWait := s.profile.resumeWait && !restoring } }

/-- The leader counts a READY for the next epoch, and floods EPOCH when it has heard SIZE members; after a CONTAIN for that epoch it
sends none (R602, R607). -/
def State.countReady (s : State) (src : Nat) : State :=
  let e := s.ivdon.epoch + 1
  let l := if s.ivdon.readyFrom.contains src then s.ivdon.readyFrom else src :: s.ivdon.readyFrom
  let s1 := { s with ivdon := { s.ivdon with readyFrom := l } }
  if l.length ≥ s.fld R.IVDON_GROUP_LEAD 24 16 ∧ s.ivdon.containSeen ≠ e then (s1.flood 0x11 0 (e % 2 ^ 32 * 2 ^ 24)).takeEpoch e else s1

/-- READY: for an epoch other than the next it is ignored (R602). -/
def execReady (port : Nat) (pkt : BitVec 128) (s : State) : Host.Outcome State Fault Refusal :=
  .next (s.groupPkt 0x10 port pkt (fun s =>
    if s.role = 2 ∧ pktEpoch pkt = (s.ivdon.epoch + 1) % 2 ^ 32 then s.countReady (pktSrc pkt) else s))

/-- EPOCH (R602). -/
def execEpoch (port : Nat) (pkt : BitVec 128) (s : State) : Host.Outcome State Fault Refusal :=
  .next (s.groupPkt 0x11 port pkt (fun s =>
    if pktEpoch pkt = (s.ivdon.epoch + 1) % 2 ^ 32 then s.takeEpoch (s.ivdon.epoch + 1) else s))

/-- Every other condition of the next start holds: of the stripe that waits first, or of a RESUME that was accepted (R602). -/
def State.groupStart (s : State) : Bool :=
  s.stripes.any (fun t => decide (t.st = .contained) && t.ckpt = 5 && s.profile.resumeWait) ||
  (match s.firstWaiting with | some x => s.startReady x | none => false)

/-- GROUP_READY: READY for the next epoch flooded once; the leader counts itself (R602). -/
def execGroupReady (s : State) : Host.Outcome State Fault Refusal :=
  let e := s.ivdon.epoch + 1
  if s.power ≠ .day ∨ !s.booted ∨ !s.grouped ∨ s.ivdon.epochGot ∨ s.ivdon.readySent = e ∨ !s.groupStart then .next s
  else
    let s1 := { s with ivdon := { s.ivdon with readySent := e } }.flood 0x10 0 (e % 2 ^ 32 * 2 ^ 24)
    .next (if s.role = 2 then s1.countReady s.deviceNo else s1)

/-- CONTAIN of the writing stripe's epoch: it is contained at its next flash, in STILL and REWIND at once, and a drain is only
recorded (R440, R471, R603). -/
def State.containPeer (s : State) : State :=
  let a : RecArg := { code := Code.IVDON_GROUP_CONTAIN, cls := 2 }
  match s.active with
  | none => if s.stripes.any (fun t => t.st = .draining) then s.contain a else s
  | some x =>
    if x.st = StripeSt.contained ∧ (x.ckpt ≠ 5 ∨ s.profile.resumeWait) then { s with ivdon := { s.ivdon with contains := s.ivdon.contains + 1 } }
    else if s.drover.st = 3 ∨ s.drover.st = 4 then s.contain a
    else s.modStripe x (fun t => { t with peer := true })

/-- CONTAIN: one for another epoch is counted only, and the leader keeps it in mind (R603, R607). -/
def execContain (port : Nat) (pkt : BitVec 128) (s : State) : Host.Outcome State Fault Refusal :=
  .next (s.groupPkt 0x12 port pkt (fun s =>
    let s1 := if pktEpoch pkt = (s.ivdon.epoch + 1) % 2 ^ 32 then { s with ivdon := { s.ivdon with containSeen := s.ivdon.epoch + 1 } } else s
    if pktEpoch pkt = s.ivdon.epoch % 2 ^ 32 ∧ s.ivdon.epoch ≠ 0 ∧ s.stripes.any (fun t => decide (t.st = .writing ∨ t.st = .draining ∨ t.st = .contained))
    then s1.containPeer else { s1 with ivdon := { s1.ivdon with contains := s1.ivdon.contains + 1 } }))

/-- ALIVE: a member heard, with its format level (R604, R601). -/
def execAlive (port : Nat) (pkt : BitVec 128) (s : State) : Host.Outcome State Fault Refusal :=
  .next (s.groupPkt 0x13 port pkt (fun s =>
    let heard := if s.ivdon.heard.contains (pktSrc pkt) then s.ivdon.heard else pktSrc pkt :: s.ivdon.heard
    { s with ivdon := { s.ivdon with heard, formats := kput s.ivdon.formats (pktSrc pkt) (pktField pkt 31 16) } }))

/-- IVDON_GROUP_LOST (R604). -/
def execIvdonGroupLost (member : Nat) (s : State) : Host.Outcome State Fault Refusal :=
  if !s.grouped ∨ s.writing.isNone ∨ s.fatal ≠ 0 ∨ member > 4095 ∨ member = s.deviceNo then .next s
  else .next ({ s with ivdon := { s.ivdon with heard := s.ivdon.heard.filter (· ≠ member), formats := kdel s.ivdon.formats member } }.contain
    { code := Code.IVDON_GROUP_LOST, cls := 2, lk := 8, l0 := member })

/-! ### Ports -/

/-- IVDON_PORT_DOWN (R598). -/
def execIvdonPortDown (port : Nat) (s : State) : Host.Outcome State Fault Refusal :=
  if s.hears port then .next (s.portDown port) else .next s

/-- IVDON_PORT_TRAINED: a rate is an index of RATES_ALLOWED (R595, R598). -/
def execIvdonPortTrained (port rate : Nat) (result : PortEnd) (nb nbPort : Nat) (s : State) : Host.Outcome State Fault Refusal :=
  let p := s.port port
  if port > 3 ∨ p.st ≠ 1 ∨ s.power = .night then .next s
  else match result with
    | .failed => .next (s.setPort port { p with st := 5 })
    | r =>
      let lane := match r with | .degraded l => l % 2 | _ => 0
      if rate > 2 ∨ !(s.fld R.IVDON_CFG 10 8).testBit rate then .next s
      else
        let st := if r = PortEnd.up then 2 else 3
        let q : Port := { p with st, rate, nb := nb % 4096, nbPort := nbPort % 4, prevRate := rate + 1, lane, relay := s.power = .dusk && st = 2 }
        let s1 := s.setPort port q
        let s2 := if st = 3 then s1.record { code := Code.IVDON_PORT_DEGRADED, cls := 0, lk := 8, l0 := port } else s1
        .next (if rate + 1 < p.prevRate then s2.record { code := Code.IVDON_RATE_DOWN, cls := 0, lk := 8, l0 := port } else s2)

/-- IVDON_PORT_RETRY (R598). -/
def execIvdonPortRetry (port : Nat) (s : State) : Host.Outcome State Fault Refusal :=
  if port > 3 ∨ (s.port port).st ≠ 5 ∨ s.power = .night then .next s else .next (s.setPort port { s.port port with st := 1, relay := false })

/-- The ports of TOPOLOGY (R600). -/
def State.topoPorts (s : State) : List Nat :=
  match s.fld R.IVDON_CFG 1 0 with | 1 => [0, 1] | 2 => [0, 1, 2, 3] | _ => []

/-- RETRAIN of the ports that a mask names, as far as they are in use (R610). -/
def State.retrainPorts (s : State) (v : Nat) : State :=
  (s.topoPorts.filter (fun p => v.testBit p)).foldl (fun s p => if (s.port p).st = 0 then s else s.setPort p { s.port p with st := 1, relay := false }) s

/-- IVDON_RETRAIN. -/
def execIvdonRetrain (o : Origin) (v : Nat) (s : State) : Host.Outcome State Fault Refusal :=
  .next (s.act o R.IVDON_RETRAIN v (fun s => if s.enabled 19 then s.retrainPorts v else s))

/-- Ports when IVDON is enabled: those of TOPOLOGY train; when disabled: all down (R595, R623, R625). -/
def State.startPorts (s : State) : State := s.topoPorts.foldl (fun s p => s.setPort p { s.port p with st := 1, relay := false }) s
/-- Every port down, and what the links held. -/
def State.stopPorts (s : State) : State :=
  [0, 1, 2, 3].foldl (fun s p => s.setPort p { s.port p with st := 0 }) s

/-- A GROUP_CFG accepted: the epoch count starts at 0 (R602). -/
def State.newGroup (s : State) : State :=
  { s with ivdon := { s.ivdon with epoch := 0, epochGot := false, readySent := 0, readyFrom := [], containSeen := 0, heard := [], formats := [] } }

end Sys2Proof.Machine
end

