-- ==== Sys2Proof/Machine/Therm.lean ====
section
/-! DEFINITION. Temperature: the sensors, the levels of the three classes, throttling, the bands, acknowledgement (R510 to R530,
R236, R346). -/

namespace Sys2Proof.Machine

/-! ### Sensors -/

/-- A sensor. -/
def State.sensor (s : State) (i : Nat) : Sensor := kget (fun _ => {}) s.sensors i
/-- A sensor set. -/
def State.setSensor (s : State) (i : Nat) (x : Sensor) : State := { s with sensors := kset (fun _ => {}) s.sensors i x }
/-- A class. -/
def State.tclass (s : State) (c : Nat) : TClass := kget (fun _ => {}) s.tclasses c
/-- A class set. -/
def State.setClass (s : State) (c : Nat) (x : TClass) : State := { s with tclasses := kset (fun _ => {}) s.tclasses c x }

/-- The class of an external diode by EXT_CFG, 3 when it is off (R510). -/
def State.extClass (s : State) (d : Nat) : Nat :=
  match fieldOf (s.inForce R.THERM_EXT_CFG) (4 * d + 1) (4 * d) with | 0 => 3 | n => n - 1

/-- The class of a sensor: 0 die, 1 head, 2 memory, 3 none (R510). -/
def State.sensorClass (s : State) (i : Nat) : Nat :=
  if i < 48 then 0 else if i < 64 then 2 else if i < 128 then 1 else if i < 130 then s.extClass (i - 128) else 3

/-- Head sensors are absent: in Dusk, and while no stripe is armed or writing and no return lane has block lock (R494, R511). -/
def State.headAbsent (s : State) : Bool := s.power = .dusk || (!s.anyArmed && s.flink.rx = 0)

/-- A sensor takes part in its class: it exists, is not absent, and has been read or has failed (R510, R511; log entry 42). -/
def State.present (s : State) (i : Nat) : Bool :=
  decide (s.sensorClass i < 3) && (decide (i < 64 ∨ i ≥ 128) || (decide (i - 64 < s.headSensors) && !s.headAbsent)) &&
  ((s.sensor i).last.isSome || (s.sensor i).failed)

/-- The neighbours of a sensor (R510). -/
def State.nearby (s : State) (i : Nat) : List Nat :=
  if i < 48 then
    (if i % 8 = 0 then [] else [i - 1]) ++ (if i % 8 = 7 then [] else [i + 1]) ++ (if i < 8 then [] else [i - 8]) ++ (if i ≥ 40 then [] else [i + 8])
  else if i < 64 then ((List.range 4).map (fun k => i / 4 * 4 + k)).filter (· ≠ i)
  else if i < 128 then ((if i = 64 then [] else [i - 1]) ++ (if i = 127 then [] else [i + 1])).filter (fun k => decide (k - 64 < s.headSensors))
  else if s.extClass 0 = s.extClass 1 ∧ s.extClass 0 < 3 then [257 - i] else []

/-- The hottest of some readings. -/
def hottest (l : List Int) : Option Int := match l with | [] => none | x :: xs => some (xs.foldl max x)

/-- The value in use of a sensor (R512): its reading, or when it has failed the larger of its last one and its hottest sound
neighbour's plus 5 °C; with no such neighbour, its last one plus 5 °C. -/
def State.useOf (s : State) (i : Nat) : Option Int :=
  let x := s.sensor i
  if !x.failed then x.last
  else
    let ns := (s.nearby i).filterMap (fun k => if (s.sensor k).failed ∨ !s.present k then none else (s.sensor k).last)
    match hottest ns, x.last with
    | some n, some l => some (max l (n + 80))
    | some n, none => some (n + 80)
    | none, l => l.map (· + 80)

/-- With the die sensor record lost every die value in use is 5 °C higher (R539). -/
def State.valueInUse (s : State) (i : Nat) : Option Int :=
  (s.useOf i).map (· + if i < 48 ∧ s.sensorsLost then 80 else 0)

/-- The values in use of a class, with the sensors they are of. -/
def State.classValues (s : State) (c : Nat) : List (Nat × Int) :=
  (List.range 130).filterMap (fun i => if s.sensorClass i = c ∧ s.present i then (s.valueInUse i).map (fun v => (i, v)) else none)

/-- A class's temperature: its hottest value in use. -/
def State.classTemp (s : State) (c : Nat) : Option Int := hottest ((s.classValues c).map (·.2))

/-- A valid reading: within −40 to 150 °C for a die or external sensor (R511). -/
def readingOk (i : Nat) (v : Int) : Bool := decide (48 ≤ i ∧ i < 64) || decide (-640 ≤ v ∧ v ≤ 2400)

/-- One sensor's sample: what the sensor gave, or for a head sensor its most recent report (R510, R511). An absent head sensor is not
failed. -/
def State.sampleOne (s : State) (raw : List (Option Int)) (i : Nat) : State :=
  let x := s.sensor i
  if 64 ≤ i ∧ i < 128 then
    if s.headAbsent then if x.failed then s.setSensor i { x with failed := false, acked := false, bad := 0, good := 0 } else s
    else match kget? s.flink.sensors (i - 64) with
      | some (some v) => s.setSensor i { x with last := some v, bad := 0, good := min 8 (x.good + 1) }
      | some none => s.setSensor i { x with bad := 3, good := 0 }
      | none => s
  else if s.sensorClass i = 3 then s
  else match (raw.getD i none) with
    | some v => if readingOk i v then s.setSensor i { x with last := some v, bad := 0, good := min 8 (x.good + 1) }
                else s.setSensor i { x with bad := min 3 (x.bad + 1), good := 0 }
    | none => s.setSensor i { x with bad := min 3 (x.bad + 1), good := 0 }

/-! ### Thresholds, levels and the ceiling -/

/-- The register of a class's threshold: level 1 warning, 2 throttle, 3 shutdown (R531). -/
def thrReg (c level : Nat) : RegAddr := R.THERM_DIE_WARN + 0x10 * c + 4 * (level - 1)
/-- A threshold in force (R530). -/
def State.thr (s : State) (c level : Nat) : Int := signedOf 16 (fieldOf (s.inForce (thrReg c level)) 15 0)
/-- Its hysteresis. -/
def State.thrHyst (s : State) (c level : Nat) : Int := fieldOf (s.inForce (thrReg c level)) 23 16

/-- Dwell counts advanced: where the condition holds one more, at most 8, else 0 (R513). -/
def dwell (l : List Nat) (p : Nat → Bool) : List Nat := l.zipIdx.map (fun x => if p x.2 then min 8 (x.1 + 1) else 0)

/-- A class's dwell counts at a sample; a class with no value in use keeps its level (R511, R513). -/
def State.sampleClass (s : State) (c : Nat) : State :=
  match s.classTemp c with
  | none => s
  | some t =>
    let x := s.tclass c
    s.setClass c { x with above := dwell x.above (fun n => decide (t ≥ s.thr c (n + 1))),
                          below := dwell x.below (fun n => decide (t < s.thr c (n + 1) - s.thrHyst c (n + 1))) }

/-- A class's ceiling at throttle in kHz (R516). -/
def State.classCeil (s : State) (c : Nat) : Nat :=
  let x := ((s.classTemp c).getD 0 - s.thr c 2).toNat
  max (16 * fieldOf (s.inForce R.THERM_FLOOR) 6 0) (1600 - fieldOf (s.inForce R.THERM_GAIN) 6 0 * x) * s.maxRate / 1600

/-- A class's ceiling, no higher in a hold than its least value since the hold began (R516, R522). -/
def State.heldCeil (s : State) (c : Nat) : Nat := if (s.tclass c).relax then min (s.tclass c).least (s.classCeil c) else s.classCeil c

/-- The thermal ceiling (R516, R519): with pause mode alone, or no class at throttle, it is MAX_RATE. -/
def State.thermCeil (s : State) : Nat :=
  if fieldOf (s.inForce R.THERM_MODE) 1 0 = 1 then s.maxRate
  else ([0, 1, 2].filter (fun c => s.classLevel c = 2)).foldl (fun m c => min m (s.heldCeil c)) s.maxRate

/-- The ceiling recomputed, and the least ceilings of the classes held. -/
def State.showCeil (s : State) : State :=
  let s1 := [0, 1, 2].foldl (fun s c => if (s.tclass c).relax then s.setClass c { s.tclass c with least := s.heldCeil c } else s) s
  s1.setFld R.THERM_CEILING 20 0 s1.thermCeil

/-- HOTTEST: the hottest value in use, its sensor and class (R531). -/
def State.showHottest (s : State) : State :=
  let all := [0, 1, 2].flatMap (fun c => (s.classValues c).map (fun v => (c, v)))
  match all with
  | [] => s
  | x :: xs =>
    let m := xs.foldl (fun m y => if y.2.2 > m.2.2 then y else m) x
    s.wr R.THERM_HOTTEST (m.2.1 * 2 ^ 24 + m.1 * 2 ^ 20 + lowBits 16 m.2.2)

/-! ### Bands -/

/-- The hottest memory sensor of a stack. -/
def State.stackTemp (s : State) (k : Nat) : Option Int :=
  hottest ((List.range 4).filterMap (fun j => if s.present (48 + 4 * k + j) then s.valueInUse (48 + 4 * k + j) else none))

/-- A stack's refresh band at a sample: up at once, down after 8 samples below the threshold less 2 °C (R346). -/
def State.sampleStack (s : State) (k : Nat) : State :=
  match s.stackTemp k with
  | none => s
  | some t =>
    let x := s.stack k
    let below := dwell x.below (fun n => decide (t < 1360 + 160 * (n : Int) - 32))
    let up := (if t > 1360 then 1 else 0) + if t > 1520 then 1 else 0
    let down := if x.band = 2 ∧ below.getD 1 0 = 8 then (if below.getD 0 0 = 8 then 0 else 1) else if x.band = 1 ∧ below.getD 0 0 = 8 then 0 else x.band
    s.setStack k { x with band := if up > x.band then up else down, below }

/-- The refresh band in force: the largest of the temperature's and the two floors (R346, R549). -/
def State.refreshBand (s : State) (k : Nat) : Nat := max (s.stack k).band (max (s.fld R.HBM0_CFG 18 16) s.age.refreshIn)

/-- The dose-table bank's thresholds at a sample: each is reached, or left, after 8 samples beyond it (R236). -/
def State.sampleBank (s : State) : State :=
  match s.classTemp 1 with
  | none => s
  | some t =>
    let f := s.flink
    let reg := fun (n : Nat) => s.rd (R.FLINK_BANK_THR0 + 4 * n)
    let thr := fun (n : Nat) => signedOf 16 (fieldOf (reg n) 15 0)
    let on := fun (n : Nat) => f.bankOn.getD n false
    let out := fun (n : Nat) => if on n then decide (t < thr n - s.fld R.FLINK_BANK_HYST 7 0) else decide (t ≥ thr n)
    let d := (List.range 7).map (fun n => if out n then min 8 (f.bankDwell.getD n 0 + 1) else 0)
    let onNow := (List.range 7).map (fun n => if d.getD n 0 = 8 then !on n else on n)
    let dNow := d.map (fun x => if x = 8 then 0 else x)
    let count := ((List.range 7).filter (fun n => onNow.getD n false && fieldOf (reg n) 31 31 = 1)).length
    { s with flink := { f with bankOn := onNow, bankDwell := dNow, bankCount := count } }

/-- The die calibration band at a sample, by the dwell of R513 with the hysteresis of DIE_WARN; it comes into force at a stripe
boundary, or at once with no stripe held (R520, R543; log entry 43). -/
def State.sampleDieBand (s : State) : State :=
  match s.classTemp 0 with
  | none => s
  | some t =>
    let x := s.tclass 0
    let thr := fun (n : Nat) => signedOf 16 (fieldOf (s.inForce R.THERM_DIE_BAND_THR) (16 * n + 15) (16 * n))
    let up := dwell x.bandUp (fun n => decide (t ≥ thr n))
    let down := dwell x.bandDown (fun n => decide (t < thr n - s.thrHyst 0 1))
    let b := if up.getD 1 0 = 8 then 2 else if s.dieBand = 2 ∧ down.getD 1 0 < 8 then 2
             else if up.getD 0 0 = 8 then 1 else if s.dieBand ≥ 1 ∧ down.getD 0 0 < 8 then 1 else 0
    let s1 := s.setClass 0 { x with bandUp := up, bandDown := down }
    if b = s.dieBand then s1 else { s1 with dieBand := b }.keepNow

/-! ### Rises and falls -/

/-- The code of a class's level (R532). -/
def levelCode (c level : Nat) : Nat := 0x0240 + 3 * c + (level - 1)

/-- A class has a failed sensor that nobody has acknowledged. -/
def State.unacked (s : State) (c : Nat) : Bool :=
  (List.range 130).any (fun i => s.sensorClass i = c && (s.sensor i).failed && !(s.sensor i).acked)

/-- The hold of R522 begun. -/
def State.beginHold (s : State) (c : Nat) : State :=
  let x := s.tclass c
  if x.relax then s else (s.setClass c { x with relax := true, least := s.classCeil c }).setFld R.THERM_RELAX_HOLD c c 1

/-- The hold of R522 ended, where every failed sensor has recovered or has been acknowledged. -/
def State.endHold (s : State) (c : Nat) : State :=
  if (s.tclass c).relax ∧ !s.unacked c then ((s.setClass c { s.tclass c with relax := false }).setFld R.THERM_RELAX_HOLD c c 0).showCeil else s

/-- A rise's record, or its count while the class's bit is still pending (R514). -/
def State.recordRise (s : State) (c level : Nat) : State :=
  if s.fld 0x2018 c c = 1 then s.bump R.THERM_REPEATS (8 * (2 - c) + 7) (8 * (2 - c)) 1
  else (s.record { code := levelCode c level, cls := if level = 1 then 0 else 1, lk := 8, l0 := c }).raiseIrq 2 c

/-- A rise to shutdown: it contains the writing stripe, whatever is pending, and is recorded in a drain (R515, R525, R526). -/
def State.shutdown (s : State) (c : Nat) : State :=
  if s.writing.isSome ∨ s.stripes.any (fun t => decide (t.st = .contained) && t.ckpt = 5) then (s.contain { code := levelCode c 3, cls := 2, lk := 8, l0 := c }).raiseIrq 2 c else s.recordRise c 3

/-- THERM_LEVEL_RISE: eight samples at or above the threshold (R513 to R515, R522, R528). -/
def execThermLevelRise (cls level : Nat) (s : State) : Host.Outcome State Fault Refusal :=
  let x := s.tclass cls
  if !s.alive ∨ cls > 2 ∨ level > 3 ∨ level ≤ x.level ∨ x.above.getD (level - 1) 0 < 8 then .next s
  else
    let s1 := s.setClass cls { x with level }
    let s2 := if level = 3 then s1.shutdown cls else s1.recordRise cls level
    .next ((if level ≥ 2 ∧ x.level < 2 ∧ s2.unacked cls then s2.beginHold cls else s2).showCeil)

/-- THERM releases the pause cause when no class stands at throttle or above (R518). -/
def State.releasePause (s : State) : State :=
  if [0, 1, 2].any (fun c => decide (s.classLevel c ≥ 2)) then s else { s with profile := { s.profile with pause := false } }

/-- The lanes that clock-off put into low-power idle leave it when the level falls (R515). -/
def State.leaveHeld (s t : State) : State := if s.clockHeld ∧ !t.clockHeld then t.wakeLanes else t

/-- THERM_LEVEL_FALL to a level: eight samples below each threshold above it less its hysteresis; a hold keeps throttle
(R513, R514, R518, R522). -/
def execThermLevelFall (cls level : Nat) (s : State) : Host.Outcome State Fault Refusal :=
  let x := s.tclass cls
  let ready := (List.range 3).all (fun n => decide (n + 1 ≤ level ∨ x.level < n + 1) || x.below.getD n 0 = 8)
  if !s.alive ∨ cls > 2 ∨ level ≥ x.level ∨ !ready ∨ (x.relax ∧ level < 2) then .next s
  else .next (s.leaveHeld (((s.setClass cls { x with level }).raiseIrq 2 5).releasePause.showCeil))

/-! ### Sensors that fail -/

/-- Two neighbours of a class have failed together (R524). -/
def State.pairFailed (s : State) (c : Nat) : Bool :=
  (List.range 130).any (fun i => s.sensorClass i = c && (s.sensor i).failed &&
    (s.nearby i).any (fun k => s.sensorClass k = c && (s.sensor k).failed))

/-- A pair that has come or gone (R524). -/
def State.checkPair (s : State) (c : Nat) : State :=
  let x := s.tclass c
  if s.pairFailed c ∧ !x.pair then
    ((s.setClass c { x with pair := true, pairOrd := s.writing.map (·.ord) }).record { code := Code.THERM_PAIR_FAILED, cls := 1, lk := 8, l0 := c }).raiseIrq 2 4
  else if !s.pairFailed c ∧ x.pair then s.leaveHeld ((s.setClass c { x with pair := false, pairOrd := none }).releasePause)
  else s

/-- THERM_SAMPLE: `raw` holds what each die, memory and external sensor gives, after calibration; the head's come by the link
(R510 to R513, R516, R520). Head sensors that have become
absent leave their hold and their pair (R511). -/
def execThermSample (raw : List (Option Int)) (s : State) : Host.Outcome State Fault Refusal :=
  if !s.alive then .next s
  else
    let s1 := (List.range 130).foldl (fun s i => s.sampleOne raw i) s
    let s2 := [0, 1, 2].foldl State.sampleClass s1
    .next (((([0, 1, 2, 3].foldl State.sampleStack s2).sampleBank.sampleDieBand.showHottest.endHold 1).checkPair 1).showCeil)

/-- THERM_SENSOR_FAILED (R511, R512, R522, R524). -/
def execThermSensorFailed (i : Nat) (s : State) : Host.Outcome State Fault Refusal :=
  let x := s.sensor i
  let c := s.sensorClass i
  let due := if 48 ≤ i ∧ i < 128 then decide (x.bad ≥ 3) else decide (x.bad ≥ 1)
  if !s.alive ∨ c > 2 ∨ x.failed ∨ !due ∨ (64 ≤ i ∧ i < 128 ∧ s.headAbsent) then .next s
  else
    let s1 := s.setSensor i { x with failed := true, acked := false, good := 0 }
    let s2 := (s1.record { code := Code.THERM_SENSOR_FAILED, cls := 1, lk := 8, l0 := i }).raiseIrq 2 3
    .next (((if s.classLevel c ≥ 2 then s2.beginHold c else s2).checkPair c).showCeil)

/-- THERM_SENSOR_RECOVERED (R511, R522, R524). -/
def execThermSensorRecovered (i : Nat) (s : State) : Host.Outcome State Fault Refusal :=
  let x := s.sensor i
  if !s.alive ∨ !x.failed ∨ x.good < 8 then .next s
  else
    let c := s.sensorClass i
    .next ((((s.setSensor i { x with failed := false, acked := false }).endHold c).checkPair c).showCeil)

/-- An acknowledgement (R523): only the Operator and the Owner make one, and each is audited. -/
def State.ack (s : State) (o : Origin) (v : Nat) : State :=
  let i := fieldOf v 7 0
  let x := s.sensor i
  if o ≠ .operator ∧ o ≠ .owner then s.refuse o Code.FOLD_ROLE R.THERM_ACK v (some 4)
  else if !x.failed then s.refuse o Code.THERM_ACK_NOT_FAILED R.THERM_ACK v
  else if s.auditFull then s.countFull.refuse o Code.AUDIT_FULL R.THERM_ACK v
  else ((s.commit 1 o R.THERM_ACK 0 i []).setSensor i { x with acked := true }).endHold (s.sensorClass i)

/-- THERM_ACK. -/
def execThermAck (o : Origin) (v : Nat) (s : State) : Host.Outcome State Fault Refusal :=
  .next (s.act o R.THERM_ACK v (fun s => s.ack o v))

end Sys2Proof.Machine
end

