-- ==== Sys2Proof/Machine/Enable.lean ====
section
/-! DEFINITION. The CTRL register of every page: the consistency check of R623 with each page's own conditions, disabling (R625),
soft reset (R622, R670) and the clearing of the error summary (R621). -/

namespace Sys2Proof.Machine

/-! ### Conditions -/

/-- A condition that refuses with a code and a WHERE (R624). -/
def refuseIf (b : Bool) (code place : Nat) : Option (Nat × Nat) := if b then some (code, place) else none

/-- The first condition of a list that refuses; the list is in ascending order of codes (R623). -/
def firstOf : List (Option (Nat × Nat)) → Option (Nat × Nat)
  | [] => none
  | some x :: _ => some x
  | none :: l => firstOf l

/-- The pages a page needs, in the order tested (R617). -/
def needs : Nat → List Nat
  | 8 => [22] | 9 => [8] | 10 => [9] | 11 => [9] | 12 => [13, 17] | 13 => [11] | 14 => [16] | 15 => [14] | 18 => [17]
  | 23 => [22] | 24 => [22] | 25 => [22] | _ => []

/-- The WHERE of an SRAM region that is not filled. -/
def regionAt (g : Nat) : Nat := 0x4000 + g

/-- The offset of a threshold of THERM that breaks the order of R530: the lower threshold of a pair that does not rise, and a
threshold whose hysteresis fills the gap below it. -/
def State.thrOrder (s : State) : Option (Nat × Nat) :=
  let lv := fun (c n : Nat) => signedOf 16 (fieldOf (s.rd (thrReg c n)) 15 0)
  let hy := fun (c n : Nat) => fieldOf (s.rd (thrReg c n)) 23 16
  let bad := fun (c n : Nat) => (n < 3 && decide (lv c n ≥ lv c (n + 1))) ||
    (1 < n && decide (lv c (n - 1) < lv c n) && decide ((hy c n : Int) ≥ lv c n - lv c (n - 1)))
  ([0, 1, 2].flatMap (fun c => [(c, 1), (c, 2), (c, 3)])).findSome? (fun x =>
    refuseIf (bad x.1 x.2) Code.THERM_LEVEL_ORDER (thrReg x.1 x.2 % 0x1000))

/-- THERM (R530, R539). -/
def State.thermCheck (s : State) : Option (Nat × Nat) :=
  let gain := s.fld R.THERM_GAIN 6 0
  let floor := s.fld R.THERM_FLOOR 6 0
  firstOf [s.thrOrder, refuseIf (decide (gain < 1 ∨ gain > 100)) Code.THERM_GAIN_RANGE 0x134,
    refuseIf (decide (floor < 10 ∨ floor > 100)) Code.THERM_GAIN_RANGE 0x138,
    refuseIf (s.fld R.THERM_MODE 1 0 = 3) Code.THERM_MODE_RANGE 0x130, refuseIf (s.keepLost 0x10) Code.KEEP_RECORD_DEFAULT 0]

/-- HOST (R458). -/
def State.hostCheck (s : State) : Option (Nat × Nat) :=
  firstOf [refuseIf (!s.host.queues.any (fun q => q.2.en)) Code.HOST_NO_QUEUE 0x20C,
    refuseIf (s.fld R.HOST_EVQ_CTRL 31 31 = 0) Code.HOST_EVQ_ABSENT 0x230]

/-- CODEC (R108, R109). -/
def State.codecCheck (s : State) : Option (Nat × Nat) :=
  let w := s.fld R.CODEC_CFG 4 0
  let e := s.fld R.CODEC_CFG 11 8
  firstOf [refuseIf (decide (w < 10 ∨ w > 18)) Code.CODEC_CFG_WINDOW 0x204, refuseIf (decide (e < 1 ∨ e > 9)) Code.CODEC_CFG_EFFORT 0x204,
    refuseIf (!s.filled 5) Code.CODEC_SRAM_UNFILLED (regionAt 5)]

/-- LEAD_WAKE keeps its rule (R140 table). -/
def wakeOk (v : Nat) : Bool := v % 64 = 0 && decide (2048 ≤ v)
/-- LEAD_FULL keeps its rule above a wake level. -/
def fullOk (wake v : Nat) : Bool := v % 64 = 0 && decide (wake < v ∧ v ≤ 16384)

/-- LANTERN (R135, R140). -/
def State.lanternCheck (s : State) : Option (Nat × Nat) :=
  let tol := s.fld R.LANTERN_FLAT_TOL 6 0
  let wake := s.fld R.LANTERN_LEAD_WAKE 15 0
  let share := s.fld R.LANTERN_DENSITY_SHARE 6 0
  firstOf [refuseIf (decide (tol < 1 ∨ tol > 64)) Code.LANTERN_TOL_RANGE 0x204, refuseIf (!wakeOk wake) Code.LANTERN_LEAD_RANGE 0x20C,
    refuseIf (!fullOk wake (s.fld R.LANTERN_LEAD_FULL 15 0)) Code.LANTERN_LEAD_RANGE 0x210,
    refuseIf (decide (share < 1 ∨ share > 63)) Code.LANTERN_DENSITY_SHARE 0x214, refuseIf (!s.filled 6) Code.LANTERN_SRAM_UNFILLED (regionAt 6),
    refuseIf (decide (popcount 64 (s.rd64 R.LANTERN_LANE_MASK_L) < 8)) Code.LANTERN_LANES_FEW 0x224]

/-- PENUMBRA (R170). -/
def State.penumbraCheck (s : State) : Option (Nat × Nat) :=
  firstOf [refuseIf (!s.filled 7) Code.PENUMBRA_SRAM_UNFILLED (regionAt 7),
    refuseIf (decide (s.fld R.PENUMBRA_UNITS_IN 11 0 < 256)) Code.PENUMBRA_UNITS_FEW (R.PENUMBRA_UNITS_IN % 0x1000)]

/-- The passers that MODE asks for (R172, R199). -/
def State.passersAsked (s : State) : Nat := if s.fld R.SHEPHERD_MODE 0 0 = 1 then 256 / s.stagger else 512 / s.stagger

/-- SHEPHERD (R207, R215, R539). -/
def State.shepherdCheck (s : State) : Option (Nat × Nat) :=
  let w := s.fld R.SHEPHERD_CODE_WIDTH 2 0
  let remap := kget? s.dtabs 0x0C00
  firstOf [refuseIf s.sram.mapLost Code.KEEP_RECORD_DEFAULT 0, refuseIf remap.isNone Code.SHEPHERD_REMAP_ABSENT 0,
    refuseIf (decide (w < 4 ∨ w > 6 ∨ w > s.widthMax)) Code.SHEPHERD_CODE_WIDTH 0x104,
    refuseIf (s.patternEmpty s.passersAsked) Code.SHEPHERD_PATTERN_EMPTY 0x108,
    refuseIf (decide (s.strayCount > s.rd R.SHEPHERD_STRAY_LIMIT)) Code.SHEPHERD_STRAY_LIMIT 0x10C,
    refuseIf s.hurdlesOut Code.HURDLES_EXHAUSTED 0x204, refuseIf (!s.filled 2) Code.SHEPHERD_SRAM_UNFILLED (regionAt 2),
    refuseIf (!remapOk s.stagger (remap.getD [])) Code.SHEPHERD_STAGGER 0x204]

/-- TALLY (R205, R539). -/
def State.tallyCheck (s : State) : Option (Nat × Nat) :=
  firstOf [refuseIf s.sram.mapLost Code.KEEP_RECORD_DEFAULT 0, refuseIf (!s.filled 0) Code.TALLY_SRAM_UNFILLED (regionAt 0),
    refuseIf (!s.filled 1) Code.TALLY_SRAM_UNFILLED (regionAt 1)]

/-- An encoder record is lost for a sin/cos channel that SOURCE names (R539). -/
def State.encRecordLost (s : State) : Bool :=
  (rolesOf (s.rd R.DROVER_SOURCE)).any (fun c => s.encMode c = 2 && s.keep.any (fun r => r.typ = 0x11 && r.inst = c && r.lost))

/-- The capability words of every lane that has given them all: the check of the banks knows no others (R217, R236; log entry
44). -/
def State.knownLanes (s : State) : List Nat := (List.range 64).filter (fun l => (s.lane l).capsDone)

/-- FORCED_BANK or a bank of BANK_MAP is beyond the banks of the blanker (R236). -/
def State.banksBad (s : State) : Option (Nat × Nat) :=
  let banks := leastOf 16 (s.knownLanes.map (fun l => fieldOf (s.lane l).caps0 30 26))
  firstOf [refuseIf (s.fld R.FLINK_BANK 16 16 = 1 && decide (s.fld R.FLINK_BANK 23 20 ≥ banks)) Code.FLINK_BANK_RANGE 0x118,
    refuseIf ((List.range 8).any (fun k => decide (s.fld R.FLINK_BANK_MAP (4 * k + 3) (4 * k) ≥ banks))) Code.FLINK_BANK_RANGE 0x26C]

/-- FLINK (R217, R236, R249). -/
def State.flinkCheck (s : State) : Option (Nat × Nat) :=
  firstOf [refuseIf (decide (s.leadL < 2)) Code.FLINK_LEAD_RANGE 0x10C, s.banksBad,
    refuseIf (s.fld R.FLINK_CFG 3 0 = 0) Code.FLINK_RATE_NONE 0x204]

/-- MIRROR (R242). -/
def State.mirrorCheck (s : State) : Option (Nat × Nat) :=
  refuseIf (s.fld R.MIRROR_MODE 1 0 ≠ 0 && s.knownLanes.any (fun l => fieldOf (s.lane l).caps0 25 25 = 0)) Code.MIRROR_ECHO_ABSENT 0x200

/-- IVDON (R610). -/
def State.ivdonCheck (s : State) : Option (Nat × Nat) :=
  let size := s.fld R.IVDON_GROUP_LEAD 24 16
  firstOf [refuseIf (s.fld R.IVDON_CFG 1 0 = 3 || s.fld R.IVDON_CFG 10 8 = 0) Code.IVDON_TOPOLOGY_CFG 0x204,
    refuseIf (s.fld R.IVDON_GROUP_CFG 15 8 ≠ 0 && decide (size = 0 ∨ size > 256)) Code.IVDON_GROUP_CFG 0x20C]

/-- HBM0 (R347, R364). -/
def State.hbmCheck (s : State) : Option (Nat × Nat) :=
  let n := s.fld R.HBM0_CFG 4 0
  let m := s.fld R.HBM0_MIG_RATE 8 0
  firstOf [refuseIf (decide (s.ranks.passed < 11)) Code.HBM_RANKS_SHORT 0, refuseIf (decide (n < 6 ∨ n > 16)) Code.HBM_NBR_RANGE 0x300,
    refuseIf (decide (m < 1 ∨ m > 400)) Code.HBM_MIG_RATE 0x310]

/-- AGE (R539, R556). -/
def State.ageCheck (s : State) : Option (Nat × Nat) :=
  let p := s.fld R.AGE_PATH_FLOOR 7 0
  let out := fun (v : Nat) => decide (v < 1 ∨ v > 50)
  firstOf [refuseIf (s.keepLost 0x30) Code.KEEP_RECORD_DEFAULT 0, refuseIf (decide (p < 8 ∨ p > 200)) Code.AGE_FLOOR_RANGE 0x208,
    refuseIf (out (s.fld R.AGE_EYE_GUARD 15 8) || out (s.fld R.AGE_EYE_GUARD 7 0)) Code.AGE_FLOOR_RANGE 0x20C,
    refuseIf (s.fld R.AGE_ENC_RESID_LIMIT 7 0 = 0) Code.AGE_FLOOR_RANGE 0x210]

/-- GPIO (R663). -/
def State.gpioCheck (s : State) : Option (Nat × Nat) :=
  let w := s.fld R.GPIO_PPS_WIDTH 9 0
  firstOf [refuseIf ((List.range 8).any (fun n => s.fld R.GPIO_FUNC (2 * n + 1) (2 * n) = 3 && s.fld R.GPIO_DIR n n = 1)) Code.GPIO_DIR_CLASH 0x210,
    refuseIf (decide (w < 1 ∨ w > 999)) Code.GPIO_PPS_RANGE 0x218]

/-- A page's own conditions. -/
def State.ownCheck (s : State) (p : Nat) : Option (Nat × Nat) :=
  match p with
  | 2 => s.thermCheck
  | 5 => refuseIf (s.fld R.TIME_PTP_CFG 1 0 = 3) Code.TIME_PTP_CFG 0x20C
  | 7 => s.hostCheck
  | 8 => s.codecCheck
  | 9 => s.lanternCheck
  | 10 => s.penumbraCheck
  | 12 => s.shepherdCheck
  | 13 => s.tallyCheck
  | 14 => firstOf [refuseIf s.encRecordLost Code.KEEP_RECORD_DEFAULT 0, s.droverCheck]
  | 15 => s.profileCheck
  | 16 => s.deflCheck
  | 17 => s.flinkCheck
  | 18 => s.mirrorCheck
  | 19 => s.ivdonCheck
  | 21 => let n := s.fld R.SRAM_HURDLES_RESERVED_TALLY 5 0
          refuseIf (decide (n < 16 ∨ n > 32)) Code.SRAM_RESERVE_RANGE 0x104
  | 22 => s.hbmCheck
  | 27 => s.ageCheck
  | 28 => s.gpioCheck
  | _ => none

/-- The consistency check of a page (R623): its refusal, if any. -/
def State.check (s : State) (p : Nat) : Option (Nat × Nat) :=
  if s.clockHeld ∧ heldPages.contains p then some (Code.REG_CLOCK_HELD p, 0)
  else match (needs p).find? (fun q => !s.enabled q) with
    | some q => some (Code.REG_PREREQ p, 0x8000 + q)
    | none => s.ownCheck p

/-! ### What an enable and a disable do -/

/-- THERM's RWE values come into force (R530). -/
def State.thermInForce (s : State) : State :=
  let as := ((pageRows 2).filter (fun r => r.acc = .rwe)).map (fun r => 0x2000 + r.off)
  { s with force := as.foldl (fun m a => kset regReset m a (BitVec.ofNat 32 (s.rd a))) s.force }

/-- Shepherd's mode comes into force (R198, R199, R375). -/
def State.shepherdInForce (s : State) : State :=
  let rel := s.fld R.SHEPHERD_MODE 0 0
  ((s.fencesAtEnable).wr R.SHEPHERD_PASSERS (rel * 256 + s.passersAsked)).wr R.SHEPHERD_RELIEVED_HALF (if rel = 1 then 2 + s.relievedHalf else 0)

/-- What a page starts when its check has passed (R219, R530, R592, R595, R602). -/
def State.startPage (s : State) (p : Nat) : State :=
  match p with
  | 2 => s.thermInForce
  | 5 => if s.fld R.TIME_PTP_CFG 1 0 ≠ 0 then s.setPtp 1 else s
  | 12 => s.shepherdInForce
  | 17 => (List.range 64).foldl State.retrainLane s
  | 19 => s.newGroup.startPorts
  | _ => s

/-- Every lane taken down (R218, R625); its capability words stay. -/
def State.lanesOff (s : State) : State :=
  let t := (List.range 64).foldl (fun s l => s.setLane l { s.lane l with st := 0, prevRate := if (s.lane l).up then (s.lane l).rate else (s.lane l).prevRate }) s
  { t with flink := { t.flink with rx := 0 } }

/-- What a page stops when it is disabled (R625). -/
def State.stopPage (s : State) (p : Nat) : State :=
  match p with
  | 5 => s.setPtp 0
  | 16 => { s with drover := { s.drover with pll := false, aligned := false } }
  | 17 => s.lanesOff
  | 19 => s.stopPorts
  | 20 => s.abortEngines
  | _ => s

/-- The check has passed: CTRL changes, and the block starts (R623 step 3). -/
def State.passCheck (s : State) (o : Origin) (p new : Nat) : State :=
  s.traced p ((((s.clkOn p).wr (p * 0x1000 + 0x0C) 0).setReg o (ctrlOf p) new).startPage p)

/-- The check has refused (R623 step 4). -/
def State.failCheck (s : State) (o : Origin) (p new : Nat) (e : Nat × Nat) : State :=
  s.traced p ((((s.clkOn p).setReg o (ctrlOf p) new).wr (p * 0x1000 + 0x0C) (e.2 * 2 ^ 16 + e.1)).raiseIrq p 30)

/-- A write of 0 to ENABLE: REG_STRIPE_ACTIVE, REG_PREREQ_HELD, or the block is disabled (R625). -/
def State.disable (s : State) (o : Origin) (p new v : Nat) : State :=
  if s.stripesHeld ∧ Nat.testBit 0x03C7FF00 p then s.refuse o (Code.REG_STRIPE_ACTIVE p) (ctrlOf p) v
  else if (List.range 29).any (fun q => (needs q).contains p && s.enabled q) then s.refuse o (Code.REG_PREREQ_HELD p) (ctrlOf p) v
  else s.traced p ((s.setReg o (ctrlOf p) new).stopPage p)

/-! ### Soft reset -/

/-- A queue pair keeps its registers, its pointers return to 0. -/
def Queue.reset (q : Queue) : Queue := { ctrl := q.ctrl, sqBase := q.sqBase, cqBase := q.cqBase, coalesce := q.coalesce }

/-- THERM forgets its readings and its levels (R622). -/
def State.softTherm (s : State) : State :=
  let s1 := (({ s with sensors := [], tclasses := [] }).wr R.THERM_RELAX_HOLD 0).showCeil
  { s1 with profile := { s1.profile with pause := false } }

/-- The internal state of a block returned to that of power-up (R622). What lies in DRAM, in the SRAM pools, in the keep and in the bell
words, the error log, the audit log, the seconds of TIME and the CRC engines' contexts stay (R368, R377, R409, R590; log entry
45). -/
def State.softState (s : State) (p : Nat) : State :=
  match p with
  | 2 => s.softTherm
  | 5 => { s with clock := { s.clock with exchanges := 0, goodSync := 0, badSync := 0, gmLarge := false } }
  | 7 => { s with host := { queues := s.host.queues.foldl (fun m q => kset (fun _ => {}) m q.1 q.2.reset) s.host.queues, nextCmd := s.host.nextCmd, goOrder := s.host.goOrder } }
  | 8 => { s with ctxs := [] }
  | 9 => s.setFld (statusOf 9) 16 16 0
  | 14 => let d := s.drover
          { s with drover := { lastIndex := d.lastIndex, strobedEver := d.strobedEver, cals := d.cals, aligned := d.aligned, pll := d.pll, bank := d.bank, banks := d.banks, out := d.out, ramping := d.ramping } }
  | 15 => { s with profile := {} }
  | 16 => { s with drover := { s.drover with out := [0, 0, 0, 0], ramping := false, slipPending := false } }
  | 17 => { s with flink := {} }
  | 19 => { s with ivdon := {} }
  | 26 => { s with trace := {} }
  | _ => s

/-- The counting and recording registers of a page (R670), the registers shown per channel in each of their copies. -/
def countRegs (p : Nat) : List (RegAddr × Nat) :=
  let rows := ((pageRows p).filter (fun r => r.counts && r.acc = .ro)).map (fun r => (p * 0x1000 + r.off, r.mask))
  if p = 14 then rows.flatMap (fun r => [0, 1, 2, 3].map (fun ch => (r.1 + 0x100000 * ch, r.2))) else rows

/-- A register's masked field at its reset value. -/
def State.resetField (s : State) (a : RegAddr) (mask : Nat) : State :=
  s.wr a (s.rd a - Nat.land (s.rd a) mask + Nat.land (regReset a).toNat mask)

/-- The condition sources of a page: BEAM_OFF of SYS (R492, R620). -/
def conditionIrqs (p : Nat) : Nat := if p = 0 then 4 else 0

/-- A soft reset of a page (R622, R670): with the counting and recording registers go the header's records of events, IRQ_RAW of
the event sources, ERR_FIRST, ERR_COUNT, REFUSE and AUDIT_SEQ, and IRQ_PEND. -/
def State.softReset (s : State) (p : Nat) : State :=
  let s1 := (countRegs p).foldl (fun s r => s.resetField r.1 r.2) (s.softState p)
  let s2 := s1.wr (p * 0x1000 + 0x10) (Nat.land (s1.rd (p * 0x1000 + 0x10)) (conditionIrqs p))
  s.traced p ([0x0C, 0x18, 0x1C, 0x20, 0x2C].foldl (fun s o => s.wr (p * 0x1000 + o) 0) s2)

/-! ### CTRL -/

/-- A write of CTRL that has been admitted (R622, R623, R625, R637). -/
def State.putCtrl (s : State) (o : Origin) (p v : Nat) : State :=
  let old := s.rd (ctrlOf p)
  let new := newValue (ctrlOf p) old (v - 2 * fieldOf v 1 1)
  if s.auditFull ∧ o ≠ .firmware ∧ new ≠ old then s.countFull.refuse o Code.AUDIT_FULL (ctrlOf p) v
  else if fieldOf v 1 1 = 1 ∧ s.enabled p then s.refuse o (Code.REG_RESET_ENABLED p) (ctrlOf p) v
  else
    let s1 := if fieldOf v 1 1 = 1 then s.softReset p else s
    if fieldOf v 0 0 = 1 then
      if s1.enabled p then s1.setReg o (ctrlOf p) new
      else match s1.check p with
        | none => s1.passCheck o p new
        | some e => s1.failCheck o p (withField new 0 0 0) e
    else if s1.enabled p then s1.disable o p new v
    else s1.setReg o (ctrlOf p) new

/-- A write of CTRL (R559, R560, R616). -/
def State.writeCtrl (s : State) (o : Origin) (p v : Nat) : State :=
  if p > 28 then s
  else match s.permit o (ctrlOf p) v with
    | .error s => s
    | .ok s => s.putCtrl o p v

/-! ### The error summary -/

/-- The fields of a page that hold a value "since ERR_CLEAR" (R621); SLACK_MIN is had from the link's state. -/
def sinceClear : Nat → List (RegAddr × Nat)
  | 1 => [(R.CLK_START_MAX, 0xFFFFFFFF)] | 5 => [(R.TIME_TS_ERR_MAX, 0xFFFFFFFF)] | 7 => [(R.HOST_ACCEPT_MAX, 0xFFFFFFFF)]
  | 12 => [(R.SHEPHERD_CYCLE_NS, 0x0FFF0000)] | 14 => [(R.DROVER_DEMAND, 0x0FFF0000)] | _ => []

/-- ERR_CLEAR (R621). -/
def State.clearErr (s : State) (p : Nat) : State :=
  let s := if p = 17 then { s with flink := { s.flink with slack := none } } else s
  s.traced p ((sinceClear p).foldl (fun s r => s.resetField r.1 r.2) ((s.wr (p * 0x1000 + 0x1C) 0).wr (p * 0x1000 + 0x20) 0))

end Sys2Proof.Machine
end

