-- ==== Sys2Proof/Machine/Power.lean ====
section
/-! DEFINITION. The power-up sequence (R505), the power states and their changes (R494 to R504), the fast clocks (R506, R507). -/

namespace Sys2Proof.Machine

/-! ### Power-up: the reset cause, the clock, the audit log -/

/-- FATAL_CODE of the keep's last fatal record, 0 where it is lost or absent (R486, R539). -/
def State.lastFatal (s : State) : Nat := leAt ((s.keepOf 0x41 0).getD []) 6 2

/-- RESET_CAUSE: the source that the reset left, NIGHT where none did, CKPT_LOST and FATAL_CODE (R486, R492, R505). -/
def State.bootCause (s : State) : Nat :=
  let c := s.rd R.SYS_RESET_CAUSE % 2 ^ 5
  s.lastFatal * 2 ^ 16 + fieldOf (s.bell 4) 4 4 * 256 + (if fieldOf c 2 1 = 0 then withField c 0 0 1 else c)

/-- The rails are in range; the clock starts from the always-on count, or at 0 where it was lost (R502, R591, R650). -/
def State.bootClock (s : State) (lost : Bool) : State :=
  let c := s.clock
  let ns := (rhe (c.aoCount * 1000000000) 32768).toNat
  let c1 : Clock := if lost then { unset := true } else { c with sec := c.aoSec, frac := ns * 2 ^ 32 }
  let f := if lost then { s.fold with tamperLatch := [] } else s.fold
  let s1 := { s with power := .day, rails := 0x7F, phase := 0, clock := c1, fold := f }
  (s1.wr R.CLK_ALWAYS_ON (if lost then 6 else 4)).setFld 0x5008 16 16 (if lost then 1 else 0)

/-- The audit anchors are lost with both copies of their record (R537, R580). -/
def State.anchorsLost (s : State) (bad : List (Nat × Nat)) : Bool :=
  s.keepLost 0x40 || (bad.contains (0x400000, 0) && bad.contains (0x400000, 1))

/-- The audit log goes on: chained from EXPORTED_CHAIN, the records lost with the main rails named and signed, then the power-up
itself (R580). -/
def State.bootAudit (s : State) (bad : List (Nat × Nat)) : State :=
  let a0 : Audit := if s.anchorsLost bad then {} else s.audit
  let last := s.bell 3
  let a := { a0 with nextSeq := last + 1, chain := a0.exportedChain, powerups := a0.powerups + 1 }
  let s1 := (({ s with audit := a }.wr64 R.AUDIT_EXPORTED_L a.exportedSeq).wr64 R.AUDIT_SIGNED_L a.signedSeq).wr64 R.AUDIT_HEAD_L last
  let s2 := if last > a.exportedSeq then
      ((s1.commit 0x0061 .firmware 0 0 0 [(a.exportedSeq + 1) % 2 ^ 32, last % 2 ^ 32]).record { code := Code.AUDIT_LOST, cls := 1 }).beginSign
    else s1
  (s2.commit 0x0060 .firmware 0 0 0 [s2.rd R.SYS_RESET_CAUSE, a.powerups]).putAnchors

/-- TIME_UNSET where the always-on time was lost (R591). -/
def State.bootUnset (s : State) : State := if s.clock.unset then s.record { code := Code.TIME_UNSET, cls := 1 } else s

/-! ### Power-up: bell words, repairs, the ageing history -/

/-- The vote of one bell word at power-up: a word whose write was cut short takes copy 2 where it is valid (R381, R384). -/
def State.bootVote (s : State) (f : BootFound) (n : Nat) : State :=
  let c := s.bellCopies f.bells n
  let c2 := c.getD 2 (0, 0)
  if !f.bells.any (fun b => b.1 = n) then s
  else if (bellVote n c).isNone ∧ f.pending = n + 1 ∧ !f.vbatLost ∧ bellValid n c2 then
    ((s.putBell n c2.1.toNat).commit 0x0040 .firmware n (s.bell n) c2.1.toNat [Code.BELL_REWRITE]).bump R.SRAM_BELL_REWRITES 31 0 2
  else s.voteWord n c

/-- A directory whose commit was cut short is completed (R538). -/
def State.bootDirectory (s : State) (ahead : Bool) : State :=
  if ahead then (s.writeBell 7 (withField (s.bell 7) 63 32 (fieldOf (s.bell 7) 63 32 + 1)) Code.KEEP_GEN_REPAIR).record
    { code := Code.KEEP_GEN_REPAIR, cls := 0, lk := 8, l0 := 1 } else s

/-- Hurdle i of the map in the keep (R391, R536). -/
def hurdleAt (t : List Byte) (i : Nat) : Hurdle :=
  { line := leAt t (8 * i) 3, sec := leAt t (8 * i + 4) 4, dead := fieldOf (leAt t (8 * i) 4) 30 30 = 1 }

/-- The fences of the list in the keep; one of the Tally or of the staging waits to come into force (R375, R391, R536). -/
def fencesOf (t : List Byte) : List FenceE :=
  ((List.range 64).filter (fun i => fieldOf (leAt t (4 * i) 4) 31 31 = 1)).map (fun i =>
    let v := leAt t (4 * i) 4
    let sub := fieldOf v 29 16
    { block := fieldOf v 15 0, sub := if sub = 0x3FFF then none else some sub, inForce := decide (sramRegion (256 * fieldOf v 15 0) ≥ 2) })

/-- The hurdles and the fences are loaded: a hurdle whose bit of bell word 6 is clear is ignored, and a lost map or list leaves every
hurdle in use spent (R377, R539). -/
def State.bootRepairs (s : State) : State :=
  let used := (List.range 32).filter (fun i => (s.bell 6).testBit i)
  let lost := s.keepLost 0x20 || s.keepLost 0x21
  let map := (s.keepOf 0x20 0).getD []
  let hurdles := used.map (fun i => if lost then { line := 0, dead := true } else hurdleAt map i)
  let fences := if lost then [] else fencesOf ((s.keepOf 0x21 0).getD [])
  { s with sram := { s.sram with filled := 0x318, hurdles, fences, mapLost := lost, sinceLost := 0 } }

/-- The numbers below n whose bit is clear. -/
def clearBits (n v : Nat) : List Nat := (List.range n).filter (fun i => !v.testBit i)

/-- The ageing history of a record's payload, every step of it in force (R536, R548). -/
def Age.load (a : Age) (p : List Byte) : Age :=
  let caps := leAt p 20 16
  { a with steps := fieldOf (leAt p 0 4) 3 0, lanesOut := clearBits 64 (leAt p 4 8), refreshFloor := fieldOf (leAt p 36 4) 7 4,
           hystFloor := fieldOf (leAt p 36 4) 3 0, hours := leAt p 40 4, stepGain := leAt p 44 4,
           unitsOut := (List.range 2048).filter (fun i => (leAt p 48 256).testBit i),
           rateCap := (List.range 64).foldl (fun m l => kset (fun _ => 3) m l (fieldOf caps (2 * l + 1) (2 * l))) [] }

/-- The ageing history comes into force, its defaults where it is lost, and VDD_CORE takes its set-point (R539, R548, R648). -/
def State.bootAge (s : State) : State :=
  let a := if s.keepLost 0x30 then s.age.safe else match s.keepOf 0x30 0 with | some p => s.age.load p | none => s.age
  let mv := min 800 (Config.testSetPoint + 5 * a.steps)
  let a1 := { a with voltPending := 0, voltDue := 0, refreshIn := a.refreshFloor, hystIn := a.hystFloor }
  (({ s with age := a1 }.setFld R.AGE_VOLT_STEP 31 16 mv).emit (.avsbus mv)).showAge

/-- The encoder records come into force (R542, R544). -/
def State.bootEncs (s : State) : State := (List.range 4).foldl State.loadEnc s

/-! ### Power-up: the memory -/

/-- A migration that power cut short is taken as complete (R357). -/
def State.bootMigration (s : State) : State :=
  if fieldOf (s.bell 5) 63 60 = 1 then
    { s with ranks := { s.ranks with src := fieldOf (s.bell 5) 59 56, dst := s.spareRank } }.finishMigration
  else s.wr64 R.HBM0_RANK_MAP_L (s.bell 5)

/-- A physical rank fails training: the spare replaces one in service, and a failed spare is gone (R330). -/
def State.rankFails (s : State) (p : Nat) : State :=
  if p = s.spareRank then s.writeRankWord (withField (s.bell 5) 55 52 15) Code.HBM_NO_SPARE
  else if s.spareRank = 15 ∨ ¬ (List.range 11).any (fun n => s.physOf n = p) then s
  else { s with ranks := { s.ranks with src := p, dst := s.spareRank } }.finishMigration

/-- Physical ranks that fail, a failed spare first: it can replace no other (R330). -/
def State.bootRanks (s : State) (fails : List Nat) : State :=
  let spare := s.spareRank
  let s1 := (if fails.contains spare then s.rankFails spare else s)
  let s2 := ((List.range 12).filter (fun p => fails.contains p && p ≠ spare)).foldl State.rankFails s1
  { s2 with ranks := { s2.ranks with passed := ((List.range 12).filter (fun p => !fails.contains p)).length, st := 0 } }.showMig

/-- A stack trained: its rate, its SIDs, and the settings kept, whose bytes the spec does not give (R330). -/
def State.trainStack (s : State) (f : BootFound) (k : Nat) : State :=
  let sids := ((List.range 3).filter (fun i => !f.rankFails.contains (3 * k + i))).foldl (fun v i => v + 2 ^ i) 0
  let rate := if sids = 0 then 0 else f.rates.getD k 0
  let d := s.fresh
  let s1 := (d.2.setStack k { d.2.stack k with rate }).wr (R.HBM0_TRAIN + 0x1000 * k) (rate % 2 ^ 16 * 2 ^ 16 + sids * 256 + if sids = 0 then 0 else 1)
  s1.putKeep 0x15 k (leBytes 512 (Config.freeValue d.1))

/-! ### Power-up: the Fold and firmware -/

/-- Fresh device and field keys (R505, R567). -/
def State.bootKeys (s : State) : State :=
  let d := s.draw
  let f := d.2.draw
  { f.2 with fold := { f.2.fold with deviceKey := d.1, fieldKey := f.1 } }

/-- An image that the boot code finds valid; a bad slot is one whose MAGIC, signature or hash is wrong (R569). -/
def State.bootable (s : State) (bad : List Nat) (i : Nat) : Bool :=
  (s.fwSlot i).committed && decide ((s.fwSlot i).svn ≥ s.bell 2) && !bad.contains i

/-- Firmware starts from a slot, audited (R569, R576). -/
def State.startFirmware (s : State) (i : Nat) : State :=
  let x := s.fwSlot i
  { s with fold := { s.fold with running := i, fwRuns := true } }.fwEvent .firmware i x.svn x.hash

/-- The boot code (R569). -/
def State.bootFirmware (s : State) (bad : List Nat) : State :=
  let n := s.fold.next
  if s.bootable bad n then s.startFirmware n
  else
    let s1 := s.record { code := Code.FOLD_FW_BOOT_FALLBACK, cls := 1, lk := 8, l0 := n }
    if s.bootable bad (1 - n) then s1.startFirmware (1 - n) else { s1 with fold := { s1.fold with fwRuns := false } }

/-- DEVICE_NO and FORMAT_LEVEL from their bell words (R629). -/
def State.showLevels (s : State) : State := (s.wr R.SYS_DEVICE_NO (s.bell 0 % 2 ^ 12)).wr R.SYS_FORMAT_LEVEL (s.bell 1 % 2 ^ 16)

/-- A format level above the running image's is lowered to it (R601). -/
def State.bootLevels (s : State) : State :=
  let top := fieldOf (s.fwSlot s.fold.running).levels 15 0
  if s.bell 1 > top then (s.writeBell 1 top Code.IVDON_FORMAT_ABOVE).showLevels else s

/-- A checkpoint lost with the DRAM; the STRIPE_ID it held is gone with it, so the record's is a free value (R486). -/
def State.bootCkpt (s : State) : State :=
  let w := s.bell 4
  if fieldOf w 4 4 = 0 then s
  else
    let d := s.fresh
    (d.2.record { code := Code.CKPT_LOST, cls := 3, stripe := some (fieldOf w 63 32, Config.freeValue d.1 % 2 ^ 32) }).clearCkpt

/-- What tampering left for firmware, and the loss of the always-on state (R574, R575). -/
def State.bootTamper (s : State) (vbatLost : Bool) : State :=
  let l := s.fold.tamperLatch
  let s1 := l.foldl (fun s x => s.tamper x.1 x.2) { s with fold := { s.fold with tamperLatch := [] } }
  if vbatLost then s1.tamper 4 (s1.clock.aoCount % 2 ^ 32) else s1

/-- BEAM_OFF_N low at any time since VDD_IO came into range is latched (R469, R665). -/
def State.bootInterlock (s : State) (low : Bool) : State :=
  if low ∨ s.beamOff then
    let s1 := s.setFld R.SYS_INTERLOCK 1 1 1
    if s.beamOff then s1.raiseIrq 0 2 else s1
  else s

/-- The pages that firmware enables in the power-up sequence (R617). -/
def bootPages : List Nat := [0, 1, 2, 3, 4, 5, 6, 20, 21, 22, 23, 24, 25, 26, 27, 28]

/-- Firmware enables them; one that refuses keeps ENABLE 0 (R617). -/
def State.bootEnable (s : State) : State := bootPages.foldl (fun s p => s.writeCtrl .firmware p 1) s

/-- HOST.LINK of the mode that both ends settle on; the 5120 supports every rate and width (R30). -/
def linkWord (r : LinkRate) (w : LinkWidth) : Nat :=
  (match r with | .g8 => 3 | .g16 => 4 | .g32 => 5 | .g64 => 6) * 2 ^ 16 + (match w with | .x4 => 4 | .x8 => 8 | .x16 => 16)

/-- The steps before the stacks: the clock and the log, the bell words, the keep, the repairs and the ageing history. -/
def State.bootStart (s : State) (f : BootFound) : State :=
  let fromNight := fieldOf (s.rd R.SYS_RESET_CAUSE) 2 1 = 0
  let lost := f.vbatLost && decide fromNight
  let s0 := (s.wr R.SYS_RESET_CAUSE s.bootCause).wr R.HOST_LINK (linkWord f.linkRate f.linkWidth)
  let s1 := ((s0.bootClock lost).bootAudit f.keepBad).bootUnset
  let s2 := (List.range 64).foldl (fun s n => s.bootVote f n) s1
  ((((((match f.keepCut with | some c => s2.cutRecord c | none => s2).checkKeep f.keepBad).bootDirectory f.dirAhead).bootRepairs).bootAge).bootEncs).showLevels

/-- The stacks, the keys and the boot code. -/
def State.bootMiddle (s : State) (f : BootFound) : State :=
  let s1 := [0, 1, 2, 3].foldl (fun s k => s.trainStack f k) ((s.bootMigration).bootRanks f.rankFails)
  ((s1.bootKeys).bootCkpt).bootFirmware f.slotBad

/-- What firmware does once it runs. -/
def State.bootEnd (s : State) (f : BootFound) : State :=
  let fromNight := fieldOf (s.rd R.SYS_RESET_CAUSE) 0 0 = 1
  let s1 := (((s.bootLevels).bootTamper (f.vbatLost && decide fromNight)).bootInterlock f.beamOffLow).wr R.CLK_PLL_LOCK 0x1B
  ((s1.keepBoundary).loadStrobes).bootEnable

/-- POWER_UP: the main rails have reached their ranges; a device-fatal event ends the sequence where it stands (R485, R505). With no valid
image the management processor does not start, and nothing is enabled (R569). -/
def execPowerUp (f : BootFound) (s : State) : Host.Outcome State Fault Refusal :=
  if s.booted then .next s
  else
    let s1 := s.bootStart f
    let s2 := if s1.fatal = 0 then s1.bootMiddle f else s1
    let s3 := { s2 with booted := true }
    .next ((if s3.fatal = 0 ∧ s3.fold.fwRuns then s3.bootEnd f else s3.bootInterlock f.beamOffLow).showPins s.i3cByte)

/-- MAIN_RAILS_LOST: everything volatile is lost (R503, R504). -/
def execMainRailsLost (s : State) : Host.Outcome State Fault Refusal :=
  if s.power = .night then .next s else .next s.toNight

/-! ### Requests -/

/-- A write of POWER_REQ that has been admitted would be refused for want of room in the audit pool (R582). -/
def State.reqFull (s : State) (o : Origin) (v : Nat) : Bool := s.auditFull && o ≠ .firmware && s.rd R.SYS_POWER_REQ ≠ v

/-- A request of Day: a wake cause in Dusk and during an entry, the withdrawal of a request that waits (R495, R496, R500). -/
def State.askDay (s : State) (o : Origin) : State :=
  let full := s.reqFull o 0
  let s1 := s.setReg o R.SYS_POWER_REQ 0
  if full then s1 else ({ s1 with phase := if s1.phase = 1 then 0 else s1.phase }).wake 1

/-- A request of Dusk or Night waits until it is free to proceed (R496, R497). -/
def State.askDown (s : State) (o : Origin) (v : Nat) : State :=
  let full := s.reqFull o v
  let s1 := s.setReg o R.SYS_POWER_REQ v
  if full ∨ s1.phase ≠ 0 ∨ s1.nightReady ∨ (s1.power = .dusk ∧ v = 1) then s1 else { s1 with phase := 1 }

/-- A request of Night is refused while a slot is held or records are not exported (R497). -/
def State.nightBusy (s : State) : Bool :=
  s.job0.status ≠ 0 || s.job1.status ≠ 0 || decide (s.audit.nextSeq - 1 > s.audit.exportedSeq)

/-- POWER_REQ written (R495 to R497). -/
def State.writePowerReq (s : State) (o : Origin) (v : Nat) : State :=
  match s.permit o R.SYS_POWER_REQ v with
  | .error s => s
  | .ok s =>
    match fieldOf v 1 0 with
    | 0 => s.askDay o
    | 1 => s.askDown o 1
    | 2 => if s.nightBusy then s.refuse o Code.CLK_NIGHT_BUSY R.SYS_POWER_REQ v (some 1) else s.askDown o 2
    | _ => s.refuse o (Code.REG_VALUE_RANGE 0) R.SYS_POWER_REQ v

/-- POWER_REQ_DAY. -/
def execPowerReqDay (o : Origin) (s : State) : Host.Outcome State Fault Refusal := .next (s.writePowerReq o 0)
/-- POWER_REQ_DUSK. -/
def execPowerReqDusk (o : Origin) (s : State) : Host.Outcome State Fault Refusal := .next (s.writePowerReq o 1)
/-- POWER_REQ_NIGHT. -/
def execPowerReqNight (o : Origin) (s : State) : Host.Outcome State Fault Refusal := .next (s.writePowerReq o 2)

/-! ### Entering and leaving Dusk -/

/-- A waiting request is free to proceed: no stripe, no command but TRACE_ARM, no repair in copy, no record that waits, no export
under way (R389, R457, R496, R553). -/
def State.duskFree (s : State) : Bool :=
  s.stripes = [] && s.host.cmds.all (fun c => c.opcode = 0x0D) && s.host.visible = [] && !s.sram.fences.any (·.moving) && s.keepHeld = [] &&
  s.fld R.AUDIT_EXPORT_STATE 3 0 ≠ 1

/-- CLK.ON of a page and its STATUS bit. -/
def State.setClk (s : State) (p x : Nat) : State := s.traced p ((s.setFld R.CLK_ON p p x).setFld (statusOf p) 3 3 x)

/-- A lane in IDLE sends LPI (R239). -/
def State.laneLpi (s : State) (l : Nat) : State :=
  if (s.lane l).st = 6 then (s.setLane l { s.lane l with st := 8 }).emit (.control l 0x99 0) else s

/-- An UP Ivdon port keeps lane 0 as a relay and sends LPI on lane 1; a DEGRADED one keeps the lane it has (R599). -/
def State.relayPort (s : State) (p : Nat) : State :=
  if (s.port p).st = 2 then (s.setPort p { s.port p with relay := true }).emit (.portLpi p 1) else s

/-- The port is back on both lanes (R501). -/
def State.bothLanes (s : State) (p : Nat) : State := s.setPort p { s.port p with relay := false }

/-- A stack into self-refresh: every postponed and owed refresh served, every bank precharged, the commit point passed (R345, R348, R362). -/
def State.selfRefresh (s : State) (k : Nat) : State :=
  let n := ((s.stack k).owed.map (fun o => neighbourRows o.2)).sum
  let s1 := if n = 0 then s else s.bump (R.HBM0_NBR_REFRESHES + 0x1000 * k) 31 0 n
  (s1.setStack k { s1.stack k with postponed := [], rows := [], owed := [] }).setSelfRef k 2

/-- Step 1 of R498. -/
def State.beginEntry (s : State) : State := { s.abortEngines with phase := 2 }

/-- Steps 2 to 6 of R498. -/
def State.enterDusk (s : State) : State :=
  let s0 := [0, 1, 2, 3].foldl State.relayPort ((List.range 64).foldl State.laneLpi s)
  let s1 := [0, 1, 2, 3].foldl State.selfRefresh s0
  let s2 := (List.range 29).foldl (fun s p => s.setClk p 0) { s1 with drover := { s1.drover with pll := false, aligned := false } }
  let s3 := ((s2.setFld R.AGE_VOLT_STEP 31 16 700).emit (.avsbus 700)).wr R.CLK_PLL_LOCK 0x1A
  { s3.inc R.CLK_DUSK_COUNT with power := .dusk, phase := 0 }.tellBoard s.i3cByte

/-- DUSK_ENTRY: a request of Dusk that waits and is free begins its entry; once the entry is under way, it ends in Dusk (R496,
R498). -/
def execDuskEntry (s : State) : Host.Outcome State Fault Refusal :=
  if !s.booted ∨ s.power ≠ .day ∨ s.fatal ≠ 0 ∨ s.fld R.SYS_POWER_REQ 1 0 ≠ 1 then .next s
  else if s.phase = 1 ∧ s.duskFree then .next s.beginEntry
  else if s.phase = 2 then .next s.enterDusk else .next s

/-- The steps of R501. -/
def State.leaveDusk (s : State) (us : Nat) : State :=
  let s1 := [0, 1, 2, 3].foldl State.bothLanes ([0, 1, 2, 3].foldl (fun s k => s.setSelfRef k 0) s)
  let mv := min 800 (Config.testSetPoint + 5 * (s.age.steps - s.age.voltPending))
  let s2 := ((s1.setFld R.AGE_VOLT_STEP 31 16 mv).emit (.avsbus mv)).wr R.CLK_PLL_LOCK 0x1B
  let s3 := ((List.range 29).filter (fun p => s2.fld R.CLK_REQ p p = 1)).foldl (fun s p => s.setClk p 1) s2
  let s4 := { s3 with power := .day, phase := 0, drover := { s3.drover with pll := s3.enabled 16, aligned := s3.enabled 16 } }.maxFld R.CLK_WAKE_MAX 15 0 us
  let s4 := s4.tellBoard s.i3cByte
  if us > 2000 then s4.record { code := Code.CLK_WAKE_LATE, cls := 0, lk := 8, l0 := us } else s4

/-- DUSK_WAKE: the wake that a cause began ends in Day; cause 4 is the management processor's own decision (R500, R501). -/
def execDuskWake (cause us : Nat) (s : State) : Host.Outcome State Fault Refusal :=
  let s1 := if cause = 4 then s.wake 4 else s
  if s1.power ≠ .dusk ∨ s1.phase ≠ 3 ∨ s1.fatal ≠ 0 then .next s1 else .next (s1.leaveDusk us)

/-- Steps 2 to 4 of R503: STATUS tells the board. -/
def State.readyForNight (s : State) : State := { s.eraseKeys 0 with nightReady := true, power := .dusk, phase := 0 }.tellBoard s.i3cByte

/-- NIGHT_ENTRY: the steps of Dusk, then the keys are erased and the board is told (R496, R497, R503). -/
def execNightEntry (s : State) : Host.Outcome State Fault Refusal :=
  if !s.booted ∨ s.power = .night ∨ s.fatal ≠ 0 ∨ s.fld R.SYS_POWER_REQ 1 0 ≠ 2 then .next s
  else if s.phase = 1 ∧ s.duskFree then .next (if s.power = .dusk then s.readyForNight else s.beginEntry)
  else if s.phase = 2 then .next (s.enterDusk.readyForNight) else .next s

/-! ### Clocks -/

/-- CLOCK_REQUEST: a block's clock starts, `ns` after the request (R506, R507). -/
def execClockRequest (page ns : Nat) (s : State) : Host.Outcome State Fault Refusal :=
  if page > 28 ∨ !s.booted ∨ s.power ≠ .day ∨ s.clkRuns page then .next s
  else if s.clockHeld ∧ heldPages.contains page then .next (s.setFld R.CLK_REQ page page 1)
  else
    let s1 := (s.clkOn page).maxFld R.CLK_START_MAX 15 0 ns
    .next (if ns > 20000 then s1.record { code := Code.CLK_START_LATE, cls := 0, lk := 8, l0 := page } else s1)

/-- A cause of R506 other than work keeps a block's clock. -/
def State.keepsClk (s : State) (p : Nat) : Bool :=
  s.fld (ctrlOf p) 2 2 = 1 || s.fld R.CLK_PREWARM p p = 1 || (s.fld R.CLK_PREWARM 31 31 = 1 && Nat.testBit 0x03C7FF00 p)

/-- A block has work that waits or runs (R130, R506). -/
def State.pageBusy (s : State) (p : Nat) : Bool :=
  match p with
  | 8 => (List.range 8).any (fun i => (s.ctx i).st = 1)
  | 9 => s.lanternWork
  | 10 => s.stripes.any Stripe.prepassing
  | _ => false

/-- CLK_IDLE_TIMEOUT: a block with no work for IDLE_DELAY drops its request, unless it is kept (R506, R508). -/
def execClkIdleTimeout (page : Nat) (s : State) : Host.Outcome State Fault Refusal :=
  if page > 28 ∨ !s.booted ∨ s.power = .night ∨ s.keepsClk page ∨ s.pageBusy page then .next s else .next (s.clkOff page)

/-- VBAT_LOW: nothing more than the bit (R667). -/
def execVbatLow (s : State) : Host.Outcome State Fault Refusal :=
  if s.power = .night then .next s else .next (s.setFld R.CLK_ALWAYS_ON 1 1 1)

end Sys2Proof.Machine
end

