-- ==== Sys2Proof/Machine/Board.lean ====
section
/-! DEFINITION. The GPIO pins and the board controller over I3C (R658 to R663). -/

namespace Sys2Proof.Machine

/-- FUNC of a pin (R662). -/
def State.pinFunc (s : State) (n : Nat) : Nat := s.fld R.GPIO_FUNC (2 * n + 1) (2 * n)

/-- An event on a pin: its number and its time, and its interrupt (R662). -/
def State.pinEvent (s : State) (n : Nat) : State :=
  (((s.wr R.GPIO_EVT_PIN n).wr R.GPIO_EVT_SEC (s.clock.sec % 2 ^ 32)).wr R.GPIO_EVT_NSEC s.nsec).raiseIrq 28 n

/-- GPIO_EVENT: an edge on a pin changes the level that IN shows; on an event input whose EDGE names edges of its kind it is an event
(R662). -/
def execGpioEvent (pin : Nat) (rising : Bool) (s : State) : Host.Outcome State Fault Refusal :=
  if pin > 7 ∨ s.gpioHigh.testBit pin = rising then .next s
  else
    let s1 := { s with gpioHigh := if rising then s.gpioHigh + 2 ^ pin else s.gpioHigh - 2 ^ pin }
    let k := if rising then pin else pin + 8
    .next (if s1.alive ∧ s1.enabled 28 ∧ s1.pinFunc pin = 3 ∧ s1.fld R.GPIO_EDGE k k = 1 then s1.pinEvent pin else s1)

/-- I3C_STATUS. -/
def execI3cStatus (s : State) : Host.Outcome State Fault Refusal :=
  if s.power = .night then .next s else .next (s.emit (.i3c [BitVec.ofNat 8 s.i3cByte]))

/-- I3C_HOTTEST: THERM.HOTTEST.TEMP. -/
def execI3cHottest (s : State) : Host.Outcome State Fault Refusal :=
  if s.power = .night then .next s else .next (s.emit (.i3c (leBytes 2 (s.fld R.THERM_HOTTEST 15 0))))

/-- I3C_WAKE: 0xA5 is a wake cause (R500, R659). -/
def execI3cWake (v : Nat) (s : State) : Host.Outcome State Fault Refusal :=
  if s.power = .night ∨ v ≠ 0xA5 then .next s else .next (s.wake 2)

/-- I3C_SUPPLY: the rails in range, in the order of R650. -/
def execI3cSupply (s : State) : Host.Outcome State Fault Refusal :=
  if s.power = .night then .next s else .next (s.emit (.i3c [BitVec.ofNat 8 s.rails]))

end Sys2Proof.Machine
end

