-- ==== Sys2Proof/Machine/Shown.lean ====
section
/-! DEFINITION. What a read of a register returns: the stored value, or what the block shows of its present state
(R11 to R13, R622, R670 and the register tables of the chapters). A measured time or a share of time that the model does not hold
reads as a free value (log entry 21). -/

namespace Sys2Proof.Machine

/-- A value the registers show and the model does not hold: n possible values. -/
def State.unheld (s : State) (n : Nat) : Nat := Config.freeValue s.free % n

/-- The two words of a pair at addresses a and a + 4. -/
def pairWord (a b v : Nat) : Nat := if b = a then v % 2 ^ 32 else v / 2 ^ 32 % 2 ^ 32

/-- A bit as a number. -/
def bitOf (b : Bool) : Nat := if b then 1 else 0

/-! ### STATUS -/

/-- STATUS [31:16] of a page. Reading a band, a share cycle, a DMA, a keep write and a planner's check each end within their own command
here, and read 0 between commands (log entry 46). -/
def State.statusBlock (s : State) (p : Nat) : Nat :=
  let kept := s.fld (statusOf p) 31 16
  match p with
  | 2 => bitOf ([0, 1, 2].any (fun c => decide (s.classLevel c ≥ 2))) + 2 * bitOf (s.rd R.THERM_RELAX_HOLD ≠ 0)
  | 9 => kept % 2 + 2 * bitOf (s.stripes.any (fun t => t.prepass = 2))
  | 10 => kept % 2 + 2 * bitOf ((s.fieldStripe.map Stripe.unfilled).getD false && s.fld (statusOf 9) 16 16 = 1)
  | 11 => 2 * bitOf ([0, 1].all (fun r => s.stripes.any (fun t => t.ring = some r)))
  | 13 => bitOf (!s.hold.isEmpty)
  | 17 => bitOf ((List.range 64).any (fun l => (s.lane l).st = 7)) + 2 * bitOf ((List.range 64).any (fun l => (s.lane l).st = 8))
  | 19 => bitOf ([0, 1, 2, 3].any (fun q => (s.port q).carries))
  | 21 => kept % 2 + 2 * bitOf (s.sram.fences.any (·.moving))
  | 26 => bitOf (s.trace.st = 1)
  | _ => kept

/-- STATUS of a page (R619). -/
def State.status (s : State) (p : Nat) : Nat := s.statusBlock p * 2 ^ 16 + s.statusLow p

/-! ### System, clocks, heat -/

/-- The bytes of the error record that ERRLOG_SEL names (R459, R460). -/
def State.shownRec (s : State) : List Byte :=
  let i := (s.fld R.SYS_ERRLOG_TAIL 13 0 + 16383 - s.fld R.SYS_ERRLOG_SEL 13 0) % 16384
  match s.log.recs[i]? with | some r => r.bytes | none => []

/-- SYS. -/
def State.showSys (s : State) (a : RegAddr) : Option Nat :=
  if R.SYS_ERRLOG_REC0 ≤ a ∧ a ≤ R.SYS_ERRLOG_REC15 then some (leAt s.shownRec (a - R.SYS_ERRLOG_REC0) 4)
  else if a = R.SYS_FW_SLOT then
    some (256 * bitOf (s.fwSlot s.idleSlot).committed + 16 * s.fold.next + s.fold.running)
  else none

/-- CLK. -/
def State.showClk (s : State) (a : RegAddr) : Option Nat :=
  if a = R.CLK_ON then some ((List.range 29).foldl (fun v p => v + bitOf (s.clkRuns p) * 2 ^ p) 0)
  else if a = R.CLK_PLL_LOCK then some (withField (s.rd a) 2 2 (bitOf s.drover.pll))
  else if a = R.CLK_POWER_STATE then
    some (s.fld a 23 16 * 2 ^ 16 + 256 * bitOf s.nightReady + 16 * s.phase + bitOf (s.power = .dusk))
  else none

/-- SENSOR_VAL of a sensor: its state, class and value in use (R512, R523). -/
def State.sensorVal (s : State) (i : Nat) : Nat :=
  let x := s.sensor i
  let cls := s.sensorClass i
  if cls > 2 ∨ (64 ≤ i ∧ i < 128 ∧ (i - 64 ≥ s.headSensors ∨ s.headAbsent)) then 3 * 2 ^ 30
  else (if x.failed then if x.acked then 2 else 1 else 0) * 2 ^ 30 + cls * 2 ^ 20 + lowBits 16 ((s.valueInUse i).getD 0)

/-- THERM. -/
def State.showTherm (s : State) (a : RegAddr) : Option Nat :=
  let i := s.fld R.THERM_SENSOR_SEL 7 0
  if a = R.THERM_SENSOR_VAL then some (s.sensorVal i)
  else if a = R.THERM_SENSOR_RAW then some (lowBits 16 ((s.sensor i).last.getD 0))
  else if R.THERM_FAILED0 ≤ a ∧ a ≤ R.THERM_FAILED4 then
    let w := (a - R.THERM_FAILED0) / 4
    some ((List.range 32).foldl (fun v k => v + bitOf (s.sensor (32 * w + k)).failed * 2 ^ k) 0)
  else if a = R.THERM_BAND then
    some (s.classLevel 0 * 2 ^ 24 + s.classLevel 1 * 2 ^ 20 + s.classLevel 2 * 2 ^ 16 + s.fld a 1 0)
  else if a = R.THERM_PAUSE then some (withField (s.rd a) 0 0 (bitOf s.thermPause))
  else none

/-! ### Fold, time, keep -/

/-- FOLD. -/
def State.showFold (s : State) (a : RegAddr) : Option Nat :=
  if a = R.FOLD_STATE then
    some (4096 * bitOf s.fold.ownerKey.isSome + 256 * bitOf s.fold.tamperHold + 16 * bitOf s.fold.debugOpen +
      2 * bitOf s.job1.key.isSome + bitOf s.job0.key.isSome)
  else if a = R.FOLD_KEY_ID0 then some s.job0.keyId
  else if a = R.FOLD_KEY_ID1 then some s.job1.keyId
  else if a = R.FOLD_ROLLBACK then some (s.bell 2 % 2 ^ 32)
  else if a = R.FOLD_SVN_AB then some ((s.fwSlot 1).svn % 2 ^ 16 * 2 ^ 16 + (s.fwSlot 0).svn % 2 ^ 16)
  else none

/-- TIME (R588). -/
def State.showTime (s : State) (a : RegAddr) : Option Nat :=
  if a = R.TIME_SEC_L then some (s.clock.sec % 2 ^ 32)
  else if a = R.TIME_SEC_H then some (s.clock.sec / 2 ^ 32 % 2 ^ 16)
  else if a = R.TIME_NSEC then some s.nsec
  else none

/-- KEEP. -/
def State.showKeep (s : State) (a : RegAddr) : Option Nat :=
  if a = R.KEEP_DIR_GEN then some (fieldOf (s.bell 7) 63 32)
  else if a = R.KEEP_USED then some s.keepUsed
  else if a = R.KEEP_DEFAULTED then some s.defaulted
  else if a = R.KEEP_PENDING then some (classBits (s.keepWait.map (·.1)))
  else if a = R.KEEP_CAL_DEFL then some s.calDefl
  else if a = R.KEEP_ENC_RESID then some s.encResid
  else none

/-! ### Host -/

/-- The table that WIN_SEL names (R415): of the tables in force; a deficit list as it stands. -/
def State.windowTable (s : State) : List Byte :=
  let id := s.fld R.HOST_WIN_SEL 15 0
  let j := s.job (s.fld R.HOST_WIN_SEL 16 16)
  if id = 0x0D00 then
    match (j.lists.filter (fun d => d.id = s.rd R.HOST_WIN_STRIPE ∧ d.pass = s.fld R.HOST_WIN_SEL 31 24)).getLast? with
    | some d => d.header j.jobId ++ d.entries.flatMap DefEntry.bytes
    | none => []
  else if id = 0x0C02 then if s.caps = [] then [] else capBytes s.caps
  else if id = 0x1000 ∨ id = 0x1001 then s.deflTab (id % 2)
  else match tableKind id with
    | some true => j.tab id
    | some false => kget (fun _ => []) s.dtabs id
    | none => []

/-- What a read of the table window at byte n of BAR0's window returns (R415). -/
def State.windowByte (s : State) (n : Nat) : Byte := s.windowTable.getD (s.fld R.HOST_WIN_OFFSET 9 0 * 2 ^ 20 + n) 0

/-- HOST. -/
def State.showHost (s : State) (a : RegAddr) : Option Nat :=
  let q := s.queue (s.fld R.HOST_QSEL 5 0)
  if a = R.HOST_Q_CTRL then some q.ctrl.toNat
  else if a = R.HOST_SQ_BASE_L ∨ a = R.HOST_SQ_BASE_H then some (pairWord R.HOST_SQ_BASE_L a q.sqBase)
  else if a = R.HOST_CQ_BASE_L ∨ a = R.HOST_CQ_BASE_H then some (pairWord R.HOST_CQ_BASE_L a q.cqBase)
  else if a = R.HOST_Q_STATE then some (q.sqHead * 2 ^ 16 + q.cqTail)
  else if a = R.HOST_Q_COALESCE then some q.coalesce.toNat
  else if a = R.HOST_EVQ_STATE then some (s.host.evqTail * 2 ^ 16 + s.host.evqHead)
  else if a = R.HOST_PAGE_IRQ_SUMMARY then
    some ((List.range 29).foldl (fun v p => v + bitOf (Nat.land (s.rd (p * 0x1000 + 0x18)) (s.rd (p * 0x1000 + 0x14)) ≠ 0) * 2 ^ p) 0)
  else if a = R.HOST_SLOT_STATE then some (256 * s.current + 16 * s.job1.status + s.job0.status)
  else if a = R.HOST_SLOT0_JOB then some s.job0.jobId
  else if a = R.HOST_SLOT1_JOB then some s.job1.jobId
  else if a = R.HOST_REREQ_OUT then some ((s.job0.reqs.length + s.job1.reqs.length) % 65536)
  else if a = R.HOST_WIN_LEN then some s.windowTable.length
  else none

/-! ### The data path -/

/-- Input bytes a context has consumed of its unit: open while it runs and where it failed (log entry 47). -/
def State.ctxIn (s : State) (c : Ctx) : Nat :=
  match c.st with
  | 0 => 0
  | 2 => min c.given c.inp.length
  | 3 => match c.mode with
    | 0 => match c.decode with | .needSpace d _ _ => (d.pos + 7) / 8 | _ => c.inp.length
    | 1 => s.unheld (c.given + 1)
    | _ => match decodeUnit c.out true c.space with | .needSpace d _ _ => (d.pos + 7) / 8 | _ => c.out.length
  | 4 => c.inp.length
  | _ => s.unheld (c.inp.length + 1)

/-- Output bytes it has produced. -/
def State.ctxOut (s : State) (c : Ctx) : Nat :=
  match c.st with
  | 0 => 0
  | 1 => s.unheld (c.space + 1)
  | 5 => s.unheld (c.space + 1)
  | 4 => c.out.length
  | _ => if c.mode = 0 then c.out.length else if c.mode = 1 then s.unheld (c.space + 1) else c.space

/-- CODEC. -/
def State.showCodec (s : State) (a : RegAddr) : Option Nat :=
  let c := s.ctx (s.fld R.CODEC_CTX_SEL 2 0)
  if a = R.CODEC_CTX_STATE then some (c.storedLeft * 2 ^ 16 + c.mode * 16 + c.st)
  else if a = R.CODEC_CTX_IN_L ∨ a = R.CODEC_CTX_IN_H then some (pairWord R.CODEC_CTX_IN_L a (s.ctxIn c))
  else if a = R.CODEC_CTX_OUT_L ∨ a = R.CODEC_CTX_OUT_H then some (pairWord R.CODEC_CTX_OUT_L a (s.ctxOut c))
  else if a = R.CODEC_CTX_ERR then some c.err
  else if a = R.CODEC_CTX_ERR_OFFSET then some c.errOff
  else if a = R.CODEC_CTX_MATCH then some (c.matchDist * 2 ^ 11 + c.matchLen)
  else if a = R.CODEC_CTX_BITS then some c.bits
  else none

/-- Cycles of 1.6 GHz that the tiles of the next 32 bands of the field take (R74, R128); a band past the stripe's last counts as one of
empty tiles (DESIGN CHOICE, log entry 151). -/
def State.fieldCycles (s : State) (x : Stripe) : Nat :=
  match s.walk x.slot x.id with
  | .error _ => 0
  | .ok w =>
    (List.range 32).foldl (fun n i =>
      (List.range (s.width / 64)).foldl (fun n col =>
        match w.tiles.find? (fun t => t.band = x.bandsDone + i ∧ t.col = col) with
        | some t => n + 512 * max 1 (classesOf t.shapes).length + 4 * t.charge
        | none => n + 512) n) 0

/-- PREDICT_RATE: what the lanes in service sustain over the next 2,048 rows of the field, in field mode alone (DEDUCED from the table of
R128; log entry 48); 0 where no stripe has a field (DESIGN CHOICE, log entry 151). -/
def State.predictRate (s : State) : Nat :=
  match s.fieldStripe with
  | none => 0
  | some x => lowBits 21 ((2048 * popcount 64 (s.rd64 R.LANTERN_LANE_MASK_L) * 1600000 / max 1 (s.fieldCycles x) : Nat) : Int)

/-- LANTERN. -/
def State.showLantern (s : State) (a : RegAddr) : Option Nat :=
  if a = R.LANTERN_JOB_TOL then some ((s.job (1 - s.current)).flatTol * 256 + (s.job s.current).flatTol)
  else if a = R.LANTERN_FIELD_LEAD then some s.fieldLead
  else if a = R.LANTERN_STRIPE then some ((s.fieldStripe.map (·.id)).getD 0)
  else if a = R.LANTERN_BAND then some ((s.fieldStripe.map (·.bandsDone)).getD 0)
  else if a = R.LANTERN_BUSY then some (s.unheld 1001)
  else if a = R.LANTERN_PREDICT_RATE then some s.predictRate
  else none

/-- The stripe whose pre-pass PENUMBRA shows: the one that runs, else one that waits to start, else one that is complete. -/
def State.shownPrepass (s : State) : Option Stripe :=
  ((s.stripes.find? Stripe.prepassing).or s.prepassNext).or ((s.stripes.filter (fun t => t.prepass = 4)).getLast?)

/-- PREPASS_STATE (R159, R170). -/
def State.prepassState (s : State) : Nat :=
  match s.shownPrepass.map (·.prepass) with
  | some 1 => 1 | some 5 => 1 | some 2 => 2 | some 3 => 3 | some 4 => 4 | _ => 0

/-- Cell rows complete of the factor map: while the iterations run, a matter of their time. -/
def State.prepassRow (s : State) : Nat :=
  match s.shownPrepass with
  | none => 0
  | some t => if t.prepass = 4 then t.srec.rows / 16 else if t.prepass = 3 then s.unheld (t.srec.rows / 16 + 1) else 0

/-- PENUMBRA. -/
def State.showPenumbra (s : State) (a : RegAddr) : Option Nat :=
  let slot := if s.fld R.PENUMBRA_SLOT_SEL 0 0 = 0 then s.current else 1 - s.current
  let t := (s.job slot).tab 0x0A00
  if a = R.PENUMBRA_ETA then some (leAt t 0 2)
  else if a = R.PENUMBRA_ITER then some (Nat.land (leAt t 0 4) 0x330000)
  else if a = R.PENUMBRA_RADII then some (Nat.land (leAt t 4 4) 0x7F7F7F)
  else if a = R.PENUMBRA_FOG then some (leAt t 8 4 % 2)
  else if a = R.PENUMBRA_PREPASS_STATE then some s.prepassState
  else if a = R.PENUMBRA_PREPASS_STRIPE then some ((s.shownPrepass.map (·.id)).getD 0)
  else if a = R.PENUMBRA_PREPASS_ROW then some s.prepassRow
  else none

/-- How a ring is held (R341, R632). -/
def State.ringState (s : State) (r : Nat) : Nat :=
  match s.stripes.find? (fun t => t.ring = some r) with
  | none => 0
  | some t => if t.pass ≠ 0 then 3 else if t.st = .armed ∨ t.st = .waiting then 1 else 2

/-- FIELD (R632). -/
def State.showField (s : State) (a : RegAddr) : Option Nat :=
  let holder := fun (r : Nat) => ((s.stripes.find? (fun t => t.ring = some r)).map (·.id)).getD 0xFFFFFFFF
  if a = R.FIELD_RING_STATE then some (s.ringState 1 * 16 + s.ringState 0)
  else if a = R.FIELD_RING_STRIPE_A then some (holder 0)
  else if a = R.FIELD_RING_STRIPE_B then some (holder 1)
  else if a = R.FIELD_STAGING_LEAD then
    some (match s.fieldStripe with
      | none => 0
      | some x => (s.staging.filter (fun w => decide (stageKey x.ord x.nextEnter ≤ w.1 ∧ w.1 < stageKey (x.ord + 1) 0))).length)
  else if a = R.FIELD_STAGING_ROWS then some s.stagingRows
  else none

/-- SHEPHERD: the strays and the CRCs of the tables in force (R179, R182). -/
def State.showShepherd (s : State) (a : RegAddr) : Option Nat :=
  if a = R.SHEPHERD_REMAP_CRC then some s.remapCrc
  else if a = R.SHEPHERD_PATTERN_CRC then some s.patternCrc
  else if a = R.SHEPHERD_STRAY_CRC then some s.strayCrc
  else if a = R.SHEPHERD_STRAY_COUNT then some s.strayCount
  else none

/-- TALLY: the rows in the exit hold. -/
def State.showTally (s : State) (a : RegAddr) : Option Nat := if a = R.TALLY_HOLD_DEPTH then some s.hold.length else none

/-! ### Motion -/

/-- main − (aux + o), as AUX_DIFF shows it: in 1/64 nm, saturating (R285). -/
def State.auxDiff (s : State) : Nat :=
  let src := s.inForce R.DROVER_SOURCE
  if fieldOf src 6 6 = 0 then 0
  else
    let v := s.encPos (fieldOf src 1 0) - (s.encPos (fieldOf src 5 4) + s.drover.o)
    lowBits 16 (max (-32768) (min 32767 v))

/-- DROVER; the registers from 0x230 to 0x25C are those of the channel that ENC_SEL names. An amplitude is measured outside, and the
largest difference over the last millisecond is a matter of time. -/
def State.showDrover (s : State) (a : RegAddr) : Option Nat :=
  let ch := s.fld R.DROVER_ENC_SEL 1 0
  let e := s.enc ch
  if a = R.DROVER_STATE then
    some (withField (withField (s.rd a) 10 10 (bitOf ((rolesOf (s.inForce R.DROVER_SOURCE)).any s.unreferenced))) 8 8 (bitOf (s.drover.aux && s.checking.isSome)))
  else if a = R.DROVER_RATE_LIM then some (if s.enabled 14 then s.rLim % 2 ^ 21 else 0)
  else if a = R.DROVER_ENC_MODE ∨ a = R.DROVER_ENC_SCALE ∨ a = R.DROVER_ENC_WORD ∨ a = R.DROVER_ENC_LOS then some (s.rd (encReg a ch))
  else if a = R.DROVER_ENC_DETECT then some (16 * bitOf e.detDone + e.detected)
  else if a = R.DROVER_ENC_HEALTH then some (s.unheld 4096 * 2 ^ 16 + 2 * bitOf e.warn + bitOf e.lost)
  else if a = R.DROVER_ENC_POS_L ∨ a = R.DROVER_ENC_POS_H then some (pairWord R.DROVER_ENC_POS_L a (lowBits 48 (s.encPos ch)))
  else if a = R.DROVER_Z_REF_L ∨ a = R.DROVER_Z_REF_H then some (pairWord R.DROVER_Z_REF_L a (lowBits 48 (e.zref.getD 0)))
  else if a = R.DROVER_AUX_DIFF then some (s.unheld 65536 * 2 ^ 16 + s.auxDiff)
  else none

/-- PROFILE. -/
def State.showProfile (s : State) (a : RegAddr) : Option Nat :=
  let pos := fun (x : Axis) => lowBits 48 (x.p.fdiv 4294967296)
  if a = R.PROFILE_STATE then some s.profileState
  else if a = R.PROFILE_HOLD_CAUSE then some s.holdReg
  else if a = R.PROFILE_SP_Y_L ∨ a = R.PROFILE_SP_Y_H then some (pairWord R.PROFILE_SP_Y_L a (pos s.profile.y))
  else if a = R.PROFILE_SP_X_L ∨ a = R.PROFILE_SP_X_H then some (pairWord R.PROFILE_SP_X_L a (pos s.profile.x))
  else if a = R.PROFILE_VEL_Y then some (lowBits 32 (s.profile.y.v.fdiv 65536))
  else if a = R.PROFILE_VEL_X then some (lowBits 32 (s.profile.x.v.fdiv 65536))
  else if a = R.PROFILE_V_RUN then some s.vRun
  else if a = R.PROFILE_STOP_DIST then some s.stopDistReg
  else none

/-- DEFL. -/
def State.showDefl (s : State) (a : RegAddr) : Option Nat := if a = R.DEFL_JESD_STATUS then some s.jesdStatus else none

/-! ### Links -/

/-- FLINK; the registers from 0x230 to 0x248 are those of the lane that LANE_SEL names. -/
def State.showFlink (s : State) (a : RegAddr) : Option Nat :=
  let l := s.fld R.FLINK_LANE_SEL 5 0
  let x := s.lane l
  if a = R.FLINK_LANES_UP_L ∨ a = R.FLINK_LANES_UP_H then some (pairWord R.FLINK_LANES_UP_L a s.lanesUpBits)
  else if a = R.FLINK_RATE then some s.rateReg
  else if a = R.FLINK_BANK then some (withField (s.rd a) 12 8 s.banks)
  else if a = R.FLINK_RX_LANES_UP then some s.flink.rx
  else if a = R.FLINK_MAX_FLASH then some s.maxFlash
  else if a = R.FLINK_SLACK_MIN then some s.slackReg
  else if a = R.FLINK_SETTLED then some s.settledLo
  else if a = R.FLINK_LANE_STATE then some (s.laneState l)
  else if a = R.FLINK_LANE_EYE then some (x.eyeH * 256 + x.eyeW)
  else if a = R.FLINK_LANE_CAPS_L ∨ a = R.FLINK_LANE_CAPS_H then some (pairWord R.FLINK_LANE_CAPS_L a x.caps0)
  else if a = R.FLINK_LANE_ID_L ∨ a = R.FLINK_LANE_ID_H then some (pairWord R.FLINK_LANE_ID_L a x.caps1)
  else if a = R.FLINK_LANE_COUNTS then some (min 65535 x.naks * 2 ^ 16 + min 65535 x.misses)
  else if a = R.FLINK_SENSOR_VAL then
    let ms := s.unheld 4096 * 2 ^ 20
    some (match kget? s.flink.sensors (s.fld R.FLINK_SENSOR_SEL 5 0) with
      | none => 0
      | some none => ms + 2 ^ 16 + s.unheld 65536
      | some (some v) => ms + lowBits 16 v)
  else none

/-- IVDON; 0x228 and 0x22C are those of the port that PORT_SEL names. -/
def State.showIvdon (s : State) (a : RegAddr) : Option Nat :=
  let p := s.port (s.fld R.IVDON_PORT_SEL 1 0)
  if a = R.IVDON_CAPS then some (0x04020007 + s.ivdon.ownLevel % 256 * 256)
  else if a = R.IVDON_LEVELS then some (s.ivdon.ring * 2 ^ 24 + s.ivdon.ownLevel * 2 ^ 16 + s.syncLevel)
  else if a = R.IVDON_ROLE then some (s.observerCause * 256 + s.role)
  else if a = R.IVDON_EPOCH then some (s.ivdon.epoch % 2 ^ 32)
  else if a = R.IVDON_GROUP_FORMAT then some (leastOf 0 (s.ivdon.formats.map (·.2)))
  else if a = R.IVDON_READY_COUNT then some s.ivdon.readyFrom.length
  else if a = R.IVDON_PORT_STATE then some (p.nb % 4096 * 2 ^ 20 + p.nbPort % 4 * 2 ^ 16 + p.rate * 256 + if p.relay then 4 else p.st)
  else if a = R.IVDON_PORT_COUNTS then some (min 65535 p.crcFails * 2 ^ 16 + min 65535 p.downs)
  else none

/-! ### Memory, trace, ageing, pins -/

/-- CRC: while an engine is busy its VALUE, RESULT and COUNT read 0 (R404, R408). -/
def State.showCrc (s : State) (a : RegAddr) : Option Nat :=
  match engineOf a with
  | none => none
  | some (e, b) =>
    let v := b = R.CRC_E_VALUE_L ∨ b = R.CRC_E_VALUE_H
    let r := b = R.CRC_E_RESULT_L ∨ b = R.CRC_E_RESULT_H
    if s.crcBusy e ∧ (v ∨ r ∨ b = R.CRC_E_COUNT) then some 0
    else if v then some (pairWord R.CRC_E_VALUE_L b (s.engValue e))
    else if r then some (pairWord R.CRC_E_RESULT_L b (s.engResult e))
    else none

/-- SRAM (R391). -/
def State.showSram (s : State) (a : RegAddr) : Option Nat :=
  let m := s.sram
  if a = R.SRAM_HURDLES_USED then some (m.tallyHurdles * 256 + m.hurdles.length)
  else if a = R.SRAM_FILL then some (bitOf (m.fillRegions ≠ []) * 2 ^ 31 + m.filled % 1024 * 2 ^ 16 + s.fld a 3 0)
  else if a = R.SRAM_FENCE_MAP then
    some (m.fences.length * 2 ^ 16 +
      (List.range 10).foldl (fun v g => v + bitOf (m.fences.any (fun f => sramRegion (256 * f.block) = g)) * 2 ^ g) 0)
  else if a = R.SRAM_SUSPECTS then some (m.recent.length % 128)
  else if a = R.SRAM_HURDLE_ENTRY then some (match m.hurdles[s.fld R.SRAM_HURDLE_SEL 4 0]? with | some h => h.image | none => 0)
  else if a = R.SRAM_FENCE_ENTRY then some (match m.fences[s.fld R.SRAM_FENCE_SEL 5 0]? with | some f => f.image | none => 0)
  else if a = R.SRAM_SPARE_BLOCKS then some m.spares
  else if a = R.SRAM_STAGING_FENCED then some m.stagingFenced
  else if a = R.SRAM_BELL_L ∨ a = R.SRAM_BELL_H then some (pairWord R.SRAM_BELL_L a (s.bell (s.fld R.SRAM_BELL_SEL 5 0)))
  else none

/-- Space of a slot's deficit area neither used nor reserved, in units of 16 KiB (R336). -/
def State.deficitFree (s : State) (slot : Nat) : Nat :=
  (deficitArea - ((s.job slot).lists.foldl (fun n d => n + (s.listEnd d - d.base)) 0)) / 16384

/-- HBM0 to HBM3: the stack's own registers, and on HBM0 those of the whole memory (R364). -/
def State.showHbm (s : State) (k : Nat) (b : RegAddr) : Option Nat :=
  if b = R.HBM0_TEMP then some (lowBits 16 ((s.stackTemp k).getD 0))
  else if b = R.HBM0_REFRESH then some (s.refreshBand k)
  else if b = R.HBM0_PAGE_HITS then some (s.unheld 1001)
  else if k ≠ 0 then none
  else if b = R.HBM0_RANK_ERR then
    let p := s.fld R.HBM0_RANK_SEL 3 0
    some (min 65535 (s.ceHour p) * 2 ^ 16 + min 255 (s.since (kget (fun _ => []) s.ranks.ues p) 86400).length)
  else if b = R.HBM0_CACHE_FREE then some s.cacheFree
  else if b = R.HBM0_CACHE_SLOT0 then some (s.frames.filter (fun f => f.2.slot = 0)).length
  else if b = R.HBM0_CACHE_SLOT1 then some (s.frames.filter (fun f => f.2.slot = 1)).length
  else if b = R.HBM0_DEFICIT_FREE then some (s.deficitFree 1 * 2 ^ 16 + s.deficitFree 0)
  else none

/-- TRACE (R635). -/
def State.showTrace (s : State) (a : RegAddr) : Option Nat :=
  let t := s.trace
  if a = R.TRACE_STATE then some (256 * bitOf (t.recs.any (fun r => r.kind = 0xFF)) + t.st)
  else if a = R.TRACE_TRIGGER then some t.trigger
  else if a = R.TRACE_POST then some t.post
  else if a = R.TRACE_RECORDS then some t.recs.length
  else if a = R.TRACE_LOST then some (min (2 ^ 32 - 1) t.lost)
  else if a = R.TRACE_SOURCES then some ((List.range 29).foldl (fun v p => v + s.fld (ctrlOf p) 3 3 * 2 ^ p) 0)
  else if a = R.TRACE_TRIG_SEQ then some t.trigSeq
  else none

/-- AGE: the present slack of a path is measured outside. -/
def State.showAgePage (s : State) (a : RegAddr) : Option Nat :=
  if a = R.AGE_PATH_VAL then some (s.age.pathHour.getD (s.fld R.AGE_PATH_SEL 5 0) 0 % 65536 * 2 ^ 16 + s.unheld 65536) else none

/-- The level of a pin (R662): what its function drives, or the level at the ball. -/
def State.pinLevel (s : State) (n : Nat) : Bool :=
  if s.pinFunc n = 1 then decide (s.nsec < s.fld R.GPIO_PPS_WIDTH 9 0 * 1000000)
  else if s.pinFunc n = 2 then s.stripes.any (fun t => t.st = .writing ∨ t.st = .draining)
  else if s.fld R.GPIO_DIR n n = 1 then s.fld R.GPIO_OUT n n = 1
  else s.gpioHigh.testBit n

/-- GPIO. -/
def State.showGpio (s : State) (a : RegAddr) : Option Nat :=
  if a = R.GPIO_IN then some ((List.range 8).foldl (fun v n => v + bitOf (s.pinLevel n) * 2 ^ n) 0) else none

/-! ### A read -/

/-- What a page shows of its present state at an address, if that register shows one. -/
def State.shown (s : State) (a : RegAddr) : Option Nat :=
  match pageOf a with
  | 0 => s.showSys a
  | 1 => s.showClk a
  | 2 => s.showTherm a
  | 4 => s.showFold a
  | 5 => s.showTime a
  | 6 => s.showKeep a
  | 7 => s.showHost a
  | 8 => s.showCodec a
  | 9 => s.showLantern a
  | 10 => s.showPenumbra a
  | 11 => s.showField a
  | 12 => s.showShepherd a
  | 13 => s.showTally a
  | 14 => s.showDrover a
  | 15 => s.showProfile a
  | 16 => s.showDefl a
  | 17 => s.showFlink a
  | 19 => s.showIvdon a
  | 20 => s.showCrc a
  | 21 => s.showSram a
  | 22 => s.showHbm 0 a
  | 23 => s.showHbm 1 (a - 0x1000)
  | 24 => s.showHbm 2 (a - 0x2000)
  | 25 => s.showHbm 3 (a - 0x3000)
  | 26 => s.showTrace a
  | 27 => s.showAgePage a
  | 28 => s.showGpio a
  | _ => none

/-- The current value of a register (R11, R12, R612). -/
def State.regView (s : State) (a : RegAddr) : Nat :=
  if pageOf a > 28 then 0
  else if a = statusOf (pageOf a) then s.status (pageOf a)
  else ((s.shown a).getD (s.rd a)) % 2 ^ 32

/-- A read by an origin: the value, and the captures of R13, kept for each origin (R614, R615). -/
def State.readReg (s : State) (o : Origin) (a : RegAddr) : Nat × State :=
  match groupOf a with
  | none => (s.regView a, s)
  | some g =>
    if g.head? = some a then
      (s.regView a, { s with captured := g.foldl (fun m b => kput m (heldKey o b) (BitVec.ofNat 32 (s.regView b))) s.captured })
    else ((kget (fun _ => BitVec.ofNat 32 (s.regView a)) s.captured (heldKey o a)).toNat, s)

/-- The register offsets of a page that exist, for reads of REG_READ and writes of REG_WRITE (R612). -/
def okOffset (page off : Nat) : Bool := decide (page ≤ 28 ∧ off < 0x1000) && off % 4 = 0

end Sys2Proof.Machine
end

