-- ==== Sys2Proof/Machine/Pages.lean ====
section
/-! DEFINITION. Writes and reads of the register pages (R612 to R640): the range checks of R626, the registers whose write does more
than store a value, the banked registers of HOST and DROVER, REGISTER_WRITE, REG_WRITE and REG_READ. -/

namespace Sys2Proof.Machine

/-- The state a command leaves. -/
def State.after (s : State) (f : State → Host.Outcome State Fault Refusal) : State :=
  match f s with
  | .next t => t
  | .fault _ => s
  | .refused _ => s

/-- A number the spec leaves open, with the state that has used it: chance that a plain register write meets (log entry 2). -/
def State.chance (s : State) (n : Nat) : Nat × State := (Config.freeValue s.free % n, { s with free := s.free + 1 })

/-! ### Clocks -/

/-- CLK_KEEP and CLK.PREWARM request clocks (R506); in Dusk no fast clock runs. -/
def State.keepClocks (s : State) : State :=
  if s.power ≠ .day then s
  else ((List.range 29).filter (fun p => s.keepsClk p && !s.clkRuns p)).foldl (fun s p =>
    if s.clockHeld ∧ heldPages.contains p then s.setFld R.CLK_REQ p p 1 else s.clkOn p) s

/-! ### The header -/

/-- CTRL. -/
def State.ctrlWrite (s : State) (o : Origin) (p v : Nat) : State := (s.writeCtrl o p v).keepClocks

/-- ERR_CLEAR, an action register. -/
def State.errClearWrite (s : State) (o : Origin) (p v : Nat) : State :=
  s.act o (p * 0x1000 + 0x24) v (fun s => if v % 2 = 1 then s.clearErr p else s)

/-- IRQ_PEND: the bits written 1 clear, and with them the IRQ_RAW bits of event sources (R620). -/
def State.irqPendWrite (s : State) (o : Origin) (p v : Nat) : State :=
  let raw := p * 0x1000 + 0x10
  s.act o (p * 0x1000 + 0x18) v (fun s =>
    let s1 := s.wr (p * 0x1000 + 0x18) (newValue (p * 0x1000 + 0x18) (s.rd (p * 0x1000 + 0x18)) v)
    let gone := Nat.land (s1.rd raw) (v - Nat.land v (conditionIrqs p))
    s1.wr raw (s1.rd raw - gone))

/-- LOCK rises to a level of R560 and never falls; 3 is no level. -/
def State.lockWrite (s : State) (o : Origin) (p v : Nat) : State :=
  let a := p * 0x1000 + 0x28
  s.act o a v (fun s =>
    if fieldOf v 1 0 = 3 then s.refuse o (Code.REG_VALUE_RANGE p) a v
    else s.traced p (s.wr a (max (s.rd a) (fieldOf v 1 0))))

/-- IRQ_EN: a pending bit that becomes enabled raises the page's interrupt (R425, R620). -/
def State.irqEnWrite (s : State) (o : Origin) (p v : Nat) : State :=
  let a := p * 0x1000 + 0x14
  match s.permit o a v with
  | .error s => s
  | .ok s => (s.applyWrite o a v).signalPage p (Nat.land (s.rd (p * 0x1000 + 0x18)) (s.rd a))

/-! ### Ranges -/

/-- x lies from lo to hi. -/
def within (x lo hi : Nat) : Bool := decide (lo ≤ x ∧ x ≤ hi)

/-- SOURCE and the serial words of the channels it names keep their rules (R253, R261). -/
def State.sourceOk (s : State) (v : Nat) : Bool :=
  let roles := rolesOf v
  decide roles.Nodup && roles.all (fun c => s.encMode c ≠ 0 && !s.wordShort c)

/-- A flash rate at which every lane in service, and every one that wakes into it without training, meets the conditions of R217. -/
def State.rateOk (s : State) (v : Nat) : Bool :=
  !s.enabled 17 || (List.range 64).all (fun l => !((s.lane l).up || (s.lane l).st = 8 || (s.lane l).quick) || (s.laneLimits (s.lane l) v true).isNone)

/-- The ranges that R626 tests at a write, for the new value of a register whose page is enabled. -/
def State.rangeOk (s : State) (a v : Nat) : Bool :=
  if a = R.LANTERN_FLAT_TOL then within (fieldOf v 6 0) 1 64
  else if a = R.LANTERN_LEAD_WAKE then wakeOk (fieldOf v 15 0) && decide (fieldOf v 15 0 < s.fld R.LANTERN_LEAD_FULL 15 0)
  else if a = R.LANTERN_LEAD_FULL then fullOk (s.fld R.LANTERN_LEAD_WAKE 15 0) (fieldOf v 15 0)
  else if a = R.LANTERN_DENSITY_SHARE then within (fieldOf v 6 0) 1 63
  else if a = R.DROVER_SOURCE then s.sourceOk v
  else if a = R.DROVER_BAND then within (fieldOf v 8 0) 128 255 && within (fieldOf v 15 12) 1 15
  else if a = R.DROVER_MAX_RATE then within (fieldOf v 20 0) 1 1250
  else if a = R.DROVER_ZONE_CTRL then within (fieldOf v 6 0) 0 64
  else if a = R.DROVER_STILL_TIME then decide (s.fld R.DROVER_DOSE_WINDOW 9 0 ≤ 1000 * fieldOf v 15 0)
  else if a = R.DROVER_STB_DELAY0 ∨ a = R.DROVER_STB_DELAY1 then within (fieldOf v 7 0) 0 155
  else if a = R.HBM0_MIG_RATE then within (fieldOf v 8 0) 1 400
  else if a = R.HOST_EVQ_CTRL then within (fieldOf v 11 0) 1 4095
  else if a = R.GPIO_DIR then (List.range 8).all (fun n => !(s.pinFunc n = 3 && v.testBit n))
  else true

/-- A new value is a Mirror mode that a lane cannot bear while Mirror is enabled (R242; log entry 59). -/
def State.echoAbsent (s : State) (a new : Nat) : Bool :=
  a = R.MIRROR_MODE && s.enabled 18 && fieldOf new 1 0 ≠ 0 && s.knownLanes.any (fun l => !s.echoes l)

/-- A new value is out of its range (R217, R626). -/
def State.outOfRange (s : State) (a new : Nat) : Bool :=
  (s.enabled (pageOf a) && !s.rangeOk a new) || (a = R.DROVER_MAX_RATE && !s.rateOk (fieldOf new 20 0))

/-- An admitted write of a value, refused where the value cannot be borne or is out of range. -/
def State.putValue (s : State) (o : Origin) (a v : Nat) : State :=
  let new := newValue a (s.rd a) v
  if s.echoAbsent a new then s.refuse o Code.MIRROR_ECHO_ABSENT a v
  else if s.outOfRange a new then s.refuse o (Code.REG_VALUE_RANGE (pageOf a)) a v
  else s.applyWrite o a v

/-- A write of a plain register. -/
def State.plainWrite (s : State) (o : Origin) (a v : Nat) : State :=
  match s.permit o a v with
  | .error s => s
  | .ok s => s.putValue o a v

/-! ### SYS -/

/-- A bell word and the register that shows it, written together once copy 1 has verified (R383, R630). -/
def State.bellReg (s : State) (o : Origin) (n a v : Nat) : State := s.change o a (s.rd a) v (fun s => (s.writeBell n v 0).showLevels)

/-- DEVICE_NO (R630). -/
def State.deviceNoWrite (s : State) (o : Origin) (v : Nat) : State :=
  match s.permit o R.SYS_DEVICE_NO v with
  | .error s => s
  | .ok s => if s.enabled 19 then s.refuse o (Code.REG_LOCKED_FIELD 0) R.SYS_DEVICE_NO v else s.bellReg o 0 R.SYS_DEVICE_NO (fieldOf v 11 0)

/-- FORMAT_LEVEL (R601, R630). -/
def State.formatLevelWrite (s : State) (o : Origin) (v : Nat) : State :=
  match s.permit o R.SYS_FORMAT_LEVEL v with
  | .error s => s
  | .ok s =>
    if fieldOf v 15 0 = 0 then s.refuse o (Code.REG_VALUE_RANGE 0) R.SYS_FORMAT_LEVEL v
    else if fieldOf v 15 0 > fieldOf (s.fwSlot s.fold.running).levels 15 0 then s.refuse o Code.IVDON_FORMAT_ABOVE R.SYS_FORMAT_LEVEL v (some 19)
    else s.bellReg o 1 R.SYS_FORMAT_LEVEL (fieldOf v 15 0)

/-! ### TIME -/

/-- INCR and INCR_INT are committed together (R589). -/
def State.incrWrite (s : State) (o : Origin) (a v : Nat) : State :=
  match s.permit o a v with
  | .error s => s
  | .ok s =>
    if a = R.TIME_INCR ∨ incrOk (v % 256 * 2 ^ 32 + s.heldOr o R.TIME_INCR) then s.applyWrite o a v
    else s.refuse o Code.TIME_INCR_RANGE a v

/-- ADJ (R589, R594). -/
def State.adjWrite (s : State) (o : Origin) (v : Nat) : State :=
  match s.permit o R.TIME_ADJ v with
  | .error s => s
  | .ok s =>
    if s.servoOwns ∧ o ≠ .firmware then s.refuse o Code.TIME_PTP_OWNS R.TIME_ADJ v
    else if adjOk v then s.applyWrite o R.TIME_ADJ v else s.refuse o Code.TIME_ADJ_RANGE R.TIME_ADJ v

/-! ### AUDIT -/

/-- EXPORT_ACK_L is held until EXPORT_ACK_H commits the pair (R13, R581). -/
def State.exportAckWrite (s : State) (o : Origin) (a v : Nat) : State :=
  s.act o a v (fun s =>
    if a = R.AUDIT_EXPORT_ACK_L then { s with held := kput s.held (heldKey o a) (BitVec.ofNat 32 v) }
    else (s.exportAck o (v * 2 ^ 32 + s.heldOr o R.AUDIT_EXPORT_ACK_L)).dropHeld o [R.AUDIT_EXPORT_ACK_L])

/-! ### KEEP -/

/-- KEEP.CMD: a write comes before a read when both bits are set. -/
def State.keepCmdWrite (s : State) (o : Origin) (v : Nat) : State :=
  s.act o R.KEEP_CMD v (fun s =>
    let s1 := if fieldOf v 1 1 = 1 then
        let f := s.chance 3
        f.2.keepWrite o f.1
      else s
    if fieldOf v 0 0 = 1 then s1.keepRead else s1)

/-! ### HOST queues -/

/-- A banked value changed in the pair that QSEL selects. -/
def State.queueReg (s : State) (o : Origin) (a old new : Nat) (f : Queue → Queue) : State :=
  let q := s.fld R.HOST_QSEL 5 0
  s.change o a old new (fun s => s.setQueue q (f (s.queue q)))

/-- The pair has commands that have not completed: visible in its SQ, or started (R417). -/
def State.queueBusy (s : State) (q : Nat) : Bool :=
  (s.queue q).tail ≠ (s.queue q).sqHead || s.host.cmds.any (fun c => c.sq = q)

/-- Q_CTRL with a new value; enabling the pair begins it anew (R417). -/
def Queue.putCtrl (x : Queue) (v : Nat) : Queue :=
  let x1 := { x with ctrl := BitVec.ofNat 32 v }
  if !x.en ∧ x1.en then x1.reset else x1

/-- Q_CTRL (R417, R626): while EN is 1 the size stays. -/
def State.qCtrlWrite (s : State) (o : Origin) (v : Nat) : State :=
  let q := s.fld R.HOST_QSEL 5 0
  let x := s.queue q
  let new0 := newValue R.HOST_Q_CTRL x.ctrl.toNat v
  let new := if x.en then withField new0 11 0 (fieldOf x.ctrl.toNat 11 0) else new0
  if x.en ∧ fieldOf new 31 31 = 0 ∧ s.queueBusy q then s.refuse o Code.HOST_QUEUE_BUSY R.HOST_Q_CTRL v
  else if !x.en ∧ s.enabled 7 ∧ fieldOf new 11 0 = 0 then s.refuse o (Code.REG_VALUE_RANGE 7) R.HOST_Q_CTRL v
  else s.queueReg o R.HOST_Q_CTRL x.ctrl.toNat new (fun y => y.putCtrl new)

/-- A base of 64 bits committed by its _H register (R13); while EN is 1 a write is discarded (R417). -/
def State.baseWrite (s : State) (o : Origin) (l : RegAddr) (a v old : Nat) (f : Nat → Queue → Queue) : State :=
  let x := s.queue (s.fld R.HOST_QSEL 5 0)
  if x.en then s
  else if a = l then { s with held := kput s.held (heldKey o l) (BitVec.ofNat 32 v) }
  else
    let low := (kget (fun _ => BitVec.ofNat 32 old) s.held (heldKey o l)).toNat
    let n := (if low = old % 2 ^ 32 then 0 else 1) + (if v % 2 ^ 32 = old / 2 ^ 32 then 0 else 1)
    let s1 := s.queueReg o l (old % 2 ^ 32) low (f (old / 2 ^ 32 * 2 ^ 32 + low))
    if !s.auditRoom o n then (s.countFull.refuse o Code.AUDIT_FULL a v).dropHeld o [l]
    else (s1.queueReg o a (old / 2 ^ 32) (v % 2 ^ 32) (f (v % 2 ^ 32 * 2 ^ 32 + low))).dropHeld o [l]

/-- The registers that QSEL selects. -/
def State.queueWrite (s : State) (o : Origin) (a v : Nat) : State :=
  match s.permit o a v with
  | .error s => s
  | .ok s =>
    let x := s.queue (s.fld R.HOST_QSEL 5 0)
    if a = R.HOST_Q_CTRL then s.qCtrlWrite o v
    else if a = R.HOST_Q_COALESCE then
      let new := newValue a x.coalesce.toNat v
      s.queueReg o a x.coalesce.toNat new (fun y => { y with coalesce := BitVec.ofNat 32 new })
    else if a = R.HOST_SQ_BASE_L ∨ a = R.HOST_SQ_BASE_H then s.baseWrite o R.HOST_SQ_BASE_L a v x.sqBase (fun b y => { y with sqBase := b })
    else s.baseWrite o R.HOST_CQ_BASE_L a v x.cqBase (fun b y => { y with cqBase := b })

/-- EVQ_CTRL: enabling the ring begins it anew, and what waited is written (R426). -/
def State.evqCtrlWrite (s : State) (o : Origin) (v : Nat) : State :=
  let off := s.fld R.HOST_EVQ_CTRL 31 31 = 0
  let s1 := s.plainWrite o R.HOST_EVQ_CTRL v
  if off ∧ s1.fld R.HOST_EVQ_CTRL 31 31 = 1 then
    { s1 with host := { s1.host with evqTail := 0, evqHead := 0, evqPhase := true } }.drainEvents (s1.host.backlog.length + 1)
  else s1

/-! ### DROVER channels -/

/-- A register of the channel that ENC_SEL shows. -/
def State.encWrite (s : State) (o : Origin) (a v : Nat) : State :=
  match s.permit o a v with
  | .error s => s
  | .ok s =>
    let b := encReg a (s.fld R.DROVER_ENC_SEL 1 0)
    let new := newValue a (s.rd b) v
    s.change o a (s.rd b) new (fun s => s.wr b new)

/-! ### CRC engines -/

/-- A register of an engine: CMD and DATA act; the others store, but not while the engine is busy (R404, R411). -/
def State.engineWrite (s : State) (o : Origin) (e : Nat) (b a v : Nat) : State :=
  if b = R.CRC_E_CMD then s.writeCmd o e v
  else if b = R.CRC_E_DATA then s.act o a v (fun s => s.feedData o e v)
  else match s.permit o a v with
    | .error s => s
    | .ok s =>
      if s.crcBusy e then s.refuse o Code.CRC_ENGINE_BUSY a v
      else if b = R.CRC_E_LEN ∧ s.enabled 20 ∧ v = 0 then s.refuse o (Code.REG_VALUE_RANGE 20) a v
      else
        let s1 := s.applyWrite o a v
        if b = R.CRC_E_VALUE_H ∨ b = R.CRC_E_CFG then s1.setValue e (s1.rd64 (engReg e R.CRC_E_VALUE_L)) else s1

/-! ### Every register -/

/-- Registers whose write is a command of its own (R673), or has a check of its own. -/
def State.ownWrite (s : State) (o : Origin) (a v : Nat) : Option State :=
  if a = R.SYS_DEVICE_NO then some (s.deviceNoWrite o v)
  else if a = R.SYS_FORMAT_LEVEL then some (s.formatLevelWrite o v)
  else if a = R.SYS_POWER_REQ then some (s.writePowerReq o v)
  else if a = R.SYS_INTERLOCK then some (s.writeInterlock o v)
  else if a = R.SYS_ERRLOG_HEAD then some (s.after (execErrlogHead o v))
  else if a = R.SYS_DEVICE_RESET then some (s.after (execDeviceReset o v))
  else if a = R.CLK_PREWARM then some (s.plainWrite o a v).keepClocks
  else if a = R.THERM_ACK then some (s.after (execThermAck o v))
  else if a = R.AUDIT_EXPORT_CMD then some (s.after (execExportCmd o v))
  else if a = R.AUDIT_EXPORT_ACK_L ∨ a = R.AUDIT_EXPORT_ACK_H then some (s.exportAckWrite o a v)
  else if a = R.TIME_STEP then some (s.after (execStep o v))
  else if a = R.TIME_INCR ∨ a = R.TIME_INCR_INT then some (s.incrWrite o a v)
  else if a = R.TIME_ADJ then some (s.adjWrite o v)
  else if a = R.KEEP_CMD then some (s.keepCmdWrite o v)
  else if a = R.HOST_EVQ_CTRL then some (s.evqCtrlWrite o v)
  else if R.HOST_Q_CTRL ≤ a ∧ a ≤ R.HOST_Q_COALESCE then some (s.queueWrite o a v)
  else if a = R.SHEPHERD_STRAY_ADD then some (s.after (execStrayAdd o v))
  else if a = R.DROVER_ENC_MODE ∨ a = R.DROVER_ENC_SCALE ∨ a = R.DROVER_ENC_WORD ∨ a = R.DROVER_ENC_LOS then some (s.encWrite o a v)
  else if a = R.DROVER_DETECT then some (s.after (execDetect o v))
  else if R.PROFILE_V_MAX_Y ≤ a ∧ a ≤ R.PROFILE_J_MAX_X then some (s.after (execLimitWrite o ((a - R.PROFILE_V_MAX_Y) / 4) v))
  else if a = R.PROFILE_MOVE then some (s.after (execMove o v))
  else if a = R.DEFL_PEER_FAULT then some ((s.chance 2).2.after (execPeerFault o v ((s.chance 2).1 = 1)))
  else if a = R.FLINK_RETRAIN then some (s.after (execRetrain o v))
  else if a = R.IVDON_RETRAIN then some (s.after (execIvdonRetrain o v))
  else if a = R.SRAM_FILL then some (s.after (execFill o v))
  else if a = R.HBM0_RETIRE then some (s.after (execRetire o v))
  else if a = R.AGE_REBASE then some (s.after (execRebase o v))
  else none

/-- A whole write of a register by an origin (R11, R612, R673). -/
def State.writeReg (s : State) (o : Origin) (a v : Nat) : State :=
  let p := pageOf a
  if p > 28 then s
  else match offOf a with
    | 0x004 => s.ctrlWrite o p v
    | 0x014 => s.irqEnWrite o p v
    | 0x018 => s.irqPendWrite o p v
    | 0x024 => s.errClearWrite o p v
    | 0x028 => s.lockWrite o p v
    | _ => match engineOf a with
      | some (e, b) => s.engineWrite o e b a v
      | none => (s.ownWrite o a v).getD (s.plainWrite o a v)

/-! ### Commands -/

/-- CTRL_ENABLE: a write of CTRL with ENABLE at 1 (R623, R636, R637). -/
def execCtrlEnable (o : Origin) (page v : Nat) (s : State) : Host.Outcome State Fault Refusal :=
  if fieldOf v 0 0 = 0 then .next s else .next (s.ctrlWrite o page v)

/-- CTRL_DISABLE: a write of CTRL with ENABLE at 0 (R625). -/
def execCtrlDisable (o : Origin) (page v : Nat) (s : State) : Host.Outcome State Fault Refusal :=
  if fieldOf v 0 0 = 1 then .next s else .next (s.ctrlWrite o page v)

/-- SOFT_RESET: a write of CTRL with SOFT_RESET at 1 (R622, R637). -/
def execSoftReset (o : Origin) (page v : Nat) (s : State) : Host.Outcome State Fault Refusal :=
  if fieldOf v 1 1 = 0 then .next s else .next (s.ctrlWrite o page v)

/-- ERR_CLEAR (R621, R639). -/
def execErrClear (o : Origin) (page v : Nat) (s : State) : Host.Outcome State Fault Refusal :=
  if page > 28 then .next s else .next (s.errClearWrite o page v)

/-- IRQ_PEND_CLEAR (R620). -/
def execIrqPendClear (o : Origin) (page v : Nat) (s : State) : Host.Outcome State Fault Refusal :=
  if page > 28 then .next s else .next (s.irqPendWrite o page v)

/-- LOCK (R560, R638). -/
def execLock (o : Origin) (page v : Nat) (s : State) : Host.Outcome State Fault Refusal :=
  if page > 28 then .next s else .next (s.lockWrite o page v)

/-- The block takes register writes: it is powered, its firmware has run the power-up sequence, and no device-fatal event stands
(R485). -/
def State.servesWrites (s : State) : Bool := s.power ≠ .night && s.booted && s.fatal = 0

/-- REGISTER_WRITE: `v` on the byte enables `bytes`, from an address in BAR0 of PF0. Eight enables are two writes, the lower offset
first; a write that does not cover whole registers is discarded with REG_ACCESS_SIZE (R612, R613). -/
def execRegisterWrite (o : Origin) (addr v bytes : Nat) (s : State) : Host.Outcome State Fault Refusal :=
  let a := addr / 4 * 4
  if pageOf addr > 28 then .next s
  else if addr = a ∧ bytes = 0xF then .next (s.writeReg o a (v % 2 ^ 32))
  else if addr = a ∧ bytes = 0xFF then .next ((s.writeReg o a (v % 2 ^ 32)).writeReg o (a + 4) (v / 2 ^ 32 % 2 ^ 32))
  else if s.servesWrites then .next (s.refuse o (Code.REG_ACCESS_SIZE (pageOf a)) a (v % 2 ^ 32))
  else .next s

/-- REG_WRITE: a mailbox request that writes a register as the Owner (R559, R561). -/
def execRegWrite (page off v : Nat) (s : State) : Host.Outcome State Fault Refusal :=
  s.mailbox false false (fun s =>
    if okOffset page off then (s.writeReg .owner (page * 0x1000 + off) (v % 2 ^ 32)).mbEnd 0 [] else s.mbFail Code.FOLD_MB_FORM)

/-- REG_READ: a mailbox request that reads a register as the Owner. -/
def execRegRead (page off : Nat) (s : State) : Host.Outcome State Fault Refusal :=
  s.mailbox false true (fun s =>
    if okOffset page off then
      let r := s.readReg .owner (page * 0x1000 + off)
      { r.2 with free := r.2.free + 1 }.mbEnd 0 (leBytes 4 r.1)
    else s.mbFail Code.FOLD_MB_FORM)

end Sys2Proof.Machine
end

