-- ==== Sys2Proof/Machine/Dispatch.lean ====
section
/-! DEFINITION. Which meaning runs which command: one arm per row of the opcode table. -/

namespace Sys2Proof.Machine

/-- The effect of a command on everything but the queue. -/
def exec (i : Instr) (s : State) : Host.Outcome State Fault Refusal :=
  match i with
  | .sqTailDoorbell q v => Sys2Proof.Machine.execSqTailDoorbell q v s
  | .cqHeadDoorbell q v => Sys2Proof.Machine.execCqHeadDoorbell q v s
  | .evqHeadDoorbell v => Sys2Proof.Machine.execEvqHeadDoorbell v s
  | .commandStart q entry ns => Sys2Proof.Machine.execCommandStart q entry ns s
  | .cqCoalesceTimeout q => Sys2Proof.Machine.execCqCoalesceTimeout q s
  | .jobOpen n => Sys2Proof.Machine.execJobOpen n s
  | .keyLoad n buf => Sys2Proof.Machine.execKeyLoad n buf s
  | .geomPush n buf reseal => Sys2Proof.Machine.execGeomPush n buf reseal s
  | .tableLoad n buf => Sys2Proof.Machine.execTableLoad n buf s
  | .stripeArm n copies glitch => Sys2Proof.Machine.execStripeArm n copies glitch s
  | .stripeArmResourcesFree n => Sys2Proof.Machine.execStripeArmResourcesFree n s
  | .stripeGo n => Sys2Proof.Machine.execStripeGo n s
  | .stripeTakesEffect smp => Sys2Proof.Machine.execStripeTakesEffect smp s
  | .stripeAbort n => Sys2Proof.Machine.execStripeAbort n s
  | .checkpoint n => Sys2Proof.Machine.execCheckpoint n s
  | .resume n smp reads bad => Sys2Proof.Machine.execResume n smp reads bad s
  | .patchPass n buf listUe => Sys2Proof.Machine.execPatchPass n buf listUe s
  | .flush n => Sys2Proof.Machine.execFlush n s
  | .fence n => Sys2Proof.Machine.execFence n s
  | .traceArm n => Sys2Proof.Machine.execTraceArm n s
  | .jobClose n => Sys2Proof.Machine.execJobClose n s
  | .cacheRead ctx slot block given space fault => Sys2Proof.Machine.execCacheRead ctx slot block given space fault s
  | .codecDecodeEnd ctx sram => Sys2Proof.Machine.execCodecDecodeEnd ctx sram s
  | .codecContextResume ctx given space part => Sys2Proof.Machine.execCodecContextResume ctx given space part s
  | .codecCompressDone ctx unit room ue sram => Sys2Proof.Machine.execCodecCompressDone ctx unit room ue sram s
  | .codecFlush ctx part => Sys2Proof.Machine.execCodecFlush ctx part s
  | .lanternWake => Sys2Proof.Machine.execLanternWake s
  | .tileDone pass id band col lane residue writeFails factorBad mapBad fogBad sram => Sys2Proof.Machine.execTileDone pass id band col lane residue writeFails factorBad mapBad fogBad sram s
  | .rerasterRequest pass id band col runs residue factorBad mapBad sram => Sys2Proof.Machine.execRerasterRequest pass id band col runs residue factorBad mapBad sram s
  | .prepassStart => Sys2Proof.Machine.execPrepassStart s
  | .prepassComplete lanes residueLanes residueUnits sram => Sys2Proof.Machine.execPrepassComplete lanes residueLanes residueUnits sram s
  | .fieldBandRead band badCrc badTag ues sram => Sys2Proof.Machine.execFieldBandRead band badCrc badTag ues sram s
  | .shareCycle late ns badEntry badShare badPack badWords sram fx => Sys2Proof.Machine.execShareCycle late ns badEntry badShare badPack badWords sram fx s
  | .exitCheck fx => Sys2Proof.Machine.execExitCheck fx s
  | .strayAdd o v => Sys2Proof.Machine.execStrayAdd o v s
  | .frameSend lane slack lateNs => Sys2Proof.Machine.execFrameSend lane slack lateNs s
  | .rxStatus msg copyBad slack => Sys2Proof.Machine.execRxStatus msg copyBad slack s
  | .rxStatusTimeout lane flash copyBad slack => Sys2Proof.Machine.execRxStatusTimeout lane flash copyBad slack s
  | .latch msg copyBad => Sys2Proof.Machine.execLatch msg copyBad s
  | .slotMiss msg => Sys2Proof.Machine.execSlotMiss msg s
  | .echo msg => Sys2Proof.Machine.execEcho msg s
  | .sensor msg => Sys2Proof.Machine.execSensor msg s
  | .blankerCaps msg => Sys2Proof.Machine.execBlankerCaps msg s
  | .blankerEvent msg => Sys2Proof.Machine.execBlankerEvent msg s
  | .flinkReportLate lane flash => Sys2Proof.Machine.execFlinkReportLate lane flash s
  | .reportAgainRetry lane flash => Sys2Proof.Machine.execReportAgainRetry lane flash s
  | .returnLaneLockLost q => Sys2Proof.Machine.execReturnLaneLockLost q s
  | .flinkSensorSilent n => Sys2Proof.Machine.execFlinkSensorSilent n s
  | .laneBlockLock lane order => Sys2Proof.Machine.execLaneBlockLock lane order s
  | .laneCapsDone lane => Sys2Proof.Machine.execLaneCapsDone lane s
  | .laneEyeMeasured lane w h => Sys2Proof.Machine.execLaneEyeMeasured lane w h s
  | .laneVerifyDone lane ok => Sys2Proof.Machine.execLaneVerifyDone lane ok s
  | .flinkTrainFail lane => Sys2Proof.Machine.execFlinkTrainFail lane s
  | .retrain o v => Sys2Proof.Machine.execRetrain o v s
  | .laneRetrainTurnaround lane => Sys2Proof.Machine.execLaneRetrainTurnaround lane s
  | .lpiEntry lane => Sys2Proof.Machine.execLpiEntry lane s
  | .laneEyeScan lane w h => Sys2Proof.Machine.execLaneEyeScan lane w h s
  | .flashFire smp sincePs => Sys2Proof.Machine.execFlashFire smp sincePs s
  | .flashConfirm flash => Sys2Proof.Machine.execFlashConfirm flash s
  | .droverOverspeed smp inWindow => Sys2Proof.Machine.execDroverOverspeed smp inWindow s
  | .positionLoss ch cause l => Sys2Proof.Machine.execPositionLoss ch cause l s
  | .encFreeze ch l => Sys2Proof.Machine.execEncFreeze ch l s
  | .encWordSilent ch l => Sys2Proof.Machine.execEncWordSilent ch l s
  | .encSerialWord ch bits l => Sys2Proof.Machine.execEncSerialWord ch bits l s
  | .encZEdge ch inp => Sys2Proof.Machine.execEncZEdge ch inp s
  | .detect o v => Sys2Proof.Machine.execDetect o v s
  | .detectDone modes loopNs => Sys2Proof.Machine.execDetectDone modes loopNs s
  | .stillEntry => Sys2Proof.Machine.execStillEntry s
  | .stillExit smp => Sys2Proof.Machine.execStillExit smp s
  | .rewindGuard smp => Sys2Proof.Machine.execRewindGuard smp s
  | .rewindExit smp => Sys2Proof.Machine.execRewindExit smp s
  | .deflSaturated => Sys2Proof.Machine.execDeflSaturated s
  | .sysrefEdge offBy => Sys2Proof.Machine.execSysrefEdge offBy s
  | .sysrefAbsent inWindow => Sys2Proof.Machine.execSysrefAbsent inWindow s
  | .jesdPllUnlock inWindow => Sys2Proof.Machine.execJesdPllUnlock inWindow s
  | .peerFault o v inWindow => Sys2Proof.Machine.execPeerFault o v inWindow s
  | .zoneBoundary smp => Sys2Proof.Machine.execZoneBoundary smp s
  | .deflOutputSample smp vel inWindow => Sys2Proof.Machine.execDeflOutputSample smp vel inWindow s
  | .jesdPllLock => Sys2Proof.Machine.execJesdPllLock s
  | .setpointFrame jy jx => Sys2Proof.Machine.execSetpointFrame jy jx s
  | .runupStart smp => Sys2Proof.Machine.execRunupStart smp s
  | .runoutStart => Sys2Proof.Machine.execRunoutStart s
  | .runEnd fits => Sys2Proof.Machine.execRunEnd fits s
  | .turnaroundStart => Sys2Proof.Machine.execTurnaroundStart s
  | .moveEnd => Sys2Proof.Machine.execMoveEnd s
  | .move o v => Sys2Proof.Machine.execMove o v s
  | .limitWrite o index v => Sys2Proof.Machine.execLimitWrite o index v s
  | .containSettled fx => Sys2Proof.Machine.execContainSettled fx s
  | .checkpointVerified fail => Sys2Proof.Machine.execCheckpointVerified fail s
  | .beamOff => Sys2Proof.Machine.execBeamOff s
  | .beamOffRelease => Sys2Proof.Machine.execBeamOffRelease s
  | .interlockLatchedClear o v => Sys2Proof.Machine.execInterlockLatchedClear o v s
  | .forceShade o v => Sys2Proof.Machine.execForceShade o v s
  | .deviceReset o v => Sys2Proof.Machine.execDeviceReset o v s
  | .pcieFundamentalReset => Sys2Proof.Machine.execPcieFundamentalReset s
  | .errlogHead o v => Sys2Proof.Machine.execErrlogHead o v s
  | .supplyExcursion rail uv => Sys2Proof.Machine.execSupplyExcursion rail uv s
  | .sysClockLoss => Sys2Proof.Machine.execSysClockLoss s
  | .serdesPllUnlock lanes ports => Sys2Proof.Machine.execSerdesPllUnlock lanes ports s
  | .sysWatchdog => Sys2Proof.Machine.execSysWatchdog s
  | .sysStateParity page => Sys2Proof.Machine.execSysStateParity page s
  | .hbmStackFault stack => Sys2Proof.Machine.execHbmStackFault stack s
  | .powerUp f => Sys2Proof.Machine.execPowerUp f s
  | .mainRailsLost => Sys2Proof.Machine.execMainRailsLost s
  | .powerReqDay o => Sys2Proof.Machine.execPowerReqDay o s
  | .powerReqDusk o => Sys2Proof.Machine.execPowerReqDusk o s
  | .powerReqNight o => Sys2Proof.Machine.execPowerReqNight o s
  | .duskEntry => Sys2Proof.Machine.execDuskEntry s
  | .duskWake cause us => Sys2Proof.Machine.execDuskWake cause us s
  | .nightEntry => Sys2Proof.Machine.execNightEntry s
  | .clockRequest page ns => Sys2Proof.Machine.execClockRequest page ns s
  | .clkIdleTimeout page => Sys2Proof.Machine.execClkIdleTimeout page s
  | .thermSample raw => Sys2Proof.Machine.execThermSample raw s
  | .thermLevelRise cls level => Sys2Proof.Machine.execThermLevelRise cls level s
  | .thermLevelFall cls level => Sys2Proof.Machine.execThermLevelFall cls level s
  | .thermSensorFailed n => Sys2Proof.Machine.execThermSensorFailed n s
  | .thermSensorRecovered n => Sys2Proof.Machine.execThermSensorRecovered n s
  | .thermAck o v => Sys2Proof.Machine.execThermAck o v s
  | .vbatLow => Sys2Proof.Machine.execVbatLow s
  | .avsbusTransferEnd ok => Sys2Proof.Machine.execAvsbusTransferEnd ok s
  | .refreshDue stack bank traffic => Sys2Proof.Machine.execRefreshDue stack bank traffic s
  | .nbrRefreshDue stack bank row => Sys2Proof.Machine.execNbrRefreshDue stack bank row s
  | .selfRefreshExit stack => Sys2Proof.Machine.execSelfRefreshExit stack s
  | .patrolScrub da ce ue recovered => Sys2Proof.Machine.execPatrolScrub da ce ue recovered s
  | .retire o v => Sys2Proof.Machine.execRetire o v s
  | .migrationSegment mismatches readUe => Sys2Proof.Machine.execMigrationSegment mismatches readUe s
  | .fill o v => Sys2Proof.Machine.execFill o v s
  | .fillDone bad => Sys2Proof.Machine.execFillDone bad s
  | .fenceMoveDone => Sys2Proof.Machine.execFenceMoveDone s
  | .bellVote found stuck => Sys2Proof.Machine.execBellVote found stuck s
  | .crcInit o e => Sys2Proof.Machine.execCrcInit o e s
  | .crcStart o e => Sys2Proof.Machine.execCrcStart o e s
  | .crcCheck o e => Sys2Proof.Machine.execCrcCheck o e s
  | .crcAbort o e => Sys2Proof.Machine.execCrcAbort o e s
  | .crcData o e v => Sys2Proof.Machine.execCrcData o e v s
  | .crcJobDone e data ue => Sys2Proof.Machine.execCrcJobDone e data ue s
  | .keepWrite o fails => Sys2Proof.Machine.execKeepWrite o fails s
  | .keepRead o => Sys2Proof.Machine.execKeepRead o s
  | .keepDailyCheck bad => Sys2Proof.Machine.execKeepDailyCheck bad s
  | .plannerHour pathMin eyes resid => Sys2Proof.Machine.execPlannerHour pathMin eyes resid s
  | .trendEntry tjAvg => Sys2Proof.Machine.execTrendEntry tjAvg s
  | .rebase o v => Sys2Proof.Machine.execRebase o v s
  | .regWrite page off v => Sys2Proof.Machine.execRegWrite page off v s
  | .regRead page off => Sys2Proof.Machine.execRegRead page off s
  | .attest nonce => Sys2Proof.Machine.execAttest nonce s
  | .certRead => Sys2Proof.Machine.execCertRead s
  | .fwStage off chunk => Sys2Proof.Machine.execFwStage off chunk s
  | .fwCommit => Sys2Proof.Machine.execFwCommit s
  | .fwSelect slot => Sys2Proof.Machine.execFwSelect slot s
  | .rollbackSet v => Sys2Proof.Machine.execRollbackSet v s
  | .debugChallenge => Sys2Proof.Machine.execDebugChallenge s
  | .debugUnlock sig => Sys2Proof.Machine.execDebugUnlock sig s
  | .ownerSet key sig => Sys2Proof.Machine.execOwnerSet key sig s
  | .keysvcSet key => Sys2Proof.Machine.execKeysvcSet key s
  | .serviceKeySet key => Sys2Proof.Machine.execServiceKeySet key s
  | .tamperClear => Sys2Proof.Machine.execTamperClear s
  | .extestWhileLocked => Sys2Proof.Machine.execExtestWhileLocked s
  | .tamperInput n => Sys2Proof.Machine.execTamperInput n s
  | .auditSign => Sys2Proof.Machine.execAuditSign s
  | .exportCmd o v => Sys2Proof.Machine.execExportCmd o v s
  | .auditExportReady => Sys2Proof.Machine.execAuditExportReady s
  | .exportAck o v => Sys2Proof.Machine.execExportAck o v s
  | .auditSignatureDone => Sys2Proof.Machine.execAuditSignatureDone s
  | .step o v => Sys2Proof.Machine.execStep o v s
  | .secondsRollover => Sys2Proof.Machine.execSecondsRollover s
  | .ptpSync offset delay errNs gm => Sys2Proof.Machine.execPtpSync offset delay errNs gm s
  | .timeGmLost => Sys2Proof.Machine.execTimeGmLost s
  | .hello port pkt => Sys2Proof.Machine.execHello port pkt s
  | .level port pkt => Sys2Proof.Machine.execLevel port pkt s
  | .ivdonWake port pkt => Sys2Proof.Machine.execIvdonWake port pkt s
  | .ready port pkt => Sys2Proof.Machine.execReady port pkt s
  | .epoch port pkt => Sys2Proof.Machine.execEpoch port pkt s
  | .contain port pkt => Sys2Proof.Machine.execContain port pkt s
  | .alive port pkt => Sys2Proof.Machine.execAlive port pkt s
  | .mgmt port pkt => Sys2Proof.Machine.execMgmt port pkt s
  | .groupReady => Sys2Proof.Machine.execGroupReady s
  | .ivdonGroupLost member => Sys2Proof.Machine.execIvdonGroupLost member s
  | .ivdonPortDown port => Sys2Proof.Machine.execIvdonPortDown port s
  | .ivdonPortTrained port rate result nb nbPort => Sys2Proof.Machine.execIvdonPortTrained port rate result nb nbPort s
  | .ivdonPortRetry port => Sys2Proof.Machine.execIvdonPortRetry port s
  | .ivdonLevelRise => Sys2Proof.Machine.execIvdonLevelRise s
  | .ivdonRetrain o v => Sys2Proof.Machine.execIvdonRetrain o v s
  | .gpioEvent pin rising => Sys2Proof.Machine.execGpioEvent pin rising s
  | .i3cStatus => Sys2Proof.Machine.execI3cStatus s
  | .i3cHottest => Sys2Proof.Machine.execI3cHottest s
  | .i3cWake v => Sys2Proof.Machine.execI3cWake v s
  | .i3cSupply => Sys2Proof.Machine.execI3cSupply s
  | .ctrlEnable o page v => Sys2Proof.Machine.execCtrlEnable o page v s
  | .ctrlDisable o page v => Sys2Proof.Machine.execCtrlDisable o page v s
  | .softReset o page v => Sys2Proof.Machine.execSoftReset o page v s
  | .errClear o page v => Sys2Proof.Machine.execErrClear o page v s
  | .irqPendClear o page v => Sys2Proof.Machine.execIrqPendClear o page v s
  | .lock o page v => Sys2Proof.Machine.execLock o page v s
  | .registerWrite o addr v bytes => Sys2Proof.Machine.execRegisterWrite o addr v bytes s

end Sys2Proof.Machine
end

