-- ==== Sys2Proof/Machine/Step.lean ====
section
/-! DEFINITION. One step of the block: the command at the front of the queue, or, with none waiting, a tick of its
clock. -/

namespace Sys2Proof.Machine

/-- A machine with a command at the front of its queue, where a word spells one; none does (log entry 8). -/
def State.withFetchWord (s : State) (nbits w : Nat) : State :=
  match decodeTableWord nbits w with
  | none => s
  | some i => { s with pending := i :: s.pending }

/-- The front command's effect, or the tick of an empty queue (log entry 28). -/
def step (s : State) : Host.Outcome State Fault Refusal :=
  match s.pending with
  | [] => .next s.tick
  | c :: cs => exec c { s with pending := cs }

end Sys2Proof.Machine
end

