-- ==== Sys2Proof/Safety.lean ====
section
/-! DEFINITION. What the statements say of a state: the invariant that every step keeps, and what a command leaves unchanged. -/

namespace Sys2Proof.Machine

/-- The commands taken into execution are numbered upwards in the order of the list, below the next number to be given (R421,
R422). -/
def numbered (cmds : List Cmd) (next : Nat) : Prop := (cmds.map (·.n) ++ [next]).Pairwise (· < ·)

/-- The stripes and passes that hold resources are numbered upwards in the order in which they came, none above the last number given
(R435). -/
def ordered (stripes : List Stripe) (last : Nat) : Prop := (stripes.map (·.ord) ++ [last + 1]).Pairwise (· < ·)

/-- The register file, the values in force and the bell words are in canonical form, so that states that read alike are equal
data; the rails shown are those of R650; the commands in execution stand in the order in which they started (R421), the stripes
in the order in which they were armed (R435); and the error log and the audit pool hold no more than their room (R459, R581). -/
structure State.Inv (s : State) : Prop where
  regs : kwf regReset s.regs = true
  force : kwf regReset s.force = true
  bells : kwf bellFactory s.bells = true
  rails : s.rails ≤ 127
  cmds : numbered s.host.cmds s.host.nextCmd
  stripes : ordered s.stripes s.stripeOrd
  log : s.log.recs.length ≤ 16384
  pool : s.audit.pool.length ≤ 32768

/-- Every register but those of a list reads as before. -/
def State.regsBut (s t : State) (l : List RegAddr) : Prop := ∀ a, a ∉ l → t.rd a = s.rd a

/-- The registers of a page's header that a record or an interrupt of the page can change, and those of the error log (R459, R461,
R620). -/
def recordRegs (p : Nat) : List RegAddr :=
  [p * 0x1000 + 0x10, p * 0x1000 + 0x18, p * 0x1000 + 0x1C, p * 0x1000 + 0x20, R.SYS_ERRLOG_TAIL, R.SYS_ERRLOG_FREE, R.SYS_ERRLOG_SEQ_L,
   R.SYS_ERRLOG_SEQ_H, R.SYS_COALESCED, 0x10, 0x18, 0x1C, 0x20]

/-- The registers by which TALLY shows the stripe whose rows are checked (R202, R205). -/
def checkRegs : List RegAddr :=
  [R.TALLY_CNT_A, R.TALLY_CNT_B, R.TALLY_CNT_C, R.TALLY_CHECK_STRIPE, R.TALLY_EXIT_ROW, R.TALLY_DEFICIT_COUNT, R.TALLY_DEFICIT_BASE]

/-- A mailbox request is served: powered, the firmware runs, nothing fatal stands, and the audit pool has room (R485, R561, R569,
R582). -/
def State.mbServed (s : State) : Prop :=
  s.power ≠ .night ∧ s.booted = true ∧ s.fatal = 0 ∧ s.fold.fwRuns = true ∧ s.auditFull = false

/-- The newest record of the error log (R460): its code, its class and where it lies. -/
def State.newest (t : State) (code cls lk l0 l1 l2 : Nat) : Prop :=
  ∃ r, t.log.recs.head? = some r ∧ r.code = code ∧ r.cls = cls ∧ r.locKind = lk ∧ r.loc0 = l0 % 2 ^ 32 ∧ r.loc1 = l1 % 2 ^ 32 ∧
    r.loc2 = l2 % 2 ^ 32

/-- A command has ended with a status and its results: its completion entry has left the block since state s, or stands written up
until its turn and room in its queue (R419, R422, R423). -/
def State.ended (s t : State) (c : Cmd) (status r0 r1 r2 r3 : Nat) : Prop :=
  (∃ x, t.cmd? c.n = some x ∧ x.sq = c.sq ∧ x.cid = c.cid ∧ x.done = some (status, r0, r1, r2, r3)) ∨
  ∃ x slot head phase l, x.sq = c.sq ∧ x.cid = c.cid ∧ t.out = l ++ s.out ∧
    Out.completion c.sq slot (complWords x (status, r0, r1, r2, r3) head phase) ∈ l

/-- Stripe x stands contained at a held flash by a cause (R470): Drover is HELD, the beams are shaded, the checkpoint is at its first
stage. -/
def State.containedBy (t : State) (x : Stripe) (code : Nat) (h : Int) : Prop :=
  (∃ y ∈ t.stripes, y.ord = x.ord ∧ y.st = .contained ∧ y.held = h ∧ y.cause = code ∧ y.ckpt = 1) ∧ t.drover.st = 5 ∧
  t.flink.shaded = true ∧ t.fld R.SYS_CKPT_STATE 3 0 = 1

/-- A device-fatal event has ended the run (R484): FATAL holds its code, the beams are shaded, Drover is HELD, the job keys and the
device key are gone, and no command is outstanding without its status. -/
def State.deadBy (t : State) (code : Nat) : Prop :=
  t.fatal = code ∧ t.rd R.SYS_FATAL = code ∧ t.flink.shaded = true ∧ t.drover.st = 5 ∧ t.job0.key = none ∧ t.job1.key = none ∧
  t.fold.deviceKey = 0 ∧ t.shadeOut = true ∧ t.fld R.DROVER_STANDSTILL 1 1 = 1 ∧ ∀ c ∈ t.host.cmds, c.done ≠ none

/-- From s to t nothing has been sent but the in-band interrupt to the board controller, where STATUS has changed (R659). -/
def State.tells (s t : State) : Prop :=
  t.out = if t.i3cByte = s.i3cByte then s.out else .i3cIrq (BitVec.ofNat 8 t.i3cByte) :: s.out

/-- A mailbox request has ended well (R561): t is u with DONE, code 0 and the response, and vector 0 of PF1 signalled. -/
def State.answered (u t : State) (payload : List Byte) : Prop :=
  t = { u with fold := { u.fold with mbStatus := 2, mbResponse := payload }, out := .ownerMsix 0 :: .mailbox 0 payload :: u.out }

/-- A mailbox request of state u has failed in state t (R561, R463): DONE with its code, an empty response, and a record of CLASS 7. -/
def State.refusedMb (u t : State) (code : Nat) : Prop :=
  t.newest code 7 0 0 0 0 ∧ t.fold.mbStatus = code * 2 ^ 16 + 2 ∧ t.fold.mbResponse = [] ∧
  ∃ l, t.out = .ownerMsix 0 :: .mailbox code [] :: (l ++ u.out)

/-- The newest audit record: its kind and what it carries (R577). -/
def State.audited (t : State) (kind : Nat) (detail : List Nat) : Prop :=
  ∃ r, t.audit.pool.head? = some (.record r) ∧ r.kind = kind ∧ r.detail = detail

end Sys2Proof.Machine
end

