-- ==== Sys2Proof/Certificates/Slice0/Obligations.lean ====
section
/-! DEFINITION. The statements for the provers. -/

open Sys2Proof Sys2Proof.Machine

/-! ### The queue and the machine as a whole -/

/-- A step runs the command at the front of the queue on the state with the queue's rest. -/
def Obligations.StepTakesFront : Prop :=
  ∀ (c : Instr) (s : State), step { s with pending := c :: s.pending } = exec c s

/-- With no command waiting a step is one tick of the clock and changes nothing but it: the model's choice, log entry 28. In Day the
fraction of a second grows by the clock's increment; at a whole second it starts again and SEC rises by one (R588). -/
def Obligations.IdleStepTicks : Prop :=
  ∀ s : State, s.pending = [] → s.power = .day → s.booted = true →
    ∃ t, step s = .next t ∧ t = { s with clock := t.clock, out := t.out } ∧
      (s.clock.frac + s.clockInc < 1000000000 * 2 ^ 32 →
        t.clock.sec = s.clock.sec ∧ t.clock.frac = s.clock.frac + s.clockInc ∧ t.out = s.out) ∧
      (1000000000 * 2 ^ 32 ≤ s.clock.frac + s.clockInc →
        t.clock.sec = (s.clock.sec + 1) % 2 ^ 48 ∧ t.clock.frac = s.clock.frac + s.clockInc - 1000000000 * 2 ^ 32)

/-- A command takes nothing from the queue and puts nothing into it, and every command answers a next state. What has left the block is
never taken back: the account of it only grows (log entry 6). -/
def Obligations.QueueAndAccountInOrder : Prop :=
  (∀ s : State, ∃ t, step s = .next t ∧ t.pending = s.pending.tail) ∧
  (∀ s t : State, s.Inv → step s = .next t → s.out <:+ t.out)

/-- Every step keeps the invariant: registers, values in force and bell words canonical, the commands in execution in the order in
which they started, the error log and the audit pool within their room (R421, R459, R581). -/
def Obligations.EveryStepKeepsInv : Prop :=
  ∀ s t : State, s.Inv → step s = .next t → t.Inv

/-- The invariant holds at reset. -/
def Obligations.ResetHasInv : Prop := State.reset.Inv

/-- Right after reset every register reads as its Reset column (R618, R622), no job slot, stripe, lane or command is held, and no
command waits. -/
def Obligations.ResetState : Prop :=
  (∀ a, State.reset.rd a = (regReset a).toNat) ∧ State.reset.job0.status = 0 ∧ State.reset.job1.status = 0 ∧ State.reset.stripes = [] ∧
  State.reset.frames = [] ∧ State.reset.host.cmds = [] ∧ (∀ q, (State.reset.queue q).en = false) ∧ (∀ l, (State.reset.lane l).up = false) ∧
  State.reset.log.recs = [] ∧ State.reset.log.nextSeq = 1 ∧ State.reset.fatal = 0 ∧ State.reset.booted = false ∧ State.reset.pending = []

/-- The power state, the firmware's running and the power-up itself change only by the commands named: power events, resets and the writes
that can be a reset (R485, R499 to R505). The pin levels, the beam-off input and the last checkpoint's place change only by their own
events, whatever runs. The pixel field, its check values and the maps of density and factors change only as Lantern and Penumbra write
them, or as a reset or the loss of the rails takes them. -/
def Obligations.OnlyTheirCommandsChange : Prop :=
  (∀ (c : Instr) (s t : State), exec c s = .next t →
    match c with
    | .powerUp _ | .mainRailsLost | .supplyExcursion _ _ | .deviceReset _ _ | .pcieFundamentalReset | .regWrite _ _ _
    | .registerWrite _ _ _ _ => True
    | .duskEntry | .duskWake _ _ | .nightEntry => t.booted = s.booted ∧ t.rails = s.rails
    | _ => t.power = s.power ∧ t.booted = s.booted ∧ t.nightReady = s.nightReady ∧ t.rails = s.rails) ∧
  (∀ (c : Instr) (s t : State), exec c s = .next t →
    match c with
    | .beamOff | .beamOffRelease => t.gpioHigh = s.gpioHigh ∧ t.lastCkpt = s.lastCkpt
    | .gpioEvent _ _ => t.beamOff = s.beamOff ∧ t.lastCkpt = s.lastCkpt
    | .checkpointVerified _ => t.beamOff = s.beamOff ∧ t.gpioHigh = s.gpioHigh
    | _ => t.beamOff = s.beamOff ∧ t.gpioHigh = s.gpioHigh ∧ t.lastCkpt = s.lastCkpt) ∧
  (∀ (c : Instr) (s t : State), exec c s = .next t →
    match c with
    | .mainRailsLost | .supplyExcursion _ _ | .deviceReset _ _ | .pcieFundamentalReset | .regWrite _ _ _ | .registerWrite _ _ _ _ => True
    | .tileDone _ _ _ _ _ _ _ factorBad _ _ _ => factorBad = false → t.density = s.density ∧ t.factor = s.factor
    | .rerasterRequest _ _ _ _ _ _ factorBad _ _ => factorBad = false → t.density = s.density ∧ t.factor = s.factor
    | .prepassComplete .. => t.field = s.field ∧ t.tileCrcs = s.tileCrcs
    | _ => t.field = s.field ∧ t.tileCrcs = s.tileCrcs ∧ t.density = s.density ∧ t.factor = s.factor)

/-! ### Registers -/

/-- An admitted write of a plain register: its writable bits take the value by their access codes, read-only and reserved bits stay
(R11, R12); a change of a lockable register is committed as one audit record before it (R576); every other register but those
that show the audit log stays, and so does all other state. -/
def Obligations.PlainRegisterWrite : Prop :=
  ∀ (o : Origin) (a v : Nat) (s : State), a % 4 = 0 → pageOf a ≤ 28 → 0x100 ≤ offOf a → engineOf a = none → groupOf a = none → v < 2 ^ 32 →
    s.ownWrite o a v = none → s.permit o a v = .ok s → s.echoAbsent a (newValue a (s.rd a) v) = false →
    s.outOfRange a (newValue a (s.rd a) v) = false → s.auditFull = false →
    ∃ t, exec (.registerWrite o a v 0xF) s = .next t ∧
      t = { s with regs := t.regs, audit := t.audit, bells := t.bells, trace := t.trace } ∧
      t.rd a = newValue a (s.rd a) v ∧
      s.regsBut t [a, pageOf a * 0x1000 + 0x2C, R.AUDIT_HEAD_L, R.AUDIT_HEAD_L + 4, R.AUDIT_FREE] ∧
      (lockable a = true → newValue a (s.rd a) v ≠ s.rd a →
        ∃ r, t.audit.pool.head? = some (.record r) ∧ r.kind = 1 ∧ r.addr = a ∧ r.old = s.rd a ∧ r.new = newValue a (s.rd a) v ∧
          r.origin = o.code ∧ r.seq = s.audit.nextSeq) ∧
      (newValue a (s.rd a) v = s.rd a → t.audit = s.audit)

/-- A write of a register with no writable field, of a page that does not exist, without power, before power-up or after a device-fatal
event is discarded and leaves no trace (R11, R485, R612). A write that the origin's role may not make is discarded: the register stays,
and the newest record is FOLD_ROLE of CLASS 7 with LOC_KIND 6, naming page, offset and value (R559). -/
def Obligations.BarredWritesDiscarded : Prop :=
  (∀ (o : Origin) (a v : Nat) (s : State), a % 4 = 0 → v < 2 ^ 32 → engineOf a = none → a ≠ R.SYS_DEVICE_RESET →
    (pageOf a > 28 ∨ (offOf a ≥ 0x100 ∧ writable a = false ∧ s.ownWrite o a v = none) ∨
      ((s.power = .night ∨ s.booted = false ∨ s.fatal ≠ 0) ∧ s.ownWrite o a v = none ∧ offOf a ≥ 0x100)) →
    exec (.registerWrite o a v 0xF) s = .next s) ∧
  (∀ (o : Origin) (a v : Nat) (s : State), a % 4 = 0 → pageOf a ≤ 28 → 0x100 ≤ offOf a → engineOf a = none → v < 2 ^ 32 →
    s.ownWrite o a v = none → s.power ≠ .night → s.booted = true → s.fatal = 0 → s.fold.fwRuns = true → writable a = true →
    roleOkValue o a v = false → 256 < s.logFree →
    ∃ t, exec (.registerWrite o a v 0xF) s = .next t ∧ t.rd a = s.rd a ∧ s.regsBut t (recordRegs 4) ∧
      t.newest Code.FOLD_ROLE 7 6 (pageOf a) (offOf a) v ∧
      t = { s with regs := t.regs, log := t.log, host := t.host, trace := t.trace, out := t.out })

/-- The requests REG_READ and REG_WRITE of the mailbox, served: a read answers the register's four bytes and changes nothing but the
captures of R13, the mailbox and the model's count of open values; a write acts as the Owner's write does, and then the request ends with
code 0 (R561, R562, R612, R614). The Fold answers a served request (R561): an attestation report with its signature (R564), the
certificate (R563); an image is staged into the slot that does not run, committed when it is signed and no older than the rollback floor,
else refused and its slot empty, and selected for the next power-up (R568 to R570); the rollback floor rises up to the running image's SVN
(R571); the keys of the Owner are set, the Owner's own only under its present key (R562). -/
def Obligations.MailboxAnswers : Prop :=
  (∀ (page off v : Nat) (s : State), s.mbServed → page ≤ 28 → off < 0x1000 → off % 4 = 0 →
    (∃ t, exec (.regRead page off) s = .next t ∧
      t = { s with captured := t.captured, fold := { s.fold with mbStatus := 2, mbResponse := leBytes 4 (s.readReg .owner (page * 0x1000 + off)).1 },
                   free := s.free + 1,
                   out := .ownerMsix 0 :: .mailbox 0 (leBytes 4 (s.readReg .owner (page * 0x1000 + off)).1) :: s.out }) ∧
    (∃ t u, exec (.registerWrite .owner (page * 0x1000 + off) (v % 2 ^ 32) 0xF) s = .next u ∧ exec (.regWrite page off v) s = .next t ∧
      t = { u with fold := { u.fold with mbStatus := 2, mbResponse := [] }, out := .ownerMsix 0 :: .mailbox 0 [] :: u.out })) ∧
  (∀ s : State, s.mbServed →
    (∀ nonce : List Byte, nonce.length = 32 →
      ∃ t, exec (.attest nonce) s = .next t ∧ s.answered t (s.report nonce ++ beBytes 96 (Config.ecdsaSign (s.report nonce)))) ∧
    (∃ t, exec .certRead s = .next t ∧ s.answered t Config.certificate) ∧
    (∀ (off : Nat) (chunk : List Byte), chunk ≠ [] → off + chunk.length ≤ 0x400000 →
      ∃ t, exec (.fwStage off chunk) s = .next t ∧ { s with fold := { s.fold with slots := t.fold.slots } }.answered t [] ∧
        t.fwSlot s.idleSlot = { s.fwSlot s.idleSlot with bytes := putBytes (s.fwSlot s.idleSlot).bytes off chunk, committed := false } ∧
        ∀ i, i ≠ s.idleSlot → t.fwSlot i = s.fwSlot i) ∧
    (∀ b, b = (s.fwSlot s.idleSlot).bytes →
      ∃ t, exec .fwCommit s = .next t ∧
        (imageSigned b = true → s.bell 2 ≤ leAt b 8 4 →
          t = { s with regs := t.regs, audit := t.audit, bells := t.bells, fold := { s.fold with slots := t.fold.slots, mbStatus := 2, mbResponse := [] },
                       out := .ownerMsix 0 :: .mailbox 0 [] :: s.out } ∧
          t.fwSlot s.idleSlot = { bytes := b, svn := leAt b 8 4, levels := leAt b 0xC 4, hash := beNat ((b.drop 0x18).take 48), committed := true } ∧
          (∀ i, i ≠ s.idleSlot → t.fwSlot i = s.fwSlot i) ∧ ∃ d, t.audited 0x20 (s.idleSlot :: leAt b 8 4 :: d)) ∧
        (imageSigned b = false → 256 < s.logFree → s.refusedMb t Code.FOLD_FW_SIGNATURE ∧ t.fwSlot s.idleSlot = {} ∧ t.audit = s.audit) ∧
        (imageSigned b = true → leAt b 8 4 < s.bell 2 → 256 < s.logFree →
          s.refusedMb t Code.FOLD_FW_ROLLBACK ∧ t.fwSlot s.idleSlot = {} ∧ t.audit = s.audit)) ∧
    (∀ slot, slot ≤ 1 → slot = s.fold.running ∨ (s.fwSlot slot).committed = true →
      ∃ t, exec (.fwSelect slot) s = .next t ∧
        t = { s with regs := t.regs, audit := t.audit, bells := t.bells, fold := { s.fold with next := slot, mbStatus := 2, mbResponse := [] },
                     out := .ownerMsix 0 :: .mailbox 0 [] :: s.out } ∧ ∃ d, t.audited 0x20 (slot :: (s.fwSlot slot).svn :: d)) ∧
    (∀ v, s.bell 2 < v → v < 2 ^ 32 → v ≤ (s.fwSlot s.fold.running).svn →
      ((List.range 3).filter (s.bellStuck 2)).length < 2 → s.bellStuck 2 2 = false →
      ∃ t, exec (.rollbackSet v) s = .next t ∧ t.bell 2 = v ∧ t.fold = { s.fold with mbStatus := 2, mbResponse := [] } ∧ t.log = s.log ∧
        t.audited 0x40 [0]) ∧
    (∀ v, (s.fwSlot s.fold.running).svn < v → 256 < s.logFree →
      ∃ t, exec (.rollbackSet v) s = .next t ∧ s.refusedMb t Code.FOLD_FW_ROLLBACK ∧ t.bells = s.bells) ∧
    (s.fold.ownerKey = none → ∀ key sig, ∃ t, exec (.ownerSet key sig) s = .next t ∧
      { s with fold := { s.fold with ownerKey := some key } }.answered t []) ∧
    (∀ k, s.fold.ownerKey = some k → ∀ key sig, ∃ t, exec (.ownerSet key sig) s = .next t ∧
      (Config.ecdsaVerify k (leBytes 96 key) sig = true → { s with fold := { s.fold with ownerKey := some key } }.answered t []) ∧
      (Config.ecdsaVerify k (leBytes 96 key) sig = false → 256 < s.logFree → s.refusedMb t Code.FOLD_DEBUG_SIGNATURE ∧ t.fold.ownerKey = some k)) ∧
    (∀ key, ∃ t, exec (.keysvcSet key) s = .next t ∧ { s with fold := { s.fold with keysvcKey := some key } }.answered t []) ∧
    ∀ key, ∃ t, exec (.serviceKeySet key) s = .next t ∧ { s with fold := { s.fold with serviceKey := some key } }.answered t [])

/-- A read has no effect other than the capture of R13: no status, no counter and no interrupt changes (R614). -/
def Obligations.ReadsHaveNoEffect : Prop :=
  ∀ (o : Origin) (a : Nat) (s : State), (s.readReg o a).2 = { s with captured := (s.readReg o a).2.captured } ∧
    (groupOf a = none → (s.readReg o a).2 = s)

/-! ### Host interface -/

/-- The doorbells of an enabled pair in Day: the SQ tail makes its new commands visible, the CQ head and the event ring's head let out
every entry that was held back and now fits (R416, R417, R419, R421, R426). A doorbell with a value not below the size, or of a pair that
is not enabled, is refused with HOST_DOORBELL_RANGE, naming the page 7, the pair, the offset and the value; no queue changes (R416, R456).
CQ_COALESCE_TIMEOUT: the pair's own vector is signalled for the entries written since its last signal (R425). -/
def Obligations.DoorbellsAct : Prop :=
  (∀ (q v : Nat) (s : State), s.power = .day → s.phase = 0 → s.booted = true → s.fatal = 0 → q ≤ 63 →
    ((s.queue q).en = true → v < (s.queue q).size →
      (∃ t, exec (.sqTailDoorbell q v) s = .next t ∧ t = { s with host := t.host } ∧ t.queue q = { s.queue q with tail := v } ∧
        (∀ p, p ≠ q → t.queue p = s.queue p) ∧ t.host.cmds = s.host.cmds ∧
        t.host.visible = s.host.visible ++
          List.replicate ((v + (s.queue q).size - (s.queue q).tail % (s.queue q).size) % (s.queue q).size) (q, false)) ∧
      (∃ t, exec (.cqHeadDoorbell q v) s = .next t ∧ t = { s with host := t.host, out := t.out } ∧ (t.queue q).cqHead = v ∧
        t.host.visible = s.host.visible ∧ ∀ c ∈ t.host.cmds, (t.queue c.sq).full = true ∨ t.nextDone c.sq = none)) ∧
    (v < s.evqSize →
      ∃ t, exec (.evqHeadDoorbell v) s = .next t ∧ t = { s with host := t.host, out := t.out } ∧ t.host.evqHead = v ∧
        t.host.cmds = s.host.cmds ∧ (t.host.backlog = [] ∨ t.evqRoom = false))) ∧
  (∀ (q v : Nat) (s : State), s.power = .day → s.phase = 0 → s.booted = true → s.fatal = 0 → q ≤ 63 → v < 2 ^ 32 → 256 < s.logFree →
    ((s.queue q).en = false ∨ (s.queue q).size ≤ v →
      (∃ t, exec (.sqTailDoorbell q v) s = .next t ∧ t.newest Code.HOST_DOORBELL_RANGE 7 6 7 (q * 2 ^ 16) v ∧
        t = { s with regs := t.regs, log := t.log, trace := t.trace, out := t.out }) ∧
      (∃ t, exec (.cqHeadDoorbell q v) s = .next t ∧ t.newest Code.HOST_DOORBELL_RANGE 7 6 7 (q * 2 ^ 16 + 4) v ∧
        t = { s with regs := t.regs, log := t.log, trace := t.trace, out := t.out })) ∧
    (s.evqSize ≤ v →
      ∃ t, exec (.evqHeadDoorbell v) s = .next t ∧ t.newest Code.HOST_DOORBELL_RANGE 7 6 7 (0x40 * 2 ^ 16) v ∧
        t = { s with regs := t.regs, log := t.log, trace := t.trace, out := t.out })) ∧
  (∀ (q : Nat) (s : State), q ≤ 63 → (s.queue q).unsignalled ≠ 0 →
    ∃ t, exec (.cqCoalesceTimeout q) s = .next t ∧ t = { s with host := t.host, out := .msix (fieldOf (s.queue q).ctrl.toNat 21 16) :: s.out } ∧
      t.queue q = { s.queue q with unsignalled := 0 } ∧ ∀ p, p ≠ q → t.queue p = s.queue p)

/-- The start of a command: the pair whose visible command comes first gives up the entry at its SQ head, and a well-formed entry is
taken into execution behind those before it, its time to start kept if it is the longest (R418, R420, R421); an undefined opcode or a
field against R418 ends it with its code. A start past R420's limit is recorded, and the command is taken all the same. -/
def Obligations.CommandStarts : Prop :=
  ∀ (q ns : Nat) (woken : Bool) (entry : List Nat) (s : State), s.Inv → s.nextSq = some (q, woken) → entry.length = 16 → s.fatal = 0 →
    let c := cmdOf s.host.nextCmd q (((s.queue q).sqHead + 1) % (s.queue q).size) entry
    (∀ u, fieldUse c.opcode = some u → c.formOk u entry = true →
      ∃ t x, exec (.commandStart q entry ns) s = .next t ∧ t.host.cmds = s.host.cmds ++ [x] ∧
        x = { c with waited := x.waited, errFirst := x.errFirst, errCount := if ns ≤ startLimit woken ∨ s.logFree ≤ 256 then x.errCount else 1 } ∧
        t.host.nextCmd = s.host.nextCmd + 1 ∧ t.host.visible = s.host.visible.erase (q, woken) ∧
        (t.queue q).sqHead = ((s.queue q).sqHead + 1) % (s.queue q).size ∧
        (ns ≤ startLimit woken →
          x.errCount = 0 ∧ t = { s with regs := t.regs, host := t.host } ∧ s.regsBut t [R.HOST_ACCEPT_MAX] ∧
          (ns < 65536 → t.fld R.HOST_ACCEPT_MAX 15 0 = max (s.fld R.HOST_ACCEPT_MAX 15 0) ns)) ∧
        (startLimit woken < ns → 256 < s.logFree →
          t = { s with regs := t.regs, log := t.log, host := t.host, trace := t.trace, out := t.out } ∧
          t.newest Code.HOST_ACCEPT_LATE 0 0 0 0 0)) ∧
    (fieldUse c.opcode = none →
      ∃ t, exec (.commandStart q entry ns) s = .next t ∧ s.ended t c Code.HOST_OPCODE 0 0 0 0 ∧
        t.host.visible = s.host.visible.erase (q, woken)) ∧
    (∀ u, fieldUse c.opcode = some u → c.formOk u entry = false →
      ∃ t, exec (.commandStart q entry ns) s = .next t ∧ s.ended t c Code.HOST_ENTRY_FORM 0 0 0 0 ∧
        t.host.visible = s.host.visible.erase (q, woken))

/-- JOB_OPEN takes the lower free slot, whose flatness tolerance is LANTERN.FLAT_TOL, and ends with that slot; with no slot free, the
JOB_ID held or the tolerance out of range it ends with the code, and no slot changes (R118, R430; the order of the first two is
log entry 30). -/
def Obligations.JobOpens : Prop :=
  ∀ (n : Nat) (c : Cmd) (s : State), s.Inv → s.begun n 0x01 = some c →
    (∃ t, exec (.jobOpen n) s = .next t ∧
      t = { s with regs := t.regs, log := t.log, host := t.host, job0 := t.job0, job1 := t.job1, jobOrd := t.jobOrd, trace := t.trace, out := t.out } ∧
      if s.job0.status ≠ 0 ∧ s.job1.status ≠ 0 then
        s.ended t c Code.HOST_SLOTS_FULL 0 0 0 0 ∧ t.job0 = s.job0 ∧ t.job1 = s.job1
      else if s.slotOf c.jobId ≠ none then
        s.ended t c Code.HOST_JOB_ID_IN_USE 0 0 0 0 ∧ t.job0 = s.job0 ∧ t.job1 = s.job1
      else if s.rd R.LANTERN_FLAT_TOL < 1 ∨ 64 < s.rd R.LANTERN_FLAT_TOL then
        s.ended t c Code.LANTERN_TOL_RANGE 0 0 0 0 ∧ t.job0 = s.job0 ∧ t.job1 = s.job1
      else
        t = { s with host := t.host, job0 := t.job0, job1 := t.job1, jobOrd := s.jobOrd + 1, out := t.out } ∧
        if s.job0.status = 0 then
          s.ended t c 0 0 0 0 0 ∧ t.job1 = s.job1 ∧
          t.job0 = { status := 1, jobId := c.jobId, openOrd := s.jobOrd + 1, flatTol := s.rd R.LANTERN_FLAT_TOL }
        else
          s.ended t c 0 1 0 0 0 ∧ t.job0 = s.job0 ∧
          t.job1 = { status := 1, jobId := c.jobId, openOrd := s.jobOrd + 1, flatTol := s.rd R.LANTERN_FLAT_TOL })

/-- KEY_LOAD: the steps of R566 decide. A wrapped key that passes them is the job's, the audit log has the record of its loading, and the
command ends well; a failed step fails the job with its code (R431, R566, R576). TABLE_LOAD of a Penumbra table whose form is right, into
a job whose tables are not yet locked: the slot's table is replaced, the loading is audited, and the command ends with the table's CRC;
with the tables locked it ends PENUMBRA_TABLE_LOCKED (R162, R163, R433, R576). -/
def Obligations.JobsTakeKeysAndTables : Prop :=
  (∀ (n i : Nat) (b : List Byte) (c : Cmd) (s : State), s.Inv → s.begun n 0x02 = some c → bufFits c (some b) = true →
    s.slotOf c.jobId = some i → (s.job i).status = 1 → (s.job i).key = none → s.auditFull = false →
    ∃ t, exec (.keyLoad n (some b)) s = .next t ∧
      (∀ key, s.unwrap c b = .ok key →
        t = { s with regs := t.regs, audit := t.audit, bells := t.bells, host := t.host, job0 := t.job0, job1 := t.job1, out := t.out } ∧
        s.ended t c 0 0 0 0 0 ∧ t.job i = { s.job i with key := some key, keyId := c.sel } ∧ t.job (1 - i) = s.job (1 - i) ∧
        s.regsBut t [R.AUDIT_HEAD_L, R.AUDIT_HEAD_L + 4, R.AUDIT_FREE] ∧
        ∃ r, t.audit.pool.head? = some (.record r) ∧ r.kind = 0x10 ∧ r.seq = s.audit.nextSeq ∧ r.detail = [c.sel, c.jobId, 0] ∧ t.bell 3 = r.seq % 2 ^ 64) ∧
      ∀ code, s.unwrap c b = .error code → (t.job i).status = 2 ∧ (t.job i).fatal = code ∧ (t.job i).key = none) ∧
  (∀ (n i : Nat) (tb : List Byte) (c : Cmd) (s : State), s.Inv → s.begun n 0x04 = some c → bufFits c (some tb) = true →
    0x0A00 ≤ c.sel → c.sel ≤ 0x0A07 → s.slotOf c.jobId = some i → (s.job i).status = 1 → s.auditFull = false →
    ((s.job i).penLocked = false → (s.job i).penumbraForm c.sel tb = true →
      ∃ t, exec (.tableLoad n (some tb)) s = .next t ∧
        t = { s with regs := t.regs, audit := t.audit, bells := t.bells, host := t.host, job0 := t.job0, job1 := t.job1, out := t.out } ∧
        s.ended t c 0 (crcC tb) 0 0 0 ∧ t.job i = (s.job i).putPenumbra c.sel tb ∧ t.job (1 - i) = s.job (1 - i) ∧
        ∃ r, t.audit.pool.head? = some (.record r) ∧ r.kind = 2 ∧ r.detail = [c.sel, i, crcC tb]) ∧
    ((s.job i).penLocked = true →
      ∃ t, exec (.tableLoad n (some tb)) s = .next t ∧ s.ended t c Code.PENUMBRA_TABLE_LOCKED 0 0 0 0 ∧ t.job0 = s.job0 ∧ t.job1 = s.job1 ∧
        t.audit = s.audit))

/-- GEOM_PUSH of a block in its right form, that the cache neither holds nor awaits: if its tag is right it is re-sealed into a free frame
with its envelope, its wire CRC and a fresh seal count, its bytes are counted, and the command ends with its number; if not, the attempt
is recorded and counted and the command ends with the code (R52 to R54, R337, R340). -/
def Obligations.GeometryCached : Prop :=
  ∀ (n i : Nat) (b : List Byte) (c : Cmd) (s : State), s.Inv → s.begun n 0x03 = some c → bufFits c (some b) = true →
    s.slotOf c.jobId = some i → (s.job i).status = 1 → pushForm b = none → s.pushHost c (envOf b) = none → (envOf b).jobId = c.jobId →
    (envOf b).block ≠ 0 → (envOf b).block < 2 ^ 32 → (s.job i).reqs = [] → s.frameOf i (envOf b).block = none → s.cacheFree ≠ 0 →
    s.pushWaits c = false →
    ∃ t, exec (.geomPush n (some b) 0) s = .next t ∧
      (∀ unit, Config.gcmOpen (leNat ((s.job i).key.getD [])) (leBytes 4 (s.job i).keyId ++ leBytes 4 (envOf b).jobId ++ leBytes 4 (envOf b).block)
          (b.take 32) ((b.drop 32).take (envOf b).clen) ((b.drop (32 + (envOf b).clen)).take 16) = some unit →
        t = { s with regs := t.regs, host := t.host, job0 := t.job0, job1 := t.job1, frames := t.frames, sealCtr := s.sealCtr + 1, out := t.out } ∧
        s.ended t c 0 (envOf b).block 0 0 0 ∧ t.job0 = s.job0 ∧ t.job1 = s.job1 ∧
        s.regsBut t [R.HOST_INGEST_BYTES_L, R.HOST_INGEST_BYTES_L + 4] ∧
        t.rd64 R.HOST_INGEST_BYTES_L = min (2 ^ 64 - 1) (s.rd64 R.HOST_INGEST_BYTES_L + b.length) ∧
        ∃ k f, t.frames = kput s.frames k f ∧ kget? s.frames k = none ∧ f.slot = i ∧ f.block = (envOf b).block ∧ f.unit = unit ∧ f.env = b.take 32 ∧
          f.wireCrc = leAt b (b.length - 4) 4 ∧ f.sealCtr = s.sealCtr + 1 ∧ f.failed = 0) ∧
      (Config.gcmOpen (leNat ((s.job i).key.getD [])) (leBytes 4 (s.job i).keyId ++ leBytes 4 (envOf b).jobId ++ leBytes 4 (envOf b).block)
          (b.take 32) ((b.drop 32).take (envOf b).clen) ((b.drop (32 + (envOf b).clen)).take 16) = none →
        kget (fun _ => 0) (s.job i).attempts (envOf b).block < 2 → 256 < s.logFree →
        t.frames = s.frames ∧ s.ended t c Code.PSIPO_ENV_TAG (envOf b).block 0 0 0 ∧ t.newest Code.PSIPO_ENV_TAG 1 5 (envOf b).block 0 0 ∧
          kget (fun _ => 0) (t.job i).attempts (envOf b).block = kget (fun _ => 0) (s.job i).attempts (envOf b).block + 1)

/-- A FENCE holds every later command of its SQ from starting until every earlier command of its SQ has completed; it then completes
at once (R446). -/
def Obligations.FenceHolds : Prop :=
  (∀ (q ns : Nat) (entry : List Nat) (s : State), (∃ c ∈ s.host.cmds, c.sq = q ∧ c.opcode = 0x0C) → exec (.commandStart q entry ns) s = .next s) ∧
  ∀ (n : Nat) (c : Cmd) (s : State), s.Inv → s.begun n 0x0C = some c →
    ((∃ x ∈ s.host.cmds, x.sq = c.sq ∧ x.n < n) → exec (.fence n) s = .next s) ∧
    ((∀ x ∈ s.host.cmds, x.sq = c.sq → n ≤ x.n) →
      ∃ t, exec (.fence n) s = .next t ∧ t = { s with host := t.host, out := t.out } ∧ s.ended t c 0 0 0 0 0)

/-- FLUSH ends with how many commands it waited for, once those of its scope have completed and no export has its flush still to take;
each such export is first asked for it (R102, R106, R445); TRACE_ARM arms an idle trace with
its trigger and share, a second one ends HOST_STRIPE_STATE, and a DISARM ends an armed trace with a trigger, whose own command
then completes with 0 bytes (R447). -/
def Obligations.FlushAndTrace : Prop :=
  (∀ (n : Nat) (c : Cmd) (s : State), s.Inv → s.begun n 0x0B = some c →
    (∀ x ∈ s.host.cmds, flushCounts c.arg0 c.sq x = true → n ≤ x.n) →
    ((∀ x ∈ s.ctxs, x.2.unflushed n = false) →
      ∃ t, exec (.flush n) s = .next t ∧ t = { s with host := t.host, out := t.out } ∧ s.ended t c 0 c.waited 0 0 0) ∧
    ((∃ x ∈ s.ctxs, x.2.unflushed n = true) →
      ∃ t, exec (.flush n) s = .next t ∧ t = { s with ctxs := t.ctxs } ∧
        t.ctxs = s.ctxs.map (fun x => if x.2.unflushed n then (x.1, { x.2 with pend := true, asked := n }) else x))) ∧
  ∀ (n : Nat) (c : Cmd) (s : State), s.Inv → s.begun n 0x0D = some c →
    (c.flags % 2 = 0 → s.trace.st = 0 ∨ s.trace.st = 4 → c.arg1 ≤ 100 →
      ∃ t, exec (.traceArm n) s = .next t ∧ t = { s with host := t.host, trace := t.trace } ∧ t.trace.st = 1 ∧ t.trace.cmd = n ∧
        t.trace.trigger = c.arg0 ∧ t.trace.post = c.arg1 ∧ t.trace.recs = [] ∧ (∃ x, t.cmd? n = some x ∧ x.ran = true ∧ x.done = none)) ∧
    (c.flags % 2 = 0 → 1 ≤ s.trace.st ∧ s.trace.st ≤ 3 →
      ∃ t, exec (.traceArm n) s = .next t ∧ s.ended t c Code.HOST_STRIPE_STATE 0 0 0 0) ∧
    (∀ d, c.flags % 2 = 1 → s.trace.st = 1 → s.trace.trigger ≠ 0 → s.cmd? s.trace.cmd = some d → d.done = none →
      ∃ t, exec (.traceArm n) s = .next t ∧ t = { s with host := t.host, trace := { s.trace with st := 0 }, out := t.out } ∧
        s.ended t c 0 0 0 0 0 ∧ s.ended t d 0 0 0 0 0)

/-- JOB_CLOSE of a job with no stripe: its slot is free, its key is gone with an audit record, its frames are freed, and the command
ends with the code that failed the job, if any; with a stripe armed or further and ABORT_OPEN clear it ends HOST_JOB_BUSY and changes
neither slot (R448, R449). -/
def Obligations.JobCloses : Prop :=
  ∀ (n i : Nat) (c : Cmd) (s : State), s.Inv → s.begun n 0x0E = some c → s.slotOf c.jobId = some i → (s.job i).reqs = [] →
    (∀ x ∈ s.host.cmds, x.opcode = 0x0E → x.ran = false) →
    ((∀ x ∈ s.stripes, x.slot ≠ i) → s.auditFull = false →
      ∃ t, exec (.jobClose n) s = .next t ∧
        t = { s with regs := t.regs, audit := t.audit, bells := t.bells, host := t.host, job0 := t.job0, job1 := t.job1, frames := t.frames,
                     ctxs := t.ctxs, codecEng := t.codecEng, out := t.out } ∧
        s.ended t c 0 (s.job i).fatal 0 0 0 ∧ t.job i = {} ∧ t.job (1 - i) = s.job (1 - i) ∧ t.frames = s.frames.filter (fun f => f.2.slot ≠ i) ∧
        ((s.job i).key ≠ none → ∃ r, t.audit.pool.head? = some (.record r) ∧ r.kind = 0x10 ∧ r.detail = [(s.job i).keyId, (s.job i).jobId, 0])) ∧
    ((∃ x ∈ s.stripes, x.slot = i ∧ x.st ≠ .armWait) → (s.job i).status = 1 → c.flags % 2 = 0 →
      ∃ t, exec (.jobClose n) s = .next t ∧ s.ended t c Code.HOST_JOB_BUSY 0 0 0 0 ∧ t.job0 = s.job0 ∧ t.job1 = s.job1 ∧ t.stripes = s.stripes)

/-! ### Stripes -/

/-- STRIPE_ARM that passes R435, of a stripe that validates: with a ring and a map set free and none waiting before it, the stripe is
armed with the lower free ring and map set, its pre-pass waits, its list is open, its job's tables are locked, and the command ends
with the list's place; with no ring or map set free it waits. STRIPE_ARM_RESOURCES_FREE arms the oldest that waits (R163, R434,
R435). -/
def Obligations.StripeArms : Prop :=
  (∀ (n i : Nat) (c : Cmd) (w : Walk) (r : StripeRec) (s : State), s.Inv → s.begun n 0x05 = some c → s.slotOf c.jobId = some i →
    (s.job i).status = 1 → (∀ f ∈ s.blocksOf i c.sel, f.failed < 2) → s.armChecks i c.sel = .ok () → s.walk i c.sel = .ok w → w.srec = some r →
    (∀ g m, (∀ y ∈ s.stripes, y.st ≠ .armWait) → s.freeRing = some g → s.freeMap = some m →
      ∃ t x, exec (.stripeArm n 0 none) s = .next t ∧ t.stripes = s.stripes ++ [x] ∧ x.slot = i ∧ x.jobId = c.jobId ∧ x.id = c.sel ∧ x.pass = 0 ∧
        x.st = .armed ∧ x.blocks = (s.blocksOf i c.sel).map (·.block) ∧ x.srec = r ∧ x.endRow = r.rows ∧ x.ring = some g ∧ x.mapSet = some m ∧ x.prepass = 1 ∧ x.ord = s.stripeOrd + 1 ∧
        t.stripeOrd = s.stripeOrd + 1 ∧ (t.job i).penLocked = true ∧ (t.job i).profLocked = true ∧ t.job (1 - i) = s.job (1 - i) ∧
        (∃ d ∈ (t.job i).lists, d.ord = x.ord ∧ d.id = c.sel ∧ d.state = 0 ∧ d.entries = [] ∧ d.base = s.nextList i) ∧
        s.ended t c 0 (((t.list? x).map (·.base)).getD 0 / 64) 0 0 0) ∧
    (s.freeRing = none ∨ s.freeMap = none →
      (∀ y ∈ s.stripes, y.st = .armWait → y.pass = 0) →
      ∃ t x y, exec (.stripeArm n 0 none) s = .next t ∧ t.stripes = s.stripes ++ [x] ∧ x.st = .armWait ∧ x.armCmd = n ∧ x.id = c.sel ∧
        t = { s with stripes := t.stripes, stripeOrd := s.stripeOrd + 1, host := t.host, job0 := t.job0, job1 := t.job1, frames := t.frames } ∧
        t.cmd? n = some y ∧ y.ran = true ∧ y.done = none)) ∧
  ∀ (n g m : Nat) (x : Stripe) (c : Cmd) (s : State), s.Inv → s.fatal = 0 → s.cmd? n = some c → c.done = none →
    (sortBy (·.ord) (s.stripes.filter (fun t => t.st = .armWait))).head? = some x → x.armCmd = n → x.pass = 0 →
    s.freeRing = some g → s.freeMap = some m →
    ∃ t, exec (.stripeArmResourcesFree n) s = .next t ∧
      t.stripes = s.stripes.map (fun y => if y.ord = x.ord then { y with st := .armed, ring := some g, mapSet := some m, prepass := 1 } else y) ∧
      s.ended t c 0 (((s.list? x).map (·.base)).getD 0 / 64) 0 0 0

/-- STRIPE_GO of an armed stripe: it waits to take effect, and nothing else changes but the registers that show the stripes; with none
armed under its name the command ends HOST_STRIPE_STATE (R436, R442). STRIPE_ABORT of an armed stripe, with no stray value waiting: it is
gone with its resources, its job remembers that it has ended, and the command ends with state 0 and the exit row. CHECKPOINT of the
writing stripe waits for the stripe's containment, which it itself causes in STILL or REWIND (R438 to R440, R451). -/
def Obligations.StripesGoAndStop : Prop :=
  (∀ (n i : Nat) (c : Cmd) (s : State), s.Inv → s.begun n 0x06 = some c → s.slotOf c.jobId = some i → (s.job i).status = 1 →
    (∀ x, s.goStripe i c = some x →
      ∃ t y, exec (.stripeGo n) s = .next t ∧ t = { s with regs := t.regs, host := t.host, stripes := t.stripes } ∧
        t.stripes = s.stripes.map (fun z => if z.ord = x.ord then { z with st := .waiting, goCmd := n, addr2 := c.addr2 } else z) ∧
        t.cmd? n = some y ∧ y.ran = true ∧ y.done = none ∧
        s.regsBut t ([R.HOST_STRIPE_NOW, R.HOST_STRIPE_NEXT, R.HOST_STRIPE_STATE, R.CLK_PREWARM] ++ checkRegs)) ∧
    (s.goStripe i c = none →
      ∃ t, exec (.stripeGo n) s = .next t ∧ s.ended t c Code.HOST_STRIPE_STATE 0 0 0 0 ∧ t.stripes = s.stripes)) ∧
  ((∀ (n i : Nat) (c : Cmd) (x : Stripe) (s : State), s.Inv → s.begun n 0x07 = some c → s.slotOf c.jobId = some i → (s.job i).status = 1 →
    s.named i c.sel = some x → x.st = .armed → x.ckpt = 0 → x.ckptCmds = [] → x.aborts = [] → (s.job i).reqs = [] →
    s.strayPend = [] → s.strayHeld = [] →
    ∃ t, exec (.stripeAbort n) s = .next t ∧ t.stripes = s.stripes.filter (fun y => y.ord ≠ x.ord) ∧ x.id ∈ (t.job i).ended ∧
      s.ended t c 0 0 x.exitRow 0 0 ∧ (t.hold = s.hold.filter (fun w => w.ord ≠ x.ord)) ∧ t.log = s.log ∧ t.frames = s.frames ∧ t.bells = s.bells) ∧
  ∀ (n i : Nat) (c : Cmd) (x : Stripe) (s : State), s.Inv → s.begun n 0x08 = some c → s.slotOf c.jobId = some i → (s.job i).status = 1 →
    s.named i c.sel = some x → x.st = .writing →
    (s.drover.st ≠ 3 → s.drover.st ≠ 4 →
      ∃ t, exec (.checkpoint n) s = .next t ∧ t = { s with host := t.host, stripes := t.stripes } ∧
        t.stripes = s.stripes.map (fun y => if y.ord = x.ord then { y with ckptCmds := y.ckptCmds ++ [n] } else y)) ∧
    (s.drover.st = 3 ∨ s.drover.st = 4 → s.active = some x →
      ∃ t, exec (.checkpoint n) s = .next t ∧ t.drover.st = 5 ∧ t.flink.shaded = true ∧ t.rd R.SYS_CKPT_STATE % 16 = 1 ∧
        ∃ y ∈ t.stripes, y.ord = x.ord ∧ y.st = .contained ∧ y.held = s.drover.k ∧ y.cause = Code.HOST_CHECKPOINT ∧ y.ckpt = 1 ∧ n ∈ y.ckptCmds))

/-- STRIPE_TAKES_EFFECT, once every condition holds: the staged values come into force, the stripe writes, Drover is armed at its first
row, FLASH_SET names the next index, and the first L share cycles are computed on that state (R11, R177, R436, R674). -/
def Obligations.StripeTakesEffect : Prop :=
  ∀ (smp : Sample) (x : Stripe) (s : State), s.Inv → (s.see smp).firstWaiting = some x → (s.see smp).startReady x = true →
    (s.see smp).profileReady x = true → (s.see smp).epochOk = true → (s.see smp).lanesShort = false → (s.see smp).startsBefore x = true →
    ∃ u, exec (.stripeTakesEffect smp) s = .next (State.firstCycles u.leadL x.ord u) ∧
      u.stripes = s.stripes.map (fun y => if y.ord = x.ord then
        { y with st := .writing, exitRow := y.firstRow, nextCycle := y.firstRow, zoneHold := true, flashBase := s.nextIndex - x.firstRow } else y) ∧
      u.drover.st = 1 ∧ u.drover.k = (x.firstRow : Int) - 1 ∧ u.curSlot = some x.slot ∧ u.flink.shaded = false ∧ u.flink.strobed = [] ∧
      u.flink.discard = none ∧ u.ivdon.epochGot = false ∧ u.dnext = [] ∧ u.capsNext = none ∧ u.caps = s.capsNext.getD s.caps ∧
      kget (fun _ => []) u.dtabs 0x0C01 = (kget? s.dnext 0x0C01).getD (kget (fun _ => []) s.dtabs 0x0C01) ∧
      (∀ a, pageOf a ≤ 28 → (rowsAt (pageOf a) (offOf a)).any (fun r => r.acc = .rwb) = true → a ≠ R.DROVER_STB_DELAY0 → a ≠ R.DROVER_STB_DELAY1 →
        u.inForce a = s.rd a) ∧
      u.field = s.field ∧ u.tally = s.tally ∧ u.hold = s.hold ∧ u.log = s.log

/-- RESUME of a contained stripe whose checkpoint has verified and whose checks pass, with no re-rasterization kept for it and every
tile read right: the Tally is that of the checkpoint, the flash base moves past the gap, the list is open again, Drover is in REWIND, and
the first L share cycles are computed on that state; a check that fails ends the command with its code and leaves the stripe contained
(R137, R441, R476, R477, R479). -/
def Obligations.ResumeRestores : Prop :=
  ∀ (n i : Nat) (smp : Sample) (reads : List Bool) (bad : List (Nat × Nat × Option Nat)) (c : Cmd) (x : Stripe) (s : State), s.Inv →
    s.begun n 0x09 = some c → s.slotOf c.jobId = some i → (s.job i).status = 1 → s.named i c.sel = some x → x.st = .contained → x.ckpt = 3 →
    ((s.see smp).resumeChecks x = none → x.requests = [] → s.refillFails x (x.held + 1).toNat bad = [] →
      reads.getD 0 true = true ∨ reads.getD 1 true = true → s.writing = none ∨ s.strayHeld = [] →
      ∃ u, exec (.resume n smp reads bad) s = .next (State.firstCycles u.leadL x.ord u) ∧
        u.stripes = s.stripes.map (fun y => if y.ord = x.ord then
          { y with ckpt := 5, goCmd := n, addr2 := c.addr2, flashBase := s.nextIndex - (x.held + 1).toNat, nextCycle := (x.held + 1).toNat } else y) ∧
        u.drover.st = 4 ∧ u.flink.strobed = [] ∧ u.flink.discard = none ∧ u.ivdon.epochGot = false ∧
        (∀ d ∈ (u.job x.slot).lists, d.ord = x.ord → d.state = 0) ∧ u.hold = s.hold ∧ u.strayHeld = [] ∧
        u.tally = ((s.lastCkpt.bind (kget? s.ckpts)).map (·.tally)).getD s.tally ∧ (s.strayHeld = [] → u.log = s.log)) ∧
    (∀ code, (s.see smp).resumeChecks x = some code →
      ∃ t, exec (.resume n smp reads bad) s = .next t ∧ s.ended t c code 0 0 0 0 ∧ t.stripes = s.stripes ∧ t.drover = (s.see smp).drover)

/-- PATCH_PASS of a stripe that has ended, with a list that R443 accepts and a ring free: the pass is armed with the list as its targets
and spans the bands from its first to its last row; a list that is refused ends TALLY_PATCH_FORM (R196, R442, R443). -/
def Obligations.PatchPassArms : Prop :=
  ∀ (n i g : Nat) (tb : List Byte) (c : Cmd) (r : StripeRec) (s : State), s.Inv → s.begun n 0x0A = some c → bufFits c (some tb) = true →
    s.slotOf c.jobId = some i → (s.job i).status = 1 → s.passChecks i c.sel = .ok r →
    (patchOk r.rows s.width tb = true → kget (fun _ => 0) (s.job i).passes c.sel < 255 → (∀ y ∈ s.stripes, y.st ≠ .armWait) → s.freeRing = some g →
      ∃ t x, exec (.patchPass n (some tb) false) s = .next t ∧ t.stripes = s.stripes ++ [x] ∧ x.slot = i ∧ x.id = c.sel ∧ x.st = .armed ∧
        x.pass = kget (fun _ => 0) (s.job i).passes c.sel + 1 ∧ kget (fun _ => 0) (t.job i).passes c.sel = x.pass ∧ x.ring = some g ∧
        x.mapSet = none ∧ x.prepass = 0 ∧ x.patch = patchEntries tb (tb.length / 16) ∧
        x.firstRow = 64 * (patchSpan x.patch).1 ∧ x.endRow = 64 * (patchSpan x.patch).2 + 64 ∧
        s.ended t c 0 (((t.list? x).map (·.base)).getD 0 / 64) 0 0 0) ∧
    (patchOk r.rows s.width tb = false →
      ∃ t, exec (.patchPass n (some tb) false) s = .next t ∧ s.ended t c Code.TALLY_PATCH_FORM 0 0 0 0 ∧ t.stripes = s.stripes)

/-! ### Stream codec -/

/-- A cached block goes to a free decode context with its unit, and an engine; a decode ends with the unit's bytes, or suspends for input or
room, in the state from which it resumes; resumed, the context runs on with what it was given (R99, R103, R104). The export of a trace: a
unit that the compressor has made waits for the verify engine; one that verifies against its input goes to the host's buffer, as far as
that holds it, and the TRACE_ARM ends with the bytes written; a flush that verifies releases the output up to it to that buffer and is
counted; one that comes while the context waits for room waits with it (R97, R100, R102, R106, R447). -/
def Obligations.CodecWorks : Prop :=
  ((∀ (ctx slot block given space k : Nat) (f : Frame) (s : State), ctx ≤ 3 → s.enabled 8 = true → s.frameOf slot block = some (k, f) →
    f.failed < 2 → s.fatal = 0 → ((s.ctx ctx).st = 0 ∨ (s.ctx ctx).st = 4 ∨ (s.ctx ctx).st = 5) →
    ∃ t, exec (.cacheRead ctx slot block given space .ok) s = .next t ∧
      t = { s with regs := t.regs, frames := t.frames, ctxs := t.ctxs, codecEng := t.codecEng } ∧
      t.ctx ctx = { st := 1, inp := f.unit, given, space, slot, block } ∧ (∀ i, i ≠ ctx → t.ctx i = s.ctx i) ∧
      kget? t.frames k = some { f with failed := 0, opened := false } ∧
      s.regsBut t [statusOf 8] ∧ t.rd (statusOf 8) / 2 ^ (16 + ctx) % 2 = 1) ∧
  (∀ (ctx : Nat) (s : State), ctx ≤ 7 → s.codecEng.dec.contains ctx = true → (s.ctx ctx).st = 1 → (s.ctx ctx).mode = 0 → s.fatal = 0 →
    s.clockHeld = false →
    (∀ out, (s.ctx ctx).decode = .done out →
      (∀ k f, s.frameOf (s.ctx ctx).slot (s.ctx ctx).block = some (k, f) → f.dlen = out.length) →
      ∃ t, exec (.codecDecodeEnd ctx []) s = .next t ∧
        t = { s with regs := t.regs, frames := t.frames, ctxs := t.ctxs, codecEng := t.codecEng } ∧
        t.ctx ctx = { s.ctx ctx with st := 4, out } ∧ (∀ i, i ≠ ctx → t.ctx i = s.ctx i) ∧
        (∀ k f, s.frameOf (s.ctx ctx).slot (s.ctx ctx).block = some (k, f) → kget? t.frames k = some { f with opened := true }) ∧
        s.regsBut t [statusOf 8, R.CODEC_UNITS_DONE] ∧
        t.rd R.CODEC_UNITS_DONE = min (2 ^ 32 - 1) (s.rd R.CODEC_UNITS_DONE + 1)) ∧
    (∀ d, (s.ctx ctx).decode = .needInput d →
      ∃ t, exec (.codecDecodeEnd ctx []) s = .next t ∧ t = { s with regs := t.regs, ctxs := t.ctxs, codecEng := t.codecEng } ∧
        (t.ctx ctx).st = 2 ∧ (t.ctx ctx).inp = (s.ctx ctx).inp ∧ (t.ctx ctx).given = (s.ctx ctx).given ∧
        (t.ctx ctx).out = d.out.reverse ∧ (t.ctx ctx).storedLeft = d.left) ∧
    (∀ d len dist, (s.ctx ctx).decode = .needSpace d len dist →
      ∃ t, exec (.codecDecodeEnd ctx []) s = .next t ∧ t = { s with regs := t.regs, ctxs := t.ctxs, codecEng := t.codecEng } ∧
        (t.ctx ctx).st = 3 ∧ (t.ctx ctx).out = d.out.reverse ∧ (t.ctx ctx).matchLen = len ∧ (t.ctx ctx).matchDist = dist)) ∧
  ∀ (ctx given space : Nat) (part : List Byte) (s : State), ctx ≤ 7 → ((s.ctx ctx).st = 2 ∨ (s.ctx ctx).st = 3) →
    ((s.ctx ctx).mode = 1 → (s.ctx ctx).pend = false) → s.fatal = 0 →
    ∃ t, exec (.codecContextResume ctx given space part) s = .next t ∧ t = { s with regs := t.regs, ctxs := t.ctxs, codecEng := t.codecEng } ∧
      (t.ctx ctx).st = 1 ∧ (t.ctx ctx).mode = (s.ctx ctx).mode ∧ (t.ctx ctx).inp = (s.ctx ctx).inp ∧
      (t.ctx ctx).given = (s.ctx ctx).given + given ∧ (t.ctx ctx).space = (s.ctx ctx).space + space ∧ ∀ i, i ≠ ctx → t.ctx i = s.ctx i) ∧
  ((∀ (ctx room : Nat) (unit : List Byte) (s : State), (ctx = 6 ∨ ctx = 7) → s.codecOn = true → (s.ctx ctx).mode = 1 → (s.ctx ctx).st = 1 →
    s.codecEng.comp.contains ctx = true → (s.ctx ctx).inp.length ≤ (s.ctx ctx).given → unit.length ≤ (s.ctx ctx).space →
    (s.ctx ctx).mayMake unit = true →
    ∃ t, exec (.codecCompressDone ctx unit room none []) s = .next t ∧ t = { s with regs := t.regs, ctxs := t.ctxs, codecEng := t.codecEng } ∧
      t.ctx ctx = { s.ctx ctx with mode := 2, out := unit, space := room } ∧ (∀ i, i ≠ ctx → t.ctx i = s.ctx i) ∧ s.regsBut t [statusOf 8]) ∧
  (∀ (ctx room : Nat) (unit : List Byte) (c : Cmd) (s : State), s.Inv → (ctx = 6 ∨ ctx = 7) → s.codecOn = true → (s.ctx ctx).mode = 2 →
    (s.ctx ctx).st = 1 → s.codecEng.ver.contains ctx = true → (s.ctx ctx).purp = 1 → s.cmd? s.trace.cmd = some c → c.done = none →
    decodeUnit (s.ctx ctx).out true (s.ctx ctx).space = .done (s.ctx ctx).inp →
    ∃ t, exec (.codecCompressDone ctx unit room none []) s = .next t ∧
      t = { s with regs := t.regs, host := t.host, ctxs := t.ctxs, codecEng := t.codecEng, trace := { s.trace with st := 4 }, out := t.out } ∧
      Out.hostWrite c.addr ((s.ctx ctx).out.take c.len) ∈ t.out ∧ s.ended t c 0 ((s.ctx ctx).out.take c.len).length 0 0 0 ∧
      t.rd R.CODEC_UNITS_DONE = min (2 ^ 32 - 1) (s.rd R.CODEC_UNITS_DONE + 1) ∧ s.regsBut t [statusOf 8, R.CODEC_UNITS_DONE])) ∧
  (∀ (ctx : Nat) (part : List Byte) (s : State), (ctx = 6 ∨ ctx = 7) → s.codecOn = true → (s.ctx ctx).mode = 1 →
    ((s.ctx ctx).st = 1 ∨ (s.ctx ctx).st = 2) → (s.ctx ctx).mayFlush part = true →
    unitSoFar (s.ctx ctx).inp.length s.codecWindow part = some ((s.ctx ctx).inp.take (s.ctx ctx).given) →
    ∃ t, exec (.codecFlush ctx part) s = .next t ∧ t = { s with regs := t.regs, ctxs := t.ctxs, codecEng := t.codecEng, out := t.out } ∧
      t.ctx ctx = { s.ctx ctx with rel := part, flushes := (s.ctx ctx).flushes + 1, pend := false } ∧ s.regsBut t [statusOf 8] ∧
      ((s.ctx ctx).purp ≠ 1 → t.out = s.out) ∧
      ∀ x, (s.ctx ctx).purp = 1 → s.cmd? s.trace.cmd = some x →
        t.out = .hostWrite (x.addr + (s.ctx ctx).rel.length) ((part.take x.len).drop (s.ctx ctx).rel.length) :: s.out) ∧
  ∀ (ctx : Nat) (part : List Byte) (s : State), (ctx = 6 ∨ ctx = 7) → s.codecOn = true → (s.ctx ctx).mode = 1 → (s.ctx ctx).st = 3 →
    ∃ t, exec (.codecFlush ctx part) s = .next t ∧ t = { s with regs := t.regs, ctxs := t.ctxs, codecEng := t.codecEng } ∧
      t.ctx ctx = { s.ctx ctx with pend := true } ∧ s.regsBut t [statusOf 8]

/-! ### Lantern and Penumbra -/

/-- The fill of the field: Lantern's lanes wake where bands are left and the lead has fallen to the value in force, or a request or a
pre-pass waits (R129, R130); a finished tile is written with its check value, counted, and its band is complete with its last tile (R122 to
R125), the doses above 1,023 counted as clipped (R156); a lane with a residue mismatch has its tile discarded, and does not run it again
(R134); a tile asked for again is written where two of its runs agree, and named lost where none do (R131 to R133, R136). What stripe
is being filled, and what counts as its lead, is the model's reading (log entries 24, 152, 158). -/
def Obligations.FieldFills : Prop :=
  (∀ s : State, s.enabled 9 = true → s.anyShutdown = false →
    (∃ x, s.fieldStripe = some x ∧ x.unfilled = true ∧ x.lead ≤ s.inForce R.LANTERN_LEAD_WAKE) ∨
      (∃ x ∈ s.stripes, x.wanted = true ∨ x.prepass = 1 ∨ x.prepass = 2) →
    ∃ t, exec .lanternWake s = .next t ∧ t = { s with regs := t.regs, trace := t.trace } ∧ t.fld R.CLK_REQ 9 9 = 1 ∧ t.fld R.CLK_ON 9 9 = 1 ∧
      t.fld (statusOf 9) 16 16 = 1 ∧ s.regsBut t [R.CLK_REQ, R.CLK_ON, statusOf 9]) ∧
  (∀ (id band col lane : Nat) (mapBad : Bool) (x : Stripe) (s : State), s.tileStripe 0 id = some x →
    s.tileReady x band col = true → s.lanternReady x band col lane false mapBad = true → s.tileError x = none → 256 < s.logFree →
    let xs := s.tileXs x band col
    let n := (xs.filter (fun p => p.2.2 > 1023)).length
    (∃ t, exec (.tileDone 0 id band col lane false 0 false mapBad 0 []) s = .next t ∧
      t = { s with regs := t.regs, log := t.log, host := t.host, stripes := t.stripes, field := t.field, tileCrcs := t.tileCrcs, trace := t.trace,
                   out := t.out } ∧
      t.field = kput s.field (fieldKey (x.ring.getD 0) band col) (s.tileWords x xs) ∧
      t.tileCrcs = kput s.tileCrcs (fieldKey (x.ring.getD 0) band col) (tileCrc x.id band col (s.tileWords x xs)) ∧
      t.rd R.LANTERN_TILES_DONE = min (2 ^ 32 - 1) (s.rd R.LANTERN_TILES_DONE + 1) ∧
      (n = 0 → t = { s with regs := t.regs, stripes := t.stripes, field := t.field, tileCrcs := t.tileCrcs } ∧
        s.regsBut t [R.LANTERN_TILES_DONE, statusOf 9]) ∧
      (n ≠ 0 → t.rd R.PENUMBRA_DOSE_CLIPS = min (2 ^ 32 - 1) (s.rd R.PENUMBRA_DOSE_CLIPS + n)) ∧
      ∃ y ∈ t.stripes, y.ord = x.ord ∧ y.clips = (if n = 0 then x.clips else min (2 ^ 32 - 1) (x.clips + n)) ∧
        if s.width / 64 ≤ x.tiles.length + 1 then y.bandsDone = x.bandsDone + 1 ∧ y.tiles = []
        else y.bandsDone = x.bandsDone ∧ y.tiles = (band, col) :: x.tiles) ∧
    ∃ t, exec (.tileDone 0 id band col lane true 0 false mapBad 0 []) s = .next t ∧ t.field = s.field ∧ t.tileCrcs = s.tileCrcs ∧
      t.rd R.LANTERN_RESIDUE_ERRORS = min (2 ^ 32 - 1) (s.rd R.LANTERN_RESIDUE_ERRORS + 1) ∧
      ∃ y ∈ t.stripes, y.ord = x.ord ∧ y.tiles = x.tiles ∧ y.bandsDone = x.bandsDone ∧ y.rasterBad = (band, col, lane) :: x.rasterBad) ∧
  ∀ (pass id band col : Nat) (runs : Runs) (mapBad : Bool) (x : Stripe) (r : Nat × Nat × Nat) (s : State), s.tileStripe pass id = some x →
    x.request? band col = some r → x.aborting = false → s.anyShutdown = false → s.rerasterReady x band col [] false mapBad = true →
    s.tileError x = none →
    let asked := fun (y : Stripe) => y.requests.filter (fun q => ¬ (q.1 = band ∧ q.2.1 = col))
    ∃ t, exec (.rerasterRequest pass id band col runs [] false mapBad []) s = .next t ∧
      t = { s with regs := t.regs, stripes := t.stripes, field := t.field, tileCrcs := t.tileCrcs } ∧
      s.regsBut t [R.LANTERN_RERASTER_REQ, R.LANTERN_RERASTER_DISAGREE, statusOf 9] ∧
      t.rd R.LANTERN_RERASTER_REQ = min (2 ^ 32 - 1) (s.rd R.LANTERN_RERASTER_REQ + 1) ∧
      (if runs = .third ∨ runs = .differ then t.rd R.LANTERN_RERASTER_DISAGREE = min (2 ^ 32 - 1) (s.rd R.LANTERN_RERASTER_DISAGREE + 1)
       else t.rd R.LANTERN_RERASTER_DISAGREE = s.rd R.LANTERN_RERASTER_DISAGREE) ∧
      if runs = .agree ∨ runs = .third then
        t.field = kput s.field (fieldKey (x.ring.getD 0) band col) (s.tileWords x (s.tileXs x band col)) ∧
        t.tileCrcs = kput s.tileCrcs (fieldKey (x.ring.getD 0) band col) (tileCrc x.id band col (s.tileWords x (s.tileXs x band col))) ∧
        t.stripes = s.stripes.map (fun y => if y.ord = x.ord then { y with requests := asked y } else y)
      else
        t.field = s.field ∧ t.tileCrcs = s.tileCrcs ∧
        t.stripes = s.stripes.map (fun y => if y.ord = x.ord then
          { y with requests := asked y, lostTiles := (band, col, r.2.2) :: y.lostTiles } else y)

/-- The pre-pass of the oldest armed stripe that waits starts; its density tiles give the density map, limited to 65,535 and the limited
cells counted, and drop what the map set held before; once its bands are stored it ends with the factor map and the check value of each
factor band, the clipped cells counted (R143 to R149, R158). -/
def Obligations.PrepassRuns : Prop :=
  (∀ (x : Stripe) (s : State), s.prepassNext = some x → s.anyShutdown = false → s.enabled 10 = true → s.neighbourError x = none →
    (∀ n ∈ (s.job x.slot).neighbours x.id, ∃ r, s.firstRec x.slot n = some r ∧ onGrid x.srec r = true) →
    ∃ t, exec .prepassStart s = .next t ∧ t = { s with regs := t.regs, stripes := t.stripes } ∧
      t.stripes = s.stripes.map (fun y => if y.ord = x.ord then { y with prepass := 2 } else y) ∧ t.fld (statusOf 10) 16 16 = 1 ∧
      s.regsBut t [statusOf 10]) ∧
  (∀ (lanes : List Nat) (x : Stripe) (s : State), s.stripes.find? Stripe.prepassing = some x → x.prepass ≠ 3 → s.anyShutdown = false →
    s.enabled 10 = true → s.densityReady lanes [] = true → s.neighbourError x = none → s.tileError x = none →
    (∀ n ∈ (s.job x.slot).neighbours x.id, ∃ w, s.walk x.slot n = .ok w) → s.mapReadable x = true →
    let rho := (s.densityMap x.slot x.srec).map (fun k => (k.1, min 65535 k.2))
    ∃ t, exec (.prepassComplete lanes [] [] []) s = .next t ∧
      t = { s with regs := t.regs, stripes := t.stripes, density := t.density, mapBands := t.mapBands, factorCrcs := t.factorCrcs } ∧
      t.density = kput s.density (x.mapSet.getD 0) rho ∧
      t.mapBands = s.mapBands.filter (fun b => b.1 / 2 ^ 20 ≠ x.mapSet.getD 0) ∧
      t.stripes = s.stripes.map (fun y => if y.ord = x.ord then { y with prepass := 3 } else y) ∧
      t.rd R.PENUMBRA_DENSITY_SATS =
        min (2 ^ 32 - 1) (s.rd R.PENUMBRA_DENSITY_SATS + ((s.densityMap x.slot x.srec).filter (fun k => k.2 > 65535)).length) ∧
      s.regsBut t [statusOf 9, R.PENUMBRA_DENSITY_SATS]) ∧
  ∀ (lanes bad : List Nat) (x : Stripe) (s : State), s.stripes.find? Stripe.prepassing = some x → x.prepass = 3 → s.anyShutdown = false →
    s.enabled 10 = true → s.bandsStored x = true →
    let set := x.mapSet.getD 0
    ∃ t, exec (.prepassComplete lanes bad [] []) s = .next t ∧
      t = { s with regs := t.regs, stripes := t.stripes, factor := t.factor, factorCrcs := t.factorCrcs } ∧
      t.factor = kput s.factor set (s.factorOf x.slot x.srec (kget (fun _ => []) s.density set)) ∧
      (∀ b, b < x.srec.bands → kget? t.factorCrcs (bandKey set b) = some (crcC (t.factorBytes set b (x.srec.rows / 16)))) ∧
      t.stripes = s.stripes.map (fun y => if y.ord = x.ord then { y with prepass := 4 } else y) ∧ t.fld (statusOf 10) 16 16 = 0 ∧
      s.regsBut t [statusOf 10, R.PENUMBRA_FACTOR_CLIPS]

/-! ### Shepherd, Tally and the field -/

/-- A complete band goes from its tiles into entry staging, row by row; a tile that fails its CRC is counted, recorded, named and asked for
again, and nothing of its band is staged (R27, R124, R136, R351, R633). A STRAY_ADD lowers the beam's CAP at once with no stripe running,
waits for the next share cycle of a writing stripe, and for the end of a containment (R181). -/
def Obligations.BandsStageAndStraysWait : Prop :=
  (∀ (x : Stripe) (s : State), s.Inv → s.bandStripe = some x → s.enabled 11 = true → s.clockHeld = false → x.staged < x.bandsDone → s.stageRoom = true →
    (∀ l ∈ x.requests ++ x.lostTiles, l.1 ≠ x.staged) →
    (∃ t, exec (.fieldBandRead x.staged [] [] [] []) s = .next t ∧
      t = { s with regs := t.regs, stripes := t.stripes, staging := t.staging } ∧ s.regsBut t [] ∧
      t.stripes = s.stripes.map (fun y => if y.ord = x.ord then { y with staged := x.staged + 1 } else y) ∧
      ∀ dr, dr < 64 → kget? t.staging (stageKey x.ord (64 * x.staged + dr)) = some (s.bandRow x x.staged dr)) ∧
    ∀ col, col < s.width / 64 → 256 < s.logFree →
      ∃ t, exec (.fieldBandRead x.staged [col] [] [] []) s = .next t ∧
        t = { s with regs := t.regs, log := t.log, host := t.host, stripes := t.stripes, trace := t.trace, out := t.out } ∧
        t.newest Code.FIELD_TILE_CRC 1 10 x.staged col x.pass ∧
        (t.stripes = s.stripes.map (fun y => if y.ord = x.ord then
          { x with requests := x.requests ++ [(x.staged, col, s.log.nextSeq % 2 ^ 32)] } else y)) ∧
        t.rd R.FIELD_TILE_CRC_FAILS = min (2 ^ 32 - 1) (s.rd R.FIELD_TILE_CRC_FAILS + 1) ∧
        t.rd R.FIELD_LAST_FAIL = (col * 2 ^ 24 + x.staged % 2 ^ 24) % 2 ^ 32) ∧
  ∀ (o : Origin) (v : Nat) (s : State), s.permit o R.SHEPHERD_STRAY_ADD v = .ok s →
    let b := fieldOf v 17 0
    let cap := fieldOf v 23 18
    (s.active = none →
      ∃ t, exec (.strayAdd o v) s = .next t ∧
        t = { s with regs := t.regs, bells := t.bells, caps := t.caps, capsNext := t.capsNext, trace := t.trace } ∧
        s.regsBut t [R.SHEPHERD_STRAY_COUNT] ∧
        ∀ i, t.cap i = if i = b then min (s.cap b) cap else s.cap i) ∧
    (∀ x, s.active = some x →
      ∃ t, exec (.strayAdd o v) s = .next t ∧ t = { s with strayHeld := t.strayHeld, strayPend := t.strayPend, trace := t.trace } ∧
        if x.st = .contained ∧ x.ckpt ≠ 5 then t.strayHeld = s.strayHeld ++ [(b, cap)] ∧ t.strayPend = s.strayPend
        else t.strayPend = s.strayPend ++ [(b, cap)] ∧ t.strayHeld = s.strayHeld)

/-- The share cycle of the writing stripe's next flash: every carry that waits is applied, the frames of that flash, one per forward lane,
join the link's, every code in them within the beam's CAP and the width's largest code, the stray values that wait are in force, and the
row that is due has entered the Tally out of staging (R20, R23, R174, R179, R181, R186, R220). A cycle that is late, or whose row is not
in staging, contains the stripe (R22, R187, R464). A row that leaves the Tally finds room in the exit hold (R24). -/
def Obligations.ShareCycleRuns : Prop :=
  ∀ (x : Stripe) (ns : Nat) (badEntry badShare badPack : List Nat) (badWords : List (Nat × Nat)) (sram : List SramErr) (fx : ExitFaults) (s : State),
    s.Inv → s.writing = some x → s.active = some x → (x.nextCycle : Int) ≤ s.drover.k + s.leadL → x.nextCycle ≤ x.lastFlash →
    (s.fieldMissing x x.nextCycle = false → s.hold.length < 16 →
      ∃ t, exec (.shareCycle false ns [] [] [] [] [] fx) s = .next t ∧ t.flink.carries = [] ∧ t.strayPend = [] ∧
        t.flink.frames.length = s.flink.frames.length + 64 ∧
        (t.flink.frames.drop s.flink.frames.length).map (fun f => (f.lane, f.flash, f.index, f.ord, f.stripe)) =
          (List.range 64).map (fun i => (i, x.nextCycle, x.flashBase + x.nextCycle, x.ord, x.id)) ∧
        (∀ f ∈ t.flink.frames.drop s.flink.frames.length, ∀ e ∈ f.codes, e.2 ≤ s.codeMax ∧ e.2 ≤ t.cap (4096 * f.lane + e.1)) ∧
        (∀ b, t.cap b ≤ s.cap b) ∧ (s.strayPend = [] → t.caps = s.caps) ∧
        (∃ y ∈ t.stripes, y.ord = x.ord ∧ y.nextCycle = x.nextCycle + 1) ∧ t.fld R.SHEPHERD_CYCLE_NS 11 0 = ns % 4096 ∧
        (x.firstRow ≤ x.nextCycle → x.nextCycle < x.endRow →
          kget? t.staging (stageKey x.ord x.nextCycle) = none ∧ t.rd R.TALLY_ENTRY_ROW = (x.nextCycle + 1) % 2 ^ 32)) ∧
    (∃ t, exec (.shareCycle true ns badEntry badShare badPack badWords sram fx) s = .next t ∧
      t.containedBy x Code.SHEPHERD_CYCLE_OVERRUN s.drover.k ∧ t.tally = s.tally ∧ t.staging = s.staging ∧ t.hold = s.hold) ∧
    (s.fieldMissing x x.nextCycle = true → (∀ l ∈ x.lostTiles, l.1 ≠ x.nextCycle / 64) →
      ∃ t, exec (.shareCycle false ns badEntry badShare badPack badWords sram fx) s = .next t ∧
        t.containedBy x (Code.LANTERN_FIELD_LATE) s.drover.k ∧ t.tally = s.tally ∧ t.staging = s.staging ∧ t.hold = s.hold)

/-- The exit check of the oldest settled row: the carries that have come for it are applied, the row leaves the hold, its stripe's exit row
moves past it, and its pixels that are not served stand in the stripe's deficit list, in column order (R24, R190, R192 to R194). When
the row may be checked is the model's reading of R24 and R232 (State.headReady, log entries 18 and 165). -/
def Obligations.ExitCheckLists : Prop :=
  ∀ (w v : PixRow) (x : Stripe) (d : DefList) (fx : ExitFaults) (s : State), s.Inv → s.hold.head? = some w → s.headReady = true → s.fatal = 0 →
    s.containedS = none →
    let u := s.applyFor (fun a => a.ord = w.ord && decide (s.carryRow a = some w.row))
    u.hold.head? = some v → u.byOrd v.ord = some x → x.aborting = false → x.st = .writing ∨ (x.st = .draining ∧ v.row + 1 < x.endRow) →
    u.list? x = some d → d.entries.length + (u.exitEntries x v fx).length ≤ 65536 →
    ∃ t, exec (.exitCheck fx) s = .next t ∧ t.hold = u.hold.filter (fun h => ¬ (h.ord = v.ord ∧ h.row = v.row)) ∧
      (∃ y ∈ t.stripes, y.ord = x.ord ∧ y.exitRow = v.row + 1) ∧
      (∃ e ∈ (t.job x.slot).lists, e.ord = d.ord ∧ e.entries = d.entries ++ u.exitEntries x v fx ∧ e.lastRow = some v.row) ∧
      (u.checking.map (·.ord) = some x.ord → t.rd R.TALLY_EXIT_ROW = (v.row + 1) % 2 ^ 32) ∧ t.tally = u.tally ∧ t.staging = s.staging ∧
      t.flink.carries = u.flink.carries ∧
      t.flink.frames.map (fun f => (f.lane, f.index, f.codes, f.settled)) = s.flink.frames.map (fun f => (f.lane, f.index, f.codes, f.settled))

/-! ### The Flock link -/

/-- A lane's next frame goes to the blankers in its turn and with its sequence number, behind the replays that wait, or is withheld and its
doses returned where it would be late, its lane is down or eight entries wait (R222 to R224); an acknowledged frame is marked so, and a frame
that is not, or of which nothing is heard, is counted, recorded and granted a replay where its deadline allows, which leaves with the next
that the lane sends (the model's reading of that moment: log entry 164); eight such in a row, or four silent ones, take the lane down (R227,
R232). -/
def Obligations.FramesTravel : Prop :=
  (∀ (lane lateNs : Nat) (slack : Option Nat) (x : Stripe) (f : LinkFrame) (s : State), s.Inv → s.sending = some x →
    (sortBy (·.index) (s.flink.frames.filter (fun f => f.lane = lane && f.ord = x.ord && !f.sent && !f.withheld && !f.dropped))).head? = some f →
    (f.flash : Int) ≤ s.sendLimit x →
    ((s.lane lane).up = true → (s.lane lane).due = [] → s.entries lane < 8 → slack ≠ none ∨ s.runFresh x = true →
      let g := { f with sent := true, seq := (s.lane lane).seq, echoReq := s.wantsEcho lane }
      ∃ t, exec (.frameSend lane slack lateNs) s = .next t ∧
        t = { s with regs := t.regs, flink := t.flink, out := .frame lane f.index false g.blocks :: s.out } ∧
        t.flink.frames = s.flink.frames.map (fun h => if h.lane = lane ∧ h.index = f.index then g
          else if h.lane = lane ∧ h.sent = true then { h with ended := true } else h) ∧
        (t.lane lane).st = 7 ∧ (t.lane lane).seq = ((s.lane lane).seq + 1) % 65536 ∧ (t.lane lane).late = lateNs ∧
        (∀ l, l ≠ lane → t.lane l = s.lane l) ∧ s.regsBut t [R.FLINK_BANK] ∧ t.fld R.FLINK_BANK 3 0 = f.bank % 16) ∧
    ((s.lane lane).up = false ∨ 8 ≤ s.entries lane ∨ (slack = none ∧ s.runFresh x = false) → 256 < s.logFree →
      ∃ t, exec (.frameSend lane slack lateNs) s = .next t ∧
        t = { s with regs := t.regs, log := t.log, flink := t.flink, trace := t.trace, out := t.out } ∧
        t.flink.carries = s.flink.carries ++ f.carry f.slots ∧
        t.flink.frames = s.flink.frames.map (fun g => if g.lane = lane ∧ g.index = f.index then
          { g with withheld := true, settled := true, returned := f.slots } else g) ∧
        t.rd R.FLINK_WITHHELD = min (2 ^ 32 - 1) (s.rd R.FLINK_WITHHELD + 1) ∧ t.newest Code.FLINK_WITHHELD 1 4 lane 0xFFF (f.index % 2 ^ 24))) ∧
  (∀ (m : BitVec 64) (copyBad : Bool) (slack : Option Nat) (f : LinkFrame) (s : State), s.fatal = 0 → msgOk m = true → msgType m = 1 →
    s.sentBy (msgLane m) (msgFlash m) = some f →
    (fieldOf m.toNat 13 13 = 0 → (s.lane f.lane).due = [] →
      ∃ t, exec (.rxStatus m copyBad slack) s = .next t ∧ t = { s with flink := t.flink } ∧
        t.flink.frames = s.flink.frames.map (fun g => if g.lane = f.lane ∧ g.index = f.index then { g with acked := true, ended := true } else g) ∧
        t.lane f.lane = { s.lane f.lane with naksRow := 0, silentRow := 0 } ∧ ∀ l, l ≠ f.lane → t.lane l = s.lane l) ∧
    (∀ i ns g, fieldOf m.toNat 13 13 = 0 → (s.lane f.lane).due = [(i, ns)] → s.frame? f.lane i = some g →
      ∃ t, exec (.rxStatus m copyBad slack) s = .next t ∧ (t.lane f.lane).due = [] ∧
        Out.frame f.lane i true { g with replayed := true, ended := false }.blocks ∈ t.out ∧
        t.rd R.FLINK_RETX_COUNT = min (2 ^ 32 - 1) (s.rd R.FLINK_RETX_COUNT + 1)) ∧
    (fieldOf m.toNat 13 13 = 1 → (s.lane f.lane).due = [] → copyBad = false → f.damaged = false → (s.lane f.lane).naksRow < 7 → 256 < s.logFree →
      ∃ t, exec (.rxStatus m copyBad slack) s = .next t ∧
        t = { s with regs := t.regs, log := t.log, flink := t.flink, trace := t.trace, out := t.out } ∧
        t.rd R.FLINK_NAK_COUNT = min (2 ^ 32 - 1) (s.rd R.FLINK_NAK_COUNT + 1) ∧ t.newest Code.FLINK_NAK 1 4 f.lane 0xFFF (f.index % 2 ^ 24) ∧
        t.flink.frames = s.flink.frames.map (fun g => if g.lane = f.lane ∧ g.index = f.index then { g with ended := true } else g) ∧
        (t.lane f.lane).naksRow = (s.lane f.lane).naksRow + 1 ∧ (t.lane f.lane).silentRow = 0 ∧
        (slack = none ∨ f.index ∈ s.flink.strobed → (t.lane f.lane).due = []) ∧
        ∀ ns, slack = some ns → f.index ∉ s.flink.strobed → (t.lane f.lane).due = [(f.index, ns)])) ∧
  ∀ (lane flash : Nat) (copyBad : Bool) (slack : Option Nat) (f : LinkFrame) (s : State), s.frame? lane flash = some f → f.sent = true →
    f.acked = false → f.settled = false → f.dropped = false → (s.lane lane).due = [] → (s.lane lane).up = true → s.fatal = 0 →
    copyBad = false → f.damaged = false →
    ∃ t, exec (.rxStatusTimeout lane flash copyBad slack) s = .next t ∧
      t.rd R.FLINK_NAK_COUNT = min (2 ^ 32 - 1) (s.rd R.FLINK_NAK_COUNT + 1) ∧
      if 7 ≤ (s.lane lane).naksRow ∨ 3 ≤ (s.lane lane).silentRow then (t.lane lane).st = 0 ∧ (t.lane lane).wentDown = true
      else (t.lane lane).st = (s.lane lane).st ∧ (t.lane lane).naksRow = (s.lane lane).naksRow + 1 ∧
        (t.lane lane).silentRow = (s.lane lane).silentRow + 1

/-- A LATCH of a strobed flash settles its frame by its status: all exposed; all missed, its doses returned; some missed, which waits for
their slots; or cut, its doses unknown; one that asked for an ECHO waits for that too (R226, R228, R231). A SLOT_MISS adds its slot, and the
last of them settles the frame and returns their doses. An ECHO whose CRC is the frame's own is counted; any other makes the frame's doses
unknown and is recorded with both (R242, R243). A report that is late is asked for again, up to three times; after that its lane goes down
(R229). -/
def Obligations.ReportsSettleFrames : Prop :=
  ((∀ (m : BitVec 64) (i : Nat) (f : LinkFrame) (s : State), s.fatal = 0 → msgOk m = true → msgType m = 2 → s.discarded (msgFlash m) = false →
    s.strobedBy (msgFlash m) = some i → (s.lane (msgLane m)).since ≤ i → s.frame? (msgLane m) i = some f → f.withheld = false →
    f.dropped = false → f.cut = false → f.latched = none → f.settled = false → f.damaged = false → f.counted = false →
    let status := fieldOf m.toNat 29 28
    let count := fieldOf m.toNat 27 16
    let made := fun (h : LinkFrame → LinkFrame) => s.flink.frames.map (fun g => if g.lane = f.lane ∧ g.index = f.index then
      h { g with latched := some (status, count), ended := true } else g)
    ∃ t, exec (.latch m false) s = .next t ∧
      (status = 0 → f.missed = [] → t = { s with flink := t.flink } ∧ t.flink.carries = s.flink.carries ∧
        (f.echoReq = false ∨ f.echoed ≠ none → t.flink.frames = made (fun g => { g with settled := true })) ∧
        (f.echoReq = true → f.echoed = none → t.flink.frames = made id)) ∧
      (status = 1 → t.flink.carries = s.flink.carries ++ f.carry f.slots ∧
        t.rd R.FLINK_MISS_COUNT = min (2 ^ 32 - 1) (s.rd R.FLINK_MISS_COUNT + 1) ∧
        (f.echoReq = false → 256 < s.logFree →
          t.newest Code.FLINK_MISSED 1 4 f.lane 0xFFF (f.index % 2 ^ 24) ∧
          t.flink.frames = made (fun g => { g with returned := f.slots ++ g.returned, settled := true }))) ∧
      (status = 2 → f.missed.length < count → t = { s with flink := t.flink } ∧ t.flink.frames = made id ∧ t.flink.carries = s.flink.carries) ∧
      (status = 3 → t.flink.carries = s.flink.carries ++ f.unknown false ∧
        (f.echoReq = false → 256 < s.logFree → t.newest Code.FLINK_CUT 2 4 f.lane 0xFFF (f.index % 2 ^ 24) ∧
          t.flink.frames = made (fun g => { g with cut := true, settled := true })))) ∧
  ∀ (m : BitVec 64) (n : Nat) (f : LinkFrame) (s : State), s.fatal = 0 → msgOk m = true → msgType m = 3 → fieldOf m.toNat 17 16 = 0 →
    (s.strobedBy (msgFlash m)).bind (s.frame? (msgLane m)) = some f → f.sent = true → f.withheld = false → f.dropped = false →
    f.settled = false → f.damaged = false → f.latched = some (2, n) → f.counted = false →
    (∀ k ∈ f.missed, k.1 ≠ fieldOf m.toNat 29 18) → f.echoReq = false →
    let g := { f with missed := (fieldOf m.toNat 29 18, 0) :: f.missed }
    ∃ t, exec (.slotMiss m) s = .next t ∧
      (g.missed.length < n → t = { s with flink := t.flink } ∧ t.flink.carries = s.flink.carries ∧ g ∈ t.flink.frames) ∧
      (n ≤ g.missed.length → t.flink.carries = s.flink.carries ++ g.carry g.lostSlots ∧
        t.rd R.FLINK_MISS_COUNT = min (2 ^ 32 - 1) (s.rd R.FLINK_MISS_COUNT + g.missed.length) ∧
        ∃ h ∈ t.flink.frames, h.lane = f.lane ∧ h.index = f.index ∧ h.missed = g.missed ∧ h.returned = g.lostSlots ++ f.returned ∧
          h.counted = true ∧ h.settled = true)) ∧
  ((∀ (m : BitVec 64) (f : LinkFrame) (s : State), s.fatal = 0 → msgOk m = true → msgType m = 4 → (s.lane (msgLane m)).st ≠ 5 →
    s.flink.frames.find? (fun f => f.lane = msgLane m && f.index % 2 ^ 14 = fieldOf m.toNat 53 40 && f.sent && f.echoReq && !f.dropped) = some f →
    f.echoed = none →
    let got := fieldOf m.toNat 39 8
    ∃ t, exec (.echo m) s = .next t ∧ t.rd R.MIRROR_ECHOES = min (2 ^ 32 - 1) (s.rd R.MIRROR_ECHOES + 1) ∧
      (got = f.crcOf → t.rd R.MIRROR_MISMATCHES = s.rd R.MIRROR_MISMATCHES ∧
        ∃ g ∈ t.flink.frames, g.lane = f.lane ∧ g.index = f.index ∧ g.echoed = some got) ∧
      (got ≠ f.crcOf → t.rd R.MIRROR_MISMATCHES = min (2 ^ 32 - 1) (s.rd R.MIRROR_MISMATCHES + 1) ∧
        t.rd R.MIRROR_LAST = (f.lane * 2 ^ 24 + f.index % 2 ^ 24) % 2 ^ 32 ∧ t.rd R.MIRROR_EXPECT = f.crcOf % 2 ^ 32 ∧ t.rd R.MIRROR_GOT = got ∧
        t.flink.carries = s.flink.carries ++ f.unknown true ∧
        (256 < s.logFree → t.newest Code.MIRROR_MISMATCH 2 4 f.lane 0xFFF (f.index % 2 ^ 24) ∧
          { f with settled := true, echoed := some got } ∈ t.flink.frames))) ∧
  (∀ (lane flash : Nat) (f : LinkFrame) (s : State), s.awaited lane flash = some f → f.again = 0 → s.fatal = 0 →
    ∃ t, exec (.flinkReportLate lane flash) s = .next t ∧ Out.control lane 0xB4 (flash % 2 ^ 24) ∈ t.out ∧
      t.rd R.FLINK_REPORT_LATE = min (2 ^ 32 - 1) (s.rd R.FLINK_REPORT_LATE + 1) ∧
      (256 < s.logFree → t.newest Code.FLINK_REPORT_LATE 1 4 lane 0xFFF (flash % 2 ^ 24) ∧
        t.flink.frames = s.flink.frames.map (fun g => if g.lane = lane ∧ g.index = flash then { g with again := 1 } else g))) ∧
  ∀ (lane flash : Nat) (f : LinkFrame) (s : State), s.awaited lane flash = some f → f.again ≠ 0 → s.fatal = 0 →
    ∃ t, exec (.reportAgainRetry lane flash) s = .next t ∧
      (f.again < 3 → t = { s with flink := t.flink, out := .control lane 0xB4 (flash % 2 ^ 24) :: s.out } ∧
        t.flink.frames = s.flink.frames.map (fun g => if g.lane = lane ∧ g.index = flash then { g with again := f.again + 1 } else g)) ∧
      (3 ≤ f.again → (t.lane lane).st = 0 ∧ (t.lane lane).wentDown = true))

/-- What the blankers say of themselves: a head sensor's reading, or its silence, is held (R237); a capability word is taken, and once both
stand twice a lane that cannot bear the settings fails (R217, R218); an event is kept, and an interlock takes its lane down (R232); a
return lane that loses lock takes down every lane that reports on it (R209, R232). -/
def Obligations.BlankersReport : Prop :=
  (∀ (m : BitVec 64) (s : State), s.fatal = 0 → msgOk m = true → msgType m = 5 → msgLane m < s.headSensors →
    ∃ t, exec (.sensor m) s = .next t ∧ t = { s with flink := { s.flink with sensors := t.flink.sensors } } ∧
      kget? t.flink.sensors (msgLane m) =
        some (if fieldOf m.toNat 37 36 = 0 then some (signedOf 16 (fieldOf m.toNat 53 38)) else none)) ∧
  (∀ (i : Nat) (s : State), i < s.headSensors → s.fatal = 0 → 256 < s.logFree →
    ∃ t, exec (.flinkSensorSilent i) s = .next t ∧ t = { s with regs := t.regs, log := t.log, flink := t.flink, trace := t.trace, out := t.out } ∧
      kget? t.flink.sensors i = some none ∧ t.newest Code.FLINK_SENSOR_SILENT 1 8 i 0 0) ∧
  (∀ (m : BitVec 64) (s : State), s.fatal = 0 → msgOk m = true → msgType m = 6 → (s.lane (msgLane m)).st = 3 → fieldOf m.toNat 53 50 ≤ 1 →
    let x := (s.lane (msgLane m)).takeCaps (fieldOf m.toNat 53 50) (fieldOf m.toNat 49 8)
    let u := s.setLane (msgLane m) x
    let broken := (u.ratesOf (msgLane m)).head?.bind (fun r => u.laneLimits { x with rate := r } u.maxRate false)
    ∃ t, exec (.blankerCaps m) s = .next t ∧
      (x.capsDone = false ∨ broken = none → t = { s with flink := t.flink } ∧ t.lane (msgLane m) = x ∧ ∀ l, l ≠ msgLane m → t.lane l = s.lane l) ∧
      (∀ c, x.capsDone = true → broken = some c → 256 < s.logFree →
        t.lane (msgLane m) = { x with st := 9 } ∧ (∀ l, l ≠ msgLane m → t.lane l = s.lane l) ∧
        t.newest Code.FLINK_LANE_CAPS 1 8 (msgLane m) c 0)) ∧
  (∀ (m : BitVec 64) (s : State), s.fatal = 0 → msgOk m = true → msgType m = 7 →
    ∃ t, exec (.blankerEvent m) s = .next t ∧
      t.flink.events = (msgLane m, fieldOf m.toNat 53 48, fieldOf m.toNat 47 8) :: s.flink.events ∧
      (fieldOf m.toNat 53 48 = 0 → (t.lane (msgLane m)).up = false) ∧
      (fieldOf m.toNat 53 48 = 2 → 1 ≤ (s.lane (msgLane m)).st → (s.lane (msgLane m)).st ≤ 5 → (t.lane (msgLane m)).st = 9) ∧
      (fieldOf m.toNat 53 48 ≠ 0 → fieldOf m.toNat 53 48 ≠ 2 → t = { s with flink := t.flink } ∧ t.flink.frames = s.flink.frames ∧
        ∀ l, t.lane l = s.lane l)) ∧
  ∀ (q : Nat) (s : State), q ≤ 7 → s.flink.rx.testBit q = true → s.fatal = 0 →
    ∃ t, exec (.returnLaneLockLost q) s = .next t ∧ t.flink.rx = s.flink.rx - 2 ^ q ∧
      ∀ l, l ≤ 63 →
        if ((s.lane l).up = true ∨ (s.lane l).st = 8) ∧ fieldOf (s.lane l).caps1 9 7 = q then
          (t.lane l).st = 0 ∧ (t.lane l).prevRate = (s.lane l).rate ∧ (t.lane l).wentDown = true ∧ (t.lane l).naksRow = 0 ∧ (t.lane l).silentRow = 0
        else (t.lane l).st = (s.lane l).st ∧ (t.lane l).rate = (s.lane l).rate ∧ (t.lane l).seq = (s.lane l).seq

/-- A lane's training, from block lock through its capabilities, the highest rate it may take, its eye and its verification, with its test
frames, into service, with each stage's failure; training begun again; low-power idle and the wake from it; and an eye scan of an idle lane
(R209, R215, R218, R219, R239, R240). That a lane woken goes on from LOCK to IDLE is the model's reading (log entry 166). -/
def Obligations.LanesTrain : Prop :=
  ∀ (lane : Nat) (s : State), lane ≤ 63 → s.fatal = 0 →
    ((s.lane lane).st = 1 →
      ∃ t, exec (.laneBlockLock lane false) s = .next t ∧ t = { s with flink := t.flink } ∧ t.lane lane = { s.lane lane with st := 2 } ∧
        ∀ l, l ≠ lane → t.lane l = s.lane l) ∧
    ((s.lane lane).st = 2 →
      ((s.lane lane).quick = false →
        ∃ t, exec (.laneBlockLock lane false) s = .next t ∧ t.lane lane = { s.lane lane with st := 3, got := 0 } ∧
          t = { s with flink := t.flink, out := .control lane 0x87 (s.fld R.FLINK_CFG 3 0 + 6 * 16 + 128 + 8 * 256) :: s.out } ∧
          ∀ l, l ≠ lane → t.lane l = s.lane l) ∧
      ((s.lane lane).quick = true → s.tooNarrow lane = false →
        ∃ t, exec (.laneBlockLock lane false) s = .next t ∧ (t.lane lane).st = 6 ∧ (t.lane lane).quick = false ∧
          Out.control lane 0x66 s.nextIndex ∈ t.out ∧ ∀ l, l ≠ lane → t.lane l = s.lane l)) ∧
    ((s.lane lane).st = 1 ∨ (s.lane lane).st = 2 →
      ∃ t, exec (.laneBlockLock lane true) s = .next t ∧ (t.lane lane).st = 9 ∧
        (256 < s.logFree → t.lane lane = { s.lane lane with st := 9 } ∧ t.newest Code.FLINK_LANE_ORDER 1 8 lane 0 0)) ∧
    (∀ r, (s.lane lane).st = 3 → (s.lane lane).capsDone = true → s.flink.rx.testBit (fieldOf (s.lane lane).caps1 9 7) = true →
      (s.ratesOf lane).head? = some r → s.tooNarrow lane = false →
      ∃ t, exec (.laneCapsDone lane) s = .next t ∧ t = { s with flink := t.flink } ∧ t.lane lane = { s.lane lane with st := 4, rate := r } ∧
        ∀ l, l ≠ lane → t.lane l = s.lane l) ∧
    (∀ w h, (s.lane lane).st = 4 →
      ((s.eyeMin lane).1 ≤ w → (s.eyeMin lane).2 ≤ h →
        ∃ t, exec (.laneEyeMeasured lane w h) s = .next t ∧ t = { s with flink := t.flink, out := t.out } ∧
          t.lane lane = { s.lane lane with st := 5, eyeW := w, eyeH := h, seq := ((s.lane lane).seq + 1024) % 65536, tested := [] } ∧
          (∀ l, l ≠ lane → t.lane l = s.lane l) ∧ t.out.head? = some (.tests lane (s.testFrames lane (s.lane lane).seq))) ∧
      (∀ r, w < (s.eyeMin lane).1 ∨ h < (s.eyeMin lane).2 → (s.ratesOf lane).find? (fun r => decide (r < (s.lane lane).rate)) = some r →
        ∃ t, exec (.laneEyeMeasured lane w h) s = .next t ∧ t = { s with flink := t.flink } ∧
          t.lane lane = { s.lane lane with rate := r, eyeW := w, eyeH := h } ∧ ∀ l, l ≠ lane → t.lane l = s.lane l)) ∧
    ((s.lane lane).st = 5 → s.tooNarrow lane = false → s.laneLimits (s.lane lane) s.maxRate true = none →
      ∃ t, exec (.laneVerifyDone lane true) s = .next t ∧ (t.lane lane).st = 6 ∧ (t.lane lane).rate = (s.lane lane).rate ∧
        (t.lane lane).width = s.fld R.SHEPHERD_CODE_WIDTH 2 0 ∧ (t.lane lane).wentDown = false ∧ Out.control lane 0x66 s.nextIndex ∈ t.out ∧
        (256 < s.logFree → ∀ l, l ≠ lane → t.lane l = s.lane l)) ∧
    (1 ≤ (s.lane lane).st → (s.lane lane).st ≤ 5 →
      ∃ t, exec (.flinkTrainFail lane) s = .next t ∧ (t.lane lane).st = 9 ∧
        (256 < s.logFree → t.lane lane = { s.lane lane with st := 9 } ∧ t.newest Code.FLINK_TRAIN_FAIL 1 8 lane 0 0)) ∧
    (∀ o v, s.permit o R.FLINK_RETRAIN v = .ok s → s.enabled 17 = true → fieldOf v 8 8 = 0 → fieldOf v 5 0 = lane →
      ∃ t, exec (.retrain o v) s = .next t ∧ t = { s with flink := t.flink, trace := t.trace, out := t.out } ∧ (∀ l, l ≠ lane → t.lane l = s.lane l) ∧
        if s.writing = none then (t.lane lane).st = 1 ∧ (t.lane lane).wentDown = false ∧ t.out = .control lane 0xAA 0 :: s.out
        else t.lane lane = { s.lane lane with wentDown := true } ∧ t.out = s.out) ∧
    ((s.lane lane).wentDown = true → s.enabled 17 = true → (∀ x ∈ s.stripes, x.st ≠ .writing ∧ x.st ≠ .draining ∧ x.st ≠ .contained) →
      ∃ t, exec (.laneRetrainTurnaround lane) s = .next t ∧ t = { s with flink := t.flink, out := .control lane 0xAA 0 :: s.out } ∧
        (t.lane lane).st = 1 ∧ (t.lane lane).wentDown = false ∧ ∀ l, l ≠ lane → t.lane l = s.lane l) ∧
    ((s.lane lane).st = 6 →
      (s.anyArmed = false ∨ s.clockHeld = true →
        ∃ t, exec (.lpiEntry lane) s = .next t ∧ t = { s with flink := t.flink, out := .control lane 0x99 0 :: s.out } ∧
          t.lane lane = { s.lane lane with st := 8 }) ∧
      ∀ w h, s.writing = none →
        ∃ t, exec (.laneEyeScan lane w h) s = .next t ∧ t = { s with flink := t.flink } ∧ t.lane lane = { s.lane lane with eyeW := w, eyeH := h })

/-! ### Drover and DEFL -/

/-- A flash fires once the demand has reached the band, the rate allows it and its frames are out: the row index and the flash index move
on, the strobe leaves the block, and the flash waits to be confirmed (R9, R266, R674); before that a sample moves the gearing only, and one
whose demand is past 3 rows in TRACK contains the stripe (R270). A confirmed flash confirms its frames, and one that was cut makes the doses
of those it was sent with unknown (R231, R258). -/
def Obligations.FlashesFire : Prop :=
  (∀ (smp : Sample) (since : Nat) (x : Stripe) (s : State), s.Inv → s.sending = some x → x.st = .writing → s.drover.st = 1 ∨ s.drover.st = 2 →
    let u := (s.sample x smp).peak
    let f := (s.drover.k + 1).toNat
    (s.active = some x → u.tooFar false = true →
      ∃ t, exec (.flashFire smp since) s = .next t ∧ t.containedBy x Code.DROVER_OVERSPEED s.drover.k) ∧
    (u.tooFar false = false → u.drover.demand < fieldOf (s.inForce R.DROVER_BAND) 8 0 → exec (.flashFire smp since) s = .next u) ∧
    (u.tooFar false = false → u.drover.ramping = false → (fieldOf (s.inForce R.DROVER_BAND) 8 0 : Int) ≤ u.drover.demand →
      u.rateAllows since = true → u.firstSent x = true → s.drover.k + 1 < x.nextCycle →
      ∃ t, exec (.flashFire smp since) s = .next t ∧ t.drover.k = f ∧ t.drover.lastIndex = x.flashBase + f ∧ t.drover.strobedEver = true ∧
        t.drover.unconfirmed = (x.flashBase + f) :: s.drover.unconfirmed ∧ t.flink.strobed = ((x.flashBase + f) :: s.flink.strobed).take 16 ∧
        t.rd64 R.DROVER_FLASH_L = (x.flashBase + f) % 2 ^ 64 ∧
        Out.strobe (x.flashBase + f) (s.stbDelay R.DROVER_STB_DELAY0) (s.stbDelay R.DROVER_STB_DELAY1) ∈ t.out ∧
        ∀ g ∈ t.flink.frames, g.ord = x.ord → g.flash = f → g.sent = true ∨ g.withheld = true)) ∧
  ∀ (flash : Nat) (s : State), flash ∈ s.drover.unconfirmed →
    ∃ t, exec (.flashConfirm flash) s = .next t ∧ t.drover.unconfirmed = s.drover.unconfirmed.filter (· ≠ flash) ∧
      t.drover.cut = s.drover.cut.filter (· ≠ flash) ∧
      (flash ∉ s.drover.cut → t = { s with flink := t.flink, drover := { s.drover with unconfirmed := t.drover.unconfirmed, cut := t.drover.cut } } ∧
        t.flink.carries = s.flink.carries ∧
        t.flink.frames = s.flink.frames.map (fun f => if f.index = flash then { f with confirmed := true } else f)) ∧
      (flash ∈ s.drover.cut → ∀ g ∈ s.flink.frames, g.index = flash → g.sent = true → g.withheld = false → g.cut = false → g.damaged = false →
        (∀ c ∈ g.unknown false, c ∈ t.flink.carries) ∧ ∃ h ∈ t.flink.frames, h.lane = g.lane ∧ h.index = flash ∧ h.cut = true ∧ h.confirmed = true)

/-- A position that is lost: the channel and its cause are held, the positions being those of the onset; with no eligible auxiliary channel a
loss of the main one contains the stripe in TRACK, and an eligible one takes over (R256 to R258, R285, R286); a demand past 768 contains it
too (R270). A good serial word ends a loss and is the channel's count (R252). -/
def Obligations.PositionLosses : Prop :=
  (∀ (ch cause : Nat) (l : Loss) (bits : List Bool) (c : Instr) (s : State), ch ≤ 3 → (s.enc ch).lost = false → s.fatal = 0 →
    (c = .positionLoss ch cause l ∧ causeOk (s.encMode ch) cause = true) ∨
      (c = .encFreeze ch l ∧ cause = 8 ∧ s.encMode ch ≠ 0 ∧ s.setpointMoves ch = true) ∨
      (c = .encWordSilent ch l ∧ cause = 7 ∧ s.encMode ch = 3) ∨
      (c = .encSerialWord ch bits l ∧ s.encMode ch = 3 ∧ serialWord (s.fld (encReg R.DROVER_ENC_MODE ch) 13 8) bits = .error cause) →
    let v := s.atOnset l
    ∃ t, exec c s = .next t ∧ (t.enc ch).lost = true ∧ (∀ i, i ≠ ch → t.enc i = v.enc i) ∧ t.rd R.DROVER_LOSS_CAUSE = ch * 256 + cause ∧
      (s.active = none → (∀ y ∈ s.stripes, y.st ≠ .draining) → s.cutBy cause l = [] →
        t = { s with regs := t.regs, drover := t.drover } ∧ s.regsBut t [R.DROVER_LOSS_CAUSE]) ∧
      (∀ i ∈ s.cutBy cause l, (rolesOf s.gearing.src).contains ch = true → i ∈ t.drover.cut) ∧
      (∀ x, s.active = some x → x.st = .writing → s.drover.st = 2 → ch = fieldOf s.gearing.src 1 0 → s.drover.aux = false →
        (s.auxEligible l = false → t.containedBy x Code.DROVER_POS_LOSS s.drover.k) ∧
        (s.auxEligible l = true → 256 < s.logFree →
          t.stripes = s.stripes ∧ t.drover.st = 2 ∧ t.drover.aux = true ∧ t.fld R.DROVER_STATE 8 8 = 1 ∧
          t.drover.oS = v.encPos ch - v.encPos (fieldOf s.gearing.src 5 4)))) ∧
  (∀ (ch n p : Nat) (warn : Bool) (bits : List Bool) (l : Loss) (s : State), ch ≤ 3 → s.encMode ch = 3 → s.fatal = 0 →
    n = s.fld (encReg R.DROVER_ENC_MODE ch) 13 8 → serialWord n bits = .ok (p, warn) →
    ∃ t, exec (.encSerialWord ch bits l) s = .next t ∧ t = { s with drover := t.drover } ∧ (∀ i, i ≠ ch → t.enc i = s.enc i) ∧
      t.enc ch = { s.enc ch with count := signedOf n p, sinceNs := 0, lost := false, warn := (s.enc ch).warn || warn,
                                 words := if (s.enc ch).lost then [signedOf n p] else signedOf n p :: (s.enc ch).words.take 1 }) ∧
  ∀ (smp : Sample) (inWindow : Bool) (x : Stripe) (s : State), s.active = some x → x.st = .writing → s.drover.st = 2 →
    768 < (s.sample x smp).drover.demand.natAbs →
    ∃ t, exec (.droverOverspeed smp inWindow) s = .next t ∧ t.containedBy x Code.DROVER_OVERSPEED s.drover.k

/-- The channels' references and modes: a reference pulse refers an incremental channel at the count it finds, and one that needs a reference
counts again from the one its stripe had (R255, R288); a detection starts on all four channels and ends with what was found on each
(R254). A zone boundary advances the gearing (R263). -/
def Obligations.ChannelsReferToZ : Prop :=
  (∀ (ch : Nat) (inp : ChanIn) (s : State), ch ≤ 3 → s.encMode ch = 1 ∨ s.encMode ch = 2 →
    let v := s.take ch inp
    let e := v.enc ch
    ∃ t, exec (.encZEdge ch inp) s = .next t ∧ t = { s with drover := t.drover } ∧ (∀ i, i ≠ ch → t.enc i = s.enc i) ∧
      (e.unref = false → t.enc ch = { e with zref := some (v.encPos ch) }) ∧
      (∀ r, e.unref = true → e.stripeRef = some r →
        t.enc ch = { e with unref := false, lost := false, off := e.off + (r - v.encPos ch), zref := some (t.encPos ch) } ∧
        (s.encScale ch ≠ 0 → -2 ^ 47 ≤ r → r < 2 ^ 47 → t.encPos ch = r)) ∧
      (e.unref = true → e.stripeRef = none → t.enc ch = { e with unref := false, lost := false, zref := some (v.encPos ch) })) ∧
  (∀ (o : Origin) (v : Nat) (s : State), s.permit o R.DROVER_DETECT v = .ok s → fieldOf v 0 0 = 1 →
    ∃ t, exec (.detect o v) s = .next t ∧ t = { s with drover := t.drover, trace := t.trace } ∧ t.drover.detecting = true ∧
      ∀ ch, t.enc ch = if ch ≤ 3 then { s.enc ch with detDone := false, detected := 0 } else s.enc ch) ∧
  (∀ (modes loopNs : List Nat) (s : State), s.drover.detecting = true →
    ∃ t, exec (.detectDone modes loopNs) s = .next t ∧ t = { s with drover := t.drover } ∧ t.drover.detecting = false ∧
      ∀ ch, ch ≤ 3 → t.enc ch = { s.enc ch with detDone := true, loopNs := loopNs.getD ch 0, detected :=
        (if modes.getD ch 0 % 4 = 3 ∧ loopNs.getD ch 0 * s.fld (encReg R.DROVER_ENC_MODE ch) 20 16 > 2000 then 0 else modes.getD ch 0 % 4) }) ∧
  ∀ (smp : Sample) (x : Stripe) (s : State), s.active = some x → s.drover.st ≠ 0 → s.drover.st ≠ 5 →
    let g := s.gearing
    let tr := g.travel x.srec.dir (s.see smp).mainPos
    let k := Gear.advance g.zones s.zoneTable g.trim tr 64 s.drover.gear
    ((s.sample x smp).tooFar false = false →
      ∃ t, exec (.zoneBoundary smp) s = .next t ∧ t = { s with regs := t.regs, drover := t.drover } ∧ t.drover.gear = k ∧ t.drover.y = k.y tr ∧
        t.drover.yPeak = max s.drover.yPeak (k.y tr) ∧ s.regsBut t [R.DROVER_ZONE_CTRL, R.DROVER_DEMAND]) ∧
    (x.st = .writing → (s.sample x smp).tooFar false = true →
      ∃ t, exec (.zoneBoundary smp) s = .next t ∧ t.containedBy x Code.DROVER_OVERSPEED s.drover.k)

/-- Standstill and rewind: the beams are shaded on the way in, and a run goes on once the stage has moved on by the hysteresis, or past its
furthest point, with the link up; with the link down the stripe is contained instead (R280 to R284). -/
def Obligations.StandstillAndRewind : Prop :=
  ∀ (x : Stripe) (smp : Sample) (s : State), s.writing = some x → s.active = some x →
    let u := s.sample x smp
    (s.drover.st = 2 →
      ∃ t, exec .stillEntry s = .next t ∧ t = { s with regs := t.regs, flink := t.flink, drover := t.drover, free := t.free, out := t.out } ∧
        t.drover = { s.drover with st := 3, yStill := s.drover.y } ∧ t.flink.shaded = true ∧ t.fld R.DROVER_STATE 3 0 = 3 ∧
        ∀ l, l < 64 → (s.lane l).up = true → Out.control l 0x4B 1 ∈ t.out) ∧
    (s.drover.st = 3 →
      (u.drover.y < u.drover.yStill + u.hyst → exec (.stillExit smp) s = .next u.peak) ∧
      (u.drover.yStill + u.hyst ≤ u.drover.y → s.deflDown = false →
        ∃ t, exec (.stillExit smp) s = .next t ∧ t.drover.st = 2 ∧ t.flink.shaded = false ∧ t.stripes = s.stripes ∧ t.drover.k = s.drover.k) ∧
      (u.drover.yStill + u.hyst ≤ u.drover.y → s.deflDown = true →
        ∃ t, exec (.stillExit smp) s = .next t ∧ t.containedBy x Code.DEFL_LINK_LOST s.drover.k)) ∧
    (s.drover.st = 2 ∨ s.drover.st = 3 →
      (u.tooFar false = false → u.drover.yPeak - u.hyst ≤ u.drover.y → exec (.rewindGuard smp) s = .next u.peak) ∧
      (u.tooFar false = false → u.drover.y < u.drover.yPeak - u.hyst → 256 < s.logFree →
        ∃ t, exec (.rewindGuard smp) s = .next t ∧ t.drover = { u.drover with st := 4 } ∧ t.flink.shaded = true ∧ t.stripes = s.stripes ∧
          t.newest Code.DROVER_REWIND 1 0 0 0 0) ∧
      (u.tooFar false = true → ∃ t, exec (.rewindGuard smp) s = .next t ∧ t.containedBy x Code.DROVER_OVERSPEED s.drover.k)) ∧
    (s.drover.st = 4 →
      (u.drover.y < u.drover.yPeak → exec (.rewindExit smp) s = .next u) ∧
      (u.drover.yPeak ≤ u.drover.y → s.deflDown = false →
        ∃ t, exec (.rewindExit smp) s = .next t ∧ t.drover.st = 2 ∧ t.drover.yPeak = u.drover.y ∧ t.flink.shaded = false ∧ t.stripes = s.stripes))

/-- The deflection outputs follow the demand through the tables, hold, or move to their offsets (R274, R280); an output that would be
clamped in a dose window contains the stripe (R276). The link: the first SYSREF edge aligns it, a slip is counted, and a change that takes
it down contains the stripe in TRACK and is recorded while nothing runs (R278, R279). -/
def Obligations.DeflectionLink : Prop :=
  (∀ (smp : Sample) (vel : Int × Int) (inWindow : Bool) (s : State), s.enabled 16 = true →
    (s.active = none →
      ∃ t, exec (.deflOutputSample smp vel inWindow) s = .next t ∧
        t = { s with regs := t.regs, drover := t.drover, out := .converters t.drover.out :: s.out } ∧
        t.drover = { (s.see smp).drover with out := (s.drover.out.zip s.parkOut).map (fun p => slewTo (s.fld R.DEFL_SLEW 15 0) p.1 p.2) } ∧
        s.regsBut t [R.DEFL_OUT_T, R.DEFL_OUT_A]) ∧
    ∀ x, s.active = some x →
      let v := (s.sample x smp).peak
      (s.drover.st = 1 ∨ s.drover.st = 2 → v.tooFar inWindow = false → s.drover.ramping = false →
        (v.trackOut x vel).map clamp16 = v.trackOut x vel →
        ∃ t, exec (.deflOutputSample smp vel inWindow) s = .next t ∧
          t = { v with regs := t.regs, drover := { v.drover with out := v.trackOut x vel }, out := .converters (v.trackOut x vel) :: s.out } ∧
          v.regsBut t [R.DEFL_OUT_T, R.DEFL_OUT_A]) ∧
      (s.drover.st = 3 → s.parks = false →
        ∃ t, exec (.deflOutputSample smp vel inWindow) s = .next t ∧ t = { v with regs := t.regs, out := .converters s.drover.out :: s.out } ∧
          v.regsBut t [R.DEFL_OUT_T, R.DEFL_OUT_A])) ∧
  (∀ (x : Stripe) (s : State), s.writing = some x → s.active = some x → s.drover.st = 2 →
    (∃ t, exec .deflSaturated s = .next t ∧ t.containedBy x Code.DEFL_SATURATED s.drover.k ∧
      (s.drover.lastIndex ∈ s.drover.unconfirmed → s.drover.lastIndex ∈ t.drover.cut)) ∧
    (s.deflDown = false → ∀ (c : Instr) (o : Origin) (v : Nat) (inWindow : Bool),
      c = .sysrefAbsent inWindow ∨ c = .jesdPllUnlock inWindow ∨
        (c = .peerFault o v inWindow ∧ s.permit o R.DEFL_PEER_FAULT v = .ok s ∧ s.auditFull = false ∧ v % 2 = 1) →
      ∃ t, exec c s = .next t ∧ t.deflDown = true ∧ t.containedBy x Code.DEFL_LINK_LOST s.drover.k)) ∧
  (∀ s : State, s.enabled 16 = true →
    (∃ t, exec .jesdPllLock s = .next t ∧ t = { s with drover := { s.drover with pll := true } }) ∧
    ∀ offBy : Nat,
      (s.drover.aligned = false → exec (.sysrefEdge offBy) s = .next { s with drover := { s.drover with aligned := true } }) ∧
      (s.drover.aligned = true → offBy ≤ 1 → exec (.sysrefEdge offBy) s = .next s) ∧
      (s.drover.aligned = true → 1 < offBy →
        ∃ t, exec (.sysrefEdge offBy) s = .next t ∧ t.rd R.DEFL_SYSREF_SLIPS = min (2 ^ 32 - 1) (s.rd R.DEFL_SYSREF_SLIPS + 1) ∧
          (s.writing ≠ none → t = { s with regs := t.regs, drover := { s.drover with slipPending := true } }) ∧
          (s.writing = none → 256 < s.logFree → t.newest Code.DEFL_SYSREF_SLIP 1 0 0 0 0))) ∧
  ∀ (inWindow : Bool) (s : State), s.deflDown = false → s.drover.st = 0 → 256 < s.logFree →
    (∃ t, exec (.sysrefAbsent inWindow) s = .next t ∧ t.deflDown = true ∧ t.newest Code.DEFL_LINK_LOST 1 0 0 0 0 ∧ t.stripes = s.stripes) ∧
    ∃ t, exec (.jesdPllUnlock inWindow) s = .next t ∧ t.deflDown = true ∧ t.newest Code.DEFL_LINK_LOST 1 0 0 0 0 ∧ t.stripes = s.stripes

/-! ### The stage profile -/

/-- The stage profile generator: each tick moves the axes by their jerks and sends the set-point (R298, R319); a run goes from its
turnaround to run-up, run-out and its end, and one that ends while its stripe still writes contains it (R304 to R307); a host move ends in
its own phase and names its target (R317). -/
def Obligations.StageMoves : Prop :=
  (∀ (jy jx : Int) (s : State), s.profRuns = true → s.profile.y.allows (s.vMax 0) (s.aMax 0) (s.jMax 0) jy = true →
    s.profile.x.allows (s.vMax 1) (s.aMax 1) (s.jMax 1) jx = true → jy = 0 ∨ s.profile.movable 0 = true → jx = 0 ∨ s.profile.movable 1 = true →
    ∃ t, exec (.setpointFrame jy jx) s = .next t ∧ t = { s with regs := t.regs, profile := t.profile, out := t.out } ∧
      t.profile.y = { s.profile.y with a := s.profile.y.a + jy, v := s.profile.y.v + s.profile.y.a + jy, p := s.profile.y.p + s.profile.y.v + s.profile.y.a + jy } ∧
      t.profile.x = { s.profile.x with a := s.profile.x.a + jx, v := s.profile.x.v + s.profile.x.a + jx, p := s.profile.x.p + s.profile.x.v + s.profile.x.a + jx } ∧
      s.regsBut t [statusOf 15, R.PROFILE_FRAMES] ∧
      (s.profOut = 1 → t.profile.seq = (s.profile.seq + 1) % 256 ∧ t.rd R.PROFILE_FRAMES = min (2 ^ 32 - 1) (s.rd R.PROFILE_FRAMES + 1) ∧
        ∃ b l, t.out = .setpoint b l :: s.out ∧ b.length = 24 ∧ l.length = 250)) ∧
  (∀ (x : Stripe) (s : State), s.nextRun = some x → s.profRuns = true → s.profile.phase = 0 → s.profile.held = false → s.profile.stop = false →
    (∀ y ∈ s.stripes, y.st = .writing → s.profile.runId ≠ some (y.slot, y.id, y.pass)) → 256 < s.logFree →
    ∃ t, exec .turnaroundStart s = .next t ∧ t.profile.phase = 5 ∧ t.profile.runId = some (x.slot, x.id, x.pass) ∧ t.profile.runDone = false ∧
      t.profile.pause = s.thermPause ∧ t.profile.y = { s.profile.y with target := some (s.runOf x.slot x.id).yStart } ∧
      t.profile.x = (if s.fld R.PROFILE_CFG 4 4 = 1 then { s.profile.x with target := some (s.runOf x.slot x.id).xPos } else s.profile.x) ∧
      t.stripes = s.stripes) ∧
  (∀ (r : RunRec) (s : State), s.run? = some r → s.profRuns = true →
    (∀ smp : Sample, s.profile.phase = 1 → (s.see smp).holdReg = 0 → s.profile.stop = false →
      let u := { s.see smp with profile := { s.profile with phase := 2, held := false, runDone := false, y := { s.profile.y with target := none } } }
      ∃ t, exec (.runupStart smp) s = .next t ∧ (u.wantsClamp = false → t = u) ∧
        (u.wantsClamp = true → 256 < s.logFree → t.profile = { u.profile with limitedSent := true } ∧ t.fld R.PROFILE_LIMITED 0 0 = 1 ∧
          t.stripes = s.stripes)) ∧
    (s.profile.phase = 2 ∨ s.profile.phase = 3 → 256 < s.logFree →
      ∃ t, exec .runoutStart s = .next t ∧ t.profile.phase = 4 ∧ t.profile.y = { s.profile.y with target := some r.yEnd } ∧ t.profile.x = s.profile.x ∧
        t.stripes = s.stripes)) ∧
  (∀ (fits : List (Nat × List Byte)) (s : State), s.profRuns = true → s.profile.phase = 4 → s.profile.y.there = true →
    ∃ t, exec (.runEnd fits) s = .next t ∧ t.profile.runDone = true ∧ t.profile.y = s.profile.y ∧
      (s.runStripe = none → t.profile.phase = 0 ∧ t.stripes = s.stripes) ∧
      ∀ x, s.runStripe = some x → s.active = some x → x.st = .writing → s.drover.k < x.lastFlash → t.containedBy x Code.PROFILE_RUN_END s.drover.k) ∧
  (∀ s : State, s.profRuns = true → s.profile.y.there = true → s.profile.x.there = true →
    (s.profile.phase = 5 → ∃ t, exec .moveEnd s = .next t ∧ t = { s with profile := { s.profile with phase := t.profile.phase } } ∧
      t.profile.phase = if s.profile.runId.isSome then 1 else 0) ∧
    (s.profile.phase = 6 → s.profile.held = false → ∃ t, exec .moveEnd s = .next t ∧
      t = { s with profile := { s.profile with phase := t.profile.phase, hostMove := false, y := { s.profile.y with target := none } } } ∧
      t.profile.phase = if s.profile.hostMove then 2 else if s.profile.runId.isSome then 1 else 0)) ∧
  ∀ (o : Origin) (v : Nat) (s : State), s.permit o R.PROFILE_MOVE v = .ok s → s.profRuns = true → s.profile.stop = false → 256 < s.logFree →
    (fieldOf v 0 0 = 1 → fieldOf v 1 1 = 0 → s.profile.phase ≤ 1 →
      ∃ t, exec (.move o v) s = .next t ∧ t.profile.phase = 6 ∧ t.profile.x = s.profile.x ∧ t.stripes = s.stripes ∧
        t.profile.y = { s.profile.y with target := some (signedOf 48 (s.rd R.PROFILE_TARGET_Y_L + 2 ^ 32 * s.rd (R.PROFILE_TARGET_Y_L + 4))) }) ∧
    (fieldOf v 0 0 = 0 → fieldOf v 1 1 = 1 → 2 ≤ s.profile.phase → s.profile.phase ≤ 4 → v < 2 ^ 32 →
      ∃ t, exec (.move o v) s = .next t ∧ t.profile = s.profile ∧ t.newest Code.PROFILE_MOVE_X_RUN 7 6 15 (offOf R.PROFILE_MOVE) v)

/-- A limit of the profile: a raised one is in force once written, a lowered V_MAX too, with LIMITED set where the
speed passes it, and so is a lowered A_MAX or J_MAX, but for one with which the move that
decelerates would stop beyond its target: there the old limit stays, shown in LIMIT_STATE, and the register reads what was written. Out of
range a value is refused while the block is enabled (R312 to R314, R626). -/
def Obligations.ProfileLimits : Prop :=
  ∀ (o : Origin) (i v : Nat) (s : State), i ≤ 5 → v < 2 ^ 32 → s.permit o (limitReg i) v = .ok s → s.auditFull = false → 256 < s.logFree →
    (s.enabled 15 = true → s.limitOk i v = false →
      ∃ t, exec (.limitWrite o i v) s = .next t ∧ t.newest (Code.REG_VALUE_RANGE 15) 7 6 15 (0x210 + 4 * i) v ∧
        t = { s with regs := t.regs, log := t.log, trace := t.trace, out := t.out } ∧ s.regsBut t (recordRegs 15)) ∧
    (s.enabled 15 = false ∨ s.limitOk i v = true → s.limit i ≤ v ∨ s.profRuns = false ∨ (i % 3 ≠ 0 ∧ s.limitLate i v = false) →
      ∃ t, exec (.limitWrite o i v) s = .next t ∧ t.limit i = v ∧ t.rd (limitReg i) = v ∧
        t.fld R.PROFILE_LIMIT_STATE i i = 0 ∧ t.profile = { s.profile with limits := kdel s.profile.limits i } ∧
        t = { s with regs := t.regs, audit := t.audit, bells := t.bells, profile := t.profile, trace := t.trace }) ∧
    (s.limitOk i v = true → v < s.limit i → s.profRuns = true → i % 3 = 0 → (if i < 3 then s.profile.y else s.profile.x).v.natAbs > v * 65536 →
      ∃ t, exec (.limitWrite o i v) s = .next t ∧ t.limit i = v ∧ t.rd (limitReg i) = v ∧ t.fld R.PROFILE_LIMITED (i / 3) (i / 3) = 1 ∧
        t.profile.y = s.profile.y ∧ t.profile.x = s.profile.x) ∧
    (s.limitOk i v = true → v < s.limit i → s.profRuns = true → i % 3 ≠ 0 → s.limitLate i v = true →
      ∃ t, exec (.limitWrite o i v) s = .next t ∧ t.limit i = s.limit i ∧ t.fld R.PROFILE_LIMIT_STATE i i = 1 ∧
        t.rd (limitReg i) = v ∧ t.newest Code.PROFILE_LIMIT_REFUSED 7 6 15 (0x210 + 4 * i) v)

/-! ### Faults, the interlock, resets -/

/-- A containment settled: every carry and mark of the stripe's cycles up to the held flash is applied, every flash is confirmed, the
cycles after it are undone, the rows that wait are checked, and the checkpoint is written (R189, R470). Verified, it stands in the slot that
does not hold the last one, bell word 4 names it, the CHECKPOINT commands end with the held flash and the STRIPE_GO or RESUME ends
CONTAINED with the first cause (R335, R437, R440, R474). An attempt that fails is written once more; a second that fails makes the job
fatal, its key gone (R475). -/
def Obligations.ContainmentSettles : Prop :=
  (∀ (x : Stripe) (fx : List ExitFaults) (s : State), s.Inv → s.containedS = some x → s.writing = none → s.fatal = 0 → x.ckpt = 1 →
    x.aborting = false → x.aborts = [] → (∀ w ∈ s.hold, w.ord = x.ord) →
    ∃ t, exec (.containSettled fx) s = .next t ∧ (∀ a ∈ t.flink.carries, a.ord = x.ord ∧ x.nextCycle ≤ a.flash) ∧ t.drover.unconfirmed = [] ∧
      t.fld R.SYS_CKPT_STATE 3 0 = 2 ∧
      ∃ y ∈ t.stripes, y.ord = x.ord ∧ y.st = .contained ∧ y.ckpt = 2 ∧ y.nextCycle = min x.nextCycle (x.held + 1).toNat) ∧
  (∀ (x : Stripe) (s : State), s.Inv → s.containedS = some x → s.fatal = 0 → x.ckpt = 2 →
    (∀ u, u < 9 → (kget? s.ckptUnits u).isSome = true) → ((List.range 3).filter (s.bellStuck 4)).length < 2 → s.bellStuck 4 2 = false →
    ∃ t, exec (.checkpointVerified none) s = .next t ∧ t.lastCkpt = some s.ckptSlot ∧ t.fld R.SYS_CKPT_STATE 3 0 = 3 ∧
      (∃ c, kget? t.ckpts s.ckptSlot = some c ∧ c.units = s.ckptUnits ∧ c.tally = s.tally ∧ c.caps = s.caps) ∧
      t.bell 4 = (x.jobId * 2 ^ 32 + x.slot * 2 ^ 8 + 2 ^ 4 + s.ckptSlot) % 2 ^ 64 ∧
      (∃ y ∈ t.stripes, y.ord = x.ord ∧ y.st = .contained ∧ y.ckpt = 3 ∧ y.count = x.count + 1 ∧ y.ckptCmds = [] ∧ y.goCmd = 0) ∧
      (∀ n ∈ x.ckptCmds, ∀ c, s.cmd? n = some c → c.done = none → s.ended t c 0 (lowBits 32 x.held) 0 0 0) ∧
      (∀ c, s.cmd? x.goCmd = some c → c.done = none → x.goCmd ≠ 0 → x.goCmd ∉ x.ckptCmds →
        s.ended t c x.cause 2 x.exitRow (((s.list? x).map (·.entries.length)).getD 0) x.clips)) ∧
  ∀ (x : Stripe) (read : Bool) (off : Nat) (s : State), s.Inv → s.containedS = some x → s.writing = none → s.fatal = 0 → x.ckpt = 2 →
    (x.ckptTry = 0 → read = false →
      ∃ t, exec (.checkpointVerified (some (read, off))) s = .next t ∧ t.ckptUnits = [] ∧ t.lastCkpt = s.lastCkpt ∧
        ∃ y ∈ t.stripes, y.ord = x.ord ∧ y.st = .contained ∧ y.ckpt = 2 ∧ (260 < s.logFree → y.ckptTry = (s.log.nextSeq + 3) % 2 ^ 32)) ∧
    (x.ckptTry ≠ 0 → (s.job x.slot).status = 1 → (∀ c ∈ s.host.cmds, c.opcode = 0x0E → c.ran = false) →
      ∃ t, exec (.checkpointVerified (some (read, off))) s = .next t ∧ (t.job x.slot).status = 2 ∧
        (t.job x.slot).fatal = Code.CKPT_WRITE_FAIL ∧ (t.job x.slot).key = none)

/-- The beam-off input: it is latched, raises SYS's interrupt condition, shades every beam and contains the writing stripe; its release ends
the condition and keeps the latch (R467 to R469). A write of INTERLOCK clears the latch while the input is high, and forces or ends shading
(R468, R469, R492). Where the board controller's STATUS changes, it is told (R659). -/
def Obligations.InterlockActs : Prop :=
  (∀ s : State, s.beamOff = false → s.power ≠ .night → s.booted = true → s.fatal = 0 →
    ∃ t, exec .beamOff s = .next t ∧ t.beamOff = true ∧ t.shadeOut = true ∧ t.flink.shaded = true ∧ t.fld R.SYS_INTERLOCK 2 0 = 7 ∧
      t.fld 0x10 2 2 = 1 ∧ ∀ x, s.active = some x → x.st = .writing → t.containedBy x Code.SYS_BEAM_OFF s.drover.k) ∧
  (∀ s : State, s.power ≠ .night → s.booted = true →
    ∃ t, exec .beamOffRelease s = .next t ∧ t = { s with regs := t.regs, beamOff := false, out := t.out } ∧ s.tells t ∧ t.fld R.SYS_INTERLOCK 0 0 = 0 ∧ t.fld 0x10 2 2 = 0 ∧
      t.fld R.SYS_INTERLOCK 1 1 = s.fld R.SYS_INTERLOCK 1 1 ∧ t.fld R.SYS_INTERLOCK 16 16 = s.fld R.SYS_INTERLOCK 16 16 ∧
      s.regsBut t [R.SYS_INTERLOCK, 0x10]) ∧
  ∀ (c : Instr) (o : Origin) (v : Nat) (s : State), c = .interlockLatchedClear o v ∨ c = .forceShade o v → v < 2 ^ 32 →
    s.permit o R.SYS_INTERLOCK v = .ok s → s.auditFull = false →
    ∃ t, exec c s = .next t ∧ t = { s with regs := t.regs, audit := t.audit, bells := t.bells, trace := t.trace, out := t.out } ∧ s.tells t ∧
      t.fld R.SYS_INTERLOCK 1 1 = (if s.beamOff = false ∧ fieldOf v 1 1 = 1 then 0 else s.fld R.SYS_INTERLOCK 1 1) ∧
      t.fld R.SYS_INTERLOCK 16 16 = fieldOf v 16 16 ∧ t.fld R.SYS_INTERLOCK 2 2 = (if t.shadeOut then 1 else 0) ∧
      (fieldOf v 16 16 = 1 → t.shadeOut = true)

/-- A device-fatal cause ends the run: a supply out of its range, the loss of the system clock, the watchdog, a parity error of a block's
state, a fault of a memory stack (R352, R483, R484, R509). A SerDes PLL that loses lock takes its lanes and ports down (R509); the error
log's entries are released by its head (R459). -/
def Obligations.DeviceFatalEnds : Prop :=
  (∀ (c : Instr) (code n uv : Nat) (s : State), s.Inv → s.booted = true → s.power ≠ .night → s.fatal = 0 →
    (c = .supplyExcursion n uv ∧ 1 ≤ n ∧ n ≤ 6 ∧ ¬ ((s.railWindow n).1 ≤ uv ∧ uv ≤ (s.railWindow n).2) ∧ s.nightReady = false ∧
        code = Code.SYS_SUPPLY) ∨ (c = .sysClockLoss ∧ code = Code.SYS_CLOCK_LOSS) ∨
      (c = .sysWatchdog ∧ s.fold.fwRuns = true ∧ code = Code.SYS_WATCHDOG) ∨ (c = .sysStateParity n ∧ n ≤ 0x1C ∧ code = Code.SYS_STATE_PARITY) ∨
      (c = .hbmStackFault n ∧ n ≤ 3 ∧ s.power = .day ∧ code = (0x16 + n) * 256 + 0x4E) →
    ∃ t, exec c s = .next t ∧ t.deadBy code ∧ t.stripes = s.stripes ∧ t.tally = s.tally ∧ t.hold = s.hold) ∧
  (∀ (lanes ports : List Nat) (s : State), s.booted = true → s.power ≠ .night → s.fatal = 0 →
    ∃ t, exec (.serdesPllUnlock lanes ports) s = .next t ∧ (∀ l ∈ lanes, l ≤ 63 → (s.lane l).up = true ∨ (s.lane l).st = 8 ∨ (1 ≤ (s.lane l).st ∧ (s.lane l).st ≤ 5) →
        (t.lane l).st = 0 ∧ (t.lane l).wentDown = true) ∧
      (∀ l, l ∉ lanes → (t.lane l).st = (s.lane l).st) ∧ (∀ p ∈ ports, p ≤ 3 → (s.port p).carries = true → (t.port p).st = 1 ∧ (t.port p).relay = false) ∧
      ∀ p, p ∉ ports → t.port p = s.port p) ∧
  ∀ (o : Origin) (v : Nat) (s : State), s.permit o R.SYS_ERRLOG_HEAD v = .ok s → s.auditFull = false → v < 2 ^ 32 →
    let n := (fieldOf v 13 0 + 16384 - s.fld R.SYS_ERRLOG_HEAD 13 0) % 16384
    (n ≤ s.log.used →
      ∃ t, exec (.errlogHead o v) s = .next t ∧ t = { s with regs := t.regs, audit := t.audit, bells := t.bells, log := t.log, trace := t.trace } ∧
        t.fld R.SYS_ERRLOG_HEAD 13 0 = fieldOf v 13 0 ∧ t.log.used = s.log.used - n ∧ t.log.recs = s.log.recs ∧
        t.rd R.SYS_ERRLOG_FREE = 16384 - (s.log.used - n)) ∧
    (s.log.used < n → 256 < s.logFree →
      ∃ t, exec (.errlogHead o v) s = .next t ∧ t.newest (Code.REG_VALUE_RANGE 0) 7 6 0 0x200 v ∧ t.rd R.SYS_ERRLOG_HEAD = s.rd R.SYS_ERRLOG_HEAD)

/-- A reset loses what is volatile and keeps the keep, the bell words, the Owner's key and the images; the power-up sequence must follow
(R485, R486, R492, R503, R622); it ends with the part awake in Day, its rails in range and its clock from the always-on count (R502, R505,
R591). -/
def Obligations.ResetsAndPowerUp : Prop :=
  (∀ (c : Instr) (cause : Nat) (o : Origin) (v uv : Nat) (s : State),
    (c = .deviceReset o v ∧ s.permit o R.SYS_DEVICE_RESET v = .ok s ∧ v % 256 = 0xD5 ∧ cause = 4) ∨
      (c = .pcieFundamentalReset ∧ s.power ≠ .night ∧ s.booted = true ∧ cause = 2) ∨ (c = .mainRailsLost ∧ s.power ≠ .night ∧ cause = 0) ∨
      (c = .supplyExcursion 0 uv ∧ ¬ ((s.railWindow 0).1 ≤ uv ∧ uv ≤ (s.railWindow 0).2) ∧ s.power ≠ .night ∧ s.booted = true ∧
        s.nightReady = false ∧ cause = 0) →
    ∃ t, exec c s = .next t ∧ t.booted = false ∧ t.fatal = 0 ∧ t.stripes = [] ∧ t.job0 = {} ∧ t.job1 = {} ∧ t.frames = [] ∧ t.tally = [] ∧ t.host = {} ∧
      t.log = {} ∧ t.flink = {} ∧ t.drover = {} ∧ t.keep = s.keep ∧ t.bells = s.bells ∧ t.fold.slots = s.fold.slots ∧ t.fold.ownerKey = s.fold.ownerKey ∧
      t.fold.fwRuns = false ∧ t.fold.deviceKey = 0 ∧ t.audit.pool = [] ∧ t.audit.exportedSeq = s.audit.exportedSeq ∧
      t.rd R.SYS_RESET_CAUSE = cause + (if s.fatal ≠ 0 then 16 else 0) + (if s.fatal = Code.SYS_WATCHDOG then 8 else 0) ∧
      (cause = 0 → t.power = .night ∧ t.rails = 0) ∧ (cause ≠ 0 → t.power = .day ∧ t.rails = s.rails) ∧
      ∀ a, a ≠ R.SYS_RESET_CAUSE → a ≠ R.FOLD_TAMPER_CFG → t.rd a = (regReset a).toNat) ∧
  ∀ (f : BootFound) (s : State), s.booted = false →
    ∃ t, exec (.powerUp f) s = .next t ∧ t.booted = true ∧ t.power = .day ∧ t.rails = 127 ∧
      (f.vbatLost = false → t.clock.sec = s.clock.aoSec ∧ t.clock.frac = (rhe (s.clock.aoCount * 1000000000) 32768).toNat * 2 ^ 32)

/-! ### Power, clocks and heat -/

/-- The power states: a request waits until it is free to proceed, one of Night is refused while a job or an unexported record stands, and
one of Day withdraws it or wakes the part (R495 to R497, R500); an entry begins, and ends in Dusk with the stacks in self-refresh, the
fast clocks off and VDD_CORE at 0.70 V (R498), and one of Night with every key erased (R503); a wake ends in Day (R501). The fast clocks:
a block's starts when it is asked for, its longest start is kept, and it stops after the idle delay unless something keeps it (R506 to
R508). -/
def Obligations.PowerAndClocksChange : Prop :=
  ((∀ (o : Origin) (s : State), s.auditFull = false → s.nightReady = false →
    (s.permit o R.SYS_POWER_REQ 1 = .ok s →
      ∃ t, exec (.powerReqDusk o) s = .next t ∧ t = { s with regs := t.regs, audit := t.audit, bells := t.bells, phase := t.phase, trace := t.trace } ∧
        t.fld R.SYS_POWER_REQ 1 0 = 1 ∧ t.phase = if s.power = .day ∧ s.phase = 0 then 1 else s.phase) ∧
    (s.permit o R.SYS_POWER_REQ 2 = .ok s →
      (s.nightBusy = false →
        ∃ t, exec (.powerReqNight o) s = .next t ∧ t = { s with regs := t.regs, audit := t.audit, bells := t.bells, phase := t.phase, trace := t.trace } ∧
          t.fld R.SYS_POWER_REQ 1 0 = 2 ∧ t.phase = if s.phase = 0 then 1 else s.phase) ∧
      (s.nightBusy = true → 256 < s.logFree →
        ∃ t, exec (.powerReqNight o) s = .next t ∧ t = { s with regs := t.regs, log := t.log, trace := t.trace, out := t.out } ∧
          t.newest Code.CLK_NIGHT_BUSY 7 6 0 0x10C 2 ∧ s.regsBut t (recordRegs 1))) ∧
    (s.permit o R.SYS_POWER_REQ 0 = .ok s →
      ∃ t, exec (.powerReqDay o) s = .next t ∧ t = { s with regs := t.regs, audit := t.audit, bells := t.bells, phase := t.phase, trace := t.trace } ∧
        t.fld R.SYS_POWER_REQ 1 0 = 0 ∧
        (s.power = .day → t.phase = if s.phase = 1 ∨ s.phase = 2 then 0 else s.phase) ∧
        (s.power = .dusk → s.phase = 0 → t.phase = 3 ∧ t.fld R.CLK_POWER_STATE 18 16 = 1))) ∧
  (∀ s : State, s.booted = true → s.power = .day → s.fatal = 0 →
    (s.fld R.SYS_POWER_REQ 1 0 = 1 → s.phase = 1 → s.duskFree = true →
      ∃ t, exec .duskEntry s = .next t ∧ t = { s with phase := 2, engines := t.engines } ∧ ∀ e, e ≤ 7 → s.crcBusy e = true → (t.engine e).run = 2) ∧
    (s.phase = 2 → s.fld R.SYS_POWER_REQ 1 0 = 1 ∨ s.fld R.SYS_POWER_REQ 1 0 = 2 →
      ∃ t, exec (if s.fld R.SYS_POWER_REQ 1 0 = 1 then .duskEntry else .nightEntry) s = .next t ∧ t.power = .dusk ∧ t.phase = 0 ∧
        (∀ k, k ≤ 3 → (t.stack k).selfRef = 2 ∧ (t.stack k).postponed = [] ∧ (t.stack k).rows = [] ∧ (t.stack k).owed = []) ∧ (∀ p, p ≤ 28 → t.fld R.CLK_ON p p = 0) ∧
        (∀ l, l ≤ 63 → (s.lane l).st = 6 → (t.lane l).st = 8) ∧ t.fld R.AGE_VOLT_STEP 31 16 = 700 ∧ t.drover.pll = false ∧
        t.rd R.CLK_DUSK_COUNT = min (2 ^ 32 - 1) (s.rd R.CLK_DUSK_COUNT + 1) ∧ t.stripes = s.stripes ∧
        (s.fld R.SYS_POWER_REQ 1 0 = 1 → t.nightReady = s.nightReady ∧ t.fold = s.fold ∧
          (s.nightReady = false → .i3cIrq (BitVec.ofNat 8 t.i3cByte) ∈ t.out)) ∧
        (s.fld R.SYS_POWER_REQ 1 0 = 2 → t.nightReady = true ∧ t.job0.key = none ∧ t.job1.key = none ∧ t.fold.deviceKey = 0 ∧ t.fold.fieldKey = 0))) ∧
  ∀ (cause us : Nat) (s : State), cause ≠ 4 → s.power = .dusk → s.phase = 3 → s.fatal = 0 → us ≤ 2000 →
    ∃ t, exec (.duskWake cause us) s = .next t ∧ t.power = .day ∧ t.phase = 0 ∧ (∀ k, k ≤ 3 → (t.stack k).selfRef = 0) ∧
      (∀ p, p ≤ 28 → s.fld R.CLK_REQ p p = 1 → t.fld R.CLK_ON p p = 1) ∧ t.fld R.CLK_WAKE_MAX 15 0 = max (s.fld R.CLK_WAKE_MAX 15 0) us ∧
      t.drover.pll = s.enabled 16 ∧ t.stripes = s.stripes ∧ t.log = s.log ∧
      (s.nightReady = false → .i3cIrq (BitVec.ofNat 8 t.i3cByte) ∈ t.out)) ∧
  (∀ (p ns : Nat) (s : State), p ≤ 28 → s.booted = true →
    (s.power = .day → s.clkRuns p = false → s.clockHeld = false → ns ≤ 20000 →
      ∃ t, exec (.clockRequest p ns) s = .next t ∧ t = { s with regs := t.regs, trace := t.trace } ∧ t.fld R.CLK_REQ p p = 1 ∧ t.fld R.CLK_ON p p = 1 ∧
        t.fld (statusOf p) 3 3 = 1 ∧ t.fld R.CLK_START_MAX 15 0 = max (s.fld R.CLK_START_MAX 15 0) ns ∧
        s.regsBut t [R.CLK_REQ, R.CLK_ON, statusOf p, R.CLK_START_MAX]) ∧
    (s.power ≠ .night → s.keepsClk p = false → s.pageBusy p = false →
      ∃ t, exec (.clkIdleTimeout p) s = .next t ∧ t = { s with regs := t.regs, trace := t.trace } ∧ t.fld R.CLK_REQ p p = 0 ∧ t.fld R.CLK_ON p p = 0 ∧
        t.fld (statusOf p) 3 3 = 0 ∧ s.regsBut t [R.CLK_REQ, R.CLK_ON, statusOf p]) ∧
    (s.power ≠ .night →
      ∃ t, exec .vbatLow s = .next t ∧ t = { s with regs := t.regs } ∧ t.fld R.CLK_ALWAYS_ON 1 1 = 1 ∧ s.regsBut t [R.CLK_ALWAYS_ON]))

/-- Heat: a sample is taken on every sensor, bad ones only counted, and the ceiling is what the levels make it (R510, R511, R516); a level
that rises is recorded, and at shutdown contains the stripe (R514, R515); one that falls is signalled (R514); a sensor fails, recovers, and
is acknowledged by the Operator or the Owner, audited (R511, R512, R523). -/
def Obligations.HeatLevels : Prop :=
  (∀ (raw : List (Option Int)) (s : State), s.booted = true → s.power ≠ .night →
    ∃ t, exec (.thermSample raw) s = .next t ∧ t.fld R.THERM_CEILING 20 0 = t.thermCeil % 2 ^ 21 ∧
      (∀ i, i < 64 ∨ 128 ≤ i ∧ i < 130 ∧ s.sensorClass i ≠ 3 → t.sensor i = match raw.getD i none with
        | some v => if readingOk i v then { s.sensor i with last := some v, bad := 0, good := min 8 ((s.sensor i).good + 1) }
                    else { s.sensor i with bad := min 3 ((s.sensor i).bad + 1), good := 0 }
        | none => { s.sensor i with bad := min 3 ((s.sensor i).bad + 1), good := 0 }) ∧
      (∀ i v, 64 ≤ i → i < 128 → s.headAbsent = false → kget? s.flink.sensors (i - 64) = some (some v) →
        t.sensor i = { s.sensor i with last := some v, bad := 0, good := min 8 ((s.sensor i).good + 1) })) ∧
  (∀ (cls level : Nat) (s : State), s.booted = true → s.power ≠ .night → cls ≤ 2 → level ≤ 3 → (s.tclass cls).level < level →
    8 ≤ (s.tclass cls).above.getD (level - 1) 0 →
    ∃ t, exec (.thermLevelRise cls level) s = .next t ∧ (t.tclass cls).level = level ∧
      (∀ x, level = 3 → s.active = some x → x.st = .writing → t.containedBy x (levelCode cls 3) s.drover.k) ∧
      (level ≤ 2 → s.fld 0x2018 cls cls = 0 → 256 < s.logFree → t.newest (levelCode cls level) (level - 1) 8 cls 0 0 ∧ t.fld 0x2010 cls cls = 1) ∧
      (level ≤ 2 → s.fld 0x2018 cls cls = 1 → t.log = s.log)) ∧
  (∀ (cls level : Nat) (s : State), s.booted = true → s.power ≠ .night → cls ≤ 2 → level < (s.tclass cls).level →
    (∀ n, n < 3 → level ≤ n → n < (s.tclass cls).level → (s.tclass cls).below.getD n 0 = 8) → (s.tclass cls).relax = false ∨ 2 ≤ level →
    ∃ t, exec (.thermLevelFall cls level) s = .next t ∧ (t.tclass cls).level = level ∧ t.fld 0x2010 5 5 = 1 ∧ t.stripes = s.stripes ∧ t.log = s.log) ∧
  (∀ (i : Nat) (s : State), s.booted = true → s.power ≠ .night →
    (s.sensorClass i ≤ 2 → (s.sensor i).failed = false → (if 48 ≤ i ∧ i < 128 then 3 else 1) ≤ (s.sensor i).bad →
      s.headAbsent = false ∨ s.sensorClass i ≠ 1 ∨ 128 ≤ i →
      ∃ t, exec (.thermSensorFailed i) s = .next t ∧ t.sensor i = { s.sensor i with failed := true, acked := false, good := 0 } ∧
        t.fld 0x2010 3 3 = 1 ∧ ∀ k, k ≠ i → t.sensor k = s.sensor k) ∧
    ((s.sensor i).failed = true → 8 ≤ (s.sensor i).good →
      ∃ t, exec (.thermSensorRecovered i) s = .next t ∧ t.sensor i = { s.sensor i with failed := false, acked := false } ∧
        ∀ k, k ≠ i → t.sensor k = s.sensor k)) ∧
  ∀ (o : Origin) (v : Nat) (s : State), s.permit o R.THERM_ACK v = .ok s → o = .operator ∨ o = .owner → s.auditFull = false →
    ((s.sensor (fieldOf v 7 0)).failed = true →
      ∃ t, exec (.thermAck o v) s = .next t ∧ t.sensor (fieldOf v 7 0) = { s.sensor (fieldOf v 7 0) with acked := true } ∧
        ∃ r, t.audit.pool.head? = some (.record r) ∧ r.kind = 1 ∧ r.addr = R.THERM_ACK ∧ r.new = fieldOf v 7 0 ∧ r.origin = o.code) ∧
    ((s.sensor (fieldOf v 7 0)).failed = false → 256 < s.logFree →
      ∃ t, exec (.thermAck o v) s = .next t ∧ t.sensors = s.sensors ∧ t.audit = s.audit ∧
        t.newest Code.THERM_ACK_NOT_FAILED 7 6 2 (offOf R.THERM_ACK) v)

/-! ### Memory -/

/-- In-package memory: refreshes are postponed behind traffic up to four times and issued otherwise (R346), owed neighbour rows are refreshed
and counted (R347), a stack leaves self-refresh (R348); an error that a patrol meets is counted and recorded on its device address (R349,
R350); a rank is retired onto the spare, and its migration goes on segment by segment, to its end or abandoned (R353 to R355). -/
def Obligations.MemoryServes : Prop :=
  (∀ (k bank row : Nat) (s : State), k ≤ 3 → bank ≤ 15 → (s.stack k).selfRef = 0 →
    let n := kget (fun _ => 0) (s.stack k).postponed bank
    (∃ t, exec (.refreshDue k bank false) s = .next t ∧ t = { s with drams := t.drams } ∧ kget (fun _ => 0) (t.stack k).postponed bank = 0 ∧
      (∀ x ∈ (t.stack k).rows, x.1 % 16 ≠ bank) ∧
      ∀ i, i ≠ k → t.stack i = s.stack i) ∧
    (n < 4 → ∃ t, exec (.refreshDue k bank true) s = .next t ∧ t = { s with drams := t.drams } ∧
      kget (fun _ => 0) (t.stack k).postponed bank = n + 1 ∧ ∀ i, i ≠ k → t.stack i = s.stack i) ∧
    (row ≤ 24575 → ∃ t, exec (.nbrRefreshDue k bank row) s = .next t ∧ t = { s with regs := t.regs, drams := t.drams } ∧
      (∀ x ∈ (t.stack k).owed, ¬ (x.1 % 16 = bank ∧ x.2 = row)) ∧ (∀ x ∈ (t.stack k).rows, x.1 % 16 ≠ bank) ∧ (∀ i, i ≠ k → t.stack i = s.stack i) ∧
      t.rd (R.HBM0_NBR_REFRESHES + 0x1000 * k) =
        min (2 ^ 32 - 1) (s.rd (R.HBM0_NBR_REFRESHES + 0x1000 * k) + (if row = 0 ∨ row = 24575 then 1 else 2)) ∧
      s.regsBut t [R.HBM0_NBR_REFRESHES + 0x1000 * k])) ∧
  (∀ (k : Nat) (s : State), k ≤ 3 → (s.stack k).selfRef = 2 →
    ∃ t, exec (.selfRefreshExit k) s = .next t ∧ t = { s with regs := t.regs, drams := t.drams } ∧ t.stack k = { s.stack k with selfRef := 0 } ∧
      t.fld (statusOf (0x16 + k)) 17 16 = 0 ∧ t.rd R.HBM0_SR_DEFERRED = min (2 ^ 32 - 1) (s.rd R.HBM0_SR_DEFERRED + 1)) ∧
  (∀ (da : Nat) (r : Bool) (s : State), da < 0x2100000000 → s.power = .day → (s.stack (s.readRank da / 3)).selfRef = 0 →
    let p := s.readRank da
    let d := rankPage p * 0x1000 - 0x16000
    (∃ t, exec (.patrolScrub da false false r) s = .next t ∧ t = { s with drams := t.drams, free := t.free } ∧
      kget (fun _ => 0) (t.stack (p / 3)).rows (bankOf p da) = daRow da + 1) ∧
    ((s.since (kget (fun _ => []) s.ranks.ces p) 3600).length + 1 ≤ s.fld R.HBM0_CE_THRESHOLD 15 0 → 256 < s.logFree →
      ∃ t, exec (.patrolScrub da true false r) s = .next t ∧ t.newest (rankPage p * 256 + 0x40) 0 2 da (da / 2 ^ 32) (p * 2 ^ 28) ∧
        t.rd (R.HBM0_CE_COUNT + d) = min (2 ^ 32 - 1) (s.rd (R.HBM0_CE_COUNT + d) + 1) ∧ t.rd64 (R.HBM0_ERR_DA_L + d) = da ∧
        t.stripes = s.stripes ∧ t.bells = s.bells) ∧
    ((s.since (kget (fun _ => []) s.ranks.ues p) 86400).length ≤ 1 → s.poisoned da = false → 256 < s.logFree →
      0x10000000 ≤ da ∨ r = true →
      ∃ t, exec (.patrolScrub da false true r) s = .next t ∧ t.newest (rankPage p * 256 + 0x41) 1 2 da (da / 2 ^ 32) (p * 2 ^ 28) ∧
        t.rd (R.HBM0_UE_COUNT + d) = min (2 ^ 32 - 1) (s.rd (R.HBM0_UE_COUNT + d) + 1) ∧ t.rd64 (R.HBM0_ERR_DA_L + d) = da ∧
        t.stripes = s.stripes ∧ t.bells = s.bells) ∧
    (s.Inv → s.fatal = 0 → s.booted = true → (s.since (kget (fun _ => []) s.ranks.ues p) 86400).length ≤ 1 → da < 0x10000000 →
      ∃ t, exec (.patrolScrub da false true false) s = .next t ∧ t.deadBy Code.SYS_FIRMWARE)) ∧
  (∀ (o : Origin) (v : Nat) (s : State), s.permit o R.HBM0_RETIRE v = .ok s → 256 < s.logFree →
    ((List.range 3).filter (s.bellStuck 5)).length < 2 →
    (fieldOf v 3 0 ≤ 10 → s.ranks.st ≠ 1 → s.spareRank ≠ 15 →
      ∃ t, exec (.retire o v) s = .next t ∧
        t.ranks = { s.ranks with src := s.physOf (fieldOf v 3 0), dst := s.spareRank, seg := 0, st := 1, poison := [] } ∧
        t.bell 5 = withField (withField (s.bell 5) 63 60 1) 59 56 (s.physOf (fieldOf v 3 0)) ∧
        t.newest Code.HBM_RANK_RETIRING 1 2 0 0 (s.physOf (fieldOf v 3 0) * 2 ^ 28) ∧ t.stripes = s.stripes) ∧
    (10 < fieldOf v 3 0 →
      ∃ t, exec (.retire o v) s = .next t ∧ t.ranks = s.ranks ∧ t.bells = s.bells ∧
        t.newest (Code.REG_VALUE_RANGE 0x16) 7 6 0x16 (offOf R.HBM0_RETIRE) v)) ∧
  ∀ (m : Nat) (s : State), s.ranks.st = 1 → s.power = .day → ((List.range 3).filter (s.bellStuck 5)).length < 2 →
    (m ≤ 1 → s.ranks.seg + 1 < 192 →
      ∃ t, exec (.migrationSegment m none) s = .next t ∧ t = { s with regs := t.regs, ranks := { s.ranks with seg := s.ranks.seg + 1 } } ∧
        s.regsBut t [R.HBM0_MIG_STATE]) ∧
    (m ≤ 1 → 192 ≤ s.ranks.seg + 1 → s.ranks.dst < 16 → 256 < s.logFree →
      ∃ t, exec (.migrationSegment m none) s = .next t ∧ t.ranks.st = 3 ∧ t.newest Code.HBM_RANK_MIGRATED 1 2 0 0 (s.ranks.src * 2 ^ 28) ∧
        ∀ n, n ≤ 10 → t.physOf n = if s.physOf n = s.ranks.src then s.ranks.dst else s.physOf n) ∧
    (2 ≤ m → 256 < s.logFree →
      ∃ t, exec (.migrationSegment m none) s = .next t ∧ t.ranks = { s.ranks with st := 4 } ∧ t.newest Code.HBM_MIGRATE_FAIL 1 2 0 0 (s.ranks.src * 2 ^ 28) ∧
        ∀ n, n ≤ 10 → t.physOf n = s.physOf n)

/-- On-die memory: a FILL of regions whose owners are disabled starts, one that is barred is refused (R370), and its end leaves the regions
filled and empty (R368); a block in copy moves to its spare (R374); a vote rewrites a lone bad copy of a bell word, and ends the run where
no majority is left (R381). -/
def Obligations.SramRepairs : Prop :=
  (∀ (o : Origin) (v : Nat) (s : State), s.permit o R.SRAM_FILL v = .ok s → s.auditFull = false → v < 2 ^ 32 → fieldOf v 8 8 = 1 →
    (fieldOf v 3 0 ≤ 9 ∨ fieldOf v 3 0 = 15 → s.sram.fillRegions = [] →
      (∀ g ∈ fillRegionsOf (fieldOf v 3 0), ∀ p ∈ regionOwners g, s.enabled p = false) →
      ∃ t, exec (.fill o v) s = .next t ∧
        t = { s with regs := t.regs, audit := t.audit, bells := t.bells, sram := { s.sram with fillRegions := fillRegionsOf (fieldOf v 3 0) }, trace := t.trace } ∧
        t.fld (statusOf 0x15) 16 16 = 1) ∧
    (fieldOf v 3 0 ≤ 9 ∨ fieldOf v 3 0 = 15 → 256 < s.logFree →
      s.sram.fillRegions ≠ [] ∨ (∃ g ∈ fillRegionsOf (fieldOf v 3 0), ∃ p ∈ regionOwners g, s.enabled p = true) →
      ∃ t, exec (.fill o v) s = .next t ∧ t.sram = s.sram ∧ t.newest Code.SRAM_FILL_BUSY 7 6 0x15 (offOf R.SRAM_FILL) v)) ∧
  (∀ s : State, s.sram.fillRegions ≠ [] →
    ∃ t, exec (.fillDone []) s = .next t ∧ t.sram.fillRegions = [] ∧ t.fld (statusOf 0x15) 16 16 = 0 ∧
      (∀ g, t.filled g = (s.filled g || s.sram.fillRegions.contains g)) ∧
      (0 ∈ s.sram.fillRegions → t.tally = []) ∧ (0 ∉ s.sram.fillRegions → t.tally = s.tally) ∧
      (1 ∈ s.sram.fillRegions → t.staging = [] ∧ t.hold = []) ∧ (1 ∉ s.sram.fillRegions → t.staging = s.staging ∧ t.hold = s.hold) ∧
      (5 ∈ s.sram.fillRegions → t.ctxs = []) ∧ (5 ∉ s.sram.fillRegions → t.ctxs = s.ctxs)) ∧
  (∀ (i : Nat) (f : FenceE) (s : State), s.sram.fences.findIdx? (·.moving) = some i → s.sram.fences[i]? = some f → 256 < s.logFree →
    ∃ t, exec .fenceMoveDone s = .next t ∧ t.sram.fences[i]? = some { f with moving := false, inForce := true } ∧
      (∀ j, j ≠ i → t.sram.fences[j]? = s.sram.fences[j]?) ∧ t.newest Code.SRAM_FENCE_SET 1 3 (256 * f.block) (sramRegion (256 * f.block)) i) ∧
  ∀ (n : Nat) (copies : List (BitVec 64 × BitVec 8)) (s : State), n ≤ 63 → copies.length = 3 → s.power ≠ .night → s.booted = true →
    exec (.bellVote [] []) s = .next s ∧
    (∀ v bad, bellVote n copies = some (v, bad) → 0 < bad → 256 < s.logFree →
      ∃ t, exec (.bellVote [(n, copies)] []) s = .next t ∧ t.newest Code.BELL_REWRITE 0 8 n 0 0 ∧
        t.rd R.SRAM_BELL_REWRITES = min (2 ^ 32 - 1) (s.rd R.SRAM_BELL_REWRITES + bad) ∧ (n ≠ 3 → t.bell n = v.toNat) ∧
        ∀ m, m ≠ 3 → m ≠ n → t.bell m = s.bell m) ∧
    (s.Inv → s.fatal = 0 → bellVote n copies = none →
      ∃ t, exec (.bellVote [(n, copies)] []) s = .next t ∧ t.deadBy Code.BELL_NO_MAJORITY)

/-! ### CRC engines, the keep, ageing -/

/-- The CRC engines: a context begins at the algorithm's initial value and takes bytes written (R404, R405); a memory job runs over a range
that the origin may read, and ends done with its bytes fed (R406, R407); a comparison shows a mismatch (R410); a running job can be stopped
(R408). -/
def Obligations.CrcEnginesWork : Prop :=
  ∀ (e : Nat) (o : Origin) (s : State), e ≤ 7 → s.enabled 20 = true →
    (s.crcBusy e = false →
      (s.permit o (engReg e R.CRC_E_CMD) 1 = .ok s →
        ∃ t, exec (.crcInit o e) s = .next t ∧ t = { s with regs := t.regs, trace := t.trace } ∧ t.engValue e = (s.engAlg e).init ∧
          s.regsBut t [engReg e R.CRC_E_VALUE_L, engReg e R.CRC_E_VALUE_L + 4]) ∧
      (s.permit o (engReg e R.CRC_E_CMD) 2 = .ok s →
        (s.rangeBad (s.engSrc e).1 (s.rd (engReg e R.CRC_E_LEN)) (s.engSrc e).2 = false →
          o = .firmware ∨ rangeOpen (s.engSrc e).1 (s.rd (engReg e R.CRC_E_LEN)) (s.engSrc e).2 = true →
          ∃ t, exec (.crcStart o e) s = .next t ∧ t = { s with regs := t.regs, engines := t.engines, trace := t.trace } ∧ t.crcBusy e = true ∧
            t.engine e = { run := 1, origin := o } ∧ t.rd (engReg e R.CRC_E_COUNT) = 0 ∧ ∀ i, i ≠ e → t.engine i = s.engine i) ∧
        (s.rangeBad (s.engSrc e).1 (s.rd (engReg e R.CRC_E_LEN)) (s.engSrc e).2 = true → 256 < s.logFree →
          ∃ t, exec (.crcStart o e) s = .next t ∧ t.crcBusy e = false ∧ t.engines = s.engines ∧ t.newest Code.CRC_SOURCE_RANGE 7 8 e 0 0 ∧
            t.fld (engReg e R.CRC_E_STATE) 1 1 = 1 ∧ t.fld (engReg e R.CRC_E_STATE) 3 3 = 1)) ∧
      (s.permit o (engReg e R.CRC_E_CMD) 4 = .ok s → s.fld (engReg e R.CRC_E_CFG) 8 8 = 1 → 256 < s.logFree →
        ∃ t, exec (.crcCheck o e) s = .next t ∧ t.fld (engReg e R.CRC_E_STATE) 1 1 = 1 ∧ t.engValue e = s.engValue e ∧
          t.fld (engReg e R.CRC_E_STATE) 2 2 =
            if s.engResult e = s.rd64 (engReg e R.CRC_E_EXPECT_L) % 2 ^ (s.engAlg e).width then 0 else 1) ∧
      (∀ v, s.permit o (engReg e R.CRC_E_DATA) v = .ok s →
        ∃ t, exec (.crcData o e v) s = .next t ∧ t = { s with regs := t.regs, trace := t.trace } ∧
          t.engValue e = (s.engAlg e).feed (s.engValue e) (leBytes (s.fld (engReg e R.CRC_E_CFG) 17 16 + 1) v) % 2 ^ (s.engAlg e).width ∧
          s.regsBut t [engReg e R.CRC_E_VALUE_L, engReg e R.CRC_E_VALUE_L + 4])) ∧
    (s.crcBusy e = true → s.permit o (engReg e R.CRC_E_CMD) 8 = .ok s →
      ∃ t, exec (.crcAbort o e) s = .next t ∧ t = { s with engines := t.engines, trace := t.trace } ∧ t.engine e = { s.engine e with run := 2 } ∧
        ∀ i, i ≠ e → t.engine i = s.engine i) ∧
    ∀ data : List Byte, (s.engine e).run = 1 → data.length = s.rd (engReg e R.CRC_E_LEN) → 256 < s.logFree →
      ∃ t, exec (.crcJobDone e data false) s = .next t ∧ t.engine e = {} ∧ t.crcBusy e = false ∧ t.rd (engReg e R.CRC_E_COUNT) = data.length ∧
        t.fld (engReg e R.CRC_E_STATE) 1 1 = 1 ∧ t.engValue e = (s.engAlg e).feed (s.engValue e) data % 2 ^ (s.engAlg e).width ∧
        ∀ i, i ≠ e → t.engine i = s.engine i

/-- The keep: a staged record in its right form, from a role that may write its type, becomes a record of the next generation, audited
(R540, R541, R576); a read fills the stage (R541); a check leaves good records as they are, and ends the run where the directory is lost
(R537, R538). -/
def Obligations.KeepHolds : Prop :=
  (∀ (o : Origin) (s : State), s.permit o R.KEEP_CMD 2 = .ok s → s.auditFull = false →
    let sel := s.rd R.KEEP_SEL
    let typ := sel % 65536
    let inst := sel / 65536
    (keepWriter o typ = true → s.stageOk s.stageBytes = true →
      ∃ t, exec (.keepWrite o 0) s = .next t ∧ t.rd R.KEEP_CMD_STATE = 2 ∧
        (∃ r, t.keep.head? = some r ∧ r.typ = typ ∧ r.inst = inst ∧ r.payload = (s.stageBytes.drop 16).take (keepLen typ) ∧ r.ok0 = true ∧ r.ok1 = true ∧
          r.gen = ((s.keep.find? (fun k => k.typ = typ ∧ k.inst = inst)).map (·.gen)).getD 0 + 1) ∧
        (∀ k, k.typ ≠ typ ∨ k.inst ≠ inst → (k ∈ t.keep ↔ k ∈ s.keep)) ∧
        ∃ r, AuditSlot.record r ∈ t.audit.pool ∧ r.kind = 0x50 ∧ r.origin = o.code ∧ r.seq = s.audit.nextSeq) ∧
    (keepWriter o typ = false → 256 < s.logFree →
      ∃ t, exec (.keepWrite o 0) s = .next t ∧ t.keep = s.keep ∧ t.rd R.KEEP_CMD_STATE = Code.KEEP_DENIED * 2 ^ 16 + 3 ∧
        t.newest Code.KEEP_DENIED 7 6 6 (offOf R.KEEP_CMD) 2)) ∧
  (∀ (o : Origin) (r : KeepRec) (s : State), s.permit o R.KEEP_CMD 1 = .ok s →
    (s.keepFind (s.rd R.KEEP_SEL % 65536) (s.rd R.KEEP_SEL / 65536) = some r →
      ∃ t, exec (.keepRead o) s = .next t ∧ t = { s with regs := t.regs, trace := t.trace } ∧ t.rd R.KEEP_CMD_STATE = 2 ∧
        ∀ i, i < 512 → t.rd (0x6800 + 4 * i) = leAt r.bytes (4 * i) 4 % 2 ^ 32) ∧
    (s.keepFind (s.rd R.KEEP_SEL % 65536) (s.rd R.KEEP_SEL / 65536) = none →
      ∃ t, exec (.keepRead o) s = .next t ∧ t.rd R.KEEP_CMD_STATE = Code.KEEP_RECORD_LOST * 2 ^ 16 + 3 ∧ s.regsBut t [R.KEEP_CMD_STATE])) ∧
  ∀ s : State, s.Inv → s.power ≠ .night → s.booted = true → s.fatal = 0 →
    ((∀ r ∈ s.keep, r.ok0 = true ∧ r.ok1 = true ∧ r.ahead = none) →
      s.keep.Pairwise (fun a b => ¬ (a.typ = b.typ ∧ a.inst = b.inst)) → ∃ t, exec (.keepDailyCheck []) s = .next t ∧ t.keep = s.keep ∧ t.log = s.log ∧ t.audit = s.audit) ∧
    ∀ bad, (0x10000, 0) ∈ bad → (0x10000, 1) ∈ bad → ∃ t, exec (.keepDailyCheck bad) s = .next t ∧ t.deadBy Code.KEEP_RECORD_LOST

/-- Ageing: the hour and its monitors are kept, a trend entry is made every 720 powered hours (R547), a fresh history stands on the defaults
(R539); a transfer to the supply brings 5 mV of a step that is due, and the third failed one ends the run (R548, R648, R666). -/
def Obligations.AgeingRuns : Prop :=
  (∀ (path : List Nat) (eyes : List (Nat × Nat)) (resid : List Nat) (s : State), s.booted = true → s.power ≠ .night → s.fatal = 0 →
    ∃ t, exec (.plannerHour path eyes resid) s = .next t ∧ t.age.hours = s.age.hours + 1 ∧ t.age.pathHour = path ∧ t.age.residHour = resid ∧
      t.age.trend = s.age.trend) ∧
  (∀ (tj : Nat) (s : State), s.booted = true → s.power ≠ .night → s.fatal = 0 → s.age.hours ≠ 0 → s.age.hours % 720 = 0 →
    (∀ e ∈ s.age.trend, e.hours ≠ s.age.hours) →
    ∃ t, exec (.trendEntry tj) s = .next t ∧ t.age.trend = (s.trendNow tj :: s.age.trend).take 512 ∧ t.age.hours = s.age.hours ∧
      ∃ r ∈ t.keep, r.typ = 0x31 ∧ r.inst = 0 ∧ r.payload = trendBytes t.age.trend) ∧
  (∀ (o : Origin) (v : Nat) (s : State), s.permit o R.AGE_REBASE v = .ok s → fieldOf v 0 0 = 1 →
    ∃ t, exec (.rebase o v) s = .next t ∧ t.age.steps = 8 ∧ t.age.refreshFloor = 1 ∧ t.age.hystFloor = 0 ∧ t.age.rateCap = [] ∧ t.age.lanesOut = [] ∧
      t.age.unitsOut = [] ∧ t.age.hours = s.age.hours) ∧
  ∀ s : State, s.Inv → s.booted = true → s.power ≠ .night → s.fatal = 0 → s.age.voltDue ≠ 0 →
    (∃ t, exec (.avsbusTransferEnd true) s = .next t ∧ t.fld R.AGE_VOLT_STEP 31 16 = min 800 (s.fld R.AGE_VOLT_STEP 31 16 + 5) ∧
      t.age = { s.age with avsFails := 0, voltDue := s.age.voltDue - 1, voltPending := s.age.voltPending - 1 } ∧
      t.out = .avsbus (min 800 (s.fld R.AGE_VOLT_STEP 31 16 + 5)) :: s.out) ∧
    (s.age.avsFails < 2 → exec (.avsbusTransferEnd false) s = .next { s with age := { s.age with avsFails := s.age.avsFails + 1 } }) ∧
    (2 ≤ s.age.avsFails → ∃ t, exec (.avsbusTransferEnd false) s = .next t ∧ t.deadBy Code.SYS_SUPPLY)

/-! ### The Fold, the audit log, the clock -/

/-- Debug and tamper: a challenge answers a fresh nonce; an unlock signed by the Owner's key opens debug, shades the beams, takes every key
and every geometry frame, a wrong one is audited and spends the nonce (R572, R573); EXTEST while locked does the same without opening
debug; a tamper input is latched in Night and answered otherwise as TAMPER_CFG says (R574, R575), and the hold is cleared by request. -/
def Obligations.DebugAndTamper : Prop :=
  (∀ s : State, s.mbServed →
    (∃ t, exec .debugChallenge s = .next t ∧
      { s with free := s.free + 1, fold := { s.fold with nonce := some (Config.trueRandom s.free % 2 ^ 384) } }.answered t
        (beBytes 48 (Config.trueRandom s.free % 2 ^ 384))) ∧
    (∀ n k sig, s.fold.nonce = some n → s.fold.ownerKey = some k →
      ∃ t, exec (.debugUnlock sig) s = .next t ∧ t.fold.nonce = none ∧
        (Config.ecdsaVerify k (s.debugText n) sig = true →
          t.fold.debugOpen = true ∧ t.fold.shade = true ∧ t.shadeOut = true ∧ t.job0.key = none ∧ t.job1.key = none ∧ t.frames = [] ∧
          t.fold.mbStatus = 2 ∧ ∃ m, t.fold.deviceKey = Config.trueRandom m ∧ t.fold.fieldKey = Config.trueRandom (m + 1)) ∧
        (Config.ecdsaVerify k (s.debugText n) sig = false → 256 < s.logFree →
          s.refusedMb t Code.FOLD_DEBUG_SIGNATURE ∧
          t.fold = { s.fold with nonce := none, mbStatus := Code.FOLD_DEBUG_SIGNATURE * 2 ^ 16 + 2, mbResponse := [] } ∧
          (∃ d, t.audited 0x30 (d ++ [Code.FOLD_DEBUG_SIGNATURE])) ∧ t.frames = s.frames ∧ t.job0 = s.job0 ∧ t.job1 = s.job1)) ∧
    ∃ t, exec .tamperClear s = .next t ∧ t.fold = { s.fold with tamperHold := false, mbStatus := 2, mbResponse := [] } ∧ t.log = s.log ∧
      (s.fold.tamperHold = true → t.audited 0x31 [0, 0, s.clock.aoCount % 2 ^ 32]) ∧ (s.fold.tamperHold = false → t.audit = s.audit)) ∧
  (∀ s : State, s.booted = true → s.power ≠ .night → s.fatal = 0 → s.fold.debugOpen = false →
    ∃ t, exec .extestWhileLocked s = .next t ∧ t.fold.debugOpen = false ∧ t.fold.shade = true ∧ t.shadeOut = true ∧ t.job0.key = none ∧
      t.job1.key = none ∧ t.frames = [] ∧ ∃ m, t.fold.deviceKey = Config.trueRandom m ∧ t.fold.fieldKey = Config.trueRandom (m + 1)) ∧
  ∀ (n : Nat) (s : State), n ≤ 3 →
    (s.power = .night ∨ s.booted = false → exec (.tamperInput n) s =
      .next { s with fold := { s.fold with tamperLatch := s.fold.tamperLatch ++ [(n, s.clock.aoCount % 2 ^ 32)] } }) ∧
    (s.power ≠ .night → s.booted = true →
      (s.tamperResponse n = 0 →
        ∃ t, exec (.tamperInput n) s = .next t ∧ t = { s with regs := t.regs } ∧ t.fld R.FOLD_TAMPER_SEEN n n = 1 ∧ s.regsBut t [R.FOLD_TAMPER_SEEN]) ∧
      (s.tamperResponse n = 1 → s.auditFree ≠ 0 →
        ∃ t, exec (.tamperInput n) s = .next t ∧ t = { s with regs := t.regs, audit := t.audit, bells := t.bells } ∧ t.fld R.FOLD_TAMPER_SEEN n n = 1 ∧
          t.audited 0x31 [n, 1, s.clock.aoCount % 2 ^ 32]) ∧
      (2 ≤ s.tamperResponse n →
        ∃ t, exec (.tamperInput n) s = .next t ∧ t.fld R.FOLD_TAMPER_SEEN n n = 1 ∧ t.job0.key = none ∧ t.job1.key = none ∧ t.frames = [] ∧
          (∃ m, t.fold.deviceKey = Config.trueRandom m ∧ t.fold.fieldKey = Config.trueRandom (m + 1)) ∧
          t.out.head? = some (.ownerMsix 1) ∧ t.fold.tamperHold = (s.fold.tamperHold || s.tamperResponse n == 3)))

/-- The audit log's signatures and its export: a signature is begun over the newest record and placed in the pool, and the anchors follow it
(R579, R580); an export begins with a signature, stands ready once its unit verifies, and fails if it does not; an acknowledgement in its
range frees the slots up to it, one outside is refused (R581). -/
def Obligations.AuditExports : Prop :=
  (∀ s : State, s.power ≠ .night → s.booted = true → s.audit.sinceSign ≠ 0 → s.audit.signing = none → s.audit.exportSign = 0 →
    exec .auditSign s = .next { s with audit := { s.audit with signing := some (s.audit.nextSeq - 1, s.audit.chain), sinceSign := 0 } }) ∧
  (∀ (q c : Nat) (s : State), s.audit.signing = some (q, c) → s.power ≠ .night → s.auditFree ≠ 0 → s.audit.exportSign ≠ 1 →
    ∃ t, exec .auditSignatureDone s = .next t ∧ t = { s with regs := t.regs, audit := t.audit, keep := t.keep, bells := t.bells } ∧
      ((∃ r ∈ s.keep, r.typ = 0x40) → t.bells = s.bells) ∧
      t.audit = { s.audit with
        pool := .signature q s.clock.sec s.nsec (Config.ecdsaSign (s.signText q c)) :: s.audit.pool, entered := s.audit.entered + 1, signing := none,
        signedSeq := q, signedChain := c, exportSign := t.audit.exportSign, exportCount := t.audit.exportCount } ∧
      (s.audit.exportSign = 2 → t.audit.exportSign = 3 ∧ t.audit.exportCount = s.audit.pool.length + 1) ∧
      t.rd64 R.AUDIT_SIGNED_L = q % 2 ^ 64 ∧ ∃ r, t.keep.head? = some r ∧ r.typ = 0x40 ∧ r.payload = t.audit.anchors) ∧
  (∀ (o : Origin) (v : Nat) (s : State), s.permit o R.AUDIT_EXPORT_CMD v = .ok s → v % 2 = 1 → s.fld R.AUDIT_EXPORT_STATE 3 0 ≠ 1 →
    (s.fld R.AUDIT_EXPORT_STATE 3 0 ≠ 2 →
      ∃ t, exec (.exportCmd o v) s = .next t ∧ t = { s with regs := t.regs, audit := t.audit, trace := t.trace } ∧ t.fld R.AUDIT_EXPORT_STATE 3 0 = 1 ∧
        t.audit.pool = s.audit.pool ∧ (s.audit.signing = none → t.audit.signing = some (s.audit.nextSeq - 1, s.audit.chain) ∧ t.audit.exportSign = 2) ∧
        ∀ x, s.audit.signing = some x → t.audit.signing = some x ∧ t.audit.exportSign = 1) ∧
    (s.fld R.AUDIT_EXPORT_STATE 3 0 = 2 →
      ∃ t, exec (.exportCmd o v) s = .next t ∧ t.audit = s.audit ∧ t.fld R.AUDIT_EXPORT_STATE 3 0 = 2 ∧ t.fld 0x3010 0 0 = 1)) ∧
  (∀ (unit : List Byte) (s : State), s.power ≠ .night → s.fatal = 0 → s.fld R.AUDIT_EXPORT_STATE 3 0 = 1 → s.audit.exportMade = some unit →
    ∃ t, exec .auditExportReady s = .next t ∧
      t = { s with regs := t.regs, audit := { s.audit with exportUnit := unit, exportMade := none, exportSign := 0 }, out := t.out } ∧
      t.fld R.AUDIT_EXPORT_STATE 3 0 = 2 ∧ t.rd R.AUDIT_EXPORT_LEN = unit.length % 2 ^ 32 ∧
      t.rd64 R.AUDIT_EXPORT_LAST_L = ((s.exportSlots.map AuditSlot.seq).foldl max 0) % 2 ^ 64 ∧ t.fld 0x3010 0 0 = 1) ∧
  (∀ (ctx room : Nat) (unit made : List Byte) (s : State), 4 ≤ ctx → ctx ≤ 7 → s.codecOn = true → (s.ctx ctx).mode = 2 → (s.ctx ctx).st = 1 →
    (s.ctx ctx).purp = 2 → s.codecEng.ver.contains ctx = true → decodeUnit (s.ctx ctx).out true (s.ctx ctx).space = .done made →
    (made = (s.ctx ctx).inp → ∃ t, exec (.codecCompressDone ctx unit room none []) s = .next t ∧
      t.audit = { s.audit with exportMade := some (s.ctx ctx).out }) ∧
    (made ≠ (s.ctx ctx).inp → (s.ctx ctx).retry = true → 256 < s.logFree →
      ∃ t, exec (.codecCompressDone ctx unit room none []) s = .next t ∧ t.fld R.AUDIT_EXPORT_STATE 3 0 = 3 ∧
        t.audit = { s.audit with exportSign := 0, exportCount := 0 } ∧ t.newest Code.CODEC_VERIFY_MISMATCH 1 8 ctx 0 0)) ∧
  ∀ (o : Origin) (v : Nat) (s : State), s.permit o R.AUDIT_EXPORT_ACK_L v = .ok s → s.fld R.AUDIT_EXPORT_STATE 3 0 = 2 → v < 2 ^ 64 →
    (s.audit.exportedSeq ≤ v → v ≤ s.rd64 R.AUDIT_EXPORT_LAST_L → s.audit.waiting = [] → s.keepHeld = [] →
      ∃ t gone, exec (.exportAck o v) s = .next t ∧ t = { s with regs := t.regs, audit := t.audit, keep := t.keep, bells := t.bells, trace := t.trace } ∧
        ((∃ r ∈ s.keep, r.typ = 0x40) → t.bells = s.bells) ∧ gone = (s.exportSlots.takeWhile (fun e => decide (e.seq ≤ v))).length ∧
        t.audit = { s.audit with exportedSeq := v, exportedChain := s.chainOf v, pool := s.audit.pool.take (s.audit.pool.length - gone),
                                 exportCount := s.audit.exportCount - gone } ∧
        t.rd64 R.AUDIT_EXPORTED_L = v ∧ t.fld R.AUDIT_EXPORT_STATE 3 0 = (if v = s.rd64 R.AUDIT_EXPORT_LAST_L then 0 else 2) ∧
        ∃ r, t.keep.head? = some r ∧ r.typ = 0x40 ∧ r.payload = t.audit.anchors) ∧
    (v < s.audit.exportedSeq ∨ s.rd64 R.AUDIT_EXPORT_LAST_L < v → 256 < s.logFree →
      ∃ t, exec (.exportAck o v) s = .next t ∧ t.audit = s.audit ∧ t.newest Code.AUDIT_ACK_RANGE 7 6 3 (offOf R.AUDIT_EXPORT_ACK_L) v)

/-- The clock: a step adds its offset once and is refused while the servo owns the clock or after it has been used (R590, R594); at a
second's rollover the fraction starts below one increment and the always-on count takes the new second (R588, R591); a Sync shows its
offset, path delay and grandmaster, and the servo steps the clock by a large first offset (R592 to R594); a lost grandmaster is recorded. -/
def Obligations.TimeKeeps : Prop :=
  (∀ (o : Origin) (v : Nat) (s : State), s.permit o R.TIME_STEP v = .ok s → v % 2 = 1 →
    (s.servoOwns = false ∨ o = .firmware → s.fld R.TIME_STEP_USED 0 0 = 0 →
      ∃ t, exec (.step o v) s = .next t ∧ t = { s with regs := t.regs, clock := { s.clock with sec := t.clock.sec, frac := t.clock.frac, unset := false }, trace := t.trace } ∧
        t.clock.frac < secondUnits ∧ t.clock.sec < 2 ^ 48 ∧
        (t.clock.sec : Int) * secondUnits + t.clock.frac =
          ((s.clock.sec : Int) * secondUnits + s.clock.frac + signedOf 64 (s.rd64 R.TIME_STEP_OFS_L) * 2 ^ 32) % ((secondUnits * 2 ^ 48 : Nat) : Int) ∧
        t.fld R.TIME_STEP_USED 0 0 = 1 ∧ t.fld 0x5008 16 16 = 0) ∧
    (s.servoOwns = false ∨ o = .firmware → s.fld R.TIME_STEP_USED 0 0 = 1 → 256 < s.logFree →
      ∃ t, exec (.step o v) s = .next t ∧ t.clock = s.clock ∧ t.newest Code.TIME_STEP_USED 7 6 5 (offOf R.TIME_STEP) v) ∧
    (s.servoOwns = true → o ≠ .firmware → 256 < s.logFree →
      ∃ t, exec (.step o v) s = .next t ∧ t.clock = s.clock ∧ t.newest Code.TIME_PTP_OWNS 7 6 5 (offOf R.TIME_STEP) v)) ∧
  (∀ s : State, s.power ≠ .night → s.booted = true → s.clockInc ≠ 0 → s.clock.frac < secondUnits →
    ∃ t, exec .secondsRollover s = .next t ∧ t = { s with clock := t.clock, out := t.out } ∧ t.clock.sec = (s.clock.sec + 1) % 2 ^ 48 ∧
      t.clock.frac < s.clockInc ∧ t.clock.aoSec = t.clock.sec ∧ t.clock.aoCount = 0) ∧
  ∀ s : State, s.power ≠ .night → s.booted = true → s.servoRuns = true → s.fatal = 0 →
    (∀ (offset : Int) (delay errNs gm : Nat),
      ∃ t, exec (.ptpSync offset delay errNs gm) s = .next t ∧ t.rd64 R.TIME_GM_ID_L = gm % 2 ^ 64 ∧ t.rd R.TIME_OFFSET = satOffset offset ∧
        t.rd R.TIME_PATH_DELAY = min delay (2 ^ 32 - 1) ∧ t.fld R.TIME_TS_ERR_MAX 15 0 = max (s.fld R.TIME_TS_ERR_MAX 15 0) errNs % 2 ^ 16 ∧
        (s.clock.gm = 0 ∨ s.rd64 R.TIME_GM_ID_L ≠ gm % 2 ^ 64 → t.clock.exchanges = 1 ∧ t.clock.sec = s.clock.sec ∧ t.clock.frac = s.clock.frac) ∧
        (3 ≤ s.clock.exchanges → s.clock.gm = 1 → s.rd64 R.TIME_GM_ID_L = gm % 2 ^ 64 → 1000 * s.rd R.TIME_STEP_THRESH < offset.natAbs →
          s.fld R.TIME_STEP_USED 0 0 = 0 →
          (t.clock.sec : Int) * secondUnits + t.clock.frac =
            ((s.clock.sec : Int) * secondUnits + s.clock.frac - offset * 2 ^ 32) % ((secondUnits * 2 ^ 48 : Nat) : Int) ∧ t.fld R.TIME_STEP_USED 0 0 = 1)) ∧
    (256 < s.logFree → ∃ t, exec .timeGmLost s = .next t ∧ t = { s with regs := t.regs, log := t.log, trace := t.trace, out := t.out } ∧
      t.newest Code.TIME_GM_LOST 1 0 0 0 0)

/-! ### The Ivdon links -/

/-- A good packet that has not been seen is passed on with one hop fewer on every other port in service and acted on: HELLO names the
neighbour, LEVEL lowers the ring's level at once, WAKE starts a wake, ALIVE is noted with its format, MGMT only passes (R596 to R601,
R604); one with a wrong CRC is counted and reported, one already seen is dropped (R596, R597). Ports: one that fails goes down, is counted
and reported, and trains again; a training ends in service at its rate, degraded with a report, or failed until it is tried again (R595,
R598); RETRAIN trains the ports that it names (R610); the ring's level rises when no offer as low stands (R601). -/
def Obligations.IvdonServes : Prop :=
  (∀ (port : Nat) (p : BitVec 128) (s : State), s.hears port = true → s.fatal = 0 →
    (pktOk p = true → pktType p = 1 →
      ∃ t, exec (.hello port p) s = .next t ∧ t = { s with ivdon := { s.ivdon with ports := t.ivdon.ports } } ∧
        t.port port = { s.port port with nb := pktSrc p, nbPort := pktField p 31 30 } ∧ ∀ i, i ≠ port → t.port i = s.port i) ∧
    (∀ c : Instr, c = .hello port p ∨ c = .level port p ∨ c = .ivdonWake port p ∨ c = .ready port p ∨ c = .epoch port p ∨ c = .contain port p ∨
        c = .alive port p ∨ c = .mgmt port p → pktOk p = false → 256 < s.logFree →
      ∃ t, exec c s = .next t ∧ t.port port = { s.port port with crcFails := satAdd 65535 (s.port port).crcFails 1 } ∧
        t = { s with regs := t.regs, log := t.log, ivdon := { s.ivdon with ports := t.ivdon.ports }, trace := t.trace, out := t.out } ∧
        t.newest Code.IVDON_MSG_CRC 0 8 port 0 0) ∧
    (pktOk p = true → s.seenPkt p = true → pktType p = 2 →
      ∃ t, exec (.level port p) s = .next t ∧ t = { s with regs := t.regs } ∧
        t.rd R.IVDON_FLOOD_DROPS = min (2 ^ 32 - 1) (s.rd R.IVDON_FLOOD_DROPS + 1) ∧ s.regsBut t [R.IVDON_FLOOD_DROPS]) ∧
    (pktOk p = true → s.seenPkt p = false → pktSrc p ≠ s.deviceNo →
      (∀ t, (pktType p = 2 ∧ s.power = .day ∧ exec (.level port p) s = .next t) ∨ (pktType p = 3 ∧ exec (.ivdonWake port p) s = .next t) ∨
          (pktType p = 0x13 ∧ exec (.alive port p) s = .next t) ∨ (pktType p = 0x40 ∧ exec (.mgmt port p) s = .next t) →
        (pktSrc p * 256 + pktSeq p, s.clock.mono) ∈ t.ivdon.seen ∧
        ∀ q, q ≤ 3 → q ≠ port → (s.port q).carries = true → 2 ≤ pktField p 95 88 →
          let pkt := packetOf (pktType p) (pktSrc p) (pktDst p) (pktField p 95 88 - 1) (pktSeq p) (pktField p 79 72) (pktField p 71 16)
          Out.packet q pkt ((s.port q).blocks pkt) ∈ t.out) ∧
      (pktType p = 2 → s.power = .day →
        ∃ t, exec (.level port p) s = .next t ∧ t.ivdon.ring = min s.ivdon.ring (pktField p 71 64) ∧ kget? t.ivdon.offers (pktSrc p) = some (pktField p 71 64) ∧
          (s.ivdon.ring ≤ pktField p 71 64 → t = { s with ivdon := t.ivdon, out := t.out }) ∧
          (pktField p 71 64 < s.ivdon.ring → 256 < s.logFree → t.newest Code.IVDON_LEVEL_DOWN 0 8 (pktField p 71 64) 0 0)) ∧
      (pktType p = 3 → s.power = .dusk → s.phase = 0 → s.nightReady = false → pktField p 71 71 = 1 ∨ pktDst p = s.deviceNo →
        ∃ t, exec (.ivdonWake port p) s = .next t ∧ t = { s with regs := t.regs, phase := 3, ivdon := t.ivdon, out := t.out } ∧
          t.fld R.CLK_POWER_STATE 18 16 = 3 ∧ t.fld R.SYS_POWER_REQ 1 0 = 0) ∧
      (pktType p = 0x40 → ∃ t, exec (.mgmt port p) s = .next t ∧ t = { s with ivdon := { s.ivdon with seen := t.ivdon.seen }, out := t.out }) ∧
      (pktType p = 0x13 → s.power = .day → s.grouped = true → pktField p 79 72 = s.group →
        ∃ t, exec (.alive port p) s = .next t ∧ t = { s with ivdon := t.ivdon, out := t.out } ∧ pktSrc p ∈ t.ivdon.heard ∧
          kget? t.ivdon.formats (pktSrc p) = some (pktField p 31 16)))) ∧
  ((∀ (port : Nat) (s : State), s.hears port = true → 256 < s.logFree →
    ∃ t, exec (.ivdonPortDown port) s = .next t ∧ t.port port = { s.port port with st := 1, relay := false, downs := satAdd 65535 (s.port port).downs 1 } ∧
      (∀ i, i ≠ port → t.port i = s.port i) ∧ t.newest Code.IVDON_PORT_DOWN 1 8 port 0 0 ∧
      t = { s with regs := t.regs, log := t.log, ivdon := { s.ivdon with ports := t.ivdon.ports }, trace := t.trace, out := t.out }) ∧
  (∀ (port rate nb nbPort : Nat) (s : State), port ≤ 3 → (s.port port).st = 1 → s.power ≠ .night → rate ≤ 2 → (s.fld R.IVDON_CFG 10 8).testBit rate = true →
    (∃ t, exec (.ivdonPortTrained port rate .up nb nbPort) s = .next t ∧
      t.port port = { s.port port with st := 2, rate := rate, nb := nb % 4096, nbPort := nbPort % 4, prevRate := rate + 1, lane := 0,
                                       relay := decide (s.power = .dusk) } ∧
      (∀ i, i ≠ port → t.port i = s.port i) ∧
      ((s.port port).prevRate ≤ rate + 1 → t = { s with ivdon := { s.ivdon with ports := t.ivdon.ports } }) ∧
      (rate + 1 < (s.port port).prevRate → 256 < s.logFree → t.newest Code.IVDON_RATE_DOWN 0 8 port 0 0)) ∧
    (∀ lane, lane ≤ 1 → 256 < s.logFree → (s.port port).prevRate ≤ rate + 1 →
      ∃ t, exec (.ivdonPortTrained port rate (.degraded lane) nb nbPort) s = .next t ∧
        t.port port = { s.port port with st := 3, rate := rate, nb := nb % 4096, nbPort := nbPort % 4, prevRate := rate + 1, lane := lane,
                                         relay := false } ∧
        t.newest Code.IVDON_PORT_DEGRADED 0 8 port 0 0) ∧
    ∃ t, exec (.ivdonPortTrained port rate .failed nb nbPort) s = .next t ∧ t = { s with ivdon := { s.ivdon with ports := t.ivdon.ports } } ∧
      t.port port = { s.port port with st := 5 } ∧ ∀ i, i ≠ port → t.port i = s.port i) ∧
  (∀ (port : Nat) (s : State), port ≤ 3 → (s.port port).st = 5 → s.power ≠ .night →
    ∃ t, exec (.ivdonPortRetry port) s = .next t ∧ t = { s with ivdon := { s.ivdon with ports := t.ivdon.ports } } ∧
      t.port port = { s.port port with st := 1, relay := false } ∧ ∀ i, i ≠ port → t.port i = s.port i) ∧
  (∀ (o : Origin) (v : Nat) (s : State), s.permit o R.IVDON_RETRAIN v = .ok s → s.enabled 19 = true →
    ∃ t, exec (.ivdonRetrain o v) s = .next t ∧ t = { s with ivdon := { s.ivdon with ports := t.ivdon.ports }, trace := t.trace } ∧
      ∀ i, t.port i = if i ∈ s.topoPorts ∧ v.testBit i = true ∧ (s.port i).st ≠ 0 then { s.port i with st := 1, relay := false } else s.port i) ∧
  ∀ s : State, s.power = .day → s.booted = true → s.ivdon.ring < s.ivdon.ownLevel →
    (∀ x ∈ s.ivdon.offers, s.ivdon.ring < x.2) →
    ∃ t, exec .ivdonLevelRise s = .next t ∧ t = { s with ivdon := { s.ivdon with ring := t.ivdon.ring } } ∧ s.ivdon.ring < t.ivdon.ring ∧
      t.ivdon.ring ≤ s.ivdon.ownLevel ∧ ∀ x ∈ s.ivdon.offers, t.ivdon.ring ≤ x.2)

/-- A sync group's epochs: the leader counts the READY packets of the next epoch and floods EPOCH when it has heard all of them; EPOCH
brings the next epoch; a device whose next start is free floods READY once; a CONTAIN of the present epoch contains the writing stripe at
its next flash, and one of another epoch is only counted; a member that is lost contains (R602 to R604, R607). -/
def Obligations.GroupsKeepEpochs : Prop :=
  (∀ (port : Nat) (p : BitVec 128) (s : State), s.hears port = true → s.fatal = 0 → s.power = .day → pktOk p = true → s.seenPkt p = false →
    pktSrc p ≠ s.deviceNo → s.grouped = true → pktField p 79 72 = s.group →
    (pktType p = 0x10 → s.role = 2 → pktEpoch p = (s.ivdon.epoch + 1) % 2 ^ 32 →
      let l := if s.ivdon.readyFrom.contains (pktSrc p) then s.ivdon.readyFrom else pktSrc p :: s.ivdon.readyFrom
      (l.length < s.fld R.IVDON_GROUP_LEAD 24 16 →
        ∃ t, exec (.ready port p) s = .next t ∧ t = { s with ivdon := t.ivdon, out := t.out } ∧ t.ivdon.readyFrom = l ∧ t.ivdon.epoch = s.ivdon.epoch) ∧
      (s.fld R.IVDON_GROUP_LEAD 24 16 ≤ l.length → s.ivdon.containSeen ≠ s.ivdon.epoch + 1 →
        ∃ t, exec (.ready port p) s = .next t ∧ t = { s with ivdon := t.ivdon, profile := t.profile, out := t.out } ∧
          t.ivdon.epoch = s.ivdon.epoch + 1 ∧ t.ivdon.readyFrom = [] ∧
          ∀ q, q ≤ 3 → (s.port q).carries = true →
            let pkt := packetOf 0x11 (s.fld R.SYS_DEVICE_NO 11 0) 0 255 s.ivdon.seq s.group ((s.ivdon.epoch + 1) % 2 ^ 32 * 2 ^ 24)
            Out.packet q pkt ((s.port q).blocks pkt) ∈ t.out)) ∧
    (pktType p = 0x11 → pktEpoch p = (s.ivdon.epoch + 1) % 2 ^ 32 →
      ∃ t, exec (.epoch port p) s = .next t ∧ t = { s with ivdon := t.ivdon, profile := t.profile, out := t.out } ∧
        t.ivdon.epoch = s.ivdon.epoch + 1 ∧ ((∀ x ∈ s.stripes, x.st ≠ .contained) → t.ivdon.epochGot = true ∧ t.profile = s.profile)) ∧
    (pktType p = 0x12 → pktEpoch p = s.ivdon.epoch % 2 ^ 32 → s.ivdon.epoch ≠ 0 → ∀ x, s.active = some x → x.st = .writing →
      ∃ t, exec (.contain port p) s = .next t ∧
        (s.drover.st ≠ 3 → s.drover.st ≠ 4 →
          t = { s with ivdon := t.ivdon, stripes := s.stripes.map (fun y => if y.ord = x.ord then { y with peer := true } else y), out := t.out }) ∧
        (s.drover.st = 3 ∨ s.drover.st = 4 → t.containedBy x Code.IVDON_GROUP_CONTAIN s.drover.k)) ∧
    (pktType p = 0x12 → pktEpoch p ≠ s.ivdon.epoch % 2 ^ 32 →
      ∃ t, exec (.contain port p) s = .next t ∧ t = { s with ivdon := t.ivdon, out := t.out } ∧ t.ivdon.contains = s.ivdon.contains + 1)) ∧
  (∀ s : State, s.power = .day → s.booted = true → s.grouped = true → s.ivdon.epochGot = false → s.ivdon.readySent ≠ s.ivdon.epoch + 1 →
    s.groupStart = true →
    ∃ t, exec .groupReady s = .next t ∧ t = { s with ivdon := t.ivdon, profile := t.profile, out := t.out } ∧ t.ivdon.readySent = s.ivdon.epoch + 1 ∧
      (s.role = 1 → t.ivdon = { s.ivdon with readySent := t.ivdon.readySent, seq := t.ivdon.seq, mine := t.ivdon.mine } ∧ t.profile = s.profile) ∧
      ∀ q, q ≤ 3 → (s.port q).carries = true →
        let pkt := packetOf 0x10 (s.fld R.SYS_DEVICE_NO 11 0) 0 255 s.ivdon.seq s.group ((s.ivdon.epoch + 1) % 2 ^ 32 * 2 ^ 24)
        Out.packet q pkt ((s.port q).blocks pkt) ∈ t.out) ∧
  ∀ (m : Nat) (x : Stripe) (s : State), s.grouped = true → s.active = some x → x.st = .writing → s.fatal = 0 → m ≤ 4095 → m ≠ s.deviceNo →
    256 < s.logFree →
    ∃ t, exec (.ivdonGroupLost m) s = .next t ∧ t.containedBy x Code.IVDON_GROUP_LOST s.drover.k ∧ t.newest Code.IVDON_GROUP_LOST 2 8 m 0 0 ∧
      t.ivdon.heard = s.ivdon.heard.filter (· ≠ m) ∧ kget? t.ivdon.formats m = none

/-! ### The board and the pages -/

/-- A page is enabled when its check passes and REFUSE reads 0; else it stays disabled, REFUSE names the code and the item, and the page's
interrupt 30 is raised (R623). It is disabled unless a stripe is held or a page that needs it is enabled (R625). A soft reset of a disabled
page clears its header's records; of an enabled one it is refused (R622). -/
def Obligations.PagesEnableAndReset : Prop :=
  ∀ (o : Origin) (p v : Nat) (s : State), p ≤ 28 → v < 2 ^ 32 → s.permit o (ctrlOf p) v = .ok s → s.auditFull = false →
    (fieldOf v 0 0 = 1 → fieldOf v 1 1 = 0 → s.enabled p = false →
      (s.check p = none → ∃ t, exec (.ctrlEnable o p v) s = .next t ∧ t.enabled p = true ∧ t.rd (p * 0x1000 + 0x0C) = 0) ∧
      ∀ e, s.check p = some e →
        ∃ t, exec (.ctrlEnable o p v) s = .next t ∧ t.enabled p = false ∧ t.rd (p * 0x1000 + 0x0C) = (e.2 * 2 ^ 16 + e.1) % 2 ^ 32 ∧
          t.fld (p * 0x1000 + 0x10) 30 30 = 1 ∧ t.stripes = s.stripes ∧ t.log = s.log) ∧
    (fieldOf v 0 0 = 0 → fieldOf v 1 1 = 0 → s.enabled p = true →
      (s.stripesHeld = false ∨ Nat.testBit 0x03C7FF00 p = false → (∀ q, q ≤ 28 → p ∈ needs q → s.enabled q = false) →
        ∃ t, exec (.ctrlDisable o p v) s = .next t ∧ t.enabled p = false ∧ t.stripes = s.stripes ∧ t.log = s.log) ∧
      (s.stripesHeld = true → Nat.testBit 0x03C7FF00 p = true → 256 < s.logFree →
        ∃ t, exec (.ctrlDisable o p v) s = .next t ∧ t.enabled p = true ∧ t.newest (Code.REG_STRIPE_ACTIVE p) 7 6 p 4 v) ∧
      (s.stripesHeld = false ∨ Nat.testBit 0x03C7FF00 p = false → 256 < s.logFree → ∀ q, q ≤ 28 → p ∈ needs q → s.enabled q = true →
        ∃ t, exec (.ctrlDisable o p v) s = .next t ∧ t.enabled p = true ∧ t.newest (Code.REG_PREREQ_HELD p) 7 6 p 4 v)) ∧
    (fieldOf v 1 1 = 1 →
      (fieldOf v 0 0 = 0 → s.enabled p = false →
        ∃ t, exec (.softReset o p v) s = .next t ∧ t.enabled p = false ∧
          ∀ off, off ∈ [0x0C, 0x18, 0x1C, 0x20] → t.rd (p * 0x1000 + off) = 0) ∧
      (s.enabled p = true → 256 < s.logFree →
        ∃ t, exec (.softReset o p v) s = .next t ∧ t.enabled p = true ∧ t.newest (Code.REG_RESET_ENABLED p) 7 6 p 4 v))

/-- The header's action registers: ERR_CLEAR clears the page's error summary and the fields that count since it (R621); a bit written 1 to
IRQ_PEND clears it, and the raw bit of an event source with it (R620); LOCK rises to the level written and never falls, and 3 is no level
(R560). Only a page that the write may reach acts. The board: a pin's edge changes the level that IN shows, and on an event input that
names edges of its kind it is an event with its pin, time and interrupt (R662); the board controller reads the status, the hottest
temperature and the supplies, and its wake value wakes the part from Dusk (R500, R658, R659). -/
def Obligations.HeadersAndBoardAct : Prop :=
  (∀ (o : Origin) (p v : Nat) (s : State), p ≤ 28 → v < 2 ^ 32 →
    (s.permit o (p * 0x1000 + 0x24) v = .ok s → v % 2 = 1 →
      ∃ t, exec (.errClear o p v) s = .next t ∧
        t = { s with regs := t.regs, trace := t.trace, flink := if p = 17 then { s.flink with slack := none } else s.flink } ∧ t.rd (p * 0x1000 + 0x1C) = 0 ∧
        t.rd (p * 0x1000 + 0x20) = 0 ∧ (∀ r ∈ sinceClear p, Nat.land (t.rd r.1) r.2 = Nat.land (regReset r.1).toNat r.2) ∧
        s.regsBut t ([p * 0x1000 + 0x1C, p * 0x1000 + 0x20] ++ (sinceClear p).map (·.1))) ∧
    (s.permit o (p * 0x1000 + 0x18) v = .ok s →
      ∃ t, exec (.irqPendClear o p v) s = .next t ∧ t = { s with regs := t.regs, trace := t.trace } ∧
        t.rd (p * 0x1000 + 0x18) = s.rd (p * 0x1000 + 0x18) - Nat.land (s.rd (p * 0x1000 + 0x18)) v ∧
        t.rd (p * 0x1000 + 0x10) = s.rd (p * 0x1000 + 0x10) - Nat.land (s.rd (p * 0x1000 + 0x10)) (v - Nat.land v (conditionIrqs p)) ∧
        s.regsBut t [p * 0x1000 + 0x18, p * 0x1000 + 0x10]) ∧
    (s.permit o (p * 0x1000 + 0x28) v = .ok s →
      (v % 4 ≠ 3 →
        ∃ t, exec (.lock o p v) s = .next t ∧ t = { s with regs := t.regs, trace := t.trace } ∧
          t.rd (p * 0x1000 + 0x28) = max (s.rd (p * 0x1000 + 0x28)) (v % 4) ∧ s.regsBut t [p * 0x1000 + 0x28]) ∧
      (v % 4 = 3 → 256 < s.logFree →
        ∃ t, exec (.lock o p v) s = .next t ∧ t.rd (p * 0x1000 + 0x28) = s.rd (p * 0x1000 + 0x28) ∧
          t.newest (Code.REG_VALUE_RANGE p) 7 6 p 0x28 v))) ∧
  ((∀ (pin : Nat) (rising : Bool) (s : State), pin ≤ 7 → s.gpioHigh.testBit pin ≠ rising →
    ∃ t, exec (.gpioEvent pin rising) s = .next t ∧ t = { s with regs := t.regs, gpioHigh := t.gpioHigh, out := t.out } ∧
      t.gpioHigh.testBit pin = rising ∧ (∀ n, n ≠ pin → t.gpioHigh.testBit n = s.gpioHigh.testBit n) ∧
      (let k := if rising then pin else pin + 8
       let event := s.booted && s.power != .night && s.enabled 28 && s.pinFunc pin == 3 && s.fld R.GPIO_EDGE k k == 1
       (event = true → t.rd R.GPIO_EVT_PIN = pin ∧ t.rd R.GPIO_EVT_SEC = s.clock.sec % 2 ^ 32 ∧ t.rd R.GPIO_EVT_NSEC = s.nsec % 2 ^ 32 ∧
         t.fld 0x1C010 pin pin = 1) ∧
       (event = false → t.regs = s.regs ∧ t.out = s.out))) ∧
  (∀ s : State, s.power ≠ .night →
    exec .i3cStatus s = .next { s with out := .i3c [BitVec.ofNat 8 s.i3cByte] :: s.out } ∧
    exec .i3cHottest s = .next { s with out := .i3c (leBytes 2 (s.fld R.THERM_HOTTEST 15 0)) :: s.out } ∧
    exec .i3cSupply s = .next { s with out := .i3c [BitVec.ofNat 8 s.rails] :: s.out }) ∧
  ∀ s : State, s.power = .dusk → s.phase = 0 → s.booted = true → s.fatal = 0 → s.nightReady = false →
    ∃ t, exec (.i3cWake 0xA5) s = .next t ∧ t = { s with regs := t.regs, phase := 3 } ∧ t.fld R.CLK_POWER_STATE 18 16 = 2 ∧
      t.fld R.SYS_POWER_REQ 1 0 = 0)

/-- One write that sets SOFT_RESET and ENABLE resets a disabled page first and then starts its check, as the enable does on the page just
reset; of an enabled page it is discarded whole with REG_RESET_ENABLED (R637). -/
def Obligations.ResetThenEnables : Prop :=
  ∀ (o : Origin) (p v : Nat) (s : State), p ≤ 28 → v < 2 ^ 32 → s.permit o (ctrlOf p) v = .ok s → s.auditFull = false → fieldOf v 0 0 = 1 →
    fieldOf v 1 1 = 1 →
    (s.enabled p = false →
      ∃ t, exec (.softReset o p v) s = .next t ∧ exec (.ctrlEnable o p (v - 2)) (s.softReset p) = .next t ∧
        ((s.softReset p).check p = none → t.enabled p = true) ∧
        ∀ e, (s.softReset p).check p = some e → t.enabled p = false ∧ t.rd (p * 0x1000 + 0x0C) = (e.2 * 2 ^ 16 + e.1) % 2 ^ 32) ∧
    (s.enabled p = true → 256 < s.logFree →
      ∃ t, exec (.softReset o p v) s = .next t ∧ t.newest (Code.REG_RESET_ENABLED p) 7 6 p 4 v ∧ t.rd (ctrlOf p) = s.rd (ctrlOf p) ∧
        t = { s with regs := t.regs, log := t.log, trace := t.trace, out := t.out })
end

