-- ==== Sys2Proof/Laws/Lists.lean ====
section
/-! SUPPORT. The keyed lists: a read after a write, and that every write keeps the canonical form. -/

namespace Sys2Proof.Machine

variable {α : Type}

theorem kget_kput (d : Nat → α) (m : KMap α) (k k' : Nat) (v : α) :
    kget d (kput m k v) k' = if k = k' then v else kget d m k' := by
  induction m with
  | nil => simp [kput, kget]
  | cons e m ih =>
    obtain ⟨j, w⟩ := e
    simp only [kput]
    by_cases h1 : k < j
    · simp [h1, kget]
    · by_cases h2 : k = j
      · subst h2
        by_cases h3 : k = k' <;> simp [h1, kget, h3]
      · by_cases h3 : j = k'
        · subst h3; simp [h1, h2, kget]
        · simp only [h1, h2, if_false, kget, h3, ih]

theorem kget?_kput (m : KMap α) (k k' : Nat) (v : α) :
    kget? (kput m k v) k' = if k = k' then some v else kget? m k' := by
  induction m with
  | nil => simp [kput, kget?]
  | cons e m ih =>
    obtain ⟨j, w⟩ := e
    simp only [kput]
    by_cases h1 : k < j
    · simp [h1, kget?]
    · by_cases h2 : k = j
      · subst h2
        by_cases h3 : k = k' <;> simp [h1, kget?, h3]
      · by_cases h3 : j = k'
        · subst h3; simp [h1, h2, kget?]
        · simp only [h1, h2, if_false, kget?, h3, ih]

/-- Keys above a bound. -/
theorem kwfFrom_mono [DecidableEq α] (d : Nat → α) {l l' : Nat} (m : KMap α) (h : l' ≤ l)
    (hm : kwfFrom d (some l) m = true) : kwfFrom d (some l') m = true := by
  cases m with
  | nil => rfl
  | cons e m =>
    obtain ⟨j, w⟩ := e
    simp only [kwfFrom, Bool.and_eq_true, decide_eq_true_eq] at hm ⊢
    exact ⟨⟨by omega, hm.1.2⟩, hm.2⟩

theorem kwfFrom_none [DecidableEq α] (d : Nat → α) (l : Nat) (m : KMap α) (hm : kwfFrom d (some l) m = true) :
    kwfFrom d none m = true := by
  cases m with
  | nil => rfl
  | cons e m =>
    obtain ⟨j, w⟩ := e
    simp only [kwfFrom, Bool.and_eq_true, decide_eq_true_eq] at hm ⊢
    exact ⟨⟨trivial, hm.1.2⟩, hm.2⟩

theorem kget_kdel (d : Nat → α) (m : KMap α) (k k' : Nat) : kget d (kdel m k) k' = if k = k' then d k' else kget d m k' := by
  induction m with
  | nil => simp [kdel, kget]
  | cons e m ih =>
    obtain ⟨j, w⟩ := e
    simp only [kdel]
    by_cases h1 : j = k
    · subst h1
      by_cases h2 : j = k'
      · subst h2; simp [ih]
      · simp [h2, kget, ih]
    · simp only [h1, if_false, kget, ih]
      by_cases h2 : j = k'
      · subst h2; simp [Ne.symm h1]
      · simp [h2]

/-- A read after a canonical write. -/
theorem kget_kset [DecidableEq α] (d : Nat → α) (m : KMap α) (k k' : Nat) (v : α) :
    kget d (kset d m k v) k' = if k = k' then v else kget d m k' := by
  unfold kset
  split
  · rw [kget_kdel d m k k']
    by_cases h : k = k'
    · subst h; simp_all
    · simp [h]
  · exact kget_kput d m k k' v

theorem kwfFrom_kput [DecidableEq α] (d : Nat → α) (lo : Option Nat) (m : KMap α) (k : Nat) (v : α) (hv : v ≠ d k)
    (hlo : ∀ l, lo = some l → l < k) (hm : kwfFrom d lo m = true) : kwfFrom d lo (kput m k v) = true := by
  induction m generalizing lo with
  | nil =>
    cases lo with
    | none => simp [kput, kwfFrom, hv]
    | some l => simp [kput, kwfFrom, hv, hlo l rfl]
  | cons e m ih =>
    obtain ⟨j, w⟩ := e
    simp only [kwfFrom, Bool.and_eq_true, decide_eq_true_eq] at hm
    simp only [kput]
    by_cases h1 : k < j
    · simp only [h1, if_true, kwfFrom, Bool.and_eq_true, decide_eq_true_eq]
      refine ⟨⟨?_, hv⟩, ⟨trivial, hm.1.2⟩, hm.2⟩
      cases lo with
      | none => rfl
      | some l => simpa using hlo l rfl
    · by_cases h2 : k = j
      · subst h2
        simp only [Nat.lt_irrefl, if_false, if_true, kwfFrom, Bool.and_eq_true, decide_eq_true_eq]
        exact ⟨⟨hm.1.1, hv⟩, hm.2⟩
      · simp only [h1, h2, if_false, kwfFrom, Bool.and_eq_true, decide_eq_true_eq]
        refine ⟨hm.1, ih (some j) ?_ hm.2⟩
        intro l hl
        cases hl
        omega

theorem kwfFrom_kdel [DecidableEq α] (d : Nat → α) (lo : Option Nat) (m : KMap α) (k : Nat)
    (hm : kwfFrom d lo m = true) : kwfFrom d lo (kdel m k) = true := by
  induction m generalizing lo with
  | nil => rfl
  | cons e m ih =>
    obtain ⟨j, w⟩ := e
    simp only [kwfFrom, Bool.and_eq_true, decide_eq_true_eq] at hm
    simp only [kdel]
    by_cases h1 : j = k
    · simp only [h1, if_true]
      have h := ih (some j) hm.2
      cases lo with
      | none => exact kwfFrom_none d j _ h
      | some l =>
        have h3 := hm.1.1
        simp only [decide_eq_true_eq] at h3
        exact kwfFrom_mono d _ (Nat.le_of_lt h3) h
    · simp only [h1, if_false, kwfFrom, Bool.and_eq_true, decide_eq_true_eq]
      exact ⟨hm.1, ih (some j) hm.2⟩

/-- A write keeps the canonical form. -/
theorem kwf_kset [DecidableEq α] (d : Nat → α) (m : KMap α) (k : Nat) (v : α) (hm : kwf d m = true) :
    kwf d (kset d m k v) = true := by
  unfold kset
  split
  · exact kwfFrom_kdel d none m k hm
  · exact kwfFrom_kput d none m k v (by assumption) (by intro l h; cases h) hm

/-- Many writes keep it. -/
theorem kwf_foldl_kset [DecidableEq α] (d : Nat → α) {β : Type} (l : List β) (f : β → Nat) (g : β → α) (m : KMap α)
    (hm : kwf d m = true) : kwf d (l.foldl (fun m b => kset d m (f b) (g b)) m) = true := by
  induction l generalizing m with
  | nil => exact hm
  | cons b l ih => exact ih _ (kwf_kset d m _ _ hm)

end Sys2Proof.Machine
end

