-- ==== Sys2Proof/Laws/Keeps.lean ====
section
/-! SUPPORT. What every command keeps: the invariant, the queue as it was, and everything sent so far. -/

namespace Sys2Proof.Machine

/-- The canonical lists of a state. -/
structure ListsOk (regs force : KMap Word) (bells : KMap (BitVec 64)) (rails : Nat) (cmds : List Cmd) (nextCmd : Nat)
    (stripes : List Stripe) (stripeOrd : Nat)
    (recs : List ErrRec) (pool : List AuditSlot) (pending : List Instr) (out : List Out) (q : List Instr) (o : List Out) : Prop where
  regs : kwf regReset regs = true
  force : kwf regReset force = true
  bells : kwf bellFactory bells = true
  rails : rails ≤ 127
  cmds : numbered cmds nextCmd
  stripes : ordered stripes stripeOrd
  recs : recs.length ≤ 16384
  pool : pool.length ≤ 32768
  pending : pending = q
  out : o <:+ out

/-- The invariant holds, the queue is q, and what has left the block begins with o. -/
structure Keeps (q : List Instr) (o : List Out) (s : State) : Prop where
  ok : ListsOk s.regs s.force s.bells s.rails s.host.cmds s.host.nextCmd s.stripes s.stripeOrd s.log.recs s.audit.pool s.pending s.out q o

/-- The same of an outcome, where it is a next state. -/
def KeepsOut (q : List Instr) (o : List Out) : Host.Outcome State Fault Refusal → Prop
  | .next t => Keeps q o t
  | .fault _ => True
  | .refused _ => True

variable {q : List Instr} {o : List Out} {s : State}

/-- A fact and what follows from it. -/
theorem keeps_split {G : Prop} (P : Prop) (h : P) (g : P → G) : G := g h

theorem keepsOut_next {t : State} (h : Keeps q o t) : KeepsOut q o (.next t) := h

theorem keepsOut_ite {c : Prop} [Decidable c] {a b : Host.Outcome State Fault Refusal} (ha : KeepsOut q o a) (hb : KeepsOut q o b) :
    KeepsOut q o (if c then a else b) := by split <;> assumption

theorem keeps_ite {c : Prop} [Decidable c] {a b : State} (ha : Keeps q o a) (hb : Keeps q o b) : Keeps q o (if c then a else b) := by
  split <;> assumption

theorem keeps_up (h : Keeps q o s) : ListsOk s.regs s.force s.bells 127 s.host.cmds s.host.nextCmd s.stripes s.stripeOrd s.log.recs s.audit.pool s.pending s.out q o :=
  { h.ok with rails := Nat.le_refl _ }

theorem keeps_someIte {c : Prop} [Decidable c] {a u : State} {b : Option State} (ha : Keeps q o a) (hb : b = some u → Keeps q o u) :
    (if c then some a else b) = some u → Keeps q o u := by
  split
  · intro e
    injection e with e
    rw [← e]
    exact ha
  · exact hb

theorem keeps_id (h : Keeps q o s) : Keeps q o (id s) := h

theorem keeps_foldl {β : Type} {f : State → β → State} (hf : ∀ s b, Keeps q o s → Keeps q o (f s b)) :
    ∀ (l : List β) {s : State}, Keeps q o s → Keeps q o (l.foldl f s)
  | [], _, h => h
  | b :: l, s, h => keeps_foldl hf l (hf s b h)

theorem keeps_foldl_fst {β γ : Type} {f : State × γ → β → State × γ} (hf : ∀ a b, Keeps q o a.1 → Keeps q o (f a b).1) :
    ∀ (l : List β) {a : State × γ}, Keeps q o a.1 → Keeps q o (l.foldl f a).1
  | [], _, h => h
  | b :: l, a, h => keeps_foldl_fst hf l (hf a b h)

theorem keeps_foldl_snd {β γ : Type} {f : γ × State → β → γ × State} (hf : ∀ a b, Keeps q o a.2 → Keeps q o (f a b).2) :
    ∀ (l : List β) {a : γ × State}, Keeps q o a.2 → Keeps q o (l.foldl f a).2
  | [], _, h => h
  | b :: l, a, h => keeps_foldl_snd hf l (hf a b h)

theorem keeps_wr (a v : Nat) (h : Keeps q o s) : Keeps q o (s.wr a v) :=
  ⟨{ h.ok with regs := kwf_kset _ _ _ _ h.ok.regs }⟩

theorem keeps_emit (x : Out) (h : Keeps q o s) : Keeps q o (s.emit x) :=
  ⟨{ h.ok with out := h.ok.out.trans (List.suffix_cons _ _) }⟩

theorem keeps_putBell (n v : Nat) (h : Keeps q o s) : Keeps q o (s.putBell n v) :=
  ⟨{ h.ok with bells := kwf_kset _ _ _ _ h.ok.bells }⟩

theorem keeps_putForce {β : Type} (l : List β) (f : β → Nat) (g : β → Word) (h : Keeps q o s) :
    Keeps q o { s with force := l.foldl (fun m b => kset regReset m (f b) (g b)) s.force } :=
  ⟨{ h.ok with force := kwf_foldl_kset _ _ _ _ _ h.ok.force }⟩

/-! Commands: their numbers. -/

theorem numbered_map {cmds : List Cmd} {next : Nat} {f : Cmd → Cmd} (hf : ∀ c, (f c).n = c.n) (h : numbered cmds next) :
    numbered (cmds.map f) next := by
  have e : (cmds.map f).map (·.n) = cmds.map (·.n) := by
    rw [List.map_map]
    exact List.map_congr_left (fun c _ => hf c)
  unfold numbered
  rw [e]
  exact h

theorem numbered_filter {cmds : List Cmd} {next : Nat} (p : Cmd → Bool) (h : numbered cmds next) : numbered (cmds.filter p) next :=
  h.sublist (List.Sublist.append_right (List.filter_sublist.map _) _)

theorem numbered_add {cmds : List Cmd} {next : Nat} {c : Cmd} (hc : c.n = next) (h : numbered cmds next) :
    numbered (cmds ++ [c]) (next + 1) := by
  unfold numbered at *
  rw [List.map_append, List.map_singleton, hc, List.pairwise_append]
  refine ⟨h, List.pairwise_singleton _ _, fun a ha b hb => ?_⟩
  rw [List.mem_singleton] at hb
  subst hb
  rw [List.pairwise_append] at h
  rw [List.mem_append] at ha
  rcases ha with ha | ha
  · exact Nat.lt_succ_of_lt (h.2.2 a ha next (List.mem_singleton_self _))
  · rw [List.mem_singleton] at ha
    omega

theorem numbered_nil (next : Nat) : numbered [] next := List.pairwise_singleton _ _

theorem ordered_map {l : List Stripe} {last : Nat} {f : Stripe → Stripe} (hf : ∀ x, (f x).ord = x.ord) (h : ordered l last) :
    ordered (l.map f) last := by
  have e : (l.map f).map (·.ord) = l.map (·.ord) := by
    rw [List.map_map]
    exact List.map_congr_left (fun c _ => hf c)
  unfold ordered
  rw [e]
  exact h

theorem ordered_filter {l : List Stripe} {last : Nat} (p : Stripe → Bool) (h : ordered l last) : ordered (l.filter p) last :=
  h.sublist (List.Sublist.append_right (List.filter_sublist.map _) _)

theorem ordered_add {l : List Stripe} {last : Nat} {x : Stripe} (hx : x.ord = last + 1) (h : ordered l last) :
    ordered (l ++ [x]) (last + 1) := by
  unfold ordered at *
  rw [List.map_append, List.map_singleton, hx, List.pairwise_append]
  refine ⟨h, List.pairwise_singleton _ _, fun a ha b hb => ?_⟩
  rw [List.mem_singleton] at hb
  subst hb
  rw [List.pairwise_append] at h
  rw [List.mem_append] at ha
  rcases ha with ha | ha
  · exact Nat.lt_succ_of_lt (h.2.2 a ha _ (List.mem_singleton_self _))
  · rw [List.mem_singleton] at ha
    omega

theorem ordered_nil (last : Nat) : ordered [] last := List.pairwise_singleton _ _

theorem keeps_modStripes (p : Stripe → Bool) (f : Stripe → Stripe) (hf : ∀ x, (f x).ord = x.ord) (h : Keeps q o s) :
    Keeps q o (s.modStripes p f) :=
  ⟨{ h.ok with stripes := ordered_map (fun c => by split <;> simp [hf]) h.ok.stripes }⟩

theorem keeps_modStripe (x : Stripe) (f : Stripe → Stripe) (hf : ∀ x, (f x).ord = x.ord) (h : Keeps q o s) : Keeps q o (s.modStripe x f) :=
  keeps_modStripes _ _ hf h

theorem keeps_setCmd (n : Nat) (f : Cmd → Cmd) (hf : ∀ c, (f c).n = c.n) (h : Keeps q o s) : Keeps q o (s.setCmd n f) :=
  ⟨{ h.ok with cmds := numbered_map (fun c => by split <;> simp [hf]) h.ok.cmds }⟩

end Sys2Proof.Machine
end

