-- ==== Sys2Proof/Laws/KeepsOps.lean ====
section
/-! SUPPORT. Each operation of Machine/Ops.lean keeps what Keeps says. -/

set_option linter.unusedVariables false
set_option linter.tactic.unusedName false

namespace Sys2Proof.Machine

variable {qq : List Instr} {oo : List Out}

theorem keeps_setFld {s : State} (a : RegAddr) (hi : Nat) (lo : Nat) (x : Nat) (hs : Keeps qq oo s) : Keeps qq oo (State.setFld s a hi lo x) := by
  unfold State.setFld
  repeat' first
    | (with_reducible first | assumption | apply keeps_wr)

theorem keeps_bump {s : State} (a : RegAddr) (hi : Nat) (lo : Nat) (n : Nat) (hs : Keeps qq oo s) : Keeps qq oo (State.bump s a hi lo n) := by
  unfold State.bump
  repeat' first
    | (with_reducible first | assumption | apply keeps_setFld)

theorem keeps_inc {s : State} (a : RegAddr) (hs : Keeps qq oo s) : Keeps qq oo (State.inc s a) := by
  unfold State.inc
  repeat' first
    | (with_reducible first | assumption | apply keeps_bump)

theorem keeps_maxFld {s : State} (a : RegAddr) (hi : Nat) (lo : Nat) (x : Nat) (hs : Keeps qq oo s) : Keeps qq oo (State.maxFld s a hi lo x) := by
  unfold State.maxFld
  repeat' first
    | (with_reducible first | assumption | apply keeps_setFld)

theorem keeps_wr64 {s : State} (a : RegAddr) (v : Nat) (hs : Keeps qq oo s) : Keeps qq oo (State.wr64 s a v) := by
  unfold State.wr64
  repeat' first
    | (with_reducible first | assumption | apply keeps_wr)

theorem keeps_fresh {s : State} (hs : Keeps qq oo s) : Keeps qq oo (State.fresh s).2 := by
  unfold State.fresh
  try dsimp only
  repeat' first
    | (with_reducible first | assumption)
    | (with_reducible apply Keeps.mk; dsimp only; with_reducible apply Keeps.ok)

theorem keeps_signalPage {s : State} (page : Nat) (before : Nat) (hs : Keeps qq oo s) : Keeps qq oo (State.signalPage s page before) := by
  unfold State.signalPage
  try dsimp only
  repeat' first
    | (with_reducible first | assumption | apply keeps_ite | apply keeps_emit)
    | (with_reducible apply Keeps.mk; dsimp only; with_reducible apply Keeps.ok)
    | split

theorem keeps_raiseIrq {s : State} (page : Nat) (bit : Nat) (hs : Keeps qq oo s) : Keeps qq oo (State.raiseIrq s page bit) := by
  unfold State.raiseIrq
  try dsimp only
  repeat' first
    | (with_reducible first | assumption | apply keeps_ite | apply keeps_setFld | apply keeps_signalPage)
    | (with_reducible apply Keeps.mk; dsimp only; with_reducible apply Keeps.ok)
    | split

theorem keeps_dropIrq {s : State} (page : Nat) (bit : Nat) (hs : Keeps qq oo s) : Keeps qq oo (State.dropIrq s page bit) := by
  unfold State.dropIrq
  repeat' first
    | (with_reducible first | assumption | apply keeps_setFld)

theorem keeps_traceRec {s : State} (page : Nat) (kind : Nat) (code : Nat) (data : List Nat) (hs : Keeps qq oo s) : Keeps qq oo (State.traceRec s page kind code data) := by
  unfold State.traceRec
  try dsimp only
  repeat' first
    | (with_reducible first | assumption | apply keeps_ite)
    | (with_reducible apply Keeps.mk; dsimp only; with_reducible apply Keeps.ok)
    | split

theorem keeps_traced (p : Nat) {s : State} {t : State} (hs : Keeps qq oo s) (ht : Keeps qq oo t) : Keeps qq oo (State.traced p s t) := by
  unfold State.traced
  repeat' first
    | (with_reducible first | assumption | apply keeps_ite | apply keeps_traceRec)
    | split

theorem keeps_countOnly {s : State} (page : Nat) (hs : Keeps qq oo s) : Keeps qq oo (State.countOnly s page) := by
  unfold State.countOnly
  repeat' first
    | (with_reducible first | assumption | apply keeps_traced | apply keeps_inc)

theorem keeps_logRec {s : State} (r : ErrRec) (hs : Keeps qq oo s) : Keeps qq oo (State.logRec s r) := by
  unfold State.logRec
  dsimp only
  have h : Keeps qq oo { s with log := { s.log with recs := (r :: s.log.recs).take 16384, nextSeq := r.seq + 1, used := s.log.used + 1 } } :=
    ⟨{ hs.ok with recs := List.length_take_le _ _ }⟩
  exact keeps_wr64 _ _ (keeps_wr _ _ (keeps_setFld _ _ _ _ h))

theorem keeps_pageErr {s : State} (p : Nat) (seq : Nat) (code : Nat) (hs : Keeps qq oo s) : Keeps qq oo (State.pageErr s p seq code) := by
  unfold State.pageErr
  try dsimp only
  repeat' first
    | (with_reducible first | assumption | apply keeps_ite | apply keeps_wr | apply keeps_traced | apply keeps_inc)
    | (with_reducible apply Keeps.mk; dsimp only; with_reducible apply Keeps.ok)
    | split

theorem keeps_traceTrigger {s : State} (code : Nat) (hs : Keeps qq oo s) : Keeps qq oo (State.traceTrigger s code) := by
  unfold State.traceTrigger
  try dsimp only
  repeat' first
    | (with_reducible first | assumption | apply keeps_ite | apply keeps_fire)
    | (with_reducible apply Keeps.mk; dsimp only; with_reducible apply Keeps.ok)
    | split

theorem keeps_writeRec {s : State} (a : RecArg) (hs : Keeps qq oo s) : Keeps qq oo (State.writeRec s a) := by
  unfold State.writeRec
  dsimp only
  have h1 := keeps_logRec (s.mkRec a) hs
  have h2 : Keeps qq oo (match a.cmd with
      | none => s.logRec (s.mkRec a)
      | some n => (s.logRec (s.mkRec a)).setCmd n (fun c => c.charge (s.mkRec a).seq)) := by
    split
    · exact h1
    · exact keeps_setCmd _ _ (fun _ => rfl) h1
  have h3 := keeps_raiseIrq a.page 31
    (keeps_traceTrigger a.code (keeps_traceRec a.page 1 (s.mkRec a).code [(s.mkRec a).seq, (s.mkRec a).loc0, (s.mkRec a).loc1, (s.mkRec a).loc2]
      (keeps_pageErr a.page (s.mkRec a).seq (s.mkRec a).code h2)))
  split
  · exact keeps_raiseIrq _ _ h3
  · exact h3

theorem keeps_recordRaw {s : State} (a : RecArg) (hs : Keeps qq oo s) : Keeps qq oo (State.recordRaw s a) := by
  unfold State.recordRaw
  try dsimp only
  repeat' first
    | (with_reducible first | assumption | apply keeps_ite | apply keeps_countOnly | apply keeps_writeRec | apply keeps_raiseIrq)
    | (with_reducible apply Keeps.mk; dsimp only; with_reducible apply Keeps.ok)
    | split

theorem keeps_beginSign {s : State} (hs : Keeps qq oo s) : Keeps qq oo (State.beginSign s) := by
  unfold State.beginSign
  try dsimp only
  repeat' first
    | (with_reducible first | assumption | apply keeps_chain)
    | (with_reducible apply Keeps.mk; dsimp only; with_reducible apply Keeps.ok)

theorem keeps_commit {s : State} (kind : Nat) (o : Origin) (addr : Nat) (old : Nat) (new : Nat) (detail : List Nat) (hs : Keeps qq oo s) :
    Keeps qq oo (State.commit s kind o addr old new detail) := by
  unfold State.commit
  split
  · exact keeps_setFld _ _ _ _ ⟨{ hs.ok with }⟩
  · rename_i hf
    dsimp only
    have hp : ∀ x : AuditSlot, (x :: s.audit.pool).length ≤ 32768 := fun x => by
      unfold State.auditFree at hf
      rw [List.length_cons]
      omega
    have h : ∀ r x n c w, Keeps qq oo { s with audit :=
        { s.audit with pool := AuditSlot.record r :: s.audit.pool, entered := x, nextSeq := n, chain := c, sinceSign := w } } := fun r x n c w => ⟨{ hs.ok with pool := hp _ }⟩
    repeat' first
      | with_reducible apply keeps_ite
      | with_reducible apply keeps_beginSign
      | with_reducible apply keeps_wr
      | with_reducible apply keeps_wr64
      | with_reducible apply keeps_putBell
      | exact h _ _ _ _ _

theorem keeps_countFull {s : State} (hs : Keeps qq oo s) : Keeps qq oo (State.countFull s) := by
  unfold State.countFull
  repeat' first
    | (with_reducible first | assumption | apply keeps_bump | apply keeps_emit)

theorem keeps_setQueue {s : State} (q : Nat) (x : Queue) (hs : Keeps qq oo s) : Keeps qq oo (State.setQueue s q x) := by
  unfold State.setQueue
  try dsimp only
  repeat' first
    | (with_reducible first | assumption)
    | (with_reducible apply Keeps.mk; dsimp only; with_reducible apply Keeps.ok)
    | (intro _; intros; try dsimp only)

theorem keeps_writeCompletion {s : State} (q : Nat) (c : Cmd) (d : Nat × Nat × Nat × Nat × Nat) (hs : Keeps qq oo s) :
    Keeps qq oo (State.writeCompletion s q c d) := by
  unfold State.writeCompletion
  dsimp only
  have h := keeps_emit (.completion q (s.queue q).cqTail (complWords c d c.head (s.queue q).phase)) hs
  have h1 : Keeps qq oo { s.emit (.completion q (s.queue q).cqTail (complWords c d c.head (s.queue q).phase)) with
      host := { (s.emit (.completion q (s.queue q).cqTail (complWords c d c.head (s.queue q).phase))).host with
        cmds := (s.emit (.completion q (s.queue q).cqTail (complWords c d c.head (s.queue q).phase))).host.cmds.filter (fun y => y.n ≠ c.n) } } :=
    ⟨{ h.ok with cmds := numbered_filter _ h.ok.cmds }⟩
  split
  · exact keeps_emit _ (keeps_setQueue _ _ h1)
  · exact keeps_setQueue _ _ h1

theorem keeps_drainCq : ∀ (n : Nat) {s : State}, Keeps qq oo s → Keeps qq oo (State.drainCq n s)
  | 0, _, h => h
  | n + 1, s, h => by
    unfold State.drainCq
    split
    · exact h
    · split
      · exact h
      · exact keeps_drainCq n (keeps_writeCompletion _ _ _ h)

theorem keeps_drain {s : State} (hs : Keeps qq oo s) : Keeps qq oo (State.drain s) := by
  unfold State.drain
  repeat' first
    | (with_reducible first | assumption | apply keeps_drainCq)
    | (intro _; intros; try dsimp only)

theorem keeps_complete {s : State} (n : Nat) (status : Nat) (r0 : Nat) (r1 : Nat) (r2 : Nat) (r3 : Nat) (hs : Keeps qq oo s) :
    Keeps qq oo (State.complete s n status r0 r1 r2 r3) :=
  keeps_drain (keeps_setCmd _ _ (fun c => by split <;> rfl) hs)

theorem keeps_fail {s : State} (n : Nat) (code : Nat) (lk : Nat) (l0 : Nat) (l1 : Nat) (l2 : Nat) (hs : Keeps qq oo s) : Keeps qq oo (State.fail s n code lk l0 l1 l2) := by
  unfold State.fail
  repeat' first
    | (with_reducible first | assumption | apply keeps_recordRaw | apply keeps_complete)
    | (with_reducible apply Keeps.mk; dsimp only; with_reducible apply Keeps.ok)

theorem keeps_putEvent {s : State} (e : Event) (hs : Keeps qq oo s) : Keeps qq oo (State.putEvent s e) := by
  unfold State.putEvent
  try dsimp only
  repeat' first
    | (with_reducible first | assumption | apply keeps_ite | apply keeps_emit | apply keeps_event)
    | (with_reducible apply Keeps.mk; dsimp only; with_reducible apply Keeps.ok)
    | split

theorem keeps_event {s : State} (typ : Nat) (jobId : Nat) (item : Nat) (code : Nat) (hs : Keeps qq oo s) : Keeps qq oo (State.event s typ jobId item code) := by
  unfold State.event
  try dsimp only
  repeat' first
    | (with_reducible first | assumption | apply keeps_ite | apply keeps_putEvent | apply keeps_recordRaw)
    | (with_reducible apply Keeps.mk; dsimp only; with_reducible apply Keeps.ok)
    | split

theorem keeps_eventKept {s : State} (typ : Nat) (jobId : Nat) (item : Nat) (code : Nat) (hs : Keeps qq oo s) : Keeps qq oo (State.eventKept s typ jobId item code) := by
  unfold State.eventKept
  try dsimp only
  repeat' first
    | (with_reducible first | assumption | apply keeps_ite | apply keeps_putEvent)
    | (with_reducible apply Keeps.mk; dsimp only; with_reducible apply Keeps.ok)
    | split

theorem keeps_drainEvents : ∀ (n : Nat) {s : State}, Keeps qq oo s → Keeps qq oo (State.drainEvents n s)
  | 0, _, h => h
  | n + 1, s, h => by
    unfold State.drainEvents
    split
    · exact h
    · split
      · exact keeps_drainEvents n (keeps_putEvent _ ⟨h.ok⟩)
      · exact h

theorem keeps_setJob {s : State} (i : Nat) (j : Job) (hs : Keeps qq oo s) : Keeps qq oo (State.setJob s i j) := by
  unfold State.setJob
  try dsimp only
  repeat' first
    | (with_reducible first | assumption | apply keeps_ite)
    | (with_reducible apply Keeps.mk; dsimp only; with_reducible apply Keeps.ok)
    | split

theorem keeps_modJob {s : State} (i : Nat) (f : Job → Job) (hs : Keeps qq oo s) : Keeps qq oo (State.modJob s i f) := by
  unfold State.modJob
  repeat' first
    | (with_reducible first | assumption | apply keeps_setJob)

theorem keeps_showCheck {s : State} (hs : Keeps qq oo s) : Keeps qq oo (State.showCheck s) := by
  unfold State.showCheck
  try dsimp only
  repeat' first
    | (with_reducible first | assumption | apply keeps_id | apply keeps_wr)
    | (with_reducible apply Keeps.mk; dsimp only; with_reducible apply Keeps.ok)
    | (intro _; intros; try dsimp only)
    | split

theorem keeps_showStripes {s : State} (hs : Keeps qq oo s) : Keeps qq oo (State.showStripes s) := by
  unfold State.showStripes
  try dsimp only
  repeat' first
    | (with_reducible first | assumption | apply keeps_ite | apply keeps_id | apply keeps_wr | apply keeps_setFld | apply keeps_showCheck)
    | (with_reducible apply Keeps.mk; dsimp only; with_reducible apply Keeps.ok)
    | (intro _; intros; try dsimp only)
    | split

theorem keeps_setLane {s : State} (l : Nat) (x : Lane) (hs : Keeps qq oo s) : Keeps qq oo (State.setLane s l x) := by
  unfold State.setLane
  try dsimp only
  repeat' first
    | (with_reducible first | assumption)
    | (with_reducible apply Keeps.mk; dsimp only; with_reducible apply Keeps.ok)
    | (intro _; intros; try dsimp only)

theorem keeps_allLanes {s : State} (typ : Nat) (content : Nat) (hs : Keeps qq oo s) : Keeps qq oo (State.allLanes s typ content) := by
  unfold State.allLanes
  repeat' first
    | (with_reducible first | assumption | apply keeps_ite | apply keeps_emit | apply keeps_foldl)
    | (intro _; intros; try dsimp only)
    | split

theorem keeps_modFrame {s : State} (lane : Nat) (index : Nat) (f : LinkFrame → LinkFrame) (hs : Keeps qq oo s) : Keeps qq oo (State.modFrame s lane index f) := by
  unfold State.modFrame
  try dsimp only
  repeat' first
    | (with_reducible first | assumption | apply keeps_ite)
    | (with_reducible apply Keeps.mk; dsimp only; with_reducible apply Keeps.ok)
    | (intro _; intros; try dsimp only)
    | split

theorem keeps_modFrames {s : State} (f : LinkFrame → LinkFrame) (hs : Keeps qq oo s) : Keeps qq oo (State.modFrames s f) := by
  unfold State.modFrames
  try dsimp only
  repeat' first
    | (with_reducible first | assumption)
    | (with_reducible apply Keeps.mk; dsimp only; with_reducible apply Keeps.ok)

theorem keeps_resumeFrame {s : State} (l : Nat) (hs : Keeps qq oo s) : Keeps qq oo (State.resumeFrame s l) := by
  unfold State.resumeFrame
  try dsimp only
  repeat' first
    | (with_reducible first | assumption | apply keeps_emit)
    | (with_reducible apply Keeps.mk; dsimp only; with_reducible apply Keeps.ok)
    | split

theorem keeps_noteSlack {s : State} (l : Nat) (ns : Nat) (hs : Keeps qq oo s) : Keeps qq oo (State.noteSlack s l ns) := by
  unfold State.noteSlack
  try dsimp only
  repeat' first
    | (with_reducible first | assumption | apply keeps_ite)
    | (with_reducible apply Keeps.mk; dsimp only; with_reducible apply Keeps.ok)
    | split

theorem keeps_sendReplay {s : State} (l : Nat) (index : Nat) (ns : Nat) (hs : Keeps qq oo s) : Keeps qq oo (State.sendReplay s l index ns) := by
  unfold State.sendReplay
  try dsimp only
  repeat' first
    | (with_reducible first | assumption | apply keeps_inc | apply keeps_modFrame | apply keeps_setLane | apply keeps_noteSlack)
    | (with_reducible first | apply keeps_emit)
    | (with_reducible apply Keeps.mk; dsimp only; with_reducible apply Keeps.ok)
    | (intro _; intros; try dsimp only)
    | split

theorem keeps_sendDue {s : State} (l : Nat) (hs : Keeps qq oo s) : Keeps qq oo (State.sendDue s l) := by
  unfold State.sendDue
  try dsimp only
  repeat' first
    | (with_reducible first | assumption | apply keeps_ite | apply keeps_sendReplay | apply keeps_setLane | apply keeps_foldl)
    | (with_reducible apply Keeps.mk; dsimp only; with_reducible apply Keeps.ok)
    | (intro _; intros; try dsimp only)
    | split

theorem keeps_boundaryOf {s : State} (l : Nat) (hs : Keeps qq oo s) : Keeps qq oo (State.boundaryOf s l) := by
  unfold State.boundaryOf
  try dsimp only
  repeat' first
    | (with_reducible first | assumption | apply keeps_ite | apply keeps_sendDue | apply keeps_resumeFrame | apply keeps_fresh)
    | split

theorem keeps_shadeBlocks {s : State} (content : Nat) (hs : Keeps qq oo s) : Keeps qq oo (State.shadeBlocks s content) := by
  unfold State.shadeBlocks
  try dsimp only
  repeat' first
    | (with_reducible first | assumption | apply keeps_ite | apply keeps_emit | apply keeps_sendDue | apply keeps_resumeFrame)
    | (with_reducible first | apply keeps_fresh | apply keeps_foldl | apply keeps_foldl_snd)
    | (intro _; intros; try dsimp only)
    | split

theorem keeps_shadeOn {s : State} (now : Bool) (hs : Keeps qq oo s) : Keeps qq oo (State.shadeOn s now) := by
  unfold State.shadeOn
  try dsimp only
  repeat' first
    | (with_reducible first | assumption | apply keeps_ite | apply keeps_shadeBlocks)
    | (with_reducible apply Keeps.mk; dsimp only; with_reducible apply Keeps.ok)
    | split

theorem keeps_shadeOff {s : State} (flashLo : Nat) (hs : Keeps qq oo s) : Keeps qq oo (State.shadeOff s flashLo) := by
  unfold State.shadeOff
  try dsimp only
  repeat' first
    | (with_reducible first | assumption | apply keeps_shadeBlocks)
    | (with_reducible apply Keeps.mk; dsimp only; with_reducible apply Keeps.ok)

theorem keeps_dropAfter {s : State} (x : Stripe) (h : Int) (hs : Keeps qq oo s) : Keeps qq oo (State.dropAfter s x h) := by
  unfold State.dropAfter
  try dsimp only
  repeat' first
    | (with_reducible first | assumption | apply keeps_ite | apply keeps_after | apply keeps_setLane | apply keeps_foldl)
    | (with_reducible apply Keeps.mk; dsimp only; with_reducible apply Keeps.ok)
    | (intro _; intros; try dsimp only)
    | split

theorem keeps_tellBoard {s : State} (b : Nat) (hs : Keeps qq oo s) : Keeps qq oo (State.tellBoard s b) := by
  unfold State.tellBoard
  repeat' first
    | (with_reducible first | assumption | apply keeps_ite | apply keeps_emit)
    | split

theorem keeps_showPins {s : State} (b : Nat) (hs : Keeps qq oo s) : Keeps qq oo (State.showPins s b) := by
  unfold State.showPins
  repeat' first
    | (with_reducible first | assumption | apply keeps_ite | apply keeps_setFld | apply keeps_tellBoard)
    | split

theorem keeps_sendOn {s : State} (ps : List Nat) (pkt : BitVec 128) (hs : Keeps qq oo s) : Keeps qq oo (State.sendOn s ps pkt) := by
  unfold State.sendOn
  repeat' first
    | (with_reducible first | assumption | apply keeps_ite | apply keeps_emit | apply keeps_foldl)
    | (intro _; intros; try dsimp only)
    | split

theorem keeps_flood {s : State} (typ : Nat) (dst : Nat) (payload : Nat) (hs : Keeps qq oo s) : Keeps qq oo (State.flood s typ dst payload) := by
  unfold State.flood
  try dsimp only
  repeat' first
    | (with_reducible first | assumption | apply keeps_ite | apply keeps_take | apply keeps_sendOn)
    | (with_reducible apply Keeps.mk; dsimp only; with_reducible apply Keeps.ok)
    | split

theorem keeps_floodContain {s : State} (cause : Nat) (hs : Keeps qq oo s) : Keeps qq oo (State.floodContain s cause) := by
  unfold State.floodContain
  repeat' first
    | (with_reducible first | assumption | apply keeps_ite | apply keeps_flood)
    | split

theorem keeps_droverTo {s : State} (st : Nat) (hs : Keeps qq oo s) : Keeps qq oo (State.droverTo s st) := by
  unfold State.droverTo
  try dsimp only
  repeat' first
    | (with_reducible first | assumption | apply keeps_setFld)
    | (with_reducible apply Keeps.mk; dsimp only; with_reducible apply Keeps.ok)

theorem keeps_enterContained {s : State} (x : Stripe) (a : RecArg) (now : Bool) (h : Int) (hs : Keeps qq oo s) : Keeps qq oo (State.enterContained s x a now h) := by
  unfold State.enterContained
  try dsimp only
  repeat' first
    | (with_reducible first | assumption | apply keeps_recordRaw | apply keeps_modStripe | apply keeps_droverTo | apply keeps_shadeOn)
    | (with_reducible first | apply keeps_allLanes | apply keeps_dropAfter | apply keeps_setFld | apply keeps_wr | apply keeps_wr64)
    | (with_reducible first | apply keeps_floodContain | apply keeps_showStripes)
    | exact fun _ => rfl
    | (intro t; (try dsimp only); (repeat' split) <;> rfl)
    | (with_reducible apply Keeps.mk; dsimp only; with_reducible apply Keeps.ok)
    | (intro _; intros; try dsimp only)

theorem keeps_containAt {s : State} (a : RecArg) (now : Bool) (h : Int) (hs : Keeps qq oo s) : Keeps qq oo (State.containAt s a now h) := by
  unfold State.containAt
  try dsimp only
  repeat' first
    | (with_reducible first | assumption | apply keeps_ite | apply keeps_recordRaw | apply keeps_shadeOn | apply keeps_modStripe)
    | (with_reducible first | apply keeps_droverTo | apply keeps_allLanes | apply keeps_dropAfter | apply keeps_setFld)
    | (with_reducible first | apply keeps_enterContained)
    | exact fun _ => rfl
    | (intro t; (try dsimp only); (repeat' split) <;> rfl)
    | (with_reducible apply Keeps.mk; dsimp only; with_reducible apply Keeps.ok)
    | (intro _; intros; try dsimp only)
    | split

theorem keeps_contain {s : State} (a : RecArg) (now : Bool) (hs : Keeps qq oo s) : Keeps qq oo (State.contain s a now) := by
  unfold State.contain
  repeat' first
    | (with_reducible first | assumption | apply keeps_containAt)

theorem keeps_record {s : State} (a : RecArg) (hs : Keeps qq oo s) : Keeps qq oo (State.record s a) := by
  unfold State.record
  try dsimp only
  repeat' first
    | (with_reducible first | assumption | apply keeps_ite | apply keeps_recordRaw | apply keeps_contain)
    | (with_reducible apply Keeps.mk; dsimp only; with_reducible apply Keeps.ok)
    | split

theorem keeps_listKeep {s : State} (hs : Keeps qq oo s) : Keeps qq oo (State.listKeep s) := by
  unfold State.listKeep
  repeat' first
    | (with_reducible first | assumption | apply keeps_putBell)

theorem keeps_auditDir {s : State} (old : Nat) (hs : Keeps qq oo s) : Keeps qq oo (State.auditDir s old) := by
  unfold State.auditDir
  repeat' first
    | (with_reducible first | assumption | apply keeps_commit)

theorem keeps_keepWaits {s : State} (typ : Nat) (inst : Nat) (old : Option KeepRec) (hs : Keeps qq oo s) : Keeps qq oo (State.keepWaits s typ inst old) := by
  unfold State.keepWaits
  try dsimp only
  repeat' first
    | (with_reducible first | assumption | apply keeps_ite)
    | (with_reducible apply Keeps.mk; dsimp only; with_reducible apply Keeps.ok)
    | split

theorem keeps_keepCome {s : State} (p : Nat × Nat → Bool) (hs : Keeps qq oo s) : Keeps qq oo (State.keepCome s p) := by
  unfold State.keepCome
  try dsimp only
  repeat' first
    | (with_reducible first | assumption)
    | (with_reducible apply Keeps.mk; dsimp only; with_reducible apply Keeps.ok)
    | (intro _; intros; try dsimp only)

theorem keeps_laneComes {s : State} (l : Nat) (hs : Keeps qq oo s) : Keeps qq oo (State.laneComes s l) := by
  unfold State.laneComes
  try dsimp only
  repeat' first
    | (with_reducible first | assumption | apply keeps_ite | apply keeps_keepCome)
    | (intro _; intros; try dsimp only)
    | split

theorem keeps_encNow {s : State} (typ : Nat) (inst : Nat) (payload : List Byte) (hs : Keeps qq oo s) : Keeps qq oo (State.encNow s typ inst payload) := by
  unfold State.encNow
  try dsimp only
  repeat' first
    | (with_reducible first | assumption | apply keeps_ite)
    | (with_reducible apply Keeps.mk; dsimp only; with_reducible apply Keeps.ok)
    | split

theorem keeps_storeKeep {s : State} (o : Origin) (typ : Nat) (inst : Nat) (payload : List Byte) (bad : Nat) (hs : Keeps qq oo s) : Keeps qq oo (State.storeKeep s o typ inst payload bad) := by
  unfold State.storeKeep
  try dsimp only
  repeat' first
    | (with_reducible first | assumption | apply keeps_ite | apply keeps_commit | apply keeps_auditDir | apply keeps_listKeep)
    | (with_reducible first | apply keeps_keepWaits | apply keeps_encNow)
    | (with_reducible apply Keeps.mk; dsimp only; with_reducible apply Keeps.ok)
    | (intro _; intros; try dsimp only)
    | split

theorem keeps_putKeep {s : State} (typ : Nat) (inst : Nat) (payload : List Byte) (hs : Keeps qq oo s) : Keeps qq oo (State.putKeep s typ inst payload) := by
  unfold State.putKeep
  try dsimp only
  repeat' first
    | (with_reducible first | assumption | apply keeps_ite | apply keeps_storeKeep)
    | (with_reducible apply Keeps.mk; dsimp only; with_reducible apply Keeps.ok)
    | (intro _; intros; try dsimp only)
    | split

theorem keeps_flushKeep {s : State} (hs : Keeps qq oo s) : Keeps qq oo (State.flushKeep s) := by
  unfold State.flushKeep
  try dsimp only
  repeat' first
    | (with_reducible first | assumption | apply keeps_putKeep | apply keeps_foldl)
    | (with_reducible apply Keeps.mk; dsimp only; with_reducible apply Keeps.ok)
    | (intro _; intros; try dsimp only)

theorem keeps_saveAgeing {s : State} (hs : Keeps qq oo s) : Keeps qq oo (State.saveAgeing s) := by
  unfold State.saveAgeing
  repeat' first
    | (with_reducible first | assumption | apply keeps_putKeep)

theorem keeps_eraseKey {s : State} (cause : Nat) (slot : Nat) (hs : Keeps qq oo s) : Keeps qq oo (State.eraseKey s cause slot) := by
  unfold State.eraseKey
  try dsimp only
  repeat' first
    | (with_reducible first | assumption | apply keeps_ite | apply keeps_commit | apply keeps_modJob)
    | (with_reducible apply Keeps.mk; dsimp only; with_reducible apply Keeps.ok)
    | (intro _; intros; try dsimp only)
    | split

theorem keeps_eraseKeys {s : State} (cause : Nat) (hs : Keeps qq oo s) : Keeps qq oo (State.eraseKeys s cause) := by
  unfold State.eraseKeys
  try dsimp only
  repeat' first
    | (with_reducible first | assumption | apply keeps_eraseKey)
    | (with_reducible apply Keeps.mk; dsimp only; with_reducible apply Keeps.ok)

theorem keeps_deviceFatal {s : State} (a : RecArg) (hs : Keeps qq oo s) : Keeps qq oo (State.deviceFatal s a) := by
  unfold State.deviceFatal
  try dsimp only
  repeat' first
    | (with_reducible first | assumption | apply keeps_ite | apply keeps_shadeOn | apply keeps_droverTo | apply keeps_setFld)
    | (with_reducible first | apply keeps_recordRaw | apply keeps_wr | apply keeps_showPins | apply keeps_storeKeep | apply keeps_eraseKeys)
    | (with_reducible first | apply keeps_fail | apply keeps_foldl)
    | (with_reducible apply Keeps.mk; dsimp only; with_reducible apply Keeps.ok)
    | (intro _; intros; try dsimp only)
    | split

theorem keeps_writeBell {s : State} (n : Nat) (v : Nat) (code : Nat) (hs : Keeps qq oo s) : Keeps qq oo (State.writeBell s n v code) := by
  unfold State.writeBell
  try dsimp only
  repeat' first
    | (with_reducible first | assumption | apply keeps_ite | apply keeps_recordRaw | apply keeps_deviceFatal | apply keeps_putBell)
    | (with_reducible first | apply keeps_commit | apply keeps_record)
    | (with_reducible apply Keeps.mk; dsimp only; with_reducible apply Keeps.ok)
    | split

theorem keeps_modList {s : State} (x : Stripe) (f : DefList → DefList) (hs : Keeps qq oo s) : Keeps qq oo (State.modList s x f) := by
  unfold State.modList
  try dsimp only
  repeat' first
    | (with_reducible first | assumption | apply keeps_ite | apply keeps_modJob)
    | (with_reducible apply Keeps.mk; dsimp only; with_reducible apply Keeps.ok)
    | (intro _; intros; try dsimp only)
    | split

theorem keeps_serve {s : State} (hs : Keeps qq oo s) : Keeps qq oo (State.serve s) := by
  unfold State.serve
  try dsimp only
  repeat' first
    | (with_reducible first | assumption)
    | (with_reducible apply Keeps.mk; dsimp only; with_reducible apply Keeps.ok)

theorem keeps_setCtx {s : State} (i : Nat) (c : Ctx) (hs : Keeps qq oo s) : Keeps qq oo (State.setCtx s i c) := by
  unfold State.setCtx
  try dsimp only
  repeat' first
    | (with_reducible first | assumption | apply keeps_ite | apply keeps_setFld | apply keeps_serve)
    | (with_reducible apply Keeps.mk; dsimp only; with_reducible apply Keeps.ok)
    | (intro _; intros; try dsimp only)
    | split

theorem keeps_dropCtxs {s : State} (p : Ctx → Bool) (hs : Keeps qq oo s) : Keeps qq oo (State.dropCtxs s p) := by
  unfold State.dropCtxs
  try dsimp only
  repeat' first
    | (with_reducible first | assumption | apply keeps_ite | apply keeps_setCtx | apply keeps_foldl)
    | (with_reducible apply Keeps.mk; dsimp only; with_reducible apply Keeps.ok)
    | (intro _; intros; try dsimp only)
    | split

theorem keeps_dropUnits {s : State} (x : Stripe) (hs : Keeps qq oo s) : Keeps qq oo (State.dropUnits s x) := by
  unfold State.dropUnits
  try dsimp only
  repeat' first
    | (with_reducible first | assumption | apply keeps_ite | apply keeps_dropCtxs | apply keeps_setFld)
    | (with_reducible apply Keeps.mk; dsimp only; with_reducible apply Keeps.ok)
    | (intro _; intros; try dsimp only)
    | split

theorem keeps_dropStripe {s : State} (x : Stripe) (hs : Keeps qq oo s) : Keeps qq oo (State.dropStripe s x) :=
  have h := keeps_dropUnits x hs
  keeps_showStripes ⟨{ h.ok with stripes := ordered_filter _ h.ok.stripes }⟩

theorem keeps_endStripe {s : State} (x : Stripe) (state : Nat) (outcome : Nat) (status : Nat) (hs : Keeps qq oo s) : Keeps qq oo (State.endStripe s x state outcome status) := by
  unfold State.endStripe
  try dsimp only
  repeat' first
    | (with_reducible first | assumption | apply keeps_ite | apply keeps_modList | apply keeps_emit | apply keeps_complete)
    | (with_reducible apply Keeps.mk; dsimp only; with_reducible apply Keeps.ok)
    | (intro _; intros; try dsimp only)
    | split

theorem keeps_clearCkpt {s : State} (hs : Keeps qq oo s) : Keeps qq oo (State.clearCkpt s) := by
  unfold State.clearCkpt
  repeat' first
    | (with_reducible first | assumption | apply keeps_ite | apply keeps_writeBell | apply keeps_setFld)
    | split

theorem keeps_finishAborts {s : State} (x : Stripe) (hs : Keeps qq oo s) : Keeps qq oo (State.finishAborts s x) := by
  unfold State.finishAborts
  try dsimp only
  repeat' first
    | (with_reducible first | assumption | apply keeps_complete | apply keeps_foldl)
    | (intro _; intros; try dsimp only)

theorem keeps_markEnded {s : State} (x : Stripe) (hs : Keeps qq oo s) : Keeps qq oo (State.markEnded s x) := by
  unfold State.markEnded
  try dsimp only
  repeat' first
    | (with_reducible first | assumption | apply keeps_ite | apply keeps_id | apply keeps_modJob)
    | (with_reducible apply Keeps.mk; dsimp only; with_reducible apply Keeps.ok)
    | (intro _; intros; try dsimp only)
    | split

theorem keeps_abortNow {s : State} (x : Stripe) (hs : Keeps qq oo s) : Keeps qq oo (State.abortNow s x) := by
  unfold State.abortNow
  try dsimp only
  repeat' first
    | (with_reducible first | assumption | apply keeps_ite | apply keeps_endStripe | apply keeps_markEnded | apply keeps_droverTo)
    | (with_reducible first | apply keeps_clearCkpt | apply keeps_dropStripe | apply keeps_finishAborts)
    | (with_reducible apply Keeps.mk; dsimp only; with_reducible apply Keeps.ok)
    | split

theorem keeps_abortHold {s : State} (x : Stripe) (hs : Keeps qq oo s) : Keeps qq oo (State.abortHold s x) := by
  unfold State.abortHold
  try dsimp only
  repeat' first
    | (with_reducible first | assumption | apply keeps_ite | apply keeps_shadeOn | apply keeps_allLanes | apply keeps_droverTo)
    | (with_reducible first | apply keeps_floodContain | apply keeps_modStripe | apply keeps_showStripes)
    | exact fun _ => rfl
    | (intro t; (try dsimp only); (repeat' split) <;> rfl)
    | (with_reducible apply Keeps.mk; dsimp only; with_reducible apply Keeps.ok)
    | (intro _; intros; try dsimp only)
    | split

theorem keeps_idleLanes {s : State} (hs : Keeps qq oo s) : Keeps qq oo (State.idleLanes s) := by
  unfold State.idleLanes
  try dsimp only
  repeat' first
    | (with_reducible first | assumption | apply keeps_ite | apply keeps_setLane | apply keeps_emit | apply keeps_laneComes | apply keeps_foldl)
    | (with_reducible apply Keeps.mk; dsimp only; with_reducible apply Keeps.ok)
    | (intro _; intros; try dsimp only)
    | split

theorem keeps_dropFrames {s : State} (hs : Keeps qq oo s) : Keeps qq oo (State.dropFrames s) := by
  unfold State.dropFrames
  try dsimp only
  repeat' first
    | (with_reducible first | assumption | apply keeps_idleLanes)
    | (with_reducible apply Keeps.mk; dsimp only; with_reducible apply Keeps.ok)
    | (intro _; intros; try dsimp only)

theorem keeps_freeSlot {s : State} (slot : Nat) (hs : Keeps qq oo s) : Keeps qq oo (State.freeSlot s slot) := by
  unfold State.freeSlot
  try dsimp only
  repeat' first
    | (with_reducible first | assumption | apply keeps_ite | apply keeps_commit | apply keeps_dropCtxs | apply keeps_setJob)
    | (with_reducible apply Keeps.mk; dsimp only; with_reducible apply Keeps.ok)
    | (intro _; intros; try dsimp only)
    | split

theorem keeps_closeDue {s : State} (slot : Nat) (hs : Keeps qq oo s) : Keeps qq oo (State.closeDue s slot) := by
  unfold State.closeDue
  try dsimp only
  repeat' first
    | (with_reducible first | assumption | apply keeps_ite | apply keeps_ran | apply keeps_freeSlot | apply keeps_complete)
    | (with_reducible apply Keeps.mk; dsimp only; with_reducible apply Keeps.ok)
    | (intro _; intros; try dsimp only)
    | split

theorem keeps_endAborted {s : State} (ord : Nat) (hs : Keeps qq oo s) : Keeps qq oo (State.endAborted s ord) := by
  unfold State.endAborted
  try dsimp only
  repeat' first
    | (with_reducible first | assumption | apply keeps_ite | apply keeps_endStripe | apply keeps_markEnded | apply keeps_dropStripe)
    | (with_reducible first | apply keeps_finishAborts | apply keeps_dropFrames | apply keeps_closeDue)
    | (with_reducible apply Keeps.mk; dsimp only; with_reducible apply Keeps.ok)
    | (intro _; intros; try dsimp only)
    | split

theorem keeps_abortSlot {s : State} (slot : Nat) (hs : Keeps qq oo s) : Keeps qq oo (State.abortSlot s slot) := by
  unfold State.abortSlot
  repeat' first
    | (with_reducible first | assumption | apply keeps_ite | apply keeps_abortHold | apply keeps_endAborted | apply keeps_abortNow)
    | (with_reducible first | apply keeps_foldl)
    | (intro _; intros; try dsimp only)
    | split

theorem keeps_jobFatal {s : State} (slot : Nat) (code : Nat) (met : Nat) (kept : Bool) (hs : Keeps qq oo s) : Keeps qq oo (State.jobFatal s slot code met kept) := by
  unfold State.jobFatal
  try dsimp only
  repeat' first
    | (with_reducible first | assumption | apply keeps_ite | apply keeps_abortSlot | apply keeps_eventKept | apply keeps_event)
    | (with_reducible first | apply keeps_commit | apply keeps_modJob | apply keeps_ran | apply keeps_fail | apply keeps_foldl)
    | (with_reducible apply Keeps.mk; dsimp only; with_reducible apply Keeps.ok)
    | (intro _; intros; try dsimp only)
    | split

theorem keeps_jobFatalRec {s : State} (slot : Nat) (a : RecArg) (met : Nat) (hs : Keeps qq oo s) : Keeps qq oo (State.jobFatalRec s slot a met) := by
  unfold State.jobFatalRec
  try dsimp only
  repeat' first
    | (with_reducible first | assumption | apply keeps_ite | apply keeps_record | apply keeps_jobFatal | apply keeps_complete)
    | (with_reducible apply Keeps.mk; dsimp only; with_reducible apply Keeps.ok)
    | split

theorem keeps_rerequest {s : State} (slot : Nat) (block : Nat) (code : Nat) (hs : Keeps qq oo s) : Keeps qq oo (State.rerequest s slot block code) := by
  unfold State.rerequest
  try dsimp only
  repeat' first
    | (with_reducible first | assumption | apply keeps_ite | apply keeps_modJob | apply keeps_event | apply keeps_recordRaw)
    | (with_reducible first | apply keeps_jobFatal)
    | (with_reducible apply Keeps.mk; dsimp only; with_reducible apply Keeps.ok)
    | (intro _; intros; try dsimp only)
    | split

theorem keeps_readFailed {s : State} (k : Nat) (f : Frame) (code : Nat) (hs : Keeps qq oo s) : Keeps qq oo (State.readFailed s k f code) := by
  unfold State.readFailed
  try dsimp only
  repeat' first
    | (with_reducible first | assumption | apply keeps_ite | apply keeps_rerequest)
    | (with_reducible apply Keeps.mk; dsimp only; with_reducible apply Keeps.ok)
    | split

theorem keeps_blockDamaged {s : State} (slot : Nat) (code : Nat) (off : Nat) (block : Nat) (hs : Keeps qq oo s) : Keeps qq oo (State.blockDamaged s slot code off block) := by
  unfold State.blockDamaged
  try dsimp only
  repeat' first
    | (with_reducible first | assumption | apply keeps_ite | apply keeps_record | apply keeps_readFailed)
    | (with_reducible apply Keeps.mk; dsimp only; with_reducible apply Keeps.ok)
    | split

end Sys2Proof.Machine
end

