-- ==== Sys2Proof/Laws/Only.lean ====
section
/-! SUPPORT. Which fields of the state an operation may change: a number whose bit i stands for the i-th field of State. -/

set_option linter.unusedVariables false

namespace Sys2Proof.Machine

/-- Every bit of a is a bit of b. -/
def sub (a b : Nat) : Bool := Nat.land a b == a

/-- State t is state s but for the fields of m. -/
structure Only (m : Nat) (s t : State) : Prop where
  regs : m.testBit 0 = false → t.regs = s.regs
  force : m.testBit 1 = false → t.force = s.force
  held : m.testBit 2 = false → t.held = s.held
  captured : m.testBit 3 = false → t.captured = s.captured
  log : m.testBit 4 = false → t.log = s.log
  audit : m.testBit 5 = false → t.audit = s.audit
  power : m.testBit 6 = false → t.power = s.power
  booted : m.testBit 7 = false → t.booted = s.booted
  phase : m.testBit 8 = false → t.phase = s.phase
  nightReady : m.testBit 9 = false → t.nightReady = s.nightReady
  rails : m.testBit 10 = false → t.rails = s.rails
  beamOff : m.testBit 11 = false → t.beamOff = s.beamOff
  fatal : m.testBit 12 = false → t.fatal = s.fatal
  host : m.testBit 13 = false → t.host = s.host
  job0 : m.testBit 14 = false → t.job0 = s.job0
  job1 : m.testBit 15 = false → t.job1 = s.job1
  curSlot : m.testBit 16 = false → t.curSlot = s.curSlot
  jobOrd : m.testBit 17 = false → t.jobOrd = s.jobOrd
  frames : m.testBit 18 = false → t.frames = s.frames
  sealCtr : m.testBit 19 = false → t.sealCtr = s.sealCtr
  ctxs : m.testBit 20 = false → t.ctxs = s.ctxs
  codecEng : m.testBit 21 = false → t.codecEng = s.codecEng
  stripes : m.testBit 22 = false → t.stripes = s.stripes
  stripeOrd : m.testBit 23 = false → t.stripeOrd = s.stripeOrd
  dtabs : m.testBit 24 = false → t.dtabs = s.dtabs
  dnext : m.testBit 25 = false → t.dnext = s.dnext
  strayHeld : m.testBit 26 = false → t.strayHeld = s.strayHeld
  strayPend : m.testBit 27 = false → t.strayPend = s.strayPend
  caps : m.testBit 28 = false → t.caps = s.caps
  capsNext : m.testBit 29 = false → t.capsNext = s.capsNext
  field : m.testBit 30 = false → t.field = s.field
  tileCrcs : m.testBit 31 = false → t.tileCrcs = s.tileCrcs
  density : m.testBit 32 = false → t.density = s.density
  factor : m.testBit 33 = false → t.factor = s.factor
  mapBands : m.testBit 34 = false → t.mapBands = s.mapBands
  factorCrcs : m.testBit 35 = false → t.factorCrcs = s.factorCrcs
  ckptUnits : m.testBit 36 = false → t.ckptUnits = s.ckptUnits
  ckpts : m.testBit 37 = false → t.ckpts = s.ckpts
  staging : m.testBit 38 = false → t.staging = s.staging
  tally : m.testBit 39 = false → t.tally = s.tally
  hold : m.testBit 40 = false → t.hold = s.hold
  flink : m.testBit 41 = false → t.flink = s.flink
  drover : m.testBit 42 = false → t.drover = s.drover
  profile : m.testBit 43 = false → t.profile = s.profile
  sensors : m.testBit 44 = false → t.sensors = s.sensors
  tclasses : m.testBit 45 = false → t.tclasses = s.tclasses
  drams : m.testBit 46 = false → t.drams = s.drams
  ranks : m.testBit 47 = false → t.ranks = s.ranks
  sram : m.testBit 48 = false → t.sram = s.sram
  bells : m.testBit 49 = false → t.bells = s.bells
  bellDead : m.testBit 50 = false → t.bellDead = s.bellDead
  bellPending : m.testBit 51 = false → t.bellPending = s.bellPending
  engines : m.testBit 52 = false → t.engines = s.engines
  keep : m.testBit 53 = false → t.keep = s.keep
  keepWait : m.testBit 54 = false → t.keepWait = s.keepWait
  keepOld : m.testBit 55 = false → t.keepOld = s.keepOld
  keepHeld : m.testBit 56 = false → t.keepHeld = s.keepHeld
  dieBand : m.testBit 57 = false → t.dieBand = s.dieBand
  age : m.testBit 58 = false → t.age = s.age
  fold : m.testBit 59 = false → t.fold = s.fold
  clock : m.testBit 60 = false → t.clock = s.clock
  ivdon : m.testBit 61 = false → t.ivdon = s.ivdon
  trace : m.testBit 62 = false → t.trace = s.trace
  gpioHigh : m.testBit 63 = false → t.gpioHigh = s.gpioHigh
  lastCkpt : m.testBit 64 = false → t.lastCkpt = s.lastCkpt
  free : m.testBit 65 = false → t.free = s.free
  out : m.testBit 66 = false → t.out = s.out
  pending : m.testBit 67 = false → t.pending = s.pending

/-- The same of an outcome, where it is a next state. -/
def OnlyOut (m : Nat) (s : State) : Host.Outcome State Fault Refusal → Prop
  | .next t => Only m s t
  | .fault _ => True
  | .refused _ => True

theorem sub_testBit {a b i : Nat} (h : sub a b = true) (hb : b.testBit i = false) : a.testBit i = false := by
  have e : Nat.land a b = a := by simpa [sub] using h
  have t : (a &&& b).testBit i = a.testBit i := congrArg (fun x => Nat.testBit x i) e
  rw [Nat.testBit_and, hb, Bool.and_false] at t
  exact t.symm

theorem sub_trans {a b c : Nat} (h1 : sub a b = true) (h2 : sub b c = true) : sub a c = true := by
  have e1 : a &&& b = a := by simpa [sub] using h1
  have e2 : b &&& c = b := by simpa [sub] using h2
  have e : a &&& c = a := by
    calc a &&& c = (a &&& b) &&& c := by rw [e1]
      _ = a &&& (b &&& c) := Nat.and_assoc _ _ _
      _ = a := by rw [e2, e1]
  simpa [sub] using e

theorem sub_bit {a i : Nat} (h : sub (2 ^ i) a = true) (e : a.testBit i = false) : False := by
  have t := sub_testBit h e
  rw [Nat.testBit_two_pow_self] at t
  cases t

theorem only_refl (m : Nat) (s : State) : Only m s s :=
  ⟨fun _ => rfl, fun _ => rfl, fun _ => rfl, fun _ => rfl, fun _ => rfl, fun _ => rfl, fun _ => rfl, fun _ => rfl, fun _ => rfl, fun _ => rfl, fun _ => rfl, fun _ => rfl, fun _ => rfl, fun _ => rfl, fun _ => rfl, fun _ => rfl, fun _ => rfl, fun _ => rfl, fun _ => rfl, fun _ => rfl, fun _ => rfl, fun _ => rfl, fun _ => rfl, fun _ => rfl, fun _ => rfl, fun _ => rfl, fun _ => rfl, fun _ => rfl, fun _ => rfl, fun _ => rfl, fun _ => rfl, fun _ => rfl, fun _ => rfl, fun _ => rfl, fun _ => rfl, fun _ => rfl, fun _ => rfl, fun _ => rfl, fun _ => rfl, fun _ => rfl, fun _ => rfl, fun _ => rfl, fun _ => rfl, fun _ => rfl, fun _ => rfl, fun _ => rfl, fun _ => rfl, fun _ => rfl, fun _ => rfl, fun _ => rfl, fun _ => rfl, fun _ => rfl, fun _ => rfl, fun _ => rfl, fun _ => rfl, fun _ => rfl, fun _ => rfl, fun _ => rfl, fun _ => rfl, fun _ => rfl, fun _ => rfl, fun _ => rfl, fun _ => rfl, fun _ => rfl, fun _ => rfl, fun _ => rfl, fun _ => rfl, fun _ => rfl⟩

theorem only_trans {m : Nat} {s t u : State} (a : Only m s t) (b : Only m t u) : Only m s u :=
  ⟨fun e => (b.regs e).trans (a.regs e),
    fun e => (b.force e).trans (a.force e),
    fun e => (b.held e).trans (a.held e),
    fun e => (b.captured e).trans (a.captured e),
    fun e => (b.log e).trans (a.log e),
    fun e => (b.audit e).trans (a.audit e),
    fun e => (b.power e).trans (a.power e),
    fun e => (b.booted e).trans (a.booted e),
    fun e => (b.phase e).trans (a.phase e),
    fun e => (b.nightReady e).trans (a.nightReady e),
    fun e => (b.rails e).trans (a.rails e),
    fun e => (b.beamOff e).trans (a.beamOff e),
    fun e => (b.fatal e).trans (a.fatal e),
    fun e => (b.host e).trans (a.host e),
    fun e => (b.job0 e).trans (a.job0 e),
    fun e => (b.job1 e).trans (a.job1 e),
    fun e => (b.curSlot e).trans (a.curSlot e),
    fun e => (b.jobOrd e).trans (a.jobOrd e),
    fun e => (b.frames e).trans (a.frames e),
    fun e => (b.sealCtr e).trans (a.sealCtr e),
    fun e => (b.ctxs e).trans (a.ctxs e),
    fun e => (b.codecEng e).trans (a.codecEng e),
    fun e => (b.stripes e).trans (a.stripes e),
    fun e => (b.stripeOrd e).trans (a.stripeOrd e),
    fun e => (b.dtabs e).trans (a.dtabs e),
    fun e => (b.dnext e).trans (a.dnext e),
    fun e => (b.strayHeld e).trans (a.strayHeld e),
    fun e => (b.strayPend e).trans (a.strayPend e),
    fun e => (b.caps e).trans (a.caps e),
    fun e => (b.capsNext e).trans (a.capsNext e),
    fun e => (b.field e).trans (a.field e),
    fun e => (b.tileCrcs e).trans (a.tileCrcs e),
    fun e => (b.density e).trans (a.density e),
    fun e => (b.factor e).trans (a.factor e),
    fun e => (b.mapBands e).trans (a.mapBands e),
    fun e => (b.factorCrcs e).trans (a.factorCrcs e),
    fun e => (b.ckptUnits e).trans (a.ckptUnits e),
    fun e => (b.ckpts e).trans (a.ckpts e),
    fun e => (b.staging e).trans (a.staging e),
    fun e => (b.tally e).trans (a.tally e),
    fun e => (b.hold e).trans (a.hold e),
    fun e => (b.flink e).trans (a.flink e),
    fun e => (b.drover e).trans (a.drover e),
    fun e => (b.profile e).trans (a.profile e),
    fun e => (b.sensors e).trans (a.sensors e),
    fun e => (b.tclasses e).trans (a.tclasses e),
    fun e => (b.drams e).trans (a.drams e),
    fun e => (b.ranks e).trans (a.ranks e),
    fun e => (b.sram e).trans (a.sram e),
    fun e => (b.bells e).trans (a.bells e),
    fun e => (b.bellDead e).trans (a.bellDead e),
    fun e => (b.bellPending e).trans (a.bellPending e),
    fun e => (b.engines e).trans (a.engines e),
    fun e => (b.keep e).trans (a.keep e),
    fun e => (b.keepWait e).trans (a.keepWait e),
    fun e => (b.keepOld e).trans (a.keepOld e),
    fun e => (b.keepHeld e).trans (a.keepHeld e),
    fun e => (b.dieBand e).trans (a.dieBand e),
    fun e => (b.age e).trans (a.age e),
    fun e => (b.fold e).trans (a.fold e),
    fun e => (b.clock e).trans (a.clock e),
    fun e => (b.ivdon e).trans (a.ivdon e),
    fun e => (b.trace e).trans (a.trace e),
    fun e => (b.gpioHigh e).trans (a.gpioHigh e),
    fun e => (b.lastCkpt e).trans (a.lastCkpt e),
    fun e => (b.free e).trans (a.free e),
    fun e => (b.out e).trans (a.out e),
    fun e => (b.pending e).trans (a.pending e)⟩

theorem only_mono {m m' : Nat} {s t : State} (h : sub m m' = true) (a : Only m s t) : Only m' s t :=
  ⟨fun e => a.regs (sub_testBit h e),
    fun e => a.force (sub_testBit h e),
    fun e => a.held (sub_testBit h e),
    fun e => a.captured (sub_testBit h e),
    fun e => a.log (sub_testBit h e),
    fun e => a.audit (sub_testBit h e),
    fun e => a.power (sub_testBit h e),
    fun e => a.booted (sub_testBit h e),
    fun e => a.phase (sub_testBit h e),
    fun e => a.nightReady (sub_testBit h e),
    fun e => a.rails (sub_testBit h e),
    fun e => a.beamOff (sub_testBit h e),
    fun e => a.fatal (sub_testBit h e),
    fun e => a.host (sub_testBit h e),
    fun e => a.job0 (sub_testBit h e),
    fun e => a.job1 (sub_testBit h e),
    fun e => a.curSlot (sub_testBit h e),
    fun e => a.jobOrd (sub_testBit h e),
    fun e => a.frames (sub_testBit h e),
    fun e => a.sealCtr (sub_testBit h e),
    fun e => a.ctxs (sub_testBit h e),
    fun e => a.codecEng (sub_testBit h e),
    fun e => a.stripes (sub_testBit h e),
    fun e => a.stripeOrd (sub_testBit h e),
    fun e => a.dtabs (sub_testBit h e),
    fun e => a.dnext (sub_testBit h e),
    fun e => a.strayHeld (sub_testBit h e),
    fun e => a.strayPend (sub_testBit h e),
    fun e => a.caps (sub_testBit h e),
    fun e => a.capsNext (sub_testBit h e),
    fun e => a.field (sub_testBit h e),
    fun e => a.tileCrcs (sub_testBit h e),
    fun e => a.density (sub_testBit h e),
    fun e => a.factor (sub_testBit h e),
    fun e => a.mapBands (sub_testBit h e),
    fun e => a.factorCrcs (sub_testBit h e),
    fun e => a.ckptUnits (sub_testBit h e),
    fun e => a.ckpts (sub_testBit h e),
    fun e => a.staging (sub_testBit h e),
    fun e => a.tally (sub_testBit h e),
    fun e => a.hold (sub_testBit h e),
    fun e => a.flink (sub_testBit h e),
    fun e => a.drover (sub_testBit h e),
    fun e => a.profile (sub_testBit h e),
    fun e => a.sensors (sub_testBit h e),
    fun e => a.tclasses (sub_testBit h e),
    fun e => a.drams (sub_testBit h e),
    fun e => a.ranks (sub_testBit h e),
    fun e => a.sram (sub_testBit h e),
    fun e => a.bells (sub_testBit h e),
    fun e => a.bellDead (sub_testBit h e),
    fun e => a.bellPending (sub_testBit h e),
    fun e => a.engines (sub_testBit h e),
    fun e => a.keep (sub_testBit h e),
    fun e => a.keepWait (sub_testBit h e),
    fun e => a.keepOld (sub_testBit h e),
    fun e => a.keepHeld (sub_testBit h e),
    fun e => a.dieBand (sub_testBit h e),
    fun e => a.age (sub_testBit h e),
    fun e => a.fold (sub_testBit h e),
    fun e => a.clock (sub_testBit h e),
    fun e => a.ivdon (sub_testBit h e),
    fun e => a.trace (sub_testBit h e),
    fun e => a.gpioHigh (sub_testBit h e),
    fun e => a.lastCkpt (sub_testBit h e),
    fun e => a.free (sub_testBit h e),
    fun e => a.out (sub_testBit h e),
    fun e => a.pending (sub_testBit h e)⟩

/-- Two states that agree in every field are one. -/
theorem State.eq_of_only {s t : State} (h : Only 0 s t) : t = s := by
  obtain ⟨h0, h1, h2, h3, h4, h5, h6, h7, h8, h9, h10, h11, h12, h13, h14, h15, h16, h17, h18, h19, h20, h21, h22, h23, h24, h25, h26, h27, h28, h29, h30, h31, h32, h33, h34, h35, h36, h37, h38, h39, h40, h41, h42, h43, h44, h45, h46, h47, h48, h49, h50, h51, h52, h53, h54, h55, h56, h57, h58, h59, h60, h61, h62, h63, h64, h65, h66, h67⟩ := h
  cases s
  cases t
  simp only [Nat.zero_testBit, forall_const] at *
  subst_vars
  rfl

variable {m : Nat} {s0 s : State}

theorem onlyOut_next {t : State} (h : Only m s0 t) : OnlyOut m s0 (.next t) := h

theorem onlyOut_ite {c : Prop} [Decidable c] {a b : Host.Outcome State Fault Refusal} (ha : OnlyOut m s0 a) (hb : OnlyOut m s0 b) :
    OnlyOut m s0 (if c then a else b) := by split <;> assumption

theorem only_ite {c : Prop} [Decidable c] {a b : State} (ha : Only m s0 a) (hb : Only m s0 b) : Only m s0 (if c then a else b) := by
  split <;> assumption

theorem only_someIte {c : Prop} [Decidable c] {a u : State} {b : Option State} (ha : Only m s0 a) (hb : b = some u → Only m s0 u) :
    (if c then some a else b) = some u → Only m s0 u := by
  split
  · intro e
    injection e with e
    rw [← e]
    exact ha
  · exact hb

theorem only_id (h : Only m s0 s) : Only m s0 (id s) := h

theorem only_foldl {β : Type} {f : State → β → State} (hf : ∀ s b, Only m s0 s → Only m s0 (f s b)) :
    ∀ (l : List β) {s : State}, Only m s0 s → Only m s0 (l.foldl f s)
  | [], _, h => h
  | b :: l, s, h => only_foldl hf l (hf s b h)

theorem only_foldl_fst {β γ : Type} {f : State × γ → β → State × γ} (hf : ∀ a b, Only m s0 a.1 → Only m s0 (f a b).1) :
    ∀ (l : List β) {a : State × γ}, Only m s0 a.1 → Only m s0 (l.foldl f a).1
  | [], _, h => h
  | b :: l, a, h => only_foldl_fst hf l (hf a b h)

theorem only_foldl_snd {β γ : Type} {f : γ × State → β → γ × State} (hf : ∀ a b, Only m s0 a.2 → Only m s0 (f a b).2) :
    ∀ (l : List β) {a : γ × State}, Only m s0 a.2 → Only m s0 (l.foldl f a).2
  | [], _, h => h
  | b :: l, a, h => only_foldl_snd hf l (hf a b h)

theorem only_put1 {v0 : KMap Word} (hm : sub 1 m = true) (h : Only m s0 s) :
    Only m s0 { s with regs := v0 } :=
  { h with regs := fun e => (sub_bit (sub_trans rfl hm) e).elim }

theorem only_put2 {v1 : KMap Word} (hm : sub 2 m = true) (h : Only m s0 s) :
    Only m s0 { s with force := v1 } :=
  { h with force := fun e => (sub_bit (sub_trans rfl hm) e).elim }

theorem only_put4 {v2 : KMap Word} (hm : sub 4 m = true) (h : Only m s0 s) :
    Only m s0 { s with held := v2 } :=
  { h with held := fun e => (sub_bit (sub_trans rfl hm) e).elim }

theorem only_put8 {v3 : KMap Word} (hm : sub 8 m = true) (h : Only m s0 s) :
    Only m s0 { s with captured := v3 } :=
  { h with captured := fun e => (sub_bit (sub_trans rfl hm) e).elim }

theorem only_put16 {v4 : ErrLog} (hm : sub 16 m = true) (h : Only m s0 s) :
    Only m s0 { s with log := v4 } :=
  { h with log := fun e => (sub_bit (sub_trans rfl hm) e).elim }

theorem only_put32 {v5 : Audit} (hm : sub 32 m = true) (h : Only m s0 s) :
    Only m s0 { s with audit := v5 } :=
  { h with audit := fun e => (sub_bit (sub_trans rfl hm) e).elim }

theorem only_put128 {v7 : Bool} (hm : sub 128 m = true) (h : Only m s0 s) :
    Only m s0 { s with booted := v7 } :=
  { h with booted := fun e => (sub_bit (sub_trans rfl hm) e).elim }

theorem only_put256 {v8 : Nat} (hm : sub 256 m = true) (h : Only m s0 s) :
    Only m s0 { s with phase := v8 } :=
  { h with phase := fun e => (sub_bit (sub_trans rfl hm) e).elim }

theorem only_put320 {v6 : Power} {v8 : Nat} (hm : sub 320 m = true) (h : Only m s0 s) :
    Only m s0 { s with power := v6, phase := v8 } :=
  { h with power := fun e => (sub_bit (sub_trans rfl hm) e).elim, phase := fun e => (sub_bit (sub_trans rfl hm) e).elim }

theorem only_put832 {v6 : Power} {v8 : Nat} {v9 : Bool} (hm : sub 832 m = true) (h : Only m s0 s) :
    Only m s0 { s with power := v6, phase := v8, nightReady := v9 } :=
  { h with power := fun e => (sub_bit (sub_trans rfl hm) e).elim, phase := fun e => (sub_bit (sub_trans rfl hm) e).elim, nightReady := fun e => (sub_bit (sub_trans rfl hm) e).elim }

theorem only_put1024 {v10 : Nat} (hm : sub 1024 m = true) (h : Only m s0 s) :
    Only m s0 { s with rails := v10 } :=
  { h with rails := fun e => (sub_bit (sub_trans rfl hm) e).elim }

theorem only_put1088 {v6 : Power} {v10 : Nat} (hm : sub 1088 m = true) (h : Only m s0 s) :
    Only m s0 { s with power := v6, rails := v10 } :=
  { h with power := fun e => (sub_bit (sub_trans rfl hm) e).elim, rails := fun e => (sub_bit (sub_trans rfl hm) e).elim }

theorem only_put2048 {v11 : Bool} (hm : sub 2048 m = true) (h : Only m s0 s) :
    Only m s0 { s with beamOff := v11 } :=
  { h with beamOff := fun e => (sub_bit (sub_trans rfl hm) e).elim }

theorem only_put4096 {v12 : Nat} (hm : sub 4096 m = true) (h : Only m s0 s) :
    Only m s0 { s with fatal := v12 } :=
  { h with fatal := fun e => (sub_bit (sub_trans rfl hm) e).elim }

theorem only_put8192 {v13 : HostSt} (hm : sub 8192 m = true) (h : Only m s0 s) :
    Only m s0 { s with host := v13 } :=
  { h with host := fun e => (sub_bit (sub_trans rfl hm) e).elim }

theorem only_put16384 {v14 : Job} (hm : sub 16384 m = true) (h : Only m s0 s) :
    Only m s0 { s with job0 := v14 } :=
  { h with job0 := fun e => (sub_bit (sub_trans rfl hm) e).elim }

theorem only_put32768 {v15 : Job} (hm : sub 32768 m = true) (h : Only m s0 s) :
    Only m s0 { s with job1 := v15 } :=
  { h with job1 := fun e => (sub_bit (sub_trans rfl hm) e).elim }

theorem only_put49152 {v14 : Job} {v15 : Job} (hm : sub 49152 m = true) (h : Only m s0 s) :
    Only m s0 { s with job0 := v14, job1 := v15 } :=
  { h with job0 := fun e => (sub_bit (sub_trans rfl hm) e).elim, job1 := fun e => (sub_bit (sub_trans rfl hm) e).elim }

theorem only_put131072 {v17 : Nat} (hm : sub 131072 m = true) (h : Only m s0 s) :
    Only m s0 { s with jobOrd := v17 } :=
  { h with jobOrd := fun e => (sub_bit (sub_trans rfl hm) e).elim }

theorem only_put262144 {v18 : KMap Frame} (hm : sub 262144 m = true) (h : Only m s0 s) :
    Only m s0 { s with frames := v18 } :=
  { h with frames := fun e => (sub_bit (sub_trans rfl hm) e).elim }

theorem only_put786432 {v18 : KMap Frame} {v19 : Nat} (hm : sub 786432 m = true) (h : Only m s0 s) :
    Only m s0 { s with frames := v18, sealCtr := v19 } :=
  { h with frames := fun e => (sub_bit (sub_trans rfl hm) e).elim, sealCtr := fun e => (sub_bit (sub_trans rfl hm) e).elim }

theorem only_put1048576 {v20 : KMap Ctx} (hm : sub 1048576 m = true) (h : Only m s0 s) :
    Only m s0 { s with ctxs := v20 } :=
  { h with ctxs := fun e => (sub_bit (sub_trans rfl hm) e).elim }

theorem only_put2097152 {v21 : CodecEng} (hm : sub 2097152 m = true) (h : Only m s0 s) :
    Only m s0 { s with codecEng := v21 } :=
  { h with codecEng := fun e => (sub_bit (sub_trans rfl hm) e).elim }

theorem only_put4194304 {v22 : List Stripe} (hm : sub 4194304 m = true) (h : Only m s0 s) :
    Only m s0 { s with stripes := v22 } :=
  { h with stripes := fun e => (sub_bit (sub_trans rfl hm) e).elim }

theorem only_put12582912 {v22 : List Stripe} {v23 : Nat} (hm : sub 12582912 m = true) (h : Only m s0 s) :
    Only m s0 { s with stripes := v22, stripeOrd := v23 } :=
  { h with stripes := fun e => (sub_bit (sub_trans rfl hm) e).elim, stripeOrd := fun e => (sub_bit (sub_trans rfl hm) e).elim }

theorem only_put16777216 {v24 : KMap (List Byte)} (hm : sub 16777216 m = true) (h : Only m s0 s) :
    Only m s0 { s with dtabs := v24 } :=
  { h with dtabs := fun e => (sub_bit (sub_trans rfl hm) e).elim }

theorem only_put33554432 {v25 : KMap (List Byte)} (hm : sub 33554432 m = true) (h : Only m s0 s) :
    Only m s0 { s with dnext := v25 } :=
  { h with dnext := fun e => (sub_bit (sub_trans rfl hm) e).elim }

theorem only_put50331648 {v24 : KMap (List Byte)} {v25 : KMap (List Byte)} (hm : sub 50331648 m = true) (h : Only m s0 s) :
    Only m s0 { s with dtabs := v24, dnext := v25 } :=
  { h with dtabs := fun e => (sub_bit (sub_trans rfl hm) e).elim, dnext := fun e => (sub_bit (sub_trans rfl hm) e).elim }

theorem only_put67108864 {v26 : List (Nat × Nat)} (hm : sub 67108864 m = true) (h : Only m s0 s) :
    Only m s0 { s with strayHeld := v26 } :=
  { h with strayHeld := fun e => (sub_bit (sub_trans rfl hm) e).elim }

theorem only_put134217728 {v27 : List (Nat × Nat)} (hm : sub 134217728 m = true) (h : Only m s0 s) :
    Only m s0 { s with strayPend := v27 } :=
  { h with strayPend := fun e => (sub_bit (sub_trans rfl hm) e).elim }

theorem only_put201326592 {v26 : List (Nat × Nat)} {v27 : List (Nat × Nat)} (hm : sub 201326592 m = true) (h : Only m s0 s) :
    Only m s0 { s with strayHeld := v26, strayPend := v27 } :=
  { h with strayHeld := fun e => (sub_bit (sub_trans rfl hm) e).elim, strayPend := fun e => (sub_bit (sub_trans rfl hm) e).elim }

theorem only_put268435456 {v28 : KMap Nat} (hm : sub 268435456 m = true) (h : Only m s0 s) :
    Only m s0 { s with caps := v28 } :=
  { h with caps := fun e => (sub_bit (sub_trans rfl hm) e).elim }

theorem only_put536870912 {v29 : Option (KMap Nat)} (hm : sub 536870912 m = true) (h : Only m s0 s) :
    Only m s0 { s with capsNext := v29 } :=
  { h with capsNext := fun e => (sub_bit (sub_trans rfl hm) e).elim }

theorem only_put553648128 {v24 : KMap (List Byte)} {v29 : Option (KMap Nat)} (hm : sub 553648128 m = true) (h : Only m s0 s) :
    Only m s0 { s with dtabs := v24, capsNext := v29 } :=
  { h with dtabs := fun e => (sub_bit (sub_trans rfl hm) e).elim, capsNext := fun e => (sub_bit (sub_trans rfl hm) e).elim }

theorem only_put570425344 {v25 : KMap (List Byte)} {v29 : Option (KMap Nat)} (hm : sub 570425344 m = true) (h : Only m s0 s) :
    Only m s0 { s with dnext := v25, capsNext := v29 } :=
  { h with dnext := fun e => (sub_bit (sub_trans rfl hm) e).elim, capsNext := fun e => (sub_bit (sub_trans rfl hm) e).elim }

theorem only_put587202560 {v24 : KMap (List Byte)} {v25 : KMap (List Byte)} {v29 : Option (KMap Nat)} (hm : sub 587202560 m = true) (h : Only m s0 s) :
    Only m s0 { s with dtabs := v24, dnext := v25, capsNext := v29 } :=
  { h with dtabs := fun e => (sub_bit (sub_trans rfl hm) e).elim, dnext := fun e => (sub_bit (sub_trans rfl hm) e).elim, capsNext := fun e => (sub_bit (sub_trans rfl hm) e).elim }

theorem only_put805306368 {v28 : KMap Nat} {v29 : Option (KMap Nat)} (hm : sub 805306368 m = true) (h : Only m s0 s) :
    Only m s0 { s with caps := v28, capsNext := v29 } :=
  { h with caps := fun e => (sub_bit (sub_trans rfl hm) e).elim, capsNext := fun e => (sub_bit (sub_trans rfl hm) e).elim }

theorem only_put855638016 {v24 : KMap (List Byte)} {v25 : KMap (List Byte)} {v28 : KMap Nat} {v29 : Option (KMap Nat)} (hm : sub 855638016 m = true) (h : Only m s0 s) :
    Only m s0 { s with dtabs := v24, dnext := v25, caps := v28, capsNext := v29 } :=
  { h with dtabs := fun e => (sub_bit (sub_trans rfl hm) e).elim, dnext := fun e => (sub_bit (sub_trans rfl hm) e).elim, caps := fun e => (sub_bit (sub_trans rfl hm) e).elim, capsNext := fun e => (sub_bit (sub_trans rfl hm) e).elim }

theorem only_put3221225472 {v30 : KMap (KMap (BitVec 16))} {v31 : KMap Nat} (hm : sub 3221225472 m = true) (h : Only m s0 s) :
    Only m s0 { s with field := v30, tileCrcs := v31 } :=
  { h with field := fun e => (sub_bit (sub_trans rfl hm) e).elim, tileCrcs := fun e => (sub_bit (sub_trans rfl hm) e).elim }

theorem only_put4294967296 {v32 : KMap (KMap Nat)} (hm : sub 4294967296 m = true) (h : Only m s0 s) :
    Only m s0 { s with density := v32 } :=
  { h with density := fun e => (sub_bit (sub_trans rfl hm) e).elim }

theorem only_put8589934592 {v33 : KMap (KMap Nat)} (hm : sub 8589934592 m = true) (h : Only m s0 s) :
    Only m s0 { s with factor := v33 } :=
  { h with factor := fun e => (sub_bit (sub_trans rfl hm) e).elim }

theorem only_put17179869184 {v34 : KMap (List Byte)} (hm : sub 17179869184 m = true) (h : Only m s0 s) :
    Only m s0 { s with mapBands := v34 } :=
  { h with mapBands := fun e => (sub_bit (sub_trans rfl hm) e).elim }

theorem only_put17179869216 {v5 : Audit} {v34 : KMap (List Byte)} (hm : sub 17179869216 m = true) (h : Only m s0 s) :
    Only m s0 { s with audit := v5, mapBands := v34 } :=
  { h with audit := fun e => (sub_bit (sub_trans rfl hm) e).elim, mapBands := fun e => (sub_bit (sub_trans rfl hm) e).elim }

theorem only_put34359738368 {v35 : KMap Nat} (hm : sub 34359738368 m = true) (h : Only m s0 s) :
    Only m s0 { s with factorCrcs := v35 } :=
  { h with factorCrcs := fun e => (sub_bit (sub_trans rfl hm) e).elim }

theorem only_put51539607552 {v34 : KMap (List Byte)} {v35 : KMap Nat} (hm : sub 51539607552 m = true) (h : Only m s0 s) :
    Only m s0 { s with mapBands := v34, factorCrcs := v35 } :=
  { h with mapBands := fun e => (sub_bit (sub_trans rfl hm) e).elim, factorCrcs := fun e => (sub_bit (sub_trans rfl hm) e).elim }

theorem only_put68719476736 {v36 : KMap (List Byte)} (hm : sub 68719476736 m = true) (h : Only m s0 s) :
    Only m s0 { s with ckptUnits := v36 } :=
  { h with ckptUnits := fun e => (sub_bit (sub_trans rfl hm) e).elim }

theorem only_put68719476768 {v5 : Audit} {v36 : KMap (List Byte)} (hm : sub 68719476768 m = true) (h : Only m s0 s) :
    Only m s0 { s with audit := v5, ckptUnits := v36 } :=
  { h with audit := fun e => (sub_bit (sub_trans rfl hm) e).elim, ckptUnits := fun e => (sub_bit (sub_trans rfl hm) e).elim }

theorem only_put85899345920 {v34 : KMap (List Byte)} {v36 : KMap (List Byte)} (hm : sub 85899345920 m = true) (h : Only m s0 s) :
    Only m s0 { s with mapBands := v34, ckptUnits := v36 } :=
  { h with mapBands := fun e => (sub_bit (sub_trans rfl hm) e).elim, ckptUnits := fun e => (sub_bit (sub_trans rfl hm) e).elim }

theorem only_put85899345952 {v5 : Audit} {v34 : KMap (List Byte)} {v36 : KMap (List Byte)} (hm : sub 85899345952 m = true) (h : Only m s0 s) :
    Only m s0 { s with audit := v5, mapBands := v34, ckptUnits := v36 } :=
  { h with audit := fun e => (sub_bit (sub_trans rfl hm) e).elim, mapBands := fun e => (sub_bit (sub_trans rfl hm) e).elim, ckptUnits := fun e => (sub_bit (sub_trans rfl hm) e).elim }

theorem only_put206158430208 {v36 : KMap (List Byte)} {v37 : KMap Ckpt} (hm : sub 206158430208 m = true) (h : Only m s0 s) :
    Only m s0 { s with ckptUnits := v36, ckpts := v37 } :=
  { h with ckptUnits := fun e => (sub_bit (sub_trans rfl hm) e).elim, ckpts := fun e => (sub_bit (sub_trans rfl hm) e).elim }

theorem only_put274877906944 {v38 : KMap (KMap (BitVec 16))} (hm : sub 274877906944 m = true) (h : Only m s0 s) :
    Only m s0 { s with staging := v38 } :=
  { h with staging := fun e => (sub_bit (sub_trans rfl hm) e).elim }

theorem only_put549755813888 {v39 : KMap PixRow} (hm : sub 549755813888 m = true) (h : Only m s0 s) :
    Only m s0 { s with tally := v39 } :=
  { h with tally := fun e => (sub_bit (sub_trans rfl hm) e).elim }

theorem only_put550024249344 {v28 : KMap Nat} {v39 : KMap PixRow} (hm : sub 550024249344 m = true) (h : Only m s0 s) :
    Only m s0 { s with caps := v28, tally := v39 } :=
  { h with caps := fun e => (sub_bit (sub_trans rfl hm) e).elim, tally := fun e => (sub_bit (sub_trans rfl hm) e).elim }

theorem only_put824633720832 {v38 : KMap (KMap (BitVec 16))} {v39 : KMap PixRow} (hm : sub 824633720832 m = true) (h : Only m s0 s) :
    Only m s0 { s with staging := v38, tally := v39 } :=
  { h with staging := fun e => (sub_bit (sub_trans rfl hm) e).elim, tally := fun e => (sub_bit (sub_trans rfl hm) e).elim }

theorem only_put1099511627776 {v40 : List PixRow} (hm : sub 1099511627776 m = true) (h : Only m s0 s) :
    Only m s0 { s with hold := v40 } :=
  { h with hold := fun e => (sub_bit (sub_trans rfl hm) e).elim }

theorem only_put1374389534720 {v38 : KMap (KMap (BitVec 16))} {v40 : List PixRow} (hm : sub 1374389534720 m = true) (h : Only m s0 s) :
    Only m s0 { s with staging := v38, hold := v40 } :=
  { h with staging := fun e => (sub_bit (sub_trans rfl hm) e).elim, hold := fun e => (sub_bit (sub_trans rfl hm) e).elim }

theorem only_put1649267441664 {v39 : KMap PixRow} {v40 : List PixRow} (hm : sub 1649267441664 m = true) (h : Only m s0 s) :
    Only m s0 { s with tally := v39, hold := v40 } :=
  { h with tally := fun e => (sub_bit (sub_trans rfl hm) e).elim, hold := fun e => (sub_bit (sub_trans rfl hm) e).elim }

theorem only_put1924145348608 {v38 : KMap (KMap (BitVec 16))} {v39 : KMap PixRow} {v40 : List PixRow} (hm : sub 1924145348608 m = true) (h : Only m s0 s) :
    Only m s0 { s with staging := v38, tally := v39, hold := v40 } :=
  { h with staging := fun e => (sub_bit (sub_trans rfl hm) e).elim, tally := fun e => (sub_bit (sub_trans rfl hm) e).elim, hold := fun e => (sub_bit (sub_trans rfl hm) e).elim }

theorem only_put1924149542912 {v22 : List Stripe} {v38 : KMap (KMap (BitVec 16))} {v39 : KMap PixRow} {v40 : List PixRow} (hm : sub 1924149542912 m = true) (h : Only m s0 s) :
    Only m s0 { s with stripes := v22, staging := v38, tally := v39, hold := v40 } :=
  { h with stripes := fun e => (sub_bit (sub_trans rfl hm) e).elim, staging := fun e => (sub_bit (sub_trans rfl hm) e).elim, tally := fun e => (sub_bit (sub_trans rfl hm) e).elim, hold := fun e => (sub_bit (sub_trans rfl hm) e).elim }

theorem only_put2199023255552 {v41 : Flink} (hm : sub 2199023255552 m = true) (h : Only m s0 s) :
    Only m s0 { s with flink := v41 } :=
  { h with flink := fun e => (sub_bit (sub_trans rfl hm) e).elim }

theorem only_put3023656976384 {v38 : KMap (KMap (BitVec 16))} {v39 : KMap PixRow} {v41 : Flink} (hm : sub 3023656976384 m = true) (h : Only m s0 s) :
    Only m s0 { s with staging := v38, tally := v39, flink := v41 } :=
  { h with staging := fun e => (sub_bit (sub_trans rfl hm) e).elim, tally := fun e => (sub_bit (sub_trans rfl hm) e).elim, flink := fun e => (sub_bit (sub_trans rfl hm) e).elim }

theorem only_put3848290697216 {v39 : KMap PixRow} {v40 : List PixRow} {v41 : Flink} (hm : sub 3848290697216 m = true) (h : Only m s0 s) :
    Only m s0 { s with tally := v39, hold := v40, flink := v41 } :=
  { h with tally := fun e => (sub_bit (sub_trans rfl hm) e).elim, hold := fun e => (sub_bit (sub_trans rfl hm) e).elim, flink := fun e => (sub_bit (sub_trans rfl hm) e).elim }

theorem only_put4123168604160 {v38 : KMap (KMap (BitVec 16))} {v39 : KMap PixRow} {v40 : List PixRow} {v41 : Flink} (hm : sub 4123168604160 m = true) (h : Only m s0 s) :
    Only m s0 { s with staging := v38, tally := v39, hold := v40, flink := v41 } :=
  { h with staging := fun e => (sub_bit (sub_trans rfl hm) e).elim, tally := fun e => (sub_bit (sub_trans rfl hm) e).elim, hold := fun e => (sub_bit (sub_trans rfl hm) e).elim, flink := fun e => (sub_bit (sub_trans rfl hm) e).elim }

theorem only_put4398046511104 {v42 : Drover} (hm : sub 4398046511104 m = true) (h : Only m s0 s) :
    Only m s0 { s with drover := v42 } :=
  { h with drover := fun e => (sub_bit (sub_trans rfl hm) e).elim }

theorem only_put4398046511424 {v6 : Power} {v8 : Nat} {v42 : Drover} (hm : sub 4398046511424 m = true) (h : Only m s0 s) :
    Only m s0 { s with power := v6, phase := v8, drover := v42 } :=
  { h with power := fun e => (sub_bit (sub_trans rfl hm) e).elim, phase := fun e => (sub_bit (sub_trans rfl hm) e).elim, drover := fun e => (sub_bit (sub_trans rfl hm) e).elim }

theorem only_put6597069766656 {v41 : Flink} {v42 : Drover} (hm : sub 6597069766656 m = true) (h : Only m s0 s) :
    Only m s0 { s with flink := v41, drover := v42 } :=
  { h with flink := fun e => (sub_bit (sub_trans rfl hm) e).elim, drover := fun e => (sub_bit (sub_trans rfl hm) e).elim }

theorem only_put8796093022208 {v43 : Profile} (hm : sub 8796093022208 m = true) (h : Only m s0 s) :
    Only m s0 { s with profile := v43 } :=
  { h with profile := fun e => (sub_bit (sub_trans rfl hm) e).elim }

theorem only_put8796093026304 {v12 : Nat} {v43 : Profile} (hm : sub 8796093026304 m = true) (h : Only m s0 s) :
    Only m s0 { s with fatal := v12, profile := v43 } :=
  { h with fatal := fun e => (sub_bit (sub_trans rfl hm) e).elim, profile := fun e => (sub_bit (sub_trans rfl hm) e).elim }

theorem only_put10995116277760 {v41 : Flink} {v43 : Profile} (hm : sub 10995116277760 m = true) (h : Only m s0 s) :
    Only m s0 { s with flink := v41, profile := v43 } :=
  { h with flink := fun e => (sub_bit (sub_trans rfl hm) e).elim, profile := fun e => (sub_bit (sub_trans rfl hm) e).elim }

theorem only_put11063835754496 {v36 : KMap (List Byte)} {v41 : Flink} {v43 : Profile} (hm : sub 11063835754496 m = true) (h : Only m s0 s) :
    Only m s0 { s with ckptUnits := v36, flink := v41, profile := v43 } :=
  { h with ckptUnits := fun e => (sub_bit (sub_trans rfl hm) e).elim, flink := fun e => (sub_bit (sub_trans rfl hm) e).elim, profile := fun e => (sub_bit (sub_trans rfl hm) e).elim }

theorem only_put13194139533312 {v42 : Drover} {v43 : Profile} (hm : sub 13194139533312 m = true) (h : Only m s0 s) :
    Only m s0 { s with drover := v42, profile := v43 } :=
  { h with drover := fun e => (sub_bit (sub_trans rfl hm) e).elim, profile := fun e => (sub_bit (sub_trans rfl hm) e).elim }

theorem only_put15393162788864 {v41 : Flink} {v42 : Drover} {v43 : Profile} (hm : sub 15393162788864 m = true) (h : Only m s0 s) :
    Only m s0 { s with flink := v41, drover := v42, profile := v43 } :=
  { h with flink := fun e => (sub_bit (sub_trans rfl hm) e).elim, drover := fun e => (sub_bit (sub_trans rfl hm) e).elim, profile := fun e => (sub_bit (sub_trans rfl hm) e).elim }

theorem only_put17592186044416 {v44 : KMap Sensor} (hm : sub 17592186044416 m = true) (h : Only m s0 s) :
    Only m s0 { s with sensors := v44 } :=
  { h with sensors := fun e => (sub_bit (sub_trans rfl hm) e).elim }

theorem only_put35184372088832 {v45 : KMap TClass} (hm : sub 35184372088832 m = true) (h : Only m s0 s) :
    Only m s0 { s with tclasses := v45 } :=
  { h with tclasses := fun e => (sub_bit (sub_trans rfl hm) e).elim }

theorem only_put52776558133248 {v44 : KMap Sensor} {v45 : KMap TClass} (hm : sub 52776558133248 m = true) (h : Only m s0 s) :
    Only m s0 { s with sensors := v44, tclasses := v45 } :=
  { h with sensors := fun e => (sub_bit (sub_trans rfl hm) e).elim, tclasses := fun e => (sub_bit (sub_trans rfl hm) e).elim }

theorem only_put61572651155456 {v43 : Profile} {v44 : KMap Sensor} {v45 : KMap TClass} (hm : sub 61572651155456 m = true) (h : Only m s0 s) :
    Only m s0 { s with profile := v43, sensors := v44, tclasses := v45 } :=
  { h with profile := fun e => (sub_bit (sub_trans rfl hm) e).elim, sensors := fun e => (sub_bit (sub_trans rfl hm) e).elim, tclasses := fun e => (sub_bit (sub_trans rfl hm) e).elim }

theorem only_put70368744177664 {v46 : KMap Stack} (hm : sub 70368744177664 m = true) (h : Only m s0 s) :
    Only m s0 { s with drams := v46 } :=
  { h with drams := fun e => (sub_bit (sub_trans rfl hm) e).elim }

theorem only_put140737488355328 {v47 : Ranks} (hm : sub 140737488355328 m = true) (h : Only m s0 s) :
    Only m s0 { s with ranks := v47 } :=
  { h with ranks := fun e => (sub_bit (sub_trans rfl hm) e).elim }

theorem only_put281474976710656 {v48 : Sram} (hm : sub 281474976710656 m = true) (h : Only m s0 s) :
    Only m s0 { s with sram := v48 } :=
  { h with sram := fun e => (sub_bit (sub_trans rfl hm) e).elim }

theorem only_put562949953421312 {v49 : KMap (BitVec 64)} (hm : sub 562949953421312 m = true) (h : Only m s0 s) :
    Only m s0 { s with bells := v49 } :=
  { h with bells := fun e => (sub_bit (sub_trans rfl hm) e).elim }

theorem only_put1125899906842624 {v50 : List (Nat × Nat)} (hm : sub 1125899906842624 m = true) (h : Only m s0 s) :
    Only m s0 { s with bellDead := v50 } :=
  { h with bellDead := fun e => (sub_bit (sub_trans rfl hm) e).elim }

theorem only_put2251799813685248 {v51 : Nat} (hm : sub 2251799813685248 m = true) (h : Only m s0 s) :
    Only m s0 { s with bellPending := v51 } :=
  { h with bellPending := fun e => (sub_bit (sub_trans rfl hm) e).elim }

theorem only_put4503599627370496 {v52 : KMap Engine} (hm : sub 4503599627370496 m = true) (h : Only m s0 s) :
    Only m s0 { s with engines := v52 } :=
  { h with engines := fun e => (sub_bit (sub_trans rfl hm) e).elim }

theorem only_put9007199254740992 {v53 : List KeepRec} (hm : sub 9007199254740992 m = true) (h : Only m s0 s) :
    Only m s0 { s with keep := v53 } :=
  { h with keep := fun e => (sub_bit (sub_trans rfl hm) e).elim }

theorem only_put18014398509481984 {v54 : List (Nat × Nat)} (hm : sub 18014398509481984 m = true) (h : Only m s0 s) :
    Only m s0 { s with keepWait := v54 } :=
  { h with keepWait := fun e => (sub_bit (sub_trans rfl hm) e).elim }

theorem only_put54043195528445952 {v54 : List (Nat × Nat)} {v55 : List ((Nat × Nat) × Option KeepRec)} (hm : sub 54043195528445952 m = true) (h : Only m s0 s) :
    Only m s0 { s with keepWait := v54, keepOld := v55 } :=
  { h with keepWait := fun e => (sub_bit (sub_trans rfl hm) e).elim, keepOld := fun e => (sub_bit (sub_trans rfl hm) e).elim }

theorem only_put72057594037927936 {v56 : List (Nat × Nat × List Byte)} (hm : sub 72057594037927936 m = true) (h : Only m s0 s) :
    Only m s0 { s with keepHeld := v56 } :=
  { h with keepHeld := fun e => (sub_bit (sub_trans rfl hm) e).elim }

theorem only_put144115188075855872 {v57 : Nat} (hm : sub 144115188075855872 m = true) (h : Only m s0 s) :
    Only m s0 { s with dieBand := v57 } :=
  { h with dieBand := fun e => (sub_bit (sub_trans rfl hm) e).elim }

theorem only_put288230376151711744 {v58 : Age} (hm : sub 288230376151711744 m = true) (h : Only m s0 s) :
    Only m s0 { s with age := v58 } :=
  { h with age := fun e => (sub_bit (sub_trans rfl hm) e).elim }

theorem only_put288511851128422400 {v48 : Sram} {v58 : Age} (hm : sub 288511851128422400 m = true) (h : Only m s0 s) :
    Only m s0 { s with sram := v48, age := v58 } :=
  { h with sram := fun e => (sub_bit (sub_trans rfl hm) e).elim, age := fun e => (sub_bit (sub_trans rfl hm) e).elim }

theorem only_put342273571680157696 {v54 : List (Nat × Nat)} {v55 : List ((Nat × Nat) × Option KeepRec)} {v58 : Age} (hm : sub 342273571680157696 m = true) (h : Only m s0 s) :
    Only m s0 { s with keepWait := v54, keepOld := v55, age := v58 } :=
  { h with keepWait := fun e => (sub_bit (sub_trans rfl hm) e).elim, keepOld := fun e => (sub_bit (sub_trans rfl hm) e).elim, age := fun e => (sub_bit (sub_trans rfl hm) e).elim }

theorem only_put342555046656868352 {v48 : Sram} {v54 : List (Nat × Nat)} {v55 : List ((Nat × Nat) × Option KeepRec)} {v58 : Age} (hm : sub 342555046656868352 m = true) (h : Only m s0 s) :
    Only m s0 { s with sram := v48, keepWait := v54, keepOld := v55, age := v58 } :=
  { h with sram := fun e => (sub_bit (sub_trans rfl hm) e).elim, keepWait := fun e => (sub_bit (sub_trans rfl hm) e).elim, keepOld := fun e => (sub_bit (sub_trans rfl hm) e).elim, age := fun e => (sub_bit (sub_trans rfl hm) e).elim }

theorem only_put576460752303423488 {v59 : Fold} (hm : sub 576460752303423488 m = true) (h : Only m s0 s) :
    Only m s0 { s with fold := v59 } :=
  { h with fold := fun e => (sub_bit (sub_trans rfl hm) e).elim }

theorem only_put576460752303685632 {v18 : KMap Frame} {v59 : Fold} (hm : sub 576460752303685632 m = true) (h : Only m s0 s) :
    Only m s0 { s with frames := v18, fold := v59 } :=
  { h with frames := fun e => (sub_bit (sub_trans rfl hm) e).elim, fold := fun e => (sub_bit (sub_trans rfl hm) e).elim }

theorem only_put1152921504606846976 {v60 : Clock} (hm : sub 1152921504606846976 m = true) (h : Only m s0 s) :
    Only m s0 { s with clock := v60 } :=
  { h with clock := fun e => (sub_bit (sub_trans rfl hm) e).elim }

theorem only_put1729382256910271808 {v6 : Power} {v8 : Nat} {v10 : Nat} {v59 : Fold} {v60 : Clock} (hm : sub 1729382256910271808 m = true) (h : Only m s0 s) :
    Only m s0 { s with power := v6, phase := v8, rails := v10, fold := v59, clock := v60 } :=
  { h with power := fun e => (sub_bit (sub_trans rfl hm) e).elim, phase := fun e => (sub_bit (sub_trans rfl hm) e).elim, rails := fun e => (sub_bit (sub_trans rfl hm) e).elim, fold := fun e => (sub_bit (sub_trans rfl hm) e).elim, clock := fun e => (sub_bit (sub_trans rfl hm) e).elim }

theorem only_put2305843009213693952 {v61 : Ivdon} (hm : sub 2305843009213693952 m = true) (h : Only m s0 s) :
    Only m s0 { s with ivdon := v61 } :=
  { h with ivdon := fun e => (sub_bit (sub_trans rfl hm) e).elim }

theorem only_put2305845208237015040 {v16 : Option Nat} {v41 : Flink} {v61 : Ivdon} (hm : sub 2305845208237015040 m = true) (h : Only m s0 s) :
    Only m s0 { s with curSlot := v16, flink := v41, ivdon := v61 } :=
  { h with curSlot := fun e => (sub_bit (sub_trans rfl hm) e).elim, flink := fun e => (sub_bit (sub_trans rfl hm) e).elim, ivdon := fun e => (sub_bit (sub_trans rfl hm) e).elim }

theorem only_put2305851805306716160 {v43 : Profile} {v61 : Ivdon} (hm : sub 2305851805306716160 m = true) (h : Only m s0 s) :
    Only m s0 { s with profile := v43, ivdon := v61 } :=
  { h with profile := fun e => (sub_bit (sub_trans rfl hm) e).elim, ivdon := fun e => (sub_bit (sub_trans rfl hm) e).elim }

theorem only_put2305854004329971712 {v41 : Flink} {v43 : Profile} {v61 : Ivdon} (hm : sub 2305854004329971712 m = true) (h : Only m s0 s) :
    Only m s0 { s with flink := v41, profile := v43, ivdon := v61 } :=
  { h with flink := fun e => (sub_bit (sub_trans rfl hm) e).elim, profile := fun e => (sub_bit (sub_trans rfl hm) e).elim, ivdon := fun e => (sub_bit (sub_trans rfl hm) e).elim }

theorem only_put2305854004330037248 {v16 : Option Nat} {v41 : Flink} {v43 : Profile} {v61 : Ivdon} (hm : sub 2305854004330037248 m = true) (h : Only m s0 s) :
    Only m s0 { s with curSlot := v16, flink := v41, profile := v43, ivdon := v61 } :=
  { h with curSlot := fun e => (sub_bit (sub_trans rfl hm) e).elim, flink := fun e => (sub_bit (sub_trans rfl hm) e).elim, profile := fun e => (sub_bit (sub_trans rfl hm) e).elim, ivdon := fun e => (sub_bit (sub_trans rfl hm) e).elim }

theorem only_put4611686018427387904 {v62 : Trace} (hm : sub 4611686018427387904 m = true) (h : Only m s0 s) :
    Only m s0 { s with trace := v62 } :=
  { h with trace := fun e => (sub_bit (sub_trans rfl hm) e).elim }

theorem only_put4611686018427387936 {v5 : Audit} {v62 : Trace} (hm : sub 4611686018427387936 m = true) (h : Only m s0 s) :
    Only m s0 { s with audit := v5, trace := v62 } :=
  { h with audit := fun e => (sub_bit (sub_trans rfl hm) e).elim, trace := fun e => (sub_bit (sub_trans rfl hm) e).elim }

theorem only_put4611687943429423136 {v5 : Audit} {v20 : KMap Ctx} {v24 : KMap (List Byte)} {v25 : KMap (List Byte)} {v28 : KMap Nat} {v29 : Option (KMap Nat)} {v38 : KMap (KMap (BitVec 16))} {v39 : KMap PixRow} {v40 : List PixRow} {v62 : Trace} (hm : sub 4611687943429423136 m = true) (h : Only m s0 s) :
    Only m s0 { s with audit := v5, ctxs := v20, dtabs := v24, dnext := v25, caps := v28, capsNext := v29, staging := v38, tally := v39, hold := v40, trace := v62 } :=
  { h with audit := fun e => (sub_bit (sub_trans rfl hm) e).elim, ctxs := fun e => (sub_bit (sub_trans rfl hm) e).elim, dtabs := fun e => (sub_bit (sub_trans rfl hm) e).elim, dnext := fun e => (sub_bit (sub_trans rfl hm) e).elim, caps := fun e => (sub_bit (sub_trans rfl hm) e).elim, capsNext := fun e => (sub_bit (sub_trans rfl hm) e).elim, staging := fun e => (sub_bit (sub_trans rfl hm) e).elim, tally := fun e => (sub_bit (sub_trans rfl hm) e).elim, hold := fun e => (sub_bit (sub_trans rfl hm) e).elim, trace := fun e => (sub_bit (sub_trans rfl hm) e).elim }

theorem only_put8070465925411774464 {v13 : HostSt} {v20 : KMap Ctx} {v41 : Flink} {v42 : Drover} {v43 : Profile} {v60 : Clock} {v61 : Ivdon} {v62 : Trace} (hm : sub 8070465925411774464 m = true) (h : Only m s0 s) :
    Only m s0 { s with host := v13, ctxs := v20, flink := v41, drover := v42, profile := v43, clock := v60, ivdon := v61, trace := v62 } :=
  { h with host := fun e => (sub_bit (sub_trans rfl hm) e).elim, ctxs := fun e => (sub_bit (sub_trans rfl hm) e).elim, flink := fun e => (sub_bit (sub_trans rfl hm) e).elim, drover := fun e => (sub_bit (sub_trans rfl hm) e).elim, profile := fun e => (sub_bit (sub_trans rfl hm) e).elim, clock := fun e => (sub_bit (sub_trans rfl hm) e).elim, ivdon := fun e => (sub_bit (sub_trans rfl hm) e).elim, trace := fun e => (sub_bit (sub_trans rfl hm) e).elim }

theorem only_put9212675987739767807 {v0 : KMap Word} {v1 : KMap Word} {v2 : KMap Word} {v3 : KMap Word} {v4 : ErrLog} {v5 : Audit} {v6 : Power} {v7 : Bool} {v8 : Nat} {v9 : Bool} {v12 : Nat} {v13 : HostSt} {v14 : Job} {v15 : Job} {v16 : Option Nat} {v17 : Nat} {v18 : KMap Frame} {v19 : Nat} {v20 : KMap Ctx} {v21 : CodecEng} {v22 : List Stripe} {v23 : Nat} {v24 : KMap (List Byte)} {v25 : KMap (List Byte)} {v26 : List (Nat × Nat)} {v27 : List (Nat × Nat)} {v28 : KMap Nat} {v29 : Option (KMap Nat)} {v30 : KMap (KMap (BitVec 16))} {v31 : KMap Nat} {v32 : KMap (KMap Nat)} {v33 : KMap (KMap Nat)} {v34 : KMap (List Byte)} {v35 : KMap Nat} {v36 : KMap (List Byte)} {v37 : KMap Ckpt} {v38 : KMap (KMap (BitVec 16))} {v39 : KMap PixRow} {v40 : List PixRow} {v41 : Flink} {v42 : Drover} {v43 : Profile} {v44 : KMap Sensor} {v45 : KMap TClass} {v46 : KMap Stack} {v47 : Ranks} {v48 : Sram} {v51 : Nat} {v52 : KMap Engine} {v54 : List (Nat × Nat)} {v55 : List ((Nat × Nat) × Option KeepRec)} {v56 : List (Nat × Nat × List Byte)} {v57 : Nat} {v58 : Age} {v59 : Fold} {v60 : Clock} {v61 : Ivdon} {v62 : Trace} (hm : sub 9212675987739767807 m = true) (h : Only m s0 s) :
    Only m s0 { s with regs := v0, force := v1, held := v2, captured := v3, log := v4, audit := v5, power := v6, booted := v7, phase := v8, nightReady := v9, fatal := v12, host := v13, job0 := v14, job1 := v15, curSlot := v16, jobOrd := v17, frames := v18, sealCtr := v19, ctxs := v20, codecEng := v21, stripes := v22, stripeOrd := v23, dtabs := v24, dnext := v25, strayHeld := v26, strayPend := v27, caps := v28, capsNext := v29, field := v30, tileCrcs := v31, density := v32, factor := v33, mapBands := v34, factorCrcs := v35, ckptUnits := v36, ckpts := v37, staging := v38, tally := v39, hold := v40, flink := v41, drover := v42, profile := v43, sensors := v44, tclasses := v45, drams := v46, ranks := v47, sram := v48, bellPending := v51, engines := v52, keepWait := v54, keepOld := v55, keepHeld := v56, dieBand := v57, age := v58, fold := v59, clock := v60, ivdon := v61, trace := v62 } :=
  { h with regs := fun e => (sub_bit (sub_trans rfl hm) e).elim, force := fun e => (sub_bit (sub_trans rfl hm) e).elim, held := fun e => (sub_bit (sub_trans rfl hm) e).elim, captured := fun e => (sub_bit (sub_trans rfl hm) e).elim, log := fun e => (sub_bit (sub_trans rfl hm) e).elim, audit := fun e => (sub_bit (sub_trans rfl hm) e).elim, power := fun e => (sub_bit (sub_trans rfl hm) e).elim, booted := fun e => (sub_bit (sub_trans rfl hm) e).elim, phase := fun e => (sub_bit (sub_trans rfl hm) e).elim, nightReady := fun e => (sub_bit (sub_trans rfl hm) e).elim, fatal := fun e => (sub_bit (sub_trans rfl hm) e).elim, host := fun e => (sub_bit (sub_trans rfl hm) e).elim, job0 := fun e => (sub_bit (sub_trans rfl hm) e).elim, job1 := fun e => (sub_bit (sub_trans rfl hm) e).elim, curSlot := fun e => (sub_bit (sub_trans rfl hm) e).elim, jobOrd := fun e => (sub_bit (sub_trans rfl hm) e).elim, frames := fun e => (sub_bit (sub_trans rfl hm) e).elim, sealCtr := fun e => (sub_bit (sub_trans rfl hm) e).elim, ctxs := fun e => (sub_bit (sub_trans rfl hm) e).elim, codecEng := fun e => (sub_bit (sub_trans rfl hm) e).elim, stripes := fun e => (sub_bit (sub_trans rfl hm) e).elim, stripeOrd := fun e => (sub_bit (sub_trans rfl hm) e).elim, dtabs := fun e => (sub_bit (sub_trans rfl hm) e).elim, dnext := fun e => (sub_bit (sub_trans rfl hm) e).elim, strayHeld := fun e => (sub_bit (sub_trans rfl hm) e).elim, strayPend := fun e => (sub_bit (sub_trans rfl hm) e).elim, caps := fun e => (sub_bit (sub_trans rfl hm) e).elim, capsNext := fun e => (sub_bit (sub_trans rfl hm) e).elim, field := fun e => (sub_bit (sub_trans rfl hm) e).elim, tileCrcs := fun e => (sub_bit (sub_trans rfl hm) e).elim, density := fun e => (sub_bit (sub_trans rfl hm) e).elim, factor := fun e => (sub_bit (sub_trans rfl hm) e).elim, mapBands := fun e => (sub_bit (sub_trans rfl hm) e).elim, factorCrcs := fun e => (sub_bit (sub_trans rfl hm) e).elim, ckptUnits := fun e => (sub_bit (sub_trans rfl hm) e).elim, ckpts := fun e => (sub_bit (sub_trans rfl hm) e).elim, staging := fun e => (sub_bit (sub_trans rfl hm) e).elim, tally := fun e => (sub_bit (sub_trans rfl hm) e).elim, hold := fun e => (sub_bit (sub_trans rfl hm) e).elim, flink := fun e => (sub_bit (sub_trans rfl hm) e).elim, drover := fun e => (sub_bit (sub_trans rfl hm) e).elim, profile := fun e => (sub_bit (sub_trans rfl hm) e).elim, sensors := fun e => (sub_bit (sub_trans rfl hm) e).elim, tclasses := fun e => (sub_bit (sub_trans rfl hm) e).elim, drams := fun e => (sub_bit (sub_trans rfl hm) e).elim, ranks := fun e => (sub_bit (sub_trans rfl hm) e).elim, sram := fun e => (sub_bit (sub_trans rfl hm) e).elim, bellPending := fun e => (sub_bit (sub_trans rfl hm) e).elim, engines := fun e => (sub_bit (sub_trans rfl hm) e).elim, keepWait := fun e => (sub_bit (sub_trans rfl hm) e).elim, keepOld := fun e => (sub_bit (sub_trans rfl hm) e).elim, keepHeld := fun e => (sub_bit (sub_trans rfl hm) e).elim, dieBand := fun e => (sub_bit (sub_trans rfl hm) e).elim, age := fun e => (sub_bit (sub_trans rfl hm) e).elim, fold := fun e => (sub_bit (sub_trans rfl hm) e).elim, clock := fun e => (sub_bit (sub_trans rfl hm) e).elim, ivdon := fun e => (sub_bit (sub_trans rfl hm) e).elim, trace := fun e => (sub_bit (sub_trans rfl hm) e).elim }

theorem only_put9223372036854775808 {v63 : Nat} (hm : sub 9223372036854775808 m = true) (h : Only m s0 s) :
    Only m s0 { s with gpioHigh := v63 } :=
  { h with gpioHigh := fun e => (sub_bit (sub_trans rfl hm) e).elim }

theorem only_put18446744073709551616 {v64 : Option Nat} (hm : sub 18446744073709551616 m = true) (h : Only m s0 s) :
    Only m s0 { s with lastCkpt := v64 } :=
  { h with lastCkpt := fun e => (sub_bit (sub_trans rfl hm) e).elim }

theorem only_put18446744279867981824 {v36 : KMap (List Byte)} {v37 : KMap Ckpt} {v64 : Option Nat} (hm : sub 18446744279867981824 m = true) (h : Only m s0 s) :
    Only m s0 { s with ckptUnits := v36, ckpts := v37, lastCkpt := v64 } :=
  { h with ckptUnits := fun e => (sub_bit (sub_trans rfl hm) e).elim, ckpts := fun e => (sub_bit (sub_trans rfl hm) e).elim, lastCkpt := fun e => (sub_bit (sub_trans rfl hm) e).elim }

theorem only_put36893488147419103232 {v65 : Nat} (hm : sub 36893488147419103232 m = true) (h : Only m s0 s) :
    Only m s0 { s with free := v65 } :=
  { h with free := fun e => (sub_bit (sub_trans rfl hm) e).elim }

theorem only_put73786976294838206464 {v66 : List Out} (hm : sub 73786976294838206464 m = true) (h : Only m s0 s) :
    Only m s0 { s with out := v66 } :=
  { h with out := fun e => (sub_bit (sub_trans rfl hm) e).elim }

end Sys2Proof.Machine
end

