-- ==== Sys2Proof/Laws/OnlyOps.lean ====
section
/-! SUPPORT. What each operation of Machine/Ops.lean may change of the state. -/

set_option linter.unusedVariables false
set_option linter.tactic.unusedName false

namespace Sys2Proof.Machine

variable {mm : Nat} {s0 : State}

theorem only_wr {s : State} (a : RegAddr) (v : Nat) (hm : sub 1 mm = true) (hs : Only mm s0 s) :
    Only mm s0 (State.wr s a v) := by
  unfold State.wr
  try dsimp only
  repeat' first
    | (with_reducible first | assumption)
    | exact sub_trans rfl hm
    | with_reducible apply only_put1

theorem only_setFld {s : State} (a : RegAddr) (hi : Nat) (lo : Nat) (x : Nat) (hm : sub 1 mm = true) (hs : Only mm s0 s) :
    Only mm s0 (State.setFld s a hi lo x) := by
  unfold State.setFld
  repeat' first
    | (with_reducible first | assumption | apply only_wr)
    | exact sub_trans rfl hm

theorem only_bump {s : State} (a : RegAddr) (hi : Nat) (lo : Nat) (n : Nat) (hm : sub 1 mm = true) (hs : Only mm s0 s) :
    Only mm s0 (State.bump s a hi lo n) := by
  unfold State.bump
  repeat' first
    | (with_reducible first | assumption | apply only_setFld)
    | exact sub_trans rfl hm

theorem only_inc {s : State} (a : RegAddr) (hm : sub 1 mm = true) (hs : Only mm s0 s) :
    Only mm s0 (State.inc s a) := by
  unfold State.inc
  repeat' first
    | (with_reducible first | assumption | apply only_bump)
    | exact sub_trans rfl hm

theorem only_maxFld {s : State} (a : RegAddr) (hi : Nat) (lo : Nat) (x : Nat) (hm : sub 1 mm = true) (hs : Only mm s0 s) :
    Only mm s0 (State.maxFld s a hi lo x) := by
  unfold State.maxFld
  repeat' first
    | (with_reducible first | assumption | apply only_setFld)
    | exact sub_trans rfl hm

theorem only_wr64 {s : State} (a : RegAddr) (v : Nat) (hm : sub 1 mm = true) (hs : Only mm s0 s) :
    Only mm s0 (State.wr64 s a v) := by
  unfold State.wr64
  repeat' first
    | (with_reducible first | assumption | apply only_wr)
    | exact sub_trans rfl hm

theorem only_emit {s : State} (o : Out) (hm : sub 73786976294838206464 mm = true) (hs : Only mm s0 s) :
    Only mm s0 (State.emit s o) := by
  unfold State.emit
  try dsimp only
  repeat' first
    | (with_reducible first | assumption)
    | exact sub_trans rfl hm
    | with_reducible apply only_put73786976294838206464

theorem only_fresh {s : State} (hm : sub 36893488147419103232 mm = true) (hs : Only mm s0 s) :
    Only mm s0 (State.fresh s).2 := by
  unfold State.fresh
  try dsimp only
  repeat' first
    | (with_reducible first | assumption)
    | exact sub_trans rfl hm
    | with_reducible apply only_put36893488147419103232

theorem only_signalPage {s : State} (page : Nat) (before : Nat) (hm : sub 73786976294838206464 mm = true) (hs : Only mm s0 s) :
    Only mm s0 (State.signalPage s page before) := by
  unfold State.signalPage
  try dsimp only
  repeat' first
    | (with_reducible first | assumption | apply only_ite | apply only_emit)
    | exact sub_trans rfl hm
    | split

theorem only_raiseIrq {s : State} (page : Nat) (bit : Nat) (hm : sub 73786976294838206465 mm = true) (hs : Only mm s0 s) :
    Only mm s0 (State.raiseIrq s page bit) := by
  unfold State.raiseIrq
  try dsimp only
  repeat' first
    | (with_reducible first | assumption | apply only_ite | apply only_setFld | apply only_signalPage)
    | exact sub_trans rfl hm
    | split

theorem only_dropIrq {s : State} (page : Nat) (bit : Nat) (hm : sub 1 mm = true) (hs : Only mm s0 s) :
    Only mm s0 (State.dropIrq s page bit) := by
  unfold State.dropIrq
  repeat' first
    | (with_reducible first | assumption | apply only_setFld)
    | exact sub_trans rfl hm

theorem only_traceRec {s : State} (page : Nat) (kind : Nat) (code : Nat) (data : List Nat) (hm : sub 4611686018427387904 mm = true) (hs : Only mm s0 s) :
    Only mm s0 (State.traceRec s page kind code data) := by
  unfold State.traceRec
  try dsimp only
  repeat' first
    | (with_reducible first | assumption | apply only_ite)
    | exact sub_trans rfl hm
    | with_reducible apply only_put4611686018427387904
    | split

theorem only_traced (p : Nat) {s : State} {t : State} (hm : sub 4611686018427387904 mm = true) (hs : Only mm s0 s) (ht : Only mm s0 t) :
    Only mm s0 (State.traced p s t) := by
  unfold State.traced
  repeat' first
    | (with_reducible first | assumption | apply only_ite | apply only_traceRec)
    | exact sub_trans rfl hm
    | split

theorem only_setCmd {s : State} (n : Nat) (f : Cmd → Cmd) (hm : sub 8192 mm = true) (hs : Only mm s0 s) :
    Only mm s0 (State.setCmd s n f) := by
  unfold State.setCmd
  try dsimp only
  repeat' first
    | (with_reducible first | assumption | apply only_ite)
    | exact sub_trans rfl hm
    | (intro _; intros; try dsimp only)
    | with_reducible apply only_put8192
    | split

theorem only_countOnly {s : State} (page : Nat) (hm : sub 4611686018427387905 mm = true) (hs : Only mm s0 s) :
    Only mm s0 (State.countOnly s page) := by
  unfold State.countOnly
  repeat' first
    | (with_reducible first | assumption | apply only_traced | apply only_inc)
    | exact sub_trans rfl hm

theorem only_logRec {s : State} (r : ErrRec) (hm : sub 17 mm = true) (hs : Only mm s0 s) :
    Only mm s0 (State.logRec s r) := by
  unfold State.logRec
  try dsimp only
  repeat' first
    | (with_reducible first | assumption | apply only_take | apply only_setFld | apply only_wr | apply only_wr64)
    | exact sub_trans rfl hm
    | with_reducible apply only_put16

theorem only_pageErr {s : State} (p : Nat) (seq : Nat) (code : Nat) (hm : sub 4611686018427387905 mm = true) (hs : Only mm s0 s) :
    Only mm s0 (State.pageErr s p seq code) := by
  unfold State.pageErr
  try dsimp only
  repeat' first
    | (with_reducible first | assumption | apply only_ite | apply only_wr | apply only_traced | apply only_inc)
    | exact sub_trans rfl hm
    | split

theorem only_traceTrigger {s : State} (code : Nat) (hm : sub 4611686018427387904 mm = true) (hs : Only mm s0 s) :
    Only mm s0 (State.traceTrigger s code) := by
  unfold State.traceTrigger
  try dsimp only
  repeat' first
    | (with_reducible first | assumption | apply only_ite | apply only_fire)
    | exact sub_trans rfl hm
    | with_reducible apply only_put4611686018427387904
    | split

theorem only_writeRec {s : State} (a : RecArg) (hm : sub 78398662313265602577 mm = true) (hs : Only mm s0 s) :
    Only mm s0 (State.writeRec s a) := by
  unfold State.writeRec
  try dsimp only
  repeat' first
    | (with_reducible first | assumption | apply only_ite | apply only_logRec | apply only_setCmd | apply only_pageErr | apply only_traceRec)
    | (with_reducible first | apply only_traceTrigger | apply only_raiseIrq)
    | exact sub_trans rfl hm
    | (intro _; intros; try dsimp only)
    | split

theorem only_recordRaw {s : State} (a : RecArg) (hm : sub 78398662313265602577 mm = true) (hs : Only mm s0 s) :
    Only mm s0 (State.recordRaw s a) := by
  unfold State.recordRaw
  try dsimp only
  repeat' first
    | (with_reducible first | assumption | apply only_ite | apply only_countOnly | apply only_writeRec | apply only_raiseIrq)
    | exact sub_trans rfl hm
    | with_reducible apply only_put16
    | split

theorem only_putBell {s : State} (n : Nat) (v : Nat) (hm : sub 562949953421312 mm = true) (hs : Only mm s0 s) :
    Only mm s0 (State.putBell s n v) := by
  unfold State.putBell
  try dsimp only
  repeat' first
    | (with_reducible first | assumption)
    | exact sub_trans rfl hm
    | with_reducible apply only_put562949953421312

theorem only_beginSign {s : State} (hm : sub 32 mm = true) (hs : Only mm s0 s) :
    Only mm s0 (State.beginSign s) := by
  unfold State.beginSign
  try dsimp only
  repeat' first
    | (with_reducible first | assumption | apply only_chain)
    | exact sub_trans rfl hm
    | with_reducible apply only_put32

theorem only_commit {s : State} (kind : Nat) (o : Origin) (addr : Nat) (old : Nat) (new : Nat) (detail : List Nat) (hm : sub 562949953421345 mm = true) (hs : Only mm s0 s) :
    Only mm s0 (State.commit s kind o addr old new detail) := by
  unfold State.commit
  try dsimp only
  repeat' first
    | (with_reducible first | assumption | apply only_ite | apply only_take | apply only_setFld | apply only_chain | apply only_record)
    | (with_reducible first | apply only_putBell | apply only_wr64 | apply only_wr | apply only_beginSign)
    | exact sub_trans rfl hm
    | (intro _; intros; try dsimp only)
    | with_reducible apply only_put32
    | split

theorem only_countFull {s : State} (hm : sub 73786976294838206465 mm = true) (hs : Only mm s0 s) :
    Only mm s0 (State.countFull s) := by
  unfold State.countFull
  repeat' first
    | (with_reducible first | assumption | apply only_bump | apply only_emit)
    | exact sub_trans rfl hm

theorem only_setQueue {s : State} (q : Nat) (x : Queue) (hm : sub 8192 mm = true) (hs : Only mm s0 s) :
    Only mm s0 (State.setQueue s q x) := by
  unfold State.setQueue
  try dsimp only
  repeat' first
    | (with_reducible first | assumption)
    | exact sub_trans rfl hm
    | (intro _; intros; try dsimp only)
    | with_reducible apply only_put8192

theorem only_writeCompletion {s : State} (q : Nat) (c : Cmd) (d : Nat × Nat × Nat × Nat × Nat) (hm : sub 73786976294838214656 mm = true) (hs : Only mm s0 s) :
    Only mm s0 (State.writeCompletion s q c d) := by
  unfold State.writeCompletion
  try dsimp only
  repeat' first
    | (with_reducible first | assumption | apply only_ite | apply only_emit | apply only_setQueue)
    | exact sub_trans rfl hm
    | (intro _; intros; try dsimp only)
    | with_reducible apply only_put8192
    | split

theorem only_drainCq (hm : sub 73786976294838214656 mm = true) : ∀ (n : Nat) {s : State}, Only mm s0 s → Only mm s0 (State.drainCq n s)
  | 0, _, h => h
  | n + 1, s, h => by
    unfold State.drainCq
    split
    · exact h
    · split
      · exact h
      · exact only_drainCq hm n (only_writeCompletion _ _ _ (sub_trans rfl hm) h)

theorem only_drain {s : State} (hm : sub 73786976294838214656 mm = true) (hs : Only mm s0 s) :
    Only mm s0 (State.drain s) := by
  unfold State.drain
  repeat' first
    | (with_reducible first | assumption | apply only_drainCq)
    | exact sub_trans rfl hm
    | (intro _; intros; try dsimp only)

theorem only_complete {s : State} (n : Nat) (status : Nat) (r0 : Nat) (r1 : Nat) (r2 : Nat) (r3 : Nat) (hm : sub 73786976294838214656 mm = true) (hs : Only mm s0 s) :
    Only mm s0 (State.complete s n status r0 r1 r2 r3) := by
  unfold State.complete
  try dsimp only
  repeat' first
    | (with_reducible first | assumption | apply only_ite | apply only_setCmd | apply only_ran | apply only_drain)
    | exact sub_trans rfl hm
    | (intro _; intros; try dsimp only)
    | split

theorem only_fail {s : State} (n : Nat) (code : Nat) (lk : Nat) (l0 : Nat) (l1 : Nat) (l2 : Nat) (hm : sub 78398662313265602577 mm = true) (hs : Only mm s0 s) :
    Only mm s0 (State.fail s n code lk l0 l1 l2) := by
  unfold State.fail
  repeat' first
    | (with_reducible first | assumption | apply only_recordRaw | apply only_complete)
    | exact sub_trans rfl hm

theorem only_putEvent {s : State} (e : Event) (hm : sub 73786976294838214656 mm = true) (hs : Only mm s0 s) :
    Only mm s0 (State.putEvent s e) := by
  unfold State.putEvent
  try dsimp only
  repeat' first
    | (with_reducible first | assumption | apply only_ite | apply only_emit | apply only_event)
    | exact sub_trans rfl hm
    | with_reducible apply only_put8192
    | split

theorem only_event {s : State} (typ : Nat) (jobId : Nat) (item : Nat) (code : Nat) (hm : sub 78398662313265602577 mm = true) (hs : Only mm s0 s) :
    Only mm s0 (State.event s typ jobId item code) := by
  unfold State.event
  try dsimp only
  repeat' first
    | (with_reducible first | assumption | apply only_ite | apply only_putEvent | apply only_recordRaw)
    | exact sub_trans rfl hm
    | with_reducible apply only_put8192
    | split

theorem only_eventKept {s : State} (typ : Nat) (jobId : Nat) (item : Nat) (code : Nat) (hm : sub 73786976294838214656 mm = true) (hs : Only mm s0 s) :
    Only mm s0 (State.eventKept s typ jobId item code) := by
  unfold State.eventKept
  try dsimp only
  repeat' first
    | (with_reducible first | assumption | apply only_ite | apply only_putEvent)
    | exact sub_trans rfl hm
    | with_reducible apply only_put8192
    | split

theorem only_drainEvents (hm : sub 73786976294838214656 mm = true) : ∀ (n : Nat) {s : State}, Only mm s0 s → Only mm s0 (State.drainEvents n s)
  | 0, _, h => h
  | n + 1, s, h => by
    unfold State.drainEvents
    split
    · exact h
    · split
      · exact only_drainEvents hm n (only_putEvent _ (sub_trans rfl hm) (only_put8192 (sub_trans rfl hm) h))
      · exact h

theorem only_setJob {s : State} (i : Nat) (j : Job) (hm : sub 49152 mm = true) (hs : Only mm s0 s) :
    Only mm s0 (State.setJob s i j) := by
  unfold State.setJob
  try dsimp only
  repeat' first
    | (with_reducible first | assumption | apply only_ite)
    | exact sub_trans rfl hm
    | with_reducible apply only_put16384
    | with_reducible apply only_put32768
    | with_reducible apply only_put49152
    | split

theorem only_modJob {s : State} (i : Nat) (f : Job → Job) (hm : sub 49152 mm = true) (hs : Only mm s0 s) :
    Only mm s0 (State.modJob s i f) := by
  unfold State.modJob
  repeat' first
    | (with_reducible first | assumption | apply only_setJob)
    | exact sub_trans rfl hm

theorem only_modStripes {s : State} (p : Stripe → Bool) (f : Stripe → Stripe) (hm : sub 4194304 mm = true) (hs : Only mm s0 s) :
    Only mm s0 (State.modStripes s p f) := by
  unfold State.modStripes
  try dsimp only
  repeat' first
    | (with_reducible first | assumption | apply only_ite)
    | exact sub_trans rfl hm
    | (intro _; intros; try dsimp only)
    | with_reducible apply only_put4194304
    | split

theorem only_modStripe {s : State} (x : Stripe) (f : Stripe → Stripe) (hm : sub 4194304 mm = true) (hs : Only mm s0 s) :
    Only mm s0 (State.modStripe s x f) := by
  unfold State.modStripe
  repeat' first
    | (with_reducible first | assumption | apply only_modStripes)
    | exact sub_trans rfl hm
    | (intro _; intros; try dsimp only)

theorem only_showCheck {s : State} (hm : sub 1 mm = true) (hs : Only mm s0 s) :
    Only mm s0 (State.showCheck s) := by
  unfold State.showCheck
  try dsimp only
  repeat' first
    | (with_reducible first | assumption | apply only_id | apply only_wr)
    | exact sub_trans rfl hm
    | (intro _; intros; try dsimp only)
    | split

theorem only_showStripes {s : State} (hm : sub 1 mm = true) (hs : Only mm s0 s) :
    Only mm s0 (State.showStripes s) := by
  unfold State.showStripes
  try dsimp only
  repeat' first
    | (with_reducible first | assumption | apply only_ite | apply only_id | apply only_wr | apply only_setFld | apply only_showCheck)
    | exact sub_trans rfl hm
    | (intro _; intros; try dsimp only)
    | split

theorem only_setLane {s : State} (l : Nat) (x : Lane) (hm : sub 2199023255552 mm = true) (hs : Only mm s0 s) :
    Only mm s0 (State.setLane s l x) := by
  unfold State.setLane
  try dsimp only
  repeat' first
    | (with_reducible first | assumption)
    | exact sub_trans rfl hm
    | (intro _; intros; try dsimp only)
    | with_reducible apply only_put2199023255552

theorem only_allLanes {s : State} (typ : Nat) (content : Nat) (hm : sub 73786976294838206464 mm = true) (hs : Only mm s0 s) :
    Only mm s0 (State.allLanes s typ content) := by
  unfold State.allLanes
  repeat' first
    | (with_reducible first | assumption | apply only_ite | apply only_emit | apply only_foldl)
    | exact sub_trans rfl hm
    | (intro _; intros; try dsimp only)
    | split

theorem only_modFrame {s : State} (lane : Nat) (index : Nat) (f : LinkFrame → LinkFrame) (hm : sub 2199023255552 mm = true) (hs : Only mm s0 s) :
    Only mm s0 (State.modFrame s lane index f) := by
  unfold State.modFrame
  try dsimp only
  repeat' first
    | (with_reducible first | assumption | apply only_ite)
    | exact sub_trans rfl hm
    | (intro _; intros; try dsimp only)
    | with_reducible apply only_put2199023255552
    | split

theorem only_modFrames {s : State} (f : LinkFrame → LinkFrame) (hm : sub 2199023255552 mm = true) (hs : Only mm s0 s) :
    Only mm s0 (State.modFrames s f) := by
  unfold State.modFrames
  try dsimp only
  repeat' first
    | (with_reducible first | assumption)
    | exact sub_trans rfl hm
    | with_reducible apply only_put2199023255552

theorem only_resumeFrame {s : State} (l : Nat) (hm : sub 73786976294838206464 mm = true) (hs : Only mm s0 s) :
    Only mm s0 (State.resumeFrame s l) := by
  unfold State.resumeFrame
  try dsimp only
  repeat' first
    | (with_reducible first | assumption | apply only_emit)
    | exact sub_trans rfl hm
    | split

theorem only_noteSlack {s : State} (l : Nat) (ns : Nat) (hm : sub 2199023255552 mm = true) (hs : Only mm s0 s) :
    Only mm s0 (State.noteSlack s l ns) := by
  unfold State.noteSlack
  try dsimp only
  repeat' first
    | (with_reducible first | assumption | apply only_ite)
    | exact sub_trans rfl hm
    | split
    | with_reducible apply only_put2199023255552

theorem only_sendReplay {s : State} (l : Nat) (index : Nat) (ns : Nat) (hm : sub 73786978493861462017 mm = true) (hs : Only mm s0 s) :
    Only mm s0 (State.sendReplay s l index ns) := by
  unfold State.sendReplay
  try dsimp only
  repeat' first
    | (with_reducible first | assumption | apply only_inc | apply only_modFrame | apply only_setLane | apply only_noteSlack | apply only_emit)
    | exact sub_trans rfl hm
    | (intro _; intros; try dsimp only)
    | split

theorem only_sendDue {s : State} (l : Nat) (hm : sub 73786978493861462017 mm = true) (hs : Only mm s0 s) :
    Only mm s0 (State.sendDue s l) := by
  unfold State.sendDue
  try dsimp only
  repeat' first
    | (with_reducible first | assumption | apply only_ite | apply only_sendReplay | apply only_setLane | apply only_foldl)
    | exact sub_trans rfl hm
    | (intro _; intros; try dsimp only)
    | split

theorem only_boundaryOf {s : State} (l : Nat) (hm : sub 110680466641280565249 mm = true) (hs : Only mm s0 s) :
    Only mm s0 (State.boundaryOf s l) := by
  unfold State.boundaryOf
  try dsimp only
  repeat' first
    | (with_reducible first | assumption | apply only_ite | apply only_sendDue | apply only_resumeFrame | apply only_fresh)
    | exact sub_trans rfl hm
    | split

theorem only_shadeBlocks {s : State} (content : Nat) (hm : sub 110680466641280565249 mm = true) (hs : Only mm s0 s) :
    Only mm s0 (State.shadeBlocks s content) := by
  unfold State.shadeBlocks
  try dsimp only
  repeat' first
    | (with_reducible first | assumption | apply only_ite | apply only_emit | apply only_sendDue | apply only_resumeFrame | apply only_fresh)
    | (with_reducible first | apply only_foldl | apply only_foldl_snd)
    | exact sub_trans rfl hm
    | (intro _; intros; try dsimp only)
    | split

theorem only_shadeOn {s : State} (now : Bool) (hm : sub 110680466641280565249 mm = true) (hs : Only mm s0 s) :
    Only mm s0 (State.shadeOn s now) := by
  unfold State.shadeOn
  try dsimp only
  repeat' first
    | (with_reducible first | assumption | apply only_ite | apply only_shadeBlocks)
    | exact sub_trans rfl hm
    | with_reducible apply only_put2199023255552
    | split

theorem only_shadeOff {s : State} (flashLo : Nat) (hm : sub 110680466641280565249 mm = true) (hs : Only mm s0 s) :
    Only mm s0 (State.shadeOff s flashLo) := by
  unfold State.shadeOff
  try dsimp only
  repeat' first
    | (with_reducible first | assumption | apply only_shadeBlocks)
    | exact sub_trans rfl hm
    | with_reducible apply only_put2199023255552

theorem only_dropAfter {s : State} (x : Stripe) (h : Int) (hm : sub 2199023255552 mm = true) (hs : Only mm s0 s) :
    Only mm s0 (State.dropAfter s x h) := by
  unfold State.dropAfter
  try dsimp only
  repeat' first
    | (with_reducible first | assumption | apply only_ite | apply only_after | apply only_setLane | apply only_foldl)
    | exact sub_trans rfl hm
    | (intro _; intros; try dsimp only)
    | with_reducible apply only_put2199023255552
    | split

theorem only_tellBoard {s : State} (b : Nat) (hm : sub 73786976294838206464 mm = true) (hs : Only mm s0 s) :
    Only mm s0 (State.tellBoard s b) := by
  unfold State.tellBoard
  repeat' first
    | (with_reducible first | assumption | apply only_ite | apply only_emit)
    | exact sub_trans rfl hm
    | split

theorem only_showPins {s : State} (b : Nat) (hm : sub 73786976294838206465 mm = true) (hs : Only mm s0 s) :
    Only mm s0 (State.showPins s b) := by
  unfold State.showPins
  repeat' first
    | (with_reducible first | assumption | apply only_ite | apply only_setFld | apply only_tellBoard)
    | exact sub_trans rfl hm
    | split

theorem only_sendOn {s : State} (ps : List Nat) (pkt : BitVec 128) (hm : sub 73786976294838206464 mm = true) (hs : Only mm s0 s) :
    Only mm s0 (State.sendOn s ps pkt) := by
  unfold State.sendOn
  repeat' first
    | (with_reducible first | assumption | apply only_ite | apply only_emit | apply only_foldl)
    | exact sub_trans rfl hm
    | (intro _; intros; try dsimp only)
    | split

theorem only_flood {s : State} (typ : Nat) (dst : Nat) (payload : Nat) (hm : sub 76092819304051900416 mm = true) (hs : Only mm s0 s) :
    Only mm s0 (State.flood s typ dst payload) := by
  unfold State.flood
  try dsimp only
  repeat' first
    | (with_reducible first | assumption | apply only_ite | apply only_take | apply only_sendOn)
    | exact sub_trans rfl hm
    | with_reducible apply only_put2305843009213693952
    | split

theorem only_floodContain {s : State} (cause : Nat) (hm : sub 76092819304051900416 mm = true) (hs : Only mm s0 s) :
    Only mm s0 (State.floodContain s cause) := by
  unfold State.floodContain
  repeat' first
    | (with_reducible first | assumption | apply only_ite | apply only_flood)
    | exact sub_trans rfl hm
    | split

theorem only_droverTo {s : State} (st : Nat) (hm : sub 4398046511105 mm = true) (hs : Only mm s0 s) :
    Only mm s0 (State.droverTo s st) := by
  unfold State.droverTo
  try dsimp only
  repeat' first
    | (with_reducible first | assumption | apply only_setFld)
    | exact sub_trans rfl hm
    | with_reducible apply only_put4398046511104

theorem only_enterContained {s : State} (x : Stripe) (a : RecArg) (now : Bool) (h : Int) (hm : sub 117598008931784859665 mm = true) (hs : Only mm s0 s) :
    Only mm s0 (State.enterContained s x a now h) := by
  unfold State.enterContained
  try dsimp only
  repeat' first
    | (with_reducible first | assumption | apply only_recordRaw | apply only_modStripe | apply only_droverTo | apply only_shadeOn)
    | (with_reducible first | apply only_allLanes | apply only_dropAfter | apply only_setFld | apply only_wr | apply only_wr64)
    | (with_reducible first | apply only_floodContain | apply only_showStripes)
    | exact sub_trans rfl hm
    | (intro _; intros; try dsimp only)
    | with_reducible apply only_put11063835754496

theorem only_containAt {s : State} (a : RecArg) (now : Bool) (h : Int) (hm : sub 117598008931784859665 mm = true) (hs : Only mm s0 s) :
    Only mm s0 (State.containAt s a now h) := by
  unfold State.containAt
  split
  · exact only_recordRaw _ (sub_trans rfl hm) hs
  · split
    · have h1 : Only mm s0 (if now then s.shadeOn true else s) := only_ite (only_shadeOn _ (sub_trans rfl hm) hs) hs
      generalize (if now then s.shadeOn true else s) = s1 at h1
      dsimp only
      split
      · apply only_put10995116277760 (sub_trans rfl hm)
        apply only_setFld (hm := sub_trans rfl hm)
        apply only_dropAfter (hm := sub_trans rfl hm)
        apply only_allLanes (hm := sub_trans rfl hm)
        apply only_shadeOn (hm := sub_trans rfl hm)
        apply only_droverTo (hm := sub_trans rfl hm)
        apply only_modStripe (hm := sub_trans rfl hm)
        exact only_recordRaw _ (sub_trans rfl hm) h1
      · exact only_recordRaw _ (sub_trans rfl hm) h1
    · exact only_enterContained _ _ _ _ (sub_trans rfl hm) hs

theorem only_contain {s : State} (a : RecArg) (now : Bool) (hm : sub 117598008931784859665 mm = true) (hs : Only mm s0 s) :
    Only mm s0 (State.contain s a now) := by
  unfold State.contain
  repeat' first
    | (with_reducible first | assumption | apply only_containAt)
    | exact sub_trans rfl hm

theorem only_record {s : State} (a : RecArg) (hm : sub 117598008931784859665 mm = true) (hs : Only mm s0 s) :
    Only mm s0 (State.record s a) := by
  unfold State.record
  try dsimp only
  repeat' first
    | (with_reducible first | assumption | apply only_ite | apply only_recordRaw | apply only_contain)
    | exact sub_trans rfl hm
    | split

theorem only_listKeep {s : State} (hm : sub 562949953421312 mm = true) (hs : Only mm s0 s) :
    Only mm s0 (State.listKeep s) := by
  unfold State.listKeep
  repeat' first
    | (with_reducible first | assumption | apply only_putBell)
    | exact sub_trans rfl hm

theorem only_auditDir {s : State} (old : Nat) (hm : sub 562949953421345 mm = true) (hs : Only mm s0 s) :
    Only mm s0 (State.auditDir s old) := by
  unfold State.auditDir
  repeat' first
    | (with_reducible first | assumption | apply only_commit)
    | exact sub_trans rfl hm

theorem only_keepWaits {s : State} (typ : Nat) (inst : Nat) (old : Option KeepRec) (hm : sub 54043195528445952 mm = true) (hs : Only mm s0 s) :
    Only mm s0 (State.keepWaits s typ inst old) := by
  unfold State.keepWaits
  try dsimp only
  repeat' first
    | (with_reducible first | assumption | apply only_ite)
    | exact sub_trans rfl hm
    | with_reducible apply only_put54043195528445952
    | split

theorem only_keepCome {s : State} (p : Nat × Nat → Bool) (hm : sub 54043195528445952 mm = true) (hs : Only mm s0 s) :
    Only mm s0 (State.keepCome s p) := by
  unfold State.keepCome
  try dsimp only
  repeat' first
    | (with_reducible first | assumption)
    | exact sub_trans rfl hm
    | (intro _; intros; try dsimp only)
    | with_reducible apply only_put54043195528445952

theorem only_laneComes {s : State} (l : Nat) (hm : sub 54043195528445952 mm = true) (hs : Only mm s0 s) :
    Only mm s0 (State.laneComes s l) := by
  unfold State.laneComes
  try dsimp only
  repeat' first
    | (with_reducible first | assumption | apply only_ite | apply only_keepCome)
    | exact sub_trans rfl hm
    | (intro _; intros; try dsimp only)
    | split

theorem only_encNow {s : State} (typ : Nat) (inst : Nat) (payload : List Byte) (hm : sub 4398046511104 mm = true) (hs : Only mm s0 s) :
    Only mm s0 (State.encNow s typ inst payload) := by
  unfold State.encNow
  try dsimp only
  repeat' first
    | (with_reducible first | assumption | apply only_ite)
    | exact sub_trans rfl hm
    | with_reducible apply only_put4398046511104
    | split

theorem only_storeKeep {s : State} (o : Origin) (typ : Nat) (inst : Nat) (payload : List Byte) (bad : Nat) (hm : sub 63617742783119393 mm = true) (hs : Only mm s0 s) :
    Only mm s0 (State.storeKeep s o typ inst payload bad) := by
  unfold State.storeKeep
  try dsimp only
  repeat' first
    | (with_reducible first | assumption | apply only_ite | apply only_commit | apply only_auditDir | apply only_listKeep)
    | (with_reducible first | apply only_keepWaits | apply only_encNow)
    | exact sub_trans rfl hm
    | (intro _; intros; try dsimp only)
    | with_reducible apply only_put9007199254740992
    | split

theorem only_putKeep {s : State} (typ : Nat) (inst : Nat) (payload : List Byte) (hm : sub 135675336821047329 mm = true) (hs : Only mm s0 s) :
    Only mm s0 (State.putKeep s typ inst payload) := by
  unfold State.putKeep
  try dsimp only
  repeat' first
    | (with_reducible first | assumption | apply only_ite | apply only_storeKeep)
    | exact sub_trans rfl hm
    | (intro _; intros; try dsimp only)
    | with_reducible apply only_put72057594037927936
    | split

theorem only_flushKeep {s : State} (hm : sub 135675336821047329 mm = true) (hs : Only mm s0 s) :
    Only mm s0 (State.flushKeep s) := by
  unfold State.flushKeep
  try dsimp only
  repeat' first
    | (with_reducible first | assumption | apply only_putKeep | apply only_foldl)
    | exact sub_trans rfl hm
    | (intro _; intros; try dsimp only)
    | with_reducible apply only_put72057594037927936

theorem only_saveAgeing {s : State} (hm : sub 135675336821047329 mm = true) (hs : Only mm s0 s) :
    Only mm s0 (State.saveAgeing s) := by
  unfold State.saveAgeing
  repeat' first
    | (with_reducible first | assumption | apply only_putKeep)
    | exact sub_trans rfl hm

theorem only_eraseKey {s : State} (cause : Nat) (slot : Nat) (hm : sub 562949953470497 mm = true) (hs : Only mm s0 s) :
    Only mm s0 (State.eraseKey s cause slot) := by
  unfold State.eraseKey
  try dsimp only
  repeat' first
    | (with_reducible first | assumption | apply only_ite | apply only_commit | apply only_modJob)
    | exact sub_trans rfl hm
    | (intro _; intros; try dsimp only)
    | split

theorem only_eraseKeys {s : State} (cause : Nat) (hm : sub 577023702256893985 mm = true) (hs : Only mm s0 s) :
    Only mm s0 (State.eraseKeys s cause) := by
  unfold State.eraseKeys
  try dsimp only
  repeat' first
    | (with_reducible first | assumption | apply only_eraseKey)
    | exact sub_trans rfl hm
    | with_reducible apply only_put576460752303423488

theorem only_deviceFatal {s : State} (a : RecArg) (hm : sub 115932239950887579697 mm = true) (hs : Only mm s0 s) :
    Only mm s0 (State.deviceFatal s a) := by
  unfold State.deviceFatal
  try dsimp only
  repeat' first
    | (with_reducible first | assumption | apply only_ite | apply only_shadeOn | apply only_droverTo | apply only_setFld | apply only_recordRaw)
    | (with_reducible first | apply only_wr | apply only_showPins | apply only_storeKeep | apply only_eraseKeys | apply only_fail)
    | (with_reducible first | apply only_foldl)
    | exact sub_trans rfl hm
    | (intro _; intros; try dsimp only)
    | with_reducible apply only_put4096
    | with_reducible apply only_put8796093022208
    | with_reducible apply only_put8796093026304
    | split

theorem only_writeBell {s : State} (n : Nat) (v : Nat) (code : Nat) (hm : sub 118240334828638629937 mm = true) (hs : Only mm s0 s) :
    Only mm s0 (State.writeBell s n v code) := by
  unfold State.writeBell
  try dsimp only
  repeat' first
    | (with_reducible first | assumption | apply only_ite | apply only_recordRaw | apply only_deviceFatal | apply only_putBell)
    | (with_reducible first | apply only_commit | apply only_record)
    | exact sub_trans rfl hm
    | with_reducible apply only_put2251799813685248
    | split

theorem only_modList {s : State} (x : Stripe) (f : DefList → DefList) (hm : sub 49152 mm = true) (hs : Only mm s0 s) :
    Only mm s0 (State.modList s x f) := by
  unfold State.modList
  try dsimp only
  repeat' first
    | (with_reducible first | assumption | apply only_ite | apply only_modJob)
    | exact sub_trans rfl hm
    | (intro _; intros; try dsimp only)
    | split

theorem only_serve {s : State} (hm : sub 2097152 mm = true) (hs : Only mm s0 s) :
    Only mm s0 (State.serve s) := by
  unfold State.serve
  try dsimp only
  repeat' first
    | (with_reducible first | assumption)
    | exact sub_trans rfl hm
    | with_reducible apply only_put2097152

theorem only_setCtx {s : State} (i : Nat) (c : Ctx) (hm : sub 3145729 mm = true) (hs : Only mm s0 s) :
    Only mm s0 (State.setCtx s i c) := by
  unfold State.setCtx
  try dsimp only
  repeat' first
    | (with_reducible first | assumption | apply only_ite | apply only_setFld | apply only_serve)
    | exact sub_trans rfl hm
    | (intro _; intros; try dsimp only)
    | with_reducible apply only_put1048576
    | split

theorem only_dropCtxs {s : State} (p : Ctx → Bool) (hm : sub 3145729 mm = true) (hs : Only mm s0 s) :
    Only mm s0 (State.dropCtxs s p) := by
  unfold State.dropCtxs
  try dsimp only
  repeat' first
    | (with_reducible first | assumption | apply only_ite | apply only_setCtx | apply only_foldl)
    | exact sub_trans rfl hm
    | (intro _; intros; try dsimp only)
    | split

theorem only_dropUnits {s : State} (x : Stripe) (hm : sub 68722622465 mm = true) (hs : Only mm s0 s) :
    Only mm s0 (State.dropUnits s x) := by
  unfold State.dropUnits
  try dsimp only
  repeat' first
    | (with_reducible first | assumption | apply only_ite | apply only_dropCtxs | apply only_setFld)
    | exact sub_trans rfl hm
    | (intro _; intros; try dsimp only)
    | with_reducible apply only_put68719476736
    | split

theorem only_dropStripe {s : State} (x : Stripe) (hm : sub 1992872165377 mm = true) (hs : Only mm s0 s) :
    Only mm s0 (State.dropStripe s x) := by
  unfold State.dropStripe
  try dsimp only
  repeat' first
    | (with_reducible first | assumption | apply only_dropUnits | apply only_showStripes)
    | exact sub_trans rfl hm
    | (intro _; intros; try dsimp only)
    | with_reducible apply only_put1924149542912

theorem only_endStripe {s : State} (x : Stripe) (state : Nat) (outcome : Nat) (status : Nat) (hm : sub 73786976294838263808 mm = true) (hs : Only mm s0 s) :
    Only mm s0 (State.endStripe s x state outcome status) := by
  unfold State.endStripe
  try dsimp only
  repeat' first
    | (with_reducible first | assumption | apply only_ite | apply only_modList | apply only_emit | apply only_complete)
    | exact sub_trans rfl hm
    | (intro _; intros; try dsimp only)
    | split

theorem only_clearCkpt {s : State} (hm : sub 118240334828638629937 mm = true) (hs : Only mm s0 s) :
    Only mm s0 (State.clearCkpt s) := by
  unfold State.clearCkpt
  repeat' first
    | (with_reducible first | assumption | apply only_ite | apply only_writeBell | apply only_setFld)
    | exact sub_trans rfl hm
    | split

theorem only_finishAborts {s : State} (x : Stripe) (hm : sub 73786976294838214656 mm = true) (hs : Only mm s0 s) :
    Only mm s0 (State.finishAborts s x) := by
  unfold State.finishAborts
  try dsimp only
  repeat' first
    | (with_reducible first | assumption | apply only_complete | apply only_foldl)
    | exact sub_trans rfl hm
    | (intro _; intros; try dsimp only)

theorem only_markEnded {s : State} (x : Stripe) (hm : sub 49152 mm = true) (hs : Only mm s0 s) :
    Only mm s0 (State.markEnded s x) := by
  unfold State.markEnded
  try dsimp only
  repeat' first
    | (with_reducible first | assumption | apply only_ite | apply only_id | apply only_modJob)
    | exact sub_trans rfl hm
    | (intro _; intros; try dsimp only)
    | split

theorem only_abortNow {s : State} (x : Stripe) (hm : sub 118240336752787124273 mm = true) (hs : Only mm s0 s) :
    Only mm s0 (State.abortNow s x) := by
  unfold State.abortNow
  try dsimp only
  repeat' first
    | (with_reducible first | assumption | apply only_ite | apply only_endStripe | apply only_markEnded | apply only_droverTo)
    | (with_reducible first | apply only_clearCkpt | apply only_dropStripe | apply only_finishAborts)
    | exact sub_trans rfl hm
    | split

theorem only_abortHold {s : State} (x : Stripe) (hm : sub 112986315972690313217 mm = true) (hs : Only mm s0 s) :
    Only mm s0 (State.abortHold s x) := by
  unfold State.abortHold
  try dsimp only
  repeat' first
    | (with_reducible first | assumption | apply only_ite | apply only_shadeOn | apply only_allLanes | apply only_droverTo)
    | (with_reducible first | apply only_floodContain | apply only_modStripe | apply only_showStripes)
    | exact sub_trans rfl hm
    | (intro _; intros; try dsimp only)
    | with_reducible apply only_put4123168604160
    | split

theorem only_idleLanes {s : State} (hm : sub 73841021689389907968 mm = true) (hs : Only mm s0 s) :
    Only mm s0 (State.idleLanes s) := by
  unfold State.idleLanes
  try dsimp only
  repeat' first
    | (with_reducible first | assumption | apply only_ite | apply only_setLane | apply only_emit | apply only_laneComes | apply only_foldl)
    | exact sub_trans rfl hm
    | (intro _; intros; try dsimp only)
    | split

theorem only_dropFrames {s : State} (hm : sub 73841021689389907968 mm = true) (hs : Only mm s0 s) :
    Only mm s0 (State.dropFrames s) := by
  unfold State.dropFrames
  try dsimp only
  repeat' first
    | (with_reducible first | assumption | apply only_idleLanes)
    | exact sub_trans rfl hm
    | (intro _; intros; try dsimp only)
    | with_reducible apply only_put2199023255552

theorem only_freeSlot {s : State} (slot : Nat) (hm : sub 562949956878369 mm = true) (hs : Only mm s0 s) :
    Only mm s0 (State.freeSlot s slot) := by
  unfold State.freeSlot
  try dsimp only
  repeat' first
    | (with_reducible first | assumption | apply only_ite | apply only_commit | apply only_dropCtxs | apply only_setJob)
    | exact sub_trans rfl hm
    | (intro _; intros; try dsimp only)
    | with_reducible apply only_put262144
    | split

theorem only_closeDue {s : State} (slot : Nat) (hm : sub 73787539244795093025 mm = true) (hs : Only mm s0 s) :
    Only mm s0 (State.closeDue s slot) := by
  unfold State.closeDue
  try dsimp only
  repeat' first
    | (with_reducible first | assumption | apply only_ite | apply only_ran | apply only_freeSlot | apply only_complete)
    | exact sub_trans rfl hm
    | (intro _; intros; try dsimp only)
    | split

theorem only_endAborted {s : State} (ord : Nat) (hm : sub 73841586632215814177 mm = true) (hs : Only mm s0 s) :
    Only mm s0 (State.endAborted s ord) := by
  unfold State.endAborted
  try dsimp only
  repeat' first
    | (with_reducible first | assumption | apply only_ite | apply only_endStripe | apply only_markEnded | apply only_dropStripe)
    | (with_reducible first | apply only_finishAborts | apply only_dropFrames | apply only_closeDue)
    | exact sub_trans rfl hm
    | (intro _; intros; try dsimp only)
    | split

theorem only_abortSlot {s : State} (slot : Nat) (hm : sub 118240336752787386417 mm = true) (hs : Only mm s0 s) :
    Only mm s0 (State.abortSlot s slot) := by
  unfold State.abortSlot
  repeat' first
    | (with_reducible first | assumption | apply only_ite | apply only_abortHold | apply only_endAborted | apply only_abortNow)
    | (with_reducible first | apply only_foldl)
    | exact sub_trans rfl hm
    | (intro _; intros; try dsimp only)
    | split

theorem only_jobFatal {s : State} (slot : Nat) (code : Nat) (met : Nat) (kept : Bool) (hm : sub 118240336752787386417 mm = true) (hs : Only mm s0 s) :
    Only mm s0 (State.jobFatal s slot code met kept) := by
  unfold State.jobFatal
  try dsimp only
  repeat' first
    | (with_reducible first | assumption | apply only_ite | apply only_abortSlot | apply only_eventKept | apply only_event | apply only_commit)
    | (with_reducible first | apply only_modJob | apply only_ran | apply only_fail | apply only_foldl)
    | exact sub_trans rfl hm
    | (intro _; intros; try dsimp only)
    | split

theorem only_jobFatalRec {s : State} (slot : Nat) (a : RecArg) (met : Nat) (hm : sub 118240336752787386417 mm = true) (hs : Only mm s0 s) :
    Only mm s0 (State.jobFatalRec s slot a met) := by
  unfold State.jobFatalRec
  try dsimp only
  repeat' first
    | (with_reducible first | assumption | apply only_ite | apply only_record | apply only_jobFatal | apply only_complete)
    | exact sub_trans rfl hm
    | split

theorem only_rerequest {s : State} (slot : Nat) (block : Nat) (code : Nat) (hm : sub 118240336752787386417 mm = true) (hs : Only mm s0 s) :
    Only mm s0 (State.rerequest s slot block code) := by
  unfold State.rerequest
  try dsimp only
  repeat' first
    | (with_reducible first | assumption | apply only_ite | apply only_modJob | apply only_event | apply only_recordRaw | apply only_jobFatal)
    | exact sub_trans rfl hm
    | (intro _; intros; try dsimp only)
    | split

theorem only_readFailed {s : State} (k : Nat) (f : Frame) (code : Nat) (hm : sub 118240336752787386417 mm = true) (hs : Only mm s0 s) :
    Only mm s0 (State.readFailed s k f code) := by
  unfold State.readFailed
  try dsimp only
  repeat' first
    | (with_reducible first | assumption | apply only_ite | apply only_rerequest)
    | exact sub_trans rfl hm
    | with_reducible apply only_put262144
    | split

theorem only_blockDamaged {s : State} (slot : Nat) (code : Nat) (off : Nat) (block : Nat) (hm : sub 118240336752787386417 mm = true) (hs : Only mm s0 s) :
    Only mm s0 (State.blockDamaged s slot code off block) := by
  unfold State.blockDamaged
  try dsimp only
  repeat' first
    | (with_reducible first | assumption | apply only_ite | apply only_record | apply only_readFailed)
    | exact sub_trans rfl hm
    | split

end Sys2Proof.Machine
end

