-- ==== Sys2Proof/Laws/Ended.lean ====
section
/-! SUPPORT. How a command ends: its completion entry is written or waits for its turn (R419, R422, R423). -/

namespace Sys2Proof.Machine

theorem numbered_unique {cmds : List Cmd} {next : Nat} (h : numbered cmds next) {a b : Cmd} (ha : a ∈ cmds) (hb : b ∈ cmds)
    (e : a.n = b.n) : a = b := by
  have h1 : (cmds.map (·.n)).Pairwise (· < ·) := h.sublist (List.sublist_append_left _ _)
  rw [List.pairwise_map] at h1
  clear h
  induction cmds with
  | nil => cases ha
  | cons c l ih =>
    rw [List.pairwise_cons] at h1
    rcases List.mem_cons.mp ha with ha | ha <;> rcases List.mem_cons.mp hb with hb | hb
    · rw [ha, hb]
    · have := h1.1 b hb
      rw [ha] at e
      omega
    · have := h1.1 a ha
      rw [hb] at e
      omega
    · exact ih ha hb h1.2

/-- The command found by a number is in execution under it. -/
theorem cmd?_some {s : State} {n : Nat} {c : Cmd} (h : s.cmd? n = some c) : c ∈ s.host.cmds ∧ c.n = n :=
  ⟨List.mem_of_find?_eq_some h, by simpa using List.find?_some h⟩

theorem cmd?_of_mem {s : State} {c : Cmd} (hn : numbered s.host.cmds s.host.nextCmd) (h : c ∈ s.host.cmds) : s.cmd? c.n = some c := by
  unfold State.cmd?
  cases e : s.host.cmds.find? (fun x => decide (x.n = c.n)) with
  | none =>
    rw [List.find?_eq_none] at e
    have := e c h
    simp at this
  | some x =>
    rw [numbered_unique hn (List.mem_of_find?_eq_some e) h (by simpa using List.find?_some e)]

/-- A change of every command of a number changes the one found by it. -/
theorem cmd?_setCmd {s : State} {n : Nat} {c : Cmd} {f : Cmd → Cmd} (hf : ∀ x, (f x).n = x.n) (h : s.cmd? n = some c) :
    (s.setCmd n f).cmd? n = some (f c) := by
  unfold State.cmd? at *
  unfold State.setCmd
  dsimp only
  generalize s.host.cmds = l at *
  induction l with
  | nil => cases h
  | cons a l ih =>
    rw [List.map_cons, List.find?_cons]
    rw [List.find?_cons] at h
    by_cases e : a.n = n
    · simp only [e, decide_true, Option.some.injEq] at h
      subst h
      simp [e, hf]
    · simp only [e, decide_false] at h
      simp only [e, if_false, decide_false]
      exact ih h

theorem nextDone_some {s : State} {q : Nat} {c : Cmd} {d : Nat × Nat × Nat × Nat × Nat} (h : s.nextDone q = some (c, d)) :
    c ∈ s.host.cmds ∧ c.sq = q ∧ c.done = some d := by
  revert h
  unfold State.nextDone
  split
  · intro h; cases h
  · rename_i x hx
    split
    · intro h; cases h
    · rename_i e he
      split
      · intro h; cases h
      · intro h
        cases h
        exact ⟨List.mem_of_find?_eq_some hx, by simpa using List.find?_some hx, he⟩

theorem writeCompletion_cmds (s : State) (q : Nat) (c : Cmd) (d : Nat × Nat × Nat × Nat × Nat) :
    (s.writeCompletion q c d).host.cmds = s.host.cmds.filter (fun y => y.n ≠ c.n) := by
  unfold State.writeCompletion
  dsimp only
  split <;> rfl

theorem writeCompletion_next (s : State) (q : Nat) (c : Cmd) (d : Nat × Nat × Nat × Nat × Nat) :
    (s.writeCompletion q c d).host.nextCmd = s.host.nextCmd := by
  unfold State.writeCompletion
  dsimp only
  split <;> rfl

theorem writeCompletion_out (s : State) (q : Nat) (c : Cmd) (d : Nat × Nat × Nat × Nat × Nat) :
    ∃ l, (s.writeCompletion q c d).out = l ++ s.out ∧
      Out.completion q (s.queue q).cqTail (complWords c d c.head (s.queue q).phase) ∈ l := by
  unfold State.writeCompletion
  dsimp only
  split
  · exact ⟨[_, Out.completion q (s.queue q).cqTail (complWords c d c.head (s.queue q).phase)], rfl, by simp⟩
  · exact ⟨[Out.completion q (s.queue q).cqTail (complWords c d c.head (s.queue q).phase)], rfl, by simp⟩

theorem drainCq_out : ∀ (f : Nat) (s : State), s.out <:+ (State.drainCq f s).out
  | 0, s => List.suffix_refl _
  | f + 1, s => by
    unfold State.drainCq
    split
    · exact List.suffix_refl _
    · split
      · exact List.suffix_refl _
      · rename_i q _ _ c d _
        obtain ⟨l, hl, _⟩ := writeCompletion_out s q c d
        exact (hl ▸ List.suffix_append l s.out).trans (drainCq_out f _)

/-- What drains keeps an ended command ended. -/
theorem ended_drainCq (c : Cmd) (r : Nat × Nat × Nat × Nat × Nat) : ∀ (f : Nat) (s0 s : State), numbered s.host.cmds s.host.nextCmd →
    s0.out <:+ s.out → s0.ended s c r.1 r.2.1 r.2.2.1 r.2.2.2.1 r.2.2.2.2 →
    s0.ended (State.drainCq f s) c r.1 r.2.1 r.2.2.1 r.2.2.2.1 r.2.2.2.2
  | 0, _, _, _, _, h => h
  | f + 1, s0, s, hn, ho, h => by
    unfold State.drainCq
    split
    · exact h
    · rename_i q hq
      split
      · exact h
      · rename_i k d hk
        obtain ⟨l, hl, hmem⟩ := writeCompletion_out s q k d
        obtain ⟨l0, hl0⟩ := ho
        obtain ⟨hkm, hkq, hkd⟩ := nextDone_some hk
        have hn' : numbered (s.writeCompletion q k d).host.cmds (s.writeCompletion q k d).host.nextCmd := by
          rw [writeCompletion_cmds, writeCompletion_next]
          exact numbered_filter _ hn
        have ho' : s0.out <:+ (s.writeCompletion q k d).out := by
          rw [hl, ← hl0, ← List.append_assoc]
          exact List.suffix_append _ _
        refine ended_drainCq c r f s0 _ hn' ho' ?_
        rcases h with ⟨x, hx, hxq, hxc, hxd⟩ | ⟨x, slot, head, phase, l1, hxq, hxc, hl1, hm⟩
        · obtain ⟨hxm, hxn⟩ := cmd?_some hx
          by_cases e : k.n = x.n
          · have ek := numbered_unique hn hkm hxm e
            subst ek
            rw [hkd] at hxd
            cases hxd
            refine Or.inr ⟨k, (s.queue q).cqTail, k.head, (s.queue q).phase, l ++ l0, hxq, hxc, ?_, List.mem_append_left _ ?_⟩
            · rw [hl, ← hl0, List.append_assoc]
            · rw [← hxq, hkq]
              exact hmem
          · refine Or.inl ⟨x, ?_, hxq, hxc, hxd⟩
            rw [← hxn]
            refine cmd?_of_mem hn' ?_
            rw [writeCompletion_cmds]
            exact List.mem_filter.mpr ⟨hxm, by simpa using fun e' => e e'.symm⟩
        · refine Or.inr ⟨x, slot, head, phase, l ++ l1, hxq, hxc, ?_, List.mem_append_right _ hm⟩
          rw [hl, hl1, List.append_assoc]

/-- A command that completes has ended. -/
theorem ended_complete {s0 s : State} {n : Nat} {c x : Cmd} (status r0 r1 r2 r3 : Nat) (hn : numbered s.host.cmds s.host.nextCmd)
    (ho : s0.out <:+ s.out) (hx : s.cmd? n = some x) (hd : x.done = none) (h1 : x.n = c.n) (h2 : x.sq = c.sq) (h3 : x.cid = c.cid) :
    s0.ended (s.complete n status r0 r1 r2 r3) c status r0 r1 r2 r3 := by
  unfold State.complete State.drain
  have hf : ∀ y : Cmd, (if y.done.isSome then y else { y with done := some (status, r0, r1, r2, r3), ran := true }).n = y.n := fun y => by
    split <;> rfl
  have hc := cmd?_setCmd hf hx
  have ec : (if x.done.isSome then x else { x with done := some (status, r0, r1, r2, r3), ran := true }) =
      { x with done := some (status, r0, r1, r2, r3), ran := true } := by simp [hd]
  rw [ec] at hc
  refine ended_drainCq c (status, r0, r1, r2, r3) _ _ _ (numbered_map (fun y => by split <;> simp [hf]) hn) ho (Or.inl
    ⟨{ x with done := some (status, r0, r1, r2, r3), ran := true }, ?_, h2, h3, rfl⟩)
  rw [h1.symm.trans (cmd?_some hx).2]
  exact hc

/-- The commands after a record: as before, but for the error charged to the one that met it. -/
theorem cmds_writeRec (s : State) (a : RecArg) : (s.writeRec a).host.cmds =
    match a.cmd with
    | none => s.host.cmds
    | some i => s.host.cmds.map (fun c => if c.n = i then c.charge (s.mkRec a).seq else c) := by
  have hl : (s.logRec (s.mkRec a)).host = s.host := (only_logRec (mm := 17) (s0 := s) _ rfl (only_refl _ _)).host rfl
  unfold State.writeRec
  dsimp only
  have tail : ∀ u : State, Only 78398662313265594369 u (if a.cls ≥ 2 ∧ a.cls ≤ 4 then
      (((((u.pageErr a.page (s.mkRec a).seq (s.mkRec a).code).traceRec a.page 1 (s.mkRec a).code
        [(s.mkRec a).seq, (s.mkRec a).loc0, (s.mkRec a).loc1, (s.mkRec a).loc2]).traceTrigger a.code).raiseIrq a.page 31).raiseIrq 0 0)
      else ((((u.pageErr a.page (s.mkRec a).seq (s.mkRec a).code).traceRec a.page 1 (s.mkRec a).code
        [(s.mkRec a).seq, (s.mkRec a).loc0, (s.mkRec a).loc1, (s.mkRec a).loc2]).traceTrigger a.code).raiseIrq a.page 31)) := by
    intro u
    have h := only_raiseIrq (s0 := u) (mm := 78398662313265594369) a.page 31 rfl (only_traceTrigger a.code rfl (only_traceRec a.page 1
      (s.mkRec a).code [(s.mkRec a).seq, (s.mkRec a).loc0, (s.mkRec a).loc1, (s.mkRec a).loc2] rfl
      (only_pageErr a.page (s.mkRec a).seq (s.mkRec a).code rfl (only_refl _ u))))
    exact only_ite (only_raiseIrq _ _ rfl h) h
  rw [(tail _).host rfl]
  cases a.cmd with
  | none => dsimp only; rw [hl]
  | some i => dsimp only [State.setCmd]; rw [hl]

/-- A record leaves the commands as they are, but for the errors charged to them. -/
theorem cmd?_recordRaw {s : State} (a : RecArg) {n : Nat} {c : Cmd} (h : s.cmd? n = some c) :
    ∃ x, (s.recordRaw a).cmd? n = some x ∧ x.n = c.n ∧ x.sq = c.sq ∧ x.cid = c.cid ∧ x.done = c.done := by
  have hw : ∀ (u : State) (b : RecArg), u.host.cmds = s.host.cmds →
      ∃ x, (u.writeRec b).cmd? n = some x ∧ x.n = c.n ∧ x.sq = c.sq ∧ x.cid = c.cid ∧ x.done = c.done := by
    intro u b hu
    unfold State.cmd? at *
    rw [cmds_writeRec, hu]
    cases b.cmd with
    | none => exact ⟨c, h, rfl, rfl, rfl, rfl⟩
    | some i =>
      dsimp only
      generalize s.host.cmds = l at h
      induction l with
      | nil => cases h
      | cons y l ih =>
        rw [List.map_cons, List.find?_cons]
        rw [List.find?_cons] at h
        have hy : (if y.n = i then y.charge (u.mkRec b).seq else y).n = y.n := by split <;> rfl
        by_cases e1 : y.n = n
        · simp only [e1, decide_true, Option.some.injEq] at h
          subst h
          rw [hy, e1, decide_eq_true (rfl : n = n)]
          refine ⟨_, rfl, ?_, ?_, ?_, ?_⟩ <;> split <;> first | rfl | exact e1 | exact e1.symm
        · simp only [e1, decide_false] at h
          simp only [hy, e1, decide_false]
          exact ih h
  have hc : ∀ p, (s.countOnly p).host.cmds = s.host.cmds := fun p => by
    rw [(only_countOnly (mm := 4611686018427387905) (s0 := s) p rfl (only_refl _ _)).host rfl]
  have hk : ∀ u : State, u.host.cmds = s.host.cmds → u.cmd? n = some c := fun u e => by unfold State.cmd? at *; rw [e]; exact h
  unfold State.recordRaw
  dsimp only
  split
  · split
    · exact ⟨c, hk _ (hc _), rfl, rfl, rfl, rfl⟩
    · obtain ⟨x, hx, hr⟩ := hw { s.countOnly a.page with log := { (s.countOnly a.page).log with lowSent := true } }
        { code := Code.SYS_ERRLOG_LOW, cls := 0 } (hc _)
      refine ⟨x, ?_, hr⟩
      rw [← hx]
      unfold State.cmd?
      rw [(only_raiseIrq (mm := 73786976294838206465) (s0 := State.writeRec { s.countOnly a.page with
        log := { (s.countOnly a.page).log with lowSent := true } } { code := Code.SYS_ERRLOG_LOW, cls := 0 }) 0 1 rfl (only_refl _ _)).host rfl]
  · split
    · exact ⟨c, hk _ (hc _), rfl, rfl, rfl, rfl⟩
    · exact hw s a rfl

/-- A command that fails has ended with its code. -/
theorem ended_fail {s0 s : State} {n : Nat} {c x : Cmd} (code lk l0 l1 l2 : Nat) (hn : Keeps s.pending s0.out s)
    (hx : s.cmd? n = some x) (hd : x.done = none) (h1 : x.n = c.n) (h2 : x.sq = c.sq) (h3 : x.cid = c.cid) :
    s0.ended (s.fail n code lk l0 l1 l2) c code 0 0 0 0 := by
  unfold State.fail
  obtain ⟨y, hy, e1, e2, e3, e4⟩ := cmd?_recordRaw { code, cls := 7, origin := .operator, lk, l0, l1, l2, cmd := some n } hx
  have hk := (keeps_recordRaw { code, cls := 7, origin := .operator, lk, l0, l1, l2, cmd := some n } hn).ok
  exact ended_complete _ _ _ _ _ hk.cmds hk.out hy (e4.trans hd) (e1.trans h1) (e2.trans h2) (e3.trans h3)

end Sys2Proof.Machine
end

