-- ==== Sys2Proof/Laws/KeepsRegs.lean ====
section
/-! SUPPORT. Each operation of Machine/Regs.lean keeps what Keeps says. -/

set_option linter.unusedVariables false
set_option linter.tactic.unusedName false

namespace Sys2Proof.Machine

variable {qq : List Instr} {oo : List Out}

theorem keeps_refuse {s : State} (o : Origin) (code : Nat) (a : RegAddr) (v : Nat) (det : Option Nat) (hs : Keeps qq oo s) : Keeps qq oo (State.refuse s o code a v det) := by
  unfold State.refuse
  repeat' first
    | (with_reducible first | assumption | apply keeps_record)
    | (with_reducible apply Keeps.mk; dsimp only; with_reducible apply Keeps.ok)

theorem keeps_permit_ok {s t : State} {o : Origin} {a : RegAddr} {v : Nat} (h : Keeps qq oo s) (e : s.permit o a v = .ok t) :
    Keeps qq oo t := by
  revert e
  unfold State.permit
  repeat' first
    | (intro e; injection e with e; rw [← e]; exact h)
    | (intro e; cases e)
    | split
theorem keeps_permit_error {s t : State} {o : Origin} {a : RegAddr} {v : Nat} (h : Keeps qq oo s) (e : s.permit o a v = .error t) :
    Keeps qq oo t := by
  revert e
  unfold State.permit
  repeat' first
    | (intro e; cases e; done)
    | (intro e; cases e; exact h)
    | (intro e; injection e with e; rw [← e]; exact keeps_refuse _ _ _ _ _ h)
    | split

theorem keeps_change {s : State} (o : Origin) (a : RegAddr) (old : Nat) (new : Nat) {put : State → State} (hs : Keeps qq oo s) (hput : ∀ t, Keeps qq oo t → Keeps qq oo (put t)) : Keeps qq oo (State.change s o a old new put) := by
  unfold State.change
  repeat' first
    | (with_reducible first | assumption | apply keeps_ite | apply hput | apply keeps_traceRec | apply keeps_refuse | apply keeps_countFull)
    | (with_reducible first | apply keeps_commit)
    | split

theorem keeps_setReg {s : State} (o : Origin) (a : RegAddr) (new : Nat) (hs : Keeps qq oo s) : Keeps qq oo (State.setReg s o a new) := by
  unfold State.setReg
  repeat' first
    | (with_reducible first | assumption | apply keeps_change | apply keeps_wr)
    | (intro _; intros; try dsimp only)

theorem keeps_hold1 {s : State} (o : Origin) (a : RegAddr) (v : Nat) (hs : Keeps qq oo s) : Keeps qq oo (State.hold1 s o a v) := by
  unfold State.hold1
  try dsimp only
  repeat' first
    | (with_reducible first | assumption)
    | (with_reducible apply Keeps.mk; dsimp only; with_reducible apply Keeps.ok)

theorem keeps_dropHeld {s : State} (o : Origin) (g : List RegAddr) (hs : Keeps qq oo s) : Keeps qq oo (State.dropHeld s o g) := by
  unfold State.dropHeld
  try dsimp only
  repeat' first
    | (with_reducible first | assumption | apply keeps_foldl)
    | (with_reducible apply Keeps.mk; dsimp only; with_reducible apply Keeps.ok)
    | (intro _; intros; try dsimp only)

theorem keeps_commitGroup {s : State} (o : Origin) (g : List RegAddr) (a : RegAddr) (v : Nat) (hs : Keeps qq oo s) : Keeps qq oo (State.commitGroup s o g a v) := by
  unfold State.commitGroup
  try dsimp only
  repeat' first
    | (with_reducible first | assumption | apply keeps_ite | apply keeps_setReg | apply keeps_dropHeld | apply keeps_refuse)
    | (with_reducible first | apply keeps_countFull | apply keeps_foldl)
    | (with_reducible apply Keeps.mk; dsimp only; with_reducible apply Keeps.ok)
    | (intro _; intros; try dsimp only)
    | split

theorem keeps_applyWrite {s : State} (o : Origin) (a : RegAddr) (v : Nat) (hs : Keeps qq oo s) : Keeps qq oo (State.applyWrite s o a v) := by
  unfold State.applyWrite
  try dsimp only
  repeat' first
    | (with_reducible first | assumption | apply keeps_ite | apply keeps_setReg | apply keeps_commitGroup | apply keeps_hold1)
    | (with_reducible apply Keeps.mk; dsimp only; with_reducible apply Keeps.ok)
    | split

theorem keeps_act {s : State} (o : Origin) (a : RegAddr) (v : Nat) {effect : State → State} (hs : Keeps qq oo s) (heffect : ∀ t, Keeps qq oo t → Keeps qq oo (effect t)) : Keeps qq oo (State.act s o a v effect) := by
  unfold State.act
  try dsimp only
  repeat' first
    | (with_reducible first | assumption | apply heffect | apply keeps_traceRec)
    | (with_reducible apply Keeps.mk; dsimp only; with_reducible apply Keeps.ok)
    | (refine keeps_permit_ok (h := ?_) (e := by assumption))
    | (refine keeps_permit_error (h := ?_) (e := by assumption))
    | split

end Sys2Proof.Machine
end

