-- ==== Sys2Proof/Laws/KeepsSram.lean ====
section
/-! SUPPORT. Each operation of Machine/Sram.lean keeps what Keeps says. -/

set_option linter.unusedVariables false
set_option linter.tactic.unusedName false

namespace Sys2Proof.Machine

variable {qq : List Instr} {oo : List Out}

theorem keeps_setHurdle {s : State} (line : Nat) (hs : Keeps qq oo s) : Keeps qq oo (State.setHurdle s line) := by
  unfold State.setHurdle
  try dsimp only
  repeat' first
    | (with_reducible first | assumption | apply keeps_putKeep | apply keeps_writeBell | apply keeps_record)
    | (with_reducible apply Keeps.mk; dsimp only; with_reducible apply Keeps.ok)

theorem keeps_recordFence {s : State} (i : Nat) (f : FenceE) (hs : Keeps qq oo s) : Keeps qq oo (State.recordFence s i f) := by
  unfold State.recordFence
  try dsimp only
  repeat' first
    | (with_reducible first | assumption | apply keeps_putKeep | apply keeps_commit | apply keeps_record)
    | (with_reducible apply Keeps.mk; dsimp only; with_reducible apply Keeps.ok)

theorem keeps_setFence {s : State} (block : Nat) (hs : Keeps qq oo s) : Keeps qq oo (State.setFence s block) := by
  unfold State.setFence
  try dsimp only
  repeat' first
    | (with_reducible first | assumption | apply keeps_ite | apply keeps_recordFence)
    | (with_reducible apply Keeps.mk; dsimp only; with_reducible apply Keeps.ok)
    | (intro _; intros; try dsimp only)
    | split

theorem keeps_moveBlock {s : State} (block : Nat) (hs : Keeps qq oo s) : Keeps qq oo (State.moveBlock s block) := by
  unfold State.moveBlock
  try dsimp only
  repeat' first
    | (with_reducible first | assumption | apply keeps_ite)
    | (with_reducible apply Keeps.mk; dsimp only; with_reducible apply Keeps.ok)
    | (intro _; intros; try dsimp only)
    | split

theorem keeps_leaveLine {s : State} (line : Nat) (hs : Keeps qq oo s) : Keeps qq oo (State.leaveLine s line) := by
  unfold State.leaveLine
  try dsimp only
  repeat' first
    | (with_reducible first | assumption | apply keeps_ite | apply keeps_wr | apply keeps_record)
    | (with_reducible apply Keeps.mk; dsimp only; with_reducible apply Keeps.ok)
    | split

theorem keeps_repairLine {s : State} (line : Nat) (hs : Keeps qq oo s) : Keeps qq oo (State.repairLine s line) := by
  unfold State.repairLine
  try dsimp only
  repeat' first
    | (with_reducible first | assumption | apply keeps_ite | apply keeps_setHurdle | apply keeps_setFence | apply keeps_leaveLine)
    | (with_reducible first | apply keeps_moveBlock)
    | (with_reducible apply Keeps.mk; dsimp only; with_reducible apply Keeps.ok)
    | split

theorem keeps_retireHurdle {s : State} (i : Nat) (line : Nat) (hs : Keeps qq oo s) : Keeps qq oo (State.retireHurdle s i line) := by
  unfold State.retireHurdle
  try dsimp only
  repeat' first
    | (with_reducible first | assumption | apply keeps_ite | apply keeps_putKeep | apply keeps_writeBell | apply keeps_record)
    | (with_reducible apply Keeps.mk; dsimp only; with_reducible apply Keeps.ok)
    | (intro _; intros; try dsimp only)
    | split

theorem keeps_judgeLine {s : State} (line : Nat) (hs : Keeps qq oo s) : Keeps qq oo (State.judgeLine s line) := by
  unfold State.judgeLine
  try dsimp only
  repeat' first
    | (with_reducible first | assumption | apply keeps_record | apply keeps_retireHurdle | apply keeps_repairLine)
    | (with_reducible apply Keeps.mk; dsimp only; with_reducible apply Keeps.ok)
    | split

theorem keeps_loseLine {s : State} (line : Nat) (hs : Keeps qq oo s) : Keeps qq oo (State.loseLine s line) := by
  unfold State.loseLine
  try dsimp only
  repeat' first
    | (with_reducible first | assumption | apply keeps_ite | apply keeps_record | apply keeps_commit | apply keeps_foldl)
    | (with_reducible apply Keeps.mk; dsimp only; with_reducible apply Keeps.ok)
    | (intro _; intros; try dsimp only)
    | split

theorem keeps_sramErr {s : State} (e : SramErr) (hs : Keeps qq oo s) : Keeps qq oo (State.sramErr s e) := by
  unfold State.sramErr
  try dsimp only
  repeat' first
    | (with_reducible first | assumption | apply keeps_ite | apply keeps_wr | apply keeps_inc | apply keeps_record | apply keeps_loseLine)
    | (with_reducible first | apply keeps_take | apply keeps_judgeLine)
    | (with_reducible apply Keeps.mk; dsimp only; with_reducible apply Keeps.ok)
    | (intro _; intros; try dsimp only)
    | split

theorem keeps_sramErrs {s : State} (l : List SramErr) (hs : Keeps qq oo s) : Keeps qq oo (State.sramErrs s l) := by
  unfold State.sramErrs
  repeat' first
    | (with_reducible first | assumption | apply keeps_sramErr | apply keeps_foldl)
    | (intro _; intros; try dsimp only)

theorem keeps_startFill {s : State} (o : Origin) (v : Nat) (hs : Keeps qq oo s) : Keeps qq oo (State.startFill s o v) := by
  unfold State.startFill
  try dsimp only
  repeat' first
    | (with_reducible first | assumption | apply keeps_ite | apply keeps_setReg | apply keeps_refuse | apply keeps_setFld)
    | (with_reducible apply Keeps.mk; dsimp only; with_reducible apply Keeps.ok)
    | (intro _; intros; try dsimp only)
    | split

theorem keeps_execFill (o : Origin) (v : Nat) {s : State} (hs : Keeps qq oo s) : KeepsOut qq oo (execFill o v s) := by
  unfold execFill
  try dsimp only
  repeat' first
    | (with_reducible first | assumption | exact trivial | apply keepsOut_next | apply keepsOut_ite | apply keeps_ite | apply keeps_refuse)
    | (with_reducible first | apply keeps_startFill)
    | (with_reducible apply Keeps.mk; dsimp only; with_reducible apply Keeps.ok)
    | (refine keeps_permit_ok (h := ?_) (e := by assumption))
    | (refine keeps_permit_error (h := ?_) (e := by assumption))
    | split

theorem keeps_clearRegion {s : State} (g : Nat) (hs : Keeps qq oo s) : Keeps qq oo (State.clearRegion s g) := by
  unfold State.clearRegion
  try dsimp only
  repeat' first
    | (with_reducible first | assumption | apply keeps_modJob)
    | (with_reducible apply Keeps.mk; dsimp only; with_reducible apply Keeps.ok)
    | (intro _; intros; try dsimp only)
    | exact ⟨{ hs.ok with pool := Nat.zero_le _ }⟩
    | split

theorem keeps_mapsAnew {s : State} (hs : Keeps qq oo s) : Keeps qq oo (State.mapsAnew s) := by
  unfold State.mapsAnew
  try dsimp only
  repeat' first
    | (with_reducible first | assumption | apply keeps_ite | apply keeps_putKeep)
    | (with_reducible apply Keeps.mk; dsimp only; with_reducible apply Keeps.ok)
    | split

theorem keeps_execFillDone (bad : List Nat) {s : State} (hs : Keeps qq oo s) : KeepsOut qq oo (execFillDone bad s) := by
  unfold execFillDone
  try dsimp only
  repeat' first
    | (with_reducible first | assumption | exact trivial | apply keepsOut_next | apply keepsOut_ite | apply keeps_ite | apply keeps_judgeLine)
    | (with_reducible first | apply keeps_clearRegion | apply keeps_mapsAnew | apply keeps_setFld | apply keeps_foldl)
    | (with_reducible apply Keeps.mk; dsimp only; with_reducible apply Keeps.ok)
    | (intro _; intros; try dsimp only)
    | split

theorem keeps_execFenceMoveDone {s : State} (hs : Keeps qq oo s) : KeepsOut qq oo (execFenceMoveDone s) := by
  unfold execFenceMoveDone
  try dsimp only
  repeat' first
    | (with_reducible first | assumption | exact trivial | apply keepsOut_next | apply keepsOut_ite | apply keeps_ite | apply keeps_recordFence)
    | (with_reducible apply Keeps.mk; dsimp only; with_reducible apply Keeps.ok)
    | (intro _; intros; try dsimp only)
    | split

theorem keeps_fencesAtBoundary {s : State} (hs : Keeps qq oo s) : Keeps qq oo (State.fencesAtBoundary s) := by
  unfold State.fencesAtBoundary
  try dsimp only
  repeat' first
    | (with_reducible first | assumption | apply keeps_ite)
    | (with_reducible apply Keeps.mk; dsimp only; with_reducible apply Keeps.ok)
    | (intro _; intros; try dsimp only)
    | split

theorem keeps_fencesAtEnable {s : State} (hs : Keeps qq oo s) : Keeps qq oo (State.fencesAtEnable s) := by
  unfold State.fencesAtEnable
  try dsimp only
  repeat' first
    | (with_reducible first | assumption | apply keeps_ite)
    | (with_reducible apply Keeps.mk; dsimp only; with_reducible apply Keeps.ok)
    | (intro _; intros; try dsimp only)
    | split

theorem keeps_voteWord {s : State} (n : Nat) (copies : List (BitVec 64 × BitVec 8)) (hs : Keeps qq oo s) : Keeps qq oo (State.voteWord s n copies) := by
  unfold State.voteWord
  try dsimp only
  repeat' first
    | (with_reducible first | assumption | apply keeps_ite | apply keeps_deviceFatal | apply keeps_putBell | apply keeps_commit)
    | (with_reducible first | apply keeps_bump | apply keeps_record)
    | (with_reducible apply Keeps.mk; dsimp only; with_reducible apply Keeps.ok)
    | split

theorem keeps_voteAll {s : State} (found : List (Nat × List (BitVec 64 × BitVec 8))) (hs : Keeps qq oo s) : Keeps qq oo (State.voteAll s found) := by
  unfold State.voteAll
  try dsimp only
  repeat' first
    | (with_reducible first | assumption | apply keeps_ite | apply keeps_voteWord | apply keeps_foldl)
    | (intro _; intros; try dsimp only)
    | split

theorem keeps_execBellVote (found : List (Nat × List (BitVec 64 × BitVec 8))) (stuck : List (Nat × Nat)) {s : State} (hs : Keeps qq oo s) : KeepsOut qq oo (execBellVote found stuck s) := by
  unfold execBellVote
  try dsimp only
  repeat' first
    | (with_reducible first | assumption | exact trivial | apply keepsOut_next | apply keepsOut_ite | apply keeps_ite | apply keeps_voteAll)
    | (with_reducible apply Keeps.mk; dsimp only; with_reducible apply Keeps.ok)
    | (intro _; intros; try dsimp only)
    | split

end Sys2Proof.Machine
end

