-- ==== Sys2Proof/Laws/KeepsKeep.lean ====
section
/-! SUPPORT. Each operation of Machine/Keep.lean keeps what Keeps says. -/

set_option linter.unusedVariables false
set_option linter.tactic.unusedName false

namespace Sys2Proof.Machine

variable {qq : List Instr} {oo : List Out}

theorem keeps_showAge {s : State} (hs : Keeps qq oo s) : Keeps qq oo (State.showAge s) := by
  unfold State.showAge
  try dsimp only
  repeat' first
    | (with_reducible first | assumption | apply keeps_wr64 | apply keeps_setFld | apply keeps_wr | apply keeps_foldl)
    | (with_reducible apply Keeps.mk; dsimp only; with_reducible apply Keeps.ok)
    | (intro _; intros; try dsimp only)

theorem keeps_loadStrobes {s : State} (hs : Keeps qq oo s) : Keeps qq oo (State.loadStrobes s) := by
  unfold State.loadStrobes
  try dsimp only
  repeat' first
    | (with_reducible first | assumption | apply keeps_wr)
    | (with_reducible apply Keeps.mk; dsimp only; with_reducible apply Keeps.ok)
    | split

theorem keeps_loadEnc {s : State} (ch : Nat) (hs : Keeps qq oo s) : Keeps qq oo (State.loadEnc s ch) := by
  unfold State.loadEnc
  try dsimp only
  repeat' first
    | (with_reducible first | assumption)
    | (with_reducible apply Keeps.mk; dsimp only; with_reducible apply Keeps.ok)
    | (intro _; intros; try dsimp only)

theorem keeps_keepBoundary {s : State} (hs : Keeps qq oo s) : Keeps qq oo (State.keepBoundary s) := by
  unfold State.keepBoundary
  try dsimp only
  repeat' first
    | (with_reducible first | assumption | apply keeps_ite | apply keeps_setFld | apply keeps_loadStrobes | apply keeps_loadEnc)
    | (with_reducible first | apply keeps_showAge | apply keeps_foldl)
    | (with_reducible apply Keeps.mk; dsimp only; with_reducible apply Keeps.ok)
    | (intro _; intros; try dsimp only)
    | split

theorem keeps_keepNow {s : State} (hs : Keeps qq oo s) : Keeps qq oo (State.keepNow s) := by
  unfold State.keepNow
  repeat' first
    | (with_reducible first | assumption | apply keeps_ite | apply keeps_keepBoundary)
    | split

theorem keeps_markRecord {s : State} (r : KeepRec) (ok : Bool) (hs : Keeps qq oo s) : Keeps qq oo (State.markRecord s r ok) := by
  unfold State.markRecord
  try dsimp only
  repeat' first
    | (with_reducible first | assumption | apply keeps_ite)
    | (with_reducible apply Keeps.mk; dsimp only; with_reducible apply Keeps.ok)
    | (intro _; intros; try dsimp only)
    | split

theorem keeps_loseRecord {s : State} (r : KeepRec) (hs : Keeps qq oo s) : Keeps qq oo (State.loseRecord s r) := by
  unfold State.loseRecord
  try dsimp only
  repeat' first
    | (with_reducible first | assumption | apply keeps_ite | apply keeps_markRecord | apply keeps_bump | apply keeps_record)
    | (with_reducible first | apply keeps_keepWaits)
    | (with_reducible apply Keeps.mk; dsimp only; with_reducible apply Keeps.ok)
    | split

theorem keeps_mendRecord {s : State} (r : KeepRec) (hs : Keeps qq oo s) : Keeps qq oo (State.mendRecord s r) := by
  unfold State.mendRecord
  try dsimp only
  repeat' first
    | (with_reducible first | assumption | apply keeps_markRecord | apply keeps_inc | apply keeps_commit | apply keeps_record)
    | (with_reducible apply Keeps.mk; dsimp only; with_reducible apply Keeps.ok)

theorem keeps_cutRecord {s : State} (c : Nat × Nat × List Byte) (hs : Keeps qq oo s) : Keeps qq oo (State.cutRecord s c) := by
  unfold State.cutRecord
  try dsimp only
  repeat' first
    | (with_reducible first | assumption | apply keeps_ite)
    | (with_reducible apply Keeps.mk; dsimp only; with_reducible apply Keeps.ok)
    | (intro _; intros; try dsimp only)
    | split

theorem keeps_takeAhead {s : State} (r : KeepRec) (bad0 : Bool) (hs : Keeps qq oo s) : Keeps qq oo (State.takeAhead s r bad0).1 := by
  unfold State.takeAhead
  try dsimp only
  repeat' first
    | (with_reducible first | assumption | apply keeps_ite)
    | (with_reducible apply Keeps.mk; dsimp only; with_reducible apply Keeps.ok)
    | (intro _; intros; try dsimp only)
    | split

theorem keeps_checkRecord {s : State} (bad : List (Nat × Nat)) (r : KeepRec) (hs : Keeps qq oo s) : Keeps qq oo (State.checkRecord s bad r) := by
  unfold State.checkRecord
  try dsimp only
  repeat' first
    | (with_reducible first | assumption | apply keeps_ite | apply keeps_takeAhead | apply keeps_loseRecord | apply keeps_mendRecord)
    | (with_reducible apply Keeps.mk; dsimp only; with_reducible apply Keeps.ok)
    | split

theorem keeps_checkKeep {s : State} (bad : List (Nat × Nat)) (hs : Keeps qq oo s) : Keeps qq oo (State.checkKeep s bad) := by
  unfold State.checkKeep
  try dsimp only
  repeat' first
    | (with_reducible first | assumption | apply keeps_ite | apply keeps_deviceFatal | apply keeps_inc | apply keeps_record)
    | (with_reducible first | apply keeps_checkRecord | apply keeps_keepNow | apply keeps_foldl)
    | (with_reducible apply Keeps.mk; dsimp only; with_reducible apply Keeps.ok)
    | (intro _; intros; try dsimp only)
    | split

theorem keeps_execKeepDailyCheck (bad : List (Nat × Nat)) {s : State} (hs : Keeps qq oo s) : KeepsOut qq oo (execKeepDailyCheck bad s) := by
  unfold execKeepDailyCheck
  repeat' first
    | (with_reducible first | assumption | exact trivial | apply keepsOut_next | apply keepsOut_ite | apply keeps_ite | apply keeps_checkKeep)
    | split

theorem keeps_keepState {s : State} (code : Nat) (hs : Keeps qq oo s) : Keeps qq oo (State.keepState s code) := by
  unfold State.keepState
  repeat' first
    | (with_reducible first | assumption | apply keeps_ite | apply keeps_wr)
    | split

theorem keeps_keepRefuse {s : State} (o : Origin) (code : Nat) (hs : Keeps qq oo s) : Keeps qq oo (State.keepRefuse s o code) := by
  unfold State.keepRefuse
  repeat' first
    | (with_reducible first | assumption | apply keeps_refuse | apply keeps_keepState)

theorem keeps_keepWrite {s : State} (o : Origin) (fails : Nat) (hs : Keeps qq oo s) : Keeps qq oo (State.keepWrite s o fails) := by
  unfold State.keepWrite
  try dsimp only
  repeat' first
    | (with_reducible first | assumption | apply keeps_ite | apply keeps_keepRefuse | apply keeps_countFull | apply keeps_bump)
    | (with_reducible first | apply keeps_storeKeep | apply keeps_take | apply keeps_keepNow | apply keeps_loadStrobes | apply keeps_inc)
    | (with_reducible first | apply keeps_record | apply keeps_keepState)
    | (with_reducible apply Keeps.mk; dsimp only; with_reducible apply Keeps.ok)
    | split

theorem keeps_execKeepWrite (o : Origin) (fails : Nat) {s : State} (hs : Keeps qq oo s) : KeepsOut qq oo (execKeepWrite o fails s) := by
  unfold execKeepWrite
  repeat' first
    | (with_reducible first | assumption | exact trivial | apply keepsOut_next | apply keepsOut_ite | apply keeps_act | apply keeps_keepWrite)
    | (intro _; intros; try dsimp only)

theorem keeps_keepRead {s : State} (hs : Keeps qq oo s) : Keeps qq oo (State.keepRead s) := by
  unfold State.keepRead
  try dsimp only
  repeat' first
    | (with_reducible first | assumption | apply keeps_keepState | apply keeps_wr | apply keeps_foldl)
    | (with_reducible apply Keeps.mk; dsimp only; with_reducible apply Keeps.ok)
    | (intro _; intros; try dsimp only)
    | split

theorem keeps_execKeepRead (o : Origin) {s : State} (hs : Keeps qq oo s) : KeepsOut qq oo (execKeepRead o s) := by
  unfold execKeepRead
  repeat' first
    | (with_reducible first | assumption | exact trivial | apply keepsOut_next | apply keepsOut_ite | apply keeps_act | apply keeps_keepRead)
    | (intro _; intros; try dsimp only)

end Sys2Proof.Machine
end

