-- ==== Sys2Proof/Laws/KeepsHbm.lean ====
section
/-! SUPPORT. Each operation of Machine/Hbm.lean keeps what Keeps says. -/

set_option linter.unusedVariables false
set_option linter.tactic.unusedName false

namespace Sys2Proof.Machine

variable {qq : List Instr} {oo : List Out}

theorem keeps_writeRankWord {s : State} (v : Nat) (code : Nat) (hs : Keeps qq oo s) : Keeps qq oo (State.writeRankWord s v code) := by
  unfold State.writeRankWord
  repeat' first
    | (with_reducible first | assumption | apply keeps_writeBell | apply keeps_wr64)

theorem keeps_showMig {s : State} (hs : Keeps qq oo s) : Keeps qq oo (State.showMig s) := by
  unfold State.showMig
  repeat' first
    | (with_reducible first | assumption | apply keeps_wr)

theorem keeps_startMigration {s : State} (p : Nat) (hs : Keeps qq oo s) : Keeps qq oo (State.startMigration s p) := by
  unfold State.startMigration
  try dsimp only
  repeat' first
    | (with_reducible first | assumption | apply keeps_writeRankWord | apply keeps_showMig | apply keeps_record)
    | (with_reducible apply Keeps.mk; dsimp only; with_reducible apply Keeps.ok)

theorem keeps_abandonMigration {s : State} (hs : Keeps qq oo s) : Keeps qq oo (State.abandonMigration s) := by
  unfold State.abandonMigration
  try dsimp only
  repeat' first
    | (with_reducible first | assumption | apply keeps_writeRankWord | apply keeps_showMig | apply keeps_record)
    | (with_reducible apply Keeps.mk; dsimp only; with_reducible apply Keeps.ok)

theorem keeps_finishMigration {s : State} (hs : Keeps qq oo s) : Keeps qq oo (State.finishMigration s) := by
  unfold State.finishMigration
  try dsimp only
  repeat' first
    | (with_reducible first | assumption | apply keeps_ite | apply keeps_writeRankWord | apply keeps_showMig | apply keeps_record)
    | (with_reducible first | apply keeps_foldl)
    | (with_reducible apply Keeps.mk; dsimp only; with_reducible apply Keeps.ok)
    | (intro _; intros; try dsimp only)
    | split

theorem keeps_crossRank {s : State} (p : Nat) (hs : Keeps qq oo s) : Keeps qq oo (State.crossRank s p) := by
  unfold State.crossRank
  repeat' first
    | (with_reducible first | assumption | apply keeps_ite | apply keeps_abandonMigration | apply keeps_record | apply keeps_startMigration)
    | (intro _; intros; try dsimp only)
    | split

theorem keeps_setStack {s : State} (i : Nat) (x : Stack) (hs : Keeps qq oo s) : Keeps qq oo (State.setStack s i x) := by
  unfold State.setStack
  try dsimp only
  repeat' first
    | (with_reducible first | assumption)
    | (with_reducible apply Keeps.mk; dsimp only; with_reducible apply Keeps.ok)
    | (intro _; intros; try dsimp only)

theorem keeps_openRow {s : State} (p : Nat) (da : Nat) (hs : Keeps qq oo s) : Keeps qq oo (State.openRow s p da) := by
  unfold State.openRow
  try dsimp only
  repeat' first
    | (with_reducible first | assumption | apply keeps_ite | apply keeps_fresh | apply keeps_setStack)
    | (with_reducible apply Keeps.mk; dsimp only; with_reducible apply Keeps.ok)
    | (intro _; intros; try dsimp only)
    | split

theorem keeps_showDaErr {s : State} (da : Nat) (p : Nat) (reg : RegAddr) (hs : Keeps qq oo s) : Keeps qq oo (State.showDaErr s da p reg) := by
  unfold State.showDaErr
  try dsimp only
  repeat' first
    | (with_reducible first | assumption | apply keeps_openRow | apply keeps_inc | apply keeps_wr64 | apply keeps_wr)
    | (with_reducible apply Keeps.mk; dsimp only; with_reducible apply Keeps.ok)

theorem keeps_repeatWrites {s : State} (da : Nat) (n : Nat) (hs : Keeps qq oo s) : Keeps qq oo (State.repeatWrites s da n) := by
  unfold State.repeatWrites
  try dsimp only
  repeat' first
    | (with_reducible first | assumption | apply keeps_record | apply keeps_foldl)
    | (with_reducible apply Keeps.mk; dsimp only; with_reducible apply Keeps.ok)
    | (intro _; intros; try dsimp only)

theorem keeps_countUe {s : State} (p : Nat) (hs : Keeps qq oo s) : Keeps qq oo (State.countUe s p) := by
  unfold State.countUe
  try dsimp only
  repeat' first
    | (with_reducible first | assumption | apply keeps_ite | apply keeps_crossRank)
    | (with_reducible apply Keeps.mk; dsimp only; with_reducible apply Keeps.ok)
    | (intro _; intros; try dsimp only)
    | split

theorem keeps_countCe {s : State} (p : Nat) (hs : Keeps qq oo s) : Keeps qq oo (State.countCe s p) := by
  unfold State.countCe
  try dsimp only
  repeat' first
    | (with_reducible first | assumption | apply keeps_ite | apply keeps_crossRank)
    | (with_reducible apply Keeps.mk; dsimp only; with_reducible apply Keeps.ok)
    | (intro _; intros; try dsimp only)
    | split

theorem keeps_missRead {s : State} (da : Nat) (hs : Keeps qq oo s) : Keeps qq oo (State.missRead s da) := by
  unfold State.missRead
  repeat' first
    | (with_reducible first | assumption | apply keeps_ite | apply keeps_countUe)
    | split

theorem keeps_hbmUe {s : State} (da : Nat) (stripe : Option (Nat × Nat)) (cls : Nat) (hs : Keeps qq oo s) : Keeps qq oo (State.hbmUe s da stripe cls) := by
  unfold State.hbmUe
  try dsimp only
  repeat' first
    | (with_reducible first | assumption | apply keeps_showDaErr | apply keeps_record | apply keeps_missRead)
    | (with_reducible apply Keeps.mk; dsimp only; with_reducible apply Keeps.ok)

theorem keeps_failRead {s : State} (n : Nat) (da : Nat) (hs : Keeps qq oo s) : Keeps qq oo (State.failRead s n da) := by
  unfold State.failRead
  try dsimp only
  repeat' first
    | (with_reducible first | assumption | apply keeps_showDaErr | apply keeps_fail | apply keeps_missRead)
    | (with_reducible apply Keeps.mk; dsimp only; with_reducible apply Keeps.ok)

theorem keeps_hbmUes {s : State} (l : List Nat) (hs : Keeps qq oo s) : Keeps qq oo (State.hbmUes s l) := by
  unfold State.hbmUes
  repeat' first
    | (with_reducible first | assumption | apply keeps_hbmUe | apply keeps_foldl)
    | (intro _; intros; try dsimp only)

theorem keeps_hbmCe {s : State} (da : Nat) (hs : Keeps qq oo s) : Keeps qq oo (State.hbmCe s da) := by
  unfold State.hbmCe
  try dsimp only
  repeat' first
    | (with_reducible first | assumption | apply keeps_showDaErr | apply keeps_record | apply keeps_countCe)
    | (with_reducible apply Keeps.mk; dsimp only; with_reducible apply Keeps.ok)

theorem keeps_execRefreshDue (stack : Nat) (bank : Nat) (traffic : Bool) {s : State} (hs : Keeps qq oo s) : KeepsOut qq oo (execRefreshDue stack bank traffic s) := by
  unfold execRefreshDue
  try dsimp only
  repeat' first
    | (with_reducible first | assumption | exact trivial | apply keepsOut_next | apply keepsOut_ite | apply keeps_ite | apply keeps_setStack)
    | (with_reducible apply Keeps.mk; dsimp only; with_reducible apply Keeps.ok)
    | (intro _; intros; try dsimp only)
    | split

theorem keeps_execNbrRefreshDue (stack : Nat) (bank : Nat) (row : Nat) {s : State} (hs : Keeps qq oo s) : KeepsOut qq oo (execNbrRefreshDue stack bank row s) := by
  unfold execNbrRefreshDue
  try dsimp only
  repeat' first
    | (with_reducible first | assumption | exact trivial | apply keepsOut_next | apply keepsOut_ite | apply keeps_ite | apply keeps_setStack)
    | (with_reducible first | apply keeps_bump)
    | (with_reducible apply Keeps.mk; dsimp only; with_reducible apply Keeps.ok)
    | (intro _; intros; try dsimp only)
    | split

theorem keeps_setSelfRef {s : State} (stack : Nat) (v : Nat) (hs : Keeps qq oo s) : Keeps qq oo (State.setSelfRef s stack v) := by
  unfold State.setSelfRef
  try dsimp only
  repeat' first
    | (with_reducible first | assumption | apply keeps_setStack | apply keeps_setFld)
    | (with_reducible apply Keeps.mk; dsimp only; with_reducible apply Keeps.ok)

theorem keeps_execSelfRefreshExit (stack : Nat) {s : State} (hs : Keeps qq oo s) : KeepsOut qq oo (execSelfRefreshExit stack s) := by
  unfold execSelfRefreshExit
  repeat' first
    | (with_reducible first | assumption | exact trivial | apply keepsOut_next | apply keepsOut_ite | apply keeps_ite | apply keeps_inc)
    | (with_reducible first | apply keeps_setSelfRef)
    | split

theorem keeps_firmwareRead {s : State} (da : Nat) (recovered : Bool) (hs : Keeps qq oo s) : Keeps qq oo (State.firmwareRead s da recovered) := by
  unfold State.firmwareRead
  try dsimp only
  repeat' first
    | (with_reducible first | assumption | apply keeps_ite | apply keeps_deviceFatal)
    | (with_reducible apply Keeps.mk; dsimp only; with_reducible apply Keeps.ok)
    | split

theorem keeps_execPatrolScrub (da : Nat) (ce : Bool) (ue : Bool) (recovered : Bool) {s : State} (hs : Keeps qq oo s) : KeepsOut qq oo (execPatrolScrub da ce ue recovered s) := by
  unfold execPatrolScrub
  repeat' first
    | (with_reducible first | assumption | exact trivial | apply keepsOut_next | apply keepsOut_ite | apply keeps_ite | apply keeps_hbmUe)
    | (with_reducible first | apply keeps_firmwareRead | apply keeps_hbmCe | apply keeps_openRow)
    | split

theorem keeps_execHbmStackFault (stack : Nat) {s : State} (hs : Keeps qq oo s) : KeepsOut qq oo (execHbmStackFault stack s) := by
  unfold execHbmStackFault
  repeat' first
    | (with_reducible first | assumption | exact trivial | apply keepsOut_next | apply keepsOut_ite | apply keeps_ite | apply keeps_deviceFatal)
    | (with_reducible apply Keeps.mk; dsimp only; with_reducible apply Keeps.ok)
    | split

theorem keeps_execRetire (o : Origin) (v : Nat) {s : State} (hs : Keeps qq oo s) : KeepsOut qq oo (execRetire o v s) := by
  unfold execRetire
  repeat' first
    | (with_reducible first | assumption | exact trivial | apply keepsOut_next | apply keepsOut_ite | apply keeps_ite | apply keeps_act)
    | (with_reducible first | apply keeps_refuse | apply keeps_crossRank)
    | (intro _; intros; try dsimp only)
    | split

theorem keeps_execMigrationSegment (mismatches : Nat) (readUe : Option Nat) {s : State} (hs : Keeps qq oo s) : KeepsOut qq oo (execMigrationSegment mismatches readUe s) := by
  unfold execMigrationSegment
  try dsimp only
  repeat' first
    | (with_reducible first | assumption | exact trivial | apply keepsOut_next | apply keepsOut_ite | apply keeps_ite | apply keeps_showDaErr)
    | (with_reducible first | apply keeps_record | apply keeps_countUe | apply keeps_abandonMigration | apply keeps_showMig)
    | (with_reducible first | apply keeps_finishMigration)
    | (with_reducible apply Keeps.mk; dsimp only; with_reducible apply Keeps.ok)
    | split

end Sys2Proof.Machine
end

