-- ==== Sys2Proof/Laws/KeepsLantern.lean ====
section
/-! SUPPORT. Each operation of Machine/Lantern.lean keeps what Keeps says. -/

set_option linter.unusedVariables false
set_option linter.tactic.unusedName false

namespace Sys2Proof.Machine

variable {qq : List Instr} {oo : List Out}

theorem keeps_clkOn {s : State} (p : Nat) (hs : Keeps qq oo s) : Keeps qq oo (State.clkOn s p) := by
  unfold State.clkOn
  repeat' first
    | (with_reducible first | assumption | apply keeps_traced | apply keeps_setFld)

theorem keeps_clkOff {s : State} (p : Nat) (hs : Keeps qq oo s) : Keeps qq oo (State.clkOff s p) := by
  unfold State.clkOff
  repeat' first
    | (with_reducible first | assumption | apply keeps_traced | apply keeps_setFld)

theorem keeps_lanternWake {s : State} (hs : Keeps qq oo s) : Keeps qq oo (State.lanternWake s) := by
  unfold State.lanternWake
  try dsimp only
  repeat' first
    | (with_reducible first | assumption | apply keeps_ite | apply keeps_clkOn | apply keeps_setFld)
    | (with_reducible apply Keeps.mk; dsimp only; with_reducible apply Keeps.ok)
    | (intro _; intros; try dsimp only)
    | split

theorem keeps_lanternRest {s : State} (hs : Keeps qq oo s) : Keeps qq oo (State.lanternRest s) := by
  unfold State.lanternRest
  repeat' first
    | (with_reducible first | assumption | apply keeps_ite | apply keeps_setFld)
    | split

theorem keeps_retireRaster {s : State} (l : Nat) (hs : Keeps qq oo s) : Keeps qq oo (State.retireRaster s l) := by
  unfold State.retireRaster
  try dsimp only
  repeat' first
    | (with_reducible first | assumption | apply keeps_wr64 | apply keeps_record | apply keeps_saveAgeing)
    | (with_reducible apply Keeps.mk; dsimp only; with_reducible apply Keeps.ok)

theorem keeps_rasterResidue {s : State} (l : Nat) (hs : Keeps qq oo s) : Keeps qq oo (State.rasterResidue s l) := by
  unfold State.rasterResidue
  try dsimp only
  repeat' first
    | (with_reducible first | assumption | apply keeps_ite | apply keeps_inc | apply keeps_record | apply keeps_retireRaster)
    | (with_reducible apply Keeps.mk; dsimp only; with_reducible apply Keeps.ok)
    | (intro _; intros; try dsimp only)
    | split

theorem keeps_retireUnit {s : State} (u : Nat) (hs : Keeps qq oo s) : Keeps qq oo (State.retireUnit s u) := by
  unfold State.retireUnit
  try dsimp only
  repeat' first
    | (with_reducible first | assumption | apply keeps_ite | apply keeps_wr64 | apply keeps_setFld | apply keeps_record)
    | (with_reducible first | apply keeps_saveAgeing)
    | (with_reducible apply Keeps.mk; dsimp only; with_reducible apply Keeps.ok)
    | split

theorem keeps_unitResidue {s : State} (u : Nat) (hs : Keeps qq oo s) : Keeps qq oo (State.unitResidue s u) := by
  unfold State.unitResidue
  try dsimp only
  repeat' first
    | (with_reducible first | assumption | apply keeps_ite | apply keeps_inc | apply keeps_record | apply keeps_retireUnit)
    | (with_reducible apply Keeps.mk; dsimp only; with_reducible apply Keeps.ok)
    | (intro _; intros; try dsimp only)
    | split

theorem keeps_putTile {s : State} (x : Stripe) (band : Nat) (col : Nat) (t : KMap (BitVec 16)) (hs : Keeps qq oo s) : Keeps qq oo (State.putTile s x band col t) := by
  unfold State.putTile
  try dsimp only
  repeat' first
    | (with_reducible first | assumption | apply keeps_id)
    | (with_reducible apply Keeps.mk; dsimp only; with_reducible apply Keeps.ok)
    | (intro _; intros; try dsimp only)

theorem keeps_countClips {s : State} (x : Stripe) (xs : List (Nat × Nat × Nat)) (hs : Keeps qq oo s) : Keeps qq oo (State.countClips s x xs) := by
  unfold State.countClips
  try dsimp only
  repeat' first
    | (with_reducible first | assumption | apply keeps_ite | apply keeps_bump | apply keeps_modStripe | apply keeps_record)
    | exact fun _ => rfl
    | (intro t; (try dsimp only); (repeat' split) <;> rfl)
    | (with_reducible apply Keeps.mk; dsimp only; with_reducible apply Keeps.ok)
    | (intro _; intros; try dsimp only)
    | split

theorem keeps_bandDone {s : State} (x : Stripe) (hs : Keeps qq oo s) : Keeps qq oo (State.bandDone s x) := by
  unfold State.bandDone
  try dsimp only
  repeat' first
    | (with_reducible first | assumption | apply keeps_ite | apply keeps_modStripe)
    | exact fun _ => rfl
    | (intro t; (try dsimp only); (repeat' split) <;> rfl)
    | (with_reducible apply Keeps.mk; dsimp only; with_reducible apply Keeps.ok)
    | (intro _; intros; try dsimp only)
    | split

theorem keeps_putFactorCrc {s : State} (x : Stripe) (band : Nat) (hs : Keeps qq oo s) : Keeps qq oo (State.putFactorCrc s x band) := by
  unfold State.putFactorCrc
  try dsimp only
  repeat' first
    | (with_reducible first | assumption)
    | (with_reducible apply Keeps.mk; dsimp only; with_reducible apply Keeps.ok)

theorem keeps_rebuildBand {s : State} (x : Stripe) (band : Nat) (hs : Keeps qq oo s) : Keeps qq oo (State.rebuildBand s x band) := by
  unfold State.rebuildBand
  try dsimp only
  repeat' first
    | (with_reducible first | assumption)
    | (with_reducible apply Keeps.mk; dsimp only; with_reducible apply Keeps.ok)
    | (intro _; intros; try dsimp only)

theorem keeps_recomputeBand {s : State} (x : Stripe) (band : Nat) (hs : Keeps qq oo s) : Keeps qq oo (State.recomputeBand s x band) := by
  unfold State.recomputeBand
  try dsimp only
  repeat' first
    | (with_reducible first | assumption | apply keeps_putFactorCrc)
    | (with_reducible apply Keeps.mk; dsimp only; with_reducible apply Keeps.ok)
    | (intro _; intros; try dsimp only)

theorem keeps_remakeFactors {s : State} (x : Stripe) (factorBad : Bool) (mapBad : Bool) (band : Nat) (hs : Keeps qq oo s) : Keeps qq oo (State.remakeFactors s x factorBad mapBad band) := by
  unfold State.remakeFactors
  try dsimp only
  repeat' first
    | (with_reducible first | assumption | apply keeps_ite | apply keeps_inc | apply keeps_record | apply keeps_rebuildBand)
    | (with_reducible first | apply keeps_recomputeBand)
    | (with_reducible apply Keeps.mk; dsimp only; with_reducible apply Keeps.ok)
    | split

theorem keeps_readCopies {s : State} (slot : Nat) (da : Nat) (gap : Nat) (bad : Nat) (met : Nat) (hs : Keeps qq oo s) : Keeps qq oo (State.readCopies s slot da gap bad met) := by
  unfold State.readCopies
  repeat' first
    | (with_reducible first | assumption | apply keeps_ite | apply keeps_hbmUe | apply keeps_jobFatalRec)
    | (with_reducible apply Keeps.mk; dsimp only; with_reducible apply Keeps.ok)
    | split

theorem keeps_readFog {s : State} (x : Stripe) (bad : Nat) (hs : Keeps qq oo s) : Keeps qq oo (State.readFog s x bad) := by
  unfold State.readFog
  repeat' first
    | (with_reducible first | assumption | apply keeps_ite | apply keeps_readCopies)
    | split

theorem keeps_tileWrites {s : State} (x : Stripe) (band : Nat) (col : Nat) (fails : Nat) (hs : Keeps qq oo s) : Keeps qq oo (State.tileWrites s x band col fails) := by
  unfold State.tileWrites
  repeat' first
    | (with_reducible first | assumption | apply keeps_ite | apply keeps_record | apply keeps_repeatWrites | apply keeps_foldl)
    | (intro _; intros; try dsimp only)
    | split

theorem keeps_tileDone {s : State} (x : Stripe) (band : Nat) (col : Nat) (lane : Nat) (residue : Bool) (writeFails : Nat) (factorBad : Bool) (mapBad : Bool) (hs : Keeps qq oo s) : Keeps qq oo (State.tileDone s x band col lane residue writeFails factorBad mapBad) := by
  unfold State.tileDone
  try dsimp only
  repeat' first
    | (with_reducible first | assumption | apply keeps_ite | apply keeps_rasterResidue | apply keeps_modStripe | apply keeps_remakeFactors)
    | (with_reducible first | apply keeps_tileWrites | apply keeps_putTile | apply keeps_inc | apply keeps_countClips | apply keeps_bandDone)
    | (with_reducible first | apply keeps_lanternRest)
    | exact fun _ => rfl
    | (intro t; (try dsimp only); (repeat' split) <;> rfl)
    | (with_reducible apply Keeps.mk; dsimp only; with_reducible apply Keeps.ok)
    | (intro _; intros; try dsimp only)
    | split

theorem keeps_execTileDone (pass : Nat) (id : Nat) (band : Nat) (col : Nat) (lane : Nat) (residue : Bool) (writeFails : Nat) (factorBad : Bool) (mapBad : Bool) (fogBad : Nat) (sram : List SramErr) {s : State} (hs : Keeps qq oo s) : KeepsOut qq oo (execTileDone pass id band col lane residue writeFails factorBad mapBad fogBad sram s) := by
  unfold execTileDone
  try dsimp only
  repeat' first
    | (with_reducible first | assumption | exact trivial | apply keepsOut_next | apply keepsOut_ite | apply keeps_ite | apply keeps_id)
    | (with_reducible first | apply keeps_blockDamaged | apply keeps_readFog | apply keeps_sramErrs | apply keeps_tileDone)
    | (with_reducible apply Keeps.mk; dsimp only; with_reducible apply Keeps.ok)
    | (intro _; intros; try dsimp only)
    | split

theorem keeps_execLanternWake {s : State} (hs : Keeps qq oo s) : KeepsOut qq oo (execLanternWake s) := by
  unfold execLanternWake
  repeat' first
    | (with_reducible first | assumption | exact trivial | apply keepsOut_next | apply keepsOut_ite | apply keeps_lanternWake)

theorem keeps_reraster {s : State} (x : Stripe) (r : Nat × Nat × Nat) (runs : Runs) (residue : List Nat) (factorBad : Bool) (mapBad : Bool) (hs : Keeps qq oo s) : Keeps qq oo (State.reraster s x r runs residue factorBad mapBad) := by
  unfold State.reraster
  try dsimp only
  repeat' first
    | (with_reducible first | assumption | apply keeps_ite | apply keeps_rasterResidue | apply keeps_remakeFactors | apply keeps_inc)
    | (with_reducible first | apply keeps_modStripe | apply keeps_putTile | apply keeps_lanternRest | apply keeps_foldl)
    | exact fun _ => rfl
    | (intro t; (try dsimp only); (repeat' split) <;> rfl)
    | (with_reducible apply Keeps.mk; dsimp only; with_reducible apply Keeps.ok)
    | (intro _; intros; try dsimp only)
    | split

theorem keeps_execRerasterRequest (pass : Nat) (id : Nat) (band : Nat) (col : Nat) (runs : Runs) (residue : List Nat) (factorBad : Bool) (mapBad : Bool) (sram : List SramErr) {s : State} (hs : Keeps qq oo s) : KeepsOut qq oo (execRerasterRequest pass id band col runs residue factorBad mapBad sram s) := by
  unfold execRerasterRequest
  try dsimp only
  repeat' first
    | (with_reducible first | assumption | exact trivial | apply keepsOut_next | apply keepsOut_ite | apply keeps_ite | apply keeps_id)
    | (with_reducible first | apply keeps_blockDamaged | apply keeps_sramErrs | apply keeps_reraster)
    | (with_reducible apply Keeps.mk; dsimp only; with_reducible apply Keeps.ok)
    | (intro _; intros; try dsimp only)
    | split

theorem keeps_neighbourBad {s : State} (x : Stripe) (e : Nat × Nat × Nat × Nat) (hs : Keeps qq oo s) : Keeps qq oo (State.neighbourBad s x e) := by
  unfold State.neighbourBad
  try dsimp only
  repeat' first
    | (with_reducible first | assumption | apply keeps_ite | apply keeps_id | apply keeps_record | apply keeps_modJob | apply keeps_rerequest)
    | (with_reducible apply Keeps.mk; dsimp only; with_reducible apply Keeps.ok)
    | (intro _; intros; try dsimp only)
    | split

theorem keeps_prepassWait {s : State} (x : Stripe) (code : Nat) (hs : Keeps qq oo s) : Keeps qq oo (State.prepassWait s x code) := by
  unfold State.prepassWait
  try dsimp only
  repeat' first
    | (with_reducible first | assumption | apply keeps_modStripe)
    | exact fun _ => rfl
    | (intro t; (try dsimp only); (repeat' split) <;> rfl)
    | (with_reducible apply Keeps.mk; dsimp only; with_reducible apply Keeps.ok)
    | (intro _; intros; try dsimp only)

theorem keeps_execPrepassStart {s : State} (hs : Keeps qq oo s) : KeepsOut qq oo (execPrepassStart s) := by
  unfold execPrepassStart
  try dsimp only
  repeat' first
    | (with_reducible first | assumption | exact trivial | apply keepsOut_next | apply keepsOut_ite | apply keeps_ite | apply keeps_id)
    | (with_reducible first | apply keeps_neighbourBad | apply keeps_prepassWait | apply keeps_jobFatalRec | apply keeps_modStripe)
    | (with_reducible first | apply keeps_setFld)
    | exact fun _ => rfl
    | (intro t; (try dsimp only); (repeat' split) <;> rfl)
    | (with_reducible apply Keeps.mk; dsimp only; with_reducible apply Keeps.ok)
    | (intro _; intros; try dsimp only)
    | split

theorem keeps_clearBands {s : State} (set : Nat) (hs : Keeps qq oo s) : Keeps qq oo (State.clearBands s set) := by
  unfold State.clearBands
  try dsimp only
  repeat' first
    | (with_reducible first | assumption)
    | (with_reducible apply Keeps.mk; dsimp only; with_reducible apply Keeps.ok)
    | (intro _; intros; try dsimp only)

theorem keeps_densityDone {s : State} (x : Stripe) (residueLanes : List Nat) (hs : Keeps qq oo s) : Keeps qq oo (State.densityDone s x residueLanes) := by
  unfold State.densityDone
  try dsimp only
  repeat' first
    | (with_reducible first | assumption | apply keeps_clearBands | apply keeps_bump | apply keeps_rasterResidue | apply keeps_modStripe)
    | (with_reducible first | apply keeps_lanternRest | apply keeps_foldl)
    | exact fun _ => rfl
    | (intro t; (try dsimp only); (repeat' split) <;> rfl)
    | (with_reducible apply Keeps.mk; dsimp only; with_reducible apply Keeps.ok)
    | (intro _; intros; try dsimp only)

theorem keeps_prepassDone {s : State} (x : Stripe) (residueUnits : List Nat) (hs : Keeps qq oo s) : Keeps qq oo (State.prepassDone s x residueUnits) := by
  unfold State.prepassDone
  try dsimp only
  repeat' first
    | (with_reducible first | assumption | apply keeps_putFactorCrc | apply keeps_bump | apply keeps_unitResidue | apply keeps_modStripe)
    | (with_reducible first | apply keeps_setFld | apply keeps_foldl)
    | exact fun _ => rfl
    | (intro t; (try dsimp only); (repeat' split) <;> rfl)
    | (with_reducible apply Keeps.mk; dsimp only; with_reducible apply Keeps.ok)
    | (intro _; intros; try dsimp only)

theorem keeps_execPrepassComplete (lanes : List Nat) (residueLanes : List Nat) (residueUnits : List Nat) (sram : List SramErr) {s : State} (hs : Keeps qq oo s) : KeepsOut qq oo (execPrepassComplete lanes residueLanes residueUnits sram s) := by
  unfold execPrepassComplete
  try dsimp only
  repeat' first
    | (with_reducible first | assumption | exact trivial | apply keepsOut_next | apply keepsOut_ite | apply keeps_ite | apply keeps_id)
    | (with_reducible first | apply keeps_sramErrs | apply keeps_prepassDone | apply keeps_neighbourBad | apply keeps_prepassWait)
    | (with_reducible first | apply keeps_blockDamaged | apply keeps_densityDone)
    | (with_reducible apply Keeps.mk; dsimp only; with_reducible apply Keeps.ok)
    | (intro _; intros; try dsimp only)
    | split

end Sys2Proof.Machine
end

