-- ==== Sys2Proof/Laws/KeepsTally.lean ====
section
/-! SUPPORT. Each operation of Machine/Tally.lean keeps what Keeps says. -/

set_option linter.unusedVariables false
set_option linter.tactic.unusedName false

namespace Sys2Proof.Machine

variable {qq : List Instr} {oo : List Out}

theorem keeps_putRow {s : State} (w : PixRow) (hs : Keeps qq oo s) : Keeps qq oo (State.putRow s w) := by
  unfold State.putRow
  try dsimp only
  repeat' first
    | (with_reducible first | assumption | apply keeps_ite)
    | (with_reducible apply Keeps.mk; dsimp only; with_reducible apply Keeps.ok)
    | (intro _; intros; try dsimp only)
    | split

theorem keeps_putWord {s : State} (ord : Nat) (c : Nat) (r : Nat) (rem : Nat) (mark : Nat) (hs : Keeps qq oo s) : Keeps qq oo (State.putWord s ord c r rem mark) := by
  unfold State.putWord
  try dsimp only
  repeat' first
    | (with_reducible first | assumption | apply keeps_putRow)
    | (with_reducible apply Keeps.mk; dsimp only; with_reducible apply Keeps.ok)
    | split

theorem keeps_tagFault {s : State} (x : Stripe) (c : Nat) (r : Nat) (hs : Keeps qq oo s) : Keeps qq oo (State.tagFault s x c r) := by
  unfold State.tagFault
  repeat' first
    | (with_reducible first | assumption | apply keeps_putWord | apply keeps_inc | apply keeps_record)

theorem keeps_applyCarry {s : State} (a : Carry) (hs : Keeps qq oo s) : Keeps qq oo (State.applyCarry s a) := by
  unfold State.applyCarry
  try dsimp only
  repeat' first
    | (with_reducible first | assumption | apply keeps_ite | apply keeps_inc | apply keeps_tagFault | apply keeps_putWord)
    | (with_reducible apply Keeps.mk; dsimp only; with_reducible apply Keeps.ok)
    | split

theorem keeps_applyUnknown {s : State} (a : Carry) (hs : Keeps qq oo s) : Keeps qq oo (State.applyUnknown s a) := by
  unfold State.applyUnknown
  try dsimp only
  repeat' first
    | (with_reducible first | assumption | apply keeps_ite | apply keeps_inc | apply keeps_putWord)
    | (with_reducible apply Keeps.mk; dsimp only; with_reducible apply Keeps.ok)
    | split

theorem keeps_applyFor {s : State} (p : Carry → Bool) (hs : Keeps qq oo s) : Keeps qq oo (State.applyFor s p) := by
  unfold State.applyFor
  try dsimp only
  repeat' first
    | (with_reducible first | assumption | apply keeps_ite | apply keeps_applyUnknown | apply keeps_applyCarry | apply keeps_foldl)
    | (with_reducible apply Keeps.mk; dsimp only; with_reducible apply Keeps.ok)
    | (intro _; intros; try dsimp only)
    | split

theorem keeps_applyCarries {s : State} (hs : Keeps qq oo s) : Keeps qq oo (State.applyCarries s) := by
  unfold State.applyCarries
  repeat' first
    | (with_reducible first | assumption | apply keeps_applyFor)
    | (intro _; intros; try dsimp only)

theorem keeps_post {s : State} (l : List Carry) (hs : Keeps qq oo s) : Keeps qq oo (State.post s l) := by
  unfold State.post
  try dsimp only
  repeat' first
    | (with_reducible first | assumption)
    | (with_reducible apply Keeps.mk; dsimp only; with_reducible apply Keeps.ok)

theorem keeps_listPixel {s : State} (x : Stripe) (e : DefEntry) (hs : Keeps qq oo s) : Keeps qq oo (State.listPixel s x e) := by
  unfold State.listPixel
  try dsimp only
  repeat' first
    | (with_reducible first | assumption | apply keeps_ite | apply keeps_modStripe | apply keeps_record)
    | exact fun _ => rfl
    | (intro t; (try dsimp only); (repeat' split) <;> rfl)
    | (with_reducible apply Keeps.mk; dsimp only; with_reducible apply Keeps.ok)
    | (intro _; intros; try dsimp only)
    | split

theorem keeps_autoRelease {s : State} (slot : Nat) (id : Nat) (hs : Keeps qq oo s) : Keeps qq oo (State.autoRelease s slot id) := by
  unfold State.autoRelease
  try dsimp only
  repeat' first
    | (with_reducible first | assumption | apply keeps_ite | apply keeps_id | apply keeps_modJob)
    | (with_reducible apply Keeps.mk; dsimp only; with_reducible apply Keeps.ok)
    | (intro _; intros; try dsimp only)
    | split

theorem keeps_completeStripe {s : State} (x : Stripe) (hs : Keeps qq oo s) : Keeps qq oo (State.completeStripe s x) := by
  unfold State.completeStripe
  try dsimp only
  repeat' first
    | (with_reducible first | assumption | apply keeps_ite | apply keeps_id | apply keeps_endStripe | apply keeps_modJob)
    | (with_reducible first | apply keeps_dropStripe | apply keeps_clearCkpt | apply keeps_autoRelease)
    | (with_reducible apply Keeps.mk; dsimp only; with_reducible apply Keeps.ok)
    | (intro _; intros; try dsimp only)
    | split

theorem keeps_endIfDone {s : State} (ord : Nat) (hs : Keeps qq oo s) : Keeps qq oo (State.endIfDone s ord) := by
  unfold State.endIfDone
  try dsimp only
  repeat' first
    | (with_reducible first | assumption | apply keeps_ite | apply keeps_endAborted | apply keeps_completeStripe | apply keeps_dropFrames)
    | (with_reducible apply Keeps.mk; dsimp only; with_reducible apply Keeps.ok)
    | split

theorem keeps_exitTags {s : State} (x : Stripe) (w : PixRow) (fx : ExitFaults) (hs : Keeps qq oo s) : Keeps qq oo (State.exitTags s x w fx) := by
  unfold State.exitTags
  repeat' first
    | (with_reducible first | assumption | apply keeps_inc | apply keeps_record | apply keeps_foldl)
    | (intro _; intros; try dsimp only)

theorem keeps_deficitFull {s : State} (x : Stripe) (w : PixRow) (hs : Keeps qq oo s) : Keeps qq oo (State.deficitFull s x w) := by
  unfold State.deficitFull
  try dsimp only
  repeat' first
    | (with_reducible first | assumption | apply keeps_ite | apply keeps_endIfDone | apply keeps_enterContained | apply keeps_contain)
    | (with_reducible apply Keeps.mk; dsimp only; with_reducible apply Keeps.ok)
    | (intro _; intros; try dsimp only)
    | split

theorem keeps_checkRow {s : State} (x : Stripe) (w : PixRow) (fx : ExitFaults) (hs : Keeps qq oo s) : Keeps qq oo (State.checkRow s x w fx) := by
  unfold State.checkRow
  try dsimp only
  repeat' first
    | (with_reducible first | assumption | apply keeps_ite | apply keeps_deficitFull | apply keeps_listPixel | apply keeps_exitTags)
    | (with_reducible first | apply keeps_modList | apply keeps_modStripe | apply keeps_showCheck | apply keeps_endIfDone | apply keeps_foldl)
    | exact fun _ => rfl
    | (intro t; (try dsimp only); (repeat' split) <;> rfl)
    | (with_reducible apply Keeps.mk; dsimp only; with_reducible apply Keeps.ok)
    | (intro _; intros; try dsimp only)
    | split

theorem keeps_checkHead {s : State} (fx : ExitFaults) (hs : Keeps qq oo s) : Keeps qq oo (State.checkHead s fx) := by
  unfold State.checkHead
  try dsimp only
  repeat' first
    | (with_reducible first | assumption | apply keeps_applyFor | apply keeps_checkRow)
    | (with_reducible apply Keeps.mk; dsimp only; with_reducible apply Keeps.ok)
    | (intro _; intros; try dsimp only)
    | split

theorem keeps_checkAll : ∀ (n : Nat) (fx : List ExitFaults) {s : State}, Keeps qq oo s → Keeps qq oo (State.checkAll n fx s)
  | 0, _, _, h => h
  | n + 1, fx, _, h => by
    unfold State.checkAll
    exact keeps_ite (keeps_checkAll n _ (keeps_checkHead _ h)) (keeps_checkHead _ h)

theorem keeps_execExitCheck (fx : ExitFaults) {s : State} (hs : Keeps qq oo s) : KeepsOut qq oo (execExitCheck fx s) := by
  unfold execExitCheck
  repeat' first
    | (with_reducible first | assumption | exact trivial | apply keepsOut_next | apply keepsOut_ite | apply keeps_ite | apply keeps_checkHead)
    | split

theorem keeps_undoFrame {s : State} (f : LinkFrame) (hs : Keeps qq oo s) : Keeps qq oo (State.undoFrame s f) := by
  unfold State.undoFrame
  try dsimp only
  repeat' first
    | (with_reducible first | assumption | apply keeps_ite | apply keeps_putWord | apply keeps_foldl)
    | (with_reducible apply Keeps.mk; dsimp only; with_reducible apply Keeps.ok)
    | (intro _; intros; try dsimp only)
    | split

theorem keeps_undoCycle {s : State} (x : Stripe) (f : Nat) (hs : Keeps qq oo s) : Keeps qq oo (State.undoCycle s x f) := by
  unfold State.undoCycle
  try dsimp only
  repeat' first
    | (with_reducible first | assumption | apply keeps_ite | apply keeps_undoFrame | apply keeps_foldl)
    | (with_reducible apply Keeps.mk; dsimp only; with_reducible apply Keeps.ok)
    | (intro _; intros; try dsimp only)
    | split

theorem keeps_undo {s : State} (x : Stripe) (h : Int) (hs : Keeps qq oo s) : Keeps qq oo (State.undo s x h) := by
  unfold State.undo
  try dsimp only
  repeat' first
    | (with_reducible first | assumption | apply keeps_undoCycle | apply keeps_modStripe | apply keeps_wr | apply keeps_foldl)
    | exact fun _ => rfl
    | (intro t; (try dsimp only); (repeat' split) <;> rfl)
    | (with_reducible apply Keeps.mk; dsimp only; with_reducible apply Keeps.ok)
    | (intro _; intros; try dsimp only)

theorem keeps_lowerCap {s : State} (b : Nat) (cap : Nat) (hs : Keeps qq oo s) : Keeps qq oo (State.lowerCap s b cap) := by
  unfold State.lowerCap
  try dsimp only
  repeat' first
    | (with_reducible first | assumption | apply keeps_ite | apply keeps_record)
    | (with_reducible apply Keeps.mk; dsimp only; with_reducible apply Keeps.ok)
    | (intro _; intros; try dsimp only)
    | split

theorem keeps_returnShares {s : State} (b : Nat) (hs : Keeps qq oo s) : Keeps qq oo (State.returnShares s b) := by
  unfold State.returnShares
  try dsimp only
  repeat' first
    | (with_reducible first | assumption | apply keeps_ite | apply keeps_post | apply keeps_modFrames | apply keeps_foldl)
    | (with_reducible apply Keeps.mk; dsimp only; with_reducible apply Keeps.ok)
    | (intro _; intros; try dsimp only)
    | split

theorem keeps_strayWrite {s : State} (b : Nat) (cap : Nat) (hs : Keeps qq oo s) : Keeps qq oo (State.strayWrite s b cap) := by
  unfold State.strayWrite
  try dsimp only
  repeat' first
    | (with_reducible first | assumption | apply keeps_ite | apply keeps_lowerCap)
    | (with_reducible apply Keeps.mk; dsimp only; with_reducible apply Keeps.ok)
    | split

theorem keeps_execStrayAdd (o : Origin) (v : Nat) {s : State} (hs : Keeps qq oo s) : KeepsOut qq oo (execStrayAdd o v s) := by
  unfold execStrayAdd
  repeat' first
    | (with_reducible first | assumption | exact trivial | apply keepsOut_next | apply keepsOut_ite | apply keeps_act | apply keeps_strayWrite)
    | (intro _; intros; try dsimp only)

theorem keeps_takeHeld {s : State} (hs : Keeps qq oo s) : Keeps qq oo (State.takeHeld s) := by
  unfold State.takeHeld
  try dsimp only
  repeat' first
    | (with_reducible first | assumption | apply keeps_lowerCap | apply keeps_foldl)
    | (with_reducible apply Keeps.mk; dsimp only; with_reducible apply Keeps.ok)
    | (intro _; intros; try dsimp only)

theorem keeps_flushStrays {s : State} (hs : Keeps qq oo s) : Keeps qq oo (State.flushStrays s) := by
  unfold State.flushStrays
  try dsimp only
  repeat' first
    | (with_reducible first | assumption | apply keeps_lowerCap | apply keeps_foldl)
    | (with_reducible apply Keeps.mk; dsimp only; with_reducible apply Keeps.ok)
    | (intro _; intros; try dsimp only)

end Sys2Proof.Machine
end

