-- ==== Sys2Proof/Laws/KeepsShepherd.lean ====
section
/-! SUPPORT. Each operation of Machine/Shepherd.lean keeps what Keeps says. -/

set_option linter.unusedVariables false
set_option linter.tactic.unusedName false

namespace Sys2Proof.Machine

variable {qq : List Instr} {oo : List Out}

theorem keeps_askTile {s : State} (x : Stripe) (band : Nat) (col : Nat) (seq : Nat) (hs : Keeps qq oo s) : Keeps qq oo (State.askTile s x band col seq) := by
  unfold State.askTile
  try dsimp only
  repeat' first
    | (with_reducible first | assumption | apply keeps_ite | apply keeps_modStripe)
    | exact fun _ => rfl
    | (intro t; (try dsimp only); (repeat' split) <;> rfl)
    | (with_reducible apply Keeps.mk; dsimp only; with_reducible apply Keeps.ok)
    | (intro _; intros; try dsimp only)
    | split

theorem keeps_tileFail {s : State} (x : Stripe) (band : Nat) (col : Nat) (tags : Option Nat) (hs : Keeps qq oo s) : Keeps qq oo (State.tileFail s x band col tags) := by
  unfold State.tileFail
  try dsimp only
  repeat' first
    | (with_reducible first | assumption | apply keeps_ite | apply keeps_inc | apply keeps_bump | apply keeps_wr | apply keeps_record)
    | (with_reducible first | apply keeps_askTile)
    | (with_reducible apply Keeps.mk; dsimp only; with_reducible apply Keeps.ok)
    | split

theorem keeps_tileUe {s : State} (x : Stripe) (band : Nat) (da : Nat) (hs : Keeps qq oo s) : Keeps qq oo (State.tileUe s x band da) := by
  unfold State.tileUe
  try dsimp only
  repeat' first
    | (with_reducible first | assumption | apply keeps_ite | apply keeps_hbmUe | apply keeps_askTile)
    | (with_reducible apply Keeps.mk; dsimp only; with_reducible apply Keeps.ok)
    | split

theorem keeps_stageBand {s : State} (x : Stripe) (band : Nat) (hs : Keeps qq oo s) : Keeps qq oo (State.stageBand s x band) := by
  unfold State.stageBand
  try dsimp only
  repeat' first
    | (with_reducible first | assumption | apply keeps_modStripe | apply keeps_foldl)
    | exact fun _ => rfl
    | (intro t; (try dsimp only); (repeat' split) <;> rfl)
    | (with_reducible apply Keeps.mk; dsimp only; with_reducible apply Keeps.ok)
    | (intro _; intros; try dsimp only)

theorem keeps_bandRead {s : State} (x : Stripe) (band : Nat) (badCrc : List Nat) (badTag : List (Nat × Nat)) (ues : List Nat) (sram : List SramErr) (hs : Keeps qq oo s) : Keeps qq oo (State.bandRead s x band badCrc badTag ues sram) := by
  unfold State.bandRead
  try dsimp only
  repeat' first
    | (with_reducible first | assumption | apply keeps_ite | apply keeps_tileUe | apply keeps_tileFail | apply keeps_bump)
    | (with_reducible first | apply keeps_sramErrs | apply keeps_stageBand | apply keeps_foldl)
    | (with_reducible apply Keeps.mk; dsimp only; with_reducible apply Keeps.ok)
    | (intro _; intros; try dsimp only)
    | split

theorem keeps_execFieldBandRead (band : Nat) (badCrc : List Nat) (badTag : List (Nat × Nat)) (ues : List Nat) (sram : List SramErr) {s : State} (hs : Keeps qq oo s) : KeepsOut qq oo (execFieldBandRead band badCrc badTag ues sram s) := by
  unfold execFieldBandRead
  try dsimp only
  repeat' first
    | (with_reducible first | assumption | exact trivial | apply keepsOut_next | apply keepsOut_ite | apply keeps_ite | apply keeps_bandRead)
    | (with_reducible apply Keeps.mk; dsimp only; with_reducible apply Keeps.ok)
    | (intro _; intros; try dsimp only)
    | split

theorem keeps_leaveRow {s : State} (x : Stripe) (f : Nat) (fx : ExitFaults) (hs : Keeps qq oo s) : Keeps qq oo (State.leaveRow s x f fx) := by
  unfold State.leaveRow
  try dsimp only
  repeat' first
    | (with_reducible first | assumption | apply keeps_ite | apply keeps_checkHead)
    | (with_reducible apply Keeps.mk; dsimp only; with_reducible apply Keeps.ok)
    | split

theorem keeps_entryTag {s : State} (x : Stripe) (c : Nat) (r : Nat) (hs : Keeps qq oo s) : Keeps qq oo (State.entryTag s x c r) := by
  unfold State.entryTag
  repeat' first
    | (with_reducible first | assumption | apply keeps_putWord | apply keeps_inc | apply keeps_record)

theorem keeps_enterRow {s : State} (x : Stripe) (f : Nat) (badEntry : List Nat) (hs : Keeps qq oo s) : Keeps qq oo (State.enterRow s x f badEntry) := by
  unfold State.enterRow
  try dsimp only
  repeat' first
    | (with_reducible first | assumption | apply keeps_ite | apply keeps_id | apply keeps_entryTag | apply keeps_wr | apply keeps_modStripe)
    | (with_reducible first | apply keeps_foldl)
    | exact fun _ => rfl
    | (intro t; (try dsimp only); (repeat' split) <;> rfl)
    | (with_reducible apply Keeps.mk; dsimp only; with_reducible apply Keeps.ok)
    | (intro _; intros; try dsimp only)
    | split

theorem keeps_chain {s : State} (hi : Nat) (det : Nat) (a : RecArg) (hs : Keeps qq oo s) : Keeps qq oo (State.chain s hi det a) := by
  unfold State.chain
  try dsimp only
  repeat' first
    | (with_reducible first | assumption | apply keeps_bump | apply keeps_record)
    | (with_reducible apply Keeps.mk; dsimp only; with_reducible apply Keeps.ok)

theorem keeps_shareBeam {s : State} (x : Stripe) (f : Nat) (e : CycleFaults) (q : Nat × Nat × Nat × Nat) (hs : Keeps qq oo s) : Keeps qq oo (State.shareBeam s x f e q).1 := by
  unfold State.shareBeam
  try dsimp only
  repeat' first
    | (with_reducible first | assumption | apply keeps_ite | apply keeps_post | apply keeps_chain | apply keeps_tagFault | apply keeps_putWord)
    | (with_reducible apply Keeps.mk; dsimp only; with_reducible apply Keeps.ok)
    | (intro _; intros; try dsimp only)
    | split

theorem keeps_packFrames {s : State} (x : Stripe) (f : Nat) (codes : List (Nat × Nat)) (hs : Keeps qq oo s) : Keeps qq oo (State.packFrames s x f codes) := by
  unfold State.packFrames
  try dsimp only
  repeat' first
    | (with_reducible first | assumption | apply keeps_id | apply keeps_foldl)
    | (with_reducible apply Keeps.mk; dsimp only; with_reducible apply Keeps.ok)
    | (intro _; intros; try dsimp only)

theorem keeps_shares {s : State} (x : Stripe) (f : Nat) (e : CycleFaults) (hs : Keeps qq oo s) : Keeps qq oo (State.shares s x f e) := by
  unfold State.shares
  try dsimp only
  repeat' first
    | (with_reducible first | assumption | apply keeps_lowerCap | apply keeps_tagFault | apply keeps_shareBeam | apply keeps_packFrames)
    | (with_reducible first | apply keeps_foldl | apply keeps_foldl_fst)
    | (with_reducible apply Keeps.mk; dsimp only; with_reducible apply Keeps.ok)
    | (intro _; intros; try dsimp only)

theorem keeps_returnPending {s : State} (hs : Keeps qq oo s) : Keeps qq oo (State.returnPending s) := by
  unfold State.returnPending
  try dsimp only
  repeat' first
    | (with_reducible first | assumption | apply keeps_ite | apply keeps_returnShares | apply keeps_foldl)
    | (intro _; intros; try dsimp only)
    | split

theorem keeps_cycle {s : State} (x : Stripe) (f : Nat) (e : CycleFaults) (hs : Keeps qq oo s) : Keeps qq oo (State.cycle s x f e) := by
  unfold State.cycle
  try dsimp only
  repeat' first
    | (with_reducible first | assumption | apply keeps_leaveRow | apply keeps_returnPending | apply keeps_applyCarries | apply keeps_enterRow)
    | (with_reducible first | apply keeps_shares | apply keeps_modStripe | apply keeps_sramErrs)
    | exact fun _ => rfl
    | (intro t; (try dsimp only); (repeat' split) <;> rfl)
    | (with_reducible apply Keeps.mk; dsimp only; with_reducible apply Keeps.ok)
    | (intro _; intros; try dsimp only)

theorem keeps_fieldLate {s : State} (x : Stripe) (f : Nat) (hs : Keeps qq oo s) : Keeps qq oo (State.fieldLate s x f) := by
  unfold State.fieldLate
  try dsimp only
  repeat' first
    | (with_reducible first | assumption | apply keeps_contain)
    | (with_reducible apply Keeps.mk; dsimp only; with_reducible apply Keeps.ok)
    | (intro _; intros; try dsimp only)
    | split

theorem keeps_runCycle {s : State} (x : Stripe) (e : CycleFaults) (hs : Keeps qq oo s) : Keeps qq oo (State.runCycle s x e) := by
  unfold State.runCycle
  repeat' first
    | (with_reducible first | assumption | apply keeps_ite | apply keeps_fieldLate | apply keeps_cycle)
    | split

theorem keeps_firstCycles : ∀ (n : Nat) (ord : Nat) {s : State}, Keeps qq oo s → Keeps qq oo (State.firstCycles n ord s)
  | 0, _, _, h => h
  | n + 1, ord, s, h => by
    unfold State.firstCycles
    split
    · exact h
    · split
      · exact h
      · exact keeps_firstCycles n ord (keeps_runCycle _ _ h)

theorem keeps_showCycle {s : State} (ns : Nat) (hs : Keeps qq oo s) : Keeps qq oo (State.showCycle s ns) := by
  unfold State.showCycle
  repeat' first
    | (with_reducible first | assumption | apply keeps_maxFld | apply keeps_setFld)

theorem keeps_execShareCycle (late : Bool) (ns : Nat) (badEntry : List Nat) (badShare : List Nat) (badPack : List Nat) (badWords : List (Nat × Nat)) (sram : List SramErr) (fx : ExitFaults) {s : State} (hs : Keeps qq oo s) : KeepsOut qq oo (execShareCycle late ns badEntry badShare badPack badWords sram fx s) := by
  unfold execShareCycle
  try dsimp only
  repeat' first
    | (with_reducible first | assumption | exact trivial | apply keepsOut_next | apply keepsOut_ite | apply keeps_ite | apply keeps_contain)
    | (with_reducible first | apply keeps_runCycle | apply keeps_showCycle)
    | (with_reducible apply Keeps.mk; dsimp only; with_reducible apply Keeps.ok)
    | split

theorem keeps_loadShepherd {s : State} (id : Nat) (t : List Byte) {u : State} (h : Keeps qq oo s) (e : State.loadShepherd s id t = .ok u) : Keeps qq oo u := by
  revert e
  unfold State.loadShepherd
  try dsimp only
  repeat' first
    | with_reducible assumption
    | (intro e; cases e)
    | (intro e; injection e; subst_vars)
    | with_reducible apply keeps_ite
    | (with_reducible apply Keeps.mk; dsimp only; with_reducible apply Keeps.ok)
    | split

end Sys2Proof.Machine
end

