-- ==== Sys2Proof/Laws/KeepsFlink.lean ====
section
/-! SUPPORT. Each operation of Machine/Flink.lean keeps what Keeps says. -/

set_option linter.unusedVariables false
set_option linter.tactic.unusedName false

namespace Sys2Proof.Machine

variable {qq : List Instr} {oo : List Out}

theorem keeps_countMiss {s : State} (lane : Nat) (n : Nat) (hs : Keeps qq oo s) : Keeps qq oo (State.countMiss s lane n) := by
  unfold State.countMiss
  try dsimp only
  repeat' first
    | (with_reducible first | assumption | apply keeps_bump | apply keeps_setLane)
    | (with_reducible apply Keeps.mk; dsimp only; with_reducible apply Keeps.ok)

theorem keeps_carryFrame {s : State} (f : LinkFrame) (slots : List Nat) (copyBad : Bool) (hs : Keeps qq oo s) : Keeps qq oo (State.carryFrame s f slots copyBad) := by
  unfold State.carryFrame
  try dsimp only
  repeat' first
    | (with_reducible first | assumption | apply keeps_ite | apply keeps_post | apply keeps_chain | apply keeps_modFrame)
    | (with_reducible apply Keeps.mk; dsimp only; with_reducible apply Keeps.ok)
    | (intro _; intros; try dsimp only)
    | split

theorem keeps_cutMark {s : State} (f : LinkFrame) (copyBad : Bool) (hs : Keeps qq oo s) : Keeps qq oo (State.cutMark s f copyBad) := by
  unfold State.cutMark
  try dsimp only
  repeat' first
    | (with_reducible first | assumption | apply keeps_ite | apply keeps_post | apply keeps_chain | apply keeps_modFrame | apply keeps_record)
    | (with_reducible apply Keeps.mk; dsimp only; with_reducible apply Keeps.ok)
    | (intro _; intros; try dsimp only)
    | split

theorem keeps_cutFrame {s : State} (f : LinkFrame) (copyBad : Bool) (hs : Keeps qq oo s) : Keeps qq oo (State.cutFrame s f copyBad) := by
  unfold State.cutFrame
  try dsimp only
  repeat' first
    | (with_reducible first | assumption | apply keeps_cutMark | apply keeps_modFrame)
    | (with_reducible apply Keeps.mk; dsimp only; with_reducible apply Keeps.ok)
    | (intro _; intros; try dsimp only)

theorem keeps_conflict {s : State} (f : LinkFrame) (hs : Keeps qq oo s) : Keeps qq oo (State.conflict s f) := by
  unfold State.conflict
  try dsimp only
  repeat' first
    | (with_reducible first | assumption | apply keeps_ite | apply keeps_cutFrame | apply keeps_record)
    | (with_reducible apply Keeps.mk; dsimp only; with_reducible apply Keeps.ok)
    | split

theorem keeps_slotsDone {s : State} (lane : Nat) (index : Nat) (copyBad : Bool) (hs : Keeps qq oo s) : Keeps qq oo (State.slotsDone s lane index copyBad) := by
  unfold State.slotsDone
  try dsimp only
  repeat' first
    | (with_reducible first | assumption | apply keeps_ite | apply keeps_carryFrame | apply keeps_countMiss | apply keeps_record)
    | (with_reducible first | apply keeps_modFrame | apply keeps_foldl)
    | (with_reducible apply Keeps.mk; dsimp only; with_reducible apply Keeps.ok)
    | (intro _; intros; try dsimp only)
    | split

theorem keeps_trySettle {s : State} (lane : Nat) (index : Nat) (copyBad : Bool) (hs : Keeps qq oo s) : Keeps qq oo (State.trySettle s lane index copyBad) := by
  unfold State.trySettle
  try dsimp only
  repeat' first
    | (with_reducible first | assumption | apply keeps_ite | apply keeps_chain | apply keeps_modFrame)
    | (with_reducible apply Keeps.mk; dsimp only; with_reducible apply Keeps.ok)
    | (intro _; intros; try dsimp only)
    | split

theorem keeps_laneDown {s : State} (lane : Nat) (hs : Keeps qq oo s) : Keeps qq oo (State.laneDown s lane) := by
  unfold State.laneDown
  try dsimp only
  repeat' first
    | (with_reducible first | assumption | apply keeps_ite | apply keeps_conflict | apply keeps_setLane | apply keeps_record)
    | (with_reducible first | apply keeps_foldl)
    | (with_reducible apply Keeps.mk; dsimp only; with_reducible apply Keeps.ok)
    | (intro _; intros; try dsimp only)
    | split

theorem keeps_laneFail {s : State} (lane : Nat) (code : Nat) (detail : Nat) (hs : Keeps qq oo s) : Keeps qq oo (State.laneFail s lane code detail) := by
  unfold State.laneFail
  try dsimp only
  repeat' first
    | (with_reducible first | assumption | apply keeps_setLane | apply keeps_record)
    | (with_reducible apply Keeps.mk; dsimp only; with_reducible apply Keeps.ok)

theorem keeps_retrainLane {s : State} (lane : Nat) (hs : Keeps qq oo s) : Keeps qq oo (State.retrainLane s lane) := by
  unfold State.retrainLane
  try dsimp only
  repeat' first
    | (with_reducible first | assumption | apply keeps_ite | apply keeps_setLane | apply keeps_emit)
    | (with_reducible apply Keeps.mk; dsimp only; with_reducible apply Keeps.ok)
    | split

theorem keeps_withhold {s : State} (f : LinkFrame) (hs : Keeps qq oo s) : Keeps qq oo (State.withhold s f) := by
  unfold State.withhold
  try dsimp only
  repeat' first
    | (with_reducible first | assumption | apply keeps_post | apply keeps_modFrame | apply keeps_inc | apply keeps_countMiss)
    | (with_reducible first | apply keeps_record)
    | (with_reducible apply Keeps.mk; dsimp only; with_reducible apply Keeps.ok)
    | (intro _; intros; try dsimp only)

theorem keeps_sendFrame {s : State} (f : LinkFrame) (slack : Option Nat) (lateNs : Nat) (hs : Keeps qq oo s) : Keeps qq oo (State.sendFrame s f slack lateNs) := by
  unfold State.sendFrame
  try dsimp only
  repeat' first
    | (with_reducible first | assumption | apply keeps_ite | apply keeps_setLane | apply keeps_modFrames | apply keeps_modFrame)
    | (with_reducible first | apply keeps_noteSlack | apply keeps_setFld | apply keeps_emit)
    | (with_reducible apply Keeps.mk; dsimp only; with_reducible apply Keeps.ok)
    | (intro _; intros; try dsimp only)
    | split

theorem keeps_execFrameSend (lane : Nat) (slack : Option Nat) (lateNs : Nat) {s : State} (hs : Keeps qq oo s) : KeepsOut qq oo (execFrameSend lane slack lateNs s) := by
  unfold execFrameSend
  try dsimp only
  repeat' first
    | (with_reducible first | assumption | exact trivial | apply keepsOut_next | apply keepsOut_ite | apply keeps_ite | apply keeps_withhold)
    | (with_reducible first | apply keeps_boundaryOf | apply keeps_sendFrame)
    | (with_reducible apply Keeps.mk; dsimp only; with_reducible apply Keeps.ok)
    | (intro _; intros; try dsimp only)
    | split

theorem keeps_badMsg {s : State} (m : BitVec 64) (hs : Keeps qq oo s) : Keeps qq oo (State.badMsg s m) := by
  unfold State.badMsg
  try dsimp only
  repeat' first
    | (with_reducible first | assumption | apply keeps_record)
    | (with_reducible apply Keeps.mk; dsimp only; with_reducible apply Keeps.ok)

theorem keeps_message {s : State} (m : BitVec 64) (typ : Nat) {take : State → State} (hs : Keeps qq oo s) (htake : ∀ t, Keeps qq oo t → Keeps qq oo (take t)) : KeepsOut qq oo (State.message s m typ take) := by
  unfold State.message
  repeat' first
    | (with_reducible first | assumption | exact trivial | apply keepsOut_next | apply keepsOut_ite | apply keeps_ite | apply htake)
    | (with_reducible first | apply keeps_badMsg | apply keeps_take)
    | split

theorem keeps_replay {s : State} (f : LinkFrame) (copyBad : Bool) (slack : Option Nat) (hs : Keeps qq oo s) : Keeps qq oo (State.replay s f copyBad slack) := by
  unfold State.replay
  try dsimp only
  repeat' first
    | (with_reducible first | assumption | apply keeps_ite | apply keeps_chain | apply keeps_modFrame | apply keeps_setLane)
    | (with_reducible apply Keeps.mk; dsimp only; with_reducible apply Keeps.ok)
    | (intro _; intros; try dsimp only)
    | split

theorem keeps_nak {s : State} (f : LinkFrame) (silent : Bool) (copyBad : Bool) (slack : Option Nat) (hs : Keeps qq oo s) : Keeps qq oo (State.nak s f silent copyBad slack) := by
  unfold State.nak
  try dsimp only
  repeat' first
    | (with_reducible first | assumption | apply keeps_ite | apply keeps_setLane | apply keeps_inc | apply keeps_record | apply keeps_modFrame)
    | (with_reducible first | apply keeps_replay | apply keeps_laneDown)
    | (with_reducible apply Keeps.mk; dsimp only; with_reducible apply Keeps.ok)
    | (intro _; intros; try dsimp only)
    | split

theorem keeps_execRxStatus (m : BitVec 64) (copyBad : Bool) (slack : Option Nat) {s : State} (hs : Keeps qq oo s) : KeepsOut qq oo (execRxStatus m copyBad slack s) := by
  unfold execRxStatus
  try dsimp only
  repeat' first
    | (with_reducible first | assumption | exact trivial | apply keepsOut_next | apply keepsOut_ite | apply keeps_ite | apply keeps_message)
    | (with_reducible first | apply keeps_boundaryOf | apply keeps_nak | apply keeps_modFrame | apply keeps_setLane)
    | (with_reducible apply Keeps.mk; dsimp only; with_reducible apply Keeps.ok)
    | (intro _; intros; try dsimp only)
    | split

theorem keeps_execRxStatusTimeout (lane : Nat) (flash : Nat) (copyBad : Bool) (slack : Option Nat) {s : State} (hs : Keeps qq oo s) : KeepsOut qq oo (execRxStatusTimeout lane flash copyBad slack s) := by
  unfold execRxStatusTimeout
  try dsimp only
  repeat' first
    | (with_reducible first | assumption | exact trivial | apply keepsOut_next | apply keepsOut_ite | apply keeps_ite | apply keeps_boundaryOf)
    | (with_reducible first | apply keeps_nak)
    | (with_reducible apply Keeps.mk; dsimp only; with_reducible apply Keeps.ok)
    | split

theorem keeps_latchTake {s : State} (f : LinkFrame) (status : Nat) (count : Nat) (copyBad : Bool) (hs : Keeps qq oo s) : Keeps qq oo (State.latchTake s f status count copyBad) := by
  unfold State.latchTake
  try dsimp only
  repeat' first
    | (with_reducible first | assumption | apply keeps_ite | apply keeps_modFrame | apply keeps_setLane | apply keeps_take)
    | (with_reducible first | apply keeps_trySettle | apply keeps_conflict | apply keeps_carryFrame | apply keeps_countMiss)
    | (with_reducible first | apply keeps_record | apply keeps_cutMark | apply keeps_slotsDone)
    | (with_reducible apply Keeps.mk; dsimp only; with_reducible apply Keeps.ok)
    | (intro _; intros; try dsimp only)
    | split

theorem keeps_flashSlip {s : State} (lane : Nat) (lo : Nat) (hs : Keeps qq oo s) : Keeps qq oo (State.flashSlip s lane lo) := by
  unfold State.flashSlip
  try dsimp only
  repeat' first
    | (with_reducible first | assumption | apply keeps_contain | apply keeps_cutFrame | apply keeps_foldl)
    | (with_reducible apply Keeps.mk; dsimp only; with_reducible apply Keeps.ok)
    | (intro _; intros; try dsimp only)
    | split

theorem keeps_execLatch (m : BitVec 64) (copyBad : Bool) {s : State} (hs : Keeps qq oo s) : KeepsOut qq oo (execLatch m copyBad s) := by
  unfold execLatch
  try dsimp only
  repeat' first
    | (with_reducible first | assumption | exact trivial | apply keepsOut_next | apply keepsOut_ite | apply keeps_ite | apply keeps_message)
    | (with_reducible first | apply keeps_flashSlip | apply keeps_latchTake | apply keeps_conflict)
    | (with_reducible apply Keeps.mk; dsimp only; with_reducible apply Keeps.ok)
    | (intro _; intros; try dsimp only)
    | split

theorem keeps_beamFault {s : State} (f : LinkFrame) (slot : Nat) (fault : Nat) (hs : Keeps qq oo s) : Keeps qq oo (State.beamFault s f slot fault) := by
  unfold State.beamFault
  try dsimp only
  repeat' first
    | (with_reducible first | assumption | apply keeps_ite | apply keeps_record | apply keeps_strayWrite | apply keeps_post)
    | (with_reducible first | apply keeps_contain)
    | (with_reducible apply Keeps.mk; dsimp only; with_reducible apply Keeps.ok)
    | (intro _; intros; try dsimp only)
    | split

theorem keeps_execSlotMiss (m : BitVec 64) {s : State} (hs : Keeps qq oo s) : KeepsOut qq oo (execSlotMiss m s) := by
  unfold execSlotMiss
  try dsimp only
  repeat' first
    | (with_reducible first | assumption | exact trivial | apply keepsOut_next | apply keepsOut_ite | apply keeps_ite | apply keeps_message)
    | (with_reducible first | apply keeps_conflict | apply keeps_modFrame | apply keeps_beamFault | apply keeps_slotsDone)
    | (with_reducible first | apply keeps_trySettle)
    | (with_reducible apply Keeps.mk; dsimp only; with_reducible apply Keeps.ok)
    | (intro _; intros; try dsimp only)
    | split

theorem keeps_mismatchRec {s : State} (f : LinkFrame) (got : Nat) (stripe : Option (Nat × Nat)) (hs : Keeps qq oo s) : Keeps qq oo (State.mismatchRec s f got stripe) := by
  unfold State.mismatchRec
  try dsimp only
  repeat' first
    | (with_reducible first | assumption | apply keeps_inc | apply keeps_wr | apply keeps_record)
    | (with_reducible apply Keeps.mk; dsimp only; with_reducible apply Keeps.ok)

theorem keeps_mismatch {s : State} (f : LinkFrame) (got : Nat) (hs : Keeps qq oo s) : Keeps qq oo (State.mismatch s f got) := by
  unfold State.mismatch
  try dsimp only
  repeat' first
    | (with_reducible first | assumption | apply keeps_mismatchRec | apply keeps_post | apply keeps_modFrame)
    | (with_reducible apply Keeps.mk; dsimp only; with_reducible apply Keeps.ok)
    | (intro _; intros; try dsimp only)

theorem keeps_testEcho {s : State} (lane : Nat) (lo : Nat) (got : Nat) (hs : Keeps qq oo s) : Keeps qq oo (State.testEcho s lane lo got) := by
  unfold State.testEcho
  try dsimp only
  repeat' first
    | (with_reducible first | assumption | apply keeps_ite | apply keeps_inc | apply keeps_setLane | apply keeps_mismatchRec)
    | (with_reducible first | apply keeps_laneFail)
    | (with_reducible apply Keeps.mk; dsimp only; with_reducible apply Keeps.ok)
    | (intro _; intros; try dsimp only)
    | split

theorem keeps_execEcho (m : BitVec 64) {s : State} (hs : Keeps qq oo s) : KeepsOut qq oo (execEcho m s) := by
  unfold execEcho
  try dsimp only
  repeat' first
    | (with_reducible first | assumption | exact trivial | apply keepsOut_next | apply keepsOut_ite | apply keeps_ite | apply keeps_message)
    | (with_reducible first | apply keeps_testEcho | apply keeps_conflict | apply keeps_inc | apply keeps_modFrame | apply keeps_trySettle)
    | (with_reducible first | apply keeps_mismatch)
    | (with_reducible apply Keeps.mk; dsimp only; with_reducible apply Keeps.ok)
    | (intro _; intros; try dsimp only)
    | split

theorem keeps_execSensor (m : BitVec 64) {s : State} (hs : Keeps qq oo s) : KeepsOut qq oo (execSensor m s) := by
  unfold execSensor
  try dsimp only
  repeat' first
    | (with_reducible first | assumption | exact trivial | apply keepsOut_next | apply keepsOut_ite | apply keeps_ite | apply keeps_message)
    | (with_reducible apply Keeps.mk; dsimp only; with_reducible apply Keeps.ok)
    | (intro _; intros; try dsimp only)
    | split

theorem keeps_execFlinkSensorSilent (i : Nat) {s : State} (hs : Keeps qq oo s) : KeepsOut qq oo (execFlinkSensorSilent i s) := by
  unfold execFlinkSensorSilent
  try dsimp only
  repeat' first
    | (with_reducible first | assumption | exact trivial | apply keepsOut_next | apply keepsOut_ite | apply keeps_ite | apply keeps_record)
    | (with_reducible apply Keeps.mk; dsimp only; with_reducible apply Keeps.ok)
    | split

theorem keeps_execBlankerCaps (m : BitVec 64) {s : State} (hs : Keeps qq oo s) : KeepsOut qq oo (execBlankerCaps m s) := by
  unfold execBlankerCaps
  try dsimp only
  repeat' first
    | (with_reducible first | assumption | exact trivial | apply keepsOut_next | apply keepsOut_ite | apply keeps_ite | apply keeps_message)
    | (with_reducible first | apply keeps_setLane | apply keeps_laneFail)
    | (with_reducible apply Keeps.mk; dsimp only; with_reducible apply Keeps.ok)
    | (intro _; intros; try dsimp only)
    | split

theorem keeps_execBlankerEvent (m : BitVec 64) {s : State} (hs : Keeps qq oo s) : KeepsOut qq oo (execBlankerEvent m s) := by
  unfold execBlankerEvent
  try dsimp only
  repeat' first
    | (with_reducible first | assumption | exact trivial | apply keepsOut_next | apply keepsOut_ite | apply keeps_ite | apply keeps_message)
    | (with_reducible first | apply keeps_laneDown | apply keeps_laneFail)
    | (with_reducible apply Keeps.mk; dsimp only; with_reducible apply Keeps.ok)
    | (intro _; intros; try dsimp only)
    | split

theorem keeps_execFlinkReportLate (lane : Nat) (flash : Nat) {s : State} (hs : Keeps qq oo s) : KeepsOut qq oo (execFlinkReportLate lane flash s) := by
  unfold execFlinkReportLate
  try dsimp only
  repeat' first
    | (with_reducible first | assumption | exact trivial | apply keepsOut_next | apply keepsOut_ite | apply keeps_ite | apply keeps_inc)
    | (with_reducible first | apply keeps_modFrame | apply keeps_emit | apply keeps_record)
    | (with_reducible apply Keeps.mk; dsimp only; with_reducible apply Keeps.ok)
    | (intro _; intros; try dsimp only)
    | split

theorem keeps_execReportAgainRetry (lane : Nat) (flash : Nat) {s : State} (hs : Keeps qq oo s) : KeepsOut qq oo (execReportAgainRetry lane flash s) := by
  unfold execReportAgainRetry
  try dsimp only
  repeat' first
    | (with_reducible first | assumption | exact trivial | apply keepsOut_next | apply keepsOut_ite | apply keeps_ite | apply keeps_modFrame)
    | (with_reducible first | apply keeps_emit | apply keeps_laneDown)
    | (with_reducible apply Keeps.mk; dsimp only; with_reducible apply Keeps.ok)
    | (intro _; intros; try dsimp only)
    | split

theorem keeps_execReturnLaneLockLost (q : Nat) {s : State} (hs : Keeps qq oo s) : KeepsOut qq oo (execReturnLaneLockLost q s) := by
  unfold execReturnLaneLockLost
  try dsimp only
  repeat' first
    | (with_reducible first | assumption | exact trivial | apply keepsOut_next | apply keepsOut_ite | apply keeps_ite | apply keeps_laneDown)
    | (with_reducible first | apply keeps_foldl)
    | (with_reducible apply Keeps.mk; dsimp only; with_reducible apply Keeps.ok)
    | (intro _; intros; try dsimp only)
    | split

theorem keeps_execLaneCapsDone (lane : Nat) {s : State} (hs : Keeps qq oo s) : KeepsOut qq oo (execLaneCapsDone lane s) := by
  unfold execLaneCapsDone
  try dsimp only
  repeat' first
    | (with_reducible first | assumption | exact trivial | apply keepsOut_next | apply keepsOut_ite | apply keeps_ite | apply keeps_laneFail)
    | (with_reducible first | apply keeps_setLane)
    | (with_reducible apply Keeps.mk; dsimp only; with_reducible apply Keeps.ok)
    | split

theorem keeps_execLaneEyeMeasured (lane : Nat) (w : Nat) (h : Nat) {s : State} (hs : Keeps qq oo s) : KeepsOut qq oo (execLaneEyeMeasured lane w h s) := by
  unfold execLaneEyeMeasured
  try dsimp only
  repeat' first
    | (with_reducible first | assumption | exact trivial | apply keepsOut_next | apply keepsOut_ite | apply keeps_ite | apply keeps_setLane)
    | (with_reducible first | apply keeps_emit | apply keeps_laneFail)
    | (with_reducible apply Keeps.mk; dsimp only; with_reducible apply Keeps.ok)
    | (intro _; intros; try dsimp only)
    | split

theorem keeps_keepLane {s : State} (lane : Nat) (hs : Keeps qq oo s) : Keeps qq oo (State.keepLane s lane) := by
  unfold State.keepLane
  try dsimp only
  repeat' first
    | (with_reducible first | assumption | apply keeps_fresh | apply keeps_putKeep | apply keeps_take)
    | (with_reducible apply Keeps.mk; dsimp only; with_reducible apply Keeps.ok)

theorem keeps_laneIdle {s : State} (lane : Nat) (hs : Keeps qq oo s) : Keeps qq oo (State.laneIdle s lane) := by
  unfold State.laneIdle
  try dsimp only
  repeat' first
    | (with_reducible first | assumption | apply keeps_setLane | apply keeps_emit | apply keeps_laneComes)
    | (with_reducible apply Keeps.mk; dsimp only; with_reducible apply Keeps.ok)

theorem keeps_execLaneBlockLock (lane : Nat) (order : Bool) {s : State} (hs : Keeps qq oo s) : KeepsOut qq oo (execLaneBlockLock lane order s) := by
  unfold execLaneBlockLock
  try dsimp only
  repeat' first
    | (with_reducible first | assumption | exact trivial | apply keepsOut_next | apply keepsOut_ite | apply keeps_ite | apply keeps_laneFail)
    | (with_reducible first | apply keeps_setLane | apply keeps_laneIdle | apply keeps_emit)
    | (with_reducible apply Keeps.mk; dsimp only; with_reducible apply Keeps.ok)
    | split

theorem keeps_laneUp {s : State} (lane : Nat) (hs : Keeps qq oo s) : Keeps qq oo (State.laneUp s lane) := by
  unfold State.laneUp
  try dsimp only
  repeat' first
    | (with_reducible first | assumption | apply keeps_ite | apply keeps_laneIdle | apply keeps_setLane | apply keeps_keepLane)
    | (with_reducible first | apply keeps_record)
    | (with_reducible apply Keeps.mk; dsimp only; with_reducible apply Keeps.ok)
    | split

theorem keeps_execLaneVerifyDone (lane : Nat) (ok : Bool) {s : State} (hs : Keeps qq oo s) : KeepsOut qq oo (execLaneVerifyDone lane ok s) := by
  unfold execLaneVerifyDone
  try dsimp only
  repeat' first
    | (with_reducible first | assumption | exact trivial | apply keepsOut_next | apply keepsOut_ite | apply keeps_ite | apply keeps_laneFail)
    | (with_reducible first | apply keeps_laneUp)
    | (with_reducible apply Keeps.mk; dsimp only; with_reducible apply Keeps.ok)
    | split

theorem keeps_execFlinkTrainFail (lane : Nat) {s : State} (hs : Keeps qq oo s) : KeepsOut qq oo (execFlinkTrainFail lane s) := by
  unfold execFlinkTrainFail
  repeat' first
    | (with_reducible first | assumption | exact trivial | apply keepsOut_next | apply keepsOut_ite | apply keeps_ite | apply keeps_laneFail)
    | split

theorem keeps_execRetrain (o : Origin) (v : Nat) {s : State} (hs : Keeps qq oo s) : KeepsOut qq oo (execRetrain o v s) := by
  unfold execRetrain
  try dsimp only
  repeat' first
    | (with_reducible first | assumption | exact trivial | apply keepsOut_next | apply keepsOut_ite | apply keeps_ite | apply keeps_act)
    | (with_reducible first | apply keeps_setLane | apply keeps_retrainLane | apply keeps_foldl)
    | (with_reducible apply Keeps.mk; dsimp only; with_reducible apply Keeps.ok)
    | (intro _; intros; try dsimp only)
    | split

theorem keeps_execLaneRetrainTurnaround (lane : Nat) {s : State} (hs : Keeps qq oo s) : KeepsOut qq oo (execLaneRetrainTurnaround lane s) := by
  unfold execLaneRetrainTurnaround
  repeat' first
    | (with_reducible first | assumption | exact trivial | apply keepsOut_next | apply keepsOut_ite | apply keeps_ite | apply keeps_retrainLane)
    | (intro _; intros; try dsimp only)
    | split

theorem keeps_execLpiEntry (lane : Nat) {s : State} (hs : Keeps qq oo s) : KeepsOut qq oo (execLpiEntry lane s) := by
  unfold execLpiEntry
  try dsimp only
  repeat' first
    | (with_reducible first | assumption | exact trivial | apply keepsOut_next | apply keepsOut_ite | apply keeps_ite | apply keeps_setLane)
    | (with_reducible first | apply keeps_emit)
    | (with_reducible apply Keeps.mk; dsimp only; with_reducible apply Keeps.ok)
    | split

theorem keeps_wakeLanes {s : State} (hs : Keeps qq oo s) : Keeps qq oo (State.wakeLanes s) := by
  unfold State.wakeLanes
  try dsimp only
  repeat' first
    | (with_reducible first | assumption | apply keeps_ite | apply keeps_setLane | apply keeps_emit | apply keeps_foldl)
    | (with_reducible apply Keeps.mk; dsimp only; with_reducible apply Keeps.ok)
    | (intro _; intros; try dsimp only)
    | split

theorem keeps_execLaneEyeScan (lane : Nat) (w : Nat) (h : Nat) {s : State} (hs : Keeps qq oo s) : KeepsOut qq oo (execLaneEyeScan lane w h s) := by
  unfold execLaneEyeScan
  try dsimp only
  repeat' first
    | (with_reducible first | assumption | exact trivial | apply keepsOut_next | apply keepsOut_ite | apply keeps_ite | apply keeps_setLane)
    | (with_reducible apply Keeps.mk; dsimp only; with_reducible apply Keeps.ok)
    | split

end Sys2Proof.Machine
end

