-- ==== Sys2Proof/Laws/KeepsDrover.lean ====
section
/-! SUPPORT. Each operation of Machine/Drover.lean keeps what Keeps says. -/

set_option linter.unusedVariables false
set_option linter.tactic.unusedName false

namespace Sys2Proof.Machine

variable {qq : List Instr} {oo : List Out}

theorem keeps_setEnc {s : State} (ch : Nat) (e : Enc) (hs : Keeps qq oo s) : Keeps qq oo (State.setEnc s ch e) := by
  unfold State.setEnc
  try dsimp only
  repeat' first
    | (with_reducible first | assumption)
    | (with_reducible apply Keeps.mk; dsimp only; with_reducible apply Keeps.ok)
    | (intro _; intros; try dsimp only)

theorem keeps_take {s : State} (ch : Nat) (m : ChanIn) (hs : Keeps qq oo s) : Keeps qq oo (State.take s ch m) := by
  unfold State.take
  try dsimp only
  repeat' first
    | (with_reducible first | assumption | apply keeps_setEnc | apply keeps_foldl)
    | (with_reducible apply Keeps.mk; dsimp only; with_reducible apply Keeps.ok)
    | (intro _; intros; try dsimp only)
    | split

theorem keeps_see {s : State} (m : Sample) (hs : Keeps qq oo s) : Keeps qq oo (State.see s m) := by
  unfold State.see
  repeat' first
    | (with_reducible first | assumption | apply keeps_ite | apply keeps_take | apply keeps_foldl)
    | (intro _; intros; try dsimp only)
    | split

theorem keeps_execEncZEdge (ch : Nat) (inp : ChanIn) {s : State} (hs : Keeps qq oo s) : KeepsOut qq oo (execEncZEdge ch inp s) := by
  unfold execEncZEdge
  try dsimp only
  repeat' first
    | (with_reducible first | assumption | exact trivial | apply keepsOut_next | apply keepsOut_ite | apply keeps_ite | apply keeps_take)
    | (with_reducible first | apply keeps_setEnc)
    | (with_reducible apply Keeps.mk; dsimp only; with_reducible apply Keeps.ok)
    | split

theorem keeps_execDetect (o : Origin) (v : Nat) {s : State} (hs : Keeps qq oo s) : KeepsOut qq oo (execDetect o v s) := by
  unfold execDetect
  try dsimp only
  repeat' first
    | (with_reducible first | assumption | exact trivial | apply keepsOut_next | apply keepsOut_ite | apply keeps_ite | apply keeps_act)
    | (with_reducible first | apply keeps_setEnc | apply keeps_foldl)
    | (with_reducible apply Keeps.mk; dsimp only; with_reducible apply Keeps.ok)
    | (intro _; intros; try dsimp only)
    | split

theorem keeps_execDetectDone (modes : List Nat) (loopNs : List Nat) {s : State} (hs : Keeps qq oo s) : KeepsOut qq oo (execDetectDone modes loopNs s) := by
  unfold execDetectDone
  try dsimp only
  repeat' first
    | (with_reducible first | assumption | exact trivial | apply keepsOut_next | apply keepsOut_ite | apply keeps_ite | apply keeps_setEnc)
    | (with_reducible first | apply keeps_foldl)
    | (with_reducible apply Keeps.mk; dsimp only; with_reducible apply Keeps.ok)
    | (intro _; intros; try dsimp only)
    | split

theorem keeps_rewindDrover {s : State} (hs : Keeps qq oo s) : Keeps qq oo (State.rewindDrover s) := by
  unfold State.rewindDrover
  try dsimp only
  repeat' first
    | (with_reducible first | assumption)
    | (with_reducible apply Keeps.mk; dsimp only; with_reducible apply Keeps.ok)

theorem keeps_showDemand {s : State} (hs : Keeps qq oo s) : Keeps qq oo (State.showDemand s) := by
  unfold State.showDemand
  try dsimp only
  repeat' first
    | (with_reducible first | assumption | apply keeps_maxFld | apply keeps_setFld)
    | (with_reducible apply Keeps.mk; dsimp only; with_reducible apply Keeps.ok)

theorem keeps_locate {s : State} (x : Stripe) (hs : Keeps qq oo s) : Keeps qq oo (State.locate s x) := by
  unfold State.locate
  try dsimp only
  repeat' first
    | (with_reducible first | assumption | apply keeps_setFld | apply keeps_showDemand)
    | (with_reducible apply Keeps.mk; dsimp only; with_reducible apply Keeps.ok)

theorem keeps_sample {s : State} (x : Stripe) (m : Sample) (hs : Keeps qq oo s) : Keeps qq oo (State.sample s x m) := by
  unfold State.sample
  repeat' first
    | (with_reducible first | assumption | apply keeps_see | apply keeps_locate)

theorem keeps_peak {s : State} (hs : Keeps qq oo s) : Keeps qq oo (State.peak s) := by
  unfold State.peak
  try dsimp only
  repeat' first
    | (with_reducible first | assumption)
    | (with_reducible apply Keeps.mk; dsimp only; with_reducible apply Keeps.ok)

theorem keeps_fallback {s : State} (hs : Keeps qq oo s) : Keeps qq oo (State.fallback s) := by
  unfold State.fallback
  repeat' first
    | (with_reducible first | assumption | apply keeps_ite | apply keeps_setFld)
    | split

theorem keeps_cutFlashes {s : State} (l : List Nat) (hs : Keeps qq oo s) : Keeps qq oo (State.cutFlashes s l) := by
  unfold State.cutFlashes
  try dsimp only
  repeat' first
    | (with_reducible first | assumption)
    | (with_reducible apply Keeps.mk; dsimp only; with_reducible apply Keeps.ok)
    | (intro _; intros; try dsimp only)

theorem keeps_linkLost {s : State} (inWindow : Bool) (hs : Keeps qq oo s) : Keeps qq oo (State.linkLost s inWindow) := by
  unfold State.linkLost
  try dsimp only
  repeat' first
    | (with_reducible first | assumption | apply keeps_ite | apply keeps_fallback | apply keeps_contain | apply keeps_cutFlashes)
    | (with_reducible first | apply keeps_record)
    | (with_reducible apply Keeps.mk; dsimp only; with_reducible apply Keeps.ok)
    | split

theorem keeps_pace {s : State} (lim : Nat) (lag : Nat) (hs : Keeps qq oo s) : Keeps qq oo (State.pace s lim lag) := by
  unfold State.pace
  try dsimp only
  repeat' first
    | (with_reducible first | assumption | apply keeps_ite | apply keeps_wr | apply keeps_setFld | apply keeps_record)
    | (with_reducible apply Keeps.mk; dsimp only; with_reducible apply Keeps.ok)
    | split

theorem keeps_strobe {s : State} (x : Stripe) (hs : Keeps qq oo s) : Keeps qq oo (State.strobe s x) := by
  unfold State.strobe
  try dsimp only
  repeat' first
    | (with_reducible first | assumption | apply keeps_boundaryOf | apply keeps_take | apply keeps_wr64 | apply keeps_emit | apply keeps_foldl)
    | (with_reducible apply Keeps.mk; dsimp only; with_reducible apply Keeps.ok)
    | (intro _; intros; try dsimp only)

theorem keeps_withholdLate {s : State} (x : Stripe) (f : Nat) (hs : Keeps qq oo s) : Keeps qq oo (State.withholdLate s x f) := by
  unfold State.withholdLate
  repeat' first
    | (with_reducible first | assumption | apply keeps_withhold | apply keeps_foldl)
    | (intro _; intros; try dsimp only)

theorem keeps_lastFired {s : State} (x : Stripe) (hs : Keeps qq oo s) : Keeps qq oo (State.lastFired s x) := by
  unfold State.lastFired
  try dsimp only
  repeat' first
    | (with_reducible first | assumption | apply keeps_ite | apply keeps_modStripe | apply keeps_droverTo | apply keeps_showStripes)
    | exact fun _ => rfl
    | (intro t; (try dsimp only); (repeat' split) <;> rfl)
    | (with_reducible apply Keeps.mk; dsimp only; with_reducible apply Keeps.ok)
    | (intro _; intros; try dsimp only)
    | split

theorem keeps_missedCkpt {s : State} (x : Stripe) (hs : Keeps qq oo s) : Keeps qq oo (State.missedCkpt s x) := by
  unfold State.missedCkpt
  try dsimp only
  repeat' first
    | (with_reducible first | assumption | apply keeps_modStripe | apply keeps_fail | apply keeps_endIfDone | apply keeps_foldl)
    | exact fun _ => rfl
    | (intro t; (try dsimp only); (repeat' split) <;> rfl)
    | (with_reducible apply Keeps.mk; dsimp only; with_reducible apply Keeps.ok)
    | (intro _; intros; try dsimp only)

theorem keeps_afterStrobe {s : State} (x : Stripe) (hs : Keeps qq oo s) : Keeps qq oo (State.afterStrobe s x) := by
  unfold State.afterStrobe
  try dsimp only
  repeat' first
    | (with_reducible first | assumption | apply keeps_ite | apply keeps_contain | apply keeps_modStripe | apply keeps_missedCkpt)
    | exact fun _ => rfl
    | (intro t; (try dsimp only); (repeat' split) <;> rfl)
    | (with_reducible apply Keeps.mk; dsimp only; with_reducible apply Keeps.ok)
    | (intro _; intros; try dsimp only)
    | split

theorem keeps_fire {s : State} (x : Stripe) (sincePs : Nat) (hs : Keeps qq oo s) : Keeps qq oo (State.fire s x sincePs) := by
  unfold State.fire
  try dsimp only
  repeat' first
    | (with_reducible first | assumption | apply keeps_ite | apply keeps_fresh | apply keeps_take | apply keeps_strobe)
    | (with_reducible first | apply keeps_withholdLate | apply keeps_droverTo | apply keeps_pace | apply keeps_showDemand)
    | (with_reducible first | apply keeps_lastFired | apply keeps_afterStrobe)
    | (with_reducible apply Keeps.mk; dsimp only; with_reducible apply Keeps.ok)
    | split

theorem keeps_resumed {s : State} (x : Stripe) (hs : Keeps qq oo s) : Keeps qq oo (State.resumed s x) := by
  unfold State.resumed
  try dsimp only
  repeat' first
    | (with_reducible first | assumption | apply keeps_modStripe | apply keeps_setFld | apply keeps_showStripes)
    | exact fun _ => rfl
    | (intro t; (try dsimp only); (repeat' split) <;> rfl)
    | (with_reducible apply Keeps.mk; dsimp only; with_reducible apply Keeps.ok)
    | (intro _; intros; try dsimp only)

theorem keeps_overspeed {s : State} (hs : Keeps qq oo s) : Keeps qq oo (State.overspeed s) := by
  unfold State.overspeed
  repeat' first
    | (with_reducible first | assumption | apply keeps_ite | apply keeps_cutFlashes | apply keeps_contain)
    | (with_reducible apply Keeps.mk; dsimp only; with_reducible apply Keeps.ok)
    | split

theorem keeps_sampled {s : State} (x : Stripe) (m : Sample) (inWindow : Bool) (hs : Keeps qq oo s) : Keeps qq oo (State.sampled s x m inWindow) := by
  unfold State.sampled
  try dsimp only
  repeat' first
    | (with_reducible first | assumption | apply keeps_ite | apply keeps_sample | apply keeps_peak | apply keeps_overspeed)
    | (with_reducible apply Keeps.mk; dsimp only; with_reducible apply Keeps.ok)
    | split

theorem keeps_execFlashFire (smp : Sample) (sincePs : Nat) {s : State} (hs : Keeps qq oo s) : KeepsOut qq oo (execFlashFire smp sincePs s) := by
  unfold execFlashFire
  try dsimp only
  repeat' first
    | (with_reducible first | assumption | exact trivial | apply keepsOut_next | apply keepsOut_ite | apply keeps_ite | apply keeps_sample)
    | (with_reducible first | apply keeps_peak | apply keeps_overspeed | apply keeps_contain | apply keeps_resumed | apply keeps_fire)
    | (with_reducible apply Keeps.mk; dsimp only; with_reducible apply Keeps.ok)
    | split

theorem keeps_execZoneBoundary (smp : Sample) {s : State} (hs : Keeps qq oo s) : KeepsOut qq oo (execZoneBoundary smp s) := by
  unfold execZoneBoundary
  try dsimp only
  repeat' first
    | (with_reducible first | assumption | exact trivial | apply keepsOut_next | apply keepsOut_ite | apply keeps_ite | apply keeps_see)
    | (with_reducible first | apply keeps_sampled)
    | (with_reducible apply Keeps.mk; dsimp only; with_reducible apply Keeps.ok)
    | split

theorem keeps_confirmFlash {s : State} (i : Nat) (hs : Keeps qq oo s) : Keeps qq oo (State.confirmFlash s i) := by
  unfold State.confirmFlash
  try dsimp only
  repeat' first
    | (with_reducible first | assumption | apply keeps_ite | apply keeps_cutFrame | apply keeps_modFrames | apply keeps_foldl)
    | (with_reducible apply Keeps.mk; dsimp only; with_reducible apply Keeps.ok)
    | (intro _; intros; try dsimp only)
    | split

theorem keeps_execFlashConfirm (flash : Nat) {s : State} (hs : Keeps qq oo s) : KeepsOut qq oo (execFlashConfirm flash s) := by
  unfold execFlashConfirm
  repeat' first
    | (with_reducible first | assumption | exact trivial | apply keepsOut_next | apply keepsOut_ite | apply keeps_ite)
    | (with_reducible first | apply keeps_confirmFlash)
    | split

theorem keeps_execDroverOverspeed (smp : Sample) (inWindow : Bool) {s : State} (hs : Keeps qq oo s) : KeepsOut qq oo (execDroverOverspeed smp inWindow s) := by
  unfold execDroverOverspeed
  try dsimp only
  repeat' first
    | (with_reducible first | assumption | exact trivial | apply keepsOut_next | apply keepsOut_ite | apply keeps_ite | apply keeps_see)
    | (with_reducible first | apply keeps_sampled)
    | (with_reducible apply Keeps.mk; dsimp only; with_reducible apply Keeps.ok)
    | split

theorem keeps_loseChannel {s : State} (ch : Nat) (cause : Nat) (hs : Keeps qq oo s) : Keeps qq oo (State.loseChannel s ch cause) := by
  unfold State.loseChannel
  try dsimp only
  repeat' first
    | (with_reducible first | assumption | apply keeps_setEnc | apply keeps_wr)
    | (with_reducible apply Keeps.mk; dsimp only; with_reducible apply Keeps.ok)

theorem keeps_freezeCut {s : State} (cuts : List Nat) (hs : Keeps qq oo s) : Keeps qq oo (State.freezeCut s cuts) := by
  unfold State.freezeCut
  repeat' first
    | (with_reducible first | assumption | apply keeps_ite | apply keeps_record)
    | (with_reducible apply Keeps.mk; dsimp only; with_reducible apply Keeps.ok)
    | split

theorem keeps_takeOver {s : State} (hs : Keeps qq oo s) : Keeps qq oo (State.takeOver s) := by
  unfold State.takeOver
  try dsimp only
  repeat' first
    | (with_reducible first | assumption | apply keeps_setFld | apply keeps_record)
    | (with_reducible apply Keeps.mk; dsimp only; with_reducible apply Keeps.ok)

theorem keeps_atOnset {s : State} (l : Loss) (hs : Keeps qq oo s) : Keeps qq oo (State.atOnset s l) := by
  unfold State.atOnset
  try dsimp only
  repeat' first
    | (with_reducible first | assumption | apply keeps_ite | apply keeps_see | apply keeps_sample | apply keeps_peak)
    | (with_reducible apply Keeps.mk; dsimp only; with_reducible apply Keeps.ok)
    | split

theorem keeps_loss {s : State} (ch : Nat) (cause : Nat) (l : Loss) (hs : Keeps qq oo s) : Keeps qq oo (State.loss s ch cause l) := by
  unfold State.loss
  try dsimp only
  repeat' first
    | (with_reducible first | assumption | apply keeps_ite | apply keeps_atOnset | apply keeps_cutFlashes | apply keeps_loseChannel)
    | (with_reducible first | apply keeps_freezeCut | apply keeps_contain | apply keeps_takeOver)
    | (with_reducible apply Keeps.mk; dsimp only; with_reducible apply Keeps.ok)
    | (intro _; intros; try dsimp only)
    | split

theorem keeps_execPositionLoss (ch : Nat) (cause : Nat) (l : Loss) {s : State} (hs : Keeps qq oo s) : KeepsOut qq oo (execPositionLoss ch cause l s) := by
  unfold execPositionLoss
  repeat' first
    | (with_reducible first | assumption | exact trivial | apply keepsOut_next | apply keepsOut_ite | apply keeps_ite | apply keeps_loss)
    | split

theorem keeps_execEncFreeze (ch : Nat) (l : Loss) {s : State} (hs : Keeps qq oo s) : KeepsOut qq oo (execEncFreeze ch l s) := by
  unfold execEncFreeze
  repeat' first
    | (with_reducible first | assumption | exact trivial | apply keepsOut_next | apply keepsOut_ite | apply keeps_ite | apply keeps_loss)
    | split

theorem keeps_execEncWordSilent (ch : Nat) (l : Loss) {s : State} (hs : Keeps qq oo s) : KeepsOut qq oo (execEncWordSilent ch l s) := by
  unfold execEncWordSilent
  repeat' first
    | (with_reducible first | assumption | exact trivial | apply keepsOut_next | apply keepsOut_ite | apply keeps_ite | apply keeps_loss)
    | split

theorem keeps_execEncSerialWord (ch : Nat) (bits : List Bool) (l : Loss) {s : State} (hs : Keeps qq oo s) : KeepsOut qq oo (execEncSerialWord ch bits l s) := by
  unfold execEncSerialWord
  try dsimp only
  repeat' first
    | (with_reducible first | assumption | exact trivial | apply keepsOut_next | apply keepsOut_ite | apply keeps_ite | apply keeps_wr)
    | (with_reducible first | apply keeps_loss | apply keeps_setEnc | apply keeps_take)
    | (with_reducible apply Keeps.mk; dsimp only; with_reducible apply Keeps.ok)
    | split

theorem keeps_standstill {s : State} (st : Nat) (hs : Keeps qq oo s) : Keeps qq oo (State.standstill s st) := by
  unfold State.standstill
  repeat' first
    | (with_reducible first | assumption | apply keeps_droverTo | apply keeps_shadeOn | apply keeps_fallback)

theorem keeps_execStillEntry {s : State} (hs : Keeps qq oo s) : KeepsOut qq oo (execStillEntry s) := by
  unfold execStillEntry
  try dsimp only
  repeat' first
    | (with_reducible first | assumption | exact trivial | apply keepsOut_next | apply keepsOut_ite | apply keeps_ite | apply keeps_standstill)
    | (with_reducible apply Keeps.mk; dsimp only; with_reducible apply Keeps.ok)
    | split

theorem keeps_track {s : State} (hs : Keeps qq oo s) : Keeps qq oo (State.track s) := by
  unfold State.track
  try dsimp only
  repeat' first
    | (with_reducible first | assumption | apply keeps_droverTo | apply keeps_shadeOff)
    | (with_reducible apply Keeps.mk; dsimp only; with_reducible apply Keeps.ok)

theorem keeps_leaveStill {s : State} (hs : Keeps qq oo s) : Keeps qq oo (State.leaveStill s) := by
  unfold State.leaveStill
  repeat' first
    | (with_reducible first | assumption | apply keeps_ite | apply keeps_contain | apply keeps_track)
    | (with_reducible apply Keeps.mk; dsimp only; with_reducible apply Keeps.ok)
    | split

theorem keeps_execStillExit (smp : Sample) {s : State} (hs : Keeps qq oo s) : KeepsOut qq oo (execStillExit smp s) := by
  unfold execStillExit
  try dsimp only
  repeat' first
    | (with_reducible first | assumption | exact trivial | apply keepsOut_next | apply keepsOut_ite | apply keeps_ite | apply keeps_sample)
    | (with_reducible first | apply keeps_leaveStill | apply keeps_peak)
    | (with_reducible apply Keeps.mk; dsimp only; with_reducible apply Keeps.ok)
    | split

theorem keeps_execRewindGuard (smp : Sample) {s : State} (hs : Keeps qq oo s) : KeepsOut qq oo (execRewindGuard smp s) := by
  unfold execRewindGuard
  try dsimp only
  repeat' first
    | (with_reducible first | assumption | exact trivial | apply keepsOut_next | apply keepsOut_ite | apply keeps_ite | apply keeps_sample)
    | (with_reducible first | apply keeps_overspeed | apply keeps_peak | apply keeps_standstill | apply keeps_record)
    | (with_reducible apply Keeps.mk; dsimp only; with_reducible apply Keeps.ok)
    | split

theorem keeps_execRewindExit (smp : Sample) {s : State} (hs : Keeps qq oo s) : KeepsOut qq oo (execRewindExit smp s) := by
  unfold execRewindExit
  try dsimp only
  repeat' first
    | (with_reducible first | assumption | exact trivial | apply keepsOut_next | apply keepsOut_ite | apply keeps_ite | apply keeps_sample)
    | (with_reducible first | apply keeps_leaveStill | apply keeps_peak)
    | (with_reducible apply Keeps.mk; dsimp only; with_reducible apply Keeps.ok)
    | split

theorem keeps_startDrover {s : State} (x : Stripe) (hs : Keeps qq oo s) : Keeps qq oo (State.startDrover s x) := by
  unfold State.startDrover
  try dsimp only
  repeat' first
    | (with_reducible first | assumption | apply keeps_setEnc | apply keeps_setFld | apply keeps_wr | apply keeps_modStripe)
    | (with_reducible first | apply keeps_droverTo | apply keeps_foldl)
    | exact fun _ => rfl
    | (intro t; (try dsimp only); (repeat' split) <;> rfl)
    | (with_reducible apply Keeps.mk; dsimp only; with_reducible apply Keeps.ok)
    | (intro _; intros; try dsimp only)
    | split

theorem keeps_loadZones {s : State} (t : List Byte) {u : State} (h : Keeps qq oo s) (e : State.loadZones s t = .ok u) : Keeps qq oo u := by
  revert e
  unfold State.loadZones
  try dsimp only
  repeat' first
    | with_reducible assumption
    | (intro e; cases e)
    | (intro e; injection e; subst_vars)
    | with_reducible apply keeps_ite
    | (with_reducible apply Keeps.mk; dsimp only; with_reducible apply Keeps.ok)
    | split

end Sys2Proof.Machine
end

