-- ==== Sys2Proof/Laws/KeepsDefl.lean ====
section
/-! SUPPORT. Each operation of Machine/Defl.lean keeps what Keeps says. -/

set_option linter.unusedVariables false
set_option linter.tactic.unusedName false

namespace Sys2Proof.Machine

variable {qq : List Instr} {oo : List Out}

theorem keeps_loadTrack {s : State} (axis : Nat) (t : List Byte) {u : State} (h : Keeps qq oo s) (e : State.loadTrack s axis t = .ok u) : Keeps qq oo u := by
  revert e
  unfold State.loadTrack
  try dsimp only
  repeat' first
    | with_reducible assumption
    | (intro e; cases e)
    | (intro e; injection e; subst_vars)
    | with_reducible apply keeps_ite
    | (with_reducible apply Keeps.mk; dsimp only; with_reducible apply Keeps.ok)
    | split

theorem keeps_putOut {s : State} (v : List Int) (hs : Keeps qq oo s) : Keeps qq oo (State.putOut s v) := by
  unfold State.putOut
  try dsimp only
  repeat' first
    | (with_reducible first | assumption | apply keeps_wr | apply keeps_emit)
    | (with_reducible apply Keeps.mk; dsimp only; with_reducible apply Keeps.ok)
    | (intro _; intros; try dsimp only)

theorem keeps_rampOut {s : State} (goal : List Int) (hs : Keeps qq oo s) : Keeps qq oo (State.rampOut s goal) := by
  unfold State.rampOut
  try dsimp only
  repeat' first
    | (with_reducible first | assumption | apply keeps_putOut)
    | (intro _; intros; try dsimp only)

theorem keeps_saturated {s : State} (hs : Keeps qq oo s) : Keeps qq oo (State.saturated s) := by
  unfold State.saturated
  repeat' first
    | (with_reducible first | assumption | apply keeps_cutFlashes | apply keeps_contain)
    | (with_reducible apply Keeps.mk; dsimp only; with_reducible apply Keeps.ok)

theorem keeps_execDeflSaturated {s : State} (hs : Keeps qq oo s) : KeepsOut qq oo (execDeflSaturated s) := by
  unfold execDeflSaturated
  repeat' first
    | (with_reducible first | assumption | exact trivial | apply keepsOut_next | apply keepsOut_ite | apply keeps_ite | apply keeps_saturated)
    | split

theorem keeps_trackSample {s : State} (x : Stripe) (vel : Int × Int) (inWindow : Bool) (hs : Keeps qq oo s) : Keeps qq oo (State.trackSample s x vel inWindow) := by
  unfold State.trackSample
  try dsimp only
  repeat' first
    | (with_reducible first | assumption | apply keeps_ite | apply keeps_inc | apply keeps_rampOut | apply keeps_putOut | apply keeps_saturated)
    | (with_reducible apply Keeps.mk; dsimp only; with_reducible apply Keeps.ok)
    | split

theorem keeps_outputs {s : State} (x : Stripe) (vel : Int × Int) (inWindow : Bool) (hs : Keeps qq oo s) : Keeps qq oo (State.outputs s x vel inWindow) := by
  unfold State.outputs
  repeat' first
    | (with_reducible first | assumption | apply keeps_ite | apply keeps_trackSample | apply keeps_rampOut | apply keeps_putOut)
    | split

theorem keeps_execDeflOutputSample (smp : Sample) (vel : Int × Int) (inWindow : Bool) {s : State} (hs : Keeps qq oo s) : KeepsOut qq oo (execDeflOutputSample smp vel inWindow s) := by
  unfold execDeflOutputSample
  try dsimp only
  repeat' first
    | (with_reducible first | assumption | exact trivial | apply keepsOut_next | apply keepsOut_ite | apply keeps_ite | apply keeps_see)
    | (with_reducible first | apply keeps_sampled | apply keeps_outputs | apply keeps_rampOut)
    | (with_reducible apply Keeps.mk; dsimp only; with_reducible apply Keeps.ok)
    | split

theorem keeps_execSysrefEdge (offBy : Nat) {s : State} (hs : Keeps qq oo s) : KeepsOut qq oo (execSysrefEdge offBy s) := by
  unfold execSysrefEdge
  try dsimp only
  repeat' first
    | (with_reducible first | assumption | exact trivial | apply keepsOut_next | apply keepsOut_ite | apply keeps_ite | apply keeps_inc)
    | (with_reducible first | apply keeps_record)
    | (with_reducible apply Keeps.mk; dsimp only; with_reducible apply Keeps.ok)
    | split

theorem keeps_linkChange {s : State} (inWindow : Bool) {f : State → State} (hs : Keeps qq oo s) (hf : ∀ t, Keeps qq oo t → Keeps qq oo (f t)) : Keeps qq oo (State.linkChange s inWindow f) := by
  unfold State.linkChange
  try dsimp only
  repeat' first
    | (with_reducible first | assumption | apply keeps_ite | apply hf | apply keeps_linkLost)
    | (with_reducible apply Keeps.mk; dsimp only; with_reducible apply Keeps.ok)
    | split

theorem keeps_execSysrefAbsent (inWindow : Bool) {s : State} (hs : Keeps qq oo s) : KeepsOut qq oo (execSysrefAbsent inWindow s) := by
  unfold execSysrefAbsent
  try dsimp only
  repeat' first
    | (with_reducible first | assumption | exact trivial | apply keepsOut_next | apply keepsOut_ite | apply keeps_linkChange)
    | (with_reducible apply Keeps.mk; dsimp only; with_reducible apply Keeps.ok)
    | (intro _; intros; try dsimp only)

theorem keeps_execJesdPllUnlock (inWindow : Bool) {s : State} (hs : Keeps qq oo s) : KeepsOut qq oo (execJesdPllUnlock inWindow s) := by
  unfold execJesdPllUnlock
  try dsimp only
  repeat' first
    | (with_reducible first | assumption | exact trivial | apply keepsOut_next | apply keepsOut_ite | apply keeps_linkChange)
    | (with_reducible apply Keeps.mk; dsimp only; with_reducible apply Keeps.ok)
    | (intro _; intros; try dsimp only)

theorem keeps_execJesdPllLock {s : State} (hs : Keeps qq oo s) : KeepsOut qq oo (execJesdPllLock s) := by
  unfold execJesdPllLock
  try dsimp only
  repeat' first
    | (with_reducible first | assumption | exact trivial | apply keepsOut_next | apply keepsOut_ite | apply keeps_ite)
    | (with_reducible apply Keeps.mk; dsimp only; with_reducible apply Keeps.ok)
    | split

theorem keeps_execPeerFault (o : Origin) (v : Nat) (inWindow : Bool) {s : State} (hs : Keeps qq oo s) : KeepsOut qq oo (execPeerFault o v inWindow s) := by
  unfold execPeerFault
  try dsimp only
  repeat' first
    | (with_reducible first | assumption | exact trivial | apply keepsOut_next | apply keepsOut_ite | apply keeps_linkChange)
    | (with_reducible first | apply keeps_applyWrite)
    | (with_reducible apply Keeps.mk; dsimp only; with_reducible apply Keeps.ok)
    | (intro _; intros; try dsimp only)
    | (refine keeps_permit_ok (h := ?_) (e := by assumption))
    | (refine keeps_permit_error (h := ?_) (e := by assumption))
    | split

end Sys2Proof.Machine
end

