-- ==== Sys2Proof/Laws/KeepsProfile.lean ====
section
/-! SUPPORT. Each operation of Machine/Profile.lean keeps what Keeps says. -/

set_option linter.unusedVariables false
set_option linter.tactic.unusedName false

namespace Sys2Proof.Machine

variable {qq : List Instr} {oo : List Out}

theorem keeps_limited {s : State} (ax : Nat) (hs : Keeps qq oo s) : Keeps qq oo (State.limited s ax) := by
  unfold State.limited
  try dsimp only
  repeat' first
    | (with_reducible first | assumption | apply keeps_ite | apply keeps_setFld | apply keeps_record)
    | (with_reducible apply Keeps.mk; dsimp only; with_reducible apply Keeps.ok)
    | split

theorem keeps_moveAxis {s : State} (ax : Nat) (t : Int) (hs : Keeps qq oo s) : Keeps qq oo (State.moveAxis s ax t) := by
  unfold State.moveAxis
  try dsimp only
  repeat' first
    | (with_reducible first | assumption | apply keeps_ite | apply keeps_limited)
    | (with_reducible apply Keeps.mk; dsimp only; with_reducible apply Keeps.ok)
    | split

theorem keeps_sendSetpoint {s : State} (hs : Keeps qq oo s) : Keeps qq oo (State.sendSetpoint s) := by
  unfold State.sendSetpoint
  try dsimp only
  repeat' first
    | (with_reducible first | assumption | apply keeps_ite | apply keeps_inc | apply keeps_emit)
    | (with_reducible apply Keeps.mk; dsimp only; with_reducible apply Keeps.ok)
    | split

theorem keeps_reachRun {s : State} (hs : Keeps qq oo s) : Keeps qq oo (State.reachRun s) := by
  unfold State.reachRun
  try dsimp only
  repeat' first
    | (with_reducible first | assumption | apply keeps_ite)
    | (with_reducible apply Keeps.mk; dsimp only; with_reducible apply Keeps.ok)
    | split

theorem keeps_execSetpointFrame (jy : Int) (jx : Int) {s : State} (hs : Keeps qq oo s) : KeepsOut qq oo (execSetpointFrame jy jx s) := by
  unfold execSetpointFrame
  try dsimp only
  repeat' first
    | (with_reducible first | assumption | exact trivial | apply keepsOut_next | apply keepsOut_ite | apply keeps_ite | apply keeps_tick)
    | (with_reducible first | apply keeps_setFld | apply keeps_reachRun | apply keeps_sendSetpoint)
    | (with_reducible apply Keeps.mk; dsimp only; with_reducible apply Keeps.ok)
    | split

theorem keeps_execRunupStart (smp : Sample) {s : State} (hs : Keeps qq oo s) : KeepsOut qq oo (execRunupStart smp s) := by
  unfold execRunupStart
  try dsimp only
  repeat' first
    | (with_reducible first | assumption | exact trivial | apply keepsOut_next | apply keepsOut_ite | apply keeps_ite | apply keeps_see)
    | (with_reducible first | apply keeps_limited)
    | (with_reducible apply Keeps.mk; dsimp only; with_reducible apply Keeps.ok)
    | split

theorem keeps_execRunoutStart {s : State} (hs : Keeps qq oo s) : KeepsOut qq oo (execRunoutStart s) := by
  unfold execRunoutStart
  try dsimp only
  repeat' first
    | (with_reducible first | assumption | exact trivial | apply keepsOut_next | apply keepsOut_ite | apply keeps_ite | apply keeps_moveAxis)
    | (with_reducible apply Keeps.mk; dsimp only; with_reducible apply Keeps.ok)
    | split

theorem keeps_encAuto {s : State} (fits : List (Nat × List Byte)) (hs : Keeps qq oo s) : Keeps qq oo (State.encAuto s fits) := by
  unfold State.encAuto
  try dsimp only
  repeat' first
    | (with_reducible first | assumption | apply keeps_ite | apply keeps_putKeep | apply keeps_foldl)
    | (with_reducible apply Keeps.mk; dsimp only; with_reducible apply Keeps.ok)
    | (intro _; intros; try dsimp only)
    | split

theorem keeps_execRunEnd (fits : List (Nat × List Byte)) {s : State} (hs : Keeps qq oo s) : KeepsOut qq oo (execRunEnd fits s) := by
  unfold execRunEnd
  try dsimp only
  repeat' first
    | (with_reducible first | assumption | exact trivial | apply keepsOut_next | apply keepsOut_ite | apply keeps_ite | apply keeps_encAuto)
    | (with_reducible first | apply keeps_contain)
    | (with_reducible apply Keeps.mk; dsimp only; with_reducible apply Keeps.ok)
    | split

theorem keeps_execTurnaroundStart {s : State} (hs : Keeps qq oo s) : KeepsOut qq oo (execTurnaroundStart s) := by
  unfold execTurnaroundStart
  try dsimp only
  repeat' first
    | (with_reducible first | assumption | exact trivial | apply keepsOut_next | apply keepsOut_ite | apply keeps_ite | apply keeps_id)
    | (with_reducible first | apply keeps_bump | apply keeps_moveAxis)
    | (with_reducible apply Keeps.mk; dsimp only; with_reducible apply Keeps.ok)
    | (intro _; intros; try dsimp only)
    | split

theorem keeps_toReentry {s : State} (hs : Keeps qq oo s) : Keeps qq oo (State.toReentry s) := by
  unfold State.toReentry
  try dsimp only
  repeat' first
    | (with_reducible first | assumption | apply keeps_moveAxis)
    | (with_reducible apply Keeps.mk; dsimp only; with_reducible apply Keeps.ok)
    | split

theorem keeps_execMoveEnd {s : State} (hs : Keeps qq oo s) : KeepsOut qq oo (execMoveEnd s) := by
  unfold execMoveEnd
  try dsimp only
  repeat' first
    | (with_reducible first | assumption | exact trivial | apply keepsOut_next | apply keepsOut_ite | apply keeps_ite | apply keeps_toReentry)
    | (with_reducible apply Keeps.mk; dsimp only; with_reducible apply Keeps.ok)
    | split

theorem keeps_hostMoveY {s : State} (t : Int) (hs : Keeps qq oo s) : Keeps qq oo (State.hostMoveY s t) := by
  unfold State.hostMoveY
  try dsimp only
  repeat' first
    | (with_reducible first | assumption | apply keeps_ite | apply keeps_moveAxis)
    | (with_reducible apply Keeps.mk; dsimp only; with_reducible apply Keeps.ok)
    | split

theorem keeps_execMove (o : Origin) (v : Nat) {s : State} (hs : Keeps qq oo s) : KeepsOut qq oo (execMove o v s) := by
  unfold execMove
  try dsimp only
  repeat' first
    | (with_reducible first | assumption | exact trivial | apply keepsOut_next | apply keepsOut_ite | apply keeps_ite | apply keeps_act)
    | (with_reducible first | apply keeps_hostMoveY | apply keeps_refuse | apply keeps_moveAxis)
    | (with_reducible apply Keeps.mk; dsimp only; with_reducible apply Keeps.ok)
    | (intro _; intros; try dsimp only)
    | split

theorem keeps_writeLimit {s : State} (o : Origin) (i : Nat) (v : Nat) (hs : Keeps qq oo s) : Keeps qq oo (State.writeLimit s o i v) := by
  unfold State.writeLimit
  try dsimp only
  repeat' first
    | (with_reducible first | assumption | apply keeps_ite | apply keeps_applyWrite | apply keeps_setFld | apply keeps_limited)
    | (with_reducible first | apply keeps_refuse)
    | (with_reducible apply Keeps.mk; dsimp only; with_reducible apply Keeps.ok)
    | split

theorem keeps_execLimitWrite (o : Origin) (index : Nat) (v : Nat) {s : State} (hs : Keeps qq oo s) : KeepsOut qq oo (execLimitWrite o index v s) := by
  unfold execLimitWrite
  try dsimp only
  repeat' first
    | (with_reducible first | assumption | exact trivial | apply keepsOut_next | apply keepsOut_ite | apply keeps_ite | apply keeps_refuse)
    | (with_reducible first | apply keeps_writeLimit)
    | (with_reducible apply Keeps.mk; dsimp only; with_reducible apply Keeps.ok)
    | (refine keeps_permit_ok (h := ?_) (e := by assumption))
    | (refine keeps_permit_error (h := ?_) (e := by assumption))
    | split

theorem keeps_abortRun {s : State} (x : Stripe) (hs : Keeps qq oo s) : Keeps qq oo (State.abortRun s x) := by
  unfold State.abortRun
  try dsimp only
  repeat' first
    | (with_reducible first | assumption | apply keeps_ite | apply keeps_id)
    | (with_reducible apply Keeps.mk; dsimp only; with_reducible apply Keeps.ok)
    | (intro _; intros; try dsimp only)
    | split

theorem keeps_loadRunTable {s : State} (slot : Nat) (t : List Byte) {u : State} (h : Keeps qq oo s) (e : State.loadRunTable s slot t = .ok u) : Keeps qq oo u := by
  revert e
  unfold State.loadRunTable
  try dsimp only
  repeat' first
    | with_reducible assumption
    | (intro e; cases e)
    | with_reducible apply keeps_modJob
    | (intro e; injection e; subst_vars)
    | with_reducible apply keeps_ite
    | (with_reducible apply Keeps.mk; dsimp only; with_reducible apply Keeps.ok)
    | split

end Sys2Proof.Machine
end

