-- ==== Sys2Proof/Laws/KeepsHost.lean ====
section
/-! SUPPORT. Each operation of Machine/Host.lean keeps what Keeps says. -/

set_option linter.unusedVariables false
set_option linter.tactic.unusedName false

namespace Sys2Proof.Machine

variable {qq : List Instr} {oo : List Out}

theorem keeps_cancelDusk {s : State} (hs : Keeps qq oo s) : Keeps qq oo (State.cancelDusk s) := by
  unfold State.cancelDusk
  try dsimp only
  repeat' first
    | (with_reducible first | assumption | apply keeps_inc | apply keeps_setFld)
    | (with_reducible apply Keeps.mk; dsimp only; with_reducible apply Keeps.ok)

theorem keeps_wake {s : State} (cause : Nat) (hs : Keeps qq oo s) : Keeps qq oo (State.wake s cause) := by
  unfold State.wake
  try dsimp only
  repeat' first
    | (with_reducible first | assumption | apply keeps_ite | apply keeps_cancelDusk | apply keeps_setFld)
    | (with_reducible apply Keeps.mk; dsimp only; with_reducible apply Keeps.ok)
    | split

theorem keeps_badDoorbell {s : State} (q : Nat) (off : Nat) (v : Nat) (hs : Keeps qq oo s) : Keeps qq oo (State.badDoorbell s q off v) := by
  unfold State.badDoorbell
  repeat' first
    | (with_reducible first | assumption | apply keeps_record)
    | (with_reducible apply Keeps.mk; dsimp only; with_reducible apply Keeps.ok)

theorem keeps_execSqTailDoorbell (q : Nat) (v : Nat) {s : State} (hs : Keeps qq oo s) : KeepsOut qq oo (execSqTailDoorbell q v s) := by
  unfold execSqTailDoorbell
  try dsimp only
  repeat' first
    | (with_reducible first | assumption | exact trivial | apply keepsOut_next | apply keepsOut_ite | apply keeps_ite | apply keeps_wake)
    | (with_reducible first | apply keeps_badDoorbell | apply keeps_setQueue)
    | (with_reducible apply Keeps.mk; dsimp only; with_reducible apply Keeps.ok)
    | split

theorem keeps_execCqHeadDoorbell (q : Nat) (v : Nat) {s : State} (hs : Keeps qq oo s) : KeepsOut qq oo (execCqHeadDoorbell q v s) := by
  unfold execCqHeadDoorbell
  try dsimp only
  repeat' first
    | (with_reducible first | assumption | exact trivial | apply keepsOut_next | apply keepsOut_ite | apply keeps_ite | apply keeps_wake)
    | (with_reducible first | apply keeps_badDoorbell | apply keeps_setQueue | apply keeps_drain)
    | (with_reducible apply Keeps.mk; dsimp only; with_reducible apply Keeps.ok)
    | split

theorem keeps_execEvqHeadDoorbell (v : Nat) {s : State} (hs : Keeps qq oo s) : KeepsOut qq oo (execEvqHeadDoorbell v s) := by
  unfold execEvqHeadDoorbell
  try dsimp only
  repeat' first
    | (with_reducible first | assumption | exact trivial | apply keepsOut_next | apply keepsOut_ite | apply keeps_ite | apply keeps_wake)
    | (with_reducible first | apply keeps_badDoorbell | apply keeps_drainEvents)
    | (with_reducible apply Keeps.mk; dsimp only; with_reducible apply Keeps.ok)
    | (intro _; intros; try dsimp only)
    | split

theorem keeps_execCqCoalesceTimeout (q : Nat) {s : State} (hs : Keeps qq oo s) : KeepsOut qq oo (execCqCoalesceTimeout q s) := by
  unfold execCqCoalesceTimeout
  try dsimp only
  repeat' first
    | (with_reducible first | assumption | exact trivial | apply keepsOut_next | apply keepsOut_ite | apply keeps_ite | apply keeps_setQueue)
    | (with_reducible first | apply keeps_emit)
    | (with_reducible apply Keeps.mk; dsimp only; with_reducible apply Keeps.ok)
    | split

theorem keeps_started {s : State} (n : Nat) (ns : Nat) (woken : Bool) (hs : Keeps qq oo s) : Keeps qq oo (State.started s n ns woken) := by
  unfold State.started
  try dsimp only
  repeat' first
    | (with_reducible first | assumption | apply keeps_ite | apply keeps_maxFld | apply keeps_recordRaw)
    | (with_reducible apply Keeps.mk; dsimp only; with_reducible apply Keeps.ok)
    | split

theorem keeps_execCommandStart (q : Nat) (entry : List Nat) (ns : Nat) {s : State} (hs : Keeps qq oo s) :
    KeepsOut qq oo (execCommandStart q entry ns s) := by
  unfold execCommandStart
  split
  · exact hs
  · dsimp only
    have h : ∀ c x v, c.n = s.host.nextCmd → Keeps qq oo { s.setQueue q x with host := { (s.setQueue q x).host with
        visible := v, cmds := (s.setQueue q x).host.cmds ++ [c], nextCmd := c.n + 1 } } := fun c x v e =>
      have k := keeps_setQueue q x hs
      ⟨{ k.ok with cmds := e ▸ numbered_add e k.ok.cmds }⟩
    repeat' first
      | with_reducible apply keepsOut_ite
      | with_reducible apply keepsOut_next
      | with_reducible apply keeps_fail
      | with_reducible apply keeps_started
      | with_reducible assumption
      | (apply h; rfl)
      | split

theorem keeps_ran {s : State} (n : Nat) (hs : Keeps qq oo s) : Keeps qq oo (State.ran s n) := keeps_setCmd _ _ (fun _ => rfl) hs

theorem keeps_onJob {s : State} (c : Cmd) (f : Nat → State) (hs : Keeps qq oo s) (hf : ∀ n, Keeps qq oo (f n)) : Keeps qq oo (State.onJob s c f) := by
  unfold State.onJob
  try dsimp only
  repeat' first
    | (with_reducible first | assumption | apply keeps_ite | apply hf | apply keeps_fail)
    | (with_reducible apply Keeps.mk; dsimp only; with_reducible apply Keeps.ok)
    | split

theorem keeps_execJobOpen (n : Nat) {s : State} (hs : Keeps qq oo s) : KeepsOut qq oo (execJobOpen n s) := by
  unfold execJobOpen
  try dsimp only
  repeat' first
    | (with_reducible first | assumption | exact trivial | apply keepsOut_next | apply keepsOut_ite | apply keeps_ite | apply keeps_fail)
    | (with_reducible first | apply keeps_setJob | apply keeps_complete)
    | (with_reducible apply Keeps.mk; dsimp only; with_reducible apply Keeps.ok)
    | split

theorem keeps_execKeyLoad (n : Nat) (buf : Option (List Byte)) {s : State} (hs : Keeps qq oo s) : KeepsOut qq oo (execKeyLoad n buf s) := by
  unfold execKeyLoad
  try dsimp only
  repeat' first
    | (with_reducible first | assumption | exact trivial | apply keepsOut_next | apply keepsOut_ite | apply keeps_ite | apply keeps_onJob)
    | (with_reducible first | apply keeps_fail | apply keeps_countFull | apply keeps_jobFatalRec | apply keeps_commit | apply keeps_modJob)
    | (with_reducible first | apply keeps_complete)
    | (with_reducible apply Keeps.mk; dsimp only; with_reducible apply Keeps.ok)
    | (intro _; intros; try dsimp only)
    | split

theorem keeps_attempt {s : State} (n : Nat) (e : Env) (code : Nat) (off : Nat) (hs : Keeps qq oo s) : Keeps qq oo (State.attempt s n e code off) := by
  unfold State.attempt
  try dsimp only
  repeat' first
    | (with_reducible first | assumption | apply keeps_ite | apply keeps_record | apply keeps_complete | apply keeps_modJob)
    | (with_reducible first | apply keeps_jobFatalRec)
    | (with_reducible apply Keeps.mk; dsimp only; with_reducible apply Keeps.ok)
    | (intro _; intros; try dsimp only)
    | split

theorem keeps_withdraw {s : State} (slot : Nat) (p : Nat → Bool) (hs : Keeps qq oo s) : Keeps qq oo (State.withdraw s slot p) := by
  unfold State.withdraw
  try dsimp only
  repeat' first
    | (with_reducible first | assumption | apply keeps_ite | apply keeps_event | apply keeps_modJob | apply keeps_foldl)
    | (with_reducible apply Keeps.mk; dsimp only; with_reducible apply Keeps.ok)
    | (intro _; intros; try dsimp only)
    | split

theorem keeps_countIngest {s : State} (n : Nat) (hs : Keeps qq oo s) : Keeps qq oo (State.countIngest s n) := by
  unfold State.countIngest
  repeat' first
    | (with_reducible first | assumption | apply keeps_wr64)

theorem keeps_revalidate {s : State} (i : Nat) (e : Env) (n : Nat) (hs : Keeps qq oo s) : Keeps qq oo (State.revalidate s i e n) := by
  unfold State.revalidate
  try dsimp only
  repeat' first
    | (with_reducible first | assumption | apply keeps_ite | apply keeps_complete | apply keeps_modJob | apply keeps_jobFatalRec)
    | (with_reducible apply Keeps.mk; dsimp only; with_reducible apply Keeps.ok)
    | (intro _; intros; try dsimp only)
    | split

theorem keeps_accept {s : State} (i : Nat) (n : Nat) (e : Env) (b : List Byte) (unit : List Byte) (hs : Keeps qq oo s) : Keeps qq oo (State.accept s i n e b unit) := by
  unfold State.accept
  try dsimp only
  repeat' first
    | (with_reducible first | assumption | apply keeps_ite | apply keeps_take | apply keeps_countIngest | apply keeps_modJob)
    | (with_reducible first | apply keeps_revalidate | apply keeps_complete)
    | (with_reducible apply Keeps.mk; dsimp only; with_reducible apply Keeps.ok)
    | (intro _; intros; try dsimp only)
    | split

theorem keeps_pushCache {s : State} (i : Nat) (n : Nat) (e : Env) (b : List Byte) (unit : List Byte) (hs : Keeps qq oo s) : Keeps qq oo (State.pushCache s i n e b unit) := by
  unfold State.pushCache
  try dsimp only
  repeat' first
    | (with_reducible first | assumption | apply keeps_ite | apply keeps_accept | apply keeps_record | apply keeps_inc | apply keeps_complete)
    | (with_reducible first | apply keeps_jobFatalRec | apply keeps_fail)
    | (with_reducible apply Keeps.mk; dsimp only; with_reducible apply Keeps.ok)
    | split

theorem keeps_pushHeader {s : State} (i : Nat) (n : Nat) (e : Env) (b : List Byte) (unit : List Byte) (hs : Keeps qq oo s) : Keeps qq oo (State.pushHeader s i n e b unit) := by
  unfold State.pushHeader
  try dsimp only
  repeat' first
    | (with_reducible first | assumption | apply keeps_ite | apply keeps_attempt | apply keeps_jobFatalRec | apply keeps_pushCache)
    | (with_reducible first | apply keeps_modJob)
    | (with_reducible apply Keeps.mk; dsimp only; with_reducible apply Keeps.ok)
    | (intro _; intros; try dsimp only)
    | split

theorem keeps_pushSealed {s : State} (i : Nat) (n : Nat) (e : Env) (b : List Byte) (reseal : Nat) (hs : Keeps qq oo s) : Keeps qq oo (State.pushSealed s i n e b reseal) := by
  unfold State.pushSealed
  try dsimp only
  repeat' first
    | (with_reducible first | assumption | apply keeps_ite | apply keeps_take | apply keeps_attempt | apply keeps_bump | apply keeps_record)
    | (with_reducible first | apply keeps_pushHeader | apply keeps_pushCache)
    | (with_reducible apply Keeps.mk; dsimp only; with_reducible apply Keeps.ok)
    | split

theorem keeps_execGeomPush (n : Nat) (buf : Option (List Byte)) (reseal : Nat) {s : State} (hs : Keeps qq oo s) : KeepsOut qq oo (execGeomPush n buf reseal s) := by
  unfold execGeomPush
  try dsimp only
  repeat' first
    | (with_reducible first | assumption | exact trivial | apply keepsOut_next | apply keepsOut_ite | apply keeps_ite | apply keeps_fail)
    | (with_reducible first | apply keeps_attempt | apply keeps_pushSealed)
    | (with_reducible apply Keeps.mk; dsimp only; with_reducible apply Keeps.ok)
    | (intro _; intros; try dsimp only)
    | split

theorem keeps_loadSlot {s : State} (slot : Nat) (id : Nat) (t : List Byte) {u : State} (h : Keeps qq oo s) (e : State.loadSlot s slot id t = .ok u) : Keeps qq oo u := by
  revert e
  unfold State.loadSlot
  try dsimp only
  repeat' first
    | with_reducible assumption
    | (intro e; cases e)
    | (intro e; refine keeps_loadRunTable (h := ?_) (e := e))
    | with_reducible apply keeps_setJob
    | (intro e; injection e; subst_vars)
    | with_reducible apply keeps_ite
    | (with_reducible apply Keeps.mk; dsimp only; with_reducible apply Keeps.ok)
    | split

theorem keeps_loadDevice {s : State} (id : Nat) (t : List Byte) {u : State} (h : Keeps qq oo s) (e : State.loadDevice s id t = .ok u) : Keeps qq oo u := by
  revert e
  unfold State.loadDevice
  try dsimp only
  repeat' first
    | with_reducible assumption
    | (intro e; cases e)
    | (intro e; refine keeps_loadZones (h := ?_) (e := e))
    | (intro e; refine keeps_loadTrack (h := ?_) (e := e))
    | (intro e; refine keeps_loadShepherd (h := ?_) (e := e))
    | (intro e; injection e; subst_vars)
    | with_reducible apply keeps_ite
    | (with_reducible apply Keeps.mk; dsimp only; with_reducible apply Keeps.ok)
    | split

theorem keeps_loadTable {s : State} (c : Cmd) (slot : Nat) (perSlot : Bool) (t : List Byte) (hs : Keeps qq oo s) :
    Keeps qq oo (State.loadTable s c slot perSlot t) := by
  unfold State.loadTable
  have hc := keeps_commit (s := s) 0x0002 .operator 0 0 0 [c.sel, slot, crcC t] hs
  cases perSlot
  all_goals
    simp only [Bool.false_eq_true, if_false, if_true]
    split
    · exact keeps_fail _ _ _ _ _ _ hs
    · split
      · exact keeps_fail _ _ _ _ _ _ hs
      · rename_i e
        first
          | exact keeps_complete _ _ _ _ _ _ (keeps_loadDevice (h := hc) (e := e))
          | exact keeps_complete _ _ _ _ _ _ (keeps_loadSlot (h := hc) (e := e))

theorem keeps_execTableLoad (n : Nat) (buf : Option (List Byte)) {s : State} (hs : Keeps qq oo s) : KeepsOut qq oo (execTableLoad n buf s) := by
  unfold execTableLoad
  try dsimp only
  repeat' first
    | (with_reducible first | assumption | exact trivial | apply keepsOut_next | apply keepsOut_ite | apply keeps_ite | apply keeps_fail)
    | (with_reducible first | apply keeps_countFull | apply keeps_loadTable | apply keeps_onJob)
    | (with_reducible apply Keeps.mk; dsimp only; with_reducible apply Keeps.ok)
    | (intro _; intros; try dsimp only)
    | split

theorem keeps_execFence (n : Nat) {s : State} (hs : Keeps qq oo s) : KeepsOut qq oo (execFence n s) := by
  unfold execFence
  try dsimp only
  repeat' first
    | (with_reducible first | assumption | exact trivial | apply keepsOut_next | apply keepsOut_ite | apply keeps_ite | apply keeps_complete)
    | (with_reducible apply Keeps.mk; dsimp only; with_reducible apply Keeps.ok)
    | (intro _; intros; try dsimp only)
    | split

theorem keeps_askFlush {s : State} (n : Nat) (hs : Keeps qq oo s) : Keeps qq oo (State.askFlush s n) := by
  unfold State.askFlush
  try dsimp only
  repeat' first
    | (with_reducible first | assumption | apply keeps_ite)
    | (with_reducible apply Keeps.mk; dsimp only; with_reducible apply Keeps.ok)
    | (intro _; intros; try dsimp only)
    | split

theorem keeps_execFlush (n : Nat) {s : State} (hs : Keeps qq oo s) : KeepsOut qq oo (execFlush n s) := by
  unfold execFlush
  try dsimp only
  repeat' first
    | (with_reducible first | assumption | exact trivial | apply keepsOut_next | apply keepsOut_ite | apply keeps_ite | apply keeps_askFlush)
    | (with_reducible first | apply keeps_complete)
    | (with_reducible apply Keeps.mk; dsimp only; with_reducible apply Keeps.ok)
    | (intro _; intros; try dsimp only)
    | split

theorem keeps_disarm {s : State} (hs : Keeps qq oo s) : Keeps qq oo (State.disarm s) := by
  unfold State.disarm
  try dsimp only
  repeat' first
    | (with_reducible first | assumption | apply keeps_ite | apply keeps_fire | apply keeps_complete)
    | (with_reducible apply Keeps.mk; dsimp only; with_reducible apply Keeps.ok)
    | split

theorem keeps_execTraceArm (n : Nat) {s : State} (hs : Keeps qq oo s) : KeepsOut qq oo (execTraceArm n s) := by
  unfold execTraceArm
  try dsimp only
  repeat' first
    | (with_reducible first | assumption | exact trivial | apply keepsOut_next | apply keepsOut_ite | apply keeps_ite | apply keeps_complete)
    | (with_reducible first | apply keeps_disarm | apply keeps_fail | apply keeps_ran | apply keeps_post)
    | (with_reducible apply Keeps.mk; dsimp only; with_reducible apply Keeps.ok)
    | split

theorem keeps_execJobClose (n : Nat) {s : State} (hs : Keeps qq oo s) : KeepsOut qq oo (execJobClose n s) := by
  unfold execJobClose
  try dsimp only
  repeat' first
    | (with_reducible first | assumption | exact trivial | apply keepsOut_next | apply keepsOut_ite | apply keeps_ite | apply keeps_fail)
    | (with_reducible first | apply keeps_ran | apply keeps_withdraw | apply keeps_abortSlot | apply keeps_closeDue | apply keeps_foldl)
    | (with_reducible apply Keeps.mk; dsimp only; with_reducible apply Keeps.ok)
    | (intro _; intros; try dsimp only)
    | split

end Sys2Proof.Machine
end

