-- ==== Sys2Proof/Laws/KeepsStripes.lean ====
section
/-! SUPPORT. Each operation of Machine/Stripes.lean keeps what Keeps says. -/

set_option linter.unusedVariables false
set_option linter.tactic.unusedName false

namespace Sys2Proof.Machine

variable {qq : List Instr} {oo : List Out}

theorem keeps_armFails {s : State} (n : Nat) (e : ArmStop) (hs : Keeps qq oo s) : Keeps qq oo (State.armFails s n e) := by
  unfold State.armFails
  try dsimp only
  repeat' first
    | (with_reducible first | assumption | apply keeps_ite | apply keeps_fail)
    | split

theorem keeps_waitArm {s : State} (n : Nat) (x : Stripe) (hx : x.ord = s.stripeOrd + 1) (hs : Keeps qq oo s) :
    Keeps qq oo (State.waitArm s n x) := by
  have h := keeps_modJob x.slot (fun j => { j with lists := j.lists ++
    [{ ord := x.ord, id := x.id, pass := x.pass, state := 0, base := s.nextList x.slot, lastRow := none, entries := [] }] }) (keeps_ran n hs)
  have e : ((s.ran n).modJob x.slot (fun j => { j with lists := j.lists ++
    [{ ord := x.ord, id := x.id, pass := x.pass, state := 0, base := s.nextList x.slot, lastRow := none, entries := [] }] })).stripeOrd =
      s.stripeOrd := by
    unfold State.modJob State.setJob
    split <;> rfl
  have k := h.ok.stripes
  rw [e] at k
  have g : ∀ l : List Stripe, ordered l s.stripeOrd → ordered (l ++ [x]) x.ord := fun l hl => by
    rw [hx]
    exact ordered_add hx hl
  exact ⟨{ h.ok with stripes := g _ k }⟩

theorem keeps_armNow {s : State} (x : Stripe) (ring : Nat) (map : Option Nat) (hs : Keeps qq oo s) : Keeps qq oo (State.armNow s x ring map) := by
  unfold State.armNow
  try dsimp only
  repeat' first
    | (with_reducible first | assumption | apply keeps_ite | apply keeps_id | apply keeps_modStripe | apply keeps_clkOn | apply keeps_wakeLanes)
    | (with_reducible first | apply keeps_modJob | apply keeps_showStripes | apply keeps_lanternWake | apply keeps_complete | apply keeps_foldl)
    | exact fun _ => rfl
    | (intro t; (try dsimp only); (repeat' split) <;> rfl)
    | (with_reducible apply Keeps.mk; dsimp only; with_reducible apply Keeps.ok)
    | (intro _; intros; try dsimp only)
    | split

theorem keeps_armFree {s : State} (hs : Keeps qq oo s) : Keeps qq oo (State.armFree s) := by
  unfold State.armFree
  try dsimp only
  repeat' first
    | (with_reducible first | assumption | apply keeps_ite | apply keeps_armNow)
    | (with_reducible apply Keeps.mk; dsimp only; with_reducible apply Keeps.ok)
    | (intro _; intros; try dsimp only)
    | split

theorem keeps_execStripeArmResourcesFree (n : Nat) {s : State} (hs : Keeps qq oo s) : KeepsOut qq oo (execStripeArmResourcesFree n s) := by
  unfold execStripeArmResourcesFree
  try dsimp only
  repeat' first
    | (with_reducible first | assumption | exact trivial | apply keepsOut_next | apply keepsOut_ite | apply keeps_ite | apply keeps_armFree)
    | (with_reducible apply Keeps.mk; dsimp only; with_reducible apply Keeps.ok)
    | (intro _; intros; try dsimp only)
    | split

theorem keeps_armInvalid {s : State} (n : Nat) (slot : Nat) (id : Nat) (e : Nat × Nat × Nat) (hs : Keeps qq oo s) : Keeps qq oo (State.armInvalid s n slot id e) := by
  unfold State.armInvalid
  try dsimp only
  repeat' first
    | (with_reducible first | assumption | apply keeps_ite | apply keeps_id | apply keeps_record | apply keeps_complete | apply keeps_modJob)
    | (with_reducible first | apply keeps_rerequest)
    | (with_reducible apply Keeps.mk; dsimp only; with_reducible apply Keeps.ok)
    | (intro _; intros; try dsimp only)
    | split

theorem keeps_validated {s : State} (n : Nat) (slot : Nat) (c : Cmd) (w : Walk) (r : StripeRec) (hs : Keeps qq oo s) : Keeps qq oo (State.validated s n slot c w r) := by
  unfold State.validated
  try dsimp only
  repeat' first
    | (with_reducible first | assumption | apply keeps_ite | apply keeps_id | apply keeps_waitArm)
    | exact rfl
    | (with_reducible apply Keeps.mk; dsimp only; with_reducible apply Keeps.ok)
    | (intro _; intros; try dsimp only)
    | split

theorem keeps_tableCopies {s : State} (n : Nat) (slot : Nat) (copies : Nat) (hs : Keeps qq oo s) : Keeps qq oo (State.tableCopies s n slot copies) := by
  unfold State.tableCopies
  repeat' first
    | (with_reducible first | assumption | apply keeps_ite | apply keeps_readCopies)
    | split

theorem keeps_execStripeArm (n : Nat) (copies : Nat) (glitch : Option (Nat × Nat × Nat)) {s : State} (hs : Keeps qq oo s) : KeepsOut qq oo (execStripeArm n copies glitch s) := by
  unfold execStripeArm
  try dsimp only
  repeat' first
    | (with_reducible first | assumption | exact trivial | apply keepsOut_next | apply keepsOut_ite | apply keeps_ite | apply keeps_onJob)
    | (with_reducible first | apply keeps_tableCopies | apply keeps_armFails | apply keeps_armInvalid | apply keeps_validated)
    | (with_reducible first | apply keeps_armFree | apply keeps_fail)
    | (with_reducible apply Keeps.mk; dsimp only; with_reducible apply Keeps.ok)
    | (intro _; intros; try dsimp only)
    | split

theorem keeps_armPass {s : State} (n : Nat) (slot : Nat) (c : Cmd) (r : StripeRec) (t : List Byte) (hs : Keeps qq oo s) : Keeps qq oo (State.armPass s n slot c r t) := by
  unfold State.armPass
  try dsimp only
  repeat' first
    | (with_reducible first | assumption | apply keeps_ite | apply keeps_id | apply keeps_fail | apply keeps_modJob | apply keeps_waitArm)
    | (with_reducible first | apply keeps_armFree)
    | exact rfl
    | (with_reducible apply Keeps.mk; dsimp only; with_reducible apply Keeps.ok)
    | (intro _; intros; try dsimp only)
    | split

theorem keeps_execPatchPass (n : Nat) (buf : Option (List Byte)) (listUe : Bool) {s : State} (hs : Keeps qq oo s) : KeepsOut qq oo (execPatchPass n buf listUe s) := by
  unfold execPatchPass
  try dsimp only
  repeat' first
    | (with_reducible first | assumption | exact trivial | apply keepsOut_next | apply keepsOut_ite | apply keeps_ite | apply keeps_onJob)
    | (with_reducible first | apply keeps_fail | apply keeps_armFails | apply keeps_failRead | apply keeps_armPass)
    | (with_reducible apply Keeps.mk; dsimp only; with_reducible apply Keeps.ok)
    | (intro _; intros; try dsimp only)
    | split

theorem keeps_execStripeGo (n : Nat) {s : State} (hs : Keeps qq oo s) : KeepsOut qq oo (execStripeGo n s) := by
  unfold execStripeGo
  try dsimp only
  repeat' first
    | (with_reducible first | assumption | exact trivial | apply keepsOut_next | apply keepsOut_ite | apply keeps_onJob | apply keeps_fail)
    | (with_reducible first | apply keeps_ran | apply keeps_modStripe | apply keeps_showStripes)
    | exact fun _ => rfl
    | (intro t; (try dsimp only); (repeat' split) <;> rfl)
    | (with_reducible apply Keeps.mk; dsimp only; with_reducible apply Keeps.ok)
    | (intro _; intros; try dsimp only)
    | split

theorem keeps_countWait {s : State} (x : Stripe) (hs : Keeps qq oo s) : Keeps qq oo (State.countWait s x) := by
  unfold State.countWait
  try dsimp only
  repeat' first
    | (with_reducible first | assumption | apply keeps_ite | apply keeps_modStripe | apply keeps_bump)
    | exact fun _ => rfl
    | (intro t; (try dsimp only); (repeat' split) <;> rfl)
    | (with_reducible apply Keeps.mk; dsimp only; with_reducible apply Keeps.ok)
    | (intro _; intros; try dsimp only)
    | split

theorem keeps_takeForce {s : State} (hs : Keeps qq oo s) : Keeps qq oo (State.takeForce s) :=
  keeps_putForce _ (fun a => a) (fun a => BitVec.ofNat 32 (s.rd a)) hs

theorem keeps_boundary {s : State} (hs : Keeps qq oo s) : Keeps qq oo (State.boundary s) := by
  unfold State.boundary
  try dsimp only
  repeat' first
    | (with_reducible first | assumption | apply keeps_keepBoundary | apply keeps_takeForce | apply keeps_fencesAtBoundary)
    | (with_reducible apply Keeps.mk; dsimp only; with_reducible apply Keeps.ok)
    | split

theorem keeps_takesEffect {s : State} (jobId : Nat) (n : Nat) (hs : Keeps qq oo s) : Keeps qq oo (State.takesEffect s jobId n) := by
  unfold State.takesEffect
  try dsimp only
  repeat' first
    | (with_reducible first | assumption | apply keeps_setCmd | apply keeps_after)
    | exact fun _ => rfl
    | (intro t; (try dsimp only); (repeat' split) <;> rfl)
    | (with_reducible apply Keeps.mk; dsimp only; with_reducible apply Keeps.ok)
    | (intro _; intros; try dsimp only)

theorem keeps_takeEffect {s : State} (x : Stripe) (hs : Keeps qq oo s) : Keeps qq oo (State.takeEffect s x) := by
  unfold State.takeEffect
  try dsimp only
  repeat' first
    | (with_reducible first | assumption | apply keeps_ite | apply keeps_id | apply keeps_modStripe | apply keeps_boundary)
    | (with_reducible first | apply keeps_takesEffect | apply keeps_startDrover | apply keeps_allLanes | apply keeps_shadeOff)
    | (with_reducible first | apply keeps_firstCycles | apply keeps_showStripes)
    | exact fun _ => rfl
    | (intro t; (try dsimp only); (repeat' split) <;> rfl)
    | (with_reducible apply Keeps.mk; dsimp only; with_reducible apply Keeps.ok)
    | (intro _; intros; try dsimp only)
    | split

theorem keeps_startFails {s : State} (x : Stripe) (code : Nat) (hs : Keeps qq oo s) : Keeps qq oo (State.startFails s x code) := by
  unfold State.startFails
  try dsimp only
  repeat' first
    | (with_reducible first | assumption | apply keeps_fail | apply keeps_modStripe | apply keeps_showStripes)
    | exact fun _ => rfl
    | (intro t; (try dsimp only); (repeat' split) <;> rfl)
    | (with_reducible apply Keeps.mk; dsimp only; with_reducible apply Keeps.ok)
    | (intro _; intros; try dsimp only)

theorem keeps_execStripeTakesEffect (smp : Sample) {s : State} (hs : Keeps qq oo s) : KeepsOut qq oo (execStripeTakesEffect smp s) := by
  unfold execStripeTakesEffect
  try dsimp only
  repeat' first
    | (with_reducible first | assumption | exact trivial | apply keepsOut_next | apply keepsOut_ite | apply keeps_ite | apply keeps_see)
    | (with_reducible first | apply keeps_countWait | apply keeps_startFails | apply keeps_takeEffect)
    | (with_reducible apply Keeps.mk; dsimp only; with_reducible apply Keeps.ok)
    | split

theorem keeps_withdrawStripe {s : State} (x : Stripe) (hs : Keeps qq oo s) : Keeps qq oo (State.withdrawStripe s x) := by
  unfold State.withdrawStripe
  try dsimp only
  repeat' first
    | (with_reducible first | assumption | apply keeps_id | apply keeps_dropCtxs | apply keeps_withdraw)
    | (with_reducible apply Keeps.mk; dsimp only; with_reducible apply Keeps.ok)
    | (intro _; intros; try dsimp only)

theorem keeps_stopCkpt {s : State} (x : Stripe) (hs : Keeps qq oo s) : Keeps qq oo (State.stopCkpt s x) := by
  unfold State.stopCkpt
  try dsimp only
  repeat' first
    | (with_reducible first | assumption | apply keeps_recordRaw | apply keeps_complete | apply keeps_dropCtxs | apply keeps_modStripe)
    | (with_reducible first | apply keeps_foldl)
    | exact fun _ => rfl
    | (intro t; (try dsimp only); (repeat' split) <;> rfl)
    | (with_reducible apply Keeps.mk; dsimp only; with_reducible apply Keeps.ok)
    | (intro _; intros; try dsimp only)

theorem keeps_abortStripe {s : State} (n : Nat) (x : Stripe) (hs : Keeps qq oo s) : Keeps qq oo (State.abortStripe s n x) := by
  unfold State.abortStripe
  try dsimp only
  repeat' first
    | (with_reducible first | assumption | apply keeps_ite | apply keeps_ran | apply keeps_setCmd | apply keeps_after | apply keeps_modStripe)
    | (with_reducible first | apply keeps_abortHold | apply keeps_endAborted | apply keeps_abortRun | apply keeps_flushStrays)
    | (with_reducible first | apply keeps_undo | apply keeps_stopCkpt | apply keeps_abortNow | apply keeps_dropFrames)
    | exact fun _ => rfl
    | (intro t; (try dsimp only); (repeat' split) <;> rfl)
    | (with_reducible apply Keeps.mk; dsimp only; with_reducible apply Keeps.ok)
    | (intro _; intros; try dsimp only)
    | split

theorem keeps_execStripeAbort (n : Nat) {s : State} (hs : Keeps qq oo s) : KeepsOut qq oo (execStripeAbort n s) := by
  unfold execStripeAbort
  try dsimp only
  repeat' first
    | (with_reducible first | assumption | exact trivial | apply keepsOut_next | apply keepsOut_ite | apply keeps_onJob | apply keeps_fail)
    | (with_reducible first | apply keeps_withdrawStripe | apply keeps_abortStripe)
    | (with_reducible apply Keeps.mk; dsimp only; with_reducible apply Keeps.ok)
    | (intro _; intros; try dsimp only)
    | split

theorem keeps_execCheckpoint (n : Nat) {s : State} (hs : Keeps qq oo s) : KeepsOut qq oo (execCheckpoint n s) := by
  unfold execCheckpoint
  try dsimp only
  repeat' first
    | (with_reducible first | assumption | exact trivial | apply keepsOut_next | apply keepsOut_ite | apply keeps_ite | apply keeps_onJob)
    | (with_reducible first | apply keeps_fail | apply keeps_ran | apply keeps_modStripe | apply keeps_contain)
    | exact fun _ => rfl
    | (intro t; (try dsimp only); (repeat' split) <;> rfl)
    | (with_reducible apply Keeps.mk; dsimp only; with_reducible apply Keeps.ok)
    | (intro _; intros; try dsimp only)
    | split

theorem keeps_readCkpt {s : State} (hs : Keeps qq oo s) : Keeps qq oo (State.readCkpt s) := by
  unfold State.readCkpt
  try dsimp only
  repeat' first
    | (with_reducible first | assumption | apply keeps_takeHeld)
    | (with_reducible apply Keeps.mk; dsimp only; with_reducible apply Keeps.ok)
    | split

theorem keeps_refill {s : State} (x : Stripe) (h1 : Nat) (hs : Keeps qq oo s) : Keeps qq oo (State.refill s x h1) := by
  unfold State.refill
  try dsimp only
  repeat' first
    | (with_reducible first | assumption | apply keeps_ite | apply keeps_foldl)
    | (with_reducible apply Keeps.mk; dsimp only; with_reducible apply Keeps.ok)
    | (intro _; intros; try dsimp only)
    | split

theorem keeps_restore {s : State} (x : Stripe) (n : Nat) (addr2 : Nat) (hs : Keeps qq oo s) : Keeps qq oo (State.restore s x n addr2) := by
  unfold State.restore
  try dsimp only
  repeat' first
    | (with_reducible first | assumption | apply keeps_ite | apply keeps_ran | apply keeps_takesEffect | apply keeps_readCkpt)
    | (with_reducible first | apply keeps_refill | apply keeps_modStripe | apply keeps_modList | apply keeps_rewindDrover)
    | (with_reducible first | apply keeps_droverTo | apply keeps_allLanes | apply keeps_setLane | apply keeps_firstCycles)
    | (with_reducible first | apply keeps_lanternWake | apply keeps_foldl)
    | exact fun _ => rfl
    | (intro t; (try dsimp only); (repeat' split) <;> rfl)
    | (with_reducible apply Keeps.mk; dsimp only; with_reducible apply Keeps.ok)
    | (intro _; intros; try dsimp only)
    | split

theorem keeps_execResume (n : Nat) (smp : Sample) (reads : List Bool) (bad : List (Nat × Nat × Option Nat)) {s : State} (hs : Keeps qq oo s) : KeepsOut qq oo (execResume n smp reads bad s) := by
  unfold execResume
  try dsimp only
  repeat' first
    | (with_reducible first | assumption | exact trivial | apply keepsOut_next | apply keepsOut_ite | apply keeps_ite | apply keeps_see)
    | (with_reducible first | apply keeps_onJob | apply keeps_fail | apply keeps_restore | apply keeps_tileFail | apply keeps_jobFatalRec)
    | (with_reducible first | apply keeps_foldl)
    | (with_reducible apply Keeps.mk; dsimp only; with_reducible apply Keeps.ok)
    | (intro _; intros; try dsimp only)
    | split

end Sys2Proof.Machine
end

