-- ==== Sys2Proof/Laws/KeepsCodec.lean ====
section
/-! SUPPORT. Each operation of Machine/Codec.lean keeps what Keeps says. -/

set_option linter.unusedVariables false
set_option linter.tactic.unusedName false

namespace Sys2Proof.Machine

variable {qq : List Instr} {oo : List Out}

theorem keeps_execCacheRead (ctx : Nat) (slot : Nat) (block : Nat) (given : Nat) (space : Nat) (fault : ReadFault) {s : State} (hs : Keeps qq oo s) : KeepsOut qq oo (execCacheRead ctx slot block given space fault s) := by
  unfold execCacheRead
  try dsimp only
  repeat' first
    | (with_reducible first | assumption | exact trivial | apply keepsOut_next | apply keepsOut_ite | apply keeps_ite | apply keeps_setCtx)
    | (with_reducible first | apply keeps_record | apply keeps_readFailed | apply keeps_hbmUe)
    | (with_reducible apply Keeps.mk; dsimp only; with_reducible apply Keeps.ok)
    | split

theorem keeps_decodeError {s : State} (i : Nat) (c : Ctx) (code : Nat) (off : Nat) (hs : Keeps qq oo s) : Keeps qq oo (State.decodeError s i c code off) := by
  unfold State.decodeError
  try dsimp only
  repeat' first
    | (with_reducible first | assumption | apply keeps_setCtx | apply keeps_inc | apply keeps_record | apply keeps_readFailed)
    | (with_reducible apply Keeps.mk; dsimp only; with_reducible apply Keeps.ok)
    | split

theorem keeps_decodeEnd {s : State} (ctx : Nat) (c : Ctx) (hs : Keeps qq oo s) : Keeps qq oo (State.decodeEnd s ctx c) := by
  unfold State.decodeEnd
  try dsimp only
  repeat' first
    | (with_reducible first | assumption | apply keeps_ite | apply keeps_setCtx | apply keeps_decodeError | apply keeps_inc)
    | (with_reducible apply Keeps.mk; dsimp only; with_reducible apply Keeps.ok)
    | split

theorem keeps_execCodecDecodeEnd (ctx : Nat) (sram : List SramErr) {s : State} (hs : Keeps qq oo s) : KeepsOut qq oo (execCodecDecodeEnd ctx sram s) := by
  unfold execCodecDecodeEnd
  try dsimp only
  repeat' first
    | (with_reducible first | assumption | exact trivial | apply keepsOut_next | apply keepsOut_ite | apply keeps_ite | apply keeps_setCtx)
    | (with_reducible first | apply keeps_sramErrs | apply keeps_decodeEnd)
    | (with_reducible apply Keeps.mk; dsimp only; with_reducible apply Keeps.ok)
    | split

theorem keeps_traceOut {s : State} (unit : List Byte) (hs : Keeps qq oo s) : Keeps qq oo (State.traceOut s unit) := by
  unfold State.traceOut
  try dsimp only
  repeat' first
    | (with_reducible first | assumption | apply keeps_take | apply keeps_emit | apply keeps_complete)
    | (with_reducible apply Keeps.mk; dsimp only; with_reducible apply Keeps.ok)
    | split

theorem keeps_unitDone {s : State} (purp : Nat) (item : Nat) (unit : List Byte) (hs : Keeps qq oo s) : Keeps qq oo (State.unitDone s purp item unit) := by
  unfold State.unitDone
  try dsimp only
  repeat' first
    | (with_reducible first | assumption | apply keeps_traceOut)
    | (with_reducible apply Keeps.mk; dsimp only; with_reducible apply Keeps.ok)
    | split

theorem keeps_ckptFailed {s : State} (x : Stripe) (a : RecArg) (hs : Keeps qq oo s) : Keeps qq oo (State.ckptFailed s x a) := by
  unfold State.ckptFailed
  try dsimp only
  repeat' first
    | (with_reducible first | assumption | apply keeps_ite | apply keeps_record | apply keeps_dropCtxs | apply keeps_modStripe)
    | (with_reducible first | apply keeps_setFld | apply keeps_jobFatalRec)
    | exact fun _ => rfl
    | (intro t; (try dsimp only); (repeat' split) <;> rfl)
    | (with_reducible apply Keeps.mk; dsimp only; with_reducible apply Keeps.ok)
    | (intro _; intros; try dsimp only)
    | split

theorem keeps_unitFailed {s : State} (ctx : Nat) (purp : Nat) (hs : Keeps qq oo s) : Keeps qq oo (State.unitFailed s ctx purp) := by
  unfold State.unitFailed
  try dsimp only
  repeat' first
    | (with_reducible first | assumption | apply keeps_record | apply keeps_complete | apply keeps_setFld | apply keeps_ckptFailed)
    | (with_reducible apply Keeps.mk; dsimp only; with_reducible apply Keeps.ok)
    | split

theorem keeps_verifyMiss {s : State} (ctx : Nat) (c : Ctx) (hs : Keeps qq oo s) : Keeps qq oo (State.verifyMiss s ctx c) := by
  unfold State.verifyMiss
  try dsimp only
  repeat' first
    | (with_reducible first | assumption | apply keeps_ite | apply keeps_inc | apply keeps_record | apply keeps_setCtx | apply keeps_unitFailed)
    | (with_reducible apply Keeps.mk; dsimp only; with_reducible apply Keeps.ok)
    | split

theorem keeps_takeFlush {s : State} (ctx : Nat) (c : Ctx) (part : List Byte) (hs : Keeps qq oo s) : Keeps qq oo (State.takeFlush s ctx c part) := by
  unfold State.takeFlush
  try dsimp only
  repeat' first
    | (with_reducible first | assumption | apply keeps_ite | apply keeps_setCtx | apply keeps_take | apply keeps_verifyMiss | apply keeps_emit)
    | (with_reducible apply Keeps.mk; dsimp only; with_reducible apply Keeps.ok)
    | (intro _; intros; try dsimp only)
    | split

theorem keeps_execCodecContextResume (ctx : Nat) (given : Nat) (space : Nat) (part : List Byte) {s : State} (hs : Keeps qq oo s) : KeepsOut qq oo (execCodecContextResume ctx given space part s) := by
  unfold execCodecContextResume
  try dsimp only
  repeat' first
    | (with_reducible first | assumption | exact trivial | apply keepsOut_next | apply keepsOut_ite | apply keeps_ite | apply keeps_takeFlush)
    | (with_reducible first | apply keeps_setCtx)
    | (with_reducible apply Keeps.mk; dsimp only; with_reducible apply Keeps.ok)
    | split

theorem keeps_compressEnd {s : State} (ctx : Nat) (c : Ctx) (unit : List Byte) (room : Nat) (hs : Keeps qq oo s) : Keeps qq oo (State.compressEnd s ctx c unit room) := by
  unfold State.compressEnd
  try dsimp only
  repeat' first
    | (with_reducible first | assumption | apply keeps_ite | apply keeps_setCtx)
    | (with_reducible apply Keeps.mk; dsimp only; with_reducible apply Keeps.ok)
    | split

theorem keeps_verifyEnd {s : State} (ctx : Nat) (c : Ctx) (hs : Keeps qq oo s) : Keeps qq oo (State.verifyEnd s ctx c) := by
  unfold State.verifyEnd
  try dsimp only
  repeat' first
    | (with_reducible first | assumption | apply keeps_ite | apply keeps_setCtx | apply keeps_inc | apply keeps_unitDone)
    | (with_reducible first | apply keeps_verifyMiss)
    | (with_reducible apply Keeps.mk; dsimp only; with_reducible apply Keeps.ok)
    | split

theorem keeps_exportUnread {s : State} (ctx : Nat) (da : Nat) (c : Ctx) (hs : Keeps qq oo s) : Keeps qq oo (State.exportUnread s ctx da c) := by
  unfold State.exportUnread
  try dsimp only
  repeat' first
    | (with_reducible first | assumption | apply keeps_ite | apply keeps_setCtx | apply keeps_failRead | apply keeps_hbmUe | apply keeps_setFld)
    | (with_reducible apply Keeps.mk; dsimp only; with_reducible apply Keeps.ok)
    | split

theorem keeps_execCodecCompressDone (ctx : Nat) (unit : List Byte) (room : Nat) (ue : Option Nat) (sram : List SramErr) {s : State} (hs : Keeps qq oo s) : KeepsOut qq oo (execCodecCompressDone ctx unit room ue sram s) := by
  unfold execCodecCompressDone
  try dsimp only
  repeat' first
    | (with_reducible first | assumption | exact trivial | apply keepsOut_next | apply keepsOut_ite | apply keeps_ite | apply keeps_setCtx)
    | (with_reducible first | apply keeps_sramErrs | apply keeps_compressEnd | apply keeps_verifyMiss | apply keeps_exportUnread)
    | (with_reducible first | apply keeps_verifyEnd)
    | (with_reducible apply Keeps.mk; dsimp only; with_reducible apply Keeps.ok)
    | split

theorem keeps_execCodecFlush (ctx : Nat) (part : List Byte) {s : State} (hs : Keeps qq oo s) : KeepsOut qq oo (execCodecFlush ctx part s) := by
  unfold execCodecFlush
  try dsimp only
  repeat' first
    | (with_reducible first | assumption | exact trivial | apply keepsOut_next | apply keepsOut_ite | apply keeps_ite | apply keeps_takeFlush)
    | (with_reducible first | apply keeps_setCtx)
    | (with_reducible apply Keeps.mk; dsimp only; with_reducible apply Keeps.ok)
    | split

end Sys2Proof.Machine
end

