-- ==== Sys2Proof/Laws/KeepsFaults.lean ====
section
/-! SUPPORT. Each operation of Machine/Faults.lean keeps what Keeps says. -/

set_option linter.unusedVariables false
set_option linter.tactic.unusedName false

namespace Sys2Proof.Machine

variable {qq : List Instr} {oo : List Out}

theorem keeps_settleAll {s : State} (x : Stripe) (h : Int) (hs : Keeps qq oo s) : Keeps qq oo (State.settleAll s x h) := by
  unfold State.settleAll
  try dsimp only
  repeat' first
    | (with_reducible first | assumption | apply keeps_cutFrame | apply keeps_confirmFlash | apply keeps_applyFor | apply keeps_foldl)
    | (with_reducible apply Keeps.mk; dsimp only; with_reducible apply Keeps.ok)
    | (intro _; intros; try dsimp only)

theorem keeps_afterSettle {s : State} (x : Stripe) (hs : Keeps qq oo s) : Keeps qq oo (State.afterSettle s x) := by
  unfold State.afterSettle
  try dsimp only
  repeat' first
    | (with_reducible first | assumption | apply keeps_ite | apply keeps_stopCkpt | apply keeps_abortRun | apply keeps_abortNow)
    | (with_reducible first | apply keeps_dropFrames | apply keeps_flushStrays | apply keeps_modStripe | apply keeps_setFld)
    | exact fun _ => rfl
    | (intro t; (try dsimp only); (repeat' split) <;> rfl)
    | (with_reducible apply Keeps.mk; dsimp only; with_reducible apply Keeps.ok)
    | (intro _; intros; try dsimp only)
    | split

theorem keeps_afterUndo {s : State} (x : Stripe) (hs : Keeps qq oo s) : Keeps qq oo (State.afterUndo s x) := by
  unfold State.afterUndo
  try dsimp only
  repeat' first
    | (with_reducible first | assumption | apply keeps_modStripe | apply keeps_endStripe | apply keeps_setFld)
    | exact fun _ => rfl
    | (intro t; (try dsimp only); (repeat' split) <;> rfl)
    | (with_reducible apply Keeps.mk; dsimp only; with_reducible apply Keeps.ok)
    | (intro _; intros; try dsimp only)

theorem keeps_execContainSettled (fx : List ExitFaults) {s : State} (hs : Keeps qq oo s) : KeepsOut qq oo (execContainSettled fx s) := by
  unfold execContainSettled
  try dsimp only
  repeat' first
    | (with_reducible first | assumption | exact trivial | apply keepsOut_next | apply keepsOut_ite | apply keeps_ite | apply keeps_settleAll)
    | (with_reducible first | apply keeps_undo | apply keeps_checkAll | apply keeps_afterSettle | apply keeps_afterUndo)
    | (with_reducible apply Keeps.mk; dsimp only; with_reducible apply Keeps.ok)
    | (intro _; intros; try dsimp only)
    | split

theorem keeps_verifyCkpt {s : State} (x : Stripe) (hs : Keeps qq oo s) : Keeps qq oo (State.verifyCkpt s x) := by
  unfold State.verifyCkpt
  try dsimp only
  repeat' first
    | (with_reducible first | assumption | apply keeps_writeBell | apply keeps_setFld | apply keeps_raiseIrq)
    | (with_reducible apply Keeps.mk; dsimp only; with_reducible apply Keeps.ok)

theorem keeps_containDone {s : State} (x : Stripe) (hs : Keeps qq oo s) : Keeps qq oo (State.containDone s x) := by
  unfold State.containDone
  try dsimp only
  repeat' first
    | (with_reducible first | assumption | apply keeps_verifyCkpt | apply keeps_modStripe | apply keeps_complete | apply keeps_endStripe)
    | (with_reducible first | apply keeps_foldl)
    | exact fun _ => rfl
    | (intro t; (try dsimp only); (repeat' split) <;> rfl)
    | (with_reducible apply Keeps.mk; dsimp only; with_reducible apply Keeps.ok)
    | (intro _; intros; try dsimp only)

theorem keeps_execCheckpointVerified (fail : Option (Bool × Nat)) {s : State} (hs : Keeps qq oo s) : KeepsOut qq oo (execCheckpointVerified fail s) := by
  unfold execCheckpointVerified
  try dsimp only
  repeat' first
    | (with_reducible first | assumption | exact trivial | apply keepsOut_next | apply keepsOut_ite | apply keeps_ite | apply keeps_fail)
    | (with_reducible first | apply keeps_showDaErr | apply keeps_ckptFailed | apply keeps_missRead | apply keeps_repeatWrites)
    | (with_reducible first | apply keeps_containDone)
    | (with_reducible apply Keeps.mk; dsimp only; with_reducible apply Keeps.ok)
    | (intro _; intros; try dsimp only)
    | split

theorem keeps_execBeamOff {s : State} (hs : Keeps qq oo s) : KeepsOut qq oo (execBeamOff s) := by
  unfold execBeamOff
  try dsimp only
  repeat' first
    | (with_reducible first | assumption | exact trivial | apply keepsOut_next | apply keepsOut_ite | apply keeps_ite | apply keeps_setFld)
    | (with_reducible first | apply keeps_showPins | apply keeps_raiseIrq | apply keeps_contain | apply keeps_shadeOn)
    | (with_reducible apply Keeps.mk; dsimp only; with_reducible apply Keeps.ok)
    | split

theorem keeps_execBeamOffRelease {s : State} (hs : Keeps qq oo s) : KeepsOut qq oo (execBeamOffRelease s) := by
  unfold execBeamOffRelease
  try dsimp only
  repeat' first
    | (with_reducible first | assumption | exact trivial | apply keepsOut_next | apply keepsOut_ite | apply keeps_ite | apply keeps_showPins)
    | (with_reducible first | apply keeps_dropIrq)
    | (with_reducible apply Keeps.mk; dsimp only; with_reducible apply Keeps.ok)
    | split

theorem keeps_writeInterlock {s : State} (o : Origin) (v : Nat) (hs : Keeps qq oo s) : Keeps qq oo (State.writeInterlock s o v) := by
  unfold State.writeInterlock
  try dsimp only
  repeat' first
    | (with_reducible first | assumption | apply keeps_ite | apply keeps_applyWrite | apply keeps_showPins)
    | (with_reducible apply Keeps.mk; dsimp only; with_reducible apply Keeps.ok)
    | (refine keeps_permit_ok (h := ?_) (e := by assumption))
    | (refine keeps_permit_error (h := ?_) (e := by assumption))
    | split

theorem keeps_execInterlockLatchedClear (o : Origin) (v : Nat) {s : State} (hs : Keeps qq oo s) : KeepsOut qq oo (execInterlockLatchedClear o v s) := by
  unfold execInterlockLatchedClear
  repeat' first
    | (with_reducible first | assumption | exact trivial | apply keepsOut_next | apply keepsOut_ite | apply keeps_writeInterlock)

theorem keeps_execForceShade (o : Origin) (v : Nat) {s : State} (hs : Keeps qq oo s) : KeepsOut qq oo (execForceShade o v s) := by
  unfold execForceShade
  repeat' first
    | (with_reducible first | assumption | exact trivial | apply keepsOut_next | apply keepsOut_ite | apply keeps_writeInterlock)

theorem keeps_restart {s : State} (cause : Nat) (hs : Keeps qq oo s) : Keeps qq oo (State.restart s cause) := by
  unfold State.restart
  exact keeps_wr _ _ (keeps_wr _ _ ⟨⟨rfl, rfl, hs.ok.bells, hs.ok.rails, numbered_nil _, ordered_nil _, Nat.zero_le _, Nat.zero_le _, hs.ok.pending, hs.ok.out⟩⟩)

theorem keeps_deviceReset {s : State} (cause : Nat) (hs : Keeps qq oo s) : Keeps qq oo (State.deviceReset s cause) := by
  unfold State.deviceReset
  repeat' first
    | (with_reducible first | assumption | apply keeps_restart | apply keeps_tellBoard)

theorem keeps_toNight {s : State} (hs : Keeps qq oo s) : Keeps qq oo (State.toNight s) :=
  have h := (keeps_restart 0 hs).ok
  ⟨{ h with rails := Nat.zero_le _ }⟩

theorem keeps_execDeviceReset (o : Origin) (v : Nat) {s : State} (hs : Keeps qq oo s) : KeepsOut qq oo (execDeviceReset o v s) := by
  unfold execDeviceReset
  repeat' first
    | (with_reducible first | assumption | exact trivial | apply keepsOut_next | apply keepsOut_ite | apply keeps_ite | apply keeps_act)
    | (with_reducible first | apply keeps_deviceReset)
    | (intro _; intros; try dsimp only)
    | split

theorem keeps_execPcieFundamentalReset {s : State} (hs : Keeps qq oo s) : KeepsOut qq oo (execPcieFundamentalReset s) := by
  unfold execPcieFundamentalReset
  repeat' first
    | (with_reducible first | assumption | exact trivial | apply keepsOut_next | apply keepsOut_ite | apply keeps_ite | apply keeps_deviceReset)
    | split

theorem keeps_releaseLog {s : State} (n : Nat) (hs : Keeps qq oo s) : Keeps qq oo (State.releaseLog s n) := by
  unfold State.releaseLog
  try dsimp only
  repeat' first
    | (with_reducible first | assumption | apply keeps_wr)
    | (with_reducible apply Keeps.mk; dsimp only; with_reducible apply Keeps.ok)

theorem keeps_execErrlogHead (o : Origin) (v : Nat) {s : State} (hs : Keeps qq oo s) : KeepsOut qq oo (execErrlogHead o v s) := by
  unfold execErrlogHead
  try dsimp only
  repeat' first
    | (with_reducible first | assumption | exact trivial | apply keepsOut_next | apply keepsOut_ite | apply keeps_ite | apply keeps_refuse)
    | (with_reducible first | apply keeps_applyWrite | apply keeps_releaseLog)
    | (with_reducible apply Keeps.mk; dsimp only; with_reducible apply Keeps.ok)
    | (refine keeps_permit_ok (h := ?_) (e := by assumption))
    | (refine keeps_permit_error (h := ?_) (e := by assumption))
    | split

theorem keeps_execSupplyExcursion (rail uv : Nat) {s : State} (hs : Keeps qq oo s) : KeepsOut qq oo (execSupplyExcursion rail uv s) := by
  unfold execSupplyExcursion
  split
  · exact hs
  · split
    · exact keeps_toNight hs
    · exact keeps_deviceFatal _ ⟨{ hs.ok with rails := Nat.le_trans (Nat.sub_le _ _) hs.ok.rails }⟩

theorem keeps_execSysClockLoss {s : State} (hs : Keeps qq oo s) : KeepsOut qq oo (execSysClockLoss s) := by
  unfold execSysClockLoss
  repeat' first
    | (with_reducible first | assumption | exact trivial | apply keepsOut_next | apply keepsOut_ite | apply keeps_ite | apply keeps_setFld)
    | (with_reducible first | apply keeps_deviceFatal)
    | (with_reducible apply Keeps.mk; dsimp only; with_reducible apply Keeps.ok)
    | split

theorem keeps_pllLane {s : State} (l : Nat) (hs : Keeps qq oo s) : Keeps qq oo (State.pllLane s l) := by
  unfold State.pllLane
  try dsimp only
  repeat' first
    | (with_reducible first | assumption | apply keeps_ite | apply keeps_laneDown | apply keeps_setLane)
    | (with_reducible apply Keeps.mk; dsimp only; with_reducible apply Keeps.ok)
    | split

theorem keeps_setPort {s : State} (i : Nat) (p : Port) (hs : Keeps qq oo s) : Keeps qq oo (State.setPort s i p) := by
  unfold State.setPort
  try dsimp only
  repeat' first
    | (with_reducible first | assumption)
    | (with_reducible apply Keeps.mk; dsimp only; with_reducible apply Keeps.ok)
    | (intro _; intros; try dsimp only)

theorem keeps_portDown {s : State} (i : Nat) (hs : Keeps qq oo s) : Keeps qq oo (State.portDown s i) := by
  unfold State.portDown
  try dsimp only
  repeat' first
    | (with_reducible first | assumption | apply keeps_ite | apply keeps_setPort | apply keeps_record)
    | (with_reducible apply Keeps.mk; dsimp only; with_reducible apply Keeps.ok)
    | split

theorem keeps_execSerdesPllUnlock (lanes : List Nat) (ports : List Nat) {s : State} (hs : Keeps qq oo s) : KeepsOut qq oo (execSerdesPllUnlock lanes ports s) := by
  unfold execSerdesPllUnlock
  repeat' first
    | (with_reducible first | assumption | exact trivial | apply keepsOut_next | apply keepsOut_ite | apply keeps_ite | apply keeps_portDown)
    | (with_reducible first | apply keeps_pllLane | apply keeps_foldl)
    | (intro _; intros; try dsimp only)
    | split

theorem keeps_execSysWatchdog {s : State} (hs : Keeps qq oo s) : KeepsOut qq oo (execSysWatchdog s) := by
  unfold execSysWatchdog
  repeat' first
    | (with_reducible first | assumption | exact trivial | apply keepsOut_next | apply keepsOut_ite | apply keeps_ite | apply keeps_deviceFatal)
    | (with_reducible apply Keeps.mk; dsimp only; with_reducible apply Keeps.ok)
    | split

theorem keeps_execSysStateParity (page : Nat) {s : State} (hs : Keeps qq oo s) : KeepsOut qq oo (execSysStateParity page s) := by
  unfold execSysStateParity
  repeat' first
    | (with_reducible first | assumption | exact trivial | apply keepsOut_next | apply keepsOut_ite | apply keeps_ite | apply keeps_deviceFatal)
    | (with_reducible apply Keeps.mk; dsimp only; with_reducible apply Keeps.ok)
    | split

end Sys2Proof.Machine
end

