-- ==== Sys2Proof/Laws/KeepsAge.lean ====
section
/-! SUPPORT. Each operation of Machine/Age.lean keeps what Keeps says. -/

set_option linter.unusedVariables false
set_option linter.tactic.unusedName false

namespace Sys2Proof.Machine

variable {qq : List Instr} {oo : List Out}

theorem keeps_plan {s : State} (bit : Nat) (shift : Nat) (code : Nat) (item : Nat) (limit : Bool) {act : State → State} (hs : Keeps qq oo s) (hact : ∀ t, Keeps qq oo t → Keeps qq oo (act t)) : Keeps qq oo (State.plan s bit shift code item limit act) := by
  unfold State.plan
  try dsimp only
  repeat' first
    | (with_reducible first | assumption | apply keeps_ite | apply hact | apply keeps_record | apply keeps_act | apply keeps_saveAgeing)
    | (with_reducible first | apply keeps_commit | apply keeps_bump)
    | (with_reducible apply Keeps.mk; dsimp only; with_reducible apply Keeps.ok)
    | (intro _; intros; try dsimp only)
    | split

theorem keeps_planVolt {s : State} (least : Nat) (hs : Keeps qq oo s) : Keeps qq oo (State.planVolt s least) := by
  unfold State.planVolt
  try dsimp only
  repeat' first
    | (with_reducible first | assumption | apply keeps_ite | apply keeps_plan)
    | (with_reducible apply Keeps.mk; dsimp only; with_reducible apply Keeps.ok)
    | (intro _; intros; try dsimp only)
    | split

theorem keeps_planLane {s : State} (eyes : List (Nat × Nat × Nat)) (hs : Keeps qq oo s) : Keeps qq oo (State.planLane s eyes) := by
  unfold State.planLane
  try dsimp only
  repeat' first
    | (with_reducible first | assumption | apply keeps_id | apply keeps_plan | apply keeps_setLane)
    | (with_reducible apply Keeps.mk; dsimp only; with_reducible apply Keeps.ok)
    | (intro _; intros; try dsimp only)
    | split

theorem keeps_planRefresh {s : State} (hs : Keeps qq oo s) : Keeps qq oo (State.planRefresh s) := by
  unfold State.planRefresh
  try dsimp only
  repeat' first
    | (with_reducible first | assumption | apply keeps_ite | apply keeps_plan)
    | (with_reducible apply Keeps.mk; dsimp only; with_reducible apply Keeps.ok)
    | (intro _; intros; try dsimp only)
    | split

theorem keeps_planGuard {s : State} (resid : List Nat) (hs : Keeps qq oo s) : Keeps qq oo (State.planGuard s resid) := by
  unfold State.planGuard
  try dsimp only
  repeat' first
    | (with_reducible first | assumption | apply keeps_ite | apply keeps_plan)
    | (with_reducible apply Keeps.mk; dsimp only; with_reducible apply Keeps.ok)
    | (intro _; intros; try dsimp only)
    | split

theorem keeps_measureGain {s : State} (least : Nat) (hs : Keeps qq oo s) : Keeps qq oo (State.measureGain s least) := by
  unfold State.measureGain
  try dsimp only
  repeat' first
    | (with_reducible first | assumption | apply keeps_ite)
    | (with_reducible apply Keeps.mk; dsimp only; with_reducible apply Keeps.ok)
    | split

theorem keeps_takeHour {s : State} (pathMin : List Nat) (eyes : List (Nat × Nat × Nat)) (resid : List Nat) (hs : Keeps qq oo s) : Keeps qq oo (State.takeHour s pathMin eyes resid) := by
  unfold State.takeHour
  try dsimp only
  repeat' first
    | (with_reducible first | assumption | apply keeps_wr | apply keeps_measureGain)
    | (with_reducible apply Keeps.mk; dsimp only; with_reducible apply Keeps.ok)
    | split

theorem keeps_execPlannerHour (pathMin : List Nat) (eyes : List (Nat × Nat)) (resid : List Nat) {s : State} (hs : Keeps qq oo s) : KeepsOut qq oo (execPlannerHour pathMin eyes resid s) := by
  unfold execPlannerHour
  try dsimp only
  repeat' first
    | (with_reducible first | assumption | exact trivial | apply keepsOut_next | apply keepsOut_ite | apply keeps_ite | apply keeps_takeHour)
    | (with_reducible first | apply keeps_planVolt | apply keeps_planLane | apply keeps_planRefresh | apply keeps_planGuard)
    | (with_reducible first | apply keeps_showAge | apply keeps_saveAgeing | apply keeps_keepNow)
    | (with_reducible apply Keeps.mk; dsimp only; with_reducible apply Keeps.ok)
    | (intro _; intros; try dsimp only)
    | split

theorem keeps_showMargin {s : State} (hs : Keeps qq oo s) : Keeps qq oo (State.showMargin s) := by
  unfold State.showMargin
  try dsimp only
  repeat' first
    | (with_reducible first | assumption | apply keeps_ite | apply keeps_wr | apply keeps_record | apply keeps_foldl)
    | (with_reducible apply Keeps.mk; dsimp only; with_reducible apply Keeps.ok)
    | (intro _; intros; try dsimp only)
    | split

theorem keeps_execTrendEntry (tjAvg : Nat) {s : State} (hs : Keeps qq oo s) : KeepsOut qq oo (execTrendEntry tjAvg s) := by
  unfold execTrendEntry
  try dsimp only
  repeat' first
    | (with_reducible first | assumption | exact trivial | apply keepsOut_next | apply keepsOut_ite | apply keeps_ite | apply keeps_take)
    | (with_reducible first | apply keeps_putKeep | apply keeps_showMargin)
    | (with_reducible apply Keeps.mk; dsimp only; with_reducible apply Keeps.ok)
    | (intro _; intros; try dsimp only)
    | split

theorem keeps_execRebase (o : Origin) (v : Nat) {s : State} (hs : Keeps qq oo s) : KeepsOut qq oo (execRebase o v s) := by
  unfold execRebase
  try dsimp only
  repeat' first
    | (with_reducible first | assumption | exact trivial | apply keepsOut_next | apply keepsOut_ite | apply keeps_ite | apply keeps_act)
    | (with_reducible first | apply keeps_saveAgeing | apply keeps_keepNow)
    | (with_reducible apply Keeps.mk; dsimp only; with_reducible apply Keeps.ok)
    | (intro _; intros; try dsimp only)
    | split

theorem keeps_execAvsbusTransferEnd (ok : Bool) {s : State} (hs : Keeps qq oo s) : KeepsOut qq oo (execAvsbusTransferEnd ok s) := by
  unfold execAvsbusTransferEnd
  try dsimp only
  repeat' first
    | (with_reducible first | assumption | exact trivial | apply keepsOut_next | apply keepsOut_ite | apply keeps_ite | apply keeps_deviceFatal)
    | (with_reducible first | apply keeps_setFld | apply keeps_emit | apply keeps_showAge)
    | (with_reducible apply Keeps.mk; dsimp only; with_reducible apply Keeps.ok)
    | split

end Sys2Proof.Machine
end

