-- ==== Sys2Proof/Laws/KeepsCrc.lean ====
section
/-! SUPPORT. Each operation of Machine/Crc.lean keeps what Keeps says. -/

set_option linter.unusedVariables false
set_option linter.tactic.unusedName false

namespace Sys2Proof.Machine

variable {qq : List Instr} {oo : List Out}

theorem keeps_setEngine {s : State} (e : Nat) (x : Engine) (hs : Keeps qq oo s) : Keeps qq oo (State.setEngine s e x) := by
  unfold State.setEngine
  try dsimp only
  repeat' first
    | (with_reducible first | assumption)
    | (with_reducible apply Keeps.mk; dsimp only; with_reducible apply Keeps.ok)
    | (intro _; intros; try dsimp only)

theorem keeps_setValue {s : State} (e : Nat) (v : Nat) (hs : Keeps qq oo s) : Keeps qq oo (State.setValue s e v) := by
  unfold State.setValue
  repeat' first
    | (with_reducible first | assumption | apply keeps_wr64)

theorem keeps_crcCompare {s : State} (e : Nat) (hs : Keeps qq oo s) : Keeps qq oo (State.crcCompare s e) := by
  unfold State.crcCompare
  repeat' first
    | (with_reducible first | assumption | apply keeps_ite | apply keeps_setFld | apply keeps_record | apply keeps_raiseIrq)
    | (with_reducible apply Keeps.mk; dsimp only; with_reducible apply Keeps.ok)
    | split

theorem keeps_crcDone {s : State} (e : Nat) (hs : Keeps qq oo s) : Keeps qq oo (State.crcDone s e) := by
  unfold State.crcDone
  repeat' first
    | (with_reducible first | assumption | apply keeps_setFld | apply keeps_raiseIrq)

theorem keeps_setCrcBusy {s : State} (e : Nat) (b : Nat) (hs : Keeps qq oo s) : Keeps qq oo (State.setCrcBusy s e b) := by
  unfold State.setCrcBusy
  repeat' first
    | (with_reducible first | assumption | apply keeps_setFld)

theorem keeps_crcFail {s : State} (e : Nat) (o : Origin) (code : Nat) (hs : Keeps qq oo s) : Keeps qq oo (State.crcFail s e o code) := by
  unfold State.crcFail
  try dsimp only
  repeat' first
    | (with_reducible first | assumption | apply keeps_setFld | apply keeps_record | apply keeps_crcDone)
    | (with_reducible apply Keeps.mk; dsimp only; with_reducible apply Keeps.ok)

theorem keeps_crcStart {s : State} (o : Origin) (e : Nat) (hs : Keeps qq oo s) : Keeps qq oo (State.crcStart s o e) := by
  unfold State.crcStart
  try dsimp only
  repeat' first
    | (with_reducible first | assumption | apply keeps_ite | apply keeps_setFld | apply keeps_wr | apply keeps_crcFail | apply keeps_setCrcBusy)
    | (with_reducible first | apply keeps_setEngine)
    | (with_reducible apply Keeps.mk; dsimp only; with_reducible apply Keeps.ok)
    | split

theorem keeps_crcCheck {s : State} (e : Nat) (hs : Keeps qq oo s) : Keeps qq oo (State.crcCheck s e) := by
  unfold State.crcCheck
  repeat' first
    | (with_reducible first | assumption | apply keeps_setFld | apply keeps_crcCompare | apply keeps_crcDone)

theorem keeps_crcAbort {s : State} (e : Nat) (hs : Keeps qq oo s) : Keeps qq oo (State.crcAbort s e) := by
  unfold State.crcAbort
  try dsimp only
  repeat' first
    | (with_reducible first | assumption | apply keeps_ite | apply keeps_setEngine)
    | (with_reducible apply Keeps.mk; dsimp only; with_reducible apply Keeps.ok)
    | split

theorem keeps_crcCmd {s : State} (o : Origin) (e : Nat) (v : Nat) (hs : Keeps qq oo s) : Keeps qq oo (State.crcCmd s o e v) := by
  unfold State.crcCmd
  try dsimp only
  repeat' first
    | (with_reducible first | assumption | apply keeps_ite | apply keeps_crcAbort | apply keeps_refuse | apply keeps_setValue)
    | (with_reducible first | apply keeps_crcStart | apply keeps_crcCheck)
    | (with_reducible apply Keeps.mk; dsimp only; with_reducible apply Keeps.ok)
    | split

theorem keeps_writeCmd {s : State} (o : Origin) (e : Nat) (v : Nat) (hs : Keeps qq oo s) : Keeps qq oo (State.writeCmd s o e v) := by
  unfold State.writeCmd
  repeat' first
    | (with_reducible first | assumption | apply keeps_ite | apply keeps_act | apply keeps_crcCmd)
    | (intro _; intros; try dsimp only)
    | split

theorem keeps_execCrcInit (o : Origin) (e : Nat) {s : State} (hs : Keeps qq oo s) : KeepsOut qq oo (execCrcInit o e s) := by
  unfold execCrcInit
  repeat' first
    | (with_reducible first | assumption | exact trivial | apply keepsOut_next | apply keepsOut_ite | apply keeps_writeCmd)

theorem keeps_execCrcStart (o : Origin) (e : Nat) {s : State} (hs : Keeps qq oo s) : KeepsOut qq oo (execCrcStart o e s) := by
  unfold execCrcStart
  repeat' first
    | (with_reducible first | assumption | exact trivial | apply keepsOut_next | apply keepsOut_ite | apply keeps_writeCmd)

theorem keeps_execCrcCheck (o : Origin) (e : Nat) {s : State} (hs : Keeps qq oo s) : KeepsOut qq oo (execCrcCheck o e s) := by
  unfold execCrcCheck
  repeat' first
    | (with_reducible first | assumption | exact trivial | apply keepsOut_next | apply keepsOut_ite | apply keeps_writeCmd)

theorem keeps_execCrcAbort (o : Origin) (e : Nat) {s : State} (hs : Keeps qq oo s) : KeepsOut qq oo (execCrcAbort o e s) := by
  unfold execCrcAbort
  repeat' first
    | (with_reducible first | assumption | exact trivial | apply keepsOut_next | apply keepsOut_ite | apply keeps_writeCmd)

theorem keeps_feedData {s : State} (o : Origin) (e : Nat) (v : Nat) (hs : Keeps qq oo s) : Keeps qq oo (State.feedData s o e v) := by
  unfold State.feedData
  repeat' first
    | (with_reducible first | assumption | apply keeps_ite | apply keeps_refuse | apply keeps_setValue)
    | split

theorem keeps_execCrcData (o : Origin) (e : Nat) (v : Nat) {s : State} (hs : Keeps qq oo s) : KeepsOut qq oo (execCrcData o e v s) := by
  unfold execCrcData
  repeat' first
    | (with_reducible first | assumption | exact trivial | apply keepsOut_next | apply keepsOut_ite | apply keeps_ite | apply keeps_act)
    | (with_reducible first | apply keeps_feedData)
    | (intro _; intros; try dsimp only)
    | split

theorem keeps_crcUe {s : State} (e : Nat) (count : Nat) (hs : Keeps qq oo s) : Keeps qq oo (State.crcUe s e count) := by
  unfold State.crcUe
  try dsimp only
  repeat' first
    | (with_reducible first | assumption | apply keeps_ite | apply keeps_sramErr | apply keeps_hbmUe)
    | (with_reducible apply Keeps.mk; dsimp only; with_reducible apply Keeps.ok)
    | split

theorem keeps_execCrcJobDone (e : Nat) (data : List Byte) (ue : Bool) {s : State} (hs : Keeps qq oo s) : KeepsOut qq oo (execCrcJobDone e data ue s) := by
  unfold execCrcJobDone
  try dsimp only
  repeat' first
    | (with_reducible first | assumption | exact trivial | apply keepsOut_next | apply keepsOut_ite | apply keeps_ite | apply keeps_setEngine)
    | (with_reducible first | apply keeps_setCrcBusy | apply keeps_setValue | apply keeps_wr | apply keeps_crcUe | apply keeps_crcFail)
    | (with_reducible first | apply keeps_crcCompare | apply keeps_crcDone)
    | (with_reducible apply Keeps.mk; dsimp only; with_reducible apply Keeps.ok)
    | split

theorem keeps_abortEngines {s : State} (hs : Keeps qq oo s) : Keeps qq oo (State.abortEngines s) := by
  unfold State.abortEngines
  repeat' first
    | (with_reducible first | assumption | apply keeps_crcAbort | apply keeps_foldl)
    | (intro _; intros; try dsimp only)

end Sys2Proof.Machine
end

