-- ==== Sys2Proof/Laws/KeepsAudit.lean ====
section
/-! SUPPORT. Each operation of Machine/Audit.lean keeps what Keeps says. -/

set_option linter.unusedVariables false
set_option linter.tactic.unusedName false

namespace Sys2Proof.Machine

variable {qq : List Instr} {oo : List Out}

theorem keeps_putAnchors {s : State} (hs : Keeps qq oo s) : Keeps qq oo (State.putAnchors s) := by
  unfold State.putAnchors
  try dsimp only
  repeat' first
    | (with_reducible first | assumption | apply keeps_ite | apply keeps_listKeep)
    | (with_reducible apply Keeps.mk; dsimp only; with_reducible apply Keeps.ok)
    | (intro _; intros; try dsimp only)
    | split

theorem keeps_placeSign {s : State} (seq : Nat) (chain : Nat) (hf : s.auditFree ≠ 0) (hs : Keeps qq oo s) :
    Keeps qq oo (State.placeSign s seq chain) := by
  unfold State.placeSign
  dsimp only
  refine keeps_putAnchors (keeps_wr64 _ _ (keeps_wr _ _ ⟨{ hs.ok with pool := ?_ }⟩))
  unfold State.auditFree at hf
  simp only [List.length_cons]
  omega

theorem keeps_execAuditSign {s : State} (hs : Keeps qq oo s) : KeepsOut qq oo (execAuditSign s) := by
  unfold execAuditSign
  repeat' first
    | (with_reducible first | assumption | exact trivial | apply keepsOut_next | apply keepsOut_ite | apply keeps_ite | apply keeps_beginSign)
    | split

theorem keeps_exportSigned {s : State} (hs : Keeps qq oo s) : Keeps qq oo (State.exportSigned s) := by
  unfold State.exportSigned
  try dsimp only
  repeat' first
    | (with_reducible first | assumption | apply keeps_beginSign)
    | (with_reducible apply Keeps.mk; dsimp only; with_reducible apply Keeps.ok)
    | split

theorem keeps_execAuditSignatureDone {s : State} (hs : Keeps qq oo s) : KeepsOut qq oo (execAuditSignatureDone s) := by
  unfold execAuditSignatureDone
  split
  · exact hs
  · split
    · exact hs
    · rename_i hf
      exact keeps_exportSigned (keeps_placeSign _ _ (fun e => hf (Or.inr e)) hs)

theorem keeps_exportBegin {s : State} (hs : Keeps qq oo s) : Keeps qq oo (State.exportBegin s) := by
  unfold State.exportBegin
  try dsimp only
  repeat' first
    | (with_reducible first | assumption | apply keeps_setFld | apply keeps_beginSign)
    | (with_reducible apply Keeps.mk; dsimp only; with_reducible apply Keeps.ok)
    | split

theorem keeps_exportCmd {s : State} (v : Nat) (hs : Keeps qq oo s) : Keeps qq oo (State.exportCmd s v) := by
  unfold State.exportCmd
  try dsimp only
  repeat' first
    | (with_reducible first | assumption | apply keeps_ite | apply keeps_raiseIrq | apply keeps_exportBegin)
    | (with_reducible apply Keeps.mk; dsimp only; with_reducible apply Keeps.ok)
    | split

theorem keeps_execExportCmd (o : Origin) (v : Nat) {s : State} (hs : Keeps qq oo s) : KeepsOut qq oo (execExportCmd o v s) := by
  unfold execExportCmd
  repeat' first
    | (with_reducible first | assumption | exact trivial | apply keepsOut_next | apply keepsOut_ite | apply keeps_act | apply keeps_exportCmd)
    | (intro _; intros; try dsimp only)

theorem keeps_execAuditExportReady {s : State} (hs : Keeps qq oo s) : KeepsOut qq oo (execAuditExportReady s) := by
  unfold execAuditExportReady
  try dsimp only
  repeat' first
    | (with_reducible first | assumption | exact trivial | apply keepsOut_next | apply keepsOut_ite | apply keeps_ite | apply keeps_wr)
    | (with_reducible first | apply keeps_wr64 | apply keeps_raiseIrq | apply keeps_foldl)
    | (with_reducible apply Keeps.mk; dsimp only; with_reducible apply Keeps.ok)
    | (intro _; intros; try dsimp only)
    | split

theorem keeps_commitWaiting {s : State} (hs : Keeps qq oo s) : Keeps qq oo (State.commitWaiting s) := by
  unfold State.commitWaiting
  try dsimp only
  repeat' first
    | (with_reducible first | assumption | apply keeps_ite | apply keeps_setFld | apply keeps_commit | apply keeps_record | apply keeps_foldl)
    | (with_reducible apply Keeps.mk; dsimp only; with_reducible apply Keeps.ok)
    | (intro _; intros; try dsimp only)
    | split

theorem keeps_exportAck {s : State} (o : Origin) (v : Nat) (hs : Keeps qq oo s) : Keeps qq oo (State.exportAck s o v) := by
  unfold State.exportAck
  dsimp only
  have h : ∀ n a b c, Keeps qq oo { s with audit :=
      { s.audit with exportedSeq := a, exportedChain := b, pool := s.audit.pool.take n, exportCount := c } } := fun n a b c => ⟨{ hs.ok with pool := Nat.le_trans (List.length_take_le' _ _) hs.ok.pool }⟩
  repeat' first
    | with_reducible assumption
    | with_reducible apply keeps_refuse
    | with_reducible apply keeps_putAnchors
    | with_reducible apply keeps_commitWaiting
    | with_reducible apply keeps_ite
    | with_reducible apply keeps_flushKeep
    | with_reducible apply keeps_setFld
    | with_reducible apply keeps_wr64
    | with_reducible apply keeps_wr
    | exact h _ _ _ _
    | split

theorem keeps_execExportAck (o : Origin) (v : Nat) {s : State} (hs : Keeps qq oo s) : KeepsOut qq oo (execExportAck o v s) := by
  unfold execExportAck
  repeat' first
    | (with_reducible first | assumption | exact trivial | apply keepsOut_next | apply keepsOut_ite | apply keeps_act | apply keeps_exportAck)
    | (intro _; intros; try dsimp only)

end Sys2Proof.Machine
end

