-- ==== Sys2Proof/Laws/KeepsFold.lean ====
section
/-! SUPPORT. Each operation of Machine/Fold.lean keeps what Keeps says. -/

set_option linter.unusedVariables false
set_option linter.tactic.unusedName false

namespace Sys2Proof.Machine

variable {qq : List Instr} {oo : List Out}

theorem keeps_mbEnd {s : State} (code : Nat) (payload : List Byte) (hs : Keeps qq oo s) : Keeps qq oo (State.mbEnd s code payload) := by
  unfold State.mbEnd
  try dsimp only
  repeat' first
    | (with_reducible first | assumption | apply keeps_emit | apply keeps_mailbox)
    | (with_reducible apply Keeps.mk; dsimp only; with_reducible apply Keeps.ok)
    | (intro _; intros; try dsimp only)

theorem keeps_mbFail {s : State} (code : Nat) (hs : Keeps qq oo s) : Keeps qq oo (State.mbFail s code) := by
  unfold State.mbFail
  repeat' first
    | (with_reducible first | assumption | apply keeps_record | apply keeps_mbEnd)
    | (with_reducible apply Keeps.mk; dsimp only; with_reducible apply Keeps.ok)

theorem keeps_mailbox {s : State} (boot : Bool) (always : Bool) {f : State → State} (hs : Keeps qq oo s) (hf : ∀ t, Keeps qq oo t → Keeps qq oo (f t)) : KeepsOut qq oo (State.mailbox s boot always f) := by
  unfold State.mailbox
  repeat' first
    | (with_reducible first | assumption | exact trivial | apply keepsOut_next | apply keepsOut_ite | apply keeps_ite | apply hf)
    | (with_reducible first | apply keeps_mbFail | apply keeps_countFull)
    | split

theorem keeps_draw {s : State} (hs : Keeps qq oo s) : Keeps qq oo (State.draw s).2 := by
  unfold State.draw
  try dsimp only
  repeat' first
    | (with_reducible first | assumption)
    | (with_reducible apply Keeps.mk; dsimp only; with_reducible apply Keeps.ok)

theorem keeps_setFwSlot {s : State} (i : Nat) (x : FwSlot) (hs : Keeps qq oo s) : Keeps qq oo (State.setFwSlot s i x) := by
  unfold State.setFwSlot
  try dsimp only
  repeat' first
    | (with_reducible first | assumption)
    | (with_reducible apply Keeps.mk; dsimp only; with_reducible apply Keeps.ok)
    | (intro _; intros; try dsimp only)

theorem keeps_execAttest (nonce : List Byte) {s : State} (hs : Keeps qq oo s) : KeepsOut qq oo (execAttest nonce s) := by
  unfold execAttest
  repeat' first
    | (with_reducible first | assumption | exact trivial | apply keepsOut_next | apply keepsOut_ite | apply keeps_ite | apply keeps_mailbox)
    | (with_reducible first | apply keeps_mbFail | apply keeps_mbEnd)
    | (intro _; intros; try dsimp only)
    | split

theorem keeps_execCertRead {s : State} (hs : Keeps qq oo s) : KeepsOut qq oo (execCertRead s) := by
  unfold execCertRead
  repeat' first
    | (with_reducible first | assumption | exact trivial | apply keepsOut_next | apply keepsOut_ite | apply keeps_mailbox | apply keeps_mbEnd)
    | (intro _; intros; try dsimp only)

theorem keeps_execFwStage (off : Nat) (chunk : List Byte) {s : State} (hs : Keeps qq oo s) : KeepsOut qq oo (execFwStage off chunk s) := by
  unfold execFwStage
  try dsimp only
  repeat' first
    | (with_reducible first | assumption | exact trivial | apply keepsOut_next | apply keepsOut_ite | apply keeps_ite | apply keeps_mailbox)
    | (with_reducible first | apply keeps_mbFail | apply keeps_setFwSlot | apply keeps_mbEnd)
    | (with_reducible apply Keeps.mk; dsimp only; with_reducible apply Keeps.ok)
    | (intro _; intros; try dsimp only)
    | split

theorem keeps_fwEvent {s : State} (o : Origin) (slot : Nat) (svn : Nat) (hash : Nat) (hs : Keeps qq oo s) : Keeps qq oo (State.fwEvent s o slot svn hash) := by
  unfold State.fwEvent
  repeat' first
    | (with_reducible first | assumption | apply keeps_commit)
    | (intro _; intros; try dsimp only)

theorem keeps_execFwCommit {s : State} (hs : Keeps qq oo s) : KeepsOut qq oo (execFwCommit s) := by
  unfold execFwCommit
  try dsimp only
  repeat' first
    | (with_reducible first | assumption | exact trivial | apply keepsOut_next | apply keepsOut_ite | apply keeps_ite | apply keeps_mailbox)
    | (with_reducible first | apply keeps_setFwSlot | apply keeps_mbFail | apply keeps_take | apply keeps_fwEvent | apply keeps_mbEnd)
    | (with_reducible apply Keeps.mk; dsimp only; with_reducible apply Keeps.ok)
    | (intro _; intros; try dsimp only)
    | split

theorem keeps_execFwSelect (slot : Nat) {s : State} (hs : Keeps qq oo s) : KeepsOut qq oo (execFwSelect slot s) := by
  unfold execFwSelect
  try dsimp only
  repeat' first
    | (with_reducible first | assumption | exact trivial | apply keepsOut_next | apply keepsOut_ite | apply keeps_ite | apply keeps_mailbox)
    | (with_reducible first | apply keeps_mbFail | apply keeps_fwEvent | apply keeps_mbEnd)
    | (with_reducible apply Keeps.mk; dsimp only; with_reducible apply Keeps.ok)
    | (intro _; intros; try dsimp only)
    | split

theorem keeps_execRollbackSet (v : Nat) {s : State} (hs : Keeps qq oo s) : KeepsOut qq oo (execRollbackSet v s) := by
  unfold execRollbackSet
  try dsimp only
  repeat' first
    | (with_reducible first | assumption | exact trivial | apply keepsOut_next | apply keepsOut_ite | apply keeps_ite | apply keeps_mailbox)
    | (with_reducible first | apply keeps_mbFail | apply keeps_mbEnd | apply keeps_fwEvent | apply keeps_writeBell)
    | (with_reducible apply Keeps.mk; dsimp only; with_reducible apply Keeps.ok)
    | (intro _; intros; try dsimp only)
    | split

theorem keeps_execOwnerSet (key : Nat) (sig : List Byte) {s : State} (hs : Keeps qq oo s) : KeepsOut qq oo (execOwnerSet key sig s) := by
  unfold execOwnerSet
  try dsimp only
  repeat' first
    | (with_reducible first | assumption | exact trivial | apply keepsOut_next | apply keepsOut_ite | apply keeps_ite | apply keeps_mailbox)
    | (with_reducible first | apply keeps_mbFail | apply keeps_mbEnd)
    | (with_reducible apply Keeps.mk; dsimp only; with_reducible apply Keeps.ok)
    | (intro _; intros; try dsimp only)
    | split

theorem keeps_execKeysvcSet (key : Nat) {s : State} (hs : Keeps qq oo s) : KeepsOut qq oo (execKeysvcSet key s) := by
  unfold execKeysvcSet
  try dsimp only
  repeat' first
    | (with_reducible first | assumption | exact trivial | apply keepsOut_next | apply keepsOut_ite | apply keeps_mailbox | apply keeps_mbEnd)
    | (with_reducible apply Keeps.mk; dsimp only; with_reducible apply Keeps.ok)
    | (intro _; intros; try dsimp only)

theorem keeps_execServiceKeySet (key : Nat) {s : State} (hs : Keeps qq oo s) : KeepsOut qq oo (execServiceKeySet key s) := by
  unfold execServiceKeySet
  try dsimp only
  repeat' first
    | (with_reducible first | assumption | exact trivial | apply keepsOut_next | apply keepsOut_ite | apply keeps_mailbox | apply keeps_mbEnd)
    | (with_reducible apply Keeps.mk; dsimp only; with_reducible apply Keeps.ok)
    | (intro _; intros; try dsimp only)

theorem keeps_execDebugChallenge {s : State} (hs : Keeps qq oo s) : KeepsOut qq oo (execDebugChallenge s) := by
  unfold execDebugChallenge
  try dsimp only
  repeat' first
    | (with_reducible first | assumption | exact trivial | apply keepsOut_next | apply keepsOut_ite | apply keeps_mailbox | apply keeps_draw)
    | (with_reducible first | apply keeps_mbEnd)
    | (with_reducible apply Keeps.mk; dsimp only; with_reducible apply Keeps.ok)
    | (intro _; intros; try dsimp only)

theorem keeps_failJobs {s : State} (code : Nat) (o : Origin) (hs : Keeps qq oo s) : Keeps qq oo (State.failJobs s code o) := by
  unfold State.failJobs
  repeat' first
    | (with_reducible first | assumption | apply keeps_ite | apply keeps_jobFatalRec | apply keeps_foldl)
    | (with_reducible apply Keeps.mk; dsimp only; with_reducible apply Keeps.ok)
    | (intro _; intros; try dsimp only)
    | split

theorem keeps_rekey {s : State} (code : Nat) (hs : Keeps qq oo s) : Keeps qq oo (State.rekey s code) := by
  unfold State.rekey
  try dsimp only
  repeat' first
    | (with_reducible first | assumption | apply keeps_eraseKeys | apply keeps_draw)
    | (with_reducible apply Keeps.mk; dsimp only; with_reducible apply Keeps.ok)

theorem keeps_debugEvent {s : State} (o : Origin) (nonce : Nat) (result : Nat) (hs : Keeps qq oo s) : Keeps qq oo (State.debugEvent s o nonce result) := by
  unfold State.debugEvent
  repeat' first
    | (with_reducible first | assumption | apply keeps_commit)
    | (intro _; intros; try dsimp only)

theorem keeps_openDebug {s : State} (o : Origin) (nonce : Nat) (hs : Keeps qq oo s) : Keeps qq oo (State.openDebug s o nonce) := by
  unfold State.openDebug
  try dsimp only
  repeat' first
    | (with_reducible first | assumption | apply keeps_debugEvent | apply keeps_failJobs | apply keeps_rekey | apply keeps_showPins)
    | (with_reducible apply Keeps.mk; dsimp only; with_reducible apply Keeps.ok)

theorem keeps_execDebugUnlock (sig : List Byte) {s : State} (hs : Keeps qq oo s) : KeepsOut qq oo (execDebugUnlock sig s) := by
  unfold execDebugUnlock
  try dsimp only
  repeat' first
    | (with_reducible first | assumption | exact trivial | apply keepsOut_next | apply keepsOut_ite | apply keeps_ite | apply keeps_mailbox)
    | (with_reducible first | apply keeps_openDebug | apply keeps_mbEnd | apply keeps_debugEvent | apply keeps_mbFail)
    | (with_reducible apply Keeps.mk; dsimp only; with_reducible apply Keeps.ok)
    | (intro _; intros; try dsimp only)
    | split

theorem keeps_execExtestWhileLocked {s : State} (hs : Keeps qq oo s) : KeepsOut qq oo (execExtestWhileLocked s) := by
  unfold execExtestWhileLocked
  repeat' first
    | (with_reducible first | assumption | exact trivial | apply keepsOut_next | apply keepsOut_ite | apply keeps_ite | apply keeps_debugEvent)
    | (with_reducible first | apply keeps_openDebug)
    | split

theorem keeps_tamper {s : State} (n : Nat) (count : Nat) (hs : Keeps qq oo s) : Keeps qq oo (State.tamper s n count) := by
  unfold State.tamper
  try dsimp only
  repeat' first
    | (with_reducible first | assumption | apply keeps_ite | apply keeps_setFld | apply keeps_commit | apply keeps_failJobs | apply keeps_rekey)
    | (with_reducible first | apply keeps_emit)
    | (with_reducible apply Keeps.mk; dsimp only; with_reducible apply Keeps.ok)
    | split

theorem keeps_execTamperInput (n : Nat) {s : State} (hs : Keeps qq oo s) : KeepsOut qq oo (execTamperInput n s) := by
  unfold execTamperInput
  try dsimp only
  repeat' first
    | (with_reducible first | assumption | exact trivial | apply keepsOut_next | apply keepsOut_ite | apply keeps_ite | apply keeps_tamper)
    | (with_reducible apply Keeps.mk; dsimp only; with_reducible apply Keeps.ok)
    | split

theorem keeps_execTamperClear {s : State} (hs : Keeps qq oo s) : KeepsOut qq oo (execTamperClear s) := by
  unfold execTamperClear
  try dsimp only
  repeat' first
    | (with_reducible first | assumption | exact trivial | apply keepsOut_next | apply keepsOut_ite | apply keeps_ite | apply keeps_mailbox)
    | (with_reducible first | apply keeps_commit | apply keeps_mbEnd)
    | (with_reducible apply Keeps.mk; dsimp only; with_reducible apply Keeps.ok)
    | (intro _; intros; try dsimp only)
    | split

end Sys2Proof.Machine
end

