-- ==== Sys2Proof/Laws/KeepsTime.lean ====
section
/-! SUPPORT. Each operation of Machine/Time.lean keeps what Keeps says. -/

set_option linter.unusedVariables false
set_option linter.tactic.unusedName false

namespace Sys2Proof.Machine

variable {qq : List Instr} {oo : List Out}

theorem keeps_ppsRise {s : State} (hs : Keeps qq oo s) : Keeps qq oo (State.ppsRise s) := by
  unfold State.ppsRise
  repeat' first
    | (with_reducible first | assumption | apply keeps_ite | apply keeps_emit)
    | (intro _; intros; try dsimp only)
    | split

theorem keeps_runClock {s : State} (n : Nat) (hs : Keeps qq oo s) : Keeps qq oo (State.runClock s n) := by
  unfold State.runClock
  try dsimp only
  repeat' first
    | (with_reducible first | assumption | apply keeps_ite | apply keeps_ppsRise)
    | (with_reducible apply Keeps.mk; dsimp only; with_reducible apply Keeps.ok)
    | split

theorem keeps_tick {s : State} (hs : Keeps qq oo s) : Keeps qq oo (State.tick s) := by
  unfold State.tick
  try dsimp only
  repeat' first
    | (with_reducible first | assumption | apply keeps_ite | apply keeps_runClock)
    | (with_reducible apply Keeps.mk; dsimp only; with_reducible apply Keeps.ok)
    | split

theorem keeps_execSecondsRollover {s : State} (hs : Keeps qq oo s) : KeepsOut qq oo (execSecondsRollover s) := by
  unfold execSecondsRollover
  repeat' first
    | (with_reducible first | assumption | exact trivial | apply keepsOut_next | apply keepsOut_ite | apply keeps_ite | apply keeps_runClock)
    | split

theorem keeps_stepClock {s : State} (ofs : Int) (hs : Keeps qq oo s) : Keeps qq oo (State.stepClock s ofs) := by
  unfold State.stepClock
  try dsimp only
  repeat' first
    | (with_reducible first | assumption | apply keeps_wr | apply keeps_setFld)
    | (with_reducible apply Keeps.mk; dsimp only; with_reducible apply Keeps.ok)

theorem keeps_writeStep {s : State} (o : Origin) (v : Nat) (hs : Keeps qq oo s) : Keeps qq oo (State.writeStep s o v) := by
  unfold State.writeStep
  repeat' first
    | (with_reducible first | assumption | apply keeps_ite | apply keeps_refuse | apply keeps_stepClock)
    | split

theorem keeps_execStep (o : Origin) (v : Nat) {s : State} (hs : Keeps qq oo s) : KeepsOut qq oo (execStep o v s) := by
  unfold execStep
  repeat' first
    | (with_reducible first | assumption | exact trivial | apply keepsOut_next | apply keepsOut_ite | apply keeps_act | apply keeps_writeStep)
    | (intro _; intros; try dsimp only)

theorem keeps_setPtp {s : State} (v : Nat) (hs : Keeps qq oo s) : Keeps qq oo (State.setPtp s v) := by
  unfold State.setPtp
  repeat' first
    | (with_reducible first | assumption | apply keeps_ite | apply keeps_wr | apply keeps_setFld)
    | split

theorem keeps_countSync {s : State} (offset : Int) (hs : Keeps qq oo s) : Keeps qq oo (State.countSync s offset) := by
  unfold State.countSync
  try dsimp only
  repeat' first
    | (with_reducible first | assumption | apply keeps_ite | apply keeps_setPtp)
    | (with_reducible apply Keeps.mk; dsimp only; with_reducible apply Keeps.ok)
    | split

theorem keeps_slew {s : State} (hs : Keeps qq oo s) : Keeps qq oo (State.slew s) := by
  unfold State.slew
  try dsimp only
  repeat' first
    | (with_reducible first | assumption | apply keeps_fresh | apply keeps_setReg)
    | (with_reducible apply Keeps.mk; dsimp only; with_reducible apply Keeps.ok)

theorem keeps_servo {s : State} (offset : Int) (hs : Keeps qq oo s) : Keeps qq oo (State.servo s offset) := by
  unfold State.servo
  try dsimp only
  repeat' first
    | (with_reducible first | assumption | apply keeps_ite | apply keeps_stepClock | apply keeps_slew | apply keeps_record)
    | (with_reducible apply Keeps.mk; dsimp only; with_reducible apply Keeps.ok)
    | split

theorem keeps_execPtpSync (offset : Int) (delay : Nat) (errNs : Nat) (gm : Nat) {s : State} (hs : Keeps qq oo s) : KeepsOut qq oo (execPtpSync offset delay errNs gm s) := by
  unfold execPtpSync
  try dsimp only
  repeat' first
    | (with_reducible first | assumption | exact trivial | apply keepsOut_next | apply keepsOut_ite | apply keeps_ite | apply keeps_wr64)
    | (with_reducible first | apply keeps_wr | apply keeps_maxFld | apply keeps_countSync | apply keeps_servo)
    | (with_reducible apply Keeps.mk; dsimp only; with_reducible apply Keeps.ok)
    | split

theorem keeps_execTimeGmLost {s : State} (hs : Keeps qq oo s) : KeepsOut qq oo (execTimeGmLost s) := by
  unfold execTimeGmLost
  repeat' first
    | (with_reducible first | assumption | exact trivial | apply keepsOut_next | apply keepsOut_ite | apply keeps_ite | apply keeps_record)
    | (with_reducible apply Keeps.mk; dsimp only; with_reducible apply Keeps.ok)
    | split

end Sys2Proof.Machine
end

