-- ==== Sys2Proof/Laws/KeepsIvdon.lean ====
section
/-! SUPPORT. Each operation of Machine/Ivdon.lean keeps what Keeps says. -/

set_option linter.unusedVariables false
set_option linter.tactic.unusedName false

namespace Sys2Proof.Machine

variable {qq : List Instr} {oo : List Out}

theorem keeps_forward {s : State} (port : Nat) (p : BitVec 128) (hs : Keeps qq oo s) : Keeps qq oo (State.forward s port p) := by
  unfold State.forward
  try dsimp only
  repeat' first
    | (with_reducible first | assumption | apply keeps_ite | apply keeps_sendOn)
    | (with_reducible apply Keeps.mk; dsimp only; with_reducible apply Keeps.ok)
    | split

theorem keeps_notePkt {s : State} (p : BitVec 128) (hs : Keeps qq oo s) : Keeps qq oo (State.notePkt s p) := by
  unfold State.notePkt
  try dsimp only
  repeat' first
    | (with_reducible first | assumption)
    | (with_reducible apply Keeps.mk; dsimp only; with_reducible apply Keeps.ok)
    | (intro _; intros; try dsimp only)

theorem keeps_dupCheck {s : State} (p : BitVec 128) (hs : Keeps qq oo s) : Keeps qq oo (State.dupCheck s p) := by
  unfold State.dupCheck
  try dsimp only
  repeat' first
    | (with_reducible first | assumption | apply keeps_ite | apply keeps_record)
    | (with_reducible apply Keeps.mk; dsimp only; with_reducible apply Keeps.ok)
    | split

theorem keeps_badPkt {s : State} (port : Nat) (hs : Keeps qq oo s) : Keeps qq oo (State.badPkt s port) := by
  unfold State.badPkt
  try dsimp only
  repeat' first
    | (with_reducible first | assumption | apply keeps_setPort | apply keeps_record)
    | (with_reducible apply Keeps.mk; dsimp only; with_reducible apply Keeps.ok)

theorem keeps_flooded {s : State} (typ : Nat) (port : Nat) (p : BitVec 128) {consume : State → State} (hs : Keeps qq oo s) (hconsume : ∀ t, Keeps qq oo t → Keeps qq oo (consume t)) : Keeps qq oo (State.flooded s typ port p consume) := by
  unfold State.flooded
  try dsimp only
  repeat' first
    | (with_reducible first | assumption | apply keeps_ite | apply hconsume | apply keeps_badPkt | apply keeps_inc | apply keeps_dupCheck)
    | (with_reducible first | apply keeps_notePkt | apply keeps_forward)
    | (with_reducible apply Keeps.mk; dsimp only; with_reducible apply Keeps.ok)
    | split

theorem keeps_groupPkt {s : State} (typ : Nat) (port : Nat) (p : BitVec 128) {consume : State → State} (hs : Keeps qq oo s) (hconsume : ∀ t, Keeps qq oo t → Keeps qq oo (consume t)) : Keeps qq oo (State.groupPkt s typ port p consume) := by
  unfold State.groupPkt
  repeat' first
    | (with_reducible first | assumption | apply keeps_ite | apply hconsume | apply keeps_flooded)
    | (intro _; intros; try dsimp only)
    | split

theorem keeps_execHello (port : Nat) (pkt : BitVec 128) {s : State} (hs : Keeps qq oo s) : KeepsOut qq oo (execHello port pkt s) := by
  unfold execHello
  try dsimp only
  repeat' first
    | (with_reducible first | assumption | exact trivial | apply keepsOut_next | apply keepsOut_ite | apply keeps_ite | apply keeps_badPkt)
    | (with_reducible first | apply keeps_setPort)
    | (with_reducible apply Keeps.mk; dsimp only; with_reducible apply Keeps.ok)
    | split

theorem keeps_setRing {s : State} (v : Nat) (hs : Keeps qq oo s) : Keeps qq oo (State.setRing s v) := by
  unfold State.setRing
  try dsimp only
  repeat' first
    | (with_reducible first | assumption)
    | (with_reducible apply Keeps.mk; dsimp only; with_reducible apply Keeps.ok)

theorem keeps_execLevel (port : Nat) (pkt : BitVec 128) {s : State} (hs : Keeps qq oo s) : KeepsOut qq oo (execLevel port pkt s) := by
  unfold execLevel
  try dsimp only
  repeat' first
    | (with_reducible first | assumption | exact trivial | apply keepsOut_next | apply keepsOut_ite | apply keeps_ite | apply keeps_flooded)
    | (with_reducible first | apply keeps_setRing | apply keeps_record)
    | (with_reducible apply Keeps.mk; dsimp only; with_reducible apply Keeps.ok)
    | (intro _; intros; try dsimp only)
    | split

theorem keeps_execIvdonLevelRise {s : State} (hs : Keeps qq oo s) : KeepsOut qq oo (execIvdonLevelRise s) := by
  unfold execIvdonLevelRise
  try dsimp only
  repeat' first
    | (with_reducible first | assumption | exact trivial | apply keepsOut_next | apply keepsOut_ite | apply keeps_ite | apply keeps_setRing)
    | (with_reducible first | apply keeps_foldl)
    | (with_reducible apply Keeps.mk; dsimp only; with_reducible apply Keeps.ok)
    | (intro _; intros; try dsimp only)
    | split

theorem keeps_execIvdonWake (port : Nat) (pkt : BitVec 128) {s : State} (hs : Keeps qq oo s) : KeepsOut qq oo (execIvdonWake port pkt s) := by
  unfold execIvdonWake
  repeat' first
    | (with_reducible first | assumption | exact trivial | apply keepsOut_next | apply keepsOut_ite | apply keeps_ite | apply keeps_flooded)
    | (with_reducible first | apply keeps_wake)
    | (intro _; intros; try dsimp only)
    | split

theorem keeps_execMgmt (port : Nat) (pkt : BitVec 128) {s : State} (hs : Keeps qq oo s) : KeepsOut qq oo (execMgmt port pkt s) := by
  unfold execMgmt
  repeat' first
    | (with_reducible first | assumption | exact trivial | apply keepsOut_next | apply keepsOut_ite | apply keeps_id | apply keeps_flooded)
    | (intro _; intros; try dsimp only)

theorem keeps_takeEpoch {s : State} (e : Nat) (hs : Keeps qq oo s) : Keeps qq oo (State.takeEpoch s e) := by
  unfold State.takeEpoch
  try dsimp only
  repeat' first
    | (with_reducible first | assumption)
    | (with_reducible apply Keeps.mk; dsimp only; with_reducible apply Keeps.ok)
    | (intro _; intros; try dsimp only)

theorem keeps_countReady {s : State} (src : Nat) (hs : Keeps qq oo s) : Keeps qq oo (State.countReady s src) := by
  unfold State.countReady
  try dsimp only
  repeat' first
    | (with_reducible first | assumption | apply keeps_ite | apply keeps_flood | apply keeps_takeEpoch)
    | (with_reducible apply Keeps.mk; dsimp only; with_reducible apply Keeps.ok)
    | split

theorem keeps_execReady (port : Nat) (pkt : BitVec 128) {s : State} (hs : Keeps qq oo s) : KeepsOut qq oo (execReady port pkt s) := by
  unfold execReady
  repeat' first
    | (with_reducible first | assumption | exact trivial | apply keepsOut_next | apply keepsOut_ite | apply keeps_ite | apply keeps_groupPkt)
    | (with_reducible first | apply keeps_countReady)
    | (intro _; intros; try dsimp only)
    | split

theorem keeps_execEpoch (port : Nat) (pkt : BitVec 128) {s : State} (hs : Keeps qq oo s) : KeepsOut qq oo (execEpoch port pkt s) := by
  unfold execEpoch
  repeat' first
    | (with_reducible first | assumption | exact trivial | apply keepsOut_next | apply keepsOut_ite | apply keeps_ite | apply keeps_groupPkt)
    | (with_reducible first | apply keeps_takeEpoch)
    | (intro _; intros; try dsimp only)
    | split

theorem keeps_execGroupReady {s : State} (hs : Keeps qq oo s) : KeepsOut qq oo (execGroupReady s) := by
  unfold execGroupReady
  try dsimp only
  repeat' first
    | (with_reducible first | assumption | exact trivial | apply keepsOut_next | apply keepsOut_ite | apply keeps_ite | apply keeps_flood)
    | (with_reducible first | apply keeps_countReady)
    | (with_reducible apply Keeps.mk; dsimp only; with_reducible apply Keeps.ok)
    | split

theorem keeps_containPeer {s : State} (hs : Keeps qq oo s) : Keeps qq oo (State.containPeer s) := by
  unfold State.containPeer
  try dsimp only
  repeat' first
    | (with_reducible first | assumption | apply keeps_ite | apply keeps_contain | apply keeps_modStripe)
    | exact fun _ => rfl
    | (intro t; (try dsimp only); (repeat' split) <;> rfl)
    | (with_reducible apply Keeps.mk; dsimp only; with_reducible apply Keeps.ok)
    | (intro _; intros; try dsimp only)
    | split

theorem keeps_execContain (port : Nat) (pkt : BitVec 128) {s : State} (hs : Keeps qq oo s) : KeepsOut qq oo (execContain port pkt s) := by
  unfold execContain
  try dsimp only
  repeat' first
    | (with_reducible first | assumption | exact trivial | apply keepsOut_next | apply keepsOut_ite | apply keeps_ite | apply keeps_groupPkt)
    | (with_reducible first | apply keeps_containPeer)
    | (with_reducible apply Keeps.mk; dsimp only; with_reducible apply Keeps.ok)
    | (intro _; intros; try dsimp only)
    | split

theorem keeps_execAlive (port : Nat) (pkt : BitVec 128) {s : State} (hs : Keeps qq oo s) : KeepsOut qq oo (execAlive port pkt s) := by
  unfold execAlive
  try dsimp only
  repeat' first
    | (with_reducible first | assumption | exact trivial | apply keepsOut_next | apply keepsOut_ite | apply keeps_ite | apply keeps_groupPkt)
    | (with_reducible apply Keeps.mk; dsimp only; with_reducible apply Keeps.ok)
    | (intro _; intros; try dsimp only)
    | split

theorem keeps_execIvdonGroupLost (member : Nat) {s : State} (hs : Keeps qq oo s) : KeepsOut qq oo (execIvdonGroupLost member s) := by
  unfold execIvdonGroupLost
  try dsimp only
  repeat' first
    | (with_reducible first | assumption | exact trivial | apply keepsOut_next | apply keepsOut_ite | apply keeps_ite | apply keeps_contain)
    | (with_reducible apply Keeps.mk; dsimp only; with_reducible apply Keeps.ok)
    | split

theorem keeps_execIvdonPortDown (port : Nat) {s : State} (hs : Keeps qq oo s) : KeepsOut qq oo (execIvdonPortDown port s) := by
  unfold execIvdonPortDown
  repeat' first
    | (with_reducible first | assumption | exact trivial | apply keepsOut_next | apply keepsOut_ite | apply keeps_ite | apply keeps_portDown)
    | split

theorem keeps_execIvdonPortTrained (port : Nat) (rate : Nat) (result : PortEnd) (nb : Nat) (nbPort : Nat) {s : State} (hs : Keeps qq oo s) : KeepsOut qq oo (execIvdonPortTrained port rate result nb nbPort s) := by
  unfold execIvdonPortTrained
  try dsimp only
  repeat' first
    | (with_reducible first | assumption | exact trivial | apply keepsOut_next | apply keepsOut_ite | apply keeps_ite | apply keeps_setPort)
    | (with_reducible first | apply keeps_record)
    | (with_reducible apply Keeps.mk; dsimp only; with_reducible apply Keeps.ok)
    | split

theorem keeps_execIvdonPortRetry (port : Nat) {s : State} (hs : Keeps qq oo s) : KeepsOut qq oo (execIvdonPortRetry port s) := by
  unfold execIvdonPortRetry
  try dsimp only
  repeat' first
    | (with_reducible first | assumption | exact trivial | apply keepsOut_next | apply keepsOut_ite | apply keeps_ite | apply keeps_setPort)
    | (with_reducible apply Keeps.mk; dsimp only; with_reducible apply Keeps.ok)
    | split

theorem keeps_retrainPorts {s : State} (v : Nat) (hs : Keeps qq oo s) : Keeps qq oo (State.retrainPorts s v) := by
  unfold State.retrainPorts
  try dsimp only
  repeat' first
    | (with_reducible first | assumption | apply keeps_ite | apply keeps_setPort | apply keeps_foldl)
    | (with_reducible apply Keeps.mk; dsimp only; with_reducible apply Keeps.ok)
    | (intro _; intros; try dsimp only)
    | split

theorem keeps_execIvdonRetrain (o : Origin) (v : Nat) {s : State} (hs : Keeps qq oo s) : KeepsOut qq oo (execIvdonRetrain o v s) := by
  unfold execIvdonRetrain
  repeat' first
    | (with_reducible first | assumption | exact trivial | apply keepsOut_next | apply keepsOut_ite | apply keeps_ite | apply keeps_act)
    | (with_reducible first | apply keeps_retrainPorts)
    | (intro _; intros; try dsimp only)
    | split

theorem keeps_startPorts {s : State} (hs : Keeps qq oo s) : Keeps qq oo (State.startPorts s) := by
  unfold State.startPorts
  try dsimp only
  repeat' first
    | (with_reducible first | assumption | apply keeps_setPort | apply keeps_foldl)
    | (with_reducible apply Keeps.mk; dsimp only; with_reducible apply Keeps.ok)
    | (intro _; intros; try dsimp only)

theorem keeps_stopPorts {s : State} (hs : Keeps qq oo s) : Keeps qq oo (State.stopPorts s) := by
  unfold State.stopPorts
  try dsimp only
  repeat' first
    | (with_reducible first | assumption | apply keeps_setPort | apply keeps_foldl)
    | (with_reducible apply Keeps.mk; dsimp only; with_reducible apply Keeps.ok)
    | (intro _; intros; try dsimp only)

theorem keeps_newGroup {s : State} (hs : Keeps qq oo s) : Keeps qq oo (State.newGroup s) := by
  unfold State.newGroup
  try dsimp only
  repeat' first
    | (with_reducible first | assumption)
    | (with_reducible apply Keeps.mk; dsimp only; with_reducible apply Keeps.ok)

end Sys2Proof.Machine
end

