-- ==== Sys2Proof/Laws/KeepsTherm.lean ====
section
/-! SUPPORT. Each operation of Machine/Therm.lean keeps what Keeps says. -/

set_option linter.unusedVariables false
set_option linter.tactic.unusedName false

namespace Sys2Proof.Machine

variable {qq : List Instr} {oo : List Out}

theorem keeps_setSensor {s : State} (i : Nat) (x : Sensor) (hs : Keeps qq oo s) : Keeps qq oo (State.setSensor s i x) := by
  unfold State.setSensor
  try dsimp only
  repeat' first
    | (with_reducible first | assumption)
    | (with_reducible apply Keeps.mk; dsimp only; with_reducible apply Keeps.ok)
    | (intro _; intros; try dsimp only)

theorem keeps_setClass {s : State} (c : Nat) (x : TClass) (hs : Keeps qq oo s) : Keeps qq oo (State.setClass s c x) := by
  unfold State.setClass
  try dsimp only
  repeat' first
    | (with_reducible first | assumption)
    | (with_reducible apply Keeps.mk; dsimp only; with_reducible apply Keeps.ok)
    | (intro _; intros; try dsimp only)

theorem keeps_sampleOne {s : State} (raw : List (Option Int)) (i : Nat) (hs : Keeps qq oo s) : Keeps qq oo (State.sampleOne s raw i) := by
  unfold State.sampleOne
  try dsimp only
  repeat' first
    | (with_reducible first | assumption | apply keeps_ite | apply keeps_setSensor)
    | (with_reducible apply Keeps.mk; dsimp only; with_reducible apply Keeps.ok)
    | split

theorem keeps_sampleClass {s : State} (c : Nat) (hs : Keeps qq oo s) : Keeps qq oo (State.sampleClass s c) := by
  unfold State.sampleClass
  try dsimp only
  repeat' first
    | (with_reducible first | assumption | apply keeps_setClass)
    | (with_reducible apply Keeps.mk; dsimp only; with_reducible apply Keeps.ok)
    | (intro _; intros; try dsimp only)
    | split

theorem keeps_showCeil {s : State} (hs : Keeps qq oo s) : Keeps qq oo (State.showCeil s) := by
  unfold State.showCeil
  try dsimp only
  repeat' first
    | (with_reducible first | assumption | apply keeps_ite | apply keeps_setClass | apply keeps_setFld | apply keeps_foldl)
    | (with_reducible apply Keeps.mk; dsimp only; with_reducible apply Keeps.ok)
    | (intro _; intros; try dsimp only)
    | split

theorem keeps_showHottest {s : State} (hs : Keeps qq oo s) : Keeps qq oo (State.showHottest s) := by
  unfold State.showHottest
  try dsimp only
  repeat' first
    | (with_reducible first | assumption | apply keeps_ite | apply keeps_wr | apply keeps_foldl)
    | (with_reducible apply Keeps.mk; dsimp only; with_reducible apply Keeps.ok)
    | (intro _; intros; try dsimp only)
    | split

theorem keeps_sampleStack {s : State} (k : Nat) (hs : Keeps qq oo s) : Keeps qq oo (State.sampleStack s k) := by
  unfold State.sampleStack
  try dsimp only
  repeat' first
    | (with_reducible first | assumption | apply keeps_ite | apply keeps_setStack)
    | (with_reducible apply Keeps.mk; dsimp only; with_reducible apply Keeps.ok)
    | (intro _; intros; try dsimp only)
    | split

theorem keeps_sampleBank {s : State} (hs : Keeps qq oo s) : Keeps qq oo (State.sampleBank s) := by
  unfold State.sampleBank
  try dsimp only
  repeat' first
    | (with_reducible first | assumption | apply keeps_ite)
    | (with_reducible apply Keeps.mk; dsimp only; with_reducible apply Keeps.ok)
    | (intro _; intros; try dsimp only)
    | split

theorem keeps_sampleDieBand {s : State} (hs : Keeps qq oo s) : Keeps qq oo (State.sampleDieBand s) := by
  unfold State.sampleDieBand
  try dsimp only
  repeat' first
    | (with_reducible first | assumption | apply keeps_ite | apply keeps_setClass | apply keeps_keepNow)
    | (with_reducible apply Keeps.mk; dsimp only; with_reducible apply Keeps.ok)
    | (intro _; intros; try dsimp only)
    | split

theorem keeps_beginHold {s : State} (c : Nat) (hs : Keeps qq oo s) : Keeps qq oo (State.beginHold s c) := by
  unfold State.beginHold
  try dsimp only
  repeat' first
    | (with_reducible first | assumption | apply keeps_ite | apply keeps_setClass | apply keeps_setFld)
    | (with_reducible apply Keeps.mk; dsimp only; with_reducible apply Keeps.ok)
    | split

theorem keeps_endHold {s : State} (c : Nat) (hs : Keeps qq oo s) : Keeps qq oo (State.endHold s c) := by
  unfold State.endHold
  try dsimp only
  repeat' first
    | (with_reducible first | assumption | apply keeps_ite | apply keeps_setClass | apply keeps_setFld | apply keeps_showCeil)
    | (with_reducible apply Keeps.mk; dsimp only; with_reducible apply Keeps.ok)
    | split

theorem keeps_recordRise {s : State} (c : Nat) (level : Nat) (hs : Keeps qq oo s) : Keeps qq oo (State.recordRise s c level) := by
  unfold State.recordRise
  repeat' first
    | (with_reducible first | assumption | apply keeps_ite | apply keeps_bump | apply keeps_record | apply keeps_raiseIrq)
    | (with_reducible apply Keeps.mk; dsimp only; with_reducible apply Keeps.ok)
    | split

theorem keeps_shutdown {s : State} (c : Nat) (hs : Keeps qq oo s) : Keeps qq oo (State.shutdown s c) := by
  unfold State.shutdown
  repeat' first
    | (with_reducible first | assumption | apply keeps_ite | apply keeps_contain | apply keeps_raiseIrq | apply keeps_recordRise)
    | (with_reducible apply Keeps.mk; dsimp only; with_reducible apply Keeps.ok)
    | (intro _; intros; try dsimp only)
    | split

theorem keeps_execThermLevelRise (cls : Nat) (level : Nat) {s : State} (hs : Keeps qq oo s) : KeepsOut qq oo (execThermLevelRise cls level s) := by
  unfold execThermLevelRise
  try dsimp only
  repeat' first
    | (with_reducible first | assumption | exact trivial | apply keepsOut_next | apply keepsOut_ite | apply keeps_ite | apply keeps_setClass)
    | (with_reducible first | apply keeps_shutdown | apply keeps_recordRise | apply keeps_beginHold | apply keeps_showCeil)
    | (with_reducible apply Keeps.mk; dsimp only; with_reducible apply Keeps.ok)
    | split

theorem keeps_releasePause {s : State} (hs : Keeps qq oo s) : Keeps qq oo (State.releasePause s) := by
  unfold State.releasePause
  try dsimp only
  repeat' first
    | (with_reducible first | assumption | apply keeps_ite)
    | (with_reducible apply Keeps.mk; dsimp only; with_reducible apply Keeps.ok)
    | (intro _; intros; try dsimp only)
    | split

theorem keeps_leaveHeld {s : State} {t : State} (hs : Keeps qq oo s) (ht : Keeps qq oo t) : Keeps qq oo (State.leaveHeld s t) := by
  unfold State.leaveHeld
  repeat' first
    | (with_reducible first | assumption | apply keeps_ite | apply keeps_wakeLanes)
    | split

theorem keeps_execThermLevelFall (cls : Nat) (level : Nat) {s : State} (hs : Keeps qq oo s) : KeepsOut qq oo (execThermLevelFall cls level s) := by
  unfold execThermLevelFall
  try dsimp only
  repeat' first
    | (with_reducible first | assumption | exact trivial | apply keepsOut_next | apply keepsOut_ite | apply keeps_ite | apply keeps_leaveHeld)
    | (with_reducible first | apply keeps_setClass | apply keeps_raiseIrq | apply keeps_releasePause | apply keeps_showCeil)
    | (with_reducible apply Keeps.mk; dsimp only; with_reducible apply Keeps.ok)
    | (intro _; intros; try dsimp only)
    | split

theorem keeps_checkPair {s : State} (c : Nat) (hs : Keeps qq oo s) : Keeps qq oo (State.checkPair s c) := by
  unfold State.checkPair
  try dsimp only
  repeat' first
    | (with_reducible first | assumption | apply keeps_ite | apply keeps_setClass | apply keeps_record | apply keeps_raiseIrq)
    | (with_reducible first | apply keeps_leaveHeld | apply keeps_releasePause)
    | (with_reducible apply Keeps.mk; dsimp only; with_reducible apply Keeps.ok)
    | split

theorem keeps_execThermSample (raw : List (Option Int)) {s : State} (hs : Keeps qq oo s) : KeepsOut qq oo (execThermSample raw s) := by
  unfold execThermSample
  try dsimp only
  repeat' first
    | (with_reducible first | assumption | exact trivial | apply keepsOut_next | apply keepsOut_ite | apply keeps_ite | apply keeps_sampleOne)
    | (with_reducible first | apply keeps_sampleClass | apply keeps_sampleStack | apply keeps_sampleBank | apply keeps_sampleDieBand)
    | (with_reducible first | apply keeps_showHottest | apply keeps_endHold | apply keeps_checkPair | apply keeps_showCeil | apply keeps_foldl)
    | (with_reducible apply Keeps.mk; dsimp only; with_reducible apply Keeps.ok)
    | (intro _; intros; try dsimp only)
    | split

theorem keeps_execThermSensorFailed (i : Nat) {s : State} (hs : Keeps qq oo s) : KeepsOut qq oo (execThermSensorFailed i s) := by
  unfold execThermSensorFailed
  try dsimp only
  repeat' first
    | (with_reducible first | assumption | exact trivial | apply keepsOut_next | apply keepsOut_ite | apply keeps_ite | apply keeps_setSensor)
    | (with_reducible first | apply keeps_record | apply keeps_raiseIrq | apply keeps_beginHold | apply keeps_checkPair | apply keeps_showCeil)
    | (with_reducible apply Keeps.mk; dsimp only; with_reducible apply Keeps.ok)
    | split

theorem keeps_execThermSensorRecovered (i : Nat) {s : State} (hs : Keeps qq oo s) : KeepsOut qq oo (execThermSensorRecovered i s) := by
  unfold execThermSensorRecovered
  try dsimp only
  repeat' first
    | (with_reducible first | assumption | exact trivial | apply keepsOut_next | apply keepsOut_ite | apply keeps_ite | apply keeps_setSensor)
    | (with_reducible first | apply keeps_endHold | apply keeps_checkPair | apply keeps_showCeil)
    | (with_reducible apply Keeps.mk; dsimp only; with_reducible apply Keeps.ok)
    | split

theorem keeps_ack {s : State} (o : Origin) (v : Nat) (hs : Keeps qq oo s) : Keeps qq oo (State.ack s o v) := by
  unfold State.ack
  try dsimp only
  repeat' first
    | (with_reducible first | assumption | apply keeps_ite | apply keeps_refuse | apply keeps_countFull | apply keeps_commit)
    | (with_reducible first | apply keeps_setSensor | apply keeps_endHold)
    | (with_reducible apply Keeps.mk; dsimp only; with_reducible apply Keeps.ok)
    | split

theorem keeps_execThermAck (o : Origin) (v : Nat) {s : State} (hs : Keeps qq oo s) : KeepsOut qq oo (execThermAck o v s) := by
  unfold execThermAck
  repeat' first
    | (with_reducible first | assumption | exact trivial | apply keepsOut_next | apply keepsOut_ite | apply keeps_act | apply keeps_ack)
    | (intro _; intros; try dsimp only)

end Sys2Proof.Machine
end

