-- ==== Sys2Proof/Laws/KeepsEnable.lean ====
section
/-! SUPPORT. Each operation of Machine/Enable.lean keeps what Keeps says. -/

set_option linter.unusedVariables false
set_option linter.tactic.unusedName false

namespace Sys2Proof.Machine

variable {qq : List Instr} {oo : List Out}

theorem keeps_thermInForce {s : State} (hs : Keeps qq oo s) : Keeps qq oo (State.thermInForce s) :=
  keeps_putForce _ (fun a => a) (fun a => BitVec.ofNat 32 (s.rd a)) hs

theorem keeps_shepherdInForce {s : State} (hs : Keeps qq oo s) : Keeps qq oo (State.shepherdInForce s) := by
  unfold State.shepherdInForce
  try dsimp only
  repeat' first
    | (with_reducible first | assumption | apply keeps_ite | apply keeps_fencesAtEnable | apply keeps_wr)
    | (with_reducible apply Keeps.mk; dsimp only; with_reducible apply Keeps.ok)
    | split

theorem keeps_startPage {s : State} (p : Nat) (hs : Keeps qq oo s) : Keeps qq oo (State.startPage s p) := by
  unfold State.startPage
  try dsimp only
  repeat' first
    | (with_reducible first | assumption | apply keeps_ite | apply keeps_thermInForce | apply keeps_setPtp | apply keeps_shepherdInForce)
    | (with_reducible first | apply keeps_retrainLane | apply keeps_startPorts | apply keeps_newGroup | apply keeps_foldl)
    | (with_reducible apply Keeps.mk; dsimp only; with_reducible apply Keeps.ok)
    | (intro _; intros; try dsimp only)
    | split

theorem keeps_lanesOff {s : State} (hs : Keeps qq oo s) : Keeps qq oo (State.lanesOff s) := by
  unfold State.lanesOff
  try dsimp only
  repeat' first
    | (with_reducible first | assumption | apply keeps_ite | apply keeps_setLane | apply keeps_foldl)
    | (with_reducible apply Keeps.mk; dsimp only; with_reducible apply Keeps.ok)
    | (intro _; intros; try dsimp only)
    | split

theorem keeps_stopPage {s : State} (p : Nat) (hs : Keeps qq oo s) : Keeps qq oo (State.stopPage s p) := by
  unfold State.stopPage
  try dsimp only
  repeat' first
    | (with_reducible first | assumption | apply keeps_setPtp | apply keeps_lanesOff | apply keeps_stopPorts | apply keeps_abortEngines)
    | (with_reducible apply Keeps.mk; dsimp only; with_reducible apply Keeps.ok)
    | split

theorem keeps_passCheck {s : State} (o : Origin) (p : Nat) (new : Nat) (hs : Keeps qq oo s) : Keeps qq oo (State.passCheck s o p new) := by
  unfold State.passCheck
  repeat' first
    | (with_reducible first | assumption | apply keeps_traced | apply keeps_clkOn | apply keeps_wr | apply keeps_setReg | apply keeps_startPage)

theorem keeps_failCheck {s : State} (o : Origin) (p : Nat) (new : Nat) (e : Nat × Nat) (hs : Keeps qq oo s) : Keeps qq oo (State.failCheck s o p new e) := by
  unfold State.failCheck
  try dsimp only
  repeat' first
    | (with_reducible first | assumption | apply keeps_traced | apply keeps_clkOn | apply keeps_setReg | apply keeps_wr | apply keeps_raiseIrq)

theorem keeps_disable {s : State} (o : Origin) (p : Nat) (new : Nat) (v : Nat) (hs : Keeps qq oo s) : Keeps qq oo (State.disable s o p new v) := by
  unfold State.disable
  repeat' first
    | (with_reducible first | assumption | apply keeps_ite | apply keeps_refuse | apply keeps_traced | apply keeps_setReg)
    | (with_reducible first | apply keeps_stopPage)
    | (intro _; intros; try dsimp only)
    | split

theorem keeps_softTherm {s : State} (hs : Keeps qq oo s) : Keeps qq oo (State.softTherm s) := by
  unfold State.softTherm
  try dsimp only
  repeat' first
    | (with_reducible first | assumption | apply keeps_wr | apply keeps_showCeil)
    | (with_reducible apply Keeps.mk; dsimp only; with_reducible apply Keeps.ok)

theorem keeps_softState {s : State} (p : Nat) (hs : Keeps qq oo s) : Keeps qq oo (State.softState s p) := by
  unfold State.softState
  try dsimp only
  repeat' first
    | (with_reducible first | assumption | apply keeps_softTherm | apply keeps_setFld | apply keeps_foldl)
    | (with_reducible apply Keeps.mk; dsimp only; with_reducible apply Keeps.ok)
    | (intro _; intros; try dsimp only)
    | exact ⟨{ hs.ok with cmds := numbered_nil _ }⟩
    | split

theorem keeps_resetField {s : State} (a : RegAddr) (mask : Nat) (hs : Keeps qq oo s) : Keeps qq oo (State.resetField s a mask) := by
  unfold State.resetField
  repeat' first
    | (with_reducible first | assumption | apply keeps_wr)

theorem keeps_softReset {s : State} (p : Nat) (hs : Keeps qq oo s) : Keeps qq oo (State.softReset s p) := by
  unfold State.softReset
  try dsimp only
  repeat' first
    | (with_reducible first | assumption | apply keeps_resetField | apply keeps_softState | apply keeps_wr | apply keeps_traced)
    | (with_reducible first | apply keeps_foldl)
    | (with_reducible apply Keeps.mk; dsimp only; with_reducible apply Keeps.ok)
    | (intro _; intros; try dsimp only)

theorem keeps_putCtrl {s : State} (o : Origin) (p : Nat) (v : Nat) (hs : Keeps qq oo s) : Keeps qq oo (State.putCtrl s o p v) := by
  unfold State.putCtrl
  try dsimp only
  repeat' first
    | (with_reducible first | assumption | apply keeps_ite | apply keeps_refuse | apply keeps_countFull | apply keeps_softReset)
    | (with_reducible first | apply keeps_setReg | apply keeps_passCheck | apply keeps_failCheck | apply keeps_disable)
    | (with_reducible apply Keeps.mk; dsimp only; with_reducible apply Keeps.ok)
    | split

theorem keeps_writeCtrl {s : State} (o : Origin) (p : Nat) (v : Nat) (hs : Keeps qq oo s) : Keeps qq oo (State.writeCtrl s o p v) := by
  unfold State.writeCtrl
  try dsimp only
  repeat' first
    | (with_reducible first | assumption | apply keeps_ite | apply keeps_putCtrl)
    | (with_reducible apply Keeps.mk; dsimp only; with_reducible apply Keeps.ok)
    | (refine keeps_permit_ok (h := ?_) (e := by assumption))
    | (refine keeps_permit_error (h := ?_) (e := by assumption))
    | split

theorem keeps_clearErr {s : State} (p : Nat) (hs : Keeps qq oo s) : Keeps qq oo (State.clearErr s p) := by
  unfold State.clearErr
  try dsimp only
  repeat' first
    | (with_reducible first | assumption | apply keeps_ite | apply keeps_traced | apply keeps_resetField | apply keeps_wr | apply keeps_foldl)
    | (with_reducible apply Keeps.mk; dsimp only; with_reducible apply Keeps.ok)
    | (intro _; intros; try dsimp only)
    | split

end Sys2Proof.Machine
end

