-- ==== Sys2Proof/Laws/KeepsPower.lean ====
section
/-! SUPPORT. Each operation of Machine/Power.lean keeps what Keeps says. -/

set_option linter.unusedVariables false
set_option linter.tactic.unusedName false

namespace Sys2Proof.Machine

variable {qq : List Instr} {oo : List Out}

theorem keeps_bootClock {s : State} (lost : Bool) (hs : Keeps qq oo s) : Keeps qq oo (State.bootClock s lost) := by
  unfold State.bootClock
  try dsimp only
  repeat' first
    | (with_reducible first | assumption | apply keeps_ite | apply keeps_wr | apply keeps_setFld)
    | (with_reducible apply Keeps.mk; dsimp only; with_reducible apply keeps_up)
    | (with_reducible apply Keeps.mk; dsimp only; with_reducible apply Keeps.ok)
    | split

theorem keeps_bootAudit {s : State} (bad : List (Nat × Nat)) (hs : Keeps qq oo s) : Keeps qq oo (State.bootAudit s bad) := by
  unfold State.bootAudit
  dsimp only
  have h0 : (if s.anchorsLost bad = true then ({} : Audit) else s.audit).pool.length ≤ 32768 := by
    split
    · exact Nat.zero_le _
    · exact hs.ok.pool
  have h : ∀ n c p, Keeps qq oo { s with audit := { (if s.anchorsLost bad = true then ({} : Audit) else s.audit) with
      nextSeq := n, chain := c, powerups := p } } := fun n c p => ⟨{ hs.ok with pool := h0 }⟩
  repeat' first
    | with_reducible apply keeps_ite
    | with_reducible apply keeps_beginSign
    | with_reducible apply keeps_record
    | with_reducible apply keeps_commit
    | with_reducible apply keeps_putAnchors
    | with_reducible apply keeps_wr64
    | exact h _ _ _

theorem keeps_bootUnset {s : State} (hs : Keeps qq oo s) : Keeps qq oo (State.bootUnset s) := by
  unfold State.bootUnset
  repeat' first
    | (with_reducible first | assumption | apply keeps_ite | apply keeps_record)
    | (with_reducible apply Keeps.mk; dsimp only; with_reducible apply Keeps.ok)
    | split

theorem keeps_bootVote {s : State} (f : BootFound) (n : Nat) (hs : Keeps qq oo s) : Keeps qq oo (State.bootVote s f n) := by
  unfold State.bootVote
  try dsimp only
  repeat' first
    | (with_reducible first | assumption | apply keeps_ite | apply keeps_putBell | apply keeps_commit | apply keeps_bump | apply keeps_voteWord)
    | (with_reducible apply Keeps.mk; dsimp only; with_reducible apply Keeps.ok)
    | (intro _; intros; try dsimp only)
    | split

theorem keeps_bootDirectory {s : State} (ahead : Bool) (hs : Keeps qq oo s) : Keeps qq oo (State.bootDirectory s ahead) := by
  unfold State.bootDirectory
  repeat' first
    | (with_reducible first | assumption | apply keeps_ite | apply keeps_writeBell | apply keeps_record)
    | (with_reducible apply Keeps.mk; dsimp only; with_reducible apply Keeps.ok)
    | split

theorem keeps_bootRepairs {s : State} (hs : Keeps qq oo s) : Keeps qq oo (State.bootRepairs s) := by
  unfold State.bootRepairs
  try dsimp only
  repeat' first
    | (with_reducible first | assumption | apply keeps_ite)
    | (with_reducible apply Keeps.mk; dsimp only; with_reducible apply Keeps.ok)
    | (intro _; intros; try dsimp only)
    | split

theorem keeps_bootAge {s : State} (hs : Keeps qq oo s) : Keeps qq oo (State.bootAge s) := by
  unfold State.bootAge
  try dsimp only
  repeat' first
    | (with_reducible first | assumption | apply keeps_ite | apply keeps_setFld | apply keeps_emit | apply keeps_showAge)
    | (with_reducible apply Keeps.mk; dsimp only; with_reducible apply Keeps.ok)
    | split

theorem keeps_bootEncs {s : State} (hs : Keeps qq oo s) : Keeps qq oo (State.bootEncs s) := by
  unfold State.bootEncs
  repeat' first
    | (with_reducible first | assumption | apply keeps_loadEnc | apply keeps_foldl)
    | (intro _; intros; try dsimp only)

theorem keeps_bootMigration {s : State} (hs : Keeps qq oo s) : Keeps qq oo (State.bootMigration s) := by
  unfold State.bootMigration
  try dsimp only
  repeat' first
    | (with_reducible first | assumption | apply keeps_ite | apply keeps_finishMigration | apply keeps_wr64)
    | (with_reducible apply Keeps.mk; dsimp only; with_reducible apply Keeps.ok)
    | split

theorem keeps_rankFails {s : State} (p : Nat) (hs : Keeps qq oo s) : Keeps qq oo (State.rankFails s p) := by
  unfold State.rankFails
  try dsimp only
  repeat' first
    | (with_reducible first | assumption | apply keeps_ite | apply keeps_writeRankWord | apply keeps_finishMigration)
    | (with_reducible apply Keeps.mk; dsimp only; with_reducible apply Keeps.ok)
    | (intro _; intros; try dsimp only)
    | split

theorem keeps_bootRanks {s : State} (fails : List Nat) (hs : Keeps qq oo s) : Keeps qq oo (State.bootRanks s fails) := by
  unfold State.bootRanks
  try dsimp only
  repeat' first
    | (with_reducible first | assumption | apply keeps_ite | apply keeps_rankFails | apply keeps_showMig | apply keeps_foldl)
    | (with_reducible apply Keeps.mk; dsimp only; with_reducible apply Keeps.ok)
    | (intro _; intros; try dsimp only)
    | split

theorem keeps_trainStack {s : State} (f : BootFound) (k : Nat) (hs : Keeps qq oo s) : Keeps qq oo (State.trainStack s f k) := by
  unfold State.trainStack
  try dsimp only
  repeat' first
    | (with_reducible first | assumption | apply keeps_ite | apply keeps_rankFails | apply keeps_fresh | apply keeps_setStack | apply keeps_wr)
    | (with_reducible first | apply keeps_putKeep | apply keeps_foldl | apply keeps_foldl_snd)
    | (with_reducible apply Keeps.mk; dsimp only; with_reducible apply Keeps.ok)
    | (intro _; intros; try dsimp only)
    | split

theorem keeps_bootKeys {s : State} (hs : Keeps qq oo s) : Keeps qq oo (State.bootKeys s) := by
  unfold State.bootKeys
  try dsimp only
  repeat' first
    | (with_reducible first | assumption | apply keeps_draw)
    | (with_reducible apply Keeps.mk; dsimp only; with_reducible apply Keeps.ok)

theorem keeps_startFirmware {s : State} (i : Nat) (hs : Keeps qq oo s) : Keeps qq oo (State.startFirmware s i) := by
  unfold State.startFirmware
  try dsimp only
  repeat' first
    | (with_reducible first | assumption | apply keeps_fwEvent)
    | (with_reducible apply Keeps.mk; dsimp only; with_reducible apply Keeps.ok)

theorem keeps_bootFirmware {s : State} (bad : List Nat) (hs : Keeps qq oo s) : Keeps qq oo (State.bootFirmware s bad) := by
  unfold State.bootFirmware
  try dsimp only
  repeat' first
    | (with_reducible first | assumption | apply keeps_ite | apply keeps_startFirmware | apply keeps_record)
    | (with_reducible apply Keeps.mk; dsimp only; with_reducible apply Keeps.ok)
    | split

theorem keeps_showLevels {s : State} (hs : Keeps qq oo s) : Keeps qq oo (State.showLevels s) := by
  unfold State.showLevels
  repeat' first
    | (with_reducible first | assumption | apply keeps_wr)

theorem keeps_bootLevels {s : State} (hs : Keeps qq oo s) : Keeps qq oo (State.bootLevels s) := by
  unfold State.bootLevels
  try dsimp only
  repeat' first
    | (with_reducible first | assumption | apply keeps_ite | apply keeps_writeBell | apply keeps_showLevels)
    | (with_reducible apply Keeps.mk; dsimp only; with_reducible apply Keeps.ok)
    | split

theorem keeps_bootCkpt {s : State} (hs : Keeps qq oo s) : Keeps qq oo (State.bootCkpt s) := by
  unfold State.bootCkpt
  try dsimp only
  repeat' first
    | (with_reducible first | assumption | apply keeps_ite | apply keeps_fresh | apply keeps_record | apply keeps_clearCkpt)
    | (with_reducible apply Keeps.mk; dsimp only; with_reducible apply Keeps.ok)
    | split

theorem keeps_bootTamper {s : State} (vbatLost : Bool) (hs : Keeps qq oo s) : Keeps qq oo (State.bootTamper s vbatLost) := by
  unfold State.bootTamper
  try dsimp only
  repeat' first
    | (with_reducible first | assumption | apply keeps_ite | apply keeps_tamper | apply keeps_foldl)
    | (with_reducible apply Keeps.mk; dsimp only; with_reducible apply Keeps.ok)
    | (intro _; intros; try dsimp only)
    | split

theorem keeps_bootInterlock {s : State} (low : Bool) (hs : Keeps qq oo s) : Keeps qq oo (State.bootInterlock s low) := by
  unfold State.bootInterlock
  try dsimp only
  repeat' first
    | (with_reducible first | assumption | apply keeps_ite | apply keeps_setFld | apply keeps_raiseIrq)
    | (with_reducible apply Keeps.mk; dsimp only; with_reducible apply Keeps.ok)
    | split

theorem keeps_bootEnable {s : State} (hs : Keeps qq oo s) : Keeps qq oo (State.bootEnable s) := by
  unfold State.bootEnable
  repeat' first
    | (with_reducible first | assumption | apply keeps_writeCtrl | apply keeps_foldl)
    | (intro _; intros; try dsimp only)

theorem keeps_bootStart {s : State} (f : BootFound) (hs : Keeps qq oo s) : Keeps qq oo (State.bootStart s f) := by
  unfold State.bootStart
  try dsimp only
  repeat' first
    | (with_reducible first | assumption | apply keeps_wr | apply keeps_bootClock | apply keeps_bootAudit | apply keeps_bootUnset)
    | (with_reducible first | apply keeps_bootVote | apply keeps_cutRecord | apply keeps_checkKeep | apply keeps_bootDirectory)
    | (with_reducible first | apply keeps_bootRepairs | apply keeps_bootAge | apply keeps_bootEncs | apply keeps_showLevels | apply keeps_foldl)
    | (with_reducible apply Keeps.mk; dsimp only; with_reducible apply Keeps.ok)
    | (intro _; intros; try dsimp only)
    | split

theorem keeps_bootMiddle {s : State} (f : BootFound) (hs : Keeps qq oo s) : Keeps qq oo (State.bootMiddle s f) := by
  unfold State.bootMiddle
  try dsimp only
  repeat' first
    | (with_reducible first | assumption | apply keeps_trainStack | apply keeps_bootMigration | apply keeps_bootRanks | apply keeps_rankFails)
    | (with_reducible first | apply keeps_bootKeys | apply keeps_bootCkpt | apply keeps_bootFirmware | apply keeps_foldl)
    | (with_reducible apply Keeps.mk; dsimp only; with_reducible apply Keeps.ok)
    | (intro _; intros; try dsimp only)

theorem keeps_bootEnd {s : State} (f : BootFound) (hs : Keeps qq oo s) : Keeps qq oo (State.bootEnd s f) := by
  unfold State.bootEnd
  try dsimp only
  repeat' first
    | (with_reducible first | assumption | apply keeps_bootLevels | apply keeps_bootTamper | apply keeps_bootInterlock | apply keeps_wr)
    | (with_reducible first | apply keeps_keepBoundary | apply keeps_loadStrobes | apply keeps_bootEnable)
    | (with_reducible apply Keeps.mk; dsimp only; with_reducible apply Keeps.ok)

theorem keeps_execPowerUp (f : BootFound) {s : State} (hs : Keeps qq oo s) : KeepsOut qq oo (execPowerUp f s) := by
  unfold execPowerUp
  try dsimp only
  repeat' first
    | (with_reducible first | assumption | exact trivial | apply keepsOut_next | apply keepsOut_ite | apply keeps_ite | apply keeps_bootStart)
    | (with_reducible first | apply keeps_bootMiddle | apply keeps_bootEnd | apply keeps_bootInterlock | apply keeps_showPins)
    | (with_reducible apply Keeps.mk; dsimp only; with_reducible apply Keeps.ok)
    | split

theorem keeps_execMainRailsLost {s : State} (hs : Keeps qq oo s) : KeepsOut qq oo (execMainRailsLost s) := by
  unfold execMainRailsLost
  repeat' first
    | (with_reducible first | assumption | exact trivial | apply keepsOut_next | apply keepsOut_ite | apply keeps_ite | apply keeps_toNight)
    | split

theorem keeps_askDay {s : State} (o : Origin) (hs : Keeps qq oo s) : Keeps qq oo (State.askDay s o) := by
  unfold State.askDay
  try dsimp only
  repeat' first
    | (with_reducible first | assumption | apply keeps_ite | apply keeps_setReg | apply keeps_wake)
    | (with_reducible apply Keeps.mk; dsimp only; with_reducible apply Keeps.ok)
    | split

theorem keeps_askDown {s : State} (o : Origin) (v : Nat) (hs : Keeps qq oo s) : Keeps qq oo (State.askDown s o v) := by
  unfold State.askDown
  try dsimp only
  repeat' first
    | (with_reducible first | assumption | apply keeps_ite | apply keeps_setReg)
    | (with_reducible apply Keeps.mk; dsimp only; with_reducible apply Keeps.ok)
    | split

theorem keeps_writePowerReq {s : State} (o : Origin) (v : Nat) (hs : Keeps qq oo s) : Keeps qq oo (State.writePowerReq s o v) := by
  unfold State.writePowerReq
  try dsimp only
  repeat' first
    | (with_reducible first | assumption | apply keeps_ite | apply keeps_askDay | apply keeps_askDown | apply keeps_refuse)
    | (with_reducible apply Keeps.mk; dsimp only; with_reducible apply Keeps.ok)
    | (refine keeps_permit_ok (h := ?_) (e := by assumption))
    | (refine keeps_permit_error (h := ?_) (e := by assumption))
    | split

theorem keeps_execPowerReqDay (o : Origin) {s : State} (hs : Keeps qq oo s) : KeepsOut qq oo (execPowerReqDay o s) := by
  unfold execPowerReqDay
  repeat' first
    | (with_reducible first | assumption | exact trivial | apply keepsOut_next | apply keepsOut_ite | apply keeps_writePowerReq)

theorem keeps_execPowerReqDusk (o : Origin) {s : State} (hs : Keeps qq oo s) : KeepsOut qq oo (execPowerReqDusk o s) := by
  unfold execPowerReqDusk
  repeat' first
    | (with_reducible first | assumption | exact trivial | apply keepsOut_next | apply keepsOut_ite | apply keeps_writePowerReq)

theorem keeps_execPowerReqNight (o : Origin) {s : State} (hs : Keeps qq oo s) : KeepsOut qq oo (execPowerReqNight o s) := by
  unfold execPowerReqNight
  repeat' first
    | (with_reducible first | assumption | exact trivial | apply keepsOut_next | apply keepsOut_ite | apply keeps_writePowerReq)

theorem keeps_setClk {s : State} (p : Nat) (x : Nat) (hs : Keeps qq oo s) : Keeps qq oo (State.setClk s p x) := by
  unfold State.setClk
  repeat' first
    | (with_reducible first | assumption | apply keeps_traced | apply keeps_setFld)

theorem keeps_laneLpi {s : State} (l : Nat) (hs : Keeps qq oo s) : Keeps qq oo (State.laneLpi s l) := by
  unfold State.laneLpi
  try dsimp only
  repeat' first
    | (with_reducible first | assumption | apply keeps_ite | apply keeps_setLane | apply keeps_emit)
    | (with_reducible apply Keeps.mk; dsimp only; with_reducible apply Keeps.ok)
    | split

theorem keeps_relayPort {s : State} (p : Nat) (hs : Keeps qq oo s) : Keeps qq oo (State.relayPort s p) := by
  unfold State.relayPort
  try dsimp only
  repeat' first
    | (with_reducible first | assumption | apply keeps_ite | apply keeps_setPort | apply keeps_emit)
    | (with_reducible apply Keeps.mk; dsimp only; with_reducible apply Keeps.ok)
    | split

theorem keeps_bothLanes {s : State} (p : Nat) (hs : Keeps qq oo s) : Keeps qq oo (State.bothLanes s p) := by
  unfold State.bothLanes
  try dsimp only
  repeat' first
    | (with_reducible first | assumption | apply keeps_setPort)
    | (with_reducible apply Keeps.mk; dsimp only; with_reducible apply Keeps.ok)

theorem keeps_selfRefresh {s : State} (k : Nat) (hs : Keeps qq oo s) : Keeps qq oo (State.selfRefresh s k) := by
  unfold State.selfRefresh
  try dsimp only
  repeat' first
    | (with_reducible first | assumption | apply keeps_ite | apply keeps_bump | apply keeps_setStack | apply keeps_setSelfRef)
    | (with_reducible apply Keeps.mk; dsimp only; with_reducible apply Keeps.ok)
    | (intro _; intros; try dsimp only)
    | split

theorem keeps_beginEntry {s : State} (hs : Keeps qq oo s) : Keeps qq oo (State.beginEntry s) := by
  unfold State.beginEntry
  try dsimp only
  repeat' first
    | (with_reducible first | assumption | apply keeps_abortEngines)
    | (with_reducible apply Keeps.mk; dsimp only; with_reducible apply Keeps.ok)

theorem keeps_enterDusk {s : State} (hs : Keeps qq oo s) : Keeps qq oo (State.enterDusk s) := by
  unfold State.enterDusk
  try dsimp only
  repeat' first
    | (with_reducible first | assumption | apply keeps_relayPort | apply keeps_laneLpi | apply keeps_selfRefresh | apply keeps_setClk)
    | (with_reducible first | apply keeps_setFld | apply keeps_emit | apply keeps_wr | apply keeps_inc | apply keeps_tellBoard)
    | (with_reducible first | apply keeps_foldl)
    | (with_reducible apply Keeps.mk; dsimp only; with_reducible apply Keeps.ok)
    | (intro _; intros; try dsimp only)

theorem keeps_execDuskEntry {s : State} (hs : Keeps qq oo s) : KeepsOut qq oo (execDuskEntry s) := by
  unfold execDuskEntry
  repeat' first
    | (with_reducible first | assumption | exact trivial | apply keepsOut_next | apply keepsOut_ite | apply keeps_ite | apply keeps_beginEntry)
    | (with_reducible first | apply keeps_enterDusk)
    | split

theorem keeps_leaveDusk {s : State} (us : Nat) (hs : Keeps qq oo s) : Keeps qq oo (State.leaveDusk s us) := by
  unfold State.leaveDusk
  try dsimp only
  repeat' first
    | (with_reducible first | assumption | apply keeps_ite | apply keeps_bothLanes | apply keeps_setSelfRef | apply keeps_setFld)
    | (with_reducible first | apply keeps_emit | apply keeps_wr | apply keeps_setClk | apply keeps_maxFld | apply keeps_tellBoard)
    | (with_reducible first | apply keeps_record | apply keeps_foldl)
    | (with_reducible apply Keeps.mk; dsimp only; with_reducible apply Keeps.ok)
    | (intro _; intros; try dsimp only)
    | split

theorem keeps_execDuskWake (cause : Nat) (us : Nat) {s : State} (hs : Keeps qq oo s) : KeepsOut qq oo (execDuskWake cause us s) := by
  unfold execDuskWake
  try dsimp only
  repeat' first
    | (with_reducible first | assumption | exact trivial | apply keepsOut_next | apply keepsOut_ite | apply keeps_ite | apply keeps_wake)
    | (with_reducible first | apply keeps_leaveDusk)
    | (with_reducible apply Keeps.mk; dsimp only; with_reducible apply Keeps.ok)
    | split

theorem keeps_readyForNight {s : State} (hs : Keeps qq oo s) : Keeps qq oo (State.readyForNight s) := by
  unfold State.readyForNight
  try dsimp only
  repeat' first
    | (with_reducible first | assumption | apply keeps_eraseKeys | apply keeps_tellBoard)
    | (with_reducible apply Keeps.mk; dsimp only; with_reducible apply Keeps.ok)

theorem keeps_execNightEntry {s : State} (hs : Keeps qq oo s) : KeepsOut qq oo (execNightEntry s) := by
  unfold execNightEntry
  repeat' first
    | (with_reducible first | assumption | exact trivial | apply keepsOut_next | apply keepsOut_ite | apply keeps_ite)
    | (with_reducible first | apply keeps_readyForNight | apply keeps_beginEntry | apply keeps_enterDusk)
    | split

theorem keeps_execClockRequest (page : Nat) (ns : Nat) {s : State} (hs : Keeps qq oo s) : KeepsOut qq oo (execClockRequest page ns s) := by
  unfold execClockRequest
  try dsimp only
  repeat' first
    | (with_reducible first | assumption | exact trivial | apply keepsOut_next | apply keepsOut_ite | apply keeps_ite | apply keeps_setFld)
    | (with_reducible first | apply keeps_clkOn | apply keeps_maxFld | apply keeps_record)
    | (with_reducible apply Keeps.mk; dsimp only; with_reducible apply Keeps.ok)
    | split

theorem keeps_execClkIdleTimeout (page : Nat) {s : State} (hs : Keeps qq oo s) : KeepsOut qq oo (execClkIdleTimeout page s) := by
  unfold execClkIdleTimeout
  repeat' first
    | (with_reducible first | assumption | exact trivial | apply keepsOut_next | apply keepsOut_ite | apply keeps_ite | apply keeps_clkOff)
    | split

theorem keeps_execVbatLow {s : State} (hs : Keeps qq oo s) : KeepsOut qq oo (execVbatLow s) := by
  unfold execVbatLow
  repeat' first
    | (with_reducible first | assumption | exact trivial | apply keepsOut_next | apply keepsOut_ite | apply keeps_ite | apply keeps_setFld)
    | split

end Sys2Proof.Machine
end

