-- ==== Sys2Proof/Laws/KeepsBoard.lean ====
section
/-! SUPPORT. Each operation of Machine/Board.lean keeps what Keeps says. -/

set_option linter.unusedVariables false
set_option linter.tactic.unusedName false

namespace Sys2Proof.Machine

variable {qq : List Instr} {oo : List Out}

theorem keeps_pinEvent {s : State} (n : Nat) (hs : Keeps qq oo s) : Keeps qq oo (State.pinEvent s n) := by
  unfold State.pinEvent
  repeat' first
    | (with_reducible first | assumption | apply keeps_wr | apply keeps_raiseIrq)

theorem keeps_execGpioEvent (pin : Nat) (rising : Bool) {s : State} (hs : Keeps qq oo s) : KeepsOut qq oo (execGpioEvent pin rising s) := by
  unfold execGpioEvent
  try dsimp only
  repeat' first
    | (with_reducible first | assumption | exact trivial | apply keepsOut_next | apply keepsOut_ite | apply keeps_ite | apply keeps_pinEvent)
    | (with_reducible apply Keeps.mk; dsimp only; with_reducible apply Keeps.ok)
    | split

theorem keeps_execI3cStatus {s : State} (hs : Keeps qq oo s) : KeepsOut qq oo (execI3cStatus s) := by
  unfold execI3cStatus
  repeat' first
    | (with_reducible first | assumption | exact trivial | apply keepsOut_next | apply keepsOut_ite | apply keeps_ite | apply keeps_emit)
    | split

theorem keeps_execI3cHottest {s : State} (hs : Keeps qq oo s) : KeepsOut qq oo (execI3cHottest s) := by
  unfold execI3cHottest
  repeat' first
    | (with_reducible first | assumption | exact trivial | apply keepsOut_next | apply keepsOut_ite | apply keeps_ite | apply keeps_emit)
    | split

theorem keeps_execI3cWake (v : Nat) {s : State} (hs : Keeps qq oo s) : KeepsOut qq oo (execI3cWake v s) := by
  unfold execI3cWake
  repeat' first
    | (with_reducible first | assumption | exact trivial | apply keepsOut_next | apply keepsOut_ite | apply keeps_ite | apply keeps_wake)
    | split

theorem keeps_execI3cSupply {s : State} (hs : Keeps qq oo s) : KeepsOut qq oo (execI3cSupply s) := by
  unfold execI3cSupply
  repeat' first
    | (with_reducible first | assumption | exact trivial | apply keepsOut_next | apply keepsOut_ite | apply keeps_ite | apply keeps_emit)
    | split

end Sys2Proof.Machine
end

