-- ==== Sys2Proof/Laws/KeepsShown.lean ====
section
/-! SUPPORT. Each operation of Machine/Shown.lean keeps what Keeps says. -/

set_option linter.unusedVariables false
set_option linter.tactic.unusedName false

namespace Sys2Proof.Machine

variable {qq : List Instr} {oo : List Out}

theorem keeps_readReg {s : State} (o : Origin) (a : RegAddr) (hs : Keeps qq oo s) : Keeps qq oo (State.readReg s o a).2 := by
  unfold State.readReg
  try dsimp only
  repeat' first
    | (with_reducible first | assumption | apply keeps_ite | apply keeps_foldl)
    | (with_reducible apply Keeps.mk; dsimp only; with_reducible apply Keeps.ok)
    | (intro _; intros; try dsimp only)
    | split

end Sys2Proof.Machine
end

