-- ==== Sys2Proof/Laws/KeepsPages.lean ====
section
/-! SUPPORT. Each operation of Machine/Pages.lean keeps what Keeps says. -/

set_option linter.unusedVariables false
set_option linter.tactic.unusedName false

namespace Sys2Proof.Machine

variable {qq : List Instr} {oo : List Out}

theorem keeps_after {s : State} {f : State → Host.Outcome State Fault Refusal} (hs : Keeps qq oo s)
    (hf : ∀ t, Keeps qq oo t → KeepsOut qq oo (f t)) : Keeps qq oo (State.after s f) := by
  have h := hf s hs
  unfold State.after
  split
  · rename_i e
    rw [e] at h
    exact h
  · exact hs
  · exact hs

theorem keeps_chance {s : State} (n : Nat) (hs : Keeps qq oo s) : Keeps qq oo (State.chance s n).2 := by
  unfold State.chance
  try dsimp only
  repeat' first
    | (with_reducible first | assumption)
    | (with_reducible apply Keeps.mk; dsimp only; with_reducible apply Keeps.ok)

theorem keeps_keepClocks {s : State} (hs : Keeps qq oo s) : Keeps qq oo (State.keepClocks s) := by
  unfold State.keepClocks
  repeat' first
    | (with_reducible first | assumption | apply keeps_ite | apply keeps_setFld | apply keeps_clkOn | apply keeps_foldl)
    | (intro _; intros; try dsimp only)
    | split

theorem keeps_ctrlWrite {s : State} (o : Origin) (p : Nat) (v : Nat) (hs : Keeps qq oo s) : Keeps qq oo (State.ctrlWrite s o p v) := by
  unfold State.ctrlWrite
  repeat' first
    | (with_reducible first | assumption | apply keeps_writeCtrl | apply keeps_keepClocks)

theorem keeps_errClearWrite {s : State} (o : Origin) (p : Nat) (v : Nat) (hs : Keeps qq oo s) : Keeps qq oo (State.errClearWrite s o p v) := by
  unfold State.errClearWrite
  repeat' first
    | (with_reducible first | assumption | apply keeps_ite | apply keeps_act | apply keeps_clearErr)
    | (intro _; intros; try dsimp only)
    | split

theorem keeps_irqPendWrite {s : State} (o : Origin) (p : Nat) (v : Nat) (hs : Keeps qq oo s) : Keeps qq oo (State.irqPendWrite s o p v) := by
  unfold State.irqPendWrite
  try dsimp only
  repeat' first
    | (with_reducible first | assumption | apply keeps_act | apply keeps_wr)
    | (with_reducible apply Keeps.mk; dsimp only; with_reducible apply Keeps.ok)
    | (intro _; intros; try dsimp only)

theorem keeps_lockWrite {s : State} (o : Origin) (p : Nat) (v : Nat) (hs : Keeps qq oo s) : Keeps qq oo (State.lockWrite s o p v) := by
  unfold State.lockWrite
  try dsimp only
  repeat' first
    | (with_reducible first | assumption | apply keeps_ite | apply keeps_act | apply keeps_refuse | apply keeps_traced | apply keeps_wr)
    | (with_reducible apply Keeps.mk; dsimp only; with_reducible apply Keeps.ok)
    | (intro _; intros; try dsimp only)
    | split

theorem keeps_irqEnWrite {s : State} (o : Origin) (p : Nat) (v : Nat) (hs : Keeps qq oo s) : Keeps qq oo (State.irqEnWrite s o p v) := by
  unfold State.irqEnWrite
  try dsimp only
  repeat' first
    | (with_reducible first | assumption | apply keeps_applyWrite | apply keeps_signalPage)
    | (with_reducible apply Keeps.mk; dsimp only; with_reducible apply Keeps.ok)
    | (refine keeps_permit_ok (h := ?_) (e := by assumption))
    | (refine keeps_permit_error (h := ?_) (e := by assumption))
    | split

theorem keeps_putValue {s : State} (o : Origin) (a : Nat) (v : Nat) (hs : Keeps qq oo s) : Keeps qq oo (State.putValue s o a v) := by
  unfold State.putValue
  try dsimp only
  repeat' first
    | (with_reducible first | assumption | apply keeps_ite | apply keeps_refuse | apply keeps_applyWrite)
    | (with_reducible apply Keeps.mk; dsimp only; with_reducible apply Keeps.ok)
    | split

theorem keeps_plainWrite {s : State} (o : Origin) (a : Nat) (v : Nat) (hs : Keeps qq oo s) : Keeps qq oo (State.plainWrite s o a v) := by
  unfold State.plainWrite
  try dsimp only
  repeat' first
    | (with_reducible first | assumption | apply keeps_putValue)
    | (with_reducible apply Keeps.mk; dsimp only; with_reducible apply Keeps.ok)
    | (refine keeps_permit_ok (h := ?_) (e := by assumption))
    | (refine keeps_permit_error (h := ?_) (e := by assumption))
    | split

theorem keeps_bellReg {s : State} (o : Origin) (n : Nat) (a : Nat) (v : Nat) (hs : Keeps qq oo s) : Keeps qq oo (State.bellReg s o n a v) := by
  unfold State.bellReg
  repeat' first
    | (with_reducible first | assumption | apply keeps_change | apply keeps_writeBell | apply keeps_showLevels)
    | (intro _; intros; try dsimp only)

theorem keeps_deviceNoWrite {s : State} (o : Origin) (v : Nat) (hs : Keeps qq oo s) : Keeps qq oo (State.deviceNoWrite s o v) := by
  unfold State.deviceNoWrite
  try dsimp only
  repeat' first
    | (with_reducible first | assumption | apply keeps_ite | apply keeps_refuse | apply keeps_bellReg)
    | (with_reducible apply Keeps.mk; dsimp only; with_reducible apply Keeps.ok)
    | (refine keeps_permit_ok (h := ?_) (e := by assumption))
    | (refine keeps_permit_error (h := ?_) (e := by assumption))
    | split

theorem keeps_formatLevelWrite {s : State} (o : Origin) (v : Nat) (hs : Keeps qq oo s) : Keeps qq oo (State.formatLevelWrite s o v) := by
  unfold State.formatLevelWrite
  try dsimp only
  repeat' first
    | (with_reducible first | assumption | apply keeps_ite | apply keeps_refuse | apply keeps_bellReg)
    | (with_reducible apply Keeps.mk; dsimp only; with_reducible apply Keeps.ok)
    | (refine keeps_permit_ok (h := ?_) (e := by assumption))
    | (refine keeps_permit_error (h := ?_) (e := by assumption))
    | split

theorem keeps_incrWrite {s : State} (o : Origin) (a : Nat) (v : Nat) (hs : Keeps qq oo s) : Keeps qq oo (State.incrWrite s o a v) := by
  unfold State.incrWrite
  try dsimp only
  repeat' first
    | (with_reducible first | assumption | apply keeps_ite | apply keeps_applyWrite | apply keeps_refuse)
    | (with_reducible apply Keeps.mk; dsimp only; with_reducible apply Keeps.ok)
    | (refine keeps_permit_ok (h := ?_) (e := by assumption))
    | (refine keeps_permit_error (h := ?_) (e := by assumption))
    | split

theorem keeps_adjWrite {s : State} (o : Origin) (v : Nat) (hs : Keeps qq oo s) : Keeps qq oo (State.adjWrite s o v) := by
  unfold State.adjWrite
  try dsimp only
  repeat' first
    | (with_reducible first | assumption | apply keeps_ite | apply keeps_refuse | apply keeps_applyWrite)
    | (with_reducible apply Keeps.mk; dsimp only; with_reducible apply Keeps.ok)
    | (refine keeps_permit_ok (h := ?_) (e := by assumption))
    | (refine keeps_permit_error (h := ?_) (e := by assumption))
    | split

theorem keeps_exportAckWrite {s : State} (o : Origin) (a : Nat) (v : Nat) (hs : Keeps qq oo s) : Keeps qq oo (State.exportAckWrite s o a v) := by
  unfold State.exportAckWrite
  try dsimp only
  repeat' first
    | (with_reducible first | assumption | apply keeps_ite | apply keeps_act | apply keeps_exportAck | apply keeps_dropHeld)
    | (with_reducible apply Keeps.mk; dsimp only; with_reducible apply Keeps.ok)
    | (intro _; intros; try dsimp only)
    | split

theorem keeps_keepCmdWrite {s : State} (o : Origin) (v : Nat) (hs : Keeps qq oo s) : Keeps qq oo (State.keepCmdWrite s o v) := by
  unfold State.keepCmdWrite
  try dsimp only
  repeat' first
    | (with_reducible first | assumption | apply keeps_ite | apply keeps_act | apply keeps_chance | apply keeps_keepWrite)
    | (with_reducible first | apply keeps_keepRead)
    | (with_reducible apply Keeps.mk; dsimp only; with_reducible apply Keeps.ok)
    | (intro _; intros; try dsimp only)
    | split

theorem keeps_queueReg {s : State} (o : Origin) (a : Nat) (old : Nat) (new : Nat) (f : Queue → Queue) (hs : Keeps qq oo s) : Keeps qq oo (State.queueReg s o a old new f) := by
  unfold State.queueReg
  try dsimp only
  repeat' first
    | (with_reducible first | assumption | apply keeps_change | apply keeps_setQueue)
    | (with_reducible apply Keeps.mk; dsimp only; with_reducible apply Keeps.ok)
    | (intro _; intros; try dsimp only)

theorem keeps_qCtrlWrite {s : State} (o : Origin) (v : Nat) (hs : Keeps qq oo s) : Keeps qq oo (State.qCtrlWrite s o v) := by
  unfold State.qCtrlWrite
  try dsimp only
  repeat' first
    | (with_reducible first | assumption | apply keeps_ite | apply keeps_refuse | apply keeps_queueReg | apply keeps_putCtrl)
    | (with_reducible apply Keeps.mk; dsimp only; with_reducible apply Keeps.ok)
    | (intro _; intros; try dsimp only)
    | split

theorem keeps_baseWrite {s : State} (o : Origin) (l : RegAddr) (a : Nat) (v : Nat) (old : Nat) (f : Nat → Queue → Queue) (hs : Keeps qq oo s) : Keeps qq oo (State.baseWrite s o l a v old f) := by
  unfold State.baseWrite
  try dsimp only
  repeat' first
    | (with_reducible first | assumption | apply keeps_ite | apply keeps_queueReg | apply keeps_refuse | apply keeps_countFull)
    | (with_reducible first | apply keeps_dropHeld)
    | (with_reducible apply Keeps.mk; dsimp only; with_reducible apply Keeps.ok)
    | (intro _; intros; try dsimp only)
    | split

theorem keeps_queueWrite {s : State} (o : Origin) (a : Nat) (v : Nat) (hs : Keeps qq oo s) : Keeps qq oo (State.queueWrite s o a v) := by
  unfold State.queueWrite
  try dsimp only
  repeat' first
    | (with_reducible first | assumption | apply keeps_ite | apply keeps_qCtrlWrite | apply keeps_queueReg | apply keeps_baseWrite)
    | (with_reducible apply Keeps.mk; dsimp only; with_reducible apply Keeps.ok)
    | (intro _; intros; try dsimp only)
    | (refine keeps_permit_ok (h := ?_) (e := by assumption))
    | (refine keeps_permit_error (h := ?_) (e := by assumption))
    | split

theorem keeps_evqCtrlWrite {s : State} (o : Origin) (v : Nat) (hs : Keeps qq oo s) : Keeps qq oo (State.evqCtrlWrite s o v) := by
  unfold State.evqCtrlWrite
  try dsimp only
  repeat' first
    | (with_reducible first | assumption | apply keeps_ite | apply keeps_plainWrite | apply keeps_drainEvents)
    | (with_reducible apply Keeps.mk; dsimp only; with_reducible apply Keeps.ok)
    | split

theorem keeps_encWrite {s : State} (o : Origin) (a : Nat) (v : Nat) (hs : Keeps qq oo s) : Keeps qq oo (State.encWrite s o a v) := by
  unfold State.encWrite
  try dsimp only
  repeat' first
    | (with_reducible first | assumption | apply keeps_change | apply keeps_wr)
    | (with_reducible apply Keeps.mk; dsimp only; with_reducible apply Keeps.ok)
    | (intro _; intros; try dsimp only)
    | (refine keeps_permit_ok (h := ?_) (e := by assumption))
    | (refine keeps_permit_error (h := ?_) (e := by assumption))
    | split

theorem keeps_engineWrite {s : State} (o : Origin) (e : Nat) (b : Nat) (a : Nat) (v : Nat) (hs : Keeps qq oo s) : Keeps qq oo (State.engineWrite s o e b a v) := by
  unfold State.engineWrite
  try dsimp only
  repeat' first
    | (with_reducible first | assumption | apply keeps_ite | apply keeps_writeCmd | apply keeps_act | apply keeps_feedData | apply keeps_refuse)
    | (with_reducible first | apply keeps_applyWrite | apply keeps_setValue)
    | (with_reducible apply Keeps.mk; dsimp only; with_reducible apply Keeps.ok)
    | (intro _; intros; try dsimp only)
    | (refine keeps_permit_ok (h := ?_) (e := by assumption))
    | (refine keeps_permit_error (h := ?_) (e := by assumption))
    | split

theorem keeps_ownWrite {s : State} (o : Origin) (a : Nat) (v : Nat) {u : State} (h : Keeps qq oo s)
    (e : State.ownWrite s o a v = some u) : Keeps qq oo u := by
  have hc := keeps_chance 2 h
  revert e
  unfold State.ownWrite
  repeat' first
    | with_reducible apply keeps_someIte
    | (intro e; cases e; done)
    | with_reducible assumption
    | with_reducible apply keeps_deviceNoWrite
    | with_reducible apply keeps_formatLevelWrite
    | with_reducible apply keeps_writePowerReq
    | with_reducible apply keeps_writeInterlock
    | with_reducible apply keeps_keepClocks
    | with_reducible apply keeps_plainWrite
    | with_reducible apply keeps_exportAckWrite
    | with_reducible apply keeps_incrWrite
    | with_reducible apply keeps_adjWrite
    | with_reducible apply keeps_keepCmdWrite
    | with_reducible apply keeps_evqCtrlWrite
    | with_reducible apply keeps_queueWrite
    | with_reducible apply keeps_encWrite
    | with_reducible apply keeps_after
    | (intro t ht; first
        | exact keeps_execErrlogHead o v ht
        | exact keeps_execDeviceReset o v ht
        | exact keeps_execThermAck o v ht
        | exact keeps_execExportCmd o v ht
        | exact keeps_execStep o v ht
        | exact keeps_execStrayAdd o v ht
        | exact keeps_execDetect o v ht
        | exact keeps_execLimitWrite o _ v ht
        | exact keeps_execMove o v ht
        | exact keeps_execPeerFault o v _ ht
        | exact keeps_execRetrain o v ht
        | exact keeps_execIvdonRetrain o v ht
        | exact keeps_execFill o v ht
        | exact keeps_execRetire o v ht
        | exact keeps_execRebase o v ht)
    | split

theorem keeps_writeReg {s : State} (o : Origin) (a : Nat) (v : Nat) (hs : Keeps qq oo s) : Keeps qq oo (State.writeReg s o a v) := by
  unfold State.writeReg
  dsimp only
  repeat' first
    | with_reducible assumption
    | with_reducible apply keeps_ctrlWrite
    | with_reducible apply keeps_irqEnWrite
    | with_reducible apply keeps_irqPendWrite
    | with_reducible apply keeps_errClearWrite
    | with_reducible apply keeps_lockWrite
    | with_reducible apply keeps_engineWrite
    | (cases e : State.ownWrite s o a v with
        | none => exact keeps_plainWrite _ _ _ hs
        | some u => exact keeps_ownWrite o a v hs e)
    | split

theorem keeps_execCtrlEnable (o : Origin) (page : Nat) (v : Nat) {s : State} (hs : Keeps qq oo s) : KeepsOut qq oo (execCtrlEnable o page v s) := by
  unfold execCtrlEnable
  repeat' first
    | (with_reducible first | assumption | exact trivial | apply keepsOut_next | apply keepsOut_ite | apply keeps_ite | apply keeps_ctrlWrite)
    | split

theorem keeps_execCtrlDisable (o : Origin) (page : Nat) (v : Nat) {s : State} (hs : Keeps qq oo s) : KeepsOut qq oo (execCtrlDisable o page v s) := by
  unfold execCtrlDisable
  repeat' first
    | (with_reducible first | assumption | exact trivial | apply keepsOut_next | apply keepsOut_ite | apply keeps_ite | apply keeps_ctrlWrite)
    | split

theorem keeps_execSoftReset (o : Origin) (page : Nat) (v : Nat) {s : State} (hs : Keeps qq oo s) : KeepsOut qq oo (execSoftReset o page v s) := by
  unfold execSoftReset
  repeat' first
    | (with_reducible first | assumption | exact trivial | apply keepsOut_next | apply keepsOut_ite | apply keeps_ite | apply keeps_ctrlWrite)
    | split

theorem keeps_execErrClear (o : Origin) (page : Nat) (v : Nat) {s : State} (hs : Keeps qq oo s) : KeepsOut qq oo (execErrClear o page v s) := by
  unfold execErrClear
  repeat' first
    | (with_reducible first | assumption | exact trivial | apply keepsOut_next | apply keepsOut_ite | apply keeps_ite)
    | (with_reducible first | apply keeps_errClearWrite)
    | split

theorem keeps_execIrqPendClear (o : Origin) (page : Nat) (v : Nat) {s : State} (hs : Keeps qq oo s) : KeepsOut qq oo (execIrqPendClear o page v s) := by
  unfold execIrqPendClear
  repeat' first
    | (with_reducible first | assumption | exact trivial | apply keepsOut_next | apply keepsOut_ite | apply keeps_ite)
    | (with_reducible first | apply keeps_irqPendWrite)
    | split

theorem keeps_execLock (o : Origin) (page : Nat) (v : Nat) {s : State} (hs : Keeps qq oo s) : KeepsOut qq oo (execLock o page v s) := by
  unfold execLock
  repeat' first
    | (with_reducible first | assumption | exact trivial | apply keepsOut_next | apply keepsOut_ite | apply keeps_ite | apply keeps_lockWrite)
    | split

theorem keeps_execRegisterWrite (o : Origin) (addr : Nat) (v : Nat) (bytes : Nat) {s : State} (hs : Keeps qq oo s) : KeepsOut qq oo (execRegisterWrite o addr v bytes s) := by
  unfold execRegisterWrite
  try dsimp only
  repeat' first
    | (with_reducible first | assumption | exact trivial | apply keepsOut_next | apply keepsOut_ite | apply keeps_ite | apply keeps_writeReg)
    | (with_reducible first | apply keeps_refuse)
    | (with_reducible apply Keeps.mk; dsimp only; with_reducible apply Keeps.ok)
    | split

theorem keeps_execRegWrite (page : Nat) (off : Nat) (v : Nat) {s : State} (hs : Keeps qq oo s) : KeepsOut qq oo (execRegWrite page off v s) := by
  unfold execRegWrite
  repeat' first
    | (with_reducible first | assumption | exact trivial | apply keepsOut_next | apply keepsOut_ite | apply keeps_ite | apply keeps_mailbox)
    | (with_reducible first | apply keeps_writeReg | apply keeps_mbEnd | apply keeps_mbFail)
    | (intro _; intros; try dsimp only)
    | split

theorem keeps_execRegRead (page : Nat) (off : Nat) {s : State} (hs : Keeps qq oo s) : KeepsOut qq oo (execRegRead page off s) := by
  unfold execRegRead
  try dsimp only
  repeat' first
    | (with_reducible first | assumption | exact trivial | apply keepsOut_next | apply keepsOut_ite | apply keeps_ite | apply keeps_mailbox)
    | (with_reducible first | apply keeps_readReg | apply keeps_mbEnd | apply keeps_mbFail)
    | (with_reducible apply Keeps.mk; dsimp only; with_reducible apply Keeps.ok)
    | (intro _; intros; try dsimp only)
    | split

end Sys2Proof.Machine
end

