-- ==== Sys2Proof/Laws/State.lean ====
section
/-! SUPPORT. What each plain update of State leaves as it was, field by field. -/

namespace Sys2Proof.Machine

variable (s : State)

@[simp] theorem State.wr_force (a v : Nat) : (s.wr a v).force = s.force := rfl
@[simp] theorem State.wr_held (a v : Nat) : (s.wr a v).held = s.held := rfl
@[simp] theorem State.wr_captured (a v : Nat) : (s.wr a v).captured = s.captured := rfl
@[simp] theorem State.wr_log (a v : Nat) : (s.wr a v).log = s.log := rfl
@[simp] theorem State.wr_audit (a v : Nat) : (s.wr a v).audit = s.audit := rfl
@[simp] theorem State.wr_power (a v : Nat) : (s.wr a v).power = s.power := rfl
@[simp] theorem State.wr_booted (a v : Nat) : (s.wr a v).booted = s.booted := rfl
@[simp] theorem State.wr_phase (a v : Nat) : (s.wr a v).phase = s.phase := rfl
@[simp] theorem State.wr_nightReady (a v : Nat) : (s.wr a v).nightReady = s.nightReady := rfl
@[simp] theorem State.wr_rails (a v : Nat) : (s.wr a v).rails = s.rails := rfl
@[simp] theorem State.wr_beamOff (a v : Nat) : (s.wr a v).beamOff = s.beamOff := rfl
@[simp] theorem State.wr_fatal (a v : Nat) : (s.wr a v).fatal = s.fatal := rfl
@[simp] theorem State.wr_host (a v : Nat) : (s.wr a v).host = s.host := rfl
@[simp] theorem State.wr_job0 (a v : Nat) : (s.wr a v).job0 = s.job0 := rfl
@[simp] theorem State.wr_job1 (a v : Nat) : (s.wr a v).job1 = s.job1 := rfl
@[simp] theorem State.wr_curSlot (a v : Nat) : (s.wr a v).curSlot = s.curSlot := rfl
@[simp] theorem State.wr_jobOrd (a v : Nat) : (s.wr a v).jobOrd = s.jobOrd := rfl
@[simp] theorem State.wr_frames (a v : Nat) : (s.wr a v).frames = s.frames := rfl
@[simp] theorem State.wr_sealCtr (a v : Nat) : (s.wr a v).sealCtr = s.sealCtr := rfl
@[simp] theorem State.wr_ctxs (a v : Nat) : (s.wr a v).ctxs = s.ctxs := rfl
@[simp] theorem State.wr_codecEng (a v : Nat) : (s.wr a v).codecEng = s.codecEng := rfl
@[simp] theorem State.wr_stripes (a v : Nat) : (s.wr a v).stripes = s.stripes := rfl
@[simp] theorem State.wr_stripeOrd (a v : Nat) : (s.wr a v).stripeOrd = s.stripeOrd := rfl
@[simp] theorem State.wr_dtabs (a v : Nat) : (s.wr a v).dtabs = s.dtabs := rfl
@[simp] theorem State.wr_dnext (a v : Nat) : (s.wr a v).dnext = s.dnext := rfl
@[simp] theorem State.wr_strayHeld (a v : Nat) : (s.wr a v).strayHeld = s.strayHeld := rfl
@[simp] theorem State.wr_strayPend (a v : Nat) : (s.wr a v).strayPend = s.strayPend := rfl
@[simp] theorem State.wr_caps (a v : Nat) : (s.wr a v).caps = s.caps := rfl
@[simp] theorem State.wr_capsNext (a v : Nat) : (s.wr a v).capsNext = s.capsNext := rfl
@[simp] theorem State.wr_field (a v : Nat) : (s.wr a v).field = s.field := rfl
@[simp] theorem State.wr_tileCrcs (a v : Nat) : (s.wr a v).tileCrcs = s.tileCrcs := rfl
@[simp] theorem State.wr_density (a v : Nat) : (s.wr a v).density = s.density := rfl
@[simp] theorem State.wr_factor (a v : Nat) : (s.wr a v).factor = s.factor := rfl
@[simp] theorem State.wr_mapBands (a v : Nat) : (s.wr a v).mapBands = s.mapBands := rfl
@[simp] theorem State.wr_factorCrcs (a v : Nat) : (s.wr a v).factorCrcs = s.factorCrcs := rfl
@[simp] theorem State.wr_ckptUnits (a v : Nat) : (s.wr a v).ckptUnits = s.ckptUnits := rfl
@[simp] theorem State.wr_ckpts (a v : Nat) : (s.wr a v).ckpts = s.ckpts := rfl
@[simp] theorem State.wr_staging (a v : Nat) : (s.wr a v).staging = s.staging := rfl
@[simp] theorem State.wr_tally (a v : Nat) : (s.wr a v).tally = s.tally := rfl
@[simp] theorem State.wr_hold (a v : Nat) : (s.wr a v).hold = s.hold := rfl
@[simp] theorem State.wr_flink (a v : Nat) : (s.wr a v).flink = s.flink := rfl
@[simp] theorem State.wr_drover (a v : Nat) : (s.wr a v).drover = s.drover := rfl
@[simp] theorem State.wr_profile (a v : Nat) : (s.wr a v).profile = s.profile := rfl
@[simp] theorem State.wr_sensors (a v : Nat) : (s.wr a v).sensors = s.sensors := rfl
@[simp] theorem State.wr_tclasses (a v : Nat) : (s.wr a v).tclasses = s.tclasses := rfl
@[simp] theorem State.wr_drams (a v : Nat) : (s.wr a v).drams = s.drams := rfl
@[simp] theorem State.wr_ranks (a v : Nat) : (s.wr a v).ranks = s.ranks := rfl
@[simp] theorem State.wr_sram (a v : Nat) : (s.wr a v).sram = s.sram := rfl
@[simp] theorem State.wr_bells (a v : Nat) : (s.wr a v).bells = s.bells := rfl
@[simp] theorem State.wr_bellDead (a v : Nat) : (s.wr a v).bellDead = s.bellDead := rfl
@[simp] theorem State.wr_bellPending (a v : Nat) : (s.wr a v).bellPending = s.bellPending := rfl
@[simp] theorem State.wr_engines (a v : Nat) : (s.wr a v).engines = s.engines := rfl
@[simp] theorem State.wr_keep (a v : Nat) : (s.wr a v).keep = s.keep := rfl
@[simp] theorem State.wr_keepWait (a v : Nat) : (s.wr a v).keepWait = s.keepWait := rfl
@[simp] theorem State.wr_keepOld (a v : Nat) : (s.wr a v).keepOld = s.keepOld := rfl
@[simp] theorem State.wr_keepHeld (a v : Nat) : (s.wr a v).keepHeld = s.keepHeld := rfl
@[simp] theorem State.wr_dieBand (a v : Nat) : (s.wr a v).dieBand = s.dieBand := rfl
@[simp] theorem State.wr_age (a v : Nat) : (s.wr a v).age = s.age := rfl
@[simp] theorem State.wr_fold (a v : Nat) : (s.wr a v).fold = s.fold := rfl
@[simp] theorem State.wr_clock (a v : Nat) : (s.wr a v).clock = s.clock := rfl
@[simp] theorem State.wr_ivdon (a v : Nat) : (s.wr a v).ivdon = s.ivdon := rfl
@[simp] theorem State.wr_trace (a v : Nat) : (s.wr a v).trace = s.trace := rfl
@[simp] theorem State.wr_gpioHigh (a v : Nat) : (s.wr a v).gpioHigh = s.gpioHigh := rfl
@[simp] theorem State.wr_lastCkpt (a v : Nat) : (s.wr a v).lastCkpt = s.lastCkpt := rfl
@[simp] theorem State.wr_free (a v : Nat) : (s.wr a v).free = s.free := rfl
@[simp] theorem State.wr_out (a v : Nat) : (s.wr a v).out = s.out := rfl
@[simp] theorem State.wr_pending (a v : Nat) : (s.wr a v).pending = s.pending := rfl

@[simp] theorem State.emit_regs (x : Out) : (s.emit x).regs = s.regs := rfl
@[simp] theorem State.emit_force (x : Out) : (s.emit x).force = s.force := rfl
@[simp] theorem State.emit_held (x : Out) : (s.emit x).held = s.held := rfl
@[simp] theorem State.emit_captured (x : Out) : (s.emit x).captured = s.captured := rfl
@[simp] theorem State.emit_log (x : Out) : (s.emit x).log = s.log := rfl
@[simp] theorem State.emit_audit (x : Out) : (s.emit x).audit = s.audit := rfl
@[simp] theorem State.emit_power (x : Out) : (s.emit x).power = s.power := rfl
@[simp] theorem State.emit_booted (x : Out) : (s.emit x).booted = s.booted := rfl
@[simp] theorem State.emit_phase (x : Out) : (s.emit x).phase = s.phase := rfl
@[simp] theorem State.emit_nightReady (x : Out) : (s.emit x).nightReady = s.nightReady := rfl
@[simp] theorem State.emit_rails (x : Out) : (s.emit x).rails = s.rails := rfl
@[simp] theorem State.emit_beamOff (x : Out) : (s.emit x).beamOff = s.beamOff := rfl
@[simp] theorem State.emit_fatal (x : Out) : (s.emit x).fatal = s.fatal := rfl
@[simp] theorem State.emit_host (x : Out) : (s.emit x).host = s.host := rfl
@[simp] theorem State.emit_job0 (x : Out) : (s.emit x).job0 = s.job0 := rfl
@[simp] theorem State.emit_job1 (x : Out) : (s.emit x).job1 = s.job1 := rfl
@[simp] theorem State.emit_curSlot (x : Out) : (s.emit x).curSlot = s.curSlot := rfl
@[simp] theorem State.emit_jobOrd (x : Out) : (s.emit x).jobOrd = s.jobOrd := rfl
@[simp] theorem State.emit_frames (x : Out) : (s.emit x).frames = s.frames := rfl
@[simp] theorem State.emit_sealCtr (x : Out) : (s.emit x).sealCtr = s.sealCtr := rfl
@[simp] theorem State.emit_ctxs (x : Out) : (s.emit x).ctxs = s.ctxs := rfl
@[simp] theorem State.emit_codecEng (x : Out) : (s.emit x).codecEng = s.codecEng := rfl
@[simp] theorem State.emit_stripes (x : Out) : (s.emit x).stripes = s.stripes := rfl
@[simp] theorem State.emit_stripeOrd (x : Out) : (s.emit x).stripeOrd = s.stripeOrd := rfl
@[simp] theorem State.emit_dtabs (x : Out) : (s.emit x).dtabs = s.dtabs := rfl
@[simp] theorem State.emit_dnext (x : Out) : (s.emit x).dnext = s.dnext := rfl
@[simp] theorem State.emit_strayHeld (x : Out) : (s.emit x).strayHeld = s.strayHeld := rfl
@[simp] theorem State.emit_strayPend (x : Out) : (s.emit x).strayPend = s.strayPend := rfl
@[simp] theorem State.emit_caps (x : Out) : (s.emit x).caps = s.caps := rfl
@[simp] theorem State.emit_capsNext (x : Out) : (s.emit x).capsNext = s.capsNext := rfl
@[simp] theorem State.emit_field (x : Out) : (s.emit x).field = s.field := rfl
@[simp] theorem State.emit_tileCrcs (x : Out) : (s.emit x).tileCrcs = s.tileCrcs := rfl
@[simp] theorem State.emit_density (x : Out) : (s.emit x).density = s.density := rfl
@[simp] theorem State.emit_factor (x : Out) : (s.emit x).factor = s.factor := rfl
@[simp] theorem State.emit_mapBands (x : Out) : (s.emit x).mapBands = s.mapBands := rfl
@[simp] theorem State.emit_factorCrcs (x : Out) : (s.emit x).factorCrcs = s.factorCrcs := rfl
@[simp] theorem State.emit_ckptUnits (x : Out) : (s.emit x).ckptUnits = s.ckptUnits := rfl
@[simp] theorem State.emit_ckpts (x : Out) : (s.emit x).ckpts = s.ckpts := rfl
@[simp] theorem State.emit_staging (x : Out) : (s.emit x).staging = s.staging := rfl
@[simp] theorem State.emit_tally (x : Out) : (s.emit x).tally = s.tally := rfl
@[simp] theorem State.emit_hold (x : Out) : (s.emit x).hold = s.hold := rfl
@[simp] theorem State.emit_flink (x : Out) : (s.emit x).flink = s.flink := rfl
@[simp] theorem State.emit_drover (x : Out) : (s.emit x).drover = s.drover := rfl
@[simp] theorem State.emit_profile (x : Out) : (s.emit x).profile = s.profile := rfl
@[simp] theorem State.emit_sensors (x : Out) : (s.emit x).sensors = s.sensors := rfl
@[simp] theorem State.emit_tclasses (x : Out) : (s.emit x).tclasses = s.tclasses := rfl
@[simp] theorem State.emit_drams (x : Out) : (s.emit x).drams = s.drams := rfl
@[simp] theorem State.emit_ranks (x : Out) : (s.emit x).ranks = s.ranks := rfl
@[simp] theorem State.emit_sram (x : Out) : (s.emit x).sram = s.sram := rfl
@[simp] theorem State.emit_bells (x : Out) : (s.emit x).bells = s.bells := rfl
@[simp] theorem State.emit_bellDead (x : Out) : (s.emit x).bellDead = s.bellDead := rfl
@[simp] theorem State.emit_bellPending (x : Out) : (s.emit x).bellPending = s.bellPending := rfl
@[simp] theorem State.emit_engines (x : Out) : (s.emit x).engines = s.engines := rfl
@[simp] theorem State.emit_keep (x : Out) : (s.emit x).keep = s.keep := rfl
@[simp] theorem State.emit_keepWait (x : Out) : (s.emit x).keepWait = s.keepWait := rfl
@[simp] theorem State.emit_keepOld (x : Out) : (s.emit x).keepOld = s.keepOld := rfl
@[simp] theorem State.emit_keepHeld (x : Out) : (s.emit x).keepHeld = s.keepHeld := rfl
@[simp] theorem State.emit_dieBand (x : Out) : (s.emit x).dieBand = s.dieBand := rfl
@[simp] theorem State.emit_age (x : Out) : (s.emit x).age = s.age := rfl
@[simp] theorem State.emit_fold (x : Out) : (s.emit x).fold = s.fold := rfl
@[simp] theorem State.emit_clock (x : Out) : (s.emit x).clock = s.clock := rfl
@[simp] theorem State.emit_ivdon (x : Out) : (s.emit x).ivdon = s.ivdon := rfl
@[simp] theorem State.emit_trace (x : Out) : (s.emit x).trace = s.trace := rfl
@[simp] theorem State.emit_gpioHigh (x : Out) : (s.emit x).gpioHigh = s.gpioHigh := rfl
@[simp] theorem State.emit_lastCkpt (x : Out) : (s.emit x).lastCkpt = s.lastCkpt := rfl
@[simp] theorem State.emit_free (x : Out) : (s.emit x).free = s.free := rfl
@[simp] theorem State.emit_pending (x : Out) : (s.emit x).pending = s.pending := rfl

@[simp] theorem State.putBell_regs (n v : Nat) : (s.putBell n v).regs = s.regs := rfl
@[simp] theorem State.putBell_force (n v : Nat) : (s.putBell n v).force = s.force := rfl
@[simp] theorem State.putBell_held (n v : Nat) : (s.putBell n v).held = s.held := rfl
@[simp] theorem State.putBell_captured (n v : Nat) : (s.putBell n v).captured = s.captured := rfl
@[simp] theorem State.putBell_log (n v : Nat) : (s.putBell n v).log = s.log := rfl
@[simp] theorem State.putBell_audit (n v : Nat) : (s.putBell n v).audit = s.audit := rfl
@[simp] theorem State.putBell_power (n v : Nat) : (s.putBell n v).power = s.power := rfl
@[simp] theorem State.putBell_booted (n v : Nat) : (s.putBell n v).booted = s.booted := rfl
@[simp] theorem State.putBell_phase (n v : Nat) : (s.putBell n v).phase = s.phase := rfl
@[simp] theorem State.putBell_nightReady (n v : Nat) : (s.putBell n v).nightReady = s.nightReady := rfl
@[simp] theorem State.putBell_rails (n v : Nat) : (s.putBell n v).rails = s.rails := rfl
@[simp] theorem State.putBell_beamOff (n v : Nat) : (s.putBell n v).beamOff = s.beamOff := rfl
@[simp] theorem State.putBell_fatal (n v : Nat) : (s.putBell n v).fatal = s.fatal := rfl
@[simp] theorem State.putBell_host (n v : Nat) : (s.putBell n v).host = s.host := rfl
@[simp] theorem State.putBell_job0 (n v : Nat) : (s.putBell n v).job0 = s.job0 := rfl
@[simp] theorem State.putBell_job1 (n v : Nat) : (s.putBell n v).job1 = s.job1 := rfl
@[simp] theorem State.putBell_curSlot (n v : Nat) : (s.putBell n v).curSlot = s.curSlot := rfl
@[simp] theorem State.putBell_jobOrd (n v : Nat) : (s.putBell n v).jobOrd = s.jobOrd := rfl
@[simp] theorem State.putBell_frames (n v : Nat) : (s.putBell n v).frames = s.frames := rfl
@[simp] theorem State.putBell_sealCtr (n v : Nat) : (s.putBell n v).sealCtr = s.sealCtr := rfl
@[simp] theorem State.putBell_ctxs (n v : Nat) : (s.putBell n v).ctxs = s.ctxs := rfl
@[simp] theorem State.putBell_codecEng (n v : Nat) : (s.putBell n v).codecEng = s.codecEng := rfl
@[simp] theorem State.putBell_stripes (n v : Nat) : (s.putBell n v).stripes = s.stripes := rfl
@[simp] theorem State.putBell_stripeOrd (n v : Nat) : (s.putBell n v).stripeOrd = s.stripeOrd := rfl
@[simp] theorem State.putBell_dtabs (n v : Nat) : (s.putBell n v).dtabs = s.dtabs := rfl
@[simp] theorem State.putBell_dnext (n v : Nat) : (s.putBell n v).dnext = s.dnext := rfl
@[simp] theorem State.putBell_strayHeld (n v : Nat) : (s.putBell n v).strayHeld = s.strayHeld := rfl
@[simp] theorem State.putBell_strayPend (n v : Nat) : (s.putBell n v).strayPend = s.strayPend := rfl
@[simp] theorem State.putBell_caps (n v : Nat) : (s.putBell n v).caps = s.caps := rfl
@[simp] theorem State.putBell_capsNext (n v : Nat) : (s.putBell n v).capsNext = s.capsNext := rfl
@[simp] theorem State.putBell_field (n v : Nat) : (s.putBell n v).field = s.field := rfl
@[simp] theorem State.putBell_tileCrcs (n v : Nat) : (s.putBell n v).tileCrcs = s.tileCrcs := rfl
@[simp] theorem State.putBell_density (n v : Nat) : (s.putBell n v).density = s.density := rfl
@[simp] theorem State.putBell_factor (n v : Nat) : (s.putBell n v).factor = s.factor := rfl
@[simp] theorem State.putBell_mapBands (n v : Nat) : (s.putBell n v).mapBands = s.mapBands := rfl
@[simp] theorem State.putBell_factorCrcs (n v : Nat) : (s.putBell n v).factorCrcs = s.factorCrcs := rfl
@[simp] theorem State.putBell_ckptUnits (n v : Nat) : (s.putBell n v).ckptUnits = s.ckptUnits := rfl
@[simp] theorem State.putBell_ckpts (n v : Nat) : (s.putBell n v).ckpts = s.ckpts := rfl
@[simp] theorem State.putBell_staging (n v : Nat) : (s.putBell n v).staging = s.staging := rfl
@[simp] theorem State.putBell_tally (n v : Nat) : (s.putBell n v).tally = s.tally := rfl
@[simp] theorem State.putBell_hold (n v : Nat) : (s.putBell n v).hold = s.hold := rfl
@[simp] theorem State.putBell_flink (n v : Nat) : (s.putBell n v).flink = s.flink := rfl
@[simp] theorem State.putBell_drover (n v : Nat) : (s.putBell n v).drover = s.drover := rfl
@[simp] theorem State.putBell_profile (n v : Nat) : (s.putBell n v).profile = s.profile := rfl
@[simp] theorem State.putBell_sensors (n v : Nat) : (s.putBell n v).sensors = s.sensors := rfl
@[simp] theorem State.putBell_tclasses (n v : Nat) : (s.putBell n v).tclasses = s.tclasses := rfl
@[simp] theorem State.putBell_drams (n v : Nat) : (s.putBell n v).drams = s.drams := rfl
@[simp] theorem State.putBell_ranks (n v : Nat) : (s.putBell n v).ranks = s.ranks := rfl
@[simp] theorem State.putBell_sram (n v : Nat) : (s.putBell n v).sram = s.sram := rfl
@[simp] theorem State.putBell_bellDead (n v : Nat) : (s.putBell n v).bellDead = s.bellDead := rfl
@[simp] theorem State.putBell_bellPending (n v : Nat) : (s.putBell n v).bellPending = s.bellPending := rfl
@[simp] theorem State.putBell_engines (n v : Nat) : (s.putBell n v).engines = s.engines := rfl
@[simp] theorem State.putBell_keep (n v : Nat) : (s.putBell n v).keep = s.keep := rfl
@[simp] theorem State.putBell_keepWait (n v : Nat) : (s.putBell n v).keepWait = s.keepWait := rfl
@[simp] theorem State.putBell_keepOld (n v : Nat) : (s.putBell n v).keepOld = s.keepOld := rfl
@[simp] theorem State.putBell_keepHeld (n v : Nat) : (s.putBell n v).keepHeld = s.keepHeld := rfl
@[simp] theorem State.putBell_dieBand (n v : Nat) : (s.putBell n v).dieBand = s.dieBand := rfl
@[simp] theorem State.putBell_age (n v : Nat) : (s.putBell n v).age = s.age := rfl
@[simp] theorem State.putBell_fold (n v : Nat) : (s.putBell n v).fold = s.fold := rfl
@[simp] theorem State.putBell_clock (n v : Nat) : (s.putBell n v).clock = s.clock := rfl
@[simp] theorem State.putBell_ivdon (n v : Nat) : (s.putBell n v).ivdon = s.ivdon := rfl
@[simp] theorem State.putBell_trace (n v : Nat) : (s.putBell n v).trace = s.trace := rfl
@[simp] theorem State.putBell_gpioHigh (n v : Nat) : (s.putBell n v).gpioHigh = s.gpioHigh := rfl
@[simp] theorem State.putBell_lastCkpt (n v : Nat) : (s.putBell n v).lastCkpt = s.lastCkpt := rfl
@[simp] theorem State.putBell_free (n v : Nat) : (s.putBell n v).free = s.free := rfl
@[simp] theorem State.putBell_out (n v : Nat) : (s.putBell n v).out = s.out := rfl
@[simp] theorem State.putBell_pending (n v : Nat) : (s.putBell n v).pending = s.pending := rfl

@[simp] theorem State.setCmd_regs (n : Nat) (f : Cmd → Cmd) : (s.setCmd n f).regs = s.regs := rfl
@[simp] theorem State.setCmd_force (n : Nat) (f : Cmd → Cmd) : (s.setCmd n f).force = s.force := rfl
@[simp] theorem State.setCmd_held (n : Nat) (f : Cmd → Cmd) : (s.setCmd n f).held = s.held := rfl
@[simp] theorem State.setCmd_captured (n : Nat) (f : Cmd → Cmd) : (s.setCmd n f).captured = s.captured := rfl
@[simp] theorem State.setCmd_log (n : Nat) (f : Cmd → Cmd) : (s.setCmd n f).log = s.log := rfl
@[simp] theorem State.setCmd_audit (n : Nat) (f : Cmd → Cmd) : (s.setCmd n f).audit = s.audit := rfl
@[simp] theorem State.setCmd_power (n : Nat) (f : Cmd → Cmd) : (s.setCmd n f).power = s.power := rfl
@[simp] theorem State.setCmd_booted (n : Nat) (f : Cmd → Cmd) : (s.setCmd n f).booted = s.booted := rfl
@[simp] theorem State.setCmd_phase (n : Nat) (f : Cmd → Cmd) : (s.setCmd n f).phase = s.phase := rfl
@[simp] theorem State.setCmd_nightReady (n : Nat) (f : Cmd → Cmd) : (s.setCmd n f).nightReady = s.nightReady := rfl
@[simp] theorem State.setCmd_rails (n : Nat) (f : Cmd → Cmd) : (s.setCmd n f).rails = s.rails := rfl
@[simp] theorem State.setCmd_beamOff (n : Nat) (f : Cmd → Cmd) : (s.setCmd n f).beamOff = s.beamOff := rfl
@[simp] theorem State.setCmd_fatal (n : Nat) (f : Cmd → Cmd) : (s.setCmd n f).fatal = s.fatal := rfl
@[simp] theorem State.setCmd_job0 (n : Nat) (f : Cmd → Cmd) : (s.setCmd n f).job0 = s.job0 := rfl
@[simp] theorem State.setCmd_job1 (n : Nat) (f : Cmd → Cmd) : (s.setCmd n f).job1 = s.job1 := rfl
@[simp] theorem State.setCmd_curSlot (n : Nat) (f : Cmd → Cmd) : (s.setCmd n f).curSlot = s.curSlot := rfl
@[simp] theorem State.setCmd_jobOrd (n : Nat) (f : Cmd → Cmd) : (s.setCmd n f).jobOrd = s.jobOrd := rfl
@[simp] theorem State.setCmd_frames (n : Nat) (f : Cmd → Cmd) : (s.setCmd n f).frames = s.frames := rfl
@[simp] theorem State.setCmd_sealCtr (n : Nat) (f : Cmd → Cmd) : (s.setCmd n f).sealCtr = s.sealCtr := rfl
@[simp] theorem State.setCmd_ctxs (n : Nat) (f : Cmd → Cmd) : (s.setCmd n f).ctxs = s.ctxs := rfl
@[simp] theorem State.setCmd_codecEng (n : Nat) (f : Cmd → Cmd) : (s.setCmd n f).codecEng = s.codecEng := rfl
@[simp] theorem State.setCmd_stripes (n : Nat) (f : Cmd → Cmd) : (s.setCmd n f).stripes = s.stripes := rfl
@[simp] theorem State.setCmd_stripeOrd (n : Nat) (f : Cmd → Cmd) : (s.setCmd n f).stripeOrd = s.stripeOrd := rfl
@[simp] theorem State.setCmd_dtabs (n : Nat) (f : Cmd → Cmd) : (s.setCmd n f).dtabs = s.dtabs := rfl
@[simp] theorem State.setCmd_dnext (n : Nat) (f : Cmd → Cmd) : (s.setCmd n f).dnext = s.dnext := rfl
@[simp] theorem State.setCmd_strayHeld (n : Nat) (f : Cmd → Cmd) : (s.setCmd n f).strayHeld = s.strayHeld := rfl
@[simp] theorem State.setCmd_strayPend (n : Nat) (f : Cmd → Cmd) : (s.setCmd n f).strayPend = s.strayPend := rfl
@[simp] theorem State.setCmd_caps (n : Nat) (f : Cmd → Cmd) : (s.setCmd n f).caps = s.caps := rfl
@[simp] theorem State.setCmd_capsNext (n : Nat) (f : Cmd → Cmd) : (s.setCmd n f).capsNext = s.capsNext := rfl
@[simp] theorem State.setCmd_field (n : Nat) (f : Cmd → Cmd) : (s.setCmd n f).field = s.field := rfl
@[simp] theorem State.setCmd_tileCrcs (n : Nat) (f : Cmd → Cmd) : (s.setCmd n f).tileCrcs = s.tileCrcs := rfl
@[simp] theorem State.setCmd_density (n : Nat) (f : Cmd → Cmd) : (s.setCmd n f).density = s.density := rfl
@[simp] theorem State.setCmd_factor (n : Nat) (f : Cmd → Cmd) : (s.setCmd n f).factor = s.factor := rfl
@[simp] theorem State.setCmd_mapBands (n : Nat) (f : Cmd → Cmd) : (s.setCmd n f).mapBands = s.mapBands := rfl
@[simp] theorem State.setCmd_factorCrcs (n : Nat) (f : Cmd → Cmd) : (s.setCmd n f).factorCrcs = s.factorCrcs := rfl
@[simp] theorem State.setCmd_ckptUnits (n : Nat) (f : Cmd → Cmd) : (s.setCmd n f).ckptUnits = s.ckptUnits := rfl
@[simp] theorem State.setCmd_ckpts (n : Nat) (f : Cmd → Cmd) : (s.setCmd n f).ckpts = s.ckpts := rfl
@[simp] theorem State.setCmd_staging (n : Nat) (f : Cmd → Cmd) : (s.setCmd n f).staging = s.staging := rfl
@[simp] theorem State.setCmd_tally (n : Nat) (f : Cmd → Cmd) : (s.setCmd n f).tally = s.tally := rfl
@[simp] theorem State.setCmd_hold (n : Nat) (f : Cmd → Cmd) : (s.setCmd n f).hold = s.hold := rfl
@[simp] theorem State.setCmd_flink (n : Nat) (f : Cmd → Cmd) : (s.setCmd n f).flink = s.flink := rfl
@[simp] theorem State.setCmd_drover (n : Nat) (f : Cmd → Cmd) : (s.setCmd n f).drover = s.drover := rfl
@[simp] theorem State.setCmd_profile (n : Nat) (f : Cmd → Cmd) : (s.setCmd n f).profile = s.profile := rfl
@[simp] theorem State.setCmd_sensors (n : Nat) (f : Cmd → Cmd) : (s.setCmd n f).sensors = s.sensors := rfl
@[simp] theorem State.setCmd_tclasses (n : Nat) (f : Cmd → Cmd) : (s.setCmd n f).tclasses = s.tclasses := rfl
@[simp] theorem State.setCmd_drams (n : Nat) (f : Cmd → Cmd) : (s.setCmd n f).drams = s.drams := rfl
@[simp] theorem State.setCmd_ranks (n : Nat) (f : Cmd → Cmd) : (s.setCmd n f).ranks = s.ranks := rfl
@[simp] theorem State.setCmd_sram (n : Nat) (f : Cmd → Cmd) : (s.setCmd n f).sram = s.sram := rfl
@[simp] theorem State.setCmd_bells (n : Nat) (f : Cmd → Cmd) : (s.setCmd n f).bells = s.bells := rfl
@[simp] theorem State.setCmd_bellDead (n : Nat) (f : Cmd → Cmd) : (s.setCmd n f).bellDead = s.bellDead := rfl
@[simp] theorem State.setCmd_bellPending (n : Nat) (f : Cmd → Cmd) : (s.setCmd n f).bellPending = s.bellPending := rfl
@[simp] theorem State.setCmd_engines (n : Nat) (f : Cmd → Cmd) : (s.setCmd n f).engines = s.engines := rfl
@[simp] theorem State.setCmd_keep (n : Nat) (f : Cmd → Cmd) : (s.setCmd n f).keep = s.keep := rfl
@[simp] theorem State.setCmd_keepWait (n : Nat) (f : Cmd → Cmd) : (s.setCmd n f).keepWait = s.keepWait := rfl
@[simp] theorem State.setCmd_keepOld (n : Nat) (f : Cmd → Cmd) : (s.setCmd n f).keepOld = s.keepOld := rfl
@[simp] theorem State.setCmd_keepHeld (n : Nat) (f : Cmd → Cmd) : (s.setCmd n f).keepHeld = s.keepHeld := rfl
@[simp] theorem State.setCmd_dieBand (n : Nat) (f : Cmd → Cmd) : (s.setCmd n f).dieBand = s.dieBand := rfl
@[simp] theorem State.setCmd_age (n : Nat) (f : Cmd → Cmd) : (s.setCmd n f).age = s.age := rfl
@[simp] theorem State.setCmd_fold (n : Nat) (f : Cmd → Cmd) : (s.setCmd n f).fold = s.fold := rfl
@[simp] theorem State.setCmd_clock (n : Nat) (f : Cmd → Cmd) : (s.setCmd n f).clock = s.clock := rfl
@[simp] theorem State.setCmd_ivdon (n : Nat) (f : Cmd → Cmd) : (s.setCmd n f).ivdon = s.ivdon := rfl
@[simp] theorem State.setCmd_trace (n : Nat) (f : Cmd → Cmd) : (s.setCmd n f).trace = s.trace := rfl
@[simp] theorem State.setCmd_gpioHigh (n : Nat) (f : Cmd → Cmd) : (s.setCmd n f).gpioHigh = s.gpioHigh := rfl
@[simp] theorem State.setCmd_lastCkpt (n : Nat) (f : Cmd → Cmd) : (s.setCmd n f).lastCkpt = s.lastCkpt := rfl
@[simp] theorem State.setCmd_free (n : Nat) (f : Cmd → Cmd) : (s.setCmd n f).free = s.free := rfl
@[simp] theorem State.setCmd_out (n : Nat) (f : Cmd → Cmd) : (s.setCmd n f).out = s.out := rfl
@[simp] theorem State.setCmd_pending (n : Nat) (f : Cmd → Cmd) : (s.setCmd n f).pending = s.pending := rfl

@[simp] theorem State.setQueue_regs (k : Nat) (x : Queue) : (s.setQueue k x).regs = s.regs := rfl
@[simp] theorem State.setQueue_force (k : Nat) (x : Queue) : (s.setQueue k x).force = s.force := rfl
@[simp] theorem State.setQueue_held (k : Nat) (x : Queue) : (s.setQueue k x).held = s.held := rfl
@[simp] theorem State.setQueue_captured (k : Nat) (x : Queue) : (s.setQueue k x).captured = s.captured := rfl
@[simp] theorem State.setQueue_log (k : Nat) (x : Queue) : (s.setQueue k x).log = s.log := rfl
@[simp] theorem State.setQueue_audit (k : Nat) (x : Queue) : (s.setQueue k x).audit = s.audit := rfl
@[simp] theorem State.setQueue_power (k : Nat) (x : Queue) : (s.setQueue k x).power = s.power := rfl
@[simp] theorem State.setQueue_booted (k : Nat) (x : Queue) : (s.setQueue k x).booted = s.booted := rfl
@[simp] theorem State.setQueue_phase (k : Nat) (x : Queue) : (s.setQueue k x).phase = s.phase := rfl
@[simp] theorem State.setQueue_nightReady (k : Nat) (x : Queue) : (s.setQueue k x).nightReady = s.nightReady := rfl
@[simp] theorem State.setQueue_rails (k : Nat) (x : Queue) : (s.setQueue k x).rails = s.rails := rfl
@[simp] theorem State.setQueue_beamOff (k : Nat) (x : Queue) : (s.setQueue k x).beamOff = s.beamOff := rfl
@[simp] theorem State.setQueue_fatal (k : Nat) (x : Queue) : (s.setQueue k x).fatal = s.fatal := rfl
@[simp] theorem State.setQueue_job0 (k : Nat) (x : Queue) : (s.setQueue k x).job0 = s.job0 := rfl
@[simp] theorem State.setQueue_job1 (k : Nat) (x : Queue) : (s.setQueue k x).job1 = s.job1 := rfl
@[simp] theorem State.setQueue_curSlot (k : Nat) (x : Queue) : (s.setQueue k x).curSlot = s.curSlot := rfl
@[simp] theorem State.setQueue_jobOrd (k : Nat) (x : Queue) : (s.setQueue k x).jobOrd = s.jobOrd := rfl
@[simp] theorem State.setQueue_frames (k : Nat) (x : Queue) : (s.setQueue k x).frames = s.frames := rfl
@[simp] theorem State.setQueue_sealCtr (k : Nat) (x : Queue) : (s.setQueue k x).sealCtr = s.sealCtr := rfl
@[simp] theorem State.setQueue_ctxs (k : Nat) (x : Queue) : (s.setQueue k x).ctxs = s.ctxs := rfl
@[simp] theorem State.setQueue_codecEng (k : Nat) (x : Queue) : (s.setQueue k x).codecEng = s.codecEng := rfl
@[simp] theorem State.setQueue_stripes (k : Nat) (x : Queue) : (s.setQueue k x).stripes = s.stripes := rfl
@[simp] theorem State.setQueue_stripeOrd (k : Nat) (x : Queue) : (s.setQueue k x).stripeOrd = s.stripeOrd := rfl
@[simp] theorem State.setQueue_dtabs (k : Nat) (x : Queue) : (s.setQueue k x).dtabs = s.dtabs := rfl
@[simp] theorem State.setQueue_dnext (k : Nat) (x : Queue) : (s.setQueue k x).dnext = s.dnext := rfl
@[simp] theorem State.setQueue_strayHeld (k : Nat) (x : Queue) : (s.setQueue k x).strayHeld = s.strayHeld := rfl
@[simp] theorem State.setQueue_strayPend (k : Nat) (x : Queue) : (s.setQueue k x).strayPend = s.strayPend := rfl
@[simp] theorem State.setQueue_caps (k : Nat) (x : Queue) : (s.setQueue k x).caps = s.caps := rfl
@[simp] theorem State.setQueue_capsNext (k : Nat) (x : Queue) : (s.setQueue k x).capsNext = s.capsNext := rfl
@[simp] theorem State.setQueue_field (k : Nat) (x : Queue) : (s.setQueue k x).field = s.field := rfl
@[simp] theorem State.setQueue_tileCrcs (k : Nat) (x : Queue) : (s.setQueue k x).tileCrcs = s.tileCrcs := rfl
@[simp] theorem State.setQueue_density (k : Nat) (x : Queue) : (s.setQueue k x).density = s.density := rfl
@[simp] theorem State.setQueue_factor (k : Nat) (x : Queue) : (s.setQueue k x).factor = s.factor := rfl
@[simp] theorem State.setQueue_mapBands (k : Nat) (x : Queue) : (s.setQueue k x).mapBands = s.mapBands := rfl
@[simp] theorem State.setQueue_factorCrcs (k : Nat) (x : Queue) : (s.setQueue k x).factorCrcs = s.factorCrcs := rfl
@[simp] theorem State.setQueue_ckptUnits (k : Nat) (x : Queue) : (s.setQueue k x).ckptUnits = s.ckptUnits := rfl
@[simp] theorem State.setQueue_ckpts (k : Nat) (x : Queue) : (s.setQueue k x).ckpts = s.ckpts := rfl
@[simp] theorem State.setQueue_staging (k : Nat) (x : Queue) : (s.setQueue k x).staging = s.staging := rfl
@[simp] theorem State.setQueue_tally (k : Nat) (x : Queue) : (s.setQueue k x).tally = s.tally := rfl
@[simp] theorem State.setQueue_hold (k : Nat) (x : Queue) : (s.setQueue k x).hold = s.hold := rfl
@[simp] theorem State.setQueue_flink (k : Nat) (x : Queue) : (s.setQueue k x).flink = s.flink := rfl
@[simp] theorem State.setQueue_drover (k : Nat) (x : Queue) : (s.setQueue k x).drover = s.drover := rfl
@[simp] theorem State.setQueue_profile (k : Nat) (x : Queue) : (s.setQueue k x).profile = s.profile := rfl
@[simp] theorem State.setQueue_sensors (k : Nat) (x : Queue) : (s.setQueue k x).sensors = s.sensors := rfl
@[simp] theorem State.setQueue_tclasses (k : Nat) (x : Queue) : (s.setQueue k x).tclasses = s.tclasses := rfl
@[simp] theorem State.setQueue_drams (k : Nat) (x : Queue) : (s.setQueue k x).drams = s.drams := rfl
@[simp] theorem State.setQueue_ranks (k : Nat) (x : Queue) : (s.setQueue k x).ranks = s.ranks := rfl
@[simp] theorem State.setQueue_sram (k : Nat) (x : Queue) : (s.setQueue k x).sram = s.sram := rfl
@[simp] theorem State.setQueue_bells (k : Nat) (x : Queue) : (s.setQueue k x).bells = s.bells := rfl
@[simp] theorem State.setQueue_bellDead (k : Nat) (x : Queue) : (s.setQueue k x).bellDead = s.bellDead := rfl
@[simp] theorem State.setQueue_bellPending (k : Nat) (x : Queue) : (s.setQueue k x).bellPending = s.bellPending := rfl
@[simp] theorem State.setQueue_engines (k : Nat) (x : Queue) : (s.setQueue k x).engines = s.engines := rfl
@[simp] theorem State.setQueue_keep (k : Nat) (x : Queue) : (s.setQueue k x).keep = s.keep := rfl
@[simp] theorem State.setQueue_keepWait (k : Nat) (x : Queue) : (s.setQueue k x).keepWait = s.keepWait := rfl
@[simp] theorem State.setQueue_keepOld (k : Nat) (x : Queue) : (s.setQueue k x).keepOld = s.keepOld := rfl
@[simp] theorem State.setQueue_keepHeld (k : Nat) (x : Queue) : (s.setQueue k x).keepHeld = s.keepHeld := rfl
@[simp] theorem State.setQueue_dieBand (k : Nat) (x : Queue) : (s.setQueue k x).dieBand = s.dieBand := rfl
@[simp] theorem State.setQueue_age (k : Nat) (x : Queue) : (s.setQueue k x).age = s.age := rfl
@[simp] theorem State.setQueue_fold (k : Nat) (x : Queue) : (s.setQueue k x).fold = s.fold := rfl
@[simp] theorem State.setQueue_clock (k : Nat) (x : Queue) : (s.setQueue k x).clock = s.clock := rfl
@[simp] theorem State.setQueue_ivdon (k : Nat) (x : Queue) : (s.setQueue k x).ivdon = s.ivdon := rfl
@[simp] theorem State.setQueue_trace (k : Nat) (x : Queue) : (s.setQueue k x).trace = s.trace := rfl
@[simp] theorem State.setQueue_gpioHigh (k : Nat) (x : Queue) : (s.setQueue k x).gpioHigh = s.gpioHigh := rfl
@[simp] theorem State.setQueue_lastCkpt (k : Nat) (x : Queue) : (s.setQueue k x).lastCkpt = s.lastCkpt := rfl
@[simp] theorem State.setQueue_free (k : Nat) (x : Queue) : (s.setQueue k x).free = s.free := rfl
@[simp] theorem State.setQueue_out (k : Nat) (x : Queue) : (s.setQueue k x).out = s.out := rfl
@[simp] theorem State.setQueue_pending (k : Nat) (x : Queue) : (s.setQueue k x).pending = s.pending := rfl

@[simp] theorem State.modStripes_regs (p : Stripe → Bool) (f : Stripe → Stripe) : (s.modStripes p f).regs = s.regs := rfl
@[simp] theorem State.modStripes_force (p : Stripe → Bool) (f : Stripe → Stripe) : (s.modStripes p f).force = s.force := rfl
@[simp] theorem State.modStripes_held (p : Stripe → Bool) (f : Stripe → Stripe) : (s.modStripes p f).held = s.held := rfl
@[simp] theorem State.modStripes_captured (p : Stripe → Bool) (f : Stripe → Stripe) : (s.modStripes p f).captured = s.captured := rfl
@[simp] theorem State.modStripes_log (p : Stripe → Bool) (f : Stripe → Stripe) : (s.modStripes p f).log = s.log := rfl
@[simp] theorem State.modStripes_audit (p : Stripe → Bool) (f : Stripe → Stripe) : (s.modStripes p f).audit = s.audit := rfl
@[simp] theorem State.modStripes_power (p : Stripe → Bool) (f : Stripe → Stripe) : (s.modStripes p f).power = s.power := rfl
@[simp] theorem State.modStripes_booted (p : Stripe → Bool) (f : Stripe → Stripe) : (s.modStripes p f).booted = s.booted := rfl
@[simp] theorem State.modStripes_phase (p : Stripe → Bool) (f : Stripe → Stripe) : (s.modStripes p f).phase = s.phase := rfl
@[simp] theorem State.modStripes_nightReady (p : Stripe → Bool) (f : Stripe → Stripe) : (s.modStripes p f).nightReady = s.nightReady := rfl
@[simp] theorem State.modStripes_rails (p : Stripe → Bool) (f : Stripe → Stripe) : (s.modStripes p f).rails = s.rails := rfl
@[simp] theorem State.modStripes_beamOff (p : Stripe → Bool) (f : Stripe → Stripe) : (s.modStripes p f).beamOff = s.beamOff := rfl
@[simp] theorem State.modStripes_fatal (p : Stripe → Bool) (f : Stripe → Stripe) : (s.modStripes p f).fatal = s.fatal := rfl
@[simp] theorem State.modStripes_host (p : Stripe → Bool) (f : Stripe → Stripe) : (s.modStripes p f).host = s.host := rfl
@[simp] theorem State.modStripes_job0 (p : Stripe → Bool) (f : Stripe → Stripe) : (s.modStripes p f).job0 = s.job0 := rfl
@[simp] theorem State.modStripes_job1 (p : Stripe → Bool) (f : Stripe → Stripe) : (s.modStripes p f).job1 = s.job1 := rfl
@[simp] theorem State.modStripes_curSlot (p : Stripe → Bool) (f : Stripe → Stripe) : (s.modStripes p f).curSlot = s.curSlot := rfl
@[simp] theorem State.modStripes_jobOrd (p : Stripe → Bool) (f : Stripe → Stripe) : (s.modStripes p f).jobOrd = s.jobOrd := rfl
@[simp] theorem State.modStripes_frames (p : Stripe → Bool) (f : Stripe → Stripe) : (s.modStripes p f).frames = s.frames := rfl
@[simp] theorem State.modStripes_sealCtr (p : Stripe → Bool) (f : Stripe → Stripe) : (s.modStripes p f).sealCtr = s.sealCtr := rfl
@[simp] theorem State.modStripes_ctxs (p : Stripe → Bool) (f : Stripe → Stripe) : (s.modStripes p f).ctxs = s.ctxs := rfl
@[simp] theorem State.modStripes_codecEng (p : Stripe → Bool) (f : Stripe → Stripe) : (s.modStripes p f).codecEng = s.codecEng := rfl
@[simp] theorem State.modStripes_stripeOrd (p : Stripe → Bool) (f : Stripe → Stripe) : (s.modStripes p f).stripeOrd = s.stripeOrd := rfl
@[simp] theorem State.modStripes_dtabs (p : Stripe → Bool) (f : Stripe → Stripe) : (s.modStripes p f).dtabs = s.dtabs := rfl
@[simp] theorem State.modStripes_dnext (p : Stripe → Bool) (f : Stripe → Stripe) : (s.modStripes p f).dnext = s.dnext := rfl
@[simp] theorem State.modStripes_strayHeld (p : Stripe → Bool) (f : Stripe → Stripe) : (s.modStripes p f).strayHeld = s.strayHeld := rfl
@[simp] theorem State.modStripes_strayPend (p : Stripe → Bool) (f : Stripe → Stripe) : (s.modStripes p f).strayPend = s.strayPend := rfl
@[simp] theorem State.modStripes_caps (p : Stripe → Bool) (f : Stripe → Stripe) : (s.modStripes p f).caps = s.caps := rfl
@[simp] theorem State.modStripes_capsNext (p : Stripe → Bool) (f : Stripe → Stripe) : (s.modStripes p f).capsNext = s.capsNext := rfl
@[simp] theorem State.modStripes_field (p : Stripe → Bool) (f : Stripe → Stripe) : (s.modStripes p f).field = s.field := rfl
@[simp] theorem State.modStripes_tileCrcs (p : Stripe → Bool) (f : Stripe → Stripe) : (s.modStripes p f).tileCrcs = s.tileCrcs := rfl
@[simp] theorem State.modStripes_density (p : Stripe → Bool) (f : Stripe → Stripe) : (s.modStripes p f).density = s.density := rfl
@[simp] theorem State.modStripes_factor (p : Stripe → Bool) (f : Stripe → Stripe) : (s.modStripes p f).factor = s.factor := rfl
@[simp] theorem State.modStripes_mapBands (p : Stripe → Bool) (f : Stripe → Stripe) : (s.modStripes p f).mapBands = s.mapBands := rfl
@[simp] theorem State.modStripes_factorCrcs (p : Stripe → Bool) (f : Stripe → Stripe) : (s.modStripes p f).factorCrcs = s.factorCrcs := rfl
@[simp] theorem State.modStripes_ckptUnits (p : Stripe → Bool) (f : Stripe → Stripe) : (s.modStripes p f).ckptUnits = s.ckptUnits := rfl
@[simp] theorem State.modStripes_ckpts (p : Stripe → Bool) (f : Stripe → Stripe) : (s.modStripes p f).ckpts = s.ckpts := rfl
@[simp] theorem State.modStripes_staging (p : Stripe → Bool) (f : Stripe → Stripe) : (s.modStripes p f).staging = s.staging := rfl
@[simp] theorem State.modStripes_tally (p : Stripe → Bool) (f : Stripe → Stripe) : (s.modStripes p f).tally = s.tally := rfl
@[simp] theorem State.modStripes_hold (p : Stripe → Bool) (f : Stripe → Stripe) : (s.modStripes p f).hold = s.hold := rfl
@[simp] theorem State.modStripes_flink (p : Stripe → Bool) (f : Stripe → Stripe) : (s.modStripes p f).flink = s.flink := rfl
@[simp] theorem State.modStripes_drover (p : Stripe → Bool) (f : Stripe → Stripe) : (s.modStripes p f).drover = s.drover := rfl
@[simp] theorem State.modStripes_profile (p : Stripe → Bool) (f : Stripe → Stripe) : (s.modStripes p f).profile = s.profile := rfl
@[simp] theorem State.modStripes_sensors (p : Stripe → Bool) (f : Stripe → Stripe) : (s.modStripes p f).sensors = s.sensors := rfl
@[simp] theorem State.modStripes_tclasses (p : Stripe → Bool) (f : Stripe → Stripe) : (s.modStripes p f).tclasses = s.tclasses := rfl
@[simp] theorem State.modStripes_drams (p : Stripe → Bool) (f : Stripe → Stripe) : (s.modStripes p f).drams = s.drams := rfl
@[simp] theorem State.modStripes_ranks (p : Stripe → Bool) (f : Stripe → Stripe) : (s.modStripes p f).ranks = s.ranks := rfl
@[simp] theorem State.modStripes_sram (p : Stripe → Bool) (f : Stripe → Stripe) : (s.modStripes p f).sram = s.sram := rfl
@[simp] theorem State.modStripes_bells (p : Stripe → Bool) (f : Stripe → Stripe) : (s.modStripes p f).bells = s.bells := rfl
@[simp] theorem State.modStripes_bellDead (p : Stripe → Bool) (f : Stripe → Stripe) : (s.modStripes p f).bellDead = s.bellDead := rfl
@[simp] theorem State.modStripes_bellPending (p : Stripe → Bool) (f : Stripe → Stripe) : (s.modStripes p f).bellPending = s.bellPending := rfl
@[simp] theorem State.modStripes_engines (p : Stripe → Bool) (f : Stripe → Stripe) : (s.modStripes p f).engines = s.engines := rfl
@[simp] theorem State.modStripes_keep (p : Stripe → Bool) (f : Stripe → Stripe) : (s.modStripes p f).keep = s.keep := rfl
@[simp] theorem State.modStripes_keepWait (p : Stripe → Bool) (f : Stripe → Stripe) : (s.modStripes p f).keepWait = s.keepWait := rfl
@[simp] theorem State.modStripes_keepOld (p : Stripe → Bool) (f : Stripe → Stripe) : (s.modStripes p f).keepOld = s.keepOld := rfl
@[simp] theorem State.modStripes_keepHeld (p : Stripe → Bool) (f : Stripe → Stripe) : (s.modStripes p f).keepHeld = s.keepHeld := rfl
@[simp] theorem State.modStripes_dieBand (p : Stripe → Bool) (f : Stripe → Stripe) : (s.modStripes p f).dieBand = s.dieBand := rfl
@[simp] theorem State.modStripes_age (p : Stripe → Bool) (f : Stripe → Stripe) : (s.modStripes p f).age = s.age := rfl
@[simp] theorem State.modStripes_fold (p : Stripe → Bool) (f : Stripe → Stripe) : (s.modStripes p f).fold = s.fold := rfl
@[simp] theorem State.modStripes_clock (p : Stripe → Bool) (f : Stripe → Stripe) : (s.modStripes p f).clock = s.clock := rfl
@[simp] theorem State.modStripes_ivdon (p : Stripe → Bool) (f : Stripe → Stripe) : (s.modStripes p f).ivdon = s.ivdon := rfl
@[simp] theorem State.modStripes_trace (p : Stripe → Bool) (f : Stripe → Stripe) : (s.modStripes p f).trace = s.trace := rfl
@[simp] theorem State.modStripes_gpioHigh (p : Stripe → Bool) (f : Stripe → Stripe) : (s.modStripes p f).gpioHigh = s.gpioHigh := rfl
@[simp] theorem State.modStripes_lastCkpt (p : Stripe → Bool) (f : Stripe → Stripe) : (s.modStripes p f).lastCkpt = s.lastCkpt := rfl
@[simp] theorem State.modStripes_free (p : Stripe → Bool) (f : Stripe → Stripe) : (s.modStripes p f).free = s.free := rfl
@[simp] theorem State.modStripes_out (p : Stripe → Bool) (f : Stripe → Stripe) : (s.modStripes p f).out = s.out := rfl
@[simp] theorem State.modStripes_pending (p : Stripe → Bool) (f : Stripe → Stripe) : (s.modStripes p f).pending = s.pending := rfl

@[simp] theorem State.setLane_regs (l : Nat) (x : Lane) : (s.setLane l x).regs = s.regs := rfl
@[simp] theorem State.setLane_force (l : Nat) (x : Lane) : (s.setLane l x).force = s.force := rfl
@[simp] theorem State.setLane_held (l : Nat) (x : Lane) : (s.setLane l x).held = s.held := rfl
@[simp] theorem State.setLane_captured (l : Nat) (x : Lane) : (s.setLane l x).captured = s.captured := rfl
@[simp] theorem State.setLane_log (l : Nat) (x : Lane) : (s.setLane l x).log = s.log := rfl
@[simp] theorem State.setLane_audit (l : Nat) (x : Lane) : (s.setLane l x).audit = s.audit := rfl
@[simp] theorem State.setLane_power (l : Nat) (x : Lane) : (s.setLane l x).power = s.power := rfl
@[simp] theorem State.setLane_booted (l : Nat) (x : Lane) : (s.setLane l x).booted = s.booted := rfl
@[simp] theorem State.setLane_phase (l : Nat) (x : Lane) : (s.setLane l x).phase = s.phase := rfl
@[simp] theorem State.setLane_nightReady (l : Nat) (x : Lane) : (s.setLane l x).nightReady = s.nightReady := rfl
@[simp] theorem State.setLane_rails (l : Nat) (x : Lane) : (s.setLane l x).rails = s.rails := rfl
@[simp] theorem State.setLane_beamOff (l : Nat) (x : Lane) : (s.setLane l x).beamOff = s.beamOff := rfl
@[simp] theorem State.setLane_fatal (l : Nat) (x : Lane) : (s.setLane l x).fatal = s.fatal := rfl
@[simp] theorem State.setLane_host (l : Nat) (x : Lane) : (s.setLane l x).host = s.host := rfl
@[simp] theorem State.setLane_job0 (l : Nat) (x : Lane) : (s.setLane l x).job0 = s.job0 := rfl
@[simp] theorem State.setLane_job1 (l : Nat) (x : Lane) : (s.setLane l x).job1 = s.job1 := rfl
@[simp] theorem State.setLane_curSlot (l : Nat) (x : Lane) : (s.setLane l x).curSlot = s.curSlot := rfl
@[simp] theorem State.setLane_jobOrd (l : Nat) (x : Lane) : (s.setLane l x).jobOrd = s.jobOrd := rfl
@[simp] theorem State.setLane_frames (l : Nat) (x : Lane) : (s.setLane l x).frames = s.frames := rfl
@[simp] theorem State.setLane_sealCtr (l : Nat) (x : Lane) : (s.setLane l x).sealCtr = s.sealCtr := rfl
@[simp] theorem State.setLane_ctxs (l : Nat) (x : Lane) : (s.setLane l x).ctxs = s.ctxs := rfl
@[simp] theorem State.setLane_codecEng (l : Nat) (x : Lane) : (s.setLane l x).codecEng = s.codecEng := rfl
@[simp] theorem State.setLane_stripes (l : Nat) (x : Lane) : (s.setLane l x).stripes = s.stripes := rfl
@[simp] theorem State.setLane_stripeOrd (l : Nat) (x : Lane) : (s.setLane l x).stripeOrd = s.stripeOrd := rfl
@[simp] theorem State.setLane_dtabs (l : Nat) (x : Lane) : (s.setLane l x).dtabs = s.dtabs := rfl
@[simp] theorem State.setLane_dnext (l : Nat) (x : Lane) : (s.setLane l x).dnext = s.dnext := rfl
@[simp] theorem State.setLane_strayHeld (l : Nat) (x : Lane) : (s.setLane l x).strayHeld = s.strayHeld := rfl
@[simp] theorem State.setLane_strayPend (l : Nat) (x : Lane) : (s.setLane l x).strayPend = s.strayPend := rfl
@[simp] theorem State.setLane_caps (l : Nat) (x : Lane) : (s.setLane l x).caps = s.caps := rfl
@[simp] theorem State.setLane_capsNext (l : Nat) (x : Lane) : (s.setLane l x).capsNext = s.capsNext := rfl
@[simp] theorem State.setLane_field (l : Nat) (x : Lane) : (s.setLane l x).field = s.field := rfl
@[simp] theorem State.setLane_tileCrcs (l : Nat) (x : Lane) : (s.setLane l x).tileCrcs = s.tileCrcs := rfl
@[simp] theorem State.setLane_density (l : Nat) (x : Lane) : (s.setLane l x).density = s.density := rfl
@[simp] theorem State.setLane_factor (l : Nat) (x : Lane) : (s.setLane l x).factor = s.factor := rfl
@[simp] theorem State.setLane_mapBands (l : Nat) (x : Lane) : (s.setLane l x).mapBands = s.mapBands := rfl
@[simp] theorem State.setLane_factorCrcs (l : Nat) (x : Lane) : (s.setLane l x).factorCrcs = s.factorCrcs := rfl
@[simp] theorem State.setLane_ckptUnits (l : Nat) (x : Lane) : (s.setLane l x).ckptUnits = s.ckptUnits := rfl
@[simp] theorem State.setLane_ckpts (l : Nat) (x : Lane) : (s.setLane l x).ckpts = s.ckpts := rfl
@[simp] theorem State.setLane_staging (l : Nat) (x : Lane) : (s.setLane l x).staging = s.staging := rfl
@[simp] theorem State.setLane_tally (l : Nat) (x : Lane) : (s.setLane l x).tally = s.tally := rfl
@[simp] theorem State.setLane_hold (l : Nat) (x : Lane) : (s.setLane l x).hold = s.hold := rfl
@[simp] theorem State.setLane_drover (l : Nat) (x : Lane) : (s.setLane l x).drover = s.drover := rfl
@[simp] theorem State.setLane_profile (l : Nat) (x : Lane) : (s.setLane l x).profile = s.profile := rfl
@[simp] theorem State.setLane_sensors (l : Nat) (x : Lane) : (s.setLane l x).sensors = s.sensors := rfl
@[simp] theorem State.setLane_tclasses (l : Nat) (x : Lane) : (s.setLane l x).tclasses = s.tclasses := rfl
@[simp] theorem State.setLane_drams (l : Nat) (x : Lane) : (s.setLane l x).drams = s.drams := rfl
@[simp] theorem State.setLane_ranks (l : Nat) (x : Lane) : (s.setLane l x).ranks = s.ranks := rfl
@[simp] theorem State.setLane_sram (l : Nat) (x : Lane) : (s.setLane l x).sram = s.sram := rfl
@[simp] theorem State.setLane_bells (l : Nat) (x : Lane) : (s.setLane l x).bells = s.bells := rfl
@[simp] theorem State.setLane_bellDead (l : Nat) (x : Lane) : (s.setLane l x).bellDead = s.bellDead := rfl
@[simp] theorem State.setLane_bellPending (l : Nat) (x : Lane) : (s.setLane l x).bellPending = s.bellPending := rfl
@[simp] theorem State.setLane_engines (l : Nat) (x : Lane) : (s.setLane l x).engines = s.engines := rfl
@[simp] theorem State.setLane_keep (l : Nat) (x : Lane) : (s.setLane l x).keep = s.keep := rfl
@[simp] theorem State.setLane_keepWait (l : Nat) (x : Lane) : (s.setLane l x).keepWait = s.keepWait := rfl
@[simp] theorem State.setLane_keepOld (l : Nat) (x : Lane) : (s.setLane l x).keepOld = s.keepOld := rfl
@[simp] theorem State.setLane_keepHeld (l : Nat) (x : Lane) : (s.setLane l x).keepHeld = s.keepHeld := rfl
@[simp] theorem State.setLane_dieBand (l : Nat) (x : Lane) : (s.setLane l x).dieBand = s.dieBand := rfl
@[simp] theorem State.setLane_age (l : Nat) (x : Lane) : (s.setLane l x).age = s.age := rfl
@[simp] theorem State.setLane_fold (l : Nat) (x : Lane) : (s.setLane l x).fold = s.fold := rfl
@[simp] theorem State.setLane_clock (l : Nat) (x : Lane) : (s.setLane l x).clock = s.clock := rfl
@[simp] theorem State.setLane_ivdon (l : Nat) (x : Lane) : (s.setLane l x).ivdon = s.ivdon := rfl
@[simp] theorem State.setLane_trace (l : Nat) (x : Lane) : (s.setLane l x).trace = s.trace := rfl
@[simp] theorem State.setLane_gpioHigh (l : Nat) (x : Lane) : (s.setLane l x).gpioHigh = s.gpioHigh := rfl
@[simp] theorem State.setLane_lastCkpt (l : Nat) (x : Lane) : (s.setLane l x).lastCkpt = s.lastCkpt := rfl
@[simp] theorem State.setLane_free (l : Nat) (x : Lane) : (s.setLane l x).free = s.free := rfl
@[simp] theorem State.setLane_out (l : Nat) (x : Lane) : (s.setLane l x).out = s.out := rfl
@[simp] theorem State.setLane_pending (l : Nat) (x : Lane) : (s.setLane l x).pending = s.pending := rfl

@[simp] theorem State.setEngine_regs (e : Nat) (x : Engine) : (s.setEngine e x).regs = s.regs := rfl
@[simp] theorem State.setEngine_force (e : Nat) (x : Engine) : (s.setEngine e x).force = s.force := rfl
@[simp] theorem State.setEngine_held (e : Nat) (x : Engine) : (s.setEngine e x).held = s.held := rfl
@[simp] theorem State.setEngine_captured (e : Nat) (x : Engine) : (s.setEngine e x).captured = s.captured := rfl
@[simp] theorem State.setEngine_log (e : Nat) (x : Engine) : (s.setEngine e x).log = s.log := rfl
@[simp] theorem State.setEngine_audit (e : Nat) (x : Engine) : (s.setEngine e x).audit = s.audit := rfl
@[simp] theorem State.setEngine_power (e : Nat) (x : Engine) : (s.setEngine e x).power = s.power := rfl
@[simp] theorem State.setEngine_booted (e : Nat) (x : Engine) : (s.setEngine e x).booted = s.booted := rfl
@[simp] theorem State.setEngine_phase (e : Nat) (x : Engine) : (s.setEngine e x).phase = s.phase := rfl
@[simp] theorem State.setEngine_nightReady (e : Nat) (x : Engine) : (s.setEngine e x).nightReady = s.nightReady := rfl
@[simp] theorem State.setEngine_rails (e : Nat) (x : Engine) : (s.setEngine e x).rails = s.rails := rfl
@[simp] theorem State.setEngine_beamOff (e : Nat) (x : Engine) : (s.setEngine e x).beamOff = s.beamOff := rfl
@[simp] theorem State.setEngine_fatal (e : Nat) (x : Engine) : (s.setEngine e x).fatal = s.fatal := rfl
@[simp] theorem State.setEngine_host (e : Nat) (x : Engine) : (s.setEngine e x).host = s.host := rfl
@[simp] theorem State.setEngine_job0 (e : Nat) (x : Engine) : (s.setEngine e x).job0 = s.job0 := rfl
@[simp] theorem State.setEngine_job1 (e : Nat) (x : Engine) : (s.setEngine e x).job1 = s.job1 := rfl
@[simp] theorem State.setEngine_curSlot (e : Nat) (x : Engine) : (s.setEngine e x).curSlot = s.curSlot := rfl
@[simp] theorem State.setEngine_jobOrd (e : Nat) (x : Engine) : (s.setEngine e x).jobOrd = s.jobOrd := rfl
@[simp] theorem State.setEngine_frames (e : Nat) (x : Engine) : (s.setEngine e x).frames = s.frames := rfl
@[simp] theorem State.setEngine_sealCtr (e : Nat) (x : Engine) : (s.setEngine e x).sealCtr = s.sealCtr := rfl
@[simp] theorem State.setEngine_ctxs (e : Nat) (x : Engine) : (s.setEngine e x).ctxs = s.ctxs := rfl
@[simp] theorem State.setEngine_codecEng (e : Nat) (x : Engine) : (s.setEngine e x).codecEng = s.codecEng := rfl
@[simp] theorem State.setEngine_stripes (e : Nat) (x : Engine) : (s.setEngine e x).stripes = s.stripes := rfl
@[simp] theorem State.setEngine_stripeOrd (e : Nat) (x : Engine) : (s.setEngine e x).stripeOrd = s.stripeOrd := rfl
@[simp] theorem State.setEngine_dtabs (e : Nat) (x : Engine) : (s.setEngine e x).dtabs = s.dtabs := rfl
@[simp] theorem State.setEngine_dnext (e : Nat) (x : Engine) : (s.setEngine e x).dnext = s.dnext := rfl
@[simp] theorem State.setEngine_strayHeld (e : Nat) (x : Engine) : (s.setEngine e x).strayHeld = s.strayHeld := rfl
@[simp] theorem State.setEngine_strayPend (e : Nat) (x : Engine) : (s.setEngine e x).strayPend = s.strayPend := rfl
@[simp] theorem State.setEngine_caps (e : Nat) (x : Engine) : (s.setEngine e x).caps = s.caps := rfl
@[simp] theorem State.setEngine_capsNext (e : Nat) (x : Engine) : (s.setEngine e x).capsNext = s.capsNext := rfl
@[simp] theorem State.setEngine_field (e : Nat) (x : Engine) : (s.setEngine e x).field = s.field := rfl
@[simp] theorem State.setEngine_tileCrcs (e : Nat) (x : Engine) : (s.setEngine e x).tileCrcs = s.tileCrcs := rfl
@[simp] theorem State.setEngine_density (e : Nat) (x : Engine) : (s.setEngine e x).density = s.density := rfl
@[simp] theorem State.setEngine_factor (e : Nat) (x : Engine) : (s.setEngine e x).factor = s.factor := rfl
@[simp] theorem State.setEngine_mapBands (e : Nat) (x : Engine) : (s.setEngine e x).mapBands = s.mapBands := rfl
@[simp] theorem State.setEngine_factorCrcs (e : Nat) (x : Engine) : (s.setEngine e x).factorCrcs = s.factorCrcs := rfl
@[simp] theorem State.setEngine_ckptUnits (e : Nat) (x : Engine) : (s.setEngine e x).ckptUnits = s.ckptUnits := rfl
@[simp] theorem State.setEngine_ckpts (e : Nat) (x : Engine) : (s.setEngine e x).ckpts = s.ckpts := rfl
@[simp] theorem State.setEngine_staging (e : Nat) (x : Engine) : (s.setEngine e x).staging = s.staging := rfl
@[simp] theorem State.setEngine_tally (e : Nat) (x : Engine) : (s.setEngine e x).tally = s.tally := rfl
@[simp] theorem State.setEngine_hold (e : Nat) (x : Engine) : (s.setEngine e x).hold = s.hold := rfl
@[simp] theorem State.setEngine_flink (e : Nat) (x : Engine) : (s.setEngine e x).flink = s.flink := rfl
@[simp] theorem State.setEngine_drover (e : Nat) (x : Engine) : (s.setEngine e x).drover = s.drover := rfl
@[simp] theorem State.setEngine_profile (e : Nat) (x : Engine) : (s.setEngine e x).profile = s.profile := rfl
@[simp] theorem State.setEngine_sensors (e : Nat) (x : Engine) : (s.setEngine e x).sensors = s.sensors := rfl
@[simp] theorem State.setEngine_tclasses (e : Nat) (x : Engine) : (s.setEngine e x).tclasses = s.tclasses := rfl
@[simp] theorem State.setEngine_drams (e : Nat) (x : Engine) : (s.setEngine e x).drams = s.drams := rfl
@[simp] theorem State.setEngine_ranks (e : Nat) (x : Engine) : (s.setEngine e x).ranks = s.ranks := rfl
@[simp] theorem State.setEngine_sram (e : Nat) (x : Engine) : (s.setEngine e x).sram = s.sram := rfl
@[simp] theorem State.setEngine_bells (e : Nat) (x : Engine) : (s.setEngine e x).bells = s.bells := rfl
@[simp] theorem State.setEngine_bellDead (e : Nat) (x : Engine) : (s.setEngine e x).bellDead = s.bellDead := rfl
@[simp] theorem State.setEngine_bellPending (e : Nat) (x : Engine) : (s.setEngine e x).bellPending = s.bellPending := rfl
@[simp] theorem State.setEngine_keep (e : Nat) (x : Engine) : (s.setEngine e x).keep = s.keep := rfl
@[simp] theorem State.setEngine_keepWait (e : Nat) (x : Engine) : (s.setEngine e x).keepWait = s.keepWait := rfl
@[simp] theorem State.setEngine_keepOld (e : Nat) (x : Engine) : (s.setEngine e x).keepOld = s.keepOld := rfl
@[simp] theorem State.setEngine_keepHeld (e : Nat) (x : Engine) : (s.setEngine e x).keepHeld = s.keepHeld := rfl
@[simp] theorem State.setEngine_dieBand (e : Nat) (x : Engine) : (s.setEngine e x).dieBand = s.dieBand := rfl
@[simp] theorem State.setEngine_age (e : Nat) (x : Engine) : (s.setEngine e x).age = s.age := rfl
@[simp] theorem State.setEngine_fold (e : Nat) (x : Engine) : (s.setEngine e x).fold = s.fold := rfl
@[simp] theorem State.setEngine_clock (e : Nat) (x : Engine) : (s.setEngine e x).clock = s.clock := rfl
@[simp] theorem State.setEngine_ivdon (e : Nat) (x : Engine) : (s.setEngine e x).ivdon = s.ivdon := rfl
@[simp] theorem State.setEngine_trace (e : Nat) (x : Engine) : (s.setEngine e x).trace = s.trace := rfl
@[simp] theorem State.setEngine_gpioHigh (e : Nat) (x : Engine) : (s.setEngine e x).gpioHigh = s.gpioHigh := rfl
@[simp] theorem State.setEngine_lastCkpt (e : Nat) (x : Engine) : (s.setEngine e x).lastCkpt = s.lastCkpt := rfl
@[simp] theorem State.setEngine_free (e : Nat) (x : Engine) : (s.setEngine e x).free = s.free := rfl
@[simp] theorem State.setEngine_out (e : Nat) (x : Engine) : (s.setEngine e x).out = s.out := rfl
@[simp] theorem State.setEngine_pending (e : Nat) (x : Engine) : (s.setEngine e x).pending = s.pending := rfl

end Sys2Proof.Machine
end

