-- ==== Sys2Proof/Laws/Regs.lean ====
section
/-! SUPPORT. Registers: a read after a write, of the whole and of a field, and what a write that is discarded leaves. -/

namespace Sys2Proof.Machine

variable {s : State}

/-- A register read after a write of any register. -/
theorem rd_wr (a b v : Nat) : (s.wr a v).rd b = if a = b then v % 2 ^ 32 else s.rd b := by
  unfold State.rd State.wr
  rw [kget_kset]
  by_cases h : a = b
  · simp [h, BitVec.toNat_ofNat]
  · simp [h]

theorem rd_wr_same (a v : Nat) (hv : v < 2 ^ 32) : (s.wr a v).rd a = v := by
  rw [rd_wr, if_pos rfl, Nat.mod_eq_of_lt hv]

theorem rd_wr_other {a b : Nat} (v : Nat) (h : a ≠ b) : (s.wr a v).rd b = s.rd b := by
  rw [rd_wr, if_neg h]

theorem rd_lt (a : RegAddr) : s.rd a < 2 ^ 32 := BitVec.isLt _

/-- What leaves the block changes no register. -/
@[simp] theorem rd_emit (x : Out) (a : RegAddr) : (s.emit x).rd a = s.rd a := rfl

/-- A field set elsewhere in the register file. -/
theorem rd_setFld_other {a b : Nat} (hi lo x : Nat) (h : a ≠ b) :
    (s.setFld a hi lo x).rd b = s.rd b := rd_wr_other _ h

theorem fld_setFld_other {a b : Nat} (hi lo x hi' lo' : Nat) (h : a ≠ b) :
    (s.setFld a hi lo x).fld b hi' lo' = s.fld b hi' lo' := by
  unfold State.fld
  rw [rd_setFld_other _ _ _ h]

/-- A trace record changes no register. -/
@[simp] theorem rd_traceRec (p k c : Nat) (d : List Nat) (a : RegAddr) : (s.traceRec p k c d).rd a = s.rd a := by
  unfold State.traceRec
  split <;> rfl

/-- Nothing is written without power, before the power-up sequence has run, or after a device-fatal event (R485, R505). -/
theorem admit_off (o : Origin) (a v : Nat) (h : s.power = .night ∨ s.booted = false) : s.permit o a v = .error s := by
  unfold State.permit
  rcases h with h | h <;> simp [h]

theorem admit_fatal (o : Origin) (a v : Nat) (hf : s.fatal ≠ 0) (ha : a ≠ R.SYS_DEVICE_RESET) : s.permit o a v = .error s := by
  unfold State.permit
  by_cases h : s.power = .night ∨ (!s.booted) = true ∨ (!s.fold.fwRuns) = true ∧ o ≠ .firmware <;> simp [h, hf, ha]

end Sys2Proof.Machine
end

