-- ==== Sys2Proof/Laws/Logged.lean ====
section
/-! SUPPORT. What an error record adds to the log, and which registers it changes (R459 to R465, R620). -/

namespace Sys2Proof.Machine

variable {s : State}

theorem recordRaw_room (a : RecArg) (h : 256 < s.logFree) : s.recordRaw a = s.writeRec a := by
  unfold State.recordRaw
  dsimp only
  rw [if_neg (by omega), if_neg (by omega)]

theorem log_writeRec (s : State) (a : RecArg) : (s.writeRec a).log =
    { s.log with recs := (s.mkRec a :: s.log.recs).take 16384, nextSeq := s.log.nextSeq + 1, used := s.log.used + 1 } := by
  unfold State.writeRec
  dsimp only
  have hl : (s.logRec (s.mkRec a)).log =
      { s.log with recs := (s.mkRec a :: s.log.recs).take 16384, nextSeq := s.log.nextSeq + 1, used := s.log.used + 1 } := rfl
  have tail : ∀ u : State, Only 78398662313265594369 u (if a.cls ≥ 2 ∧ a.cls ≤ 4 then
      (((((u.pageErr a.page (s.mkRec a).seq (s.mkRec a).code).traceRec a.page 1 (s.mkRec a).code
        [(s.mkRec a).seq, (s.mkRec a).loc0, (s.mkRec a).loc1, (s.mkRec a).loc2]).traceTrigger a.code).raiseIrq a.page 31).raiseIrq 0 0)
      else ((((u.pageErr a.page (s.mkRec a).seq (s.mkRec a).code).traceRec a.page 1 (s.mkRec a).code
        [(s.mkRec a).seq, (s.mkRec a).loc0, (s.mkRec a).loc1, (s.mkRec a).loc2]).traceTrigger a.code).raiseIrq a.page 31)) := by
    intro u
    have h := only_raiseIrq (s0 := u) (mm := 78398662313265594369) a.page 31 rfl (only_traceTrigger a.code rfl (only_traceRec a.page 1
      (s.mkRec a).code [(s.mkRec a).seq, (s.mkRec a).loc0, (s.mkRec a).loc1, (s.mkRec a).loc2] rfl
      (only_pageErr a.page (s.mkRec a).seq (s.mkRec a).code rfl (only_refl _ u))))
    exact only_ite (only_raiseIrq _ _ rfl h) h
  rw [(tail _).log rfl]
  cases a.cmd <;> exact hl

/-- With room in the log a record is its newest. -/
theorem newest_recordRaw (a : RecArg) (h : 256 < s.logFree) : (s.recordRaw a).newest a.code a.cls a.lk a.l0 a.l1 a.l2 := by
  rw [recordRaw_room a h]
  refine ⟨s.mkRec a, ?_, rfl, rfl, rfl, rfl, rfl, rfl⟩
  rw [log_writeRec]
  rfl

/-- With more than 256 entries free a record contains nothing. -/
theorem record_room (a : RecArg) (h : 256 < s.logFree) : s.record a = s.recordRaw a := by
  unfold State.record
  dsimp only
  rw [if_neg]
  intro hc
  have hu : (s.recordRaw a).logFree = 16384 - (s.log.used + 1) := by
    unfold State.logFree
    rw [recordRaw_room a h, log_writeRec]
  have := hc.1
  unfold State.logFree at h
  omega

/-! Registers. -/

/-- Every register outside a list reads as in another state. -/
def RegsOff (l : List RegAddr) (s t : State) : Prop := ∀ a, a ∉ l → t.rd a = s.rd a

theorem regsOff_refl (l : List RegAddr) (s : State) : RegsOff l s s := fun _ _ => rfl

theorem regsOff_wr {l : List RegAddr} {s t : State} (a v : Nat) (ha : a ∈ l) (h : RegsOff l s t) : RegsOff l s (t.wr a v) := by
  intro b hb
  have e : a ≠ b := fun e => hb (by rw [← e]; exact ha)
  rw [rd_wr_other v e]
  exact h b hb

theorem regsOff_regs {l : List RegAddr} {s t u : State} (e : u.regs = t.regs) (h : RegsOff l s t) : RegsOff l s u := by
  intro b hb
  rw [← h b hb]
  unfold State.rd
  rw [e]

theorem regsOff_setFld {l : List RegAddr} {s t : State} (a hi lo x : Nat) (ha : a ∈ l) (h : RegsOff l s t) :
    RegsOff l s (t.setFld a hi lo x) := regsOff_wr _ _ ha h

theorem regsOff_raiseIrq {l : List RegAddr} {s t : State} (p bit : Nat) (h1 : p * 0x1000 + 0x10 ∈ l) (h2 : p * 0x1000 + 0x18 ∈ l)
    (h : RegsOff l s t) : RegsOff l s (t.raiseIrq p bit) := by
  unfold State.raiseIrq
  dsimp only
  split
  · exact h
  · unfold State.signalPage
    dsimp only
    split
    · exact regsOff_regs rfl (regsOff_setFld _ _ _ _ h2 (regsOff_setFld _ _ _ _ h1 h))
    · exact regsOff_setFld _ _ _ _ h2 (regsOff_setFld _ _ _ _ h1 h)

theorem regsOff_traceRec {l : List RegAddr} {s t : State} (p k c : Nat) (d : List Nat) (h : RegsOff l s t) :
    RegsOff l s (t.traceRec p k c d) := regsOff_regs (by unfold State.traceRec; split <;> rfl) h

theorem regsOff_traced {l : List RegAddr} {s t u : State} (p : Nat) (h : RegsOff l s t) : RegsOff l s (State.traced p u t) := by
  unfold State.traced
  split
  · exact h
  · exact regsOff_traceRec _ _ _ _ h

theorem regsOff_writeRec {l : List RegAddr} {s t : State} (a : RecArg) (hl : ∀ b ∈ recordRegs a.page, b ∈ l) (h : RegsOff l s t) :
    RegsOff l s (t.writeRec a) := by
  unfold State.writeRec
  dsimp only
  have m : ∀ b, b ∈ recordRegs a.page → b ∈ l := hl
  have h0 : RegsOff l s (t.logRec (t.mkRec a)) := by
    unfold State.logRec State.wr64
    dsimp only
    refine regsOff_wr _ _ (m _ (by simp [recordRegs, R.SYS_ERRLOG_SEQ_L, R.SYS_ERRLOG_SEQ_H])) (regsOff_wr _ _ (m _ (by simp [recordRegs]))
      (regsOff_wr _ _ (m _ (by simp [recordRegs])) (regsOff_setFld _ _ _ _ (m _ (by simp [recordRegs])) (regsOff_regs rfl h))))
  have hend : ∀ u : State, RegsOff l s u → RegsOff l s (if a.cls ≥ 2 ∧ a.cls ≤ 4 then
      (((((u.pageErr a.page (t.mkRec a).seq (t.mkRec a).code).traceRec a.page 1 (t.mkRec a).code
        [(t.mkRec a).seq, (t.mkRec a).loc0, (t.mkRec a).loc1, (t.mkRec a).loc2]).traceTrigger a.code).raiseIrq a.page 31).raiseIrq 0 0)
      else ((((u.pageErr a.page (t.mkRec a).seq (t.mkRec a).code).traceRec a.page 1 (t.mkRec a).code
        [(t.mkRec a).seq, (t.mkRec a).loc0, (t.mkRec a).loc1, (t.mkRec a).loc2]).traceTrigger a.code).raiseIrq a.page 31)) := by
    intro u h1
    have h2 : RegsOff l s (u.pageErr a.page (t.mkRec a).seq (t.mkRec a).code) := by
      unfold State.pageErr
      dsimp only
      refine regsOff_traced _ (regsOff_setFld _ _ _ _ (m _ (by simp [recordRegs])) ?_)
      split
      · exact regsOff_wr _ _ (m _ (by simp [recordRegs])) h1
      · exact h1
    have h3 : RegsOff l s ((((u.pageErr a.page (t.mkRec a).seq (t.mkRec a).code).traceRec a.page 1 (t.mkRec a).code
        [(t.mkRec a).seq, (t.mkRec a).loc0, (t.mkRec a).loc1, (t.mkRec a).loc2]).traceTrigger a.code).raiseIrq a.page 31) := by
      refine regsOff_raiseIrq _ _ (m _ (by simp [recordRegs])) (m _ (by simp [recordRegs])) ?_
      exact regsOff_regs (by unfold State.traceTrigger; split <;> rfl) (regsOff_traceRec _ _ _ _ h2)
    split
    · exact regsOff_raiseIrq _ _ (m _ (by simp [recordRegs])) (m _ (by simp [recordRegs])) h3
    · exact h3
  refine hend _ ?_
  split
  · exact h0
  · exact regsOff_regs rfl h0

/-- A record on page 0 changes none but the registers that any record may change. -/
theorem recordRegs_zero (p : Nat) {b : RegAddr} (h : b ∈ recordRegs 0) : b ∈ recordRegs p := by
  simp only [recordRegs, Nat.zero_mul, Nat.zero_add, List.mem_cons, List.not_mem_nil, or_false] at h ⊢
  rcases h with h | h | h | h | h <;> simp [h]

/-- The registers that a record may change (R459, R461, R465, R620). -/
theorem regsOff_recordRaw {l : List RegAddr} {s t : State} (a : RecArg) (hl : ∀ b ∈ recordRegs a.page, b ∈ l) (h : RegsOff l s t) :
    RegsOff l s (t.recordRaw a) := by
  have hc : RegsOff l s (t.countOnly a.page) := by
    unfold State.countOnly
    exact regsOff_setFld _ _ _ _ (hl _ (by simp [recordRegs])) (regsOff_traced _ (regsOff_setFld _ _ _ _ (hl _ (by simp [recordRegs])) h))
  unfold State.recordRaw
  dsimp only
  split
  · split
    · exact hc
    · refine regsOff_raiseIrq 0 _ (hl _ (by simp [recordRegs])) (hl _ (by simp [recordRegs])) (regsOff_writeRec _ ?_ (regsOff_regs rfl hc))
      intro b hb
      exact hl b (recordRegs_zero _ hb)
  · split
    · exact hc
    · exact regsOff_writeRec a hl h

end Sys2Proof.Machine
end

