-- ==== Sys2Proof/Laws/OnlyRegs.lean ====
section
/-! SUPPORT. What each operation of Machine/Regs.lean may change of the state. -/

set_option linter.unusedVariables false
set_option linter.tactic.unusedName false

namespace Sys2Proof.Machine

variable {mm : Nat} {s0 : State}

theorem only_refuse {s : State} (o : Origin) (code : Nat) (a : RegAddr) (v : Nat) (det : Option Nat) (hm : sub 117598008931784859665 mm = true) (hs : Only mm s0 s) :
    Only mm s0 (State.refuse s o code a v det) := by
  unfold State.refuse
  repeat' first
    | (with_reducible first | assumption | apply only_record)
    | exact sub_trans rfl hm

theorem only_permit_ok {s t : State} {o : Origin} {a : RegAddr} {v : Nat} (h : Only mm s0 s) (e : s.permit o a v = .ok t) :
    Only mm s0 t := by
  revert e
  unfold State.permit
  repeat' first
    | (intro e; injection e with e; rw [← e]; exact h)
    | (intro e; cases e)
    | split
theorem only_permit_error {s t : State} {o : Origin} {a : RegAddr} {v : Nat} (hm : sub 117598008931784859665 mm = true) (h : Only mm s0 s)
    (e : s.permit o a v = .error t) : Only mm s0 t := by
  revert e
  unfold State.permit
  repeat' first
    | (intro e; cases e; done)
    | (intro e; cases e; exact h)
    | (intro e; injection e with e; rw [← e]; exact only_refuse _ _ _ _ _ (sub_trans rfl hm) h)
    | split

theorem only_change {s : State} (o : Origin) (a : RegAddr) (old : Nat) (new : Nat) {put : State → State} (hm : sub 117598571881738281009 mm = true) (hs : Only mm s0 s) (hput : ∀ t, Only mm s0 t → Only mm s0 (put t)) :
    Only mm s0 (State.change s o a old new put) := by
  unfold State.change
  repeat' first
    | (with_reducible first | assumption | apply only_ite | apply hput | apply only_traceRec | apply only_refuse | apply only_countFull)
    | (with_reducible first | apply only_commit)
    | exact sub_trans rfl hm
    | split

theorem only_setReg {s : State} (o : Origin) (a : RegAddr) (new : Nat) (hm : sub 117598571881738281009 mm = true) (hs : Only mm s0 s) :
    Only mm s0 (State.setReg s o a new) := by
  unfold State.setReg
  repeat' first
    | (with_reducible first | assumption | apply only_change | apply only_wr)
    | exact sub_trans rfl hm
    | (intro _; intros; try dsimp only)

theorem only_hold1 {s : State} (o : Origin) (a : RegAddr) (v : Nat) (hm : sub 4 mm = true) (hs : Only mm s0 s) :
    Only mm s0 (State.hold1 s o a v) := by
  unfold State.hold1
  try dsimp only
  repeat' first
    | (with_reducible first | assumption)
    | exact sub_trans rfl hm
    | with_reducible apply only_put4

theorem only_dropHeld {s : State} (o : Origin) (g : List RegAddr) (hm : sub 4 mm = true) (hs : Only mm s0 s) :
    Only mm s0 (State.dropHeld s o g) := by
  unfold State.dropHeld
  try dsimp only
  repeat' first
    | (with_reducible first | assumption | apply only_foldl)
    | exact sub_trans rfl hm
    | (intro _; intros; try dsimp only)
    | with_reducible apply only_put4

theorem only_commitGroup {s : State} (o : Origin) (g : List RegAddr) (a : RegAddr) (v : Nat) (hm : sub 117598571881738281013 mm = true) (hs : Only mm s0 s) :
    Only mm s0 (State.commitGroup s o g a v) := by
  unfold State.commitGroup
  try dsimp only
  repeat' first
    | (with_reducible first | assumption | apply only_ite | apply only_setReg | apply only_dropHeld | apply only_refuse | apply only_countFull)
    | (with_reducible first | apply only_foldl)
    | exact sub_trans rfl hm
    | (intro _; intros; try dsimp only)
    | split

theorem only_applyWrite {s : State} (o : Origin) (a : RegAddr) (v : Nat) (hm : sub 117598571881738281013 mm = true) (hs : Only mm s0 s) :
    Only mm s0 (State.applyWrite s o a v) := by
  unfold State.applyWrite
  try dsimp only
  repeat' first
    | (with_reducible first | assumption | apply only_ite | apply only_setReg | apply only_commitGroup | apply only_hold1)
    | exact sub_trans rfl hm
    | split

theorem only_act {s : State} (o : Origin) (a : RegAddr) (v : Nat) {effect : State → State} (hm : sub 117598008931784859665 mm = true) (hs : Only mm s0 s) (heffect : ∀ t, Only mm s0 t → Only mm s0 (effect t)) :
    Only mm s0 (State.act s o a v effect) := by
  unfold State.act
  try dsimp only
  repeat' first
    | (with_reducible first | assumption | apply heffect | apply only_traceRec)
    | exact sub_trans rfl hm
    | (refine only_permit_ok (h := ?_) (e := by assumption))
    | (refine only_permit_error (hm := ?_) (h := ?_) (e := by assumption))
    | split

end Sys2Proof.Machine
end

