-- ==== Sys2Proof/Laws/OnlySram.lean ====
section
/-! SUPPORT. What each operation of Machine/Sram.lean may change of the state. -/

set_option linter.unusedVariables false
set_option linter.tactic.unusedName false

namespace Sys2Proof.Machine

variable {mm : Nat} {s0 : State}

theorem only_setHurdle {s : State} (line : Nat) (hm : sub 118312673897653268529 mm = true) (hs : Only mm s0 s) :
    Only mm s0 (State.setHurdle s line) := by
  unfold State.setHurdle
  try dsimp only
  repeat' first
    | (with_reducible first | assumption | apply only_putKeep | apply only_writeBell | apply only_record)
    | exact sub_trans rfl hm
    | with_reducible apply only_put281474976710656

theorem only_recordFence {s : State} (i : Nat) (f : FenceE) (hm : sub 117733679870559395889 mm = true) (hs : Only mm s0 s) :
    Only mm s0 (State.recordFence s i f) := by
  unfold State.recordFence
  try dsimp only
  repeat' first
    | (with_reducible first | assumption | apply only_putKeep | apply only_commit | apply only_record)
    | exact sub_trans rfl hm

theorem only_setFence {s : State} (block : Nat) (hm : sub 117733961345536106545 mm = true) (hs : Only mm s0 s) :
    Only mm s0 (State.setFence s block) := by
  unfold State.setFence
  try dsimp only
  repeat' first
    | (with_reducible first | assumption | apply only_ite | apply only_recordFence)
    | exact sub_trans rfl hm
    | (intro _; intros; try dsimp only)
    | with_reducible apply only_put281474976710656
    | split

theorem only_moveBlock {s : State} (block : Nat) (hm : sub 281474976710656 mm = true) (hs : Only mm s0 s) :
    Only mm s0 (State.moveBlock s block) := by
  unfold State.moveBlock
  try dsimp only
  repeat' first
    | (with_reducible first | assumption | apply only_ite)
    | exact sub_trans rfl hm
    | (intro _; intros; try dsimp only)
    | with_reducible apply only_put281474976710656
    | split

theorem only_leaveLine {s : State} (line : Nat) (hm : sub 117598290406761570321 mm = true) (hs : Only mm s0 s) :
    Only mm s0 (State.leaveLine s line) := by
  unfold State.leaveLine
  try dsimp only
  repeat' first
    | (with_reducible first | assumption | apply only_ite | apply only_wr | apply only_record)
    | exact sub_trans rfl hm
    | with_reducible apply only_put281474976710656
    | split

theorem only_repairLine {s : State} (line : Nat) (hm : sub 118312673897653268529 mm = true) (hs : Only mm s0 s) :
    Only mm s0 (State.repairLine s line) := by
  unfold State.repairLine
  try dsimp only
  repeat' first
    | (with_reducible first | assumption | apply only_ite | apply only_setHurdle | apply only_setFence | apply only_leaveLine)
    | (with_reducible first | apply only_moveBlock)
    | exact sub_trans rfl hm
    | split

theorem only_retireHurdle {s : State} (i : Nat) (line : Nat) (hm : sub 118312673897653268529 mm = true) (hs : Only mm s0 s) :
    Only mm s0 (State.retireHurdle s i line) := by
  unfold State.retireHurdle
  try dsimp only
  repeat' first
    | (with_reducible first | assumption | apply only_ite | apply only_putKeep | apply only_writeBell | apply only_record)
    | exact sub_trans rfl hm
    | (intro _; intros; try dsimp only)
    | with_reducible apply only_put281474976710656
    | split

theorem only_judgeLine {s : State} (line : Nat) (hm : sub 118312673897653268529 mm = true) (hs : Only mm s0 s) :
    Only mm s0 (State.judgeLine s line) := by
  unfold State.judgeLine
  try dsimp only
  repeat' first
    | (with_reducible first | assumption | apply only_record | apply only_retireHurdle | apply only_repairLine)
    | exact sub_trans rfl hm
    | split

theorem only_loseLine {s : State} (line : Nat) (hm : sub 117598571881738281009 mm = true) (hs : Only mm s0 s) :
    Only mm s0 (State.loseLine s line) := by
  unfold State.loseLine
  try dsimp only
  repeat' first
    | (with_reducible first | assumption | apply only_ite | apply only_record | apply only_commit | apply only_foldl)
    | exact sub_trans rfl hm
    | (intro _; intros; try dsimp only)
    | split
    | with_reducible apply only_put4611686018427387904

theorem only_sramErr {s : State} (e : SramErr) (hm : sub 118312673897653268529 mm = true) (hs : Only mm s0 s) :
    Only mm s0 (State.sramErr s e) := by
  unfold State.sramErr
  try dsimp only
  repeat' first
    | (with_reducible first | assumption | apply only_ite | apply only_wr | apply only_inc | apply only_record | apply only_loseLine)
    | (with_reducible first | apply only_take | apply only_judgeLine)
    | exact sub_trans rfl hm
    | (intro _; intros; try dsimp only)
    | with_reducible apply only_put281474976710656
    | split

theorem only_sramErrs {s : State} (l : List SramErr) (hm : sub 118312673897653268529 mm = true) (hs : Only mm s0 s) :
    Only mm s0 (State.sramErrs s l) := by
  unfold State.sramErrs
  repeat' first
    | (with_reducible first | assumption | apply only_sramErr | apply only_foldl)
    | exact sub_trans rfl hm
    | (intro _; intros; try dsimp only)

theorem only_startFill {s : State} (o : Origin) (v : Nat) (hm : sub 117598853356714991665 mm = true) (hs : Only mm s0 s) :
    Only mm s0 (State.startFill s o v) := by
  unfold State.startFill
  try dsimp only
  repeat' first
    | (with_reducible first | assumption | apply only_ite | apply only_setReg | apply only_refuse | apply only_setFld)
    | exact sub_trans rfl hm
    | (intro _; intros; try dsimp only)
    | with_reducible apply only_put281474976710656
    | split

theorem only_execFill (o : Origin) (v : Nat) {s : State} (hm : sub 117598853356714991665 mm = true) (hs : Only mm s0 s) :
    OnlyOut mm s0 (execFill o v s) := by
  unfold execFill
  try dsimp only
  repeat' first
    | (with_reducible first | assumption | exact trivial | apply onlyOut_next | apply onlyOut_ite | apply only_ite | apply only_refuse)
    | (with_reducible first | apply only_startFill)
    | exact sub_trans rfl hm
    | (refine only_permit_ok (h := ?_) (e := by assumption))
    | (refine only_permit_error (hm := ?_) (h := ?_) (e := by assumption))
    | split

theorem only_clearRegion {s : State} (g : Nat) (hm : sub 4611687943429472288 mm = true) (hs : Only mm s0 s) :
    Only mm s0 (State.clearRegion s g) := by
  unfold State.clearRegion
  try dsimp only
  repeat' first
    | (with_reducible first | assumption | apply only_modJob)
    | exact sub_trans rfl hm
    | (intro _; intros; try dsimp only)
    | split
    | with_reducible apply only_put32
    | with_reducible apply only_put1048576
    | with_reducible apply only_put50331648
    | with_reducible apply only_put805306368
    | with_reducible apply only_put549755813888
    | with_reducible apply only_put1374389534720
    | with_reducible apply only_put4611686018427387904
    | with_reducible apply only_put4611687943429423136

theorem only_mapsAnew {s : State} (hm : sub 135956811797757985 mm = true) (hs : Only mm s0 s) :
    Only mm s0 (State.mapsAnew s) := by
  unfold State.mapsAnew
  try dsimp only
  repeat' first
    | (with_reducible first | assumption | apply only_ite | apply only_putKeep)
    | exact sub_trans rfl hm
    | with_reducible apply only_put281474976710656
    | split

theorem only_execFillDone (bad : List Nat) {s : State} (hm : sub 118312675822655303729 mm = true) (hs : Only mm s0 s) :
    OnlyOut mm s0 (execFillDone bad s) := by
  unfold execFillDone
  try dsimp only
  repeat' first
    | (with_reducible first | assumption | exact trivial | apply onlyOut_next | apply onlyOut_ite | apply only_ite | apply only_judgeLine)
    | (with_reducible first | apply only_clearRegion | apply only_mapsAnew | apply only_setFld | apply only_foldl)
    | exact sub_trans rfl hm
    | (intro _; intros; try dsimp only)
    | with_reducible apply only_put281474976710656
    | split

theorem only_execFenceMoveDone {s : State} (hm : sub 117733961345536106545 mm = true) (hs : Only mm s0 s) :
    OnlyOut mm s0 (execFenceMoveDone s) := by
  unfold execFenceMoveDone
  try dsimp only
  repeat' first
    | (with_reducible first | assumption | exact trivial | apply onlyOut_next | apply onlyOut_ite | apply only_ite | apply only_recordFence)
    | exact sub_trans rfl hm
    | (intro _; intros; try dsimp only)
    | split
    | with_reducible apply only_put281474976710656

theorem only_fencesAtBoundary {s : State} (hm : sub 281474976710656 mm = true) (hs : Only mm s0 s) :
    Only mm s0 (State.fencesAtBoundary s) := by
  unfold State.fencesAtBoundary
  try dsimp only
  repeat' first
    | (with_reducible first | assumption | apply only_ite)
    | exact sub_trans rfl hm
    | (intro _; intros; try dsimp only)
    | with_reducible apply only_put281474976710656
    | split

theorem only_fencesAtEnable {s : State} (hm : sub 281474976710656 mm = true) (hs : Only mm s0 s) :
    Only mm s0 (State.fencesAtEnable s) := by
  unfold State.fencesAtEnable
  try dsimp only
  repeat' first
    | (with_reducible first | assumption | apply only_ite)
    | exact sub_trans rfl hm
    | (intro _; intros; try dsimp only)
    | with_reducible apply only_put281474976710656
    | split

theorem only_voteWord {s : State} (n : Nat) (copies : List (BitVec 64 × BitVec 8)) (hm : sub 118238083028824944689 mm = true) (hs : Only mm s0 s) :
    Only mm s0 (State.voteWord s n copies) := by
  unfold State.voteWord
  try dsimp only
  repeat' first
    | (with_reducible first | assumption | apply only_ite | apply only_deviceFatal | apply only_putBell | apply only_commit | apply only_bump)
    | (with_reducible first | apply only_record)
    | exact sub_trans rfl hm
    | split

theorem only_voteAll {s : State} (found : List (Nat × List (BitVec 64 × BitVec 8))) (hm : sub 118238083028824944689 mm = true) (hs : Only mm s0 s) :
    Only mm s0 (State.voteAll s found) := by
  unfold State.voteAll
  try dsimp only
  repeat' first
    | (with_reducible first | assumption | apply only_ite | apply only_voteWord | apply only_foldl)
    | exact sub_trans rfl hm
    | (intro _; intros; try dsimp only)
    | split

theorem only_execBellVote (found : List (Nat × List (BitVec 64 × BitVec 8))) (stuck : List (Nat × Nat)) {s : State} (hm : sub 118239208928731787313 mm = true) (hs : Only mm s0 s) :
    OnlyOut mm s0 (execBellVote found stuck s) := by
  unfold execBellVote
  try dsimp only
  repeat' first
    | (with_reducible first | assumption | exact trivial | apply onlyOut_next | apply onlyOut_ite | apply only_ite | apply only_voteAll)
    | exact sub_trans rfl hm
    | (intro _; intros; try dsimp only)
    | with_reducible apply only_put1125899906842624
    | split

end Sys2Proof.Machine
end

