-- ==== Sys2Proof/Laws/OnlyKeep.lean ====
section
/-! SUPPORT. What each operation of Machine/Keep.lean may change of the state. -/

set_option linter.unusedVariables false
set_option linter.tactic.unusedName false

namespace Sys2Proof.Machine

variable {mm : Nat} {s0 : State}

theorem only_showAge {s : State} (hm : sub 1 mm = true) (hs : Only mm s0 s) :
    Only mm s0 (State.showAge s) := by
  unfold State.showAge
  try dsimp only
  repeat' first
    | (with_reducible first | assumption | apply only_wr64 | apply only_setFld | apply only_wr | apply only_foldl)
    | exact sub_trans rfl hm
    | (intro _; intros; try dsimp only)

theorem only_loadStrobes {s : State} (hm : sub 1 mm = true) (hs : Only mm s0 s) :
    Only mm s0 (State.loadStrobes s) := by
  unfold State.loadStrobes
  try dsimp only
  repeat' first
    | (with_reducible first | assumption | apply only_wr)
    | exact sub_trans rfl hm
    | split

theorem only_loadEnc {s : State} (ch : Nat) (hm : sub 4398046511104 mm = true) (hs : Only mm s0 s) :
    Only mm s0 (State.loadEnc s ch) := by
  unfold State.loadEnc
  try dsimp only
  repeat' first
    | (with_reducible first | assumption)
    | exact sub_trans rfl hm
    | (intro _; intros; try dsimp only)
    | with_reducible apply only_put4398046511104

theorem only_keepBoundary {s : State} (hm : sub 342559444703379457 mm = true) (hs : Only mm s0 s) :
    Only mm s0 (State.keepBoundary s) := by
  unfold State.keepBoundary
  try dsimp only
  repeat' first
    | (with_reducible first | assumption | apply only_ite | apply only_setFld | apply only_loadStrobes | apply only_loadEnc)
    | (with_reducible first | apply only_showAge | apply only_foldl)
    | exact sub_trans rfl hm
    | (intro _; intros; try dsimp only)
    | with_reducible apply only_put281474976710656
    | with_reducible apply only_put288230376151711744
    | with_reducible apply only_put288511851128422400
    | with_reducible apply only_put342273571680157696
    | with_reducible apply only_put342555046656868352
    | split

theorem only_keepNow {s : State} (hm : sub 342559444703379457 mm = true) (hs : Only mm s0 s) :
    Only mm s0 (State.keepNow s) := by
  unfold State.keepNow
  repeat' first
    | (with_reducible first | assumption | apply only_ite | apply only_keepBoundary)
    | exact sub_trans rfl hm
    | split

theorem only_markRecord {s : State} (r : KeepRec) (ok : Bool) (hm : sub 9007199254740992 mm = true) (hs : Only mm s0 s) :
    Only mm s0 (State.markRecord s r ok) := by
  unfold State.markRecord
  try dsimp only
  repeat' first
    | (with_reducible first | assumption | apply only_ite)
    | exact sub_trans rfl hm
    | (intro _; intros; try dsimp only)
    | with_reducible apply only_put9007199254740992
    | split

theorem only_loseRecord {s : State} (r : KeepRec) (hm : sub 117661059326568046609 mm = true) (hs : Only mm s0 s) :
    Only mm s0 (State.loseRecord s r) := by
  unfold State.loseRecord
  try dsimp only
  repeat' first
    | (with_reducible first | assumption | apply only_ite | apply only_markRecord | apply only_bump | apply only_record | apply only_keepWaits)
    | exact sub_trans rfl hm
    | with_reducible apply only_put18014398509481984
    | split

theorem only_mendRecord {s : State} (r : KeepRec) (hm : sub 117607579080993022001 mm = true) (hs : Only mm s0 s) :
    Only mm s0 (State.mendRecord s r) := by
  unfold State.mendRecord
  try dsimp only
  repeat' first
    | (with_reducible first | assumption | apply only_markRecord | apply only_inc | apply only_commit | apply only_record)
    | exact sub_trans rfl hm

theorem only_cutRecord {s : State} (c : Nat × Nat × List Byte) (hm : sub 9007199254740992 mm = true) (hs : Only mm s0 s) :
    Only mm s0 (State.cutRecord s c) := by
  unfold State.cutRecord
  try dsimp only
  repeat' first
    | (with_reducible first | assumption | apply only_ite)
    | exact sub_trans rfl hm
    | (intro _; intros; try dsimp only)
    | with_reducible apply only_put9007199254740992
    | split

theorem only_takeAhead {s : State} (r : KeepRec) (bad0 : Bool) (hm : sub 9007199254740992 mm = true) (hs : Only mm s0 s) :
    Only mm s0 (State.takeAhead s r bad0).1 := by
  unfold State.takeAhead
  try dsimp only
  repeat' first
    | (with_reducible first | assumption | apply only_ite)
    | exact sub_trans rfl hm
    | (intro _; intros; try dsimp only)
    | split
    | with_reducible apply only_put9007199254740992

theorem only_checkRecord {s : State} (bad : List (Nat × Nat)) (r : KeepRec) (hm : sub 117661622276521467953 mm = true) (hs : Only mm s0 s) :
    Only mm s0 (State.checkRecord s bad r) := by
  unfold State.checkRecord
  try dsimp only
  repeat' first
    | (with_reducible first | assumption | apply only_ite | apply only_takeAhead | apply only_loseRecord | apply only_mendRecord)
    | exact sub_trans rfl hm
    | split

theorem only_checkKeep {s : State} (bad : List (Nat × Nat)) (hm : sub 118526594879953367089 mm = true) (hs : Only mm s0 s) :
    Only mm s0 (State.checkKeep s bad) := by
  unfold State.checkKeep
  try dsimp only
  repeat' first
    | (with_reducible first | assumption | apply only_ite | apply only_deviceFatal | apply only_inc | apply only_record)
    | (with_reducible first | apply only_checkRecord | apply only_keepNow | apply only_foldl)
    | exact sub_trans rfl hm
    | (intro _; intros; try dsimp only)
    | split

theorem only_execKeepDailyCheck (bad : List (Nat × Nat)) {s : State} (hm : sub 118526594879953367089 mm = true) (hs : Only mm s0 s) :
    OnlyOut mm s0 (execKeepDailyCheck bad s) := by
  unfold execKeepDailyCheck
  repeat' first
    | (with_reducible first | assumption | exact trivial | apply onlyOut_next | apply onlyOut_ite | apply only_ite | apply only_checkKeep)
    | exact sub_trans rfl hm
    | split

theorem only_keepState {s : State} (code : Nat) (hm : sub 1 mm = true) (hs : Only mm s0 s) :
    Only mm s0 (State.keepState s code) := by
  unfold State.keepState
  repeat' first
    | (with_reducible first | assumption | apply only_ite | apply only_wr)
    | exact sub_trans rfl hm
    | split

theorem only_keepRefuse {s : State} (o : Origin) (code : Nat) (hm : sub 117598008931784859665 mm = true) (hs : Only mm s0 s) :
    Only mm s0 (State.keepRefuse s o code) := by
  unfold State.keepRefuse
  repeat' first
    | (with_reducible first | assumption | apply only_refuse | apply only_keepState)
    | exact sub_trans rfl hm

theorem only_keepWrite {s : State} (o : Origin) (fails : Nat) (hm : sub 117950134127649890353 mm = true) (hs : Only mm s0 s) :
    Only mm s0 (State.keepWrite s o fails) := by
  unfold State.keepWrite
  try dsimp only
  repeat' first
    | (with_reducible first | assumption | apply only_ite | apply only_keepRefuse | apply only_countFull | apply only_bump)
    | (with_reducible first | apply only_storeKeep | apply only_take | apply only_keepNow | apply only_loadStrobes | apply only_inc)
    | (with_reducible first | apply only_record | apply only_keepState)
    | exact sub_trans rfl hm
    | split

theorem only_execKeepWrite (o : Origin) (fails : Nat) {s : State} (hm : sub 117950134127649890353 mm = true) (hs : Only mm s0 s) :
    OnlyOut mm s0 (execKeepWrite o fails s) := by
  unfold execKeepWrite
  repeat' first
    | (with_reducible first | assumption | exact trivial | apply onlyOut_next | apply onlyOut_ite | apply only_act | apply only_keepWrite)
    | exact sub_trans rfl hm
    | (intro _; intros; try dsimp only)

theorem only_keepRead {s : State} (hm : sub 1 mm = true) (hs : Only mm s0 s) :
    Only mm s0 (State.keepRead s) := by
  unfold State.keepRead
  try dsimp only
  repeat' first
    | (with_reducible first | assumption | apply only_keepState | apply only_wr | apply only_foldl)
    | exact sub_trans rfl hm
    | (intro _; intros; try dsimp only)
    | split

theorem only_execKeepRead (o : Origin) {s : State} (hm : sub 117598008931784859665 mm = true) (hs : Only mm s0 s) :
    OnlyOut mm s0 (execKeepRead o s) := by
  unfold execKeepRead
  repeat' first
    | (with_reducible first | assumption | exact trivial | apply onlyOut_next | apply onlyOut_ite | apply only_act | apply only_keepRead)
    | exact sub_trans rfl hm
    | (intro _; intros; try dsimp only)

end Sys2Proof.Machine
end

