-- ==== Sys2Proof/Laws/OnlyHbm.lean ====
section
/-! SUPPORT. What each operation of Machine/Hbm.lean may change of the state. -/

set_option linter.unusedVariables false
set_option linter.tactic.unusedName false

namespace Sys2Proof.Machine

variable {mm : Nat} {s0 : State}

theorem only_writeRankWord {s : State} (v : Nat) (code : Nat) (hm : sub 118240334828638629937 mm = true) (hs : Only mm s0 s) :
    Only mm s0 (State.writeRankWord s v code) := by
  unfold State.writeRankWord
  repeat' first
    | (with_reducible first | assumption | apply only_writeBell | apply only_wr64)
    | exact sub_trans rfl hm

theorem only_showMig {s : State} (hm : sub 1 mm = true) (hs : Only mm s0 s) :
    Only mm s0 (State.showMig s) := by
  unfold State.showMig
  repeat' first
    | (with_reducible first | assumption | apply only_wr)
    | exact sub_trans rfl hm

theorem only_startMigration {s : State} (p : Nat) (hm : sub 118240475566126985265 mm = true) (hs : Only mm s0 s) :
    Only mm s0 (State.startMigration s p) := by
  unfold State.startMigration
  try dsimp only
  repeat' first
    | (with_reducible first | assumption | apply only_writeRankWord | apply only_showMig | apply only_record)
    | exact sub_trans rfl hm
    | with_reducible apply only_put140737488355328

theorem only_abandonMigration {s : State} (hm : sub 118240475566126985265 mm = true) (hs : Only mm s0 s) :
    Only mm s0 (State.abandonMigration s) := by
  unfold State.abandonMigration
  try dsimp only
  repeat' first
    | (with_reducible first | assumption | apply only_writeRankWord | apply only_showMig | apply only_record)
    | exact sub_trans rfl hm
    | with_reducible apply only_put140737488355328

theorem only_finishMigration {s : State} (hm : sub 118240475566126985265 mm = true) (hs : Only mm s0 s) :
    Only mm s0 (State.finishMigration s) := by
  unfold State.finishMigration
  try dsimp only
  repeat' first
    | (with_reducible first | assumption | apply only_ite | apply only_writeRankWord | apply only_showMig | apply only_record)
    | (with_reducible first | apply only_foldl)
    | exact sub_trans rfl hm
    | (intro _; intros; try dsimp only)
    | with_reducible apply only_put140737488355328
    | split

theorem only_crossRank {s : State} (p : Nat) (hm : sub 118240475566126985265 mm = true) (hs : Only mm s0 s) :
    Only mm s0 (State.crossRank s p) := by
  unfold State.crossRank
  repeat' first
    | (with_reducible first | assumption | apply only_ite | apply only_abandonMigration | apply only_record | apply only_startMigration)
    | exact sub_trans rfl hm
    | (intro _; intros; try dsimp only)
    | split

theorem only_setStack {s : State} (i : Nat) (x : Stack) (hm : sub 70368744177664 mm = true) (hs : Only mm s0 s) :
    Only mm s0 (State.setStack s i x) := by
  unfold State.setStack
  try dsimp only
  repeat' first
    | (with_reducible first | assumption)
    | exact sub_trans rfl hm
    | (intro _; intros; try dsimp only)
    | with_reducible apply only_put70368744177664

theorem only_openRow {s : State} (p : Nat) (da : Nat) (hm : sub 36893558516163280896 mm = true) (hs : Only mm s0 s) :
    Only mm s0 (State.openRow s p da) := by
  unfold State.openRow
  try dsimp only
  repeat' first
    | (with_reducible first | assumption | apply only_ite | apply only_fresh | apply only_setStack)
    | exact sub_trans rfl hm
    | (intro _; intros; try dsimp only)
    | split

theorem only_showDaErr {s : State} (da : Nat) (p : Nat) (reg : RegAddr) (hm : sub 36893558516163280897 mm = true) (hs : Only mm s0 s) :
    Only mm s0 (State.showDaErr s da p reg) := by
  unfold State.showDaErr
  try dsimp only
  repeat' first
    | (with_reducible first | assumption | apply only_openRow | apply only_inc | apply only_wr64 | apply only_wr)
    | exact sub_trans rfl hm

theorem only_repeatWrites {s : State} (da : Nat) (n : Nat) (hm : sub 117598008931784859665 mm = true) (hs : Only mm s0 s) :
    Only mm s0 (State.repeatWrites s da n) := by
  unfold State.repeatWrites
  try dsimp only
  repeat' first
    | (with_reducible first | assumption | apply only_record | apply only_foldl)
    | exact sub_trans rfl hm
    | (intro _; intros; try dsimp only)

theorem only_countUe {s : State} (p : Nat) (hm : sub 118240475566126985265 mm = true) (hs : Only mm s0 s) :
    Only mm s0 (State.countUe s p) := by
  unfold State.countUe
  try dsimp only
  repeat' first
    | (with_reducible first | assumption | apply only_ite | apply only_crossRank)
    | exact sub_trans rfl hm
    | (intro _; intros; try dsimp only)
    | with_reducible apply only_put140737488355328
    | split

theorem only_countCe {s : State} (p : Nat) (hm : sub 118240475566126985265 mm = true) (hs : Only mm s0 s) :
    Only mm s0 (State.countCe s p) := by
  unfold State.countCe
  try dsimp only
  repeat' first
    | (with_reducible first | assumption | apply only_ite | apply only_crossRank)
    | exact sub_trans rfl hm
    | (intro _; intros; try dsimp only)
    | with_reducible apply only_put140737488355328
    | split

theorem only_missRead {s : State} (da : Nat) (hm : sub 118240475566126985265 mm = true) (hs : Only mm s0 s) :
    Only mm s0 (State.missRead s da) := by
  unfold State.missRead
  repeat' first
    | (with_reducible first | assumption | apply only_ite | apply only_countUe)
    | exact sub_trans rfl hm
    | split

theorem only_hbmUe {s : State} (da : Nat) (stripe : Option (Nat × Nat)) (cls : Nat) (hm : sub 118240545934871162929 mm = true) (hs : Only mm s0 s) :
    Only mm s0 (State.hbmUe s da stripe cls) := by
  unfold State.hbmUe
  try dsimp only
  repeat' first
    | (with_reducible first | assumption | apply only_showDaErr | apply only_record | apply only_missRead)
    | exact sub_trans rfl hm

theorem only_failRead {s : State} (n : Nat) (da : Nat) (hm : sub 118240545934871162929 mm = true) (hs : Only mm s0 s) :
    Only mm s0 (State.failRead s n da) := by
  unfold State.failRead
  try dsimp only
  repeat' first
    | (with_reducible first | assumption | apply only_showDaErr | apply only_fail | apply only_missRead)
    | exact sub_trans rfl hm

theorem only_hbmUes {s : State} (l : List Nat) (hm : sub 118240545934871162929 mm = true) (hs : Only mm s0 s) :
    Only mm s0 (State.hbmUes s l) := by
  unfold State.hbmUes
  repeat' first
    | (with_reducible first | assumption | apply only_hbmUe | apply only_foldl)
    | exact sub_trans rfl hm
    | (intro _; intros; try dsimp only)

theorem only_hbmCe {s : State} (da : Nat) (hm : sub 118240545934871162929 mm = true) (hs : Only mm s0 s) :
    Only mm s0 (State.hbmCe s da) := by
  unfold State.hbmCe
  try dsimp only
  repeat' first
    | (with_reducible first | assumption | apply only_showDaErr | apply only_record | apply only_countCe)
    | exact sub_trans rfl hm

theorem only_execRefreshDue (stack : Nat) (bank : Nat) (traffic : Bool) {s : State} (hm : sub 70368744177664 mm = true) (hs : Only mm s0 s) :
    OnlyOut mm s0 (execRefreshDue stack bank traffic s) := by
  unfold execRefreshDue
  try dsimp only
  repeat' first
    | (with_reducible first | assumption | exact trivial | apply onlyOut_next | apply onlyOut_ite | apply only_ite | apply only_setStack)
    | exact sub_trans rfl hm
    | (intro _; intros; try dsimp only)
    | split

theorem only_execNbrRefreshDue (stack : Nat) (bank : Nat) (row : Nat) {s : State} (hm : sub 70368744177665 mm = true) (hs : Only mm s0 s) :
    OnlyOut mm s0 (execNbrRefreshDue stack bank row s) := by
  unfold execNbrRefreshDue
  try dsimp only
  repeat' first
    | (with_reducible first | assumption | exact trivial | apply onlyOut_next | apply onlyOut_ite | apply only_ite | apply only_setStack)
    | (with_reducible first | apply only_bump)
    | exact sub_trans rfl hm
    | (intro _; intros; try dsimp only)
    | split

theorem only_setSelfRef {s : State} (stack : Nat) (v : Nat) (hm : sub 70368744177665 mm = true) (hs : Only mm s0 s) :
    Only mm s0 (State.setSelfRef s stack v) := by
  unfold State.setSelfRef
  try dsimp only
  repeat' first
    | (with_reducible first | assumption | apply only_setStack | apply only_setFld)
    | exact sub_trans rfl hm

theorem only_execSelfRefreshExit (stack : Nat) {s : State} (hm : sub 70368744177665 mm = true) (hs : Only mm s0 s) :
    OnlyOut mm s0 (execSelfRefreshExit stack s) := by
  unfold execSelfRefreshExit
  repeat' first
    | (with_reducible first | assumption | exact trivial | apply onlyOut_next | apply onlyOut_ite | apply only_ite | apply only_inc)
    | (with_reducible first | apply only_setSelfRef)
    | exact sub_trans rfl hm
    | split

theorem only_firmwareRead {s : State} (da : Nat) (recovered : Bool) (hm : sub 115932239950887579697 mm = true) (hs : Only mm s0 s) :
    Only mm s0 (State.firmwareRead s da recovered) := by
  unfold State.firmwareRead
  try dsimp only
  repeat' first
    | (with_reducible first | assumption | apply only_ite | apply only_deviceFatal)
    | exact sub_trans rfl hm
    | split

theorem only_execPatrolScrub (da : Nat) (ce : Bool) (ue : Bool) (recovered : Bool) {s : State} (hm : sub 118240545934871162929 mm = true) (hs : Only mm s0 s) :
    OnlyOut mm s0 (execPatrolScrub da ce ue recovered s) := by
  unfold execPatrolScrub
  repeat' first
    | (with_reducible first | assumption | exact trivial | apply onlyOut_next | apply onlyOut_ite | apply only_ite | apply only_hbmUe)
    | (with_reducible first | apply only_firmwareRead | apply only_hbmCe | apply only_openRow)
    | exact sub_trans rfl hm
    | split

theorem only_execHbmStackFault (stack : Nat) {s : State} (hm : sub 115932239950887579697 mm = true) (hs : Only mm s0 s) :
    OnlyOut mm s0 (execHbmStackFault stack s) := by
  unfold execHbmStackFault
  repeat' first
    | (with_reducible first | assumption | exact trivial | apply onlyOut_next | apply onlyOut_ite | apply only_ite | apply only_deviceFatal)
    | exact sub_trans rfl hm
    | split

theorem only_execRetire (o : Origin) (v : Nat) {s : State} (hm : sub 118240475566126985265 mm = true) (hs : Only mm s0 s) :
    OnlyOut mm s0 (execRetire o v s) := by
  unfold execRetire
  repeat' first
    | (with_reducible first | assumption | exact trivial | apply onlyOut_next | apply onlyOut_ite | apply only_ite | apply only_act)
    | (with_reducible first | apply only_refuse | apply only_crossRank)
    | exact sub_trans rfl hm
    | (intro _; intros; try dsimp only)
    | split

theorem only_execMigrationSegment (mismatches : Nat) (readUe : Option Nat) {s : State} (hm : sub 118240545934871162929 mm = true) (hs : Only mm s0 s) :
    OnlyOut mm s0 (execMigrationSegment mismatches readUe s) := by
  unfold execMigrationSegment
  try dsimp only
  repeat' first
    | (with_reducible first | assumption | exact trivial | apply onlyOut_next | apply onlyOut_ite | apply only_ite | apply only_showDaErr)
    | (with_reducible first | apply only_record | apply only_countUe | apply only_abandonMigration | apply only_showMig)
    | (with_reducible first | apply only_finishMigration)
    | exact sub_trans rfl hm
    | split
    | with_reducible apply only_put140737488355328

end Sys2Proof.Machine
end

