-- ==== Sys2Proof/Laws/OnlyLantern.lean ====
section
/-! SUPPORT. What each operation of Machine/Lantern.lean may change of the state. -/

set_option linter.unusedVariables false
set_option linter.tactic.unusedName false

namespace Sys2Proof.Machine

variable {mm : Nat} {s0 : State}

theorem only_clkOn {s : State} (p : Nat) (hm : sub 4611686018427387905 mm = true) (hs : Only mm s0 s) :
    Only mm s0 (State.clkOn s p) := by
  unfold State.clkOn
  repeat' first
    | (with_reducible first | assumption | apply only_traced | apply only_setFld)
    | exact sub_trans rfl hm

theorem only_clkOff {s : State} (p : Nat) (hm : sub 4611686018427387905 mm = true) (hs : Only mm s0 s) :
    Only mm s0 (State.clkOff s p) := by
  unfold State.clkOff
  repeat' first
    | (with_reducible first | assumption | apply only_traced | apply only_setFld)
    | exact sub_trans rfl hm

theorem only_lanternWake {s : State} (hm : sub 4611686018427387905 mm = true) (hs : Only mm s0 s) :
    Only mm s0 (State.lanternWake s) := by
  unfold State.lanternWake
  try dsimp only
  repeat' first
    | (with_reducible first | assumption | apply only_ite | apply only_clkOn | apply only_setFld)
    | exact sub_trans rfl hm
    | (intro _; intros; try dsimp only)
    | split

theorem only_lanternRest {s : State} (hm : sub 1 mm = true) (hs : Only mm s0 s) :
    Only mm s0 (State.lanternRest s) := by
  unfold State.lanternRest
  repeat' first
    | (with_reducible first | assumption | apply only_ite | apply only_setFld)
    | exact sub_trans rfl hm
    | split

theorem only_retireRaster {s : State} (l : Nat) (hm : sub 118021910246711107633 mm = true) (hs : Only mm s0 s) :
    Only mm s0 (State.retireRaster s l) := by
  unfold State.retireRaster
  try dsimp only
  repeat' first
    | (with_reducible first | assumption | apply only_wr64 | apply only_record | apply only_saveAgeing)
    | exact sub_trans rfl hm
    | with_reducible apply only_put288230376151711744

theorem only_rasterResidue {s : State} (l : Nat) (hm : sub 118021910246711107633 mm = true) (hs : Only mm s0 s) :
    Only mm s0 (State.rasterResidue s l) := by
  unfold State.rasterResidue
  try dsimp only
  repeat' first
    | (with_reducible first | assumption | apply only_ite | apply only_inc | apply only_record | apply only_retireRaster)
    | exact sub_trans rfl hm
    | (intro _; intros; try dsimp only)
    | with_reducible apply only_put288230376151711744
    | split

theorem only_retireUnit {s : State} (u : Nat) (hm : sub 118021910246711107633 mm = true) (hs : Only mm s0 s) :
    Only mm s0 (State.retireUnit s u) := by
  unfold State.retireUnit
  try dsimp only
  repeat' first
    | (with_reducible first | assumption | apply only_ite | apply only_wr64 | apply only_setFld | apply only_record | apply only_saveAgeing)
    | exact sub_trans rfl hm
    | with_reducible apply only_put288230376151711744
    | split

theorem only_unitResidue {s : State} (u : Nat) (hm : sub 118021910246711107633 mm = true) (hs : Only mm s0 s) :
    Only mm s0 (State.unitResidue s u) := by
  unfold State.unitResidue
  try dsimp only
  repeat' first
    | (with_reducible first | assumption | apply only_ite | apply only_inc | apply only_record | apply only_retireUnit)
    | exact sub_trans rfl hm
    | (intro _; intros; try dsimp only)
    | with_reducible apply only_put288230376151711744
    | split

theorem only_putTile {s : State} (x : Stripe) (band : Nat) (col : Nat) (t : KMap (BitVec 16)) (hm : sub 3221225472 mm = true) (hs : Only mm s0 s) :
    Only mm s0 (State.putTile s x band col t) := by
  unfold State.putTile
  try dsimp only
  repeat' first
    | (with_reducible first | assumption | apply only_id)
    | exact sub_trans rfl hm
    | (intro _; intros; try dsimp only)
    | with_reducible apply only_put3221225472

theorem only_countClips {s : State} (x : Stripe) (xs : List (Nat × Nat × Nat)) (hm : sub 117598008931784859665 mm = true) (hs : Only mm s0 s) :
    Only mm s0 (State.countClips s x xs) := by
  unfold State.countClips
  try dsimp only
  repeat' first
    | (with_reducible first | assumption | apply only_ite | apply only_bump | apply only_modStripe | apply only_record)
    | exact sub_trans rfl hm
    | (intro _; intros; try dsimp only)
    | split

theorem only_bandDone {s : State} (x : Stripe) (hm : sub 4194304 mm = true) (hs : Only mm s0 s) :
    Only mm s0 (State.bandDone s x) := by
  unfold State.bandDone
  try dsimp only
  repeat' first
    | (with_reducible first | assumption | apply only_ite | apply only_modStripe)
    | exact sub_trans rfl hm
    | (intro _; intros; try dsimp only)
    | split

theorem only_putFactorCrc {s : State} (x : Stripe) (band : Nat) (hm : sub 34359738368 mm = true) (hs : Only mm s0 s) :
    Only mm s0 (State.putFactorCrc s x band) := by
  unfold State.putFactorCrc
  try dsimp only
  repeat' first
    | (with_reducible first | assumption)
    | exact sub_trans rfl hm
    | with_reducible apply only_put34359738368

theorem only_rebuildBand {s : State} (x : Stripe) (band : Nat) (hm : sub 4294967296 mm = true) (hs : Only mm s0 s) :
    Only mm s0 (State.rebuildBand s x band) := by
  unfold State.rebuildBand
  try dsimp only
  repeat' first
    | (with_reducible first | assumption)
    | exact sub_trans rfl hm
    | (intro _; intros; try dsimp only)
    | with_reducible apply only_put4294967296

theorem only_recomputeBand {s : State} (x : Stripe) (band : Nat) (hm : sub 42949672960 mm = true) (hs : Only mm s0 s) :
    Only mm s0 (State.recomputeBand s x band) := by
  unfold State.recomputeBand
  try dsimp only
  repeat' first
    | (with_reducible first | assumption | apply only_putFactorCrc)
    | exact sub_trans rfl hm
    | (intro _; intros; try dsimp only)
    | with_reducible apply only_put8589934592

theorem only_remakeFactors {s : State} (x : Stripe) (factorBad : Bool) (mapBad : Bool) (band : Nat) (hm : sub 117598008979029499921 mm = true) (hs : Only mm s0 s) :
    Only mm s0 (State.remakeFactors s x factorBad mapBad band) := by
  unfold State.remakeFactors
  try dsimp only
  repeat' first
    | (with_reducible first | assumption | apply only_ite | apply only_inc | apply only_record | apply only_rebuildBand)
    | (with_reducible first | apply only_recomputeBand)
    | exact sub_trans rfl hm
    | split

theorem only_readCopies {s : State} (slot : Nat) (da : Nat) (gap : Nat) (bad : Nat) (met : Nat) (hm : sub 118240547859019919409 mm = true) (hs : Only mm s0 s) :
    Only mm s0 (State.readCopies s slot da gap bad met) := by
  unfold State.readCopies
  repeat' first
    | (with_reducible first | assumption | apply only_ite | apply only_hbmUe | apply only_jobFatalRec)
    | exact sub_trans rfl hm
    | split

theorem only_readFog {s : State} (x : Stripe) (bad : Nat) (hm : sub 118240547859019919409 mm = true) (hs : Only mm s0 s) :
    Only mm s0 (State.readFog s x bad) := by
  unfold State.readFog
  repeat' first
    | (with_reducible first | assumption | apply only_ite | apply only_readCopies)
    | exact sub_trans rfl hm
    | split

theorem only_tileWrites {s : State} (x : Stripe) (band : Nat) (col : Nat) (fails : Nat) (hm : sub 117598008931784859665 mm = true) (hs : Only mm s0 s) :
    Only mm s0 (State.tileWrites s x band col fails) := by
  unfold State.tileWrites
  repeat' first
    | (with_reducible first | assumption | apply only_ite | apply only_record | apply only_repeatWrites | apply only_foldl)
    | exact sub_trans rfl hm
    | (intro _; intros; try dsimp only)
    | split

theorem only_tileDone {s : State} (x : Stripe) (band : Nat) (col : Nat) (lane : Nat) (residue : Bool) (writeFails : Nat) (factorBad : Bool) (mapBad : Bool) (hm : sub 118021910297176973361 mm = true) (hs : Only mm s0 s) :
    Only mm s0 (State.tileDone s x band col lane residue writeFails factorBad mapBad) := by
  unfold State.tileDone
  try dsimp only
  repeat' first
    | (with_reducible first | assumption | apply only_ite | apply only_rasterResidue | apply only_modStripe | apply only_remakeFactors)
    | (with_reducible first | apply only_tileWrites | apply only_putTile | apply only_inc | apply only_countClips | apply only_bandDone)
    | (with_reducible first | apply only_lanternRest)
    | exact sub_trans rfl hm
    | (intro _; intros; try dsimp only)
    | split

theorem only_execTileDone (pass : Nat) (id : Nat) (band : Nat) (col : Nat) (lane : Nat) (residue : Bool) (writeFails : Nat) (factorBad : Bool) (mapBad : Bool) (fogBad : Nat) (sram : List SramErr) {s : State} (hm : sub 118601117354652135473 mm = true) (hs : Only mm s0 s) :
    OnlyOut mm s0 (execTileDone pass id band col lane residue writeFails factorBad mapBad fogBad sram s) := by
  unfold execTileDone
  try dsimp only
  repeat' first
    | (with_reducible first | assumption | exact trivial | apply onlyOut_next | apply onlyOut_ite | apply only_ite | apply only_id)
    | (with_reducible first | apply only_blockDamaged | apply only_readFog | apply only_sramErrs | apply only_tileDone)
    | exact sub_trans rfl hm
    | (intro _; intros; try dsimp only)
    | split

theorem only_execLanternWake {s : State} (hm : sub 4611686018427387905 mm = true) (hs : Only mm s0 s) :
    OnlyOut mm s0 (execLanternWake s) := by
  unfold execLanternWake
  repeat' first
    | (with_reducible first | assumption | exact trivial | apply onlyOut_next | apply onlyOut_ite | apply only_lanternWake)
    | exact sub_trans rfl hm

theorem only_reraster {s : State} (x : Stripe) (r : Nat × Nat × Nat) (runs : Runs) (residue : List Nat) (factorBad : Bool) (mapBad : Bool) (hm : sub 118021910297176973361 mm = true) (hs : Only mm s0 s) :
    Only mm s0 (State.reraster s x r runs residue factorBad mapBad) := by
  unfold State.reraster
  try dsimp only
  repeat' first
    | (with_reducible first | assumption | apply only_ite | apply only_rasterResidue | apply only_remakeFactors | apply only_inc)
    | (with_reducible first | apply only_modStripe | apply only_putTile | apply only_lanternRest | apply only_foldl)
    | exact sub_trans rfl hm
    | (intro _; intros; try dsimp only)
    | split

theorem only_execRerasterRequest (pass : Nat) (id : Nat) (band : Nat) (col : Nat) (runs : Runs) (residue : List Nat) (factorBad : Bool) (mapBad : Bool) (sram : List SramErr) {s : State} (hm : sub 118600906248419602481 mm = true) (hs : Only mm s0 s) :
    OnlyOut mm s0 (execRerasterRequest pass id band col runs residue factorBad mapBad sram s) := by
  unfold execRerasterRequest
  try dsimp only
  repeat' first
    | (with_reducible first | assumption | exact trivial | apply onlyOut_next | apply onlyOut_ite | apply only_ite | apply only_id)
    | (with_reducible first | apply only_blockDamaged | apply only_sramErrs | apply only_reraster)
    | exact sub_trans rfl hm
    | (intro _; intros; try dsimp only)
    | split

theorem only_neighbourBad {s : State} (x : Stripe) (e : Nat × Nat × Nat × Nat) (hm : sub 118240336752787386417 mm = true) (hs : Only mm s0 s) :
    Only mm s0 (State.neighbourBad s x e) := by
  unfold State.neighbourBad
  try dsimp only
  repeat' first
    | (with_reducible first | assumption | apply only_ite | apply only_id | apply only_record | apply only_modJob | apply only_rerequest)
    | exact sub_trans rfl hm
    | (intro _; intros; try dsimp only)
    | split

theorem only_prepassWait {s : State} (x : Stripe) (code : Nat) (hm : sub 4194304 mm = true) (hs : Only mm s0 s) :
    Only mm s0 (State.prepassWait s x code) := by
  unfold State.prepassWait
  try dsimp only
  repeat' first
    | (with_reducible first | assumption | apply only_modStripe)
    | exact sub_trans rfl hm
    | (intro _; intros; try dsimp only)

theorem only_execPrepassStart {s : State} (hm : sub 118240336752787386417 mm = true) (hs : Only mm s0 s) :
    OnlyOut mm s0 (execPrepassStart s) := by
  unfold execPrepassStart
  try dsimp only
  repeat' first
    | (with_reducible first | assumption | exact trivial | apply onlyOut_next | apply onlyOut_ite | apply only_ite | apply only_id)
    | (with_reducible first | apply only_neighbourBad | apply only_prepassWait | apply only_jobFatalRec | apply only_modStripe)
    | (with_reducible first | apply only_setFld)
    | exact sub_trans rfl hm
    | (intro _; intros; try dsimp only)
    | split

theorem only_clearBands {s : State} (set : Nat) (hm : sub 51539607552 mm = true) (hs : Only mm s0 s) :
    Only mm s0 (State.clearBands s set) := by
  unfold State.clearBands
  try dsimp only
  repeat' first
    | (with_reducible first | assumption)
    | exact sub_trans rfl hm
    | (intro _; intros; try dsimp only)
    | with_reducible apply only_put51539607552

theorem only_densityDone {s : State} (x : Stripe) (residueLanes : List Nat) (hm : sub 118021910302545682481 mm = true) (hs : Only mm s0 s) :
    Only mm s0 (State.densityDone s x residueLanes) := by
  unfold State.densityDone
  try dsimp only
  repeat' first
    | (with_reducible first | assumption | apply only_clearBands | apply only_bump | apply only_rasterResidue | apply only_modStripe)
    | (with_reducible first | apply only_lanternRest | apply only_foldl)
    | exact sub_trans rfl hm
    | (intro _; intros; try dsimp only)
    | with_reducible apply only_put4294967296

theorem only_prepassDone {s : State} (x : Stripe) (residueUnits : List Nat) (hm : sub 118021910289660780593 mm = true) (hs : Only mm s0 s) :
    Only mm s0 (State.prepassDone s x residueUnits) := by
  unfold State.prepassDone
  try dsimp only
  repeat' first
    | (with_reducible first | assumption | apply only_putFactorCrc | apply only_bump | apply only_unitResidue | apply only_modStripe)
    | (with_reducible first | apply only_setFld | apply only_foldl)
    | exact sub_trans rfl hm
    | (intro _; intros; try dsimp only)
    | with_reducible apply only_put8589934592

theorem only_execPrepassComplete (lanes : List Nat) (residueLanes : List Nat) (residueUnits : List Nat) (sram : List SramErr) {s : State} (hm : sub 118600906262378246193 mm = true) (hs : Only mm s0 s) :
    OnlyOut mm s0 (execPrepassComplete lanes residueLanes residueUnits sram s) := by
  unfold execPrepassComplete
  try dsimp only
  repeat' first
    | (with_reducible first | assumption | exact trivial | apply onlyOut_next | apply onlyOut_ite | apply only_ite | apply only_id)
    | (with_reducible first | apply only_sramErrs | apply only_prepassDone | apply only_neighbourBad | apply only_prepassWait)
    | (with_reducible first | apply only_blockDamaged | apply only_densityDone)
    | exact sub_trans rfl hm
    | (intro _; intros; try dsimp only)
    | split

end Sys2Proof.Machine
end

