-- ==== Sys2Proof/Laws/OnlyTally.lean ====
section
/-! SUPPORT. What each operation of Machine/Tally.lean may change of the state. -/

set_option linter.unusedVariables false
set_option linter.tactic.unusedName false

namespace Sys2Proof.Machine

variable {mm : Nat} {s0 : State}

theorem only_putRow {s : State} (w : PixRow) (hm : sub 1649267441664 mm = true) (hs : Only mm s0 s) :
    Only mm s0 (State.putRow s w) := by
  unfold State.putRow
  try dsimp only
  repeat' first
    | (with_reducible first | assumption | apply only_ite)
    | exact sub_trans rfl hm
    | (intro _; intros; try dsimp only)
    | with_reducible apply only_put549755813888
    | with_reducible apply only_put1099511627776
    | with_reducible apply only_put1649267441664
    | split

theorem only_putWord {s : State} (ord : Nat) (c : Nat) (r : Nat) (rem : Nat) (mark : Nat) (hm : sub 1649267441664 mm = true) (hs : Only mm s0 s) :
    Only mm s0 (State.putWord s ord c r rem mark) := by
  unfold State.putWord
  try dsimp only
  repeat' first
    | (with_reducible first | assumption | apply only_putRow)
    | exact sub_trans rfl hm
    | split

theorem only_tagFault {s : State} (x : Stripe) (c : Nat) (r : Nat) (hm : sub 117598010581052301329 mm = true) (hs : Only mm s0 s) :
    Only mm s0 (State.tagFault s x c r) := by
  unfold State.tagFault
  repeat' first
    | (with_reducible first | assumption | apply only_putWord | apply only_inc | apply only_record)
    | exact sub_trans rfl hm

theorem only_applyCarry {s : State} (a : Carry) (hm : sub 117598010581052301329 mm = true) (hs : Only mm s0 s) :
    Only mm s0 (State.applyCarry s a) := by
  unfold State.applyCarry
  try dsimp only
  repeat' first
    | (with_reducible first | assumption | apply only_ite | apply only_inc | apply only_tagFault | apply only_putWord)
    | exact sub_trans rfl hm
    | split

theorem only_applyUnknown {s : State} (a : Carry) (hm : sub 1649267441665 mm = true) (hs : Only mm s0 s) :
    Only mm s0 (State.applyUnknown s a) := by
  unfold State.applyUnknown
  try dsimp only
  repeat' first
    | (with_reducible first | assumption | apply only_ite | apply only_inc | apply only_putWord)
    | exact sub_trans rfl hm
    | split

theorem only_applyFor {s : State} (p : Carry → Bool) (hm : sub 117598010581052301329 mm = true) (hs : Only mm s0 s) :
    Only mm s0 (State.applyFor s p) := by
  unfold State.applyFor
  try dsimp only
  repeat' first
    | (with_reducible first | assumption | apply only_ite | apply only_applyUnknown | apply only_applyCarry | apply only_foldl)
    | exact sub_trans rfl hm
    | (intro _; intros; try dsimp only)
    | with_reducible apply only_put2199023255552
    | split

theorem only_applyCarries {s : State} (hm : sub 117598010581052301329 mm = true) (hs : Only mm s0 s) :
    Only mm s0 (State.applyCarries s) := by
  unfold State.applyCarries
  repeat' first
    | (with_reducible first | assumption | apply only_applyFor)
    | exact sub_trans rfl hm
    | (intro _; intros; try dsimp only)

theorem only_post {s : State} (l : List Carry) (hm : sub 2199023255552 mm = true) (hs : Only mm s0 s) :
    Only mm s0 (State.post s l) := by
  unfold State.post
  try dsimp only
  repeat' first
    | (with_reducible first | assumption)
    | exact sub_trans rfl hm
    | with_reducible apply only_put2199023255552

theorem only_listPixel {s : State} (x : Stripe) (e : DefEntry) (hm : sub 117598008931784859665 mm = true) (hs : Only mm s0 s) :
    Only mm s0 (State.listPixel s x e) := by
  unfold State.listPixel
  try dsimp only
  repeat' first
    | (with_reducible first | assumption | apply only_ite | apply only_modStripe | apply only_record)
    | exact sub_trans rfl hm
    | (intro _; intros; try dsimp only)
    | split

theorem only_autoRelease {s : State} (slot : Nat) (id : Nat) (hm : sub 311296 mm = true) (hs : Only mm s0 s) :
    Only mm s0 (State.autoRelease s slot id) := by
  unfold State.autoRelease
  try dsimp only
  repeat' first
    | (with_reducible first | assumption | apply only_ite | apply only_id | apply only_modJob)
    | exact sub_trans rfl hm
    | (intro _; intros; try dsimp only)
    | with_reducible apply only_put262144
    | split

theorem only_completeStripe {s : State} (x : Stripe) (hm : sub 118240336752787386417 mm = true) (hs : Only mm s0 s) :
    Only mm s0 (State.completeStripe s x) := by
  unfold State.completeStripe
  try dsimp only
  repeat' first
    | (with_reducible first | assumption | apply only_ite | apply only_id | apply only_endStripe | apply only_modJob | apply only_dropStripe)
    | (with_reducible first | apply only_clearCkpt | apply only_autoRelease)
    | exact sub_trans rfl hm
    | (intro _; intros; try dsimp only)
    | split

theorem only_endIfDone {s : State} (ord : Nat) (hm : sub 118240336752787386417 mm = true) (hs : Only mm s0 s) :
    Only mm s0 (State.endIfDone s ord) := by
  unfold State.endIfDone
  try dsimp only
  repeat' first
    | (with_reducible first | assumption | apply only_ite | apply only_endAborted | apply only_completeStripe | apply only_dropFrames)
    | exact sub_trans rfl hm
    | split

theorem only_exitTags {s : State} (x : Stripe) (w : PixRow) (fx : ExitFaults) (hm : sub 117598008931784859665 mm = true) (hs : Only mm s0 s) :
    Only mm s0 (State.exitTags s x w fx) := by
  unfold State.exitTags
  repeat' first
    | (with_reducible first | assumption | apply only_inc | apply only_record | apply only_foldl)
    | exact sub_trans rfl hm
    | (intro _; intros; try dsimp only)

theorem only_deficitFull {s : State} (x : Stripe) (w : PixRow) (hm : sub 118240336752787386417 mm = true) (hs : Only mm s0 s) :
    Only mm s0 (State.deficitFull s x w) := by
  unfold State.deficitFull
  try dsimp only
  repeat' first
    | (with_reducible first | assumption | apply only_ite | apply only_endIfDone | apply only_enterContained | apply only_contain)
    | exact sub_trans rfl hm
    | (intro _; intros; try dsimp only)
    | with_reducible apply only_put1099511627776
    | split

theorem only_checkRow {s : State} (x : Stripe) (w : PixRow) (fx : ExitFaults) (hm : sub 118240336752787386417 mm = true) (hs : Only mm s0 s) :
    Only mm s0 (State.checkRow s x w fx) := by
  unfold State.checkRow
  try dsimp only
  repeat' first
    | (with_reducible first | assumption | apply only_ite | apply only_deficitFull | apply only_listPixel | apply only_exitTags)
    | (with_reducible first | apply only_modList | apply only_modStripe | apply only_showCheck | apply only_endIfDone | apply only_foldl)
    | exact sub_trans rfl hm
    | (intro _; intros; try dsimp only)
    | with_reducible apply only_put1099511627776
    | split

theorem only_checkHead {s : State} (fx : ExitFaults) (hm : sub 118240336752787386417 mm = true) (hs : Only mm s0 s) :
    Only mm s0 (State.checkHead s fx) := by
  unfold State.checkHead
  try dsimp only
  repeat' first
    | (with_reducible first | assumption | apply only_applyFor | apply only_checkRow)
    | exact sub_trans rfl hm
    | (intro _; intros; try dsimp only)
    | split
    | with_reducible apply only_put1099511627776

theorem only_checkAll (hm : sub 118240336752787386417 mm = true) : ∀ (n : Nat) (fx : List ExitFaults) {s : State}, Only mm s0 s →
    Only mm s0 (State.checkAll n fx s)
  | 0, _, _, h => h
  | n + 1, fx, _, h => by
    unfold State.checkAll
    have k := only_checkHead (fx.headD {}) (sub_trans rfl hm) h
    exact only_ite (only_checkAll hm n _ k) k

theorem only_execExitCheck (fx : ExitFaults) {s : State} (hm : sub 118240336752787386417 mm = true) (hs : Only mm s0 s) :
    OnlyOut mm s0 (execExitCheck fx s) := by
  unfold execExitCheck
  repeat' first
    | (with_reducible first | assumption | exact trivial | apply onlyOut_next | apply onlyOut_ite | apply only_ite | apply only_checkHead)
    | exact sub_trans rfl hm
    | split

theorem only_undoFrame {s : State} (f : LinkFrame) (hm : sub 1649267441664 mm = true) (hs : Only mm s0 s) :
    Only mm s0 (State.undoFrame s f) := by
  unfold State.undoFrame
  try dsimp only
  repeat' first
    | (with_reducible first | assumption | apply only_ite | apply only_putWord | apply only_foldl)
    | exact sub_trans rfl hm
    | (intro _; intros; try dsimp only)
    | split

theorem only_undoCycle {s : State} (x : Stripe) (f : Nat) (hm : sub 4123168604160 mm = true) (hs : Only mm s0 s) :
    Only mm s0 (State.undoCycle s x f) := by
  unfold State.undoCycle
  try dsimp only
  repeat' first
    | (with_reducible first | assumption | apply only_ite | apply only_undoFrame | apply only_foldl)
    | exact sub_trans rfl hm
    | (intro _; intros; try dsimp only)
    | split
    | with_reducible apply only_put824633720832
    | with_reducible apply only_put1649267441664
    | with_reducible apply only_put1924145348608
    | with_reducible apply only_put2199023255552
    | with_reducible apply only_put3023656976384
    | with_reducible apply only_put3848290697216
    | with_reducible apply only_put4123168604160

theorem only_undo {s : State} (x : Stripe) (h : Int) (hm : sub 4123172798465 mm = true) (hs : Only mm s0 s) :
    Only mm s0 (State.undo s x h) := by
  unfold State.undo
  try dsimp only
  repeat' first
    | (with_reducible first | assumption | apply only_undoCycle | apply only_modStripe | apply only_wr | apply only_foldl)
    | exact sub_trans rfl hm
    | (intro _; intros; try dsimp only)

theorem only_lowerCap {s : State} (b : Nat) (cap : Nat) (hm : sub 117598008932590166033 mm = true) (hs : Only mm s0 s) :
    Only mm s0 (State.lowerCap s b cap) := by
  unfold State.lowerCap
  try dsimp only
  repeat' first
    | (with_reducible first | assumption | apply only_ite | apply only_record)
    | exact sub_trans rfl hm
    | (intro _; intros; try dsimp only)
    | split
    | with_reducible apply only_put268435456
    | with_reducible apply only_put536870912
    | with_reducible apply only_put805306368

theorem only_returnShares {s : State} (b : Nat) (hm : sub 2199023255552 mm = true) (hs : Only mm s0 s) :
    Only mm s0 (State.returnShares s b) := by
  unfold State.returnShares
  try dsimp only
  repeat' first
    | (with_reducible first | assumption | apply only_ite | apply only_post | apply only_modFrames | apply only_foldl)
    | exact sub_trans rfl hm
    | (intro _; intros; try dsimp only)
    | split

theorem only_strayWrite {s : State} (b : Nat) (cap : Nat) (hm : sub 117598008932791492625 mm = true) (hs : Only mm s0 s) :
    Only mm s0 (State.strayWrite s b cap) := by
  unfold State.strayWrite
  try dsimp only
  repeat' first
    | (with_reducible first | assumption | apply only_ite | apply only_lowerCap)
    | exact sub_trans rfl hm
    | split
    | with_reducible apply only_put67108864
    | with_reducible apply only_put134217728
    | with_reducible apply only_put201326592

theorem only_execStrayAdd (o : Origin) (v : Nat) {s : State} (hm : sub 117598008932791492625 mm = true) (hs : Only mm s0 s) :
    OnlyOut mm s0 (execStrayAdd o v s) := by
  unfold execStrayAdd
  repeat' first
    | (with_reducible first | assumption | exact trivial | apply onlyOut_next | apply onlyOut_ite | apply only_act | apply only_strayWrite)
    | exact sub_trans rfl hm
    | (intro _; intros; try dsimp only)

theorem only_takeHeld {s : State} (hm : sub 117598008932657274897 mm = true) (hs : Only mm s0 s) :
    Only mm s0 (State.takeHeld s) := by
  unfold State.takeHeld
  try dsimp only
  repeat' first
    | (with_reducible first | assumption | apply only_lowerCap | apply only_foldl)
    | exact sub_trans rfl hm
    | (intro _; intros; try dsimp only)
    | with_reducible apply only_put67108864

theorem only_flushStrays {s : State} (hm : sub 117598008932791492625 mm = true) (hs : Only mm s0 s) :
    Only mm s0 (State.flushStrays s) := by
  unfold State.flushStrays
  try dsimp only
  repeat' first
    | (with_reducible first | assumption | apply only_lowerCap | apply only_foldl)
    | exact sub_trans rfl hm
    | (intro _; intros; try dsimp only)
    | with_reducible apply only_put201326592

end Sys2Proof.Machine
end

