-- ==== Sys2Proof/Laws/OnlyShepherd.lean ====
section
/-! SUPPORT. What each operation of Machine/Shepherd.lean may change of the state. -/

set_option linter.unusedVariables false
set_option linter.tactic.unusedName false

namespace Sys2Proof.Machine

variable {mm : Nat} {s0 : State}

theorem only_askTile {s : State} (x : Stripe) (band : Nat) (col : Nat) (seq : Nat) (hm : sub 4194304 mm = true) (hs : Only mm s0 s) :
    Only mm s0 (State.askTile s x band col seq) := by
  unfold State.askTile
  try dsimp only
  repeat' first
    | (with_reducible first | assumption | apply only_ite | apply only_modStripe)
    | exact sub_trans rfl hm
    | (intro _; intros; try dsimp only)
    | split

theorem only_tileFail {s : State} (x : Stripe) (band : Nat) (col : Nat) (tags : Option Nat) (hm : sub 117598008931784859665 mm = true) (hs : Only mm s0 s) :
    Only mm s0 (State.tileFail s x band col tags) := by
  unfold State.tileFail
  try dsimp only
  repeat' first
    | (with_reducible first | assumption | apply only_ite | apply only_inc | apply only_bump | apply only_wr | apply only_record)
    | (with_reducible first | apply only_askTile)
    | exact sub_trans rfl hm
    | split

theorem only_tileUe {s : State} (x : Stripe) (band : Nat) (da : Nat) (hm : sub 118240545934871162929 mm = true) (hs : Only mm s0 s) :
    Only mm s0 (State.tileUe s x band da) := by
  unfold State.tileUe
  try dsimp only
  repeat' first
    | (with_reducible first | assumption | apply only_ite | apply only_hbmUe | apply only_askTile)
    | exact sub_trans rfl hm
    | split

theorem only_stageBand {s : State} (x : Stripe) (band : Nat) (hm : sub 274882101248 mm = true) (hs : Only mm s0 s) :
    Only mm s0 (State.stageBand s x band) := by
  unfold State.stageBand
  try dsimp only
  repeat' first
    | (with_reducible first | assumption | apply only_modStripe | apply only_foldl)
    | exact sub_trans rfl hm
    | (intro _; intros; try dsimp only)
    | with_reducible apply only_put274877906944

theorem only_bandRead {s : State} (x : Stripe) (band : Nat) (badCrc : List Nat) (badTag : List (Nat × Nat)) (ues : List Nat) (sram : List SramErr) (hm : sub 118312885278763708465 mm = true) (hs : Only mm s0 s) :
    Only mm s0 (State.bandRead s x band badCrc badTag ues sram) := by
  unfold State.bandRead
  try dsimp only
  repeat' first
    | (with_reducible first | assumption | apply only_ite | apply only_tileUe | apply only_tileFail | apply only_bump | apply only_sramErrs)
    | (with_reducible first | apply only_stageBand | apply only_foldl)
    | exact sub_trans rfl hm
    | (intro _; intros; try dsimp only)
    | split

theorem only_execFieldBandRead (band : Nat) (badCrc : List Nat) (badTag : List (Nat × Nat)) (ues : List Nat) (sram : List SramErr) {s : State} (hm : sub 118312885278763708465 mm = true) (hs : Only mm s0 s) :
    OnlyOut mm s0 (execFieldBandRead band badCrc badTag ues sram s) := by
  unfold execFieldBandRead
  try dsimp only
  repeat' first
    | (with_reducible first | assumption | exact trivial | apply onlyOut_next | apply onlyOut_ite | apply only_ite | apply only_bandRead)
    | exact sub_trans rfl hm
    | (intro _; intros; try dsimp only)
    | split

theorem only_leaveRow {s : State} (x : Stripe) (f : Nat) (fx : ExitFaults) (hm : sub 118240336752787386417 mm = true) (hs : Only mm s0 s) :
    Only mm s0 (State.leaveRow s x f fx) := by
  unfold State.leaveRow
  try dsimp only
  repeat' first
    | (with_reducible first | assumption | apply only_ite | apply only_checkHead)
    | exact sub_trans rfl hm
    | split
    | with_reducible apply only_put1649267441664

theorem only_entryTag {s : State} (x : Stripe) (c : Nat) (r : Nat) (hm : sub 117598010581052301329 mm = true) (hs : Only mm s0 s) :
    Only mm s0 (State.entryTag s x c r) := by
  unfold State.entryTag
  repeat' first
    | (with_reducible first | assumption | apply only_putWord | apply only_inc | apply only_record)
    | exact sub_trans rfl hm

theorem only_enterRow {s : State} (x : Stripe) (f : Nat) (badEntry : List Nat) (hm : sub 117598010855930208273 mm = true) (hs : Only mm s0 s) :
    Only mm s0 (State.enterRow s x f badEntry) := by
  unfold State.enterRow
  try dsimp only
  repeat' first
    | (with_reducible first | assumption | apply only_ite | apply only_id | apply only_entryTag | apply only_wr | apply only_modStripe)
    | (with_reducible first | apply only_foldl)
    | exact sub_trans rfl hm
    | (intro _; intros; try dsimp only)
    | with_reducible apply only_put824633720832
    | split

theorem only_chain {s : State} (hi : Nat) (det : Nat) (a : RecArg) (hm : sub 117598008931784859665 mm = true) (hs : Only mm s0 s) :
    Only mm s0 (State.chain s hi det a) := by
  unfold State.chain
  try dsimp only
  repeat' first
    | (with_reducible first | assumption | apply only_bump | apply only_record)
    | exact sub_trans rfl hm

theorem only_shareBeam {s : State} (x : Stripe) (f : Nat) (e : CycleFaults) (q : Nat × Nat × Nat × Nat) (hm : sub 117598010581052301329 mm = true) (hs : Only mm s0 s) :
    Only mm s0 (State.shareBeam s x f e q).1 := by
  unfold State.shareBeam
  try dsimp only
  repeat' first
    | (with_reducible first | assumption | apply only_ite | apply only_post | apply only_chain | apply only_tagFault | apply only_putWord)
    | exact sub_trans rfl hm
    | (intro _; intros; try dsimp only)
    | split

theorem only_packFrames {s : State} (x : Stripe) (f : Nat) (codes : List (Nat × Nat)) (hm : sub 2199023255552 mm = true) (hs : Only mm s0 s) :
    Only mm s0 (State.packFrames s x f codes) := by
  unfold State.packFrames
  try dsimp only
  repeat' first
    | (with_reducible first | assumption | apply only_id | apply only_foldl)
    | exact sub_trans rfl hm
    | (intro _; intros; try dsimp only)
    | with_reducible apply only_put2199023255552

theorem only_shares {s : State} (x : Stripe) (f : Nat) (e : CycleFaults) (hm : sub 117598010581991825425 mm = true) (hs : Only mm s0 s) :
    Only mm s0 (State.shares s x f e) := by
  unfold State.shares
  try dsimp only
  repeat' first
    | (with_reducible first | assumption | apply only_lowerCap | apply only_tagFault | apply only_shareBeam | apply only_packFrames)
    | (with_reducible first | apply only_foldl | apply only_foldl_fst)
    | exact sub_trans rfl hm
    | (intro _; intros; try dsimp only)
    | with_reducible apply only_put134217728

theorem only_returnPending {s : State} (hm : sub 2199023255552 mm = true) (hs : Only mm s0 s) :
    Only mm s0 (State.returnPending s) := by
  unfold State.returnPending
  try dsimp only
  repeat' first
    | (with_reducible first | assumption | apply only_ite | apply only_returnShares | apply only_foldl)
    | exact sub_trans rfl hm
    | (intro _; intros; try dsimp only)
    | split

theorem only_cycle {s : State} (x : Stripe) (f : Nat) (e : CycleFaults) (hm : sub 118312675822741549105 mm = true) (hs : Only mm s0 s) :
    Only mm s0 (State.cycle s x f e) := by
  unfold State.cycle
  try dsimp only
  repeat' first
    | (with_reducible first | assumption | apply only_leaveRow | apply only_returnPending | apply only_applyCarries | apply only_enterRow)
    | (with_reducible first | apply only_shares | apply only_modStripe | apply only_sramErrs)
    | exact sub_trans rfl hm
    | (intro _; intros; try dsimp only)

theorem only_fieldLate {s : State} (x : Stripe) (f : Nat) (hm : sub 117598008931784859665 mm = true) (hs : Only mm s0 s) :
    Only mm s0 (State.fieldLate s x f) := by
  unfold State.fieldLate
  try dsimp only
  repeat' first
    | (with_reducible first | assumption | apply only_contain)
    | exact sub_trans rfl hm
    | (intro _; intros; try dsimp only)
    | split

theorem only_runCycle {s : State} (x : Stripe) (e : CycleFaults) (hm : sub 118312675822741549105 mm = true) (hs : Only mm s0 s) :
    Only mm s0 (State.runCycle s x e) := by
  unfold State.runCycle
  repeat' first
    | (with_reducible first | assumption | apply only_ite | apply only_fieldLate | apply only_cycle)
    | exact sub_trans rfl hm
    | split

theorem only_firstCycles (hm : sub 118312675822741549105 mm = true) : ∀ (n : Nat) (ord : Nat) {s : State}, Only mm s0 s → Only mm s0 (State.firstCycles n ord s)
  | 0, _, _, h => h
  | n + 1, ord, s, h => by
    unfold State.firstCycles
    split
    · exact h
    · split
      · exact h
      · exact only_firstCycles hm n ord (only_runCycle _ _ (sub_trans rfl hm) h)

theorem only_showCycle {s : State} (ns : Nat) (hm : sub 1 mm = true) (hs : Only mm s0 s) :
    Only mm s0 (State.showCycle s ns) := by
  unfold State.showCycle
  repeat' first
    | (with_reducible first | assumption | apply only_maxFld | apply only_setFld)
    | exact sub_trans rfl hm

theorem only_execShareCycle (late : Bool) (ns : Nat) (badEntry : List Nat) (badShare : List Nat) (badPack : List Nat) (badWords : List (Nat × Nat)) (sram : List SramErr) (fx : ExitFaults) {s : State} (hm : sub 118312675822741549105 mm = true) (hs : Only mm s0 s) :
    OnlyOut mm s0 (execShareCycle late ns badEntry badShare badPack badWords sram fx s) := by
  unfold execShareCycle
  try dsimp only
  repeat' first
    | (with_reducible first | assumption | exact trivial | apply onlyOut_next | apply onlyOut_ite | apply only_ite | apply only_contain)
    | (with_reducible first | apply only_runCycle | apply only_showCycle)
    | exact sub_trans rfl hm
    | split

theorem only_loadShepherd {s : State} (id : Nat) (t : List Byte) {u : State} (hm : sub 587202560 mm = true) (h : Only mm s0 s) (e : State.loadShepherd s id t = .ok u) :
    Only mm s0 u := by
  revert e
  unfold State.loadShepherd
  try dsimp only
  repeat' first
    | with_reducible assumption
    | exact sub_trans rfl hm
    | (intro e; cases e)
    | with_reducible apply only_put16777216
    | with_reducible apply only_put33554432
    | with_reducible apply only_put50331648
    | with_reducible apply only_put536870912
    | with_reducible apply only_put553648128
    | with_reducible apply only_put570425344
    | with_reducible apply only_put587202560
    | (intro e; injection e; subst_vars)
    | with_reducible apply only_ite
    | split

end Sys2Proof.Machine
end

