-- ==== Sys2Proof/Laws/OnlyFlink.lean ====
section
/-! SUPPORT. What each operation of Machine/Flink.lean may change of the state. -/

set_option linter.unusedVariables false
set_option linter.tactic.unusedName false

namespace Sys2Proof.Machine

variable {mm : Nat} {s0 : State}

theorem only_countMiss {s : State} (lane : Nat) (n : Nat) (hm : sub 2199023255553 mm = true) (hs : Only mm s0 s) :
    Only mm s0 (State.countMiss s lane n) := by
  unfold State.countMiss
  try dsimp only
  repeat' first
    | (with_reducible first | assumption | apply only_bump | apply only_setLane)
    | exact sub_trans rfl hm

theorem only_carryFrame {s : State} (f : LinkFrame) (slots : List Nat) (copyBad : Bool) (hm : sub 117598008931784859665 mm = true) (hs : Only mm s0 s) :
    Only mm s0 (State.carryFrame s f slots copyBad) := by
  unfold State.carryFrame
  try dsimp only
  repeat' first
    | (with_reducible first | assumption | apply only_ite | apply only_post | apply only_chain | apply only_modFrame)
    | exact sub_trans rfl hm
    | (intro _; intros; try dsimp only)
    | split

theorem only_cutMark {s : State} (f : LinkFrame) (copyBad : Bool) (hm : sub 117598008931784859665 mm = true) (hs : Only mm s0 s) :
    Only mm s0 (State.cutMark s f copyBad) := by
  unfold State.cutMark
  try dsimp only
  repeat' first
    | (with_reducible first | assumption | apply only_ite | apply only_post | apply only_chain | apply only_modFrame | apply only_record)
    | exact sub_trans rfl hm
    | (intro _; intros; try dsimp only)
    | split

theorem only_cutFrame {s : State} (f : LinkFrame) (copyBad : Bool) (hm : sub 117598008931784859665 mm = true) (hs : Only mm s0 s) :
    Only mm s0 (State.cutFrame s f copyBad) := by
  unfold State.cutFrame
  try dsimp only
  repeat' first
    | (with_reducible first | assumption | apply only_cutMark | apply only_modFrame)
    | exact sub_trans rfl hm
    | (intro _; intros; try dsimp only)

theorem only_conflict {s : State} (f : LinkFrame) (hm : sub 117598008931784859665 mm = true) (hs : Only mm s0 s) :
    Only mm s0 (State.conflict s f) := by
  unfold State.conflict
  try dsimp only
  repeat' first
    | (with_reducible first | assumption | apply only_ite | apply only_cutFrame | apply only_record)
    | exact sub_trans rfl hm
    | split

theorem only_slotsDone {s : State} (lane : Nat) (index : Nat) (copyBad : Bool) (hm : sub 117598008931784859665 mm = true) (hs : Only mm s0 s) :
    Only mm s0 (State.slotsDone s lane index copyBad) := by
  unfold State.slotsDone
  try dsimp only
  repeat' first
    | (with_reducible first | assumption | apply only_ite | apply only_carryFrame | apply only_countMiss | apply only_record)
    | (with_reducible first | apply only_modFrame | apply only_foldl)
    | exact sub_trans rfl hm
    | (intro _; intros; try dsimp only)
    | split

theorem only_trySettle {s : State} (lane : Nat) (index : Nat) (copyBad : Bool) (hm : sub 117598008931784859665 mm = true) (hs : Only mm s0 s) :
    Only mm s0 (State.trySettle s lane index copyBad) := by
  unfold State.trySettle
  try dsimp only
  repeat' first
    | (with_reducible first | assumption | apply only_ite | apply only_chain | apply only_modFrame)
    | exact sub_trans rfl hm
    | (intro _; intros; try dsimp only)
    | split

theorem only_laneDown {s : State} (lane : Nat) (hm : sub 117598008931784859665 mm = true) (hs : Only mm s0 s) :
    Only mm s0 (State.laneDown s lane) := by
  unfold State.laneDown
  try dsimp only
  repeat' first
    | (with_reducible first | assumption | apply only_ite | apply only_conflict | apply only_setLane | apply only_record | apply only_foldl)
    | exact sub_trans rfl hm
    | (intro _; intros; try dsimp only)
    | split

theorem only_laneFail {s : State} (lane : Nat) (code : Nat) (detail : Nat) (hm : sub 117598008931784859665 mm = true) (hs : Only mm s0 s) :
    Only mm s0 (State.laneFail s lane code detail) := by
  unfold State.laneFail
  try dsimp only
  repeat' first
    | (with_reducible first | assumption | apply only_setLane | apply only_record)
    | exact sub_trans rfl hm

theorem only_retrainLane {s : State} (lane : Nat) (hm : sub 73786978493861462016 mm = true) (hs : Only mm s0 s) :
    Only mm s0 (State.retrainLane s lane) := by
  unfold State.retrainLane
  try dsimp only
  repeat' first
    | (with_reducible first | assumption | apply only_ite | apply only_setLane | apply only_emit)
    | exact sub_trans rfl hm
    | with_reducible apply only_put2199023255552
    | split

theorem only_withhold {s : State} (f : LinkFrame) (hm : sub 117598008931784859665 mm = true) (hs : Only mm s0 s) :
    Only mm s0 (State.withhold s f) := by
  unfold State.withhold
  try dsimp only
  repeat' first
    | (with_reducible first | assumption | apply only_post | apply only_modFrame | apply only_inc | apply only_countMiss | apply only_record)
    | exact sub_trans rfl hm
    | (intro _; intros; try dsimp only)

theorem only_sendFrame {s : State} (f : LinkFrame) (slack : Option Nat) (lateNs : Nat) (hm : sub 73786978493861462017 mm = true) (hs : Only mm s0 s) :
    Only mm s0 (State.sendFrame s f slack lateNs) := by
  unfold State.sendFrame
  try dsimp only
  repeat' first
    | (with_reducible first | assumption | apply only_ite | apply only_setLane | apply only_modFrames | apply only_modFrame)
    | (with_reducible first | apply only_noteSlack | apply only_setFld | apply only_emit)
    | exact sub_trans rfl hm
    | (intro _; intros; try dsimp only)
    | split

theorem only_execFrameSend (lane : Nat) (slack : Option Nat) (lateNs : Nat) {s : State} (hm : sub 117598008931784859665 mm = true) (hs : Only mm s0 s) :
    OnlyOut mm s0 (execFrameSend lane slack lateNs s) := by
  unfold execFrameSend
  try dsimp only
  repeat' first
    | (with_reducible first | assumption | exact trivial | apply onlyOut_next | apply onlyOut_ite | apply only_ite | apply only_withhold)
    | (with_reducible first | apply only_boundaryOf | apply only_sendFrame)
    | exact sub_trans rfl hm
    | (intro _; intros; try dsimp only)
    | split

theorem only_badMsg {s : State} (m : BitVec 64) (hm : sub 117598008931784859665 mm = true) (hs : Only mm s0 s) :
    Only mm s0 (State.badMsg s m) := by
  unfold State.badMsg
  try dsimp only
  repeat' first
    | (with_reducible first | assumption | apply only_record)
    | exact sub_trans rfl hm

theorem only_message {s : State} (m : BitVec 64) (typ : Nat) {take : State → State} (hm : sub 117598008931784859665 mm = true) (hs : Only mm s0 s) (htake : ∀ t, Only mm s0 t → Only mm s0 (take t)) :
    OnlyOut mm s0 (State.message s m typ take) := by
  unfold State.message
  repeat' first
    | (with_reducible first | assumption | exact trivial | apply onlyOut_next | apply onlyOut_ite | apply only_ite | apply htake)
    | (with_reducible first | apply only_badMsg | apply only_take)
    | exact sub_trans rfl hm
    | split

theorem only_replay {s : State} (f : LinkFrame) (copyBad : Bool) (slack : Option Nat) (hm : sub 117598008931784859665 mm = true) (hs : Only mm s0 s) :
    Only mm s0 (State.replay s f copyBad slack) := by
  unfold State.replay
  try dsimp only
  repeat' first
    | (with_reducible first | assumption | apply only_ite | apply only_chain | apply only_modFrame | apply only_setLane)
    | exact sub_trans rfl hm
    | (intro _; intros; try dsimp only)
    | split

theorem only_nak {s : State} (f : LinkFrame) (silent : Bool) (copyBad : Bool) (slack : Option Nat) (hm : sub 117598008931784859665 mm = true) (hs : Only mm s0 s) :
    Only mm s0 (State.nak s f silent copyBad slack) := by
  unfold State.nak
  try dsimp only
  repeat' first
    | (with_reducible first | assumption | apply only_ite | apply only_setLane | apply only_inc | apply only_record | apply only_modFrame)
    | (with_reducible first | apply only_replay | apply only_laneDown)
    | exact sub_trans rfl hm
    | (intro _; intros; try dsimp only)
    | split

theorem only_execRxStatus (m : BitVec 64) (copyBad : Bool) (slack : Option Nat) {s : State} (hm : sub 117598008931784859665 mm = true) (hs : Only mm s0 s) :
    OnlyOut mm s0 (execRxStatus m copyBad slack s) := by
  unfold execRxStatus
  try dsimp only
  repeat' first
    | (with_reducible first | assumption | exact trivial | apply onlyOut_next | apply onlyOut_ite | apply only_ite | apply only_message)
    | (with_reducible first | apply only_boundaryOf | apply only_nak | apply only_modFrame | apply only_setLane)
    | exact sub_trans rfl hm
    | (intro _; intros; try dsimp only)
    | split

theorem only_execRxStatusTimeout (lane : Nat) (flash : Nat) (copyBad : Bool) (slack : Option Nat) {s : State} (hm : sub 117598008931784859665 mm = true) (hs : Only mm s0 s) :
    OnlyOut mm s0 (execRxStatusTimeout lane flash copyBad slack s) := by
  unfold execRxStatusTimeout
  try dsimp only
  repeat' first
    | (with_reducible first | assumption | exact trivial | apply onlyOut_next | apply onlyOut_ite | apply only_ite | apply only_boundaryOf)
    | (with_reducible first | apply only_nak)
    | exact sub_trans rfl hm
    | split

theorem only_latchTake {s : State} (f : LinkFrame) (status : Nat) (count : Nat) (copyBad : Bool) (hm : sub 117598008931784859665 mm = true) (hs : Only mm s0 s) :
    Only mm s0 (State.latchTake s f status count copyBad) := by
  unfold State.latchTake
  try dsimp only
  repeat' first
    | (with_reducible first | assumption | apply only_ite | apply only_modFrame | apply only_setLane | apply only_take | apply only_trySettle)
    | (with_reducible first | apply only_conflict | apply only_carryFrame | apply only_countMiss | apply only_record | apply only_cutMark)
    | (with_reducible first | apply only_slotsDone)
    | exact sub_trans rfl hm
    | (intro _; intros; try dsimp only)
    | split

theorem only_flashSlip {s : State} (lane : Nat) (lo : Nat) (hm : sub 117598008931784859665 mm = true) (hs : Only mm s0 s) :
    Only mm s0 (State.flashSlip s lane lo) := by
  unfold State.flashSlip
  try dsimp only
  repeat' first
    | (with_reducible first | assumption | apply only_contain | apply only_cutFrame | apply only_foldl)
    | exact sub_trans rfl hm
    | (intro _; intros; try dsimp only)
    | split

theorem only_execLatch (m : BitVec 64) (copyBad : Bool) {s : State} (hm : sub 117598008931784859665 mm = true) (hs : Only mm s0 s) :
    OnlyOut mm s0 (execLatch m copyBad s) := by
  unfold execLatch
  try dsimp only
  repeat' first
    | (with_reducible first | assumption | exact trivial | apply onlyOut_next | apply onlyOut_ite | apply only_ite | apply only_message)
    | (with_reducible first | apply only_flashSlip | apply only_latchTake | apply only_conflict)
    | exact sub_trans rfl hm
    | (intro _; intros; try dsimp only)
    | split

theorem only_beamFault {s : State} (f : LinkFrame) (slot : Nat) (fault : Nat) (hm : sub 117598008932791492625 mm = true) (hs : Only mm s0 s) :
    Only mm s0 (State.beamFault s f slot fault) := by
  unfold State.beamFault
  try dsimp only
  repeat' first
    | (with_reducible first | assumption | apply only_ite | apply only_record | apply only_strayWrite | apply only_post | apply only_contain)
    | exact sub_trans rfl hm
    | (intro _; intros; try dsimp only)
    | split

theorem only_execSlotMiss (m : BitVec 64) {s : State} (hm : sub 117598008932791492625 mm = true) (hs : Only mm s0 s) :
    OnlyOut mm s0 (execSlotMiss m s) := by
  unfold execSlotMiss
  try dsimp only
  repeat' first
    | (with_reducible first | assumption | exact trivial | apply onlyOut_next | apply onlyOut_ite | apply only_ite | apply only_message)
    | (with_reducible first | apply only_conflict | apply only_modFrame | apply only_beamFault | apply only_slotsDone | apply only_trySettle)
    | exact sub_trans rfl hm
    | (intro _; intros; try dsimp only)
    | split

theorem only_mismatchRec {s : State} (f : LinkFrame) (got : Nat) (stripe : Option (Nat × Nat)) (hm : sub 117598008931784859665 mm = true) (hs : Only mm s0 s) :
    Only mm s0 (State.mismatchRec s f got stripe) := by
  unfold State.mismatchRec
  try dsimp only
  repeat' first
    | (with_reducible first | assumption | apply only_inc | apply only_wr | apply only_record)
    | exact sub_trans rfl hm

theorem only_mismatch {s : State} (f : LinkFrame) (got : Nat) (hm : sub 117598008931784859665 mm = true) (hs : Only mm s0 s) :
    Only mm s0 (State.mismatch s f got) := by
  unfold State.mismatch
  try dsimp only
  repeat' first
    | (with_reducible first | assumption | apply only_mismatchRec | apply only_post | apply only_modFrame)
    | exact sub_trans rfl hm
    | (intro _; intros; try dsimp only)

theorem only_testEcho {s : State} (lane : Nat) (lo : Nat) (got : Nat) (hm : sub 117598008931784859665 mm = true) (hs : Only mm s0 s) :
    Only mm s0 (State.testEcho s lane lo got) := by
  unfold State.testEcho
  try dsimp only
  repeat' first
    | (with_reducible first | assumption | apply only_ite | apply only_inc | apply only_setLane | apply only_mismatchRec | apply only_laneFail)
    | exact sub_trans rfl hm
    | (intro _; intros; try dsimp only)
    | split

theorem only_execEcho (m : BitVec 64) {s : State} (hm : sub 117598008931784859665 mm = true) (hs : Only mm s0 s) :
    OnlyOut mm s0 (execEcho m s) := by
  unfold execEcho
  try dsimp only
  repeat' first
    | (with_reducible first | assumption | exact trivial | apply onlyOut_next | apply onlyOut_ite | apply only_ite | apply only_message)
    | (with_reducible first | apply only_testEcho | apply only_conflict | apply only_inc | apply only_modFrame | apply only_trySettle)
    | (with_reducible first | apply only_mismatch)
    | exact sub_trans rfl hm
    | (intro _; intros; try dsimp only)
    | split

theorem only_execSensor (m : BitVec 64) {s : State} (hm : sub 117598008931784859665 mm = true) (hs : Only mm s0 s) :
    OnlyOut mm s0 (execSensor m s) := by
  unfold execSensor
  try dsimp only
  repeat' first
    | (with_reducible first | assumption | exact trivial | apply onlyOut_next | apply onlyOut_ite | apply only_ite | apply only_message)
    | exact sub_trans rfl hm
    | (intro _; intros; try dsimp only)
    | with_reducible apply only_put2199023255552
    | split

theorem only_execFlinkSensorSilent (i : Nat) {s : State} (hm : sub 117598008931784859665 mm = true) (hs : Only mm s0 s) :
    OnlyOut mm s0 (execFlinkSensorSilent i s) := by
  unfold execFlinkSensorSilent
  try dsimp only
  repeat' first
    | (with_reducible first | assumption | exact trivial | apply onlyOut_next | apply onlyOut_ite | apply only_ite | apply only_record)
    | exact sub_trans rfl hm
    | with_reducible apply only_put2199023255552
    | split

theorem only_execBlankerCaps (m : BitVec 64) {s : State} (hm : sub 117598008931784859665 mm = true) (hs : Only mm s0 s) :
    OnlyOut mm s0 (execBlankerCaps m s) := by
  unfold execBlankerCaps
  try dsimp only
  repeat' first
    | (with_reducible first | assumption | exact trivial | apply onlyOut_next | apply onlyOut_ite | apply only_ite | apply only_message)
    | (with_reducible first | apply only_setLane | apply only_laneFail)
    | exact sub_trans rfl hm
    | (intro _; intros; try dsimp only)
    | split

theorem only_execBlankerEvent (m : BitVec 64) {s : State} (hm : sub 117598008931784859665 mm = true) (hs : Only mm s0 s) :
    OnlyOut mm s0 (execBlankerEvent m s) := by
  unfold execBlankerEvent
  try dsimp only
  repeat' first
    | (with_reducible first | assumption | exact trivial | apply onlyOut_next | apply onlyOut_ite | apply only_ite | apply only_message)
    | (with_reducible first | apply only_laneDown | apply only_laneFail)
    | exact sub_trans rfl hm
    | (intro _; intros; try dsimp only)
    | with_reducible apply only_put2199023255552
    | split

theorem only_execFlinkReportLate (lane : Nat) (flash : Nat) {s : State} (hm : sub 117598008931784859665 mm = true) (hs : Only mm s0 s) :
    OnlyOut mm s0 (execFlinkReportLate lane flash s) := by
  unfold execFlinkReportLate
  try dsimp only
  repeat' first
    | (with_reducible first | assumption | exact trivial | apply onlyOut_next | apply onlyOut_ite | apply only_ite | apply only_inc)
    | (with_reducible first | apply only_modFrame | apply only_emit | apply only_record)
    | exact sub_trans rfl hm
    | (intro _; intros; try dsimp only)
    | split

theorem only_execReportAgainRetry (lane : Nat) (flash : Nat) {s : State} (hm : sub 117598008931784859665 mm = true) (hs : Only mm s0 s) :
    OnlyOut mm s0 (execReportAgainRetry lane flash s) := by
  unfold execReportAgainRetry
  try dsimp only
  repeat' first
    | (with_reducible first | assumption | exact trivial | apply onlyOut_next | apply onlyOut_ite | apply only_ite | apply only_modFrame)
    | (with_reducible first | apply only_emit | apply only_laneDown)
    | exact sub_trans rfl hm
    | (intro _; intros; try dsimp only)
    | split

theorem only_execReturnLaneLockLost (q : Nat) {s : State} (hm : sub 117598008931784859665 mm = true) (hs : Only mm s0 s) :
    OnlyOut mm s0 (execReturnLaneLockLost q s) := by
  unfold execReturnLaneLockLost
  try dsimp only
  repeat' first
    | (with_reducible first | assumption | exact trivial | apply onlyOut_next | apply onlyOut_ite | apply only_ite | apply only_laneDown)
    | (with_reducible first | apply only_foldl)
    | exact sub_trans rfl hm
    | (intro _; intros; try dsimp only)
    | with_reducible apply only_put2199023255552
    | split

theorem only_execLaneCapsDone (lane : Nat) {s : State} (hm : sub 117598008931784859665 mm = true) (hs : Only mm s0 s) :
    OnlyOut mm s0 (execLaneCapsDone lane s) := by
  unfold execLaneCapsDone
  try dsimp only
  repeat' first
    | (with_reducible first | assumption | exact trivial | apply onlyOut_next | apply onlyOut_ite | apply only_ite | apply only_laneFail)
    | (with_reducible first | apply only_setLane)
    | exact sub_trans rfl hm
    | split

theorem only_execLaneEyeMeasured (lane : Nat) (w : Nat) (h : Nat) {s : State} (hm : sub 117598008931784859665 mm = true) (hs : Only mm s0 s) :
    OnlyOut mm s0 (execLaneEyeMeasured lane w h s) := by
  unfold execLaneEyeMeasured
  try dsimp only
  repeat' first
    | (with_reducible first | assumption | exact trivial | apply onlyOut_next | apply onlyOut_ite | apply only_ite | apply only_setLane)
    | (with_reducible first | apply only_emit | apply only_laneFail)
    | exact sub_trans rfl hm
    | (intro _; intros; try dsimp only)
    | split

theorem only_keepLane {s : State} (lane : Nat) (hm : sub 37029163484240150561 mm = true) (hs : Only mm s0 s) :
    Only mm s0 (State.keepLane s lane) := by
  unfold State.keepLane
  try dsimp only
  repeat' first
    | (with_reducible first | assumption | apply only_fresh | apply only_putKeep | apply only_take)
    | exact sub_trans rfl hm

theorem only_laneIdle {s : State} (lane : Nat) (hm : sub 73841021689389907968 mm = true) (hs : Only mm s0 s) :
    Only mm s0 (State.laneIdle s lane) := by
  unfold State.laneIdle
  try dsimp only
  repeat' first
    | (with_reducible first | assumption | apply only_setLane | apply only_emit | apply only_laneComes)
    | exact sub_trans rfl hm

theorem only_execLaneBlockLock (lane : Nat) (order : Bool) {s : State} (hm : sub 117652052127313305617 mm = true) (hs : Only mm s0 s) :
    OnlyOut mm s0 (execLaneBlockLock lane order s) := by
  unfold execLaneBlockLock
  try dsimp only
  repeat' first
    | (with_reducible first | assumption | exact trivial | apply onlyOut_next | apply onlyOut_ite | apply only_ite | apply only_laneFail)
    | (with_reducible first | apply only_setLane | apply only_laneIdle | apply only_emit)
    | exact sub_trans rfl hm
    | split

theorem only_laneUp {s : State} (lane : Nat) (hm : sub 117733679870559395889 mm = true) (hs : Only mm s0 s) :
    Only mm s0 (State.laneUp s lane) := by
  unfold State.laneUp
  try dsimp only
  repeat' first
    | (with_reducible first | assumption | apply only_ite | apply only_laneIdle | apply only_setLane | apply only_keepLane | apply only_record)
    | exact sub_trans rfl hm
    | split

theorem only_execLaneVerifyDone (lane : Nat) (ok : Bool) {s : State} (hm : sub 117733679870559395889 mm = true) (hs : Only mm s0 s) :
    OnlyOut mm s0 (execLaneVerifyDone lane ok s) := by
  unfold execLaneVerifyDone
  try dsimp only
  repeat' first
    | (with_reducible first | assumption | exact trivial | apply onlyOut_next | apply onlyOut_ite | apply only_ite | apply only_laneFail)
    | (with_reducible first | apply only_laneUp)
    | exact sub_trans rfl hm
    | split

theorem only_execFlinkTrainFail (lane : Nat) {s : State} (hm : sub 117598008931784859665 mm = true) (hs : Only mm s0 s) :
    OnlyOut mm s0 (execFlinkTrainFail lane s) := by
  unfold execFlinkTrainFail
  repeat' first
    | (with_reducible first | assumption | exact trivial | apply onlyOut_next | apply onlyOut_ite | apply only_ite | apply only_laneFail)
    | exact sub_trans rfl hm
    | split

theorem only_execRetrain (o : Origin) (v : Nat) {s : State} (hm : sub 117598008931784859665 mm = true) (hs : Only mm s0 s) :
    OnlyOut mm s0 (execRetrain o v s) := by
  unfold execRetrain
  try dsimp only
  repeat' first
    | (with_reducible first | assumption | exact trivial | apply onlyOut_next | apply onlyOut_ite | apply only_ite | apply only_act)
    | (with_reducible first | apply only_setLane | apply only_retrainLane | apply only_foldl)
    | exact sub_trans rfl hm
    | (intro _; intros; try dsimp only)
    | split

theorem only_execLaneRetrainTurnaround (lane : Nat) {s : State} (hm : sub 73786978493861462016 mm = true) (hs : Only mm s0 s) :
    OnlyOut mm s0 (execLaneRetrainTurnaround lane s) := by
  unfold execLaneRetrainTurnaround
  repeat' first
    | (with_reducible first | assumption | exact trivial | apply onlyOut_next | apply onlyOut_ite | apply only_ite | apply only_retrainLane)
    | exact sub_trans rfl hm
    | (intro _; intros; try dsimp only)
    | split

theorem only_execLpiEntry (lane : Nat) {s : State} (hm : sub 73786978493861462016 mm = true) (hs : Only mm s0 s) :
    OnlyOut mm s0 (execLpiEntry lane s) := by
  unfold execLpiEntry
  try dsimp only
  repeat' first
    | (with_reducible first | assumption | exact trivial | apply onlyOut_next | apply onlyOut_ite | apply only_ite | apply only_setLane)
    | (with_reducible first | apply only_emit)
    | exact sub_trans rfl hm
    | split

theorem only_wakeLanes {s : State} (hm : sub 73786978493861462016 mm = true) (hs : Only mm s0 s) :
    Only mm s0 (State.wakeLanes s) := by
  unfold State.wakeLanes
  try dsimp only
  repeat' first
    | (with_reducible first | assumption | apply only_ite | apply only_setLane | apply only_emit | apply only_foldl)
    | exact sub_trans rfl hm
    | (intro _; intros; try dsimp only)
    | split

theorem only_execLaneEyeScan (lane : Nat) (w : Nat) (h : Nat) {s : State} (hm : sub 2199023255552 mm = true) (hs : Only mm s0 s) :
    OnlyOut mm s0 (execLaneEyeScan lane w h s) := by
  unfold execLaneEyeScan
  try dsimp only
  repeat' first
    | (with_reducible first | assumption | exact trivial | apply onlyOut_next | apply onlyOut_ite | apply only_ite | apply only_setLane)
    | exact sub_trans rfl hm
    | split

end Sys2Proof.Machine
end

