-- ==== Sys2Proof/Laws/OnlyDrover.lean ====
section
/-! SUPPORT. What each operation of Machine/Drover.lean may change of the state. -/

set_option linter.unusedVariables false
set_option linter.tactic.unusedName false

namespace Sys2Proof.Machine

variable {mm : Nat} {s0 : State}

theorem only_setEnc {s : State} (ch : Nat) (e : Enc) (hm : sub 4398046511104 mm = true) (hs : Only mm s0 s) :
    Only mm s0 (State.setEnc s ch e) := by
  unfold State.setEnc
  try dsimp only
  repeat' first
    | (with_reducible first | assumption)
    | exact sub_trans rfl hm
    | (intro _; intros; try dsimp only)
    | with_reducible apply only_put4398046511104

theorem only_take {s : State} (ch : Nat) (m : ChanIn) (hm : sub 4398046511104 mm = true) (hs : Only mm s0 s) :
    Only mm s0 (State.take s ch m) := by
  unfold State.take
  try dsimp only
  repeat' first
    | (with_reducible first | assumption | apply only_setEnc | apply only_foldl)
    | exact sub_trans rfl hm
    | (intro _; intros; try dsimp only)
    | split

theorem only_see {s : State} (m : Sample) (hm : sub 4398046511104 mm = true) (hs : Only mm s0 s) :
    Only mm s0 (State.see s m) := by
  unfold State.see
  repeat' first
    | (with_reducible first | assumption | apply only_ite | apply only_take | apply only_foldl)
    | exact sub_trans rfl hm
    | (intro _; intros; try dsimp only)
    | split

theorem only_execEncZEdge (ch : Nat) (inp : ChanIn) {s : State} (hm : sub 4398046511104 mm = true) (hs : Only mm s0 s) :
    OnlyOut mm s0 (execEncZEdge ch inp s) := by
  unfold execEncZEdge
  try dsimp only
  repeat' first
    | (with_reducible first | assumption | exact trivial | apply onlyOut_next | apply onlyOut_ite | apply only_ite | apply only_take)
    | (with_reducible first | apply only_setEnc)
    | exact sub_trans rfl hm
    | split

theorem only_execDetect (o : Origin) (v : Nat) {s : State} (hm : sub 117598008931784859665 mm = true) (hs : Only mm s0 s) :
    OnlyOut mm s0 (execDetect o v s) := by
  unfold execDetect
  try dsimp only
  repeat' first
    | (with_reducible first | assumption | exact trivial | apply onlyOut_next | apply onlyOut_ite | apply only_ite | apply only_act)
    | (with_reducible first | apply only_setEnc | apply only_foldl)
    | exact sub_trans rfl hm
    | (intro _; intros; try dsimp only)
    | with_reducible apply only_put4398046511104
    | split

theorem only_execDetectDone (modes : List Nat) (loopNs : List Nat) {s : State} (hm : sub 4398046511104 mm = true) (hs : Only mm s0 s) :
    OnlyOut mm s0 (execDetectDone modes loopNs s) := by
  unfold execDetectDone
  try dsimp only
  repeat' first
    | (with_reducible first | assumption | exact trivial | apply onlyOut_next | apply onlyOut_ite | apply only_ite | apply only_setEnc)
    | (with_reducible first | apply only_foldl)
    | exact sub_trans rfl hm
    | (intro _; intros; try dsimp only)
    | with_reducible apply only_put4398046511104
    | split

theorem only_rewindDrover {s : State} (hm : sub 4398046511104 mm = true) (hs : Only mm s0 s) :
    Only mm s0 (State.rewindDrover s) := by
  unfold State.rewindDrover
  try dsimp only
  repeat' first
    | (with_reducible first | assumption)
    | exact sub_trans rfl hm
    | with_reducible apply only_put4398046511104

theorem only_showDemand {s : State} (hm : sub 1 mm = true) (hs : Only mm s0 s) :
    Only mm s0 (State.showDemand s) := by
  unfold State.showDemand
  try dsimp only
  repeat' first
    | (with_reducible first | assumption | apply only_maxFld | apply only_setFld)
    | exact sub_trans rfl hm

theorem only_locate {s : State} (x : Stripe) (hm : sub 4398046511105 mm = true) (hs : Only mm s0 s) :
    Only mm s0 (State.locate s x) := by
  unfold State.locate
  try dsimp only
  repeat' first
    | (with_reducible first | assumption | apply only_setFld | apply only_showDemand)
    | exact sub_trans rfl hm
    | with_reducible apply only_put4398046511104

theorem only_sample {s : State} (x : Stripe) (m : Sample) (hm : sub 4398046511105 mm = true) (hs : Only mm s0 s) :
    Only mm s0 (State.sample s x m) := by
  unfold State.sample
  repeat' first
    | (with_reducible first | assumption | apply only_see | apply only_locate)
    | exact sub_trans rfl hm

theorem only_peak {s : State} (hm : sub 4398046511104 mm = true) (hs : Only mm s0 s) :
    Only mm s0 (State.peak s) := by
  unfold State.peak
  try dsimp only
  repeat' first
    | (with_reducible first | assumption)
    | exact sub_trans rfl hm
    | with_reducible apply only_put4398046511104

theorem only_fallback {s : State} (hm : sub 1 mm = true) (hs : Only mm s0 s) :
    Only mm s0 (State.fallback s) := by
  unfold State.fallback
  repeat' first
    | (with_reducible first | assumption | apply only_ite | apply only_setFld)
    | exact sub_trans rfl hm
    | split

theorem only_cutFlashes {s : State} (l : List Nat) (hm : sub 4398046511104 mm = true) (hs : Only mm s0 s) :
    Only mm s0 (State.cutFlashes s l) := by
  unfold State.cutFlashes
  try dsimp only
  repeat' first
    | (with_reducible first | assumption)
    | exact sub_trans rfl hm
    | (intro _; intros; try dsimp only)
    | with_reducible apply only_put4398046511104

theorem only_linkLost {s : State} (inWindow : Bool) (hm : sub 117598008931784859665 mm = true) (hs : Only mm s0 s) :
    Only mm s0 (State.linkLost s inWindow) := by
  unfold State.linkLost
  try dsimp only
  repeat' first
    | (with_reducible first | assumption | apply only_ite | apply only_fallback | apply only_contain | apply only_cutFlashes)
    | (with_reducible first | apply only_record)
    | exact sub_trans rfl hm
    | split

theorem only_pace {s : State} (lim : Nat) (lag : Nat) (hm : sub 117598008931784859665 mm = true) (hs : Only mm s0 s) :
    Only mm s0 (State.pace s lim lag) := by
  unfold State.pace
  try dsimp only
  repeat' first
    | (with_reducible first | assumption | apply only_ite | apply only_wr | apply only_setFld | apply only_record)
    | exact sub_trans rfl hm
    | with_reducible apply only_put4398046511104
    | split

theorem only_strobe {s : State} (x : Stripe) (hm : sub 110680479835420098561 mm = true) (hs : Only mm s0 s) :
    Only mm s0 (State.strobe s x) := by
  unfold State.strobe
  try dsimp only
  repeat' first
    | (with_reducible first | assumption | apply only_boundaryOf | apply only_take | apply only_wr64 | apply only_emit | apply only_foldl)
    | exact sub_trans rfl hm
    | (intro _; intros; try dsimp only)
    | with_reducible apply only_put2199023255552
    | with_reducible apply only_put4398046511104
    | with_reducible apply only_put6597069766656
    | with_reducible apply only_put8796093022208
    | with_reducible apply only_put10995116277760
    | with_reducible apply only_put13194139533312
    | with_reducible apply only_put15393162788864

theorem only_withholdLate {s : State} (x : Stripe) (f : Nat) (hm : sub 117598008931784859665 mm = true) (hs : Only mm s0 s) :
    Only mm s0 (State.withholdLate s x f) := by
  unfold State.withholdLate
  repeat' first
    | (with_reducible first | assumption | apply only_withhold | apply only_foldl)
    | exact sub_trans rfl hm
    | (intro _; intros; try dsimp only)

theorem only_lastFired {s : State} (x : Stripe) (hm : sub 4398050705409 mm = true) (hs : Only mm s0 s) :
    Only mm s0 (State.lastFired s x) := by
  unfold State.lastFired
  try dsimp only
  repeat' first
    | (with_reducible first | assumption | apply only_ite | apply only_modStripe | apply only_droverTo | apply only_showStripes)
    | exact sub_trans rfl hm
    | (intro _; intros; try dsimp only)
    | split

theorem only_missedCkpt {s : State} (x : Stripe) (hm : sub 118240336752787386417 mm = true) (hs : Only mm s0 s) :
    Only mm s0 (State.missedCkpt s x) := by
  unfold State.missedCkpt
  try dsimp only
  repeat' first
    | (with_reducible first | assumption | apply only_modStripe | apply only_fail | apply only_endIfDone | apply only_foldl)
    | exact sub_trans rfl hm
    | (intro _; intros; try dsimp only)

theorem only_afterStrobe {s : State} (x : Stripe) (hm : sub 118240336752787386417 mm = true) (hs : Only mm s0 s) :
    Only mm s0 (State.afterStrobe s x) := by
  unfold State.afterStrobe
  try dsimp only
  repeat' first
    | (with_reducible first | assumption | apply only_ite | apply only_contain | apply only_modStripe | apply only_missedCkpt)
    | exact sub_trans rfl hm
    | (intro _; intros; try dsimp only)
    | split
    | with_reducible apply only_put4398046511104

theorem only_fire {s : State} (x : Stripe) (sincePs : Nat) (hm : sub 118240336752787386417 mm = true) (hs : Only mm s0 s) :
    Only mm s0 (State.fire s x sincePs) := by
  unfold State.fire
  try dsimp only
  repeat' first
    | (with_reducible first | assumption | apply only_ite | apply only_fresh | apply only_take | apply only_strobe | apply only_withholdLate)
    | (with_reducible first | apply only_droverTo | apply only_pace | apply only_showDemand | apply only_lastFired | apply only_afterStrobe)
    | exact sub_trans rfl hm
    | with_reducible apply only_put4398046511104
    | split

theorem only_resumed {s : State} (x : Stripe) (hm : sub 4194305 mm = true) (hs : Only mm s0 s) :
    Only mm s0 (State.resumed s x) := by
  unfold State.resumed
  try dsimp only
  repeat' first
    | (with_reducible first | assumption | apply only_modStripe | apply only_setFld | apply only_showStripes)
    | exact sub_trans rfl hm
    | (intro _; intros; try dsimp only)

theorem only_overspeed {s : State} (hm : sub 117598008931784859665 mm = true) (hs : Only mm s0 s) :
    Only mm s0 (State.overspeed s) := by
  unfold State.overspeed
  repeat' first
    | (with_reducible first | assumption | apply only_ite | apply only_cutFlashes | apply only_contain)
    | exact sub_trans rfl hm
    | split

theorem only_sampled {s : State} (x : Stripe) (m : Sample) (inWindow : Bool) (hm : sub 117598008931784859665 mm = true) (hs : Only mm s0 s) :
    Only mm s0 (State.sampled s x m inWindow) := by
  unfold State.sampled
  try dsimp only
  repeat' first
    | (with_reducible first | assumption | apply only_ite | apply only_sample | apply only_peak | apply only_overspeed)
    | exact sub_trans rfl hm
    | split

theorem only_execFlashFire (smp : Sample) (sincePs : Nat) {s : State} (hm : sub 118240336752787386417 mm = true) (hs : Only mm s0 s) :
    OnlyOut mm s0 (execFlashFire smp sincePs s) := by
  unfold execFlashFire
  try dsimp only
  repeat' first
    | (with_reducible first | assumption | exact trivial | apply onlyOut_next | apply onlyOut_ite | apply only_ite | apply only_sample)
    | (with_reducible first | apply only_peak | apply only_overspeed | apply only_contain | apply only_resumed | apply only_fire)
    | exact sub_trans rfl hm
    | split

theorem only_execZoneBoundary (smp : Sample) {s : State} (hm : sub 117598008931784859665 mm = true) (hs : Only mm s0 s) :
    OnlyOut mm s0 (execZoneBoundary smp s) := by
  unfold execZoneBoundary
  try dsimp only
  repeat' first
    | (with_reducible first | assumption | exact trivial | apply onlyOut_next | apply onlyOut_ite | apply only_ite | apply only_see)
    | (with_reducible first | apply only_sampled)
    | exact sub_trans rfl hm
    | split

theorem only_confirmFlash {s : State} (i : Nat) (hm : sub 117598008931784859665 mm = true) (hs : Only mm s0 s) :
    Only mm s0 (State.confirmFlash s i) := by
  unfold State.confirmFlash
  try dsimp only
  repeat' first
    | (with_reducible first | assumption | apply only_ite | apply only_cutFrame | apply only_modFrames | apply only_foldl)
    | exact sub_trans rfl hm
    | (intro _; intros; try dsimp only)
    | with_reducible apply only_put4398046511104
    | split

theorem only_execFlashConfirm (flash : Nat) {s : State} (hm : sub 117598008931784859665 mm = true) (hs : Only mm s0 s) :
    OnlyOut mm s0 (execFlashConfirm flash s) := by
  unfold execFlashConfirm
  repeat' first
    | (with_reducible first | assumption | exact trivial | apply onlyOut_next | apply onlyOut_ite | apply only_ite | apply only_confirmFlash)
    | exact sub_trans rfl hm
    | split

theorem only_execDroverOverspeed (smp : Sample) (inWindow : Bool) {s : State} (hm : sub 117598008931784859665 mm = true) (hs : Only mm s0 s) :
    OnlyOut mm s0 (execDroverOverspeed smp inWindow s) := by
  unfold execDroverOverspeed
  try dsimp only
  repeat' first
    | (with_reducible first | assumption | exact trivial | apply onlyOut_next | apply onlyOut_ite | apply only_ite | apply only_see)
    | (with_reducible first | apply only_sampled)
    | exact sub_trans rfl hm
    | split

theorem only_loseChannel {s : State} (ch : Nat) (cause : Nat) (hm : sub 4398046511105 mm = true) (hs : Only mm s0 s) :
    Only mm s0 (State.loseChannel s ch cause) := by
  unfold State.loseChannel
  try dsimp only
  repeat' first
    | (with_reducible first | assumption | apply only_setEnc | apply only_wr)
    | exact sub_trans rfl hm

theorem only_freezeCut {s : State} (cuts : List Nat) (hm : sub 117598008931784859665 mm = true) (hs : Only mm s0 s) :
    Only mm s0 (State.freezeCut s cuts) := by
  unfold State.freezeCut
  repeat' first
    | (with_reducible first | assumption | apply only_ite | apply only_record)
    | exact sub_trans rfl hm
    | split

theorem only_takeOver {s : State} (hm : sub 117598008931784859665 mm = true) (hs : Only mm s0 s) :
    Only mm s0 (State.takeOver s) := by
  unfold State.takeOver
  try dsimp only
  repeat' first
    | (with_reducible first | assumption | apply only_setFld | apply only_record)
    | exact sub_trans rfl hm
    | with_reducible apply only_put4398046511104

theorem only_atOnset {s : State} (l : Loss) (hm : sub 4398046511105 mm = true) (hs : Only mm s0 s) :
    Only mm s0 (State.atOnset s l) := by
  unfold State.atOnset
  try dsimp only
  repeat' first
    | (with_reducible first | assumption | apply only_ite | apply only_see | apply only_sample | apply only_peak)
    | exact sub_trans rfl hm
    | split

theorem only_loss {s : State} (ch : Nat) (cause : Nat) (l : Loss) (hm : sub 117598008931784859665 mm = true) (hs : Only mm s0 s) :
    Only mm s0 (State.loss s ch cause l) := by
  unfold State.loss
  try dsimp only
  repeat' first
    | (with_reducible first | assumption | apply only_ite | apply only_atOnset | apply only_cutFlashes | apply only_loseChannel)
    | (with_reducible first | apply only_freezeCut | apply only_contain | apply only_takeOver)
    | exact sub_trans rfl hm
    | (intro _; intros; try dsimp only)
    | split

theorem only_execPositionLoss (ch : Nat) (cause : Nat) (l : Loss) {s : State} (hm : sub 117598008931784859665 mm = true) (hs : Only mm s0 s) :
    OnlyOut mm s0 (execPositionLoss ch cause l s) := by
  unfold execPositionLoss
  repeat' first
    | (with_reducible first | assumption | exact trivial | apply onlyOut_next | apply onlyOut_ite | apply only_ite | apply only_loss)
    | exact sub_trans rfl hm
    | split

theorem only_execEncFreeze (ch : Nat) (l : Loss) {s : State} (hm : sub 117598008931784859665 mm = true) (hs : Only mm s0 s) :
    OnlyOut mm s0 (execEncFreeze ch l s) := by
  unfold execEncFreeze
  repeat' first
    | (with_reducible first | assumption | exact trivial | apply onlyOut_next | apply onlyOut_ite | apply only_ite | apply only_loss)
    | exact sub_trans rfl hm
    | split

theorem only_execEncWordSilent (ch : Nat) (l : Loss) {s : State} (hm : sub 117598008931784859665 mm = true) (hs : Only mm s0 s) :
    OnlyOut mm s0 (execEncWordSilent ch l s) := by
  unfold execEncWordSilent
  repeat' first
    | (with_reducible first | assumption | exact trivial | apply onlyOut_next | apply onlyOut_ite | apply only_ite | apply only_loss)
    | exact sub_trans rfl hm
    | split

theorem only_execEncSerialWord (ch : Nat) (bits : List Bool) (l : Loss) {s : State} (hm : sub 117598008931784859665 mm = true) (hs : Only mm s0 s) :
    OnlyOut mm s0 (execEncSerialWord ch bits l s) := by
  unfold execEncSerialWord
  try dsimp only
  repeat' first
    | (with_reducible first | assumption | exact trivial | apply onlyOut_next | apply onlyOut_ite | apply only_ite | apply only_wr)
    | (with_reducible first | apply only_loss | apply only_setEnc | apply only_take)
    | exact sub_trans rfl hm
    | split

theorem only_standstill {s : State} (st : Nat) (hm : sub 110680471039327076353 mm = true) (hs : Only mm s0 s) :
    Only mm s0 (State.standstill s st) := by
  unfold State.standstill
  repeat' first
    | (with_reducible first | assumption | apply only_droverTo | apply only_shadeOn | apply only_fallback)
    | exact sub_trans rfl hm

theorem only_execStillEntry {s : State} (hm : sub 110680471039327076353 mm = true) (hs : Only mm s0 s) :
    OnlyOut mm s0 (execStillEntry s) := by
  unfold execStillEntry
  try dsimp only
  repeat' first
    | (with_reducible first | assumption | exact trivial | apply onlyOut_next | apply onlyOut_ite | apply only_ite | apply only_standstill)
    | exact sub_trans rfl hm
    | with_reducible apply only_put4398046511104
    | split

theorem only_track {s : State} (hm : sub 110680471039327076353 mm = true) (hs : Only mm s0 s) :
    Only mm s0 (State.track s) := by
  unfold State.track
  try dsimp only
  repeat' first
    | (with_reducible first | assumption | apply only_droverTo | apply only_shadeOff)
    | exact sub_trans rfl hm
    | with_reducible apply only_put4398046511104

theorem only_leaveStill {s : State} (hm : sub 117598008931784859665 mm = true) (hs : Only mm s0 s) :
    Only mm s0 (State.leaveStill s) := by
  unfold State.leaveStill
  repeat' first
    | (with_reducible first | assumption | apply only_ite | apply only_contain | apply only_track)
    | exact sub_trans rfl hm
    | split

theorem only_execStillExit (smp : Sample) {s : State} (hm : sub 117598008931784859665 mm = true) (hs : Only mm s0 s) :
    OnlyOut mm s0 (execStillExit smp s) := by
  unfold execStillExit
  try dsimp only
  repeat' first
    | (with_reducible first | assumption | exact trivial | apply onlyOut_next | apply onlyOut_ite | apply only_ite | apply only_sample)
    | (with_reducible first | apply only_leaveStill | apply only_peak)
    | exact sub_trans rfl hm
    | split

theorem only_execRewindGuard (smp : Sample) {s : State} (hm : sub 117598008931784859665 mm = true) (hs : Only mm s0 s) :
    OnlyOut mm s0 (execRewindGuard smp s) := by
  unfold execRewindGuard
  try dsimp only
  repeat' first
    | (with_reducible first | assumption | exact trivial | apply onlyOut_next | apply onlyOut_ite | apply only_ite | apply only_sample)
    | (with_reducible first | apply only_overspeed | apply only_peak | apply only_standstill | apply only_record)
    | exact sub_trans rfl hm
    | split

theorem only_execRewindExit (smp : Sample) {s : State} (hm : sub 117598008931784859665 mm = true) (hs : Only mm s0 s) :
    OnlyOut mm s0 (execRewindExit smp s) := by
  unfold execRewindExit
  try dsimp only
  repeat' first
    | (with_reducible first | assumption | exact trivial | apply onlyOut_next | apply onlyOut_ite | apply only_ite | apply only_sample)
    | (with_reducible first | apply only_leaveStill | apply only_peak)
    | exact sub_trans rfl hm
    | split

theorem only_startDrover {s : State} (x : Stripe) (hm : sub 4398050705409 mm = true) (hs : Only mm s0 s) :
    Only mm s0 (State.startDrover s x) := by
  unfold State.startDrover
  try dsimp only
  repeat' first
    | (with_reducible first | assumption | apply only_setEnc | apply only_setFld | apply only_wr | apply only_modStripe | apply only_droverTo)
    | (with_reducible first | apply only_foldl)
    | exact sub_trans rfl hm
    | (intro _; intros; try dsimp only)
    | split
    | with_reducible apply only_put4398046511104

theorem only_loadZones {s : State} (t : List Byte) {u : State} (hm : sub 16777216 mm = true) (h : Only mm s0 s) (e : State.loadZones s t = .ok u) :
    Only mm s0 u := by
  revert e
  unfold State.loadZones
  try dsimp only
  repeat' first
    | with_reducible assumption
    | exact sub_trans rfl hm
    | (intro e; cases e)
    | with_reducible apply only_put16777216
    | (intro e; injection e; subst_vars)
    | with_reducible apply only_ite
    | split

end Sys2Proof.Machine
end

