-- ==== Sys2Proof/Laws/OnlyDefl.lean ====
section
/-! SUPPORT. What each operation of Machine/Defl.lean may change of the state. -/

set_option linter.unusedVariables false
set_option linter.tactic.unusedName false

namespace Sys2Proof.Machine

variable {mm : Nat} {s0 : State}

theorem only_loadTrack {s : State} (axis : Nat) (t : List Byte) {u : State} (hm : sub 4398046511104 mm = true) (h : Only mm s0 s) (e : State.loadTrack s axis t = .ok u) :
    Only mm s0 u := by
  revert e
  unfold State.loadTrack
  try dsimp only
  repeat' first
    | with_reducible assumption
    | exact sub_trans rfl hm
    | (intro e; cases e)
    | with_reducible apply only_put4398046511104
    | (intro e; injection e; subst_vars)
    | with_reducible apply only_ite
    | split

theorem only_putOut {s : State} (v : List Int) (hm : sub 73786980692884717569 mm = true) (hs : Only mm s0 s) :
    Only mm s0 (State.putOut s v) := by
  unfold State.putOut
  try dsimp only
  repeat' first
    | (with_reducible first | assumption | apply only_wr | apply only_emit)
    | exact sub_trans rfl hm
    | (intro _; intros; try dsimp only)
    | with_reducible apply only_put4398046511104

theorem only_rampOut {s : State} (goal : List Int) (hm : sub 73786980692884717569 mm = true) (hs : Only mm s0 s) :
    Only mm s0 (State.rampOut s goal) := by
  unfold State.rampOut
  try dsimp only
  repeat' first
    | (with_reducible first | assumption | apply only_putOut)
    | exact sub_trans rfl hm
    | (intro _; intros; try dsimp only)

theorem only_saturated {s : State} (hm : sub 117598008931784859665 mm = true) (hs : Only mm s0 s) :
    Only mm s0 (State.saturated s) := by
  unfold State.saturated
  repeat' first
    | (with_reducible first | assumption | apply only_cutFlashes | apply only_contain)
    | exact sub_trans rfl hm

theorem only_execDeflSaturated {s : State} (hm : sub 117598008931784859665 mm = true) (hs : Only mm s0 s) :
    OnlyOut mm s0 (execDeflSaturated s) := by
  unfold execDeflSaturated
  repeat' first
    | (with_reducible first | assumption | exact trivial | apply onlyOut_next | apply onlyOut_ite | apply only_ite | apply only_saturated)
    | exact sub_trans rfl hm
    | split

theorem only_trackSample {s : State} (x : Stripe) (vel : Int × Int) (inWindow : Bool) (hm : sub 117598008931784859665 mm = true) (hs : Only mm s0 s) :
    Only mm s0 (State.trackSample s x vel inWindow) := by
  unfold State.trackSample
  try dsimp only
  repeat' first
    | (with_reducible first | assumption | apply only_ite | apply only_inc | apply only_rampOut | apply only_putOut | apply only_saturated)
    | exact sub_trans rfl hm
    | with_reducible apply only_put4398046511104
    | split

theorem only_outputs {s : State} (x : Stripe) (vel : Int × Int) (inWindow : Bool) (hm : sub 117598008931784859665 mm = true) (hs : Only mm s0 s) :
    Only mm s0 (State.outputs s x vel inWindow) := by
  unfold State.outputs
  repeat' first
    | (with_reducible first | assumption | apply only_ite | apply only_trackSample | apply only_rampOut | apply only_putOut)
    | exact sub_trans rfl hm
    | split

theorem only_execDeflOutputSample (smp : Sample) (vel : Int × Int) (inWindow : Bool) {s : State} (hm : sub 117598008931784859665 mm = true) (hs : Only mm s0 s) :
    OnlyOut mm s0 (execDeflOutputSample smp vel inWindow s) := by
  unfold execDeflOutputSample
  try dsimp only
  repeat' first
    | (with_reducible first | assumption | exact trivial | apply onlyOut_next | apply onlyOut_ite | apply only_ite | apply only_see)
    | (with_reducible first | apply only_sampled | apply only_outputs | apply only_rampOut)
    | exact sub_trans rfl hm
    | split

theorem only_execSysrefEdge (offBy : Nat) {s : State} (hm : sub 117598008931784859665 mm = true) (hs : Only mm s0 s) :
    OnlyOut mm s0 (execSysrefEdge offBy s) := by
  unfold execSysrefEdge
  try dsimp only
  repeat' first
    | (with_reducible first | assumption | exact trivial | apply onlyOut_next | apply onlyOut_ite | apply only_ite | apply only_inc)
    | (with_reducible first | apply only_record)
    | exact sub_trans rfl hm
    | with_reducible apply only_put4398046511104
    | split

theorem only_linkChange {s : State} (inWindow : Bool) {f : State → State} (hm : sub 117598008931784859665 mm = true) (hs : Only mm s0 s) (hf : ∀ t, Only mm s0 t → Only mm s0 (f t)) :
    Only mm s0 (State.linkChange s inWindow f) := by
  unfold State.linkChange
  try dsimp only
  repeat' first
    | (with_reducible first | assumption | apply only_ite | apply hf | apply only_linkLost)
    | exact sub_trans rfl hm
    | split

theorem only_execSysrefAbsent (inWindow : Bool) {s : State} (hm : sub 117598008931784859665 mm = true) (hs : Only mm s0 s) :
    OnlyOut mm s0 (execSysrefAbsent inWindow s) := by
  unfold execSysrefAbsent
  try dsimp only
  repeat' first
    | (with_reducible first | assumption | exact trivial | apply onlyOut_next | apply onlyOut_ite | apply only_linkChange)
    | exact sub_trans rfl hm
    | (intro _; intros; try dsimp only)
    | with_reducible apply only_put4398046511104

theorem only_execJesdPllUnlock (inWindow : Bool) {s : State} (hm : sub 117598008931784859665 mm = true) (hs : Only mm s0 s) :
    OnlyOut mm s0 (execJesdPllUnlock inWindow s) := by
  unfold execJesdPllUnlock
  try dsimp only
  repeat' first
    | (with_reducible first | assumption | exact trivial | apply onlyOut_next | apply onlyOut_ite | apply only_linkChange)
    | exact sub_trans rfl hm
    | (intro _; intros; try dsimp only)
    | with_reducible apply only_put4398046511104

theorem only_execJesdPllLock {s : State} (hm : sub 4398046511104 mm = true) (hs : Only mm s0 s) :
    OnlyOut mm s0 (execJesdPllLock s) := by
  unfold execJesdPllLock
  try dsimp only
  repeat' first
    | (with_reducible first | assumption | exact trivial | apply onlyOut_next | apply onlyOut_ite | apply only_ite)
    | exact sub_trans rfl hm
    | with_reducible apply only_put4398046511104
    | split

theorem only_execPeerFault (o : Origin) (v : Nat) (inWindow : Bool) {s : State} (hm : sub 117598571881738281013 mm = true) (hs : Only mm s0 s) :
    OnlyOut mm s0 (execPeerFault o v inWindow s) := by
  unfold execPeerFault
  try dsimp only
  repeat' first
    | (with_reducible first | assumption | exact trivial | apply onlyOut_next | apply onlyOut_ite | apply only_linkChange)
    | (with_reducible first | apply only_applyWrite)
    | exact sub_trans rfl hm
    | (intro _; intros; try dsimp only)
    | (refine only_permit_ok (h := ?_) (e := by assumption))
    | (refine only_permit_error (hm := ?_) (h := ?_) (e := by assumption))
    | split

end Sys2Proof.Machine
end

