-- ==== Sys2Proof/Laws/OnlyProfile.lean ====
section
/-! SUPPORT. What each operation of Machine/Profile.lean may change of the state. -/

set_option linter.unusedVariables false
set_option linter.tactic.unusedName false

namespace Sys2Proof.Machine

variable {mm : Nat} {s0 : State}

theorem only_limited {s : State} (ax : Nat) (hm : sub 117598008931784859665 mm = true) (hs : Only mm s0 s) :
    Only mm s0 (State.limited s ax) := by
  unfold State.limited
  try dsimp only
  repeat' first
    | (with_reducible first | assumption | apply only_ite | apply only_setFld | apply only_record)
    | exact sub_trans rfl hm
    | with_reducible apply only_put8796093022208
    | split

theorem only_moveAxis {s : State} (ax : Nat) (t : Int) (hm : sub 117598008931784859665 mm = true) (hs : Only mm s0 s) :
    Only mm s0 (State.moveAxis s ax t) := by
  unfold State.moveAxis
  try dsimp only
  repeat' first
    | (with_reducible first | assumption | apply only_ite | apply only_limited)
    | exact sub_trans rfl hm
    | with_reducible apply only_put8796093022208
    | split

theorem only_sendSetpoint {s : State} (hm : sub 73786985090931228673 mm = true) (hs : Only mm s0 s) :
    Only mm s0 (State.sendSetpoint s) := by
  unfold State.sendSetpoint
  try dsimp only
  repeat' first
    | (with_reducible first | assumption | apply only_ite | apply only_inc | apply only_emit)
    | exact sub_trans rfl hm
    | with_reducible apply only_put8796093022208
    | split

theorem only_reachRun {s : State} (hm : sub 8796093022208 mm = true) (hs : Only mm s0 s) :
    Only mm s0 (State.reachRun s) := by
  unfold State.reachRun
  try dsimp only
  repeat' first
    | (with_reducible first | assumption | apply only_ite)
    | exact sub_trans rfl hm
    | with_reducible apply only_put8796093022208
    | split

theorem only_execSetpointFrame (jy : Int) (jx : Int) {s : State} (hm : sub 73786985090931228673 mm = true) (hs : Only mm s0 s) :
    OnlyOut mm s0 (execSetpointFrame jy jx s) := by
  unfold execSetpointFrame
  try dsimp only
  repeat' first
    | (with_reducible first | assumption | exact trivial | apply onlyOut_next | apply onlyOut_ite | apply only_ite | apply only_tick)
    | (with_reducible first | apply only_setFld | apply only_reachRun | apply only_sendSetpoint)
    | exact sub_trans rfl hm
    | with_reducible apply only_put8796093022208
    | split

theorem only_execRunupStart (smp : Sample) {s : State} (hm : sub 117598008931784859665 mm = true) (hs : Only mm s0 s) :
    OnlyOut mm s0 (execRunupStart smp s) := by
  unfold execRunupStart
  try dsimp only
  repeat' first
    | (with_reducible first | assumption | exact trivial | apply onlyOut_next | apply onlyOut_ite | apply only_ite | apply only_see)
    | (with_reducible first | apply only_limited)
    | exact sub_trans rfl hm
    | with_reducible apply only_put8796093022208
    | split

theorem only_execRunoutStart {s : State} (hm : sub 117598008931784859665 mm = true) (hs : Only mm s0 s) :
    OnlyOut mm s0 (execRunoutStart s) := by
  unfold execRunoutStart
  try dsimp only
  repeat' first
    | (with_reducible first | assumption | exact trivial | apply onlyOut_next | apply onlyOut_ite | apply only_ite | apply only_moveAxis)
    | exact sub_trans rfl hm
    | split
    | with_reducible apply only_put8796093022208

theorem only_encAuto {s : State} (fits : List (Nat × List Byte)) (hm : sub 135675336821047329 mm = true) (hs : Only mm s0 s) :
    Only mm s0 (State.encAuto s fits) := by
  unfold State.encAuto
  try dsimp only
  repeat' first
    | (with_reducible first | assumption | apply only_ite | apply only_putKeep | apply only_foldl)
    | exact sub_trans rfl hm
    | (intro _; intros; try dsimp only)
    | split

theorem only_execRunEnd (fits : List (Nat × List Byte)) {s : State} (hm : sub 117733679870559395889 mm = true) (hs : Only mm s0 s) :
    OnlyOut mm s0 (execRunEnd fits s) := by
  unfold execRunEnd
  try dsimp only
  repeat' first
    | (with_reducible first | assumption | exact trivial | apply onlyOut_next | apply onlyOut_ite | apply only_ite | apply only_encAuto)
    | (with_reducible first | apply only_contain)
    | exact sub_trans rfl hm
    | split
    | with_reducible apply only_put8796093022208

theorem only_execTurnaroundStart {s : State} (hm : sub 117598008931784859665 mm = true) (hs : Only mm s0 s) :
    OnlyOut mm s0 (execTurnaroundStart s) := by
  unfold execTurnaroundStart
  try dsimp only
  repeat' first
    | (with_reducible first | assumption | exact trivial | apply onlyOut_next | apply onlyOut_ite | apply only_ite | apply only_id)
    | (with_reducible first | apply only_bump | apply only_moveAxis)
    | exact sub_trans rfl hm
    | (intro _; intros; try dsimp only)
    | split
    | with_reducible apply only_put8796093022208

theorem only_toReentry {s : State} (hm : sub 117598008931784859665 mm = true) (hs : Only mm s0 s) :
    Only mm s0 (State.toReentry s) := by
  unfold State.toReentry
  try dsimp only
  repeat' first
    | (with_reducible first | assumption | apply only_moveAxis)
    | exact sub_trans rfl hm
    | split
    | with_reducible apply only_put8796093022208

theorem only_execMoveEnd {s : State} (hm : sub 117598008931784859665 mm = true) (hs : Only mm s0 s) :
    OnlyOut mm s0 (execMoveEnd s) := by
  unfold execMoveEnd
  try dsimp only
  repeat' first
    | (with_reducible first | assumption | exact trivial | apply onlyOut_next | apply onlyOut_ite | apply only_ite | apply only_toReentry)
    | exact sub_trans rfl hm
    | split
    | with_reducible apply only_put8796093022208

theorem only_hostMoveY {s : State} (t : Int) (hm : sub 117598008931784859665 mm = true) (hs : Only mm s0 s) :
    Only mm s0 (State.hostMoveY s t) := by
  unfold State.hostMoveY
  try dsimp only
  repeat' first
    | (with_reducible first | assumption | apply only_ite | apply only_moveAxis)
    | exact sub_trans rfl hm
    | with_reducible apply only_put8796093022208
    | split

theorem only_execMove (o : Origin) (v : Nat) {s : State} (hm : sub 117598008931784859665 mm = true) (hs : Only mm s0 s) :
    OnlyOut mm s0 (execMove o v s) := by
  unfold execMove
  try dsimp only
  repeat' first
    | (with_reducible first | assumption | exact trivial | apply onlyOut_next | apply onlyOut_ite | apply only_ite | apply only_act)
    | (with_reducible first | apply only_hostMoveY | apply only_refuse | apply only_moveAxis)
    | exact sub_trans rfl hm
    | (intro _; intros; try dsimp only)
    | with_reducible apply only_put8796093022208
    | split

theorem only_writeLimit {s : State} (o : Origin) (i : Nat) (v : Nat) (hm : sub 117598571881738281013 mm = true) (hs : Only mm s0 s) :
    Only mm s0 (State.writeLimit s o i v) := by
  unfold State.writeLimit
  try dsimp only
  repeat' first
    | (with_reducible first | assumption | apply only_ite | apply only_applyWrite | apply only_setFld | apply only_limited | apply only_refuse)
    | exact sub_trans rfl hm
    | with_reducible apply only_put8796093022208
    | split

theorem only_execLimitWrite (o : Origin) (index : Nat) (v : Nat) {s : State} (hm : sub 117598571881738281013 mm = true) (hs : Only mm s0 s) :
    OnlyOut mm s0 (execLimitWrite o index v s) := by
  unfold execLimitWrite
  try dsimp only
  repeat' first
    | (with_reducible first | assumption | exact trivial | apply onlyOut_next | apply onlyOut_ite | apply only_ite | apply only_refuse)
    | (with_reducible first | apply only_writeLimit)
    | exact sub_trans rfl hm
    | (refine only_permit_ok (h := ?_) (e := by assumption))
    | (refine only_permit_error (hm := ?_) (h := ?_) (e := by assumption))
    | split

theorem only_abortRun {s : State} (x : Stripe) (hm : sub 8796093022208 mm = true) (hs : Only mm s0 s) :
    Only mm s0 (State.abortRun s x) := by
  unfold State.abortRun
  try dsimp only
  repeat' first
    | (with_reducible first | assumption | apply only_ite | apply only_id)
    | exact sub_trans rfl hm
    | (intro _; intros; try dsimp only)
    | with_reducible apply only_put8796093022208
    | split

theorem only_loadRunTable {s : State} (slot : Nat) (t : List Byte) {u : State} (hm : sub 49152 mm = true) (h : Only mm s0 s) (e : State.loadRunTable s slot t = .ok u) :
    Only mm s0 u := by
  revert e
  unfold State.loadRunTable
  try dsimp only
  repeat' first
    | with_reducible assumption
    | exact sub_trans rfl hm
    | (intro e; cases e)
    | with_reducible apply only_modJob
    | (intro e; injection e; subst_vars)
    | with_reducible apply only_ite
    | split

end Sys2Proof.Machine
end

