-- ==== Sys2Proof/Laws/OnlyHost.lean ====
section
/-! SUPPORT. What each operation of Machine/Host.lean may change of the state. -/

set_option linter.unusedVariables false
set_option linter.tactic.unusedName false

namespace Sys2Proof.Machine

variable {mm : Nat} {s0 : State}

theorem only_cancelDusk {s : State} (hm : sub 257 mm = true) (hs : Only mm s0 s) :
    Only mm s0 (State.cancelDusk s) := by
  unfold State.cancelDusk
  try dsimp only
  repeat' first
    | (with_reducible first | assumption | apply only_inc | apply only_setFld)
    | exact sub_trans rfl hm
    | with_reducible apply only_put256

theorem only_wake {s : State} (cause : Nat) (hm : sub 257 mm = true) (hs : Only mm s0 s) :
    Only mm s0 (State.wake s cause) := by
  unfold State.wake
  try dsimp only
  repeat' first
    | (with_reducible first | assumption | apply only_ite | apply only_cancelDusk | apply only_setFld)
    | exact sub_trans rfl hm
    | with_reducible apply only_put256
    | split

theorem only_badDoorbell {s : State} (q : Nat) (off : Nat) (v : Nat) (hm : sub 117598008931784859665 mm = true) (hs : Only mm s0 s) :
    Only mm s0 (State.badDoorbell s q off v) := by
  unfold State.badDoorbell
  repeat' first
    | (with_reducible first | assumption | apply only_record)
    | exact sub_trans rfl hm

theorem only_execSqTailDoorbell (q : Nat) (v : Nat) {s : State} (hm : sub 117598008931784859921 mm = true) (hs : Only mm s0 s) :
    OnlyOut mm s0 (execSqTailDoorbell q v s) := by
  unfold execSqTailDoorbell
  try dsimp only
  repeat' first
    | (with_reducible first | assumption | exact trivial | apply onlyOut_next | apply onlyOut_ite | apply only_ite | apply only_wake)
    | (with_reducible first | apply only_badDoorbell | apply only_setQueue)
    | exact sub_trans rfl hm
    | with_reducible apply only_put8192
    | split

theorem only_execCqHeadDoorbell (q : Nat) (v : Nat) {s : State} (hm : sub 117598008931784859921 mm = true) (hs : Only mm s0 s) :
    OnlyOut mm s0 (execCqHeadDoorbell q v s) := by
  unfold execCqHeadDoorbell
  try dsimp only
  repeat' first
    | (with_reducible first | assumption | exact trivial | apply onlyOut_next | apply onlyOut_ite | apply only_ite | apply only_wake)
    | (with_reducible first | apply only_badDoorbell | apply only_setQueue | apply only_drain)
    | exact sub_trans rfl hm
    | split

theorem only_execEvqHeadDoorbell (v : Nat) {s : State} (hm : sub 117598008931784859921 mm = true) (hs : Only mm s0 s) :
    OnlyOut mm s0 (execEvqHeadDoorbell v s) := by
  unfold execEvqHeadDoorbell
  try dsimp only
  repeat' first
    | (with_reducible first | assumption | exact trivial | apply onlyOut_next | apply onlyOut_ite | apply only_ite | apply only_wake)
    | (with_reducible first | apply only_badDoorbell | apply only_drainEvents)
    | exact sub_trans rfl hm
    | (intro _; intros; try dsimp only)
    | with_reducible apply only_put8192
    | split

theorem only_execCqCoalesceTimeout (q : Nat) {s : State} (hm : sub 73786976294838214656 mm = true) (hs : Only mm s0 s) :
    OnlyOut mm s0 (execCqCoalesceTimeout q s) := by
  unfold execCqCoalesceTimeout
  try dsimp only
  repeat' first
    | (with_reducible first | assumption | exact trivial | apply onlyOut_next | apply onlyOut_ite | apply only_ite | apply only_setQueue)
    | (with_reducible first | apply only_emit)
    | exact sub_trans rfl hm
    | split

theorem only_started {s : State} (n : Nat) (ns : Nat) (woken : Bool) (hm : sub 78398662313265602577 mm = true) (hs : Only mm s0 s) :
    Only mm s0 (State.started s n ns woken) := by
  unfold State.started
  try dsimp only
  repeat' first
    | (with_reducible first | assumption | apply only_ite | apply only_maxFld | apply only_recordRaw)
    | exact sub_trans rfl hm
    | split

theorem only_execCommandStart (q : Nat) (entry : List Nat) (ns : Nat) {s : State} (hm : sub 78398662313265602577 mm = true) (hs : Only mm s0 s) :
    OnlyOut mm s0 (execCommandStart q entry ns s) := by
  unfold execCommandStart
  try dsimp only
  repeat' first
    | (with_reducible first | assumption | exact trivial | apply onlyOut_next | apply onlyOut_ite | apply only_ite | apply only_setQueue)
    | (with_reducible first | apply only_started | apply only_fail)
    | exact sub_trans rfl hm
    | split
    | with_reducible apply only_put8192

theorem only_ran {s : State} (n : Nat) (hm : sub 8192 mm = true) (hs : Only mm s0 s) :
    Only mm s0 (State.ran s n) := by
  unfold State.ran
  try dsimp only
  repeat' first
    | (with_reducible first | assumption | apply only_setCmd)
    | exact sub_trans rfl hm
    | (intro _; intros; try dsimp only)

theorem only_onJob {s : State} (c : Cmd) (f : Nat → State) (hm : sub 78398662313265602577 mm = true) (hs : Only mm s0 s) (hf : ∀ n, Only mm s0 (f n)) :
    Only mm s0 (State.onJob s c f) := by
  unfold State.onJob
  try dsimp only
  repeat' first
    | (with_reducible first | assumption | apply only_ite | apply hf | apply only_fail)
    | exact sub_trans rfl hm
    | split

theorem only_execJobOpen (n : Nat) {s : State} (hm : sub 78398662313265782801 mm = true) (hs : Only mm s0 s) :
    OnlyOut mm s0 (execJobOpen n s) := by
  unfold execJobOpen
  try dsimp only
  repeat' first
    | (with_reducible first | assumption | exact trivial | apply onlyOut_next | apply onlyOut_ite | apply only_ite | apply only_fail)
    | (with_reducible first | apply only_setJob | apply only_complete)
    | exact sub_trans rfl hm
    | split
    | with_reducible apply only_put131072

theorem only_execKeyLoad (n : Nat) (buf : Option (List Byte)) {s : State} (hm : sub 118240336752787386417 mm = true) (hs : Only mm s0 s) :
    OnlyOut mm s0 (execKeyLoad n buf s) := by
  unfold execKeyLoad
  try dsimp only
  repeat' first
    | (with_reducible first | assumption | exact trivial | apply onlyOut_next | apply onlyOut_ite | apply only_ite | apply only_onJob)
    | (with_reducible first | apply only_fail | apply only_countFull | apply only_jobFatalRec | apply only_commit | apply only_modJob)
    | (with_reducible first | apply only_complete)
    | exact sub_trans rfl hm
    | (intro _; intros; try dsimp only)
    | split

theorem only_attempt {s : State} (n : Nat) (e : Env) (code : Nat) (off : Nat) (hm : sub 118240336752787386417 mm = true) (hs : Only mm s0 s) :
    Only mm s0 (State.attempt s n e code off) := by
  unfold State.attempt
  try dsimp only
  repeat' first
    | (with_reducible first | assumption | apply only_ite | apply only_record | apply only_complete | apply only_modJob)
    | (with_reducible first | apply only_jobFatalRec)
    | exact sub_trans rfl hm
    | (intro _; intros; try dsimp only)
    | split

theorem only_withdraw {s : State} (slot : Nat) (p : Nat → Bool) (hm : sub 78398662313265913873 mm = true) (hs : Only mm s0 s) :
    Only mm s0 (State.withdraw s slot p) := by
  unfold State.withdraw
  try dsimp only
  repeat' first
    | (with_reducible first | assumption | apply only_ite | apply only_event | apply only_modJob | apply only_foldl)
    | exact sub_trans rfl hm
    | (intro _; intros; try dsimp only)
    | with_reducible apply only_put262144
    | split

theorem only_countIngest {s : State} (n : Nat) (hm : sub 1 mm = true) (hs : Only mm s0 s) :
    Only mm s0 (State.countIngest s n) := by
  unfold State.countIngest
  repeat' first
    | (with_reducible first | assumption | apply only_wr64)
    | exact sub_trans rfl hm

theorem only_revalidate {s : State} (i : Nat) (e : Env) (n : Nat) (hm : sub 118240336752787386417 mm = true) (hs : Only mm s0 s) :
    Only mm s0 (State.revalidate s i e n) := by
  unfold State.revalidate
  try dsimp only
  repeat' first
    | (with_reducible first | assumption | apply only_ite | apply only_complete | apply only_modJob | apply only_jobFatalRec)
    | exact sub_trans rfl hm
    | (intro _; intros; try dsimp only)
    | split

theorem only_accept {s : State} (i : Nat) (n : Nat) (e : Env) (b : List Byte) (unit : List Byte) (hm : sub 118240336752787910705 mm = true) (hs : Only mm s0 s) :
    Only mm s0 (State.accept s i n e b unit) := by
  unfold State.accept
  try dsimp only
  repeat' first
    | (with_reducible first | assumption | apply only_ite | apply only_take | apply only_countIngest | apply only_modJob)
    | (with_reducible first | apply only_revalidate | apply only_complete)
    | exact sub_trans rfl hm
    | (intro _; intros; try dsimp only)
    | with_reducible apply only_put262144
    | with_reducible apply only_put786432
    | split

theorem only_pushCache {s : State} (i : Nat) (n : Nat) (e : Env) (b : List Byte) (unit : List Byte) (hm : sub 118240336752787910705 mm = true) (hs : Only mm s0 s) :
    Only mm s0 (State.pushCache s i n e b unit) := by
  unfold State.pushCache
  try dsimp only
  repeat' first
    | (with_reducible first | assumption | apply only_ite | apply only_accept | apply only_record | apply only_inc | apply only_complete)
    | (with_reducible first | apply only_jobFatalRec | apply only_fail)
    | exact sub_trans rfl hm
    | split

theorem only_pushHeader {s : State} (i : Nat) (n : Nat) (e : Env) (b : List Byte) (unit : List Byte) (hm : sub 118240336752787910705 mm = true) (hs : Only mm s0 s) :
    Only mm s0 (State.pushHeader s i n e b unit) := by
  unfold State.pushHeader
  try dsimp only
  repeat' first
    | (with_reducible first | assumption | apply only_ite | apply only_attempt | apply only_jobFatalRec | apply only_pushCache)
    | (with_reducible first | apply only_modJob)
    | exact sub_trans rfl hm
    | (intro _; intros; try dsimp only)
    | split

theorem only_pushSealed {s : State} (i : Nat) (n : Nat) (e : Env) (b : List Byte) (reseal : Nat) (hm : sub 118240336752787910705 mm = true) (hs : Only mm s0 s) :
    Only mm s0 (State.pushSealed s i n e b reseal) := by
  unfold State.pushSealed
  try dsimp only
  repeat' first
    | (with_reducible first | assumption | apply only_ite | apply only_take | apply only_attempt | apply only_bump | apply only_record)
    | (with_reducible first | apply only_pushHeader | apply only_pushCache)
    | exact sub_trans rfl hm
    | split

theorem only_execGeomPush (n : Nat) (buf : Option (List Byte)) (reseal : Nat) {s : State} (hm : sub 118240336752787910705 mm = true) (hs : Only mm s0 s) :
    OnlyOut mm s0 (execGeomPush n buf reseal s) := by
  unfold execGeomPush
  try dsimp only
  repeat' first
    | (with_reducible first | assumption | exact trivial | apply onlyOut_next | apply onlyOut_ite | apply only_ite | apply only_fail)
    | (with_reducible first | apply only_attempt | apply only_pushSealed)
    | exact sub_trans rfl hm
    | (intro _; intros; try dsimp only)
    | split

theorem only_loadSlot {s : State} (slot : Nat) (id : Nat) (t : List Byte) {u : State} (hm : sub 49152 mm = true) (h : Only mm s0 s) (e : State.loadSlot s slot id t = .ok u) :
    Only mm s0 u := by
  revert e
  unfold State.loadSlot
  try dsimp only
  repeat' first
    | with_reducible assumption
    | exact sub_trans rfl hm
    | (intro e; cases e)
    | (intro e; refine only_loadRunTable (hm := ?_) (h := ?_) (e := e))
    | with_reducible apply only_setJob
    | (intro e; injection e; subst_vars)
    | with_reducible apply only_ite
    | split

theorem only_loadDevice {s : State} (id : Nat) (t : List Byte) {u : State} (hm : sub 4398633713664 mm = true) (h : Only mm s0 s) (e : State.loadDevice s id t = .ok u) :
    Only mm s0 u := by
  revert e
  unfold State.loadDevice
  try dsimp only
  repeat' first
    | with_reducible assumption
    | exact sub_trans rfl hm
    | (intro e; cases e)
    | (intro e; refine only_loadZones (hm := ?_) (h := ?_) (e := e))
    | (intro e; refine only_loadTrack (hm := ?_) (h := ?_) (e := e))
    | (intro e; refine only_loadShepherd (hm := ?_) (h := ?_) (e := e))
    | (intro e; injection e; subst_vars)
    | with_reducible apply only_ite
    | split

theorem only_loadTable {s : State} (c : Cmd) (slot : Nat) (perSlot : Bool) (t : List Byte) (hm : sub 78399229661852786737 mm = true) (hs : Only mm s0 s) :
    Only mm s0 (State.loadTable s c slot perSlot t) := by
  unfold State.loadTable
  have hc := only_commit (s := s) 0x0002 .operator 0 0 0 [c.sel, slot, crcC t] (sub_trans rfl hm) hs
  cases perSlot
  all_goals
    simp only [Bool.false_eq_true, if_false, if_true]
    split
    · exact only_fail _ _ _ _ _ _ (sub_trans rfl hm) hs
    · split
      · exact only_fail _ _ _ _ _ _ (sub_trans rfl hm) hs
      · rename_i e
        first
          | exact only_complete _ _ _ _ _ _ (sub_trans rfl hm) (only_loadDevice (hm := sub_trans rfl hm) (h := hc) (e := e))
          | exact only_complete _ _ _ _ _ _ (sub_trans rfl hm) (only_loadSlot (hm := sub_trans rfl hm) (h := hc) (e := e))

theorem only_execTableLoad (n : Nat) (buf : Option (List Byte)) {s : State} (hm : sub 78399229661852786737 mm = true) (hs : Only mm s0 s) :
    OnlyOut mm s0 (execTableLoad n buf s) := by
  unfold execTableLoad
  try dsimp only
  repeat' first
    | (with_reducible first | assumption | exact trivial | apply onlyOut_next | apply onlyOut_ite | apply only_ite | apply only_fail)
    | (with_reducible first | apply only_countFull | apply only_loadTable | apply only_onJob)
    | exact sub_trans rfl hm
    | (intro _; intros; try dsimp only)
    | split

theorem only_execFence (n : Nat) {s : State} (hm : sub 73786976294838214656 mm = true) (hs : Only mm s0 s) :
    OnlyOut mm s0 (execFence n s) := by
  unfold execFence
  try dsimp only
  repeat' first
    | (with_reducible first | assumption | exact trivial | apply onlyOut_next | apply onlyOut_ite | apply only_ite | apply only_complete)
    | exact sub_trans rfl hm
    | (intro _; intros; try dsimp only)
    | split

theorem only_askFlush {s : State} (n : Nat) (hm : sub 1048576 mm = true) (hs : Only mm s0 s) :
    Only mm s0 (State.askFlush s n) := by
  unfold State.askFlush
  try dsimp only
  repeat' first
    | (with_reducible first | assumption | apply only_ite)
    | exact sub_trans rfl hm
    | (intro _; intros; try dsimp only)
    | with_reducible apply only_put1048576
    | split

theorem only_execFlush (n : Nat) {s : State} (hm : sub 73786976294839263232 mm = true) (hs : Only mm s0 s) :
    OnlyOut mm s0 (execFlush n s) := by
  unfold execFlush
  try dsimp only
  repeat' first
    | (with_reducible first | assumption | exact trivial | apply onlyOut_next | apply onlyOut_ite | apply only_ite | apply only_askFlush)
    | (with_reducible first | apply only_complete)
    | exact sub_trans rfl hm
    | (intro _; intros; try dsimp only)
    | split

theorem only_disarm {s : State} (hm : sub 78398662313265602560 mm = true) (hs : Only mm s0 s) :
    Only mm s0 (State.disarm s) := by
  unfold State.disarm
  try dsimp only
  repeat' first
    | (with_reducible first | assumption | apply only_ite | apply only_fire | apply only_complete)
    | exact sub_trans rfl hm
    | with_reducible apply only_put4611686018427387904
    | split

theorem only_execTraceArm (n : Nat) {s : State} (hm : sub 78398662313265602577 mm = true) (hs : Only mm s0 s) :
    OnlyOut mm s0 (execTraceArm n s) := by
  unfold execTraceArm
  try dsimp only
  repeat' first
    | (with_reducible first | assumption | exact trivial | apply onlyOut_next | apply onlyOut_ite | apply only_ite | apply only_complete)
    | (with_reducible first | apply only_disarm | apply only_fail | apply only_ran | apply only_post)
    | exact sub_trans rfl hm
    | split
    | with_reducible apply only_put4611686018427387904

theorem only_execJobClose (n : Nat) {s : State} (hm : sub 118240336752787386417 mm = true) (hs : Only mm s0 s) :
    OnlyOut mm s0 (execJobClose n s) := by
  unfold execJobClose
  try dsimp only
  repeat' first
    | (with_reducible first | assumption | exact trivial | apply onlyOut_next | apply onlyOut_ite | apply only_ite | apply only_fail)
    | (with_reducible first | apply only_ran | apply only_withdraw | apply only_abortSlot | apply only_closeDue | apply only_foldl)
    | exact sub_trans rfl hm
    | (intro _; intros; try dsimp only)
    | split

end Sys2Proof.Machine
end

