-- ==== Sys2Proof/Laws/OnlyStripes.lean ====
section
/-! SUPPORT. What each operation of Machine/Stripes.lean may change of the state. -/

set_option linter.unusedVariables false
set_option linter.tactic.unusedName false

namespace Sys2Proof.Machine

variable {mm : Nat} {s0 : State}

theorem only_armFails {s : State} (n : Nat) (e : ArmStop) (hm : sub 78398662313265602577 mm = true) (hs : Only mm s0 s) :
    Only mm s0 (State.armFails s n e) := by
  unfold State.armFails
  try dsimp only
  repeat' first
    | (with_reducible first | assumption | apply only_ite | apply only_fail)
    | exact sub_trans rfl hm
    | split

theorem only_waitArm {s : State} (n : Nat) (x : Stripe) (hm : sub 12640256 mm = true) (hs : Only mm s0 s) :
    Only mm s0 (State.waitArm s n x) := by
  unfold State.waitArm
  try dsimp only
  repeat' first
    | (with_reducible first | assumption | apply only_id | apply only_ran | apply only_modJob)
    | exact sub_trans rfl hm
    | (intro _; intros; try dsimp only)
    | with_reducible apply only_put12582912

theorem only_armNow {s : State} (x : Stripe) (ring : Nat) (map : Option Nat) (hm : sub 78398664512293101569 mm = true) (hs : Only mm s0 s) :
    Only mm s0 (State.armNow s x ring map) := by
  unfold State.armNow
  try dsimp only
  repeat' first
    | (with_reducible first | assumption | apply only_ite | apply only_id | apply only_modStripe | apply only_clkOn | apply only_wakeLanes)
    | (with_reducible first | apply only_modJob | apply only_showStripes | apply only_lanternWake | apply only_complete | apply only_foldl)
    | exact sub_trans rfl hm
    | (intro _; intros; try dsimp only)
    | split

theorem only_armFree {s : State} (hm : sub 78398664512293101569 mm = true) (hs : Only mm s0 s) :
    Only mm s0 (State.armFree s) := by
  unfold State.armFree
  try dsimp only
  repeat' first
    | (with_reducible first | assumption | apply only_ite | apply only_armNow)
    | exact sub_trans rfl hm
    | (intro _; intros; try dsimp only)
    | split

theorem only_execStripeArmResourcesFree (n : Nat) {s : State} (hm : sub 78398664512293101569 mm = true) (hs : Only mm s0 s) :
    OnlyOut mm s0 (execStripeArmResourcesFree n s) := by
  unfold execStripeArmResourcesFree
  try dsimp only
  repeat' first
    | (with_reducible first | assumption | exact trivial | apply onlyOut_next | apply onlyOut_ite | apply only_ite | apply only_armFree)
    | exact sub_trans rfl hm
    | (intro _; intros; try dsimp only)
    | split

theorem only_armInvalid {s : State} (n : Nat) (slot : Nat) (id : Nat) (e : Nat × Nat × Nat) (hm : sub 118240336752787386417 mm = true) (hs : Only mm s0 s) :
    Only mm s0 (State.armInvalid s n slot id e) := by
  unfold State.armInvalid
  try dsimp only
  repeat' first
    | (with_reducible first | assumption | apply only_ite | apply only_id | apply only_record | apply only_complete | apply only_modJob)
    | (with_reducible first | apply only_rerequest)
    | exact sub_trans rfl hm
    | (intro _; intros; try dsimp only)
    | split

theorem only_validated {s : State} (n : Nat) (slot : Nat) (c : Cmd) (w : Walk) (r : StripeRec) (hm : sub 12902400 mm = true) (hs : Only mm s0 s) :
    Only mm s0 (State.validated s n slot c w r) := by
  unfold State.validated
  try dsimp only
  repeat' first
    | (with_reducible first | assumption | apply only_ite | apply only_id | apply only_waitArm)
    | exact sub_trans rfl hm
    | (intro _; intros; try dsimp only)
    | with_reducible apply only_put262144
    | split

theorem only_tableCopies {s : State} (n : Nat) (slot : Nat) (copies : Nat) (hm : sub 118240547859019919409 mm = true) (hs : Only mm s0 s) :
    Only mm s0 (State.tableCopies s n slot copies) := by
  unfold State.tableCopies
  repeat' first
    | (with_reducible first | assumption | apply only_ite | apply only_readCopies)
    | exact sub_trans rfl hm
    | split

theorem only_execStripeArm (n : Nat) (copies : Nat) (glitch : Option (Nat × Nat × Nat)) {s : State} (hm : sub 118240547859028308017 mm = true) (hs : Only mm s0 s) :
    OnlyOut mm s0 (execStripeArm n copies glitch s) := by
  unfold execStripeArm
  try dsimp only
  repeat' first
    | (with_reducible first | assumption | exact trivial | apply onlyOut_next | apply onlyOut_ite | apply only_ite | apply only_onJob)
    | (with_reducible first | apply only_tableCopies | apply only_armFails | apply only_armInvalid | apply only_validated | apply only_armFree)
    | (with_reducible first | apply only_fail)
    | exact sub_trans rfl hm
    | (intro _; intros; try dsimp only)
    | split

theorem only_armPass {s : State} (n : Nat) (slot : Nat) (c : Cmd) (r : StripeRec) (t : List Byte) (hm : sub 78398664512301490193 mm = true) (hs : Only mm s0 s) :
    Only mm s0 (State.armPass s n slot c r t) := by
  unfold State.armPass
  try dsimp only
  repeat' first
    | (with_reducible first | assumption | apply only_ite | apply only_id | apply only_fail | apply only_modJob | apply only_waitArm)
    | (with_reducible first | apply only_armFree)
    | exact sub_trans rfl hm
    | (intro _; intros; try dsimp only)
    | split

theorem only_execPatchPass (n : Nat) (buf : Option (List Byte)) (listUe : Bool) {s : State} (hm : sub 118240545934879551537 mm = true) (hs : Only mm s0 s) :
    OnlyOut mm s0 (execPatchPass n buf listUe s) := by
  unfold execPatchPass
  try dsimp only
  repeat' first
    | (with_reducible first | assumption | exact trivial | apply onlyOut_next | apply onlyOut_ite | apply only_ite | apply only_onJob)
    | (with_reducible first | apply only_fail | apply only_armFails | apply only_failRead | apply only_armPass)
    | exact sub_trans rfl hm
    | (intro _; intros; try dsimp only)
    | split

theorem only_execStripeGo (n : Nat) {s : State} (hm : sub 78398662313269796881 mm = true) (hs : Only mm s0 s) :
    OnlyOut mm s0 (execStripeGo n s) := by
  unfold execStripeGo
  try dsimp only
  repeat' first
    | (with_reducible first | assumption | exact trivial | apply onlyOut_next | apply onlyOut_ite | apply only_onJob | apply only_fail)
    | (with_reducible first | apply only_ran | apply only_modStripe | apply only_showStripes)
    | exact sub_trans rfl hm
    | (intro _; intros; try dsimp only)
    | split

theorem only_countWait {s : State} (x : Stripe) (hm : sub 4194305 mm = true) (hs : Only mm s0 s) :
    Only mm s0 (State.countWait s x) := by
  unfold State.countWait
  try dsimp only
  repeat' first
    | (with_reducible first | assumption | apply only_ite | apply only_modStripe | apply only_bump)
    | exact sub_trans rfl hm
    | (intro _; intros; try dsimp only)
    | split

theorem only_takeForce {s : State} (hm : sub 2 mm = true) (hs : Only mm s0 s) :
    Only mm s0 (State.takeForce s) := by
  unfold State.takeForce
  try dsimp only
  repeat' first
    | (with_reducible first | assumption | apply only_foldl)
    | exact sub_trans rfl hm
    | (intro _; intros; try dsimp only)
    | with_reducible apply only_put2

theorem only_boundary {s : State} (hm : sub 342559445559017475 mm = true) (hs : Only mm s0 s) :
    Only mm s0 (State.boundary s) := by
  unfold State.boundary
  try dsimp only
  repeat' first
    | (with_reducible first | assumption | apply only_keepBoundary | apply only_takeForce | apply only_fencesAtBoundary)
    | exact sub_trans rfl hm
    | split
    | with_reducible apply only_put855638016

theorem only_takesEffect {s : State} (jobId : Nat) (n : Nat) (hm : sub 8192 mm = true) (hs : Only mm s0 s) :
    Only mm s0 (State.takesEffect s jobId n) := by
  unfold State.takesEffect
  try dsimp only
  repeat' first
    | (with_reducible first | assumption | apply only_setCmd | apply only_after)
    | exact sub_trans rfl hm
    | (intro _; intros; try dsimp only)

theorem only_takeEffect {s : State} (x : Stripe) (hm : sub 118600906198943658035 mm = true) (hs : Only mm s0 s) :
    Only mm s0 (State.takeEffect s x) := by
  unfold State.takeEffect
  try dsimp only
  repeat' first
    | (with_reducible first | assumption | apply only_ite | apply only_id | apply only_modStripe | apply only_boundary | apply only_takesEffect)
    | (with_reducible first | apply only_startDrover | apply only_allLanes | apply only_shadeOff | apply only_firstCycles)
    | (with_reducible first | apply only_showStripes)
    | exact sub_trans rfl hm
    | (intro _; intros; try dsimp only)
    | with_reducible apply only_put8796093022208
    | with_reducible apply only_put2305845208237015040
    | with_reducible apply only_put2305854004330037248
    | split

theorem only_startFails {s : State} (x : Stripe) (code : Nat) (hm : sub 78398662313269796881 mm = true) (hs : Only mm s0 s) :
    Only mm s0 (State.startFails s x code) := by
  unfold State.startFails
  try dsimp only
  repeat' first
    | (with_reducible first | assumption | apply only_fail | apply only_modStripe | apply only_showStripes)
    | exact sub_trans rfl hm
    | (intro _; intros; try dsimp only)

theorem only_execStripeTakesEffect (smp : Sample) {s : State} (hm : sub 118600906198943658035 mm = true) (hs : Only mm s0 s) :
    OnlyOut mm s0 (execStripeTakesEffect smp s) := by
  unfold execStripeTakesEffect
  try dsimp only
  repeat' first
    | (with_reducible first | assumption | exact trivial | apply onlyOut_next | apply onlyOut_ite | apply only_ite | apply only_see)
    | (with_reducible first | apply only_countWait | apply only_startFails | apply only_takeEffect)
    | exact sub_trans rfl hm
    | split

theorem only_withdrawStripe {s : State} (x : Stripe) (hm : sub 78398662313269059601 mm = true) (hs : Only mm s0 s) :
    Only mm s0 (State.withdrawStripe s x) := by
  unfold State.withdrawStripe
  try dsimp only
  repeat' first
    | (with_reducible first | assumption | apply only_id | apply only_dropCtxs | apply only_withdraw)
    | exact sub_trans rfl hm
    | (intro _; intros; try dsimp only)

theorem only_stopCkpt {s : State} (x : Stripe) (hm : sub 78398662381992419345 mm = true) (hs : Only mm s0 s) :
    Only mm s0 (State.stopCkpt s x) := by
  unfold State.stopCkpt
  try dsimp only
  repeat' first
    | (with_reducible first | assumption | apply only_recordRaw | apply only_complete | apply only_dropCtxs | apply only_modStripe)
    | (with_reducible first | apply only_foldl)
    | exact sub_trans rfl hm
    | (intro _; intros; try dsimp only)
    | with_reducible apply only_put68719476736

theorem only_abortStripe {s : State} (n : Nat) (x : Stripe) (hm : sub 118240336753794019377 mm = true) (hs : Only mm s0 s) :
    Only mm s0 (State.abortStripe s n x) := by
  unfold State.abortStripe
  try dsimp only
  repeat' first
    | (with_reducible first | assumption | apply only_ite | apply only_ran | apply only_setCmd | apply only_after | apply only_modStripe)
    | (with_reducible first | apply only_abortHold | apply only_endAborted | apply only_abortRun | apply only_flushStrays | apply only_undo)
    | (with_reducible first | apply only_stopCkpt | apply only_abortNow | apply only_dropFrames)
    | exact sub_trans rfl hm
    | (intro _; intros; try dsimp only)
    | split

theorem only_execStripeAbort (n : Nat) {s : State} (hm : sub 118240336753794019377 mm = true) (hs : Only mm s0 s) :
    OnlyOut mm s0 (execStripeAbort n s) := by
  unfold execStripeAbort
  try dsimp only
  repeat' first
    | (with_reducible first | assumption | exact trivial | apply onlyOut_next | apply onlyOut_ite | apply only_onJob | apply only_fail)
    | (with_reducible first | apply only_withdrawStripe | apply only_abortStripe)
    | exact sub_trans rfl hm
    | (intro _; intros; try dsimp only)
    | split

theorem only_execCheckpoint (n : Nat) {s : State} (hm : sub 117598008931784859665 mm = true) (hs : Only mm s0 s) :
    OnlyOut mm s0 (execCheckpoint n s) := by
  unfold execCheckpoint
  try dsimp only
  repeat' first
    | (with_reducible first | assumption | exact trivial | apply onlyOut_next | apply onlyOut_ite | apply only_ite | apply only_onJob)
    | (with_reducible first | apply only_fail | apply only_ran | apply only_modStripe | apply only_contain)
    | exact sub_trans rfl hm
    | (intro _; intros; try dsimp only)
    | split

theorem only_readCkpt {s : State} (hm : sub 117598009482413088785 mm = true) (hs : Only mm s0 s) :
    Only mm s0 (State.readCkpt s) := by
  unfold State.readCkpt
  try dsimp only
  repeat' first
    | (with_reducible first | assumption | apply only_takeHeld)
    | exact sub_trans rfl hm
    | split
    | with_reducible apply only_put550024249344

theorem only_refill {s : State} (x : Stripe) (h1 : Nat) (hm : sub 274877906944 mm = true) (hs : Only mm s0 s) :
    Only mm s0 (State.refill s x h1) := by
  unfold State.refill
  try dsimp only
  repeat' first
    | (with_reducible first | assumption | apply only_ite | apply only_foldl)
    | exact sub_trans rfl hm
    | (intro _; intros; try dsimp only)
    | with_reducible apply only_put274877906944
    | split

theorem only_restore {s : State} (x : Stripe) (n : Nat) (addr2 : Nat) (hm : sub 118312675822808657969 mm = true) (hs : Only mm s0 s) :
    Only mm s0 (State.restore s x n addr2) := by
  unfold State.restore
  try dsimp only
  repeat' first
    | (with_reducible first | assumption | apply only_ite | apply only_ran | apply only_takesEffect | apply only_readCkpt | apply only_refill)
    | (with_reducible first | apply only_modStripe | apply only_modList | apply only_rewindDrover | apply only_droverTo | apply only_allLanes)
    | (with_reducible first | apply only_setLane | apply only_firstCycles | apply only_lanternWake | apply only_foldl)
    | exact sub_trans rfl hm
    | (intro _; intros; try dsimp only)
    | with_reducible apply only_put2305854004329971712
    | split

theorem only_execResume (n : Nat) (smp : Sample) (reads : List Bool) (bad : List (Nat × Nat × Option Nat)) {s : State} (hm : sub 118312675822808657969 mm = true) (hs : Only mm s0 s) :
    OnlyOut mm s0 (execResume n smp reads bad s) := by
  unfold execResume
  try dsimp only
  repeat' first
    | (with_reducible first | assumption | exact trivial | apply onlyOut_next | apply onlyOut_ite | apply only_ite | apply only_see)
    | (with_reducible first | apply only_onJob | apply only_fail | apply only_restore | apply only_tileFail | apply only_jobFatalRec)
    | (with_reducible first | apply only_foldl)
    | exact sub_trans rfl hm
    | (intro _; intros; try dsimp only)
    | split

end Sys2Proof.Machine
end

