-- ==== Sys2Proof/Laws/OnlyCodec.lean ====
section
/-! SUPPORT. What each operation of Machine/Codec.lean may change of the state. -/

set_option linter.unusedVariables false
set_option linter.tactic.unusedName false

namespace Sys2Proof.Machine

variable {mm : Nat} {s0 : State}

theorem only_execCacheRead (ctx : Nat) (slot : Nat) (block : Nat) (given : Nat) (space : Nat) (fault : ReadFault) {s : State} (hm : sub 118240547859019919409 mm = true) (hs : Only mm s0 s) :
    OnlyOut mm s0 (execCacheRead ctx slot block given space fault s) := by
  unfold execCacheRead
  try dsimp only
  repeat' first
    | (with_reducible first | assumption | exact trivial | apply onlyOut_next | apply onlyOut_ite | apply only_ite | apply only_setCtx)
    | (with_reducible first | apply only_record | apply only_readFailed | apply only_hbmUe)
    | exact sub_trans rfl hm
    | split
    | with_reducible apply only_put262144

theorem only_decodeError {s : State} (i : Nat) (c : Ctx) (code : Nat) (off : Nat) (hm : sub 118240336752787386417 mm = true) (hs : Only mm s0 s) :
    Only mm s0 (State.decodeError s i c code off) := by
  unfold State.decodeError
  try dsimp only
  repeat' first
    | (with_reducible first | assumption | apply only_setCtx | apply only_inc | apply only_record | apply only_readFailed)
    | exact sub_trans rfl hm
    | split

theorem only_decodeEnd {s : State} (ctx : Nat) (c : Ctx) (hm : sub 118240336752787386417 mm = true) (hs : Only mm s0 s) :
    Only mm s0 (State.decodeEnd s ctx c) := by
  unfold State.decodeEnd
  try dsimp only
  repeat' first
    | (with_reducible first | assumption | apply only_ite | apply only_setCtx | apply only_decodeError | apply only_inc)
    | exact sub_trans rfl hm
    | split
    | with_reducible apply only_put262144

theorem only_execCodecDecodeEnd (ctx : Nat) (sram : List SramErr) {s : State} (hm : sub 118312675821802025009 mm = true) (hs : Only mm s0 s) :
    OnlyOut mm s0 (execCodecDecodeEnd ctx sram s) := by
  unfold execCodecDecodeEnd
  try dsimp only
  repeat' first
    | (with_reducible first | assumption | exact trivial | apply onlyOut_next | apply onlyOut_ite | apply only_ite | apply only_setCtx)
    | (with_reducible first | apply only_sramErrs | apply only_decodeEnd)
    | exact sub_trans rfl hm
    | split

theorem only_traceOut {s : State} (unit : List Byte) (hm : sub 78398662313265602560 mm = true) (hs : Only mm s0 s) :
    Only mm s0 (State.traceOut s unit) := by
  unfold State.traceOut
  try dsimp only
  repeat' first
    | (with_reducible first | assumption | apply only_take | apply only_emit | apply only_complete)
    | exact sub_trans rfl hm
    | split
    | with_reducible apply only_put4611686018427387904

theorem only_unitDone {s : State} (purp : Nat) (item : Nat) (unit : List Byte) (hm : sub 78398662399164948512 mm = true) (hs : Only mm s0 s) :
    Only mm s0 (State.unitDone s purp item unit) := by
  unfold State.unitDone
  try dsimp only
  repeat' first
    | (with_reducible first | assumption | apply only_traceOut)
    | exact sub_trans rfl hm
    | split
    | with_reducible apply only_put32
    | with_reducible apply only_put17179869184
    | with_reducible apply only_put17179869216
    | with_reducible apply only_put68719476736
    | with_reducible apply only_put68719476768
    | with_reducible apply only_put85899345920
    | with_reducible apply only_put85899345952

theorem only_ckptFailed {s : State} (x : Stripe) (a : RecArg) (hm : sub 118240336752787386417 mm = true) (hs : Only mm s0 s) :
    Only mm s0 (State.ckptFailed s x a) := by
  unfold State.ckptFailed
  try dsimp only
  repeat' first
    | (with_reducible first | assumption | apply only_ite | apply only_record | apply only_dropCtxs | apply only_modStripe | apply only_setFld)
    | (with_reducible first | apply only_jobFatalRec)
    | exact sub_trans rfl hm
    | (intro _; intros; try dsimp only)
    | with_reducible apply only_put68719476736
    | split

theorem only_unitFailed {s : State} (ctx : Nat) (purp : Nat) (hm : sub 118240336752787386417 mm = true) (hs : Only mm s0 s) :
    Only mm s0 (State.unitFailed s ctx purp) := by
  unfold State.unitFailed
  try dsimp only
  repeat' first
    | (with_reducible first | assumption | apply only_record | apply only_complete | apply only_setFld | apply only_ckptFailed)
    | exact sub_trans rfl hm
    | split
    | with_reducible apply only_put32
    | with_reducible apply only_put4611686018427387904
    | with_reducible apply only_put4611686018427387936

theorem only_verifyMiss {s : State} (ctx : Nat) (c : Ctx) (hm : sub 118240336752787386417 mm = true) (hs : Only mm s0 s) :
    Only mm s0 (State.verifyMiss s ctx c) := by
  unfold State.verifyMiss
  try dsimp only
  repeat' first
    | (with_reducible first | assumption | apply only_ite | apply only_inc | apply only_record | apply only_setCtx | apply only_unitFailed)
    | exact sub_trans rfl hm
    | split

theorem only_takeFlush {s : State} (ctx : Nat) (c : Ctx) (part : List Byte) (hm : sub 118240336752787386417 mm = true) (hs : Only mm s0 s) :
    Only mm s0 (State.takeFlush s ctx c part) := by
  unfold State.takeFlush
  try dsimp only
  repeat' first
    | (with_reducible first | assumption | apply only_ite | apply only_setCtx | apply only_take | apply only_verifyMiss | apply only_emit)
    | exact sub_trans rfl hm
    | (intro _; intros; try dsimp only)
    | split

theorem only_execCodecContextResume (ctx : Nat) (given : Nat) (space : Nat) (part : List Byte) {s : State} (hm : sub 118240336752787386417 mm = true) (hs : Only mm s0 s) :
    OnlyOut mm s0 (execCodecContextResume ctx given space part s) := by
  unfold execCodecContextResume
  try dsimp only
  repeat' first
    | (with_reducible first | assumption | exact trivial | apply onlyOut_next | apply onlyOut_ite | apply only_ite | apply only_takeFlush)
    | (with_reducible first | apply only_setCtx)
    | exact sub_trans rfl hm
    | split

theorem only_compressEnd {s : State} (ctx : Nat) (c : Ctx) (unit : List Byte) (room : Nat) (hm : sub 3145729 mm = true) (hs : Only mm s0 s) :
    Only mm s0 (State.compressEnd s ctx c unit room) := by
  unfold State.compressEnd
  try dsimp only
  repeat' first
    | (with_reducible first | assumption | apply only_ite | apply only_setCtx)
    | exact sub_trans rfl hm
    | split

theorem only_verifyEnd {s : State} (ctx : Nat) (c : Ctx) (hm : sub 118240336769967255601 mm = true) (hs : Only mm s0 s) :
    Only mm s0 (State.verifyEnd s ctx c) := by
  unfold State.verifyEnd
  try dsimp only
  repeat' first
    | (with_reducible first | assumption | apply only_ite | apply only_setCtx | apply only_inc | apply only_unitDone | apply only_verifyMiss)
    | exact sub_trans rfl hm
    | split

theorem only_exportUnread {s : State} (ctx : Nat) (da : Nat) (c : Ctx) (hm : sub 118240545934874308657 mm = true) (hs : Only mm s0 s) :
    Only mm s0 (State.exportUnread s ctx da c) := by
  unfold State.exportUnread
  try dsimp only
  repeat' first
    | (with_reducible first | assumption | apply only_ite | apply only_setCtx | apply only_failRead | apply only_hbmUe | apply only_setFld)
    | exact sub_trans rfl hm
    | with_reducible apply only_put32
    | with_reducible apply only_put4611686018427387904
    | with_reducible apply only_put4611686018427387936
    | split

theorem only_execCodecCompressDone (ctx : Nat) (unit : List Byte) (room : Nat) (ue : Option Nat) (sram : List SramErr) {s : State} (hm : sub 118312886945214427185 mm = true) (hs : Only mm s0 s) :
    OnlyOut mm s0 (execCodecCompressDone ctx unit room ue sram s) := by
  unfold execCodecCompressDone
  try dsimp only
  repeat' first
    | (with_reducible first | assumption | exact trivial | apply onlyOut_next | apply onlyOut_ite | apply only_ite | apply only_setCtx)
    | (with_reducible first | apply only_sramErrs | apply only_compressEnd | apply only_verifyMiss | apply only_exportUnread)
    | (with_reducible first | apply only_verifyEnd)
    | exact sub_trans rfl hm
    | split

theorem only_execCodecFlush (ctx : Nat) (part : List Byte) {s : State} (hm : sub 118240336752787386417 mm = true) (hs : Only mm s0 s) :
    OnlyOut mm s0 (execCodecFlush ctx part s) := by
  unfold execCodecFlush
  try dsimp only
  repeat' first
    | (with_reducible first | assumption | exact trivial | apply onlyOut_next | apply onlyOut_ite | apply only_ite | apply only_takeFlush)
    | (with_reducible first | apply only_setCtx)
    | exact sub_trans rfl hm
    | split

end Sys2Proof.Machine
end

