-- ==== Sys2Proof/Laws/OnlyFaults.lean ====
section
/-! SUPPORT. What each operation of Machine/Faults.lean may change of the state. -/

set_option linter.unusedVariables false
set_option linter.tactic.unusedName false

namespace Sys2Proof.Machine

variable {mm : Nat} {s0 : State}

theorem only_settleAll {s : State} (x : Stripe) (h : Int) (hm : sub 117598010581052301329 mm = true) (hs : Only mm s0 s) :
    Only mm s0 (State.settleAll s x h) := by
  unfold State.settleAll
  try dsimp only
  repeat' first
    | (with_reducible first | assumption | apply only_cutFrame | apply only_confirmFlash | apply only_applyFor | apply only_foldl)
    | exact sub_trans rfl hm
    | (intro _; intros; try dsimp only)

theorem only_afterSettle {s : State} (x : Stripe) (hm : sub 118240336753793757233 mm = true) (hs : Only mm s0 s) :
    Only mm s0 (State.afterSettle s x) := by
  unfold State.afterSettle
  try dsimp only
  repeat' first
    | (with_reducible first | assumption | apply only_ite | apply only_stopCkpt | apply only_abortRun | apply only_abortNow)
    | (with_reducible first | apply only_dropFrames | apply only_flushStrays | apply only_modStripe | apply only_setFld)
    | exact sub_trans rfl hm
    | (intro _; intros; try dsimp only)
    | split

theorem only_afterUndo {s : State} (x : Stripe) (hm : sub 73786976294842458113 mm = true) (hs : Only mm s0 s) :
    Only mm s0 (State.afterUndo s x) := by
  unfold State.afterUndo
  try dsimp only
  repeat' first
    | (with_reducible first | assumption | apply only_modStripe | apply only_endStripe | apply only_setFld)
    | exact sub_trans rfl hm
    | (intro _; intros; try dsimp only)

theorem only_execContainSettled (fx : List ExitFaults) {s : State} (hm : sub 118240336753794019377 mm = true) (hs : Only mm s0 s) :
    OnlyOut mm s0 (execContainSettled fx s) := by
  unfold execContainSettled
  try dsimp only
  repeat' first
    | (with_reducible first | assumption | exact trivial | apply onlyOut_next | apply onlyOut_ite | apply only_ite | apply only_settleAll)
    | (with_reducible first | apply only_undo | apply only_checkAll | apply only_afterSettle | apply only_afterUndo)
    | exact sub_trans rfl hm
    | (intro _; intros; try dsimp only)
    | split

theorem only_verifyCkpt {s : State} (x : Stripe) (hm : sub 136687079039787135025 mm = true) (hs : Only mm s0 s) :
    Only mm s0 (State.verifyCkpt s x) := by
  unfold State.verifyCkpt
  try dsimp only
  repeat' first
    | (with_reducible first | assumption | apply only_writeBell | apply only_setFld | apply only_raiseIrq)
    | exact sub_trans rfl hm
    | with_reducible apply only_put206158430208
    | with_reducible apply only_put18446744073709551616
    | with_reducible apply only_put18446744279867981824

theorem only_containDone {s : State} (x : Stripe) (hm : sub 136687079039787135025 mm = true) (hs : Only mm s0 s) :
    Only mm s0 (State.containDone s x) := by
  unfold State.containDone
  try dsimp only
  repeat' first
    | (with_reducible first | assumption | apply only_verifyCkpt | apply only_modStripe | apply only_complete | apply only_endStripe)
    | (with_reducible first | apply only_foldl)
    | exact sub_trans rfl hm
    | (intro _; intros; try dsimp only)

theorem only_execCheckpointVerified (fail : Option (Bool × Nat)) {s : State} (hm : sub 136687292070168424497 mm = true) (hs : Only mm s0 s) :
    OnlyOut mm s0 (execCheckpointVerified fail s) := by
  unfold execCheckpointVerified
  try dsimp only
  repeat' first
    | (with_reducible first | assumption | exact trivial | apply onlyOut_next | apply onlyOut_ite | apply only_ite | apply only_fail)
    | (with_reducible first | apply only_showDaErr | apply only_ckptFailed | apply only_missRead | apply only_repeatWrites)
    | (with_reducible first | apply only_containDone)
    | exact sub_trans rfl hm
    | (intro _; intros; try dsimp only)
    | split

theorem only_execBeamOff {s : State} (hm : sub 117598008931784861713 mm = true) (hs : Only mm s0 s) :
    OnlyOut mm s0 (execBeamOff s) := by
  unfold execBeamOff
  try dsimp only
  repeat' first
    | (with_reducible first | assumption | exact trivial | apply onlyOut_next | apply onlyOut_ite | apply only_ite | apply only_setFld)
    | (with_reducible first | apply only_showPins | apply only_raiseIrq | apply only_contain | apply only_shadeOn)
    | exact sub_trans rfl hm
    | with_reducible apply only_put2048
    | split

theorem only_execBeamOffRelease {s : State} (hm : sub 73786976294838208513 mm = true) (hs : Only mm s0 s) :
    OnlyOut mm s0 (execBeamOffRelease s) := by
  unfold execBeamOffRelease
  try dsimp only
  repeat' first
    | (with_reducible first | assumption | exact trivial | apply onlyOut_next | apply onlyOut_ite | apply only_ite | apply only_showPins)
    | (with_reducible first | apply only_dropIrq)
    | exact sub_trans rfl hm
    | with_reducible apply only_put2048
    | split

theorem only_writeInterlock {s : State} (o : Origin) (v : Nat) (hm : sub 117598571881738281013 mm = true) (hs : Only mm s0 s) :
    Only mm s0 (State.writeInterlock s o v) := by
  unfold State.writeInterlock
  try dsimp only
  repeat' first
    | (with_reducible first | assumption | apply only_ite | apply only_applyWrite | apply only_showPins)
    | exact sub_trans rfl hm
    | (refine only_permit_ok (h := ?_) (e := by assumption))
    | (refine only_permit_error (hm := ?_) (h := ?_) (e := by assumption))
    | split

theorem only_execInterlockLatchedClear (o : Origin) (v : Nat) {s : State} (hm : sub 117598571881738281013 mm = true) (hs : Only mm s0 s) :
    OnlyOut mm s0 (execInterlockLatchedClear o v s) := by
  unfold execInterlockLatchedClear
  repeat' first
    | (with_reducible first | assumption | exact trivial | apply onlyOut_next | apply onlyOut_ite | apply only_writeInterlock)
    | exact sub_trans rfl hm

theorem only_execForceShade (o : Origin) (v : Nat) {s : State} (hm : sub 117598571881738281013 mm = true) (hs : Only mm s0 s) :
    OnlyOut mm s0 (execForceShade o v s) := by
  unfold execForceShade
  repeat' first
    | (with_reducible first | assumption | exact trivial | apply onlyOut_next | apply onlyOut_ite | apply only_writeInterlock)
    | exact sub_trans rfl hm

theorem only_restart {s : State} (cause : Nat) (hm : sub 9212675987739767807 mm = true) (hs : Only mm s0 s) :
    Only mm s0 (State.restart s cause) := by
  unfold State.restart
  try dsimp only
  repeat' first
    | (with_reducible first | assumption | apply only_ite | apply only_wr)
    | exact sub_trans rfl hm
    | with_reducible apply only_put9212675987739767807
    | split

theorem only_deviceReset {s : State} (cause : Nat) (hm : sub 82999652282577974271 mm = true) (hs : Only mm s0 s) :
    Only mm s0 (State.deviceReset s cause) := by
  unfold State.deviceReset
  repeat' first
    | (with_reducible first | assumption | apply only_restart | apply only_tellBoard)
    | exact sub_trans rfl hm

theorem only_toNight {s : State} (hm : sub 9212675987739768831 mm = true) (hs : Only mm s0 s) :
    Only mm s0 (State.toNight s) := by
  unfold State.toNight
  try dsimp only
  repeat' first
    | (with_reducible first | assumption | apply only_restart)
    | exact sub_trans rfl hm
    | with_reducible apply only_put1088

theorem only_execDeviceReset (o : Origin) (v : Nat) {s : State} (hm : sub 119893140429997077503 mm = true) (hs : Only mm s0 s) :
    OnlyOut mm s0 (execDeviceReset o v s) := by
  unfold execDeviceReset
  repeat' first
    | (with_reducible first | assumption | exact trivial | apply onlyOut_next | apply onlyOut_ite | apply only_ite | apply only_act)
    | (with_reducible first | apply only_deviceReset)
    | exact sub_trans rfl hm
    | (intro _; intros; try dsimp only)
    | split

theorem only_execPcieFundamentalReset {s : State} (hm : sub 82999652282577974271 mm = true) (hs : Only mm s0 s) :
    OnlyOut mm s0 (execPcieFundamentalReset s) := by
  unfold execPcieFundamentalReset
  repeat' first
    | (with_reducible first | assumption | exact trivial | apply onlyOut_next | apply onlyOut_ite | apply only_ite | apply only_deviceReset)
    | exact sub_trans rfl hm
    | split

theorem only_releaseLog {s : State} (n : Nat) (hm : sub 17 mm = true) (hs : Only mm s0 s) :
    Only mm s0 (State.releaseLog s n) := by
  unfold State.releaseLog
  try dsimp only
  repeat' first
    | (with_reducible first | assumption | apply only_wr)
    | exact sub_trans rfl hm
    | with_reducible apply only_put16

theorem only_execErrlogHead (o : Origin) (v : Nat) {s : State} (hm : sub 117598571881738281013 mm = true) (hs : Only mm s0 s) :
    OnlyOut mm s0 (execErrlogHead o v s) := by
  unfold execErrlogHead
  try dsimp only
  repeat' first
    | (with_reducible first | assumption | exact trivial | apply onlyOut_next | apply onlyOut_ite | apply only_ite | apply only_refuse)
    | (with_reducible first | apply only_applyWrite | apply only_releaseLog)
    | exact sub_trans rfl hm
    | (refine only_permit_ok (h := ?_) (e := by assumption))
    | (refine only_permit_error (hm := ?_) (h := ?_) (e := by assumption))
    | split

theorem only_execSupplyExcursion (rail : Nat) (uv : Nat) {s : State} (hm : sub 119902710579205240831 mm = true) (hs : Only mm s0 s) :
    OnlyOut mm s0 (execSupplyExcursion rail uv s) := by
  unfold execSupplyExcursion
  try dsimp only
  repeat' first
    | (with_reducible first | assumption | exact trivial | apply onlyOut_next | apply onlyOut_ite | apply only_ite | apply only_toNight)
    | (with_reducible first | apply only_deviceFatal)
    | exact sub_trans rfl hm
    | with_reducible apply only_put1024
    | split

theorem only_execSysClockLoss {s : State} (hm : sub 115932239950887579697 mm = true) (hs : Only mm s0 s) :
    OnlyOut mm s0 (execSysClockLoss s) := by
  unfold execSysClockLoss
  repeat' first
    | (with_reducible first | assumption | exact trivial | apply onlyOut_next | apply onlyOut_ite | apply only_ite | apply only_setFld)
    | (with_reducible first | apply only_deviceFatal)
    | exact sub_trans rfl hm
    | split

theorem only_pllLane {s : State} (l : Nat) (hm : sub 117598008931784859665 mm = true) (hs : Only mm s0 s) :
    Only mm s0 (State.pllLane s l) := by
  unfold State.pllLane
  try dsimp only
  repeat' first
    | (with_reducible first | assumption | apply only_ite | apply only_laneDown | apply only_setLane)
    | exact sub_trans rfl hm
    | split

theorem only_setPort {s : State} (i : Nat) (p : Port) (hm : sub 2305843009213693952 mm = true) (hs : Only mm s0 s) :
    Only mm s0 (State.setPort s i p) := by
  unfold State.setPort
  try dsimp only
  repeat' first
    | (with_reducible first | assumption)
    | exact sub_trans rfl hm
    | (intro _; intros; try dsimp only)
    | with_reducible apply only_put2305843009213693952

theorem only_portDown {s : State} (i : Nat) (hm : sub 117598008931784859665 mm = true) (hs : Only mm s0 s) :
    Only mm s0 (State.portDown s i) := by
  unfold State.portDown
  try dsimp only
  repeat' first
    | (with_reducible first | assumption | apply only_ite | apply only_setPort | apply only_record)
    | exact sub_trans rfl hm
    | split

theorem only_execSerdesPllUnlock (lanes : List Nat) (ports : List Nat) {s : State} (hm : sub 117598008931784859665 mm = true) (hs : Only mm s0 s) :
    OnlyOut mm s0 (execSerdesPllUnlock lanes ports s) := by
  unfold execSerdesPllUnlock
  repeat' first
    | (with_reducible first | assumption | exact trivial | apply onlyOut_next | apply onlyOut_ite | apply only_ite | apply only_portDown)
    | (with_reducible first | apply only_pllLane | apply only_foldl)
    | exact sub_trans rfl hm
    | (intro _; intros; try dsimp only)
    | split

theorem only_execSysWatchdog {s : State} (hm : sub 115932239950887579697 mm = true) (hs : Only mm s0 s) :
    OnlyOut mm s0 (execSysWatchdog s) := by
  unfold execSysWatchdog
  repeat' first
    | (with_reducible first | assumption | exact trivial | apply onlyOut_next | apply onlyOut_ite | apply only_ite | apply only_deviceFatal)
    | exact sub_trans rfl hm
    | split

theorem only_execSysStateParity (page : Nat) {s : State} (hm : sub 115932239950887579697 mm = true) (hs : Only mm s0 s) :
    OnlyOut mm s0 (execSysStateParity page s) := by
  unfold execSysStateParity
  repeat' first
    | (with_reducible first | assumption | exact trivial | apply onlyOut_next | apply onlyOut_ite | apply only_ite | apply only_deviceFatal)
    | exact sub_trans rfl hm
    | split

end Sys2Proof.Machine
end

