-- ==== Sys2Proof/Laws/OnlyAge.lean ====
section
/-! SUPPORT. What each operation of Machine/Age.lean may change of the state. -/

set_option linter.unusedVariables false
set_option linter.tactic.unusedName false

namespace Sys2Proof.Machine

variable {mm : Nat} {s0 : State}

theorem only_plan {s : State} (bit : Nat) (shift : Nat) (code : Nat) (item : Nat) (limit : Bool) {act : State → State} (hm : sub 118021910246711107633 mm = true) (hs : Only mm s0 s) (hact : ∀ t, Only mm s0 t → Only mm s0 (act t)) :
    Only mm s0 (State.plan s bit shift code item limit act) := by
  unfold State.plan
  try dsimp only
  repeat' first
    | (with_reducible first | assumption | apply only_ite | apply hact | apply only_record | apply only_act | apply only_saveAgeing)
    | (with_reducible first | apply only_commit | apply only_bump)
    | exact sub_trans rfl hm
    | (intro _; intros; try dsimp only)
    | split
    | with_reducible apply only_put288230376151711744

theorem only_planVolt {s : State} (least : Nat) (hm : sub 118021910246711107633 mm = true) (hs : Only mm s0 s) :
    Only mm s0 (State.planVolt s least) := by
  unfold State.planVolt
  try dsimp only
  repeat' first
    | (with_reducible first | assumption | apply only_ite | apply only_plan)
    | exact sub_trans rfl hm
    | (intro _; intros; try dsimp only)
    | with_reducible apply only_put288230376151711744
    | split

theorem only_planLane {s : State} (eyes : List (Nat × Nat × Nat)) (hm : sub 118021910246711107633 mm = true) (hs : Only mm s0 s) :
    Only mm s0 (State.planLane s eyes) := by
  unfold State.planLane
  try dsimp only
  repeat' first
    | (with_reducible first | assumption | apply only_id | apply only_plan | apply only_setLane)
    | exact sub_trans rfl hm
    | (intro _; intros; try dsimp only)
    | split
    | with_reducible apply only_put288230376151711744

theorem only_planRefresh {s : State} (hm : sub 118021910246711107633 mm = true) (hs : Only mm s0 s) :
    Only mm s0 (State.planRefresh s) := by
  unfold State.planRefresh
  try dsimp only
  repeat' first
    | (with_reducible first | assumption | apply only_ite | apply only_plan)
    | exact sub_trans rfl hm
    | (intro _; intros; try dsimp only)
    | with_reducible apply only_put288230376151711744
    | split

theorem only_planGuard {s : State} (resid : List Nat) (hm : sub 118021910246711107633 mm = true) (hs : Only mm s0 s) :
    Only mm s0 (State.planGuard s resid) := by
  unfold State.planGuard
  try dsimp only
  repeat' first
    | (with_reducible first | assumption | apply only_ite | apply only_plan)
    | exact sub_trans rfl hm
    | (intro _; intros; try dsimp only)
    | with_reducible apply only_put288230376151711744
    | split

theorem only_measureGain {s : State} (least : Nat) (hm : sub 288230376151711744 mm = true) (hs : Only mm s0 s) :
    Only mm s0 (State.measureGain s least) := by
  unfold State.measureGain
  try dsimp only
  repeat' first
    | (with_reducible first | assumption | apply only_ite)
    | exact sub_trans rfl hm
    | split
    | with_reducible apply only_put288230376151711744

theorem only_takeHour {s : State} (pathMin : List Nat) (eyes : List (Nat × Nat × Nat)) (resid : List Nat) (hm : sub 288230376151711745 mm = true) (hs : Only mm s0 s) :
    Only mm s0 (State.takeHour s pathMin eyes resid) := by
  unfold State.takeHour
  try dsimp only
  repeat' first
    | (with_reducible first | assumption | apply only_wr | apply only_measureGain)
    | exact sub_trans rfl hm
    | split
    | with_reducible apply only_put288230376151711744

theorem only_execPlannerHour (pathMin : List Nat) (eyes : List (Nat × Nat)) (resid : List Nat) {s : State} (hm : sub 118022191721687818289 mm = true) (hs : Only mm s0 s) :
    OnlyOut mm s0 (execPlannerHour pathMin eyes resid s) := by
  unfold execPlannerHour
  try dsimp only
  repeat' first
    | (with_reducible first | assumption | exact trivial | apply onlyOut_next | apply onlyOut_ite | apply only_ite | apply only_takeHour)
    | (with_reducible first | apply only_planVolt | apply only_planLane | apply only_planRefresh | apply only_planGuard | apply only_showAge)
    | (with_reducible first | apply only_saveAgeing | apply only_keepNow)
    | exact sub_trans rfl hm
    | (intro _; intros; try dsimp only)
    | split

theorem only_showMargin {s : State} (hm : sub 117598008931784859665 mm = true) (hs : Only mm s0 s) :
    Only mm s0 (State.showMargin s) := by
  unfold State.showMargin
  try dsimp only
  repeat' first
    | (with_reducible first | assumption | apply only_ite | apply only_wr | apply only_record | apply only_foldl)
    | exact sub_trans rfl hm
    | (intro _; intros; try dsimp only)
    | split

theorem only_execTrendEntry (tjAvg : Nat) {s : State} (hm : sub 118021910246711107633 mm = true) (hs : Only mm s0 s) :
    OnlyOut mm s0 (execTrendEntry tjAvg s) := by
  unfold execTrendEntry
  try dsimp only
  repeat' first
    | (with_reducible first | assumption | exact trivial | apply onlyOut_next | apply onlyOut_ite | apply only_ite | apply only_take)
    | (with_reducible first | apply only_putKeep | apply only_showMargin)
    | exact sub_trans rfl hm
    | (intro _; intros; try dsimp only)
    | with_reducible apply only_put288230376151711744
    | split

theorem only_execRebase (o : Origin) (v : Nat) {s : State} (hm : sub 118022191721687818289 mm = true) (hs : Only mm s0 s) :
    OnlyOut mm s0 (execRebase o v s) := by
  unfold execRebase
  try dsimp only
  repeat' first
    | (with_reducible first | assumption | exact trivial | apply onlyOut_next | apply onlyOut_ite | apply only_ite | apply only_act)
    | (with_reducible first | apply only_saveAgeing | apply only_keepNow)
    | exact sub_trans rfl hm
    | (intro _; intros; try dsimp only)
    | with_reducible apply only_put288230376151711744
    | split

theorem only_execAvsbusTransferEnd (ok : Bool) {s : State} (hm : sub 116220470327039291441 mm = true) (hs : Only mm s0 s) :
    OnlyOut mm s0 (execAvsbusTransferEnd ok s) := by
  unfold execAvsbusTransferEnd
  try dsimp only
  repeat' first
    | (with_reducible first | assumption | exact trivial | apply onlyOut_next | apply onlyOut_ite | apply only_ite | apply only_deviceFatal)
    | (with_reducible first | apply only_setFld | apply only_emit | apply only_showAge)
    | exact sub_trans rfl hm
    | with_reducible apply only_put288230376151711744
    | split

end Sys2Proof.Machine
end

