-- ==== Sys2Proof/Laws/OnlyCrc.lean ====
section
/-! SUPPORT. What each operation of Machine/Crc.lean may change of the state. -/

set_option linter.unusedVariables false
set_option linter.tactic.unusedName false

namespace Sys2Proof.Machine

variable {mm : Nat} {s0 : State}

theorem only_setEngine {s : State} (e : Nat) (x : Engine) (hm : sub 4503599627370496 mm = true) (hs : Only mm s0 s) :
    Only mm s0 (State.setEngine s e x) := by
  unfold State.setEngine
  try dsimp only
  repeat' first
    | (with_reducible first | assumption)
    | exact sub_trans rfl hm
    | (intro _; intros; try dsimp only)
    | with_reducible apply only_put4503599627370496

theorem only_setValue {s : State} (e : Nat) (v : Nat) (hm : sub 1 mm = true) (hs : Only mm s0 s) :
    Only mm s0 (State.setValue s e v) := by
  unfold State.setValue
  repeat' first
    | (with_reducible first | assumption | apply only_wr64)
    | exact sub_trans rfl hm

theorem only_crcCompare {s : State} (e : Nat) (hm : sub 117598008931784859665 mm = true) (hs : Only mm s0 s) :
    Only mm s0 (State.crcCompare s e) := by
  unfold State.crcCompare
  repeat' first
    | (with_reducible first | assumption | apply only_ite | apply only_setFld | apply only_record | apply only_raiseIrq)
    | exact sub_trans rfl hm
    | split

theorem only_crcDone {s : State} (e : Nat) (hm : sub 73786976294838206465 mm = true) (hs : Only mm s0 s) :
    Only mm s0 (State.crcDone s e) := by
  unfold State.crcDone
  repeat' first
    | (with_reducible first | assumption | apply only_setFld | apply only_raiseIrq)
    | exact sub_trans rfl hm

theorem only_setCrcBusy {s : State} (e : Nat) (b : Nat) (hm : sub 1 mm = true) (hs : Only mm s0 s) :
    Only mm s0 (State.setCrcBusy s e b) := by
  unfold State.setCrcBusy
  repeat' first
    | (with_reducible first | assumption | apply only_setFld)
    | exact sub_trans rfl hm

theorem only_crcFail {s : State} (e : Nat) (o : Origin) (code : Nat) (hm : sub 117598008931784859665 mm = true) (hs : Only mm s0 s) :
    Only mm s0 (State.crcFail s e o code) := by
  unfold State.crcFail
  try dsimp only
  repeat' first
    | (with_reducible first | assumption | apply only_setFld | apply only_record | apply only_crcDone)
    | exact sub_trans rfl hm

theorem only_crcStart {s : State} (o : Origin) (e : Nat) (hm : sub 117602512531412230161 mm = true) (hs : Only mm s0 s) :
    Only mm s0 (State.crcStart s o e) := by
  unfold State.crcStart
  try dsimp only
  repeat' first
    | (with_reducible first | assumption | apply only_ite | apply only_setFld | apply only_wr | apply only_crcFail | apply only_setCrcBusy)
    | (with_reducible first | apply only_setEngine)
    | exact sub_trans rfl hm
    | split

theorem only_crcCheck {s : State} (e : Nat) (hm : sub 117598008931784859665 mm = true) (hs : Only mm s0 s) :
    Only mm s0 (State.crcCheck s e) := by
  unfold State.crcCheck
  repeat' first
    | (with_reducible first | assumption | apply only_setFld | apply only_crcCompare | apply only_crcDone)
    | exact sub_trans rfl hm

theorem only_crcAbort {s : State} (e : Nat) (hm : sub 4503599627370496 mm = true) (hs : Only mm s0 s) :
    Only mm s0 (State.crcAbort s e) := by
  unfold State.crcAbort
  try dsimp only
  repeat' first
    | (with_reducible first | assumption | apply only_ite | apply only_setEngine)
    | exact sub_trans rfl hm
    | split

theorem only_crcCmd {s : State} (o : Origin) (e : Nat) (v : Nat) (hm : sub 117602512531412230161 mm = true) (hs : Only mm s0 s) :
    Only mm s0 (State.crcCmd s o e v) := by
  unfold State.crcCmd
  try dsimp only
  repeat' first
    | (with_reducible first | assumption | apply only_ite | apply only_crcAbort | apply only_refuse | apply only_setValue | apply only_crcStart)
    | (with_reducible first | apply only_crcCheck)
    | exact sub_trans rfl hm
    | split

theorem only_writeCmd {s : State} (o : Origin) (e : Nat) (v : Nat) (hm : sub 117602512531412230161 mm = true) (hs : Only mm s0 s) :
    Only mm s0 (State.writeCmd s o e v) := by
  unfold State.writeCmd
  repeat' first
    | (with_reducible first | assumption | apply only_ite | apply only_act | apply only_crcCmd)
    | exact sub_trans rfl hm
    | (intro _; intros; try dsimp only)
    | split

theorem only_execCrcInit (o : Origin) (e : Nat) {s : State} (hm : sub 117602512531412230161 mm = true) (hs : Only mm s0 s) :
    OnlyOut mm s0 (execCrcInit o e s) := by
  unfold execCrcInit
  repeat' first
    | (with_reducible first | assumption | exact trivial | apply onlyOut_next | apply onlyOut_ite | apply only_writeCmd)
    | exact sub_trans rfl hm

theorem only_execCrcStart (o : Origin) (e : Nat) {s : State} (hm : sub 117602512531412230161 mm = true) (hs : Only mm s0 s) :
    OnlyOut mm s0 (execCrcStart o e s) := by
  unfold execCrcStart
  repeat' first
    | (with_reducible first | assumption | exact trivial | apply onlyOut_next | apply onlyOut_ite | apply only_writeCmd)
    | exact sub_trans rfl hm

theorem only_execCrcCheck (o : Origin) (e : Nat) {s : State} (hm : sub 117602512531412230161 mm = true) (hs : Only mm s0 s) :
    OnlyOut mm s0 (execCrcCheck o e s) := by
  unfold execCrcCheck
  repeat' first
    | (with_reducible first | assumption | exact trivial | apply onlyOut_next | apply onlyOut_ite | apply only_writeCmd)
    | exact sub_trans rfl hm

theorem only_execCrcAbort (o : Origin) (e : Nat) {s : State} (hm : sub 117602512531412230161 mm = true) (hs : Only mm s0 s) :
    OnlyOut mm s0 (execCrcAbort o e s) := by
  unfold execCrcAbort
  repeat' first
    | (with_reducible first | assumption | exact trivial | apply onlyOut_next | apply onlyOut_ite | apply only_writeCmd)
    | exact sub_trans rfl hm

theorem only_feedData {s : State} (o : Origin) (e : Nat) (v : Nat) (hm : sub 117598008931784859665 mm = true) (hs : Only mm s0 s) :
    Only mm s0 (State.feedData s o e v) := by
  unfold State.feedData
  repeat' first
    | (with_reducible first | assumption | apply only_ite | apply only_refuse | apply only_setValue)
    | exact sub_trans rfl hm
    | split

theorem only_execCrcData (o : Origin) (e : Nat) (v : Nat) {s : State} (hm : sub 117598008931784859665 mm = true) (hs : Only mm s0 s) :
    OnlyOut mm s0 (execCrcData o e v s) := by
  unfold execCrcData
  repeat' first
    | (with_reducible first | assumption | exact trivial | apply onlyOut_next | apply onlyOut_ite | apply only_ite | apply only_act)
    | (with_reducible first | apply only_feedData)
    | exact sub_trans rfl hm
    | (intro _; intros; try dsimp only)
    | split

theorem only_crcUe {s : State} (e : Nat) (count : Nat) (hm : sub 118312885003885801521 mm = true) (hs : Only mm s0 s) :
    Only mm s0 (State.crcUe s e count) := by
  unfold State.crcUe
  try dsimp only
  repeat' first
    | (with_reducible first | assumption | apply only_ite | apply only_sramErr | apply only_hbmUe)
    | exact sub_trans rfl hm
    | split

theorem only_execCrcJobDone (e : Nat) (data : List Byte) (ue : Bool) {s : State} (hm : sub 118317388603513172017 mm = true) (hs : Only mm s0 s) :
    OnlyOut mm s0 (execCrcJobDone e data ue s) := by
  unfold execCrcJobDone
  try dsimp only
  repeat' first
    | (with_reducible first | assumption | exact trivial | apply onlyOut_next | apply onlyOut_ite | apply only_ite | apply only_setEngine)
    | (with_reducible first | apply only_setCrcBusy | apply only_setValue | apply only_wr | apply only_crcUe | apply only_crcFail)
    | (with_reducible first | apply only_crcCompare | apply only_crcDone)
    | exact sub_trans rfl hm
    | split

theorem only_abortEngines {s : State} (hm : sub 4503599627370496 mm = true) (hs : Only mm s0 s) :
    Only mm s0 (State.abortEngines s) := by
  unfold State.abortEngines
  repeat' first
    | (with_reducible first | assumption | apply only_crcAbort | apply only_foldl)
    | exact sub_trans rfl hm
    | (intro _; intros; try dsimp only)

end Sys2Proof.Machine
end

