-- ==== Sys2Proof/Laws/OnlyAudit.lean ====
section
/-! SUPPORT. What each operation of Machine/Audit.lean may change of the state. -/

set_option linter.unusedVariables false
set_option linter.tactic.unusedName false

namespace Sys2Proof.Machine

variable {mm : Nat} {s0 : State}

theorem only_putAnchors {s : State} (hm : sub 9570149208162304 mm = true) (hs : Only mm s0 s) :
    Only mm s0 (State.putAnchors s) := by
  unfold State.putAnchors
  try dsimp only
  repeat' first
    | (with_reducible first | assumption | apply only_ite | apply only_listKeep)
    | exact sub_trans rfl hm
    | (intro _; intros; try dsimp only)
    | with_reducible apply only_put9007199254740992
    | split

theorem only_placeSign {s : State} (seq : Nat) (chain : Nat) (hm : sub 9570149208162337 mm = true) (hs : Only mm s0 s) :
    Only mm s0 (State.placeSign s seq chain) := by
  unfold State.placeSign
  try dsimp only
  repeat' first
    | (with_reducible first | assumption | apply only_chain | apply only_wr | apply only_wr64 | apply only_putAnchors)
    | exact sub_trans rfl hm
    | with_reducible apply only_put32

theorem only_execAuditSign {s : State} (hm : sub 32 mm = true) (hs : Only mm s0 s) :
    OnlyOut mm s0 (execAuditSign s) := by
  unfold execAuditSign
  repeat' first
    | (with_reducible first | assumption | exact trivial | apply onlyOut_next | apply onlyOut_ite | apply only_ite | apply only_beginSign)
    | exact sub_trans rfl hm
    | split

theorem only_exportSigned {s : State} (hm : sub 32 mm = true) (hs : Only mm s0 s) :
    Only mm s0 (State.exportSigned s) := by
  unfold State.exportSigned
  try dsimp only
  repeat' first
    | (with_reducible first | assumption | apply only_beginSign)
    | exact sub_trans rfl hm
    | split
    | with_reducible apply only_put32

theorem only_execAuditSignatureDone {s : State} (hm : sub 9570149208162337 mm = true) (hs : Only mm s0 s) :
    OnlyOut mm s0 (execAuditSignatureDone s) := by
  unfold execAuditSignatureDone
  try dsimp only
  repeat' first
    | (with_reducible first | assumption | exact trivial | apply onlyOut_next | apply onlyOut_ite | apply only_ite | apply only_placeSign)
    | (with_reducible first | apply only_exportSigned)
    | exact sub_trans rfl hm
    | split

theorem only_exportBegin {s : State} (hm : sub 33 mm = true) (hs : Only mm s0 s) :
    Only mm s0 (State.exportBegin s) := by
  unfold State.exportBegin
  try dsimp only
  repeat' first
    | (with_reducible first | assumption | apply only_setFld | apply only_beginSign)
    | exact sub_trans rfl hm
    | split
    | with_reducible apply only_put32

theorem only_exportCmd {s : State} (v : Nat) (hm : sub 73786976294838206497 mm = true) (hs : Only mm s0 s) :
    Only mm s0 (State.exportCmd s v) := by
  unfold State.exportCmd
  try dsimp only
  repeat' first
    | (with_reducible first | assumption | apply only_ite | apply only_raiseIrq | apply only_exportBegin)
    | exact sub_trans rfl hm
    | split

theorem only_execExportCmd (o : Origin) (v : Nat) {s : State} (hm : sub 117598008931784859697 mm = true) (hs : Only mm s0 s) :
    OnlyOut mm s0 (execExportCmd o v s) := by
  unfold execExportCmd
  repeat' first
    | (with_reducible first | assumption | exact trivial | apply onlyOut_next | apply onlyOut_ite | apply only_act | apply only_exportCmd)
    | exact sub_trans rfl hm
    | (intro _; intros; try dsimp only)

theorem only_execAuditExportReady {s : State} (hm : sub 73786976294838206497 mm = true) (hs : Only mm s0 s) :
    OnlyOut mm s0 (execAuditExportReady s) := by
  unfold execAuditExportReady
  try dsimp only
  repeat' first
    | (with_reducible first | assumption | exact trivial | apply onlyOut_next | apply onlyOut_ite | apply only_ite | apply only_wr)
    | (with_reducible first | apply only_wr64 | apply only_raiseIrq | apply only_foldl)
    | exact sub_trans rfl hm
    | (intro _; intros; try dsimp only)
    | split
    | with_reducible apply only_put32

theorem only_commitWaiting {s : State} (hm : sub 117598571881738281009 mm = true) (hs : Only mm s0 s) :
    Only mm s0 (State.commitWaiting s) := by
  unfold State.commitWaiting
  try dsimp only
  repeat' first
    | (with_reducible first | assumption | apply only_ite | apply only_setFld | apply only_commit | apply only_record | apply only_foldl)
    | exact sub_trans rfl hm
    | (intro _; intros; try dsimp only)
    | split
    | with_reducible apply only_put32

theorem only_exportAck {s : State} (o : Origin) (v : Nat) (hm : sub 117733679870559395889 mm = true) (hs : Only mm s0 s) :
    Only mm s0 (State.exportAck s o v) := by
  unfold State.exportAck
  try dsimp only
  repeat' first
    | (with_reducible first | assumption | apply only_ite | apply only_refuse | apply only_take | apply only_wr | apply only_wr64)
    | (with_reducible first | apply only_putAnchors | apply only_setFld | apply only_commitWaiting | apply only_flushKeep)
    | exact sub_trans rfl hm
    | (intro _; intros; try dsimp only)
    | with_reducible apply only_put32
    | split

theorem only_execExportAck (o : Origin) (v : Nat) {s : State} (hm : sub 117733679870559395889 mm = true) (hs : Only mm s0 s) :
    OnlyOut mm s0 (execExportAck o v s) := by
  unfold execExportAck
  repeat' first
    | (with_reducible first | assumption | exact trivial | apply onlyOut_next | apply onlyOut_ite | apply only_act | apply only_exportAck)
    | exact sub_trans rfl hm
    | (intro _; intros; try dsimp only)

end Sys2Proof.Machine
end

