-- ==== Sys2Proof/Laws/OnlyFold.lean ====
section
/-! SUPPORT. What each operation of Machine/Fold.lean may change of the state. -/

set_option linter.unusedVariables false
set_option linter.tactic.unusedName false

namespace Sys2Proof.Machine

variable {mm : Nat} {s0 : State}

theorem only_mbEnd {s : State} (code : Nat) (payload : List Byte) (hm : sub 74363437047141629952 mm = true) (hs : Only mm s0 s) :
    Only mm s0 (State.mbEnd s code payload) := by
  unfold State.mbEnd
  try dsimp only
  repeat' first
    | (with_reducible first | assumption | apply only_emit | apply only_mailbox)
    | exact sub_trans rfl hm
    | (intro _; intros; try dsimp only)
    | with_reducible apply only_put576460752303423488

theorem only_mbFail {s : State} (code : Nat) (hm : sub 118174469684088283153 mm = true) (hs : Only mm s0 s) :
    Only mm s0 (State.mbFail s code) := by
  unfold State.mbFail
  repeat' first
    | (with_reducible first | assumption | apply only_record | apply only_mbEnd)
    | exact sub_trans rfl hm

theorem only_mailbox {s : State} (boot : Bool) (always : Bool) {f : State → State} (hm : sub 118174469684088283153 mm = true) (hs : Only mm s0 s) (hf : ∀ t, Only mm s0 t → Only mm s0 (f t)) :
    OnlyOut mm s0 (State.mailbox s boot always f) := by
  unfold State.mailbox
  repeat' first
    | (with_reducible first | assumption | exact trivial | apply onlyOut_next | apply onlyOut_ite | apply only_ite | apply hf)
    | (with_reducible first | apply only_mbFail | apply only_countFull)
    | exact sub_trans rfl hm
    | split

theorem only_draw {s : State} (hm : sub 36893488147419103232 mm = true) (hs : Only mm s0 s) :
    Only mm s0 (State.draw s).2 := by
  unfold State.draw
  try dsimp only
  repeat' first
    | (with_reducible first | assumption)
    | exact sub_trans rfl hm
    | with_reducible apply only_put36893488147419103232

theorem only_setFwSlot {s : State} (i : Nat) (x : FwSlot) (hm : sub 576460752303423488 mm = true) (hs : Only mm s0 s) :
    Only mm s0 (State.setFwSlot s i x) := by
  unfold State.setFwSlot
  try dsimp only
  repeat' first
    | (with_reducible first | assumption)
    | exact sub_trans rfl hm
    | (intro _; intros; try dsimp only)
    | with_reducible apply only_put576460752303423488

theorem only_execAttest (nonce : List Byte) {s : State} (hm : sub 118174469684088283153 mm = true) (hs : Only mm s0 s) :
    OnlyOut mm s0 (execAttest nonce s) := by
  unfold execAttest
  repeat' first
    | (with_reducible first | assumption | exact trivial | apply onlyOut_next | apply onlyOut_ite | apply only_ite | apply only_mailbox)
    | (with_reducible first | apply only_mbFail | apply only_mbEnd)
    | exact sub_trans rfl hm
    | (intro _; intros; try dsimp only)
    | split

theorem only_execCertRead {s : State} (hm : sub 118174469684088283153 mm = true) (hs : Only mm s0 s) :
    OnlyOut mm s0 (execCertRead s) := by
  unfold execCertRead
  repeat' first
    | (with_reducible first | assumption | exact trivial | apply onlyOut_next | apply onlyOut_ite | apply only_mailbox | apply only_mbEnd)
    | exact sub_trans rfl hm
    | (intro _; intros; try dsimp only)

theorem only_execFwStage (off : Nat) (chunk : List Byte) {s : State} (hm : sub 118174469684088283153 mm = true) (hs : Only mm s0 s) :
    OnlyOut mm s0 (execFwStage off chunk s) := by
  unfold execFwStage
  try dsimp only
  repeat' first
    | (with_reducible first | assumption | exact trivial | apply onlyOut_next | apply onlyOut_ite | apply only_ite | apply only_mailbox)
    | (with_reducible first | apply only_mbFail | apply only_setFwSlot | apply only_mbEnd)
    | exact sub_trans rfl hm
    | (intro _; intros; try dsimp only)
    | split

theorem only_fwEvent {s : State} (o : Origin) (slot : Nat) (svn : Nat) (hash : Nat) (hm : sub 562949953421345 mm = true) (hs : Only mm s0 s) :
    Only mm s0 (State.fwEvent s o slot svn hash) := by
  unfold State.fwEvent
  repeat' first
    | (with_reducible first | assumption | apply only_commit)
    | exact sub_trans rfl hm
    | (intro _; intros; try dsimp only)

theorem only_execFwCommit {s : State} (hm : sub 118175032634041704497 mm = true) (hs : Only mm s0 s) :
    OnlyOut mm s0 (execFwCommit s) := by
  unfold execFwCommit
  try dsimp only
  repeat' first
    | (with_reducible first | assumption | exact trivial | apply onlyOut_next | apply onlyOut_ite | apply only_ite | apply only_mailbox)
    | (with_reducible first | apply only_setFwSlot | apply only_mbFail | apply only_take | apply only_fwEvent | apply only_mbEnd)
    | exact sub_trans rfl hm
    | (intro _; intros; try dsimp only)
    | split

theorem only_execFwSelect (slot : Nat) {s : State} (hm : sub 118175032634041704497 mm = true) (hs : Only mm s0 s) :
    OnlyOut mm s0 (execFwSelect slot s) := by
  unfold execFwSelect
  try dsimp only
  repeat' first
    | (with_reducible first | assumption | exact trivial | apply onlyOut_next | apply onlyOut_ite | apply only_ite | apply only_mailbox)
    | (with_reducible first | apply only_mbFail | apply only_fwEvent | apply only_mbEnd)
    | exact sub_trans rfl hm
    | (intro _; intros; try dsimp only)
    | with_reducible apply only_put576460752303423488
    | split

theorem only_execRollbackSet (v : Nat) {s : State} (hm : sub 118240334828638629937 mm = true) (hs : Only mm s0 s) :
    OnlyOut mm s0 (execRollbackSet v s) := by
  unfold execRollbackSet
  try dsimp only
  repeat' first
    | (with_reducible first | assumption | exact trivial | apply onlyOut_next | apply onlyOut_ite | apply only_ite | apply only_mailbox)
    | (with_reducible first | apply only_mbFail | apply only_mbEnd | apply only_fwEvent | apply only_writeBell)
    | exact sub_trans rfl hm
    | (intro _; intros; try dsimp only)
    | split

theorem only_execOwnerSet (key : Nat) (sig : List Byte) {s : State} (hm : sub 118174469684088283153 mm = true) (hs : Only mm s0 s) :
    OnlyOut mm s0 (execOwnerSet key sig s) := by
  unfold execOwnerSet
  try dsimp only
  repeat' first
    | (with_reducible first | assumption | exact trivial | apply onlyOut_next | apply onlyOut_ite | apply only_ite | apply only_mailbox)
    | (with_reducible first | apply only_mbFail | apply only_mbEnd)
    | exact sub_trans rfl hm
    | (intro _; intros; try dsimp only)
    | split
    | with_reducible apply only_put576460752303423488

theorem only_execKeysvcSet (key : Nat) {s : State} (hm : sub 118174469684088283153 mm = true) (hs : Only mm s0 s) :
    OnlyOut mm s0 (execKeysvcSet key s) := by
  unfold execKeysvcSet
  try dsimp only
  repeat' first
    | (with_reducible first | assumption | exact trivial | apply onlyOut_next | apply onlyOut_ite | apply only_mailbox | apply only_mbEnd)
    | exact sub_trans rfl hm
    | (intro _; intros; try dsimp only)
    | with_reducible apply only_put576460752303423488

theorem only_execServiceKeySet (key : Nat) {s : State} (hm : sub 118174469684088283153 mm = true) (hs : Only mm s0 s) :
    OnlyOut mm s0 (execServiceKeySet key s) := by
  unfold execServiceKeySet
  try dsimp only
  repeat' first
    | (with_reducible first | assumption | exact trivial | apply onlyOut_next | apply onlyOut_ite | apply only_mailbox | apply only_mbEnd)
    | exact sub_trans rfl hm
    | (intro _; intros; try dsimp only)
    | with_reducible apply only_put576460752303423488

theorem only_execDebugChallenge {s : State} (hm : sub 118174469684088283153 mm = true) (hs : Only mm s0 s) :
    OnlyOut mm s0 (execDebugChallenge s) := by
  unfold execDebugChallenge
  try dsimp only
  repeat' first
    | (with_reducible first | assumption | exact trivial | apply onlyOut_next | apply onlyOut_ite | apply only_mailbox | apply only_draw)
    | (with_reducible first | apply only_mbEnd)
    | exact sub_trans rfl hm
    | (intro _; intros; try dsimp only)
    | with_reducible apply only_put576460752303423488

theorem only_failJobs {s : State} (code : Nat) (o : Origin) (hm : sub 118240336752787386417 mm = true) (hs : Only mm s0 s) :
    Only mm s0 (State.failJobs s code o) := by
  unfold State.failJobs
  repeat' first
    | (with_reducible first | assumption | apply only_ite | apply only_jobFatalRec | apply only_foldl)
    | exact sub_trans rfl hm
    | (intro _; intros; try dsimp only)
    | split

theorem only_rekey {s : State} (code : Nat) (hm : sub 37470511849676259361 mm = true) (hs : Only mm s0 s) :
    Only mm s0 (State.rekey s code) := by
  unfold State.rekey
  try dsimp only
  repeat' first
    | (with_reducible first | assumption | apply only_eraseKeys | apply only_draw)
    | exact sub_trans rfl hm
    | with_reducible apply only_put576460752303685632

theorem only_debugEvent {s : State} (o : Origin) (nonce : Nat) (result : Nat) (hm : sub 562949953421345 mm = true) (hs : Only mm s0 s) :
    Only mm s0 (State.debugEvent s o nonce result) := by
  unfold State.debugEvent
  repeat' first
    | (with_reducible first | assumption | apply only_commit)
    | exact sub_trans rfl hm
    | (intro _; intros; try dsimp only)

theorem only_openDebug {s : State} (o : Origin) (nonce : Nat) (hm : sub 118240336752787386417 mm = true) (hs : Only mm s0 s) :
    Only mm s0 (State.openDebug s o nonce) := by
  unfold State.openDebug
  try dsimp only
  repeat' first
    | (with_reducible first | assumption | apply only_debugEvent | apply only_failJobs | apply only_rekey | apply only_showPins)
    | exact sub_trans rfl hm
    | with_reducible apply only_put576460752303423488

theorem only_execDebugUnlock (sig : List Byte) {s : State} (hm : sub 118240336752787386417 mm = true) (hs : Only mm s0 s) :
    OnlyOut mm s0 (execDebugUnlock sig s) := by
  unfold execDebugUnlock
  try dsimp only
  repeat' first
    | (with_reducible first | assumption | exact trivial | apply onlyOut_next | apply onlyOut_ite | apply only_ite | apply only_mailbox)
    | (with_reducible first | apply only_openDebug | apply only_mbEnd | apply only_debugEvent | apply only_mbFail)
    | exact sub_trans rfl hm
    | (intro _; intros; try dsimp only)
    | split
    | with_reducible apply only_put576460752303423488

theorem only_execExtestWhileLocked {s : State} (hm : sub 118240336752787386417 mm = true) (hs : Only mm s0 s) :
    OnlyOut mm s0 (execExtestWhileLocked s) := by
  unfold execExtestWhileLocked
  repeat' first
    | (with_reducible first | assumption | exact trivial | apply onlyOut_next | apply onlyOut_ite | apply only_ite | apply only_debugEvent)
    | (with_reducible first | apply only_openDebug)
    | exact sub_trans rfl hm
    | split

theorem only_tamper {s : State} (n : Nat) (count : Nat) (hm : sub 118240336752787386417 mm = true) (hs : Only mm s0 s) :
    Only mm s0 (State.tamper s n count) := by
  unfold State.tamper
  try dsimp only
  repeat' first
    | (with_reducible first | assumption | apply only_ite | apply only_setFld | apply only_commit | apply only_failJobs | apply only_rekey)
    | (with_reducible first | apply only_emit)
    | exact sub_trans rfl hm
    | with_reducible apply only_put576460752303423488
    | split

theorem only_execTamperInput (n : Nat) {s : State} (hm : sub 118240336752787386417 mm = true) (hs : Only mm s0 s) :
    OnlyOut mm s0 (execTamperInput n s) := by
  unfold execTamperInput
  try dsimp only
  repeat' first
    | (with_reducible first | assumption | exact trivial | apply onlyOut_next | apply onlyOut_ite | apply only_ite | apply only_tamper)
    | exact sub_trans rfl hm
    | with_reducible apply only_put576460752303423488
    | split

theorem only_execTamperClear {s : State} (hm : sub 118175032634041704497 mm = true) (hs : Only mm s0 s) :
    OnlyOut mm s0 (execTamperClear s) := by
  unfold execTamperClear
  try dsimp only
  repeat' first
    | (with_reducible first | assumption | exact trivial | apply onlyOut_next | apply onlyOut_ite | apply only_ite | apply only_mailbox)
    | (with_reducible first | apply only_commit | apply only_mbEnd)
    | exact sub_trans rfl hm
    | (intro _; intros; try dsimp only)
    | with_reducible apply only_put576460752303423488
    | split

end Sys2Proof.Machine
end

