-- ==== Sys2Proof/Laws/OnlyTime.lean ====
section
/-! SUPPORT. What each operation of Machine/Time.lean may change of the state. -/

set_option linter.unusedVariables false
set_option linter.tactic.unusedName false

namespace Sys2Proof.Machine

variable {mm : Nat} {s0 : State}

theorem only_ppsRise {s : State} (hm : sub 73786976294838206464 mm = true) (hs : Only mm s0 s) :
    Only mm s0 (State.ppsRise s) := by
  unfold State.ppsRise
  repeat' first
    | (with_reducible first | assumption | apply only_ite | apply only_emit)
    | exact sub_trans rfl hm
    | (intro _; intros; try dsimp only)
    | split

theorem only_runClock {s : State} (n : Nat) (hm : sub 74939897799445053440 mm = true) (hs : Only mm s0 s) :
    Only mm s0 (State.runClock s n) := by
  unfold State.runClock
  try dsimp only
  repeat' first
    | (with_reducible first | assumption | apply only_ite | apply only_ppsRise)
    | exact sub_trans rfl hm
    | with_reducible apply only_put1152921504606846976
    | split

theorem only_tick {s : State} (hm : sub 74939897799445053440 mm = true) (hs : Only mm s0 s) :
    Only mm s0 (State.tick s) := by
  unfold State.tick
  try dsimp only
  repeat' first
    | (with_reducible first | assumption | apply only_ite | apply only_runClock)
    | exact sub_trans rfl hm
    | with_reducible apply only_put1152921504606846976
    | split

theorem only_execSecondsRollover {s : State} (hm : sub 74939897799445053440 mm = true) (hs : Only mm s0 s) :
    OnlyOut mm s0 (execSecondsRollover s) := by
  unfold execSecondsRollover
  repeat' first
    | (with_reducible first | assumption | exact trivial | apply onlyOut_next | apply onlyOut_ite | apply only_ite | apply only_runClock)
    | exact sub_trans rfl hm
    | split

theorem only_stepClock {s : State} (ofs : Int) (hm : sub 1152921504606846977 mm = true) (hs : Only mm s0 s) :
    Only mm s0 (State.stepClock s ofs) := by
  unfold State.stepClock
  try dsimp only
  repeat' first
    | (with_reducible first | assumption | apply only_wr | apply only_setFld)
    | exact sub_trans rfl hm
    | with_reducible apply only_put1152921504606846976

theorem only_writeStep {s : State} (o : Origin) (v : Nat) (hm : sub 118750930436391706641 mm = true) (hs : Only mm s0 s) :
    Only mm s0 (State.writeStep s o v) := by
  unfold State.writeStep
  repeat' first
    | (with_reducible first | assumption | apply only_ite | apply only_refuse | apply only_stepClock)
    | exact sub_trans rfl hm
    | split

theorem only_execStep (o : Origin) (v : Nat) {s : State} (hm : sub 118750930436391706641 mm = true) (hs : Only mm s0 s) :
    OnlyOut mm s0 (execStep o v s) := by
  unfold execStep
  repeat' first
    | (with_reducible first | assumption | exact trivial | apply onlyOut_next | apply onlyOut_ite | apply only_act | apply only_writeStep)
    | exact sub_trans rfl hm
    | (intro _; intros; try dsimp only)

theorem only_setPtp {s : State} (v : Nat) (hm : sub 1 mm = true) (hs : Only mm s0 s) :
    Only mm s0 (State.setPtp s v) := by
  unfold State.setPtp
  repeat' first
    | (with_reducible first | assumption | apply only_ite | apply only_wr | apply only_setFld)
    | exact sub_trans rfl hm
    | split

theorem only_countSync {s : State} (offset : Int) (hm : sub 1152921504606846977 mm = true) (hs : Only mm s0 s) :
    Only mm s0 (State.countSync s offset) := by
  unfold State.countSync
  try dsimp only
  repeat' first
    | (with_reducible first | assumption | apply only_ite | apply only_setPtp)
    | exact sub_trans rfl hm
    | with_reducible apply only_put1152921504606846976
    | split

theorem only_slew {s : State} (hm : sub 117598571881738281009 mm = true) (hs : Only mm s0 s) :
    Only mm s0 (State.slew s) := by
  unfold State.slew
  try dsimp only
  repeat' first
    | (with_reducible first | assumption | apply only_fresh | apply only_setReg)
    | exact sub_trans rfl hm

theorem only_servo {s : State} (offset : Int) (hm : sub 118751493386345127985 mm = true) (hs : Only mm s0 s) :
    Only mm s0 (State.servo s offset) := by
  unfold State.servo
  try dsimp only
  repeat' first
    | (with_reducible first | assumption | apply only_ite | apply only_stepClock | apply only_slew | apply only_record)
    | exact sub_trans rfl hm
    | with_reducible apply only_put1152921504606846976
    | split

theorem only_execPtpSync (offset : Int) (delay : Nat) (errNs : Nat) (gm : Nat) {s : State} (hm : sub 118751493386345127985 mm = true) (hs : Only mm s0 s) :
    OnlyOut mm s0 (execPtpSync offset delay errNs gm s) := by
  unfold execPtpSync
  try dsimp only
  repeat' first
    | (with_reducible first | assumption | exact trivial | apply onlyOut_next | apply onlyOut_ite | apply only_ite | apply only_wr64)
    | (with_reducible first | apply only_wr | apply only_maxFld | apply only_countSync | apply only_servo)
    | exact sub_trans rfl hm
    | with_reducible apply only_put1152921504606846976
    | split

theorem only_execTimeGmLost {s : State} (hm : sub 117598008931784859665 mm = true) (hs : Only mm s0 s) :
    OnlyOut mm s0 (execTimeGmLost s) := by
  unfold execTimeGmLost
  repeat' first
    | (with_reducible first | assumption | exact trivial | apply onlyOut_next | apply onlyOut_ite | apply only_ite | apply only_record)
    | exact sub_trans rfl hm
    | split

end Sys2Proof.Machine
end

