-- ==== Sys2Proof/Laws/OnlyIvdon.lean ====
section
/-! SUPPORT. What each operation of Machine/Ivdon.lean may change of the state. -/

set_option linter.unusedVariables false
set_option linter.tactic.unusedName false

namespace Sys2Proof.Machine

variable {mm : Nat} {s0 : State}

theorem only_forward {s : State} (port : Nat) (p : BitVec 128) (hm : sub 73786976294838206464 mm = true) (hs : Only mm s0 s) :
    Only mm s0 (State.forward s port p) := by
  unfold State.forward
  try dsimp only
  repeat' first
    | (with_reducible first | assumption | apply only_ite | apply only_sendOn)
    | exact sub_trans rfl hm
    | split

theorem only_notePkt {s : State} (p : BitVec 128) (hm : sub 2305843009213693952 mm = true) (hs : Only mm s0 s) :
    Only mm s0 (State.notePkt s p) := by
  unfold State.notePkt
  try dsimp only
  repeat' first
    | (with_reducible first | assumption)
    | exact sub_trans rfl hm
    | (intro _; intros; try dsimp only)
    | with_reducible apply only_put2305843009213693952

theorem only_dupCheck {s : State} (p : BitVec 128) (hm : sub 117598008931784859665 mm = true) (hs : Only mm s0 s) :
    Only mm s0 (State.dupCheck s p) := by
  unfold State.dupCheck
  try dsimp only
  repeat' first
    | (with_reducible first | assumption | apply only_ite | apply only_record)
    | exact sub_trans rfl hm
    | with_reducible apply only_put2305843009213693952
    | split

theorem only_badPkt {s : State} (port : Nat) (hm : sub 117598008931784859665 mm = true) (hs : Only mm s0 s) :
    Only mm s0 (State.badPkt s port) := by
  unfold State.badPkt
  try dsimp only
  repeat' first
    | (with_reducible first | assumption | apply only_setPort | apply only_record)
    | exact sub_trans rfl hm

theorem only_flooded {s : State} (typ : Nat) (port : Nat) (p : BitVec 128) {consume : State → State} (hm : sub 117598008931784859665 mm = true) (hs : Only mm s0 s) (hconsume : ∀ t, Only mm s0 t → Only mm s0 (consume t)) :
    Only mm s0 (State.flooded s typ port p consume) := by
  unfold State.flooded
  try dsimp only
  repeat' first
    | (with_reducible first | assumption | apply only_ite | apply hconsume | apply only_badPkt | apply only_inc | apply only_dupCheck)
    | (with_reducible first | apply only_notePkt | apply only_forward)
    | exact sub_trans rfl hm
    | split

theorem only_groupPkt {s : State} (typ : Nat) (port : Nat) (p : BitVec 128) {consume : State → State} (hm : sub 117598008931784859665 mm = true) (hs : Only mm s0 s) (hconsume : ∀ t, Only mm s0 t → Only mm s0 (consume t)) :
    Only mm s0 (State.groupPkt s typ port p consume) := by
  unfold State.groupPkt
  repeat' first
    | (with_reducible first | assumption | apply only_ite | apply hconsume | apply only_flooded)
    | exact sub_trans rfl hm
    | (intro _; intros; try dsimp only)
    | split

theorem only_execHello (port : Nat) (pkt : BitVec 128) {s : State} (hm : sub 117598008931784859665 mm = true) (hs : Only mm s0 s) :
    OnlyOut mm s0 (execHello port pkt s) := by
  unfold execHello
  try dsimp only
  repeat' first
    | (with_reducible first | assumption | exact trivial | apply onlyOut_next | apply onlyOut_ite | apply only_ite | apply only_badPkt)
    | (with_reducible first | apply only_setPort)
    | exact sub_trans rfl hm
    | split

theorem only_setRing {s : State} (v : Nat) (hm : sub 2305843009213693952 mm = true) (hs : Only mm s0 s) :
    Only mm s0 (State.setRing s v) := by
  unfold State.setRing
  try dsimp only
  repeat' first
    | (with_reducible first | assumption)
    | exact sub_trans rfl hm
    | with_reducible apply only_put2305843009213693952

theorem only_execLevel (port : Nat) (pkt : BitVec 128) {s : State} (hm : sub 117598008931784859665 mm = true) (hs : Only mm s0 s) :
    OnlyOut mm s0 (execLevel port pkt s) := by
  unfold execLevel
  try dsimp only
  repeat' first
    | (with_reducible first | assumption | exact trivial | apply onlyOut_next | apply onlyOut_ite | apply only_ite | apply only_flooded)
    | (with_reducible first | apply only_setRing | apply only_record)
    | exact sub_trans rfl hm
    | (intro _; intros; try dsimp only)
    | with_reducible apply only_put2305843009213693952
    | split

theorem only_execIvdonLevelRise {s : State} (hm : sub 2305843009213693952 mm = true) (hs : Only mm s0 s) :
    OnlyOut mm s0 (execIvdonLevelRise s) := by
  unfold execIvdonLevelRise
  try dsimp only
  repeat' first
    | (with_reducible first | assumption | exact trivial | apply onlyOut_next | apply onlyOut_ite | apply only_ite | apply only_setRing)
    | (with_reducible first | apply only_foldl)
    | exact sub_trans rfl hm
    | (intro _; intros; try dsimp only)
    | with_reducible apply only_put2305843009213693952
    | split

theorem only_execIvdonWake (port : Nat) (pkt : BitVec 128) {s : State} (hm : sub 117598008931784859921 mm = true) (hs : Only mm s0 s) :
    OnlyOut mm s0 (execIvdonWake port pkt s) := by
  unfold execIvdonWake
  repeat' first
    | (with_reducible first | assumption | exact trivial | apply onlyOut_next | apply onlyOut_ite | apply only_ite | apply only_flooded)
    | (with_reducible first | apply only_wake)
    | exact sub_trans rfl hm
    | (intro _; intros; try dsimp only)
    | split

theorem only_execMgmt (port : Nat) (pkt : BitVec 128) {s : State} (hm : sub 117598008931784859665 mm = true) (hs : Only mm s0 s) :
    OnlyOut mm s0 (execMgmt port pkt s) := by
  unfold execMgmt
  repeat' first
    | (with_reducible first | assumption | exact trivial | apply onlyOut_next | apply onlyOut_ite | apply only_id | apply only_flooded)
    | exact sub_trans rfl hm
    | (intro _; intros; try dsimp only)

theorem only_takeEpoch {s : State} (e : Nat) (hm : sub 2305851805306716160 mm = true) (hs : Only mm s0 s) :
    Only mm s0 (State.takeEpoch s e) := by
  unfold State.takeEpoch
  try dsimp only
  repeat' first
    | (with_reducible first | assumption)
    | exact sub_trans rfl hm
    | (intro _; intros; try dsimp only)
    | with_reducible apply only_put2305851805306716160

theorem only_countReady {s : State} (src : Nat) (hm : sub 76092828100144922624 mm = true) (hs : Only mm s0 s) :
    Only mm s0 (State.countReady s src) := by
  unfold State.countReady
  try dsimp only
  repeat' first
    | (with_reducible first | assumption | apply only_ite | apply only_flood | apply only_takeEpoch)
    | exact sub_trans rfl hm
    | with_reducible apply only_put2305843009213693952
    | split

theorem only_execReady (port : Nat) (pkt : BitVec 128) {s : State} (hm : sub 117598008931784859665 mm = true) (hs : Only mm s0 s) :
    OnlyOut mm s0 (execReady port pkt s) := by
  unfold execReady
  repeat' first
    | (with_reducible first | assumption | exact trivial | apply onlyOut_next | apply onlyOut_ite | apply only_ite | apply only_groupPkt)
    | (with_reducible first | apply only_countReady)
    | exact sub_trans rfl hm
    | (intro _; intros; try dsimp only)
    | split

theorem only_execEpoch (port : Nat) (pkt : BitVec 128) {s : State} (hm : sub 117598008931784859665 mm = true) (hs : Only mm s0 s) :
    OnlyOut mm s0 (execEpoch port pkt s) := by
  unfold execEpoch
  repeat' first
    | (with_reducible first | assumption | exact trivial | apply onlyOut_next | apply onlyOut_ite | apply only_ite | apply only_groupPkt)
    | (with_reducible first | apply only_takeEpoch)
    | exact sub_trans rfl hm
    | (intro _; intros; try dsimp only)
    | split

theorem only_execGroupReady {s : State} (hm : sub 76092828100144922624 mm = true) (hs : Only mm s0 s) :
    OnlyOut mm s0 (execGroupReady s) := by
  unfold execGroupReady
  try dsimp only
  repeat' first
    | (with_reducible first | assumption | exact trivial | apply onlyOut_next | apply onlyOut_ite | apply only_ite | apply only_flood)
    | (with_reducible first | apply only_countReady)
    | exact sub_trans rfl hm
    | with_reducible apply only_put2305843009213693952
    | split

theorem only_containPeer {s : State} (hm : sub 117598008931784859665 mm = true) (hs : Only mm s0 s) :
    Only mm s0 (State.containPeer s) := by
  unfold State.containPeer
  try dsimp only
  repeat' first
    | (with_reducible first | assumption | apply only_ite | apply only_contain | apply only_modStripe)
    | exact sub_trans rfl hm
    | (intro _; intros; try dsimp only)
    | split
    | with_reducible apply only_put2305843009213693952

theorem only_execContain (port : Nat) (pkt : BitVec 128) {s : State} (hm : sub 117598008931784859665 mm = true) (hs : Only mm s0 s) :
    OnlyOut mm s0 (execContain port pkt s) := by
  unfold execContain
  try dsimp only
  repeat' first
    | (with_reducible first | assumption | exact trivial | apply onlyOut_next | apply onlyOut_ite | apply only_ite | apply only_groupPkt)
    | (with_reducible first | apply only_containPeer)
    | exact sub_trans rfl hm
    | (intro _; intros; try dsimp only)
    | with_reducible apply only_put2305843009213693952
    | split

theorem only_execAlive (port : Nat) (pkt : BitVec 128) {s : State} (hm : sub 117598008931784859665 mm = true) (hs : Only mm s0 s) :
    OnlyOut mm s0 (execAlive port pkt s) := by
  unfold execAlive
  try dsimp only
  repeat' first
    | (with_reducible first | assumption | exact trivial | apply onlyOut_next | apply onlyOut_ite | apply only_ite | apply only_groupPkt)
    | exact sub_trans rfl hm
    | (intro _; intros; try dsimp only)
    | with_reducible apply only_put2305843009213693952
    | split

theorem only_execIvdonGroupLost (member : Nat) {s : State} (hm : sub 117598008931784859665 mm = true) (hs : Only mm s0 s) :
    OnlyOut mm s0 (execIvdonGroupLost member s) := by
  unfold execIvdonGroupLost
  try dsimp only
  repeat' first
    | (with_reducible first | assumption | exact trivial | apply onlyOut_next | apply onlyOut_ite | apply only_ite | apply only_contain)
    | exact sub_trans rfl hm
    | with_reducible apply only_put2305843009213693952
    | split

theorem only_execIvdonPortDown (port : Nat) {s : State} (hm : sub 117598008931784859665 mm = true) (hs : Only mm s0 s) :
    OnlyOut mm s0 (execIvdonPortDown port s) := by
  unfold execIvdonPortDown
  repeat' first
    | (with_reducible first | assumption | exact trivial | apply onlyOut_next | apply onlyOut_ite | apply only_ite | apply only_portDown)
    | exact sub_trans rfl hm
    | split

theorem only_execIvdonPortTrained (port : Nat) (rate : Nat) (result : PortEnd) (nb : Nat) (nbPort : Nat) {s : State} (hm : sub 117598008931784859665 mm = true) (hs : Only mm s0 s) :
    OnlyOut mm s0 (execIvdonPortTrained port rate result nb nbPort s) := by
  unfold execIvdonPortTrained
  try dsimp only
  repeat' first
    | (with_reducible first | assumption | exact trivial | apply onlyOut_next | apply onlyOut_ite | apply only_ite | apply only_setPort)
    | (with_reducible first | apply only_record)
    | exact sub_trans rfl hm
    | split

theorem only_execIvdonPortRetry (port : Nat) {s : State} (hm : sub 2305843009213693952 mm = true) (hs : Only mm s0 s) :
    OnlyOut mm s0 (execIvdonPortRetry port s) := by
  unfold execIvdonPortRetry
  try dsimp only
  repeat' first
    | (with_reducible first | assumption | exact trivial | apply onlyOut_next | apply onlyOut_ite | apply only_ite | apply only_setPort)
    | exact sub_trans rfl hm
    | split

theorem only_retrainPorts {s : State} (v : Nat) (hm : sub 2305843009213693952 mm = true) (hs : Only mm s0 s) :
    Only mm s0 (State.retrainPorts s v) := by
  unfold State.retrainPorts
  try dsimp only
  repeat' first
    | (with_reducible first | assumption | apply only_ite | apply only_setPort | apply only_foldl)
    | exact sub_trans rfl hm
    | (intro _; intros; try dsimp only)
    | split

theorem only_execIvdonRetrain (o : Origin) (v : Nat) {s : State} (hm : sub 117598008931784859665 mm = true) (hs : Only mm s0 s) :
    OnlyOut mm s0 (execIvdonRetrain o v s) := by
  unfold execIvdonRetrain
  repeat' first
    | (with_reducible first | assumption | exact trivial | apply onlyOut_next | apply onlyOut_ite | apply only_ite | apply only_act)
    | (with_reducible first | apply only_retrainPorts)
    | exact sub_trans rfl hm
    | (intro _; intros; try dsimp only)
    | split

theorem only_startPorts {s : State} (hm : sub 2305843009213693952 mm = true) (hs : Only mm s0 s) :
    Only mm s0 (State.startPorts s) := by
  unfold State.startPorts
  try dsimp only
  repeat' first
    | (with_reducible first | assumption | apply only_setPort | apply only_foldl)
    | exact sub_trans rfl hm
    | (intro _; intros; try dsimp only)

theorem only_stopPorts {s : State} (hm : sub 2305843009213693952 mm = true) (hs : Only mm s0 s) :
    Only mm s0 (State.stopPorts s) := by
  unfold State.stopPorts
  try dsimp only
  repeat' first
    | (with_reducible first | assumption | apply only_setPort | apply only_foldl)
    | exact sub_trans rfl hm
    | (intro _; intros; try dsimp only)

theorem only_newGroup {s : State} (hm : sub 2305843009213693952 mm = true) (hs : Only mm s0 s) :
    Only mm s0 (State.newGroup s) := by
  unfold State.newGroup
  try dsimp only
  repeat' first
    | (with_reducible first | assumption)
    | exact sub_trans rfl hm
    | with_reducible apply only_put2305843009213693952

end Sys2Proof.Machine
end

