-- ==== Sys2Proof/Laws/OnlyTherm.lean ====
section
/-! SUPPORT. What each operation of Machine/Therm.lean may change of the state. -/

set_option linter.unusedVariables false
set_option linter.tactic.unusedName false

namespace Sys2Proof.Machine

variable {mm : Nat} {s0 : State}

theorem only_setSensor {s : State} (i : Nat) (x : Sensor) (hm : sub 17592186044416 mm = true) (hs : Only mm s0 s) :
    Only mm s0 (State.setSensor s i x) := by
  unfold State.setSensor
  try dsimp only
  repeat' first
    | (with_reducible first | assumption)
    | exact sub_trans rfl hm
    | (intro _; intros; try dsimp only)
    | with_reducible apply only_put17592186044416

theorem only_setClass {s : State} (c : Nat) (x : TClass) (hm : sub 35184372088832 mm = true) (hs : Only mm s0 s) :
    Only mm s0 (State.setClass s c x) := by
  unfold State.setClass
  try dsimp only
  repeat' first
    | (with_reducible first | assumption)
    | exact sub_trans rfl hm
    | (intro _; intros; try dsimp only)
    | with_reducible apply only_put35184372088832

theorem only_sampleOne {s : State} (raw : List (Option Int)) (i : Nat) (hm : sub 17592186044416 mm = true) (hs : Only mm s0 s) :
    Only mm s0 (State.sampleOne s raw i) := by
  unfold State.sampleOne
  try dsimp only
  repeat' first
    | (with_reducible first | assumption | apply only_ite | apply only_setSensor)
    | exact sub_trans rfl hm
    | split

theorem only_sampleClass {s : State} (c : Nat) (hm : sub 35184372088832 mm = true) (hs : Only mm s0 s) :
    Only mm s0 (State.sampleClass s c) := by
  unfold State.sampleClass
  try dsimp only
  repeat' first
    | (with_reducible first | assumption | apply only_setClass)
    | exact sub_trans rfl hm
    | (intro _; intros; try dsimp only)
    | split

theorem only_showCeil {s : State} (hm : sub 35184372088833 mm = true) (hs : Only mm s0 s) :
    Only mm s0 (State.showCeil s) := by
  unfold State.showCeil
  try dsimp only
  repeat' first
    | (with_reducible first | assumption | apply only_ite | apply only_setClass | apply only_setFld | apply only_foldl)
    | exact sub_trans rfl hm
    | (intro _; intros; try dsimp only)
    | split

theorem only_showHottest {s : State} (hm : sub 1 mm = true) (hs : Only mm s0 s) :
    Only mm s0 (State.showHottest s) := by
  unfold State.showHottest
  try dsimp only
  repeat' first
    | (with_reducible first | assumption | apply only_ite | apply only_wr | apply only_foldl)
    | exact sub_trans rfl hm
    | (intro _; intros; try dsimp only)
    | split

theorem only_sampleStack {s : State} (k : Nat) (hm : sub 70368744177664 mm = true) (hs : Only mm s0 s) :
    Only mm s0 (State.sampleStack s k) := by
  unfold State.sampleStack
  try dsimp only
  repeat' first
    | (with_reducible first | assumption | apply only_ite | apply only_setStack)
    | exact sub_trans rfl hm
    | (intro _; intros; try dsimp only)
    | split

theorem only_sampleBank {s : State} (hm : sub 2199023255552 mm = true) (hs : Only mm s0 s) :
    Only mm s0 (State.sampleBank s) := by
  unfold State.sampleBank
  try dsimp only
  repeat' first
    | (with_reducible first | assumption | apply only_ite)
    | exact sub_trans rfl hm
    | (intro _; intros; try dsimp only)
    | split
    | with_reducible apply only_put2199023255552

theorem only_sampleDieBand {s : State} (hm : sub 486709817151324161 mm = true) (hs : Only mm s0 s) :
    Only mm s0 (State.sampleDieBand s) := by
  unfold State.sampleDieBand
  try dsimp only
  repeat' first
    | (with_reducible first | assumption | apply only_ite | apply only_setClass | apply only_keepNow)
    | exact sub_trans rfl hm
    | (intro _; intros; try dsimp only)
    | split
    | with_reducible apply only_put144115188075855872

theorem only_beginHold {s : State} (c : Nat) (hm : sub 35184372088833 mm = true) (hs : Only mm s0 s) :
    Only mm s0 (State.beginHold s c) := by
  unfold State.beginHold
  try dsimp only
  repeat' first
    | (with_reducible first | assumption | apply only_ite | apply only_setClass | apply only_setFld)
    | exact sub_trans rfl hm
    | split

theorem only_endHold {s : State} (c : Nat) (hm : sub 35184372088833 mm = true) (hs : Only mm s0 s) :
    Only mm s0 (State.endHold s c) := by
  unfold State.endHold
  try dsimp only
  repeat' first
    | (with_reducible first | assumption | apply only_ite | apply only_setClass | apply only_setFld | apply only_showCeil)
    | exact sub_trans rfl hm
    | split

theorem only_recordRise {s : State} (c : Nat) (level : Nat) (hm : sub 117598008931784859665 mm = true) (hs : Only mm s0 s) :
    Only mm s0 (State.recordRise s c level) := by
  unfold State.recordRise
  repeat' first
    | (with_reducible first | assumption | apply only_ite | apply only_bump | apply only_record | apply only_raiseIrq)
    | exact sub_trans rfl hm
    | split

theorem only_shutdown {s : State} (c : Nat) (hm : sub 117598008931784859665 mm = true) (hs : Only mm s0 s) :
    Only mm s0 (State.shutdown s c) := by
  unfold State.shutdown
  repeat' first
    | (with_reducible first | assumption | apply only_ite | apply only_contain | apply only_raiseIrq | apply only_recordRise)
    | exact sub_trans rfl hm
    | (intro _; intros; try dsimp only)
    | split

theorem only_execThermLevelRise (cls : Nat) (level : Nat) {s : State} (hm : sub 117598044116156948497 mm = true) (hs : Only mm s0 s) :
    OnlyOut mm s0 (execThermLevelRise cls level s) := by
  unfold execThermLevelRise
  try dsimp only
  repeat' first
    | (with_reducible first | assumption | exact trivial | apply onlyOut_next | apply onlyOut_ite | apply only_ite | apply only_setClass)
    | (with_reducible first | apply only_shutdown | apply only_recordRise | apply only_beginHold | apply only_showCeil)
    | exact sub_trans rfl hm
    | split

theorem only_releasePause {s : State} (hm : sub 8796093022208 mm = true) (hs : Only mm s0 s) :
    Only mm s0 (State.releasePause s) := by
  unfold State.releasePause
  try dsimp only
  repeat' first
    | (with_reducible first | assumption | apply only_ite)
    | exact sub_trans rfl hm
    | (intro _; intros; try dsimp only)
    | with_reducible apply only_put8796093022208
    | split

theorem only_leaveHeld {s : State} {t : State} (hm : sub 73786978493861462016 mm = true) (hs : Only mm s0 s) (ht : Only mm s0 t) :
    Only mm s0 (State.leaveHeld s t) := by
  unfold State.leaveHeld
  repeat' first
    | (with_reducible first | assumption | apply only_ite | apply only_wakeLanes)
    | exact sub_trans rfl hm
    | split

theorem only_execThermLevelFall (cls : Nat) (level : Nat) {s : State} (hm : sub 73787022474326573057 mm = true) (hs : Only mm s0 s) :
    OnlyOut mm s0 (execThermLevelFall cls level s) := by
  unfold execThermLevelFall
  try dsimp only
  repeat' first
    | (with_reducible first | assumption | exact trivial | apply onlyOut_next | apply onlyOut_ite | apply only_ite | apply only_leaveHeld)
    | (with_reducible first | apply only_setClass | apply only_raiseIrq | apply only_releasePause | apply only_showCeil)
    | exact sub_trans rfl hm
    | (intro _; intros; try dsimp only)
    | split

theorem only_checkPair {s : State} (c : Nat) (hm : sub 117598044116156948497 mm = true) (hs : Only mm s0 s) :
    Only mm s0 (State.checkPair s c) := by
  unfold State.checkPair
  try dsimp only
  repeat' first
    | (with_reducible first | assumption | apply only_ite | apply only_setClass | apply only_record | apply only_raiseIrq)
    | (with_reducible first | apply only_leaveHeld | apply only_releasePause)
    | exact sub_trans rfl hm
    | split

theorem only_execThermSample (raw : List (Option Int)) {s : State} (hm : sub 118084802311819894801 mm = true) (hs : Only mm s0 s) :
    OnlyOut mm s0 (execThermSample raw s) := by
  unfold execThermSample
  try dsimp only
  repeat' first
    | (with_reducible first | assumption | exact trivial | apply onlyOut_next | apply onlyOut_ite | apply only_ite | apply only_sampleOne)
    | (with_reducible first | apply only_sampleClass | apply only_sampleStack | apply only_sampleBank | apply only_sampleDieBand)
    | (with_reducible first | apply only_showHottest | apply only_endHold | apply only_checkPair | apply only_showCeil | apply only_foldl)
    | exact sub_trans rfl hm
    | (intro _; intros; try dsimp only)
    | split

theorem only_execThermSensorFailed (i : Nat) {s : State} (hm : sub 117598061708342992913 mm = true) (hs : Only mm s0 s) :
    OnlyOut mm s0 (execThermSensorFailed i s) := by
  unfold execThermSensorFailed
  try dsimp only
  repeat' first
    | (with_reducible first | assumption | exact trivial | apply onlyOut_next | apply onlyOut_ite | apply only_ite | apply only_setSensor)
    | (with_reducible first | apply only_record | apply only_raiseIrq | apply only_beginHold | apply only_checkPair | apply only_showCeil)
    | exact sub_trans rfl hm
    | split

theorem only_execThermSensorRecovered (i : Nat) {s : State} (hm : sub 117598061708342992913 mm = true) (hs : Only mm s0 s) :
    OnlyOut mm s0 (execThermSensorRecovered i s) := by
  unfold execThermSensorRecovered
  try dsimp only
  repeat' first
    | (with_reducible first | assumption | exact trivial | apply onlyOut_next | apply onlyOut_ite | apply only_ite | apply only_setSensor)
    | (with_reducible first | apply only_endHold | apply only_checkPair | apply only_showCeil)
    | exact sub_trans rfl hm
    | split

theorem only_ack {s : State} (o : Origin) (v : Nat) (hm : sub 117598624658296414257 mm = true) (hs : Only mm s0 s) :
    Only mm s0 (State.ack s o v) := by
  unfold State.ack
  try dsimp only
  repeat' first
    | (with_reducible first | assumption | apply only_ite | apply only_refuse | apply only_countFull | apply only_commit | apply only_setSensor)
    | (with_reducible first | apply only_endHold)
    | exact sub_trans rfl hm
    | split

theorem only_execThermAck (o : Origin) (v : Nat) {s : State} (hm : sub 117598624658296414257 mm = true) (hs : Only mm s0 s) :
    OnlyOut mm s0 (execThermAck o v s) := by
  unfold execThermAck
  repeat' first
    | (with_reducible first | assumption | exact trivial | apply onlyOut_next | apply onlyOut_ite | apply only_act | apply only_ack)
    | exact sub_trans rfl hm
    | (intro _; intros; try dsimp only)

end Sys2Proof.Machine
end

