-- ==== Sys2Proof/Laws/OnlyEnable.lean ====
section
/-! SUPPORT. What each operation of Machine/Enable.lean may change of the state. -/

set_option linter.unusedVariables false
set_option linter.tactic.unusedName false

namespace Sys2Proof.Machine

variable {mm : Nat} {s0 : State}

theorem only_thermInForce {s : State} (hm : sub 2 mm = true) (hs : Only mm s0 s) :
    Only mm s0 (State.thermInForce s) := by
  unfold State.thermInForce
  try dsimp only
  repeat' first
    | (with_reducible first | assumption | apply only_foldl)
    | exact sub_trans rfl hm
    | (intro _; intros; try dsimp only)
    | with_reducible apply only_put2

theorem only_shepherdInForce {s : State} (hm : sub 281474976710657 mm = true) (hs : Only mm s0 s) :
    Only mm s0 (State.shepherdInForce s) := by
  unfold State.shepherdInForce
  try dsimp only
  repeat' first
    | (with_reducible first | assumption | apply only_ite | apply only_fencesAtEnable | apply only_wr)
    | exact sub_trans rfl hm
    | split

theorem only_startPage {s : State} (p : Nat) (hm : sub 76093102978051866627 mm = true) (hs : Only mm s0 s) :
    Only mm s0 (State.startPage s p) := by
  unfold State.startPage
  try dsimp only
  repeat' first
    | (with_reducible first | assumption | apply only_ite | apply only_thermInForce | apply only_setPtp | apply only_shepherdInForce)
    | (with_reducible first | apply only_retrainLane | apply only_startPorts | apply only_newGroup | apply only_foldl)
    | exact sub_trans rfl hm
    | (intro _; intros; try dsimp only)
    | split

theorem only_lanesOff {s : State} (hm : sub 2199023255552 mm = true) (hs : Only mm s0 s) :
    Only mm s0 (State.lanesOff s) := by
  unfold State.lanesOff
  try dsimp only
  repeat' first
    | (with_reducible first | assumption | apply only_ite | apply only_setLane | apply only_foldl)
    | exact sub_trans rfl hm
    | (intro _; intros; try dsimp only)
    | with_reducible apply only_put2199023255552
    | split

theorem only_stopPage {s : State} (p : Nat) (hm : sub 2310353205910831105 mm = true) (hs : Only mm s0 s) :
    Only mm s0 (State.stopPage s p) := by
  unfold State.stopPage
  try dsimp only
  repeat' first
    | (with_reducible first | assumption | apply only_setPtp | apply only_lanesOff | apply only_stopPorts | apply only_abortEngines)
    | exact sub_trans rfl hm
    | split
    | with_reducible apply only_put4398046511104

theorem only_passCheck {s : State} (o : Origin) (p : Nat) (new : Nat) (hm : sub 117598853356714991667 mm = true) (hs : Only mm s0 s) :
    Only mm s0 (State.passCheck s o p new) := by
  unfold State.passCheck
  repeat' first
    | (with_reducible first | assumption | apply only_traced | apply only_clkOn | apply only_wr | apply only_setReg | apply only_startPage)
    | exact sub_trans rfl hm

theorem only_failCheck {s : State} (o : Origin) (p : Nat) (new : Nat) (e : Nat × Nat) (hm : sub 117598571881738281009 mm = true) (hs : Only mm s0 s) :
    Only mm s0 (State.failCheck s o p new e) := by
  unfold State.failCheck
  try dsimp only
  repeat' first
    | (with_reducible first | assumption | apply only_traced | apply only_clkOn | apply only_setReg | apply only_wr | apply only_raiseIrq)
    | exact sub_trans rfl hm

theorem only_disable {s : State} (o : Origin) (p : Nat) (new : Nat) (v : Nat) (hm : sub 117603075481365651505 mm = true) (hs : Only mm s0 s) :
    Only mm s0 (State.disable s o p new v) := by
  unfold State.disable
  repeat' first
    | (with_reducible first | assumption | apply only_ite | apply only_refuse | apply only_traced | apply only_setReg | apply only_stopPage)
    | exact sub_trans rfl hm
    | (intro _; intros; try dsimp only)
    | split

theorem only_softTherm {s : State} (hm : sub 61572651155457 mm = true) (hs : Only mm s0 s) :
    Only mm s0 (State.softTherm s) := by
  unfold State.softTherm
  try dsimp only
  repeat' first
    | (with_reducible first | assumption | apply only_wr | apply only_showCeil)
    | exact sub_trans rfl hm
    | with_reducible apply only_put8796093022208
    | with_reducible apply only_put52776558133248
    | with_reducible apply only_put61572651155456

theorem only_softState {s : State} (p : Nat) (hm : sub 8070518701969907713 mm = true) (hs : Only mm s0 s) :
    Only mm s0 (State.softState s p) := by
  unfold State.softState
  try dsimp only
  repeat' first
    | (with_reducible first | assumption | apply only_softTherm | apply only_setFld | apply only_foldl)
    | exact sub_trans rfl hm
    | (intro _; intros; try dsimp only)
    | split
    | with_reducible apply only_put8192
    | with_reducible apply only_put1048576
    | with_reducible apply only_put2199023255552
    | with_reducible apply only_put4398046511104
    | with_reducible apply only_put8796093022208
    | with_reducible apply only_put1152921504606846976
    | with_reducible apply only_put2305843009213693952
    | with_reducible apply only_put4611686018427387904
    | with_reducible apply only_put8070465925411774464

theorem only_resetField {s : State} (a : RegAddr) (mask : Nat) (hm : sub 1 mm = true) (hs : Only mm s0 s) :
    Only mm s0 (State.resetField s a mask) := by
  unfold State.resetField
  repeat' first
    | (with_reducible first | assumption | apply only_wr)
    | exact sub_trans rfl hm

theorem only_softReset {s : State} (p : Nat) (hm : sub 8070518701969907713 mm = true) (hs : Only mm s0 s) :
    Only mm s0 (State.softReset s p) := by
  unfold State.softReset
  try dsimp only
  repeat' first
    | (with_reducible first | assumption | apply only_resetField | apply only_softState | apply only_wr | apply only_traced | apply only_foldl)
    | exact sub_trans rfl hm
    | (intro _; intros; try dsimp only)

theorem only_putCtrl {s : State} (o : Origin) (p : Nat) (v : Nat) (hm : sub 118756331237508390963 mm = true) (hs : Only mm s0 s) :
    Only mm s0 (State.putCtrl s o p v) := by
  unfold State.putCtrl
  try dsimp only
  repeat' first
    | (with_reducible first | assumption | apply only_ite | apply only_refuse | apply only_countFull | apply only_softReset | apply only_setReg)
    | (with_reducible first | apply only_passCheck | apply only_failCheck | apply only_disable)
    | exact sub_trans rfl hm
    | split

theorem only_writeCtrl {s : State} (o : Origin) (p : Nat) (v : Nat) (hm : sub 118756331237508390963 mm = true) (hs : Only mm s0 s) :
    Only mm s0 (State.writeCtrl s o p v) := by
  unfold State.writeCtrl
  try dsimp only
  repeat' first
    | (with_reducible first | assumption | apply only_ite | apply only_putCtrl)
    | exact sub_trans rfl hm
    | (refine only_permit_ok (h := ?_) (e := by assumption))
    | (refine only_permit_error (hm := ?_) (h := ?_) (e := by assumption))
    | split

theorem only_clearErr {s : State} (p : Nat) (hm : sub 4611688217450643457 mm = true) (hs : Only mm s0 s) :
    Only mm s0 (State.clearErr s p) := by
  unfold State.clearErr
  try dsimp only
  repeat' first
    | (with_reducible first | assumption | apply only_ite | apply only_traced | apply only_resetField | apply only_wr | apply only_foldl)
    | exact sub_trans rfl hm
    | (intro _; intros; try dsimp only)
    | with_reducible apply only_put2199023255552
    | split

end Sys2Proof.Machine
end

