-- ==== Sys2Proof/Laws/OnlyPower.lean ====
section
/-! SUPPORT. What each operation of Machine/Power.lean may change of the state. -/

set_option linter.unusedVariables false
set_option linter.tactic.unusedName false

namespace Sys2Proof.Machine

variable {mm : Nat} {s0 : State}

theorem only_bootClock {s : State} (lost : Bool) (hm : sub 1729382256910271809 mm = true) (hs : Only mm s0 s) :
    Only mm s0 (State.bootClock s lost) := by
  unfold State.bootClock
  try dsimp only
  repeat' first
    | (with_reducible first | assumption | apply only_ite | apply only_wr | apply only_setFld)
    | exact sub_trans rfl hm
    | with_reducible apply only_put1729382256910271808
    | split

theorem only_bootAudit {s : State} (bad : List (Nat × Nat)) (hm : sub 117607579080993022001 mm = true) (hs : Only mm s0 s) :
    Only mm s0 (State.bootAudit s bad) := by
  unfold State.bootAudit
  try dsimp only
  repeat' first
    | (with_reducible first | assumption | apply only_ite | apply only_chain | apply only_wr64 | apply only_commit | apply only_record)
    | (with_reducible first | apply only_beginSign | apply only_putAnchors)
    | exact sub_trans rfl hm
    | with_reducible apply only_put32
    | split

theorem only_bootUnset {s : State} (hm : sub 117598008931784859665 mm = true) (hs : Only mm s0 s) :
    Only mm s0 (State.bootUnset s) := by
  unfold State.bootUnset
  repeat' first
    | (with_reducible first | assumption | apply only_ite | apply only_record)
    | exact sub_trans rfl hm
    | split

theorem only_bootVote {s : State} (f : BootFound) (n : Nat) (hm : sub 118238083028824944689 mm = true) (hs : Only mm s0 s) :
    Only mm s0 (State.bootVote s f n) := by
  unfold State.bootVote
  try dsimp only
  repeat' first
    | (with_reducible first | assumption | apply only_ite | apply only_putBell | apply only_commit | apply only_bump | apply only_voteWord)
    | exact sub_trans rfl hm
    | (intro _; intros; try dsimp only)
    | split

theorem only_bootDirectory {s : State} (ahead : Bool) (hm : sub 118240334828638629937 mm = true) (hs : Only mm s0 s) :
    Only mm s0 (State.bootDirectory s ahead) := by
  unfold State.bootDirectory
  repeat' first
    | (with_reducible first | assumption | apply only_ite | apply only_writeBell | apply only_record)
    | exact sub_trans rfl hm
    | split

theorem only_bootRepairs {s : State} (hm : sub 281474976710656 mm = true) (hs : Only mm s0 s) :
    Only mm s0 (State.bootRepairs s) := by
  unfold State.bootRepairs
  try dsimp only
  repeat' first
    | (with_reducible first | assumption | apply only_ite)
    | exact sub_trans rfl hm
    | (intro _; intros; try dsimp only)
    | with_reducible apply only_put281474976710656
    | split

theorem only_bootAge {s : State} (hm : sub 74075206670989918209 mm = true) (hs : Only mm s0 s) :
    Only mm s0 (State.bootAge s) := by
  unfold State.bootAge
  try dsimp only
  repeat' first
    | (with_reducible first | assumption | apply only_ite | apply only_setFld | apply only_emit | apply only_showAge)
    | exact sub_trans rfl hm
    | split
    | with_reducible apply only_put288230376151711744

theorem only_bootEncs {s : State} (hm : sub 4398046511104 mm = true) (hs : Only mm s0 s) :
    Only mm s0 (State.bootEncs s) := by
  unfold State.bootEncs
  repeat' first
    | (with_reducible first | assumption | apply only_loadEnc | apply only_foldl)
    | exact sub_trans rfl hm
    | (intro _; intros; try dsimp only)

theorem only_bootMigration {s : State} (hm : sub 118240475566126985265 mm = true) (hs : Only mm s0 s) :
    Only mm s0 (State.bootMigration s) := by
  unfold State.bootMigration
  try dsimp only
  repeat' first
    | (with_reducible first | assumption | apply only_ite | apply only_finishMigration | apply only_wr64)
    | exact sub_trans rfl hm
    | with_reducible apply only_put140737488355328
    | split

theorem only_rankFails {s : State} (p : Nat) (hm : sub 118240475566126985265 mm = true) (hs : Only mm s0 s) :
    Only mm s0 (State.rankFails s p) := by
  unfold State.rankFails
  try dsimp only
  repeat' first
    | (with_reducible first | assumption | apply only_ite | apply only_writeRankWord | apply only_finishMigration)
    | exact sub_trans rfl hm
    | (intro _; intros; try dsimp only)
    | with_reducible apply only_put140737488355328
    | split

theorem only_bootRanks {s : State} (fails : List Nat) (hm : sub 118240475566126985265 mm = true) (hs : Only mm s0 s) :
    Only mm s0 (State.bootRanks s fails) := by
  unfold State.bootRanks
  try dsimp only
  repeat' first
    | (with_reducible first | assumption | apply only_ite | apply only_rankFails | apply only_showMig | apply only_foldl)
    | exact sub_trans rfl hm
    | (intro _; intros; try dsimp only)
    | with_reducible apply only_put140737488355328
    | split

theorem only_trainStack {s : State} (f : BootFound) (k : Nat) (hm : sub 37029233852984328225 mm = true) (hs : Only mm s0 s) :
    Only mm s0 (State.trainStack s f k) := by
  unfold State.trainStack
  try dsimp only
  repeat' first
    | (with_reducible first | assumption | apply only_ite | apply only_rankFails | apply only_fresh | apply only_setStack | apply only_wr)
    | (with_reducible first | apply only_putKeep | apply only_foldl | apply only_foldl_snd)
    | exact sub_trans rfl hm
    | (intro _; intros; try dsimp only)
    | split

theorem only_bootKeys {s : State} (hm : sub 37469948899722526720 mm = true) (hs : Only mm s0 s) :
    Only mm s0 (State.bootKeys s) := by
  unfold State.bootKeys
  try dsimp only
  repeat' first
    | (with_reducible first | assumption | apply only_draw)
    | exact sub_trans rfl hm
    | with_reducible apply only_put576460752303423488

theorem only_startFirmware {s : State} (i : Nat) (hm : sub 577023702256844833 mm = true) (hs : Only mm s0 s) :
    Only mm s0 (State.startFirmware s i) := by
  unfold State.startFirmware
  try dsimp only
  repeat' first
    | (with_reducible first | assumption | apply only_fwEvent)
    | exact sub_trans rfl hm
    | with_reducible apply only_put576460752303423488

theorem only_bootFirmware {s : State} (bad : List Nat) (hm : sub 118175032634041704497 mm = true) (hs : Only mm s0 s) :
    Only mm s0 (State.bootFirmware s bad) := by
  unfold State.bootFirmware
  try dsimp only
  repeat' first
    | (with_reducible first | assumption | apply only_ite | apply only_startFirmware | apply only_record)
    | exact sub_trans rfl hm
    | with_reducible apply only_put576460752303423488
    | split

theorem only_showLevels {s : State} (hm : sub 1 mm = true) (hs : Only mm s0 s) :
    Only mm s0 (State.showLevels s) := by
  unfold State.showLevels
  repeat' first
    | (with_reducible first | assumption | apply only_wr)
    | exact sub_trans rfl hm

theorem only_bootLevels {s : State} (hm : sub 118240334828638629937 mm = true) (hs : Only mm s0 s) :
    Only mm s0 (State.bootLevels s) := by
  unfold State.bootLevels
  try dsimp only
  repeat' first
    | (with_reducible first | assumption | apply only_ite | apply only_writeBell | apply only_showLevels)
    | exact sub_trans rfl hm
    | split

theorem only_bootCkpt {s : State} (hm : sub 118240334828638629937 mm = true) (hs : Only mm s0 s) :
    Only mm s0 (State.bootCkpt s) := by
  unfold State.bootCkpt
  try dsimp only
  repeat' first
    | (with_reducible first | assumption | apply only_ite | apply only_fresh | apply only_record | apply only_clearCkpt)
    | exact sub_trans rfl hm
    | split

theorem only_bootTamper {s : State} (vbatLost : Bool) (hm : sub 118240336752787386417 mm = true) (hs : Only mm s0 s) :
    Only mm s0 (State.bootTamper s vbatLost) := by
  unfold State.bootTamper
  try dsimp only
  repeat' first
    | (with_reducible first | assumption | apply only_ite | apply only_tamper | apply only_foldl)
    | exact sub_trans rfl hm
    | (intro _; intros; try dsimp only)
    | with_reducible apply only_put576460752303423488
    | split

theorem only_bootInterlock {s : State} (low : Bool) (hm : sub 73786976294838206465 mm = true) (hs : Only mm s0 s) :
    Only mm s0 (State.bootInterlock s low) := by
  unfold State.bootInterlock
  try dsimp only
  repeat' first
    | (with_reducible first | assumption | apply only_ite | apply only_setFld | apply only_raiseIrq)
    | exact sub_trans rfl hm
    | split

theorem only_bootEnable {s : State} (hm : sub 118756331237508390963 mm = true) (hs : Only mm s0 s) :
    Only mm s0 (State.bootEnable s) := by
  unfold State.bootEnable
  repeat' first
    | (with_reducible first | assumption | apply only_writeCtrl | apply only_foldl)
    | exact sub_trans rfl hm
    | (intro _; intros; try dsimp only)

theorem only_bootStart {s : State} (f : BootFound) (hm : sub 119681768184373900657 mm = true) (hs : Only mm s0 s) :
    Only mm s0 (State.bootStart s f) := by
  unfold State.bootStart
  try dsimp only
  repeat' first
    | (with_reducible first | assumption | apply only_wr | apply only_bootClock | apply only_bootAudit | apply only_bootUnset)
    | (with_reducible first | apply only_bootVote | apply only_cutRecord | apply only_checkKeep | apply only_bootDirectory)
    | (with_reducible first | apply only_bootRepairs | apply only_bootAge | apply only_bootEncs | apply only_showLevels | apply only_foldl)
    | exact sub_trans rfl hm
    | (intro _; intros; try dsimp only)
    | split

theorem only_bootMiddle {s : State} (f : BootFound) (hm : sub 118312603528909090865 mm = true) (hs : Only mm s0 s) :
    Only mm s0 (State.bootMiddle s f) := by
  unfold State.bootMiddle
  try dsimp only
  repeat' first
    | (with_reducible first | assumption | apply only_trainStack | apply only_bootMigration | apply only_bootRanks | apply only_rankFails)
    | (with_reducible first | apply only_bootKeys | apply only_bootCkpt | apply only_bootFirmware | apply only_foldl)
    | exact sub_trans rfl hm
    | (intro _; intros; try dsimp only)

theorem only_bootEnd {s : State} (f : BootFound) (hm : sub 119686326484708159539 mm = true) (hs : Only mm s0 s) :
    Only mm s0 (State.bootEnd s f) := by
  unfold State.bootEnd
  try dsimp only
  repeat' first
    | (with_reducible first | assumption | apply only_bootLevels | apply only_bootTamper | apply only_bootInterlock | apply only_wr)
    | (with_reducible first | apply only_keepBoundary | apply only_loadStrobes | apply only_bootEnable)
    | exact sub_trans rfl hm

theorem only_execPowerUp (f : BootFound) {s : State} (hm : sub 119758595184978621939 mm = true) (hs : Only mm s0 s) :
    OnlyOut mm s0 (execPowerUp f s) := by
  unfold execPowerUp
  try dsimp only
  repeat' first
    | (with_reducible first | assumption | exact trivial | apply onlyOut_next | apply onlyOut_ite | apply only_ite | apply only_bootStart)
    | (with_reducible first | apply only_bootMiddle | apply only_bootEnd | apply only_bootInterlock | apply only_showPins)
    | exact sub_trans rfl hm
    | with_reducible apply only_put128
    | split

theorem only_execMainRailsLost {s : State} (hm : sub 9212675987739768831 mm = true) (hs : Only mm s0 s) :
    OnlyOut mm s0 (execMainRailsLost s) := by
  unfold execMainRailsLost
  repeat' first
    | (with_reducible first | assumption | exact trivial | apply onlyOut_next | apply onlyOut_ite | apply only_ite | apply only_toNight)
    | exact sub_trans rfl hm
    | split

theorem only_askDay {s : State} (o : Origin) (hm : sub 117598571881738281265 mm = true) (hs : Only mm s0 s) :
    Only mm s0 (State.askDay s o) := by
  unfold State.askDay
  try dsimp only
  repeat' first
    | (with_reducible first | assumption | apply only_ite | apply only_setReg | apply only_wake)
    | exact sub_trans rfl hm
    | with_reducible apply only_put256
    | split

theorem only_askDown {s : State} (o : Origin) (v : Nat) (hm : sub 117598571881738281265 mm = true) (hs : Only mm s0 s) :
    Only mm s0 (State.askDown s o v) := by
  unfold State.askDown
  try dsimp only
  repeat' first
    | (with_reducible first | assumption | apply only_ite | apply only_setReg)
    | exact sub_trans rfl hm
    | with_reducible apply only_put256
    | split

theorem only_writePowerReq {s : State} (o : Origin) (v : Nat) (hm : sub 117598571881738281265 mm = true) (hs : Only mm s0 s) :
    Only mm s0 (State.writePowerReq s o v) := by
  unfold State.writePowerReq
  try dsimp only
  repeat' first
    | (with_reducible first | assumption | apply only_ite | apply only_askDay | apply only_askDown | apply only_refuse)
    | exact sub_trans rfl hm
    | (refine only_permit_ok (h := ?_) (e := by assumption))
    | (refine only_permit_error (hm := ?_) (h := ?_) (e := by assumption))
    | split

theorem only_execPowerReqDay (o : Origin) {s : State} (hm : sub 117598571881738281265 mm = true) (hs : Only mm s0 s) :
    OnlyOut mm s0 (execPowerReqDay o s) := by
  unfold execPowerReqDay
  repeat' first
    | (with_reducible first | assumption | exact trivial | apply onlyOut_next | apply onlyOut_ite | apply only_writePowerReq)
    | exact sub_trans rfl hm

theorem only_execPowerReqDusk (o : Origin) {s : State} (hm : sub 117598571881738281265 mm = true) (hs : Only mm s0 s) :
    OnlyOut mm s0 (execPowerReqDusk o s) := by
  unfold execPowerReqDusk
  repeat' first
    | (with_reducible first | assumption | exact trivial | apply onlyOut_next | apply onlyOut_ite | apply only_writePowerReq)
    | exact sub_trans rfl hm

theorem only_execPowerReqNight (o : Origin) {s : State} (hm : sub 117598571881738281265 mm = true) (hs : Only mm s0 s) :
    OnlyOut mm s0 (execPowerReqNight o s) := by
  unfold execPowerReqNight
  repeat' first
    | (with_reducible first | assumption | exact trivial | apply onlyOut_next | apply onlyOut_ite | apply only_writePowerReq)
    | exact sub_trans rfl hm

theorem only_setClk {s : State} (p : Nat) (x : Nat) (hm : sub 4611686018427387905 mm = true) (hs : Only mm s0 s) :
    Only mm s0 (State.setClk s p x) := by
  unfold State.setClk
  repeat' first
    | (with_reducible first | assumption | apply only_traced | apply only_setFld)
    | exact sub_trans rfl hm

theorem only_laneLpi {s : State} (l : Nat) (hm : sub 73786978493861462016 mm = true) (hs : Only mm s0 s) :
    Only mm s0 (State.laneLpi s l) := by
  unfold State.laneLpi
  try dsimp only
  repeat' first
    | (with_reducible first | assumption | apply only_ite | apply only_setLane | apply only_emit)
    | exact sub_trans rfl hm
    | split

theorem only_relayPort {s : State} (p : Nat) (hm : sub 76092819304051900416 mm = true) (hs : Only mm s0 s) :
    Only mm s0 (State.relayPort s p) := by
  unfold State.relayPort
  try dsimp only
  repeat' first
    | (with_reducible first | assumption | apply only_ite | apply only_setPort | apply only_emit)
    | exact sub_trans rfl hm
    | split

theorem only_bothLanes {s : State} (p : Nat) (hm : sub 2305843009213693952 mm = true) (hs : Only mm s0 s) :
    Only mm s0 (State.bothLanes s p) := by
  unfold State.bothLanes
  try dsimp only
  repeat' first
    | (with_reducible first | assumption | apply only_setPort)
    | exact sub_trans rfl hm

theorem only_selfRefresh {s : State} (k : Nat) (hm : sub 70368744177665 mm = true) (hs : Only mm s0 s) :
    Only mm s0 (State.selfRefresh s k) := by
  unfold State.selfRefresh
  try dsimp only
  repeat' first
    | (with_reducible first | assumption | apply only_ite | apply only_bump | apply only_setStack | apply only_setSelfRef)
    | exact sub_trans rfl hm
    | (intro _; intros; try dsimp only)
    | split

theorem only_beginEntry {s : State} (hm : sub 4503599627370752 mm = true) (hs : Only mm s0 s) :
    Only mm s0 (State.beginEntry s) := by
  unfold State.beginEntry
  try dsimp only
  repeat' first
    | (with_reducible first | assumption | apply only_abortEngines)
    | exact sub_trans rfl hm
    | with_reducible apply only_put256

theorem only_enterDusk {s : State} (hm : sub 80704582288293232961 mm = true) (hs : Only mm s0 s) :
    Only mm s0 (State.enterDusk s) := by
  unfold State.enterDusk
  try dsimp only
  repeat' first
    | (with_reducible first | assumption | apply only_relayPort | apply only_laneLpi | apply only_selfRefresh | apply only_setClk)
    | (with_reducible first | apply only_setFld | apply only_emit | apply only_wr | apply only_inc | apply only_tellBoard | apply only_foldl)
    | exact sub_trans rfl hm
    | (intro _; intros; try dsimp only)
    | with_reducible apply only_put320
    | with_reducible apply only_put4398046511104
    | with_reducible apply only_put4398046511424

theorem only_execDuskEntry {s : State} (hm : sub 80709085887920603457 mm = true) (hs : Only mm s0 s) :
    OnlyOut mm s0 (execDuskEntry s) := by
  unfold execDuskEntry
  repeat' first
    | (with_reducible first | assumption | exact trivial | apply onlyOut_next | apply onlyOut_ite | apply only_ite | apply only_beginEntry)
    | (with_reducible first | apply only_enterDusk)
    | exact sub_trans rfl hm
    | split

theorem only_leaveDusk {s : State} (us : Nat) (hm : sub 117598079300529037649 mm = true) (hs : Only mm s0 s) :
    Only mm s0 (State.leaveDusk s us) := by
  unfold State.leaveDusk
  try dsimp only
  repeat' first
    | (with_reducible first | assumption | apply only_ite | apply only_bothLanes | apply only_setSelfRef | apply only_setFld | apply only_emit)
    | (with_reducible first | apply only_wr | apply only_setClk | apply only_maxFld | apply only_tellBoard | apply only_record)
    | (with_reducible first | apply only_foldl)
    | exact sub_trans rfl hm
    | (intro _; intros; try dsimp only)
    | with_reducible apply only_put4398046511424
    | split

theorem only_execDuskWake (cause : Nat) (us : Nat) {s : State} (hm : sub 117598079300529037649 mm = true) (hs : Only mm s0 s) :
    OnlyOut mm s0 (execDuskWake cause us s) := by
  unfold execDuskWake
  try dsimp only
  repeat' first
    | (with_reducible first | assumption | exact trivial | apply onlyOut_next | apply onlyOut_ite | apply only_ite | apply only_wake)
    | (with_reducible first | apply only_leaveDusk)
    | exact sub_trans rfl hm
    | split

theorem only_readyForNight {s : State} (hm : sub 74363999997095101281 mm = true) (hs : Only mm s0 s) :
    Only mm s0 (State.readyForNight s) := by
  unfold State.readyForNight
  try dsimp only
  repeat' first
    | (with_reducible first | assumption | apply only_eraseKeys | apply only_tellBoard)
    | exact sub_trans rfl hm
    | with_reducible apply only_put832

theorem only_execNightEntry {s : State} (hm : sub 81286109590177497953 mm = true) (hs : Only mm s0 s) :
    OnlyOut mm s0 (execNightEntry s) := by
  unfold execNightEntry
  repeat' first
    | (with_reducible first | assumption | exact trivial | apply onlyOut_next | apply onlyOut_ite | apply only_ite | apply only_readyForNight)
    | (with_reducible first | apply only_beginEntry | apply only_enterDusk)
    | exact sub_trans rfl hm
    | split

theorem only_execClockRequest (page : Nat) (ns : Nat) {s : State} (hm : sub 117598008931784859665 mm = true) (hs : Only mm s0 s) :
    OnlyOut mm s0 (execClockRequest page ns s) := by
  unfold execClockRequest
  try dsimp only
  repeat' first
    | (with_reducible first | assumption | exact trivial | apply onlyOut_next | apply onlyOut_ite | apply only_ite | apply only_setFld)
    | (with_reducible first | apply only_clkOn | apply only_maxFld | apply only_record)
    | exact sub_trans rfl hm
    | split

theorem only_execClkIdleTimeout (page : Nat) {s : State} (hm : sub 4611686018427387905 mm = true) (hs : Only mm s0 s) :
    OnlyOut mm s0 (execClkIdleTimeout page s) := by
  unfold execClkIdleTimeout
  repeat' first
    | (with_reducible first | assumption | exact trivial | apply onlyOut_next | apply onlyOut_ite | apply only_ite | apply only_clkOff)
    | exact sub_trans rfl hm
    | split

theorem only_execVbatLow {s : State} (hm : sub 1 mm = true) (hs : Only mm s0 s) :
    OnlyOut mm s0 (execVbatLow s) := by
  unfold execVbatLow
  repeat' first
    | (with_reducible first | assumption | exact trivial | apply onlyOut_next | apply onlyOut_ite | apply only_ite | apply only_setFld)
    | exact sub_trans rfl hm
    | split

end Sys2Proof.Machine
end

