-- ==== Sys2Proof/Laws/OnlyBoard.lean ====
section
/-! SUPPORT. What each operation of Machine/Board.lean may change of the state. -/

set_option linter.unusedVariables false
set_option linter.tactic.unusedName false

namespace Sys2Proof.Machine

variable {mm : Nat} {s0 : State}

theorem only_pinEvent {s : State} (n : Nat) (hm : sub 73786976294838206465 mm = true) (hs : Only mm s0 s) :
    Only mm s0 (State.pinEvent s n) := by
  unfold State.pinEvent
  repeat' first
    | (with_reducible first | assumption | apply only_wr | apply only_raiseIrq)
    | exact sub_trans rfl hm

theorem only_execGpioEvent (pin : Nat) (rising : Bool) {s : State} (hm : sub 83010348331692982273 mm = true) (hs : Only mm s0 s) :
    OnlyOut mm s0 (execGpioEvent pin rising s) := by
  unfold execGpioEvent
  try dsimp only
  repeat' first
    | (with_reducible first | assumption | exact trivial | apply onlyOut_next | apply onlyOut_ite | apply only_ite | apply only_pinEvent)
    | exact sub_trans rfl hm
    | with_reducible apply only_put9223372036854775808
    | split

theorem only_execI3cStatus {s : State} (hm : sub 73786976294838206464 mm = true) (hs : Only mm s0 s) :
    OnlyOut mm s0 (execI3cStatus s) := by
  unfold execI3cStatus
  repeat' first
    | (with_reducible first | assumption | exact trivial | apply onlyOut_next | apply onlyOut_ite | apply only_ite | apply only_emit)
    | exact sub_trans rfl hm
    | split

theorem only_execI3cHottest {s : State} (hm : sub 73786976294838206464 mm = true) (hs : Only mm s0 s) :
    OnlyOut mm s0 (execI3cHottest s) := by
  unfold execI3cHottest
  repeat' first
    | (with_reducible first | assumption | exact trivial | apply onlyOut_next | apply onlyOut_ite | apply only_ite | apply only_emit)
    | exact sub_trans rfl hm
    | split

theorem only_execI3cWake (v : Nat) {s : State} (hm : sub 257 mm = true) (hs : Only mm s0 s) :
    OnlyOut mm s0 (execI3cWake v s) := by
  unfold execI3cWake
  repeat' first
    | (with_reducible first | assumption | exact trivial | apply onlyOut_next | apply onlyOut_ite | apply only_ite | apply only_wake)
    | exact sub_trans rfl hm
    | split

theorem only_execI3cSupply {s : State} (hm : sub 73786976294838206464 mm = true) (hs : Only mm s0 s) :
    OnlyOut mm s0 (execI3cSupply s) := by
  unfold execI3cSupply
  repeat' first
    | (with_reducible first | assumption | exact trivial | apply onlyOut_next | apply onlyOut_ite | apply only_ite | apply only_emit)
    | exact sub_trans rfl hm
    | split

end Sys2Proof.Machine
end

