-- ==== Sys2Proof/Laws/OnlyShown.lean ====
section
/-! SUPPORT. What each operation of Machine/Shown.lean may change of the state. -/

set_option linter.unusedVariables false
set_option linter.tactic.unusedName false

namespace Sys2Proof.Machine

variable {mm : Nat} {s0 : State}

theorem only_readReg {s : State} (o : Origin) (a : RegAddr) (hm : sub 8 mm = true) (hs : Only mm s0 s) :
    Only mm s0 (State.readReg s o a).2 := by
  unfold State.readReg
  try dsimp only
  repeat' first
    | (with_reducible first | assumption | apply only_ite | apply only_foldl)
    | exact sub_trans rfl hm
    | (intro _; intros; try dsimp only)
    | split
    | with_reducible apply only_put8

end Sys2Proof.Machine
end

