-- ==== Sys2Proof/Laws/OnlyPages.lean ====
section
/-! SUPPORT. What each operation of Machine/Pages.lean may change of the state. -/

set_option linter.unusedVariables false
set_option linter.tactic.unusedName false

namespace Sys2Proof.Machine

variable {mm : Nat} {s0 : State}

theorem only_after {s : State} {f : State → Host.Outcome State Fault Refusal} (hs : Only mm s0 s)
    (hf : ∀ t, Only mm s0 t → OnlyOut mm s0 (f t)) : Only mm s0 (State.after s f) := by
  have h := hf s hs
  unfold State.after
  split
  · rename_i e
    rw [e] at h
    exact h
  · exact hs
  · exact hs

theorem only_chance {s : State} (n : Nat) (hm : sub 36893488147419103232 mm = true) (hs : Only mm s0 s) :
    Only mm s0 (State.chance s n).2 := by
  unfold State.chance
  try dsimp only
  repeat' first
    | (with_reducible first | assumption)
    | exact sub_trans rfl hm
    | with_reducible apply only_put36893488147419103232

theorem only_keepClocks {s : State} (hm : sub 4611686018427387905 mm = true) (hs : Only mm s0 s) :
    Only mm s0 (State.keepClocks s) := by
  unfold State.keepClocks
  repeat' first
    | (with_reducible first | assumption | apply only_ite | apply only_setFld | apply only_clkOn | apply only_foldl)
    | exact sub_trans rfl hm
    | (intro _; intros; try dsimp only)
    | split

theorem only_ctrlWrite {s : State} (o : Origin) (p : Nat) (v : Nat) (hm : sub 118756331237508390963 mm = true) (hs : Only mm s0 s) :
    Only mm s0 (State.ctrlWrite s o p v) := by
  unfold State.ctrlWrite
  repeat' first
    | (with_reducible first | assumption | apply only_writeCtrl | apply only_keepClocks)
    | exact sub_trans rfl hm

theorem only_errClearWrite {s : State} (o : Origin) (p : Nat) (v : Nat) (hm : sub 117598008931784859665 mm = true) (hs : Only mm s0 s) :
    Only mm s0 (State.errClearWrite s o p v) := by
  unfold State.errClearWrite
  repeat' first
    | (with_reducible first | assumption | apply only_ite | apply only_act | apply only_clearErr)
    | exact sub_trans rfl hm
    | (intro _; intros; try dsimp only)
    | split

theorem only_irqPendWrite {s : State} (o : Origin) (p : Nat) (v : Nat) (hm : sub 117598008931784859665 mm = true) (hs : Only mm s0 s) :
    Only mm s0 (State.irqPendWrite s o p v) := by
  unfold State.irqPendWrite
  try dsimp only
  repeat' first
    | (with_reducible first | assumption | apply only_act | apply only_wr)
    | exact sub_trans rfl hm
    | (intro _; intros; try dsimp only)

theorem only_lockWrite {s : State} (o : Origin) (p : Nat) (v : Nat) (hm : sub 117598008931784859665 mm = true) (hs : Only mm s0 s) :
    Only mm s0 (State.lockWrite s o p v) := by
  unfold State.lockWrite
  try dsimp only
  repeat' first
    | (with_reducible first | assumption | apply only_ite | apply only_act | apply only_refuse | apply only_traced | apply only_wr)
    | exact sub_trans rfl hm
    | (intro _; intros; try dsimp only)
    | split

theorem only_irqEnWrite {s : State} (o : Origin) (p : Nat) (v : Nat) (hm : sub 117598571881738281013 mm = true) (hs : Only mm s0 s) :
    Only mm s0 (State.irqEnWrite s o p v) := by
  unfold State.irqEnWrite
  try dsimp only
  repeat' first
    | (with_reducible first | assumption | apply only_applyWrite | apply only_signalPage)
    | exact sub_trans rfl hm
    | (refine only_permit_ok (h := ?_) (e := by assumption))
    | (refine only_permit_error (hm := ?_) (h := ?_) (e := by assumption))
    | split

theorem only_putValue {s : State} (o : Origin) (a : Nat) (v : Nat) (hm : sub 117598571881738281013 mm = true) (hs : Only mm s0 s) :
    Only mm s0 (State.putValue s o a v) := by
  unfold State.putValue
  try dsimp only
  repeat' first
    | (with_reducible first | assumption | apply only_ite | apply only_refuse | apply only_applyWrite)
    | exact sub_trans rfl hm
    | split

theorem only_plainWrite {s : State} (o : Origin) (a : Nat) (v : Nat) (hm : sub 117598571881738281013 mm = true) (hs : Only mm s0 s) :
    Only mm s0 (State.plainWrite s o a v) := by
  unfold State.plainWrite
  try dsimp only
  repeat' first
    | (with_reducible first | assumption | apply only_putValue)
    | exact sub_trans rfl hm
    | (refine only_permit_ok (h := ?_) (e := by assumption))
    | (refine only_permit_error (hm := ?_) (h := ?_) (e := by assumption))
    | split

theorem only_bellReg {s : State} (o : Origin) (n : Nat) (a : Nat) (v : Nat) (hm : sub 118240334828638629937 mm = true) (hs : Only mm s0 s) :
    Only mm s0 (State.bellReg s o n a v) := by
  unfold State.bellReg
  repeat' first
    | (with_reducible first | assumption | apply only_change | apply only_writeBell | apply only_showLevels)
    | exact sub_trans rfl hm
    | (intro _; intros; try dsimp only)

theorem only_deviceNoWrite {s : State} (o : Origin) (v : Nat) (hm : sub 118240334828638629937 mm = true) (hs : Only mm s0 s) :
    Only mm s0 (State.deviceNoWrite s o v) := by
  unfold State.deviceNoWrite
  try dsimp only
  repeat' first
    | (with_reducible first | assumption | apply only_ite | apply only_refuse | apply only_bellReg)
    | exact sub_trans rfl hm
    | (refine only_permit_ok (h := ?_) (e := by assumption))
    | (refine only_permit_error (hm := ?_) (h := ?_) (e := by assumption))
    | split

theorem only_formatLevelWrite {s : State} (o : Origin) (v : Nat) (hm : sub 118240334828638629937 mm = true) (hs : Only mm s0 s) :
    Only mm s0 (State.formatLevelWrite s o v) := by
  unfold State.formatLevelWrite
  try dsimp only
  repeat' first
    | (with_reducible first | assumption | apply only_ite | apply only_refuse | apply only_bellReg)
    | exact sub_trans rfl hm
    | (refine only_permit_ok (h := ?_) (e := by assumption))
    | (refine only_permit_error (hm := ?_) (h := ?_) (e := by assumption))
    | split

theorem only_incrWrite {s : State} (o : Origin) (a : Nat) (v : Nat) (hm : sub 117598571881738281013 mm = true) (hs : Only mm s0 s) :
    Only mm s0 (State.incrWrite s o a v) := by
  unfold State.incrWrite
  try dsimp only
  repeat' first
    | (with_reducible first | assumption | apply only_ite | apply only_applyWrite | apply only_refuse)
    | exact sub_trans rfl hm
    | (refine only_permit_ok (h := ?_) (e := by assumption))
    | (refine only_permit_error (hm := ?_) (h := ?_) (e := by assumption))
    | split

theorem only_adjWrite {s : State} (o : Origin) (v : Nat) (hm : sub 117598571881738281013 mm = true) (hs : Only mm s0 s) :
    Only mm s0 (State.adjWrite s o v) := by
  unfold State.adjWrite
  try dsimp only
  repeat' first
    | (with_reducible first | assumption | apply only_ite | apply only_refuse | apply only_applyWrite)
    | exact sub_trans rfl hm
    | (refine only_permit_ok (h := ?_) (e := by assumption))
    | (refine only_permit_error (hm := ?_) (h := ?_) (e := by assumption))
    | split

theorem only_exportAckWrite {s : State} (o : Origin) (a : Nat) (v : Nat) (hm : sub 117733679870559395893 mm = true) (hs : Only mm s0 s) :
    Only mm s0 (State.exportAckWrite s o a v) := by
  unfold State.exportAckWrite
  try dsimp only
  repeat' first
    | (with_reducible first | assumption | apply only_ite | apply only_act | apply only_exportAck | apply only_dropHeld)
    | exact sub_trans rfl hm
    | (intro _; intros; try dsimp only)
    | with_reducible apply only_put4
    | split

theorem only_keepCmdWrite {s : State} (o : Origin) (v : Nat) (hm : sub 117950134127649890353 mm = true) (hs : Only mm s0 s) :
    Only mm s0 (State.keepCmdWrite s o v) := by
  unfold State.keepCmdWrite
  try dsimp only
  repeat' first
    | (with_reducible first | assumption | apply only_ite | apply only_act | apply only_chance | apply only_keepWrite | apply only_keepRead)
    | exact sub_trans rfl hm
    | (intro _; intros; try dsimp only)
    | split

theorem only_queueReg {s : State} (o : Origin) (a : Nat) (old : Nat) (new : Nat) (f : Queue → Queue) (hm : sub 117598571881738281009 mm = true) (hs : Only mm s0 s) :
    Only mm s0 (State.queueReg s o a old new f) := by
  unfold State.queueReg
  try dsimp only
  repeat' first
    | (with_reducible first | assumption | apply only_change | apply only_setQueue)
    | exact sub_trans rfl hm
    | (intro _; intros; try dsimp only)

theorem only_qCtrlWrite {s : State} (o : Origin) (v : Nat) (hm : sub 117598571881738281009 mm = true) (hs : Only mm s0 s) :
    Only mm s0 (State.qCtrlWrite s o v) := by
  unfold State.qCtrlWrite
  try dsimp only
  repeat' first
    | (with_reducible first | assumption | apply only_ite | apply only_refuse | apply only_queueReg | apply only_putCtrl)
    | exact sub_trans rfl hm
    | (intro _; intros; try dsimp only)
    | split

theorem only_baseWrite {s : State} (o : Origin) (l : RegAddr) (a : Nat) (v : Nat) (old : Nat) (f : Nat → Queue → Queue) (hm : sub 117598571881738281013 mm = true) (hs : Only mm s0 s) :
    Only mm s0 (State.baseWrite s o l a v old f) := by
  unfold State.baseWrite
  try dsimp only
  repeat' first
    | (with_reducible first | assumption | apply only_ite | apply only_queueReg | apply only_refuse | apply only_countFull)
    | (with_reducible first | apply only_dropHeld)
    | exact sub_trans rfl hm
    | (intro _; intros; try dsimp only)
    | with_reducible apply only_put4
    | split

theorem only_queueWrite {s : State} (o : Origin) (a : Nat) (v : Nat) (hm : sub 117598571881738281013 mm = true) (hs : Only mm s0 s) :
    Only mm s0 (State.queueWrite s o a v) := by
  unfold State.queueWrite
  try dsimp only
  repeat' first
    | (with_reducible first | assumption | apply only_ite | apply only_qCtrlWrite | apply only_queueReg | apply only_baseWrite)
    | exact sub_trans rfl hm
    | (intro _; intros; try dsimp only)
    | (refine only_permit_ok (h := ?_) (e := by assumption))
    | (refine only_permit_error (hm := ?_) (h := ?_) (e := by assumption))
    | split

theorem only_evqCtrlWrite {s : State} (o : Origin) (v : Nat) (hm : sub 117598571881738281013 mm = true) (hs : Only mm s0 s) :
    Only mm s0 (State.evqCtrlWrite s o v) := by
  unfold State.evqCtrlWrite
  try dsimp only
  repeat' first
    | (with_reducible first | assumption | apply only_ite | apply only_plainWrite | apply only_drainEvents)
    | exact sub_trans rfl hm
    | with_reducible apply only_put8192
    | split

theorem only_encWrite {s : State} (o : Origin) (a : Nat) (v : Nat) (hm : sub 117598571881738281009 mm = true) (hs : Only mm s0 s) :
    Only mm s0 (State.encWrite s o a v) := by
  unfold State.encWrite
  try dsimp only
  repeat' first
    | (with_reducible first | assumption | apply only_change | apply only_wr)
    | exact sub_trans rfl hm
    | (intro _; intros; try dsimp only)
    | (refine only_permit_ok (h := ?_) (e := by assumption))
    | (refine only_permit_error (hm := ?_) (h := ?_) (e := by assumption))
    | split

theorem only_engineWrite {s : State} (o : Origin) (e : Nat) (b : Nat) (a : Nat) (v : Nat) (hm : sub 117603075481365651509 mm = true) (hs : Only mm s0 s) :
    Only mm s0 (State.engineWrite s o e b a v) := by
  unfold State.engineWrite
  try dsimp only
  repeat' first
    | (with_reducible first | assumption | apply only_ite | apply only_writeCmd | apply only_act | apply only_feedData | apply only_refuse)
    | (with_reducible first | apply only_applyWrite | apply only_setValue)
    | exact sub_trans rfl hm
    | (intro _; intros; try dsimp only)
    | (refine only_permit_ok (h := ?_) (e := by assumption))
    | (refine only_permit_error (hm := ?_) (h := ?_) (e := by assumption))
    | split

theorem only_ownWrite {s : State} (o : Origin) (a : Nat) (v : Nat) {u : State} (hm : sub 119902710579205239807 mm = true) (h : Only mm s0 s)
    (e : State.ownWrite s o a v = some u) : Only mm s0 u := by
  have hc := only_chance 2 (sub_trans rfl hm) h
  revert e
  unfold State.ownWrite
  repeat' first
    | with_reducible apply only_someIte
    | (intro e; cases e; done)
    | with_reducible assumption
    | exact sub_trans rfl hm
    | with_reducible apply only_deviceNoWrite
    | with_reducible apply only_formatLevelWrite
    | with_reducible apply only_writePowerReq
    | with_reducible apply only_writeInterlock
    | with_reducible apply only_keepClocks
    | with_reducible apply only_plainWrite
    | with_reducible apply only_exportAckWrite
    | with_reducible apply only_incrWrite
    | with_reducible apply only_adjWrite
    | with_reducible apply only_keepCmdWrite
    | with_reducible apply only_evqCtrlWrite
    | with_reducible apply only_queueWrite
    | with_reducible apply only_encWrite
    | with_reducible apply only_after
    | (intro t ht; first
        | exact only_execErrlogHead o v (sub_trans rfl hm) ht
        | exact only_execDeviceReset o v (sub_trans rfl hm) ht
        | exact only_execThermAck o v (sub_trans rfl hm) ht
        | exact only_execExportCmd o v (sub_trans rfl hm) ht
        | exact only_execStep o v (sub_trans rfl hm) ht
        | exact only_execStrayAdd o v (sub_trans rfl hm) ht
        | exact only_execDetect o v (sub_trans rfl hm) ht
        | exact only_execLimitWrite o _ v (sub_trans rfl hm) ht
        | exact only_execMove o v (sub_trans rfl hm) ht
        | exact only_execPeerFault o v _ (sub_trans rfl hm) ht
        | exact only_execRetrain o v (sub_trans rfl hm) ht
        | exact only_execIvdonRetrain o v (sub_trans rfl hm) ht
        | exact only_execFill o v (sub_trans rfl hm) ht
        | exact only_execRetire o v (sub_trans rfl hm) ht
        | exact only_execRebase o v (sub_trans rfl hm) ht)
    | split

theorem only_writeReg {s : State} (o : Origin) (a : Nat) (v : Nat) (hm : sub 119902710579205239807 mm = true) (hs : Only mm s0 s) : Only mm s0 (State.writeReg s o a v) := by
  unfold State.writeReg
  dsimp only
  repeat' first
    | with_reducible assumption
    | exact sub_trans rfl hm
    | with_reducible apply only_ctrlWrite
    | with_reducible apply only_irqEnWrite
    | with_reducible apply only_irqPendWrite
    | with_reducible apply only_errClearWrite
    | with_reducible apply only_lockWrite
    | with_reducible apply only_engineWrite
    | (cases e : State.ownWrite s o a v with
        | none => exact only_plainWrite _ _ _ (sub_trans rfl hm) hs
        | some u => exact only_ownWrite o a v (sub_trans rfl hm) hs e)
    | split

theorem only_execCtrlEnable (o : Origin) (page : Nat) (v : Nat) {s : State} (hm : sub 118756331237508390963 mm = true) (hs : Only mm s0 s) :
    OnlyOut mm s0 (execCtrlEnable o page v s) := by
  unfold execCtrlEnable
  repeat' first
    | (with_reducible first | assumption | exact trivial | apply onlyOut_next | apply onlyOut_ite | apply only_ite | apply only_ctrlWrite)
    | exact sub_trans rfl hm
    | split

theorem only_execCtrlDisable (o : Origin) (page : Nat) (v : Nat) {s : State} (hm : sub 118756331237508390963 mm = true) (hs : Only mm s0 s) :
    OnlyOut mm s0 (execCtrlDisable o page v s) := by
  unfold execCtrlDisable
  repeat' first
    | (with_reducible first | assumption | exact trivial | apply onlyOut_next | apply onlyOut_ite | apply only_ite | apply only_ctrlWrite)
    | exact sub_trans rfl hm
    | split

theorem only_execSoftReset (o : Origin) (page : Nat) (v : Nat) {s : State} (hm : sub 118756331237508390963 mm = true) (hs : Only mm s0 s) :
    OnlyOut mm s0 (execSoftReset o page v s) := by
  unfold execSoftReset
  repeat' first
    | (with_reducible first | assumption | exact trivial | apply onlyOut_next | apply onlyOut_ite | apply only_ite | apply only_ctrlWrite)
    | exact sub_trans rfl hm
    | split

theorem only_execErrClear (o : Origin) (page : Nat) (v : Nat) {s : State} (hm : sub 117598008931784859665 mm = true) (hs : Only mm s0 s) :
    OnlyOut mm s0 (execErrClear o page v s) := by
  unfold execErrClear
  repeat' first
    | (with_reducible first | assumption | exact trivial | apply onlyOut_next | apply onlyOut_ite | apply only_ite | apply only_errClearWrite)
    | exact sub_trans rfl hm
    | split

theorem only_execIrqPendClear (o : Origin) (page : Nat) (v : Nat) {s : State} (hm : sub 117598008931784859665 mm = true) (hs : Only mm s0 s) :
    OnlyOut mm s0 (execIrqPendClear o page v s) := by
  unfold execIrqPendClear
  repeat' first
    | (with_reducible first | assumption | exact trivial | apply onlyOut_next | apply onlyOut_ite | apply only_ite | apply only_irqPendWrite)
    | exact sub_trans rfl hm
    | split

theorem only_execLock (o : Origin) (page : Nat) (v : Nat) {s : State} (hm : sub 117598008931784859665 mm = true) (hs : Only mm s0 s) :
    OnlyOut mm s0 (execLock o page v s) := by
  unfold execLock
  repeat' first
    | (with_reducible first | assumption | exact trivial | apply onlyOut_next | apply onlyOut_ite | apply only_ite | apply only_lockWrite)
    | exact sub_trans rfl hm
    | split

theorem only_execRegisterWrite (o : Origin) (addr : Nat) (v : Nat) (bytes : Nat) {s : State} (hm : sub 119902710579205239807 mm = true) (hs : Only mm s0 s) :
    OnlyOut mm s0 (execRegisterWrite o addr v bytes s) := by
  unfold execRegisterWrite
  try dsimp only
  repeat' first
    | (with_reducible first | assumption | exact trivial | apply onlyOut_next | apply onlyOut_ite | apply only_ite | apply only_writeReg)
    | (with_reducible first | apply only_refuse)
    | exact sub_trans rfl hm
    | split

theorem only_execRegWrite (page : Nat) (off : Nat) (v : Nat) {s : State} (hm : sub 119902710579205239807 mm = true) (hs : Only mm s0 s) :
    OnlyOut mm s0 (execRegWrite page off v s) := by
  unfold execRegWrite
  repeat' first
    | (with_reducible first | assumption | exact trivial | apply onlyOut_next | apply onlyOut_ite | apply only_ite | apply only_mailbox)
    | (with_reducible first | apply only_writeReg | apply only_mbEnd | apply only_mbFail)
    | exact sub_trans rfl hm
    | (intro _; intros; try dsimp only)
    | split

theorem only_execRegRead (page : Nat) (off : Nat) {s : State} (hm : sub 118174469684088283161 mm = true) (hs : Only mm s0 s) :
    OnlyOut mm s0 (execRegRead page off s) := by
  unfold execRegRead
  try dsimp only
  repeat' first
    | (with_reducible first | assumption | exact trivial | apply onlyOut_next | apply onlyOut_ite | apply only_ite | apply only_mailbox)
    | (with_reducible first | apply only_readReg | apply only_mbEnd | apply only_mbFail)
    | exact sub_trans rfl hm
    | (intro _; intros; try dsimp only)
    | with_reducible apply only_put36893488147419103232
    | split

end Sys2Proof.Machine
end

