-- ==== Sys2Proof/Machine/Seal.lean ====
section
/-! DEFINITION. What DRAM holds of cached geometry and of the pixel field: the seal under the device key and the keystream under the field
key (R17, R19, R337 to R339, R342, R343). State keeps the plain contents; these are the images of them (log entry 5). -/

namespace Sys2Proof.Machine

/-- Bytes XORed with a stream. -/
def xorStream (f : Nat → Byte) (b : List Byte) : List Byte := b.zipIdx.map (fun e => e.1 ^^^ f e.2)

/-! ### Cached geometry -/

/-- The nonce of a seal: the frame number, then SEAL_CTR (R338). -/
def sealNonce (k ctr : Nat) : List Byte := leBytes 4 k ++ leBytes 8 ctr

/-- The bytes that stand in a frame: the unit encrypted under the device key (R337, R338). -/
def Frame.cipher (f : Frame) (key k : Nat) : List Byte := xorStream (Config.gcmStream key (sealNonce k f.sealCtr)) f.unit

/-- DEV_TAG over a ciphertext, ENVELOPE and the frame number authenticated with it (R338). -/
def Frame.devTag (f : Frame) (key k : Nat) (c : List Byte) : List Byte :=
  leBytes 16 (Config.gcmTag key (sealNonce k f.sealCtr) (f.env ++ leBytes 4 k) c)

/-- Bytes 0x00 to 0x7B of a descriptor (R337). -/
def Frame.descHead (f : Frame) (key k : Nat) : List Byte :=
  f.env ++ f.devTag key k (f.cipher key k) ++ leBytes 4 f.wireCrc ++ leBytes 4 (2 ^ 31 + f.slot * 2 ^ 30) ++ leBytes 8 f.sealCtr ++
  List.replicate 60 0

/-- A frame's descriptor and ciphertext as DRAM holds them (R337). -/
def Frame.image (f : Frame) (key k : Nat) : List Byte × List Byte :=
  let head := f.descHead key k
  (head ++ leBytes 4 (crcC (head ++ f.cipher key k)), f.cipher key k)

/-- How a read of a frame ends on what DRAM holds: CACHE_CRC first, then DEV_TAG (R339). -/
def Frame.verdict (f : Frame) (key k : Nat) (desc c : List Byte) : ReadFault :=
  if leAt desc 0x7C 4 ≠ crcC (desc.take 0x7C ++ c) then .crc
  else if leAt desc 0x20 16 ≠ Config.gcmTag key (sealNonce k f.sealCtr) (f.env ++ leBytes 4 k) c % 2 ^ 128 then .tag
  else .ok

/-- The image of a frame in use, under the device key of this power-up (R337, R338). -/
def State.frameImage (s : State) (k : Nat) : Option (List Byte × List Byte) :=
  (kget? s.frames k).map (fun f => f.image s.fold.deviceKey k)

/-! ### The pixel field -/

/-- The counter block of keystream block i of tile column t of band b (R343). -/
def counterBlock (jobId stripe bt pass i : Nat) : BitVec 128 :=
  BitVec.ofNat 128 (jobId % 2 ^ 32 + stripe % 2 ^ 32 * 2 ^ 32 + bt % 2 ^ 32 * 2 ^ 64 + (i % 1024 + pass % 2 ^ 22 * 1024) * 2 ^ 96)

/-- Byte j of a tile's keystream: 16 to each block, the first byte of a block its lowest (R343). -/
def tileStream (key jobId stripe bt pass j : Nat) : Byte :=
  ((Config.aes256 key (counterBlock jobId stripe bt pass (j / 16))) >>> (8 * (j % 16))).setWidth 8

/-- A tile's 8,192 bytes and its CRC of 4, as they are scrambled: block 512 serves the CRC (R343). -/
def scrambleTile (key jobId stripe bt pass : Nat) (b : List Byte) : List Byte := xorStream (tileStream key jobId stripe bt pass) b

/-- Where a tile's CRC lies in the side tables (R332, R342). -/
def tileCrcDa (ring band col : Nat) : Nat := 0x30000000 + ring * 0x20000 + (band % 256 * 128 + col) * 4

/-- Where a cell of a factor map of a stripe W pixels wide lies in its area: cell row j, stripe cell column i from −1 (R333). -/
def factorOffset (width j i : Nat) : Nat := 2 * (j * (width / 16 + 2) + i)

/-- What DRAM holds of a tile of a stripe and of its CRC (R342, R343). -/
def State.tileImage (s : State) (x : Stripe) (band col : Nat) : List Byte :=
  let k := fieldKey (x.ring.getD 0) band col
  let words := (List.range 4096).flatMap (fun i => leBytes 2 (tileWordAt x.id band col (kget (fun _ => []) s.field k) i).toNat)
  scrambleTile s.fold.fieldKey x.jobId x.id (128 * band + col) x.pass (words ++ leBytes 4 (kget (fun _ => 0) s.tileCrcs k))

end Sys2Proof.Machine
end

