-- ==== Sys2Proof/Laws/Seal.lean ====
section
/-! SUPPORT. Images in DRAM and on the line give back what they were made of (R17, R210, R338, R339, R343). -/

namespace Sys2Proof.Machine

theorem xorStream_length (f : Nat → Byte) (b : List Byte) : (xorStream f b).length = b.length := by simp [xorStream]

theorem xorStream_twice (f : Nat → Byte) (b : List Byte) : xorStream f (xorStream f b) = b := by
  apply List.ext_getElem (by simp [xorStream])
  intro i h1 h2
  simp [xorStream, BitVec.xor_assoc]

theorem scrambleTile_twice (key job stripe bt pass : Nat) (b : List Byte) :
    scrambleTile key job stripe bt pass (scrambleTile key job stripe bt pass b) = b := xorStream_twice _ b

/-- Decrypting a frame gives its unit. -/
theorem Frame.cipher_opens (f : Frame) (key k : Nat) :
    xorStream (Config.gcmStream key (sealNonce k f.sealCtr)) (f.cipher key k) = f.unit := xorStream_twice _ f.unit

/-- The other end of a lane reads the payload that was sent (R210). -/
theorem descramble_scramble (seed : Nat) (l : List Bool) : descramble seed (scramble seed l) = l := by
  induction l generalizing seed with
  | nil => rfl
  | cons d ds ih =>
    simp only [scramble, descramble, ih, scrambleBit]
    congr 1
    cases d <;> cases seed.testBit 38 <;> cases seed.testBit 57 <;> rfl

end Sys2Proof.Machine
end

