-- ==== Sys2Proof/Machine/Package.lean ====
section
/-! DEFINITION. The package: the names of its balls, where the signals stand, and what every other ball carries (R642 to R646). -/

namespace Sys2Proof.Machine

/-- The rails, in the order of R650, and the return of them all. -/
inductive Rail
  | vddIo | vddCore | vddSram | vddSerLo | vddSerHi | vddHbm | vddHbmIo | vss
  deriving DecidableEq, Repr

/-- The letters of R643: I, O, Q, R, S, X and Z are not among them. -/
def ballLetters : List Char := "ABCDEFGHJKLMNPTUVWY".toList

/-- The letters of the row at an index, 0 to 77 (R643). -/
def rowLetters (i : Nat) : List Char :=
  let l := fun n => ballLetters.getD n 'A'
  if i < 19 then [l i] else [l ((i - 19) / 19), l ((i - 19) % 19)]

/-- The signal group of a ball (R644), by its group's first letters. -/
inductive Signal
  | flTx (lane : Nat) | flRx (lane : Nat) | flashStb (n : Nat) | pcieTx (lane : Nat) | pcieRx (lane : Nat) | perst | refclkPcie
  | ivTx (lane : Nat) | ivRx (lane : Nat) | jesdTx (lane : Nat) | jesdSysref | jesdDclk | refclkSer
  | encA (n : Nat) | encB (n : Nat) | encZ (n : Nat) | encSin (n : Nat) | encCos (n : Nat) | encSclk (n : Nat) | encSdat (n : Nat)
  | rgmii (n : Nat) | jtag (n : Nat) | beamOff | shadeOut | faultN | setptTx | step | dir | i3cScl | i3cSda
  | tamper (n : Nat) | vbat | xtalIn | xtalOut | refclkCore | avs (n : Nat) | coreSense | extDiode (n : Nat) | gpio (n : Nat)
  deriving DecidableEq, Repr

/-- Where a group of n signals stands: each with its row index, its column and whether it is a differential pair. -/
def signalGroup (n : Nat) (f : Nat → Signal × Nat × Nat × Bool) : List (Signal × Nat × Nat × Bool) := (List.range n).map f

/-- The signals of the links and of PCI Express (R644). -/
def linkSignals : List (Signal × Nat × Nat × Bool) :=
  signalGroup 64 (fun l => (.flTx l, 1 + 2 * (l / 16), 8 + 4 * (l % 16), true)) ++ signalGroup 8 (fun q => (.flRx q, 9, 8 + 4 * q, true)) ++
  signalGroup 2 (fun n => (.flashStb n, 9, 48 + 4 * n, true)) ++ signalGroup 16 (fun k => (.pcieTx k, 76, 8 + 4 * k, true)) ++
  signalGroup 16 (fun k => (.pcieRx k, 74, 8 + 4 * k, true)) ++ [(.perst, 72, 8, false), (.refclkPcie, 72, 12, true)] ++
  signalGroup 8 (fun n => (.ivTx n, 20 + 4 * n, 2, true)) ++ signalGroup 8 (fun n => (.ivRx n, 22 + 4 * n, 2, true)) ++
  signalGroup 8 (fun n => (.jesdTx n, 20 + 4 * n, 76, true)) ++ [(.jesdSysref, 52, 76, true), (.jesdDclk, 56, 76, true), (.refclkSer, 60, 76, true)]

/-- The signals of the encoders (R644). -/
def encSignals : List (Signal × Nat × Nat × Bool) :=
  signalGroup 4 (fun n => (.encA n, 54 + 4 * n, 2, true)) ++ signalGroup 4 (fun n => (.encB n, 54 + 4 * n, 5, true)) ++
  signalGroup 4 (fun n => (.encZ n, 54 + 4 * n, 8, true)) ++ signalGroup 4 (fun n => (.encSin n, 55 + 4 * n, 2, true)) ++
  signalGroup 4 (fun n => (.encCos n, 55 + 4 * n, 5, true)) ++ signalGroup 4 (fun n => (.encSclk n, 55 + 4 * n, 8, false)) ++
  signalGroup 4 (fun n => (.encSdat n, 55 + 4 * n, 9, false))

/-- The low-speed signals (R644); the RGMII ones in the order TXC, TX_CTL, TXD0 to TXD3, RXC, RX_CTL, RXD0 to RXD3, MDC, MDIO. -/
def slowSignals : List (Signal × Nat × Nat × Bool) :=
  signalGroup 14 (fun n => (.rgmii n, 68, [20, 21, 22, 23, 24, 25, 27, 28, 29, 30, 31, 32, 34, 35].getD n 0, false)) ++
  signalGroup 5 (fun n => (.jtag n, 68, 40 + n, false)) ++
  [(.beamOff, 70, 20, false), (.shadeOut, 70, 21, false), (.faultN, 70, 22, false), (.setptTx, 70, 24, true), (.step, 70, 27, false),
   (.dir, 70, 28, false), (.i3cScl, 70, 30, false), (.i3cSda, 70, 31, false)] ++
  signalGroup 4 (fun n => (.tamper n, 70, 33 + n, false)) ++
  [(.vbat, 70, 38, false), (.xtalIn, 70, 40, false), (.xtalOut, 70, 41, false), (.refclkCore, 70, 44, true)] ++
  signalGroup 3 (fun n => (.avs n, 70, 48 + n, false)) ++ [(.coreSense, 70, 52, true)] ++
  signalGroup 2 (fun n => (.extDiode n, 70, 55 + 2 * n, true)) ++ signalGroup 8 (fun n => (.gpio n, 70, 60 + n, false))

/-- The signal of a ball, and whether the ball is the _N one of a pair (R644). -/
def signalAt (row col : Nat) : Option (Signal × Bool) :=
  (linkSignals ++ encSignals ++ slowSignals).findSome? (fun x =>
    if x.2.1 ≠ row then none
    else if x.2.2.1 = col then some (x.1, false)
    else if x.2.2.2 ∧ x.2.2.1 + 1 = col then some (x.1, true) else none)

/-- What a ball that carries no signal carries (R645). -/
def railAt (row col : Nat) : Rail :=
  if (row + col) % 2 = 0 then .vss
  else if 68 ≤ row ∧ row ≤ 70 ∧ 19 ≤ col ∧ col ≤ 70 then .vddIo
  else if row ≤ 9 ∨ 68 ≤ row ∨ col ≤ 10 ∨ 69 ≤ col then (if row % 3 = 0 then .vddSerHi else .vddSerLo)
  else if ((12 ≤ row ∧ row ≤ 27) ∨ (50 ≤ row ∧ row ≤ 65)) ∧ ((12 ≤ col ∧ col ≤ 27) ∨ (52 ≤ col ∧ col ≤ 67)) then
    (if row % 4 < 2 then .vddHbm else .vddHbmIo)
  else if 36 ≤ col ∧ col ≤ 43 then .vddSram else .vddCore

/-- What a ball of the array carries, by its row index 0 to 77 and its column 1 to 78 (R642 to R645). -/
def ballAt (row col : Nat) : Option ((Signal × Bool) ⊕ Rail) :=
  if row > 77 ∨ col < 1 ∨ col > 78 then none
  else some (match signalAt row col with | some x => .inl x | none => .inr (railAt row col))

end Sys2Proof.Machine
end

