-- ==== Sys2Proof/WellFormed.lean ====
section
/-! DEFINITION. Which commands are well formed: every operand within what can name something of the part. A
command that is not is refused by no part of the machine; its meaning has no effect where an operand names
nothing. -/

namespace Sys2Proof

/-- A page number of R617. -/
def okPage (p : Nat) : Bool := decide (p ≤ 0x1C)
/-- A 32-bit register value. -/
def okWord (v : Nat) : Bool := decide (v < 2 ^ 32)
/-- A forward lane. -/
def okLane (l : Nat) : Bool := decide (l < 64)
/-- An encoder channel, an Ivdon port, a stack or a decode context. -/
def okFour (c : Nat) : Bool := decide (c < 4)
/-- A codec context or a CRC engine. -/
def okEight (c : Nat) : Bool := decide (c < 8)

/-- The checks of a command's operands. -/
def WellFormed : Instr → Bool
  | .sqTailDoorbell q v => decide (q < 64) && decide (v < 4096)
  | .cqHeadDoorbell q v => decide (q < 64) && decide (v < 4096)
  | .evqHeadDoorbell v => decide (v < 4096)
  | .commandStart q e _ => decide (q < 64) && decide (e.length = 16) && e.all okWord
  | .cqCoalesceTimeout q => decide (q < 64)
  | .cacheRead c s _ _ _ _ => okFour c && decide (s < 2)
  | .codecDecodeEnd c _ => okEight c
  | .codecContextResume c _ _ _ => okEight c
  | .codecCompressDone c _ _ _ _ => okEight c
  | .codecFlush c _ => okEight c
  | .tileDone _ _ _ col lane _ _ _ _ _ _ => decide (col < 128) && okLane lane
  | .rerasterRequest _ _ _ col _ l _ _ _ => decide (col < 128) && l.all okLane
  | .prepassComplete l r _ _ => l.all okLane && r.all okLane
  | .strayAdd _ v | .retrain _ v | .detect _ v | .peerFault _ v _ | .move _ v | .interlockLatchedClear _ v
  | .forceShade _ v | .deviceReset _ v | .errlogHead _ v | .thermAck _ v | .retire _ v | .fill _ v | .rebase _ v
  | .exportCmd _ v | .step _ v | .ivdonRetrain _ v => okWord v
  | .exportAck _ v => decide (v < 2 ^ 64)
  | .limitWrite _ i v => decide (i < 6) && okWord v
  | .frameSend l _ _ | .rxStatusTimeout l _ _ _ | .flinkReportLate l _ | .reportAgainRetry l _ | .laneBlockLock l _
  | .laneCapsDone l | .laneEyeMeasured l _ _ | .laneVerifyDone l _ | .flinkTrainFail l | .laneRetrainTurnaround l
  | .lpiEntry l | .laneEyeScan l _ _ | .flinkSensorSilent l => okLane l
  | .returnLaneLockLost q => okEight q
  | .positionLoss c _ _ | .encFreeze c _ | .encWordSilent c _ | .encSerialWord c _ _ | .encZEdge c _ => okFour c
  | .hbmStackFault s | .selfRefreshExit s | .refreshDue s _ _ | .nbrRefreshDue s _ _ => okFour s
  | .sysStateParity p | .clockRequest p _ | .clkIdleTimeout p => okPage p
  | .thermLevelRise c l | .thermLevelFall c l => decide (c < 3) && decide (l < 4)
  | .thermSensorFailed i | .thermSensorRecovered i => decide (i < 130)
  | .crcInit _ e | .crcStart _ e | .crcCheck _ e | .crcAbort _ e | .crcJobDone e _ _ => okEight e
  | .crcData _ e v => okEight e && okWord v
  | .regWrite p o v => okPage p && decide (o < 0x1000) && okWord v
  | .regRead p o => okPage p && decide (o < 0x1000)
  | .attest nonce => decide (nonce.length = 32)
  | .fwSelect s => decide (s < 2)
  | .tamperInput n => okFour n
  | .hello p _ | .level p _ | .ivdonWake p _ | .ready p _ | .epoch p _ | .contain p _ | .alive p _ | .mgmt p _
  | .ivdonPortDown p | .ivdonPortTrained p _ _ _ _ | .ivdonPortRetry p => okFour p
  | .gpioEvent p _ => decide (p < 8)
  | .i3cWake v => decide (v < 256)
  | .ctrlEnable _ p v | .ctrlDisable _ p v | .softReset _ p v | .errClear _ p v | .irqPendClear _ p v
  | .lock _ p v => okPage p && okWord v
  | .registerWrite _ a v b => decide (a < 0x1D000) && decide (v < 2 ^ 64) && decide (b ≤ 255)
  | .supplyExcursion r _ => decide (r < 7)
  | _ => true

end Sys2Proof
end

