-- ==== Sys2Proof/Tests/Slice0.lean ====
section
/-! SUPPORT. Tests of the model: terms that WellFormed refuses, single steps against the spec's own numbers, and for every statement
with hypotheses the states and operands that meet them. -/

namespace Sys2Proof.Tests

set_option Elab.async false

open Sys2Proof.Machine

/-! ### Small states -/

/-- The part in Day after its power-up, firmware running, nothing enabled. -/
def up : State := { State.reset with booted := true, fold := { State.reset.fold with fwRuns := true } }
/-- Registers set. -/
def regs (l : List (Nat × Nat)) (s : State) : State := l.foldl (fun s x => s.wr x.1 x.2) s
/-- Pages enabled. -/
def on (l : List Nat) (s : State) : State := regs (l.map (fun p => (p * 0x1000 + 4, 1))) s
/-- A command that has started and not acted. -/
def cmd (n op : Nat) (sel : Nat := 3) : Cmd :=
  { n, sq := 0, cid := 40 + n, flags := 0, opcode := op, jobId := 7, sel, arg0 := 0, addr := 0, len := 0, addr2 := 0, arg1 := 0 }
/-- A command that has acted and not completed. -/
def acted (n op : Nat) : Cmd := { cmd n op with ran := true }
/-- The part with started commands of pair 0, whose queues have four entries. -/
def cmds (l : List Cmd) (s : State) : State :=
  { s with host := { s.host with cmds := l, nextCmd := l.length + 1, queues := [(0, { ctrl := 0x80000003 })] } }
/-- The part with job 7 open in slot 0. -/
def job (s : State) : State := { s with job0 := { status := 1, jobId := 7, openOrd := 1, flatTol := 8 } }
/-- A stripe of job 7. -/
def stripe (st : StripeSt) : Stripe :=
  { slot := 0, jobId := 7, id := 3, pass := 0, st, ord := 1, srec := ⟨3, 0, 0, 0, 128, 0, 0⟩, armCmd := 0, endRow := 128, ring := some 0, mapSet := some 0 }
/-- The part with stripes, tracking at flash 3. -/
def run (l : List Stripe) (s : State) : State :=
  { s with stripes := l, stripeOrd := 9, drover := { s.drover with ratio := 2 ^ 24, k := 3, st := 2 } }
/-- The part in Dusk. -/
def dusk (s : State) : State := { s with power := .dusk }
/-- A compressed unit of one stored block (R84, R87). -/
def unit (data : List Byte) : List Byte :=
  leBytes 4 0x315A4443 ++ leBytes 4 (10 * 65536 + 1) ++ leBytes 4 data.length ++ leBytes 4 (crcC data) ++ [1] ++ leBytes 2 data.length ++
    leBytes 2 (65535 - data.length) ++ data
/-- The unit of a stripe's block: a STRIPE record of 128 rows and its end. -/
def geoBlock (id : Nat) : List Byte := unit ([8 * 4096 + 1, id, 0, 0, 0, 0, 128, 0, 5 * 4096 + 2, id, 0, 0, 1].flatMap (leBytes 4))
/-- That block cached. -/
def geoFrame (id : Nat) : Frame :=
  { slot := 0, block := 1, stripe := id, firstBand := 0, dlen := 52, wireCrc := 0, sealCtr := 1, env := [], unit := geoBlock id }
/-- Job 7 with its key and header, a cached stripe of it, and the link up, in a part with all the writing pages enabled. -/
def geo (id n : Nat) : State :=
  let s := on [7, 8, 9, 10, 11, 12, 13, 14, 15, 16, 17] up
  { s with
    job0 := { status := 1, jobId := 7, openOrd := 1, flatTol := 8, key := some [1], keyId := 9, penLocked := true, profLocked := true,
              hdr := some ⟨0, 7, n, 0, 2, 0, 0⟩ }
    frames := [(0, geoFrame id)]
    flink := { s.flink with rx := 255, lanes := (List.range 64).map (fun l => (l, { st := 7 })) }
    drover := { s.drover with pll := true, aligned := true } }
/-- Main's channel at a position of p units, where one count is one unit. -/
def at' (p : Int) (s : State) : State := (regs [(encReg R.DROVER_ENC_SCALE 0, 2 ^ 24)] s).setEnc 0 { s.enc 0 with count := p }
/-- A sample in which no pin of an encoder has moved. -/
def still : Sample := {}
/-- Lantern's lanes awake. -/
def awake (s : State) : State := s.setFld (statusOf 9) 16 16 1
/-- The part ready to write stripe 3. -/
def live : State := geo 3 8
/-- A stripe that writes. -/
def wr : Stripe := { stripe .writing with blocks := [1], bandsDone := 2, staged := 2, prepass := 4, goCmd := 1, nextCycle := 7, flashBase := 100 }
/-- The part writing it. -/
def writing : State := run [wr] live
/-- A message of a type for a lane with the rest of its fields, and its CHECK (R212). -/
def msg (typ lane rest : Nat) : BitVec 64 :=
  let m := typ * 2 ^ 52 + lane * 2 ^ 46 + rest
  BitVec.ofNat 64 (m * 256 + crc8msg.crc (beBytes 7 m))
/-- A sent frame of lane 2, of row 4 and flash 104. -/
def frm : LinkFrame := { lane := 2, flash := 4, index := 104, ord := 1, sent := true, codes := [(7, 3), (9, 1)] }
/-- The link with a frame, and two strobed flashes. -/
def fly (f : LinkFrame) (s : State) : State := { s with flink := { s.flink with frames := [f], strobed := [104, 103] } }
/-- A lane set. -/
def lane3 (x : Lane) : State := live.setLane 3 x
/-- The Ivdon ports in service. -/
def ring (s : State) : State :=
  let s := on [19] s
  { s with ivdon := { s.ivdon with epoch := 5, ports := (List.range 4).map (fun i => (i, { st := 2 })) } }

/-! ### Booleans for the hypotheses -/

/-- The invariant's parts, decided. -/
def invB (s : State) : Bool :=
  kwf regReset s.regs && kwf regReset s.force && kwf bellFactory s.bells && decide (s.rails ≤ 127) &&
    decide ((s.host.cmds.map (·.n) ++ [s.host.nextCmd]).Pairwise (· < ·)) && decide ((s.stripes.map (·.ord) ++ [s.stripeOrd + 1]).Pairwise (· < ·)) &&
    decide (s.log.recs.length ≤ 16384) && decide (s.audit.pool.length ≤ 32768)

theorem inv_of (s : State) (h : invB s = true) : s.Inv := by
  simp only [invB, Bool.and_eq_true, decide_eq_true_eq] at h
  obtain ⟨⟨⟨⟨⟨⟨⟨a, b⟩, c⟩, d⟩, e⟩, f⟩, g⟩, i⟩ := h
  exact ⟨a, b, c, d, e, f, g, i⟩

/-- A computation that ends in a value. -/
def okB {ε α : Type} [DecidableEq α] (e : Except ε α) (x : α) : Bool :=
  match e with | .ok y => decide (y = x) | .error _ => false

theorem ok_of {ε α : Type} [DecidableEq α] (e : Except ε α) (x : α) (h : okB e x = true) : e = .ok x := by
  unfold okB at h
  split at h
  · rw [of_decide_eq_true h]
  · cases h

/-- A computation that ends in an error. -/
def errB {ε α : Type} [DecidableEq ε] (e : Except ε α) (x : ε) : Bool :=
  match e with | .error y => decide (y = x) | .ok _ => false

theorem err_of {ε α : Type} [DecidableEq ε] (e : Except ε α) (x : ε) (h : errB e x = true) : e = .error x := by
  unfold errB at h
  split at h
  · rw [of_decide_eq_true h]
  · cases h

/-- Whether an outcome is a next state. -/
def isNext (o : Host.Outcome State Fault Refusal) : Bool := match o with | .next _ => true | _ => false
/-- That state, or another. -/
def nextOr (o : Host.Outcome State Fault Refusal) (d : State) : State := match o with | .next t => t | _ => d

theorem next_of (o : Host.Outcome State Fault Refusal) (d : State) (h : isNext o = true) : o = .next (nextOr o d) := by
  cases o <;> first | rfl | cases h

def late : State := { up with clock := { up.clock with frac := 1000000000 * 2 ^ 32 - 1 } }
def staged : State := { up with fold := { up.fold with slots := [(0, { svn := 5, committed := true }), (1, { committed := true })] } }
def owned : State := { up with fold := { up.fold with ownerKey := some 6, nonce := some 5, tamperHold := true } }
def queued : State := on [7] (cmds [] up)
def belled : State := { queued with host := { queued.host with visible := [(0, false)] } }
def owing : State := { up with host := { up.host with queues := [(0, { ctrl := 0x80000003, unsignalled := 2 })] } }
def opening : State := cmds [cmd 1 1] up
def keyCmd : Cmd := { cmd 1 2 with len := 4 }
def keying : State := cmds [keyCmd] (job up)
def tabCmd : Cmd := { cmd 1 4 0xA06 with len := 1024 }
def tabling : State := cmds [tabCmd] (job up)
def lockCmd : Cmd := { cmd 1 4 0xA05 with len := 8 }
def locked : State := cmds [lockCmd] live
def armed : Cmd := { acted 1 0xD with arg0 := 5 }
def disarm : Cmd := { cmd 2 0xD with flags := 1 }
def tracing : State := { cmds [armed, disarm] up with trace := { st := 1, cmd := 1, trigger := 5 } }
def flushing : State := { cmds [cmd 1 0xB, cmd 2 0x0C] up with ctxs := [(6, { st := 1, mode := 1, purp := 1 })] }
def arming : State := { cmds [cmd 1 0xD] up with trace := { st := 3 } }
def closing : State := cmds [cmd 1 0xE] live
def busy : State := cmds [cmd 1 0xE] writing

theorem meets_IdleStepTicks :
    up.pending = [] ∧
    up.power = Power.day ∧
    up.booted = true ∧
    up.clock.frac + up.clockInc < 1000000000 * 2 ^ 32 ∧
    late.pending = [] ∧
    late.power = Power.day ∧
    late.booted = true ∧
    1000000000 * 2 ^ 32 ≤ late.clock.frac + late.clockInc := by
  refine ⟨?_, ?_, ?_, ?_, ?_, ?_, ?_, ?_⟩ <;> decide +kernel

theorem meets_PlainRegisterWrite :
    R.LANTERN_LEAD_WAKE % 4 = 0 ∧
    pageOf R.LANTERN_LEAD_WAKE ≤ 28 ∧
    256 ≤ offOf R.LANTERN_LEAD_WAKE ∧
    engineOf R.LANTERN_LEAD_WAKE = none ∧
    groupOf R.LANTERN_LEAD_WAKE = none ∧
    99 < 2 ^ 32 ∧
    up.ownWrite Origin.operator R.LANTERN_LEAD_WAKE 99 = none ∧
    up.permit Origin.operator R.LANTERN_LEAD_WAKE 99 = Except.ok up ∧
    up.echoAbsent R.LANTERN_LEAD_WAKE (newValue R.LANTERN_LEAD_WAKE (up.rd R.LANTERN_LEAD_WAKE) 99) = false ∧
    up.outOfRange R.LANTERN_LEAD_WAKE (newValue R.LANTERN_LEAD_WAKE (up.rd R.LANTERN_LEAD_WAKE) 99) = false ∧
    up.auditFull = false ∧
    lockable R.LANTERN_LEAD_WAKE = true ∧
    newValue R.LANTERN_LEAD_WAKE (up.rd R.LANTERN_LEAD_WAKE) 99 ≠ up.rd R.LANTERN_LEAD_WAKE ∧
    BitVec.toNat (regReset R.LANTERN_LEAD_WAKE) < 2 ^ 32 ∧
    up.ownWrite Origin.operator R.LANTERN_LEAD_WAKE (BitVec.toNat (regReset R.LANTERN_LEAD_WAKE)) = none ∧
    up.permit Origin.operator R.LANTERN_LEAD_WAKE (BitVec.toNat (regReset R.LANTERN_LEAD_WAKE)) = Except.ok up ∧
    up.echoAbsent R.LANTERN_LEAD_WAKE (newValue R.LANTERN_LEAD_WAKE (up.rd R.LANTERN_LEAD_WAKE) (BitVec.toNat (regReset R.LANTERN_LEAD_WAKE))) = false ∧
    up.outOfRange R.LANTERN_LEAD_WAKE (newValue R.LANTERN_LEAD_WAKE (up.rd R.LANTERN_LEAD_WAKE) (BitVec.toNat (regReset R.LANTERN_LEAD_WAKE))) = false ∧
    newValue R.LANTERN_LEAD_WAKE (up.rd R.LANTERN_LEAD_WAKE) (BitVec.toNat (regReset R.LANTERN_LEAD_WAKE)) = up.rd R.LANTERN_LEAD_WAKE := by
  refine ⟨?_, ?_, ?_, ?_, ?_, ?_, ?_, ok_of _ _ ?_, ?_, ?_, ?_, ?_, ?_, ?_, ?_, ok_of _ _ ?_, ?_, ?_, ?_⟩ <;> decide +kernel

theorem meets_BarredWritesDiscarded :
    118784 % 4 = 0 ∧
    5 < 2 ^ 32 ∧
    engineOf 118784 = none ∧
    118784 ≠ R.SYS_DEVICE_RESET ∧
    (pageOf 118784 > 28 ∨ offOf 118784 ≥ 256 ∧ writable 118784 = false ∧ up.ownWrite Origin.operator 118784 5 = none ∨ (up.power = Power.night ∨ up.booted = false ∨ up.fatal ≠ 0) ∧ up.ownWrite Origin.operator 118784 5 = none ∧ offOf 118784 ≥ 256) := by
  refine ⟨?_, ?_, ?_, ?_, ?_⟩ <;> decide +kernel

theorem meets_MailboxAnswers :
    up.mbServed ∧
    9 ≤ 28 ∧
    256 < 4096 ∧
    256 % 4 = 0 ∧
    (List.replicate 32 1).length = 32 ∧
    List.replicate 32 1 ≠ [] ∧
    3 + (List.replicate 32 1).length ≤ 4194304 ∧
    (up.fwSlot up.fold.running).svn < 3 ∧
    256 < up.logFree ∧
    up.fold.ownerKey = none ∧
    staged.mbServed ∧
    1 ≤ 1 ∧
    (1 = staged.fold.running ∨ (staged.fwSlot 1).committed = true) ∧
    staged.bell 2 < 1 ∧
    1 < 2 ^ 32 ∧
    1 ≤ (staged.fwSlot staged.fold.running).svn ∧
    (List.filter (staged.bellStuck 2) (List.range 3)).length < 2 ∧
    staged.bellStuck 2 2 = false ∧
    owned.mbServed ∧
    owned.fold.ownerKey = some 6 ∧
    256 < owned.logFree := by
  unfold State.mbServed
  refine ⟨?_, ?_, ?_, ?_, ?_, ?_, ?_, ?_, ?_, ?_, ?_, ?_, ?_, ?_, ?_, ?_, ?_, ?_, ?_, ?_, ?_⟩ <;> decide +kernel

theorem meets_DoorbellsAct :
    queued.power = Power.day ∧
    queued.phase = 0 ∧
    queued.booted = true ∧
    queued.fatal = 0 ∧
    0 ≤ 63 ∧
    (queued.queue 0).en = true ∧
    3 < (queued.queue 0).size ∧
    4 < 2 ^ 32 ∧
    256 < queued.logFree ∧
    ((queued.queue 0).en = false ∨ (queued.queue 0).size ≤ 4) ∧
    queued.evqSize ≤ 4 ∧
    (owing.queue 0).unsignalled ≠ 0 := by
  refine ⟨?_, ?_, ?_, ?_, ?_, ?_, ?_, ?_, ?_, ?_, ?_, ?_⟩ <;> decide +kernel

theorem meets_CommandStarts :
    belled.Inv ∧
    belled.nextSq = some (0, false) ∧
    ([14 + 40 * 2 ^ 16, 7] ++ List.replicate 14 0).length = 16 ∧
    belled.fatal = 0 ∧
    (fieldUse (cmdOf belled.host.nextCmd 0 (((belled.queue 0).sqHead + 1) % (belled.queue 0).size) ([14 + 40 * 2 ^ 16, 7] ++ List.replicate 14 0)).opcode = some { job := true, flags := 1 }) ∧
    ((cmdOf belled.host.nextCmd 0 (((belled.queue 0).sqHead + 1) % (belled.queue 0).size) ([14 + 40 * 2 ^ 16, 7] ++ List.replicate 14 0)).formOk { job := true, flags := 1 } ([14 + 40 * 2 ^ 16, 7] ++ List.replicate 14 0) = true) ∧
    2 ≤ startLimit false ∧
    2 < 65536 ∧
    startLimit false < 60000 ∧
    256 < belled.logFree ∧
    ([119, 7] ++ List.replicate 14 0).length = 16 ∧
    fieldUse (cmdOf belled.host.nextCmd 0 (((belled.queue 0).sqHead + 1) % (belled.queue 0).size) ([119, 7] ++ List.replicate 14 0)).opcode = none ∧
    ([14 + 40 * 2 ^ 16, 7, 9] ++ List.replicate 13 1).length = 16 ∧
    (fieldUse (cmdOf belled.host.nextCmd 0 (((belled.queue 0).sqHead + 1) % (belled.queue 0).size) ([14 + 40 * 2 ^ 16, 7, 9] ++ List.replicate 13 1)).opcode = some { job := true, flags := 1 }) ∧
    ((cmdOf belled.host.nextCmd 0 (((belled.queue 0).sqHead + 1) % (belled.queue 0).size) ([14 + 40 * 2 ^ 16, 7, 9] ++ List.replicate 13 1)).formOk { job := true, flags := 1 } ([14 + 40 * 2 ^ 16, 7, 9] ++ List.replicate 13 1) = false) := by
  refine ⟨inv_of _ ?_, ?_, ?_, ?_, ?_, ?_, ?_, ?_, ?_, ?_, ?_, ?_, ?_, ?_, ?_⟩ <;> decide +kernel

theorem meets_JobOpens :
    opening.Inv ∧
    opening.begun 1 1 = some (cmd 1 1) := by
  refine ⟨inv_of _ ?_, ?_⟩ <;> decide +kernel

theorem meets_JobsTakeKeysAndTables :
    keying.Inv ∧
    keying.begun 1 2 = some keyCmd ∧
    bufFits keyCmd (some (List.replicate 4 0)) = true ∧
    keying.slotOf keyCmd.jobId = some 0 ∧
    (keying.job 0).status = 1 ∧
    (keying.job 0).key = none ∧
    keying.auditFull = false ∧
    tabling.Inv ∧
    tabling.begun 1 4 = some tabCmd ∧
    bufFits tabCmd (some (List.replicate 1024 0)) = true ∧
    2560 ≤ tabCmd.sel ∧
    tabCmd.sel ≤ 2567 ∧
    tabling.slotOf tabCmd.jobId = some 0 ∧
    (tabling.job 0).status = 1 ∧
    tabling.auditFull = false ∧
    (tabling.job 0).penLocked = false ∧
    (tabling.job 0).penumbraForm tabCmd.sel (List.replicate 1024 0) = true ∧
    locked.Inv ∧
    locked.begun 1 4 = some lockCmd ∧
    bufFits lockCmd (some (List.replicate 8 0)) = true ∧
    2560 ≤ lockCmd.sel ∧
    lockCmd.sel ≤ 2567 ∧
    locked.slotOf lockCmd.jobId = some 0 ∧
    (locked.job 0).status = 1 ∧
    locked.auditFull = false ∧
    (locked.job 0).penLocked = true := by
  refine ⟨inv_of _ ?_, ?_, ?_, ?_, ?_, ?_, ?_, inv_of _ ?_, ?_, ?_, ?_, ?_, ?_, ?_, ?_, ?_, ?_, inv_of _ ?_, ?_, ?_, ?_, ?_, ?_, ?_, ?_, ?_⟩ <;> decide +kernel

theorem meets_FenceHolds :
    (cmds [cmd 1 14, cmd 2 12] up).Inv ∧
    (cmds [cmd 1 14, cmd 2 12] up).begun 2 12 = some (cmd 2 12) ∧
    (∃ x ∈ (cmds [cmd 1 14, cmd 2 12] up).host.cmds, x.sq = (cmd 2 12).sq ∧ x.n < 2) ∧
    (cmds [cmd 1 12, cmd 2 14] up).Inv ∧
    (cmds [cmd 1 12, cmd 2 14] up).begun 1 12 = some (cmd 1 12) ∧
    (∀ x ∈ (cmds [cmd 1 12, cmd 2 14] up).host.cmds, x.sq = (cmd 1 12).sq → 1 ≤ x.n) := by
  refine ⟨inv_of _ ?_, ?_, ?_, inv_of _ ?_, ?_, ?_⟩ <;> decide +kernel

theorem meets_FlushAndTrace :
    (cmds [cmd 1 11, cmd 2 12] up).Inv ∧
    (cmds [cmd 1 11, cmd 2 12] up).begun 1 11 = some (cmd 1 11) ∧
    (∀ x ∈ (cmds [cmd 1 11, cmd 2 12] up).host.cmds, flushCounts (cmd 1 11).arg0 (cmd 1 11).sq x = true → 1 ≤ x.n) ∧
    (∀ x ∈ (cmds [cmd 1 11, cmd 2 12] up).ctxs, x.2.unflushed 1 = false) ∧
    flushing.Inv ∧
    flushing.begun 1 11 = some (cmd 1 11) ∧
    (∀ x ∈ flushing.host.cmds, flushCounts (cmd 1 11).arg0 (cmd 1 11).sq x = true → 1 ≤ x.n) ∧
    (∃ x ∈ flushing.ctxs, x.2.unflushed 1 = true) ∧
    (cmds [cmd 1 13] up).Inv ∧
    (cmds [cmd 1 13] up).begun 1 13 = some (cmd 1 13) ∧
    (cmd 1 13).flags % 2 = 0 ∧
    ((cmds [cmd 1 13] up).trace.st = 0 ∨ (cmds [cmd 1 13] up).trace.st = 4) ∧
    (cmd 1 13).arg1 ≤ 100 ∧
    arming.Inv ∧
    arming.begun 1 13 = some (cmd 1 13) ∧
    (1 ≤ arming.trace.st ∧ arming.trace.st ≤ 3) ∧
    tracing.Inv ∧
    tracing.begun 2 13 = some disarm ∧
    disarm.flags % 2 = 1 ∧
    tracing.trace.st = 1 ∧
    tracing.trace.trigger ≠ 0 ∧
    tracing.cmd? tracing.trace.cmd = some armed ∧
    armed.done = none := by
  refine ⟨inv_of _ ?_, ?_, ?_, ?_, inv_of _ ?_, ?_, ?_, ?_, inv_of _ ?_, ?_, ?_, ?_, ?_, inv_of _ ?_, ?_, ?_, inv_of _ ?_, ?_, ?_, ?_, ?_,
    ?_, ?_⟩ <;> decide +kernel

theorem meets_JobCloses :
    closing.Inv ∧
    closing.begun 1 14 = some (cmd 1 14) ∧
    closing.slotOf (cmd 1 14).jobId = some 0 ∧
    (closing.job 0).reqs = [] ∧
    (∀ x ∈ closing.host.cmds, x.opcode = 14 → x.ran = false) ∧
    (∀ x ∈ closing.stripes, x.slot ≠ 0) ∧
    closing.auditFull = false ∧
    (closing.job 0).key ≠ none ∧
    busy.Inv ∧
    busy.begun 1 14 = some (cmd 1 14) ∧
    busy.slotOf (cmd 1 14).jobId = some 0 ∧
    (busy.job 0).reqs = [] ∧
    (∀ x ∈ busy.host.cmds, x.opcode = 14 → x.ran = false) ∧
    (∃ x ∈ busy.stripes, x.slot = 0 ∧ x.st ≠ StripeSt.armWait) ∧
    (busy.job 0).status = 1 ∧
    (cmd 1 14).flags % 2 = 0 := by
  refine ⟨inv_of _ ?_, ?_, ?_, ?_, ?_, ?_, ?_, ?_, inv_of _ ?_, ?_, ?_, ?_, ?_, ?_, ?_, ?_⟩ <;> decide +kernel

def recs3 : StripeRec := ⟨3, 0, 0, 0, 128, 0, 0⟩
def walk3 : Walk := match live.walk 0 3 with | .ok w => w | _ => {}
def arm : State := cmds [cmd 1 5] live
def other (st : StripeSt) (id ord r : Nat) : Stripe := { stripe st with id, ord, ring := some r, mapSet := some r }
def full : State := cmds [cmd 1 5] (run [other .armed 2 4 0, other .armed 1 5 1] live)
def waitSt : Stripe := { stripe .armWait with armCmd := 1, ring := none, mapSet := none }
def armWaits : State := cmds [acted 1 5] (run [waitSt] live)
def going : State := cmds [cmd 1 6] (run [stripe .armed] live)
def gone : State := cmds [cmd 1 6] writing
def aborting : State := cmds [cmd 1 7] (run [stripe .armed] live)
def tracked : State := cmds [cmd 1 8] writing
def stilled : State := { tracked with drover := { tracked.drover with st := 3 } }
def waits : Stripe := { stripe .waiting with blocks := [1], bandsDone := 2, staged := 2, prepass := 4, goCmd := 1 }
def starts : State := at' (-10000000) (cmds [acted 1 6] (run [waits] live))
def ruled : State := { live with dtabs := [(0x0C01, [255, 255])] }
def held : Stripe := { wr with st := .contained, ckpt := 3, held := 5, ckptMode := ruled.modeMark }
def resumes : State := at' (-10000000) (cmds [cmd 1 9] (run [held] ruled))
def moded : Stripe := { held with ckptMode := [] }
def refused : State := at' (-10000000) (cmds [cmd 1 9] (run [moded] live))
def entry (row col target : Nat) : List Byte := leBytes 4 row ++ leBytes 4 col ++ leBytes 4 target ++ leBytes 4 0
def patches : List Byte := entry 1 2 5 ++ entry 70 3 6
def badPatches : List Byte := entry 1 2 5 ++ entry 170 3 6
def passCmd : Cmd := { cmd 1 0xA with len := 32 }
def passes : State := cmds [passCmd] { live with job0 := { live.job0 with ended := [3], recs := [recs3] } }
def ctx2 (st given space : Nat) : Ctx := { st, inp := geoBlock 3, given, space, block := 1 }
def decodes (x : Ctx) : State := { live with ctxs := [(2, x)], codecEng := { dec := [2] } }
def decoded : List Byte := match (ctx2 1 1000 1000).decode with | .done o => o | _ => []
def short : Dec := match (ctx2 1 40 1000).decode with | .needInput d => d | _ => ⟨[], 0, [], 0, 0, 0⟩
def tight : Dec × Nat × Nat := match (ctx2 1 1000 20).decode with | .needSpace d a b => (d, a, b) | _ => (⟨[], 0, [], 0, 0, 0⟩, 0, 0)
def traceCmd : Cmd := { acted 1 0xD with len := 20, addr := 0x100 }
def codecs (x : Ctx) : State :=
  { cmds [traceCmd] live with trace := { st := 3, cmd := 1 }, ctxs := [(6, x)], codecEng := { comp := [6], ver := [6] },
                              sram := { live.sram with filled := 0x3FF } }
def exporting (mode st : Nat) (inp : List Byte) : Ctx := { mode, st, inp, given := 100, space := 1000, purp := 1, out := unit inp }
def flushed (inp : List Byte) : List Byte :=
  (unit inp).take 16 ++ [0] ++ leBytes 2 inp.length ++ leBytes 2 (65535 - inp.length) ++ inp ++ [0, 0, 0, 255, 255]
def tiling : Stripe := { stripe .armed with blocks := [1], prepass := 4 }
def tiles : State := awake (run [tiling] live)
def redoing : Stripe := { tiling with requests := [(0, 5, 9)] }
def redo : State := awake (run [redoing] live)
def first (n : Nat) : Stripe := { stripe .armed with id := 0, blocks := [1], prepass := n, srec := ⟨0, 0, 0, 0, 128, 0, 0⟩ }
def pre (n : Nat) : State := awake (run [first n] { geo 0 1 with frames := [(0, { geoFrame 0 with opened := true })] })
def storedBands : State :=
  { pre 3 with mapBands := (List.range (first 3).srec.bands).foldl (fun m b => kput m (bandKey 0 b) [1]) [] }
def complete : Stripe := { wr with staged := 0 }
def damaged' : Stripe := { complete with requests := [(1, 3, 4)] }
def bands : State := run [complete] live
def strayHeld : Stripe := { wr with st := .contained }
def contained : State := run [strayHeld] live
def due : Stripe := { wr with nextCycle := 0 }
def missing : State := { run [due] live with drover := { live.drover with k := 0 } }
def staged0 : State := { missing with staging := [(stageKey 1 0, [(96, pixelWord 3 96 0 30)])] }
def listed : DefList := { ord := 1, id := 3, pass := 0, state := 0, base := 0x100000000, lastRow := none, entries := [] }
def leaving : PixRow := ⟨1, 3, 5, [(7, pixelWord 3 7 5 60), (9, pixelWord 3 9 5 1)]⟩
def exits : State :=
  { writing with job0 := { live.job0 with lists := [listed] }, hold := [leaving], drover := { writing.drover with k := 20000 } }

theorem meets_StripeArms :
    arm.Inv ∧
    arm.begun 1 5 = some (cmd 1 5) ∧
    arm.slotOf (cmd 1 5).jobId = some 0 ∧
    (arm.job 0).status = 1 ∧
    (∀ f ∈ arm.blocksOf 0 (cmd 1 5).sel, f.failed < 2) ∧
    arm.armChecks 0 (cmd 1 5).sel = Except.ok () ∧
    arm.walk 0 (cmd 1 5).sel = Except.ok walk3 ∧
    walk3.srec = some recs3 ∧
    (∀ y ∈ arm.stripes, y.st ≠ StripeSt.armWait) ∧
    arm.freeRing = some 0 ∧
    arm.freeMap = some 0 ∧
    full.Inv ∧
    full.begun 1 5 = some (cmd 1 5) ∧
    full.slotOf (cmd 1 5).jobId = some 0 ∧
    (full.job 0).status = 1 ∧
    (∀ f ∈ full.blocksOf 0 (cmd 1 5).sel, f.failed < 2) ∧
    full.armChecks 0 (cmd 1 5).sel = Except.ok () ∧
    full.walk 0 (cmd 1 5).sel = Except.ok walk3 ∧
    (full.freeRing = none ∨ full.freeMap = none) ∧
    (∀ y ∈ full.stripes, y.st = StripeSt.armWait → y.pass = 0) ∧
    armWaits.Inv ∧
    armWaits.fatal = 0 ∧
    armWaits.cmd? 1 = some (acted 1 5) ∧
    (acted 1 5).done = none ∧
    ((sortBy (fun (x : Stripe) => x.ord) (List.filter (fun (t : Stripe) => decide (t.st = StripeSt.armWait)) armWaits.stripes)).head? = some waitSt) ∧
    waitSt.armCmd = 1 ∧
    waitSt.pass = 0 ∧
    armWaits.freeRing = some 0 ∧
    armWaits.freeMap = some 0 := by
  refine ⟨inv_of _ ?_, ?_, ?_, ?_, ?_, ok_of _ _ ?_, ok_of _ _ ?_, ?_, ?_, ?_, ?_, inv_of _ ?_, ?_, ?_, ?_, ?_, ok_of _ _ ?_, ok_of _ _ ?_,
    ?_, ?_, inv_of _ ?_, ?_, ?_, ?_, ?_, ?_, ?_, ?_, ?_⟩ <;> decide +kernel

theorem meets_StripesGoAndStop :
    going.Inv ∧
    going.begun 1 6 = some (cmd 1 6) ∧
    going.slotOf (cmd 1 6).jobId = some 0 ∧
    (going.job 0).status = 1 ∧
    going.goStripe 0 (cmd 1 6) = some (stripe StripeSt.armed) ∧
    gone.Inv ∧
    gone.begun 1 6 = some (cmd 1 6) ∧
    gone.slotOf (cmd 1 6).jobId = some 0 ∧
    (gone.job 0).status = 1 ∧
    gone.goStripe 0 (cmd 1 6) = none ∧
    aborting.Inv ∧
    aborting.begun 1 7 = some (cmd 1 7) ∧
    aborting.slotOf (cmd 1 7).jobId = some 0 ∧
    (aborting.job 0).status = 1 ∧
    aborting.named 0 (cmd 1 7).sel = some (stripe StripeSt.armed) ∧
    (stripe StripeSt.armed).st = StripeSt.armed ∧
    (stripe StripeSt.armed).ckpt = 0 ∧
    (stripe StripeSt.armed).ckptCmds = [] ∧
    (stripe StripeSt.armed).aborts = [] ∧
    (aborting.job 0).reqs = [] ∧
    aborting.strayPend = [] ∧
    aborting.strayHeld = [] ∧
    tracked.Inv ∧
    tracked.begun 1 8 = some (cmd 1 8) ∧
    tracked.slotOf (cmd 1 8).jobId = some 0 ∧
    (tracked.job 0).status = 1 ∧
    tracked.named 0 (cmd 1 8).sel = some wr ∧
    wr.st = StripeSt.writing ∧
    tracked.drover.st ≠ 3 ∧
    tracked.drover.st ≠ 4 ∧
    stilled.Inv ∧
    stilled.begun 1 8 = some (cmd 1 8) ∧
    stilled.slotOf (cmd 1 8).jobId = some 0 ∧
    (stilled.job 0).status = 1 ∧
    stilled.named 0 (cmd 1 8).sel = some wr ∧
    (stilled.drover.st = 3 ∨ stilled.drover.st = 4) ∧
    stilled.active = some wr := by
  refine ⟨inv_of _ ?_, ?_, ?_, ?_, ?_, inv_of _ ?_, ?_, ?_, ?_, ?_, inv_of _ ?_, ?_, ?_, ?_, ?_, ?_, ?_, ?_, ?_, ?_, ?_, ?_, inv_of _ ?_,
    ?_, ?_, ?_, ?_, ?_, ?_, ?_, inv_of _ ?_, ?_, ?_, ?_, ?_, ?_, ?_⟩ <;> decide +kernel

theorem meets_StripeTakesEffect :
    starts.Inv ∧
    (starts.see still).firstWaiting = some waits ∧
    (starts.see still).startReady waits = true ∧
    (starts.see still).profileReady waits = true ∧
    (starts.see still).epochOk = true ∧
    (starts.see still).lanesShort = false ∧
    (starts.see still).startsBefore waits = true := by
  refine ⟨inv_of _ ?_, ?_, ?_, ?_, ?_, ?_, ?_⟩ <;> decide +kernel

set_option maxRecDepth 1000000 in
theorem meets_ResumeRestores :
    resumes.Inv ∧
    resumes.begun 1 9 = some (cmd 1 9) ∧
    resumes.slotOf (cmd 1 9).jobId = some 0 ∧
    (resumes.job 0).status = 1 ∧
    resumes.named 0 (cmd 1 9).sel = some held ∧
    held.st = StripeSt.contained ∧
    held.ckpt = 3 ∧
    refused.Inv ∧
    refused.begun 1 9 = some (cmd 1 9) ∧
    refused.slotOf (cmd 1 9).jobId = some 0 ∧
    (refused.job 0).status = 1 ∧
    refused.named 0 (cmd 1 9).sel = some moded ∧
    moded.st = StripeSt.contained ∧
    moded.ckpt = 3 ∧
    (refused.see still).resumeChecks moded = some Code.CKPT_MODE_CHANGED := by
  refine ⟨inv_of _ ?_, ?_, ?_, ?_, ?_, ?_, ?_, inv_of _ ?_, ?_, ?_, ?_, ?_, ?_, ?_, ?_⟩ <;> decide +kernel

theorem meets_PatchPassArms :
    passes.Inv ∧
    passes.begun 1 10 = some passCmd ∧
    bufFits passCmd (some patches) = true ∧
    passes.slotOf passCmd.jobId = some 0 ∧
    (passes.job 0).status = 1 ∧
    passes.passChecks 0 passCmd.sel = Except.ok recs3 ∧
    patchOk recs3.rows passes.width patches = true ∧
    (kget (fun (x : ℕ) => 0) (passes.job 0).passes passCmd.sel < 255) ∧
    (∀ y ∈ passes.stripes, y.st ≠ StripeSt.armWait) ∧
    passes.freeRing = some 0 ∧
    bufFits passCmd (some badPatches) = true ∧
    patchOk recs3.rows passes.width badPatches = false := by
  refine ⟨inv_of _ ?_, ?_, ?_, ?_, ?_, ok_of _ _ ?_, ?_, ?_, ?_, ?_, ?_, ?_⟩ <;> decide +kernel

theorem meets_CodecWorks :
    2 ≤ 3 ∧
    live.enabled 8 = true ∧
    live.frameOf 0 1 = some (0, geoFrame 3) ∧
    (geoFrame 3).failed < 2 ∧
    live.fatal = 0 ∧
    ((live.ctx 2).st = 0 ∨ (live.ctx 2).st = 4 ∨ (live.ctx 2).st = 5) ∧
    2 ≤ 7 ∧
    (decodes (ctx2 1 1000 1000)).codecEng.dec.contains 2 = true ∧
    ((decodes (ctx2 1 1000 1000)).ctx 2).st = 1 ∧
    ((decodes (ctx2 1 1000 1000)).ctx 2).mode = 0 ∧
    (decodes (ctx2 1 1000 1000)).fatal = 0 ∧
    (decodes (ctx2 1 1000 1000)).clockHeld = false ∧
    ((decodes (ctx2 1 1000 1000)).ctx 2).decode = DecRes.done decoded ∧
    (decodes (ctx2 1 40 1000)).codecEng.dec.contains 2 = true ∧
    ((decodes (ctx2 1 40 1000)).ctx 2).st = 1 ∧
    ((decodes (ctx2 1 40 1000)).ctx 2).mode = 0 ∧
    (decodes (ctx2 1 40 1000)).fatal = 0 ∧
    (decodes (ctx2 1 40 1000)).clockHeld = false ∧
    ((decodes (ctx2 1 40 1000)).ctx 2).decode = DecRes.needInput short ∧
    (decodes (ctx2 1 1000 20)).codecEng.dec.contains 2 = true ∧
    ((decodes (ctx2 1 1000 20)).ctx 2).st = 1 ∧
    ((decodes (ctx2 1 1000 20)).ctx 2).mode = 0 ∧
    (decodes (ctx2 1 1000 20)).fatal = 0 ∧
    (decodes (ctx2 1 1000 20)).clockHeld = false ∧
    ((decodes (ctx2 1 1000 20)).ctx 2).decode = DecRes.needSpace tight.1 tight.2.1 tight.2.1 ∧
    (((decodes (ctx2 2 40 1000)).ctx 2).st = 2 ∨ ((decodes (ctx2 2 40 1000)).ctx 2).st = 3) ∧
    (((decodes (ctx2 2 40 1000)).ctx 2).mode = 1 → ((decodes (ctx2 2 40 1000)).ctx 2).pend = false) ∧
    (decodes (ctx2 2 40 1000)).fatal = 0 ∧
    (6 = 6 ∨ 6 = 7) ∧
    (codecs (exporting 1 1 [5])).codecOn = true ∧
    ((codecs (exporting 1 1 [5])).ctx 6).mode = 1 ∧
    ((codecs (exporting 1 1 [5])).ctx 6).st = 1 ∧
    (codecs (exporting 1 1 [5])).codecEng.comp.contains 6 = true ∧
    ((codecs (exporting 1 1 [5])).ctx 6).inp.length ≤ ((codecs (exporting 1 1 [5])).ctx 6).given ∧
    (unit [5]).length ≤ ((codecs (exporting 1 1 [5])).ctx 6).space ∧
    ((codecs (exporting 1 1 [5])).ctx 6).mayMake (unit [5]) = true ∧
    (codecs (exporting 2 1 [5])).Inv ∧
    (codecs (exporting 2 1 [5])).codecOn = true ∧
    ((codecs (exporting 2 1 [5])).ctx 6).mode = 2 ∧
    ((codecs (exporting 2 1 [5])).ctx 6).st = 1 ∧
    (codecs (exporting 2 1 [5])).codecEng.ver.contains 6 = true ∧
    ((codecs (exporting 2 1 [5])).ctx 6).purp = 1 ∧
    (codecs (exporting 2 1 [5])).cmd? (codecs (exporting 2 1 [5])).trace.cmd = some traceCmd ∧
    traceCmd.done = none ∧
    decodeUnit ((codecs (exporting 2 1 [5])).ctx 6).out true ((codecs (exporting 2 1 [5])).ctx 6).space = DecRes.done ((codecs (exporting 2 1 [5])).ctx 6).inp ∧
    ((codecs       ({ exporting 1 2 [5] with given := 1 })).codecOn =   true) ∧
    (((codecs           ({ exporting 1 2 [5] with given := 1 })).ctx       6).mode =   1) ∧
    (((codecs             ({ exporting 1 2 [5] with given := 1 })).ctx         6).st =     1 ∨   ((codecs             ({ exporting 1 2 [5] with given := 1 })).ctx         6).st =     2) ∧
    (((codecs             ({ exporting 1 2 [5] with given := 1 })).ctx         6).mayFlush     (flushed [5]) =   true) ∧
    (unitSoFar     ((codecs               ({ exporting 1 2 [5] with given := 1 })).ctx           6).inp.length     (codecs         ({ exporting 1 2 [5] with given := 1 })).codecWindow     (flushed [5]) =   some     (List.take       ((codecs               ({ exporting 1 2 [5] with given := 1 })).ctx           6).given       ((codecs               ({ exporting 1 2 [5] with given := 1 })).ctx           6).inp)) ∧
    (((codecs           ({ exporting 1 2 [5] with given := 1 })).ctx       6).purp =   1) ∧
    ((codecs         ({ exporting 1 2 [5] with given := 1 })).cmd?     (codecs           ({ exporting 1 2 [5] with given := 1 })).trace.cmd =   some traceCmd) ∧
    (codecs (exporting 1 3 [5])).codecOn = true ∧
    ((codecs (exporting 1 3 [5])).ctx 6).mode = 1 ∧
    ((codecs (exporting 1 3 [5])).ctx 6).st = 3 := by
  refine ⟨?_, ?_, ?_, ?_, ?_, ?_, ?_, ?_, ?_, ?_, ?_, ?_, ?_, ?_, ?_, ?_, ?_, ?_, ?_, ?_, ?_, ?_, ?_, ?_, ?_, ?_, ?_, ?_, ?_, ?_, ?_, ?_,
    ?_, ?_, ?_, ?_, inv_of _ ?_, ?_, ?_, ?_, ?_, ?_, ?_, ?_, ?_, ?_, ?_, ?_, ?_, ?_, ?_, ?_, ?_, ?_, ?_⟩ <;> decide +kernel

theorem meets_FieldFills :
    (run [tiling] live).enabled 9 = true ∧
    (run [tiling] live).anyShutdown = false ∧
    ((∃ (x : Stripe), (run [tiling] live).fieldStripe = some x ∧ x.unfilled = true ∧ x.lead ≤ (run [tiling] live).inForce R.LANTERN_LEAD_WAKE) ∨ ∃ x ∈ (run [tiling] live).stripes, x.wanted = true ∨ x.prepass = 1 ∨ x.prepass = 2) ∧
    tiles.tileStripe 0 3 = some tiling ∧
    tiles.tileReady tiling 0 0 = true ∧
    tiles.lanternReady tiling 0 0 5 false false = true ∧
    tiles.tileError tiling = none ∧
    256 < tiles.logFree ∧
    ((List.filter (fun (p : ℕ × ℕ × ℕ) => decide (p.2.2 > 1023)) (tiles.tileXs tiling 0 0)).length = 0) ∧
    redo.tileStripe 0 3 = some redoing ∧
    redoing.request? 0 5 = some (0, 5, 9) ∧
    redoing.aborting = false ∧
    redo.anyShutdown = false ∧
    redo.rerasterReady redoing 0 5 [] false false = true ∧
    redo.tileError redoing = none := by
  refine ⟨?_, ?_, ?_, ?_, ?_, ?_, ?_, ?_, ?_, ?_, ?_, ?_, ?_, ?_, ?_⟩ <;> decide +kernel

theorem meets_PrepassRuns :
    (pre 1).prepassNext = some (first 1) ∧
    (pre 1).anyShutdown = false ∧
    (pre 1).enabled 10 = true ∧
    (pre 1).neighbourError (first 1) = none ∧
    (∀ n ∈ ((pre 1).job (first 1).slot).neighbours (first 1).id, ∃ (r : StripeRec), (pre 1).firstRec (first 1).slot n = some r ∧ onGrid (first 1).srec r = true) ∧
    List.find? Stripe.prepassing (pre 2).stripes = some (first 2) ∧
    (first 2).prepass ≠ 3 ∧
    (pre 2).anyShutdown = false ∧
    (pre 2).enabled 10 = true ∧
    (pre 2).densityReady [3] [] = true ∧
    (pre 2).neighbourError (first 2) = none ∧
    (pre 2).tileError (first 2) = none ∧
    (pre 2).mapReadable (first 2) = true ∧
    List.find? Stripe.prepassing storedBands.stripes = some (first 3) ∧
    (first 3).prepass = 3 ∧
    storedBands.anyShutdown = false ∧
    storedBands.enabled 10 = true ∧
    storedBands.bandsStored (first 3) = true := by
  refine ⟨?_, ?_, ?_, ?_, ?_, ?_, ?_, ?_, ?_, ?_, ?_, ?_, ?_, ?_, ?_, ?_, ?_, ?_⟩ <;> decide +kernel

theorem meets_BandsStageAndStraysWait :
    bands.Inv ∧
    bands.bandStripe = some complete ∧
    bands.enabled 11 = true ∧
    bands.clockHeld = false ∧
    complete.staged < complete.bandsDone ∧
    bands.stageRoom = true ∧
    (∀ l ∈ complete.requests ++ complete.lostTiles, l.1 ≠ complete.staged) ∧
    5 < bands.width / 64 ∧
    256 < bands.logFree ∧
    live.permit Origin.operator R.SHEPHERD_STRAY_ADD (3 * 2 ^ 18 + 77) = Except.ok live ∧
    live.active = none ∧
    writing.permit Origin.operator R.SHEPHERD_STRAY_ADD (3 * 2 ^ 18 + 77) = Except.ok writing ∧
    writing.active = some wr := by
  refine ⟨inv_of _ ?_, ?_, ?_, ?_, ?_, ?_, ?_, ?_, ?_, ok_of _ _ ?_, ?_, ok_of _ _ ?_, ?_⟩ <;> decide +kernel

theorem meets_ShareCycleRuns :
    staged0.Inv ∧
    staged0.writing = some due ∧
    staged0.active = some due ∧
    ↑due.nextCycle ≤ staged0.drover.k + ↑staged0.leadL ∧
    due.nextCycle ≤ due.lastFlash ∧
    staged0.fieldMissing due due.nextCycle = false ∧
    staged0.hold.length < 16 ∧
    staged0.strayPend = [] ∧
    due.firstRow ≤ due.nextCycle ∧
    due.nextCycle < due.endRow ∧
    missing.Inv ∧
    missing.writing = some due ∧
    missing.active = some due ∧
    ↑due.nextCycle ≤ missing.drover.k + ↑missing.leadL ∧
    missing.fieldMissing due due.nextCycle = true ∧
    (∀ l ∈ due.lostTiles, l.1 ≠ due.nextCycle / 64) := by
  refine ⟨inv_of _ ?_, ?_, ?_, ?_, ?_, ?_, ?_, ?_, ?_, ?_, inv_of _ ?_, ?_, ?_, ?_, ?_, ?_⟩ <;> decide +kernel

theorem meets_ExitCheckLists :
    exits.Inv ∧
    exits.hold.head? = some leaving ∧
    exits.headReady = true ∧
    exits.fatal = 0 ∧
    exits.containedS = none ∧
    ((exits.applyFor fun (a : Carry) => decide (a.ord = leaving.ord) && decide (exits.carryRow a = some leaving.row)).hold.head? = some leaving) ∧
    ((exits.applyFor fun (a : Carry) => decide (a.ord = leaving.ord) && decide (exits.carryRow a = some leaving.row)).byOrd leaving.ord = some wr) ∧
    wr.aborting = false ∧
    (wr.st = StripeSt.writing ∨ wr.st = StripeSt.draining ∧ leaving.row + 1 < wr.endRow) ∧
    ((exits.applyFor fun (a : Carry) => decide (a.ord = leaving.ord) && decide (exits.carryRow a = some leaving.row)).list? wr = some listed) ∧
    (listed.entries.length + ((exits.applyFor fun (a : Carry) => decide (a.ord = leaving.ord) && decide (exits.carryRow a = some leaving.row)).exitEntries wr leaving { }).length ≤ 65536) ∧
    (Option.map (fun (x : Stripe) => x.ord) (exits.applyFor fun (a : Carry) => decide (a.ord = leaving.ord) && decide (exits.carryRow a = some leaving.row)).checking = some wr.ord) := by
  refine ⟨inv_of _ ?_, ?_, ?_, ?_, ?_, ?_, ?_, ?_, ?_, ?_, ?_, ?_⟩ <;> decide +kernel

def unsent : LinkFrame := { frm with sent := false }
def sends : State := fly unsent writing
def laneDown : State := sends.setLane 2 { st := 1 }
def flies : State := fly frm writing
def sentOnly : State := { flies with flink := { flies.flink with strobed := [103] } }
def owedReplay : State := flies.setLane 2 { st := 7, due := [(104, 9)] }
def silent : State := flies.setLane 2 { st := 7, naksRow := 7, silentRow := 1 }
def half (n : Nat) : LinkFrame := { frm with latched := some (2, n) }
def echoes : LinkFrame := { frm with echoReq := true }
def again (n : Nat) : LinkFrame := { frm with again := n }
def halfFlies (n : Nat) : State := fly (half n) writing
def echoFlies : State := fly echoes writing
def againFlies (n : Nat) : State := fly (again n) writing
def sensing : State := { live with flink := { live.flink with lanes := (List.range 64).map (fun l => (l, { st := 7, caps0 := 40 * 2 ^ 18 })) } }
def sensed : State := { sensing with flink := { sensing.flink with sensors := [(3, some 5)] } }
def able : Nat := 2 ^ 38 * 15 + 5 * 2 ^ 35 + 15 * 2 ^ 31
def reach (s : State) : State := at' 66000 s
def near (s : State) : State := at' 65000 s
def far (s : State) : State := at' 660000 s
def fired : State := { flies with drover := { flies.drover with unconfirmed := [104, 103] } }
def cut : State := { flies with drover := { flies.drover with unconfirmed := [104, 103], cut := [104] } }
def lossy : Loss := ⟨still, 5, 50000000000, 1000⟩
def small : Loss := ⟨still, 5, 50000000000, 5⟩
def fresh : Loss := ⟨still, 5, 5, 1000⟩
def moded1 (m : Nat) (s : State) : State := regs [(encReg R.DROVER_ENC_MODE 0, m)] s
def quad : State := moded1 1 (reach fired)
def aux : State := { quad with force := [(R.DROVER_SOURCE, 16 + 64)] }
def moving : State := { moded1 1 live with profile := { live.profile with y := { v := 2 ^ 60 } } }
def serial : State := moded1 (3 + 32 * 256) writing
def lost1 : Instr := .positionLoss 0 1 fresh
def lost2 : Instr := .positionLoss 0 1 small
def lost3 : Instr := .encFreeze 0 lossy
def lost4 : Instr := .encWordSilent 0 lossy
def bad32 : List Bool := true :: List.replicate 50 false
def lost5 : Instr := .encSerialWord 0 bad32 lossy
def word32 : List Bool :=
  let body := List.replicate 34 false
  let c := Nat.xor (body.foldl crc16ibm.bit crc16ibm.init) crc16ibm.final
  true :: body ++ (List.range 16).map (fun i => c.testBit (15 - i))
def edges : ChanIn := { ab := [(false, false), (true, false), (true, true)] }
def unref (r : Option Int) : State := quad.setEnc 0 { unref := true, stripeRef := r, count := 9, off := 2, lost := true }
def detecting : State := { live with drover := { live.drover with detecting := true } }
def in' (st : Nat) (peak still : Int) : State :=
  reach { writing with drover := { writing.drover with st, yPeak := peak, yStill := still } }
def unlocked (st : Nat) : State := { in' st 0 0 with drover := { (in' st 0 0).drover with pll := false } }
def holds : State := regs [(R.DROVER_STANDSTILL, 1)] (in' 3 0 0)
def sysref : Instr := .sysrefAbsent false
def unlock : Instr := .jesdPllUnlock false
def peer : Instr := .peerFault .operator 1 false
def unaligned : State := { live with drover := { live.drover with aligned := false } }
def strobed : State := { writing with drover := { writing.drover with unconfirmed := [7], lastIndex := 7 } }
def prof (n : Nat) (s : State) : State :=
  let s := regs [(R.PROFILE_CFG, 1)] s
  { s with profile := { s.profile with phase := n, runId := if n = 0 then none else some (0, 3, 0), y := { target := some 0 }, x := { target := some 0 } } }
def next : Stripe := { wr with st := .waiting }
def queueing : State := prof 0 (run [next] live)
def rec0 : RunRec := (prof 1 writing).runOf 0 3
def hostMoves : State := { prof 6 writing with profile := { (prof 6 writing).profile with hostMove := true } }
def braking : State :=
  let s := prof 3 live
  { s with profile := { s.profile with y := { p := -1000, v := 1000000, a := -7, target := some 0 } } }

theorem meets_FramesTravel :
    sends.Inv ∧
    sends.sending = some wr ∧
    ((sortBy (fun (x : LinkFrame) => x.index) (List.filter (fun (f : LinkFrame) => decide (f.lane = 2) && decide (f.ord = wr.ord) && !f.sent && !f.withheld && !f.dropped) sends.flink.frames)).head? = some unsent) ∧
    ↑unsent.flash ≤ sends.sendLimit wr ∧
    (sends.lane 2).up = true ∧
    (sends.lane 2).due = [] ∧
    sends.entries 2 < 8 ∧
    (some 5 ≠ none ∨ sends.runFresh wr = true) ∧
    ((sends.lane 2).up = false ∨ 8 ≤ sends.entries 2 ∨ (none : Option Nat) = none ∧ sends.runFresh wr = false) ∧
    256 < sends.logFree ∧
    flies.fatal = 0 ∧
    msgOk (msg 1 2 (104 * 2 ^ 22)) = true ∧
    msgType (msg 1 2 (104 * 2 ^ 22)) = 1 ∧
    flies.sentBy (msgLane (msg 1 2 (104 * 2 ^ 22))) (msgFlash (msg 1 2 (104 * 2 ^ 22))) = some frm ∧
    fieldOf (msg 1 2 (104 * 2 ^ 22)).toNat 13 13 = 0 ∧
    (flies.lane frm.lane).due = [] ∧
    sentOnly.fatal = 0 ∧
    msgOk (msg 1 2 (104 * 2 ^ 22 + 2 ^ 5)) = true ∧
    msgType (msg 1 2 (104 * 2 ^ 22 + 2 ^ 5)) = 1 ∧
    sentOnly.sentBy (msgLane (msg 1 2 (104 * 2 ^ 22 + 2 ^ 5))) (msgFlash (msg 1 2 (104 * 2 ^ 22 + 2 ^ 5))) = some frm ∧
    fieldOf (msg 1 2 (104 * 2 ^ 22 + 2 ^ 5)).toNat 13 13 = 1 ∧
    (sentOnly.lane frm.lane).due = [] ∧
    false = false ∧
    frm.damaged = false ∧
    (sentOnly.lane frm.lane).naksRow < 7 ∧
    256 < sentOnly.logFree ∧
    flies.sentBy (msgLane (msg 1 2 (104 * 2 ^ 22 + 2 ^ 5))) (msgFlash (msg 1 2 (104 * 2 ^ 22 + 2 ^ 5))) = some frm ∧
    (flies.lane frm.lane).naksRow < 7 ∧
    256 < flies.logFree ∧
    ((none : Option Nat) = none ∨ frm.index ∈ flies.flink.strobed) ∧
    owedReplay.fatal = 0 ∧
    owedReplay.sentBy (msgLane (msg 1 2 (104 * 2 ^ 22))) (msgFlash (msg 1 2 (104 * 2 ^ 22))) = some frm ∧
    (owedReplay.lane frm.lane).due = [(104, 9)] ∧
    owedReplay.frame? frm.lane 104 = some frm ∧
    flies.frame? 2 104 = some frm ∧
    frm.sent = true ∧
    frm.acked = false ∧
    frm.settled = false ∧
    frm.dropped = false ∧
    (flies.lane 2).due = [] ∧
    (flies.lane 2).up = true := by
  refine ⟨inv_of _ ?_, ?_, ?_, ?_, ?_, ?_, ?_, ?_, ?_, ?_, ?_, ?_, ?_, ?_, ?_, ?_, ?_, ?_, ?_, ?_, ?_, ?_, ?_, ?_, ?_, ?_, ?_, ?_, ?_, ?_,
    ?_, ?_, ?_, ?_, ?_, ?_, ?_, ?_, ?_, ?_, ?_⟩ <;> decide +kernel

set_option maxRecDepth 1000000 in
theorem meets_ReportsSettleFrames :
    flies.fatal = 0 ∧
    msgOk (msg 2 2 (104 * 2 ^ 22)) = true ∧
    msgType (msg 2 2 (104 * 2 ^ 22)) = 2 ∧
    flies.discarded (msgFlash (msg 2 2 (104 * 2 ^ 22))) = false ∧
    flies.strobedBy (msgFlash (msg 2 2 (104 * 2 ^ 22))) = some 104 ∧
    (flies.lane (msgLane (msg 2 2 (104 * 2 ^ 22)))).since ≤ 104 ∧
    flies.frame? (msgLane (msg 2 2 (104 * 2 ^ 22))) 104 = some frm ∧
    frm.withheld = false ∧
    frm.dropped = false ∧
    frm.cut = false ∧
    frm.latched = none ∧
    frm.settled = false ∧
    frm.damaged = false ∧
    frm.counted = false ∧
    fieldOf (msg 2 2 (104 * 2 ^ 22)).toNat 29 28 = 0 ∧
    frm.missed = [] ∧
    (frm.echoReq = false ∨ frm.echoed ≠ none) ∧
    msgOk (msg 2 2 (104 * 2 ^ 22 + 2 ^ 20)) = true ∧
    msgType (msg 2 2 (104 * 2 ^ 22 + 2 ^ 20)) = 2 ∧
    flies.discarded (msgFlash (msg 2 2 (104 * 2 ^ 22 + 2 ^ 20))) = false ∧
    flies.strobedBy (msgFlash (msg 2 2 (104 * 2 ^ 22 + 2 ^ 20))) = some 104 ∧
    (flies.lane (msgLane (msg 2 2 (104 * 2 ^ 22 + 2 ^ 20)))).since ≤ 104 ∧
    flies.frame? (msgLane (msg 2 2 (104 * 2 ^ 22 + 2 ^ 20))) 104 = some frm ∧
    fieldOf (msg 2 2 (104 * 2 ^ 22 + 2 ^ 20)).toNat 29 28 = 1 ∧
    frm.echoReq = false ∧
    256 < flies.logFree ∧
    msgOk (msg 2 2 (104 * 2 ^ 22 + 2 * 2 ^ 20 + 2 * 2 ^ 8)) = true ∧
    msgType (msg 2 2 (104 * 2 ^ 22 + 2 * 2 ^ 20 + 2 * 2 ^ 8)) = 2 ∧
    flies.discarded (msgFlash (msg 2 2 (104 * 2 ^ 22 + 2 * 2 ^ 20 + 2 * 2 ^ 8))) = false ∧
    flies.strobedBy (msgFlash (msg 2 2 (104 * 2 ^ 22 + 2 * 2 ^ 20 + 2 * 2 ^ 8))) = some 104 ∧
    (flies.lane (msgLane (msg 2 2 (104 * 2 ^ 22 + 2 * 2 ^ 20 + 2 * 2 ^ 8)))).since ≤ 104 ∧
    flies.frame? (msgLane (msg 2 2 (104 * 2 ^ 22 + 2 * 2 ^ 20 + 2 * 2 ^ 8))) 104 = some frm ∧
    fieldOf (msg 2 2 (104 * 2 ^ 22 + 2 * 2 ^ 20 + 2 * 2 ^ 8)).toNat 29 28 = 2 ∧
    frm.missed.length < fieldOf (msg 2 2 (104 * 2 ^ 22 + 2 * 2 ^ 20 + 2 * 2 ^ 8)).toNat 27 16 ∧
    msgOk (msg 2 2 (104 * 2 ^ 22 + 3 * 2 ^ 20)) = true ∧
    msgType (msg 2 2 (104 * 2 ^ 22 + 3 * 2 ^ 20)) = 2 ∧
    flies.discarded (msgFlash (msg 2 2 (104 * 2 ^ 22 + 3 * 2 ^ 20))) = false ∧
    flies.strobedBy (msgFlash (msg 2 2 (104 * 2 ^ 22 + 3 * 2 ^ 20))) = some 104 ∧
    (flies.lane (msgLane (msg 2 2 (104 * 2 ^ 22 + 3 * 2 ^ 20)))).since ≤ 104 ∧
    flies.frame? (msgLane (msg 2 2 (104 * 2 ^ 22 + 3 * 2 ^ 20))) 104 = some frm ∧
    fieldOf (msg 2 2 (104 * 2 ^ 22 + 3 * 2 ^ 20)).toNat 29 28 = 3 ∧
    (halfFlies 2).fatal = 0 ∧
    msgOk (msg 3 2 (104 * 2 ^ 22 + 7 * 2 ^ 10)) = true ∧
    msgType (msg 3 2 (104 * 2 ^ 22 + 7 * 2 ^ 10)) = 3 ∧
    fieldOf (msg 3 2 (104 * 2 ^ 22 + 7 * 2 ^ 10)).toNat 17 16 = 0 ∧
    ((halfFlies 2).strobedBy (msgFlash (msg 3 2 (104 * 2 ^ 22 + 7 * 2 ^ 10)))).bind ((halfFlies 2).frame? (msgLane (msg 3 2 (104 * 2 ^ 22 + 7 * 2 ^ 10)))) = some (half 2) ∧
    (half 2).sent = true ∧
    (half 2).withheld = false ∧
    (half 2).dropped = false ∧
    (half 2).settled = false ∧
    (half 2).damaged = false ∧
    (half 2).latched = some (2, 2) ∧
    (half 2).counted = false ∧
    (∀ k ∈ (half 2).missed, k.1 ≠ fieldOf (msg 3 2 (104 * 2 ^ 22 + 7 * 2 ^ 10)).toNat 29 18) ∧
    (half 2).echoReq = false ∧
    (({ (half 2) with missed := (fieldOf (msg 3 2 (104 * 2 ^ 22 + 7 * 2 ^ 10)).toNat 29 18, 0) :: (half 2).missed } : LinkFrame).missed.length < 2) ∧
    (halfFlies 1).fatal = 0 ∧
    ((halfFlies 1).strobedBy (msgFlash (msg 3 2 (104 * 2 ^ 22 + 7 * 2 ^ 10)))).bind ((halfFlies 1).frame? (msgLane (msg 3 2 (104 * 2 ^ 22 + 7 * 2 ^ 10)))) = some (half 1) ∧
    (half 1).sent = true ∧
    (half 1).withheld = false ∧
    (half 1).dropped = false ∧
    (half 1).settled = false ∧
    (half 1).damaged = false ∧
    (half 1).latched = some (2, 1) ∧
    (half 1).counted = false ∧
    (∀ k ∈ (half 1).missed, k.1 ≠ fieldOf (msg 3 2 (104 * 2 ^ 22 + 7 * 2 ^ 10)).toNat 29 18) ∧
    (half 1).echoReq = false ∧
    (1 ≤ ({ (half 1) with missed := (fieldOf (msg 3 2 (104 * 2 ^ 22 + 7 * 2 ^ 10)).toNat 29 18, 0) :: (half 1).missed } : LinkFrame).missed.length) ∧
    echoFlies.fatal = 0 ∧
    msgOk (msg 4 2 (104 * 2 ^ 32 + 7)) = true ∧
    msgType (msg 4 2 (104 * 2 ^ 32 + 7)) = 4 ∧
    (echoFlies.lane (msgLane (msg 4 2 (104 * 2 ^ 32 + 7)))).st ≠ 5 ∧
    (List.find? (fun (f : LinkFrame) => decide (f.lane = msgLane (msg 4 2 (104 * 2 ^ 32 + 7))) && decide (f.index % 2 ^ 14 = fieldOf (msg 4 2 (104 * 2 ^ 32 + 7)).toNat 53 40) && f.sent && f.echoReq && !f.dropped) echoFlies.flink.frames = some echoes) ∧
    echoes.echoed = none ∧
    fieldOf (msg 4 2 (104 * 2 ^ 32 + 7)).toNat 39 8 ≠ echoes.crcOf ∧
    256 < echoFlies.logFree ∧
    flies.awaited 2 104 = some frm ∧
    frm.again = 0 ∧
    (againFlies 1).awaited 2 104 = some (again 1) ∧
    (again 1).again ≠ 0 ∧
    (againFlies 1).fatal = 0 ∧
    (again 1).again < 3 ∧
    (againFlies 3).awaited 2 104 = some (again 3) ∧
    (again 3).again ≠ 0 ∧
    (againFlies 3).fatal = 0 ∧
    3 ≤ (again 3).again := by
  refine ⟨?_, ?_, ?_, ?_, ?_, ?_, ?_, ?_, ?_, ?_, ?_, ?_, ?_, ?_, ?_, ?_, ?_, ?_, ?_, ?_, ?_, ?_, ?_, ?_, ?_, ?_, ?_, ?_, ?_, ?_, ?_, ?_,
    ?_, ?_, ?_, ?_, ?_, ?_, ?_, ?_, ?_, ?_, ?_, ?_, ?_, ?_, ?_, ?_, ?_, ?_, ?_, ?_, ?_, ?_, ?_, ?_, ?_, ?_, ?_, ?_, ?_, ?_, ?_, ?_,
    ?_, ?_, ?_, ?_, ?_, ?_, ?_, ?_, ?_, ?_, ?_, ?_, ?_, ?_, ?_, ?_, ?_, ?_, ?_, ?_, ?_, ?_⟩ <;> decide +kernel

theorem meets_BlankersReport :
    sensing.fatal = 0 ∧
    msgOk (msg 5 3 (300 * 2 ^ 30)) = true ∧
    msgType (msg 5 3 (300 * 2 ^ 30)) = 5 ∧
    msgLane (msg 5 3 (300 * 2 ^ 30)) < sensing.headSensors ∧
    3 < sensed.headSensors ∧
    sensed.fatal = 0 ∧
    256 < sensed.logFree ∧
    ((lane3 { st := 3, got := 5 }).fatal = 0) ∧
    msgOk (msg 6 3 77) = true ∧
    msgType (msg 6 3 77) = 6 ∧
    (((lane3 { st := 3, got := 5 }).lane (msgLane (msg 6 3 77))).st = 3) ∧
    fieldOf (msg 6 3 77).toNat 53 50 ≤ 1 ∧
    ((((lane3 { st := 3, got := 5 }).lane (msgLane (msg 6 3 77))).takeCaps (fieldOf (msg 6 3 77).toNat 53 50) (fieldOf (msg 6 3 77).toNat 49 8)).capsDone = false ∨ ((((lane3 { st := 3, got := 5 }).setLane (msgLane (msg 6 3 77)) (((lane3 { st := 3, got := 5 }).lane (msgLane (msg 6 3 77))).takeCaps (fieldOf (msg 6 3 77).toNat 53 50) (fieldOf (msg 6 3 77).toNat 49 8))).ratesOf (msgLane (msg 6 3 77))).head?.bind fun (r : ℕ) => ((lane3 { st := 3, got := 5 }).setLane (msgLane (msg 6 3 77)) (((lane3 { st := 3, got := 5 }).lane (msgLane (msg 6 3 77))).takeCaps (fieldOf (msg 6 3 77).toNat 53 50) (fieldOf (msg 6 3 77).toNat 49 8))).laneLimits { (((lane3 { st := 3, got := 5 }).lane (msgLane (msg 6 3 77))).takeCaps (fieldOf (msg 6 3 77).toNat 53 50) (fieldOf (msg 6 3 77).toNat 49 8)) with rate := r } ((lane3 { st := 3, got := 5 }).setLane (msgLane (msg 6 3 77)) (((lane3 { st := 3, got := 5 }).lane (msgLane (msg 6 3 77))).takeCaps (fieldOf (msg 6 3 77).toNat 53 50) (fieldOf (msg 6 3 77).toNat 49 8))).maxRate false) = none) ∧
    writing.fatal = 0 ∧
    msgOk (msg 7 3 5) = true ∧
    msgType (msg 7 3 5) = 7 ∧
    fieldOf (msg 7 3 5).toNat 53 48 = 0 ∧
    msgOk (msg 7 3 (2 ^ 40 + 5)) = true ∧
    msgType (msg 7 3 (2 ^ 40 + 5)) = 7 ∧
    fieldOf (msg 7 3 (2 ^ 40 + 5)).toNat 53 48 ≠ 0 ∧
    fieldOf (msg 7 3 (2 ^ 40 + 5)).toNat 53 48 ≠ 2 ∧
    7 ≤ 7 ∧
    writing.flink.rx.testBit 7 = true := by
  refine ⟨?_, ?_, ?_, ?_, ?_, ?_, ?_, ?_, ?_, ?_, ?_, ?_, ?_, ?_, ?_, ?_, ?_, ?_, ?_, ?_, ?_, ?_, ?_⟩ <;> decide +kernel

theorem meets_LanesTrain :
    3 ≤ 63 ∧
    ((lane3 { st := 1 }).fatal = 0) ∧
    (((lane3 { st := 1 }).lane 3).st = 1) ∧
    (((lane3 { st := 1 }).lane 3).st = 1 ∨ ((lane3 { st := 1 }).lane 3).st = 2) ∧
    (256 < (lane3 { st := 1 }).logFree) ∧
    (1 ≤ ((lane3 { st := 1 }).lane 3).st) ∧
    (((lane3 { st := 1 }).lane 3).st ≤ 5) ∧
    ((lane3 { st := 2 }).fatal = 0) ∧
    (((lane3 { st := 2 }).lane 3).st = 2) ∧
    (((lane3 { st := 2 }).lane 3).quick = false) ∧
    ((lane3 { st := 2, caps0 := able, quick := true }).fatal = 0) ∧
    (((lane3 { st := 2, caps0 := able, quick := true }).lane 3).st = 2) ∧
    (((lane3 { st := 2, caps0 := able, quick := true }).lane 3).quick = true) ∧
    ((lane3 { st := 2, caps0 := able, quick := true }).tooNarrow 3 = false) ∧
    ((lane3 { st := 3, caps0 := able, got := 10 }).fatal = 0) ∧
    (((lane3 { st := 3, caps0 := able, got := 10 }).lane 3).st = 3) ∧
    (((lane3 { st := 3, caps0 := able, got := 10 }).lane 3).capsDone = true) ∧
    ((lane3 { st := 3, caps0 := able, got := 10 }).flink.rx.testBit (fieldOf ((lane3 { st := 3, caps0 := able, got := 10 }).lane 3).caps1 9 7) = true) ∧
    (((lane3 { st := 3, caps0 := able, got := 10 }).ratesOf 3).head? = some 3) ∧
    ((lane3 { st := 3, caps0 := able, got := 10 }).tooNarrow 3 = false) ∧
    ((lane3 { st := 4, rate := 2, caps0 := able, got := 10 }).fatal = 0) ∧
    (((lane3 { st := 4, rate := 2, caps0 := able, got := 10 }).lane 3).st = 4) ∧
    (((lane3 { st := 4, rate := 2, caps0 := able, got := 10 }).eyeMin 3).1 ≤ 500) ∧
    (((lane3 { st := 4, rate := 2, caps0 := able, got := 10 }).eyeMin 3).2 ≤ 500) ∧
    (1 < ((lane3 { st := 4, rate := 2, caps0 := able, got := 10 }).eyeMin 3).1 ∨ 1 < ((lane3 { st := 4, rate := 2, caps0 := able, got := 10 }).eyeMin 3).2) ∧
    (List.find? (fun (r : ℕ) => decide (r < ((lane3 { st := 4, rate := 2, caps0 := able, got := 10 }).lane 3).rate)) ((lane3 { st := 4, rate := 2, caps0 := able, got := 10 }).ratesOf 3) = some 1) ∧
    ((lane3 { st := 5, rate := 2, caps0 := able, got := 10 }).fatal = 0) ∧
    (((lane3 { st := 5, rate := 2, caps0 := able, got := 10 }).lane 3).st = 5) ∧
    ((lane3 { st := 5, rate := 2, caps0 := able, got := 10 }).tooNarrow 3 = false) ∧
    ((lane3 { st := 5, rate := 2, caps0 := able, got := 10 }).laneLimits ((lane3 { st := 5, rate := 2, caps0 := able, got := 10 }).lane 3) (lane3 { st := 5, rate := 2, caps0 := able, got := 10 }).maxRate true = none) ∧
    (256 < (lane3 { st := 5, rate := 2, caps0 := able, got := 10 }).logFree) ∧
    ((lane3 { st := 5, rate := 2, caps0 := able, got := 10 }).permit Origin.operator R.FLINK_RETRAIN 3 = Except.ok (lane3 { st := 5, rate := 2, caps0 := able, got := 10 })) ∧
    ((lane3 { st := 5, rate := 2, caps0 := able, got := 10 }).enabled 17 = true) ∧
    fieldOf 3 8 8 = 0 ∧
    fieldOf 3 5 0 = 3 ∧
    ((lane3 { wentDown := true }).fatal = 0) ∧
    (((lane3 { wentDown := true }).lane 3).wentDown = true) ∧
    ((lane3 { wentDown := true }).enabled 17 = true) ∧
    (∀ x ∈ (lane3 { wentDown := true }).stripes, x.st ≠ StripeSt.writing ∧ x.st ≠ StripeSt.draining ∧ x.st ≠ StripeSt.contained) ∧
    ((lane3 { st := 6 }).fatal = 0) ∧
    (((lane3 { st := 6 }).lane 3).st = 6) ∧
    ((lane3 { st := 6 }).anyArmed = false ∨ (lane3 { st := 6 }).clockHeld = true) ∧
    ((lane3 { st := 6 }).writing = none) := by
  refine ⟨?_, ?_, ?_, ?_, ?_, ?_, ?_, ?_, ?_, ?_, ?_, ?_, ?_, ?_, ?_, ?_, ?_, ?_, ?_, ?_, ?_, ?_, ?_, ?_, ?_, ?_, ?_, ?_, ?_, ?_, ?_, ok_of
    _ _ ?_, ?_, ?_, ?_, ?_, ?_, ?_, ?_, ?_, ?_, ?_, ?_⟩ <;> decide +kernel

theorem meets_FlashesFire :
    (reach flies).Inv ∧
    (reach flies).sending = some wr ∧
    wr.st = StripeSt.writing ∧
    ((reach flies).drover.st = 1 ∨ (reach flies).drover.st = 2) ∧
    ((reach flies).sample wr still).peak.tooFar false = false ∧
    ((reach flies).sample wr still).peak.drover.ramping = false ∧
    ↑(fieldOf ((reach flies).inForce R.DROVER_BAND) 8 0) ≤ ((reach flies).sample wr still).peak.drover.demand ∧
    ((reach flies).sample wr still).peak.rateAllows 10000000 = true ∧
    ((reach flies).sample wr still).peak.firstSent wr = true ∧
    (reach flies).drover.k + 1 < ↑wr.nextCycle ∧
    (near flies).Inv ∧
    (near flies).sending = some wr ∧
    ((near flies).drover.st = 1 ∨ (near flies).drover.st = 2) ∧
    ((near flies).sample wr still).peak.tooFar false = false ∧
    ((near flies).sample wr still).peak.drover.demand < ↑(fieldOf ((near flies).inForce R.DROVER_BAND) 8 0) ∧
    (far flies).Inv ∧
    (far flies).sending = some wr ∧
    ((far flies).drover.st = 1 ∨ (far flies).drover.st = 2) ∧
    (far flies).active = some wr ∧
    ((far flies).sample wr still).peak.tooFar false = true ∧
    104 ∈ fired.drover.unconfirmed ∧
    104 ∉ fired.drover.cut ∧
    104 ∈ cut.drover.unconfirmed ∧
    104 ∈ cut.drover.cut := by
  refine ⟨inv_of _ ?_, ?_, ?_, ?_, ?_, ?_, ?_, ?_, ?_, ?_, inv_of _ ?_, ?_, ?_, ?_, ?_, inv_of _ ?_, ?_, ?_, ?_, ?_, ?_, ?_, ?_, ?_⟩ <;> decide +kernel

theorem meets_PositionLosses :
    0 ≤ 3 ∧
    (quad.enc 0).lost = false ∧
    quad.fatal = 0 ∧
    (lost1 = Instr.positionLoss 0 1 fresh ∧ causeOk (quad.encMode 0) 1 = true ∨ lost1 = Instr.encFreeze 0 fresh ∧ 1 = 8 ∧ quad.encMode 0 ≠ 0 ∧ quad.setpointMoves 0 = true ∨ lost1 = Instr.encWordSilent 0 fresh ∧ 1 = 7 ∧ quad.encMode 0 = 3 ∨ lost1 = Instr.encSerialWord 0 [] fresh ∧ quad.encMode 0 = 3 ∧ serialWord (quad.fld (encReg R.DROVER_ENC_MODE 0) 13 8) [] = Except.error 1) ∧
    (moving.enc 0).lost = false ∧
    moving.fatal = 0 ∧
    (lost3 = Instr.positionLoss 0 8 lossy ∧ causeOk (moving.encMode 0) 8 = true ∨ lost3 = Instr.encFreeze 0 lossy ∧ 8 = 8 ∧ moving.encMode 0 ≠ 0 ∧ moving.setpointMoves 0 = true ∨ lost3 = Instr.encWordSilent 0 lossy ∧ 8 = 7 ∧ moving.encMode 0 = 3 ∨ lost3 = Instr.encSerialWord 0 [] lossy ∧ moving.encMode 0 = 3 ∧ serialWord (moving.fld (encReg R.DROVER_ENC_MODE 0) 13 8) [] = Except.error 8) ∧
    moving.active = none ∧
    (∀ y ∈ moving.stripes, y.st ≠ StripeSt.draining) ∧
    moving.cutBy 8 lossy = [] ∧
    serial.encMode 0 = 3 ∧
    serial.fatal = 0 ∧
    32 = serial.fld (encReg R.DROVER_ENC_MODE 0) 13 8 ∧
    serialWord 32 word32 = Except.ok (0, false) ∧
    (far writing).active = some wr ∧
    wr.st = StripeSt.writing ∧
    (far writing).drover.st = 2 ∧
    768 < ((far writing).sample wr still).drover.demand.natAbs := by
  refine ⟨?_, ?_, ?_, .inl ⟨rfl, ?_⟩, ?_, ?_, .inr (.inl ⟨rfl, ?_, ?_, ?_⟩), ?_, ?_, ?_, ?_, ?_, ?_, ok_of _ _ ?_, ?_, ?_, ?_, ?_⟩ <;> decide +kernel

theorem meets_ChannelsReferToZ :
    0 ≤ 3 ∧
    (quad.encMode 0 = 1 ∨ quad.encMode 0 = 2) ∧
    ((quad.take 0 edges).enc 0).unref = false ∧
    ((unref (some 5)).encMode 0 = 1 ∨ (unref (some 5)).encMode 0 = 2) ∧
    (((unref (some 5)).take 0 edges).enc 0).unref = true ∧
    (((unref (some 5)).take 0 edges).enc 0).stripeRef = some 5 ∧
    (unref (some 5)).encScale 0 ≠ 0 ∧
    -2 ^ 47 ≤ 5 ∧
    5 < 2 ^ 47 ∧
    ((unref none).encMode 0 = 1 ∨ (unref none).encMode 0 = 2) ∧
    (((unref none).take 0 edges).enc 0).unref = true ∧
    (((unref none).take 0 edges).enc 0).stripeRef = none ∧
    live.permit Origin.operator R.DROVER_DETECT 1 = Except.ok live ∧
    fieldOf 1 0 0 = 1 ∧
    detecting.drover.detecting = true ∧
    (reach writing).active = some wr ∧
    (reach writing).drover.st ≠ 0 ∧
    (reach writing).drover.st ≠ 5 ∧
    ((reach writing).sample wr still).tooFar false = false ∧
    (far writing).active = some wr ∧
    (far writing).drover.st ≠ 0 ∧
    (far writing).drover.st ≠ 5 ∧
    wr.st = StripeSt.writing ∧
    ((far writing).sample wr still).tooFar false = true := by
  refine ⟨?_, ?_, ?_, ?_, ?_, ?_, ?_, ?_, ?_, ?_, ?_, ?_, ok_of _ _ ?_, ?_, ?_, ?_, ?_, ?_, ?_, ?_, ?_, ?_, ?_, ?_⟩ <;> decide +kernel

theorem meets_StandstillAndRewind :
    (reach writing).writing = some wr ∧
    (reach writing).active = some wr ∧
    (reach writing).drover.st = 2 ∧
    ((reach writing).drover.st = 2 ∨ (reach writing).drover.st = 3) ∧
    ((reach writing).sample wr still).tooFar false = false ∧
    ((reach writing).sample wr still).drover.yPeak - ((reach writing).sample wr still).hyst ≤ ((reach writing).sample wr still).drover.y ∧
    (in' 3 0 0).writing = some wr ∧
    (in' 3 0 0).active = some wr ∧
    (in' 3 0 0).drover.st = 3 ∧
    ((in' 3 0 0).sample wr still).drover.yStill + ((in' 3 0 0).sample wr still).hyst ≤ ((in' 3 0 0).sample wr still).drover.y ∧
    (in' 3 0 0).deflDown = false ∧
    (in' 3 0 (2 ^ 40)).writing = some wr ∧
    (in' 3 0 (2 ^ 40)).active = some wr ∧
    (in' 3 0 (2 ^ 40)).drover.st = 3 ∧
    ((in' 3 0 (2 ^ 40)).sample wr still).drover.y < ((in' 3 0 (2 ^ 40)).sample wr still).drover.yStill + ((in' 3 0 (2 ^ 40)).sample wr still).hyst ∧
    (unlocked 3).writing = some wr ∧
    (unlocked 3).active = some wr ∧
    (unlocked 3).drover.st = 3 ∧
    ((unlocked 3).sample wr still).drover.yStill + ((unlocked 3).sample wr still).hyst ≤ ((unlocked 3).sample wr still).drover.y ∧
    (unlocked 3).deflDown = true ∧
    (in' 2 (2 ^ 50) 0).writing = some wr ∧
    (in' 2 (2 ^ 50) 0).active = some wr ∧
    ((in' 2 (2 ^ 50) 0).drover.st = 2 ∨ (in' 2 (2 ^ 50) 0).drover.st = 3) ∧
    ((in' 2 (2 ^ 50) 0).sample wr still).tooFar false = false ∧
    ((in' 2 (2 ^ 50) 0).sample wr still).drover.y < ((in' 2 (2 ^ 50) 0).sample wr still).drover.yPeak - ((in' 2 (2 ^ 50) 0).sample wr still).hyst ∧
    256 < (in' 2 (2 ^ 50) 0).logFree ∧
    (far (in' 2 (2 ^ 50) 0)).writing = some wr ∧
    (far (in' 2 (2 ^ 50) 0)).active = some wr ∧
    ((far (in' 2 (2 ^ 50) 0)).drover.st = 2 ∨ (far (in' 2 (2 ^ 50) 0)).drover.st = 3) ∧
    ((far (in' 2 (2 ^ 50) 0)).sample wr still).tooFar false = true ∧
    (in' 4 (2 ^ 50) 0).writing = some wr ∧
    (in' 4 (2 ^ 50) 0).active = some wr ∧
    (in' 4 (2 ^ 50) 0).drover.st = 4 ∧
    ((in' 4 (2 ^ 50) 0).sample wr still).drover.y < ((in' 4 (2 ^ 50) 0).sample wr still).drover.yPeak ∧
    (in' 4 5 0).writing = some wr ∧
    (in' 4 5 0).active = some wr ∧
    (in' 4 5 0).drover.st = 4 ∧
    ((in' 4 5 0).sample wr still).drover.yPeak ≤ ((in' 4 5 0).sample wr still).drover.y ∧
    (in' 4 5 0).deflDown = false := by
  refine ⟨?_, ?_, ?_, ?_, ?_, ?_, ?_, ?_, ?_, ?_, ?_, ?_, ?_, ?_, ?_, ?_, ?_, ?_, ?_, ?_, ?_, ?_, ?_, ?_, ?_, ?_, ?_, ?_, ?_, ?_, ?_, ?_,
    ?_, ?_, ?_, ?_, ?_, ?_, ?_⟩ <;> decide +kernel

theorem meets_DeflectionLink :
    live.enabled 16 = true ∧
    live.active = none ∧
    (reach writing).enabled 16 = true ∧
    (reach writing).active = some wr ∧
    ((reach writing).drover.st = 1 ∨ (reach writing).drover.st = 2) ∧
    ((reach writing).sample wr still).peak.tooFar false = false ∧
    (reach writing).drover.ramping = false ∧
    List.map clamp16 (((reach writing).sample wr still).peak.trackOut wr (3, 4)) = ((reach writing).sample wr still).peak.trackOut wr (3, 4) ∧
    holds.enabled 16 = true ∧
    holds.active = some wr ∧
    holds.drover.st = 3 ∧
    holds.parks = false ∧
    strobed.writing = some wr ∧
    strobed.active = some wr ∧
    strobed.drover.st = 2 ∧
    strobed.drover.lastIndex ∈ strobed.drover.unconfirmed ∧
    strobed.deflDown = false ∧
    live.drover.aligned = true ∧
    1 ≤ 1 ∧
    1 < 2 ∧
    live.writing = none ∧
    256 < live.logFree ∧
    writing.enabled 16 = true ∧
    writing.drover.aligned = true ∧
    writing.writing ≠ none ∧
    unaligned.enabled 16 = true ∧
    unaligned.drover.aligned = false ∧
    live.deflDown = false ∧
    live.drover.st = 0 := by
  refine ⟨?_, ?_, ?_, ?_, ?_, ?_, ?_, ?_, ?_, ?_, ?_, ?_, ?_, ?_, ?_, ?_, ?_, ?_, ?_, ?_, ?_, ?_, ?_, ?_, ?_, ?_, ?_, ?_, ?_⟩ <;> decide +kernel

theorem meets_StageMoves :
    (prof 0 live).profRuns = true ∧
    (prof 0 live).profile.y.allows ((prof 0 live).vMax 0) ((prof 0 live).aMax 0) ((prof 0 live).jMax 0) 0 = true ∧
    (prof 0 live).profile.x.allows ((prof 0 live).vMax 1) ((prof 0 live).aMax 1) ((prof 0 live).jMax 1) 0 = true ∧
    (0 = 0 ∨ (prof 0 live).profile.movable 0 = true) ∧
    (0 = 0 ∨ (prof 0 live).profile.movable 1 = true) ∧
    (prof 0 live).profOut = 1 ∧
    queueing.nextRun = some next ∧
    queueing.profRuns = true ∧
    queueing.profile.phase = 0 ∧
    queueing.profile.held = false ∧
    queueing.profile.stop = false ∧
    (∀ y ∈ queueing.stripes, y.st = StripeSt.writing → queueing.profile.runId ≠ some (y.slot, y.id, y.pass)) ∧
    256 < queueing.logFree ∧
    (prof 1 writing).run? = some rec0 ∧
    (prof 1 writing).profRuns = true ∧
    (prof 1 writing).profile.phase = 1 ∧
    ((prof 1 writing).see still).holdReg = 0 ∧
    (prof 1 writing).profile.stop = false ∧
    ((({ (prof 1 writing).see still with profile := { (prof 1 writing).profile with y := have __src := (prof 1 writing).profile.y;             { p := __src.p, v := __src.v, a := __src.a }, phase := 2 } } : State)).wantsClamp =   false) ∧
    (prof 2 writing).run? = some rec0 ∧
    (prof 2 writing).profRuns = true ∧
    ((prof 2 writing).profile.phase = 2 ∨ (prof 2 writing).profile.phase = 3) ∧
    256 < (prof 2 writing).logFree ∧
    (prof 4 writing).profRuns = true ∧
    (prof 4 writing).profile.phase = 4 ∧
    (prof 4 writing).profile.y.there = true ∧
    (prof 4 live).profRuns = true ∧
    (prof 4 live).profile.phase = 4 ∧
    (prof 4 live).profile.y.there = true ∧
    (prof 4 live).runStripe = none ∧
    (prof 5 writing).profRuns = true ∧
    (prof 5 writing).profile.y.there = true ∧
    (prof 5 writing).profile.x.there = true ∧
    (prof 5 writing).profile.phase = 5 ∧
    (prof 6 writing).profRuns = true ∧
    (prof 6 writing).profile.y.there = true ∧
    (prof 6 writing).profile.x.there = true ∧
    (prof 6 writing).profile.phase = 6 ∧
    (prof 6 writing).profile.held = false ∧
    (prof 1 live).permit Origin.operator R.PROFILE_MOVE 1 = Except.ok (prof 1 live) ∧
    (prof 1 live).profRuns = true ∧
    (prof 1 live).profile.stop = false ∧
    256 < (prof 1 live).logFree ∧
    fieldOf 1 0 0 = 1 ∧
    fieldOf 1 1 1 = 0 ∧
    (prof 1 live).profile.phase ≤ 1 ∧
    (prof 3 live).permit Origin.operator R.PROFILE_MOVE 2 = Except.ok (prof 3 live) ∧
    (prof 3 live).profRuns = true ∧
    (prof 3 live).profile.stop = false ∧
    256 < (prof 3 live).logFree ∧
    fieldOf 2 0 0 = 0 ∧
    fieldOf 2 1 1 = 1 ∧
    2 ≤ (prof 3 live).profile.phase ∧
    (prof 3 live).profile.phase ≤ 4 ∧
    2 < 2 ^ 32 := by
  refine ⟨?_, ?_, ?_, ?_, ?_, ?_, ?_, ?_, ?_, ?_, ?_, ?_, ?_, ?_, ?_, ?_, ?_, ?_, ?_, ?_, ?_, ?_, ?_, ?_, ?_, ?_, ?_, ?_, ?_, ?_, ?_, ?_,
    ?_, ?_, ?_, ?_, ?_, ?_, ?_, ok_of _ _ ?_, ?_, ?_, ?_, ?_, ?_, ?_, ok_of _ _ ?_, ?_, ?_, ?_, ?_, ?_, ?_, ?_, ?_⟩ <;> decide +kernel

theorem meets_ProfileLimits :
    0 ≤ 5 ∧
    0 < 2 ^ 32 ∧
    (prof 0 live).permit Origin.operator (limitReg 0) 0 = Except.ok (prof 0 live) ∧
    (prof 0 live).auditFull = false ∧
    256 < (prof 0 live).logFree ∧
    (prof 0 live).enabled 15 = true ∧
    (prof 0 live).limitOk 0 0 = false ∧
    1 ≤ 5 ∧
    (prof 0 live).limit 1 < 2 ^ 32 ∧
    (prof 0 live).permit Origin.operator (limitReg 1) ((prof 0 live).limit 1) = Except.ok (prof 0 live) ∧
    ((prof 0 live).enabled 15 = false ∨ (prof 0 live).limitOk 1 ((prof 0 live).limit 1) = true) ∧
    ((prof 0 live).limit 1 ≤ (prof 0 live).limit 1 ∨ (prof 0 live).profRuns = false ∨ 1 % 3 ≠ 0 ∧ (prof 0 live).limitLate 1 ((prof 0 live).limit 1) = false) ∧
    1 < 2 ^ 32 ∧
    braking.permit Origin.operator (limitReg 0) 1 = Except.ok braking ∧
    braking.auditFull = false ∧
    256 < braking.logFree ∧
    braking.limitOk 0 1 = true ∧
    1 < braking.limit 0 ∧
    braking.profRuns = true ∧
    0 % 3 = 0 ∧
    ((if 0 < 3 then braking.profile.y else braking.profile.x).v.natAbs > 1 * 65536) ∧
    braking.permit Origin.operator (limitReg 1) 1 = Except.ok braking ∧
    braking.limitOk 1 1 = true ∧
    1 < braking.limit 1 ∧
    1 % 3 ≠ 0 ∧
    braking.limitLate 1 1 = true := by
  refine ⟨?_, ?_, ok_of _ _ ?_, ?_, ?_, ?_, ?_, ?_, ?_, ok_of _ _ ?_, ?_, ?_, ?_, ok_of _ _ ?_, ?_, ?_, ?_, ?_, ?_, ?_, ?_, ok_of _ _ ?_,
    ?_, ?_, ?_, ?_⟩ <;> decide +kernel

def sealedBlock : List Byte :=
  let body := leBytes 4 0x31505350 ++ [1, 1, 0, 0] ++ leBytes 4 7 ++ leBytes 4 1 ++ leBytes 4 3 ++ leBytes 4 0 ++ leBytes 4 16 ++ leBytes 4 52 ++
    List.replicate 16 9 ++ List.replicate 16 8 ++ leBytes 4 80 ++ leBytes 4 1 ++ leBytes 4 0x444E4550
  body ++ leBytes 4 (crcC body)
def pushCmd : Cmd := { cmd 1 3 with len := 80 }
def pushing : State := { cmds [pushCmd] live with frames := [] }
def stopped : Stripe := { wr with st := .contained, ckpt := 1, held := 3, goCmd := 1, cause := 99, ckptCmds := [2] }
def verifying : Stripe := { stopped with ckpt := 2 }
def settles : State := cmds [acted 1 6, acted 2 8] (run [stopped] (fly frm live))
def nine (s : State) : State := { s with ckptUnits := (List.range 9).map (fun u => (u, [3])) }
def verifies' : State := cmds [acted 1 6, acted 2 8] (nine (run [verifying] live))
def failsOnce : State := nine (run [verifying] live)
def tried : Stripe := { verifying with ckptTry := 9 }
def failsTwice : State := nine (run [tried] live)
def beamOn : State := { writing with beamOff := false }
def beamLow : State := { writing with beamOff := true }
def clearing : Instr := .interlockLatchedClear .operator 2
def shading : Instr := .forceShade .operator 0x10002
def latched : State := regs [(R.SYS_INTERLOCK, 2)] live
def dies (n : Nat) : Instr := if n = 0 then .supplyExcursion 3 0 else if n = 1 then .sysClockLoss else if n = 2 then .sysWatchdog else if n = 3 then .sysStateParity 3 else .hbmStackFault 3
def entries5 : State := { live with log := { live.log with used := 5 } }
def resets (n : Nat) : Instr := if n = 0 then .deviceReset .operator 0xD5 else if n = 1 then .pcieFundamentalReset else if n = 2 then .mainRailsLost else .supplyExcursion 0 0
def found : BootFound := { beamOffLow := true, vbatLost := false, rates := [], rankFails := [], pending := 0, bells := [], keepBad := [], dirAhead := false, slotBad := [], linkRate := .g64, linkWidth := .x16 }
def asks (v ph : Nat) : State := { regs [(R.SYS_POWER_REQ, v)] up with phase := ph }
def wakes : State := { dusk (regs [(R.CLK_REQ, 0x300)] up) with phase := 3 }
def clocked : State := regs [(R.CLK_REQ, 0x200), (R.CLK_ON, 0x200)] up
def warm (c lo : Nat) (above below : List Nat) : State := { writing with tclasses := [(c, { level := lo, above, below })] }
def masked : State := regs [(0x2018, 2)] (warm 1 0 [8, 8, 8] [])
def bad5 : State := { writing with sensors := [(5, { bad := 3 })] }
def failed5 : State := { writing with sensors := [(5, { good := 8, failed := true })] }
def owes (n : Nat) : State := { up with drams := [(1, { postponed := [(2, n)] })] }
def leaves : State := { up with drams := [(1, { selfRef := 2 })] }
def migrates (seg : Nat) : State := { up with ranks := { st := 1, src := 3, dst := 11, seg } }
def fills (l : List Nat) : State := { writing with sram := { writing.sram with fillRegions := l } }
def bells3 : List (BitVec 64 × BitVec 8) := [bellCopy 5 1, (bellCopy 5 1).map (· + 2) id, bellCopy 5 1]
def bellsNone : List (BitVec 64 × BitVec 8) := [(1, 0), (2, 0), (3, 0)]
def moves : FenceE := ⟨77, none, false, true⟩
def fencing : State := { writing with sram := { writing.sram with fences := [⟨76, none, true, false⟩, moves] } }

set_option maxRecDepth 1000000 in
theorem meets_GeometryCached :
    pushing.Inv ∧
    pushing.begun 1 3 = some pushCmd ∧
    bufFits pushCmd (some sealedBlock) = true ∧
    pushing.slotOf pushCmd.jobId = some 0 ∧
    (pushing.job 0).status = 1 ∧
    pushForm sealedBlock = none ∧
    pushing.pushHost pushCmd (envOf sealedBlock) = none ∧
    (envOf sealedBlock).jobId = pushCmd.jobId ∧
    (envOf sealedBlock).block ≠ 0 ∧
    (envOf sealedBlock).block < 2 ^ 32 ∧
    (pushing.job 0).reqs = [] ∧
    pushing.frameOf 0 (envOf sealedBlock).block = none ∧
    pushing.cacheFree ≠ 0 ∧
    pushing.pushWaits pushCmd = false := by
  refine ⟨inv_of _ ?_, ?_, ?_, ?_, ?_, ?_, ?_, ?_, ?_, ?_, ?_, ?_, ?_, ?_⟩ <;> decide +kernel

theorem meets_ContainmentSettles :
    settles.Inv ∧
    settles.containedS = some stopped ∧
    settles.writing = none ∧
    settles.fatal = 0 ∧
    stopped.ckpt = 1 ∧
    stopped.aborting = false ∧
    stopped.aborts = [] ∧
    (∀ w ∈ settles.hold, w.ord = stopped.ord) ∧
    (verifies'.Inv) ∧
    (verifies'.containedS = some verifying) ∧
    (verifies'.fatal = 0) ∧
    (verifying.ckpt = 2) ∧
    (∀ u < 9, (kget? verifies'.ckptUnits u).isSome = true) ∧
    ((List.filter (verifies'.bellStuck 4) (List.range 3)).length < 2) ∧
    (verifies'.bellStuck 4 2 = false) ∧
    failsOnce.Inv ∧
    (failsOnce.containedS = some verifying) ∧
    failsOnce.writing = none ∧
    failsOnce.fatal = 0 ∧
    (verifying.ckptTry = 0) ∧
    false = false ∧
    260 < failsOnce.logFree ∧
    failsTwice.Inv ∧
    failsTwice.containedS = some tried ∧
    failsTwice.writing = none ∧
    failsTwice.fatal = 0 ∧
    tried.ckpt = 2 ∧
    tried.ckptTry ≠ 0 ∧
    (failsTwice.job tried.slot).status = 1 ∧
    (∀ c ∈ failsTwice.host.cmds, c.opcode = 14 → c.ran = false) := by
  refine ⟨inv_of _ ?_, ?_, ?_, ?_, ?_, ?_, ?_, ?_, inv_of _ ?_, ?_, ?_, ?_, ?_, ?_, ?_, inv_of _ ?_, ?_, ?_, ?_, ?_, ?_, ?_, inv_of _ ?_,
    ?_, ?_, ?_, ?_, ?_, ?_, ?_⟩ <;> decide +kernel

theorem meets_InterlockActs :
    beamOn.beamOff = false ∧
    beamOn.power ≠ Power.night ∧
    beamOn.booted = true ∧
    beamOn.fatal = 0 ∧
    beamLow.power ≠ Power.night ∧
    beamLow.booted = true ∧
    (clearing = Instr.interlockLatchedClear Origin.operator 2 ∨ clearing = Instr.forceShade Origin.operator 2) ∧
    2 < 2 ^ 32 ∧
    latched.permit Origin.operator R.SYS_INTERLOCK 2 = Except.ok latched ∧
    latched.auditFull = false ∧
    (shading = Instr.interlockLatchedClear Origin.operator 65538 ∨ shading = Instr.forceShade Origin.operator 65538) ∧
    65538 < 2 ^ 32 ∧
    latched.permit Origin.operator R.SYS_INTERLOCK 65538 = Except.ok latched ∧
    fieldOf 65538 16 16 = 1 := by
  refine ⟨?_, ?_, ?_, ?_, ?_, ?_, ?_, ?_, ok_of _ _ ?_, ?_, ?_, ?_, ok_of _ _ ?_, ?_⟩ <;> decide +kernel

theorem meets_DeviceFatalEnds :
    writing.Inv ∧
    writing.booted = true ∧
    writing.power ≠ Power.night ∧
    writing.fatal = 0 ∧
    (dies 0 = Instr.supplyExcursion 3 0 ∧ 1 ≤ 3 ∧ 3 ≤ 6 ∧ ¬((writing.railWindow 3).1 ≤ 0 ∧ 0 ≤ (writing.railWindow 3).2) ∧ writing.nightReady = false ∧ Code.SYS_SUPPLY = Code.SYS_SUPPLY ∨ dies 0 = Instr.sysClockLoss ∧ Code.SYS_SUPPLY = Code.SYS_CLOCK_LOSS ∨ dies 0 = Instr.sysWatchdog ∧ writing.fold.fwRuns = true ∧ Code.SYS_SUPPLY = Code.SYS_WATCHDOG ∨ dies 0 = Instr.sysStateParity 3 ∧ 3 ≤ 28 ∧ Code.SYS_SUPPLY = Code.SYS_STATE_PARITY ∨ dies 0 = Instr.hbmStackFault 3 ∧ 3 ≤ 3 ∧ writing.power = Power.day ∧ Code.SYS_SUPPLY = (22 + 3) * 256 + 78) ∧
    entries5.permit Origin.operator R.SYS_ERRLOG_HEAD 3 = Except.ok entries5 ∧
    entries5.auditFull = false ∧
    3 < 2 ^ 32 ∧
    (fieldOf 3 13 0 + 16384 - entries5.fld R.SYS_ERRLOG_HEAD 13 0) % 16384 ≤ entries5.log.used ∧
    entries5.permit Origin.operator R.SYS_ERRLOG_HEAD 9 = Except.ok entries5 ∧
    9 < 2 ^ 32 ∧
    entries5.log.used < (fieldOf 9 13 0 + 16384 - entries5.fld R.SYS_ERRLOG_HEAD 13 0) % 16384 ∧
    256 < entries5.logFree := by
  refine ⟨inv_of _ ?_, ?_, ?_, ?_, ?_, ok_of _ _ ?_, ?_, ?_, ?_, ok_of _ _ ?_, ?_, ?_, ?_⟩ <;> decide +kernel

theorem meets_ResetsAndPowerUp :
    (resets 0 = Instr.deviceReset Origin.operator 213 ∧ writing.permit Origin.operator R.SYS_DEVICE_RESET 213 = Except.ok writing ∧ 213 % 256 = 213 ∧ 4 = 4 ∨ resets 0 = Instr.pcieFundamentalReset ∧ writing.power ≠ Power.night ∧ writing.booted = true ∧ 4 = 2 ∨ resets 0 = Instr.mainRailsLost ∧ writing.power ≠ Power.night ∧ 4 = 0 ∨ resets 0 = Instr.supplyExcursion 0 0 ∧ ¬((writing.railWindow 0).1 ≤ 0 ∧ 0 ≤ (writing.railWindow 0).2) ∧ writing.power ≠ Power.night ∧ writing.booted = true ∧ writing.nightReady = false ∧ 4 = 0) ∧
    4 ≠ 0 ∧
    (resets 2 = Instr.deviceReset Origin.operator 213 ∧ writing.permit Origin.operator R.SYS_DEVICE_RESET 213 = Except.ok writing ∧ 213 % 256 = 213 ∧ 0 = 4 ∨ resets 2 = Instr.pcieFundamentalReset ∧ writing.power ≠ Power.night ∧ writing.booted = true ∧ 0 = 2 ∨ resets 2 = Instr.mainRailsLost ∧ writing.power ≠ Power.night ∧ 0 = 0 ∨ resets 2 = Instr.supplyExcursion 0 0 ∧ ¬((writing.railWindow 0).1 ≤ 0 ∧ 0 ≤ (writing.railWindow 0).2) ∧ writing.power ≠ Power.night ∧ writing.booted = true ∧ writing.nightReady = false ∧ 0 = 0) ∧
    0 = 0 ∧
    State.reset.booted = false ∧
    found.vbatLost = false := by
  refine ⟨.inl ⟨rfl, ok_of _ _ ?_, ?_, ?_⟩, ?_, .inr (.inr (.inl ⟨rfl, ?_, ?_⟩)), ?_, ?_, ?_⟩ <;> decide +kernel

theorem meets_PowerAndClocksChange :
    up.auditFull = false ∧
    up.nightReady = false ∧
    up.permit Origin.operator R.SYS_POWER_REQ 1 = Except.ok up ∧
    up.permit Origin.operator R.SYS_POWER_REQ 2 = Except.ok up ∧
    up.nightBusy = false ∧
    up.permit Origin.operator R.SYS_POWER_REQ 0 = Except.ok up ∧
    up.power = Power.day ∧
    (job up).auditFull = false ∧
    (job up).nightReady = false ∧
    (job up).permit Origin.operator R.SYS_POWER_REQ 2 = Except.ok (job up) ∧
    (job up).nightBusy = true ∧
    256 < (job up).logFree ∧
    (asks 1 1).booted = true ∧
    (asks 1 1).power = Power.day ∧
    (asks 1 1).fatal = 0 ∧
    (asks 1 1).fld R.SYS_POWER_REQ 1 0 = 1 ∧
    (asks 1 1).phase = 1 ∧
    (asks 1 1).duskFree = true ∧
    (asks 1 2).booted = true ∧
    (asks 1 2).power = Power.day ∧
    (asks 1 2).fatal = 0 ∧
    (asks 1 2).phase = 2 ∧
    ((asks 1 2).fld R.SYS_POWER_REQ 1 0 = 1 ∨ (asks 1 2).fld R.SYS_POWER_REQ 1 0 = 2) ∧
    (asks 1 2).fld R.SYS_POWER_REQ 1 0 = 1 ∧
    (asks 1 2).nightReady = false ∧
    (asks 2 2).booted = true ∧
    (asks 2 2).power = Power.day ∧
    (asks 2 2).fatal = 0 ∧
    (asks 2 2).phase = 2 ∧
    ((asks 2 2).fld R.SYS_POWER_REQ 1 0 = 1 ∨ (asks 2 2).fld R.SYS_POWER_REQ 1 0 = 2) ∧
    (asks 2 2).fld R.SYS_POWER_REQ 1 0 = 2 ∧
    2 ≠ 4 ∧
    wakes.power = Power.dusk ∧
    wakes.phase = 3 ∧
    wakes.fatal = 0 ∧
    300 ≤ 2000 ∧
    wakes.nightReady = false ∧
    9 ≤ 28 ∧
    up.booted = true ∧
    up.clkRuns 9 = false ∧
    up.clockHeld = false ∧
    777 ≤ 20000 ∧
    up.power ≠ Power.night ∧
    up.keepsClk 9 = false ∧
    up.pageBusy 9 = false := by
  refine ⟨?_, ?_, ok_of _ _ ?_, ok_of _ _ ?_, ?_, ok_of _ _ ?_, ?_, ?_, ?_, ok_of _ _ ?_, ?_, ?_, ?_, ?_, ?_, ?_, ?_, ?_, ?_, ?_, ?_, ?_,
    ?_, ?_, ?_, ?_, ?_, ?_, ?_, ?_, ?_, ?_, ?_, ?_, ?_, ?_, ?_, ?_, ?_, ?_, ?_, ?_, ?_, ?_, ?_⟩ <;> decide +kernel

theorem meets_HeatLevels :
    writing.booted = true ∧
    writing.power ≠ Power.night ∧
    (warm 0 0 [8, 8, 8] []).booted = true ∧
    (warm 0 0 [8, 8, 8] []).power ≠ Power.night ∧
    0 ≤ 2 ∧
    3 ≤ 3 ∧
    ((warm 0 0 [8, 8, 8] []).tclass 0).level < 3 ∧
    8 ≤ ((warm 0 0 [8, 8, 8] []).tclass 0).above.getD (3 - 1) 0 ∧
    3 = 3 ∧
    (warm 0 0 [8, 8, 8] []).active = some wr ∧
    wr.st = StripeSt.writing ∧
    (warm 1 0 [8, 8, 8] []).booted = true ∧
    (warm 1 0 [8, 8, 8] []).power ≠ Power.night ∧
    1 ≤ 2 ∧
    2 ≤ 3 ∧
    ((warm 1 0 [8, 8, 8] []).tclass 1).level < 2 ∧
    8 ≤ ((warm 1 0 [8, 8, 8] []).tclass 1).above.getD (2 - 1) 0 ∧
    2 ≤ 2 ∧
    (warm 1 0 [8, 8, 8] []).fld 8216 1 1 = 0 ∧
    256 < (warm 1 0 [8, 8, 8] []).logFree ∧
    masked.booted = true ∧
    masked.power ≠ Power.night ∧
    (masked.tclass 1).level < 2 ∧
    8 ≤ (masked.tclass 1).above.getD (2 - 1) 0 ∧
    masked.fld 8216 1 1 = 1 ∧
    (warm 1 2 [] [8, 8, 8]).booted = true ∧
    (warm 1 2 [] [8, 8, 8]).power ≠ Power.night ∧
    0 < ((warm 1 2 [] [8, 8, 8]).tclass 1).level ∧
    (∀ n < 3, 0 ≤ n → n < ((warm 1 2 [] [8, 8, 8]).tclass 1).level → ((warm 1 2 [] [8, 8, 8]).tclass 1).below.getD n 0 = 8) ∧
    (((warm 1 2 [] [8, 8, 8]).tclass 1).relax = false ∨ 2 ≤ 0) ∧
    bad5.booted = true ∧
    bad5.power ≠ Power.night ∧
    bad5.sensorClass 5 ≤ 2 ∧
    (bad5.sensor 5).failed = false ∧
    ((if 48 ≤ 5 ∧ 5 < 128 then 3 else 1) ≤ (bad5.sensor 5).bad) ∧
    (bad5.headAbsent = false ∨ bad5.sensorClass 5 ≠ 1 ∨ 128 ≤ 5) ∧
    failed5.booted = true ∧
    failed5.power ≠ Power.night ∧
    (failed5.sensor 5).failed = true ∧
    8 ≤ (failed5.sensor 5).good ∧
    failed5.permit Origin.operator R.THERM_ACK 5 = Except.ok failed5 ∧
    (Origin.operator = Origin.operator ∨ Origin.operator = Origin.owner) ∧
    failed5.auditFull = false ∧
    (failed5.sensor (fieldOf 5 7 0)).failed = true ∧
    writing.permit Origin.operator R.THERM_ACK 5 = Except.ok writing ∧
    writing.auditFull = false ∧
    (writing.sensor (fieldOf 5 7 0)).failed = false ∧
    256 < writing.logFree := by
  refine ⟨?_, ?_, ?_, ?_, ?_, ?_, ?_, ?_, ?_, ?_, ?_, ?_, ?_, ?_, ?_, ?_, ?_, ?_, ?_, ?_, ?_, ?_, ?_, ?_, ?_, ?_, ?_, ?_, ?_, ?_, ?_, ?_,
    ?_, ?_, ?_, ?_, ?_, ?_, ?_, ?_, ok_of _ _ ?_, ?_, ?_, ?_, ok_of _ _ ?_, ?_, ?_, ?_⟩ <;> decide +kernel

theorem meets_MemoryServes :
    1 ≤ 3 ∧
    2 ≤ 15 ∧
    ((owes 3).stack 1).selfRef = 0 ∧
    (kget (fun (x : ℕ) => 0) ((owes 3).stack 1).postponed 2 < 4) ∧
    0 ≤ 24575 ∧
    (leaves.stack 1).selfRef = 2 ∧
    19088743 < 141733920768 ∧
    up.power = Power.day ∧
    (up.stack (up.readRank 19088743 / 3)).selfRef = 0 ∧
    ((up.since (kget (fun (x : ℕ) => []) up.ranks.ces (up.readRank 19088743)) 3600).length + 1 ≤ up.fld R.HBM0_CE_THRESHOLD 15 0) ∧
    256 < up.logFree ∧
    ((up.since (kget (fun (x : ℕ) => []) up.ranks.ues (up.readRank 19088743)) 86400).length ≤ 1) ∧
    up.poisoned 19088743 = false ∧
    (268435456 ≤ 19088743 ∨ true = true) ∧
    up.Inv ∧
    up.fatal = 0 ∧
    up.booted = true ∧
    19088743 < 268435456 ∧
    (on [22] up).permit Origin.owner R.HBM0_RETIRE 3 = Except.ok (on [22] up) ∧
    256 < (on [22] up).logFree ∧
    (List.filter ((on [22] up).bellStuck 5) (List.range 3)).length < 2 ∧
    fieldOf 3 3 0 ≤ 10 ∧
    (on [22] up).ranks.st ≠ 1 ∧
    (on [22] up).spareRank ≠ 15 ∧
    (on [22] up).permit Origin.owner R.HBM0_RETIRE 11 = Except.ok (on [22] up) ∧
    10 < fieldOf 11 3 0 ∧
    (migrates 5).ranks.st = 1 ∧
    (migrates 5).power = Power.day ∧
    (List.filter ((migrates 5).bellStuck 5) (List.range 3)).length < 2 ∧
    0 ≤ 1 ∧
    (migrates 5).ranks.seg + 1 < 192 ∧
    (migrates 191).ranks.st = 1 ∧
    (migrates 191).power = Power.day ∧
    (List.filter ((migrates 191).bellStuck 5) (List.range 3)).length < 2 ∧
    1 ≤ 1 ∧
    192 ≤ (migrates 191).ranks.seg + 1 ∧
    (migrates 191).ranks.dst < 16 ∧
    256 < (migrates 191).logFree ∧
    2 ≤ 2 ∧
    256 < (migrates 5).logFree := by
  refine ⟨?_, ?_, ?_, ?_, ?_, ?_, ?_, ?_, ?_, ?_, ?_, ?_, ?_, ?_, inv_of _ ?_, ?_, ?_, ?_, ok_of _ _ ?_, ?_, ?_, ?_, ?_, ?_, ok_of _ _ ?_,
    ?_, ?_, ?_, ?_, ?_, ?_, ?_, ?_, ?_, ?_, ?_, ?_, ?_, ?_, ?_⟩ <;> decide +kernel

theorem meets_SramRepairs :
    up.permit Origin.operator R.SRAM_FILL 259 = Except.ok up ∧
    up.auditFull = false ∧
    259 < 2 ^ 32 ∧
    fieldOf 259 8 8 = 1 ∧
    (fieldOf 259 3 0 ≤ 9 ∨ fieldOf 259 3 0 = 15) ∧
    up.sram.fillRegions = [] ∧
    (∀ g ∈ fillRegionsOf (fieldOf 259 3 0), ∀ p ∈ regionOwners g, up.enabled p = false) ∧
    (on [12, 13] up).permit Origin.operator R.SRAM_FILL 256 = Except.ok (on [12, 13] up) ∧
    (on [12, 13] up).auditFull = false ∧
    256 < 2 ^ 32 ∧
    fieldOf 256 8 8 = 1 ∧
    (fieldOf 256 3 0 ≤ 9 ∨ fieldOf 256 3 0 = 15) ∧
    256 < (on [12, 13] up).logFree ∧
    ((on [12, 13] up).sram.fillRegions ≠ [] ∨ ∃ g ∈ fillRegionsOf (fieldOf 256 3 0), ∃ p ∈ regionOwners g, (on [12, 13] up).enabled p = true) ∧
    (fills [0, 1, 5]).sram.fillRegions ≠ [] ∧
    0 ∈ (fills [0, 1, 5]).sram.fillRegions ∧
    1 ∈ (fills [0, 1, 5]).sram.fillRegions ∧
    5 ∈ (fills [0, 1, 5]).sram.fillRegions ∧
    (fills [2]).sram.fillRegions ≠ [] ∧
    0 ∉ (fills [2]).sram.fillRegions ∧
    1 ∉ (fills [2]).sram.fillRegions ∧
    5 ∉ (fills [2]).sram.fillRegions ∧
    (List.findIdx? (fun (x : FenceE) => x.moving) fencing.sram.fences = some 1) ∧
    fencing.sram.fences[1]? = some moves ∧
    256 < fencing.logFree ∧
    5 ≤ 63 ∧
    bells3.length = 3 ∧
    writing.power ≠ Power.night ∧
    writing.booted = true ∧
    bellVote 5 bells3 = some (1, 1) ∧
    0 < 1 ∧
    256 < writing.logFree ∧
    5 ≠ 3 ∧
    bellsNone.length = 3 ∧
    writing.Inv ∧
    writing.fatal = 0 ∧
    bellVote 5 bellsNone = none := by
  refine ⟨ok_of _ _ ?_, ?_, ?_, ?_, ?_, ?_, ?_, ok_of _ _ ?_, ?_, ?_, ?_, ?_, ?_, ?_, ?_, ?_, ?_, ?_, ?_, ?_, ?_, ?_, ?_, ?_, ?_, ?_, ?_,
    ?_, ?_, ?_, ?_, ?_, ?_, ?_, inv_of _ ?_, ?_, ?_⟩ <;> decide +kernel

def crcs : State := on [20] up
def sets (l : List (Nat × Nat)) (s : State) : State := regs (l.map (fun x => (engReg 2 x.1, x.2))) s
def checks : State := sets [(R.CRC_E_LEN, 63), (R.CRC_E_CFG, 0x30100)] crcs
def lines : State := sets [(R.CRC_E_LEN, 64)] crcs
def jobs : State := { sets [(R.CRC_E_LEN, 3)] crcs with engines := [(2, { run := 1 })] }
def record11 : List Byte :=
  let b := leBytes 4 0x11 ++ leBytes 4 16 ++ leBytes 8 0 ++ leBytes 16 5
  b ++ leBytes 4 (crcC b)
def stages : State := regs ((R.KEEP_SEL, 0x11) :: (List.range 9).map (fun i => (0x6800 + 4 * i, leAt record11 (4 * i) 4))) up
def kept : KeepRec := { typ := 0x11, inst := 0, gen := 1, written := 1, payload := List.replicate 16 3 }
def keeps (sel : Nat) : State := { regs [(R.KEEP_SEL, sel)] up with keep := [kept] }
def aged : State := { up with age := { up.age with hours := 720 } }
def steps (n : Nat) : State := { up with age := { up.age with voltDue := 2, voltPending := 2, avsFails := n } }
def owned2 : State := { live with fold := { live.fold with nonce := some 5, ownerKey := some 6, tamperHold := true } }
def nightly : State := { up with power := .night }
def tampers (n : Nat) : State := regs [(R.FOLD_TAMPER_CFG, n)] live
def ar (n c : Nat) : AuditSlot := .record ⟨n, 1, 0, 0, 0, 5, 1, 2, [], 0, c⟩
def audited : State := { live with audit := { live.audit with pool := [ar 2 77, ar 1 66], nextSeq := 3, chain := 77, sinceSign := 2, entered := 2 } }
def signing (n : Nat) : State := { audited with audit := { audited.audit with signing := some (2, 77), exportSign := n } }
def ready' (n : Nat) : State := { regs [(R.AUDIT_EXPORT_STATE, n), (R.AUDIT_EXPORT_LAST_L, 2)] audited with audit := { audited.audit with exportSign := 3 } }
def made' (l : List Byte) (retry : Bool) : State :=
  let s := { on [8] audited with codecEng := { ver := [5] }, sram := { audited.sram with filled := 0x3FF } }
  ({ s with audit := { s.audit with exportSign := 3, exportCount := 2 } }).setCtx 5 { mode := 2, st := 1, inp := l, space := 64, out := unit [1, 2, 3], purp := 2, retry }
def stands : State := { ready' 1 with audit := { (ready' 1).audit with exportMade := some (unit [1]) } }
def exported : State := { ready' 2 with audit := { audited.audit with exportCount := 2 } }
def ptp : State := regs [(R.TIME_PTP_CFG, 1)] (on [5] up)
def synced : State := { regs [(R.TIME_GM_ID_L, 7)] ptp with clock := { up.clock with exchanges := 5, gm := 1, sec := 100, frac := 5555 } }
def stepped : State := regs [(R.TIME_STEP_USED, 1)] up
def hello' : BitVec 128 := packetOf 1 5 0 1 0 0 (2 ^ 14)
def level' (l : Nat) : BitVec 128 := packetOf 2 5 4095 3 0 0 (l * 2 ^ 48)
def wake' : BitVec 128 := packetOf 3 5 4095 3 0 0 (2 ^ 55)
def mgmt' : BitVec 128 := packetOf 0x40 5 4095 3 0 0 0
def alive' : BitVec 128 := packetOf 0x13 5 4095 3 0 4 (2 ^ 17)
def broken : BitVec 128 := hello' + 1
def links : State := ring up
def seen5 : State := { links with ivdon := { links.ivdon with seen := [(5 * 256, 0)] } }
def grouped' (lead : Nat) (s : State) : State :=
  let s := ring s
  regs [(R.IVDON_GROUP_CFG, 0x10000 * s.syncLevel + 0x401), (R.IVDON_GROUP_LEAD, 0x20000 + lead)] s
def down (st prev : Nat) : State := { links with ivdon := { links.ivdon with ports := [(1, { st, prevRate := prev })] } }
def lower : State := { links with ivdon := { links.ivdon with ring := 0, ownLevel := 2, offers := [(5, 1)] } }
def badHello : Instr := .hello 1 broken
def passed : State := nextOr (exec (.level 1 (level' 0)) links) links
def leads : State := grouped' 0 live
def member : State := grouped' 9 writing
def hasOne : State := { leads with ivdon := { leads.ivdon with readyFrom := [7] } }
def still' : State := { member with drover := { member.drover with st := 3 } }
def free' : State := grouped' 9 (run [{ stripe .waiting with bandsDone := 2, staged := 2, prepass := 4, goCmd := 1 }] live)
def epoch' (t e : Nat) : BitVec 128 := packetOf t 5 0 3 0 4 (e * 2 ^ 24)
def wrongBase : Nat × Nat := ((up.check 8).getD (0, 0))
def errs : State := regs [(0x1101C, 5), (0x11018, 5), (0x11010, 7)] live
def pinEdges : State := regs [(R.GPIO_EDGE, 0xFFFF), (R.GPIO_FUNC, 0x33333333)] (on [28] live)

theorem meets_CrcEnginesWork :
    2 ≤ 7 ∧
    lines.enabled 20 = true ∧
    lines.crcBusy 2 = false ∧
    lines.permit Origin.operator (engReg 2 R.CRC_E_CMD) 1 = Except.ok lines ∧
    lines.permit Origin.operator (engReg 2 R.CRC_E_CMD) 2 = Except.ok lines ∧
    lines.permit Origin.operator (engReg 2 R.CRC_E_DATA) 305419896 = Except.ok lines ∧
    checks.enabled 20 = true ∧
    checks.crcBusy 2 = false ∧
    checks.permit Origin.firmware (engReg 2 R.CRC_E_CMD) 2 = Except.ok checks ∧
    checks.rangeBad (checks.engSrc 2).1 (checks.rd (engReg 2 R.CRC_E_LEN)) (checks.engSrc 2).2 = false ∧
    (Origin.firmware = Origin.firmware ∨ rangeOpen (checks.engSrc 2).1 (checks.rd (engReg 2 R.CRC_E_LEN)) (checks.engSrc 2).2 = true) ∧
    checks.permit Origin.firmware (engReg 2 R.CRC_E_CMD) 4 = Except.ok checks ∧
    checks.fld (engReg 2 R.CRC_E_CFG) 8 8 = 1 ∧
    256 < checks.logFree ∧
    jobs.enabled 20 = true ∧
    (jobs.engine 2).run = 1 ∧
    [1, 2, 3].length = jobs.rd (engReg 2 R.CRC_E_LEN) ∧
    256 < jobs.logFree := by
  refine ⟨?_, ?_, ?_, ok_of _ _ ?_, ok_of _ _ ?_, ok_of _ _ ?_, ?_, ?_, ok_of _ _ ?_, ?_, ?_, ok_of _ _ ?_, ?_, ?_, ?_, ?_, ?_, ?_⟩ <;> decide +kernel

theorem meets_KeepHolds :
    stages.permit Origin.owner R.KEEP_CMD 2 = Except.ok stages ∧
    stages.auditFull = false ∧
    keepWriter Origin.owner (stages.rd R.KEEP_SEL % 65536) = true ∧
    stages.stageOk stages.stageBytes = true ∧
    (keeps 48).permit Origin.owner R.KEEP_CMD 2 = Except.ok (keeps 48) ∧
    (keeps 48).auditFull = false ∧
    keepWriter Origin.owner ((keeps 48).rd R.KEEP_SEL % 65536) = false ∧
    256 < (keeps 48).logFree ∧
    (keeps 17).permit Origin.owner R.KEEP_CMD 1 = Except.ok (keeps 17) ∧
    (keeps 17).keepFind ((keeps 17).rd R.KEEP_SEL % 65536) ((keeps 17).rd R.KEEP_SEL / 65536) = some kept ∧
    (keeps 18).permit Origin.owner R.KEEP_CMD 1 = Except.ok (keeps 18) ∧
    (keeps 18).keepFind ((keeps 18).rd R.KEEP_SEL % 65536) ((keeps 18).rd R.KEEP_SEL / 65536) = none ∧
    (keeps 17).Inv ∧
    (keeps 17).power ≠ Power.night ∧
    (keeps 17).booted = true ∧
    (keeps 17).fatal = 0 ∧
    (∀ r ∈ (keeps 17).keep, r.ok0 = true ∧ r.ok1 = true ∧ r.ahead = none) ∧
    (List.Pairwise (fun (a b : KeepRec) => ¬(a.typ = b.typ ∧ a.inst = b.inst)) (keeps 17).keep) ∧
    (65536, 0) ∈ [(65536, 0), (65536, 1)] ∧
    (65536, 1) ∈ [(65536, 0), (65536, 1)] := by
  refine ⟨ok_of _ _ ?_, ?_, ?_, ?_, ok_of _ _ ?_, ?_, ?_, ?_, ok_of _ _ ?_, ?_, ok_of _ _ ?_, ?_, inv_of _ ?_, ?_, ?_, ?_, ?_, ?_, ?_, ?_⟩ <;> decide +kernel

theorem meets_AgeingRuns :
    up.booted = true ∧
    up.power ≠ Power.night ∧
    up.fatal = 0 ∧
    aged.booted = true ∧
    aged.power ≠ Power.night ∧
    aged.fatal = 0 ∧
    aged.age.hours ≠ 0 ∧
    aged.age.hours % 720 = 0 ∧
    (∀ e ∈ aged.age.trend, e.hours ≠ aged.age.hours) ∧
    aged.permit Origin.firmware R.AGE_REBASE 1 = Except.ok aged ∧
    fieldOf 1 0 0 = 1 ∧
    (steps 1).Inv ∧
    (steps 1).booted = true ∧
    (steps 1).power ≠ Power.night ∧
    (steps 1).fatal = 0 ∧
    (steps 1).age.voltDue ≠ 0 ∧
    (steps 1).age.avsFails < 2 ∧
    (steps 2).Inv ∧
    (steps 2).booted = true ∧
    (steps 2).power ≠ Power.night ∧
    (steps 2).fatal = 0 ∧
    (steps 2).age.voltDue ≠ 0 ∧
    2 ≤ (steps 2).age.avsFails := by
  refine ⟨?_, ?_, ?_, ?_, ?_, ?_, ?_, ?_, ?_, ok_of _ _ ?_, ?_, inv_of _ ?_, ?_, ?_, ?_, ?_, ?_, inv_of _ ?_, ?_, ?_, ?_, ?_, ?_⟩ <;> decide +kernel

theorem meets_DebugAndTamper :
    owned2.mbServed ∧
    owned2.fold.nonce = some 5 ∧
    owned2.fold.ownerKey = some 6 ∧
    256 < owned2.logFree ∧
    owned2.fold.tamperHold = true ∧
    up.mbServed ∧
    up.fold.tamperHold = false ∧
    live.booted = true ∧
    live.power ≠ Power.night ∧
    live.fatal = 0 ∧
    live.fold.debugOpen = false ∧
    3 ≤ 3 ∧
    (nightly.power = Power.night ∨ nightly.booted = false) ∧
    (tampers 0).power ≠ Power.night ∧
    (tampers 0).booted = true ∧
    (tampers 0).tamperResponse 3 = 0 ∧
    (tampers 13107).power ≠ Power.night ∧
    (tampers 13107).booted = true ∧
    2 ≤ (tampers 13107).tamperResponse 3 := by
  unfold State.mbServed
  refine ⟨?_, ?_, ?_, ?_, ?_, ?_, ?_, ?_, ?_, ?_, ?_, ?_, ?_, ?_, ?_, ?_, ?_, ?_, ?_⟩ <;> decide +kernel

theorem meets_AuditExports :
    audited.power ≠ Power.night ∧
    audited.booted = true ∧
    audited.audit.sinceSign ≠ 0 ∧
    audited.audit.signing = none ∧
    audited.audit.exportSign = 0 ∧
    (signing 2).audit.signing = some (2, 77) ∧
    (signing 2).power ≠ Power.night ∧
    (signing 2).auditFree ≠ 0 ∧
    (signing 2).audit.exportSign ≠ 1 ∧
    (signing 2).audit.exportSign = 2 ∧
    audited.permit Origin.owner R.AUDIT_EXPORT_CMD 1 = Except.ok audited ∧
    1 % 2 = 1 ∧
    audited.fld R.AUDIT_EXPORT_STATE 3 0 ≠ 1 ∧
    audited.fld R.AUDIT_EXPORT_STATE 3 0 ≠ 2 ∧
    exported.permit Origin.owner R.AUDIT_EXPORT_CMD 1 = Except.ok exported ∧
    exported.fld R.AUDIT_EXPORT_STATE 3 0 ≠ 1 ∧
    exported.fld R.AUDIT_EXPORT_STATE 3 0 = 2 ∧
    stands.power ≠ Power.night ∧
    stands.fatal = 0 ∧
    stands.fld R.AUDIT_EXPORT_STATE 3 0 = 1 ∧
    stands.audit.exportMade = some (unit [1]) ∧
    4 ≤ 5 ∧
    5 ≤ 7 ∧
    (made' [1, 2, 3] false).codecOn = true ∧
    ((made' [1, 2, 3] false).ctx 5).mode = 2 ∧
    ((made' [1, 2, 3] false).ctx 5).st = 1 ∧
    ((made' [1, 2, 3] false).ctx 5).purp = 2 ∧
    (made' [1, 2, 3] false).codecEng.ver.contains 5 = true ∧
    decodeUnit ((made' [1, 2, 3] false).ctx 5).out true ((made' [1, 2, 3] false).ctx 5).space = DecRes.done [1, 2, 3] ∧
    [1, 2, 3] = ((made' [1, 2, 3] false).ctx 5).inp ∧
    (made' [1, 2, 4] true).codecOn = true ∧
    ((made' [1, 2, 4] true).ctx 5).mode = 2 ∧
    ((made' [1, 2, 4] true).ctx 5).st = 1 ∧
    ((made' [1, 2, 4] true).ctx 5).purp = 2 ∧
    (made' [1, 2, 4] true).codecEng.ver.contains 5 = true ∧
    decodeUnit ((made' [1, 2, 4] true).ctx 5).out true ((made' [1, 2, 4] true).ctx 5).space = DecRes.done [1, 2, 3] ∧
    [1, 2, 3] ≠ ((made' [1, 2, 4] true).ctx 5).inp ∧
    ((made' [1, 2, 4] true).ctx 5).retry = true ∧
    256 < (made' [1, 2, 4] true).logFree ∧
    exported.permit Origin.owner R.AUDIT_EXPORT_ACK_L 1 = Except.ok exported ∧
    1 < 2 ^ 64 ∧
    exported.audit.exportedSeq ≤ 1 ∧
    1 ≤ exported.rd64 R.AUDIT_EXPORT_LAST_L ∧
    exported.audit.waiting = [] ∧
    exported.keepHeld = [] ∧
    exported.permit Origin.owner R.AUDIT_EXPORT_ACK_L 3 = Except.ok exported ∧
    3 < 2 ^ 64 ∧
    (3 < exported.audit.exportedSeq ∨ exported.rd64 R.AUDIT_EXPORT_LAST_L < 3) ∧
    256 < exported.logFree := by
  refine ⟨?_, ?_, ?_, ?_, ?_, ?_, ?_, ?_, ?_, ?_, ok_of _ _ ?_, ?_, ?_, ?_, ok_of _ _ ?_, ?_, ?_, ?_, ?_, ?_, ?_, ?_, ?_, ?_, ?_, ?_, ?_,
    ?_, ?_, ?_, ?_, ?_, ?_, ?_, ?_, ?_, ?_, ?_, ?_, ok_of _ _ ?_, ?_, ?_, ?_, ?_, ?_, ok_of _ _ ?_, ?_, ?_, ?_⟩ <;> decide +kernel

theorem meets_TimeKeeps :
    up.permit Origin.owner R.TIME_STEP 1 = Except.ok up ∧
    1 % 2 = 1 ∧
    (up.servoOwns = false ∨ Origin.owner = Origin.firmware) ∧
    up.fld R.TIME_STEP_USED 0 0 = 0 ∧
    stepped.permit Origin.owner R.TIME_STEP 1 = Except.ok stepped ∧
    (stepped.servoOwns = false ∨ Origin.owner = Origin.firmware) ∧
    stepped.fld R.TIME_STEP_USED 0 0 = 1 ∧
    256 < stepped.logFree ∧
    ptp.permit Origin.owner R.TIME_STEP 1 = Except.ok ptp ∧
    ptp.servoOwns = true ∧
    Origin.owner ≠ Origin.firmware ∧
    256 < ptp.logFree ∧
    up.power ≠ Power.night ∧
    up.booted = true ∧
    up.clockInc ≠ 0 ∧
    up.clock.frac < secondUnits ∧
    ptp.power ≠ Power.night ∧
    ptp.booted = true ∧
    ptp.servoRuns = true ∧
    ptp.fatal = 0 ∧
    (ptp.clock.gm = 0 ∨ ptp.rd64 R.TIME_GM_ID_L ≠ 7 % 2 ^ 64) ∧
    synced.power ≠ Power.night ∧
    synced.booted = true ∧
    synced.servoRuns = true ∧
    synced.fatal = 0 ∧
    3 ≤ synced.clock.exchanges ∧
    synced.clock.gm = 1 ∧
    synced.rd64 R.TIME_GM_ID_L = 7 % 2 ^ 64 ∧
    1000 * synced.rd R.TIME_STEP_THRESH < Int.natAbs 5000000000 ∧
    synced.fld R.TIME_STEP_USED 0 0 = 0 := by
  refine ⟨ok_of _ _ ?_, ?_, ?_, ?_, ok_of _ _ ?_, ?_, ?_, ?_, ok_of _ _ ?_, ?_, ?_, ?_, ?_, ?_, ?_, ?_, ?_, ?_, ?_, ?_, ?_, ?_, ?_, ?_, ?_,
    ?_, ?_, ?_, ?_, ?_⟩ <;> decide +kernel

theorem meets_IvdonServes :
    links.hears 1 = true ∧
    links.fatal = 0 ∧
    pktOk hello' = true ∧
    pktType hello' = 1 ∧
    links.seenPkt hello' = false ∧
    pktSrc hello' ≠ links.deviceNo ∧
    pktOk (level' 0) = true ∧
    links.seenPkt (level' 0) = false ∧
    pktSrc (level' 0) ≠ links.deviceNo ∧
    pktType (level' 0) = 2 ∧
    links.power = Power.day ∧
    pktField (level' 0) 71 64 < links.ivdon.ring ∧
    256 < links.logFree ∧
    pktOk (level' 1) = true ∧
    links.seenPkt (level' 1) = false ∧
    pktSrc (level' 1) ≠ links.deviceNo ∧
    pktType (level' 1) = 2 ∧
    links.ivdon.ring ≤ pktField (level' 1) 71 64 ∧
    seen5.hears 1 = true ∧
    seen5.fatal = 0 ∧
    seen5.seenPkt (level' 1) = true ∧
    (dusk links).hears 1 = true ∧
    (dusk links).fatal = 0 ∧
    pktOk wake' = true ∧
    (dusk links).seenPkt wake' = false ∧
    pktSrc wake' ≠ (dusk links).deviceNo ∧
    pktType wake' = 3 ∧
    (dusk links).power = Power.dusk ∧
    (dusk links).phase = 0 ∧
    (dusk links).nightReady = false ∧
    (pktField wake' 71 71 = 1 ∨ pktDst wake' = (dusk links).deviceNo) ∧
    pktOk mgmt' = true ∧
    links.seenPkt mgmt' = false ∧
    pktSrc mgmt' ≠ links.deviceNo ∧
    pktType mgmt' = 64 ∧
    (grouped' 9 up).hears 1 = true ∧
    (grouped' 9 up).fatal = 0 ∧
    pktOk alive' = true ∧
    (grouped' 9 up).seenPkt alive' = false ∧
    pktSrc alive' ≠ (grouped' 9 up).deviceNo ∧
    pktType alive' = 19 ∧
    (grouped' 9 up).power = Power.day ∧
    (grouped' 9 up).grouped = true ∧
    pktField alive' 79 72 = (grouped' 9 up).group ∧
    1 ≤ 3 ∧
    ((down 1 0).port 1).st = 1 ∧
    (down 1 0).power ≠ Power.night ∧
    1 ≤ 2 ∧
    ((down 1 0).fld R.IVDON_CFG 10 8).testBit 1 = true ∧
    ((down 1 0).port 1).prevRate ≤ 1 + 1 ∧
    0 ≤ 1 ∧
    256 < (down 1 0).logFree ∧
    ((down 1 3).port 1).st = 1 ∧
    (down 1 3).power ≠ Power.night ∧
    0 ≤ 2 ∧
    ((down 1 3).fld R.IVDON_CFG 10 8).testBit 0 = true ∧
    0 + 1 < ((down 1 3).port 1).prevRate ∧
    256 < (down 1 3).logFree ∧
    ((down 5 0).port 1).st = 5 ∧
    (down 5 0).power ≠ Power.night ∧
    links.permit Origin.operator R.IVDON_RETRAIN 15 = Except.ok links ∧
    links.enabled 19 = true ∧
    lower.power = Power.day ∧
    lower.booted = true ∧
    lower.ivdon.ring < lower.ivdon.ownLevel ∧
    (∀ x ∈ lower.ivdon.offers, lower.ivdon.ring < x.2) := by
  refine ⟨?_, ?_, ?_, ?_, ?_, ?_, ?_, ?_, ?_, ?_, ?_, ?_, ?_, ?_, ?_, ?_, ?_, ?_, ?_, ?_, ?_, ?_, ?_, ?_, ?_, ?_, ?_, ?_, ?_, ?_, ?_, ?_,
    ?_, ?_, ?_, ?_, ?_, ?_, ?_, ?_, ?_, ?_, ?_, ?_, ?_, ?_, ?_, ?_, ?_, ?_, ?_, ?_, ?_, ?_, ?_, ?_, ?_, ?_, ?_, ?_, ok_of _ _ ?_, ?_,
    ?_, ?_, ?_, ?_⟩ <;> decide +kernel

theorem meets_GroupsKeepEpochs :
    leads.hears 1 = true ∧
    leads.fatal = 0 ∧
    leads.power = Power.day ∧
    pktOk (epoch' 16 6) = true ∧
    leads.seenPkt (epoch' 16 6) = false ∧
    pktSrc (epoch' 16 6) ≠ leads.deviceNo ∧
    leads.grouped = true ∧
    pktField (epoch' 16 6) 79 72 = leads.group ∧
    pktType (epoch' 16 6) = 16 ∧
    leads.role = 2 ∧
    pktEpoch (epoch' 16 6) = (leads.ivdon.epoch + 1) % 2 ^ 32 ∧
    ((if leads.ivdon.readyFrom.contains (pktSrc (epoch' 16 6)) = true then leads.ivdon.readyFrom else pktSrc (epoch' 16 6) :: leads.ivdon.readyFrom).length < leads.fld R.IVDON_GROUP_LEAD 24 16) ∧
    hasOne.hears 1 = true ∧
    hasOne.fatal = 0 ∧
    hasOne.power = Power.day ∧
    hasOne.seenPkt (epoch' 16 6) = false ∧
    pktSrc (epoch' 16 6) ≠ hasOne.deviceNo ∧
    hasOne.grouped = true ∧
    pktField (epoch' 16 6) 79 72 = hasOne.group ∧
    hasOne.role = 2 ∧
    pktEpoch (epoch' 16 6) = (hasOne.ivdon.epoch + 1) % 2 ^ 32 ∧
    (hasOne.fld R.IVDON_GROUP_LEAD 24 16 ≤ (if hasOne.ivdon.readyFrom.contains (pktSrc (epoch' 16 6)) = true then hasOne.ivdon.readyFrom else pktSrc (epoch' 16 6) :: hasOne.ivdon.readyFrom).length) ∧
    hasOne.ivdon.containSeen ≠ hasOne.ivdon.epoch + 1 ∧
    member.hears 1 = true ∧
    member.fatal = 0 ∧
    member.power = Power.day ∧
    pktOk (epoch' 17 6) = true ∧
    member.seenPkt (epoch' 17 6) = false ∧
    pktSrc (epoch' 17 6) ≠ member.deviceNo ∧
    member.grouped = true ∧
    pktField (epoch' 17 6) 79 72 = member.group ∧
    pktType (epoch' 17 6) = 17 ∧
    pktEpoch (epoch' 17 6) = (member.ivdon.epoch + 1) % 2 ^ 32 ∧
    (∀ x ∈ member.stripes, x.st ≠ StripeSt.contained) ∧
    pktOk (epoch' 18 5) = true ∧
    member.seenPkt (epoch' 18 5) = false ∧
    pktSrc (epoch' 18 5) ≠ member.deviceNo ∧
    pktField (epoch' 18 5) 79 72 = member.group ∧
    pktType (epoch' 18 5) = 18 ∧
    pktEpoch (epoch' 18 5) = member.ivdon.epoch % 2 ^ 32 ∧
    member.ivdon.epoch ≠ 0 ∧
    member.active = some wr ∧
    wr.st = StripeSt.writing ∧
    member.drover.st ≠ 3 ∧
    member.drover.st ≠ 4 ∧
    still'.hears 1 = true ∧
    still'.fatal = 0 ∧
    still'.power = Power.day ∧
    still'.seenPkt (epoch' 18 5) = false ∧
    pktSrc (epoch' 18 5) ≠ still'.deviceNo ∧
    still'.grouped = true ∧
    pktField (epoch' 18 5) 79 72 = still'.group ∧
    pktEpoch (epoch' 18 5) = still'.ivdon.epoch % 2 ^ 32 ∧
    still'.ivdon.epoch ≠ 0 ∧
    still'.active = some wr ∧
    (still'.drover.st = 3 ∨ still'.drover.st = 4) ∧
    pktOk (epoch' 18 4) = true ∧
    member.seenPkt (epoch' 18 4) = false ∧
    pktSrc (epoch' 18 4) ≠ member.deviceNo ∧
    pktField (epoch' 18 4) 79 72 = member.group ∧
    pktType (epoch' 18 4) = 18 ∧
    pktEpoch (epoch' 18 4) ≠ member.ivdon.epoch % 2 ^ 32 ∧
    free'.power = Power.day ∧
    free'.booted = true ∧
    free'.grouped = true ∧
    free'.ivdon.epochGot = false ∧
    free'.ivdon.readySent ≠ free'.ivdon.epoch + 1 ∧
    free'.groupStart = true ∧
    free'.role = 1 ∧
    9 ≤ 4095 ∧
    9 ≠ member.deviceNo ∧
    256 < member.logFree := by
  refine ⟨?_, ?_, ?_, ?_, ?_, ?_, ?_, ?_, ?_, ?_, ?_, ?_, ?_, ?_, ?_, ?_, ?_, ?_, ?_, ?_, ?_, ?_, ?_, ?_, ?_, ?_, ?_, ?_, ?_, ?_, ?_, ?_,
    ?_, ?_, ?_, ?_, ?_, ?_, ?_, ?_, ?_, ?_, ?_, ?_, ?_, ?_, ?_, ?_, ?_, ?_, ?_, ?_, ?_, ?_, ?_, ?_, ?_, ?_, ?_, ?_, ?_, ?_, ?_, ?_,
    ?_, ?_, ?_, ?_, ?_, ?_, ?_, ?_⟩ <;> decide +kernel

theorem meets_PagesEnableAndReset :
    7 ≤ 28 ∧
    1 < 2 ^ 32 ∧
    up.permit Origin.operator (ctrlOf 7) 1 = Except.ok up ∧
    up.auditFull = false ∧
    fieldOf 1 0 0 = 1 ∧
    fieldOf 1 1 1 = 0 ∧
    up.enabled 7 = false ∧
    8 ≤ 28 ∧
    up.permit Origin.operator (ctrlOf 8) 1 = Except.ok up ∧
    up.enabled 8 = false ∧
    up.check 8 = some wrongBase ∧
    17 ≤ 28 ∧
    0 < 2 ^ 32 ∧
    live.permit Origin.operator (ctrlOf 17) 0 = Except.ok live ∧
    live.auditFull = false ∧
    fieldOf 0 0 0 = 0 ∧
    fieldOf 0 1 1 = 0 ∧
    live.enabled 17 = true ∧
    live.permit Origin.operator (ctrlOf 8) 0 = Except.ok live ∧
    live.enabled 8 = true ∧
    (live.stripesHeld = false ∨ Nat.testBit 63438592 8 = false) ∧
    256 < live.logFree ∧
    9 ≤ 28 ∧
    8 ∈ needs 9 ∧
    live.enabled 9 = true ∧
    writing.permit Origin.operator (ctrlOf 8) 0 = Except.ok writing ∧
    writing.auditFull = false ∧
    writing.enabled 8 = true ∧
    writing.stripesHeld = true ∧
    Nat.testBit 63438592 8 = true ∧
    256 < writing.logFree ∧
    2 < 2 ^ 32 ∧
    up.permit Origin.operator (ctrlOf 8) 2 = Except.ok up ∧
    fieldOf 2 1 1 = 1 ∧
    fieldOf 2 0 0 = 0 ∧
    live.permit Origin.operator (ctrlOf 8) 2 = Except.ok live := by
  refine ⟨?_, ?_, ok_of _ _ ?_, ?_, ?_, ?_, ?_, ?_, ok_of _ _ ?_, ?_, ?_, ?_, ?_, ok_of _ _ ?_, ?_, ?_, ?_, ?_, ok_of _ _ ?_, ?_, ?_, ?_,
    ?_, ?_, ?_, ok_of _ _ ?_, ?_, ?_, ?_, ?_, ?_, ?_, ok_of _ _ ?_, ?_, ?_, ok_of _ _ ?_⟩ <;> decide +kernel

theorem meets_HeadersAndBoardAct :
    17 ≤ 28 ∧
    1 < 2 ^ 32 ∧
    errs.permit Origin.operator (17 * 4096 + 36) 1 = Except.ok errs ∧
    1 % 2 = 1 ∧
    errs.permit Origin.operator (17 * 4096 + 24) 1 = Except.ok errs ∧
    6 ≤ 28 ∧
    3 < 2 ^ 32 ∧
    live.permit Origin.owner (6 * 4096 + 40) 3 = Except.ok live ∧
    3 % 4 = 3 ∧
    256 < live.logFree ∧
    2 < 2 ^ 32 ∧
    live.permit Origin.owner (6 * 4096 + 40) 2 = Except.ok live ∧
    2 % 4 ≠ 3 ∧
    7 ≤ 7 ∧
    pinEdges.gpioHigh.testBit 7 ≠ true ∧
    ((pinEdges.booted && pinEdges.power != Power.night && pinEdges.enabled 28 && pinEdges.pinFunc 7 == 3 && pinEdges.fld R.GPIO_EDGE (if true = true then 7 else 7 + 8) (if true = true then 7 else 7 + 8) == 1) = false) ∧
    live.power ≠ Power.night ∧
    (dusk live).power = Power.dusk ∧
    (dusk live).phase = 0 ∧
    (dusk live).booted = true ∧
    (dusk live).fatal = 0 ∧
    (dusk live).nightReady = false := by
  refine ⟨?_, ?_, ok_of _ _ ?_, ?_, ok_of _ _ ?_, ?_, ?_, ok_of _ _ ?_, ?_, ?_, ?_, ok_of _ _ ?_, ?_, ?_, ?_, ?_, ?_, ?_, ?_, ?_, ?_, ?_⟩ <;> decide +kernel

theorem meets_ResetThenEnables :
    7 ≤ 28 ∧
    3 < 2 ^ 32 ∧
    up.permit Origin.operator (ctrlOf 7) 3 = Except.ok up ∧
    up.auditFull = false ∧
    fieldOf 3 0 0 = 1 ∧
    fieldOf 3 1 1 = 1 ∧
    up.enabled 7 = false ∧
    8 ≤ 28 ∧
    live.permit Origin.operator (ctrlOf 8) 3 = Except.ok live ∧
    live.auditFull = false ∧
    live.enabled 8 = true ∧
    256 < live.logFree := by
  refine ⟨?_, ?_, ok_of _ _ ?_, ?_, ?_, ?_, ?_, ?_, ok_of _ _ ?_, ?_, ?_, ?_⟩ <;> decide +kernel

/-! ### The rest of the hypotheses -/

theorem meets_EveryStepKeepsInv : up.Inv ∧ step up = .next (nextOr (step up) up) :=
  ⟨inv_of _ (by decide +kernel), next_of _ _ (by decide +kernel)⟩

theorem meets_QueueAndAccountInOrder : up.Inv ∧ step up = .next (nextOr (step up) up) := meets_EveryStepKeepsInv

theorem meets_OnlyTheirCommandsChange : exec .beamOff up = .next (nextOr (exec .beamOff up) up) := next_of _ _ (by decide +kernel)

theorem meets_ReadsHaveNoEffect : groupOf (statusOf 0) = none := by decide +kernel

theorem meets_FenceHolds_first : ∃ c ∈ (cmds [cmd 1 12] up).host.cmds, c.sq = 0 ∧ c.opcode = 0x0C := ⟨cmd 1 12, by decide +kernel⟩

theorem meets_CodecWorks_frame :
    (match (decodes (ctx2 1 1000 1000)).frameOf ((decodes (ctx2 1 1000 1000)).ctx 2).slot ((decodes (ctx2 1 1000 1000)).ctx 2).block with
      | some (_, f) => f.dlen | none => decoded.length) = decoded.length := by decide +kernel

theorem meets_PrepassRuns_neighbours : ((pre 2).job (first 2).slot).neighbours (first 2).id = [] := by decide +kernel

theorem meets_IvdonServes_passed :
    pktType (level' 0) = 2 ∧ links.power = .day ∧ exec (.level 1 (level' 0)) links = .next passed :=
  ⟨by decide +kernel, by decide +kernel, next_of _ _ (by decide +kernel)⟩

/-! ### Terms that are not well formed -/

theorem test_wf_queue : WellFormed (.sqTailDoorbell 64 0) = false := by decide
theorem test_wf_cq_head : WellFormed (.cqHeadDoorbell 0 4096) = false := by decide
theorem test_wf_evq_head : WellFormed (.evqHeadDoorbell 4096) = false := by decide
theorem test_wf_entry_length : WellFormed (.commandStart 0 [0x0C] 500) = false := by decide
theorem test_wf_entry_word : WellFormed (.commandStart 0 (2 ^ 32 :: List.replicate 15 0) 500) = false := by decide
theorem test_wf_coalesce : WellFormed (.cqCoalesceTimeout 64) = false := by decide
theorem test_wf_context : WellFormed (.cacheRead 4 0 0 0 0 .ok) = false := by decide
theorem test_wf_slot : WellFormed (.cacheRead 3 2 0 0 0 .ok) = false := by decide
theorem test_wf_column : WellFormed (.rerasterRequest 0 0 0 128 .agree [] false false []) = false := by decide
theorem test_wf_tile_lane : WellFormed (.tileDone 0 0 0 127 64 false 0 false false 0 []) = false := by decide
theorem test_wf_word : WellFormed (.move .operator (2 ^ 32)) = false := by decide
theorem test_wf_ack : WellFormed (.exportAck .owner (2 ^ 64)) = false := by decide
theorem test_wf_limit : WellFormed (.limitWrite .owner 6 0) = false := by decide
theorem test_wf_lane : WellFormed (.frameSend 64 none 0) = false := by decide
theorem test_wf_return_lane : WellFormed (.returnLaneLockLost 8) = false := by decide
theorem test_wf_channel : WellFormed (.encZEdge 4 {}) = false := by decide
theorem test_wf_stack : WellFormed (.hbmStackFault 4) = false := by decide
theorem test_wf_page : WellFormed (.sysStateParity 0x1D) = false := by decide
theorem test_wf_class : WellFormed (.thermLevelRise 3 0) = false := by decide
theorem test_wf_level : WellFormed (.thermLevelFall 0 4) = false := by decide
theorem test_wf_sensor : WellFormed (.thermSensorFailed 130) = false := by decide
theorem test_wf_engine : WellFormed (.crcData .operator 8 0) = false := by decide
theorem test_wf_offset : WellFormed (.regWrite 0 0x1000 0) = false := by decide
theorem test_wf_read : WellFormed (.regRead 0x1D 0) = false := by decide
theorem test_wf_nonce : WellFormed (.attest []) = false := by decide
theorem test_wf_firmware : WellFormed (.fwSelect 2) = false := by decide
theorem test_wf_port : WellFormed (.hello 4 0) = false := by decide
theorem test_wf_pin : WellFormed (.gpioEvent 8 true) = false := by decide
theorem test_wf_wake : WellFormed (.i3cWake 256) = false := by decide
theorem test_wf_header : WellFormed (.ctrlEnable .operator 0x1D 1) = false := by decide
theorem test_wf_address : WellFormed (.registerWrite .operator 0x1D000 0 15) = false := by decide
theorem test_wf_byte_enables : WellFormed (.registerWrite .operator 0 0 256) = false := by decide
theorem test_wf_rail : WellFormed (.supplyExcursion 7 0) = false := by decide
theorem test_wf_good : WellFormed (.registerWrite .operator 0x1CFFC (2 ^ 64 - 1) 255) = true := by decide

/-! ### The spec's own numbers -/

/-- "123456789". -/
def digits : List Byte := [0x31, 0x32, 0x33, 0x34, 0x35, 0x36, 0x37, 0x38, 0x39]

/-- The check values of R393. -/
theorem test_crc_checks :
    (crc32c.crc digits, crc32iso.crc digits, crc64xz.crc digits, crc16ibm.crc digits) = (0xE3069283, 0xCBF43926, 0x995DC9BBDF1939FA, 0x29B1) := by
  decide +kernel

/-- The example of "Flattening": the first point of a quadratic (chapter 04). -/
theorem test_first_point : (rhe (2 * 12 * 640 + 1280) 169, rhe (2 * 12 * 1280) 169) = (98, 182) := by decide +kernel

/-- The example of R263's gearing (chapter 08). -/
theorem test_gearing : effRatio (-3584) 429496730 = 429495227 ∧ (Gear.y ⟨0, 0, 429495227, 0⟩ 64000000).fdiv (2 ^ 24) = 25599910 := by
  decide +kernel

/-- The example of R276's deflection with the reset tables (chapter 08). -/
theorem test_deflection : trackV [] 38 = 1216 ∧ deflRaw (up.wr R.DEFL_GAIN_YT (2 ^ 32 - 57344)).rd 1 1216 = -1064 := by decide +kernel

/-- The same at both ends of the range. -/
theorem test_deflection_ends : deflRaw (up.wr R.DEFL_GAIN_YT (2 ^ 32 - 57344)).rd 1 (trackV [] 1024) = -28672 ∧ deflRaw (up.wr R.DEFL_GAIN_YT (2 ^ 32 - 57344)).rd 1 (trackV [] (-1024)) = 28672 := by
  decide +kernel

/-- The example of the address map (chapter 10). -/
theorem test_address_map : (daRank 0x543210F40, daPc 0x543210F40, daBank 0x543210F40, daRow 0x543210F40) = (1, 25, 2, 18532) := by decide +kernel

/-- The example of the coverage of a trapezoid's left side (chapter 04). -/
theorem test_coverage : [(0, 0), (1, 0), (0, 1), (0, 2), (1, 2)].map (fun p => coverage [[(0, 0), (12800, 0), (9600, 6400), (3200, 6400)]] p.1 p.2) = [191, 255, 64, 0, 191] := by decide +kernel

/-- 8b/10b's own code words: D0.0, D17.7 and K28.5 (R319). -/
theorem test_char10 :
    (char10 false 0).1 = bitsOf 10 0b1001110100 ∧ (char10 false 0xF1).1 = bitsOf 10 0b1000110111 ∧ (comma10 false).1 = bitsOf 10 0b0011111010 ∧
      (comma10 true).1 = bitsOf 10 0b1100000101 := by decide +kernel

/-- The scrambler's first ones come back 39 and 58 bits later (R210). -/
theorem test_scramble : (scramble 0 (true :: List.replicate 58 false)).zipIdx.filterMap (fun e => if e.1 then some e.2 else none) = [0, 39, 58] := by
  decide +kernel

/-- The descrambler gives back what was scrambled, whatever its own state, after 58 bits (R210). -/
theorem test_descramble : (descramble 5 (scramble 77 (List.replicate 70 true))).drop 58 = List.replicate 12 true := by decide +kernel

/-- A control block's bits: the header 10, the type, the content (R210, R211). -/
theorem test_control_block : (controlBlock 0x33 0).toNat = 2 * 2 ^ 64 + 0x33 := by decide +kernel

/-- The names of row A and the twentieth row of the package (R643). -/
theorem test_rows : rowLetters 0 = ['A'] ∧ rowLetters 19 = ['A', 'A'] := by decide +kernel

/-- No row of the table has bits. -/
theorem test_no_words : decodeTableWord 32 0 = none := by decide

/-- Reset leaves the power-up sequence to its event: a doorbell before it does nothing. -/
theorem test_before_power_up : exec (.sqTailDoorbell 0 1) State.reset = .next State.reset := by rfl

/-- An empty queue lets the clock tick by 4 ns (R584). -/
theorem test_idle_tick : (nextOr (step up) up).clock.frac = 4 * 2 ^ 32 := by decide +kernel

end Sys2Proof.Tests
end

section
/-! SUPPORT. Register writes, the mailbox, a stripe's start and the firing of a flash: the statements of spec/00_scope.md. -/

namespace Sys2Proof.Machine

/-! ### A frame as an equation -/

theorem eq_cond_of {α : Type} {b : Bool} {x y : α} (h : b = false → x = y) : x = cond b x y := by
  cases b with
  | false => exact h rfl
  | true => rfl

/-- State s with the fields that m names taken from t. -/
def State.takes (m : Nat) (s t : State) : State :=
  { regs := cond (m.testBit 0) t.regs s.regs, force := cond (m.testBit 1) t.force s.force,
    held := cond (m.testBit 2) t.held s.held, captured := cond (m.testBit 3) t.captured s.captured,
    log := cond (m.testBit 4) t.log s.log, audit := cond (m.testBit 5) t.audit s.audit,
    power := cond (m.testBit 6) t.power s.power, booted := cond (m.testBit 7) t.booted s.booted,
    phase := cond (m.testBit 8) t.phase s.phase, nightReady := cond (m.testBit 9) t.nightReady s.nightReady,
    rails := cond (m.testBit 10) t.rails s.rails, beamOff := cond (m.testBit 11) t.beamOff s.beamOff,
    fatal := cond (m.testBit 12) t.fatal s.fatal, host := cond (m.testBit 13) t.host s.host,
    job0 := cond (m.testBit 14) t.job0 s.job0, job1 := cond (m.testBit 15) t.job1 s.job1,
    curSlot := cond (m.testBit 16) t.curSlot s.curSlot, jobOrd := cond (m.testBit 17) t.jobOrd s.jobOrd,
    frames := cond (m.testBit 18) t.frames s.frames, sealCtr := cond (m.testBit 19) t.sealCtr s.sealCtr,
    ctxs := cond (m.testBit 20) t.ctxs s.ctxs, codecEng := cond (m.testBit 21) t.codecEng s.codecEng,
    stripes := cond (m.testBit 22) t.stripes s.stripes, stripeOrd := cond (m.testBit 23) t.stripeOrd s.stripeOrd,
    dtabs := cond (m.testBit 24) t.dtabs s.dtabs, dnext := cond (m.testBit 25) t.dnext s.dnext,
    strayHeld := cond (m.testBit 26) t.strayHeld s.strayHeld, strayPend := cond (m.testBit 27) t.strayPend s.strayPend,
    caps := cond (m.testBit 28) t.caps s.caps, capsNext := cond (m.testBit 29) t.capsNext s.capsNext,
    field := cond (m.testBit 30) t.field s.field, tileCrcs := cond (m.testBit 31) t.tileCrcs s.tileCrcs,
    density := cond (m.testBit 32) t.density s.density, factor := cond (m.testBit 33) t.factor s.factor,
    mapBands := cond (m.testBit 34) t.mapBands s.mapBands, factorCrcs := cond (m.testBit 35) t.factorCrcs s.factorCrcs,
    ckptUnits := cond (m.testBit 36) t.ckptUnits s.ckptUnits, ckpts := cond (m.testBit 37) t.ckpts s.ckpts,
    staging := cond (m.testBit 38) t.staging s.staging, tally := cond (m.testBit 39) t.tally s.tally,
    hold := cond (m.testBit 40) t.hold s.hold, flink := cond (m.testBit 41) t.flink s.flink,
    drover := cond (m.testBit 42) t.drover s.drover, profile := cond (m.testBit 43) t.profile s.profile,
    sensors := cond (m.testBit 44) t.sensors s.sensors, tclasses := cond (m.testBit 45) t.tclasses s.tclasses,
    drams := cond (m.testBit 46) t.drams s.drams, ranks := cond (m.testBit 47) t.ranks s.ranks,
    sram := cond (m.testBit 48) t.sram s.sram, bells := cond (m.testBit 49) t.bells s.bells,
    bellDead := cond (m.testBit 50) t.bellDead s.bellDead, bellPending := cond (m.testBit 51) t.bellPending s.bellPending,
    engines := cond (m.testBit 52) t.engines s.engines, keep := cond (m.testBit 53) t.keep s.keep,
    keepWait := cond (m.testBit 54) t.keepWait s.keepWait, keepOld := cond (m.testBit 55) t.keepOld s.keepOld,
    keepHeld := cond (m.testBit 56) t.keepHeld s.keepHeld, dieBand := cond (m.testBit 57) t.dieBand s.dieBand,
    age := cond (m.testBit 58) t.age s.age, fold := cond (m.testBit 59) t.fold s.fold,
    clock := cond (m.testBit 60) t.clock s.clock, ivdon := cond (m.testBit 61) t.ivdon s.ivdon,
    trace := cond (m.testBit 62) t.trace s.trace, gpioHigh := cond (m.testBit 63) t.gpioHigh s.gpioHigh,
    lastCkpt := cond (m.testBit 64) t.lastCkpt s.lastCkpt, free := cond (m.testBit 65) t.free s.free,
    out := cond (m.testBit 66) t.out s.out, pending := cond (m.testBit 67) t.pending s.pending }

/-- A frame read as an equation: t is s but for the fields of m. -/
theorem Only.eq_takes {m : Nat} {s t : State} (h : Only m s t) : t = s.takes m t := by
  cases t
  unfold State.takes
  simp only [State.mk.injEq]
  exact ⟨
    eq_cond_of h.regs, eq_cond_of h.force, eq_cond_of h.held, eq_cond_of h.captured, eq_cond_of h.log, eq_cond_of h.audit, eq_cond_of h.power,
    eq_cond_of h.booted, eq_cond_of h.phase, eq_cond_of h.nightReady, eq_cond_of h.rails, eq_cond_of h.beamOff, eq_cond_of h.fatal, eq_cond_of h.host,
    eq_cond_of h.job0, eq_cond_of h.job1, eq_cond_of h.curSlot, eq_cond_of h.jobOrd, eq_cond_of h.frames, eq_cond_of h.sealCtr, eq_cond_of h.ctxs,
    eq_cond_of h.codecEng, eq_cond_of h.stripes, eq_cond_of h.stripeOrd, eq_cond_of h.dtabs, eq_cond_of h.dnext, eq_cond_of h.strayHeld,
    eq_cond_of h.strayPend, eq_cond_of h.caps, eq_cond_of h.capsNext, eq_cond_of h.field, eq_cond_of h.tileCrcs, eq_cond_of h.density,
    eq_cond_of h.factor, eq_cond_of h.mapBands, eq_cond_of h.factorCrcs, eq_cond_of h.ckptUnits, eq_cond_of h.ckpts, eq_cond_of h.staging,
    eq_cond_of h.tally, eq_cond_of h.hold, eq_cond_of h.flink, eq_cond_of h.drover, eq_cond_of h.profile, eq_cond_of h.sensors, eq_cond_of h.tclasses,
    eq_cond_of h.drams, eq_cond_of h.ranks, eq_cond_of h.sram, eq_cond_of h.bells, eq_cond_of h.bellDead, eq_cond_of h.bellPending,
    eq_cond_of h.engines, eq_cond_of h.keep, eq_cond_of h.keepWait, eq_cond_of h.keepOld, eq_cond_of h.keepHeld, eq_cond_of h.dieBand,
    eq_cond_of h.age, eq_cond_of h.fold, eq_cond_of h.clock, eq_cond_of h.ivdon, eq_cond_of h.trace, eq_cond_of h.gpioHigh, eq_cond_of h.lastCkpt,
    eq_cond_of h.free, eq_cond_of h.out, eq_cond_of h.pending⟩

/-! ### A write that reaches its register -/

/-- A write of a whole register on the page map is one write (R612, R613). -/
theorem exec_registerWrite_whole (o : Origin) (a v : Nat) (s : State) (ha : a % 4 = 0) (hp : pageOf a ≤ 28) (hv : v < 2 ^ 32) :
    exec (.registerWrite o a v 0xF) s = .next (s.writeReg o a v) := by
  have hw : a / 4 * 4 = a := by omega
  show execRegisterWrite o a v 0xF s = _
  unfold execRegisterWrite
  rw [if_neg (Nat.not_lt.mpr hp), if_pos ⟨hw.symm, rfl⟩, hw, Nat.mod_eq_of_lt hv]

/-- Past the header, a register with no command or check of its own takes a plain write. -/
theorem writeReg_plain (o : Origin) (a v : Nat) (s : State) (hp : pageOf a ≤ 28) (ho : 0x100 ≤ offOf a) (he : engineOf a = none)
    (hw : s.ownWrite o a v = none) : s.writeReg o a v = s.plainWrite o a v := by
  unfold State.writeReg
  rw [he, hw, if_neg (Nat.not_lt.mpr hp)]
  split
  case h_6 => rfl
  all_goals omega

theorem exec_plainWrite {o : Origin} {a v : Nat} {s : State} (ha : a % 4 = 0) (hp : pageOf a ≤ 28) (ho : 0x100 ≤ offOf a)
    (he : engineOf a = none) (hv : v < 2 ^ 32) (hw : s.ownWrite o a v = none) :
    exec (.registerWrite o a v 0xF) s = .next (s.plainWrite o a v) := by
  rw [exec_registerWrite_whole o a v s ha hp hv, writeReg_plain o a v s hp ho he hw]

/-- A write that the checks let through unchanged. -/
theorem plainWrite_ok {o : Origin} {a v : Nat} {s : State} (h : s.permit o a v = .ok s) : s.plainWrite o a v = s.putValue o a v := by
  unfold State.plainWrite
  rw [h]

/-- A write that the checks end. -/
theorem plainWrite_error {o : Origin} {a v : Nat} {s t : State} (h : s.permit o a v = .error t) : s.plainWrite o a v = t := by
  unfold State.plainWrite
  rw [h]

/-- A value in range of a register outside the groups of R13 is set at once. -/
theorem putValue_plain {o : Origin} {a v : Nat} {s : State} (he : s.echoAbsent a (newValue a (s.rd a) v) = false)
    (hr : s.outOfRange a (newValue a (s.rd a) v) = false) (hg : groupOf a = none) :
    s.putValue o a v = s.setReg o a (newValue a (s.rd a) v) := by
  simp [State.putValue, State.applyWrite, he, hr, hg]

/-- The new value of a register is a register's value. -/
theorem newValue_lt (a old v : Nat) (ho : old < 2 ^ 32) (hv : v < 2 ^ 32) : newValue a old v < 2 ^ 32 := by
  unfold newValue
  induction rowsOf a generalizing old with
  | nil => exact ho
  | cons r rows ih =>
    refine ih _ ?_
    have hset : Nat.lor (old - Nat.land old r.mask) (Nat.land v r.mask) < 2 ^ 32 :=
      Nat.or_lt_two_pow (by omega) (Nat.lt_of_le_of_lt Nat.and_le_left hv)
    have hclear : ∀ n, old - n < 2 ^ 32 := fun n => Nat.lt_of_le_of_lt (Nat.sub_le _ _) ho
    dsimp only
    split
    · exact hset
    · exact hset
    · exact hset
    · exact hclear _
    · split
      · exact hclear _
      · exact ho
    · exact ho

/-! ### Audit records -/

/-- The registers that show the audit log, and the page's own sequence number (R576, R620). -/
def auditRegs (a : RegAddr) : List RegAddr := [pageOf a * 0x1000 + 0x2C, R.AUDIT_HEAD_L, R.AUDIT_HEAD_L + 4, R.AUDIT_FREE]

theorem auditFree_pos {s : State} (h : s.auditFull = false) : 512 < s.auditFree := by
  simpa [State.auditFull] using h

/-- The record that a commit makes while the pool has room (R577, R578). -/
def State.auditRec (s : State) (kind : Nat) (o : Origin) (addr old new : Nat) (detail : List Nat) : AuditRec :=
  let r : AuditRec := { seq := s.audit.nextSeq, kind, sec := s.clock.sec, nsec := s.nsec, origin := o.code, addr, old, new, detail,
                        errSeq := 0, chain := 0 }
  { r with chain := Config.sha384 (beBytes 48 s.audit.chain ++ r.body) }

/-- With room in the pool a commit puts its record on top. -/
theorem pool_commit {s : State} (kind : Nat) (o : Origin) (addr old new : Nat) (detail : List Nat) (h : 0 < s.auditFree) :
    (s.commit kind o addr old new detail).audit.pool = .record (s.auditRec kind o addr old new detail) :: s.audit.pool := by
  unfold State.commit
  dsimp only
  rw [if_neg (by omega)]
  split <;> split <;> rfl

/-- With room in the pool a commit changes only the registers that show the log. -/
theorem regsOff_commit {s : State} (kind : Nat) (o : Origin) (addr old new : Nat) (detail : List Nat) (h : 0 < s.auditFree) :
    RegsOff (auditRegs addr) s (s.commit kind o addr old new detail) := by
  unfold State.commit
  dsimp only
  rw [if_neg (by omega)]
  have hend : ∀ u : State, RegsOff (auditRegs addr) s u →
      RegsOff (auditRegs addr) s (if u.audit.sinceSign ≥ 4096 ∧ u.audit.signing = none then u.beginSign else u) := by
    intro u hu
    split
    · exact regsOff_regs rfl hu
    · exact hu
  refine hend _ ?_
  have hlog : ∀ u : State, RegsOff (auditRegs addr) s u → ∀ f,
      RegsOff (auditRegs addr) s ((u.wr64 R.AUDIT_HEAD_L s.audit.nextSeq).wr R.AUDIT_FREE f) := fun u hu f =>
    regsOff_wr _ _ (by simp [auditRegs]) (regsOff_wr _ _ (by simp [auditRegs]) (regsOff_wr _ _ (by simp [auditRegs]) hu))
  split
  · exact regsOff_wr _ _ (by simp [auditRegs, pageOf]) (hlog _ (regsOff_regs rfl (regsOff_refl _ _)) _)
  · exact hlog _ (regsOff_regs rfl (regsOff_refl _ _)) _

/-! ### A plain register set -/

/-- A trace record changes the trace alone. -/
theorem traceRec_eq (s : State) (p k c : Nat) (d : List Nat) : ∃ x, s.traceRec p k c d = { s with trace := x } := by
  unfold State.traceRec
  split
  · exact ⟨_, rfl⟩
  · exact ⟨s.trace, rfl⟩

/-- What a register's change leaves of the state while the audit pool has room. -/
theorem only_setReg_room {s : State} (o : Origin) (a new : Nat) (h : s.auditFull = false) :
    Only 4612248968380809249 s (s.setReg o a new) := by
  unfold State.setReg State.change
  split
  · exact only_traceRec _ _ _ _ rfl (only_refl _ _)
  · split
    · exact only_traceRec _ _ _ _ rfl (only_wr _ _ rfl (only_refl _ _))
    · rw [if_neg (by simp [h])]
      exact only_traceRec _ _ _ _ rfl (only_wr _ _ rfl (only_commit _ _ _ _ _ _ rfl (only_refl _ _)))

theorem rd_setReg {s : State} (o : Origin) (a new : Nat) (h : s.auditFull = false) (hn : new < 2 ^ 32) : (s.setReg o a new).rd a = new := by
  unfold State.setReg State.change
  split
  · rw [rd_traceRec]
    exact (by assumption : new = s.rd a).symm
  · split
    · rw [rd_traceRec, rd_wr_same a new hn]
    · rw [if_neg (by simp [h]), rd_traceRec, rd_wr_same a new hn]

theorem regsOff_setReg {s : State} (o : Origin) (a new : Nat) (h : s.auditFull = false) :
    RegsOff (a :: auditRegs a) s (s.setReg o a new) := by
  unfold State.setReg State.change
  split
  · exact regsOff_traceRec _ _ _ _ (regsOff_refl _ _)
  · split
    · exact regsOff_traceRec _ _ _ _ (regsOff_wr _ _ (by simp) (regsOff_refl _ _))
    · rw [if_neg (by simp [h])]
      refine regsOff_traceRec _ _ _ _ (regsOff_wr _ _ (by simp) ?_)
      exact fun b hb => regsOff_commit _ _ _ _ _ _ (by have := auditFree_pos h; omega) b (fun hm => hb (List.mem_cons_of_mem _ hm))

/-- A lockable register that changes leaves its record on top of the pool (R576). -/
theorem pool_setReg {s : State} (o : Origin) (a new : Nat) (h : s.auditFull = false) (hl : lockable a = true) (hn : new ≠ s.rd a) :
    (s.setReg o a new).audit.pool = .record (s.auditRec 1 o a (s.rd a) new []) :: s.audit.pool := by
  unfold State.setReg State.change
  rw [if_neg hn, if_neg (by simp [hl]), if_neg (by simp [h])]
  obtain ⟨x, hx⟩ := traceRec_eq ((s.commit 1 o a (s.rd a) new []).wr a new) (pageOf a) 0 (offOf a) [new, o.code]
  rw [hx]
  exact pool_commit 1 o a (s.rd a) new [] (by have := auditFree_pos h; omega)

/-- A write that changes nothing makes no record. -/
theorem audit_setReg_same {s : State} (o : Origin) (a : RegAddr) : (s.setReg o a (s.rd a)).audit = s.audit := by
  unfold State.setReg State.change
  rw [if_pos rfl]
  exact (only_traceRec (mm := 4611686018427387904) _ _ _ _ rfl (only_refl _ s)).audit rfl

/-- Settles O8: an admitted plain write is `setReg` of the new value, whose registers, audit record and frame are stated once. -/
theorem plainRegisterWrite : Obligations.PlainRegisterWrite := by
  unfold Obligations.PlainRegisterWrite
  intro o a v s ha hp ho he hg hv hw hok hecho hrange hfull
  have hnew : newValue a (s.rd a) v < 2 ^ 32 := newValue_lt a _ v (rd_lt a) hv
  have hexec : exec (.registerWrite o a v 0xF) s = .next (s.setReg o a (newValue a (s.rd a) v)) := by
    rw [exec_plainWrite ha hp ho he hv hw, plainWrite_ok hok, putValue_plain hecho hrange hg]
  refine ⟨_, hexec, (only_setReg_room o a _ hfull).eq_takes, rd_setReg o a _ hfull hnew, regsOff_setReg o a _ hfull, ?_, ?_⟩
  · intro hl hne
    refine ⟨s.auditRec 1 o a (s.rd a) (newValue a (s.rd a) v) [], ?_, rfl, rfl, rfl, rfl, rfl, rfl⟩
    rw [pool_setReg o a _ hfull hl hne]
    rfl
  · intro hsame
    rw [hsame]
    exact audit_setReg_same o a

/-! ### Writes that are barred -/

/-- A write of a register with no writable field ends at once (R11). -/
theorem permit_unwritable (o : Origin) (a v : Nat) (s : State) (hw : writable a = false) : s.permit o a v = .error s := by
  unfold State.permit
  split
  · rfl
  · split
    · rfl
    · simp [hw]

/-- A write that the origin's role may not make is refused with FOLD_ROLE (R559). -/
theorem permit_role (o : Origin) (a v : Nat) (s : State) (hpow : s.power ≠ .night) (hb : s.booted = true) (hf : s.fatal = 0)
    (hfw : s.fold.fwRuns = true) (hw : writable a = true) (hr : roleOkValue o a v = false) :
    s.permit o a v = .error (s.refuse o Code.FOLD_ROLE a v (some 4)) := by
  unfold State.permit
  simp [hpow, hb, hf, hfw, hw, hr]

/-- The registers of the error log among those that a record may change (R459, R465). -/
def logRegs : List RegAddr := [R.SYS_ERRLOG_TAIL, R.SYS_ERRLOG_FREE, R.SYS_ERRLOG_SEQ_L, R.SYS_ERRLOG_SEQ_H, R.SYS_COALESCED]

/-- A record changes registers of a page's header, or those of the error log. -/
theorem mem_recordRegs {a p : Nat} (h : a ∈ recordRegs p) : offOf a < 0x100 ∨ a ∈ logRegs := by
  have header : ∀ q n : Nat, n < 0x100 → offOf (q * 0x1000 + n) < 0x100 := fun q n hn => by unfold offOf; omega
  simp only [recordRegs, List.mem_cons, List.not_mem_nil, or_false] at h
  rcases h with rfl | rfl | rfl | rfl | rfl | rfl | rfl | rfl | rfl | rfl | rfl | rfl | rfl
  case inl => exact .inl (header p 0x10 (by decide))
  case inr.inl => exact .inl (header p 0x18 (by decide))
  case inr.inr.inl => exact .inl (header p 0x1C (by decide))
  case inr.inr.inr.inl => exact .inl (header p 0x20 (by decide))
  all_goals decide

/-- No write acts on a register that an error record may change, the header's apart. -/
theorem not_mem_recordRegs {a : RegAddr} (ho : 0x100 ≤ offOf a) (hw : writable a = true) (p : Nat) : a ∉ recordRegs p := by
  have hlog : ∀ b ∈ logRegs, writable b = false := by decide
  intro h
  rcases mem_recordRegs h with h | h
  · exact absurd ho (Nat.not_le.mpr h)
  · rw [hlog a h] at hw
    cases hw

/-- Settles O9: each bar makes `permit` end the write, at once or with the record of `refuse`. -/
theorem barredWritesDiscarded : Obligations.BarredWritesDiscarded := by
  unfold Obligations.BarredWritesDiscarded
  refine ⟨?_, ?_⟩
  · intro o a v s ha hv he hreset hbar
    by_cases hp : pageOf a > 28
    · show execRegisterWrite o a v 0xF s = _
      unfold execRegisterWrite
      rw [if_pos hp]
    · have hp' : pageOf a ≤ 28 := Nat.le_of_not_lt hp
      rcases hbar with hbar | ⟨ho, hw, hown⟩ | ⟨hoff, hown, ho⟩
      · exact absurd hbar hp
      · rw [exec_plainWrite ha hp' ho he hv hown, plainWrite_error (permit_unwritable o a v s hw)]
      · rw [exec_plainWrite ha hp' ho he hv hown]
        rcases hoff with hoff | hoff | hoff
        · rw [plainWrite_error (admit_off o a v (.inl hoff))]
        · rw [plainWrite_error (admit_off o a v (.inr hoff))]
        · rw [plainWrite_error (admit_fatal o a v hoff hreset)]
  · intro o a v s ha hp ho he hv hown hpow hb hf hfw hw hr hroom
    let c : RecArg := { code := Code.FOLD_ROLE, cls := 7, origin := o, det := some 4, lk := 6, l0 := pageOf a, l1 := offOf a, l2 := v }
    have hexec : exec (.registerWrite o a v 0xF) s = .next (s.recordRaw c) := by
      rw [exec_plainWrite ha hp ho he hv hown, plainWrite_error (permit_role o a v s hpow hb hf hfw hw hr)]
      exact congrArg _ (record_room c hroom)
    have hregs : RegsOff (recordRegs 4) s (s.recordRaw c) := regsOff_recordRaw c (fun b hb => hb) (regsOff_refl _ _)
    exact ⟨_, hexec, hregs a (not_mem_recordRegs ho hw 4), hregs, newest_recordRaw c hroom,
      (only_recordRaw (mm := 78398662313265602577) c rfl (only_refl _ s)).eq_takes⟩

/-! ### Records and the account of what has left the block -/

theorem out_raiseIrq (s : State) (p bit : Nat) : s.out <:+ (s.raiseIrq p bit).out := by
  unfold State.raiseIrq State.signalPage
  dsimp only
  split
  · exact List.suffix_refl _
  · split
    · exact List.suffix_cons _ _
    · exact List.suffix_refl _

/-- A record takes nothing back of what has left the block. -/
theorem out_writeRec (s : State) (a : RecArg) : s.out <:+ (s.writeRec a).out := by
  have htail : ∀ u : State, u.out = s.out → ∀ d, s.out <:+ (if a.cls ≥ 2 ∧ a.cls ≤ 4 then
      (((((u.pageErr a.page (s.mkRec a).seq (s.mkRec a).code).traceRec a.page 1 (s.mkRec a).code d).traceTrigger a.code).raiseIrq
        a.page 31).raiseIrq 0 0)
      else ((((u.pageErr a.page (s.mkRec a).seq (s.mkRec a).code).traceRec a.page 1 (s.mkRec a).code d).traceTrigger a.code).raiseIrq
        a.page 31)).out := by
    intro u hu d
    have hquiet : Only 4611686018427387905 u
        (((u.pageErr a.page (s.mkRec a).seq (s.mkRec a).code).traceRec a.page 1 (s.mkRec a).code d).traceTrigger a.code) :=
      only_traceTrigger _ rfl (only_traceRec _ _ _ _ rfl (only_pageErr _ _ _ rfl (only_refl _ u)))
    have h31 := out_raiseIrq
      (((u.pageErr a.page (s.mkRec a).seq (s.mkRec a).code).traceRec a.page 1 (s.mkRec a).code d).traceTrigger a.code) a.page 31
    rw [hquiet.out rfl, hu] at h31
    split
    · exact h31.trans (out_raiseIrq _ 0 0)
    · exact h31
  unfold State.writeRec
  dsimp only
  refine htail _ ?_ _
  cases a.cmd <;> rfl

/-! ### The mailbox -/

/-- A served request runs (R485, R561, R569, R582). -/
theorem mailbox_served {s : State} (h : s.mbServed) (boot always : Bool) (f : State → State) : s.mailbox boot always f = .next (f s) := by
  obtain ⟨hpow, hboot, hfatal, hfw, hfull⟩ := h
  unfold State.mailbox
  simp [hpow, hboot, hfatal, hfw, hfull]

/-- A request that ends well (R561). -/
theorem answered_mbEnd (s : State) (payload : List Byte) : s.answered (s.mbEnd 0 payload) payload := rfl

/-- The record of a request that fails (R463, R587). -/
def mbRec (code : Nat) : RecArg := { code, cls := 7, origin := .owner, det := some 4 }

theorem mbFail_room {s : State} (code : Nat) (h : 256 < s.logFree) : s.mbFail code = (s.recordRaw (mbRec code)).mbEnd code [] := by
  unfold State.mbFail
  rw [record_room _ h]
  rfl

/-- A request that ends with a code after its record. -/
theorem refusedMb_mbEnd {s u : State} {code : Nat} (hn : u.newest code 7 0 0 0 0) (ho : s.out <:+ u.out) :
    s.refusedMb (u.mbEnd code []) code := by
  obtain ⟨l, hl⟩ := ho
  refine ⟨hn, rfl, rfl, l, ?_⟩
  rw [hl]
  rfl

/-- With room in the log a request that fails leaves its record and answers its code (R463). -/
theorem refusedMb_mbFail {s : State} (code : Nat) (h : 256 < s.logFree) : s.refusedMb (s.mbFail code) code := by
  rw [mbFail_room code h]
  refine refusedMb_mbEnd (newest_recordRaw (mbRec code) h) ?_
  rw [recordRaw_room _ h]
  exact out_writeRec s _

/-- The end of a request changes the mailbox alone (R561). -/
theorem mbEnd_frame (u : State) (code : Nat) (payload : List Byte) :
    (u.mbEnd code payload).fold = { u.fold with mbStatus := code * 2 ^ 16 + 2, mbResponse := payload } ∧
    (u.mbEnd code payload).audit = u.audit ∧ (u.mbEnd code payload).bells = u.bells := ⟨rfl, rfl, rfl⟩

/-- Beyond its record and its answer a request that fails changes nothing. -/
theorem mbFail_frame {s : State} (code : Nat) (h : 256 < s.logFree) :
    (s.mbFail code).fold = { s.fold with mbStatus := code * 2 ^ 16 + 2, mbResponse := [] } ∧ (s.mbFail code).audit = s.audit ∧
    (s.mbFail code).bells = s.bells := by
  have hrec : Only 78398662313265602577 s (s.recordRaw (mbRec code)) := only_recordRaw _ rfl (only_refl _ s)
  obtain ⟨hfold, haudit, hbells⟩ := mbEnd_frame (s.recordRaw (mbRec code)) code []
  rw [mbFail_room code h, hfold, haudit, hbells, hrec.fold rfl, hrec.audit rfl, hrec.bells rfl]
  exact ⟨rfl, rfl, rfl⟩

/-! ### Firmware slots and events -/

theorem fwSlot_setFwSlot (s : State) (i j : Nat) (x : FwSlot) : (s.setFwSlot i x).fwSlot j = if i = j then x else s.fwSlot j :=
  kget_kset _ _ _ _ _

/-- A request's answer changes no firmware slot. -/
theorem fwSlot_mbEnd (u : State) (code : Nat) (payload : List Byte) (i : Nat) : (u.mbEnd code payload).fwSlot i = u.fwSlot i := rfl

theorem answered_setFwSlot (s : State) (i : Nat) (x : FwSlot) :
    { s with fold := { s.fold with slots := ((s.setFwSlot i x).mbEnd 0 []).fold.slots } }.answered ((s.setFwSlot i x).mbEnd 0 []) [] := rfl

theorem audit_answer_setFwSlot (u : State) (i : Nat) (x : FwSlot) : ((u.setFwSlot i x).mbEnd 0 []).audit = u.audit :=
  (mbEnd_frame (u.setFwSlot i x) 0 []).2.1

/-- The newest audit record is a matter of the audit log alone. -/
theorem audited_of_audit {t u : State} {kind : Nat} {detail : List Nat} (h : t.audit = u.audit) (hu : u.audited kind detail) :
    t.audited kind detail := by
  unfold State.audited at hu ⊢
  rw [h]
  exact hu

/-- With room in the pool a commit leaves its record on top. -/
theorem audited_commit {s : State} (kind : Nat) (o : Origin) (addr old new : Nat) (detail : List Nat) (h : 0 < s.auditFree) :
    (s.commit kind o addr old new detail).audited kind detail :=
  ⟨s.auditRec kind o addr old new detail, by rw [pool_commit _ _ _ _ _ _ h]; rfl, rfl, rfl⟩

/-- A firmware event leaves its record on top of the pool (R577). -/
theorem audited_fwEvent {s : State} (o : Origin) (slot svn hash : Nat) (h : 0 < s.auditFree) :
    ∃ d, (s.fwEvent o slot svn hash).audited 0x20 (slot :: svn :: d) :=
  ⟨_, audited_commit 0x20 o 0 0 0 ([slot, svn] ++ (List.range 6).map (fun i => leAt (beBytes 48 hash) (4 * i) 4)) h⟩

theorem length_fwEvent {s : State} (o : Origin) (slot svn hash : Nat) (h : 0 < s.auditFree) :
    (s.fwEvent o slot svn hash).audit.pool.length = s.audit.pool.length + 1 := by
  unfold State.fwEvent
  rw [pool_commit _ _ _ _ _ _ h]
  rfl

/-- What an audit record may change of the state. -/
theorem only_fwEvent_self (s : State) (o : Origin) (slot svn hash : Nat) : Only 562949953421345 s (s.fwEvent o slot svn hash) :=
  only_commit _ _ _ _ _ _ rfl (only_refl _ s)

/-- A bell word read after a write of any. -/
theorem bell_putBell (s : State) (n m v : Nat) (hv : v < 2 ^ 64) : (s.putBell n v).bell m = if n = m then v else s.bell m := by
  unfold State.bell State.putBell
  dsimp only
  rw [kget_kset]
  split
  · exact (BitVec.toNat_ofNat _ _).trans (Nat.mod_eq_of_lt hv)
  · rfl

/-- A commit changes no bell word but the one that counts the records (R578). -/
theorem bell_commit {s : State} (kind : Nat) (o : Origin) (addr old new : Nat) (detail : List Nat) (n : Nat) (hn : n ≠ 3) :
    (s.commit kind o addr old new detail).bell n = s.bell n := by
  have hput : ∀ t : State, ∀ v, (t.putBell 3 v).bell n = t.bell n := by
    intro t v
    unfold State.bell State.putBell
    dsimp only
    rw [kget_kset, if_neg (Ne.symm hn)]
  unfold State.commit
  dsimp only
  split
  · rfl
  · split <;> split <;> exact hput _ _

/-- A bell word that rises with every copy good takes its value and leaves its own audit record, and nothing else (R383). -/
theorem writeBell_rises {s : State} (n v : Nat) (hv : s.bell n < v) (hn : n ≠ 6) (hok : ((List.range 3).filter (s.bellStuck n)).length < 2)
    (h2 : s.bellStuck n 2 = false) :
    s.writeBell n v 0 = (({ s with bellPending := 0 }).putBell n v).commit 0x0040 .firmware n (s.bell n) v [0] := by
  unfold State.writeBell
  dsimp only
  rw [if_neg (by omega), if_neg (by omega), if_neg (by simp [h2])]

/-! ### The requests -/

/-- A read of a register changes the captures of R13 alone (R614). -/
theorem readReg_frame (s : State) (o : Origin) (a : RegAddr) : (s.readReg o a).2 = { s with captured := (s.readReg o a).2.captured } :=
  (only_readReg (mm := 8) o a rfl (only_refl _ s)).eq_takes

theorem okOffset_of {page off : Nat} (hp : page ≤ 28) (ho : off < 0x1000) (h4 : off % 4 = 0) : okOffset page off = true := by
  simp [okOffset, hp, ho, h4]

/-- REG_READ, served. -/
theorem exec_regRead {s : State} (hs : s.mbServed) (page off : Nat) (hok : okOffset page off = true) :
    ∃ t, exec (.regRead page off) s = .next t ∧
      t = { s with captured := t.captured, fold := { s.fold with mbStatus := 2, mbResponse := leBytes 4 (s.readReg .owner (page * 0x1000 + off)).1 },
                   free := s.free + 1,
                   out := .ownerMsix 0 :: .mailbox 0 (leBytes 4 (s.readReg .owner (page * 0x1000 + off)).1) :: s.out } := by
  have hexec : exec (.regRead page off) s = .next ({ (s.readReg .owner (page * 0x1000 + off)).2 with
      free := (s.readReg .owner (page * 0x1000 + off)).2.free + 1 }.mbEnd 0 (leBytes 4 (s.readReg .owner (page * 0x1000 + off)).1)) := by
    show execRegRead page off s = _
    unfold execRegRead
    rw [mailbox_served hs]
    dsimp only
    rw [if_pos hok]
  refine ⟨_, hexec, ?_⟩
  rw [readReg_frame s .owner (page * 0x1000 + off)]
  rfl

/-- REG_WRITE, served, is the Owner's write of the register, and then its answer. -/
theorem exec_regWrite {s : State} (hs : s.mbServed) (page off v : Nat) (hok : okOffset page off = true) :
    exec (.regWrite page off v) s = .next ((s.writeReg .owner (page * 0x1000 + off) (v % 2 ^ 32)).mbEnd 0 []) := by
  show execRegWrite page off v s = _
  unfold execRegWrite
  rw [mailbox_served hs, if_pos hok]

/-- ATTEST, served (R564). -/
theorem exec_attest {s : State} (hs : s.mbServed) (nonce : List Byte) (hn : nonce.length = 32) :
    exec (.attest nonce) s = .next (s.mbEnd 0 (s.report nonce ++ beBytes 96 (Config.ecdsaSign (s.report nonce)))) := by
  show execAttest nonce s = _
  unfold execAttest
  rw [mailbox_served hs]
  rw [if_neg (by simp [hn])]

theorem exec_certRead {s : State} (hs : s.mbServed) : exec .certRead s = .next (s.mbEnd 0 Config.certificate) :=
  mailbox_served hs true true (fun s => s.mbEnd 0 Config.certificate)

/-- FW_STAGE, served: the chunk stands in the slot that does not run, which is no longer committed (R570). -/
theorem exec_fwStage {s : State} (hs : s.mbServed) (off : Nat) (chunk : List Byte) (hne : chunk ≠ []) (hfit : off + chunk.length ≤ 0x400000) :
    exec (.fwStage off chunk) s = .next ((s.setFwSlot s.idleSlot
      { s.fwSlot s.idleSlot with bytes := putBytes (s.fwSlot s.idleSlot).bytes off chunk, committed := false }).mbEnd 0 []) := by
  show execFwStage off chunk s = _
  unfold execFwStage
  rw [mailbox_served hs]
  dsimp only
  rw [if_neg (by simp [hne, Nat.not_lt.mpr hfit])]

/-- The firmware slot that a signed image in some bytes makes (R568). -/
def signedSlot (b : List Byte) : FwSlot :=
  { bytes := b, svn := leAt b 8 4, levels := leAt b 0xC 4, hash := beNat ((b.drop 0x18).take 48), committed := true }

/-- FW_COMMIT, served: an image that is signed and not too old is committed (R570). -/
theorem exec_fwCommit_ok {s : State} (hs : s.mbServed) (hsig : imageSigned (s.fwSlot s.idleSlot).bytes = true)
    (hsvn : s.bell 2 ≤ leAt (s.fwSlot s.idleSlot).bytes 8 4) :
    exec .fwCommit s = .next (((s.fwEvent .owner s.idleSlot (signedSlot (s.fwSlot s.idleSlot).bytes).svn
      (signedSlot (s.fwSlot s.idleSlot).bytes).hash).setFwSlot s.idleSlot (signedSlot (s.fwSlot s.idleSlot).bytes)).mbEnd 0 []) := by
  show execFwCommit s = _
  unfold execFwCommit
  rw [mailbox_served hs]
  dsimp only
  rw [if_neg (by simp [hsig]), if_neg (by omega)]
  rfl

theorem exec_fwCommit_unsigned {s : State} (hs : s.mbServed) (hsig : imageSigned (s.fwSlot s.idleSlot).bytes = false) :
    exec .fwCommit s = .next ((s.setFwSlot s.idleSlot {}).mbFail Code.FOLD_FW_SIGNATURE) := by
  show execFwCommit s = _
  unfold execFwCommit
  rw [mailbox_served hs]
  dsimp only
  rw [if_pos (by simp [hsig])]

theorem exec_fwCommit_old {s : State} (hs : s.mbServed) (hsig : imageSigned (s.fwSlot s.idleSlot).bytes = true)
    (hsvn : leAt (s.fwSlot s.idleSlot).bytes 8 4 < s.bell 2) :
    exec .fwCommit s = .next ((s.setFwSlot s.idleSlot {}).mbFail Code.FOLD_FW_ROLLBACK) := by
  show execFwCommit s = _
  unfold execFwCommit
  rw [mailbox_served hs]
  dsimp only
  rw [if_neg (by simp [hsig]), if_pos hsvn]

/-- FW_SELECT, served. -/
theorem exec_fwSelect {s : State} (hs : s.mbServed) (slot : Nat) (hslot : slot ≤ 1)
    (hok : slot = s.fold.running ∨ (s.fwSlot slot).committed = true) :
    exec (.fwSelect slot) s = .next ({ s.fwEvent .owner slot (s.fwSlot slot).svn (s.fwSlot slot).hash with
      fold := { (s.fwEvent .owner slot (s.fwSlot slot).svn (s.fwSlot slot).hash).fold with next := slot } }.mbEnd 0 []) := by
  show execFwSelect slot s = _
  unfold execFwSelect
  rw [mailbox_served hs]
  dsimp only
  rw [if_neg (by omega), if_neg (by rcases hok with h | h <;> simp [h])]

/-- ROLLBACK_SET, served, up to the running image's SVN (R571). -/
theorem exec_rollbackSet_ok {s : State} (hs : s.mbServed) (v : Nat) (hlo : s.bell 2 < v) (hhi : v ≤ (s.fwSlot s.fold.running).svn) :
    exec (.rollbackSet v) s = .next (((s.fwEvent .owner s.fold.running (s.fwSlot s.fold.running).svn
      (s.fwSlot s.fold.running).hash).writeBell 2 v 0).mbEnd 0 []) := by
  show execRollbackSet v s = _
  unfold execRollbackSet
  rw [mailbox_served hs]
  dsimp only
  rw [if_neg (by omega), if_neg (by omega), if_neg (by omega)]

theorem exec_rollbackSet_above {s : State} (hs : s.mbServed) (v : Nat) (hv : (s.fwSlot s.fold.running).svn < v) :
    exec (.rollbackSet v) s = .next (s.mbFail Code.FOLD_FW_ROLLBACK) := by
  show execRollbackSet v s = _
  unfold execRollbackSet
  rw [mailbox_served hs]
  dsimp only
  rw [if_pos hv]

/-- OWNER_SET, served: it installs the first key, and another only under the present one (R562). -/
theorem exec_ownerSet_first {s : State} (hs : s.mbServed) (hk : s.fold.ownerKey = none) (key : Nat) (sig : List Byte) :
    exec (.ownerSet key sig) s = .next ({ s with fold := { s.fold with ownerKey := some key } }.mbEnd 0 []) := by
  show execOwnerSet key sig s = _
  unfold execOwnerSet
  rw [mailbox_served hs]
  dsimp only
  rw [hk]
  rfl

theorem exec_ownerSet_signed {s : State} (hs : s.mbServed) {k : Nat} (hk : s.fold.ownerKey = some k) (key : Nat) (sig : List Byte)
    (hv : Config.ecdsaVerify k (leBytes 96 key) sig = true) :
    exec (.ownerSet key sig) s = .next ({ s with fold := { s.fold with ownerKey := some key } }.mbEnd 0 []) := by
  show execOwnerSet key sig s = _
  unfold execOwnerSet
  rw [mailbox_served hs]
  dsimp only
  rw [hk, if_neg (by simp [hv])]

theorem exec_ownerSet_unsigned {s : State} (hs : s.mbServed) {k : Nat} (hk : s.fold.ownerKey = some k) (key : Nat) (sig : List Byte)
    (hv : Config.ecdsaVerify k (leBytes 96 key) sig = false) :
    exec (.ownerSet key sig) s = .next (s.mbFail Code.FOLD_DEBUG_SIGNATURE) := by
  show execOwnerSet key sig s = _
  unfold execOwnerSet
  rw [mailbox_served hs]
  dsimp only
  rw [hk, if_pos (by simp [hv])]

theorem exec_keysvcSet {s : State} (hs : s.mbServed) (key : Nat) :
    exec (.keysvcSet key) s = .next ({ s with fold := { s.fold with keysvcKey := some key } }.mbEnd 0 []) := by
  show execKeysvcSet key s = _
  unfold execKeysvcSet
  rw [mailbox_served hs]

theorem exec_serviceKeySet {s : State} (hs : s.mbServed) (key : Nat) :
    exec (.serviceKeySet key) s = .next ({ s with fold := { s.fold with serviceKey := some key } }.mbEnd 0 []) := by
  show execServiceKeySet key s = _
  unfold execServiceKeySet
  rw [mailbox_served hs]

/-! ### What the requests leave -/

/-- A chunk staged (R570). -/
theorem fwStage_answers {s : State} (hs : s.mbServed) (off : Nat) (chunk : List Byte) (hne : chunk ≠ [])
    (hfit : off + chunk.length ≤ 0x400000) :
    ∃ t, exec (.fwStage off chunk) s = .next t ∧ { s with fold := { s.fold with slots := t.fold.slots } }.answered t [] ∧
      t.fwSlot s.idleSlot = { s.fwSlot s.idleSlot with bytes := putBytes (s.fwSlot s.idleSlot).bytes off chunk, committed := false } ∧
      ∀ i, i ≠ s.idleSlot → t.fwSlot i = s.fwSlot i := by
  have hslot := fun i => (fwSlot_mbEnd _ 0 [] i).trans (fwSlot_setFwSlot s s.idleSlot i
    { s.fwSlot s.idleSlot with bytes := putBytes (s.fwSlot s.idleSlot).bytes off chunk, committed := false })
  exact ⟨_, exec_fwStage hs off chunk hne hfit, answered_setFwSlot s _ _, (hslot s.idleSlot).trans (if_pos rfl),
    fun i hi => (hslot i).trans (if_neg (Ne.symm hi))⟩

/-- An audit record, and a change of the Fold's own data, before a request's answer. -/
theorem fold_answer_frame {s u : State} (f : Fold) (h : Only 562949953421345 s u) (payload : List Byte) :
    { u with fold := f }.mbEnd 0 payload =
      { s with regs := u.regs, audit := u.audit, bells := u.bells, fold := { f with mbStatus := 2, mbResponse := payload },
               out := .ownerMsix 0 :: .mailbox 0 payload :: s.out } := by
  have hu : u = { s with regs := u.regs, audit := u.audit, bells := u.bells } := h.eq_takes
  exact congrArg (fun w : State => { w with fold := f }.mbEnd 0 payload) hu

theorem slots_answer_frame {s u : State} (h : Only 562949953421345 s u) (k : KMap FwSlot) :
    { u with fold := { u.fold with slots := k } }.mbEnd 0 [] =
      { s with regs := u.regs, audit := u.audit, bells := u.bells, fold := { s.fold with slots := k, mbStatus := 2, mbResponse := [] },
               out := .ownerMsix 0 :: .mailbox 0 [] :: s.out } := by
  refine (fold_answer_frame _ h []).trans ?_
  rw [h.fold rfl]

theorem setFwSlot_answer_frame {s u t : State} (h : Only 562949953421345 s u) (i : Nat) (x : FwSlot) (ht : t = (u.setFwSlot i x).mbEnd 0 []) :
    t = { s with regs := t.regs, audit := t.audit, bells := t.bells, fold := { s.fold with slots := t.fold.slots, mbStatus := 2, mbResponse := [] },
                 out := .ownerMsix 0 :: .mailbox 0 [] :: s.out } := by
  have hframe := ht.trans (slots_answer_frame h (u.setFwSlot i x).fold.slots)
  generalize (u.setFwSlot i x).fold.slots = k at hframe
  rw [hframe]

/-- An image committed (R570). -/
theorem fwCommit_commits {s : State} (hs : s.mbServed) (hsig : imageSigned (s.fwSlot s.idleSlot).bytes = true)
    (hsvn : s.bell 2 ≤ leAt (s.fwSlot s.idleSlot).bytes 8 4) :
    ∃ t, exec .fwCommit s = .next t ∧
      t = { s with regs := t.regs, audit := t.audit, bells := t.bells, fold := { s.fold with slots := t.fold.slots, mbStatus := 2, mbResponse := [] },
                   out := .ownerMsix 0 :: .mailbox 0 [] :: s.out } ∧
      t.fwSlot s.idleSlot = signedSlot (s.fwSlot s.idleSlot).bytes ∧
      (∀ i, i ≠ s.idleSlot → t.fwSlot i = s.fwSlot i) ∧
      ∃ d, t.audited 0x20 (s.idleSlot :: leAt (s.fwSlot s.idleSlot).bytes 8 4 :: d) := by
  have hpool : 0 < s.auditFree := by
    have := auditFree_pos hs.2.2.2.2
    omega
  have hexec := exec_fwCommit_ok hs hsig hsvn
  obtain ⟨d, haudit⟩ : ∃ d, (s.fwEvent .owner s.idleSlot (signedSlot (s.fwSlot s.idleSlot).bytes).svn
      (signedSlot (s.fwSlot s.idleSlot).bytes).hash).audited 0x20 (s.idleSlot :: leAt (s.fwSlot s.idleSlot).bytes 8 4 :: d) :=
    audited_fwEvent .owner s.idleSlot _ _ hpool
  have hframe := only_fwEvent_self s .owner s.idleSlot (signedSlot (s.fwSlot s.idleSlot).bytes).svn (signedSlot (s.fwSlot s.idleSlot).bytes).hash
  generalize signedSlot (s.fwSlot s.idleSlot).bytes = x at hexec hframe haudit ⊢
  generalize s.fwEvent .owner s.idleSlot x.svn x.hash = u at hexec hframe haudit
  have hslot := fun i => (fwSlot_mbEnd _ 0 [] i).trans (fwSlot_setFwSlot u s.idleSlot i x)
  have hkeep : ∀ i, u.fwSlot i = s.fwSlot i := fun i => by
    unfold State.fwSlot
    rw [hframe.fold rfl]
  exact ⟨_, hexec, setFwSlot_answer_frame hframe _ _ rfl, (hslot s.idleSlot).trans (if_pos rfl),
    fun i hi => ((hslot i).trans (if_neg (Ne.symm hi))).trans (hkeep i), d, audited_of_audit (audit_answer_setFwSlot u s.idleSlot x) haudit⟩

/-- An image refused leaves its slot empty (R570). -/
theorem fwRefused {s : State} (code : Nat) (h : 256 < s.logFree) :
    s.refusedMb ((s.setFwSlot s.idleSlot {}).mbFail code) code ∧
    ((s.setFwSlot s.idleSlot {}).mbFail code).fwSlot s.idleSlot = {} ∧ ((s.setFwSlot s.idleSlot {}).mbFail code).audit = s.audit := by
  have hslot : (s.setFwSlot s.idleSlot {}).fwSlot s.idleSlot = {} := (fwSlot_setFwSlot s s.idleSlot s.idleSlot {}).trans (if_pos rfl)
  have hrefused : s.refusedMb ((s.setFwSlot s.idleSlot {}).mbFail code) code := refusedMb_mbFail (s := s.setFwSlot s.idleSlot {}) code h
  obtain ⟨hfold, haudit, -⟩ := mbFail_frame (s := s.setFwSlot s.idleSlot {}) code h
  refine ⟨hrefused, ?_, haudit⟩
  rw [State.fwSlot, hfold]
  exact hslot

/-- A slot selected for the next power-up (R570). -/
theorem fwSelect_answers {s : State} (hs : s.mbServed) (slot : Nat) (hslot : slot ≤ 1)
    (hok : slot = s.fold.running ∨ (s.fwSlot slot).committed = true) :
    ∃ t, exec (.fwSelect slot) s = .next t ∧
      t = { s with regs := t.regs, audit := t.audit, bells := t.bells, fold := { s.fold with next := slot, mbStatus := 2, mbResponse := [] },
                   out := .ownerMsix 0 :: .mailbox 0 [] :: s.out } ∧ ∃ d, t.audited 0x20 (slot :: (s.fwSlot slot).svn :: d) := by
  have hpool : 0 < s.auditFree := by
    have := auditFree_pos hs.2.2.2.2
    omega
  have hexec := exec_fwSelect hs slot hslot hok
  have hframe := only_fwEvent_self s .owner slot (s.fwSlot slot).svn (s.fwSlot slot).hash
  obtain ⟨d, haudit⟩ := audited_fwEvent (s := s) .owner slot (s.fwSlot slot).svn (s.fwSlot slot).hash hpool
  generalize s.fwEvent .owner slot (s.fwSlot slot).svn (s.fwSlot slot).hash = u at hexec hframe haudit
  refine ⟨_, hexec, ?_, d, haudit⟩
  refine (fold_answer_frame _ hframe []).trans ?_
  rw [hframe.fold rfl]
  rfl

/-- The rollback floor raised (R571). -/
theorem rollbackSet_raises {s : State} (hs : s.mbServed) (v : Nat) (hlo : s.bell 2 < v) (hv : v < 2 ^ 32)
    (hhi : v ≤ (s.fwSlot s.fold.running).svn) (hok : ((List.range 3).filter (s.bellStuck 2)).length < 2) (h2 : s.bellStuck 2 2 = false) :
    ∃ t, exec (.rollbackSet v) s = .next t ∧ t.bell 2 = v ∧ t.fold = { s.fold with mbStatus := 2, mbResponse := [] } ∧ t.log = s.log ∧
      t.audited 0x40 [0] := by
  have hfull : 512 < s.auditFree := auditFree_pos hs.2.2.2.2
  have hexec := exec_rollbackSet_ok hs v hlo hhi
  have hu := only_fwEvent_self s .owner s.fold.running (s.fwSlot s.fold.running).svn (s.fwSlot s.fold.running).hash
  have hbell : (s.fwEvent .owner s.fold.running (s.fwSlot s.fold.running).svn (s.fwSlot s.fold.running).hash).bell 2 = s.bell 2 :=
    bell_commit _ _ _ _ _ _ 2 (by decide)
  have hlen := length_fwEvent (s := s) .owner s.fold.running (s.fwSlot s.fold.running).svn (s.fwSlot s.fold.running).hash (by omega)
  generalize s.fwEvent .owner s.fold.running (s.fwSlot s.fold.running).svn (s.fwSlot s.fold.running).hash = u at hexec hu hbell hlen
  have hstuck : u.bellStuck 2 = s.bellStuck 2 := by
    unfold State.bellStuck
    rw [hu.bellDead rfl]
  have hpool : 0 < ({ u with bellPending := 0 }.putBell 2 v).auditFree := by
    show 0 < 32768 - u.audit.pool.length
    unfold State.auditFree at hfull
    omega
  have hwrite := writeBell_rises (s := u) 2 v (by omega) (by decide) (by rw [hstuck]; exact hok) (by rw [hstuck]; exact h2)
  have hw : Only 562949953421345 ({ u with bellPending := 0 }.putBell 2 v) (u.writeBell 2 v 0) := by
    rw [hwrite]
    exact only_commit _ _ _ _ _ _ rfl (only_refl _ _)
  have hnew : (u.writeBell 2 v 0).bell 2 = v := by
    rw [hwrite, bell_commit _ _ _ _ _ _ 2 (by decide)]
    exact (bell_putBell _ 2 2 v (by omega)).trans (if_pos rfl)
  have hhead : (u.writeBell 2 v 0).audited 0x40 [0] := by
    rw [hwrite]
    exact audited_commit 0x40 .firmware 2 (u.bell 2) v [0] hpool
  generalize u.writeBell 2 v 0 = w at hexec hw hnew hhead
  refine ⟨_, hexec, hnew, ?_, (hw.log rfl).trans (hu.log rfl), hhead⟩
  rw [(mbEnd_frame w 0 []).1, hw.fold rfl, ← hu.fold rfl]
  rfl

/-- A floor above the running image's SVN is refused (R571). -/
theorem rollbackSet_refused {s : State} (hs : s.mbServed) (v : Nat) (hv : (s.fwSlot s.fold.running).svn < v) (h : 256 < s.logFree) :
    ∃ t, exec (.rollbackSet v) s = .next t ∧ s.refusedMb t Code.FOLD_FW_ROLLBACK ∧ t.bells = s.bells :=
  ⟨_, exec_rollbackSet_above hs v hv, refusedMb_mbFail _ h, (mbFail_frame _ h).2.2⟩

/-- The Owner's key under its present one (R562). -/
theorem ownerSet_answers {s : State} (hs : s.mbServed) {k : Nat} (hk : s.fold.ownerKey = some k) (key : Nat) (sig : List Byte) :
    ∃ t, exec (.ownerSet key sig) s = .next t ∧
      (Config.ecdsaVerify k (leBytes 96 key) sig = true → { s with fold := { s.fold with ownerKey := some key } }.answered t []) ∧
      (Config.ecdsaVerify k (leBytes 96 key) sig = false → 256 < s.logFree →
        s.refusedMb t Code.FOLD_DEBUG_SIGNATURE ∧ t.fold.ownerKey = some k) := by
  cases hv : Config.ecdsaVerify k (leBytes 96 key) sig with
  | true => exact ⟨_, exec_ownerSet_signed hs hk key sig hv, fun _ => rfl, fun h => nomatch h⟩
  | false =>
    refine ⟨_, exec_ownerSet_unsigned hs hk key sig hv, fun h => (nomatch h), fun _ hroom => ⟨refusedMb_mbFail _ hroom, ?_⟩⟩
    rw [(mbFail_frame _ hroom).1]
    exact hk

/-- Settles O10: each request runs as its `exec_` lemma says, and the lemmas above say what that leaves. -/
theorem mailboxAnswers : Obligations.MailboxAnswers := by
  unfold Obligations.MailboxAnswers
  refine ⟨?_, ?_⟩
  · intro page off v s hs hp ho h4
    refine ⟨exec_regRead hs page off (okOffset_of hp ho h4), ?_⟩
    have hpage : pageOf (page * 0x1000 + off) ≤ 28 := by
      unfold pageOf
      omega
    exact ⟨_, _, exec_registerWrite_whole .owner (page * 0x1000 + off) (v % 2 ^ 32) s (by omega) hpage (Nat.mod_lt _ (by decide)),
      exec_regWrite hs page off v (okOffset_of hp ho h4), rfl⟩
  · intro s hs
    refine ⟨fun nonce hn => ⟨_, exec_attest hs nonce hn, answered_mbEnd s _⟩, ⟨_, exec_certRead hs, answered_mbEnd s _⟩,
      fwStage_answers hs, ?_, fwSelect_answers hs, rollbackSet_raises hs, rollbackSet_refused hs,
      fun hk key sig => ⟨_, exec_ownerSet_first hs hk key sig, answered_mbEnd _ _⟩, fun k hk => ownerSet_answers hs hk,
      fun key => ⟨_, exec_keysvcSet hs key, answered_mbEnd _ _⟩, fun key => ⟨_, exec_serviceKeySet hs key, answered_mbEnd _ _⟩⟩
    rintro b rfl
    cases hsig : imageSigned (s.fwSlot s.idleSlot).bytes with
    | false =>
      exact ⟨_, exec_fwCommit_unsigned hs hsig, fun h => (nomatch h), fun _ hroom => fwRefused _ hroom, fun h => (nomatch h)⟩
    | true =>
      by_cases hsvn : s.bell 2 ≤ leAt (s.fwSlot s.idleSlot).bytes 8 4
      · obtain ⟨t, hexec, hframe⟩ := fwCommit_commits hs hsig hsvn
        exact ⟨t, hexec, fun _ _ => hframe, fun h => (nomatch h), fun _ hold => absurd hsvn (Nat.not_le.mpr hold)⟩
      · exact ⟨_, exec_fwCommit_old hs hsig (Nat.lt_of_not_le hsvn), fun _ h => absurd h hsvn, fun h => (nomatch h),
          fun _ _ hroom => fwRefused _ hroom⟩

/-! ### What leaves a lane: control blocks and replays -/

/-- Frame g is frame f or a later state of it or of another frame of its lane and flash: its place stands, and what has become of it
stands. -/
structure LinkFrame.Older (f g : LinkFrame) : Prop where
  lane : g.lane = f.lane
  index : g.index = f.index
  ord : g.ord = f.ord
  flash : g.flash = f.flash
  sent : f.sent = true → g.sent = true
  withheld : f.withheld = true → g.withheld = true
  cut : f.cut = true → g.cut = true
  confirmed : f.confirmed = true → g.confirmed = true

theorem LinkFrame.Older.refl (f : LinkFrame) : f.Older f := ⟨rfl, rfl, rfl, rfl, id, id, id, id⟩

theorem LinkFrame.Older.trans {f g h : LinkFrame} (a : f.Older g) (b : g.Older h) : f.Older h :=
  ⟨b.lane.trans a.lane, b.index.trans a.index, b.ord.trans a.ord, b.flash.trans a.flash, b.sent ∘ a.sent, b.withheld ∘ a.withheld,
    b.cut ∘ a.cut, b.confirmed ∘ a.confirmed⟩

/-- Where a frame stands: its lane and its flash index. -/
def LinkFrame.place (f : LinkFrame) : Nat × Nat := (f.lane, f.index)

/-- Every frame of a list comes from one of another list. -/
def FramesFrom (fs gs : List LinkFrame) : Prop := ∀ g ∈ gs, ∃ f ∈ fs, LinkFrame.Older f g

theorem framesFrom_refl (fs : List LinkFrame) : FramesFrom fs fs := fun g hg => ⟨g, hg, .refl g⟩

theorem FramesFrom.trans {fs gs hs : List LinkFrame} (a : FramesFrom fs gs) (b : FramesFrom gs hs) : FramesFrom fs hs := by
  intro h hh
  obtain ⟨g, hg, bg⟩ := b h hh
  obtain ⟨f, hf, af⟩ := a g hg
  exact ⟨f, hf, af.trans bg⟩

theorem framesFrom_filter (p : LinkFrame → Bool) (fs : List LinkFrame) : FramesFrom fs (fs.filter p) :=
  fun g hg => ⟨g, List.mem_of_mem_filter hg, .refl g⟩

/-- Frames changed one by one. -/
theorem framesFrom_map {u : LinkFrame → LinkFrame} (hu : ∀ f, LinkFrame.Older f (u f)) (fs : List LinkFrame) : FramesFrom fs (fs.map u) := by
  intro g hg
  obtain ⟨f, hf, rfl⟩ := List.mem_map.mp hg
  exact ⟨f, hf, hu f⟩

theorem places_map {u : LinkFrame → LinkFrame} (hu : ∀ f, (u f).place = f.place) (fs : List LinkFrame) :
    (fs.map u).map LinkFrame.place = fs.map LinkFrame.place := by
  rw [List.map_map]
  exact List.map_congr_left (fun f _ => hu f)

/-- From s to t the link has sent, and nothing else: replays and control blocks have left, no frame has gone, and of the registers only
the count of replays has changed. -/
structure Resends (s t : State) : Prop where
  flink : t.flink = { s.flink with frames := t.flink.frames, lanes := t.flink.lanes, slack := t.flink.slack }
  frames : FramesFrom s.flink.frames t.flink.frames
  places : t.flink.frames.map LinkFrame.place = s.flink.frames.map LinkFrame.place
  regs : RegsOff [R.FLINK_RETX_COUNT] s t
  drover : t.drover = s.drover

section Sending

variable {s t u : State}

theorem resends_refl (s : State) : Resends s s := ⟨rfl, framesFrom_refl _, rfl, regsOff_refl _ s, rfl⟩

theorem Resends.trans (a : Resends s t) (b : Resends t u) : Resends s u where
  flink := by
    rw [b.flink, a.flink]
  frames := a.frames.trans b.frames
  places := b.places.trans a.places
  regs := fun r hr => (b.regs r hr).trans (a.regs r hr)
  drover := b.drover.trans a.drover

/-- What touches neither the link nor Drover nor a register. -/
theorem resends_same (hf : t.flink = s.flink) (hr : t.regs = s.regs) (hd : t.drover = s.drover) : Resends s t := by
  refine ⟨by rw [hf], by rw [hf]; exact framesFrom_refl _, by rw [hf], regsOff_regs hr (regsOff_refl _ s), hd⟩

theorem resends_emit (s : State) (x : Out) : Resends s (s.emit x) := resends_same rfl rfl rfl

theorem resends_setLane (s : State) (l : Nat) (x : Lane) : Resends s (s.setLane l x) :=
  ⟨rfl, framesFrom_refl _, rfl, regsOff_refl _ s, rfl⟩

theorem resends_inc (s : State) : Resends s (s.inc R.FLINK_RETX_COUNT) :=
  ⟨rfl, framesFrom_refl _, rfl, regsOff_setFld _ _ _ _ (by simp) (regsOff_refl _ s), rfl⟩

theorem resends_noteSlack (s : State) (l ns : Nat) : Resends s (s.noteSlack l ns) := by
  unfold State.noteSlack
  split
  · split
    · exact resends_refl s
    · exact ⟨rfl, framesFrom_refl _, rfl, regsOff_refl _ s, rfl⟩
  · exact ⟨rfl, framesFrom_refl _, rfl, regsOff_refl _ s, rfl⟩

/-- The frames at one place become a later state of one of them. -/
theorem resends_modFrame (s : State) {f g : LinkFrame} (hf : f ∈ s.flink.frames) (hg : f.Older g) :
    Resends s (s.modFrame f.lane f.index (fun _ => g)) := by
  refine ⟨rfl, ?_, places_map (fun h => ?_) _, regsOff_refl _ s, rfl⟩
  · intro h hh
    obtain ⟨e, he, rfl⟩ := List.mem_map.mp hh
    split
    · exact ⟨f, hf, hg⟩
    · exact ⟨e, he, .refl e⟩
  · split
    next hp =>
      obtain ⟨hl, hi⟩ := hp
      exact (Prod.ext (hg.lane.trans hl.symm) (hg.index.trans hi.symm) : (g.lane, g.index) = (h.lane, h.index))
    next => rfl

theorem resends_foldl {β : Type} (f : State → β → State) (hf : ∀ s b, Resends s (f s b)) :
    ∀ (l : List β) (s : State), Resends s (l.foldl f s)
  | [], s => resends_refl s
  | b :: l, s => (hf s b).trans (resends_foldl f hf l (f s b))

/-- A replay leaves its frame where it is (R222, R227). -/
theorem resends_sendReplay (s : State) (l index ns : Nat) : Resends s (s.sendReplay l index ns) := by
  unfold State.sendReplay
  split
  · exact resends_refl s
  · next f hf =>
    obtain ⟨hl, hi⟩ : f.lane = l ∧ f.index = index := by simpa using List.find?_some hf
    subst hl hi
    dsimp only
    have hmod := resends_modFrame (s.inc R.FLINK_RETX_COUNT) (f := f) (g := { f with replayed := true, ended := false })
      (List.mem_of_find?_eq_some hf) ⟨rfl, rfl, rfl, rfl, id, id, id, id⟩
    exact ((((resends_inc s).trans hmod).trans (resends_setLane _ _ _)).trans (resends_noteSlack _ _ _)).trans (resends_emit _ _)

theorem resends_sendDue (s : State) (l : Nat) : Resends s (s.sendDue l) := by
  unfold State.sendDue
  dsimp only
  split
  · exact resends_refl s
  · exact (resends_setLane s _ _).trans (resends_foldl _ (fun s (d : Nat × Nat) => resends_sendReplay s l d.1 d.2) _ _)

theorem resends_resumeFrame (s : State) (l : Nat) : Resends s (s.resumeFrame l) := by
  unfold State.resumeFrame
  split
  · exact resends_refl s
  · exact resends_emit s _

theorem resends_fresh (s : State) : Resends s s.fresh.2 := resends_same rfl rfl rfl

theorem resends_boundaryOf (s : State) (l : Nat) : Resends s (s.boundaryOf l) := by
  unfold State.boundaryOf
  split
  · exact resends_refl s
  · exact ((resends_sendDue s l).trans (resends_resumeFrame _ l)).trans (resends_fresh _)

theorem resends_allLanes (s : State) (typ content : Nat) : Resends s (s.allLanes typ content) := by
  refine resends_foldl _ (fun s l => ?_) _ s
  split
  · exact resends_emit s _
  · exact resends_refl s

theorem resends_shadeBlocks (s : State) (content : Nat) : Resends s (s.shadeBlocks content) := by
  refine (resends_foldl _ (fun s l => ?_) _ s).trans (resends_fresh _)
  split
  · exact ((resends_emit s _).trans (resends_sendDue _ l)).trans (resends_resumeFrame _ l)
  · exact resends_refl s

/-- DISCARD drops frames; none goes (R223, R235). -/
theorem resends_dropAfter (s : State) (x : Stripe) (h : Int) : Resends s (s.dropAfter x h) := by
  unfold State.dropAfter
  dsimp only
  refine Resends.trans ?_ (resends_foldl _ (fun s l => ?_) _ _)
  · refine ⟨rfl, framesFrom_map (fun f => ?_) _, places_map (fun f => ?_) _, regsOff_refl _ s, rfl⟩
    · split
      · exact ⟨rfl, rfl, rfl, rfl, id, id, id, id⟩
      · exact .refl f
    · split <;> rfl
  · split
    · exact resends_refl s
    · exact resends_setLane s _ _

theorem Resends.shaded (h : Resends s t) : t.flink.shaded = s.flink.shaded := by rw [h.flink]

theorem Resends.strobed (h : Resends s t) : t.flink.strobed = s.flink.strobed := by rw [h.flink]

theorem Resends.carries (h : Resends s t) : t.flink.carries = s.flink.carries := by rw [h.flink]

end Sending

/-! ### A stripe boundary -/

/-- State t is s but for what the position channels hold. -/
def EncsOnly (s t : State) : Prop := ∃ e, t = { s with drover := { s.drover with encs := e } }

theorem encsOnly_take {s u : State} (hu : EncsOnly s u) (ch : Nat) (i : ChanIn) : EncsOnly s (u.take ch i) := by
  have hput : ∀ x, EncsOnly s (u.setEnc ch x) := by
    obtain ⟨e, rfl⟩ := hu
    exact fun x => ⟨_, rfl⟩
  unfold State.take
  dsimp only
  split
  · exact hput _
  · exact hput _
  · exact hput _
  · exact hu

/-- A sample changes the channels alone. -/
theorem encsOnly_see (s : State) (m : Sample) : EncsOnly s (s.see m) := by
  refine List.foldlRecOn (motive := EncsOnly s) _ _ ⟨s.drover.encs, rfl⟩ (fun u hu ch _ => ?_)
  split
  · exact hu
  · exact encsOnly_take hu _ _

theorem nextIndex_see (s : State) (m : Sample) : (s.see m).nextIndex = s.nextIndex := by
  obtain ⟨e, he⟩ := encsOnly_see s m
  rw [he]
  rfl

theorem only_see_self (s : State) (m : Sample) : Only 4398046511104 s (s.see m) := only_see m rfl (only_refl _ s)

theorem rd_see (s : State) (m : Sample) (a : RegAddr) : (s.see m).rd a = s.rd a := by
  unfold State.rd
  rw [(only_see_self s m).regs rfl]

/-- Encoder records that come into force are all that a boundary changes of Drover. -/
theorem drover_keepBoundary (s : State) : ∃ c, s.keepBoundary.drover = { s.drover with cals := c } := by
  have hload : ∀ (l : List Nat) (u : State), (∃ c, u.drover = { s.drover with cals := c }) →
      ∃ c, (l.foldl State.loadEnc u).drover = { s.drover with cals := c } := fun l u hu =>
    List.foldlRecOn (motive := fun u : State => ∃ c, u.drover = { s.drover with cals := c }) l _ hu (fun u hu ch _ => by
      obtain ⟨c, hc⟩ := hu
      unfold State.loadEnc
      rw [hc]
      exact ⟨_, rfl⟩)
  have hquiet : ∀ u : State, Only 342555046656868353 s u → ∃ c, u.drover = { s.drover with cals := c } := fun u hu =>
    ⟨s.drover.cals, hu.drover rfl⟩
  unfold State.keepBoundary
  dsimp only
  rw [(only_showAge (mm := 1) rfl (only_refl _ _)).drover rfl]
  refine hload _ _ (hquiet _ ?_)
  have hage : Only 342555046656868353 s (if s.keepWait.contains (0x30, 0) ∧ s.keepLost 0x30 then { s with age := s.age.safe } else s) :=
    only_ite (only_put288230376151711744 rfl (only_refl _ s)) (only_refl _ s)
  have hsram : ∀ u, Only 342555046656868353 s u → ∀ m, Only 342555046656868353 s { u with sram := m } := fun u hu m =>
    only_put281474976710656 rfl hu
  refine only_ite (only_loadStrobes rfl (only_setFld _ _ _ _ rfl ?_)) (only_setFld _ _ _ _ rfl ?_)
  all_goals exact only_ite (hsram _ hage _) hage

theorem only_keepBoundary_self (s : State) : Only 342559444703379457 s s.keepBoundary := only_keepBoundary rfl (only_refl _ s)

theorem only_boundary_self (s : State) : Only 342559445559017475 s s.boundary := only_boundary rfl (only_refl _ s)

/-- The state of a boundary with its keep records in force: what the pattern and the stray map then add. -/
theorem boundary_of (s : State) : ∃ w, s.takeForce.fencesAtBoundary.keepBoundary = w ∧ Only 342559444703379459 s w ∧
    s.boundary = { w with
      dtabs := match kget? w.dnext 0x0C01 with
        | some t => kput w.dtabs 0x0C01 t
        | none => w.dtabs,
      dnext := [], caps := w.capsNext.getD w.caps, capsNext := none } := by
  refine ⟨_, rfl, only_keepBoundary rfl (only_fencesAtBoundary rfl (only_takeForce rfl (only_refl _ s))), ?_⟩
  unfold State.boundary
  rfl

theorem drover_boundary (s : State) : ∃ c, s.boundary.drover = { s.drover with cals := c } := by
  obtain ⟨w, hw, -, hb⟩ := boundary_of s
  obtain ⟨c, hc⟩ := drover_keepBoundary s.takeForce.fencesAtBoundary
  have hd : s.takeForce.fencesAtBoundary.drover = s.drover :=
    (only_fencesAtBoundary (mm := 281474976710658) rfl (only_takeForce rfl (only_refl _ s))).drover rfl
  rw [hw, hd] at hc
  exact ⟨c, by rw [hb, hc]⟩

theorem nextIndex_boundary (s : State) : s.boundary.nextIndex = s.nextIndex := by
  obtain ⟨c, hc⟩ := drover_boundary s
  unfold State.nextIndex
  rw [hc]

/-- The addresses of the RWB registers (R11). -/
def rwbAddrs : List RegAddr :=
  (List.range 29).flatMap (fun p => ((pageRows p).filter (fun r => r.acc = .rwb)).map (fun r => p * 0x1000 + r.off))

theorem mem_rwbAddrs {a : RegAddr} (hp : pageOf a ≤ 28) (h : (rowsAt (pageOf a) (offOf a)).any (fun r => r.acc = .rwb) = true) :
    a ∈ rwbAddrs := by
  obtain ⟨r, hr, hacc⟩ := List.any_eq_true.mp h
  obtain ⟨hrow, hoff⟩ := List.mem_filter.mp hr
  refine List.mem_flatMap.mpr ⟨pageOf a, List.mem_range.mpr (Nat.lt_succ_of_le hp), List.mem_map.mpr ⟨r, List.mem_filter.mpr ⟨hrow, hacc⟩, ?_⟩⟩
  have hoff' : r.off = offOf a := by simpa using hoff
  rw [hoff']
  exact Nat.div_add_mod' a 0x1000

/-- Reads after many canonical writes, each of a value of its key alone. -/
theorem kget_foldl_kset {α : Type} [DecidableEq α] (d : Nat → α) (g : Nat → α) (l : List Nat) (m : KMap α) (k : Nat) :
    kget d (l.foldl (fun m a => kset d m a (g a)) m) k = if k ∈ l then g k else kget d m k := by
  induction l generalizing m with
  | nil => simp
  | cons a l ih =>
    rw [List.foldl_cons, ih, kget_kset]
    by_cases hk : k ∈ l
    · simp [hk]
    · by_cases ha : a = k
      · subst ha
        simp [hk]
      · simp [hk, ha, Ne.symm ha]

theorem takeForce_eq (s : State) : s.takeForce =
    { s with force := rwbAddrs.foldl (fun m a => kset regReset m a (BitVec.ofNat 32 (s.rd a))) s.force } := by
  unfold State.takeForce rwbAddrs
  rfl

/-- An RWB register comes into force as it stands (R11). -/
theorem inForce_takeForce (s : State) {a : RegAddr} (h : a ∈ rwbAddrs) : s.takeForce.inForce a = s.rd a := by
  have hget := kget_foldl_kset regReset (fun a => BitVec.ofNat 32 (s.rd a)) rwbAddrs s.force a
  rw [if_pos h] at hget
  rw [takeForce_eq]
  unfold State.inForce
  rw [hget, BitVec.toNat_ofNat, Nat.mod_eq_of_lt (rd_lt a)]

theorem inForce_boundary (s : State) {a : RegAddr} (h : a ∈ rwbAddrs) : s.boundary.inForce a = s.rd a := by
  obtain ⟨w, hw, -, hb⟩ := boundary_of s
  have hforce : w.force = s.takeForce.force := by
    rw [← hw, (only_keepBoundary_self _).force rfl]
    exact (only_fencesAtBoundary (mm := 281474976710656) rfl (only_refl _ s.takeForce)).force rfl
  rw [← inForce_takeForce s h, hb]
  unfold State.inForce
  rw [← hforce]

/-- The staged pattern and stray map come into force (R177, R182). -/
theorem staged_boundary (s : State) : s.boundary.dnext = [] ∧ s.boundary.capsNext = none ∧ s.boundary.caps = s.capsNext.getD s.caps ∧
    kget (fun _ => []) s.boundary.dtabs 0x0C01 = (kget? s.dnext 0x0C01).getD (kget (fun _ => []) s.dtabs 0x0C01) := by
  obtain ⟨w, -, ho, hb⟩ := boundary_of s
  rw [hb]
  refine ⟨rfl, rfl, by rw [← ho.capsNext rfl, ← ho.caps rfl], ?_⟩
  rw [← ho.dnext rfl, ← ho.dtabs rfl]
  cases kget? w.dnext 0x0C01 with
  | none => rfl
  | some t => exact (kget_kput _ _ _ _ _).trans (if_pos rfl)

/-! ### Drover at a start -/

theorem stripes_modStripe (s : State) (x : Stripe) (f : Stripe → Stripe) :
    (s.modStripe x f).stripes = s.stripes.map (fun t => if t.ord = x.ord then f t else t) := by
  unfold State.modStripe State.modStripes
  simp only [decide_eq_true_eq]

theorem drover_droverTo (s : State) (n : Nat) : (s.droverTo n).drover = { s.drover with st := n } := rfl

/-- Drover starts before the first row, armed (R265, R444). -/
theorem drover_startDrover (s : State) (x : Stripe) : (s.startDrover x).drover.st = 1 ∧ (s.startDrover x).drover.k = (x.firstRow : Int) - 1 := by
  unfold State.startDrover
  dsimp only
  generalize List.foldl _ s _ = s2
  generalize s2.startGear _ _ _ = r
  rw [drover_droverTo]
  exact ⟨rfl, rfl⟩

/-- The first flash of the stripe takes the next index (R9, R255). -/
theorem stripes_startDrover (s : State) (x : Stripe) : (s.startDrover x).stripes =
    s.stripes.map (fun t => if t.ord = x.ord then { t with flashBase := s.nextIndex - x.firstRow } else t) := by
  unfold State.startDrover
  dsimp only
  generalize hs2 : List.foldl _ s _ = s2
  have hst : s2.stripes = s.stripes := by
    rw [← hs2]
    refine List.foldlRecOn (motive := fun u : State => u.stripes = s.stripes) _ _ rfl (fun u hu ch _ => ?_)
    split
    · exact hu
    · exact hu
  generalize s2.startGear _ _ _ = r
  generalize s.nextIndex - x.firstRow = b
  rw [(only_droverTo (mm := 4398046511105) 1 rfl (only_refl _ _)).stripes rfl, stripes_modStripe]
  refine congrArg (List.map _) (Eq.trans ?_ hst)
  refine Only.stripes (m := 4398046511105) (only_wr _ _ rfl (only_setFld _ _ _ _ rfl ?_)) rfl
  exact only_setFld _ _ _ _ rfl (only_setFld _ _ _ _ rfl (only_setFld _ _ _ _ rfl (only_put4398046511104 rfl (only_refl _ s2))))

/-! ### A stripe takes effect -/

/-- The registers that show the stripes. -/
def shownStripes : List RegAddr := [R.HOST_STRIPE_NOW, R.HOST_STRIPE_NEXT, R.HOST_STRIPE_STATE, R.CLK_PREWARM, R.TALLY_CNT_A, R.TALLY_CNT_B,
  R.TALLY_CNT_C, R.TALLY_CHECK_STRIPE, R.TALLY_EXIT_ROW, R.TALLY_DEFICIT_COUNT, R.TALLY_DEFICIT_BASE]

theorem regsOff_showCheck {l : List RegAddr} {s t : State} (hl : ∀ a ∈ shownStripes, a ∈ l) (h : RegsOff l s t) : RegsOff l s t.showCheck := by
  have hin : ∀ a, a ∈ shownStripes → a ∈ l := hl
  unfold State.showCheck
  split
  · exact h
  · dsimp only
    repeat' refine regsOff_wr _ _ (hin _ (by decide)) ?_
    exact h

theorem regsOff_showStripes {l : List RegAddr} {s t : State} (hl : ∀ a ∈ shownStripes, a ∈ l) (h : RegsOff l s t) : RegsOff l s t.showStripes := by
  unfold State.showStripes
  dsimp only
  refine regsOff_showCheck hl (regsOff_setFld _ _ _ _ (hl _ (by decide)) ?_)
  repeat' refine regsOff_wr _ _ (hl _ (by decide)) ?_
  exact h

/-- A stripe that starts: the boundary is passed, the stripe writes and Drover is armed (R436, R444). -/
def State.startedStripe (s : State) (x : Stripe) : State :=
  ((s.boundary.modStripe x (fun t => { t with st := .writing, exitRow := t.firstRow, nextCycle := t.firstRow, zoneHold := true })).takesEffect
    x.jobId x.goCmd).startDrover x

/-- Its lanes: FLASH_SET names the next index, SHADE goes off, and nothing of an earlier run is kept (R226, R436). -/
def State.startedLanes (s : State) (x : Stripe) : State :=
  let t := (s.allLanes 0x66 s.nextIndex).shadeOff (s.nextIndex % 2 ^ 24)
  { t with flink := { t.flink with strobed := [], discard := none }, curSlot := some x.slot, ivdon := { t.ivdon with epochGot := false } }

/-- Its motion run, and the registers that show it. -/
def State.startedRun (s : State) (x : Stripe) : State :=
  { s with profile := if s.profRuns then
      { s.profile with runId := some (x.slot, x.id, x.pass), limitedSent := false, pH := s.profile.y.p / 4294967296 } else s.profile }.showStripes

theorem leadL_startedRun (s : State) (x : Stripe) : (s.startedRun x).leadL = s.leadL := by
  have h : RegsOff shownStripes s (s.startedRun x) := regsOff_showStripes (fun _ h => h) (regsOff_refl _ s)
  unfold State.leadL State.fld
  rw [h R.FLINK_LEAD (by decide)]

theorem takeEffect_eq (s : State) (x : Stripe) :
    s.takeEffect x = State.firstCycles (((s.startedStripe x).startedLanes x).startedRun x).leadL x.ord (((s.startedStripe x).startedLanes x).startedRun x) := by
  rw [leadL_startedRun]
  unfold State.takeEffect State.startedRun State.startedLanes State.startedStripe
  dsimp only

theorem only_startedRun {mm : Nat} {s0 s : State} (x : Stripe) (hm : sub 8796093022209 mm = true) (hs : Only mm s0 s) :
    Only mm s0 (s.startedRun x) :=
  only_showStripes (sub_trans rfl hm) (only_put8796093022208 (sub_trans rfl hm) hs)

/-- The opening of the lanes, the run and what shows it touch no state of Drover, the stripes or the field. -/
theorem only_startedLanes {mm : Nat} {s0 s : State} (x : Stripe) (hm : sub 112986309650494324737 mm = true) (hs : Only mm s0 s) :
    Only mm s0 (s.startedLanes x) :=
  only_put2305845208237015040 (sub_trans rfl hm) (only_shadeOff _ (sub_trans rfl hm) (only_allLanes _ _ (sub_trans rfl hm) hs))

theorem flink_startedLanes (s : State) (x : Stripe) : (s.startedLanes x).flink.shaded = false ∧ (s.startedLanes x).flink.strobed = [] ∧
    (s.startedLanes x).flink.discard = none := by
  unfold State.startedLanes State.shadeOff
  generalize s.allLanes _ _ = t
  generalize s.nextIndex % 2 ^ 24 % 2 ^ 24 * 4 = c
  have h := (resends_shadeBlocks { t with flink := { t.flink with shaded := false } } c).shaded
  generalize State.shadeBlocks _ c = w at h
  exact ⟨h, rfl, rfl⟩

theorem stripes_startedStripe (s : State) (x : Stripe) : (s.startedStripe x).stripes = s.stripes.map (fun y => if y.ord = x.ord then
    { y with st := .writing, exitRow := y.firstRow, nextCycle := y.firstRow, zoneHold := true, flashBase := s.nextIndex - x.firstRow } else y) := by
  obtain ⟨w, hw⟩ : ∃ w, s.boundary.modStripe x
    (fun t => { t with st := .writing, exitRow := t.firstRow, nextCycle := t.firstRow, zoneHold := true }) = w := ⟨_, rfl⟩
  have hnext : (w.takesEffect x.jobId x.goCmd).nextIndex = s.nextIndex := by
    rw [← nextIndex_boundary s, ← hw]
    unfold State.nextIndex
    rw [(only_takesEffect (mm := 4202496) _ _ rfl (only_modStripe _ _ rfl (only_refl _ s.boundary))).drover rfl]
  unfold State.startedStripe
  rw [hw, stripes_startDrover, hnext, (only_takesEffect (mm := 8192) _ _ rfl (only_refl _ w)).stripes rfl, ← hw, stripes_modStripe,
    (only_boundary_self s).stripes rfl, List.map_map]
  refine List.map_congr_left (fun y _ => ?_)
  by_cases hy : y.ord = x.ord
  · simp [hy]
  · simp [hy]

theorem only_startedStripe (s : State) (x : Stripe) : Only 4398050713601 s.boundary (s.startedStripe x) :=
  only_startDrover _ rfl (only_takesEffect _ _ rfl (only_modStripe _ _ rfl (only_refl _ _)))


/-- Settles O22: the staged values are those of the boundary; what follows it, up to the first share cycles, leaves them. -/
theorem stripeTakesEffect : Obligations.StripeTakesEffect := by
  unfold Obligations.StripeTakesEffect
  intro smp x s _ hfirst hready hprofile hepoch hshort hbefore
  have hsee := only_see_self s smp
  have hexec : exec (.stripeTakesEffect smp) s = .next ((s.see smp).takeEffect x) := by
    show execStripeTakesEffect smp s = _
    unfold execStripeTakesEffect
    dsimp only
    rw [hfirst]
    dsimp only
    rw [if_neg (by simp [hready, hprofile, hepoch]), if_neg (by simp [hshort]), if_pos hbefore]
  have hrd : ∀ a, (s.see smp).rd a = s.rd a := rd_see s smp
  have hnext := nextIndex_see s smp
  generalize s.see smp = v at hexec hsee hrd hnext
  obtain ⟨hdnext, hcapsNext, hcaps, htab⟩ := staged_boundary v
  have hstart := only_startedStripe v x
  have hstripes := stripes_startedStripe v x
  obtain ⟨hst, hk⟩ : (v.startedStripe x).drover.st = 1 ∧ (v.startedStripe x).drover.k = (x.firstRow : Int) - 1 := drover_startDrover _ x
  have hb := only_boundary_self v
  have hforce := fun a (ha : a ∈ rwbAddrs) => inForce_boundary v ha
  refine ⟨_, hexec.trans (congrArg _ (takeEffect_eq v x)), ?_⟩
  generalize v.startedStripe x = w at *
  obtain ⟨hshaded, hstrobed, hdiscard⟩ := flink_startedLanes w x
  have hu : Only 112986318446587346945 w ((w.startedLanes x).startedRun x) := only_startedRun x rfl (only_startedLanes x rfl (only_refl _ w))
  have hslot : (w.startedLanes x).curSlot = some x.slot := rfl
  have hgot : (w.startedLanes x).ivdon.epochGot = false := rfl
  generalize w.startedLanes x = y at *
  have hrun := only_startedRun (mm := 8796093022209) x rfl (only_refl _ y)
  generalize y.startedRun x = u at *
  refine ⟨?_, ?_, ?_, ?_, ?_, ?_, ?_, ?_, ?_, ?_, ?_, ?_, ?_, ?_, ?_, ?_, ?_⟩
  · rw [hu.stripes rfl, hstripes, hsee.stripes rfl, hnext]
  · rw [hu.drover rfl, hst]
  · rw [hu.drover rfl, hk]
  · rw [hrun.curSlot rfl, hslot]
  · rw [hrun.flink rfl, hshaded]
  · rw [hrun.flink rfl, hstrobed]
  · rw [hrun.flink rfl, hdiscard]
  · rw [hrun.ivdon rfl, hgot]
  · rw [hu.dnext rfl, hstart.dnext rfl, hdnext]
  · rw [hu.capsNext rfl, hstart.capsNext rfl, hcapsNext]
  · rw [hu.caps rfl, hstart.caps rfl, hcaps, hsee.capsNext rfl, hsee.caps rfl]
  · rw [hu.dtabs rfl, hstart.dtabs rfl, htab, hsee.dnext rfl, hsee.dtabs rfl]
  · intro a hp hrow _ _
    unfold State.inForce at hforce ⊢
    rw [hu.force rfl, hstart.force rfl, hforce a (mem_rwbAddrs hp hrow), hrd]
  · rw [hu.field rfl, hstart.field rfl, hb.field rfl, hsee.field rfl]
  · rw [hu.tally rfl, hstart.tally rfl, hb.tally rfl, hsee.tally rfl]
  · rw [hu.hold rfl, hstart.hold rfl, hb.hold rfl, hsee.hold rfl]
  · rw [hu.log rfl, hstart.log rfl, hb.log rfl, hsee.log rfl]

/-! ### What leaves the strobes as they are -/

/-- The registers that show the last flash index fired (R9). -/
def flashRegs : List RegAddr := [R.DROVER_FLASH_L, R.DROVER_FLASH_L + 4]

/-- From s to t no flash has fired and none has been confirmed, and every frame left comes from one of s; unless frames may be dropped,
each frame keeps its place and each carry waits on. -/
structure Onward (drops : Bool) (s t : State) : Prop where
  k : t.drover.k = s.drover.k
  lastIndex : t.drover.lastIndex = s.drover.lastIndex
  strobedEver : t.drover.strobedEver = s.drover.strobedEver
  unconfirmed : t.drover.unconfirmed = s.drover.unconfirmed
  cut : t.drover.cut = s.drover.cut
  strobed : t.flink.strobed = s.flink.strobed
  frames : FramesFrom s.flink.frames t.flink.frames
  places : drops = false → t.flink.frames.map LinkFrame.place = s.flink.frames.map LinkFrame.place
  carries : drops = false → ∀ c ∈ s.flink.carries, c ∈ t.flink.carries
  flash : ∀ a ∈ flashRegs, t.rd a = s.rd a

section Strobes

variable {d : Bool} {s0 s t : State}

theorem onward_refl (d : Bool) (s : State) : Onward d s s :=
  ⟨rfl, rfl, rfl, rfl, rfl, rfl, framesFrom_refl _, fun _ => rfl, fun _ _ h => h, fun _ _ => rfl⟩

theorem Onward.trans (a : Onward d s0 s) (b : Onward d s t) : Onward d s0 t where
  k := b.k.trans a.k
  lastIndex := b.lastIndex.trans a.lastIndex
  strobedEver := b.strobedEver.trans a.strobedEver
  unconfirmed := b.unconfirmed.trans a.unconfirmed
  cut := b.cut.trans a.cut
  strobed := b.strobed.trans a.strobed
  frames := a.frames.trans b.frames
  places := fun e => (b.places e).trans (a.places e)
  carries := fun e c hc => b.carries e c (a.carries e c hc)
  flash := fun r hr => (b.flash r hr).trans (a.flash r hr)

theorem onward_ite {c : Prop} [Decidable c] {a b : State} (ha : Onward d s0 a) (hb : Onward d s0 b) : Onward d s0 (if c then a else b) := by
  split
  · exact ha
  · exact hb

theorem onward_foldl {β : Type} (f : State → β → State) (hf : ∀ u b, Onward d s0 u → Onward d s0 (f u b)) (l : List β)
    (h : Onward d s0 s) : Onward d s0 (l.foldl f s) :=
  List.foldlRecOn (motive := Onward d s0) l f h (fun u hu b _ => hf u b hu)

/-- A change of registers other than these, of neither the link nor Drover. -/
theorem onward_regs {l : List RegAddr} (hr : RegsOff l s t) (hl : ∀ a ∈ flashRegs, a ∉ l) (ho : Only 295147898582283059199 s t)
    (h : Onward d s0 s) : Onward d s0 t := by
  refine h.trans ?_
  have hd : t.drover = s.drover := ho.drover rfl
  have hf : t.flink = s.flink := ho.flink rfl
  refine ⟨by rw [hd], by rw [hd], by rw [hd], by rw [hd], by rw [hd], by rw [hf], ?_, fun _ => by rw [hf], fun _ => ?_, fun a ha => hr a (hl a ha)⟩
  · rw [hf]
    exact framesFrom_refl _
  · rw [hf]
    exact fun _ hc => hc

/-- A change of no register, of neither the link nor Drover. -/
theorem onward_quiet (ho : Only 295147898582283059198 s t) (h : Onward d s0 s) : Onward d s0 t := by
  have hregs : t.regs = s.regs := ho.regs rfl
  have ho' : Only 295147898582283059199 s t := only_mono rfl ho
  exact onward_regs (l := []) (regsOff_regs hregs (regsOff_refl _ s)) (fun _ _ => List.not_mem_nil) ho' h

theorem onward_wr (a v : Nat) (ha : ∀ r ∈ flashRegs, r ≠ a) (h : Onward d s0 s) : Onward d s0 (s.wr a v) :=
  onward_regs (regsOff_wr a v (List.mem_singleton.mpr rfl) (regsOff_refl [a] s)) (fun r hr => by simpa using ha r hr)
    (only_wr _ _ rfl (only_refl _ s)) h

theorem onward_setFld (a hi lo x : Nat) (ha : ∀ r ∈ flashRegs, r ≠ a) (h : Onward d s0 s) : Onward d s0 (s.setFld a hi lo x) :=
  onward_wr a _ ha h

theorem onward_emit (x : Out) (h : Onward d s0 s) : Onward d s0 (s.emit x) :=
  h.trans (onward_quiet (only_emit _ rfl (only_refl _ s)) (onward_refl d s))

theorem onward_resends (ht : Resends s t) (h : Onward d s0 s) : Onward d s0 t := by
  refine h.trans ⟨by rw [ht.drover], by rw [ht.drover], by rw [ht.drover], by rw [ht.drover], by rw [ht.drover], ht.strobed, ht.frames,
    fun _ => ht.places, fun _ => by rw [ht.carries]; exact fun _ hc => hc, fun a ha => ht.regs a ?_⟩
  revert a
  decide

theorem flash_not_mem_recordRegs (p : Nat) : ∀ a ∈ flashRegs, a ∉ recordRegs p := by
  have hoff : ∀ a ∈ flashRegs, ¬ offOf a < 0x100 := by decide
  have hlog : ∀ a ∈ flashRegs, a ∉ logRegs := by decide
  intro a ha hm
  rcases mem_recordRegs hm with h | h
  · exact hoff a ha h
  · exact hlog a ha h

theorem onward_recordRaw (a : RecArg) (h : Onward d s0 s) : Onward d s0 (s.recordRaw a) :=
  onward_regs (regsOff_recordRaw a (fun _ hb => hb) (regsOff_refl _ s)) (flash_not_mem_recordRegs _) (only_recordRaw _ rfl (only_refl _ s)) h

theorem onward_showStripes (h : Onward d s0 s) : Onward d s0 s.showStripes :=
  onward_regs (regsOff_showStripes (fun _ h => h) (regsOff_refl _ s)) (by decide) (only_showStripes rfl (only_refl _ s)) h

theorem onward_modStripe (x : Stripe) (f : Stripe → Stripe) (h : Onward d s0 s) : Onward d s0 (s.modStripe x f) :=
  onward_quiet (only_modStripe _ _ rfl (only_refl _ s)) h

/-- Drover changes state alone (R271). -/
theorem onward_droverTo (n : Nat) (h : Onward d s0 s) : Onward d s0 (s.droverTo n) := by
  have hst : Onward d s { s with drover := { s.drover with st := n } } :=
    ⟨rfl, rfl, rfl, rfl, rfl, rfl, framesFrom_refl _, fun _ => rfl, fun _ _ hc => hc, fun _ _ => rfl⟩
  exact onward_setFld _ _ _ _ (by decide) (onward_setFld _ _ _ _ (by decide) (h.trans hst))

/-! ### The link's own steps -/

theorem onward_shadeOn (now : Bool) (h : Onward d s0 s) : Onward d s0 (s.shadeOn now) := by
  have hon : Onward d s { s with flink := { s.flink with shaded := true } } :=
    ⟨rfl, rfl, rfl, rfl, rfl, rfl, framesFrom_refl _, fun _ => rfl, fun _ _ hc => hc, fun _ _ => rfl⟩
  exact onward_resends (resends_shadeBlocks _ _) (h.trans hon)

/-- A DISCARD noted, with what else of the state neither the link's frames nor Drover nor a register is (R235). -/
theorem onward_discard (v : Option Nat) (p : Profile) (c : KMap (List Byte)) (h : Onward d s0 s) :
    Onward d s0 { s with flink := { s.flink with discard := v }, profile := p, ckptUnits := c } :=
  h.trans ⟨rfl, rfl, rfl, rfl, rfl, rfl, framesFrom_refl _, fun _ => rfl, fun _ _ hc => hc, fun _ _ => rfl⟩

theorem onward_post (l : List Carry) (h : Onward d s0 s) : Onward d s0 (s.post l) :=
  h.trans ⟨rfl, rfl, rfl, rfl, rfl, rfl, framesFrom_refl _, fun _ => rfl, fun _ _ hc => List.mem_append_left _ hc, fun _ _ => rfl⟩

/-- The frames at a place go on to a later state. -/
theorem onward_modFrame (l i : Nat) {g : LinkFrame → LinkFrame} (hg : ∀ f, LinkFrame.Older f (g f)) (h : Onward d s0 s) :
    Onward d s0 (s.modFrame l i g) := by
  have hold : ∀ f : LinkFrame, f.Older (if f.lane = l ∧ f.index = i then g f else f) := by
    intro f
    split
    · exact hg f
    · exact .refl f
  refine h.trans ⟨rfl, rfl, rfl, rfl, rfl, rfl, framesFrom_map hold _, fun _ => places_map (fun f => ?_) _, fun _ _ hc => hc, fun _ _ => rfl⟩
  exact Prod.ext (hold f).lane (hold f).index

theorem onward_countMiss (l n : Nat) (h : Onward d s0 s) : Onward d s0 (s.countMiss l n) :=
  onward_resends (resends_setLane _ _ _) (onward_setFld _ _ _ _ (by decide) h)

/-! ### Containment -/

theorem onward_enterContained (x : Stripe) (a : RecArg) (now : Bool) (h : Int) (hs : Onward d s0 s) :
    Onward d s0 (s.enterContained x a now h) := by
  unfold State.enterContained
  dsimp only
  generalize hu : State.modStripe _ _ _ = u
  have hheld : Onward d s0 u := by
    rw [← hu]
    exact onward_modStripe _ _ (onward_recordRaw _ hs)
  have hshade := onward_resends (resends_dropAfter _ x h) (onward_resends (resends_allLanes _ 0x55 (lowBits 24 (x.flashBase + h)))
    (onward_shadeOn now (onward_droverTo 5 hheld)))
  generalize State.dropAfter _ _ _ = v at hshade ⊢
  have hregs : Onward d s0 (((v.setFld R.SYS_CKPT_STATE 3 0 1).wr R.SYS_CKPT_HELD (lowBits 32 h)).wr64 R.DROVER_HELD_L v.drover.lastIndex) :=
    onward_wr _ _ (by decide) (onward_wr _ _ (by decide) (onward_wr _ _ (by decide) (onward_setFld _ _ _ _ (by decide) hshade)))
  generalize State.wr64 _ _ _ = w at hregs ⊢
  exact onward_showStripes (onward_quiet (only_floodContain _ rfl (only_refl _ _)) (onward_discard _ _ _ hregs))

theorem onward_containAt (a : RecArg) (now : Bool) (h : Int) (hs : Onward d s0 s) : Onward d s0 (s.containAt a now h) := by
  have hnow : Onward d s0 (if now then s.shadeOn true else s) := onward_ite (onward_shadeOn _ hs) hs
  unfold State.containAt
  split
  · exact onward_recordRaw _ hs
  · next x _ =>
    split
    · dsimp only
      split
      · refine onward_discard _ _ _ (onward_setFld _ _ _ _ (by decide) (onward_resends (resends_dropAfter _ _ _) ?_))
        exact onward_resends (resends_allLanes _ _ _) (onward_shadeOn _ (onward_droverTo _ (onward_modStripe _ _ (onward_recordRaw _ hnow))))
      · exact onward_recordRaw _ hnow
    · exact onward_enterContained _ _ _ _ hs

theorem onward_contain (a : RecArg) (now : Bool) (h : Onward d s0 s) : Onward d s0 (s.contain a now) := onward_containAt a now _ h

theorem onward_record (a : RecArg) (h : Onward d s0 s) : Onward d s0 (s.record a) := by
  unfold State.record
  exact onward_ite (onward_contain _ _ (onward_recordRaw _ h)) (onward_recordRaw _ h)

theorem onward_chain (hi det : Nat) (a : RecArg) (h : Onward d s0 s) : Onward d s0 (s.chain hi det a) :=
  onward_record _ (onward_setFld _ _ _ _ (by decide) h)

/-! ### Frames that are cut or withheld -/

theorem onward_cutMark (f : LinkFrame) (bad : Bool) (h : Onward d s0 s) : Onward d s0 (s.cutMark f bad) := by
  unfold State.cutMark
  refine onward_record _ (onward_modFrame _ _ (fun _ => ⟨rfl, rfl, rfl, rfl, id, id, fun _ => rfl, id⟩) ?_)
  exact onward_ite (onward_chain _ _ _ (onward_post _ h)) (onward_post _ h)

theorem onward_cutFrame (f : LinkFrame) (bad : Bool) (h : Onward d s0 s) : Onward d s0 (s.cutFrame f bad) :=
  onward_modFrame _ _ (fun _ => ⟨rfl, rfl, rfl, rfl, id, id, id, id⟩) (onward_cutMark f bad h)

theorem onward_withhold (f : LinkFrame) (h : Onward d s0 s) : Onward d s0 (s.withhold f) := by
  unfold State.withhold
  refine onward_record _ (onward_countMiss _ _ (onward_setFld _ _ _ _ (by decide) ?_))
  exact onward_modFrame _ _ (fun _ => ⟨rfl, rfl, rfl, rfl, id, fun _ => rfl, id, id⟩) (onward_post _ h)

end Strobes

/-! ### The endings that a strobe can bring -/

section Endings

variable {d : Bool} {s0 s : State}

theorem onward_showDemand (h : Onward d s0 s) : Onward d s0 s.showDemand :=
  onward_setFld _ _ _ _ (by decide) (onward_setFld _ _ _ _ (by decide) h)

/-- The pace request changes no index of Drover (R269). -/
theorem onward_pace (lim lag : Nat) (h : Onward d s0 s) : Onward d s0 (s.pace lim lag) := by
  have hput : ∀ (u : State) (c : Option Nat) (b : Bool), Onward d s0 u →
      Onward d s0 { u with drover := { u.drover with paceCeil := c, paceSent := b } } := fun u c b hu =>
    hu.trans ⟨rfl, rfl, rfl, rfl, rfl, rfl, framesFrom_refl _, fun _ => rfl, fun _ _ hc => hc, fun _ _ => rfl⟩
  unfold State.pace
  dsimp only
  generalize (if s.drover.rate16.sum = 0 then 0 else _ : Nat) = rate
  have hrate : Onward d s0 ((s.wr R.DROVER_RATE_NOW (rate % 2 ^ 21)).wr R.DROVER_RATE_LIM lim) :=
    onward_wr _ _ (by decide) (onward_wr _ _ (by decide) h)
  generalize State.wr (State.wr _ _ _) R.DROVER_RATE_LIM lim = u at hrate ⊢
  split
  · have hask : Onward d s0 ((u.wr R.DROVER_PACE (2 ^ 31 + (lim - lim / 10 * min lag 512 / 512))).setFld R.DROVER_STATE 9 9 1) :=
      onward_setFld _ _ _ _ (by decide) (onward_wr _ _ (by decide) hrate)
    generalize State.setFld _ R.DROVER_STATE 9 9 1 = v at hask ⊢
    exact onward_ite (hput _ _ _ hask) (onward_record _ (hput _ _ _ hask))
  · split
    · have hend : Onward d s0 ((u.wr R.DROVER_PACE 0).setFld R.DROVER_STATE 9 9 0) :=
        onward_setFld _ _ _ _ (by decide) (onward_wr _ _ (by decide) hrate)
      generalize State.setFld _ R.DROVER_STATE 9 9 0 = v at hend ⊢
      exact hput _ _ _ hend
    · exact hrate

theorem onward_complete (n status r0 r1 r2 r3 : Nat) (h : Onward d s0 s) : Onward d s0 (s.complete n status r0 r1 r2 r3) :=
  onward_quiet (only_complete _ _ _ _ _ _ rfl (only_refl _ s)) h

theorem onward_fail (n code : Nat) (h : Onward d s0 s) : Onward d s0 (s.fail n code) :=
  onward_complete _ _ _ _ _ _ (onward_recordRaw _ h)

theorem onward_commit (kind : Nat) (o : Origin) (addr old new : Nat) (detail : List Nat) (h : Onward d s0 s) :
    Onward d s0 (s.commit kind o addr old new detail) := by
  have hoff : ∀ a ∈ flashRegs, ¬ offOf a < 0x100 := by decide
  have hhead : ∀ a ∈ flashRegs, a ∉ [R.AUDIT_HEAD_L, R.AUDIT_HEAD_L + 4, R.AUDIT_FREE] := by decide
  by_cases hfree : s.auditFree = 0
  · unfold State.commit
    rw [if_pos hfree]
    exact onward_setFld _ _ _ _ (by decide) (onward_quiet (only_put32 rfl (only_refl _ s)) h)
  · refine onward_regs (regsOff_commit kind o addr old new detail (Nat.pos_of_ne_zero hfree)) (fun a ha hm => ?_)
      (only_commit _ _ _ _ _ _ rfl (only_refl _ s)) h
    rcases List.mem_cons.mp hm with he | hm
    · refine hoff a ha ?_
      rw [he]
      show (_ * 0x1000 + 0x2C) % 0x1000 < 0x100
      omega
    · exact hhead a ha hm

theorem onward_modJob (i : Nat) (f : Job → Job) (h : Onward d s0 s) : Onward d s0 (s.modJob i f) :=
  onward_quiet (only_modJob _ _ rfl (only_refl _ s)) h

/-! #### Stripes and frames that go -/

theorem onward_setCtx (i : Nat) (c : Ctx) (h : Onward d s0 s) : Onward d s0 (s.setCtx i c) := by
  have hput : Onward d s0 ({ s with ctxs := kset (fun _ => {}) s.ctxs i c }) := onward_quiet (only_put1048576 rfl (only_refl _ s)) h
  have hbusy : ∀ r ∈ flashRegs, r ≠ 0x8008 := by decide
  exact onward_quiet (only_serve rfl (only_refl _ _)) (onward_setFld _ _ _ _ hbusy hput)

theorem onward_dropCtxs (p : Ctx → Bool) (h : Onward d s0 s) : Onward d s0 (s.dropCtxs p) :=
  onward_foldl _ (fun _ _ hu => onward_ite (onward_setCtx _ _ hu) hu) _ h

theorem onward_dropUnits (x : Stripe) (h : Onward d s0 s) : Onward d s0 (s.dropUnits x) := by
  unfold State.dropUnits
  dsimp only
  have hctxs := onward_dropCtxs (fun c => c.mode ≠ 0 && (c.purp = 3 && x.mapSet = some (c.item / 2 ^ 20) || c.purp = 4 && x.st = .contained)) h
  generalize State.dropCtxs _ _ = u at hctxs ⊢
  have hbusy := onward_ite (c := x.prepass = 2 ∨ x.prepass = 3 ∨ x.prepass = 5) (onward_setFld 0xA008 16 16 0 (by decide) hctxs) hctxs
  generalize (if x.prepass = 2 ∨ x.prepass = 3 ∨ x.prepass = 5 then u.setFld 0xA008 16 16 0 else u) = v at hbusy ⊢
  exact onward_ite (onward_quiet (only_put68719476736 rfl (only_refl _ v)) hbusy) hbusy

theorem onward_dropStripe (x : Stripe) (h : Onward d s0 s) : Onward d s0 (s.dropStripe x) := by
  unfold State.dropStripe
  dsimp only
  have hunits := onward_dropUnits x h
  generalize s.dropUnits x = u at hunits ⊢
  exact onward_showStripes (onward_quiet (only_put1924149542912 rfl (only_refl _ u)) hunits)

theorem onward_endStripe (x : Stripe) (state outcome status : Nat) (h : Onward d s0 s) : Onward d s0 (s.endStripe x state outcome status) :=
  onward_quiet (only_endStripe _ _ _ _ rfl (only_refl _ s)) h

theorem onward_laneComes (l : Nat) (h : Onward d s0 s) : Onward d s0 (s.laneComes l) :=
  onward_quiet (only_laneComes _ rfl (only_refl _ s)) h

theorem onward_idleLanes (h : Onward d s0 s) : Onward d s0 s.idleLanes := by
  refine onward_foldl _ (fun u l hu => onward_ite ?_ (onward_laneComes _ hu)) _ h
  exact onward_laneComes _ (onward_emit _ (onward_resends (resends_setLane _ _ _) hu))

/-- Frames of stripes that have ended go (R223). -/
theorem onward_dropFrames (h : Onward true s0 s) : Onward true s0 s.dropFrames := by
  unfold State.dropFrames
  refine onward_idleLanes (h.trans ⟨rfl, rfl, rfl, rfl, rfl, rfl, framesFrom_filter _ _, ?_, ?_, fun _ _ => rfl⟩)
  · exact fun e => nomatch e
  · exact fun e => nomatch e

theorem onward_freeSlot (slot : Nat) (h : Onward d s0 s) : Onward d s0 (s.freeSlot slot) := by
  unfold State.freeSlot
  dsimp only
  have hkey := onward_ite (c := (s.job slot).key.isSome) (onward_commit 0x0010 .firmware 0 0 0 [(s.job slot).keyId, (s.job slot).jobId, 0] h) h
  generalize (if (s.job slot).key.isSome then _ else s : State) = u at hkey ⊢
  exact onward_quiet (only_setJob _ _ rfl (only_refl _ _)) (onward_dropCtxs _ (onward_quiet (only_put262144 rfl (only_refl _ u)) hkey))

theorem onward_closeDue (slot : Nat) (h : Onward d s0 s) : Onward d s0 (s.closeDue slot) := by
  unfold State.closeDue
  refine onward_ite h ?_
  split
  · exact h
  · exact onward_complete _ _ _ _ _ _ (onward_freeSlot slot h)

theorem onward_endAborted (ord : Nat) (h : Onward true s0 s) : Onward true s0 (s.endAborted ord) := by
  unfold State.endAborted
  split
  · exact h
  · next x _ =>
    refine onward_ite h (onward_closeDue _ (onward_dropFrames (onward_quiet (only_finishAborts _ rfl (only_refl _ _)) ?_)))
    exact onward_dropStripe x (onward_quiet (only_markEnded _ rfl (only_refl _ _)) (onward_endStripe _ _ _ _ h))

/-! #### The keep and the bell words -/

theorem onward_storeKeep (o : Origin) (typ inst : Nat) (payload : List Byte) (bad : Nat) (h : Onward d s0 s) :
    Onward d s0 (s.storeKeep o typ inst payload bad) := by
  have henc : ∀ u : State, Onward d s0 u → Onward d s0 (u.encNow typ inst payload) := by
    intro u hu
    refine onward_ite (hu.trans ?_) hu
    exact ⟨rfl, rfl, rfl, rfl, rfl, rfl, framesFrom_refl _, fun _ => rfl, fun _ _ hc => hc, fun _ _ => rfl⟩
  have hdir : ∀ (u : State) (old : Nat), Onward d s0 u → Onward d s0 (u.listKeep.auditDir old) := fun u old hu =>
    onward_commit _ _ _ _ _ _ (onward_commit _ _ _ _ _ _ (onward_quiet (only_listKeep rfl (only_refl _ u)) hu))
  unfold State.storeKeep
  dsimp only
  refine henc _ (onward_quiet (only_keepWaits _ _ _ rfl (only_refl _ _)) ?_)
  have hput : ∀ r, Onward d s0 ({ s with keep := r }) := fun r => onward_quiet (only_put9007199254740992 rfl (only_refl _ s)) h
  exact onward_ite (hdir _ _ (onward_commit _ _ _ _ _ _ (hput _))) (onward_commit _ _ _ _ _ _ (hput _))

theorem onward_eraseKey (cause slot : Nat) (h : Onward d s0 s) : Onward d s0 (s.eraseKey cause slot) :=
  onward_ite (onward_modJob _ _ (onward_commit _ _ _ _ _ _ h)) h

theorem onward_eraseKeys (cause : Nat) (h : Onward d s0 s) : Onward d s0 (s.eraseKeys cause) :=
  onward_quiet (only_put576460752303423488 rfl (only_refl _ _)) (onward_eraseKey _ _ (onward_eraseKey _ _ h))

theorem onward_showPins (b : Nat) (h : Onward d s0 s) : Onward d s0 (s.showPins b) :=
  onward_quiet (only_tellBoard _ rfl (only_refl _ _)) (onward_setFld _ _ _ _ (by decide) (onward_setFld _ _ _ _ (by decide) h))

/-- A device-fatal event holds the run; no flash fires and no frame goes (R484). -/
theorem onward_deviceFatal (a : RecArg) (h : Onward d s0 s) : Onward d s0 (s.deviceFatal a) := by
  unfold State.deviceFatal
  split
  · exact h
  · dsimp only
    refine onward_foldl _ (fun _ _ hu => onward_fail _ _ hu) _ (onward_eraseKeys _ (onward_storeKeep _ _ _ _ _ ?_))
    have hhold : Onward d s0 (((({ s with fatal := a.code }).shadeOn true).droverTo 5).setFld R.DROVER_STANDSTILL 1 1 1) :=
      onward_setFld _ _ _ _ (by decide) (onward_droverTo _ (onward_shadeOn _ (onward_quiet (only_put4096 rfl (only_refl _ s)) h)))
    generalize State.setFld _ R.DROVER_STANDSTILL 1 1 1 = u at hhold ⊢
    exact onward_showPins _ (onward_wr _ _ (by decide) (onward_recordRaw _ (onward_quiet (only_put8796093022208 rfl (only_refl _ u)) hhold)))

theorem onward_writeBell (n v code : Nat) (h : Onward d s0 s) : Onward d s0 (s.writeBell n v code) := by
  unfold State.writeBell
  dsimp only
  refine onward_ite (onward_recordRaw _ h) (onward_ite (onward_deviceFatal _ h) ?_)
  have hput : Onward d s0 (({ s with bellPending := 0 }).putBell n v) :=
    onward_quiet (only_putBell _ _ rfl (only_put2251799813685248 rfl (only_refl _ s))) h
  exact onward_ite (onward_record _ (onward_commit _ _ _ _ _ _ hput)) (onward_commit _ _ _ _ _ _ hput)

theorem onward_clearCkpt (h : Onward d s0 s) : Onward d s0 s.clearCkpt :=
  onward_setFld _ _ _ _ (by decide) (onward_ite (onward_writeBell _ _ _ h) h)

/-! #### A stripe's end at its last flash -/

theorem onward_completeStripe (x : Stripe) (h : Onward d s0 s) : Onward d s0 (s.completeStripe x) := by
  unfold State.completeStripe
  dsimp only
  have hend := onward_endStripe x 1 0 0 h
  generalize s.endStripe x 1 0 0 = u at hend ⊢
  have hdrop := onward_dropStripe x (onward_ite (c := x.pass = 0) (onward_modJob x.slot
    (fun j => { j with completed := x.id :: j.completed, ended := if j.ended.contains x.id then j.ended else x.id :: j.ended }) hend) hend)
  generalize State.dropStripe _ x = v at hdrop ⊢
  have hckpt := onward_ite (c := x.count > 0) (onward_clearCkpt hdrop) hdrop
  generalize (if x.count > 0 then v.clearCkpt else v) = w at hckpt ⊢
  exact onward_ite (onward_quiet (only_autoRelease _ _ rfl (only_refl _ w)) hckpt) hckpt

theorem onward_endIfDone (ord : Nat) (h : Onward true s0 s) : Onward true s0 (s.endIfDone ord) := by
  unfold State.endIfDone
  split
  · exact h
  · exact onward_ite (onward_endAborted _ h) (onward_ite (onward_dropFrames (onward_completeStripe _ h)) h)

theorem onward_missedCkpt (x : Stripe) (h : Onward true s0 s) : Onward true s0 (s.missedCkpt x) :=
  onward_endIfDone _ (onward_foldl _ (fun _ _ hu => onward_fail _ _ hu) _ (onward_modStripe _ _ h))

theorem onward_lastFired (x : Stripe) (h : Onward d s0 s) : Onward d s0 (s.lastFired x) :=
  onward_ite h (onward_showStripes (onward_droverTo _ (onward_modStripe _ _ h)))

/-- What waits for a strobe leaves the strobes as they are (R278, R440, R603). -/
theorem onward_afterStrobe (x : Stripe) (h : Onward true s0 s) : Onward true s0 (s.afterStrobe x) := by
  have hslip : Onward true s { s with drover := { s.drover with slipPending := false } } :=
    ⟨rfl, rfl, rfl, rfl, rfl, rfl, framesFrom_refl _, fun _ => rfl, fun _ _ hc => hc, fun _ _ => rfl⟩
  have hfirst := onward_ite (c := s.drover.slipPending = true) (onward_contain { code := Code.DEFL_SYSREF_SLIP, cls := 2 } false (h.trans hslip)) h
  unfold State.afterStrobe
  dsimp only
  generalize (if s.drover.slipPending = true then _ else s : State) = u at hfirst ⊢
  split
  · exact hfirst
  · next y _ =>
    have hpeer := onward_modStripe y (fun t => { t with peer := false }) hfirst
    exact onward_ite (onward_ite (onward_contain _ _ hpeer) hfirst) (onward_ite (onward_missedCkpt _ hpeer) (onward_contain _ _ hpeer))

end Endings

/-! ### A sample under a stripe -/

section Sampling

variable {d : Bool} {s0 s : State}

theorem onward_see (m : Sample) (h : Onward d s0 s) : Onward d s0 (s.see m) := by
  obtain ⟨e, he⟩ := encsOnly_see s m
  rw [he]
  exact h.trans ⟨rfl, rfl, rfl, rfl, rfl, rfl, framesFrom_refl _, fun _ => rfl, fun _ _ hc => hc, fun _ _ => rfl⟩

theorem onward_locate (x : Stripe) (h : Onward d s0 s) : Onward d s0 (s.locate x) := by
  unfold State.locate
  dsimp only
  generalize Gear.advance _ _ _ _ _ _ = g
  generalize Gear.y g _ = y
  refine onward_showDemand (onward_setFld _ _ _ _ (by decide) (h.trans ?_))
  exact ⟨rfl, rfl, rfl, rfl, rfl, rfl, framesFrom_refl _, fun _ => rfl, fun _ _ hc => hc, fun _ _ => rfl⟩

theorem onward_peak (h : Onward d s0 s) : Onward d s0 s.peak :=
  h.trans ⟨rfl, rfl, rfl, rfl, rfl, rfl, framesFrom_refl _, fun _ => rfl, fun _ _ hc => hc, fun _ _ => rfl⟩

/-- A sample fires nothing (R266). -/
theorem onward_samplePeak (x : Stripe) (m : Sample) (h : Onward d s0 s) : Onward d s0 (s.sample x m).peak := by
  unfold State.sample
  exact onward_peak (onward_locate x (onward_see m h))

theorem only_samplePeak (s : State) (x : Stripe) (m : Sample) : Only 4398046511105 s (s.sample x m).peak :=
  only_peak rfl (only_sample _ _ rfl (only_refl _ s))

theorem regsOff_showDemand {l : List RegAddr} {s t : State} (hl : R.DROVER_DEMAND ∈ l) (h : RegsOff l s t) : RegsOff l s t.showDemand := by
  unfold State.showDemand State.maxFld
  exact regsOff_setFld _ _ _ _ hl (regsOff_setFld _ _ _ _ hl h)

/-- A sample shows itself in the zone and in the demand (R263, R265). -/
theorem regsOff_samplePeak (s : State) (x : Stripe) (m : Sample) :
    RegsOff [R.DROVER_ZONE_CTRL, R.DROVER_DEMAND] s (s.sample x m).peak := by
  have hsee : RegsOff [R.DROVER_ZONE_CTRL, R.DROVER_DEMAND] s (s.see m) := fun a _ => rd_see s m a
  refine regsOff_regs (t := s.sample x m) ((only_peak (mm := 4398046511104) rfl (only_refl _ _)).regs rfl) ?_
  unfold State.sample State.locate
  dsimp only
  generalize Gear.advance _ _ _ _ _ _ = g
  generalize s.see m = v at hsee ⊢
  exact regsOff_showDemand (by simp) (regsOff_setFld _ _ _ _ (by simp) (regsOff_regs rfl hsee))

end Sampling

/-! ### A containment reaches its state -/

theorem fld_setFld_low (s : State) (a : RegAddr) : (s.setFld a 3 0 1).fld a 3 0 = 1 := by
  have hlt : s.rd a < 2 ^ 32 := rd_lt a
  have hval : withField (s.rd a) 3 0 1 = s.rd a - s.rd a % 16 + 1 := by
    simp [withField, fieldOf]
  show fieldOf ((s.wr a (withField (s.rd a) 3 0 1)).rd a) 3 0 = 1
  rw [hval, rd_wr, if_pos rfl]
  show (_ % 2 ^ 32) >>> 0 % 16 = 1
  rw [Nat.shiftRight_zero]
  omega

/-- A stripe that is held at a flash stands contained by the cause (R470). -/
theorem containedBy_enterContained (s : State) (x : Stripe) (a : RecArg) (now : Bool) (h : Int) (hx : x ∈ s.stripes) :
    (s.enterContained x a now h).containedBy x a.code h := by
  unfold State.enterContained
  dsimp only
  generalize hr : s.recordRaw _ = r
  have hstripes : r.stripes = s.stripes := by
    rw [← hr]
    exact (only_recordRaw (mm := 78398662313265602577) _ rfl (only_refl _ s)).stripes rfl
  generalize hu : State.modStripe _ _ _ = u
  have hheld : ∃ y ∈ u.stripes, y.ord = x.ord ∧ y.st = .contained ∧ y.held = h ∧ y.cause = a.code ∧ y.ckpt = 1 := by
    rw [← hu, stripes_modStripe, hstripes]
    exact ⟨_, List.mem_map.mpr ⟨x, hx, if_pos rfl⟩, rfl, rfl, rfl, rfl, rfl⟩
  have hshaded : ((u.droverTo 5).shadeOn now).flink.shaded = true := (resends_shadeBlocks _ _).shaded
  generalize hv : State.shadeOn _ now = v at hshaded ⊢
  have hst : v.drover.st = 5 := by
    rw [← hv, (only_shadeOn (mm := 110680466641280565249) now rfl (only_refl _ (u.droverTo 5))).drover rfl]
    rfl
  have hvs : v.stripes = u.stripes := by
    rw [← hv]
    exact (only_shadeOn (mm := 110680471039327076353) now rfl (only_droverTo 5 rfl (only_refl _ u))).stripes rfl
  have hdrop := (resends_allLanes v 0x55 (lowBits 24 (x.flashBase + h))).trans (resends_dropAfter _ x h)
  have hds : (State.dropAfter (v.allLanes 0x55 (lowBits 24 (x.flashBase + h))) x h).stripes = v.stripes :=
    (only_dropAfter (mm := 73786978493861462016) x h rfl (only_allLanes _ _ rfl (only_refl _ v))).stripes rfl
  generalize State.dropAfter _ _ _ = w at hdrop hds ⊢
  have hckpt : (((w.setFld R.SYS_CKPT_STATE 3 0 1).wr R.SYS_CKPT_HELD (lowBits 32 h)).wr64 R.DROVER_HELD_L w.drover.lastIndex).fld
      R.SYS_CKPT_STATE 3 0 = 1 := by
    have hoff : RegsOff [R.SYS_CKPT_HELD, R.DROVER_HELD_L, R.DROVER_HELD_L + 4] (w.setFld R.SYS_CKPT_STATE 3 0 1)
        (((w.setFld R.SYS_CKPT_STATE 3 0 1).wr R.SYS_CKPT_HELD (lowBits 32 h)).wr64 R.DROVER_HELD_L w.drover.lastIndex) :=
      regsOff_wr _ _ (by simp) (regsOff_wr _ _ (by simp) (regsOff_wr _ _ (by simp) (regsOff_refl _ _)))
    have hkeep := hoff R.SYS_CKPT_STATE (by decide)
    have hset := fld_setFld_low w R.SYS_CKPT_STATE
    unfold State.fld at hset ⊢
    rw [hkeep, hset]
  have hregs : Only 1 w (((w.setFld R.SYS_CKPT_STATE 3 0 1).wr R.SYS_CKPT_HELD (lowBits 32 h)).wr64 R.DROVER_HELD_L w.drover.lastIndex) :=
    only_wr _ _ rfl (only_wr _ _ rfl (only_wr _ _ rfl (only_setFld _ _ _ _ rfl (only_refl _ w))))
  generalize State.wr64 _ _ _ = z at hckpt hregs ⊢
  generalize hc : State.mk .. = c
  have hcz : c.stripes = z.stripes ∧ c.drover = z.drover ∧ c.flink.shaded = z.flink.shaded ∧ c.regs = z.regs := by
    rw [← hc]
    exact ⟨rfl, rfl, rfl, rfl⟩
  obtain ⟨hcs, hcd, hcf, hcr⟩ := hcz
  have hend : Only 76092819304051900417 c (c.floodContain a.code).showStripes := only_showStripes rfl (only_floodContain _ rfl (only_refl _ c))
  have hcode : RegsOff shownStripes c (c.floodContain a.code).showStripes :=
    regsOff_showStripes (fun _ h => h) (regsOff_regs ((only_floodContain (mm := 76092819304051900416) _ rfl (only_refl _ c)).regs rfl) (regsOff_refl _ c))
  refine ⟨?_, ?_, ?_, ?_⟩
  · rw [hend.stripes rfl, hcs, hregs.stripes rfl, hds, hvs]
    exact hheld
  · rw [hend.drover rfl, hcd, hregs.drover rfl, hdrop.drover, hst]
  · rw [hend.flink rfl, hcf, hregs.flink rfl, hdrop.shaded, hshaded]
  · have hread : c.rd R.SYS_CKPT_STATE = z.rd R.SYS_CKPT_STATE := by
      unfold State.rd
      rw [hcr]
    unfold State.fld at hckpt ⊢
    rw [hcode R.SYS_CKPT_STATE (by decide), hread, hckpt]

/-! ### A flash fires -/

/-- Flash k, of index i, has fired since s. -/
structure Fired (s t : State) (k i : Nat) : Prop where
  k : t.drover.k = k
  lastIndex : t.drover.lastIndex = i
  strobedEver : t.drover.strobedEver = true
  unconfirmed : t.drover.unconfirmed = i :: s.drover.unconfirmed
  strobed : t.flink.strobed = (i :: s.flink.strobed).take 16
  flash : t.rd64 R.DROVER_FLASH_L = i % 2 ^ 64

/-- What fires and confirms nothing keeps what has fired. -/
theorem Fired.onward {d : Bool} {s t u : State} {k i : Nat} (h : Fired s t k i) (ho : Onward d t u) : Fired s u k i where
  k := ho.k.trans h.k
  lastIndex := ho.lastIndex.trans h.lastIndex
  strobedEver := ho.strobedEver.trans h.strobedEver
  unconfirmed := ho.unconfirmed.trans h.unconfirmed
  strobed := ho.strobed.trans h.strobed
  flash := by
    unfold State.rd64
    rw [ho.flash R.DROVER_FLASH_L (by decide), ho.flash (R.DROVER_FLASH_L + 4) (by decide)]
    exact h.flash

theorem rd64_wr64 (s : State) (a : RegAddr) (v : Nat) : (s.wr64 a v).rd64 a = v % 2 ^ 64 := by
  have hne : a + 4 ≠ a := Nat.ne_of_gt (Nat.lt_add_of_pos_right (by decide))
  unfold State.rd64 State.wr64
  rw [rd_wr, if_neg hne, rd_wr, if_pos rfl, rd_wr, if_pos rfl, Nat.mod_mod, Nat.mod_mod]
  omega

theorem stbDelay_congr {s t : State} {a : RegAddr} (h : t.rd a = s.rd a) : t.stbDelay a = s.stbDelay a := by
  unfold State.stbDelay State.fld
  rw [h]

/-- A strobe: the indices move on, and it leaves with the delays of its pins (R9, R266). -/
theorem fired_strobe (s : State) (x : Stripe) :
    Fired s (s.strobe x) (s.drover.k + 1).toNat (x.flashBase + (s.drover.k + 1).toNat) ∧
      Out.strobe (x.flashBase + (s.drover.k + 1).toNat) (s.stbDelay R.DROVER_STB_DELAY0) (s.stbDelay R.DROVER_STB_DELAY1) ∈ (s.strobe x).out := by
  unfold State.strobe
  dsimp only
  generalize (s.drover.k + 1).toNat = f
  generalize x.flashBase + f = i
  generalize hv : ({ s with drover := _ } : State) = v
  have hk : v.drover.k = f := by rw [← hv]
  have hlast : v.drover.lastIndex = i := by rw [← hv]
  have hever : v.drover.strobedEver = true := by rw [← hv]
  have hwait : v.drover.unconfirmed = i :: s.drover.unconfirmed := by rw [← hv]
  have hstrobed : v.flink.strobed = s.flink.strobed := by rw [← hv]
  have hrd : ∀ a, v.rd a = s.rd a := fun a => by
    rw [← hv]
    rfl
  have hsend : Resends v ((List.range 64).foldl State.boundaryOf v) := resends_foldl _ resends_boundaryOf _ v
  generalize List.foldl _ v _ = w at hsend ⊢
  generalize hz : State.mk .. = z
  have hzd : z.drover = w.drover := by rw [← hz]
  have hzs : z.flink.strobed = (i :: w.flink.strobed).take 16 := by rw [← hz]
  have hzr : ∀ a, z.rd a = w.rd a := fun a => by
    rw [← hz]
    rfl
  have hdelay : ∀ a, a ∉ [R.FLINK_RETX_COUNT] → z.stbDelay a = s.stbDelay a := fun a ha =>
    stbDelay_congr (by rw [hzr, hsend.regs a ha, hrd])
  rw [hdelay R.DROVER_STB_DELAY0 (by decide), hdelay R.DROVER_STB_DELAY1 (by decide)]
  have hd : w.drover = v.drover := hsend.drover
  refine ⟨⟨?_, ?_, ?_, ?_, ?_, rd64_wr64 z R.DROVER_FLASH_L i⟩, List.mem_cons_self⟩
  · show z.drover.k = f
    rw [hzd, hd, hk]
  · show z.drover.lastIndex = i
    rw [hzd, hd, hlast]
  · show z.drover.strobedEver = true
    rw [hzd, hd, hever]
  · show z.drover.unconfirmed = _
    rw [hzd, hd, hwait]
  · show z.flink.strobed = _
    rw [hzs, hsend.strobed, hstrobed]

/-! ### What is done to each of some frames -/

/-- A fact of the frames at a place that later states of a frame keep goes on to hold there. -/
theorem Onward.marks {d : Bool} {P : LinkFrame → Prop} {s t : State} {p : Nat × Nat} (h : Onward d s t)
    (hold : ∀ f g : LinkFrame, f.Older g → P f → P g) (hs : ∀ g ∈ s.flink.frames, g.place = p → P g) :
    ∀ g ∈ t.flink.frames, g.place = p → P g := by
  intro g hg hp
  obtain ⟨f, hf, hfg⟩ := h.frames g hg
  have hplace : g.place = f.place := Prod.ext hfg.lane hfg.index
  exact hold f g hfg (hs f hf (hplace.symm.trans hp))

/-- A fact that a step makes true at its frame's place holds at every place of the list once all are done. -/
theorem foldl_marks {d : Bool} {P : LinkFrame → Prop} {F : State → LinkFrame → State} (hold : ∀ f g : LinkFrame, f.Older g → P f → P g)
    (hon : ∀ u f, Onward d u (F u f)) (hmark : ∀ u f, ∀ g ∈ (F u f).flink.frames, g.place = f.place → P g) {f : LinkFrame}
    (l : List LinkFrame) (s : State) (hf : f ∈ l) : ∀ g ∈ (l.foldl F s).flink.frames, g.place = f.place → P g := by
  obtain ⟨l1, l2, rfl⟩ := List.append_of_mem hf
  rw [List.foldl_append, List.foldl_cons]
  exact (onward_foldl F (fun u b hu => hu.trans (hon u b)) l2 (onward_refl d _)).marks hold (hmark _ f)

/-- Carries that a step posts still wait after later ones. -/
theorem foldl_posts {F : State → LinkFrame → State} (hon : ∀ u f, Onward false u (F u f)) {f : LinkFrame} {c : Carry}
    (hpost : ∀ u, c ∈ (F u f).flink.carries) (l : List LinkFrame) (s : State) (hf : f ∈ l) : c ∈ (l.foldl F s).flink.carries := by
  obtain ⟨l1, l2, rfl⟩ := List.append_of_mem hf
  rw [List.foldl_append, List.foldl_cons]
  have hrest : Onward false (F (l1.foldl F s) f) (l2.foldl F (F (l1.foldl F s) f)) :=
    onward_foldl F (fun u b hu => hu.trans (hon u b)) l2 (onward_refl false _)
  exact hrest.carries rfl c (hpost _)

/-- Every frame at a place that is changed there is the changed one. -/
theorem frames_modFrame {P : LinkFrame → Prop} (s : State) (l i : Nat) {u : LinkFrame → LinkFrame} (hP : ∀ f, P (u f)) :
    ∀ g ∈ (s.modFrame l i u).flink.frames, g.place = (l, i) → P g := by
  intro g hg hp
  obtain ⟨f, _, rfl⟩ := List.mem_map.mp hg
  split at hp
  next hat =>
    rw [if_pos hat]
    exact hP f
  next hat =>
    exact absurd (Prod.mk.inj hp) hat

/-- A frame that is withheld is withheld from then on (R224). -/
theorem withheld_withhold (s : State) (f : LinkFrame) : ∀ g ∈ (s.withhold f).flink.frames, g.place = f.place → g.withheld = true := by
  intro g hg hp
  unfold State.withhold at hg
  dsimp only at hg
  have hmark := frames_modFrame (P := fun g => g.withheld = true) (s.post (f.carry f.slots)) f.lane f.index
    (u := fun g => { g with withheld := true, settled := true, returned := f.slots }) (fun _ => rfl)
  generalize State.modFrame _ _ _ _ = u at hg hmark
  exact (onward_record _ (onward_countMiss _ _ (onward_setFld _ _ _ _ (by decide) (onward_refl false u)))).marks
    (fun _ _ h => h.withheld) hmark g hg hp

/-- Frames of the flash that fired have been sent or are withheld (R224). -/
theorem frames_withholdLate (s : State) (x : Stripe) (f : Nat) :
    ∀ g ∈ (s.withholdLate x f).flink.frames, g.ord = x.ord → g.flash = f → g.sent = true ∨ g.withheld = true := by
  intro g hg hord hflash
  have hon : Onward false s (s.withholdLate x f) := onward_foldl _ (fun _ b hu => onward_withhold b hu) _ (onward_refl false s)
  obtain ⟨g0, hg0, hold⟩ := hon.frames g hg
  by_cases hsent : g0.sent = true
  · exact .inl (hold.sent hsent)
  · by_cases hheld : g0.withheld = true
    · exact .inr (hold.withheld hheld)
    · refine .inr (foldl_marks (d := false) (P := fun g => g.withheld = true) (fun _ _ h => h.withheld)
        (fun u f => onward_withhold f (onward_refl false u)) withheld_withhold _ s (List.mem_filter.mpr ⟨hg0, ?_⟩) g hg ?_)
      · have hord0 : g0.ord = x.ord := hold.ord.symm.trans hord
        have hflash0 : g0.flash = f := hold.flash.symm.trans hflash
        simp [hord0, hflash0, hsent, hheld]
      · exact Prod.ext hold.lane hold.index

/-- A frame treated as cut is cut from then on (R231). -/
theorem cut_cutFrame (s : State) (f : LinkFrame) : ∀ g ∈ (s.cutFrame f).flink.frames, g.place = f.place → g.cut = true := by
  intro g hg hp
  unfold State.cutFrame State.cutMark at hg
  dsimp only at hg
  generalize (if false = true ∨ f.damaged = true then _ else s.post (f.unknown false) : State) = v at hg
  have hmark := frames_modFrame (P := fun g => g.cut = true) v f.lane f.index (u := fun g => { g with cut := true }) (fun _ => rfl)
  generalize State.modFrame v _ _ _ = u at hg hmark
  refine Onward.marks (d := false) ?_ (fun _ _ h => h.cut) hmark g hg hp
  exact onward_modFrame _ _ (fun _ => ⟨rfl, rfl, rfl, rfl, id, id, id, id⟩) (onward_record _ (onward_refl false u))

/-- The dose of a frame that is cut is unknown, slot by slot (R231). -/
theorem carries_cutFrame (s : State) (f : LinkFrame) (h : f.damaged = false) : ∀ c ∈ f.unknown false, c ∈ (s.cutFrame f).flink.carries := by
  have hon : Onward false (s.post (f.unknown false)) (s.cutFrame f) := by
    unfold State.cutFrame State.cutMark
    rw [if_neg (by simp [h])]
    refine onward_modFrame _ _ (fun _ => ⟨rfl, rfl, rfl, rfl, id, id, id, id⟩) (onward_record _ ?_)
    exact onward_modFrame _ _ (fun _ => ⟨rfl, rfl, rfl, rfl, id, id, fun _ => rfl, id⟩) (onward_refl false _)
  exact fun c hc => hon.carries rfl c (List.mem_append_right _ hc)

/-! ### The flash as a whole -/

/-- A flash that fires, up to what waits for its strobe (R224, R266, R269, R437). -/
theorem fired_fire {q : List Instr} (s : State) (x : Stripe) (since : Nat) (hs : Keeps q [] s) :
    Fired s (s.fire x since) (s.drover.k + 1).toNat (x.flashBase + (s.drover.k + 1).toNat) ∧
      Out.strobe (x.flashBase + (s.drover.k + 1).toNat) (s.stbDelay R.DROVER_STB_DELAY0) (s.stbDelay R.DROVER_STB_DELAY1) ∈ (s.fire x since).out ∧
      ∀ g ∈ (s.fire x since).flink.frames, g.ord = x.ord → g.flash = (s.drover.k + 1).toNat → g.sent = true ∨ g.withheld = true := by
  unfold State.fire
  dsimp only
  generalize s.rLim = lim
  generalize Int.toNat (_ - _) = lag
  generalize hv : ({ s with drover := _ } : State) = v
  have hk : v.drover.k = s.drover.k := by rw [← hv]
  have hwait : v.drover.unconfirmed = s.drover.unconfirmed := by rw [← hv]
  have hlink : v.flink = s.flink := by rw [← hv]
  have hdelay : ∀ a, v.stbDelay a = s.stbDelay a := fun a => stbDelay_congr (by rw [← hv]; rfl)
  have hkeeps : Keeps q [] (v.strobe x) := keeps_strobe x (by
    rw [← hv]
    exact ⟨hs.ok⟩)
  obtain ⟨hfired, hout⟩ := fired_strobe v x
  rw [hk, hdelay, hdelay] at hout
  rw [hk] at hfired
  generalize v.strobe x = w at hfired hout hkeeps ⊢
  generalize (s.drover.k + 1).toNat = f at hfired hout ⊢
  have hlate := frames_withholdLate w x f
  have hlater : Onward true w (w.withholdLate x f) := onward_foldl _ (fun _ b hu => onward_withhold b hu) _ (onward_refl true w)
  have hkeeps' : Keeps q w.out (w.withholdLate x f) := keeps_withholdLate x f ⟨{ hkeeps.ok with out := List.suffix_rfl }⟩
  generalize w.withholdLate x f = y at hlate hlater hkeeps' ⊢
  generalize ht : State.afterStrobe _ x = t
  have hon : Onward true y t := by
    rw [← ht]
    exact onward_afterStrobe x (onward_lastFired x (onward_showDemand (onward_pace _ _
      (onward_ite (onward_droverTo 2 (onward_refl true y)) (onward_refl true y)))))
  have hkt : Keeps q w.out t := by
    rw [← ht]
    exact keeps_afterStrobe x (keeps_lastFired x (keeps_showDemand (keeps_pace _ _ (keeps_ite (keeps_droverTo 2 hkeeps') hkeeps'))))
  obtain ⟨hfk, hfl, hfe, hfu, hfs, hff⟩ := (hfired.onward hlater).onward hon
  refine ⟨⟨hfk, hfl, hfe, hfu.trans (by rw [hwait]), hfs.trans (by rw [hlink]), hff⟩, hkt.ok.out.subset hout, fun g hg hord hflash => ?_⟩
  obtain ⟨g0, hg0, hold⟩ := hon.frames g hg
  rcases hlate g0 hg0 (hold.ord.symm.trans hord) (hold.flash.symm.trans hflash) with h | h
  · exact .inl (hold.sent h)
  · exact .inr (hold.withheld h)

/-! ### FLASH_FIRE and FLASH_CONFIRM -/

section FlashFire

variable {s : State} {x : Stripe} (smp : Sample) (since : Nat)

/-- A demand past 3 rows ends the sample in an overspeed (R270). -/
theorem exec_flashFire_tooFar (hx : s.sending = some x) (hst : s.drover.st = 1 ∨ s.drover.st = 2)
    (hfar : (s.sample x smp).peak.tooFar false = true) : exec (.flashFire smp since) s = .next (s.sample x smp).peak.overspeed := by
  show execFlashFire smp since s = _
  unfold execFlashFire
  rw [hx]
  dsimp only
  rw [if_neg (by omega), if_pos hfar]

/-- Before the band is reached a sample is all there is (R266). -/
theorem exec_flashFire_early (hx : s.sending = some x) (hst : s.drover.st = 1 ∨ s.drover.st = 2)
    (hfar : (s.sample x smp).peak.tooFar false = false)
    (hearly : (s.sample x smp).peak.drover.demand < fieldOf (s.inForce R.DROVER_BAND) 8 0) :
    exec (.flashFire smp since) s = .next (s.sample x smp).peak := by
  show execFlashFire smp since s = _
  unfold execFlashFire
  rw [hx]
  dsimp only
  rw [if_neg (by omega), if_neg (by simp [hfar]), if_pos (.inr (.inl hearly))]

/-- The flash fires (R266). -/
theorem exec_flashFire_fires (hx : s.sending = some x) (hw : x.st = .writing) (hst : s.drover.st = 1 ∨ s.drover.st = 2)
    (hfar : (s.sample x smp).peak.tooFar false = false) (hramp : (s.sample x smp).peak.drover.ramping = false)
    (hband : (fieldOf (s.inForce R.DROVER_BAND) 8 0 : Int) ≤ (s.sample x smp).peak.drover.demand)
    (hrate : (s.sample x smp).peak.rateAllows since = true) (hsent : (s.sample x smp).peak.firstSent x = true)
    (hnext : s.drover.k + 1 < x.nextCycle) : exec (.flashFire smp since) s = .next ((s.sample x smp).peak.fire x since) := by
  show execFlashFire smp since s = _
  unfold execFlashFire
  rw [hx]
  dsimp only
  rw [if_neg (by omega), if_neg (by simp [hfar]), if_neg (by simp [hramp, hrate, hsent, hband]), if_neg (by omega),
    if_neg (by rw [hw]; exact fun e => nomatch e)]

end FlashFire

theorem keeps_of_inv {s : State} (h : s.Inv) : Keeps s.pending [] s :=
  ⟨⟨h.regs, h.force, h.bells, h.rails, h.cmds, h.stripes, h.log, h.pool, rfl, List.nil_suffix⟩⟩

/-- The flash that fires after a sample, in terms of the state before it. -/
theorem fired_after {q : List Instr} {s u : State} (x : Stripe) (since : Nat) (hon : Onward false s u)
    (hregs : RegsOff [R.DROVER_ZONE_CTRL, R.DROVER_DEMAND] s u) (hkeeps : Keeps q [] u) :
    Fired s (u.fire x since) (s.drover.k + 1).toNat (x.flashBase + (s.drover.k + 1).toNat) ∧
      Out.strobe (x.flashBase + (s.drover.k + 1).toNat) (s.stbDelay R.DROVER_STB_DELAY0) (s.stbDelay R.DROVER_STB_DELAY1) ∈ (u.fire x since).out ∧
      ∀ g ∈ (u.fire x since).flink.frames, g.ord = x.ord → g.flash = (s.drover.k + 1).toNat → g.sent = true ∨ g.withheld = true := by
  have hdelay : ∀ a, a ∉ [R.DROVER_ZONE_CTRL, R.DROVER_DEMAND] → u.stbDelay a = s.stbDelay a := fun a ha => stbDelay_congr (hregs a ha)
  obtain ⟨hfired, hout, hframes⟩ := fired_fire u x since hkeeps
  rw [hdelay R.DROVER_STB_DELAY0 (by decide), hdelay R.DROVER_STB_DELAY1 (by decide)] at hout
  rw [hon.k] at hfired hout hframes
  obtain ⟨hk, hlast, hever, hwait, hstrobed, hflash⟩ := hfired
  exact ⟨⟨hk, hlast, hever, hwait.trans (by rw [hon.unconfirmed]), hstrobed.trans (by rw [hon.strobed]), hflash⟩, hout, hframes⟩

/-- Past 3 rows in TRACK the stripe that writes is contained at the last flash fired (R270). -/
theorem containedBy_overspeed (u : State) (x : Stripe) (hx : u.active = some x) (hw : x.st = .writing) (hfar : u.tooFar false = true) :
    u.overspeed.containedBy x Code.DROVER_OVERSPEED u.drover.k := by
  have hst : u.drover.st = 2 := by
    simp [State.tooFar] at hfar
    exact hfar.1
  have hne : u.drover.st ≠ 4 := by omega
  unfold State.overspeed State.contain State.containAt
  rw [if_neg hne, hx]
  dsimp only
  rw [if_neg (by rw [hw]; exact fun e => nomatch e)]
  exact containedBy_enterContained u x _ _ _ (List.mem_of_find?_eq_some hx)

/-- The frames of a flash that count as sent and are not cut yet (R231). -/
def State.exposed (s : State) (i : Nat) : List LinkFrame :=
  s.flink.frames.filter (fun f => f.index = i && f.sent && !f.withheld && !f.cut)

/-- The frames of a flash all treated as cut. -/
def State.cutExposed (s : State) (i : Nat) : State := (s.exposed i).foldl (fun s f => s.cutFrame f) s

/-- The flash is confirmed, with its frames, and waits no more (R258). -/
def State.confirmed (s : State) (i : Nat) : State :=
  { s.modFrames (fun f => if f.index = i then { f with confirmed := true } else f) with
    drover := { s.drover with unconfirmed := s.drover.unconfirmed.filter (· ≠ i), cut := s.drover.cut.filter (· ≠ i) } }

theorem confirmFlash_eq (s : State) (i : Nat) : s.confirmFlash i = (if s.drover.cut.contains i then s.cutExposed i else s).confirmed i := by
  unfold State.confirmFlash
  dsimp only
  split
  · rfl
  · rfl

theorem onward_cutExposed (s : State) (i : Nat) : Onward false s (s.cutExposed i) :=
  onward_foldl _ (fun _ f hu => onward_cutFrame f false hu) _ (onward_refl false s)

/-- A frame of a cut flash that was sent: the doses of its slots are unknown, and it stands cut (R231, R258). -/
theorem cutExposed_marks {s : State} {i : Nat} {g : LinkFrame} (hg : g ∈ s.exposed i) (hd : g.damaged = false) :
    (∀ c ∈ g.unknown false, c ∈ (s.cutExposed i).flink.carries) ∧
      ∃ h ∈ (s.cutExposed i).flink.frames, h.place = g.place ∧ h.cut = true := by
  have hon : ∀ (u : State) (f : LinkFrame), Onward false u (u.cutFrame f) := fun u f => onward_cutFrame f false (onward_refl false u)
  refine ⟨fun c hc => foldl_posts hon (fun u => carries_cutFrame u g hd c hc) _ s hg, ?_⟩
  have hplace : g.place ∈ (s.cutExposed i).flink.frames.map LinkFrame.place := by
    rw [(onward_cutExposed s i).places rfl]
    exact List.mem_map_of_mem (List.mem_of_mem_filter hg)
  obtain ⟨h, hh, hp⟩ := List.mem_map.mp hplace
  exact ⟨h, hh, hp, foldl_marks (P := fun g => g.cut = true) (fun _ _ h => h.cut) hon cut_cutFrame _ s hg h hh hp⟩

/-- Settles O35: a sample fires nothing, what follows a strobe leaves it fired, and a cut frame stays cut. -/
theorem flashesFire : Obligations.FlashesFire := by
  unfold Obligations.FlashesFire
  refine ⟨?_, ?_⟩
  · intro smp since x s hinv hx hw hst
    have hon : Onward false s (s.sample x smp).peak := onward_samplePeak x smp (onward_refl false s)
    refine ⟨fun hact hfar => ?_, fun hfar hearly => exec_flashFire_early smp since hx hst hfar hearly,
      fun hfar hramp hband hrate hsent hnext => ?_⟩
    · have hact' : (s.sample x smp).peak.active = some x := by
        unfold State.active
        rw [(only_samplePeak s x smp).stripes rfl]
        exact hact
      have hcon := containedBy_overspeed _ x hact' hw hfar
      rw [hon.k] at hcon
      exact ⟨_, exec_flashFire_tooFar smp since hx hst hfar, hcon⟩
    · have hkeeps : Keeps s.pending [] (s.sample x smp).peak := keeps_peak (keeps_sample x smp (keeps_of_inv hinv))
      have hexec := exec_flashFire_fires smp since hx hw hst hfar hramp hband hrate hsent hnext
      obtain ⟨⟨hk, hlast, hever, hwait, hstrobed, hflash⟩, hout, hframes⟩ :=
        fired_after x since hon (regsOff_samplePeak s x smp) hkeeps
      generalize State.fire _ x since = t at hexec hk hlast hever hwait hstrobed hflash hout hframes
      exact ⟨t, hexec, hk, hlast, hever, hwait, hstrobed, hflash, hout, hframes⟩
  · intro i s hi
    have hexec : exec (.flashConfirm i) s = .next (s.confirmFlash i) := by
      show execFlashConfirm i s = _
      unfold execFlashConfirm
      rw [if_pos (List.contains_iff_mem.mpr hi)]
    rw [confirmFlash_eq] at hexec
    by_cases hc : i ∈ s.drover.cut
    · rw [if_pos (List.contains_iff_mem.mpr hc)] at hexec
      have hon := onward_cutExposed s i
      refine ⟨_, hexec, congrArg _ hon.unconfirmed, congrArg _ hon.cut, fun h => absurd hc h, fun _ g hg hgi hsent hheld hcut hdam => ?_⟩
      have hexposed : g ∈ s.exposed i := List.mem_filter.mpr ⟨hg, by simp [hgi, hsent, hheld, hcut]⟩
      obtain ⟨hcarries, h, hh, hplace, hmark⟩ := cutExposed_marks hexposed hdam
      have hindex : h.index = i := (Prod.mk.inj hplace).2.trans hgi
      refine ⟨hcarries, { h with confirmed := true }, List.mem_map.mpr ⟨h, hh, if_pos hindex⟩, (Prod.mk.inj hplace).1, hindex, hmark, rfl⟩
    · rw [if_neg (fun h => hc (List.contains_iff_mem.mp h))] at hexec
      exact ⟨_, hexec, rfl, rfl, fun _ => ⟨rfl, rfl, rfl⟩, fun h => absurd h hc⟩

end Sys2Proof.Machine
end

section
/-! SUPPORT. Bands into entry staging, stray additions, the share cycle and the exit check: the statements of spec/01_architecture.md. -/

namespace Sys2Proof.Machine

/-! ### Whole registers -/

theorem withField_whole {v : Nat} (hv : v < 2 ^ 32) (x : Nat) : withField v 31 0 x = x % 2 ^ 32 := by
  unfold withField fieldOf
  simp only [Nat.shiftRight_zero, Nat.pow_zero, Nat.mul_one, Nat.reduceAdd, Nat.reduceSub]
  rw [Nat.mod_eq_of_lt hv]
  omega

/-- A count as wide as its register. -/
theorem rd_bump_whole (s : State) (a : RegAddr) (n : Nat) : (s.bump a 31 0 n).rd a = min (2 ^ 32 - 1) (s.rd a + n) := by
  have hlt : s.rd a < 2 ^ 32 := rd_lt a
  have hfld : s.fld a 31 0 = s.rd a := by
    unfold State.fld fieldOf
    exact Nat.mod_eq_of_lt hlt
  show (s.wr a (withField (s.rd a) 31 0 (satAdd (2 ^ 32 - 1) (s.fld a 31 0) n))).rd a = _
  rw [withField_whole hlt, hfld, rd_wr, if_pos rfl, satAdd]
  omega

/-- A count advanced by nothing. -/
theorem regsOff_bump_zero (s : State) (a : RegAddr) : RegsOff [] s (s.bump a 31 0 0) := by
  intro b _
  by_cases h : b = a
  · subst h
    have hlt : s.rd b < 2 ^ 32 := rd_lt b
    rw [rd_bump_whole]
    omega
  · exact rd_setFld_other _ _ _ (Ne.symm h)

/-! ### Keyed lists and folds -/

theorem kget?_kdel_same {α : Type} (m : KMap α) (k : Nat) : kget? (kdel m k) k = none := by
  induction m with
  | nil => rfl
  | cons e m ih =>
    obtain ⟨j, w⟩ := e
    unfold kdel
    split
    · exact ih
    · next h => rw [kget?, if_neg h, ih]

/-- Rows put under keys that differ are all found. -/
theorem kget?_foldl_kput {α : Type} {key : Nat → Nat} (hkey : Function.Injective key) (val : Nat → α) (l : List Nat) (m : KMap α) (k : Nat) :
    kget? (l.foldl (fun m i => kput m (key i) (val i)) m) (key k) = if k ∈ l then some (val k) else kget? m (key k) := by
  induction l generalizing m with
  | nil => rfl
  | cons i l ih =>
    rw [List.foldl_cons, ih, kget?_kput]
    by_cases hl : k ∈ l
    · simp [hl]
    · by_cases hi : i = k
      · simp [hi]
      · simp [hl, Ne.symm hi, hkey.ne hi]

/-- A fold over a range that acts at one place acts once. -/
theorem foldl_range_at {α : Type} (f : α → Nat → α) (k : Nat) (hf : ∀ a i, i ≠ k → f a i = a) (n : Nat) (a : α) :
    (List.range n).foldl f a = if k < n then f a k else a := by
  induction n with
  | zero => rfl
  | succ n ih =>
    rw [List.range_succ, List.foldl_append, ih, List.foldl_cons, List.foldl_nil]
    rcases Nat.lt_trichotomy k n with h | h | h
    · rw [if_pos h, if_pos (Nat.lt_succ_of_lt h), hf _ _ (Nat.ne_of_gt h)]
    · subst h
      rw [if_neg (Nat.lt_irrefl _), if_pos (Nat.lt_succ_self _)]
    · rw [if_neg (Nat.lt_asymm h), if_neg (by omega), hf _ _ (Nat.ne_of_lt h)]

theorem mem_insBy {α : Type} {k : α → Nat} {x y : α} {l : List α} (h : y ∈ insBy k x l) : y = x ∨ y ∈ l := by
  induction l with
  | nil => exact .inl (List.mem_singleton.mp h)
  | cons z l ih =>
    unfold insBy at h
    split at h
    · exact List.mem_cons.mp h
    · rcases List.mem_cons.mp h with h | h
      · exact .inr (h ▸ List.mem_cons_self)
      · exact (ih h).imp_right (List.mem_cons_of_mem z)

/-- Sorting adds nothing. -/
theorem mem_of_mem_sortBy {α : Type} {k : α → Nat} {y : α} {l : List α} (h : y ∈ sortBy k l) : y ∈ l := by
  have hfold : ∀ (l a : List α), y ∈ l.foldl (fun a x => insBy k x a) a → y ∈ a ∨ y ∈ l := by
    intro l
    induction l with
    | nil => exact fun a h => .inl h
    | cons x l ih =>
      intro a h
      rcases ih _ h with h | h
      · rcases mem_insBy h with h | h
        · exact .inr (h ▸ List.mem_cons_self)
        · exact .inl h
      · exact .inr (List.mem_cons_of_mem x h)
  rcases hfold l [] h with h | h
  · cases h
  · exact h

/-! ### Stripes by their number -/

/-- No two stripes have one number. -/
theorem ord_inj {s : State} (h : s.Inv) {x y : Stripe} (hx : x ∈ s.stripes) (hy : y ∈ s.stripes) (he : y.ord = x.ord) : y = x := by
  have hp : (s.stripes.map (·.ord)).Pairwise (· < ·) := (List.pairwise_append.mp h.stripes).1
  exact List.inj_on_of_nodup_map (hp.imp (fun hlt => Nat.ne_of_lt hlt)) hy hx he

theorem mem_of_bandStripe {s : State} {x : Stripe} (h : s.bandStripe = some x) : x ∈ s.stripes := by
  have hopen : ∀ p q : Stripe → Bool, (sortBy (·.ord) (s.stripes.filter p)).find? q = some x → x ∈ s.stripes := fun p q h =>
    List.mem_of_mem_filter (mem_of_mem_sortBy (List.mem_of_find?_eq_some h))
  unfold State.bandStripe at h
  dsimp only at h
  rcases Option.or_eq_some_iff.mp h with h | ⟨-, h⟩
  · rcases Option.or_eq_some_iff.mp h with h | ⟨-, h⟩
    · exact hopen _ _ h
    · exact hopen _ _ h
  · exact hopen _ _ h

/-! ### A band into entry staging -/

theorem exec_fieldBandRead {s : State} {x : Stripe} (hx : s.bandStripe = some x) (he : s.enabled 11 = true) (hc : s.clockHeld = false)
    (hd : x.staged < x.bandsDone) (hr : s.stageRoom = true) (hq : ∀ l ∈ x.requests ++ x.lostTiles, l.1 ≠ x.staged) (badCrc : List Nat) :
    exec (.fieldBandRead x.staged badCrc [] [] []) s = .next (s.bandRead x x.staged badCrc [] [] []) := by
  show execFieldBandRead _ _ _ _ _ s = _
  unfold execFieldBandRead
  rw [hx]
  dsimp only
  rw [if_pos ⟨he, by rw [hc]; rfl, rfl, hd, hr, List.all_eq_true.mpr (fun l hl => decide_eq_true (hq l hl))⟩]

/-- A band whose tiles all read well (R633). -/
theorem bandRead_clean (s : State) (x : Stripe) (band : Nat) :
    s.bandRead x band [] [] [] [] = (s.bump R.FIELD_REREAD 31 0 0).stageBand x band := by
  have hnone : (List.range (s.width / 64)).foldl (fun s _ => s) s = s := List.foldl_fixed' (fun _ => rfl) _
  show (State.bump ((List.range (s.width / 64)).foldl (fun s _ => s) s) R.FIELD_REREAD 31 0 0).stageBand x band = _
  rw [hnone]

/-- A band with one tile that fails its CRC (R633). -/
theorem bandRead_badTile (s : State) (x : Stripe) (band col : Nat) (hcol : col < s.width / 64) :
    s.bandRead x band [col] [] [] [] = (s.tileFail x band col none).bump R.FIELD_REREAD 31 0 0 := by
  have hone := foldl_range_at (fun (u : State) c => if [col].contains c then u.tileFail x band c none else u) col
    (fun u i hi => if_neg (by simpa using hi)) (s.width / 64) s
  rw [if_pos hcol, if_pos (by simp)] at hone
  show State.bump ((List.range (s.width / 64)).foldl (fun u c => if [col].contains c then u.tileFail x band c none else u) s) _ 31 0 0 = _
  rw [hone]

/-- The rows of a band put into staging. -/
def State.bandRows (s : State) (x : Stripe) (band : Nat) : KMap (KMap (BitVec 16)) :=
  (List.range 64).foldl (fun m dr => kput m (stageKey x.ord (64 * band + dr)) (s.bandRow x band dr)) s.staging

theorem stageBand_eq (s : State) (x : Stripe) (band : Nat) :
    s.stageBand x band = { s with staging := s.bandRows x band,
                                  stripes := s.stripes.map (fun y => if y.ord = x.ord then { y with staged := band + 1 } else y) } := by
  have hrows : ∀ (l : List Nat) (t : State),
      l.foldl (fun (t : State) dr => { t with staging := kput t.staging (stageKey x.ord (64 * band + dr)) (s.bandRow x band dr) }) t =
        { t with staging := l.foldl (fun m dr => kput m (stageKey x.ord (64 * band + dr)) (s.bandRow x band dr)) t.staging } := by
    intro l
    induction l with
    | nil => exact fun _ => rfl
    | cons i l ih => exact fun t => ih _
  unfold State.stageBand
  rw [hrows]
  unfold State.modStripe State.modStripes State.bandRows
  simp only [decide_eq_true_eq]

theorem kget?_bandRows (s : State) (x : Stripe) (band dr : Nat) (h : dr < 64) :
    kget? (s.bandRows x band) (stageKey x.ord (64 * band + dr)) = some (s.bandRow x band dr) := by
  have hkey : Function.Injective (fun dr => stageKey x.ord (64 * band + dr)) := by
    intro a b hab
    simp only [stageKey] at hab
    omega
  rw [State.bandRows, kget?_foldl_kput hkey, if_pos (List.mem_range.mpr h)]

theorem width_congr {s t : State} (h : t.rd R.SHEPHERD_MODE = s.rd R.SHEPHERD_MODE) : t.width = s.width := by
  unfold State.width State.fld
  rw [h]

/-- The staged rows are those of the band's tiles (R124). -/
theorem bandRow_congr {s t : State} (h : t.rd R.SHEPHERD_MODE = s.rd R.SHEPHERD_MODE) (hf : t.field = s.field) (x : Stripe) (band dr : Nat) :
    t.bandRow x band dr = s.bandRow x band dr := by
  unfold State.bandRow
  rw [width_congr h, hf]

/-- A band that reads well stands in staging, row by row (R124, R342). -/
theorem bandRead_stages (s : State) (x : Stripe) (band : Nat) : ∃ t, s.bandRead x band [] [] [] [] = t ∧
    t = { s with regs := t.regs, stripes := t.stripes, staging := t.staging } ∧ s.regsBut t [] ∧
    t.stripes = s.stripes.map (fun y => if y.ord = x.ord then { y with staged := band + 1 } else y) ∧
    ∀ dr, dr < 64 → kget? t.staging (stageKey x.ord (64 * band + dr)) = some (s.bandRow x band dr) := by
  have hregs := regsOff_bump_zero s R.FIELD_REREAD
  have hbump : Only 1 s (s.bump R.FIELD_REREAD 31 0 0) := only_bump _ _ _ _ rfl (only_refl _ s)
  rw [bandRead_clean]
  generalize s.bump R.FIELD_REREAD 31 0 0 = u at hregs hbump
  have hframe : Only 274882101249 s (u.stageBand x band) := only_stageBand x band rfl (only_mono rfl hbump)
  refine ⟨_, rfl, hframe.eq_takes, ?_, ?_, fun dr hdr => ?_⟩
  · exact regsOff_regs ((only_stageBand (mm := 274882101248) x band rfl (only_refl _ u)).regs rfl) hregs
  · rw [stageBand_eq, ← hbump.stripes rfl]
  · rw [← bandRow_congr (hregs R.SHEPHERD_MODE List.not_mem_nil) (hbump.field rfl) x band dr, ← kget?_bandRows u x band dr hdr,
      stageBand_eq]

/-- The state in which a tile that failed its CRC is recorded: counted and named (R633). -/
def State.crcCounted (s : State) (band col : Nat) : State :=
  (s.inc R.FIELD_TILE_CRC_FAILS).wr R.FIELD_LAST_FAIL (col * 2 ^ 24 + band % 2 ^ 24)

theorem only_crcCounted (s : State) (band col : Nat) : Only 1 s (s.crcCounted band col) :=
  only_wr _ _ rfl (only_inc _ rfl (only_refl _ s))

theorem logFree_crcCounted (s : State) (band col : Nat) : (s.crcCounted band col).logFree = s.logFree := by
  unfold State.logFree
  rw [(only_crcCounted s band col).log rfl]

theorem rd_crcCounted (s : State) (band col : Nat) :
    (s.crcCounted band col).rd R.FIELD_TILE_CRC_FAILS = min (2 ^ 32 - 1) (s.rd R.FIELD_TILE_CRC_FAILS + 1) ∧
      (s.crcCounted band col).rd R.FIELD_LAST_FAIL = (col * 2 ^ 24 + band % 2 ^ 24) % 2 ^ 32 := by
  unfold State.crcCounted State.inc
  rw [rd_wr, rd_wr, if_neg (by decide), if_pos rfl, rd_bump_whole]
  exact ⟨rfl, rfl⟩

/-- With room in the log a tile that fails its CRC is counted, named, recorded and asked for (R27, R633). -/
theorem tileFail_room (s : State) (x : Stripe) (band col : Nat) (h : 256 < s.logFree) : s.tileFail x band col none =
    ((s.crcCounted band col).recordRaw (tileRec Code.FIELD_TILE_CRC x band col)).askTile x band col s.log.nextSeq := by
  rw [← logFree_crcCounted s band col] at h
  rw [← record_room _ h]
  rfl

/-- A tile that has not been asked for is asked for (R27). -/
theorem stripes_askTile {s : State} {x : Stripe} (hone : ∀ y ∈ s.stripes, y.ord = x.ord → y = x) {band : Nat}
    (hnew : ∀ l ∈ x.requests, l.1 ≠ band) (col seq : Nat) : (s.askTile x band col seq).stripes =
      s.stripes.map (fun y => if y.ord = x.ord then { x with requests := x.requests ++ [(band, col, seq % 2 ^ 32)] } else y) := by
  have hnone : ¬ x.requests.any (fun r => r.1 = band ∧ r.2.1 = col) = true := by
    simpa using fun c hm => hnew (band, col, c) hm rfl
  unfold State.askTile
  rw [stripes_modStripe]
  refine List.map_congr_left (fun y hy => ?_)
  split
  next ho =>
    rw [hone y hy ho, if_neg hnone]
  next => rfl

/-- A tile that fails its CRC is counted, recorded, named and asked for; nothing of its band is staged (R27, R633). -/
theorem bandRead_asks {s : State} {x : Stripe} (hinv : s.Inv) (hx : x ∈ s.stripes) (band col : Nat) (hcol : col < s.width / 64)
    (hroom : 256 < s.logFree) (hnew : ∀ l ∈ x.requests, l.1 ≠ band) : ∃ t, s.bandRead x band [col] [] [] [] = t ∧
    t = { s with regs := t.regs, log := t.log, host := t.host, stripes := t.stripes, trace := t.trace, out := t.out } ∧
    t.newest Code.FIELD_TILE_CRC 1 10 band col x.pass ∧
    t.stripes = s.stripes.map (fun y => if y.ord = x.ord then
      { x with requests := x.requests ++ [(band, col, s.log.nextSeq % 2 ^ 32)] } else y) ∧
    t.rd R.FIELD_TILE_CRC_FAILS = min (2 ^ 32 - 1) (s.rd R.FIELD_TILE_CRC_FAILS + 1) ∧
    t.rd R.FIELD_LAST_FAIL = (col * 2 ^ 24 + band % 2 ^ 24) % 2 ^ 32 := by
  have hnewest := newest_recordRaw (s := s.crcCounted band col) (tileRec Code.FIELD_TILE_CRC x band col)
    (by rw [logFree_crcCounted]; exact hroom)
  have hpage : (tileRec Code.FIELD_TILE_CRC x band col).page = 11 := by simp [RecArg.page, tileRec, Code.FIELD_TILE_CRC]
  have hregs : RegsOff (recordRegs 11) (s.crcCounted band col) ((s.crcCounted band col).recordRaw (tileRec Code.FIELD_TILE_CRC x band col)) :=
    regsOff_recordRaw _ (fun _ hb => by rwa [hpage] at hb) (regsOff_refl _ _)
  have honly : Only 78398662313265602577 s ((s.crcCounted band col).recordRaw (tileRec Code.FIELD_TILE_CRC x band col)) :=
    only_recordRaw _ rfl (only_mono rfl (only_crcCounted s band col))
  obtain ⟨hfails, hlast⟩ := rd_crcCounted s band col
  rw [bandRead_badTile s x band col hcol, tileFail_room s x band col hroom]
  generalize (s.crcCounted band col).recordRaw (tileRec Code.FIELD_TILE_CRC x band col) = u at hnewest hregs honly
  have hrd : ∀ a, a ∉ recordRegs 11 → ((u.askTile x band col s.log.nextSeq).bump R.FIELD_REREAD 31 0 0).rd a = (s.crcCounted band col).rd a :=
    fun a ha => (regsOff_bump_zero _ R.FIELD_REREAD a List.not_mem_nil).trans (hregs a ha)
  have hframe : Only 78398662313269796881 s ((u.askTile x band col s.log.nextSeq).bump R.FIELD_REREAD 31 0 0) :=
    only_bump _ _ _ _ rfl (only_askTile _ _ _ _ rfl (only_mono rfl honly))
  refine ⟨_, rfl, hframe.eq_takes, hnewest, ?_, (hrd _ (by decide)).trans hfails, (hrd _ (by decide)).trans hlast⟩
  have hstripes : u.stripes = s.stripes := honly.stripes rfl
  have hone : ∀ y ∈ u.stripes, y.ord = x.ord → y = x := fun y hy ho => ord_inj hinv hx (hstripes ▸ hy) ho
  exact (stripes_askTile hone hnew col _).trans (by rw [hstripes])

/-! ### Stray additions -/

/-- A beam's CAP in the map in force lowered (R181). -/
def State.lowerForce (s : State) (b cap : Nat) : State := if cap < s.cap b then { s with caps := kset (fun _ => 63) s.caps b cap } else s

/-- A beam's CAP in the map that waits lowered (R181). -/
def State.lowerNext (s : State) (b cap : Nat) : State :=
  match s.capsNext with
  | none => s
  | some m => if cap < kget (fun _ => 63) m b then { s with capsNext := some (kset (fun _ => 63) m b cap) } else s

theorem lowerForce_eq (s : State) (b cap : Nat) : ∃ c, s.lowerForce b cap = { s with caps := c } ∧
    ∀ i, kget (fun _ => 63) c i = if i = b then min (s.cap b) cap else s.cap i := by
  unfold State.lowerForce
  split
  next hlt =>
    refine ⟨_, rfl, fun i => ?_⟩
    rw [kget_kset, Nat.min_eq_right (Nat.le_of_lt hlt)]
    by_cases hi : i = b
    · rw [if_pos hi.symm, if_pos hi]
    · rw [if_neg (Ne.symm hi), if_neg hi, State.cap]
  next hge =>
    refine ⟨s.caps, rfl, fun i => ?_⟩
    rw [Nat.min_eq_left (Nat.le_of_not_lt hge)]
    split
    next hi => rw [hi, State.cap]
    next => rfl

theorem lowerNext_eq (s : State) (b cap : Nat) : ∃ n, s.lowerNext b cap = { s with capsNext := n } := by
  unfold State.lowerNext
  split
  · exact ⟨s.capsNext, rfl⟩
  · split
    · exact ⟨_, rfl⟩
    · exact ⟨s.capsNext, rfl⟩

/-- What a CAP's lowering can do: the maps in force and waiting change, and where a stripe runs a record may follow (R181). -/
theorem lowerCap_cases (s : State) (b cap : Nat) : ∃ c n,
    (∀ i, kget (fun _ => 63) c i = if i = b then min (s.cap b) cap else s.cap i) ∧
    (s.lowerCap b cap = { s with caps := c, capsNext := n } ∨
      s.active.isSome = true ∧ ∃ a, s.lowerCap b cap = ({ s with caps := c, capsNext := n } : State).record a) := by
  obtain ⟨c, hc, hcap⟩ := lowerForce_eq s b cap
  obtain ⟨n, hn⟩ := lowerNext_eq (s.lowerForce b cap) b cap
  refine ⟨c, n, hcap, ?_⟩
  have hboth : (s.lowerForce b cap).lowerNext b cap = { s with caps := c, capsNext := n } := by rw [hn, hc]
  rw [← hboth]
  by_cases hover : s.strayCount ≤ s.rd R.SHEPHERD_STRAY_LIMIT ∧
      ((s.lowerForce b cap).lowerNext b cap).strayCount > s.rd R.SHEPHERD_STRAY_LIMIT ∧ s.active.isSome = true
  · exact .inr ⟨hover.2.2, _, if_pos hover⟩
  · exact .inl (if_neg hover)

/-- A CAP only ever falls (R181). -/
theorem cap_lowerCap (s : State) (b cap i : Nat) : (s.lowerCap b cap).cap i = if i = b then min (s.cap b) cap else s.cap i := by
  obtain ⟨c, n, hcap, h | ⟨-, a, h⟩⟩ := lowerCap_cases s b cap
  · rw [h]
    exact hcap i
  · rw [h, State.cap, (only_record (mm := 117598008931784859665) a rfl (only_refl _ _)).caps rfl]
    exact hcap i

/-- An admitted STRAY_ADD, with its trace record (R181, R634). -/
theorem exec_strayAdd {o : Origin} {v : Nat} {s : State} (h : s.permit o R.SHEPHERD_STRAY_ADD v = .ok s) :
    ∃ r, exec (.strayAdd o v) s = .next (({ s with trace := r } : State).strayWrite (fieldOf v 17 0) (fieldOf v 23 18)) := by
  obtain ⟨r, hr⟩ := traceRec_eq s (pageOf R.SHEPHERD_STRAY_ADD) 0 (offOf R.SHEPHERD_STRAY_ADD) [v, o.code]
  refine ⟨r, ?_⟩
  show execStrayAdd o v s = _
  unfold execStrayAdd State.act
  rw [h]
  dsimp only
  rw [hr]

/-- Settles O28: a clean band is `stageBand`, a failed tile `tileFail`, and STRAY_ADD acts by the stripe that runs. -/
theorem bandsStageAndStraysWait : Obligations.BandsStageAndStraysWait := by
  unfold Obligations.BandsStageAndStraysWait
  refine ⟨?_, ?_⟩
  · intro x s hinv hx he hc hd hr hq
    have hexec := exec_fieldBandRead hx he hc hd hr hq
    refine ⟨?_, fun col hcol hroom => ?_⟩
    · obtain ⟨t, ht, hframe, hregs, hstripes, hrows⟩ := bandRead_stages s x x.staged
      exact ⟨t, (hexec []).trans (congrArg _ ht), hframe, hregs, hstripes, hrows⟩
    · obtain ⟨t, ht, h⟩ := bandRead_asks hinv (mem_of_bandStripe hx) x.staged col hcol hroom
        (fun l hl => hq l (List.mem_append_left _ hl))
      exact ⟨t, (hexec [col]).trans (congrArg _ ht), h⟩
  · intro o v s hok
    obtain ⟨r, hexec⟩ := exec_strayAdd hok
    refine ⟨fun hnone => ?_, fun x hx => ?_⟩
    · have hidle : ({ s with trace := r } : State).active = none := hnone
      have hwrite : ({ s with trace := r } : State).strayWrite (fieldOf v 17 0) (fieldOf v 23 18) =
          ({ s with trace := r } : State).lowerCap (fieldOf v 17 0) (fieldOf v 23 18) := by
        unfold State.strayWrite
        rw [hidle]
      rw [hwrite] at hexec
      obtain ⟨c, n, hcap, hlow | ⟨hsome, -⟩⟩ := lowerCap_cases ({ s with trace := r } : State) (fieldOf v 17 0) (fieldOf v 23 18)
      · rw [hlow] at hexec
        exact ⟨_, hexec, rfl, fun _ _ => rfl, hcap⟩
      · rw [hidle] at hsome
        cases hsome
    · have hact : ({ s with trace := r } : State).active = some x := hx
      unfold State.strayWrite at hexec
      rw [hact] at hexec
      dsimp only at hexec
      split at hexec
      next hheld => exact ⟨_, hexec, rfl, by rw [if_pos hheld]; exact ⟨rfl, rfl⟩⟩
      next hruns => exact ⟨_, hexec, rfl, by rw [if_neg hruns]; exact ⟨rfl, rfl⟩⟩

end Sys2Proof.Machine
end
section
/-! SUPPORT. The share cycle (spec/01_architecture.md). -/

namespace Sys2Proof.Machine

/-! ### What leaves the frames, the carries and the rows of the hold as many as they are -/

/-- The registers of the share cycle that its own records and containments leave: the width of a code, and the next row to enter. -/
def cycleRegs : List RegAddr := [R.SHEPHERD_CODE_WIDTH, R.TALLY_ENTRY_ROW]

/-- From s to t no frame of the link has come or gone and no carry, no row has entered or left the hold, no stripe has come or gone, and
the registers of the share cycle stand. -/
structure Steady (s t : State) : Prop where
  frames : t.flink.frames.length = s.flink.frames.length
  carries : t.flink.carries = s.flink.carries
  ords : t.stripes.map (·.ord) = s.stripes.map (·.ord)
  hold : t.hold.length = s.hold.length
  regs : ∀ a ∈ cycleRegs, t.rd a = s.rd a

section Steps

variable {s0 s t : State}

theorem steady_refl (s : State) : Steady s s := ⟨rfl, rfl, rfl, rfl, fun _ _ => rfl⟩

theorem Steady.trans (a : Steady s0 s) (b : Steady s t) : Steady s0 t :=
  ⟨b.frames.trans a.frames, b.carries.trans a.carries, b.ords.trans a.ords, b.hold.trans a.hold, fun r hr => (b.regs r hr).trans (a.regs r hr)⟩

theorem steady_ite {c : Prop} [Decidable c] {a b : State} (ha : Steady s0 a) (hb : Steady s0 b) : Steady s0 (if c then a else b) := by
  split
  · exact ha
  · exact hb

theorem steady_foldl {β : Type} (f : State → β → State) (hf : ∀ u b, Steady s0 u → Steady s0 (f u b)) (l : List β)
    (h : Steady s0 s) : Steady s0 (l.foldl f s) :=
  List.foldlRecOn (motive := Steady s0) l f h (fun u hu b _ => hf u b hu)

/-- A change of other registers, not of the link, the stripes or the hold. -/
theorem steady_regs {l : List RegAddr} (hr : RegsOff l s t) (hl : ∀ a ∈ cycleRegs, a ∉ l) (ho : Only 295147901880813748223 s t)
    (h : Steady s0 s) : Steady s0 t := by
  refine h.trans ⟨?_, ?_, ?_, ?_, fun a ha => hr a (hl a ha)⟩
  · rw [ho.flink rfl]
  · rw [ho.flink rfl]
  · rw [ho.stripes rfl]
  · rw [ho.hold rfl]

/-- A change of no register, not of the link, the stripes or the hold. -/
theorem steady_quiet (ho : Only 295147901880813748222 s t) (h : Steady s0 s) : Steady s0 t :=
  steady_regs (l := []) (regsOff_regs (ho.regs rfl) (regsOff_refl _ s)) (fun _ _ => List.not_mem_nil) (only_mono rfl ho) h

theorem steady_wr (a v : Nat) (ha : ∀ r ∈ cycleRegs, r ≠ a) (h : Steady s0 s) : Steady s0 (s.wr a v) :=
  steady_regs (regsOff_wr a v (List.mem_singleton.mpr rfl) (regsOff_refl [a] s)) (fun r hr => by simpa using ha r hr)
    (only_wr _ _ rfl (only_refl _ s)) h

theorem steady_setFld (a hi lo x : Nat) (ha : ∀ r ∈ cycleRegs, r ≠ a) (h : Steady s0 s) : Steady s0 (s.setFld a hi lo x) :=
  steady_wr a _ ha h

theorem steady_inc (a : RegAddr) (ha : ∀ r ∈ cycleRegs, r ≠ a) (h : Steady s0 s) : Steady s0 (s.inc a) := steady_wr a _ ha h

/-- One write made after either of two states. -/
theorem steady_wr_both (a v : Nat) (h : Steady s t) : Steady (s.wr a v) (t.wr a v) := by
  refine ⟨h.frames, h.carries, h.ords, h.hold, fun r hr => ?_⟩
  rw [rd_wr, rd_wr, h.regs r hr]

theorem cycle_not_mem_recordRegs (p : Nat) : ∀ a ∈ cycleRegs, a ∉ recordRegs p := by
  have hoff : ∀ a ∈ cycleRegs, ¬ offOf a < 0x100 := by decide
  have hlog : ∀ a ∈ cycleRegs, a ∉ logRegs := by decide
  intro a ha hm
  rcases mem_recordRegs hm with h | h
  · exact hoff a ha h
  · exact hlog a ha h

theorem steady_recordRaw (a : RecArg) (h : Steady s0 s) : Steady s0 (s.recordRaw a) :=
  steady_regs (regsOff_recordRaw a (fun _ hb => hb) (regsOff_refl _ s)) (cycle_not_mem_recordRegs _) (only_recordRaw _ rfl (only_refl _ s)) h

theorem steady_showStripes (h : Steady s0 s) : Steady s0 s.showStripes :=
  steady_regs (regsOff_showStripes (fun _ h => h) (regsOff_refl _ s)) (by decide) (only_showStripes rfl (only_refl _ s)) h

theorem steady_droverTo (n : Nat) (h : Steady s0 s) : Steady s0 (s.droverTo n) := by
  have hst : Steady s { s with drover := { s.drover with st := n } } := ⟨rfl, rfl, rfl, rfl, fun _ _ => rfl⟩
  exact steady_setFld _ _ _ _ (by decide) (steady_setFld _ _ _ _ (by decide) (h.trans hst))

theorem ords_modStripe (s : State) (x : Stripe) {f : Stripe → Stripe} (hf : ∀ y, (f y).ord = y.ord) :
    (s.modStripe x f).stripes.map (·.ord) = s.stripes.map (·.ord) := by
  rw [stripes_modStripe, List.map_map]
  refine List.map_congr_left (fun y _ => ?_)
  show (if y.ord = x.ord then f y else y).ord = y.ord
  split
  · exact hf y
  · rfl

theorem steady_modStripe (x : Stripe) {f : Stripe → Stripe} (hf : ∀ y, (f y).ord = y.ord) (h : Steady s0 s) : Steady s0 (s.modStripe x f) :=
  h.trans ⟨rfl, rfl, ords_modStripe s x hf, rfl, fun _ _ => rfl⟩

/-- What the link sends of itself drops nothing and carries nothing. -/
theorem steady_resends (ht : Resends s t) (ho : Only 295147904079837003775 s t) (h : Steady s0 s) : Steady s0 t := by
  refine h.trans ⟨?_, ht.carries, by rw [ho.stripes rfl], by rw [ho.hold rfl], fun a ha => ht.regs a ?_⟩
  · have hlen := congrArg List.length ht.places
    rwa [List.length_map, List.length_map] at hlen
  · revert a
    decide

theorem steady_shadeOn (now : Bool) (h : Steady s0 s) : Steady s0 (s.shadeOn now) := by
  have hon : Steady s { s with flink := { s.flink with shaded := true } } := ⟨rfl, rfl, rfl, rfl, fun _ _ => rfl⟩
  exact steady_resends (resends_shadeBlocks _ _) (only_shadeBlocks _ rfl (only_refl _ _)) (h.trans hon)

/-- DISCARD on every lane that is up (R235). -/
theorem steady_discard (content : Nat) (x : Stripe) (k : Int) (h : Steady s0 s) : Steady s0 ((s.allLanes 0x55 content).dropAfter x k) :=
  steady_resends (resends_dropAfter _ x k) (only_dropAfter _ _ rfl (only_refl _ _))
    (steady_resends (resends_allLanes s 0x55 content) (only_allLanes _ _ rfl (only_refl _ s)) h)

/-- A DISCARD noted, with what else of the state neither the link's frames nor a register is (R235). -/
theorem steady_noted (v : Option Nat) (p : Profile) (c : KMap (List Byte)) (h : Steady s0 s) :
    Steady s0 { s with flink := { s.flink with discard := v }, profile := p, ckptUnits := c } :=
  h.trans ⟨rfl, rfl, rfl, rfl, fun _ _ => rfl⟩

/-! ### Containment and records -/

theorem steady_enterContained (x : Stripe) (a : RecArg) (now : Bool) (k : Int) (h : Steady s0 s) : Steady s0 (s.enterContained x a now k) := by
  unfold State.enterContained
  dsimp only
  generalize hu : State.modStripe _ _ _ = u
  have hheld : Steady s0 u := by
    rw [← hu]
    exact steady_modStripe _ (fun _ => rfl) (steady_recordRaw _ h)
  have hshade := steady_discard (lowBits 24 (x.flashBase + k)) x k (steady_shadeOn now (steady_droverTo 5 hheld))
  generalize State.dropAfter _ _ _ = v at hshade ⊢
  have hregs : Steady s0 (((v.setFld R.SYS_CKPT_STATE 3 0 1).wr R.SYS_CKPT_HELD (lowBits 32 k)).wr64 R.DROVER_HELD_L v.drover.lastIndex) :=
    steady_wr _ _ (by decide) (steady_wr _ _ (by decide) (steady_wr _ _ (by decide) (steady_setFld _ _ _ _ (by decide) hshade)))
  generalize State.wr64 _ _ _ = w at hregs ⊢
  exact steady_showStripes (steady_quiet (only_floodContain _ rfl (only_refl _ _)) (steady_noted _ _ _ hregs))

theorem steady_containAt (a : RecArg) (now : Bool) (k : Int) (h : Steady s0 s) : Steady s0 (s.containAt a now k) := by
  have hnow : Steady s0 (if now then s.shadeOn true else s) := steady_ite (steady_shadeOn _ h) h
  unfold State.containAt
  split
  · exact steady_recordRaw _ h
  · next x _ =>
    split
    · dsimp only
      split
      · refine steady_noted _ _ _ (steady_setFld _ _ _ _ (by decide) (steady_discard _ _ _ (steady_shadeOn _ ?_)))
        exact steady_droverTo _ (steady_modStripe x (fun _ => rfl) (steady_recordRaw _ hnow))
      · exact steady_recordRaw _ hnow
    · exact steady_enterContained _ _ _ _ h

theorem steady_record (a : RecArg) (h : Steady s0 s) : Steady s0 (s.record a) := by
  unfold State.record
  exact steady_ite (steady_containAt _ _ _ (steady_recordRaw _ h)) (steady_recordRaw _ h)

/-! ### Words, carries and CAPs -/

theorem steady_putRow (w : PixRow) (h : Steady s0 s) : Steady s0 (s.putRow w) := by
  unfold State.putRow
  split
  · exact h.trans ⟨rfl, rfl, rfl, rfl, fun _ _ => rfl⟩
  · exact h.trans ⟨rfl, rfl, rfl, List.length_map _, fun _ _ => rfl⟩

theorem steady_putWord (ord c r rem mark : Nat) (h : Steady s0 s) : Steady s0 (s.putWord ord c r rem mark) := by
  unfold State.putWord
  split
  · exact steady_putRow _ h
  · exact h

theorem steady_tagFault (x : Stripe) (c r : Nat) (h : Steady s0 s) : Steady s0 (s.tagFault x c r) :=
  steady_record _ (steady_inc _ (by decide) (steady_inc _ (by decide) (steady_putWord _ _ _ _ _ h)))

theorem steady_entryTag (x : Stripe) (c r : Nat) (h : Steady s0 s) : Steady s0 (s.entryTag x c r) :=
  steady_record _ (steady_inc _ (by decide) (steady_inc _ (by decide) (steady_putWord _ _ _ _ _ h)))

theorem steady_applyCarry (a : Carry) (h : Steady s0 s) : Steady s0 (s.applyCarry a) := by
  have hput := fun ord c r rem mark => steady_inc R.SHEPHERD_CARRIES (by decide) (steady_putWord ord c r rem mark h)
  unfold State.applyCarry
  dsimp only
  refine steady_ite h (steady_ite (steady_inc _ (by decide) h) ?_)
  split
  · split
    · exact steady_inc _ (by decide) (steady_tagFault _ _ _ h)
    · exact steady_ite (steady_inc _ (by decide) h) (steady_ite (steady_inc _ (by decide) (hput _ _ _ _ _)) (hput _ _ _ _ _))
  · exact h

theorem steady_applyUnknown (a : Carry) (h : Steady s0 s) : Steady s0 (s.applyUnknown a) := by
  unfold State.applyUnknown
  dsimp only
  refine steady_ite h ?_
  split
  · exact steady_inc _ (by decide) h
  · exact steady_ite h (steady_ite (steady_inc _ (by decide) h) (steady_putWord _ _ _ _ _ h))

/-- Step 1 of R23: with every carry taken the rest stands. -/
theorem steady_applyCarries (s : State) : Steady { s with flink := { s.flink with carries := [] } } s.applyCarries := by
  have hnone : s.flink.carries.filter (fun _ => !true) = [] := List.filter_eq_nil_iff.mpr (fun _ _ => Bool.false_ne_true)
  unfold State.applyCarries State.applyFor
  rw [hnone]
  exact steady_foldl _ (fun u a hu => steady_ite (steady_applyUnknown a hu) (steady_applyCarry a hu)) _ (steady_refl _)

theorem steady_lowerCap (b cap : Nat) (h : Steady s0 s) : Steady s0 (s.lowerCap b cap) := by
  obtain ⟨c, n, -, hlow⟩ := lowerCap_cases s b cap
  have hmaps : Steady s0 { s with caps := c, capsNext := n } := h.trans ⟨rfl, rfl, rfl, rfl, fun _ _ => rfl⟩
  rcases hlow with hlow | ⟨-, a, hlow⟩
  · rw [hlow]
    exact hmaps
  · rw [hlow]
    exact steady_record a hmaps

end Steps

/-! ### Steps 1 and 2 of R23 -/

/-- What the share cycle finds as it was: as many frames, the stripes, the widest code, the CAPs in force and the stray values that wait. -/
structure Prepared (s t : State) : Prop where
  frames : t.flink.frames.length = s.flink.frames.length
  ords : t.stripes.map (·.ord) = s.stripes.map (·.ord)
  codeMax : t.codeMax = s.codeMax
  caps : t.caps = s.caps
  strayPend : t.strayPend = s.strayPend

theorem Prepared.trans {s t u : State} (a : Prepared s t) (b : Prepared t u) : Prepared s u :=
  ⟨b.frames.trans a.frames, b.ords.trans a.ords, b.codeMax.trans a.codeMax, b.caps.trans a.caps, b.strayPend.trans a.strayPend⟩

theorem Steady.codeMax {s t : State} (h : Steady s t) : t.codeMax = s.codeMax := by
  unfold State.codeMax State.fld
  rw [h.regs R.SHEPHERD_CODE_WIDTH (by decide)]

theorem Steady.prepared {s t : State} (h : Steady s t) (ho : Only 117598010855930208273 s t) : Prepared s t :=
  ⟨h.frames, h.ords, h.codeMax, ho.caps rfl, ho.strayPend rfl⟩

/-- Shares returned are posted, and their frames marked (R181). -/
theorem prepared_returnShares (s : State) (b : Nat) : Prepared s (s.returnShares b) := by
  have ho : Only 2199023255552 s (s.returnShares b) := only_returnShares b rfl (only_refl _ s)
  refine ⟨?_, by rw [ho.stripes rfl], ?_, ho.caps rfl, ho.strayPend rfl⟩
  · have hpost : ∀ (l : List LinkFrame) (u : State),
        (l.foldl (fun (s : State) f => s.post (f.carry [b % 4096])) u).flink.frames = u.flink.frames := by
      intro l
      induction l with
      | nil => exact fun _ => rfl
      | cons f l ih => exact fun u => ih _
    unfold State.returnShares State.modFrames
    dsimp only
    rw [List.length_map, hpost]
  · unfold State.codeMax State.fld State.rd
    rw [ho.regs rfl]

theorem prepared_returnPending (s : State) : Prepared s s.returnPending := by
  refine List.foldlRecOn (motive := Prepared s) _ _ ⟨rfl, rfl, rfl, rfl, rfl⟩ (fun u hu b _ => ?_)
  split
  · exact hu.trans (prepared_returnShares u b.1)
  · exact hu

/-- With room in the hold a row that leaves the Tally joins it, and nothing is checked (R24). -/
theorem leaveRow_room {s : State} (h : s.hold.length < 16) (x : Stripe) (f : Nat) (fx : ExitFaults) :
    ∃ y r, s.leaveRow x f fx = { s with tally := y, hold := r } := by
  unfold State.leaveRow
  split
  · exact ⟨s.tally, s.hold, rfl⟩
  · split
    · exact ⟨s.tally, s.hold, rfl⟩
    · rw [if_neg (Nat.not_le.mpr h)]
      exact ⟨_, _, rfl⟩

/-- Step 1 of R23: every carry that waits is applied, and none is left. -/
theorem prepared_applyCarries (s : State) : Prepared s s.applyCarries ∧ s.applyCarries.flink.carries = [] ∧
    s.applyCarries.hold.length = s.hold.length := by
  have hsteady := steady_applyCarries s
  have ho : Only 117598010581052301329 s s.applyCarries := only_applyCarries rfl (only_refl _ s)
  have hmax : ({ s with flink := { s.flink with carries := [] } } : State).codeMax = s.codeMax := rfl
  exact ⟨⟨hsteady.frames, hsteady.ords, hsteady.codeMax.trans hmax, ho.caps rfl, ho.strayPend rfl⟩, hsteady.carries, hsteady.hold⟩

/-- Steps 1 and 2 of R23, with room in the hold. -/
theorem cycle_begins {s : State} (h : s.hold.length < 16) (x : Stripe) (f : Nat) (fx : ExitFaults) :
    Prepared s (s.returnPending.applyCarries.leaveRow x f fx) ∧ (s.returnPending.applyCarries.leaveRow x f fx).flink.carries = [] := by
  have hpend := prepared_returnPending s
  have hhold : s.returnPending.hold = s.hold := (only_returnPending (mm := 2199023255552) rfl (only_refl _ s)).hold rfl
  obtain ⟨hprep, hcarries, hlen⟩ := prepared_applyCarries s.returnPending
  obtain ⟨y, r, hleave⟩ := leaveRow_room (s := s.returnPending.applyCarries) (by rw [hlen, hhold]; exact h) x f fx
  rw [hleave]
  exact ⟨(hpend.trans hprep).trans ⟨rfl, rfl, rfl, rfl, rfl⟩, hcarries⟩

/-! ### Step 3 of R23 -/

/-- Row f out of staging and into the Tally (R22, R183). -/
def State.entering (s : State) (x : Stripe) (f : Nat) : State :=
  { s with tally := kput s.tally (s.slotOfRow f) ⟨x.ord, x.id, f, kget (fun _ => []) s.staging (stageKey x.ord f)⟩,
           staging := kdel s.staging (stageKey x.ord f) }.wr R.TALLY_ENTRY_ROW (f + 1)

theorem prepared_entering (s : State) (x : Stripe) (f : Nat) : Prepared s (s.entering x f) := by
  refine ⟨rfl, rfl, ?_, rfl, rfl⟩
  unfold State.codeMax State.fld State.entering
  rw [rd_wr_other _ (by decide)]
  rfl

theorem enterRow_due {s : State} {x : Stripe} {f : Nat} (hlo : x.firstRow ≤ f) (hhi : f < x.endRow) (bad : List Nat) :
    Steady (s.entering x f) (s.enterRow x f bad) ∧ (s.enterRow x f bad).staging = (s.entering x f).staging := by
  unfold State.enterRow
  rw [if_neg (by omega)]
  dsimp only
  generalize sortBy id _ = cols
  generalize hu : ({ s with tally := _, staging := _ } : State) = u
  have henter : s.entering x f = u.wr R.TALLY_ENTRY_ROW (f + 1) := by rw [← hu, State.entering]
  have hfold : Steady u (cols.foldl (fun s c => s.entryTag x c f) u) := steady_foldl _ (fun v c hv => steady_entryTag x c f hv) _ (steady_refl u)
  have hstage : (cols.foldl (fun s c => s.entryTag x c f) u).staging = u.staging :=
    (only_foldl (m := 117598010581052301329) (fun v c hv => only_entryTag x c f rfl hv) cols (only_refl _ u)).staging rfl
  rw [henter]
  generalize cols.foldl _ u = v at hfold hstage ⊢
  have hwr := steady_wr_both R.TALLY_ENTRY_ROW (f + 1) hfold
  split
  · exact ⟨steady_modStripe x (fun _ => rfl) hwr, hstage⟩
  · exact ⟨hwr, hstage⟩

theorem enterRow_none {s : State} {x : Stripe} {f : Nat} (h : ¬ (x.firstRow ≤ f ∧ f < x.endRow)) (bad : List Nat) : s.enterRow x f bad = s := by
  unfold State.enterRow
  exact if_pos (by omega)

/-- The row that is due enters out of staging, and the next is named (R20, R22, R23). -/
theorem row_enters (s : State) (x : Stripe) (f : Nat) : Prepared s (s.enterRow x f []) ∧ (s.enterRow x f []).flink.carries = s.flink.carries ∧
    (x.firstRow ≤ f → f < x.endRow → kget? (s.enterRow x f []).staging (stageKey x.ord f) = none ∧
      (s.enterRow x f []).rd R.TALLY_ENTRY_ROW = (f + 1) % 2 ^ 32) := by
  by_cases hdue : x.firstRow ≤ f ∧ f < x.endRow
  · obtain ⟨hsteady, hstage⟩ := enterRow_due (s := s) hdue.1 hdue.2 []
    have ho : Only 117598010855930208273 s (s.enterRow x f []) := only_enterRow x f [] rfl (only_refl _ s)
    have hent := prepared_entering s x f
    refine ⟨⟨hsteady.frames.trans hent.frames, hsteady.ords.trans hent.ords, hsteady.codeMax.trans hent.codeMax, ho.caps rfl,
      ho.strayPend rfl⟩, hsteady.carries, fun _ _ => ⟨?_, ?_⟩⟩
    · rw [hstage]
      exact kget?_kdel_same _ _
    · rw [hsteady.regs R.TALLY_ENTRY_ROW (by decide), State.entering, rd_wr, if_pos rfl]
  · rw [enterRow_none hdue]
    exact ⟨⟨rfl, rfl, rfl, rfl, rfl⟩, rfl, fun hlo hhi => absurd ⟨hlo, hhi⟩ hdue⟩

/-! ### Step 4 of R23 -/

/-- Every stray value that waits has lowered its CAP (R181). -/
def State.straysTaken (s : State) : State := s.strayPend.foldl (fun s a => s.lowerCap a.1 a.2) { s with strayPend := [] }

theorem straysTaken_lowers (s : State) : Steady s s.straysTaken ∧ Only 117598008932590166033 { s with strayPend := [] } s.straysTaken ∧
    (∀ b, s.straysTaken.cap b ≤ s.cap b) ∧ (s.strayPend = [] → s.straysTaken.caps = s.caps) := by
  have hstart : Steady s { s with strayPend := [] } := ⟨rfl, rfl, rfl, rfl, fun _ _ => rfl⟩
  refine ⟨steady_foldl _ (fun u a hu => steady_lowerCap a.1 a.2 hu) _ hstart,
    only_foldl (fun u a hu => only_lowerCap a.1 a.2 rfl hu) _ (only_refl _ _), ?_, ?_⟩
  · refine List.foldlRecOn (motive := fun t : State => ∀ b, t.cap b ≤ s.cap b) _ _ (fun _ => Nat.le_refl _) (fun u hu a _ b => ?_)
    rw [cap_lowerCap]
    split
    next hb => exact (Nat.min_le_left _ _).trans (hb ▸ hu a.1)
    next => exact hu b
  · intro hnone
    unfold State.straysTaken
    rw [hnone]
    rfl

/-- The share of a beam where nothing fails: the state stands, or a word of its pixel is written or found bad, and its code is within the
width and the beam's CAP (R179, R186). -/
theorem shareBeam_clean (s : State) (x : Stripe) (f : Nat) (fx : ExitFaults) (q : Nat × Nat × Nat × Nat) :
    ((s.shareBeam x f { fx } q).1 = s ∨ (s.shareBeam x f { fx } q).1 = s.tagFault x q.2.1 q.2.2.1 ∨
      ∃ rem, (s.shareBeam x f { fx } q).1 = s.putWord x.ord q.2.1 q.2.2.1 rem 0) ∧
    ∀ e ∈ (s.shareBeam x f { fx } q).2, e.2 ≤ s.codeMax ∧ e.2 ≤ s.cap e.1 := by
  obtain ⟨b, c, r, p⟩ := q
  have hnil : ∀ e ∈ ([] : List (Nat × Nat)), e.2 ≤ s.codeMax ∧ e.2 ≤ s.cap e.1 := fun _ he => nomatch he
  unfold State.shareBeam
  simp only [List.contains_nil, List.any_nil, Bool.false_eq_true, if_false, or_false]
  split
  · exact ⟨.inl rfl, hnil⟩
  · split
    · exact ⟨.inr (.inl rfl), hnil⟩
    · split
      · exact ⟨.inl rfl, hnil⟩
      · split
        · exact ⟨.inr (.inr ⟨_, rfl⟩), hnil⟩
        · refine ⟨.inr (.inr ⟨_, rfl⟩), fun e he => ?_⟩
          rw [List.mem_singleton.mp he]
          exact ⟨(Nat.min_le_left _ _).trans (Nat.min_le_right _ _), Nat.min_le_right _ _⟩

/-- The beams computed so far: the state they leave, and their codes. -/
structure Shared (s : State) (a : State × List (Nat × Nat)) : Prop where
  steady : Steady s a.1
  only : Only 117598010581052301329 s a.1
  codes : ∀ e ∈ a.2, e.2 ≤ s.codeMax ∧ e.2 ≤ s.cap e.1

theorem shared_beam {s : State} {a : State × List (Nat × Nat)} (h : Shared s a) (x : Stripe) (f : Nat) (fx : ExitFaults)
    (q : Nat × Nat × Nat × Nat) : Shared s ((a.1.shareBeam x f { fx } q).1, a.2 ++ (a.1.shareBeam x f { fx } q).2) := by
  obtain ⟨hstate, hcodes⟩ := shareBeam_clean a.1 x f fx q
  refine ⟨?_, only_shareBeam x f { fx } q rfl h.only, fun e he => ?_⟩
  · dsimp only
    rcases hstate with hs | hs | ⟨rem, hs⟩
    · rw [hs]
      exact h.steady
    · rw [hs]
      exact steady_tagFault _ _ _ h.steady
    · rw [hs]
      exact steady_putWord _ _ _ _ _ h.steady
  · rcases List.mem_append.mp he with he | he
    · exact h.codes e he
    · have hcap : a.1.cap e.1 = s.cap e.1 := by
        unfold State.cap
        rw [h.only.caps rfl]
      rw [← h.steady.codeMax, ← hcap]
      exact hcodes e he

theorem mem_kput {α : Type} {m : KMap α} {k : Nat} {v : α} {e : Nat × α} (h : e ∈ kput m k v) : e ∈ m ∨ e = (k, v) := by
  induction m with
  | nil => exact .inr (List.mem_singleton.mp h)
  | cons d m ih =>
    obtain ⟨j, w⟩ := d
    unfold kput at h
    split at h
    · exact (List.mem_cons.mp h).symm
    · split at h
      · exact (List.mem_cons.mp h).symm.imp_left (List.mem_cons_of_mem _)
      · rcases List.mem_cons.mp h with h | h
        · exact .inl (h ▸ List.mem_cons_self)
        · exact (ih h).imp_left (List.mem_cons_of_mem _)

/-- The frames of a flash: one per forward lane, each with codes of its own beams (R174, R220). -/
theorem frames_packFrames (s : State) (x : Stripe) (f : Nat) (codes : List (Nat × Nat)) :
    ∃ new, (s.packFrames x f codes).flink.frames = s.flink.frames ++ new ∧
      new.map (fun g => (g.lane, g.flash, g.index, g.ord, g.stripe)) = (List.range 64).map (fun i => (i, f, x.flashBase + f, x.ord, x.id)) ∧
      ∀ g ∈ new, ∀ e ∈ g.codes, (4096 * g.lane + e.1, e.2) ∈ codes := by
  refine ⟨_, rfl, by rw [List.map_map]; rfl, fun g hg => ?_⟩
  obtain ⟨l, -, rfl⟩ := List.mem_map.mp hg
  refine List.foldlRecOn (motive := fun m : KMap Nat => ∀ e ∈ m, (4096 * l + e.1, e.2) ∈ codes) _ _ (fun _ he => nomatch he) ?_
  intro m hm b hb e he
  obtain ⟨hin, hlane⟩ := List.mem_filter.mp hb
  rcases mem_kput he with he | rfl
  · exact hm e he
  · have hbeam : 4096 * l + b.1 % 4096 = b.1 := by
      rw [← of_decide_eq_true hlane]
      exact Nat.div_add_mod _ _
    show (4096 * l + b.1 % 4096, b.2) ∈ codes
    rw [hbeam]
    exact hin

/-- Step 4 of R23 where nothing fails: the stray values that wait are in force, and the frames of the flash are packed from codes within
the width and the CAPs (R179, R181, R186). -/
theorem shares_clean (s : State) (x : Stripe) (f : Nat) (fx : ExitFaults) : ∃ u codes, s.shares x f { fx } = u.packFrames x f codes ∧
    Steady s u ∧ u.strayPend = [] ∧ u.staging = s.staging ∧ (∀ b, u.cap b ≤ s.cap b) ∧ (s.strayPend = [] → u.caps = s.caps) ∧
    ∀ e ∈ codes, e.2 ≤ s.codeMax ∧ e.2 ≤ u.cap e.1 := by
  obtain ⟨hsteady, honly, hcap, hcaps⟩ := straysTaken_lowers s
  have hfold : Shared s.straysTaken ((s.straysTaken.beamsAt x f [] []).foldl (fun (a : State × List (Nat × Nat)) q =>
      ((a.1.shareBeam x f { fx } q).1, a.2 ++ (a.1.shareBeam x f { fx } q).2)) (s.straysTaken, [])) :=
    List.foldlRecOn (motive := Shared s.straysTaken) _ _ ⟨steady_refl _, only_refl _ _, fun _ he => nomatch he⟩
      (fun a ha q _ => shared_beam ha x f fx q)
  generalize hr : List.foldl _ (s.straysTaken, []) _ = r at hfold
  have hpack : s.shares x f { fx } = r.1.packFrames x f r.2 := by rw [← hr]; rfl
  have hsame : ∀ b, r.1.cap b = s.straysTaken.cap b := fun b => by
    unfold State.cap
    rw [hfold.only.caps rfl]
  refine ⟨r.1, r.2, hpack, hsteady.trans hfold.steady, ?_, ?_, fun b => (hsame b).trans_le (hcap b), ?_, fun e he => ?_⟩
  · exact (hfold.only.strayPend rfl).trans (honly.strayPend rfl)
  · exact (hfold.only.staging rfl).trans (honly.staging rfl)
  · exact fun hnone => (hfold.only.caps rfl).trans (hcaps hnone)
  · rw [hsame, ← hsteady.codeMax]
    exact hfold.codes e he

/-! ### The cycle as a whole -/

/-- What a share cycle of flash f leaves where nothing fails: the frames of the flash stand behind the link's, their codes within the
width and the CAPs in force, no carry and no stray value waits, and the row that was due has left staging. -/
structure Cycled (s t : State) (x : Stripe) (f : Nat) : Prop where
  carries : t.flink.carries = []
  strayPend : t.strayPend = []
  length : t.flink.frames.length = s.flink.frames.length + 64
  frames : (t.flink.frames.drop s.flink.frames.length).map (fun g => (g.lane, g.flash, g.index, g.ord, g.stripe)) =
    (List.range 64).map (fun i => (i, f, x.flashBase + f, x.ord, x.id))
  codes : ∀ g ∈ t.flink.frames.drop s.flink.frames.length, ∀ e ∈ g.codes, e.2 ≤ s.codeMax ∧ e.2 ≤ t.cap (4096 * g.lane + e.1)
  cap : ∀ b, t.cap b ≤ s.cap b
  caps : s.strayPend = [] → t.caps = s.caps
  stripe : x ∈ s.stripes → ∃ y ∈ t.stripes, y.ord = x.ord ∧ y.nextCycle = f + 1
  row : x.firstRow ≤ f → f < x.endRow → kget? t.staging (stageKey x.ord f) = none ∧ t.rd R.TALLY_ENTRY_ROW = (f + 1) % 2 ^ 32

theorem cycled_cycle {s : State} (h : s.hold.length < 16) (x : Stripe) (f : Nat) (fx : ExitFaults) : Cycled s (s.cycle x f { fx }) x f := by
  obtain ⟨hbegin, hnone⟩ := cycle_begins h x f fx
  have hcycle : s.cycle x f { fx } = (((s.returnPending.applyCarries.leaveRow x f fx).enterRow x f []).shares x f { fx }).modStripe x
      (fun t => { t with nextCycle := f + 1 }) := rfl
  rw [hcycle]
  generalize s.returnPending.applyCarries.leaveRow x f fx = u at hbegin hnone
  obtain ⟨henter, hcarries, hrow⟩ := row_enters u x f
  have hprep := hbegin.trans henter
  rw [hnone] at hcarries
  generalize u.enterRow x f [] = v at henter hcarries hrow hprep
  obtain ⟨w, codes, hshares, hsteady, hpend, hstage, hcap, hcaps, hcodes⟩ := shares_clean v x f fx
  obtain ⟨new, hnew, hplaces, hin⟩ := frames_packFrames w x f codes
  have ho : Only 2199023255552 w (w.packFrames x f codes) := only_packFrames x f codes rfl (only_refl _ w)
  have hlinkc : (w.packFrames x f codes).flink.carries = w.flink.carries := rfl
  rw [hshares]
  generalize w.packFrames x f codes = z at hnew ho hlinkc
  have hlen : w.flink.frames.length = s.flink.frames.length := hsteady.frames.trans hprep.frames
  have hdrop : z.flink.frames.drop s.flink.frames.length = new := by
    rw [hnew, ← hlen, List.drop_left]
  have hsize : new.length = 64 := by simpa using congrArg List.length hplaces
  have hzcap : ∀ b, z.cap b = w.cap b := fun b => by
    unfold State.cap
    rw [ho.caps rfl]
  have hvcap : ∀ b, v.cap b = s.cap b := fun b => by
    unfold State.cap
    rw [hprep.caps]
  refine ⟨hlinkc.trans (hsteady.carries.trans hcarries), (ho.strayPend rfl).trans hpend, ?_, ?_, ?_, ?_, ?_, ?_, ?_⟩
  · show z.flink.frames.length = _
    rw [hnew, List.length_append, hsize, hlen]
  · show (z.flink.frames.drop s.flink.frames.length).map _ = _
    rw [hdrop]
    exact hplaces
  · intro g hg e he
    have hg' : g ∈ new := by
      rw [← hdrop]
      exact hg
    obtain ⟨hmax, hbeam⟩ := hcodes _ (hin g hg' e he)
    exact ⟨hmax.trans (hprep.codeMax).le, hbeam.trans (hzcap _).ge⟩
  · intro b
    exact (hzcap b).trans_le ((hcap b).trans (hvcap b).le)
  · exact fun hs => (ho.caps rfl).trans ((hcaps (hprep.strayPend.trans hs)).trans hprep.caps)
  · intro hx
    have hord : x.ord ∈ z.stripes.map (·.ord) := by
      rw [ho.stripes rfl, hsteady.ords, hprep.ords]
      exact List.mem_map_of_mem hx
    obtain ⟨y, hy, hyx⟩ := List.mem_map.mp hord
    rw [stripes_modStripe]
    exact ⟨_, List.mem_map.mpr ⟨y, hy, if_pos hyx⟩, hyx, rfl⟩
  · intro hlo hhi
    obtain ⟨hgone, hnext⟩ := hrow hlo hhi
    refine ⟨?_, ?_⟩
    · show kget? z.staging _ = none
      rw [ho.staging rfl, hstage]
      exact hgone
    · have hrd : z.rd R.TALLY_ENTRY_ROW = w.rd R.TALLY_ENTRY_ROW := by
        unfold State.rd
        rw [ho.regs rfl]
      exact hrd.trans ((hsteady.regs R.TALLY_ENTRY_ROW (by decide)).trans hnext)

/-! ### SHARE_CYCLE -/

theorem regsOff_showCycle (s : State) (ns : Nat) : RegsOff [R.SHEPHERD_CYCLE_NS] s (s.showCycle ns) :=
  regsOff_setFld _ _ _ _ (by simp) (regsOff_setFld _ _ _ _ (by simp) (regsOff_refl _ s))

theorem only_showCycle_self (s : State) (ns : Nat) : Only 1 s (s.showCycle ns) := only_showCycle ns rfl (only_refl _ s)

theorem fld_setFld_low12 (s : State) (a : RegAddr) (x : Nat) : (s.setFld a 11 0 x).fld a 11 0 = x % 4096 := by
  have hlt : s.rd a < 2 ^ 32 := rd_lt a
  have hval : withField (s.rd a) 11 0 x = s.rd a - s.rd a % 4096 + x % 4096 := by
    simp [withField, fieldOf]
  show fieldOf ((s.wr a (withField (s.rd a) 11 0 x)).rd a) 11 0 = x % 4096
  rw [hval, rd_wr, if_pos rfl]
  show (_ % 2 ^ 32) >>> 0 % 4096 = x % 4096
  rw [Nat.shiftRight_zero]
  omega

/-- The cycle's time is shown and nothing else changes (R20). -/
theorem Cycled.showCycle {s t : State} {x : Stripe} {f : Nat} (h : Cycled s t x f) (ns : Nat) : Cycled s (t.showCycle ns) x f := by
  have ho := only_showCycle_self t ns
  have hlink : (t.showCycle ns).flink = t.flink := ho.flink rfl
  have hcaps : (t.showCycle ns).caps = t.caps := ho.caps rfl
  refine ⟨?_, (ho.strayPend rfl).trans h.strayPend, ?_, ?_, fun g hg e he => ?_, fun b => ?_, fun hs => hcaps.trans (h.caps hs), fun hx => ?_,
    fun hlo hhi => ?_⟩
  · rw [hlink]
    exact h.carries
  · rw [hlink]
    exact h.length
  · rw [hlink]
    exact h.frames
  · rw [hlink] at hg
    unfold State.cap
    rw [hcaps]
    exact h.codes g hg e he
  · unfold State.cap
    rw [hcaps]
    exact h.cap b
  · rw [ho.stripes rfl]
    exact h.stripe hx
  · rw [ho.staging rfl, regsOff_showCycle t ns R.TALLY_ENTRY_ROW (by decide)]
    exact h.row hlo hhi

/-- The stripe that writes is contained at the last flash fired (R466, R470). -/
theorem contain_writing {s : State} {x : Stripe} (hx : s.active = some x) (hw : x.st = .writing) (a : RecArg) (now : Bool) :
    s.contain a now = s.enterContained x a now s.drover.k := by
  unfold State.contain State.containAt
  rw [hx]
  dsimp only
  rw [if_neg (by rw [hw]; exact fun e => nomatch e)]

/-- Its rows stay where they are. -/
theorem contain_contains {s : State} {x : Stripe} (hx : s.active = some x) (hw : x.st = .writing) (a : RecArg) :
    (s.contain a).containedBy x a.code s.drover.k ∧ (s.contain a).tally = s.tally ∧ (s.contain a).staging = s.staging ∧
      (s.contain a).hold = s.hold := by
  have ho : Only 117598008931784859665 s (s.contain a) := only_contain a false rfl (only_refl _ s)
  refine ⟨?_, ho.tally rfl, ho.staging rfl, ho.hold rfl⟩
  rw [contain_writing hx hw]
  exact containedBy_enterContained s x a false s.drover.k (List.mem_of_find?_eq_some hx)

theorem containedBy_showCycle {t : State} {x : Stripe} {code : Nat} {k : Int} (h : t.containedBy x code k) (ns : Nat) :
    (t.showCycle ns).containedBy x code k := by
  have ho := only_showCycle_self t ns
  unfold State.containedBy State.fld at h ⊢
  rw [ho.stripes rfl, ho.drover rfl, ho.flink rfl, regsOff_showCycle t ns R.SYS_CKPT_STATE (by decide)]
  exact h

section ShareCycle

variable {s : State} {x : Stripe} (ns : Nat) (badEntry badShare badPack : List Nat) (badWords : List (Nat × Nat)) (sram : List SramErr)
  (fx : ExitFaults)

theorem exec_shareCycle (hx : s.writing = some x) (hdue : (x.nextCycle : Int) ≤ s.drover.k + s.leadL) (hlast : x.nextCycle ≤ x.lastFlash) :
    exec (.shareCycle false ns badEntry badShare badPack badWords sram fx) s =
      .next ((s.runCycle x { badEntry, badShare, badPack, badWords, sram, fx }).showCycle ns) := by
  show execShareCycle _ _ _ _ _ _ _ _ s = _
  unfold execShareCycle
  rw [hx]
  dsimp only
  rw [if_neg (by omega), if_neg Bool.false_ne_true]

/-- A share cycle that is late (R187). -/
theorem exec_shareCycle_late (hx : s.writing = some x) (hdue : (x.nextCycle : Int) ≤ s.drover.k + s.leadL)
    (hlast : x.nextCycle ≤ x.lastFlash) : exec (.shareCycle true ns badEntry badShare badPack badWords sram fx) s =
      .next (s.contain { code := Code.SHEPHERD_CYCLE_OVERRUN, cls := 2, stripe := x.who }) := by
  show execShareCycle _ _ _ _ _ _ _ _ s = _
  unfold execShareCycle
  rw [hx]
  dsimp only
  rw [if_neg (by omega), if_pos rfl]

end ShareCycle

theorem runCycle_staged {s : State} {x : Stripe} (h : s.fieldMissing x x.nextCycle = false) (e : CycleFaults) :
    s.runCycle x e = s.cycle x x.nextCycle e := by
  unfold State.runCycle
  rw [if_neg (by simp [h])]

/-- A row that is due and not in staging, none of whose tiles is lost (R22, R464). -/
theorem runCycle_missing {s : State} {x : Stripe} (h : s.fieldMissing x x.nextCycle = true) (hl : ∀ l ∈ x.lostTiles, l.1 ≠ x.nextCycle / 64)
    (e : CycleFaults) : s.runCycle x e = s.contain { code := Code.LANTERN_FIELD_LATE, cls := 2, stripe := x.who } := by
  have hnone : x.lostTiles.find? (fun t => t.1 = x.nextCycle / 64) = none :=
    List.find?_eq_none.mpr (fun l hm => by simpa using hl l hm)
  unfold State.runCycle State.fieldLate
  rw [if_pos h, hnone]

/-- Settles O29: a cycle whose row is staged is `cycled_cycle`; a late one, or one whose row is missing, contains the stripe. -/
theorem shareCycleRuns : Obligations.ShareCycleRuns := by
  unfold Obligations.ShareCycleRuns
  intro x ns badEntry badShare badPack badWords sram fx s _ hx hact hdue hlast
  have hw : x.st = .writing := by simpa using List.find?_some hx
  refine ⟨fun hfield hroom => ?_, ?_, fun hmiss hlost => ?_⟩
  · have hexec := exec_shareCycle ns [] [] [] [] [] fx hx hdue hlast
    rw [runCycle_staged hfield] at hexec
    have hcycled := (cycled_cycle hroom x x.nextCycle fx).showCycle ns
    exact ⟨_, hexec, hcycled.carries, hcycled.strayPend, hcycled.length, hcycled.frames, hcycled.codes, hcycled.cap, hcycled.caps,
      hcycled.stripe (List.mem_of_find?_eq_some hx), fld_setFld_low12 _ _ ns, hcycled.row⟩
  · exact ⟨_, exec_shareCycle_late ns badEntry badShare badPack badWords sram fx hx hdue hlast, contain_contains hact hw _⟩
  · have hexec := exec_shareCycle ns badEntry badShare badPack badWords sram fx hx hdue hlast
    rw [runCycle_missing hmiss hlost] at hexec
    obtain ⟨hcon, htally, hstaging, hhold⟩ := contain_contains hact hw { code := Code.LANTERN_FIELD_LATE, cls := 2, stripe := x.who }
    generalize s.contain { code := Code.LANTERN_FIELD_LATE, cls := 2, stripe := x.who } = t at hexec hcon htally hstaging hhold
    have ho := only_showCycle_self t ns
    exact ⟨_, hexec, containedBy_showCycle hcon ns, (ho.tally rfl).trans htally, (ho.staging rfl).trans hstaging, (ho.hold rfl).trans hhold⟩

end Sys2Proof.Machine
end
section
/-! SUPPORT. The exit check (spec/01_architecture.md): a state in which two frames of the link stand at one place. -/

namespace Sys2Proof.Machine

/-! ### What the exit check of a row does, by its parts -/

/-- With no carry waiting none is applied. -/
theorem applyFor_none {s : State} (h : s.flink.carries = []) (p : Carry → Bool) : s.applyFor p = s := by
  have hlink : ({ s.flink with carries := [] } : Flink) = s.flink := by rw [← h]
  unfold State.applyFor
  rw [h]
  show ({ s with flink := { s.flink with carries := [] } } : State) = s
  rw [hlink]

theorem checkHead_none {s : State} {w : PixRow} {l : List PixRow} {x : Stripe} (hh : s.hold = w :: l) (hc : s.flink.carries = [])
    (hx : s.byOrd w.ord = some x) (fx : ExitFaults) : s.checkHead fx = s.checkRow x w fx := by
  unfold State.checkHead
  rw [hh]
  dsimp only
  rw [applyFor_none hc, hh]
  dsimp only
  rw [hx]

/-- A word that a row does not list reads as an empty pixel (log entry 14), unless its tag fails. -/
theorem exitRead_unlisted {w : PixRow} (h : w.words = []) (bad : List Nat) (c : Nat) :
    w.exitRead bad c = if bad.contains c then none else some (0, 0) := by
  have htag : tagOf w.id c w.row 0 < 64 := Nat.mod_lt _ (by decide)
  have hword : (w.word c).toNat = tagOf w.id c w.row 0 * 1024 := by
    unfold PixRow.word
    rw [h]
    show (tagOf w.id c w.row 0 * 1024 + 0) % 2 ^ 16 = _
    omega
  have hread : w.read c = some (0, 0) := by
    unfold PixRow.read readTallyWord
    rw [hword]
    simp
  unfold PixRow.exitRead
  rw [hread]

theorem filter_range_eq {n k : Nat} (hk : k < n) : (List.range n).filter (fun c => decide (c = k)) = [k] := by
  have hcount : (List.range n).count k = 1 := List.count_eq_one_of_mem List.nodup_range (List.mem_range.mpr hk)
  rw [← List.replicate_one, ← hcount, ← List.filter_eq]

/-- One tag of an empty row fails: one record (R190). -/
theorem exitTags_one {s : State} {w : PixRow} (h : w.words = []) {fx : ExitFaults} {c : Nat} (hfx : fx.tags = [c]) (hc : c < s.width)
    (x : Stripe) : s.exitTags x w fx = (s.inc R.TALLY_RESIDUE_FAULTS).record (pixRec Code.TALLY_EXIT_TAG x c w.row 4 0 0) := by
  have hbad : ∀ k, (w.exitRead fx.tags k).isNone = decide (k = c) := by
    intro k
    rw [exitRead_unlisted h, hfx]
    by_cases hk : k = c
    · simp [hk]
    · simp [hk]
  unfold State.exitTags
  simp only [hbad]
  rw [filter_range_eq hc]
  rfl

/-- What follows a row's exit check where its list has room: its pixels are counted and listed, it leaves the hold, and its stripe's exit
row moves past it (R190 to R194). -/
def State.rowChecked (s : State) (x : Stripe) (w : PixRow) (es : List DefEntry) : State :=
  let t := (es.foldl (fun s e => s.listPixel x e) s).modList x (fun d => { d with entries := d.entries ++ es, lastRow := some w.row })
  ((({ t with hold := t.hold.filter (fun h => ¬ (h.ord = w.ord ∧ h.row = w.row)) }.modStripe x
    (fun y => { y with exitRow := w.row + 1 })).showCheck).endIfDone x.ord)

theorem checkRow_room {s u : State} {x : Stripe} {w : PixRow} {fx : ExitFaults} {es : List DefEntry} (hes : s.exitEntries x w fx = es)
    (htags : s.exitTags x w fx = u) (hroom : ((s.list? x).map (·.entries.length)).getD 0 + es.length ≤ 65536) :
    s.checkRow x w fx = u.rowChecked x w es := by
  subst hes htags
  exact if_neg (Nat.not_lt.mpr hroom)

/-! ### Two frames at one place -/

namespace Twins

/-- A stripe that writes, of one row. -/
def stripe : Stripe :=
  { slot := 0, jobId := 0, id := 3, pass := 0, st := .writing, ord := 1, srec := ⟨3, 0, 0, 0, 1, 0, 0⟩, armCmd := 0, endRow := 1 }

/-- Its row, in the exit hold. -/
def row : PixRow := { ord := 1, id := 3, row := 0 }

/-- Its deficit list, empty. -/
def list : DefList := { ord := 1, id := 3, pass := 0, state := 0, base := 0, lastRow := none, entries := [] }

/-- The row's word of column 0 fails its tag. -/
def faults : ExitFaults := { tags := [0], unformed := [0] }

/-- The entry that makes. -/
def entry : DefEntry := ⟨0, 0, 0x3FF, 0, 4⟩

/-- The error log is one record from containing the stripe (R465), and lane 0 owes a replay of flash index 0, of which it holds two frames
with different codes; neither is the stripe's. -/
def state : State :=
  { stripes := [stripe], stripeOrd := 1, hold := [row], drover := { k := 8192 }, log := { used := 16319 }, job0 := { lists := [list] },
    flink := { frames := [{ lane := 0, flash := 0, index := 0, ord := 2, codes := [(0, 1)] }, { lane := 0, flash := 0, index := 0, ord := 2 }],
               lanes := [(0, { st := 6, due := [(0, 0)] })] } }

theorem state_inv : state.Inv where
  regs := rfl
  force := rfl
  bells := rfl
  rails := by decide
  cmds := List.pairwise_singleton _ _
  stripes := by
    unfold ordered
    decide
  log := by decide
  pool := by decide

theorem entries_eq : state.exitEntries stripe row faults = [entry] := by decide +kernel

/-- The state in which the record of the failed tag has contained the stripe. -/
def recorded : State := (state.inc R.TALLY_RESIDUE_FAULTS).record (pixRec Code.TALLY_EXIT_TAG stripe 0 0 4 0 0)

theorem tags_eq : state.exitTags stripe row faults = recorded := exitTags_one rfl rfl (by decide) stripe

/-- The replay that the containment sends takes the place of both frames (R227, R234). -/
theorem codes_after : (state.checkRow stripe row faults).flink.frames.map (·.codes) = [[(0, 1)], [(0, 1)]] := by
  have hafter : (recorded.rowChecked stripe row [entry]).flink.frames.map (·.codes) = [[(0, 1)], [(0, 1)]] := by decide +kernel
  have hrow : state.checkRow stripe row faults = recorded.rowChecked stripe row [entry] := checkRow_room entries_eq tags_eq (by decide)
  rw [hrow, hafter]

end Twins

/-- Refutes O30: a record of the check can leave 64 free entries in the log, which contains the stripe, and the replays that its SHADE
sends write one frame over all that share its lane and flash index; the statement's states may hold two such frames with different codes. -/
theorem not_exitCheckLists : ¬ Obligations.ExitCheckLists := by
  unfold Obligations.ExitCheckLists
  intro h
  have hnone := applyFor_none (s := Twins.state) rfl
  have hready : Twins.state.headReady = true := by decide +kernel
  have hroom : Twins.list.entries.length + (Twins.state.exitEntries Twins.stripe Twins.row Twins.faults).length ≤ 65536 := by
    rw [Twins.entries_eq]
    decide
  have hexec : exec (.exitCheck Twins.faults) Twins.state = .next (Twins.state.checkRow Twins.stripe Twins.row Twins.faults) := by
    show execExitCheck _ _ = _
    unfold execExitCheck
    rw [if_pos ⟨hready, rfl, rfl⟩, checkHead_none rfl rfl rfl]
  have hall := h Twins.row Twins.row Twins.stripe Twins.list Twins.faults Twins.state Twins.state_inv rfl hready rfl rfl
  dsimp only at hall
  rw [hnone] at hall
  obtain ⟨t, ht, -, -, -, -, -, -, -, hframes⟩ := hall rfl rfl rfl (.inl rfl) rfl hroom
  obtain rfl : Twins.state.checkRow Twins.stripe Twins.row Twins.faults = t := by
    rw [hexec] at ht
    exact Host.Outcome.next.inj ht
  have hcodes := congrArg (List.map (fun f : Nat × Nat × KMap Nat × Bool => f.2.2.1)) hframes
  rw [List.map_map, List.map_map] at hcodes
  exact absurd (Twins.codes_after.symm.trans hcodes) (by decide)

end Sys2Proof.Machine
end

section
/-! SUPPORT. A geometry block pushed into the cache (spec/02_psipo_stream.md). -/

namespace Sys2Proof.Machine

/-! ### A command that has begun -/

theorem begun_some {s : State} {n opcode : Nat} {c : Cmd} (h : s.begun n opcode = some c) : s.cmd? n = some c ∧ c.done = none := by
  obtain ⟨hc, hp⟩ := Option.filter_eq_some_iff.mp h
  simp only [Bool.and_eq_true, Option.isNone_iff_eq_none] at hp
  exact ⟨hc, hp.1.2⟩

theorem keepsOut_of_inv {s : State} (h : s.Inv) : Keeps s.pending s.out s :=
  ⟨{ (keeps_of_inv h).ok with out := List.suffix_refl _ }⟩

/-- A completion changes only the host's side and what has left the block. -/
theorem complete_eq (s : State) (n status r0 r1 r2 r3 : Nat) :
    ∃ host out, s.complete n status r0 r1 r2 r3 = { s with host := host, out := out } :=
  ⟨_, _, (only_complete (mm := 73786976294838214656) n status r0 r1 r2 r3 rfl (only_refl _ s)).eq_takes⟩

/-! ### A job slot changed -/

@[simp] theorem job_setJob_same (s : State) (i : Nat) (j : Job) : (s.setJob i j).job i = j := by
  unfold State.setJob State.job
  split <;> rfl

@[simp] theorem setJob_job (s : State) (i : Nat) : s.setJob i (s.job i) = s := by
  unfold State.setJob State.job
  split <;> rfl

theorem modJob_of_fixed {s : State} {i : Nat} {f : Job → Job} (h : f (s.job i) = s.job i) : s.modJob i f = s := by
  unfold State.modJob
  rw [h, setJob_job]

theorem cmd?_modJob (s : State) (i : Nat) (f : Job → Job) (n : Nat) : (s.modJob i f).cmd? n = s.cmd? n := by
  unfold State.modJob State.setJob
  split <;> rfl

/-! ### Frames of the cache -/

theorem kget?_of_not_mem_keys {α : Type} {m : KMap α} {k : Nat} (h : k ∉ m.map Prod.fst) : kget? m k = none := by
  induction m with
  | nil => rfl
  | cons e m ih =>
    rw [List.map_cons, List.mem_cons, not_or] at h
    rw [kget?, if_neg (Ne.symm h.1), ih h.2]

/-- Of one number more than there are keys, one is no key. -/
theorem exists_key_unused {α : Type} (m : KMap α) : ∃ k ∈ List.range (m.length + 1), kget? m k = none := by
  by_contra hall
  push Not at hall
  have hsub : List.range (m.length + 1) ⊆ m.map Prod.fst := fun k hk => by
    by_contra hkey
    exact hall k hk (kget?_of_not_mem_keys hkey)
  have hlen := (List.nodup_range.subperm hsub).length_le
  rw [List.length_range, List.length_map] at hlen
  omega

theorem kget?_freeFrame (s : State) : kget? s.frames s.freeFrame = none := by
  obtain ⟨k, hk, hnone⟩ := exists_key_unused s.frames
  have hfound : ((List.range (s.frames.length + 1)).find? (fun k => (kget? s.frames k).isNone)).isSome :=
    List.find?_isSome.mpr ⟨k, hk, Option.isNone_iff_eq_none.mpr hnone⟩
  obtain ⟨j, hj⟩ := Option.isSome_iff_exists.mp hfound
  have hfree : s.freeFrame = j := by
    unfold State.freeFrame
    rw [hj, Option.getD_some]
  have hnot : (kget? s.frames j).isNone = true := List.find?_some (p := fun k => (kget? s.frames k).isNone) hj
  rw [hfree, Option.isNone_iff_eq_none.mp hnot]

theorem frames_without_uncached {s : State} {i block : Nat} (h : s.frameOf i block = none) :
    s.frames.filter (fun g => ¬ (g.2.slot = i ∧ g.2.block = block)) = s.frames :=
  List.filter_eq_self.mpr fun g hg => by simpa only [decide_eq_true_eq] using List.find?_eq_none.mp h g hg

/-! ### The bytes counted -/

theorem rd64_countIngest (s : State) (k : Nat) :
    (s.countIngest k).rd64 R.HOST_INGEST_BYTES_L = min (2 ^ 64 - 1) (s.rd64 R.HOST_INGEST_BYTES_L + k) := by
  unfold State.countIngest satAdd
  rw [rd64_wr64]
  omega

theorem regsOff_countIngest (s : State) (k : Nat) : RegsOff [R.HOST_INGEST_BYTES_L, R.HOST_INGEST_BYTES_L + 4] s (s.countIngest k) :=
  regsOff_wr _ _ (by simp) (regsOff_wr _ _ (by simp) (regsOff_refl _ s))

/-! ### A block accepted -/

/-- The frame that holds a block re-sealed (R54). -/
def State.sealedFrame (s : State) (i : Nat) (e : Env) (b unit : List Byte) : Frame :=
  { slot := i, block := e.block, stripe := e.stripe, firstBand := e.band, dlen := e.dlen, wireCrc := leAt b (b.length - 4) 4,
    sealCtr := s.sealCtr + 1, env := b.take 32, unit }

/-- The state with a new block in a free frame and its bytes counted (R54, R337). -/
def State.cached (s : State) (i : Nat) (e : Env) (b unit : List Byte) : State :=
  State.countIngest { s with frames := kput s.frames s.freeFrame (s.sealedFrame i e b unit), sealCtr := s.sealCtr + 1 } b.length

theorem job_cached (s : State) (i : Nat) (e : Env) (b unit : List Byte) (k : Nat) : (s.cached i e b unit).job k = s.job k := rfl

/-- A block that no frame holds and no re-request awaits is accepted into a free frame (R54, R340). -/
theorem accept_new {s : State} {i : Nat} {e : Env} (hreqs : (s.job i).reqs = []) (hframe : s.frameOf i e.block = none) (n : Nat)
    (b unit : List Byte) : s.accept i n e b unit = (s.cached i e b unit).complete n 0 e.block := by
  have hjob : (s.cached i e b unit).modJob i (fun j => { j with reqs := j.reqs.filter (· ≠ e.block) }) = s.cached i e b unit :=
    modJob_of_fixed (by rw [job_cached, hreqs, List.filter_nil, ← hreqs])
  unfold State.accept
  dsimp only
  rw [if_neg (by simp [hreqs]), frames_without_uncached hframe]
  exact congrArg (State.complete · n 0 e.block) hjob

theorem pushCache_new {s : State} {i : Nat} {e : Env} (hreqs : (s.job i).reqs = []) (hframe : s.frameOf i e.block = none)
    (hroom : s.cacheFree ≠ 0) (n : Nat) (b unit : List Byte) :
    s.pushCache i n e b unit = (s.cached i e b unit).complete n 0 e.block := by
  unfold State.pushCache
  rw [if_neg (by simp [hreqs]), hframe]
  dsimp only
  rw [if_neg hroom, accept_new hreqs hframe]

/-! ### A failed attempt -/

/-- The record of a failed attempt (R53). -/
def attemptRec (n : Nat) (e : Env) (code off : Nat) : RecArg :=
  { code, cls := 1, origin := .operator, det := if code = Code.CRC_CHAIN_RESEAL then some 4 else none, lk := 5, l0 := e.block, l1 := off,
    stripe := some (e.jobId, 0xFFFFFFFF), cmd := some n }

/-- A job with its attempts at a block set. -/
def Job.tried (j : Job) (block k : Nat) : Job := { j with attempts := kput j.attempts block k }

/-- The first and the second failed attempt are recorded and counted, and the command ends with the code (R53). -/
theorem attempt_counted {s : State} {i : Nat} {e : Env} (hslot : s.slotOf e.jobId = some i) (hopen : (s.job i).status = 1)
    (hfew : kget (fun _ => 0) (s.job i).attempts e.block < 2) (n code off : Nat) :
    s.attempt n e code off = ((s.record (attemptRec n e code off)).modJob i
      (·.tried e.block (kget (fun _ => 0) (s.job i).attempts e.block + 1))).complete n code e.block := by
  unfold State.attempt
  dsimp only
  rw [hslot, Option.filter_some, if_pos (decide_eq_true hopen)]
  dsimp only
  rw [if_neg (by omega)]
  rfl

/-- What the first and the second failed attempt leave. -/
theorem attempt_ends {s : State} {i n : Nat} {e : Env} {c : Cmd} (hinv : s.Inv) (hcmd : s.cmd? n = some c) (hdone : c.done = none)
    (hslot : s.slotOf e.jobId = some i) (hopen : (s.job i).status = 1) (hfew : kget (fun _ => 0) (s.job i).attempts e.block < 2)
    (hlog : 256 < s.logFree) (code off : Nat) :
    (s.attempt n e code off).frames = s.frames ∧ s.ended (s.attempt n e code off) c code e.block 0 0 0 ∧
      (s.attempt n e code off).newest code 1 5 e.block off 0 ∧
      kget (fun _ => 0) ((s.attempt n e code off).job i).attempts e.block = kget (fun _ => 0) (s.job i).attempts e.block + 1 := by
  rw [attempt_counted hslot hopen hfew, record_room _ hlog]
  generalize hu : (s.recordRaw (attemptRec n e code off)).modJob i
    (·.tried e.block (kget (fun _ => 0) (s.job i).attempts e.block + 1)) = u
  have honly : Only 49152 (s.recordRaw (attemptRec n e code off)) u := hu ▸ only_modJob i _ rfl (only_refl _ _)
  have hframes : (s.recordRaw (attemptRec n e code off)).frames = s.frames :=
    (only_recordRaw (mm := 78398662313265602577) _ rfl (only_refl _ s)).frames rfl
  have hnewest : u.newest code 1 5 e.block off 0 := by
    unfold State.newest
    rw [honly.log rfl]
    exact newest_recordRaw (attemptRec n e code off) hlog
  have hcount : kget (fun _ => 0) (u.job i).attempts e.block = kget (fun _ => 0) (s.job i).attempts e.block + 1 := by
    rw [← hu, State.modJob, job_setJob_same, Job.tried, kget_kput, if_pos rfl]
  have hended : s.ended (u.complete n code e.block) c code e.block 0 0 0 := by
    obtain ⟨x, hx, hxn, hsq, hcid, hxd⟩ := cmd?_recordRaw (attemptRec n e code off) hcmd
    have hkeeps : Keeps s.pending s.out u := hu ▸ keeps_modJob i _ (keeps_recordRaw _ (keepsOut_of_inv hinv))
    rw [← cmd?_modJob _ i (·.tried e.block (kget (fun _ => 0) (s.job i).attempts e.block + 1)), hu] at hx
    exact ended_complete _ _ _ _ _ hkeeps.ok.cmds hkeeps.ok.out hx (hxd.trans hdone) hxn hsq hcid
  obtain ⟨host, out, heq⟩ := complete_eq u n code e.block 0 0 0
  rw [heq] at hended ⊢
  exact ⟨(honly.frames rfl).trans hframes, hended, hnewest, hcount⟩

/-! ### GEOM_PUSH -/

/-- The plaintext unit that a block's tag vouches for (step 8 of R52). -/
def State.opened (s : State) (i : Nat) (e : Env) (b : List Byte) : Option (List Byte) :=
  Config.gcmOpen (leNat ((s.job i).key.getD [])) (leBytes 4 (s.job i).keyId ++ leBytes 4 e.jobId ++ leBytes 4 e.block)
    (b.take 32) ((b.drop 32).take e.clen) ((b.drop (32 + e.clen)).take 16)

theorem pushSealed_badTag {s : State} {i : Nat} {e : Env} {b : List Byte} (h : s.opened i e b = none) (n reseal : Nat) :
    s.pushSealed i n e b reseal = s.attempt n e Code.PSIPO_ENV_TAG := by
  unfold State.opened at h
  unfold State.pushSealed
  dsimp only
  rw [h]

theorem pushSealed_block {s : State} {i : Nat} {e : Env} {b unit : List Byte} (h : s.opened i e b = some unit) (hblock : e.block ≠ 0)
    (n : Nat) : s.pushSealed i n e b 0 = s.pushCache i n e b unit := by
  unfold State.opened at h
  unfold State.pushSealed
  dsimp only
  rw [h]
  dsimp only
  rw [if_pos rfl, if_neg (by decide), if_neg hblock]

/-- A push whose form the device and the host's entry bear out comes to its tag (R45, R52). -/
theorem exec_geomPush_formed {s : State} {n i : Nat} {b : List Byte} {c : Cmd} (hc : s.begun n 0x03 = some c)
    (hfits : bufFits c (some b) = true) (hwaits : s.pushWaits c = false) (hslot : s.slotOf c.jobId = some i) (hopen : (s.job i).status = 1)
    (hform : pushForm b = none) (hhost : s.pushHost c (envOf b) = none) (hjob : (envOf b).jobId = c.jobId) (reseal : Nat) :
    exec (.geomPush n (some b) reseal) s = .next (s.pushSealed i n (envOf b) b reseal) := by
  show execGeomPush n (some b) reseal s = _
  unfold execGeomPush
  rw [hc]
  dsimp only
  rw [if_neg (by simp [hfits, hwaits]), if_neg (by simp [hslot, hopen]), hform]
  dsimp only
  rw [hhost, hjob, hslot]
  rfl

/-- Settles O16: with a right tag the push is `cached` and completes, with a wrong one it is `attempt`. -/
theorem geometryCached : Obligations.GeometryCached := by
  unfold Obligations.GeometryCached
  intro n i b c s hinv hc hfits hslot hopen hform hhost hjob hblock _ hreqs hframe hroom hwaits
  obtain ⟨hcmd, hdone⟩ := begun_some hc
  refine ⟨_, exec_geomPush_formed hc hfits hwaits hslot hopen hform hhost hjob 0, fun unit hopened => ?_, fun hbad hfew hlog => ?_⟩
  · rw [pushSealed_block hopened hblock, pushCache_new hreqs hframe hroom]
    have hended : s.ended ((s.cached i (envOf b) b unit).complete n 0 (envOf b).block) c 0 (envOf b).block 0 0 0 :=
      ended_complete (s := s.cached i (envOf b) b unit) _ _ _ _ _ hinv.cmds (List.suffix_refl _) hcmd hdone rfl rfl rfl
    obtain ⟨host, out, heq⟩ := complete_eq (s.cached i (envOf b) b unit) n 0 (envOf b).block 0 0 0
    rw [heq] at hended ⊢
    exact ⟨rfl, hended, rfl, rfl, regsOff_countIngest _ _, rd64_countIngest _ _,
      s.freeFrame, s.sealedFrame i (envOf b) b unit, rfl, kget?_freeFrame s, rfl, rfl, rfl, rfl, rfl, rfl, rfl⟩
  · rw [pushSealed_badTag hbad]
    exact attempt_ends hinv hcmd hdone (hjob ▸ hslot) hopen hfew hlog Code.PSIPO_ENV_TAG 0

end Sys2Proof.Machine
end

section
/-! SUPPORT. FLUSH, TRACE_ARM and the codec's contexts (spec/03_stream_codec.md). -/

namespace Sys2Proof.Machine

/-! ### Commands that complete one after another -/

/-- A change of the commands of one number gives none another number. -/
theorem n_setCmd {f : Cmd → Cmd} (hf : ∀ x, (f x).n = x.n) (m : Nat) (x : Cmd) : (if x.n = m then f x else x).n = x.n := by
  split
  · exact hf x
  · rfl

theorem numbered_setCmd {s : State} {f : Cmd → Cmd} (hf : ∀ x, (f x).n = x.n) (m : Nat) (h : numbered s.host.cmds s.host.nextCmd) :
    numbered (s.setCmd m f).host.cmds (s.setCmd m f).host.nextCmd := numbered_map (n_setCmd hf m) h

/-- A change of the commands of a number, seen at any number. -/
theorem cmd?_setCmd_map (s : State) (m n : Nat) {f : Cmd → Cmd} (hf : ∀ x, (f x).n = x.n) :
    (s.setCmd m f).cmd? n = (s.cmd? n).map (fun c => if c.n = m then f c else c) := by
  unfold State.cmd? State.setCmd
  rw [List.find?_map]
  congr 2
  funext x
  exact congrArg (fun k => decide (k = n)) (n_setCmd hf m x)

/-- A command with its status and results, where it has none yet (R419). -/
def Cmd.ends (r : Nat × Nat × Nat × Nat × Nat) (c : Cmd) : Cmd := if c.done.isSome then c else { c with done := some r, ran := true }

theorem Cmd.n_ends (r : Nat × Nat × Nat × Nat × Nat) (c : Cmd) : (c.ends r).n = c.n := by
  unfold Cmd.ends
  split <;> rfl

/-- A command that has its status keeps it. -/
theorem Cmd.ends_of_done {c : Cmd} {d : Nat × Nat × Nat × Nat × Nat} (h : c.done = some d) (r : Nat × Nat × Nat × Nat × Nat) :
    c.ends r = c := if_pos (by rw [h]; rfl)

/-- A completion sets the status, then whatever may be written is written (R419, R422). -/
theorem complete_eq_drain (s : State) (n status r0 r1 r2 r3 : Nat) :
    s.complete n status r0 r1 r2 r3 = (s.setCmd n (Cmd.ends (status, r0, r1, r2, r3))).drain := rfl

/-- A command without its status stays in execution while others' completions are written (R422). -/
theorem cmd?_drainCq_open {n : Nat} {c : Cmd} (hopen : c.done = none) : ∀ (f : Nat) (s : State), numbered s.host.cmds s.host.nextCmd →
    s.cmd? n = some c → (State.drainCq f s).cmd? n = some c
  | 0, _, _, h => h
  | f + 1, s, hnum, h => by
    unfold State.drainCq
    split
    · exact h
    · next q _ =>
      split
      · exact h
      · next k d hk =>
        obtain ⟨hkm, -, hkd⟩ := nextDone_some hk
        obtain ⟨hcm, hcn⟩ := cmd?_some h
        have hne : c.n ≠ k.n := fun e => by
          rw [← numbered_unique hnum hcm hkm e, hopen] at hkd
          cases hkd
        have hnum' : numbered (s.writeCompletion q k d).host.cmds (s.writeCompletion q k d).host.nextCmd := by
          rw [writeCompletion_cmds, writeCompletion_next]
          exact numbered_filter _ hnum
        refine cmd?_drainCq_open hopen f _ hnum' ?_
        rw [← hcn]
        refine cmd?_of_mem hnum' ?_
        rw [writeCompletion_cmds]
        exact List.mem_filter.mpr ⟨hcm, by simpa using hne⟩

theorem cmd?_complete_other {s : State} {m n : Nat} {c : Cmd} (hnum : numbered s.host.cmds s.host.nextCmd) (h : s.cmd? n = some c)
    (hopen : c.done = none) (hne : n ≠ m) (status r0 r1 r2 r3 : Nat) : (s.complete m status r0 r1 r2 r3).cmd? n = some c := by
  rw [complete_eq_drain]
  refine cmd?_drainCq_open hopen _ _ (numbered_setCmd (Cmd.n_ends _) m hnum) ?_
  rw [cmd?_setCmd_map s m n (Cmd.n_ends _), h, Option.map_some, if_neg ((cmd?_some h).2 ▸ hne)]

/-- A command that has ended stays so whatever completes after it. -/
theorem ended_complete_later {s0 s : State} {c : Cmd} {r : Nat × Nat × Nat × Nat × Nat} (hnum : numbered s.host.cmds s.host.nextCmd)
    (hout : s0.out <:+ s.out) (h : s0.ended s c r.1 r.2.1 r.2.2.1 r.2.2.2.1 r.2.2.2.2) (n status r0 r1 r2 r3 : Nat) :
    s0.ended (s.complete n status r0 r1 r2 r3) c r.1 r.2.1 r.2.2.1 r.2.2.2.1 r.2.2.2.2 := by
  rw [complete_eq_drain]
  refine ended_drainCq c r _ _ _ (numbered_setCmd (Cmd.n_ends _) n hnum) hout ?_
  rcases h with ⟨x, hx, hsq, hcid, hxd⟩ | hwritten
  · refine Or.inl ⟨x, ?_, hsq, hcid, hxd⟩
    rw [cmd?_setCmd_map s n c.n (Cmd.n_ends _), hx, Option.map_some, Cmd.ends_of_done hxd, ite_self]
  · exact Or.inr hwritten

/-- Of two commands that complete one after the other with one status, both have ended, also where they are one. -/
theorem ended_complete_both {s0 s : State} {q : List Instr} {m n : Nat} {c d : Cmd} (hk : Keeps q s0.out s)
    (hc : s.cmd? n = some c) (hd : s.cmd? m = some d) (hcd : c.done = none) (hdd : d.done = none) (status r0 r1 r2 r3 : Nat) :
    s0.ended ((s.complete m status r0 r1 r2 r3).complete n status r0 r1 r2 r3) c status r0 r1 r2 r3 ∧
      s0.ended ((s.complete m status r0 r1 r2 r3).complete n status r0 r1 r2 r3) d status r0 r1 r2 r3 := by
  have hk' := (keeps_complete m status r0 r1 r2 r3 hk).ok
  have hfirst := ended_complete status r0 r1 r2 r3 hk.ok.cmds hk.ok.out hd hdd rfl rfl rfl
  have hsecond := ended_complete_later (r := (status, r0, r1, r2, r3)) hk'.cmds hk'.out hfirst n status r0 r1 r2 r3
  refine ⟨?_, hsecond⟩
  by_cases hmn : n = m
  · subst hmn
    obtain rfl : c = d := Option.some.inj (hc.symm.trans hd)
    exact hsecond
  · exact ended_complete _ _ _ _ _ hk'.cmds hk'.out (cmd?_complete_other hk.ok.cmds hc hcd hmn _ _ _ _ _) hcd rfl rfl rfl

/-! ### FLUSH -/

/-- A FLUSH whose scope has completed completes itself where no exported trace has its flush still to take (R445). -/
theorem exec_flush_done {s : State} {n : Nat} {c : Cmd} (hc : s.begun n 0x0B = some c)
    (hscope : ∀ x ∈ s.host.cmds, flushCounts c.arg0 c.sq x = true → n ≤ x.n) (htaken : ∀ x ∈ s.ctxs, x.2.unflushed n = false) :
    exec (.flush n) s = .next (s.complete n 0 c.waited) := by
  show execFlush n s = _
  unfold execFlush
  rw [hc]
  dsimp only
  rw [if_neg (by simpa using hscope), if_neg (by simpa using htaken)]

/-- Where an exported trace has its flush still to take, it is asked for it first (R102). -/
theorem exec_flush_asks {s : State} {n : Nat} {c : Cmd} (hc : s.begun n 0x0B = some c)
    (hscope : ∀ x ∈ s.host.cmds, flushCounts c.arg0 c.sq x = true → n ≤ x.n) (hdue : ∃ x ∈ s.ctxs, x.2.unflushed n = true) :
    exec (.flush n) s = .next (s.askFlush n) := by
  show execFlush n s = _
  unfold execFlush
  rw [hc]
  dsimp only
  rw [if_neg (by simpa using hscope), if_pos (List.any_eq_true.mpr hdue)]

/-! ### TRACE_ARM -/

/-- The trace armed for command n (R447). -/
def Trace.armed (t : Trace) (n : Nat) (c : Cmd) : Trace :=
  { t with st := 1, cmd := n, trigger := c.arg0, post := c.arg1, recs := [], left := 0, seq := 1, trigSeq := 0, lost := 0 }

/-- The trace with nothing armed. -/
def Trace.idle (t : Trace) : Trace := { t with st := 0 }

theorem exec_traceArm_arms {s : State} {n : Nat} {c : Cmd} (hc : s.begun n 0x0D = some c) (harm : c.flags % 2 = 0)
    (hidle : s.trace.st = 0 ∨ s.trace.st = 4) (hpost : c.arg1 ≤ 100) :
    exec (.traceArm n) s = .next { s.ran n with trace := s.trace.armed n c } := by
  show execTraceArm n s = _
  unfold execTraceArm
  rw [hc]
  dsimp only
  rw [if_neg (by omega), if_neg (by omega), if_neg (by omega)]
  rfl

theorem exec_traceArm_busy {s : State} {n : Nat} {c : Cmd} (hc : s.begun n 0x0D = some c) (harm : c.flags % 2 = 0)
    (hbusy : 1 ≤ s.trace.st ∧ s.trace.st ≤ 3) : exec (.traceArm n) s = .next (s.fail n Code.HOST_STRIPE_STATE) := by
  show execTraceArm n s = _
  unfold execTraceArm
  rw [hc]
  dsimp only
  rw [if_neg (by omega), if_pos hbusy]

/-- A DISARM of a trace that waits for its trigger ends both commands with nothing written (R447; log entry 33). -/
theorem exec_traceArm_disarms {s : State} {n : Nat} {c : Cmd} (hc : s.begun n 0x0D = some c) (hdisarm : c.flags % 2 = 1)
    (harmed : s.trace.st = 1) (htrigger : s.trace.trigger ≠ 0) :
    exec (.traceArm n) s = .next ((({ s with trace := s.trace.idle }).complete s.trace.cmd 0 0).complete n 0) := by
  show execTraceArm n s = _
  unfold execTraceArm State.disarm
  rw [hc]
  dsimp only
  rw [if_pos hdisarm, if_neg (fun h => htrigger h.2), if_pos harmed]
  rfl

/-- Settles O18: each branch of FLUSH and TRACE_ARM is one equation of `exec`, and a completion changes only the host's side. -/
theorem flushAndTrace : Obligations.FlushAndTrace := by
  unfold Obligations.FlushAndTrace
  refine ⟨?_, ?_⟩
  · intro n c s hinv hc hscope
    obtain ⟨hcmd, hdone⟩ := begun_some hc
    refine ⟨fun htaken => ⟨_, exec_flush_done hc hscope htaken, ?_⟩, fun hdue => ⟨_, exec_flush_asks hc hscope hdue, rfl, rfl⟩⟩
    have hended := ended_complete (s0 := s) 0 c.waited 0 0 0 hinv.cmds (List.suffix_refl _) hcmd hdone rfl rfl rfl
    obtain ⟨host, out, heq⟩ := complete_eq s n 0 c.waited 0 0 0
    rw [heq] at hended ⊢
    exact ⟨rfl, hended⟩
  · intro n c s hinv hc
    obtain ⟨hcmd, hdone⟩ := begun_some hc
    refine ⟨fun harm hidle hpost => ?_, fun harm hbusy => ?_, fun d hdisarm harmed htrigger hd hdd => ?_⟩
    · have hran : (s.ran n).cmd? n = some { c with ran := true } := cmd?_setCmd (fun _ => rfl) hcmd
      exact ⟨_, exec_traceArm_arms hc harm hidle hpost, rfl, rfl, rfl, rfl, rfl, rfl, _, hran, rfl, hdone⟩
    · exact ⟨_, exec_traceArm_busy hc harm hbusy, ended_fail _ _ _ _ _ (keepsOut_of_inv hinv) hcmd hdone rfl rfl rfl⟩
    · refine ⟨_, exec_traceArm_disarms hc hdisarm harmed htrigger, ?_⟩
      have hkeeps : Keeps s.pending s.out { s with trace := s.trace.idle } := ⟨(keepsOut_of_inv hinv).ok⟩
      have hended := ended_complete_both (s0 := s) hkeeps hcmd hd hdone hdd 0 0 0 0 0
      obtain ⟨host, out, heq⟩ := complete_eq { s with trace := s.trace.idle } s.trace.cmd 0 0 0 0 0
      rw [heq] at hended ⊢
      obtain ⟨host', out', heq'⟩ := complete_eq { s with trace := s.trace.idle, host := host, out := out } n 0 0 0 0 0
      rw [heq'] at hended ⊢
      exact ⟨rfl, hended⟩

end Sys2Proof.Machine
end

section
/-! SUPPORT. The codec's contexts: cached blocks, decodes and the exports of a trace (spec/03_stream_codec.md). -/

namespace Sys2Proof.Machine

/-! ### A context set -/

@[simp] theorem ctx_setCtx (s : State) (i j : Nat) (c : Ctx) : (s.setCtx i c).ctx j = if i = j then c else s.ctx j :=
  kget_kset _ _ _ _ _

theorem ctx_setCtx_same (s : State) (i : Nat) (c : Ctx) : (s.setCtx i c).ctx i = c := by
  rw [ctx_setCtx, if_pos rfl]

theorem ctx_setCtx_other (s : State) {i j : Nat} (c : Ctx) (h : j ≠ i) : (s.setCtx i c).ctx j = s.ctx j := by
  rw [ctx_setCtx, if_neg h.symm]

@[simp] theorem cmd?_setCtx (s : State) (i : Nat) (c : Ctx) (n : Nat) : (s.setCtx i c).cmd? n = s.cmd? n := rfl

@[simp] theorem trace_setCtx (s : State) (i : Nat) (c : Ctx) : (s.setCtx i c).trace = s.trace := rfl

theorem only_setCtx_self (s : State) (i : Nat) (c : Ctx) : Only 3145729 s (s.setCtx i c) := only_setCtx i c rfl (only_refl _ s)

/-- Only the busy bits show a context (R620). -/
theorem regsOff_setCtx (s : State) (i : Nat) (c : Ctx) : RegsOff [statusOf 8] s (s.setCtx i c) :=
  regsOff_regs rfl (regsOff_setFld (statusOf 8) _ _ _ (List.mem_singleton_self _) (regsOff_refl _ s))

theorem fieldOf_bit (v b : Nat) : fieldOf v b b = (v.testBit b).toNat := by
  unfold fieldOf
  rw [Nat.toNat_testBit, Nat.shiftRight_eq_div_pow, Nat.add_sub_cancel_left, Nat.pow_one]

theorem testBit_withField_one (v b : Nat) : (withField v b b 1).testBit b = true := by
  have hset : withField v b b 1 = 2 ^ b + (v - (v.testBit b).toNat * 2 ^ b) := by
    unfold withField
    rw [fieldOf_bit, Nat.add_sub_cancel_left, Nat.pow_one, Nat.one_mod, Nat.one_mul, Nat.add_comm]
  rw [hset, Nat.testBit_two_pow_add_eq]
  cases h : v.testBit b with
  | false => simp [h]
  | true =>
    obtain ⟨w, rfl⟩ := Nat.exists_eq_add_of_le (Nat.ge_two_pow_of_testBit h)
    rw [Nat.testBit_two_pow_add_eq] at h
    simpa using h

/-- A bit that the hardware sets reads as 1. -/
theorem testBit_setFld_one (s : State) (a : RegAddr) {b : Nat} (hb : b < 32) : ((s.setFld a b b 1).rd a).testBit b = true := by
  unfold State.setFld
  rw [rd_wr, if_pos rfl, Nat.testBit_mod_two_pow, decide_eq_true hb, Bool.true_and, testBit_withField_one]

/-- A context in work has its busy bit in STATUS. -/
theorem busy_setCtx (s : State) {i : Nat} (hi : i < 16) {c : Ctx} (hst : 1 ≤ c.st ∧ c.st ≤ 3) :
    (s.setCtx i c).rd (statusOf 8) / 2 ^ (16 + i) % 2 = 1 := by
  have hbit := testBit_setFld_one { s with ctxs := kset (fun _ => {}) s.ctxs i c } (statusOf 8) (b := 16 + i) (by omega)
  rw [Nat.testBit_eq_decide_div_mod_eq, decide_eq_true_eq] at hbit
  rw [← hbit]
  unfold State.setCtx
  rw [if_pos hst]
  rfl

/-! ### A unit counted -/

@[simp] theorem ctx_inc (s : State) (a : RegAddr) (i : Nat) : (s.inc a).ctx i = s.ctx i := rfl

@[simp] theorem frames_setCtx_inc (s : State) (i : Nat) (c : Ctx) (a : RegAddr) : ((s.setCtx i c).inc a).frames = s.frames := rfl

/-- A unit's end shows in the busy bits and in the count. -/
theorem regsOff_setCtx_inc (s : State) (i : Nat) (c : Ctx) :
    RegsOff [statusOf 8, R.CODEC_UNITS_DONE] s ((s.setCtx i c).inc R.CODEC_UNITS_DONE) := by
  refine regsOff_setFld _ _ _ _ (by simp) ?_
  exact fun a ha => regsOff_setCtx s i c a (fun h => ha (List.mem_cons.mpr (.inl (List.mem_singleton.mp h))))

theorem rd_setCtx_inc (s : State) (i : Nat) (c : Ctx) :
    ((s.setCtx i c).inc R.CODEC_UNITS_DONE).rd R.CODEC_UNITS_DONE = min (2 ^ 32 - 1) (s.rd R.CODEC_UNITS_DONE + 1) := by
  rw [State.inc, rd_bump_whole, regsOff_setCtx s i c R.CODEC_UNITS_DONE (by decide)]

/-! ### Cached blocks decoded -/

/-- The context that takes a cached block (R103). -/
def Ctx.ofBlock (unit : List Byte) (given space slot block : Nat) : Ctx := { st := 1, inp := unit, given, space, slot, block }

theorem exec_cacheRead_ok {s : State} {ctx slot block k : Nat} {f : Frame} (hctx : ctx ≤ 3) (hon : s.enabled 8 = true)
    (hframe : s.frameOf slot block = some (k, f)) (hgood : f.failed < 2) (hlive : s.fatal = 0)
    (hfree : (s.ctx ctx).st = 0 ∨ (s.ctx ctx).st = 4 ∨ (s.ctx ctx).st = 5) (given space : Nat) :
    exec (.cacheRead ctx slot block given space .ok) s =
      .next ({ s with frames := kput s.frames k { f with failed := 0, opened := false } }.setCtx ctx
        (Ctx.ofBlock f.unit given space slot block)) := by
  show execCacheRead ctx slot block given space .ok s = _
  unfold execCacheRead
  rw [hframe]
  dsimp only
  rw [if_neg (by grind)]
  rfl

/-- The end of what a served context decodes, with no error of the working space. -/
theorem exec_codecDecodeEnd_served {s : State} {ctx : Nat} (hserved : s.codecEng.dec.contains ctx = true) (hrun : (s.ctx ctx).st = 1)
    (hmode : (s.ctx ctx).mode = 0) (hlive : s.fatal = 0) (hclock : s.clockHeld = false) :
    exec (.codecDecodeEnd ctx []) s = .next (s.decodeEnd ctx (s.ctx ctx)) := by
  show execCodecDecodeEnd ctx [] s = _
  unfold execCodecDecodeEnd
  dsimp only
  rw [if_neg (by grind), if_neg (by simp [spoils])]
  rfl

/-- A unit that ends well is counted, its bytes stand in its context, and its frame is opened (R99). -/
theorem decodeEnd_done {s : State} {ctx : Nat} {c : Ctx} {out : List Byte} (hdec : c.decode = .done out)
    (hlen : ∀ k f, s.frameOf c.slot c.block = some (k, f) → f.dlen = out.length) :
    ∃ m, s.decodeEnd ctx c = ({ s with frames := m }.setCtx ctx { c with st := 4, out }).inc R.CODEC_UNITS_DONE ∧
      ∀ k f, s.frameOf c.slot c.block = some (k, f) → kget? m k = some { f with opened := true } := by
  unfold State.decodeEnd
  rw [hdec]
  dsimp only
  cases hframe : s.frameOf c.slot c.block with
  | none => exact ⟨s.frames, rfl, fun k f h => by cases h⟩
  | some kf =>
    obtain ⟨k, f⟩ := kf
    dsimp only
    rw [if_neg (not_not.mpr (hlen k f hframe))]
    refine ⟨_, rfl, fun k' f' h => ?_⟩
    cases h
    rw [kget?_kput, if_pos rfl]

theorem decodeEnd_needInput {s : State} {ctx : Nat} {c : Ctx} {d : Dec} (hdec : c.decode = .needInput d) :
    s.decodeEnd ctx c = s.setCtx ctx (c.suspend 2 d 0 0) := by
  unfold State.decodeEnd
  rw [hdec]

theorem decodeEnd_needSpace {s : State} {ctx : Nat} {c : Ctx} {d : Dec} {len dist : Nat} (hdec : c.decode = .needSpace d len dist) :
    s.decodeEnd ctx c = s.setCtx ctx (c.suspend 3 d len dist) := by
  unfold State.decodeEnd
  rw [hdec]

/-- A suspended context with no flush waiting runs on (R104). -/
theorem exec_codecContextResume_goesOn {s : State} {ctx : Nat} (hctx : ctx ≤ 7) (hsusp : (s.ctx ctx).st = 2 ∨ (s.ctx ctx).st = 3)
    (hflush : (s.ctx ctx).mode = 1 → (s.ctx ctx).pend = false) (hlive : s.fatal = 0) (given space : Nat) (part : List Byte) :
    exec (.codecContextResume ctx given space part) s = .next (s.setCtx ctx ((s.ctx ctx).goOn given space)) := by
  show execCodecContextResume ctx given space part s = _
  unfold execCodecContextResume
  dsimp only
  rw [if_neg (by omega), if_pos hsusp, if_neg (by grind)]

/-! ### Exports compressed -/

/-- A unit that the compressor has made waits for the verify engine (R100). -/
theorem exec_codecCompressDone_made {s : State} {ctx : Nat} {unit : List Byte} (hctx : ctx = 6 ∨ ctx = 7) (hon : s.codecOn = true)
    (hmode : (s.ctx ctx).mode = 1) (hrun : (s.ctx ctx).st = 1) (hserved : s.codecEng.comp.contains ctx = true)
    (hinp : (s.ctx ctx).inp.length ≤ (s.ctx ctx).given) (hspace : unit.length ≤ (s.ctx ctx).space)
    (hmake : (s.ctx ctx).mayMake unit = true) (room : Nat) :
    exec (.codecCompressDone ctx unit room none []) s =
      .next (s.setCtx ctx { s.ctx ctx with mode := 2, out := unit, space := room }) := by
  show execCodecCompressDone ctx unit room none [] s = _
  unfold execCodecCompressDone State.compressEnd
  dsimp only
  rw [if_neg (by grind), if_pos ⟨hmode, hrun, hserved⟩, if_neg (by simp [spoils]), if_neg (by omega),
    if_neg (by omega), if_neg (by simp [hmake])]
  rfl

/-- A trace's unit that decodes to its input is counted and goes to the host's buffer (R100, R447). -/
theorem exec_codecCompressDone_verified {s : State} {ctx : Nat} (hctx : ctx = 6 ∨ ctx = 7) (hon : s.codecOn = true)
    (hmode : (s.ctx ctx).mode = 2) (hrun : (s.ctx ctx).st = 1) (hserved : s.codecEng.ver.contains ctx = true)
    (htrace : (s.ctx ctx).purp = 1) (hver : decodeUnit (s.ctx ctx).out true (s.ctx ctx).space = .done (s.ctx ctx).inp)
    (unit : List Byte) (room : Nat) :
    exec (.codecCompressDone ctx unit room none []) s =
      .next (((s.setCtx ctx { s.ctx ctx with st := 4 }).inc R.CODEC_UNITS_DONE).traceOut (s.ctx ctx).out) := by
  show execCodecCompressDone ctx unit room none [] s = _
  unfold execCodecCompressDone State.verifyEnd
  dsimp only
  rw [if_neg (by grind), if_neg (by omega), if_neg (by omega), if_pos ⟨hmode, hrun, hserved⟩, hver]
  dsimp only
  rw [if_pos rfl, htrace]
  rfl

/-- The trace exported (R447). -/
def Trace.exported (t : Trace) : Trace := { t with st := 4 }

/-- A completion takes nothing back of what has left the block. -/
theorem out_complete (s : State) (n status r0 r1 r2 r3 : Nat) : s.out <:+ (s.complete n status r0 r1 r2 r3).out := by
  rw [complete_eq_drain]
  exact drainCq_out _ (s.setCmd n _)

/-- A verified trace fills the host's buffer as far as that goes, nothing but the codec having changed before, and the TRACE_ARM ends
with the bytes written (R447). -/
theorem traceOut_ends {s u : State} {c : Cmd} (hinv : s.Inv) (hcodec : Only 3145729 s u) (hcmd : s.cmd? s.trace.cmd = some c)
    (hdone : c.done = none) (unit : List Byte) : ∃ host out,
    u.traceOut unit = { s with regs := u.regs, host := host, ctxs := u.ctxs, codecEng := u.codecEng, trace := s.trace.exported, out := out } ∧
      Out.hostWrite c.addr (unit.take c.len) ∈ out ∧ s.ended (u.traceOut unit) c 0 (unit.take c.len).length 0 0 0 := by
  let w : State := ({ u with trace := s.trace.exported }).emit (.hostWrite c.addr (unit.take c.len))
  have hhost : u.host = s.host := hcodec.host rfl
  have hfound : ∀ n, u.cmd? n = s.cmd? n := fun n => by
    unfold State.cmd?
    rw [hhost]
  have heq : u.traceOut unit = w.complete c.n 0 (unit.take c.len).length := by
    unfold State.traceOut
    rw [hcodec.trace rfl, hfound, hcmd]
    rfl
  have hnum : numbered w.host.cmds w.host.nextCmd := hhost.symm ▸ hinv.cmds
  have hout : s.out <:+ w.out := (hcodec.out rfl).symm ▸ List.suffix_cons _ _
  have hcw : w.cmd? c.n = some c := (hfound c.n).trans ((cmd?_some hcmd).2.symm ▸ hcmd)
  have hended := ended_complete (s0 := s) 0 (unit.take c.len).length 0 0 0 hnum hout hcw hdone rfl rfl rfl
  have hwritten := (out_complete w c.n 0 (unit.take c.len).length 0 0 0).subset List.mem_cons_self
  obtain ⟨host, out, hframe⟩ := complete_eq w c.n 0 (unit.take c.len).length 0 0 0
  rw [heq]
  rw [hframe] at hended hwritten ⊢
  refine ⟨host, out, ?_, hwritten, hended⟩
  exact congrArg (fun v : State => { v with host := host, trace := s.trace.exported, out := out }) hcodec.eq_takes

/-- A flush that verifies releases the output up to it and is counted (R102). -/
theorem takeFlush_verified {s : State} {ctx : Nat} {c : Ctx} {part : List Byte} (hmay : c.mayFlush part = true)
    (hver : unitSoFar c.inp.length s.codecWindow part = some (c.inp.take c.given)) :
    ∃ out, s.takeFlush ctx c part = { s.setCtx ctx { c with rel := part, flushes := c.flushes + 1, pend := false } with out := out } ∧
      (c.purp ≠ 1 → out = s.out) ∧ ∀ x, c.purp = 1 → s.cmd? s.trace.cmd = some x →
        out = .hostWrite (x.addr + c.rel.length) ((part.take x.len).drop c.rel.length) :: s.out := by
  unfold State.takeFlush
  rw [if_neg (by simp [hmay]), if_neg (by simp [hver])]
  dsimp only
  by_cases htrace : c.purp = 1
  · rw [if_pos htrace, cmd?_setCtx, trace_setCtx]
    cases s.cmd? s.trace.cmd with
    | none => exact ⟨s.out, rfl, fun h => absurd htrace h, fun x _ h => by cases h⟩
    | some y => exact ⟨_, rfl, fun h => absurd htrace h, fun x _ h => by cases h; rfl⟩
  · rw [if_neg htrace]
    exact ⟨s.out, rfl, fun _ => rfl, fun x h => absurd h htrace⟩

theorem exec_codecFlush_takes {s : State} {ctx : Nat} (hctx : ctx = 6 ∨ ctx = 7) (hon : s.codecOn = true)
    (hmode : (s.ctx ctx).mode = 1) (hst : (s.ctx ctx).st = 1 ∨ (s.ctx ctx).st = 2) (part : List Byte) :
    exec (.codecFlush ctx part) s = .next (s.takeFlush ctx (s.ctx ctx) part) := by
  show execCodecFlush ctx part s = _
  unfold execCodecFlush
  dsimp only
  rw [if_neg (by grind), if_pos hst]

/-- A flush waits with a context that waits for room (R106). -/
theorem exec_codecFlush_waits {s : State} {ctx : Nat} (hctx : ctx = 6 ∨ ctx = 7) (hon : s.codecOn = true)
    (hmode : (s.ctx ctx).mode = 1) (hst : (s.ctx ctx).st = 3) (part : List Byte) :
    exec (.codecFlush ctx part) s = .next (s.setCtx ctx { s.ctx ctx with pend := true }) := by
  show execCodecFlush ctx part s = _
  unfold execCodecFlush
  dsimp only
  rw [if_neg (by grind), if_neg (by omega), if_pos hst]

/-- Settles O25: each event is one equation of `exec`, whose state is the context set and, where a unit ends, the unit counted and handed
on. -/
theorem codecWorks : Obligations.CodecWorks := by
  unfold Obligations.CodecWorks
  refine ⟨⟨?_, ?_, ?_⟩, ⟨?_, ?_⟩, ?_, ?_⟩
  · intro ctx slot block given space k f s hctx hon hframe hgood hlive hfree
    have hput : Only 3407873 s { s with frames := kput s.frames k { f with failed := 0, opened := false } } :=
      only_put262144 rfl (only_refl _ s)
    refine ⟨_, exec_cacheRead_ok hctx hon hframe hgood hlive hfree given space, (only_setCtx _ _ rfl hput).eq_takes, ctx_setCtx_same _ _ _,
      fun i hi => ctx_setCtx_other _ _ hi, ?_, regsOff_setCtx _ _ _, busy_setCtx _ (by omega) (by simp [Ctx.ofBlock])⟩
    exact (kget?_kput _ _ _ _).trans (if_pos rfl)
  · intro ctx s _ hserved hrun hmode hlive hclock
    have hexec := exec_codecDecodeEnd_served hserved hrun hmode hlive hclock
    refine ⟨fun out hdec hlen => ?_, fun d hdec => ?_, fun d len dist hdec => ?_⟩
    · obtain ⟨m, hend, hopened⟩ := decodeEnd_done (ctx := ctx) hdec hlen
      rw [hend] at hexec
      have hput : Only 3407873 s { s with frames := m } := only_put262144 rfl (only_refl _ s)
      refine ⟨_, hexec, (only_inc _ rfl (only_setCtx _ _ rfl hput)).eq_takes, (ctx_inc _ _ _).trans (ctx_setCtx_same _ _ _),
        fun i hi => (ctx_inc _ _ _).trans (ctx_setCtx_other _ _ hi), ?_, regsOff_setCtx_inc _ _ _, rd_setCtx_inc _ _ _⟩
      rw [frames_setCtx_inc]
      exact hopened
    · rw [decodeEnd_needInput hdec] at hexec
      refine ⟨_, hexec, (only_setCtx_self _ _ _).eq_takes, ?_⟩
      rw [ctx_setCtx_same]
      exact ⟨rfl, rfl, rfl, rfl, rfl⟩
    · rw [decodeEnd_needSpace hdec] at hexec
      refine ⟨_, hexec, (only_setCtx_self _ _ _).eq_takes, ?_⟩
      rw [ctx_setCtx_same]
      exact ⟨rfl, rfl, rfl, rfl⟩
  · intro ctx given space part s hctx hsusp hflush hlive
    refine ⟨_, exec_codecContextResume_goesOn hctx hsusp hflush hlive given space part, (only_setCtx_self _ _ _).eq_takes, ?_⟩
    rw [ctx_setCtx_same]
    exact ⟨rfl, rfl, rfl, rfl, rfl, fun i hi => ctx_setCtx_other _ _ hi⟩
  · intro ctx room unit s hctx hon hmode hrun hserved hinp hspace hmake
    exact ⟨_, exec_codecCompressDone_made hctx hon hmode hrun hserved hinp hspace hmake room, (only_setCtx_self _ _ _).eq_takes,
      ctx_setCtx_same _ _ _, fun i hi => ctx_setCtx_other _ _ hi, regsOff_setCtx _ _ _⟩
  · intro ctx room unit c s hinv hctx hon hmode hrun hserved htrace hcmd hdone hver
    have hexec := exec_codecCompressDone_verified hctx hon hmode hrun hserved htrace hver unit room
    have hcodec := only_inc R.CODEC_UNITS_DONE rfl (only_setCtx_self s ctx { s.ctx ctx with st := 4 })
    have hcount := rd_setCtx_inc s ctx { s.ctx ctx with st := 4 }
    have hregs := regsOff_setCtx_inc s ctx { s.ctx ctx with st := 4 }
    generalize (s.setCtx ctx { s.ctx ctx with st := 4 }).inc R.CODEC_UNITS_DONE = u at hexec hcodec hcount hregs
    obtain ⟨host, out, hframe, hwritten, hended⟩ := traceOut_ends hinv hcodec hcmd hdone (s.ctx ctx).out
    rw [hframe] at hexec hended
    exact ⟨_, hexec, rfl, hwritten, hended, hcount, hregs⟩
  · intro ctx part s hctx hon hmode hst hmay hver
    have hexec := exec_codecFlush_takes hctx hon hmode hst part
    obtain ⟨out, htake, hquiet, htrace⟩ := takeFlush_verified (ctx := ctx) hmay hver
    rw [htake] at hexec
    exact ⟨_, hexec, rfl, ctx_setCtx_same _ _ _, regsOff_setCtx _ _ _, hquiet, htrace⟩
  · intro ctx part s hctx hon hmode hst
    exact ⟨_, exec_codecFlush_waits hctx hon hmode hst part, (only_setCtx_self _ _ _).eq_takes, ctx_setCtx_same _ _ _, regsOff_setCtx _ _ _⟩

end Sys2Proof.Machine
end

section
/-! SUPPORT. JOB_OPEN, and commands that fail (spec/04_lantern_rasterizer.md). -/

namespace Sys2Proof.Machine

/-! ### A command that fails -/

/-- A command that fails leaves its record and its completion, and nothing else. -/
theorem only_fail_self (s : State) (n code : Nat) : Only 78398662313265602577 s (s.fail n code) :=
  only_fail n code 0 0 0 0 rfl (only_refl _ s)

theorem ended_fail_begun {s : State} {n opcode : Nat} {c : Cmd} (hinv : s.Inv) (hc : s.begun n opcode = some c) (code : Nat) :
    s.ended (s.fail n code) c code 0 0 0 0 :=
  ended_fail _ _ _ _ _ (keepsOut_of_inv hinv) (begun_some hc).1 (begun_some hc).2 rfl rfl rfl

/-! ### JOB_OPEN -/

/-- Slot i opened for the job that a command names (R118, R430). -/
def State.jobOpened (s : State) (i : Nat) (c : Cmd) : State :=
  { s with jobOrd := s.jobOrd + 1 }.setJob i
    { status := 1, jobId := c.jobId, openOrd := s.jobOrd + 1, flatTol := s.rd R.LANTERN_FLAT_TOL }

section JobOpen

variable {s : State} {n : Nat} {c : Cmd} (hc : s.begun n 0x01 = some c)
include hc

theorem exec_jobOpen_full (hfull : s.job0.status ≠ 0 ∧ s.job1.status ≠ 0) :
    exec (.jobOpen n) s = .next (s.fail n Code.HOST_SLOTS_FULL) := by
  show execJobOpen n s = _
  unfold execJobOpen
  rw [hc]
  exact if_pos hfull

theorem exec_jobOpen_held (hfree : ¬ (s.job0.status ≠ 0 ∧ s.job1.status ≠ 0)) (hheld : s.slotOf c.jobId ≠ none) :
    exec (.jobOpen n) s = .next (s.fail n Code.HOST_JOB_ID_IN_USE) := by
  show execJobOpen n s = _
  unfold execJobOpen
  rw [hc]
  dsimp only
  rw [if_neg hfree, if_pos (Option.isSome_iff_ne_none.mpr hheld)]

theorem exec_jobOpen_range (hfree : ¬ (s.job0.status ≠ 0 ∧ s.job1.status ≠ 0)) (hnew : s.slotOf c.jobId = none)
    (htol : s.rd R.LANTERN_FLAT_TOL < 1 ∨ 64 < s.rd R.LANTERN_FLAT_TOL) :
    exec (.jobOpen n) s = .next (s.fail n Code.LANTERN_TOL_RANGE) := by
  show execJobOpen n s = _
  unfold execJobOpen
  rw [hc]
  dsimp only
  rw [if_neg hfree, if_neg (by simp [hnew]), if_pos htol]

theorem exec_jobOpen_opens (hfree : ¬ (s.job0.status ≠ 0 ∧ s.job1.status ≠ 0)) (hnew : s.slotOf c.jobId = none)
    (htol : ¬ (s.rd R.LANTERN_FLAT_TOL < 1 ∨ 64 < s.rd R.LANTERN_FLAT_TOL)) {i : Nat}
    (hi : (if s.job0.status = 0 then 0 else 1) = i) : exec (.jobOpen n) s = .next ((s.jobOpened i c).complete n 0 i) := by
  show execJobOpen n s = _
  unfold execJobOpen
  rw [hc]
  dsimp only
  rw [if_neg hfree, if_neg (by simp [hnew]), if_neg htol, hi]
  rfl

end JobOpen

/-- What JOB_OPEN leaves of the state. -/
theorem only_jobOpen {s t : State} {n : Nat} (h : exec (.jobOpen n) s = .next t) : Only 78398662313265782801 s t := by
  have hout : OnlyOut 78398662313265782801 s (exec (.jobOpen n) s) := only_execJobOpen n rfl (only_refl _ s)
  rw [h] at hout
  exact hout

/-- Opening a slot changes no command in execution. -/
theorem host_jobOpened (s : State) (i : Nat) (c : Cmd) : (s.jobOpened i c).host = s.host := by
  unfold State.jobOpened State.setJob
  split <;> rfl

/-- The command that opens a slot ends with it. -/
theorem ended_jobOpened {s : State} {n i : Nat} {c : Cmd} (hinv : s.Inv) (hc : s.begun n 0x01 = some c) :
    s.ended ((s.jobOpened i c).complete n 0 i) c 0 i 0 0 0 := by
  obtain ⟨hcmd, hdone⟩ := begun_some hc
  have hhost := host_jobOpened s i c
  have hout : (s.jobOpened i c).out = s.out := by
    unfold State.jobOpened State.setJob
    split <;> rfl
  have hfound : (s.jobOpened i c).cmd? n = some c := by
    unfold State.cmd?
    rw [hhost]
    exact hcmd
  exact ended_complete _ _ _ _ _ (hhost ▸ hinv.cmds) (hout ▸ List.suffix_refl _) hfound hdone rfl rfl rfl

/-- A refusal ends the command with its code and changes no slot. -/
theorem fail_keeps_slots {s : State} {n opcode : Nat} {c : Cmd} (hinv : s.Inv) (hc : s.begun n opcode = some c) (code : Nat) :
    s.ended (s.fail n code) c code 0 0 0 0 ∧ (s.fail n code).job0 = s.job0 ∧ (s.fail n code).job1 = s.job1 :=
  ⟨ended_fail_begun hinv hc code, (only_fail_self s n code).job0 rfl, (only_fail_self s n code).job1 rfl⟩

/-- Settles O14: each refusal is `fail` with its code, and an open job is `jobOpened` at the lower free slot with its completion. -/
theorem jobOpens : Obligations.JobOpens := by
  unfold Obligations.JobOpens
  intro n c s hinv hc
  by_cases hfull : s.job0.status ≠ 0 ∧ s.job1.status ≠ 0
  · have hexec := exec_jobOpen_full hc hfull
    refine ⟨_, hexec, (only_jobOpen hexec).eq_takes, ?_⟩
    rw [if_pos hfull]
    exact fail_keeps_slots hinv hc _
  by_cases hheld : s.slotOf c.jobId ≠ none
  · have hexec := exec_jobOpen_held hc hfull hheld
    refine ⟨_, hexec, (only_jobOpen hexec).eq_takes, ?_⟩
    rw [if_neg hfull, if_pos hheld]
    exact fail_keeps_slots hinv hc _
  have hnew := not_not.mp hheld
  by_cases htol : s.rd R.LANTERN_FLAT_TOL < 1 ∨ 64 < s.rd R.LANTERN_FLAT_TOL
  · have hexec := exec_jobOpen_range hc hfull hnew htol
    refine ⟨_, hexec, (only_jobOpen hexec).eq_takes, ?_⟩
    rw [if_neg hfull, if_neg hheld, if_pos htol]
    exact fail_keeps_slots hinv hc _
  have hopens := fun i => exec_jobOpen_opens hc hfull hnew htol (i := i)
  have hended := fun i => ended_jobOpened (i := i) hinv hc
  by_cases hlow : s.job0.status = 0
  · obtain ⟨host, out, heq⟩ := complete_eq (s.jobOpened 0 c) n 0 0 0 0 0
    refine ⟨_, hopens 0 (if_pos hlow), (only_jobOpen (hopens 0 (if_pos hlow))).eq_takes, ?_⟩
    rw [if_neg hfull, if_neg hheld, if_neg htol, if_pos hlow, heq]
    exact ⟨rfl, heq ▸ hended 0, rfl, rfl⟩
  · obtain ⟨host, out, heq⟩ := complete_eq (s.jobOpened 1 c) n 0 1 0 0 0
    refine ⟨_, hopens 1 (if_neg hlow), (only_jobOpen (hopens 1 (if_neg hlow))).eq_takes, ?_⟩
    rw [if_neg hfull, if_neg hheld, if_neg htol, if_neg hlow, heq]
    exact ⟨rfl, heq ▸ hended 1, rfl, rfl⟩

end Sys2Proof.Machine
end

section
/-! SUPPORT. RESUME: the restore from a checkpoint, and the checks that may end it (spec/04_lantern_rasterizer.md). -/

namespace Sys2Proof.Machine

/-! ### With no stripe writing a record contains nothing -/

theorem writing_recordRaw (s : State) (a : RecArg) : (s.recordRaw a).writing = s.writing := by
  unfold State.writing
  rw [(only_recordRaw (mm := 78398662313265602577) a rfl (only_refl _ s)).stripes rfl]

theorem record_calm {s : State} (h : s.writing = none) (a : RecArg) : s.record a = s.recordRaw a := by
  unfold State.record
  dsimp only
  rw [if_neg (by simp [writing_recordRaw, h])]

/-- Then a CAP lowered changes the two maps, and records at most. -/
theorem only_lowerCap_calm {s : State} (h : s.writing = none) (b cap : Nat) : Only 78398662314070908945 s (s.lowerCap b cap) := by
  obtain ⟨c, n, -, hlow⟩ := lowerCap_cases s b cap
  have hmaps : Only 78398662314070908945 s { s with caps := c, capsNext := n } := only_put805306368 rfl (only_refl _ s)
  rcases hlow with hlow | ⟨-, a, hlow⟩
  · rw [hlow]
    exact hmaps
  · rw [hlow, record_calm (s := { s with caps := c, capsNext := n }) h a]
    exact only_recordRaw a rfl hmaps

/-! ### The checkpoint read back -/

/-- The stray writes held while a stripe is contained take effect (R181): the CAPs are lowered and no write is held any more. -/
theorem takeHeld_takes {s : State} (h : s.writing = none ∨ s.strayHeld = []) :
    Only 78398662314070908945 { s with strayHeld := [] } s.takeHeld ∧ (s.strayHeld = [] → s.takeHeld = { s with strayHeld := [] }) := by
  have hnone : s.strayHeld = [] → s.takeHeld = { s with strayHeld := [] } := fun he => by
    unfold State.takeHeld
    rw [he, List.foldl_nil]
  refine ⟨?_, hnone⟩
  rcases h with hw | he
  · have hcalm : ∀ u : State, Only 78398662314070908945 { s with strayHeld := [] } u → u.writing = none := fun u hu => by
      unfold State.writing
      rw [hu.stripes rfl]
      exact hw
    exact List.foldlRecOn (motive := Only 78398662314070908945 { s with strayHeld := [] }) _ _ (only_refl _ _)
      (fun u hu a _ => only_trans hu (only_lowerCap_calm (hcalm u hu) a.1 a.2))
  · rw [hnone he]
    exact only_refl _ _

/-- What the read of the checkpoint leaves (R477 step 1). -/
structure CkptRead (s t : State) : Prop where
  only : Only 78398662863893831697 s t
  tally : t.tally = ((s.lastCkpt.bind (kget? s.ckpts)).map (·.tally)).getD s.tally
  strayHeld : t.strayHeld = []
  log : s.strayHeld = [] → t.log = s.log

theorem ckptRead_takeHeld {s u : State} (hu : Only 550024249344 s u)
    (htally : u.tally = ((s.lastCkpt.bind (kget? s.ckpts)).map (·.tally)).getD s.tally)
    (h : s.writing = none ∨ s.strayHeld = []) : CkptRead s u.takeHeld := by
  have hw : u.writing = none ∨ u.strayHeld = [] := by
    unfold State.writing
    rw [hu.stripes rfl, hu.strayHeld rfl]
    exact h
  obtain ⟨htakes, hnone⟩ := takeHeld_takes hw
  refine ⟨?_, (htakes.tally rfl).trans htally, htakes.strayHeld rfl, fun he => ?_⟩
  · exact only_trans (only_put67108864 rfl (only_mono rfl hu)) (only_mono rfl htakes)
  · rw [hnone ((hu.strayHeld rfl).trans he)]
    exact hu.log rfl

theorem ckptRead_readCkpt {s : State} (h : s.writing = none ∨ s.strayHeld = []) : CkptRead s s.readCkpt := by
  unfold State.readCkpt
  cases hc : s.lastCkpt.bind (kget? s.ckpts) with
  | none => exact ckptRead_takeHeld (only_refl _ s) (by rw [hc]; rfl) h
  | some c => exact ckptRead_takeHeld (only_put550024249344 rfl (only_refl _ s)) (by rw [hc]; rfl) h

/-! ### The restore, by its parts -/

/-- The contained stripe as it resumes: its first row to enter again, its flash base moved past the gap (R476, R477). -/
def Stripe.resumed (x : Stripe) (n addr2 flashBase : Nat) (y : Stripe) : Stripe :=
  { y with ckpt := 5, goCmd := n, addr2, flashBase, nextCycle := (x.held + 1).toNat }

/-- The Tally restored, entry staging refilled and the stripe in its resume (R477 steps 1 and 2). -/
def State.resumedStripe (s : State) (x : Stripe) (n addr2 : Nat) : State :=
  (((s.ran n).takesEffect x.jobId n).readCkpt.refill x (x.held + 1).toNat).modStripe x
    (x.resumed n addr2 (s.nextIndex - (x.held + 1).toNat))

/-- Drover in REWIND and the list open again (R477, R479). -/
def State.resumedDrover (s : State) (x : Stripe) : State :=
  let t := (s.rewindDrover.modList x (fun d => { d with state := 0 })).droverTo 4
  { t with flink := { t.flink with strobed := [], discard := none },
           profile := { t.profile with resumeWait := decide (t.grouped ∧ !t.ivdon.epochGot) },
           ivdon := { t.ivdon with epochGot := false } }

/-- The lanes told of the next flash, their echoes watched again (R235, R479). -/
def State.resumedLanes (s : State) : State :=
  let t := s.allLanes 0x66 s.nextIndex
  if t.fld R.MIRROR_MODE 1 0 = 2 then
    (List.range 64).foldl (fun s l => s.setLane l { s.lane l with echoLeft := s.fld R.MIRROR_WINDOW 15 0 }) t else t

/-- The registers by which Lantern shows that it wakes (R130, R506). -/
def wakeRegs : List RegAddr := [R.CLK_REQ, R.CLK_ON, statusOf 9]

theorem regsOff_woken (s : State) : RegsOff wakeRegs s ((s.clkOn 9).setFld (statusOf 9) 16 16 1) := by
  refine regsOff_setFld _ _ _ _ (by simp [wakeRegs]) (regsOff_traced _ ?_)
  exact regsOff_setFld _ _ _ _ (by simp [wakeRegs])
    (regsOff_setFld _ _ _ _ (by simp [wakeRegs]) (regsOff_setFld _ _ _ _ (by simp [wakeRegs]) (regsOff_refl _ s)))

theorem regsOff_lanternWake (s : State) : RegsOff wakeRegs s s.lanternWake := by
  unfold State.lanternWake
  dsimp only
  split
  · exact regsOff_woken s
  · exact regsOff_refl _ s

theorem leadL_lanternWake (s : State) : s.lanternWake.leadL = s.leadL := by
  unfold State.leadL State.fld
  rw [regsOff_lanternWake s R.FLINK_LEAD (by decide)]

/-- The restore is its parts, then the first share cycles on their state. -/
theorem restore_eq (s : State) (x : Stripe) (n addr2 : Nat) :
    let u := (((s.resumedStripe x n addr2).resumedDrover x).resumedLanes).lanternWake
    s.restore x n addr2 = State.firstCycles u.leadL x.ord u := by
  dsimp only
  rw [leadL_lanternWake]
  rfl

/-- The stripe's part of the restore. -/
theorem resumedStripe_frame {s : State} (h : s.writing = none ∨ s.strayHeld = []) (x : Stripe) (n addr2 : Nat) :
    Only 78398663138775932945 s (s.resumedStripe x n addr2) ∧
    (s.resumedStripe x n addr2).stripes = s.stripes.map (fun y => if y.ord = x.ord then
      x.resumed n addr2 (s.nextIndex - (x.held + 1).toNat) y else y) ∧
    (s.resumedStripe x n addr2).tally = ((s.lastCkpt.bind (kget? s.ckpts)).map (·.tally)).getD s.tally ∧
    (s.resumedStripe x n addr2).strayHeld = [] ∧ (s.strayHeld = [] → (s.resumedStripe x n addr2).log = s.log) := by
  have htook : Only 8192 s ((s.ran n).takesEffect x.jobId n) := only_takesEffect _ _ rfl (only_ran n rfl (only_refl _ s))
  unfold State.resumedStripe
  generalize (s.ran n).takesEffect x.jobId n = v at htook
  have hw : v.writing = none ∨ v.strayHeld = [] := by
    unfold State.writing
    rw [htook.stripes rfl, htook.strayHeld rfl]
    exact h
  obtain ⟨honly, htally, hheld, hlog⟩ := ckptRead_readCkpt hw
  generalize v.readCkpt = w at honly htally hheld hlog
  have hfill : Only 274877906944 w (w.refill x (x.held + 1).toNat) := only_refill x _ rfl (only_refl _ w)
  generalize w.refill x (x.held + 1).toNat = u at hfill
  have hu : Only 78398663138775932945 s u := only_trans (only_mono rfl htook) (only_trans (only_mono rfl honly) (only_mono rfl hfill))
  refine ⟨only_modStripe x _ rfl hu, ?_, ?_, (hfill.strayHeld rfl).trans hheld, fun he => ?_⟩
  · rw [stripes_modStripe, hfill.stripes rfl, honly.stripes rfl, htook.stripes rfl]
  · rw [htook.lastCkpt rfl, htook.ckpts rfl, htook.tally rfl] at htally
    exact (hfill.tally rfl).trans htally
  · exact (hfill.log rfl).trans ((hlog ((htook.strayHeld rfl).trans he)).trans (htook.log rfl))

theorem job_of_only {m : Nat} {s t : State} (h : Only m s t) (h0 : m.testBit 14 = false) (h1 : m.testBit 15 = false) (i : Nat) :
    t.job i = s.job i := by
  unfold State.job
  rw [h.job0 h0, h.job1 h1]

/-- Drover's part of the restore. -/
theorem resumedDrover_frame (s : State) (x : Stripe) :
    Only 2305858402376531969 s (s.resumedDrover x) ∧ (s.resumedDrover x).drover.st = 4 ∧ (s.resumedDrover x).flink.strobed = [] ∧
    (s.resumedDrover x).flink.discard = none ∧ (s.resumedDrover x).ivdon.epochGot = false ∧
    ∀ d ∈ ((s.resumedDrover x).job x.slot).lists, d.ord = x.ord → d.state = 0 := by
  have hrewound : Only 2305858402376531969 s ((s.rewindDrover.modList x (fun d => { d with state := 0 })).droverTo 4) :=
    only_droverTo 4 rfl (only_modList x _ rfl (only_rewindDrover rfl (only_refl _ s)))
  refine ⟨only_put2305854004329971712 rfl hrewound, rfl, rfl, rfl, rfl, ?_⟩
  have hafter : Only 2305858402376482817 (s.rewindDrover.modList x (fun d => { d with state := 0 })) (s.resumedDrover x) :=
    only_put2305854004329971712 rfl (only_droverTo 4 rfl (only_refl _ _))
  rw [job_of_only hafter rfl rfl, State.modList, State.modJob, job_setJob_same]
  intro d hd hord
  obtain ⟨e, -, rfl⟩ := List.mem_map.mp hd
  split
  · rfl
  · next hne =>
    rw [if_neg hne] at hord
    exact absurd hord hne

/-- The lanes' part of the restore. -/
theorem resumedLanes_frame (s : State) : Only 73786978493861462016 s s.resumedLanes ∧
    s.resumedLanes.flink.strobed = s.flink.strobed ∧ s.resumedLanes.flink.discard = s.flink.discard := by
  have hall : Only 73786978493861462016 s (s.allLanes 0x66 s.nextIndex) := only_allLanes _ _ rfl (only_refl _ s)
  have hsent := resends_allLanes s 0x66 s.nextIndex
  have hlanes : Resends s s.resumedLanes ∧ Only 73786978493861462016 s s.resumedLanes := by
    unfold State.resumedLanes
    dsimp only
    split
    · exact ⟨hsent.trans (resends_foldl _ (fun u l => resends_setLane u l _) _ _),
        only_foldl (fun u l hu => only_setLane l _ rfl hu) _ hall⟩
    · exact ⟨hsent, hall⟩
  obtain ⟨hresends, honly⟩ := hlanes
  exact ⟨honly, hresends.strobed, by rw [hresends.flink]⟩

/-! ### The command -/

/-- A command whose job is open acts on its slot (R430, R449). -/
theorem onJob_open {s : State} {c : Cmd} {i : Nat} (hslot : s.slotOf c.jobId = some i) (hopen : (s.job i).status = 1) (f : Nat → State) :
    s.onJob c f = f i := by
  unfold State.onJob
  rw [hslot]
  dsimp only
  rw [if_neg (by omega)]

section Seen

variable (s : State) (smp : Sample)

theorem begun_see (n opcode : Nat) : (s.see smp).begun n opcode = s.begun n opcode := by
  obtain ⟨e, he⟩ := encsOnly_see s smp
  rw [he]
  rfl

theorem slotOf_see (jobId : Nat) : (s.see smp).slotOf jobId = s.slotOf jobId := by
  obtain ⟨e, he⟩ := encsOnly_see s smp
  rw [he]
  rfl

theorem job_see (i : Nat) : (s.see smp).job i = s.job i := by
  obtain ⟨e, he⟩ := encsOnly_see s smp
  rw [he]
  rfl

theorem named_see (slot id : Nat) : (s.see smp).named slot id = s.named slot id := by
  obtain ⟨e, he⟩ := encsOnly_see s smp
  rw [he]
  rfl

theorem refillFails_see (x : Stripe) (h1 : Nat) (bad : List (Nat × Nat × Option Nat)) :
    (s.see smp).refillFails x h1 bad = s.refillFails x h1 bad := by
  obtain ⟨e, he⟩ := encsOnly_see s smp
  rw [he]
  rfl

end Seen

section Resume

variable {s : State} {n i : Nat} {c : Cmd} {x : Stripe} (hc : s.begun n 0x09 = some c) (hslot : s.slotOf c.jobId = some i)
  (hopen : (s.job i).status = 1) (hx : s.named i c.sel = some x) (hst : x.st = .contained) (hckpt : x.ckpt = 3)
include hc hslot hopen hx hst hckpt

/-- A check that fails ends the command (R441, R476). -/
theorem exec_resume_refused {smp : Sample} {code : Nat} (hcheck : (s.see smp).resumeChecks x = some code) (reads : List Bool)
    (bad : List (Nat × Nat × Option Nat)) : exec (.resume n smp reads bad) s = .next ((s.see smp).fail n code) := by
  show execResume n smp reads bad s = _
  unfold execResume
  dsimp only
  rw [begun_see, hc]
  dsimp only
  rw [onJob_open ((slotOf_see s smp _).trans hslot) ((congrArg _ (job_see s smp i)).trans hopen), named_see, hx]
  dsimp only
  rw [if_neg (by simp [hst, hckpt]), hcheck]

/-- With its checks passed, no request kept and every tile read right the stripe is restored (R477). -/
theorem exec_resume_restores {smp : Sample} {reads : List Bool} {bad : List (Nat × Nat × Option Nat)}
    (hcheck : (s.see smp).resumeChecks x = none) (hreqs : x.requests = []) (hfills : s.refillFails x (x.held + 1).toNat bad = [])
    (hread : reads.getD 0 true = true ∨ reads.getD 1 true = true) :
    exec (.resume n smp reads bad) s = .next ((s.see smp).restore x n c.addr2) := by
  show execResume n smp reads bad s = _
  unfold execResume
  dsimp only
  rw [begun_see, hc]
  dsimp only
  rw [onJob_open ((slotOf_see s smp _).trans hslot) ((congrArg _ (job_see s smp i)).trans hopen), named_see, hx]
  dsimp only
  rw [if_neg (by simp [hst, hckpt]), hcheck]
  dsimp only
  rw [if_neg (not_not.mpr hreqs), if_pos hread, refillFails_see, hfills]

end Resume

/-- Settles O23: the restore is `resumedStripe`, `resumedDrover` and `resumedLanes` one after the other, each with its frame; a check that
fails is `fail` with its code. -/
theorem resumeRestores : Obligations.ResumeRestores := by
  unfold Obligations.ResumeRestores
  intro n i smp reads bad c x s hinv hc hslot hopen hx hst hckpt
  have hsee := only_see_self s smp
  refine ⟨fun hcheck hreqs hfills hread hcalm => ?_, fun code hcheck => ?_⟩
  · have hexec := exec_resume_restores hc hslot hopen hx hst hckpt hcheck hreqs hfills hread
    have hnext := nextIndex_see s smp
    generalize s.see smp = v at hexec hsee hnext
    have hw : v.writing = none ∨ v.strayHeld = [] := by
      unfold State.writing
      rw [hsee.stripes rfl, hsee.strayHeld rfl]
      exact hcalm
    rw [restore_eq] at hexec
    obtain ⟨hstripe, hstripes, htally, hheld, hlog⟩ := resumedStripe_frame hw x n c.addr2
    generalize v.resumedStripe x n c.addr2 = w at hexec hstripe hstripes htally hheld hlog
    obtain ⟨hdrover, hst4, hstrobed, hdiscard, hgot, hlists⟩ := resumedDrover_frame w x
    generalize w.resumedDrover x = y at hexec hdrover hst4 hstrobed hdiscard hgot hlists
    obtain ⟨hlanes, hstrobed', hdiscard'⟩ := resumedLanes_frame y
    have hwake : Only 78398664512288849921 y y.resumedLanes.lanternWake := only_lanternWake rfl (only_mono rfl hlanes)
    have hflink : y.resumedLanes.lanternWake.flink = y.resumedLanes.flink :=
      (only_lanternWake (mm := 4611686018427387905) rfl (only_refl _ y.resumedLanes)).flink rfl
    refine ⟨_, hexec, ?_⟩
    generalize y.resumedLanes.lanternWake = u at hwake hflink
    refine ⟨?_, ?_, ?_, ?_, ?_, ?_, ?_, ?_, ?_, fun he => ?_⟩
    · rw [hwake.stripes rfl, hdrover.stripes rfl, hstripes, hsee.stripes rfl, hnext]
      rfl
    · rw [hwake.drover rfl, hst4]
    · rw [hflink, hstrobed', hstrobed]
    · rw [hflink, hdiscard', hdiscard]
    · rw [hwake.ivdon rfl, hgot]
    · rw [job_of_only hwake rfl rfl]
      exact hlists
    · rw [hwake.hold rfl, hdrover.hold rfl, hstripe.hold rfl, hsee.hold rfl]
    · rw [hwake.strayHeld rfl, hdrover.strayHeld rfl, hheld]
    · rw [hwake.tally rfl, hdrover.tally rfl, htally, hsee.lastCkpt rfl, hsee.ckpts rfl, hsee.tally rfl]
    · rw [hwake.log rfl, hdrover.log rfl, hlog ((hsee.strayHeld rfl).trans he), hsee.log rfl]
  · have hfail := only_fail_self (s.see smp) n code
    refine ⟨_, exec_resume_refused hc hslot hopen hx hst hckpt hcheck reads bad, ?_, ?_, hfail.drover rfl⟩
    · obtain ⟨hcmd, hdone⟩ := begun_some ((begun_see s smp n 0x09).trans hc)
      have hkeeps : Keeps (s.see smp).pending s.out (s.see smp) := (hsee.pending rfl).symm ▸ keeps_see smp (keepsOut_of_inv hinv)
      exact ended_fail _ _ _ _ _ hkeeps hcmd hdone rfl rfl rfl
    · rw [hfail.stripes rfl, hsee.stripes rfl]

end Sys2Proof.Machine
end

section
/-! SUPPORT. Lantern's lanes wake, tiles of the field are written, and tiles are formed again (spec/04_lantern_rasterizer.md). -/

namespace Sys2Proof.Machine

/-! ### The lanes wake -/

theorem fld_setFld_bit (s : State) (a : RegAddr) {b : Nat} (hb : b < 32) : (s.setFld a b b 1).fld a b b = 1 := by
  unfold State.fld
  rw [fieldOf_bit, testBit_setFld_one s a hb]
  rfl

theorem fld_traced (p : Nat) (u t : State) (a : RegAddr) (hi lo : Nat) : (State.traced p u t).fld a hi lo = t.fld a hi lo := by
  unfold State.fld
  rw [regsOff_traced p (regsOff_refl [] t) a List.not_mem_nil]

/-- What shows that the lanes are awake (R130, R506). -/
theorem woken_shown (s : State) :
    ((s.clkOn 9).setFld (statusOf 9) 16 16 1).fld R.CLK_REQ 9 9 = 1 ∧ ((s.clkOn 9).setFld (statusOf 9) 16 16 1).fld R.CLK_ON 9 9 = 1 ∧
    ((s.clkOn 9).setFld (statusOf 9) 16 16 1).fld (statusOf 9) 16 16 = 1 := by
  refine ⟨?_, ?_, fld_setFld_bit _ _ (by decide)⟩
  · rw [fld_setFld_other _ _ _ _ _ (by decide), State.clkOn, fld_traced, fld_setFld_other _ _ _ _ _ (by decide),
      fld_setFld_other _ _ _ _ _ (by decide), fld_setFld_bit _ _ (by decide)]
  · rw [fld_setFld_other _ _ _ _ _ (by decide), State.clkOn, fld_traced, fld_setFld_other _ _ _ _ _ (by decide),
      fld_setFld_bit _ _ (by decide)]

/-- The lanes wake where the lead has fallen to the value in force, or a request or a pre-pass waits (R129, R130). -/
theorem lanternWake_wakes {s : State} (hon : s.enabled 9 = true) (hcool : s.anyShutdown = false)
    (hwork : (∃ x, s.fieldStripe = some x ∧ x.unfilled = true ∧ x.lead ≤ s.inForce R.LANTERN_LEAD_WAKE) ∨
      ∃ x ∈ s.stripes, x.wanted = true ∨ x.prepass = 1 ∨ x.prepass = 2) :
    s.lanternWake = (s.clkOn 9).setFld (statusOf 9) 16 16 1 := by
  unfold State.lanternWake
  dsimp only
  refine if_pos ⟨hon, ?_, by simp [hcool]⟩
  rcases hwork with ⟨x, hx, hunfilled, hlow⟩ | ⟨x, hx, hasked⟩
  · exact .inr (by simp [hx, hunfilled, hlow])
  · exact .inl (List.any_eq_true.mpr ⟨x, hx, by simpa [or_assoc] using hasked⟩)

theorem exec_lanternWake (s : State) : exec .lanternWake s = .next s.lanternWake := rfl

/-- A wake changes registers and the trace. -/
theorem woken_eq {s t : State} (h : Only 4611686018427387905 s t) : t = { s with regs := t.regs, trace := t.trace } := h.eq_takes

/-! ### A tile kept -/

theorem mem_modStripe {s : State} {x y : Stripe} (f : Stripe → Stripe) (hy : y ∈ s.stripes) (ho : y.ord = x.ord) :
    f y ∈ (s.modStripe x f).stripes := by
  rw [stripes_modStripe]
  exact List.mem_map.mpr ⟨y, hy, if_pos ho⟩

/-- A tile written is among its stripe's, its band complete with its last tile, and the lanes rest where no work is left (R125, R130). -/
def State.tileKept (s : State) (x : Stripe) (band col : Nat) : State :=
  ((s.modStripe x (fun t => { t with tiles := (band, col) :: t.tiles,
                                     rasterBad := t.rasterBad.filter (fun b => ¬ (b.1 = band ∧ b.2.1 = col)) })).bandDone x).lanternRest

theorem regsOff_lanternRest {l : List RegAddr} {s t : State} (hl : statusOf 9 ∈ l) (h : RegsOff l s t) : RegsOff l s t.lanternRest := by
  unfold State.lanternRest
  split
  · exact h
  · exact regsOff_setFld _ _ _ _ hl h

theorem stripes_lanternRest (s : State) : s.lanternRest.stripes = s.stripes :=
  (only_lanternRest (mm := 1) rfl (only_refl _ s)).stripes rfl

theorem only_tileKept (s : State) (x : Stripe) (band col : Nat) : Only 4194305 s (s.tileKept x band col) :=
  only_lanternRest rfl (only_bandDone _ rfl (only_modStripe _ _ rfl (only_refl _ s)))

theorem regsOff_tileKept (s : State) (x : Stripe) (band col : Nat) : RegsOff [statusOf 9] s (s.tileKept x band col) :=
  regsOff_lanternRest (List.mem_singleton.mpr rfl) (regsOff_regs rfl (regsOff_refl _ s))

/-- The stripe of a tile kept: its band is complete with its last tile (R125). -/
theorem tileKept_stripe {s : State} {x y : Stripe} (hy : y ∈ s.stripes) (ho : y.ord = x.ord) (band col : Nat) :
    ∃ z ∈ (s.tileKept x band col).stripes, z.ord = x.ord ∧ z.clips = y.clips ∧
      if s.width / 64 ≤ y.tiles.length + 1 then z.bandsDone = y.bandsDone + 1 ∧ z.tiles = []
      else z.bandsDone = y.bandsDone ∧ z.tiles = (band, col) :: y.tiles := by
  unfold State.tileKept
  rw [stripes_lanternRest]
  refine ⟨_, mem_modStripe _ (mem_modStripe _ hy ho) ho, ?_⟩
  by_cases hlast : s.width / 64 ≤ y.tiles.length + 1
  · rw [if_pos hlast, if_pos (by exact hlast)]
    exact ⟨ho, rfl, rfl, rfl⟩
  · rw [if_neg hlast, if_neg (by exact hlast)]
    exact ⟨ho, rfl, rfl, rfl⟩

/-! ### Doses clipped -/

/-- A record changes no register past the page headers but those of the error log. -/
theorem rd_recordRaw_far (s : State) (b : RecArg) {a : RegAddr} (ho : ¬ offOf a < 0x100) (hl : a ∉ logRegs) :
    (s.recordRaw b).rd a = s.rd a :=
  regsOff_recordRaw b (fun _ h => h) (regsOff_refl _ s) a (fun h => (mem_recordRegs h).elim ho hl)

/-- A stripe with n more of its pixels clipped (R156). -/
def Stripe.clipped (n : Nat) (y : Stripe) : Stripe := { y with clips := satAdd (2 ^ 32 - 1) y.clips n }

/-- From s to t the n clipped pixels of a tile of stripe x have been counted (R156). -/
structure ClipsCounted (s t : State) (x : Stripe) (n : Nat) : Prop where
  only : Only 78398662313269796881 s t
  same : n = 0 → t = s
  count : n ≠ 0 → t.rd R.PENUMBRA_DOSE_CLIPS = min (2 ^ 32 - 1) (s.rd R.PENUMBRA_DOSE_CLIPS + n)
  regs : ∀ a ∈ [R.LANTERN_TILES_DONE, R.SHEPHERD_MODE], t.rd a = s.rd a
  stripes : n ≠ 0 → t.stripes = (s.modStripe x (Stripe.clipped n)).stripes

theorem clipsCounted_bump (s : State) (x : Stripe) {n : Nat} (hn : n ≠ 0) :
    ClipsCounted s ((s.bump R.PENUMBRA_DOSE_CLIPS 31 0 n).modStripe x (Stripe.clipped n)) x n where
  only := only_modStripe _ _ rfl (only_bump _ _ _ _ rfl (only_refl _ s))
  same h := absurd h hn
  count _ := rd_bump_whole s R.PENUMBRA_DOSE_CLIPS n
  regs a ha := rd_setFld_other (s := s) 31 0 _ (by revert a; decide)
  stripes _ := rfl

theorem ClipsCounted.record {s t : State} {x : Stripe} {n : Nat} (h : ClipsCounted s t x n) (hn : n ≠ 0) (hroom : 256 < t.logFree)
    (a : RecArg) : ClipsCounted s (t.record a) x n := by
  have hfar : ∀ b : RegAddr, ¬ offOf b < 0x100 → b ∉ logRegs → (t.recordRaw a).rd b = t.rd b := fun b => rd_recordRaw_far t a
  have hstripes := (only_recordRaw (mm := 78398662313265602577) a rfl (only_refl _ t)).stripes rfl
  rw [record_room a hroom]
  exact {
    only := only_recordRaw a rfl h.only
    same := fun hz => absurd hz hn
    count := fun _ => (hfar _ (by decide) (by decide)).trans (h.count hn)
    regs := fun b hb => (hfar b (by revert b; decide) (by revert b; decide)).trans (h.regs b hb)
    stripes := fun _ => hstripes.trans (h.stripes hn) }

theorem clipsCounted_countClips {s : State} (hroom : 256 < s.logFree) (x : Stripe) (xs : List (Nat × Nat × Nat)) :
    ClipsCounted s (s.countClips x xs) x (xs.filter (fun p => p.2.2 > 1023)).length := by
  unfold State.countClips
  generalize xs.filter (fun p => p.2.2 > 1023) = l
  cases l with
  | nil => exact ⟨only_refl _ s, fun _ => rfl, fun h => absurd rfl h, fun _ _ => rfl, fun h => absurd rfl h⟩
  | cons p ps =>
    have hcount := clipsCounted_bump s x (Nat.succ_ne_zero ps.length)
    dsimp only
    split
    · exact hcount.record (Nat.succ_ne_zero _) hroom _
    · exact hcount

/-- The stripe whose clipped pixels are counted. -/
theorem ClipsCounted.stripe {s t : State} {x : Stripe} {n : Nat} (h : ClipsCounted s t x n) (hx : x ∈ s.stripes) :
    ∃ y ∈ t.stripes, y.ord = x.ord ∧ y.tiles = x.tiles ∧ y.bandsDone = x.bandsDone ∧
      y.clips = if n = 0 then x.clips else min (2 ^ 32 - 1) (x.clips + n) := by
  by_cases hn : n = 0
  · rw [h.same hn]
    exact ⟨x, hx, rfl, rfl, rfl, (if_pos hn).symm⟩
  · refine ⟨x.clipped n, ?_, rfl, rfl, rfl, (if_neg hn).symm⟩
    rw [h.stripes hn]
    exact mem_modStripe _ hx rfl

/-! ### A tile of the field -/

/-- A stripe that a tile command names is one of the machine's, of its pass. -/
theorem tileStripe_some {s : State} {pass id : Nat} {x : Stripe} (h : s.tileStripe pass id = some x) : x ∈ s.stripes ∧ x.pass = pass := by
  have hp := List.find?_some h
  simp only [Bool.decide_and, Bool.and_eq_true, decide_eq_true_eq] at hp
  exact ⟨List.mem_of_find?_eq_some h, hp.2.1⟩

/-- With its fog table read right a tile that is ready is done. -/
theorem exec_tileDone_ready {s : State} {id band col lane : Nat} {mapBad : Bool} {x : Stripe} (hx : s.tileStripe 0 id = some x)
    (hready : s.tileReady x band col = true) (hlane : s.lanternReady x band col lane false mapBad = true) (herr : s.tileError x = none)
    (residue : Bool) :
    exec (.tileDone 0 id band col lane residue 0 false mapBad 0 []) s = .next (s.tileDone x band col lane residue 0 false mapBad) := by
  have hfog : s.readFog x 0 = s := by
    unfold State.readFog
    split <;> rfl
  show execTileDone 0 id band col lane residue 0 false mapBad 0 [] s = _
  unfold execTileDone
  rw [hx]
  dsimp only
  rw [if_neg (by simp [hready, hlane]), herr]
  dsimp only
  rw [if_neg (by simp), if_neg (by simp [spoils]), hfog]
  rfl

/-- The field with a tile written and the tile counted (R124). -/
def State.tileStored (s : State) (x : Stripe) (band col : Nat) : State :=
  (s.putTile x band col (s.tileWords x (s.tileXs x band col))).inc R.LANTERN_TILES_DONE

/-- A tile that no fault has met is written, its clipped pixels counted, and kept. -/
theorem tileDone_clean {s : State} {x : Stripe} (hpass : x.pass = 0) (band col lane : Nat) (mapBad : Bool) :
    s.tileDone x band col lane false 0 false mapBad =
      ((s.tileStored x band col).countClips x (s.tileXs x band col)).tileKept x band col := by
  unfold State.tileDone
  rw [if_neg (by simp)]
  dsimp only
  rw [if_pos hpass, if_pos hpass]
  rfl

theorem only_tileStored (s : State) (x : Stripe) (band col : Nat) : Only 3221225473 s (s.tileStored x band col) :=
  only_inc _ rfl (only_putTile _ _ _ _ rfl (only_refl _ s))

theorem rd_tileStored (s : State) (x : Stripe) (band col : Nat) {a : RegAddr} (h : R.LANTERN_TILES_DONE ≠ a) :
    (s.tileStored x band col).rd a = s.rd a := rd_setFld_other (s := s.putTile x band col _) 31 0 _ h

/-- From s to t a tile of stripe x has been done, n of its pixels clipped: it stands in the field with its check value, it and its
clipped pixels are counted, and its stripe has it (R122 to R125, R156). -/
structure TileWritten (s t : State) (x : Stripe) (band col n : Nat) : Prop where
  only : Only 78398662316491022353 s t
  field : t.field = kput s.field (fieldKey (x.ring.getD 0) band col) (s.tileWords x (s.tileXs x band col))
  tileCrcs : t.tileCrcs = kput s.tileCrcs (fieldKey (x.ring.getD 0) band col) (tileCrc x.id band col (s.tileWords x (s.tileXs x band col)))
  count : t.rd R.LANTERN_TILES_DONE = min (2 ^ 32 - 1) (s.rd R.LANTERN_TILES_DONE + 1)
  quiet : n = 0 → Only 3225419777 s t ∧ RegsOff [R.LANTERN_TILES_DONE, statusOf 9] s t
  clips : n ≠ 0 → t.rd R.PENUMBRA_DOSE_CLIPS = min (2 ^ 32 - 1) (s.rd R.PENUMBRA_DOSE_CLIPS + n)
  stripe : ∃ y ∈ t.stripes, y.ord = x.ord ∧ y.clips = (if n = 0 then x.clips else min (2 ^ 32 - 1) (x.clips + n)) ∧
    if s.width / 64 ≤ x.tiles.length + 1 then y.bandsDone = x.bandsDone + 1 ∧ y.tiles = []
    else y.bandsDone = x.bandsDone ∧ y.tiles = (band, col) :: x.tiles

/-- A tile stored, then its clipped pixels counted, then kept, is written. -/
theorem tileWritten_tileKept {s v : State} {x : Stripe} {band col n : Nat} (hx : x ∈ s.stripes)
    (hcounted : ClipsCounted (s.tileStored x band col) v x n) : TileWritten s (v.tileKept x band col) x band col n := by
  have hstored := only_tileStored s x band col
  have hdone : (s.tileStored x band col).rd R.LANTERN_TILES_DONE = min (2 ^ 32 - 1) (s.rd R.LANTERN_TILES_DONE + 1) :=
    rd_bump_whole (s.putTile x band col _) R.LANTERN_TILES_DONE 1
  have hrd := fun a => rd_tileStored s x band col (a := a)
  have hkept := only_tileKept v x band col
  have hregs := regsOff_tileKept v x band col
  obtain ⟨y, hy, hord, htiles, hbands, hclips⟩ := hcounted.stripe (hstored.stripes rfl ▸ hx)
  have hwidth : v.width = s.width := width_congr ((hcounted.regs _ (by decide)).trans (hrd _ (by decide)))
  obtain ⟨z, hz, hzord, hzclips, hzband⟩ := tileKept_stripe hy hord band col
  rw [hwidth, htiles, hbands] at hzband
  refine ⟨?_, ?_, ?_, ?_, fun hn => ?_, fun hn => ?_, z, hz, hzord, hzclips.trans hclips, hzband⟩
  · exact only_trans (only_mono rfl hstored) (only_trans (only_mono rfl hcounted.only) (only_mono rfl hkept))
  · rw [hkept.field rfl, hcounted.only.field rfl]
    rfl
  · rw [hkept.tileCrcs rfl, hcounted.only.tileCrcs rfl]
    rfl
  · rw [hregs _ (by decide), hcounted.regs _ (by decide), hdone]
  · rw [hcounted.same hn] at hkept hregs ⊢
    refine ⟨only_trans (only_mono rfl hstored) (only_mono rfl hkept), fun a ha => ?_⟩
    simp only [List.mem_cons, List.not_mem_nil, or_false, not_or] at ha
    rw [hregs a (by simpa using ha.2), hrd a (Ne.symm ha.1)]
  · rw [hregs _ (by decide), hcounted.count hn, hrd _ (by decide)]

theorem tileWritten_tileDone {s : State} {x : Stripe} (hx : x ∈ s.stripes) (hpass : x.pass = 0) (hroom : 256 < s.logFree)
    (band col lane : Nat) (mapBad : Bool) : TileWritten s (s.tileDone x band col lane false 0 false mapBad) x band col
      ((s.tileXs x band col).filter (fun p => p.2.2 > 1023)).length := by
  rw [tileDone_clean hpass]
  exact tileWritten_tileKept hx (clipsCounted_countClips (s := s.tileStored x band col) hroom x (s.tileXs x band col))

/-! ### A residue mismatch -/

/-- A record takes at most one place of the error log. -/
theorem logFree_recordRaw (s : State) (a : RecArg) : s.logFree ≤ (s.recordRaw a).logFree + 1 := by
  have hwrite : ∀ (u : State) (b : RecArg), u.log.used = s.log.used → s.logFree ≤ (u.writeRec b).logFree + 1 := fun u b hu => by
    have hused : (u.writeRec b).log.used = s.log.used + 1 := by rw [log_writeRec, hu]
    unfold State.logFree
    omega
  have hcount : (s.countOnly a.page).log = s.log := (only_countOnly (mm := 4611686018427387905) _ rfl (only_refl _ s)).log rfl
  have hcounted : s.logFree ≤ (s.countOnly a.page).logFree + 1 := by
    unfold State.logFree
    rw [hcount]
    omega
  unfold State.recordRaw
  dsimp only
  split
  · split
    · exact hcounted
    · have hlow := hwrite { s.countOnly a.page with log := { (s.countOnly a.page).log with lowSent := true } }
        { code := Code.SYS_ERRLOG_LOW, cls := 0 } (by rw [hcount])
      unfold State.logFree at hlow ⊢
      rw [(only_raiseIrq (mm := 73786976294838206465) 0 1 rfl (only_refl _ _)).log rfl]
      exact hlow
  · split
    · exact hcounted
    · exact hwrite s a rfl

/-- A record that leaves more than 64 places of the error log contains nothing (R459). -/
theorem record_spare {s : State} (h : 65 < s.logFree) (a : RecArg) : s.record a = s.recordRaw a := by
  have hfree := logFree_recordRaw s a
  unfold State.record
  dsimp only
  rw [if_neg (by omega)]

/-- The registers that a record of the keep can change: those of the audit log (R576, R582). -/
def keepRegs : List RegAddr := R.AUDIT_WAITING :: auditRegs 0

theorem regsOff_commit_keep {s t : State} (kind : Nat) (o : Origin) {addr : RegAddr} (haddr : pageOf addr = 0) (old new : Nat)
    (detail : List Nat) (h : RegsOff keepRegs s t) : RegsOff keepRegs s (t.commit kind o addr old new detail) := by
  by_cases hfree : t.auditFree = 0
  · unfold State.commit
    rw [if_pos hfree]
    exact regsOff_setFld _ _ _ _ (by simp [keepRegs]) (regsOff_regs rfl h)
  · have hcommit := regsOff_commit (s := t) kind o addr old new detail (Nat.pos_of_ne_zero hfree)
    have hregs : auditRegs addr = auditRegs 0 := by
      unfold auditRegs
      rw [haddr]
      rfl
    rw [hregs] at hcommit
    exact fun b hb => (hcommit b (fun hm => hb (List.mem_cons_of_mem _ hm))).trans (h b hb)

theorem regsOff_storeKeep (s : State) (o : Origin) (typ inst : Nat) (payload : List Byte) (bad : Nat) :
    RegsOff keepRegs s (s.storeKeep o typ inst payload bad) := by
  have hend : ∀ (u : State) (old : Option KeepRec), RegsOff keepRegs s u →
      RegsOff keepRegs s ((u.keepWaits typ inst old).encNow typ inst payload) := fun u old hu =>
    regsOff_regs ((only_encNow (mm := 63054792829698048) typ inst payload rfl (only_keepWaits typ inst old rfl (only_refl _ u))).regs rfl) hu
  have hcommit : ∀ (r : List KeepRec) (d : List Nat), RegsOff keepRegs s (({ s with keep := r } : State).commit 0x0050 o 0 0 0 d) :=
    fun r d => regsOff_commit_keep _ _ rfl _ _ _ (regsOff_regs rfl (regsOff_refl _ s))
  unfold State.storeKeep
  dsimp only
  refine hend _ _ ?_
  split
  · refine regsOff_commit_keep _ _ rfl _ _ _ (regsOff_commit_keep _ _ rfl _ _ _ ?_)
    exact regsOff_regs ((only_listKeep (mm := 562949953421312) rfl (only_refl _ _)).regs rfl) (hcommit _ _)
  · exact hcommit _ _

theorem regsOff_saveAgeing (s : State) : RegsOff keepRegs s s.saveAgeing := by
  unfold State.saveAgeing State.putKeep
  split
  · exact regsOff_regs rfl (regsOff_refl _ s)
  · exact regsOff_storeKeep s _ _ _ _ _

/-- From s to t raster lanes have been marked or retired: no stripe and no tile has changed, nor the count of mismatches. -/
structure LaneNoted (s t : State) : Prop where
  only : Only 78822568026238361649 s t
  count : t.rd R.LANTERN_RESIDUE_ERRORS = s.rd R.LANTERN_RESIDUE_ERRORS

theorem LaneNoted.trans {s t u : State} (a : LaneNoted s t) (b : LaneNoted t u) : LaneNoted s u :=
  ⟨only_trans a.only b.only, b.count.trans a.count⟩

theorem laneNoted_age (s : State) (v : Age) : LaneNoted s { s with age := v } := ⟨only_put288230376151711744 rfl (only_refl _ s), rfl⟩

theorem laneNoted_record {s : State} (h : 65 < s.logFree) (a : RecArg) : LaneNoted s (s.record a) := by
  rw [record_spare h]
  exact ⟨only_recordRaw a rfl (only_refl _ s), rd_recordRaw_far s a (by decide) (by decide)⟩

/-- The ageing history written, then a record. -/
theorem laneNoted_saveAgeing {s w : State} (h : LaneNoted s w) (hfree : 65 < w.logFree) (a : RecArg) : LaneNoted s (w.saveAgeing.record a) := by
  have hsave : Only 135675336821047329 w w.saveAgeing := only_saveAgeing rfl (only_refl _ w)
  have hnoted : LaneNoted w w.saveAgeing := ⟨only_mono rfl hsave, regsOff_saveAgeing w _ (by decide)⟩
  refine (h.trans hnoted).trans (laneNoted_record ?_ a)
  unfold State.logFree
  rw [hsave.log rfl]
  exact hfree

theorem laneNoted_retireRaster {s : State} (h : 65 < s.logFree) (l : Nat) : LaneNoted s (s.retireRaster l) := by
  have hmask : ∀ v, LaneNoted s (s.wr64 R.LANTERN_LANE_MASK_L v) := fun v =>
    ⟨only_wr64 _ _ rfl (only_refl _ s), (rd_wr_other _ (by decide)).trans (rd_wr_other _ (by decide))⟩
  exact laneNoted_saveAgeing ((hmask _).trans (laneNoted_age _ _)) h _

/-- A residue mismatch is counted, and its lane noted (R134, R135). -/
theorem laneNoted_rasterResidue {s : State} (hroom : 256 < s.logFree) (l : Nat) :
    LaneNoted (s.inc R.LANTERN_RESIDUE_ERRORS) (s.rasterResidue l) := by
  have hfree := logFree_recordRaw (s.inc R.LANTERN_RESIDUE_ERRORS) { code := Code.LANTERN_RESIDUE, cls := 1, lk := 8, l0 := l }
  rw [← record_room _ (s := s.inc R.LANTERN_RESIDUE_ERRORS) hroom] at hfree
  have hmark := laneNoted_record (s := s.inc R.LANTERN_RESIDUE_ERRORS) (Nat.lt_trans (by decide) hroom)
    { code := Code.LANTERN_RESIDUE, cls := 1, lk := 8, l0 := l }
  unfold State.rasterResidue
  dsimp only
  generalize (s.inc R.LANTERN_RESIDUE_ERRORS).record _ = u at hfree hmark ⊢
  have hspare : 65 < u.logFree := by
    have hsame : (s.inc R.LANTERN_RESIDUE_ERRORS).logFree = s.logFree := rfl
    omega
  have hretire := fun v => laneNoted_retireRaster (s := { u with age := v }) hspare l
  split
  · exact (hmark.trans (laneNoted_age u _)).trans (hretire _)
  · exact hmark.trans (laneNoted_age u _)

/-- A tile that a residue mismatch spoils is not written, and its lane does not run it again (R134). -/
theorem tileDone_residue {s : State} {x : Stripe} (hx : x ∈ s.stripes) (hpass : x.pass = 0) (hroom : 256 < s.logFree)
    (band col lane : Nat) (mapBad : Bool) : ∃ t, s.tileDone x band col lane true 0 false mapBad = t ∧
      t.field = s.field ∧ t.tileCrcs = s.tileCrcs ∧
      t.rd R.LANTERN_RESIDUE_ERRORS = min (2 ^ 32 - 1) (s.rd R.LANTERN_RESIDUE_ERRORS + 1) ∧
      ∃ y ∈ t.stripes, y.ord = x.ord ∧ y.tiles = x.tiles ∧ y.bandsDone = x.bandsDone ∧ y.rasterBad = (band, col, lane) :: x.rasterBad := by
  obtain ⟨honly, hcount⟩ := laneNoted_rasterResidue hroom lane
  refine ⟨_, if_pos ⟨hpass, rfl⟩, honly.field rfl, honly.tileCrcs rfl, ?_, _, mem_modStripe _ ?_ rfl, rfl, rfl, rfl, rfl⟩
  · exact hcount.trans (rd_bump_whole s R.LANTERN_RESIDUE_ERRORS 1)
  · rw [honly.stripes rfl]
    exact hx

/-! ### A tile formed again -/

/-- The requests of a stripe with those for a tile served (R136). -/
def Stripe.served (band col : Nat) (y : Stripe) : Stripe := { y with requests := y.requests.filter (fun q => ¬ (q.1 = band ∧ q.2.1 = col)) }

/-- A tile on which no two runs agreed (R132). -/
def Stripe.lost (band col cause : Nat) (y : Stripe) : Stripe := { y with lostTiles := (band, col, cause) :: y.lostTiles }

/-- A request served and its runs counted (R132, R133). -/
def State.runsCounted (s : State) (x : Stripe) (band col : Nat) (runs : Runs) : State :=
  let t := (s.inc R.LANTERN_RERASTER_REQ).modStripe x (Stripe.served band col)
  if runs = Runs.third ∨ runs = Runs.differ then t.inc R.LANTERN_RERASTER_DISAGREE else t

theorem reraster_clean (s : State) (x : Stripe) (band col cause : Nat) (runs : Runs) (mapBad : Bool) :
    s.reraster x (band, col, cause) runs [] false mapBad =
      (if runs = Runs.agree ∨ runs = Runs.third then (s.runsCounted x band col runs).putTile x band col
          ((s.runsCounted x band col runs).tileWords x ((s.runsCounted x band col runs).tileXs x band col))
        else (s.runsCounted x band col runs).modStripe x (Stripe.lost band col cause)).lanternRest := by
  unfold State.reraster
  dsimp only
  have hsame : (if x.pass = 0 then ([].foldl State.rasterResidue s).remakeFactors x false mapBad band else s) = s := by
    split <;> rfl
  rw [hsame]
  rfl

/-- What the count of a request's runs leaves. -/
structure RunsServed (s t : State) (x : Stripe) (band col : Nat) (runs : Runs) : Prop where
  only : Only 4194305 s t
  regs : RegsOff [R.LANTERN_RERASTER_REQ, R.LANTERN_RERASTER_DISAGREE] s t
  stripes : t.stripes = s.stripes.map (fun y => if y.ord = x.ord then y.served band col else y)
  requests : t.rd R.LANTERN_RERASTER_REQ = min (2 ^ 32 - 1) (s.rd R.LANTERN_RERASTER_REQ + 1)
  disagree : if runs = .third ∨ runs = .differ then
      t.rd R.LANTERN_RERASTER_DISAGREE = min (2 ^ 32 - 1) (s.rd R.LANTERN_RERASTER_DISAGREE + 1)
    else t.rd R.LANTERN_RERASTER_DISAGREE = s.rd R.LANTERN_RERASTER_DISAGREE

theorem runsServed_runsCounted (s : State) (x : Stripe) (band col : Nat) (runs : Runs) :
    RunsServed s (s.runsCounted x band col runs) x band col runs := by
  have hreq := rd_bump_whole s R.LANTERN_RERASTER_REQ 1
  have hother : (s.inc R.LANTERN_RERASTER_REQ).rd R.LANTERN_RERASTER_DISAGREE = s.rd R.LANTERN_RERASTER_DISAGREE :=
    rd_setFld_other _ _ _ (by decide)
  have hasked : Only 4194305 s ((s.inc R.LANTERN_RERASTER_REQ).modStripe x (Stripe.served band col)) :=
    only_modStripe _ _ rfl (only_inc _ rfl (only_refl _ s))
  have hregs : RegsOff [R.LANTERN_RERASTER_REQ, R.LANTERN_RERASTER_DISAGREE] s
      ((s.inc R.LANTERN_RERASTER_REQ).modStripe x (Stripe.served band col)) :=
    regsOff_regs rfl (regsOff_setFld (s := s) (t := s) R.LANTERN_RERASTER_REQ 31 0 _ (by decide) (regsOff_refl _ s))
  have hmap : ((s.inc R.LANTERN_RERASTER_REQ).modStripe x (Stripe.served band col)).stripes =
      s.stripes.map (fun y => if y.ord = x.ord then y.served band col else y) := stripes_modStripe _ _ _
  unfold State.runsCounted
  dsimp only
  by_cases hruns : runs = .third ∨ runs = .differ
  · rw [if_pos hruns]
    refine ⟨only_inc _ rfl hasked, regsOff_setFld _ _ _ _ (by decide) hregs, hmap, ?_, ?_⟩
    · exact (rd_setFld_other _ _ _ (by decide)).trans hreq
    · rw [if_pos hruns, State.inc, rd_bump_whole]
      exact congrArg (fun v => min (2 ^ 32 - 1) (v + 1)) hother
  · rw [if_neg hruns]
    refine ⟨hasked, hregs, hmap, hreq, ?_⟩
    rw [if_neg hruns]
    exact hother

/-- What of a stripe its geometry is read by (R46). -/
def Stripe.source (y : Stripe) : Nat × Nat × Nat × List Nat := (y.slot, y.id, y.pass, y.blocks)

theorem closedSet_map {s t : State} {g : Stripe → Stripe} (hmap : t.stripes = s.stripes.map g) (hg : ∀ y, (g y).source = y.source)
    (slot id : Nat) : t.closedSet slot id = s.closedSet slot id := by
  simp only [Stripe.source, Prod.mk.injEq] at hg
  have hpred : (fun y : Stripe => decide (y.slot = slot ∧ y.id = id ∧ y.pass = 0)) ∘ g =
      fun y => decide (y.slot = slot ∧ y.id = id ∧ y.pass = 0) := by
    funext y
    obtain ⟨hslot, hid, hpass, -⟩ := hg y
    rw [Function.comp_apply, hslot, hid, hpass]
  unfold State.closedSet
  rw [hmap, List.find?_map, hpred, Option.map_map]
  exact congrArg (fun f => Option.map f _) (funext fun y => (hg y).2.2.2)

theorem walk_congr {s t : State} (h : Only 4194305 s t) (hset : ∀ slot id, t.closedSet slot id = s.closedSet slot id) (slot id : Nat) :
    t.walk slot id = s.walk slot id := by
  have hblocks : t.blocksOf slot id = s.blocksOf slot id := by
    unfold State.blocksOf
    rw [hset, h.frames rfl]
  unfold State.walk State.walkOpen
  rw [hblocks, job_of_only h rfl rfl]

/-- The pixels of a tile hang on the jobs, the blocks and the width alone. -/
theorem tileXs_congr {s t : State} (h : Only 4194305 s t) (hset : ∀ slot id, t.closedSet slot id = s.closedSet slot id)
    (hmode : t.rd R.SHEPHERD_MODE = s.rd R.SHEPHERD_MODE) (x : Stripe) (band col : Nat) : t.tileXs x band col = s.tileXs x band col := by
  have hwidth := width_congr hmode
  unfold State.tileXs State.tileShapes
  rw [hwidth, walk_congr h hset, h.factor rfl, job_of_only h rfl rfl]

theorem tileWords_congr {s t : State} (h : Only 4194305 s t) (x : Stripe) (xs : List (Nat × Nat × Nat)) :
    t.tileWords x xs = s.tileWords x xs := by
  unfold State.tileWords State.doseIn
  rw [job_of_only h rfl rfl]

theorem exec_rerasterRequest_served {s : State} {pass id band col : Nat} {runs : Runs} {mapBad : Bool} {x : Stripe} {r : Nat × Nat × Nat}
    (hx : s.tileStripe pass id = some x) (hr : x.request? band col = some r) (hgoes : x.aborting = false) (hcool : s.anyShutdown = false)
    (hready : s.rerasterReady x band col [] false mapBad = true) (herr : s.tileError x = none) :
    exec (.rerasterRequest pass id band col runs [] false mapBad []) s = .next (s.reraster x (band, col, r.2.2) runs [] false mapBad) := by
  have hfound := List.find?_some hr
  simp only [Bool.decide_and, Bool.and_eq_true, decide_eq_true_eq] at hfound
  have hnamed : r = (band, col, r.2.2) := by rw [← hfound.1, ← hfound.2]
  show execRerasterRequest pass id band col runs [] false mapBad [] s = _
  unfold execRerasterRequest
  rw [hx]
  dsimp only
  rw [hr]
  dsimp only
  rw [if_neg (by simp [hgoes, hcool, hready]), herr]
  dsimp only
  rw [if_neg (by simp [spoils]), ← hnamed]
  rfl

/-- What the runs of a tile come to: it is written where two of them agree, and named lost where none do (R132, R136). -/
def RerasterResult (s t : State) (x : Stripe) (band col cause : Nat) (runs : Runs) : Prop :=
  if runs = .agree ∨ runs = .third then
    t.field = kput s.field (fieldKey (x.ring.getD 0) band col) (s.tileWords x (s.tileXs x band col)) ∧
    t.tileCrcs = kput s.tileCrcs (fieldKey (x.ring.getD 0) band col) (tileCrc x.id band col (s.tileWords x (s.tileXs x band col))) ∧
    t.stripes = s.stripes.map (fun y => if y.ord = x.ord then y.served band col else y)
  else t.field = s.field ∧ t.tileCrcs = s.tileCrcs ∧
    t.stripes = s.stripes.map (fun y => if y.ord = x.ord then (y.served band col).lost band col cause else y)

/-- What a tile formed again leaves (R132, R133, R136). -/
structure Rerastered (s t : State) (x : Stripe) (band col cause : Nat) (runs : Runs) : Prop where
  only : Only 3225419777 s t
  regs : RegsOff [R.LANTERN_RERASTER_REQ, R.LANTERN_RERASTER_DISAGREE, statusOf 9] s t
  requests : t.rd R.LANTERN_RERASTER_REQ = min (2 ^ 32 - 1) (s.rd R.LANTERN_RERASTER_REQ + 1)
  disagree : if runs = .third ∨ runs = .differ then
      t.rd R.LANTERN_RERASTER_DISAGREE = min (2 ^ 32 - 1) (s.rd R.LANTERN_RERASTER_DISAGREE + 1)
    else t.rd R.LANTERN_RERASTER_DISAGREE = s.rd R.LANTERN_RERASTER_DISAGREE
  result : RerasterResult s t x band col cause runs

/-- The last of a tile formed again: the lanes may rest. -/
theorem RunsServed.rerastered {s u v : State} {x : Stripe} {band col cause : Nat} {runs : Runs} (hu : RunsServed s u x band col runs)
    (hregs : v.regs = u.regs) (honly : Only 3225419776 u v) (hresult : RerasterResult s v x band col cause runs) :
    Rerastered s v.lanternRest x band col cause runs := by
  have hrest : RegsOff [statusOf 9] u v.lanternRest := regsOff_lanternRest (List.mem_singleton.mpr rfl) (regsOff_regs hregs (regsOff_refl _ u))
  have hsame : Only 1 v v.lanternRest := only_lanternRest rfl (only_refl _ v)
  refine ⟨?_, fun a ha => ?_, ?_, ?_, ?_⟩
  · exact only_trans (only_mono rfl hu.only) (only_trans (only_mono rfl honly) (only_mono rfl hsame))
  · simp only [List.mem_cons, List.not_mem_nil, or_false, not_or] at ha
    rw [hrest a (by simpa using ha.2.2), hu.regs a (by simpa using ⟨ha.1, ha.2.1⟩)]
  · rw [hrest _ (by decide), hu.requests]
  · rw [hrest _ (by decide)]
    exact hu.disagree
  · unfold RerasterResult
    rw [hsame.field rfl, hsame.tileCrcs rfl, hsame.stripes rfl]
    exact hresult

theorem rerastered_reraster (s : State) (x : Stripe) (band col cause : Nat) (runs : Runs) (mapBad : Bool) :
    Rerastered s (s.reraster x (band, col, cause) runs [] false mapBad) x band col cause runs := by
  have hu := runsServed_runsCounted s x band col runs
  rw [reraster_clean]
  generalize s.runsCounted x band col runs = u at hu
  have hset : ∀ slot id, u.closedSet slot id = s.closedSet slot id :=
    closedSet_map hu.stripes (fun y => by split <;> rfl)
  have hwords : u.tileWords x (u.tileXs x band col) = s.tileWords x (s.tileXs x band col) := by
    rw [tileXs_congr hu.only hset (hu.regs _ (by decide)), tileWords_congr hu.only]
  rw [hwords]
  by_cases hfound : runs = .agree ∨ runs = .third
  · rw [if_pos hfound]
    refine hu.rerastered rfl (only_putTile _ _ _ _ rfl (only_refl _ u)) ?_
    unfold RerasterResult
    rw [if_pos hfound, ← hu.only.field rfl, ← hu.only.tileCrcs rfl]
    exact ⟨rfl, rfl, hu.stripes⟩
  · rw [if_neg hfound]
    refine hu.rerastered rfl (only_modStripe _ _ rfl (only_refl _ u)) ?_
    unfold RerasterResult
    rw [if_neg hfound, stripes_modStripe, hu.stripes, List.map_map]
    refine ⟨hu.only.field rfl, hu.only.tileCrcs rfl, List.map_congr_left (fun y _ => ?_)⟩
    by_cases hy : y.ord = x.ord
    · simp [hy, Stripe.served]
    · simp [hy]

/-- Settles O26: waking is one equation, a tile done is `TileWritten` or spoilt by its lane, a tile formed again is `Rerastered`. -/
theorem fieldFills : Obligations.FieldFills := by
  unfold Obligations.FieldFills
  refine ⟨fun s hon hcool hwork => ?_, fun id band col lane mapBad x s hx hready hlane herr hroom => ?_,
    fun pass id band col runs mapBad x r s hx hr hgoes hcool hready herr => ?_⟩
  · have hexec := exec_lanternWake s
    rw [lanternWake_wakes hon hcool hwork] at hexec
    obtain ⟨hreq, hrun, hawake⟩ := woken_shown s
    exact ⟨_, hexec, woken_eq (only_setFld _ _ _ _ rfl (only_clkOn _ rfl (only_refl _ s))), hreq, hrun, hawake, regsOff_woken s⟩
  · obtain ⟨hmem, hpass⟩ := tileStripe_some hx
    have hexec := exec_tileDone_ready hx hready hlane herr
    have hwritten := tileWritten_tileDone hmem hpass hroom band col lane mapBad
    obtain ⟨t, ht, hspoilt⟩ := tileDone_residue hmem hpass hroom band col lane mapBad
    refine ⟨⟨_, hexec false, hwritten.only.eq_takes, hwritten.field, hwritten.tileCrcs, hwritten.count, fun hn => ?_, hwritten.clips,
      hwritten.stripe⟩, t, (hexec true).trans (congrArg _ ht), hspoilt⟩
    obtain ⟨honly, hregs⟩ := hwritten.quiet hn
    exact ⟨honly.eq_takes, hregs⟩
  · have hexec := exec_rerasterRequest_served (runs := runs) hx hr hgoes hcool hready herr
    have hagain := rerastered_reraster s x band col r.2.2 runs mapBad
    exact ⟨_, hexec, hagain.only.eq_takes, hagain.regs, hagain.requests, hagain.disagree, hagain.result⟩

end Sys2Proof.Machine
end

section
/-! SUPPORT. The density pre-pass: its start, the density map, and the factor map with its check values (spec/05_penumbra_dose.md). -/

namespace Sys2Proof.Machine

/-! ### A bit that the hardware clears -/

theorem testBit_withField_zero (v b : Nat) : (withField v b b 0).testBit b = false := by
  have hclear : withField v b b 0 = v - (v.testBit b).toNat * 2 ^ b := by
    unfold withField
    rw [fieldOf_bit, Nat.zero_mod, Nat.zero_mul, Nat.add_zero]
  rw [hclear]
  cases h : v.testBit b with
  | false => simp [h]
  | true =>
    obtain ⟨w, rfl⟩ := Nat.exists_eq_add_of_le (Nat.ge_two_pow_of_testBit h)
    rw [Nat.testBit_two_pow_add_eq] at h
    simpa using h

theorem fld_setFld_bit_zero (s : State) (a : RegAddr) (b : Nat) : (s.setFld a b b 0).fld a b b = 0 := by
  unfold State.fld State.setFld
  rw [fieldOf_bit, rd_wr, if_pos rfl, Nat.testBit_mod_two_pow, testBit_withField_zero, Bool.and_false]
  rfl

/-! ### The start -/

/-- The pre-pass of a stripe runs, and shows it (R158). -/
def State.prepassStarted (s : State) (x : Stripe) : State :=
  (s.modStripe x (fun y => { y with prepass := 2 })).setFld (statusOf 10) 16 16 1

/-- With the first block of each neighbour cached and on the cell grid the pre-pass that is next starts (R145, R158, R166). -/
theorem exec_prepassStart_starts {s : State} {x : Stripe} (hx : s.prepassNext = some x) (hcool : s.anyShutdown = false)
    (hon : s.enabled 10 = true) (hnone : s.neighbourError x = none)
    (hfirst : ∀ n ∈ (s.job x.slot).neighbours x.id, ∃ r, s.firstRec x.slot n = some r ∧ onGrid x.srec r = true) :
    exec .prepassStart s = .next (s.prepassStarted x) := by
  show execPrepassStart s = _
  unfold execPrepassStart
  rw [hx]
  dsimp only
  rw [if_neg (by simp [hcool, hon]), hnone]
  dsimp only
  refine (if_neg fun hmissing => ?_).trans (if_neg fun hoff => ?_)
  · obtain ⟨n, hn, hbad⟩ := List.any_eq_true.mp hmissing
    obtain ⟨r, hr, -⟩ := hfirst n hn
    simp [hr] at hbad
  · obtain ⟨n, hn, hbad⟩ := List.any_eq_true.mp hoff
    obtain ⟨r, hr, hgrid⟩ := hfirst n hn
    simp [hr, hgrid] at hbad

theorem only_prepassStarted (s : State) (x : Stripe) : Only 4194305 s (s.prepassStarted x) :=
  only_setFld _ _ _ _ rfl (only_modStripe _ _ rfl (only_refl _ s))

theorem regsOff_prepassStarted (s : State) (x : Stripe) : RegsOff [statusOf 10] s (s.prepassStarted x) :=
  regsOff_setFld _ _ _ _ (List.mem_singleton.mpr rfl) (regsOff_regs rfl (regsOff_refl _ s))

theorem stripes_prepassStarted (s : State) (x : Stripe) :
    (s.prepassStarted x).stripes = s.stripes.map (fun y => if y.ord = x.ord then { y with prepass := 2 } else y) :=
  ((only_setFld (mm := 1) _ _ _ _ rfl (only_refl _ _)).stripes rfl).trans (stripes_modStripe s x _)

/-! ### The end of a stage -/

/-- A stage of a stripe's pre-pass ends: the n cells that it has limited are counted in register a, and the pre-pass stands at p. -/
def State.stageEnds (s : State) (x : Stripe) (a : RegAddr) (n p : Nat) : State :=
  (s.bump a 31 0 n).modStripe x (fun y => { y with prepass := p })

theorem only_stageEnds (s : State) (x : Stripe) (a : RegAddr) (n p : Nat) : Only 4194305 s (s.stageEnds x a n p) :=
  only_modStripe _ _ rfl (only_bump _ _ _ _ rfl (only_refl _ s))

theorem regsOff_stageEnds {l : List RegAddr} {s : State} (x : Stripe) {a : RegAddr} (n p : Nat) (ha : a ∈ l) :
    RegsOff l s (s.stageEnds x a n p) :=
  regsOff_regs (t := s.bump a 31 0 n) rfl (regsOff_setFld _ _ _ _ ha (regsOff_refl _ s))

theorem stripes_stageEnds (s : State) (x : Stripe) (a : RegAddr) (n p : Nat) :
    (s.stageEnds x a n p).stripes = s.stripes.map (fun y => if y.ord = x.ord then { y with prepass := p } else y) :=
  stripes_modStripe (s.bump a 31 0 n) x _

theorem rd_stageEnds (s : State) (x : Stripe) (a : RegAddr) (n p : Nat) : (s.stageEnds x a n p).rd a = min (2 ^ 32 - 1) (s.rd a + n) :=
  rd_bump_whole s a n

/-! ### The density map -/

/-- The cells of a stripe's density map beyond the largest value that it holds (R143). -/
def State.densityOver (s : State) (x : Stripe) : Nat := ((s.densityMap x.slot x.srec).filter (fun k => k.2 > 65535)).length

/-- The limited density map in a stripe's map set, whose earlier bands are dropped (R143, R149). -/
def State.densityKept (s : State) (x : Stripe) : State :=
  { s.clearBands (x.mapSet.getD 0) with
    density := kput s.density (x.mapSet.getD 0) ((s.densityMap x.slot x.srec).map (fun k => (k.1, min 65535 k.2))) }

/-- The density tiles run without a residue mismatch. -/
theorem densityDone_clean (s : State) (x : Stripe) : s.densityDone x [] =
    ((s.densityKept x).stageEnds x R.PENUMBRA_DENSITY_SATS (s.densityOver x) 3).lanternRest := rfl

/-- The density tiles of the pre-pass that runs are done where every block that they need is cached and readable (R158, R159, R166). -/
theorem exec_prepassComplete_density {s : State} {lanes : List Nat} {x : Stripe} (hx : s.stripes.find? Stripe.prepassing = some x)
    (hstage : x.prepass ≠ 3) (hcool : s.anyShutdown = false) (hon : s.enabled 10 = true) (hready : s.densityReady lanes [] = true)
    (hnone : s.neighbourError x = none) (hown : s.tileError x = none)
    (hwalk : ∀ n ∈ (s.job x.slot).neighbours x.id, ∃ w, s.walk x.slot n = .ok w) (hread : s.mapReadable x = true) :
    exec (.prepassComplete lanes [] [] []) s = .next (s.densityDone x []) := by
  show execPrepassComplete lanes [] [] [] s = _
  unfold execPrepassComplete
  rw [hx]
  dsimp only
  rw [if_neg (by simp [hcool, hon]), if_neg hstage, if_neg (by simp [hready]), hnone, hown]
  dsimp only
  refine (if_pos ⟨List.all_eq_true.mpr fun n hn => ?_, hread⟩).trans (if_neg (by simp [spoils]))
  obtain ⟨w, hw⟩ := hwalk n hn
  rw [hw]

/-- What the density tiles of a pre-pass leave (R143, R149, R158). -/
structure DensityDone (s t : State) (x : Stripe) : Prop where
  only : Only 55838769153 s t
  density : t.density = kput s.density (x.mapSet.getD 0) ((s.densityMap x.slot x.srec).map (fun k => (k.1, min 65535 k.2)))
  mapBands : t.mapBands = s.mapBands.filter (fun b => b.1 / 2 ^ 20 ≠ x.mapSet.getD 0)
  stripes : t.stripes = s.stripes.map (fun y => if y.ord = x.ord then { y with prepass := 3 } else y)
  sats : t.rd R.PENUMBRA_DENSITY_SATS = min (2 ^ 32 - 1) (s.rd R.PENUMBRA_DENSITY_SATS + s.densityOver x)
  regs : RegsOff [statusOf 9, R.PENUMBRA_DENSITY_SATS] s t

theorem densityDone_leaves (s : State) (x : Stripe) : DensityDone s (s.densityDone x []) x := by
  have hkept : Only 55834574848 s (s.densityKept x) := only_put4294967296 rfl (only_clearBands _ rfl (only_refl _ s))
  have hsame : RegsOff [] s (s.densityKept x) := regsOff_regs (hkept.regs rfl) (regsOff_refl _ s)
  have hends := only_stageEnds (s.densityKept x) x R.PENUMBRA_DENSITY_SATS (s.densityOver x) 3
  have hregs := regsOff_stageEnds (s := s.densityKept x) x (l := [statusOf 9, R.PENUMBRA_DENSITY_SATS]) (s.densityOver x) 3
    (List.mem_cons_of_mem _ (List.mem_singleton.mpr rfl))
  have hstripes := stripes_stageEnds (s.densityKept x) x R.PENUMBRA_DENSITY_SATS (s.densityOver x) 3
  have hsats := rd_stageEnds (s.densityKept x) x R.PENUMBRA_DENSITY_SATS (s.densityOver x) 3
  rw [densityDone_clean]
  generalize (s.densityKept x).stageEnds x _ _ _ = u at hends hregs hstripes hsats ⊢
  have hrest : Only 1 u u.lanternRest := only_lanternRest rfl (only_refl _ u)
  have hlanes : RegsOff [statusOf 9] u u.lanternRest := regsOff_lanternRest (List.mem_singleton.mpr rfl) (regsOff_refl _ u)
  exact {
    only := only_trans (only_mono rfl hkept) (only_trans (only_mono rfl hends) (only_mono rfl hrest))
    density := (hrest.density rfl).trans (hends.density rfl)
    mapBands := (hrest.mapBands rfl).trans (hends.mapBands rfl)
    stripes := by rw [hrest.stripes rfl, hstripes, hkept.stripes rfl]
    sats := by rw [hlanes _ (by decide), hsats, hsame _ List.not_mem_nil]
    regs := fun a ha => by rw [regsOff_lanternRest List.mem_cons_self hregs a ha, hsame a List.not_mem_nil] }

/-! ### The factor map -/

/-- The check values with those of the factor bands l of a stripe's map set written (R148). -/
def State.factorCrcsOf (s : State) (x : Stripe) (l : List Nat) : KMap Nat :=
  l.foldl (fun m b => kput m (bandKey (x.mapSet.getD 0) b) (crcC (s.factorBytes (x.mapSet.getD 0) b (x.srec.rows / 16)))) s.factorCrcs

/-- A check value written changes no factor band, so those of several bands are each of the same factor map. -/
theorem foldl_putFactorCrc (x : Stripe) (l : List Nat) (s : State) :
    l.foldl (fun s b => s.putFactorCrc x b) s = { s with factorCrcs := s.factorCrcsOf x l } := by
  induction l generalizing s with
  | nil => rfl
  | cons b l ih =>
    rw [List.foldl_cons, ih]
    rfl

theorem bandKey_injective (set : Nat) : Function.Injective (bandKey set) := fun _ _ h => Nat.add_left_cancel h

theorem kget?_factorCrcsOf (s : State) (x : Stripe) {l : List Nat} {b : Nat} (hb : b ∈ l) :
    kget? (s.factorCrcsOf x l) (bandKey (x.mapSet.getD 0) b) = some (crcC (s.factorBytes (x.mapSet.getD 0) b (x.srec.rows / 16))) := by
  unfold State.factorCrcsOf
  rw [kget?_foldl_kput (bandKey_injective _), if_pos hb]

theorem factorBytes_congr {s t : State} (hfactor : t.factor = s.factor) (hmode : t.rd R.SHEPHERD_MODE = s.rd R.SHEPHERD_MODE)
    (set band rows : Nat) : t.factorBytes set band rows = s.factorBytes set band rows := by
  unfold State.factorBytes
  rw [hfactor, width_congr hmode]

/-- A stripe's factor map in its map set (R147, R148). -/
def State.factorKept (s : State) (x : Stripe) : State :=
  { s with factor := kput s.factor (x.mapSet.getD 0) (s.factorOf x.slot x.srec (kget (fun _ => []) s.density (x.mapSet.getD 0))) }

/-- The cells that the last pass over a stripe's factor map clips (R147). -/
def State.factorClipped (s : State) (x : Stripe) : Nat :=
  let p := Params.of ((s.job x.slot).tab 0x0A00)
  factorClips p.eta (s.job x.slot).terms (mapCols s.width) (x.srec.rows / 16) (kget (fun _ => []) s.density (x.mapSet.getD 0)) p.iter

/-- A stripe's factor map and the check value of each of its bands (R148). -/
def State.factorChecked (s : State) (x : Stripe) : State :=
  { s.factorKept x with factorCrcs := (s.factorKept x).factorCrcsOf x (List.range x.srec.bands) }

/-- The factor map computed without a residue mismatch. -/
theorem prepassDone_clean (s : State) (x : Stripe) : s.prepassDone x [] =
    ((s.factorChecked x).stageEnds x R.PENUMBRA_FACTOR_CLIPS (s.factorClipped x) 4).setFld (statusOf 10) 16 16 0 := by
  unfold State.prepassDone
  dsimp only
  rw [foldl_putFactorCrc]
  rfl

/-- The pre-pass whose map bands are stored ends with its factor map (R158). -/
theorem exec_prepassComplete_factors {s : State} {x : Stripe} (lanes bad : List Nat) (hx : s.stripes.find? Stripe.prepassing = some x)
    (hstage : x.prepass = 3) (hcool : s.anyShutdown = false) (hon : s.enabled 10 = true) (hstored : s.bandsStored x = true) :
    exec (.prepassComplete lanes bad [] []) s = .next (s.prepassDone x []) := by
  show execPrepassComplete lanes bad [] [] s = _
  unfold execPrepassComplete
  rw [hx]
  dsimp only
  rw [if_neg (by simp [hcool, hon]), if_pos hstage, if_neg (by simp [hstored]), if_neg (by simp [spoils])]
  rfl

/-- What the end of a pre-pass leaves (R147, R148, R158). -/
structure PrepassDone (s t : State) (x : Stripe) : Prop where
  only : Only 42953867265 s t
  factor : t.factor =
    kput s.factor (x.mapSet.getD 0) (s.factorOf x.slot x.srec (kget (fun _ => []) s.density (x.mapSet.getD 0)))
  crcs : ∀ b, b < x.srec.bands → kget? t.factorCrcs (bandKey (x.mapSet.getD 0) b) =
    some (crcC (t.factorBytes (x.mapSet.getD 0) b (x.srec.rows / 16)))
  stripes : t.stripes = s.stripes.map (fun y => if y.ord = x.ord then { y with prepass := 4 } else y)
  idle : t.fld (statusOf 10) 16 16 = 0
  regs : RegsOff [statusOf 10, R.PENUMBRA_FACTOR_CLIPS] s t

theorem prepassDone_leaves (s : State) (x : Stripe) : PrepassDone s (s.prepassDone x []) x := by
  have hchecked : Only 42949672960 s (s.factorChecked x) := only_put34359738368 rfl (only_put8589934592 rfl (only_refl _ s))
  have hsame : RegsOff [] s (s.factorChecked x) := regsOff_regs (hchecked.regs rfl) (regsOff_refl _ s)
  have hends := only_stageEnds (s.factorChecked x) x R.PENUMBRA_FACTOR_CLIPS (s.factorClipped x) 4
  have hregs := regsOff_stageEnds (s := s.factorChecked x) x (l := [statusOf 10, R.PENUMBRA_FACTOR_CLIPS]) (s.factorClipped x) 4
    (List.mem_cons_of_mem _ (List.mem_singleton.mpr rfl))
  have hstripes := stripes_stageEnds (s.factorChecked x) x R.PENUMBRA_FACTOR_CLIPS (s.factorClipped x) 4
  rw [prepassDone_clean]
  generalize (s.factorChecked x).stageEnds x _ _ _ = u at hends hregs hstripes ⊢
  have hidle : Only 1 u (u.setFld (statusOf 10) 16 16 0) := only_setFld _ _ _ _ rfl (only_refl _ u)
  have hoff : RegsOff [statusOf 10, R.PENUMBRA_FACTOR_CLIPS] s (u.setFld (statusOf 10) 16 16 0) := fun a ha => by
    rw [regsOff_setFld _ _ _ _ List.mem_cons_self hregs a ha, hsame a List.not_mem_nil]
  have hfactor : (u.setFld (statusOf 10) 16 16 0).factor = (s.factorKept x).factor := (hidle.factor rfl).trans (hends.factor rfl)
  exact {
    only := only_trans (only_mono rfl hchecked) (only_trans (only_mono rfl hends) (only_mono rfl hidle))
    factor := hfactor
    crcs := fun b hb => by
      rw [factorBytes_congr hfactor (hoff R.SHEPHERD_MODE (by decide)), hidle.factorCrcs rfl, hends.factorCrcs rfl]
      exact kget?_factorCrcsOf (s.factorKept x) x (List.mem_range.mpr hb)
    stripes := by rw [hidle.stripes rfl, hstripes, hchecked.stripes rfl]
    idle := fld_setFld_bit_zero u _ _
    regs := hoff }

/-- Settles O27: the start is one equation, the density tiles leave `DensityDone`, the factor map leaves `PrepassDone`. -/
theorem prepassRuns : Obligations.PrepassRuns := by
  unfold Obligations.PrepassRuns
  refine ⟨fun x s hx hcool hon hnone hfirst => ?_, fun lanes x s hx hstage hcool hon hready hnone hown hwalk hread => ?_,
    fun lanes bad x s hx hstage hcool hon hstored => ?_⟩
  · exact ⟨_, exec_prepassStart_starts hx hcool hon hnone hfirst, (only_prepassStarted s x).eq_takes, stripes_prepassStarted s x,
      fld_setFld_bit _ _ (by decide), regsOff_prepassStarted s x⟩
  · have hdone := densityDone_leaves s x
    exact ⟨_, exec_prepassComplete_density hx hstage hcool hon hready hnone hown hwalk hread, hdone.only.eq_takes, hdone.density,
      hdone.mapBands, hdone.stripes, hdone.sats, hdone.regs⟩
  · have hdone := prepassDone_leaves s x
    exact ⟨_, exec_prepassComplete_factors lanes bad hx hstage hcool hon hstored, hdone.only.eq_takes, hdone.factor, hdone.crcs,
      hdone.stripes, hdone.idle, hdone.regs⟩

end Sys2Proof.Machine
end

section
/-! SUPPORT. A containment settles, and its checkpoint verifies or fails (spec/06_flock_split_tally.md). -/

namespace Sys2Proof.Machine

/-! ### Small facts of registers, bell words and stripes -/

theorem fld_setFld_low4 (s : State) (a : RegAddr) (x : Nat) : (s.setFld a 3 0 x).fld a 3 0 = x % 16 := by
  have hlt : s.rd a < 2 ^ 32 := rd_lt a
  have hval : withField (s.rd a) 3 0 x = s.rd a - s.rd a % 16 + x % 16 := by simp [withField, fieldOf]
  show fieldOf ((s.wr a (withField (s.rd a) 3 0 x)).rd a) 3 0 = x % 16
  rw [hval, rd_wr, if_pos rfl]
  show (_ % 2 ^ 32) >>> 0 % 16 = x % 16
  rw [Nat.shiftRight_zero]
  omega

/-- A change of one stripe, seen by a search that it does not affect. -/
theorem find?_modStripe (s : State) (x : Stripe) {f : Stripe → Stripe} {p : Stripe → Bool} (hp : ∀ y, p (f y) = p y) :
    (s.modStripe x f).stripes.find? p = (s.stripes.find? p).map (fun y => if y.ord = x.ord then f y else y) := by
  rw [stripes_modStripe, List.find?_map]
  congr 2
  funext y
  show p (if y.ord = x.ord then f y else y) = p y
  split
  · exact hp y
  · rfl

theorem active_of_calm {s : State} (h : s.writing = none) : s.active = s.containedS := by
  unfold State.active State.containedS
  have hno := List.find?_eq_none.mp h
  generalize s.stripes = l at hno
  induction l with
  | nil => rfl
  | cons y l ih =>
    have hy : y.st ≠ .writing := by simpa using hno y List.mem_cons_self
    rw [List.find?_cons, List.find?_cons, ih (fun z hz => hno z (List.mem_cons_of_mem y hz))]
    simp only [hy, false_or]

/-! ### What settling and checking leave of a containment -/

/-- What the settling of a containment asks of a stripe. -/
structure Standing where
  ord : Nat
  st : StripeSt
  ckpt : Nat
  aborting : Bool
  aborts : List (Nat × Nat)
  nextCycle : Nat

def Stripe.standing (y : Stripe) : Standing := ⟨y.ord, y.st, y.ckpt, y.aborting, y.aborts, y.nextCycle⟩

/-- From s to t every stripe stands as it stood, rows may have left the hold and carries may have been applied, but none has come, and no
flash has been confirmed. -/
structure Settled (s t : State) : Prop where
  stripes : t.stripes.map Stripe.standing = s.stripes.map Stripe.standing
  hold : t.hold.map (·.ord) ⊆ s.hold.map (·.ord)
  carries : t.flink.carries ⊆ s.flink.carries
  unconfirmed : t.drover.unconfirmed = s.drover.unconfirmed

theorem settled_refl (s : State) : Settled s s := ⟨rfl, fun _ h => h, fun _ h => h, rfl⟩

theorem Settled.trans {s t u : State} (a : Settled s t) (b : Settled t u) : Settled s u :=
  ⟨b.stripes.trans a.stripes, fun _ h => a.hold (b.hold h), fun _ h => a.carries (b.carries h), b.unconfirmed.trans a.unconfirmed⟩

/-- The first stripe that a search over what it stands for finds stands as it stood. -/
theorem Settled.find? {s t : State} (h : Settled s t) (q : Standing → Bool) :
    (t.stripes.find? (fun y => q y.standing)).map Stripe.standing = (s.stripes.find? (fun y => q y.standing)).map Stripe.standing := by
  have hmap := congrArg (List.find? q) h.stripes
  rwa [List.find?_map, List.find?_map] at hmap

theorem Settled.byOrd {s t : State} (h : Settled s t) (ord : Nat) :
    (t.byOrd ord).map Stripe.standing = (s.byOrd ord).map Stripe.standing := h.find? (fun k => decide (k.ord = ord))

theorem Settled.containedS {s t : State} (h : Settled s t) : t.containedS.map Stripe.standing = s.containedS.map Stripe.standing :=
  h.find? (fun k => decide (k.st = .contained))

theorem Settled.writing {s t : State} (h : Settled s t) (hw : s.writing = none) : t.writing = none := by
  have hmap : t.writing.map Stripe.standing = s.writing.map Stripe.standing := h.find? (fun k => decide (k.st = .writing))
  rw [hw] at hmap
  exact Option.map_eq_none_iff.mp hmap

section Steps

variable {s0 s t : State}

theorem settled_ite {c : Prop} [Decidable c] {a b : State} (ha : Settled s0 a) (hb : Settled s0 b) : Settled s0 (if c then a else b) := by
  split
  · exact ha
  · exact hb

theorem settled_foldl {β : Type} (f : State → β → State) (hf : ∀ u b, Settled s0 u → Settled s0 (f u b)) (l : List β)
    (h : Settled s0 s) : Settled s0 (l.foldl f s) :=
  List.foldlRecOn (motive := Settled s0) l f h (fun u hu b _ => hf u b hu)

/-- A change of neither the stripes, the hold, the link nor Drover. -/
theorem settled_apart (ho : Only 295147897482767237119 s t) (h : Settled s0 s) : Settled s0 t :=
  h.trans ⟨by rw [ho.stripes rfl], by rw [ho.hold rfl]; exact fun _ h => h, by rw [ho.flink rfl]; exact fun _ h => h, by rw [ho.drover rfl]⟩

theorem settled_wr (a v : Nat) (h : Settled s0 s) : Settled s0 (s.wr a v) := settled_apart (only_wr _ _ rfl (only_refl _ s)) h

theorem settled_inc (a : RegAddr) (h : Settled s0 s) : Settled s0 (s.inc a) := settled_wr _ _ h

theorem settled_modStripe (x : Stripe) {f : Stripe → Stripe} (hf : ∀ y, (f y).standing = y.standing) (h : Settled s0 s) :
    Settled s0 (s.modStripe x f) := by
  refine h.trans ⟨?_, fun _ h => h, fun _ h => h, rfl⟩
  rw [stripes_modStripe, List.map_map]
  refine List.map_congr_left (fun y _ => ?_)
  show (if y.ord = x.ord then f y else y).standing = y.standing
  split
  · exact hf y
  · rfl

theorem settled_hold {l : List PixRow} (hl : l.map (·.ord) ⊆ s.hold.map (·.ord)) (h : Settled s0 s) : Settled s0 { s with hold := l } :=
  h.trans ⟨rfl, hl, fun _ h => h, rfl⟩

theorem ords_filter (p : PixRow → Bool) (l : List PixRow) : (l.filter p).map (·.ord) ⊆ l.map (·.ord) :=
  List.map_subset _ (List.filter_sublist).subset

theorem settled_putRow (w : PixRow) (h : Settled s0 s) : Settled s0 (s.putRow w) := by
  unfold State.putRow
  split
  · exact settled_apart (t := { s with tally := _ }) (only_put549755813888 rfl (only_refl _ s)) h
  · refine settled_hold ?_ h
    rw [List.map_map]
    refine fun o ho => ?_
    obtain ⟨v, hv, rfl⟩ := List.mem_map.mp ho
    refine List.mem_map.mpr ⟨v, hv, ?_⟩
    show v.ord = (if v.ord = w.ord ∧ v.row = w.row then w else v).ord
    split
    · next hvw => exact hvw.1
    · rfl

theorem settled_putWord (ord c r rem mark : Nat) (h : Settled s0 s) : Settled s0 (s.putWord ord c r rem mark) := by
  unfold State.putWord
  split
  · exact settled_putRow _ h
  · exact h

theorem settled_applyUnknown (a : Carry) (h : Settled s0 s) : Settled s0 (s.applyUnknown a) := by
  unfold State.applyUnknown
  dsimp only
  refine settled_ite h ?_
  split
  · exact settled_inc _ h
  · exact settled_ite h (settled_ite (settled_inc _ h) (settled_putWord _ _ _ _ _ h))

/-! With no stripe writing a record leaves a containment as it is. -/

theorem settled_recordRaw (a : RecArg) (h : Settled s0 s) : Settled s0 (s.recordRaw a) := settled_apart (only_recordRaw a rfl (only_refl _ s)) h

theorem settled_record (hw : s0.writing = none) (a : RecArg) (h : Settled s0 s) : Settled s0 (s.record a) := by
  rw [record_calm (h.writing hw) a]
  exact settled_recordRaw a h

theorem settled_tagFault (hw : s0.writing = none) (x : Stripe) (c r : Nat) (h : Settled s0 s) : Settled s0 (s.tagFault x c r) :=
  settled_record hw _ (settled_inc _ (settled_inc _ (settled_putWord _ _ _ _ _ h)))

theorem settled_applyCarry (hw : s0.writing = none) (a : Carry) (h : Settled s0 s) : Settled s0 (s.applyCarry a) := by
  have hput := fun ord c r rem mark => settled_inc R.SHEPHERD_CARRIES (settled_putWord ord c r rem mark h)
  unfold State.applyCarry
  dsimp only
  refine settled_ite h (settled_ite (settled_inc _ h) ?_)
  split
  · split
    · exact settled_inc _ (settled_tagFault hw _ _ _ h)
    · exact settled_ite (settled_inc _ h) (settled_ite (settled_inc _ (hput _ _ _ _ _)) (hput _ _ _ _ _))
  · exact h

/-- The carries of a kind are applied (R23, R231): they are gone, and of the others none has come. -/
theorem applyFor_settles (hw : s0.writing = none) (p : Carry → Bool) (h : Settled s0 s) :
    Settled s0 (s.applyFor p) ∧ ∀ a ∈ (s.applyFor p).flink.carries, p a = false := by
  let u : State := { s with flink := { s.flink with carries := s.flink.carries.filter (fun a => !p a) } }
  have hu : Settled s0 u := h.trans ⟨rfl, fun _ h => h, (List.filter_sublist).subset, rfl⟩
  have happly : Settled u (s.applyFor p) := settled_foldl _
    (fun v a hv => settled_ite (settled_applyUnknown a hv) (settled_applyCarry (hu.writing hw) a hv)) _ (settled_refl u)
  exact ⟨hu.trans happly, fun a ha => by simpa using (List.mem_filter.mp (happly.carries ha)).2⟩

/-! ### Share cycles undone (R189) -/

theorem settled_undoFrame (f : LinkFrame) (h : Settled s0 s) : Settled s0 (s.undoFrame f) := by
  unfold State.undoFrame
  refine settled_foldl _ (fun u e hu => ?_) _ h
  dsimp only
  split
  · exact hu
  · split
    · exact hu
    · split
      · exact settled_ite hu (settled_putWord _ _ _ _ _ hu)
      · exact hu

/-- The row that its cycle took in goes back to entry staging. -/
def State.rowOut (s : State) (x : Stripe) (f : Nat) : State :=
  match s.inTally x.ord f with
  | some w => { s with staging := kput s.staging (stageKey x.ord f) w.words, tally := kdel s.tally (s.slotOfRow f) }
  | none => s

/-- The row that its cycle let go comes back from the hold. -/
def State.rowBack (s : State) (x : Stripe) (f : Nat) : State :=
  if f < s.stay then s else match s.inHold x.ord (f - s.stay) with
    | some w => { s with hold := s.hold.filter (fun h => ¬ (h.ord = x.ord ∧ h.row = f - s.stay)),
                         tally := kput s.tally (s.slotOfRow (f - s.stay)) w }
    | none => s

/-- Its frames and carries are dropped. -/
def State.linkCleared (s : State) (x : Stripe) (f : Nat) : State :=
  { s with flink := { s.flink with frames := s.flink.frames.filter (fun g => ¬ (g.ord = x.ord ∧ g.flash = f)),
                                   carries := s.flink.carries.filter (fun a => !(a.ord = x.ord && a.flash = f)) } }

theorem undoCycle_eq (s : State) (x : Stripe) (f : Nat) : s.undoCycle x f =
    ((((s.flink.frames.filter (fun g => g.ord = x.ord ∧ g.flash = f)).foldl State.undoFrame s).rowOut x f).rowBack x f).linkCleared x f := rfl

theorem settled_rowOut (x : Stripe) (f : Nat) (h : Settled s0 s) : Settled s0 (s.rowOut x f) := by
  unfold State.rowOut
  split
  · exact h.trans ⟨rfl, fun _ h => h, fun _ h => h, rfl⟩
  · exact h

theorem settled_rowBack (x : Stripe) (f : Nat) (h : Settled s0 s) : Settled s0 (s.rowBack x f) := by
  unfold State.rowBack
  refine settled_ite h ?_
  split
  · exact h.trans ⟨rfl, ords_filter _ _, fun _ h => h, rfl⟩
  · exact h

/-- A share cycle undone: none of its carries waits any more. -/
theorem undoCycle_settles (x : Stripe) (f : Nat) (h : Settled s0 s) :
    Settled s0 (s.undoCycle x f) ∧ ∀ a ∈ (s.undoCycle x f).flink.carries, ¬ (a.ord = x.ord ∧ a.flash = f) := by
  rw [undoCycle_eq]
  generalize hu : State.rowBack _ x f = u
  have hback : Settled s0 u := by
    rw [← hu]
    exact settled_rowBack x f (settled_rowOut x f (settled_foldl _ (fun v g hv => settled_undoFrame g hv) _ h))
  exact ⟨hback.trans ⟨rfl, fun _ h => h, (List.filter_sublist).subset, rfl⟩,
    fun a ha hf => by simpa [hf.1, hf.2] using (List.mem_filter.mp ha).2⟩

theorem undoCycles_settle (x : Stripe) (l : List Nat) (h : Settled s0 s) :
    Settled s0 (l.foldl (fun s f => s.undoCycle x f) s) ∧
    ∀ a ∈ (l.foldl (fun s f => s.undoCycle x f) s).flink.carries, ¬ (a.ord = x.ord ∧ a.flash ∈ l) := by
  induction l generalizing s0 s with
  | nil => exact ⟨h, fun a _ hf => List.not_mem_nil hf.2⟩
  | cons f l ih =>
    obtain ⟨hfirst, hgone⟩ := undoCycle_settles x f h
    obtain ⟨hall, hrest⟩ := ih hfirst
    refine ⟨hall, fun a ha hf => ?_⟩
    rcases List.mem_cons.mp hf.2 with he | hl
    · exact hgone a ((ih (settled_refl (s.undoCycle x f))).1.carries ha) ⟨hf.1, he⟩
    · exact hrest a ha ⟨hf.1, hl⟩

/-! ### The containment that settles -/

/-- A stripe stands contained as k says, none writes, and the hold has rows of its own alone. -/
structure Contained (k : Standing) (s : State) : Prop where
  writing : s.writing = none
  containedS : s.containedS.map Stripe.standing = some k
  byOrd : (s.byOrd k.ord).map Stripe.standing = some k
  st : k.st = .contained
  hold : ∀ w ∈ s.hold, w.ord = k.ord

theorem Contained.settled {k : Standing} (h : Contained k s) (ht : Settled s t) : Contained k t where
  writing := ht.writing h.writing
  containedS := ht.containedS.trans h.containedS
  byOrd := (ht.byOrd k.ord).trans h.byOrd
  st := h.st
  hold := fun w hw => by
    obtain ⟨v, hv, he⟩ := List.mem_map.mp (ht.hold (List.mem_map_of_mem hw))
    exact he.symm.trans (h.hold v hv)

theorem Contained.standing {k : Standing} (h : Contained k s) {ord : Nat} (ho : ord = k.ord) {x : Stripe} (hx : s.byOrd ord = some x) :
    x.standing = k := by
  have hby := h.byOrd
  rw [← ho, hx] at hby
  exact Option.some.inj hby

/-- A containing cause joins a containment whose checkpoint has not verified: its record alone is written (R471). -/
theorem settled_contain {k : Standing} (h : Contained k s) (hk : k.ckpt ≠ 5) (a : RecArg) : Settled s (s.contain a) := by
  obtain ⟨y, hy, hstand⟩ := Option.map_eq_some_iff.mp h.containedS
  have hst : y.st = .contained := (congrArg Standing.st hstand).trans h.st
  have hck : y.ckpt ≠ 5 := fun e => hk ((congrArg Standing.ckpt hstand).symm.trans e)
  have hact : s.active = some y := (active_of_calm h.writing).trans hy
  unfold State.contain State.containAt
  rw [hact]
  dsimp only
  rw [if_pos hst, if_neg Bool.false_ne_true, if_neg hck]
  exact settled_recordRaw _ (settled_refl s)

/-- A stripe that stands contained and is not aborting does not end with its rows (R437 to R439). -/
theorem endIfDone_contained {k : Standing} (h : Contained k s) (hk : k.aborting = false) {ord : Nat} (ho : ord = k.ord) :
    s.endIfDone ord = s := by
  unfold State.endIfDone
  split
  · rfl
  · next x hx =>
    have hstand := h.standing ho hx
    have hst : x.st = .contained := (congrArg Standing.st hstand).trans h.st
    have hab : x.aborting = false := (congrArg Standing.aborting hstand).trans hk
    rw [if_neg (by simp [hab]), if_neg (by simp [hst])]

/-! ### The rows that wait are checked (R190 to R195) -/

theorem settled_listPixel (hw : s0.writing = none) (x : Stripe) (e : DefEntry) (h : Settled s0 s) : Settled s0 (s.listPixel x e) := by
  unfold State.listPixel
  dsimp only
  exact settled_ite (settled_record hw _ (settled_modStripe x (fun _ => rfl) h)) (settled_modStripe x (fun _ => rfl) h)

theorem settled_exitTags (hw : s0.writing = none) (x : Stripe) (w : PixRow) (fx : ExitFaults) (h : Settled s0 s) :
    Settled s0 (s.exitTags x w fx) :=
  settled_foldl _ (fun _ _ hu => settled_record hw _ (settled_inc _ hu)) _ h

theorem settled_checkRow {k : Standing} (h : Contained k s) (hck : k.ckpt ≠ 5) (hab : k.aborting = false) {x : Stripe}
    (hx : x.standing = k) (w : PixRow) (fx : ExitFaults) : Settled s (s.checkRow x w fx) := by
  have hst : x.st ≠ .draining := by
    rw [show x.st = .contained from (congrArg Standing.st hx).trans h.st]
    decide
  have hxab : x.aborting = false := (congrArg Standing.aborting hx).trans hab
  unfold State.checkRow
  dsimp only
  split
  · unfold State.deficitFull
    dsimp only
    rw [if_neg (by simp [hxab]), if_neg hst]
    exact settled_contain h hck _
  · have hlisted : Settled s ((s.exitEntries x w fx).foldl (fun s e => s.listPixel x e) (s.exitTags x w fx)) :=
      settled_foldl _ (fun _ e hu => settled_listPixel h.writing x e hu) _ (settled_exitTags h.writing x w fx (settled_refl s))
    generalize List.foldl _ _ _ = u at hlisted ⊢
    have hlist := settled_apart (only_modList x (fun d => { d with entries := d.entries ++ s.exitEntries x w fx, lastRow := some w.row })
      rfl (only_refl _ u)) hlisted
    generalize u.modList x _ = v at hlist ⊢
    have hleft := settled_modStripe x (f := fun t => { t with exitRow := w.row + 1 }) (fun _ => rfl)
      (settled_hold (ords_filter (fun h => ¬ (h.ord = w.ord ∧ h.row = w.row)) v.hold) hlist)
    have hshown := settled_apart (only_showCheck rfl (only_refl _ _)) hleft
    rw [endIfDone_contained (h.settled hshown) hab (show x.ord = k.ord from congrArg Standing.ord hx)]
    exact hshown

theorem settled_checkHead {k : Standing} (h : Contained k s) (hck : k.ckpt ≠ 5) (hab : k.aborting = false) (fx : ExitFaults) :
    Settled s (s.checkHead fx) := by
  unfold State.checkHead
  split
  · exact settled_refl s
  · next w rest _ =>
    obtain ⟨happly, -⟩ := applyFor_settles h.writing (fun a => a.ord = w.ord && decide (s.carryRow a = some w.row)) (settled_refl s)
    dsimp only
    generalize s.applyFor _ = u at happly ⊢
    have hu := h.settled happly
    split
    · exact happly
    · next v rest' hrows =>
      split
      · refine settled_hold ?_ happly
        rw [hrows]
        exact List.map_subset _ (List.subset_cons_self v rest')
      · next x hx =>
        have hv : v.ord = k.ord := hu.hold v (hrows ▸ List.mem_cons_self)
        exact happly.trans (settled_checkRow hu hck hab (hu.standing hv hx) v fx)

theorem settled_checkAll {k : Standing} (hck : k.ckpt ≠ 5) (hab : k.aborting = false) :
    ∀ (n : Nat) (fx : List ExitFaults) {s : State}, Contained k s → Settled s (State.checkAll n fx s)
  | 0, _, s, _ => settled_refl s
  | n + 1, fx, s, h => by
    have hhead := settled_checkHead h hck hab (fx.headD {})
    unfold State.checkAll
    exact settled_ite (hhead.trans (settled_checkAll hck hab n fx.tail (h.settled hhead))) hhead

end Steps

/-! ### Frames are cut and flashes confirmed (R470 step 4) -/

/-- With no stripe writing a record changes what every record may. -/
theorem only_record_calm {m : Nat} {s0 s : State} (hw : s0.writing = none) (a : RecArg) (hm : sub 78398662313265602577 m = true)
    (hst : m.testBit 22 = false) (hs : Only m s0 s) : Only m s0 (s.record a) := by
  have hcalm : s.writing = none := by
    unfold State.writing
    rw [hs.stripes hst]
    exact hw
  rw [record_calm hcalm a]
  exact only_recordRaw a hm hs

theorem only_cutFrame_calm {m : Nat} {s0 s : State} (hw : s0.writing = none) (f : LinkFrame) (hm : sub 78398664512288858129 m = true)
    (hst : m.testBit 22 = false) (hs : Only m s0 s) : Only m s0 (s.cutFrame f) := by
  have hrec : sub 78398662313265602577 m = true := sub_trans rfl hm
  have hlink : sub 2199023255552 m = true := sub_trans rfl hm
  have hreg : sub 1 m = true := sub_trans rfl hm
  unfold State.cutFrame State.cutMark State.chain
  dsimp only
  refine only_modFrame _ _ _ hlink (only_record_calm hw _ hrec hst (only_modFrame _ _ _ hlink (only_ite ?_ (only_post _ hlink hs))))
  exact only_record_calm hw _ hrec hst (only_bump _ _ _ _ hreg (only_post _ hlink hs))

theorem only_confirmFlash_calm {m : Nat} {s0 s : State} (hw : s0.writing = none) (i : Nat) (hm : sub 78398668910335369233 m = true)
    (hst : m.testBit 22 = false) (hs : Only m s0 s) : Only m s0 (s.confirmFlash i) := by
  have hcut : sub 78398664512288858129 m = true := sub_trans rfl hm
  have hexposed : Only m s0 (if s.drover.cut.contains i then s.cutExposed i else s) :=
    only_ite (only_foldl (fun _ f hu => only_cutFrame_calm hw f hcut hst hu) _ hs) hs
  rw [confirmFlash_eq]
  generalize (if s.drover.cut.contains i then s.cutExposed i else s) = u at hexposed ⊢
  exact only_put4398046511104 (sub_trans rfl hm) (only_modFrames _ (sub_trans rfl hm) hexposed)

theorem unconfirmed_confirmFlash (s : State) (i : Nat) :
    (s.confirmFlash i).drover.unconfirmed = s.drover.unconfirmed.filter (· ≠ i) := by
  have hkept : (if s.drover.cut.contains i then s.cutExposed i else s).drover.unconfirmed = s.drover.unconfirmed := by
    split
    · exact (onward_cutExposed s i).unconfirmed
    · rfl
  rw [confirmFlash_eq, ← hkept]
  rfl

theorem unconfirmed_confirmFlashes (l : List Nat) (s : State) :
    (l.foldl State.confirmFlash s).drover.unconfirmed = s.drover.unconfirmed.filter (· ∉ l) := by
  induction l generalizing s with
  | nil => simp
  | cons i l ih =>
    rw [List.foldl_cons, ih, unconfirmed_confirmFlash, List.filter_filter]
    refine List.filter_congr (fun j _ => ?_)
    simp [Bool.and_comm]

/-- The frames up to the held flash are cut where they have not settled, and every flash is confirmed (R470 step 4). -/
def State.flashesClosed (s : State) (x : Stripe) (h : Int) : State :=
  let u := (s.flink.frames.filter (fun f => f.sent && !f.settled && !f.withheld && decide ((f.index : Int) ≤ x.flashBase + h))).foldl
    (fun s f => s.cutFrame f) s
  u.drover.unconfirmed.foldl State.confirmFlash u

theorem settleAll_eq (s : State) (x : Stripe) (h : Int) :
    s.settleAll x h = (s.flashesClosed x h).applyFor (fun a => a.ord ≠ x.ord || decide ((a.flash : Int) ≤ h)) := rfl

theorem only_flashesClosed {s : State} (hw : s.writing = none) (x : Stripe) (h : Int) :
    Only 78398668910335369233 s (s.flashesClosed x h) := by
  unfold State.flashesClosed
  dsimp only
  exact only_foldl (fun _ i hu => only_confirmFlash_calm hw i rfl rfl hu) _
    (only_foldl (fun _ f hu => only_cutFrame_calm hw f rfl rfl hu) _ (only_refl _ s))

theorem unconfirmed_flashesClosed (s : State) (x : Stripe) (h : Int) : (s.flashesClosed x h).drover.unconfirmed = [] := by
  unfold State.flashesClosed
  dsimp only
  rw [unconfirmed_confirmFlashes]
  exact List.filter_eq_nil_iff.mpr (fun i hi => by simpa using hi)

/-! ### The containment after each part -/

theorem Contained.only {m : Nat} {k : Standing} {s t : State} (h : Contained k s) (ho : Only m s t) (hst : m.testBit 22 = false)
    (hhold : m.testBit 40 = false) : Contained k t := by
  have hs : t.stripes = s.stripes := ho.stripes hst
  refine ⟨?_, ?_, ?_, h.st, by rw [ho.hold hhold]; exact h.hold⟩
  · unfold State.writing
    rw [hs]
    exact h.writing
  · unfold State.containedS
    rw [hs]
    exact h.containedS
  · unfold State.byOrd
    rw [hs]
    exact h.byOrd

theorem Contained.modStripe {k k' : Standing} {s : State} (h : Contained k s) {x : Stripe} (hx : x.ord = k.ord) {f : Stripe → Stripe}
    (hord : ∀ y, (f y).ord = y.ord) (hst : ∀ y, (f y).st = y.st) (hf : ∀ y, y.standing = k → (f y).standing = k') :
    Contained k' (s.modStripe x f) := by
  obtain ⟨y, hy, hyk⟩ := Option.map_eq_some_iff.mp h.byOrd
  have hto : ∀ z : Stripe, z.standing = k → (if z.ord = x.ord then f z else z).standing = k' := fun z hz => by
    rw [if_pos (show z.ord = x.ord from (congrArg Standing.ord hz).trans hx.symm)]
    exact hf z hz
  have hk : k'.ord = k.ord := (congrArg Standing.ord (hf y hyk)).symm.trans ((hord y).trans (congrArg Standing.ord hyk))
  have hkst : k'.st = k.st := (congrArg Standing.st (hf y hyk)).symm.trans ((hst y).trans (congrArg Standing.st hyk))
  have hfound : ∀ p : Stripe → Bool, (∀ z, p (f z) = p z) → (s.stripes.find? p).map Stripe.standing = some k →
      ((s.modStripe x f).stripes.find? p).map Stripe.standing = some k' := fun p hp hfind => by
    obtain ⟨z, hz, hzk⟩ := Option.map_eq_some_iff.mp hfind
    rw [find?_modStripe s x hp, hz]
    exact congrArg some (hto z hzk)
  refine ⟨?_, ?_, ?_, hkst.trans h.st, fun w hw => (h.hold w hw).trans hk.symm⟩
  · have hnone : s.stripes.find? (fun t => decide (t.st = .writing)) = none := h.writing
    show (s.modStripe x f).stripes.find? (fun t => decide (t.st = .writing)) = none
    rw [find?_modStripe s x (fun z => by rw [hst]), hnone]
    rfl
  · exact hfound (fun t => decide (t.st = .contained)) (fun z => by rw [hst]) h.containedS
  · rw [hk]
    exact hfound (fun t => decide (t.ord = k.ord)) (fun z => by rw [hord]) h.byOrd

/-- Every carry and mark up to the held flash is applied (R189): what waits is of the stripe's later flashes. -/
theorem settleAll_settles {k : Standing} {s : State} (h : Contained k s) (x : Stripe) (held : Int) :
    Contained k (s.settleAll x held) ∧ (s.settleAll x held).drover.unconfirmed = [] ∧
    ∀ a ∈ (s.settleAll x held).flink.carries, a.ord = x.ord ∧ held < a.flash := by
  have hclosed := h.only (only_flashesClosed h.writing x held) rfl rfl
  obtain ⟨happly, hrest⟩ := applyFor_settles hclosed.writing (fun a => a.ord ≠ x.ord || decide ((a.flash : Int) ≤ held)) (settled_refl _)
  rw [settleAll_eq]
  exact ⟨hclosed.settled happly, happly.unconfirmed.trans (unconfirmed_flashesClosed s x held), fun a ha => by simpa using hrest a ha⟩

/-- The stripe's next share cycle is the first after the held flash, where it has not come so far. -/
def Standing.undone (k : Standing) (held : Int) : Standing := { k with nextCycle := min k.nextCycle (held + 1).toNat }

/-- The cycles after the held flash are undone (R189): of their carries none waits any more. -/
theorem undo_undoes {k : Standing} {s : State} (h : Contained k s) {x : Stripe} (hx : x.ord = k.ord) (held : Int)
    (hlate : ∀ a ∈ s.flink.carries, a.ord = x.ord ∧ held < a.flash) :
    Contained (k.undone held) (s.undo x held) ∧ (s.undo x held).drover.unconfirmed = s.drover.unconfirmed ∧
    ∀ a ∈ (s.undo x held).flink.carries, a.ord = x.ord ∧ x.nextCycle ≤ a.flash := by
  obtain ⟨hback, hgone⟩ := undoCycles_settle x ((List.range (x.nextCycle - (held + 1).toNat)).map (fun i => x.nextCycle - 1 - i))
    (settled_refl s)
  unfold State.undo
  dsimp only
  generalize List.foldl _ _ _ = u at hback hgone ⊢
  refine ⟨?_, hback.unconfirmed, fun a ha => ?_⟩
  · have hnext : Contained (k.undone held) (u.modStripe x (fun t => { t with nextCycle := min t.nextCycle (held + 1).toNat })) :=
      (h.settled hback).modStripe hx (fun _ => rfl) (fun _ => rfl) (fun y hy => hy ▸ rfl)
    exact hnext.only (only_wr _ _ rfl (only_refl 1 _)) rfl rfl
  · obtain ⟨hord, hflash⟩ := hlate a (hback.carries ha)
    refine ⟨hord, Nat.le_of_not_lt (fun hlt => hgone a ha ⟨hord, List.mem_map.mpr ⟨x.nextCycle - 1 - a.flash, ?_, ?_⟩⟩)⟩
    · exact List.mem_range.mpr (by omega)
    · omega

/-- Settled and without an abort the stripe awaits its checkpoint (R470 step 6). -/
theorem afterSettle_awaits {k : Standing} {s : State} (h : Contained k s) {x : Stripe} (hx : x.ord = k.ord) (hab : k.aborts = []) :
    ∃ y ∈ s.stripes, y.standing = k ∧
      s.afterSettle x = (s.modStripe y (fun t => { t with ckpt := 2 })).setFld R.SYS_CKPT_STATE 3 0 2 := by
  obtain ⟨y, hy, hyk⟩ := Option.map_eq_some_iff.mp h.byOrd
  refine ⟨y, List.mem_of_find?_eq_some hy, hyk, ?_⟩
  have hyab : y.aborts = [] := (congrArg Standing.aborts hyk).trans hab
  unfold State.afterSettle
  rw [hx, hy]
  exact if_neg (fun hne => hne hyab)

theorem byOrd_of_mem {s : State} (hinv : s.Inv) {x : Stripe} (hx : x ∈ s.stripes) : s.byOrd x.ord = some x := by
  cases hfind : s.byOrd x.ord with
  | none =>
    have hno := List.find?_eq_none.mp hfind x hx
    simp at hno
  | some y => rw [ord_inj hinv hx (List.mem_of_find?_eq_some hfind) (by simpa using List.find?_some hfind)]

theorem contained_of_containedS {s : State} {x : Stripe} (hinv : s.Inv) (hx : s.containedS = some x) (hw : s.writing = none)
    (hhold : ∀ w ∈ s.hold, w.ord = x.ord) : Contained x.standing s := by
  have hmem : x ∈ s.stripes := List.mem_of_find?_eq_some hx
  have hst : x.st = .contained := by simpa using List.find?_some hx
  refine ⟨hw, by rw [hx]; rfl, ?_, hst, hhold⟩
  show (s.byOrd x.ord).map Stripe.standing = some x.standing
  rw [byOrd_of_mem hinv hmem]
  rfl

theorem exec_containSettled {s : State} {x : Stripe} (fx : List ExitFaults) (hx : s.containedS = some x) (hf : s.fatal = 0)
    (hck : x.ckpt = 1) : exec (.containSettled fx) s =
      .next ((State.checkAll ((s.settleAll x x.held).undo x x.held).hold.length fx ((s.settleAll x x.held).undo x x.held)).afterSettle x) := by
  show execContainSettled fx s = _
  unfold execContainSettled
  rw [hx]
  dsimp only
  rw [if_neg (by simp [hf]), if_pos hck]

/-- A containment settles (R189, R470 steps 4 to 6). -/
theorem containSettled_settles {s : State} {x : Stripe} (fx : List ExitFaults) (hinv : s.Inv) (hx : s.containedS = some x)
    (hw : s.writing = none) (hf : s.fatal = 0) (hck : x.ckpt = 1) (habort : x.aborting = false) (haborts : x.aborts = [])
    (hhold : ∀ w ∈ s.hold, w.ord = x.ord) :
    ∃ t, exec (.containSettled fx) s = .next t ∧ (∀ a ∈ t.flink.carries, a.ord = x.ord ∧ x.nextCycle ≤ a.flash) ∧
      t.drover.unconfirmed = [] ∧ t.fld R.SYS_CKPT_STATE 3 0 = 2 ∧
      ∃ y ∈ t.stripes, y.ord = x.ord ∧ y.st = .contained ∧ y.ckpt = 2 ∧ y.nextCycle = min x.nextCycle (x.held + 1).toNat := by
  have hcon := contained_of_containedS hinv hx hw hhold
  obtain ⟨hset, hconfirmed, hlate⟩ := settleAll_settles hcon x x.held
  obtain ⟨hundone, hunconfirmed, hcarries⟩ := undo_undoes hset (x := x) rfl x.held hlate
  rw [exec_containSettled fx hx hf hck]
  generalize (s.settleAll x x.held).undo x x.held = u at hundone hunconfirmed hcarries ⊢
  have hckpt : (x.standing.undone x.held).ckpt ≠ 5 := by
    show x.ckpt ≠ 5
    omega
  have hchecked := settled_checkAll hckpt habort u.hold.length fx hundone
  generalize State.checkAll u.hold.length fx u = v at hchecked ⊢
  obtain ⟨y, hmem, hstand, hafter⟩ := afterSettle_awaits (hundone.settled hchecked) (x := x) rfl haborts
  rw [hafter]
  refine ⟨_, rfl, fun a ha => hcarries a (hchecked.carries ha), (hchecked.unconfirmed.trans hunconfirmed).trans hconfirmed,
    fld_setFld_low4 _ _ 2, { y with ckpt := 2 }, mem_modStripe _ hmem rfl, ?_, ?_, rfl, ?_⟩
  · exact congrArg Standing.ord hstand
  · exact (congrArg Standing.st hstand).trans hundone.st
  · exact congrArg Standing.nextCycle hstand

/-! ### The checkpoint verified (R472 to R474) -/

theorem bell_putBell_same (s : State) (n v : Nat) : (s.putBell n v).bell n = v % 2 ^ 64 := by
  unfold State.bell State.putBell
  dsimp only
  rw [kget_kset, if_pos rfl]
  exact BitVec.toNat_ofNat _ _

/-- A bell word that may also fall takes its value and leaves its audit record, and nothing else, where its copies verify (R383). -/
theorem writeBell_free {s : State} {n : Nat} (v code : Nat) (h2 : n ≠ 2) (h6 : n ≠ 6)
    (hok : ((List.range 3).filter (s.bellStuck n)).length < 2) (hlast : s.bellStuck n 2 = false) :
    s.writeBell n v code = (({ s with bellPending := 0 }).putBell n v).commit 0x0040 .firmware n (s.bell n) v [code] := by
  unfold State.writeBell
  dsimp only
  rw [if_neg (by simp [h2, h6]), if_neg (by omega), if_neg (by simp [hlast])]

/-- The checkpoint as it is written (R472, R473). -/
def State.ckptWritten (s : State) (x : Stripe) : Ckpt := ⟨s.ckptHeader x, s.ckptUnits, s.tally, s.caps⟩

/-- The checkpoint locator that names a stripe's verified checkpoint in a slot (R474). -/
def ckptLocator (x : Stripe) (slot : Nat) : Nat := x.jobId * 2 ^ 32 + x.slot * 2 ^ 8 + 2 ^ 4 + slot

/-- What the verified checkpoint leaves (R335, R474): it stands in its slot, and bell word 4 names it. -/
structure CkptVerified (s t : State) (x : Stripe) : Prop where
  only : Only 92236535324473294881 s t
  lastCkpt : t.lastCkpt = some s.ckptSlot
  ckpt : kget? t.ckpts s.ckptSlot = some (s.ckptWritten x)
  bell : t.bell 4 = ckptLocator x s.ckptSlot % 2 ^ 64
  state : t.fld R.SYS_CKPT_STATE 3 0 = 3

theorem ckptVerified_verifyCkpt {s : State} (x : Stripe) (hok : ((List.range 3).filter (s.bellStuck 4)).length < 2)
    (hlast : s.bellStuck 4 2 = false) : CkptVerified s (s.verifyCkpt x) x := by
  let u : State := { s with ckpts := kput s.ckpts s.ckptSlot (s.ckptWritten x), ckptUnits := [] }
  let w : State := u.writeBell 4 (ckptLocator x s.ckptSlot) 0
  let v : State := (({ w with lastCkpt := some s.ckptSlot }.setFld R.SYS_CKPT_STATE 8 8 s.ckptSlot).setFld R.SYS_CKPT_STATE 3 0 3).raiseIrq 0 3
  have hwrite : w = (({ u with bellPending := 0 }).putBell 4 (ckptLocator x s.ckptSlot)).commit 0x0040 .firmware 4 (u.bell 4)
      (ckptLocator x s.ckptSlot) [0] := writeBell_free _ 0 (by decide) (by decide) hok hlast
  have hu : Only 92236535324473294881 s u := only_put206158430208 rfl (only_refl _ s)
  have hput : Only 562949953421345 ({ u with bellPending := 0 }.putBell 4 (ckptLocator x s.ckptSlot)) w :=
    hwrite ▸ only_commit _ _ _ _ _ _ rfl (only_refl _ _)
  have hw : Only 92236535324473294881 s w :=
    only_trans (only_putBell _ _ rfl (only_put2251799813685248 rfl hu)) (only_mono rfl hput)
  have hv : Only 73786976294838206465 { w with lastCkpt := some s.ckptSlot } v :=
    only_raiseIrq _ _ rfl (only_setFld _ _ _ _ rfl (only_setFld _ _ _ _ rfl (only_refl _ _)))
  have hbell : w.bell 4 = ckptLocator x s.ckptSlot % 2 ^ 64 := by
    rw [hwrite, bell_commit _ _ _ _ _ _ 4 (by decide), bell_putBell_same]
  show CkptVerified s v x
  refine ⟨only_trans (only_put18446744073709551616 rfl hw) (only_mono rfl hv), hv.lastCkpt rfl, ?_, ?_, ?_⟩
  · rw [hv.ckpts rfl, show ({ w with lastCkpt := some s.ckptSlot } : State).ckpts = u.ckpts from hput.ckpts rfl, kget?_kput, if_pos rfl]
  · rw [← hbell]
    unfold State.bell
    rw [hv.bells rfl]
  · have hirq := regsOff_raiseIrq (l := [0x10, 0x18]) 0 3 (by simp) (by simp) (regsOff_refl _
      ((({ w with lastCkpt := some s.ckptSlot } : State).setFld R.SYS_CKPT_STATE 8 8 s.ckptSlot).setFld R.SYS_CKPT_STATE 3 0 3))
    unfold State.fld
    rw [hirq R.SYS_CKPT_STATE (by decide)]
    exact fld_setFld_low4 _ _ 3

/-! ### Commands that end with it (R437, R440) -/

/-- The commands of a list complete in turn with one status and results. -/
def State.completes (s : State) (l : List Nat) (status r0 : Nat) : State := l.foldl (fun s n => s.complete n status r0) s

theorem keeps_completes {q : List Instr} {o : List Out} {s : State} (l : List Nat) (status r0 : Nat) (h : Keeps q o s) :
    Keeps q o (s.completes l status r0) := keeps_foldl (fun _ n hu => keeps_complete n status r0 0 0 0 hu) l h

theorem only_completes (s : State) (l : List Nat) (status r0 : Nat) : Only 73786976294838214656 s (s.completes l status r0) :=
  only_foldl (fun _ n hu => only_complete n status r0 0 0 0 rfl hu) l (only_refl _ s)

theorem cmd?_completes_other {q : List Instr} {o : List Out} {n : Nat} {c : Cmd} (hopen : c.done = none) (status r0 : Nat) (l : List Nat)
    {s : State} (hk : Keeps q o s) (hc : s.cmd? n = some c) (hn : n ∉ l) : (s.completes l status r0).cmd? n = some c := by
  induction l generalizing s with
  | nil => exact hc
  | cons m l ih =>
    obtain ⟨hne, hl⟩ := not_or.mp (fun h => hn (List.mem_cons.mpr h))
    exact ih (keeps_complete m status r0 0 0 0 hk) (cmd?_complete_other hk.ok.cmds hc hopen hne _ _ _ _ _) hl

theorem ended_completes_later {q : List Instr} {s0 : State} {c : Cmd} {r : Nat × Nat × Nat × Nat × Nat} (status r0 : Nat) (l : List Nat)
    {s : State} (hk : Keeps q s0.out s) (h : s0.ended s c r.1 r.2.1 r.2.2.1 r.2.2.2.1 r.2.2.2.2) :
    s0.ended (s.completes l status r0) c r.1 r.2.1 r.2.2.1 r.2.2.2.1 r.2.2.2.2 := by
  induction l generalizing s with
  | nil => exact h
  | cons m l ih => exact ih (keeps_complete m status r0 0 0 0 hk) (ended_complete_later hk.ok.cmds hk.ok.out h m status r0 0 0 0)

theorem ended_completes {q : List Instr} {s0 : State} {n : Nat} {c : Cmd} (hopen : c.done = none) (status r0 : Nat) (l : List Nat)
    {s : State} (hk : Keeps q s0.out s) (hc : s.cmd? n = some c) (hn : n ∈ l) : s0.ended (s.completes l status r0) c status r0 0 0 0 := by
  induction l generalizing s with
  | nil => cases hn
  | cons m l ih =>
    have hk' := keeps_complete m status r0 0 0 0 hk
    by_cases hm : n = m
    · subst hm
      exact ended_completes_later (r := (status, r0, 0, 0, 0)) status r0 l hk'
        (ended_complete status r0 0 0 0 hk.ok.cmds hk.ok.out hc hopen rfl rfl rfl)
    · exact ih hk' (cmd?_complete_other hk.ok.cmds hc hopen hm _ _ _ _ _) ((List.mem_cons.mp hn).resolve_left hm)

/-- What has ended stays so while the host's side stands and more leaves the block. -/
theorem ended_more {s0 s t : State} {c : Cmd} {status r0 r1 r2 r3 : Nat} (hhost : t.host = s.host) (hout : s.out <:+ t.out)
    (h : s0.ended s c status r0 r1 r2 r3) : s0.ended t c status r0 r1 r2 r3 := by
  rcases h with ⟨x, hx, hrest⟩ | ⟨x, slot, head, phase, l, hsq, hcid, hl, hmem⟩
  · refine Or.inl ⟨x, ?_, hrest⟩
    unfold State.cmd? at hx ⊢
    rwa [hhost]
  · obtain ⟨l', hl'⟩ := hout
    exact Or.inr ⟨x, slot, head, phase, l' ++ l, hsq, hcid, by rw [← hl', hl, List.append_assoc], List.mem_append_right _ hmem⟩

theorem entries_modList (s : State) (x : Stripe) {f : DefList → DefList} (hf : ∀ d, (f d).entries = d.entries)
    (hord : ∀ d, (f d).ord = d.ord) :
    ((s.modList x f).list? x).map (·.entries.length) = (s.list? x).map (·.entries.length) := by
  have hfind : (s.modList x f).list? x = (s.list? x).map (fun d => if d.ord = x.ord then f d else d) := by
    unfold State.list? State.modList State.modJob
    rw [job_setJob_same, List.find?_map]
    congr 2
    funext d
    show decide ((if d.ord = x.ord then f d else d).ord = x.ord) = decide (d.ord = x.ord)
    split
    · rw [hord]
    · rfl
  rw [hfind, Option.map_map]
  congr 1
  funext d
  show (if d.ord = x.ord then f d else d).entries.length = d.entries.length
  split
  · rw [hf]
  · rfl

/-- A stripe's end is its list's, then the completion of the command that started it (R437). -/
theorem endStripe_ends (s : State) (x : Stripe) (state outcome status : Nat) : ∃ w, w.host = s.host ∧ s.out <:+ w.out ∧
    s.endStripe x state outcome status = if x.goCmd = 0 then w else
      w.complete x.goCmd status outcome x.exitRow (((s.list? x).map (·.entries.length)).getD 0) x.clips := by
  have hlist := only_modList x (fun d => { d with state }) (mm := 49152) rfl (only_refl _ s)
  have hlen := entries_modList s x (f := fun d => { d with state }) (fun _ => rfl) (fun _ => rfl)
  unfold State.endStripe
  dsimp only
  rw [hlen]
  generalize s.modList x _ = u at hlist
  have hhost : u.host = s.host := hlist.host rfl
  have hout : u.out = s.out := hlist.out rfl
  cases hd : u.list? x with
  | none => exact ⟨u, hhost, hout ▸ List.suffix_refl _, rfl⟩
  | some d =>
    refine ⟨if x.addr2 ≠ 0 then u.emit (.hostWrite x.addr2 (d.header x.jobId ++ d.entries.flatMap DefEntry.bytes)) else u, ?_, ?_, rfl⟩
    · split
      · exact hhost
      · exact hhost
    · rw [← hout]
      split
      · exact List.suffix_cons _ _
      · exact List.suffix_refl _

/-- The contained stripe with its checkpoint verified (R470 step 7, R473). -/
def Stripe.verified (y : Stripe) (mode : List Nat) : Stripe := { y with ckpt := 3, count := y.count + 1, ckptMode := mode, ckptCmds := [] }

/-- Its STRIPE_GO or RESUME has ended. -/
def Stripe.released (y : Stripe) : Stripe := { y with goCmd := 0, addr2 := 0 }

/-- The checkpoint verified and shown by its stripe, its CHECKPOINT commands not ended yet. -/
def State.ckptTaken (s : State) (x : Stripe) : State := (s.verifyCkpt x).modStripe x (fun y => y.verified s.modeMark)

theorem containDone_eq (s : State) (x : Stripe) : s.containDone x =
    (((s.ckptTaken x).completes x.ckptCmds 0 (lowBits 32 x.held)).endStripe x 3 2 x.cause).modStripe x Stripe.released := rfl

/-- Step 7 of R470: the CHECKPOINT commands end with the held flash, the STRIPE_GO or RESUME with the first cause (R437, R440). -/
theorem ended_containDone {q : List Instr} {s0 s : State} {x : Stripe} (hk : Keeps q s0.out (s.ckptTaken x)) {entries : Nat}
    (hlen : (((s.ckptTaken x).list? x).map (·.entries.length)).getD 0 = entries) :
    (∀ n ∈ x.ckptCmds, ∀ c, (s.ckptTaken x).cmd? n = some c → c.done = none →
      s0.ended (s.containDone x) c 0 (lowBits 32 x.held) 0 0 0) ∧
    ∀ c, (s.ckptTaken x).cmd? x.goCmd = some c → c.done = none → x.goCmd ≠ 0 → x.goCmd ∉ x.ckptCmds →
      s0.ended (s.containDone x) c x.cause 2 x.exitRow entries x.clips := by
  have hmore : ∀ (u : State) {c : Cmd} {a r0 r1 r2 r3 : Nat}, s0.ended u c a r0 r1 r2 r3 →
      s0.ended (u.modStripe x Stripe.released) c a r0 r1 r2 r3 := fun u _ _ _ _ _ _ h => ended_more (s := u) rfl (List.suffix_refl _) h
  rw [containDone_eq]
  generalize s.ckptTaken x = u at hk hlen ⊢
  have hk' := keeps_completes x.ckptCmds 0 (lowBits 32 x.held) hk
  have hdone := only_completes u x.ckptCmds 0 (lowBits 32 x.held)
  obtain ⟨w, hhost, hout, hend⟩ := endStripe_ends (u.completes x.ckptCmds 0 (lowBits 32 x.held)) x 3 2 x.cause
  have hlen' : (((u.completes x.ckptCmds 0 (lowBits 32 x.held)).list? x).map (·.entries.length)).getD 0 = entries := by
    rw [← hlen]
    unfold State.list?
    rw [job_of_only hdone rfl rfl]
  have hnum : numbered w.host.cmds w.host.nextCmd := hhost.symm ▸ hk'.ok.cmds
  rw [hend, hlen']
  refine ⟨fun n hn c hc hopen => hmore _ ?_, fun c hc hopen hgo hnot => hmore _ ?_⟩
  · have hfirst := ended_more hhost hout (ended_completes hopen 0 (lowBits 32 x.held) x.ckptCmds hk hc hn)
    split
    · exact hfirst
    · exact ended_complete_later (r := (0, lowBits 32 x.held, 0, 0, 0)) hnum (hk'.ok.out.trans hout) hfirst _ _ _ _ _ _
  · have hkept := cmd?_completes_other hopen 0 (lowBits 32 x.held) x.ckptCmds hk hc hnot
    have hcw : w.cmd? x.goCmd = some c := by
      unfold State.cmd? at hkept ⊢
      rwa [hhost]
    rw [if_neg hgo]
    exact ended_complete _ _ _ _ _ hnum (hk'.ok.out.trans hout) hcw hopen rfl rfl rfl

theorem exec_checkpointVerified_written {s : State} {x : Stripe} (hx : s.containedS = some x) (hf : s.fatal = 0) (hck : x.ckpt = 2)
    (hunits : ∀ u, u < 9 → (kget? s.ckptUnits u).isSome = true) : exec (.checkpointVerified none) s = .next (s.containDone x) := by
  show execCheckpointVerified none s = _
  unfold execCheckpointVerified
  rw [hx]
  dsimp only
  rw [if_neg (by simp [hck, hf]), if_pos (List.all_eq_true.mpr (fun u hu => hunits u (List.mem_range.mp hu)))]

/-- A checkpoint verifies (R335, R437, R440, R474). -/
theorem checkpoint_verifies {s : State} {x : Stripe} (hinv : s.Inv) (hx : s.containedS = some x) (hf : s.fatal = 0) (hck : x.ckpt = 2)
    (hunits : ∀ u, u < 9 → (kget? s.ckptUnits u).isSome = true) (hok : ((List.range 3).filter (s.bellStuck 4)).length < 2)
    (hlast : s.bellStuck 4 2 = false) :
    ∃ t, exec (.checkpointVerified none) s = .next t ∧ t.lastCkpt = some s.ckptSlot ∧ t.fld R.SYS_CKPT_STATE 3 0 = 3 ∧
      (∃ c, kget? t.ckpts s.ckptSlot = some c ∧ c.units = s.ckptUnits ∧ c.tally = s.tally ∧ c.caps = s.caps) ∧
      t.bell 4 = (x.jobId * 2 ^ 32 + x.slot * 2 ^ 8 + 2 ^ 4 + s.ckptSlot) % 2 ^ 64 ∧
      (∃ y ∈ t.stripes, y.ord = x.ord ∧ y.st = .contained ∧ y.ckpt = 3 ∧ y.count = x.count + 1 ∧ y.ckptCmds = [] ∧ y.goCmd = 0) ∧
      (∀ n ∈ x.ckptCmds, ∀ c, s.cmd? n = some c → c.done = none → s.ended t c 0 (lowBits 32 x.held) 0 0 0) ∧
      (∀ c, s.cmd? x.goCmd = some c → c.done = none → x.goCmd ≠ 0 → x.goCmd ∉ x.ckptCmds →
        s.ended t c x.cause 2 x.exitRow (((s.list? x).map (·.entries.length)).getD 0) x.clips) := by
  have hmem : x ∈ s.stripes := List.mem_of_find?_eq_some hx
  have hst : x.st = .contained := by simpa using List.find?_some hx
  have hver := ckptVerified_verifyCkpt x hok hlast
  have hkeep : Keeps s.pending s.out (s.ckptTaken x) := keeps_modStripe x _ (fun _ => rfl) (keeps_verifyCkpt x (keepsOut_of_inv hinv))
  have htaken : Only 92236535324477489185 s (s.ckptTaken x) := only_modStripe x _ rfl (only_mono rfl hver.only)
  have hlist : (s.ckptTaken x).list? x = s.list? x := by
    unfold State.list?
    rw [job_of_only htaken rfl rfl]
  have hcmd : ∀ n, (s.ckptTaken x).cmd? n = s.cmd? n := fun n => by
    unfold State.cmd?
    rw [htaken.host rfl]
  obtain ⟨hckpts, hgo⟩ := ended_containDone hkeep (congrArg (fun d => (d.map (·.entries.length)).getD 0) hlist)
  have hrest : Only 73786976294842458112 (s.verifyCkpt x) (s.containDone x) := by
    rw [containDone_eq]
    exact only_modStripe x _ rfl (only_endStripe x 3 2 x.cause rfl (only_trans (only_modStripe x _ rfl (only_refl _ _))
      (only_mono rfl (only_completes (s.ckptTaken x) x.ckptCmds 0 (lowBits 32 x.held)))))
  have hmark : x.verified s.modeMark ∈
      (((s.ckptTaken x).completes x.ckptCmds 0 (lowBits 32 x.held)).endStripe x 3 2 x.cause).stripes := by
    rw [(only_endStripe x 3 2 x.cause (mm := 73786976294838263808) rfl
      (only_mono rfl (only_completes (s.ckptTaken x) x.ckptCmds 0 (lowBits 32 x.held)))).stripes rfl]
    exact mem_modStripe _ ((hver.only.stripes rfl).symm ▸ hmem) rfl
  simp only [hcmd] at hckpts hgo
  refine ⟨_, exec_checkpointVerified_written hx hf hck hunits, ?_, ?_, ⟨s.ckptWritten x, ?_, rfl, rfl, rfl⟩, ?_,
    ⟨(x.verified s.modeMark).released, ?_, rfl, hst, rfl, rfl, rfl, rfl⟩, hckpts, hgo⟩
  · rw [hrest.lastCkpt rfl, hver.lastCkpt]
  · unfold State.fld State.rd
    rw [hrest.regs rfl]
    exact hver.state
  · rw [hrest.ckpts rfl, hver.ckpt]
  · unfold State.bell
    rw [hrest.bells rfl]
    exact hver.bell
  · rw [containDone_eq]
    exact mem_modStripe _ hmark rfl

/-! ### An attempt that fails is written once more (R475) -/

theorem log_records (a : RecArg) (s : State) (n : Nat) (h : 256 + n ≤ s.logFree) :
    ((List.range n).foldl (fun s _ => s.record a) s).log.nextSeq = s.log.nextSeq + n ∧
    ((List.range n).foldl (fun s _ => s.record a) s).logFree = s.logFree - n := by
  induction n with
  | zero => exact ⟨rfl, rfl⟩
  | succ n ih =>
    obtain ⟨hseq, hfree⟩ := ih (by omega)
    rw [List.range_succ, List.foldl_append, List.foldl_cons, List.foldl_nil]
    generalize (List.range n).foldl (fun s _ => s.record a) s = u at hseq hfree ⊢
    have hroom : 256 < u.logFree := by omega
    have hlog : (u.record a).log.nextSeq = u.log.nextSeq + 1 ∧ (u.record a).logFree = 16384 - (u.log.used + 1) := by
      unfold State.logFree
      rw [record_room a hroom, recordRaw_room a hroom, log_writeRec]
      exact ⟨rfl, rfl⟩
    unfold State.logFree at *
    omega

theorem nextSeq_repeatWrites {s : State} (da : Nat) {n : Nat} (h : 256 + n ≤ s.logFree) :
    (s.repeatWrites da n).log.nextSeq = s.log.nextSeq + n := by
  unfold State.repeatWrites
  exact (log_records _ s n h).1

theorem only_repeatWrites_calm {s : State} (hw : s.writing = none) (da n : Nat) : Only 78398662313265602577 s (s.repeatWrites da n) := by
  unfold State.repeatWrites
  dsimp only
  exact only_foldl (fun _ _ hu => only_record_calm hw _ rfl rfl hu) _ (only_refl _ s)

/-- The record of a checkpoint's failed attempt, which gives up what was written and compressed (R475). -/
def State.attemptLost (s : State) (x : Stripe) (a : RecArg) : State :=
  ({ s.record { a with cls := 1, stripe := x.who } with ckptUnits := [] }).dropCtxs (fun c => c.mode ≠ 0 && c.purp = 4)

theorem ckptFailed_eq (s : State) (x : Stripe) (a : RecArg) : s.ckptFailed x a =
    if x.ckptTry = 0 then (s.attemptLost x a).modStripe x (fun t => { t with ckptTry := s.log.nextSeq % 2 ^ 32 })
    else ((s.attemptLost x a).setFld R.SYS_CKPT_STATE 3 0 4).jobFatalRec x.slot
      { code := Code.CKPT_WRITE_FAIL, cls := 3, stripe := x.who, cause := x.ckptTry } := rfl

theorem only_attemptLost {s : State} (hw : s.writing = none) (x : Stripe) (a : RecArg) :
    Only 78398662381988225041 s (s.attemptLost x a) ∧ (s.attemptLost x a).ckptUnits = [] := by
  let u : State := { s.record { a with cls := 1, stripe := x.who } with ckptUnits := [] }
  have hu : Only 78398662381988225041 s u := only_put68719476736 rfl (only_record_calm hw _ rfl rfl (only_refl _ s))
  have hdrop : Only 3145729 u (s.attemptLost x a) := only_dropCtxs _ rfl (only_refl _ u)
  exact ⟨only_trans hu (only_mono rfl hdrop), hdrop.ckptUnits rfl⟩

/-- The line of the checkpoint's slot at an offset in it. -/
def State.ckptLine (s : State) (off : Nat) : Nat := 0x31000000 + s.ckptSlot * 0xA000000 + off % 0xA000000

/-- What records that the line's write has failed (R352, R475). -/
def State.writeLost (s : State) (da : Nat) : RecArg := daRec (rankPage (s.physOf (daRank da)) * 256 + 0x43) 1 da (s.physOf (daRank da))

theorem exec_checkpointVerified_fails {s : State} {x : Stripe} (hx : s.containedS = some x) (hf : s.fatal = 0) (hck : x.ckpt = 2)
    (read : Bool) (off : Nat) : exec (.checkpointVerified (some (read, off))) s = .next (
      if read then ((s.showDaErr (s.ckptLine off) (s.readRank (s.ckptLine off)) R.HBM0_UE_COUNT).ckptFailed x
        (s.ueRec (s.ckptLine off) 1)).missRead (s.ckptLine off)
      else (s.repeatWrites (s.ckptLine off) 3).ckptFailed x (s.writeLost (s.ckptLine off))) := by
  show execCheckpointVerified (some (read, off)) s = _
  unfold execCheckpointVerified State.writeLost State.ckptLine
  rw [hx]
  dsimp only
  rw [if_neg (by simp [hck, hf])]
  split
  · rfl
  · rfl

theorem checkpoint_tried_again {s : State} {x : Stripe} (hx : s.containedS = some x) (hw : s.writing = none) (hf : s.fatal = 0)
    (hck : x.ckpt = 2) (htry : x.ckptTry = 0) (off : Nat) :
    ∃ t, exec (.checkpointVerified (some (false, off))) s = .next t ∧ t.ckptUnits = [] ∧ t.lastCkpt = s.lastCkpt ∧
      ∃ y ∈ t.stripes, y.ord = x.ord ∧ y.st = .contained ∧ y.ckpt = 2 ∧
        (260 < s.logFree → y.ckptTry = (s.log.nextSeq + 3) % 2 ^ 32) := by
  have hmem : x ∈ s.stripes := List.mem_of_find?_eq_some hx
  have hst : x.st = .contained := by simpa using List.find?_some hx
  have hexec := exec_checkpointVerified_fails hx hf hck false off
  have hrep := only_repeatWrites_calm hw (s.ckptLine off) 3
  have hseq : 260 < s.logFree → (s.repeatWrites (s.ckptLine off) 3).log.nextSeq = s.log.nextSeq + 3 := fun h =>
    nextSeq_repeatWrites _ (by omega)
  rw [if_neg Bool.false_ne_true, ckptFailed_eq, if_pos htry] at hexec
  generalize s.repeatWrites (s.ckptLine off) 3 = u at hexec hrep hseq
  have hcalm : u.writing = none := by
    unfold State.writing
    rw [hrep.stripes rfl]
    exact hw
  obtain ⟨hlost, hunits⟩ := only_attemptLost hcalm x (s.writeLost (s.ckptLine off))
  have hlostmem : x ∈ (u.attemptLost x (s.writeLost (s.ckptLine off))).stripes := by
    rw [hlost.stripes rfl, hrep.stripes rfl]
    exact hmem
  have hlast := (hlost.lastCkpt rfl).trans (hrep.lastCkpt rfl)
  generalize u.attemptLost x (s.writeLost (s.ckptLine off)) = v at hexec hunits hlast hlostmem
  exact ⟨_, hexec, hunits, hlast, { x with ckptTry := u.log.nextSeq % 2 ^ 32 }, mem_modStripe _ hlostmem rfl, rfl, hst, hck,
    fun h => by rw [hseq h]⟩

/-! ### A second failure makes the job fatal (R449, R475) -/

/-- The job of a slot has failed for good by a code, its key gone (R449, R566). -/
structure JobFailed (slot code : Nat) (s : State) : Prop where
  status : (s.job slot).status = 2
  fatal : (s.job slot).fatal = code
  key : (s.job slot).key = none

section JobFailed

variable {slot code : Nat} {s t : State}

/-- A change of all but the job slots. -/
theorem jobFailed_apart (ho : Only 295147905179352776703 s t) (h : JobFailed slot code s) : JobFailed slot code t := by
  have hjob := job_of_only ho rfl rfl slot
  exact ⟨hjob ▸ h.status, hjob ▸ h.fatal, hjob ▸ h.key⟩

theorem jobFailed_ite {c : Prop} [Decidable c] (hs : JobFailed slot code s) (ht : JobFailed slot code t) :
    JobFailed slot code (if c then s else t) := by
  split
  · exact hs
  · exact ht

/-- A change of a job slot, of this one or the other, that keeps the failure. -/
theorem jobFailed_modJob (i : Nat) {f : Job → Job} (hstatus : ∀ j, (f j).status = j.status) (hfatal : ∀ j, (f j).fatal = j.fatal)
    (hkey : ∀ j, j.key = none → (f j).key = none) (h : JobFailed slot code s) : JobFailed slot code (s.modJob i f) := by
  have hjob : (s.modJob i f).job slot = s.job slot ∨ (s.modJob i f).job slot = f (s.job slot) := by
    unfold State.modJob State.setJob State.job
    split <;> split <;> simp
  rcases hjob with he | he
  · exact ⟨he ▸ h.status, he ▸ h.fatal, he ▸ h.key⟩
  · exact ⟨by rw [he, hstatus, h.status], by rw [he, hfatal, h.fatal], by rw [he, hkey _ h.key]⟩

/-- A job key erased, of this slot or the other (R566). -/
theorem jobFailed_eraseKey (cause i : Nat) (h : JobFailed slot code s) : JobFailed slot code (s.eraseKey cause i) := by
  unfold State.eraseKey
  dsimp only
  refine jobFailed_ite (jobFailed_modJob i (fun _ => rfl) (fun _ => rfl) (fun _ _ => rfl) ?_) h
  exact jobFailed_apart (only_commit _ _ _ _ _ _ rfl (only_refl _ s)) h

theorem jobFailed_deviceFatal (a : RecArg) (h : JobFailed slot code s) : JobFailed slot code (s.deviceFatal a) := by
  unfold State.deviceFatal
  refine jobFailed_ite h ?_
  dsimp only
  have hheld : Only 295147905179352776703 s ((({ s with fatal := a.code }.shadeOn true).droverTo 5).setFld R.DROVER_STANDSTILL 1 1 1) :=
    only_setFld _ _ _ _ rfl (only_droverTo _ rfl (only_shadeOn _ rfl (only_put4096 rfl (only_refl _ s))))
  generalize State.setFld (State.droverTo _ 5) _ _ _ _ = u at hheld ⊢
  refine jobFailed_apart (only_foldl (fun v c hv => only_fail c.n Code.SYS_DEVICE_FATAL 0 0 0 0 rfl hv) _ (only_refl _ _)) ?_
  unfold State.eraseKeys
  dsimp only
  refine jobFailed_apart (only_put576460752303423488 rfl (only_refl _ _)) (jobFailed_eraseKey a.code 1 (jobFailed_eraseKey a.code 0 ?_))
  refine jobFailed_apart (only_storeKeep _ _ _ _ _ rfl (only_showPins _ rfl (only_wr _ _ rfl (only_recordRaw _ rfl
    (only_put8796093022208 rfl hheld))))) h

/-- A bell word written; where its copies do not verify, the device stops (R383). -/
theorem jobFailed_writeBell (n v k : Nat) (h : JobFailed slot code s) : JobFailed slot code (s.writeBell n v k) := by
  unfold State.writeBell
  dsimp only
  refine jobFailed_ite (jobFailed_apart (only_recordRaw _ rfl (only_refl _ s)) h) (jobFailed_ite (jobFailed_deviceFatal _ h) ?_)
  have hput : Only 295147905179352776703 s ((({ s with bellPending := 0 }).putBell n v).commit 0x0040 .firmware n (s.bell n) v [k]) :=
    only_commit _ _ _ _ _ _ rfl (only_putBell _ _ rfl (only_put2251799813685248 rfl (only_refl _ s)))
  exact jobFailed_apart (only_ite (only_record _ rfl hput) hput) h

/-- The rank-retirement word written, with what shows it and its record (R329, R354, R355). -/
theorem jobFailed_rankWord (r : Ranks) (v k : Nat) (a : RecArg) (h : JobFailed slot code s) :
    JobFailed slot code ((({ s with ranks := r }.writeRankWord v k).showMig).record a) := by
  refine jobFailed_apart (only_record _ rfl (only_showMig rfl (only_wr64 _ _ rfl (only_refl _ _)))) (jobFailed_writeBell 5 v k ?_)
  exact jobFailed_apart (only_put140737488355328 rfl (only_refl _ s)) h

theorem jobFailed_crossRank (p : Nat) (h : JobFailed slot code s) : JobFailed slot code (s.crossRank p) := by
  unfold State.crossRank
  refine jobFailed_ite (jobFailed_rankWord _ _ _ _ h) (jobFailed_ite h (jobFailed_ite h (jobFailed_ite ?_ (jobFailed_rankWord _ _ _ _ h))))
  exact jobFailed_apart (only_record _ rfl (only_refl _ s)) h

/-- An uncorrectable read counted against its rank (R353, R359). -/
theorem jobFailed_missRead (da : Nat) (h : JobFailed slot code s) : JobFailed slot code (s.missRead da) := by
  unfold State.missRead State.countUe
  dsimp only
  have hcount : ∀ r : Ranks, JobFailed slot code { s with ranks := r } := fun r =>
    jobFailed_apart (only_put140737488355328 rfl (only_refl _ s)) h
  exact jobFailed_ite h (jobFailed_ite (jobFailed_crossRank _ (hcount _)) (hcount _))

/-- A job that is open fails for good (R449). -/
theorem jobFailed_jobFatal (met : Nat) (kept : Bool) (h : (s.job slot).status = 1) : JobFailed slot code (s.jobFatal slot code met kept) := by
  unfold State.jobFatal
  dsimp only
  rw [if_neg (by simp [h])]
  refine jobFailed_apart (only_foldl (fun v c hv => only_fail c.n Code.HOST_JOB_FAILED 0 0 0 0 rfl hv) _ (only_refl _ _)) ?_
  unfold State.modJob
  exact ⟨by rw [job_setJob_same], by rw [job_setJob_same], by rw [job_setJob_same]⟩

/-- A job-fatal error that no command met (R449). -/
theorem jobFailed_jobFatalRec (a : RecArg) (h : (s.job slot).status = 1) : JobFailed slot a.code (s.jobFatalRec slot a) := by
  unfold State.jobFatalRec
  dsimp only
  rw [if_pos rfl]
  refine jobFailed_jobFatal _ _ ?_
  rw [job_of_only (only_record (mm := 117598008931784859665) _ rfl (only_refl _ s)) rfl rfl]
  exact h

/-- A checkpoint's second failure (R475). -/
theorem jobFailed_ckptFailed {x : Stripe} (a : RecArg) (htry : x.ckptTry ≠ 0) (h : (s.job x.slot).status = 1) :
    JobFailed x.slot Code.CKPT_WRITE_FAIL (s.ckptFailed x a) := by
  rw [ckptFailed_eq, if_neg htry]
  refine jobFailed_jobFatalRec { code := Code.CKPT_WRITE_FAIL, cls := 3, stripe := x.who, cause := x.ckptTry } ?_
  have hlost : Only 117598008931788005393 s (s.attemptLost x a) :=
    only_dropCtxs _ rfl (only_put68719476736 rfl (only_record _ rfl (only_refl _ s)))
  rw [job_of_only (only_setFld R.SYS_CKPT_STATE 3 0 4 rfl hlost) rfl rfl]
  exact h

end JobFailed

/-- Whether its write or its read-back fails the second time (R475). -/
theorem checkpoint_lost {s : State} {x : Stripe} (hx : s.containedS = some x) (hf : s.fatal = 0) (hck : x.ckpt = 2) (htry : x.ckptTry ≠ 0)
    (hopen : (s.job x.slot).status = 1) (read : Bool) (off : Nat) :
    ∃ t, exec (.checkpointVerified (some (read, off))) s = .next t ∧ JobFailed x.slot Code.CKPT_WRITE_FAIL t := by
  refine ⟨_, exec_checkpointVerified_fails hx hf hck read off, ?_⟩
  cases read with
  | false =>
    refine jobFailed_ckptFailed _ htry ?_
    rw [job_of_only (only_repeatWrites (mm := 117598008931784859665) _ 3 rfl (only_refl _ s)) rfl rfl]
    exact hopen
  | true =>
    refine jobFailed_missRead _ (jobFailed_ckptFailed _ htry ?_)
    rw [job_of_only (only_showDaErr (mm := 36893558516163280897) _ _ _ rfl (only_refl _ s)) rfl rfl]
    exact hopen

/-- Settles O42: a containment is `Contained` through each part of its settling; the checkpoint verified ends its commands in turn; one
that fails twice leaves `JobFailed`. -/
theorem containmentSettles : Obligations.ContainmentSettles := by
  unfold Obligations.ContainmentSettles
  refine ⟨fun x fx s hinv hx hw hf hck habort haborts hhold => containSettled_settles fx hinv hx hw hf hck habort haborts hhold,
    fun x s hinv hx hf hck hunits hok hlast => checkpoint_verifies hinv hx hf hck hunits hok hlast,
    fun x read off s _ hx hw hf hck => ⟨fun htry hread => ?_, fun htry hopen _ => ?_⟩⟩
  · subst hread
    exact checkpoint_tried_again hx hw hf hck htry off
  · obtain ⟨t, hexec, hfailed⟩ := checkpoint_lost hx hf hck htry hopen read off
    exact ⟨t, hexec, hfailed.status, hfailed.fatal, hfailed.key⟩

end Sys2Proof.Machine
end

section
/-! SUPPORT. The Flock link: lanes and frames read back, and what records and containments leave of them (spec/07_flock_link.md). -/

namespace Sys2Proof.Machine

/-! ### Lanes and frames read back -/

theorem lane_setLane (s : State) (l j : Nat) (x : Lane) : (s.setLane l x).lane j = if l = j then x else s.lane j :=
  kget_kset _ _ _ _ _

theorem lane_setLane_same (s : State) (l : Nat) (x : Lane) : (s.setLane l x).lane l = x := by rw [lane_setLane, if_pos rfl]

theorem lane_setLane_other (s : State) {l j : Nat} (x : Lane) (h : j ≠ l) : (s.setLane l x).lane j = s.lane j := by
  rw [lane_setLane, if_neg (Ne.symm h)]

theorem lane_congr {s t : State} (h : t.flink = s.flink) (l : Nat) : t.lane l = s.lane l := by
  unfold State.lane
  rw [h]

theorem frame?_congr {s t : State} (h : t.flink = s.flink) (l i : Nat) : t.frame? l i = s.frame? l i := by
  unfold State.frame?
  rw [h]

theorem frame?_place {s : State} {l i : Nat} {f : LinkFrame} (h : s.frame? l i = some f) : f.lane = l ∧ f.index = i := by
  simpa using List.find?_some h

theorem mem_of_frame? {s : State} {l i : Nat} {f : LinkFrame} (h : s.frame? l i = some f) : f ∈ s.flink.frames :=
  List.mem_of_find?_eq_some h

/-- A change made to the frames at one place. -/
def atPlace (l i : Nat) (u : LinkFrame → LinkFrame) (f : LinkFrame) : LinkFrame := if f.lane = l ∧ f.index = i then u f else f

theorem frames_modFrame_eq (s : State) (l i : Nat) (u : LinkFrame → LinkFrame) :
    (s.modFrame l i u).flink.frames = s.flink.frames.map (atPlace l i u) := rfl

theorem atPlace_eq {l i : Nat} (u : LinkFrame → LinkFrame) {f : LinkFrame} (h : f.lane = l ∧ f.index = i) : atPlace l i u f = u f := if_pos h

theorem place_atPlace {l i : Nat} {u : LinkFrame → LinkFrame} (hu : ∀ f, f.place = (l, i) → (u f).place = (l, i)) (f : LinkFrame) :
    (atPlace l i u f).place = f.place := by
  unfold atPlace
  split
  next h =>
    have hp : f.place = (l, i) := Prod.ext h.1 h.2
    rw [hu f hp, hp]
  next => rfl

/-- Two changes at one place, one after the other. -/
theorem map_atPlace_atPlace {l i : Nat} {u : LinkFrame → LinkFrame} (hu : ∀ f, (u f).place = f.place) (v : LinkFrame → LinkFrame)
    (fs : List LinkFrame) : (fs.map (atPlace l i u)).map (atPlace l i v) = fs.map (atPlace l i (fun f => v (u f))) := by
  rw [List.map_map]
  refine List.map_congr_left (fun f _ => ?_)
  obtain ⟨hl, hi⟩ := Prod.mk.inj (hu f)
  show atPlace l i v (atPlace l i u f) = _
  unfold atPlace
  by_cases h : f.lane = l ∧ f.index = i
  · rw [if_pos h, if_pos h, if_pos ⟨hl.trans h.1, hi.trans h.2⟩]
  · rw [if_neg h, if_neg h, if_neg h]

/-- A change of frames that leaves them where they stand. -/
theorem find?_place_map {u : LinkFrame → LinkFrame} (hu : ∀ f, (u f).place = f.place) (l i : Nat) (fs : List LinkFrame) :
    (fs.map u).find? (fun f => f.lane = l && f.index = i) = (fs.find? (fun f => f.lane = l && f.index = i)).map u := by
  rw [List.find?_map]
  congr 2
  funext f
  obtain ⟨hl, hi⟩ := Prod.mk.inj (hu f)
  simp only [Function.comp_apply, hl, hi]

theorem frame?_modFrame (s : State) {l i : Nat} {u : LinkFrame → LinkFrame} (hu : ∀ f, f.place = (l, i) → (u f).place = (l, i)) (l' i' : Nat) :
    (s.modFrame l i u).frame? l' i' = (s.frame? l' i').map (atPlace l i u) :=
  find?_place_map (place_atPlace hu) l' i' _

theorem frame?_modFrame_same {s : State} {l i : Nat} {f : LinkFrame} (h : s.frame? l i = some f) {u : LinkFrame → LinkFrame}
    (hu : ∀ f, (u f).place = f.place) : (s.modFrame l i u).frame? l i = some (u f) := by
  rw [frame?_modFrame s (fun f hf => (hu f).trans hf), h, Option.map_some, atPlace_eq u (frame?_place h)]

/-- The changed frame stands in the list. -/
theorem mem_modFrame {s : State} {l i : Nat} {f : LinkFrame} (h : s.frame? l i = some f) (u : LinkFrame → LinkFrame) :
    u f ∈ (s.modFrame l i u).flink.frames :=
  List.mem_map.mpr ⟨f, mem_of_frame? h, if_pos (frame?_place h)⟩

theorem noteSlack_eq (s : State) (l ns : Nat) : ∃ v, s.noteSlack l ns = { s with flink := { s.flink with slack := v } } := by
  unfold State.noteSlack
  split
  · split
    · exact ⟨s.flink.slack, rfl⟩
    · exact ⟨_, rfl⟩
  · exact ⟨_, rfl⟩

/-! ### A record that finds room -/

/-- From s to t one record has been made that names no command: the registers of its page and of the log have changed, the log and the
trace, and an interrupt may have left (R459 to R462). -/
structure Noted (s t : State) (a : RecArg) : Prop where
  only : Only 78398662313265594385 s t
  newest : t.newest a.code a.cls a.lk a.l0 a.l1 a.l2
  regs : RegsOff (recordRegs a.page) s t
  out : s.out <:+ t.out

theorem only_writeRec_bare {s : State} {a : RecArg} (hc : a.cmd = none) : Only 78398662313265594385 s (s.writeRec a) := by
  unfold State.writeRec
  rw [hc]
  dsimp only
  have hlog : Only 78398662313265594385 s (s.logRec (s.mkRec a)) := only_logRec _ rfl (only_refl _ s)
  have hsum := only_raiseIrq a.page 31 rfl (only_traceTrigger a.code rfl
    (only_traceRec a.page 1 (s.mkRec a).code [(s.mkRec a).seq, (s.mkRec a).loc0, (s.mkRec a).loc1, (s.mkRec a).loc2] rfl
      (only_pageErr a.page (s.mkRec a).seq (s.mkRec a).code rfl hlog)))
  exact only_ite (only_raiseIrq _ _ rfl hsum) hsum

theorem noted_record {s : State} {a : RecArg} (hc : a.cmd = none) (hroom : 256 < s.logFree) : Noted s (s.record a) a := by
  rw [record_room a hroom]
  refine ⟨?_, newest_recordRaw a hroom, regsOff_recordRaw a (fun _ h => h) (regsOff_refl _ s), ?_⟩
  · rw [recordRaw_room a hroom]
    exact only_writeRec_bare hc
  · rw [recordRaw_room a hroom]
    exact out_writeRec s a

/-- The link stands through such a record. -/
theorem Noted.flink {s t : State} {a : RecArg} (h : Noted s t a) : t.flink = s.flink := h.only.flink rfl

end Sys2Proof.Machine
end

section
/-! SUPPORT. What records and containments leave of the link (spec/07_flock_link.md). -/

namespace Sys2Proof.Machine

/-! ### What stands through records and containments -/

/-- What a containment leaves of a lane: all but the replays it owes and the ECHOs left to ask for. -/
def Lane.core (x : Lane) : Lane := { x with due := [], echoLeft := 0 }

/-- What a containment leaves of a frame: all but whether it has been replayed, is known to have left, or is named by DISCARD. -/
def LinkFrame.core (f : LinkFrame) : LinkFrame := { f with replayed := false, ended := false, dropped := false }

/-- The counts and last values of the link and of Mirror that no record or containment changes. -/
def linkCounts : List RegAddr :=
  [R.FLINK_NAK_COUNT, R.FLINK_MISS_COUNT, R.FLINK_REPORT_LATE, R.FLINK_WITHHELD, R.MIRROR_ECHOES, R.MIRROR_MISMATCHES, R.MIRROR_LAST,
   R.MIRROR_EXPECT, R.MIRROR_GOT]

/-- From s to t the lanes, the counts of the link and what the blankers have said stand, and nothing that has left the block is taken back;
unless frames may be cut, the frames and the carries that wait stand too. -/
structure Stands (cuts : Bool) (s t : State) : Prop where
  rx : t.flink.rx = s.flink.rx
  events : t.flink.events = s.flink.events
  lanes : ∀ l, (t.lane l).core = (s.lane l).core
  regs : ∀ a ∈ linkCounts, t.rd a = s.rd a
  out : s.out <:+ t.out
  carries : cuts = false → t.flink.carries = s.flink.carries
  frames : cuts = false → ∀ l i, (t.frame? l i).map LinkFrame.core = (s.frame? l i).map LinkFrame.core

section Steps

variable {c : Bool} {s0 s t : State}

theorem stands_refl (c : Bool) (s : State) : Stands c s s := ⟨rfl, rfl, fun _ => rfl, fun _ _ => rfl, List.suffix_rfl, fun _ => rfl, fun _ _ _ => rfl⟩

theorem Stands.trans (a : Stands c s0 s) (b : Stands c s t) : Stands c s0 t where
  rx := b.rx.trans a.rx
  events := b.events.trans a.events
  lanes := fun l => (b.lanes l).trans (a.lanes l)
  regs := fun r hr => (b.regs r hr).trans (a.regs r hr)
  out := a.out.trans b.out
  carries := fun e => (b.carries e).trans (a.carries e)
  frames := fun e l i => (b.frames e l i).trans (a.frames e l i)

/-- Where frames may not be cut, less changes than where they may. -/
theorem Stands.cuts (h : Stands false s t) : Stands c s t :=
  ⟨h.rx, h.events, h.lanes, h.regs, h.out, fun _ => h.carries rfl, fun _ => h.frames rfl⟩

theorem stands_ite {p : Prop} [Decidable p] {a b : State} (ha : Stands c s0 a) (hb : Stands c s0 b) : Stands c s0 (if p then a else b) := by
  split
  · exact ha
  · exact hb

theorem stands_foldl {β : Type} (f : State → β → State) (hf : ∀ u b, Stands c s0 u → Stands c s0 (f u b)) (l : List β)
    (h : Stands c s0 s) : Stands c s0 (l.foldl f s) :=
  List.foldlRecOn (motive := Stands c s0) l f h (fun u hu b _ => hf u b hu)

/-- A change of other registers, not of the link. -/
theorem stands_regs {l : List RegAddr} (hr : RegsOff l s t) (hl : ∀ a ∈ linkCounts, a ∉ l) (ho : Only 295147902980329570303 s t)
    (hout : s.out <:+ t.out) (h : Stands c s0 s) : Stands c s0 t := by
  have hf : t.flink = s.flink := ho.flink rfl
  refine h.trans ⟨by rw [hf], by rw [hf], fun l => by rw [lane_congr hf], fun a ha => hr a (hl a ha), hout, fun _ => by rw [hf],
    fun _ l i => by rw [frame?_congr hf]⟩

/-- A change of no register and not of the link. -/
theorem stands_quiet (ho : Only 221360926685491363838 s t) (h : Stands c s0 s) : Stands c s0 t :=
  stands_regs (l := []) (regsOff_regs (ho.regs rfl) (regsOff_refl _ s)) (fun _ _ => List.not_mem_nil) (only_mono rfl ho)
    (by rw [ho.out rfl]) h

theorem stands_wr (a v : Nat) (ha : ∀ r ∈ linkCounts, r ≠ a) (h : Stands c s0 s) : Stands c s0 (s.wr a v) :=
  stands_regs (regsOff_wr a v (List.mem_singleton.mpr rfl) (regsOff_refl [a] s)) (fun r hr => by simpa using ha r hr)
    (only_wr _ _ rfl (only_refl _ s)) List.suffix_rfl h

theorem stands_setFld (a hi lo x : Nat) (ha : ∀ r ∈ linkCounts, r ≠ a) (h : Stands c s0 s) : Stands c s0 (s.setFld a hi lo x) :=
  stands_wr a _ ha h

theorem stands_emit (x : Out) (h : Stands c s0 s) : Stands c s0 (s.emit x) :=
  h.trans ⟨rfl, rfl, fun _ => rfl, fun _ _ => rfl, List.suffix_cons _ _, fun _ => rfl, fun _ _ _ => rfl⟩

theorem count_not_mem_recordRegs (p : Nat) : ∀ a ∈ linkCounts, a ∉ recordRegs p := by
  have hoff : ∀ a ∈ linkCounts, ¬ offOf a < 0x100 := by decide
  have hlog : ∀ a ∈ linkCounts, a ∉ logRegs := by decide
  intro a ha hm
  rcases mem_recordRegs hm with h | h
  · exact hoff a ha h
  · exact hlog a ha h

/-- A record takes nothing back of what has left the block, whatever its room. -/
theorem out_recordRaw (s : State) (a : RecArg) : s.out <:+ (s.recordRaw a).out := by
  have hcount : ∀ p, (s.countOnly p).out = s.out := fun p => (only_countOnly (mm := 4611686018427387905) p rfl (only_refl _ s)).out rfl
  unfold State.recordRaw
  dsimp only
  split
  · split
    · rw [hcount]
    · refine List.IsSuffix.trans ?_ (out_raiseIrq _ _ _)
      refine List.IsSuffix.trans ?_ (out_writeRec _ _)
      show s.out <:+ (s.countOnly a.page).out
      rw [hcount]
  · split
    · rw [hcount]
    · exact out_writeRec s a

theorem stands_recordRaw (a : RecArg) (h : Stands c s0 s) : Stands c s0 (s.recordRaw a) :=
  stands_regs (regsOff_recordRaw a (fun _ hb => hb) (regsOff_refl _ s)) (count_not_mem_recordRegs _) (only_recordRaw _ rfl (only_refl _ s))
    (out_recordRaw s a) h

theorem stands_showStripes (h : Stands c s0 s) : Stands c s0 s.showStripes := by
  have ho : Only 1 s s.showStripes := only_showStripes rfl (only_refl _ s)
  exact stands_regs (regsOff_showStripes (fun _ h => h) (regsOff_refl _ s)) (by decide) (only_mono rfl ho) (by rw [ho.out rfl]) h

theorem stands_modStripe (x : Stripe) (f : Stripe → Stripe) (h : Stands c s0 s) : Stands c s0 (s.modStripe x f) :=
  stands_quiet (only_modStripe _ _ rfl (only_refl _ s)) h

theorem stands_droverTo (n : Nat) (h : Stands c s0 s) : Stands c s0 (s.droverTo n) := by
  have hst : Stands c s0 { s with drover := { s.drover with st := n } } := stands_quiet (only_put4398046511104 rfl (only_refl _ s)) h
  exact stands_setFld _ _ _ _ (by decide) (stands_setFld _ _ _ _ (by decide) hst)

/-- Packets leave; the link stands (R603). -/
theorem stands_floodContain (cause : Nat) (h : Stands c s0 s) : Stands c s0 (s.floodContain cause) := by
  unfold State.floodContain
  refine stands_ite ?_ h
  unfold State.flood State.sendOn
  dsimp only
  refine stands_foldl _ (fun u p hu => stands_ite (stands_emit _ hu) hu) _ ?_
  exact stands_quiet (only_put2305843009213693952 rfl (only_refl _ s)) h

/-! ### The link's own steps -/

/-- A lane changed in what a containment may change. -/
theorem stands_setLane (l : Nat) {x : Lane} (hx : x.core = (s.lane l).core) (h : Stands c s0 s) : Stands c s0 (s.setLane l x) := by
  refine h.trans ⟨rfl, rfl, fun j => ?_, fun _ _ => rfl, List.suffix_rfl, fun _ => rfl, fun _ _ _ => rfl⟩
  by_cases hj : j = l
  · rw [hj, lane_setLane_same, hx]
  · rw [lane_setLane_other s x hj]

/-- Frames changed in what a containment may change. -/
theorem stands_frames {u : LinkFrame → LinkFrame} (hu : ∀ f, (u f).core = f.core) (h : Stands c s0 s) : Stands c s0 (s.modFrames u) := by
  refine h.trans ⟨rfl, rfl, fun _ => rfl, fun _ _ => rfl, List.suffix_rfl, fun _ => rfl, fun _ l i => ?_⟩
  have hplace : ∀ f, (u f).place = f.place := fun f => (congrArg LinkFrame.place (hu f) :)
  have hfind : (s.modFrames u).frame? l i = (s.frame? l i).map u := find?_place_map hplace l i _
  rw [hfind, Option.map_map]
  congr 1
  funext f
  exact hu f

theorem stands_noteSlack (l ns : Nat) (h : Stands c s0 s) : Stands c s0 (s.noteSlack l ns) := by
  obtain ⟨v, hv⟩ := noteSlack_eq s l ns
  rw [hv]
  exact h.trans ⟨rfl, rfl, fun _ => rfl, fun _ _ => rfl, List.suffix_rfl, fun _ => rfl, fun _ _ _ => rfl⟩

/-- A frame that takes the place of the one found there, and differs from it in what a containment may change. -/
theorem stands_replace {l i : Nat} {f g : LinkFrame} (hf : s.frame? l i = some f) (hg : g.core = f.core) (h : Stands c s0 s) :
    Stands c s0 (s.modFrame l i (fun _ => g)) := by
  refine h.trans ⟨rfl, rfl, fun _ => rfl, fun _ _ => rfl, List.suffix_rfl, fun _ => rfl, fun _ l' i' => ?_⟩
  have hplace : g.place = (l, i) := by
    rw [show g.place = f.place from (congrArg LinkFrame.place hg :)]
    exact Prod.ext (frame?_place hf).1 (frame?_place hf).2
  rw [frame?_modFrame s (fun _ _ => hplace)]
  cases hfind : s.frame? l' i' with
  | none => rfl
  | some e =>
    by_cases he : e.lane = l ∧ e.index = i
    · obtain ⟨hl, hi⟩ := frame?_place hfind
      rw [← hl, ← hi, he.1, he.2, hf] at hfind
      rw [Option.map_some, atPlace_eq _ he, Option.map_some, hg, Option.some.inj hfind, Option.map_some]
    · rw [Option.map_some, atPlace, if_neg he]

theorem stands_sendReplay (l index ns : Nat) (h : Stands c s0 s) : Stands c s0 (s.sendReplay l index ns) := by
  unfold State.sendReplay
  split
  · exact h
  · next f hf =>
    have hmod := stands_replace (s := s.inc R.FLINK_RETX_COUNT) (g := { f with replayed := true, ended := false }) hf rfl
      (stands_setFld _ _ _ _ (by decide) h)
    exact stands_emit _ (stands_noteSlack _ _ (stands_setLane _ (by rfl) hmod))

theorem stands_sendDue (l : Nat) (h : Stands c s0 s) : Stands c s0 (s.sendDue l) := by
  unfold State.sendDue
  exact stands_ite h (stands_foldl _ (fun _ d hu => stands_sendReplay l d.1 d.2 hu) _ (stands_setLane _ (by rfl) h))

theorem stands_resumeFrame (l : Nat) (h : Stands c s0 s) : Stands c s0 (s.resumeFrame l) := by
  unfold State.resumeFrame
  split
  · exact h
  · exact stands_emit _ h

theorem stands_allLanes (typ content : Nat) (h : Stands c s0 s) : Stands c s0 (s.allLanes typ content) :=
  stands_foldl _ (fun _ _ hu => stands_ite (stands_emit _ hu) hu) _ h

theorem stands_shadeBlocks (content : Nat) (h : Stands c s0 s) : Stands c s0 (s.shadeBlocks content) := by
  have hlanes := stands_foldl (fun u l => if (u.lane l).up then ((u.emit (.control l 0x4B content)).sendDue l).resumeFrame l else u)
    (fun u l hu => stands_ite (stands_resumeFrame l (stands_sendDue l (stands_emit _ hu))) hu) (List.range 64) h
  exact stands_quiet (only_fresh rfl (only_refl _ _)) hlanes

theorem stands_shadeOn (now : Bool) (h : Stands c s0 s) : Stands c s0 (s.shadeOn now) :=
  stands_shadeBlocks _ (h.trans ⟨rfl, rfl, fun _ => rfl, fun _ _ => rfl, List.suffix_rfl, fun _ => rfl, fun _ _ _ => rfl⟩)

/-- DISCARD drops frames and replays that are owed (R223, R235). -/
theorem stands_dropAfter (x : Stripe) (h : Int) (hs : Stands c s0 s) : Stands c s0 (s.dropAfter x h) := by
  unfold State.dropAfter
  dsimp only
  refine stands_foldl _ (fun u l hu => stands_ite hu (stands_setLane _ (by rfl) hu)) _ (stands_frames (fun f => ?_) hs)
  split <;> rfl

/-- A DISCARD noted, with what else of the state neither the link nor a register is (R235). -/
theorem stands_discard (v : Option Nat) (p : Profile) (k : KMap (List Byte)) (h : Stands c s0 s) :
    Stands c s0 { s with flink := { s.flink with discard := v }, profile := p, ckptUnits := k } :=
  h.trans ⟨rfl, rfl, fun _ => rfl, fun _ _ => rfl, List.suffix_rfl, fun _ => rfl, fun _ _ _ => rfl⟩

/-! ### Containments and records -/

theorem stands_enterContained (x : Stripe) (a : RecArg) (now : Bool) (k : Int) (h : Stands c s0 s) :
    Stands c s0 (s.enterContained x a now k) := by
  unfold State.enterContained
  dsimp only
  generalize hu : State.modStripe _ _ _ = u
  have hheld : Stands c s0 u := by
    rw [← hu]
    exact stands_modStripe _ _ (stands_recordRaw _ h)
  have hshade := stands_dropAfter x k (stands_allLanes 0x55 (lowBits 24 (x.flashBase + k)) (stands_shadeOn now (stands_droverTo 5 hheld)))
  generalize State.dropAfter _ _ _ = v at hshade ⊢
  have hregs : Stands c s0 (((v.setFld R.SYS_CKPT_STATE 3 0 1).wr R.SYS_CKPT_HELD (lowBits 32 k)).wr64 R.DROVER_HELD_L v.drover.lastIndex) :=
    stands_wr _ _ (by decide) (stands_wr _ _ (by decide) (stands_wr _ _ (by decide) (stands_setFld _ _ _ _ (by decide) hshade)))
  generalize State.wr64 _ _ _ = w at hregs ⊢
  exact stands_showStripes (stands_floodContain _ (stands_discard _ _ _ hregs))

theorem stands_containAt (a : RecArg) (now : Bool) (k : Int) (h : Stands c s0 s) : Stands c s0 (s.containAt a now k) := by
  have hnow : Stands c s0 (if now then s.shadeOn true else s) := stands_ite (stands_shadeOn _ h) h
  unfold State.containAt
  split
  · exact stands_recordRaw _ h
  · next x _ =>
    split
    · dsimp only
      split
      · refine stands_discard _ _ _ (stands_setFld _ _ _ _ (by decide) (stands_dropAfter _ _ (stands_allLanes _ _ (stands_shadeOn _ ?_))))
        exact stands_droverTo _ (stands_modStripe x _ (stands_recordRaw _ hnow))
      · exact stands_recordRaw _ hnow
    · exact stands_enterContained _ _ _ _ h

theorem stands_record (a : RecArg) (h : Stands c s0 s) : Stands c s0 (s.record a) := by
  unfold State.record
  exact stands_ite (stands_containAt _ _ _ (stands_recordRaw _ h)) (stands_recordRaw _ h)

/-! ### Frames that are cut -/

/-- Frames changed, and carries posted, where frames may be cut. -/
theorem stands_cuts {fs : List LinkFrame} {cs : List Carry} (h : Stands true s0 s) :
    Stands true s0 { s with flink := { s.flink with frames := fs, carries := cs } } :=
  h.trans ⟨rfl, rfl, fun _ => rfl, fun _ _ => rfl, List.suffix_rfl, nofun, nofun⟩

theorem stands_cutMark (f : LinkFrame) (bad : Bool) (h : Stands true s0 s) : Stands true s0 (s.cutMark f bad) := by
  unfold State.cutMark State.chain
  refine stands_record _ (stands_cuts (stands_ite (stands_record _ (stands_setFld _ _ _ _ (by decide) ?_)) ?_))
  · exact stands_cuts h
  · exact stands_cuts h

theorem stands_conflict (f : LinkFrame) (h : Stands true s0 s) : Stands true s0 (s.conflict f) := by
  unfold State.conflict State.cutFrame
  exact stands_record _ (stands_ite h (stands_cuts (stands_cutMark f _ h)))

end Steps

/-! ### A lane that goes down or fails -/

/-- The state of a lane that has gone down (R232). -/
def Lane.goneDown (x : Lane) : Lane := { x with st := 0, prevRate := x.rate, wentDown := true, naksRow := 0, silentRow := 0, due := [] }

/-- A lane in service or in low-power idle. -/
def Lane.serves (x : Lane) : Prop := x.up = true ∨ x.st = 8

theorem serves_of_core {x y : Lane} (h : y.core = x.core) (hx : x.serves) : y.serves := by
  have hst : y.st = x.st := (congrArg Lane.st h :)
  unfold Lane.serves Lane.up at *
  rwa [hst]

theorem goneDown_core {x y : Lane} (h : y.core = x.core) : y.goneDown.core = x.goneDown.core :=
  (congrArg (fun z : Lane => z.goneDown.core) h :)

/-- A lane that does not serve has not gone down (R232). -/
theorem laneDown_idle {s : State} {l : Nat} (h : ¬ (s.lane l).serves) : s.laneDown l = s := by
  unfold State.laneDown
  dsimp only
  refine if_pos ?_
  unfold Lane.serves at h
  simpa using h

/-- A lane that goes down: frames may be cut before it and the record made after it, and it stands down between (R230, R232). -/
theorem laneDown_serving {s : State} {l : Nat} (h : (s.lane l).serves) : ∃ u, Stands true s u ∧
    Stands true (u.setLane l { u.lane l with st := 0, prevRate := (s.lane l).rate, wentDown := true, naksRow := 0, silentRow := 0, due := [] })
      (s.laneDown l) := by
  unfold State.laneDown
  dsimp only
  rw [if_neg (by unfold Lane.serves at h; simpa [Decidable.imp_iff_not_or] using h)]
  exact ⟨_, stands_foldl _ (fun _ f hu => stands_conflict f hu) _ (stands_refl true s), stands_record _ (stands_refl true _)⟩

theorem lane_laneDown {s : State} {l : Nat} (h : (s.lane l).serves) (j : Nat) :
    ((s.laneDown l).lane j).core = if l = j then (s.lane l).goneDown.core else (s.lane j).core := by
  obtain ⟨u, hu, ht⟩ := laneDown_serving h
  rw [ht.lanes j, lane_setLane]
  split
  · next e =>
    have hrate : (u.lane l).rate = (s.lane l).rate := (congrArg Lane.rate (hu.lanes l) :)
    rw [← hrate]
    exact goneDown_core (hu.lanes l)
  · exact hu.lanes j

/-- What else a lane that goes down leaves of the link. -/
structure DownLeaves (s t : State) : Prop where
  rx : t.flink.rx = s.flink.rx
  events : t.flink.events = s.flink.events
  regs : ∀ a ∈ linkCounts, t.rd a = s.rd a

theorem downLeaves_laneDown (s : State) (l : Nat) : DownLeaves s (s.laneDown l) := by
  by_cases h : (s.lane l).serves
  · obtain ⟨u, hu, ht⟩ := laneDown_serving h
    exact ⟨ht.rx.trans hu.rx, ht.events.trans hu.events, fun a ha => (ht.regs a ha).trans (hu.regs a ha)⟩
  · rw [laneDown_idle h]
    exact ⟨rfl, rfl, fun _ _ => rfl⟩

/-- A lane that fails is FAILED, whatever its record brings (R215, R218). -/
theorem stands_laneFail (s : State) (l code detail : Nat) :
    Stands false (s.setLane l { s.lane l with st := 9 }) (s.laneFail l code detail) := stands_record _ (stands_refl false _)

theorem st_laneFail (s : State) (l code detail : Nat) : ((s.laneFail l code detail).lane l).st = 9 := by
  have hcore := (stands_laneFail s l code detail).lanes l
  rw [lane_setLane_same] at hcore
  exact (congrArg Lane.st hcore :)

/-- With room in the log it is that lane alone which changes. -/
theorem noted_laneFail {s : State} (l code detail : Nat) (hroom : 256 < s.logFree) :
    Noted (s.setLane l { s.lane l with st := 9 }) (s.laneFail l code detail) (laneRec code 1 l detail) := noted_record rfl hroom

theorem lane_laneFail {s : State} (l code detail : Nat) (hroom : 256 < s.logFree) (j : Nat) :
    (s.laneFail l code detail).lane j = if l = j then { s.lane l with st := 9 } else s.lane j := by
  rw [lane_congr (noted_laneFail l code detail hroom).flink, lane_setLane]

end Sys2Proof.Machine
end

section
/-! SUPPORT. What the blankers say of themselves, and return lanes (spec/07_flock_link.md). -/

namespace Sys2Proof.Machine

/-! ### Return messages -/

/-- A valid message of the type that a command takes is taken (R212, R213). -/
theorem message_taken {s : State} {m : BitVec 64} {typ : Nat} (hf : s.fatal = 0) (hok : msgOk m = true) (ht : msgType m = typ)
    (take : State → State) : s.message m typ take = .next (take s) := by
  unfold State.message
  rw [if_neg (not_not.mpr hf), if_neg (by simp [hok]), if_pos ht]

/-- A frame of the link read as an equation: what a record beside a change of the link leaves of the state. -/
theorem linkNoted_eq {s t : State} (h : Only 78398664512288849937 s t) :
    t = { s with regs := t.regs, log := t.log, flink := t.flink, trace := t.trace, out := t.out } := h.eq_takes

/-! ### Sensors and capabilities -/

/-- The reading that a SENSOR message gives of its sensor, none where it says that it has none (R237). -/
def sensorReading (m : BitVec 64) : Option Int := if fieldOf m.toNat 37 36 = 0 then some (signedOf 16 (fieldOf m.toNat 53 38)) else none

theorem exec_sensor {s : State} {m : BitVec 64} (hf : s.fatal = 0) (hok : msgOk m = true) (ht : msgType m = 5)
    (hn : msgLane m < s.headSensors) :
    exec (.sensor m) s = .next { s with flink := { s.flink with sensors := kput s.flink.sensors (msgLane m) (sensorReading m) } } := by
  show execSensor m s = _
  unfold execSensor
  rw [message_taken hf hok ht, if_neg (Nat.not_le.mpr hn)]
  rfl

theorem exec_flinkSensorSilent {s : State} {i : Nat} (hi : i < s.headSensors) (hf : s.fatal = 0) :
    exec (.flinkSensorSilent i) s = .next
      (({ s with flink := { s.flink with sensors := kput s.flink.sensors i none } }).record (laneRec Code.FLINK_SENSOR_SILENT 1 i)) := by
  show execFlinkSensorSilent i s = _
  unfold execFlinkSensorSilent
  rw [if_neg (by simp [hf, hi])]

/-- The condition of R217 that a lane with both capability words breaks at the rate that it takes to TRAIN. -/
def State.capsBroken (s : State) (l : Nat) (x : Lane) : Option Nat :=
  ((s.setLane l x).ratesOf l).head?.bind (fun r => (s.setLane l x).laneLimits { x with rate := r } (s.setLane l x).maxRate false)

section Capabilities

variable {s : State} {m : BitVec 64} {x : Lane} (hf : s.fatal = 0) (hok : msgOk m = true) (ht : msgType m = 6)
  (hst : (s.lane (msgLane m)).st = 3) (hw : fieldOf m.toNat 53 50 ≤ 1)
  (hx : (s.lane (msgLane m)).takeCaps (fieldOf m.toNat 53 50) (fieldOf m.toNat 49 8) = x)

include hf hok ht hst hw hx

/-- A capability word is taken in CAPS (R218). -/
theorem exec_blankerCaps_taken (h : x.capsDone = false ∨ s.capsBroken (msgLane m) x = none) :
    exec (.blankerCaps m) s = .next (s.setLane (msgLane m) x) := by
  subst hx
  show execBlankerCaps m s = _
  unfold execBlankerCaps
  rw [message_taken hf hok ht]
  dsimp only
  rw [if_neg (by omega)]
  unfold State.capsBroken at h
  split
  · rfl
  · next hdone =>
    rw [h.resolve_left (by simpa using hdone)]

/-- Both words stand, and break a condition of R217. -/
theorem exec_blankerCaps_broken {c : Nat} (hdone : x.capsDone = true) (hc : s.capsBroken (msgLane m) x = some c) :
    exec (.blankerCaps m) s = .next ((s.setLane (msgLane m) x).laneFail (msgLane m) Code.FLINK_LANE_CAPS c) := by
  subst hx
  show execBlankerCaps m s = _
  unfold execBlankerCaps
  rw [message_taken hf hok ht]
  dsimp only
  unfold State.capsBroken at hc
  rw [if_neg (by omega), if_neg (by simp [hdone]), hc]

end Capabilities

/-! ### Events -/

theorem exec_blankerEvent {s : State} {m : BitVec 64} {u : State} (hf : s.fatal = 0) (hok : msgOk m = true) (ht : msgType m = 7)
    (hu : { s with flink := { s.flink with events := (msgLane m, fieldOf m.toNat 53 48, fieldOf m.toNat 47 8) :: s.flink.events } } = u) :
    exec (.blankerEvent m) s = .next (if fieldOf m.toNat 53 48 = 0 then u.laneDown (msgLane m)
      else if fieldOf m.toNat 53 48 = 2 ∧ 1 ≤ (s.lane (msgLane m)).st ∧ (s.lane (msgLane m)).st ≤ 5
        then u.laneFail (msgLane m) Code.FLINK_LANE_ORDER else u) := by
  subst hu
  show execBlankerEvent m s = _
  unfold execBlankerEvent
  rw [message_taken hf hok ht]

/-- A lane that has been taken down is out of service (R232). -/
theorem up_laneDown (s : State) (l : Nat) : ((s.laneDown l).lane l).up = false := by
  by_cases h : (s.lane l).serves
  · have hcore := lane_laneDown h l
    rw [if_pos rfl] at hcore
    exact (congrArg Lane.up hcore :)
  · rw [laneDown_idle h]
    exact Bool.eq_false_iff.mpr (fun e => h (.inl e))

/-- Lanes taken down one after another: each that serves goes down, and no other changes (R232). -/
theorem lane_foldl_laneDown (ls : List Nat) (s : State) (hnd : ls.Nodup) (hs : ∀ l ∈ ls, (s.lane l).serves) (j : Nat) :
    ((ls.foldl State.laneDown s).lane j).core = if j ∈ ls then (s.lane j).goneDown.core else (s.lane j).core := by
  induction ls generalizing s with
  | nil => rfl
  | cons l ls ih =>
    obtain ⟨hl, hnd⟩ := List.nodup_cons.mp hnd
    have hdown := lane_laneDown (hs l List.mem_cons_self)
    have hother : ∀ k, k ≠ l → ((s.laneDown l).lane k).core = (s.lane k).core := fun k hk => by rw [hdown k, if_neg (Ne.symm hk)]
    rw [List.foldl_cons, ih _ hnd (fun k hk => serves_of_core (hother k (fun e => hl (e ▸ hk))) (hs k (List.mem_cons_of_mem l hk)))]
    by_cases hj : j = l
    · subst hj
      rw [if_neg hl, if_pos List.mem_cons_self, hdown j, if_pos rfl]
    · have hmem : j ∈ l :: ls ↔ j ∈ ls := by simp [hj]
      rw [goneDown_core (hother j hj), hother j hj, if_congr hmem rfl rfl]

theorem rx_foldl_laneDown (ls : List Nat) (s : State) : (ls.foldl State.laneDown s).flink.rx = s.flink.rx :=
  List.foldlRecOn (motive := fun u : State => u.flink.rx = s.flink.rx) ls _ rfl (fun u hu l _ => (downLeaves_laneDown u l).rx.trans hu)

/-- The lanes that report on a return lane and have negotiated (R209). -/
def State.reporting (s : State) (q : Nat) : List Nat := s.metLanes.filter (fun l => fieldOf (s.lane l).caps1 9 7 = q)

theorem mem_reporting {s : State} {q l : Nat} : l ∈ s.reporting q ↔ l < 64 ∧ fieldOf (s.lane l).caps1 9 7 = q ∧ (s.lane l).serves := by
  unfold State.reporting State.metLanes Lane.serves
  simp

theorem nodup_reporting (s : State) (q : Nat) : (s.reporting q).Nodup := (List.nodup_range.filter _).filter _

theorem exec_returnLaneLockLost {s : State} {q : Nat} (hq : q ≤ 7) (hrx : s.flink.rx.testBit q = true) (hf : s.fatal = 0) :
    exec (.returnLaneLockLost q) s = .next ((s.reporting q).foldl State.laneDown { s with flink := { s.flink with rx := s.flink.rx - 2 ^ q } }) := by
  show execReturnLaneLockLost q s = _
  unfold execReturnLaneLockLost
  rw [if_neg (by simp [hrx, hf, hq])]
  rfl

/-- Settles O33: each message and each limit that runs out is one equation of `exec`; a lane that fails or goes down is what
`lane_laneFail` and `lane_laneDown` say. -/
theorem blankersReport : Obligations.BlankersReport := by
  unfold Obligations.BlankersReport
  refine ⟨fun m s hf hok ht hn => ?_, fun i s hi hf hroom => ?_, fun m s hf hok ht hst hw => ?_, fun m s hf hok ht => ?_, fun q s hq hrx hf => ?_⟩
  · exact ⟨_, exec_sensor hf hok ht hn, rfl, by rw [kget?_kput, if_pos rfl]; rfl⟩
  · have hnoted := noted_record (s := { s with flink := { s.flink with sensors := kput s.flink.sensors i none } })
      (a := laneRec Code.FLINK_SENSOR_SILENT 1 i) rfl hroom
    refine ⟨_, exec_flinkSensorSilent hi hf, linkNoted_eq (only_trans (only_put2199023255552 rfl (only_refl _ s)) (only_mono rfl hnoted.only)), ?_,
      hnoted.newest⟩
    rw [hnoted.flink, kget?_kput, if_pos rfl]
  · dsimp only
    generalize hx : (s.lane (msgLane m)).takeCaps (fieldOf m.toNat 53 50) (fieldOf m.toNat 49 8) = x
    have hset : ∀ l, l ≠ msgLane m → (s.setLane (msgLane m) x).lane l = s.lane l := fun l hl => lane_setLane_other s x hl
    by_cases h : x.capsDone = false ∨ s.capsBroken (msgLane m) x = none
    · refine ⟨_, exec_blankerCaps_taken hf hok ht hst hw hx h, fun _ => ⟨rfl, lane_setLane_same _ _ _, hset⟩, fun c hdone hbroken _ => ?_⟩
      rcases h with h | h
      · rw [hdone] at h
        cases h
      · cases h.symm.trans hbroken
    · obtain ⟨hdone, hbroken⟩ := not_or.mp h
      obtain ⟨d, hd⟩ := Option.ne_none_iff_exists'.mp hbroken
      refine ⟨_, exec_blankerCaps_broken hf hok ht hst hw hx (Bool.not_eq_false _ ▸ hdone) hd, fun h' => absurd h' h, fun c _ hc hroom => ?_⟩
      obtain rfl : d = c := Option.some.inj (hd.symm.trans hc)
      have hfails := lane_laneFail (s := s.setLane (msgLane m) x) (msgLane m) Code.FLINK_LANE_CAPS d hroom
      have hnoted := noted_laneFail (s := s.setLane (msgLane m) x) (msgLane m) Code.FLINK_LANE_CAPS d hroom
      refine ⟨?_, fun l hl => ?_, hnoted.newest⟩
      · rw [hfails, if_pos rfl, lane_setLane_same]
      · rw [hfails, if_neg (Ne.symm hl), hset l hl]
  · have hexec := exec_blankerEvent hf hok ht rfl
    generalize hu : ({ s with flink := { s.flink with events := (msgLane m, fieldOf m.toNat 53 48, fieldOf m.toNat 47 8) :: s.flink.events } } : State) = u at hexec
    have hevents : u.flink.events = (msgLane m, fieldOf m.toNat 53 48, fieldOf m.toNat 47 8) :: s.flink.events := by rw [← hu]
    refine ⟨_, hexec, ?_, fun h0 => ?_, fun h2 hlo hhi => ?_, fun h0 h2 => ?_⟩
    · rw [← hevents]
      split
      · exact (downLeaves_laneDown u _).events
      · split
        · exact (stands_laneFail u _ _ _).events
        · rfl
    · rw [if_pos h0]
      exact up_laneDown u _
    · rw [if_neg (by omega), if_pos ⟨h2, hlo, hhi⟩]
      exact st_laneFail u _ _ _
    · rw [if_neg h0, if_neg (fun h => h2 h.1), ← hu]
      exact ⟨rfl, rfl, fun _ => rfl⟩
  · refine ⟨_, exec_returnLaneLockLost hq hrx hf, rx_foldl_laneDown _ _, fun l hl => ?_⟩
    have hcore := lane_foldl_laneDown (s.reporting q) { s with flink := { s.flink with rx := s.flink.rx - 2 ^ q } } (nodup_reporting s q)
      (fun l hl => (mem_reporting.mp hl).2.2) l
    split
    next h =>
      rw [if_pos (mem_reporting.mpr ⟨by omega, h.2, h.1⟩)] at hcore
      exact ⟨(congrArg Lane.st hcore :), (congrArg Lane.prevRate hcore :), (congrArg Lane.wentDown hcore :), (congrArg Lane.naksRow hcore :),
        (congrArg Lane.silentRow hcore :)⟩
    next h =>
      rw [if_neg (fun hm => h (mem_reporting.mp hm).2.symm)] at hcore
      exact ⟨(congrArg Lane.st hcore :), (congrArg Lane.rate hcore :), (congrArg Lane.seq hcore :)⟩

end Sys2Proof.Machine
end

section
/-! SUPPORT. The training of a forward lane, low-power idle and the eye scan (spec/07_flock_link.md). -/

namespace Sys2Proof.Machine

/-! ### What training does to a lane -/

/-- The state of a lane that comes into service (R218, R226, R242). -/
def State.idleLane (s : State) (l : Nat) : Lane :=
  { s.lane l with st := 6, width := s.fld R.SHEPHERD_CODE_WIDTH 2 0, wentDown := false, quick := false, naksRow := 0, silentRow := 0,
                  echoLeft := s.fld R.MIRROR_WINDOW 15 0, taken := [], since := s.nextIndex, due := [] }

theorem laneIdle_eq (s : State) (l : Nat) :
    s.laneIdle l = (((s.setLane l (s.idleLane l)).emit (.control l 0x66 s.nextIndex)).emit (.control l 0x1E 0)).laneComes l := rfl

theorem lane_laneIdle (s : State) (l j : Nat) : (s.laneIdle l).lane j = if l = j then s.idleLane l else s.lane j := by
  rw [laneIdle_eq, lane_congr ((only_laneComes (mm := 54043195528445952) l rfl (only_refl _ _)).flink rfl)]
  exact lane_setLane s l j _

theorem out_laneIdle (s : State) (l : Nat) : (s.laneIdle l).out = .control l 0x1E 0 :: .control l 0x66 s.nextIndex :: s.out := by
  rw [laneIdle_eq, (only_laneComes (mm := 54043195528445952) l rfl (only_refl _ _)).out rfl]
  rfl

/-- A trained lane in service, with its record in the keep (R218, R536). -/
def State.laneServes (s : State) (l : Nat) : State :=
  ((s.laneIdle l).setLane l { (s.laneIdle l).lane l with prevRate := (s.lane l).rate }).keepLane l

theorem laneUp_eq (s : State) (l : Nat) : s.laneUp l =
    if (s.lane l).rate < (s.lane l).prevRate then (s.laneServes l).record (laneRec Code.FLINK_RATE_DOWN 0 l) else s.laneServes l := rfl

theorem lane_laneServes (s : State) (l j : Nat) :
    (s.laneServes l).lane j = if l = j then { s.idleLane l with prevRate := (s.lane l).rate } else s.lane j := by
  unfold State.laneServes
  rw [lane_congr ((only_keepLane (mm := 37029163484240150561) l rfl (only_refl _ _)).flink rfl), lane_setLane, lane_laneIdle, lane_laneIdle]
  split
  · rw [if_pos rfl]
  · rfl

theorem out_laneServes (s : State) (l : Nat) : (s.laneServes l).out = .control l 0x1E 0 :: .control l 0x66 s.nextIndex :: s.out := by
  unfold State.laneServes
  rw [(only_keepLane (mm := 37029163484240150561) l rfl (only_refl _ _)).out rfl]
  exact out_laneIdle s l

theorem logFree_laneServes (s : State) (l : Nat) : (s.laneServes l).logFree = s.logFree := by
  have hidle : (s.laneIdle l).log = s.log := (only_laneIdle (mm := 73841021689389907968) l rfl (only_refl _ _)).log rfl
  unfold State.logFree State.laneServes
  rw [(only_keepLane (mm := 37029163484240150561) l rfl (only_refl _ _)).log rfl]
  show 16384 - (s.laneIdle l).log.used = _
  rw [hidle]

/-- Whatever the record of a lower rate brings, the lane serves (R218). -/
theorem stands_laneUp (s : State) (l : Nat) : Stands false (s.laneServes l) (s.laneUp l) := by
  rw [laneUp_eq]
  exact stands_ite (stands_record _ (stands_refl _ _)) (stands_refl _ _)

theorem flink_laneUp {s : State} (l : Nat) (hroom : 256 < s.logFree) : (s.laneUp l).flink = (s.laneServes l).flink := by
  rw [laneUp_eq]
  split
  · exact (noted_record rfl (by rwa [logFree_laneServes])).flink
  · rfl

/-- The state of a lane that begins training (R218, R219). -/
def State.retrained (s : State) (l : Nat) : Lane :=
  { s.lane l with st := 1, got := 0, wentDown := false, naksRow := 0, silentRow := 0, quick := false, due := [], tested := [],
                  prevRate := if (s.lane l).up then (s.lane l).rate else (s.lane l).prevRate }

theorem lane_retrainLane (s : State) (l j : Nat) : (s.retrainLane l).lane j = if l = j then s.retrained l else s.lane j :=
  lane_setLane s l j (s.retrained l)

/-- The content of a lane's CONFIG block (R211, R218). -/
def State.laneConfig (s : State) (l : Nat) : Nat :=
  (s.lane l).rate + s.fld R.SHEPHERD_CODE_WIDTH 2 0 * 4 + s.leadL * 32 + (fieldOf (s.lane l).caps0 30 26 - 1) * 256 +
    fieldOf (s.lane l).caps0 25 25 * 4096

/-! ### The steps of training -/

section Training

variable {s : State} {l : Nat} (hl : l ≤ 63) (hf : s.fatal = 0)

include hl hf

theorem exec_laneBlockLock_detects (hst : (s.lane l).st = 1) :
    exec (.laneBlockLock l false) s = .next (s.setLane l { s.lane l with st := 2 }) := by
  show execLaneBlockLock l false s = _
  unfold execLaneBlockLock
  dsimp only
  rw [if_neg (by omega), if_neg Bool.false_ne_true, if_pos hst]

theorem exec_laneBlockLock_locks (hst : (s.lane l).st = 2) (hq : (s.lane l).quick = false) :
    exec (.laneBlockLock l false) s = .next ((s.setLane l { s.lane l with st := 3, got := 0 }).emit
      (.control l 0x87 (s.fld R.FLINK_CFG 3 0 + 6 * 16 + 128 + 8 * 256))) := by
  show execLaneBlockLock l false s = _
  unfold execLaneBlockLock
  dsimp only
  rw [if_neg (by omega), if_neg Bool.false_ne_true, if_neg (by omega), if_neg (by simp [hq])]

theorem exec_laneBlockLock_wakes (hst : (s.lane l).st = 2) (hq : (s.lane l).quick = true) (hn : s.tooNarrow l = false) :
    exec (.laneBlockLock l false) s = .next (s.laneIdle l) := by
  show execLaneBlockLock l false s = _
  unfold execLaneBlockLock
  dsimp only
  rw [if_neg (by omega), if_neg Bool.false_ne_true, if_neg (by omega), if_pos hq, if_neg (by simp [hn])]

theorem exec_laneBlockLock_disordered (hst : (s.lane l).st = 1 ∨ (s.lane l).st = 2) :
    exec (.laneBlockLock l true) s = .next (s.laneFail l Code.FLINK_LANE_ORDER) := by
  show execLaneBlockLock l true s = _
  unfold execLaneBlockLock
  dsimp only
  rw [if_neg (by omega), if_pos rfl]

theorem exec_laneCapsDone {r : Nat} (hst : (s.lane l).st = 3) (hdone : (s.lane l).capsDone = true)
    (hrx : s.flink.rx.testBit (fieldOf (s.lane l).caps1 9 7) = true) (hr : (s.ratesOf l).head? = some r) (hn : s.tooNarrow l = false) :
    exec (.laneCapsDone l) s = .next (s.setLane l { s.lane l with st := 4, rate := r }) := by
  obtain ⟨rs, hrs⟩ := List.head?_eq_some_iff.mp hr
  show execLaneCapsDone l s = _
  unfold execLaneCapsDone
  dsimp only
  rw [if_neg (by simp [hl, hst, hdone, hrx, hf]), hrs]
  dsimp only
  rw [if_neg (by simp [hn])]

/-- An eye that is wide enough: VERIFY begins, with CONFIG and the test frames (R215, R218). -/
theorem exec_laneEyeMeasured_verifies {w h : Nat} (hst : (s.lane l).st = 4) (hw : (s.eyeMin l).1 ≤ w) (hh : (s.eyeMin l).2 ≤ h) :
    exec (.laneEyeMeasured l w h) s = .next (((s.setLane l { s.lane l with
      st := 5, eyeW := w, eyeH := h, seq := ((s.lane l).seq + 1024) % 65536, tested := [] }).emit (.control l 0x78 (s.laneConfig l))).emit
        (.tests l (s.testFrames l (s.lane l).seq))) := by
  show execLaneEyeMeasured l w h s = _
  unfold execLaneEyeMeasured
  dsimp only
  rw [if_neg (by omega), if_pos ⟨hw, hh⟩]
  rfl

/-- One that is not: TRAIN again, at the next lower rate (R215). -/
theorem exec_laneEyeMeasured_lowers {w h r : Nat} (hst : (s.lane l).st = 4) (heye : w < (s.eyeMin l).1 ∨ h < (s.eyeMin l).2)
    (hr : (s.ratesOf l).find? (fun r => decide (r < (s.lane l).rate)) = some r) :
    exec (.laneEyeMeasured l w h) s = .next (s.setLane l { s.lane l with rate := r, eyeW := w, eyeH := h }) := by
  show execLaneEyeMeasured l w h s = _
  unfold execLaneEyeMeasured
  dsimp only
  rw [if_neg (by omega), if_neg (by omega), hr]

theorem exec_laneVerifyDone (hst : (s.lane l).st = 5) (hn : s.tooNarrow l = false) (hlim : s.laneLimits (s.lane l) s.maxRate true = none) :
    exec (.laneVerifyDone l true) s = .next (s.laneUp l) := by
  show execLaneVerifyDone l true s = _
  unfold execLaneVerifyDone
  dsimp only
  rw [if_neg (by omega), if_neg (by simp [hn]), hlim]

theorem exec_flinkTrainFail (hlo : 1 ≤ (s.lane l).st) (hhi : (s.lane l).st ≤ 5) :
    exec (.flinkTrainFail l) s = .next (s.laneFail l Code.FLINK_TRAIN_FAIL) := by
  show execFlinkTrainFail l s = _
  unfold execFlinkTrainFail
  rw [if_neg (by omega)]

theorem exec_laneRetrainTurnaround (hdown : (s.lane l).wentDown = true) (hon : s.enabled 17 = true)
    (hs : ∀ x ∈ s.stripes, x.st ≠ .writing ∧ x.st ≠ .draining ∧ x.st ≠ .contained) :
    exec (.laneRetrainTurnaround l) s = .next (s.retrainLane l) := by
  have hnone : s.stripes.any (fun t => t.st = .writing ∨ t.st = .draining ∨ t.st = .contained) = false := by
    refine List.any_eq_false.mpr (fun x hx => ?_)
    obtain ⟨hw, hd, hc⟩ := hs x hx
    simp [hw, hd, hc]
  show execLaneRetrainTurnaround l s = _
  unfold execLaneRetrainTurnaround
  rw [hdown, hon, hnone, if_neg (by simp [hl, hf])]

theorem exec_lpiEntry (hst : (s.lane l).st = 6) (hidle : s.anyArmed = false ∨ s.clockHeld = true) :
    exec (.lpiEntry l) s = .next ((s.setLane l { s.lane l with st := 8 }).emit (.control l 0x99 0)) := by
  have hfree : ¬ (s.anyArmed = true ∧ (!s.clockHeld) = true) := by
    rcases hidle with h | h <;> simp [h]
  show execLpiEntry l s = _
  unfold execLpiEntry
  rw [if_neg (by rintro (h | h | h | h) <;> [omega; exact h hst; exact hfree h; exact h hf])]

end Training

theorem exec_laneEyeScan {s : State} {l : Nat} (hl : l ≤ 63) (hst : (s.lane l).st = 6) (hw : s.writing = none) (w h : Nat) :
    exec (.laneEyeScan l w h) s = .next (s.setLane l { s.lane l with eyeW := w, eyeH := h }) := by
  show execLaneEyeScan l w h s = _
  unfold execLaneEyeScan
  rw [if_neg (by simp [hl, hst, hw])]

/-! ### RETRAIN -/

section Retrain

variable {s : State} {l v : Nat} {o : Origin} (hp : s.permit o R.FLINK_RETRAIN v = .ok s) (hon : s.enabled 17 = true)
  (hone : fieldOf v 8 8 = 0) (hlane : fieldOf v 5 0 = l)

include hp hon hone hlane

/-- RETRAIN of one lane while no stripe writes: at once (R219). -/
theorem exec_retrain_now (hw : s.writing = none) :
    ∃ r, exec (.retrain o v) s = .next ({ s with trace := r }.retrainLane l) := by
  obtain ⟨r, hr⟩ := traceRec_eq s (pageOf R.FLINK_RETRAIN) 0 (offOf R.FLINK_RETRAIN) [v, o.code]
  refine ⟨r, ?_⟩
  show execRetrain o v s = _
  unfold execRetrain State.act
  rw [hp]
  dsimp only
  rw [hr, if_neg (c := fieldOf v 8 8 = 1) (by omega), hlane, show State.enabled { s with trace := r } 17 = true from hon,
    show State.writing { s with trace := r } = none from hw]
  rfl

/-- While one writes: after the stripe (R219; log entry 23). -/
theorem exec_retrain_waits (hw : s.writing ≠ none) :
    ∃ r, exec (.retrain o v) s = .next ({ s with trace := r }.setLane l { s.lane l with wentDown := true }) := by
  obtain ⟨r, hr⟩ := traceRec_eq s (pageOf R.FLINK_RETRAIN) 0 (offOf R.FLINK_RETRAIN) [v, o.code]
  obtain ⟨x, hx⟩ := Option.ne_none_iff_exists'.mp hw
  refine ⟨r, ?_⟩
  show execRetrain o v s = _
  unfold execRetrain State.act
  rw [hp]
  dsimp only
  rw [hr, if_neg (c := fieldOf v 8 8 = 1) (by omega), hlane, show State.enabled { s with trace := r } 17 = true from hon,
    show State.writing { s with trace := r } = some x from hx]
  rfl

end Retrain

/-! ### The statement -/

/-- A lane that comes into service after its training (R218). -/
theorem laneUp_serves (s : State) (l : Nat) : ((s.laneUp l).lane l).st = 6 ∧ ((s.laneUp l).lane l).rate = (s.lane l).rate ∧
    ((s.laneUp l).lane l).width = s.fld R.SHEPHERD_CODE_WIDTH 2 0 ∧ ((s.laneUp l).lane l).wentDown = false ∧
    Out.control l 0x66 s.nextIndex ∈ (s.laneUp l).out := by
  have hstands := stands_laneUp s l
  have hcore := hstands.lanes l
  rw [lane_laneServes, if_pos rfl] at hcore
  refine ⟨(congrArg Lane.st hcore :), (congrArg Lane.rate hcore :), (congrArg Lane.width hcore :), (congrArg Lane.wentDown hcore :),
    hstands.out.subset ?_⟩
  rw [out_laneServes]
  simp

/-- With room in the log no other lane changes. -/
theorem lane_laneUp_other {s : State} {l j : Nat} (hroom : 256 < s.logFree) (hj : j ≠ l) : (s.laneUp l).lane j = s.lane j := by
  rw [lane_congr (flink_laneUp l hroom), lane_laneServes, if_neg (Ne.symm hj)]

/-- A lane that fails: FAILED, and with room in the log the one record tells it (R215, R218). -/
theorem laneFail_fails (s : State) (l code : Nat) : ((s.laneFail l code).lane l).st = 9 ∧
    (256 < s.logFree → (s.laneFail l code).lane l = { s.lane l with st := 9 } ∧ (s.laneFail l code).newest code 1 8 l 0 0) := by
  refine ⟨st_laneFail s l code 0, fun hroom => ⟨?_, (noted_laneFail l code 0 hroom).newest⟩⟩
  rw [lane_laneFail l code 0 hroom, if_pos rfl]

/-- Settles O34: each step of training is one equation of `exec`, that sets the lane, fails it, or brings it into service. -/
theorem lanesTrain : Obligations.LanesTrain := by
  unfold Obligations.LanesTrain
  intro l s hl hf
  have hsame : ∀ x, (s.setLane l x).lane l = x := lane_setLane_same s l
  have hother : ∀ x j, j ≠ l → (s.setLane l x).lane j = s.lane j := fun x j hj => lane_setLane_other s x hj
  refine ⟨fun hst => ?_, fun hst => ⟨fun hq => ?_, fun hq hn => ?_⟩, fun hst => ?_, fun r hst hdone hrx hr hn => ?_,
    fun w h hst => ⟨fun hw hh => ?_, fun r heye hr => ?_⟩, fun hst hn hlim => ?_, fun hlo hhi => ?_, fun o v hp hon hone hlane => ?_,
    fun hdown hon hs => ?_, fun hst => ⟨fun hidle => ?_, fun w h hw => ?_⟩⟩
  · exact ⟨_, exec_laneBlockLock_detects hl hf hst, rfl, hsame _, hother _⟩
  · exact ⟨_, exec_laneBlockLock_locks hl hf hst hq, hsame _, rfl, hother _⟩
  · have hlanes := lane_laneIdle s l
    refine ⟨_, exec_laneBlockLock_wakes hl hf hst hq hn, ?_, ?_, ?_, fun j hj => ?_⟩
    · rw [hlanes, if_pos rfl]
      rfl
    · rw [hlanes, if_pos rfl]
      rfl
    · rw [out_laneIdle]
      simp
    · rw [hlanes, if_neg (Ne.symm hj)]
  · exact ⟨_, exec_laneBlockLock_disordered hl hf hst, laneFail_fails s l _⟩
  · exact ⟨_, exec_laneCapsDone hl hf hst hdone hrx hr hn, rfl, hsame _, hother _⟩
  · exact ⟨_, exec_laneEyeMeasured_verifies hl hf hst hw hh, rfl, hsame _, hother _, rfl⟩
  · exact ⟨_, exec_laneEyeMeasured_lowers hl hf hst heye hr, rfl, hsame _, hother _⟩
  · obtain ⟨hup, hrate, hwidth, hdown, hout⟩ := laneUp_serves s l
    exact ⟨_, exec_laneVerifyDone hl hf hst hn hlim, hup, hrate, hwidth, hdown, hout, fun hroom j hj => lane_laneUp_other hroom hj⟩
  · exact ⟨_, exec_flinkTrainFail hl hf hlo hhi, laneFail_fails s l _⟩
  · by_cases hw : s.writing = none
    · obtain ⟨r, hexec⟩ := exec_retrain_now hp hon hone hlane hw
      have hlanes := lane_retrainLane { s with trace := r } l
      refine ⟨_, hexec, rfl, fun j hj => ?_, ?_⟩
      · rw [hlanes, if_neg (Ne.symm hj)]
        rfl
      · rw [if_pos hw, hlanes, if_pos rfl]
        exact ⟨rfl, rfl, rfl⟩
    · obtain ⟨r, hexec⟩ := exec_retrain_waits hp hon hone hlane hw
      refine ⟨_, hexec, rfl, hother _, ?_⟩
      rw [if_neg hw]
      exact ⟨hsame _, rfl⟩
  · have hlanes := lane_retrainLane s l
    refine ⟨_, exec_laneRetrainTurnaround hl hf hdown hon hs, rfl, ?_, ?_, fun j hj => ?_⟩
    · rw [hlanes, if_pos rfl, State.retrained]
    · rw [hlanes, if_pos rfl, State.retrained]
    · rw [hlanes, if_neg (Ne.symm hj)]
  · exact ⟨_, exec_lpiEntry hl hf hst hidle, rfl, hsame _⟩
  · exact ⟨_, exec_laneEyeScan hl hst hw w h, rfl, hsame _⟩

end Sys2Proof.Machine
end

section
/-! SUPPORT. Frames sent, withheld, acknowledged and replayed (spec/07_flock_link.md). -/

namespace Sys2Proof.Machine

/-! ### A frame sent -/

/-- The frames of a stripe that a lane has yet to send, in their order (R223). -/
def State.unsent (s : State) (lane : Nat) (x : Stripe) : List LinkFrame :=
  sortBy (·.index) (s.flink.frames.filter (fun f => f.lane = lane && f.ord = x.ord && !f.sent && !f.withheld && !f.dropped))

theorem lane_of_unsent {s : State} {lane : Nat} {x : Stripe} {f : LinkFrame} (h : (s.unsent lane x).head? = some f) : f.lane = lane := by
  have hmem := (List.mem_filter.mp (mem_of_mem_sortBy (List.mem_of_mem_head? h))).2
  simp only [Bool.and_eq_true, decide_eq_true_eq, and_assoc] at hmem
  exact hmem.1

theorem boundaryOf_idle {s : State} {l : Nat} (h : (s.lane l).due = []) : s.boundaryOf l = s := if_pos h

section FrameSend

variable {s : State} {lane : Nat} {slack : Option Nat} {x : Stripe} {f : LinkFrame} (lateNs : Nat) (hx : s.sending = some x)
  (hf : (s.unsent lane x).head? = some f) (hlimit : (f.flash : Int) ≤ s.sendLimit x)

include hx hf hlimit

theorem exec_frameSend_sends (hup : (s.lane lane).up = true) (hdue : (s.lane lane).due = []) (hroom : s.entries lane < 8)
    (htime : slack ≠ none ∨ s.runFresh x = true) : exec (.frameSend lane slack lateNs) s = .next (s.sendFrame f slack lateNs) := by
  obtain ⟨fs, hfs⟩ := List.head?_eq_some_iff.mp hf
  have hsends : ¬ ((!(s.lane lane).up) = true ∨ s.entries lane ≥ 8 ∨ (slack.isNone = true ∧ (!s.runFresh x) = true)) := by
    rintro (h | h | ⟨hnone, hstale⟩)
    · simp [hup] at h
    · omega
    · rcases htime with h | h
      · exact h (Option.isNone_iff_eq_none.mp hnone)
      · simp [h] at hstale
  show execFrameSend lane slack lateNs s = _
  unfold execFrameSend
  unfold State.unsent at hfs
  rw [hx]
  dsimp only
  rw [hfs]
  dsimp only
  rw [if_neg (by omega), if_neg hsends, boundaryOf_idle hdue]

theorem exec_frameSend_withholds (h : (s.lane lane).up = false ∨ 8 ≤ s.entries lane ∨ (slack = none ∧ s.runFresh x = false)) :
    exec (.frameSend lane slack lateNs) s = .next (s.withhold f) := by
  obtain ⟨fs, hfs⟩ := List.head?_eq_some_iff.mp hf
  show execFrameSend lane slack lateNs s = _
  unfold execFrameSend
  unfold State.unsent at hfs
  rw [hx]
  dsimp only
  rw [hfs]
  dsimp only
  rw [if_neg (by omega), if_pos (by simpa using h)]

end FrameSend

/-- A frame as it goes to the blankers (R222, R242). -/
def State.sentAs (s : State) (f : LinkFrame) : LinkFrame := { f with sent := true, seq := (s.lane f.lane).seq, echoReq := s.wantsEcho f.lane }

/-- Its lane then (R218, R222, R233). -/
def State.sentLane (s : State) (f : LinkFrame) (lateNs : Nat) : Lane :=
  { s.lane f.lane with st := 7, seq := ((s.lane f.lane).seq + 1) % 65536, echoLeft := (s.lane f.lane).echoLeft - 1, late := lateNs }

/-- The frames of the link then: those that the lane had sent before are known to have left. -/
def State.sentFrames (s : State) (f : LinkFrame) : List LinkFrame :=
  s.flink.frames.map (fun h => if h.lane = f.lane ∧ h.index = f.index then s.sentAs f
    else if h.lane = f.lane ∧ h.sent = true then { h with ended := true } else h)

/-- The link with the frame sent. -/
def State.linkSent (s : State) (f : LinkFrame) (lateNs : Nat) : State :=
  ((s.setLane f.lane (s.sentLane f lateNs)).modFrames (fun h => if h.lane = f.lane ∧ h.sent then { h with ended := true } else h)).modFrame
    f.lane f.index (fun _ => s.sentAs f)

theorem frames_linkSent (s : State) (f : LinkFrame) (lateNs : Nat) : (s.linkSent f lateNs).flink.frames = s.sentFrames f := by
  show (s.flink.frames.map _).map (atPlace f.lane f.index (fun _ => s.sentAs f)) = _
  rw [List.map_map]
  refine List.map_congr_left (fun h _ => ?_)
  show atPlace f.lane f.index _ (if h.lane = f.lane ∧ h.sent = true then { h with ended := true } else h) = _
  split <;> rfl

theorem lane_linkSent (s : State) (f : LinkFrame) (lateNs j : Nat) :
    (s.linkSent f lateNs).lane j = if f.lane = j then s.sentLane f lateNs else s.lane j :=
  lane_setLane s f.lane j (s.sentLane f lateNs)

theorem sendFrame_eq (s : State) (f : LinkFrame) (slack : Option Nat) (lateNs : Nat) : ∃ u v, u = s.linkSent f lateNs ∧
    s.sendFrame f slack lateNs = ({ u with flink := { u.flink with slack := v } }.setFld R.FLINK_BANK 3 0 f.bank).emit
      (.frame f.lane f.index false (s.sentAs f).blocks) := by
  cases slack with
  | none =>
    exact ⟨_, s.flink.slack, rfl, rfl⟩
  | some ns =>
    obtain ⟨v, hv⟩ := noteSlack_eq (s.linkSent f lateNs) f.lane ns
    refine ⟨_, v, rfl, ?_⟩
    rw [← hv]
    rfl

/-- A frame sent in its turn (R222, R223). -/
theorem sendFrame_sends (s : State) (f : LinkFrame) (slack : Option Nat) (lateNs : Nat) {t : State} (ht : s.sendFrame f slack lateNs = t) :
    t = { s with regs := t.regs, flink := t.flink, out := .frame f.lane f.index false (s.sentAs f).blocks :: s.out } ∧
    t.flink.frames = s.sentFrames f ∧ t.lane f.lane = s.sentLane f lateNs ∧ (∀ l, l ≠ f.lane → t.lane l = s.lane l) ∧
    s.regsBut t [R.FLINK_BANK] ∧ t.fld R.FLINK_BANK 3 0 = f.bank % 16 := by
  obtain ⟨u, v, hu, he⟩ := sendFrame_eq s f slack lateNs
  obtain rfl := he.symm.trans ht
  have honly : Only 2199023255552 s u := by
    rw [hu]
    exact only_modFrame _ _ _ rfl (only_put2199023255552 rfl (only_setLane _ _ rfl (only_refl _ s)))
  have hregs : RegsOff [] s u := regsOff_regs (honly.regs rfl) (regsOff_refl _ s)
  have hframes : u.flink.frames = s.sentFrames f := by rw [hu, frames_linkSent]
  have hlanes : ∀ j, u.lane j = if f.lane = j then s.sentLane f lateNs else s.lane j := by
    intro j
    rw [hu, lane_linkSent]
  refine ⟨?_, hframes, (hlanes f.lane).trans (if_pos rfl), fun l hl => (hlanes l).trans (if_neg (Ne.symm hl)), fun a ha => ?_, ?_⟩
  · rw [honly.eq_takes]
    rfl
  · exact (rd_setFld_other _ _ _ (fun e => ha (by simp [e]))).trans (hregs a List.not_mem_nil)
  · exact fld_setFld_low4 _ _ _

/-! ### A frame withheld -/

/-- A frame withheld where its record finds room: its doses return, and it is counted (R224). -/
theorem withhold_withholds {s : State} (f : LinkFrame) (hroom : 256 < s.logFree) {t : State} (ht : s.withhold f = t) :
    t = { s with regs := t.regs, log := t.log, flink := t.flink, trace := t.trace, out := t.out } ∧
    t.flink.carries = s.flink.carries ++ f.carry f.slots ∧
    t.flink.frames = s.flink.frames.map (atPlace f.lane f.index (fun g => { g with withheld := true, settled := true, returned := f.slots })) ∧
    t.rd R.FLINK_WITHHELD = min (2 ^ 32 - 1) (s.rd R.FLINK_WITHHELD + 1) ∧
    t.newest Code.FLINK_WITHHELD 1 4 f.lane 0xFFF (f.index % 2 ^ 24) := by
  subst ht
  unfold State.withhold
  dsimp only
  generalize hu : State.countMiss _ f.lane 1 = u
  have honly : Only 2199023255553 s u := by
    rw [← hu]
    exact only_countMiss _ _ rfl (only_inc _ rfl (only_modFrame _ _ _ rfl (only_post _ rfl (only_refl _ s))))
  have hfree : u.logFree = s.logFree := by
    unfold State.logFree
    rw [honly.log rfl]
  have hnoted := noted_record (s := u) (a := { linkRec Code.FLINK_WITHHELD 1 f.lane 0xFFF f.index with stripe := s.frameStripe f }) rfl
    (hfree ▸ hroom)
  refine ⟨linkNoted_eq (only_trans (only_mono rfl honly) (only_mono rfl hnoted.only)), ?_, ?_, ?_, hnoted.newest⟩
  · rw [hnoted.flink, ← hu]
    rfl
  · rw [hnoted.flink, ← hu]
    rfl
  · rw [hnoted.regs _ (count_not_mem_recordRegs _ _ (by decide)), ← hu]
    exact (rd_setFld_other _ _ _ (by decide)).trans (rd_bump_whole _ _ 1)

end Sys2Proof.Machine
end

section
/-! SUPPORT. Frames acknowledged, not acknowledged and replayed (spec/07_flock_link.md). -/

namespace Sys2Proof.Machine

/-! ### A replay that leaves -/

/-- A replay as it leaves (R222, R227). -/
theorem sendReplay_sends {s : State} {l i : Nat} {g : LinkFrame} (hg : s.frame? l i = some g) (ns : Nat) :
    ((s.sendReplay l i ns).lane l).due = (s.lane l).due ∧
    (s.sendReplay l i ns).out = .frame l i true { g with replayed := true, ended := false }.blocks :: s.out ∧
    (s.sendReplay l i ns).rd R.FLINK_RETX_COUNT = min (2 ^ 32 - 1) (s.rd R.FLINK_RETX_COUNT + 1) := by
  unfold State.sendReplay
  rw [hg]
  dsimp only
  generalize hu : State.modFrame _ l i _ = u
  have hdue : ((u.setLane l { u.lane l with echoLeft := u.fld R.MIRROR_WINDOW 15 0 }).lane l).due = (u.lane l).due := by
    rw [lane_setLane_same]
  obtain ⟨v, hv⟩ := noteSlack_eq (u.setLane l { u.lane l with echoLeft := u.fld R.MIRROR_WINDOW 15 0 }) l ns
  rw [hv]
  refine ⟨hdue.trans ?_, ?_, ?_⟩
  · rw [← hu]
    rfl
  · rw [← hu]
    rfl
  · rw [← hu]
    exact rd_bump_whole s _ 1

theorem resumeFrame_cases (s : State) (l : Nat) : s.resumeFrame l = s ∨ ∃ o, s.resumeFrame l = s.emit o := by
  unfold State.resumeFrame
  split
  · exact .inl rfl
  · exact .inr ⟨_, rfl⟩

/-- The one replay that a lane owes leaves at its next block boundary (R227; log entry 164). -/
theorem boundaryOf_sends {s : State} {l i ns : Nat} {g : LinkFrame} (hdue : (s.lane l).due = [(i, ns)]) (hg : s.frame? l i = some g) :
    ((s.boundaryOf l).lane l).due = [] ∧ Out.frame l i true { g with replayed := true, ended := false }.blocks ∈ (s.boundaryOf l).out ∧
    (s.boundaryOf l).rd R.FLINK_RETX_COUNT = min (2 ^ 32 - 1) (s.rd R.FLINK_RETX_COUNT + 1) := by
  have hone : s.sendDue l = (s.setLane l { s.lane l with due := [] }).sendReplay l i ns := by
    unfold State.sendDue
    rw [if_neg (by simp [hdue]), hdue]
    rfl
  obtain ⟨hlane, hout, hcount⟩ := sendReplay_sends (s := s.setLane l { s.lane l with due := [] }) hg ns
  rw [lane_setLane_same] at hlane
  unfold State.boundaryOf
  rw [if_neg (by simp [hdue]), hone]
  generalize State.sendReplay _ l i ns = u at hlane hout hcount ⊢
  have hmem : Out.frame l i true { g with replayed := true, ended := false }.blocks ∈ u.out := by
    rw [hout]
    exact List.mem_cons_self
  rcases resumeFrame_cases u l with h | ⟨o, h⟩
  · rw [h]
    exact ⟨hlane, hmem, hcount⟩
  · rw [h]
    exact ⟨hlane, List.mem_cons_of_mem o hmem, hcount⟩

/-! ### A frame acknowledged -/

/-- The state with a frame acknowledged, and its lane's failures in a row forgotten (R227, R232). -/
def State.ackFrame (s : State) (f : LinkFrame) : State :=
  (s.modFrame f.lane f.index (fun g => { g with acked := true, ended := true })).setLane f.lane { s.lane f.lane with naksRow := 0, silentRow := 0 }

section RxStatus

variable {s : State} {m : BitVec 64} {copyBad : Bool} {slack : Option Nat} {f : LinkFrame} (hf : s.fatal = 0) (hok : msgOk m = true)
  (ht : msgType m = 1) (hs : s.sentBy (msgLane m) (msgFlash m) = some f)

include hf hok ht hs

theorem exec_rxStatus_acks (h0 : fieldOf m.toNat 13 13 = 0) :
    exec (.rxStatus m copyBad slack) s = .next ((s.boundaryOf f.lane).ackFrame f) := by
  show execRxStatus m copyBad slack s = _
  unfold execRxStatus
  rw [message_taken hf hok ht, hs]
  dsimp only
  rw [if_neg (by omega)]
  rfl

theorem exec_rxStatus_naks (h1 : fieldOf m.toNat 13 13 = 1) (hdue : (s.lane f.lane).due = []) :
    exec (.rxStatus m copyBad slack) s = .next (s.nak f false copyBad slack) := by
  show execRxStatus m copyBad slack s = _
  unfold execRxStatus
  rw [message_taken hf hok ht, hs]
  dsimp only
  rw [if_pos h1, boundaryOf_idle hdue]

end RxStatus

theorem exec_rxStatusTimeout {s : State} {lane flash : Nat} {copyBad : Bool} {slack : Option Nat} {f : LinkFrame}
    (hframe : s.frame? lane flash = some f) (hsent : f.sent = true) (hacked : f.acked = false) (hsettled : f.settled = false)
    (hdropped : f.dropped = false) (hdue : (s.lane lane).due = []) (hup : (s.lane lane).up = true) (hf : s.fatal = 0) :
    exec (.rxStatusTimeout lane flash copyBad slack) s = .next (s.nak f true copyBad slack) := by
  show execRxStatusTimeout lane flash copyBad slack s = _
  unfold execRxStatusTimeout
  rw [hframe]
  dsimp only
  rw [if_pos (by simp [hsent, hacked, hsettled, hdropped, hup, hf]), boundaryOf_idle hdue]

/-! ### A frame that is not acknowledged -/

/-- A lane with one more NAK (R227, R232). -/
def Lane.nakked (x : Lane) (silent : Bool) : Lane :=
  { x with naks := satAdd 65535 x.naks 1, naksRow := x.naksRow + 1, silentRow := if silent then x.silentRow + 1 else 0 }

/-- The NAK counted (R248). -/
def State.nakCounted (s : State) (f : LinkFrame) (silent : Bool) : State :=
  (s.setLane f.lane ((s.lane f.lane).nakked silent)).inc R.FLINK_NAK_COUNT

/-- Its record. -/
def State.nakRec (s : State) (f : LinkFrame) : RecArg := { linkRec Code.FLINK_NAK 1 f.lane 0xFFF f.index with stripe := s.frameStripe f }

/-- The NAK recorded and answered. -/
def State.nakAnswered (s : State) (f : LinkFrame) (silent copyBad : Bool) (slack : Option Nat) : State :=
  (((s.nakCounted f silent).record (s.nakRec f)).modFrame f.lane f.index (fun g => { g with ended := true })).replay f copyBad slack

theorem nak_eq (s : State) (f : LinkFrame) (silent copyBad : Bool) (slack : Option Nat) : s.nak f silent copyBad slack =
    if (s.lane f.lane).naksRow + 1 ≥ 8 ∨ ((s.lane f.lane).nakked silent).silentRow ≥ 4 then (s.nakAnswered f silent copyBad slack).laneDown f.lane
    else s.nakAnswered f silent copyBad slack := rfl

/-- The replay that a NAK is granted, with its margin (R227). -/
def State.granted (s : State) (f : LinkFrame) : Option Nat → List (Nat × Nat)
  | none => []
  | some ns => if s.flink.strobed.contains f.index then [] else [(f.index, ns)]

/-- A sound copy of a frame: the lane owes the replay that is granted, and nothing else changes (R227; log entry 164). -/
theorem replay_leaves {f : LinkFrame} (hd : f.damaged = false) (slack : Option Nat) (s : State) :
    (∃ ls, s.replay f false slack = { s with flink := { s.flink with lanes := ls } }) ∧
    ∀ j, (s.replay f false slack).lane j =
      if f.lane = j then { s.lane j with due := (s.lane j).due ++ s.granted f slack } else s.lane j := by
  have hnone : ∀ j, s.lane j = if f.lane = j then { s.lane j with due := (s.lane j).due ++ [] } else s.lane j := by
    intro j
    rw [List.append_nil, ite_self]
  unfold State.replay
  rw [if_neg (by simp [hd])]
  cases slack with
  | none => exact ⟨⟨s.flink.lanes, rfl⟩, hnone⟩
  | some ns =>
    unfold State.granted
    dsimp only
    by_cases h : s.flink.strobed.contains f.index = true
    · rw [if_pos h, if_pos h]
      exact ⟨⟨s.flink.lanes, rfl⟩, hnone⟩
    · rw [if_neg h, if_neg h]
      refine ⟨⟨_, rfl⟩, fun j => ?_⟩
      rw [lane_setLane]
      split
      · next e => rw [e]
      · rfl

/-- An answered NAK stands as it was counted, whatever its record brings (R227). -/
theorem stands_nakAnswered (s : State) {f : LinkFrame} (hd : f.damaged = false) (silent : Bool) (slack : Option Nat) :
    Stands false (s.nakCounted f silent) (s.nakAnswered f silent false slack) := by
  unfold State.nakAnswered
  have hended : Stands false (s.nakCounted f silent)
      (((s.nakCounted f silent).record (s.nakRec f)).modFrame f.lane f.index (fun g => { g with ended := true })) :=
    stands_frames (u := atPlace f.lane f.index (fun g => { g with ended := true }))
      (fun g => by unfold atPlace; split <;> rfl) (stands_record _ (stands_refl _ _))
  generalize State.modFrame _ _ _ _ = u at hended ⊢
  obtain ⟨⟨ls, he⟩, hlanes⟩ := replay_leaves hd slack u
  refine hended.trans ⟨by rw [he], by rw [he], fun j => ?_, fun a _ => by rw [he]; rfl, by rw [he], fun _ => by rw [he], fun _ l i => by rw [he]; rfl⟩
  rw [hlanes j]
  split <;> rfl

theorem rd_nakCounted (s : State) (f : LinkFrame) (silent : Bool) :
    (s.nakCounted f silent).rd R.FLINK_NAK_COUNT = min (2 ^ 32 - 1) (s.rd R.FLINK_NAK_COUNT + 1) := rd_bump_whole _ _ 1

theorem lane_nakCounted (s : State) (f : LinkFrame) (silent : Bool) (j : Nat) :
    (s.nakCounted f silent).lane j = if f.lane = j then (s.lane f.lane).nakked silent else s.lane j :=
  lane_setLane s f.lane j ((s.lane f.lane).nakked silent)

/-- Where its record finds room, a NAK of a sound frame is counted, recorded and answered, and nothing else changes (R227). -/
structure NakNoted (s t : State) (f : LinkFrame) (silent : Bool) (slack : Option Nat) : Prop where
  only : Only 78398664512288849937 s t
  count : t.rd R.FLINK_NAK_COUNT = min (2 ^ 32 - 1) (s.rd R.FLINK_NAK_COUNT + 1)
  newest : t.newest Code.FLINK_NAK 1 4 f.lane 0xFFF (f.index % 2 ^ 24)
  frames : t.flink.frames = s.flink.frames.map (atPlace f.lane f.index (fun g => { g with ended := true }))
  lane : t.lane f.lane = { (s.lane f.lane).nakked silent with due := (s.lane f.lane).due ++ s.granted f slack }

theorem nakNoted_nakAnswered {s : State} {f : LinkFrame} (hd : f.damaged = false) (silent : Bool) (slack : Option Nat)
    (hroom : 256 < s.logFree) : NakNoted s (s.nakAnswered f silent false slack) f silent slack := by
  have hnoted := noted_record (s := s.nakCounted f silent) (a := s.nakRec f) rfl hroom
  have hcount := ((stands_nakAnswered s hd silent slack).regs R.FLINK_NAK_COUNT (by decide)).trans (rd_nakCounted s f silent)
  unfold State.nakAnswered at hcount ⊢
  generalize State.record _ _ = u at hnoted hcount ⊢
  obtain ⟨⟨ls, he⟩, hlanes⟩ := replay_leaves hd slack (u.modFrame f.lane f.index (fun g => { g with ended := true }))
  have hu : u.flink = (s.nakCounted f silent).flink := hnoted.flink
  have hgranted : State.granted (u.modFrame f.lane f.index (fun g => { g with ended := true })) f slack = s.granted f slack := by
    unfold State.granted
    show (match slack with
      | none => []
      | some ns => if u.flink.strobed.contains f.index then [] else [(f.index, ns)]) = _
    rw [hu]
    rfl
  have hlane := hlanes f.lane
  rw [if_pos rfl, hgranted, show State.lane (u.modFrame f.lane f.index (fun g => { g with ended := true })) f.lane = _ from
    lane_congr hu f.lane, lane_nakCounted, if_pos rfl] at hlane
  refine ⟨?_, hcount, ?_, ?_, hlane⟩
  · rw [he]
    have hcounted : Only 2199023255553 s (s.nakCounted f silent) := only_inc _ rfl (only_setLane _ _ rfl (only_refl _ s))
    exact only_put2199023255552 rfl (only_modFrame _ _ _ rfl (only_trans (only_mono rfl hcounted) (only_mono rfl hnoted.only)))
  · rw [he]
    exact hnoted.newest
  · rw [he]
    show u.flink.frames.map _ = _
    rw [hu]
    rfl

/-- A frame of which nothing is heard, whatever the record of its NAK brings: its lane goes down at the eighth NAK or the fourth silence in
a row, and counts on before (R227, R232). -/
theorem nak_silent {s : State} {f : LinkFrame} (hd : f.damaged = false) (hup : (s.lane f.lane).up = true) (slack : Option Nat) {t : State}
    (ht : s.nak f true false slack = t) : t.rd R.FLINK_NAK_COUNT = min (2 ^ 32 - 1) (s.rd R.FLINK_NAK_COUNT + 1) ∧
      if 7 ≤ (s.lane f.lane).naksRow ∨ 3 ≤ (s.lane f.lane).silentRow then (t.lane f.lane).st = 0 ∧ (t.lane f.lane).wentDown = true
      else (t.lane f.lane).st = (s.lane f.lane).st ∧ (t.lane f.lane).naksRow = (s.lane f.lane).naksRow + 1 ∧
        (t.lane f.lane).silentRow = (s.lane f.lane).silentRow + 1 := by
  subst ht
  have hstands := stands_nakAnswered s hd true slack
  have hcore := hstands.lanes f.lane
  have hcount := (hstands.regs R.FLINK_NAK_COUNT (by decide)).trans (rd_nakCounted s f true)
  rw [lane_nakCounted, if_pos rfl] at hcore
  rw [nak_eq]
  generalize s.nakAnswered f true false slack = u at hcore hcount ⊢
  have hserves : (u.lane f.lane).serves := serves_of_core hcore (.inl hup)
  have hdown : (s.lane f.lane).naksRow + 1 ≥ 8 ∨ ((s.lane f.lane).nakked true).silentRow ≥ 4 ↔
      7 ≤ (s.lane f.lane).naksRow ∨ 3 ≤ (s.lane f.lane).silentRow := by
    show (s.lane f.lane).naksRow + 1 ≥ 8 ∨ (s.lane f.lane).silentRow + 1 ≥ 4 ↔ _
    omega
  by_cases h : 7 ≤ (s.lane f.lane).naksRow ∨ 3 ≤ (s.lane f.lane).silentRow
  · have hgone := lane_laneDown hserves f.lane
    rw [if_pos rfl] at hgone
    rw [if_pos h, if_pos (hdown.mpr h), (downLeaves_laneDown u f.lane).regs _ (by decide)]
    exact ⟨hcount, (congrArg Lane.st hgone :), (congrArg Lane.wentDown hgone :)⟩
  · rw [if_neg h, if_neg (fun e => h (hdown.mp e))]
    exact ⟨hcount, (congrArg Lane.st hcore :), (congrArg Lane.naksRow hcore :), (congrArg Lane.silentRow hcore :)⟩

/-- Settles O31: a frame of the lane's turn is `sendFrame` or `withhold`, an acknowledged one `ackFrame`, and any other a NAK, whose lane
goes down by its counts. -/
theorem framesTravel : Obligations.FramesTravel := by
  unfold Obligations.FramesTravel
  refine ⟨fun lane lateNs slack x f s _ hx hf hlimit => ?_, fun m copyBad slack f s hfatal hok ht hs => ⟨fun h0 hdue => ?_,
    fun i ns g h0 hdue hg => ?_, fun h1 hdue hbad hd hrow hroom => ?_⟩,
    fun lane flash copyBad slack f s hframe hsent hacked hsettled hdropped hdue hup hfatal hbad hd => ?_⟩
  · obtain rfl : f.lane = lane := lane_of_unsent hf
    refine ⟨fun hup hdue hent htime => ?_, fun h hroom => ?_⟩
    · obtain ⟨heq, hframes, hlane, hother, hregs, hbank⟩ := sendFrame_sends s f slack lateNs rfl
      refine ⟨_, exec_frameSend_sends lateNs hx hf hlimit hup hdue hent htime, heq, hframes, ?_, ?_, ?_, hother, hregs, hbank⟩
      all_goals rw [hlane, State.sentLane]
    · exact ⟨_, exec_frameSend_withholds lateNs hx hf hlimit h, withhold_withholds f hroom rfl⟩
  · have hexec := exec_rxStatus_acks (copyBad := copyBad) (slack := slack) hfatal hok ht hs h0
    rw [boundaryOf_idle hdue] at hexec
    exact ⟨_, hexec, rfl, rfl, lane_setLane_same _ _ _, fun l hl => lane_setLane_other _ _ hl⟩
  · obtain ⟨hlane, hout, hcount⟩ := boundaryOf_sends hdue hg
    refine ⟨_, exec_rxStatus_acks hfatal hok ht hs h0, ?_, hout, hcount⟩
    unfold State.ackFrame
    rw [lane_setLane_same]
    exact hlane
  · subst hbad
    obtain ⟨honly, hcount, hnewest, hframes, hlane⟩ := nakNoted_nakAnswered hd false slack hroom
    have hexec := exec_rxStatus_naks (copyBad := false) (slack := slack) hfatal hok ht hs h1 hdue
    have hfew : ¬ ((s.lane f.lane).naksRow + 1 ≥ 8 ∨ ((s.lane f.lane).nakked false).silentRow ≥ 4) := by
      show ¬ ((s.lane f.lane).naksRow + 1 ≥ 8 ∨ 0 ≥ 4)
      omega
    rw [nak_eq, if_neg hfew] at hexec
    rw [hdue, List.nil_append] at hlane
    refine ⟨_, hexec, linkNoted_eq honly, hcount, hnewest, hframes, ?_, ?_, fun h => ?_, fun ns hns hstrobed => ?_⟩
    · rw [hlane]
      rfl
    · rw [hlane]
      rfl
    · rw [hlane]
      rcases h with h | h
      · rw [h]
        rfl
      · cases slack with
        | none => rfl
        | some ns => exact if_pos (List.contains_iff_mem.mpr h)
    · rw [hlane, hns]
      exact if_neg (fun h => hstrobed (List.contains_iff_mem.mp h))
  · subst hbad
    obtain ⟨rfl, rfl⟩ := frame?_place hframe
    exact ⟨_, exec_rxStatusTimeout hframe hsent hacked hsettled hdropped hdue hup hfatal, nak_silent hd hup slack rfl⟩

end Sys2Proof.Machine
end

section
/-! SUPPORT. Reports that settle frames: LATCH, SLOT_MISS, ECHO, and reports that are late (spec/07_flock_link.md). -/

namespace Sys2Proof.Machine

/-! ### A frame that settles -/

theorem rd_congr {s t : State} (h : t.regs = s.regs) (a : RegAddr) : t.rd a = s.rd a := by
  unfold State.rd
  rw [h]

theorem logFree_congr {s t : State} (h : t.log = s.log) : t.logFree = s.logFree := by
  unfold State.logFree
  rw [h]

theorem frame?_of_frames {s t : State} {l i : Nat} {f : LinkFrame} {u : LinkFrame → LinkFrame}
    (ht : t.flink.frames = s.flink.frames.map (atPlace l i u)) (h : s.frame? l i = some f) (hu : ∀ f, (u f).place = f.place) :
    t.frame? l i = some (u f) := by
  unfold State.frame?
  rw [ht]
  exact frame?_modFrame_same h hu

/-- A frame with all its reports settles (R228). -/
theorem trySettle_settles {s : State} {l i : Nat} {f : LinkFrame} {p : Nat × Nat} (hf : s.frame? l i = some f) (hs : f.settled = false)
    (he : f.echoReq = false ∨ f.echoed ≠ none) (hl : f.latched = some p) (hp : p.1 = 2 → f.counted = true) :
    s.trySettle l i false = s.modFrame l i (fun g => { g with settled := true }) := by
  have hready : ¬ (f.settled = true ∨ (f.echoReq = true ∧ f.echoed.isNone = true) ∨ f.latched.isNone = true ∨
      (f.latched.map (·.1) = some 2 ∧ (!f.counted) = true)) := by
    rintro (h | ⟨hreq, hnone⟩ | h | ⟨h2, hopen⟩)
    · simp [hs] at h
    · rcases he with he | he
      · simp [he] at hreq
      · exact he (Option.isNone_iff_eq_none.mp hnone)
    · simp [hl] at h
    · rw [hl] at h2
      simp [hp (Option.some.inj h2)] at hopen
  unfold State.trySettle
  rw [hf]
  dsimp only
  rw [if_neg hready, if_neg (by simp)]

/-- One that waits for its ECHO, or for the slots of its LATCH, does not (R228). -/
theorem trySettle_waits {s : State} {l i : Nat} {f : LinkFrame} (hf : s.frame? l i = some f)
    (hw : (f.echoReq = true ∧ f.echoed = none) ∨ ((∃ n, f.latched = some (2, n)) ∧ f.counted = false)) : s.trySettle l i false = s := by
  unfold State.trySettle
  rw [hf]
  refine if_pos ?_
  rcases hw with ⟨hreq, hnone⟩ | ⟨⟨n, hl⟩, hc⟩
  · exact .inr (.inl ⟨hreq, by rw [hnone]; rfl⟩)
  · exact .inr (.inr (.inr ⟨by rw [hl]; rfl, by rw [hc]; rfl⟩))

theorem trySettle_cases (s : State) (l i : Nat) :
    s.trySettle l i false = s ∨ s.trySettle l i false = s.modFrame l i (fun g => { g with settled := true }) := by
  unfold State.trySettle
  split
  · exact .inl rfl
  · dsimp only
    split
    · exact .inl rfl
    · rw [if_neg (by simp)]
      exact .inr rfl

/-- Settling or not, no carry comes, no register changes and no record is made. -/
theorem trySettle_leaves (s : State) (l i : Nat) :
    (s.trySettle l i false).flink.carries = s.flink.carries ∧ (∀ a, (s.trySettle l i false).rd a = s.rd a) ∧
      (s.trySettle l i false).log = s.log := by
  rcases trySettle_cases s l i with h | h
  · rw [h]
    exact ⟨rfl, fun _ => rfl, rfl⟩
  · rw [h]
    exact ⟨rfl, fun _ => rfl, rfl⟩

/-- Codes of a sound frame returned (R188, R204). -/
theorem carryFrame_sound {f : LinkFrame} (hd : f.damaged = false) (s : State) (slots : List Nat) : s.carryFrame f slots false =
    (s.post (f.carry slots)).modFrame f.lane f.index (fun g => { g with returned := slots ++ g.returned }) := if_neg (by simp [hd])

theorem rd_countMiss (s : State) (l n : Nat) : (s.countMiss l n).rd R.FLINK_MISS_COUNT = min (2 ^ 32 - 1) (s.rd R.FLINK_MISS_COUNT + n) :=
  rd_bump_whole s _ n

/-! ### LATCH -/

section Latch

variable {s : State} {m : BitVec 64} {i : Nat} {f : LinkFrame} (hf : s.fatal = 0) (hok : msgOk m = true) (ht : msgType m = 2)
  (hkept : s.discarded (msgFlash m) = false) (hstrobed : s.strobedBy (msgFlash m) = some i) (hsince : (s.lane (msgLane m)).since ≤ i)
  (hframe : s.frame? (msgLane m) i = some f)

include hf hok ht hkept hstrobed hsince hframe

/-- The LATCH of a strobed frame, taken for the first time (R226, R228). -/
theorem exec_latch_takes (hheld : f.withheld = false) (hdropped : f.dropped = false) (hnew : f.latched = none) (hs : f.settled = false) :
    exec (.latch m false) s = .next (s.latchTake f (fieldOf m.toNat 29 28) (fieldOf m.toNat 27 16) false) := by
  have hnamed : (s.strobedBy (msgFlash m)).filter (fun i => decide ((s.lane (msgLane m)).since ≤ i)) = some i := by
    rw [hstrobed]
    exact if_pos (decide_eq_true hsince)
  show execLatch m false s = _
  unfold execLatch
  rw [message_taken hf hok ht]
  dsimp only
  rw [if_neg (by simp [hkept]), hnamed]
  dsimp only
  rw [hframe]
  dsimp only
  rw [if_neg (by simp [hheld, hdropped]), hnew]
  dsimp only
  rw [if_neg (by simp [hs])]

end Latch

/-- A frame with its LATCH. -/
def LinkFrame.latch (status count : Nat) (f : LinkFrame) : LinkFrame := { f with latched := some (status, count), ended := true }

/-- The link with the LATCH of a frame noted. -/
def State.latchNoted (s : State) (f : LinkFrame) (status count : Nat) : State :=
  let s1 := s.modFrame f.lane f.index (LinkFrame.latch status count)
  s1.setLane f.lane { s1.lane f.lane with taken := (f.index :: (s1.lane f.lane).taken).take 16 }

theorem only_latchNoted (s : State) (f : LinkFrame) (status count : Nat) : Only 2199023255552 s (s.latchNoted f status count) :=
  only_setLane _ _ rfl (only_modFrame _ _ _ rfl (only_refl _ s))

theorem frame?_latchNoted {s : State} {f : LinkFrame} (h : s.frame? f.lane f.index = some f) (status count : Nat) :
    (s.latchNoted f status count).frame? f.lane f.index = some (f.latch status count) := frame?_modFrame_same h (fun _ => rfl)

theorem frames_latchNoted (s : State) (f : LinkFrame) (status count : Nat) :
    (s.latchNoted f status count).flink.frames = s.flink.frames.map (atPlace f.lane f.index (LinkFrame.latch status count)) := rfl

theorem carries_latchNoted (s : State) (f : LinkFrame) (status count : Nat) : (s.latchNoted f status count).flink.carries = s.flink.carries := rfl

theorem latchTake_exposed {f : LinkFrame} (hm : f.missed = []) (s : State) (count : Nat) :
    s.latchTake f 0 count false = (s.latchNoted f 0 count).trySettle f.lane f.index false := if_pos hm

/-- The codes of some slots of a frame returned, and its lane's misses counted (R228). -/
def State.codesReturned (s : State) (f : LinkFrame) (slots : List Nat) (n : Nat) : State := (s.carryFrame f slots false).countMiss f.lane n

/-- A frame with the codes of some slots returned. -/
def LinkFrame.giveBack (slots : List Nat) (f : LinkFrame) : LinkFrame := { f with returned := slots ++ f.returned }

theorem codesReturned_sound {f : LinkFrame} (hd : f.damaged = false) (slots : List Nat) (n : Nat) (u : State) :
    (u.codesReturned f slots n).flink.carries = u.flink.carries ++ f.carry slots ∧
    (u.codesReturned f slots n).flink.frames = u.flink.frames.map (atPlace f.lane f.index (LinkFrame.giveBack slots)) ∧
    (u.codesReturned f slots n).rd R.FLINK_MISS_COUNT = min (2 ^ 32 - 1) (u.rd R.FLINK_MISS_COUNT + n) ∧
    (u.codesReturned f slots n).log = u.log := by
  unfold State.codesReturned
  rw [carryFrame_sound hd]
  exact ⟨rfl, rfl, rd_countMiss _ _ n, rfl⟩

/-- The dose of a frame marked unknown, before its record (R231). -/
def State.cutNoted (s : State) (f : LinkFrame) : State :=
  (s.post (f.unknown false)).modFrame f.lane f.index (fun g => { g with cut := true })

theorem only_cutNoted (u : State) (f : LinkFrame) : Only 2199023255552 u (u.cutNoted f) :=
  only_modFrame _ _ _ rfl (only_post _ rfl (only_refl _ u))

/-- The record of a frame's report. -/
def State.reportRec (s : State) (f : LinkFrame) (code cls : Nat) : RecArg :=
  { linkRec code cls f.lane 0xFFF f.index with stripe := s.frameStripe f }

theorem cutMark_sound {f : LinkFrame} (hd : f.damaged = false) (s : State) :
    s.cutMark f false = (s.cutNoted f).record (s.reportRec f Code.FLINK_CUT 2) := by
  unfold State.cutMark
  rw [if_neg (by simp [hd])]
  rfl

theorem latchTake_missed (s : State) (f : LinkFrame) (count : Nat) : s.latchTake f 1 count false =
    (((s.latchNoted f 1 count).codesReturned f f.slots 1).record (s.reportRec f Code.FLINK_MISSED 1)).trySettle f.lane f.index false := rfl

theorem latchTake_partial {f : LinkFrame} {count : Nat} (h : f.missed.length ≤ count) (s : State) : s.latchTake f 2 count false =
    ((s.latchNoted f 2 count).slotsDone f.lane f.index false).trySettle f.lane f.index false := if_neg (by omega)

theorem latchTake_cut (s : State) (f : LinkFrame) (count : Nat) :
    s.latchTake f 3 count false = ((s.latchNoted f 3 count).cutMark f false).trySettle f.lane f.index false := rfl

/-- A PARTIAL frame waits for the slots that its LATCH counts (R228). -/
theorem slotsDone_waits {s : State} {l i n : Nat} {f : LinkFrame} (hf : s.frame? l i = some f) (hl : f.latched = some (2, n))
    (hn : f.missed.length < n) : s.slotsDone l i false = s := by
  unfold State.slotsDone
  rw [hf]
  dsimp only
  rw [hl]
  exact if_pos (.inr hn)

section LatchCases

variable {s : State} {f : LinkFrame} (count : Nat) (hframe : s.frame? f.lane f.index = some f) (hs : f.settled = false)

include hframe

include hs in
/-- Exposed, and no ECHO waited for: the frame settles. -/
theorem latch_exposed_settles (hm : f.missed = []) (he : f.echoReq = false ∨ f.echoed ≠ none) : s.latchTake f 0 count false =
    (s.latchNoted f 0 count).modFrame f.lane f.index (fun g => { g with settled := true }) := by
  rw [latchTake_exposed hm]
  exact trySettle_settles (frame?_latchNoted hframe 0 count) hs he rfl (fun h => nomatch h)

/-- Exposed, its ECHO still to come. -/
theorem latch_exposed_waits (hm : f.missed = []) (hreq : f.echoReq = true) (hnone : f.echoed = none) :
    s.latchTake f 0 count false = s.latchNoted f 0 count := by
  rw [latchTake_exposed hm]
  exact trySettle_waits (frame?_latchNoted hframe 0 count) (.inl ⟨hreq, hnone⟩)

/-- Missed in part, slots still to be named. -/
theorem latch_partial_waits {count : Nat} (hn : f.missed.length < count) (hc : f.counted = false) :
    s.latchTake f 2 count false = s.latchNoted f 2 count := by
  have hnoted := frame?_latchNoted hframe 2 count
  rw [latchTake_partial (Nat.le_of_lt hn), slotsDone_waits hnoted rfl hn]
  exact trySettle_waits hnoted (.inr ⟨⟨count, rfl⟩, hc⟩)

omit hframe in
/-- All missed: its doses return and its lane's misses count on, whatever its record brings. -/
theorem latch_missed (hd : f.damaged = false) : (s.latchTake f 1 count false).flink.carries = s.flink.carries ++ f.carry f.slots ∧
    (s.latchTake f 1 count false).rd R.FLINK_MISS_COUNT = min (2 ^ 32 - 1) (s.rd R.FLINK_MISS_COUNT + 1) := by
  obtain ⟨hposted, -, hcount, -⟩ := codesReturned_sound hd f.slots 1 (s.latchNoted f 1 count)
  have hstands := stands_record (s.reportRec f Code.FLINK_MISSED 1) (stands_refl false ((s.latchNoted f 1 count).codesReturned f f.slots 1))
  obtain ⟨hcarries, hregs, -⟩ := trySettle_leaves (((s.latchNoted f 1 count).codesReturned f f.slots 1).record (s.reportRec f Code.FLINK_MISSED 1)) f.lane f.index
  rw [latchTake_missed, hcarries, hregs, hstands.carries rfl, hstands.regs _ (by decide), hposted, hcount, carries_latchNoted,
    rd_congr ((only_latchNoted s f 1 count).regs rfl)]
  exact ⟨rfl, rfl⟩

include hs in
/-- With room for the record, and no ECHO asked for, the frame settles. -/
theorem latch_missed_settles (hd : f.damaged = false) (hreq : f.echoReq = false) (hroom : 256 < s.logFree) :
    (s.latchTake f 1 count false).newest Code.FLINK_MISSED 1 4 f.lane 0xFFF (f.index % 2 ^ 24) ∧
    (s.latchTake f 1 count false).flink.frames = s.flink.frames.map (atPlace f.lane f.index (fun g =>
      { g.latch 1 count with returned := f.slots ++ g.returned, settled := true })) := by
  obtain ⟨-, hframes, -, hlog⟩ := codesReturned_sound hd f.slots 1 (s.latchNoted f 1 count)
  have hfree : ((s.latchNoted f 1 count).codesReturned f f.slots 1).logFree = s.logFree := logFree_congr (hlog.trans ((only_latchNoted s f 1 count).log rfl))
  have hfound : ((s.latchNoted f 1 count).codesReturned f f.slots 1).frame? f.lane f.index = some ((f.latch 1 count).giveBack f.slots) :=
    frame?_of_frames hframes (frame?_latchNoted hframe 1 count) (fun _ => rfl)
  have hnoted := noted_record (s := (s.latchNoted f 1 count).codesReturned f f.slots 1) (a := s.reportRec f Code.FLINK_MISSED 1) rfl (hroom.trans_eq hfree.symm)
  rw [latchTake_missed]
  generalize State.record _ _ = t at hnoted ⊢
  rw [trySettle_settles ((frame?_congr hnoted.flink _ _).trans hfound) hs (.inl hreq) rfl (fun h => nomatch h)]
  refine ⟨hnoted.newest, ?_⟩
  rw [frames_modFrame_eq, hnoted.flink, hframes, frames_latchNoted, map_atPlace_atPlace, map_atPlace_atPlace]
  · rfl
  all_goals exact fun _ => rfl

omit hframe in
/-- Cut: its doses are unknown, whatever its record brings. -/
theorem latch_cut (hd : f.damaged = false) : (s.latchTake f 3 count false).flink.carries = s.flink.carries ++ f.unknown false := by
  rw [latchTake_cut, (trySettle_leaves _ f.lane f.index).1, cutMark_sound hd,
    (stands_record ((s.latchNoted f 3 count).reportRec f Code.FLINK_CUT 2) (stands_refl false _)).carries rfl]
  rfl

include hs in
/-- With room for the record, and no ECHO asked for, the frame settles. -/
theorem latch_cut_settles (hd : f.damaged = false) (hreq : f.echoReq = false) (hroom : 256 < s.logFree) :
    (s.latchTake f 3 count false).newest Code.FLINK_CUT 2 4 f.lane 0xFFF (f.index % 2 ^ 24) ∧
    (s.latchTake f 3 count false).flink.frames = s.flink.frames.map (atPlace f.lane f.index (fun g =>
      { g.latch 3 count with cut := true, settled := true })) := by
  have hfree : ((s.latchNoted f 3 count).cutNoted f).logFree = s.logFree :=
    logFree_congr (((only_cutNoted _ f).log rfl).trans ((only_latchNoted s f 3 count).log rfl))
  have hframes : ((s.latchNoted f 3 count).cutNoted f).flink.frames =
      (s.latchNoted f 3 count).flink.frames.map (atPlace f.lane f.index (fun g => { g with cut := true })) := rfl
  have hfound : ((s.latchNoted f 3 count).cutNoted f).frame? f.lane f.index = some { f.latch 3 count with cut := true } :=
    frame?_of_frames hframes (frame?_latchNoted hframe 3 count) (fun _ => rfl)
  have hnoted := noted_record (s := (s.latchNoted f 3 count).cutNoted f) (a := (s.latchNoted f 3 count).reportRec f Code.FLINK_CUT 2) rfl
    (hroom.trans_eq hfree.symm)
  rw [latchTake_cut, cutMark_sound hd]
  generalize State.record _ _ = t at hnoted ⊢
  rw [trySettle_settles ((frame?_congr hnoted.flink _ _).trans hfound) hs (.inl hreq) rfl (fun h => nomatch h)]
  refine ⟨hnoted.newest, ?_⟩
  rw [frames_modFrame_eq, hnoted.flink, hframes, frames_latchNoted, map_atPlace_atPlace, map_atPlace_atPlace]
  all_goals exact fun _ => rfl

end LatchCases

end Sys2Proof.Machine
end

section
/-! SUPPORT. SLOT_MISS, ECHO and reports that are late (spec/07_flock_link.md). -/

namespace Sys2Proof.Machine

/-! ### SLOT_MISS -/

/-- A frame with one more slot named by SLOT_MISS, without FAULT. -/
def LinkFrame.nameSlot (slot : Nat) (f : LinkFrame) : LinkFrame := { f with missed := (slot, 0) :: f.missed }

/-- A slot of a PARTIAL frame that has not been named (R228). -/
theorem exec_slotMiss_names {s : State} {m : BitVec 64} {n : Nat} {f : LinkFrame} (hf : s.fatal = 0) (hok : msgOk m = true)
    (ht : msgType m = 3) (hfault : fieldOf m.toNat 17 16 = 0) (hframe : (s.strobedBy (msgFlash m)).bind (s.frame? (msgLane m)) = some f)
    (hsent : f.sent = true) (hheld : f.withheld = false) (hdropped : f.dropped = false) (hl : f.latched = some (2, n))
    (hc : f.counted = false) (hnew : ∀ k ∈ f.missed, k.1 ≠ fieldOf m.toNat 29 18) :
    exec (.slotMiss m) s = .next (((s.modFrame f.lane f.index (LinkFrame.nameSlot (fieldOf m.toNat 29 18))).slotsDone f.lane f.index
      false).trySettle f.lane f.index false) := by
  have hcopy : f.missed.contains (fieldOf m.toNat 29 18, 0) = false := by
    refine Bool.eq_false_iff.mpr (fun h => ?_)
    exact hnew _ (List.contains_iff_mem.mp h) rfl
  have hother : f.missed.any (fun k => k.1 = fieldOf m.toNat 29 18) = false :=
    List.any_eq_false.mpr (fun k hk => by simpa using hnew k hk)
  show execSlotMiss m s = _
  unfold execSlotMiss
  rw [message_taken hf hok ht, hfault]
  dsimp only
  rw [hframe]
  dsimp only
  rw [hcopy, if_neg (by simp [hsent, hheld, hdropped]), hother, if_neg Bool.false_ne_true, hl]
  dsimp only [Option.map_some]
  rw [hc, if_neg Bool.false_ne_true]
  rfl

/-- The records of a PARTIAL frame's missed slots (R228). -/
def State.slotRecs (u : State) (f : LinkFrame) : State :=
  f.missed.foldl (fun u k => u.record { linkRec Code.FLINK_MISSED 1 f.lane k.1 f.index with stripe := u.frameStripe f }) u

/-- Once all its slots are named their codes return, once (R228). -/
theorem slotsDone_counts {s : State} {n : Nat} {f : LinkFrame} (hf : s.frame? f.lane f.index = some f) (hl : f.latched = some (2, n))
    (hc : f.counted = false) (hn : n ≤ f.missed.length) : s.slotsDone f.lane f.index false =
      ((s.codesReturned f f.lostSlots f.missed.length).slotRecs f).modFrame f.lane f.index (fun g => { g with counted := true }) := by
  unfold State.slotsDone
  rw [hf]
  dsimp only
  rw [hl]
  exact if_neg (by simp [hc, hn])

/-- A PARTIAL frame whose last slot has been named settles, whatever its records bring: the doses of its slots return (R228). -/
structure SlotsSettled (s t : State) (f : LinkFrame) : Prop where
  carries : t.flink.carries = s.flink.carries ++ f.carry f.lostSlots
  misses : t.rd R.FLINK_MISS_COUNT = min (2 ^ 32 - 1) (s.rd R.FLINK_MISS_COUNT + f.missed.length)
  frame : ∃ h ∈ t.flink.frames, h.lane = f.lane ∧ h.index = f.index ∧ h.missed = f.missed ∧ h.returned = f.lostSlots ++ f.returned ∧
    h.counted = true ∧ h.settled = true

theorem slotsDone_settles {s : State} {n : Nat} {f : LinkFrame} (hf : s.frame? f.lane f.index = some f) (hl : f.latched = some (2, n))
    (hc : f.counted = false) (hn : n ≤ f.missed.length) (hd : f.damaged = false) (hs : f.settled = false) (hreq : f.echoReq = false) :
    SlotsSettled s ((s.slotsDone f.lane f.index false).trySettle f.lane f.index false) f := by
  obtain ⟨hcarries, hframes, hcount, -⟩ := codesReturned_sound hd f.lostSlots f.missed.length s
  have hback := frame?_of_frames hframes hf (fun _ => rfl)
  have hrecs : Stands false (s.codesReturned f f.lostSlots f.missed.length) ((s.codesReturned f f.lostSlots f.missed.length).slotRecs f) :=
    stands_foldl _ (fun _ _ hu => stands_record _ hu) _ (stands_refl _ _)
  rw [slotsDone_counts hf hl hc hn]
  generalize State.slotRecs _ f = v at hrecs ⊢
  have hcore := hrecs.frames rfl f.lane f.index
  rw [hback] at hcore
  obtain ⟨g, hg, hgf⟩ := Option.map_eq_some_iff.mp hcore
  have hcounted := frame?_modFrame_same (u := fun g => { g with counted := true }) hg (fun _ => rfl)
  have hsettled : g.settled = false := (congrArg LinkFrame.settled hgf :).trans hs
  have hquiet : g.echoReq = false := (congrArg LinkFrame.echoReq hgf :).trans hreq
  have hlatched : g.latched = some (2, n) := (congrArg LinkFrame.latched hgf :).trans hl
  rw [trySettle_settles hcounted hsettled (.inl hquiet) hlatched (fun _ => rfl)]
  exact ⟨(hrecs.carries rfl).trans hcarries, (hrecs.regs _ (by decide)).trans hcount, _,
    mem_modFrame hcounted (fun g => { g with settled := true }), (congrArg LinkFrame.lane hgf :), (congrArg LinkFrame.index hgf :),
    (congrArg LinkFrame.missed hgf :), (congrArg LinkFrame.returned hgf :), rfl, rfl⟩

/-! ### ECHO -/

section Echo

variable {s : State} {m : BitVec 64} {f : LinkFrame} (hf : s.fatal = 0) (hok : msgOk m = true) (ht : msgType m = 4)
  (hst : (s.lane (msgLane m)).st ≠ 5)
  (hframe : s.flink.frames.find? (fun f => f.lane = msgLane m && f.index % 2 ^ 14 = fieldOf m.toNat 53 40 && f.sent && f.echoReq && !f.dropped) = some f)
  (hnew : f.echoed = none)

include hf hok ht hst hframe hnew

/-- The first ECHO of a frame, with the frame's own CRC (R242). -/
theorem exec_echo_agrees (hcrc : fieldOf m.toNat 39 8 = f.crcOf) :
    exec (.echo m) s = .next (((s.inc R.MIRROR_ECHOES).modFrame f.lane f.index
      (fun g => { g with echoed := some (fieldOf m.toNat 39 8), ended := true })).trySettle f.lane f.index false) := by
  show execEcho m s = _
  unfold execEcho
  rw [message_taken hf hok ht]
  dsimp only
  rw [if_neg hst, hframe]
  dsimp only
  rw [hnew]
  exact congrArg _ (if_pos hcrc)

/-- With any other (R243). -/
theorem exec_echo_differs (hcrc : fieldOf m.toNat 39 8 ≠ f.crcOf) :
    exec (.echo m) s = .next ((s.inc R.MIRROR_ECHOES).mismatch f (fieldOf m.toNat 39 8)) := by
  show execEcho m s = _
  unfold execEcho
  rw [message_taken hf hok ht]
  dsimp only
  rw [if_neg hst, hframe]
  dsimp only
  rw [hnew]
  exact congrArg _ (if_neg hcrc)

end Echo

/-- A frame that has had its ECHO, settled or not. -/
theorem echo_agrees {s : State} {f : LinkFrame} (hf : f ∈ s.flink.frames) (got : Nat) : ∃ g ∈ ((s.modFrame f.lane f.index
    (fun g => { g with echoed := some got, ended := true })).trySettle f.lane f.index false).flink.frames,
      g.lane = f.lane ∧ g.index = f.index ∧ g.echoed = some got := by
  have hmem : { f with echoed := some got, ended := true } ∈
      (s.modFrame f.lane f.index (fun g => { g with echoed := some got, ended := true })).flink.frames :=
    List.mem_map.mpr ⟨f, hf, if_pos ⟨rfl, rfl⟩⟩
  rcases trySettle_cases (s.modFrame f.lane f.index (fun g => { g with echoed := some got, ended := true })) f.lane f.index with h | h
  · rw [h]
    exact ⟨_, hmem, rfl, rfl, rfl⟩
  · rw [h]
    exact ⟨_, List.mem_map.mpr ⟨_, hmem, if_pos ⟨rfl, rfl⟩⟩, rfl, rfl, rfl⟩

/-- What Mirror shows of a mismatch, before its record (R243). -/
def State.mismatchShown (s : State) (f : LinkFrame) (got : Nat) : State :=
  (((s.inc R.MIRROR_MISMATCHES).wr R.MIRROR_LAST (f.lane * 2 ^ 24 + f.index % 2 ^ 24)).wr R.MIRROR_EXPECT f.crcOf).wr R.MIRROR_GOT got

/-- The record of a mismatch in a stripe (R243). -/
def State.mismatchArg (s : State) (f : LinkFrame) : RecArg :=
  { linkRec Code.MIRROR_MISMATCH 2 f.lane 0xFFF f.index with stripe := s.frameStripe f }

theorem mismatch_eq (s : State) (f : LinkFrame) (got : Nat) : s.mismatch f got =
    (((s.mismatchShown f got).record (s.mismatchArg f)).post (f.unknown true)).modFrame f.lane f.index
      (fun g => { g with settled := true, echoed := some got }) := rfl

theorem only_mismatchShown (s : State) (f : LinkFrame) (got : Nat) : Only 1 s (s.mismatchShown f got) :=
  only_wr _ _ rfl (only_wr _ _ rfl (only_wr _ _ rfl (only_inc _ rfl (only_refl _ s))))

theorem rd_mismatchShown (s : State) (f : LinkFrame) {got : Nat} (hgot : got < 2 ^ 32) :
    (s.mismatchShown f got).rd R.MIRROR_ECHOES = s.rd R.MIRROR_ECHOES ∧
    (s.mismatchShown f got).rd R.MIRROR_MISMATCHES = min (2 ^ 32 - 1) (s.rd R.MIRROR_MISMATCHES + 1) ∧
    (s.mismatchShown f got).rd R.MIRROR_LAST = (f.lane * 2 ^ 24 + f.index % 2 ^ 24) % 2 ^ 32 ∧
    (s.mismatchShown f got).rd R.MIRROR_EXPECT = f.crcOf % 2 ^ 32 ∧ (s.mismatchShown f got).rd R.MIRROR_GOT = got := by
  have hlater : ∀ (u : State) (a : RegAddr) (x y z : Nat), a ≠ R.MIRROR_LAST → a ≠ R.MIRROR_EXPECT → a ≠ R.MIRROR_GOT →
      (((u.wr R.MIRROR_LAST x).wr R.MIRROR_EXPECT y).wr R.MIRROR_GOT z).rd a = u.rd a := fun u a x y z hl he hg => by
    rw [rd_wr_other _ (Ne.symm hg), rd_wr_other _ (Ne.symm he), rd_wr_other _ (Ne.symm hl)]
  unfold State.mismatchShown
  refine ⟨?_, ?_, ?_, ?_, rd_wr_same _ _ hgot⟩
  · rw [hlater _ _ _ _ _ (by decide) (by decide) (by decide)]
    exact rd_setFld_other _ _ _ (by decide)
  · rw [hlater _ _ _ _ _ (by decide) (by decide) (by decide)]
    exact rd_bump_whole s _ 1
  · rw [rd_wr_other _ (by decide), rd_wr_other _ (by decide), rd_wr, if_pos rfl]
  · rw [rd_wr_other _ (by decide), rd_wr, if_pos rfl]

/-- A mismatch, whatever its record brings: Mirror shows it, and the doses of the whole frame are unknown (R231, R243). -/
theorem mismatch_leaves (s : State) (f : LinkFrame) (got : Nat) :
    (s.mismatch f got).flink.carries = s.flink.carries ++ f.unknown true ∧
    ∀ a ∈ linkCounts, (s.mismatch f got).rd a = (s.mismatchShown f got).rd a := by
  have hstands := stands_record (s.mismatchArg f) (stands_refl false (s.mismatchShown f got))
  have hcarries := (hstands.carries rfl).trans (congrArg Flink.carries ((only_mismatchShown s f got).flink rfl))
  rw [mismatch_eq]
  generalize State.record _ _ = u at hstands hcarries ⊢
  exact ⟨congrArg (· ++ f.unknown true) hcarries, hstands.regs⟩

/-- With room for its record the frame settles. -/
theorem mismatch_settles {s : State} {f : LinkFrame} (hf : f ∈ s.flink.frames) (got : Nat) (hroom : 256 < s.logFree) :
    (s.mismatch f got).newest Code.MIRROR_MISMATCH 2 4 f.lane 0xFFF (f.index % 2 ^ 24) ∧
    { f with settled := true, echoed := some got } ∈ (s.mismatch f got).flink.frames := by
  have hshown := only_mismatchShown s f got
  have hnoted := noted_record (s := s.mismatchShown f got) (a := s.mismatchArg f) rfl
    (hroom.trans_eq (logFree_congr (hshown.log rfl)).symm)
  have hflink := hnoted.flink.trans (hshown.flink rfl)
  rw [mismatch_eq]
  generalize State.record _ _ = u at hnoted hflink ⊢
  refine ⟨hnoted.newest, List.mem_map.mpr ⟨f, ?_, if_pos ⟨rfl, rfl⟩⟩⟩
  show f ∈ u.flink.frames
  rw [hflink]
  exact hf

theorem fieldOf_lt (v hi lo : Nat) : fieldOf v hi lo < 2 ^ (hi + 1 - lo) := by
  unfold fieldOf
  exact Nat.mod_lt _ (Nat.two_pow_pos _)

/-! ### Reports that are late -/

/-- A report asked for again (R229). -/
def State.askAgain (s : State) (lane flash : Nat) (n : Nat) : State :=
  (s.modFrame lane flash (fun g => { g with again := n })).emit (.control lane 0xB4 (flash % 2 ^ 24))

/-- The record of a late report. -/
def State.lateRec (s : State) (lane flash : Nat) (f : LinkFrame) : RecArg :=
  { linkRec Code.FLINK_REPORT_LATE 1 lane 0xFFF flash with stripe := s.frameStripe f }

section Late

variable {s : State} {lane flash : Nat} {f : LinkFrame} (hf : s.awaited lane flash = some f) (hfatal : s.fatal = 0)

include hf in
/-- The lane of an awaited report is in service. -/
theorem up_of_awaited : (s.lane lane).up = true := by
  obtain ⟨-, h⟩ := Option.filter_eq_some_iff.mp hf
  simp only [Bool.and_eq_true] at h
  exact h.2

include hf hfatal

theorem exec_flinkReportLate (h0 : f.again = 0) :
    exec (.flinkReportLate lane flash) s = .next (((s.inc R.FLINK_REPORT_LATE).askAgain lane flash 1).record (s.lateRec lane flash f)) := by
  show execFlinkReportLate lane flash s = _
  unfold execFlinkReportLate
  rw [hf]
  dsimp only
  rw [if_neg (by simp [h0, hfatal])]
  rfl

theorem exec_reportAgainRetry_asks (h0 : f.again ≠ 0) (h3 : f.again < 3) :
    exec (.reportAgainRetry lane flash) s = .next (s.askAgain lane flash (f.again + 1)) := by
  show execReportAgainRetry lane flash s = _
  unfold execReportAgainRetry
  rw [hf]
  dsimp only
  rw [if_neg (by simp [h0, hfatal]), if_pos h3]
  rfl

theorem exec_reportAgainRetry_down (h3 : 3 ≤ f.again) : exec (.reportAgainRetry lane flash) s = .next (s.laneDown lane) := by
  show execReportAgainRetry lane flash s = _
  unfold execReportAgainRetry
  rw [hf]
  dsimp only
  rw [if_neg (by omega), if_neg (by omega)]

end Late

/-! ### The statement -/

/-- Settles O32: a LATCH acts by its status, a SLOT_MISS by how many slots are named, an ECHO by its CRC, and a late report by how often it
has been asked for. -/
theorem reportsSettleFrames : Obligations.ReportsSettleFrames := by
  unfold Obligations.ReportsSettleFrames
  refine ⟨⟨fun m i f s hfatal hok ht hkept hstrobed hsince hframe hheld hdropped _ hnew hs hd hc => ?_,
    fun m n f s hfatal hok ht hfault hframe hsent hheld hdropped hs hd hl hc hslots hreq => ?_⟩,
    fun m f s hfatal hok ht hst hframe hnew => ?_, fun lane flash f s hf h0 hfatal => ?_, fun lane flash f s hf h0 hfatal => ?_⟩
  · have hexec := exec_latch_takes hfatal hok ht hkept hstrobed hsince hframe hheld hdropped hnew hs
    have hplace : s.frame? f.lane f.index = some f := by rw [(frame?_place hframe).1, (frame?_place hframe).2, hframe]
    dsimp only
    generalize fieldOf m.toNat 29 28 = status at hexec ⊢
    generalize fieldOf m.toNat 27 16 = count at hexec ⊢
    refine ⟨_, hexec, fun h hm => ?_, fun h => ?_, fun h hn => ?_, fun h => ?_⟩
    · subst h
      by_cases he : f.echoReq = false ∨ f.echoed ≠ none
      · rw [latch_exposed_settles count hplace hs hm he]
        refine ⟨rfl, rfl, fun _ => ?_, fun hreq hnone => ?_⟩
        · rw [frames_modFrame_eq, frames_latchNoted, map_atPlace_atPlace]
          · rfl
          · exact fun _ => rfl
        · rcases he with he | he
          · rw [hreq] at he
            cases he
          · exact absurd hnone he
      · obtain ⟨hreq, hnone⟩ := not_or.mp he
        rw [latch_exposed_waits count hplace hm (by simpa using hreq) (not_not.mp hnone)]
        exact ⟨rfl, rfl, fun h => absurd h he, fun _ _ => rfl⟩
    · subst h
      obtain ⟨hcarries, hcount⟩ := latch_missed count hd
      exact ⟨hcarries, hcount, fun hreq hroom => latch_missed_settles count hplace hs hd hreq hroom⟩
    · subst h
      rw [latch_partial_waits hplace hn hc]
      exact ⟨rfl, rfl, rfl⟩
    · subst h
      exact ⟨latch_cut count hd, fun hreq hroom => latch_cut_settles count hplace hs hd hreq hroom⟩
  · obtain ⟨i, -, hfound⟩ := Option.bind_eq_some_iff.mp hframe
    have hplace : s.frame? f.lane f.index = some f := by rw [(frame?_place hfound).1, (frame?_place hfound).2, hfound]
    have hnamed := frame?_modFrame_same (u := LinkFrame.nameSlot (fieldOf m.toNat 29 18)) hplace (fun _ => rfl)
    refine ⟨_, exec_slotMiss_names hfatal hok ht hfault hframe hsent hheld hdropped hl hc hslots, fun hn => ?_, fun hn => ?_⟩
    · rw [slotsDone_waits hnamed hl hn, trySettle_waits hnamed (.inr ⟨⟨n, hl⟩, hc⟩)]
      exact ⟨rfl, rfl, mem_modFrame hplace _⟩
    · obtain ⟨hcarries, hmisses, hsettled⟩ := slotsDone_settles (f := f.nameSlot (fieldOf m.toNat 29 18)) hnamed hl hc hn hd hs hreq
      exact ⟨hcarries, hmisses, hsettled⟩
  · have hmem := List.mem_of_find?_eq_some hframe
    have hgot : fieldOf m.toNat 39 8 < 2 ^ 32 := fieldOf_lt _ _ _
    have hechoes : (s.inc R.MIRROR_ECHOES).rd R.MIRROR_ECHOES = min (2 ^ 32 - 1) (s.rd R.MIRROR_ECHOES + 1) := rd_bump_whole s _ 1
    have hmismatches : (s.inc R.MIRROR_ECHOES).rd R.MIRROR_MISMATCHES = s.rd R.MIRROR_MISMATCHES := rd_setFld_other _ _ _ (by decide)
    dsimp only
    by_cases hcrc : fieldOf m.toNat 39 8 = f.crcOf
    · have hregs := (trySettle_leaves ((s.inc R.MIRROR_ECHOES).modFrame f.lane f.index
        (fun g => { g with echoed := some (fieldOf m.toNat 39 8), ended := true })) f.lane f.index).2.1
      exact ⟨_, exec_echo_agrees hfatal hok ht hst hframe hnew hcrc, (hregs _).trans hechoes,
        fun _ => ⟨(hregs _).trans hmismatches, echo_agrees (s := s.inc R.MIRROR_ECHOES) hmem _⟩, fun h => absurd hcrc h⟩
    · obtain ⟨hcarries, hregs⟩ := mismatch_leaves (s.inc R.MIRROR_ECHOES) f (fieldOf m.toNat 39 8)
      obtain ⟨hshown, hcount, hlast, hexpect, hgotten⟩ := rd_mismatchShown (s.inc R.MIRROR_ECHOES) f hgot
      refine ⟨_, exec_echo_differs hfatal hok ht hst hframe hnew hcrc, (hregs _ (by decide)).trans (hshown.trans hechoes),
        fun h => absurd h hcrc, fun _ => ⟨?_, (hregs _ (by decide)).trans hlast, (hregs _ (by decide)).trans hexpect,
          (hregs _ (by decide)).trans hgotten, hcarries, fun hroom => mismatch_settles (s := s.inc R.MIRROR_ECHOES) hmem _ hroom⟩⟩
      rw [hregs _ (by decide), hcount, hmismatches]
  · have hstands := stands_record (s.lateRec lane flash f) (stands_refl false ((s.inc R.FLINK_REPORT_LATE).askAgain lane flash 1))
    refine ⟨_, exec_flinkReportLate hf hfatal h0, hstands.out.subset List.mem_cons_self, (hstands.regs _ (by decide)).trans ?_, fun hroom => ?_⟩
    · exact rd_bump_whole s _ 1
    · have hnoted := noted_record (s := (s.inc R.FLINK_REPORT_LATE).askAgain lane flash 1) (a := s.lateRec lane flash f) rfl hroom
      refine ⟨hnoted.newest, ?_⟩
      rw [hnoted.flink]
      rfl
  · by_cases h3 : f.again < 3
    · exact ⟨_, exec_reportAgainRetry_asks hf hfatal h0 h3, fun _ => ⟨rfl, rfl⟩, fun h => absurd h3 (Nat.not_lt.mpr h)⟩
    · have hgone := lane_laneDown (.inl (up_of_awaited hf)) lane
      rw [if_pos rfl] at hgone
      exact ⟨_, exec_reportAgainRetry_down hf hfatal (Nat.not_lt.mp h3), fun h => absurd h h3,
        fun _ => ⟨(congrArg Lane.st hgone :), (congrArg Lane.wentDown hgone :)⟩⟩

end Sys2Proof.Machine
end

section
/-! SUPPORT. What records and containments leave of Drover, and a containment that a record finds (spec/08_drover_sync.md). -/

namespace Sys2Proof.Machine

/-! ### What stands through records and containments -/

/-- The registers past the page headers that records and containments change (R459, R465, R470). -/
def haltRegs : List RegAddr :=
  logRegs ++ [R.DROVER_STATE, R.FLINK_RETX_COUNT, R.SYS_CKPT_STATE, R.SYS_CKPT_HELD, R.DROVER_HELD_L, R.DROVER_HELD_H] ++ shownStripes

/-- From s to t records have been made and stripes contained at most: of Drover only its state has changed, and of the registers those of
page headers and those by which logs, stripes and checkpoints are shown. -/
structure Halts (s t : State) : Prop where
  drover : ∃ n, t.drover = { s.drover with st := n }
  regs : ∀ a, ¬ offOf a < 0x100 → a ∉ haltRegs → t.rd a = s.rd a

section Halting

variable {s0 s t : State}

theorem halts_refl (s : State) : Halts s s := ⟨⟨s.drover.st, rfl⟩, fun _ _ _ => rfl⟩

theorem Halts.trans (a : Halts s0 s) (b : Halts s t) : Halts s0 t := by
  obtain ⟨n, hn⟩ := a.drover
  obtain ⟨m, hm⟩ := b.drover
  exact ⟨⟨m, by rw [hm, hn]⟩, fun r hr hl => (b.regs r hr hl).trans (a.regs r hr hl)⟩

theorem halts_ite {c : Prop} [Decidable c] {a b : State} (ha : Halts s0 a) (hb : Halts s0 b) : Halts s0 (if c then a else b) := by
  split
  · exact ha
  · exact hb

/-- A change of such registers, not of Drover. -/
theorem halts_regs {l : List RegAddr} (hr : RegsOff l s t) (hl : ∀ a ∈ l, offOf a < 0x100 ∨ a ∈ haltRegs) (hd : t.drover = s.drover)
    (h : Halts s0 s) : Halts s0 t :=
  h.trans ⟨⟨s.drover.st, hd⟩, fun a ho hn => hr a (fun hm => (hl a hm).elim ho hn)⟩

/-- A change of no register and not of Drover. -/
theorem Halts.quiet (h : Halts s0 s) (hr : t.regs = s.regs) (hd : t.drover = s.drover) : Halts s0 t :=
  halts_regs (l := []) (regsOff_regs hr (regsOff_refl _ s)) (fun _ hm => nomatch hm) hd h

theorem halts_wr (a v : Nat) (ha : offOf a < 0x100 ∨ a ∈ haltRegs) (h : Halts s0 s) : Halts s0 (s.wr a v) :=
  halts_regs (regsOff_wr a v (List.mem_singleton.mpr rfl) (regsOff_refl [a] s)) (fun r hr => by rw [List.mem_singleton.mp hr]; exact ha) rfl h

theorem halts_resends (ht : Resends s t) (h : Halts s0 s) : Halts s0 t := halts_regs ht.regs (by decide) ht.drover h

theorem halts_recordRaw (a : RecArg) (h : Halts s0 s) : Halts s0 (s.recordRaw a) :=
  halts_regs (regsOff_recordRaw a (fun _ hb => hb) (regsOff_refl _ s))
    (fun _ hm => (mem_recordRegs hm).imp_right (fun hl => List.mem_append_left _ (List.mem_append_left _ hl)))
    ((only_recordRaw (mm := 78398662313265602577) a rfl (only_refl _ s)).drover rfl) h

theorem halts_showStripes (h : Halts s0 s) : Halts s0 s.showStripes :=
  halts_regs (regsOff_showStripes (fun _ h => h) (regsOff_refl _ s)) (fun _ hm => .inr (List.mem_append_right _ hm))
    ((only_showStripes (mm := 1) rfl (only_refl _ s)).drover rfl) h

theorem halts_droverTo (n : Nat) (h : Halts s0 s) : Halts s0 (s.droverTo n) := by
  have hst : Halts s { s with drover := { s.drover with st := n } } := ⟨⟨n, rfl⟩, fun _ _ _ => rfl⟩
  exact halts_wr _ _ (by decide) (halts_wr _ _ (by decide) (h.trans hst))

theorem halts_shadeOn (now : Bool) (h : Halts s0 s) : Halts s0 (s.shadeOn now) :=
  halts_resends (resends_shadeBlocks _ _) (h.quiet rfl rfl)

/-- DISCARD sent and acted on (R223, R235). -/
theorem halts_discard (content : Nat) (x : Stripe) (k : Int) (h : Halts s0 s) : Halts s0 ((s.allLanes 0x55 content).dropAfter x k) :=
  halts_resends (resends_dropAfter _ x k) (halts_resends (resends_allLanes _ _ _) h)

/-- A DISCARD noted, with the run's stop (R235, R316). -/
theorem halts_noted (v : Option Nat) (p : Profile) (c : KMap (List Byte)) (h : Halts s0 s) :
    Halts s0 { s with flink := { s.flink with discard := v }, profile := p, ckptUnits := c } := h.quiet rfl rfl

theorem halts_enterContained (x : Stripe) (a : RecArg) (now : Bool) (k : Int) (h : Halts s0 s) : Halts s0 (s.enterContained x a now k) := by
  unfold State.enterContained
  dsimp only
  generalize hu : State.modStripe _ _ _ = u
  have hheld : Halts s0 u := by
    rw [← hu]
    exact (halts_recordRaw _ h).quiet rfl rfl
  have hshade := halts_discard (lowBits 24 (x.flashBase + k)) x k (halts_shadeOn now (halts_droverTo 5 hheld))
  generalize State.dropAfter _ _ _ = v at hshade ⊢
  have hregs : Halts s0 (((v.setFld R.SYS_CKPT_STATE 3 0 1).wr R.SYS_CKPT_HELD (lowBits 32 k)).wr64 R.DROVER_HELD_L v.drover.lastIndex) :=
    halts_wr _ _ (by decide) (halts_wr _ _ (by decide) (halts_wr _ _ (by decide) (halts_wr _ _ (by decide) hshade)))
  generalize State.wr64 _ _ _ = w at hregs ⊢
  have hflood : ∀ c : State, Only 76092819304051900416 c (c.floodContain a.code) := fun c => only_floodContain _ rfl (only_refl _ c)
  exact halts_showStripes ((halts_noted _ _ _ hregs).quiet ((hflood _).regs rfl) ((hflood _).drover rfl))

theorem halts_containAt (a : RecArg) (now : Bool) (k : Int) (h : Halts s0 s) : Halts s0 (s.containAt a now k) := by
  have hnow : Halts s0 (if now then s.shadeOn true else s) := halts_ite (halts_shadeOn _ h) h
  unfold State.containAt
  split
  · exact halts_recordRaw _ h
  · next x _ =>
    split
    · dsimp only
      split
      · refine halts_noted _ _ _ (halts_wr _ _ (by decide) (halts_discard _ _ _ (halts_shadeOn _ (halts_droverTo _ ?_))))
        exact (halts_recordRaw _ hnow).quiet rfl rfl
      · exact halts_recordRaw _ hnow
    · exact halts_enterContained _ _ _ _ h

theorem halts_contain (a : RecArg) (now : Bool) (h : Halts s0 s) : Halts s0 (s.contain a now) := halts_containAt a now _ h

theorem halts_record (a : RecArg) (h : Halts s0 s) : Halts s0 (s.record a) := by
  unfold State.record
  exact halts_ite (halts_contain _ _ (halts_recordRaw _ h)) (halts_recordRaw _ h)

end Halting

/-! ### A stripe contained, and the records that follow -/

/-- A stripe as its containment holds it (R470). -/
def Stripe.heldAt (code seq : Nat) (h : Int) (y : Stripe) : Stripe :=
  { y with st := .contained, held := h, cause := code, causeSeq := seq % 2 ^ 32, ckpt := 1, ckptTry := 0 }

theorem stripes_enterContained (s : State) (x : Stripe) (a : RecArg) (now : Bool) (h : Int) : (s.enterContained x a now h).stripes =
    s.stripes.map (fun y => if y.ord = x.ord then y.heldAt a.code s.log.nextSeq h else y) := by
  unfold State.enterContained
  dsimp only
  have hraw : ∀ b, (s.recordRaw b).stripes = s.stripes := fun b =>
    (only_recordRaw (mm := 78398662313265602577) b rfl (only_refl _ s)).stripes rfl
  generalize hu : State.modStripe _ _ _ = u
  have hheld : u.stripes = s.stripes.map (fun y => if y.ord = x.ord then y.heldAt a.code s.log.nextSeq h else y) := by
    rw [← hu, stripes_modStripe, hraw]
    rfl
  rw [← hheld]
  have hshade : Only 110680471039327076353 u
      ((((u.droverTo 5).shadeOn now).allLanes 0x55 (lowBits 24 (x.flashBase + h))).dropAfter x h) :=
    only_dropAfter x h rfl (only_allLanes _ _ rfl (only_shadeOn now rfl (only_droverTo 5 rfl (only_refl _ u))))
  generalize State.dropAfter _ _ _ = v at hshade ⊢
  have hregs : Only 1 v (((v.setFld R.SYS_CKPT_STATE 3 0 1).wr R.SYS_CKPT_HELD (lowBits 32 h)).wr64 R.DROVER_HELD_L v.drover.lastIndex) :=
    only_wr _ _ rfl (only_wr _ _ rfl (only_wr _ _ rfl (only_setFld _ _ _ _ rfl (only_refl _ v))))
  generalize State.wr64 _ _ _ = w at hregs ⊢
  have hend : ∀ c : State, (c.floodContain a.code).showStripes.stripes = c.stripes := fun c =>
    (only_showStripes (mm := 76092819304051900417) rfl (only_floodContain _ rfl (only_refl _ c))).stripes rfl
  rw [hend]
  exact (hregs.stripes rfl).trans (hshade.stripes rfl)

/-- Marking the stripes of one number so that a search accepts them: what it then finds first is one of them. -/
theorem find?_marked {p : Stripe → Bool} {g : Stripe → Stripe} {x : Stripe} (hg : ∀ y, p (g y) = true) :
    ∀ l : List Stripe, l.find? p = some x → ∃ z, (l.map (fun y => if y.ord = x.ord then g y else y)).find? p = some (g z)
  | y :: l, h => by
    by_cases hy : y.ord = x.ord
    · exact ⟨y, by rw [List.map_cons, if_pos hy, List.find?_cons, hg]⟩
    · have hp : p y = false := by
        by_contra hne
        rw [List.find?_cons, Bool.eq_true_of_not_eq_false hne] at h
        exact hy (congrArg Stripe.ord (Option.some.inj h))
      rw [List.find?_cons, hp] at h
      obtain ⟨z, hz⟩ := find?_marked hg l h
      exact ⟨z, by rw [List.map_cons, if_neg hy, List.find?_cons, hp, hz]⟩

/-- The active stripe stands contained before its checkpoint is restored. -/
def State.heldFast (u : State) : Prop := ∃ z, u.active = some z ∧ z.st = .contained ∧ z.ckpt = 1

theorem heldFast_contain {s : State} {x : Stripe} (hx : s.active = some x) (hw : x.st = .writing) (a : RecArg) (now : Bool) :
    (s.contain a now).heldFast := by
  rw [contain_writing hx hw]
  unfold State.heldFast State.active
  rw [stripes_enterContained]
  obtain ⟨z, hz⟩ := find?_marked (g := Stripe.heldAt a.code s.log.nextSeq s.drover.k) (fun _ => rfl) _ hx
  exact ⟨_, hz, rfl, rfl⟩

theorem containedBy_recordRaw {u : State} {x : Stripe} {code : Nat} {k : Int} (h : u.containedBy x code k) (b : RecArg) :
    (u.recordRaw b).containedBy x code k := by
  have ho : Only 78398662313265602577 u (u.recordRaw b) := only_recordRaw b rfl (only_refl _ u)
  unfold State.containedBy State.fld at h ⊢
  rw [ho.stripes rfl, ho.drover rfl, ho.flink rfl, rd_recordRaw_far u b (by decide) (by decide)]
  exact h

/-- A further record finds the stripe contained and contains nothing else (R465, R471). -/
theorem containedBy_record {u : State} (hu : u.heldFast) {x : Stripe} {code : Nat} {k : Int} (h : u.containedBy x code k) (b : RecArg) :
    (u.record b).containedBy x code k := by
  obtain ⟨z, hz, hst, hck⟩ := hu
  have hraw := containedBy_recordRaw h b
  have hact : (u.recordRaw b).active = some z := by
    unfold State.active
    rw [(only_recordRaw (mm := 78398662313265602577) b rfl (only_refl _ u)).stripes rfl]
    exact hz
  unfold State.record
  dsimp only
  split
  · unfold State.contain State.containAt
    rw [hact]
    dsimp only
    rw [if_pos hst, if_neg Bool.false_ne_true, if_neg (by omega)]
    exact containedBy_recordRaw hraw _
  · exact hraw

end Sys2Proof.Machine
end

section
/-! SUPPORT. Position channels, their references, detection and zone boundaries (spec/08_drover_sync.md). -/

namespace Sys2Proof.Machine

/-! ### Channels read back -/

theorem enc_setEnc (s : State) (i j : Nat) (e : Enc) : (s.setEnc i e).enc j = if i = j then e else s.enc j :=
  kget_kset _ _ _ _ _

@[simp] theorem enc_setEnc_same (s : State) (i : Nat) (e : Enc) : (s.setEnc i e).enc i = e := by rw [enc_setEnc, if_pos rfl]

theorem enc_setEnc_other (s : State) {i j : Nat} (e : Enc) (h : j ≠ i) : (s.setEnc i e).enc j = s.enc j := by
  rw [enc_setEnc, if_neg (Ne.symm h)]

theorem enc_congr {s t : State} (h : t.drover.encs = s.drover.encs) (i : Nat) : t.enc i = s.enc i := by
  unfold State.enc
  rw [h]

/-- What a channel takes changes that channel alone (R250, R252). -/
theorem enc_take_other (s : State) {i ch : Nat} (m : ChanIn) (h : i ≠ ch) : (s.take ch m).enc i = s.enc i := by
  unfold State.take
  dsimp only
  split
  · exact enc_setEnc_other s _ h
  · exact enc_setEnc_other s _ h
  · exact enc_setEnc_other s _ h
  · rfl

theorem encsOnly_refl (s : State) : EncsOnly s s := ⟨s.drover.encs, rfl⟩

theorem encsOnly_setEnc {s u : State} (hu : EncsOnly s u) (ch : Nat) (e : Enc) : EncsOnly s (u.setEnc ch e) := by
  obtain ⟨m, rfl⟩ := hu
  exact ⟨_, rfl⟩

/-- Where the channels alone differ, only Drover does. -/
theorem EncsOnly.eq {s t : State} (h : EncsOnly s t) : t = { s with drover := t.drover } := by
  obtain ⟨m, rfl⟩ := h
  rfl

theorem EncsOnly.regs {s t : State} (h : EncsOnly s t) : t.regs = s.regs := by rw [h.eq]

/-- The channels of a list set one after another, each from what does not depend on the others. -/
theorem enc_foldl_setEnc {g : State → Nat → Enc} (hg : ∀ u i e ch, ch ≠ i → g (State.setEnc u i e) ch = g u ch) (j : Nat) :
    ∀ (l : List Nat), l.Nodup → ∀ s : State, (l.foldl (fun s ch => s.setEnc ch (g s ch)) s).enc j = if j ∈ l then g s j else s.enc j
  | [], _, s => by rw [if_neg List.not_mem_nil]; rfl
  | i :: l, hnd, s => by
    obtain ⟨hi, hl⟩ := List.nodup_cons.mp hnd
    rw [List.foldl_cons, enc_foldl_setEnc hg j l hl]
    by_cases hj : j = i
    · rw [hj, if_neg hi, if_pos List.mem_cons_self, enc_setEnc_same]
    · rw [hg _ _ _ _ hj, enc_setEnc_other _ _ hj]
      simp only [List.mem_cons, hj, false_or]

theorem mem_channels {ch : Nat} : ch ∈ [0, 1, 2, 3] ↔ ch ≤ 3 := by
  simp only [List.mem_cons, List.not_mem_nil, or_false]
  omega

/-! ### The position of a channel -/

/-- The registers by which a channel's position is read from its count (R251, R252). -/
def encRegs (ch : Nat) : List RegAddr := [encReg R.DROVER_ENC_MODE ch, encReg R.DROVER_ENC_SCALE ch, encReg R.DROVER_ENC_WORD ch]

/-- What of a channel its position is read from. -/
def Enc.placed (e : Enc) : Int × List Int × Nat × Int := (e.count, e.words, e.sinceNs, e.off)

theorem encPos_congr {s t : State} {i : Nat} (hr : ∀ a ∈ encRegs i, t.rd a = s.rd a) (he : (t.enc i).placed = (s.enc i).placed) :
    t.encPos i = s.encPos i := by
  have hmode : t.encMode i = s.encMode i := by
    unfold State.encMode State.fld
    rw [hr _ (by simp [encRegs])]
  have hscale : t.encScale i = s.encScale i := hr _ (by simp [encRegs])
  have hword : t.fld (encReg R.DROVER_ENC_WORD i) 15 0 = s.fld (encReg R.DROVER_ENC_WORD i) 15 0 := by
    unfold State.fld
    rw [hr _ (by simp [encRegs])]
  obtain ⟨hcount, hwords, hsince, hoff⟩ : (t.enc i).count = (s.enc i).count ∧ (t.enc i).words = (s.enc i).words ∧
      (t.enc i).sinceNs = (s.enc i).sinceNs ∧ (t.enc i).off = (s.enc i).off := by simpa [Enc.placed] using he
  unfold State.encPos
  simp only [hmode, hscale, hword, hcount, hwords, hsince, hoff]

/-- A number of 48 bits read back (R250). -/
theorem signedOf_lowBits {r : Int} (hlo : -2 ^ 47 ≤ r) (hhi : r < 2 ^ 47) : signedOf 48 (lowBits 48 r) = r := by
  unfold signedOf lowBits
  split <;> omega

/-- The reading in two's complement differs from the number by a multiple of 2^48. -/
theorem lowBits_sub_signedOf (z r : Int) : lowBits 48 (z + (r - signedOf 48 (lowBits 48 z))) = lowBits 48 r := by
  unfold signedOf lowBits
  split <;> omega

/-- Between its words a serial channel is extrapolated; an incremental channel reads its count and its offset (R251, R288). -/
theorem encPos_incremental {s : State} {ch : Nat} (hm : s.encMode ch = 1 ∨ s.encMode ch = 2) (hs : s.encScale ch ≠ 0) :
    s.encPos ch = signedOf 48 (lowBits 48 (((s.enc ch).count * s.encScale ch).fdiv 16777216 + (s.enc ch).off)) := by
  unfold State.encPos
  dsimp only
  rw [if_neg hs]
  rcases hm with h | h <;> rw [h] <;> simp

/-- A channel with its offset set to bring it to a position reads that position (R288). -/
theorem encPos_offset {s : State} {ch : Nat} {e : Enc} {r : Int} (hm : s.encMode ch = 1 ∨ s.encMode ch = 2) (hs : s.encScale ch ≠ 0)
    (hlo : -2 ^ 47 ≤ r) (hhi : r < 2 ^ 47) (hcount : e.count = (s.enc ch).count) (hoff : e.off = (s.enc ch).off + (r - s.encPos ch)) :
    (s.setEnc ch e).encPos ch = r := by
  have hset : (s.setEnc ch e).encPos ch = signedOf 48 (lowBits 48 ((e.count * s.encScale ch).fdiv 16777216 + e.off)) := by
    rw [encPos_incremental (s := s.setEnc ch e) hm hs, enc_setEnc_same]
    rfl
  rw [hset, hcount, hoff, encPos_incremental hm hs, ← add_assoc, lowBits_sub_signedOf, signedOf_lowBits hlo hhi]

/-! ### A reference pulse -/

/-- The channel that lacked its reference counts from it again (R288). -/
def State.referred (v : State) (ch : Nat) : State :=
  let e := v.enc ch
  if e.unref then
    v.setEnc ch { e with unref := false, lost := false, off := e.off + ((e.stripeRef.getD (v.encPos ch)) - v.encPos ch) }
  else v

/-- The pulse noted at the count it finds (R255). -/
def State.zNoted (u : State) (ch : Nat) : State := u.setEnc ch { u.enc ch with zref := some (u.encPos ch) }

theorem encPos_zNoted (u : State) (ch : Nat) : (u.zNoted ch).encPos ch = u.encPos ch :=
  encPos_congr (fun _ _ => rfl) (by unfold State.zNoted; rw [enc_setEnc_same]; rfl)

theorem exec_encZEdge {s : State} {ch : Nat} (hch : ch ≤ 3) (hm : s.encMode ch = 1 ∨ s.encMode ch = 2) (inp : ChanIn) :
    exec (.encZEdge ch inp) s = .next (((s.take ch inp).referred ch).zNoted ch) := by
  show execEncZEdge ch inp s = _
  unfold execEncZEdge
  rw [if_neg (by omega)]
  rfl

theorem encsOnly_referred {s v : State} (hv : EncsOnly s v) (ch : Nat) : EncsOnly s (v.referred ch) := by
  unfold State.referred
  dsimp only
  split
  · exact encsOnly_setEnc hv _ _
  · exact hv

theorem enc_referred_other (v : State) {i ch : Nat} (h : i ≠ ch) : (v.referred ch).enc i = v.enc i := by
  unfold State.referred
  dsimp only
  split
  · exact enc_setEnc_other v _ h
  · rfl

/-- A channel that has its reference only notes the pulse. -/
theorem referred_known {v : State} {ch : Nat} (h : (v.enc ch).unref = false) : v.referred ch = v := by
  unfold State.referred
  dsimp only
  rw [h, if_neg Bool.false_ne_true]

/-- The reference of its stripe is taken up (R288). -/
theorem referred_again {v : State} {ch : Nat} {r : Int} (h : (v.enc ch).unref = true) (hr : (v.enc ch).stripeRef = some r) :
    v.referred ch = v.setEnc ch { v.enc ch with unref := false, lost := false, off := (v.enc ch).off + (r - v.encPos ch) } := by
  unfold State.referred
  dsimp only
  rw [if_pos h, hr]
  rfl

/-- With no reference of a stripe the count goes on (R255). -/
theorem referred_fresh {v : State} {ch : Nat} (h : (v.enc ch).unref = true) (hr : (v.enc ch).stripeRef = none) :
    v.referred ch = v.setEnc ch { v.enc ch with unref := false, lost := false } := by
  unfold State.referred
  dsimp only
  rw [if_pos h, hr, Option.getD_none, sub_self, add_zero]

/-! ### Detection -/

/-- DETECT begun on one channel (R254). -/
def Enc.undetected (e : Enc) : Enc := { e with detDone := false, detected := 0 }

/-- What was found on a channel with its SCLK rate (R254, R655). -/
def Enc.found (m loop mhz : Nat) (e : Enc) : Enc :=
  { e with detDone := true, detected := if m = 3 ∧ loop * mhz > 2000 then 0 else m, loopNs := loop }

/-- Detection begun on all four channels (R254). -/
def State.detectBegun (s : State) : State :=
  [0, 1, 2, 3].foldl (fun s ch => s.setEnc ch (s.enc ch).undetected) { s with drover := { s.drover with detecting := true } }

/-- Detection ended with what was found (R254, R655). -/
def State.detectEnded (s : State) (modes loopNs : List Nat) : State :=
  [0, 1, 2, 3].foldl (fun s ch => s.setEnc ch ((s.enc ch).found (modes.getD ch 0 % 4) (loopNs.getD ch 0)
    (s.fld (encReg R.DROVER_ENC_MODE ch) 20 16))) { s with drover := { s.drover with detecting := false } }

theorem exec_detect {s : State} {o : Origin} {v : Nat} (hp : s.permit o R.DROVER_DETECT v = .ok s) (hv : fieldOf v 0 0 = 1) :
    ∃ r, exec (.detect o v) s = .next { s with trace := r }.detectBegun := by
  obtain ⟨r, hr⟩ := traceRec_eq s (pageOf R.DROVER_DETECT) 0 (offOf R.DROVER_DETECT) [v, o.code]
  refine ⟨r, ?_⟩
  show execDetect o v s = _
  unfold execDetect State.act
  rw [hp]
  dsimp only
  rw [hr, if_neg (by omega)]
  rfl

theorem exec_detectDone {s : State} (h : s.drover.detecting = true) (modes loopNs : List Nat) :
    exec (.detectDone modes loopNs) s = .next (s.detectEnded modes loopNs) := by
  show execDetectDone modes loopNs s = _
  unfold execDetectDone
  rw [h, if_neg (by decide)]
  rfl

theorem encsOnly_foldl_setEnc (g : State → Nat → Enc) (s : State) (l : List Nat) :
    EncsOnly s (l.foldl (fun s ch => s.setEnc ch (g s ch)) s) :=
  List.foldlRecOn (motive := EncsOnly s) l _ (encsOnly_refl s) (fun _ hu ch _ => encsOnly_setEnc hu ch _)

/-- Of Drover a detection that begins or ends changes the channels, and that it is under way. -/
theorem encsOnly_detectBegun (s : State) : EncsOnly { s with drover := { s.drover with detecting := true } } s.detectBegun :=
  encsOnly_foldl_setEnc (fun u ch => (u.enc ch).undetected) _ _

theorem enc_detectBegun (s : State) (ch : Nat) : s.detectBegun.enc ch = if ch ≤ 3 then (s.enc ch).undetected else s.enc ch := by
  unfold State.detectBegun
  rw [enc_foldl_setEnc (fun u i e ch h => by rw [enc_setEnc_other u e h]) ch _ (by decide)]
  simp only [mem_channels]
  rfl

theorem encsOnly_detectEnded (s : State) (modes loopNs : List Nat) :
    EncsOnly { s with drover := { s.drover with detecting := false } } (s.detectEnded modes loopNs) :=
  encsOnly_foldl_setEnc (fun u ch => (u.enc ch).found (modes.getD ch 0 % 4) (loopNs.getD ch 0)
    (u.fld (encReg R.DROVER_ENC_MODE ch) 20 16)) _ _

theorem enc_detectEnded (s : State) (modes loopNs : List Nat) {ch : Nat} (h : ch ≤ 3) : (s.detectEnded modes loopNs).enc ch =
    (s.enc ch).found (modes.getD ch 0 % 4) (loopNs.getD ch 0) (s.fld (encReg R.DROVER_ENC_MODE ch) 20 16) := by
  unfold State.detectEnded
  rw [enc_foldl_setEnc (fun u i e ch h => by rw [enc_setEnc_other u e h]; rfl) ch _ (by decide), if_pos (mem_channels.mpr h)]
  rfl

/-! ### A sample under a stripe -/

/-- The gearing advanced to the position that stands for the main travel (R263). -/
def State.gearNow (s : State) (x : Stripe) : Gear :=
  Gear.advance s.gearing.zones s.zoneTable s.gearing.trim (s.gearing.travel x.srec.dir s.mainPos) 64 s.drover.gear

theorem drover_locate (s : State) (x : Stripe) : (s.locate x).drover = { s.drover with
    baseT := (s.gearNow x).baseT, baseY := (s.gearNow x).baseY, ratio := (s.gearNow x).ratio, zoneNext := (s.gearNow x).zoneNext,
    y := (s.gearNow x).y (s.gearing.travel x.srec.dir s.mainPos) } := by
  unfold State.locate State.gearNow
  dsimp only
  generalize Gear.advance _ _ _ _ _ _ = k
  rw [(only_showDemand (mm := 1) rfl (only_refl _ _)).drover rfl]
  rfl

theorem st_sample (s : State) (x : Stripe) (m : Sample) : (s.sample x m).drover.st = s.drover.st := by
  obtain ⟨e, he⟩ := encsOnly_see s m
  have hst : (s.see m).drover.st = s.drover.st := by rw [he]
  unfold State.sample
  rw [drover_locate]
  exact hst

/-- The gearing after a sample, where the zones stand and y (R263, R265). -/
theorem gear_sample (s : State) (x : Stripe) (m : Sample) :
    let tr := s.gearing.travel x.srec.dir (s.see m).mainPos
    let k := Gear.advance s.gearing.zones s.zoneTable s.gearing.trim tr 64 s.drover.gear
    (s.sample x m).drover.gear = k ∧ (s.sample x m).drover.y = k.y tr ∧ (s.sample x m).drover.yPeak = s.drover.yPeak := by
  have hnow : (s.see m).gearNow x = Gear.advance s.gearing.zones s.zoneTable s.gearing.trim
      (s.gearing.travel x.srec.dir (s.see m).mainPos) 64 s.drover.gear := by
    unfold State.gearNow
    generalize (s.see m).mainPos = p
    obtain ⟨e, he⟩ := encsOnly_see s m
    rw [he]
    rfl
  have hgearing : (s.see m).gearing = s.gearing := by
    unfold State.gearing State.inForce
    rw [(only_see_self s m).force rfl]
  have hpeak : (s.see m).drover.yPeak = s.drover.yPeak := by
    obtain ⟨e, he⟩ := encsOnly_see s m
    rw [he]
  dsimp only
  unfold State.sample
  rw [drover_locate, ← hnow, ← hgearing]
  exact ⟨rfl, rfl, hpeak⟩

theorem yPeak_peak (s : State) : s.peak.drover.yPeak = max s.drover.yPeak s.drover.y := rfl

theorem gear_peak (s : State) : s.peak.drover.gear = s.drover.gear := rfl

theorem y_peak (s : State) : s.peak.drover.y = s.drover.y := rfl

theorem tooFar_peak (s : State) (w : Bool) : s.peak.tooFar w = s.tooFar w := rfl

/-- A change of Drover and of registers, as an equation. -/
theorem droverShown_eq {s t : State} (h : Only 4398046511105 s t) : t = { s with regs := t.regs, drover := t.drover } := h.eq_takes

/-- What is too far in TRACK is so whatever the window (R270, R283). -/
theorem tooFar_of_track {s : State} (h : s.tooFar false = true) (w : Bool) : s.tooFar w = true := by
  unfold State.tooFar at h ⊢
  dsimp only at h ⊢
  rw [Bool.and_false, Bool.false_and, Bool.or_false] at h
  rw [h, Bool.true_or]

/-- A sample whose demand is near enough changes what it shows and nothing else (R265, R270). -/
theorem sampled_near {s : State} {x : Stripe} {m : Sample} {w : Bool} (h : (s.sample x m).peak.tooFar w = false) :
    s.sampled x m w = (s.sample x m).peak := by
  unfold State.sampled
  dsimp only
  rw [h, if_neg Bool.false_ne_true]

/-- One that is too far in TRACK contains the stripe that writes (R270). -/
theorem sampled_far {s : State} {x : Stripe} (hx : s.active = some x) (hw : x.st = .writing) (m : Sample) (w : Bool)
    (h : (s.sample x m).tooFar false = true) : (s.sampled x m w).containedBy x Code.DROVER_OVERSPEED s.drover.k := by
  have hact : (s.sample x m).peak.active = some x := by
    unfold State.active
    rw [(only_samplePeak s x m).stripes rfl]
    exact hx
  have hk : (s.sample x m).peak.drover.k = s.drover.k := (onward_samplePeak x m (onward_refl false s)).k
  unfold State.sampled
  rw [← tooFar_peak] at h
  generalize (s.sample x m).peak = u at hact hk h
  dsimp only
  rw [if_pos (tooFar_of_track h w), ← hk]
  exact containedBy_overspeed u x hact hw h

theorem exec_zoneBoundary {s : State} {x : Stripe} (hx : s.active = some x) (h0 : s.drover.st ≠ 0) (h5 : s.drover.st ≠ 5) (smp : Sample) :
    exec (.zoneBoundary smp) s = .next (s.sampled x smp false) := by
  show execZoneBoundary smp s = _
  unfold execZoneBoundary
  rw [hx]
  dsimp only
  rw [if_neg (by omega)]

/-! ### The statement -/

/-- Settles O37: a pulse refers its channel by the offset that brings it to its stripe's reference, detection sets one channel after another,
and a zone boundary is a sample. -/
theorem channelsReferToZ : Obligations.ChannelsReferToZ := by
  unfold Obligations.ChannelsReferToZ
  refine ⟨?_, ?_, ?_, ?_⟩
  · intro ch inp s hch hmode
    have hv : EncsOnly s (s.take ch inp) := encsOnly_take (encsOnly_refl s) ch inp
    have hother : ∀ i, i ≠ ch → (s.take ch inp).enc i = s.enc i := fun i hi => enc_take_other s inp hi
    have hexec := exec_encZEdge hch hmode inp
    generalize s.take ch inp = v at hv hother hexec
    have hvmode : v.encMode ch = 1 ∨ v.encMode ch = 2 := by
      unfold State.encMode State.fld
      rw [rd_congr hv.regs]
      exact hmode
    have hscale : v.encScale ch = s.encScale ch := rd_congr hv.regs _
    refine ⟨_, hexec, (encsOnly_setEnc (encsOnly_referred hv ch) _ _).eq, fun i hi => ?_, fun hknown => ?_, fun r hlost hr => ⟨?_, ?_⟩,
      fun hlost hr => ?_⟩
    · exact (enc_setEnc_other _ _ hi).trans ((enc_referred_other v hi).trans (hother i hi))
    · rw [referred_known hknown]
      exact enc_setEnc_same _ _ _
    · rw [encPos_zNoted, referred_again hlost hr]
      unfold State.zNoted
      rw [enc_setEnc_same, enc_setEnc_same]
    · intro hs hlo hhi
      rw [encPos_zNoted, referred_again hlost hr]
      exact encPos_offset hvmode (by rw [hscale]; exact hs) hlo hhi rfl rfl
    · rw [referred_fresh hlost hr]
      have hpos : (v.setEnc ch { v.enc ch with unref := false, lost := false }).encPos ch = v.encPos ch :=
        encPos_congr (fun _ _ => rfl) (by rw [enc_setEnc_same]; rfl)
      unfold State.zNoted
      rw [enc_setEnc_same, enc_setEnc_same, hpos]
  · intro o v s hp hv
    obtain ⟨r, hexec⟩ := exec_detect hp hv
    have hbegun := enc_detectBegun { s with trace := r }
    obtain ⟨e, he⟩ := encsOnly_detectBegun { s with trace := r }
    refine ⟨_, hexec, ?_, ?_, hbegun⟩
    · rw [he]
    · rw [he]
  · intro modes loopNs s hdet
    obtain ⟨e, he⟩ := encsOnly_detectEnded s modes loopNs
    refine ⟨_, exec_detectDone hdet modes loopNs, ?_, ?_, fun ch hch => enc_detectEnded s modes loopNs hch⟩
    · rw [he]
    · rw [he]
  · intro smp x s hx h0 h5
    have hexec := exec_zoneBoundary hx h0 h5 smp
    refine ⟨fun hnear => ?_, fun hw hfar => ⟨_, hexec, sampled_far hx hw smp false hfar⟩⟩
    rw [sampled_near ((tooFar_peak _ _).trans hnear)] at hexec
    have hframe := droverShown_eq (only_samplePeak s x smp)
    have hregs := regsOff_samplePeak s x smp
    obtain ⟨hgear, hy, hpeak⟩ := gear_sample s x smp
    have hmax := yPeak_peak (s.sample x smp)
    rw [hpeak, hy] at hmax
    rw [← gear_peak] at hgear
    rw [← y_peak] at hy
    exact ⟨_, hexec, hframe, hgear, hy, hmax, hregs⟩

end Sys2Proof.Machine
end

section
/-! SUPPORT. Losses of position: the channel held, the flashes cut, and what follows for the stripe (spec/08_drover_sync.md). -/

namespace Sys2Proof.Machine

/-! ### The loss noted -/

/-- The flashes that a loss cuts: those of its window, where the channel is in use (R258). -/
def State.lossCuts (s : State) (ch cause : Nat) (l : Loss) : List Nat :=
  if (rolesOf s.gearing.src).contains ch then s.cutBy cause l else []

/-- The flashes cut and the channel lost, before the stripe is looked at (R256, R258). -/
def State.lossNoted (s : State) (ch cause : Nat) (l : Loss) : State :=
  ((s.atOnset l).cutFlashes (s.lossCuts ch cause l)).loseChannel ch cause

/-- What contains a stripe whose position is lost (R28, R285). -/
def lossRec (ch cause : Nat) : RecArg := { code := Code.DROVER_POS_LOSS, cls := 2, lk := 8, l0 := ch, l1 := cause }

/-- The channel whose position stands for the main travel: after a takeover the auxiliary one (R286). -/
def State.mainChannel (s : State) : Nat := if s.drover.aux then fieldOf s.gearing.src 5 4 else fieldOf s.gearing.src 1 0

/-- The dose window of the last flash is open as the loss is found (R258). -/
def State.lossInWindow (s : State) (l : Loss) : Bool :=
  decide (l.strobePs < s.dosePs) && s.drover.unconfirmed.contains s.drover.lastIndex

/-- A loss is its note, then what it means for the stripe, then the record of the flashes cut. -/
theorem loss_eq (s : State) (ch cause : Nat) (l : Loss) :
    let u := s.lossNoted ch cause l
    let cuts := s.lossCuts ch cause l
    s.loss ch cause l =
      if !decide (ch = s.mainChannel ∨ (fieldOf s.gearing.src 10 10 = 1 ∧ ch = fieldOf s.gearing.src 9 8)) then u.freezeCut cuts
      else if s.active.isNone ∨ s.drover.st = 0 then
        (if s.stripes.any (fun t => t.st = .draining) then u.contain (lossRec ch cause) else u).freezeCut cuts
      else if s.drover.st = 5 then (u.contain (lossRec ch cause)).freezeCut cuts
      else if ch = fieldOf s.gearing.src 1 0 ∧ !s.drover.aux ∧ s.auxEligible l then u.takeOver.freezeCut cuts
      else (u.contain (lossRec ch cause) (s.lossInWindow l)).freezeCut cuts := rfl

/-- Once it has been noted a loss does nothing more, contains, or takes over; then the flashes cut are recorded (R285, R286). -/
theorem loss_cases (s : State) (ch cause : Nat) (l : Loss) : ∃ u, s.loss ch cause l = u.freezeCut (s.lossCuts ch cause l) ∧
    (u = s.lossNoted ch cause l ∨ (∃ w, u = (s.lossNoted ch cause l).contain (lossRec ch cause) w) ∨
      u = (s.lossNoted ch cause l).takeOver) := by
  rw [loss_eq]
  split
  · exact ⟨_, rfl, .inl rfl⟩
  · split
    · split
      · exact ⟨_, rfl, .inr (.inl ⟨_, rfl⟩)⟩
      · exact ⟨_, rfl, .inl rfl⟩
    · split
      · exact ⟨_, rfl, .inr (.inl ⟨_, rfl⟩)⟩
      · split
        · exact ⟨_, rfl, .inr (.inr rfl)⟩
        · exact ⟨_, rfl, .inr (.inl ⟨_, rfl⟩)⟩

/-- With no stripe under way a loss is noted, and no more (R291). -/
theorem loss_idle {s : State} (hn : s.active = none) (hd : ∀ y ∈ s.stripes, y.st ≠ .draining) (ch cause : Nat) (l : Loss) :
    s.loss ch cause l = (s.lossNoted ch cause l).freezeCut (s.lossCuts ch cause l) := by
  have hany : s.stripes.any (fun t => t.st = .draining) = false := List.any_eq_false.mpr (fun y hy => by simpa using hd y hy)
  rw [loss_eq, if_pos (c := s.active.isNone ∨ s.drover.st = 0) (.inl (by rw [hn]; rfl)), hany, if_neg Bool.false_ne_true, ite_self]

section Track

variable {s : State} {x : Stripe} {ch : Nat} {l : Loss} (hx : s.active = some x) (hst : s.drover.st = 2)
  (hch : ch = fieldOf s.gearing.src 1 0) (haux : s.drover.aux = false) (cause : Nat)

include hx hst hch haux

/-- The main channel lost in TRACK: with no eligible auxiliary one the stripe is contained, else that one takes over (R285, R286). -/
theorem loss_track : s.loss ch cause l = (if s.auxEligible l then (s.lossNoted ch cause l).takeOver
    else (s.lossNoted ch cause l).contain (lossRec ch cause) (s.lossInWindow l)).freezeCut (s.lossCuts ch cause l) := by
  have hmain : ch = s.mainChannel := by
    unfold State.mainChannel
    rw [haux, hch]
    rfl
  rw [loss_eq, if_neg (by simp [hmain]), if_neg (by simp [hx, hst]), if_neg (by omega)]
  split
  · next h => rw [if_pos h.2.2]
  · next h => rw [if_neg (fun he => h ⟨hch, by rw [haux]; rfl, he⟩)]

end Track

/-! ### The commands -/

/-- Each of the four ways in which a channel is found lost is its loss (R256). -/
theorem exec_loss {s : State} {ch cause : Nat} {l : Loss} {bits : List Bool} {c : Instr} (hch : ch ≤ 3) (hl : (s.enc ch).lost = false)
    (hf : s.fatal = 0) (hc : (c = .positionLoss ch cause l ∧ causeOk (s.encMode ch) cause = true) ∨
      (c = .encFreeze ch l ∧ cause = 8 ∧ s.encMode ch ≠ 0 ∧ s.setpointMoves ch = true) ∨
      (c = .encWordSilent ch l ∧ cause = 7 ∧ s.encMode ch = 3) ∨
      (c = .encSerialWord ch bits l ∧ s.encMode ch = 3 ∧ serialWord (s.fld (encReg R.DROVER_ENC_MODE ch) 13 8) bits = .error cause)) :
    exec c s = .next (s.loss ch cause l) := by
  rcases hc with ⟨rfl, hok⟩ | ⟨rfl, rfl, hm, hmoves⟩ | ⟨rfl, rfl, hm⟩ | ⟨rfl, hm, hword⟩
  · show execPositionLoss ch cause l s = _
    unfold execPositionLoss
    rw [if_neg (by simp [hl, hok, hf, hch])]
  · show execEncFreeze ch l s = _
    unfold execEncFreeze
    rw [if_neg (by simp [hl, hm, hmoves, hf, hch])]
  · show execEncWordSilent ch l s = _
    unfold execEncWordSilent
    rw [if_neg (by simp [hl, hm, hf, hch])]
  · show execEncSerialWord ch bits l s = _
    unfold execEncSerialWord
    rw [if_neg (by simp [hm, hf, hch])]
    dsimp only
    rw [hword]
    dsimp only
    rw [hl, if_neg Bool.false_ne_true]

/-- A channel after a good word (R252). -/
def Enc.heard (e : Enc) (count : Int) (warn : Bool) : Enc :=
  { e with count, sinceNs := 0, lost := false, warn := e.warn || warn, words := if e.lost then [count] else count :: e.words.take 1 }

theorem exec_encSerialWord_good {s : State} {ch p : Nat} {warn : Bool} {bits : List Bool} (hch : ch ≤ 3) (hm : s.encMode ch = 3)
    (hf : s.fatal = 0) (hword : serialWord (s.fld (encReg R.DROVER_ENC_MODE ch) 13 8) bits = .ok (p, warn)) (l : Loss) :
    exec (.encSerialWord ch bits l) s =
      .next (s.setEnc ch ((s.enc ch).heard (signedOf (s.fld (encReg R.DROVER_ENC_MODE ch) 13 8) p) warn)) := by
  show execEncSerialWord ch bits l s = _
  unfold execEncSerialWord
  rw [if_neg (by simp [hm, hf, hch])]
  dsimp only
  rw [hword]
  rfl

theorem exec_droverOverspeed {s : State} {x : Stripe} (hx : s.active = some x) (h0 : s.drover.st ≠ 0) (h5 : s.drover.st ≠ 5)
    (smp : Sample) (w : Bool) : exec (.droverOverspeed smp w) s = .next (s.sampled x smp w) := by
  show execDroverOverspeed smp w s = _
  unfold execDroverOverspeed
  rw [hx]
  dsimp only
  rw [if_neg (by omega)]

/-! ### What the note of a loss leaves -/

theorem only_atOnset_self (s : State) (l : Loss) : Only 4398046511105 s (s.atOnset l) := only_atOnset l rfl (only_refl _ s)

/-- The positions of the onset, as the samples of a flash, fire and confirm nothing (R257). -/
theorem onward_atOnset (s : State) (l : Loss) : Onward false s (s.atOnset l) := by
  unfold State.atOnset
  split
  · exact onward_ite (onward_see _ (onward_refl _ s)) (onward_samplePeak _ _ (onward_refl _ s))
  · exact onward_see _ (onward_refl _ s)

theorem st_peak (s : State) : s.peak.drover.st = s.drover.st := rfl

theorem st_atOnset (s : State) (l : Loss) : (s.atOnset l).drover.st = s.drover.st := by
  have hsee : (s.see l.onset).drover.st = s.drover.st := by
    obtain ⟨e, he⟩ := encsOnly_see s l.onset
    rw [he]
  unfold State.atOnset
  split
  · split
    · exact hsee
    · next x _ _ => exact (st_peak _).trans (st_sample s x l.onset)
  · exact hsee

section Note

variable (s : State) (ch cause : Nat) (l : Loss)

theorem only_lossNoted : Only 4398046511105 s (s.lossNoted ch cause l) :=
  only_loseChannel ch cause rfl (only_cutFlashes _ rfl (only_atOnset_self s l))

/-- The channel is lost, and the others stand as at the onset (R257). -/
theorem enc_lossNoted : ((s.lossNoted ch cause l).enc ch).lost = true ∧ ((s.lossNoted ch cause l).enc ch).placed = ((s.atOnset l).enc ch).placed ∧
    ∀ i, i ≠ ch → (s.lossNoted ch cause l).enc i = (s.atOnset l).enc i := by
  unfold State.lossNoted State.loseChannel
  generalize s.atOnset l = v
  generalize s.lossCuts ch cause l = cuts
  have hset : ∀ (e : Enc) (n : Nat) (i : Nat), (((v.cutFlashes cuts).setEnc ch e).wr R.DROVER_LOSS_CAUSE n).enc i =
      if ch = i then e else v.enc i := fun e n i => enc_setEnc (v.cutFlashes cuts) ch i e
  refine ⟨?_, ?_, fun i hi => ?_⟩
  · rw [hset, if_pos rfl]
  · rw [hset, if_pos rfl]
    rfl
  · rw [hset, if_neg (Ne.symm hi)]

/-- Of the registers a loss shows its cause (R256). -/
theorem regsOff_lossNoted : RegsOff [R.DROVER_LOSS_CAUSE] (s.atOnset l) (s.lossNoted ch cause l) := by
  unfold State.lossNoted State.loseChannel
  generalize s.atOnset l = v
  generalize s.lossCuts ch cause l = cuts
  exact regsOff_wr _ _ (List.mem_singleton.mpr rfl) (regsOff_regs (t := v) rfl (regsOff_refl _ v))

theorem rd_lossNoted (h : ch * 256 + cause < 2 ^ 32) : (s.lossNoted ch cause l).rd R.DROVER_LOSS_CAUSE = ch * 256 + cause :=
  rd_wr_same _ _ h

theorem stand_lossNoted : (s.lossNoted ch cause l).drover.st = s.drover.st ∧ (s.lossNoted ch cause l).drover.k = s.drover.k :=
  ⟨st_atOnset s l, (onward_atOnset s l).k⟩

/-- A cut is kept: the flashes cut before, and those of the list that wait to be confirmed (R258). -/
theorem mem_cut_cutFlashes {u : State} {i : Nat} {cuts : List Nat} (hi : i ∈ cuts) (hw : i ∈ u.drover.unconfirmed) :
    i ∈ (u.cutFlashes cuts).drover.cut := by
  show i ∈ List.filter _ cuts ++ u.drover.cut
  by_cases hc : i ∈ u.drover.cut
  · exact List.mem_append_right _ hc
  · exact List.mem_append_left _ (List.mem_filter.mpr ⟨hi, by simp [hw, hc]⟩)

theorem cut_lossNoted {i : Nat} (hi : i ∈ s.cutBy cause l) (hrole : (rolesOf s.gearing.src).contains ch = true) :
    i ∈ (s.lossNoted ch cause l).drover.cut := by
  have hcuts : i ∈ s.lossCuts ch cause l := by
    unfold State.lossCuts
    rw [if_pos hrole]
    exact hi
  have hwait : i ∈ (s.atOnset l).drover.unconfirmed := by
    rw [(onward_atOnset s l).unconfirmed]
    exact List.mem_of_mem_filter hi
  exact mem_cut_cutFlashes hcuts hwait

/-- The positions are those of the onset (R286). -/
theorem encPos_lossNoted {i : Nat} (hi : i ≤ 3) : (s.lossNoted ch cause l).encPos i = (s.atOnset l).encPos i := by
  obtain ⟨-, hsame, hother⟩ := enc_lossNoted s ch cause l
  refine encPos_congr (fun a ha => regsOff_lossNoted s ch cause l a ?_) ?_
  · revert a
    unfold encRegs encReg
    interval_cases i <;> decide
  · by_cases h : i = ch
    · rw [h, hsame]
    · rw [hother i h]

end Note

/-! ### What a loss leaves -/

/-- The takeover before its record (R286). -/
def State.tookOver (s : State) : State :=
  { s with drover := { s.drover with aux := true, oS := s.encPos (fieldOf s.gearing.src 1 0) - s.encPos (fieldOf s.gearing.src 5 4) } }.setFld
    R.DROVER_STATE 8 8 1

theorem halts_takeOver (s : State) : Halts s.tookOver s.takeOver := halts_record _ (halts_refl _)

theorem halts_freezeCut (s : State) (cuts : List Nat) : Halts s (s.freezeCut cuts) := by
  unfold State.freezeCut
  exact halts_ite (halts_refl s) (halts_record _ (halts_refl s))

/-- Whatever follows the note of a loss, the channels, the flashes cut and the cause stand. -/
structure LossStands (s t : State) : Prop where
  encs : t.drover.encs = s.drover.encs
  cut : t.drover.cut = s.drover.cut
  cause : t.rd R.DROVER_LOSS_CAUSE = s.rd R.DROVER_LOSS_CAUSE

theorem LossStands.halts {s u t : State} (h : LossStands s u) (ht : Halts u t) : LossStands s t := by
  obtain ⟨n, hn⟩ := ht.drover
  exact ⟨by rw [hn]; exact h.encs, by rw [hn]; exact h.cut, (ht.regs _ (by decide) (by decide)).trans h.cause⟩

theorem lossStands_loss (s : State) (ch cause : Nat) (l : Loss) : LossStands (s.lossNoted ch cause l) (s.loss ch cause l) := by
  obtain ⟨u, hu, hcases⟩ := loss_cases s ch cause l
  rw [hu]
  refine LossStands.halts ?_ (halts_freezeCut u _)
  rcases hcases with rfl | ⟨w, rfl⟩ | rfl
  · exact ⟨rfl, rfl, rfl⟩
  · exact LossStands.halts ⟨rfl, rfl, rfl⟩ (halts_contain _ w (halts_refl _))
  · refine LossStands.halts ?_ (halts_takeOver _)
    exact ⟨rfl, rfl, rd_setFld_other _ _ _ (by decide)⟩

/-- The stripe that writes is contained at the last flash fired, with NOW or without (R466, R470). -/
theorem containedBy_contain {s : State} {x : Stripe} (hx : s.active = some x) (hw : x.st = .writing) (a : RecArg) (now : Bool) :
    (s.contain a now).containedBy x a.code s.drover.k := by
  rw [contain_writing hx hw]
  exact containedBy_enterContained s x a now s.drover.k (List.mem_of_find?_eq_some hx)

/-- A stripe contained by the loss stands so whatever the record of the cut flashes brings (R285). -/
theorem containedBy_freezeCut {u : State} (hu : u.heldFast) {x : Stripe} {code : Nat} {k : Int} (h : u.containedBy x code k)
    (cuts : List Nat) : (u.freezeCut cuts).containedBy x code k := by
  unfold State.freezeCut
  split
  · exact h
  · exact containedBy_record hu h _

/-- With room in the log the takeover and the record of the flashes cut are notes alone (R286). -/
theorem takeOver_noted {s : State} (hroom : 256 < s.logFree) (cuts : List Nat) :
    (s.takeOver.freezeCut cuts).stripes = s.stripes ∧ (s.takeOver.freezeCut cuts).drover = s.tookOver.drover ∧
      (s.takeOver.freezeCut cuts).fld R.DROVER_STATE 8 8 = 1 := by
  obtain ⟨a, ha⟩ : ∃ a, s.takeOver = s.tookOver.record a := ⟨_, rfl⟩
  have hfree : s.tookOver.logFree = s.logFree := rfl
  rw [ha, record_spare (by omega)]
  have hleft := logFree_recordRaw s.tookOver a
  have hraw : Only 78398662313265602577 s.tookOver (s.tookOver.recordRaw a) := only_recordRaw a rfl (only_refl _ _)
  have hbit : (s.tookOver.recordRaw a).fld R.DROVER_STATE 8 8 = 1 := by
    unfold State.fld
    rw [rd_recordRaw_far _ a (by decide) (by decide)]
    exact fld_setFld_bit _ _ (by decide)
  generalize s.tookOver.recordRaw a = u at hleft hraw hbit
  unfold State.freezeCut
  split
  · exact ⟨hraw.stripes rfl, hraw.drover rfl, hbit⟩
  · rw [record_spare (by omega)]
    generalize RecArg.mk .. = b
    have hcut : Only 78398662313265602577 u (u.recordRaw b) := only_recordRaw b rfl (only_refl _ u)
    refine ⟨(hcut.stripes rfl).trans (hraw.stripes rfl), (hcut.drover rfl).trans (hraw.drover rfl), ?_⟩
    unfold State.fld at hbit ⊢
    rw [rd_recordRaw_far u b (by decide) (by decide), hbit]

/-! ### The statement -/

/-- A serial word fails by one of the three criteria of R256. -/
theorem serialWord_error {n cause : Nat} {w : List Bool} (h : serialWord n w = .error cause) : cause = 5 ∨ cause = 6 ∨ cause = 9 := by
  unfold serialWord at h
  split at h
  · dsimp only at h
    split at h
    · exact .inl (Except.error.inj h).symm
    · split at h
      · exact .inr (.inl (Except.error.inj h).symm)
      · cases h
  · exact .inr (.inr (Except.error.inj h).symm)

theorem causeOk_le {mode cause : Nat} (h : causeOk mode cause = true) : cause ≤ 9 := by
  unfold causeOk at h
  split at h
  · simp at h; omega
  · simp at h; omega
  · simp at h; omega
  · cases h

/-- With no stripe under way and no flash to cut the loss shows its cause and marks its channel (R256). -/
theorem loss_alone {s : State} (hn : s.active = none) (hd : ∀ y ∈ s.stripes, y.st ≠ .draining) (ch : Nat) {cause : Nat} {l : Loss}
    (hcuts : s.cutBy cause l = []) : s.loss ch cause l = s.lossNoted ch cause l ∧
      RegsOff [R.DROVER_LOSS_CAUSE] s (s.lossNoted ch cause l) := by
  have hnone : s.lossCuts ch cause l = [] := by
    unfold State.lossCuts
    rw [hcuts, ite_self]
  have honset : ∀ a, (s.atOnset l).rd a = s.rd a := by
    unfold State.atOnset
    rw [hn]
    exact rd_see s l.onset
  rw [loss_idle hn hd, hnone]
  exact ⟨rfl, fun a ha => (regsOff_lossNoted s ch cause l a ha).trans (honset a)⟩

/-- The stripe that writes is contained by the note's containment, and stands so (R285). -/
theorem containedBy_loss {s : State} {x : Stripe} (hx : s.active = some x) (hw : x.st = .writing) (ch cause : Nat) (l : Loss) (w : Bool)
    (cuts : List Nat) : (((s.lossNoted ch cause l).contain (lossRec ch cause) w).freezeCut cuts).containedBy x Code.DROVER_POS_LOSS
      s.drover.k := by
  have hact : (s.lossNoted ch cause l).active = some x := by
    unfold State.active
    rw [(only_lossNoted s ch cause l).stripes rfl]
    exact hx
  have hcon := containedBy_contain hact hw (lossRec ch cause) w
  rw [(stand_lossNoted s ch cause l).2] at hcon
  exact containedBy_freezeCut (heldFast_contain hact hw _ _) hcon _

/-- What a takeover leaves: the stripes, and Drover in its state with the auxiliary channel and the difference of the onset (R286). -/
theorem takesOver_loss {s : State} {ch : Nat} (hch : ch = fieldOf s.gearing.src 1 0) (cause : Nat) (l : Loss) (hroom : 256 < s.logFree)
    (cuts : List Nat) {t : State} (ht : (s.lossNoted ch cause l).takeOver.freezeCut cuts = t) :
    t.stripes = s.stripes ∧ t.drover.st = s.drover.st ∧ t.drover.aux = true ∧ t.fld R.DROVER_STATE 8 8 = 1 ∧
      t.drover.oS = (s.atOnset l).encPos ch - (s.atOnset l).encPos (fieldOf s.gearing.src 5 4) := by
  have hnoted := only_lossNoted s ch cause l
  have hsrc : (s.lossNoted ch cause l).gearing.src = s.gearing.src := by
    unfold State.gearing State.inForce
    rw [hnoted.force rfl]
  have hmain : (s.lossNoted ch cause l).encPos ch = (s.atOnset l).encPos ch :=
    encPos_lossNoted s ch cause l (by rw [hch]; exact Nat.le_of_lt_succ (fieldOf_lt _ 1 0))
  have haux : (s.lossNoted ch cause l).encPos (fieldOf s.gearing.src 5 4) = (s.atOnset l).encPos (fieldOf s.gearing.src 5 4) :=
    encPos_lossNoted s ch cause l (Nat.le_of_lt_succ (fieldOf_lt _ 5 4))
  have hst := (stand_lossNoted s ch cause l).1
  obtain ⟨hstripes, hdrover, hbit⟩ := takeOver_noted (by rw [logFree_congr (hnoted.log rfl)]; exact hroom) cuts
  rw [ht] at hstripes hdrover hbit
  refine ⟨hstripes.trans (hnoted.stripes rfl), ?_, ?_, hbit, ?_⟩
  · rw [hdrover]
    exact hst
  · rw [hdrover]
    rfl
  · rw [hdrover]
    show (s.lossNoted ch cause l).encPos _ - (s.lossNoted ch cause l).encPos _ = _
    rw [hsrc, ← hch, hmain, haux]

/-- Settles O36: a loss is its note and what follows it, which leaves the note; a containment stands through the records after it. -/
theorem positionLosses : Obligations.PositionLosses := by
  unfold Obligations.PositionLosses
  refine ⟨?_, ?_, ?_⟩
  · intro ch cause l bits c s hch hl hf hc
    have hcause : cause ≤ 9 := by
      rcases hc with ⟨-, hok⟩ | ⟨-, rfl, -⟩ | ⟨-, rfl, -⟩ | ⟨-, -, hword⟩
      · exact causeOk_le hok
      · decide
      · decide
      · have := serialWord_error hword
        omega
    obtain ⟨hlost, -, hother⟩ := enc_lossNoted s ch cause l
    obtain ⟨hencs, hcut, hshown⟩ := lossStands_loss s ch cause l
    refine ⟨_, exec_loss hch hl hf hc, ?_, fun i hi => ?_, ?_, fun hn hd hcuts => ?_, fun i hi hrole => ?_,
      fun x hx hw htrack hmain haux => ⟨fun he => ?_, fun he hroom => ?_⟩⟩
    · rw [enc_congr hencs, hlost]
    · rw [enc_congr hencs, hother i hi]
    · rw [hshown, rd_lossNoted s ch cause l (by omega)]
    · obtain ⟨hnote, hregs⟩ := loss_alone hn hd ch hcuts
      rw [hnote]
      exact ⟨droverShown_eq (only_lossNoted s ch cause l), hregs⟩
    · rw [hcut]
      exact cut_lossNoted s ch cause l hi hrole
    · rw [loss_track hx htrack hmain haux, he, if_neg Bool.false_ne_true]
      exact containedBy_loss hx hw ch cause l _ _
    · rw [loss_track hx htrack hmain haux, he, if_pos rfl]
      obtain ⟨hstripes, hst, htook, hbit, hdiff⟩ := takesOver_loss hmain cause l hroom (s.lossCuts ch cause l) rfl
      exact ⟨hstripes, hst.trans htrack, htook, hbit, hdiff⟩
  · intro ch n p warn bits l s hch hm hf hn hword
    rw [hn] at hword ⊢
    exact ⟨_, exec_encSerialWord_good hch hm hf hword l, rfl, fun i hi => enc_setEnc_other s _ hi, enc_setEnc_same s _ _⟩
  · intro smp w x s hx hw hst hfar
    have htoo : (s.sample x smp).tooFar false = true := by
      unfold State.tooFar
      rw [st_sample, hst]
      simp [hfar]
    exact ⟨_, exec_droverOverspeed hx (by omega) (by omega) smp w, sampled_far hx hw smp w htoo⟩

end Sys2Proof.Machine
end

section
/-! SUPPORT. The deflection outputs and the JESD204C link (spec/08_drover_sync.md). -/

namespace Sys2Proof.Machine

/-! ### Outputs -/

/-- The registers that show the outputs (R274). -/
def outRegs : List RegAddr := [R.DEFL_OUT_T, R.DEFL_OUT_A]

/-- Two registers set, then something sent. -/
theorem wr_wr_emit_eq (s : State) (a b x y : Nat) (o : Out) : ((s.wr a x).wr b y).emit o =
    { s with regs := (((s.wr a x).wr b y).emit o).regs, out := o :: s.out } := rfl

theorem putOut_eq (s : State) (v : List Int) : s.putOut v =
    { s with regs := (s.putOut v).regs, drover := { s.drover with out := v }, out := .converters v :: s.out } := by
  unfold State.putOut
  exact wr_wr_emit_eq { s with drover := { s.drover with out := v } } _ _ _ _ _

theorem regsOff_putOut (s : State) (v : List Int) : RegsOff outRegs s (s.putOut v) :=
  regsOff_regs rfl (regsOff_wr _ _ (by simp [outRegs]) (regsOff_wr _ _ (by simp [outRegs]) (regsOff_refl _ s)))

/-- Outputs sent after a sample of the positions alone. -/
theorem putOut_encsOnly {s u : State} (hu : EncsOnly s u) (v : List Int) : u.putOut v =
    { s with regs := (u.putOut v).regs, drover := { u.drover with out := v }, out := .converters v :: s.out } := by
  obtain ⟨e, rfl⟩ := hu
  exact putOut_eq _ v

/-- The moves of the outputs toward a goal (R280, R281). -/
def State.slewed (s : State) (goal : List Int) : List Int :=
  (s.drover.out.zip goal).map (fun p => slewTo (s.fld R.DEFL_SLEW 15 0) p.1 p.2)

theorem rampOut_eq (s : State) (goal : List Int) : s.rampOut goal = s.putOut (s.slewed goal) := rfl

/-- Of Drover a sample under a stripe changes the channels, the gearing and y. -/
theorem drover_samplePeak (s : State) (x : Stripe) (m : Sample) : ∃ encs baseT baseY ratio zoneNext y yPeak,
    (s.sample x m).peak.drover = { s.drover with encs, baseT, baseY, ratio, zoneNext, y, yPeak } := by
  obtain ⟨e, he⟩ := encsOnly_see s m
  have hsee : (s.see m).drover = { s.drover with encs := e } := by rw [he]
  have hsample := drover_locate (s.see m) x
  rw [hsee] at hsample
  unfold State.sample
  generalize (s.see m).locate x = u at hsample
  generalize (s.see m).gearNow x = k at hsample
  generalize Gear.y _ _ = y at hsample
  exact ⟨_, _, _, _, _, _, _, congrArg (fun d : Drover => { d with yPeak := max d.yPeak d.y }) hsample⟩

section Outputs

variable {s : State} {x : Stripe} (smp : Sample) (vel : Int × Int) (w : Bool) (hon : s.enabled 16 = true)

include hon

/-- With no stripe under way the outputs move to their offsets (R280). -/
theorem exec_deflOutputSample_parks (hn : s.active = none) :
    exec (.deflOutputSample smp vel w) s = .next ((s.see smp).putOut ((s.see smp).slewed s.parkOut)) := by
  show execDeflOutputSample smp vel w s = _
  unfold execDeflOutputSample
  rw [hon, if_neg (by decide), hn]
  rfl

theorem exec_deflOutputSample_stripe (hx : s.active = some x) (h0 : s.drover.st ≠ 0) (h5 : s.drover.st ≠ 5) :
    exec (.deflOutputSample smp vel w) s = .next ((s.sampled x smp w).outputs x vel w) := by
  show execDeflOutputSample smp vel w s = _
  unfold execDeflOutputSample
  rw [hon, if_neg (by decide), hx]
  dsimp only
  rw [if_neg (by omega)]

end Outputs

/-- In ARMED and TRACK the outputs follow the tables where no clamp acts (R274, R276). -/
theorem outputs_track {u : State} (hst : u.drover.st = 1 ∨ u.drover.st = 2) (hr : u.drover.ramping = false) {x : Stripe} {vel : Int × Int}
    (hc : (u.trackOut x vel).map clamp16 = u.trackOut x vel) (w : Bool) : u.outputs x vel w = u.putOut (u.trackOut x vel) := by
  unfold State.outputs
  rw [if_pos (hst.imp_right .inl)]
  unfold State.trackSample
  dsimp only
  rw [hc, if_pos rfl, hr, if_neg Bool.false_ne_true, if_neg (fun h => h.1 rfl)]

/-- At a standstill in hold mode they stay as they are (R280). -/
theorem outputs_hold {u : State} (hst : u.drover.st = 3) (hp : u.parks = false) (x : Stripe) (vel : Int × Int) (w : Bool) :
    u.outputs x vel w = u.putOut u.drover.out := by
  unfold State.outputs
  rw [if_neg (by simp [hst]), if_neg (by simp [hst, hp])]

/-! ### The link goes down -/

/-- A cause by which the link is down: no alignment, no PLL, or a fault of the peer (R279). -/
def State.linkCause (s : State) : Prop := s.drover.aligned = false ∨ s.drover.pll = false ∨ s.fld R.DEFL_PEER_FAULT 0 0 = 1

theorem deflDown_of_cause {s : State} (h : s.linkCause) : s.deflDown = true := by
  unfold State.deflDown
  rcases h with h | h | h <;> simp [h]

/-- Records and containments leave the cause. -/
theorem Halts.linkCause {s t : State} (h : Halts s t) (hs : s.linkCause) : t.linkCause := by
  obtain ⟨n, hn⟩ := h.drover
  unfold State.linkCause State.fld at hs ⊢
  rw [hn, h.regs R.DEFL_PEER_FAULT (by decide) (by decide)]
  exact hs

/-- A change that brings a cause takes a link that was up down (R279). -/
theorem linkChange_down {s : State} (hd : s.deflDown = false) (w : Bool) {f : State → State} (h : (f s).linkCause) :
    s.linkChange w f = (f s).linkLost w := by
  unfold State.linkChange
  dsimp only
  rw [if_pos (by simp [hd, deflDown_of_cause h])]

/-- In TRACK the stripe that writes is contained, and the link stays down (R279). -/
theorem linkLost_track {u : State} {x : Stripe} (hx : u.active = some x) (hw : x.st = .writing) (hst : u.drover.st = 2)
    (hu : u.linkCause) (w : Bool) : (u.linkLost w).deflDown = true ∧ (u.linkLost w).containedBy x Code.DEFL_LINK_LOST u.drover.k := by
  obtain ⟨a, ha, hlost⟩ : ∃ a : RecArg, a.code = Code.DEFL_LINK_LOST ∧
      u.linkLost w = (if w then u.cutFlashes [u.drover.lastIndex] else u).contain a w := by
    unfold State.linkLost
    dsimp only
    rw [hst]
    exact ⟨_, rfl, rfl⟩
  have hcut : ∀ v : State, v.active = some x → v.linkCause → v.drover.k = u.drover.k →
      (v.contain a w).deflDown = true ∧ (v.contain a w).containedBy x Code.DEFL_LINK_LOST u.drover.k := fun v hv hcause hk =>
    ⟨deflDown_of_cause ((halts_contain a w (halts_refl v)).linkCause hcause), by rw [← hk, ← ha]; exact containedBy_contain hv hw a w⟩
  rw [hlost]
  split
  · exact hcut _ hx hu rfl
  · exact hcut u hx hu rfl

/-- While nothing runs it is recorded (R279). -/
theorem linkLost_idle {u : State} (hst : u.drover.st = 0) (hroom : 256 < u.logFree) (hu : u.linkCause) (w : Bool) :
    (u.linkLost w).deflDown = true ∧ (u.linkLost w).newest Code.DEFL_LINK_LOST 1 0 0 0 0 ∧ (u.linkLost w).stripes = u.stripes := by
  obtain ⟨a, ha, hc, hlost⟩ : ∃ a : RecArg, a = { code := Code.DEFL_LINK_LOST, cls := 1 } ∧ a.cmd = none ∧ u.linkLost w = u.record a := by
    unfold State.linkLost
    dsimp only
    rw [hst]
    exact ⟨_, rfl, rfl, rfl⟩
  have hnoted : Noted u (u.record a) a := noted_record hc hroom
  rw [hlost]
  refine ⟨deflDown_of_cause ((halts_record a (halts_refl u)).linkCause hu), ?_, hnoted.only.stripes rfl⟩
  have hnewest := hnoted.newest
  rw [ha] at hnewest ⊢
  exact hnewest

/-! ### A fault of the peer -/

theorem rowsOf_peerFault : rowsOf R.DEFL_PEER_FAULT = [⟨0x240, 0x1, .rw, 0, false⟩] := by decide

/-- A 1 written sets the fault (R279, R11). -/
theorem newValue_peerFault (old : Nat) {v : Nat} (hv : v % 2 = 1) : newValue R.DEFL_PEER_FAULT old v = old - old % 2 + 1 := by
  have hset : newValue R.DEFL_PEER_FAULT old v = (old - (old &&& 1)) ||| (v &&& 1) := by
    unfold newValue
    rw [rowsOf_peerFault]
    rfl
  have heven : old - old % 2 = 2 ^ 1 * (old / 2) := by omega
  rw [hset, Nat.and_one_is_mod, Nat.and_one_is_mod, hv, heven, ← Nat.two_pow_add_eq_or_of_lt (by decide)]

/-- The write of a fault sets its bit, and leaves the stripes and Drover (R279). -/
theorem peerFault_set {s : State} (h : s.auditFull = false) (o : Origin) {v : Nat} (hv : v % 2 = 1) :
    (s.applyWrite o R.DEFL_PEER_FAULT v).linkCause ∧ (s.applyWrite o R.DEFL_PEER_FAULT v).stripes = s.stripes ∧
      (s.applyWrite o R.DEFL_PEER_FAULT v).drover = s.drover := by
  have hgroup : groupOf R.DEFL_PEER_FAULT = none := by decide
  have hlt : s.rd R.DEFL_PEER_FAULT < 2 ^ 32 := rd_lt _
  have hnew := newValue_peerFault (s.rd R.DEFL_PEER_FAULT) hv
  have hroom := only_setReg_room o R.DEFL_PEER_FAULT (newValue R.DEFL_PEER_FAULT (s.rd R.DEFL_PEER_FAULT) v) h
  unfold State.applyWrite
  rw [hgroup]
  refine ⟨.inr (.inr ?_), hroom.stripes rfl, hroom.drover rfl⟩
  unfold State.fld
  rw [rd_setReg o _ _ h (by omega), hnew]
  show (_ >>> 0) % 2 = 1
  rw [Nat.shiftRight_zero]
  omega

/-- SYSREF that stays away and a PLL that unlocks take the link down in Drover alone (R279). -/
theorem exec_linkDrop {s : State} (hd : s.deflDown = false) {c : Instr} {w : Bool} (hc : c = .sysrefAbsent w ∨ c = .jesdPllUnlock w) :
    ∃ d : Drover, exec c s = .next (State.linkLost { s with drover := d } w) ∧ State.linkCause { s with drover := d } ∧
      d.st = s.drover.st ∧ d.k = s.drover.k := by
  rcases hc with rfl | rfl
  · have hcause : State.linkCause { s with drover := { s.drover with aligned := false } } := .inl rfl
    exact ⟨_, congrArg _ (linkChange_down hd w hcause), hcause, rfl, rfl⟩
  · have hcause : State.linkCause { s with drover := { s.drover with pll := false } } := .inr (.inl rfl)
    exact ⟨_, congrArg _ (linkChange_down hd w hcause), hcause, rfl, rfl⟩

/-- So does a fault of the peer, by its register (R279, R295). -/
theorem exec_peerFault {s : State} (hd : s.deflDown = false) {o : Origin} {v : Nat} (hp : s.permit o R.DEFL_PEER_FAULT v = .ok s)
    (hfull : s.auditFull = false) (hv : v % 2 = 1) (w : Bool) :
    exec (.peerFault o v w) s = .next ((s.applyWrite o R.DEFL_PEER_FAULT v).linkLost w) := by
  show execPeerFault o v w s = _
  unfold execPeerFault
  rw [hp]
  exact congrArg _ (linkChange_down hd w (peerFault_set hfull o hv).1)

/-! ### SYSREF -/

section Sysref

variable {s : State} (hon : s.enabled 16 = true) (offBy : Nat)

include hon

/-- The first edge aligns the link (R278). -/
theorem exec_sysrefEdge_aligns (ha : s.drover.aligned = false) :
    exec (.sysrefEdge offBy) s = .next { s with drover := { s.drover with aligned := true } } := by
  show execSysrefEdge offBy s = _
  unfold execSysrefEdge
  rw [hon, ha]
  rfl

/-- An edge in its place does nothing (R278). -/
theorem exec_sysrefEdge_keeps (ha : s.drover.aligned = true) (hoff : offBy ≤ 1) : exec (.sysrefEdge offBy) s = .next s := by
  show execSysrefEdge offBy s = _
  unfold execSysrefEdge
  rw [hon, ha, if_neg (by decide), if_neg (by decide), if_pos hoff]

/-- A slip is counted; while a stripe writes it waits for the next strobe, else it is recorded (R278). -/
theorem exec_sysrefEdge_slips (ha : s.drover.aligned = true) (hoff : 1 < offBy) : exec (.sysrefEdge offBy) s =
    .next (if s.writing.isSome then { s.inc R.DEFL_SYSREF_SLIPS with drover := { s.drover with slipPending := true } }
      else (s.inc R.DEFL_SYSREF_SLIPS).record { code := Code.DEFL_SYSREF_SLIP, cls := 1 }) := by
  have hsame : (s.inc R.DEFL_SYSREF_SLIPS).writing = s.writing := rfl
  show execSysrefEdge offBy s = _
  unfold execSysrefEdge
  rw [hon, ha, if_neg (by decide), if_neg (by decide), if_neg (by omega)]
  dsimp only
  rw [hsame]
  split
  · rfl
  · rfl

end Sysref

/-- What a slip leaves (R278). -/
theorem sysref_slips {s : State} (hon : s.enabled 16 = true) (offBy : Nat) (ha : s.drover.aligned = true) (hoff : 1 < offBy) :
    ∃ t, exec (.sysrefEdge offBy) s = .next t ∧ t.rd R.DEFL_SYSREF_SLIPS = min (2 ^ 32 - 1) (s.rd R.DEFL_SYSREF_SLIPS + 1) ∧
      (s.writing ≠ none → t = { s with regs := t.regs, drover := { s.drover with slipPending := true } }) ∧
      (s.writing = none → 256 < s.logFree → t.newest Code.DEFL_SYSREF_SLIP 1 0 0 0 0) := by
  have hexec := exec_sysrefEdge_slips hon offBy ha hoff
  have hcount : (s.inc R.DEFL_SYSREF_SLIPS).rd R.DEFL_SYSREF_SLIPS = min (2 ^ 32 - 1) (s.rd R.DEFL_SYSREF_SLIPS + 1) := rd_bump_whole s _ 1
  cases hw : s.writing with
  | some x =>
    rw [hw, Option.isSome_some, if_pos rfl] at hexec
    exact ⟨_, hexec, hcount, fun _ => rfl, nofun⟩
  | none =>
    rw [hw, Option.isSome_none, if_neg Bool.false_ne_true] at hexec
    have hcalm := record_calm (s := s.inc R.DEFL_SYSREF_SLIPS) hw { code := Code.DEFL_SYSREF_SLIP, cls := 1 }
    rw [hcalm] at hexec
    refine ⟨_, hexec, ?_, fun h => absurd rfl h, fun _ hroom => ?_⟩
    · rw [rd_recordRaw_far _ _ (by decide) (by decide), hcount]
    · exact newest_recordRaw { code := Code.DEFL_SYSREF_SLIP, cls := 1 } hroom

/-! ### The statement -/

theorem st_of_writing {s : State} {x : Stripe} (h : s.writing = some x) : x.st = .writing := by
  simpa using List.find?_some h

/-- Settles O39: outputs sent are `putOut` of one of three lists, and each change that takes the link down brings a cause that stands. -/
theorem deflectionLink : Obligations.DeflectionLink := by
  unfold Obligations.DeflectionLink
  refine ⟨?_, ?_, ?_, ?_⟩
  · intro smp vel w s hon
    refine ⟨fun hn => ?_, fun x hx => ⟨fun hst hfar hramp hclamp => ?_, fun hst hpark => ?_⟩⟩
    · have hexec := exec_deflOutputSample_parks smp vel w hon hn
      have hsee := encsOnly_see s smp
      have hrd := rd_see s smp
      generalize s.see smp = u at hexec hsee hrd ⊢
      have hslew : u.slewed s.parkOut = s.slewed s.parkOut := by
        obtain ⟨e, rfl⟩ := hsee
        rfl
      have hregs := regsOff_putOut u (s.slewed s.parkOut)
      have hput := putOut_encsOnly hsee (s.slewed s.parkOut)
      rw [hslew] at hexec
      generalize u.putOut (s.slewed s.parkOut) = t at hexec hregs hput
      have hdrover : t.drover = { u.drover with out := s.slewed s.parkOut } := by rw [hput]
      refine ⟨t, hexec, ?_, hdrover, fun a ha => (hregs a ha).trans (hrd a)⟩
      rw [hdrover]
      exact hput
    · have hexec := exec_deflOutputSample_stripe smp vel w hon hx (by omega) (by omega)
      rw [sampled_near hfar] at hexec
      have hsent : (s.sample x smp).peak.out = s.out := (only_samplePeak s x smp).out rfl
      obtain ⟨encs, baseT, baseY, ratio, zoneNext, y, yPeak, hd⟩ := drover_samplePeak s x smp
      generalize (s.sample x smp).peak = v at hexec hsent hd hclamp
      rw [outputs_track (by rw [hd]; exact hst) (by rw [hd]; exact hramp) hclamp] at hexec
      have hput := putOut_eq v (v.trackOut x vel)
      rw [hsent] at hput
      exact ⟨_, hexec, hput, regsOff_putOut v _⟩
    · have hexec := exec_deflOutputSample_stripe smp vel w hon hx (by omega) (by omega)
      have hsent : (s.sample x smp).peak.out = s.out := (only_samplePeak s x smp).out rfl
      have hmode := regsOff_samplePeak s x smp R.DROVER_STANDSTILL (by decide)
      obtain ⟨encs, baseT, baseY, ratio, zoneNext, y, yPeak, hd⟩ := drover_samplePeak s x smp
      have hnear : (s.sample x smp).peak.tooFar w = false := by
        unfold State.tooFar
        rw [hd]
        simp [hst]
      rw [sampled_near hnear] at hexec
      generalize (s.sample x smp).peak = v at hexec hsent hmode hd
      have hvpark : v.parks = false := by
        unfold State.parks State.fld at hpark ⊢
        rw [hmode]
        exact hpark
      have hout : v.drover.out = s.drover.out := by rw [hd]
      rw [outputs_hold (by rw [hd]; exact hst) hvpark] at hexec
      have hput := putOut_eq v v.drover.out
      rw [hsent] at hput
      rw [hout] at hexec hput
      refine ⟨_, hexec, hput.trans ?_, regsOff_putOut v _⟩
      rw [← hout]
  · intro x s hwrite hx hst
    have hw := st_of_writing hwrite
    refine ⟨?_, fun hd c o v w hc => ?_⟩
    · have hexec : exec .deflSaturated s = .next s.saturated := by
        show execDeflSaturated s = _
        unfold execDeflSaturated
        rw [if_pos (by simp [hwrite, hst])]
      have hcut : s.drover.lastIndex ∈ s.drover.unconfirmed →
          s.drover.lastIndex ∈ (s.cutFlashes [s.drover.lastIndex]).drover.cut := mem_cut_cutFlashes (List.mem_singleton.mpr rfl)
      have hleft : Onward false (s.cutFlashes [s.drover.lastIndex]) s.saturated := onward_contain _ _ (onward_refl _ _)
      refine ⟨_, hexec, containedBy_contain (s := s.cutFlashes [s.drover.lastIndex]) hx hw _ _, fun hwait => ?_⟩
      rw [hleft.cut]
      exact hcut hwait
    · rw [← or_assoc] at hc
      rcases hc with hc | ⟨rfl, hp, hfull, hv⟩
      · obtain ⟨d, hexec, hcause, hdst, hdk⟩ := exec_linkDrop hd hc
        obtain ⟨hdown, hcon⟩ := linkLost_track (u := { s with drover := d }) hx hw (hdst.trans hst) hcause w
        exact ⟨_, hexec, hdown, hdk ▸ hcon⟩
      · obtain ⟨hcause, hstripes, hdrover⟩ := peerFault_set hfull o hv
        have hexec := exec_peerFault hd hp hfull hv w
        generalize s.applyWrite o R.DEFL_PEER_FAULT v = u at hexec hcause hstripes hdrover
        have hact : u.active = some x := by
          unfold State.active
          rw [hstripes]
          exact hx
        obtain ⟨hdown, hcon⟩ := linkLost_track hact hw (by rw [hdrover]; exact hst) hcause w
        rw [hdrover] at hcon
        exact ⟨_, hexec, hdown, hcon⟩
  · intro s hon
    refine ⟨⟨_, if_pos hon, rfl⟩, fun offBy => ⟨exec_sysrefEdge_aligns hon offBy, exec_sysrefEdge_keeps hon offBy, sysref_slips hon offBy⟩⟩
  · intro w s hd hst hroom
    have hlost : ∀ c, c = .sysrefAbsent w ∨ c = .jesdPllUnlock w →
        ∃ t, exec c s = .next t ∧ t.deflDown = true ∧ t.newest Code.DEFL_LINK_LOST 1 0 0 0 0 ∧ t.stripes = s.stripes := by
      intro c hc
      obtain ⟨d, hexec, hcause, hdst, -⟩ := exec_linkDrop hd hc
      exact ⟨_, hexec, linkLost_idle (u := { s with drover := d }) (hdst.trans hst) hroom hcause w⟩
    exact ⟨hlost _ (.inl rfl), hlost _ (.inr rfl)⟩

end Sys2Proof.Machine
end

section
/-! SUPPORT. LIMITED, and the registers of the limits (spec/09_stage_profile.md). -/

namespace Sys2Proof.Machine

/-! ### LIMITED -/

/-- LIMITED makes no record that meets a full log: it has been made for the stripe, or there is room (R302). -/
def State.clampRoom (s : State) : Prop := s.profile.limitedSent = true ∨ 256 < s.logFree

/-- From s to t an axis has been clamped (R302): LIMITED shows it, and one record per stripe tells of it; of the generator only that the
record has been made. -/
structure Clamped (s t : State) (ax : Nat) : Prop where
  only : Only 78398671109358616593 s t
  profile : t.profile = { s.profile with limitedSent := true }
  shown : t.fld R.PROFILE_LIMITED ax ax = 1
  regs : RegsOff (R.PROFILE_LIMITED :: recordRegs 15) s t

/-- LIMITED set, and with the first clamp of a stripe its record (R302). -/
theorem limited_cases (s : State) (ax : Nat) :
    (s.profile.limitedSent = true ∧ s.limited ax = s.setFld R.PROFILE_LIMITED ax ax 1) ∨
    s.profile.limitedSent = false ∧
      ∃ u a, u = { s.setFld R.PROFILE_LIMITED ax ax 1 with profile := { s.profile with limitedSent := true } } ∧ a.cmd = none ∧
        a.page = 15 ∧ s.limited ax = u.record a := by
  unfold State.limited
  dsimp only
  split
  · next h => exact .inl ⟨h, rfl⟩
  · next h =>
    refine .inr ⟨Bool.eq_false_of_not_eq_true h, _, _, rfl, rfl, ?_, rfl⟩
    show Code.PROFILE_LIMITED / 256 = 15
    decide

theorem clamped_limited {s : State} {ax : Nat} (hax : ax < 32) (hroom : s.clampRoom) :
    Clamped s (s.limited ax) ax := by
  have hshown : (s.setFld R.PROFILE_LIMITED ax ax 1).fld R.PROFILE_LIMITED ax ax = 1 := fld_setFld_bit s _ hax
  have honly : Only 78398671109358616593 s (s.setFld R.PROFILE_LIMITED ax ax 1) := only_setFld _ _ _ _ rfl (only_refl _ s)
  have hregs : RegsOff (R.PROFILE_LIMITED :: recordRegs 15) s (s.setFld R.PROFILE_LIMITED ax ax 1) :=
    regsOff_setFld _ _ _ _ List.mem_cons_self (regsOff_refl _ s)
  rcases limited_cases s ax with ⟨hsent, he⟩ | ⟨hsent, u, a, hu, hc, hpage, he⟩
  · rw [he]
    exact ⟨honly, by rw [← hsent]; rfl, hshown, hregs⟩
  · have hfree : u.logFree = s.logFree := by rw [hu]; rfl
    have hprofile : u.profile = { s.profile with limitedSent := true } := by rw [hu]
    have hread : u.regs = (s.setFld R.PROFILE_LIMITED ax ax 1).regs := by rw [hu]
    have hput : Only 78398671109358616593 s u := by
      rw [hu]
      exact only_put8796093022208 rfl honly
    rw [he]
    have hnoted : Noted u (u.record a) a := noted_record hc (hfree ▸ hroom.resolve_left (by rw [hsent]; nofun))
    have hoff := hnoted.regs
    rw [hpage] at hoff
    refine ⟨only_trans hput (only_mono rfl hnoted.only), (hnoted.only.profile rfl).trans hprofile, ?_, fun r hr => ?_⟩
    · rw [← hshown]
      unfold State.fld
      rw [hoff R.PROFILE_LIMITED (by decide), rd_congr hread]
    · rw [hoff r (fun h => hr (List.mem_cons_of_mem _ h)), rd_congr hread, hregs r hr]

/-! ### The limit registers -/

section Registers

variable {i : Nat} (hi : i ≤ 5)

include hi

/-- A limit register is written whole (R299). -/
theorem rowsOf_limitReg : (rowsOf (limitReg i)).map (fun r => (r.mask, r.acc)) = [(0xFFFFFFFF, .rw)] := by
  interval_cases i <;> decide

theorem groupOf_limitReg : groupOf (limitReg i) = none := by
  interval_cases i <;> decide

theorem pageOf_limitReg : pageOf (limitReg i) = 15 := by
  interval_cases i <;> decide

theorem offOf_limitReg : offOf (limitReg i) = 0x210 + 4 * i := by
  interval_cases i <;> decide

theorem newValue_limitReg {old v : Nat} (ho : old < 2 ^ 32) (hv : v < 2 ^ 32) : newValue (limitReg i) old v = v := by
  have hmask : ∀ n, n < 2 ^ 32 → Nat.land n 0xFFFFFFFF = n := fun n hn =>
    (Nat.and_two_pow_sub_one_eq_mod n 32).trans (Nat.mod_eq_of_lt hn)
  obtain ⟨r, hrow, hr⟩ := List.map_eq_singleton_iff.mp (rowsOf_limitReg hi)
  obtain ⟨hm, ha⟩ := Prod.mk.inj hr
  unfold newValue
  rw [hrow, List.foldl_cons, List.foldl_nil, ha, hm]
  show Nat.lor (old - Nat.land old 0xFFFFFFFF) (Nat.land v 0xFFFFFFFF) = v
  rw [hmask old ho, hmask v hv, Nat.sub_self]
  exact Nat.zero_or v

/-- The limits' registers stand beside those that show them, and no record or audit record changes them. -/
theorem limitReg_not_mem : limitReg i ∉ R.PROFILE_LIMITED :: recordRegs 15 ∧ R.PROFILE_LIMIT_STATE ≠ limitReg i := by
  interval_cases i <;> decide

end Registers

theorem limitState_not_mem : R.PROFILE_LIMIT_STATE ∉ R.PROFILE_LIMITED :: recordRegs 15 := by decide

end Sys2Proof.Machine
end

section
/-! SUPPORT. Writes of the limits (spec/09_stage_profile.md). -/

namespace Sys2Proof.Machine

/-! ### A limit in force -/

/-- A limit with no older one kept for it is in force as its register reads (R313). -/
theorem limit_of_none {s : State} {i : Nat} (h : kget? s.profile.limits i = none) : s.limit i = s.rd (limitReg i) := by
  unfold State.limit
  rw [h]
  rfl

theorem limit_of_some {s : State} {i n : Nat} (h : kget? s.profile.limits i = some n) : s.limit i = n := by
  unfold State.limit
  rw [h]
  rfl

/-- The register of a limit written, its LIMIT_STATE cleared, and no older limit kept for it (R312, R313). -/
def State.limitSet (s : State) (o : Origin) (i v : Nat) : State :=
  let u := (s.applyWrite o (limitReg i) v).setFld R.PROFILE_LIMIT_STATE i i 0
  { u with profile := { u.profile with limits := kdel u.profile.limits i } }

/-- The register of a limit written while the old limit stays in force, as LIMIT_STATE shows (R313). -/
def State.limitKept (s : State) (o : Origin) (i v : Nat) : State :=
  let u := s.limitSet o i v
  { u with profile := { u.profile with limits := kput u.profile.limits i (s.limit i) } }.setFld R.PROFILE_LIMIT_STATE i i 1

/-- From s to t limit i has been written with v and is in force (R312). -/
structure LimitWritten (s t : State) (i v : Nat) : Prop where
  only : Only 4612257764473831457 s t
  reads : t.rd (limitReg i) = v
  state : t.fld R.PROFILE_LIMIT_STATE i i = 0
  profile : t.profile = { s.profile with limits := kdel s.profile.limits i }

theorem LimitWritten.limit {s t : State} {i v : Nat} (h : LimitWritten s t i v) : t.limit i = v := by
  rw [limit_of_none (by rw [h.profile]; exact kget?_kdel_same _ _), h.reads]

theorem LimitWritten.logFree {s t : State} {i v : Nat} (h : LimitWritten s t i v) : t.logFree = s.logFree :=
  logFree_congr (h.only.log rfl)

theorem limitWritten_limitSet {s : State} (o : Origin) {i v : Nat} (hi : i ≤ 5) (hv : v < 2 ^ 32) (hfull : s.auditFull = false) :
    LimitWritten s (s.limitSet o i v) i v := by
  have hwrite : s.applyWrite o (limitReg i) v = s.setReg o (limitReg i) v := by
    unfold State.applyWrite
    rw [groupOf_limitReg hi, newValue_limitReg hi (rd_lt _) hv]
  have hset : Only 4612257764473831457 s (s.setReg o (limitReg i) v) := only_mono rfl (only_setReg_room o _ v hfull)
  have hlimits : (s.setReg o (limitReg i) v).profile = s.profile := (only_setReg_room o _ v hfull).profile rfl
  have hreads := rd_setReg o (limitReg i) v hfull hv
  unfold State.limitSet
  rw [hwrite]
  dsimp only
  generalize s.setReg o (limitReg i) v = u at hset hlimits hreads
  refine ⟨only_put8796093022208 rfl (only_setFld _ _ _ _ rfl hset), ?_, fld_setFld_bit_zero u _ i, ?_⟩
  · exact (rd_setFld_other i i 0 (limitReg_not_mem hi).2).trans hreads
  · show { u.profile with limits := kdel u.profile.limits i } = _
    rw [hlimits]

/-! ### LIMIT_WRITE by its cases -/

section Cases

variable {s : State} (o : Origin) {i v : Nat}

theorem exec_limitWrite_barred (hi : i ≤ 5) (hp : s.permit o (limitReg i) v = .ok s) (hon : s.enabled 15 = true) (hr : s.limitOk i v = false) :
    exec (.limitWrite o i v) s = .next (s.refuse o (Code.REG_VALUE_RANGE 15) (limitReg i) v) := by
  show execLimitWrite o i v s = _
  unfold execLimitWrite
  rw [if_neg (Nat.not_lt.mpr hi), hp]
  exact if_pos ⟨hon, by rw [hr]; rfl⟩

theorem exec_limitWrite_writes (hi : i ≤ 5) (hp : s.permit o (limitReg i) v = .ok s) (hr : s.enabled 15 = false ∨ s.limitOk i v = true) :
    exec (.limitWrite o i v) s = .next (s.writeLimit o i v) := by
  show execLimitWrite o i v s = _
  unfold execLimitWrite
  rw [if_neg (Nat.not_lt.mpr hi), hp]
  refine if_neg ?_
  rintro ⟨hon, hno⟩
  rcases hr with h | h
  · rw [h] at hon
    cases hon
  · rw [h] at hno
    cases hno

/-- LIMIT_WRITE is the limit set, and what follows of a lower one (R302, R312, R313). -/
theorem writeLimit_eq : s.writeLimit o i v =
    if v ≥ s.limit i ∨ !s.profRuns then s.limitSet o i v
    else if i % 3 = 0 then
      if (if i < 3 then s.profile.y else s.profile.x).v.natAbs > v * 65536 ∨ (i = 0 ∧
          ((s.limitSet o i v).profile.phase = 2 ∨ (s.limitSet o i v).profile.phase = 3) ∧ (s.limitSet o i v).wantsClamp)
      then (s.limitSet o i v).limited (i / 3) else s.limitSet o i v
    else if !s.limitLate i v then s.limitSet o i v
    else (s.limitKept o i v).refuse o Code.PROFILE_LIMIT_REFUSED (limitReg i) v := by
  unfold State.writeLimit State.limitKept State.limitSet
  with_reducible rfl

/-- A limit raised, one of a generator that does not run, and a lowered A_MAX or J_MAX that still stops the move in time (R312). -/
theorem writeLimit_now (h : s.limit i ≤ v ∨ s.profRuns = false ∨ (i % 3 ≠ 0 ∧ s.limitLate i v = false)) :
    s.writeLimit o i v = s.limitSet o i v := by
  rw [writeLimit_eq]
  rcases h with h | h | ⟨hthird, hlate⟩
  · exact if_pos (.inl h)
  · exact if_pos (.inr (by rw [h]; rfl))
  · have hintime : (!s.limitLate i v) = true := by rw [hlate]; rfl
    rw [if_neg hthird, if_pos hintime, ite_self]

/-- A lowered V_MAX that the speed passes (R312). -/
theorem writeLimit_fast (hlow : v < s.limit i) (hruns : s.profRuns = true) (hthird : i % 3 = 0)
    (hfast : (if i < 3 then s.profile.y else s.profile.x).v.natAbs > v * 65536) :
    s.writeLimit o i v = (s.limitSet o i v).limited (i / 3) := by
  rw [writeLimit_eq, if_neg (by simp [hruns, hlow]), if_pos hthird, if_pos (.inl hfast)]

/-- A lowered A_MAX or J_MAX that comes too late (R312, R313). -/
theorem writeLimit_late (hlow : v < s.limit i) (hruns : s.profRuns = true) (hthird : i % 3 ≠ 0) (hlate : s.limitLate i v = true) :
    s.writeLimit o i v = (s.limitKept o i v).refuse o Code.PROFILE_LIMIT_REFUSED (limitReg i) v := by
  rw [writeLimit_eq, if_neg (by simp [hruns, hlow]), if_neg hthird, if_neg (by simp [hlate])]

end Cases

/-! ### What each case leaves -/

/-- A write refused with room in the log is noted on its code's page (R628). -/
theorem noted_refuse {s : State} (o : Origin) (code : Nat) (a : RegAddr) (v : Nat) (hroom : 256 < s.logFree) :
    RegsOff (recordRegs (code / 256)) s (s.refuse o code a v) ∧ (s.refuse o code a v).newest code 7 6 (pageOf a) (offOf a) v ∧
      Only 78398662313265594385 s (s.refuse o code a v) := by
  have hnoted : Noted s (s.refuse o code a v) _ := noted_record rfl hroom
  exact ⟨hnoted.regs, hnoted.newest, hnoted.only⟩

section Left

variable {s : State} (o : Origin) {i v : Nat} (hi : i ≤ 5) (hv : v < 2 ^ 32) (hfull : s.auditFull = false) (hroom : 256 < s.logFree)

include hi hv hfull hroom

/-- A limit below the speed is in force, and the axis is clamped to it (R302, R312). -/
theorem limited_limitSet {ax : Nat} (hax : ax < 32) :
    ((s.limitSet o i v).limited ax).limit i = v ∧ ((s.limitSet o i v).limited ax).rd (limitReg i) = v ∧
    ((s.limitSet o i v).limited ax).fld R.PROFILE_LIMITED ax ax = 1 ∧ ((s.limitSet o i v).limited ax).profile.y = s.profile.y ∧
    ((s.limitSet o i v).limited ax).profile.x = s.profile.x := by
  have hwritten := limitWritten_limitSet o hi hv hfull
  generalize s.limitSet o i v = u at hwritten
  have hclamped : Clamped u (u.limited ax) ax := clamped_limited hax (.inr (hwritten.logFree.symm ▸ hroom))
  have hreads : (u.limited ax).rd (limitReg i) = v := (hclamped.regs _ (limitReg_not_mem hi).1).trans hwritten.reads
  have hprofile := hclamped.profile
  rw [hwritten.profile] at hprofile
  refine ⟨?_, hreads, hclamped.shown, by rw [hprofile], by rw [hprofile]⟩
  rw [limit_of_none (by rw [hprofile]; exact kget?_kdel_same _ _), hreads]

/-- The old limit kept: the register reads what was written, and LIMIT_STATE shows it (R313). -/
theorem limitKept_reads : kget? (s.limitKept o i v).profile.limits i = some (s.limit i) ∧
    (s.limitKept o i v).fld R.PROFILE_LIMIT_STATE i i = 1 ∧ (s.limitKept o i v).rd (limitReg i) = v ∧ 256 < (s.limitKept o i v).logFree := by
  have hwritten := limitWritten_limitSet o hi hv hfull
  unfold State.limitKept
  dsimp only
  generalize s.limitSet o i v = w at hwritten
  have hfree : 256 < w.logFree := hwritten.logFree.symm ▸ hroom
  refine ⟨?_, fld_setFld_bit _ _ (by omega), ?_, hfree⟩
  · show kget? (kput w.profile.limits i (s.limit i)) i = _
    rw [kget?_kput, if_pos rfl]
  · exact (rd_setFld_other i i 1 (limitReg_not_mem hi).2).trans hwritten.reads

/-- A limit that comes too late leaves the old one in force, as LIMIT_STATE and a record say (R313). -/
theorem refused_limitKept {t : State} (ht : t = (s.limitKept o i v).refuse o Code.PROFILE_LIMIT_REFUSED (limitReg i) v) :
    t.limit i = s.limit i ∧ t.fld R.PROFILE_LIMIT_STATE i i = 1 ∧ t.rd (limitReg i) = v ∧
      t.newest Code.PROFILE_LIMIT_REFUSED 7 6 15 (0x210 + 4 * i) v := by
  have hpage : Code.PROFILE_LIMIT_REFUSED / 256 = 15 := by decide
  obtain ⟨hkept, hstate, hreads, hfree⟩ := limitKept_reads o hi hv hfull hroom
  obtain ⟨hregs, hnewest, honly⟩ := noted_refuse o Code.PROFILE_LIMIT_REFUSED (limitReg i) v hfree
  rw [← ht] at hregs hnewest honly
  rw [hpage] at hregs
  rw [pageOf_limitReg hi, offOf_limitReg hi] at hnewest
  have hread : ∀ a, a ∉ R.PROFILE_LIMITED :: recordRegs 15 → t.rd a = (s.limitKept o i v).rd a :=
    fun a ha => hregs a (fun h => ha (List.mem_cons_of_mem _ h))
  refine ⟨limit_of_some ?_, ?_, (hread _ (limitReg_not_mem hi).1).trans hreads, hnewest⟩
  · rw [honly.profile rfl]
    exact hkept
  · rw [← hstate]
    unfold State.fld
    rw [hread _ limitState_not_mem]

end Left

/-! ### The statement -/

/-- Settles O41: a write of a limit is `limitSet`, after which an axis may be clamped or the old limit put back, or it is refused for its
range. -/
theorem profileLimits : Obligations.ProfileLimits := by
  unfold Obligations.ProfileLimits
  intro o i v s hi hv hp hfull hroom
  refine ⟨fun hon hr => ?_, fun hr hnow => ?_, fun hr hlow hruns hthird hfast => ?_, fun hr hlow hruns hthird hlate => ?_⟩
  · have hpage : Code.REG_VALUE_RANGE 15 / 256 = 15 := by decide
    obtain ⟨hregs, hnewest, honly⟩ := noted_refuse o (Code.REG_VALUE_RANGE 15) (limitReg i) v hroom
    rw [pageOf_limitReg hi, offOf_limitReg hi] at hnewest
    exact ⟨_, exec_limitWrite_barred o hi hp hon hr, hnewest, honly.eq_takes, hpage ▸ hregs⟩
  · have hwritten := limitWritten_limitSet o hi hv hfull
    refine ⟨_, exec_limitWrite_writes o hi hp hr, ?_⟩
    rw [writeLimit_now o hnow]
    exact ⟨hwritten.limit, hwritten.reads, hwritten.state, hwritten.profile, hwritten.only.eq_takes⟩
  · refine ⟨_, exec_limitWrite_writes o hi hp (.inr hr), ?_⟩
    rw [writeLimit_fast o hlow hruns hthird hfast]
    exact limited_limitSet o hi hv hfull hroom (by omega)
  · refine ⟨_, exec_limitWrite_writes o hi hp (.inr hr), ?_⟩
    exact refused_limitKept o hi hv hfull hroom (writeLimit_late o hlow hruns hthird hlate)

end Sys2Proof.Machine
end

section
/-! SUPPORT. The set-point on its line, and the tick of the axes (spec/09_stage_profile.md). -/

namespace Sys2Proof.Machine

/-! ### The set-point's frame -/

theorem length_leBytes (n v : Nat) : (leBytes n v).length = n := by
  induction n generalizing v with
  | zero => rfl
  | succ n ih => exact congrArg (· + 1) (ih _)

/-- A set-point has 24 data bytes (R320). -/
theorem length_frameBytes (s : State) : s.frameBytes.length = 24 := by
  unfold State.frameBytes
  simp only [List.length_append, length_leBytes]

theorem length_bitsOf (n v : Nat) : (bitsOf n v).length = n := by
  unfold bitsOf
  rw [List.length_map, List.length_range]

theorem length_subBlock (n v : Nat) (two rd : Bool) : (subBlock n v two rd).1.length = n := length_bitsOf _ _

/-- A data character has 10 bits (R319). -/
theorem length_char10 (rd : Bool) (b : Nat) : (char10 rd b).1.length = 10 := by
  unfold char10
  dsimp only
  rw [List.length_append, length_subBlock, length_subBlock]

/-- A line of characters: 10 bits of each, and of the comma before them (R319). -/
theorem length_setpointLine (rd : Bool) (bytes : List Byte) : (setpointLine rd bytes).1.length = 10 * (bytes.length + 1) := by
  have hfold : ∀ (bytes : List Byte) (l : List Bool × Bool),
      (bytes.foldl (fun l b => let c := char10 l.2 b.toNat; (l.1 ++ c.1, c.2)) l).1.length = l.1.length + 10 * bytes.length := by
    intro bytes
    induction bytes with
    | nil => exact fun _ => rfl
    | cons b bytes ih =>
      intro l
      rw [List.foldl_cons, ih, List.length_append, length_char10, List.length_cons]
      omega
  have hcomma : (comma10 rd).1.length = 10 := length_bitsOf _ _
  unfold setpointLine
  rw [hfold, hcomma]
  omega

/-! ### The set-point sent -/

/-- A serial set-point is counted and leaves in its frame (R319). -/
theorem sendSetpoint_serial {s : State} (h : s.profOut = 1) : s.sendSetpoint =
    ({ s with profile := { s.profile with seq := (s.profile.seq + 1) % 256, disp := (setpointLine s.profile.disp s.frameBytes).2 } }.inc
      R.PROFILE_FRAMES).emit (.setpoint s.frameBytes (setpointLine s.profile.disp s.frameBytes).1) := if_pos h

/-- A set-point sent leaves the axes, and shows itself in the count of frames alone (R319, R322). -/
theorem axes_sendSetpoint (s : State) : s.sendSetpoint.profile.y = s.profile.y ∧ s.sendSetpoint.profile.x = s.profile.x ∧
    RegsOff [R.PROFILE_FRAMES] s s.sendSetpoint := by
  have hoff := regsOff_refl [R.PROFILE_FRAMES] s
  unfold State.sendSetpoint
  dsimp only
  split
  · exact ⟨rfl, rfl, regsOff_setFld _ _ _ _ (List.mem_singleton.mpr rfl) (regsOff_regs rfl hoff)⟩
  · split
    · split
      · exact ⟨rfl, rfl, regsOff_regs rfl hoff⟩
      · exact ⟨rfl, rfl, regsOff_regs rfl hoff⟩
    · exact ⟨rfl, rfl, hoff⟩

/-- RUNUP's end changes the phase alone (R305). -/
theorem reachRun_eq (s : State) : ∃ p, s.reachRun = { s with profile := { s.profile with phase := p } } := by
  unfold State.reachRun
  split
  · exact ⟨_, rfl⟩
  · exact ⟨s.profile.phase, rfl⟩

/-! ### SETPOINT_FRAME -/

theorem tick_eq (x : Axis) (j : Int) : x.tick j = { x with a := x.a + j, v := x.v + x.a + j, p := x.p + x.v + x.a + j } := by
  unfold Axis.tick
  simp only [Int.add_assoc]

/-- The axes moved by a tick, STATUS showing whether they move still, and RUNUP ended where the speed is reached (R298, R305). -/
def State.ticked (s : State) (jy jx : Int) : State :=
  let u := { s with profile := { s.profile with y := s.profile.y.tick jy, x := s.profile.x.tick jx } }
  (u.setFld (statusOf 15) 16 16 (if !(u.profile.y.rest && u.profile.x.rest) then 1 else 0)).reachRun

theorem exec_setpointFrame {s : State} {jy jx : Int} (hruns : s.profRuns = true)
    (hy : s.profile.y.allows (s.vMax 0) (s.aMax 0) (s.jMax 0) jy = true) (hx : s.profile.x.allows (s.vMax 1) (s.aMax 1) (s.jMax 1) jx = true)
    (hmy : jy = 0 ∨ s.profile.movable 0 = true) (hmx : jx = 0 ∨ s.profile.movable 1 = true) :
    exec (.setpointFrame jy jx) s = .next (s.ticked jy jx).sendSetpoint := by
  have hmoves : ¬ ((jy ≠ 0 ∧ (!s.profile.movable 0) = true) ∨ (jx ≠ 0 ∧ (!s.profile.movable 1) = true)) := by
    rintro (⟨hne, hno⟩ | ⟨hne, hno⟩)
    · simp [hmy.resolve_left hne] at hno
    · simp [hmx.resolve_left hne] at hno
  show execSetpointFrame jy jx s = _
  unfold execSetpointFrame
  dsimp only
  rw [hruns, hy, hx, if_neg (by decide), if_neg (by decide), if_neg hmoves]
  rfl

/-- From s to t a tick has moved the axes by their jerks (R298). -/
structure Ticked (s t : State) (jy jx : Int) : Prop where
  only : Only 8796093022209 s t
  y : t.profile.y = s.profile.y.tick jy
  x : t.profile.x = s.profile.x.tick jx
  seq : t.profile.seq = s.profile.seq
  regs : RegsOff [statusOf 15] s t

theorem ticked_ticked (s : State) (jy jx : Int) : Ticked s (s.ticked jy jx) jy jx := by
  have hmask : Only 8796093022209 s (s.ticked jy jx) :=
    only_reachRun rfl (only_setFld _ _ _ _ rfl (only_put8796093022208 rfl (only_refl _ s)))
  unfold State.ticked at hmask ⊢
  dsimp only at hmask ⊢
  generalize hu : State.setFld _ _ _ _ _ = u at hmask ⊢
  have hregs : RegsOff [statusOf 15] s u := by
    rw [← hu]
    exact regsOff_setFld _ _ _ _ (List.mem_singleton.mpr rfl) (regsOff_regs rfl (regsOff_refl _ s))
  have hprofile : u.profile = { s.profile with y := s.profile.y.tick jy, x := s.profile.x.tick jx } := by rw [← hu]; rfl
  obtain ⟨p, hp⟩ := reachRun_eq u
  rw [hp] at hmask ⊢
  exact ⟨hmask, by rw [hprofile], by rw [hprofile], by rw [hprofile], regsOff_regs rfl hregs⟩

/-- SETPOINT_FRAME of a generator that runs (R298, R319). -/
theorem setpoint_moves {s : State} {jy jx : Int} (hruns : s.profRuns = true)
    (hy : s.profile.y.allows (s.vMax 0) (s.aMax 0) (s.jMax 0) jy = true) (hx : s.profile.x.allows (s.vMax 1) (s.aMax 1) (s.jMax 1) jx = true)
    (hmy : jy = 0 ∨ s.profile.movable 0 = true) (hmx : jx = 0 ∨ s.profile.movable 1 = true) :
    ∃ t, exec (.setpointFrame jy jx) s = .next t ∧ t = { s with regs := t.regs, profile := t.profile, out := t.out } ∧
      t.profile.y = s.profile.y.tick jy ∧ t.profile.x = s.profile.x.tick jx ∧ s.regsBut t [statusOf 15, R.PROFILE_FRAMES] ∧
      (s.profOut = 1 → t.profile.seq = (s.profile.seq + 1) % 256 ∧ t.rd R.PROFILE_FRAMES = min (2 ^ 32 - 1) (s.rd R.PROFILE_FRAMES + 1) ∧
        ∃ b l, t.out = .setpoint b l :: s.out ∧ b.length = 24 ∧ l.length = 250) := by
  have hticked := ticked_ticked s jy jx
  refine ⟨_, exec_setpointFrame hruns hy hx hmy hmx, ?_⟩
  generalize s.ticked jy jx = u at hticked
  obtain ⟨hsy, hsx, hframes⟩ := axes_sendSetpoint u
  have honly : Only 73786985090931228673 s u.sendSetpoint := only_sendSetpoint rfl (only_mono rfl hticked.only)
  refine ⟨honly.eq_takes, hsy.trans hticked.y, hsx.trans hticked.x, fun a ha => ?_, fun hserial => ?_⟩
  · rw [List.mem_cons, List.mem_singleton, not_or] at ha
    obtain ⟨hstatus, hcount⟩ := ha
    exact (hframes a (by simpa using hcount)).trans (hticked.regs a (by simpa using hstatus))
  · have hout : u.profOut = 1 := by
      rw [← hserial]
      unfold State.profOut State.fld
      rw [hticked.regs R.PROFILE_CFG (by decide)]
    have hline := length_setpointLine u.profile.disp u.frameBytes
    rw [length_frameBytes] at hline
    rw [sendSetpoint_serial hout]
    refine ⟨?_, ?_, _, _, ?_, length_frameBytes u, hline⟩
    · show (u.profile.seq + 1) % 256 = _
      rw [hticked.seq]
    · rw [rd_emit, State.inc, rd_bump_whole, ← hticked.regs R.PROFILE_FRAMES (by decide)]
      rfl
    · show _ :: u.out = _
      rw [hticked.only.out rfl]

end Sys2Proof.Machine
end

section
/-! SUPPORT. Moves of the stage: the turnaround, run-up, run-out, the end of a run, and the host's moves (spec/09_stage_profile.md). -/

namespace Sys2Proof.Machine

/-! ### A move aimed -/

/-- An axis given a target (R301). -/
def Profile.aim (g : Profile) (ax : Nat) (t : Int) : Profile :=
  if ax = 0 then { g with y := { g.y with target := some t } } else { g with x := { g.x with target := some t } }

/-- From s to t an axis has been given a target, and clamped at most (R301, R302). -/
structure Aimed (s t : State) (ax : Nat) (goal : Int) : Prop where
  only : Only 78398671109358616593 s t
  profile : ∃ b, t.profile = { s.profile.aim ax goal with limitedSent := b }
  room : t.clampRoom

/-- A move is its target, and a clamp where it cannot stop there (R301, R302). -/
theorem moveAxis_cases (s : State) (ax : Nat) (t : Int) : s.moveAxis ax t = { s with profile := s.profile.aim ax t } ∨
    s.moveAxis ax t = State.limited { s with profile := s.profile.aim ax t } ax := by
  unfold State.moveAxis Profile.aim
  dsimp only
  split
  · split
    · exact .inr rfl
    · exact .inl rfl
  · split
    · exact .inr rfl
    · exact .inl rfl

theorem limitedSent_aim (g : Profile) (ax : Nat) (t : Int) : (g.aim ax t).limitedSent = g.limitedSent := by
  unfold Profile.aim
  split <;> rfl

theorem aimed_moveAxis {s : State} {ax : Nat} (hax : ax < 32) (t : Int) (hroom : s.clampRoom) : Aimed s (s.moveAxis ax t) ax t := by
  have hput : Only 78398671109358616593 s { s with profile := s.profile.aim ax t } := only_put8796093022208 rfl (only_refl _ s)
  have haim : State.clampRoom { s with profile := s.profile.aim ax t } := hroom.imp_left (limitedSent_aim _ _ _).trans
  rcases moveAxis_cases s ax t with h | h
  · rw [h]
    exact ⟨hput, ⟨(s.profile.aim ax t).limitedSent, rfl⟩, haim⟩
  · have hclamped := clamped_limited hax haim
    rw [h]
    exact ⟨only_trans hput hclamped.only, ⟨true, hclamped.profile⟩, .inl (by rw [hclamped.profile])⟩

/-! ### The turnaround -/

/-- A run taken up, its counts begun anew, with the thermal pause that it waits for (R307, R310). -/
def State.turned (s : State) (x : Stripe) : State :=
  let u := if s.thermPause then s.bump R.THERM_PAUSE 31 16 1 else s
  { u with profile := { u.profile with
      phase := 5, runId := some (x.slot, x.id, x.pass), runDone := false, limitedSent := false, pause := s.thermPause } }

theorem only_turned (s : State) (x : Stripe) : Only 8796093022209 s (s.turned x) :=
  only_put8796093022208 rfl (only_ite (only_bump _ _ _ _ rfl (only_refl _ s)) (only_refl _ s))

theorem profile_turned (s : State) (x : Stripe) : (s.turned x).profile =
    { s.profile with phase := 5, runId := some (x.slot, x.id, x.pass), runDone := false, limitedSent := false, pause := s.thermPause } := by
  have hkeep : (if s.thermPause then s.bump R.THERM_PAUSE 31 16 1 else s).profile = s.profile :=
    (only_ite (only_bump (mm := 1) _ _ _ _ rfl (only_refl _ s)) (only_refl _ s)).profile rfl
  unfold State.turned
  dsimp only
  rw [hkeep]

section Turnaround

variable {x : Stripe} {s : State} (hn : s.nextRun = some x) (hruns : s.profRuns = true) (hphase : s.profile.phase = 0)
  (hheld : s.profile.held = false) (hstop : s.profile.stop = false)
  (hfree : ∀ y ∈ s.stripes, y.st = .writing → s.profile.runId ≠ some (y.slot, y.id, y.pass))

include hn hruns hphase hheld hstop hfree

theorem exec_turnaroundStart : exec .turnaroundStart s = .next (
    if s.fld R.PROFILE_CFG 4 4 = 1 then ((s.turned x).moveAxis 0 (s.runOf x.slot x.id).yStart).moveAxis 1 (s.runOf x.slot x.id).xPos
    else (s.turned x).moveAxis 0 (s.runOf x.slot x.id).yStart) := by
  have hbusy : s.stripes.any (fun t => t.st = .writing && s.profile.runId == some (t.slot, t.id, t.pass)) = false := by
    rw [List.any_eq_false]
    intro y hy h
    simp only [Bool.and_eq_true, decide_eq_true_eq, beq_iff_eq] at h
    exact hfree y hy h.1 h.2
  show execTurnaroundStart s = _
  unfold execTurnaroundStart
  dsimp only
  rw [hn]
  dsimp only
  rw [hbusy, if_neg (by simp [hruns, hphase, hheld, hstop])]
  rfl

/-- TURNAROUND_START of a generator that waits for a run (R307). -/
theorem turnaround_starts (hroom : 256 < s.logFree) :
    ∃ t, exec .turnaroundStart s = .next t ∧ t.profile.phase = 5 ∧ t.profile.runId = some (x.slot, x.id, x.pass) ∧
      t.profile.runDone = false ∧ t.profile.pause = s.thermPause ∧
      t.profile.y = { s.profile.y with target := some (s.runOf x.slot x.id).yStart } ∧
      t.profile.x = (if s.fld R.PROFILE_CFG 4 4 = 1 then { s.profile.x with target := some (s.runOf x.slot x.id).xPos } else s.profile.x) ∧
      t.stripes = s.stripes := by
  refine ⟨_, exec_turnaroundStart hn hruns hphase hheld hstop hfree, ?_⟩
  have hstripes := (only_turned s x).stripes rfl
  have hlog := logFree_congr ((only_turned s x).log rfl)
  have hprofile := profile_turned s x
  generalize s.turned x = u at hstripes hlog hprofile
  have hgo : Aimed u _ 0 _ := aimed_moveAxis (by decide) (s.runOf x.slot x.id).yStart (.inr (hlog.symm ▸ hroom))
  obtain ⟨b, hb⟩ := hgo.profile
  rw [hprofile] at hb
  split
  · have hside := aimed_moveAxis (ax := 1) (by decide) (s.runOf x.slot x.id).xPos hgo.room
    obtain ⟨c, hc⟩ := hside.profile
    rw [hb] at hc
    rw [hc]
    exact ⟨rfl, rfl, rfl, rfl, rfl, rfl, ((hside.only.stripes rfl).trans (hgo.only.stripes rfl)).trans hstripes⟩
  · rw [hb]
    exact ⟨rfl, rfl, rfl, rfl, rfl, rfl, (hgo.only.stripes rfl).trans hstripes⟩

end Turnaround

/-! ### Run-up and run-out -/

/-- RUNUP begins (R305). -/
def State.runup (s : State) (smp : Sample) : State :=
  { s.see smp with profile := { s.profile with phase := 2, held := false, runDone := false, y := { s.profile.y with target := none } } }

theorem only_runup (s : State) (smp : Sample) : Only 13194139533312 s (s.runup smp) :=
  only_put8796093022208 rfl (only_see smp rfl (only_refl _ s))

theorem exec_runupStart {r : RunRec} {s : State} {smp : Sample} (hr : s.run? = some r) (hruns : s.profRuns = true) (hphase : s.profile.phase = 1)
    (hheld : (s.see smp).holdReg = 0) (hstop : s.profile.stop = false) :
    exec (.runupStart smp) s = .next (if (s.runup smp).wantsClamp then (s.runup smp).limited 0 else s.runup smp) := by
  obtain ⟨e, he⟩ := encsOnly_see s smp
  have hsees : (s.see smp).run? = s.run? ∧ (s.see smp).profRuns = s.profRuns ∧ (s.see smp).profile = s.profile := by
    rw [he]
    exact ⟨rfl, rfl, rfl⟩
  obtain ⟨hrun, hon, hprofile⟩ := hsees
  show execRunupStart smp s = _
  unfold execRunupStart State.runup
  dsimp only
  rw [hrun, hon, hprofile, if_neg (by simp [hr, hruns, hphase, hheld, hstop])]

/-- RUNUP_START of a run that nothing holds (R302, R305, R307). -/
theorem runup_starts {r : RunRec} {s : State} {smp : Sample} (hr : s.run? = some r) (hruns : s.profRuns = true) (hphase : s.profile.phase = 1)
    (hheld : (s.see smp).holdReg = 0) (hstop : s.profile.stop = false) :
    ∃ t, exec (.runupStart smp) s = .next t ∧ ((s.runup smp).wantsClamp = false → t = s.runup smp) ∧
      ((s.runup smp).wantsClamp = true → 256 < s.logFree → t.profile = { (s.runup smp).profile with limitedSent := true } ∧
        t.fld R.PROFILE_LIMITED 0 0 = 1 ∧ t.stripes = s.stripes) := by
  have honly := only_runup s smp
  have hexec := exec_runupStart hr hruns hphase hheld hstop
  generalize s.runup smp = u at honly hexec
  refine ⟨_, hexec, fun hcalm => if_neg (by simp [hcalm]), fun hfast hroom => ?_⟩
  have hclamped : Clamped u _ 0 := clamped_limited (by decide) (.inr ((logFree_congr (honly.log rfl)).symm ▸ hroom))
  rw [if_pos hfast]
  exact ⟨hclamped.profile, hclamped.shown, (hclamped.only.stripes rfl).trans (honly.stripes rfl)⟩

theorem exec_runoutStart {r : RunRec} {s : State} (hr : s.run? = some r) (hruns : s.profRuns = true)
    (hphase : s.profile.phase = 2 ∨ s.profile.phase = 3) :
    exec .runoutStart s = .next (State.moveAxis { s with profile := { s.profile with phase := 4 } } 0 r.yEnd) := by
  show execRunoutStart s = _
  unfold execRunoutStart
  rw [hr]
  exact if_pos ⟨hruns, hphase⟩

/-- RUNOUT_START of a run that moves (R305). -/
theorem runout_starts {r : RunRec} {s : State} (hr : s.run? = some r) (hruns : s.profRuns = true)
    (hphase : s.profile.phase = 2 ∨ s.profile.phase = 3) (hroom : 256 < s.logFree) :
    ∃ t, exec .runoutStart s = .next t ∧ t.profile.phase = 4 ∧ t.profile.y = { s.profile.y with target := some r.yEnd } ∧
      t.profile.x = s.profile.x ∧ t.stripes = s.stripes := by
  have hgo := aimed_moveAxis (s := { s with profile := { s.profile with phase := 4 } }) (ax := 0) (by decide) r.yEnd (.inr hroom)
  obtain ⟨b, hb⟩ := hgo.profile
  refine ⟨_, exec_runoutStart hr hruns hphase, ?_⟩
  rw [hb]
  exact ⟨rfl, rfl, rfl, hgo.only.stripes rfl⟩

/-! ### What a containment leaves of the generator -/

/-- From g to h a run has been held at most: its axes, its stripe and whether it is done stay (R316). -/
def Profile.heldTo (g h : Profile) : Prop := ∃ held wait phase, h = { g with held, resumeWait := wait, phase }

theorem Profile.heldTo.left {g h : Profile} (hh : g.heldTo h) : h.runDone = g.runDone ∧ h.y = g.y := by
  obtain ⟨_, _, _, rfl⟩ := hh
  exact ⟨rfl, rfl⟩

theorem heldTo_refl (g : Profile) : g.heldTo g := ⟨g.held, g.resumeWait, g.phase, rfl⟩

theorem heldTo_stopRun (s : State) (x : Stripe) : s.profile.heldTo (s.stopRun x) := by
  unfold State.stopRun
  split
  · exact ⟨_, _, _, rfl⟩
  · exact heldTo_refl _

theorem heldTo_enterContained (s : State) (x : Stripe) (a : RecArg) (now : Bool) (h : Int) :
    s.profile.heldTo (s.enterContained x a now h).profile := by
  unfold State.enterContained
  dsimp only
  generalize hr : s.recordRaw _ = r
  have hheld : Only 295147896383259803647 s r := by
    rw [← hr]
    exact only_recordRaw _ rfl (only_refl _ s)
  generalize hv : State.dropAfter _ _ _ = v
  have hshade : Only 295147896383259803647 r v := by
    rw [← hv]
    exact only_dropAfter _ _ rfl (only_allLanes _ _ rfl (only_shadeOn _ rfl (only_droverTo _ rfl (only_modStripe _ _ rfl (only_refl _ r)))))
  generalize hw : State.wr64 _ _ _ = w
  have hregs : Only 295147896383259803647 v w := by
    rw [← hw]
    exact only_wr _ _ rfl (only_wr _ _ rfl (only_wr _ _ rfl (only_setFld _ _ _ _ rfl (only_refl _ v))))
  have hflood : ∀ c : State, (c.floodContain a.code).showStripes.profile = c.profile := fun c =>
    (only_showStripes (mm := 295147896383259803647) rfl (only_floodContain _ rfl (only_refl _ c))).profile rfl
  have hsame : w.profile = s.profile := ((hregs.profile rfl).trans (hshade.profile rfl)).trans (hheld.profile rfl)
  rw [hflood, ← hsame]
  exact heldTo_stopRun w x

theorem heldTo_containAt (s : State) (a : RecArg) (now : Bool) (h : Int) : s.profile.heldTo (s.containAt a now h).profile := by
  have hraw : ∀ (u : State) (b : RecArg), Only 295147896383259803647 s u → (u.recordRaw b).profile = s.profile := fun u b hu =>
    (only_recordRaw b rfl hu).profile rfl
  have hnow : Only 295147896383259803647 s (if now then s.shadeOn true else s) :=
    only_ite (only_shadeOn _ rfl (only_refl _ s)) (only_refl _ s)
  unfold State.containAt
  split
  · rw [hraw _ _ (only_refl _ s)]
    exact heldTo_refl _
  · next x _ =>
    split
    · dsimp only
      generalize (if now then s.shadeOn true else s) = u at hnow
      split
      · generalize hw : State.setFld _ _ _ _ _ = w
        have hsame : Only 295147896383259803647 s w := by
          rw [← hw]
          exact only_setFld _ _ _ _ rfl (only_dropAfter _ _ rfl (only_allLanes _ _ rfl (only_shadeOn _ rfl (only_droverTo _ rfl
            (only_modStripe _ _ rfl (only_recordRaw _ rfl hnow))))))
        show s.profile.heldTo (w.stopRun x)
        rw [← hsame.profile rfl]
        exact heldTo_stopRun w x
      · rw [hraw _ _ hnow]
        exact heldTo_refl _
    · exact heldTo_enterContained s x a now h

theorem heldTo_contain (s : State) (a : RecArg) (now : Bool) : s.profile.heldTo (s.contain a now).profile := heldTo_containAt s a now _

/-! ### The end of a run -/

/-- The run done, with the encoder records that its fits write (R305, R545). -/
def State.runEnded (s : State) (fits : List (Nat × List Byte)) : State :=
  State.encAuto { s with profile := { s.profile with phase := 0, runDone := true, limitedSent := false } } fits

theorem profile_runEnded (s : State) (fits : List (Nat × List Byte)) :
    (s.runEnded fits).profile = { s.profile with phase := 0, runDone := true, limitedSent := false } :=
  (only_encAuto (mm := 135675336821047329) fits rfl (only_refl _ _)).profile rfl

theorem stripes_runEnded (s : State) (fits : List (Nat × List Byte)) : (s.runEnded fits).stripes = s.stripes :=
  (only_encAuto (mm := 135675336821047329) fits rfl (only_refl _ _)).stripes rfl

/-- A record that firmware writes moves no strobe (R540). -/
theorem onward_putKeep {d : Bool} {s0 s : State} (typ inst : Nat) (payload : List Byte) (h : Onward d s0 s) :
    Onward d s0 (s.putKeep typ inst payload) := by
  unfold State.putKeep
  split
  · exact h.trans ⟨rfl, rfl, rfl, rfl, rfl, rfl, framesFrom_refl _, fun _ => rfl, fun _ _ hc => hc, fun _ _ => rfl⟩
  · exact onward_storeKeep _ _ _ _ _ h

/-- The records written at a run's end leave the last flash fired. -/
theorem k_runEnded (s : State) (fits : List (Nat × List Byte)) : (s.runEnded fits).drover.k = s.drover.k := by
  have hauto : ∀ u : State, Onward false u (u.encAuto fits) := fun u =>
    onward_ite (onward_refl _ u) (onward_foldl _ (fun _ _ hv => onward_ite (onward_putKeep _ _ _ hv) hv) _ (onward_refl _ u))
  exact (hauto _).k

section RunEnd

variable (fits : List (Nat × List Byte)) {s : State} (hruns : s.profRuns = true) (hphase : s.profile.phase = 4)
  (hthere : s.profile.y.there = true)

include hruns hphase hthere

theorem exec_runEnd_alone (hn : s.runStripe = none) : exec (.runEnd fits) s = .next (s.runEnded fits) := by
  show execRunEnd fits s = _
  unfold execRunEnd
  rw [if_neg (by simp [hruns, hphase, hthere]), hn]
  rfl

theorem exec_runEnd_stripe {x : Stripe} (hx : s.runStripe = some x) : exec (.runEnd fits) s = .next (
    if x.st = .writing ∧ s.drover.k < x.lastFlash then (s.runEnded fits).contain { code := Code.PROFILE_RUN_END, cls := 2, stripe := x.who }
    else s.runEnded fits) := by
  show execRunEnd fits s = _
  unfold execRunEnd
  rw [if_neg (by simp [hruns, hphase, hthere]), hx]
  dsimp only
  rw [apply_ite Host.Outcome.next]
  rfl

/-- RUN_END of a run at its end; a stripe that still writes is contained (R305, R306). -/
theorem run_ends : ∃ t, exec (.runEnd fits) s = .next t ∧ t.profile.runDone = true ∧ t.profile.y = s.profile.y ∧
    (s.runStripe = none → t.profile.phase = 0 ∧ t.stripes = s.stripes) ∧
    ∀ x, s.runStripe = some x → s.active = some x → x.st = .writing → s.drover.k < x.lastFlash →
      t.containedBy x Code.PROFILE_RUN_END s.drover.k := by
  have hprofile := profile_runEnded s fits
  cases hrun : s.runStripe with
  | none =>
    refine ⟨_, exec_runEnd_alone fits hruns hphase hthere hrun, ?_, ?_, fun _ => ⟨?_, stripes_runEnded s fits⟩, fun _ h => nomatch h⟩
    · rw [hprofile]
    · rw [hprofile]
    · rw [hprofile]
  | some x =>
    refine ⟨_, exec_runEnd_stripe fits hruns hphase hthere hrun, ?_⟩
    split
    · have hheld := heldTo_contain (s.runEnded fits) { code := Code.PROFILE_RUN_END, cls := 2, stripe := x.who } false
      rw [hprofile] at hheld
      refine ⟨hheld.left.1, hheld.left.2, nofun, fun y _ hact hw _ => ?_⟩
      have hact' : (s.runEnded fits).active = some y := by
        unfold State.active
        rw [stripes_runEnded]
        exact hact
      rw [← k_runEnded s fits]
      exact containedBy_contain hact' hw { code := Code.PROFILE_RUN_END, cls := 2, stripe := x.who } false
    · next hno =>
      refine ⟨by rw [hprofile], by rw [hprofile], nofun, fun y hy _ hw hk => ?_⟩
      obtain rfl := Option.some.inj hy
      exact absurd ⟨hw, hk⟩ hno

end RunEnd

/-! ### The end of a move -/

section MoveEnd

variable {s : State} (hruns : s.profRuns = true) (hy : s.profile.y.there = true) (hx : s.profile.x.there = true)

include hruns hy hx

theorem exec_moveEnd_turnaround (hphase : s.profile.phase = 5) :
    exec .moveEnd s = .next { s with profile := { s.profile with phase := if s.profile.runId.isSome then 1 else 0 } } := by
  show execMoveEnd s = _
  unfold execMoveEnd
  dsimp only
  rw [hphase, if_neg (by simp [hruns, hy, hx])]
  rfl

theorem exec_moveEnd_host (hphase : s.profile.phase = 6) (hheld : s.profile.held = false) :
    exec .moveEnd s = .next { s with profile := { s.profile with
      phase := if s.profile.hostMove then 2 else if s.profile.runId.isSome then 1 else 0, hostMove := false,
      y := { s.profile.y with target := none } } } := by
  show execMoveEnd s = _
  unfold execMoveEnd
  dsimp only
  rw [hphase, if_neg (by simp [hruns, hy, hx])]
  exact if_neg (by rw [hheld]; exact Bool.false_ne_true)

end MoveEnd

/-! ### MOVE -/

/-- An admitted action acts on the state with its trace record (R634, R673). -/
theorem act_admitted {s : State} {o : Origin} {a v : Nat} (h : s.permit o a v = .ok s) (effect : State → State) :
    ∃ x, s.act o a v effect = effect { s with trace := x } := by
  obtain ⟨x, hx⟩ := traceRec_eq s (pageOf a) 0 (offOf a) [v, o.code]
  unfold State.act
  rw [h]
  exact ⟨x, congrArg effect hx⟩

/-- A host move from rest is a phase of its own (R317). -/
theorem hostMoveY_rest {s : State} (h : s.profile.phase ≤ 1) (t : Int) :
    s.hostMoveY t = State.moveAxis { s with profile := { s.profile with phase := 6 } } 0 t := by
  have hrun : decide (2 ≤ s.profile.phase ∧ s.profile.phase ≤ 4) = false := decide_eq_false (by omega)
  unfold State.hostMoveY
  dsimp only
  rw [hrun, if_neg (by omega), Bool.or_false]

/-- A generator that runs and is not stopped moves, whatever is traced (R317). -/
theorem moves_traced {s : State} (hruns : s.profRuns = true) (hstop : s.profile.stop = false) (x : Trace) :
    ¬ ((!State.profRuns { s with trace := x }) = true ∨ s.profile.stop = true) := by
  have htraced : State.profRuns { s with trace := x } = true := hruns
  rw [htraced, hstop]
  decide

section Move

variable {o : Origin} {v : Nat} {s : State} (hp : s.permit o R.PROFILE_MOVE v = .ok s) (hruns : s.profRuns = true)
  (hstop : s.profile.stop = false)

include hp hruns hstop

/-- A move of Y alone is the host's move (R317). -/
theorem exec_move_y (hmy : fieldOf v 0 0 = 1) (hmx : fieldOf v 1 1 = 0) : ∃ x, exec (.move o v) s = .next
    (State.hostMoveY { s with trace := x } (signedOf 48 (s.rd R.PROFILE_TARGET_Y_L + 2 ^ 32 * s.rd (R.PROFILE_TARGET_Y_L + 4)))) := by
  show ∃ x, execMove o v s = _
  unfold execMove
  generalize heffect : (fun s : State => _) = effect
  obtain ⟨x, hx⟩ := act_admitted hp effect
  refine ⟨x, congrArg _ (hx.trans ?_)⟩
  rw [← heffect]
  dsimp only
  rw [if_neg (moves_traced hruns hstop x), if_pos hmx, if_pos hmy]
  rfl

/-- A move of X alone during a run is refused (R317). -/
theorem exec_move_xRun (hmy : fieldOf v 0 0 = 0) (hmx : fieldOf v 1 1 = 1) (hrun : 2 ≤ s.profile.phase ∧ s.profile.phase ≤ 4) :
    ∃ x, exec (.move o v) s = .next (State.refuse { s with trace := x } o Code.PROFILE_MOVE_X_RUN R.PROFILE_MOVE v) := by
  show ∃ x, execMove o v s = _
  unfold execMove
  generalize heffect : (fun s : State => _) = effect
  obtain ⟨x, hx⟩ := act_admitted hp effect
  refine ⟨x, congrArg _ (hx.trans ?_)⟩
  rw [← heffect]
  dsimp only
  rw [if_neg (moves_traced hruns hstop x), if_neg (by omega), if_pos hrun, if_neg (by omega)]

/-- A host move of Y from rest (R317). -/
theorem move_starts (hroom : 256 < s.logFree) (hmy : fieldOf v 0 0 = 1) (hmx : fieldOf v 1 1 = 0) (hphase : s.profile.phase ≤ 1) :
    ∃ t, exec (.move o v) s = .next t ∧ t.profile.phase = 6 ∧ t.profile.x = s.profile.x ∧ t.stripes = s.stripes ∧
      t.profile.y = { s.profile.y with target := some (signedOf 48 (s.rd R.PROFILE_TARGET_Y_L + 2 ^ 32 * s.rd (R.PROFILE_TARGET_Y_L + 4))) } := by
  obtain ⟨x, hexec⟩ := exec_move_y hp hruns hstop hmy hmx
  rw [hostMoveY_rest (s := { s with trace := x }) hphase] at hexec
  have hgo := aimed_moveAxis (s := { s with trace := x, profile := { s.profile with phase := 6 } }) (ax := 0) (by decide)
    (signedOf 48 (s.rd R.PROFILE_TARGET_Y_L + 2 ^ 32 * s.rd (R.PROFILE_TARGET_Y_L + 4))) (.inr hroom)
  obtain ⟨b, hb⟩ := hgo.profile
  refine ⟨_, hexec, ?_⟩
  rw [hb]
  exact ⟨rfl, rfl, hgo.only.stripes rfl, rfl⟩

/-- A host move of X during a run (R317). -/
theorem move_refused (hroom : 256 < s.logFree) (hmy : fieldOf v 0 0 = 0) (hmx : fieldOf v 1 1 = 1)
    (hrun : 2 ≤ s.profile.phase ∧ s.profile.phase ≤ 4) :
    ∃ t, exec (.move o v) s = .next t ∧ t.profile = s.profile ∧ t.newest Code.PROFILE_MOVE_X_RUN 7 6 15 (offOf R.PROFILE_MOVE) v := by
  obtain ⟨x, hexec⟩ := exec_move_xRun hp hruns hstop hmy hmx hrun
  obtain ⟨-, hnewest, honly⟩ := noted_refuse (s := { s with trace := x }) o Code.PROFILE_MOVE_X_RUN R.PROFILE_MOVE v hroom
  exact ⟨_, hexec, honly.profile rfl, hnewest⟩

end Move

/-! ### The statement -/

/-- Settles O40: each event of the generator is one equation of `exec`, whose state is the tick, a target given to an axis, the run ended,
or another phase. -/
theorem stageMoves : Obligations.StageMoves := by
  unfold Obligations.StageMoves
  refine ⟨fun jy jx s hruns hy hx hmy hmx => ?_, ?_, fun r s hr hruns => ⟨?_, ?_⟩, ?_,
    fun s hruns hy hx => ⟨fun hphase => ?_, fun hphase hheld => ?_⟩, fun o v s hp hruns hstop hroom => ⟨?_, fun hmy hmx hlo hhi _ => ?_⟩⟩
  · obtain ⟨t, hexec, honly, hty, htx, hleft⟩ := setpoint_moves hruns hy hx hmy hmx
    exact ⟨t, hexec, honly, hty.trans (tick_eq _ _), htx.trans (tick_eq _ _), hleft⟩
  · exact fun x s hn hruns hphase hheld hstop hfree hroom => turnaround_starts hn hruns hphase hheld hstop hfree hroom
  · exact fun smp hphase hheld hstop => runup_starts hr hruns hphase hheld hstop
  · exact fun hphase hroom => runout_starts hr hruns hphase hroom
  · exact fun fits s hruns hphase hthere => run_ends fits hruns hphase hthere
  · exact ⟨_, exec_moveEnd_turnaround hruns hy hx hphase, rfl, rfl⟩
  · exact ⟨_, exec_moveEnd_host hruns hy hx hphase hheld, rfl, rfl⟩
  · exact fun hmy hmx hphase => move_starts hp hruns hstop hroom hmy hmx hphase
  · exact move_refused hp hruns hstop hroom hmy hmx ⟨hlo, hhi⟩

end Sys2Proof.Machine
end

section
/-! SUPPORT. What a device-fatal event does (spec/10_hbm_memory.md, R484). -/

namespace Sys2Proof.Machine

/-! ### Registers that audit records and failed commands change -/

theorem regsOff_mono {l l' : List RegAddr} {s t : State} (hl : ∀ a ∈ l, a ∈ l') (h : RegsOff l s t) : RegsOff l' s t :=
  fun a ha => h a (fun hm => ha (hl a hm))

theorem RegsOff.trans {l : List RegAddr} {s t u : State} (h : RegsOff l s t) (h' : RegsOff l t u) : RegsOff l s u :=
  fun a ha => (h' a ha).trans (h a ha)

theorem regsOff_eraseKey {s0 s : State} (cause slot : Nat) (h : RegsOff keepRegs s0 s) : RegsOff keepRegs s0 (s.eraseKey cause slot) := by
  unfold State.eraseKey
  dsimp only
  split
  · exact regsOff_regs ((only_modJob (mm := 49152) _ _ rfl (only_refl _ _)).regs rfl) (regsOff_commit_keep _ _ rfl _ _ _ h)
  · exact h

theorem regsOff_eraseKeys {s0 s : State} (cause : Nat) (h : RegsOff keepRegs s0 s) : RegsOff keepRegs s0 (s.eraseKeys cause) :=
  regsOff_regs rfl (regsOff_eraseKey cause 1 (regsOff_eraseKey cause 0 h))

/-- A command that fails changes the registers that its record changes (R463). -/
theorem regsOff_fail {l : List RegAddr} {s0 s : State} (n code : Nat) (hl : ∀ a ∈ recordRegs (code / 256), a ∈ l) (h : RegsOff l s0 s) :
    RegsOff l s0 (s.fail n code) :=
  regsOff_regs ((only_complete (mm := 73786976294838214656) _ _ _ _ _ _ rfl (only_refl _ _)).regs rfl) (regsOff_recordRaw _ hl h)

/-! ### Commands that fail -/

/-- A record charges commands and neither ends nor takes in any (R419). -/
theorem cmds_recordRaw {s : State} {a : RecArg} {c : Cmd} (h : c ∈ (s.recordRaw a).host.cmds) :
    ∃ x ∈ s.host.cmds, x.n = c.n ∧ x.done = c.done := by
  have hwrite : ∀ (u : State) (b : RecArg), u.host.cmds = s.host.cmds → c ∈ (u.writeRec b).host.cmds →
      ∃ x ∈ s.host.cmds, x.n = c.n ∧ x.done = c.done := by
    intro u b hu hc
    rw [cmds_writeRec, hu] at hc
    cases hb : b.cmd with
    | none =>
      rw [hb] at hc
      exact ⟨c, hc, rfl, rfl⟩
    | some i =>
      rw [hb] at hc
      obtain ⟨x, hx, rfl⟩ := List.mem_map.mp hc
      refine ⟨x, hx, ?_⟩
      split
      · exact ⟨rfl, rfl⟩
      · exact ⟨rfl, rfl⟩
  have hcount : (s.countOnly a.page).host = s.host := (only_countOnly (mm := 4611686018427387905) _ rfl (only_refl _ s)).host rfl
  unfold State.recordRaw at h
  dsimp only at h
  split at h
  · split at h
    · rw [hcount] at h
      exact ⟨c, h, rfl, rfl⟩
    · rw [(only_raiseIrq (mm := 73786976294838206465) 0 1 rfl (only_refl _ _)).host rfl] at h
      refine hwrite { s.countOnly a.page with log := { (s.countOnly a.page).log with lowSent := true } } _ ?_ h
      rw [← hcount]
  · split at h
    · rw [hcount] at h
      exact ⟨c, h, rfl, rfl⟩
    · exact hwrite s a rfl h

/-- Completions that leave take their commands away and change no other (R422). -/
theorem cmds_drainCq : ∀ (f : Nat) (s : State), (State.drainCq f s).host.cmds ⊆ s.host.cmds
  | 0, _ => List.Subset.refl _
  | f + 1, s => by
    unfold State.drainCq
    split
    · exact List.Subset.refl _
    · split
      · exact List.Subset.refl _
      · refine List.Subset.trans (cmds_drainCq f _) ?_
        rw [writeCompletion_cmds]
        exact List.filter_subset_self _

theorem Cmd.done_ends (r : Nat × Nat × Nat × Nat × Nat) (c : Cmd) : (c.ends r).done ≠ none := by
  cases h : c.done with
  | none => simp [Cmd.ends, h]
  | some d => simp [Cmd.ends_of_done h, h]

/-- A command that still waits after another has failed waited before (R463). -/
theorem open_fail {s : State} {n code : Nat} {c : Cmd} (h : c ∈ (s.fail n code).host.cmds) (hopen : c.done = none) :
    c.n ≠ n ∧ ∃ x ∈ s.host.cmds, x.n = c.n ∧ x.done = none := by
  rw [State.fail, complete_eq_drain] at h
  obtain ⟨y, hy, rfl⟩ := List.mem_map.mp (cmds_drainCq _ _ h)
  by_cases hn : y.n = n
  · rw [if_pos hn] at hopen
    exact absurd hopen (Cmd.done_ends _ y)
  · rw [if_neg hn] at hopen ⊢
    obtain ⟨x, hx, hxn, hxd⟩ := cmds_recordRaw hy
    exact ⟨hn, x, hx, hxn, hxd.trans hopen⟩

/-- After some commands have failed one that still waits is none of them, and waited before. -/
theorem open_fails {code : Nat} {c : Cmd} (hopen : c.done = none) (l : List Cmd) : ∀ s : State,
    c ∈ (l.foldl (fun s x => s.fail x.n code) s).host.cmds →
      (∀ x ∈ l, x.n ≠ c.n) ∧ ∃ x ∈ s.host.cmds, x.n = c.n ∧ x.done = none := by
  induction l with
  | nil => exact fun s h => ⟨fun _ hx => absurd hx List.not_mem_nil, c, h, rfl, hopen⟩
  | cons y l ih =>
    intro s h
    obtain ⟨hl, x, hx, hxn, hxd⟩ := ih _ h
    obtain ⟨hne, z, hz, hzn, hzd⟩ := open_fail hx hxd
    refine ⟨?_, z, hz, hzn.trans hxn, hzd⟩
    intro w hw
    rcases List.mem_cons.mp hw with rfl | hw
    · exact fun e => hne (hxn.trans e.symm)
    · exact hl w hw

/-! ### A device-fatal event by its parts -/

/-- The beams shaded and Drover held (R484). -/
def State.fatalHeld (s : State) (code : Nat) : State :=
  ((({ s with fatal := code }.shadeOn true).droverTo 5).setFld R.DROVER_STANDSTILL 1 1 1)

/-- The stage stopped (R484). -/
def State.stageStopped (s : State) : State :=
  { s with profile := { s.profile with stop := true, phase := if s.fld R.PROFILE_CFG 1 0 = 0 then s.profile.phase else 7 } }

/-- The record made, and FATAL and the pins shown, where STATUS was `b` (R484, R659). -/
def State.fatalShown (s : State) (a : RecArg) (b : Nat) : State :=
  ((s.recordRaw { a with cls := 4, stripe := s.active.bind Stripe.who }).wr R.SYS_FATAL a.code).showPins b

/-- The newest record kept, and the keys erased (R484). -/
def State.keptAndErased (s : State) (code : Nat) : State :=
  (s.storeKeep .firmware 0x0041 0 ((s.log.recs.head?.map ErrRec.bytes).getD []) 0).eraseKeys code

/-- Every outstanding command failed (R484). -/
def State.failedAll (s : State) : State :=
  (s.host.cmds.filter (fun c => c.done = none)).foldl (fun s c => s.fail c.n Code.SYS_DEVICE_FATAL) s

theorem deviceFatal_eq {s : State} (h : s.fatal = 0) (a : RecArg) : s.deviceFatal a =
    (((s.fatalHeld a.code).stageStopped.fatalShown a s.i3cByte).keptAndErased a.code).failedAll := by
  unfold State.failedAll State.keptAndErased State.fatalShown State.stageStopped State.fatalHeld
  exact if_neg (fun hn => hn h)

/-- The run stands halted by a device-fatal code (R484). -/
structure Halted (code : Nat) (t : State) : Prop where
  fatal : t.fatal = code
  shown : t.rd R.SYS_FATAL = code
  shaded : t.flink.shaded = true
  held : t.drover.st = 5
  standstill : t.fld R.DROVER_STANDSTILL 1 1 = 1

/-- It goes on standing so while neither the link nor Drover nor these registers change. -/
theorem Halted.apart {code : Nat} {l : List RegAddr} {s t : State} (h : Halted code s) (hr : RegsOff l s t)
    (hl : R.SYS_FATAL ∉ l ∧ R.DROVER_STANDSTILL ∉ l) (ho : Only 295147898582283055103 s t) : Halted code t where
  fatal := (ho.fatal rfl).trans h.fatal
  shown := (hr _ hl.1).trans h.shown
  shaded := by rw [ho.flink rfl, h.shaded]
  held := by rw [ho.drover rfl, h.held]
  standstill := by
    unfold State.fld
    rw [hr _ hl.2]
    exact h.standstill

/-- No record of an error shows itself in these two registers. -/
theorem fatal_not_mem_recordRegs (p : Nat) : R.SYS_FATAL ∉ recordRegs p ∧ R.DROVER_STANDSTILL ∉ recordRegs p := by
  refine ⟨fun h => ?_, fun h => ?_⟩
  · exact absurd (mem_recordRegs h) (by decide)
  · exact absurd (mem_recordRegs h) (by decide)

theorem halted_fatalHeld (s : State) (code : Nat) : (s.fatalHeld code).fatal = code ∧ (s.fatalHeld code).flink.shaded = true ∧
    (s.fatalHeld code).drover.st = 5 ∧ (s.fatalHeld code).fld R.DROVER_STANDSTILL 1 1 = 1 := by
  unfold State.fatalHeld
  generalize hstart : ({ s with fatal := code } : State) = r
  have hshade : Only 110680466641280565249 r (r.shadeOn true) := only_shadeOn true rfl (only_refl _ r)
  have hshaded : (r.shadeOn true).flink.shaded = true := (resends_shadeBlocks _ _).shaded
  have hheld : Only 4398046511105 (r.shadeOn true) ((r.shadeOn true).droverTo 5) := only_droverTo 5 rfl (only_refl _ _)
  have hst : ((r.shadeOn true).droverTo 5).drover.st = 5 := congrArg Drover.st (drover_droverTo _ _)
  generalize State.droverTo _ 5 = u at hheld hst ⊢
  have hset : Only 1 u (u.setFld R.DROVER_STANDSTILL 1 1 1) := only_setFld _ _ _ _ rfl (only_refl _ u)
  refine ⟨?_, ?_, ?_, fld_setFld_bit u R.DROVER_STANDSTILL (by decide)⟩
  · rw [hset.fatal rfl, hheld.fatal rfl, hshade.fatal rfl, ← hstart]
  · rw [hset.flink rfl, hheld.flink rfl, hshaded]
  · rw [hset.drover rfl, hst]

theorem only_stageStopped (s : State) : Only 8796093022208 s s.stageStopped := only_put8796093022208 rfl (only_refl _ s)

theorem only_fatalShown (s : State) (a : RecArg) (b : Nat) : Only 78398662313265602577 s (s.fatalShown a b) :=
  only_showPins _ rfl (only_wr _ _ rfl (only_recordRaw _ rfl (only_refl _ s)))

theorem regsOff_showPins (s : State) (b : Nat) : RegsOff [R.SYS_INTERLOCK] s (s.showPins b) := by
  unfold State.showPins
  refine regsOff_regs ((only_tellBoard (mm := 73786976294838206464) _ rfl (only_refl _ _)).regs rfl) ?_
  exact regsOff_setFld _ _ _ _ (by simp) (regsOff_setFld _ _ _ _ (by simp) (regsOff_refl _ s))

theorem rd_fatalShown (s : State) {a : RecArg} (hcode : a.code < 2 ^ 32) (b : Nat) : (s.fatalShown a b).rd R.SYS_FATAL = a.code ∧
    (s.fatalShown a b).rd R.DROVER_STANDSTILL = s.rd R.DROVER_STANDSTILL := by
  unfold State.fatalShown
  generalize hw : s.recordRaw _ = w
  have hrec : RegsOff (recordRegs a.page) s w := by
    rw [← hw]
    exact regsOff_recordRaw _ (fun _ h => h) (regsOff_refl _ s)
  have hpins := regsOff_showPins (w.wr R.SYS_FATAL a.code) b
  refine ⟨?_, ?_⟩
  · rw [hpins _ (by decide), rd_wr_same _ _ hcode]
  · rw [hpins _ (by decide), rd_wr_other _ (by decide), hrec _ (fatal_not_mem_recordRegs _).2]

/-- A device-fatal event halts the run by its code (R484). -/
theorem halted_fatalShown (s : State) {a : RecArg} (hcode : a.code < 2 ^ 32) (b : Nat) :
    Halted a.code ((s.fatalHeld a.code).stageStopped.fatalShown a b) := by
  obtain ⟨hfatal, hshaded, hst, hstand⟩ := halted_fatalHeld s a.code
  generalize s.fatalHeld a.code = u at hfatal hshaded hst hstand ⊢
  have hstop := only_stageStopped u
  have hregs : u.stageStopped.rd R.DROVER_STANDSTILL = u.rd R.DROVER_STANDSTILL := rd_congr (hstop.regs rfl) _
  generalize u.stageStopped = v at hstop hregs ⊢
  have hshow := only_fatalShown v a b
  obtain ⟨hcodeShown, hkept⟩ := rd_fatalShown v hcode b
  refine ⟨by rw [hshow.fatal rfl, hstop.fatal rfl, hfatal], hcodeShown, by rw [hshow.flink rfl, hstop.flink rfl, hshaded],
    by rw [hshow.drover rfl, hstop.drover rfl, hst], ?_⟩
  unfold State.fld at hstand ⊢
  rw [hkept, hregs, hstand]

/-- A record that is no encoder's leaves Drover as it is (R542). -/
theorem only_storeKeep_apart {typ : Nat} (h : typ ≠ 0x11) (s : State) (o : Origin) (inst : Nat) (payload : List Byte) (bad : Nat) :
    Only 63613344736608289 s (s.storeKeep o typ inst payload bad) := by
  have hnow : ∀ u : State, u.encNow typ inst payload = u := fun u => if_neg (fun hc => h hc.1)
  unfold State.storeKeep
  dsimp only
  rw [hnow]
  refine only_keepWaits _ _ _ rfl ?_
  have hput : ∀ r : List KeepRec, Only 63613344736608289 s { s with keep := r } := fun _ => only_put9007199254740992 rfl (only_refl _ s)
  split
  · exact only_auditDir _ rfl (only_listKeep rfl (only_commit _ _ _ _ _ _ rfl (hput _)))
  · exact only_commit _ _ _ _ _ _ rfl (hput _)

/-- A key erased is gone, and the other slot keeps what it has (R566). -/
theorem key_eraseKey (s : State) (cause : Nat) : (s.eraseKey cause 0).job0.key = none ∧ (s.eraseKey cause 1).job1.key = none ∧
    (s.eraseKey cause 1).job0 = s.job0 := by
  have hcommit : ∀ l, Only 562949953421345 s (s.commit 0x0010 .firmware 0 0 0 l) := fun _ => only_commit _ _ _ _ _ _ rfl (only_refl _ s)
  refine ⟨?_, ?_, ?_⟩
  · unfold State.eraseKey
    dsimp only
    split
    · rfl
    · next h => exact Option.not_isSome_iff_eq_none.mp h
  · unfold State.eraseKey
    dsimp only
    split
    · rfl
    · next h => exact Option.not_isSome_iff_eq_none.mp h
  · unfold State.eraseKey
    dsimp only
    split
    · exact (hcommit _).job0 rfl
    · rfl

theorem keys_keptAndErased (s : State) (code : Nat) : (s.keptAndErased code).job0.key = none ∧ (s.keptAndErased code).job1.key = none ∧
    (s.keptAndErased code).fold.deviceKey = 0 := by
  unfold State.keptAndErased State.eraseKeys
  dsimp only
  generalize State.storeKeep _ _ _ _ _ _ = u
  obtain ⟨-, hone, hzero⟩ := key_eraseKey (u.eraseKey code 0) code
  exact ⟨by rw [hzero, (key_eraseKey u code).1], hone, rfl⟩

theorem halted_keptAndErased {code : Nat} {s : State} (h : Halted code s) (c : Nat) : Halted code (s.keptAndErased c) := by
  refine h.apart (regsOff_eraseKeys c (regsOff_storeKeep s _ _ _ _ _)) (by decide) (only_eraseKeys c rfl ?_)
  exact only_mono rfl (only_storeKeep_apart (by decide) s _ _ _ _)

theorem only_failedAll (s : State) : Only 78398662313265602577 s s.failedAll :=
  only_foldl (fun _ c hu => only_fail c.n _ _ _ _ _ rfl hu) _ (only_refl _ s)

theorem halted_failedAll {code : Nat} {s : State} (h : Halted code s) : Halted code s.failedAll := by
  refine h.apart (l := recordRegs (Code.SYS_DEVICE_FATAL / 256)) ?_ (by decide) (only_mono rfl (only_failedAll s))
  exact List.foldlRecOn (motive := RegsOff _ s) _ _ (regsOff_refl _ s) (fun _ hu c _ => regsOff_fail c.n _ (fun _ ha => ha) hu)

theorem done_failedAll (s : State) : ∀ c ∈ s.failedAll.host.cmds, c.done ≠ none := by
  intro c hc hopen
  obtain ⟨hnone, x, hx, hxn, hxd⟩ := open_fails hopen _ s hc
  exact hnone x (List.mem_filter.mpr ⟨hx, decide_eq_true hxd⟩) hxn

/-- A device-fatal event ends the run by its code (R484). -/
theorem deadBy_deviceFatal {s : State} (h : s.fatal = 0) (a : RecArg) (hpos : a.code ≠ 0) (hcode : a.code < 2 ^ 32) :
    (s.deviceFatal a).deadBy a.code := by
  rw [deviceFatal_eq h]
  have hkept := halted_keptAndErased (halted_fatalShown s hcode s.i3cByte) a.code
  obtain ⟨hkey0, hkey1, hdev⟩ := keys_keptAndErased ((s.fatalHeld a.code).stageStopped.fatalShown a s.i3cByte) a.code
  generalize State.keptAndErased _ _ = u at hkept hkey0 hkey1 hdev ⊢
  have hfail := only_failedAll u
  have hend := halted_failedAll hkept
  refine ⟨hend.fatal, hend.shown, hend.shaded, hend.held, by rw [hfail.job0 rfl, hkey0], by rw [hfail.job1 rfl, hkey1],
    by rw [hfail.fold rfl, hdev], ?_, hend.standstill, done_failedAll u⟩
  unfold State.shadeOut
  rw [hend.fatal, bne_iff_ne.mpr hpos]
  simp

/-- It leaves the stripes and the pixels as they are (R484). -/
theorem pixels_deviceFatal (s : State) (a : RecArg) :
    (s.deviceFatal a).stripes = s.stripes ∧ (s.deviceFatal a).tally = s.tally ∧ (s.deviceFatal a).hold = s.hold := by
  have ho : Only 115932239950887579697 s (s.deviceFatal a) := only_deviceFatal a rfl (only_refl _ s)
  exact ⟨ho.stripes rfl, ho.tally rfl, ho.hold rfl⟩

end Sys2Proof.Machine
end

section
/-! SUPPORT. Device-fatal causes, SerDes PLLs that lose lock, and the head of the error log (spec/10_hbm_memory.md). -/

namespace Sys2Proof.Machine

/-! ### The causes -/

section Causes

variable {s : State} (hboot : s.booted = true) (hpow : s.power ≠ .night)

include hboot hpow

theorem alive_of : s.alive = true := by
  unfold State.alive
  rw [hboot, decide_eq_true hpow]
  rfl

/-- A rail other than VDD_IO out of its window (R483, R647). -/
theorem exec_supplyExcursion_dies {n uv : Nat} (hlo : 1 ≤ n) (hhi : n ≤ 6) (hout : ¬ ((s.railWindow n).1 ≤ uv ∧ uv ≤ (s.railWindow n).2))
    (hnight : s.nightReady = false) : exec (.supplyExcursion n uv) s = .next (State.deviceFatal
      { s with rails := s.rails - Nat.land s.rails (2 ^ n) } { code := Code.SYS_SUPPLY, cls := 4, lk := 8, l0 := n }) := by
  show execSupplyExcursion n uv s = _
  unfold execSupplyExcursion
  rw [alive_of hboot hpow, hnight, if_neg, if_neg (by omega)]
  simp only [Bool.not_true, Bool.false_eq_true, false_or, not_or]
  exact ⟨by omega, hout⟩

theorem exec_sysClockLoss_dies : exec .sysClockLoss s =
    .next ((s.setFld R.CLK_PLL_LOCK 0 0 0).deviceFatal { code := Code.SYS_CLOCK_LOSS, cls := 4 }) := by
  show execSysClockLoss s = _
  unfold execSysClockLoss
  rw [alive_of hboot hpow]
  rfl

theorem exec_sysWatchdog_dies (hfw : s.fold.fwRuns = true) : exec .sysWatchdog s =
    .next (s.deviceFatal { code := Code.SYS_WATCHDOG, cls := 4 }) := by
  show execSysWatchdog s = _
  unfold execSysWatchdog
  rw [alive_of hboot hpow, hfw, if_neg (by decide)]

theorem exec_sysStateParity_dies {n : Nat} (hn : n ≤ 0x1C) : exec (.sysStateParity n) s =
    .next (s.deviceFatal { code := Code.SYS_STATE_PARITY, cls := 4, det := some n }) := by
  show execSysStateParity n s = _
  unfold execSysStateParity
  rw [alive_of hboot hpow, if_neg (by simp only [Bool.not_true, Bool.false_eq_true, false_or]; omega)]

end Causes

theorem exec_hbmStackFault_dies {s : State} {n : Nat} (hboot : s.booted = true) (hday : s.power = .day) (hn : n ≤ 3) :
    exec (.hbmStackFault n) s = .next (s.deviceFatal { code := (0x16 + n) * 256 + 0x4E, cls := 4 }) := by
  show execHbmStackFault n s = _
  unfold execHbmStackFault
  rw [hday, hboot, if_neg]
  simp only [ne_eq, not_true_eq_false, Bool.not_true, Bool.false_eq_true, or_self, or_false]
  omega

/-- The event of such a cause ends the run and leaves the pixels, where it meets a state whose pixels are those of s (R484). -/
theorem dies_deviceFatal {s u : State} {a : RecArg} {c : Instr} (hexec : exec c s = .next (u.deviceFatal a)) (hu : Only 1025 s u)
    (hf : s.fatal = 0) (hpos : a.code ≠ 0) (hcode : a.code < 2 ^ 32) :
    ∃ t, exec c s = .next t ∧ t.deadBy a.code ∧ t.stripes = s.stripes ∧ t.tally = s.tally ∧ t.hold = s.hold := by
  obtain ⟨hstripes, htally, hhold⟩ := pixels_deviceFatal u a
  exact ⟨_, hexec, deadBy_deviceFatal ((hu.fatal rfl).trans hf) a hpos hcode, hstripes.trans (hu.stripes rfl), htally.trans (hu.tally rfl),
    hhold.trans (hu.hold rfl)⟩

/-! ### Ports stand through records and containments -/

theorem ports_floodContain (s : State) (cause : Nat) : (s.floodContain cause).ivdon.ports = s.ivdon.ports := by
  unfold State.floodContain
  split
  · unfold State.flood
    dsimp only
    rw [(only_sendOn (mm := 73786976294838206464) _ _ rfl (only_refl _ _)).ivdon rfl]
  · rfl

theorem ports_enterContained (s : State) (x : Stripe) (a : RecArg) (now : Bool) (h : Int) :
    (s.enterContained x a now h).ivdon.ports = s.ivdon.ports := by
  unfold State.enterContained
  dsimp only
  generalize hu : State.modStripe _ _ _ = u
  have hheld : Only 292842062170139131903 s u := by
    rw [← hu]
    exact only_modStripe _ _ rfl (only_recordRaw _ rfl (only_refl _ s))
  have hshade : Only 292842062170139131903 s (((u.droverTo 5).shadeOn now).allLanes 0x55 (lowBits 24 (x.flashBase + h)) |>.dropAfter x h) :=
    only_dropAfter _ _ rfl (only_allLanes _ _ rfl (only_shadeOn _ rfl (only_droverTo _ rfl hheld)))
  generalize State.dropAfter _ _ _ = v at hshade ⊢
  have hregs : Only 292842062170139131903 s (((v.setFld R.SYS_CKPT_STATE 3 0 1).wr R.SYS_CKPT_HELD (lowBits 32 h)).wr64 R.DROVER_HELD_L
      v.drover.lastIndex) :=
    only_wr _ _ rfl (only_wr _ _ rfl (only_wr _ _ rfl (only_setFld _ _ _ _ rfl hshade)))
  generalize State.wr64 _ _ _ = w at hregs ⊢
  rw [(only_showStripes (mm := 1) rfl (only_refl _ _)).ivdon rfl, ports_floodContain]
  exact congrArg Ivdon.ports (hregs.ivdon rfl)

theorem ports_containAt (s : State) (a : RecArg) (now : Bool) (h : Int) : (s.containAt a now h).ivdon.ports = s.ivdon.ports := by
  have hnow : Only 292842062170139131903 s (if now then s.shadeOn true else s) := only_ite (only_shadeOn _ rfl (only_refl _ s)) (only_refl _ s)
  have hraw : ∀ (u : State) (b : RecArg), Only 292842062170139131903 s u → (u.recordRaw b).ivdon.ports = s.ivdon.ports := fun u b hu =>
    congrArg Ivdon.ports ((only_recordRaw b rfl hu).ivdon rfl)
  unfold State.containAt
  split
  · exact hraw s _ (only_refl _ s)
  · next x _ =>
    dsimp only
    generalize (if now then s.shadeOn true else s) = u at hnow ⊢
    split
    · split
      · generalize hw : State.setFld _ R.SYS_CKPT_STATE 3 0 1 = w
        have hw' : Only 292842062170139131903 s w := by
          rw [← hw]
          exact only_setFld _ _ _ _ rfl (only_dropAfter _ _ rfl (only_allLanes _ _ rfl (only_shadeOn _ rfl (only_droverTo _ rfl
            (only_modStripe x _ rfl (only_recordRaw _ rfl hnow))))))
        exact congrArg Ivdon.ports (hw'.ivdon rfl)
      · exact hraw u _ hnow
    · exact ports_enterContained s x a now h

theorem ports_record (s : State) (a : RecArg) : (s.record a).ivdon.ports = s.ivdon.ports := by
  have hself := only_recordRaw (mm := 292842062170139131903) a rfl (only_refl _ s)
  unfold State.record
  dsimp only
  split
  · exact (ports_containAt _ _ _ _).trans (congrArg Ivdon.ports (hself.ivdon rfl))
  · exact congrArg Ivdon.ports (hself.ivdon rfl)

theorem ports_conflict (s : State) (f : LinkFrame) : (s.conflict f).ivdon.ports = s.ivdon.ports := by
  have hchain : ∀ (u : State) (hi det : Nat) (a : RecArg), (u.chain hi det a).ivdon.ports = u.ivdon.ports := fun u _ _ _ => ports_record _ _
  unfold State.conflict
  rw [ports_record]
  split
  · rfl
  · unfold State.cutFrame State.cutMark
    show (State.record _ _).ivdon.ports = _
    rw [ports_record]
    show (State.ivdon (ite _ _ _)).ports = _
    split
    · exact hchain _ _ _ _
    · rfl

theorem ports_laneDown (s : State) (l : Nat) : (s.laneDown l).ivdon.ports = s.ivdon.ports := by
  unfold State.laneDown
  dsimp only
  split
  · rfl
  · rw [ports_record]
    exact List.foldlRecOn (motive := fun u : State => u.ivdon.ports = s.ivdon.ports) _ _ rfl (fun u hu f _ => (ports_conflict u f).trans hu)

/-! ### A SerDes PLL that loses lock -/

/-- A lane that a lost PLL takes down: in service, in low-power idle or in training (R232, R509). -/
def Lane.running (x : Lane) : Prop := x.up = true ∨ x.st = 8 ∨ (1 ≤ x.st ∧ x.st ≤ 5)

/-- A lane that has gone down. -/
def Lane.isDown (x : Lane) : Prop := x.st = 0 ∧ x.wentDown = true

theorem isDown_of_core {x y : Lane} (h : y.core = x.core) (hx : x.isDown) : y.isDown :=
  ⟨(congrArg Lane.st h :).trans hx.1, (congrArg Lane.wentDown h :).trans hx.2⟩

/-- A lost PLL takes a running lane down, and leaves the others (R509). -/
theorem pllLane_cases (s : State) (l : Nat) : (((s.lane l).running → ((s.pllLane l).lane l).isDown) ∧
    (¬ (s.lane l).running → s.pllLane l = s)) ∧ (∀ j, j ≠ l → ((s.pllLane l).lane j).core = (s.lane j).core) ∧
    (s.pllLane l).ivdon.ports = s.ivdon.ports := by
  unfold State.pllLane Lane.running
  dsimp only
  by_cases hup : (s.lane l).up = true
  · have hlane := lane_laneDown (s := s) (l := l) (.inl hup)
    rw [if_pos hup]
    refine ⟨⟨fun _ => isDown_of_core ((hlane l).trans (if_pos rfl)) ⟨rfl, rfl⟩, fun h => absurd (.inl hup) h⟩,
      fun j hj => (hlane j).trans (if_neg (Ne.symm hj)), ports_laneDown s l⟩
  · rw [if_neg hup]
    by_cases hst : (s.lane l).st = 8 ∨ 1 ≤ (s.lane l).st ∧ (s.lane l).st ≤ 5
    · rw [if_pos hst]
      refine ⟨⟨fun _ => ?_, fun h => absurd (.inr hst) h⟩, fun j hj => by rw [lane_setLane_other s _ hj], rfl⟩
      rw [lane_setLane_same]
      exact ⟨rfl, rfl⟩
    · rw [if_neg hst]
      exact ⟨⟨fun h => absurd h (not_or.mpr ⟨hup, hst⟩), fun _ => rfl⟩, fun _ _ => rfl, rfl⟩

/-- The lanes of a lost PLL. -/
def State.pllLanes (s : State) (lanes : List Nat) : State := lanes.foldl State.pllLane s

theorem isDown_pllLanes {l : Nat} (lanes : List Nat) : ∀ s : State, (s.lane l).isDown ∨ (l ∈ lanes ∧ (s.lane l).running) →
    ((s.pllLanes lanes).lane l).isDown := by
  induction lanes with
  | nil => exact fun s h => h.elim id (fun h => absurd h.1 List.not_mem_nil)
  | cons k lanes ih =>
    intro s h
    obtain ⟨⟨hruns, hrest⟩, hother, -⟩ := pllLane_cases s k
    refine ih (s.pllLane k) ?_
    by_cases hk : l = k
    · subst hk
      by_cases hr : (s.lane l).running
      · exact .inl (hruns hr)
      · rw [hrest hr]
        exact h.imp_right (fun h => absurd h.2 hr)
    · rcases h with hdown | ⟨hm, hr⟩
      · exact .inl (isDown_of_core (hother l hk) hdown)
      · refine .inr ⟨(List.mem_cons.mp hm).resolve_left hk, ?_⟩
        have hst : ((s.pllLane k).lane l).st = (s.lane l).st := (congrArg Lane.st (hother l hk) :)
        unfold Lane.running Lane.up at hr ⊢
        rwa [hst]

theorem pllLanes_leaves (lanes : List Nat) : ∀ s : State, (s.pllLanes lanes).ivdon.ports = s.ivdon.ports ∧
    ∀ l, l ∉ lanes → ((s.pllLanes lanes).lane l).core = (s.lane l).core := by
  induction lanes with
  | nil => exact fun s => ⟨rfl, fun _ _ => rfl⟩
  | cons k lanes ih =>
    intro s
    obtain ⟨-, hother, hports⟩ := pllLane_cases s k
    obtain ⟨hp, hl⟩ := ih (s.pllLane k)
    exact ⟨hp.trans hports, fun l hm => (hl l (fun h => hm (List.mem_cons_of_mem _ h))).trans
      (hother l (fun h => hm (h ▸ List.mem_cons_self)))⟩

/-- A port that has gone down to train again (R598). -/
def Port.isDown (p : Port) : Prop := p.st = 1 ∧ p.relay = false

theorem port_portDown (s : State) (i j : Nat) : (s.portDown i).port j = if i = j ∧ (s.port i).carries = true then
    { s.port i with st := 1, relay := false, downs := satAdd 65535 (s.port i).downs 1 } else s.port j := by
  unfold State.portDown
  dsimp only
  by_cases hc : (s.port i).carries = true
  · rw [hc, if_neg (by decide)]
    unfold State.port
    rw [ports_record]
    unfold State.setPort
    dsimp only
    rw [kget_kset]
    by_cases hij : i = j
    · rw [if_pos hij, if_pos ⟨hij, rfl⟩]
    · rw [if_neg hij, if_neg (fun h => hij h.1)]
  · rw [if_pos (by simpa using hc), if_neg (fun h => hc h.2)]

theorem stands_portDown (s : State) (i : Nat) : Stands false s (s.portDown i) := by
  unfold State.portDown
  dsimp only
  refine stands_ite (stands_refl false s) (stands_record _ ?_)
  exact stands_quiet (only_setPort _ _ rfl (only_refl _ s)) (stands_refl false s)

/-- The ports of a lost PLL. -/
def State.pllPorts (s : State) (ports : List Nat) : State := ports.foldl State.portDown s

theorem stands_pllPorts (s : State) (ports : List Nat) : Stands false s (s.pllPorts ports) :=
  stands_foldl _ (fun u i hu => hu.trans (stands_portDown u i)) ports (stands_refl false s)

theorem isDown_pllPorts {p : Nat} (ports : List Nat) : ∀ s : State, (s.port p).isDown ∨ (p ∈ ports ∧ (s.port p).carries = true) →
    ((s.pllPorts ports).port p).isDown := by
  induction ports with
  | nil => exact fun s h => h.elim id (fun h => absurd h.1 List.not_mem_nil)
  | cons k ports ih =>
    intro s h
    refine ih (s.portDown k) ?_
    rw [port_portDown]
    by_cases hk : k = p ∧ (s.port k).carries = true
    · rw [if_pos hk]
      exact .inl ⟨rfl, rfl⟩
    · rw [if_neg hk]
      refine h.imp_right (fun ⟨hm, hc⟩ => ⟨(List.mem_cons.mp hm).resolve_left (fun e => ?_), hc⟩)
      exact hk ⟨e.symm, e ▸ hc⟩

theorem port_pllPorts_other {p : Nat} (ports : List Nat) : ∀ s : State, p ∉ ports → (s.pllPorts ports).port p = s.port p := by
  induction ports with
  | nil => exact fun s _ => rfl
  | cons k ports ih =>
    intro s h
    refine (ih (s.portDown k) (fun hm => h (List.mem_cons_of_mem _ hm))).trans ?_
    rw [port_portDown, if_neg (fun hk : k = p ∧ _ => h (hk.1 ▸ List.mem_cons_self))]

theorem exec_serdesPllUnlock {s : State} (hboot : s.booted = true) (hpow : s.power ≠ .night) (hf : s.fatal = 0) (lanes ports : List Nat) :
    exec (.serdesPllUnlock lanes ports) s = .next ((s.pllLanes (lanes.filter (· < 64))).pllPorts (ports.filter (· < 4))) := by
  show execSerdesPllUnlock lanes ports s = _
  unfold execSerdesPllUnlock
  rw [alive_of hboot hpow, hf]
  rfl

/-- A lost PLL takes its lanes and ports down, and no others (R509). -/
theorem serdesPllUnlock_downs {s : State} (hboot : s.booted = true) (hpow : s.power ≠ .night) (hf : s.fatal = 0) (lanes ports : List Nat) :
    ∃ t, exec (.serdesPllUnlock lanes ports) s = .next t ∧ (∀ l ∈ lanes, l ≤ 63 → (s.lane l).running → (t.lane l).isDown) ∧
      (∀ l, l ∉ lanes → (t.lane l).st = (s.lane l).st) ∧ (∀ p ∈ ports, p ≤ 3 → (s.port p).carries = true → (t.port p).isDown) ∧
      ∀ p, p ∉ ports → t.port p = s.port p := by
  refine ⟨_, exec_serdesPllUnlock hboot hpow hf lanes ports, ?_⟩
  obtain ⟨hports, hother⟩ := pllLanes_leaves (lanes.filter (· < 64)) s
  have hdown := fun l => isDown_pllLanes (l := l) (lanes.filter (· < 64)) s
  generalize s.pllLanes (lanes.filter (· < 64)) = u at hports hother hdown ⊢
  have hcore := (stands_pllPorts u (ports.filter (· < 4))).lanes
  have hport : ∀ p, u.port p = s.port p := fun p => by
    unfold State.port
    rw [hports]
  refine ⟨fun l hm hl hr => ?_, fun l hm => ?_, fun p hm hp hc => ?_, fun p hm => ?_⟩
  · exact isDown_of_core (hcore l) (hdown l (.inr ⟨List.mem_filter.mpr ⟨hm, decide_eq_true (by omega)⟩, hr⟩))
  · exact (congrArg Lane.st ((hcore l).trans (hother l (fun h => hm (List.mem_filter.mp h).1))) :)
  · refine isDown_pllPorts _ u (.inr ⟨List.mem_filter.mpr ⟨hm, decide_eq_true (by omega)⟩, ?_⟩)
    rw [hport p, hc]
  · rw [port_pllPorts_other _ u (fun h => hm (List.mem_filter.mp h).1), hport p]

/-! ### The head of the error log -/

theorem newValue_errlogHead (old v : Nat) : newValue R.SYS_ERRLOG_HEAD old v % 2 ^ 14 = v % 2 ^ 14 := by
  have hrows : rowsOf R.SYS_ERRLOG_HEAD = [⟨0x200, 0x3FFF, .rw, 0, false⟩] := by decide
  have hset : newValue R.SYS_ERRLOG_HEAD old v = (old - (old &&& 2 ^ 14 - 1)) ||| (v &&& 2 ^ 14 - 1) := by
    unfold newValue
    rw [hrows]
    rfl
  have hhigh : old - old % 2 ^ 14 = 2 ^ 14 * (old / 2 ^ 14) := by omega
  rw [hset, Nat.and_two_pow_sub_one_eq_mod, Nat.and_two_pow_sub_one_eq_mod, hhigh, ← Nat.two_pow_add_eq_or_of_lt (Nat.mod_lt _ (by decide))]
  omega

/-- The head as a write leaves it (R459). -/
theorem head_applyWrite {s : State} (o : Origin) {v : Nat} (hfull : s.auditFull = false) (hv : v < 2 ^ 32) :
    Only 4612248968380809249 s (s.applyWrite o R.SYS_ERRLOG_HEAD v) ∧
      (s.applyWrite o R.SYS_ERRLOG_HEAD v).fld R.SYS_ERRLOG_HEAD 13 0 = fieldOf v 13 0 := by
  have hgroup : groupOf R.SYS_ERRLOG_HEAD = none := by decide
  have hnew : newValue R.SYS_ERRLOG_HEAD (s.rd R.SYS_ERRLOG_HEAD) v < 2 ^ 32 := newValue_lt _ _ _ (rd_lt _) hv
  unfold State.applyWrite
  rw [hgroup]
  refine ⟨only_setReg_room o _ _ hfull, ?_⟩
  unfold State.fld
  rw [rd_setReg o _ _ hfull hnew]
  exact newValue_errlogHead _ v

/-- A head within the entries in use releases those before it (R459). -/
theorem errlogHead_releases {o : Origin} {v : Nat} {s : State} (hp : s.permit o R.SYS_ERRLOG_HEAD v = .ok s) (hfull : s.auditFull = false)
    (hv : v < 2 ^ 32) {n : Nat} (hn : n = (fieldOf v 13 0 + 16384 - s.fld R.SYS_ERRLOG_HEAD 13 0) % 16384) (hused : n ≤ s.log.used) :
    ∃ t, exec (.errlogHead o v) s = .next t ∧
      t = { s with regs := t.regs, audit := t.audit, bells := t.bells, log := t.log, trace := t.trace } ∧
      t.fld R.SYS_ERRLOG_HEAD 13 0 = fieldOf v 13 0 ∧ t.log.used = s.log.used - n ∧ t.log.recs = s.log.recs ∧
      t.rd R.SYS_ERRLOG_FREE = 16384 - (s.log.used - n) := by
  obtain ⟨honly, hhead⟩ := head_applyWrite o hfull hv
  have hexec : exec (.errlogHead o v) s = .next ((s.applyWrite o R.SYS_ERRLOG_HEAD v).releaseLog n) := by
    show execErrlogHead o v s = _
    unfold execErrlogHead
    rw [hp]
    dsimp only
    rw [← hn, if_neg (by omega), if_pos hhead]
  have hlog : (s.applyWrite o R.SYS_ERRLOG_HEAD v).log = s.log := honly.log rfl
  generalize s.applyWrite o R.SYS_ERRLOG_HEAD v = u at honly hhead hexec hlog
  have hall : Only 4612248968380809265 s (u.releaseLog n) := only_releaseLog n rfl (only_mono rfl honly)
  refine ⟨_, hexec, hall.eq_takes, ?_, ?_, ?_, ?_⟩
  · rw [← hhead]
    unfold State.fld State.releaseLog
    dsimp only
    rw [rd_wr_other _ (by decide)]
    rfl
  · show u.log.used - n = _
    rw [hlog]
  · show u.log.recs = _
    rw [hlog]
  · unfold State.releaseLog
    dsimp only
    rw [rd_wr_same _ _ (by omega), hlog]

/-- One beyond them is refused (R459). -/
theorem errlogHead_refused {o : Origin} {v : Nat} {s : State} (hp : s.permit o R.SYS_ERRLOG_HEAD v = .ok s)
    (hused : s.log.used < (fieldOf v 13 0 + 16384 - s.fld R.SYS_ERRLOG_HEAD 13 0) % 16384) (hroom : 256 < s.logFree) :
    ∃ t, exec (.errlogHead o v) s = .next t ∧ t.newest (Code.REG_VALUE_RANGE 0) 7 6 0 0x200 v ∧
      t.rd R.SYS_ERRLOG_HEAD = s.rd R.SYS_ERRLOG_HEAD := by
  have hexec : exec (.errlogHead o v) s = .next (s.refuse o (Code.REG_VALUE_RANGE 0) R.SYS_ERRLOG_HEAD v) := by
    show execErrlogHead o v s = _
    unfold execErrlogHead
    rw [hp]
    dsimp only
    rw [if_pos hused]
  obtain ⟨hregs, hnewest, -⟩ := noted_refuse o (Code.REG_VALUE_RANGE 0) R.SYS_ERRLOG_HEAD v hroom
  exact ⟨_, hexec, hnewest, hregs _ (by decide)⟩

/-! ### The statement -/

/-- Settles O44: each device-fatal cause is a `deviceFatal` event, which halts the run, keeps its record, erases the keys and fails every
command; a lost PLL is a fold over its lanes and its ports; the head's write is `releaseLog`, or `refuse`. -/
theorem deviceFatalEnds : Obligations.DeviceFatalEnds := by
  unfold Obligations.DeviceFatalEnds
  refine ⟨fun c code n uv s _ hboot hpow hf hcause => ?_, fun lanes ports s hboot hpow hf => serdesPllUnlock_downs hboot hpow hf lanes ports,
    fun o v s hp hfull hv => ⟨errlogHead_releases hp hfull hv rfl, errlogHead_refused hp⟩⟩
  rcases hcause with ⟨rfl, hlo, hhi, hout, hnight, rfl⟩ | ⟨rfl, rfl⟩ | ⟨rfl, hfw, rfl⟩ | ⟨rfl, hn, rfl⟩ | ⟨rfl, hn, hday, rfl⟩
  · exact dies_deviceFatal (exec_supplyExcursion_dies hboot hpow hlo hhi hout hnight) (only_put1024 rfl (only_refl _ s)) hf
      (by decide : Code.SYS_SUPPLY ≠ 0) (by decide : Code.SYS_SUPPLY < 2 ^ 32)
  · exact dies_deviceFatal (exec_sysClockLoss_dies hboot hpow) (only_setFld _ _ _ _ rfl (only_refl _ s)) hf (by decide : Code.SYS_CLOCK_LOSS ≠ 0)
      (by decide)
  · exact dies_deviceFatal (exec_sysWatchdog_dies hboot hpow hfw) (only_refl _ s) hf (by decide : Code.SYS_WATCHDOG ≠ 0)
      (by decide)
  · exact dies_deviceFatal (exec_sysStateParity_dies hboot hpow hn) (only_refl _ s) hf (by decide : Code.SYS_STATE_PARITY ≠ 0)
      (by decide : Code.SYS_STATE_PARITY < 2 ^ 32)
  · exact dies_deviceFatal (exec_hbmStackFault_dies hboot hday hn) (only_refl _ s) hf (Nat.ne_of_gt (Nat.add_pos_right _ (by decide)))
      (show (0x16 + n) * 256 + 0x4E < 2 ^ 32 by omega)

end Sys2Proof.Machine
end

section
/-! SUPPORT. The retirement of a rank while a copy of its bell word is dead and the error log is nearly full (spec/10_hbm_memory.md). -/

namespace Sys2Proof.Machine

namespace Worn

/-- Copy 2 of the rank-retirement word no longer verifies (R383), and the error log has 257 free entries, one more than the room that
records of CLASS 0, 1 and 7 leave (R465). -/
def state : State := { booted := true, fold := { fwRuns := true }, log := { used := 16127 }, bellDead := [(5, 2)] }

/-- The Owner may retire rank 3. -/
theorem permit_eq : state.permit .owner R.HBM0_RETIRE 3 = .ok state := by
  have hoff : ¬ (state.power = .night ∨ (!state.booted) = true ∨ (!state.fold.fwRuns) = true ∧ Origin.owner ≠ .firmware) := by decide
  have hlive : ¬ (state.fatal ≠ 0 ∧ R.HBM0_RETIRE ≠ R.SYS_DEVICE_RESET) := by decide
  have hwritable : writable R.HBM0_RETIRE = true := by decide
  have hrole : roleOkValue .owner R.HBM0_RETIRE 3 = true := by decide
  have hlock : state.lockOk .owner R.HBM0_RETIRE = true := by decide +kernel
  have henabled : ¬ ((rowsOf R.HBM0_RETIRE).any (fun r => r.acc = .rwe) = true ∧ state.enabled (pageOf R.HBM0_RETIRE) = true) := by decide
  unfold State.permit
  rw [if_neg hoff, if_neg hlive, hwritable, hrole, hlock, if_neg (by decide), if_neg henabled]
  rfl

/-- The code of the newest record after a command. -/
def newestCode : Host.Outcome State Fault Refusal → Option Nat
  | .next t => t.log.recs.head?.map (·.code)
  | _ => none

/-- The report of the dead copy takes the last of that room, so that the migration's own record is only counted and the log is told
low (R383, R465). -/
theorem newestCode_retire : newestCode (exec (.retire .owner 3) state) = some Code.SYS_ERRLOG_LOW := by decide +kernel

end Worn

/-- Refutes O48: with copy 2 of bell word 5 dead and 257 entries of the error log free, the Owner's write of 3 to RETIRE begins the
migration, but writing the word records BELL_REWRITE first, so that HBM_RANK_RETIRING finds 256 entries free and is only counted: the
newest record is SYS_ERRLOG_LOW. -/
theorem not_memoryServes : ¬ Obligations.MemoryServes := by
  unfold Obligations.MemoryServes
  rintro ⟨-, -, -, hretire, -⟩
  obtain ⟨hstarts, -⟩ := hretire .owner 3 Worn.state Worn.permit_eq (by decide) (by decide)
  obtain ⟨t, hexec, -, -, ⟨r, hr, hcode, -⟩, -⟩ := hstarts (by decide) (by decide) (by decide)
  have hlow := Worn.newestCode_retire
  rw [hexec] at hlow
  change t.log.recs.head?.map (·.code) = _ at hlow
  rw [hr, Option.map_some, hcode] at hlow
  exact absurd hlow (by decide)

end Sys2Proof.Machine
end

section
/-! SUPPORT. What every command keeps and what it may change, command by command (spec/95_what_each_step_holds.md). -/

namespace Sys2Proof.Machine

/-- Every command keeps the invariant, the queue behind it, and what has left the block. -/
theorem keepsOut_exec {q : List Instr} {o : List Out} (c : Instr) {s : State} (hs : Keeps q o s) : KeepsOut q o (exec c s) := by
  cases c with
  | sqTailDoorbell q v => exact keeps_execSqTailDoorbell q v hs
  | cqHeadDoorbell q v => exact keeps_execCqHeadDoorbell q v hs
  | evqHeadDoorbell v => exact keeps_execEvqHeadDoorbell v hs
  | commandStart q entry ns => exact keeps_execCommandStart q entry ns hs
  | cqCoalesceTimeout q => exact keeps_execCqCoalesceTimeout q hs
  | jobOpen n => exact keeps_execJobOpen n hs
  | keyLoad n buf => exact keeps_execKeyLoad n buf hs
  | geomPush n buf reseal => exact keeps_execGeomPush n buf reseal hs
  | tableLoad n buf => exact keeps_execTableLoad n buf hs
  | stripeArm n copies glitch => exact keeps_execStripeArm n copies glitch hs
  | stripeArmResourcesFree n => exact keeps_execStripeArmResourcesFree n hs
  | stripeGo n => exact keeps_execStripeGo n hs
  | stripeTakesEffect smp => exact keeps_execStripeTakesEffect smp hs
  | stripeAbort n => exact keeps_execStripeAbort n hs
  | checkpoint n => exact keeps_execCheckpoint n hs
  | resume n smp reads bad => exact keeps_execResume n smp reads bad hs
  | patchPass n buf listUe => exact keeps_execPatchPass n buf listUe hs
  | flush n => exact keeps_execFlush n hs
  | fence n => exact keeps_execFence n hs
  | traceArm n => exact keeps_execTraceArm n hs
  | jobClose n => exact keeps_execJobClose n hs
  | cacheRead ctx slot block given space fault => exact keeps_execCacheRead ctx slot block given space fault hs
  | codecDecodeEnd ctx sram => exact keeps_execCodecDecodeEnd ctx sram hs
  | codecContextResume ctx given space part => exact keeps_execCodecContextResume ctx given space part hs
  | codecCompressDone ctx unit room ue sram => exact keeps_execCodecCompressDone ctx unit room ue sram hs
  | codecFlush ctx part => exact keeps_execCodecFlush ctx part hs
  | lanternWake => exact keeps_execLanternWake hs
  | tileDone pass id band col lane residue writeFails factorBad mapBad fogBad sram => exact keeps_execTileDone pass id band col lane residue writeFails factorBad mapBad fogBad sram hs
  | rerasterRequest pass id band col runs residue factorBad mapBad sram => exact keeps_execRerasterRequest pass id band col runs residue factorBad mapBad sram hs
  | prepassStart => exact keeps_execPrepassStart hs
  | prepassComplete lanes residueLanes residueUnits sram => exact keeps_execPrepassComplete lanes residueLanes residueUnits sram hs
  | fieldBandRead band badCrc badTag ues sram => exact keeps_execFieldBandRead band badCrc badTag ues sram hs
  | shareCycle late ns badEntry badShare badPack badWords sram fx => exact keeps_execShareCycle late ns badEntry badShare badPack badWords sram fx hs
  | exitCheck fx => exact keeps_execExitCheck fx hs
  | strayAdd o v => exact keeps_execStrayAdd o v hs
  | frameSend lane slack lateNs => exact keeps_execFrameSend lane slack lateNs hs
  | rxStatus msg copyBad slack => exact keeps_execRxStatus msg copyBad slack hs
  | rxStatusTimeout lane flash copyBad slack => exact keeps_execRxStatusTimeout lane flash copyBad slack hs
  | latch msg copyBad => exact keeps_execLatch msg copyBad hs
  | slotMiss msg => exact keeps_execSlotMiss msg hs
  | echo msg => exact keeps_execEcho msg hs
  | sensor msg => exact keeps_execSensor msg hs
  | blankerCaps msg => exact keeps_execBlankerCaps msg hs
  | blankerEvent msg => exact keeps_execBlankerEvent msg hs
  | flinkReportLate lane flash => exact keeps_execFlinkReportLate lane flash hs
  | reportAgainRetry lane flash => exact keeps_execReportAgainRetry lane flash hs
  | returnLaneLockLost q => exact keeps_execReturnLaneLockLost q hs
  | flinkSensorSilent n => exact keeps_execFlinkSensorSilent n hs
  | laneBlockLock lane order => exact keeps_execLaneBlockLock lane order hs
  | laneCapsDone lane => exact keeps_execLaneCapsDone lane hs
  | laneEyeMeasured lane w h => exact keeps_execLaneEyeMeasured lane w h hs
  | laneVerifyDone lane ok => exact keeps_execLaneVerifyDone lane ok hs
  | flinkTrainFail lane => exact keeps_execFlinkTrainFail lane hs
  | retrain o v => exact keeps_execRetrain o v hs
  | laneRetrainTurnaround lane => exact keeps_execLaneRetrainTurnaround lane hs
  | lpiEntry lane => exact keeps_execLpiEntry lane hs
  | laneEyeScan lane w h => exact keeps_execLaneEyeScan lane w h hs
  | flashFire smp sincePs => exact keeps_execFlashFire smp sincePs hs
  | flashConfirm flash => exact keeps_execFlashConfirm flash hs
  | droverOverspeed smp inWindow => exact keeps_execDroverOverspeed smp inWindow hs
  | positionLoss ch cause l => exact keeps_execPositionLoss ch cause l hs
  | encFreeze ch l => exact keeps_execEncFreeze ch l hs
  | encWordSilent ch l => exact keeps_execEncWordSilent ch l hs
  | encSerialWord ch bits l => exact keeps_execEncSerialWord ch bits l hs
  | encZEdge ch inp => exact keeps_execEncZEdge ch inp hs
  | detect o v => exact keeps_execDetect o v hs
  | detectDone modes loopNs => exact keeps_execDetectDone modes loopNs hs
  | stillEntry => exact keeps_execStillEntry hs
  | stillExit smp => exact keeps_execStillExit smp hs
  | rewindGuard smp => exact keeps_execRewindGuard smp hs
  | rewindExit smp => exact keeps_execRewindExit smp hs
  | deflSaturated => exact keeps_execDeflSaturated hs
  | sysrefEdge offBy => exact keeps_execSysrefEdge offBy hs
  | sysrefAbsent inWindow => exact keeps_execSysrefAbsent inWindow hs
  | jesdPllUnlock inWindow => exact keeps_execJesdPllUnlock inWindow hs
  | peerFault o v inWindow => exact keeps_execPeerFault o v inWindow hs
  | zoneBoundary smp => exact keeps_execZoneBoundary smp hs
  | deflOutputSample smp vel inWindow => exact keeps_execDeflOutputSample smp vel inWindow hs
  | jesdPllLock => exact keeps_execJesdPllLock hs
  | setpointFrame jy jx => exact keeps_execSetpointFrame jy jx hs
  | runupStart smp => exact keeps_execRunupStart smp hs
  | runoutStart => exact keeps_execRunoutStart hs
  | runEnd fits => exact keeps_execRunEnd fits hs
  | turnaroundStart => exact keeps_execTurnaroundStart hs
  | moveEnd => exact keeps_execMoveEnd hs
  | move o v => exact keeps_execMove o v hs
  | limitWrite o index v => exact keeps_execLimitWrite o index v hs
  | containSettled fx => exact keeps_execContainSettled fx hs
  | checkpointVerified fail => exact keeps_execCheckpointVerified fail hs
  | beamOff => exact keeps_execBeamOff hs
  | beamOffRelease => exact keeps_execBeamOffRelease hs
  | interlockLatchedClear o v => exact keeps_execInterlockLatchedClear o v hs
  | forceShade o v => exact keeps_execForceShade o v hs
  | deviceReset o v => exact keeps_execDeviceReset o v hs
  | pcieFundamentalReset => exact keeps_execPcieFundamentalReset hs
  | errlogHead o v => exact keeps_execErrlogHead o v hs
  | supplyExcursion rail uv => exact keeps_execSupplyExcursion rail uv hs
  | sysClockLoss => exact keeps_execSysClockLoss hs
  | serdesPllUnlock lanes ports => exact keeps_execSerdesPllUnlock lanes ports hs
  | sysWatchdog => exact keeps_execSysWatchdog hs
  | sysStateParity page => exact keeps_execSysStateParity page hs
  | hbmStackFault stack => exact keeps_execHbmStackFault stack hs
  | powerUp f => exact keeps_execPowerUp f hs
  | mainRailsLost => exact keeps_execMainRailsLost hs
  | powerReqDay o => exact keeps_execPowerReqDay o hs
  | powerReqDusk o => exact keeps_execPowerReqDusk o hs
  | powerReqNight o => exact keeps_execPowerReqNight o hs
  | duskEntry => exact keeps_execDuskEntry hs
  | duskWake cause us => exact keeps_execDuskWake cause us hs
  | nightEntry => exact keeps_execNightEntry hs
  | clockRequest page ns => exact keeps_execClockRequest page ns hs
  | clkIdleTimeout page => exact keeps_execClkIdleTimeout page hs
  | thermSample raw => exact keeps_execThermSample raw hs
  | thermLevelRise cls level => exact keeps_execThermLevelRise cls level hs
  | thermLevelFall cls level => exact keeps_execThermLevelFall cls level hs
  | thermSensorFailed n => exact keeps_execThermSensorFailed n hs
  | thermSensorRecovered n => exact keeps_execThermSensorRecovered n hs
  | thermAck o v => exact keeps_execThermAck o v hs
  | vbatLow => exact keeps_execVbatLow hs
  | avsbusTransferEnd ok => exact keeps_execAvsbusTransferEnd ok hs
  | refreshDue stack bank traffic => exact keeps_execRefreshDue stack bank traffic hs
  | nbrRefreshDue stack bank row => exact keeps_execNbrRefreshDue stack bank row hs
  | selfRefreshExit stack => exact keeps_execSelfRefreshExit stack hs
  | patrolScrub da ce ue recovered => exact keeps_execPatrolScrub da ce ue recovered hs
  | retire o v => exact keeps_execRetire o v hs
  | migrationSegment mismatches readUe => exact keeps_execMigrationSegment mismatches readUe hs
  | fill o v => exact keeps_execFill o v hs
  | fillDone bad => exact keeps_execFillDone bad hs
  | fenceMoveDone => exact keeps_execFenceMoveDone hs
  | bellVote found stuck => exact keeps_execBellVote found stuck hs
  | crcInit o e => exact keeps_execCrcInit o e hs
  | crcStart o e => exact keeps_execCrcStart o e hs
  | crcCheck o e => exact keeps_execCrcCheck o e hs
  | crcAbort o e => exact keeps_execCrcAbort o e hs
  | crcData o e v => exact keeps_execCrcData o e v hs
  | crcJobDone e data ue => exact keeps_execCrcJobDone e data ue hs
  | keepWrite o fails => exact keeps_execKeepWrite o fails hs
  | keepRead o => exact keeps_execKeepRead o hs
  | keepDailyCheck bad => exact keeps_execKeepDailyCheck bad hs
  | plannerHour pathMin eyes resid => exact keeps_execPlannerHour pathMin eyes resid hs
  | trendEntry tjAvg => exact keeps_execTrendEntry tjAvg hs
  | rebase o v => exact keeps_execRebase o v hs
  | regWrite page off v => exact keeps_execRegWrite page off v hs
  | regRead page off => exact keeps_execRegRead page off hs
  | attest nonce => exact keeps_execAttest nonce hs
  | certRead => exact keeps_execCertRead hs
  | fwStage off chunk => exact keeps_execFwStage off chunk hs
  | fwCommit => exact keeps_execFwCommit hs
  | fwSelect slot => exact keeps_execFwSelect slot hs
  | rollbackSet v => exact keeps_execRollbackSet v hs
  | debugChallenge => exact keeps_execDebugChallenge hs
  | debugUnlock sig => exact keeps_execDebugUnlock sig hs
  | ownerSet key sig => exact keeps_execOwnerSet key sig hs
  | keysvcSet key => exact keeps_execKeysvcSet key hs
  | serviceKeySet key => exact keeps_execServiceKeySet key hs
  | tamperClear => exact keeps_execTamperClear hs
  | extestWhileLocked => exact keeps_execExtestWhileLocked hs
  | tamperInput n => exact keeps_execTamperInput n hs
  | auditSign => exact keeps_execAuditSign hs
  | exportCmd o v => exact keeps_execExportCmd o v hs
  | auditExportReady => exact keeps_execAuditExportReady hs
  | exportAck o v => exact keeps_execExportAck o v hs
  | auditSignatureDone => exact keeps_execAuditSignatureDone hs
  | step o v => exact keeps_execStep o v hs
  | secondsRollover => exact keeps_execSecondsRollover hs
  | ptpSync offset delay errNs gm => exact keeps_execPtpSync offset delay errNs gm hs
  | timeGmLost => exact keeps_execTimeGmLost hs
  | hello port pkt => exact keeps_execHello port pkt hs
  | level port pkt => exact keeps_execLevel port pkt hs
  | ivdonWake port pkt => exact keeps_execIvdonWake port pkt hs
  | ready port pkt => exact keeps_execReady port pkt hs
  | epoch port pkt => exact keeps_execEpoch port pkt hs
  | contain port pkt => exact keeps_execContain port pkt hs
  | alive port pkt => exact keeps_execAlive port pkt hs
  | mgmt port pkt => exact keeps_execMgmt port pkt hs
  | groupReady => exact keeps_execGroupReady hs
  | ivdonGroupLost member => exact keeps_execIvdonGroupLost member hs
  | ivdonPortDown port => exact keeps_execIvdonPortDown port hs
  | ivdonPortTrained port rate result nb nbPort => exact keeps_execIvdonPortTrained port rate result nb nbPort hs
  | ivdonPortRetry port => exact keeps_execIvdonPortRetry port hs
  | ivdonLevelRise => exact keeps_execIvdonLevelRise hs
  | ivdonRetrain o v => exact keeps_execIvdonRetrain o v hs
  | gpioEvent pin rising => exact keeps_execGpioEvent pin rising hs
  | i3cStatus => exact keeps_execI3cStatus hs
  | i3cHottest => exact keeps_execI3cHottest hs
  | i3cWake v => exact keeps_execI3cWake v hs
  | i3cSupply => exact keeps_execI3cSupply hs
  | ctrlEnable o page v => exact keeps_execCtrlEnable o page v hs
  | ctrlDisable o page v => exact keeps_execCtrlDisable o page v hs
  | softReset o page v => exact keeps_execSoftReset o page v hs
  | errClear o page v => exact keeps_execErrClear o page v hs
  | irqPendClear o page v => exact keeps_execIrqPendClear o page v hs
  | lock o page v => exact keeps_execLock o page v hs
  | registerWrite o addr v bytes => exact keeps_execRegisterWrite o addr v bytes hs

/-- The fields of the state that a command may change, as a number whose bits stand for them (Laws/Only.lean). -/
def touches : Instr → Nat
  | .sqTailDoorbell .. => 117598008931784859921
  | .cqHeadDoorbell .. => 117598008931784859921
  | .evqHeadDoorbell .. => 117598008931784859921
  | .commandStart .. => 78398662313265602577
  | .cqCoalesceTimeout .. => 73786976294838214656
  | .jobOpen .. => 78398662313265782801
  | .keyLoad .. => 118240336752787386417
  | .geomPush .. => 118240336752787910705
  | .tableLoad .. => 78399229661852786737
  | .stripeArm .. => 118240547859028308017
  | .stripeArmResourcesFree .. => 78398664512293101569
  | .stripeGo .. => 78398662313269796881
  | .stripeTakesEffect .. => 118600906198943658035
  | .stripeAbort .. => 118240336753794019377
  | .checkpoint .. => 117598008931784859665
  | .resume .. => 118312675822808657969
  | .patchPass .. => 118240545934879551537
  | .flush .. => 73786976294839263232
  | .fence .. => 73786976294838214656
  | .traceArm .. => 78398662313265602577
  | .jobClose .. => 118240336752787386417
  | .cacheRead .. => 118240547859019919409
  | .codecDecodeEnd .. => 118312675821802025009
  | .codecContextResume .. => 118240336752787386417
  | .codecCompressDone .. => 118312886945214427185
  | .codecFlush .. => 118240336752787386417
  | .lanternWake => 4611686018427387905
  | .tileDone .. => 118601117354652135473
  | .rerasterRequest .. => 118600906248419602481
  | .prepassStart => 118240336752787386417
  | .prepassComplete .. => 118600906262378246193
  | .fieldBandRead .. => 118312885278763708465
  | .shareCycle .. => 118312675822741549105
  | .exitCheck .. => 118240336752787386417
  | .strayAdd .. => 117598008932791492625
  | .frameSend .. => 117598008931784859665
  | .rxStatus .. => 117598008931784859665
  | .rxStatusTimeout .. => 117598008931784859665
  | .latch .. => 117598008931784859665
  | .slotMiss .. => 117598008932791492625
  | .echo .. => 117598008931784859665
  | .sensor .. => 117598008931784859665
  | .blankerCaps .. => 117598008931784859665
  | .blankerEvent .. => 117598008931784859665
  | .flinkReportLate .. => 117598008931784859665
  | .reportAgainRetry .. => 117598008931784859665
  | .returnLaneLockLost .. => 117598008931784859665
  | .flinkSensorSilent .. => 117598008931784859665
  | .laneBlockLock .. => 117652052127313305617
  | .laneCapsDone .. => 117598008931784859665
  | .laneEyeMeasured .. => 117598008931784859665
  | .laneVerifyDone .. => 117733679870559395889
  | .flinkTrainFail .. => 117598008931784859665
  | .retrain .. => 117598008931784859665
  | .laneRetrainTurnaround .. => 73786978493861462016
  | .lpiEntry .. => 73786978493861462016
  | .laneEyeScan .. => 2199023255552
  | .flashFire .. => 118240336752787386417
  | .flashConfirm .. => 117598008931784859665
  | .droverOverspeed .. => 117598008931784859665
  | .positionLoss .. => 117598008931784859665
  | .encFreeze .. => 117598008931784859665
  | .encWordSilent .. => 117598008931784859665
  | .encSerialWord .. => 117598008931784859665
  | .encZEdge .. => 4398046511104
  | .detect .. => 117598008931784859665
  | .detectDone .. => 4398046511104
  | .stillEntry => 110680471039327076353
  | .stillExit .. => 117598008931784859665
  | .rewindGuard .. => 117598008931784859665
  | .rewindExit .. => 117598008931784859665
  | .deflSaturated => 117598008931784859665
  | .sysrefEdge .. => 117598008931784859665
  | .sysrefAbsent .. => 117598008931784859665
  | .jesdPllUnlock .. => 117598008931784859665
  | .peerFault .. => 117598571881738281013
  | .zoneBoundary .. => 117598008931784859665
  | .deflOutputSample .. => 117598008931784859665
  | .jesdPllLock => 4398046511104
  | .setpointFrame .. => 73786985090931228673
  | .runupStart .. => 117598008931784859665
  | .runoutStart => 117598008931784859665
  | .runEnd .. => 117733679870559395889
  | .turnaroundStart => 117598008931784859665
  | .moveEnd => 117598008931784859665
  | .move .. => 117598008931784859665
  | .limitWrite .. => 117598571881738281013
  | .containSettled .. => 118240336753794019377
  | .checkpointVerified .. => 136687292070168424497
  | .beamOff => 117598008931784861713
  | .beamOffRelease => 73786976294838208513
  | .interlockLatchedClear .. => 117598571881738281013
  | .forceShade .. => 117598571881738281013
  | .deviceReset .. => 119893140429997077503
  | .pcieFundamentalReset => 82999652282577974271
  | .errlogHead .. => 117598571881738281013
  | .supplyExcursion .. => 119902710579205240831
  | .sysClockLoss => 115932239950887579697
  | .serdesPllUnlock .. => 117598008931784859665
  | .sysWatchdog => 115932239950887579697
  | .sysStateParity .. => 115932239950887579697
  | .hbmStackFault .. => 115932239950887579697
  | .powerUp .. => 119758595184978621939
  | .mainRailsLost => 9212675987739768831
  | .powerReqDay .. => 117598571881738281265
  | .powerReqDusk .. => 117598571881738281265
  | .powerReqNight .. => 117598571881738281265
  | .duskEntry => 80709085887920603457
  | .duskWake .. => 117598079300529037649
  | .nightEntry => 81286109590177497953
  | .clockRequest .. => 117598008931784859665
  | .clkIdleTimeout .. => 4611686018427387905
  | .thermSample .. => 118084802311819894801
  | .thermLevelRise .. => 117598044116156948497
  | .thermLevelFall .. => 73787022474326573057
  | .thermSensorFailed .. => 117598061708342992913
  | .thermSensorRecovered .. => 117598061708342992913
  | .thermAck .. => 117598624658296414257
  | .vbatLow => 1
  | .avsbusTransferEnd .. => 116220470327039291441
  | .refreshDue .. => 70368744177664
  | .nbrRefreshDue .. => 70368744177665
  | .selfRefreshExit .. => 70368744177665
  | .patrolScrub .. => 118240545934871162929
  | .retire .. => 118240475566126985265
  | .migrationSegment .. => 118240545934871162929
  | .fill .. => 117598853356714991665
  | .fillDone .. => 118312675822655303729
  | .fenceMoveDone => 117733961345536106545
  | .bellVote .. => 118239208928731787313
  | .crcInit .. => 117602512531412230161
  | .crcStart .. => 117602512531412230161
  | .crcCheck .. => 117602512531412230161
  | .crcAbort .. => 117602512531412230161
  | .crcData .. => 117598008931784859665
  | .crcJobDone .. => 118317388603513172017
  | .keepWrite .. => 117950134127649890353
  | .keepRead .. => 117598008931784859665
  | .keepDailyCheck .. => 118526594879953367089
  | .plannerHour .. => 118022191721687818289
  | .trendEntry .. => 118021910246711107633
  | .rebase .. => 118022191721687818289
  | .regWrite .. => 119902710579205239807
  | .regRead .. => 118174469684088283161
  | .attest .. => 118174469684088283153
  | .certRead => 118174469684088283153
  | .fwStage .. => 118174469684088283153
  | .fwCommit => 118175032634041704497
  | .fwSelect .. => 118175032634041704497
  | .rollbackSet .. => 118240334828638629937
  | .debugChallenge => 118174469684088283153
  | .debugUnlock .. => 118240336752787386417
  | .ownerSet .. => 118174469684088283153
  | .keysvcSet .. => 118174469684088283153
  | .serviceKeySet .. => 118174469684088283153
  | .tamperClear => 118175032634041704497
  | .extestWhileLocked => 118240336752787386417
  | .tamperInput .. => 118240336752787386417
  | .auditSign => 32
  | .exportCmd .. => 117598008931784859697
  | .auditExportReady => 73786976294838206497
  | .exportAck .. => 117733679870559395889
  | .auditSignatureDone => 9570149208162337
  | .step .. => 118750930436391706641
  | .secondsRollover => 74939897799445053440
  | .ptpSync .. => 118751493386345127985
  | .timeGmLost => 117598008931784859665
  | .hello .. => 117598008931784859665
  | .level .. => 117598008931784859665
  | .ivdonWake .. => 117598008931784859921
  | .ready .. => 117598008931784859665
  | .epoch .. => 117598008931784859665
  | .contain .. => 117598008931784859665
  | .alive .. => 117598008931784859665
  | .mgmt .. => 117598008931784859665
  | .groupReady => 76092828100144922624
  | .ivdonGroupLost .. => 117598008931784859665
  | .ivdonPortDown .. => 117598008931784859665
  | .ivdonPortTrained .. => 117598008931784859665
  | .ivdonPortRetry .. => 2305843009213693952
  | .ivdonLevelRise => 2305843009213693952
  | .ivdonRetrain .. => 117598008931784859665
  | .gpioEvent .. => 83010348331692982273
  | .i3cStatus => 73786976294838206464
  | .i3cHottest => 73786976294838206464
  | .i3cWake .. => 257
  | .i3cSupply => 73786976294838206464
  | .ctrlEnable .. => 118756331237508390963
  | .ctrlDisable .. => 118756331237508390963
  | .softReset .. => 118756331237508390963
  | .errClear .. => 117598008931784859665
  | .irqPendClear .. => 117598008931784859665
  | .lock .. => 117598008931784859665
  | .registerWrite .. => 119902710579205239807

theorem sub_same (a : Nat) : sub a a = true := by
  unfold sub
  rw [show Nat.land a a = a from Nat.and_self a]
  exact beq_self_eq_true a

/-- A command changes no other. -/
theorem onlyOut_exec (c : Instr) (s : State) : OnlyOut (touches c) s (exec c s) := by
  cases c with
  | sqTailDoorbell q v => exact only_execSqTailDoorbell q v (sub_same _) (only_refl _ s)
  | cqHeadDoorbell q v => exact only_execCqHeadDoorbell q v (sub_same _) (only_refl _ s)
  | evqHeadDoorbell v => exact only_execEvqHeadDoorbell v (sub_same _) (only_refl _ s)
  | commandStart q entry ns => exact only_execCommandStart q entry ns (sub_same _) (only_refl _ s)
  | cqCoalesceTimeout q => exact only_execCqCoalesceTimeout q (sub_same _) (only_refl _ s)
  | jobOpen n => exact only_execJobOpen n (sub_same _) (only_refl _ s)
  | keyLoad n buf => exact only_execKeyLoad n buf (sub_same _) (only_refl _ s)
  | geomPush n buf reseal => exact only_execGeomPush n buf reseal (sub_same _) (only_refl _ s)
  | tableLoad n buf => exact only_execTableLoad n buf (sub_same _) (only_refl _ s)
  | stripeArm n copies glitch => exact only_execStripeArm n copies glitch (sub_same _) (only_refl _ s)
  | stripeArmResourcesFree n => exact only_execStripeArmResourcesFree n (sub_same _) (only_refl _ s)
  | stripeGo n => exact only_execStripeGo n (sub_same _) (only_refl _ s)
  | stripeTakesEffect smp => exact only_execStripeTakesEffect smp (sub_same _) (only_refl _ s)
  | stripeAbort n => exact only_execStripeAbort n (sub_same _) (only_refl _ s)
  | checkpoint n => exact only_execCheckpoint n (sub_same _) (only_refl _ s)
  | resume n smp reads bad => exact only_execResume n smp reads bad (sub_same _) (only_refl _ s)
  | patchPass n buf listUe => exact only_execPatchPass n buf listUe (sub_same _) (only_refl _ s)
  | flush n => exact only_execFlush n (sub_same _) (only_refl _ s)
  | fence n => exact only_execFence n (sub_same _) (only_refl _ s)
  | traceArm n => exact only_execTraceArm n (sub_same _) (only_refl _ s)
  | jobClose n => exact only_execJobClose n (sub_same _) (only_refl _ s)
  | cacheRead ctx slot block given space fault => exact only_execCacheRead ctx slot block given space fault (sub_same _) (only_refl _ s)
  | codecDecodeEnd ctx sram => exact only_execCodecDecodeEnd ctx sram (sub_same _) (only_refl _ s)
  | codecContextResume ctx given space part => exact only_execCodecContextResume ctx given space part (sub_same _) (only_refl _ s)
  | codecCompressDone ctx unit room ue sram => exact only_execCodecCompressDone ctx unit room ue sram (sub_same _) (only_refl _ s)
  | codecFlush ctx part => exact only_execCodecFlush ctx part (sub_same _) (only_refl _ s)
  | lanternWake => exact only_execLanternWake (sub_same _) (only_refl _ s)
  | tileDone pass id band col lane residue writeFails factorBad mapBad fogBad sram => exact only_execTileDone pass id band col lane residue writeFails factorBad mapBad fogBad sram (sub_same _) (only_refl _ s)
  | rerasterRequest pass id band col runs residue factorBad mapBad sram => exact only_execRerasterRequest pass id band col runs residue factorBad mapBad sram (sub_same _) (only_refl _ s)
  | prepassStart => exact only_execPrepassStart (sub_same _) (only_refl _ s)
  | prepassComplete lanes residueLanes residueUnits sram => exact only_execPrepassComplete lanes residueLanes residueUnits sram (sub_same _) (only_refl _ s)
  | fieldBandRead band badCrc badTag ues sram => exact only_execFieldBandRead band badCrc badTag ues sram (sub_same _) (only_refl _ s)
  | shareCycle late ns badEntry badShare badPack badWords sram fx => exact only_execShareCycle late ns badEntry badShare badPack badWords sram fx (sub_same _) (only_refl _ s)
  | exitCheck fx => exact only_execExitCheck fx (sub_same _) (only_refl _ s)
  | strayAdd o v => exact only_execStrayAdd o v (sub_same _) (only_refl _ s)
  | frameSend lane slack lateNs => exact only_execFrameSend lane slack lateNs (sub_same _) (only_refl _ s)
  | rxStatus msg copyBad slack => exact only_execRxStatus msg copyBad slack (sub_same _) (only_refl _ s)
  | rxStatusTimeout lane flash copyBad slack => exact only_execRxStatusTimeout lane flash copyBad slack (sub_same _) (only_refl _ s)
  | latch msg copyBad => exact only_execLatch msg copyBad (sub_same _) (only_refl _ s)
  | slotMiss msg => exact only_execSlotMiss msg (sub_same _) (only_refl _ s)
  | echo msg => exact only_execEcho msg (sub_same _) (only_refl _ s)
  | sensor msg => exact only_execSensor msg (sub_same _) (only_refl _ s)
  | blankerCaps msg => exact only_execBlankerCaps msg (sub_same _) (only_refl _ s)
  | blankerEvent msg => exact only_execBlankerEvent msg (sub_same _) (only_refl _ s)
  | flinkReportLate lane flash => exact only_execFlinkReportLate lane flash (sub_same _) (only_refl _ s)
  | reportAgainRetry lane flash => exact only_execReportAgainRetry lane flash (sub_same _) (only_refl _ s)
  | returnLaneLockLost q => exact only_execReturnLaneLockLost q (sub_same _) (only_refl _ s)
  | flinkSensorSilent n => exact only_execFlinkSensorSilent n (sub_same _) (only_refl _ s)
  | laneBlockLock lane order => exact only_execLaneBlockLock lane order (sub_same _) (only_refl _ s)
  | laneCapsDone lane => exact only_execLaneCapsDone lane (sub_same _) (only_refl _ s)
  | laneEyeMeasured lane w h => exact only_execLaneEyeMeasured lane w h (sub_same _) (only_refl _ s)
  | laneVerifyDone lane ok => exact only_execLaneVerifyDone lane ok (sub_same _) (only_refl _ s)
  | flinkTrainFail lane => exact only_execFlinkTrainFail lane (sub_same _) (only_refl _ s)
  | retrain o v => exact only_execRetrain o v (sub_same _) (only_refl _ s)
  | laneRetrainTurnaround lane => exact only_execLaneRetrainTurnaround lane (sub_same _) (only_refl _ s)
  | lpiEntry lane => exact only_execLpiEntry lane (sub_same _) (only_refl _ s)
  | laneEyeScan lane w h => exact only_execLaneEyeScan lane w h (sub_same _) (only_refl _ s)
  | flashFire smp sincePs => exact only_execFlashFire smp sincePs (sub_same _) (only_refl _ s)
  | flashConfirm flash => exact only_execFlashConfirm flash (sub_same _) (only_refl _ s)
  | droverOverspeed smp inWindow => exact only_execDroverOverspeed smp inWindow (sub_same _) (only_refl _ s)
  | positionLoss ch cause l => exact only_execPositionLoss ch cause l (sub_same _) (only_refl _ s)
  | encFreeze ch l => exact only_execEncFreeze ch l (sub_same _) (only_refl _ s)
  | encWordSilent ch l => exact only_execEncWordSilent ch l (sub_same _) (only_refl _ s)
  | encSerialWord ch bits l => exact only_execEncSerialWord ch bits l (sub_same _) (only_refl _ s)
  | encZEdge ch inp => exact only_execEncZEdge ch inp (sub_same _) (only_refl _ s)
  | detect o v => exact only_execDetect o v (sub_same _) (only_refl _ s)
  | detectDone modes loopNs => exact only_execDetectDone modes loopNs (sub_same _) (only_refl _ s)
  | stillEntry => exact only_execStillEntry (sub_same _) (only_refl _ s)
  | stillExit smp => exact only_execStillExit smp (sub_same _) (only_refl _ s)
  | rewindGuard smp => exact only_execRewindGuard smp (sub_same _) (only_refl _ s)
  | rewindExit smp => exact only_execRewindExit smp (sub_same _) (only_refl _ s)
  | deflSaturated => exact only_execDeflSaturated (sub_same _) (only_refl _ s)
  | sysrefEdge offBy => exact only_execSysrefEdge offBy (sub_same _) (only_refl _ s)
  | sysrefAbsent inWindow => exact only_execSysrefAbsent inWindow (sub_same _) (only_refl _ s)
  | jesdPllUnlock inWindow => exact only_execJesdPllUnlock inWindow (sub_same _) (only_refl _ s)
  | peerFault o v inWindow => exact only_execPeerFault o v inWindow (sub_same _) (only_refl _ s)
  | zoneBoundary smp => exact only_execZoneBoundary smp (sub_same _) (only_refl _ s)
  | deflOutputSample smp vel inWindow => exact only_execDeflOutputSample smp vel inWindow (sub_same _) (only_refl _ s)
  | jesdPllLock => exact only_execJesdPllLock (sub_same _) (only_refl _ s)
  | setpointFrame jy jx => exact only_execSetpointFrame jy jx (sub_same _) (only_refl _ s)
  | runupStart smp => exact only_execRunupStart smp (sub_same _) (only_refl _ s)
  | runoutStart => exact only_execRunoutStart (sub_same _) (only_refl _ s)
  | runEnd fits => exact only_execRunEnd fits (sub_same _) (only_refl _ s)
  | turnaroundStart => exact only_execTurnaroundStart (sub_same _) (only_refl _ s)
  | moveEnd => exact only_execMoveEnd (sub_same _) (only_refl _ s)
  | move o v => exact only_execMove o v (sub_same _) (only_refl _ s)
  | limitWrite o index v => exact only_execLimitWrite o index v (sub_same _) (only_refl _ s)
  | containSettled fx => exact only_execContainSettled fx (sub_same _) (only_refl _ s)
  | checkpointVerified fail => exact only_execCheckpointVerified fail (sub_same _) (only_refl _ s)
  | beamOff => exact only_execBeamOff (sub_same _) (only_refl _ s)
  | beamOffRelease => exact only_execBeamOffRelease (sub_same _) (only_refl _ s)
  | interlockLatchedClear o v => exact only_execInterlockLatchedClear o v (sub_same _) (only_refl _ s)
  | forceShade o v => exact only_execForceShade o v (sub_same _) (only_refl _ s)
  | deviceReset o v => exact only_execDeviceReset o v (sub_same _) (only_refl _ s)
  | pcieFundamentalReset => exact only_execPcieFundamentalReset (sub_same _) (only_refl _ s)
  | errlogHead o v => exact only_execErrlogHead o v (sub_same _) (only_refl _ s)
  | supplyExcursion rail uv => exact only_execSupplyExcursion rail uv (sub_same _) (only_refl _ s)
  | sysClockLoss => exact only_execSysClockLoss (sub_same _) (only_refl _ s)
  | serdesPllUnlock lanes ports => exact only_execSerdesPllUnlock lanes ports (sub_same _) (only_refl _ s)
  | sysWatchdog => exact only_execSysWatchdog (sub_same _) (only_refl _ s)
  | sysStateParity page => exact only_execSysStateParity page (sub_same _) (only_refl _ s)
  | hbmStackFault stack => exact only_execHbmStackFault stack (sub_same _) (only_refl _ s)
  | powerUp f => exact only_execPowerUp f (sub_same _) (only_refl _ s)
  | mainRailsLost => exact only_execMainRailsLost (sub_same _) (only_refl _ s)
  | powerReqDay o => exact only_execPowerReqDay o (sub_same _) (only_refl _ s)
  | powerReqDusk o => exact only_execPowerReqDusk o (sub_same _) (only_refl _ s)
  | powerReqNight o => exact only_execPowerReqNight o (sub_same _) (only_refl _ s)
  | duskEntry => exact only_execDuskEntry (sub_same _) (only_refl _ s)
  | duskWake cause us => exact only_execDuskWake cause us (sub_same _) (only_refl _ s)
  | nightEntry => exact only_execNightEntry (sub_same _) (only_refl _ s)
  | clockRequest page ns => exact only_execClockRequest page ns (sub_same _) (only_refl _ s)
  | clkIdleTimeout page => exact only_execClkIdleTimeout page (sub_same _) (only_refl _ s)
  | thermSample raw => exact only_execThermSample raw (sub_same _) (only_refl _ s)
  | thermLevelRise cls level => exact only_execThermLevelRise cls level (sub_same _) (only_refl _ s)
  | thermLevelFall cls level => exact only_execThermLevelFall cls level (sub_same _) (only_refl _ s)
  | thermSensorFailed n => exact only_execThermSensorFailed n (sub_same _) (only_refl _ s)
  | thermSensorRecovered n => exact only_execThermSensorRecovered n (sub_same _) (only_refl _ s)
  | thermAck o v => exact only_execThermAck o v (sub_same _) (only_refl _ s)
  | vbatLow => exact only_execVbatLow (sub_same _) (only_refl _ s)
  | avsbusTransferEnd ok => exact only_execAvsbusTransferEnd ok (sub_same _) (only_refl _ s)
  | refreshDue stack bank traffic => exact only_execRefreshDue stack bank traffic (sub_same _) (only_refl _ s)
  | nbrRefreshDue stack bank row => exact only_execNbrRefreshDue stack bank row (sub_same _) (only_refl _ s)
  | selfRefreshExit stack => exact only_execSelfRefreshExit stack (sub_same _) (only_refl _ s)
  | patrolScrub da ce ue recovered => exact only_execPatrolScrub da ce ue recovered (sub_same _) (only_refl _ s)
  | retire o v => exact only_execRetire o v (sub_same _) (only_refl _ s)
  | migrationSegment mismatches readUe => exact only_execMigrationSegment mismatches readUe (sub_same _) (only_refl _ s)
  | fill o v => exact only_execFill o v (sub_same _) (only_refl _ s)
  | fillDone bad => exact only_execFillDone bad (sub_same _) (only_refl _ s)
  | fenceMoveDone => exact only_execFenceMoveDone (sub_same _) (only_refl _ s)
  | bellVote found stuck => exact only_execBellVote found stuck (sub_same _) (only_refl _ s)
  | crcInit o e => exact only_execCrcInit o e (sub_same _) (only_refl _ s)
  | crcStart o e => exact only_execCrcStart o e (sub_same _) (only_refl _ s)
  | crcCheck o e => exact only_execCrcCheck o e (sub_same _) (only_refl _ s)
  | crcAbort o e => exact only_execCrcAbort o e (sub_same _) (only_refl _ s)
  | crcData o e v => exact only_execCrcData o e v (sub_same _) (only_refl _ s)
  | crcJobDone e data ue => exact only_execCrcJobDone e data ue (sub_same _) (only_refl _ s)
  | keepWrite o fails => exact only_execKeepWrite o fails (sub_same _) (only_refl _ s)
  | keepRead o => exact only_execKeepRead o (sub_same _) (only_refl _ s)
  | keepDailyCheck bad => exact only_execKeepDailyCheck bad (sub_same _) (only_refl _ s)
  | plannerHour pathMin eyes resid => exact only_execPlannerHour pathMin eyes resid (sub_same _) (only_refl _ s)
  | trendEntry tjAvg => exact only_execTrendEntry tjAvg (sub_same _) (only_refl _ s)
  | rebase o v => exact only_execRebase o v (sub_same _) (only_refl _ s)
  | regWrite page off v => exact only_execRegWrite page off v (sub_same _) (only_refl _ s)
  | regRead page off => exact only_execRegRead page off (sub_same _) (only_refl _ s)
  | attest nonce => exact only_execAttest nonce (sub_same _) (only_refl _ s)
  | certRead => exact only_execCertRead (sub_same _) (only_refl _ s)
  | fwStage off chunk => exact only_execFwStage off chunk (sub_same _) (only_refl _ s)
  | fwCommit => exact only_execFwCommit (sub_same _) (only_refl _ s)
  | fwSelect slot => exact only_execFwSelect slot (sub_same _) (only_refl _ s)
  | rollbackSet v => exact only_execRollbackSet v (sub_same _) (only_refl _ s)
  | debugChallenge => exact only_execDebugChallenge (sub_same _) (only_refl _ s)
  | debugUnlock sig => exact only_execDebugUnlock sig (sub_same _) (only_refl _ s)
  | ownerSet key sig => exact only_execOwnerSet key sig (sub_same _) (only_refl _ s)
  | keysvcSet key => exact only_execKeysvcSet key (sub_same _) (only_refl _ s)
  | serviceKeySet key => exact only_execServiceKeySet key (sub_same _) (only_refl _ s)
  | tamperClear => exact only_execTamperClear (sub_same _) (only_refl _ s)
  | extestWhileLocked => exact only_execExtestWhileLocked (sub_same _) (only_refl _ s)
  | tamperInput n => exact only_execTamperInput n (sub_same _) (only_refl _ s)
  | auditSign => exact only_execAuditSign (sub_same _) (only_refl _ s)
  | exportCmd o v => exact only_execExportCmd o v (sub_same _) (only_refl _ s)
  | auditExportReady => exact only_execAuditExportReady (sub_same _) (only_refl _ s)
  | exportAck o v => exact only_execExportAck o v (sub_same _) (only_refl _ s)
  | auditSignatureDone => exact only_execAuditSignatureDone (sub_same _) (only_refl _ s)
  | step o v => exact only_execStep o v (sub_same _) (only_refl _ s)
  | secondsRollover => exact only_execSecondsRollover (sub_same _) (only_refl _ s)
  | ptpSync offset delay errNs gm => exact only_execPtpSync offset delay errNs gm (sub_same _) (only_refl _ s)
  | timeGmLost => exact only_execTimeGmLost (sub_same _) (only_refl _ s)
  | hello port pkt => exact only_execHello port pkt (sub_same _) (only_refl _ s)
  | level port pkt => exact only_execLevel port pkt (sub_same _) (only_refl _ s)
  | ivdonWake port pkt => exact only_execIvdonWake port pkt (sub_same _) (only_refl _ s)
  | ready port pkt => exact only_execReady port pkt (sub_same _) (only_refl _ s)
  | epoch port pkt => exact only_execEpoch port pkt (sub_same _) (only_refl _ s)
  | contain port pkt => exact only_execContain port pkt (sub_same _) (only_refl _ s)
  | alive port pkt => exact only_execAlive port pkt (sub_same _) (only_refl _ s)
  | mgmt port pkt => exact only_execMgmt port pkt (sub_same _) (only_refl _ s)
  | groupReady => exact only_execGroupReady (sub_same _) (only_refl _ s)
  | ivdonGroupLost member => exact only_execIvdonGroupLost member (sub_same _) (only_refl _ s)
  | ivdonPortDown port => exact only_execIvdonPortDown port (sub_same _) (only_refl _ s)
  | ivdonPortTrained port rate result nb nbPort => exact only_execIvdonPortTrained port rate result nb nbPort (sub_same _) (only_refl _ s)
  | ivdonPortRetry port => exact only_execIvdonPortRetry port (sub_same _) (only_refl _ s)
  | ivdonLevelRise => exact only_execIvdonLevelRise (sub_same _) (only_refl _ s)
  | ivdonRetrain o v => exact only_execIvdonRetrain o v (sub_same _) (only_refl _ s)
  | gpioEvent pin rising => exact only_execGpioEvent pin rising (sub_same _) (only_refl _ s)
  | i3cStatus => exact only_execI3cStatus (sub_same _) (only_refl _ s)
  | i3cHottest => exact only_execI3cHottest (sub_same _) (only_refl _ s)
  | i3cWake v => exact only_execI3cWake v (sub_same _) (only_refl _ s)
  | i3cSupply => exact only_execI3cSupply (sub_same _) (only_refl _ s)
  | ctrlEnable o page v => exact only_execCtrlEnable o page v (sub_same _) (only_refl _ s)
  | ctrlDisable o page v => exact only_execCtrlDisable o page v (sub_same _) (only_refl _ s)
  | softReset o page v => exact only_execSoftReset o page v (sub_same _) (only_refl _ s)
  | errClear o page v => exact only_execErrClear o page v (sub_same _) (only_refl _ s)
  | irqPendClear o page v => exact only_execIrqPendClear o page v (sub_same _) (only_refl _ s)
  | lock o page v => exact only_execLock o page v (sub_same _) (only_refl _ s)
  | registerWrite o addr v bytes => exact only_execRegisterWrite o addr v bytes (sub_same _) (only_refl _ s)

end Sys2Proof.Machine
end

section
/-! SUPPORT. Which commands change the power state, the pins, the pixel field and the maps (spec/15_power_thermal.md). -/

namespace Sys2Proof.Machine

theorem only_of_exec {c : Instr} {s t : State} (h : exec c s = .next t) : Only (touches c) s t := by
  have honly := onlyOut_exec c s
  rwa [h] at honly

theorem only_of_answer {m : Nat} {s t : State} {x : Host.Outcome State Fault Refusal} (honly : OnlyOut m s x) (h : x = .next t) :
    Only m s t := by
  rwa [h] at honly

/-- With the factor band sound nothing is made again (R169). -/
theorem remakeFactors_sound (s : State) (x : Stripe) (mapBad : Bool) (band : Nat) : s.remakeFactors x false mapBad band = s := rfl

/-- A tile done with its factor band sound leaves the maps (R125, R169). -/
theorem only_tileDone_sound {m : Nat} {s u : State} (x : Stripe) (band col lane : Nat) (residue : Bool) (writeFails : Nat) (mapBad : Bool)
    (hm : sub 118021910284292071473 m = true) (hs : Only m s u) : Only m s (u.tileDone x band col lane residue writeFails false mapBad) := by
  unfold State.tileDone
  simp only [remakeFactors_sound, ite_self]
  have hkept := only_inc R.LANTERN_TILES_DONE (sub_trans rfl hm) (only_putTile x band col
    ((u.tileWrites x band col (min writeFails 1024)).tileWords x (u.tileXs x band col)) (sub_trans rfl hm)
    (only_tileWrites x band col (min writeFails 1024) (sub_trans rfl hm) hs))
  exact only_ite (only_modStripe _ _ (sub_trans rfl hm) (only_rasterResidue _ (sub_trans rfl hm) hs))
    (only_lanternRest (sub_trans rfl hm) (only_bandDone _ (sub_trans rfl hm) (only_modStripe _ _ (sub_trans rfl hm)
      (only_ite (only_countClips _ _ (sub_trans rfl hm) hkept) hkept))))

theorem only_execTileDone_sound (pass id band col lane : Nat) (residue : Bool) (writeFails : Nat) (mapBad : Bool) (fogBad : Nat)
    (sram : List SramErr) (s : State) :
    OnlyOut 118601117341767233585 s (execTileDone pass id band col lane residue writeFails false mapBad fogBad sram s) := by
  unfold execTileDone
  cases s.tileStripe pass id with
  | none => exact only_refl _ s
  | some x =>
    refine onlyOut_ite (only_refl _ s) ?_
    cases s.tileError x with
    | some e => exact only_blockDamaged _ _ _ _ rfl (only_refl _ s)
    | none =>
      exact onlyOut_ite (only_readFog _ _ rfl (only_refl _ s)) (onlyOut_ite (only_sramErrs _ rfl (only_refl _ s))
        (only_sramErrs _ rfl (only_tileDone_sound _ _ _ _ _ _ _ rfl (only_readFog _ _ rfl (only_refl _ s)))))

/-- A tile formed again with its factor band sound leaves the maps (R132, R169). -/
theorem only_reraster_sound {m : Nat} {s u : State} (x : Stripe) (r : Nat × Nat × Nat) (runs : Runs) (residue : List Nat) (mapBad : Bool)
    (hm : sub 118021910284292071473 m = true) (hs : Only m s u) : Only m s (u.reraster x r runs residue false mapBad) := by
  unfold State.reraster
  simp only [remakeFactors_sound]
  have hrun := only_ite (c := x.pass = 0) (only_foldl (fun v l hv => only_rasterResidue l (sub_trans rfl hm) hv) residue hs) hs
  have hserved := only_modStripe x (fun t => { t with requests := t.requests.filter (fun q => ¬ (q.1 = r.1 ∧ q.2.1 = r.2.1)) })
    (sub_trans rfl hm) (only_inc R.LANTERN_RERASTER_REQ (sub_trans rfl hm) hrun)
  have hcounted := only_ite (c := runs = Runs.third ∨ runs = Runs.differ) (only_inc R.LANTERN_RERASTER_DISAGREE (sub_trans rfl hm) hserved)
    hserved
  exact only_lanternRest (sub_trans rfl hm) (only_ite (only_putTile _ _ _ _ (sub_trans rfl hm) hcounted)
    (only_modStripe _ _ (sub_trans rfl hm) hcounted))

theorem only_execRerasterRequest_sound (pass id band col : Nat) (runs : Runs) (residue : List Nat) (mapBad : Bool) (sram : List SramErr)
    (s : State) :
    OnlyOut 118600906235534700593 s (execRerasterRequest pass id band col runs residue false mapBad sram s) := by
  unfold execRerasterRequest
  cases s.tileStripe pass id with
  | none => exact only_refl _ s
  | some x =>
    dsimp only
    cases x.request? band col with
    | none => exact only_refl _ s
    | some r =>
      refine onlyOut_ite (only_refl _ s) ?_
      cases s.tileError x with
      | some e => exact only_blockDamaged _ _ _ _ rfl (only_refl _ s)
      | none =>
        exact onlyOut_ite (only_sramErrs _ rfl (only_refl _ s))
          (only_sramErrs _ rfl (only_reraster_sound _ _ _ _ _ rfl (only_refl _ s)))

/-- Settles O7: each command changes only the fields that it touches. -/
theorem onlyTheirCommandsChange : Obligations.OnlyTheirCommandsChange := by
  unfold Obligations.OnlyTheirCommandsChange
  refine ⟨fun c s t h => ?_, fun c s t h => ?_, fun c s t h => ?_⟩
  · have honly := only_of_exec h
    cases c <;> dsimp only [touches] at honly
    case powerUp | mainRailsLost | supplyExcursion | deviceReset | pcieFundamentalReset | regWrite | registerWrite => trivial
    case duskEntry | duskWake | nightEntry => exact ⟨honly.booted rfl, honly.rails rfl⟩
    all_goals exact ⟨honly.power rfl, honly.booted rfl, honly.nightReady rfl, honly.rails rfl⟩
  · have honly := only_of_exec h
    cases c <;> dsimp only [touches] at honly
    case beamOff | beamOffRelease => exact ⟨honly.gpioHigh rfl, honly.lastCkpt rfl⟩
    case gpioEvent => exact ⟨honly.beamOff rfl, honly.lastCkpt rfl⟩
    case checkpointVerified => exact ⟨honly.beamOff rfl, honly.gpioHigh rfl⟩
    all_goals exact ⟨honly.beamOff rfl, honly.gpioHigh rfl, honly.lastCkpt rfl⟩
  · have honly := only_of_exec h
    cases c <;> dsimp only [touches] at honly
    case mainRailsLost | supplyExcursion | deviceReset | pcieFundamentalReset | regWrite | registerWrite => trivial
    case tileDone pass id band col lane residue writeFails factorBad mapBad fogBad sram =>
      rintro rfl
      have hsound := only_of_answer (only_execTileDone_sound pass id band col lane residue writeFails mapBad fogBad sram s) h
      exact ⟨hsound.density rfl, hsound.factor rfl⟩
    case rerasterRequest pass id band col runs residue factorBad mapBad sram =>
      rintro rfl
      have hsound := only_of_answer (only_execRerasterRequest_sound pass id band col runs residue mapBad sram s) h
      exact ⟨hsound.density rfl, hsound.factor rfl⟩
    case prepassComplete => exact ⟨honly.field rfl, honly.tileCrcs rfl⟩
    all_goals exact ⟨honly.field rfl, honly.tileCrcs rfl, honly.density rfl, honly.factor rfl⟩

end Sys2Proof.Machine
end

section
/-! SUPPORT. Every command answers a next state (spec/95_what_each_step_holds.md; log entry 1). -/

namespace Sys2Proof.Machine

/-- The outcome is a next state. -/
def Answers : Host.Outcome State Fault Refusal → Prop
  | .next _ => True
  | _ => False

theorem answers_ite {c : Prop} [Decidable c] {a b : Host.Outcome State Fault Refusal} (ha : Answers a) (hb : Answers b) :
    Answers (if c then a else b) := by
  split <;> assumption

theorem answers_mailbox (s : State) (boot always : Bool) (f : State → State) : Answers (s.mailbox boot always f) := by
  unfold State.mailbox
  repeat' first
    | exact trivial
    | apply answers_ite

theorem answers_message (s : State) (m : BitVec 64) (typ : Nat) (take : State → State) : Answers (s.message m typ take) := by
  unfold State.message
  repeat' first
    | exact trivial
    | apply answers_ite

theorem answers_execCommandStart (q : Nat) (entry : List Nat) (ns : Nat) (s : State) : Answers (execCommandStart q entry ns s) := by
  unfold execCommandStart
  dsimp only
  repeat' first
    | exact trivial
    | with_reducible apply answers_ite
    | split

theorem answers_execJobOpen (n : Nat) (s : State) : Answers (execJobOpen n s) := by
  unfold execJobOpen
  dsimp only
  repeat' first
    | exact trivial
    | with_reducible apply answers_ite
    | split

theorem answers_execKeyLoad (n : Nat) (buf : Option (List Byte)) (s : State) : Answers (execKeyLoad n buf s) := by
  unfold execKeyLoad
  dsimp only
  repeat' first
    | exact trivial
    | with_reducible apply answers_ite
    | split

theorem answers_execGeomPush (n : Nat) (buf : Option (List Byte)) (reseal : Nat) (s : State) : Answers (execGeomPush n buf reseal s) := by
  unfold execGeomPush
  dsimp only
  repeat' first
    | exact trivial
    | with_reducible apply answers_ite
    | split

theorem answers_execTableLoad (n : Nat) (buf : Option (List Byte)) (s : State) : Answers (execTableLoad n buf s) := by
  unfold execTableLoad
  dsimp only
  repeat' first
    | exact trivial
    | with_reducible apply answers_ite
    | split

theorem answers_execStripeArm (n : Nat) (copies : Nat) (glitch : Option (Nat × Nat × Nat)) (s : State) : Answers (execStripeArm n copies glitch s) := by
  unfold execStripeArm
  dsimp only
  repeat' first
    | exact trivial
    | with_reducible apply answers_ite
    | split

theorem answers_execStripeArmResourcesFree (n : Nat) (s : State) : Answers (execStripeArmResourcesFree n s) := by
  unfold execStripeArmResourcesFree
  repeat' first
    | exact trivial
    | with_reducible apply answers_ite
    | split

theorem answers_execStripeGo (n : Nat) (s : State) : Answers (execStripeGo n s) := by
  unfold execStripeGo
  repeat' first
    | exact trivial
    | with_reducible apply answers_ite
    | split

theorem answers_execStripeTakesEffect (smp : Sample) (s : State) : Answers (execStripeTakesEffect smp s) := by
  unfold execStripeTakesEffect
  dsimp only
  repeat' first
    | exact trivial
    | with_reducible apply answers_ite
    | split

theorem answers_execStripeAbort (n : Nat) (s : State) : Answers (execStripeAbort n s) := by
  unfold execStripeAbort
  repeat' first
    | exact trivial
    | with_reducible apply answers_ite
    | split

theorem answers_execCheckpoint (n : Nat) (s : State) : Answers (execCheckpoint n s) := by
  unfold execCheckpoint
  dsimp only
  repeat' first
    | exact trivial
    | with_reducible apply answers_ite
    | split

theorem answers_execResume (n : Nat) (smp : Sample) (reads : List Bool) (bad : List (Nat × Nat × Option Nat)) (s : State) : Answers (execResume n smp reads bad s) := by
  unfold execResume
  dsimp only
  repeat' first
    | exact trivial
    | with_reducible apply answers_ite
    | split

theorem answers_execPatchPass (n : Nat) (buf : Option (List Byte)) (listUe : Bool) (s : State) : Answers (execPatchPass n buf listUe s) := by
  unfold execPatchPass
  repeat' first
    | exact trivial
    | with_reducible apply answers_ite
    | split

theorem answers_execFlush (n : Nat) (s : State) : Answers (execFlush n s) := by
  unfold execFlush
  repeat' first
    | exact trivial
    | with_reducible apply answers_ite
    | split

theorem answers_execFence (n : Nat) (s : State) : Answers (execFence n s) := by
  unfold execFence
  repeat' first
    | exact trivial
    | with_reducible apply answers_ite
    | split

theorem answers_execTraceArm (n : Nat) (s : State) : Answers (execTraceArm n s) := by
  unfold execTraceArm
  dsimp only
  repeat' first
    | exact trivial
    | with_reducible apply answers_ite
    | split

theorem answers_execJobClose (n : Nat) (s : State) : Answers (execJobClose n s) := by
  unfold execJobClose
  dsimp only
  repeat' first
    | exact trivial
    | with_reducible apply answers_ite
    | split

theorem answers_execCacheRead (ctx : Nat) (slot : Nat) (block : Nat) (given : Nat) (space : Nat) (fault : ReadFault) (s : State) : Answers (execCacheRead ctx slot block given space fault s) := by
  unfold execCacheRead
  dsimp only
  repeat' first
    | exact trivial
    | with_reducible apply answers_ite
    | split

theorem answers_execCodecContextResume (ctx : Nat) (given : Nat) (space : Nat) (part : List Byte) (s : State) : Answers (execCodecContextResume ctx given space part s) := by
  unfold execCodecContextResume
  dsimp only
  repeat' first
    | exact trivial
    | with_reducible apply answers_ite
    | split

theorem answers_execCodecCompressDone (ctx : Nat) (unit : List Byte) (room : Nat) (ue : Option Nat) (sram : List SramErr) (s : State) : Answers (execCodecCompressDone ctx unit room ue sram s) := by
  unfold execCodecCompressDone
  dsimp only
  repeat' first
    | exact trivial
    | with_reducible apply answers_ite
    | split

theorem answers_execTileDone (pass : Nat) (id : Nat) (band : Nat) (col : Nat) (lane : Nat) (residue : Bool) (writeFails : Nat) (factorBad : Bool) (mapBad : Bool) (fogBad : Nat) (sram : List SramErr) (s : State) : Answers (execTileDone pass id band col lane residue writeFails factorBad mapBad fogBad sram s) := by
  unfold execTileDone
  repeat' first
    | exact trivial
    | with_reducible apply answers_ite
    | split

theorem answers_execRerasterRequest (pass : Nat) (id : Nat) (band : Nat) (col : Nat) (runs : Runs) (residue : List Nat) (factorBad : Bool) (mapBad : Bool) (sram : List SramErr) (s : State) : Answers (execRerasterRequest pass id band col runs residue factorBad mapBad sram s) := by
  unfold execRerasterRequest
  repeat' first
    | exact trivial
    | with_reducible apply answers_ite
    | split

theorem answers_execPrepassStart (s : State) : Answers (execPrepassStart s) := by
  unfold execPrepassStart
  dsimp only
  repeat' first
    | exact trivial
    | with_reducible apply answers_ite
    | split

theorem answers_execPrepassComplete (lanes : List Nat) (residueLanes : List Nat) (residueUnits : List Nat) (sram : List SramErr) (s : State) : Answers (execPrepassComplete lanes residueLanes residueUnits sram s) := by
  unfold execPrepassComplete
  repeat' first
    | exact trivial
    | with_reducible apply answers_ite
    | split

theorem answers_execFieldBandRead (band : Nat) (badCrc : List Nat) (badTag : List (Nat × Nat)) (ues : List Nat) (sram : List SramErr) (s : State) : Answers (execFieldBandRead band badCrc badTag ues sram s) := by
  unfold execFieldBandRead
  repeat' first
    | exact trivial
    | with_reducible apply answers_ite
    | split

theorem answers_execShareCycle (late : Bool) (ns : Nat) (badEntry : List Nat) (badShare : List Nat) (badPack : List Nat) (badWords : List (Nat × Nat)) (sram : List SramErr) (fx : ExitFaults) (s : State) : Answers (execShareCycle late ns badEntry badShare badPack badWords sram fx s) := by
  unfold execShareCycle
  repeat' first
    | exact trivial
    | with_reducible apply answers_ite
    | split

theorem answers_execFrameSend (lane : Nat) (slack : Option Nat) (lateNs : Nat) (s : State) : Answers (execFrameSend lane slack lateNs s) := by
  unfold execFrameSend
  repeat' first
    | exact trivial
    | with_reducible apply answers_ite
    | split

theorem answers_execRxStatusTimeout (lane : Nat) (flash : Nat) (copyBad : Bool) (slack : Option Nat) (s : State) : Answers (execRxStatusTimeout lane flash copyBad slack s) := by
  unfold execRxStatusTimeout
  repeat' first
    | exact trivial
    | with_reducible apply answers_ite
    | split

theorem answers_execFlinkReportLate (lane : Nat) (flash : Nat) (s : State) : Answers (execFlinkReportLate lane flash s) := by
  unfold execFlinkReportLate
  dsimp only
  repeat' first
    | exact trivial
    | with_reducible apply answers_ite
    | split

theorem answers_execReportAgainRetry (lane : Nat) (flash : Nat) (s : State) : Answers (execReportAgainRetry lane flash s) := by
  unfold execReportAgainRetry
  repeat' first
    | exact trivial
    | with_reducible apply answers_ite
    | split

theorem answers_execLaneCapsDone (lane : Nat) (s : State) : Answers (execLaneCapsDone lane s) := by
  unfold execLaneCapsDone
  dsimp only
  repeat' first
    | exact trivial
    | with_reducible apply answers_ite
    | split

theorem answers_execLaneEyeMeasured (lane : Nat) (w : Nat) (h : Nat) (s : State) : Answers (execLaneEyeMeasured lane w h s) := by
  unfold execLaneEyeMeasured
  dsimp only
  repeat' first
    | exact trivial
    | with_reducible apply answers_ite
    | split

theorem answers_execLaneVerifyDone (lane : Nat) (ok : Bool) (s : State) : Answers (execLaneVerifyDone lane ok s) := by
  unfold execLaneVerifyDone
  dsimp only
  repeat' first
    | exact trivial
    | with_reducible apply answers_ite
    | split

theorem answers_execFlashFire (smp : Sample) (sincePs : Nat) (s : State) : Answers (execFlashFire smp sincePs s) := by
  unfold execFlashFire
  dsimp only
  repeat' first
    | exact trivial
    | with_reducible apply answers_ite
    | split

theorem answers_execDroverOverspeed (smp : Sample) (inWindow : Bool) (s : State) : Answers (execDroverOverspeed smp inWindow s) := by
  unfold execDroverOverspeed
  repeat' first
    | exact trivial
    | with_reducible apply answers_ite
    | split

theorem answers_execEncSerialWord (ch : Nat) (bits : List Bool) (l : Loss) (s : State) : Answers (execEncSerialWord ch bits l s) := by
  unfold execEncSerialWord
  dsimp only
  repeat' first
    | exact trivial
    | with_reducible apply answers_ite
    | split

theorem answers_execStillExit (smp : Sample) (s : State) : Answers (execStillExit smp s) := by
  unfold execStillExit
  dsimp only
  repeat' first
    | exact trivial
    | with_reducible apply answers_ite
    | split

theorem answers_execRewindGuard (smp : Sample) (s : State) : Answers (execRewindGuard smp s) := by
  unfold execRewindGuard
  dsimp only
  repeat' first
    | exact trivial
    | with_reducible apply answers_ite
    | split

theorem answers_execRewindExit (smp : Sample) (s : State) : Answers (execRewindExit smp s) := by
  unfold execRewindExit
  dsimp only
  repeat' first
    | exact trivial
    | with_reducible apply answers_ite
    | split

theorem answers_execPeerFault (o : Origin) (v : Nat) (inWindow : Bool) (s : State) : Answers (execPeerFault o v inWindow s) := by
  unfold execPeerFault
  repeat' first
    | exact trivial
    | with_reducible apply answers_ite
    | split

theorem answers_execZoneBoundary (smp : Sample) (s : State) : Answers (execZoneBoundary smp s) := by
  unfold execZoneBoundary
  repeat' first
    | exact trivial
    | with_reducible apply answers_ite
    | split

theorem answers_execDeflOutputSample (smp : Sample) (vel : Int × Int) (inWindow : Bool) (s : State) : Answers (execDeflOutputSample smp vel inWindow s) := by
  unfold execDeflOutputSample
  repeat' first
    | exact trivial
    | with_reducible apply answers_ite
    | split

theorem answers_execRunoutStart (s : State) : Answers (execRunoutStart s) := by
  unfold execRunoutStart
  repeat' first
    | exact trivial
    | with_reducible apply answers_ite
    | split

theorem answers_execRunEnd (fits : List (Nat × List Byte)) (s : State) : Answers (execRunEnd fits s) := by
  unfold execRunEnd
  dsimp only
  repeat' first
    | exact trivial
    | with_reducible apply answers_ite
    | split

theorem answers_execTurnaroundStart (s : State) : Answers (execTurnaroundStart s) := by
  unfold execTurnaroundStart
  dsimp only
  repeat' first
    | exact trivial
    | with_reducible apply answers_ite
    | split

theorem answers_execMoveEnd (s : State) : Answers (execMoveEnd s) := by
  unfold execMoveEnd
  dsimp only
  repeat' first
    | exact trivial
    | with_reducible apply answers_ite
    | split

theorem answers_execLimitWrite (o : Origin) (index : Nat) (v : Nat) (s : State) : Answers (execLimitWrite o index v s) := by
  unfold execLimitWrite
  repeat' first
    | exact trivial
    | with_reducible apply answers_ite
    | split

theorem answers_execContainSettled (fx : List ExitFaults) (s : State) : Answers (execContainSettled fx s) := by
  unfold execContainSettled
  dsimp only
  repeat' first
    | exact trivial
    | with_reducible apply answers_ite
    | split

theorem answers_execCheckpointVerified (fail : Option (Bool × Nat)) (s : State) : Answers (execCheckpointVerified fail s) := by
  unfold execCheckpointVerified
  dsimp only
  repeat' first
    | exact trivial
    | with_reducible apply answers_ite
    | split

theorem answers_execErrlogHead (o : Origin) (v : Nat) (s : State) : Answers (execErrlogHead o v s) := by
  unfold execErrlogHead
  dsimp only
  repeat' first
    | exact trivial
    | with_reducible apply answers_ite
    | split

theorem answers_execFill (o : Origin) (v : Nat) (s : State) : Answers (execFill o v s) := by
  unfold execFill
  repeat' first
    | exact trivial
    | with_reducible apply answers_ite
    | split

theorem answers_execFenceMoveDone (s : State) : Answers (execFenceMoveDone s) := by
  unfold execFenceMoveDone
  dsimp only
  repeat' first
    | exact trivial
    | with_reducible apply answers_ite
    | split

theorem answers_execAuditExportReady (s : State) : Answers (execAuditExportReady s) := by
  unfold execAuditExportReady
  dsimp only
  repeat' first
    | exact trivial
    | with_reducible apply answers_ite
    | split

theorem answers_execAuditSignatureDone (s : State) : Answers (execAuditSignatureDone s) := by
  unfold execAuditSignatureDone
  repeat' first
    | exact trivial
    | with_reducible apply answers_ite
    | split

theorem answers_execIvdonPortTrained (port : Nat) (rate : Nat) (result : PortEnd) (nb : Nat) (nbPort : Nat) (s : State) : Answers (execIvdonPortTrained port rate result nb nbPort s) := by
  unfold execIvdonPortTrained
  dsimp only
  repeat' first
    | exact trivial
    | with_reducible apply answers_ite
    | split

/-- Every command answers a next state. -/
theorem answers_exec (c : Instr) (s : State) : Answers (exec c s) := by
  cases c with
  | commandStart q entry ns => exact answers_execCommandStart q entry ns s
  | jobOpen n => exact answers_execJobOpen n s
  | keyLoad n buf => exact answers_execKeyLoad n buf s
  | geomPush n buf reseal => exact answers_execGeomPush n buf reseal s
  | tableLoad n buf => exact answers_execTableLoad n buf s
  | stripeArm n copies glitch => exact answers_execStripeArm n copies glitch s
  | stripeArmResourcesFree n => exact answers_execStripeArmResourcesFree n s
  | stripeGo n => exact answers_execStripeGo n s
  | stripeTakesEffect smp => exact answers_execStripeTakesEffect smp s
  | stripeAbort n => exact answers_execStripeAbort n s
  | checkpoint n => exact answers_execCheckpoint n s
  | resume n smp reads bad => exact answers_execResume n smp reads bad s
  | patchPass n buf listUe => exact answers_execPatchPass n buf listUe s
  | flush n => exact answers_execFlush n s
  | fence n => exact answers_execFence n s
  | traceArm n => exact answers_execTraceArm n s
  | jobClose n => exact answers_execJobClose n s
  | cacheRead ctx slot block given space fault => exact answers_execCacheRead ctx slot block given space fault s
  | codecContextResume ctx given space part => exact answers_execCodecContextResume ctx given space part s
  | codecCompressDone ctx unit room ue sram => exact answers_execCodecCompressDone ctx unit room ue sram s
  | tileDone pass id band col lane residue writeFails factorBad mapBad fogBad sram => exact answers_execTileDone pass id band col lane residue writeFails factorBad mapBad fogBad sram s
  | rerasterRequest pass id band col runs residue factorBad mapBad sram => exact answers_execRerasterRequest pass id band col runs residue factorBad mapBad sram s
  | prepassStart => exact answers_execPrepassStart s
  | prepassComplete lanes residueLanes residueUnits sram => exact answers_execPrepassComplete lanes residueLanes residueUnits sram s
  | fieldBandRead band badCrc badTag ues sram => exact answers_execFieldBandRead band badCrc badTag ues sram s
  | shareCycle late ns badEntry badShare badPack badWords sram fx => exact answers_execShareCycle late ns badEntry badShare badPack badWords sram fx s
  | frameSend lane slack lateNs => exact answers_execFrameSend lane slack lateNs s
  | rxStatusTimeout lane flash copyBad slack => exact answers_execRxStatusTimeout lane flash copyBad slack s
  | flinkReportLate lane flash => exact answers_execFlinkReportLate lane flash s
  | reportAgainRetry lane flash => exact answers_execReportAgainRetry lane flash s
  | laneCapsDone lane => exact answers_execLaneCapsDone lane s
  | laneEyeMeasured lane w h => exact answers_execLaneEyeMeasured lane w h s
  | laneVerifyDone lane ok => exact answers_execLaneVerifyDone lane ok s
  | flashFire smp sincePs => exact answers_execFlashFire smp sincePs s
  | droverOverspeed smp inWindow => exact answers_execDroverOverspeed smp inWindow s
  | encSerialWord ch bits l => exact answers_execEncSerialWord ch bits l s
  | stillExit smp => exact answers_execStillExit smp s
  | rewindGuard smp => exact answers_execRewindGuard smp s
  | rewindExit smp => exact answers_execRewindExit smp s
  | peerFault o v inWindow => exact answers_execPeerFault o v inWindow s
  | zoneBoundary smp => exact answers_execZoneBoundary smp s
  | deflOutputSample smp vel inWindow => exact answers_execDeflOutputSample smp vel inWindow s
  | runoutStart => exact answers_execRunoutStart s
  | runEnd fits => exact answers_execRunEnd fits s
  | turnaroundStart => exact answers_execTurnaroundStart s
  | moveEnd => exact answers_execMoveEnd s
  | limitWrite o index v => exact answers_execLimitWrite o index v s
  | containSettled fx => exact answers_execContainSettled fx s
  | checkpointVerified fail => exact answers_execCheckpointVerified fail s
  | errlogHead o v => exact answers_execErrlogHead o v s
  | fill o v => exact answers_execFill o v s
  | fenceMoveDone => exact answers_execFenceMoveDone s
  | auditExportReady => exact answers_execAuditExportReady s
  | auditSignatureDone => exact answers_execAuditSignatureDone s
  | ivdonPortTrained port rate result nb nbPort => exact answers_execIvdonPortTrained port rate result nb nbPort s
  | _ =>
    repeat' first
      | exact trivial
      | apply answers_ite

end Sys2Proof.Machine
end

section
/-! SUPPORT. The step of the machine, its queue and its invariant (spec/95_what_each_step_holds.md). -/

namespace Sys2Proof.Machine

/-- Settles O1: a step takes the front of the queue. -/
theorem stepTakesFront : Obligations.StepTakesFront := by
  unfold Obligations.StepTakesFront
  exact fun _ _ => rfl

theorem exec_next (c : Instr) (s : State) : ∃ t, exec c s = .next t := by
  have hanswers := answers_exec c s
  revert hanswers
  cases exec c s with
  | next t => exact fun _ => ⟨t, rfl⟩
  | fault r => exact False.elim
  | refused r => exact False.elim

/-- No command touches the queue of the commands that wait. -/
theorem pending_of_exec {c : Instr} {s t : State} (h : exec c s = .next t) : t.pending = s.pending :=
  (only_of_exec h).pending (by cases c <;> (dsimp only [touches]; rfl))

/-- The invariant, the queue behind the front command and what has left the block are what a step keeps. -/
theorem keeps_step {s t : State} (hinv : s.Inv) (h : step s = .next t) : Keeps s.pending.tail s.out t := by
  have hs := keepsOut_of_inv hinv
  unfold step at h
  cases hp : s.pending with
  | nil =>
    rw [hp] at h hs
    cases h
    exact keeps_tick hs
  | cons c cs =>
    rw [hp] at h
    change exec c _ = .next t at h
    have hrest : Keeps cs s.out { s with pending := cs } := ⟨{ hs.ok with pending := rfl }⟩
    have hexec := keepsOut_exec c hrest
    rwa [h] at hexec

/-- Settles O3: every meaning answers a next state and leaves the queue behind it; what has been sent stays sent. -/
theorem queueAndAccountInOrder : Obligations.QueueAndAccountInOrder := by
  unfold Obligations.QueueAndAccountInOrder
  refine ⟨fun s => ?_, fun s t hinv h => (keeps_step hinv h).ok.out⟩
  unfold step
  cases hp : s.pending with
  | nil => exact ⟨_, rfl, ((only_tick (mm := 74939897799445053440) rfl (only_refl _ s)).pending rfl).trans hp⟩
  | cons c cs =>
    obtain ⟨t, ht⟩ := exec_next c { s with pending := cs }
    exact ⟨t, ht, pending_of_exec ht⟩

theorem inv_of_keeps {q : List Instr} {o : List Out} {t : State} (h : Keeps q o t) : t.Inv := by
  obtain ⟨⟨hregs, hforce, hbells, hrails, hcmds, hstripes, hrecs, hpool, -, -⟩⟩ := h
  exact ⟨hregs, hforce, hbells, hrails, hcmds, hstripes, hrecs, hpool⟩

/-- Settles O4: the invariant is part of what every operation keeps. -/
theorem everyStepKeepsInv : Obligations.EveryStepKeepsInv := by
  unfold Obligations.EveryStepKeepsInv
  exact fun s t hinv h => inv_of_keeps (keeps_step hinv h)

/-- Settles O5: at reset every list is empty. -/
theorem resetHasInv : Obligations.ResetHasInv := by
  unfold Obligations.ResetHasInv
  exact ⟨rfl, rfl, rfl, Nat.le_refl _, numbered_nil _, ordered_nil _, Nat.zero_le _, Nat.zero_le _⟩

/-- Settles O6: the reset state is the state of defaults. -/
theorem resetState : Obligations.ResetState := by
  unfold Obligations.ResetState
  exact ⟨fun _ => rfl, rfl, rfl, rfl, rfl, rfl, fun _ => (by decide : Queue.en {} = false), fun _ => rfl, rfl, rfl, rfl, rfl, rfl⟩

/-- Ticks within a second add to its fraction (R588). -/
theorem runClock_within {s : State} {n : Nat} (h : s.clock.frac + n * s.clockInc < secondUnits) :
    (s.runClock n).clock.sec = s.clock.sec ∧ (s.runClock n).clock.frac = s.clock.frac + n * s.clockInc ∧ (s.runClock n).out = s.out := by
  have hclock : s.runClock n = { s with clock := { s.clock.runAo (n * (if s.power = .dusk then 327680 else 131072)) with
      mono := s.clock.mono + n * (if s.power = Power.dusk then 10 else 4), frac := s.clock.frac + n * s.clockInc } } :=
    if_neg (Nat.not_le.mpr h)
  rw [hclock]
  exact ⟨rfl, rfl, rfl⟩

/-- The tick that rolls the second over takes a second from the fraction and sets the always-on count (R588, R591). -/
theorem runClock_rolls {s : State} {n : Nat} (h : secondUnits ≤ s.clock.frac + n * s.clockInc) :
    (s.runClock n).clock.sec = (s.clock.sec + 1) % 2 ^ 48 ∧ (s.runClock n).clock.frac = s.clock.frac + n * s.clockInc - secondUnits ∧
      (s.runClock n).clock.aoSec = (s.runClock n).clock.sec ∧ (s.runClock n).clock.aoCount = 0 := by
  have hpps : ∀ u : State, u.ppsRise.clock = u.clock := fun u => by
    unfold State.ppsRise
    split <;> rfl
  have hclock : (s.runClock n).clock =
      { s.clock.runAo (n * (if s.power = .dusk then 327680 else 131072)) with
        mono := s.clock.mono + n * (if s.power = Power.dusk then 10 else 4), frac := s.clock.frac + n * s.clockInc - secondUnits,
        sec := (s.clock.sec + 1) % 2 ^ 48, aoSec := (s.clock.sec + 1) % 2 ^ 48, aoCount := 0, aoFrac := 0 } := by
    unfold State.runClock
    exact (congrArg State.clock (if_pos h)).trans (hpps _)
  rw [hclock]
  exact ⟨rfl, rfl, rfl, rfl⟩

/-- Settles O2: the tick of a powered part is one tick of its clock, with a rollover or without. -/
theorem idleStepTicks : Obligations.IdleStepTicks := by
  unfold Obligations.IdleStepTicks
  intro s hpending hday hbooted
  have hstep : step s = .next (s.runClock 1) := by
    unfold step State.tick
    rw [hpending, if_neg (by simp [hday, hbooted])]
  have hone : 1 * s.clockInc = s.clockInc := Nat.one_mul _
  refine ⟨_, hstep, (only_runClock (mm := 74939897799445053440) 1 rfl (only_refl _ s)).eq_takes, fun hlt => ?_, fun hge => ?_⟩
  · have hwithin := runClock_within (n := 1) (s := s) (by unfold secondUnits; omega)
    rwa [hone] at hwithin
  · obtain ⟨hsec, hfrac, -, -⟩ := runClock_rolls (n := 1) (s := s) (by unfold secondUnits; omega)
    rw [hone] at hfrac
    exact ⟨hsec, hfrac⟩

end Sys2Proof.Machine
end

section
/-! SUPPORT. Fields of registers: any field read after a write of any field (spec/19_register_pages.md). -/

namespace Sys2Proof.Machine

theorem testBit_fieldOf (v hi lo i : Nat) : (fieldOf v hi lo).testBit i = (decide (i < hi + 1 - lo) && v.testBit (lo + i)) := by
  unfold fieldOf
  rw [Nat.testBit_mod_two_pow, Nat.testBit_shiftRight]

/-- A value is its bits above a field, the field, and its bits below. -/
theorem field_split (v : Nat) {hi lo : Nat} (h : lo ≤ hi) :
    v = 2 ^ lo * (2 ^ (hi + 1 - lo) * (v / 2 ^ (hi + 1)) + fieldOf v hi lo) + v % 2 ^ lo := by
  have hdiv : v / 2 ^ lo / 2 ^ (hi + 1 - lo) = v / 2 ^ (hi + 1) := by
    rw [Nat.div_div_eq_div_mul, ← pow_add, show lo + (hi + 1 - lo) = hi + 1 by omega]
  unfold fieldOf
  rw [Nat.shiftRight_eq_div_pow, ← hdiv, Nat.div_add_mod, Nat.div_add_mod]

theorem withField_split (v x : Nat) {hi lo : Nat} (h : lo ≤ hi) :
    withField v hi lo x = 2 ^ lo * (2 ^ (hi + 1 - lo) * (v / 2 ^ (hi + 1)) + x % 2 ^ (hi + 1 - lo)) + v % 2 ^ lo := by
  have hv := field_split v h
  unfold withField
  generalize fieldOf v hi lo = f at *
  generalize v / 2 ^ (hi + 1) = a at *
  generalize v % 2 ^ lo = b at *
  rw [hv]
  simp only [Nat.mul_add, Nat.mul_comm (x % 2 ^ (hi + 1 - lo)), Nat.mul_comm f]
  omega

theorem testBit_withField (v x : Nat) {hi lo : Nat} (h : lo ≤ hi) (i : Nat) :
    (withField v hi lo x).testBit i = if lo ≤ i ∧ i ≤ hi then x.testBit (i - lo) else v.testBit i := by
  have hb : v % 2 ^ lo < 2 ^ lo := Nat.mod_lt _ (Nat.two_pow_pos _)
  have hx : x % 2 ^ (hi + 1 - lo) < 2 ^ (hi + 1 - lo) := Nat.mod_lt _ (Nat.two_pow_pos _)
  have hf : fieldOf v hi lo < 2 ^ (hi + 1 - lo) := fieldOf_lt v hi lo
  rw [withField_split v x h, Nat.testBit_two_pow_mul_add _ hb]
  by_cases hlo : i < lo
  · rw [if_pos hlo, if_neg (by omega), Nat.testBit_mod_two_pow, decide_eq_true hlo, Bool.true_and]
  · rw [if_neg hlo, Nat.testBit_two_pow_mul_add _ hx]
    by_cases hhi : i ≤ hi
    · rw [if_pos (by omega), if_pos (by omega), Nat.testBit_mod_two_pow, decide_eq_true (by omega : i - lo < hi + 1 - lo), Bool.true_and]
    · rw [if_neg (by omega), if_neg (by omega), Nat.testBit_div_two_pow]
      congr 1
      omega

theorem fieldOf_withField_same (v x : Nat) {hi lo : Nat} (h : lo ≤ hi) : fieldOf (withField v hi lo x) hi lo = x % 2 ^ (hi + 1 - lo) := by
  refine Nat.eq_of_testBit_eq fun i => ?_
  rw [testBit_fieldOf, testBit_withField v x h, Nat.testBit_mod_two_pow]
  by_cases hi' : i < hi + 1 - lo
  · rw [if_pos (by omega), Nat.add_sub_cancel_left]
  · rw [decide_eq_false hi', Bool.false_and, Bool.false_and]

theorem fieldOf_withField_apart (v x : Nat) {hi lo hi' lo' : Nat} (h : lo ≤ hi) (hap : hi' < lo ∨ hi < lo') :
    fieldOf (withField v hi lo x) hi' lo' = fieldOf v hi' lo' := by
  refine Nat.eq_of_testBit_eq fun i => ?_
  rw [testBit_fieldOf, testBit_fieldOf, testBit_withField v x h]
  by_cases hi'' : i < hi' + 1 - lo'
  · rw [if_neg (by omega)]
  · rw [decide_eq_false hi'', Bool.false_and, Bool.false_and]

theorem withField_lt {v hi lo : Nat} (x : Nat) (h : lo ≤ hi) (hhi : hi < 32) (hv : v < 2 ^ 32) : withField v hi lo x < 2 ^ 32 := by
  refine Nat.lt_pow_two_of_testBit _ fun i hi' => ?_
  rw [testBit_withField v x h, if_neg (by omega)]
  exact Nat.testBit_lt_two_pow (lt_of_lt_of_le hv (Nat.pow_le_pow_right (by decide) hi'))

variable {s : State}

theorem setFld_frame (u : State) (a hi lo x : Nat) : u.setFld a hi lo x = { u with regs := (u.setFld a hi lo x).regs } := rfl

theorem rd_setFld_same (a : RegAddr) {hi lo : Nat} (x : Nat) (h : lo ≤ hi) (hhi : hi < 32) :
    (s.setFld a hi lo x).rd a = withField (s.rd a) hi lo x := rd_wr_same _ _ (withField_lt x h hhi (rd_lt a))

theorem fld_setFld_same (a : RegAddr) {hi lo : Nat} (x : Nat) (h : lo ≤ hi) (hhi : hi < 32) :
    (s.setFld a hi lo x).fld a hi lo = x % 2 ^ (hi + 1 - lo) := by
  unfold State.fld
  rw [rd_setFld_same a x h hhi, fieldOf_withField_same _ _ h]

theorem fld_setFld_apart (a : RegAddr) {hi lo hi' lo' : Nat} (x : Nat) (h : lo ≤ hi) (hhi : hi < 32) (hap : hi' < lo ∨ hi < lo') :
    (s.setFld a hi lo x).fld a hi' lo' = s.fld a hi' lo' := by
  unfold State.fld
  rw [rd_setFld_same a x h hhi, fieldOf_withField_apart _ _ h hap]

/-- A field reads as before where its register does. -/
theorem fld_of_rd {t : State} {a : RegAddr} (h : t.rd a = s.rd a) (hi lo : Nat) : t.fld a hi lo = s.fld a hi lo := by
  unfold State.fld
  rw [h]

end Sys2Proof.Machine
end

section
/-! SUPPORT. FILL, blocks that move to their spares, and the vote of the bell words (spec/11_sram_hurdles.md). -/

namespace Sys2Proof.Machine

/-! ### FILL -/

theorem exec_fill {o : Origin} {v : Nat} {s : State} (hp : s.permit o R.SRAM_FILL v = .ok s) (hr : fieldOf v 3 0 ≤ 9 ∨ fieldOf v 3 0 = 15) :
    exec (.fill o v) s = .next (s.startFill o v) := by
  show execFill o v s = _
  unfold execFill
  rw [hp]
  exact if_neg (by omega)

theorem fillRegionsOf_ne_nil {r : Nat} (h : r ≤ 9 ∨ r = 15) : fillRegionsOf r ≠ [] := by
  unfold fillRegionsOf
  split
  · exact List.cons_ne_nil _ _
  · rw [if_pos (by omega)]
    exact List.cons_ne_nil _ _

/-- A FILL that nothing bars starts on its regions (R370). -/
theorem fill_starts {o : Origin} {v : Nat} {s : State} (hp : s.permit o R.SRAM_FILL v = .ok s) (hfull : s.auditFull = false)
    (hgo : fieldOf v 8 8 = 1) (hr : fieldOf v 3 0 ≤ 9 ∨ fieldOf v 3 0 = 15) (hidle : s.sram.fillRegions = [])
    (hoff : ∀ g ∈ fillRegionsOf (fieldOf v 3 0), ∀ p ∈ regionOwners g, s.enabled p = false) :
    ∃ t, exec (.fill o v) s = .next t ∧
      t = { s with regs := t.regs, audit := t.audit, bells := t.bells, sram := { s.sram with fillRegions := fillRegionsOf (fieldOf v 3 0) }, trace := t.trace } ∧
      t.fld (statusOf 0x15) 16 16 = 1 := by
  obtain ⟨regs, audit, bells, trace, hset⟩ : ∃ regs audit bells trace,
      s.setReg o R.SRAM_FILL (Nat.lor (s.rd R.SRAM_FILL - s.fld R.SRAM_FILL 3 0) (fieldOf v 3 0)) =
        { s with regs := regs, audit := audit, bells := bells, trace := trace } :=
    ⟨_, _, _, _, (only_setReg_room o R.SRAM_FILL _ hfull).eq_takes⟩
  have hfree : ¬ (s.sram.fillRegions ≠ [] ∨ (fillRegionsOf (fieldOf v 3 0)).any (fun g => (regionOwners g).any s.enabled) = true) := by
    rw [List.any_eq_true]
    rintro (h | ⟨g, hg, h⟩)
    · exact h hidle
    · obtain ⟨p, hmem, hen⟩ := List.any_eq_true.mp h
      exact absurd hen (by rw [hoff g hg p hmem]; decide)
  have hstart : s.startFill o v = State.setFld { s with regs, audit, bells, trace, sram := { s.sram with fillRegions := fillRegionsOf (fieldOf v 3 0) } }
      (statusOf 0x15) 16 16 1 := by
    unfold State.startFill
    dsimp only
    rw [hset, if_neg (by omega), if_neg hfree, if_neg (fillRegionsOf_ne_nil hr)]
    rfl
  exact ⟨_, (exec_fill hp hr).trans (congrArg _ hstart), setFld_frame _ _ _ _ _,
    fld_setFld_bit _ _ (by decide)⟩

/-- One that a running FILL or an enabled owner bars is refused (R370). -/
theorem fill_refused {o : Origin} {v : Nat} {s : State} (hp : s.permit o R.SRAM_FILL v = .ok s) (hgo : fieldOf v 8 8 = 1)
    (hr : fieldOf v 3 0 ≤ 9 ∨ fieldOf v 3 0 = 15) (hroom : 256 < s.logFree)
    (hbar : s.sram.fillRegions ≠ [] ∨ ∃ g ∈ fillRegionsOf (fieldOf v 3 0), ∃ p ∈ regionOwners g, s.enabled p = true) :
    ∃ t, exec (.fill o v) s = .next t ∧ t.sram = s.sram ∧ t.newest Code.SRAM_FILL_BUSY 7 6 0x15 (offOf R.SRAM_FILL) v := by
  have hbarred : s.sram.fillRegions ≠ [] ∨ (fillRegionsOf (fieldOf v 3 0)).any (fun g => (regionOwners g).any s.enabled) = true := by
    refine hbar.imp_right fun ⟨g, hg, p, hmem, hen⟩ => ?_
    exact List.any_eq_true.mpr ⟨g, hg, List.any_eq_true.mpr ⟨p, hmem, hen⟩⟩
  have hstart : s.startFill o v = s.refuse o Code.SRAM_FILL_BUSY R.SRAM_FILL v := by
    unfold State.startFill
    dsimp only
    rw [if_neg (by omega), if_pos hbarred]
  obtain ⟨-, hnewest, honly⟩ := noted_refuse o Code.SRAM_FILL_BUSY R.SRAM_FILL v hroom
  exact ⟨_, (exec_fill hp hr).trans (congrArg _ hstart), honly.sram rfl, hnewest⟩

/-! ### The end of a FILL -/

/-- What one region alone holds is emptied by the regions that name it, and stays where none does (R370). -/
theorem clearRegions_field {α : Type} (f : State → α) (k : Nat) (empty : α) (hf : ∀ s g, f (s.clearRegion g) = if g = k then empty else f s)
    (rs : List Nat) (s : State) : f (rs.foldl State.clearRegion s) = if k ∈ rs then empty else f s := by
  induction rs generalizing s with
  | nil => rfl
  | cons g rs ih =>
    rw [List.foldl_cons, ih, hf]
    by_cases hk : k ∈ rs
    · rw [if_pos hk, if_pos (List.mem_cons_of_mem _ hk)]
    · by_cases hg : g = k
      · rw [if_neg hk, if_pos hg, if_pos (hg ▸ List.mem_cons_self ..)]
      · rw [if_neg hk, if_neg hg, if_neg (by simp [hk, Ne.symm hg])]

theorem clearRegion_field {α : Type} (f : State → α) (k : Nat) (empty : α) (hk : ∀ s : State, f (s.clearRegion k) = empty)
    (h : ∀ (s : State) (g : Nat), g ≠ k → f (s.clearRegion g) = f s) (s : State) (g : Nat) :
    f (s.clearRegion g) = if g = k then empty else f s := by
  by_cases hg : g = k
  · rw [hg, if_pos rfl, hk]
  · rw [if_neg hg, h s g hg]

theorem testBit_foldl_lor (rs : List Nat) (n i : Nat) :
    (rs.foldl (fun f g => Nat.lor f (2 ^ g)) n).testBit i = (n.testBit i || rs.contains i) := by
  induction rs generalizing n with
  | nil => simp
  | cons g rs ih =>
    have hbit : (Nat.lor n (2 ^ g)).testBit i = (n.testBit i || decide (g = i)) := by
      rw [show Nat.lor n (2 ^ g) = n ||| 2 ^ g from rfl, Nat.testBit_or, Nat.testBit_two_pow]
    rw [List.foldl_cons, ih, hbit, List.contains_cons, Bool.or_assoc]
    congr 2
    rw [Bool.eq_iff_iff, decide_eq_true_iff, beq_iff_eq, eq_comm]

/-- A lost map written anew leaves the regions as they are (R539). -/
theorem mapsAnew_regions (s : State) :
    s.mapsAnew.sram.filled = s.sram.filled ∧ s.mapsAnew.sram.fillRegions = s.sram.fillRegions := by
  unfold State.mapsAnew
  split
  · exact ⟨rfl, rfl⟩
  · have hkeep : ∀ u : State, ((u.putKeep 0x0020 0 u.sram.mapBytes).putKeep 0x0021 0 u.sram.fenceBytes).sram = u.sram := fun u =>
      (only_putKeep (mm := 135675336821047329) _ _ _ rfl (only_putKeep _ _ _ rfl (only_refl _ u))).sram rfl
    dsimp only
    exact ⟨(congrArg Sram.filled (hkeep _)).trans rfl, (congrArg Sram.fillRegions (hkeep _)).trans rfl⟩

/-- The state in which a FILL whose lines all read back right has ended (R368, R370). -/
def State.filledAll (s : State) : State :=
  let s1 := s.sram.fillRegions.foldl State.clearRegion s
  let mask := s.sram.fillRegions.foldl (fun f g => Nat.lor f (2 ^ g)) 0
  { s1 with sram := { s1.sram with fillRegions := [], filled := Nat.lor s1.sram.filled mask, sinceLost := Nat.lor s1.sram.sinceLost mask } }.mapsAnew

theorem exec_fillDone {s : State} (h : s.sram.fillRegions ≠ []) : exec (.fillDone []) s = .next (s.filledAll.setFld (statusOf 0x15) 16 16 0) :=
  (if_neg h : execFillDone [] s = _)

/-- What a state holds that no map in the keep changes is what the cleared regions leave of it. -/
theorem filledAll_field {α : Type} (f : State → α) (hsram : ∀ (u : State) (m : Sram), f { u with sram := m } = f u)
    (hmaps : ∀ u : State, f u.mapsAnew = f u) (s : State) : f s.filledAll = f (s.sram.fillRegions.foldl State.clearRegion s) :=
  (hmaps _).trans (hsram _ _)

theorem sram_filledAll (s : State) : s.filledAll.sram.fillRegions = [] ∧
    s.filledAll.sram.filled = Nat.lor s.sram.filled (s.sram.fillRegions.foldl (fun f g => Nat.lor f (2 ^ g)) 0) := by
  have hclear : (s.sram.fillRegions.foldl State.clearRegion s).sram = s.sram :=
    (only_foldl (m := 4611687943429472288) (fun u g hu => only_clearRegion g rfl hu) _ (only_refl _ s)).sram rfl
  obtain ⟨hfilled, hregions⟩ := mapsAnew_regions { s.sram.fillRegions.foldl State.clearRegion s with
    sram := { (s.sram.fillRegions.foldl State.clearRegion s).sram with
      fillRegions := [], filled := Nat.lor (s.sram.fillRegions.foldl State.clearRegion s).sram.filled
        (s.sram.fillRegions.foldl (fun f g => Nat.lor f (2 ^ g)) 0),
      sinceLost := Nat.lor (s.sram.fillRegions.foldl State.clearRegion s).sram.sinceLost
        (s.sram.fillRegions.foldl (fun f g => Nat.lor f (2 ^ g)) 0) } }
  exact ⟨hregions, hfilled.trans (by rw [hclear])⟩

/-- One kind of what the regions hold after a FILL: gone with its own region, else as before. -/
theorem filledAll_region {α : Type} (f : State → α) (k : Nat) (empty : α) (hsram : ∀ (u : State) (m : Sram), f { u with sram := m } = f u)
    (hmaps : ∀ u : State, f u.mapsAnew = f u) (hk : ∀ u : State, f (u.clearRegion k) = empty)
    (hne : ∀ (u : State) (g : Nat), g ≠ k → f (u.clearRegion g) = f u) (s : State) :
    (k ∈ s.sram.fillRegions → f s.filledAll = empty) ∧ (k ∉ s.sram.fillRegions → f s.filledAll = f s) := by
  rw [filledAll_field f hsram hmaps, clearRegions_field f k empty (clearRegion_field f k empty hk hne)]
  exact ⟨fun h => if_pos h, fun h => if_neg h⟩

theorem fillDone_empties {s : State} (h : s.sram.fillRegions ≠ []) :
    ∃ t, exec (.fillDone []) s = .next t ∧ t.sram.fillRegions = [] ∧ t.fld (statusOf 0x15) 16 16 = 0 ∧
      (∀ g, t.filled g = (s.filled g || s.sram.fillRegions.contains g)) ∧
      (0 ∈ s.sram.fillRegions → t.tally = []) ∧ (0 ∉ s.sram.fillRegions → t.tally = s.tally) ∧
      (1 ∈ s.sram.fillRegions → t.staging = [] ∧ t.hold = []) ∧ (1 ∉ s.sram.fillRegions → t.staging = s.staging ∧ t.hold = s.hold) ∧
      (5 ∈ s.sram.fillRegions → t.ctxs = []) ∧ (5 ∉ s.sram.fillRegions → t.ctxs = s.ctxs) := by
  have hmaps : ∀ u : State, Only 135956811797757985 u u.mapsAnew := fun u => only_mapsAnew rfl (only_refl _ u)
  obtain ⟨hregions, hfilled⟩ := sram_filledAll s
  obtain ⟨htally, htally'⟩ := filledAll_region State.tally 0 [] (fun _ _ => rfl) (fun u => (hmaps u).tally rfl) (fun _ => rfl)
    (fun u g hg => by unfold State.clearRegion; split <;> first | rfl | exact absurd rfl hg) s
  obtain ⟨hpix, hpix'⟩ := filledAll_region (fun u => (u.staging, u.hold)) 1 ([], []) (fun _ _ => rfl)
    (fun u => congrArg₂ Prod.mk ((hmaps u).staging rfl) ((hmaps u).hold rfl)) (fun _ => rfl)
    (fun u g hg => by unfold State.clearRegion; split <;> first | rfl | exact absurd rfl hg) s
  obtain ⟨hctxs, hctxs'⟩ := filledAll_region State.ctxs 5 [] (fun _ _ => rfl) (fun u => (hmaps u).ctxs rfl) (fun _ => rfl)
    (fun u g hg => by unfold State.clearRegion; split <;> first | rfl | exact absurd rfl hg) s
  have hexec := exec_fillDone h
  generalize s.filledAll = u at *
  refine ⟨_, hexec, hregions, fld_setFld_bit_zero _ _ _, fun g => ?_, htally, htally',
    fun h1 => Prod.mk.inj (hpix h1), fun h1 => Prod.mk.inj (hpix' h1), hctxs, hctxs'⟩
  show u.sram.filled.testBit g = _
  rw [hfilled, show ∀ a b, Nat.lor a b = a ||| b from fun _ _ => rfl, Nat.testBit_or, testBit_foldl_lor, Nat.zero_testBit, Bool.false_or]
  rfl

/-! ### A block moves to its spare -/

/-- With room in the log the record of a fence is its newest, and on-die memory stays as it stands (R374, R377). -/
theorem recordFence_records {u : State} (i : Nat) (f : FenceE) (hroom : 256 < u.logFree) :
    (u.recordFence i f).sram = u.sram ∧
      (u.recordFence i f).newest Code.SRAM_FENCE_SET 1 3 (256 * f.block) (sramRegion (256 * f.block)) i := by
  have hkept : Only 135675336821047329 u ((u.putKeep 0x0021 0 u.sram.fenceBytes).commit 0x0040 .firmware 0 0 f.image [Code.SRAM_FENCE_SET]) :=
    only_commit _ _ _ _ _ _ rfl (only_putKeep _ _ _ rfl (only_refl _ u))
  unfold State.recordFence
  dsimp only
  generalize (u.putKeep 0x0021 0 u.sram.fenceBytes).commit 0x0040 .firmware 0 0 f.image [Code.SRAM_FENCE_SET] = w at hkept
  have hfree : 256 < w.logFree := by rwa [logFree_congr (hkept.log rfl)]
  rw [record_room _ hfree]
  exact ⟨((only_recordRaw (mm := 78398662313265602577) _ rfl (only_refl _ w)).sram rfl).trans (hkept.sram rfl), newest_recordRaw _ hfree⟩

/-- The fences once the one at place i has moved. -/
def Sram.fencesMoved (m : Sram) (i : Nat) : List FenceE :=
  m.fences.zipIdx.map (fun f => if f.2 = i then { f.1 with moving := false, inForce := true } else f.1)

theorem getElem?_fencesMoved (m : Sram) (i j : Nat) :
    (m.fencesMoved i)[j]? = m.fences[j]?.map (fun f => if j = i then { f with moving := false, inForce := true } else f) := by
  unfold Sram.fencesMoved
  rw [List.getElem?_map, List.getElem?_zipIdx, Option.map_map]
  congr 1
  funext x
  simp

/-- The entry of a block that has moved is in force and recorded; the others stay (R374). -/
theorem fenceMove_records {i : Nat} {f : FenceE} {s : State} (hi : s.sram.fences.findIdx? (·.moving) = some i)
    (hf : s.sram.fences[i]? = some f) (hroom : 256 < s.logFree) :
    ∃ t, exec .fenceMoveDone s = .next t ∧ t.sram.fences[i]? = some { f with moving := false, inForce := true } ∧
      (∀ j, j ≠ i → t.sram.fences[j]? = s.sram.fences[j]?) ∧ t.newest Code.SRAM_FENCE_SET 1 3 (256 * f.block) (sramRegion (256 * f.block)) i := by
  have hat : (s.sram.fencesMoved i)[i]? = some { f with moving := false, inForce := true } := by
    rw [getElem?_fencesMoved, hf]
    simp
  have hexec : exec .fenceMoveDone s = .next (State.recordFence
      { s with sram := { s.sram with fences := s.sram.fencesMoved i } } i { f with moving := false, inForce := true }) := by
    show execFenceMoveDone s = _
    unfold execFenceMoveDone
    rw [hi]
    change (match (s.sram.fencesMoved i)[i]? with | some f => _ | none => _) = _
    rw [hat]
    rfl
  obtain ⟨hsram, hnewest⟩ := recordFence_records (u := { s with sram := { s.sram with fences := s.sram.fencesMoved i } }) i
    { f with moving := false, inForce := true } hroom
  refine ⟨_, hexec, ?_, fun j hj => ?_, hnewest⟩
  · rw [hsram]
    exact hat
  · rw [hsram]
    show (s.sram.fencesMoved i)[j]? = _
    rw [getElem?_fencesMoved]
    simp [hj]

/-! ### The vote of the bell words -/

theorem exec_bellVote {s : State} (hpow : s.power ≠ .night) (hboot : s.booted = true) (found : List (Nat × List (BitVec 64 × BitVec 8))) :
    exec (.bellVote found []) s = .next (s.voteAll found) :=
  (if_neg (by simp [hpow, hboot]) : execBellVote found [] s = _)

/-- A vote of words as they were written changes nothing. -/
theorem voteAll_nil (s : State) : s.voteAll [] = s := by
  unfold State.voteAll
  exact (foldl_range_at _ 64 (fun _ _ _ => rfl) 64 s).trans (if_neg (by decide))

/-- A vote of one word is that word's (R381). -/
theorem voteAll_one {s : State} {n : Nat} (hn : n ≤ 63) {copies : List (BitVec 64 × BitVec 8)} (hlen : copies.length = 3) :
    s.voteAll [(n, copies)] = s.voteWord n copies := by
  have hcopies : ∀ u : State, u.bellCopies [(n, copies)] n = copies := fun u => by
    unfold State.bellCopies
    rw [List.find?_cons_of_pos (by simp [hlen])]
  unfold State.voteAll
  refine (foldl_range_at _ n (fun u i hi => ?_) 64 s).trans ((if_pos (by omega)).trans ?_)
  · rw [if_neg (by simp [Ne.symm hi])]
  · rw [if_pos (by simp), hcopies]

/-- A lone bad copy is rewritten, counted and reported (R381). -/
theorem voteWord_rewrites {s : State} {n : Nat} (hn : n ≤ 63) {copies : List (BitVec 64 × BitVec 8)} {v : BitVec 64} {bad : Nat}
    (hvote : bellVote n copies = some (v, bad)) (hbad : 0 < bad) (hroom : 256 < s.logFree) :
    (s.voteWord n copies).newest Code.BELL_REWRITE 0 8 n 0 0 ∧
      (s.voteWord n copies).rd R.SRAM_BELL_REWRITES = min (2 ^ 32 - 1) (s.rd R.SRAM_BELL_REWRITES + bad) ∧
      (n ≠ 3 → (s.voteWord n copies).bell n = v.toNat) ∧ ∀ m, m ≠ 3 → m ≠ n → (s.voteWord n copies).bell m = s.bell m := by
  let u := if v.toNat = s.bell n then s else s.putBell n v.toNat
  have hput : Only 562949953421312 s u := only_ite (only_refl _ s) (only_putBell n v.toNat rfl (only_refl _ s))
  have hbell : ∀ m, u.bell m = if n = m then v.toNat else s.bell m := fun m => by
    by_cases hv : v.toNat = s.bell n
    · rw [show u = s from if_pos hv]
      split
      · rw [hv, ‹n = m›]
      · rfl
    · rw [show u = s.putBell n v.toNat from if_neg hv, bell_putBell _ _ _ _ v.isLt]
  let w := (u.commit 0x0040 .firmware n (s.bell n) v.toNat [Code.BELL_REWRITE]).bump R.SRAM_BELL_REWRITES 31 0 bad
  have hw : Only 562949953421345 s w := only_bump _ _ _ _ rfl (only_commit _ _ _ _ _ _ rfl (only_mono rfl hput))
  have hfree : 256 < w.logFree := by rwa [logFree_congr (hw.log rfl)]
  have heq : s.voteWord n copies = w.recordRaw { code := Code.BELL_REWRITE, cls := 0, lk := 8, l0 := n } := by
    rw [← record_room _ hfree]
    unfold State.voteWord
    rw [hvote]
    exact if_neg (by omega)
  have hcommit : (u.commit 0x0040 .firmware n (s.bell n) v.toNat [Code.BELL_REWRITE]).rd R.SRAM_BELL_REWRITES = s.rd R.SRAM_BELL_REWRITES := by
    rw [regsOff_commit_keep (s := u) 0x0040 .firmware (show pageOf n = 0 by unfold pageOf; omega) _ _ _ (regsOff_refl _ u) _ (by decide)]
    exact rd_congr (hput.regs rfl) _
  have hafter : ∀ m, m ≠ 3 → (s.voteWord n copies).bell m = u.bell m := fun m hm => by
    have hrec : (w.recordRaw { code := Code.BELL_REWRITE, cls := 0, lk := 8, l0 := n }).bells = w.bells :=
      (only_recordRaw (mm := 78398662313265602577) _ rfl (only_refl _ w)).bells rfl
    rw [heq, show State.bell _ m = (u.commit 0x0040 .firmware n (s.bell n) v.toNat [Code.BELL_REWRITE]).bell m from
      congrArg (fun b => (kget bellFactory b m).toNat) hrec, bell_commit _ _ _ _ _ _ _ hm]
  refine ⟨heq ▸ newest_recordRaw _ hfree, ?_, fun hn3 => ?_, fun m hm hne => ?_⟩
  · rw [heq, rd_recordRaw_far w _ (by decide) (by decide), rd_bump_whole, hcommit]
  · rw [hafter n hn3, hbell, if_pos rfl]
  · rw [hafter m hm, hbell, if_neg (Ne.symm hne)]

/-- With no majority left the run ends (R381, R484). -/
theorem voteWord_dies {s : State} {n : Nat} {copies : List (BitVec 64 × BitVec 8)} (hfatal : s.fatal = 0) (hvote : bellVote n copies = none) :
    (s.voteWord n copies).deadBy Code.BELL_NO_MAJORITY := by
  unfold State.voteWord
  rw [hvote]
  exact deadBy_deviceFatal hfatal _ (by decide : Code.BELL_NO_MAJORITY ≠ 0) (by decide : Code.BELL_NO_MAJORITY < 2 ^ 32)

/-- Settles O49: a FILL is `startFill` and `filledAll`, a moved block is `recordFence`, and the vote of one word is `voteWord`. -/
theorem sramRepairs : Obligations.SramRepairs := by
  unfold Obligations.SramRepairs
  refine ⟨fun o v s hp hfull _ hgo => ⟨fill_starts hp hfull hgo, fill_refused hp hgo⟩, fun s => fillDone_empties,
    fun i f s => fenceMove_records, fun n copies s hn hlen hpow hboot => ⟨?_, fun v bad hvote hbad hroom => ?_, fun _ hfatal hvote => ?_⟩⟩
  · rw [exec_bellVote hpow hboot, voteAll_nil]
  · exact ⟨_, (exec_bellVote hpow hboot _).trans (congrArg _ (voteAll_one hn hlen)), voteWord_rewrites hn hvote hbad hroom⟩
  · exact ⟨_, (exec_bellVote hpow hboot _).trans (congrArg _ (voteAll_one hn hlen)), voteWord_dies hfatal hvote⟩

end Sys2Proof.Machine
end

section
/-! SUPPORT. The CRC engines: their registers, their commands, and the end of a memory job (spec/12_integrity.md). -/

namespace Sys2Proof.Machine

/-! ### An engine's registers -/

theorem engReg_ne {e a b : Nat} (h : a ≠ b) : engReg e a ≠ engReg e b := fun h' =>
  h (Nat.add_right_cancel h')

theorem engReg_eq_iff {e a b : Nat} : engReg e a = engReg e b ↔ a = b := ⟨fun h => Nat.add_right_cancel h, fun h => h ▸ rfl⟩

theorem engReg_add (e a n : Nat) : engReg e a + n = engReg e (a + n) := Nat.add_right_comm _ _ _

/-- The registers that show what an engine does: its STATE, STATUS of the page, and what a record and an interrupt may change. -/
def engineShown (e : Nat) : List RegAddr := engReg e R.CRC_E_STATE :: 0x14008 :: recordRegs 20

theorem engReg_offOf {e k : Nat} (he : e ≤ 7) (hlo : 0x14240 ≤ k) (hhi : k < 0x14280) : ¬ offOf (engReg e k) < 0x100 := by
  unfold offOf engReg
  omega

theorem engReg_ne_status {e k : Nat} (hk : 0x14240 ≤ k := by decide) : 0x14008 ≠ engReg e k :=
  Nat.ne_of_lt (Nat.lt_of_lt_of_le (by decide) (Nat.le_trans hk (Nat.le_add_right _ _)))

theorem engReg_not_logRegs {e k : Nat} (hlo : 0x14240 ≤ k) : engReg e k ∉ logRegs := by
  have hlog : ∀ b ∈ logRegs, b < 0x14240 := by decide
  exact fun h => Nat.not_lt.mpr (Nat.le_trans hlo (Nat.le_add_right _ _)) (hlog _ h)

theorem engReg_not_recordRegs {e k : Nat} (he : e ≤ 7) (hlo : 0x14240 ≤ k) (hhi : k < 0x14280) : engReg e k ∉ recordRegs 20 := fun h =>
  (mem_recordRegs h).elim (engReg_offOf he hlo hhi) (engReg_not_logRegs hlo)

theorem engReg_not_shown {e k : Nat} (he : e ≤ 7) (hlo : 0x14240 ≤ k) (hhi : k < 0x14280) (hk : k ≠ R.CRC_E_STATE) :
    engReg e k ∉ engineShown e := by
  unfold engineShown
  rw [List.mem_cons, List.mem_cons, not_or, not_or]
  exact ⟨engReg_ne hk, Nat.ne_of_gt (Nat.lt_of_lt_of_le (by decide) (Nat.le_trans hlo (Nat.le_add_right _ _))), engReg_not_recordRegs he hlo hhi⟩

variable {s t : State} {e : Nat}

theorem width_le (a : Nat) : (crcAlg a).width ≤ 64 := by
  unfold crcAlg
  split <;> decide

theorem init_lt (a : Nat) : (crcAlg a).init < 2 ^ (crcAlg a).width := by
  unfold crcAlg
  split <;> decide

/-- The algorithm of an engine is what CFG says. -/
theorem engAlg_of_rd (h : t.rd (engReg e R.CRC_E_CFG) = s.rd (engReg e R.CRC_E_CFG)) : t.engAlg e = s.engAlg e := by
  unfold State.engAlg State.fld
  rw [h]

/-- VALUE is what its two registers hold, over the algorithm's width (R404). -/
theorem engValue_of_rd (hcfg : t.rd (engReg e R.CRC_E_CFG) = s.rd (engReg e R.CRC_E_CFG))
    (hlow : t.rd (engReg e R.CRC_E_VALUE_L) = s.rd (engReg e R.CRC_E_VALUE_L))
    (hhigh : t.rd (engReg e R.CRC_E_VALUE_L + 4) = s.rd (engReg e R.CRC_E_VALUE_L + 4)) : t.engValue e = s.engValue e := by
  unfold State.engValue State.rd64
  rw [hlow, hhigh, engAlg_of_rd hcfg]

theorem engValue_setValue (s : State) (e v : Nat) : (s.setValue e v).engValue e = v % 2 ^ (s.engAlg e).width := by
  have hcfg : (s.setValue e v).engAlg e = s.engAlg e := by
    refine engAlg_of_rd ?_
    unfold State.setValue State.wr64
    rw [rd_wr_other _ (by rw [engReg_add]; exact engReg_ne (by decide)), rd_wr_other _ (engReg_ne (by decide))]
  unfold State.engValue
  rw [hcfg, show (s.setValue e v).rd64 (engReg e R.CRC_E_VALUE_L) = _ from rd64_wr64 _ _ _]
  rw [Nat.mod_mod_of_dvd _ (Nat.pow_dvd_pow 2 (show (s.engAlg e).width ≤ 64 from width_le _)), Nat.mod_mod]

theorem regsOff_setValue (s : State) (e v : Nat) :
    RegsOff [engReg e R.CRC_E_VALUE_L, engReg e R.CRC_E_VALUE_L + 4] s (s.setValue e v) :=
  regsOff_wr _ _ (by simp) (regsOff_wr _ _ (by simp) (regsOff_refl _ s))

/-- What shows an engine's work leaves its algorithm and its VALUE. -/
theorem engAlg_of_shown (he : e ≤ 7) (h : RegsOff (engineShown e) s t) : t.engAlg e = s.engAlg e :=
  engAlg_of_rd (h _ (engReg_not_shown he (by decide) (by decide) (by decide)))

theorem engValue_of_shown (he : e ≤ 7) (h : RegsOff (engineShown e) s t) : t.engValue e = s.engValue e :=
  engValue_of_rd (h _ (engReg_not_shown he (by decide) (by decide) (by decide)))
    (h _ (engReg_not_shown he (by decide) (by decide) (by decide)))
    (h _ (by rw [engReg_add]; exact engReg_not_shown he (by decide) (by decide) (by decide)))

theorem engine_setEngine_same (s : State) (e : Nat) (x : Engine) : (s.setEngine e x).engine e = x :=
  (kget_kset (fun _ => ({} : Engine)) s.engines e e x).trans (if_pos rfl)

theorem engine_setEngine_other (s : State) {e i : Nat} (x : Engine) (h : i ≠ e) : (s.setEngine e x).engine i = s.engine i :=
  (kget_kset (fun _ => ({} : Engine)) s.engines e i x).trans (if_neg (Ne.symm h))

theorem engine_congr (h : t.engines = s.engines) (i : Nat) : t.engine i = s.engine i := by
  unfold State.engine
  rw [h]

/-! ### The parts of an engine's commands -/

theorem rd_raiseIrq_far (s : State) (p bit : Nat) {a : RegAddr} (ha : ¬ offOf a < 0x100) : (s.raiseIrq p bit).rd a = s.rd a := by
  refine regsOff_raiseIrq (l := [p * 0x1000 + 0x10, p * 0x1000 + 0x18]) p bit (by simp) (by simp) (regsOff_refl _ s) a fun h => ha ?_
  simp only [List.mem_cons, List.not_mem_nil, or_false] at h
  rcases h with rfl | rfl <;> (unfold offOf; omega)

theorem fld_raiseIrq_state (he : e ≤ 7) (p bit hi lo : Nat) :
    (s.raiseIrq p bit).fld (engReg e R.CRC_E_STATE) hi lo = s.fld (engReg e R.CRC_E_STATE) hi lo :=
  fld_of_rd (rd_raiseIrq_far s p bit (engReg_offOf he (by decide) (by decide))) hi lo

theorem fld_recordRaw_state (he : e ≤ 7) (a : RecArg) (hi lo : Nat) :
    (s.recordRaw a).fld (engReg e R.CRC_E_STATE) hi lo = s.fld (engReg e R.CRC_E_STATE) hi lo :=
  fld_of_rd (rd_recordRaw_far s a (engReg_offOf he (by decide) (by decide)) (engReg_not_logRegs (by decide))) hi lo

theorem regsOff_crcDone (h : RegsOff (engineShown e) s t) : RegsOff (engineShown e) s (t.crcDone e) :=
  regsOff_raiseIrq 20 e (by simp [engineShown, recordRegs]) (by simp [engineShown, recordRegs])
    (regsOff_setFld _ _ _ _ (by simp [engineShown]) h)

theorem done_crcDone (he : e ≤ 7) : (s.crcDone e).fld (engReg e R.CRC_E_STATE) 1 1 = 1 := by
  unfold State.crcDone
  rw [fld_raiseIrq_state he, fld_setFld_bit _ _ (by decide)]

theorem fld_crcDone (he : e ≤ 7) {hi lo : Nat} (hap : hi < 1 ∨ 1 < lo) :
    (s.crcDone e).fld (engReg e R.CRC_E_STATE) hi lo = s.fld (engReg e R.CRC_E_STATE) hi lo := by
  unfold State.crcDone
  rw [fld_raiseIrq_state he, fld_setFld_apart _ _ (by decide) (by decide) hap]

/-- The state in which a comparison has found a mismatch (R410). -/
def State.mismatched (s : State) (e : Nat) : State :=
  ((s.setFld (engReg e R.CRC_E_STATE) 2 2 1).recordRaw { code := Code.CRC_MISMATCH, cls := 0, lk := 8, l0 := e }).raiseIrq 20 (8 + e)

theorem crcCompare_room (hroom : 256 < s.logFree) : s.crcCompare e =
    if s.fld (engReg e R.CRC_E_CFG) 8 8 = 0 then s
    else if s.engResult e = s.rd64 (engReg e R.CRC_E_EXPECT_L) % 2 ^ (s.engAlg e).width then s else s.mismatched e := by
  unfold State.crcCompare
  rw [record_room _ (show 256 < (s.setFld _ _ _ _).logFree from hroom)]
  rfl

/-- The registers that a record of page p may change. -/
theorem regsOff_recordRaw_page {l : List RegAddr} {s t : State} {a : RecArg} {p : Nat} (hp : a.page = p) (hl : ∀ b ∈ recordRegs p, b ∈ l)
    (h : RegsOff l s t) : RegsOff l s (t.recordRaw a) := regsOff_recordRaw a (by rwa [hp]) h

theorem mem_engineShown {e : Nat} {b : RegAddr} (h : b ∈ recordRegs 20) : b ∈ engineShown e :=
  List.mem_cons_of_mem _ (List.mem_cons_of_mem _ h)

theorem regsOff_mismatched (s : State) (e : Nat) : RegsOff (engineShown e) s (s.mismatched e) := by
  have hrec : ∀ u : State, RegsOff (engineShown e) u (u.recordRaw { code := Code.CRC_MISMATCH, cls := 0, lk := 8, l0 := e }) := fun u =>
    regsOff_recordRaw_page (by decide : Code.CRC_MISMATCH / 256 = 20) (fun _ => mem_engineShown) (regsOff_refl _ u)
  have hset : RegsOff (engineShown e) s (s.setFld (engReg e R.CRC_E_STATE) 2 2 1) := regsOff_setFld _ _ _ _ (by simp [engineShown]) (regsOff_refl _ s)
  exact regsOff_raiseIrq 20 (8 + e) (by simp [engineShown, recordRegs]) (by simp [engineShown, recordRegs]) (hset.trans (hrec _))

theorem mismatch_mismatched (he : e ≤ 7) : (s.mismatched e).fld (engReg e R.CRC_E_STATE) 2 2 = 1 := by
  unfold State.mismatched
  rw [fld_raiseIrq_state he, fld_recordRaw_state he, fld_setFld_bit _ _ (by decide)]

theorem fld_mismatched (he : e ≤ 7) {hi lo : Nat} (hap : hi < 2 ∨ 2 < lo) :
    (s.mismatched e).fld (engReg e R.CRC_E_STATE) hi lo = s.fld (engReg e R.CRC_E_STATE) hi lo := by
  unfold State.mismatched
  rw [fld_raiseIrq_state he, fld_recordRaw_state he, fld_setFld_apart _ _ (by decide) (by decide) hap]

/-- A comparison changes only what shows it: MISMATCH, its record and its interrupt (R410). -/
theorem crcCompare_shows (he : e ≤ 7) (hroom : 256 < s.logFree) :
    RegsOff (engineShown e) s (s.crcCompare e) ∧
      (s.crcCompare e).fld (engReg e R.CRC_E_STATE) 0 0 = s.fld (engReg e R.CRC_E_STATE) 0 0 := by
  rw [crcCompare_room hroom]
  split
  · exact ⟨regsOff_refl _ s, rfl⟩
  · split
    · exact ⟨regsOff_refl _ s, rfl⟩
    · exact ⟨regsOff_mismatched s e, fld_mismatched he (by decide)⟩

theorem busy_setCrcBusy (s : State) (e : Nat) {b : Nat} (hb : b ≤ 1) : (s.setCrcBusy e b).fld (engReg e R.CRC_E_STATE) 0 0 = b := by
  unfold State.setCrcBusy
  rw [fld_of_rd (rd_setFld_other _ _ _ engReg_ne_status), fld_setFld_same _ _ (by decide) (by decide)]
  exact Nat.mod_eq_of_lt (by omega)

/-! ### The commands -/

theorem crcCmd_idle {o : Origin} {v : Nat} (hen : s.enabled 20 = true) (hidle : s.crcBusy e = false) : s.crcCmd o e v =
    let s1 := if fieldOf v 0 0 = 1 then s.setValue e (s.engAlg e).init else s
    let s2 := if fieldOf v 1 1 = 1 then s1.crcStart o e else s1
    if fieldOf v 2 2 = 1 ∧ !s2.crcBusy e then s2.crcCheck e else s2 := by
  unfold State.crcCmd
  rw [if_neg (by simp [hen]), if_neg (by simp [hidle])]

theorem writeCmd_admitted {o : Origin} {v : Nat} (he : e ≤ 7) (hp : s.permit o (engReg e R.CRC_E_CMD) v = .ok s) :
    ∃ x, s.writeCmd o e v = State.crcCmd { s with trace := x } o e v := by
  obtain ⟨x, hx⟩ := act_admitted hp (fun s => s.crcCmd o e v)
  exact ⟨x, (if_neg (by omega)).trans hx⟩

/-- CMD.INIT puts the algorithm's initial value into VALUE (R404). -/
theorem crcInit_sets {o : Origin} (he : e ≤ 7) (hen : s.enabled 20 = true) (hidle : s.crcBusy e = false)
    (hp : s.permit o (engReg e R.CRC_E_CMD) 1 = .ok s) :
    ∃ t, exec (.crcInit o e) s = .next t ∧ t = { s with regs := t.regs, trace := t.trace } ∧ t.engValue e = (s.engAlg e).init ∧
      s.regsBut t [engReg e R.CRC_E_VALUE_L, engReg e R.CRC_E_VALUE_L + 4] := by
  obtain ⟨x, hx⟩ := writeCmd_admitted he hp
  have hcmd : State.crcCmd { s with trace := x } o e 1 = State.setValue { s with trace := x } e (s.engAlg e).init :=
    crcCmd_idle (s := { s with trace := x }) hen hidle
  refine ⟨_, congrArg Host.Outcome.next (hx.trans hcmd), (only_setValue (mm := 1) _ _ rfl (only_refl _ _)).eq_takes, ?_, regsOff_setValue { s with trace := x } e _⟩
  exact (engValue_setValue _ e _).trans (Nat.mod_eq_of_lt (init_lt _))

/-- CMD.START runs a memory job over a range that may be read (R406, R407). -/
theorem crcStart_runs {o : Origin} (he : e ≤ 7) (hen : s.enabled 20 = true) (hidle : s.crcBusy e = false)
    (hp : s.permit o (engReg e R.CRC_E_CMD) 2 = .ok s)
    (hrange : s.rangeBad (s.engSrc e).1 (s.rd (engReg e R.CRC_E_LEN)) (s.engSrc e).2 = false)
    (hopen : o = .firmware ∨ rangeOpen (s.engSrc e).1 (s.rd (engReg e R.CRC_E_LEN)) (s.engSrc e).2 = true) :
    ∃ t, exec (.crcStart o e) s = .next t ∧ t = { s with regs := t.regs, engines := t.engines, trace := t.trace } ∧ t.crcBusy e = true ∧
      t.engine e = { run := 1, origin := o } ∧ t.rd (engReg e R.CRC_E_COUNT) = 0 ∧ ∀ i, i ≠ e → t.engine i = s.engine i := by
  obtain ⟨x, hx⟩ := writeCmd_admitted he hp
  have hcmd : State.crcCmd { s with trace := x } o e 2 = State.crcStart { s with trace := x } o e :=
    crcCmd_idle (s := { s with trace := x }) hen hidle
  have hstart : State.crcStart { s with trace := x } o e = State.setEngine (State.setCrcBusy
      ((State.setFld { s with trace := x } (engReg e R.CRC_E_STATE) 3 1 0).wr (engReg e R.CRC_E_COUNT) 0) e 1) e { run := 1, origin := o } := by
    have hdenied : ¬ (o ≠ .firmware ∧ (!rangeOpen (s.engSrc e).1 (s.rd (engReg e R.CRC_E_LEN)) (s.engSrc e).2) = true) := fun ⟨ho, hclosed⟩ =>
      hopen.elim ho (fun h => by rw [h] at hclosed; exact absurd hclosed (by decide))
    exact (if_neg (Bool.eq_false_iff.mp hrange)).trans (if_neg hdenied)
  generalize hu : (State.setFld { s with trace := x } (engReg e R.CRC_E_STATE) 3 1 0).wr (engReg e R.CRC_E_COUNT) 0 = u at hstart
  have honly : Only 4611686018427387905 s u := hu ▸ only_wr _ _ rfl (only_setFld _ _ _ _ rfl (only_put4611686018427387904 rfl (only_refl _ s)))
  have hcount : u.rd (engReg e R.CRC_E_COUNT) = 0 := hu ▸ rd_wr_same _ _ (by decide)
  have hengine : ∀ i, (u.setCrcBusy e 1).engine i = s.engine i := fun i =>
    engine_congr (honly.engines rfl) i
  refine ⟨_, congrArg Host.Outcome.next (hx.trans (hcmd.trans hstart)), ?_, ?_, ?_, ?_, fun i hi => ?_⟩
  · exact (only_setEngine (mm := 4616189618054758401) _ _ rfl (only_setCrcBusy _ _ rfl (only_mono rfl honly))).eq_takes
  · exact beq_of_eq ((fld_of_rd (rd_setFld_other _ _ _ (engReg_ne_status)) _ _).trans (fld_setFld_bit u (engReg e R.CRC_E_STATE) (b := 0) (by decide)))
  · exact engine_setEngine_same _ _ _
  · exact (rd_setFld_other _ _ _ (engReg_ne_status)).trans ((rd_setFld_other _ _ _ (engReg_ne (by decide))).trans hcount)
  · exact (engine_setEngine_other _ _ hi).trans (hengine i)

/-- The state in which a memory job has ended in error, with room in the log (R406, R412). -/
theorem crcFail_room {o : Origin} {code : Nat} (hroom : 256 < s.logFree) : s.crcFail e o code =
    (((s.setFld (engReg e R.CRC_E_STATE) 31 16 code).setFld (engReg e R.CRC_E_STATE) 3 3 1).recordRaw
      { code, cls := 7, origin := o, lk := 8, l0 := e }).crcDone e := by
  have hfree : 256 < ((s.setFld (engReg e R.CRC_E_STATE) 31 16 code).setFld (engReg e R.CRC_E_STATE) 3 3 1).logFree := hroom
  unfold State.crcFail
  dsimp only
  rw [record_room _ hfree]

theorem crcFail_shows {u : State} {o : Origin} {code : Nat} (he : e ≤ 7) (hroom : 256 < u.logFree) :
    (u.crcFail e o code).crcBusy e = u.crcBusy e ∧ (u.crcFail e o code).engines = u.engines ∧ (u.crcFail e o code).newest code 7 8 e 0 0 ∧
      (u.crcFail e o code).fld (engReg e R.CRC_E_STATE) 1 1 = 1 ∧ (u.crcFail e o code).fld (engReg e R.CRC_E_STATE) 3 3 = 1 := by
  rw [crcFail_room hroom]
  have hset : Only 1 u ((u.setFld (engReg e R.CRC_E_STATE) 31 16 code).setFld (engReg e R.CRC_E_STATE) 3 3 1) :=
    only_setFld _ _ _ _ rfl (only_setFld _ _ _ _ rfl (only_refl _ u))
  have herror := fld_setFld_bit (u.setFld (engReg e R.CRC_E_STATE) 31 16 code) (engReg e R.CRC_E_STATE) (b := 3) (by decide)
  have hbusy : ((u.setFld (engReg e R.CRC_E_STATE) 31 16 code).setFld (engReg e R.CRC_E_STATE) 3 3 1).fld (engReg e R.CRC_E_STATE) 0 0 =
      u.fld (engReg e R.CRC_E_STATE) 0 0 :=
    (fld_setFld_apart _ _ (by decide) (by decide) (by decide)).trans (fld_setFld_apart _ _ (by decide) (by decide) (by decide))
  generalize (u.setFld (engReg e R.CRC_E_STATE) 31 16 code).setFld (engReg e R.CRC_E_STATE) 3 3 1 = w at *
  have hdone : ∀ v : State, Only 73786976294838206465 v (v.crcDone e) := fun v => only_crcDone e rfl (only_refl _ v)
  have hrec := only_recordRaw (mm := 78398662313265602577) { code, cls := 7, origin := o, lk := 8, l0 := e } rfl (only_refl _ w)
  obtain ⟨r, hr, hrest⟩ := newest_recordRaw (s := w) { code, cls := 7, origin := o, lk := 8, l0 := e } (by rwa [logFree_congr (hset.log rfl)])
  refine ⟨congrArg (· == 1) ?_, ((hdone _).engines rfl).trans ((hrec.engines rfl).trans (hset.engines rfl)),
    ⟨r, (congrArg (·.recs.head?) ((hdone _).log rfl)).trans hr, hrest⟩, done_crcDone he, ?_⟩
  · rw [fld_crcDone he (by decide), fld_recordRaw_state he, hbusy]
  · rw [fld_crcDone he (by decide), fld_recordRaw_state he, herror]

/-- CMD.START of a range that leaves the memory in service ends in error at once (R406, R412). -/
theorem crcStart_range {o : Origin} (he : e ≤ 7) (hen : s.enabled 20 = true) (hidle : s.crcBusy e = false)
    (hp : s.permit o (engReg e R.CRC_E_CMD) 2 = .ok s)
    (hrange : s.rangeBad (s.engSrc e).1 (s.rd (engReg e R.CRC_E_LEN)) (s.engSrc e).2 = true) (hroom : 256 < s.logFree) :
    ∃ t, exec (.crcStart o e) s = .next t ∧ t.crcBusy e = false ∧ t.engines = s.engines ∧ t.newest Code.CRC_SOURCE_RANGE 7 8 e 0 0 ∧
      t.fld (engReg e R.CRC_E_STATE) 1 1 = 1 ∧ t.fld (engReg e R.CRC_E_STATE) 3 3 = 1 := by
  obtain ⟨x, hx⟩ := writeCmd_admitted he hp
  have hcmd : State.crcCmd { s with trace := x } o e 2 = State.crcStart { s with trace := x } o e :=
    crcCmd_idle (s := { s with trace := x }) hen hidle
  have hstart : State.crcStart { s with trace := x } o e = State.crcFail
      ((State.setFld { s with trace := x } (engReg e R.CRC_E_STATE) 3 1 0).wr (engReg e R.CRC_E_COUNT) 0) e o Code.CRC_SOURCE_RANGE :=
    if_pos hrange
  have honly := only_wr (mm := 4611686018427387905) (engReg e R.CRC_E_COUNT) 0 rfl (only_setFld (engReg e R.CRC_E_STATE) 3 1 0 rfl
    (only_put4611686018427387904 (v62 := x) rfl (only_refl _ s)))
  have hbusy : ((State.setFld { s with trace := x } (engReg e R.CRC_E_STATE) 3 1 0).wr (engReg e R.CRC_E_COUNT) 0).crcBusy e = s.crcBusy e :=
    congrArg (· == 1) ((fld_of_rd (rd_wr_other _ (engReg_ne (by decide))) 0 0).trans
      (fld_setFld_apart (s := { s with trace := x }) _ _ (by decide) (by decide) (by decide)))
  generalize (State.setFld { s with trace := x } (engReg e R.CRC_E_STATE) 3 1 0).wr (engReg e R.CRC_E_COUNT) 0 = u at *
  obtain ⟨hkept, hengines, hnewest, hdone, herror⟩ := crcFail_shows (o := o) (code := Code.CRC_SOURCE_RANGE) he
    (show 256 < u.logFree by rwa [logFree_congr (honly.log rfl)])
  exact ⟨_, congrArg Host.Outcome.next (hx.trans (hcmd.trans hstart)), hkept.trans (hbusy.trans hidle), hengines.trans (honly.engines rfl),
    hnewest, hdone, herror⟩

/-- CMD.CHECK compares RESULT with EXPECT and shows a mismatch (R410). -/
theorem crcCheck_compares {o : Origin} (he : e ≤ 7) (hen : s.enabled 20 = true) (hidle : s.crcBusy e = false)
    (hp : s.permit o (engReg e R.CRC_E_CMD) 4 = .ok s) (hcmp : s.fld (engReg e R.CRC_E_CFG) 8 8 = 1) (hroom : 256 < s.logFree) :
    ∃ t, exec (.crcCheck o e) s = .next t ∧ t.fld (engReg e R.CRC_E_STATE) 1 1 = 1 ∧ t.engValue e = s.engValue e ∧
      t.fld (engReg e R.CRC_E_STATE) 2 2 =
        if s.engResult e = s.rd64 (engReg e R.CRC_E_EXPECT_L) % 2 ^ (s.engAlg e).width then 0 else 1 := by
  obtain ⟨x, hx⟩ := writeCmd_admitted he hp
  have hcmd : State.crcCmd { s with trace := x } o e 4 = State.crcCheck { s with trace := x } e :=
    (crcCmd_idle (s := { s with trace := x }) hen hidle).trans (if_pos ⟨by decide, (congrArg (!·) hidle : (!s.crcBusy e) = !false)⟩)
  let u := State.setFld { s with trace := x } (engReg e R.CRC_E_STATE) 2 1 0
  have hu : RegsOff (engineShown e) s u := regsOff_setFld (s := s) (t := { s with trace := x }) _ _ _ _ (by simp [engineShown]) (regsOff_refl _ s)
  have hclear : u.fld (engReg e R.CRC_E_STATE) 2 2 = 0 := by
    unfold State.fld
    rw [rd_setFld_same _ _ (by decide) (by decide), fieldOf_bit, testBit_withField _ _ (by decide), if_pos (by decide), Nat.zero_testBit]
    rfl
  have hresult : u.engResult e = s.engResult e := by
    unfold State.engResult
    rw [engValue_of_shown he hu, engAlg_of_shown he hu]
  have hexpect : u.rd64 (engReg e R.CRC_E_EXPECT_L) = s.rd64 (engReg e R.CRC_E_EXPECT_L) := by
    unfold State.rd64
    rw [engReg_add, hu _ (engReg_not_shown he (by decide) (by decide) (by decide)),
      hu _ (engReg_not_shown he (by decide) (by decide) (by decide))]
  refine ⟨_, congrArg Host.Outcome.next (hx.trans hcmd), done_crcDone he, ?_, ?_⟩
  · exact engValue_of_shown he (regsOff_crcDone (hu.trans (crcCompare_shows (s := u) he hroom).1))
  · show ((u.crcCompare e).crcDone e).fld _ 2 2 = _
    have hon : ¬ u.fld (engReg e R.CRC_E_CFG) 8 8 = 0 := by
      rw [fld_of_rd (hu _ (engReg_not_shown he (by decide) (by decide) (by decide))), hcmp]
      decide
    rw [fld_crcDone he (by decide), crcCompare_room (s := u) hroom, if_neg hon, hresult, hexpect, engAlg_of_shown he hu]
    split
    · exact hclear
    · exact mismatch_mismatched he

/-- DATA feeds its bytes to the engine (R405). -/
theorem crcData_feeds {o : Origin} {v : Nat} (he : e ≤ 7) (hen : s.enabled 20 = true) (hidle : s.crcBusy e = false)
    (hp : s.permit o (engReg e R.CRC_E_DATA) v = .ok s) :
    ∃ t, exec (.crcData o e v) s = .next t ∧ t = { s with regs := t.regs, trace := t.trace } ∧
      t.engValue e = (s.engAlg e).feed (s.engValue e) (leBytes (s.fld (engReg e R.CRC_E_CFG) 17 16 + 1) v) % 2 ^ (s.engAlg e).width ∧
      s.regsBut t [engReg e R.CRC_E_VALUE_L, engReg e R.CRC_E_VALUE_L + 4] := by
  obtain ⟨x, hx⟩ := act_admitted hp (fun s => s.feedData o e v)
  have hfeed : State.feedData { s with trace := x } o e v = State.setValue { s with trace := x } e
      ((s.engAlg e).feed (s.engValue e) (leBytes (s.fld (engReg e R.CRC_E_CFG) 17 16 + 1) v)) :=
    (if_neg (show ¬ (!s.enabled 20) = true by rw [hen]; decide)).trans (if_neg (Bool.eq_false_iff.mp hidle))
  have hexec : exec (.crcData o e v) s = .next (s.act o (engReg e R.CRC_E_DATA) v (fun s => s.feedData o e v)) :=
    (if_neg (by omega) : execCrcData o e v s = _)
  exact ⟨_, hexec.trans (congrArg Host.Outcome.next (hx.trans hfeed)),
    (only_setValue (mm := 1) _ _ rfl (only_refl _ _)).eq_takes, engValue_setValue _ e _, regsOff_setValue { s with trace := x } e _⟩

/-- CMD.ABORT stops a running job at the end of its line (R408). -/
theorem crcAbort_stops {o : Origin} (he : e ≤ 7) (hen : s.enabled 20 = true) (hbusy : s.crcBusy e = true)
    (hp : s.permit o (engReg e R.CRC_E_CMD) 8 = .ok s) :
    ∃ t, exec (.crcAbort o e) s = .next t ∧ t = { s with engines := t.engines, trace := t.trace } ∧ t.engine e = { s.engine e with run := 2 } ∧
      ∀ i, i ≠ e → t.engine i = s.engine i := by
  obtain ⟨x, hx⟩ := writeCmd_admitted he hp
  have hcmd : State.crcCmd { s with trace := x } o e 8 = State.setEngine { s with trace := x } e { s.engine e with run := 2 } :=
    (if_neg (show ¬ (!s.enabled 20) = true by rw [hen]; decide)).trans ((if_pos hbusy).trans ((if_pos (by decide)).trans (if_pos hbusy)))
  exact ⟨_, congrArg Host.Outcome.next (hx.trans hcmd), rfl, engine_setEngine_same _ _ _, fun i hi => engine_setEngine_other _ _ hi⟩

/-- A memory job that has fed all its bytes ends done, its comparison made (R406, R410). -/
theorem crcJobDone_ends {data : List Byte} (he : e ≤ 7) (hrun : (s.engine e).run = 1) (hlen : data.length = s.rd (engReg e R.CRC_E_LEN))
    (hroom : 256 < s.logFree) :
    ∃ t, exec (.crcJobDone e data false) s = .next t ∧ t.engine e = {} ∧ t.crcBusy e = false ∧ t.rd (engReg e R.CRC_E_COUNT) = data.length ∧
      t.fld (engReg e R.CRC_E_STATE) 1 1 = 1 ∧ t.engValue e = (s.engAlg e).feed (s.engValue e) data % 2 ^ (s.engAlg e).width ∧
      ∀ i, i ≠ e → t.engine i = s.engine i := by
  have hends : s.crcEnds e data.length false = true := by
    unfold State.crcEnds
    simp [hlen]
  let s1 := ((s.setEngine e {}).setCrcBusy e 0).setValue e ((s.engAlg e).feed (s.engValue e) data)
  have hexec : exec (.crcJobDone e data false) s = .next (((s1.wr (engReg e R.CRC_E_COUNT) data.length).crcCompare e).crcDone e) := by
    refine (if_neg ?_ : execCrcJobDone e data false s = _).trans ((if_neg Bool.false_ne_true).trans (if_neg (by omega)))
    rw [hrun, hends]
    simp [he]
  have honly : Only 4503599627370497 s (s1.wr (engReg e R.CRC_E_COUNT) data.length) :=
    only_wr _ _ rfl (only_setValue _ _ rfl (only_setCrcBusy _ _ rfl (only_setEngine _ _ rfl (only_refl _ s))))
  have hengines : (s1.wr (engReg e R.CRC_E_COUNT) data.length).engines = (s.setEngine e {}).engines := rfl
  have hcount : (s1.wr (engReg e R.CRC_E_COUNT) data.length).rd (engReg e R.CRC_E_COUNT) = data.length :=
    rd_wr_same _ _ (hlen ▸ rd_lt _)
  have halg : ((s.setEngine e {}).setCrcBusy e 0).engAlg e = s.engAlg e :=
    engAlg_of_rd ((rd_setFld_other _ _ _ engReg_ne_status).trans (rd_setFld_other (s := s.setEngine e {}) _ _ _ (engReg_ne (by decide))))
  have hvalue : (s1.wr (engReg e R.CRC_E_COUNT) data.length).engValue e =
      (s.engAlg e).feed (s.engValue e) data % 2 ^ (s.engAlg e).width := by
    rw [engValue_of_rd (s := s1) (rd_wr_other _ (engReg_ne (by decide))) (rd_wr_other _ (engReg_ne (by decide)))
      (rd_wr_other _ (by rw [engReg_add]; exact engReg_ne (by decide))), engValue_setValue, halg]
  have hbusy : (s1.wr (engReg e R.CRC_E_COUNT) data.length).fld (engReg e R.CRC_E_STATE) 0 0 = 0 := by
    rw [fld_of_rd (rd_wr_other _ (engReg_ne (by decide)) : _ = s1.rd (engReg e R.CRC_E_STATE)),
      fld_of_rd (regsOff_setValue _ e _ _ (by rw [engReg_add, List.mem_cons, List.mem_singleton, engReg_eq_iff, engReg_eq_iff]; decide) : s1.rd (engReg e R.CRC_E_STATE) = _), busy_setCrcBusy _ _ (by decide)]
  generalize s1.wr (engReg e R.CRC_E_COUNT) data.length = u at *
  have hfree : 256 < u.logFree := by rwa [logFree_congr (honly.log rfl)]
  obtain ⟨hshown, hbusy'⟩ := crcCompare_shows (s := u) he hfree
  have hend : Only 117598008931784859665 u ((u.crcCompare e).crcDone e) := only_crcDone _ rfl (only_crcCompare _ rfl (only_refl _ u))
  have hshown' := regsOff_crcDone hshown
  refine ⟨_, hexec, ?_, (congrArg (· == 1) (?_ : _ = 0) : (State.fld _ _ 0 0 == 1) = (0 == 1)), ?_, done_crcDone he, (engValue_of_shown he hshown').trans hvalue, fun i hi => ?_⟩
  · rw [engine_congr (hend.engines rfl), engine_congr hengines, engine_setEngine_same]
  · rw [fld_crcDone he (by decide), hbusy', hbusy]
  · rw [hshown' _ (engReg_not_shown he (by decide) (by decide) (by decide)), hcount]
  · rw [engine_congr (hend.engines rfl), engine_congr hengines, engine_setEngine_other _ _ hi]

/-- Settles O50: each command of an engine is `crcCmd` on the state with its trace record, and the end of a job is what it fed. -/
theorem crcEnginesWork : Obligations.CrcEnginesWork := by
  unfold Obligations.CrcEnginesWork
  exact fun e o s he hen => ⟨fun hidle => ⟨crcInit_sets he hen hidle,
    fun hp => ⟨crcStart_runs he hen hidle hp, crcStart_range he hen hidle hp⟩, crcCheck_compares he hen hidle,
    fun v => crcData_feeds he hen hidle⟩, crcAbort_stops he hen, fun data => crcJobDone_ends he⟩

end Sys2Proof.Machine
end

section
/-! SUPPORT. The host interface at its edges (O12): a doorbell finds the part awake, the completions and the events that were held back
are let out while they fit, and a doorbell out of range is only recorded. -/

namespace Sys2Proof.Machine

variable {s : State}

theorem wake_awake (hpower : s.power = .day) (hphase : s.phase = 0) (cause : Nat) : s.wake cause = s := by
  unfold State.wake
  simp [hpower, hphase]

theorem asleep_awake (hpower : s.power = .day) (hphase : s.phase = 0) : s.asleep = false := by
  unfold State.asleep
  simp [hpower, hphase]

theorem queue_setQueue_same (s : State) (q : Nat) (x : Queue) : (s.setQueue q x).queue q = x :=
  (kget_kset _ _ _ _ _).trans (if_pos rfl)

theorem queue_setQueue_other (s : State) {q p : Nat} (x : Queue) (h : p ≠ q) : (s.setQueue q x).queue p = s.queue p :=
  (kget_kset _ _ _ _ _).trans (if_neg h.symm)

/-! ### Completions let out -/

/-- Nothing that has ended can still be written: each pair is full or has no command whose entry is due. -/
def State.drained (s : State) : Prop := ∀ c ∈ s.host.cmds, (s.queue c.sq).full = true ∨ s.nextDone c.sq = none

theorem writeCompletion_cqHead (q : Nat) (c : Cmd) (d : Nat × Nat × Nat × Nat × Nat) (p : Nat) :
    ((s.writeCompletion q c d).queue p).cqHead = (s.queue p).cqHead := by
  have hset : ∀ (u : State) (x : Queue), u.host.queues = s.host.queues → x.cqHead = (s.queue q).cqHead →
      ((u.setQueue q x).queue p).cqHead = (s.queue p).cqHead := fun u x hu hx => by
    by_cases hp : p = q
    · rw [hp, queue_setQueue_same, hx]
    · rw [queue_setQueue_other u x hp]
      unfold State.queue
      rw [hu]
  unfold State.writeCompletion
  dsimp only
  split
  · exact hset _ _ rfl rfl
  · exact hset _ _ rfl rfl

theorem writeCompletion_visible (q : Nat) (c : Cmd) (d : Nat × Nat × Nat × Nat × Nat) :
    (s.writeCompletion q c d).host.visible = s.host.visible := by
  unfold State.writeCompletion
  dsimp only
  split <;> rfl

theorem writeCompletion_fewer {q : Nat} {c : Cmd} (d : Nat × Nat × Nat × Nat × Nat) (hc : c ∈ s.host.cmds) :
    (s.writeCompletion q c d).host.cmds.length < s.host.cmds.length := by
  rw [writeCompletion_cmds]
  exact List.length_filter_lt_length_iff_exists.mpr ⟨c, hc, by simp⟩

theorem drainCq_heads : ∀ (f : Nat) (s : State), (State.drainCq f s).host.visible = s.host.visible ∧
    ∀ p, ((State.drainCq f s).queue p).cqHead = (s.queue p).cqHead
  | 0, _ => ⟨rfl, fun _ => rfl⟩
  | f + 1, s => by
    unfold State.drainCq
    split
    · exact ⟨rfl, fun _ => rfl⟩
    · next q _ =>
      split
      · exact ⟨rfl, fun _ => rfl⟩
      · next c d _ =>
        obtain ⟨hvisible, hhead⟩ := drainCq_heads f (s.writeCompletion q c d)
        exact ⟨hvisible.trans (writeCompletion_visible q c d), fun p => (hhead p).trans (writeCompletion_cqHead q c d p)⟩

/-- Each entry written takes its command away, so as many rounds as there are commands let out all that fits. -/
theorem drained_drainCq : ∀ (f : Nat) (s : State), s.host.cmds.length < f → (State.drainCq f s).drained
  | 0, _, h => absurd h (Nat.not_lt_zero _)
  | f + 1, s, h => by
    unfold State.drainCq
    split
    · next hnone =>
      intro c hc
      have hstays := List.find?_eq_none.mp hnone c.sq (List.mem_map_of_mem hc)
      cases hfull : (s.queue c.sq).full with
      | true => exact .inl rfl
      | false => exact .inr (by simpa [hfull] using hstays)
    · next q hq =>
      split
      · next hnone =>
        have hdue := List.find?_some hq
        simp [hnone] at hdue
      · next c d hdue =>
        exact drained_drainCq f _ (Nat.lt_of_lt_of_le (writeCompletion_fewer d (nextDone_some hdue).1) (Nat.lt_succ_iff.mp h))

theorem drained_drain (s : State) : s.drain.drained := drained_drainCq _ s (Nat.lt_succ_self _)

/-! ### Events let out -/

theorem putEvent_host (e : Event) : (s.putEvent e).host.backlog = s.host.backlog ∧ (s.putEvent e).host.evqHead = s.host.evqHead ∧
    (s.putEvent e).host.cmds = s.host.cmds := ⟨rfl, rfl, rfl⟩

theorem drainEvents_host : ∀ (f : Nat) (s : State), (State.drainEvents f s).host.evqHead = s.host.evqHead ∧
    (State.drainEvents f s).host.cmds = s.host.cmds
  | 0, _ => ⟨rfl, rfl⟩
  | f + 1, s => by
    unfold State.drainEvents
    split
    · exact ⟨rfl, rfl⟩
    · split
      · exact drainEvents_host f _
      · exact ⟨rfl, rfl⟩

theorem drainEvents_room : ∀ (f : Nat) (s : State), s.host.backlog.length < f →
    (State.drainEvents f s).host.backlog = [] ∨ (State.drainEvents f s).evqRoom = false
  | 0, _, h => absurd h (Nat.not_lt_zero _)
  | f + 1, s, h => by
    unfold State.drainEvents
    split
    · next hempty => exact .inl hempty
    · next e es hmore =>
      split
      · exact drainEvents_room f _ (by rw [hmore] at h; exact Nat.lt_of_succ_lt_succ h)
      · next hfull => exact .inr (by simpa using hfull)

/-! ### The doorbells -/

theorem badDoorbell_noted (q off v : Nat) (hroom : 256 < s.logFree) :
    (s.badDoorbell q off v).newest Code.HOST_DOORBELL_RANGE 7 6 7 (q * 2 ^ 16 + off) v ∧
      s.badDoorbell q off v = { s with regs := (s.badDoorbell q off v).regs, log := (s.badDoorbell q off v).log, trace := (s.badDoorbell q off v).trace, out := (s.badDoorbell q off v).out } := by
  have hnoted : Noted s (s.badDoorbell q off v) _ := noted_record rfl hroom
  exact ⟨hnoted.newest, hnoted.only.eq_takes⟩

theorem doorbell_taken {q v : Nat} (hen : (s.queue q).en = true) (hv : v < (s.queue q).size) : ¬ ((!(s.queue q).en) = true ∨ v ≥ (s.queue q).size) := by
  simp [hen, hv]

theorem doorbell_barred {q v : Nat} (h : (s.queue q).en = false ∨ (s.queue q).size ≤ v) : (!(s.queue q).en) = true ∨ v ≥ (s.queue q).size :=
  h.imp (fun hen => by rw [hen]; rfl) id

/-- The commands up to the new tail have become visible. -/
def State.tailMoved (s : State) (q v : Nat) : State :=
  let x := s.queue q
  let new := List.replicate ((v + x.size - x.tail % x.size) % x.size) (q, false)
  let u := s.setQueue q { x with tail := v }
  { u with host := { u.host with visible := u.host.visible ++ new } }

/-- A doorbell can act: the part is in Day, has no entry or wake under way, and is in operation. -/
structure State.Answering (s : State) : Prop where
  day : s.power = .day
  phase : s.phase = 0
  booted : s.booted = true
  fatal : s.fatal = 0

namespace State.Answering

variable {q v : Nat}

theorem acts (h : s.Answering) (hq : q ≤ 63) : ¬ (s.power = .night ∨ (!s.booted) = true ∨ s.fatal ≠ 0 ∨ q > 63) := by
  simp [h.day, h.booted, h.fatal, hq]

theorem sqTail (h : s.Answering) (hq : q ≤ 63) : exec (.sqTailDoorbell q v) s =
    .next (if (!(s.queue q).en) = true ∨ v ≥ (s.queue q).size then s.badDoorbell q 0 v
      else s.tailMoved q v) := by
  show execSqTailDoorbell q v s = _
  unfold execSqTailDoorbell
  rw [if_neg (h.acts hq)]
  dsimp only
  rw [wake_awake h.day h.phase, asleep_awake h.day h.phase]
  split <;> rfl

theorem cqHead (h : s.Answering) (hq : q ≤ 63) : exec (.cqHeadDoorbell q v) s =
    .next (if (!(s.queue q).en) = true ∨ v ≥ (s.queue q).size then s.badDoorbell q 4 v
      else (s.setQueue q { s.queue q with cqHead := v }).drain) := by
  show execCqHeadDoorbell q v s = _
  unfold execCqHeadDoorbell
  rw [if_neg (h.acts hq)]
  dsimp only
  rw [wake_awake h.day h.phase]
  split <;> rfl

theorem evqHead (h : s.Answering) : exec (.evqHeadDoorbell v) s =
    .next (if v ≥ s.evqSize then s.badDoorbell 0x40 0 v
      else State.drainEvents (s.host.backlog.length + 1) { s with host := { s.host with evqHead := v } }) := by
  show execEvqHeadDoorbell v s = _
  unfold execEvqHeadDoorbell
  rw [if_neg (by simp [h.day, h.booted, h.fatal])]
  dsimp only
  rw [wake_awake h.day h.phase]
  split <;> rfl

end State.Answering

end Sys2Proof.Machine
end

section
/-! PROOFS. The doorbells and the coalescing time-out (O12). -/

namespace Sys2Proof.Machine

/-- Settles O12: the drains run as many rounds as there are entries, and each round takes one away. -/
theorem doorbellsAct : Obligations.DoorbellsAct := by
  unfold Obligations.DoorbellsAct
  refine ⟨fun q v s hpower hphase hbooted hfatal hq => ?_, fun q v s hpower hphase hbooted hfatal hq _ hroom => ?_, fun q s hq hun => ?_⟩
  · have hans : s.Answering := ⟨hpower, hphase, hbooted, hfatal⟩
    refine ⟨fun hen hv => ⟨⟨_, (hans.sqTail hq).trans (congrArg _ (if_neg (doorbell_taken hen hv))), rfl, queue_setQueue_same s q _,
        fun p hp => queue_setQueue_other s _ hp, rfl, rfl⟩,
      ⟨_, (hans.cqHead hq).trans (congrArg _ (if_neg (doorbell_taken hen hv))), ?_, ?_, ?_, drained_drain _⟩⟩,
      fun hv => ⟨_, hans.evqHead.trans (congrArg _ (if_neg (Nat.not_le_of_lt hv))), ?_, ?_, ?_, drainEvents_room _ _ (Nat.lt_succ_self _)⟩⟩
    · exact (only_drain rfl (only_setQueue q _ rfl (only_refl 73786976294838214656 s))).eq_takes
    · exact ((drainCq_heads _ _).2 q).trans (congrArg Queue.cqHead (queue_setQueue_same s q _))
    · exact (drainCq_heads _ _).1
    · exact (only_drainEvents rfl _ (only_put8192 rfl (only_refl 73786976294838214656 s))).eq_takes
    · exact (drainEvents_host _ _).1
    · exact (drainEvents_host _ _).2
  · have hans : s.Answering := ⟨hpower, hphase, hbooted, hfatal⟩
    exact ⟨fun hbad => ⟨⟨_, (hans.sqTail hq).trans (congrArg _ (if_pos (doorbell_barred hbad))), Nat.add_zero (q * 2 ^ 16) ▸ badDoorbell_noted q 0 v hroom⟩,
      ⟨_, (hans.cqHead hq).trans (congrArg _ (if_pos (doorbell_barred hbad))), badDoorbell_noted q 4 v hroom⟩⟩,
      fun hv => ⟨_, hans.evqHead.trans (congrArg _ (if_pos hv)), (Nat.add_zero (0x40 * 2 ^ 16)) ▸ badDoorbell_noted 0x40 0 v hroom⟩⟩
  · exact ⟨_, (if_neg (by simp [hun, hq]) : execCqCoalesceTimeout q s = _), rfl, queue_setQueue_same s q _,
      fun p hp => queue_setQueue_other s _ hp⟩

end Sys2Proof.Machine
end

section
/-! SUPPORT. The start of a command (O13): what a record does to the host's queues, and what the entry taken leaves. -/

namespace Sys2Proof.Machine

variable {s : State}

/-! ### The queues past a record and an end -/

/-- Only the commands in execution may differ. -/
def SameQueues (h g : HostSt) : Prop := g = { h with cmds := g.cmds }

theorem sameQueues_of_eq {h g : HostSt} (e : g = h) : SameQueues h g := by
  subst e
  rfl

theorem SameQueues.visible {h g : HostSt} (e : SameQueues h g) : g.visible = h.visible := by rw [show g = { h with cmds := g.cmds } from e]

theorem SameQueues.nextCmd {h g : HostSt} (e : SameQueues h g) : g.nextCmd = h.nextCmd := by rw [show g = { h with cmds := g.cmds } from e]

theorem SameQueues.queues {h g : HostSt} (e : SameQueues h g) : g.queues = h.queues := by rw [show g = { h with cmds := g.cmds } from e]

theorem writeRec_queues (a : RecArg) : SameQueues s.host (s.writeRec a).host := by
  have htail : ∀ u : State, SameQueues s.host u.host → SameQueues s.host (
      let v := (((u.pageErr a.page (s.mkRec a).seq (s.mkRec a).code).traceRec a.page 1 (s.mkRec a).code
        [(s.mkRec a).seq, (s.mkRec a).loc0, (s.mkRec a).loc1, (s.mkRec a).loc2]).traceTrigger a.code).raiseIrq a.page 31
      if a.cls ≥ 2 ∧ a.cls ≤ 4 then v.raiseIrq 0 0 else v).host := by
    intro u hu
    have hrest := only_raiseIrq (s0 := u) (mm := 78398662313265594369) a.page 31 rfl (only_traceTrigger a.code rfl (only_traceRec a.page 1
      (s.mkRec a).code [(s.mkRec a).seq, (s.mkRec a).loc0, (s.mkRec a).loc1, (s.mkRec a).loc2] rfl
      (only_pageErr a.page (s.mkRec a).seq (s.mkRec a).code rfl (only_refl _ u))))
    exact ((only_ite (c := a.cls ≥ 2 ∧ a.cls ≤ 4) (only_raiseIrq 0 0 rfl hrest) hrest).host rfl).symm ▸ hu
  have hlog : (s.logRec (s.mkRec a)).host = s.host := (only_logRec (mm := 17) (s0 := s) _ rfl (only_refl _ _)).host rfl
  unfold State.writeRec
  dsimp only
  cases a.cmd with
  | none => exact htail _ (sameQueues_of_eq hlog)
  | some i => exact htail _ (by unfold SameQueues State.setCmd; dsimp only; rw [hlog])

theorem writeRec_host_bare {a : RecArg} (h : a.cmd = none) : (s.writeRec a).host = s.host := (only_writeRec_bare h).host rfl

theorem countOnly_host (p : Nat) : (s.countOnly p).host = s.host :=
  (only_countOnly (mm := 4611686018427387905) (s0 := s) p rfl (only_refl _ _)).host rfl

theorem raiseIrq_host (p b : Nat) : (s.raiseIrq p b).host = s.host :=
  (only_raiseIrq (mm := 73786976294838206465) (s0 := s) p b rfl (only_refl _ _)).host rfl

/-- Where room is short a record of low rank leaves the host's side whole; else it is written. -/
theorem recordRaw_host (a : RecArg) : (s.recordRaw a).host = s.host ∨ s.recordRaw a = s.writeRec a := by
  unfold State.recordRaw
  dsimp only
  split
  · split
    · exact .inl (countOnly_host _)
    · exact .inl ((raiseIrq_host 0 1).trans ((writeRec_host_bare rfl).trans (countOnly_host a.page)))
  · split
    · exact .inl (countOnly_host _)
    · exact .inr rfl

theorem recordRaw_queues (a : RecArg) : SameQueues s.host (s.recordRaw a).host := by
  rcases recordRaw_host (s := s) a with h | h
  · exact sameQueues_of_eq h
  · rw [h]
    exact writeRec_queues a

theorem complete_visible (n status r0 r1 r2 r3 : Nat) : (s.complete n status r0 r1 r2 r3).host.visible = s.host.visible :=
  (drainCq_heads _ _).1

theorem fail_visible (n code lk l0 l1 l2 : Nat) : (s.fail n code lk l0 l1 l2).host.visible = s.host.visible :=
  (complete_visible _ _ _ _ _ _).trans ((recordRaw_queues _).visible)

/-! ### The time to start -/

theorem maxFld_log (a : RegAddr) (hi lo x : Nat) : (s.maxFld a hi lo x).log = s.log := rfl

theorem maxFld_host (a : RegAddr) (hi lo x : Nat) : (s.maxFld a hi lo x).host = s.host := rfl

/-- A start in time, or one for whose record there is no room, is charged to no command. -/
theorem started_in_time {n ns : Nat} {woken : Bool} (h : ns ≤ startLimit woken) :
    s.started n ns woken = s.maxFld R.HOST_ACCEPT_MAX 15 0 ns := if_pos h

theorem started_late {n ns : Nat} {woken : Bool} (h : startLimit woken < ns) (hroom : 256 < s.logFree) : s.started n ns woken =
    (s.maxFld R.HOST_ACCEPT_MAX 15 0 ns).writeRec { code := Code.HOST_ACCEPT_LATE, cls := 0, cmd := some n } := by
  have hfree : 256 < (s.maxFld R.HOST_ACCEPT_MAX 15 0 ns).logFree := by rwa [logFree_congr (maxFld_log _ _ _ _)]
  rw [State.started, if_neg (Nat.not_le_of_lt h)]
  exact recordRaw_room _ hfree

theorem started_queues (n ns : Nat) (woken : Bool) : SameQueues s.host (s.started n ns woken).host := by
  unfold State.started
  dsimp only
  split
  · exact sameQueues_of_eq (maxFld_host _ _ _ _)
  · exact maxFld_host (s := s) _ _ _ _ ▸ recordRaw_queues _

/-- What a command is charged with for its start. -/
structure ChargedFrom (c x : Cmd) : Prop where
  eq : x = { c with waited := x.waited, errFirst := x.errFirst, errCount := x.errCount }
  waited : x.waited = c.waited

theorem chargedFrom_refl (c : Cmd) : ChargedFrom c c := ⟨rfl, rfl⟩

theorem map_charge_last {l : List Cmd} {c : Cmd} (hfresh : ∀ y ∈ l, y.n ≠ c.n) (f : Cmd → Cmd) :
    (l ++ [c]).map (fun y => if y.n = c.n then f y else y) = l ++ [f c] := by
  rw [List.map_append, List.map_singleton, if_pos rfl]
  exact congrArg (· ++ [f c]) ((List.map_congr_left fun y hy => if_neg (hfresh y hy)).trans (List.map_id' l))

/-- The start of the newest command may be charged to it, and to it alone. -/
theorem started_newest {l : List Cmd} {c : Cmd} (hcmds : s.host.cmds = l ++ [c]) (hfresh : ∀ y ∈ l, y.n ≠ c.n) (ns : Nat) (woken : Bool) :
    ∃ x, (s.started c.n ns woken).host.cmds = l ++ [x] ∧ ChargedFrom c x ∧ (ns ≤ startLimit woken → x = c) ∧
      (startLimit woken < ns → 256 < s.logFree → x.errCount = satAdd 65535 c.errCount 1) := by
  by_cases hlate : ns ≤ startLimit woken
  · rw [started_in_time hlate]
    exact ⟨c, hcmds, chargedFrom_refl c, fun _ => rfl, fun h => absurd hlate (Nat.not_le_of_lt h)⟩
  · have hwritten : ∀ u : State, u.host.cmds = l ++ [c] → (u.writeRec { code := Code.HOST_ACCEPT_LATE, cls := 0, cmd := some c.n }).host.cmds =
        l ++ [c.charge (u.mkRec { code := Code.HOST_ACCEPT_LATE, cls := 0, cmd := some c.n }).seq] := fun u hu => by
      rw [cmds_writeRec, hu]
      exact map_charge_last hfresh _
    have hset := hwritten (s.maxFld R.HOST_ACCEPT_MAX 15 0 ns) ((congrArg HostSt.cmds (maxFld_host _ _ _ _)).trans hcmds)
    by_cases hroom : 256 < s.logFree
    · rw [started_late (Nat.lt_of_not_le hlate) hroom]
      exact ⟨c.charge _, hset, ⟨rfl, rfl⟩, fun h => absurd h hlate, fun _ _ => rfl⟩
    · rw [State.started, if_neg hlate]
      rcases recordRaw_host (s := s.maxFld R.HOST_ACCEPT_MAX 15 0 ns) { code := Code.HOST_ACCEPT_LATE, cls := 0, cmd := some c.n } with h | h
      · exact ⟨c, (congrArg HostSt.cmds (h.trans (maxFld_host _ _ _ _))).trans hcmds, chargedFrom_refl c, fun _ => rfl, fun _ h' => absurd h' hroom⟩
      · exact ⟨c.charge _, (congrArg (·.host.cmds) h).trans hset, ⟨rfl, rfl⟩, fun h => absurd h hlate, fun _ h' => absurd h' hroom⟩

/-! ### The entry taken -/

/-- The command that the entry at the SQ head becomes, with how many commands a FLUSH waits for. -/
def State.nextCommand (s : State) (q : Nat) (entry : List Nat) : Cmd :=
  let c := cmdOf s.host.nextCmd q (((s.queue q).sqHead + 1) % (s.queue q).size) entry
  { c with waited := if c.opcode = 0x0B then (s.openCmds (flushCounts c.arg0 q)).length else 0 }

/-- The entry at the SQ head has been fetched and its command is in execution. -/
def State.taken (s : State) (q : Nat) (woken : Bool) (entry : List Nat) : State :=
  let u := s.setQueue q { s.queue q with sqHead := ((s.queue q).sqHead + 1) % (s.queue q).size }
  { u with host := { u.host with visible := u.host.visible.erase (q, woken), cmds := u.host.cmds ++ [s.nextCommand q entry],
                                 nextCmd := s.host.nextCmd + 1 } }

theorem exec_commandStart {q ns : Nat} {woken : Bool} {entry : List Nat} (hnext : s.nextSq = some (q, woken)) (hlen : entry.length = 16)
    (hfatal : s.fatal = 0) : exec (.commandStart q entry ns) s =
    let c := s.nextCommand q entry
    let u := (s.taken q woken entry).started c.n ns woken
    match fieldUse c.opcode with
      | none => .next (u.fail c.n Code.HOST_OPCODE)
      | some f => if c.formOk f entry then .next u else .next (u.fail c.n Code.HOST_ENTRY_FORM) := by
  show execCommandStart q entry ns s = _
  unfold execCommandStart
  rw [hnext]
  dsimp only
  rw [if_neg (by simp [hlen]), if_neg (by simp [hfatal])]
  rfl

section
variable {q ns : Nat} {woken : Bool} {entry : List Nat}

theorem keeps_taken (hinv : s.Inv) : Keeps s.pending s.out (s.taken q woken entry) := by
  have hset := keeps_setQueue q { s.queue q with sqHead := ((s.queue q).sqHead + 1) % (s.queue q).size } (keepsOut_of_inv hinv)
  exact ⟨{ hset.ok with cmds := numbered_add rfl hset.ok.cmds }⟩

theorem fresh_taken (hinv : s.Inv) : ∀ y ∈ s.host.cmds, y.n ≠ (s.nextCommand q entry).n := by
  have hnum := hinv.cmds
  unfold numbered at hnum
  rw [List.pairwise_append] at hnum
  exact fun y hy => Nat.ne_of_lt (hnum.2.2 _ (List.mem_map_of_mem hy) _ (List.mem_singleton_self _))

theorem taken_newest (hinv : s.Inv) (ns : Nat) : ∃ x,
    ((s.taken q woken entry).started (s.nextCommand q entry).n ns woken).host.cmds = s.host.cmds ++ [x] ∧ ChargedFrom (s.nextCommand q entry) x ∧
      (ns ≤ startLimit woken → x = s.nextCommand q entry) ∧
      (startLimit woken < ns → 256 < s.logFree → x.errCount = 1) := by
  obtain ⟨x, hcmds, hfrom, hearly, hlate⟩ := started_newest (s := s.taken q woken entry) (l := s.host.cmds) (c := s.nextCommand q entry) rfl (fresh_taken hinv) ns woken
  exact ⟨x, hcmds, hfrom, hearly, fun h hroom => (hlate h hroom).trans rfl⟩

/-- A command refused at its start ends with the code. -/
theorem started_fails (hinv : s.Inv) (code : Nat) : s.ended (((s.taken q woken entry).started (s.nextCommand q entry).n ns woken).fail
      (s.nextCommand q entry).n code) (s.nextCommand q entry) code 0 0 0 0 ∧
    (((s.taken q woken entry).started (s.nextCommand q entry).n ns woken).fail (s.nextCommand q entry).n code).host.visible =
      s.host.visible.erase (q, woken) := by
  obtain ⟨x, hcmds, hfrom, -, -⟩ := taken_newest (q := q) (woken := woken) (entry := entry) hinv ns
  have hkeeps := keeps_started (s.nextCommand q entry).n ns woken (keeps_taken (q := q) (woken := woken) (entry := entry) hinv)
  have hvisible : ((s.taken q woken entry).started (s.nextCommand q entry).n ns woken).host.visible = s.host.visible.erase (q, woken) :=
    (started_queues _ _ _).visible
  have hnew : (s.nextCommand q entry).done = none := rfl
  generalize (s.taken q woken entry).started (s.nextCommand q entry).n ns woken = u at *
  generalize s.nextCommand q entry = c at *
  have hx : x.n = c.n ∧ x.sq = c.sq ∧ x.cid = c.cid ∧ x.done = c.done := by rw [hfrom.eq]; exact ⟨rfl, rfl, rfl, rfl⟩
  obtain ⟨hxn, hsq, hcid, hdone⟩ := hx
  have hfound := cmd?_of_mem hkeeps.ok.cmds (hcmds.symm ▸ List.mem_append_right _ (List.mem_singleton_self x))
  exact ⟨ended_fail _ _ _ _ _ (hkeeps.ok.pending.symm ▸ hkeeps) (hxn ▸ hfound) (hdone.trans hnew) hxn hsq hcid, (fail_visible _ _ _ _ _ _).trans hvisible⟩

end

end Sys2Proof.Machine
end

section
/-! PROOFS. The start of a command (O13) and FENCE (O17). -/

namespace Sys2Proof.Machine

/-- Settles O13: what a start is charged with goes to the newest command alone, and no record touches the queues. -/
theorem commandStarts : Obligations.CommandStarts := by
  unfold Obligations.CommandStarts
  intro q ns woken entry s hinv hnext hlen hfatal
  dsimp only
  have hexec := exec_commandStart (ns := ns) hnext hlen hfatal
  dsimp only at hexec
  obtain ⟨x, hcmds, hfrom, hearly, hlate⟩ := taken_newest (q := q) (woken := woken) (entry := entry) hinv ns
  have hqueues := started_queues (s := s.taken q woken entry) (s.nextCommand q entry).n ns woken
  refine ⟨fun u huse hform => ⟨_, x, hexec.trans ?_, hcmds, ?_, hqueues.nextCmd, hqueues.visible, ?_, fun hin => ?_, fun hout hroom => ?_⟩,
    fun huse => ⟨_, hexec.trans ?_, started_fails (ns := ns) hinv Code.HOST_OPCODE⟩,
    fun u huse hform => ⟨_, hexec.trans ?_, started_fails (ns := ns) hinv Code.HOST_ENTRY_FORM⟩⟩
  · rw [show fieldUse (s.nextCommand q entry).opcode = some u from huse]
    exact if_pos hform
  · rw [hfrom.eq]
    by_cases hin : ns ≤ startLimit woken
    · rw [if_pos (.inl hin)]; rfl
    · by_cases hroom : s.logFree ≤ 256
      · rw [if_pos (.inr hroom)]; rfl
      · rw [if_neg (not_or.mpr ⟨hin, hroom⟩), hlate (Nat.lt_of_not_le hin) (Nat.lt_of_not_le hroom)]; rfl
  · exact (congrArg (fun m => (kget (fun _ => ({} : Queue)) m q).sqHead) hqueues.queues).trans (congrArg Queue.sqHead (queue_setQueue_same s q _))
  · rw [hearly hin, started_in_time hin]
    have hset : Only 8192 s (s.taken q woken entry) := only_put8192 rfl (only_setQueue q _ rfl (only_refl 8192 s))
    refine ⟨rfl, (only_setFld _ _ _ _ rfl (only_mono rfl hset : Only 8193 s _)).eq_takes, fun a ha => ?_, fun hns => ?_⟩
    · exact rd_setFld_other _ _ _ (fun h => ha (h ▸ List.mem_singleton_self _))
    · refine (fld_setFld_same _ _ (by decide) (by decide)).trans (Nat.mod_eq_of_lt (Nat.max_lt.mpr ⟨fieldOf_lt _ _ _, hns⟩))
  · have hset : Only 8192 s (s.taken q woken entry) := only_put8192 rfl (only_setQueue q _ rfl (only_refl 8192 s))
    have hmax : Only 8193 s ((s.taken q woken entry).maxFld R.HOST_ACCEPT_MAX 15 0 ns) := only_setFld _ _ _ _ rfl (only_mono rfl hset)
    have hfree : 256 < ((s.taken q woken entry).maxFld R.HOST_ACCEPT_MAX 15 0 ns).logFree := by rwa [logFree_congr (hmax.log rfl)]
    have hfree' : 256 < (s.taken q woken entry).logFree := by rwa [logFree_congr (hset.log rfl)]
    rw [started_late hout hfree', ← recordRaw_room _ hfree]
    exact ⟨(only_recordRaw (mm := 78398662313265602577) _ rfl (only_mono rfl hmax)).eq_takes, newest_recordRaw _ hfree⟩
  · rw [show fieldUse (s.nextCommand q entry).opcode = none from huse]
  · rw [show fieldUse (s.nextCommand q entry).opcode = some u from huse]
    exact if_neg (Bool.eq_false_iff.mp hform)

/-- Settles O17: a FENCE in execution bars its pair from starting, and it completes once no earlier command of its SQ is left. -/
theorem fenceHolds : Obligations.FenceHolds := by
  unfold Obligations.FenceHolds
  refine ⟨fun q ns entry s hfence => ?_, fun n c s hinv hbegun => ⟨fun hearlier => ?_, fun hfirst => ?_⟩⟩
  · show execCommandStart q entry ns s = _
    unfold execCommandStart
    split
    · rfl
    · next v hv =>
      have hstarts := List.find?_some hv
      refine if_pos (.inl fun hq => ?_)
      obtain ⟨c, hc, hsq, hop⟩ := hfence
      have hany : s.host.cmds.any (fun c => c.sq = v.1 && c.opcode = 0x0C) = true :=
        List.any_eq_true.mpr ⟨c, hc, by simp [hsq, hop, hq]⟩
      simp [State.mayStart, hany] at hstarts
  · obtain ⟨x, hx, hsq, hn⟩ := hearlier
    show execFence n s = _
    unfold execFence
    rw [hbegun]
    exact if_pos (List.any_eq_true.mpr ⟨x, hx, by simp [hsq, hn]⟩)
  · obtain ⟨hc, hopen⟩ := begun_some hbegun
    refine ⟨s.complete n 0, ?_, (only_complete n 0 0 0 0 0 rfl (only_refl 73786976294838214656 s)).eq_takes,
      ended_complete _ _ _ _ _ hinv.cmds List.suffix_rfl hc hopen rfl rfl rfl⟩
    show execFence n s = _
    unfold execFence
    rw [hbegun]
    refine if_neg fun hany => ?_
    obtain ⟨x, hx, hearlier⟩ := List.any_eq_true.mp hany
    rw [Bool.and_eq_true, decide_eq_true_iff, decide_eq_true_iff] at hearlier
    exact absurd hearlier.2 (Nat.not_lt.mpr (hfirst x hx hearlier.1))

end Sys2Proof.Machine
end

section
/-! SUPPORT. A job closed (O19): the slot that an identity names, a withdrawal with nothing asked, and a slot freed. -/

namespace Sys2Proof.Machine

variable {s : State}

theorem slotOf_some {id i : Nat} (h : s.slotOf id = some i) : i ≤ 1 ∧ (s.job i).jobId = id := by
  unfold State.slotOf at h
  split at h
  · next hzero =>
    cases h
    exact ⟨Nat.zero_le 1, hzero.2⟩
  · split at h
    · next hone =>
      cases h
      exact ⟨Nat.le_refl 1, hone.2⟩
    · cases h

theorem job_setJob_other (i : Nat) (j : Job) (hi : i ≤ 1) : (s.setJob i j).job (1 - i) = s.job (1 - i) := by
  rcases Nat.le_one_iff_eq_zero_or_eq_one.mp hi with rfl | rfl <;> rfl

/-- With no block of the slot asked for, a withdrawal changes nothing. -/
theorem withdraw_none {i : Nat} (h : (s.job i).reqs = []) (p : Nat → Bool) : s.withdraw i p = s := by
  have hframes : s.frames.map (fun (f : Nat × Frame) => if f.2.slot = i ∧ ([] : List Nat).contains f.2.block then (f.1, { f.2 with failed := 0 }) else f) = s.frames :=
    (List.map_congr_left fun f _ => if_neg (by simp)).trans (List.map_id' _)
  have hgone : (s.job i).reqs.filter p = [] := by rw [h]; rfl
  have hjob : (s.job i) = { s.job i with reqs := [] } := by
    conv_rhs => rw [← h]
  unfold State.withdraw
  dsimp only
  rw [hgone]
  dsimp only [List.foldl_nil]
  rw [hframes]
  exact modJob_of_fixed (s := s) (by rw [h]; exact hjob.symm)

theorem abortSlot_none {i : Nat} (h : ∀ x ∈ s.stripes, x.slot ≠ i) : s.abortSlot i = s := by
  unfold State.abortSlot
  rw [List.filter_eq_nil_iff.mpr (fun x hx => by simp [h x hx])]
  rfl

/-- A JOB_CLOSE that has acted, on a slot with no stripe, frees the slot and completes. -/
theorem closeDue_due {i : Nat} {c : Cmd} (hnone : ∀ x ∈ s.stripes, x.slot ≠ i)
    (hdue : s.host.cmds.find? (fun c => c.opcode = 0x0E && c.ran && c.done.isNone && c.jobId = (s.job i).jobId) = some c) :
    s.closeDue i = (s.freeSlot i).complete c.n 0 (s.job i).fatal := by
  unfold State.closeDue
  rw [if_neg (by simpa using hnone), hdue]

/-- The record of a key that goes with its slot. -/
def State.keyReleased (s : State) (i : Nat) : State :=
  if (s.job i).key.isSome then s.commit 0x0010 .firmware 0 0 0 [(s.job i).keyId, (s.job i).jobId, 0] else s

theorem only_keyReleased (i : Nat) : Only 562949953421345 s (s.keyReleased i) :=
  only_ite (only_commit _ _ _ _ _ _ rfl (only_refl _ s)) (only_refl _ s)

theorem freeSlot_frees {i : Nat} (hi : i ≤ 1) : (s.freeSlot i).job i = {} ∧ (s.freeSlot i).job (1 - i) = s.job (1 - i) ∧
    (s.freeSlot i).frames = s.frames.filter (fun f => f.2.slot ≠ i) ∧ (s.freeSlot i).audit = (s.keyReleased i).audit := by
  have hkey := only_keyReleased (s := s) i
  have hdrop := only_dropCtxs (s0 := { s.keyReleased i with frames := (s.keyReleased i).frames.filter (fun f => f.2.slot ≠ i) }) (mm := 3145729)
    (fun c => c.mode = 0 && c.st ≠ 0 && c.slot = i) rfl (only_refl _ _)
  unfold State.freeSlot
  refine ⟨job_setJob_same _ _ _, (job_setJob_other i {} hi).trans ((job_of_only hdrop rfl rfl _).trans (job_of_only hkey rfl rfl _)), ?_, ?_⟩
  · refine ((only_setJob (mm := 49152) i {} rfl (only_refl _ _)).frames rfl).trans ((hdrop.frames rfl).trans ?_)
    exact congrArg (List.filter _) (hkey.frames rfl)
  · exact ((only_setJob (mm := 49152) i {} rfl (only_refl _ _)).audit rfl).trans (hdrop.audit rfl)

theorem keyReleased_audited {i : Nat} (hkey : (s.job i).key ≠ none) (hfull : s.auditFull = false) :
    (s.keyReleased i).audited 0x10 [(s.job i).keyId, (s.job i).jobId, 0] := by
  have hroom : 0 < s.auditFree := by
    unfold State.auditFull at hfull
    have hfree := of_decide_eq_false hfull
    omega
  unfold State.keyReleased
  rw [if_pos (Option.isSome_iff_ne_none.mpr hkey)]
  exact audited_commit _ _ _ _ _ _ hroom

/-- With no other JOB_CLOSE under way, the one that has just acted is the one found. -/
theorem find_closing {n : Nat} {c : Cmd} (hc : s.cmd? n = some c) (hopen : c.done = none) (hop : c.opcode = 0x0E)
    (hothers : ∀ x ∈ s.host.cmds, x.opcode = 0x0E → x.ran = false) :
    (s.ran n).host.cmds.find? (fun x => x.opcode = 0x0E && x.ran && x.done.isNone && x.jobId = c.jobId) = some { c with ran := true } := by
  have hran : (s.ran n).host.cmds = s.host.cmds.map (fun x => if x.n = n then { x with ran := true } else x) := rfl
  have hfind : s.host.cmds.find? (fun x => decide (x.n = n)) = some c := hc
  rw [hran, List.find?_map]
  have hsame : s.host.cmds.find? ((fun x => x.opcode = 0x0E && x.ran && x.done.isNone && x.jobId = c.jobId) ∘
      fun x => if x.n = n then { x with ran := true } else x) = some c := by
    generalize s.host.cmds = l at hfind hothers
    induction l with
    | nil => cases hfind
    | cons x l ih =>
      rw [List.find?_cons] at hfind ⊢
      by_cases hx : x.n = n
      · have hxc : x = c := by simpa [hx] using hfind
        subst hxc
        simp [hx, hop, hopen]
      · rw [decide_eq_false hx] at hfind
        have hidle : x.opcode = 0x0E → x.ran = false := hothers x List.mem_cons_self
        have hskip : (decide (x.opcode = 0x0E) && x.ran) = false := by
          by_cases hxo : x.opcode = 0x0E
          · simp [hidle hxo]
          · simp [hxo]
        simp only [Function.comp_apply, if_neg hx, hskip, Bool.false_and]
        exact ih hfind fun y hy => hothers y (List.mem_cons_of_mem x hy)
  rw [hsame, Option.map_some, if_pos (cmd?_some hc).2]

theorem begun_opcode {n op : Nat} {c : Cmd} (h : s.begun n op = some c) : c.opcode = op := by
  obtain ⟨-, hq⟩ := Option.filter_eq_some_iff.mp h
  simp only [Bool.and_eq_true, decide_eq_true_eq] at hq
  exact hq.1.1.1

/-- JOB_CLOSE of a job with no stripe and nothing asked frees the slot at once. -/
theorem exec_jobClose_free {n i : Nat} {c : Cmd} (hbegun : s.begun n 0x0E = some c) (hslot : s.slotOf c.jobId = some i)
    (hreqs : (s.job i).reqs = []) (hothers : ∀ x ∈ s.host.cmds, x.opcode = 0x0E → x.ran = false) (hnone : ∀ x ∈ s.stripes, x.slot ≠ i) :
    exec (.jobClose n) s = .next (((s.ran n).freeSlot i).complete n 0 (s.job i).fatal) := by
  obtain ⟨hc, hopen⟩ := begun_some hbegun
  have hmine : s.stripes.filter (fun t => t.slot = i) = [] := List.filter_eq_nil_iff.mpr (fun x hx => by simp [hnone x hx])
  show execJobClose n s = _
  unfold execJobClose
  rw [hbegun]
  dsimp only
  rw [hslot]
  dsimp only
  rw [hmine, if_neg (by simp)]
  dsimp only [List.filter_nil, List.foldl_nil]
  rw [withdraw_none (s := s.ran n) hreqs, abortSlot_none (s := s.ran n) hnone, closeDue_due (s := s.ran n) (c := { c with ran := true }) hnone]
  · exact congrArg (fun k => Host.Outcome.next (((s.ran n).freeSlot i).complete k 0 (s.job i).fatal)) (cmd?_some hc).2
  · have hjob : ((s.ran n).job i).jobId = c.jobId := (slotOf_some hslot).2
    rw [hjob]
    exact find_closing hc hopen (begun_opcode hbegun) hothers

theorem exec_jobClose_busy {n i : Nat} {c : Cmd} (hbegun : s.begun n 0x0E = some c) (hslot : s.slotOf c.jobId = some i)
    (hopen : (s.job i).status = 1) (hflags : c.flags % 2 = 0) (hheld : ∃ x ∈ s.stripes, x.slot = i ∧ x.st ≠ .armWait) :
    exec (.jobClose n) s = .next (s.fail n Code.HOST_JOB_BUSY) := by
  obtain ⟨x, hx, hxi, hst⟩ := hheld
  show execJobClose n s = _
  unfold execJobClose
  rw [hbegun]
  dsimp only
  rw [hslot]
  dsimp only
  exact if_pos ⟨hopen, hflags, List.any_eq_true.mpr ⟨x, List.mem_filter.mpr ⟨hx, decide_eq_true hxi⟩, decide_eq_true hst⟩⟩

end Sys2Proof.Machine
end

section
/-! PROOFS. JOB_CLOSE (O19). -/

namespace Sys2Proof.Machine

/-- Settles O19: with no stripe to wait for, the command that acts is the one that the freed slot completes. -/
theorem jobCloses : Obligations.JobCloses := by
  unfold Obligations.JobCloses
  intro n i c s hinv hbegun hslot hreqs hothers
  obtain ⟨hc, hopen⟩ := begun_some hbegun
  refine ⟨fun hnone hfull => ⟨_, exec_jobClose_free hbegun hslot hreqs hothers hnone, ?_⟩,
    fun hheld hstatus hflags => ⟨_, exec_jobClose_busy hbegun hslot hstatus hflags hheld, ended_fail_begun hinv hbegun _, ?_⟩⟩
  · have hran : Only 8192 s (s.ran n) := only_ran n rfl (only_refl 8192 s)
    have hkeeps := keeps_freeSlot i (keeps_ran n (keepsOut_of_inv hinv))
    have hfree : Only 562949956878369 (s.ran n) ((s.ran n).freeSlot i) := only_freeSlot i rfl (only_refl _ _)
    obtain ⟨hgone, hother, hframes, haudit⟩ := freeSlot_frees (s := s.ran n) (slotOf_some hslot).1
    have hrecord : (s.job i).key ≠ none → ((s.ran n).freeSlot i).audited 0x10 [(s.job i).keyId, (s.job i).jobId, 0] := fun hkey => by
      unfold State.audited
      rw [haudit]
      exact keyReleased_audited (s := s.ran n) (i := i) hkey hfull
    have hall : Only 73787539244795093025 s ((s.ran n).freeSlot i) := only_freeSlot i rfl (only_mono rfl hran)
    have hcran : (s.ran n).cmd? n = some { c with ran := true } := cmd?_setCmd (fun _ => rfl) hc
    have hfound : ((s.ran n).freeSlot i).cmd? n = some { c with ran := true } := by
      unfold State.cmd? at hcran ⊢
      rwa [hfree.host rfl]
    have hjob : (s.ran n).job (1 - i) = s.job (1 - i) := rfl
    have hcache : (s.ran n).frames = s.frames := rfl
    rw [hjob] at hother
    rw [hcache] at hframes
    generalize (s.ran n).freeSlot i = u at *
    have hdone := only_complete (s0 := u) (mm := 73786976294838214656) n 0 (s.job i).fatal 0 0 0 rfl (only_refl _ u)
    refine ⟨(only_complete n 0 _ 0 0 0 rfl hall).eq_takes, ended_complete _ _ _ _ _ hkeeps.ok.cmds hkeeps.ok.out hfound hopen rfl rfl rfl,
      (job_of_only hdone rfl rfl i).trans hgone, (job_of_only hdone rfl rfl _).trans hother, (hdone.frames rfl).trans hframes,
      fun hkey => ?_⟩
    rw [hdone.audit rfl]
    exact hrecord hkey
  · have hfail := only_fail (s0 := s) (mm := 78398662313265602577) n Code.HOST_JOB_BUSY 0 0 0 0 rfl (only_refl _ s)
    exact ⟨hfail.job0 rfl, hfail.job1 rfl, hfail.stripes rfl⟩

end Sys2Proof.Machine
end

section
/-! SUPPORT. Arming (O20, O24): what waits at step 12, what the oldest of them obtains, and what its command and its job then have. -/

namespace Sys2Proof.Machine

variable {s : State}

/-! ### A stripe that obtains its resources -/

/-- The stripe with its ring and map set. -/
def Stripe.armedWith (y : Stripe) (pass g : Nat) (m : Option Nat) : Stripe :=
  { y with st := .armed, ring := some g, mapSet := m, prepass := if pass = 0 then 1 else 0 }

/-- The job of an armed stripe: its tables are locked where it is the stripe's own writing. -/
def Job.armedFor (j : Job) (x : Stripe) : Job :=
  { j with penLocked := j.penLocked || decide (x.pass = 0), profLocked := j.profLocked || decide (x.pass = 0),
           recs := if j.recs.any (·.id = x.id) then j.recs else x.srec :: j.recs }

/-- The state in which an armed stripe's command completes. -/
def State.armedUp (s : State) (x : Stripe) (g : Nat) (m : Option Nat) : State :=
  ((((prewarmPages.foldl State.clkOn (s.modStripe x (fun t => t.armedWith x.pass g m))).wakeLanes).modJob x.slot (·.armedFor x)).showStripes).lanternWake

theorem armNow_eq (x : Stripe) (g : Nat) (m : Option Nat) : s.armNow x g m =
    (s.armedUp x g m).complete x.armCmd 0 (((s.list? x).map (·.base)).getD 0 / 64) := rfl

/-- The clocks, the lanes and the registers that show the stripes follow; the stripes and the job are as they were made. -/
theorem armedUp_only (x : Stripe) (g : Nat) (m : Option Nat) :
    ∃ u, Only 78398664512288849921 (s.modStripe x (fun t => t.armedWith x.pass g m)) u ∧ Only 4611686018427387905 (u.modJob x.slot (·.armedFor x)) (s.armedUp x g m) :=
  ⟨_, only_wakeLanes rfl (only_foldl (fun _ p h => only_clkOn p rfl h) _ (only_refl _ _)), only_lanternWake rfl (only_showStripes rfl (only_refl _ _))⟩

theorem keeps_armedUp {q : List Instr} {o : List Out} (x : Stripe) (g : Nat) (m : Option Nat) (h : Keeps q o s) : Keeps q o (s.armedUp x g m) :=
  keeps_lanternWake (keeps_showStripes (keeps_modJob _ _ (keeps_wakeLanes (keeps_foldl (fun _ p hu => keeps_clkOn p hu) _
    (keeps_modStripe x _ (fun _ => rfl) h)))))

/-- What arming leaves of the stripes, the jobs and the commands. -/
structure ArmedBy (s t : State) (x : Stripe) (g : Nat) (m : Option Nat) : Prop where
  stripes : t.stripes = s.stripes.map (fun y => if y.ord = x.ord then y.armedWith x.pass g m else y)
  stripeOrd : t.stripeOrd = s.stripeOrd
  job : x.slot ≤ 1 → t.job x.slot = (s.job x.slot).armedFor x
  other : x.slot ≤ 1 → t.job (1 - x.slot) = s.job (1 - x.slot)

theorem job_modJob_same (i : Nat) (f : Job → Job) : (s.modJob i f).job i = f (s.job i) := job_setJob_same _ _ _

theorem job_modJob_other {i : Nat} (f : Job → Job) (hi : i ≤ 1) : (s.modJob i f).job (1 - i) = s.job (1 - i) := job_setJob_other _ _ hi

theorem armedBy_armedUp (x : Stripe) (g : Nat) (m : Option Nat) : ArmedBy s (s.armedUp x g m) x g m := by
  obtain ⟨u, hclocks, hshown⟩ := armedUp_only (s := s) x g m
  have hjobs : ∀ i, u.job i = s.job i := fun i => (job_of_only hclocks rfl rfl i).trans rfl
  have hjob := only_modJob (s0 := u) (mm := 49152) x.slot (·.armedFor x) rfl (only_refl _ u)
  generalize s.armedUp x g m = t at *
  refine ⟨(hshown.stripes rfl).trans ((hjob.stripes rfl).trans ((hclocks.stripes rfl).trans (stripes_modStripe s x _))),
    (hshown.stripeOrd rfl).trans ((hjob.stripeOrd rfl).trans (hclocks.stripeOrd rfl)), fun _ => ?_, fun hi => ?_⟩
  · rw [job_of_only hshown rfl rfl, job_modJob_same, hjobs]
  · rw [job_of_only hshown rfl rfl, job_modJob_other _ hi, hjobs]

theorem cmds_armedUp (x : Stripe) (g : Nat) (m : Option Nat) : (s.armedUp x g m).host = s.host := by
  obtain ⟨u, hclocks, hshown⟩ := armedUp_only (s := s) x g m
  have hjob := only_modJob (s0 := u) (mm := 49152) x.slot (·.armedFor x) rfl (only_refl _ u)
  exact (hshown.host rfl).trans ((hjob.host rfl).trans (hclocks.host rfl))

theorem armedBy_armNow (x : Stripe) (g : Nat) (m : Option Nat) : ArmedBy s (s.armNow x g m) x g m := by
  have hup := armedBy_armedUp (s := s) x g m
  have hdone := only_complete (s0 := s.armedUp x g m) (mm := 73786976294838214656) x.armCmd 0 (((s.list? x).map (·.base)).getD 0 / 64) 0 0 0 rfl (only_refl _ _)
  rw [armNow_eq]
  exact ⟨(hdone.stripes rfl).trans hup.stripes, (hdone.stripeOrd rfl).trans hup.stripeOrd,
    fun hi => (job_of_only hdone rfl rfl _).trans (hup.job hi), fun hi => (job_of_only hdone rfl rfl _).trans (hup.other hi)⟩

/-- The list of a stripe stands as it stood. -/
theorem list?_armNow {x y : Stripe} (g : Nat) (m : Option Nat) (hi : x.slot ≤ 1) (hslot : y.slot = x.slot) (hord : y.ord = x.ord) :
    (s.armNow x g m).list? y = s.list? x := by
  unfold State.list?
  rw [hslot, hord, (armedBy_armNow x g m).job hi]
  rfl

theorem ended_armNow {s0 : State} {q : List Instr} {c y : Cmd} {x : Stripe} (g : Nat) (m : Option Nat) (hk : Keeps q s0.out s)
    (hfound : s.cmd? x.armCmd = some y) (hopen : y.done = none) (hn : y.n = c.n) (hsq : y.sq = c.sq) (hcid : y.cid = c.cid) :
    s0.ended (s.armNow x g m) c 0 (((s.list? x).map (·.base)).getD 0 / 64) 0 0 0 := by
  have hkeeps := (keeps_armedUp x g m hk).ok
  have hup : (s.armedUp x g m).cmd? x.armCmd = some y := by
    unfold State.cmd? at hfound ⊢
    rwa [cmds_armedUp]
  rw [armNow_eq]
  exact ended_complete _ _ _ _ _ hkeeps.cmds hkeeps.out hup hopen hn hsq hcid

theorem ended_of_same {s u t : State} {c : Cmd} {status r0 r1 r2 r3 : Nat} (h : u.out = s.out) (hended : u.ended t c status r0 r1 r2 r3) :
    s.ended t c status r0 r1 r2 r3 := by
  unfold State.ended at hended ⊢
  rwa [h] at hended

/-! ### The oldest that waits -/

theorem armFree_own {x : Stripe} {g m : Nat} (hhead : (sortBy (·.ord) (s.stripes.filter (fun t => t.st = .armWait))).head? = some x)
    (hpass : x.pass = 0) (hring : s.freeRing = some g) (hmap : s.freeMap = some m) : s.armFree = s.armNow x g (some m) := by
  unfold State.armFree
  rw [hhead, hring, hmap]
  exact congrArg (s.armNow x g) (if_pos hpass)

theorem armFree_pass {x : Stripe} {g : Nat} (hhead : (sortBy (·.ord) (s.stripes.filter (fun t => t.st = .armWait))).head? = some x)
    (hpass : x.pass ≠ 0) (hring : s.freeRing = some g) : s.armFree = s.armNow x g none := by
  unfold State.armFree
  rw [hhead, hring]
  cases s.freeMap with
  | none => exact if_neg hpass
  | some m => exact congrArg (s.armNow x g) (if_neg hpass)

/-- With no ring or no map set free, stripes that would write themselves go on waiting. -/
theorem armFree_waits (hshort : s.freeRing = none ∨ s.freeMap = none) (hpass : ∀ y ∈ s.stripes, y.st = .armWait → y.pass = 0) : s.armFree = s := by
  unfold State.armFree
  split
  · rfl
  · next x hx =>
    obtain ⟨hmem, hst⟩ := List.mem_filter.mp (mem_of_mem_sortBy (List.mem_of_mem_head? hx))
    have hown := hpass x hmem (of_decide_eq_true hst)
    rcases hshort with hring | hmap
    · rw [hring]
    · rw [hmap]
      cases s.freeRing with
      | none => rfl
      | some r => exact if_pos hown

/-! ### A stripe that comes to wait -/

/-- The list of a stripe that has just been accepted. -/
def State.openList (s : State) (x : Stripe) : DefList :=
  { ord := x.ord, id := x.id, pass := x.pass, state := 0, base := s.nextList x.slot, lastRow := none, entries := [] }

theorem waitArm_stripes (n : Nat) (x : Stripe) : (s.waitArm n x).stripes = s.stripes ++ [x] :=
  congrArg (· ++ [x]) ((only_modJob (s0 := s.ran n) (mm := 49152) x.slot _ rfl (only_refl _ _)).stripes rfl)

theorem waitArm_job (n : Nat) (x : Stripe) : (s.waitArm n x).job x.slot = { s.job x.slot with lists := (s.job x.slot).lists ++ [s.openList x] } :=
  job_modJob_same (s := s.ran n) x.slot (fun j => { j with lists := j.lists ++ [s.openList x] })

theorem waitArm_other (n : Nat) {x : Stripe} (hi : x.slot ≤ 1) : (s.waitArm n x).job (1 - x.slot) = s.job (1 - x.slot) :=
  job_modJob_other (s := s.ran n) (fun j => { j with lists := j.lists ++ [s.openList x] }) hi

theorem waitArm_cmd {n : Nat} {c : Cmd} (x : Stripe) (hc : s.cmd? n = some c) : (s.waitArm n x).cmd? n = some { c with ran := true } := by
  have hran : (s.ran n).cmd? n = some { c with ran := true } := cmd?_setCmd (fun _ => rfl) hc
  have hhost : (s.waitArm n x).host = (s.ran n).host :=
    (only_modJob (s0 := s.ran n) (mm := 49152) x.slot (fun j => { j with lists := j.lists ++ [s.openList x] }) rfl (only_refl _ _)).host rfl
  unfold State.cmd? at hran ⊢
  rwa [hhost]

/-- A stripe that waits holds no ring and no map set. -/
theorem waitArm_free (n : Nat) {x : Stripe} (hring : x.ring = none) (hmap : x.mapSet = none) :
    (s.waitArm n x).freeRing = s.freeRing ∧ (s.waitArm n x).freeMap = s.freeMap := by
  unfold State.freeRing State.freeMap
  rw [waitArm_stripes]
  simp [hring, hmap]

theorem waitArm_head (n : Nat) {x : Stripe} (hst : x.st = .armWait) (hnone : ∀ y ∈ s.stripes, y.st ≠ .armWait) :
    (sortBy (·.ord) ((s.waitArm n x).stripes.filter (fun t => t.st = .armWait))).head? = some x := by
  rw [waitArm_stripes, List.filter_append, List.filter_eq_nil_iff.mpr (fun y hy => by simp [hnone y hy]), List.filter_cons_of_pos (by simp [hst])]
  rfl

/-- The newest stripe alone is changed. -/
theorem map_newest {s : State} (hinv : s.Inv) {x : Stripe} (hord : x.ord = s.stripeOrd + 1) (f : Stripe → Stripe) :
    (s.stripes ++ [x]).map (fun y => if y.ord = x.ord then f y else y) = s.stripes ++ [f x] := by
  have hbefore : ∀ y ∈ s.stripes, y.ord ≠ x.ord := fun y hy => by
    have hall := hinv.stripes
    unfold ordered at hall
    rw [List.pairwise_append] at hall
    exact hord ▸ Nat.ne_of_lt (hall.2.2 _ (List.mem_map_of_mem hy) _ (List.mem_singleton_self _))
  rw [List.map_append, List.map_singleton, if_pos rfl]
  exact congrArg (· ++ [f x]) ((List.map_congr_left fun y hy => if_neg (hbefore y hy)).trans (List.map_id' _))

/-- A new stripe armed at once: `s` is the state it is accepted in. -/
theorem armNow_waitArm {n g : Nat} {c : Cmd} {x : Stripe} (hinv : s.Inv) (hord : x.ord = s.stripeOrd + 1) (hslot : x.slot ≤ 1) (m : Option Nat) :
    ((s.waitArm n x).armNow x g m).stripes = s.stripes ++ [x.armedWith x.pass g m] ∧ ((s.waitArm n x).armNow x g m).stripeOrd = x.ord ∧
      ((s.waitArm n x).armNow x g m).job x.slot = { s.job x.slot with lists := (s.job x.slot).lists ++ [s.openList x] }.armedFor x ∧
      ((s.waitArm n x).armNow x g m).job (1 - x.slot) = s.job (1 - x.slot) ∧
      ((s.cmd? n = some c) → c.done = none → x.armCmd = n → s.ended ((s.waitArm n x).armNow x g m) c 0
        (((((s.waitArm n x).armNow x g m).list? (x.armedWith x.pass g m)).map (·.base)).getD 0 / 64) 0 0 0) := by
  have hby := armedBy_armNow (s := s.waitArm n x) x g m
  refine ⟨hby.stripes.trans ((congrArg (List.map _) (waitArm_stripes n x)).trans (map_newest hinv hord _)), hby.stripeOrd,
    (hby.job hslot).trans (congrArg (·.armedFor x) (waitArm_job n x)), (hby.other hslot).trans (waitArm_other n hslot), fun hc hopen hcmd => ?_⟩
  subst hcmd
  rw [list?_armNow (s := s.waitArm x.armCmd x) (y := x.armedWith x.pass g m) g m hslot rfl rfl]
  exact ended_armNow g m (keeps_waitArm x.armCmd x hord (keepsOut_of_inv hinv)) (y := { c with ran := true }) (waitArm_cmd x hc) hopen rfl rfl rfl

end Sys2Proof.Machine
end

section
/-! SUPPORT. The commands STRIPE_ARM and PATCH_PASS up to the arming (O20, O24). -/

namespace Sys2Proof.Machine

variable {s : State}

/-- The stripe of an accepted STRIPE_ARM. -/
def State.armCandidate (s : State) (n i : Nat) (c : Cmd) (w : Walk) (r : StripeRec) : Stripe :=
  { slot := i, jobId := c.jobId, id := c.sel, pass := 0, st := .armWait, ord := s.stripeOrd + 1, srec := r, armCmd := n,
    endRow := r.rows, blocks := (s.blocksOf i c.sel).map (·.block), bandIndex := w.bandIndex }

/-- The blocks of an accepted stripe are known to open. -/
def State.blocksOpened (s : State) (i id : Nat) : State :=
  let blocks := (s.blocksOf i id).map (·.block)
  { s with frames := s.frames.map (fun (f : Nat × Frame) => if f.2.slot = i ∧ blocks.contains f.2.block then (f.1, { f.2 with opened := true }) else f) }

theorem inv_blocksOpened (hinv : s.Inv) (i id : Nat) : (s.blocksOpened i id).Inv := { hinv with }

theorem validated_eq (n i : Nat) (c : Cmd) (w : Walk) (r : StripeRec) :
    s.validated n i c w r = (s.blocksOpened i c.sel).waitArm n (s.armCandidate n i c w r) := rfl

theorem exec_stripeArm {n i : Nat} {c : Cmd} {w : Walk} {r : StripeRec} (hbegun : s.begun n 0x05 = some c) (hslot : s.slotOf c.jobId = some i)
    (hopen : (s.job i).status = 1) (hgood : ∀ f ∈ s.blocksOf i c.sel, f.failed < 2) (hchecks : s.armChecks i c.sel = .ok ())
    (hwalk : s.walk i c.sel = .ok w) (hrec : w.srec = some r) : exec (.stripeArm n 0 none) s = .next (s.validated n i c w r).armFree := by
  have hany : ¬ ((s.job i).status = 1 ∧ (s.blocksOf i c.sel).any (fun f => decide (f.failed ≥ 2)) = true) := fun h => by
    obtain ⟨f, hf, hbad⟩ := List.any_eq_true.mp h.2
    exact absurd (of_decide_eq_true hbad) (Nat.not_le_of_lt (hgood f hf))
  have htable : s.tableCopies n i 0 = s := if_pos (.inl rfl)
  have herror : s.armError i c.sel none = none := by
    unfold State.armError
    rw [hwalk]
    rfl
  show execStripeArm n 0 none s = _
  unfold execStripeArm
  rw [hbegun]
  dsimp only
  rw [hslot]
  dsimp only
  rw [if_neg hany, onJob_open hslot hopen]
  rw [htable, if_neg (not_not_intro hopen), hchecks]
  dsimp only
  rw [herror]
  dsimp only
  rw [hwalk]
  dsimp only
  rw [hrec]
  rfl

/-- The pass of an accepted PATCH_PASS. -/
def State.passCandidate (s : State) (n i : Nat) (c : Cmd) (r : StripeRec) (tb : List Byte) : Stripe :=
  let es := patchEntries tb (tb.length / 16)
  { slot := i, jobId := c.jobId, id := c.sel, pass := kget (fun _ => 0) (s.job i).passes c.sel + 1, st := .armWait, ord := s.stripeOrd + 1, srec := r,
    armCmd := n, firstRow := 64 * (patchSpan es).1, endRow := 64 * (patchSpan es).2 + 64, patch := es, staged := (patchSpan es).1, bandsDone := (patchSpan es).1 }

/-- The pass is counted. -/
def State.passCounted (s : State) (i id : Nat) : State :=
  s.modJob i (fun j => { j with passes := kput j.passes id (kget (fun _ => 0) (s.job i).passes id + 1) })

theorem only_passCounted (i id : Nat) : Only 49152 s (s.passCounted i id) := only_modJob _ _ rfl (only_refl _ s)

theorem passCounted_job (i id : Nat) : (s.passCounted i id).job i =
    { s.job i with passes := kput (s.job i).passes id (kget (fun _ => 0) (s.job i).passes id + 1) } := job_modJob_same _ _

theorem inv_passCounted (hinv : s.Inv) (i id : Nat) : (s.passCounted i id).Inv := by
  have honly := only_passCounted (s := s) i id
  exact honly.eq_takes ▸ { hinv with }

section
variable {n i : Nat} {c : Cmd} {r : StripeRec} {tb : List Byte}

theorem exec_patchPass (hbegun : s.begun n 0x0A = some c) (hfits : bufFits c (some tb) = true) (hslot : s.slotOf c.jobId = some i)
    (hopen : (s.job i).status = 1) (hchecks : s.passChecks i c.sel = .ok r) : exec (.patchPass n (some tb) false) s = .next (s.armPass n i c r tb) := by
  show execPatchPass n (some tb) false s = _
  unfold execPatchPass
  rw [hbegun]
  dsimp only
  rw [hfits, if_neg (by decide), onJob_open hslot hopen]
  rw [hchecks]
  rfl

theorem armPass_refused (hform : patchOk r.rows s.width tb = false) : s.armPass n i c r tb = s.fail n Code.TALLY_PATCH_FORM := by
  unfold State.armPass
  dsimp only
  rw [hform, if_pos (by decide)]

theorem armPass_accepted (hform : patchOk r.rows s.width tb = true) (hpasses : kget (fun _ => 0) (s.job i).passes c.sel < 255) :
    s.armPass n i c r tb = ((s.passCounted i c.sel).waitArm n (s.passCandidate n i c r tb)).armFree := by
  have hord : (s.passCounted i c.sel).stripeOrd = s.stripeOrd := (only_passCounted i c.sel).stripeOrd rfl
  unfold State.armPass
  dsimp only
  rw [hform, if_neg (by decide), if_neg (Nat.not_le_of_lt hpasses)]
  unfold State.passCandidate State.passCounted
  dsimp only
  unfold State.passCounted at hord
  rw [hord]

end

end Sys2Proof.Machine
end

section
/-! PROOFS. STRIPE_ARM and its resources (O20), and PATCH_PASS (O24). -/

namespace Sys2Proof.Machine

/-- Settles O20: the stripe that alone waits is the one that obtains the free ring and map set; with none free nothing else moves. -/
theorem stripeArms : Obligations.StripeArms := by
  unfold Obligations.StripeArms
  refine ⟨fun n i c w r s hinv hbegun hslot hopen hgood hchecks hwalk hrec => ⟨fun g m hnone hring hmap => ?_, fun hshort hpass => ?_⟩,
    fun n g m x c s hinv hfatal hc hdone hhead hcmd hpass hring hmap => ?_⟩
  · obtain ⟨hc, hdone⟩ := begun_some hbegun
    have hi := (slotOf_some hslot).1
    have hexec := exec_stripeArm hbegun hslot hopen hgood hchecks hwalk hrec
    rw [validated_eq] at hexec
    obtain ⟨hfreeRing, hfreeMap⟩ := waitArm_free (s := s.blocksOpened i c.sel) n (x := s.armCandidate n i c w r) rfl rfl
    rw [armFree_own (waitArm_head (s := s.blocksOpened i c.sel) n (x := s.armCandidate n i c w r) rfl hnone) rfl (hfreeRing.trans hring) (hfreeMap.trans hmap)] at hexec
    obtain ⟨hstripes, hord, hjob, hother, hended⟩ := armNow_waitArm (n := n) (g := g) (c := c) (x := s.armCandidate n i c w r) (inv_blocksOpened hinv i c.sel) rfl hi (some m)
    refine ⟨_, _, hexec, hstripes, rfl, rfl, rfl, rfl, rfl, rfl, rfl, rfl, rfl, rfl, rfl, rfl, hord, ?_, ?_, hother,
      ⟨(s.blocksOpened i c.sel).openList (s.armCandidate n i c w r), ?_, rfl, rfl, rfl, rfl, rfl⟩, hended hc hdone rfl⟩
    · exact (congrArg Job.penLocked hjob).trans (Bool.or_true _)
    · exact (congrArg Job.profLocked hjob).trans (Bool.or_true _)
    · exact (congrArg Job.lists hjob).symm ▸ List.mem_append_right _ (List.mem_singleton_self _)
  · obtain ⟨hc, hdone⟩ := begun_some hbegun
    have hexec := exec_stripeArm hbegun hslot hopen hgood hchecks hwalk hrec
    rw [validated_eq] at hexec
    obtain ⟨hfreeRing, hfreeMap⟩ := waitArm_free (s := s.blocksOpened i c.sel) n (x := s.armCandidate n i c w r) rfl rfl
    have hstripes := waitArm_stripes (s := s.blocksOpened i c.sel) n (s.armCandidate n i c w r)
    rw [armFree_waits (hshort.imp hfreeRing.trans hfreeMap.trans) (fun y hy hst => ?_)] at hexec
    · refine ⟨_, _, _, hexec, hstripes, rfl, rfl, rfl, ?_, waitArm_cmd (s := s.blocksOpened i c.sel) (s.armCandidate n i c w r) hc, rfl, hdone⟩
      exact (only_waitArm n _ rfl (only_put262144 rfl (only_refl 12902400 s))).eq_takes
    · rw [hstripes] at hy
      rcases List.mem_append.mp hy with hold | hnew
      · exact hpass y hold hst
      · rw [List.mem_singleton.mp hnew]
        rfl
  · have hexec : exec (.stripeArmResourcesFree n) s = .next s.armFree := by
      show execStripeArmResourcesFree n s = _
      unfold execStripeArmResourcesFree
      rw [hhead]
      exact if_pos ⟨hcmd, hfatal⟩
    rw [armFree_own hhead hpass hring hmap] at hexec
    refine ⟨_, hexec, (armedBy_armNow x g (some m)).stripes.trans ?_, ended_armNow g (some m) (keepsOut_of_inv hinv) (hcmd.symm ▸ hc) hdone rfl rfl rfl⟩
    rw [hpass]
    rfl

/-- Settles O24: the pass counted is the one that alone waits, and a ring is all it needs. -/
theorem patchPassArms : Obligations.PatchPassArms := by
  unfold Obligations.PatchPassArms
  intro n i g tb c r s hinv hbegun hfits hslot hopen hchecks
  have hexec := exec_patchPass hbegun hfits hslot hopen hchecks
  refine ⟨fun hform hpasses hnone hring => ?_, fun hform => ?_⟩
  · obtain ⟨hc, hdone⟩ := begun_some hbegun
    have hi := (slotOf_some hslot).1
    have honly := only_passCounted (s := s) i c.sel
    have hstripes' : (s.passCounted i c.sel).stripes = s.stripes := honly.stripes rfl
    have hord' : (s.passCounted i c.sel).stripeOrd = s.stripeOrd := honly.stripeOrd rfl
    rw [armPass_accepted hform hpasses] at hexec
    obtain ⟨hfreeRing, -⟩ := waitArm_free (s := s.passCounted i c.sel) n (x := s.passCandidate n i c r tb) rfl rfl
    have hring' : (s.passCounted i c.sel).freeRing = some g := by
      unfold State.freeRing at hring ⊢
      rwa [hstripes']
    rw [armFree_pass (waitArm_head (s := s.passCounted i c.sel) n (x := s.passCandidate n i c r tb) rfl (hstripes'.symm ▸ hnone)) (Nat.succ_ne_zero _) (hfreeRing.trans hring')] at hexec
    have hcounted : (s.passCounted i c.sel).cmd? n = some c := by
      unfold State.cmd? at hc ⊢
      rwa [honly.host rfl]
    have harmed := armNow_waitArm (n := n) (g := g) (c := c) (x := s.passCandidate n i c r tb) (inv_passCounted hinv i c.sel) (hord'.symm ▸ rfl) hi none
    obtain ⟨hstripes, -, hjob, -, hended⟩ := harmed
    refine ⟨_, _, hexec, hstripes.trans (congrArg (· ++ _) hstripes'), rfl, rfl, rfl, rfl, ?_, rfl, rfl, rfl, rfl, rfl, rfl, ended_of_same (honly.out rfl) (hended hcounted hdone rfl)⟩
    refine (congrArg (fun j => kget (fun _ => 0) j.passes c.sel) hjob).trans ?_
    exact (congrArg (fun j => kget (fun _ => 0) j.passes c.sel) (passCounted_job i c.sel)).trans ((kget_kput _ _ _ _ _).trans (if_pos rfl))
  · rw [armPass_refused hform] at hexec
    exact ⟨_, hexec, ended_fail_begun hinv hbegun _, (only_fail (mm := 78398662313265602577) n Code.TALLY_PATCH_FORM 0 0 0 0 rfl (only_refl _ s)).stripes rfl⟩

end Sys2Proof.Machine
end

section
/-! SUPPORT. STRIPE_GO, STRIPE_ABORT and CHECKPOINT on the stripes that they name (O21). -/

namespace Sys2Proof.Machine

variable {s : State}

theorem byOrd_modStripe {x y : Stripe} {f : Stripe → Stripe} (hf : ∀ z, (f z).ord = z.ord) (h : s.byOrd x.ord = some y) :
    (s.modStripe x f).byOrd x.ord = some (f y) := by
  have hy : y.ord = x.ord := by simpa using List.find?_some h
  have hsame : (fun t : Stripe => decide (t.ord = x.ord)) ∘ (fun t => if t.ord = x.ord then f t else t) = fun t => decide (t.ord = x.ord) := by
    funext t
    show decide ((if t.ord = x.ord then f t else t).ord = x.ord) = _
    split
    · rw [hf]
    · rfl
  unfold State.byOrd at h ⊢
  rw [stripes_modStripe, List.find?_map, hsame, h, Option.map_some, if_pos hy]

theorem filter_modStripe (x : Stripe) (f : Stripe → Stripe) (hf : ∀ z, (f z).ord = z.ord) :
    (s.modStripe x f).stripes.filter (fun y => y.ord ≠ x.ord) = s.stripes.filter (fun y => y.ord ≠ x.ord) := by
  rw [stripes_modStripe]
  induction s.stripes with
  | nil => rfl
  | cons y l ih =>
    by_cases hy : y.ord = x.ord
    · rw [List.map_cons, if_pos hy, List.filter_cons_of_neg (by simp [hf, hy]), List.filter_cons_of_neg (by simp [hy]), ih]
    · rw [List.map_cons, if_neg hy, List.filter_cons_of_pos (by simp [hy]), List.filter_cons_of_pos (by simp [hy]), ih]

/-! ### An armed stripe gone -/

theorem dropStripe_parts (x : Stripe) : (s.dropStripe x).stripes = s.stripes.filter (fun t => t.ord ≠ x.ord) ∧
    (s.dropStripe x).hold = s.hold.filter (fun r => r.ord ≠ x.ord) := by
  have hunits := only_dropUnits (s0 := s) (mm := 68722622465) x rfl (only_refl _ s)
  unfold State.dropStripe
  refine ⟨((only_showStripes (mm := 1) rfl (only_refl _ _)).stripes rfl).trans (congrArg (List.filter _) (hunits.stripes rfl)),
    ((only_showStripes (mm := 1) rfl (only_refl _ _)).hold rfl).trans (congrArg (List.filter _) (hunits.hold rfl))⟩

theorem markEnded_ended (x : Stripe) : x.id ∈ ((s.markEnded x).job x.slot).ended := by
  unfold State.markEnded
  rw [job_modJob_same]
  dsimp only
  split
  · next hin => exact List.contains_iff_mem.mp hin
  · exact List.mem_cons_self

theorem abortNow_armed {x : Stripe} (hst : x.st = .armed) : s.abortNow x = ((s.markEnded x).dropStripe x).finishAborts x := by
  unfold State.abortNow
  dsimp only
  rw [hst, if_neg (by decide), if_pos (.inl rfl)]

theorem flushStrays_none (hpend : s.strayPend = []) (hheld : s.strayHeld = []) : s.flushStrays = s := by
  have hsame : s = { s with strayPend := [], strayHeld := [] } :=
    congrArg₂ (fun p h => { s with strayPend := p, strayHeld := h }) hpend hheld
  unfold State.flushStrays
  rw [hpend, hheld]
  exact hsame.symm

theorem stopCkpt_none {x : Stripe} (h : x.ckptCmds = []) : s.stopCkpt x =
    ({ s with ckptUnits := [] }.dropCtxs (fun c => c.mode ≠ 0 && c.purp = 4)).modStripe x (fun t => { t with ckptCmds := [] }) := by
  unfold State.stopCkpt
  rw [h]
  rfl

/-- The abort is noted with its command, which follows the stripe's own. -/
def State.abortNoted (s : State) (n : Nat) (x : Stripe) : State :=
  ((s.ran n).setCmd n (fun c => { c with after := x.goCmd :: c.after })).modStripe x (fun t => { t with aborts := t.aborts ++ [(n, 0)] })

/-- The stripe's checkpoint and its run are stopped. -/
def State.abortStopped (s : State) (x : Stripe) : State :=
  (({ s with ckptUnits := [] }.dropCtxs (fun c => c.mode ≠ 0 && c.purp = 4)).modStripe x (fun t => { t with ckptCmds := [] })).abortRun x

/-- The stripe as the abort of command n finds it. -/
def Stripe.abortedBy (x : Stripe) (n : Nat) : Stripe := { x with aborts := [(n, 0)] }

theorem byOrd_abortNoted {n : Nat} {x : Stripe} (hfound : s.byOrd x.ord = some x) (haborts : x.aborts = []) :
    (s.abortNoted n x).byOrd x.ord = some (x.abortedBy n) := by
  refine (byOrd_modStripe (s := (s.ran n).setCmd n (fun c => { c with after := x.goCmd :: c.after })) (f := fun t => { t with aborts := t.aborts ++ [(n, 0)] })
    (fun _ => rfl) hfound).trans ?_
  rw [haborts]
  rfl

theorem byOrd_stopCkpt {x : Stripe} (hcmds : x.ckptCmds = []) (hfound : s.byOrd x.ord = some x) : (s.stopCkpt x).byOrd x.ord = some x := by
  have hdrop := only_dropCtxs (s0 := { s with ckptUnits := [] }) (mm := 3145729) (fun c => c.mode ≠ 0 && c.purp = 4) rfl (only_refl _ _)
  have hkept : { x with ckptCmds := [] } = x := by rw [← hcmds]
  rw [stopCkpt_none hcmds]
  refine (byOrd_modStripe (f := fun t => { t with ckptCmds := [] }) (fun _ => rfl) (y := x) ?_).trans (congrArg some hkept)
  unfold State.byOrd at hfound ⊢
  rw [hdrop.stripes rfl]
  exact hfound

theorem abortStripe_armed {n : Nat} {x : Stripe} (hfound : s.byOrd x.ord = some x) (hst : x.st = .armed) (hckpt : x.ckpt = 0) (hcmds : x.ckptCmds = [])
    (haborts : x.aborts = []) : s.abortStripe n x =
      (((((s.abortNoted n x).abortStopped (x.abortedBy n)).markEnded (x.abortedBy n)).dropStripe (x.abortedBy n)).complete n 0 0 x.exitRow).dropFrames.flushStrays := by
  have hnoted := byOrd_abortNoted (n := n) hfound haborts
  have hstopped := byOrd_stopCkpt (x := x.abortedBy n) hcmds hnoted
  unfold State.abortStripe
  extract_lets found s1 s2 y s3
  have hzero : found = 0 := by
    show (if x.ckptCmds ≠ [] then 4 else x.found) = 0
    rw [if_neg (not_not_intro hcmds), Stripe.found, hst]
  have hs2 : s2 = s.abortNoted n x := congrArg (fun k => s1.modStripe x (fun t => { t with aborts := t.aborts ++ [(n, k)] })) hzero
  have hy : y = x.abortedBy n := (congrArg (fun u : State => (u.byOrd x.ord).getD x) hs2).trans (congrArg (·.getD x) hnoted)
  have hs3 : s3 = (s.abortNoted n x).stopCkpt (x.abortedBy n) :=
    (if_neg (by rw [hckpt]; decide)).trans (congrArg₂ State.stopCkpt hs2 hy)
  rw [hst, if_neg (by decide), if_neg (by decide), if_neg (fun h => absurd h.1 (by decide)), hs3, hy,
    show ((s.abortNoted n x).stopCkpt (x.abortedBy n)).byOrd x.ord = some (x.abortedBy n) from hstopped, Option.getD_some,
    abortNow_armed (x := x.abortedBy n) hst, stopCkpt_none (x := x.abortedBy n) hcmds]
  rfl

/-- The state in which the abort of an armed stripe completes. -/
def State.armedGone (s : State) (n : Nat) (x : Stripe) : State :=
  (((s.abortNoted n x).abortStopped (x.abortedBy n)).markEnded (x.abortedBy n)).dropStripe (x.abortedBy n)

theorem only_abortNoted {m : Nat} {s0 : State} (n : Nat) (x : Stripe) (hm : sub 4202496 m = true) (h : Only m s0 s) : Only m s0 (s.abortNoted n x) :=
  only_modStripe _ _ (sub_trans rfl hm) (only_setCmd _ _ (sub_trans rfl hm) (only_ran _ (sub_trans rfl hm) h))

theorem only_abortStopped {m : Nat} {s0 : State} (x : Stripe) (hm : sub 8864819838977 m = true) (h : Only m s0 s) : Only m s0 (s.abortStopped x) :=
  only_abortRun _ (sub_trans rfl hm) (only_modStripe _ _ (sub_trans rfl hm) (only_dropCtxs _ (sub_trans rfl hm) (only_put68719476736 (sub_trans rfl hm) h)))

/-- The stripe's state before its resources are dropped. -/
def State.armedEnded (s : State) (n : Nat) (x : Stripe) : State := ((s.abortNoted n x).abortStopped (x.abortedBy n)).markEnded (x.abortedBy n)

theorem only_armedEnded (n : Nat) (x : Stripe) : Only 8864819896321 s (s.armedEnded n x) :=
  only_markEnded _ rfl (only_abortStopped _ rfl (only_abortNoted n x rfl (only_refl _ s)))

theorem only_armedGone (n : Nat) (x : Stripe) : Only 10788965244929 s (s.armedGone n x) :=
  only_dropStripe _ rfl (only_mono rfl (only_armedEnded n x))

theorem stripes_abortStopped (x : Stripe) : (s.abortStopped x).stripes.filter (fun y => y.ord ≠ x.ord) = s.stripes.filter (fun y => y.ord ≠ x.ord) := by
  have hdrop := only_dropCtxs (s0 := { s with ckptUnits := [] }) (mm := 3145729) (fun c => c.mode ≠ 0 && c.purp = 4) rfl (only_refl _ _)
  unfold State.abortStopped
  rw [(only_abortRun (mm := 8796093022208) x rfl (only_refl _ _)).stripes rfl, filter_modStripe x (fun t => { t with ckptCmds := [] }) (fun _ => rfl), hdrop.stripes rfl]

theorem stripes_armedEnded (n : Nat) (x : Stripe) : (s.armedEnded n x).stripes.filter (fun y => y.ord ≠ x.ord) = s.stripes.filter (fun y => y.ord ≠ x.ord) := by
  unfold State.armedEnded
  rw [(only_markEnded (mm := 49152) (x.abortedBy n) rfl (only_refl _ _)).stripes rfl]
  exact (stripes_abortStopped (s := s.abortNoted n x) (x.abortedBy n)).trans
    (filter_modStripe (s := (s.ran n).setCmd n (fun c => { c with after := x.goCmd :: c.after })) x _ (fun _ => rfl))

theorem keeps_abortNoted {q : List Instr} {o : List Out} (n : Nat) (x : Stripe) (h : Keeps q o s) : Keeps q o (s.abortNoted n x) :=
  keeps_modStripe x _ (fun _ => rfl) (keeps_setCmd n _ (fun _ => rfl) (keeps_ran n h))

theorem keeps_abortStopped {q : List Instr} {o : List Out} (x : Stripe) (h : Keeps q o s) : Keeps q o (s.abortStopped x) :=
  keeps_abortRun _ (keeps_modStripe _ _ (fun _ => rfl) (keeps_dropCtxs (s := { s with ckptUnits := [] }) _ ⟨h.ok⟩))

theorem keeps_armedGone {q : List Instr} {o : List Out} (n : Nat) (x : Stripe) (h : Keeps q o s) : Keeps q o (s.armedGone n x) :=
  keeps_dropStripe _ (keeps_markEnded _ (keeps_abortStopped _ (keeps_abortNoted n x h)))

theorem cmd_armedGone {n : Nat} {c : Cmd} (x : Stripe) (hc : s.cmd? n = some c) :
    (s.armedGone n x).cmd? n = some { c with ran := true, after := x.goCmd :: c.after } := by
  have hnoted : ((s.ran n).setCmd n (fun c => { c with after := x.goCmd :: c.after })).cmd? n = some { c with ran := true, after := x.goCmd :: c.after } :=
    cmd?_setCmd (s := s.ran n) (c := { c with ran := true }) (f := fun c => { c with after := x.goCmd :: c.after }) (fun _ => rfl)
      (cmd?_setCmd (f := fun c => { c with ran := true }) (fun _ => rfl) hc)
  have hrest : Only 10788965236737 ((s.ran n).setCmd n (fun c => { c with after := x.goCmd :: c.after })) (s.armedGone n x) :=
    only_dropStripe _ rfl (only_markEnded _ rfl (only_abortStopped _ rfl (only_modStripe _ _ rfl (only_refl _ _))))
  unfold State.cmd? at hnoted ⊢
  rwa [hrest.host rfl]

/-- STRIPE_ABORT of an armed stripe, as far as its own resources. -/
theorem abortStripe_gone {n : Nat} {c : Cmd} {x : Stripe} {q : List Instr} {s0 : State} (hk : Keeps q s0.out s) (hfound : s.byOrd x.ord = some x)
    (hst : x.st = .armed) (hckpt : x.ckpt = 0) (hcmds : x.ckptCmds = []) (haborts : x.aborts = []) (hpend : s.strayPend = []) (hheld : s.strayHeld = [])
    (hc : s.cmd? n = some c) (hopen : c.done = none) :
    (s.abortStripe n x).stripes = s.stripes.filter (fun y => y.ord ≠ x.ord) ∧ x.id ∈ ((s.abortStripe n x).job x.slot).ended ∧
      s0.ended (s.abortStripe n x) c 0 0 x.exitRow 0 0 ∧ (s.abortStripe n x).hold = s.hold.filter (fun w => w.ord ≠ x.ord) ∧
      (s.abortStripe n x).log = s.log ∧ (s.abortStripe n x).frames = s.frames ∧ (s.abortStripe n x).bells = s.bells := by
  have hend := only_armedEnded (s := s) n x
  have hgone := only_armedGone (s := s) n x
  have hdrop : Only 1992872165377 (s.armedEnded n x) (s.armedGone n x) := only_dropStripe _ rfl (only_refl _ _)
  obtain ⟨hstripes, hhold⟩ := dropStripe_parts (s := s.armedEnded n x) (x.abortedBy n)
  have hjob : x.id ∈ ((s.armedGone n x).job x.slot).ended := by
    rw [job_of_only hdrop rfl rfl]
    exact markEnded_ended (s := (s.abortNoted n x).abortStopped (x.abortedBy n)) (x.abortedBy n)
  have hkeeps := keeps_armedGone n x hk
  have hcmd := cmd_armedGone x hc
  have hdone := only_complete (s0 := s.armedGone n x) (mm := 73786976294838214656) n 0 0 x.exitRow 0 0 rfl (only_refl _ _)
  have hended : s0.ended ((s.armedGone n x).complete n 0 0 x.exitRow) c 0 0 x.exitRow 0 0 :=
    ended_complete _ _ _ _ _ hkeeps.ok.cmds hkeeps.ok.out hcmd hopen rfl rfl rfl
  have hlanes := only_dropFrames (s0 := (s.armedGone n x).complete n 0 0 x.exitRow) (mm := 73841021689389907968) rfl (only_refl _ _)
  have hout := (keeps_dropFrames (s := (s.armedGone n x).complete n 0 0 x.exitRow)
    (oo := ((s.armedGone n x).complete n 0 0 x.exitRow).out) ⟨{ (keeps_complete n 0 0 x.exitRow 0 0 hkeeps).ok with out := List.suffix_rfl }⟩).ok.out
  have hlate := ended_more (hlanes.host rfl) hout hended
  rw [abortStripe_armed hfound hst hckpt hcmds haborts, flushStrays_none]
  · refine ⟨(hlanes.stripes rfl).trans ((hdone.stripes rfl).trans (hstripes.trans (stripes_armedEnded n x))), ?_, hlate,
      (hlanes.hold rfl).trans ((hdone.hold rfl).trans (hhold.trans (congrArg (List.filter _) (hend.hold rfl)))),
      (hlanes.log rfl).trans ((hdone.log rfl).trans (hgone.log rfl)), (hlanes.frames rfl).trans ((hdone.frames rfl).trans (hgone.frames rfl)),
      (hlanes.bells rfl).trans ((hdone.bells rfl).trans (hgone.bells rfl))⟩
    exact (job_of_only hlanes rfl rfl x.slot).symm ▸ (job_of_only hdone rfl rfl x.slot).symm ▸ hjob
  · exact (hlanes.strayPend rfl).trans ((hdone.strayPend rfl).trans ((hgone.strayPend rfl).trans hpend))
  · exact (hlanes.strayHeld rfl).trans ((hdone.strayHeld rfl).trans ((hgone.strayHeld rfl).trans hheld))

/-! ### The commands -/

section
variable {n i : Nat} {c : Cmd} {x : Stripe}

theorem named_mem (h : s.named i c.sel = some x) : x ∈ s.stripes ∧ x.slot = i := by
  have hx := List.find?_some h
  exact ⟨List.mem_of_find?_eq_some h, (of_decide_eq_true hx).1⟩

theorem exec_stripeGo (hbegun : s.begun n 0x06 = some c) (hslot : s.slotOf c.jobId = some i) (hopen : (s.job i).status = 1)
    (hx : s.goStripe i c = some x) :
    exec (.stripeGo n) s = .next (((s.ran n).modStripe x (fun t => { t with st := .waiting, goCmd := n, addr2 := c.addr2 })).showStripes) := by
  show execStripeGo n s = _
  unfold execStripeGo
  rw [hbegun]
  dsimp only
  rw [onJob_open hslot hopen, hx]

theorem exec_stripeGo_none (hbegun : s.begun n 0x06 = some c) (hslot : s.slotOf c.jobId = some i) (hopen : (s.job i).status = 1)
    (hx : s.goStripe i c = none) : exec (.stripeGo n) s = .next (s.fail n Code.HOST_STRIPE_STATE) := by
  show execStripeGo n s = _
  unfold execStripeGo
  rw [hbegun]
  dsimp only
  rw [onJob_open hslot hopen, hx]

theorem exec_stripeAbort (hbegun : s.begun n 0x07 = some c) (hslot : s.slotOf c.jobId = some i) (hopen : (s.job i).status = 1)
    (hnamed : s.named i c.sel = some x) : exec (.stripeAbort n) s = .next ((s.withdrawStripe x).abortStripe n x) := by
  show execStripeAbort n s = _
  unfold execStripeAbort
  rw [hbegun]
  dsimp only
  rw [onJob_open hslot hopen, hnamed]

theorem exec_checkpoint (hbegun : s.begun n 0x08 = some c) (hslot : s.slotOf c.jobId = some i) (hopen : (s.job i).status = 1)
    (hnamed : s.named i c.sel = some x) (hst : x.st = .writing) : exec (.checkpoint n) s = .next (
      let u := (s.ran n).modStripe x (fun t => { t with ckptCmds := t.ckptCmds ++ [n] })
      if s.drover.st = 3 ∨ s.drover.st = 4 then u.contain { code := Code.HOST_CHECKPOINT, cls := 2, origin := .operator, cmd := some n } else u) := by
  show execCheckpoint n s = _
  unfold execCheckpoint
  rw [hbegun]
  dsimp only
  rw [onJob_open hslot hopen, hnamed]
  dsimp only
  rw [if_neg (not_not_intro hst)]

/-- The stripe that a CHECKPOINT waits for is the active one still. -/
theorem active_modStripe {f : Stripe → Stripe} (hf : ∀ z, (f z).st = z.st) (hactive : s.active = some x) :
    (s.modStripe x f).active = some (f x) := by
  have hsame : (fun t : Stripe => decide (t.st = .writing ∨ t.st = .contained)) ∘ (fun t => if t.ord = x.ord then f t else t) =
      fun t => decide (t.st = .writing ∨ t.st = .contained) := by
    funext t
    show decide ((if t.ord = x.ord then f t else t).st = .writing ∨ (if t.ord = x.ord then f t else t).st = .contained) = _
    split
    · rw [hf]
    · rfl
  unfold State.active at hactive ⊢
  rw [stripes_modStripe, List.find?_map, hsame, hactive, Option.map_some, if_pos rfl]

end

end Sys2Proof.Machine
end

section
/-! PROOFS. STRIPE_GO, STRIPE_ABORT and CHECKPOINT (O21). -/

namespace Sys2Proof.Machine

theorem stripeGo_waits : ∀ (n i : Nat) (c : Cmd) (s : State), s.Inv → s.begun n 0x06 = some c → s.slotOf c.jobId = some i → (s.job i).status = 1 →
    (∀ x, s.goStripe i c = some x →
      ∃ t y, exec (.stripeGo n) s = .next t ∧ t = { s with regs := t.regs, host := t.host, stripes := t.stripes } ∧
        t.stripes = s.stripes.map (fun z => if z.ord = x.ord then { z with st := .waiting, goCmd := n, addr2 := c.addr2 } else z) ∧
        t.cmd? n = some y ∧ y.ran = true ∧ y.done = none ∧
        s.regsBut t ([R.HOST_STRIPE_NOW, R.HOST_STRIPE_NEXT, R.HOST_STRIPE_STATE, R.CLK_PREWARM] ++ checkRegs)) ∧
    (s.goStripe i c = none →
      ∃ t, exec (.stripeGo n) s = .next t ∧ s.ended t c Code.HOST_STRIPE_STATE 0 0 0 0 ∧ t.stripes = s.stripes) := by
  intro n i c s hinv hbegun hslot hopen
  obtain ⟨hc, hdone⟩ := begun_some hbegun
  refine ⟨fun x hx => ?_, fun hnone => ?_⟩
  · have hexec := exec_stripeGo hbegun hslot hopen hx
    have hset : Only 4202496 s ((s.ran n).modStripe x (fun t => { t with st := .waiting, goCmd := n, addr2 := c.addr2 })) :=
      only_modStripe _ _ rfl (only_ran n rfl (only_refl _ s))
    have hshow := only_showStripes (s0 := (s.ran n).modStripe x (fun t => { t with st := .waiting, goCmd := n, addr2 := c.addr2 })) (mm := 1) rfl (only_refl _ _)
    have hran : (s.ran n).cmd? n = some { c with ran := true } := cmd?_setCmd (fun _ => rfl) hc
    refine ⟨_, { c with ran := true }, hexec, (only_showStripes rfl (only_mono rfl hset : Only 4202497 s _)).eq_takes,
      (hshow.stripes rfl).trans (stripes_modStripe _ _ _), ?_, rfl, hdone, regsOff_showStripes (fun _ h => h) (regsOff_regs (hset.regs rfl) (regsOff_refl _ s))⟩
    unfold State.cmd? at hran ⊢
    rw [hshow.host rfl]
    exact hran
  · have hexec := exec_stripeGo_none hbegun hslot hopen hnone
    exact ⟨_, hexec, ended_fail_begun hinv hbegun _, (only_fail (mm := 78398662313265602577) n Code.HOST_STRIPE_STATE 0 0 0 0 rfl (only_refl _ s)).stripes rfl⟩

/-- With no block of the job asked for, only the stripe's decodes are given up. -/
theorem withdrawStripe_idle {s : State} {x : Stripe} {q : List Instr} {o : List Out} (hreqs : (s.job x.slot).reqs = []) (hk : Keeps q o s) :
    ∃ u, Only 3145729 s u ∧ Keeps q o u ∧ s.withdrawStripe x = u := by
  unfold State.withdrawStripe
  dsimp only
  refine ⟨_, only_dropCtxs _ rfl (only_refl _ s), keeps_dropCtxs _ hk, withdraw_none ?_ _⟩
  rwa [job_of_only (only_dropCtxs (mm := 3145729) _ rfl (only_refl _ s)) rfl rfl]

theorem stripeAbort_armed : ∀ (n i : Nat) (c : Cmd) (x : Stripe) (s : State), s.Inv → s.begun n 0x07 = some c → s.slotOf c.jobId = some i → (s.job i).status = 1 →
    s.named i c.sel = some x → x.st = .armed → x.ckpt = 0 → x.ckptCmds = [] → x.aborts = [] → (s.job i).reqs = [] →
    s.strayPend = [] → s.strayHeld = [] →
    ∃ t, exec (.stripeAbort n) s = .next t ∧ t.stripes = s.stripes.filter (fun y => y.ord ≠ x.ord) ∧ x.id ∈ (t.job i).ended ∧
      s.ended t c 0 0 x.exitRow 0 0 ∧ (t.hold = s.hold.filter (fun w => w.ord ≠ x.ord)) ∧ t.log = s.log ∧ t.frames = s.frames ∧ t.bells = s.bells := by
  intro n i c x s hinv hbegun hslot hopen hnamed hst hckpt hcmds haborts hreqs hpend hheld
  obtain ⟨hc, hdone⟩ := begun_some hbegun
  obtain ⟨hmem, rfl⟩ := named_mem hnamed
  obtain ⟨u, hdrop, hkeeps, hwithdrawn⟩ := withdrawStripe_idle hreqs (keepsOut_of_inv hinv)
  have hfound : u.byOrd x.ord = some x := by
    have hby := byOrd_of_mem hinv hmem
    unfold State.byOrd at hby ⊢
    rwa [hdrop.stripes rfl]
  have hcmd : u.cmd? n = some c := by
    unfold State.cmd? at hc ⊢
    rwa [hdrop.host rfl]
  have hgone := abortStripe_gone hkeeps hfound hst hckpt hcmds haborts ((hdrop.strayPend rfl).trans hpend)
    ((hdrop.strayHeld rfl).trans hheld) hcmd hdone
  rw [hdrop.stripes rfl, hdrop.hold rfl, hdrop.log rfl, hdrop.frames rfl, hdrop.bells rfl] at hgone
  exact ⟨_, (exec_stripeAbort hbegun hslot hopen hnamed).trans (congrArg (fun u : State => Host.Outcome.next (u.abortStripe n x)) hwithdrawn), hgone⟩

theorem checkpoint_waits : ∀ (n i : Nat) (c : Cmd) (x : Stripe) (s : State), s.Inv → s.begun n 0x08 = some c → s.slotOf c.jobId = some i → (s.job i).status = 1 →
    s.named i c.sel = some x → x.st = .writing →
    (s.drover.st ≠ 3 → s.drover.st ≠ 4 →
      ∃ t, exec (.checkpoint n) s = .next t ∧ t = { s with host := t.host, stripes := t.stripes } ∧
        t.stripes = s.stripes.map (fun y => if y.ord = x.ord then { y with ckptCmds := y.ckptCmds ++ [n] } else y)) ∧
    (s.drover.st = 3 ∨ s.drover.st = 4 → s.active = some x →
      ∃ t, exec (.checkpoint n) s = .next t ∧ t.drover.st = 5 ∧ t.flink.shaded = true ∧ t.rd R.SYS_CKPT_STATE % 16 = 1 ∧
        ∃ y ∈ t.stripes, y.ord = x.ord ∧ y.st = .contained ∧ y.held = s.drover.k ∧ y.cause = Code.HOST_CHECKPOINT ∧ y.ckpt = 1 ∧ n ∈ y.ckptCmds) := by
  intro n i c x s hinv hbegun hslot hopen hnamed hst
  have hexec := exec_checkpoint hbegun hslot hopen hnamed hst
  have hset : Only 4202496 s ((s.ran n).modStripe x (fun t => { t with ckptCmds := t.ckptCmds ++ [n] })) :=
    only_modStripe _ _ rfl (only_ran n rfl (only_refl _ s))
  refine ⟨fun hstill hrewind => ⟨_, hexec.trans (congrArg Host.Outcome.next (if_neg (not_or.mpr ⟨hstill, hrewind⟩))), hset.eq_takes, stripes_modStripe _ _ _⟩,
    fun hat hactive => ?_⟩
  have hexec' := hexec.trans (congrArg Host.Outcome.next (if_pos hat))
  have hnow := active_modStripe (s := s.ran n) (f := fun t => { t with ckptCmds := t.ckptCmds ++ [n] }) (fun _ => rfl) (x := x) hactive
  have hmem : { x with ckptCmds := x.ckptCmds ++ [n] } ∈ ((s.ran n).modStripe x (fun t => { t with ckptCmds := t.ckptCmds ++ [n] })).stripes :=
    mem_modStripe (s := s.ran n) _ (named_mem hnamed).1 rfl
  have hk := congrArg Drover.k (hset.drover rfl)
  generalize (s.ran n).modStripe x (fun t => { t with ckptCmds := t.ckptCmds ++ [n] }) = u at *
  rw [contain_writing hnow hst, hk] at hexec'
  obtain ⟨-, hdrover, hshaded, hstate⟩ := containedBy_enterContained u { x with ckptCmds := x.ckptCmds ++ [n] }
    { code := Code.HOST_CHECKPOINT, cls := 2, origin := .operator, cmd := some n } false s.drover.k hmem
  have hlow : ∀ v : Nat, v % 16 = fieldOf v 3 0 := fun v => by
    show v % 16 = v >>> 0 % 16
    rw [Nat.shiftRight_zero]
  refine ⟨_, hexec', hdrover, hshaded, (hlow _).trans hstate, Stripe.heldAt Code.HOST_CHECKPOINT u.log.nextSeq s.drover.k { x with ckptCmds := x.ckptCmds ++ [n] }, ?_, rfl, rfl, rfl, rfl, rfl,
    List.mem_append_right _ (List.mem_singleton_self n)⟩
  rw [stripes_enterContained]
  exact List.mem_map.mpr ⟨_, hmem, if_pos rfl⟩

/-- Settles O21: each command acts on the stripe that its name finds, and the rest of the stripes stand as they stood. -/
theorem stripesGoAndStop : Obligations.StripesGoAndStop := ⟨stripeGo_waits, stripeAbort_armed, checkpoint_waits⟩

end Sys2Proof.Machine
end

section
/-! SUPPORT. An interrupt condition once raised stands through records and containments (R470, R620). -/

namespace Sys2Proof.Machine

/-- Every raw interrupt bit that is set in s is set in t. -/
def RawKept (s t : State) : Prop := ∀ p b, b < 32 → s.fld (p * 0x1000 + 0x10) b b = 1 → t.fld (p * 0x1000 + 0x10) b b = 1

section Raising

variable {s0 s t : State}

theorem rawKept_refl (s : State) : RawKept s s := fun _ _ _ h => h

theorem RawKept.trans (a : RawKept s0 s) (b : RawKept s t) : RawKept s0 t := fun p i hi h => b p i hi (a p i hi h)

theorem rawKept_ite {c : Prop} [Decidable c] {a b : State} (ha : RawKept s0 a) (hb : RawKept s0 b) : RawKept s0 (if c then a else b) := by
  split
  · exact ha
  · exact hb

theorem offOf_raw (p : Nat) : offOf (p * 0x1000 + 0x10) = 0x10 := by
  unfold offOf
  omega

/-- A change of registers none of which is a raw one. -/
theorem rawKept_regs {l : List RegAddr} (hr : RegsOff l s t) (hl : ∀ a ∈ l, offOf a ≠ 0x10) (h : RawKept s0 s) : RawKept s0 t :=
  h.trans fun p b _ hb => by rwa [fld_of_rd (hr _ (fun hm => hl _ hm (offOf_raw p)))]

theorem RawKept.quiet (h : RawKept s0 s) (hr : t.regs = s.regs) : RawKept s0 t :=
  rawKept_regs (l := []) (regsOff_regs hr (regsOff_refl _ s)) (fun _ hm => nomatch hm) h

theorem rawKept_wr (a v : Nat) (ha : offOf a ≠ 0x10) (h : RawKept s0 s) : RawKept s0 (s.wr a v) :=
  rawKept_regs (regsOff_wr a v (List.mem_singleton_self a) (regsOff_refl [a] s)) (fun r hr => by rw [List.mem_singleton.mp hr]; exact ha) h

theorem rawKept_setFld (a hi lo v : Nat) (ha : offOf a ≠ 0x10) (h : RawKept s0 s) : RawKept s0 (s.setFld a hi lo v) := rawKept_wr a _ ha h

theorem raw_apart {p q : Nat} (h : q ≠ p) : p * 0x1000 + 0x10 ≠ q * 0x1000 + 0x10 := by omega

theorem pend_ne_raw (p q : Nat) : p * 0x1000 + 0x18 ≠ q * 0x1000 + 0x10 := by omega

theorem raiseIrq_sets (s : State) (p : Nat) {b : Nat} (hb : b < 32) : (s.raiseIrq p b).fld (p * 0x1000 + 0x10) b b = 1 := by
  unfold State.raiseIrq
  dsimp only
  split
  · next h => exact h
  · have hsignal : ∀ u : State, (u.signalPage p (Nat.land (s.rd (p * 0x1000 + 0x18)) (s.rd (p * 0x1000 + 0x14)))).regs = u.regs := fun u =>
      (only_signalPage (mm := 73786976294838206464) (s0 := u) p _ rfl (only_refl _ u)).regs rfl
    rw [fld_of_rd (rd_congr (hsignal _) _), fld_of_rd (rd_setFld_other _ _ _ (by omega)), fld_setFld_bit _ _ hb]

theorem rawKept_raiseIrq (p b : Nat) (hb : b < 32) (h : RawKept s0 s) : RawKept s0 (s.raiseIrq p b) := by
  refine h.trans fun q i hi hset => ?_
  by_cases hq : q = p ∧ i = b
  · obtain ⟨rfl, rfl⟩ := hq
    exact raiseIrq_sets s q hb
  · unfold State.raiseIrq
    dsimp only
    split
    · exact hset
    · have hsignal : ∀ u : State, (u.signalPage p (Nat.land (s.rd (p * 0x1000 + 0x18)) (s.rd (p * 0x1000 + 0x14)))).regs = u.regs := fun u =>
        (only_signalPage (mm := 73786976294838206464) (s0 := u) p _ rfl (only_refl _ u)).regs rfl
      have hpend := pend_ne_raw p q
      have hmasked : ((s.setFld (p * 0x1000 + 0x10) b b 1).setFld (p * 0x1000 + 0x18) b b 1).rd (q * 0x1000 + 0x10) =
          (s.setFld (p * 0x1000 + 0x10) b b 1).rd (q * 0x1000 + 0x10) := rd_setFld_other b b 1 hpend
      refine (fld_of_rd (rd_congr (hsignal _) _) i i).trans ((fld_of_rd hmasked i i).trans ?_)
      by_cases hpage : q = p
      · subst hpage
        have hi' : i ≠ b := fun e => hq ⟨rfl, e⟩
        exact (fld_setFld_apart _ _ (Nat.le_refl b) hb (Nat.lt_or_gt_of_ne hi')).trans hset
      · have hne := raw_apart hpage
        exact (fld_of_rd (rd_setFld_other b b 1 hne) i i).trans hset

theorem rawKept_traced (p : Nat) {u : State} (h : RawKept s0 s) : RawKept s0 (State.traced p u s) :=
  rawKept_regs (l := []) (regsOff_traced p (regsOff_refl _ s)) (fun _ hm => nomatch hm) h

theorem offOf_page (p k : Nat) (hk : k < 0x1000) : offOf (p * 0x1000 + k) = k := by
  unfold offOf
  omega

theorem rawKept_traces (p k c : Nat) (d : List Nat) (code : Nat) (h : RawKept s0 s) : RawKept s0 ((s.traceRec p k c d).traceTrigger code) :=
  RawKept.quiet (rawKept_regs (l := []) (regsOff_traceRec p k c d (regsOff_refl _ s)) (fun _ hm => nomatch hm) h)
    ((only_traceTrigger (mm := 4611686018427387904) (s0 := s.traceRec p k c d) code rfl (only_refl _ _)).regs rfl)

theorem rawKept_writeRec (a : RecArg) (h : RawKept s0 s) : RawKept s0 (s.writeRec a) := by
  have hlog : RawKept s0 (s.logRec (s.mkRec a)) := by
    unfold State.logRec State.wr64
    exact rawKept_wr _ _ (by decide) (rawKept_wr _ _ (by decide) (rawKept_wr _ _ (by decide) (rawKept_setFld _ _ _ _ (by decide) (h.quiet rfl))))
  have hrest : ∀ u : State, RawKept s0 u → RawKept s0 (
      let v := (((u.pageErr a.page (s.mkRec a).seq (s.mkRec a).code).traceRec a.page 1 (s.mkRec a).code
        [(s.mkRec a).seq, (s.mkRec a).loc0, (s.mkRec a).loc1, (s.mkRec a).loc2]).traceTrigger a.code).raiseIrq a.page 31
      if a.cls ≥ 2 ∧ a.cls ≤ 4 then v.raiseIrq 0 0 else v) := by
    intro u hu
    have herr : RawKept s0 (u.pageErr a.page (s.mkRec a).seq (s.mkRec a).code) := by
      unfold State.pageErr
      refine rawKept_traced _ (rawKept_setFld _ _ _ _ (by rw [offOf_page _ _ (by decide)]; decide) (rawKept_ite (rawKept_wr _ _ ?_ hu) hu))
      rw [offOf_page _ _ (by decide)]
      decide
    have hraised := rawKept_raiseIrq a.page 31 (by decide) (rawKept_traces a.page 1 (s.mkRec a).code
      [(s.mkRec a).seq, (s.mkRec a).loc0, (s.mkRec a).loc1, (s.mkRec a).loc2] a.code herr)
    exact rawKept_ite (rawKept_raiseIrq 0 0 (by decide) hraised) hraised
  unfold State.writeRec
  dsimp only
  cases a.cmd with
  | none => exact hrest _ hlog
  | some i => exact hrest _ (hlog.quiet rfl)

theorem rawKept_recordRaw (a : RecArg) (h : RawKept s0 s) : RawKept s0 (s.recordRaw a) := by
  have hcount : RawKept s0 (s.countOnly a.page) := by
    unfold State.countOnly
    exact rawKept_setFld _ _ _ _ (by decide) (rawKept_traced _ (rawKept_setFld _ _ _ _ (by rw [offOf_page _ _ (by decide)]; decide) h))
  unfold State.recordRaw
  dsimp only
  split
  · exact rawKept_ite hcount (rawKept_raiseIrq 0 1 (by decide) (rawKept_writeRec _ (hcount.quiet rfl)))
  · exact rawKept_ite hcount (rawKept_writeRec a h)

theorem rawKept_resends (ht : Resends s t) (h : RawKept s0 s) : RawKept s0 t := rawKept_regs ht.regs (by decide) h

theorem rawKept_shadeOn (now : Bool) (h : RawKept s0 s) : RawKept s0 (s.shadeOn now) :=
  rawKept_resends (resends_shadeBlocks _ _) (h.quiet rfl)

theorem rawKept_discard (content : Nat) (x : Stripe) (k : Int) (h : RawKept s0 s) : RawKept s0 ((s.allLanes 0x55 content).dropAfter x k) :=
  rawKept_resends (resends_dropAfter _ x k) (rawKept_resends (resends_allLanes _ _ _) h)

theorem rawKept_droverTo (n : Nat) (h : RawKept s0 s) : RawKept s0 (s.droverTo n) :=
  rawKept_setFld _ _ _ _ (by decide) (rawKept_setFld _ _ _ _ (by decide) (h.quiet rfl))

theorem rawKept_showStripes (h : RawKept s0 s) : RawKept s0 s.showStripes :=
  rawKept_regs (regsOff_showStripes (fun _ h => h) (regsOff_refl _ s)) (by decide) h

theorem rawKept_enterContained (x : Stripe) (a : RecArg) (now : Bool) (k : Int) (h : RawKept s0 s) : RawKept s0 (s.enterContained x a now k) := by
  unfold State.enterContained
  dsimp only
  generalize hu : State.modStripe _ _ _ = u
  have hheld : RawKept s0 u := by
    rw [← hu]
    exact (rawKept_recordRaw _ h).quiet rfl
  have hshade := rawKept_discard (lowBits 24 (x.flashBase + k)) x k (rawKept_shadeOn now (rawKept_droverTo 5 hheld))
  generalize State.dropAfter _ _ _ = v at hshade ⊢
  have hregs : RawKept s0 (((v.setFld R.SYS_CKPT_STATE 3 0 1).wr R.SYS_CKPT_HELD (lowBits 32 k)).wr64 R.DROVER_HELD_L v.drover.lastIndex) :=
    rawKept_wr _ _ (by decide) (rawKept_wr _ _ (by decide) (rawKept_wr _ _ (by decide) (rawKept_wr _ _ (by decide) hshade)))
  generalize State.wr64 _ _ _ = w at hregs ⊢
  have hflood : ∀ c : State, (c.floodContain a.code).regs = c.regs := fun c =>
    (only_floodContain (mm := 76092819304051900416) _ rfl (only_refl _ c)).regs rfl
  exact rawKept_showStripes ((hregs.quiet rfl).quiet (hflood _))

theorem rawKept_containAt (a : RecArg) (now : Bool) (k : Int) (h : RawKept s0 s) : RawKept s0 (s.containAt a now k) := by
  have hnow : RawKept s0 (if now then s.shadeOn true else s) := rawKept_ite (rawKept_shadeOn _ h) h
  unfold State.containAt
  split
  · exact rawKept_recordRaw _ h
  · next x _ =>
    split
    · dsimp only
      split
      · generalize hu : State.modStripe _ _ _ = u
        have hheld : RawKept s0 u := by
          rw [← hu]
          exact RawKept.quiet (rawKept_recordRaw _ hnow) rfl
        have hcut := rawKept_discard (lowBits 24 (x.flashBase + x.held)) x x.held (rawKept_shadeOn now (rawKept_droverTo 5 hheld))
        generalize State.dropAfter _ _ _ = w at hcut ⊢
        exact (rawKept_setFld R.SYS_CKPT_STATE 3 0 1 (by decide) hcut).quiet rfl
      · exact rawKept_recordRaw _ hnow
    · exact rawKept_enterContained _ _ _ _ h

theorem rawKept_contain (a : RecArg) (now : Bool) (h : RawKept s0 s) : RawKept s0 (s.contain a now) := rawKept_containAt a now _ h

theorem rawKept_record (a : RecArg) (h : RawKept s0 s) : RawKept s0 (s.record a) :=
  rawKept_ite (rawKept_contain _ _ (rawKept_recordRaw _ h)) (rawKept_recordRaw _ h)

end Raising

end Sys2Proof.Machine
end

section
/-! SUPPORT. The pins that INTERLOCK and STATUS show, the shading that a containment causes, and the write of INTERLOCK (O43). -/

namespace Sys2Proof.Machine

variable {s t : State}

/-! ### The pins -/

/-- The two states show the same pins and the same STATUS. -/
theorem shadeOut_congr (hbeam : t.beamOff = s.beamOff) (hfatal : t.fatal = s.fatal) (hfold : t.fold = s.fold) (hbooted : t.booted = s.booted)
    (hforce : t.fld R.SYS_INTERLOCK 16 16 = s.fld R.SYS_INTERLOCK 16 16) : t.shadeOut = s.shadeOut := by
  unfold State.shadeOut
  rw [hbeam, hfatal, hfold, hbooted, hforce]

theorem i3cByte_congr (hready : t.nightReady = s.nightReady) (hpower : t.power = s.power) (hfatal : t.fatal = s.fatal) (hbooted : t.booted = s.booted)
    (hshade : t.shadeOut = s.shadeOut) : t.i3cByte = s.i3cByte := by
  unfold State.i3cByte State.faultLow
  rw [hready, hpower, hfatal, hbooted, hshade]

/-- INTERLOCK with the pins, before the board controller is told. -/
def State.pinned (s : State) : State :=
  (s.setFld R.SYS_INTERLOCK 3 2 ((if s.faultLow then 2 else 0) + if s.shadeOut then 1 else 0)).setFld R.SYS_INTERLOCK 0 0 (if s.beamOff then 1 else 0)

theorem showPins_eq (b : Nat) : s.showPins b = s.pinned.tellBoard b := rfl

theorem only_pinned : Only 1 s s.pinned := only_setFld _ _ _ _ rfl (only_setFld _ _ _ _ rfl (only_refl _ s))

/-- The fields of INTERLOCK as the pins leave them. -/
structure Pinned (s t : State) : Prop where
  latched : t.fld R.SYS_INTERLOCK 1 1 = s.fld R.SYS_INTERLOCK 1 1
  force : t.fld R.SYS_INTERLOCK 16 16 = s.fld R.SYS_INTERLOCK 16 16
  low : t.fld R.SYS_INTERLOCK 0 0 = if s.beamOff then 1 else 0
  shade : t.fld R.SYS_INTERLOCK 2 2 = if s.shadeOut then 1 else 0

theorem pinned_fields : Pinned s s.pinned where
  latched := (fld_setFld_apart _ _ (by decide) (by decide) (by decide)).trans (fld_setFld_apart _ _ (by decide) (by decide) (by decide))
  force := (fld_setFld_apart _ _ (by decide) (by decide) (by decide)).trans (fld_setFld_apart _ _ (by decide) (by decide) (by decide))
  low := by
    refine (fld_setFld_same _ _ (by decide) (by decide)).trans ?_
    cases s.beamOff <;> rfl
  shade := by
    refine (fld_setFld_apart _ _ (by decide) (by decide) (by decide)).trans ?_
    unfold State.fld State.setFld
    rw [rd_wr_same _ _ (withField_lt _ (by decide) (by decide) (rd_lt _)), fieldOf_bit, testBit_withField _ _ (by decide), if_pos (by decide)]
    cases s.faultLow <;> cases s.shadeOut <;> rfl

theorem pinned_shadeOut : s.pinned.shadeOut = s.shadeOut :=
  shadeOut_congr (only_pinned.beamOff rfl) (only_pinned.fatal rfl) (only_pinned.fold rfl) (only_pinned.booted rfl) pinned_fields.force

theorem pinned_i3cByte : s.pinned.i3cByte = s.i3cByte :=
  i3cByte_congr (only_pinned.nightReady rfl) (only_pinned.power rfl) (only_pinned.fatal rfl) (only_pinned.booted rfl) pinned_shadeOut

theorem tellBoard_regs (b : Nat) : (s.tellBoard b).regs = s.regs := (only_tellBoard (mm := 73786976294838206464) b rfl (only_refl _ s)).regs rfl

theorem showPins_fields (b : Nat) : Pinned s (s.showPins b) := by
  have hpins := pinned_fields (s := s)
  have hrd := rd_congr (tellBoard_regs (s := s.pinned) b) R.SYS_INTERLOCK
  rw [showPins_eq]
  exact ⟨(fld_of_rd hrd 1 1).trans hpins.latched, (fld_of_rd hrd 16 16).trans hpins.force, (fld_of_rd hrd 0 0).trans hpins.low,
    (fld_of_rd hrd 2 2).trans hpins.shade⟩

theorem showPins_shadeOut (b : Nat) : (s.showPins b).shadeOut = s.shadeOut := by
  have honly := only_showPins (s0 := s) (mm := 73786976294838206465) b rfl (only_refl _ s)
  exact shadeOut_congr (honly.beamOff rfl) (honly.fatal rfl) (honly.fold rfl) (honly.booted rfl) (showPins_fields b).force

theorem showPins_i3cByte (b : Nat) : (s.showPins b).i3cByte = s.i3cByte := by
  have honly := only_showPins (s0 := s) (mm := 73786976294838206465) b rfl (only_refl _ s)
  exact i3cByte_congr (honly.nightReady rfl) (honly.power rfl) (honly.fatal rfl) (honly.booted rfl) (showPins_shadeOut b)

/-- The board controller is told where STATUS has changed (R659). -/
theorem tells_showPins (s0 : State) (hout : s.out = s0.out) : s0.tells (s.showPins s0.i3cByte) := by
  unfold State.tells
  rw [showPins_i3cByte, showPins_eq]
  unfold State.tellBoard
  rw [pinned_i3cByte]
  split
  · exact hout
  · exact congrArg (_ :: ·) hout

/-- Three bits set are 7. -/
theorem low_three {v : Nat} (h0 : fieldOf v 0 0 = 1) (h1 : fieldOf v 1 1 = 1) (h2 : fieldOf v 2 2 = 1) : fieldOf v 2 0 = 7 := by
  rw [fieldOf_bit] at h0 h1 h2
  refine Nat.eq_of_testBit_eq fun i => ?_
  rw [testBit_fieldOf]
  match i with
  | 0 => simpa using Bool.toNat_eq_one.mp h0
  | 1 => rw [Nat.zero_add, Bool.toNat_eq_one.mp h1]; rfl
  | 2 => rw [Nat.zero_add, Bool.toNat_eq_one.mp h2]; rfl
  | i + 3 => exact (Nat.testBit_lt_two_pow (Nat.lt_of_lt_of_le (by decide : 7 < 2 ^ 3) (Nat.pow_le_pow_right (by decide) (Nat.le_add_left 3 i)))).symm ▸ rfl

/-! ### The shading of a containment -/

theorem shaded_shadeOn (now : Bool) : (s.shadeOn now).flink.shaded = true := by
  unfold State.shadeOn
  have hsent := (resends_shadeBlocks { s with flink := { s.flink with shaded := true } } (if now then 3 else 1)).flink
  generalize State.shadeBlocks _ _ = u at hsent ⊢
  rw [hsent]

/-- A containment with NOW, or one that finds the beams shaded, leaves them shaded (R469, R470). -/
theorem shaded_containAt (a : RecArg) (h : Int) (hshade : s.active.isSome = true ∨ s.flink.shaded = true) : (s.containAt a true h).flink.shaded = true := by
  have hrec : ∀ (u : State) (b : RecArg), (u.recordRaw b).flink = u.flink := fun u b =>
    (only_recordRaw (mm := 78398662313265602577) (s0 := u) b rfl (only_refl _ u)).flink rfl
  cases hactive : s.active with
  | none =>
    unfold State.containAt
    rw [hactive]
    exact (congrArg Flink.shaded (hrec s _)).trans (hshade.resolve_left (by rw [hactive]; decide))
  | some x =>
    have hmem : x ∈ s.stripes := List.mem_of_find?_eq_some hactive
    unfold State.containAt
    rw [hactive]
    dsimp only
    split
    · split
      · generalize State.droverTo _ 5 = u
        have hon := shaded_shadeOn (s := u) true
        generalize u.shadeOn true = v at hon ⊢
        have hcut := ((resends_allLanes v 0x55 (lowBits 24 (x.flashBase + x.held))).trans (resends_dropAfter _ x x.held)).flink
        generalize State.dropAfter _ _ _ = w at hcut ⊢
        have hw : w.flink.shaded = v.flink.shaded := by rw [hcut]
        exact hw.trans hon
      · rw [hrec]
        exact shaded_shadeOn true
    · exact (containedBy_enterContained s x a true h hmem).2.2.1

/-! ### BEAM_OFF -/

/-- INTERLOCK and SYS's interrupt as the beam-off input latches them (R467). -/
def State.beamLatched (s : State) : State :=
  ((({ s with beamOff := true }).setFld R.SYS_INTERLOCK 1 1 1).showPins s.i3cByte).raiseIrq 0 2

theorem only_beamLatched : Only 73786976294838208513 s s.beamLatched :=
  only_raiseIrq _ _ rfl (only_showPins _ rfl (only_setFld _ _ _ _ rfl (only_put2048 rfl (only_refl _ s))))

theorem beamLatched_beamOff : s.beamLatched.beamOff = true := by
  have honly : Only 73786976294838206465 { s with beamOff := true } s.beamLatched :=
    only_raiseIrq _ _ rfl (only_showPins _ rfl (only_setFld _ _ _ _ rfl (only_refl _ _)))
  exact honly.beamOff rfl

theorem beamLatched_fld : s.beamLatched.fld R.SYS_INTERLOCK 2 0 = 7 := by
  have hpins := showPins_fields (s := ({ s with beamOff := true } : State).setFld R.SYS_INTERLOCK 1 1 1) s.i3cByte
  have hlatched : (({ s with beamOff := true } : State).setFld R.SYS_INTERLOCK 1 1 1).fld R.SYS_INTERLOCK 1 1 = 1 := fld_setFld_bit _ _ (by decide)
  have hrd : s.beamLatched.rd R.SYS_INTERLOCK = ((({ s with beamOff := true } : State).setFld R.SYS_INTERLOCK 1 1 1).showPins s.i3cByte).rd R.SYS_INTERLOCK :=
    rd_raiseIrq_far _ 0 2 (by decide)
  have hbits := low_three (v := ((({ s with beamOff := true } : State).setFld R.SYS_INTERLOCK 1 1 1).showPins s.i3cByte).rd R.SYS_INTERLOCK)
    hpins.low (hpins.latched.trans hlatched) (hpins.shade.trans rfl)
  exact (fld_of_rd hrd 2 0).trans hbits

theorem beamLatched_irq : s.beamLatched.fld 0x10 2 2 = 1 := raiseIrq_sets _ 0 (by decide)

theorem exec_beamOff (hhigh : s.beamOff = false) (hpower : s.power ≠ .night) (hbooted : s.booted = true) (hfatal : s.fatal = 0) :
    exec .beamOff s = .next ((if s.active.isSome then s.beamLatched else s.beamLatched.shadeOn true).contain { code := Code.SYS_BEAM_OFF, cls := 2 } true) := by
  show execBeamOff s = _
  unfold execBeamOff
  rw [if_neg (by simp [hhigh]), if_neg (by simp [hpower, hbooted])]
  dsimp only
  rw [if_neg (not_not_intro hfatal)]
  split <;> rfl

/-! ### A write of INTERLOCK -/

theorem rowsOf_interlock : rowsOf R.SYS_INTERLOCK = [⟨0x11C, 0x10000, .rw, 0, false⟩, ⟨0x11C, 0xC, .ro, 0, false⟩, ⟨0x11C, 2, .rws, 0, false⟩,
    ⟨0x11C, 1, .ro, 0, false⟩] := by decide

/-- A bit cleared by its mask. -/
theorem sub_and_two_pow (v b : Nat) : v - (v &&& 2 ^ b) = withField v b b 0 := by
  unfold withField
  rw [Nat.and_two_pow, fieldOf_bit, Nat.zero_mod, Nat.zero_mul, Nat.add_zero]

theorem testBit_cleared (v b i : Nat) : (withField v b b 0).testBit i = if i = b then false else v.testBit i := by
  rw [testBit_withField _ _ (Nat.le_refl b)]
  by_cases h : i = b
  · rw [if_pos (by omega), if_pos h, Nat.zero_testBit]
  · rw [if_neg (by omega), if_neg h]

theorem testBit_and_two_pow_self (v b i : Nat) : (v &&& 2 ^ b).testBit i = if i = b then v.testBit b else false := by
  rw [Nat.testBit_and, Nat.testBit_two_pow]
  by_cases h : i = b
  · subst h; simp
  · rw [decide_eq_false (Ne.symm h), Bool.and_false, if_neg h]

/-- FORCE_SHADE takes the value written, and a 1 written to LATCHED clears it (R468, R492). -/
theorem newValue_interlock (old v : Nat) : (newValue R.SYS_INTERLOCK old v).testBit 16 = v.testBit 16 ∧
    (newValue R.SYS_INTERLOCK old v).testBit 1 = (!v.testBit 1 && old.testBit 1) := by
  have hset : newValue R.SYS_INTERLOCK old v =
      if v &&& 2 ^ 1 ≠ 0 then ((old - (old &&& 2 ^ 16)) ||| (v &&& 2 ^ 16)) - (((old - (old &&& 2 ^ 16)) ||| (v &&& 2 ^ 16)) &&& 2 ^ 1)
      else (old - (old &&& 2 ^ 16)) ||| (v &&& 2 ^ 16) := by
    unfold newValue
    rw [rowsOf_interlock]
    rfl
  have hforce : ∀ i, ((old - (old &&& 2 ^ 16)) ||| (v &&& 2 ^ 16)).testBit i = if i = 16 then v.testBit 16 else old.testBit i := fun i => by
    rw [Nat.testBit_or, sub_and_two_pow, testBit_cleared, testBit_and_two_pow_self]
    by_cases h : i = 16
    · rw [if_pos h, if_pos h, if_pos h, Bool.false_or]
    · rw [if_neg h, if_neg h, if_neg h, Bool.or_false]
  have hone : (v &&& 2 ^ 1 ≠ 0) ↔ v.testBit 1 = true := by
    rw [Nat.and_two_pow]
    cases v.testBit 1 <;> decide
  rw [hset]
  split
  · next h =>
    rw [sub_and_two_pow, testBit_cleared, testBit_cleared, hforce, hone.mp h]
    exact ⟨rfl, rfl⟩
  · next h =>
    rw [hforce, hforce, Bool.eq_false_iff.mpr (fun e => h (hone.mpr e))]
    exact ⟨rfl, rfl⟩

/-- The value that a write of INTERLOCK brings: with the input low LATCHED keeps its value. -/
def State.interlockNew (s : State) (v : Nat) : Nat := newValue R.SYS_INTERLOCK (s.rd R.SYS_INTERLOCK) (if s.beamOff then withField v 1 1 0 else v)

theorem interlockNew_bits {v : Nat} (hv : v < 2 ^ 32) : s.interlockNew v < 2 ^ 32 ∧ fieldOf (s.interlockNew v) 16 16 = fieldOf v 16 16 ∧
    fieldOf (s.interlockNew v) 1 1 = if s.beamOff = false ∧ fieldOf v 1 1 = 1 then 0 else s.fld R.SYS_INTERLOCK 1 1 := by
  have hlt : (if s.beamOff then withField v 1 1 0 else v) < 2 ^ 32 := by
    split
    · exact withField_lt _ (by decide) (by decide) hv
    · exact hv
  obtain ⟨hforce, hlatch⟩ := newValue_interlock (s.rd R.SYS_INTERLOCK) (if s.beamOff then withField v 1 1 0 else v)
  refine ⟨newValue_lt _ _ _ (rd_lt _) hlt, ?_, ?_⟩
  · rw [State.interlockNew, fieldOf_bit, fieldOf_bit, hforce]
    split
    · rw [testBit_cleared, if_neg (by decide)]
    · rfl
  · rw [State.interlockNew, State.fld, fieldOf_bit, fieldOf_bit, fieldOf_bit, hlatch]
    cases s.beamOff with
    | true => rw [if_pos rfl, testBit_cleared, if_pos rfl, if_neg (by simp)]; rfl
    | false =>
      rw [if_neg (by decide)]
      cases v.testBit 1 with
      | true => rw [if_pos ⟨rfl, rfl⟩]; rfl
      | false => rw [if_neg (by simp)]; rfl

theorem writeInterlock_eq {o : Origin} {v : Nat} (hpermit : s.permit o R.SYS_INTERLOCK v = .ok s) :
    s.writeInterlock o v = (s.setReg o R.SYS_INTERLOCK (s.interlockNew v)).showPins s.i3cByte := by
  have hgroup : groupOf R.SYS_INTERLOCK = none := by decide
  unfold State.writeInterlock
  rw [hpermit]
  dsimp only
  unfold State.applyWrite
  rw [hgroup]
  rfl

end Sys2Proof.Machine
end

section
/-! PROOFS. The beam-off input and INTERLOCK (O43). -/

namespace Sys2Proof.Machine

theorem beamOff_shades : ∀ s : State, s.beamOff = false → s.power ≠ .night → s.booted = true → s.fatal = 0 →
    ∃ t, exec .beamOff s = .next t ∧ t.beamOff = true ∧ t.shadeOut = true ∧ t.flink.shaded = true ∧ t.fld R.SYS_INTERLOCK 2 0 = 7 ∧
      t.fld 0x10 2 2 = 1 ∧ ∀ x, s.active = some x → x.st = .writing → t.containedBy x Code.SYS_BEAM_OFF s.drover.k := by
  intro s hhigh hpower hbooted hfatal
  have hlatch := only_beamLatched (s := s)
  have hon := only_shadeOn (s0 := s.beamLatched) (mm := 110680466641280565249) true rfl (only_refl _ _)
  let u := if s.active.isSome then s.beamLatched else s.beamLatched.shadeOn true
  have hu : Only 110680466641280565249 s.beamLatched u := only_ite (only_refl _ _) hon
  have hactive : u.active = s.active := by
    unfold State.active
    rw [hu.stripes rfl, hlatch.stripes rfl]
  have hshaded : u.active.isSome = true ∨ u.flink.shaded = true := by
    rw [hactive]
    by_cases h : s.active.isSome = true
    · exact .inl h
    · exact .inr (show (if s.active.isSome then s.beamLatched else s.beamLatched.shadeOn true).flink.shaded = true by rw [if_neg h]; exact shaded_shadeOn true)
  have hcontain := only_contain (s0 := u) (mm := 117598008931784859665) { code := Code.SYS_BEAM_OFF, cls := 2 } true rfl (only_refl _ _)
  have hbeam : (u.contain { code := Code.SYS_BEAM_OFF, cls := 2 } true).beamOff = true :=
    (hcontain.beamOff rfl).trans ((hu.beamOff rfl).trans beamLatched_beamOff)
  have hhalts : Halts s.beamLatched (u.contain { code := Code.SYS_BEAM_OFF, cls := 2 } true) :=
    halts_contain _ _ (halts_ite (halts_refl _) (halts_shadeOn true (halts_refl _)))
  have hraw : RawKept s.beamLatched (u.contain { code := Code.SYS_BEAM_OFF, cls := 2 } true) :=
    rawKept_contain _ _ (rawKept_ite (rawKept_refl _) (rawKept_shadeOn true (rawKept_refl _)))
  refine ⟨_, exec_beamOff hhigh hpower hbooted hfatal, hbeam, ?_, shaded_containAt _ _ hshaded,
    (fld_of_rd (hhalts.regs R.SYS_INTERLOCK (by decide) (by decide)) 2 0).trans beamLatched_fld, hraw 0 2 (by decide) beamLatched_irq, fun x hx hw => ?_⟩
  · unfold State.shadeOut
    rw [show ((if s.active.isSome = true then s.beamLatched else s.beamLatched.shadeOn true).contain { code := Code.SYS_BEAM_OFF, cls := 2 } true).beamOff = true from hbeam]
    rfl
  · have hin : x ∈ s.stripes := List.mem_of_find?_eq_some hx
    have hlatched : (if s.active.isSome = true then s.beamLatched else s.beamLatched.shadeOn true) = s.beamLatched := if_pos (by rw [hx]; rfl)
    have hat : s.beamLatched.active = some x := by
      unfold State.active at hx ⊢
      rwa [hlatch.stripes rfl]
    rw [hlatched, contain_writing hat hw, hlatch.drover rfl]
    exact containedBy_enterContained _ _ _ _ _ (by rwa [hlatch.stripes rfl])

theorem dropIrq_clears (s : State) (p b : Nat) : (s.dropIrq p b).fld (p * 0x1000 + 0x10) b b = 0 :=
  fld_setFld_bit_zero s (p * 0x1000 + 0x10) b

theorem beamOffRelease_ends : ∀ s : State, s.power ≠ .night → s.booted = true →
    ∃ t, exec .beamOffRelease s = .next t ∧ t = { s with regs := t.regs, beamOff := false, out := t.out } ∧ s.tells t ∧ t.fld R.SYS_INTERLOCK 0 0 = 0 ∧ t.fld 0x10 2 2 = 0 ∧
      t.fld R.SYS_INTERLOCK 1 1 = s.fld R.SYS_INTERLOCK 1 1 ∧ t.fld R.SYS_INTERLOCK 16 16 = s.fld R.SYS_INTERLOCK 16 16 ∧
      s.regsBut t [R.SYS_INTERLOCK, 0x10] := by
  intro s hpower hbooted
  have hexec : exec .beamOffRelease s = .next ((({ s with beamOff := false }).showPins s.i3cByte).dropIrq 0 2) :=
    (if_neg (by simp [hpower, hbooted]) : execBeamOffRelease s = _)
  have hw : Only 2048 s { s with beamOff := false } := only_put2048 rfl (only_refl _ s)
  have hlow : ({ s with beamOff := false } : State).beamOff = false := rfl
  have hout : ({ s with beamOff := false } : State).out = s.out := rfl
  generalize ({ s with beamOff := false } : State) = w at *
  have hpins := showPins_fields (s := w) s.i3cByte
  have htells := tells_showPins (s := w) s hout
  have honly := only_showPins (s0 := w) (mm := 73786976294838206465) s.i3cByte rfl (only_refl _ _)
  have hregs := regsOff_showPins w s.i3cByte
  generalize w.showPins s.i3cByte = u at *
  have hdrop : Only 1 u (u.dropIrq 0 2) := only_setFld _ _ _ _ rfl (only_refl _ u)
  have hrd : (u.dropIrq 0 2).rd R.SYS_INTERLOCK = u.rd R.SYS_INTERLOCK := rd_setFld_other _ _ _ (by decide)
  have hbyte : (u.dropIrq 0 2).i3cByte = u.i3cByte :=
    i3cByte_congr (hdrop.nightReady rfl) (hdrop.power rfl) (hdrop.fatal rfl) (hdrop.booted rfl)
      (shadeOut_congr (hdrop.beamOff rfl) (hdrop.fatal rfl) (hdrop.fold rfl) (hdrop.booted rfl) (fld_of_rd hrd 16 16))
  have hbeam : (u.dropIrq 0 2).beamOff = false := (hdrop.beamOff rfl).trans ((honly.beamOff rfl).trans hlow)
  have hall : Only 73786976294838208513 s (u.dropIrq 0 2) := only_trans (only_mono rfl hw) (only_trans (only_mono rfl honly) (only_mono rfl hdrop))
  have hsame : RegsOff [] s w := regsOff_regs (hw.regs rfl) (regsOff_refl _ s)
  have hfld : ∀ b, w.fld R.SYS_INTERLOCK b b = s.fld R.SYS_INTERLOCK b b := fun b => fld_of_rd (hsame _ (by decide)) b b
  refine ⟨_, hexec, ?_, ?_, (fld_of_rd hrd 0 0).trans (hpins.low.trans (by rw [hlow]; rfl)),
    dropIrq_clears u 0 2, (fld_of_rd hrd 1 1).trans (hpins.latched.trans (hfld 1)), (fld_of_rd hrd 16 16).trans (hpins.force.trans (hfld 16)), ?_⟩
  · refine hall.eq_takes.trans ?_
    rw [← hbeam]
    rfl
  · unfold State.tells at htells ⊢
    rw [hbyte, hdrop.out rfl]
    exact htells
  · intro a ha
    have hone : a ≠ R.SYS_INTERLOCK := fun h => ha (h ▸ List.mem_cons_self)
    have htwo : 0x10 ≠ a := fun h => ha (h ▸ List.mem_cons_of_mem _ (List.mem_singleton_self _))
    exact (rd_setFld_other _ _ _ htwo).trans ((hregs a (fun h => hone (List.mem_singleton.mp h))).trans (hsame a (List.not_mem_nil)))

theorem interlock_written : ∀ (c : Instr) (o : Origin) (v : Nat) (s : State), c = .interlockLatchedClear o v ∨ c = .forceShade o v → v < 2 ^ 32 →
    s.permit o R.SYS_INTERLOCK v = .ok s → s.auditFull = false →
    ∃ t, exec c s = .next t ∧ t = { s with regs := t.regs, audit := t.audit, bells := t.bells, trace := t.trace, out := t.out } ∧ s.tells t ∧
      t.fld R.SYS_INTERLOCK 1 1 = (if s.beamOff = false ∧ fieldOf v 1 1 = 1 then 0 else s.fld R.SYS_INTERLOCK 1 1) ∧
      t.fld R.SYS_INTERLOCK 16 16 = fieldOf v 16 16 ∧ t.fld R.SYS_INTERLOCK 2 2 = (if t.shadeOut then 1 else 0) ∧
      (fieldOf v 16 16 = 1 → t.shadeOut = true) := by
  intro c o v s hc hv hpermit hfull
  have hexec : exec c s = .next ((s.setReg o R.SYS_INTERLOCK (s.interlockNew v)).showPins s.i3cByte) := by
    rw [← writeInterlock_eq hpermit]
    rcases hc with rfl | rfl <;> rfl
  obtain ⟨hlt, hforce, hlatch⟩ := interlockNew_bits (s := s) hv
  have hset := only_setReg_room o R.SYS_INTERLOCK (s.interlockNew v) hfull
  have hrd := rd_setReg o R.SYS_INTERLOCK (s.interlockNew v) hfull hlt
  generalize s.setReg o R.SYS_INTERLOCK (s.interlockNew v) = u at *
  have hpins := showPins_fields (s := u) s.i3cByte
  have hnew : ∀ b, u.fld R.SYS_INTERLOCK b b = fieldOf (s.interlockNew v) b b := fun b => congrArg (fieldOf · b b) hrd
  refine ⟨_, hexec, (only_showPins _ rfl (only_mono rfl hset) : Only 78399225263219015713 s _).eq_takes, tells_showPins s (hset.out rfl),
    hpins.latched.trans ((hnew 1).trans hlatch), hpins.force.trans ((hnew 16).trans hforce), ?_, fun hone => ?_⟩
  · rw [showPins_shadeOut]
    exact hpins.shade
  · rw [showPins_shadeOut]
    unfold State.shadeOut
    rw [hnew 16, hforce, hone]
    exact Bool.or_true _

/-- Settles O43: the latch, SYS's interrupt and the shading stand through the containment, and the board is told through the pins. -/
theorem interlockActs : Obligations.InterlockActs := ⟨beamOff_shades, beamOffRelease_ends, interlock_written⟩

end Sys2Proof.Machine
end

section
/-! SUPPORT. What a reset keeps and loses, and what the power-up sequence leaves of the power state and the clock (O45). -/

namespace Sys2Proof.Machine

variable {s : State}

/-! ### Resets -/

/-- RESET_CAUSE after a reset: its source, and what a device-fatal event leaves (R486). -/
def State.causeWord (s : State) (cause : Nat) : Nat := cause + ((if s.fatal ≠ 0 then 16 else 0) + (if s.fatal = Code.SYS_WATCHDOG then 8 else 0))

/-- What a reset loses and keeps (R485, R492, R622). -/
structure ResetTo (s t : State) (cause : Nat) : Prop where
  booted : t.booted = false
  fatal : t.fatal = 0
  stripes : t.stripes = []
  job0 : t.job0 = {}
  job1 : t.job1 = {}
  frames : t.frames = []
  tally : t.tally = []
  host : t.host = {}
  log : t.log = {}
  flink : t.flink = {}
  drover : t.drover = {}
  keep : t.keep = s.keep
  bells : t.bells = s.bells
  slots : t.fold.slots = s.fold.slots
  ownerKey : t.fold.ownerKey = s.fold.ownerKey
  fwRuns : t.fold.fwRuns = false
  deviceKey : t.fold.deviceKey = 0
  pool : t.audit.pool = []
  exported : t.audit.exportedSeq = s.audit.exportedSeq
  causeReg : t.rd R.SYS_RESET_CAUSE = s.causeWord cause
  regs : ∀ a, a ≠ R.SYS_RESET_CAUSE → a ≠ R.FOLD_TAMPER_CFG → t.rd a = (regReset a).toNat

theorem rd_restart (cause : Nat) (hcause : cause ≤ 4) : (s.restart cause).rd R.SYS_RESET_CAUSE = s.causeWord cause ∧
    ∀ a, a ≠ R.SYS_RESET_CAUSE → a ≠ R.FOLD_TAMPER_CFG → (s.restart cause).rd a = (regReset a).toNat := by
  have hlt : s.causeWord cause < 2 ^ 32 := by
    unfold State.causeWord
    split <;> split <;> omega
  unfold State.restart
  refine ⟨(rd_wr_other _ (by decide)).trans (rd_wr_same _ _ hlt), fun a hcauseReg htamper => ?_⟩
  exact (rd_wr_other _ (Ne.symm htamper)).trans (rd_wr_other _ (Ne.symm hcauseReg))

theorem resetTo_restart (cause : Nat) (hcause : cause ≤ 4) : ResetTo s (s.restart cause) cause :=
  ⟨rfl, rfl, rfl, rfl, rfl, rfl, rfl, rfl, rfl, rfl, rfl, rfl, rfl, rfl, rfl, rfl, rfl, rfl, rfl, (rd_restart cause hcause).1, (rd_restart cause hcause).2⟩

/-- A change of the power state, the rails and the outputs alone. -/
theorem ResetTo.apart {t u : State} {cause : Nat} (h : ResetTo s t cause) (hu : Only 73786976294838207552 t u) : ResetTo s u cause where
  booted := (hu.booted rfl).trans h.booted
  fatal := (hu.fatal rfl).trans h.fatal
  stripes := (hu.stripes rfl).trans h.stripes
  job0 := (hu.job0 rfl).trans h.job0
  job1 := (hu.job1 rfl).trans h.job1
  frames := (hu.frames rfl).trans h.frames
  tally := (hu.tally rfl).trans h.tally
  host := (hu.host rfl).trans h.host
  log := (hu.log rfl).trans h.log
  flink := (hu.flink rfl).trans h.flink
  drover := (hu.drover rfl).trans h.drover
  keep := (hu.keep rfl).trans h.keep
  bells := (hu.bells rfl).trans h.bells
  slots := (congrArg Fold.slots (hu.fold rfl)).trans h.slots
  ownerKey := (congrArg Fold.ownerKey (hu.fold rfl)).trans h.ownerKey
  fwRuns := (congrArg Fold.fwRuns (hu.fold rfl)).trans h.fwRuns
  deviceKey := (congrArg Fold.deviceKey (hu.fold rfl)).trans h.deviceKey
  pool := (congrArg Audit.pool (hu.audit rfl)).trans h.pool
  exported := (congrArg Audit.exportedSeq (hu.audit rfl)).trans h.exported
  causeReg := (rd_congr (hu.regs rfl) _).trans h.causeReg
  regs := fun a ha hb => (rd_congr (hu.regs rfl) a).trans (h.regs a ha hb)

theorem resetTo_deviceReset (cause : Nat) (hcause : cause ≤ 4) : ResetTo s (s.deviceReset cause) cause ∧ (s.deviceReset cause).power = .day ∧
    (s.deviceReset cause).rails = s.rails := by
  have htold := only_tellBoard (s0 := s.restart cause) (mm := 73786976294838207552) s.i3cByte rfl (only_refl _ _)
  have hsaid := only_tellBoard (s0 := s.restart cause) (mm := 73786976294838206464) s.i3cByte rfl (only_refl _ _)
  exact ⟨(resetTo_restart cause hcause).apart htold, (hsaid.power rfl).trans rfl, (hsaid.rails rfl).trans rfl⟩

theorem resetTo_toNight : ResetTo s s.toNight 0 ∧ s.toNight.power = .night ∧ s.toNight.rails = 0 :=
  ⟨(resetTo_restart 0 (by decide)).apart (only_put1088 rfl (only_refl _ _)), rfl, rfl⟩

/-! ### The power-up sequence -/

/-- Everything may change but the power state, whether the part is awake, the rails and the clock. -/
def bootMask : Nat := 293994983674745977663

/-- A write of CTRL that sets ENABLE alone resets nothing. -/
theorem only_putCtrl_enable {m : Nat} {s0 : State} (o : Origin) (p : Nat) (hm : sub bootMask m = true) (h : Only m s0 s) :
    Only m s0 (s.putCtrl o p 1) := by
  have hnone : ¬ fieldOf 1 1 1 = 1 := by decide
  have hset : ∀ v, Only m s0 (s.setReg o (ctrlOf p) v) := fun v => only_setReg _ _ _ (sub_trans rfl hm) h
  unfold State.putCtrl
  dsimp only
  refine only_ite (only_refuse _ _ _ _ _ (sub_trans rfl hm) (only_countFull (sub_trans rfl hm) h)) ?_
  rw [if_neg (fun hc => hnone hc.1), if_neg hnone, if_pos (by decide)]
  refine only_ite (hset _) ?_
  split
  · exact only_passCheck _ _ _ (sub_trans rfl hm) h
  · exact only_failCheck _ _ _ _ (sub_trans rfl hm) h

theorem only_writeCtrl_enable {m : Nat} {s0 : State} (o : Origin) (p : Nat) (hm : sub bootMask m = true) (h : Only m s0 s) :
    Only m s0 (s.writeCtrl o p 1) := by
  unfold State.writeCtrl
  refine only_ite h ?_
  split
  · next he => exact only_permit_error (sub_trans rfl hm) h he
  · next he => exact only_putCtrl_enable o p hm (only_permit_ok h he)

theorem only_bootEnable_enable {m : Nat} {s0 : State} (hm : sub bootMask m = true) (h : Only m s0 s) : Only m s0 s.bootEnable :=
  only_foldl (fun _ p hu => only_writeCtrl_enable _ p hm hu) _ h

/-- The state as its clock and supplies come up. -/
def State.bootClocked (s : State) (f : BootFound) : State :=
  ((s.wr R.SYS_RESET_CAUSE s.bootCause).wr R.HOST_LINK (linkWord f.linkRate f.linkWidth)).bootClock
    (f.vbatLost && decide (fieldOf (s.rd R.SYS_RESET_CAUSE) 2 1 = 0))

theorem only_bootStart_clocked (f : BootFound) : Only bootMask (s.bootClocked f) (s.bootStart f) := by
  have hcut : ∀ u : State, Only bootMask (s.bootClocked f) u → Only bootMask (s.bootClocked f) (match f.keepCut with | some c => u.cutRecord c | none => u) := by
    intro u hu
    cases f.keepCut with
    | none => exact hu
    | some c => exact only_cutRecord c rfl hu
  exact only_showLevels rfl (only_bootEncs rfl (only_bootAge rfl (only_bootRepairs rfl (only_bootDirectory _ rfl (only_checkKeep _ rfl (hcut _
    (only_foldl (fun _ n hu => only_bootVote f n rfl hu) _ (only_bootUnset rfl (only_bootAudit _ rfl (only_refl _ _))))))))))

/-- Past its clock the sequence leaves the power state, the rails and the clock. -/
theorem only_powerUp (f : BootFound) (hbooted : s.booted = false) :
    ∃ u t, Only bootMask (s.bootClocked f) u ∧ exec (.powerUp f) s = .next t ∧ Only bootMask { u with booted := true } t := by
  refine ⟨if (s.bootStart f).fatal = 0 then (s.bootStart f).bootMiddle f else s.bootStart f, _,
    only_ite (only_bootMiddle f rfl (only_bootStart_clocked f)) (only_bootStart_clocked f), (if_neg (by rw [hbooted]; decide) : execPowerUp f s = _), ?_⟩
  refine only_showPins _ rfl (only_ite ?_ (only_bootInterlock _ rfl (only_refl _ _)))
  exact only_bootEnable_enable rfl (only_loadStrobes rfl (only_keepBoundary rfl (only_wr _ _ rfl (only_bootInterlock _ rfl (only_bootTamper _ rfl
    (only_bootLevels rfl (only_refl _ _)))))))

theorem bootClock_day (lost : Bool) : (s.bootClock lost).power = .day ∧ (s.bootClock lost).rails = 127 ∧
    (lost = false → (s.bootClock lost).clock = { s.clock with sec := s.clock.aoSec, frac := (rhe (s.clock.aoCount * 1000000000) 32768).toNat * 2 ^ 32 }) := by
  unfold State.bootClock State.setFld
  simp only [State.wr_power, State.wr_rails, State.wr_clock, true_and]
  rintro rfl
  rfl

theorem bootClocked_day (f : BootFound) : (s.bootClocked f).power = .day ∧ (s.bootClocked f).rails = 127 ∧
    (f.vbatLost = false → (s.bootClocked f).clock = { s.clock with sec := s.clock.aoSec, frac := (rhe (s.clock.aoCount * 1000000000) 32768).toNat * 2 ^ 32 }) := by
  have hset : Only 1 s ((s.wr R.SYS_RESET_CAUSE s.bootCause).wr R.HOST_LINK (linkWord f.linkRate f.linkWidth)) := only_wr _ _ rfl (only_wr _ _ rfl (only_refl _ s))
  unfold State.bootClocked
  generalize (s.wr R.SYS_RESET_CAUSE s.bootCause).wr R.HOST_LINK (linkWord f.linkRate f.linkWidth) = w at hset ⊢
  obtain ⟨hday, hrails, hclock⟩ := bootClock_day (s := w) (f.vbatLost && decide (fieldOf (s.rd R.SYS_RESET_CAUSE) 2 1 = 0))
  rw [hset.clock rfl] at hclock
  exact ⟨hday, hrails, fun hkept => hclock (by rw [hkept, Bool.false_and])⟩

end Sys2Proof.Machine
end

section
/-! PROOFS. Resets and the power-up sequence (O45). -/

namespace Sys2Proof.Machine

theorem reset_loses : ∀ (c : Instr) (cause : Nat) (o : Origin) (v uv : Nat) (s : State),
    (c = .deviceReset o v ∧ s.permit o R.SYS_DEVICE_RESET v = .ok s ∧ v % 256 = 0xD5 ∧ cause = 4) ∨
      (c = .pcieFundamentalReset ∧ s.power ≠ .night ∧ s.booted = true ∧ cause = 2) ∨ (c = .mainRailsLost ∧ s.power ≠ .night ∧ cause = 0) ∨
      (c = .supplyExcursion 0 uv ∧ ¬ ((s.railWindow 0).1 ≤ uv ∧ uv ≤ (s.railWindow 0).2) ∧ s.power ≠ .night ∧ s.booted = true ∧
        s.nightReady = false ∧ cause = 0) →
    ∃ t, exec c s = .next t ∧ ResetTo s t cause ∧ (cause = 0 → t.power = .night ∧ t.rails = 0) ∧ (cause ≠ 0 → t.power = .day ∧ t.rails = s.rails) := by
  intro c cause o v uv s h
  obtain ⟨hnight, hpower, hrails⟩ := resetTo_toNight (s := s)
  rcases h with ⟨rfl, hpermit, hv, rfl⟩ | ⟨rfl, hpower', hbooted, rfl⟩ | ⟨rfl, hpower', rfl⟩ | ⟨rfl, hout, hpower', hbooted, hready, rfl⟩
  · obtain ⟨x, hact⟩ := act_admitted hpermit (fun s => if v % 256 = 0xD5 then s.deviceReset 4 else s)
    obtain ⟨hreset, hday, hsame⟩ := resetTo_deviceReset (s := { s with trace := x }) 4 (by decide)
    refine ⟨_, congrArg Host.Outcome.next (hact.trans (if_pos hv)), ?_, fun h => absurd h (by decide), fun _ => ⟨hday, hsame⟩⟩
    exact { hreset with }
  · obtain ⟨hreset, hday, hsame⟩ := resetTo_deviceReset (s := s) 2 (by decide)
    exact ⟨_, (if_neg (by simp [hpower', hbooted]) : execPcieFundamentalReset s = _), hreset, fun h => absurd h (by decide), fun _ => ⟨hday, hsame⟩⟩
  · exact ⟨_, (if_neg hpower' : execMainRailsLost s = _), hnight, fun _ => ⟨hpower, hrails⟩, fun h => absurd rfl h⟩
  · refine ⟨_, ?_, hnight, fun _ => ⟨hpower, hrails⟩, fun h => absurd rfl h⟩
    show execSupplyExcursion 0 uv s = _
    unfold execSupplyExcursion
    rw [if_neg (by simp [State.alive, hpower', hbooted, hready]; omega), if_pos rfl]

/-- Settles O45: what a reset keeps is what it copies, and past its clock the sequence leaves the power state, the rails and the clock. -/
theorem resetsAndPowerUp : Obligations.ResetsAndPowerUp := by
  unfold Obligations.ResetsAndPowerUp
  refine ⟨fun c cause o v uv s h => ?_, fun f s hbooted => ?_⟩
  · obtain ⟨t, hexec, r, hnight, hday⟩ := reset_loses c cause o v uv s h
    exact ⟨t, hexec, r.booted, r.fatal, r.stripes, r.job0, r.job1, r.frames, r.tally, r.host, r.log, r.flink, r.drover, r.keep, r.bells, r.slots, r.ownerKey,
      r.fwRuns, r.deviceKey, r.pool, r.exported, r.causeReg.trans (Nat.add_assoc _ _ _).symm, hnight, hday, r.regs⟩
  · obtain ⟨u, t, hu, hexec, ht⟩ := only_powerUp f hbooted
    obtain ⟨hday, hrails, hclock⟩ := bootClocked_day (s := s) f
    refine ⟨t, hexec, ht.booted rfl, (ht.power rfl).trans ((hu.power rfl).trans hday), (ht.rails rfl).trans ((hu.rails rfl).trans hrails), fun hkept => ?_⟩
    rw [ht.clock rfl]
    exact ⟨congrArg Clock.sec ((hu.clock rfl).trans (hclock hkept)), congrArg Clock.frac ((hu.clock rfl).trans (hclock hkept))⟩

end Sys2Proof.Machine
end

section
/-! SUPPORT. Power requests, Dusk and the fast clocks (O46). -/

namespace Sys2Proof.Machine

variable {s : State}

/-! ### Steps taken over a list -/

/-- One pass over a list brings its member j from P to Q, where the other members leave P and no member leaves Q. -/
theorem foldl_reaches {α : Type} {f : State → α → State} {P Q : State → Prop} {j : α} {l : List α} (hreach : ∀ u, P u → Q (f u j))
    (hwait : ∀ u x, x ≠ j → P u → P (f u x)) (hstay : ∀ u, ∀ x ∈ l, Q u → Q (f u x)) (hj : j ∈ l) {s : State} (hp : P s) : Q (l.foldl f s) := by
  induction l generalizing s with
  | nil => exact absurd hj List.not_mem_nil
  | cons x l ih =>
    by_cases hx : x = j
    · exact List.foldlRecOn (motive := Q) l f (hx ▸ hreach s hp) (fun u hu y hy => hstay u y (List.mem_cons_of_mem _ hy) hu)
    · exact ih (fun u y hy => hstay u y (List.mem_cons_of_mem _ hy)) ((List.mem_cons.mp hj).resolve_left (Ne.symm hx)) (hwait s x hx hp)

/-! ### What the board is told -/

/-- Only the bit of Dusk in STATUS is odd (R659). -/
theorem i3cByte_odd (hready : s.nightReady = false) : s.i3cByte % 2 = if s.power = Power.dusk then 1 else 0 := by
  have heven : ∀ a b c d : Nat, d % 2 = 0 → a % 2 = 0 → b % 2 = 0 → (c + d + a + b) % 2 = c % 2 := by omega
  unfold State.i3cByte
  rw [hready, if_neg Bool.false_ne_true, heven _ _ _ _ (by split <;> rfl) (by split <;> rfl) (by split <;> rfl)]
  split <;> rfl

theorem tellBoard_told {b : Nat} (h : s.i3cByte ≠ b) : .i3cIrq (BitVec.ofNat 8 (s.tellBoard b).i3cByte) ∈ (s.tellBoard b).out := by
  have hbyte : (s.tellBoard b).i3cByte = s.i3cByte := by
    unfold State.tellBoard
    split <;> rfl
  rw [hbyte, State.tellBoard, if_neg h]
  exact List.mem_cons_self

/-! ### The parts of R498 and R501 -/

theorem stack_setStack (k j : Nat) (x : Stack) : (s.setStack k x).stack j = if k = j then x else s.stack j := kget_kset _ _ _ _ _

theorem stack_congr {t : State} (h : t.drams = s.drams) (k : Nat) : t.stack k = s.stack k := by
  unfold State.stack
  rw [h]

theorem stack_setSelfRef (k j v : Nat) : (s.setSelfRef k v).stack j = if k = j then { s.stack k with selfRef := v } else s.stack j := by
  unfold State.setSelfRef
  rw [stack_congr ((only_setFld (mm := 1) _ _ _ _ rfl (only_refl _ _)).drams rfl), stack_setStack]

/-- A stack at rest in self-refresh (R345, R348). -/
def Stack.resting (x : Stack) : Prop := x.selfRef = 2 ∧ x.postponed = [] ∧ x.rows = [] ∧ x.owed = []

/-- A stack counts the neighbour rows that it still owes. -/
def State.neighboursPaid (s : State) (k : Nat) : State :=
  if ((s.stack k).owed.map (fun o => neighbourRows o.2)).sum = 0 then s
  else s.bump (R.HBM0_NBR_REFRESHES + 0x1000 * k) 31 0 ((s.stack k).owed.map (fun o => neighbourRows o.2)).sum

theorem neighboursPaid_drams (k : Nat) : (s.neighboursPaid k).drams = s.drams := by
  unfold State.neighboursPaid
  split <;> rfl

theorem selfRefresh_eq (k : Nat) : s.selfRefresh k = ((s.neighboursPaid k).setStack k
    { (s.neighboursPaid k).stack k with postponed := [], rows := [], owed := [] }).setSelfRef k 2 := rfl

theorem stack_selfRefresh (k j : Nat) : (s.selfRefresh k).stack j =
    if k = j then { s.stack k with postponed := [], rows := [], owed := [], selfRef := 2 } else s.stack j := by
  rw [selfRefresh_eq, stack_setSelfRef]
  split
  · next h => rw [stack_setStack, if_pos rfl, stack_congr (neighboursPaid_drams k)]
  · next h => rw [stack_setStack, if_neg h, stack_congr (neighboursPaid_drams k)]

theorem lane_laneLpi (l j : Nat) : (s.laneLpi l).lane j = if l = j ∧ (s.lane j).st = 6 then { s.lane j with st := 8 } else s.lane j := by
  unfold State.laneLpi
  by_cases hst : (s.lane l).st = 6
  · rw [if_pos hst]
    refine (lane_setLane s l j _).trans ?_
    by_cases hj : l = j
    · subst hj
      rw [if_pos rfl, if_pos ⟨rfl, hst⟩]
    · rw [if_neg hj, if_neg (fun h : l = j ∧ (s.lane j).st = 6 => hj h.1)]
  · rw [if_neg hst, if_neg (fun h : l = j ∧ (s.lane j).st = 6 => hst (h.1 ▸ h.2))]

/-- R498's part for the links: lanes in IDLE send LPI, and each port keeps a relay lane (R239, R599). -/
def State.linksLow (s : State) : State := [0, 1, 2, 3].foldl State.relayPort ((List.range 64).foldl State.laneLpi s)
/-- R498's part for the stacks. -/
def State.stacksLow (s : State) : State := [0, 1, 2, 3].foldl State.selfRefresh s
/-- R498's part for the fast clocks. -/
def State.clocksLow (s : State) : State := (List.range 29).foldl (fun s p => s.setClk p 0) s
/-- What precedes the fast clocks in R498. -/
def State.beforeClocksLow (s : State) : State :=
  { s.linksLow.stacksLow with drover := { s.linksLow.stacksLow.drover with pll := false, aligned := false } }
/-- R498 up to the core voltage and the clocks' lock. -/
def State.lowered (s : State) : State := ((s.beforeClocksLow.clocksLow.setFld R.AGE_VOLT_STEP 31 16 700).emit (.avsbus 700)).wr R.CLK_PLL_LOCK 0x1A
/-- R498 before the board is told. -/
def State.inDusk (s : State) : State := { s.lowered.inc R.CLK_DUSK_COUNT with power := .dusk, phase := 0 }

theorem enterDusk_eq : s.enterDusk = s.inDusk.tellBoard s.i3cByte := by
  unfold State.enterDusk State.inDusk State.lowered State.beforeClocksLow State.clocksLow State.stacksLow State.linksLow
  rfl

theorem only_linksLow : Only 76092821503075155968 s s.linksLow :=
  only_foldl (fun _ p h => only_relayPort p rfl h) _ (only_foldl (fun _ l h => only_laneLpi l rfl h) _ (only_refl _ s))

theorem only_stacksLow : Only 70368744177665 s s.stacksLow := only_foldl (fun _ k h => only_selfRefresh k rfl h) _ (only_refl _ s)

theorem only_clocksLow : Only 4611686018427387905 s s.clocksLow := only_foldl (fun _ p h => only_setClk p 0 rfl h) _ (only_refl _ s)

theorem only_beforeClocksLow : Only 76092896269865844737 s s.beforeClocksLow :=
  only_put4398046511104 rfl (only_foldl (fun _ k h => only_selfRefresh k rfl h) _ (only_mono rfl only_linksLow))

theorem lane_linksLow {l : Nat} (hl : l ≤ 63) (hst : (s.lane l).st = 6) : (s.linksLow.lane l).st = 8 := by
  have hlow : (((List.range 64).foldl State.laneLpi s).lane l).st = 8 := by
    refine foldl_reaches (f := State.laneLpi) (P := fun u => (u.lane l).st = 6) (Q := fun u => (u.lane l).st = 8) (j := l) (fun u hu => ?_)
      (fun u x hx hu => ?_) (fun u x _ hu => ?_) (List.mem_range.mpr (by omega)) hst
    · show ((u.laneLpi l).lane l).st = 8
      rw [lane_laneLpi, if_pos ⟨rfl, hu⟩]
    · show ((u.laneLpi x).lane l).st = 6
      rw [lane_laneLpi, if_neg (fun h => hx h.1)]
      exact hu
    · show ((u.laneLpi x).lane l).st = 8
      rw [lane_laneLpi, if_neg (fun h => by rw [hu] at h; omega)]
      exact hu
  have hports : Only 76092819304051900416 ((List.range 64).foldl State.laneLpi s) s.linksLow := only_foldl (fun _ p h => only_relayPort p rfl h) _ (only_refl _ _)
  rw [lane_congr (hports.flink rfl)]
  exact hlow

theorem stack_stacksLow {k : Nat} (hk : k ≤ 3) : (s.stacksLow.stack k).resting := by
  refine foldl_reaches (f := State.selfRefresh) (P := fun _ => True) (Q := fun u => (u.stack k).resting) (j := k) (fun u _ => ?_)
    (fun _ _ _ _ => trivial) (fun u x _ hu => ?_) (by simp; omega) trivial
  · show ((u.selfRefresh k).stack k).resting
    rw [stack_selfRefresh, if_pos rfl]
    exact ⟨rfl, rfl, rfl, rfl⟩
  · show ((u.selfRefresh x).stack k).resting
    rw [stack_selfRefresh]
    split
    · exact ⟨rfl, rfl, rfl, rfl⟩
    · exact hu

theorem statusOf_ne_clk (p : Nat) {a : Nat} (ha : a % 0x1000 ≠ 8) : statusOf p ≠ a := fun h => ha (by
  rw [← h, statusOf]
  omega)

/-- A clock's bit set leaves every register but ON and a page's STATUS. -/
theorem rd_setClk (p x : Nat) {a : RegAddr} (hon : R.CLK_ON ≠ a) (ha : a % 0x1000 ≠ 8) : (s.setClk p x).rd a = s.rd a :=
  (regsOff_traced (l := []) p (regsOff_refl _ _) a List.not_mem_nil).trans ((rd_setFld_other _ _ _ (statusOf_ne_clk p ha)).trans (rd_setFld_other _ _ _ hon))

theorem on_setClk {p q x : Nat} (hp : p ≤ 28) (hx : x < 2) : (s.setClk p x).fld R.CLK_ON q q = if p = q then x else s.fld R.CLK_ON q q := by
  have hstatus : (s.setClk p x).fld R.CLK_ON q q = (s.setFld R.CLK_ON p p x).fld R.CLK_ON q q :=
    (fld_traced p _ _ _ _ _).trans (fld_of_rd (rd_setFld_other _ _ _ (statusOf_ne_clk p (a := R.CLK_ON) (by decide))) _ _)
  rw [hstatus]
  by_cases hq : p = q
  · subst hq
    have hone : p + 1 - p = 1 := by omega
    rw [if_pos rfl, fld_setFld_same _ _ le_rfl (by omega), hone]
    omega
  · rw [if_neg hq]
    exact fld_setFld_apart _ _ le_rfl (by omega) (by omega)

/-- A pass over the clocks of a list sets their bits alike. -/
theorem on_setClks {x q : Nat} (hx : x < 2) {l : List Nat} (hl : ∀ p ∈ l, p ≤ 28) (hq : q ∈ l) :
    (l.foldl (fun s p => s.setClk p x) s).fld R.CLK_ON q q = x := by
  refine foldl_reaches (f := fun s p => s.setClk p x) (P := fun _ => True) (Q := fun u => u.fld R.CLK_ON q q = x) (j := q) (fun u _ => ?_)
    (fun _ _ _ _ => trivial) (fun u p hp hu => ?_) hq trivial
  · show (u.setClk q x).fld R.CLK_ON q q = x
    rw [on_setClk (hl q hq) hx, if_pos rfl]
  · show (u.setClk p x).fld R.CLK_ON q q = x
    rw [on_setClk (hl p hp) hx]
    split
    · rfl
    · exact hu

theorem rd_setClks (x : Nat) {a : RegAddr} (hon : R.CLK_ON ≠ a) (ha : a % 0x1000 ≠ 8) (l : List Nat) :
    (l.foldl (fun s p => s.setClk p x) s).rd a = s.rd a :=
  List.foldlRecOn (motive := fun u : State => u.rd a = s.rd a) l _ rfl (fun _ hu p _ => (rd_setClk p x hon ha).trans hu)

/-- A stack's self-refresh leaves the registers of the pages before it. -/
theorem rd_selfRefresh (k : Nat) {a : Nat} (ha : a < 0x16000) : (s.selfRefresh k).rd a = s.rd a := by
  have hcount : R.HBM0_NBR_REFRESHES + 0x1000 * k ≠ a := Nat.ne_of_gt (lt_of_lt_of_le (lt_of_lt_of_le ha (by decide)) (Nat.le_add_right _ _))
  have hstatus : (0x16 + k) * 0x1000 + 8 ≠ a := by omega
  have hpaid : (s.neighboursPaid k).rd a = s.rd a := by
    unfold State.neighboursPaid
    split
    · rfl
    · exact rd_setFld_other _ _ _ hcount
  rw [selfRefresh_eq]
  exact (rd_setFld_other _ _ _ hstatus).trans hpaid

theorem rd_stacksLow {a : Nat} (ha : a < 0x16000) : s.stacksLow.rd a = s.rd a := by
  unfold State.stacksLow
  exact List.foldlRecOn (motive := fun u : State => u.rd a = s.rd a) _ State.selfRefresh rfl (fun _ hu k _ => (rd_selfRefresh k ha).trans hu)

theorem rd_beforeClocksLow {a : Nat} (ha : a < 0x16000) : s.beforeClocksLow.rd a = s.rd a := by
  have hput : Only 4398046511104 s.linksLow.stacksLow s.beforeClocksLow := only_put4398046511104 rfl (only_refl _ _)
  rw [rd_congr (hput.regs rfl) a, rd_stacksLow ha, rd_congr (only_linksLow.regs rfl) a]

/-! ### A part in Dusk -/

theorem only_inDusk_clocks : Only 78398666711312105793 s.linksLow.stacksLow s.inDusk :=
  only_put320 rfl (only_inc _ rfl (only_wr _ _ rfl (only_emit _ rfl (only_setFld _ _ _ _ rfl (only_foldl (fun _ p h => only_setClk p 0 rfl h) _
    (only_put4398046511104 rfl (only_refl _ _)))))))

theorem only_inDusk_stacks : Only 78398737080056283457 s.linksLow s.inDusk :=
  only_trans (only_mono rfl only_stacksLow) (only_mono rfl only_inDusk_clocks)

/-- What R498 leaves: the part in Dusk. -/
structure Dusked (s t : State) : Prop where
  power : t.power = .dusk
  phase : t.phase = 0
  rested : ∀ k, k ≤ 3 → (t.stack k).resting
  clocks : ∀ p, p ≤ 28 → t.fld R.CLK_ON p p = 0
  lanes : ∀ l, l ≤ 63 → (s.lane l).st = 6 → (t.lane l).st = 8
  volt : t.fld R.AGE_VOLT_STEP 31 16 = 700
  pll : t.drover.pll = false
  count : t.rd R.CLK_DUSK_COUNT = min (2 ^ 32 - 1) (s.rd R.CLK_DUSK_COUNT + 1)
  stripes : t.stripes = s.stripes

theorem rd_inc_other {a b : RegAddr} (h : a ≠ b) : (s.inc a).rd b = s.rd b := rd_setFld_other _ _ _ h

theorem rd_lowered {a : RegAddr} (hlock : R.CLK_PLL_LOCK ≠ a) :
    s.lowered.rd a = (s.beforeClocksLow.clocksLow.setFld R.AGE_VOLT_STEP 31 16 700).rd a := by
  unfold State.lowered
  rw [rd_wr_other _ hlock]
  exact rd_congr ((only_emit (mm := 73786976294838206464) _ rfl (only_refl _ _)).regs rfl) a

theorem only_inDusk_inc : Only 320 (s.lowered.inc R.CLK_DUSK_COUNT) s.inDusk := only_put320 rfl (only_refl _ _)

theorem rd_inDusk {a : RegAddr} (hcount : R.CLK_DUSK_COUNT ≠ a) : s.inDusk.rd a = s.lowered.rd a := by
  rw [rd_congr (only_inDusk_inc.regs rfl) a, rd_inc_other hcount]

theorem rd_clocksLow {a : RegAddr} (hon : R.CLK_ON ≠ a) (ha : a % 0x1000 ≠ 8) : s.clocksLow.rd a = s.rd a := by
  unfold State.clocksLow
  rw [rd_setClks 0 hon ha]

theorem count_lowered : s.lowered.rd R.CLK_DUSK_COUNT = s.rd R.CLK_DUSK_COUNT := by
  rw [rd_lowered (by decide), rd_setFld_other _ _ _ (by decide), rd_clocksLow (by decide) (by decide), rd_beforeClocksLow (by decide)]

theorem dusked_inDusk : Dusked s s.inDusk where
  power := rfl
  phase := rfl
  rested := fun k hk => by
    rw [stack_congr (only_inDusk_clocks.drams rfl)]
    exact stack_stacksLow hk
  clocks := fun p hp => by
    rw [fld_of_rd (rd_inDusk (by decide)), fld_of_rd (rd_lowered (by decide)), fld_of_rd (rd_setFld_other _ _ _ (by decide))]
    exact on_setClks (by decide) (fun q hq => Nat.le_of_lt_succ (List.mem_range.mp hq)) (List.mem_range.mpr (Nat.lt_succ_of_le hp))
  lanes := fun l hl hst => by
    rw [lane_congr (only_inDusk_stacks.flink rfl)]
    exact lane_linksLow hl hst
  volt := by
    rw [fld_of_rd (rd_inDusk (by decide)), fld_of_rd (rd_lowered (by decide)), fld_setFld_same _ _ (by decide) (by decide)]
    exact Nat.mod_eq_of_lt (by decide)
  pll := by
    have hdone : Only 78398662313265594689 s.beforeClocksLow s.inDusk :=
      only_put320 rfl (only_inc _ rfl (only_wr _ _ rfl (only_emit _ rfl (only_setFld _ _ _ _ rfl (only_foldl (fun _ p h => only_setClk p 0 rfl h) _ (only_refl _ _))))))
    rw [hdone.drover rfl]
    rfl
  count := by
    rw [rd_congr (only_inDusk_inc.regs rfl), State.inc, rd_bump_whole, count_lowered]
  stripes := (only_inDusk_stacks.stripes rfl).trans (only_linksLow.stripes rfl)

/-- What keeps the links, the stacks, Drover, the stripes and the registers of the clocks keeps the part in Dusk. -/
theorem Dusked.apart {t u : State} (h : Dusked s t) (hregs : RegsOff keepRegs t u) (hu : Only 295147828213534687231 t u)
    (hpower : u.power = .dusk) (hphase : u.phase = 0) : Dusked s u where
  power := hpower
  phase := hphase
  rested := fun k hk => by
    rw [stack_congr (hu.drams rfl)]
    exact h.rested k hk
  clocks := fun p hp => (fld_of_rd (hregs _ (by decide)) _ _).trans (h.clocks p hp)
  lanes := fun l hl hst => by
    rw [lane_congr (hu.flink rfl)]
    exact h.lanes l hl hst
  volt := (fld_of_rd (hregs _ (by decide)) _ _).trans h.volt
  pll := (congrArg Drover.pll (hu.drover rfl)).trans h.pll
  count := (hregs _ (by decide)).trans h.count
  stripes := (hu.stripes rfl).trans h.stripes

theorem only_enterDusk_told : Only 73786976294838206464 s.inDusk s.enterDusk := by
  rw [enterDusk_eq]
  exact only_tellBoard _ rfl (only_refl _ _)

theorem dusked_enterDusk : Dusked s s.enterDusk :=
  dusked_inDusk.apart (regsOff_regs (only_enterDusk_told.regs rfl) (regsOff_refl _ _)) (only_mono rfl only_enterDusk_told)
    (only_enterDusk_told.power rfl) (only_enterDusk_told.phase rfl)

/-- The part tells the board that it is in Dusk. -/
theorem enterDusk_told (hready : s.nightReady = false) (hday : s.power = .day) : .i3cIrq (BitVec.ofNat 8 s.enterDusk.i3cByte) ∈ s.enterDusk.out := by
  have hkept : s.inDusk.nightReady = false := ((only_inDusk_stacks.nightReady rfl).trans (only_linksLow.nightReady rfl)).trans hready
  rw [enterDusk_eq]
  refine tellBoard_told fun h => ?_
  have hodd := i3cByte_odd hkept
  rw [h, i3cByte_odd hready, hday, if_neg (by decide), dusked_inDusk.power, if_pos rfl] at hodd
  exact absurd hodd (by decide)

/-! ### Night from Dusk -/

theorem keys_eraseKeys (cause : Nat) : (s.eraseKeys cause).job0.key = none ∧ (s.eraseKeys cause).job1.key = none ∧
    (s.eraseKeys cause).fold.deviceKey = 0 ∧ (s.eraseKeys cause).fold.fieldKey = 0 := by
  obtain ⟨-, hone, hzero⟩ := key_eraseKey (s.eraseKey cause 0) cause
  unfold State.eraseKeys
  exact ⟨by rw [hzero, (key_eraseKey s cause).1], hone, rfl, rfl⟩

/-- The state that R503 tells the board of. -/
def State.keyless (s : State) : State := { s.eraseKeys 0 with nightReady := true, power := .dusk, phase := 0 }

theorem only_readyForNight_told : Only 73786976294838206464 s.keyless s.readyForNight := only_tellBoard _ rfl (only_refl _ _)

theorem dusked_readyForNight {t : State} (h : Dusked s t) : Dusked s t.readyForNight := by
  have hmute := only_readyForNight_told (s := t)
  have hall : Only 295147828213534687231 t t.readyForNight := only_readyForNight rfl (only_refl _ t)
  exact h.apart (regsOff_regs (hmute.regs rfl) (regsOff_eraseKeys 0 (regsOff_refl _ _))) hall (hmute.power rfl) (hmute.phase rfl)

theorem keys_readyForNight : s.readyForNight.nightReady = true ∧ s.readyForNight.job0.key = none ∧ s.readyForNight.job1.key = none ∧
    s.readyForNight.fold.deviceKey = 0 ∧ s.readyForNight.fold.fieldKey = 0 := by
  have hmute := only_readyForNight_told (s := s)
  obtain ⟨hzero, hone, hdevice, hfield⟩ := keys_eraseKeys (s := s) 0
  refine ⟨hmute.nightReady rfl, ?_, ?_, ?_, ?_⟩
  · rw [hmute.job0 rfl]
    exact hzero
  · rw [hmute.job1 rfl]
    exact hone
  · rw [hmute.fold rfl]
    exact hdevice
  · rw [hmute.fold rfl]
    exact hfield

/-! ### A wake from Dusk -/

/-- R501's part for the stacks and the ports. -/
def State.linksHigh (s : State) : State := [0, 1, 2, 3].foldl State.bothLanes ([0, 1, 2, 3].foldl (fun s k => s.setSelfRef k 0) s)
/-- The core voltage of Day: the set point and the steps that have been taken (R501, R548). -/
def State.dayVolt (s : State) : Nat := min 800 (Config.testSetPoint + 5 * (s.age.steps - s.age.voltPending))
/-- R501 up to the clocks' lock. -/
def State.raised (s : State) : State := ((s.linksHigh.setFld R.AGE_VOLT_STEP 31 16 s.dayVolt).emit (.avsbus s.dayVolt)).wr R.CLK_PLL_LOCK 0x1B
/-- The fast clocks that are asked for run again (R501, R506). -/
def State.clocksHigh (s : State) : State := ((List.range 29).filter (fun p => s.fld R.CLK_REQ p p = 1)).foldl (fun s p => s.setClk p 1) s
/-- The part in Day, the servo's clock as Drover's page is enabled. -/
def State.upAgain (s : State) : State :=
  { s with power := .day, phase := 0, drover := { s.drover with pll := s.enabled 16, aligned := s.enabled 16 } }
/-- R501 before the wake's time is kept. -/
def State.inDay (s : State) : State := s.raised.clocksHigh.upAgain

theorem upAgain_of (u : State) {d : Drover} (hd : d = u.drover) :
    { u with power := .day, phase := 0, drover := { d with pll := u.enabled 16, aligned := u.enabled 16 } } = u.upAgain := by
  rw [hd]
  rfl

theorem leaveDusk_eq {us : Nat} (h : us ≤ 2000) : s.leaveDusk us = (s.inDay.maxFld R.CLK_WAKE_MAX 15 0 us).tellBoard s.i3cByte := by
  unfold State.leaveDusk
  extract_lets s1 mv s2 s3 d s4 s5
  have hlinks : s1 = s.linksHigh := by
    unfold State.linksHigh
    rfl
  have hup : s2 = s.raised := by
    unfold s2 State.raised
    rw [hlinks]
    rfl
  have hrun : s3 = s.raised.clocksHigh := by
    unfold s3 State.clocksHigh
    rw [hup]
  have hday : s4 = s.inDay.maxFld R.CLK_WAKE_MAX 15 0 us := by
    unfold State.inDay
    rw [← hrun]
    exact congrArg (fun u => State.maxFld u R.CLK_WAKE_MAX 15 0 us) (upAgain_of s3 rfl)
  rw [if_neg (Nat.not_lt.mpr h)]
  unfold s5
  rw [hday]

theorem only_linksHigh : Only 2305913377957871617 s s.linksHigh :=
  only_foldl (fun _ p h => only_bothLanes p rfl h) _ (only_foldl (fun _ k h => only_setSelfRef k 0 rfl h) _ (only_refl _ s))

theorem stack_linksHigh {k : Nat} (hk : k ≤ 3) : (s.linksHigh.stack k).selfRef = 0 := by
  have hports : Only 2305843009213693952 ([0, 1, 2, 3].foldl (fun s k => s.setSelfRef k 0) s) s.linksHigh :=
    only_foldl (fun _ p h => only_bothLanes p rfl h) _ (only_refl _ _)
  rw [stack_congr (hports.drams rfl)]
  refine foldl_reaches (f := fun s k => s.setSelfRef k 0) (P := fun _ => True) (Q := fun u => (u.stack k).selfRef = 0) (j := k) (fun u _ => ?_)
    (fun _ _ _ _ => trivial) (fun u x _ hu => ?_) (by simp; omega) trivial
  · show ((u.setSelfRef k 0).stack k).selfRef = 0
    rw [stack_setSelfRef, if_pos rfl]
  · show ((u.setSelfRef x 0).stack k).selfRef = 0
    rw [stack_setSelfRef]
    split
    · rfl
    · exact hu

theorem rd_setSelfRef (k v : Nat) {a : Nat} (ha : a < 0x16000) : (s.setSelfRef k v).rd a = s.rd a := by
  have hstatus : (0x16 + k) * 0x1000 + 8 ≠ a := by omega
  exact (rd_setFld_other _ _ _ hstatus).trans rfl

theorem rd_linksHigh {a : Nat} (ha : a < 0x16000) : s.linksHigh.rd a = s.rd a := by
  have hports : Only 2305843009213693952 ([0, 1, 2, 3].foldl (fun s k => s.setSelfRef k 0) s) s.linksHigh :=
    only_foldl (fun _ p h => only_bothLanes p rfl h) _ (only_refl _ _)
  rw [rd_congr (hports.regs rfl) a]
  exact List.foldlRecOn (motive := fun u : State => u.rd a = s.rd a) _ (fun s k => State.setSelfRef s k 0) rfl (fun _ hu k _ => (rd_setSelfRef k 0 ha).trans hu)

theorem rd_raised {a : Nat} (ha : a < 0x16000) (hlock : R.CLK_PLL_LOCK ≠ a) : s.raised.rd a = s.rd a := by
  have hvolt : R.AGE_VOLT_STEP ≠ a := Nat.ne_of_gt (lt_of_lt_of_le ha (by decide))
  unfold State.raised
  rw [rd_wr_other _ hlock, rd_congr ((only_emit (mm := 73786976294838206464) _ rfl (only_refl _ _)).regs rfl) a, rd_setFld_other _ _ _ hvolt, rd_linksHigh ha]

theorem rd_clocksHigh {a : RegAddr} (hon : R.CLK_ON ≠ a) (ha : a % 0x1000 ≠ 8) : s.clocksHigh.rd a = s.rd a := by
  unfold State.clocksHigh
  rw [rd_setClks 1 hon ha]

theorem only_clocksHigh : Only 4611686018427387905 s s.clocksHigh := only_foldl (fun _ p h => only_setClk p 1 rfl h) _ (only_refl _ s)

theorem only_raised : Only 76092889672796078081 s s.raised :=
  only_wr _ _ rfl (only_emit _ rfl (only_setFld _ _ _ _ rfl (only_mono rfl only_linksHigh)))

theorem only_inDay : Only 4398046511424 s.raised.clocksHigh s.inDay := only_put4398046511424 rfl (only_refl _ _)

theorem rd_inDay {a : Nat} (ha : a < 0x16000) (hlock : R.CLK_PLL_LOCK ≠ a) (hon : R.CLK_ON ≠ a) (hstatus : a % 0x1000 ≠ 8) : s.inDay.rd a = s.rd a := by
  rw [rd_congr (only_inDay.regs rfl) a, rd_clocksHigh hon hstatus, rd_raised ha hlock]

theorem enabled_clocksHigh : s.raised.clocksHigh.enabled 16 = s.enabled 16 := by
  unfold State.enabled
  rw [fld_of_rd ((rd_clocksHigh (s := s.raised) (a := 16 * 0x1000 + 4) (by decide) (by decide)).trans (rd_raised (by decide) (by decide)))]

/-- What R501 leaves: the part awake, its wake of `us` microseconds kept. -/
structure Awoken (s t : State) (us : Nat) : Prop where
  power : t.power = .day
  phase : t.phase = 0
  exited : ∀ k, k ≤ 3 → (t.stack k).selfRef = 0
  clocks : ∀ p, p ≤ 28 → s.fld R.CLK_REQ p p = 1 → t.fld R.CLK_ON p p = 1
  longest : t.fld R.CLK_WAKE_MAX 15 0 = max (s.fld R.CLK_WAKE_MAX 15 0) us
  pll : t.drover.pll = s.enabled 16
  stripes : t.stripes = s.stripes
  log : t.log = s.log

theorem fld_maxFld {hi lo x : Nat} (a : RegAddr) (h : lo ≤ hi) (hhi : hi < 32) (hx : x < 2 ^ (hi + 1 - lo)) :
    (s.maxFld a hi lo x).fld a hi lo = max (s.fld a hi lo) x := by
  rw [State.maxFld, fld_setFld_same a _ h hhi]
  exact Nat.mod_eq_of_lt (max_lt (fieldOf_lt _ _ _) hx)

theorem only_leaveDusk_told {us : Nat} (h : us ≤ 2000) : Only 73786976294838206464 (s.inDay.maxFld R.CLK_WAKE_MAX 15 0 us) (s.leaveDusk us) := by
  rw [leaveDusk_eq h]
  exact only_tellBoard _ rfl (only_refl _ _)

theorem clocks_inDay {p : Nat} (hp : p ≤ 28) (hreq : s.fld R.CLK_REQ p p = 1) : s.inDay.fld R.CLK_ON p p = 1 := by
  rw [fld_of_rd (rd_congr (only_inDay.regs rfl) _)]
  unfold State.clocksHigh
  refine on_setClks (by decide) (fun q hq => Nat.le_of_lt_succ (List.mem_range.mp (List.mem_of_mem_filter hq))) ?_
  refine List.mem_filter.mpr ⟨List.mem_range.mpr (Nat.lt_succ_of_le hp), decide_eq_true ?_⟩
  rw [fld_of_rd (rd_raised (by decide) (by decide)), hreq]

theorem awoken_leaveDusk {us : Nat} (hus : us ≤ 2000) : Awoken s (s.leaveDusk us) us := by
  have htold := only_leaveDusk_told (s := s) hus
  have hmax : Only 1 s.inDay (s.inDay.maxFld R.CLK_WAKE_MAX 15 0 us) := only_maxFld _ _ _ _ rfl (only_refl _ _)
  have hend : Only 73786976294838206465 s.inDay (s.leaveDusk us) := only_trans (only_mono rfl hmax) (only_mono rfl htold)
  have hrise : Only 80704580089269977409 s s.inDay :=
    only_trans (only_trans (only_mono rfl only_raised) (only_mono rfl only_clocksHigh)) (only_mono rfl only_inDay)
  have hnear : Only 78398666711312105793 s.raised (s.leaveDusk us) :=
    only_trans (only_trans (only_mono rfl only_clocksHigh) (only_mono rfl only_inDay)) (only_mono rfl hend)
  refine ⟨(hend.power rfl).trans rfl, (hend.phase rfl).trans rfl, fun k hk => ?_, fun p hp hreq => ?_, ?_, ?_, (hend.stripes rfl).trans (hrise.stripes rfl),
    (hend.log rfl).trans (hrise.log rfl)⟩
  · have hlinks : Only 73786976294838206465 s.linksHigh s.raised := only_wr _ _ rfl (only_emit _ rfl (only_setFld _ _ _ _ rfl (only_refl _ _)))
    rw [stack_congr (hnear.drams rfl), stack_congr (hlinks.drams rfl), stack_linksHigh hk]
  · rw [fld_of_rd (rd_congr (htold.regs rfl) _), State.maxFld, fld_of_rd (rd_setFld_other _ _ _ (by decide)), clocks_inDay hp hreq]
  · have hold : s.inDay.fld R.CLK_WAKE_MAX 15 0 = s.fld R.CLK_WAKE_MAX 15 0 := fld_of_rd (rd_inDay (by decide) (by decide) (by decide) (by decide)) _ _
    rw [fld_of_rd (rd_congr (htold.regs rfl) _), fld_maxFld _ (by decide) (by decide) (by norm_num; omega), hold]
  · rw [hend.drover rfl]
    exact enabled_clocksHigh

theorem leaveDusk_told {us : Nat} (hus : us ≤ 2000) (hready : s.nightReady = false) (hdusk : s.power = .dusk) :
    .i3cIrq (BitVec.ofNat 8 (s.leaveDusk us).i3cByte) ∈ (s.leaveDusk us).out := by
  have hrise : Only 80704580089269977409 s (s.inDay.maxFld R.CLK_WAKE_MAX 15 0 us) :=
    only_maxFld _ _ _ _ rfl (only_trans (only_trans (only_mono rfl only_raised) (only_mono rfl only_clocksHigh)) (only_mono rfl only_inDay))
  have hday : (s.inDay.maxFld R.CLK_WAKE_MAX 15 0 us).power = .day := rfl
  rw [leaveDusk_eq hus]
  refine tellBoard_told fun h => ?_
  have hodd := i3cByte_odd ((hrise.nightReady rfl).trans hready)
  rw [h, i3cByte_odd hready, hdusk, hday, if_pos rfl, if_neg (by decide)] at hodd
  exact absurd hodd (by decide)

/-! ### The fast clocks -/

theorem only_clkOn_keep (p : Nat) : Only 4611686018427387905 s (s.clkOn p) := only_clkOn p rfl (only_refl _ s)

/-- What a clock's request or its end leaves: its bits in REQ, ON and the page's STATUS (R506, R507, R619). -/
structure ClockSet (s t : State) (p x : Nat) : Prop where
  req : t.fld R.CLK_REQ p p = x
  on : t.fld R.CLK_ON p p = x
  shown : t.fld (statusOf p) 3 3 = x
  others : RegsOff [R.CLK_REQ, R.CLK_ON, statusOf p] s t

theorem clockSet_bits {p x : Nat} (hp : p ≤ 28) (hx : x < 2) : ClockSet s (((s.setFld R.CLK_REQ p p x).setFld R.CLK_ON p p x).setFld (statusOf p) 3 3 x) p x := by
  have hbit : ∀ {u : State} {a : RegAddr} {b : Nat}, b < 32 → (u.setFld a b b x).fld a b b = x := by
    intro u a b hb
    have hone : b + 1 - b = 1 := by omega
    rw [fld_setFld_same _ _ le_rfl hb, hone]
    exact Nat.mod_eq_of_lt hx
  refine ⟨?_, ?_, hbit (by decide), ?_⟩
  · rw [fld_of_rd (rd_setFld_other _ _ _ (statusOf_ne_clk p (by decide))), fld_of_rd (rd_setFld_other _ _ _ (by decide)), hbit (by omega)]
  · rw [fld_of_rd (rd_setFld_other _ _ _ (statusOf_ne_clk p (by decide))), hbit (by omega)]
  · exact regsOff_setFld _ _ _ _ (by simp) (regsOff_setFld _ _ _ _ (by simp) (regsOff_setFld _ _ _ _ (by simp) (regsOff_refl _ _)))

theorem ClockSet.apart {t u : State} {p x : Nat} (h : ClockSet s t p x) (hu : RegsOff [] t u) : ClockSet s u p x where
  req := (fld_of_rd (hu _ List.not_mem_nil) _ _).trans h.req
  on := (fld_of_rd (hu _ List.not_mem_nil) _ _).trans h.on
  shown := (fld_of_rd (hu _ List.not_mem_nil) _ _).trans h.shown
  others := fun a ha => (hu a List.not_mem_nil).trans (h.others a ha)

theorem clockSet_clkOn {p : Nat} (hp : p ≤ 28) : ClockSet s (s.clkOn p) p 1 :=
  (clockSet_bits hp (by decide)).apart (regsOff_traced p (regsOff_refl _ _))

theorem clockSet_clkOff {p : Nat} (hp : p ≤ 28) : ClockSet s (s.clkOff p) p 0 :=
  (clockSet_bits hp (by decide)).apart (regsOff_traced p (regsOff_refl _ _))

end Sys2Proof.Machine
end

section
/-! PROOFS. Power states and fast clocks (O46). -/

namespace Sys2Proof.Machine

variable {s : State}

/-! ### Requests of a power state -/

/-- An admitted write finds the part up. -/
theorem up_of_permit {o : Origin} {a v : Nat} (ha : a ≠ R.SYS_DEVICE_RESET) (hp : s.permit o a v = .ok s) :
    s.power ≠ .night ∧ s.booted = true ∧ s.fatal = 0 := by
  unfold State.permit at hp
  by_cases hup : s.power = .night ∨ (!s.booted) = true ∨ (!s.fold.fwRuns) = true ∧ o ≠ .firmware
  · rw [if_pos hup] at hp
    exact absurd hp (by simp)
  · by_cases hfatal : s.fatal ≠ 0
    · rw [if_neg hup, if_pos ⟨hfatal, ha⟩] at hp
      exact absurd hp (by simp)
    · exact ⟨fun h => hup (.inl h), Bool.not_eq_false _ ▸ fun h : s.booted = false => hup (.inr (.inl (by rw [h]; rfl))), not_not.mp hfatal⟩

theorem writePowerReq_day {o : Origin} (hp : s.permit o R.SYS_POWER_REQ 0 = .ok s) : s.writePowerReq o 0 = s.askDay o := by
  unfold State.writePowerReq
  split
  · next e => rw [hp] at e; cases e
  · next e => rw [hp] at e; cases e; rfl

theorem writePowerReq_dusk {o : Origin} (hp : s.permit o R.SYS_POWER_REQ 1 = .ok s) : s.writePowerReq o 1 = s.askDown o 1 := by
  unfold State.writePowerReq
  split
  · next e => rw [hp] at e; cases e
  · next e => rw [hp] at e; cases e; rfl

theorem writePowerReq_night {o : Origin} (hp : s.permit o R.SYS_POWER_REQ 2 = .ok s) :
    s.writePowerReq o 2 = if s.nightBusy then s.refuse o Code.CLK_NIGHT_BUSY R.SYS_POWER_REQ 2 (some 1) else s.askDown o 2 := by
  unfold State.writePowerReq
  split
  · next e => rw [hp] at e; cases e
  · next e => rw [hp] at e; cases e; rfl

theorem reqFull_room {o : Origin} {v : Nat} (hfull : s.auditFull = false) : s.reqFull o v = false := by
  unfold State.reqFull
  rw [hfull, Bool.false_and, Bool.false_and]

/-- A request of Dusk or Night that finds room in the pool is written, and waits unless a request stands already (R496, R497). -/
theorem askDown_waits {o : Origin} {v : Nat} (hfull : s.auditFull = false) (hready : s.nightReady = false) (hv : v < 4) :
    Only 4612248968380809505 s (s.askDown o v) ∧ (s.askDown o v).fld R.SYS_POWER_REQ 1 0 = v ∧
      (s.askDown o v).phase = if s.phase ≠ 0 ∨ s.power = .dusk ∧ v = 1 then s.phase else 1 := by
  have hset : Only 4612248968380809249 s (s.setReg o R.SYS_POWER_REQ v) := only_setReg_room _ _ _ hfull
  have hrd : (s.setReg o R.SYS_POWER_REQ v).fld R.SYS_POWER_REQ 1 0 = v := by
    rw [State.fld, rd_setReg o _ v hfull (by omega)]
    exact Nat.mod_eq_of_lt hv
  unfold State.askDown
  rw [reqFull_room hfull]
  dsimp only
  generalize s.setReg o R.SYS_POWER_REQ v = u at hset hrd
  have hphase : u.phase = s.phase := hset.phase rfl
  have hpower : u.power = s.power := hset.power rfl
  have hnight : u.nightReady = false := (hset.nightReady rfl).trans hready
  by_cases hstay : s.phase ≠ 0 ∨ s.power = .dusk ∧ v = 1
  · rw [if_pos (by rw [hphase, hpower]; exact .inr (hstay.imp_right .inr)), if_pos hstay]
    exact ⟨only_mono rfl hset, hrd, hphase⟩
  · rw [if_neg (by rw [hphase, hpower, hnight]; simpa using hstay), if_neg hstay]
    exact ⟨only_put256 rfl (only_mono rfl hset), hrd, rfl⟩

/-- A request of Day that finds room in the pool is written, and withdraws what waits or wakes the part (R496, R499, R500). -/
theorem askDay_wakes {o : Origin} (hfull : s.auditFull = false) (hready : s.nightReady = false) (hfatal : s.fatal = 0) (hbooted : s.booted = true) :
    Only 4612248968380809505 s (s.askDay o) ∧ (s.askDay o).fld R.SYS_POWER_REQ 1 0 = 0 ∧
      (s.power = .day → (s.askDay o).phase = if s.phase = 1 ∨ s.phase = 2 then 0 else s.phase) ∧
      (s.power = .dusk → s.phase = 0 → (s.askDay o).phase = 3 ∧ (s.askDay o).fld R.CLK_POWER_STATE 18 16 = 1) := by
  have hset : Only 4612248968380809249 s (s.setReg o R.SYS_POWER_REQ 0) := only_setReg_room _ _ _ hfull
  have hrd : (s.setReg o R.SYS_POWER_REQ 0).fld R.SYS_POWER_REQ 1 0 = 0 := by
    rw [State.fld, rd_setReg o _ 0 hfull (by decide)]
    rfl
  unfold State.askDay
  rw [reqFull_room hfull]
  dsimp only
  generalize s.setReg o R.SYS_POWER_REQ 0 = u at hset hrd
  rw [if_neg Bool.false_ne_true]
  have hcalm : Only 4612248968380809505 s { u with phase := if u.phase = 1 then 0 else u.phase } := only_put256 rfl (only_mono rfl hset)
  have hphase : ({ u with phase := if u.phase = 1 then 0 else u.phase } : State).phase = if s.phase = 1 then 0 else s.phase :=
    (hset.phase rfl) ▸ rfl
  have hreq : ({ u with phase := if u.phase = 1 then 0 else u.phase } : State).fld R.SYS_POWER_REQ 1 0 = 0 := hrd
  generalize ({ u with phase := if u.phase = 1 then 0 else u.phase } : State) = w at hcalm hphase hreq
  have hpower : w.power = s.power := hcalm.power rfl
  unfold State.wake
  rw [if_neg (by rw [hcalm.fatal rfl, hcalm.booted rfl, hcalm.nightReady rfl, hfatal, hbooted, hready]; decide)]
  by_cases hundo : w.power = .day ∧ w.phase = 2
  · have hend : (w.cancelDusk).fld R.SYS_POWER_REQ 1 0 = 0 := fld_setFld_same _ _ (by decide) (by decide)
    rw [if_pos hundo]
    refine ⟨only_cancelDusk rfl hcalm, hend, fun _ => ?_, fun hdusk => absurd (hdusk.symm.trans (hpower.symm.trans hundo.1)) (by decide)⟩
    have htwo : s.phase = 2 := by
      by_contra hne
      rw [hundo.2] at hphase
      split at hphase
      · omega
      · exact hne hphase.symm
    rw [if_pos (.inr htwo)]
    rfl
  · rw [if_neg hundo]
    by_cases hwake : w.power = .dusk ∧ w.phase = 0
    · rw [if_pos hwake]
      refine ⟨only_setFld _ _ _ _ rfl (only_setFld _ _ _ _ rfl (only_put256 rfl hcalm)), fld_setFld_same _ _ (by decide) (by decide),
        fun hday => absurd (hday.symm.trans (hpower.symm.trans hwake.1)) (by decide), fun _ _ => ⟨rfl, ?_⟩⟩
      rw [fld_of_rd (rd_setFld_other _ _ _ (by decide)), fld_setFld_same _ _ (by decide) (by decide)]
      exact Nat.mod_eq_of_lt (by decide)
    · rw [if_neg hwake]
      refine ⟨hcalm, hreq, fun hday => ?_, fun hdusk hzero => absurd ⟨hpower.trans hdusk, ?_⟩ hwake⟩
      · have hnot : w.phase ≠ 2 := fun h => hundo ⟨hpower.trans hday, h⟩
        rw [hphase] at hnot ⊢
        split <;> split <;> simp_all
      · rw [hphase, hzero]
        rfl

theorem power_requests : ∀ (o : Origin) (s : State), s.auditFull = false → s.nightReady = false →
    (s.permit o R.SYS_POWER_REQ 1 = .ok s →
      ∃ t, exec (.powerReqDusk o) s = .next t ∧ t = { s with regs := t.regs, audit := t.audit, bells := t.bells, phase := t.phase, trace := t.trace } ∧
        t.fld R.SYS_POWER_REQ 1 0 = 1 ∧ t.phase = if s.power = .day ∧ s.phase = 0 then 1 else s.phase) ∧
    (s.permit o R.SYS_POWER_REQ 2 = .ok s →
      (s.nightBusy = false →
        ∃ t, exec (.powerReqNight o) s = .next t ∧ t = { s with regs := t.regs, audit := t.audit, bells := t.bells, phase := t.phase, trace := t.trace } ∧
          t.fld R.SYS_POWER_REQ 1 0 = 2 ∧ t.phase = if s.phase = 0 then 1 else s.phase) ∧
      (s.nightBusy = true → 256 < s.logFree →
        ∃ t, exec (.powerReqNight o) s = .next t ∧ t = { s with regs := t.regs, log := t.log, trace := t.trace, out := t.out } ∧
          t.newest Code.CLK_NIGHT_BUSY 7 6 0 0x10C 2 ∧ s.regsBut t (recordRegs 1))) ∧
    (s.permit o R.SYS_POWER_REQ 0 = .ok s →
      ∃ t, exec (.powerReqDay o) s = .next t ∧ t = { s with regs := t.regs, audit := t.audit, bells := t.bells, phase := t.phase, trace := t.trace } ∧
        t.fld R.SYS_POWER_REQ 1 0 = 0 ∧
        (s.power = .day → t.phase = if s.phase = 1 ∨ s.phase = 2 then 0 else s.phase) ∧
        (s.power = .dusk → s.phase = 0 → t.phase = 3 ∧ t.fld R.CLK_POWER_STATE 18 16 = 1)) := by
  intro o s hfull hready
  refine ⟨fun hp => ?_, fun hp => ⟨fun hfree => ?_, fun hbusy hroom => ?_⟩, fun hp => ?_⟩
  · obtain ⟨honly, hreq, hphase⟩ := askDown_waits (o := o) hfull hready (v := 1) (by decide)
    obtain ⟨hnight, -⟩ := up_of_permit (by decide) hp
    refine ⟨s.askDown o 1, congrArg Host.Outcome.next (writePowerReq_dusk hp), honly.eq_takes, hreq, ?_⟩
    rw [hphase]
    cases hpow : s.power
    · by_cases hz : s.phase = 0 <;> simp [hz]
    · simp
    · exact absurd hpow hnight
  · obtain ⟨honly, hreq, hphase⟩ := askDown_waits (o := o) hfull hready (v := 2) (by decide)
    refine ⟨s.askDown o 2, congrArg Host.Outcome.next ((writePowerReq_night hp).trans (if_neg (by rw [hfree]; exact Bool.false_ne_true))), honly.eq_takes, hreq, ?_⟩
    rw [hphase]
    by_cases hz : s.phase = 0 <;> simp [hz]
  · obtain ⟨hfields, hnew, hregs, -⟩ := noted_record (s := s) (a := ⟨Code.CLK_NIGHT_BUSY, 7, o, some 1, 6, pageOf R.SYS_POWER_REQ, offOf R.SYS_POWER_REQ, 2,
      none, none, 0⟩) rfl hroom
    exact ⟨_, congrArg Host.Outcome.next ((writePowerReq_night hp).trans (if_pos hbusy)), hfields.eq_takes, hnew, hregs⟩
  · obtain ⟨-, hbooted, hfatal⟩ := up_of_permit (by decide) hp
    obtain ⟨honly, hreq, hday, hdusk⟩ := askDay_wakes (o := o) hfull hready hfatal hbooted
    exact ⟨s.askDay o, congrArg Host.Outcome.next (writePowerReq_day hp), honly.eq_takes, hreq, hday, hdusk⟩

/-! ### The entry and the wake -/

theorem engine_crcAbort (e i : Nat) : (s.crcAbort e).engine i = if e = i ∧ s.crcBusy e = true then { s.engine i with run := 2 } else s.engine i := by
  unfold State.crcAbort
  by_cases hbusy : s.crcBusy e = true
  · rw [if_pos hbusy]
    by_cases hi : e = i
    · subst hi
      rw [if_pos ⟨rfl, hbusy⟩, engine_setEngine_same]
    · rw [if_neg (fun h : e = i ∧ s.crcBusy e = true => hi h.1), engine_setEngine_other _ _ (Ne.symm hi)]
  · rw [if_neg hbusy, if_neg (fun h : e = i ∧ s.crcBusy e = true => hbusy h.2)]

/-- Step 1 of R498 stops every engine that runs a job. -/
theorem abortEngines_stops {e : Nat} (he : e ≤ 7) (hbusy : s.crcBusy e = true) : (s.abortEngines.engine e).run = 2 := by
  have hbusy' : ∀ (u : State) (x : Nat), (u.crcAbort x).crcBusy e = u.crcBusy e := fun u x =>
    congrArg (· == 1) (fld_of_rd (rd_congr ((only_crcAbort (mm := 4503599627370496) x rfl (only_refl _ u)).regs rfl) _) 0 0)
  refine foldl_reaches (f := State.crcAbort) (P := fun u => u.crcBusy e = true) (Q := fun u => (u.engine e).run = 2) (j := e) (fun u hu => ?_)
    (fun u x _ hu => (hbusy' u x).trans hu) (fun u x _ hu => ?_) (List.mem_range.mpr (by omega)) hbusy
  · show ((u.crcAbort e).engine e).run = 2
    rw [engine_crcAbort, if_pos ⟨rfl, hu⟩]
  · show ((u.crcAbort x).engine e).run = 2
    rw [engine_crcAbort]
    split
    · rfl
    · exact hu

theorem exec_entry_begins (hbooted : s.booted = true) (hday : s.power = .day) (hfatal : s.fatal = 0) (hreq : s.fld R.SYS_POWER_REQ 1 0 = 1)
    (hphase : s.phase = 1) (hfree : s.duskFree = true) : exec .duskEntry s = .next s.beginEntry := by
  show execDuskEntry s = _
  unfold execDuskEntry
  rw [if_neg (by rw [hbooted, hday, hfatal, hreq]; decide), if_pos ⟨hphase, hfree⟩]

theorem exec_entry_dusk (hbooted : s.booted = true) (hday : s.power = .day) (hfatal : s.fatal = 0) (hreq : s.fld R.SYS_POWER_REQ 1 0 = 1)
    (hphase : s.phase = 2) : exec .duskEntry s = .next s.enterDusk := by
  show execDuskEntry s = _
  unfold execDuskEntry
  rw [if_neg (by rw [hbooted, hday, hfatal, hreq]; decide), if_neg (fun h => absurd (hphase.symm.trans h.1) (by decide)), if_pos hphase]

theorem exec_entry_night (hbooted : s.booted = true) (hday : s.power = .day) (hfatal : s.fatal = 0) (hreq : s.fld R.SYS_POWER_REQ 1 0 = 2)
    (hphase : s.phase = 2) : exec .nightEntry s = .next s.enterDusk.readyForNight := by
  show execNightEntry s = _
  unfold execNightEntry
  rw [if_neg (by rw [hbooted, hday, hfatal, hreq]; decide), if_neg (fun h => absurd (hphase.symm.trans h.1) (by decide)), if_pos hphase]

theorem entry_begins (hbooted : s.booted = true) (hday : s.power = .day) (hfatal : s.fatal = 0) (hreq : s.fld R.SYS_POWER_REQ 1 0 = 1)
    (hphase : s.phase = 1) (hfree : s.duskFree = true) : ∃ t, exec .duskEntry s = .next t ∧ t = { s with phase := 2, engines := t.engines } ∧
      ∀ e, e ≤ 7 → s.crcBusy e = true → (t.engine e).run = 2 := by
  have hexec := exec_entry_begins hbooted hday hfatal hreq hphase hfree
  have hall : Only 4503599627370752 s s.beginEntry := only_beginEntry rfl (only_refl _ s)
  have hunder : s.beginEntry.phase = 2 := rfl
  have hstop : ∀ e, e ≤ 7 → s.crcBusy e = true → (s.beginEntry.engine e).run = 2 := fun e he hbusy => by
    have hput : Only 256 s.abortEngines s.beginEntry := only_put256 rfl (only_refl _ _)
    rw [engine_congr (hput.engines rfl), abortEngines_stops he hbusy]
  generalize s.beginEntry = u at hexec hall hunder hstop
  exact ⟨u, hexec, hall.eq_takes.trans (by rw [← hunder]; rfl), hstop⟩

theorem entry_ends (hbooted : s.booted = true) (hday : s.power = .day) (hfatal : s.fatal = 0) (hphase : s.phase = 2)
    (hreq : s.fld R.SYS_POWER_REQ 1 0 = 1 ∨ s.fld R.SYS_POWER_REQ 1 0 = 2) :
    ∃ t, exec (if s.fld R.SYS_POWER_REQ 1 0 = 1 then .duskEntry else .nightEntry) s = .next t ∧ Dusked s t ∧
      (s.fld R.SYS_POWER_REQ 1 0 = 1 → t.nightReady = s.nightReady ∧ t.fold = s.fold ∧
        (s.nightReady = false → .i3cIrq (BitVec.ofNat 8 t.i3cByte) ∈ t.out)) ∧
      (s.fld R.SYS_POWER_REQ 1 0 = 2 → t.nightReady = true ∧ t.job0.key = none ∧ t.job1.key = none ∧ t.fold.deviceKey = 0 ∧ t.fold.fieldKey = 0) := by
  rcases hreq with hone | htwo
  · have hall : Only 80704582288293232961 s s.enterDusk := only_enterDusk rfl (only_refl _ s)
    have hfold : s.enterDusk.fold = s.fold := hall.fold rfl
    rw [if_pos hone]
    exact ⟨s.enterDusk, exec_entry_dusk hbooted hday hfatal hone hphase, dusked_enterDusk,
      fun _ => ⟨hall.nightReady rfl, hfold, fun hready => enterDusk_told hready hday⟩, fun h => absurd (hone.symm.trans h) (by decide)⟩
  · rw [if_neg (by rw [htwo]; decide)]
    exact ⟨s.enterDusk.readyForNight, exec_entry_night hbooted hday hfatal htwo hphase, dusked_readyForNight dusked_enterDusk,
      fun h => absurd (htwo.symm.trans h) (by decide), fun _ => keys_readyForNight⟩

theorem wake_ends {cause us : Nat} (hcause : cause ≠ 4) (hdusk : s.power = .dusk) (hphase : s.phase = 3) (hfatal : s.fatal = 0) :
    exec (.duskWake cause us) s = .next (s.leaveDusk us) := by
  show execDuskWake cause us s = _
  unfold execDuskWake
  rw [if_neg hcause, if_neg (by rw [hdusk, hphase, hfatal]; decide)]

/-! ### The fast clocks -/

theorem clock_requested {p ns : Nat} (hp : p ≤ 28) (hbooted : s.booted = true) (hday : s.power = .day) (hoff : s.clkRuns p = false)
    (hheld : s.clockHeld = false) (hns : ns ≤ 20000) :
    exec (.clockRequest p ns) s = .next ((s.clkOn p).maxFld R.CLK_START_MAX 15 0 ns) := by
  show execClockRequest p ns s = _
  unfold execClockRequest
  rw [if_neg (by rw [hbooted, hday, hoff]; simp; omega), if_neg (by rw [hheld]; simp)]
  dsimp only
  rw [if_neg (by omega)]

theorem clock_idle {p : Nat} (hp : p ≤ 28) (hbooted : s.booted = true) (hpower : s.power ≠ .night) (hkeep : s.keepsClk p = false)
    (hbusy : s.pageBusy p = false) : exec (.clkIdleTimeout p) s = .next (s.clkOff p) := by
  show execClkIdleTimeout p s = _
  unfold execClkIdleTimeout
  rw [if_neg (by rw [hbooted, hkeep, hbusy]; simp; exact ⟨hp, hpower⟩)]

theorem clocks_change : ∀ (p ns : Nat) (s : State), p ≤ 28 → s.booted = true →
    (s.power = .day → s.clkRuns p = false → s.clockHeld = false → ns ≤ 20000 →
      ∃ t, exec (.clockRequest p ns) s = .next t ∧ t = { s with regs := t.regs, trace := t.trace } ∧ t.fld R.CLK_REQ p p = 1 ∧ t.fld R.CLK_ON p p = 1 ∧
        t.fld (statusOf p) 3 3 = 1 ∧ t.fld R.CLK_START_MAX 15 0 = max (s.fld R.CLK_START_MAX 15 0) ns ∧
        s.regsBut t [R.CLK_REQ, R.CLK_ON, statusOf p, R.CLK_START_MAX]) ∧
    (s.power ≠ .night → s.keepsClk p = false → s.pageBusy p = false →
      ∃ t, exec (.clkIdleTimeout p) s = .next t ∧ t = { s with regs := t.regs, trace := t.trace } ∧ t.fld R.CLK_REQ p p = 0 ∧ t.fld R.CLK_ON p p = 0 ∧
        t.fld (statusOf p) 3 3 = 0 ∧ s.regsBut t [R.CLK_REQ, R.CLK_ON, statusOf p]) ∧
    (s.power ≠ .night →
      ∃ t, exec .vbatLow s = .next t ∧ t = { s with regs := t.regs } ∧ t.fld R.CLK_ALWAYS_ON 1 1 = 1 ∧ s.regsBut t [R.CLK_ALWAYS_ON]) := by
  intro p ns s hp hbooted
  refine ⟨fun hday hoff hheld hns => ?_, fun hpower hkeep hbusy => ?_, fun hpower => ?_⟩
  · obtain ⟨hreq, hon, hshown, hregs⟩ := clockSet_clkOn (s := s) hp
    have hall : Only 4611686018427387905 s ((s.clkOn p).maxFld R.CLK_START_MAX 15 0 ns) := only_maxFld _ _ _ _ rfl (only_clkOn p rfl (only_refl _ s))
    have hkept : ∀ {a : RegAddr}, R.CLK_START_MAX ≠ a → ((s.clkOn p).maxFld R.CLK_START_MAX 15 0 ns).rd a = (s.clkOn p).rd a :=
      fun ha => rd_setFld_other _ _ _ ha
    refine ⟨_, clock_requested hp hbooted hday hoff hheld hns, hall.eq_takes, (fld_of_rd (hkept (by decide)) _ _).trans hreq,
      (fld_of_rd (hkept (by decide)) _ _).trans hon, (fld_of_rd (hkept (Ne.symm (statusOf_ne_clk p (by decide)))) _ _).trans hshown, ?_, ?_⟩
    · rw [fld_maxFld _ (by decide) (by decide) (by norm_num; omega), fld_of_rd (hregs R.CLK_START_MAX ?_)]
      have hstatus := statusOf_ne_clk p (a := R.CLK_START_MAX) (by decide)
      simp [Ne.symm hstatus]
    · exact regsOff_setFld _ _ _ _ (by simp) (regsOff_mono (by simp) hregs)
  · obtain ⟨hreq, hon, hshown, hregs⟩ := clockSet_clkOff (s := s) hp
    exact ⟨_, clock_idle hp hbooted hpower hkeep hbusy, (only_clkOff (mm := 4611686018427387905) p rfl (only_refl _ s)).eq_takes, hreq, hon, hshown, hregs⟩
  · exact ⟨_, (if_neg hpower : execVbatLow s = _), rfl, fld_setFld_same _ _ (by decide) (by decide), regsOff_setFld _ _ _ _ (by simp) (regsOff_refl _ _)⟩

/-- Settles O46: a request waits or is refused as its write finds the part; an entry and a wake are their parts in order, no later part undoing an
earlier one; a clock's bits are set alike. -/
theorem powerAndClocksChange : Obligations.PowerAndClocksChange := by
  unfold Obligations.PowerAndClocksChange
  refine ⟨⟨power_requests, fun s hbooted hday hfatal => ⟨fun hreq hphase hfree => entry_begins hbooted hday hfatal hreq hphase hfree, fun hphase hreq => ?_⟩,
    fun cause us s hcause hdusk hphase hfatal hus => ?_⟩, clocks_change⟩
  · obtain ⟨t, hexec, hdusked, hdusk, hnight⟩ := entry_ends hbooted hday hfatal hphase hreq
    exact ⟨t, hexec, hdusked.power, hdusked.phase, hdusked.rested, hdusked.clocks, hdusked.lanes, hdusked.volt, hdusked.pll, hdusked.count, hdusked.stripes,
      hdusk, hnight⟩
  · have hawake := awoken_leaveDusk (s := s) hus
    exact ⟨_, wake_ends hcause hdusk hphase hfatal, hawake.power, hawake.phase, hawake.exited, hawake.clocks, hawake.longest, hawake.pll, hawake.stripes, hawake.log,
      fun hready => leaveDusk_told hus hready hdusk⟩

end Sys2Proof.Machine
end

section
/-! SUPPORT. Sensors, classes and the thermal ceiling (O47). -/

namespace Sys2Proof.Machine

variable {s : State}

/-! ### Sensors and classes -/

theorem sensor_setSensor (i k : Nat) (x : Sensor) : (s.setSensor i x).sensor k = if i = k then x else s.sensor k := kget_kset _ _ _ _ _

theorem tclass_setClass (c k : Nat) (x : TClass) : (s.setClass c x).tclass k = if c = k then x else s.tclass k := kget_kset _ _ _ _ _

theorem sensor_congr {t : State} (h : t.sensors = s.sensors) (i : Nat) : t.sensor i = s.sensor i := by
  unfold State.sensor
  rw [h]

theorem tclass_congr {t : State} (h : t.tclasses = s.tclasses) (c : Nat) : t.tclass c = s.tclass c := by
  unfold State.tclass
  rw [h]

/-- A sensor after a sample that is no good (R511). -/
def Sensor.missed (x : Sensor) : Sensor := { x with bad := min 3 (x.bad + 1), good := 0 }
/-- A sensor after a good sample (R511). -/
def Sensor.took (x : Sensor) (v : Int) : Sensor := { x with last := some v, bad := 0, good := min 8 (x.good + 1) }

/-- A sample of a sensor changes that sensor or nothing. -/
theorem sampleOne_sets (raw : List (Option Int)) (i : Nat) : s.sampleOne raw i = s ∨ ∃ y, s.sampleOne raw i = s.setSensor i y := by
  unfold State.sampleOne
  dsimp only
  split
  · split
    · split
      · exact .inr ⟨_, rfl⟩
      · exact .inl rfl
    · split
      · exact .inr ⟨_, rfl⟩
      · exact .inr ⟨_, rfl⟩
      · exact .inl rfl
  · split
    · exact .inl rfl
    · split
      · split
        · exact .inr ⟨_, rfl⟩
        · exact .inr ⟨_, rfl⟩
      · exact .inr ⟨_, rfl⟩

theorem sensor_sampleOne_other (raw : List (Option Int)) {i k : Nat} (h : i ≠ k) : (s.sampleOne raw i).sensor k = s.sensor k := by
  rcases sampleOne_sets (s := s) raw i with hsame | ⟨y, hset⟩
  · rw [hsame]
  · rw [hset, sensor_setSensor, if_neg h]

/-- A sensor of the device takes what it gave, where that is a sound reading (R510, R511). -/
theorem sensor_sampleOne_good {raw : List (Option Int)} {i : Nat} {v : Int} (hi : ¬ (64 ≤ i ∧ i < 128)) (hc : s.sensorClass i ≠ 3)
    (hv : raw.getD i none = some v) (hok : readingOk i v = true) : (s.sampleOne raw i).sensor i = (s.sensor i).took v := by
  unfold State.sampleOne
  dsimp only
  rw [if_neg hi, if_neg hc, hv]
  dsimp only
  rw [if_pos hok, sensor_setSensor, if_pos rfl]
  rfl

theorem sensor_sampleOne_bad {raw : List (Option Int)} {i : Nat} {v : Int} (hi : ¬ (64 ≤ i ∧ i < 128)) (hc : s.sensorClass i ≠ 3)
    (hv : raw.getD i none = some v) (hok : ¬ readingOk i v = true) : (s.sampleOne raw i).sensor i = (s.sensor i).missed := by
  unfold State.sampleOne
  dsimp only
  rw [if_neg hi, if_neg hc, hv]
  dsimp only
  rw [if_neg hok, sensor_setSensor, if_pos rfl]
  rfl

theorem sensor_sampleOne_none {raw : List (Option Int)} {i : Nat} (hi : ¬ (64 ≤ i ∧ i < 128)) (hc : s.sensorClass i ≠ 3)
    (hv : raw.getD i none = none) : (s.sampleOne raw i).sensor i = (s.sensor i).missed := by
  unfold State.sampleOne
  dsimp only
  rw [if_neg hi, if_neg hc, hv]
  dsimp only
  rw [sensor_setSensor, if_pos rfl]
  rfl

/-- A head sensor takes its most recent report (R510). -/
theorem sensor_sampleOne_head {raw : List (Option Int)} {i : Nat} {v : Int} (hi : 64 ≤ i ∧ i < 128) (hhead : s.headAbsent = false)
    (hv : kget? s.flink.sensors (i - 64) = some (some v)) : (s.sampleOne raw i).sensor i = (s.sensor i).took v := by
  unfold State.sampleOne
  dsimp only
  rw [if_pos hi, if_neg (by rw [hhead]; exact Bool.false_ne_true), hv]
  dsimp only
  rw [sensor_setSensor, if_pos rfl]
  rfl

/-- A pass over all sensors leaves each as its own sample leaves it. -/
theorem sensor_sampled {raw : List (Option Int)} {i : Nat} (hi : i < 130) {x : Sensor}
    (hown : ∀ u, Only 17592186044416 s u → u.sensor i = s.sensor i → (u.sampleOne raw i).sensor i = x) :
    ((List.range 130).foldl (fun s i => s.sampleOne raw i) s).sensor i = x := by
  have hpass : ∀ (l : List Nat) (u : State), l.Nodup → Only 17592186044416 s u → (i ∈ l → u.sensor i = s.sensor i) → (i ∉ l → u.sensor i = x) →
      (l.foldl (fun s i => s.sampleOne raw i) u).sensor i = x := by
    intro l
    induction l with
    | nil => exact fun u _ _ _ hout => hout List.not_mem_nil
    | cons k l ih =>
      intro u hnd hu hin hout
      obtain ⟨hk, hnd⟩ := List.nodup_cons.mp hnd
      refine ih _ hnd (only_sampleOne raw k rfl hu) (fun hmem => ?_) (fun hmem => ?_)
      · rw [sensor_sampleOne_other raw (fun h : k = i => hk (by rw [h]; exact hmem))]
        exact hin (List.mem_cons_of_mem _ hmem)
      · by_cases hki : k = i
        · subst hki
          exact hown u hu (hin List.mem_cons_self)
        · rw [sensor_sampleOne_other raw hki]
          exact hout (fun h => hmem ((List.mem_cons.mp h).resolve_left (Ne.symm hki)))
  exact hpass _ s List.nodup_range (only_refl _ s) (fun _ => rfl) (fun h => absurd (List.mem_range.mpr hi) h)

/-! ### The ceiling -/

/-- The classes as the ceiling is shown: those in a hold keep their least one (R522). -/
def State.ceilKept (s : State) : State :=
  [0, 1, 2].foldl (fun s c => if (s.tclass c).relax then s.setClass c { s.tclass c with least := s.heldCeil c } else s) s

theorem showCeil_eq : s.showCeil = s.ceilKept.setFld R.THERM_CEILING 20 0 s.ceilKept.thermCeil := rfl

theorem only_ceilKept : Only 35184372088832 s s.ceilKept :=
  only_foldl (fun _ _ h => only_ite (only_put35184372088832 rfl h) h) _ (only_refl _ s)

/-- A class's temperature is no matter of the registers. -/
theorem classTemp_setFld (a : RegAddr) (hi lo x c : Nat) : (s.setFld a hi lo x).classTemp c = s.classTemp c := by
  have hext : ∀ d, (s.setFld a hi lo x).extClass d = s.extClass d := fun _ => rfl
  have hclass : ∀ i, (s.setFld a hi lo x).sensorClass i = s.sensorClass i := fun i => by
    unfold State.sensorClass
    rw [hext]
  have hhead : (s.setFld a hi lo x).headSensors = s.headSensors := rfl
  have habsent : (s.setFld a hi lo x).headAbsent = s.headAbsent := rfl
  have hsensor : ∀ i, (s.setFld a hi lo x).sensor i = s.sensor i := fun _ => rfl
  have hpresent : ∀ i, (s.setFld a hi lo x).present i = s.present i := fun i => by
    unfold State.present
    rw [hclass, hhead, habsent, hsensor]
  have hnear : ∀ i, (s.setFld a hi lo x).nearby i = s.nearby i := fun i => by
    unfold State.nearby
    rw [hhead]
    rfl
  have hlost : (s.setFld a hi lo x).sensorsLost = s.sensorsLost := rfl
  have hvalue : ∀ i, (s.setFld a hi lo x).valueInUse i = s.valueInUse i := fun i => by
    unfold State.valueInUse State.useOf
    simp only [hsensor, hnear, hpresent, hlost]
  unfold State.classTemp State.classValues
  simp only [hclass, hpresent, hvalue]

theorem thermCeil_setFld (hi lo x : Nat) : (s.setFld R.THERM_CEILING hi lo x).thermCeil = s.thermCeil := by
  have hrate : (s.setFld R.THERM_CEILING hi lo x).maxRate = s.maxRate := fld_of_rd (rd_setFld_other _ _ _ (by decide)) 20 0
  have htemp : ∀ c, (s.setFld R.THERM_CEILING hi lo x).classTemp c = s.classTemp c := classTemp_setFld _ _ _ _
  have hforce : ∀ a, (s.setFld R.THERM_CEILING hi lo x).inForce a = s.inForce a := fun _ => rfl
  have hthr : ∀ c l, (s.setFld R.THERM_CEILING hi lo x).thr c l = s.thr c l := fun _ _ => rfl
  have hclass : ∀ c, (s.setFld R.THERM_CEILING hi lo x).classCeil c = s.classCeil c := fun c => by
    unfold State.classCeil
    rw [hrate, htemp, hforce, hforce, hthr]
  have hheld : (s.setFld R.THERM_CEILING hi lo x).heldCeil = s.heldCeil := funext fun c => by
    unfold State.heldCeil
    rw [hclass]
    rfl
  unfold State.thermCeil
  rw [hrate, hheld]
  rfl

/-- CEILING shows the ceiling as the levels make it (R516). -/
theorem fld_showCeil : s.showCeil.fld R.THERM_CEILING 20 0 = s.showCeil.thermCeil % 2 ^ 21 := by
  rw [showCeil_eq, fld_setFld_same _ _ (by decide) (by decide), thermCeil_setFld]

theorem level_showCeil (c : Nat) : (s.showCeil.tclass c).level = (s.tclass c).level := by
  have hkept : (s.ceilKept.tclass c).level = (s.tclass c).level := by
    unfold State.ceilKept
    refine List.foldlRecOn (motive := fun u : State => (u.tclass c).level = (s.tclass c).level) [0, 1, 2] _ rfl (fun u hu k _ => ?_)
    split
    · rw [tclass_setClass]
      split
      · next h => exact h ▸ hu
      · exact hu
    · exact hu
  exact hkept

theorem regsOff_showCeil {l : List RegAddr} {s0 : State} (hl : R.THERM_CEILING ∈ l) (h : RegsOff l s0 s) : RegsOff l s0 s.showCeil := by
  rw [showCeil_eq]
  exact regsOff_setFld _ _ _ _ hl (regsOff_regs (only_ceilKept.regs rfl) h)

/-- What the beginning of a hold and the ceiling's display change (R516, R522). -/
def ceilRegs : List RegAddr := [R.THERM_CEILING, R.THERM_RELAX_HOLD]

theorem level_beginHold (c k : Nat) : ((s.beginHold c).tclass k).level = (s.tclass k).level := by
  have hset : ∀ x y : TClass, x = s.tclass c → y.level = x.level → ((s.setClass c y).tclass k).level = (s.tclass k).level := by
    rintro x y rfl hy
    rw [tclass_setClass]
    split
    · next h => exact h ▸ hy
    · rfl
  unfold State.beginHold
  dsimp only
  split
  · rfl
  · exact hset _ _ rfl rfl

theorem regsOff_beginHold {s0 : State} (c : Nat) (h : RegsOff ceilRegs s0 s) : RegsOff ceilRegs s0 (s.beginHold c) := by
  unfold State.beginHold
  dsimp only
  split
  · exact h
  · exact regsOff_setFld _ _ _ _ (by decide) (regsOff_regs rfl h)

/-- What ends every change of the levels: a hold that begins, where one does, and the ceiling shown. -/
def State.ceilEnd (s : State) (hold : Bool) (c : Nat) : State := (if hold then s.beginHold c else s).showCeil

theorem only_ceilEnd (hold : Bool) (c : Nat) : Only 35184372088833 s (s.ceilEnd hold c) :=
  only_showCeil rfl (only_ite (only_beginHold c rfl (only_refl _ s)) (only_refl _ s))

theorem regsOff_ceilEnd (hold : Bool) (c : Nat) : RegsOff ceilRegs s (s.ceilEnd hold c) := by
  unfold State.ceilEnd
  refine regsOff_showCeil (by decide) ?_
  split
  · exact regsOff_beginHold c (regsOff_refl _ _)
  · exact regsOff_refl _ _

theorem level_ceilEnd (hold : Bool) (c k : Nat) : ((s.ceilEnd hold c).tclass k).level = (s.tclass k).level := by
  unfold State.ceilEnd
  rw [level_showCeil]
  split
  · exact level_beginHold c k
  · rfl

theorem rawKept_ceilEnd (hold : Bool) (c : Nat) : RawKept s (s.ceilEnd hold c) :=
  rawKept_regs (regsOff_ceilEnd hold c) (by decide) (rawKept_refl s)

theorem rawKept_showCeil {s0 : State} (h : RawKept s0 s) : RawKept s0 s.showCeil :=
  rawKept_regs (regsOff_showCeil (l := [R.THERM_CEILING]) (by decide) (regsOff_refl _ _)) (by decide) h

end Sys2Proof.Machine
end

section
/-! PROOFS. Temperature samples, levels and acknowledgement (O47). -/

namespace Sys2Proof.Machine

variable {s : State}

/-! ### Samples -/

/-- What follows the sensors' own samples (R511, R513, R516, R520, R522, R524). -/
def State.sampledRest (s : State) : State :=
  (((([0, 1, 2, 3].foldl State.sampleStack ([0, 1, 2].foldl State.sampleClass s)).sampleBank.sampleDieBand.showHottest.endHold 1).checkPair 1))

theorem only_sampledRest : Only 118084784719633850385 s s.sampledRest :=
  only_checkPair 1 rfl (only_endHold 1 rfl (only_showHottest rfl (only_sampleDieBand rfl (only_sampleBank rfl
    (only_foldl (fun _ k h => only_sampleStack k rfl h) _ (only_foldl (fun _ c h => only_sampleClass c rfl h) _ (only_refl _ s)))))))

theorem exec_thermSample (raw : List (Option Int)) (hbooted : s.booted = true) (hpower : s.power ≠ .night) :
    exec (.thermSample raw) s = .next ((List.range 130).foldl (fun s i => s.sampleOne raw i) s).sampledRest.showCeil := by
  show execThermSample raw s = _
  unfold execThermSample
  rw [if_neg (by simp [State.alive, hbooted, hpower])]
  rfl

/-- A sensor's value after a sample is the one that its own sample gave. -/
theorem sensor_sample (raw : List (Option Int)) {i : Nat} (hi : i < 130) {x : Sensor}
    (hown : ∀ u, Only 17592186044416 s u → u.sensor i = s.sensor i → (u.sampleOne raw i).sensor i = x) :
    ((List.range 130).foldl (fun s i => s.sampleOne raw i) s).sampledRest.showCeil.sensor i = x := by
  have hrest : Only 118084784719633850385 ((List.range 130).foldl (fun s i => s.sampleOne raw i) s)
      ((List.range 130).foldl (fun s i => s.sampleOne raw i) s).sampledRest.showCeil := only_showCeil rfl only_sampledRest
  rw [sensor_congr (hrest.sensors rfl)]
  exact sensor_sampled hi hown

theorem class_congr {t : State} (h : Only 17592186044416 s t) (i : Nat) : t.sensorClass i = s.sensorClass i := by
  unfold State.sensorClass State.extClass State.inForce
  rw [h.force rfl]

theorem class_below {i : Nat} (hi : i < 64) : s.sensorClass i ≠ 3 := by
  unfold State.sensorClass
  by_cases hdie : i < 48
  · rw [if_pos hdie]
    decide
  · rw [if_neg hdie, if_pos hi]
    decide

theorem heat_sampled : ∀ (raw : List (Option Int)) (s : State), s.booted = true → s.power ≠ .night →
    ∃ t, exec (.thermSample raw) s = .next t ∧ t.fld R.THERM_CEILING 20 0 = t.thermCeil % 2 ^ 21 ∧
      (∀ i, i < 64 ∨ 128 ≤ i ∧ i < 130 ∧ s.sensorClass i ≠ 3 → t.sensor i = match raw.getD i none with
        | some v => if readingOk i v then { s.sensor i with last := some v, bad := 0, good := min 8 ((s.sensor i).good + 1) }
                    else { s.sensor i with bad := min 3 ((s.sensor i).bad + 1), good := 0 }
        | none => { s.sensor i with bad := min 3 ((s.sensor i).bad + 1), good := 0 }) ∧
      (∀ i v, 64 ≤ i → i < 128 → s.headAbsent = false → kget? s.flink.sensors (i - 64) = some (some v) →
        t.sensor i = { s.sensor i with last := some v, bad := 0, good := min 8 ((s.sensor i).good + 1) }) := by
  intro raw s hbooted hpower
  refine ⟨_, exec_thermSample raw hbooted hpower, fld_showCeil, fun i hi => ?_, fun i v hlo hhi hhead hv => ?_⟩
  · have hrange : ¬ (64 ≤ i ∧ i < 128) := by omega
    have hclass : s.sensorClass i ≠ 3 := hi.elim class_below (fun h => h.2.2)
    have hown : ∀ u, Only 17592186044416 s u → u.sensorClass i ≠ 3 := fun u hu => by
      rw [class_congr hu]
      exact hclass
    cases hraw : raw.getD i none with
    | none =>
      exact sensor_sample raw (by omega) fun u hu hsame => (sensor_sampleOne_none hrange (hown u hu) hraw).trans (congrArg Sensor.missed hsame)
    | some v =>
      by_cases hok : readingOk i v = true
      · refine Eq.trans ?_ (if_pos hok).symm
        exact sensor_sample raw (by omega) fun u hu hsame =>
          (sensor_sampleOne_good hrange (hown u hu) hraw hok).trans (congrArg (fun y => Sensor.took y v) hsame)
      · refine Eq.trans ?_ (if_neg hok).symm
        exact sensor_sample raw (by omega) fun u hu hsame =>
          (sensor_sampleOne_bad hrange (hown u hu) hraw hok).trans (congrArg Sensor.missed hsame)
  · refine sensor_sample raw (by omega) fun u hu hsame => ?_
    have habsent : u.headAbsent = false := by
      rw [← hhead]
      unfold State.headAbsent State.anyArmed
      rw [hu.power rfl, hu.stripes rfl, hu.flink rfl]
    rw [sensor_sampleOne_head ⟨hlo, hhi⟩ habsent (by rw [hu.flink rfl]; exact hv), hsame]
    rfl

/-! ### Levels -/

theorem alive_up (hbooted : s.booted = true) (hpower : s.power ≠ .night) : s.alive = true := by
  simp [State.alive, hbooted, hpower]

theorem newest_raiseIrq (p b : Nat) {code cls lk l0 l1 l2 : Nat} (h : s.newest code cls lk l0 l1 l2) : (s.raiseIrq p b).newest code cls lk l0 l1 l2 := by
  unfold State.newest at h ⊢
  rw [(only_raiseIrq (mm := 73786976294838206465) p b rfl (only_refl _ s)).log rfl]
  exact h

/-- The class at its new level, the rise recorded or the stripe contained (R514, R515). -/
def State.risen (s : State) (cls level : Nat) : State :=
  if level = 3 then (s.setClass cls { s.tclass cls with level }).shutdown cls else (s.setClass cls { s.tclass cls with level }).recordRise cls level

theorem exec_levelRise {cls level : Nat} (hbooted : s.booted = true) (hpower : s.power ≠ .night) (hcls : cls ≤ 2) (hlevel : level ≤ 3)
    (habove : (s.tclass cls).level < level) (hdwell : 8 ≤ (s.tclass cls).above.getD (level - 1) 0) :
    ∃ hold, exec (.thermLevelRise cls level) s = .next ((s.risen cls level).ceilEnd hold cls) := by
  refine ⟨decide (level ≥ 2 ∧ (s.tclass cls).level < 2 ∧ (s.risen cls level).unacked cls = true), ?_⟩
  show execThermLevelRise cls level s = _
  unfold execThermLevelRise State.ceilEnd
  dsimp only
  rw [if_neg]
  · simp only [decide_eq_true_eq]
    rfl
  · rw [alive_up hbooted hpower]
    rintro (h | h | h | h | h)
    · exact absurd h (by decide)
    · omega
    · omega
    · omega
    · omega

theorem tclass_raised {cls level : Nat} : (((s.setClass cls { s.tclass cls with level }).tclass cls).level) = level := by
  rw [tclass_setClass, if_pos rfl]

theorem only_risen (cls level : Nat) : Only 117598044116156948497 s (s.risen cls level) := by
  have hset : Only 117598044116156948497 s (s.setClass cls { s.tclass cls with level }) := only_put35184372088832 rfl (only_refl _ s)
  unfold State.risen
  exact only_ite (only_shutdown _ rfl hset) (only_recordRise _ _ rfl hset)

theorem level_risen (cls level : Nat) : ((s.risen cls level).tclass cls).level = level := by
  have hrest : Only 117598008931784859665 (s.setClass cls { s.tclass cls with level }) (s.risen cls level) := by
    unfold State.risen
    exact only_ite (only_shutdown _ rfl (only_refl _ _)) (only_recordRise _ _ rfl (only_refl _ _))
  rw [tclass_congr (hrest.tclasses rfl), tclass_raised]

/-- What leaves the stripes, Drover, the links and CKPT_STATE leaves a contained stripe so. -/
theorem containedBy_apart {t u : State} {x : Stripe} {code : Nat} {k : Int} {l : List RegAddr} (h : t.containedBy x code k)
    (hu : Only 73787011479210295297 t u) (hl : RegsOff l t u) (hmem : R.SYS_CKPT_STATE ∉ l) : u.containedBy x code k := by
  unfold State.containedBy State.fld at h ⊢
  rw [hu.stripes rfl, hu.drover rfl, hu.flink rfl, hl _ hmem]
  exact h

/-- At shutdown the writing stripe is contained at the held flash (R515). -/
theorem risen_contains {cls : Nat} {x : Stripe} (hx : s.active = some x) (hw : x.st = .writing) :
    (s.risen cls 3).containedBy x (levelCode cls 3) s.drover.k := by
  have hactive : (s.setClass cls { s.tclass cls with level := 3 }).active = some x := hx
  have hwriting : (s.setClass cls { s.tclass cls with level := 3 }).writing.isSome = true :=
    List.find?_isSome.mpr ⟨x, List.mem_of_find?_eq_some hx, decide_eq_true hw⟩
  unfold State.risen State.shutdown
  rw [if_pos rfl, if_pos (.inl hwriting)]
  refine containedBy_apart (l := [0x2010, 0x2018]) (contain_contains hactive hw _).1 (only_raiseIrq 2 cls rfl (only_refl _ _))
    (regsOff_raiseIrq _ _ (by simp) (by simp) (regsOff_refl _ _)) (by decide)

/-- A rise below shutdown whose bit is not pending is recorded, and its raw bit set (R514). -/
theorem risen_records {cls level : Nat} (hlevel : level ≠ 3) (hcls : cls ≤ 2) (hpend : s.fld 0x2018 cls cls = 0) (hroom : 256 < s.logFree) :
    (s.risen cls level).newest (levelCode cls level) (if level = 1 then 0 else 1) 8 cls 0 0 ∧ (s.risen cls level).fld 0x2010 cls cls = 1 := by
  have hclear : ¬ (s.setClass cls { s.tclass cls with level }).fld 0x2018 cls cls = 1 := fun h => absurd (hpend.symm.trans h) (by decide)
  have hnoted := noted_record (s := s.setClass cls { s.tclass cls with level })
    (a := ⟨levelCode cls level, if level = 1 then 0 else 1, .hardware, none, 8, cls, 0, 0, none, none, 0⟩) rfl hroom
  unfold State.risen State.recordRise
  rw [if_neg hlevel, if_neg hclear]
  exact ⟨newest_raiseIrq 2 cls hnoted.newest, raiseIrq_sets _ 2 (by omega)⟩

/-- One whose bit is pending is only counted (R514). -/
theorem risen_counts {cls level : Nat} (hlevel : level ≠ 3) (hpend : s.fld 0x2018 cls cls = 1) : (s.risen cls level).log = s.log := by
  have hset : (s.setClass cls { s.tclass cls with level }).fld 0x2018 cls cls = 1 := hpend
  unfold State.risen State.recordRise
  rw [if_neg hlevel, if_pos hset]
  rfl

theorem heat_rises : ∀ (cls level : Nat) (s : State), s.booted = true → s.power ≠ .night → cls ≤ 2 → level ≤ 3 → (s.tclass cls).level < level →
    8 ≤ (s.tclass cls).above.getD (level - 1) 0 →
    ∃ t, exec (.thermLevelRise cls level) s = .next t ∧ (t.tclass cls).level = level ∧
      (∀ x, level = 3 → s.active = some x → x.st = .writing → t.containedBy x (levelCode cls 3) s.drover.k) ∧
      (level ≤ 2 → s.fld 0x2018 cls cls = 0 → 256 < s.logFree → t.newest (levelCode cls level) (level - 1) 8 cls 0 0 ∧ t.fld 0x2010 cls cls = 1) ∧
      (level ≤ 2 → s.fld 0x2018 cls cls = 1 → t.log = s.log) := by
  intro cls level s hbooted hpower hcls hlevel habove hdwell
  obtain ⟨hold, hexec⟩ := exec_levelRise hbooted hpower hcls hlevel habove hdwell
  have hend := only_ceilEnd (s := s.risen cls level) hold cls
  refine ⟨_, hexec, ?_, fun x hthree hx hw => ?_, fun hlow hpend hroom => ?_, fun hlow hpend => ?_⟩
  · rw [level_ceilEnd, level_risen]
  · subst hthree
    exact containedBy_apart (risen_contains hx hw) (only_mono rfl hend) (regsOff_ceilEnd hold cls) (by decide)
  · obtain ⟨hnew, hraw⟩ := risen_records (level := level) (by omega) hcls hpend hroom
    refine ⟨?_, rawKept_ceilEnd hold cls 2 cls (by omega) hraw⟩
    have hcls' : (if level = 1 then 0 else 1) = level - 1 := by
      split <;> omega
    unfold State.newest at hnew ⊢
    rw [hend.log rfl]
    exact hcls' ▸ hnew
  · exact (hend.log rfl).trans (risen_counts (level := level) (by omega) hpend)

/-- What leaves low-power idle changes the links and the outputs alone (R515). -/
theorem only_leftHeld (u : State) : Only 73786978493861462016 s (u.leaveHeld s) := by
  unfold State.leaveHeld
  exact only_ite (only_wakeLanes rfl (only_refl _ _)) (only_refl _ _)

/-- The class at its lower level, the fall signalled (R514, R518). -/
def State.fallen (s : State) (cls level : Nat) : State :=
  (((s.setClass cls { s.tclass cls with level }).raiseIrq 2 5).releasePause).showCeil

theorem exec_levelFall {cls level : Nat} (hbooted : s.booted = true) (hpower : s.power ≠ .night) (hcls : cls ≤ 2) (hbelow : level < (s.tclass cls).level)
    (hdwell : ∀ n, n < 3 → level ≤ n → n < (s.tclass cls).level → (s.tclass cls).below.getD n 0 = 8)
    (hfree : (s.tclass cls).relax = false ∨ 2 ≤ level) : exec (.thermLevelFall cls level) s = .next (s.leaveHeld (s.fallen cls level)) := by
  have hready : (List.range 3).all (fun n => decide (n + 1 ≤ level ∨ (s.tclass cls).level < n + 1) || (s.tclass cls).below.getD n 0 = 8) = true := by
    refine List.all_eq_true.mpr fun n hn => (Bool.or_eq_true _ _).mpr ?_
    by_cases hout : n + 1 ≤ level ∨ (s.tclass cls).level < n + 1
    · exact .inl (decide_eq_true hout)
    · exact .inr (decide_eq_true (hdwell n (List.mem_range.mp hn) (by omega) (by omega)))
  show execThermLevelFall cls level s = _
  unfold execThermLevelFall
  dsimp only
  rw [if_neg]
  · rfl
  · rw [alive_up hbooted hpower, hready]
    rintro (h | h | h | h | ⟨hrelax, hlow⟩)
    · exact absurd h (by decide)
    · omega
    · omega
    · exact absurd h (by decide)
    · rcases hfree with hno | hhigh
      · exact absurd (hno.symm.trans hrelax) (by decide)
      · omega

theorem heat_falls : ∀ (cls level : Nat) (s : State), s.booted = true → s.power ≠ .night → cls ≤ 2 → level < (s.tclass cls).level →
    (∀ n, n < 3 → level ≤ n → n < (s.tclass cls).level → (s.tclass cls).below.getD n 0 = 8) → (s.tclass cls).relax = false ∨ 2 ≤ level →
    ∃ t, exec (.thermLevelFall cls level) s = .next t ∧ (t.tclass cls).level = level ∧ t.fld 0x2010 5 5 = 1 ∧ t.stripes = s.stripes ∧ t.log = s.log := by
  intro cls level s hbooted hpower hcls hbelow hdwell hfree
  have hout := only_leftHeld (s := s.fallen cls level) s
  have hset : Only 73787011479210295297 s ((s.setClass cls { s.tclass cls with level }).raiseIrq 2 5) :=
    only_raiseIrq _ _ rfl (only_put35184372088832 rfl (only_refl _ _))
  have hpause : Only 8796093022208 ((s.setClass cls { s.tclass cls with level }).raiseIrq 2 5)
      ((s.setClass cls { s.tclass cls with level }).raiseIrq 2 5).releasePause := only_releasePause rfl (only_refl _ _)
  have hshow : Only 35184372088833 ((s.setClass cls { s.tclass cls with level }).raiseIrq 2 5).releasePause (s.fallen cls level) := only_showCeil rfl (only_refl _ _)
  refine ⟨_, exec_levelFall hbooted hpower hcls hbelow hdwell hfree, ?_, ?_, ?_, ?_⟩
  · have hraise : Only 73786976294838206465 (s.setClass cls { s.tclass cls with level }) ((s.setClass cls { s.tclass cls with level }).raiseIrq 2 5) :=
      only_raiseIrq _ _ rfl (only_refl _ _)
    rw [tclass_congr (hout.tclasses rfl), State.fallen, level_showCeil, tclass_congr (hpause.tclasses rfl), tclass_congr (hraise.tclasses rfl), tclass_raised]
  · rw [fld_of_rd (rd_congr (hout.regs rfl) _)]
    refine rawKept_showCeil (rawKept_refl _) 2 5 (by decide) ?_
    rw [fld_of_rd (rd_congr (hpause.regs rfl) _)]
    exact raiseIrq_sets _ 2 (by decide)
  · rw [hout.stripes rfl, hshow.stripes rfl, hpause.stripes rfl, hset.stripes rfl]
  · rw [hout.log rfl, hshow.log rfl, hpause.log rfl, hset.log rfl]

/-! ### Sensors that fail, recover and are acknowledged -/

theorem rawKept_checkPair (c : Nat) : RawKept s (s.checkPair c) := by
  unfold State.checkPair
  dsimp only
  refine rawKept_ite (rawKept_raiseIrq 2 4 (by decide) (rawKept_record _ (rawKept_refl s))) (rawKept_ite ?_ (rawKept_refl s))
  have hpause : Only 43980465111040 s ((s.setClass c { s.tclass c with pair := false, pairOrd := none }).releasePause) :=
    only_releasePause rfl (only_put35184372088832 rfl (only_refl _ s))
  have hout := only_leftHeld (s := (s.setClass c { s.tclass c with pair := false, pairOrd := none }).releasePause) s
  exact rawKept_regs (l := []) (regsOff_regs ((hout.regs rfl).trans (hpause.regs rfl)) (regsOff_refl _ _)) (fun a h => absurd h List.not_mem_nil) (rawKept_refl s)

/-- What follows a sensor's failure: its record, the hold that it begins and its pair (R512, R522, R524). -/
def State.failureKept (s : State) (i : Nat) (hold : Bool) (c : Nat) : State :=
  ((if hold then ((s.record { code := Code.THERM_SENSOR_FAILED, cls := 1, lk := 8, l0 := i }).raiseIrq 2 3).beginHold c
    else (s.record { code := Code.THERM_SENSOR_FAILED, cls := 1, lk := 8, l0 := i }).raiseIrq 2 3).checkPair c).showCeil

theorem exec_sensorFailed {i : Nat} (hbooted : s.booted = true) (hpower : s.power ≠ .night) (hclass : s.sensorClass i ≤ 2)
    (hsound : (s.sensor i).failed = false) (hdue : (if 48 ≤ i ∧ i < 128 then 3 else 1) ≤ (s.sensor i).bad)
    (hthere : ¬ (64 ≤ i ∧ i < 128 ∧ s.headAbsent = true)) :
    ∃ hold, exec (.thermSensorFailed i) s = .next ((s.setSensor i { s.sensor i with failed := true, acked := false, good := 0 }).failureKept i hold (s.sensorClass i)) := by
  have hready : (if 48 ≤ i ∧ i < 128 then decide ((s.sensor i).bad ≥ 3) else decide ((s.sensor i).bad ≥ 1)) = true := by
    split
    · next h => exact decide_eq_true (by rw [if_pos h] at hdue; exact hdue)
    · next h => exact decide_eq_true (by rw [if_neg h] at hdue; exact hdue)
  refine ⟨decide (s.classLevel (s.sensorClass i) ≥ 2), ?_⟩
  show execThermSensorFailed i s = _
  unfold execThermSensorFailed State.failureKept
  dsimp only
  rw [if_neg]
  · simp only [decide_eq_true_eq]
  · rw [alive_up hbooted hpower, hready, hsound]
    rintro (h | h | h | h | h)
    · exact absurd h (by decide)
    · omega
    · exact absurd h (by decide)
    · exact absurd h (by decide)
    · exact hthere h

theorem failureKept_rest (i : Nat) (hold : Bool) (c : Nat) : Only 117598044116156948497 s (s.failureKept i hold c) ∧ (s.failureKept i hold c).fld 0x2010 3 3 = 1 := by
  have hnote : Only 117598044116156948497 s ((s.record { code := Code.THERM_SENSOR_FAILED, cls := 1, lk := 8, l0 := i }).raiseIrq 2 3) :=
    only_raiseIrq _ _ rfl (only_record _ rfl (only_refl _ _))
  have hraw : ((s.record { code := Code.THERM_SENSOR_FAILED, cls := 1, lk := 8, l0 := i }).raiseIrq 2 3).fld 0x2010 3 3 = 1 := raiseIrq_sets _ 2 (by decide)
  unfold State.failureKept
  generalize (s.record { code := Code.THERM_SENSOR_FAILED, cls := 1, lk := 8, l0 := i }).raiseIrq 2 3 = u at hnote hraw
  refine ⟨only_showCeil rfl (only_checkPair _ rfl (only_ite (only_beginHold _ rfl hnote) hnote)), ?_⟩
  refine rawKept_showCeil (rawKept_checkPair c) 2 3 (by decide) ?_
  split
  · exact rawKept_regs (regsOff_beginHold c (regsOff_refl _ _)) (by decide) (rawKept_refl u) 2 3 (by decide) hraw
  · exact hraw

theorem class_head {i : Nat} (hlo : 64 ≤ i) (hhi : i < 128) : s.sensorClass i = 1 := by
  unfold State.sensorClass
  rw [if_neg (by omega), if_neg (by omega), if_pos hhi]

theorem sensor_fails : ∀ (i : Nat) (s : State), s.booted = true → s.power ≠ .night → s.sensorClass i ≤ 2 → (s.sensor i).failed = false →
      (if 48 ≤ i ∧ i < 128 then 3 else 1) ≤ (s.sensor i).bad → s.headAbsent = false ∨ s.sensorClass i ≠ 1 ∨ 128 ≤ i →
      ∃ t, exec (.thermSensorFailed i) s = .next t ∧ t.sensor i = { s.sensor i with failed := true, acked := false, good := 0 } ∧
        t.fld 0x2010 3 3 = 1 ∧ ∀ k, k ≠ i → t.sensor k = s.sensor k := by
  intro i s hbooted hpower hclass hsound hdue hthere
  obtain ⟨hold, hexec⟩ := exec_sensorFailed hbooted hpower hclass hsound hdue (fun ⟨hlo, hhi, hgone⟩ => by
    rcases hthere with h | h | h
    · exact absurd (h.symm.trans hgone) (by decide)
    · exact h (class_head hlo hhi)
    · omega)
  obtain ⟨hrest, hraw⟩ := failureKept_rest (s := s.setSensor i { s.sensor i with failed := true, acked := false, good := 0 }) i hold (s.sensorClass i)
  refine ⟨_, hexec, ?_, hraw, fun k hk => ?_⟩
  · rw [sensor_congr (hrest.sensors rfl), sensor_setSensor, if_pos rfl]
  · rw [sensor_congr (hrest.sensors rfl), sensor_setSensor, if_neg (Ne.symm hk)]

theorem sensor_recovers : ∀ (i : Nat) (s : State), s.booted = true → s.power ≠ .night → (s.sensor i).failed = true → 8 ≤ (s.sensor i).good →
      ∃ t, exec (.thermSensorRecovered i) s = .next t ∧ t.sensor i = { s.sensor i with failed := false, acked := false } ∧
        ∀ k, k ≠ i → t.sensor k = s.sensor k := by
  intro i s hbooted hpower hfailed hgood
  have hrest : Only 117598044116156948497 (s.setSensor i { s.sensor i with failed := false, acked := false })
      (((s.setSensor i { s.sensor i with failed := false, acked := false }).endHold (s.sensorClass i)).checkPair (s.sensorClass i)).showCeil :=
    only_showCeil rfl (only_checkPair _ rfl (only_endHold _ rfl (only_refl _ _)))
  refine ⟨_, (if_neg ?_ : execThermSensorRecovered i s = _), ?_, fun k hk => ?_⟩
  · rw [alive_up hbooted hpower, hfailed]
    rintro (h | h | h)
    · exact absurd h (by decide)
    · exact absurd h (by decide)
    · omega
  · rw [sensor_congr (hrest.sensors rfl), sensor_setSensor, if_pos rfl]
  · rw [sensor_congr (hrest.sensors rfl), sensor_setSensor, if_neg (Ne.symm hk)]

/-- An acknowledgement of a failed sensor by the Operator or the Owner that finds room in the pool (R523). -/
theorem ack_accepted {o : Origin} {v : Nat} (ho : o = .operator ∨ o = .owner) (hfull : s.auditFull = false) (hfailed : (s.sensor (fieldOf v 7 0)).failed = true) :
    s.ack o v = ((s.commit 1 o R.THERM_ACK 0 (fieldOf v 7 0) []).setSensor (fieldOf v 7 0) { s.sensor (fieldOf v 7 0) with acked := true }).endHold
      (s.sensorClass (fieldOf v 7 0)) := by
  unfold State.ack
  dsimp only
  rw [if_neg (by rcases ho with rfl | rfl <;> decide), if_neg (by rw [hfailed]; decide), if_neg (by rw [hfull]; decide)]

theorem ack_refused {o : Origin} {v : Nat} (ho : o = .operator ∨ o = .owner) (hsound : (s.sensor (fieldOf v 7 0)).failed = false) :
    s.ack o v = s.refuse o Code.THERM_ACK_NOT_FAILED R.THERM_ACK v := by
  unfold State.ack
  dsimp only
  rw [if_neg (by rcases ho with rfl | rfl <;> decide), if_pos (by rw [hsound]; decide)]

theorem exec_ack {o : Origin} {v : Nat} (hp : s.permit o R.THERM_ACK v = .ok s) :
    ∃ w, Only 4611686018427387904 s w ∧ exec (.thermAck o v) s = .next (w.ack o v) := by
  obtain ⟨x, hact⟩ := act_admitted hp (fun s => s.ack o v)
  exact ⟨{ s with trace := x }, only_put4611686018427387904 rfl (only_refl _ s), congrArg Host.Outcome.next hact⟩

theorem sensor_acknowledged : ∀ (o : Origin) (v : Nat) (s : State), s.permit o R.THERM_ACK v = .ok s → o = .operator ∨ o = .owner → s.auditFull = false →
    ((s.sensor (fieldOf v 7 0)).failed = true →
      ∃ t, exec (.thermAck o v) s = .next t ∧ t.sensor (fieldOf v 7 0) = { s.sensor (fieldOf v 7 0) with acked := true } ∧
        ∃ r, t.audit.pool.head? = some (.record r) ∧ r.kind = 1 ∧ r.addr = R.THERM_ACK ∧ r.new = fieldOf v 7 0 ∧ r.origin = o.code) ∧
    ((s.sensor (fieldOf v 7 0)).failed = false → 256 < s.logFree →
      ∃ t, exec (.thermAck o v) s = .next t ∧ t.sensors = s.sensors ∧ t.audit = s.audit ∧
        t.newest Code.THERM_ACK_NOT_FAILED 7 6 2 (offOf R.THERM_ACK) v) := by
  intro o v s hp ho hfull
  obtain ⟨w, hw, hexec⟩ := exec_ack hp
  have hsensor : w.sensor (fieldOf v 7 0) = s.sensor (fieldOf v 7 0) := sensor_congr (hw.sensors rfl) _
  refine ⟨fun hfailed => ?_, fun hsound hroom => ?_⟩
  · have hfull' : w.auditFull = false := by
      rw [← hfull]
      unfold State.auditFull State.auditFree
      rw [hw.audit rfl]
    rw [ack_accepted ho hfull' (by rw [hsensor]; exact hfailed), hsensor] at hexec
    have hend : Only 35184372088833 ((w.commit 1 o R.THERM_ACK 0 (fieldOf v 7 0) []).setSensor (fieldOf v 7 0) { s.sensor (fieldOf v 7 0) with acked := true })
        (((w.commit 1 o R.THERM_ACK 0 (fieldOf v 7 0) []).setSensor (fieldOf v 7 0) { s.sensor (fieldOf v 7 0) with acked := true }).endHold
          (w.sensorClass (fieldOf v 7 0))) := only_endHold _ rfl (only_refl _ _)
    have hpool := pool_commit 1 o R.THERM_ACK 0 (fieldOf v 7 0) [] (lt_trans (by decide) (auditFree_pos hfull') : 0 < w.auditFree)
    refine ⟨_, hexec, ?_, w.auditRec 1 o R.THERM_ACK 0 (fieldOf v 7 0) [], ?_, rfl, rfl, rfl, rfl⟩
    · rw [sensor_congr (hend.sensors rfl), sensor_setSensor, if_pos rfl]
    · rw [hend.audit rfl]
      exact congrArg List.head? hpool
  · have hroom' : 256 < w.logFree := by
      rw [logFree_congr (hw.log rfl)]
      exact hroom
    rw [ack_refused ho (by rw [hsensor]; exact hsound)] at hexec
    have hnoted : Noted w (w.refuse o Code.THERM_ACK_NOT_FAILED R.THERM_ACK v) ⟨Code.THERM_ACK_NOT_FAILED, 7, o, none, 6, 2, offOf R.THERM_ACK, v, none, none, 0⟩ :=
      noted_record rfl hroom'
    exact ⟨_, hexec, (hnoted.only.sensors rfl).trans (hw.sensors rfl), (hnoted.only.audit rfl).trans (hw.audit rfl), hnoted.newest⟩

/-- Settles O47: a sample is each sensor's own; a rise, a fall, a failure, a recovery and an acknowledgement each change their class or sensor, and what
ends them keeps it. -/
theorem heatLevels : Obligations.HeatLevels := by
  unfold Obligations.HeatLevels
  exact ⟨heat_sampled, heat_rises, heat_falls, fun i s hbooted hpower => ⟨sensor_fails i s hbooted hpower, sensor_recovers i s hbooted hpower⟩, sensor_acknowledged⟩

end Sys2Proof.Machine
end

section
/-! SUPPORT. Keep records, the stage, and what the planner leaves of the ageing history (O51, O52). -/

namespace Sys2Proof.Machine

variable {s : State}

/-! ### An admitted write -/

/-- An admitted write takes effect on the state with a trace record. -/
theorem act_effect {o : Origin} {a v : Nat} (hp : s.permit o a v = .ok s) (effect : State → State) :
    ∃ w, Only 4611686018427387904 s w ∧ s.act o a v effect = effect w := by
  obtain ⟨x, hact⟩ := act_admitted hp effect
  exact ⟨{ s with trace := x }, only_put4611686018427387904 rfl (only_refl _ s), hact⟩

theorem auditFull_congr {t : State} (h : t.audit = s.audit) : t.auditFull = s.auditFull := by
  unfold State.auditFull State.auditFree
  rw [h]

/-! ### Records -/

/-- The record that a write of a type and INSTANCE leaves (R540). -/
def State.newRec (s : State) (typ inst : Nat) (payload : List Byte) (bad : Nat) : KeepRec :=
  { typ, inst, gen := ((s.keep.find? (fun r => r.typ = typ ∧ r.inst = inst)).map (·.gen)).getD 0 + 1, written := s.clock.sec % 2 ^ 32, payload,
    ok1 := bad = 0, off := ((s.keep.find? (fun r => r.typ = typ ∧ r.inst = inst)).map (·.off)).getD s.keepEnd }

theorem newRec_verified (typ inst : Nat) (payload : List Byte) : (s.newRec typ inst payload 0).ok1 = true := by
  unfold State.newRec
  rfl

theorem newRec_payload (typ inst : Nat) (payload : List Byte) (bad : Nat) : (s.newRec typ inst payload bad).payload = payload := by
  unfold State.newRec
  rfl

/-- The keep with a record written. -/
def State.keepPut (s : State) (r : KeepRec) : State := { s with keep := r :: s.keep.filter (fun k => ¬ (k.typ = r.typ ∧ k.inst = r.inst)) }

/-- A record written with its own audit record (R576). -/
def State.keepStored (s : State) (o : Origin) (typ inst : Nat) (payload : List Byte) (bad : Nat) : State :=
  (s.keepPut (s.newRec typ inst payload bad)).commit 0x0050 o 0 0 0 [typ, inst, (s.newRec typ inst payload bad).gen, crcC payload]

theorem storeKeep_eq (o : Origin) (typ inst : Nat) (payload : List Byte) (bad : Nat) :
    s.storeKeep o typ inst payload bad = ((if (s.keep.find? (fun r => r.typ = typ ∧ r.inst = inst)).isNone
      then (s.keepStored o typ inst payload bad).listKeep.auditDir (s.bell 7) else s.keepStored o typ inst payload bad).keepWaits typ inst
        (s.keep.find? (fun r => r.typ = typ ∧ r.inst = inst))).encNow typ inst payload := rfl

/-- A write puts its record at the head of the keep and removes the one that it replaces (R540). -/
theorem keep_storeKeep (o : Origin) (typ inst : Nat) (payload : List Byte) (bad : Nat) :
    (s.storeKeep o typ inst payload bad).keep = s.newRec typ inst payload bad :: s.keep.filter (fun k => ¬ (k.typ = typ ∧ k.inst = inst)) := by
  have hrest : Only 54610543528378401 (s.keepPut (s.newRec typ inst payload bad)) (s.storeKeep o typ inst payload bad) := by
    have hstored : Only 54610543528378401 (s.keepPut (s.newRec typ inst payload bad)) (s.keepStored o typ inst payload bad) :=
      only_commit _ _ _ _ _ _ rfl (only_refl _ _)
    rw [storeKeep_eq]
    exact only_encNow _ _ _ rfl (only_keepWaits _ _ _ rfl (only_ite (only_auditDir _ rfl (only_listKeep rfl hstored)) hstored))
  exact (hrest.keep rfl).trans rfl

theorem keepPut_room (r : KeepRec) : (s.keepPut r).auditFree = s.auditFree := rfl

/-- A commit keeps what the pool holds. -/
theorem mem_pool_commit {x : AuditSlot} (kind : Nat) (o : Origin) (addr old new : Nat) (detail : List Nat) (h : x ∈ s.audit.pool) :
    x ∈ (s.commit kind o addr old new detail).audit.pool := by
  by_cases hroom : 0 < s.auditFree
  · rw [pool_commit _ _ _ _ _ _ hroom]
    exact List.mem_cons_of_mem _ h
  · unfold State.commit
    rw [if_pos (Nat.eq_zero_of_not_pos hroom)]
    exact h

/-- With room in the pool a write's audit record is entered with the next sequence number (R576). -/
theorem audited_storeKeep (o : Origin) (typ inst : Nat) (payload : List Byte) (bad : Nat) (hroom : 0 < s.auditFree) :
    ∃ r, AuditSlot.record r ∈ (s.storeKeep o typ inst payload bad).audit.pool ∧ r.kind = 0x50 ∧ r.origin = o.code ∧ r.seq = s.audit.nextSeq := by
  have hput : 0 < (s.keepPut (s.newRec typ inst payload bad)).auditFree := hroom
  have hpool := pool_commit 0x0050 o 0 0 0 [typ, inst, (s.newRec typ inst payload bad).gen, crcC payload] hput
  refine ⟨(s.keepPut (s.newRec typ inst payload bad)).auditRec 0x0050 o 0 0 0 [typ, inst, (s.newRec typ inst payload bad).gen, crcC payload], ?_, rfl, rfl, rfl⟩
  generalize (s.keepPut (s.newRec typ inst payload bad)).auditRec 0x0050 o 0 0 0 [typ, inst, (s.newRec typ inst payload bad).gen, crcC payload] = r at hpool ⊢
  have hmem : AuditSlot.record r ∈ (s.keepStored o typ inst payload bad).audit.pool := by
    unfold State.keepStored
    rw [hpool]
    exact List.mem_cons_self
  have hlist : Only 562949953421312 (s.keepStored o typ inst payload bad) (s.keepStored o typ inst payload bad).listKeep := only_listKeep rfl (only_refl _ _)
  rw [storeKeep_eq]
  generalize s.keepStored o typ inst payload bad = u at hmem hlist
  have hwaits : ∀ v : State, Only 54047593574957056 v ((v.keepWaits typ inst (s.keep.find? (fun r => r.typ = typ ∧ r.inst = inst))).encNow typ inst payload) :=
    fun v => only_encNow _ _ _ rfl (only_keepWaits _ _ _ rfl (only_refl _ v))
  rw [(hwaits _).audit rfl]
  split
  · exact mem_pool_commit _ _ _ _ _ _ (mem_pool_commit _ _ _ _ _ _ (by rw [hlist.audit rfl]; exact hmem))
  · exact hmem

/-! ### The stage -/

theorem stageBytes_congr {t : State} (h : t.regs = s.regs) : t.stageBytes = s.stageBytes := by
  unfold State.stageBytes State.rd
  rw [h]

theorem keepFind_congr {t : State} (hbells : t.bells = s.bells) (hkeep : t.keep = s.keep) (typ inst : Nat) : t.keepFind typ inst = s.keepFind typ inst := by
  unfold State.keepFind State.dirBytes State.bell
  rw [hbells, hkeep]

/-- The stage filled with bytes (R541). -/
def State.stagePut (s : State) (b : List Byte) : State := (List.range 512).foldl (fun s i => s.wr (0x6800 + 4 * i) (leAt b (4 * i) 4)) s

theorem only_stagePut (b : List Byte) : Only 1 s (s.stagePut b) := only_foldl (fun _ _ h => only_wr _ _ rfl h) _ (only_refl _ s)

theorem rd_stagePut (b : List Byte) {i : Nat} (hi : i < 512) : (s.stagePut b).rd (0x6800 + 4 * i) = leAt b (4 * i) 4 % 2 ^ 32 := by
  have hword : ∀ (u : State) (x : Nat), (u.wr (0x6800 + 4 * x) (leAt b (4 * x) 4)).rd (0x6800 + 4 * i) =
      if x = i then leAt b (4 * i) 4 % 2 ^ 32 else u.rd (0x6800 + 4 * i) := fun u x => by
    rw [rd_wr]
    by_cases hx : x = i
    · rw [if_pos (by rw [hx]), if_pos hx, hx]
    · rw [if_neg (by omega), if_neg hx]
  refine foldl_reaches (f := fun s i => s.wr (0x6800 + 4 * i) (leAt b (4 * i) 4)) (P := fun _ => True)
    (Q := fun u => u.rd (0x6800 + 4 * i) = leAt b (4 * i) 4 % 2 ^ 32) (j := i) (fun u _ => ?_) (fun _ _ _ _ => trivial) (fun u x _ hu => ?_)
    (List.mem_range.mpr hi) trivial
  · exact (hword u i).trans (if_pos rfl)
  · show (u.wr (0x6800 + 4 * x) (leAt b (4 * x) 4)).rd (0x6800 + 4 * i) = leAt b (4 * i) 4 % 2 ^ 32
    rw [hword]
    split
    · rfl
    · exact hu

theorem keepRead_some {r : KeepRec} (h : s.keepFind (s.rd R.KEEP_SEL % 65536) (s.rd R.KEEP_SEL / 65536) = some r) :
    s.keepRead = (s.stagePut r.bytes).keepState 0 := by
  unfold State.keepRead
  dsimp only
  rw [h]
  rfl

theorem keepRead_none (h : s.keepFind (s.rd R.KEEP_SEL % 65536) (s.rd R.KEEP_SEL / 65536) = none) :
    s.keepRead = s.keepState Code.KEEP_RECORD_LOST := by
  unfold State.keepRead
  dsimp only
  rw [h]

theorem rd_keepState {code : Nat} (h : code < 2 ^ 16) : (s.keepState code).rd R.KEEP_CMD_STATE = code * 2 ^ 16 + if code = 0 then 2 else 3 :=
  rd_wr_same _ _ (by split <;> omega)

theorem rd_keepState_other {code : Nat} {a : RegAddr} (h : R.KEEP_CMD_STATE ≠ a) : (s.keepState code).rd a = s.rd a := rd_wr_other _ h

/-! ### Checks -/

/-- A record with both copies good and none ahead passes its check and nothing changes (R537). -/
theorem checkRecord_sound {r : KeepRec} (hmem : r ∈ s.keep) (hsound : r.ok0 = true ∧ r.ok1 = true ∧ r.ahead = none)
    (hdistinct : s.keep.Pairwise (fun a b => ¬ (a.typ = b.typ ∧ a.inst = b.inst))) : s.checkRecord [] r = s := by
  obtain ⟨hzero, hone, hahead⟩ := hsound
  have hlost : r.lost = false := by
    unfold KeepRec.lost
    rw [hzero]
    rfl
  have hsame : s.keep.map (fun k => if k.typ = r.typ ∧ k.inst = r.inst then r else k) = s.keep := by
    refine (List.map_congr_left fun k hk => ?_).trans (List.map_id _)
    by_cases hkey : k.typ = r.typ ∧ k.inst = r.inst
    · have hsymm : Std.Symm (fun a b : KeepRec => ¬ (a.typ = b.typ ∧ a.inst = b.inst)) := ⟨fun a b h hba => h ⟨hba.1.symm, hba.2.symm⟩⟩
      have hkr : k = r := by
        by_contra hne
        exact hdistinct.forall hk hmem hne hkey
      rw [if_pos hkey, hkr]
      rfl
    · exact if_neg hkey
  have htake : (s.takeAhead r (([] : List (Nat × Nat)).contains (r.typ * 65536 + r.inst, 0) || !r.ok0)).1 = s := by
    unfold State.takeAhead
    rw [hahead]
    show { s with keep := s.keep.map (fun k => if k.typ = r.typ ∧ k.inst = r.inst then r else k) } = s
    rw [hsame]
  unfold State.checkRecord
  dsimp only
  rw [htake, hlost, hzero, hone]
  rfl

theorem checkKeep_sound (hsound : ∀ r ∈ s.keep, r.ok0 = true ∧ r.ok1 = true ∧ r.ahead = none)
    (hdistinct : s.keep.Pairwise (fun a b => ¬ (a.typ = b.typ ∧ a.inst = b.inst))) : s.checkKeep [] = s.keepNow := by
  have hall : s.keep.foldl (fun s r => s.checkRecord [] r) s = s :=
    List.foldlRecOn (motive := fun u => u = s) s.keep _ rfl (fun u hu r hr => by rw [hu]; exact checkRecord_sound hr (hsound r hr) hdistinct)
  have hnone : ¬ (([] : List (Nat × Nat)).contains (0x10000, 0) = true ∧ ([] : List (Nat × Nat)).contains (0x10000, 1) = true) := by simp
  have hneither : ¬ (([] : List (Nat × Nat)).contains (0x10000, 0) = true ∨ ([] : List (Nat × Nat)).contains (0x10000, 1) = true) := by simp
  unfold State.checkKeep
  dsimp only
  rw [if_neg hnone, if_neg hneither, hall]

end Sys2Proof.Machine
end

section
/-! PROOFS. The keep (O51). -/

namespace Sys2Proof.Machine

variable {s : State}

/-! ### Staged writes -/

/-- What follows a staged write's record: what comes into force, and the strobe delays with their band (R542, R543). -/
def State.keepTaken (s : State) (u : State) : State :=
  if (s.rd R.KEEP_SEL % 65536 = 0x13) ∧ !s.stripesHeld ∧ s.rd R.KEEP_SEL / 65536 = s.fld R.THERM_BAND 1 0 then u.keepNow.loadStrobes else u.keepNow

theorem keepWrite_good {o : Origin} (hfull : s.auditFull = false) (hrole : keepWriter o (s.rd R.KEEP_SEL % 65536) = true)
    (hform : s.stageOk s.stageBytes = true) :
    s.keepWrite o 0 = (s.keepTaken (s.storeKeep o (s.rd R.KEEP_SEL % 65536) (s.rd R.KEEP_SEL / 65536)
      ((s.stageBytes.drop 16).take (keepLen (s.rd R.KEEP_SEL % 65536))) 0)).keepState 0 := by
  unfold State.keepWrite
  dsimp only
  rw [if_neg (by rw [hfull]; simp), if_neg (by rw [hrole]; decide), if_neg (by rw [hform]; decide), if_neg (by decide), if_pos rfl]
  rfl

theorem keepWrite_denied {o : Origin} (hfull : s.auditFull = false) (hrole : keepWriter o (s.rd R.KEEP_SEL % 65536) = false) :
    s.keepWrite o 0 = s.keepRefuse o Code.KEEP_DENIED := by
  unfold State.keepWrite
  dsimp only
  rw [if_neg (by rw [hfull]; simp), if_pos (by rw [hrole]; decide)]

theorem only_keepTaken (u : State) : Only 342559444703379457 u (s.keepTaken u) := by
  unfold State.keepTaken
  exact only_ite (only_loadStrobes rfl (only_keepNow rfl (only_refl _ u))) (only_keepNow rfl (only_refl _ u))

theorem keep_written {o : Origin} (hp : s.permit o R.KEEP_CMD 2 = .ok s) (hfull : s.auditFull = false)
    (hrole : keepWriter o (s.rd R.KEEP_SEL % 65536) = true) (hform : s.stageOk s.stageBytes = true) :
    ∃ t, exec (.keepWrite o 0) s = .next t ∧ t.rd R.KEEP_CMD_STATE = 2 ∧
      (∃ r, t.keep.head? = some r ∧ r.typ = s.rd R.KEEP_SEL % 65536 ∧ r.inst = s.rd R.KEEP_SEL / 65536 ∧
        r.payload = (s.stageBytes.drop 16).take (keepLen (s.rd R.KEEP_SEL % 65536)) ∧ r.ok0 = true ∧ r.ok1 = true ∧
        r.gen = ((s.keep.find? (fun k => k.typ = s.rd R.KEEP_SEL % 65536 ∧ k.inst = s.rd R.KEEP_SEL / 65536)).map (·.gen)).getD 0 + 1) ∧
      (∀ k : KeepRec, k.typ ≠ s.rd R.KEEP_SEL % 65536 ∨ k.inst ≠ s.rd R.KEEP_SEL / 65536 → (k ∈ t.keep ↔ k ∈ s.keep)) ∧
      ∃ r, AuditSlot.record r ∈ t.audit.pool ∧ r.kind = 0x50 ∧ r.origin = o.code ∧ r.seq = s.audit.nextSeq := by
  obtain ⟨w, hw, hact⟩ := act_effect hp (fun s => s.keepWrite o 0)
  have hsel : w.rd R.KEEP_SEL = s.rd R.KEEP_SEL := rd_congr (hw.regs rfl) _
  have hstage := stageBytes_congr (hw.regs rfl)
  have hform' : w.stageOk w.stageBytes = true := by
    unfold State.stageOk at hform ⊢
    rw [hstage, hsel]
    exact hform
  have hfull' : w.auditFull = false := (auditFull_congr (hw.audit rfl)).trans hfull
  have hwrite := keepWrite_good hfull' (by rw [hsel]; exact hrole) hform'
  rw [hsel, hstage] at hwrite
  have hroom : 0 < w.auditFree := lt_trans (by decide) (auditFree_pos hfull')
  have hkeep := keep_storeKeep (s := w) o (s.rd R.KEEP_SEL % 65536) (s.rd R.KEEP_SEL / 65536)
    ((s.stageBytes.drop 16).take (keepLen (s.rd R.KEEP_SEL % 65536))) 0
  obtain ⟨r, hr, hkind, horigin, hseq⟩ := audited_storeKeep (s := w) o (s.rd R.KEEP_SEL % 65536) (s.rd R.KEEP_SEL / 65536)
    ((s.stageBytes.drop 16).take (keepLen (s.rd R.KEEP_SEL % 65536))) 0 hroom
  have hrest : Only 342559444703379457 (w.storeKeep o (s.rd R.KEEP_SEL % 65536) (s.rd R.KEEP_SEL / 65536)
      ((s.stageBytes.drop 16).take (keepLen (s.rd R.KEEP_SEL % 65536))) 0) _ := only_keepState 0 rfl (only_keepTaken (s := w) _)
  refine ⟨_, congrArg Host.Outcome.next (hact.trans hwrite), rd_keepState (by decide), ?_, fun k hk => ?_, r, ?_, hkind, horigin, ?_⟩
  · refine ⟨w.newRec (s.rd R.KEEP_SEL % 65536) (s.rd R.KEEP_SEL / 65536) ((s.stageBytes.drop 16).take (keepLen (s.rd R.KEEP_SEL % 65536))) 0, ?_, rfl, rfl,
      rfl, rfl, newRec_verified _ _ _, ?_⟩
    · rw [hrest.keep rfl, hkeep]
      rfl
    · unfold State.newRec
      rw [hw.keep rfl]
  · rw [hrest.keep rfl, hkeep, hw.keep rfl, List.mem_cons, List.mem_filter]
    refine ⟨fun h => ?_, fun h => .inr ⟨h, decide_eq_true fun hkey => hk.elim (fun h => h hkey.1) (fun h => h hkey.2)⟩⟩
    rcases h with hnew | ⟨hold, -⟩
    · rw [hnew] at hk
      exact absurd hk (by simp [State.newRec])
    · exact hold
  · rw [hrest.audit rfl]
    exact hr
  · rw [hseq, hw.audit rfl]

theorem keep_denied {o : Origin} (hp : s.permit o R.KEEP_CMD 2 = .ok s) (hfull : s.auditFull = false)
    (hrole : keepWriter o (s.rd R.KEEP_SEL % 65536) = false) (hroom : 256 < s.logFree) :
    ∃ t, exec (.keepWrite o 0) s = .next t ∧ t.keep = s.keep ∧ t.rd R.KEEP_CMD_STATE = Code.KEEP_DENIED * 2 ^ 16 + 3 ∧
      t.newest Code.KEEP_DENIED 7 6 6 (offOf R.KEEP_CMD) 2 := by
  obtain ⟨w, hw, hact⟩ := act_effect hp (fun s => s.keepWrite o 0)
  have hwrite := keepWrite_denied (o := o) ((auditFull_congr (hw.audit rfl)).trans hfull) (by rw [rd_congr (hw.regs rfl)]; exact hrole)
  have hnoted : Noted w (w.refuse o Code.KEEP_DENIED R.KEEP_CMD 2) ⟨Code.KEEP_DENIED, 7, o, none, 6, 6, offOf R.KEEP_CMD, 2, none, none, 0⟩ :=
    noted_record rfl (by rw [logFree_congr (hw.log rfl)]; exact hroom)
  unfold State.keepRefuse at hwrite
  generalize w.refuse o Code.KEEP_DENIED R.KEEP_CMD 2 = u at hwrite hnoted
  have hstate : Only 1 u (u.keepState Code.KEEP_DENIED) := only_keepState _ rfl (only_refl _ u)
  refine ⟨_, congrArg Host.Outcome.next (hact.trans hwrite), ?_, rd_keepState (by decide), ?_⟩
  · rw [hstate.keep rfl, hnoted.only.keep rfl, hw.keep rfl]
  · have hnew := hnoted.newest
    unfold State.newest at hnew ⊢
    rw [hstate.log rfl]
    exact hnew

/-! ### Reads and checks -/

theorem keep_read : ∀ (o : Origin) (r : KeepRec) (s : State), s.permit o R.KEEP_CMD 1 = .ok s →
    (s.keepFind (s.rd R.KEEP_SEL % 65536) (s.rd R.KEEP_SEL / 65536) = some r →
      ∃ t, exec (.keepRead o) s = .next t ∧ t = { s with regs := t.regs, trace := t.trace } ∧ t.rd R.KEEP_CMD_STATE = 2 ∧
        ∀ i, i < 512 → t.rd (0x6800 + 4 * i) = leAt r.bytes (4 * i) 4 % 2 ^ 32) ∧
    (s.keepFind (s.rd R.KEEP_SEL % 65536) (s.rd R.KEEP_SEL / 65536) = none →
      ∃ t, exec (.keepRead o) s = .next t ∧ t.rd R.KEEP_CMD_STATE = Code.KEEP_RECORD_LOST * 2 ^ 16 + 3 ∧ s.regsBut t [R.KEEP_CMD_STATE]) := by
  intro o r s hp
  obtain ⟨w, hw, hact⟩ := act_effect hp State.keepRead
  have hfind : w.keepFind (w.rd R.KEEP_SEL % 65536) (w.rd R.KEEP_SEL / 65536) = s.keepFind (s.rd R.KEEP_SEL % 65536) (s.rd R.KEEP_SEL / 65536) := by
    rw [rd_congr (hw.regs rfl), keepFind_congr (hw.bells rfl) (hw.keep rfl)]
  refine ⟨fun hr => ?_, fun hnone => ?_⟩
  · have hall : Only 4611686018427387905 s ((w.stagePut r.bytes).keepState 0) :=
      only_keepState 0 rfl (only_trans (only_mono rfl hw) (only_mono rfl (only_stagePut r.bytes)))
    refine ⟨_, congrArg Host.Outcome.next (hact.trans (keepRead_some (hfind.trans hr))), hall.eq_takes, rd_keepState (by decide), fun i hi => ?_⟩
    have hfar : R.KEEP_CMD_STATE ≠ 0x6800 + 4 * i := Nat.ne_of_lt (lt_of_lt_of_le (by decide) (Nat.le_add_right 0x6800 _))
    rw [rd_keepState_other hfar, rd_stagePut _ hi]
  · refine ⟨_, congrArg Host.Outcome.next (hact.trans (keepRead_none (hfind.trans hnone))), rd_keepState (by decide), fun a ha => ?_⟩
    rw [rd_keepState_other (fun h => ha (List.mem_singleton.mpr h.symm)), rd_congr (hw.regs rfl)]

theorem exec_dailyCheck (bad : List (Nat × Nat)) (hpower : s.power ≠ .night) (hbooted : s.booted = true) (hfatal : s.fatal = 0) :
    exec (.keepDailyCheck bad) s = .next (s.checkKeep bad) :=
  (if_neg (by simp [hpower, hbooted, hfatal]) : execKeepDailyCheck bad s = _)

/-- Settles O51: a staged write is its checks and one record; a read is the stage filled; sound records leave a check nothing to do. -/
theorem keepHolds : Obligations.KeepHolds := by
  unfold Obligations.KeepHolds
  refine ⟨fun o s hp hfull => ⟨keep_written hp hfull, keep_denied hp hfull⟩, keep_read, fun s _ hpower hbooted hfatal => ⟨fun hsound hdistinct => ?_, fun bad hzero hone => ?_⟩⟩
  · have hnow : Only 342559444703379457 s s.keepNow := only_keepNow rfl (only_refl _ s)
    exact ⟨s.keepNow, (exec_dailyCheck [] hpower hbooted hfatal).trans (congrArg _ (checkKeep_sound hsound hdistinct)), hnow.keep rfl, hnow.log rfl, hnow.audit rfl⟩
  · have hlost : s.checkKeep bad = s.deviceFatal { code := Code.KEEP_RECORD_LOST, cls := 4, lk := 8, l0 := 1 } :=
      if_pos ⟨List.contains_iff_mem.mpr hzero, List.contains_iff_mem.mpr hone⟩
    exact ⟨_, (exec_dailyCheck bad hpower hbooted hfatal).trans (congrArg _ hlost), deadBy_deviceFatal hfatal _ (by decide) (by decide)⟩

end Sys2Proof.Machine
end

section
/-! PROOFS. Ageing and the core voltage (O52). -/

namespace Sys2Proof.Machine

variable {s : State}

/-! ### What a step leaves of the hour's monitors and the trend -/

/-- The hour, its monitors and the trend stand as they were (R547). -/
def HourKept (s t : State) : Prop :=
  t.age.hours = s.age.hours ∧ t.age.pathHour = s.age.pathHour ∧ t.age.residHour = s.age.residHour ∧ t.age.trend = s.age.trend

theorem hourKept_refl (s : State) : HourKept s s := ⟨rfl, rfl, rfl, rfl⟩

theorem HourKept.trans {t u : State} (h : HourKept s t) (h' : HourKept t u) : HourKept s u := by
  obtain ⟨hhours, hpath, hresid, htrend⟩ := h
  obtain ⟨hhours', hpath', hresid', htrend'⟩ := h'
  exact ⟨hhours'.trans hhours, hpath'.trans hpath, hresid'.trans hresid, htrend'.trans htrend⟩

theorem hourKept_of_age {t : State} (h : t.age = s.age) : HourKept s t := by
  unfold HourKept
  rw [h]
  exact ⟨rfl, rfl, rfl, rfl⟩

theorem age_saveAgeing : s.saveAgeing.age = s.age := (only_saveAgeing (mm := 135675336821047329) rfl (only_refl _ s)).age rfl

/-- What comes into force at a boundary leaves the hour, and the defaults where they stand already (R539, R542). -/
theorem keepBoundary_age : ∃ a, (a = s.age ∨ a = s.age.safe) ∧
    s.keepBoundary.age = { a with refreshIn := a.refreshFloor, hystIn := a.hystFloor, voltDue := a.voltPending } := by
  unfold State.keepBoundary
  extract_lets s1 s2 moved s3 s4 s5 a
  have hone : s1.age = s.age ∨ s1.age = s.age.safe := by
    unfold s1
    split
    · exact .inr rfl
    · exact .inl rfl
  have htwo : Only 281474976710656 s1 s2 := only_ite (only_put281474976710656 rfl (only_refl _ _)) (only_refl _ _)
  have hthree : Only 281474976710657 s1 s3 := only_setFld _ _ _ _ rfl (only_mono rfl htwo)
  have hfour : Only 281474976710657 s1 s4 := only_ite (only_loadStrobes rfl hthree) hthree
  have hfive : Only 285873023221761 s1 s5 := only_foldl (fun _ ch h => only_loadEnc ch rfl h) _ (only_mono rfl hfour)
  have hage : s5.age = s1.age := hfive.age rfl
  refine ⟨s1.age, hone, ?_⟩
  rw [(only_showAge (mm := 1) rfl (only_refl _ _)).age rfl]
  unfold a
  rw [hage]

theorem keepNow_age : s.keepNow.age = s.age ∨ ∃ a, (a = s.age ∨ a = s.age.safe) ∧
    s.keepNow.age = { a with refreshIn := a.refreshFloor, hystIn := a.hystFloor, voltDue := a.voltPending } := by
  unfold State.keepNow
  split
  · exact .inl rfl
  · exact .inr keepBoundary_age

theorem hourKept_keepNow : HourKept s s.keepNow := by
  unfold HourKept
  rcases keepNow_age (s := s) with h | ⟨a, hsame | hsafe, h⟩
  · rw [h]
    exact ⟨rfl, rfl, rfl, rfl⟩
  · rw [h, hsame]
    exact ⟨rfl, rfl, rfl, rfl⟩
  · rw [h, hsafe]
    exact ⟨rfl, rfl, rfl, rfl⟩

/-! ### The planner's hour -/

/-- The planner's action leaves the hour where its own change does (R548). -/
theorem hourKept_plan (bit shift code item : Nat) (limit : Bool) {act : State → State} (hact : HourKept s (act s)) :
    HourKept s (s.plan bit shift code item limit act) := by
  have hrecord : ∀ (u : State) (a : RecArg), (u.record a).age = u.age := fun u a => (only_record (mm := 117598008931784859665) a rfl (only_refl _ u)).age rfl
  unfold State.plan
  split
  · exact hourKept_of_age (hrecord _ _)
  · split
    · split
      · split
        · exact hourKept_refl s
        · unfold HourKept
          rw [hrecord]
          exact ⟨rfl, rfl, rfl, rfl⟩
      · unfold HourKept
        rw [hrecord]
        exact ⟨rfl, rfl, rfl, rfl⟩
    · split
      · exact hourKept_refl s
      · refine hact.trans (hourKept_of_age ?_)
        dsimp only
        rw [hrecord, (only_bump (mm := 1) _ _ _ _ rfl (only_refl _ _)).age rfl, (only_commit (mm := 562949953421345) _ _ _ _ _ _ rfl (only_refl _ _)).age rfl,
          age_saveAgeing]

theorem hourKept_planVolt (least : Nat) : HourKept s (s.planVolt least) := by
  unfold State.planVolt
  split
  · exact hourKept_refl s
  · exact hourKept_plan _ _ _ _ _ ⟨rfl, rfl, rfl, rfl⟩

theorem hourKept_planLane (eyes : List (Nat × Nat × Nat)) : HourKept s (s.planLane eyes) := by
  unfold State.planLane
  dsimp only
  split
  · exact hourKept_refl s
  · split
    · exact hourKept_plan _ _ _ _ _ (hourKept_refl s)
    · exact hourKept_plan _ _ _ _ _ ⟨rfl, rfl, rfl, rfl⟩

theorem hourKept_planRefresh : HourKept s s.planRefresh := by
  unfold State.planRefresh
  split
  · exact hourKept_refl s
  · exact hourKept_plan _ _ _ _ _ ⟨rfl, rfl, rfl, rfl⟩

theorem hourKept_planGuard (resid : List Nat) : HourKept s (s.planGuard resid) := by
  unfold State.planGuard
  split
  · exact hourKept_refl s
  · exact hourKept_plan _ _ _ _ _ ⟨rfl, rfl, rfl, rfl⟩

theorem takeHour_taken (path : List Nat) (eyes : List (Nat × Nat × Nat)) (resid : List Nat) :
    (s.takeHour path eyes resid).age.hours = s.age.hours + 1 ∧ (s.takeHour path eyes resid).age.pathHour = path ∧
      (s.takeHour path eyes resid).age.residHour = resid ∧ (s.takeHour path eyes resid).age.trend = s.age.trend := by
  have hgain : ∀ (u : State) (v : Nat), HourKept u (u.measureGain v) := fun u v => by
    unfold State.measureGain
    split
    · split
      · exact ⟨rfl, rfl, rfl, rfl⟩
      · exact hourKept_refl u
    · exact hourKept_refl u
  unfold State.takeHour
  dsimp only
  split
  · exact ⟨rfl, rfl, rfl, rfl⟩
  · exact hgain _ _

/-- The first trigger, on the least path slack where a monitor has given one. -/
def State.planPath (s : State) (path : List Nat) : State := match leastPath path with | some (v, _) => s.planVolt v | none => s

/-- The triggers in order, where AGE is enabled (R548). -/
def State.planned (s : State) (on : Bool) (path : List Nat) (eyes : List (Nat × Nat × Nat)) (resid : List Nat) : State :=
  if !on then s else ((((s.planPath path).planLane eyes).planRefresh).planGuard resid)

theorem hourKept_planned (on : Bool) (path : List Nat) (eyes : List (Nat × Nat × Nat)) (resid : List Nat) : HourKept s (s.planned on path eyes resid) := by
  have hpath : HourKept s (s.planPath path) := by
    unfold State.planPath
    split
    · exact hourKept_planVolt _
    · exact hourKept_refl s
  unfold State.planned
  split
  · exact hourKept_refl s
  · exact ((hpath.trans (hourKept_planLane eyes)).trans hourKept_planRefresh).trans (hourKept_planGuard resid)

/-- The eyes as the planner keeps them, by lane. -/
def lanesOf (eyes : List (Nat × Nat)) : List (Nat × Nat × Nat) := eyes.zipIdx.map (fun e => (e.2, e.1.1, e.1.2))

theorem exec_plannerHour (path : List Nat) (eyes : List (Nat × Nat)) (resid : List Nat) (hbooted : s.booted = true) (hpower : s.power ≠ .night) (hfatal : s.fatal = 0) :
    exec (.plannerHour path eyes resid) s =
      .next ((s.takeHour path (lanesOf eyes) resid).planned (s.enabled 0x1B) path (lanesOf eyes) resid).saveAgeing.keepNow.showAge := by
  show execPlannerHour path eyes resid s = _
  unfold execPlannerHour
  rw [if_neg (by simp [alive_up hbooted hpower, hfatal])]
  unfold State.planned State.planPath lanesOf
  rfl

theorem planner_hour : ∀ (path : List Nat) (eyes : List (Nat × Nat)) (resid : List Nat) (s : State), s.booted = true → s.power ≠ .night → s.fatal = 0 →
    ∃ t, exec (.plannerHour path eyes resid) s = .next t ∧ t.age.hours = s.age.hours + 1 ∧ t.age.pathHour = path ∧ t.age.residHour = resid ∧
      t.age.trend = s.age.trend := by
  intro path eyes resid s hbooted hpower hfatal
  have hend : ∀ u : State, HourKept u u.saveAgeing.keepNow.showAge := fun u =>
    ((hourKept_of_age age_saveAgeing).trans hourKept_keepNow).trans (hourKept_of_age ((only_showAge (mm := 1) rfl (only_refl _ _)).age rfl))
  obtain ⟨hhours, hpath, hresid, htrend⟩ := takeHour_taken (s := s) path (lanesOf eyes) resid
  obtain ⟨hhours', hpath', hresid', htrend'⟩ := (hourKept_planned (s := s.takeHour path (lanesOf eyes) resid) (s.enabled 0x1B) path (lanesOf eyes) resid).trans (hend _)
  exact ⟨_, exec_plannerHour path eyes resid hbooted hpower hfatal, hhours'.trans hhours, hpath'.trans hpath, hresid'.trans hresid, htrend'.trans htrend⟩

/-! ### The trend -/

theorem exec_trendEntry {tj : Nat} (hbooted : s.booted = true) (hpower : s.power ≠ .night) (hfatal : s.fatal = 0) (hrun : s.age.hours ≠ 0)
    (hdue : s.age.hours % 720 = 0) (hnew : ∀ e ∈ s.age.trend, e.hours ≠ s.age.hours) :
    exec (.trendEntry tj) s = .next (({ s with age := { s.age with trend := (s.trendNow tj :: s.age.trend).take 512, ceEntry := s.rd R.SRAM_CE_COUNT } }.putKeep 0x0031 0
      (trendBytes ((s.trendNow tj :: s.age.trend).take 512))).showMargin) := by
  refine (if_neg ?_ : execTrendEntry tj s = _)
  rw [alive_up hbooted hpower]
  rintro (h | h | h | h | h)
  · exact absurd h (by decide)
  · exact h hfatal
  · exact hrun h
  · exact h hdue
  · obtain ⟨e, he, heq⟩ := List.any_eq_true.mp h
    exact hnew e he (of_decide_eq_true heq)

/-- The trend's record is always written (R540). -/
theorem putKeep_trend (payload : List Byte) : s.putKeep 0x0031 0 payload = s.storeKeep .firmware 0x0031 0 payload 0 :=
  if_neg (fun h => absurd h.2 (by decide))

theorem trend_entered : ∀ (tj : Nat) (s : State), s.booted = true → s.power ≠ .night → s.fatal = 0 → s.age.hours ≠ 0 → s.age.hours % 720 = 0 →
    (∀ e ∈ s.age.trend, e.hours ≠ s.age.hours) →
    ∃ t, exec (.trendEntry tj) s = .next t ∧ t.age.trend = (s.trendNow tj :: s.age.trend).take 512 ∧ t.age.hours = s.age.hours ∧
      ∃ r ∈ t.keep, r.typ = 0x31 ∧ r.inst = 0 ∧ r.payload = trendBytes t.age.trend := by
  intro tj s hbooted hpower hfatal hrun hdue hnew
  have hexec := exec_trendEntry (tj := tj) hbooted hpower hfatal hrun hdue hnew
  generalize (s.trendNow tj :: s.age.trend).take 512 = l at hexec ⊢
  rw [putKeep_trend] at hexec
  have htrend : ({ s with age := { s.age with trend := l, ceEntry := s.rd R.SRAM_CE_COUNT } } : State).age.trend = l := rfl
  have hhours : ({ s with age := { s.age with trend := l, ceEntry := s.rd R.SRAM_CE_COUNT } } : State).age.hours = s.age.hours := rfl
  generalize ({ s with age := { s.age with trend := l, ceEntry := s.rd R.SRAM_CE_COUNT } } : State) = u at hexec htrend hhours
  have hkeep := keep_storeKeep (s := u) .firmware 0x0031 0 (trendBytes l) 0
  have hage := (only_storeKeep (mm := 63617742783119393) .firmware 0x0031 0 (trendBytes l) 0 rfl (only_refl _ u)).age rfl
  have hshow : Only 117598008931784859665 (u.storeKeep .firmware 0x0031 0 (trendBytes l) 0) (u.storeKeep .firmware 0x0031 0 (trendBytes l) 0).showMargin :=
    only_showMargin rfl (only_refl _ _)
  have htrend' := (congrArg Age.trend ((hshow.age rfl).trans hage)).trans htrend
  refine ⟨_, hexec, htrend', (congrArg Age.hours ((hshow.age rfl).trans hage)).trans hhours, u.newRec 0x31 0 (trendBytes l) 0, ?_, rfl, rfl, ?_⟩
  · rw [hshow.keep rfl, hkeep]
    exact List.mem_cons_self
  · rw [htrend', newRec_payload]

/-! ### A fresh history -/

theorem rebased : ∀ (o : Origin) (v : Nat) (s : State), s.permit o R.AGE_REBASE v = .ok s → fieldOf v 0 0 = 1 →
    ∃ t, exec (.rebase o v) s = .next t ∧ t.age.steps = 8 ∧ t.age.refreshFloor = 1 ∧ t.age.hystFloor = 0 ∧ t.age.rateCap = [] ∧ t.age.lanesOut = [] ∧
      t.age.unitsOut = [] ∧ t.age.hours = s.age.hours := by
  intro o v s hp hv
  obtain ⟨w, hw, hact⟩ := act_effect hp (fun s => if fieldOf v 0 0 = 0 then s
    else { s with age := { s.age.safe with stepGain := 0, gainWait := none } }.saveAgeing.keepNow)
  have heffect := hact.trans (if_neg (by rw [hv]; decide))
  have hage : ({ w with age := { w.age.safe with stepGain := 0, gainWait := none } } : State).saveAgeing.age = { w.age.safe with stepGain := 0, gainWait := none } :=
    age_saveAgeing
  have hhours : w.age.hours = s.age.hours := congrArg Age.hours (hw.age rfl)
  generalize ({ w with age := { w.age.safe with stepGain := 0, gainWait := none } } : State).saveAgeing = u at heffect hage
  refine ⟨u.keepNow, congrArg Host.Outcome.next heffect, ?_⟩
  rcases keepNow_age (s := u) with h | ⟨a, rfl | rfl, h⟩
  · rw [h, hage]
    exact ⟨rfl, rfl, rfl, rfl, rfl, rfl, hhours⟩
  · rw [h, hage]
    exact ⟨rfl, rfl, rfl, rfl, rfl, rfl, hhours⟩
  · rw [h, hage]
    exact ⟨rfl, rfl, rfl, rfl, rfl, rfl, hhours⟩

/-! ### The core voltage -/

theorem transfer_due (hbooted : s.booted = true) (hpower : s.power ≠ .night) (hfatal : s.fatal = 0) (hdue : s.age.voltDue ≠ 0) :
    ¬ ((!s.alive) = true ∨ s.fatal ≠ 0 ∨ (s.age.voltDue = 0 ∧ s.phase ≤ 1)) := by
  rw [alive_up hbooted hpower]
  rintro (h | h | h)
  · exact absurd h (by decide)
  · exact h hfatal
  · exact hdue h.1

/-- The registers that show the ageing history, but for VOLT_STEP. -/
def State.showAgeRest (s : State) : State :=
  ((List.range 4).foldl (fun u n => u.wr (R.AGE_RATE_CAP0 + 4 * n)
    ((List.range 16).foldl (fun v i => v + kget (fun _ => 3) s.age.rateCap (16 * n + i) * 2 ^ (2 * i)) 0))
    (((s.wr64 R.LANTERN_LANE_MASK_L (maskBut 64 s.age.lanesOut)).wr64 R.PENUMBRA_UNIT_MASK_L (maskBut 64 (s.age.unitsOut.map (· / 32)))).setFld
      R.PENUMBRA_UNITS_IN 11 0 (2048 - s.age.unitsOut.length))).wr R.AGE_FLOORS (s.age.refreshFloor * 256 + s.age.hystFloor)

theorem showAge_eq : s.showAge = (s.showAgeRest.setFld R.AGE_VOLT_STEP 11 8 s.age.voltPending).setFld R.AGE_VOLT_STEP 3 0 (s.age.steps - s.age.voltPending) := rfl

theorem rd_showAgeRest : s.showAgeRest.rd R.AGE_VOLT_STEP = s.rd R.AGE_VOLT_STEP := by
  unfold State.showAgeRest
  rw [rd_wr_other _ (by decide)]
  refine List.foldlRecOn (motive := fun u : State => u.rd R.AGE_VOLT_STEP = s.rd R.AGE_VOLT_STEP) _ _ ?_ (fun u hu n _ => ?_)
  · rw [rd_setFld_other _ _ _ (by decide)]
    unfold State.wr64
    rw [rd_wr_other _ (by decide), rd_wr_other _ (by decide), rd_wr_other _ (by decide), rd_wr_other _ (by decide)]
  · have hfar : R.AGE_RATE_CAP0 + 4 * n ≠ R.AGE_VOLT_STEP := Nat.ne_of_gt (lt_of_lt_of_le (by decide) (Nat.le_add_right _ _))
    exact (rd_wr_other _ hfar).trans hu

/-- The set point stands beside what shows the steps (R648). -/
theorem volt_showAge : s.showAge.fld R.AGE_VOLT_STEP 31 16 = s.fld R.AGE_VOLT_STEP 31 16 := by
  rw [showAge_eq, fld_setFld_apart _ _ (by decide) (by decide) (by decide), fld_setFld_apart _ _ (by decide) (by decide) (by decide), fld_of_rd rd_showAgeRest]

/-- The history after a transfer that brings a step (R548). -/
def Age.stepped (a : Age) : Age := { a with avsFails := 0, voltDue := a.voltDue - 1, voltPending := a.voltPending - 1 }

theorem exec_transfer_good (hbooted : s.booted = true) (hpower : s.power ≠ .night) (hfatal : s.fatal = 0) (hdue : s.age.voltDue ≠ 0) :
    exec (.avsbusTransferEnd true) s = .next ((({ s with age := s.age.stepped }.setFld R.AGE_VOLT_STEP 31 16 (min 800 (s.fld R.AGE_VOLT_STEP 31 16 + 5))).emit
      (.avsbus (min 800 (s.fld R.AGE_VOLT_STEP 31 16 + 5)))).showAge) := by
  show execAvsbusTransferEnd true s = _
  unfold execAvsbusTransferEnd
  rw [if_neg (transfer_due hbooted hpower hfatal hdue), if_neg (by decide)]
  exact if_neg hdue

theorem transfer_good (hbooted : s.booted = true) (hpower : s.power ≠ .night) (hfatal : s.fatal = 0) (hdue : s.age.voltDue ≠ 0) :
    ∃ t, exec (.avsbusTransferEnd true) s = .next t ∧ t.fld R.AGE_VOLT_STEP 31 16 = min 800 (s.fld R.AGE_VOLT_STEP 31 16 + 5) ∧
      t.age = { s.age with avsFails := 0, voltDue := s.age.voltDue - 1, voltPending := s.age.voltPending - 1 } ∧
      t.out = .avsbus (min 800 (s.fld R.AGE_VOLT_STEP 31 16 + 5)) :: s.out := by
  have hexec := exec_transfer_good hbooted hpower hfatal hdue
  have hlow : min 800 (s.fld R.AGE_VOLT_STEP 31 16 + 5) ≤ 800 := min_le_left _ _
  generalize min 800 (s.fld R.AGE_VOLT_STEP 31 16 + 5) = mv at hexec hlow ⊢
  have hshow : ∀ u : State, Only 1 u u.showAge := fun u => only_showAge rfl (only_refl _ u)
  have hset : Only 1 { s with age := s.age.stepped } ({ s with age := s.age.stepped }.setFld R.AGE_VOLT_STEP 31 16 mv) := only_setFld _ _ _ _ rfl (only_refl _ _)
  have hvolt : ({ s with age := s.age.stepped }.setFld R.AGE_VOLT_STEP 31 16 mv).fld R.AGE_VOLT_STEP 31 16 = mv % 2 ^ 16 :=
    fld_setFld_same _ mv (by decide) (by decide)
  generalize { s with age := s.age.stepped }.setFld R.AGE_VOLT_STEP 31 16 mv = u at hexec hset hvolt
  have hemit : Only 73786976294838206464 u (u.emit (.avsbus mv)) := only_emit _ rfl (only_refl _ u)
  refine ⟨_, hexec, ?_, ?_, ?_⟩
  · rw [volt_showAge, fld_of_rd (rd_congr (hemit.regs rfl) _), hvolt]
    exact Nat.mod_eq_of_lt (by omega)
  · exact ((hshow _).age rfl).trans ((hemit.age rfl).trans (hset.age rfl))
  · exact ((hshow _).out rfl).trans (congrArg (Out.avsbus mv :: ·) (hset.out rfl))

theorem transfer_failed (hbooted : s.booted = true) (hpower : s.power ≠ .night) (hfatal : s.fatal = 0) (hdue : s.age.voltDue ≠ 0) (hfew : s.age.avsFails < 2) :
    exec (.avsbusTransferEnd false) s = .next { s with age := { s.age with avsFails := s.age.avsFails + 1 } } := by
  show execAvsbusTransferEnd false s = _
  unfold execAvsbusTransferEnd
  rw [if_neg (transfer_due hbooted hpower hfatal hdue), if_pos (by decide)]
  exact if_neg (by omega)

theorem transfer_fatal (hbooted : s.booted = true) (hpower : s.power ≠ .night) (hfatal : s.fatal = 0) (hdue : s.age.voltDue ≠ 0) (hmany : 2 ≤ s.age.avsFails) :
    ∃ t, exec (.avsbusTransferEnd false) s = .next t ∧ t.deadBy Code.SYS_SUPPLY := by
  have hexec : exec (.avsbusTransferEnd false) s = .next ({ s with age := { s.age with avsFails := s.age.avsFails + 1 } }.deviceFatal
      { code := Code.SYS_SUPPLY, cls := 4, lk := 8, l0 := 1 }) := by
    show execAvsbusTransferEnd false s = _
    unfold execAvsbusTransferEnd
    rw [if_neg (transfer_due hbooted hpower hfatal hdue), if_pos (by decide)]
    exact if_pos (by omega)
  have hlive : ({ s with age := { s.age with avsFails := s.age.avsFails + 1 } } : State).fatal = 0 := hfatal
  exact ⟨_, hexec, deadBy_deviceFatal hlive { code := Code.SYS_SUPPLY, cls := 4, lk := 8, l0 := 1 } (by decide) (by decide)⟩

/-- Settles O52: no planner's step takes back the hour it began with; an entry is one record; what comes into force keeps the defaults that it is given. -/
theorem ageingRuns : Obligations.AgeingRuns := by
  unfold Obligations.AgeingRuns
  exact ⟨planner_hour, trend_entered, rebased, fun s _ hbooted hpower hfatal hdue => ⟨transfer_good hbooted hpower hfatal hdue,
    transfer_failed hbooted hpower hfatal hdue, transfer_fatal hbooted hpower hfatal hdue⟩⟩

end Sys2Proof.Machine
end

section
/-! PROOFS. KEY_LOAD and TABLE_LOAD (O15). -/

namespace Sys2Proof.Machine

variable {s : State}

/-! ### A command that has begun and ends well, its audit record -/

theorem ended_begun {u : State} {n opcode : Nat} {c : Cmd} (hc : s.begun n opcode = some c) (hk : Keeps s.pending s.out u) (hhost : u.host = s.host)
    (status r0 r1 r2 r3 : Nat) : s.ended (u.complete n status r0 r1 r2 r3) c status r0 r1 r2 r3 := by
  obtain ⟨hcmd, hopen⟩ := begun_some hc
  have hfound : u.cmd? n = some c := by
    rw [← hcmd]
    unfold State.cmd?
    rw [hhost]
  exact ended_complete _ _ _ _ _ hk.ok.cmds hk.ok.out hfound hopen rfl rfl rfl

/-- The registers that show the audit log (R577). -/
def headRegs : List RegAddr := [R.AUDIT_HEAD_L, R.AUDIT_HEAD_L + 4, R.AUDIT_FREE]

/-- A record of no register's change leaves every page's REVISION (R577). -/
theorem regsOff_commit_event {kind : Nat} (hk : kind ≠ 1) (o : Origin) (addr old new : Nat) (detail : List Nat) (h : 0 < s.auditFree) :
    RegsOff headRegs s (s.commit kind o addr old new detail) := by
  have hhead : ∀ u : State, u.regs = s.regs → ∀ f, RegsOff headRegs s ((u.wr64 R.AUDIT_HEAD_L s.audit.nextSeq).wr R.AUDIT_FREE f) := fun u hu f =>
    regsOff_wr _ _ (by simp [headRegs]) (regsOff_wr _ _ (by simp [headRegs]) (regsOff_wr _ _ (by simp [headRegs]) (regsOff_regs hu (regsOff_refl _ _))))
  unfold State.commit
  dsimp only
  rw [if_neg (by omega), if_neg hk]
  split
  · exact regsOff_regs rfl (hhead _ rfl _)
  · exact hhead _ rfl _

/-- The head of the log stands in bell word 3 (R577). -/
theorem bell_commit_head (kind : Nat) (o : Origin) (addr old new : Nat) (detail : List Nat) (h : 0 < s.auditFree) :
    (s.commit kind o addr old new detail).bell 3 = s.audit.nextSeq % 2 ^ 64 := by
  have hbell : ∀ u : State, u.bells = kset bellFactory s.bells 3 (BitVec.ofNat 64 s.audit.nextSeq) → u.bell 3 = s.audit.nextSeq % 2 ^ 64 := fun u hu => by
    unfold State.bell
    rw [hu, kget_kset, if_pos rfl, BitVec.toNat_ofNat]
  unfold State.commit
  dsimp only
  rw [if_neg (by omega)]
  split <;> split <;> exact hbell _ rfl

/-! ### KEY_LOAD -/

/-- A job-fatal error that a command met (R449). -/
theorem jobFailed_met {slot : Nat} (a : RecArg) (met : Nat) (h : (s.job slot).status = 1) : JobFailed slot a.code (s.jobFatalRec slot a met) := by
  unfold State.jobFatalRec
  dsimp only
  have hfatal : ∀ u, Only 117598008931784859665 s u → JobFailed slot a.code (u.jobFatal slot a.code met) := fun u hu => by
    refine jobFailed_jobFatal _ _ ?_
    rw [job_of_only hu rfl rfl]
    exact h
  split
  · exact hfatal _ (only_record _ rfl (only_refl _ s))
  · exact jobFailed_apart (only_complete _ _ _ _ _ _ rfl (only_refl _ _)) (hfatal _ (only_record _ rfl (only_refl _ s)))

/-- The job with its key (R431). -/
def State.keyed (s : State) (c : Cmd) (i : Nat) (key : List Byte) : State :=
  (s.commit 0x0010 .operator 0 0 0 [c.sel, c.jobId, 0]).modJob i (fun j => { j with key := some key, keyId := c.sel })

theorem exec_keyLoad {n i : Nat} {b : List Byte} {c : Cmd} (hc : s.begun n 0x02 = some c) (hfit : bufFits c (some b) = true) (hslot : s.slotOf c.jobId = some i)
    (hopen : (s.job i).status = 1) (hbare : (s.job i).key = none) (hfull : s.auditFull = false) :
    (∀ key, s.unwrap c b = .ok key → exec (.keyLoad n (some b)) s = .next ((s.keyed c i key).complete n 0)) ∧
      ∀ code, s.unwrap c b = .error code → exec (.keyLoad n (some b)) s = .next (s.jobFatalRec i { code, cls := 3, origin := .operator } n) := by
  have hunfold : ∀ t, (match s.unwrap c b with
      | .error e => s.jobFatalRec i { code := e, cls := 3, origin := .operator } n
      | .ok key => (s.keyed c i key).complete n 0) = t → exec (.keyLoad n (some b)) s = .next t := by
    rintro t rfl
    show execKeyLoad n (some b) s = _
    unfold execKeyLoad
    rw [hc]
    dsimp only
    rw [if_neg (by rw [hfit]; decide), onJob_open hslot hopen, if_neg (by rw [hbare]; decide), if_neg (by rw [hfull]; decide)]
    cases s.unwrap c b <;> rfl
  exact ⟨fun key hkey => hunfold _ (by rw [hkey]), fun code hcode => hunfold _ (by rw [hcode])⟩

theorem only_keyed (c : Cmd) (i : Nat) (key : List Byte) : Only 562949953470497 s (s.keyed c i key) :=
  only_modJob _ _ rfl (only_commit _ _ _ _ _ _ rfl (only_refl _ s))

theorem keyed_ends {n i : Nat} {c : Cmd} (hinv : s.Inv) (hc : s.begun n 0x02 = some c) (hi : i ≤ 1) (hfull : s.auditFull = false) (key : List Byte) :
    s.ended ((s.keyed c i key).complete n 0) c 0 0 0 0 0 ∧
      ((s.keyed c i key).complete n 0).job i = { s.job i with key := some key, keyId := c.sel } ∧
      ((s.keyed c i key).complete n 0).job (1 - i) = s.job (1 - i) ∧ s.regsBut ((s.keyed c i key).complete n 0) headRegs ∧
      ∃ r, ((s.keyed c i key).complete n 0).audit.pool.head? = some (.record r) ∧ r.kind = 0x10 ∧ r.seq = s.audit.nextSeq ∧ r.detail = [c.sel, c.jobId, 0] ∧
        ((s.keyed c i key).complete n 0).bell 3 = r.seq % 2 ^ 64 := by
  have hroom : 0 < s.auditFree := lt_trans (by decide) (auditFree_pos hfull)
  have hall := only_keyed (s := s) c i key
  have hput : Only 49152 (s.commit 0x0010 .operator 0 0 0 [c.sel, c.jobId, 0]) (s.keyed c i key) := only_modJob _ _ rfl (only_refl _ _)
  have hrecord : Only 562949953421345 s (s.commit 0x0010 .operator 0 0 0 [c.sel, c.jobId, 0]) := only_commit _ _ _ _ _ _ rfl (only_refl _ s)
  have hend : Only 73786976294838214656 (s.keyed c i key) ((s.keyed c i key).complete n 0) := only_complete _ _ _ _ _ _ rfl (only_refl _ _)
  refine ⟨ended_begun hc (keeps_modJob _ _ (keeps_commit _ _ _ _ _ _ (keepsOut_of_inv hinv))) (hall.host rfl) 0 0 0 0 0, ?_, ?_, ?_,
    s.auditRec 0x0010 .operator 0 0 0 [c.sel, c.jobId, 0], ?_, rfl, rfl, rfl, ?_⟩
  · rw [job_of_only hend rfl rfl, State.keyed, job_modJob_same, job_of_only hrecord rfl rfl]
  · rw [job_of_only hend rfl rfl, State.keyed, job_modJob_other _ hi, job_of_only hrecord rfl rfl]
  · intro a ha
    rw [rd_congr (hend.regs rfl), rd_congr (hput.regs rfl)]
    exact regsOff_commit_event (by decide) _ _ _ _ _ hroom a ha
  · rw [hend.audit rfl, hput.audit rfl, pool_commit _ _ _ _ _ _ hroom]
    rfl
  · unfold State.bell
    rw [hend.bells rfl, hput.bells rfl]
    exact bell_commit_head _ _ _ _ _ _ hroom

/-! ### TABLE_LOAD -/

/-- The slot with a Penumbra table (R162). -/
def State.tabled (s : State) (c : Cmd) (i : Nat) (tb : List Byte) : State :=
  (s.commit 0x0002 .operator 0 0 0 [c.sel, i, crcC tb]).setJob i ((s.job i).putPenumbra c.sel tb)

theorem exec_tableLoad {n i : Nat} {tb : List Byte} {c : Cmd} (hc : s.begun n 0x04 = some c) (hfit : bufFits c (some tb) = true) (hlo : 0x0A00 ≤ c.sel)
    (hhi : c.sel ≤ 0x0A07) (hslot : s.slotOf c.jobId = some i) (hopen : (s.job i).status = 1) (hfull : s.auditFull = false) :
    exec (.tableLoad n (some tb)) s = .next (s.loadTable c i true tb) := by
  have hkind : tableKind c.sel = some true := if_pos (.inl ⟨hlo, hhi⟩)
  show execTableLoad n (some tb) s = _
  unfold execTableLoad
  rw [hc]
  dsimp only
  rw [if_neg (by rw [hfit]; decide), hkind]
  dsimp only
  rw [if_pos rfl, onJob_open hslot hopen, if_neg (by rw [hfull]; decide)]

/-- A Penumbra table goes into a slot whose tables are not locked, where its form is right (R162, R163). -/
theorem loadSlot_penumbra {i : Nat} {id : Nat} {tb : List Byte} (hid : id ≤ 0x0A07) : s.loadSlot i id tb =
    if (s.job i).penLocked then .error Code.PENUMBRA_TABLE_LOCKED else if !(s.job i).penumbraForm id tb then .error Code.PENUMBRA_TABLE_FORM
      else .ok (s.setJob i ((s.job i).putPenumbra id tb)) :=
  if_neg (by omega)

theorem loadTable_good {i : Nat} {tb : List Byte} {c : Cmd} (hid : c.sel ≤ 0x0A07) (hfree : (s.job i).penLocked = false)
    (hform : (s.job i).penumbraForm c.sel tb = true) : s.loadTable c i true tb = (s.tabled c i tb).complete c.n 0 (crcC tb) := by
  have hrecord : Only 562949953421345 s (s.commit 0x0002 .operator 0 0 0 [c.sel, i, crcC tb]) := only_commit _ _ _ _ _ _ rfl (only_refl _ s)
  have hok : ∀ u : State, u.job i = s.job i → (if true = true then u.loadSlot i c.sel tb else u.loadDevice c.sel tb) =
      .ok (u.setJob i ((s.job i).putPenumbra c.sel tb)) := fun u hu => by
    rw [if_pos rfl, loadSlot_penumbra hid, hu, if_neg (by rw [hfree]; decide), if_neg (by rw [hform]; decide)]
  unfold State.loadTable
  dsimp only
  rw [hok s rfl, hok _ (job_of_only hrecord rfl rfl i)]
  rfl

theorem loadTable_locked {i : Nat} {tb : List Byte} {c : Cmd} (hid : c.sel ≤ 0x0A07) (hlocked : (s.job i).penLocked = true) :
    s.loadTable c i true tb = s.fail c.n Code.PENUMBRA_TABLE_LOCKED := by
  have herr : (if true = true then s.loadSlot i c.sel tb else s.loadDevice c.sel tb) = .error Code.PENUMBRA_TABLE_LOCKED := by
    rw [if_pos rfl, loadSlot_penumbra hid, if_pos hlocked]
  unfold State.loadTable
  rw [herr]

theorem only_setJob_slots (i : Nat) (j : Job) : Only 49152 s (s.setJob i j) := only_setJob _ _ rfl (only_refl _ s)

theorem tabled_ends {n i : Nat} {tb : List Byte} {c : Cmd} (hinv : s.Inv) (hc : s.begun n 0x04 = some c) (hi : i ≤ 1) (hfull : s.auditFull = false) :
    Only 73786976294838214656 (s.tabled c i tb) ((s.tabled c i tb).complete n 0 (crcC tb)) ∧
      s.ended ((s.tabled c i tb).complete n 0 (crcC tb)) c 0 (crcC tb) 0 0 0 ∧
      ((s.tabled c i tb).complete n 0 (crcC tb)).job i = (s.job i).putPenumbra c.sel tb ∧
      ((s.tabled c i tb).complete n 0 (crcC tb)).job (1 - i) = s.job (1 - i) ∧
      ∃ r, ((s.tabled c i tb).complete n 0 (crcC tb)).audit.pool.head? = some (.record r) ∧ r.kind = 2 ∧ r.detail = [c.sel, i, crcC tb] := by
  have hroom : 0 < s.auditFree := lt_trans (by decide) (auditFree_pos hfull)
  have hrecord : Only 562949953421345 s (s.commit 0x0002 .operator 0 0 0 [c.sel, i, crcC tb]) := only_commit _ _ _ _ _ _ rfl (only_refl _ s)
  have hput : Only 49152 (s.commit 0x0002 .operator 0 0 0 [c.sel, i, crcC tb]) (s.tabled c i tb) := only_setJob_slots _ _
  have hend : Only 73786976294838214656 (s.tabled c i tb) ((s.tabled c i tb).complete n 0 (crcC tb)) := only_complete _ _ _ _ _ _ rfl (only_refl _ _)
  refine ⟨hend, ended_begun hc (keeps_setJob _ _ (keeps_commit _ _ _ _ _ _ (keepsOut_of_inv hinv))) ((hput.host rfl).trans (hrecord.host rfl)) 0 (crcC tb) 0 0 0, ?_, ?_,
    s.auditRec 0x0002 .operator 0 0 0 [c.sel, i, crcC tb], ?_, rfl, rfl⟩
  · rw [job_of_only hend rfl rfl, State.tabled, job_setJob_same]
  · rw [job_of_only hend rfl rfl, State.tabled, job_setJob_other _ _ hi, job_of_only hrecord rfl rfl]
  · rw [hend.audit rfl, hput.audit rfl, pool_commit _ _ _ _ _ _ hroom]
    rfl

/-- Settles O15: a key or a table that passes is its audit record and its slot; a failed step fails the job, a locked slot refuses the table. -/
theorem jobsTakeKeysAndTables : Obligations.JobsTakeKeysAndTables := by
  unfold Obligations.JobsTakeKeysAndTables
  refine ⟨fun n i b c s hinv hc hfit hslot hopen hbare hfull => ?_, fun n i tb c s hinv hc hfit hlo hhi hslot hopen hfull => ⟨fun hfree hform => ?_, fun hlocked => ?_⟩⟩
  · obtain ⟨hi, -⟩ := slotOf_some hslot
    obtain ⟨hgood, hbad⟩ := exec_keyLoad hc hfit hslot hopen hbare hfull
    cases hkey : s.unwrap c b with
    | ok key =>
      refine ⟨_, hgood key hkey, ?_, fun code h => by cases h⟩
      rintro key' ⟨⟩
      have hall : Only 73787539244791685153 s ((s.keyed c i key).complete n 0) := only_complete _ _ _ _ _ _ rfl (only_mono rfl (only_keyed c i key))
      exact ⟨hall.eq_takes, keyed_ends hinv hc hi hfull key⟩
    | error code =>
      refine ⟨_, hbad code hkey, fun key h => (by cases h), ?_⟩
      rintro code' ⟨⟩
      have hfailed := jobFailed_met (s := s) (slot := i) { code := code, cls := 3, origin := .operator } n hopen
      exact ⟨hfailed.status, hfailed.fatal, hfailed.key⟩
  · obtain ⟨hi, -⟩ := slotOf_some hslot
    have hn : c.n = n := (cmd?_some (begun_some hc).1).2
    have hexec := (exec_tableLoad hc hfit hlo hhi hslot hopen hfull).trans (congrArg Host.Outcome.next (loadTable_good hhi hfree hform))
    rw [hn] at hexec
    obtain ⟨hend, hends⟩ := tabled_ends (tb := tb) hinv hc hi hfull
    have hall : Only 73787539244791685153 s ((s.tabled c i tb).complete n 0 (crcC tb)) :=
      only_complete _ _ _ _ _ _ rfl (only_setJob _ _ rfl (only_commit _ _ _ _ _ _ rfl (only_refl _ s)))
    exact ⟨_, hexec, hall.eq_takes, hends⟩
  · have hn : c.n = n := (cmd?_some (begun_some hc).1).2
    have hexec := (exec_tableLoad hc hfit hlo hhi hslot hopen hfull).trans (congrArg Host.Outcome.next (loadTable_locked hhi hlocked))
    rw [hn] at hexec
    have hfail : Only 78398662313265602577 s (s.fail n Code.PENUMBRA_TABLE_LOCKED) := only_fail _ _ _ _ _ _ rfl (only_refl _ s)
    exact ⟨_, hexec, ended_fail_begun hinv hc _, hfail.job0 rfl, hfail.job1 rfl, hfail.audit rfl⟩

end Sys2Proof.Machine
end

section
/-! SUPPORT. A tamper input's bit and the Fold's state stand through what ends the jobs (O53). -/

namespace Sys2Proof.Machine

/-- What the Fold holds but for the device key and the field key. -/
def Fold.keyless (f : Fold) : Fold := { f with deviceKey := 0, fieldKey := 0 }

/-- From s to t no tamper input has been seen, and of the Fold only the device key and the field key have changed. -/
structure Unseen (s t : State) : Prop where
  seen : t.rd R.FOLD_TAMPER_SEEN = s.rd R.FOLD_TAMPER_SEEN
  fold : t.fold.keyless = s.fold.keyless

section Watched

variable {f g : Fold}

theorem nonce_of_keyless (h : f.keyless = g.keyless) : f.nonce = g.nonce := by
  have hn := congrArg (fun k => k.nonce) h
  exact hn

theorem debugOpen_of_keyless (h : f.keyless = g.keyless) : f.debugOpen = g.debugOpen := by
  have hd := congrArg (fun k => k.debugOpen) h
  exact hd

theorem tamperHold_of_keyless (h : f.keyless = g.keyless) : f.tamperHold = g.tamperHold := by
  have ht := congrArg (fun k => k.tamperHold) h
  exact ht

end Watched

section Watching

variable {s0 s t : State}

theorem unseen_refl (s : State) : Unseen s s := ⟨rfl, rfl⟩

theorem Unseen.trans (a : Unseen s0 s) (b : Unseen s t) : Unseen s0 t := ⟨b.seen.trans a.seen, b.fold.trans a.fold⟩

theorem unseen_ite {c : Prop} [Decidable c] {a b : State} (ha : Unseen s0 a) (hb : Unseen s0 b) : Unseen s0 (if c then a else b) := by
  split
  · exact ha
  · exact hb

theorem unseen_foldl {β : Type} (f : State → β → State) (hf : ∀ u b, Unseen s0 u → Unseen s0 (f u b)) (l : List β) (h : Unseen s0 s) :
    Unseen s0 (l.foldl f s) := List.foldlRecOn (motive := Unseen s0) l f h (fun u hu b _ => hf u b hu)

/-- A change of neither TAMPER_SEEN nor the Fold. -/
theorem unseen_regs {l : List RegAddr} (hr : RegsOff l s t) (hl : R.FOLD_TAMPER_SEEN ∉ l) (hf : t.fold = s.fold) (h : Unseen s0 s) : Unseen s0 t :=
  h.trans ⟨hr _ hl, congrArg Fold.keyless hf⟩

/-- A change of no register and not of the Fold. -/
theorem unseen_quiet (ho : Only 294571444427049402366 s t) (h : Unseen s0 s) : Unseen s0 t :=
  h.trans ⟨rd_congr (ho.regs rfl) _, congrArg Fold.keyless (ho.fold rfl)⟩

theorem unseen_wr (a v : Nat) (ha : a ≠ R.FOLD_TAMPER_SEEN) (h : Unseen s0 s) : Unseen s0 (s.wr a v) := h.trans ⟨rd_wr_other _ ha, rfl⟩

theorem unseen_setFld (a hi lo x : Nat) (ha : a ≠ R.FOLD_TAMPER_SEEN) (h : Unseen s0 s) : Unseen s0 (s.setFld a hi lo x) := unseen_wr a _ ha h

/-! ### Records -/

theorem seen_not_recorded (p : Nat) : R.FOLD_TAMPER_SEEN ∉ recordRegs p := by
  have hoff : ¬ offOf R.FOLD_TAMPER_SEEN < 0x100 := by decide
  have hlog : R.FOLD_TAMPER_SEEN ∉ logRegs := by decide
  exact fun hm => (mem_recordRegs hm).elim hoff hlog

theorem unseen_recordRaw (a : RecArg) (h : Unseen s0 s) : Unseen s0 (s.recordRaw a) :=
  unseen_regs (regsOff_recordRaw a (fun _ hb => hb) (regsOff_refl _ s)) (seen_not_recorded _)
    ((only_recordRaw (mm := 78398662313265602577) a rfl (only_refl _ s)).fold rfl) h

theorem unseen_complete (n status r0 r1 r2 r3 : Nat) (h : Unseen s0 s) : Unseen s0 (s.complete n status r0 r1 r2 r3) :=
  unseen_quiet (only_complete _ _ _ _ _ _ rfl (only_refl _ s)) h

theorem unseen_fail (n code : Nat) (h : Unseen s0 s) : Unseen s0 (s.fail n code) := unseen_complete _ _ _ _ _ _ (unseen_recordRaw _ h)

/-- A step of the links (R222, R235). -/
theorem unseen_resends (ht : Resends s t) (hf : t.fold = s.fold) (h : Unseen s0 s) : Unseen s0 t := unseen_regs ht.regs (by decide) hf h

theorem unseen_shadeOn (now : Bool) (h : Unseen s0 s) : Unseen s0 (s.shadeOn now) := by
  have hall : Only 110680466641280565249 s (s.shadeOn now) := only_shadeOn now rfl (only_refl _ s)
  have hput : Unseen s0 ({ s with flink := { s.flink with shaded := true } }) := unseen_quiet (only_put2199023255552 rfl (only_refl _ s)) h
  exact unseen_resends (resends_shadeBlocks _ _) (hall.fold rfl) hput

theorem unseen_droverTo (n : Nat) (h : Unseen s0 s) : Unseen s0 (s.droverTo n) :=
  unseen_setFld _ _ _ _ (by decide) (unseen_setFld _ _ _ _ (by decide) (unseen_quiet (only_put4398046511104 rfl (only_refl _ s)) h))

theorem unseen_showStripes (h : Unseen s0 s) : Unseen s0 s.showStripes :=
  unseen_regs (regsOff_showStripes (fun _ h => h) (regsOff_refl _ s)) (by decide) ((only_showStripes (mm := 1) rfl (only_refl _ s)).fold rfl) h

theorem unseen_modStripe (x : Stripe) (f : Stripe → Stripe) (h : Unseen s0 s) : Unseen s0 (s.modStripe x f) :=
  unseen_quiet (only_modStripe _ _ rfl (only_refl _ s)) h

/-- A record, and the containment that one may find (R465). -/
theorem unseen_record (a : RecArg) (h : Unseen s0 s) : Unseen s0 (s.record a) :=
  h.trans ⟨(halts_record a (halts_refl s)).regs _ (by decide) (by decide),
    congrArg Fold.keyless ((only_record (mm := 117598008931784859665) a rfl (only_refl _ s)).fold rfl)⟩

/-! ### Audit records, keys and a device-fatal event -/

theorem unseen_commit (kind : Nat) (o : Origin) (detail : List Nat) (h : Unseen s0 s) : Unseen s0 (s.commit kind o 0 0 0 detail) :=
  unseen_regs (regsOff_commit_keep _ _ rfl _ _ _ (regsOff_refl _ s)) (by decide) ((only_commit (mm := 562949953421345) _ _ _ _ _ _ rfl (only_refl _ s)).fold rfl) h

theorem unseen_modJob (i : Nat) (f : Job → Job) (h : Unseen s0 s) : Unseen s0 (s.modJob i f) := unseen_quiet (only_modJob _ _ rfl (only_refl _ s)) h

theorem unseen_storeKeep (o : Origin) (typ inst : Nat) (payload : List Byte) (bad : Nat) (h : Unseen s0 s) : Unseen s0 (s.storeKeep o typ inst payload bad) :=
  unseen_regs (regsOff_storeKeep s o typ inst payload bad) (by decide) ((only_storeKeep (mm := 63617742783119393) _ _ _ _ _ rfl (only_refl _ s)).fold rfl) h

theorem unseen_eraseKey (cause slot : Nat) (h : Unseen s0 s) : Unseen s0 (s.eraseKey cause slot) :=
  unseen_ite (unseen_modJob _ _ (unseen_commit _ _ _ h)) h

theorem unseen_eraseKeys (cause : Nat) (h : Unseen s0 s) : Unseen s0 (s.eraseKeys cause) :=
  (unseen_eraseKey cause 1 (unseen_eraseKey cause 0 h)).trans ⟨rfl, rfl⟩

theorem unseen_showPins (b : Nat) (h : Unseen s0 s) : Unseen s0 (s.showPins b) :=
  unseen_regs (regsOff_showPins s b) (by decide) ((only_showPins (mm := 73786976294838206465) _ rfl (only_refl _ s)).fold rfl) h

theorem unseen_fatal (n : Nat) (h : Unseen s0 s) : Unseen s0 { s with fatal := n } := h.trans ⟨rfl, rfl⟩

theorem unseen_profile (p : Profile) (h : Unseen s0 s) : Unseen s0 { s with profile := p } := h.trans ⟨rfl, rfl⟩

theorem unseen_deviceFatal (a : RecArg) (h : Unseen s0 s) : Unseen s0 (s.deviceFatal a) := by
  unfold State.deviceFatal
  split
  · exact h
  · dsimp only
    have hhold : Unseen s0 (((({ s with fatal := a.code }).shadeOn true).droverTo 5).setFld R.DROVER_STANDSTILL 1 1 1) :=
      unseen_setFld _ _ _ _ (by decide) (unseen_droverTo _ (unseen_shadeOn _ (unseen_fatal _ h)))
    generalize State.setFld _ R.DROVER_STANDSTILL 1 1 1 = u at hhold ⊢
    generalize Profile.mk _ _ _ _ _ _ _ _ _ _ _ _ _ _ _ _ = p
    have hrec := unseen_showPins s.i3cByte (unseen_wr R.SYS_FATAL a.code (by decide) (unseen_recordRaw
      { a with cls := 4, stripe := (State.active { u with profile := p }).bind Stripe.who } (unseen_profile p hhold)))
    generalize State.showPins _ _ = v at hrec ⊢
    exact unseen_foldl _ (fun _ _ hu => unseen_fail _ _ hu) _ (unseen_eraseKeys _ (unseen_storeKeep _ _ _ _ _ hrec))

theorem unseen_writeBell (n v code : Nat) (h : Unseen s0 s) : Unseen s0 (s.writeBell n v code) := by
  unfold State.writeBell
  dsimp only
  refine unseen_ite (unseen_recordRaw _ h) (unseen_ite (unseen_deviceFatal _ h) ?_)
  have hput : Unseen s0 (({ s with bellPending := 0 }).putBell n v) :=
    unseen_quiet (only_putBell _ _ rfl (only_refl _ _)) (h.trans ⟨rfl, rfl⟩)
  have hcommit : Unseen s0 ((({ s with bellPending := 0 }).putBell n v).commit 0x0040 .firmware n (s.bell n) v [code]) := by
    by_cases hfree : (({ s with bellPending := 0 } : State).putBell n v).auditFree = 0
    · unfold State.commit
      rw [if_pos hfree]
      exact unseen_setFld _ _ _ _ (by decide) (hput.trans ⟨rfl, rfl⟩)
    · exact unseen_regs (regsOff_commit_event (by decide) _ _ _ _ _ (Nat.pos_of_ne_zero hfree)) (by decide)
        ((only_commit (mm := 562949953421345) _ _ _ _ _ _ rfl (only_refl _ _)).fold rfl) hput
  exact unseen_ite (unseen_record _ hcommit) hcommit

theorem unseen_clearCkpt (h : Unseen s0 s) : Unseen s0 s.clearCkpt :=
  unseen_setFld _ _ _ _ (by decide) (unseen_ite (unseen_writeBell _ _ _ h) h)

/-! ### A job's stripes end -/

theorem unseen_setCtx (i : Nat) (c : Ctx) (h : Unseen s0 s) : Unseen s0 (s.setCtx i c) := by
  have hput : Unseen s0 ({ s with ctxs := kset (fun _ => {}) s.ctxs i c }) := h.trans ⟨rfl, rfl⟩
  have hbusy : 0x8008 ≠ R.FOLD_TAMPER_SEEN := by decide
  exact unseen_quiet (only_serve rfl (only_refl _ _)) (unseen_setFld _ _ _ _ hbusy hput)

theorem unseen_dropCtxs (p : Ctx → Bool) (h : Unseen s0 s) : Unseen s0 (s.dropCtxs p) :=
  unseen_foldl _ (fun _ _ hu => unseen_ite (unseen_setCtx _ _ hu) hu) _ h

theorem unseen_dropUnits (x : Stripe) (h : Unseen s0 s) : Unseen s0 (s.dropUnits x) := by
  unfold State.dropUnits
  dsimp only
  have hctxs := unseen_dropCtxs (fun c => c.mode ≠ 0 && (c.purp = 3 && x.mapSet = some (c.item / 2 ^ 20) || c.purp = 4 && x.st = .contained)) h
  generalize State.dropCtxs _ _ = u at hctxs ⊢
  have hbusy := unseen_ite (c := x.prepass = 2 ∨ x.prepass = 3 ∨ x.prepass = 5) (unseen_setFld 0xA008 16 16 0 (by decide) hctxs) hctxs
  generalize (if x.prepass = 2 ∨ x.prepass = 3 ∨ x.prepass = 5 then u.setFld 0xA008 16 16 0 else u) = v at hbusy ⊢
  exact unseen_ite (hbusy.trans ⟨rfl, rfl⟩) hbusy

theorem unseen_dropStripe (x : Stripe) (h : Unseen s0 s) : Unseen s0 (s.dropStripe x) := by
  unfold State.dropStripe
  dsimp only
  have hunits := unseen_dropUnits x h
  generalize s.dropUnits x = u at hunits ⊢
  exact unseen_showStripes (hunits.trans ⟨rfl, rfl⟩)

theorem unseen_gone (x : Stripe) (h : Unseen s0 s) : Unseen s0 ((s.dropStripe x).finishAborts x) :=
  unseen_quiet (only_finishAborts _ rfl (only_refl _ _)) (unseen_dropStripe x h)

theorem unseen_ending (x : Stripe) (state outcome status : Nat) (h : Unseen s0 s) : Unseen s0 ((s.endStripe x state outcome status).markEnded x) :=
  unseen_quiet (only_markEnded _ rfl (only_refl _ _)) (unseen_quiet (only_endStripe _ _ _ _ rfl (only_refl _ s)) h)

theorem unseen_freeSlot (slot : Nat) (h : Unseen s0 s) : Unseen s0 (s.freeSlot slot) := by
  unfold State.freeSlot
  dsimp only
  have hkey := unseen_ite (c := (s.job slot).key.isSome) (unseen_commit 0x0010 .firmware [(s.job slot).keyId, (s.job slot).jobId, 0] h) h
  generalize (if (s.job slot).key.isSome then _ else s : State) = u at hkey ⊢
  exact unseen_quiet (only_setJob _ _ rfl (only_refl _ _)) (unseen_dropCtxs _ (hkey.trans ⟨rfl, rfl⟩))

theorem unseen_closeDue (slot : Nat) (h : Unseen s0 s) : Unseen s0 (s.closeDue slot) := by
  unfold State.closeDue
  refine unseen_ite h ?_
  split
  · exact h
  · exact unseen_complete _ _ _ _ _ _ (unseen_freeSlot slot h)

theorem unseen_endAborted (ord : Nat) (h : Unseen s0 s) : Unseen s0 (s.endAborted ord) := by
  unfold State.endAborted
  split
  · exact h
  · next x _ =>
    refine unseen_ite h (unseen_closeDue _ (unseen_quiet (only_dropFrames rfl (only_refl _ _)) ?_))
    exact unseen_gone x (unseen_ending x 2 1 0 h)

theorem unseen_abortHold (x : Stripe) (h : Unseen s0 s) : Unseen s0 (s.abortHold x) := by
  have hshade : Unseen s0 ((s.shadeOn false).allLanes 0x55 (lowBits 24 (x.flashBase + s.drover.k))) :=
    unseen_resends (resends_allLanes _ _ _) ((only_allLanes (mm := 110680466641280565249) _ _ rfl (only_refl _ _)).fold rfl) (unseen_shadeOn false h)
  have hhold := unseen_ite (c := x.st = StripeSt.writing)
    (unseen_quiet (only_floodContain 0 rfl (only_refl _ _)) (unseen_droverTo 0 hshade)) h
  unfold State.abortHold
  dsimp only
  generalize (if x.st = StripeSt.writing then _ else s : State) = u at hhold ⊢
  exact unseen_showStripes (unseen_modStripe _ _ (hhold.trans ⟨rfl, rfl⟩))

theorem unseen_abortNow (x : Stripe) (h : Unseen s0 s) : Unseen s0 (s.abortNow x) := by
  have hend := unseen_ite (c := x.st = StripeSt.armed ∨ x.st = StripeSt.armWait) h (unseen_quiet (only_endStripe x 2 1 0 rfl (only_refl _ s)) h)
  unfold State.abortNow
  dsimp only
  have hmark := unseen_quiet (only_markEnded x rfl (only_refl _ _)) hend
  exact unseen_gone x (unseen_ite (unseen_droverTo 0 (unseen_clearCkpt hmark)) hmark)

theorem unseen_abortSlot (slot : Nat) (h : Unseen s0 s) : Unseen s0 (s.abortSlot slot) :=
  unseen_foldl _ (fun _ x hu => unseen_ite hu (unseen_ite (unseen_endAborted _ (unseen_abortHold x hu)) (unseen_abortNow x hu))) _ h

/-! ### A job fails -/

theorem unseen_event (typ jobId item code : Nat) (h : Unseen s0 s) : Unseen s0 (s.event typ jobId item code) := by
  have hcount : Unseen s0 { s with host := { s.host with evSeq := s.host.evSeq + 1 } } := h.trans ⟨rfl, rfl⟩
  exact unseen_ite (unseen_quiet (only_putEvent _ rfl (only_refl _ _)) hcount) (unseen_ite (hcount.trans ⟨rfl, rfl⟩) (unseen_recordRaw _ hcount))

theorem unseen_eventKept (typ jobId item code : Nat) (h : Unseen s0 s) : Unseen s0 (s.eventKept typ jobId item code) := by
  have hcount : Unseen s0 { s with host := { s.host with evSeq := s.host.evSeq + 1 } } := h.trans ⟨rfl, rfl⟩
  exact unseen_ite (unseen_quiet (only_putEvent _ rfl (only_refl _ _)) hcount) (hcount.trans ⟨rfl, rfl⟩)

theorem unseen_jobFatal (slot code met : Nat) (kept : Bool) (h : Unseen s0 s) : Unseen s0 (s.jobFatal slot code met kept) := by
  unfold State.jobFatal
  dsimp only
  refine unseen_ite h (unseen_foldl _ (fun _ _ hu => unseen_fail _ _ hu) _ (unseen_modJob _ _ ?_))
  have habort := unseen_abortSlot slot h
  have hevent := unseen_ite (c := kept = true) (unseen_eventKept 3 (s.job slot).jobId 0 code habort) (unseen_event 3 (s.job slot).jobId 0 code habort)
  generalize (if kept = true then _ else _ : State) = u at hevent ⊢
  exact unseen_ite (unseen_commit _ _ _ hevent) hevent

theorem unseen_jobFatalRec (slot : Nat) (a : RecArg) (met : Nat) (h : Unseen s0 s) : Unseen s0 (s.jobFatalRec slot a met) := by
  have hfatal := unseen_jobFatal slot a.code met false (unseen_record { a with
    cls := 3, cmd := if met = 0 then none else some met, stripe := a.stripe.or (some ((s.job slot).jobId, 0xFFFFFFFF)) } h)
  exact unseen_ite hfatal (unseen_complete _ _ _ _ _ _ hfatal)

theorem unseen_failJobs (code : Nat) (o : Origin) (h : Unseen s0 s) : Unseen s0 (s.failJobs code o) := by
  unfold State.failJobs
  refine unseen_foldl _ (fun u i hu => ?_) _ h
  exact unseen_ite (unseen_jobFatalRec i { code, cls := 3, origin := o } 0 hu) hu

/-- The keys gone, then a device key and a field key drawn, and no geometry frame left (R573). -/
def State.rekeyed (s : State) : State :=
  { s with free := s.free + 2, frames := [],
           fold := { s.fold with deviceKey := Config.trueRandom s.free, fieldKey := Config.trueRandom (s.free + 1) } }

theorem rekey_eq (s : State) (code : Nat) : s.rekey code = (s.eraseKeys code).rekeyed := by
  unfold State.rekey
  generalize s.eraseKeys code = u
  rfl

theorem unseen_rekeyed (h : Unseen s0 s) : Unseen s0 s.rekeyed := h.trans ⟨rfl, rfl⟩

theorem unseen_rekey (code : Nat) (h : Unseen s0 s) : Unseen s0 (s.rekey code) := by
  rw [rekey_eq]
  exact unseen_rekeyed (unseen_eraseKeys code h)

end Watching

/-! ### Debug opened (R573) -/

/-- No job holds a key, no frame stands, and the device key and the field key are drawn fresh. -/
structure FreshKeys (t : State) : Prop where
  key0 : t.job0.key = none
  key1 : t.job1.key = none
  frames : t.frames = []
  drawn : ∃ m, t.fold.deviceKey = Config.trueRandom m ∧ t.fold.fieldKey = Config.trueRandom (m + 1)

theorem freshKeys_rekey (s : State) (code : Nat) : FreshKeys (s.rekey code) := by
  rw [rekey_eq]
  obtain ⟨hkey0, hkey1, -, -⟩ := keys_eraseKeys (s := s) code
  exact ⟨hkey0, hkey1, rfl, _, rfl, rfl⟩

theorem shadeOut_of_shade {s : State} (h : s.fold.shade = true) : s.shadeOut = true := by simp [State.shadeOut, h]

/-- What an opening of debug leaves, by the Owner's signature or by EXTEST. -/
structure Opened (s t : State) : Prop where
  keys : FreshKeys t
  shade : t.fold.shade = true
  nonce : t.fold.nonce = s.fold.nonce
  debug : t.fold.debugOpen = s.fold.debugOpen

theorem opened_openDebug (s : State) (o : Origin) (n : Nat) : Opened s (s.openDebug o n) := by
  have hevent : Unseen s (s.debugEvent o n 0) := unseen_commit _ _ _ (unseen_refl s)
  have hfold := (unseen_rekey Code.FOLD_DEBUG_OPEN (unseen_failJobs Code.FOLD_DEBUG_OPEN o hevent)).fold
  have hkeys := freshKeys_rekey ((s.debugEvent o n 0).failJobs Code.FOLD_DEBUG_OPEN o) Code.FOLD_DEBUG_OPEN
  unfold State.openDebug
  dsimp only
  generalize State.rekey _ _ = u at hfold hkeys ⊢
  have hpins : Only 73786976294838206465 { u with fold := { u.fold with shade := true } }
    ({ u with fold := { u.fold with shade := true } }.showPins s.i3cByte) := only_showPins _ rfl (only_refl _ _)
  generalize State.showPins _ _ = t at hpins ⊢
  have hf : t.fold = { u.fold with shade := true } := hpins.fold rfl
  have hnonce : u.fold.nonce = s.fold.nonce := nonce_of_keyless hfold
  have hdebug : u.fold.debugOpen = s.fold.debugOpen := debugOpen_of_keyless hfold
  obtain ⟨hkey0, hkey1, hframes, hdrawn⟩ := hkeys
  exact {
    keys := ⟨(congrArg Job.key (hpins.job0 rfl)).trans hkey0, (congrArg Job.key (hpins.job1 rfl)).trans hkey1, (hpins.frames rfl).trans hframes,
      by rw [hf]; exact hdrawn⟩
    shade := by rw [hf]
    nonce := (congrArg Fold.nonce hf).trans hnonce
    debug := (congrArg Fold.debugOpen hf).trans hdebug }

/-! ### A tamper input answered (R574) -/

/-- Where the response erases the keys: the input is seen, the keys are fresh, the Owner is told, and response 3 holds the device. -/
theorem tamper_erases {s : State} (n count : Nat) (hn : n ≤ 3) (hr : 2 ≤ s.tamperResponse n) :
    (s.tamper n count).fld R.FOLD_TAMPER_SEEN n n = 1 ∧ FreshKeys (s.tamper n count) ∧ (s.tamper n count).out.head? = some (.ownerMsix 1) ∧
    (s.tamper n count).fold.tamperHold = (s.fold.tamperHold || s.tamperResponse n == 3) := by
  have hset : (s.setFld R.FOLD_TAMPER_SEEN n n 1).fld R.FOLD_TAMPER_SEEN n n = 1 := fld_setFld_bit _ _ (by omega)
  have hun := unseen_rekey Code.FOLD_TAMPER (unseen_failJobs Code.FOLD_TAMPER .hardware
    (unseen_commit 0x0031 .hardware [n, s.tamperResponse n, count] (unseen_refl (s.setFld R.FOLD_TAMPER_SEEN n n 1))))
  have hkeys := freshKeys_rekey (((s.setFld R.FOLD_TAMPER_SEEN n n 1).commit 0x0031 .hardware 0 0 0 [n, s.tamperResponse n, count]).failJobs
    Code.FOLD_TAMPER .hardware) Code.FOLD_TAMPER
  unfold State.tamper
  dsimp only
  rw [if_neg (by omega : ¬ s.tamperResponse n = 0), if_neg (by omega : ¬ s.tamperResponse n = 1)]
  generalize State.rekey _ _ = u at hun hkeys ⊢
  have hseen : u.fld R.FOLD_TAMPER_SEEN n n = 1 := (fld_of_rd hun.seen n n).trans hset
  have hhold : u.fold.tamperHold = s.fold.tamperHold := tamperHold_of_keyless hun.fold
  obtain ⟨hkey0, hkey1, hframes, hdrawn⟩ := hkeys
  split
  · next h3 => exact ⟨hseen, ⟨hkey0, hkey1, hframes, hdrawn⟩, rfl, by simp [h3]⟩
  · next h3 => exact ⟨hseen, ⟨hkey0, hkey1, hframes, hdrawn⟩, rfl, by simp [h3, hhold]⟩

/-- Where the response only reports, the input is seen and audited. -/
theorem tamper_reports {s : State} (n count : Nat) (hn : n ≤ 3) (hr : s.tamperResponse n = 1) (hroom : s.auditFree ≠ 0) :
    s.tamper n count = { s with regs := (s.tamper n count).regs, audit := (s.tamper n count).audit, bells := (s.tamper n count).bells } ∧
    (s.tamper n count).fld R.FOLD_TAMPER_SEEN n n = 1 ∧ (s.tamper n count).audited 0x31 [n, 1, count] := by
  have heq : s.tamper n count = (s.setFld R.FOLD_TAMPER_SEEN n n 1).commit 0x0031 .hardware 0 0 0 [n, 1, count] := by
    unfold State.tamper
    dsimp only
    rw [if_neg (by omega), if_pos hr, hr]
  have hset : (s.setFld R.FOLD_TAMPER_SEEN n n 1).fld R.FOLD_TAMPER_SEEN n n = 1 := fld_setFld_bit _ _ (by omega)
  have hfree : 0 < (s.setFld R.FOLD_TAMPER_SEEN n n 1).auditFree := Nat.pos_of_ne_zero hroom
  rw [heq]
  have honly : Only 562949953421345 s ((s.setFld R.FOLD_TAMPER_SEEN n n 1).commit 0x0031 .hardware 0 0 0 [n, 1, count]) :=
    only_commit _ _ _ _ _ _ rfl (only_setFld _ _ _ _ rfl (only_refl _ s))
  exact ⟨honly.eq_takes, (fld_of_rd (regsOff_commit_event (by decide) _ _ _ _ _ hfree _ (by decide)) n n).trans hset, audited_commit _ _ _ _ _ _ hfree⟩

/-! ### O53 -/

/-- Debug open (R573). -/
def State.debugUp (s : State) : State := { s with fold := { s.fold with debugOpen := true } }

/-- A nonce of the Owner serves one attempt; a signature that verifies opens debug (R572, R573). -/
theorem debugUnlock_opens {s : State} (hs : s.mbServed) {n k : Nat} {sig : List Byte} (hn : s.fold.nonce = some n) (hk : s.fold.ownerKey = some k)
    (hgood : Config.ecdsaVerify k (s.debugText n) sig = true) :
    ∃ t, exec (.debugUnlock sig) s = .next t ∧ t.fold.nonce = none ∧ t.fold.debugOpen = true ∧ t.fold.shade = true ∧ t.shadeOut = true ∧
      t.fold.mbStatus = 2 ∧ FreshKeys t := by
  have hrun : exec (.debugUnlock sig) s = .next (({ s with fold := { s.fold with nonce := none } }.openDebug .owner n).debugUp.mbEnd 0 []) := by
    show execDebugUnlock sig s = _
    unfold execDebugUnlock
    rw [mailbox_served hs]
    simp only [hn, hk, hgood, if_true]
    rfl
  have hopen := opened_openDebug { s with fold := { s.fold with nonce := none } } .owner n
  generalize State.openDebug _ _ _ = u at hopen hrun
  obtain ⟨⟨hkey0, hkey1, hframes, hdrawn⟩, hshade, hnonce, -⟩ := hopen
  refine ⟨_, hrun, hnonce, rfl, hshade, shadeOut_of_shade hshade, rfl, hkey0, hkey1, hframes, hdrawn⟩

/-- A signature that does not verify is audited and spends the nonce. -/
theorem debugUnlock_refused {s : State} (hs : s.mbServed) {n k : Nat} {sig : List Byte} (hn : s.fold.nonce = some n) (hk : s.fold.ownerKey = some k)
    (hbad : Config.ecdsaVerify k (s.debugText n) sig = false) :
    exec (.debugUnlock sig) s = .next (({ s with fold := { s.fold with nonce := none } }.debugEvent .owner n Code.FOLD_DEBUG_SIGNATURE).mbFail
      Code.FOLD_DEBUG_SIGNATURE) := by
  show execDebugUnlock sig s = _
  unfold execDebugUnlock
  rw [mailbox_served hs]
  simp only [hn, hk, hbad, if_neg Bool.false_ne_true]

/-- A failed attempt spends the nonce, whether or not the log has room for its record (R572). -/
theorem nonce_spent (s : State) (n : Nat) :
    (({ s with fold := { s.fold with nonce := none } }.debugEvent .owner n Code.FOLD_DEBUG_SIGNATURE).mbFail Code.FOLD_DEBUG_SIGNATURE).fold.nonce = none := by
  have hun : Unseen { s with fold := { s.fold with nonce := none } } (({ s with fold := { s.fold with nonce := none } }.debugEvent .owner n
      Code.FOLD_DEBUG_SIGNATURE).record { code := Code.FOLD_DEBUG_SIGNATURE, cls := 7, origin := .owner, det := some 4 }) :=
    unseen_record _ (unseen_commit _ _ _ (unseen_refl _))
  unfold State.mbFail
  generalize State.record _ _ = u at hun ⊢
  have hnonce : u.fold.nonce = none := nonce_of_keyless hun.fold
  exact hnonce

/-- The challenge's answer carries the nonce drawn (R572). -/
theorem challenge_answered {s : State} (hs : s.mbServed) :
    ∃ t, exec .debugChallenge s = .next t ∧
      { s with free := s.free + 1, fold := { s.fold with nonce := some (Config.trueRandom s.free % 2 ^ 384) } }.answered t
        (beBytes 48 (Config.trueRandom s.free % 2 ^ 384)) :=
  ⟨_, show execDebugChallenge s = .next _ from mailbox_served hs false false _, answered_mbEnd _ _⟩

/-- What the failed attempt leaves. -/
theorem debugUnlock_fails {s : State} (hfull : s.auditFull = false) (hlog : 256 < s.logFree) (n : Nat) :
    let t := ({ s with fold := { s.fold with nonce := none } }.debugEvent .owner n Code.FOLD_DEBUG_SIGNATURE).mbFail Code.FOLD_DEBUG_SIGNATURE
    s.refusedMb t Code.FOLD_DEBUG_SIGNATURE ∧
    t.fold = { s.fold with nonce := none, mbStatus := Code.FOLD_DEBUG_SIGNATURE * 2 ^ 16 + 2, mbResponse := [] } ∧
    (∃ d, t.audited 0x30 (d ++ [Code.FOLD_DEBUG_SIGNATURE])) ∧ t.frames = s.frames ∧ t.job0 = s.job0 ∧ t.job1 = s.job1 := by
  intro t
  have hfree : 0 < ({ s with fold := { s.fold with nonce := none } } : State).auditFree := Nat.lt_trans (by decide) (auditFree_pos hfull)
  have haudit : State.audited _ 0x30 _ := audited_commit (s := { s with fold := { s.fold with nonce := none } }) 0x0030 .owner 0 0 0
    ((List.range 8).map (fun i => leAt (beBytes 48 n) (4 * i) 4) ++ [Code.FOLD_DEBUG_SIGNATURE]) hfree
  have hevent : Only 562949953421345 { s with fold := { s.fold with nonce := none } }
    ({ s with fold := { s.fold with nonce := none } }.debugEvent .owner n Code.FOLD_DEBUG_SIGNATURE) := only_debugEvent _ _ _ rfl (only_refl _ _)
  have hu : t = State.mbFail (State.debugEvent _ _ _ _) _ := rfl
  generalize hq : State.debugEvent _ _ _ _ = u at hevent hu
  have huaudit : u.audited 0x30 ((List.range 8).map (fun i => leAt (beBytes 48 n) (4 * i) 4) ++ [Code.FOLD_DEBUG_SIGNATURE]) := by
    rw [← hq]
    exact haudit
  have hroom : 256 < u.logFree := by
    rw [logFree_congr (hevent.log rfl)]
    exact hlog
  obtain ⟨hfold, hpool, -⟩ := mbFail_frame Code.FOLD_DEBUG_SIGNATURE hroom
  obtain ⟨hnew, hstatus, hresp, l, hout⟩ := refusedMb_mbFail Code.FOLD_DEBUG_SIGNATURE hroom
  have hfail : Only 118174469684088283153 u (u.mbFail Code.FOLD_DEBUG_SIGNATURE) := only_mbFail _ rfl (only_refl _ u)
  obtain ⟨r, hr, hkind, hdetail⟩ := huaudit
  rw [hu]
  refine ⟨⟨hnew, hstatus, hresp, l, hout.trans (by rw [hevent.out rfl])⟩, hfold.trans (by rw [hevent.fold rfl]), ⟨_, r, by rw [hpool]; exact hr, hkind, hdetail⟩,
    (hfail.frames rfl).trans (hevent.frames rfl), (hfail.job0 rfl).trans (hevent.job0 rfl), (hfail.job1 rfl).trans (hevent.job1 rfl)⟩

/-- EXTEST while locked erases the keys and shades the beams; debug stays closed (R573). -/
theorem extest_closes {s : State} (hboot : s.booted = true) (hpow : s.power ≠ .night) (hfatal : s.fatal = 0) (hdebug : s.fold.debugOpen = false) :
    ∃ t, exec .extestWhileLocked s = .next t ∧ t.fold.debugOpen = false ∧ t.fold.shade = true ∧ t.shadeOut = true ∧ FreshKeys t := by
  have hrun : exec .extestWhileLocked s = .next (s.openDebug .hardware 0) := by
    show execExtestWhileLocked s = _
    unfold execExtestWhileLocked
    rw [if_neg (by simp [alive_up hboot hpow, hdebug]), if_neg (by simp [hfatal])]
  obtain ⟨hkeys, hshade, -, hclosed⟩ := opened_openDebug s .hardware 0
  exact ⟨_, hrun, hclosed.trans hdebug, hshade, shadeOut_of_shade hshade, hkeys⟩

/-- TAMPER_CLEAR ends the hold and audits it where there was one (R574). -/
theorem tamperClear_acts {s : State} (hs : s.mbServed) :
    ∃ t, exec .tamperClear s = .next t ∧ t.fold = { s.fold with tamperHold := false, mbStatus := 2, mbResponse := [] } ∧ t.log = s.log ∧
      (s.fold.tamperHold = true → t.audited 0x31 [0, 0, s.clock.aoCount % 2 ^ 32]) ∧ (s.fold.tamperHold = false → t.audit = s.audit) := by
  have hfree : 0 < s.auditFree := Nat.lt_trans (by decide) (auditFree_pos hs.2.2.2.2)
  have hcommit : Only 562949953421345 s (s.commit 0x0031 .owner 0 0 0 [0, 0, s.clock.aoCount % 2 ^ 32]) := only_commit _ _ _ _ _ _ rfl (only_refl _ s)
  refine ⟨_, show execTamperClear s = .next _ from mailbox_served hs false false _, ?_⟩
  dsimp only
  by_cases hhold : s.fold.tamperHold = true
  · rw [if_pos hhold]
    have haudit : State.audited _ 0x31 _ := audited_commit (s := s) 0x0031 .owner 0 0 0 [0, 0, s.clock.aoCount % 2 ^ 32] hfree
    generalize s.commit _ _ _ _ _ _ = u at hcommit haudit ⊢
    exact ⟨by rw [← hcommit.fold rfl]; rfl, hcommit.log rfl, fun _ => haudit, fun hn => absurd hhold (by simp [hn])⟩
  · rw [if_neg hhold]
    exact ⟨rfl, rfl, fun hy => absurd hy hhold, fun _ => rfl⟩

/-- Settles O53, by following the jobs' end, the erasure of the keys and the pins through what opens debug or answers a tamper input. -/
theorem debugAndTamper : Obligations.DebugAndTamper := by
  unfold Obligations.DebugAndTamper
  refine ⟨fun s hs => ⟨challenge_answered hs, fun n k sig hn hk => ?_, tamperClear_acts hs⟩, fun s hboot hpow hfatal hdebug => ?_,
    fun n s hn => ⟨fun hnight => ?_, fun hpow hboot => ?_⟩⟩
  · cases hverify : Config.ecdsaVerify k (s.debugText n) sig
    · exact ⟨_, debugUnlock_refused hs hn hk hverify, nonce_spent s n, fun hg => (Bool.false_ne_true hg).elim,
        fun _ hlog => debugUnlock_fails hs.2.2.2.2 hlog n⟩
    · obtain ⟨t, hrun, hnonce, hopen, hshade, hout, hmb, hkeys⟩ := debugUnlock_opens hs hn hk hverify
      exact ⟨t, hrun, hnonce, fun _ => ⟨hopen, hshade, hout, hkeys.key0, hkeys.key1, hkeys.frames, hmb, hkeys.drawn⟩, fun hf => (Bool.false_ne_true hf.symm).elim⟩
  · obtain ⟨t, hrun, hclosed, hshade, hout, hkeys⟩ := extest_closes hboot hpow hfatal hdebug
    exact ⟨t, hrun, hclosed, hshade, hout, hkeys.key0, hkeys.key1, hkeys.frames, hkeys.drawn⟩
  · show execTamperInput n s = _
    unfold execTamperInput
    rw [if_neg (by omega), if_pos (by simpa using hnight)]
  · have hrun : exec (.tamperInput n) s = .next (s.tamper n (s.clock.aoCount % 2 ^ 32)) := by
      show execTamperInput n s = _
      unfold execTamperInput
      rw [if_neg (by omega), if_neg (by simp [hpow, hboot])]
    refine ⟨fun h0 => ⟨_, hrun, ?_⟩, fun h1 hroom => ⟨_, hrun, tamper_reports n _ hn h1 hroom⟩, fun h2 => ?_⟩
    · have hset : s.tamper n (s.clock.aoCount % 2 ^ 32) = s.setFld R.FOLD_TAMPER_SEEN n n 1 := if_pos h0
      rw [hset]
      exact ⟨rfl, fld_setFld_bit _ _ (by omega), fun a ha => rd_wr_other _ (fun he => ha (by simp [he]))⟩
    · obtain ⟨hseen, hkeys, hout, hhold⟩ := tamper_erases n (s.clock.aoCount % 2 ^ 32) hn h2
      exact ⟨_, hrun, hseen, hkeys.key0, hkeys.key1, hkeys.frames, hkeys.drawn, hout, hhold⟩

end Sys2Proof.Machine
end

section
/-! PROOFS. The audit log's signatures and its EXPORT (O54). -/

namespace Sys2Proof.Machine

section Anchoring

variable {s t : State}

/-! ### The anchors (R580) -/

/-- The anchors go to the front of the keep. -/
theorem keep_putAnchors (s : State) : ∃ r, s.putAnchors.keep.head? = some r ∧ r.typ = 0x40 ∧ r.payload = s.audit.anchors := by
  unfold State.putAnchors
  dsimp only
  split
  · have hlist : ∀ u : State, u.listKeep.keep = u.keep := fun u => (only_listKeep (mm := 562949953421312) rfl (only_refl _ u)).keep rfl
    exact ⟨_, by rw [hlist]; rfl, rfl, rfl⟩
  · exact ⟨_, rfl, rfl, rfl⟩

/-- Anchors that stand already are written again without a word of the bell. -/
theorem bells_putAnchors (h : ∃ r ∈ s.keep, r.typ = 0x40) : s.putAnchors.bells = s.bells := by
  obtain ⟨r, hr, htyp⟩ := h
  have hsome : (s.keep.find? (fun r => r.typ = 0x40)).isSome := List.find?_isSome.mpr ⟨r, hr, by simp [htyp]⟩
  unfold State.putAnchors
  dsimp only
  rw [if_neg (by simpa using Option.isSome_iff_ne_none.mp hsome)]

/-- A word of the audit page and the anchors after the pool has changed. -/
def State.anchored (s : State) (a : RegAddr) (v : Nat) : State := ((s.wr R.AUDIT_FREE s.auditFree).wr64 a v).putAnchors

/-- What anchoring leaves: the word reads as written, the anchors stand at the keep's front. -/
theorem anchored_acts (s : State) (a : RegAddr) (v : Nat) :
    Only 9570149208162305 s (s.anchored a v) ∧ ((∃ r ∈ s.keep, r.typ = 0x40) → (s.anchored a v).bells = s.bells) ∧
    (s.anchored a v).rd64 a = v % 2 ^ 64 ∧ ∃ r, (s.anchored a v).keep.head? = some r ∧ r.typ = 0x40 ∧ r.payload = s.audit.anchors := by
  have hput : Only 9570149208162304 ((s.wr R.AUDIT_FREE s.auditFree).wr64 a v) (s.anchored a v) := only_putAnchors rfl (only_refl _ _)
  refine ⟨only_putAnchors rfl (only_wr64 _ _ rfl (only_wr _ _ rfl (only_refl _ s))), fun h => bells_putAnchors h, ?_, keep_putAnchors _⟩
  have hrd := rd64_wr64 (s.wr R.AUDIT_FREE s.auditFree) a v
  unfold State.rd64 at hrd ⊢
  rw [rd_congr (hput.regs rfl), rd_congr (hput.regs rfl)]
  exact hrd

/-! ### A signature's end (R579) -/

/-- The signature of SEQ q and chain value c in the pool. -/
def State.pooled (s : State) (q c : Nat) : State := { s with audit := { s.audit with
  pool := .signature q s.clock.sec s.nsec (Config.ecdsaSign (s.signText q c)) :: s.audit.pool, entered := s.audit.entered + 1, signing := none,
  signedSeq := q, signedChain := c } }

theorem placeSign_eq (s : State) (q c : Nat) : s.placeSign q c = (s.pooled q c).anchored R.AUDIT_SIGNED_L q := rfl

theorem signed_acts {q c : Nat} (hsign : s.audit.signing = some (q, c)) (hpow : s.power ≠ .night) (hroom : s.auditFree ≠ 0)
    (hfirst : s.audit.exportSign ≠ 1) :
    ∃ t, exec .auditSignatureDone s = .next t ∧ t = { s with regs := t.regs, audit := t.audit, keep := t.keep, bells := t.bells } ∧
      ((∃ r ∈ s.keep, r.typ = 0x40) → t.bells = s.bells) ∧
      t.audit = { s.audit with
        pool := .signature q s.clock.sec s.nsec (Config.ecdsaSign (s.signText q c)) :: s.audit.pool, entered := s.audit.entered + 1, signing := none,
        signedSeq := q, signedChain := c, exportSign := t.audit.exportSign, exportCount := t.audit.exportCount } ∧
      (s.audit.exportSign = 2 → t.audit.exportSign = 3 ∧ t.audit.exportCount = s.audit.pool.length + 1) ∧
      t.rd64 R.AUDIT_SIGNED_L = q % 2 ^ 64 ∧ ∃ r, t.keep.head? = some r ∧ r.typ = 0x40 ∧ r.payload = t.audit.anchors := by
  have hrun : exec .auditSignatureDone s = .next (s.placeSign q c).exportSigned := by
    show execAuditSignatureDone s = _
    unfold execAuditSignatureDone
    simp only [hsign]
    rw [if_neg (not_or.mpr ⟨hpow, hroom⟩)]
  refine ⟨_, hrun, ?_⟩
  obtain ⟨honly, hbells, hrd, r, hhead, htyp, hpayload⟩ := anchored_acts (s.pooled q c) R.AUDIT_SIGNED_L q
  have hall : Only 9570149208162337 s (s.placeSign q c) := only_placeSign _ _ rfl (only_refl _ s)
  rw [placeSign_eq] at hall ⊢
  have haudit : State.audit _ = (s.pooled q c).audit := honly.audit rfl
  generalize State.anchored _ _ _ = u at honly hbells hrd hhead hall haudit ⊢
  by_cases htwo : s.audit.exportSign = 2
  · have hu : u.audit.exportSign = 2 := (congrArg Audit.exportSign haudit).trans htwo
    have heq : u.exportSigned = { u with audit := { u.audit with exportSign := 3, exportCount := u.audit.pool.length } } := by
      unfold State.exportSigned
      rw [hu]
      rfl
    have hput : Only 9570149208162337 s { u with audit := { u.audit with exportSign := 3, exportCount := u.audit.pool.length } } :=
      only_put32 rfl hall
    rw [heq]
    refine ⟨hput.eq_takes, hbells, ?_, fun _ => ⟨rfl, ?_⟩, hrd, r, hhead, htyp, ?_⟩
    · rw [haudit]
      rfl
    · rw [haudit]
      rfl
    · rw [hpayload, haudit]
      rfl
  · have hu : u.audit.exportSign = s.audit.exportSign := haudit ▸ rfl
    have heq : u.exportSigned = u := by
      unfold State.exportSigned
      split
      · next h1 => exact absurd (hu.symm.trans h1) hfirst
      · next h2 => exact absurd (hu.symm.trans h2) htwo
      · rfl
    rw [heq]
    refine ⟨hall.eq_takes, hbells, ?_, fun h2 => absurd h2 htwo, hrd, r, hhead, htyp, ?_⟩
    · rw [haudit]
      rfl
    · rw [hpayload, haudit]

/-! ### An EXPORT begun (R581) -/

/-- An EXPORT asked for, with none in hand (R581). -/
theorem exportCmd_begins {v : Nat} (hv : v % 2 = 1) (hidle : s.fld R.AUDIT_EXPORT_STATE 3 0 ≠ 1) (hdone : s.fld R.AUDIT_EXPORT_STATE 3 0 ≠ 2) :
    s.exportCmd v = s.exportBegin := by
  unfold State.exportCmd
  dsimp only
  rw [if_neg (by omega), if_neg hdone]

/-- An EXPORT begins with a signature, its own or the one that is under way. -/
theorem exportBegin_acts (s : State) : Only 33 s s.exportBegin ∧ s.exportBegin.fld R.AUDIT_EXPORT_STATE 3 0 = 1 ∧ s.exportBegin.audit.pool = s.audit.pool ∧
    (s.audit.signing = none → s.exportBegin.audit.signing = some (s.audit.nextSeq - 1, s.audit.chain) ∧ s.exportBegin.audit.exportSign = 2) ∧
    ∀ x, s.audit.signing = some x → s.exportBegin.audit.signing = some x ∧ s.exportBegin.audit.exportSign = 1 := by
  have hset : ({ s with audit := { s.audit with pendingSent := false, exportMade := none } }.setFld R.AUDIT_EXPORT_STATE 3 0 1).fld R.AUDIT_EXPORT_STATE 3 0 = 1 :=
    fld_setFld_same _ _ (by decide) (by decide)
  refine ⟨only_exportBegin rfl (only_refl _ s), ?_⟩
  unfold State.exportBegin
  dsimp only
  split
  · next y hsign => exact ⟨hset, rfl, fun h => (Option.some_ne_none _ (hsign.symm.trans h)).elim, fun x hx => ⟨hx, rfl⟩⟩
  · next hsign => exact ⟨hset, rfl, fun _ => ⟨rfl, rfl⟩, fun x hx => (Option.some_ne_none _ (hx.symm.trans hsign)).elim⟩

/-- An EXPORT that waits for its acknowledgement is reported again. -/
theorem exportCmd_reports {v : Nat} (hv : v % 2 = 1) (hdone : s.fld R.AUDIT_EXPORT_STATE 3 0 = 2) :
    (s.exportCmd v).audit = s.audit ∧ (s.exportCmd v).fld R.AUDIT_EXPORT_STATE 3 0 = 2 ∧ (s.exportCmd v).fld 0x3010 0 0 = 1 := by
  have heq : s.exportCmd v = s.raiseIrq 3 0 := by
    unfold State.exportCmd
    dsimp only
    rw [if_neg (by omega), if_pos hdone]
  rw [heq]
  exact ⟨(only_raiseIrq (mm := 73786976294838206465) 3 0 rfl (only_refl _ s)).audit rfl,
    (fld_of_rd (rd_raiseIrq_far s 3 0 (by decide)) 3 0).trans hdone, raiseIrq_sets s 3 (by decide)⟩

/-! ### The EXPORT's unit (R100, R581) -/

/-- The registers that report a unit, and its interrupt. -/
theorem reported_acts (s : State) (len last : Nat) {b : Nat} (hb : b ≤ 1) :
    let t := (((s.wr R.AUDIT_EXPORT_STATE (b * 256 + 2)).wr R.AUDIT_EXPORT_LEN len).wr64 R.AUDIT_EXPORT_LAST_L last).raiseIrq 3 0
    t.fld R.AUDIT_EXPORT_STATE 3 0 = 2 ∧ t.rd R.AUDIT_EXPORT_LEN = len % 2 ^ 32 ∧ t.rd64 R.AUDIT_EXPORT_LAST_L = last % 2 ^ 64 ∧ t.fld 0x3010 0 0 = 1 := by
  intro t
  have hstate : (s.wr R.AUDIT_EXPORT_STATE (b * 256 + 2)).rd R.AUDIT_EXPORT_STATE = b * 256 + 2 := rd_wr_same _ _ (by omega)
  have hlen : ((s.wr R.AUDIT_EXPORT_STATE (b * 256 + 2)).wr R.AUDIT_EXPORT_LEN len).rd R.AUDIT_EXPORT_LEN = len % 2 ^ 32 := rd_wr _ _ _
  have hlast := rd64_wr64 ((s.wr R.AUDIT_EXPORT_STATE (b * 256 + 2)).wr R.AUDIT_EXPORT_LEN len) R.AUDIT_EXPORT_LAST_L last
  have hrd : t.rd R.AUDIT_EXPORT_STATE = b * 256 + 2 := (rd_raiseIrq_far _ 3 0 (by decide)).trans
    ((rd_wr_other _ (by decide)).trans ((rd_wr_other _ (by decide)).trans ((rd_wr_other _ (by decide)).trans hstate)))
  refine ⟨?_, (rd_raiseIrq_far _ 3 0 (by decide)).trans ((rd_wr_other _ (by decide)).trans ((rd_wr_other _ (by decide)).trans hlen)), ?_,
    raiseIrq_sets _ 3 (by decide)⟩
  · show fieldOf (t.rd R.AUDIT_EXPORT_STATE) 3 0 = 2
    rw [hrd]
    unfold fieldOf
    omega
  · refine Eq.trans ?_ hlast
    exact congrArg₂ (fun x y => x + 2 ^ 32 * y) (rd_raiseIrq_far _ 3 0 (by decide)) (rd_raiseIrq_far _ 3 0 (by decide))

/-- The EXPORT's unit in its buffer. -/
def State.unitStands (s : State) (unit : List Byte) : State :=
  { s with audit := { s.audit with exportUnit := unit, exportMade := none, exportSign := 0 } }

theorem exportReady_acts {unit : List Byte} (hpow : s.power ≠ .night) (hfatal : s.fatal = 0) (hasked : s.fld R.AUDIT_EXPORT_STATE 3 0 = 1)
    (hmade : s.audit.exportMade = some unit) :
    ∃ t, exec .auditExportReady s = .next t ∧
      t = { s with regs := t.regs, audit := { s.audit with exportUnit := unit, exportMade := none, exportSign := 0 }, out := t.out } ∧
      t.fld R.AUDIT_EXPORT_STATE 3 0 = 2 ∧ t.rd R.AUDIT_EXPORT_LEN = unit.length % 2 ^ 32 ∧
      t.rd64 R.AUDIT_EXPORT_LAST_L = ((s.exportSlots.map AuditSlot.seq).foldl max 0) % 2 ^ 64 ∧ t.fld 0x3010 0 0 = 1 := by
  obtain ⟨b, hb, hrun⟩ : ∃ b ≤ 1, exec .auditExportReady s = .next (((((s.unitStands unit).wr R.AUDIT_EXPORT_STATE (b * 256 + 2)).wr R.AUDIT_EXPORT_LEN unit.length).wr64 R.AUDIT_EXPORT_LAST_L
      ((s.exportSlots.map AuditSlot.seq).foldl max 0)).raiseIrq 3 0) := by
    refine ⟨if s.audit.exportUnit = [] then 0 else 1 - s.fld R.AUDIT_EXPORT_STATE 8 8, by split <;> omega, ?_⟩
    show execAuditExportReady s = _
    unfold execAuditExportReady
    simp only [hmade]
    rw [if_neg (by simp [hpow, hfatal, hasked])]
    rfl
  refine ⟨_, hrun, ?_⟩
  generalize hu : s.unitStands unit = u
  obtain ⟨hstate, hlen, hlast, hirq⟩ := reported_acts u unit.length ((s.exportSlots.map AuditSlot.seq).foldl max 0) hb
  refine ⟨?_, hstate, hlen, hlast, hirq⟩
  have honly : Only 73786976294838206465 u (((((u.wr R.AUDIT_EXPORT_STATE (b * 256 + 2)).wr R.AUDIT_EXPORT_LEN unit.length).wr64 R.AUDIT_EXPORT_LAST_L
      ((s.exportSlots.map AuditSlot.seq).foldl max 0))).raiseIrq 3 0) :=
    only_raiseIrq _ _ rfl (only_wr64 _ _ rfl (only_wr _ _ rfl (only_wr _ _ rfl (only_refl _ u))))
  have htakes := honly.eq_takes
  generalize State.raiseIrq _ 3 0 = t at htakes ⊢
  rw [htakes, ← hu]
  rfl

/-- The verify engine's end of a unit whose output decodes. -/
theorem exec_codecCompressDone_verifies {ctx : Nat} {made : List Byte} (hlo : 4 ≤ ctx) (hhi : ctx ≤ 7) (hon : s.codecOn = true)
    (hmode : (s.ctx ctx).mode = 2) (hrun : (s.ctx ctx).st = 1) (hserved : s.codecEng.ver.contains ctx = true)
    (hver : decodeUnit (s.ctx ctx).out true (s.ctx ctx).space = .done made) (unit : List Byte) (room : Nat) :
    exec (.codecCompressDone ctx unit room none []) s =
      .next (if made = (s.ctx ctx).inp then
        ((s.setCtx ctx { s.ctx ctx with st := 4 }).inc R.CODEC_UNITS_DONE).unitDone (s.ctx ctx).purp (s.ctx ctx).item (s.ctx ctx).out
      else s.verifyMiss ctx (s.ctx ctx)) := by
  show execCodecCompressDone ctx unit room none [] s = _
  unfold execCodecCompressDone State.verifyEnd
  dsimp only
  rw [if_neg (by simp [hon]; omega), if_neg (by omega), if_neg (by omega), if_pos ⟨hmode, hrun, hserved⟩, hver]
  rfl

theorem unitFailed_export (s : State) (ctx : Nat) {purp : Nat} (h : purp = 2) : s.unitFailed ctx purp =
    ({ s.record { code := Code.CODEC_VERIFY_MISMATCH, cls := 1, lk := 8, l0 := ctx } with
       audit := { (s.record { code := Code.CODEC_VERIFY_MISMATCH, cls := 1, lk := 8, l0 := ctx }).audit with exportSign := 0, exportCount := 0 } }).setFld
      R.AUDIT_EXPORT_STATE 3 0 3 := by
  subst h
  rfl

/-- An EXPORT's unit that fails a second time ends the EXPORT with the code (R101, R109). -/
theorem exportMiss_acts {ctx : Nat} (hpurp : (s.ctx ctx).purp = 2) (hretry : (s.ctx ctx).retry = true) (hlog : 256 < s.logFree) :
    (s.verifyMiss ctx (s.ctx ctx)).fld R.AUDIT_EXPORT_STATE 3 0 = 3 ∧
    (s.verifyMiss ctx (s.ctx ctx)).audit = { s.audit with exportSign := 0, exportCount := 0 } ∧
    (s.verifyMiss ctx (s.ctx ctx)).newest Code.CODEC_VERIFY_MISMATCH 1 8 ctx 0 0 := by
  unfold State.verifyMiss
  rw [if_neg (by simp [hretry]), unitFailed_export _ _ hpurp]
  have hctx : Only 3145729 s (s.setCtx ctx { s.ctx ctx with st := 5, out := [], rel := [], err := Code.CODEC_VERIFY_MISMATCH }) :=
    only_setCtx _ _ rfl (only_refl _ s)
  generalize State.setCtx _ _ _ = u at hctx ⊢
  have hroom : 256 < u.logFree := by
    rw [logFree_congr (hctx.log rfl)]
    exact hlog
  have hnoted := noted_record (a := { code := Code.CODEC_VERIFY_MISMATCH, cls := 1, lk := 8, l0 := ctx }) rfl hroom
  generalize State.record _ _ = v at hnoted ⊢
  refine ⟨fld_setFld_same _ _ (by decide) (by decide), ?_, hnoted.newest⟩
  have haudit : v.audit = s.audit := (hnoted.only.audit rfl).trans (hctx.audit rfl)
  exact congrArg (fun a => { a with exportSign := 0, exportCount := 0 }) haudit

/-! ### An acknowledgement (R581) -/

theorem exportAck_refused (o : Origin) {v : Nat} (hwaits : s.fld R.AUDIT_EXPORT_STATE 3 0 = 2)
    (hout : v < s.audit.exportedSeq ∨ s.rd64 R.AUDIT_EXPORT_LAST_L < v) (hlog : 256 < s.logFree) :
    (s.exportAck o v).audit = s.audit ∧ (s.exportAck o v).newest Code.AUDIT_ACK_RANGE 7 6 3 (offOf R.AUDIT_EXPORT_ACK_L) v := by
  have heq : s.exportAck o v = s.refuse o Code.AUDIT_ACK_RANGE R.AUDIT_EXPORT_ACK_L (v % 2 ^ 32) := by
    unfold State.exportAck
    dsimp only
    rw [if_pos (by rw [if_pos hwaits]; exact hout)]
  have hnoted : Noted s (s.refuse o Code.AUDIT_ACK_RANGE R.AUDIT_EXPORT_ACK_L (v % 2 ^ 32)) _ := noted_record rfl hlog
  rw [heq]
  obtain ⟨r, hhead, hcode, hcls, hkind, h0, h1, h2⟩ := hnoted.newest
  exact ⟨hnoted.only.audit rfl, r, hhead, hcode, hcls, hkind, h0, h1, h2.trans (Nat.mod_mod _ _)⟩

/-- The slots acknowledged leave the pool. -/
def State.acked (s : State) (v gone : Nat) : State := { s with audit := { s.audit with
  exportedSeq := v, exportedChain := s.chainOf v, pool := s.audit.pool.take (s.audit.pool.length - gone), exportCount := s.audit.exportCount - gone } }

theorem commitWaiting_none (h : s.audit.waiting = []) : s.commitWaiting = s := by
  unfold State.commitWaiting
  rw [h]

theorem flushKeep_none (h : s.keepHeld = []) : s.flushKeep = s := by
  unfold State.flushKeep
  rw [h]
  exact (congrArg (fun l => { s with keepHeld := l }) h).symm

theorem exportAck_frees (o : Origin) {v : Nat} (hwaits : s.fld R.AUDIT_EXPORT_STATE 3 0 = 2) (hv : v < 2 ^ 64)
    (hlo : s.audit.exportedSeq ≤ v) (hhi : v ≤ s.rd64 R.AUDIT_EXPORT_LAST_L) (hnone : s.audit.waiting = []) (hkeep : s.keepHeld = [])
    {gone : Nat} (hgone : gone = (s.exportSlots.takeWhile (fun e => decide (e.seq ≤ v))).length) :
    Only 9570149208162337 s (s.exportAck o v) ∧ ((∃ r ∈ s.keep, r.typ = 0x40) → (s.exportAck o v).bells = s.bells) ∧
    (s.exportAck o v).audit = (s.acked v gone).audit ∧ (s.exportAck o v).rd64 R.AUDIT_EXPORTED_L = v ∧
    (s.exportAck o v).fld R.AUDIT_EXPORT_STATE 3 0 = (if v = s.rd64 R.AUDIT_EXPORT_LAST_L then 0 else 2) ∧
    ∃ r, (s.exportAck o v).keep.head? = some r ∧ r.typ = 0x40 ∧ r.payload = (s.exportAck o v).audit.anchors := by
  obtain ⟨honly, hbells, hrd, r, hhead, htyp, hpayload⟩ := anchored_acts (s.acked v gone) R.AUDIT_EXPORTED_L v
  have hstate : ((s.acked v gone).anchored R.AUDIT_EXPORTED_L v).fld R.AUDIT_EXPORT_STATE 3 0 = 2 := by
    have hput : Only 9570149208162304 _ ((s.acked v gone).anchored R.AUDIT_EXPORTED_L v) := only_putAnchors rfl (only_refl _ _)
    refine (fld_of_rd (rd_congr (hput.regs rfl) _) 3 0).trans ?_
    exact (fld_of_rd ((rd_wr_other _ (by decide)).trans ((rd_wr_other _ (by decide)).trans (rd_wr_other _ (by decide)))) 3 0).trans hwaits
  have heq : s.exportAck o v = ((if v = s.rd64 R.AUDIT_EXPORT_LAST_L then
      ((s.acked v gone).anchored R.AUDIT_EXPORTED_L v).setFld R.AUDIT_EXPORT_STATE 3 0 0
    else (s.acked v gone).anchored R.AUDIT_EXPORTED_L v).commitWaiting).flushKeep := by
    unfold State.exportAck
    dsimp only
    rw [if_neg (by rw [if_pos hwaits]; omega), hgone]
    simp only [hwaits, true_and]
    rfl
  have hput : Only 9570149208162337 s ((s.acked v gone).anchored R.AUDIT_EXPORTED_L v) := only_trans (only_put32 rfl (only_refl _ s)) (only_mono rfl honly)
  have haudit : ((s.acked v gone).anchored R.AUDIT_EXPORTED_L v).audit = (s.acked v gone).audit := honly.audit rfl
  have hheld : ((s.acked v gone).anchored R.AUDIT_EXPORTED_L v).keepHeld = [] := (honly.keepHeld rfl).trans hkeep
  rw [heq]
  generalize (s.acked v gone).anchored R.AUDIT_EXPORTED_L v = u at hput hbells hrd hhead hstate haudit hheld ⊢
  have hwaiting : u.audit.waiting = [] := (congrArg Audit.waiting haudit).trans hnone
  have hanchors : r.payload = u.audit.anchors := hpayload.trans (congrArg Audit.anchors haudit).symm
  rw [Nat.mod_eq_of_lt hv] at hrd
  split
  · rw [commitWaiting_none (s := u.setFld R.AUDIT_EXPORT_STATE 3 0 0) hwaiting, flushKeep_none (s := u.setFld R.AUDIT_EXPORT_STATE 3 0 0) hheld]
    have hlast : (u.setFld R.AUDIT_EXPORT_STATE 3 0 0).rd64 R.AUDIT_EXPORTED_L = v :=
      (congrArg₂ (fun x y => x + 2 ^ 32 * y) (rd_setFld_other 3 0 0 (by decide)) (rd_setFld_other 3 0 0 (by decide))).trans hrd
    exact ⟨only_setFld _ _ _ _ rfl hput, hbells, haudit, hlast, fld_setFld_same _ _ (by decide) (by decide), r, hhead, htyp, hanchors⟩
  · rw [commitWaiting_none hwaiting, flushKeep_none hheld]
    exact ⟨hput, hbells, haudit, hrd, hstate, r, hhead, htyp, hanchors⟩

/-! ### O54 -/

/-- Settles O54, by the anchors rewritten once for a signature and for an acknowledgement, and the EXPORT's steps one by one. -/
theorem auditExports : Obligations.AuditExports := by
  unfold Obligations.AuditExports
  refine ⟨fun s hpow hboot hsince hnone hsign => ?_, fun q c s hsign hpow hroom hfirst => signed_acts hsign hpow hroom hfirst, fun o v s hp hv hidle => ?_,
    fun unit s hpow hfatal hasked hmade => exportReady_acts hpow hfatal hasked hmade, fun ctx room unit made s hlo hhi hon hmode hrun hpurp hserved hver => ?_,
    fun o v s hp hwaits hv => ?_⟩
  · show execAuditSign s = _
    unfold execAuditSign
    rw [if_neg (by simp [hpow, hboot, hsince, hnone, hsign])]
    rfl
  · obtain ⟨x, hx⟩ := act_admitted hp (fun s => s.exportCmd v)
    have hrun : exec (.exportCmd o v) s = .next (State.exportCmd { s with trace := x } v) := congrArg Host.Outcome.next hx
    refine ⟨fun hdone => ?_, fun hdone => ⟨_, hrun, exportCmd_reports hv hdone⟩⟩
    rw [exportCmd_begins (s := { s with trace := x }) hv hidle hdone] at hrun
    obtain ⟨honly, hstate, hpool, hown, hother⟩ := exportBegin_acts { s with trace := x }
    have htakes : Only 4611686018427387937 s (State.exportBegin { s with trace := x }) :=
      only_trans (only_put4611686018427387904 rfl (only_refl _ s)) (only_mono rfl honly)
    exact ⟨_, hrun, htakes.eq_takes, hstate, hpool, hown, hother⟩
  · have hend := exec_codecCompressDone_verifies hlo hhi hon hmode hrun hserved hver unit room
    refine ⟨fun hmade => ?_, fun hmade hretry hlog => ?_⟩
    · rw [if_pos hmade, hpurp] at hend
      have hctx : Only 3145729 s ((s.setCtx ctx { s.ctx ctx with st := 4 }).inc R.CODEC_UNITS_DONE) := only_inc _ rfl (only_setCtx _ _ rfl (only_refl _ s))
      exact ⟨_, hend, congrArg (fun a => { a with exportMade := some (s.ctx ctx).out }) (hctx.audit rfl)⟩
    · rw [if_neg hmade] at hend
      exact ⟨_, hend, exportMiss_acts hpurp hretry hlog⟩
  · obtain ⟨x, hx⟩ := act_admitted hp (fun s => s.exportAck o v)
    have hrun : exec (.exportAck o v) s = .next (State.exportAck { s with trace := x } o v) := congrArg Host.Outcome.next hx
    refine ⟨fun hlo hhi hnone hkeep => ?_, fun hout hlog => ⟨_, hrun, exportAck_refused (s := { s with trace := x }) o hwaits hout hlog⟩⟩
    obtain ⟨honly, hbells, haudit, hacked, hstate, hanchors⟩ := exportAck_frees (s := { s with trace := x }) o hwaits hv hlo hhi hnone hkeep rfl
    have htakes : Only 4621256167635550241 s (State.exportAck { s with trace := x } o v) :=
      only_trans (only_put4611686018427387904 rfl (only_refl _ s)) (only_mono rfl honly)
    exact ⟨_, _, hrun, htakes.eq_takes, hbells, rfl, haudit, hacked, hstate, hanchors⟩

end Anchoring

end Sys2Proof.Machine
end

section
/-! PROOFS. The clock and its servo (O55). -/

namespace Sys2Proof.Machine

section Timing

variable {s t u : State}

/-! ### A step of the clock (R590) -/

/-- A step carries into SEC, and shows that it has been used. -/
theorem stepClock_acts (s : State) (ofs : Int) :
    Only 1152921504606846977 s (s.stepClock ofs) ∧
    (s.stepClock ofs).clock = { s.clock with sec := (s.stepClock ofs).clock.sec, frac := (s.stepClock ofs).clock.frac, unset := false } ∧
    (s.stepClock ofs).clock.frac < secondUnits ∧ (s.stepClock ofs).clock.sec < 2 ^ 48 ∧
    ((s.stepClock ofs).clock.sec : Int) * secondUnits + (s.stepClock ofs).clock.frac =
      ((s.clock.sec : Int) * secondUnits + s.clock.frac + ofs * 2 ^ 32) % ((secondUnits * 2 ^ 48 : Nat) : Int) ∧
    (s.stepClock ofs).fld R.TIME_STEP_USED 0 0 = 1 ∧ (s.stepClock ofs).fld 0x5008 16 16 = 0 := by
  have hunits : 0 < secondUnits := by decide
  have hwhole : (0 : Int) < ((secondUnits * 2 ^ 48 : Nat) : Int) := by exact_mod_cast Nat.mul_pos hunits (by decide)
  obtain ⟨n, hn⟩ : ∃ n : Nat, ((s.clock.sec : Int) * secondUnits + s.clock.frac + ofs * 2 ^ 32) % ((secondUnits * 2 ^ 48 : Nat) : Int) = n :=
    Int.eq_ofNat_of_zero_le (Int.emod_nonneg _ hwhole.ne')
  have hlt : n < secondUnits * 2 ^ 48 := by
    have hmod := Int.emod_lt_of_pos ((s.clock.sec : Int) * secondUnits + s.clock.frac + ofs * 2 ^ 32) hwhole
    rw [hn] at hmod
    exact_mod_cast hmod
  have heq : s.stepClock ofs = (({ s with clock := { s.clock with sec := n / secondUnits, frac := n % secondUnits, unset := false } }.wr
      R.TIME_STEP_USED 1).setFld 0x5008 16 16 0) := by
    unfold State.stepClock
    dsimp only
    rw [hn, Int.toNat_natCast]
  have hused : ∀ v : State, ((v.wr R.TIME_STEP_USED 1).setFld 0x5008 16 16 0).fld R.TIME_STEP_USED 0 0 = 1 := by
    intro v
    rw [fld_of_rd (rd_setFld_other 16 16 0 (by decide)) 0 0]
    unfold State.fld
    rw [rd_wr_same _ _ (by decide)]
    rfl
  rw [heq, hn]
  refine ⟨only_setFld _ _ _ _ rfl (only_wr _ _ rfl (only_put1152921504606846976 rfl (only_refl _ s))), rfl, Nat.mod_lt _ hunits,
    Nat.div_lt_of_lt_mul hlt, ?_, hused _, fld_setFld_same _ _ (by decide) (by decide)⟩
  show ((n / secondUnits : Nat) : Int) * secondUnits + ((n % secondUnits : Nat) : Int) = n
  rw [← Nat.cast_mul, ← Nat.cast_add, Nat.div_add_mod']

/-! ### A seconds rollover (R588, R591) -/

/-- The ticks up to a rollover pass the second by less than one increment. -/
theorem ceilDiv_reaches {frac inc : Nat} (hinc : inc ≠ 0) (hfrac : frac < secondUnits) :
    secondUnits ≤ frac + ceilDiv (secondUnits - frac) inc * inc ∧ frac + ceilDiv (secondUnits - frac) inc * inc - secondUnits < inc := by
  have hpos : 0 < inc := Nat.pos_of_ne_zero hinc
  have hdiv := Nat.div_add_mod' (secondUnits - frac + inc - 1) inc
  have hmod := Nat.mod_lt (secondUnits - frac + inc - 1) hpos
  unfold ceilDiv
  omega

theorem rollover_acts (hpow : s.power ≠ .night) (hboot : s.booted = true) (hinc : s.clockInc ≠ 0) (hfrac : s.clock.frac < secondUnits) :
    ∃ t, exec .secondsRollover s = .next t ∧ t = { s with clock := t.clock, out := t.out } ∧ t.clock.sec = (s.clock.sec + 1) % 2 ^ 48 ∧
      t.clock.frac < s.clockInc ∧ t.clock.aoSec = t.clock.sec ∧ t.clock.aoCount = 0 := by
  obtain ⟨hreach, hshort⟩ := ceilDiv_reaches hinc hfrac
  obtain ⟨hsec, hrest, hao, hcount⟩ := runClock_rolls hreach
  refine ⟨_, show execSecondsRollover s = .next _ from if_neg (by simp [hpow, hboot, hinc]),
    (only_runClock (mm := 74939897799445053440) _ rfl (only_refl _ s)).eq_takes, hsec, ?_, hao, hcount⟩
  rw [hrest]
  exact hshort

/-! ### A Sync (R592, R593) -/

/-- The registers in which a Sync shows what it measured. -/
def syncRegs : List RegAddr := [R.TIME_GM_ID_L, R.TIME_GM_ID_L + 4, R.TIME_OFFSET, R.TIME_PATH_DELAY, R.TIME_TS_ERR_MAX]

/-- From s to t they read the same. -/
def KeepsSync (s t : State) : Prop := ∀ a ∈ syncRegs, t.rd a = s.rd a

theorem keepsSync_refl (s : State) : KeepsSync s s := fun _ _ => rfl

theorem KeepsSync.trans (h : KeepsSync s t) (h' : KeepsSync t u) : KeepsSync s u := fun a ha => (h' a ha).trans (h a ha)

theorem keepsSync_wr (a v : Nat) (ha : a ∉ syncRegs) (h : KeepsSync s t) : KeepsSync s (t.wr a v) :=
  h.trans (fun _ hb => rd_wr_other v (fun he => ha (he ▸ hb)))

theorem keepsSync_regs {l : List RegAddr} (hl : ∀ a ∈ syncRegs, a ∉ l) (hr : RegsOff l t u) (h : KeepsSync s t) : KeepsSync s u :=
  h.trans (fun a ha => hr a (hl a ha))

theorem keepsSync_record (a : RecArg) (h : KeepsSync s t) : KeepsSync s (t.record a) := by
  have hoff : ∀ r ∈ syncRegs, ¬ offOf r < 0x100 := by decide
  have hhalt : ∀ r ∈ syncRegs, r ∉ haltRegs := by decide
  exact h.trans (fun r hr => (halts_record a (halts_refl t)).regs r (hoff r hr) (hhalt r hr))

theorem keepsSync_commit (kind : Nat) (o : Origin) (addr old new : Nat) (detail : List Nat) (h : KeepsSync s t) :
    KeepsSync s (t.commit kind o addr old new detail) := by
  by_cases hfree : t.auditFree = 0
  · unfold State.commit
    rw [if_pos hfree]
    exact keepsSync_wr _ _ (by decide) h
  · refine keepsSync_regs (fun a ha hm => ?_) (regsOff_commit kind o addr old new detail (Nat.pos_of_ne_zero hfree)) h
    have hoff : ∀ r ∈ syncRegs, ¬ offOf r < 0x100 := by decide
    have hhead : ∀ r ∈ syncRegs, r ∉ [R.AUDIT_HEAD_L, R.AUDIT_HEAD_L + 4, R.AUDIT_FREE] := by decide
    rcases List.mem_cons.mp hm with he | hm
    · refine hoff a ha ?_
      rw [he]
      show (_ * 0x1000 + 0x2C) % 0x1000 < 0x100
      omega
    · exact hhead a ha hm

/-- The rate demand goes into ADJ alone (R593). -/
theorem keepsSync_slew (h : KeepsSync s t) : KeepsSync s t.slew := by
  unfold State.slew
  dsimp only [State.fresh]
  generalize lowBits 20 _ = v
  have hfresh : KeepsSync s { t with free := t.free + 1 } := h
  unfold State.setReg State.change
  split
  · exact keepsSync_regs (l := []) (fun _ _ => List.not_mem_nil) (regsOff_traceRec _ _ _ _ (regsOff_refl _ _)) hfresh
  · have hno : ¬ (¬ lockable R.TIME_ADJ = true) := by decide
    rw [if_neg (by simpa using hno), if_neg (by simp)]
    exact keepsSync_regs (l := []) (fun _ _ => List.not_mem_nil) (regsOff_traceRec _ _ _ _ (regsOff_refl _ _))
      (keepsSync_wr _ _ (by decide) (keepsSync_commit _ _ _ _ _ _ hfresh))

theorem keepsSync_servo (offset : Int) (h : KeepsSync s t) : KeepsSync s (t.servo offset) := by
  unfold State.servo
  split
  · exact h
  · split
    · exact keepsSync_wr _ _ (by decide) (keepsSync_wr _ _ (by decide) h)
    · have hslew := keepsSync_slew h
      dsimp only
      generalize t.slew = u at hslew ⊢
      split
      · exact keepsSync_record _ hslew
      · exact hslew

theorem keepsSync_setPtp (v : Nat) (h : KeepsSync s t) : KeepsSync s (t.setPtp v) := keepsSync_wr _ _ (by decide) (keepsSync_wr _ _ (by decide) h)

/-- The Syncs counted within and beyond 20 µs. -/
def State.counted (s : State) (good bad : Nat) : State := { s with clock := { s.clock with goodSync := good, badSync := bad } }

theorem countSync_cases (s : State) (offset : Int) : ∃ good bad, s.countSync offset = s.counted good bad ∨ ∃ v, s.countSync offset = (s.counted good bad).setPtp v := by
  refine ⟨if offset.natAbs ≤ 20000 then min 16 (s.clock.goodSync + 1) else 0, if offset.natAbs ≤ 20000 then 0 else min 16 (s.clock.badSync + 1), ?_⟩
  unfold State.countSync State.counted
  dsimp only
  generalize (if offset.natAbs ≤ 20000 then min 16 (s.clock.goodSync + 1) else 0) = good
  generalize (if offset.natAbs ≤ 20000 then 0 else min 16 (s.clock.badSync + 1)) = bad
  split
  · exact .inr ⟨3, rfl⟩
  · split
    · exact .inr ⟨2, rfl⟩
    · exact .inl rfl

/-- Counting a Sync changes neither what it showed nor when the clock may be stepped, and of the clock its two counts alone. -/
theorem countSync_acts (s : State) (offset : Int) : KeepsSync s (s.countSync offset) ∧
    (s.countSync offset).rd R.TIME_STEP_THRESH = s.rd R.TIME_STEP_THRESH ∧ (s.countSync offset).fld R.TIME_STEP_USED 0 0 = s.fld R.TIME_STEP_USED 0 0 ∧
    ∃ good bad, (s.countSync offset).clock = { s.clock with goodSync := good, badSync := bad } := by
  obtain ⟨good, bad, h | ⟨v, h⟩⟩ := countSync_cases s offset
  · rw [h]
    exact ⟨keepsSync_refl s, rfl, rfl, good, bad, rfl⟩
  · rw [h]
    have hother : ∀ r, r ≠ R.TIME_PTP_STATE → r ≠ 0x5008 → ((s.counted good bad).setPtp v).rd r = s.rd r := fun r h1 h2 =>
      (rd_wr_other _ (Ne.symm h2)).trans (rd_wr_other _ (Ne.symm h1))
    exact ⟨keepsSync_setPtp v (keepsSync_refl s), hother _ (by decide) (by decide), fld_of_rd (hother _ (by decide) (by decide)) 0 0, good, bad, rfl⟩

/-- The Sync as its registers show it. -/
def State.showSync (s : State) (offset : Int) (delay errNs gm : Nat) : State :=
  (((s.wr64 R.TIME_GM_ID_L (gm % 2 ^ 64)).wr R.TIME_OFFSET (satOffset offset)).wr R.TIME_PATH_DELAY (min delay (2 ^ 32 - 1))).maxFld
    R.TIME_TS_ERR_MAX 15 0 errNs

theorem showSync_shows (s : State) (offset : Int) (delay errNs gm : Nat) :
    (s.showSync offset delay errNs gm).rd64 R.TIME_GM_ID_L = gm % 2 ^ 64 ∧ (s.showSync offset delay errNs gm).rd R.TIME_OFFSET = satOffset offset ∧
    (s.showSync offset delay errNs gm).rd R.TIME_PATH_DELAY = min delay (2 ^ 32 - 1) ∧
    (s.showSync offset delay errNs gm).fld R.TIME_TS_ERR_MAX 15 0 = max (s.fld R.TIME_TS_ERR_MAX 15 0) errNs % 2 ^ 16 := by
  have hoff : satOffset offset < 2 ^ 32 := by
    unfold satOffset lowBits
    omega
  have hgm := rd64_wr64 s R.TIME_GM_ID_L (gm % 2 ^ 64)
  refine ⟨?_, ?_, ?_, ?_⟩
  · rw [Nat.mod_mod] at hgm
    refine Eq.trans ?_ hgm
    exact congrArg₂ (fun x y => x + 2 ^ 32 * y)
      ((rd_setFld_other 15 0 _ (by decide)).trans ((rd_wr_other _ (by decide)).trans (rd_wr_other _ (by decide))))
      ((rd_setFld_other 15 0 _ (by decide)).trans ((rd_wr_other _ (by decide)).trans (rd_wr_other _ (by decide))))
  · exact (rd_setFld_other 15 0 _ (by decide)).trans ((rd_wr_other _ (by decide)).trans (rd_wr_same _ _ hoff))
  · exact (rd_setFld_other 15 0 _ (by decide)).trans (rd_wr_same _ _ (by omega))
  · have herr : ((((s.wr64 R.TIME_GM_ID_L (gm % 2 ^ 64)).wr R.TIME_OFFSET (satOffset offset)).wr R.TIME_PATH_DELAY (min delay (2 ^ 32 - 1)))).fld
        R.TIME_TS_ERR_MAX 15 0 = s.fld R.TIME_TS_ERR_MAX 15 0 :=
      fld_of_rd ((rd_wr_other _ (by decide)).trans ((rd_wr_other _ (by decide)).trans ((rd_wr_other _ (by decide)).trans (rd_wr_other _ (by decide))))) 15 0
    refine (fld_setFld_same _ _ (by decide) (by decide)).trans ?_
    rw [herr]

/-- The clock of a device that has heard a grandmaster, the same as before or another. -/
def Clock.heard (c : Clock) (same : Bool) : Clock :=
  { c with gm := if c.gm = 0 then 1 else if same then c.gm else 2, exchanges := if same then min 4 (c.exchanges + 1) else 1 }

theorem exec_ptpSync (hpow : s.power ≠ .night) (hboot : s.booted = true) (hservo : s.servoRuns = true) (hfatal : s.fatal = 0) (offset : Int)
    (delay errNs gm : Nat) : exec (.ptpSync offset delay errNs gm) s =
    .next (((({ s with clock := s.clock.heard (s.clock.gm ≠ 0 && s.rd64 R.TIME_GM_ID_L = gm % 2 ^ 64) }.showSync offset delay errNs gm).countSync
      offset)).servo offset) := by
  show execPtpSync offset delay errNs gm s = _
  unfold execPtpSync
  rw [if_neg (by simp [hpow, hboot, hservo, hfatal])]
  rfl

/-- A Sync with another grandmaster, or the first, begins the count of exchanges again; the clock goes on (R593). -/
theorem servo_waits {offset : Int} (h : s.clock.exchanges = 1) : s.servo offset = s := if_pos (by omega)

/-- A large offset to the first grandmaster steps the clock, once (R593, R594). -/
theorem servo_steps {offset : Int} (hfour : s.clock.exchanges = 4) (hfirst : s.clock.gm = 1) (hlarge : 1000 * s.rd R.TIME_STEP_THRESH < offset.natAbs)
    (hused : s.fld R.TIME_STEP_USED 0 0 = 0) : s.servo offset = s.stepClock (-offset) := by
  unfold State.servo
  rw [if_neg (by omega), if_pos ⟨hlarge, hused, hfirst⟩]

theorem ptpSync_acts (hpow : s.power ≠ .night) (hboot : s.booted = true) (hservo : s.servoRuns = true) (hfatal : s.fatal = 0) (offset : Int)
    (delay errNs gm : Nat) :
    ∃ t, exec (.ptpSync offset delay errNs gm) s = .next t ∧ t.rd64 R.TIME_GM_ID_L = gm % 2 ^ 64 ∧ t.rd R.TIME_OFFSET = satOffset offset ∧
      t.rd R.TIME_PATH_DELAY = min delay (2 ^ 32 - 1) ∧ t.fld R.TIME_TS_ERR_MAX 15 0 = max (s.fld R.TIME_TS_ERR_MAX 15 0) errNs % 2 ^ 16 ∧
      (s.clock.gm = 0 ∨ s.rd64 R.TIME_GM_ID_L ≠ gm % 2 ^ 64 → t.clock.exchanges = 1 ∧ t.clock.sec = s.clock.sec ∧ t.clock.frac = s.clock.frac) ∧
      (3 ≤ s.clock.exchanges → s.clock.gm = 1 → s.rd64 R.TIME_GM_ID_L = gm % 2 ^ 64 → 1000 * s.rd R.TIME_STEP_THRESH < offset.natAbs →
        s.fld R.TIME_STEP_USED 0 0 = 0 →
        (t.clock.sec : Int) * secondUnits + t.clock.frac =
          ((s.clock.sec : Int) * secondUnits + s.clock.frac - offset * 2 ^ 32) % ((secondUnits * 2 ^ 48 : Nat) : Int) ∧ t.fld R.TIME_STEP_USED 0 0 = 1) := by
  refine ⟨_, exec_ptpSync hpow hboot hservo hfatal offset delay errNs gm, ?_⟩
  generalize hsame : (s.clock.gm ≠ 0 && s.rd64 R.TIME_GM_ID_L = gm % 2 ^ 64 : Bool) = same
  obtain ⟨hid, hofs, hdelay, herr⟩ := showSync_shows { s with clock := s.clock.heard same } offset delay errNs gm
  have hshow : Only 1 { s with clock := s.clock.heard same } ({ s with clock := s.clock.heard same }.showSync offset delay errNs gm) :=
    only_setFld _ _ _ _ rfl (only_wr _ _ rfl (only_wr _ _ rfl (only_wr64 _ _ rfl (only_refl _ _))))
  have hkept : ∀ r, r ∉ syncRegs → ({ s with clock := s.clock.heard same }.showSync offset delay errNs gm).rd r = s.rd r := by
    intro r hr
    simp only [syncRegs, List.mem_cons, not_or, List.not_mem_nil, not_false_eq_true, and_true] at hr
    obtain ⟨h1, h2, h3, h4, h5⟩ := hr
    exact (rd_setFld_other 15 0 _ (Ne.symm h5)).trans ((rd_wr_other _ (Ne.symm h4)).trans ((rd_wr_other _ (Ne.symm h3)).trans
      ((rd_wr_other _ (Ne.symm h2)).trans (rd_wr_other _ (Ne.symm h1)))))
  have hclock0 : State.clock _ = s.clock.heard same := hshow.clock rfl
  generalize State.showSync _ _ _ _ _ = u at hid hofs hdelay herr hkept hclock0 ⊢
  obtain ⟨hcount, hthresh, hused, good, bad, hclock⟩ := countSync_acts u offset
  rw [hclock0] at hclock
  have hthresh := hthresh.trans (hkept _ (by decide))
  have hused := hused.trans (fld_of_rd (hkept _ (by decide)) 0 0)
  generalize u.countSync offset = v at hcount hclock hthresh hused ⊢
  have hend := hcount.trans (keepsSync_servo offset (keepsSync_refl v))
  refine ⟨?_, (hend _ (by decide)).trans hofs, (hend _ (by decide)).trans hdelay, (fld_of_rd (hend _ (by decide)) 15 0).trans herr, fun hnew => ?_,
    fun hthree hfirst hgm hlarge hfree => ?_⟩
  · exact (congrArg₂ (fun x y => x + 2 ^ 32 * y) (hend _ (by decide)) (hend _ (by decide))).trans hid
  · have hno : same = false := by
      rw [← hsame]
      rcases hnew with h | h
      · simp [h]
      · rw [decide_eq_false h, Bool.and_false]
    rw [hno] at hclock
    have hone : v.clock.exchanges = 1 := by rw [hclock]; rfl
    rw [servo_waits hone]
    exact ⟨hone, by rw [hclock]; rfl, by rw [hclock]; rfl⟩
  · have hyes : same = true := by
      rw [← hsame]
      simp [hfirst, hgm]
    rw [hyes] at hclock
    have hfour : v.clock.exchanges = 4 := by
      rw [hclock]
      show min 4 (s.clock.exchanges + 1) = 4
      omega
    have hgm1 : v.clock.gm = 1 := by
      rw [hclock]
      show (if s.clock.gm = 0 then 1 else s.clock.gm) = 1
      simp [hfirst]
    rw [servo_steps hfour hgm1 (by rw [hthresh]; exact hlarge) (hused.trans hfree)]
    obtain ⟨-, -, -, -, hsum, hstep, -⟩ := stepClock_acts v (-offset)
    have hsec : v.clock.sec = s.clock.sec := by rw [hclock]; rfl
    have hfrac : v.clock.frac = s.clock.frac := by rw [hclock]; rfl
    rw [hsec, hfrac, Int.neg_mul, ← Int.sub_eq_add_neg] at hsum
    exact ⟨hsum, hstep⟩

/-! ### A write of STEP (R590, R594) -/

/-- A step refused leaves the clock, and the record names its register. -/
theorem stepRefused_acts {o : Origin} {v code : Nat} (hlog : 256 < s.logFree) :
    (s.refuse o code R.TIME_STEP v).clock = s.clock ∧ (s.refuse o code R.TIME_STEP v).newest code 7 6 5 (offOf R.TIME_STEP) v := by
  have hnoted : Noted s (s.refuse o code R.TIME_STEP v) _ := noted_record rfl hlog
  exact ⟨hnoted.only.clock rfl, hnoted.newest⟩

theorem not_owned {o : Origin} (h : s.servoOwns = false ∨ o = .firmware) : ¬ (s.servoOwns ∧ o ≠ .firmware) :=
  fun hb => h.elim (fun hn => Bool.false_ne_true (hn.symm.trans hb.1)) hb.2

theorem writeStep_steps {o : Origin} {v : Nat} (hv : v % 2 = 1) (howns : s.servoOwns = false ∨ o = .firmware) (hused : s.fld R.TIME_STEP_USED 0 0 = 0) :
    s.writeStep o v = s.stepClock (signedOf 64 (s.rd64 R.TIME_STEP_OFS_L)) := by
  unfold State.writeStep
  rw [if_neg (not_owned howns), if_neg (by omega), if_neg (by omega)]

theorem writeStep_used {o : Origin} {v : Nat} (hv : v % 2 = 1) (howns : s.servoOwns = false ∨ o = .firmware) (hused : s.fld R.TIME_STEP_USED 0 0 = 1) :
    s.writeStep o v = s.refuse o Code.TIME_STEP_USED R.TIME_STEP v := by
  unfold State.writeStep
  rw [if_neg (not_owned howns), if_neg (by omega), if_pos hused]

/-- What a write of STEP runs on: the state with its trace grown. -/
theorem exec_step {o : Origin} {v : Nat} (hp : s.permit o R.TIME_STEP v = .ok s) :
    ∃ u, u.rd64 R.TIME_STEP_OFS_L = s.rd64 R.TIME_STEP_OFS_L ∧ Only 4611686018427387904 s u ∧ exec (.step o v) s = .next (u.writeStep o v) := by
  obtain ⟨x, hx⟩ := act_admitted hp (fun s => s.writeStep o v)
  exact ⟨{ s with trace := x }, rfl, only_put4611686018427387904 rfl (only_refl _ s), congrArg Host.Outcome.next hx⟩

/-- A grandmaster lost is recorded (R594). -/
theorem clockLost_acts (hpow : s.power ≠ .night) (hboot : s.booted = true) (hservo : s.servoRuns = true) (hfatal : s.fatal = 0) (hlog : 256 < s.logFree) :
    ∃ t, exec .timeGmLost s = .next t ∧ t = { s with regs := t.regs, log := t.log, trace := t.trace, out := t.out } ∧
      t.newest Code.TIME_GM_LOST 1 0 0 0 0 := by
  have hnoted : Noted s (s.record { code := Code.TIME_GM_LOST, cls := 1 }) _ := noted_record rfl hlog
  exact ⟨_, show execTimeGmLost s = .next _ from if_neg (by simp [hpow, hboot, hservo, hfatal]), hnoted.only.eq_takes, hnoted.newest⟩

/-- A change of the trace and then of registers and the clock, which keeps of the clock all but its time and whether it was set. -/
theorem stepped_of_only (hu : Only 4611686018427387904 s u) (ht : Only 1152921504606846977 u t)
    (hclock : t.clock = { u.clock with sec := t.clock.sec, frac := t.clock.frac, unset := false }) :
    t = { s with regs := t.regs, trace := t.trace, clock := { s.clock with sec := t.clock.sec, frac := t.clock.frac, unset := false } } := by
  have htakes : Only 5764607523034234881 s t := only_trans (only_mono rfl hu) (only_mono rfl ht)
  have hshow : t = { s with regs := t.regs, clock := t.clock, trace := t.trace } := htakes.eq_takes
  rw [hu.clock rfl] at hclock
  exact hshow.trans (congrArg (fun c => { s with regs := t.regs, clock := c, trace := t.trace }) hclock)

end Timing

/-- Settles O55, by the arithmetic of one step and of one rollover, and the registers that records leave alone. -/
theorem timeKeeps : Obligations.TimeKeeps := by
  unfold Obligations.TimeKeeps
  refine ⟨fun o v s hp hv => ?_, fun s hpow hboot hinc hfrac => rollover_acts hpow hboot hinc hfrac, fun s hpow hboot hservo hfatal => ⟨?_, fun hlog => ?_⟩⟩
  · obtain ⟨u, hofs, hu, hrun⟩ := exec_step hp
    have hclock : u.clock = s.clock := hu.clock rfl
    have hfield : u.fld R.TIME_STEP_USED 0 0 = s.fld R.TIME_STEP_USED 0 0 := fld_of_rd (rd_congr (hu.regs rfl) _) 0 0
    have howner : u.servoOwns = s.servoOwns := by
      unfold State.servoOwns
      rw [fld_of_rd (rd_congr (hu.regs rfl) _)]
    rw [← hfield, ← howner]
    refine ⟨fun howns hused => ?_, fun howns hused hlog => ?_, fun howns ho hlog => ?_⟩
    · obtain ⟨honly, hstep, hrest⟩ := stepClock_acts u (signedOf 64 (s.rd64 R.TIME_STEP_OFS_L))
      rw [writeStep_steps hv howns hused, hofs] at hrun
      rw [hclock] at hrest
      exact ⟨_, hrun, stepped_of_only hu honly hstep, hrest⟩
    · rw [writeStep_used hv howns hused] at hrun
      obtain ⟨hkept, hnew⟩ := stepRefused_acts (o := o) (v := v) (code := Code.TIME_STEP_USED) (by rw [logFree_congr (hu.log rfl)]; exact hlog)
      exact ⟨_, hrun, hkept.trans hclock, hnew⟩
    · have hrefused : u.writeStep o v = u.refuse o Code.TIME_PTP_OWNS R.TIME_STEP v := if_pos ⟨howns, ho⟩
      rw [hrefused] at hrun
      obtain ⟨hkept, hnew⟩ := stepRefused_acts (o := o) (v := v) (code := Code.TIME_PTP_OWNS) (by rw [logFree_congr (hu.log rfl)]; exact hlog)
      exact ⟨_, hrun, hkept.trans hclock, hnew⟩
  · exact fun offset delay errNs gm => ptpSync_acts hpow hboot hservo hfatal offset delay errNs gm
  · exact clockLost_acts hpow hboot hservo hfatal hlog

end Sys2Proof.Machine
end

section
/-! SUPPORT. Packets on the Ivdon links, and what containments leave of what the device has heard there (spec/18_time_ivdon.md). -/

namespace Sys2Proof.Machine

section Links

variable {s0 s t u : State}

/-! ### What stands through a record -/

/-- From s to t of the Ivdon state only the device's own packets have changed: their next SEQ and those remembered. -/
def Sends (s t : State) : Prop := ∃ q m, t.ivdon = { s.ivdon with seq := q, mine := m }

theorem sends_refl (s : State) : Sends s s := ⟨s.ivdon.seq, s.ivdon.mine, rfl⟩

theorem Sends.trans (a : Sends s0 s) (b : Sends s t) : Sends s0 t := by
  obtain ⟨q, m, hs⟩ := a
  obtain ⟨q', m', ht⟩ := b
  exact ⟨q', m', by rw [ht, hs]⟩

/-- A change of anything but the Ivdon state. -/
theorem sends_quiet (ho : Only 292842062170139131903 s t) (h : Sends s0 s) : Sends s0 t := h.trans ⟨s.ivdon.seq, s.ivdon.mine, ho.ivdon rfl⟩

theorem sends_ite {c : Prop} [Decidable c] {a b : State} (ha : Sends s0 a) (hb : Sends s0 b) : Sends s0 (if c then a else b) := by
  split
  · exact ha
  · exact hb

/-- A packet of the device's own. -/
theorem sends_flood (typ dst payload : Nat) (h : Sends s0 s) : Sends s0 (s.flood typ dst payload) := by
  unfold State.flood
  dsimp only
  exact h.trans ⟨_, _, (only_sendOn (mm := 73786976294838206464) _ _ rfl (only_refl _ _)).ivdon rfl⟩

theorem sends_floodContain (cause : Nat) (h : Sends s0 s) : Sends s0 (s.floodContain cause) := sends_ite (sends_flood _ _ _ h) h

theorem sends_enterContained (x : Stripe) (a : RecArg) (now : Bool) (k : Int) (h : Sends s0 s) : Sends s0 (s.enterContained x a now k) := by
  unfold State.enterContained
  dsimp only
  generalize hu : State.modStripe _ _ _ = u
  have hheld : Only 292842062170139131903 s u := by
    rw [← hu]
    exact only_modStripe _ _ rfl (only_recordRaw _ rfl (only_refl _ s))
  have hshade : Only 292842062170139131903 s (((u.droverTo 5).shadeOn now).allLanes 0x55 (lowBits 24 (x.flashBase + k)) |>.dropAfter x k) :=
    only_dropAfter _ _ rfl (only_allLanes _ _ rfl (only_shadeOn _ rfl (only_droverTo _ rfl hheld)))
  generalize State.dropAfter _ _ _ = v at hshade ⊢
  have hregs : Only 292842062170139131903 s (((v.setFld R.SYS_CKPT_STATE 3 0 1).wr R.SYS_CKPT_HELD (lowBits 32 k)).wr64 R.DROVER_HELD_L
      v.drover.lastIndex) :=
    only_wr _ _ rfl (only_wr _ _ rfl (only_wr _ _ rfl (only_setFld _ _ _ _ rfl hshade)))
  generalize State.wr64 _ _ _ = w at hregs ⊢
  exact sends_quiet (only_showStripes rfl (only_refl _ _)) (sends_floodContain _ (sends_quiet (only_put11063835754496 rfl hregs) h))

theorem sends_containAt (a : RecArg) (now : Bool) (k : Int) (h : Sends s0 s) : Sends s0 (s.containAt a now k) := by
  unfold State.containAt
  split
  · exact sends_quiet (only_recordRaw _ rfl (only_refl _ s)) h
  · next x _ =>
    refine sends_ite (sends_quiet ?_ h) (sends_enterContained x a now k h)
    have hnow : Only 292842062170139131903 s (if now then s.shadeOn true else s) := only_ite (only_shadeOn _ rfl (only_refl _ s)) (only_refl _ s)
    dsimp only
    generalize (if now then s.shadeOn true else s) = u at hnow ⊢
    refine only_ite ?_ (only_recordRaw _ rfl hnow)
    generalize hw : State.setFld _ R.SYS_CKPT_STATE 3 0 1 = w
    refine only_put10995116277760 rfl ?_
    rw [← hw]
    exact only_setFld _ _ _ _ rfl (only_dropAfter _ _ rfl (only_allLanes _ _ rfl (only_shadeOn _ rfl (only_droverTo _ rfl
      (only_modStripe x _ rfl (only_recordRaw _ rfl hnow))))))

/-- A record, and the containment that one may find (R465, R603). -/
theorem sends_record (a : RecArg) (h : Sends s0 s) : Sends s0 (s.record a) := by
  have hraw := sends_quiet (only_recordRaw a rfl (only_refl _ s)) h
  exact sends_ite (sends_containAt _ _ _ hraw) hraw

/-! ### Ports -/

theorem port_congr (h : t.ivdon.ports = s.ivdon.ports) (i : Nat) : t.port i = s.port i := by
  unfold State.port
  rw [h]

theorem port_setPort (s : State) (i j : Nat) (x : Port) : (s.setPort i x).port j = if i = j then x else s.port j := kget_kset _ _ _ _ _

theorem port_setPort_same (s : State) (i : Nat) (x : Port) : (s.setPort i x).port i = x := (port_setPort s i i x).trans (if_pos rfl)

theorem port_setPort_other (s : State) {i j : Nat} (x : Port) (h : j ≠ i) : (s.setPort i x).port j = s.port j :=
  (port_setPort s i j x).trans (if_neg (Ne.symm h))

/-! ### Packets sent -/

/-- A packet goes out on every port named that carries (R597). -/
theorem mem_sendOn (pkt : BitVec 128) {ps : List Nat} {q : Nat} (hq : q ∈ ps) (hc : (s.port q).carries = true) :
    Out.packet q pkt ((s.port q).blocks pkt) ∈ (s.sendOn ps pkt).out := by
  have hport : ∀ (u : State) (x : Nat), (∀ i, u.port i = s.port i) →
      ∀ i, (if (u.port x).carries then u.emit (.packet x pkt ((u.port x).blocks pkt)) else u).port i = s.port i := by
    intro u x hu i
    split
    · exact hu i
    · exact hu i
  refine foldl_reaches (P := fun u => ∀ i, u.port i = s.port i)
    (Q := fun u => Out.packet q pkt ((s.port q).blocks pkt) ∈ u.out) (fun u hu => ?_) (fun u x _ hu => hport u x hu) (fun u x _ hu => ?_) hq (fun _ => rfl)
  · rw [hu q, if_pos hc]
    exact List.mem_cons_self
  · split
    · exact List.mem_cons_of_mem _ hu
    · exact hu

/-- A packet of the device's own goes out on every port that carries. -/
theorem mem_flood (typ dst payload : Nat) {q : Nat} (hq : q ≤ 3) (hc : (s.port q).carries = true) :
    let pkt := packetOf typ (s.fld R.SYS_DEVICE_NO 11 0) dst 255 s.ivdon.seq (if typ ≥ 0x10 ∧ typ < 0x40 then s.group else 0) payload
    Out.packet q pkt ((s.port q).blocks pkt) ∈ (s.flood typ dst payload).out := by
  intro pkt
  exact mem_sendOn (s := { s with ivdon := { s.ivdon with seq := (s.ivdon.seq + 1) % 256, mine := (s.ivdon.seq :: s.ivdon.mine).take 256 } }) pkt
    (ps := [0, 1, 2, 3]) (by simp only [List.mem_cons, List.not_mem_nil, or_false]; omega) hc

/-! ### A packet passed on -/

/-- A good packet that has not been seen, remembered and passed on (R597). -/
def State.passed (s : State) (port : Nat) (p : BitVec 128) : State := (s.notePkt p).forward port p

theorem flooded_passed {typ port : Nat} {p : BitVec 128} {consume : State → State} (hears : s.hears port = true) (hok : pktOk p = true)
    (htyp : pktType p = typ) (hseen : s.seenPkt p = false) (hsrc : pktSrc p ≠ s.deviceNo) :
    s.flooded typ port p consume = if s.fatal ≠ 0 ∨ (s.power = .dusk ∧ typ ≠ 3) then s.passed port p else consume (s.passed port p) := by
  have hdup : s.dupCheck p = s := if_pos (.inl hsrc)
  unfold State.flooded
  rw [if_neg (by simp [hears]), if_neg (by simp [hok]), if_neg (by simp [htyp]), if_neg (by simp [hseen]), hdup]
  rfl

/-- What passing a packet on leaves: it is remembered, and has gone out with one hop fewer. -/
structure Passed (s t : State) (port : Nat) (p : BitVec 128) : Prop where
  only : Only 76092819304051900416 s t
  ivdon : t.ivdon = { s.ivdon with seen := t.ivdon.seen }
  seen : (pktSrc p * 256 + pktSeq p, s.clock.mono) ∈ t.ivdon.seen
  sent : ∀ q, q ≤ 3 → q ≠ port → (s.port q).carries = true → 2 ≤ pktField p 95 88 →
    let pkt := packetOf (pktType p) (pktSrc p) (pktDst p) (pktField p 95 88 - 1) (pktSeq p) (pktField p 79 72) (pktField p 71 16)
    Out.packet q pkt ((s.port q).blocks pkt) ∈ t.out

theorem passed_passed (s : State) (port : Nat) (p : BitVec 128) : Passed s (s.passed port p) port p := by
  have hfwd : Only 73786976294838206464 (s.notePkt p) (s.passed port p) := only_forward _ _ rfl (only_refl _ _)
  have hivdon : (s.passed port p).ivdon = (s.notePkt p).ivdon := hfwd.ivdon rfl
  refine ⟨only_forward _ _ rfl (only_notePkt _ rfl (only_refl _ s)), by rw [hivdon]; rfl, by rw [hivdon]; exact List.mem_cons_self,
    fun q hq hne hc hhops => ?_⟩
  unfold State.passed State.forward
  dsimp only
  rw [if_neg (by omega)]
  refine mem_sendOn (s := s.notePkt p) _ ?_ hc
  simp only [List.mem_filter, List.mem_cons, List.not_mem_nil, or_false, decide_not, Bool.not_eq_eq_eq_not, Bool.not_true, decide_eq_false_iff_not]
  exact ⟨by omega, hne⟩

/-! ### A packet of the device's group -/

theorem group_congr (hr : t.regs = s.regs) : t.group = s.group := by
  have hfld : ∀ a hi lo, t.fld a hi lo = s.fld a hi lo := fun a hi lo => fld_of_rd (rd_congr hr a) hi lo
  unfold State.group State.enabled
  rw [hfld, hfld]

/-- The device's part in its group hangs on registers, the running image and the check of its number alone (R601). -/
theorem role_congr (hr : t.regs = s.regs) (hf : t.fold = s.fold) (hd : t.ivdon.dup = s.ivdon.dup) : t.role = s.role := by
  have hfld : ∀ a hi lo, t.fld a hi lo = s.fld a hi lo := fun a hi lo => fld_of_rd (rd_congr hr a) hi lo
  have hsync : t.syncLevel = s.syncLevel := by
    unfold State.syncLevel
    rw [hf]
  have hcause : t.observerCause = s.observerCause := by
    unfold State.observerCause
    rw [group_congr hr, hsync, hfld, hd]
  unfold State.role
  rw [hcause, group_congr hr, hfld, hfld]

theorem grouped_congr (h : t.role = s.role) : t.grouped = s.grouped := by
  unfold State.grouped
  rw [h]

theorem Passed.role {port : Nat} {p : BitVec 128} (h : Passed s t port p) : t.role = s.role :=
  role_congr (h.only.regs rfl) (h.only.fold rfl) (by rw [h.ivdon])

/-- A packet consumed in Day. -/
theorem flooded_day {typ port : Nat} {p : BitVec 128} {consume : State → State} (hears : s.hears port = true) (hfatal : s.fatal = 0)
    (hday : s.power = .day) (hok : pktOk p = true) (htyp : pktType p = typ) (hseen : s.seenPkt p = false) (hsrc : pktSrc p ≠ s.deviceNo) :
    s.flooded typ port p consume = consume (s.passed port p) := by
  rw [flooded_passed hears hok htyp hseen hsrc, if_neg (by simp [hfatal, hday])]

/-- A packet of its group consumed in Day by a member or the leader (R601). -/
theorem groupPkt_day {typ port : Nat} {p : BitVec 128} {consume : State → State} (hears : s.hears port = true) (hfatal : s.fatal = 0)
    (hday : s.power = .day) (hok : pktOk p = true) (htyp : pktType p = typ) (hseen : s.seenPkt p = false) (hsrc : pktSrc p ≠ s.deviceNo)
    (hgrouped : s.grouped = true) (hgroup : pktField p 79 72 = s.group) : s.groupPkt typ port p consume = consume (s.passed port p) := by
  have hpassed := passed_passed s port p
  unfold State.groupPkt
  rw [flooded_day hears hfatal hday hok htyp hseen hsrc]
  exact if_pos ⟨(grouped_congr hpassed.role).trans hgrouped, hgroup.trans (group_congr (hpassed.only.regs rfl)).symm⟩

end Links

end Sys2Proof.Machine
end

section
/-! PROOFS. What the Ivdon links do (O56). -/

namespace Sys2Proof.Machine

section Serving

variable {s t u : State} {port : Nat} {p : BitVec 128}

/-! ### Packets that are not acted on (R596, R597) -/

/-- A change of a port and then of the log, as the state shows it. -/
theorem ports_shown (hu : t.ivdon = { s.ivdon with ports := t.ivdon.ports }) (ho : Only 80704505322479288337 s t) :
    t = { s with regs := t.regs, log := t.log, ivdon := { s.ivdon with ports := t.ivdon.ports }, trace := t.trace, out := t.out } := by
  have hshow : t = { s with regs := t.regs, log := t.log, ivdon := t.ivdon, trace := t.trace, out := t.out } := ho.eq_takes
  exact hshow.trans (congrArg (fun i => { s with regs := t.regs, log := t.log, ivdon := i, trace := t.trace, out := t.out }) hu)

/-- A port set and a record made with room. -/
theorem portNoted_acts {i : Nat} {x : Port} {a : RecArg} (hc : a.cmd = none) (hlog : 256 < s.logFree) :
    ((s.setPort i x).record a).port i = x ∧ (∀ j, j ≠ i → ((s.setPort i x).record a).port j = s.port j) ∧
    (s.setPort i x).record a = { s with regs := ((s.setPort i x).record a).regs, log := ((s.setPort i x).record a).log, ivdon := { s.ivdon with ports := ((s.setPort i x).record a).ivdon.ports }, trace := ((s.setPort i x).record a).trace, out := ((s.setPort i x).record a).out } ∧
    ((s.setPort i x).record a).newest a.code a.cls a.lk a.l0 a.l1 a.l2 := by
  have hnoted : Noted (s.setPort i x) ((s.setPort i x).record a) a := noted_record hc hlog
  have hall : Only 80704505322479288337 s ((s.setPort i x).record a) := only_trans (only_setPort _ _ rfl (only_refl _ s)) (only_mono rfl hnoted.only)
  have hivdon : ((s.setPort i x).record a).ivdon = (s.setPort i x).ivdon := hnoted.only.ivdon rfl
  generalize (s.setPort i x).record a = t at hnoted hall hivdon ⊢
  have hports : t.ivdon.ports = (s.setPort i x).ivdon.ports := congrArg Ivdon.ports hivdon
  refine ⟨(port_congr hports i).trans (port_setPort_same s i x), fun j hj => (port_congr hports j).trans (port_setPort_other s x hj),
    ports_shown (by rw [hivdon]; rfl) hall, hnoted.newest⟩

theorem flooded_bad {typ : Nat} {consume : State → State} (hears : s.hears port = true) (hbad : pktOk p = false) :
    s.flooded typ port p consume = s.badPkt port := by
  unfold State.flooded
  rw [if_neg (by simp [hears]), if_pos (by simp [hbad])]

/-- Whatever command brings it, a packet with a wrong CRC is counted and reported. -/
theorem exec_bad (hears : s.hears port = true) (hbad : pktOk p = false) {c : Instr} (hc : c = .hello port p ∨ c = .level port p ∨ c = .ivdonWake port p ∨
    c = .ready port p ∨ c = .epoch port p ∨ c = .contain port p ∨ c = .alive port p ∨ c = .mgmt port p) : exec c s = .next (s.badPkt port) := by
  rcases hc with rfl | rfl | rfl | rfl | rfl | rfl | rfl | rfl
  · show execHello port p s = _
    unfold execHello
    rw [if_neg (by simp [hears]), if_pos (by simp [hbad])]
  all_goals exact congrArg Host.Outcome.next (flooded_bad hears hbad)

/-- A HELLO names the neighbour (R600). -/
theorem hello_acts (hears : s.hears port = true) (hok : pktOk p = true) (htyp : pktType p = 1) :
    ∃ t, exec (.hello port p) s = .next t ∧ t = { s with ivdon := { s.ivdon with ports := t.ivdon.ports } } ∧
      t.port port = { s.port port with nb := pktSrc p, nbPort := pktField p 31 30 } ∧ ∀ i, i ≠ port → t.port i = s.port i := by
  have hrun : exec (.hello port p) s = .next (s.setPort port { s.port port with nb := pktSrc p, nbPort := pktField p 31 30 }) := by
    show execHello port p s = _
    unfold execHello
    rw [if_neg (by simp [hears]), if_neg (by simp [hok]), if_neg (by simp [htyp])]
  exact ⟨_, hrun, rfl, port_setPort_same _ _ _, fun i hi => port_setPort_other _ _ hi⟩

/-- A LEVEL already seen is counted as dropped. -/
theorem level_dropped (hears : s.hears port = true) (hok : pktOk p = true) (hseen : s.seenPkt p = true) (htyp : pktType p = 2) :
    ∃ t, exec (.level port p) s = .next t ∧ t = { s with regs := t.regs } ∧
      t.rd R.IVDON_FLOOD_DROPS = min (2 ^ 32 - 1) (s.rd R.IVDON_FLOOD_DROPS + 1) ∧ s.regsBut t [R.IVDON_FLOOD_DROPS] := by
  have hrun : exec (.level port p) s = .next (s.inc R.IVDON_FLOOD_DROPS) := by
    refine congrArg Host.Outcome.next ?_
    unfold State.flooded
    rw [if_neg (by simp [hears]), if_neg (by simp [hok]), if_neg (by simp [htyp]), if_pos hseen]
  exact ⟨_, hrun, rfl, rd_bump_whole s _ 1, fun a ha => rd_setFld_other _ _ _ (fun he => ha (by simp [he]))⟩

/-! ### Packets acted on -/

/-- What consuming a packet leaves of what the device has seen and sent. -/
structure Heeds (s t : State) : Prop where
  seen : t.ivdon.seen = s.ivdon.seen
  out : s.out <:+ t.out

/-- A packet remembered and passed on with one hop fewer (R597). -/
structure PassedOn (s t : State) (port : Nat) (p : BitVec 128) : Prop where
  seen : (pktSrc p * 256 + pktSeq p, s.clock.mono) ∈ t.ivdon.seen
  sent : ∀ q, q ≤ 3 → q ≠ port → (s.port q).carries = true → 2 ≤ pktField p 95 88 →
    let pkt := packetOf (pktType p) (pktSrc p) (pktDst p) (pktField p 95 88 - 1) (pktSeq p) (pktField p 79 72) (pktField p 71 16)
    Out.packet q pkt ((s.port q).blocks pkt) ∈ t.out

theorem Passed.heeds (h : Passed s t port p) (hu : Heeds t u) : PassedOn s u port p :=
  ⟨hu.seen ▸ h.seen, fun q hq hne hc hhops => hu.out.subset (h.sent q hq hne hc hhops)⟩

theorem heeds_refl (s : State) : Heeds s s := ⟨rfl, List.suffix_rfl⟩

/-- The level offered, and the ring's level where it falls (R601). -/
def State.heedLevel (s : State) (p : BitVec 128) : State :=
  if pktField p 71 64 < s.ivdon.ring then
    (({ s with ivdon := { s.ivdon with offers := kput s.ivdon.offers (pktSrc p) (pktField p 71 64) } }).setRing (pktField p 71 64)).record
      { code := Code.IVDON_LEVEL_DOWN, cls := 0, lk := 8, l0 := pktField p 71 64 }
  else { s with ivdon := { s.ivdon with offers := kput s.ivdon.offers (pktSrc p) (pktField p 71 64) } }

theorem exec_level (port : Nat) (p : BitVec 128) (s : State) : exec (.level port p) s = .next (s.flooded 2 port p (fun s => s.heedLevel p)) := rfl

theorem heeds_heedLevel (s : State) (p : BitVec 128) : Heeds s (s.heedLevel p) := by
  unfold State.heedLevel
  split
  · have hstands := stands_record (c := false) { code := Code.IVDON_LEVEL_DOWN, cls := 0, lk := 8, l0 := pktField p 71 64 }
      (stands_refl false (({ s with ivdon := { s.ivdon with offers := kput s.ivdon.offers (pktSrc p) (pktField p 71 64) } }).setRing (pktField p 71 64)))
    obtain ⟨q, m, hivdon⟩ := sends_record { code := Code.IVDON_LEVEL_DOWN, cls := 0, lk := 8, l0 := pktField p 71 64 }
      (sends_refl (({ s with ivdon := { s.ivdon with offers := kput s.ivdon.offers (pktSrc p) (pktField p 71 64) } }).setRing (pktField p 71 64)))
    exact ⟨by rw [hivdon]; rfl, hstands.out⟩
  · exact ⟨rfl, List.suffix_rfl⟩

/-- The ring's level after a LEVEL: the lower of the two, with the offer kept. -/
theorem heedLevel_acts (s : State) (p : BitVec 128) : (s.heedLevel p).ivdon.ring = min s.ivdon.ring (pktField p 71 64) ∧
    kget? (s.heedLevel p).ivdon.offers (pktSrc p) = some (pktField p 71 64) := by
  unfold State.heedLevel
  split
  · next hlt =>
    obtain ⟨q, m, hivdon⟩ := sends_record { code := Code.IVDON_LEVEL_DOWN, cls := 0, lk := 8, l0 := pktField p 71 64 }
      (sends_refl (({ s with ivdon := { s.ivdon with offers := kput s.ivdon.offers (pktSrc p) (pktField p 71 64) } }).setRing (pktField p 71 64)))
    rw [hivdon]
    exact ⟨(Nat.min_eq_right (Nat.le_of_lt hlt)).symm, (kget?_kput _ _ _ _).trans (if_pos rfl)⟩
  · next hge => exact ⟨(Nat.min_eq_left (Nat.le_of_not_lt hge)).symm, (kget?_kput _ _ _ _).trans (if_pos rfl)⟩

/-- A member heard, with its format level (R604). -/
def State.heedAlive (s : State) (p : BitVec 128) : State :=
  { s with ivdon := { s.ivdon with
      heard := if s.ivdon.heard.contains (pktSrc p) then s.ivdon.heard else pktSrc p :: s.ivdon.heard
      formats := kput s.ivdon.formats (pktSrc p) (pktField p 31 16) } }

theorem exec_alive (port : Nat) (p : BitVec 128) (s : State) : exec (.alive port p) s =
    .next (s.groupPkt 0x13 port p (fun s => s.heedAlive p)) := rfl

/-- A packet that wakes the device, or not (R500). -/
def State.heedWake (s : State) (p : BitVec 128) : State := if pktField p 71 71 = 1 ∨ pktDst p = s.deviceNo then s.wake 3 else s

theorem exec_wakePkt (port : Nat) (p : BitVec 128) (s : State) : exec (.ivdonWake port p) s = .next (s.flooded 3 port p (fun s => s.heedWake p)) := rfl

theorem heeds_heedWake (s : State) (p : BitVec 128) : Heeds s (s.heedWake p) := by
  unfold State.heedWake
  split
  · have honly : Only 257 s (s.wake 3) := only_wake 3 rfl (only_refl _ s)
    exact ⟨congrArg Ivdon.seen (honly.ivdon rfl), by rw [honly.out rfl]⟩
  · exact heeds_refl s

/-- What a packet consumed or only passed on leaves. -/
theorem flooded_heeds {typ : Nat} {consume : State → State} (hears : s.hears port = true) (hok : pktOk p = true) (htyp : pktType p = typ)
    (hseen : s.seenPkt p = false) (hsrc : pktSrc p ≠ s.deviceNo) (hconsume : ∀ v, Heeds v (consume v)) :
    PassedOn s (s.flooded typ port p consume) port p := by
  refine (passed_passed s port p).heeds ?_
  rw [flooded_passed hears hok htyp hseen hsrc]
  split
  · exact heeds_refl _
  · exact hconsume _

/-- LEVEL in Day (R601). -/
theorem level_acts (hears : s.hears port = true) (hfatal : s.fatal = 0) (hday : s.power = .day) (hok : pktOk p = true) (htyp : pktType p = 2)
    (hseen : s.seenPkt p = false) (hsrc : pktSrc p ≠ s.deviceNo) :
    ∃ t, exec (.level port p) s = .next t ∧ t.ivdon.ring = min s.ivdon.ring (pktField p 71 64) ∧ kget? t.ivdon.offers (pktSrc p) = some (pktField p 71 64) ∧
      (s.ivdon.ring ≤ pktField p 71 64 → t = { s with ivdon := t.ivdon, out := t.out }) ∧
      (pktField p 71 64 < s.ivdon.ring → 256 < s.logFree → t.newest Code.IVDON_LEVEL_DOWN 0 8 (pktField p 71 64) 0 0) := by
  have hpassed := passed_passed s port p
  have hrun := (exec_level port p s).trans (congrArg Host.Outcome.next (flooded_day hears hfatal hday hok htyp hseen hsrc))
  refine ⟨_, hrun, ?_⟩
  generalize s.passed port p = v at hpassed ⊢
  have hring : v.ivdon.ring = s.ivdon.ring := by rw [hpassed.ivdon]
  obtain ⟨hmin, hoffer⟩ := heedLevel_acts v p
  rw [hring] at hmin
  refine ⟨hmin, hoffer, fun hle => ?_, fun hlt hlog => ?_⟩
  · have hstay : v.heedLevel p = { v with ivdon := { v.ivdon with offers := kput v.ivdon.offers (pktSrc p) (pktField p 71 64) } } :=
      if_neg (by rw [hring]; omega)
    rw [hstay]
    exact (only_put2305843009213693952 rfl hpassed.only).eq_takes
  · have hfall : v.heedLevel p = State.record _ _ := if_pos (by rw [hring]; exact hlt)
    rw [hfall]
    have hroom : 256 < v.logFree := by rw [logFree_congr (hpassed.only.log rfl)]; exact hlog
    exact (noted_record (s := ({ v with ivdon := { v.ivdon with offers := kput v.ivdon.offers (pktSrc p) (pktField p 71 64) } }).setRing (pktField p 71 64))
      (a := { code := Code.IVDON_LEVEL_DOWN, cls := 0, lk := 8, l0 := pktField p 71 64 }) rfl hroom).newest

/-- A wake from Dusk begins, and names its cause (R500). -/
theorem wake_starts {cause : Nat} (hcause : cause < 8) (hfatal : s.fatal = 0) (hboot : s.booted = true) (hnight : s.nightReady = false)
    (hdusk : s.power = .dusk) (hphase : s.phase = 0) :
    Only 257 s (s.wake cause) ∧ (s.wake cause).phase = 3 ∧ (s.wake cause).fld R.CLK_POWER_STATE 18 16 = cause ∧
    (s.wake cause).fld R.SYS_POWER_REQ 1 0 = 0 := by
  have hstart : s.wake cause = ({ s with phase := 3 }.setFld R.CLK_POWER_STATE 18 16 cause).setFld R.SYS_POWER_REQ 1 0 0 := by
    unfold State.wake
    rw [if_neg (by simp [hfatal, hboot, hnight]), if_neg (by simp [hdusk]), if_pos ⟨hdusk, hphase⟩]
  have hset : ({ s with phase := 3 }.setFld R.CLK_POWER_STATE 18 16 cause).fld R.CLK_POWER_STATE 18 16 = cause % 2 ^ 3 :=
    fld_setFld_same _ _ (by decide) (by decide)
  rw [Nat.mod_eq_of_lt (show cause < 2 ^ 3 from hcause)] at hset
  refine ⟨only_wake _ rfl (only_refl _ s), ?_⟩
  rw [hstart]
  exact ⟨rfl, (fld_of_rd (rd_setFld_other 1 0 0 (by decide)) 18 16).trans hset, fld_setFld_same _ _ (by decide) (by decide)⟩

/-- WAKE in Dusk (R500). -/
theorem wakePkt_acts (hears : s.hears port = true) (hfatal : s.fatal = 0) (hok : pktOk p = true) (hseen : s.seenPkt p = false)
    (hsrc : pktSrc p ≠ s.deviceNo) (htyp : pktType p = 3) (hdusk : s.power = .dusk) (hphase : s.phase = 0) (hnight : s.nightReady = false)
    (hwakes : pktField p 71 71 = 1 ∨ pktDst p = s.deviceNo) :
    ∃ t, exec (.ivdonWake port p) s = .next t ∧ t = { s with regs := t.regs, phase := 3, ivdon := t.ivdon, out := t.out } ∧
      t.fld R.CLK_POWER_STATE 18 16 = 3 ∧ t.fld R.SYS_POWER_REQ 1 0 = 0 := by
  have hboot : s.booted = true := by
    unfold State.hears at hears
    simp only [Bool.and_eq_true] at hears
    exact hears.1.1.2
  have hpassed := passed_passed s port p
  have hrun := (exec_wakePkt port p s).trans (congrArg Host.Outcome.next (flooded_passed hears hok htyp hseen hsrc))
  rw [if_neg (by simp [hfatal])] at hrun
  generalize s.passed port p = v at hpassed hrun
  have hno : v.deviceNo = s.deviceNo := fld_of_rd (rd_congr (hpassed.only.regs rfl) _) 11 0
  have hwake : v.heedWake p = v.wake 3 := if_pos (by rw [hno]; exact hwakes)
  obtain ⟨honly, hphase, hcause, hreq⟩ := wake_starts (cause := 3) (by decide) ((hpassed.only.fatal rfl).trans hfatal) ((hpassed.only.booted rfl).trans hboot)
    ((hpassed.only.nightReady rfl).trans hnight) ((hpassed.only.power rfl).trans hdusk) ((hpassed.only.phase rfl).trans hphase)
  rw [hwake] at hrun
  generalize v.wake 3 = t at hrun honly hphase hcause hreq
  have hall : Only 76092819304051900673 s t := only_trans (only_mono rfl hpassed.only) (only_mono rfl honly)
  have hshow : t = { s with regs := t.regs, phase := t.phase, ivdon := t.ivdon, out := t.out } := hall.eq_takes
  exact ⟨t, hrun, hshow.trans (congrArg (fun n => { s with regs := t.regs, phase := n, ivdon := t.ivdon, out := t.out }) hphase), hcause, hreq⟩

/-- MGMT only passes. -/
theorem mgmt_acts (hears : s.hears port = true) (hok : pktOk p = true) (hseen : s.seenPkt p = false) (hsrc : pktSrc p ≠ s.deviceNo) (htyp : pktType p = 0x40) :
    ∃ t, exec (.mgmt port p) s = .next t ∧ t = { s with ivdon := { s.ivdon with seen := t.ivdon.seen }, out := t.out } := by
  have hpassed := passed_passed s port p
  have hrun : exec (.mgmt port p) s = .next (s.passed port p) := by
    refine congrArg Host.Outcome.next ((flooded_passed hears hok htyp hseen hsrc).trans ?_)
    split <;> rfl
  generalize s.passed port p = v at hpassed hrun
  have hshow : v = { s with ivdon := v.ivdon, out := v.out } := hpassed.only.eq_takes
  exact ⟨v, hrun, hshow.trans (congrArg (fun i => { s with ivdon := i, out := v.out }) hpassed.ivdon)⟩

/-- ALIVE of a member in Day (R604). -/
theorem alive_acts (hears : s.hears port = true) (hfatal : s.fatal = 0) (hday : s.power = .day) (hok : pktOk p = true) (hseen : s.seenPkt p = false)
    (hsrc : pktSrc p ≠ s.deviceNo) (htyp : pktType p = 0x13) (hgrouped : s.grouped = true) (hgroup : pktField p 79 72 = s.group) :
    ∃ t, exec (.alive port p) s = .next t ∧ t = { s with ivdon := t.ivdon, out := t.out } ∧ pktSrc p ∈ t.ivdon.heard ∧
      kget? t.ivdon.formats (pktSrc p) = some (pktField p 31 16) := by
  have hpassed := passed_passed s port p
  have hrun := (exec_alive port p s).trans
    (congrArg Host.Outcome.next (groupPkt_day hears hfatal hday hok htyp hseen hsrc hgrouped hgroup))
  generalize s.passed port p = v at hpassed hrun
  refine ⟨_, hrun, (only_put2305843009213693952 rfl hpassed.only).eq_takes, ?_, (kget?_kput _ _ _ _).trans (if_pos rfl)⟩
  show pktSrc p ∈ (if v.ivdon.heard.contains (pktSrc p) then v.ivdon.heard else pktSrc p :: v.ivdon.heard)
  split
  · next h => exact List.contains_iff_mem.mp h
  · exact List.mem_cons_self

theorem exec_mgmt (port : Nat) (p : BitVec 128) (s : State) : exec (.mgmt port p) s = .next (s.flooded 0x40 port p id) := rfl

/-- What every packet that is passed on leaves (R597). -/
theorem passedOn (hears : s.hears port = true) (hok : pktOk p = true) (hseen : s.seenPkt p = false) (hsrc : pktSrc p ≠ s.deviceNo) {t : State}
    (h : (pktType p = 2 ∧ s.power = .day ∧ exec (.level port p) s = .next t) ∨ (pktType p = 3 ∧ exec (.ivdonWake port p) s = .next t) ∨
      (pktType p = 0x13 ∧ exec (.alive port p) s = .next t) ∨ (pktType p = 0x40 ∧ exec (.mgmt port p) s = .next t)) :
    PassedOn s t port p := by
  rcases h with ⟨htyp, -, hrun⟩ | ⟨htyp, hrun⟩ | ⟨htyp, hrun⟩ | ⟨htyp, hrun⟩
  · rw [← Host.Outcome.next.inj ((exec_level port p s).symm.trans hrun)]
    exact flooded_heeds hears hok htyp hseen hsrc (fun v => heeds_heedLevel v p)
  · rw [← Host.Outcome.next.inj ((exec_wakePkt port p s).symm.trans hrun)]
    exact flooded_heeds hears hok htyp hseen hsrc (fun v => heeds_heedWake v p)
  · rw [← Host.Outcome.next.inj ((exec_alive port p s).symm.trans hrun)]
    refine flooded_heeds hears hok htyp hseen hsrc (fun v => ?_)
    split
    · exact ⟨rfl, List.suffix_rfl⟩
    · exact heeds_refl v
  · rw [← Host.Outcome.next.inj ((exec_mgmt port p s).symm.trans hrun)]
    exact flooded_heeds hears hok htyp hseen hsrc heeds_refl

/-! ### Ports (R595, R598, R610) -/

theorem portDown_acts (hears : s.hears port = true) (hlog : 256 < s.logFree) :
    ∃ t, exec (.ivdonPortDown port) s = .next t ∧ t.port port = { s.port port with st := 1, relay := false, downs := satAdd 65535 (s.port port).downs 1 } ∧
      (∀ i, i ≠ port → t.port i = s.port i) ∧ t.newest Code.IVDON_PORT_DOWN 1 8 port 0 0 ∧
      t = { s with regs := t.regs, log := t.log, ivdon := { s.ivdon with ports := t.ivdon.ports }, trace := t.trace, out := t.out } := by
  have hcarries : (s.port port).carries = true := by
    unfold State.hears at hears
    simp only [Bool.and_eq_true] at hears
    exact hears.2
  have hrun : exec (.ivdonPortDown port) s = .next ((s.setPort port { s.port port with
      st := 1, relay := false, downs := satAdd 65535 (s.port port).downs 1 }).record
      { code := Code.IVDON_PORT_DOWN, cls := 1, lk := 8, l0 := port, stripe := s.active.bind Stripe.who }) := by
    show execIvdonPortDown port s = _
    unfold execIvdonPortDown State.portDown
    rw [if_pos hears, if_neg (by simp [hcarries])]
  obtain ⟨hport, hother, hshow, hnew⟩ := portNoted_acts (i := port) (x := { s.port port with
    st := 1, relay := false, downs := satAdd 65535 (s.port port).downs 1 })
    (a := { code := Code.IVDON_PORT_DOWN, cls := 1, lk := 8, l0 := port, stripe := s.active.bind Stripe.who }) rfl hlog
  exact ⟨_, hrun, hport, hother, hnew, hshow⟩

/-- A port as its training leaves it (R595, R598). -/
def Port.trained (x : Port) (st rate nb nbPort lane : Nat) (relay : Bool) : Port :=
  { x with st, rate, nb := nb % 4096, nbPort := nbPort % 4, prevRate := rate + 1, lane, relay }

/-- A rate lower than the last is recorded (R598). -/
def State.rateShown (s : State) (port prev rate : Nat) : State :=
  if rate + 1 < prev then s.record { code := Code.IVDON_RATE_DOWN, cls := 0, lk := 8, l0 := port } else s

theorem exec_trained_up {rate : Nat} (nb nbPort : Nat) (hport : port ≤ 3) (hst : (s.port port).st = 1) (hpow : s.power ≠ .night) (hrate : rate ≤ 2)
    (hallowed : (s.fld R.IVDON_CFG 10 8).testBit rate = true) : exec (.ivdonPortTrained port rate .up nb nbPort) s =
    .next ((s.setPort port ((s.port port).trained 2 rate nb nbPort 0 (decide (s.power = .dusk)))).rateShown port (s.port port).prevRate rate) := by
  have hrelay : (decide (s.power = .dusk) && decide (2 = 2)) = decide (s.power = .dusk) := Bool.and_true _
  show execIvdonPortTrained port rate .up nb nbPort s = _
  unfold execIvdonPortTrained
  dsimp only
  rw [if_neg (by simp [hst, hpow]; omega), if_neg (by simp [hallowed]; omega), if_pos rfl, hrelay]
  rfl

theorem exec_trained_degraded {rate lane : Nat} (nb nbPort : Nat) (hport : port ≤ 3) (hst : (s.port port).st = 1) (hpow : s.power ≠ .night) (hrate : rate ≤ 2)
    (hallowed : (s.fld R.IVDON_CFG 10 8).testBit rate = true) (hlane : lane ≤ 1) : exec (.ivdonPortTrained port rate (.degraded lane) nb nbPort) s =
    .next (((s.setPort port ((s.port port).trained 3 rate nb nbPort lane false)).record
      { code := Code.IVDON_PORT_DEGRADED, cls := 0, lk := 8, l0 := port }).rateShown port (s.port port).prevRate rate) := by
  have hrelay : (decide (s.power = .dusk) && decide (3 = 2)) = false := Bool.and_false _
  show execIvdonPortTrained port rate (.degraded lane) nb nbPort s = _
  unfold execIvdonPortTrained
  dsimp only
  have hthree : (if PortEnd.degraded lane = PortEnd.up then 2 else 3) = 3 := if_neg (fun h => nomatch h)
  rw [if_neg (by simp [hst, hpow]; omega), if_neg (by simp [hallowed]; omega), hthree, if_pos rfl, hrelay, Nat.mod_eq_of_lt (by omega : lane < 2)]
  rfl

theorem exec_trained_failed {rate : Nat} (nb nbPort : Nat) (hport : port ≤ 3) (hst : (s.port port).st = 1) (hpow : s.power ≠ .night) :
    exec (.ivdonPortTrained port rate .failed nb nbPort) s = .next (s.setPort port { s.port port with st := 5 }) := by
  show execIvdonPortTrained port rate .failed nb nbPort s = _
  unfold execIvdonPortTrained
  dsimp only
  rw [if_neg (by simp [hst, hpow]; omega)]

/-- The port's rate shown leaves the ports. -/
theorem ports_rateShown (u : State) (port prev rate : Nat) : (u.rateShown port prev rate).ivdon.ports = u.ivdon.ports := by
  unfold State.rateShown
  split
  · exact ports_record _ _
  · rfl

theorem trained_up {rate : Nat} (nb nbPort : Nat) (hport : port ≤ 3) (hst : (s.port port).st = 1) (hpow : s.power ≠ .night) (hrate : rate ≤ 2)
    (hallowed : (s.fld R.IVDON_CFG 10 8).testBit rate = true) :
    ∃ t, exec (.ivdonPortTrained port rate .up nb nbPort) s = .next t ∧
      t.port port = { s.port port with st := 2, rate := rate, nb := nb % 4096, nbPort := nbPort % 4, prevRate := rate + 1, lane := 0,
                                       relay := decide (s.power = .dusk) } ∧
      (∀ i, i ≠ port → t.port i = s.port i) ∧
      ((s.port port).prevRate ≤ rate + 1 → t = { s with ivdon := { s.ivdon with ports := t.ivdon.ports } }) ∧
      (rate + 1 < (s.port port).prevRate → 256 < s.logFree → t.newest Code.IVDON_RATE_DOWN 0 8 port 0 0) := by
  have hports := ports_rateShown (s.setPort port ((s.port port).trained 2 rate nb nbPort 0 (decide (s.power = .dusk)))) port (s.port port).prevRate rate
  refine ⟨_, exec_trained_up nb nbPort hport hst hpow hrate hallowed, (port_congr hports port).trans (port_setPort_same _ _ _),
    fun i hi => (port_congr hports i).trans (port_setPort_other _ _ hi), fun hle => ?_, fun hlt hlog => ?_⟩
  · rw [State.rateShown, if_neg (by omega)]
    rfl
  · rw [State.rateShown, if_pos hlt]
    exact (portNoted_acts (a := { code := Code.IVDON_RATE_DOWN, cls := 0, lk := 8, l0 := port }) rfl hlog).2.2.2

theorem trained_degraded {rate lane : Nat} (nb nbPort : Nat) (hport : port ≤ 3) (hst : (s.port port).st = 1) (hpow : s.power ≠ .night) (hrate : rate ≤ 2)
    (hallowed : (s.fld R.IVDON_CFG 10 8).testBit rate = true) (hlane : lane ≤ 1) (hlog : 256 < s.logFree) (hprev : (s.port port).prevRate ≤ rate + 1) :
    ∃ t, exec (.ivdonPortTrained port rate (.degraded lane) nb nbPort) s = .next t ∧
      t.port port = { s.port port with st := 3, rate := rate, nb := nb % 4096, nbPort := nbPort % 4, prevRate := rate + 1, lane := lane,
                                       relay := false } ∧
      t.newest Code.IVDON_PORT_DEGRADED 0 8 port 0 0 := by
  have hrun := exec_trained_degraded nb nbPort hport hst hpow hrate hallowed hlane
  rw [State.rateShown, if_neg (by omega)] at hrun
  obtain ⟨hset, -, -, hnew⟩ := portNoted_acts (i := port) (x := (s.port port).trained 3 rate nb nbPort lane false)
    (a := { code := Code.IVDON_PORT_DEGRADED, cls := 0, lk := 8, l0 := port }) rfl hlog
  exact ⟨_, hrun, hset, hnew⟩

theorem trained_failed {rate : Nat} (nb nbPort : Nat) (hport : port ≤ 3) (hst : (s.port port).st = 1) (hpow : s.power ≠ .night) :
    ∃ t, exec (.ivdonPortTrained port rate .failed nb nbPort) s = .next t ∧ t = { s with ivdon := { s.ivdon with ports := t.ivdon.ports } } ∧
      t.port port = { s.port port with st := 5 } ∧ ∀ i, i ≠ port → t.port i = s.port i :=
  ⟨_, exec_trained_failed nb nbPort hport hst hpow, rfl, port_setPort_same _ _ _, fun _ hi => port_setPort_other _ _ hi⟩

theorem portRetry_acts (hport : port ≤ 3) (hst : (s.port port).st = 5) (hpow : s.power ≠ .night) :
    ∃ t, exec (.ivdonPortRetry port) s = .next t ∧ t = { s with ivdon := { s.ivdon with ports := t.ivdon.ports } } ∧
      t.port port = { s.port port with st := 1, relay := false } ∧ ∀ i, i ≠ port → t.port i = s.port i := by
  have hrun : exec (.ivdonPortRetry port) s = .next (s.setPort port { s.port port with st := 1, relay := false }) := by
    show execIvdonPortRetry port s = _
    unfold execIvdonPortRetry
    rw [if_neg (by simp [hst, hpow]; omega)]
  exact ⟨_, hrun, rfl, port_setPort_same _ _ _, fun i hi => port_setPort_other _ _ hi⟩

/-- The ports that RETRAIN names train again, as far as they are in use (R610). -/
theorem port_retrain (l : List Nat) : ∀ (s : State) (i : Nat),
    (l.foldl (fun s p => if (s.port p).st = 0 then s else s.setPort p { s.port p with st := 1, relay := false }) s).port i =
      if i ∈ l ∧ (s.port i).st ≠ 0 then { s.port i with st := 1, relay := false } else s.port i := by
  induction l with
  | nil => exact fun s _ => (if_neg (fun h => List.not_mem_nil h.1)).symm
  | cons p l ih =>
    intro s i
    rw [List.foldl_cons, ih]
    by_cases hst : (s.port p).st = 0
    · rw [if_pos hst]
      by_cases hi : i = p
      · rw [hi, if_neg (fun h => h.2 hst), if_neg (fun h => h.2 hst)]
      · simp only [List.mem_cons, hi, false_or]
    · rw [if_neg hst]
      by_cases hi : i = p
      · rw [hi, port_setPort_same, if_pos (c := p ∈ p :: l ∧ _) ⟨List.mem_cons_self, hst⟩]
        split <;> rfl
      · rw [port_setPort_other _ _ hi]
        simp only [List.mem_cons, hi, false_or]

/-- A retraining changes of the Ivdon state its ports alone. -/
theorem ivdon_retrain (l : List Nat) (s : State) :
    (l.foldl (fun s p => if (s.port p).st = 0 then s else s.setPort p { s.port p with st := 1, relay := false }) s).ivdon =
      { s.ivdon with ports := (l.foldl (fun s p => if (s.port p).st = 0 then s else s.setPort p { s.port p with st := 1, relay := false }) s).ivdon.ports } := by
  refine List.foldlRecOn (motive := fun u : State => u.ivdon = { s.ivdon with ports := u.ivdon.ports }) l _ rfl (fun u hu p _ => ?_)
  split
  · exact hu
  · show ({ u.ivdon with ports := kset (fun _ => {}) u.ivdon.ports p { u.port p with st := 1, relay := false } } : Ivdon) = _
    rw [hu]
    rfl

theorem retrain_acts {o : Origin} {v : Nat} (hp : s.permit o R.IVDON_RETRAIN v = .ok s) (hon : s.enabled 19 = true) :
    ∃ t, exec (.ivdonRetrain o v) s = .next t ∧ t = { s with ivdon := { s.ivdon with ports := t.ivdon.ports }, trace := t.trace } ∧
      ∀ i, t.port i = if i ∈ s.topoPorts ∧ v.testBit i = true ∧ (s.port i).st ≠ 0 then { s.port i with st := 1, relay := false } else s.port i := by
  obtain ⟨x, hx⟩ := act_admitted hp (fun s => if s.enabled 19 then s.retrainPorts v else s)
  have hrun : exec (.ivdonRetrain o v) s = .next (State.retrainPorts { s with trace := x } v) :=
    (congrArg Host.Outcome.next hx).trans (congrArg Host.Outcome.next (if_pos hon))
  have hivdon := ivdon_retrain (s.topoPorts.filter (fun p => v.testBit p)) { s with trace := x }
  have hport := port_retrain (s.topoPorts.filter (fun p => v.testBit p)) { s with trace := x }
  have honly : Only 2305843009213693952 { s with trace := x } (State.retrainPorts { s with trace := x } v) := only_retrainPorts _ rfl (only_refl _ _)
  have hall : Only 6917529027641081856 s (State.retrainPorts { s with trace := x } v) :=
    only_trans (only_put4611686018427387904 rfl (only_refl _ s)) (only_mono rfl honly)
  have hfold : State.retrainPorts { s with trace := x } v = List.foldl _ _ (s.topoPorts.filter (fun p => v.testBit p)) := rfl
  rw [← hfold] at hivdon hport
  generalize State.retrainPorts { s with trace := x } v = t at hrun hivdon hport hall
  have hshow : t = { s with ivdon := t.ivdon, trace := t.trace } := hall.eq_takes
  refine ⟨t, hrun, hshow.trans (congrArg (fun i => { s with ivdon := i, trace := t.trace }) hivdon), fun i => (hport i).trans ?_⟩
  simp only [List.mem_filter, and_assoc]
  rfl

/-! ### The ring's level (R601) -/

/-- The lowest of the offers and the device's own level, where all are above a bound. -/
theorem foldl_min_bounds (b : Nat) (l : List (Nat × Nat)) : ∀ own, b < own → (∀ x ∈ l, b < x.2) →
    b < l.foldl (fun m o => min m o.2) own ∧ l.foldl (fun m o => min m o.2) own ≤ own ∧ ∀ x ∈ l, l.foldl (fun m o => min m o.2) own ≤ x.2 := by
  induction l with
  | nil => exact fun own hown _ => ⟨hown, Nat.le_refl _, fun x hx => absurd hx List.not_mem_nil⟩
  | cons y l ih =>
    intro own hown hall
    have hy := hall y List.mem_cons_self
    obtain ⟨hlo, hle, hmem⟩ := ih (min own y.2) (by omega) (fun x hx => hall x (List.mem_cons_of_mem _ hx))
    rw [List.foldl_cons]
    refine ⟨hlo, by omega, fun x hx => ?_⟩
    rcases List.mem_cons.mp hx with rfl | hx
    · omega
    · exact hmem x hx

theorem levelRise_acts (hday : s.power = .day) (hboot : s.booted = true) (hown : s.ivdon.ring < s.ivdon.ownLevel)
    (hall : ∀ x ∈ s.ivdon.offers, s.ivdon.ring < x.2) :
    ∃ t, exec .ivdonLevelRise s = .next t ∧ t = { s with ivdon := { s.ivdon with ring := t.ivdon.ring } } ∧ s.ivdon.ring < t.ivdon.ring ∧
      t.ivdon.ring ≤ s.ivdon.ownLevel ∧ ∀ x ∈ s.ivdon.offers, t.ivdon.ring ≤ x.2 := by
  have hkeep : s.ivdon.offers.filter (fun o => decide (o.2 > s.ivdon.ring)) = s.ivdon.offers :=
    List.filter_eq_self.mpr (fun x hx => decide_eq_true (hall x hx))
  obtain ⟨hlo, hle, hmem⟩ := foldl_min_bounds s.ivdon.ring s.ivdon.offers s.ivdon.ownLevel hown hall
  have hrun : exec .ivdonLevelRise s = .next (s.setRing (s.ivdon.offers.foldl (fun m o => min m o.2) s.ivdon.ownLevel)) := by
    show execIvdonLevelRise s = _
    unfold execIvdonLevelRise
    dsimp only
    rw [hkeep, if_neg (by simp only [hday, hboot]; simp; omega)]
  exact ⟨_, hrun, rfl, hlo, hle, hmem⟩

end Serving

/-- Settles O56, packet by packet and port by port; what is seen and what was sent stand through what a packet does. -/
theorem ivdonServes : Obligations.IvdonServes := by
  unfold Obligations.IvdonServes
  refine ⟨fun port p s hears hfatal => ⟨hello_acts hears, fun c hc hbad hlog => ⟨_, exec_bad hears hbad hc, ?_⟩,
      fun hok hseen htyp => level_dropped hears hok hseen htyp, fun hok hseen hsrc => ⟨fun t h => ?_, fun htyp hday => ?_, fun htyp hdusk hphase hnight hwakes => ?_,
        fun htyp => ?_, fun htyp hday hgrouped hgroup => ?_⟩⟩,
    fun port s hears hlog => portDown_acts hears hlog, fun port rate nb nbPort s hport hst hpow hrate hallowed => ⟨?_, fun lane hlane hlog hprev => ?_, ?_⟩,
    fun port s hport hst hpow => portRetry_acts hport hst hpow, fun o v s hp hon => retrain_acts hp hon,
    fun s hday hboot hown hall => levelRise_acts hday hboot hown hall⟩
  · obtain ⟨hport, -, hshow, hnew⟩ := portNoted_acts (i := port) (x := { s.port port with crcFails := satAdd 65535 (s.port port).crcFails 1 })
      (a := { code := Code.IVDON_MSG_CRC, cls := 0, lk := 8, l0 := port }) rfl hlog
    exact ⟨hport, hshow, hnew⟩
  · obtain ⟨hmem, hsent⟩ := passedOn hears hok hseen hsrc h
    exact ⟨hmem, hsent⟩
  · exact level_acts hears hfatal hday hok htyp hseen hsrc
  · exact wakePkt_acts hears hfatal hok hseen hsrc htyp hdusk hphase hnight hwakes
  · exact mgmt_acts hears hok hseen hsrc htyp
  · exact alive_acts hears hfatal hday hok hseen hsrc htyp hgrouped hgroup
  · exact trained_up nb nbPort hport hst hpow hrate hallowed
  · exact trained_degraded nb nbPort hport hst hpow hrate hallowed hlane hlog hprev
  · exact trained_failed nb nbPort hport hst hpow

end Sys2Proof.Machine
end

section
/-! PROOFS. Sync groups and their epochs (O57). -/

namespace Sys2Proof.Machine

section Grouping

variable {s t u : State} {port : Nat} {p : BitVec 128}

/-! ### Epochs (R602) -/

/-- What a new epoch brings. -/
theorem takeEpoch_acts (s : State) (e : Nat) : Only 2305851805306716160 s (s.takeEpoch e) ∧ (s.takeEpoch e).ivdon.epoch = e ∧
    (s.takeEpoch e).ivdon.readyFrom = [] ∧ (s.takeEpoch e).ivdon.readySent = s.ivdon.readySent ∧
    ((∀ x ∈ s.stripes, x.st ≠ .contained) → (s.takeEpoch e).ivdon.epochGot = true ∧ (s.takeEpoch e).profile = s.profile) := by
  refine ⟨only_takeEpoch _ rfl (only_refl _ s), rfl, rfl, rfl, fun hnone => ?_⟩
  have hno : s.stripes.any (fun t => decide (t.st = .contained) && t.ckpt = 5) = false := by
    simp only [List.any_eq_false, Bool.and_eq_true, decide_eq_true_eq, not_and]
    exact fun x hx hst => absurd hst (hnone x hx)
  unfold State.takeEpoch
  rw [hno]
  exact ⟨rfl, by simp only [Bool.not_false, Bool.and_true]⟩

/-- A flood takes nothing back of what has left the block. -/
theorem out_flood (s : State) (typ dst payload : Nat) : s.out <:+ (s.flood typ dst payload).out := by
  unfold State.flood State.sendOn
  dsimp only
  refine List.foldlRecOn (motive := fun u : State => s.out <:+ u.out) _ _ List.suffix_rfl (fun u hu q _ => ?_)
  split
  · exact hu.trans (List.suffix_cons _ _)
  · exact hu

/-- The READY packets heard for the next epoch, with one more (R602). -/
def State.readyList (s : State) (src : Nat) : List Nat := if s.ivdon.readyFrom.contains src then s.ivdon.readyFrom else src :: s.ivdon.readyFrom

/-- The state with that list. -/
def State.listed (s : State) (src : Nat) : State := { s with ivdon := { s.ivdon with readyFrom := s.readyList src } }

theorem countReady_eq (s : State) (src : Nat) : s.countReady src =
    if (s.readyList src).length ≥ s.fld R.IVDON_GROUP_LEAD 24 16 ∧ s.ivdon.containSeen ≠ s.ivdon.epoch + 1 then
      ((s.listed src).flood 0x11 0 ((s.ivdon.epoch + 1) % 2 ^ 32 * 2 ^ 24)).takeEpoch (s.ivdon.epoch + 1)
    else s.listed src := rfl

/-- Counting a READY takes nothing back, and forgets no READY of the device's own. -/
theorem countReady_keeps (s : State) (src : Nat) : (s.countReady src).ivdon.readySent = s.ivdon.readySent ∧ s.out <:+ (s.countReady src).out := by
  rw [countReady_eq]
  split
  · obtain ⟨q, m, hivdon⟩ := sends_flood 0x11 0 ((s.ivdon.epoch + 1) % 2 ^ 32 * 2 ^ 24) (sends_refl (s.listed src))
    have hout := out_flood (s.listed src) 0x11 0 ((s.ivdon.epoch + 1) % 2 ^ 32 * 2 ^ 24)
    obtain ⟨honly, -, -, hsent, -⟩ := takeEpoch_acts ((s.listed src).flood 0x11 0 ((s.ivdon.epoch + 1) % 2 ^ 32 * 2 ^ 24)) (s.ivdon.epoch + 1)
    exact ⟨hsent.trans (by rw [hivdon]; rfl), by rw [honly.out rfl]; exact hout⟩
  · exact ⟨rfl, List.suffix_rfl⟩

/-- A packet of the present group that the device floods. -/
def State.groupPacket (s : State) (typ payload : Nat) : BitVec 128 := packetOf typ (s.fld R.SYS_DEVICE_NO 11 0) 0 255 s.ivdon.seq s.group payload

theorem mem_flood_group (s : State) {typ : Nat} (payload : Nat) (htyp : 0x10 ≤ typ ∧ typ < 0x40) {q : Nat} (hq : q ≤ 3) (hc : (s.port q).carries = true) :
    Out.packet q (s.groupPacket typ payload) ((s.port q).blocks (s.groupPacket typ payload)) ∈ (s.flood typ 0 payload).out := by
  have hmem := mem_flood (s := s) typ 0 payload hq hc
  rw [if_pos htyp] at hmem
  exact hmem

/-- The leader that has heard READY of all floods EPOCH, which it follows itself. -/
theorem countReady_floods {src : Nat} (hall : s.fld R.IVDON_GROUP_LEAD 24 16 ≤ (s.readyList src).length) (hseen : s.ivdon.containSeen ≠ s.ivdon.epoch + 1) :
    (s.countReady src).ivdon.epoch = s.ivdon.epoch + 1 ∧ (s.countReady src).ivdon.readyFrom = [] ∧
    ∀ q, q ≤ 3 → (s.port q).carries = true →
      Out.packet q (s.groupPacket 0x11 ((s.ivdon.epoch + 1) % 2 ^ 32 * 2 ^ 24)) ((s.port q).blocks (s.groupPacket 0x11 ((s.ivdon.epoch + 1) % 2 ^ 32 * 2 ^ 24))) ∈
        (s.countReady src).out := by
  rw [countReady_eq, if_pos ⟨hall, hseen⟩]
  obtain ⟨honly, hepoch, hfrom, -, -⟩ := takeEpoch_acts ((s.listed src).flood 0x11 0 ((s.ivdon.epoch + 1) % 2 ^ 32 * 2 ^ 24)) (s.ivdon.epoch + 1)
  refine ⟨hepoch, hfrom, fun q hq hc => ?_⟩
  rw [honly.out rfl]
  exact mem_flood_group (s.listed src) _ (by decide) hq hc

/-- What counting a READY may change. -/
theorem only_ready (s : State) (src : Nat) : Only 76092828100144922624 s (s.countReady src) := only_countReady _ rfl (only_refl _ s)

/-! ### READY and EPOCH received -/

theorem ready_acts (hears : s.hears port = true) (hfatal : s.fatal = 0) (hday : s.power = .day) (hok : pktOk p = true) (hseen : s.seenPkt p = false)
    (hsrc : pktSrc p ≠ s.deviceNo) (hgrouped : s.grouped = true) (hgroup : pktField p 79 72 = s.group) (htyp : pktType p = 0x10) (hrole : s.role = 2)
    (hepoch : pktEpoch p = (s.ivdon.epoch + 1) % 2 ^ 32) :
    ((s.readyList (pktSrc p)).length < s.fld R.IVDON_GROUP_LEAD 24 16 →
      ∃ t, exec (.ready port p) s = .next t ∧ t = { s with ivdon := t.ivdon, out := t.out } ∧ t.ivdon.readyFrom = s.readyList (pktSrc p) ∧
        t.ivdon.epoch = s.ivdon.epoch) ∧
    (s.fld R.IVDON_GROUP_LEAD 24 16 ≤ (s.readyList (pktSrc p)).length → s.ivdon.containSeen ≠ s.ivdon.epoch + 1 →
      ∃ t, exec (.ready port p) s = .next t ∧ t = { s with ivdon := t.ivdon, profile := t.profile, out := t.out } ∧
        t.ivdon.epoch = s.ivdon.epoch + 1 ∧ t.ivdon.readyFrom = [] ∧
        ∀ q, q ≤ 3 → (s.port q).carries = true →
          Out.packet q (s.groupPacket 0x11 ((s.ivdon.epoch + 1) % 2 ^ 32 * 2 ^ 24))
            ((s.port q).blocks (s.groupPacket 0x11 ((s.ivdon.epoch + 1) % 2 ^ 32 * 2 ^ 24))) ∈ t.out) := by
  have hpassed := passed_passed s port p
  have hrun : exec (.ready port p) s = .next (if (s.passed port p).role = 2 ∧ pktEpoch p = ((s.passed port p).ivdon.epoch + 1) % 2 ^ 32 then
      (s.passed port p).countReady (pktSrc p) else s.passed port p) :=
    congrArg Host.Outcome.next (groupPkt_day hears hfatal hday hok htyp hseen hsrc hgrouped hgroup)
  generalize s.passed port p = v at hpassed hrun
  have hfld : ∀ a hi lo, v.fld a hi lo = s.fld a hi lo := fun a hi lo => fld_of_rd (rd_congr (hpassed.only.regs rfl) a) hi lo
  have hep : v.ivdon.epoch = s.ivdon.epoch := by rw [hpassed.ivdon]
  have hcs : v.ivdon.containSeen = s.ivdon.containSeen := by rw [hpassed.ivdon]
  have hlist : v.readyList (pktSrc p) = s.readyList (pktSrc p) := by
    unfold State.readyList
    rw [hpassed.ivdon]
  have hports : ∀ q, v.port q = s.port q := fun q => port_congr (by rw [hpassed.ivdon]) q
  have hpacket : ∀ typ payload, v.groupPacket typ payload = s.groupPacket typ payload := by
    intro typ payload
    unfold State.groupPacket
    rw [hfld, group_congr (hpassed.only.regs rfl), hpassed.ivdon]
  rw [hpassed.role, hep, if_pos ⟨hrole, hepoch⟩] at hrun
  refine ⟨fun hlt => ?_, fun hall hcont => ?_⟩
  · have hstay : v.countReady (pktSrc p) = v.listed (pktSrc p) := by
      rw [countReady_eq, if_neg (fun h => by rw [hlist, hfld] at h; omega)]
    rw [hstay] at hrun
    exact ⟨_, hrun, (only_put2305843009213693952 rfl hpassed.only).eq_takes, hlist, hep⟩
  · obtain ⟨hnext, hfrom, hsent⟩ := countReady_floods (s := v) (src := pktSrc p) (by rw [hlist, hfld]; exact hall) (by rw [hep, hcs]; exact hcont)
    have honly : Only 76092828100144922624 s (v.countReady (pktSrc p)) := only_trans (only_mono rfl hpassed.only) (only_ready v _)
    rw [hep] at hnext hsent
    refine ⟨_, hrun, honly.eq_takes, hnext, hfrom, fun q hq hc => ?_⟩
    have hmem := hsent q hq (by rw [hports]; exact hc)
    rw [hpacket, hports] at hmem
    exact hmem

theorem epoch_acts (hears : s.hears port = true) (hfatal : s.fatal = 0) (hday : s.power = .day) (hok : pktOk p = true) (hseen : s.seenPkt p = false)
    (hsrc : pktSrc p ≠ s.deviceNo) (hgrouped : s.grouped = true) (hgroup : pktField p 79 72 = s.group) (htyp : pktType p = 0x11)
    (hepoch : pktEpoch p = (s.ivdon.epoch + 1) % 2 ^ 32) :
    ∃ t, exec (.epoch port p) s = .next t ∧ t = { s with ivdon := t.ivdon, profile := t.profile, out := t.out } ∧
      t.ivdon.epoch = s.ivdon.epoch + 1 ∧ ((∀ x ∈ s.stripes, x.st ≠ .contained) → t.ivdon.epochGot = true ∧ t.profile = s.profile) := by
  have hpassed := passed_passed s port p
  have hrun : exec (.epoch port p) s = .next (if pktEpoch p = ((s.passed port p).ivdon.epoch + 1) % 2 ^ 32 then
      (s.passed port p).takeEpoch ((s.passed port p).ivdon.epoch + 1) else s.passed port p) :=
    congrArg Host.Outcome.next (groupPkt_day hears hfatal hday hok htyp hseen hsrc hgrouped hgroup)
  generalize s.passed port p = v at hpassed hrun
  have hep : v.ivdon.epoch = s.ivdon.epoch := by rw [hpassed.ivdon]
  rw [hep, if_pos hepoch] at hrun
  obtain ⟨honly, hnext, -, -, hgot⟩ := takeEpoch_acts v (s.ivdon.epoch + 1)
  have hall : Only 76092828100144922624 s (v.takeEpoch (s.ivdon.epoch + 1)) := only_trans (only_mono rfl hpassed.only) (only_mono rfl honly)
  rw [hpassed.only.stripes rfl, hpassed.only.profile rfl] at hgot
  exact ⟨_, hrun, hall.eq_takes, hnext, hgot⟩

/-! ### CONTAIN received (R603) -/

/-- A CONTAIN for the next epoch kept in mind. -/
def State.minded (s : State) (p : BitVec 128) : State :=
  if pktEpoch p = (s.ivdon.epoch + 1) % 2 ^ 32 then { s with ivdon := { s.ivdon with containSeen := s.ivdon.epoch + 1 } } else s

theorem only_minded (s : State) (p : BitVec 128) : Only 2305843009213693952 s (s.minded p) :=
  only_ite (only_put2305843009213693952 rfl (only_refl _ s)) (only_refl _ s)

theorem contains_minded (s : State) (p : BitVec 128) : (s.minded p).ivdon.contains = s.ivdon.contains := by
  unfold State.minded
  split <;> rfl

/-- The writing stripe is contained at once in STILL and REWIND, else at its next flash. -/
theorem containPeer_writing {x : Stripe} (hx : s.active = some x) (hw : x.st = .writing) : s.containPeer =
    if s.drover.st = 3 ∨ s.drover.st = 4 then s.contain { code := Code.IVDON_GROUP_CONTAIN, cls := 2 } else s.modStripe x (fun t => { t with peer := true }) := by
  unfold State.containPeer
  simp only [hx]
  rw [if_neg (by simp [hw])]

theorem contain_acts (hears : s.hears port = true) (hfatal : s.fatal = 0) (hday : s.power = .day) (hok : pktOk p = true) (hseen : s.seenPkt p = false)
    (hsrc : pktSrc p ≠ s.deviceNo) (hgrouped : s.grouped = true) (hgroup : pktField p 79 72 = s.group) (htyp : pktType p = 0x12) :
    (pktEpoch p = s.ivdon.epoch % 2 ^ 32 → s.ivdon.epoch ≠ 0 → ∀ x, s.active = some x → x.st = .writing →
      ∃ t, exec (.contain port p) s = .next t ∧
        (s.drover.st ≠ 3 → s.drover.st ≠ 4 →
          t = { s with ivdon := t.ivdon, stripes := s.stripes.map (fun y => if y.ord = x.ord then { y with peer := true } else y), out := t.out }) ∧
        (s.drover.st = 3 ∨ s.drover.st = 4 → t.containedBy x Code.IVDON_GROUP_CONTAIN s.drover.k)) ∧
    (pktEpoch p ≠ s.ivdon.epoch % 2 ^ 32 →
      ∃ t, exec (.contain port p) s = .next t ∧ t = { s with ivdon := t.ivdon, out := t.out } ∧ t.ivdon.contains = s.ivdon.contains + 1) := by
  have hpassed := passed_passed s port p
  have hrun : exec (.contain port p) s = .next (if pktEpoch p = (s.passed port p).ivdon.epoch % 2 ^ 32 ∧ (s.passed port p).ivdon.epoch ≠ 0 ∧
      (s.passed port p).stripes.any (fun t => decide (t.st = .writing ∨ t.st = .draining ∨ t.st = .contained))
      then ((s.passed port p).minded p).containPeer
      else { (s.passed port p).minded p with ivdon := { ((s.passed port p).minded p).ivdon with contains := ((s.passed port p).minded p).ivdon.contains + 1 } }) :=
    congrArg Host.Outcome.next (groupPkt_day hears hfatal hday hok htyp hseen hsrc hgrouped hgroup)
  generalize s.passed port p = v at hpassed hrun
  have hep : v.ivdon.epoch = s.ivdon.epoch := by rw [hpassed.ivdon]
  have hcount : v.ivdon.contains = s.ivdon.contains := by rw [hpassed.ivdon]
  have hall : Only 76092819304051900416 s (v.minded p) := only_trans hpassed.only (only_mono rfl (only_minded v p))
  rw [hep, hpassed.only.stripes rfl] at hrun
  refine ⟨fun hnow hstarted x hx hw => ?_, fun hother => ?_⟩
  · have hany : s.stripes.any (fun t => decide (t.st = .writing ∨ t.st = .draining ∨ t.st = .contained)) = true :=
      List.any_eq_true.mpr ⟨x, List.mem_of_find?_eq_some hx, by simp [hw]⟩
    rw [if_pos ⟨hnow, hstarted, hany⟩] at hrun
    generalize v.minded p = w at hall hrun
    have hact : w.active = some x := by
      unfold State.active
      rw [hall.stripes rfl]
      exact hx
    rw [containPeer_writing hact hw, hall.drover rfl] at hrun
    refine ⟨_, hrun, fun h3 h4 => ?_, fun h => ?_⟩
    · rw [if_neg (not_or.mpr ⟨h3, h4⟩)]
      have hmod : Only 76092819304056094720 s (w.modStripe x (fun t => { t with peer := true })) := only_modStripe _ _ rfl (only_mono rfl hall)
      have hshow : w.modStripe x (fun t => { t with peer := true }) = { s with
        stripes := (w.modStripe x (fun t => { t with peer := true })).stripes, ivdon := (w.modStripe x (fun t => { t with peer := true })).ivdon,
        out := (w.modStripe x (fun t => { t with peer := true })).out } := hmod.eq_takes
      have hstripes := stripes_modStripe w x (fun t => { t with peer := true })
      rw [hall.stripes rfl] at hstripes
      generalize w.modStripe x (fun t => { t with peer := true }) = t at hshow hstripes ⊢
      exact hshow.trans (congrArg (fun l => { s with stripes := l, ivdon := t.ivdon, out := t.out }) hstripes)
    · rw [if_pos h, ← hall.drover rfl]
      exact (contain_contains hact hw { code := Code.IVDON_GROUP_CONTAIN, cls := 2 }).1
  · rw [if_neg (fun h => hother h.1)] at hrun
    refine ⟨_, hrun, (only_put2305843009213693952 rfl hall).eq_takes, ?_⟩
    show (v.minded p).ivdon.contains + 1 = s.ivdon.contains + 1
    rw [contains_minded, hcount]

/-! ### READY sent (R602) -/

theorem groupReady_acts (hday : s.power = .day) (hboot : s.booted = true) (hgrouped : s.grouped = true) (hgot : s.ivdon.epochGot = false)
    (hsent : s.ivdon.readySent ≠ s.ivdon.epoch + 1) (hstart : s.groupStart = true) :
    ∃ t, exec .groupReady s = .next t ∧ t = { s with ivdon := t.ivdon, profile := t.profile, out := t.out } ∧ t.ivdon.readySent = s.ivdon.epoch + 1 ∧
      (s.role = 1 → t.ivdon = { s.ivdon with readySent := t.ivdon.readySent, seq := t.ivdon.seq, mine := t.ivdon.mine } ∧ t.profile = s.profile) ∧
      ∀ q, q ≤ 3 → (s.port q).carries = true →
        Out.packet q (s.groupPacket 0x10 ((s.ivdon.epoch + 1) % 2 ^ 32 * 2 ^ 24))
          ((s.port q).blocks (s.groupPacket 0x10 ((s.ivdon.epoch + 1) % 2 ^ 32 * 2 ^ 24))) ∈ t.out := by
  have hrun : exec .groupReady s = .next (if s.role = 2 then
      ({ s with ivdon := { s.ivdon with readySent := s.ivdon.epoch + 1 } }.flood 0x10 0 ((s.ivdon.epoch + 1) % 2 ^ 32 * 2 ^ 24)).countReady s.deviceNo
      else { s with ivdon := { s.ivdon with readySent := s.ivdon.epoch + 1 } }.flood 0x10 0 ((s.ivdon.epoch + 1) % 2 ^ 32 * 2 ^ 24)) := by
    show execGroupReady s = _
    unfold execGroupReady
    dsimp only
    rw [if_neg (by simp [hday, hboot, hgrouped, hgot, hsent, hstart])]
  have hmem := fun q hq hc => mem_flood_group { s with ivdon := { s.ivdon with readySent := s.ivdon.epoch + 1 } } (typ := 0x10)
    ((s.ivdon.epoch + 1) % 2 ^ 32 * 2 ^ 24) (by decide) (q := q) hq hc
  obtain ⟨sq, m, hivdon⟩ := sends_flood 0x10 0 ((s.ivdon.epoch + 1) % 2 ^ 32 * 2 ^ 24)
    (sends_refl { s with ivdon := { s.ivdon with readySent := s.ivdon.epoch + 1 } })
  have hflood : Only 76092828100144922624 s
      ({ s with ivdon := { s.ivdon with readySent := s.ivdon.epoch + 1 } }.flood 0x10 0 ((s.ivdon.epoch + 1) % 2 ^ 32 * 2 ^ 24)) :=
    only_flood _ _ _ rfl (only_put2305843009213693952 rfl (only_refl _ s))
  have hprofile : State.profile _ = s.profile := (only_flood (mm := 76092819304051900416) 0x10 0 ((s.ivdon.epoch + 1) % 2 ^ 32 * 2 ^ 24) rfl
    (only_put2305843009213693952 (v61 := { s.ivdon with readySent := s.ivdon.epoch + 1 }) rfl (only_refl _ s))).profile rfl
  generalize State.flood _ _ _ _ = w at hrun hmem hivdon hflood hprofile
  have hready : w.ivdon.readySent = s.ivdon.epoch + 1 := by rw [hivdon]
  by_cases hrole : s.role = 2
  · rw [if_pos hrole] at hrun
    obtain ⟨hkept, hout⟩ := countReady_keeps w s.deviceNo
    exact ⟨_, hrun, (only_trans hflood (only_ready w _)).eq_takes, hkept.trans hready, fun h1 => absurd (hrole.symm.trans h1) (by decide),
      fun q hq hc => hout.subset (hmem q hq hc)⟩
  · rw [if_neg hrole] at hrun
    exact ⟨w, hrun, hflood.eq_takes, hready, fun _ => ⟨by rw [hivdon], hprofile⟩, hmem⟩

/-! ### A member lost (R604) -/

/-- A containment's record stands as the newest. -/
theorem newest_contain {x : Stripe} (hx : s.active = some x) (hw : x.st = .writing) (a : RecArg) (hlog : 256 < s.logFree) :
    (s.contain a).newest a.code 2 a.lk a.l0 a.l1 a.l2 := by
  have hraw := newest_recordRaw { a with cls := 2, stripe := x.who } hlog
  have hlog : (s.contain a).log = (s.recordRaw { a with cls := 2, stripe := x.who }).log := by
    unfold State.contain State.containAt
    simp only [hx]
    rw [if_neg (by simp [hw])]
    unfold State.enterContained
    dsimp only
    generalize State.recordRaw _ _ = u
    have hheld : Only 295147905179352825839 u (u.modStripe x (fun t => { t with st := .contained, held := s.drover.k, cause := a.code, causeSeq := s.log.nextSeq % 2 ^ 32, ckpt := 1, ckptTry := 0 })) :=
      only_modStripe _ _ rfl (only_refl _ u)
    generalize State.modStripe _ _ _ = v at hheld ⊢
    have hshade : Only 295147905179352825839 u (((v.droverTo 5).shadeOn false).allLanes 0x55 (lowBits 24 (x.flashBase + s.drover.k)) |>.dropAfter x s.drover.k) :=
      only_dropAfter _ _ rfl (only_allLanes _ _ rfl (only_shadeOn _ rfl (only_droverTo _ rfl hheld)))
    generalize State.dropAfter _ _ _ = w at hshade ⊢
    have hregs : Only 295147905179352825839 u (((w.setFld R.SYS_CKPT_STATE 3 0 1).wr R.SYS_CKPT_HELD (lowBits 32 s.drover.k)).wr64 R.DROVER_HELD_L w.drover.lastIndex) :=
      only_wr _ _ rfl (only_wr _ _ rfl (only_wr _ _ rfl (only_setFld _ _ _ _ rfl hshade)))
    generalize State.wr64 _ _ _ = y at hregs ⊢
    exact (only_showStripes rfl (only_floodContain _ rfl (only_put11063835754496 rfl hregs))).log rfl
  unfold State.newest at hraw ⊢
  rw [hlog]
  exact hraw

/-- What was heard of a member forgotten. -/
def State.forgot (s : State) (m : Nat) : State :=
  { s with ivdon := { s.ivdon with heard := s.ivdon.heard.filter (· ≠ m), formats := kdel s.ivdon.formats m } }

theorem groupLost_acts {m : Nat} {x : Stripe} (hgrouped : s.grouped = true) (hx : s.active = some x) (hw : x.st = .writing) (hfatal : s.fatal = 0)
    (hm : m ≤ 4095) (hself : m ≠ s.deviceNo) (hlog : 256 < s.logFree) :
    ∃ t, exec (.ivdonGroupLost m) s = .next t ∧ t.containedBy x Code.IVDON_GROUP_LOST s.drover.k ∧ t.newest Code.IVDON_GROUP_LOST 2 8 m 0 0 ∧
      t.ivdon.heard = s.ivdon.heard.filter (· ≠ m) ∧ kget? t.ivdon.formats m = none := by
  have hwriting : s.writing.isNone = false := by
    rw [Option.isNone_eq_false_iff]
    exact List.find?_isSome.mpr ⟨x, List.mem_of_find?_eq_some hx, by simp [hw]⟩
  have hrun : exec (.ivdonGroupLost m) s = .next ((s.forgot m).contain { code := Code.IVDON_GROUP_LOST, cls := 2, lk := 8, l0 := m }) := by
    show execIvdonGroupLost m s = _
    unfold execIvdonGroupLost
    rw [if_neg (by simp [hgrouped, hwriting, hfatal, hself]; omega)]
    rfl
  have hact : (s.forgot m).active = some x := hx
  have hroom : 256 < (s.forgot m).logFree := hlog
  have hkept : (s.forgot m).drover.k = s.drover.k := rfl
  have hheard : (s.forgot m).ivdon.heard = s.ivdon.heard.filter (· ≠ m) ∧ kget? (s.forgot m).ivdon.formats m = none := ⟨rfl, kget?_kdel_same _ _⟩
  generalize s.forgot m = u at hrun hact hroom hkept hheard
  have hcon := containedBy_contain hact hw { code := Code.IVDON_GROUP_LOST, cls := 2, lk := 8, l0 := m } false
  have hnew := newest_contain hact hw { code := Code.IVDON_GROUP_LOST, cls := 2, lk := 8, l0 := m } hroom
  obtain ⟨q, l, hivdon⟩ := sends_containAt { code := Code.IVDON_GROUP_LOST, cls := 2, lk := 8, l0 := m } false u.drover.k (sends_refl u)
  refine ⟨_, hrun, hkept ▸ hcon, hnew, ?_⟩
  show (u.containAt _ false u.drover.k).ivdon.heard = _ ∧ kget? (u.containAt _ false u.drover.k).ivdon.formats m = none
  rw [hivdon]
  exact hheard

end Grouping

/-- Settles O57, by the packets of the group that are acted on in Day, the epoch that they count to, and what containments leave of it. -/
theorem groupsKeepEpochs : Obligations.GroupsKeepEpochs := by
  unfold Obligations.GroupsKeepEpochs
  refine ⟨fun port p s hears hfatal hday hok hseen hsrc hgrouped hgroup => ⟨fun htyp hrole hepoch => ?_, fun htyp hepoch => ?_, fun htyp => ?_, fun htyp => ?_⟩,
    fun s hday hboot hgrouped hgot hsent hstart => ?_, fun m x s hgrouped hx hw hfatal hm hself hlog => ?_⟩
  · exact ready_acts hears hfatal hday hok hseen hsrc hgrouped hgroup htyp hrole hepoch
  · exact epoch_acts hears hfatal hday hok hseen hsrc hgrouped hgroup htyp hepoch
  · exact (contain_acts hears hfatal hday hok hseen hsrc hgrouped hgroup htyp).1
  · exact (contain_acts hears hfatal hday hok hseen hsrc hgrouped hgroup htyp).2
  · exact groupReady_acts hday hboot hgrouped hgot hsent hstart
  · exact groupLost_acts hgrouped hx hw hfatal hm hself hlog

end Sys2Proof.Machine
end

section
/-! PROOFS. Reads (O11), and the enable, the disable and the soft reset of a page (O58, O60). -/

namespace Sys2Proof.Machine

/-- Settles O11: a read captures a group of R13 or changes nothing. -/
theorem readsHaveNoEffect : Obligations.ReadsHaveNoEffect := by
  unfold Obligations.ReadsHaveNoEffect
  refine fun o a s => ⟨readReg_frame s o a, fun hnone => ?_⟩
  unfold State.readReg
  rw [hnone]

/-! ### What stands of the page headers -/

/-- The offsets of CTRL, REFUSE, the interrupt and error records and LOCK in a page's header (R618). -/
def headOffs : List Nat := [0x04, 0x0C, 0x10, 0x18, 0x1C, 0x20, 0x28]

/-- From s to t these registers stand, on every page. -/
def HeadKept (s t : State) : Prop := ∀ a, offOf a ∈ headOffs → t.rd a = s.rd a

section Heads

variable {s0 s t : State}

theorem headKept_refl (s : State) : HeadKept s s := fun _ _ => rfl

theorem HeadKept.trans (a : HeadKept s0 s) (b : HeadKept s t) : HeadKept s0 t := fun r hr => (b r hr).trans (a r hr)

theorem headKept_regs {l : List RegAddr} (hr : RegsOff l s t) (hl : ∀ a ∈ l, offOf a ∉ headOffs) (h : HeadKept s0 s) : HeadKept s0 t :=
  h.trans (fun a ha => hr a (fun hm => hl a hm ha))

theorem headKept_wr (a v : Nat) (ha : offOf a ∉ headOffs) (h : HeadKept s0 s) : HeadKept s0 (s.wr a v) :=
  h.trans (fun _ hb => rd_wr_other v (fun he => ha (he ▸ hb)))

theorem headKept_quiet (hr : t.regs = s.regs) (h : HeadKept s0 s) : HeadKept s0 t := h.trans (fun a _ => rd_congr hr a)

theorem headKept_ite {c : Prop} [Decidable c] {a b : State} (ha : HeadKept s0 a) (hb : HeadKept s0 b) : HeadKept s0 (if c then a else b) := by
  split
  · exact ha
  · exact hb

theorem headKept_traced {u : State} (p : Nat) (h : HeadKept s0 s) : HeadKept s0 (State.traced p u s) :=
  headKept_regs (l := []) (regsOff_traced p (regsOff_refl _ s)) (fun _ hm => absurd hm List.not_mem_nil) h

theorem status_not_head (p : Nat) : offOf (statusOf p) ∉ headOffs := by
  have hoff : offOf (statusOf p) = 0x08 := by
    unfold offOf statusOf
    omega
  rw [hoff]
  decide

theorem headKept_clkOn (p : Nat) (h : HeadKept s0 s) : HeadKept s0 (s.clkOn p) :=
  headKept_traced p (headKept_wr _ _ (status_not_head p) (headKept_wr _ _ (by decide) (headKept_wr _ _ (by decide) h)))

/-- The clocks that a write of CTRL starts (R507). -/
theorem headKept_keepClocks (h : HeadKept s0 s) : HeadKept s0 s.keepClocks := by
  unfold State.keepClocks
  refine headKept_ite h (List.foldlRecOn (motive := HeadKept s0) _ _ h (fun u hu p _ => ?_))
  exact headKept_ite (headKept_wr _ _ (by decide) hu) (headKept_clkOn p hu)

theorem headKept_setPtp (v : Nat) (h : HeadKept s0 s) : HeadKept s0 (s.setPtp v) := headKept_wr _ _ (by decide) (headKept_wr _ _ (by decide) h)

theorem regs_retrainLane (s : State) (l : Nat) : (s.retrainLane l).regs = s.regs := rfl

/-- What a page starts leaves the headers. -/
theorem headKept_startPage (p : Nat) (h : HeadKept s0 s) : HeadKept s0 (s.startPage p) := by
  unfold State.startPage
  split
  · exact h
  · exact headKept_ite (headKept_setPtp 1 h) h
  · exact headKept_wr _ _ (by decide) (headKept_wr _ _ (by decide) h)
  · exact headKept_quiet (List.foldlRecOn (motive := fun u : State => u.regs = s.regs) _ State.retrainLane rfl
      (fun u hu l _ => (regs_retrainLane u l).trans hu)) h
  · exact headKept_quiet (List.foldlRecOn (motive := fun u : State => u.regs = s.regs) _ _ rfl (fun u hu l _ => hu)) h
  · exact h

/-- What a page stops leaves the headers. -/
theorem headKept_stopPage (p : Nat) (h : HeadKept s0 s) : HeadKept s0 (s.stopPage p) := by
  unfold State.stopPage
  split
  · exact headKept_setPtp 0 h
  · exact h
  · exact headKept_quiet ((only_lanesOff (mm := 2199023255552) rfl (only_refl _ s)).regs rfl) h
  · exact headKept_quiet (List.foldlRecOn (motive := fun u : State => u.regs = s.regs) _ _ rfl (fun u hu l _ => hu)) h
  · exact headKept_quiet ((only_abortEngines (mm := 4503599627370496) rfl (only_refl _ s)).regs rfl) h
  · exact h

/-- What a soft reset takes of a block leaves the headers. -/
theorem headKept_softState (p : Nat) (h : HeadKept s0 s) : HeadKept s0 (s.softState p) := by
  unfold State.softState
  split
  · unfold State.softTherm
    dsimp only
    exact headKept_quiet rfl (headKept_regs (l := [R.THERM_CEILING]) (regsOff_showCeil (List.mem_singleton.mpr rfl) (regsOff_refl _ _)) (by decide)
      (headKept_wr _ _ (by decide) (headKept_quiet rfl h)))
  · exact headKept_quiet rfl h
  · exact headKept_quiet rfl h
  · exact headKept_quiet rfl h
  · exact headKept_wr _ _ (by decide) h
  all_goals exact headKept_quiet rfl h

end Heads

/-! ### The value of CTRL written -/

section Control

variable {s t u : State} {o : Origin} {p v : Nat}

theorem offOf_ctrl (p : Nat) : offOf (ctrlOf p) = 0x04 := offOf_page p 4 (by decide)

theorem pageOf_ctrl (p : Nat) : pageOf (ctrlOf p) = p := by
  unfold pageOf ctrlOf
  omega

theorem other_ne_ctrl (p : Nat) {off : Nat} (h : off ≠ 4) : p * 0x1000 + off ≠ ctrlOf p := fun he => h (Nat.add_left_cancel he)

/-- CTRL is written under a mask that holds ENABLE (R619). -/
theorem newValue_ctrl (p old v : Nat) : ∃ m, m % 2 = 1 ∧ newValue (ctrlOf p) old v = (old - (old &&& m)) ||| (v &&& m) := by
  by_cases hp : p = 9
  · refine ⟨0x10F, rfl, ?_⟩
    rw [hp]
    rfl
  · refine ⟨0x00F, rfl, ?_⟩
    unfold newValue rowsOf
    rw [offOf_ctrl, pageOf_ctrl, if_pos (by decide)]
    simp [headerRows, hp]

/-- ENABLE is as it was written. -/
theorem newValue_enable (p old v : Nat) : fieldOf (newValue (ctrlOf p) old v) 0 0 = fieldOf v 0 0 := by
  obtain ⟨m, hm, hnew⟩ := newValue_ctrl p old v
  have hlow : ∀ x, fieldOf x 0 0 = x % 2 := fun x => by
    unfold fieldOf
    omega
  have hand : ∀ x : Nat, (x &&& m) % 2 = x % 2 := fun x => by
    rw [show (2 : Nat) = 2 ^ 1 from rfl, Nat.and_mod_two_pow]
    rw [show m % 2 ^ 1 = 2 ^ 1 - 1 from hm, Nat.and_two_pow_sub_one_eq_mod]
    omega
  have hle : old &&& m ≤ old := Nat.and_le_left
  have heven : (old - (old &&& m)) % 2 = 0 := by
    have := hand old
    omega
  rw [hnew, hlow, hlow, show (2 : Nat) = 2 ^ 1 from rfl, Nat.or_mod_two_pow]
  rw [show (old - (old &&& m)) % 2 ^ 1 = 0 from heven, show (v &&& m) % 2 ^ 1 = v % 2 ^ 1 from hand v, Nat.zero_or]

theorem enabled_of_rd {x : Nat} (h : s.rd (ctrlOf p) = x) : s.enabled p = (fieldOf x 0 0 == 1) := by
  rw [← h]
  rfl

/-- A write of CTRL shows the value, and changes no other of the header's registers. -/
theorem setReg_ctrl {new : Nat} (hfull : s.auditFull = false) (hnew : new < 2 ^ 32) : (s.setReg o (ctrlOf p) new).rd (ctrlOf p) = new ∧
    ∀ a, offOf a ∈ headOffs → a ≠ ctrlOf p → (s.setReg o (ctrlOf p) new).rd a = s.rd a := by
  refine ⟨rd_setReg o _ new hfull hnew, fun a ha hne => regsOff_setReg o _ new hfull a (fun hm => ?_)⟩
  have hseq : offOf (pageOf (ctrlOf p) * 0x1000 + 0x2C) = 0x2C := offOf_page _ _ (by decide)
  have hoffs : offOf R.AUDIT_HEAD_L ∉ headOffs ∧ offOf (R.AUDIT_HEAD_L + 4) ∉ headOffs ∧ offOf R.AUDIT_FREE ∉ headOffs := by decide
  simp only [auditRegs, List.mem_cons, List.not_mem_nil, or_false] at hm
  obtain ⟨h1, h2, h3⟩ := hoffs
  rcases hm with h | h | h | h | h
  · exact hne h
  · rw [h, hseq] at ha
    exact absurd ha (by decide)
  · exact h1 (h ▸ ha)
  · exact h2 (h ▸ ha)
  · exact h3 (h ▸ ha)

/-! ### The check passed or refused (R623) -/

theorem passCheck_acts {new : Nat} (hfull : s.auditFull = false) (hnew : new < 2 ^ 32) :
    (s.passCheck o p new).rd (ctrlOf p) = new ∧ (s.passCheck o p new).rd (p * 0x1000 + 0x0C) = 0 := by
  have hclk : Only 4611686018427387905 s ((s.clkOn p).wr (p * 0x1000 + 0x0C) 0) := only_wr _ _ rfl (only_clkOn p rfl (only_refl _ s))
  have hzero : ((s.clkOn p).wr (p * 0x1000 + 0x0C) 0).rd (p * 0x1000 + 0x0C) = 0 := rd_wr_same _ _ (by decide)
  unfold State.passCheck
  generalize (s.clkOn p).wr (p * 0x1000 + 0x0C) 0 = u at hclk hzero ⊢
  obtain ⟨hctrl, hhead⟩ := setReg_ctrl (s := u) (o := o) (p := p) ((auditFull_congr (hclk.audit rfl)).trans hfull) hnew
  have hoff : offOf (p * 0x1000 + 0x0C) = 0x0C := offOf_page p _ (by decide)
  have hstart := headKept_traced (u := s) p (headKept_startPage p (headKept_refl (u.setReg o (ctrlOf p) new)))
  exact ⟨(hstart _ (by rw [offOf_ctrl]; decide)).trans hctrl, (hstart _ (by rw [hoff]; decide)).trans
    ((hhead _ (by rw [hoff]; decide) (other_ne_ctrl p (by decide))).trans hzero)⟩

theorem failCheck_acts {new : Nat} (e : Nat × Nat) (hfull : s.auditFull = false) (hnew : new < 2 ^ 32) :
    (s.failCheck o p new e).rd (ctrlOf p) = new ∧ (s.failCheck o p new e).rd (p * 0x1000 + 0x0C) = (e.2 * 2 ^ 16 + e.1) % 2 ^ 32 ∧
    (s.failCheck o p new e).fld (p * 0x1000 + 0x10) 30 30 = 1 ∧ Only 78399225263219015713 s (s.failCheck o p new e) := by
  have hclk : Only 4611686018427387905 s (s.clkOn p) := only_clkOn p rfl (only_refl _ s)
  unfold State.failCheck
  generalize hu : s.clkOn p = u at hclk ⊢
  have hroom : u.auditFull = false := (auditFull_congr (hclk.audit rfl)).trans hfull
  obtain ⟨hctrl, -⟩ := setReg_ctrl (s := u) (o := o) (p := p) hroom hnew
  have hset := only_setReg_room o (ctrlOf p) new hroom
  generalize u.setReg o (ctrlOf p) new = w at hctrl hset ⊢
  have hwctrl : (w.wr (p * 0x1000 + 0x0C) (e.2 * 2 ^ 16 + e.1)).rd (ctrlOf p) = new :=
    (rd_wr_other _ (other_ne_ctrl p (by decide))).trans hctrl
  have hwrefuse : (w.wr (p * 0x1000 + 0x0C) (e.2 * 2 ^ 16 + e.1)).rd (p * 0x1000 + 0x0C) = (e.2 * 2 ^ 16 + e.1) % 2 ^ 32 := by
    rw [rd_wr, if_pos rfl]
  have hw : Only 78399225263219015713 s (w.wr (p * 0x1000 + 0x0C) (e.2 * 2 ^ 16 + e.1)) :=
    only_wr _ _ rfl (only_trans (only_mono rfl hclk) (only_mono rfl hset))
  generalize w.wr (p * 0x1000 + 0x0C) (e.2 * 2 ^ 16 + e.1) = y at hwctrl hwrefuse hw ⊢
  have hirq := raiseIrq_sets y p (b := 30) (by decide)
  have hregs : RegsOff [p * 0x1000 + 0x10, p * 0x1000 + 0x18] y (y.raiseIrq p 30) :=
    regsOff_raiseIrq p 30 (List.mem_cons_self) (List.mem_cons_of_mem _ List.mem_cons_self) (regsOff_refl _ y)
  have htraced := regsOff_traced p (u := s) (regsOff_refl [] (y.raiseIrq p 30))
  have hkept : ∀ a, (State.traced p s (y.raiseIrq p 30)).rd a = (y.raiseIrq p 30).rd a := fun a => htraced a List.not_mem_nil
  have hout : ∀ off, off ≠ 0x10 → off ≠ 0x18 → (y.raiseIrq p 30).rd (p * 0x1000 + off) = y.rd (p * 0x1000 + off) := by
    intro off h1 h2
    refine hregs _ (fun hm => ?_)
    simp only [List.mem_cons, List.not_mem_nil, or_false] at hm
    exact hm.elim (fun h => h1 (Nat.add_left_cancel h)) (fun h => h2 (Nat.add_left_cancel h))
  exact ⟨(hkept _).trans ((hout 4 (by decide) (by decide)).trans hwctrl), (hkept _).trans ((hout 0x0C (by decide) (by decide)).trans hwrefuse),
    (fld_of_rd (hkept _) 30 30).trans hirq, only_traced p rfl (only_refl _ s) (only_raiseIrq _ _ rfl hw)⟩

/-! ### Soft reset (R622) -/

/-- Header registers written 0 one after another. -/
theorem rd_zeroed (p : Nat) (l : List Nat) : ∀ (u : State) (off : Nat), (l.foldl (fun s o => s.wr (p * 0x1000 + o) 0) u).rd (p * 0x1000 + off) =
    if off ∈ l then 0 else u.rd (p * 0x1000 + off) := by
  induction l with
  | nil => exact fun u off => (if_neg List.not_mem_nil).symm
  | cons x l ih =>
    intro u off
    rw [List.foldl_cons, ih]
    by_cases hx : off = x
    · have hzero : (u.wr (p * 0x1000 + x) 0).rd (p * 0x1000 + off) = 0 := by
        rw [hx]
        exact rd_wr_same _ _ (by decide)
      rw [hzero, ite_self, if_pos (hx ▸ List.mem_cons_self)]
    · have hother : (u.wr (p * 0x1000 + x) 0).rd (p * 0x1000 + off) = u.rd (p * 0x1000 + off) :=
        rd_wr_other _ (fun h => hx (Nat.add_left_cancel h).symm)
      simp only [hother, List.mem_cons, hx, false_or]

/-- No counting or recording register lies in a header. -/
theorem countRegs_not_head : ∀ p < 29, ∀ r ∈ countRegs p, offOf r.1 ∉ headOffs := by decide +kernel

/-- A soft reset clears the records of the page's header, and keeps its CTRL and its LOCK. -/
theorem softReset_acts (hp : p ≤ 28) : Only 8070518701969907713 s (s.softReset p) ∧ (s.softReset p).rd (ctrlOf p) = s.rd (ctrlOf p) ∧
    (s.softReset p).rd (p * 0x1000 + 0x28) = s.rd (p * 0x1000 + 0x28) ∧
    ∀ off, off ∈ [0x0C, 0x18, 0x1C, 0x20] → (s.softReset p).rd (p * 0x1000 + off) = 0 := by
  have hcount : HeadKept s ((countRegs p).foldl (fun s r => s.resetField r.1 r.2) (s.softState p)) :=
    List.foldlRecOn (motive := HeadKept s) _ _ (headKept_softState p (headKept_refl s))
      (fun u hu r hr => headKept_wr _ _ (countRegs_not_head p (by omega) r hr) hu)
  refine ⟨only_softReset p rfl (only_refl _ s), ?_⟩
  unfold State.softReset
  dsimp only
  generalize List.foldl _ (s.softState p) _ = u at hcount ⊢
  have hraw : ∀ off, off ≠ 0x10 → (u.wr (p * 0x1000 + 0x10) (Nat.land (u.rd (p * 0x1000 + 0x10)) (conditionIrqs p))).rd (p * 0x1000 + off) =
      u.rd (p * 0x1000 + off) := fun off h => rd_wr_other _ (fun he => h (Nat.add_left_cancel he).symm)
  generalize u.wr (p * 0x1000 + 0x10) _ = w at hraw ⊢
  have hzero := rd_zeroed p [0x0C, 0x18, 0x1C, 0x20, 0x2C] w
  generalize List.foldl _ w [0x0C, 0x18, 0x1C, 0x20, 0x2C] = y at hzero ⊢
  have htraced : ∀ a, (State.traced p s y).rd a = y.rd a := fun a => regsOff_traced p (regsOff_refl [] y) a List.not_mem_nil
  refine ⟨(htraced _).trans ((hzero 4).trans ((hraw 4 (by decide)).trans (hcount _ (by rw [offOf_page p 4 (by decide)]; decide)))),
    (htraced _).trans ((hzero 0x28).trans ((hraw 0x28 (by decide)).trans (hcount _ (by rw [offOf_page p 0x28 (by decide)]; decide)))),
    fun off hoff => (htraced _).trans ((hzero off).trans (if_pos (List.mem_append_left [0x2C] hoff)))⟩

/-! ### A write of CTRL admitted -/

/-- The value that a write puts into CTRL. -/
def State.ctrlNew (s : State) (p v : Nat) : Nat := newValue (ctrlOf p) (s.rd (ctrlOf p)) v

theorem ctrlNew_lt (hv : v < 2 ^ 32) : s.ctrlNew p v < 2 ^ 32 := newValue_lt _ _ _ (rd_lt _) hv

theorem putCtrl_passes (hfull : s.auditFull = false) (hen : fieldOf v 0 0 = 1) (hrst : fieldOf v 1 1 = 0) (hoff : s.enabled p = false)
    (hcheck : s.check p = none) : s.putCtrl o p v = s.passCheck o p (s.ctrlNew p v) := by
  unfold State.putCtrl
  simp [hfull, hen, hrst, hoff, hcheck, State.ctrlNew]

theorem putCtrl_fails {e : Nat × Nat} (hfull : s.auditFull = false) (hen : fieldOf v 0 0 = 1) (hrst : fieldOf v 1 1 = 0) (hoff : s.enabled p = false)
    (hcheck : s.check p = some e) : s.putCtrl o p v = s.failCheck o p (withField (s.ctrlNew p v) 0 0 0) e := by
  unfold State.putCtrl
  simp [hfull, hen, hrst, hoff, hcheck, State.ctrlNew]

theorem putCtrl_disables (hfull : s.auditFull = false) (hen : fieldOf v 0 0 = 0) (hrst : fieldOf v 1 1 = 0) (hon : s.enabled p = true) :
    s.putCtrl o p v = s.disable o p (s.ctrlNew p v) v := by
  unfold State.putCtrl
  simp [hfull, hen, hrst, hon, State.ctrlNew]

theorem putCtrl_stays (hfull : s.auditFull = false) (hen : fieldOf v 0 0 = 0) (hrst : fieldOf v 1 1 = 0) (hoff : s.enabled p = false) :
    s.putCtrl o p v = s.setReg o (ctrlOf p) (s.ctrlNew p v) := by
  unfold State.putCtrl
  simp [hfull, hen, hrst, hoff, State.ctrlNew]

theorem putCtrl_barred (hfull : s.auditFull = false) (hrst : fieldOf v 1 1 = 1) (hon : s.enabled p = true) :
    s.putCtrl o p v = s.refuse o (Code.REG_RESET_ENABLED p) (ctrlOf p) v := by
  unfold State.putCtrl
  simp [hfull, hrst, hon]

/-- A write with SOFT_RESET resets a disabled page first, and then writes what remains (R637). -/
theorem putCtrl_resets (hp : p ≤ 28) (hfull : s.auditFull = false) (hrst : fieldOf v 1 1 = 1) (hoff : s.enabled p = false) :
    (s.softReset p).auditFull = false ∧ (s.softReset p).enabled p = false ∧ fieldOf (v - 2) 0 0 = fieldOf v 0 0 ∧ fieldOf (v - 2) 1 1 = 0 ∧
    s.putCtrl o p v = (s.softReset p).putCtrl o p (v - 2) := by
  obtain ⟨honly, hctrl, -, -⟩ := softReset_acts (s := s) hp
  have hroom : (s.softReset p).auditFull = false := (auditFull_congr (honly.audit rfl)).trans hfull
  have hdown : (s.softReset p).enabled p = false := (enabled_of_rd hctrl).trans hoff
  have hlow : fieldOf (v - 2) 0 0 = fieldOf v 0 0 := by
    unfold fieldOf at hrst ⊢
    omega
  have hnone : fieldOf (v - 2) 1 1 = 0 := by
    unfold fieldOf at hrst ⊢
    omega
  refine ⟨hroom, hdown, hlow, hnone, ?_⟩
  unfold State.putCtrl
  simp [hfull, hroom, hrst, hnone, hoff, hdown, hlow, hctrl]

end Control

end Sys2Proof.Machine
end

section
/-! PROOFS. Enable, disable and soft reset of a page, one write of both (O58, O60). -/

namespace Sys2Proof.Machine

section Writing

variable {s t u : State} {o : Origin} {p v : Nat}

/-! ### A write of CTRL, and the clocks that follow it -/

theorem ctrlWrite_eq (hp : p ≤ 28) (hok : s.permit o (ctrlOf p) v = .ok s) : s.ctrlWrite o p v = (s.putCtrl o p v).keepClocks := by
  unfold State.ctrlWrite State.writeCtrl
  rw [if_neg (by omega)]
  simp only [hok]

theorem exec_ctrlEnable (hp : p ≤ 28) (hok : s.permit o (ctrlOf p) v = .ok s) (hen : fieldOf v 0 0 = 1) :
    exec (.ctrlEnable o p v) s = .next (s.putCtrl o p v).keepClocks := by
  rw [← ctrlWrite_eq hp hok]
  exact if_neg (by omega)

theorem exec_ctrlDisable (hp : p ≤ 28) (hok : s.permit o (ctrlOf p) v = .ok s) (hen : fieldOf v 0 0 = 0) :
    exec (.ctrlDisable o p v) s = .next (s.putCtrl o p v).keepClocks := by
  rw [← ctrlWrite_eq hp hok]
  exact if_neg (by omega)

theorem exec_softReset (hp : p ≤ 28) (hok : s.permit o (ctrlOf p) v = .ok s) (hrst : fieldOf v 1 1 = 1) :
    exec (.softReset o p v) s = .next (s.putCtrl o p v).keepClocks := by
  rw [← ctrlWrite_eq hp hok]
  exact if_neg (by omega)

/-- The clocks started leave the headers' registers. -/
theorem rd_keepClocks {a : RegAddr} (ha : offOf a ∈ headOffs) : s.keepClocks.rd a = s.rd a := headKept_keepClocks (headKept_refl s) a ha

theorem ctrl_head (p : Nat) : offOf (ctrlOf p) ∈ headOffs := by
  rw [offOf_ctrl]
  decide

theorem page_head {off : Nat} (p : Nat) (h : off < 0x1000) (hoff : off ∈ headOffs) : offOf (p * 0x1000 + off) ∈ headOffs := by
  rw [offOf_page p off h]
  exact hoff

theorem enabled_keepClocks : s.keepClocks.enabled p = s.enabled p := enabled_of_rd (rd_keepClocks (ctrl_head p))

theorem only_clocks (s : State) : Only 4611686018427387905 s s.keepClocks := only_keepClocks rfl (only_refl _ s)

theorem newest_keepClocks {code cls lk l0 l1 l2 : Nat} (h : s.newest code cls lk l0 l1 l2) : s.keepClocks.newest code cls lk l0 l1 l2 := by
  unfold State.newest at h ⊢
  rw [(only_clocks s).log rfl]
  exact h

/-! ### Enable (R623) -/

theorem enable_passes (hp : p ≤ 28) (hv : v < 2 ^ 32) (hok : s.permit o (ctrlOf p) v = .ok s) (hfull : s.auditFull = false) (hen : fieldOf v 0 0 = 1)
    (hrst : fieldOf v 1 1 = 0) (hoff : s.enabled p = false) (hcheck : s.check p = none) :
    ∃ t, exec (.ctrlEnable o p v) s = .next t ∧ t.enabled p = true ∧ t.rd (p * 0x1000 + 0x0C) = 0 := by
  obtain ⟨hctrl, hrefuse⟩ := passCheck_acts (o := o) (p := p) hfull (ctrlNew_lt (p := p) (s := s) hv)
  refine ⟨_, exec_ctrlEnable hp hok hen, ?_⟩
  rw [putCtrl_passes hfull hen hrst hoff hcheck, enabled_keepClocks, rd_keepClocks (page_head p (by decide) (by decide)), enabled_of_rd hctrl]
  unfold State.ctrlNew
  rw [newValue_enable, hen]
  exact ⟨rfl, hrefuse⟩

theorem enable_fails (hp : p ≤ 28) (hv : v < 2 ^ 32) (hok : s.permit o (ctrlOf p) v = .ok s) (hfull : s.auditFull = false) (hen : fieldOf v 0 0 = 1)
    (hrst : fieldOf v 1 1 = 0) (hoff : s.enabled p = false) {e : Nat × Nat} (hcheck : s.check p = some e) :
    ∃ t, exec (.ctrlEnable o p v) s = .next t ∧ t.enabled p = false ∧ t.rd (p * 0x1000 + 0x0C) = (e.2 * 2 ^ 16 + e.1) % 2 ^ 32 ∧
      t.fld (p * 0x1000 + 0x10) 30 30 = 1 ∧ t.stripes = s.stripes ∧ t.log = s.log := by
  have hlt : withField (s.ctrlNew p v) 0 0 0 < 2 ^ 32 := withField_lt (hi := 0) (lo := 0) 0 (by decide) (by decide) (ctrlNew_lt hv)
  obtain ⟨hctrl, hrefuse, hirq, honly⟩ := failCheck_acts (o := o) (p := p) e hfull hlt
  have hall : Only 78399225263219015713 s (s.failCheck o p (withField (s.ctrlNew p v) 0 0 0) e).keepClocks := only_keepClocks rfl honly
  refine ⟨_, exec_ctrlEnable hp hok hen, ?_⟩
  rw [putCtrl_fails hfull hen hrst hoff hcheck, enabled_keepClocks, rd_keepClocks (page_head p (by decide) (by decide)), enabled_of_rd hctrl,
    fld_of_rd (rd_keepClocks (page_head p (by decide) (by decide))) 30 30]
  have hclear : fieldOf (withField (s.ctrlNew p v) 0 0 0) 0 0 = 0 :=
    (fieldOf_withField_same _ 0 (Nat.le_refl 0)).trans (Nat.zero_mod _)
  rw [hclear]
  exact ⟨rfl, hrefuse, hirq, hall.stripes rfl, hall.log rfl⟩

/-! ### Disable (R625) -/

theorem disable_acts (hp : p ≤ 28) (hv : v < 2 ^ 32) (hok : s.permit o (ctrlOf p) v = .ok s) (hfull : s.auditFull = false) (hen : fieldOf v 0 0 = 0)
    (hrst : fieldOf v 1 1 = 0) (hon : s.enabled p = true) (hheld : s.stripesHeld = false ∨ Nat.testBit 0x03C7FF00 p = false)
    (hneed : ∀ q, q ≤ 28 → p ∈ needs q → s.enabled q = false) :
    ∃ t, exec (.ctrlDisable o p v) s = .next t ∧ t.enabled p = false ∧ t.stripes = s.stripes ∧ t.log = s.log := by
  have hnone : (List.range 29).any (fun q => (needs q).contains p && s.enabled q) = false := by
    simp only [List.any_eq_false, List.mem_range, Bool.and_eq_true, List.contains_iff_mem, not_and, Bool.not_eq_true]
    exact fun q hq hm => hneed q (by omega) hm
  have hstop : s.disable o p (s.ctrlNew p v) v = State.traced p s ((s.setReg o (ctrlOf p) (s.ctrlNew p v)).stopPage p) := by
    unfold State.disable
    rw [if_neg (fun h => by rcases hheld with hh | hh <;> simp [hh] at h), if_neg (by rw [hnone]; simp)]
  obtain ⟨hctrl, -⟩ := setReg_ctrl (o := o) (p := p) hfull (ctrlNew_lt (p := p) (s := s) hv)
  have hset := only_setReg_room o (ctrlOf p) (s.ctrlNew p v) hfull
  have hkept := headKept_traced (u := s) p (headKept_stopPage p (headKept_refl (s.setReg o (ctrlOf p) (s.ctrlNew p v))))
  have hall : Only 6922602174291640353 s (State.traced p s ((s.setReg o (ctrlOf p) (s.ctrlNew p v)).stopPage p)).keepClocks :=
    only_keepClocks rfl (only_traced p rfl (only_refl _ s) (only_stopPage p rfl (only_mono rfl hset)))
  refine ⟨_, exec_ctrlDisable hp hok hen, ?_⟩
  rw [putCtrl_disables hfull hen hrst hon, hstop, enabled_keepClocks, enabled_of_rd ((hkept _ (ctrl_head p)).trans hctrl)]
  unfold State.ctrlNew at hall ⊢
  rw [newValue_enable, hen]
  exact ⟨rfl, hall.stripes rfl, hall.log rfl⟩

/-- No record touches CTRL or LOCK. -/
theorem head_not_recorded (q p : Nat) {off : Nat} (h : off = 0x04 ∨ off = 0x28) : p * 0x1000 + off ∉ recordRegs q := by
  have hoffs : ∀ a ∈ recordRegs q, offOf a ≠ 0x04 ∧ offOf a ≠ 0x28 := by
    simp only [recordRegs, List.forall_mem_cons]
    refine ⟨?_, ?_, ?_, ?_, by decide, by decide, by decide, by decide, by decide, by decide, by decide, by decide, by decide, fun _ hm => nomatch hm⟩
    all_goals rw [offOf_page q _ (by decide)]; decide
  intro hm
  obtain ⟨hctrl, hlock⟩ := hoffs _ hm
  rcases h with rfl | rfl
  · exact hctrl (offOf_page p 4 (by decide))
  · exact hlock (offOf_page p 0x28 (by decide))

/-- A write of CTRL that is refused leaves CTRL, and its record names it. -/
theorem refused_acts {code : Nat} (hlog : 256 < s.logFree) : (s.refuse o code (ctrlOf p) v).keepClocks.rd (ctrlOf p) = s.rd (ctrlOf p) ∧
    (s.refuse o code (ctrlOf p) v).keepClocks.newest code 7 6 p 4 v ∧ Only 78398662313265594385 s (s.refuse o code (ctrlOf p) v).keepClocks := by
  have hnoted : Noted s (s.refuse o code (ctrlOf p) v) _ := noted_record rfl hlog
  have hnew := hnoted.newest
  dsimp only at hnew
  rw [pageOf_ctrl, offOf_ctrl] at hnew
  exact ⟨(rd_keepClocks (ctrl_head p)).trans (hnoted.regs _ (head_not_recorded _ p (.inl rfl))), newest_keepClocks hnew, only_keepClocks rfl hnoted.only⟩

theorem disable_held (hp : p ≤ 28) (hok : s.permit o (ctrlOf p) v = .ok s) (hfull : s.auditFull = false) (hen : fieldOf v 0 0 = 0)
    (hrst : fieldOf v 1 1 = 0) (hon : s.enabled p = true) (hheld : s.stripesHeld = true) (hbit : Nat.testBit 0x03C7FF00 p = true) (hlog : 256 < s.logFree) :
    ∃ t, exec (.ctrlDisable o p v) s = .next t ∧ t.enabled p = true ∧ t.newest (Code.REG_STRIPE_ACTIVE p) 7 6 p 4 v := by
  obtain ⟨hctrl, hnew, -⟩ := refused_acts (o := o) (p := p) (v := v) (code := Code.REG_STRIPE_ACTIVE p) hlog
  have hrefuse : s.disable o p (s.ctrlNew p v) v = s.refuse o (Code.REG_STRIPE_ACTIVE p) (ctrlOf p) v := if_pos ⟨hheld, hbit⟩
  rw [← hrefuse, ← putCtrl_disables hfull hen hrst hon] at hctrl hnew
  exact ⟨_, exec_ctrlDisable hp hok hen, (enabled_of_rd hctrl).trans hon, hnew⟩

theorem disable_needed (hp : p ≤ 28) (hok : s.permit o (ctrlOf p) v = .ok s) (hfull : s.auditFull = false) (hen : fieldOf v 0 0 = 0)
    (hrst : fieldOf v 1 1 = 0) (hon : s.enabled p = true) (hheld : s.stripesHeld = false ∨ Nat.testBit 0x03C7FF00 p = false) (hlog : 256 < s.logFree)
    {q : Nat} (hq : q ≤ 28) (hmem : p ∈ needs q) (hup : s.enabled q = true) :
    ∃ t, exec (.ctrlDisable o p v) s = .next t ∧ t.enabled p = true ∧ t.newest (Code.REG_PREREQ_HELD p) 7 6 p 4 v := by
  obtain ⟨hctrl, hnew, -⟩ := refused_acts (o := o) (p := p) (v := v) (code := Code.REG_PREREQ_HELD p) hlog
  have hrefuse : s.disable o p (s.ctrlNew p v) v = s.refuse o (Code.REG_PREREQ_HELD p) (ctrlOf p) v := by
    unfold State.disable
    rw [if_neg (fun h => by rcases hheld with hh | hh <;> simp [hh] at h), if_pos]
    exact List.any_eq_true.mpr ⟨q, List.mem_range.mpr (by omega), by simp [hmem, hup]⟩
  rw [← hrefuse, ← putCtrl_disables hfull hen hrst hon] at hctrl hnew
  exact ⟨_, exec_ctrlDisable hp hok hen, (enabled_of_rd hctrl).trans hon, hnew⟩

/-! ### Soft reset (R622) -/

theorem reset_acts (hp : p ≤ 28) (hv : v < 2 ^ 32) (hok : s.permit o (ctrlOf p) v = .ok s) (hfull : s.auditFull = false) (hrst : fieldOf v 1 1 = 1)
    (hen : fieldOf v 0 0 = 0) (hoff : s.enabled p = false) :
    ∃ t, exec (.softReset o p v) s = .next t ∧ t.enabled p = false ∧ ∀ off, off ∈ [0x0C, 0x18, 0x1C, 0x20] → t.rd (p * 0x1000 + off) = 0 := by
  obtain ⟨hroom, hdown, hlow, hnone, hput⟩ := putCtrl_resets (o := o) (v := v) hp hfull hrst hoff
  obtain ⟨-, -, -, hzero⟩ := softReset_acts (s := s) hp
  obtain ⟨hctrl, hhead⟩ := setReg_ctrl (o := o) (p := p) hroom (ctrlNew_lt (p := p) (s := s.softReset p) (v := v - 2) (by omega))
  refine ⟨_, exec_softReset hp hok hrst, ?_⟩
  rw [hput, putCtrl_stays hroom (hlow.trans hen) hnone hdown, enabled_keepClocks, enabled_of_rd hctrl]
  unfold State.ctrlNew at hhead ⊢
  rw [newValue_enable, hlow, hen]
  refine ⟨rfl, fun off hm => ?_⟩
  have hsmall : off < 0x1000 ∧ off ≠ 4 ∧ off ∈ headOffs := by
    simp only [List.mem_cons, List.not_mem_nil, or_false] at hm
    rcases hm with rfl | rfl | rfl | rfl <;> decide
  obtain ⟨hlt, hne, hoffs⟩ := hsmall
  rw [rd_keepClocks (page_head p hlt hoffs), hhead _ (page_head p hlt hoffs) (other_ne_ctrl p hne)]
  exact hzero off hm

theorem reset_barred (hp : p ≤ 28) (hok : s.permit o (ctrlOf p) v = .ok s) (hfull : s.auditFull = false) (hrst : fieldOf v 1 1 = 1)
    (hon : s.enabled p = true) (hlog : 256 < s.logFree) :
    ∃ t, exec (.softReset o p v) s = .next t ∧ t.rd (ctrlOf p) = s.rd (ctrlOf p) ∧ t.newest (Code.REG_RESET_ENABLED p) 7 6 p 4 v ∧
      t = { s with regs := t.regs, log := t.log, trace := t.trace, out := t.out } := by
  obtain ⟨hctrl, hnew, honly⟩ := refused_acts (o := o) (p := p) (v := v) (code := Code.REG_RESET_ENABLED p) hlog
  rw [← putCtrl_barred hfull hrst hon] at hctrl hnew honly
  exact ⟨_, exec_softReset hp hok hrst, hctrl, hnew, honly.eq_takes⟩

/-! ### The write that a reset lets through (R637) -/

/-- What a write that is admitted has passed (R559, R560, R616). -/
structure Admitted (s : State) (o : Origin) (a v : Nat) : Prop where
  up : ¬ (s.power = .night ∨ !s.booted ∨ (!s.fold.fwRuns ∧ o ≠ .firmware))
  alive : ¬ (s.fatal ≠ 0 ∧ a ≠ R.SYS_DEVICE_RESET)
  writable : ¬ (!writable a) = true
  role : ¬ (!roleOkValue o a v) = true
  lock : ¬ (!s.lockOk o a) = true
  dusk : ¬ (s.power = .dusk ∧ s.startsWork a v = true)
  enable : ¬ ((rowsOf a).any (fun r => r.acc = .rwe) = true ∧ s.enabled (pageOf a) = true)

theorem permit_of_admitted {a : Nat} (h : Admitted s o a v) : s.permit o a v = .ok s := by
  unfold State.permit
  rw [if_neg h.up, if_neg h.alive, if_neg h.writable, if_neg h.role, if_neg h.lock, if_neg h.dusk, if_neg h.enable]

theorem admitted_of_permit {a : Nat} (h : s.permit o a v = .ok s) : Admitted s o a v := by
  unfold State.permit at h
  by_cases h1 : s.power = .night ∨ !s.booted ∨ (!s.fold.fwRuns ∧ o ≠ .firmware)
  · rw [if_pos h1] at h
    cases h
  rw [if_neg h1] at h
  by_cases h2 : s.fatal ≠ 0 ∧ a ≠ R.SYS_DEVICE_RESET
  · rw [if_pos h2] at h
    cases h
  rw [if_neg h2] at h
  by_cases h3 : (!writable a) = true
  · rw [if_pos h3] at h
    cases h
  rw [if_neg h3] at h
  by_cases h4 : (!roleOkValue o a v) = true
  · rw [if_pos h4] at h
    cases h
  rw [if_neg h4] at h
  by_cases h5 : (!s.lockOk o a) = true
  · rw [if_pos h5] at h
    cases h
  rw [if_neg h5] at h
  by_cases h6 : s.power = .dusk ∧ s.startsWork a v = true
  · rw [if_pos h6] at h
    cases h
  rw [if_neg h6] at h
  by_cases h7 : (rowsOf a).any (fun r => r.acc = .rwe) = true ∧ s.enabled (pageOf a) = true
  · rw [if_pos h7] at h
    cases h
  exact ⟨h1, h2, h3, h4, h5, h6, h7⟩

/-- A reset of the page leaves the write of its CTRL admitted, without SOFT_RESET too. -/
theorem permit_softReset (hp : p ≤ 28) (hok : s.permit o (ctrlOf p) v = .ok s) (hrst : fieldOf v 1 1 = 1) :
    (s.softReset p).permit o (ctrlOf p) (v - 2) = .ok (s.softReset p) := by
  have h := admitted_of_permit hok
  obtain ⟨honly, hctrl, hlock, -⟩ := softReset_acts (s := s) hp
  have hstarts : s.startsWork (ctrlOf p) v = true := by
    unfold State.startsWork
    rw [offOf_ctrl]
    simp [hrst]
  have hkeep : ctrlOf p ≠ R.KEEP_CMD := fun he => absurd ((offOf_ctrl p).symm.trans (congrArg offOf he)) (by decide)
  have hrole : ∀ w, roleOkValue o (ctrlOf p) w = roleOk o (ctrlOf p) := fun w => by simp [roleOkValue, hkeep]
  have hlevel : (s.softReset p).lockOk o (ctrlOf p) = s.lockOk o (ctrlOf p) := by
    unfold State.lockOk
    rw [pageOf_ctrl, fld_of_rd hlock]
  generalize s.softReset p = u at honly hctrl hlevel
  refine permit_of_admitted ⟨?_, ?_, h.writable, ?_, ?_, fun hd => ?_, ?_⟩
  · rw [honly.power rfl, honly.booted rfl, honly.fold rfl]
    exact h.up
  · rw [honly.fatal rfl]
    exact h.alive
  · have hadmit := h.role
    rw [hrole] at hadmit ⊢
    exact hadmit
  · rw [hlevel]
    exact h.lock
  · exact h.dusk ⟨(honly.power rfl).symm.trans hd.1, hstarts⟩
  · have hsame : u.enabled (pageOf (ctrlOf p)) = s.enabled (pageOf (ctrlOf p)) := by
      rw [pageOf_ctrl]
      exact enabled_of_rd hctrl
    rw [hsame]
    exact h.enable

end Writing

/-- Settles O58, by the paths of a write of CTRL and what each leaves of the page's header. -/
theorem pagesEnableAndReset : Obligations.PagesEnableAndReset := by
  unfold Obligations.PagesEnableAndReset
  refine fun o p v s hp hv hok hfull => ⟨fun hen hrst hoff => ⟨fun hcheck => ?_, fun e hcheck => ?_⟩, fun hen hrst hon => ⟨fun hheld hneed => ?_,
    fun hheld hbit hlog => ?_, fun hheld hlog q hq hmem hup => ?_⟩, fun hrst => ⟨fun hen hoff => ?_, fun hon hlog => ?_⟩⟩
  · exact enable_passes hp hv hok hfull hen hrst hoff hcheck
  · exact enable_fails hp hv hok hfull hen hrst hoff hcheck
  · exact disable_acts hp hv hok hfull hen hrst hon hheld hneed
  · exact disable_held hp hok hfull hen hrst hon hheld hbit hlog
  · exact disable_needed hp hok hfull hen hrst hon hheld hlog hq hmem hup
  · exact reset_acts hp hv hok hfull hrst hen hoff
  · obtain ⟨t, hrun, hctrl, hnew, -⟩ := reset_barred hp hok hfull hrst hon hlog
    exact ⟨t, hrun, (enabled_of_rd hctrl).trans hon, hnew⟩

/-- Settles O60: a write of both is the reset and then the write of what remains. -/
theorem resetThenEnables : Obligations.ResetThenEnables := by
  unfold Obligations.ResetThenEnables
  refine fun o p v s hp hv hok hfull hen hrst => ⟨fun hoff => ?_, fun hon hlog => ?_⟩
  · obtain ⟨hroom, hdown, hlow, hnone, hput⟩ := putCtrl_resets (o := o) (v := v) hp hfull hrst hoff
    have hadmit := permit_softReset hp hok hrst
    have hlt : v - 2 < 2 ^ 32 := by omega
    have hrun := exec_softReset hp hok hrst
    rw [hput] at hrun
    have henable := exec_ctrlEnable hp hadmit (hlow.trans hen)
    refine ⟨_, hrun, henable, fun hcheck => ?_, fun e hcheck => ?_⟩
    · obtain ⟨t, ht, hup, -⟩ := enable_passes hp hlt hadmit hroom (hlow.trans hen) hnone hdown hcheck
      rw [Host.Outcome.next.inj (henable.symm.trans ht)]
      exact hup
    · obtain ⟨t, ht, hstay, hrefuse, -⟩ := enable_fails hp hlt hadmit hroom (hlow.trans hen) hnone hdown hcheck
      rw [Host.Outcome.next.inj (henable.symm.trans ht)]
      exact ⟨hstay, hrefuse⟩
  · obtain ⟨t, hrun, hctrl, hnew, hshow⟩ := reset_barred hp hok hfull hrst hon hlog
    exact ⟨t, hrun, hnew, hctrl, hshow⟩

end Sys2Proof.Machine
end

section
/-! PROOFS. The header's action registers, the pins and the board controller (O59). -/

namespace Sys2Proof.Machine

section
variable {s t : State} {o : Origin} {p v : Nat}

theorem traced_eq (p : Nat) (s t : State) : ∃ x, State.traced p s t = { t with trace := x } := by
  unfold State.traced
  split
  · exact ⟨t.trace, rfl⟩
  · exact traceRec_eq t p 2 0 _

theorem pageOf_page (p : Nat) {k : Nat} (hk : k < 0x1000) : pageOf (p * 0x1000 + k) = p := by
  unfold pageOf
  omega

/-! ### ERR_CLEAR (R621) -/

/-- The bits of a field, cleared. -/
theorem and_sub_field (x : Nat) {hi lo : Nat} (h : lo ≤ hi) :
    (x - (x &&& (2 ^ (hi + 1 - lo) - 1) * 2 ^ lo)) &&& (2 ^ (hi + 1 - lo) - 1) * 2 ^ lo = 0 := by
  have hmask : ∀ i, ((2 ^ (hi + 1 - lo) - 1) * 2 ^ lo).testBit i = decide (lo ≤ i ∧ i ≤ hi) := fun i => by
    rw [Nat.testBit_mul_two_pow, Nat.testBit_two_pow_sub_one, ← Bool.decide_and]
    exact decide_eq_decide.mpr (by omega)
  have hfield : x &&& (2 ^ (hi + 1 - lo) - 1) * 2 ^ lo = fieldOf x hi lo * 2 ^ lo := by
    refine Nat.eq_of_testBit_eq fun i => ?_
    rw [Nat.testBit_and, hmask, Nat.testBit_mul_two_pow, testBit_fieldOf]
    by_cases hi' : lo ≤ i
    · rw [Nat.add_sub_cancel' hi', decide_eq_true hi', Bool.true_and, Bool.and_comm]
      exact congrArg (· && x.testBit i) (decide_eq_decide.mpr (by omega))
    · simp [hi']
  have hclear : x - fieldOf x hi lo * 2 ^ lo = withField x hi lo 0 := by
    unfold withField
    rw [Nat.zero_mod, Nat.zero_mul, Nat.add_zero]
  rw [hfield, hclear]
  refine Nat.eq_of_testBit_eq fun i => ?_
  rw [Nat.testBit_and, hmask, testBit_withField x 0 h]
  by_cases hin : lo ≤ i ∧ i ≤ hi
  · rw [if_pos hin, Nat.zero_testBit, Bool.false_and, Nat.zero_testBit]
  · rw [decide_eq_false hin, Bool.and_false, Nat.zero_testBit]

/-- At most one field of a page counts since ERR_CLEAR; it is not of the header, and resets to 0. -/
theorem sinceClear_cases (p : Nat) : sinceClear p = [] ∨ ∃ a hi lo, lo ≤ hi ∧ sinceClear p = [(a, (2 ^ (hi + 1 - lo) - 1) * 2 ^ lo)] ∧
    0x100 ≤ offOf a ∧ (regReset a).toNat &&& (2 ^ (hi + 1 - lo) - 1) * 2 ^ lo = 0 := by
  unfold sinceClear
  split
  · exact .inr ⟨R.CLK_START_MAX, 31, 0, by decide, rfl, by decide, by decide +kernel⟩
  · exact .inr ⟨R.TIME_TS_ERR_MAX, 31, 0, by decide, rfl, by decide, by decide +kernel⟩
  · exact .inr ⟨R.HOST_ACCEPT_MAX, 31, 0, by decide, rfl, by decide, by decide +kernel⟩
  · exact .inr ⟨R.SHEPHERD_CYCLE_NS, 27, 16, by decide, rfl, by decide, by decide +kernel⟩
  · exact .inr ⟨R.DROVER_DEMAND, 27, 16, by decide, rfl, by decide, by decide +kernel⟩
  · exact .inl rfl

/-- The fields of a page that count since ERR_CLEAR, reset. -/
def State.recount (s : State) (p : Nat) : State := (sinceClear p).foldl (fun s r => s.resetField r.1 r.2) s

theorem recount_acts (s : State) (p : Nat) : Only 1 s (s.recount p) ∧ RegsOff ((sinceClear p).map (·.1)) s (s.recount p) ∧
    (∀ r ∈ sinceClear p, 0x100 ≤ offOf r.1 ∧ Nat.land ((s.recount p).rd r.1) r.2 = Nat.land (regReset r.1).toNat r.2) := by
  unfold State.recount
  rcases sinceClear_cases p with hnone | ⟨a, hi, lo, hle, hone, hoff, hreset⟩
  · rw [hnone]
    exact ⟨only_refl _ s, regsOff_refl _ s, fun _ hm => nomatch hm⟩
  · rw [hone]
    generalize hm : (2 ^ (hi + 1 - lo) - 1) * 2 ^ lo = m at hreset ⊢
    have hand : (s.rd a - (s.rd a &&& m)) &&& m = 0 := hm ▸ and_sub_field (s.rd a) hle
    refine ⟨only_wr _ _ rfl (only_refl _ s), regsOff_wr _ _ (List.mem_singleton_self a) (regsOff_refl _ s), List.forall_mem_singleton.mpr ⟨hoff, ?_⟩⟩
    have hrd : (s.resetField a m).rd a = s.rd a - (s.rd a &&& m) := by
      refine (rd_wr_same _ _ ?_).trans ?_
      all_goals rw [show Nat.land (regReset a).toNat m = 0 from hreset, Nat.add_zero]
      · exact Nat.lt_of_le_of_lt (Nat.sub_le _ _) (rd_lt a)
      · rfl
    exact (congrArg (Nat.land · m) hrd).trans (hand.trans hreset.symm)

/-- The state with the least slack seen forgotten, of the page that holds it. -/
def State.slackForgot (s : State) (p : Nat) : State := if p = 17 then { s with flink := { s.flink with slack := none } } else s

theorem slackForgot_eq (s : State) (p : Nat) :
    s.slackForgot p = { s with flink := if p = 17 then { s.flink with slack := none } else s.flink } := by
  unfold State.slackForgot
  split <;> rfl

theorem clearErr_eq (s : State) (p : Nat) : s.clearErr p =
    State.traced p (s.slackForgot p) (State.recount (((s.slackForgot p).wr (p * 0x1000 + 0x1C) 0).wr (p * 0x1000 + 0x20) 0) p) := rfl

theorem clearErr_acts (s : State) (p : Nat) :
    s.clearErr p = { s with regs := (s.clearErr p).regs, trace := (s.clearErr p).trace, flink := if p = 17 then { s.flink with slack := none } else s.flink } ∧
    (s.clearErr p).rd (p * 0x1000 + 0x1C) = 0 ∧ (s.clearErr p).rd (p * 0x1000 + 0x20) = 0 ∧
    (∀ r ∈ sinceClear p, Nat.land ((s.clearErr p).rd r.1) r.2 = Nat.land (regReset r.1).toNat r.2) ∧
    RegsOff ([p * 0x1000 + 0x1C, p * 0x1000 + 0x20] ++ (sinceClear p).map (·.1)) s (s.clearErr p) := by
  have hforgot := slackForgot_eq s p
  rw [clearErr_eq]
  generalize s.slackForgot p = u at hforgot ⊢
  obtain ⟨honly, hregs, hcount⟩ := recount_acts ((u.wr (p * 0x1000 + 0x1C) 0).wr (p * 0x1000 + 0x20) 0) p
  generalize hv : State.recount _ p = v at honly hregs hcount ⊢
  have hhead : ∀ k : Nat, k < 0x100 → v.rd (p * 0x1000 + k) = ((u.wr (p * 0x1000 + 0x1C) 0).wr (p * 0x1000 + 0x20) 0).rd (p * 0x1000 + k) := by
    intro k hk
    refine hregs _ fun hm => ?_
    obtain ⟨r, hr, he⟩ := List.mem_map.mp hm
    have hoff := (hcount r hr).1
    rw [show r.1 = p * 0x1000 + k from he, offOf_page p k (by omega)] at hoff
    omega
  have hne : p * 0x1000 + 0x20 ≠ p * 0x1000 + 0x1C := fun he => absurd (Nat.add_left_cancel he) (by decide)
  have hfirst : v.rd (p * 0x1000 + 0x1C) = 0 := (hhead _ (by decide)).trans ((rd_wr_other 0 hne).trans (rd_wr_same _ 0 (by decide)))
  have hsecond : v.rd (p * 0x1000 + 0x20) = 0 := (hhead _ (by decide)).trans (rd_wr_same _ 0 (by decide))
  have hoffs : RegsOff ([p * 0x1000 + 0x1C, p * 0x1000 + 0x20] ++ (sinceClear p).map (·.1)) s v := fun a ha => by
    rw [List.mem_append, not_or] at ha
    obtain ⟨hsum, hmap⟩ := ha
    have hwr : RegsOff [p * 0x1000 + 0x1C, p * 0x1000 + 0x20] u ((u.wr (p * 0x1000 + 0x1C) 0).wr (p * 0x1000 + 0x20) 0) :=
      regsOff_wr _ _ (by simp) (regsOff_wr _ _ (by simp) (regsOff_refl _ u))
    exact (hregs a hmap).trans ((hwr a hsum).trans (by rw [hforgot]; rfl))
  have hall : Only 4611686018427387905 u v := only_trans (only_wr _ _ rfl (only_wr _ _ rfl (only_refl _ u))) (only_mono rfl honly)
  have hshow : v = { u with regs := v.regs, trace := v.trace } := hall.eq_takes
  obtain ⟨x, hx⟩ := traced_eq p u v
  rw [hx]
  refine ⟨?_, hfirst, hsecond, fun r hr => (hcount r hr).2, hoffs⟩
  exact (congrArg (fun v => { v with trace := x }) hshow).trans (congrArg (fun u => { u with regs := v.regs, trace := x }) hforgot)

theorem errClear_acts (hp : p ≤ 28) (hok : s.permit o (p * 0x1000 + 0x24) v = .ok s) (hv : v % 2 = 1) :
    ∃ x, exec (.errClear o p v) s = .next (State.clearErr { s with trace := x } p) := by
  obtain ⟨x, hx⟩ := act_admitted hok (fun s => if v % 2 = 1 then s.clearErr p else s)
  refine ⟨x, ?_⟩
  change execErrClear o p v s = _
  unfold execErrClear State.errClearWrite
  rw [if_neg (by omega), hx]
  exact congrArg Host.Outcome.next (if_pos hv)

/-! ### IRQ_PEND (R620) -/

theorem newValue_pend (p : Nat) {old : Nat} (ho : old < 2 ^ 32) (v : Nat) : newValue (p * 0x1000 + 0x18) old v = old - (old &&& v) := by
  have hrows : rowsOf (p * 0x1000 + 0x18) = [⟨0x18, 0xFFFFFFFF, .w1c, 0, false⟩] := by
    unfold rowsOf
    rw [offOf_page p 0x18 (by decide)]
    rfl
  have hall : old &&& 0xFFFFFFFF = old := Nat.and_two_pow_sub_one_of_lt_two_pow ho
  unfold newValue
  rw [hrows]
  exact congrArg (fun x => old - (x &&& v)) hall

/-- The raw bits that a write of IRQ_PEND takes with it: those of event sources. -/
def eventBits (p raw v : Nat) : Nat := Nat.land raw (v - Nat.land v (conditionIrqs p))

/-- The state after a write of IRQ_PEND. -/
def State.pendCleared (s : State) (p v : Nat) : State :=
  (s.wr (p * 0x1000 + 0x18) (s.rd (p * 0x1000 + 0x18) - Nat.land (s.rd (p * 0x1000 + 0x18)) v)).wr (p * 0x1000 + 0x10)
    (s.rd (p * 0x1000 + 0x10) - eventBits p (s.rd (p * 0x1000 + 0x10)) v)

theorem irqPendClear_acts (hp : p ≤ 28) (hok : s.permit o (p * 0x1000 + 0x18) v = .ok s) :
    ∃ x, exec (.irqPendClear o p v) s = .next (State.pendCleared { s with trace := x } p v) := by
  obtain ⟨x, hx⟩ := act_admitted hok (fun s =>
    let s1 := s.wr (p * 0x1000 + 0x18) (newValue (p * 0x1000 + 0x18) (s.rd (p * 0x1000 + 0x18)) v)
    s1.wr (p * 0x1000 + 0x10) (s1.rd (p * 0x1000 + 0x10) - eventBits p (s1.rd (p * 0x1000 + 0x10)) v))
  refine ⟨x, ?_⟩
  change execIrqPendClear o p v s = _
  unfold execIrqPendClear State.irqPendWrite
  rw [if_neg (by omega)]
  refine congrArg Host.Outcome.next (hx.trans ?_)
  dsimp only
  rw [newValue_pend p (rd_lt _) v, rd_wr_other _ (fun he => absurd (Nat.add_left_cancel he) (by decide))]
  rfl

theorem pendCleared_acts (s : State) (p v : Nat) :
    (s.pendCleared p v).rd (p * 0x1000 + 0x18) = s.rd (p * 0x1000 + 0x18) - Nat.land (s.rd (p * 0x1000 + 0x18)) v ∧
    (s.pendCleared p v).rd (p * 0x1000 + 0x10) = s.rd (p * 0x1000 + 0x10) - eventBits p (s.rd (p * 0x1000 + 0x10)) v ∧
    RegsOff [p * 0x1000 + 0x18, p * 0x1000 + 0x10] s (s.pendCleared p v) := by
  have hne : p * 0x1000 + 0x10 ≠ p * 0x1000 + 0x18 := fun he => absurd (Nat.add_left_cancel he) (by decide)
  refine ⟨?_, ?_, regsOff_wr _ _ (by simp) (regsOff_wr _ _ (by simp) (regsOff_refl _ s))⟩
  · exact (rd_wr_other _ hne).trans (rd_wr_same _ _ (Nat.lt_of_le_of_lt (Nat.sub_le _ _) (rd_lt _)))
  · exact rd_wr_same _ _ (Nat.lt_of_le_of_lt (Nat.sub_le _ _) (rd_lt _))

/-! ### LOCK (R560) -/

/-- The level of a page's lock, raised. -/
def State.raiseLock (s : State) (o : Origin) (p v : Nat) : State :=
  if v % 4 = 3 then s.refuse o (Code.REG_VALUE_RANGE p) (p * 0x1000 + 0x28) v
  else State.traced p s (s.wr (p * 0x1000 + 0x28) (max (s.rd (p * 0x1000 + 0x28)) (v % 4)))

theorem lock_acts (hp : p ≤ 28) (hok : s.permit o (p * 0x1000 + 0x28) v = .ok s) :
    ∃ x, exec (.lock o p v) s = .next (State.raiseLock { s with trace := x } o p v) := by
  obtain ⟨x, hx⟩ := act_admitted hok (fun s => s.raiseLock o p v)
  have hlevel : fieldOf v 1 0 = v % 4 := by
    unfold fieldOf
    rfl
  refine ⟨x, ?_⟩
  change execLock o p v s = _
  unfold execLock State.lockWrite
  rw [if_neg (by omega), hlevel]
  exact congrArg Host.Outcome.next hx

theorem lock_rises (s : State) (o : Origin) (p : Nat) (hv : v % 4 ≠ 3) :
    s.raiseLock o p v = { s with regs := (s.raiseLock o p v).regs, trace := (s.raiseLock o p v).trace } ∧
    (s.raiseLock o p v).rd (p * 0x1000 + 0x28) = max (s.rd (p * 0x1000 + 0x28)) (v % 4) ∧ RegsOff [p * 0x1000 + 0x28] s (s.raiseLock o p v) := by
  have hlt : max (s.rd (p * 0x1000 + 0x28)) (v % 4) < 2 ^ 32 := by
    have := rd_lt (s := s) (p * 0x1000 + 0x28)
    omega
  obtain ⟨x, hx⟩ := traced_eq p s (s.wr (p * 0x1000 + 0x28) (max (s.rd (p * 0x1000 + 0x28)) (v % 4)))
  rw [show s.raiseLock o p v = _ from if_neg hv, hx]
  exact ⟨rfl, rd_wr_same _ _ hlt, regsOff_wr _ _ (List.mem_singleton_self _) (regsOff_refl _ s)⟩

theorem lock_refused (s : State) (o : Origin) (p : Nat) (hv : v % 4 = 3) (hlog : 256 < s.logFree) :
    (s.raiseLock o p v).rd (p * 0x1000 + 0x28) = s.rd (p * 0x1000 + 0x28) ∧ (s.raiseLock o p v).newest (Code.REG_VALUE_RANGE p) 7 6 p 0x28 v := by
  have hnoted : Noted s (s.refuse o (Code.REG_VALUE_RANGE p) (p * 0x1000 + 0x28) v) _ := noted_record rfl hlog
  have hnew := hnoted.newest
  dsimp only at hnew
  rw [pageOf_page p (by decide), offOf_page p 0x28 (by decide)] at hnew
  rw [show s.raiseLock o p v = _ from if_pos hv]
  exact ⟨hnoted.regs _ (head_not_recorded _ p (.inr rfl)), hnew⟩

end

/-! ### Pins (R662) -/

section
variable {s : State} {pin : Nat} {rising : Bool}

/-- The levels of the pins after an edge. -/
def State.pinsAfter (s : State) (pin : Nat) (rising : Bool) : Nat := if rising then s.gpioHigh + 2 ^ pin else s.gpioHigh - 2 ^ pin

/-- An edge sets the one bit of its pin. -/
theorem pinsAfter_eq (h : s.gpioHigh.testBit pin ≠ rising) : s.pinsAfter pin rising = withField s.gpioHigh pin pin rising.toNat := by
  unfold State.pinsAfter withField
  rw [fieldOf_bit, Nat.add_sub_cancel_left]
  cases rising with
  | true =>
    rw [Bool.eq_false_of_not_eq_true h]
    simp
  | false =>
    rw [Bool.eq_true_of_not_eq_false h]
    simp

theorem testBit_pinsAfter (h : s.gpioHigh.testBit pin ≠ rising) (n : Nat) :
    (s.pinsAfter pin rising).testBit n = if n = pin then rising else s.gpioHigh.testBit n := by
  rw [pinsAfter_eq h, testBit_withField _ _ (Nat.le_refl pin)]
  by_cases hn : n = pin
  · rw [if_pos (by omega), if_pos hn, hn, Nat.sub_self]
    cases rising <;> rfl
  · rw [if_neg (by omega), if_neg hn]

theorem pinEvent_acts (s : State) (hpin : pin ≤ 7) : (s.pinEvent pin).rd R.GPIO_EVT_PIN = pin ∧ (s.pinEvent pin).rd R.GPIO_EVT_SEC = s.clock.sec % 2 ^ 32 ∧
    (s.pinEvent pin).rd R.GPIO_EVT_NSEC = s.nsec % 2 ^ 32 ∧ (s.pinEvent pin).fld 0x1C010 pin pin = 1 ∧ Only 73786976294838206465 s (s.pinEvent pin) := by
  have hfar : ∀ {a : RegAddr}, ¬ offOf a < 0x100 → (s.pinEvent pin).rd a =
      (((s.wr R.GPIO_EVT_PIN pin).wr R.GPIO_EVT_SEC (s.clock.sec % 2 ^ 32)).wr R.GPIO_EVT_NSEC s.nsec).rd a := fun ha => rd_raiseIrq_far _ 28 pin ha
  refine ⟨?_, ?_, ?_, raiseIrq_sets _ 28 (by omega), only_raiseIrq _ _ rfl (only_wr _ _ rfl (only_wr _ _ rfl (only_wr _ _ rfl (only_refl _ s))))⟩
  · exact (hfar (by decide)).trans ((rd_wr_other _ (by decide)).trans ((rd_wr_other _ (by decide)).trans (rd_wr_same _ _ (by omega))))
  · exact (hfar (by decide)).trans ((rd_wr_other _ (by decide)).trans (rd_wr_same _ _ (Nat.mod_lt _ (by decide))))
  · exact (hfar (by decide)).trans ((rd_wr _ _ _).trans (if_pos rfl))

/-- An edge of the pin is an event. -/
def State.pinEvents (s : State) (pin : Nat) (rising : Bool) : Bool :=
  s.booted && s.power != .night && s.enabled 28 && s.pinFunc pin == 3 &&
    s.fld R.GPIO_EDGE (if rising then pin else pin + 8) (if rising then pin else pin + 8) == 1

theorem gpioEvent_eq (hpin : pin ≤ 7) (h : s.gpioHigh.testBit pin ≠ rising) : exec (.gpioEvent pin rising) s =
    .next (if s.pinEvents pin rising then State.pinEvent { s with gpioHigh := s.pinsAfter pin rising } pin
      else { s with gpioHigh := s.pinsAfter pin rising }) := by
  have hcond : ((s.booted && decide (s.power ≠ .night)) = true ∧ s.enabled 28 = true ∧ s.pinFunc pin = 3 ∧
      s.fld R.GPIO_EDGE (if rising then pin else pin + 8) (if rising then pin else pin + 8) = 1) ↔ s.pinEvents pin rising = true := by
    simp only [State.pinEvents, Bool.and_eq_true, beq_iff_eq, bne_iff_ne, decide_eq_true_eq, and_assoc]
  change execGpioEvent pin rising s = _
  unfold execGpioEvent
  rw [if_neg (fun hn => hn.elim (by omega) h)]
  exact congrArg Host.Outcome.next (if_congr hcond rfl rfl)

theorem gpioEvent_acts (hpin : pin ≤ 7) (h : s.gpioHigh.testBit pin ≠ rising) :
    ∃ t, exec (.gpioEvent pin rising) s = .next t ∧ t = { s with regs := t.regs, gpioHigh := t.gpioHigh, out := t.out } ∧
      t.gpioHigh = s.pinsAfter pin rising ∧
      (s.pinEvents pin rising = true → t.rd R.GPIO_EVT_PIN = pin ∧ t.rd R.GPIO_EVT_SEC = s.clock.sec % 2 ^ 32 ∧ t.rd R.GPIO_EVT_NSEC = s.nsec % 2 ^ 32 ∧
        t.fld 0x1C010 pin pin = 1) ∧
      (s.pinEvents pin rising = false → t.regs = s.regs ∧ t.out = s.out) := by
  refine ⟨_, gpioEvent_eq hpin h, ?_⟩
  cases he : s.pinEvents pin rising with
  | false =>
    rw [if_neg Bool.false_ne_true]
    exact ⟨rfl, rfl, fun hn => absurd hn Bool.false_ne_true, fun _ => ⟨rfl, rfl⟩⟩
  | true =>
    rw [if_pos rfl]
    obtain ⟨hnum, hsec, hns, hirq, honly⟩ := pinEvent_acts { s with gpioHigh := s.pinsAfter pin rising } hpin
    generalize State.pinEvent { s with gpioHigh := s.pinsAfter pin rising } pin = t at hnum hsec hns hirq honly ⊢
    have hshow : t = { s with regs := t.regs, gpioHigh := s.pinsAfter pin rising, out := t.out } := honly.eq_takes
    have hlevel : t.gpioHigh = s.pinsAfter pin rising := congrArg State.gpioHigh hshow
    exact ⟨by rw [hlevel]; exact hshow, hlevel, fun _ => ⟨hnum, hsec, hns, hirq⟩, fun hn => absurd hn.symm Bool.false_ne_true⟩

end

/-! ### The board controller (R658, R659) -/

theorem i3cReads {s : State} (h : s.power ≠ .night) :
    exec .i3cStatus s = .next { s with out := .i3c [BitVec.ofNat 8 s.i3cByte] :: s.out } ∧
    exec .i3cHottest s = .next { s with out := .i3c (leBytes 2 (s.fld R.THERM_HOTTEST 15 0)) :: s.out } ∧
    exec .i3cSupply s = .next { s with out := .i3c [BitVec.ofNat 8 s.rails] :: s.out } := ⟨if_neg h, if_neg h, if_neg h⟩

theorem i3cWake_wakes {s : State} (hdusk : s.power = .dusk) (hphase : s.phase = 0) (hboot : s.booted = true) (hfatal : s.fatal = 0)
    (hnight : s.nightReady = false) : ∃ t, exec (.i3cWake 0xA5) s = .next t ∧ t = { s with regs := t.regs, phase := 3 } ∧
      t.fld R.CLK_POWER_STATE 18 16 = 2 ∧ t.fld R.SYS_POWER_REQ 1 0 = 0 := by
  obtain ⟨honly, hph, hcause, hreq⟩ := wake_starts (cause := 2) (by decide) hfatal hboot hnight hdusk hphase
  refine ⟨_, if_neg (by simp [hdusk]), ?_, hcause, hreq⟩
  generalize s.wake 2 = t at honly hph ⊢
  have hshow : t = { s with regs := t.regs, phase := t.phase } := honly.eq_takes
  rw [hph] at hshow
  exact hshow

/-- Settles O59: the action registers of a page's header, the pins, and what the board controller reads and wakes. -/
theorem headersAndBoardAct : Obligations.HeadersAndBoardAct := by
  refine ⟨fun o p v s hp hv => ⟨fun hok hset => ?_, fun hok => ?_, fun hok => ⟨fun hlevel => ?_, fun hlevel hlog => ?_⟩⟩,
    fun pin rising s hpin hedge => ?_, fun s => i3cReads, fun s => i3cWake_wakes⟩
  · obtain ⟨x, hx⟩ := errClear_acts hp hok hset
    exact ⟨_, hx, clearErr_acts { s with trace := x } p⟩
  · obtain ⟨x, hx⟩ := irqPendClear_acts hp hok
    exact ⟨_, hx, rfl, pendCleared_acts { s with trace := x } p v⟩
  · obtain ⟨x, hx⟩ := lock_acts hp hok
    exact ⟨_, hx, lock_rises { s with trace := x } o p hlevel⟩
  · obtain ⟨x, hx⟩ := lock_acts hp hok
    exact ⟨_, hx, lock_refused { s with trace := x } o p hlevel hlog⟩
  · obtain ⟨t, ht, hshow, hlevel, hevent, hquiet⟩ := gpioEvent_acts hpin hedge
    have hbit : ∀ n, t.gpioHigh.testBit n = if n = pin then rising else s.gpioHigh.testBit n := fun n => hlevel ▸ testBit_pinsAfter hedge n
    exact ⟨t, ht, hshow, (hbit pin).trans (if_pos rfl), fun n hn => (hbit n).trans (if_neg hn), hevent, hquiet⟩

end Sys2Proof.Machine
end
